-- ==== Sys2Proof/Word.lean ====
section
/-! DEFINITION. Word.lean: the word types of the device. A register is 32 bits wide (R2); memory is counted in bytes. -/

namespace Sys2Proof

/-- A register value (R2). -/
abbrev Word := BitVec 32

/-- One byte of SRAM or DRAM. -/
abbrev Byte := BitVec 8

/-- The place of a field in a register: the register's BAR0 offset, its lowest bit and its width. -/
structure Field where
  reg : Nat
  lo : Nat
  w : Nat
  deriving DecidableEq, Repr

end Sys2Proof
end

