-- ==== Sys2Proof/Syntax.lean ====
section
/-! DEFINITION. Syntax.lean: the commands of the block, one constructor per row of spec/opcode_table.json, with the
operands each needs, and the types of those operands. -/

namespace Sys2Proof

/-- The four paths by which registers are accessed (R10): BAR0 from the host, SMBus, the test access port, and remote
access under R316. -/
inductive Path where | bar0 | smbus | tap | remote
  deriving DecidableEq, Repr

/-- An Announce message's data set (R62): the fields that best time-transmitter selection compares, and the sender. -/
structure Announce where
  prio1 : Nat
  clockClass : Nat
  accuracy : Nat
  variance : Nat
  prio2 : Nat
  identity : Nat
  steps : Nat
  sender : Nat
  deriving DecidableEq, Repr

/-- What a PTP message carries in its headers (R62): its domain, whether it came over UDP/IPv4 or over IEEE 802.3, its sender and
its sequence number. -/
structure PtpMsg where
  domain : Byte
  udp : Bool
  sender : Nat
  seq : BitVec 16
  deriving DecidableEq, Repr

/-- An IRIG time-code frame (R66): its format number (4 for B004), whether its markers are in place, and its BCD fields
(two digits each in 8 bits, the day of the year three digits in 12 bits). -/
structure TimeCode where
  format : Nat
  markers : Bool
  sec : BitVec 8
  min : BitVec 8
  hour : BitVec 8
  day : BitVec 12
  year : BitVec 8
  deriving DecidableEq, Repr

/-- A port that plays segments: an RF port (0 to 31 DRV, 32 to 47 PRB) or a flux port (R179). -/
inductive PlayPort where | rf (p : Fin 48) | flux (f : Fin 128)
  deriving DecidableEq, Repr

/-- What reaches a bobbin in a tick (R320 to R322): the raw samples of its ACQ port; the frame of its channels' or tones' samples; the sample
of channel or tone `i`; the decision of readout channel `r` that was formed in the tick before; the strand events visible in the tick;
or the first record of its queue, written with no new record. -/
inductive BobInput where
  | raw
  | frame
  | sample (i : Fin 16384)
  | decision (r : Fin 256)
  | strands
  | queued
  deriving DecidableEq, Repr

/-- What the check bits of a word show at a read (R351, R352). -/
inductive Ecc where | ok | corrected | bad
  deriving DecidableEq, Repr

/-- The reader whose SRAM word is uncorrectable (R352). -/
inductive SramReader where
  | fetch (n : Fin 64) | stream (t : Fin 640) | window (r : Fin 256) | table (t : Fin 16) | spill (b : Fin 32)
  | launch (slot : Fin 16) | job (l : Fin 8) | host | scrub
  deriving DecidableEq, Repr

/-- The reader whose DRAM word is uncorrectable (R359). -/
inductive DramReader where
  | refill (r : Fin 64) | job (l : Fin 8) | rdma | host | scrub
  deriving DecidableEq, Repr
/-- An access of memory: a read of some bytes, or a write (none: a byte not enabled). -/
inductive MemAccess where
  | read (len : Nat)
  | write (bytes : List (Option Byte))
  deriving DecidableEq, Repr

/-- How the host's side of a DMA transfer ended: in full, aborted, or with poisoned data (R392). -/
inductive HostEnd where | ok | abort | poison
  deriving DecidableEq, Repr

/-- What MONITOR_BREACH tells of: both comparators of a threshold (LO or HI) of a monitor, with the consecutive SUPCK samples on which
they have shown the breach (R456); a marker or trigger ball that is high; an RF termination or FLX output switch that does not read back
inert (R446). -/
inductive Breach where
  | level (m : Fin 240) (lo : Bool) (samples : Nat) | outputHigh (o : Fin 48) | switchNotInert (m : Fin 176)
  deriving DecidableEq, Repr

/-- What the items of a self-test pass found (R468): the two copies disagreed; readbacks of threshold DACs in LSB, by monitor and DAC (0 HI,
1 LO, 2 slew); of each comparator by monitor and number, after how many ns under its test offset it showed a breach and how long the breach
persisted after the offset's removal; the readings of input 511 by the two ADCs, check after check; the states read back from the permit
detectors; the reading of the reference resistor in parts of 10,000 of its fused value. -/
structure SelfTest where
  copies : Bool
  dacs : List (Fin 240 × Fin 3 × Int)
  cmps : List (Fin 240 × Fin 4 × Nat × Nat)
  cross : List (Int × Int)
  detectors : List Bool
  reference : Nat
  deriving DecidableEq, Repr


/-- The commands. Each constructor's text gives the row's mnemonic and rule, what it stands for, and its operands. -/
inductive Instr where
  /-- REGISTER_WRITE (R6): A host or other-path write to a register field that has no row of its own, applied per access type, with RWL refusal, write-refused indication and taint. -/
  | registerWrite (path : Path) (off : BitVec 26) (v : Word)
  /-- BAR0_BAD_ACCESS (R3): A BAR0 access of other size or alignment completes as Unsupported Request with no effect. -/
  | bar0BadAccess
  /-- LO_READ_CAPTURE (R10): A read of a _LO register returns the low word and captures the matching _HI word into the path's holding copy. -/
  | loReadCapture (path : Path) (off : BitVec 26)
  /-- HI_READ (R11): A read of a _HI register returns and releases the held copy, or the live high word when none is held. -/
  | hiRead (path : Path) (off : BitVec 26)
  /-- LO_WRITE_HOLD (R12): A write to a writable _LO register is held per access path until the matching _HI write. -/
  | loWriteHold (path : Path) (off : BitVec 26) (v : Word)
  /-- HI_WRITE_COMMIT (R12): A write to a _HI register makes the full 64-bit value with the held _LO take effect, judged as one write under R7. -/
  | hiWriteCommit (path : Path) (off : BitVec 26) (v : Word)
  /-- REQ_NONE (R537): GLB_MODE_CTL write with REQ = 0 and RUN = 0 changes no mode and reports Completed, or BUSY. -/
  | reqNone (path : Path) (key : Byte)
  /-- REQ_LOAD (R34): Mode request LOAD takes the device from M0 to M1 when the lifecycle state accepts skeins. -/
  | reqLoad (path : Path) (key : Byte)
  /-- REQ_CALIBRATE (R34): Mode request CALIBRATE takes the device from M2 or M4 to M3 for converter calibration. -/
  | reqCalibrate (path : Path) (key : Byte)
  /-- REQ_ARM (R35): Mode request ARM enters M3 with ARM pending, waiting for CAL_DONE and REEL_LOCK. -/
  | reqArm (path : Path) (key : Byte)
  /-- REQ_STOP (R41): Mode request STOP acts on every spindle as a non-restarting preemption. -/
  | reqStop (path : Path) (key : Byte)
  /-- REQ_DORMANT (R495): Mode request DORMANT takes the device from M3 or M4 to M2 at the DORMANT level the tolerance allows. -/
  | reqDormant (path : Path) (key : Byte)
  /-- REQ_UNLOAD (R39): Mode request UNLOAD takes the device to M0 and clears its configuration. -/
  | reqUnload (path : Path) (key : Byte)
  /-- REQ_CLEAR_SAFE (R452): Mode request CLEAR_SAFE leaves M7 for M2 or M0 when no trip cause is active and ramping is done. -/
  | reqClearSafe (path : Path) (key : Byte)
  /-- RUN (R425): GLB_MODE_CTL.RUN in M4 starts the consistency check and blocks most writes until it ends. -/
  | run (path : Path) (req : Fin 16) (key : Byte)
  /-- CHECK_END (R426): The consistency check ends, entering M5 in the next tick when no rule refuses, or staying in M4 with a reason code. -/
  | checkEnd
  /-- CONFIG_CLEAR_DONE (R39): The clearing of SRAM regions and skein-nameable registers on entry to M0 completes and MODE reads M0. -/
  | configClearDone
  /-- ARM_COMPLETE (R35): The device enters M4 in the first tick in which CAL_DONE and REEL_LOCK are both 1 with ARM pending. -/
  | armComplete
  /-- CALIBRATION_START (R519): Converter calibration starts in M3 in the first tick with PLL_LOCK and SYNC_DONE, or SYNC_ALIGNED in a slave. -/
  | calibrationStart
  /-- CALIBRATION_DONE (R36): Calibration completes and sets CAL_DONE. -/
  | calibrationDone
  /-- M6_ENTRY (R536): The device enters M6 from M4 or M5 in the tick after REEL_LOCK falls and spindles act under the holdover policy. -/
  | m6Entry
  /-- M6_EXIT (R536): The device leaves M6 for M5 or M4 in the tick after REEL_LOCK rises again. -/
  | m6Exit
  /-- STOP_COMPLETE (R42): After a STOP the last routine has ended and its segments have left the DAC, so M5 enters M4 or spindles count as stopped in M6. -/
  | stopComplete
  /-- STOP_TIMEOUT (R42): 10 µs after STOP the device enters M4 and still-playing segments are cut. -/
  | stopTimeout
  /-- BIAS_RAMP_TRANSITION (R170): A mode change from M4 waiting for bias sources completes in the tick after the last source reaches 0. -/
  | biasRampTransition
  /-- SYNC_WRITE (R22): GLB_CLK_CTL.SYNC applies SYNC in M2, M3 or M7, or is discarded with SYNC_REFUSED. -/
  | syncWrite (path : Path) (v : Word)
  /-- SYNC_AUTO (R21): A standalone or master device applies SYNC on the first PLL lock after M1 or after a reference change. -/
  | syncAuto
  /-- REF_LOSS (R24): The selected reference disappears; the PLL tuning is frozen, REF_LOSS set and M4 or M5 enters M6. -/
  | refLoss (src : Fin 8)
  /-- PLL_UNLOCK (R25): The PLL loses lock in M3 to M6 and the reel is treated as invalid. -/
  | pllUnlock
  /-- REF_SRC_WRITE (R539): A write of GLB_CLK_CTL.REF_SRC changes the reference and relocks the PLL, or refuses a reserved value. -/
  | refSrcWrite (path : Path) (v : Word)
  /-- PLL_LOCK (R518): The PLL locks to its selected reference within 5 ms. -/
  | pllLock
  /-- REEL_ADVANCE (R52): In each tick the running reel adds 2 ns plus ADJ. -/
  | reelAdvance
  /-- PTP_SYNC_RX (R64): A valid PTP Sync arrives and yields one offset measurement for its port. `t1` in 2^-8 ns, which counts in one-step operation only; the cycle of CK_S within the tick in which the Sync is stamped. -/
  | ptpSyncRx (p : Fin 2) (m : PtpMsg) (twoStep : Bool) (t1 : Int) (cyc : Fin 32)
  /-- PTP_FOLLOW_UP_RX (R64): A Follow_Up completes a two-step Sync. Stamp in 2^-8 ns. -/
  | ptpFollowUpRx (p : Fin 2) (m : PtpMsg) (t1 : Int)
  /-- PTP_DELAY_REQ_TX (R62): A port sends Delay_Req at its configured interval. The cycle of CK_S within the tick in which it is stamped. -/
  | ptpDelayReqTx (p : Fin 2) (cyc : Fin 32)
  /-- PTP_DELAY_RESP_RX (R64): A Delay_Resp completes an exchange and updates mean path delay and qualification count. Stamp in 2^-8 ns. -/
  | ptpDelayRespRx (p : Fin 2) (m : PtpMsg) (t4 : Int)
  /-- PTP_ANNOUNCE_RX (R62): An Announce is taken into best time-transmitter selection. -/
  | ptpAnnounceRx (p : Fin 2) (m : PtpMsg) (a : Announce)
  /-- PTP_RX_DROP (R62): A received frame that is not PTP of the configured domain and transport is discarded and counted. -/
  | ptpRxDrop (p : Fin 2)
  /-- PTP_SYNC_TIMEOUT (R65): No valid Sync for four intervals loses the port. -/
  | ptpSyncTimeout (p : Fin 2)
  /-- PTP_ANNOUNCE_TIMEOUT (R65): The Announce receipt timeout loses the port. -/
  | ptpAnnounceTimeout (p : Fin 2)
  /-- EXT_PHASE_COMPARE (R67): Every 1 µs the reel phase is compared with REF10M as one servo measurement. `periods` counts REF10M periods since the last PPS edge; the REF10M edge lies `pos` × 2^-8 ns after the start of the tick. -/
  | extPhaseCompare (periods : Nat) (pos : Fin 512)
  /-- PPS_EDGE (R67): A PPS_IN rising edge is checked against REF10M and, labelled by the time code, qualifies the EXT source. `periods` counts REF10M periods since the edge before; the edge lies `pos` × 2^-8 ns after the start of the tick. -/
  | ppsEdge (periods : Nat) (pos : Fin 512)
  /-- TCODE_FRAME (R66): An IRIG B time-code frame is decoded, or flagged as TCODE_ERR. -/
  | tcodeFrame (f : TimeCode)
  /-- REF10M_LOSS (R68): REF10M shows no edge for 500 ns and the EXT source is lost. -/
  | ref10mLoss
  /-- PPS_LOSS (R68): PPS_IN shows no edge for 1.1 s and the EXT source is lost. -/
  | ppsLoss
  /-- ACCEPT_SLEW_OUT (R74): TLN_CMD.ACCEPT = SLEW_OUT lifts the refusal and slews the stored offset out. -/
  | acceptSlewOut (path : Path)
  /-- ACCEPT_STEP_FWD (R74): TLN_CMD.ACCEPT = STEP_FWD adds a positive stored offset to the reel when no spindle runs. -/
  | acceptStepFwd (path : Path)
  /-- HOLD_EXPIRED (R77): Under CONTINUE the holdover bound MAX expires and spindles stop. -/
  | holdExpired
  /-- LAUNCH_ARM (R86): A slot is armed for a time-triggered launch, or missed at once when too close. `v` is the value written to TLN_LAUNCH_CFG. -/
  | launchArm (path : Path) (slot : Fin 16) (v : Word)
  /-- LAUNCH (R85): An armed slot launches its frame at the first block boundary at or after its time. -/
  | launch (slot : Fin 16)
  /-- LAUNCH_MISS (R86): The reel passes an armed slot's time without launch and the slot is disarmed as missed. -/
  | launchMiss (slot : Fin 16)
  /-- OP_NOP (R95): A NOP word occupies one tick. -/
  | opNop (n : Fin 64)
  /-- OP_ALU (R98): An ALU word computes into gD and sets flags. -/
  | opAlu (n : Fin 64)
  /-- OP_LDLC (R99): LDLC loads a loop counter. -/
  | opLdlc (n : Fin 64)
  /-- OP_RDDEC (R100): RDDEC loads a readout channel's latest decision word. -/
  | opRddec (n : Fin 64)
  /-- OP_RDSIN (R100): RDSIN loads the strand-input latches into a register. -/
  | opRdsin (n : Fin 64)
  /-- OP_NCOP (R101): NCOP sets or adds to an NCO preset shadow. -/
  | opNcop (n : Fin 64)
  /-- OP_SETTB (R103): SETTB sets or advances TB. -/
  | opSettb (n : Fin 64)
  /-- OP_JMP (R104): JMP jumps to its target. -/
  | opJmp (n : Fin 64)
  /-- OP_BRS (R104): BRS branches on one strand-input latch. -/
  | opBrs (n : Fin 64)
  /-- OP_LOOP (R104): LOOP decrements a loop counter and branches while non-zero. -/
  | opLoop (n : Fin 64)
  /-- OP_WAITT (R105): WAITT starts a wait of a number of ticks. -/
  | opWaitt (n : Fin 64)
  /-- WAITT_DONE (R105): The tick count of a WAITT expires and the next word issues. -/
  | waittDone (n : Fin 64)
  /-- OP_WAITR (R106): WAITR computes a reel target and waits for it. -/
  | opWaitr (n : Fin 64)
  /-- WAITR_REACHED (R106): The reel reaches the WAITR target and the next word issues. -/
  | waitrReached (n : Fin 64)
  /-- OP_WTS (R108): WTS waits for selected strand-input latches with timeout. -/
  | opWts (n : Fin 64)
  /-- WTS_LATCH (R108): A selected latch ends the WTS wait and selects the next word. -/
  | wtsLatch (n : Fin 64)
  /-- WTS_TIMEOUT (R108): The WTS timeout expires and TGT_TO issues. -/
  | wtsTimeout (n : Fin 64)
  /-- OP_PLS (R110): PLS starts a segment on a drive channel, probe tone or FLX port. -/
  | opPls (n : Fin 64)
  /-- OP_JREQ (R183): JREQ requests a segment jump on a target. -/
  | opJreq (n : Fin 64)
  /-- OP_BIAS (R168): BIAS sets a BIA port's target. -/
  | opBias (n : Fin 64)
  /-- OP_MRK (R171): MRK pulses, sets or clears a marker output at the sub-tick delay. -/
  | opMrk (n : Fin 64)
  /-- OP_TRGO (R111): TRGO drives a TRG_OUT output tick-aligned. -/
  | opTrgo (n : Fin 64)
  /-- OUTPUT_PULSE_FALL (R172): A marker or trigger pulse falls WIDTH ticks after its latest rise. Markers are 0 to 15, triggers 16 to 47. -/
  | outputPulseFall (o : Fin 48)
  /-- OP_RWIN (R228): RWIN opens a readout window on a channel. -/
  | opRwin (n : Fin 64)
  /-- OP_STRO (R111): STRO emits an event on a strand output. -/
  | opStro (n : Fin 64)
  /-- OP_STG (R111): STG writes a register to a result mailbox. -/
  | opStg (n : Fin 64)
  /-- OP_IRQ (R111): IRQ raises the spindle's program interrupt with a code. -/
  | opIrq (n : Fin 64)
  /-- OP_CLRS (R111): CLRS clears selected strand-input latches. -/
  | opClrs (n : Fin 64)
  /-- OP_COMMIT (R116): COMMIT sets the committed state and loads CA. -/
  | opCommit (n : Fin 64)
  /-- OP_END (R122): END ends a routine and chooses the next word by NXT. -/
  | opEnd (n : Fin 64)
  /-- ILLEGAL (R95): A reserved or uncommitted output word reaches issue and the spindle enters ERROR. -/
  | illegal (n : Fin 64)
  /-- POST_OVF (R114): A post-commit part reaches 4,096 ticks without END and the spindle enters ERROR with S3. -/
  | postOvf (n : Fin 64)
  /-- VECTOR_RECOGNISED (R119): A pending vector is recognised and abandons an uncommitted routine or waits for END. -/
  | vectorRecognised (n : Fin 64) (v : Fin 8)
  /-- HOST_PREEMPT (R124): SPN_CMD.PREEMPT raises a host-sourced vector. `v` is the value written to SPN_CMD. -/
  | hostPreempt (path : Path) (n : Fin 64) (v : Word)
  /-- CSTORE_ECC_CORR (R125): A correctable control-store fetch is corrected and an uncommitted routine restarted. -/
  | cstoreEccCorr (n : Fin 64)
  /-- CSTORE_ECC_UNCORR (R127): An uncorrectable control-store fetch stops the spindle in ERROR. -/
  | cstoreEccUncorr (n : Fin 64)
  /-- HEARTBEAT_TOKEN (R131): Each enabled spindle sends a heartbeat token when the reel reaches a new microsecond. -/
  | heartbeatToken (n : Fin 64)
  /-- SCOUT_STEP (R133): The scout advances up to 4 words and reports predicted port uses. -/
  | scoutStep (n : Fin 64)
  /-- DBG_HALT (R136): SPN_DBG.HALT halts a spindle at a safe point. -/
  | dbgHalt (path : Path) (n : Fin 64)
  /-- DBG_STEP (R137): SPN_DBG.STEP executes one word, or a whole committed part. -/
  | dbgStep (path : Path) (n : Fin 64)
  /-- DBG_RESUME (R136): SPN_DBG.RESUME leaves the debug halt. -/
  | dbgResume (path : Path) (n : Fin 64)
  /-- FETCH_TICK (R179): Each tick a playing target's fetch point takes one tick of its segment into the synthesis path. -/
  | fetchTick (p : PlayPort)
  /-- UNDERRUN_STOP (R196): In the tick after an underrun the claiming spindle is stopped and a log record written. -/
  | underrunStop (t : Fin 640)
  /-- UNDERRUN_ZERO_END (R197): The forced zero ends after the spindle enters IDLE. -/
  | underrunZeroEnd (t : Fin 640)
  /-- UR_ACK (R198): STM_UR_HEAD.ACK acknowledges underrun records oldest first. `v` is the value written to STM_UR_HEAD. -/
  | urAck (path : Path) (v : Word)
  /-- SEGMENT_BOUNDARY (R180): A pass ends at the fetch point and the segment repeats, hands over to NEXT or ends. -/
  | segmentBoundary (t : Fin 640)
  /-- SEGMENT_END (R181): The last fetched tick of a segment leaves stage 10. -/
  | segmentEnd (t : Fin 640)
  /-- BIAS_UPDATE (R167): Every 5,000 ticks each BIA source moves toward its target by its slew. -/
  | biasUpdate
  /-- RV_RESTART (R192): STM_RV_CMD.RESTART restarts a stream not playing. `v` is the value written to STM_RV_CMD. -/
  | rvRestart (path : Path) (r : Fin 64) (v : Word)
  /-- REFILL_REQUEST (R191): The refill engine requests data when free ring space reaches its threshold. -/
  | refillRequest (r : Fin 64)
  /-- REFILL_COMPLETE (R193): A refill request completes and its bytes join the ring fill. `host` are the bytes the host's memory gave (a whole block where the source is compressed); `err` tells that the data did not come, or that a fetched word is uncorrectable. -/
  | refillComplete (r : Fin 64) (host : List Byte) (err : Bool)
  /-- FRONT_END_CHANGE_APPLY (R201): A front-end change takes effect at the next group boundary and marks samples. -/
  | frontEndChangeApply
  /-- ATT_WRITE (R204): A write of RDO_ACQ_ATT schedules an attenuator step. -/
  | attWrite (path : Path) (a : Fin 16) (v : Word)
  /-- CHANNEL_SAMPLE (R213): A channel sample leaves the channeliser at the end of each group. `adc` holds the 64 ADC codes of the group that ends, first one first (fewer stand for zeros after them). -/
  | channelSample (a : Fin 16) (adc : List (BitVec 12))
  /-- TONE_SAMPLE (R222): An array tone sample reaches the bobbins. -/
  | toneSample (a : Fin 16) (k : Fin 1024)
  /-- COMB_ON_WRITE (R224): COMB_ON changes at the next multiple of 16 envelope samples. `v` is the value written to RDO_ARR_CFG. -/
  | combOnWrite (path : Path) (a : Fin 16) (v : Word)
  /-- TONE_FC_WRITE (R225): A write of RDO_ARR_TONE_F or TONE_C in M4 to M6 is held. `c` tells RDO_ARR_TONE_C from RDO_ARR_TONE_F. -/
  | toneFcWrite (path : Path) (a : Fin 16) (k : Fin 1024) (c : Bool) (v : Word)
  /-- TONE_P_WRITE (R225): A write of RDO_ARR_TONE_P applies the held tone entry or refuses it. -/
  | tonePWrite (path : Path) (a : Fin 16) (k : Fin 1024) (v : Word)
  /-- TONE_APPLIED (R225): A tone entry takes effect at the next bin-sample boundary. -/
  | toneApplied (a : Fin 16) (k : Fin 1024)
  /-- RWIN_TAKE_UP (R229): Discrimination takes up an RWIN in the next tick and latches the window's settings. -/
  | rwinTakeUp (r : Fin 256)
  /-- EVALUATION (R242): An early-stop evaluation starts when its last window sample arrives. -/
  | evaluation (r : Fin 256)
  /-- DECISION_FORMED (R246): A decision is formed and loaded into the channel's registers and offered to the bobbins. -/
  | decisionFormed (r : Fin 256)
  /-- STRAND_EVENT (R257): An event emitted on a strand becomes visible at its consumer. -/
  | strandEvent (k : Fin 1024)
  /-- FAB_FORCE (R260): A FAB_FORCE write with CONTROL emits one strand event. `v` is the value written. -/
  | fabForce (path : Path) (v : Word)
  /-- PLY_EVAL (R264): Each tick a ply cell evaluates inputs, truth table, flip-flop, filter and output. -/
  | plyEval (n : Fin 512)
  /-- TRG_IN_EDGE (R268): A TRG_IN edge qualifies and emits an event, subject to rate limit. `level` is the sampled level that has qualified. -/
  | trgInEdge (k : Fin 16) (level : Bool)
  /-- TRG_IN_STUCK (R270): A TRG_IN active beyond its timeout is marked stuck. -/
  | trgInStuck (k : Fin 16)
  /-- TRG_IN_UNSTUCK (R270): A stuck TRG_IN inactive for MIN_PULSE + 1 ticks clears STUCK. -/
  | trgInUnstuck (k : Fin 16)
  /-- CT_TRIGGER (R274): A trigger starts a correction-table lookup with the syndrome as address. -/
  | ctTrigger (t : Fin 16)
  /-- CT_LOOKUP_DONE (R274): Six ticks later the table emits its mask bits and DONE. -/
  | ctLookupDone (t : Fin 16) (ecc : Ecc)
  /-- EXPORT_SLOT_EVENT (R276): An event marks an export slot pending, or is dropped by a disabled group. -/
  | exportSlotEvent (g : Fin 64) (b : Fin 16)
  /-- EXPORT_GATE_ENABLE (R277): An event at the ENABLE gate enables an export group. -/
  | exportGateEnable (g : Fin 64)
  /-- EXPORT_GATE_DISABLE (R277): An event at the DISABLE gate disables an export group, dropping pending slots. -/
  | exportGateDisable (g : Fin 64)
  /-- TW_TRAIN_START (R293): An enabled twist port starts training on entry to M3 or when DOWN. -/
  | twTrainStart (p : Fin 4)
  /-- TW_CDR_LOCK (R293): Lanes 0 and 1 lock clock recovery. -/
  | twCdrLock (p : Fin 4)
  /-- TW_ALIGN_DONE (R293): 64 consecutive valid frames align lanes 0 and 1. `lanes` tells the lanes that have aligned. -/
  | twAlignDone (p : Fin 4) (lanes : BitVec 4)
  /-- TW_IDENT (R286): The ends exchange and check ID, role, depth and generation. What the neighbour names. -/
  | twIdent (p : Fin 4) (id : BitVec 6) (role : BitVec 2) (depth : BitVec 6)
  /-- TW_MEASURE_DONE (R294): Round trips give the one-way flight time, or TOO_LONG. The round trips of lanes 0 and 1 and the turnaround times that the far end reports for them, in 1/16 ps. -/
  | twMeasureDone (p : Fin 4) (trip0 trip1 turn0 turn1 : Nat)
  /-- TW_LINK_UP (R293): Both ends SYNC-aligned, the port enters UP. The generation to which the far end is aligned. -/
  | twLinkUp (p : Fin 4) (gen : BitVec 8)
  /-- TW_TRAIN_FAIL (R293): A training state times out or fails and the port enters FAILED. -/
  | twTrainFail (p : Fin 4)
  /-- TW_RETRY (R293): 1 ms after FAILED the port retries training. -/
  | twRetry (p : Fin 4)
  /-- TW_RETRAIN (R293): CSC_TW_CMD.RETRAIN takes the port DOWN and retrains. `v` is the value written to CSC_TW_CMD. -/
  | twRetrain (path : Path) (p : Fin 4) (v : Word)
  /-- FRAME_LAUNCH (R305): Each tick an UP port launches the highest-priority frame on its duty lane. -/
  | frameLaunch (p : Fin 4)
  /-- FRAME_INVALID (R290): A received frame with bad SYNC or CRC is discarded and counted. The frame as it comes over the lane, and the 58 bits that came before it. -/
  | frameInvalid (p lane : Fin 4) (prev : BitVec 58) (frame : BitVec 64)
  /-- IDLE_RX (R291): An IDLE frame is received. `freed` counts on a bulk lane. -/
  | idleRx (p lane : Fin 4) (freed : Fin 16)
  /-- GROUP_RX (R307): A GROUP frame is released, imported and forwarded, or dropped. -/
  | groupRx (p lane : Fin 4) (slots : BitVec 16) (gid : BitVec 12) (hops : BitVec 6)
  /-- TIME_LO_RX (R300): A TIME_LO frame arrives on the upstream port. -/
  | timeLoRx (p lane : Fin 4) (ns : BitVec 42)
  /-- TIME_HI_RX (R300): A TIME_HI frame arrives on the upstream port. -/
  | timeHiRx (p lane : Fin 4) (ns : BitVec 22) (frac : BitVec 20)
  /-- STATE_RX (R300): A STATE frame completes a time sequence and yields a slave servo measurement. -/
  | stateRx (p lane : Fin 4) (master sender depth : BitVec 6) (gen : BitVec 8) (reel : BitVec 2) (valid : Bool) (mode : BitVec 3)
  /-- RATE_RX (R301): A RATE frame is forwarded downstream and scheduled for APPLY_T, or applied late. -/
  | rateRx (p lane : Fin 4) (adj : BitVec 24) (applyT : BitVec 18)
  /-- RATE_APPLY (R301): A rate change takes effect at its lead time or APPLY_T. -/
  | rateApply
  /-- RATE_REPEAT (R302): The master repeats its latest RATE frame every 1,000 ns. -/
  | rateRepeat
  /-- TIME_QUEUE (R299): At each new reel microsecond TIME_LO, TIME_HI and STATE are queued downstream. -/
  | timeQueue
  /-- SYNC_MARKER_QUEUE (R296): At epochs whose count is a multiple of 50 a SYNC marker pair is queued. -/
  | syncMarkerQueue (p : Fin 4)
  /-- SYNC_LO_RX (R297): A SYNC_LO marker frame arrives. `at_` is the instant of its release within the tick, in 1/16 ps. -/
  | syncLoRx (p lane : Fin 4) (count : BitVec 42) (at_ : Fin 32000)
  /-- SYNC_HI_RX (R297): A SYNC_HI completes a marker pair; a slave aligns or checks its epoch count. -/
  | syncHiRx (p lane : Fin 4) (count : BitVec 22) (gen : BitVec 8)
  /-- FRAME_RESERVED_TYPE (R291): A frame of reserved type is discarded and counted. -/
  | frameReservedType (p lane : Fin 4)
  /-- CASCADE_SRC_TIMEOUT (R303): No cascade measurement for 4 µs loses the source. -/
  | cascadeSrcTimeout
  /-- FAILOVER_RX (R310): A valid FAILOVER frame is received. -/
  | failoverRx (p lane : Fin 4)
  /-- DUTY_LANE_SWITCH (R310): At the next epoch start duty traffic moves to lane 1. -/
  | dutyLaneSwitch (p : Fin 4)
  /-- FAILOVER_TIMEOUT (R311): The failover interval ends without a measurement and the source is lost. -/
  | failoverTimeout (p : Fin 4)
  /-- BULK_REG_WR (R316): A remote REG_WR packet is routed or performed and answered. arrives on lane `lane` of TW[p], whose frames return `freed` buffers -/
  | bulkRegWr (p lane : Fin 4) (freed : Fin 16) (dest src : Fin 64) (tag : Byte) (space : Fin 4) (addr : BitVec 37) (be : Fin 16) (v : Word)
  /-- BULK_REG_RD (R316): A remote REG_RD packet is routed or performed and answered. -/
  | bulkRegRd (p lane : Fin 4) (freed : Fin 16) (dest src : Fin 64) (tag : Byte) (space : Fin 4) (addr : BitVec 37)
  /-- BULK_MEM_WR (R316): A remote MEM_WR packet is routed or written to memory and answered. -/
  | bulkMemWr (p lane : Fin 4) (freed : Fin 16) (dest src : Fin 64) (tag : Byte) (space : Fin 4) (addr : BitVec 37) (data : List (Word × Fin 16)) (ue : Bool)
  /-- BULK_CPL (R317): A completion packet arrives for a remote access or transfer. -/
  | bulkCpl (p lane : Fin 4) (freed : Fin 16) (dest src : Fin 64) (tag : Byte) (status : Fin 8) (data : Option Word)
  /-- BULK_ERR (R315): A bulk packet with an invalid frame or aborted by failover is discarded whole. -/
  | bulkErr (p lane : Fin 4)
  /-- RRA_WRITE (R316): CSC_RRA_CTL GO with READ = 0 sends one remote register write. -/
  | rraWrite (path : Path) (target : Fin 64)
  /-- RRA_READ (R316): CSC_RRA_CTL GO with READ = 1 sends one remote register read. -/
  | rraRead (path : Path) (target : Fin 64)
  /-- RRA_TIMEOUT (R316): A remote register access receives no completion within its timeout. -/
  | rraTimeout
  /-- RDMA_START (R317): CSC_RDMA_CTL GO starts a remote memory transfer. -/
  | rdmaStart (path : Path) (space : Fin 4) (target : Fin 64)
  /-- RDMA_TIMEOUT (R317): A remote transfer ends with error when its timeout expires. -/
  | rdmaTimeout
  /-- STRAP_CHG (R285): The CASC_MASTER ball changes from its sampled level. -/
  | strapChg (level : Bool)
  /-- BOB_ARM (R332): A write of BOB_ARM arms an IDLE or DONE bobbin. `v` is the value written. -/
  | bobArm (path : Path) (v : Word)
  /-- BOB_DISARM (R332): A write of BOB_DISARM aborts any capture and returns the bobbin to IDLE. -/
  | bobDisarm (path : Path) (v : Word)
  /-- BOB_FORCE (R333): A write of BOB_FORCE acts as trigger condition 4. -/
  | bobForce (path : Path) (v : Word)
  /-- BOB_RESET (R345): BOB_CMD.RESET clears data, directory and positions of an idle bobbin. `v` is the value written to BOB_CMD. -/
  | bobReset (path : Path) (b : Fin 32) (v : Word)
  /-- BOB_RD_WRITE (R328): A write of BOB_RD releases data, or is refused. The 64-bit value that R12 commits. -/
  | bobRdWrite (path : Path) (b : Fin 32) (v : BitVec 64)
  /-- BOB_DIR_ACK (R341): BOB_DIR_HEAD ACK acknowledges directory entries. `v` is the value written to BOB_DIR_HEAD. -/
  | bobDirAck (path : Path) (b : Fin 32) (v : Word)
  /-- BOB_ITEM (R320): An item reaches a bobbin and is kept as history or capture, tested for triggers and masks. -/
  | bobItem (b : Fin 32) (inp : BobInput)
  /-- BOB_AUTO_TIMEOUT (R333): No trigger within AUTO_TMO acts as condition 5. -/
  | bobAutoTimeout (b : Fin 32)
  /-- BOB_SPILL_REQUEST (R330): A bobbin issues a C1 spill write for 4 KiB of captured data. -/
  | bobSpillRequest (b : Fin 32)
  /-- BOB_SPILL_DONE (R330): A spill write completes. -/
  | bobSpillDone (b : Fin 32)
  /-- CAPTURE (R339): The directory entry of an ended capture is written. -/
  | capture (b : Fin 32)
  /-- BOB_REARM (R341): A bobbin re-arms after its entry, or leaves WAITING when space and entries are free. -/
  | bobRearm (b : Fin 32)
  /-- SRAM_CE (R351): An SRAM read finds a correctable error, corrects and writes it back. `off` is the SRAM offset of the word. -/
  | sramCe (off : Fin 0x4000000)
  /-- SRAM_UE (R352): An SRAM read finds an uncorrectable error with per-reader consequence. -/
  | sramUe (off : Fin 0x4000000) (rd : SramReader)
  /-- SCRUB_PASS_DONE (R354): The scrub completes a full pass of SRAM or DRAM. `dram` tells the pass of DRAM from that of SRAM. -/
  | scrubPassDone (dram : Bool)
  /-- DRAM_INIT (R357): Zeroing of DRAM on entry to M1 completes and DRAM_READY is set. -/
  | dramInit
  /-- DRAM_CE (R359): A DRAM word has a correctable error. -/
  | dramCe (off : Fin 0x2000000000)
  /-- DRAM_UE (R359): A DRAM word has an uncorrectable error with per-reader consequence. -/
  | dramUe (off : Fin 0x2000000000) (rd : DramReader)
  /-- REFRESH_DOWN (R360): A stack's band stays lower for 1 s and its refresh multiple falls. -/
  | refreshDown (k : Fin 4)
  /-- DRAM_REQUEST_DONE (R365): A DRAM request completes and is counted if delayed or late. `grants` are the stacks that grant a granule in this tick, one after another; the requests that they complete follow from R362. -/
  | dramRequestDone (grants : List (Fin 4))
  /-- C1_REFUSED (R363): A C1 request's deadline passes before its first grant and it is refused. -/
  | c1Refused (b : Fin 32)
  /-- DRF_TAIL_WRITE (R368): A write of DRF_LANE_TAIL queues host jobs, or is discarded. -/
  | drfTailWrite (path : Path) (l : Fin 8) (v : Word)
  /-- DRF_COMPRESS (R370): A lane runs a COMPRESS job descriptor. `ue` is the block at whose fetch an uncorrectable word is found. -/
  | drfCompress (l : Fin 8) (ue : Option Nat)
  /-- DRF_DECOMPRESS (R374): A lane runs a DECOMPRESS job descriptor. `ue` is the block at whose fetch an uncorrectable word is found. -/
  | drfDecompress (l : Fin 8) (ue : Option Nat)
  /-- DRF_VERIFY (R374): A lane runs a VERIFY job descriptor. `ue` is the block at whose fetch an uncorrectable word is found. -/
  | drfVerify (l : Fin 8) (ue : Option Nat)
  /-- DRF_JOB_DONE (R368): A job completes, writes its completion fields and advances HEAD. -/
  | drfJobDone (l : Fin 8)
  /-- DRF_STALL (R375): A lane stalls for lack of output space or input. -/
  | drfStall (l : Fin 8)
  /-- DRF_RESUME (R375): A stalled lane resumes when space or input is available. -/
  | drfResume (l : Fin 8)
  /-- LINK_CHG (R379): The PCI Express link state changes. The link's new state, coded as in HIF_LINK_STATUS. -/
  | linkChg (up : Bool) (speed : BitVec 3) (width : BitVec 5) (flit : Bool)
  /-- FUNCTION_LEVEL_RESET (R380): A Function Level Reset returns HIF registers, queues and MSI-X to reset. -/
  | functionLevelReset
  /-- D3HOT_ENTRY (R381): The function enters D3hot and stops DMA and messages. -/
  | d3hotEntry
  /-- D0_RETURN (R381): The function returns to D0 and pending interrupts are delivered. -/
  | d0Return
  /-- BAR2_ACCESS (R383): A host read or write of on-chip SRAM through BAR2, subject to protection. `ue` tells that a word read is uncorrectable. -/
  | bar2Access (off : Fin 0x4000000) (a : MemAccess) (ue : Bool)
  /-- BAR4_ACCESS (R384): A host access to DRAM through the BAR4 window in class C2. `ue` tells that a word read is uncorrectable, `size` that the host has resized BAR4 to 2^(30+k) bytes before it. -/
  | bar4Access (x : Fin 0x2000000000) (a : MemAccess) (ue : Bool) (size : Option (Fin 8))
  /-- DMA_DOORBELL (R388): A write of HIF_Q_TAIL rings the doorbell or sets BAD_TAIL. -/
  | dmaDoorbell (p : Path) (q : Fin 64) (v : Word)
  /-- DMA_DESCRIPTOR_START (R387): A queue starts its next descriptor after the previous one finishes. `desc` are the 32 bytes at HEAD. -/
  | dmaDescriptorStart (q : Fin 64) (desc : List Byte)
  /-- DMA_DESCRIPTOR_DONE (R391): A descriptor completes and writes its completion entry. `data` is what the host's memory gave (for a device-to-host descriptor that is stopped, its length is what was moved); `ue` tells that a word read from the device is uncorrectable. -/
  | dmaDescriptorDone (q : Fin 64) (data : List Byte) (how : HostEnd) (ue : Bool)
  /-- DMA_QUEUE_DISABLE (R393): Clearing HIF_Q_CFG.EN stops a running queue. `v` is the value written to HIF_Q_CFG, with EN = 0. -/
  | dmaQueueDisable (p : Path) (q : Fin 64) (v : Word)
  /-- DMA_QUEUE_RESET (R393): HIF_Q_CTL.RESET resets HEAD and PHASE. -/
  | dmaQueueReset (p : Path) (q : Fin 64) (v : Word)
  /-- Q_LIMIT_WRITE (R396): A write of HIF_Q_LIMIT extends the valid source of a stream-owned queue. -/
  | qLimitWrite (p : Path) (q : Fin 64) (v : Word)
  /-- MSIX_SEND (R400): An armed vector with level 1 sends its message and disarms. `fmask` tells that the function is masked. -/
  | msixSend (v : Fin 512) (fmask : Bool)
  /-- VEC_REARM (R401): A write to HIF_VEC_REARM re-arms vectors. -/
  | vecRearm (p : Path) (w : Fin 16) (v : Word)
  /-- MSIX_UNMASK (R400): Removing a mask sends a pending vector message. None: the function's mask is removed. -/
  | msixUnmask (v : Option (Fin 512))
  /-- SMB_READ (R403): SMBus READ command reads a BAR0 offset where permitted. -/
  | smbRead (addr : BitVec 7) (off : BitVec 32)
  /-- SMB_WRITE (R403): SMBus WRITE command writes a BAR0 offset where permitted. `pec` is the PEC byte, where one is sent. -/
  | smbWrite (addr : BitVec 7) (off v : BitVec 32) (pec : Option Byte)
  /-- SMB_STATUS (R402): SMBus STATUS command returns the status of the last WRITE. -/
  | smbStatus (addr : BitVec 7)
  /-- LOAD_GO (R417): SEC_LOAD_CTL.GO starts a skein load in M1. -/
  | loadGo (path : Path)
  /-- LOAD_OK (R422): A load reaches step 5, records SVN, policy and confidentiality and enters M2. -/
  | loadOk
  /-- LOAD_FAIL (R421): A load fails with an error code and the device enters M0 or M7. `ue` names a DRAM word that the loader could not read -/
  | loadFail (ue : Option (BitVec 37))
  /-- PROVISION (R429): SEC_CMD PROVISION fuses owner hashes, a key-encryption key and MIN_SVN. -/
  | provision (path : Path) (arg : BitVec 16)
  /-- PROVISION_DONE (R429): Provisioning completes with the lifecycle fuse blown to OWNED. -/
  | provisionDone
  /-- KEK_TAKEN (R430): SEC_CMD KEK_TAKEN ends readability of the key-encryption key. -/
  | kekTaken (path : Path)
  /-- CHALLENGE (R433): SEC_CMD CHALLENGE draws a fresh challenge. -/
  | challenge (path : Path)
  /-- CHALLENGE_EXPIRY (R433): A challenge expires after 60 s. -/
  | challengeExpiry
  /-- SUBMIT (R434): SEC_CMD SUBMIT verifies a signed authenticated command. -/
  | submit (path : Path)
  /-- AUTH_UNLOCK (R437): An accepted UNLOCK sets the debug level, capped. -/
  | authUnlock
  /-- AUTH_RETIRE (R432): An accepted RETIRE destroys the key and blows the RETIRED fuse. -/
  | authRetire
  /-- AUTH_REVOKE (R431): An accepted REVOKE fuses an owner slot revoked. -/
  | authRevoke
  /-- AUTH_ADVANCE_SVN (R431): An accepted ADVANCE_SVN raises MIN_SVN. -/
  | authAdvanceSvn
  /-- LOCKOUT_END (R435): The 60 s submission lockout expires. -/
  | lockoutEnd
  /-- RELOCK (R437): SEC_CMD RELOCK sets the debug level to NONE. -/
  | relock (path : Path)
  /-- SNAP (R436): SEC_CMD SNAP copies spindle state and reel into SEC_SNAP. -/
  | snap (path : Path)
  /-- MONITOR_BREACH (R456): A window comparator breach qualifies and is detected as DF1, DF3, DF4 or DF5. -/
  | monitorBreach (b : Breach)
  /-- DF2_EVALUATION (R458): Every 2,500 SUPCK cycles the 1 ms power sum of each RF port is tested against AVG. Powers of the last 50 periods by RF port, oldest first, in 1/512 of full-scale sine power. -/
  | df2Evaluation (powers : List (List Nat))
  /-- BIAS_STEP_SAMPLE (R459): 3 µs after a bias update the current is sampled and tested for a step breach. The current in nA. -/
  | biasStepSample (b : Fin 64) (nA : Int)
  /-- CLOCK_CHECK (R446): Each 1 µs count of CK_S/320 against SUPCK checks DF6. Periods of CK_S/320 in 50 cycles of SUPCK. -/
  | clockCheck (count : Nat)
  /-- HEARTBEAT_TIMEOUT (R448): 400 SUPCK cycles without a token detect DF7. -/
  | heartbeatTimeout (n : Fin 64)
  /-- UE_LINE (R446): An uncorrectable-error line of a real-time reader detects DF8. -/
  | ueLine (off : Fin 0x4000000)
  /-- PLANT_ILK_CHANGE (R461): PLANT_ILK_N changes between asserted and deasserted, withholding permits or detecting DF9. -/
  | plantIlkChange (asserted : Bool)
  /-- TRIP (R449): An S3 detection stops every permit, enters M7 and records the trip. -/
  | trip
  /-- PERMIT_LOSS (R445): The digital die sees no permit wave for 2 µs and enters M7. -/
  | permitLoss
  /-- SUP_SUPPLY_FAIL (R443): VDD_SUP fails and outputs go inert on their own. -/
  | supSupplyFail
  /-- BIAS_SAFE_RAMP_STEP (R450): Without a permit a BIA port steps toward 0 on its local timer. -/
  | biasSafeRampStep (b : Fin 64)
  /-- DISAGREE (R462): One of two comparators breaches, the port is held and arbitration starts. The comparator that alone shows a breach, on so many consecutive samples. -/
  | disagree (m : Fin 240) (c : Fin 4) (samples : Nat)
  /-- ARBITRATION_DECISION (R463): The monitor ADCs decide a disagreement as breach, DF10 or spurious. Readings of the held quantity by both ADCs, and of the threshold DAC, in LSB. -/
  | arbitrationDecision (a b dac : Int)
  /-- BLANK_START (R457): A blank opens on a monitor after its delay, or the notice is ignored. -/
  | blankStart (m : Fin 240)
  /-- BLANK_END (R457): A monitor's blank ends after BLANK_LEN. -/
  | blankEnd (m : Fin 240)
  /-- MADC_SLOT (R465): Each 50 SUPCK cycles each monitor ADC converts one input by priority. What the two ADCs read; a supply tap read in the slot, in mV. -/
  | madcSlot (a b : BitVec 16) (tap : Option (Fin 24 × Int))
  /-- MADC_START (R467): SUP_MADC_CTL.START requests one host conversion. -/
  | madcStart (path : Path) (x : Fin 2) (v : Word)
  /-- MADC_DONE (R467): A host conversion completes and writes its result. -/
  | madcDone (x : Fin 2)
  /-- MADC_RESULT_READ (R467): A read of SUP_MADC_RESULT clears VALID. -/
  | madcResultRead (path : Path) (x : Fin 2)
  /-- SELFTEST_START (R468): SUP_CMD.SELFTEST starts a new self-test pass. -/
  | selftestStart (path : Path) (v : Word)
  /-- SELFTEST_PASS_END (R468): A self-test pass ends, passing or detecting DF10. What the items found. -/
  | selftestPassEnd (found : SelfTest)
  /-- CLR_TRIP (R451): SUP_CMD.CLR_TRIP clears the trip record outside M7. -/
  | clrTrip (path : Path) (v : Word)
  /-- MON_FLAG_CLEAR (R460): A W1C of a monitor FLAG clears it, or is discarded under LATCH while breaching. -/
  | monFlagClear (path : Path) (m : Fin 240)
  /-- MONITOR_QUALIFY (R461): A monitor shows a valid non-breach level for 1 ms and becomes qualified. -/
  | monitorQualify (m : Fin 240)
  /-- SENSOR_MEASURE (R471): A temperature sensor measurement completes, updating its band and DF11. None: an invalid reading. -/
  | sensorMeasure (k : Fin 24) (reading : Option Word)
  /-- ERROR_REPORT (R476): A block's error report enters the supervisor's queue for its severity. -/
  | errorReport
  /-- ERR_ACK (R478): SUP_ERR_ACK removes the current error entry when SEQ matches. -/
  | errAck (path : Path) (v : Word)
  /-- PORT_STATE_CHOICE (R489): Each tick the power manager chooses each port's state and starts sleep or wake. -/
  | portStateChoice (p : Fin 256)
  /-- PORT_WAKE_DONE (R484): A waking port completes its wake time and becomes ACTIVE. -/
  | portWakeDone (p : Fin 256)
  /-- LAT_TOL_WRITE (R493): A write of PWR_LAT_TOL wakes ports whose state exceeds the new tolerance. -/
  | latTolWrite (path : Path) (g : Fin 16) (v : Word)
  /-- DORM_TOL_WRITE (R497): A write of PWR_DORM_TOL in M2 deepens or restores the DORMANT level. -/
  | dormTolWrite (path : Path) (v : Word)
  /-- DORMANT_RESTORE_DONE (R498): Restoration from DORMANT completes and M3 is entered. -/
  | dormantRestoreDone
  /-- ENERGY_SAMPLE (R500): Each 1 µs the supply currents are accumulated into the energy counters. Energy of the microsecond in nJ: by group, and the package total. -/
  | energySample (nj : List Nat) (total : Nat)
  /-- ENERGY_SNAP (R502): PWR_CMD.SNAP copies every live counter with the reel. -/
  | energySnap (path : Path) (v : Word)
  /-- ENERGY_CLEAR (R502): PWR_CMD.CLEAR zeroes the live counters. -/
  | energyClear (path : Path) (v : Word)
  /-- POWER_ON_RESET (R513): PORST_N low or supervisor rail low resets every block to M0. -/
  | powerOnReset
  /-- SYSTEM_RESET (R513): SYS_RST_N low or a rail below 85 % resets every block except the supervisor. `rail`: the tap of the rail that failed, none for SYS_RST_N. -/
  | systemReset (rail : Option (Fin 24))
  /-- SOFTWARE_RESET (R516): A keyed GLB_RST_CTL write takes a software reset. -/
  | softwareReset (path : Path) (v : Word)
  /-- ENDPOINT_RESET (R513): PERST_N low resets the PCI Express endpoint and HIF block. -/
  | endpointReset
  /-- PERMITS_RESTORE (R515): After a reset the supervisor restores permits once no cause is active and ramping ends. -/
  | permitsRestore
  /-- TAP_EXTEST (R530): TAP instruction EXTEST drives boundary scan where permitted. -/
  | tapExtest (cells : List Bool)
  /-- TAP_SAMPLE_PRELOAD (R530): TAP instruction SAMPLE/PRELOAD captures boundary scan. -/
  | tapSamplePreload (cells : List Bool)
  /-- TAP_IDCODE (R530): TAP instruction IDCODE returns the identification. -/
  | tapIdcode
  /-- TAP_SEC_ACC (R530): TAP SEC_ACC performs one SEC register access at Update-DR. -/
  | tapSecAcc (off : BitVec 26) (write : Bool) (v : Word)
  /-- TAP_BAR0_ACC (R530): TAP BAR0_ACC performs one BAR0 access at the debug level. -/
  | tapBar0Acc (off : BitVec 26) (write : Bool) (v : Word)
  /-- TAP_MEM_ACC (R530): TAP MEM_ACC performs one BAR2 or BAR4 access at FULL. -/
  | tapMemAcc (bar4 write : Bool) (addr : BitVec 64) (v : Word)
  /-- TAP_BYPASS (R530): TAP BYPASS selects the 1-bit register. -/
  | tapBypass
  /-- REF_RETURN (R518): The selected reference reappears after a loss, REF_PRESENT rises and the PLL relocks to it. -/
  | refReturn (src : Fin 8)
  /-- CDR_LOCK_LOSS (R309): The clock recovery of a twist port's incoming duty lane loses lock, declaring the lane failed and starting FAILOVER, or taking the port out of UP when lane 1 is duty. -/
  | cdrLockLoss (p : Fin 4)
  /-- MONITOR_BREACH_CLEAR (R456): A qualified comparator shows no breach on one sample, so its qualified indication ends and a LATCH = 0 cause stops being active. `c` counts HI primary, HI redundant, LO primary, LO redundant. -/
  | monitorBreachClear (m : Fin 240) (c : Fin 4)
  /-- TRG_IN_GLITCH (R268): A sampled TRG_IN level reverts before it qualifies and GLITCH_CNT increments. -/
  | trgInGlitch (k : Fin 16)
  /-- BULK_PACKET_START (R314): A waiting bulk packet starts on the lowest free bulk lane of its output port once a lane and a credit are available. -/
  | bulkPacketStart (p : Fin 4)
  /-- PORST_N_RELEASE (R517): PORST_N is released; fuses, CASC_MASTER and SMB_ADDR are sampled, SUPCK runs and SEC_STATUS becomes valid. -/
  | porstNRelease (strap : Bool) (addr : BitVec 2)
  /-- REQ_RESERVED (R34): A keyed GLB_MODE_CTL write with a reserved REQ code 0x8 to 0xF is refused with REQ_RESULT 3 and recorded in LAST_REQ. REQ is 8 + `code`. -/
  | reqReserved (path : Path) (code : Fin 8) (key : Byte)
  deriving DecidableEq, Repr

end Sys2Proof
end

