-- ==== Sys2Proof/Decode.lean ====
section
/-! DEFINITION. Decode.lean: the command a word spells by the bits of spec/opcode_table.json. No row of that table gives
bits (every row's list of fields is empty), so no word spells a command. -/

namespace Sys2Proof

/-- The command spelt by a word of `nbits` bits: none, since the table gives no row any bits (log entry 5). -/
def decodeTableWord (_nbits _w : Nat) : Option Instr := none

end Sys2Proof
end

