-- ==== Sys2Proof/Config.lean ====
section
/-! DEFINITION. Config.lean: the values the manual leaves open, each an opaque constant without a body, so that no proof
can rest on a value of one, and the constants the manual fixes. -/

namespace Sys2Proof.Config

/-- A stream of free values (log entry 1): the `n`-th value the manual leaves open and that no operand fixes. -/
opaque freeValue : Nat → BitVec 64

/-- Which way a value that lies between two codes is rounded, where the manual does not say (log entry 2): `true` for the
code above, by the exact value's numerator and denominator. -/
opaque roundUp : Int → Nat → Bool

/-- The coefficients of the filters whose responses the manual bounds but does not list, in units of 2^-30: the stages of the ×16
interpolator (R141; log entry 21), the channel filters by FILTER (R212), and the band decimator, the prototype of the filter bank and
the tone decimators by their factor (R219; log entry 25). Machine/Filters.lean holds them to the bounds. -/
opaque interpTaps : Nat → List Int
opaque channelTaps : Nat → List Int
opaque bandTaps : List Int
opaque binTaps : List Int
opaque toneTaps : Nat → List Int

/-- The fixed latencies of a twist lane, in 1/16 ps: those that a round trip in MEASURE includes (R294), and those between the launch of a
SYNC_LO and its release (R297) (log entry 136). -/
opaque twFixed : Nat
opaque twLatency : Nat

/-- What the check takes for the power of a roving stream whose samples it cannot read: the largest sum of |e|² over 1 µs in units of 2^-30
(R157; log entry 61). -/
opaque rovingPower : Nat → Nat

/-- Which match a compression lane takes at a position of a block, as length and distance (R371; log entry 30). -/
opaque lzMatch : Nat → List Byte → Nat → Nat × Nat

/-- The lengths of the literal/length and distance codes that a lane builds in a mode from histograms of the symbols (R370; log entry 30). -/
opaque codeLengths : Nat → List Nat → List Nat → List Nat × List Nat

/-- How a lane writes two codes' lengths at the head of a dynamic block (R370; log entry 30). -/
opaque codeHeader : List Nat → List Nat → List Bool

/-- Where a 64 KiB stored form is split (R372; log entry 30). -/
opaque storedSplit : Nat

/-- The Device Serial Number that is fused into the part (R414, R434, SEC_DSN). -/
opaque serialNumber : BitVec 64

/-- The read requests that a queue in DESC mode has outstanding at a tick, while a descriptor runs (HIF_Q_STATUS; log entry 47). -/
opaque dmaOutstanding : Nat → Nat → BitVec 5

/-- The Max Read Request Size and Max Payload Size that the host has set, as 128 bytes times a power of two (R378; log entry 151). -/
opaque readRequestLog : Nat
opaque payloadLog : Nat

/-- The link has credits and tags for a request in a tick (R397; log entry 151). -/
opaque linkReady : Nat → Bool

/-- The ticks from GO until the loader comes to step 3 (R417; log entry 153). -/
opaque verifyTicks : Nat

end Sys2Proof.Config
end

