-- ==== Sys2Proof/Machine/Flags.lean ====
section
/-! DEFINITION. Machine/Flags.lean: the arithmetic of fields and of fixed-point numbers that the chapters share: reading
and writing a bit field, two's complement, saturation and rounding. -/

namespace Sys2Proof.Machine

/-- The bits of a field within its register. -/
def Field.mask (f : Field) : Word := BitVec.ofNat 32 ((2 ^ f.w - 1) * 2 ^ f.lo)

/-- A field's value in a register value. -/
def fieldGet (v : Word) (f : Field) : Nat := v.toNat / 2 ^ f.lo % 2 ^ f.w

/-- A register value with one field replaced (the value is cut to the field's width). -/
def fieldPut (v : Word) (f : Field) (n : Nat) : Word :=
  (v &&& ~~~(Field.mask f)) ||| (BitVec.ofNat 32 (n % 2 ^ f.w * 2 ^ f.lo))

/-- The signed value of a `w`-bit two's-complement number. -/
def sgn (w n : Nat) : Int :=
  let n := n % 2 ^ w
  if 2 * n < 2 ^ w then (n : Int) else (n : Int) - (2 ^ w : Nat)

/-- The `w`-bit two's-complement code of an integer (wrapping). -/
def twos (w : Nat) (i : Int) : Nat := (i % ((2 ^ w : Nat) : Int)).toNat

/-- Hold an integer within two bounds. -/
def clampInt (lo hi i : Int) : Int := if i < lo then lo else if hi < i then hi else i

/-- Hold an integer within the range of a `w`-bit two's-complement number. -/
def satInt (w : Nat) (i : Int) : Int := clampInt (-((2 ^ (w - 1) : Nat) : Int)) (((2 ^ (w - 1) : Nat) : Int) - 1) i

/-- Count up, holding at the top of a `w`-bit counter. -/
def satAdd (w n k : Nat) : Nat := if n + k < 2 ^ w then n + k else 2 ^ w - 1

/-- Drop the low `n` bits with no rounding: the largest integer not above `i / 2^n`. -/
def shiftDown (i : Int) (n : Nat) : Int := i / ((2 ^ n : Nat) : Int)

/-- Round `i / 2^n` to the nearest integer, a tie upward. -/
def roundHalfUp (i : Int) (n : Nat) : Int :=
  if n = 0 then i else (i + ((2 ^ (n - 1) : Nat) : Int)) / ((2 ^ n : Nat) : Int)

/-- Round `i / n` to one of its two neighbours, where the manual does not say which (log entry 2). -/
def roundOpen (i : Int) (n : Nat) : Int :=
  if i % (n : Int) = 0 then i / (n : Int)
  else if Config.roundUp i n then i / (n : Int) + 1 else i / (n : Int)

/-- Round `i / n` to the nearest integer; the manual does not say which way a tie goes (log entry 2). -/
def roundNear (i : Int) (n : Nat) : Int :=
  let q := i / (n : Int)
  let r := 2 * (i % (n : Int))
  if r < (n : Int) then q else if (n : Int) < r then q + 1 else if Config.roundUp i n then q + 1 else q

/-- Round `i / 2^n` to the nearest integer, a tie away from zero. -/
def roundAway (i : Int) (n : Nat) : Int :=
  let q : Int := ((2 * i.natAbs + 2 ^ n) / (2 ^ (n + 1)) : Nat)
  if i < 0 then -q else q

/-- Whether bit `b` of a number is 1. -/
def bitOf (n b : Nat) : Bool := n / 2 ^ b % 2 == 1

/-- A number with bit `b` set. -/
def setBit (n b : Nat) : Nat := if bitOf n b then n else n + 2 ^ b

/-- A number with bit `b` cleared. -/
def clrBit (n b : Nat) : Nat := if bitOf n b then n - 2 ^ b else n

/-- A Bool as a one-bit number. -/
def b2n (b : Bool) : Nat := if b then 1 else 0

/-- Bits `[hi:lo]` of a number. -/
def bitsOf (n hi lo : Nat) : Nat := n / 2 ^ lo % 2 ^ (hi + 1 - lo)

end Sys2Proof.Machine
end

