-- ==== Sys2Proof/Machine/RegNames.lean ====
section
/-! DEFINITION. Machine/RegNames.lean: the byte offset of every BAR0 register and the place of every field,
as the register tables of spec/01 to spec/16 give them (under the base addresses of R16). `Reg.NAME` is the
register's offset, `Fld.NAME_FIELD` the field; array registers take their indices in the manual's order, each modulo its number of
instances, so that a name never stands for an offset outside its row. -/

namespace Sys2Proof.Machine

namespace Reg

def GLB_MODE_CTL : Nat := 0x10
def GLB_MODE_STATUS : Nat := 0x14
def GLB_MODE_REEL_LO : Nat := 0x20
def GLB_MODE_REEL_HI : Nat := 0x24
def GLB_CLK_CTL : Nat := 0x30
def GLB_CLK_STATUS : Nat := 0x34
def GLB_DRV_MAP (i : Nat) : Nat := 0x1000 + 4 * (i % 256)
def GLB_PRB_MAP (i : Nat) : Nat := 0x1400 + 4 * (i % 256)
def GLB_RDO_MAP (i : Nat) : Nat := 0x1800 + 4 * (i % 256)
def TLN_CTL : Nat := 0x50000
def TLN_CMD : Nat := 0x50004
def TLN_STATUS : Nat := 0x50008
def TLN_EVENT : Nat := 0x5000C
def TLN_REEL_NS_LO : Nat := 0x50010
def TLN_REEL_NS_HI : Nat := 0x50014
def TLN_REEL_FRAC : Nat := 0x50018
def TLN_SET_LO : Nat := 0x50020
def TLN_SET_HI : Nat := 0x50024
def TLN_ADJ : Nat := 0x50028
def TLN_HOLD_ADJ : Nat := 0x5002C
def TLN_JUMP_LIMIT : Nat := 0x50030
def TLN_SLEW_MAX : Nat := 0x50034
def TLN_LOCK_CFG : Nat := 0x50038
def TLN_HOLD_POLICY : Nat := 0x5003C
def TLN_SERVO_KP : Nat := 0x50040
def TLN_SERVO_KI : Nat := 0x50044
def TLN_OFFSET : Nat := 0x50048
def TLN_ASYM_THRESH : Nat := 0x5004C
def TLN_UTC_OFFSET : Nat := 0x50050
def TLN_REFUSED_LO : Nat := 0x50058
def TLN_REFUSED_HI : Nat := 0x5005C
def TLN_COUNT : Nat := 0x50060
def TLN_PTP_CFG (i : Nat) : Nat := 0x50100 + 0x40 * (i % 2)
def TLN_PTP_MAC_LO (i : Nat) : Nat := 0x50104 + 0x40 * (i % 2)
def TLN_PTP_MAC_HI (i : Nat) : Nat := 0x50108 + 0x40 * (i % 2)
def TLN_PTP_IPV4 (i : Nat) : Nat := 0x5010C + 0x40 * (i % 2)
def TLN_PTP_CORR (i : Nat) : Nat := 0x50110 + 0x40 * (i % 2)
def TLN_PTP_OFFSET (i : Nat) : Nat := 0x50114 + 0x40 * (i % 2)
def TLN_PTP_DELAY (i : Nat) : Nat := 0x50118 + 0x40 * (i % 2)
def TLN_PTP_STATUS (i : Nat) : Nat := 0x5011C + 0x40 * (i % 2)
def TLN_LAUNCH_T_LO (i : Nat) : Nat := 0x50200 + 0x20 * (i % 16)
def TLN_LAUNCH_T_HI (i : Nat) : Nat := 0x50204 + 0x20 * (i % 16)
def TLN_LAUNCH_ACT_LO (i : Nat) : Nat := 0x50208 + 0x20 * (i % 16)
def TLN_LAUNCH_ACT_HI (i : Nat) : Nat := 0x5020C + 0x20 * (i % 16)
def TLN_LAUNCH_CFG (i : Nat) : Nat := 0x50210 + 0x20 * (i % 16)
def SPN_CTL (i : Nat) : Nat := 0x100000 + 0x10000 * (i % 64)
def SPN_CMD (i : Nat) : Nat := 0x100004 + 0x10000 * (i % 64)
def SPN_STATUS (i : Nat) : Nat := 0x100008 + 0x10000 * (i % 64)
def SPN_EVENT (i : Nat) : Nat := 0x10000C + 0x10000 * (i % 64)
def SPN_EVENT_EN (i : Nat) : Nat := 0x100010 + 0x10000 * (i % 64)
def SPN_SIN (i : Nat) : Nat := 0x100014 + 0x10000 * (i % 64)
def SPN_SIN_OVR (i : Nat) : Nat := 0x100018 + 0x10000 * (i % 64)
def SPN_PEND (i : Nat) : Nat := 0x10001C + 0x10000 * (i % 64)
def SPN_VEC (i : Nat) (j : Nat) : Nat := 0x100020 + 0x10000 * (i % 64) + 4 * (j % 8)
def SPN_RESUME (i : Nat) : Nat := 0x100040 + 0x10000 * (i % 64)
def SPN_COUNT (i : Nat) : Nat := 0x100044 + 0x10000 * (i % 64)
def SPN_ERR (i : Nat) : Nat := 0x100048 + 0x10000 * (i % 64)
def SPN_IRQ_CODE (i : Nat) : Nat := 0x10004C + 0x10000 * (i % 64)
def SPN_DBG (i : Nat) : Nat := 0x100050 + 0x10000 * (i % 64)
def SPN_RESULT (i : Nat) (j : Nat) : Nat := 0x100060 + 0x10000 * (i % 64) + 4 * (j % 16)
def SPN_G (i : Nat) (j : Nat) : Nat := 0x100100 + 0x10000 * (i % 64) + 4 * (j % 32)
def SPN_LC (i : Nat) (j : Nat) : Nat := 0x100180 + 0x10000 * (i % 64) + 4 * (j % 8)
def SPN_TB_LO (i : Nat) : Nat := 0x1001A0 + 0x10000 * (i % 64)
def SPN_TB_HI (i : Nat) : Nat := 0x1001A4 + 0x10000 * (i % 64)
def SPN_CA_LO (i : Nat) : Nat := 0x1001A8 + 0x10000 * (i % 64)
def SPN_CA_HI (i : Nat) : Nat := 0x1001AC + 0x10000 * (i % 64)
def SYN_EVENT : Nat := 0x500000
def SYN_STATUS : Nat := 0x500004
def SYN_PORT_CFG (i : Nat) : Nat := 0x501000 + 0x40 * (i % 48)
def SYN_PORT_BAND (i : Nat) : Nat := 0x501004 + 0x40 * (i % 48)
def SYN_PORT_EVENT (i : Nat) : Nat := 0x501008 + 0x40 * (i % 48)
def SYN_PORT_CLIP_CNT (i : Nat) : Nat := 0x50100C + 0x40 * (i % 48)
def SYN_PORT_ASLEEP_CNT (i : Nat) : Nat := 0x501024 + 0x40 * (i % 48)
def SYN_PWR_ENV (i : Nat) (j : Nat) : Nat := 0x501010 + 0x40 * (i % 48) + 4 * (j % 5)
def SYN_CH_CFG (i : Nat) : Nat := 0x504000 + 0x20 * (i % 512)
def SYN_CH_FTW_LO (i : Nat) : Nat := 0x504004 + 0x20 * (i % 512)
def SYN_CH_FTW_HI (i : Nat) : Nat := 0x504008 + 0x20 * (i % 512)
def SYN_CH_INIT_FTW_LO (i : Nat) : Nat := 0x504014 + 0x20 * (i % 512)
def SYN_CH_INIT_FTW_HI (i : Nat) : Nat := 0x504018 + 0x20 * (i % 512)
def SYN_CH_PHASE (i : Nat) : Nat := 0x50400C + 0x20 * (i % 512)
def SYN_CH_INIT_PHASE (i : Nat) : Nat := 0x50401C + 0x20 * (i % 512)
def SYN_CH_STATUS (i : Nat) : Nat := 0x504010 + 0x20 * (i % 512)
def SYN_FLX_CFG (i : Nat) : Nat := 0x510000 + 0x200 * (i % 128)
def SYN_FLX_G (i : Nat) : Nat := 0x510004 + 0x200 * (i % 128)
def SYN_FLX_IIR_A (i : Nat) (j : Nat) : Nat := 0x510040 + 0x200 * (i % 128) + 8 * (j % 8)
def SYN_FLX_IIR_B (i : Nat) (j : Nat) : Nat := 0x510044 + 0x200 * (i % 128) + 8 * (j % 8)
def SYN_FLX_FIR (i : Nat) (j : Nat) : Nat := 0x510080 + 0x200 * (i % 128) + 4 * (j % 48)
def SYN_FLX_EVENT (i : Nat) : Nat := 0x510008 + 0x200 * (i % 128)
def SYN_FLX_CLIP_CNT (i : Nat) : Nat := 0x51000C + 0x200 * (i % 128)
def SYN_BIA_CFG (i : Nat) : Nat := 0x520000 + 0x20 * (i % 64)
def SYN_BIA_SLEW (i : Nat) : Nat := 0x520004 + 0x20 * (i % 64)
def SYN_BIA_SAFE_SLEW (i : Nat) : Nat := 0x520008 + 0x20 * (i % 64)
def SYN_BIA_TARGET (i : Nat) : Nat := 0x52000C + 0x20 * (i % 64)
def SYN_BIA_NOW (i : Nat) : Nat := 0x520010 + 0x20 * (i % 64)
def SYN_MRK_CFG (i : Nat) : Nat := 0x521000 + 4 * (i % 16)
def SYN_TRG_CFG (i : Nat) : Nat := 0x521100 + 4 * (i % 32)
def SYN_MRK_LEVEL : Nat := 0x521200
def SYN_TRG_LEVEL : Nat := 0x521204
def STM_EVENT : Nat := 0x600000
def STM_UR_HEAD : Nat := 0x600004
def STM_UR_LOG_REEL_LO (i : Nat) : Nat := 0x600100 + 0x10 * (i % 16)
def STM_UR_LOG_REEL_HI (i : Nat) : Nat := 0x600104 + 0x10 * (i % 16)
def STM_UR_LOG_INFO (i : Nat) : Nat := 0x600108 + 0x10 * (i % 16)
def STM_UR_LOG_POS (i : Nat) : Nat := 0x60010C + 0x10 * (i % 16)
def STM_TGT_TBL (i : Nat) : Nat := 0x601000 + 0x20 * (i % 640)
def STM_TGT_CNT (i : Nat) : Nat := 0x601004 + 0x20 * (i % 640)
def STM_TGT_STATUS (i : Nat) : Nat := 0x601008 + 0x20 * (i % 640)
def STM_TGT_PASS (i : Nat) : Nat := 0x60100C + 0x20 * (i % 640)
def STM_TGT_EVENT (i : Nat) : Nat := 0x601010 + 0x20 * (i % 640)
def STM_TGT_JCNT (i : Nat) : Nat := 0x601014 + 0x20 * (i % 640)
def STM_RV_CFG (i : Nat) : Nat := 0x608000 + 0x40 * (i % 64)
def STM_RV_RING (i : Nat) : Nat := 0x608004 + 0x40 * (i % 64)
def STM_RV_WM (i : Nat) : Nat := 0x608008 + 0x40 * (i % 64)
def STM_RV_SRC_LO (i : Nat) : Nat := 0x60800C + 0x40 * (i % 64)
def STM_RV_SRC_HI (i : Nat) : Nat := 0x608010 + 0x40 * (i % 64)
def STM_RV_LEN (i : Nat) : Nat := 0x608014 + 0x40 * (i % 64)
def STM_RV_CMD (i : Nat) : Nat := 0x608018 + 0x40 * (i % 64)
def STM_RV_STATUS (i : Nat) : Nat := 0x60801C + 0x40 * (i % 64)
def STM_RV_FILL (i : Nat) : Nat := 0x608020 + 0x40 * (i % 64)
def STM_RV_EVENT (i : Nat) : Nat := 0x608024 + 0x40 * (i % 64)
def STM_RV_EVENT_EN (i : Nat) : Nat := 0x608028 + 0x40 * (i % 64)
def STM_RV_POS_LO (i : Nat) : Nat := 0x60802C + 0x40 * (i % 64)
def STM_RV_POS_HI (i : Nat) : Nat := 0x608030 + 0x40 * (i % 64)
def STM_RV_COUNT (i : Nat) : Nat := 0x608034 + 0x40 * (i % 64)
def RDO_EVENT : Nat := 0x700000
def RDO_STATUS : Nat := 0x700004
def RDO_ACQ_CFG (i : Nat) : Nat := 0x701000 + 0x40 * (i % 16)
def RDO_ACQ_BAND (i : Nat) : Nat := 0x701004 + 0x40 * (i % 16)
def RDO_ACQ_ATT (i : Nat) : Nat := 0x701008 + 0x40 * (i % 16)
def RDO_ACQ_EVENT (i : Nat) : Nat := 0x70100C + 0x40 * (i % 16)
def RDO_ACQ_OVR_CNT (i : Nat) : Nat := 0x701010 + 0x40 * (i % 16)
def RDO_ACQ_STATUS (i : Nat) : Nat := 0x701014 + 0x40 * (i % 16)
def RDO_CH_CFG (i : Nat) : Nat := 0x704000 + 0x20 * (i % 256)
def RDO_CH_FTW_LO (i : Nat) : Nat := 0x704004 + 0x20 * (i % 256)
def RDO_CH_FTW_HI (i : Nat) : Nat := 0x704008 + 0x20 * (i % 256)
def RDO_CH_APPLIED_FTW_LO (i : Nat) : Nat := 0x70400C + 0x20 * (i % 256)
def RDO_CH_APPLIED_FTW_HI (i : Nat) : Nat := 0x704010 + 0x20 * (i % 256)
def RDO_CH_PHASE (i : Nat) : Nat := 0x704014 + 0x20 * (i % 256)
def RDO_CH_STATUS (i : Nat) : Nat := 0x704018 + 0x20 * (i % 256)
def RDO_ARR_CFG (i : Nat) : Nat := 0x708000 + 0x40 * (i % 16)
def RDO_ARR_BAND_LO (i : Nat) : Nat := 0x708004 + 0x40 * (i % 16)
def RDO_ARR_BAND_HI (i : Nat) : Nat := 0x708008 + 0x40 * (i % 16)
def RDO_ARR_EVENT (i : Nat) : Nat := 0x70800C + 0x40 * (i % 16)
def RDO_ARR_STATUS (i : Nat) : Nat := 0x708010 + 0x40 * (i % 16)
def RDO_ARR_CLIP_CNT (i : Nat) : Nat := 0x708014 + 0x40 * (i % 16)
def RDO_ARR_TONE_F (i : Nat) (j : Nat) : Nat := 0x740000 + 0x4000 * (i % 16) + 0x10 * (j % 1024)
def RDO_ARR_TONE_C (i : Nat) (j : Nat) : Nat := 0x740004 + 0x4000 * (i % 16) + 0x10 * (j % 1024)
def RDO_ARR_TONE_P (i : Nat) (j : Nat) : Nat := 0x740008 + 0x4000 * (i % 16) + 0x10 * (j % 1024)
def DSC_EVENT : Nat := 0x800000
def DSC_COUNT : Nat := 0x800004
def DSC_CH_CFG (i : Nat) : Nat := 0x810000 + 0x200 * (i % 256)
def DSC_CH_STATUS (i : Nat) : Nat := 0x810004 + 0x200 * (i % 256)
def DSC_CH_EVENT (i : Nat) : Nat := 0x810008 + 0x200 * (i % 256)
def DSC_CH_SWAP (i : Nat) : Nat := 0x81000C + 0x200 * (i % 256)
def DSC_CH_LAST_DEC (i : Nat) : Nat := 0x810010 + 0x200 * (i % 256)
def DSC_CH_LAST_V_I (i : Nat) : Nat := 0x810014 + 0x200 * (i % 256)
def DSC_CH_LAST_V_Q (i : Nat) : Nat := 0x810018 + 0x200 * (i % 256)
def DSC_CH_LAST_T_LO (i : Nat) : Nat := 0x81001C + 0x200 * (i % 256)
def DSC_CH_LAST_T_HI (i : Nat) : Nat := 0x810020 + 0x200 * (i % 256)
def DSC_CH_COUNT (i : Nat) : Nat := 0x810024 + 0x200 * (i % 256)
def DSC_CH_COUNT2 (i : Nat) : Nat := 0x810028 + 0x200 * (i % 256)
def DSC_SET_K_BASE (i : Nat) (j : Nat) : Nat := 0x810040 + 0x200 * (i % 256) + 0x40 * (j % 2)
def DSC_STG_K_BASE (i : Nat) (j : Nat) : Nat := 0x810100 + 0x200 * (i % 256) + 0x40 * (j % 2)
def DSC_SET_K_CFG (i : Nat) (j : Nat) : Nat := 0x810044 + 0x200 * (i % 256) + 0x40 * (j % 2)
def DSC_STG_K_CFG (i : Nat) (j : Nat) : Nat := 0x810104 + 0x200 * (i % 256) + 0x40 * (j % 2)
def DSC_SET_P_BASE (i : Nat) (j : Nat) : Nat := 0x810048 + 0x200 * (i % 256) + 0x40 * (j % 2)
def DSC_STG_P_BASE (i : Nat) (j : Nat) : Nat := 0x810108 + 0x200 * (i % 256) + 0x40 * (j % 2)
def DSC_SET_ES (i : Nat) (j : Nat) : Nat := 0x81004C + 0x200 * (i % 256) + 0x40 * (j % 2)
def DSC_STG_ES (i : Nat) (j : Nat) : Nat := 0x81010C + 0x200 * (i % 256) + 0x40 * (j % 2)
def DSC_SET_W (i : Nat) (j : Nat) (k : Nat) : Nat := 0x810050 + 0x200 * (i % 256) + 0x40 * (j % 2) + 4 * (k % 4)
def DSC_STG_W (i : Nat) (j : Nat) (k : Nat) : Nat := 0x810110 + 0x200 * (i % 256) + 0x40 * (j % 2) + 4 * (k % 4)
def DSC_SET_C_I (i : Nat) (j : Nat) (k : Nat) : Nat := 0x810060 + 0x200 * (i % 256) + 0x40 * (j % 2) + 8 * (k % 4)
def DSC_STG_C_I (i : Nat) (j : Nat) (k : Nat) : Nat := 0x810120 + 0x200 * (i % 256) + 0x40 * (j % 2) + 8 * (k % 4)
def DSC_SET_C_Q (i : Nat) (j : Nat) (k : Nat) : Nat := 0x810064 + 0x200 * (i % 256) + 0x40 * (j % 2) + 8 * (k % 4)
def DSC_STG_C_Q (i : Nat) (j : Nat) (k : Nat) : Nat := 0x810124 + 0x200 * (i % 256) + 0x40 * (j % 2) + 8 * (k % 4)
def FAB_EVENT : Nat := 0x900000
def FAB_FORCE : Nat := 0x900004
def FAB_EV_EN (i : Nat) : Nat := 0x900100 + 4 * (i % 32)
def FAB_EV_CFG (i : Nat) : Nat := 0x901000 + 4 * (i % 1024)
def FAB_EV_COUNT (i : Nat) : Nat := 0x902000 + 4 * (i % 1024)
def FAB_PLY_CFG (i : Nat) : Nat := 0x904000 + 0x10 * (i % 512)
def FAB_PLY_STATUS (i : Nat) : Nat := 0x904004 + 0x10 * (i % 512)
def FAB_PLY_FILT (i : Nat) : Nat := 0x904008 + 0x10 * (i % 512)
def FAB_TRG_CFG (i : Nat) : Nat := 0x906000 + 0x10 * (i % 16)
def FAB_TRG_STUCK (i : Nat) : Nat := 0x906004 + 0x10 * (i % 16)
def FAB_TRG_STATUS (i : Nat) : Nat := 0x906008 + 0x10 * (i % 16)
def FAB_CT_CFG (i : Nat) : Nat := 0x907000 + 0x20 * (i % 16)
def FAB_CT_STATE (i : Nat) : Nat := 0x907004 + 0x20 * (i % 16)
def FAB_CT_LAST (i : Nat) : Nat := 0x907008 + 0x20 * (i % 16)
def FAB_CT_LAST_MASK (i : Nat) : Nat := 0x90700C + 0x20 * (i % 16)
def FAB_CT_EVENT (i : Nat) : Nat := 0x907010 + 0x20 * (i % 16)
def FAB_CT_COUNT (i : Nat) : Nat := 0x907014 + 0x20 * (i % 16)
def FAB_GRP_CFG (i : Nat) : Nat := 0x908000 + 0x10 * (i % 64)
def FAB_GRP_STATUS (i : Nat) : Nat := 0x908004 + 0x10 * (i % 64)
def FAB_GRP_EVENT (i : Nat) : Nat := 0x908008 + 0x10 * (i % 64)
def FAB_GRP_COUNT (i : Nat) : Nat := 0x90800C + 0x10 * (i % 64)
def CSC_CFG : Nat := 0x60000
def CSC_DIM : Nat := 0x60004
def CSC_RATE_LEAD : Nat := 0x60008
def CSC_STATUS : Nat := 0x6000C
def CSC_EVENT : Nat := 0x60010
def CSC_EVENT_EN : Nat := 0x60014
def CSC_EPOCH_LO : Nat := 0x60018
def CSC_EPOCH_HI : Nat := 0x6001C
def CSC_TW_CFG (i : Nat) : Nat := 0x60100 + 0x40 * (i % 4)
def CSC_TW_STATUS (i : Nat) : Nat := 0x60104 + 0x40 * (i % 4)
def CSC_TW_DELAY (i : Nat) : Nat := 0x60108 + 0x40 * (i % 4)
def CSC_TW_PHASE (i : Nat) : Nat := 0x6010C + 0x40 * (i % 4)
def CSC_TW_CRC (i : Nat) : Nat := 0x60110 + 0x40 * (i % 4)
def CSC_TW_WAIT (i : Nat) : Nat := 0x60114 + 0x40 * (i % 4)
def CSC_TW_DROP (i : Nat) : Nat := 0x60118 + 0x40 * (i % 4)
def CSC_TW_BULK (i : Nat) : Nat := 0x6011C + 0x40 * (i % 4)
def CSC_TW_CMD (i : Nat) : Nat := 0x60120 + 0x40 * (i % 4)
def CSC_RRA_CTL : Nat := 0x60200
def CSC_RRA_ADDR : Nat := 0x60204
def CSC_RRA_DATA : Nat := 0x60208
def CSC_RRA_STATUS : Nat := 0x6020C
def CSC_RRA_TIMEOUT : Nat := 0x60210
def CSC_RDMA_SRC_LO : Nat := 0x60240
def CSC_RDMA_SRC_HI : Nat := 0x60244
def CSC_RDMA_DST_LO : Nat := 0x60248
def CSC_RDMA_DST_HI : Nat := 0x6024C
def CSC_RDMA_LEN : Nat := 0x60250
def CSC_RDMA_CTL : Nat := 0x60254
def CSC_RDMA_STATUS : Nat := 0x60258
def CSC_ROUTE (i : Nat) : Nat := 0x60800 + 4 * (i % 64)
def CSC_EXP (i : Nat) : Nat := 0x61000 + 4 * (i % 64)
def CSC_FWD (i : Nat) : Nat := 0x64000 + 4 * (i % 4096)
def BOB_CTL : Nat := 0xA00000
def BOB_ARM : Nat := 0xA00004
def BOB_DISARM : Nat := 0xA00008
def BOB_FORCE : Nat := 0xA0000C
def BOB_EVENT_SUM : Nat := 0xA00010
def BOB_CFG (i : Nat) : Nat := 0xA01000 + 0x100 * (i % 32)
def BOB_SRC (i : Nat) : Nat := 0xA01004 + 0x100 * (i % 32)
def BOB_PRE (i : Nat) : Nat := 0xA01008 + 0x100 * (i % 32)
def BOB_POST (i : Nat) : Nat := 0xA0100C + 0x100 * (i % 32)
def BOB_AUTO_TMO (i : Nat) : Nat := 0xA01010 + 0x100 * (i % 32)
def BOB_DB (i : Nat) : Nat := 0xA01014 + 0x100 * (i % 32)
def BOB_MASK_CFG (i : Nat) : Nat := 0xA01018 + 0x100 * (i % 32)
def BOB_SPILL_BASE_LO (i : Nat) : Nat := 0xA0101C + 0x100 * (i % 32)
def BOB_SPILL_BASE_HI (i : Nat) : Nat := 0xA01020 + 0x100 * (i % 32)
def BOB_SPILL_SIZE (i : Nat) : Nat := 0xA01024 + 0x100 * (i % 32)
def BOB_STATUS (i : Nat) : Nat := 0xA01028 + 0x100 * (i % 32)
def BOB_EVENT (i : Nat) : Nat := 0xA0102C + 0x100 * (i % 32)
def BOB_EVENT_EN (i : Nat) : Nat := 0xA01030 + 0x100 * (i % 32)
def BOB_WR_LO (i : Nat) : Nat := 0xA01034 + 0x100 * (i % 32)
def BOB_WR_HI (i : Nat) : Nat := 0xA01038 + 0x100 * (i % 32)
def BOB_SPILLED_LO (i : Nat) : Nat := 0xA0103C + 0x100 * (i % 32)
def BOB_SPILLED_HI (i : Nat) : Nat := 0xA01040 + 0x100 * (i % 32)
def BOB_RD_LO (i : Nat) : Nat := 0xA01044 + 0x100 * (i % 32)
def BOB_RD_HI (i : Nat) : Nat := 0xA01048 + 0x100 * (i % 32)
def BOB_DIR_HEAD (i : Nat) : Nat := 0xA0104C + 0x100 * (i % 32)
def BOB_COUNT (i : Nat) : Nat := 0xA01050 + 0x100 * (i % 32)
def BOB_COUNT2 (i : Nat) : Nat := 0xA01054 + 0x100 * (i % 32)
def BOB_CMD (i : Nat) : Nat := 0xA01058 + 0x100 * (i % 32)
def BOB_TC_CFG (i : Nat) (j : Nat) : Nat := 0xA01080 + 0x100 * (i % 32) + 0x10 * (j % 4)
def BOB_TC_T_LO (i : Nat) (j : Nat) : Nat := 0xA01084 + 0x100 * (i % 32) + 0x10 * (j % 4)
def BOB_TC_T_HI (i : Nat) (j : Nat) : Nat := 0xA01088 + 0x100 * (i % 32) + 0x10 * (j % 4)
def BOB_MASK (i : Nat) (j : Nat) : Nat := 0xA80000 + 0x4000 * (i % 32) + 4 * (j % 4096)
def MEM_EVENT : Nat := 0x70000
def MEM_EVENT_EN : Nat := 0x70004
def MEM_STATUS : Nat := 0x70008
def MEM_RES : Nat := 0x7000C
def MEM_ARB : Nat := 0x70010
def MEM_ARB2 : Nat := 0x70014
def MEM_SCRUB_CFG : Nat := 0x70018
def MEM_CE_THRESH : Nat := 0x7001C
def MEM_CLS_COUNT (i : Nat) : Nat := 0x70100 + 0x10 * (i % 4)
def MEM_CLS_MAXLAT (i : Nat) : Nat := 0x70104 + 0x10 * (i % 4)
def MEM_SRAM_ERR (i : Nat) : Nat := 0x70200 + 0x10 * (i % 6)
def MEM_SRAM_UE_ADDR : Nat := 0x70280
def MEM_DRAM_ERR (i : Nat) : Nat := 0x70300 + 0x10 * (i % 4)
def MEM_DRAM_UE_ADDR_LO (i : Nat) : Nat := 0x70304 + 0x10 * (i % 4)
def MEM_DRAM_UE_ADDR_HI (i : Nat) : Nat := 0x70308 + 0x10 * (i % 4)
def DRF_STATUS : Nat := 0x80000
def DRF_RV_BIND (i : Nat) : Nat := 0x80400 + 4 * (i % 64)
def DRF_LANE_RING (i : Nat) : Nat := 0x80100 + 0x40 * (i % 8)
def DRF_LANE_HEAD (i : Nat) : Nat := 0x80104 + 0x40 * (i % 8)
def DRF_LANE_TAIL (i : Nat) : Nat := 0x80108 + 0x40 * (i % 8)
def DRF_LANE_STATUS (i : Nat) : Nat := 0x8010C + 0x40 * (i % 8)
def DRF_LANE_EVENT (i : Nat) : Nat := 0x80110 + 0x40 * (i % 8)
def DRF_LANE_EVENT_EN (i : Nat) : Nat := 0x80114 + 0x40 * (i % 8)
def DRF_LANE_STALL (i : Nat) : Nat := 0x80118 + 0x40 * (i % 8)
def DRF_LANE_BLOCKS (i : Nat) : Nat := 0x8011C + 0x40 * (i % 8)
def HIF_EVENT : Nat := 0x10000
def HIF_EVENT_EN : Nat := 0x10004
def HIF_CTL : Nat := 0x10008
def HIF_LINK_STATUS : Nat := 0x1000C
def HIF_BAR4_WIN : Nat := 0x10010
def HIF_WR_REF : Nat := 0x10014
def HIF_WR_REF_ADDR_LO : Nat := 0x10018
def HIF_WR_REF_ADDR_HI : Nat := 0x1001C
def HIF_SMB_MBOX_IN : Nat := 0x10020
def HIF_SMB_MBOX_OUT : Nat := 0x10024
def HIF_Q_CFG (i : Nat) : Nat := 0x11000 + 0x40 * (i % 64)
def HIF_Q_RING_LO (i : Nat) : Nat := 0x11004 + 0x40 * (i % 64)
def HIF_Q_RING_HI (i : Nat) : Nat := 0x11008 + 0x40 * (i % 64)
def HIF_Q_CPL_LO (i : Nat) : Nat := 0x1100C + 0x40 * (i % 64)
def HIF_Q_CPL_HI (i : Nat) : Nat := 0x11010 + 0x40 * (i % 64)
def HIF_Q_TAIL (i : Nat) : Nat := 0x11014 + 0x40 * (i % 64)
def HIF_Q_HEAD (i : Nat) : Nat := 0x11018 + 0x40 * (i % 64)
def HIF_Q_STATUS (i : Nat) : Nat := 0x1101C + 0x40 * (i % 64)
def HIF_Q_EVENT (i : Nat) : Nat := 0x11020 + 0x40 * (i % 64)
def HIF_Q_EVENT_EN (i : Nat) : Nat := 0x11024 + 0x40 * (i % 64)
def HIF_Q_LIMIT (i : Nat) : Nat := 0x11028 + 0x40 * (i % 64)
def HIF_Q_WAIT (i : Nat) : Nat := 0x1102C + 0x40 * (i % 64)
def HIF_Q_CTL (i : Nat) : Nat := 0x11030 + 0x40 * (i % 64)
def HIF_MSIX_TABLE (i : Nat) (j : Nat) : Nat := 0x18000 + 0x10 * (i % 512) + 4 * (j % 4)
def HIF_MSIX_PBA (i : Nat) : Nat := 0x1A000 + 4 * (i % 16)
def HIF_IRQ_MAP (i : Nat) : Nat := 0x1C000 + 4 * (i % 384)
def HIF_VEC_REARM (i : Nat) : Nat := 0x1D000 + 4 * (i % 16)
def HIF_VEC_LEVEL (i : Nat) : Nat := 0x1D040 + 4 * (i % 16)
def GLB_CHECK_STATUS : Nat := 0x18
def GLB_CHECK_OBJECT : Nat := 0x1C
def SEC_STATUS : Nat := 0x20000
def SEC_EVENT : Nat := 0x20004
def SEC_EVENT_EN : Nat := 0x20008
def SEC_LOAD_SRC_LO : Nat := 0x20010
def SEC_LOAD_SRC_HI : Nat := 0x20014
def SEC_LOAD_CTL : Nat := 0x20018
def SEC_LOAD_STATUS : Nat := 0x2001C
def SEC_CMD : Nat := 0x20020
def SEC_CMD_STATUS : Nat := 0x20024
def SEC_DSN_LO : Nat := 0x20030
def SEC_DSN_HI : Nat := 0x20034
def SEC_FUSE : Nat := 0x20040
def SEC_CHAL (i : Nat) : Nat := 0x20100 + 4 * (i % 12)
def SEC_BUF (i : Nat) : Nat := 0x20200 + 4 * (i % 64)
def SEC_SNAP_REEL_LO : Nat := 0x23F00
def SEC_SNAP_REEL_HI : Nat := 0x23F04
def SEC_SNAP (i : Nat) (j : Nat) : Nat := 0x24000 + 0x100 * (i % 64) + 4 * (j % 64)
def SUP_STATUS : Nat := 0x30000
def SUP_EVENT : Nat := 0x30004
def SUP_EVENT_EN : Nat := 0x30008
def SUP_CFG : Nat := 0x3000C
def SUP_CMD : Nat := 0x30010
def SUP_TRIP : Nat := 0x30020
def SUP_TRIP_SEEN : Nat := 0x30024
def SUP_TRIP_ACTIVE : Nat := 0x30028
def SUP_TRIP_REEL_LO : Nat := 0x3002C
def SUP_TRIP_REEL_HI : Nat := 0x30030
def SUP_TRIP_ERR : Nat := 0x30034
def SUP_ERR_CUR : Nat := 0x30040
def SUP_ERR_CUR_INFO : Nat := 0x30044
def SUP_ERR_CUR_REEL_LO : Nat := 0x30048
def SUP_ERR_CUR_REEL_HI : Nat := 0x3004C
def SUP_ERR_ACK : Nat := 0x30050
def SUP_ERR_DEPTH : Nat := 0x30054
def SUP_ERR_LOST : Nat := 0x30058
def SUP_QUIET : Nat := 0x30060
def SUP_TOL : Nat := 0x30064
def SUP_SELFTEST : Nat := 0x30068
def SUP_MADC_CTL (i : Nat) : Nat := 0x30080 + 0x10 * (i % 2)
def SUP_MADC_RESULT (i : Nat) : Nat := 0x30084 + 0x10 * (i % 2)
def SUP_MON_CFG (i : Nat) : Nat := 0x31000 + 0x10 * (i % 240)
def SUP_MON_THR (i : Nat) : Nat := 0x31004 + 0x10 * (i % 240)
def SUP_MON_SLEW (i : Nat) : Nat := 0x3100C + 0x10 * (i % 240)
def SUP_MON_STATUS (i : Nat) : Nat := 0x31008 + 0x10 * (i % 240)
def SUP_TS_CFG (i : Nat) : Nat := 0x32000 + 0x20 * (i % 24)
def SUP_TS_VALUE (i : Nat) : Nat := 0x32004 + 0x20 * (i % 24)
def SUP_TS_STATUS (i : Nat) : Nat := 0x32008 + 0x20 * (i % 24)
def SUP_TS_EDGE (i : Nat) (j : Nat) : Nat := 0x3200C + 0x20 * (i % 24) + 4 * (j % 4)
def SUP_TS_LIMIT (i : Nat) : Nat := 0x3201C + 0x20 * (i % 24)
def PWR_STATUS : Nat := 0x40000
def PWR_EVENT : Nat := 0x40004
def PWR_CMD : Nat := 0x40008
def PWR_DORM_TOL : Nat := 0x4000C
def PWR_LAT_TOL (i : Nat) : Nat := 0x40100 + 4 * (i % 16)
def PWR_SNAP_REEL_LO : Nat := 0x40010
def PWR_SNAP_REEL_HI : Nat := 0x40014
def PWR_TOTAL_ENERGY_LO : Nat := 0x40018
def PWR_TOTAL_ENERGY_HI : Nat := 0x4001C
def PWR_PULSES_LO : Nat := 0x40020
def PWR_PULSES_HI : Nat := 0x40024
def PWR_DECISIONS_LO : Nat := 0x40028
def PWR_DECISIONS_HI : Nat := 0x4002C
def PWR_PARK (i : Nat) : Nat := 0x40200 + 4 * (i % 8)
def PWR_PORT_STATE (i : Nat) : Nat := 0x40300 + 4 * (i % 16)
def PWR_GRP_ENERGY_LO (i : Nat) : Nat := 0x41000 + 0x40 * (i % 16)
def PWR_GRP_ENERGY_HI (i : Nat) : Nat := 0x41004 + 0x40 * (i % 16)
def PWR_GRP_EVENT (i : Nat) : Nat := 0x41008 + 0x40 * (i % 16)
def PWR_GRP_WAKES (i : Nat) : Nat := 0x4100C + 0x40 * (i % 16)
def PWR_GRP_RES (i : Nat) (j : Nat) : Nat := 0x41010 + 0x40 * (i % 16) + 4 * (j % 4)
def GLB_RST_CTL : Nat := 0x40
def GLB_RST_STATUS : Nat := 0x44
def BOB_DIR (i : Nat) (j : Nat) (k : Nat) : Nat := 0xA40000 + 0x2000 * (i % 32) + 0x20 * (j % 256) + 4 * (k % 8)

end Reg

namespace Fld

def GLB_MODE_CTL_REQ : Field := ⟨Reg.GLB_MODE_CTL, 0, 4⟩
def GLB_MODE_CTL_RUN : Field := ⟨Reg.GLB_MODE_CTL, 8, 1⟩
def GLB_MODE_CTL_KEY : Field := ⟨Reg.GLB_MODE_CTL, 24, 8⟩
def GLB_MODE_STATUS_MODE : Field := ⟨Reg.GLB_MODE_STATUS, 0, 3⟩
def GLB_MODE_STATUS_BUSY : Field := ⟨Reg.GLB_MODE_STATUS, 3, 1⟩
def GLB_MODE_STATUS_PREV_MODE : Field := ⟨Reg.GLB_MODE_STATUS, 4, 3⟩
def GLB_MODE_STATUS_HOLD_FROM_RUN : Field := ⟨Reg.GLB_MODE_STATUS, 7, 1⟩
def GLB_MODE_STATUS_LAST_REQ : Field := ⟨Reg.GLB_MODE_STATUS, 8, 4⟩
def GLB_MODE_STATUS_REQ_RESULT : Field := ⟨Reg.GLB_MODE_STATUS, 12, 3⟩
def GLB_MODE_STATUS_LAST_RUN : Field := ⟨Reg.GLB_MODE_STATUS, 15, 1⟩
def GLB_MODE_STATUS_CFG_VALID : Field := ⟨Reg.GLB_MODE_STATUS, 16, 1⟩
def GLB_MODE_STATUS_CAL_DONE : Field := ⟨Reg.GLB_MODE_STATUS, 17, 1⟩
def GLB_MODE_STATUS_REEL_LOCK : Field := ⟨Reg.GLB_MODE_STATUS, 18, 1⟩
def GLB_MODE_STATUS_PLL_LOCK : Field := ⟨Reg.GLB_MODE_STATUS, 19, 1⟩
def GLB_MODE_STATUS_ARM_PENDING : Field := ⟨Reg.GLB_MODE_STATUS, 20, 1⟩
def GLB_MODE_STATUS_MODE_CHG : Field := ⟨Reg.GLB_MODE_STATUS, 24, 1⟩
def GLB_MODE_STATUS_SAFE_OUT : Field := ⟨Reg.GLB_MODE_STATUS, 25, 1⟩
def GLB_MODE_REEL_LO_NS : Field := ⟨Reg.GLB_MODE_REEL_LO, 0, 32⟩
def GLB_MODE_REEL_HI_NS : Field := ⟨Reg.GLB_MODE_REEL_HI, 0, 32⟩
def GLB_CLK_CTL_REF_SRC : Field := ⟨Reg.GLB_CLK_CTL, 0, 3⟩
def GLB_CLK_CTL_SYNC : Field := ⟨Reg.GLB_CLK_CTL, 8, 1⟩
def GLB_CLK_STATUS_REF_PRESENT : Field := ⟨Reg.GLB_CLK_STATUS, 0, 1⟩
def GLB_CLK_STATUS_PLL_LOCK : Field := ⟨Reg.GLB_CLK_STATUS, 1, 1⟩
def GLB_CLK_STATUS_TUNE_FROZEN : Field := ⟨Reg.GLB_CLK_STATUS, 2, 1⟩
def GLB_CLK_STATUS_SYNC_DONE : Field := ⟨Reg.GLB_CLK_STATUS, 3, 1⟩
def GLB_CLK_STATUS_REF_LOSS : Field := ⟨Reg.GLB_CLK_STATUS, 4, 1⟩
def GLB_CLK_STATUS_PLL_UNLOCK : Field := ⟨Reg.GLB_CLK_STATUS, 5, 1⟩
def GLB_CLK_STATUS_SYNC_REFUSED : Field := ⟨Reg.GLB_CLK_STATUS, 6, 1⟩
def GLB_CLK_STATUS_SYNC_COUNT : Field := ⟨Reg.GLB_CLK_STATUS, 8, 8⟩
def GLB_DRV_MAP_PORT (i : Nat) : Field := ⟨Reg.GLB_DRV_MAP i, 0, 5⟩
def GLB_DRV_MAP_SLOT (i : Nat) : Field := ⟨Reg.GLB_DRV_MAP i, 8, 4⟩
def GLB_DRV_MAP_SPINDLE (i : Nat) : Field := ⟨Reg.GLB_DRV_MAP i, 16, 6⟩
def GLB_DRV_MAP_VALID (i : Nat) : Field := ⟨Reg.GLB_DRV_MAP i, 31, 1⟩
def GLB_PRB_MAP_PORT (i : Nat) : Field := ⟨Reg.GLB_PRB_MAP i, 0, 5⟩
def GLB_PRB_MAP_SLOT (i : Nat) : Field := ⟨Reg.GLB_PRB_MAP i, 8, 4⟩
def GLB_PRB_MAP_SPINDLE (i : Nat) : Field := ⟨Reg.GLB_PRB_MAP i, 16, 6⟩
def GLB_PRB_MAP_VALID (i : Nat) : Field := ⟨Reg.GLB_PRB_MAP i, 31, 1⟩
def GLB_RDO_MAP_PORT (i : Nat) : Field := ⟨Reg.GLB_RDO_MAP i, 0, 5⟩
def GLB_RDO_MAP_SLOT (i : Nat) : Field := ⟨Reg.GLB_RDO_MAP i, 8, 4⟩
def GLB_RDO_MAP_SPINDLE (i : Nat) : Field := ⟨Reg.GLB_RDO_MAP i, 16, 6⟩
def GLB_RDO_MAP_VALID (i : Nat) : Field := ⟨Reg.GLB_RDO_MAP i, 31, 1⟩
def TLN_CTL_SRC : Field := ⟨Reg.TLN_CTL, 0, 3⟩
def TLN_CTL_PTP_PRIMARY : Field := ⟨Reg.TLN_CTL, 4, 1⟩
def TLN_CMD_ACCEPT : Field := ⟨Reg.TLN_CMD, 0, 2⟩
def TLN_STATUS_STATE : Field := ⟨Reg.TLN_STATUS, 0, 2⟩
def TLN_STATUS_REEL_LOCK : Field := ⟨Reg.TLN_STATUS, 2, 1⟩
def TLN_STATUS_VALID : Field := ⟨Reg.TLN_STATUS, 3, 1⟩
def TLN_STATUS_SERVO_FROZEN : Field := ⟨Reg.TLN_STATUS, 4, 1⟩
def TLN_STATUS_REFUSAL_STORED : Field := ⟨Reg.TLN_STATUS, 5, 1⟩
def TLN_STATUS_ASYM_PORT : Field := ⟨Reg.TLN_STATUS, 6, 1⟩
def TLN_STATUS_SRC_QUALIFIED : Field := ⟨Reg.TLN_STATUS, 7, 1⟩
def TLN_EVENT_STEP_REF_BACK : Field := ⟨Reg.TLN_EVENT, 0, 1⟩
def TLN_EVENT_STEP_REF_FWD : Field := ⟨Reg.TLN_EVENT, 1, 1⟩
def TLN_EVENT_HOLD_ENTER : Field := ⟨Reg.TLN_EVENT, 2, 1⟩
def TLN_EVENT_HOLD_EXIT : Field := ⟨Reg.TLN_EVENT, 3, 1⟩
def TLN_EVENT_LOCK : Field := ⟨Reg.TLN_EVENT, 4, 1⟩
def TLN_EVENT_PATH_ASYM : Field := ⟨Reg.TLN_EVENT, 5, 1⟩
def TLN_EVENT_PATH_LOSS : Field := ⟨Reg.TLN_EVENT, 6, 1⟩
def TLN_EVENT_SRC_LOSS : Field := ⟨Reg.TLN_EVENT, 7, 1⟩
def TLN_EVENT_TCODE_ERR : Field := ⟨Reg.TLN_EVENT, 8, 1⟩
def TLN_EVENT_LEAP_APPLIED : Field := ⟨Reg.TLN_EVENT, 9, 1⟩
def TLN_EVENT_LAUNCH_DONE : Field := ⟨Reg.TLN_EVENT, 10, 1⟩
def TLN_EVENT_LAUNCH_MISSED : Field := ⟨Reg.TLN_EVENT, 11, 1⟩
def TLN_EVENT_LAUNCH_DEFERRED : Field := ⟨Reg.TLN_EVENT, 12, 1⟩
def TLN_EVENT_HOLD_EXPIRED : Field := ⟨Reg.TLN_EVENT, 13, 1⟩
def TLN_EVENT_SLEW_DONE : Field := ⟨Reg.TLN_EVENT, 14, 1⟩
def TLN_EVENT_GM_CHANGE : Field := ⟨Reg.TLN_EVENT, 15, 1⟩
def TLN_REEL_NS_LO_VALUE : Field := ⟨Reg.TLN_REEL_NS_LO, 0, 32⟩
def TLN_REEL_NS_HI_VALUE : Field := ⟨Reg.TLN_REEL_NS_HI, 0, 32⟩
def TLN_REEL_FRAC_VALUE : Field := ⟨Reg.TLN_REEL_FRAC, 0, 32⟩
def TLN_SET_LO_NS : Field := ⟨Reg.TLN_SET_LO, 0, 32⟩
def TLN_SET_HI_NS : Field := ⟨Reg.TLN_SET_HI, 0, 32⟩
def TLN_ADJ_ADJ : Field := ⟨Reg.TLN_ADJ, 0, 24⟩
def TLN_ADJ_SIGN : Field := ⟨Reg.TLN_ADJ, 24, 8⟩
def TLN_HOLD_ADJ_ADJ : Field := ⟨Reg.TLN_HOLD_ADJ, 0, 24⟩
def TLN_HOLD_ADJ_SIGN : Field := ⟨Reg.TLN_HOLD_ADJ, 24, 8⟩
def TLN_JUMP_LIMIT_NS : Field := ⟨Reg.TLN_JUMP_LIMIT, 0, 32⟩
def TLN_SLEW_MAX_MAX : Field := ⟨Reg.TLN_SLEW_MAX, 0, 23⟩
def TLN_LOCK_CFG_THRESH : Field := ⟨Reg.TLN_LOCK_CFG, 0, 16⟩
def TLN_LOCK_CFG_COUNT : Field := ⟨Reg.TLN_LOCK_CFG, 16, 8⟩
def TLN_HOLD_POLICY_POLICY : Field := ⟨Reg.TLN_HOLD_POLICY, 0, 2⟩
def TLN_HOLD_POLICY_MAX : Field := ⟨Reg.TLN_HOLD_POLICY, 16, 16⟩
def TLN_SERVO_KP_GAIN : Field := ⟨Reg.TLN_SERVO_KP, 0, 32⟩
def TLN_SERVO_KI_GAIN : Field := ⟨Reg.TLN_SERVO_KI, 0, 32⟩
def TLN_OFFSET_E : Field := ⟨Reg.TLN_OFFSET, 0, 32⟩
def TLN_ASYM_THRESH_NS : Field := ⟨Reg.TLN_ASYM_THRESH, 0, 24⟩
def TLN_UTC_OFFSET_CURRENT : Field := ⟨Reg.TLN_UTC_OFFSET, 0, 8⟩
def TLN_UTC_OFFSET_NEXT : Field := ⟨Reg.TLN_UTC_OFFSET, 8, 8⟩
def TLN_UTC_OFFSET_NEXT_ARM : Field := ⟨Reg.TLN_UTC_OFFSET, 16, 1⟩
def TLN_REFUSED_LO_NS : Field := ⟨Reg.TLN_REFUSED_LO, 0, 32⟩
def TLN_REFUSED_HI_NS : Field := ⟨Reg.TLN_REFUSED_HI, 0, 32⟩
def TLN_COUNT_REFUSED : Field := ⟨Reg.TLN_COUNT, 0, 8⟩
def TLN_COUNT_HOLD_ENTRIES : Field := ⟨Reg.TLN_COUNT, 8, 8⟩
def TLN_COUNT_ASYM : Field := ⟨Reg.TLN_COUNT, 16, 8⟩
def TLN_COUNT_PATH_LOSS : Field := ⟨Reg.TLN_COUNT, 24, 8⟩
def TLN_PTP_CFG_EN (i : Nat) : Field := ⟨Reg.TLN_PTP_CFG i, 0, 1⟩
def TLN_PTP_CFG_TRANSPORT (i : Nat) : Field := ⟨Reg.TLN_PTP_CFG i, 1, 1⟩
def TLN_PTP_CFG_DOMAIN (i : Nat) : Field := ⟨Reg.TLN_PTP_CFG i, 8, 8⟩
def TLN_PTP_CFG_LOG_DREQ (i : Nat) : Field := ⟨Reg.TLN_PTP_CFG i, 16, 4⟩
def TLN_PTP_MAC_LO_ADDR (i : Nat) : Field := ⟨Reg.TLN_PTP_MAC_LO i, 0, 32⟩
def TLN_PTP_MAC_HI_ADDR (i : Nat) : Field := ⟨Reg.TLN_PTP_MAC_HI i, 0, 32⟩
def TLN_PTP_IPV4_ADDR (i : Nat) : Field := ⟨Reg.TLN_PTP_IPV4 i, 0, 32⟩
def TLN_PTP_CORR_INGRESS (i : Nat) : Field := ⟨Reg.TLN_PTP_CORR i, 0, 16⟩
def TLN_PTP_CORR_EGRESS (i : Nat) : Field := ⟨Reg.TLN_PTP_CORR i, 16, 16⟩
def TLN_PTP_OFFSET_NS (i : Nat) : Field := ⟨Reg.TLN_PTP_OFFSET i, 0, 32⟩
def TLN_PTP_DELAY_NS (i : Nat) : Field := ⟨Reg.TLN_PTP_DELAY i, 0, 32⟩
def TLN_PTP_STATUS_QUALIFIED (i : Nat) : Field := ⟨Reg.TLN_PTP_STATUS i, 0, 1⟩
def TLN_PTP_STATUS_PRIMARY (i : Nat) : Field := ⟨Reg.TLN_PTP_STATUS i, 1, 1⟩
def TLN_PTP_STATUS_RX_DROP (i : Nat) : Field := ⟨Reg.TLN_PTP_STATUS i, 16, 16⟩
def TLN_LAUNCH_T_LO_NS (i : Nat) : Field := ⟨Reg.TLN_LAUNCH_T_LO i, 0, 32⟩
def TLN_LAUNCH_T_HI_NS (i : Nat) : Field := ⟨Reg.TLN_LAUNCH_T_HI i, 0, 32⟩
def TLN_LAUNCH_ACT_LO_NS (i : Nat) : Field := ⟨Reg.TLN_LAUNCH_ACT_LO i, 0, 32⟩
def TLN_LAUNCH_ACT_HI_NS (i : Nat) : Field := ⟨Reg.TLN_LAUNCH_ACT_HI i, 0, 32⟩
def TLN_LAUNCH_CFG_ARM (i : Nat) : Field := ⟨Reg.TLN_LAUNCH_CFG i, 0, 1⟩
def TLN_LAUNCH_CFG_PORT (i : Nat) : Field := ⟨Reg.TLN_LAUNCH_CFG i, 1, 1⟩
def TLN_LAUNCH_CFG_MISSED (i : Nat) : Field := ⟨Reg.TLN_LAUNCH_CFG i, 2, 1⟩
def TLN_LAUNCH_CFG_DEFERRED (i : Nat) : Field := ⟨Reg.TLN_LAUNCH_CFG i, 3, 1⟩
def TLN_LAUNCH_CFG_LEN (i : Nat) : Field := ⟨Reg.TLN_LAUNCH_CFG i, 4, 12⟩
def TLN_LAUNCH_CFG_ADDR (i : Nat) : Field := ⟨Reg.TLN_LAUNCH_CFG i, 16, 16⟩
def SPN_CTL_ENTRY (i : Nat) : Field := ⟨Reg.SPN_CTL i, 0, 13⟩
def SPN_CTL_EN (i : Nat) : Field := ⟨Reg.SPN_CTL i, 16, 1⟩
def SPN_CMD_PREEMPT (i : Nat) : Field := ⟨Reg.SPN_CMD i, 0, 8⟩
def SPN_STATUS_PC (i : Nat) : Field := ⟨Reg.SPN_STATUS i, 0, 13⟩
def SPN_STATUS_STATE (i : Nat) : Field := ⟨Reg.SPN_STATUS i, 16, 3⟩
def SPN_STATUS_COMMITTED (i : Nat) : Field := ⟨Reg.SPN_STATUS i, 19, 1⟩
def SPN_STATUS_IN_HANDLER (i : Nat) : Field := ⟨Reg.SPN_STATUS i, 20, 1⟩
def SPN_STATUS_HANDLER_VEC (i : Nat) : Field := ⟨Reg.SPN_STATUS i, 21, 3⟩
def SPN_STATUS_HELD (i : Nat) : Field := ⟨Reg.SPN_STATUS i, 24, 1⟩
def SPN_STATUS_SCOUT_STOPPED (i : Nat) : Field := ⟨Reg.SPN_STATUS i, 25, 1⟩
def SPN_STATUS_SCOUT_HORIZON (i : Nat) : Field := ⟨Reg.SPN_STATUS i, 26, 1⟩
def SPN_EVENT_IRQ (i : Nat) : Field := ⟨Reg.SPN_EVENT i, 0, 1⟩
def SPN_EVENT_RESULT (i : Nat) : Field := ⟨Reg.SPN_EVENT i, 1, 1⟩
def SPN_EVENT_LATE (i : Nat) : Field := ⟨Reg.SPN_EVENT i, 2, 1⟩
def SPN_EVENT_WTS_TIMEOUT (i : Nat) : Field := ⟨Reg.SPN_EVENT i, 3, 1⟩
def SPN_EVENT_ABANDON (i : Nat) : Field := ⟨Reg.SPN_EVENT i, 4, 1⟩
def SPN_EVENT_COINCIDENT (i : Nat) : Field := ⟨Reg.SPN_EVENT i, 5, 1⟩
def SPN_EVENT_OVERRUN (i : Nat) : Field := ⟨Reg.SPN_EVENT i, 6, 1⟩
def SPN_EVENT_ECC_CORR (i : Nat) : Field := ⟨Reg.SPN_EVENT i, 7, 1⟩
def SPN_EVENT_ECC_HARD (i : Nat) : Field := ⟨Reg.SPN_EVENT i, 8, 1⟩
def SPN_EVENT_ECC_UNCORR (i : Nat) : Field := ⟨Reg.SPN_EVENT i, 9, 1⟩
def SPN_EVENT_ILLEGAL (i : Nat) : Field := ⟨Reg.SPN_EVENT i, 10, 1⟩
def SPN_EVENT_POST_OVF (i : Nat) : Field := ⟨Reg.SPN_EVENT i, 11, 1⟩
def SPN_EVENT_HALTED (i : Nat) : Field := ⟨Reg.SPN_EVENT i, 12, 1⟩
def SPN_EVENT_EN_IRQ (i : Nat) : Field := ⟨Reg.SPN_EVENT_EN i, 0, 1⟩
def SPN_EVENT_EN_RESULT (i : Nat) : Field := ⟨Reg.SPN_EVENT_EN i, 1, 1⟩
def SPN_EVENT_EN_LATE (i : Nat) : Field := ⟨Reg.SPN_EVENT_EN i, 2, 1⟩
def SPN_EVENT_EN_WTS_TIMEOUT (i : Nat) : Field := ⟨Reg.SPN_EVENT_EN i, 3, 1⟩
def SPN_EVENT_EN_ABANDON (i : Nat) : Field := ⟨Reg.SPN_EVENT_EN i, 4, 1⟩
def SPN_EVENT_EN_COINCIDENT (i : Nat) : Field := ⟨Reg.SPN_EVENT_EN i, 5, 1⟩
def SPN_EVENT_EN_OVERRUN (i : Nat) : Field := ⟨Reg.SPN_EVENT_EN i, 6, 1⟩
def SPN_EVENT_EN_ECC_CORR (i : Nat) : Field := ⟨Reg.SPN_EVENT_EN i, 7, 1⟩
def SPN_EVENT_EN_ECC_HARD (i : Nat) : Field := ⟨Reg.SPN_EVENT_EN i, 8, 1⟩
def SPN_EVENT_EN_ECC_UNCORR (i : Nat) : Field := ⟨Reg.SPN_EVENT_EN i, 9, 1⟩
def SPN_EVENT_EN_ILLEGAL (i : Nat) : Field := ⟨Reg.SPN_EVENT_EN i, 10, 1⟩
def SPN_EVENT_EN_POST_OVF (i : Nat) : Field := ⟨Reg.SPN_EVENT_EN i, 11, 1⟩
def SPN_EVENT_EN_HALTED (i : Nat) : Field := ⟨Reg.SPN_EVENT_EN i, 12, 1⟩
def SPN_SIN_BITS (i : Nat) : Field := ⟨Reg.SPN_SIN i, 0, 16⟩
def SPN_SIN_OVR_BITS (i : Nat) : Field := ⟨Reg.SPN_SIN_OVR i, 0, 16⟩
def SPN_PEND_PEND (i : Nat) : Field := ⟨Reg.SPN_PEND i, 0, 8⟩
def SPN_PEND_RESUME (i : Nat) : Field := ⟨Reg.SPN_PEND i, 16, 9⟩
def SPN_VEC_ENTRY (i : Nat) (j : Nat) : Field := ⟨Reg.SPN_VEC i j, 0, 13⟩
def SPN_VEC_SRC (i : Nat) (j : Nat) : Field := ⟨Reg.SPN_VEC i j, 16, 5⟩
def SPN_VEC_EN (i : Nat) (j : Nat) : Field := ⟨Reg.SPN_VEC i j, 24, 1⟩
def SPN_VEC_OVERRUN (i : Nat) (j : Nat) : Field := ⟨Reg.SPN_VEC i j, 25, 1⟩
def SPN_RESUME_ADDR (i : Nat) : Field := ⟨Reg.SPN_RESUME i, 0, 13⟩
def SPN_RESUME_HALT (i : Nat) : Field := ⟨Reg.SPN_RESUME i, 16, 1⟩
def SPN_COUNT_LATE (i : Nat) : Field := ⟨Reg.SPN_COUNT i, 0, 8⟩
def SPN_COUNT_ABANDON (i : Nat) : Field := ⟨Reg.SPN_COUNT i, 8, 8⟩
def SPN_COUNT_OVERRUN (i : Nat) : Field := ⟨Reg.SPN_COUNT i, 16, 8⟩
def SPN_COUNT_ECC_CORR (i : Nat) : Field := ⟨Reg.SPN_COUNT i, 24, 8⟩
def SPN_ERR_ADDR (i : Nat) : Field := ⟨Reg.SPN_ERR i, 0, 13⟩
def SPN_IRQ_CODE_CODE (i : Nat) : Field := ⟨Reg.SPN_IRQ_CODE i, 0, 8⟩
def SPN_DBG_HALT (i : Nat) : Field := ⟨Reg.SPN_DBG i, 0, 1⟩
def SPN_DBG_STEP (i : Nat) : Field := ⟨Reg.SPN_DBG i, 1, 1⟩
def SPN_DBG_RESUME (i : Nat) : Field := ⟨Reg.SPN_DBG i, 2, 1⟩
def SPN_RESULT_VALUE (i : Nat) (j : Nat) : Field := ⟨Reg.SPN_RESULT i j, 0, 32⟩
def SPN_G_VALUE (i : Nat) (j : Nat) : Field := ⟨Reg.SPN_G i j, 0, 32⟩
def SPN_LC_VALUE (i : Nat) (j : Nat) : Field := ⟨Reg.SPN_LC i j, 0, 32⟩
def SPN_TB_LO_VALUE (i : Nat) : Field := ⟨Reg.SPN_TB_LO i, 0, 32⟩
def SPN_TB_HI_VALUE (i : Nat) : Field := ⟨Reg.SPN_TB_HI i, 0, 32⟩
def SPN_CA_LO_VALUE (i : Nat) : Field := ⟨Reg.SPN_CA_LO i, 0, 32⟩
def SPN_CA_HI_VALUE (i : Nat) : Field := ⟨Reg.SPN_CA_HI i, 0, 32⟩
def SYN_EVENT_CLIP : Field := ⟨Reg.SYN_EVENT, 0, 1⟩
def SYN_EVENT_BAND_ERR : Field := ⟨Reg.SYN_EVENT, 1, 1⟩
def SYN_EVENT_ASLEEP : Field := ⟨Reg.SYN_EVENT, 2, 1⟩
def SYN_EVENT_FLX_CLIP : Field := ⟨Reg.SYN_EVENT, 3, 1⟩
def SYN_STATUS_BAND : Field := ⟨Reg.SYN_STATUS, 0, 3⟩
def SYN_PORT_CFG_EN (i : Nat) : Field := ⟨Reg.SYN_PORT_CFG i, 0, 1⟩
def SYN_PORT_CFG_SINC_COMP (i : Nat) : Field := ⟨Reg.SYN_PORT_CFG i, 1, 1⟩
def SYN_PORT_CFG_GAIN (i : Nat) : Field := ⟨Reg.SYN_PORT_CFG i, 16, 16⟩
def SYN_PORT_BAND_LO_MHZ (i : Nat) : Field := ⟨Reg.SYN_PORT_BAND i, 0, 14⟩
def SYN_PORT_BAND_HI_MHZ (i : Nat) : Field := ⟨Reg.SYN_PORT_BAND i, 16, 14⟩
def SYN_PORT_EVENT_CLIP (i : Nat) : Field := ⟨Reg.SYN_PORT_EVENT i, 0, 1⟩
def SYN_PORT_EVENT_BAND_ERR (i : Nat) : Field := ⟨Reg.SYN_PORT_EVENT i, 1, 1⟩
def SYN_PORT_EVENT_ASLEEP (i : Nat) : Field := ⟨Reg.SYN_PORT_EVENT i, 2, 1⟩
def SYN_PORT_CLIP_CNT_COUNT (i : Nat) : Field := ⟨Reg.SYN_PORT_CLIP_CNT i, 0, 32⟩
def SYN_PORT_ASLEEP_CNT_COUNT (i : Nat) : Field := ⟨Reg.SYN_PORT_ASLEEP_CNT i, 0, 32⟩
def SYN_PWR_ENV_PEAK (i : Nat) (j : Nat) : Field := ⟨Reg.SYN_PWR_ENV i j, 0, 16⟩
def SYN_PWR_ENV_AVG (i : Nat) (j : Nat) : Field := ⟨Reg.SYN_PWR_ENV i j, 16, 16⟩
def SYN_CH_CFG_PHASE_MODE (i : Nat) : Field := ⟨Reg.SYN_CH_CFG i, 0, 1⟩
def SYN_CH_FTW_LO_FTW (i : Nat) : Field := ⟨Reg.SYN_CH_FTW_LO i, 0, 32⟩
def SYN_CH_FTW_HI_FTW (i : Nat) : Field := ⟨Reg.SYN_CH_FTW_HI i, 0, 32⟩
def SYN_CH_INIT_FTW_LO_FTW (i : Nat) : Field := ⟨Reg.SYN_CH_INIT_FTW_LO i, 0, 32⟩
def SYN_CH_INIT_FTW_HI_FTW (i : Nat) : Field := ⟨Reg.SYN_CH_INIT_FTW_HI i, 0, 32⟩
def SYN_CH_PHASE_PH (i : Nat) : Field := ⟨Reg.SYN_CH_PHASE i, 0, 16⟩
def SYN_CH_INIT_PHASE_PH (i : Nat) : Field := ⟨Reg.SYN_CH_INIT_PHASE i, 0, 16⟩
def SYN_CH_STATUS_PLAYING (i : Nat) : Field := ⟨Reg.SYN_CH_STATUS i, 0, 1⟩
def SYN_CH_STATUS_MUTED_BAND (i : Nat) : Field := ⟨Reg.SYN_CH_STATUS i, 1, 1⟩
def SYN_CH_STATUS_CUT (i : Nat) : Field := ⟨Reg.SYN_CH_STATUS i, 16, 16⟩
def SYN_FLX_CFG_EN (i : Nat) : Field := ⟨Reg.SYN_FLX_CFG i, 0, 1⟩
def SYN_FLX_CFG_PD_EN (i : Nat) : Field := ⟨Reg.SYN_FLX_CFG i, 1, 1⟩
def SYN_FLX_CFG_HOLD_LAST (i : Nat) : Field := ⟨Reg.SYN_FLX_CFG i, 2, 1⟩
def SYN_FLX_CFG_NSEC (i : Nat) : Field := ⟨Reg.SYN_FLX_CFG i, 8, 4⟩
def SYN_FLX_G_COEF (i : Nat) : Field := ⟨Reg.SYN_FLX_G i, 0, 32⟩
def SYN_FLX_IIR_A_COEF (i : Nat) (j : Nat) : Field := ⟨Reg.SYN_FLX_IIR_A i j, 0, 32⟩
def SYN_FLX_IIR_B_COEF (i : Nat) (j : Nat) : Field := ⟨Reg.SYN_FLX_IIR_B i j, 0, 32⟩
def SYN_FLX_FIR_COEF (i : Nat) (j : Nat) : Field := ⟨Reg.SYN_FLX_FIR i j, 0, 24⟩
def SYN_FLX_EVENT_CLIP (i : Nat) : Field := ⟨Reg.SYN_FLX_EVENT i, 0, 1⟩
def SYN_FLX_CLIP_CNT_COUNT (i : Nat) : Field := ⟨Reg.SYN_FLX_CLIP_CNT i, 0, 32⟩
def SYN_BIA_CFG_EN (i : Nat) : Field := ⟨Reg.SYN_BIA_CFG i, 0, 1⟩
def SYN_BIA_SLEW_CODE (i : Nat) : Field := ⟨Reg.SYN_BIA_SLEW i, 0, 20⟩
def SYN_BIA_SAFE_SLEW_CODE (i : Nat) : Field := ⟨Reg.SYN_BIA_SAFE_SLEW i, 0, 20⟩
def SYN_BIA_TARGET_CODE (i : Nat) : Field := ⟨Reg.SYN_BIA_TARGET i, 0, 20⟩
def SYN_BIA_NOW_CODE (i : Nat) : Field := ⟨Reg.SYN_BIA_NOW i, 0, 20⟩
def SYN_MRK_CFG_SPINDLE (i : Nat) : Field := ⟨Reg.SYN_MRK_CFG i, 0, 6⟩
def SYN_MRK_CFG_VALID (i : Nat) : Field := ⟨Reg.SYN_MRK_CFG i, 31, 1⟩
def SYN_TRG_CFG_SRC (i : Nat) : Field := ⟨Reg.SYN_TRG_CFG i, 0, 2⟩
def SYN_TRG_CFG_KIND (i : Nat) : Field := ⟨Reg.SYN_TRG_CFG i, 2, 2⟩
def SYN_TRG_CFG_CH (i : Nat) : Field := ⟨Reg.SYN_TRG_CFG i, 4, 8⟩
def SYN_TRG_CFG_SPINDLE (i : Nat) : Field := ⟨Reg.SYN_TRG_CFG i, 12, 6⟩
def SYN_TRG_CFG_WIDTH (i : Nat) : Field := ⟨Reg.SYN_TRG_CFG i, 18, 14⟩
def SYN_MRK_LEVEL_LEVEL : Field := ⟨Reg.SYN_MRK_LEVEL, 0, 32⟩
def SYN_TRG_LEVEL_LEVEL : Field := ⟨Reg.SYN_TRG_LEVEL, 0, 32⟩
def STM_EVENT_JUMP_LATE : Field := ⟨Reg.STM_EVENT, 0, 1⟩
def STM_EVENT_JUMP_DROP : Field := ⟨Reg.STM_EVENT, 1, 1⟩
def STM_EVENT_FAMINE : Field := ⟨Reg.STM_EVENT, 2, 1⟩
def STM_EVENT_UNDERRUN : Field := ⟨Reg.STM_EVENT, 3, 1⟩
def STM_UR_HEAD_NEXT : Field := ⟨Reg.STM_UR_HEAD, 0, 4⟩
def STM_UR_HEAD_PENDING : Field := ⟨Reg.STM_UR_HEAD, 4, 5⟩
def STM_UR_HEAD_ACK : Field := ⟨Reg.STM_UR_HEAD, 12, 4⟩
def STM_UR_HEAD_LOST : Field := ⟨Reg.STM_UR_HEAD, 16, 16⟩
def STM_UR_LOG_REEL_LO_NS (i : Nat) : Field := ⟨Reg.STM_UR_LOG_REEL_LO i, 0, 32⟩
def STM_UR_LOG_REEL_HI_NS (i : Nat) : Field := ⟨Reg.STM_UR_LOG_REEL_HI i, 0, 32⟩
def STM_UR_LOG_INFO_TARGET (i : Nat) : Field := ⟨Reg.STM_UR_LOG_INFO i, 0, 10⟩
def STM_UR_LOG_INFO_STREAM (i : Nat) : Field := ⟨Reg.STM_UR_LOG_INFO i, 10, 6⟩
def STM_UR_LOG_INFO_SUBTICK (i : Nat) : Field := ⟨Reg.STM_UR_LOG_INFO i, 16, 6⟩
def STM_UR_LOG_INFO_CAUSE (i : Nat) : Field := ⟨Reg.STM_UR_LOG_INFO i, 22, 2⟩
def STM_UR_LOG_POS_POS (i : Nat) : Field := ⟨Reg.STM_UR_LOG_POS i, 0, 32⟩
def STM_TGT_TBL_BASE (i : Nat) : Field := ⟨Reg.STM_TGT_TBL i, 0, 21⟩
def STM_TGT_CNT_COUNT (i : Nat) : Field := ⟨Reg.STM_TGT_CNT i, 0, 16⟩
def STM_TGT_STATUS_SEG (i : Nat) : Field := ⟨Reg.STM_TGT_STATUS i, 0, 16⟩
def STM_TGT_STATUS_PLAYING (i : Nat) : Field := ⟨Reg.STM_TGT_STATUS i, 16, 1⟩
def STM_TGT_STATUS_JUMP_PEND (i : Nat) : Field := ⟨Reg.STM_TGT_STATUS i, 17, 1⟩
def STM_TGT_STATUS_MUTED_UR (i : Nat) : Field := ⟨Reg.STM_TGT_STATUS i, 18, 1⟩
def STM_TGT_PASS_PASS (i : Nat) : Field := ⟨Reg.STM_TGT_PASS i, 0, 16⟩
def STM_TGT_PASS_PEND_SEG (i : Nat) : Field := ⟨Reg.STM_TGT_PASS i, 16, 16⟩
def STM_TGT_EVENT_JUMP_DONE (i : Nat) : Field := ⟨Reg.STM_TGT_EVENT i, 0, 1⟩
def STM_TGT_EVENT_JUMP_LATE (i : Nat) : Field := ⟨Reg.STM_TGT_EVENT i, 1, 1⟩
def STM_TGT_EVENT_JUMP_REPLACED (i : Nat) : Field := ⟨Reg.STM_TGT_EVENT i, 2, 1⟩
def STM_TGT_EVENT_JUMP_DROP (i : Nat) : Field := ⟨Reg.STM_TGT_EVENT i, 3, 1⟩
def STM_TGT_EVENT_UNDERRUN (i : Nat) : Field := ⟨Reg.STM_TGT_EVENT i, 4, 1⟩
def STM_TGT_JCNT_JUMPS (i : Nat) : Field := ⟨Reg.STM_TGT_JCNT i, 0, 16⟩
def STM_TGT_JCNT_LATE (i : Nat) : Field := ⟨Reg.STM_TGT_JCNT i, 16, 16⟩
def STM_RV_CFG_EN (i : Nat) : Field := ⟨Reg.STM_RV_CFG i, 0, 1⟩
def STM_RV_CFG_SRC (i : Nat) : Field := ⟨Reg.STM_RV_CFG i, 1, 2⟩
def STM_RV_CFG_COMPRESSED (i : Nat) : Field := ⟨Reg.STM_RV_CFG i, 3, 1⟩
def STM_RV_CFG_WRAP (i : Nat) : Field := ⟨Reg.STM_RV_CFG i, 4, 1⟩
def STM_RV_CFG_QUEUE (i : Nat) : Field := ⟨Reg.STM_RV_CFG i, 8, 5⟩
def STM_RV_RING_BASE (i : Nat) : Field := ⟨Reg.STM_RV_RING i, 0, 13⟩
def STM_RV_RING_SIZE (i : Nat) : Field := ⟨Reg.STM_RV_RING i, 16, 13⟩
def STM_RV_WM_LOW (i : Nat) : Field := ⟨Reg.STM_RV_WM i, 0, 16⟩
def STM_RV_WM_PRIME (i : Nat) : Field := ⟨Reg.STM_RV_WM i, 16, 16⟩
def STM_RV_SRC_LO_VALUE (i : Nat) : Field := ⟨Reg.STM_RV_SRC_LO i, 0, 32⟩
def STM_RV_SRC_HI_VALUE (i : Nat) : Field := ⟨Reg.STM_RV_SRC_HI i, 0, 32⟩
def STM_RV_LEN_VALUE (i : Nat) : Field := ⟨Reg.STM_RV_LEN i, 0, 32⟩
def STM_RV_CMD_RESTART (i : Nat) : Field := ⟨Reg.STM_RV_CMD i, 0, 1⟩
def STM_RV_STATUS_STATE (i : Nat) : Field := ⟨Reg.STM_RV_STATUS i, 0, 2⟩
def STM_RV_FILL_BYTES (i : Nat) : Field := ⟨Reg.STM_RV_FILL i, 0, 25⟩
def STM_RV_EVENT_PRIMED (i : Nat) : Field := ⟨Reg.STM_RV_EVENT i, 0, 1⟩
def STM_RV_EVENT_FAMINE (i : Nat) : Field := ⟨Reg.STM_RV_EVENT i, 1, 1⟩
def STM_RV_EVENT_UNDERRUN (i : Nat) : Field := ⟨Reg.STM_RV_EVENT i, 2, 1⟩
def STM_RV_EVENT_SRC_ERR (i : Nat) : Field := ⟨Reg.STM_RV_EVENT i, 3, 1⟩
def STM_RV_EVENT_WRAPPED (i : Nat) : Field := ⟨Reg.STM_RV_EVENT i, 4, 1⟩
def STM_RV_EVENT_EN_PRIMED (i : Nat) : Field := ⟨Reg.STM_RV_EVENT_EN i, 0, 1⟩
def STM_RV_EVENT_EN_FAMINE (i : Nat) : Field := ⟨Reg.STM_RV_EVENT_EN i, 1, 1⟩
def STM_RV_EVENT_EN_UNDERRUN (i : Nat) : Field := ⟨Reg.STM_RV_EVENT_EN i, 2, 1⟩
def STM_RV_EVENT_EN_SRC_ERR (i : Nat) : Field := ⟨Reg.STM_RV_EVENT_EN i, 3, 1⟩
def STM_RV_EVENT_EN_WRAPPED (i : Nat) : Field := ⟨Reg.STM_RV_EVENT_EN i, 4, 1⟩
def STM_RV_POS_LO_POS (i : Nat) : Field := ⟨Reg.STM_RV_POS_LO i, 0, 32⟩
def STM_RV_POS_HI_POS (i : Nat) : Field := ⟨Reg.STM_RV_POS_HI i, 0, 32⟩
def STM_RV_COUNT_FAMINE (i : Nat) : Field := ⟨Reg.STM_RV_COUNT i, 0, 16⟩
def STM_RV_COUNT_UNDERRUN (i : Nat) : Field := ⟨Reg.STM_RV_COUNT i, 16, 16⟩
def RDO_EVENT_OVERRANGE : Field := ⟨Reg.RDO_EVENT, 0, 1⟩
def RDO_EVENT_SAT : Field := ⟨Reg.RDO_EVENT, 1, 1⟩
def RDO_EVENT_COMB_CLIP : Field := ⟨Reg.RDO_EVENT, 2, 1⟩
def RDO_EVENT_TONE_REFUSED : Field := ⟨Reg.RDO_EVENT, 3, 1⟩
def RDO_STATUS_CAL_SET : Field := ⟨Reg.RDO_STATUS, 0, 3⟩
def RDO_ACQ_CFG_EN (i : Nat) : Field := ⟨Reg.RDO_ACQ_CFG i, 0, 1⟩
def RDO_ACQ_CFG_MODE (i : Nat) : Field := ⟨Reg.RDO_ACQ_CFG i, 1, 1⟩
def RDO_ACQ_BAND_LO_MHZ (i : Nat) : Field := ⟨Reg.RDO_ACQ_BAND i, 0, 14⟩
def RDO_ACQ_BAND_HI_MHZ (i : Nat) : Field := ⟨Reg.RDO_ACQ_BAND i, 16, 14⟩
def RDO_ACQ_ATT_ATT (i : Nat) : Field := ⟨Reg.RDO_ACQ_ATT i, 0, 5⟩
def RDO_ACQ_EVENT_OVERRANGE (i : Nat) : Field := ⟨Reg.RDO_ACQ_EVENT i, 0, 1⟩
def RDO_ACQ_EVENT_SAT (i : Nat) : Field := ⟨Reg.RDO_ACQ_EVENT i, 1, 1⟩
def RDO_ACQ_OVR_CNT_COUNT (i : Nat) : Field := ⟨Reg.RDO_ACQ_OVR_CNT i, 0, 32⟩
def RDO_ACQ_STATUS_ACTIVE (i : Nat) : Field := ⟨Reg.RDO_ACQ_STATUS i, 0, 1⟩
def RDO_ACQ_STATUS_MARKING (i : Nat) : Field := ⟨Reg.RDO_ACQ_STATUS i, 1, 1⟩
def RDO_ACQ_STATUS_ATT_NOW (i : Nat) : Field := ⟨Reg.RDO_ACQ_STATUS i, 2, 5⟩
def RDO_CH_CFG_FOLLOW (i : Nat) : Field := ⟨Reg.RDO_CH_CFG i, 0, 1⟩
def RDO_CH_CFG_FILTER (i : Nat) : Field := ⟨Reg.RDO_CH_CFG i, 1, 1⟩
def RDO_CH_CFG_DIG_GAIN (i : Nat) : Field := ⟨Reg.RDO_CH_CFG i, 16, 16⟩
def RDO_CH_FTW_LO_FTW (i : Nat) : Field := ⟨Reg.RDO_CH_FTW_LO i, 0, 32⟩
def RDO_CH_FTW_HI_FTW (i : Nat) : Field := ⟨Reg.RDO_CH_FTW_HI i, 0, 32⟩
def RDO_CH_APPLIED_FTW_LO_FTW (i : Nat) : Field := ⟨Reg.RDO_CH_APPLIED_FTW_LO i, 0, 32⟩
def RDO_CH_APPLIED_FTW_HI_FTW (i : Nat) : Field := ⟨Reg.RDO_CH_APPLIED_FTW_HI i, 0, 32⟩
def RDO_CH_PHASE_PH (i : Nat) : Field := ⟨Reg.RDO_CH_PHASE i, 0, 16⟩
def RDO_CH_STATUS_SETTLE (i : Nat) : Field := ⟨Reg.RDO_CH_STATUS i, 0, 1⟩
def RDO_CH_STATUS_SAT (i : Nat) : Field := ⟨Reg.RDO_CH_STATUS i, 16, 16⟩
def RDO_ARR_CFG_COMB_ON (i : Nat) : Field := ⟨Reg.RDO_ARR_CFG i, 0, 1⟩
def RDO_ARR_CFG_DEC (i : Nat) : Field := ⟨Reg.RDO_ARR_CFG i, 4, 4⟩
def RDO_ARR_CFG_COMB_SCALE (i : Nat) : Field := ⟨Reg.RDO_ARR_CFG i, 16, 16⟩
def RDO_ARR_BAND_LO_FTW (i : Nat) : Field := ⟨Reg.RDO_ARR_BAND_LO i, 0, 32⟩
def RDO_ARR_BAND_HI_FTW (i : Nat) : Field := ⟨Reg.RDO_ARR_BAND_HI i, 0, 32⟩
def RDO_ARR_EVENT_COMB_CLIP (i : Nat) : Field := ⟨Reg.RDO_ARR_EVENT i, 0, 1⟩
def RDO_ARR_EVENT_TONE_REFUSED (i : Nat) : Field := ⟨Reg.RDO_ARR_EVENT i, 1, 1⟩
def RDO_ARR_EVENT_TONE_APPLIED (i : Nat) : Field := ⟨Reg.RDO_ARR_EVENT i, 2, 1⟩
def RDO_ARR_STATUS_TONES (i : Nat) : Field := ⟨Reg.RDO_ARR_STATUS i, 0, 11⟩
def RDO_ARR_STATUS_LAST_REFUSED (i : Nat) : Field := ⟨Reg.RDO_ARR_STATUS i, 16, 10⟩
def RDO_ARR_CLIP_CNT_COUNT (i : Nat) : Field := ⟨Reg.RDO_ARR_CLIP_CNT i, 0, 32⟩
def RDO_ARR_TONE_F_OFF (i : Nat) (j : Nat) : Field := ⟨Reg.RDO_ARR_TONE_F i j, 0, 32⟩
def RDO_ARR_TONE_C_EN (i : Nat) (j : Nat) : Field := ⟨Reg.RDO_ARR_TONE_C i j, 0, 1⟩
def RDO_ARR_TONE_C_AMP (i : Nat) (j : Nat) : Field := ⟨Reg.RDO_ARR_TONE_C i j, 16, 16⟩
def RDO_ARR_TONE_P_COMB_PH (i : Nat) (j : Nat) : Field := ⟨Reg.RDO_ARR_TONE_P i j, 0, 16⟩
def RDO_ARR_TONE_P_RX_PH (i : Nat) (j : Nat) : Field := ⟨Reg.RDO_ARR_TONE_P i j, 16, 16⟩
def DSC_EVENT_WIN_CUT : Field := ⟨Reg.DSC_EVENT, 0, 1⟩
def DSC_EVENT_WIN_DROP : Field := ⟨Reg.DSC_EVENT, 1, 1⟩
def DSC_EVENT_VOID : Field := ⟨Reg.DSC_EVENT, 2, 1⟩
def DSC_EVENT_SAT : Field := ⟨Reg.DSC_EVENT, 3, 1⟩
def DSC_EVENT_SWAP_REFUSED : Field := ⟨Reg.DSC_EVENT, 4, 1⟩
def DSC_COUNT_DECISIONS : Field := ⟨Reg.DSC_COUNT, 0, 32⟩
def DSC_CH_CFG_SETTLE_POL (i : Nat) : Field := ⟨Reg.DSC_CH_CFG i, 0, 2⟩
def DSC_CH_CFG_OVR_VOID (i : Nat) : Field := ⟨Reg.DSC_CH_CFG i, 2, 1⟩
def DSC_CH_CFG_OPEN_DLY (i : Nat) : Field := ⟨Reg.DSC_CH_CFG i, 16, 16⟩
def DSC_CH_STATUS_OPEN (i : Nat) : Field := ⟨Reg.DSC_CH_STATUS i, 0, 1⟩
def DSC_CH_STATUS_KSET (i : Nat) : Field := ⟨Reg.DSC_CH_STATUS i, 1, 1⟩
def DSC_CH_STATUS_ES (i : Nat) : Field := ⟨Reg.DSC_CH_STATUS i, 2, 1⟩
def DSC_CH_STATUS_SAMPLES (i : Nat) : Field := ⟨Reg.DSC_CH_STATUS i, 4, 12⟩
def DSC_CH_STATUS_SEQ (i : Nat) : Field := ⟨Reg.DSC_CH_STATUS i, 16, 6⟩
def DSC_CH_EVENT_DECIDED (i : Nat) : Field := ⟨Reg.DSC_CH_EVENT i, 0, 1⟩
def DSC_CH_EVENT_EARLY (i : Nat) : Field := ⟨Reg.DSC_CH_EVENT i, 1, 1⟩
def DSC_CH_EVENT_WIN_CUT (i : Nat) : Field := ⟨Reg.DSC_CH_EVENT i, 2, 1⟩
def DSC_CH_EVENT_WIN_DROP (i : Nat) : Field := ⟨Reg.DSC_CH_EVENT i, 3, 1⟩
def DSC_CH_EVENT_SETTLE (i : Nat) : Field := ⟨Reg.DSC_CH_EVENT i, 4, 1⟩
def DSC_CH_EVENT_OVR (i : Nat) : Field := ⟨Reg.DSC_CH_EVENT i, 5, 1⟩
def DSC_CH_EVENT_VOID (i : Nat) : Field := ⟨Reg.DSC_CH_EVENT i, 6, 1⟩
def DSC_CH_EVENT_SAT (i : Nat) : Field := ⟨Reg.DSC_CH_EVENT i, 7, 1⟩
def DSC_CH_EVENT_SWAP_DONE (i : Nat) : Field := ⟨Reg.DSC_CH_EVENT i, 8, 1⟩
def DSC_CH_EVENT_SWAP_REFUSED (i : Nat) : Field := ⟨Reg.DSC_CH_EVENT i, 9, 1⟩
def DSC_CH_SWAP_SET0 (i : Nat) : Field := ⟨Reg.DSC_CH_SWAP i, 0, 1⟩
def DSC_CH_SWAP_SET1 (i : Nat) : Field := ⟨Reg.DSC_CH_SWAP i, 1, 1⟩
def DSC_CH_LAST_DEC_VALUE (i : Nat) : Field := ⟨Reg.DSC_CH_LAST_DEC i, 0, 32⟩
def DSC_CH_LAST_V_I_VALUE (i : Nat) : Field := ⟨Reg.DSC_CH_LAST_V_I i, 0, 32⟩
def DSC_CH_LAST_V_Q_VALUE (i : Nat) : Field := ⟨Reg.DSC_CH_LAST_V_Q i, 0, 32⟩
def DSC_CH_LAST_T_LO_VALUE (i : Nat) : Field := ⟨Reg.DSC_CH_LAST_T_LO i, 0, 32⟩
def DSC_CH_LAST_T_HI_VALUE (i : Nat) : Field := ⟨Reg.DSC_CH_LAST_T_HI i, 0, 32⟩
def DSC_CH_COUNT_DECISIONS (i : Nat) : Field := ⟨Reg.DSC_CH_COUNT i, 0, 16⟩
def DSC_CH_COUNT_EARLY (i : Nat) : Field := ⟨Reg.DSC_CH_COUNT i, 16, 16⟩
def DSC_CH_COUNT2_VOID (i : Nat) : Field := ⟨Reg.DSC_CH_COUNT2 i, 0, 16⟩
def DSC_CH_COUNT2_CUT (i : Nat) : Field := ⟨Reg.DSC_CH_COUNT2 i, 16, 16⟩
def DSC_SET_K_BASE_KBASE (i : Nat) (j : Nat) : Field := ⟨Reg.DSC_SET_K_BASE i j, 0, 20⟩
def DSC_STG_K_BASE_KBASE (i : Nat) (j : Nat) : Field := ⟨Reg.DSC_STG_K_BASE i j, 0, 20⟩
def DSC_SET_K_CFG_KLEN (i : Nat) (j : Nat) : Field := ⟨Reg.DSC_SET_K_CFG i j, 0, 12⟩
def DSC_SET_K_CFG_SHIFT (i : Nat) (j : Nat) : Field := ⟨Reg.DSC_SET_K_CFG i j, 16, 6⟩
def DSC_SET_K_CFG_CLS_EN (i : Nat) (j : Nat) : Field := ⟨Reg.DSC_SET_K_CFG i j, 24, 4⟩
def DSC_STG_K_CFG_KLEN (i : Nat) (j : Nat) : Field := ⟨Reg.DSC_STG_K_CFG i j, 0, 12⟩
def DSC_STG_K_CFG_SHIFT (i : Nat) (j : Nat) : Field := ⟨Reg.DSC_STG_K_CFG i j, 16, 6⟩
def DSC_STG_K_CFG_CLS_EN (i : Nat) (j : Nat) : Field := ⟨Reg.DSC_STG_K_CFG i j, 24, 4⟩
def DSC_SET_P_BASE_PBASE (i : Nat) (j : Nat) : Field := ⟨Reg.DSC_SET_P_BASE i j, 0, 17⟩
def DSC_STG_P_BASE_PBASE (i : Nat) (j : Nat) : Field := ⟨Reg.DSC_STG_P_BASE i j, 0, 17⟩
def DSC_SET_ES_ES_THRESH (i : Nat) (j : Nat) : Field := ⟨Reg.DSC_SET_ES i j, 0, 8⟩
def DSC_SET_ES_MIN_EVAL (i : Nat) (j : Nat) : Field := ⟨Reg.DSC_SET_ES i j, 8, 9⟩
def DSC_STG_ES_ES_THRESH (i : Nat) (j : Nat) : Field := ⟨Reg.DSC_STG_ES i j, 0, 8⟩
def DSC_STG_ES_MIN_EVAL (i : Nat) (j : Nat) : Field := ⟨Reg.DSC_STG_ES i j, 8, 9⟩
def DSC_SET_W_COEF (i : Nat) (j : Nat) (k : Nat) : Field := ⟨Reg.DSC_SET_W i j k, 0, 32⟩
def DSC_STG_W_COEF (i : Nat) (j : Nat) (k : Nat) : Field := ⟨Reg.DSC_STG_W i j k, 0, 32⟩
def DSC_SET_C_I_VALUE (i : Nat) (j : Nat) (k : Nat) : Field := ⟨Reg.DSC_SET_C_I i j k, 0, 32⟩
def DSC_STG_C_I_VALUE (i : Nat) (j : Nat) (k : Nat) : Field := ⟨Reg.DSC_STG_C_I i j k, 0, 32⟩
def DSC_SET_C_Q_VALUE (i : Nat) (j : Nat) (k : Nat) : Field := ⟨Reg.DSC_SET_C_Q i j k, 0, 32⟩
def DSC_STG_C_Q_VALUE (i : Nat) (j : Nat) (k : Nat) : Field := ⟨Reg.DSC_STG_C_Q i j k, 0, 32⟩
def FAB_EVENT_COINCIDENT : Field := ⟨Reg.FAB_EVENT, 0, 1⟩
def FAB_EVENT_OVERRUN : Field := ⟨Reg.FAB_EVENT, 1, 1⟩
def FAB_EVENT_DROPPED : Field := ⟨Reg.FAB_EVENT, 2, 1⟩
def FAB_EVENT_TRG_RATE : Field := ⟨Reg.FAB_EVENT, 3, 1⟩
def FAB_EVENT_TRG_STUCK : Field := ⟨Reg.FAB_EVENT, 4, 1⟩
def FAB_EVENT_CT_ECC : Field := ⟨Reg.FAB_EVENT, 5, 1⟩
def FAB_EVENT_FORCED : Field := ⟨Reg.FAB_EVENT, 6, 1⟩
def FAB_FORCE_STRAND : Field := ⟨Reg.FAB_FORCE, 0, 10⟩
def FAB_EV_EN_EN (i : Nat) : Field := ⟨Reg.FAB_EV_EN i, 0, 32⟩
def FAB_EV_CFG_PROD (i : Nat) : Field := ⟨Reg.FAB_EV_CFG i, 0, 16⟩
def FAB_EV_CFG_CONS (i : Nat) : Field := ⟨Reg.FAB_EV_CFG i, 16, 16⟩
def FAB_EV_COUNT_EVENTS (i : Nat) : Field := ⟨Reg.FAB_EV_COUNT i, 0, 24⟩
def FAB_EV_COUNT_DROPPED (i : Nat) : Field := ⟨Reg.FAB_EV_COUNT i, 24, 8⟩
def FAB_PLY_CFG_TT (i : Nat) : Field := ⟨Reg.FAB_PLY_CFG i, 0, 16⟩
def FAB_PLY_CFG_M0 (i : Nat) : Field := ⟨Reg.FAB_PLY_CFG i, 16, 2⟩
def FAB_PLY_CFG_M1 (i : Nat) : Field := ⟨Reg.FAB_PLY_CFG i, 18, 2⟩
def FAB_PLY_CFG_M2 (i : Nat) : Field := ⟨Reg.FAB_PLY_CFG i, 20, 2⟩
def FAB_PLY_CFG_M3 (i : Nat) : Field := ⟨Reg.FAB_PLY_CFG i, 22, 2⟩
def FAB_PLY_CFG_OUT_MODE (i : Nat) : Field := ⟨Reg.FAB_PLY_CFG i, 24, 2⟩
def FAB_PLY_CFG_FF_EN (i : Nat) : Field := ⟨Reg.FAB_PLY_CFG i, 26, 1⟩
def FAB_PLY_CFG_FB (i : Nat) : Field := ⟨Reg.FAB_PLY_CFG i, 27, 1⟩
def FAB_PLY_CFG_AUTO_CLR (i : Nat) : Field := ⟨Reg.FAB_PLY_CFG i, 28, 1⟩
def FAB_PLY_STATUS_X (i : Nat) : Field := ⟨Reg.FAB_PLY_STATUS i, 0, 4⟩
def FAB_PLY_STATUS_L (i : Nat) : Field := ⟨Reg.FAB_PLY_STATUS i, 4, 1⟩
def FAB_PLY_STATUS_Q (i : Nat) : Field := ⟨Reg.FAB_PLY_STATUS i, 5, 1⟩
def FAB_PLY_STATUS_F (i : Nat) : Field := ⟨Reg.FAB_PLY_STATUS i, 6, 1⟩
def FAB_PLY_STATUS_COINCIDENT (i : Nat) : Field := ⟨Reg.FAB_PLY_STATUS i, 8, 1⟩
def FAB_PLY_STATUS_OVERRUN (i : Nat) : Field := ⟨Reg.FAB_PLY_STATUS i, 9, 1⟩
def FAB_PLY_STATUS_EMITS (i : Nat) : Field := ⟨Reg.FAB_PLY_STATUS i, 16, 16⟩
def FAB_PLY_FILT_FILT (i : Nat) : Field := ⟨Reg.FAB_PLY_FILT i, 0, 8⟩
def FAB_TRG_CFG_EN (i : Nat) : Field := ⟨Reg.FAB_TRG_CFG i, 0, 1⟩
def FAB_TRG_CFG_EDGE (i : Nat) : Field := ⟨Reg.FAB_TRG_CFG i, 1, 2⟩
def FAB_TRG_CFG_MIN_PULSE (i : Nat) : Field := ⟨Reg.FAB_TRG_CFG i, 8, 8⟩
def FAB_TRG_CFG_RATE_LIM (i : Nat) : Field := ⟨Reg.FAB_TRG_CFG i, 16, 16⟩
def FAB_TRG_STUCK_TIMEOUT (i : Nat) : Field := ⟨Reg.FAB_TRG_STUCK i, 0, 16⟩
def FAB_TRG_STATUS_LEVEL (i : Nat) : Field := ⟨Reg.FAB_TRG_STATUS i, 0, 1⟩
def FAB_TRG_STATUS_STUCK (i : Nat) : Field := ⟨Reg.FAB_TRG_STATUS i, 1, 1⟩
def FAB_TRG_STATUS_RATE (i : Nat) : Field := ⟨Reg.FAB_TRG_STATUS i, 8, 1⟩
def FAB_TRG_STATUS_STUCK_EV (i : Nat) : Field := ⟨Reg.FAB_TRG_STATUS i, 9, 1⟩
def FAB_TRG_STATUS_RATE_CNT (i : Nat) : Field := ⟨Reg.FAB_TRG_STATUS i, 16, 8⟩
def FAB_TRG_STATUS_GLITCH_CNT (i : Nat) : Field := ⟨Reg.FAB_TRG_STATUS i, 24, 8⟩
def FAB_CT_CFG_EN (i : Nat) : Field := ⟨Reg.FAB_CT_CFG i, 0, 1⟩
def FAB_CT_CFG_SYND_MODE (i : Nat) : Field := ⟨Reg.FAB_CT_CFG i, 1, 1⟩
def FAB_CT_STATE_SYND (i : Nat) : Field := ⟨Reg.FAB_CT_STATE i, 0, 16⟩
def FAB_CT_STATE_BUSY (i : Nat) : Field := ⟨Reg.FAB_CT_STATE i, 16, 1⟩
def FAB_CT_LAST_ADDR (i : Nat) : Field := ⟨Reg.FAB_CT_LAST i, 0, 16⟩
def FAB_CT_LAST_MASK_MASK (i : Nat) : Field := ⟨Reg.FAB_CT_LAST_MASK i, 0, 32⟩
def FAB_CT_EVENT_COINCIDENT (i : Nat) : Field := ⟨Reg.FAB_CT_EVENT i, 0, 1⟩
def FAB_CT_EVENT_SYND_OVR (i : Nat) : Field := ⟨Reg.FAB_CT_EVENT i, 1, 1⟩
def FAB_CT_EVENT_TRIG_OVR (i : Nat) : Field := ⟨Reg.FAB_CT_EVENT i, 2, 1⟩
def FAB_CT_EVENT_ECC_CORR (i : Nat) : Field := ⟨Reg.FAB_CT_EVENT i, 3, 1⟩
def FAB_CT_EVENT_ECC_UNCORR (i : Nat) : Field := ⟨Reg.FAB_CT_EVENT i, 4, 1⟩
def FAB_CT_COUNT_LOOKUPS (i : Nat) : Field := ⟨Reg.FAB_CT_COUNT i, 0, 16⟩
def FAB_CT_COUNT_OVERRUN (i : Nat) : Field := ⟨Reg.FAB_CT_COUNT i, 16, 16⟩
def FAB_GRP_CFG_INIT_EN (i : Nat) : Field := ⟨Reg.FAB_GRP_CFG i, 0, 1⟩
def FAB_GRP_STATUS_ENABLED (i : Nat) : Field := ⟨Reg.FAB_GRP_STATUS i, 0, 1⟩
def FAB_GRP_STATUS_PENDING (i : Nat) : Field := ⟨Reg.FAB_GRP_STATUS i, 16, 16⟩
def FAB_GRP_EVENT_COINCIDENT (i : Nat) : Field := ⟨Reg.FAB_GRP_EVENT i, 0, 1⟩
def FAB_GRP_EVENT_OVERRUN (i : Nat) : Field := ⟨Reg.FAB_GRP_EVENT i, 1, 1⟩
def FAB_GRP_EVENT_DROPPED (i : Nat) : Field := ⟨Reg.FAB_GRP_EVENT i, 2, 1⟩
def FAB_GRP_EVENT_GATE_CHG (i : Nat) : Field := ⟨Reg.FAB_GRP_EVENT i, 3, 1⟩
def FAB_GRP_COUNT_DROPPED (i : Nat) : Field := ⟨Reg.FAB_GRP_COUNT i, 0, 16⟩
def CSC_CFG_ROLE : Field := ⟨Reg.CSC_CFG, 0, 2⟩
def CSC_CFG_TOPO : Field := ⟨Reg.CSC_CFG, 2, 2⟩
def CSC_CFG_RRA_EN : Field := ⟨Reg.CSC_CFG, 4, 1⟩
def CSC_CFG_DEV_ID : Field := ⟨Reg.CSC_CFG, 8, 6⟩
def CSC_CFG_MASTER_ID : Field := ⟨Reg.CSC_CFG, 16, 6⟩
def CSC_CFG_DEPTH : Field := ⟨Reg.CSC_CFG, 24, 6⟩
def CSC_DIM_X : Field := ⟨Reg.CSC_DIM, 0, 7⟩
def CSC_DIM_Y : Field := ⟨Reg.CSC_DIM, 8, 4⟩
def CSC_DIM_UP_PORT : Field := ⟨Reg.CSC_DIM, 16, 2⟩
def CSC_RATE_LEAD_TICKS : Field := ⟨Reg.CSC_RATE_LEAD, 0, 16⟩
def CSC_STATUS_STRAP : Field := ⟨Reg.CSC_STATUS, 0, 1⟩
def CSC_STATUS_STRAP_CHG : Field := ⟨Reg.CSC_STATUS, 1, 1⟩
def CSC_STATUS_SRC_QUALIFIED : Field := ⟨Reg.CSC_STATUS, 2, 1⟩
def CSC_STATUS_SYNC_ALIGNED : Field := ⟨Reg.CSC_STATUS, 3, 1⟩
def CSC_STATUS_GEN : Field := ⟨Reg.CSC_STATUS, 8, 8⟩
def CSC_EVENT_LINK_UP : Field := ⟨Reg.CSC_EVENT, 0, 1⟩
def CSC_EVENT_LINK_DOWN : Field := ⟨Reg.CSC_EVENT, 1, 1⟩
def CSC_EVENT_TRAIN_FAIL : Field := ⟨Reg.CSC_EVENT, 2, 1⟩
def CSC_EVENT_CRC_ERR : Field := ⟨Reg.CSC_EVENT, 3, 1⟩
def CSC_EVENT_FAILOVER : Field := ⟨Reg.CSC_EVENT, 4, 1⟩
def CSC_EVENT_SRC_QUAL : Field := ⟨Reg.CSC_EVENT, 5, 1⟩
def CSC_EVENT_SRC_LOSS : Field := ⟨Reg.CSC_EVENT, 6, 1⟩
def CSC_EVENT_SYNC_APPLIED : Field := ⟨Reg.CSC_EVENT, 7, 1⟩
def CSC_EVENT_SYNC_SLIP : Field := ⟨Reg.CSC_EVENT, 8, 1⟩
def CSC_EVENT_MASTER_CONFLICT : Field := ⟨Reg.CSC_EVENT, 9, 1⟩
def CSC_EVENT_GRP_WAIT : Field := ⟨Reg.CSC_EVENT, 10, 1⟩
def CSC_EVENT_FWD_DROP : Field := ⟨Reg.CSC_EVENT, 11, 1⟩
def CSC_EVENT_RATE_LATE : Field := ⟨Reg.CSC_EVENT, 12, 1⟩
def CSC_EVENT_RRA_DONE : Field := ⟨Reg.CSC_EVENT, 13, 1⟩
def CSC_EVENT_RDMA_DONE : Field := ⟨Reg.CSC_EVENT, 14, 1⟩
def CSC_EVENT_BULK_ERR : Field := ⟨Reg.CSC_EVENT, 15, 1⟩
def CSC_EVENT_EN_LINK_UP : Field := ⟨Reg.CSC_EVENT_EN, 0, 1⟩
def CSC_EVENT_EN_LINK_DOWN : Field := ⟨Reg.CSC_EVENT_EN, 1, 1⟩
def CSC_EVENT_EN_TRAIN_FAIL : Field := ⟨Reg.CSC_EVENT_EN, 2, 1⟩
def CSC_EVENT_EN_CRC_ERR : Field := ⟨Reg.CSC_EVENT_EN, 3, 1⟩
def CSC_EVENT_EN_FAILOVER : Field := ⟨Reg.CSC_EVENT_EN, 4, 1⟩
def CSC_EVENT_EN_SRC_QUAL : Field := ⟨Reg.CSC_EVENT_EN, 5, 1⟩
def CSC_EVENT_EN_SRC_LOSS : Field := ⟨Reg.CSC_EVENT_EN, 6, 1⟩
def CSC_EVENT_EN_SYNC_APPLIED : Field := ⟨Reg.CSC_EVENT_EN, 7, 1⟩
def CSC_EVENT_EN_SYNC_SLIP : Field := ⟨Reg.CSC_EVENT_EN, 8, 1⟩
def CSC_EVENT_EN_MASTER_CONFLICT : Field := ⟨Reg.CSC_EVENT_EN, 9, 1⟩
def CSC_EVENT_EN_GRP_WAIT : Field := ⟨Reg.CSC_EVENT_EN, 10, 1⟩
def CSC_EVENT_EN_FWD_DROP : Field := ⟨Reg.CSC_EVENT_EN, 11, 1⟩
def CSC_EVENT_EN_RATE_LATE : Field := ⟨Reg.CSC_EVENT_EN, 12, 1⟩
def CSC_EVENT_EN_RRA_DONE : Field := ⟨Reg.CSC_EVENT_EN, 13, 1⟩
def CSC_EVENT_EN_RDMA_DONE : Field := ⟨Reg.CSC_EVENT_EN, 14, 1⟩
def CSC_EVENT_EN_BULK_ERR : Field := ⟨Reg.CSC_EVENT_EN, 15, 1⟩
def CSC_EPOCH_LO_COUNT : Field := ⟨Reg.CSC_EPOCH_LO, 0, 32⟩
def CSC_EPOCH_HI_COUNT : Field := ⟨Reg.CSC_EPOCH_HI, 0, 32⟩
def CSC_TW_CFG_EN (i : Nat) : Field := ⟨Reg.CSC_TW_CFG i, 0, 1⟩
def CSC_TW_CFG_NEIGH_ID (i : Nat) : Field := ⟨Reg.CSC_TW_CFG i, 8, 6⟩
def CSC_TW_CFG_ASYM (i : Nat) : Field := ⟨Reg.CSC_TW_CFG i, 16, 16⟩
def CSC_TW_STATUS_STATE (i : Nat) : Field := ⟨Reg.CSC_TW_STATUS i, 0, 3⟩
def CSC_TW_STATUS_FAIL (i : Nat) : Field := ⟨Reg.CSC_TW_STATUS i, 4, 3⟩
def CSC_TW_STATUS_DUTY_LANE (i : Nat) : Field := ⟨Reg.CSC_TW_STATUS i, 8, 1⟩
def CSC_TW_STATUS_LANES_UP (i : Nat) : Field := ⟨Reg.CSC_TW_STATUS i, 12, 4⟩
def CSC_TW_STATUS_NEIGH_SEEN (i : Nat) : Field := ⟨Reg.CSC_TW_STATUS i, 16, 6⟩
def CSC_TW_DELAY_DELAY (i : Nat) : Field := ⟨Reg.CSC_TW_DELAY i, 0, 20⟩
def CSC_TW_PHASE_PHASE (i : Nat) : Field := ⟨Reg.CSC_TW_PHASE i, 0, 16⟩
def CSC_TW_CRC_COUNT (i : Nat) : Field := ⟨Reg.CSC_TW_CRC i, 0, 32⟩
def CSC_TW_WAIT_COUNT (i : Nat) : Field := ⟨Reg.CSC_TW_WAIT i, 0, 32⟩
def CSC_TW_DROP_COUNT (i : Nat) : Field := ⟨Reg.CSC_TW_DROP i, 0, 32⟩
def CSC_TW_BULK_COUNT (i : Nat) : Field := ⟨Reg.CSC_TW_BULK i, 0, 32⟩
def CSC_TW_CMD_RETRAIN (i : Nat) : Field := ⟨Reg.CSC_TW_CMD i, 0, 1⟩
def CSC_RRA_CTL_GO : Field := ⟨Reg.CSC_RRA_CTL, 0, 1⟩
def CSC_RRA_CTL_READ : Field := ⟨Reg.CSC_RRA_CTL, 1, 1⟩
def CSC_RRA_CTL_TARGET : Field := ⟨Reg.CSC_RRA_CTL, 8, 6⟩
def CSC_RRA_ADDR_OFFSET : Field := ⟨Reg.CSC_RRA_ADDR, 2, 24⟩
def CSC_RRA_DATA_VALUE : Field := ⟨Reg.CSC_RRA_DATA, 0, 32⟩
def CSC_RRA_STATUS_BUSY : Field := ⟨Reg.CSC_RRA_STATUS, 0, 1⟩
def CSC_RRA_STATUS_RESULT : Field := ⟨Reg.CSC_RRA_STATUS, 1, 3⟩
def CSC_RRA_TIMEOUT_US : Field := ⟨Reg.CSC_RRA_TIMEOUT, 0, 16⟩
def CSC_RDMA_SRC_LO_ADDR : Field := ⟨Reg.CSC_RDMA_SRC_LO, 0, 32⟩
def CSC_RDMA_SRC_HI_ADDR : Field := ⟨Reg.CSC_RDMA_SRC_HI, 0, 32⟩
def CSC_RDMA_DST_LO_ADDR : Field := ⟨Reg.CSC_RDMA_DST_LO, 0, 32⟩
def CSC_RDMA_DST_HI_ADDR : Field := ⟨Reg.CSC_RDMA_DST_HI, 0, 32⟩
def CSC_RDMA_LEN_BYTES : Field := ⟨Reg.CSC_RDMA_LEN, 0, 28⟩
def CSC_RDMA_CTL_GO : Field := ⟨Reg.CSC_RDMA_CTL, 0, 1⟩
def CSC_RDMA_CTL_SPACE : Field := ⟨Reg.CSC_RDMA_CTL, 1, 2⟩
def CSC_RDMA_CTL_TARGET : Field := ⟨Reg.CSC_RDMA_CTL, 8, 6⟩
def CSC_RDMA_STATUS_BUSY : Field := ⟨Reg.CSC_RDMA_STATUS, 0, 1⟩
def CSC_RDMA_STATUS_RESULT : Field := ⟨Reg.CSC_RDMA_STATUS, 1, 3⟩
def CSC_ROUTE_PORT (i : Nat) : Field := ⟨Reg.CSC_ROUTE i, 0, 2⟩
def CSC_ROUTE_VALID (i : Nat) : Field := ⟨Reg.CSC_ROUTE i, 31, 1⟩
def CSC_EXP_PORT (i : Nat) : Field := ⟨Reg.CSC_EXP i, 0, 2⟩
def CSC_EXP_VALID (i : Nat) : Field := ⟨Reg.CSC_EXP i, 31, 1⟩
def CSC_FWD_IMPORT (i : Nat) : Field := ⟨Reg.CSC_FWD i, 0, 6⟩
def CSC_FWD_IMP_EN (i : Nat) : Field := ⟨Reg.CSC_FWD i, 7, 1⟩
def CSC_FWD_FWD (i : Nat) : Field := ⟨Reg.CSC_FWD i, 8, 4⟩
def BOB_CTL_SINGLE : Field := ⟨Reg.BOB_CTL, 0, 1⟩
def BOB_ARM_BOBS : Field := ⟨Reg.BOB_ARM, 0, 32⟩
def BOB_DISARM_BOBS : Field := ⟨Reg.BOB_DISARM, 0, 32⟩
def BOB_FORCE_BOBS : Field := ⟨Reg.BOB_FORCE, 0, 32⟩
def BOB_EVENT_SUM_BOBS : Field := ⟨Reg.BOB_EVENT_SUM, 0, 32⟩
def BOB_CFG_EN (i : Nat) : Field := ⟨Reg.BOB_CFG i, 0, 1⟩
def BOB_CFG_SPILL_EN (i : Nat) : Field := ⟨Reg.BOB_CFG i, 1, 1⟩
def BOB_CFG_BUSY_POL (i : Nat) : Field := ⟨Reg.BOB_CFG i, 2, 2⟩
def BOB_CFG_AUTO (i : Nat) : Field := ⟨Reg.BOB_CFG i, 4, 1⟩
def BOB_CFG_ARM_ON_RUN (i : Nat) : Field := ⟨Reg.BOB_CFG i, 5, 1⟩
def BOB_SRC_KIND (i : Nat) : Field := ⟨Reg.BOB_SRC i, 0, 4⟩
def BOB_SRC_BASE (i : Nat) : Field := ⟨Reg.BOB_SRC i, 4, 14⟩
def BOB_SRC_NM1 (i : Nat) : Field := ⟨Reg.BOB_SRC i, 18, 10⟩
def BOB_PRE_COUNT (i : Nat) : Field := ⟨Reg.BOB_PRE i, 0, 32⟩
def BOB_POST_COUNT (i : Nat) : Field := ⟨Reg.BOB_POST i, 0, 32⟩
def BOB_AUTO_TMO_COUNT (i : Nat) : Field := ⟨Reg.BOB_AUTO_TMO i, 0, 32⟩
def BOB_DB_COUNT (i : Nat) : Field := ⟨Reg.BOB_DB i, 0, 32⟩
def BOB_MASK_CFG_EN (i : Nat) : Field := ⟨Reg.BOB_MASK_CFG i, 0, 1⟩
def BOB_MASK_CFG_STOP (i : Nat) : Field := ⟨Reg.BOB_MASK_CFG i, 1, 1⟩
def BOB_MASK_CFG_SHIFT (i : Nat) : Field := ⟨Reg.BOB_MASK_CFG i, 8, 5⟩
def BOB_SPILL_BASE_LO_VALUE (i : Nat) : Field := ⟨Reg.BOB_SPILL_BASE_LO i, 0, 32⟩
def BOB_SPILL_BASE_HI_VALUE (i : Nat) : Field := ⟨Reg.BOB_SPILL_BASE_HI i, 0, 32⟩
def BOB_SPILL_SIZE_VALUE (i : Nat) : Field := ⟨Reg.BOB_SPILL_SIZE i, 0, 32⟩
def BOB_STATUS_STATE (i : Nat) : Field := ⟨Reg.BOB_STATUS i, 0, 3⟩
def BOB_STATUS_QUEUED (i : Nat) : Field := ⟨Reg.BOB_STATUS i, 3, 1⟩
def BOB_STATUS_DIR_FULL (i : Nat) : Field := ⟨Reg.BOB_STATUS i, 4, 1⟩
def BOB_STATUS_SPACE_LOW (i : Nat) : Field := ⟨Reg.BOB_STATUS i, 5, 1⟩
def BOB_STATUS_PRE_FULL (i : Nat) : Field := ⟨Reg.BOB_STATUS i, 6, 1⟩
def BOB_EVENT_CAPTURE (i : Nat) : Field := ⟨Reg.BOB_EVENT i, 0, 1⟩
def BOB_EVENT_TRUNCATED (i : Nat) : Field := ⟨Reg.BOB_EVENT i, 1, 1⟩
def BOB_EVENT_REC_LOST (i : Nat) : Field := ⟨Reg.BOB_EVENT i, 2, 1⟩
def BOB_EVENT_TRIG_OVERRUN (i : Nat) : Field := ⟨Reg.BOB_EVENT i, 3, 1⟩
def BOB_EVENT_TRIG_COINCIDENT (i : Nat) : Field := ⟨Reg.BOB_EVENT i, 4, 1⟩
def BOB_EVENT_MASK_VIOL (i : Nat) : Field := ⟨Reg.BOB_EVENT i, 5, 1⟩
def BOB_EVENT_RD_REFUSED (i : Nat) : Field := ⟨Reg.BOB_EVENT i, 6, 1⟩
def BOB_EVENT_EN_CAPTURE (i : Nat) : Field := ⟨Reg.BOB_EVENT_EN i, 0, 1⟩
def BOB_EVENT_EN_TRUNCATED (i : Nat) : Field := ⟨Reg.BOB_EVENT_EN i, 1, 1⟩
def BOB_EVENT_EN_REC_LOST (i : Nat) : Field := ⟨Reg.BOB_EVENT_EN i, 2, 1⟩
def BOB_EVENT_EN_TRIG_OVERRUN (i : Nat) : Field := ⟨Reg.BOB_EVENT_EN i, 3, 1⟩
def BOB_EVENT_EN_TRIG_COINCIDENT (i : Nat) : Field := ⟨Reg.BOB_EVENT_EN i, 4, 1⟩
def BOB_EVENT_EN_MASK_VIOL (i : Nat) : Field := ⟨Reg.BOB_EVENT_EN i, 5, 1⟩
def BOB_EVENT_EN_RD_REFUSED (i : Nat) : Field := ⟨Reg.BOB_EVENT_EN i, 6, 1⟩
def BOB_WR_LO_POS (i : Nat) : Field := ⟨Reg.BOB_WR_LO i, 0, 32⟩
def BOB_WR_HI_POS (i : Nat) : Field := ⟨Reg.BOB_WR_HI i, 0, 32⟩
def BOB_SPILLED_LO_POS (i : Nat) : Field := ⟨Reg.BOB_SPILLED_LO i, 0, 32⟩
def BOB_SPILLED_HI_POS (i : Nat) : Field := ⟨Reg.BOB_SPILLED_HI i, 0, 32⟩
def BOB_RD_LO_POS (i : Nat) : Field := ⟨Reg.BOB_RD_LO i, 0, 32⟩
def BOB_RD_HI_POS (i : Nat) : Field := ⟨Reg.BOB_RD_HI i, 0, 32⟩
def BOB_DIR_HEAD_NEXT (i : Nat) : Field := ⟨Reg.BOB_DIR_HEAD i, 0, 8⟩
def BOB_DIR_HEAD_PENDING (i : Nat) : Field := ⟨Reg.BOB_DIR_HEAD i, 8, 9⟩
def BOB_DIR_HEAD_ACK (i : Nat) : Field := ⟨Reg.BOB_DIR_HEAD i, 24, 8⟩
def BOB_DIR_HEAD_ACK_GO (i : Nat) : Field := ⟨Reg.BOB_DIR_HEAD i, 23, 1⟩
def BOB_COUNT_CAPTURES (i : Nat) : Field := ⟨Reg.BOB_COUNT i, 0, 16⟩
def BOB_COUNT_REC_LOST (i : Nat) : Field := ⟨Reg.BOB_COUNT i, 16, 16⟩
def BOB_COUNT2_IGNORED (i : Nat) : Field := ⟨Reg.BOB_COUNT2 i, 0, 16⟩
def BOB_COUNT2_OVERRUN (i : Nat) : Field := ⟨Reg.BOB_COUNT2 i, 16, 16⟩
def BOB_CMD_RESET (i : Nat) : Field := ⟨Reg.BOB_CMD i, 0, 1⟩
def BOB_TC_CFG_TYPE (i : Nat) (j : Nat) : Field := ⟨Reg.BOB_TC_CFG i j, 0, 3⟩
def BOB_TC_CFG_SEL (i : Nat) (j : Nat) : Field := ⟨Reg.BOB_TC_CFG i j, 4, 12⟩
def BOB_TC_CFG_LEVEL (i : Nat) (j : Nat) : Field := ⟨Reg.BOB_TC_CFG i j, 16, 16⟩
def BOB_TC_T_LO_NS (i : Nat) (j : Nat) : Field := ⟨Reg.BOB_TC_T_LO i j, 0, 32⟩
def BOB_TC_T_HI_NS (i : Nat) (j : Nat) : Field := ⟨Reg.BOB_TC_T_HI i j, 0, 32⟩
def BOB_MASK_LO (i : Nat) (j : Nat) : Field := ⟨Reg.BOB_MASK i j, 0, 16⟩
def BOB_MASK_HI (i : Nat) (j : Nat) : Field := ⟨Reg.BOB_MASK i j, 16, 16⟩
def MEM_EVENT_SRAM_CE : Field := ⟨Reg.MEM_EVENT, 0, 1⟩
def MEM_EVENT_SRAM_UE : Field := ⟨Reg.MEM_EVENT, 1, 1⟩
def MEM_EVENT_DRAM_CE : Field := ⟨Reg.MEM_EVENT, 2, 1⟩
def MEM_EVENT_DRAM_UE : Field := ⟨Reg.MEM_EVENT, 3, 1⟩
def MEM_EVENT_CE_STORM : Field := ⟨Reg.MEM_EVENT, 4, 1⟩
def MEM_EVENT_POISON : Field := ⟨Reg.MEM_EVENT, 5, 1⟩
def MEM_EVENT_C0_LATE : Field := ⟨Reg.MEM_EVENT, 6, 1⟩
def MEM_EVENT_C1_DELAYED : Field := ⟨Reg.MEM_EVENT, 7, 1⟩
def MEM_EVENT_C1_REFUSED : Field := ⟨Reg.MEM_EVENT, 8, 1⟩
def MEM_EVENT_C2_DELAYED : Field := ⟨Reg.MEM_EVENT, 9, 1⟩
def MEM_EVENT_C3_DELAYED : Field := ⟨Reg.MEM_EVENT, 10, 1⟩
def MEM_EVENT_REFRESH_CHG : Field := ⟨Reg.MEM_EVENT, 11, 1⟩
def MEM_EVENT_SCRUB_SRAM : Field := ⟨Reg.MEM_EVENT, 12, 1⟩
def MEM_EVENT_SCRUB_DRAM : Field := ⟨Reg.MEM_EVENT, 13, 1⟩
def MEM_EVENT_DRAM_INIT : Field := ⟨Reg.MEM_EVENT, 14, 1⟩
def MEM_EVENT_PARTIAL_DISCARD : Field := ⟨Reg.MEM_EVENT, 15, 1⟩
def MEM_EVENT_EN_SRAM_CE : Field := ⟨Reg.MEM_EVENT_EN, 0, 1⟩
def MEM_EVENT_EN_SRAM_UE : Field := ⟨Reg.MEM_EVENT_EN, 1, 1⟩
def MEM_EVENT_EN_DRAM_CE : Field := ⟨Reg.MEM_EVENT_EN, 2, 1⟩
def MEM_EVENT_EN_DRAM_UE : Field := ⟨Reg.MEM_EVENT_EN, 3, 1⟩
def MEM_EVENT_EN_CE_STORM : Field := ⟨Reg.MEM_EVENT_EN, 4, 1⟩
def MEM_EVENT_EN_POISON : Field := ⟨Reg.MEM_EVENT_EN, 5, 1⟩
def MEM_EVENT_EN_C0_LATE : Field := ⟨Reg.MEM_EVENT_EN, 6, 1⟩
def MEM_EVENT_EN_C1_DELAYED : Field := ⟨Reg.MEM_EVENT_EN, 7, 1⟩
def MEM_EVENT_EN_C1_REFUSED : Field := ⟨Reg.MEM_EVENT_EN, 8, 1⟩
def MEM_EVENT_EN_C2_DELAYED : Field := ⟨Reg.MEM_EVENT_EN, 9, 1⟩
def MEM_EVENT_EN_C3_DELAYED : Field := ⟨Reg.MEM_EVENT_EN, 10, 1⟩
def MEM_EVENT_EN_REFRESH_CHG : Field := ⟨Reg.MEM_EVENT_EN, 11, 1⟩
def MEM_EVENT_EN_SCRUB_SRAM : Field := ⟨Reg.MEM_EVENT_EN, 12, 1⟩
def MEM_EVENT_EN_SCRUB_DRAM : Field := ⟨Reg.MEM_EVENT_EN, 13, 1⟩
def MEM_EVENT_EN_DRAM_INIT : Field := ⟨Reg.MEM_EVENT_EN, 14, 1⟩
def MEM_EVENT_EN_PARTIAL_DISCARD : Field := ⟨Reg.MEM_EVENT_EN, 15, 1⟩
def MEM_STATUS_SRAM_READY : Field := ⟨Reg.MEM_STATUS, 0, 1⟩
def MEM_STATUS_DRAM_READY : Field := ⟨Reg.MEM_STATUS, 1, 1⟩
def MEM_STATUS_SELF_REFRESH : Field := ⟨Reg.MEM_STATUS, 2, 1⟩
def MEM_STATUS_REFRESH : Field := ⟨Reg.MEM_STATUS, 8, 8⟩
def MEM_RES_C0 : Field := ⟨Reg.MEM_RES, 0, 12⟩
def MEM_RES_C1 : Field := ⟨Reg.MEM_RES, 16, 12⟩
def MEM_ARB_W1 : Field := ⟨Reg.MEM_ARB, 0, 4⟩
def MEM_ARB_W2 : Field := ⟨Reg.MEM_ARB, 8, 4⟩
def MEM_ARB_W3 : Field := ⟨Reg.MEM_ARB, 16, 4⟩
def MEM_ARB2_DELAY_NS : Field := ⟨Reg.MEM_ARB2, 0, 16⟩
def MEM_ARB2_C1_GUARD : Field := ⟨Reg.MEM_ARB2, 16, 16⟩
def MEM_SCRUB_CFG_SRAM_S : Field := ⟨Reg.MEM_SCRUB_CFG, 0, 8⟩
def MEM_SCRUB_CFG_DRAM_H : Field := ⟨Reg.MEM_SCRUB_CFG, 8, 8⟩
def MEM_CE_THRESH_THRESH : Field := ⟨Reg.MEM_CE_THRESH, 0, 16⟩
def MEM_CLS_COUNT_DELAYED (i : Nat) : Field := ⟨Reg.MEM_CLS_COUNT i, 0, 16⟩
def MEM_CLS_COUNT_REFUSED (i : Nat) : Field := ⟨Reg.MEM_CLS_COUNT i, 16, 16⟩
def MEM_CLS_MAXLAT_NS (i : Nat) : Field := ⟨Reg.MEM_CLS_MAXLAT i, 0, 32⟩
def MEM_SRAM_ERR_CE (i : Nat) : Field := ⟨Reg.MEM_SRAM_ERR i, 0, 16⟩
def MEM_SRAM_ERR_UE (i : Nat) : Field := ⟨Reg.MEM_SRAM_ERR i, 16, 16⟩
def MEM_SRAM_UE_ADDR_ADDR : Field := ⟨Reg.MEM_SRAM_UE_ADDR, 0, 26⟩
def MEM_DRAM_ERR_CE (i : Nat) : Field := ⟨Reg.MEM_DRAM_ERR i, 0, 16⟩
def MEM_DRAM_ERR_UE (i : Nat) : Field := ⟨Reg.MEM_DRAM_ERR i, 16, 16⟩
def MEM_DRAM_UE_ADDR_LO_ADDR (i : Nat) : Field := ⟨Reg.MEM_DRAM_UE_ADDR_LO i, 0, 32⟩
def MEM_DRAM_UE_ADDR_HI_ADDR (i : Nat) : Field := ⟨Reg.MEM_DRAM_UE_ADDR_HI i, 0, 32⟩
def DRF_STATUS_BOUND_DRAM : Field := ⟨Reg.DRF_STATUS, 0, 4⟩
def DRF_STATUS_BOUND_HOST : Field := ⟨Reg.DRF_STATUS, 4, 4⟩
def DRF_RV_BIND_LANE (i : Nat) : Field := ⟨Reg.DRF_RV_BIND i, 0, 3⟩
def DRF_RV_BIND_VALID (i : Nat) : Field := ⟨Reg.DRF_RV_BIND i, 31, 1⟩
def DRF_LANE_RING_BASE (i : Nat) : Field := ⟨Reg.DRF_LANE_RING i, 0, 16⟩
def DRF_LANE_RING_SIZE (i : Nat) : Field := ⟨Reg.DRF_LANE_RING i, 16, 13⟩
def DRF_LANE_HEAD_INDEX (i : Nat) : Field := ⟨Reg.DRF_LANE_HEAD i, 0, 12⟩
def DRF_LANE_TAIL_INDEX (i : Nat) : Field := ⟨Reg.DRF_LANE_TAIL i, 0, 12⟩
def DRF_LANE_STATUS_STATE (i : Nat) : Field := ⟨Reg.DRF_LANE_STATUS i, 0, 2⟩
def DRF_LANE_STATUS_ROVING (i : Nat) : Field := ⟨Reg.DRF_LANE_STATUS i, 2, 1⟩
def DRF_LANE_STATUS_LAST_ERR (i : Nat) : Field := ⟨Reg.DRF_LANE_STATUS i, 8, 5⟩
def DRF_LANE_EVENT_DONE (i : Nat) : Field := ⟨Reg.DRF_LANE_EVENT i, 0, 1⟩
def DRF_LANE_EVENT_ERR (i : Nat) : Field := ⟨Reg.DRF_LANE_EVENT i, 1, 1⟩
def DRF_LANE_EVENT_IRQ (i : Nat) : Field := ⟨Reg.DRF_LANE_EVENT i, 2, 1⟩
def DRF_LANE_EVENT_EN_DONE (i : Nat) : Field := ⟨Reg.DRF_LANE_EVENT_EN i, 0, 1⟩
def DRF_LANE_EVENT_EN_ERR (i : Nat) : Field := ⟨Reg.DRF_LANE_EVENT_EN i, 1, 1⟩
def DRF_LANE_EVENT_EN_IRQ (i : Nat) : Field := ⟨Reg.DRF_LANE_EVENT_EN i, 2, 1⟩
def DRF_LANE_STALL_COUNT (i : Nat) : Field := ⟨Reg.DRF_LANE_STALL i, 0, 32⟩
def DRF_LANE_BLOCKS_COUNT (i : Nat) : Field := ⟨Reg.DRF_LANE_BLOCKS i, 0, 32⟩
def HIF_EVENT_MODE_CHG : Field := ⟨Reg.HIF_EVENT, 0, 1⟩
def HIF_EVENT_CHECK_DONE : Field := ⟨Reg.HIF_EVENT, 1, 1⟩
def HIF_EVENT_WR_REFUSED : Field := ⟨Reg.HIF_EVENT, 2, 1⟩
def HIF_EVENT_LINK_CHG : Field := ⟨Reg.HIF_EVENT, 3, 1⟩
def HIF_EVENT_CLK : Field := ⟨Reg.HIF_EVENT, 4, 1⟩
def HIF_EVENT_SMB_MBOX : Field := ⟨Reg.HIF_EVENT, 5, 1⟩
def HIF_EVENT_SMB_REFUSED : Field := ⟨Reg.HIF_EVENT, 6, 1⟩
def HIF_EVENT_UR : Field := ⟨Reg.HIF_EVENT, 7, 1⟩
def HIF_EVENT_POISON_RX : Field := ⟨Reg.HIF_EVENT, 8, 1⟩
def HIF_EVENT_Q_ERR : Field := ⟨Reg.HIF_EVENT, 9, 1⟩
def HIF_EVENT_EN_MODE_CHG : Field := ⟨Reg.HIF_EVENT_EN, 0, 1⟩
def HIF_EVENT_EN_CHECK_DONE : Field := ⟨Reg.HIF_EVENT_EN, 1, 1⟩
def HIF_EVENT_EN_WR_REFUSED : Field := ⟨Reg.HIF_EVENT_EN, 2, 1⟩
def HIF_EVENT_EN_LINK_CHG : Field := ⟨Reg.HIF_EVENT_EN, 3, 1⟩
def HIF_EVENT_EN_CLK : Field := ⟨Reg.HIF_EVENT_EN, 4, 1⟩
def HIF_EVENT_EN_SMB_MBOX : Field := ⟨Reg.HIF_EVENT_EN, 5, 1⟩
def HIF_EVENT_EN_SMB_REFUSED : Field := ⟨Reg.HIF_EVENT_EN, 6, 1⟩
def HIF_EVENT_EN_UR : Field := ⟨Reg.HIF_EVENT_EN, 7, 1⟩
def HIF_EVENT_EN_POISON_RX : Field := ⟨Reg.HIF_EVENT_EN, 8, 1⟩
def HIF_EVENT_EN_Q_ERR : Field := ⟨Reg.HIF_EVENT_EN, 9, 1⟩
def HIF_CTL_RO_EN : Field := ⟨Reg.HIF_CTL, 0, 1⟩
def HIF_CTL_NS_EN : Field := ⟨Reg.HIF_CTL, 1, 1⟩
def HIF_LINK_STATUS_UP : Field := ⟨Reg.HIF_LINK_STATUS, 0, 1⟩
def HIF_LINK_STATUS_SPEED : Field := ⟨Reg.HIF_LINK_STATUS, 1, 3⟩
def HIF_LINK_STATUS_WIDTH : Field := ⟨Reg.HIF_LINK_STATUS, 4, 5⟩
def HIF_LINK_STATUS_FLIT : Field := ⟨Reg.HIF_LINK_STATUS, 9, 1⟩
def HIF_LINK_STATUS_DSTATE : Field := ⟨Reg.HIF_LINK_STATUS, 10, 2⟩
def HIF_LINK_STATUS_BAR4_LOG : Field := ⟨Reg.HIF_LINK_STATUS, 12, 5⟩
def HIF_BAR4_WIN_WIN : Field := ⟨Reg.HIF_BAR4_WIN, 0, 7⟩
def HIF_WR_REF_COUNT : Field := ⟨Reg.HIF_WR_REF, 0, 16⟩
def HIF_WR_REF_SRC : Field := ⟨Reg.HIF_WR_REF, 16, 3⟩
def HIF_WR_REF_QUEUE : Field := ⟨Reg.HIF_WR_REF, 22, 6⟩
def HIF_WR_REF_VALID : Field := ⟨Reg.HIF_WR_REF, 31, 1⟩
def HIF_WR_REF_ADDR_LO_VALUE : Field := ⟨Reg.HIF_WR_REF_ADDR_LO, 0, 32⟩
def HIF_WR_REF_ADDR_HI_VALUE : Field := ⟨Reg.HIF_WR_REF_ADDR_HI, 0, 32⟩
def HIF_SMB_MBOX_IN_VALUE : Field := ⟨Reg.HIF_SMB_MBOX_IN, 0, 32⟩
def HIF_SMB_MBOX_OUT_VALUE : Field := ⟨Reg.HIF_SMB_MBOX_OUT, 0, 32⟩
def HIF_Q_CFG_EN (i : Nat) : Field := ⟨Reg.HIF_Q_CFG i, 0, 1⟩
def HIF_Q_CFG_MODE (i : Nat) : Field := ⟨Reg.HIF_Q_CFG i, 1, 1⟩
def HIF_Q_CFG_WEIGHT (i : Nat) : Field := ⟨Reg.HIF_Q_CFG i, 4, 4⟩
def HIF_Q_CFG_SIZE_LOG (i : Nat) : Field := ⟨Reg.HIF_Q_CFG i, 8, 4⟩
def HIF_Q_RING_LO_ADDR (i : Nat) : Field := ⟨Reg.HIF_Q_RING_LO i, 0, 32⟩
def HIF_Q_RING_HI_ADDR (i : Nat) : Field := ⟨Reg.HIF_Q_RING_HI i, 0, 32⟩
def HIF_Q_CPL_LO_ADDR (i : Nat) : Field := ⟨Reg.HIF_Q_CPL_LO i, 0, 32⟩
def HIF_Q_CPL_HI_ADDR (i : Nat) : Field := ⟨Reg.HIF_Q_CPL_HI i, 0, 32⟩
def HIF_Q_TAIL_INDEX (i : Nat) : Field := ⟨Reg.HIF_Q_TAIL i, 0, 12⟩
def HIF_Q_HEAD_INDEX (i : Nat) : Field := ⟨Reg.HIF_Q_HEAD i, 0, 12⟩
def HIF_Q_STATUS_STATE (i : Nat) : Field := ⟨Reg.HIF_Q_STATUS i, 0, 2⟩
def HIF_Q_STATUS_PHASE (i : Nat) : Field := ⟨Reg.HIF_Q_STATUS i, 2, 1⟩
def HIF_Q_STATUS_OUTSTANDING (i : Nat) : Field := ⟨Reg.HIF_Q_STATUS i, 8, 5⟩
def HIF_Q_EVENT_DONE (i : Nat) : Field := ⟨Reg.HIF_Q_EVENT i, 0, 1⟩
def HIF_Q_EVENT_ERR (i : Nat) : Field := ⟨Reg.HIF_Q_EVENT i, 1, 1⟩
def HIF_Q_EVENT_BAD_TAIL (i : Nat) : Field := ⟨Reg.HIF_Q_EVENT i, 2, 1⟩
def HIF_Q_EVENT_EN_DONE (i : Nat) : Field := ⟨Reg.HIF_Q_EVENT_EN i, 0, 1⟩
def HIF_Q_EVENT_EN_ERR (i : Nat) : Field := ⟨Reg.HIF_Q_EVENT_EN i, 1, 1⟩
def HIF_Q_EVENT_EN_BAD_TAIL (i : Nat) : Field := ⟨Reg.HIF_Q_EVENT_EN i, 2, 1⟩
def HIF_Q_LIMIT_LIMIT (i : Nat) : Field := ⟨Reg.HIF_Q_LIMIT i, 0, 32⟩
def HIF_Q_WAIT_COUNT (i : Nat) : Field := ⟨Reg.HIF_Q_WAIT i, 0, 32⟩
def HIF_Q_CTL_RESET (i : Nat) : Field := ⟨Reg.HIF_Q_CTL i, 0, 1⟩
def HIF_MSIX_TABLE_BITS (i : Nat) (j : Nat) : Field := ⟨Reg.HIF_MSIX_TABLE i j, 0, 32⟩
def HIF_MSIX_PBA_BITS (i : Nat) : Field := ⟨Reg.HIF_MSIX_PBA i, 0, 32⟩
def HIF_IRQ_MAP_VECTOR (i : Nat) : Field := ⟨Reg.HIF_IRQ_MAP i, 0, 9⟩
def HIF_IRQ_MAP_EN (i : Nat) : Field := ⟨Reg.HIF_IRQ_MAP i, 31, 1⟩
def HIF_VEC_REARM_BITS (i : Nat) : Field := ⟨Reg.HIF_VEC_REARM i, 0, 32⟩
def HIF_VEC_LEVEL_BITS (i : Nat) : Field := ⟨Reg.HIF_VEC_LEVEL i, 0, 32⟩
def GLB_CHECK_STATUS_CODE : Field := ⟨Reg.GLB_CHECK_STATUS, 0, 16⟩
def GLB_CHECK_STATUS_COUNT : Field := ⟨Reg.GLB_CHECK_STATUS, 16, 8⟩
def GLB_CHECK_STATUS_DONE : Field := ⟨Reg.GLB_CHECK_STATUS, 24, 1⟩
def GLB_CHECK_OBJECT_OBJECT : Field := ⟨Reg.GLB_CHECK_OBJECT, 0, 32⟩
def SEC_STATUS_LCS : Field := ⟨Reg.SEC_STATUS, 0, 2⟩
def SEC_STATUS_LEVEL : Field := ⟨Reg.SEC_STATUS, 2, 2⟩
def SEC_STATUS_CONFIDENTIAL : Field := ⟨Reg.SEC_STATUS, 4, 1⟩
def SEC_STATUS_TAINT : Field := ⟨Reg.SEC_STATUS, 5, 1⟩
def SEC_STATUS_SEALED : Field := ⟨Reg.SEC_STATUS, 6, 1⟩
def SEC_STATUS_INERT_FORCED : Field := ⟨Reg.SEC_STATUS, 7, 1⟩
def SEC_STATUS_DBG_CAP : Field := ⟨Reg.SEC_STATUS, 8, 2⟩
def SEC_STATUS_SVN : Field := ⟨Reg.SEC_STATUS, 16, 6⟩
def SEC_STATUS_MIN_SVN : Field := ⟨Reg.SEC_STATUS, 24, 6⟩
def SEC_EVENT_EVENTS : Field := ⟨Reg.SEC_EVENT, 0, 8⟩
def SEC_EVENT_EN_EVENTS : Field := ⟨Reg.SEC_EVENT_EN, 0, 8⟩
def SEC_LOAD_SRC_LO_ADDR : Field := ⟨Reg.SEC_LOAD_SRC_LO, 0, 32⟩
def SEC_LOAD_SRC_HI_ADDR : Field := ⟨Reg.SEC_LOAD_SRC_HI, 0, 32⟩
def SEC_LOAD_CTL_GO : Field := ⟨Reg.SEC_LOAD_CTL, 0, 1⟩
def SEC_LOAD_STATUS_STATE : Field := ⟨Reg.SEC_LOAD_STATUS, 0, 2⟩
def SEC_LOAD_STATUS_ERR : Field := ⟨Reg.SEC_LOAD_STATUS, 8, 5⟩
def SEC_LOAD_STATUS_SECTION : Field := ⟨Reg.SEC_LOAD_STATUS, 16, 16⟩
def SEC_CMD_OP : Field := ⟨Reg.SEC_CMD, 0, 4⟩
def SEC_CMD_ARG : Field := ⟨Reg.SEC_CMD, 16, 16⟩
def SEC_CMD_STATUS_BUSY : Field := ⟨Reg.SEC_CMD_STATUS, 0, 1⟩
def SEC_CMD_STATUS_RESULT : Field := ⟨Reg.SEC_CMD_STATUS, 1, 3⟩
def SEC_CMD_STATUS_FAILS : Field := ⟨Reg.SEC_CMD_STATUS, 4, 4⟩
def SEC_CMD_STATUS_LAST_OP : Field := ⟨Reg.SEC_CMD_STATUS, 8, 4⟩
def SEC_DSN_LO_DSN : Field := ⟨Reg.SEC_DSN_LO, 0, 32⟩
def SEC_DSN_HI_DSN : Field := ⟨Reg.SEC_DSN_HI, 0, 32⟩
def SEC_FUSE_SLOT_USED : Field := ⟨Reg.SEC_FUSE, 0, 4⟩
def SEC_FUSE_SLOT_REVOKED : Field := ⟨Reg.SEC_FUSE, 4, 4⟩
def SEC_FUSE_KEK_PRESENT : Field := ⟨Reg.SEC_FUSE, 8, 1⟩
def SEC_CHAL_DATA (i : Nat) : Field := ⟨Reg.SEC_CHAL i, 0, 32⟩
def SEC_BUF_DATA (i : Nat) : Field := ⟨Reg.SEC_BUF i, 0, 32⟩
def SEC_SNAP_REEL_LO_VALUE : Field := ⟨Reg.SEC_SNAP_REEL_LO, 0, 32⟩
def SEC_SNAP_REEL_HI_VALUE : Field := ⟨Reg.SEC_SNAP_REEL_HI, 0, 32⟩
def SEC_SNAP_VALUE (i : Nat) (j : Nat) : Field := ⟨Reg.SEC_SNAP i j, 0, 32⟩
def SUP_STATUS_QUALIFIED : Field := ⟨Reg.SUP_STATUS, 0, 1⟩
def SUP_STATUS_ILK : Field := ⟨Reg.SUP_STATUS, 1, 1⟩
def SUP_STATUS_TRIPPED : Field := ⟨Reg.SUP_STATUS, 2, 1⟩
def SUP_STATUS_RAMPING : Field := ⟨Reg.SUP_STATUS, 3, 1⟩
def SUP_STATUS_ARBITRATING : Field := ⟨Reg.SUP_STATUS, 4, 1⟩
def SUP_STATUS_DEGRADED : Field := ⟨Reg.SUP_STATUS, 5, 1⟩
def SUP_STATUS_SELFTEST_OK : Field := ⟨Reg.SUP_STATUS, 6, 1⟩
def SUP_STATUS_QUIET : Field := ⟨Reg.SUP_STATUS, 7, 1⟩
def SUP_STATUS_PWR_BAND : Field := ⟨Reg.SUP_STATUS, 8, 3⟩
def SUP_STATUS_CAL_BAND : Field := ⟨Reg.SUP_STATUS, 12, 3⟩
def SUP_EVENT_TRIP : Field := ⟨Reg.SUP_EVENT, 0, 1⟩
def SUP_EVENT_ERR_S0 : Field := ⟨Reg.SUP_EVENT, 1, 1⟩
def SUP_EVENT_ERR_S1 : Field := ⟨Reg.SUP_EVENT, 2, 1⟩
def SUP_EVENT_ERR_S2 : Field := ⟨Reg.SUP_EVENT, 3, 1⟩
def SUP_EVENT_ERR_LOST : Field := ⟨Reg.SUP_EVENT, 4, 1⟩
def SUP_EVENT_MON_FLAG : Field := ⟨Reg.SUP_EVENT, 5, 1⟩
def SUP_EVENT_DISAGREE : Field := ⟨Reg.SUP_EVENT, 6, 1⟩
def SUP_EVENT_DEGRADED : Field := ⟨Reg.SUP_EVENT, 7, 1⟩
def SUP_EVENT_MADC_A_DONE : Field := ⟨Reg.SUP_EVENT, 8, 1⟩
def SUP_EVENT_MADC_B_DONE : Field := ⟨Reg.SUP_EVENT, 9, 1⟩
def SUP_EVENT_MADC_OVR : Field := ⟨Reg.SUP_EVENT, 10, 1⟩
def SUP_EVENT_MADC_REFUSED : Field := ⟨Reg.SUP_EVENT, 11, 1⟩
def SUP_EVENT_SELFTEST_PASS : Field := ⟨Reg.SUP_EVENT, 12, 1⟩
def SUP_EVENT_BAND_CHG : Field := ⟨Reg.SUP_EVENT, 13, 1⟩
def SUP_EVENT_TS_INVALID : Field := ⟨Reg.SUP_EVENT, 14, 1⟩
def SUP_EVENT_ILK_CHG : Field := ⟨Reg.SUP_EVENT, 15, 1⟩
def SUP_EVENT_CLEAR_REFUSED : Field := ⟨Reg.SUP_EVENT, 16, 1⟩
def SUP_EVENT_BLANK_IGN : Field := ⟨Reg.SUP_EVENT, 17, 1⟩
def SUP_EVENT_SUPPLY : Field := ⟨Reg.SUP_EVENT, 18, 1⟩
def SUP_EVENT_QUALIFIED : Field := ⟨Reg.SUP_EVENT, 19, 1⟩
def SUP_EVENT_EN_TRIP : Field := ⟨Reg.SUP_EVENT_EN, 0, 1⟩
def SUP_EVENT_EN_ERR_S0 : Field := ⟨Reg.SUP_EVENT_EN, 1, 1⟩
def SUP_EVENT_EN_ERR_S1 : Field := ⟨Reg.SUP_EVENT_EN, 2, 1⟩
def SUP_EVENT_EN_ERR_S2 : Field := ⟨Reg.SUP_EVENT_EN, 3, 1⟩
def SUP_EVENT_EN_ERR_LOST : Field := ⟨Reg.SUP_EVENT_EN, 4, 1⟩
def SUP_EVENT_EN_MON_FLAG : Field := ⟨Reg.SUP_EVENT_EN, 5, 1⟩
def SUP_EVENT_EN_DISAGREE : Field := ⟨Reg.SUP_EVENT_EN, 6, 1⟩
def SUP_EVENT_EN_DEGRADED : Field := ⟨Reg.SUP_EVENT_EN, 7, 1⟩
def SUP_EVENT_EN_MADC_A_DONE : Field := ⟨Reg.SUP_EVENT_EN, 8, 1⟩
def SUP_EVENT_EN_MADC_B_DONE : Field := ⟨Reg.SUP_EVENT_EN, 9, 1⟩
def SUP_EVENT_EN_MADC_OVR : Field := ⟨Reg.SUP_EVENT_EN, 10, 1⟩
def SUP_EVENT_EN_MADC_REFUSED : Field := ⟨Reg.SUP_EVENT_EN, 11, 1⟩
def SUP_EVENT_EN_SELFTEST_PASS : Field := ⟨Reg.SUP_EVENT_EN, 12, 1⟩
def SUP_EVENT_EN_BAND_CHG : Field := ⟨Reg.SUP_EVENT_EN, 13, 1⟩
def SUP_EVENT_EN_TS_INVALID : Field := ⟨Reg.SUP_EVENT_EN, 14, 1⟩
def SUP_EVENT_EN_ILK_CHG : Field := ⟨Reg.SUP_EVENT_EN, 15, 1⟩
def SUP_EVENT_EN_CLEAR_REFUSED : Field := ⟨Reg.SUP_EVENT_EN, 16, 1⟩
def SUP_EVENT_EN_BLANK_IGN : Field := ⟨Reg.SUP_EVENT_EN, 17, 1⟩
def SUP_EVENT_EN_SUPPLY : Field := ⟨Reg.SUP_EVENT_EN, 18, 1⟩
def SUP_EVENT_EN_QUALIFIED : Field := ⟨Reg.SUP_EVENT_EN, 19, 1⟩
def SUP_CFG_COLD_STAGE : Field := ⟨Reg.SUP_CFG, 0, 3⟩
def SUP_CFG_COLD_EN : Field := ⟨Reg.SUP_CFG, 3, 1⟩
def SUP_CMD_SELFTEST : Field := ⟨Reg.SUP_CMD, 0, 1⟩
def SUP_CMD_CLR_TRIP : Field := ⟨Reg.SUP_CMD, 1, 1⟩
def SUP_TRIP_FIRST : Field := ⟨Reg.SUP_TRIP, 0, 8⟩
def SUP_TRIP_VALID : Field := ⟨Reg.SUP_TRIP, 8, 1⟩
def SUP_TRIP_OBJECT : Field := ⟨Reg.SUP_TRIP, 16, 16⟩
def SUP_TRIP_SEEN_DF : Field := ⟨Reg.SUP_TRIP_SEEN, 1, 11⟩
def SUP_TRIP_SEEN_S3 : Field := ⟨Reg.SUP_TRIP_SEEN, 12, 1⟩
def SUP_TRIP_ACTIVE_DF : Field := ⟨Reg.SUP_TRIP_ACTIVE, 1, 11⟩
def SUP_TRIP_ACTIVE_S3 : Field := ⟨Reg.SUP_TRIP_ACTIVE, 12, 1⟩
def SUP_TRIP_REEL_LO_NS : Field := ⟨Reg.SUP_TRIP_REEL_LO, 0, 32⟩
def SUP_TRIP_REEL_HI_NS : Field := ⟨Reg.SUP_TRIP_REEL_HI, 0, 32⟩
def SUP_TRIP_ERR_CLASS : Field := ⟨Reg.SUP_TRIP_ERR, 0, 8⟩
def SUP_TRIP_ERR_EVENT : Field := ⟨Reg.SUP_TRIP_ERR, 8, 8⟩
def SUP_TRIP_ERR_INSTANCE : Field := ⟨Reg.SUP_TRIP_ERR, 16, 12⟩
def SUP_ERR_CUR_SEV : Field := ⟨Reg.SUP_ERR_CUR, 0, 2⟩
def SUP_ERR_CUR_VALID : Field := ⟨Reg.SUP_ERR_CUR, 2, 1⟩
def SUP_ERR_CUR_SEQ : Field := ⟨Reg.SUP_ERR_CUR, 8, 8⟩
def SUP_ERR_CUR_CLASS : Field := ⟨Reg.SUP_ERR_CUR, 16, 8⟩
def SUP_ERR_CUR_EVENT : Field := ⟨Reg.SUP_ERR_CUR, 24, 8⟩
def SUP_ERR_CUR_INFO_INSTANCE : Field := ⟨Reg.SUP_ERR_CUR_INFO, 0, 12⟩
def SUP_ERR_CUR_INFO_REPEAT : Field := ⟨Reg.SUP_ERR_CUR_INFO, 16, 8⟩
def SUP_ERR_CUR_REEL_LO_NS : Field := ⟨Reg.SUP_ERR_CUR_REEL_LO, 0, 32⟩
def SUP_ERR_CUR_REEL_HI_NS : Field := ⟨Reg.SUP_ERR_CUR_REEL_HI, 0, 32⟩
def SUP_ERR_ACK_SEQ : Field := ⟨Reg.SUP_ERR_ACK, 8, 8⟩
def SUP_ERR_DEPTH_S0 : Field := ⟨Reg.SUP_ERR_DEPTH, 0, 6⟩
def SUP_ERR_DEPTH_S1 : Field := ⟨Reg.SUP_ERR_DEPTH, 8, 6⟩
def SUP_ERR_DEPTH_S2 : Field := ⟨Reg.SUP_ERR_DEPTH, 16, 6⟩
def SUP_ERR_LOST_S0 : Field := ⟨Reg.SUP_ERR_LOST, 0, 8⟩
def SUP_ERR_LOST_S1 : Field := ⟨Reg.SUP_ERR_LOST, 8, 8⟩
def SUP_ERR_LOST_S2 : Field := ⟨Reg.SUP_ERR_LOST, 16, 8⟩
def SUP_QUIET_FLX : Field := ⟨Reg.SUP_QUIET, 0, 10⟩
def SUP_TOL_ECC : Field := ⟨Reg.SUP_TOL, 0, 8⟩
def SUP_TOL_FAILOVER : Field := ⟨Reg.SUP_TOL, 8, 8⟩
def SUP_TOL_DISAGREE : Field := ⟨Reg.SUP_TOL, 16, 8⟩
def SUP_TOL_PATH : Field := ⟨Reg.SUP_TOL, 24, 8⟩
def SUP_SELFTEST_PASSES : Field := ⟨Reg.SUP_SELFTEST, 0, 16⟩
def SUP_SELFTEST_FAIL_ITEM : Field := ⟨Reg.SUP_SELFTEST, 16, 4⟩
def SUP_SELFTEST_FAILED : Field := ⟨Reg.SUP_SELFTEST, 20, 1⟩
def SUP_MADC_CTL_START (i : Nat) : Field := ⟨Reg.SUP_MADC_CTL i, 0, 1⟩
def SUP_MADC_CTL_MUX (i : Nat) : Field := ⟨Reg.SUP_MADC_CTL i, 8, 9⟩
def SUP_MADC_RESULT_VALUE (i : Nat) : Field := ⟨Reg.SUP_MADC_RESULT i, 0, 16⟩
def SUP_MADC_RESULT_VALID (i : Nat) : Field := ⟨Reg.SUP_MADC_RESULT i, 16, 1⟩
def SUP_MADC_RESULT_OVERRUN (i : Nat) : Field := ⟨Reg.SUP_MADC_RESULT i, 17, 1⟩
def SUP_MADC_RESULT_MUX (i : Nat) : Field := ⟨Reg.SUP_MADC_RESULT i, 18, 9⟩
def SUP_MON_CFG_EN (i : Nat) : Field := ⟨Reg.SUP_MON_CFG i, 0, 1⟩
def SUP_MON_CFG_LATCH (i : Nat) : Field := ⟨Reg.SUP_MON_CFG i, 1, 1⟩
def SUP_MON_CFG_QUAL (i : Nat) : Field := ⟨Reg.SUP_MON_CFG i, 2, 5⟩
def SUP_MON_CFG_BLANK_DLY (i : Nat) : Field := ⟨Reg.SUP_MON_CFG i, 8, 6⟩
def SUP_MON_CFG_BLANK_LEN (i : Nat) : Field := ⟨Reg.SUP_MON_CFG i, 16, 6⟩
def SUP_MON_THR_LO (i : Nat) : Field := ⟨Reg.SUP_MON_THR i, 0, 10⟩
def SUP_MON_THR_HI (i : Nat) : Field := ⟨Reg.SUP_MON_THR i, 16, 10⟩
def SUP_MON_SLEW_SLEW_THR (i : Nat) : Field := ⟨Reg.SUP_MON_SLEW i, 0, 10⟩
def SUP_MON_STATUS_FLAG (i : Nat) : Field := ⟨Reg.SUP_MON_STATUS i, 0, 1⟩
def SUP_MON_STATUS_BREACH (i : Nat) : Field := ⟨Reg.SUP_MON_STATUS i, 1, 1⟩
def SUP_MON_STATUS_QUALIFIED (i : Nat) : Field := ⟨Reg.SUP_MON_STATUS i, 2, 1⟩
def SUP_MON_STATUS_BLANKED (i : Nat) : Field := ⟨Reg.SUP_MON_STATUS i, 3, 1⟩
def SUP_MON_STATUS_CMP_DIS (i : Nat) : Field := ⟨Reg.SUP_MON_STATUS i, 4, 4⟩
def SUP_MON_STATUS_BLANK_IGN (i : Nat) : Field := ⟨Reg.SUP_MON_STATUS i, 8, 8⟩
def SUP_MON_STATUS_VIOL_CNT (i : Nat) : Field := ⟨Reg.SUP_MON_STATUS i, 16, 16⟩
def SUP_TS_CFG_EN (i : Nat) : Field := ⟨Reg.SUP_TS_CFG i, 0, 1⟩
def SUP_TS_CFG_MODE (i : Nat) : Field := ⟨Reg.SUP_TS_CFG i, 1, 1⟩
def SUP_TS_CFG_POLARITY (i : Nat) : Field := ⟨Reg.SUP_TS_CFG i, 2, 1⟩
def SUP_TS_CFG_EXC (i : Nat) : Field := ⟨Reg.SUP_TS_CFG i, 3, 4⟩
def SUP_TS_CFG_LIMIT_EN (i : Nat) : Field := ⟨Reg.SUP_TS_CFG i, 7, 1⟩
def SUP_TS_VALUE_READING (i : Nat) : Field := ⟨Reg.SUP_TS_VALUE i, 0, 32⟩
def SUP_TS_STATUS_BAND (i : Nat) : Field := ⟨Reg.SUP_TS_STATUS i, 0, 3⟩
def SUP_TS_STATUS_VALID (i : Nat) : Field := ⟨Reg.SUP_TS_STATUS i, 3, 1⟩
def SUP_TS_STATUS_RATE (i : Nat) : Field := ⟨Reg.SUP_TS_STATUS i, 4, 2⟩
def SUP_TS_EDGE_VALUE (i : Nat) (j : Nat) : Field := ⟨Reg.SUP_TS_EDGE i j, 0, 32⟩
def SUP_TS_LIMIT_VALUE (i : Nat) : Field := ⟨Reg.SUP_TS_LIMIT i, 0, 32⟩
def PWR_STATUS_DORM_LEVEL : Field := ⟨Reg.PWR_STATUS, 0, 2⟩
def PWR_STATUS_DORM_SHORT : Field := ⟨Reg.PWR_STATUS, 2, 1⟩
def PWR_STATUS_GATING : Field := ⟨Reg.PWR_STATUS, 3, 1⟩
def PWR_EVENT_WAKE_LATE : Field := ⟨Reg.PWR_EVENT, 0, 1⟩
def PWR_EVENT_DORM_SHORT : Field := ⟨Reg.PWR_EVENT, 1, 1⟩
def PWR_CMD_SNAP : Field := ⟨Reg.PWR_CMD, 0, 1⟩
def PWR_CMD_CLEAR : Field := ⟨Reg.PWR_CMD, 1, 1⟩
def PWR_DORM_TOL_NS : Field := ⟨Reg.PWR_DORM_TOL, 0, 32⟩
def PWR_LAT_TOL_NS (i : Nat) : Field := ⟨Reg.PWR_LAT_TOL i, 0, 32⟩
def PWR_SNAP_REEL_LO_VALUE : Field := ⟨Reg.PWR_SNAP_REEL_LO, 0, 32⟩
def PWR_SNAP_REEL_HI_VALUE : Field := ⟨Reg.PWR_SNAP_REEL_HI, 0, 32⟩
def PWR_TOTAL_ENERGY_LO_VALUE : Field := ⟨Reg.PWR_TOTAL_ENERGY_LO, 0, 32⟩
def PWR_TOTAL_ENERGY_HI_VALUE : Field := ⟨Reg.PWR_TOTAL_ENERGY_HI, 0, 32⟩
def PWR_PULSES_LO_VALUE : Field := ⟨Reg.PWR_PULSES_LO, 0, 32⟩
def PWR_PULSES_HI_VALUE : Field := ⟨Reg.PWR_PULSES_HI, 0, 32⟩
def PWR_DECISIONS_LO_VALUE : Field := ⟨Reg.PWR_DECISIONS_LO, 0, 32⟩
def PWR_DECISIONS_HI_VALUE : Field := ⟨Reg.PWR_DECISIONS_HI, 0, 32⟩
def PWR_PARK_BITS (i : Nat) : Field := ⟨Reg.PWR_PARK i, 0, 32⟩
def PWR_PORT_STATE_BITS (i : Nat) : Field := ⟨Reg.PWR_PORT_STATE i, 0, 32⟩
def PWR_GRP_ENERGY_LO_UJ (i : Nat) : Field := ⟨Reg.PWR_GRP_ENERGY_LO i, 0, 32⟩
def PWR_GRP_ENERGY_HI_UJ (i : Nat) : Field := ⟨Reg.PWR_GRP_ENERGY_HI i, 0, 32⟩
def PWR_GRP_EVENT_WAKE_LATE (i : Nat) : Field := ⟨Reg.PWR_GRP_EVENT i, 0, 1⟩
def PWR_GRP_WAKES_WAKES (i : Nat) : Field := ⟨Reg.PWR_GRP_WAKES i, 0, 24⟩
def PWR_GRP_WAKES_LATE (i : Nat) : Field := ⟨Reg.PWR_GRP_WAKES i, 24, 8⟩
def PWR_GRP_RES_US (i : Nat) (j : Nat) : Field := ⟨Reg.PWR_GRP_RES i j, 0, 32⟩
def GLB_RST_CTL_SYS : Field := ⟨Reg.GLB_RST_CTL, 0, 1⟩
def GLB_RST_CTL_KEY : Field := ⟨Reg.GLB_RST_CTL, 24, 8⟩
def GLB_RST_STATUS_CAUSE : Field := ⟨Reg.GLB_RST_STATUS, 0, 2⟩
def GLB_RST_STATUS_RAIL : Field := ⟨Reg.GLB_RST_STATUS, 2, 6⟩
def BOB_DIR_WORD (i : Nat) (j : Nat) (k : Nat) : Field := ⟨Reg.BOB_DIR i j k, 0, 32⟩

end Fld

end Sys2Proof.Machine
end

