-- ==== Sys2Proof/Machine/RegTable.lean ====
section
/-! DEFINITION. Machine/RegTable.lean: every BAR0 register of the spec with its access types as bit masks (R6),
read off the register tables of spec/01 to spec/16. A row of an array register stands for all its instances. -/

namespace Sys2Proof.Machine

/-- Which half of a pair a register is (R10): `_LO`, `_HI`, or neither. -/
inductive PairHalf where | none | lo | hi
  deriving DecidableEq, Repr

/-- One register row: its base offset, the strides and counts of up to three indices (count 1 and stride 0 where
it has fewer), the half of a pair it is, and the bits of each access type of R6. -/
structure RegDesc where
  name : String
  base : Nat
  dims : List (Nat × Nat)
  half : PairHalf
  ro : BitVec 32
  rw : BitVec 32
  rwl : BitVec 32
  w1c : BitVec 32
  w1s : BitVec 32
  wo : BitVec 32
  deriving DecidableEq, Repr

def rowsGLB : List RegDesc := [
  ⟨"GLB_MODE_CTL", 0x10, [], .none, 0, 0, 0, 0, 0, 0xFF00010F⟩,
  ⟨"GLB_MODE_STATUS", 0x14, [], .none, 0x21FFFFF, 0, 0, 0x1000000, 0, 0⟩,
  ⟨"GLB_MODE_REEL_LO", 0x20, [], .lo, 0xFFFFFFFF, 0, 0, 0, 0, 0⟩,
  ⟨"GLB_MODE_REEL_HI", 0x24, [], .hi, 0xFFFFFFFF, 0, 0, 0, 0, 0⟩,
  ⟨"GLB_CLK_CTL", 0x30, [], .none, 0, 0, 7, 0, 0, 0x100⟩,
  ⟨"GLB_CLK_STATUS", 0x34, [], .none, 0xFF0F, 0, 0, 0x70, 0, 0⟩,
  ⟨"GLB_DRV_MAP", 0x1000, [(4, 256)], .none, 0x803F0F1F, 0, 0, 0, 0, 0⟩,
  ⟨"GLB_PRB_MAP", 0x1400, [(4, 256)], .none, 0x803F0F1F, 0, 0, 0, 0, 0⟩,
  ⟨"GLB_RDO_MAP", 0x1800, [(4, 256)], .none, 0x803F0F1F, 0, 0, 0, 0, 0⟩,
  ⟨"GLB_CHECK_STATUS", 0x18, [], .none, 0x1FFFFFF, 0, 0, 0, 0, 0⟩,
  ⟨"GLB_CHECK_OBJECT", 0x1C, [], .none, 0xFFFFFFFF, 0, 0, 0, 0, 0⟩,
  ⟨"GLB_RST_CTL", 0x40, [], .none, 0, 0, 0, 0, 0, 0xFF000001⟩,
  ⟨"GLB_RST_STATUS", 0x44, [], .none, 0xFF, 0, 0, 0, 0, 0⟩]

def rowsTLN0 : List RegDesc := [
  ⟨"TLN_CTL", 0x50000, [], .none, 0, 0, 0x17, 0, 0, 0⟩,
  ⟨"TLN_CMD", 0x50004, [], .none, 0, 0, 0, 0, 0, 3⟩,
  ⟨"TLN_STATUS", 0x50008, [], .none, 0xFF, 0, 0, 0, 0, 0⟩,
  ⟨"TLN_EVENT", 0x5000C, [], .none, 0, 0, 0, 0xFFFF, 0, 0⟩,
  ⟨"TLN_REEL_NS_LO", 0x50010, [], .lo, 0xFFFFFFFF, 0, 0, 0, 0, 0⟩,
  ⟨"TLN_REEL_NS_HI", 0x50014, [], .hi, 0xFFFFFFFF, 0, 0, 0, 0, 0⟩,
  ⟨"TLN_REEL_FRAC", 0x50018, [], .none, 0xFFFFFFFF, 0, 0, 0, 0, 0⟩,
  ⟨"TLN_SET_LO", 0x50020, [], .lo, 0, 0, 0xFFFFFFFF, 0, 0, 0⟩,
  ⟨"TLN_SET_HI", 0x50024, [], .hi, 0, 0, 0xFFFFFFFF, 0, 0, 0⟩,
  ⟨"TLN_ADJ", 0x50028, [], .none, 0xFFFFFFFF, 0, 0, 0, 0, 0⟩,
  ⟨"TLN_HOLD_ADJ", 0x5002C, [], .none, 0xFFFFFFFF, 0, 0, 0, 0, 0⟩,
  ⟨"TLN_JUMP_LIMIT", 0x50030, [], .none, 0, 0, 0xFFFFFFFF, 0, 0, 0⟩,
  ⟨"TLN_SLEW_MAX", 0x50034, [], .none, 0, 0, 0x7FFFFF, 0, 0, 0⟩,
  ⟨"TLN_LOCK_CFG", 0x50038, [], .none, 0, 0, 0xFFFFFF, 0, 0, 0⟩,
  ⟨"TLN_HOLD_POLICY", 0x5003C, [], .none, 0, 0, 0xFFFF0003, 0, 0, 0⟩,
  ⟨"TLN_SERVO_KP", 0x50040, [], .none, 0, 0xFFFFFFFF, 0, 0, 0, 0⟩,
  ⟨"TLN_SERVO_KI", 0x50044, [], .none, 0, 0xFFFFFFFF, 0, 0, 0, 0⟩,
  ⟨"TLN_OFFSET", 0x50048, [], .none, 0xFFFFFFFF, 0, 0, 0, 0, 0⟩,
  ⟨"TLN_ASYM_THRESH", 0x5004C, [], .none, 0, 0, 0xFFFFFF, 0, 0, 0⟩,
  ⟨"TLN_UTC_OFFSET", 0x50050, [], .none, 0, 0xFFFF, 0, 0, 0x10000, 0⟩,
  ⟨"TLN_REFUSED_LO", 0x50058, [], .lo, 0xFFFFFFFF, 0, 0, 0, 0, 0⟩,
  ⟨"TLN_REFUSED_HI", 0x5005C, [], .hi, 0xFFFFFFFF, 0, 0, 0, 0, 0⟩,
  ⟨"TLN_COUNT", 0x50060, [], .none, 0xFFFFFFFF, 0, 0, 0, 0, 0⟩,
  ⟨"TLN_PTP_CFG", 0x50100, [(0x40, 2)], .none, 0, 0xFFF03, 0, 0, 0, 0⟩]

def rowsTLN1 : List RegDesc := [
  ⟨"TLN_PTP_MAC_LO", 0x50104, [(0x40, 2)], .lo, 0, 0xFFFFFFFF, 0, 0, 0, 0⟩,
  ⟨"TLN_PTP_MAC_HI", 0x50108, [(0x40, 2)], .hi, 0, 0xFFFFFFFF, 0, 0, 0, 0⟩,
  ⟨"TLN_PTP_IPV4", 0x5010C, [(0x40, 2)], .none, 0, 0xFFFFFFFF, 0, 0, 0, 0⟩,
  ⟨"TLN_PTP_CORR", 0x50110, [(0x40, 2)], .none, 0, 0xFFFFFFFF, 0, 0, 0, 0⟩,
  ⟨"TLN_PTP_OFFSET", 0x50114, [(0x40, 2)], .none, 0xFFFFFFFF, 0, 0, 0, 0, 0⟩,
  ⟨"TLN_PTP_DELAY", 0x50118, [(0x40, 2)], .none, 0xFFFFFFFF, 0, 0, 0, 0, 0⟩,
  ⟨"TLN_PTP_STATUS", 0x5011C, [(0x40, 2)], .none, 0xFFFF0003, 0, 0, 0, 0, 0⟩,
  ⟨"TLN_LAUNCH_T_LO", 0x50200, [(0x20, 16)], .lo, 0, 0xFFFFFFFF, 0, 0, 0, 0⟩,
  ⟨"TLN_LAUNCH_T_HI", 0x50204, [(0x20, 16)], .hi, 0, 0xFFFFFFFF, 0, 0, 0, 0⟩,
  ⟨"TLN_LAUNCH_ACT_LO", 0x50208, [(0x20, 16)], .lo, 0xFFFFFFFF, 0, 0, 0, 0, 0⟩,
  ⟨"TLN_LAUNCH_ACT_HI", 0x5020C, [(0x20, 16)], .hi, 0xFFFFFFFF, 0, 0, 0, 0, 0⟩,
  ⟨"TLN_LAUNCH_CFG", 0x50210, [(0x20, 16)], .none, 0, 0xFFFFFFF2, 0, 0xC, 1, 0⟩]

def rowsSPN : List RegDesc := [
  ⟨"SPN_CTL", 0x100000, [(0x10000, 64)], .none, 0, 0, 0x11FFF, 0, 0, 0⟩,
  ⟨"SPN_CMD", 0x100004, [(0x10000, 64)], .none, 0, 0, 0, 0, 0, 0xFF⟩,
  ⟨"SPN_STATUS", 0x100008, [(0x10000, 64)], .none, 0x7FF1FFF, 0, 0, 0, 0, 0⟩,
  ⟨"SPN_EVENT", 0x10000C, [(0x10000, 64)], .none, 0, 0, 0, 0x1FFF, 0, 0⟩,
  ⟨"SPN_EVENT_EN", 0x100010, [(0x10000, 64)], .none, 0, 0x1FFF, 0, 0, 0, 0⟩,
  ⟨"SPN_SIN", 0x100014, [(0x10000, 64)], .none, 0xFFFF, 0, 0, 0, 0, 0⟩,
  ⟨"SPN_SIN_OVR", 0x100018, [(0x10000, 64)], .none, 0, 0, 0, 0xFFFF, 0, 0⟩,
  ⟨"SPN_PEND", 0x10001C, [(0x10000, 64)], .none, 0x1FF00FF, 0, 0, 0, 0, 0⟩,
  ⟨"SPN_VEC", 0x100020, [(0x10000, 64), (4, 8)], .none, 0, 0, 0x11F1FFF, 0x2000000, 0, 0⟩,
  ⟨"SPN_RESUME", 0x100040, [(0x10000, 64)], .none, 0x11FFF, 0, 0, 0, 0, 0⟩,
  ⟨"SPN_COUNT", 0x100044, [(0x10000, 64)], .none, 0xFFFFFFFF, 0, 0, 0, 0, 0⟩,
  ⟨"SPN_ERR", 0x100048, [(0x10000, 64)], .none, 0x1FFF, 0, 0, 0, 0, 0⟩,
  ⟨"SPN_IRQ_CODE", 0x10004C, [(0x10000, 64)], .none, 0xFF, 0, 0, 0, 0, 0⟩,
  ⟨"SPN_DBG", 0x100050, [(0x10000, 64)], .none, 0, 0, 0, 0, 0, 7⟩,
  ⟨"SPN_RESULT", 0x100060, [(0x10000, 64), (4, 16)], .none, 0xFFFFFFFF, 0, 0, 0, 0, 0⟩,
  ⟨"SPN_G", 0x100100, [(0x10000, 64), (4, 32)], .none, 0xFFFFFFFF, 0, 0, 0, 0, 0⟩,
  ⟨"SPN_LC", 0x100180, [(0x10000, 64), (4, 8)], .none, 0xFFFFFFFF, 0, 0, 0, 0, 0⟩,
  ⟨"SPN_TB_LO", 0x1001A0, [(0x10000, 64)], .lo, 0xFFFFFFFF, 0, 0, 0, 0, 0⟩,
  ⟨"SPN_TB_HI", 0x1001A4, [(0x10000, 64)], .hi, 0xFFFFFFFF, 0, 0, 0, 0, 0⟩,
  ⟨"SPN_CA_LO", 0x1001A8, [(0x10000, 64)], .lo, 0xFFFFFFFF, 0, 0, 0, 0, 0⟩,
  ⟨"SPN_CA_HI", 0x1001AC, [(0x10000, 64)], .hi, 0xFFFFFFFF, 0, 0, 0, 0, 0⟩]

/-- Pulse synthesis. R5 leaves open whether bits [31:16] of the `_HI` half of a 48-bit value (here SYN_CH_INIT_FTW, and RDO_CH_FTW, RDO_ARR_BAND
and TLN_PTP_MAC in their tables) are reserved: the field row is [31:0], the Function says `_HI` [15:0]. The model stores and reads back all 32
(DESIGN CHOICE, log entry 137). -/
def rowsSYN0 : List RegDesc := [
  ⟨"SYN_EVENT", 0x500000, [], .none, 0, 0, 0, 0xF, 0, 0⟩,
  ⟨"SYN_STATUS", 0x500004, [], .none, 7, 0, 0, 0, 0, 0⟩,
  ⟨"SYN_PORT_CFG", 0x501000, [(0x40, 48)], .none, 0, 0, 0xFFFF0003, 0, 0, 0⟩,
  ⟨"SYN_PORT_BAND", 0x501004, [(0x40, 48)], .none, 0, 0, 0x3FFF3FFF, 0, 0, 0⟩,
  ⟨"SYN_PORT_EVENT", 0x501008, [(0x40, 48)], .none, 0, 0, 0, 7, 0, 0⟩,
  ⟨"SYN_PORT_CLIP_CNT", 0x50100C, [(0x40, 48)], .none, 0xFFFFFFFF, 0, 0, 0, 0, 0⟩,
  ⟨"SYN_PORT_ASLEEP_CNT", 0x501024, [(0x40, 48)], .none, 0xFFFFFFFF, 0, 0, 0, 0, 0⟩,
  ⟨"SYN_PWR_ENV", 0x501010, [(0x40, 48), (4, 5)], .none, 0, 0, 0xFFFFFFFF, 0, 0, 0⟩,
  ⟨"SYN_CH_CFG", 0x504000, [(0x20, 512)], .none, 0, 0, 1, 0, 0, 0⟩,
  ⟨"SYN_CH_FTW_LO", 0x504004, [(0x20, 512)], .lo, 0xFFFFFFFF, 0, 0, 0, 0, 0⟩,
  ⟨"SYN_CH_FTW_HI", 0x504008, [(0x20, 512)], .hi, 0xFFFFFFFF, 0, 0, 0, 0, 0⟩,
  ⟨"SYN_CH_INIT_FTW_LO", 0x504014, [(0x20, 512)], .lo, 0, 0, 0xFFFFFFFF, 0, 0, 0⟩,
  ⟨"SYN_CH_INIT_FTW_HI", 0x504018, [(0x20, 512)], .hi, 0, 0, 0xFFFFFFFF, 0, 0, 0⟩,
  ⟨"SYN_CH_PHASE", 0x50400C, [(0x20, 512)], .none, 0xFFFF, 0, 0, 0, 0, 0⟩,
  ⟨"SYN_CH_INIT_PHASE", 0x50401C, [(0x20, 512)], .none, 0, 0, 0xFFFF, 0, 0, 0⟩,
  ⟨"SYN_CH_STATUS", 0x504010, [(0x20, 512)], .none, 0xFFFF0003, 0, 0, 0, 0, 0⟩,
  ⟨"SYN_FLX_CFG", 0x510000, [(0x200, 128)], .none, 0, 0, 0xF07, 0, 0, 0⟩,
  ⟨"SYN_FLX_G", 0x510004, [(0x200, 128)], .none, 0, 0, 0xFFFFFFFF, 0, 0, 0⟩,
  ⟨"SYN_FLX_IIR_A", 0x510040, [(0x200, 128), (8, 8)], .none, 0, 0, 0xFFFFFFFF, 0, 0, 0⟩,
  ⟨"SYN_FLX_IIR_B", 0x510044, [(0x200, 128), (8, 8)], .none, 0, 0, 0xFFFFFFFF, 0, 0, 0⟩,
  ⟨"SYN_FLX_FIR", 0x510080, [(0x200, 128), (4, 48)], .none, 0, 0, 0xFFFFFF, 0, 0, 0⟩,
  ⟨"SYN_FLX_EVENT", 0x510008, [(0x200, 128)], .none, 0, 0, 0, 1, 0, 0⟩,
  ⟨"SYN_FLX_CLIP_CNT", 0x51000C, [(0x200, 128)], .none, 0xFFFFFFFF, 0, 0, 0, 0, 0⟩,
  ⟨"SYN_BIA_CFG", 0x520000, [(0x20, 64)], .none, 0, 0, 1, 0, 0, 0⟩]

def rowsSYN1 : List RegDesc := [
  ⟨"SYN_BIA_SLEW", 0x520004, [(0x20, 64)], .none, 0, 0, 0xFFFFF, 0, 0, 0⟩,
  ⟨"SYN_BIA_SAFE_SLEW", 0x520008, [(0x20, 64)], .none, 0, 0, 0xFFFFF, 0, 0, 0⟩,
  ⟨"SYN_BIA_TARGET", 0x52000C, [(0x20, 64)], .none, 0xFFFFF, 0, 0, 0, 0, 0⟩,
  ⟨"SYN_BIA_NOW", 0x520010, [(0x20, 64)], .none, 0xFFFFF, 0, 0, 0, 0, 0⟩,
  ⟨"SYN_MRK_CFG", 0x521000, [(4, 16)], .none, 0, 0, 0x8000003F, 0, 0, 0⟩,
  ⟨"SYN_TRG_CFG", 0x521100, [(4, 32)], .none, 0, 0, 0xFFFFFFFF, 0, 0, 0⟩,
  ⟨"SYN_MRK_LEVEL", 0x521200, [], .none, 0xFFFFFFFF, 0, 0, 0, 0, 0⟩,
  ⟨"SYN_TRG_LEVEL", 0x521204, [], .none, 0xFFFFFFFF, 0, 0, 0, 0, 0⟩]

def rowsSTM0 : List RegDesc := [
  ⟨"STM_EVENT", 0x600000, [], .none, 0, 0, 0, 0xF, 0, 0⟩,
  ⟨"STM_UR_HEAD", 0x600004, [], .none, 0xFFFF01FF, 0, 0, 0, 0, 0xF000⟩,
  ⟨"STM_UR_LOG_REEL_LO", 0x600100, [(0x10, 16)], .lo, 0xFFFFFFFF, 0, 0, 0, 0, 0⟩,
  ⟨"STM_UR_LOG_REEL_HI", 0x600104, [(0x10, 16)], .hi, 0xFFFFFFFF, 0, 0, 0, 0, 0⟩,
  ⟨"STM_UR_LOG_INFO", 0x600108, [(0x10, 16)], .none, 0xFFFFFF, 0, 0, 0, 0, 0⟩,
  ⟨"STM_UR_LOG_POS", 0x60010C, [(0x10, 16)], .none, 0xFFFFFFFF, 0, 0, 0, 0, 0⟩,
  ⟨"STM_TGT_TBL", 0x601000, [(0x20, 640)], .none, 0, 0, 0x1FFFFF, 0, 0, 0⟩,
  ⟨"STM_TGT_CNT", 0x601004, [(0x20, 640)], .none, 0, 0, 0xFFFF, 0, 0, 0⟩,
  ⟨"STM_TGT_STATUS", 0x601008, [(0x20, 640)], .none, 0x7FFFF, 0, 0, 0, 0, 0⟩,
  ⟨"STM_TGT_PASS", 0x60100C, [(0x20, 640)], .none, 0xFFFFFFFF, 0, 0, 0, 0, 0⟩,
  ⟨"STM_TGT_EVENT", 0x601010, [(0x20, 640)], .none, 0, 0, 0, 0x1F, 0, 0⟩,
  ⟨"STM_TGT_JCNT", 0x601014, [(0x20, 640)], .none, 0xFFFFFFFF, 0, 0, 0, 0, 0⟩,
  ⟨"STM_RV_CFG", 0x608000, [(0x40, 64)], .none, 0, 0, 0x1F1F, 0, 0, 0⟩,
  ⟨"STM_RV_RING", 0x608004, [(0x40, 64)], .none, 0, 0, 0x1FFF1FFF, 0, 0, 0⟩,
  ⟨"STM_RV_WM", 0x608008, [(0x40, 64)], .none, 0, 0, 0xFFFFFFFF, 0, 0, 0⟩,
  ⟨"STM_RV_SRC_LO", 0x60800C, [(0x40, 64)], .lo, 0, 0, 0xFFFFFFFF, 0, 0, 0⟩,
  ⟨"STM_RV_SRC_HI", 0x608010, [(0x40, 64)], .hi, 0, 0, 0xFFFFFFFF, 0, 0, 0⟩,
  ⟨"STM_RV_LEN", 0x608014, [(0x40, 64)], .none, 0, 0, 0xFFFFFFFF, 0, 0, 0⟩,
  ⟨"STM_RV_CMD", 0x608018, [(0x40, 64)], .none, 0, 0, 0, 0, 0, 1⟩,
  ⟨"STM_RV_STATUS", 0x60801C, [(0x40, 64)], .none, 3, 0, 0, 0, 0, 0⟩,
  ⟨"STM_RV_FILL", 0x608020, [(0x40, 64)], .none, 0x1FFFFFF, 0, 0, 0, 0, 0⟩,
  ⟨"STM_RV_EVENT", 0x608024, [(0x40, 64)], .none, 0, 0, 0, 0x1F, 0, 0⟩,
  ⟨"STM_RV_EVENT_EN", 0x608028, [(0x40, 64)], .none, 0, 0x1F, 0, 0, 0, 0⟩,
  ⟨"STM_RV_POS_LO", 0x60802C, [(0x40, 64)], .lo, 0xFFFFFFFF, 0, 0, 0, 0, 0⟩]

def rowsSTM1 : List RegDesc := [
  ⟨"STM_RV_POS_HI", 0x608030, [(0x40, 64)], .hi, 0xFFFFFFFF, 0, 0, 0, 0, 0⟩,
  ⟨"STM_RV_COUNT", 0x608034, [(0x40, 64)], .none, 0xFFFFFFFF, 0, 0, 0, 0, 0⟩]

def rowsRDO : List RegDesc := [
  ⟨"RDO_EVENT", 0x700000, [], .none, 0, 0, 0, 0xF, 0, 0⟩,
  ⟨"RDO_STATUS", 0x700004, [], .none, 7, 0, 0, 0, 0, 0⟩,
  ⟨"RDO_ACQ_CFG", 0x701000, [(0x40, 16)], .none, 0, 0, 3, 0, 0, 0⟩,
  ⟨"RDO_ACQ_BAND", 0x701004, [(0x40, 16)], .none, 0, 0, 0x3FFF3FFF, 0, 0, 0⟩,
  ⟨"RDO_ACQ_ATT", 0x701008, [(0x40, 16)], .none, 0, 0x1F, 0, 0, 0, 0⟩,
  ⟨"RDO_ACQ_EVENT", 0x70100C, [(0x40, 16)], .none, 0, 0, 0, 3, 0, 0⟩,
  ⟨"RDO_ACQ_OVR_CNT", 0x701010, [(0x40, 16)], .none, 0xFFFFFFFF, 0, 0, 0, 0, 0⟩,
  ⟨"RDO_ACQ_STATUS", 0x701014, [(0x40, 16)], .none, 0x7F, 0, 0, 0, 0, 0⟩,
  ⟨"RDO_CH_CFG", 0x704000, [(0x20, 256)], .none, 0, 0xFFFF0002, 1, 0, 0, 0⟩,
  ⟨"RDO_CH_FTW_LO", 0x704004, [(0x20, 256)], .lo, 0, 0, 0xFFFFFFFF, 0, 0, 0⟩,
  ⟨"RDO_CH_FTW_HI", 0x704008, [(0x20, 256)], .hi, 0, 0, 0xFFFFFFFF, 0, 0, 0⟩,
  ⟨"RDO_CH_APPLIED_FTW_LO", 0x70400C, [(0x20, 256)], .lo, 0xFFFFFFFF, 0, 0, 0, 0, 0⟩,
  ⟨"RDO_CH_APPLIED_FTW_HI", 0x704010, [(0x20, 256)], .hi, 0xFFFFFFFF, 0, 0, 0, 0, 0⟩,
  ⟨"RDO_CH_PHASE", 0x704014, [(0x20, 256)], .none, 0, 0xFFFF, 0, 0, 0, 0⟩,
  ⟨"RDO_CH_STATUS", 0x704018, [(0x20, 256)], .none, 0xFFFF0001, 0, 0, 0, 0, 0⟩,
  ⟨"RDO_ARR_CFG", 0x708000, [(0x40, 16)], .none, 0, 1, 0xFFFF00F0, 0, 0, 0⟩,
  ⟨"RDO_ARR_BAND_LO", 0x708004, [(0x40, 16)], .lo, 0, 0, 0xFFFFFFFF, 0, 0, 0⟩,
  ⟨"RDO_ARR_BAND_HI", 0x708008, [(0x40, 16)], .hi, 0, 0, 0xFFFFFFFF, 0, 0, 0⟩,
  ⟨"RDO_ARR_EVENT", 0x70800C, [(0x40, 16)], .none, 0, 0, 0, 7, 0, 0⟩,
  ⟨"RDO_ARR_STATUS", 0x708010, [(0x40, 16)], .none, 0x3FF07FF, 0, 0, 0, 0, 0⟩,
  ⟨"RDO_ARR_CLIP_CNT", 0x708014, [(0x40, 16)], .none, 0xFFFFFFFF, 0, 0, 0, 0, 0⟩,
  ⟨"RDO_ARR_TONE_F", 0x740000, [(0x4000, 16), (0x10, 1024)], .none, 0, 0xFFFFFFFF, 0, 0, 0, 0⟩,
  ⟨"RDO_ARR_TONE_C", 0x740004, [(0x4000, 16), (0x10, 1024)], .none, 0, 0xFFFF0001, 0, 0, 0, 0⟩,
  ⟨"RDO_ARR_TONE_P", 0x740008, [(0x4000, 16), (0x10, 1024)], .none, 0, 0xFFFFFFFF, 0, 0, 0, 0⟩]

def rowsDSC0 : List RegDesc := [
  ⟨"DSC_EVENT", 0x800000, [], .none, 0, 0, 0, 0x1F, 0, 0⟩,
  ⟨"DSC_COUNT", 0x800004, [], .none, 0xFFFFFFFF, 0, 0, 0, 0, 0⟩,
  ⟨"DSC_CH_CFG", 0x810000, [(0x200, 256)], .none, 0, 0, 0xFFFF0007, 0, 0, 0⟩,
  ⟨"DSC_CH_STATUS", 0x810004, [(0x200, 256)], .none, 0x3FFFF7, 0, 0, 0, 0, 0⟩,
  ⟨"DSC_CH_EVENT", 0x810008, [(0x200, 256)], .none, 0, 0, 0, 0x3FF, 0, 0⟩,
  ⟨"DSC_CH_SWAP", 0x81000C, [(0x200, 256)], .none, 0, 0, 0, 0, 3, 0⟩,
  ⟨"DSC_CH_LAST_DEC", 0x810010, [(0x200, 256)], .none, 0xFFFFFFFF, 0, 0, 0, 0, 0⟩,
  ⟨"DSC_CH_LAST_V_I", 0x810014, [(0x200, 256)], .none, 0xFFFFFFFF, 0, 0, 0, 0, 0⟩,
  ⟨"DSC_CH_LAST_V_Q", 0x810018, [(0x200, 256)], .none, 0xFFFFFFFF, 0, 0, 0, 0, 0⟩,
  ⟨"DSC_CH_LAST_T_LO", 0x81001C, [(0x200, 256)], .lo, 0xFFFFFFFF, 0, 0, 0, 0, 0⟩,
  ⟨"DSC_CH_LAST_T_HI", 0x810020, [(0x200, 256)], .hi, 0xFFFFFFFF, 0, 0, 0, 0, 0⟩,
  ⟨"DSC_CH_COUNT", 0x810024, [(0x200, 256)], .none, 0xFFFFFFFF, 0, 0, 0, 0, 0⟩,
  ⟨"DSC_CH_COUNT2", 0x810028, [(0x200, 256)], .none, 0xFFFFFFFF, 0, 0, 0, 0, 0⟩,
  ⟨"DSC_SET_K_BASE", 0x810040, [(0x200, 256), (0x40, 2)], .none, 0xFFFFF, 0, 0, 0, 0, 0⟩,
  ⟨"DSC_STG_K_BASE", 0x810100, [(0x200, 256), (0x40, 2)], .none, 0, 0, 0xFFFFF, 0, 0, 0⟩,
  ⟨"DSC_SET_K_CFG", 0x810044, [(0x200, 256), (0x40, 2)], .none, 0xF3F0FFF, 0, 0, 0, 0, 0⟩,
  ⟨"DSC_STG_K_CFG", 0x810104, [(0x200, 256), (0x40, 2)], .none, 0, 0xF3F0000, 0xFFF, 0, 0, 0⟩,
  ⟨"DSC_SET_P_BASE", 0x810048, [(0x200, 256), (0x40, 2)], .none, 0x1FFFF, 0, 0, 0, 0, 0⟩,
  ⟨"DSC_STG_P_BASE", 0x810108, [(0x200, 256), (0x40, 2)], .none, 0, 0, 0x1FFFF, 0, 0, 0⟩,
  ⟨"DSC_SET_ES", 0x81004C, [(0x200, 256), (0x40, 2)], .none, 0x1FFFF, 0, 0, 0, 0, 0⟩,
  ⟨"DSC_STG_ES", 0x81010C, [(0x200, 256), (0x40, 2)], .none, 0, 0x1FFFF, 0, 0, 0, 0⟩,
  ⟨"DSC_SET_W", 0x810050, [(0x200, 256), (0x40, 2), (4, 4)], .none, 0xFFFFFFFF, 0, 0, 0, 0, 0⟩,
  ⟨"DSC_STG_W", 0x810110, [(0x200, 256), (0x40, 2), (4, 4)], .none, 0, 0xFFFFFFFF, 0, 0, 0, 0⟩,
  ⟨"DSC_SET_C_I", 0x810060, [(0x200, 256), (0x40, 2), (8, 4)], .none, 0xFFFFFFFF, 0, 0, 0, 0, 0⟩]

def rowsDSC1 : List RegDesc := [
  ⟨"DSC_STG_C_I", 0x810120, [(0x200, 256), (0x40, 2), (8, 4)], .none, 0, 0xFFFFFFFF, 0, 0, 0, 0⟩,
  ⟨"DSC_SET_C_Q", 0x810064, [(0x200, 256), (0x40, 2), (8, 4)], .none, 0xFFFFFFFF, 0, 0, 0, 0, 0⟩,
  ⟨"DSC_STG_C_Q", 0x810124, [(0x200, 256), (0x40, 2), (8, 4)], .none, 0, 0xFFFFFFFF, 0, 0, 0, 0⟩]

def rowsFAB : List RegDesc := [
  ⟨"FAB_EVENT", 0x900000, [], .none, 0, 0, 0, 0x7F, 0, 0⟩,
  ⟨"FAB_FORCE", 0x900004, [], .none, 0, 0, 0, 0, 0, 0x3FF⟩,
  ⟨"FAB_EV_EN", 0x900100, [(4, 32)], .none, 0, 0xFFFFFFFF, 0, 0, 0, 0⟩,
  ⟨"FAB_EV_CFG", 0x901000, [(4, 1024)], .none, 0, 0, 0xFFFFFFFF, 0, 0, 0⟩,
  ⟨"FAB_EV_COUNT", 0x902000, [(4, 1024)], .none, 0xFFFFFFFF, 0, 0, 0, 0, 0⟩,
  ⟨"FAB_PLY_CFG", 0x904000, [(0x10, 512)], .none, 0, 0, 0x1FFFFFFF, 0, 0, 0⟩,
  ⟨"FAB_PLY_STATUS", 0x904004, [(0x10, 512)], .none, 0xFFFF007F, 0, 0, 0x300, 0, 0⟩,
  ⟨"FAB_PLY_FILT", 0x904008, [(0x10, 512)], .none, 0, 0, 0xFF, 0, 0, 0⟩,
  ⟨"FAB_TRG_CFG", 0x906000, [(0x10, 16)], .none, 0, 0, 0xFFFFFF07, 0, 0, 0⟩,
  ⟨"FAB_TRG_STUCK", 0x906004, [(0x10, 16)], .none, 0, 0, 0xFFFF, 0, 0, 0⟩,
  ⟨"FAB_TRG_STATUS", 0x906008, [(0x10, 16)], .none, 0xFFFF0003, 0, 0, 0x300, 0, 0⟩,
  ⟨"FAB_CT_CFG", 0x907000, [(0x20, 16)], .none, 0, 0, 3, 0, 0, 0⟩,
  ⟨"FAB_CT_STATE", 0x907004, [(0x20, 16)], .none, 0x1FFFF, 0, 0, 0, 0, 0⟩,
  ⟨"FAB_CT_LAST", 0x907008, [(0x20, 16)], .none, 0xFFFF, 0, 0, 0, 0, 0⟩,
  ⟨"FAB_CT_LAST_MASK", 0x90700C, [(0x20, 16)], .none, 0xFFFFFFFF, 0, 0, 0, 0, 0⟩,
  ⟨"FAB_CT_EVENT", 0x907010, [(0x20, 16)], .none, 0, 0, 0, 0x1F, 0, 0⟩,
  ⟨"FAB_CT_COUNT", 0x907014, [(0x20, 16)], .none, 0xFFFFFFFF, 0, 0, 0, 0, 0⟩,
  ⟨"FAB_GRP_CFG", 0x908000, [(0x10, 64)], .none, 0, 0, 1, 0, 0, 0⟩,
  ⟨"FAB_GRP_STATUS", 0x908004, [(0x10, 64)], .none, 0xFFFF0001, 0, 0, 0, 0, 0⟩,
  ⟨"FAB_GRP_EVENT", 0x908008, [(0x10, 64)], .none, 0, 0, 0, 0xF, 0, 0⟩,
  ⟨"FAB_GRP_COUNT", 0x90800C, [(0x10, 64)], .none, 0xFFFF, 0, 0, 0, 0, 0⟩]

def rowsCSC0 : List RegDesc := [
  ⟨"CSC_CFG", 0x60000, [], .none, 0, 0, 0x3F3F3F1F, 0, 0, 0⟩,
  ⟨"CSC_DIM", 0x60004, [], .none, 0, 0, 0x30F7F, 0, 0, 0⟩,
  ⟨"CSC_RATE_LEAD", 0x60008, [], .none, 0, 0, 0xFFFF, 0, 0, 0⟩,
  ⟨"CSC_STATUS", 0x6000C, [], .none, 0xFF0D, 0, 0, 2, 0, 0⟩,
  ⟨"CSC_EVENT", 0x60010, [], .none, 0, 0, 0, 0xFFFF, 0, 0⟩,
  ⟨"CSC_EVENT_EN", 0x60014, [], .none, 0, 0xFFFF, 0, 0, 0, 0⟩,
  ⟨"CSC_EPOCH_LO", 0x60018, [], .lo, 0xFFFFFFFF, 0, 0, 0, 0, 0⟩,
  ⟨"CSC_EPOCH_HI", 0x6001C, [], .hi, 0xFFFFFFFF, 0, 0, 0, 0, 0⟩,
  ⟨"CSC_TW_CFG", 0x60100, [(0x40, 4)], .none, 0, 0, 0xFFFF3F01, 0, 0, 0⟩,
  ⟨"CSC_TW_STATUS", 0x60104, [(0x40, 4)], .none, 0x3FF177, 0, 0, 0, 0, 0⟩,
  ⟨"CSC_TW_DELAY", 0x60108, [(0x40, 4)], .none, 0xFFFFF, 0, 0, 0, 0, 0⟩,
  ⟨"CSC_TW_PHASE", 0x6010C, [(0x40, 4)], .none, 0xFFFF, 0, 0, 0, 0, 0⟩,
  ⟨"CSC_TW_CRC", 0x60110, [(0x40, 4)], .none, 0xFFFFFFFF, 0, 0, 0, 0, 0⟩,
  ⟨"CSC_TW_WAIT", 0x60114, [(0x40, 4)], .none, 0xFFFFFFFF, 0, 0, 0, 0, 0⟩,
  ⟨"CSC_TW_DROP", 0x60118, [(0x40, 4)], .none, 0xFFFFFFFF, 0, 0, 0, 0, 0⟩,
  ⟨"CSC_TW_BULK", 0x6011C, [(0x40, 4)], .none, 0xFFFFFFFF, 0, 0, 0, 0, 0⟩,
  ⟨"CSC_TW_CMD", 0x60120, [(0x40, 4)], .none, 0, 0, 0, 0, 0, 1⟩,
  ⟨"CSC_RRA_CTL", 0x60200, [], .none, 0, 0, 0, 0, 0, 0x3F03⟩,
  ⟨"CSC_RRA_ADDR", 0x60204, [], .none, 0, 0x3FFFFFC, 0, 0, 0, 0⟩,
  ⟨"CSC_RRA_DATA", 0x60208, [], .none, 0, 0xFFFFFFFF, 0, 0, 0, 0⟩,
  ⟨"CSC_RRA_STATUS", 0x6020C, [], .none, 0xF, 0, 0, 0, 0, 0⟩,
  ⟨"CSC_RRA_TIMEOUT", 0x60210, [], .none, 0, 0xFFFF, 0, 0, 0, 0⟩,
  ⟨"CSC_RDMA_SRC_LO", 0x60240, [], .lo, 0, 0xFFFFFFFF, 0, 0, 0, 0⟩,
  ⟨"CSC_RDMA_SRC_HI", 0x60244, [], .hi, 0, 0xFFFFFFFF, 0, 0, 0, 0⟩]

def rowsCSC1 : List RegDesc := [
  ⟨"CSC_RDMA_DST_LO", 0x60248, [], .lo, 0, 0xFFFFFFFF, 0, 0, 0, 0⟩,
  ⟨"CSC_RDMA_DST_HI", 0x6024C, [], .hi, 0, 0xFFFFFFFF, 0, 0, 0, 0⟩,
  ⟨"CSC_RDMA_LEN", 0x60250, [], .none, 0, 0xFFFFFFF, 0, 0, 0, 0⟩,
  ⟨"CSC_RDMA_CTL", 0x60254, [], .none, 0, 0, 0, 0, 0, 0x3F07⟩,
  ⟨"CSC_RDMA_STATUS", 0x60258, [], .none, 0xF, 0, 0, 0, 0, 0⟩,
  ⟨"CSC_ROUTE", 0x60800, [(4, 64)], .none, 0, 0, 0x80000003, 0, 0, 0⟩,
  ⟨"CSC_EXP", 0x61000, [(4, 64)], .none, 0, 0, 0x80000003, 0, 0, 0⟩,
  ⟨"CSC_FWD", 0x64000, [(4, 4096)], .none, 0, 0, 0xFBF, 0, 0, 0⟩]

/-- Bobbins. R5 leaves open whether the bits of BOB_AUTO_TMO, BOB_DB and BOB_SPILL_SIZE above the range that their Function names ([15:0] and
[23:0]) are reserved, where their field row is [31:0]: the model stores and reads back all 32 (DESIGN CHOICE, log entry 137). -/
def rowsBOB0 : List RegDesc := [
  ⟨"BOB_CTL", 0xA00000, [], .none, 0, 1, 0, 0, 0, 0⟩,
  ⟨"BOB_ARM", 0xA00004, [], .none, 0, 0, 0, 0, 0, 0xFFFFFFFF⟩,
  ⟨"BOB_DISARM", 0xA00008, [], .none, 0, 0, 0, 0, 0, 0xFFFFFFFF⟩,
  ⟨"BOB_FORCE", 0xA0000C, [], .none, 0, 0, 0, 0, 0, 0xFFFFFFFF⟩,
  ⟨"BOB_EVENT_SUM", 0xA00010, [], .none, 0xFFFFFFFF, 0, 0, 0, 0, 0⟩,
  ⟨"BOB_CFG", 0xA01000, [(0x100, 32)], .none, 0, 0, 0x3F, 0, 0, 0⟩,
  ⟨"BOB_SRC", 0xA01004, [(0x100, 32)], .none, 0, 0, 0xFFFFFFF, 0, 0, 0⟩,
  ⟨"BOB_PRE", 0xA01008, [(0x100, 32)], .none, 0, 0, 0xFFFFFFFF, 0, 0, 0⟩,
  ⟨"BOB_POST", 0xA0100C, [(0x100, 32)], .none, 0, 0, 0xFFFFFFFF, 0, 0, 0⟩,
  ⟨"BOB_AUTO_TMO", 0xA01010, [(0x100, 32)], .none, 0, 0, 0xFFFFFFFF, 0, 0, 0⟩,
  ⟨"BOB_DB", 0xA01014, [(0x100, 32)], .none, 0, 0, 0xFFFFFFFF, 0, 0, 0⟩,
  ⟨"BOB_MASK_CFG", 0xA01018, [(0x100, 32)], .none, 0, 0, 0x1F03, 0, 0, 0⟩,
  ⟨"BOB_SPILL_BASE_LO", 0xA0101C, [(0x100, 32)], .lo, 0, 0, 0xFFFFFFFF, 0, 0, 0⟩,
  ⟨"BOB_SPILL_BASE_HI", 0xA01020, [(0x100, 32)], .hi, 0, 0, 0xFFFFFFFF, 0, 0, 0⟩,
  ⟨"BOB_SPILL_SIZE", 0xA01024, [(0x100, 32)], .none, 0, 0, 0xFFFFFFFF, 0, 0, 0⟩,
  ⟨"BOB_STATUS", 0xA01028, [(0x100, 32)], .none, 0x7F, 0, 0, 0, 0, 0⟩,
  ⟨"BOB_EVENT", 0xA0102C, [(0x100, 32)], .none, 0, 0, 0, 0x7F, 0, 0⟩,
  ⟨"BOB_EVENT_EN", 0xA01030, [(0x100, 32)], .none, 0, 0x7F, 0, 0, 0, 0⟩,
  ⟨"BOB_WR_LO", 0xA01034, [(0x100, 32)], .lo, 0xFFFFFFFF, 0, 0, 0, 0, 0⟩,
  ⟨"BOB_WR_HI", 0xA01038, [(0x100, 32)], .hi, 0xFFFFFFFF, 0, 0, 0, 0, 0⟩,
  ⟨"BOB_SPILLED_LO", 0xA0103C, [(0x100, 32)], .lo, 0xFFFFFFFF, 0, 0, 0, 0, 0⟩,
  ⟨"BOB_SPILLED_HI", 0xA01040, [(0x100, 32)], .hi, 0xFFFFFFFF, 0, 0, 0, 0, 0⟩,
  ⟨"BOB_RD_LO", 0xA01044, [(0x100, 32)], .lo, 0, 0xFFFFFFFF, 0, 0, 0, 0⟩,
  ⟨"BOB_RD_HI", 0xA01048, [(0x100, 32)], .hi, 0, 0xFFFFFFFF, 0, 0, 0, 0⟩]

def rowsBOB1 : List RegDesc := [
  ⟨"BOB_DIR_HEAD", 0xA0104C, [(0x100, 32)], .none, 0x1FFFF, 0, 0, 0, 0, 0xFF800000⟩,
  ⟨"BOB_COUNT", 0xA01050, [(0x100, 32)], .none, 0xFFFFFFFF, 0, 0, 0, 0, 0⟩,
  ⟨"BOB_COUNT2", 0xA01054, [(0x100, 32)], .none, 0xFFFFFFFF, 0, 0, 0, 0, 0⟩,
  ⟨"BOB_CMD", 0xA01058, [(0x100, 32)], .none, 0, 0, 0, 0, 0, 1⟩,
  ⟨"BOB_TC_CFG", 0xA01080, [(0x100, 32), (0x10, 4)], .none, 0, 0, 0xFFFFFFF7, 0, 0, 0⟩,
  ⟨"BOB_TC_T_LO", 0xA01084, [(0x100, 32), (0x10, 4)], .lo, 0, 0xFFFFFFFF, 0, 0, 0, 0⟩,
  ⟨"BOB_TC_T_HI", 0xA01088, [(0x100, 32), (0x10, 4)], .hi, 0, 0xFFFFFFFF, 0, 0, 0, 0⟩,
  ⟨"BOB_MASK", 0xA80000, [(0x4000, 32), (4, 4096)], .none, 0, 0, 0xFFFFFFFF, 0, 0, 0⟩,
  ⟨"BOB_DIR", 0xA40000, [(0x2000, 32), (0x20, 256), (4, 8)], .none, 0xFFFFFFFF, 0, 0, 0, 0, 0⟩]

def rowsMEM : List RegDesc := [
  ⟨"MEM_EVENT", 0x70000, [], .none, 0, 0, 0, 0xFFFF, 0, 0⟩,
  ⟨"MEM_EVENT_EN", 0x70004, [], .none, 0, 0xFFFF, 0, 0, 0, 0⟩,
  ⟨"MEM_STATUS", 0x70008, [], .none, 0xFF07, 0, 0, 0, 0, 0⟩,
  ⟨"MEM_RES", 0x7000C, [], .none, 0, 0, 0xFFF0FFF, 0, 0, 0⟩,
  ⟨"MEM_ARB", 0x70010, [], .none, 0, 0xF0F0F, 0, 0, 0, 0⟩,
  ⟨"MEM_ARB2", 0x70014, [], .none, 0, 0, 0xFFFFFFFF, 0, 0, 0⟩,
  ⟨"MEM_SCRUB_CFG", 0x70018, [], .none, 0, 0xFFFF, 0, 0, 0, 0⟩,
  ⟨"MEM_CE_THRESH", 0x7001C, [], .none, 0, 0xFFFF, 0, 0, 0, 0⟩,
  ⟨"MEM_CLS_COUNT", 0x70100, [(0x10, 4)], .none, 0xFFFFFFFF, 0, 0, 0, 0, 0⟩,
  ⟨"MEM_CLS_MAXLAT", 0x70104, [(0x10, 4)], .none, 0xFFFFFFFF, 0, 0, 0, 0, 0⟩,
  ⟨"MEM_SRAM_ERR", 0x70200, [(0x10, 6)], .none, 0xFFFFFFFF, 0, 0, 0, 0, 0⟩,
  ⟨"MEM_SRAM_UE_ADDR", 0x70280, [], .none, 0x3FFFFFF, 0, 0, 0, 0, 0⟩,
  ⟨"MEM_DRAM_ERR", 0x70300, [(0x10, 4)], .none, 0xFFFFFFFF, 0, 0, 0, 0, 0⟩,
  ⟨"MEM_DRAM_UE_ADDR_LO", 0x70304, [(0x10, 4)], .lo, 0xFFFFFFFF, 0, 0, 0, 0, 0⟩,
  ⟨"MEM_DRAM_UE_ADDR_HI", 0x70308, [(0x10, 4)], .hi, 0xFFFFFFFF, 0, 0, 0, 0, 0⟩]

def rowsDRF : List RegDesc := [
  ⟨"DRF_STATUS", 0x80000, [], .none, 0xFF, 0, 0, 0, 0, 0⟩,
  ⟨"DRF_RV_BIND", 0x80400, [(4, 64)], .none, 0x80000007, 0, 0, 0, 0, 0⟩,
  ⟨"DRF_LANE_RING", 0x80100, [(0x40, 8)], .none, 0, 0x1FFFFFFF, 0, 0, 0, 0⟩,
  ⟨"DRF_LANE_HEAD", 0x80104, [(0x40, 8)], .none, 0xFFF, 0, 0, 0, 0, 0⟩,
  ⟨"DRF_LANE_TAIL", 0x80108, [(0x40, 8)], .none, 0, 0xFFF, 0, 0, 0, 0⟩,
  ⟨"DRF_LANE_STATUS", 0x8010C, [(0x40, 8)], .none, 0x1F07, 0, 0, 0, 0, 0⟩,
  ⟨"DRF_LANE_EVENT", 0x80110, [(0x40, 8)], .none, 0, 0, 0, 7, 0, 0⟩,
  ⟨"DRF_LANE_EVENT_EN", 0x80114, [(0x40, 8)], .none, 0, 7, 0, 0, 0, 0⟩,
  ⟨"DRF_LANE_STALL", 0x80118, [(0x40, 8)], .none, 0xFFFFFFFF, 0, 0, 0, 0, 0⟩,
  ⟨"DRF_LANE_BLOCKS", 0x8011C, [(0x40, 8)], .none, 0xFFFFFFFF, 0, 0, 0, 0, 0⟩]

def rowsHIF0 : List RegDesc := [
  ⟨"HIF_EVENT", 0x10000, [], .none, 0, 0, 0, 0x3FF, 0, 0⟩,
  ⟨"HIF_EVENT_EN", 0x10004, [], .none, 0, 0x3FF, 0, 0, 0, 0⟩,
  ⟨"HIF_CTL", 0x10008, [], .none, 0, 3, 0, 0, 0, 0⟩,
  ⟨"HIF_LINK_STATUS", 0x1000C, [], .none, 0x1FFFF, 0, 0, 0, 0, 0⟩,
  ⟨"HIF_BAR4_WIN", 0x10010, [], .none, 0, 0x7F, 0, 0, 0, 0⟩,
  ⟨"HIF_WR_REF", 0x10014, [], .none, 0xFC7FFFF, 0, 0, 0x80000000, 0, 0⟩,
  ⟨"HIF_WR_REF_ADDR_LO", 0x10018, [], .lo, 0xFFFFFFFF, 0, 0, 0, 0, 0⟩,
  ⟨"HIF_WR_REF_ADDR_HI", 0x1001C, [], .hi, 0xFFFFFFFF, 0, 0, 0, 0, 0⟩,
  ⟨"HIF_SMB_MBOX_IN", 0x10020, [], .none, 0xFFFFFFFF, 0, 0, 0, 0, 0⟩,
  ⟨"HIF_SMB_MBOX_OUT", 0x10024, [], .none, 0, 0xFFFFFFFF, 0, 0, 0, 0⟩,
  ⟨"HIF_Q_CFG", 0x11000, [(0x40, 64)], .none, 0, 0xFF3, 0, 0, 0, 0⟩,
  ⟨"HIF_Q_RING_LO", 0x11004, [(0x40, 64)], .lo, 0, 0xFFFFFFFF, 0, 0, 0, 0⟩,
  ⟨"HIF_Q_RING_HI", 0x11008, [(0x40, 64)], .hi, 0, 0xFFFFFFFF, 0, 0, 0, 0⟩,
  ⟨"HIF_Q_CPL_LO", 0x1100C, [(0x40, 64)], .lo, 0, 0xFFFFFFFF, 0, 0, 0, 0⟩,
  ⟨"HIF_Q_CPL_HI", 0x11010, [(0x40, 64)], .hi, 0, 0xFFFFFFFF, 0, 0, 0, 0⟩,
  ⟨"HIF_Q_TAIL", 0x11014, [(0x40, 64)], .none, 0, 0xFFF, 0, 0, 0, 0⟩,
  ⟨"HIF_Q_HEAD", 0x11018, [(0x40, 64)], .none, 0xFFF, 0, 0, 0, 0, 0⟩,
  ⟨"HIF_Q_STATUS", 0x1101C, [(0x40, 64)], .none, 0x1F07, 0, 0, 0, 0, 0⟩,
  ⟨"HIF_Q_EVENT", 0x11020, [(0x40, 64)], .none, 0, 0, 0, 7, 0, 0⟩,
  ⟨"HIF_Q_EVENT_EN", 0x11024, [(0x40, 64)], .none, 0, 7, 0, 0, 0, 0⟩,
  ⟨"HIF_Q_LIMIT", 0x11028, [(0x40, 64)], .none, 0, 0xFFFFFFFF, 0, 0, 0, 0⟩,
  ⟨"HIF_Q_WAIT", 0x1102C, [(0x40, 64)], .none, 0xFFFFFFFF, 0, 0, 0, 0, 0⟩,
  ⟨"HIF_Q_CTL", 0x11030, [(0x40, 64)], .none, 0, 0, 0, 0, 0, 1⟩,
  ⟨"HIF_MSIX_TABLE", 0x18000, [(0x10, 512), (4, 4)], .none, 0, 0xFFFFFFFF, 0, 0, 0, 0⟩]

def rowsHIF1 : List RegDesc := [
  ⟨"HIF_MSIX_PBA", 0x1A000, [(4, 16)], .none, 0xFFFFFFFF, 0, 0, 0, 0, 0⟩,
  ⟨"HIF_IRQ_MAP", 0x1C000, [(4, 384)], .none, 0, 0x800001FF, 0, 0, 0, 0⟩,
  ⟨"HIF_VEC_REARM", 0x1D000, [(4, 16)], .none, 0, 0, 0, 0, 0xFFFFFFFF, 0⟩,
  ⟨"HIF_VEC_LEVEL", 0x1D040, [(4, 16)], .none, 0xFFFFFFFF, 0, 0, 0, 0, 0⟩]

def rowsSEC : List RegDesc := [
  ⟨"SEC_STATUS", 0x20000, [], .none, 0x3F3F03FF, 0, 0, 0, 0, 0⟩,
  ⟨"SEC_EVENT", 0x20004, [], .none, 0, 0, 0, 0xFF, 0, 0⟩,
  ⟨"SEC_EVENT_EN", 0x20008, [], .none, 0, 0xFF, 0, 0, 0, 0⟩,
  ⟨"SEC_LOAD_SRC_LO", 0x20010, [], .lo, 0, 0xFFFFFFFF, 0, 0, 0, 0⟩,
  ⟨"SEC_LOAD_SRC_HI", 0x20014, [], .hi, 0, 0xFFFFFFFF, 0, 0, 0, 0⟩,
  ⟨"SEC_LOAD_CTL", 0x20018, [], .none, 0, 0, 0, 0, 0, 1⟩,
  ⟨"SEC_LOAD_STATUS", 0x2001C, [], .none, 0xFFFF1F03, 0, 0, 0, 0, 0⟩,
  ⟨"SEC_CMD", 0x20020, [], .none, 0, 0, 0, 0, 0, 0xFFFF000F⟩,
  ⟨"SEC_CMD_STATUS", 0x20024, [], .none, 0xFFF, 0, 0, 0, 0, 0⟩,
  ⟨"SEC_DSN_LO", 0x20030, [], .lo, 0xFFFFFFFF, 0, 0, 0, 0, 0⟩,
  ⟨"SEC_DSN_HI", 0x20034, [], .hi, 0xFFFFFFFF, 0, 0, 0, 0, 0⟩,
  ⟨"SEC_FUSE", 0x20040, [], .none, 0x1FF, 0, 0, 0, 0, 0⟩,
  ⟨"SEC_CHAL", 0x20100, [(4, 12)], .none, 0xFFFFFFFF, 0, 0, 0, 0, 0⟩,
  ⟨"SEC_BUF", 0x20200, [(4, 64)], .none, 0, 0xFFFFFFFF, 0, 0, 0, 0⟩,
  ⟨"SEC_SNAP_REEL_LO", 0x23F00, [], .lo, 0xFFFFFFFF, 0, 0, 0, 0, 0⟩,
  ⟨"SEC_SNAP_REEL_HI", 0x23F04, [], .hi, 0xFFFFFFFF, 0, 0, 0, 0, 0⟩,
  ⟨"SEC_SNAP", 0x24000, [(0x100, 64), (4, 64)], .none, 0xFFFFFFFF, 0, 0, 0, 0, 0⟩]

def rowsSUP0 : List RegDesc := [
  ⟨"SUP_STATUS", 0x30000, [], .none, 0x77FF, 0, 0, 0, 0, 0⟩,
  ⟨"SUP_EVENT", 0x30004, [], .none, 0, 0, 0, 0xFFFFF, 0, 0⟩,
  ⟨"SUP_EVENT_EN", 0x30008, [], .none, 0, 0xFFFFF, 0, 0, 0, 0⟩,
  ⟨"SUP_CFG", 0x3000C, [], .none, 0, 0, 0xF, 0, 0, 0⟩,
  ⟨"SUP_CMD", 0x30010, [], .none, 0, 0, 0, 0, 0, 3⟩,
  ⟨"SUP_TRIP", 0x30020, [], .none, 0xFFFF01FF, 0, 0, 0, 0, 0⟩,
  ⟨"SUP_TRIP_SEEN", 0x30024, [], .none, 0x1FFE, 0, 0, 0, 0, 0⟩,
  ⟨"SUP_TRIP_ACTIVE", 0x30028, [], .none, 0x1FFE, 0, 0, 0, 0, 0⟩,
  ⟨"SUP_TRIP_REEL_LO", 0x3002C, [], .lo, 0xFFFFFFFF, 0, 0, 0, 0, 0⟩,
  ⟨"SUP_TRIP_REEL_HI", 0x30030, [], .hi, 0xFFFFFFFF, 0, 0, 0, 0, 0⟩,
  ⟨"SUP_TRIP_ERR", 0x30034, [], .none, 0xFFFFFFF, 0, 0, 0, 0, 0⟩,
  ⟨"SUP_ERR_CUR", 0x30040, [], .none, 0xFFFFFF07, 0, 0, 0, 0, 0⟩,
  ⟨"SUP_ERR_CUR_INFO", 0x30044, [], .none, 0xFF0FFF, 0, 0, 0, 0, 0⟩,
  ⟨"SUP_ERR_CUR_REEL_LO", 0x30048, [], .lo, 0xFFFFFFFF, 0, 0, 0, 0, 0⟩,
  ⟨"SUP_ERR_CUR_REEL_HI", 0x3004C, [], .hi, 0xFFFFFFFF, 0, 0, 0, 0, 0⟩,
  ⟨"SUP_ERR_ACK", 0x30050, [], .none, 0, 0, 0, 0, 0, 0xFF00⟩,
  ⟨"SUP_ERR_DEPTH", 0x30054, [], .none, 0x3F3F3F, 0, 0, 0, 0, 0⟩,
  ⟨"SUP_ERR_LOST", 0x30058, [], .none, 0xFFFFFF, 0, 0, 0, 0, 0⟩,
  ⟨"SUP_QUIET", 0x30060, [], .none, 0, 0, 0x3FF, 0, 0, 0⟩,
  ⟨"SUP_TOL", 0x30064, [], .none, 0xFFFFFFFF, 0, 0, 0, 0, 0⟩,
  ⟨"SUP_SELFTEST", 0x30068, [], .none, 0x1FFFFF, 0, 0, 0, 0, 0⟩,
  ⟨"SUP_MADC_CTL", 0x30080, [(0x10, 2)], .none, 0, 0, 0, 0, 0, 0x1FF01⟩,
  ⟨"SUP_MADC_RESULT", 0x30084, [(0x10, 2)], .none, 0x7FDFFFF, 0, 0, 0x20000, 0, 0⟩,
  ⟨"SUP_MON_CFG", 0x31000, [(0x10, 240)], .none, 0, 0, 0x3F3F7F, 0, 0, 0⟩]

def rowsSUP1 : List RegDesc := [
  ⟨"SUP_MON_THR", 0x31004, [(0x10, 240)], .none, 0, 0, 0x3FF03FF, 0, 0, 0⟩,
  ⟨"SUP_MON_SLEW", 0x3100C, [(0x10, 240)], .none, 0, 0, 0x3FF, 0, 0, 0⟩,
  ⟨"SUP_MON_STATUS", 0x31008, [(0x10, 240)], .none, 0xFFFFFFFE, 0, 0, 1, 0, 0⟩,
  ⟨"SUP_TS_CFG", 0x32000, [(0x20, 24)], .none, 0, 0, 0xFF, 0, 0, 0⟩,
  ⟨"SUP_TS_VALUE", 0x32004, [(0x20, 24)], .none, 0xFFFFFFFF, 0, 0, 0, 0, 0⟩,
  ⟨"SUP_TS_STATUS", 0x32008, [(0x20, 24)], .none, 0x3F, 0, 0, 0, 0, 0⟩,
  ⟨"SUP_TS_EDGE", 0x3200C, [(0x20, 24), (4, 4)], .none, 0, 0, 0xFFFFFFFF, 0, 0, 0⟩,
  ⟨"SUP_TS_LIMIT", 0x3201C, [(0x20, 24)], .none, 0, 0, 0xFFFFFFFF, 0, 0, 0⟩]

def rowsPWR : List RegDesc := [
  ⟨"PWR_STATUS", 0x40000, [], .none, 0xF, 0, 0, 0, 0, 0⟩,
  ⟨"PWR_EVENT", 0x40004, [], .none, 0, 0, 0, 3, 0, 0⟩,
  ⟨"PWR_CMD", 0x40008, [], .none, 0, 0, 0, 0, 0, 3⟩,
  ⟨"PWR_DORM_TOL", 0x4000C, [], .none, 0, 0xFFFFFFFF, 0, 0, 0, 0⟩,
  ⟨"PWR_LAT_TOL", 0x40100, [(4, 16)], .none, 0, 0xFFFFFFFF, 0, 0, 0, 0⟩,
  ⟨"PWR_SNAP_REEL_LO", 0x40010, [], .lo, 0xFFFFFFFF, 0, 0, 0, 0, 0⟩,
  ⟨"PWR_SNAP_REEL_HI", 0x40014, [], .hi, 0xFFFFFFFF, 0, 0, 0, 0, 0⟩,
  ⟨"PWR_TOTAL_ENERGY_LO", 0x40018, [], .lo, 0xFFFFFFFF, 0, 0, 0, 0, 0⟩,
  ⟨"PWR_TOTAL_ENERGY_HI", 0x4001C, [], .hi, 0xFFFFFFFF, 0, 0, 0, 0, 0⟩,
  ⟨"PWR_PULSES_LO", 0x40020, [], .lo, 0xFFFFFFFF, 0, 0, 0, 0, 0⟩,
  ⟨"PWR_PULSES_HI", 0x40024, [], .hi, 0xFFFFFFFF, 0, 0, 0, 0, 0⟩,
  ⟨"PWR_DECISIONS_LO", 0x40028, [], .lo, 0xFFFFFFFF, 0, 0, 0, 0, 0⟩,
  ⟨"PWR_DECISIONS_HI", 0x4002C, [], .hi, 0xFFFFFFFF, 0, 0, 0, 0, 0⟩,
  ⟨"PWR_PARK", 0x40200, [(4, 8)], .none, 0, 0, 0xFFFFFFFF, 0, 0, 0⟩,
  ⟨"PWR_PORT_STATE", 0x40300, [(4, 16)], .none, 0xFFFFFFFF, 0, 0, 0, 0, 0⟩,
  ⟨"PWR_GRP_ENERGY_LO", 0x41000, [(0x40, 16)], .lo, 0xFFFFFFFF, 0, 0, 0, 0, 0⟩,
  ⟨"PWR_GRP_ENERGY_HI", 0x41004, [(0x40, 16)], .hi, 0xFFFFFFFF, 0, 0, 0, 0, 0⟩,
  ⟨"PWR_GRP_EVENT", 0x41008, [(0x40, 16)], .none, 0, 0, 0, 1, 0, 0⟩,
  ⟨"PWR_GRP_WAKES", 0x4100C, [(0x40, 16)], .none, 0xFFFFFFFF, 0, 0, 0, 0, 0⟩,
  ⟨"PWR_GRP_RES", 0x41010, [(0x40, 16), (4, 4)], .none, 0xFFFFFFFF, 0, 0, 0, 0, 0⟩]

/-- The rows of the block whose window holds a byte offset (R16). -/
def rowsAt (off : Nat) : List RegDesc :=
  if off < 0x10000 then rowsGLB else
  if off < 0x20000 then rowsHIF0 ++ rowsHIF1 else
  if off < 0x30000 then rowsSEC else
  if off < 0x40000 then rowsSUP0 ++ rowsSUP1 else
  if off < 0x50000 then rowsPWR else
  if off < 0x60000 then rowsTLN0 ++ rowsTLN1 else
  if off < 0x70000 then rowsCSC0 ++ rowsCSC1 else
  if off < 0x80000 then rowsMEM else
  if off < 0x100000 then rowsDRF else
  if off < 0x500000 then rowsSPN else
  if off < 0x600000 then rowsSYN0 ++ rowsSYN1 else
  if off < 0x700000 then rowsSTM0 ++ rowsSTM1 else
  if off < 0x800000 then rowsRDO else
  if off < 0x900000 then rowsDSC0 ++ rowsDSC1 else
  if off < 0xA00000 then rowsFAB else
  if off < 0xB00000 then rowsBOB0 ++ rowsBOB1 else
  []

/-- Reset values that are not zero (R13), by register row: base, indices' strides and counts, value. -/
def nonzeroResets : List (Nat × List (Nat × Nat) × BitVec 32) := [
  (Reg.GLB_MODE_STATUS, [], 0x2000000),
  (Reg.TLN_JUMP_LIMIT, [], 0x3E8),
  (Reg.TLN_SLEW_MAX, [], 0x418937),
  (Reg.TLN_LOCK_CFG, [], 0x80100),
  (Reg.TLN_SERVO_KP, [], 0x200000),
  (Reg.TLN_SERVO_KI, [], 0x4000),
  (Reg.TLN_ASYM_THRESH, [], 0x3200),
  (Reg.RDO_ACQ_ATT 0, [(0x40, 16)], 0x1F),
  (Reg.RDO_ACQ_STATUS 0, [(0x40, 16)], 0x7C),
  (Reg.CSC_RATE_LEAD, [], 0x400),
  (Reg.CSC_RRA_TIMEOUT, [], 0x3E8),
  (Reg.MEM_ARB, [], 0x10101),
  (Reg.MEM_ARB2, [], 0x7D02710),
  (Reg.MEM_SCRUB_CFG, [], 0x1801),
  (Reg.MEM_CE_THRESH, [], 0x10),
  (Reg.HIF_LINK_STATUS, [], 0x1E000),
  (Reg.HIF_VEC_REARM 0, [(4, 16)], 0xFFFFFFFF),
  (Reg.SEC_STATUS, [], 0x300),
  (Reg.SUP_QUIET, [], 4),
  (Reg.PWR_PORT_STATE 0, [(4, 16)], 0xFFFFFFFF)]

end Sys2Proof.Machine
end

