-- ==== Sys2Proof/Machine/Reports.lean ====
section
/-! DEFINITION. Machine/Reports.lean: which flags are errors that a block reports to the tension supervisor, with their class,
event number, instance and severity (R175, R194, R195, R226, R252, R281, R318, R348, R376, R405, R440, R476, R503, and R95, R114,
R126). -/

namespace Sys2Proof.Machine

/-- The index of an array register, where an offset is one of its elements. -/
def elem (off base stride n : Nat) : Option Nat :=
  if base ≤ off ∧ (off - base) % stride = 0 ∧ (off - base) / stride < n then some ((off - base) / stride) else none

/-- A block of event registers: their base, stride and number, the class of their reports, whether the register's own index is the
instance, and for each bit the event number and the severity. -/
structure EventRow where
  base : Nat
  stride : Nat
  n : Nat
  cls : Nat
  indexed : Bool
  flags : List (Nat × (Nat × Nat))

/-- The reporting tables of the chapters. -/
def eventRows : List EventRow := [
  ⟨Reg.SPN_EVENT 0, 0x10000, 64, 2, true, [(8, (8, 2)), (10, (10, 2)), (11, (11, 3))]⟩,
  ⟨Reg.SYN_PORT_EVENT 0, 0x40, 48, 3, true, [(0, (0, 1)), (1, (1, 2)), (2, (2, 1))]⟩,
  ⟨Reg.SYN_FLX_EVENT 0, 0x200, 128, 3, true, [(0, (3, 1))]⟩,
  ⟨Reg.STM_RV_EVENT 0, 0x40, 64, 4, true, [(1, (2, 1)), (2, (3, 2))]⟩,
  ⟨Reg.RDO_ACQ_EVENT 0, 0x40, 16, 5, true, [(0, (0, 1)), (1, (1, 1))]⟩,
  ⟨Reg.RDO_ARR_EVENT 0, 0x40, 16, 5, true, [(0, (2, 1)), (1, (3, 1))]⟩,
  ⟨Reg.DSC_CH_EVENT 0, 0x200, 256, 5, true,
    [(2, (0x20, 1)), (3, (0x21, 0)), (6, (0x22, 0)), (7, (0x23, 1)), (9, (0x24, 1))]⟩,
  ⟨Reg.FAB_EVENT, 1, 1, 6, false, [(0, (0, 0)), (1, (1, 1)), (2, (2, 0)), (3, (3, 1)), (4, (4, 2))]⟩,
  ⟨Reg.FAB_CT_EVENT 0, 0x20, 16, 6, true, [(3, (5, 0))]⟩,
  ⟨Reg.CSC_EVENT, 1, 1, 7, false,
    [(1, (1, 2)), (2, (2, 1)), (3, (3, 1)), (4, (4, 1)), (6, (6, 2)), (8, (8, 2)), (9, (9, 2)), (10, (10, 1)), (11, (11, 1)),
     (15, (15, 0))]⟩,
  ⟨Reg.BOB_EVENT 0, 0x100, 32, 8, true, [(1, (1, 1)), (2, (2, 1)), (3, (3, 0)), (4, (4, 0)), (5, (5, 1))]⟩,
  ⟨Reg.MEM_EVENT, 1, 1, 9, false,
    [(0, (0, 0)), (1, (1, 2)), (2, (2, 0)), (3, (3, 2)), (4, (4, 2)), (6, (6, 2)), (7, (7, 0)), (8, (8, 1)), (9, (9, 0)),
     (10, (10, 0))]⟩,
  ⟨Reg.DRF_LANE_EVENT 0, 0x40, 8, 9, true, [(1, (1, 1))]⟩,
  ⟨Reg.HIF_EVENT, 1, 1, 10, false, [(2, (2, 0)), (3, (3, 1)), (7, (7, 0)), (8, (8, 1)), (9, (9, 1))]⟩,
  ⟨Reg.SEC_EVENT, 1, 1, 11, false,
    [(0, (0, 0)), (1, (1, 1)), (2, (2, 0)), (3, (3, 1)), (4, (4, 0)), (5, (5, 0)), (6, (6, 0)), (7, (7, 2))]⟩,
  ⟨Reg.PWR_GRP_EVENT 0, 0x40, 16, 13, true, [(0, (0, 1))]⟩,
  ⟨Reg.PWR_EVENT, 1, 1, 13, false, [(1, (1, 0))]⟩]

/-- The report that a flag makes, if any: class, event, instance (`inst` where the register names none) and severity. -/
def reportOf (off bit inst : Nat) : Option (Nat × Nat × Nat × Nat) :=
  eventRows.findSome? fun r =>
    match elem off r.base r.stride r.n with
    | some i =>
      match r.flags.find? (·.1 == bit) with
      | some f => some (r.cls, f.2.1, (if r.indexed then i else inst), f.2.2)
      | none => none
    | none => none

end Sys2Proof.Machine
end

