-- ==== Sys2Proof/Machine/Sparse.lean ====
section
/-! DEFINITION. Machine/Sparse.lean: lists of (index, value) pairs in one canonical form, the shape in which the state
holds every collection that is indexed by a number. `d` gives what an unlisted index holds. -/

namespace Sys2Proof.Machine

/-- What index `k` holds. -/
def sget {α : Type} (d : Nat → α) : List (Nat × α) → Nat → α
  | [], k => d k
  | (k', v) :: m, k => if k = k' then v else sget d m k

/-- Store `v` at index `k`: an entry equal to what an unlisted index holds is left out. -/
def sset {α : Type} [DecidableEq α] (d : Nat → α) : List (Nat × α) → Nat → α → List (Nat × α)
  | [], k, v => if v = d k then [] else [(k, v)]
  | (k', w) :: m, k, v =>
    if k < k' then (if v = d k then (k', w) :: m else (k, v) :: (k', w) :: m)
    else if k = k' then (if v = d k then m else (k, v) :: m)
    else (k', w) :: sset d m k v

/-- The canonical form: indices strictly rising from at least `lo`, no entry equal to what an unlisted index holds. -/
def sparseFrom {α : Type} [DecidableEq α] (d : Nat → α) : Nat → List (Nat × α) → Bool
  | _, [] => true
  | lo, (k, v) :: m => decide (lo ≤ k) && decide (v ≠ d k) && sparseFrom d (k + 1) m

/-- The canonical form of a whole list. -/
def sparseWf {α : Type} [DecidableEq α] (d : Nat → α) (m : List (Nat × α)) : Bool := sparseFrom d 0 m

/-- Drop every entry whose index lies in `[a, b)`. -/
def sdrop {α : Type} (a b : Nat) (m : List (Nat × α)) : List (Nat × α) :=
  m.filter fun p => !(decide (a ≤ p.1) && decide (p.1 < b))

/-- Change every value held by `f`, which leaves what an unlisted index holds as it is. -/
def smap {α : Type} [DecidableEq α] (d : Nat → α) (f : α → α) (m : List (Nat × α)) : List (Nat × α) :=
  (m.map fun p => (p.1, f p.2)).filter fun p => decide (p.2 ≠ d p.1)

end Sys2Proof.Machine
end

