-- ==== Sys2Proof/Machine/State.lean ====
section
/-! DEFINITION. Machine/State.lean: what the block holds, as plain data, and the state after power-on reset. Collections
indexed by a number (registers, spindles, targets, memory bytes) are lists of (index, value) pairs in one canonical form:
indices strictly rising, and no entry equal to what an unlisted index holds (`sget`, `sset` of Machine/Sparse.lean). -/

namespace Sys2Proof.Machine

/-- Why a step stops with a fault: no command of this block stops so (the manual reports what goes wrong in registers,
event flags and the supervisor's records), so there is no constructor. -/
inductive Fault where
  deriving DecidableEq, Repr

/-- Why a step is refused. -/
inductive Refusal where
  /-- Raised by an arm of `exec` whose command has no meaning yet. Safe: the model stops where the hardware goes on. -/
  | notModelled (mnemonic : String)
  deriving DecidableEq, Repr

/-- How the last access was answered on its bus. -/
inductive RespStatus where | none | ok | unsupported | refused | poisoned
  deriving DecidableEq, Repr

/-- What the block writes to host memory: bus address and bytes, whether the data are poisoned (R352, R359, R392), and the ordering
attributes of DMA data (R378). -/
structure HostWrite where
  addr : Nat
  bytes : List Byte
  poisoned : Bool := false
  relaxed : Bool := false
  noSnoop : Bool := false
  deriving DecidableEq, Repr

/-- What the block reads of host memory: bus address, length, and the ordering attributes (R378). -/
structure HostRead where
  addr : Nat
  len : Nat
  relaxed : Bool := false
  noSnoop : Bool := false
  deriving DecidableEq, Repr

/-- The answer of the last access: its status, the value of a register read, the bytes of a memory read; and what the block last
wrote to host memory, MSI-X messages among it, and last asked of it. -/
structure Resp where
  status : RespStatus := .none
  value : Word := 0
  bytes : List Byte := []
  host : List HostWrite := []
  reads : List HostRead := []
  deriving DecidableEq, Repr

/-- What mode control and the sample clock hold beside their registers (spec/01). -/
structure Glb where
  /-- A consistency check is in progress (R425), and the tick in which it began. -/
  checkOn : Bool := false
  checkTick : Nat := 0
  /-- What the check in progress refuses: its first refusal, as code and object, and their number (R425, R427). -/
  checkFound : Option ((Nat × Nat) × Nat) := none
  /-- A converter calibration is in progress (R519). -/
  calOn : Bool := false
  /-- The references that are present, by the codes of REF_SRC (R24, R518). -/
  refs : List Nat := []
  /-- PORST_N has been released (R517). -/
  released : Bool := false
  /-- The tick in which a STOP that has not completed took effect (R41, R42). -/
  stopTick : Option Nat := none
  /-- Spindles stop, or have stopped, in M6 (R77), or REQ = STOP acted: no routine starts (R41). -/
  stopping : Bool := false
  /-- Spindles count as stopped in M6 (R42, R77). -/
  m6Stopped : Bool := false
  /-- A mode change from M4 waits for the bias sources to reach 0 (R170): the request and the mode it leads to. -/
  rampTo : Option (Nat × Nat) := none
  /-- A restoration from DORMANT is in progress (R498): the request it serves. -/
  restoring : Option Nat := none
  /-- The clearing of R39 is in progress. -/
  clearing : Bool := false
  /-- The next PLL lock applies SYNC (R21, R539). -/
  syncDue : Bool := false
  /-- The PLL relocks after a change of reference (R539): PLL_LOCK = 0 is no loss of lock. -/
  relock : Bool := false
  /-- The tick of the last SYNC's alignment (R20); a slave counts from its master's, which may lie before its own power-on (R297).
  After a loss of the PLL's lock it is free until the next SYNC. -/
  syncTick : Int := 0
  /-- The tick modulo 5, a period of REFIN, in which SYNC aligns the dividers under the present lock of the PLL (R20). -/
  refPhase : Nat := 0
  /-- REEL_LOCK at the end of the tick before and of the one before that (R536); likewise whether a bias source was not at 0 (R170). -/
  lock1 : Bool := false
  lock2 : Bool := false
  bias1 : Bool := false
  bias2 : Bool := false
  /-- The tick in which the last request took effect and the tick of the last S3 trip (R43). -/
  reqTick : Option Nat := none
  tripTick : Option Nat := none
  deriving DecidableEq, Repr

/-- What one PTP port holds beside its registers (R62 to R65, R79). Times are in units of 2^-8 ns. -/
structure PtpPort where
  /-- Announces heard, by sender; the selected time transmitter. -/
  heard : List Announce := []
  selected : Option Nat := none
  /-- The receive stamp of a two-step Sync that waits for its Follow_Up. -/
  syncT2 : Option Int := none
  /-- The stamps (t1, t2) of the last valid Sync. -/
  lastSync : Option (Int × Int) := none
  /-- The sequence number of the last Sync (R64), and the time transmitter selected last, if the present one is none (R65). -/
  lastSeq : Option Nat := none
  former : Option Nat := none
  /-- A Delay_Req that waits for its answer: its transmit stamp and the stamps of the Sync before it. -/
  dreq : Option (Int × (Int × Int)) := none
  /-- The tick of the last Delay_Req (R62) and the sequence number of the next one. -/
  dreqTick : Option Nat := none
  dreqSeq : Nat := 0
  /-- Complete exchanges in a row (R64). -/
  exchanges : Nat := 0
  /-- The mean path delay of the latest complete exchange, and the one at the measurement before. -/
  delay : Option Int := none
  prevDelay : Option Int := none
  /-- The latest offset, and whether it is newer than the primary port's last measurement (R79). -/
  offset : Int := 0
  fresh : Bool := false
  deriving DecidableEq, Repr

/-- The last accepted measurement: the tick, the reel value (units of 2^-32 ns) and the offset (2^-8 ns) (R76). -/
structure MeasRec where
  tick : Nat
  reel : Nat
  off : Int
  deriving DecidableEq, Repr

/-- A frame given to an Ethernet port: its port and its bytes from preamble to FCS (R85). -/
structure EthFrame where
  port : Nat
  bytes : List Byte
  deriving DecidableEq, Repr

/-- What the timeline holds beside its registers (spec/02). -/
structure Tln where
  /-- The reel, in units of 2^-32 ns, 96 bits (R52). -/
  reel : Nat := 0
  /-- The reel value at the start of the tick before, and the reel's past as runs of one increment, newest first: the value
  at which a run began and its increment per tick (for R54 on times already past). -/
  prevReel : Nat := 0
  segs : List (Nat × Int) := []
  /-- The reel has run since the last entry to M0 (R57, R58). -/
  session : Bool := false
  /-- REEL_LOCK has been 1 since the reel last left STOPPED (R59). -/
  lockedOnce : Bool := false
  /-- The servo's integral term, in units of 2^-24 of an ADJ unit (R70). -/
  integ : Int := 0
  /-- ADJ of the last accepted measurements taken in LOCKED, newest first, at most 256 (R76). -/
  adjHist : List Int := []
  /-- Accepted measurements in a row within THRESH (R72). -/
  lockRun : Nat := 0
  /-- A slew began with an offset above THRESH. -/
  slewing : Bool := false
  meas : Option MeasRec := none
  /-- The offset last refused, in full (R73), and the offset near which SLEW_OUT has lifted the refusal (R74), in 2^-8 ns. -/
  refused : Int := 0
  slewOut : Option Int := none
  /-- A path change stands (R82), and the measurements in a row in which its condition was false. -/
  asymOn : Bool := false
  asymRun : Nat := 0
  /-- The tick of the last entry into HOLDOVER, and whether its bound has expired (R77). -/
  holdTick : Nat := 0
  expired : Bool := false
  ports : List (Nat × PtpPort) := []
  /-- REF10M is present; the last two PPS edges agreed (R67); the label for the coming PPS edge, in s since 1970; whether the
  last edge was labelled; the second that the last edge stands for; the conditions of R67 hold. -/
  ref10m : Bool := false
  ppsPair : Bool := false
  tcode : Option Nat := none
  labelled : Bool := false
  ppsSec : Option Nat := none
  extOk : Bool := false
  /-- Launch slots deferred under R88; slots armed too late, whose ARM falls in the next tick (R86, R9); and when each Ethernet
  port's last launch ends, in units of 0.04 ns. -/
  deferred : List Nat := []
  tooLate : List Nat := []
  portFree : List (Nat × Nat) := []
  /-- Frames launched, newest first. -/
  ethOut : List EthFrame := []
  deriving DecidableEq, Repr

/-- What a waiting word waits for: the first tick of the next word (WAITT, R105), a reel time in integer ns (WAITR, R106),
or strand latches since the tick in which the WTS issued (R108). -/
inductive Wait where
  | ticks (next : Nat)
  | reel (t : Nat)
  | strand (issued mask sel : Nat) (clr : Bool) (tgtSel tgtTo timeout : Nat)
  deriving DecidableEq, Repr

/-- An NCO preset shadow (R101): tuning word, phase, and whether it changed since the channel's last pulse (R102). -/
structure Shadow where
  ftw : Nat
  ph : Nat
  changed : Bool
  deriving DecidableEq, Repr

/-- The checkpoint of a spindle (R115). -/
structure Checkpoint where
  g : List Word
  lc : List Word
  z : Bool
  n : Bool
  c : Bool
  tb : Nat
  shadows : List (Nat × Option Shadow)
  deriving DecidableEq, Repr

/-- A use of a port that a scout has reported (R133, R490): the predicted reel time (2^-32 ns), the words on the scout's path up to the one
that makes it, 0 once that word has issued, and for how long after that time (2^-32 ns) the port may still not be busy by it. -/
structure ScoutUse where
  port : Nat
  time : Nat
  words : Nat := 0
  hold : Nat := 0
  deriving DecidableEq, Repr

/-- The scout of a spindle (R133): its program counter, the predicted reel time of that word (2^-32 ns), its copies of the
loop counters, TB and CA (the register's value until a COMMIT is passed), the addresses predicted and not yet issued, and whether it stands at a stop word or its horizon. -/
structure Scout where
  pc : Nat := 0
  time : Nat := 0
  lc : List Nat := []
  tb : Nat := 0
  ca : Nat := 0
  path : List Nat := []
  stopped : Bool := false
  horizon : Bool := false
  /-- It has reached its horizon since its last restart (R134). -/
  reached : Bool := false
  /-- What it has reported and that still stands. -/
  uses : List ScoutUse := []
  deriving DecidableEq, Repr

/-- What a spindle holds beside its registers (spec/03). -/
structure Spn where
  z : Bool := false
  n : Bool := false
  c : Bool := false
  /-- The address of the word that issues next, and the first tick in which it may. -/
  npc : Nat := 0
  due : Nat := 0
  /-- A routine is executing. -/
  active : Bool := false
  wait : Option Wait := none
  /-- The entry address of the routine, and the tick of its COMMIT. -/
  entry : Nat := 0
  commitTick : Nat := 0
  chk : Option Checkpoint := none
  /-- Preset shadows by target (0 to 255 drive, 256 to 511 probe); one not listed holds what the skein gives. -/
  shadows : List (Nat × Option Shadow) := []
  /-- The resume register holds an address or HALT. -/
  hasResume : Bool := false
  /-- An entry word issues next, chosen in the decode tick: a handler, or else this address (R119, R122, R125). -/
  gap : Option (Option Nat) := none
  /-- The tick in which each vector became pending (R118), and the tick in which each strand latch was set (R128). -/
  pendAt : List (Nat × Nat) := []
  sinAt : List (Nat × Nat) := []
  /-- The time of the most recent WAITR, integer ns (R107). -/
  autoT : Nat := 0
  /-- The address whose correction restarted the routine (R126). -/
  redo : Option Nat := none
  /-- The issue stage failed to issue a word in some tick since the last token (R131). -/
  missed : Bool := false
  /-- The tick of the last heartbeat token and whether it said RUN. -/
  tokenTick : Nat := 0
  tokenRun : Bool := false
  /-- Debug has asked for a halt (R136). -/
  haltReq : Bool := false
  /-- A committed routine ends in IDLE because of STOP (R41). -/
  stopHeld : Bool := false
  /-- No vector is handled until the next entry to M5 (R196). -/
  noVec : Bool := false
  /-- The tick in which the spindle last entered IDLE. -/
  idleTick : Nat := 0
  scout : Scout := {}
  deriving DecidableEq, Repr

/-- A numerically controlled oscillator (R142 to R146): the applied tuning word and phase, and for the CONTINUOUS mode the
accumulator `acc` in the DAC sample counted `pos` since power-on. -/
structure Nco where
  ftw : Nat := 0
  poff : Nat := 0
  acc : Nat := 0
  pos : Nat := 0
  deriving DecidableEq, Repr

/-- What takes place at the start of a later tick. -/
inductive Deferred where
  /-- Latch SIN[i] of spindle n is set (R128). -/
  | sinSet (n i : Nat)
  /-- Vector v of spindle n becomes pending (R118). -/
  | vecPend (n v : Nat)
  /-- Spindle n restores its checkpoint (R119). -/
  | restore (n : Nat)
  /-- Spindle n recognises a STOP (R41, R124). -/
  | stopRecognised (n : Nat)
  /-- Spindle n recognises the stop of an underrun (R196). -/
  | underrunStop (n : Nat)
  /-- Spindle n enters IDLE after an abandonment (R41, R196). -/
  | enterIdle (n : Nat)
  /-- Spindle n halts in the tick after END (R136). -/
  | haltAt (n : Nat)
  /-- The first sample of a pulse reaches the mixer of channel k (R152): it cuts a pulse that still plays or not, and its changed preset
  applies, or the pulse is muted, or no preset changed. -/
  | firstSample (k : Nat) (cut : Bool) (preset : Option (Option Nco))
  /-- A jump request becomes visible to target t (R183). -/
  | jreqVisible (t seg : Nat)
  /-- An edge reaches output o (markers 0 to 15, triggers 16 to 47) at a time in 1/64 ticks: `act` 0 a pulse of `width` ticks,
  1 high, 2 low (R171, R172). -/
  | edge (o time act width : Nat)
  /-- Export group g is enabled or disabled (R277). -/
  | gate (g : Nat) (on : Bool)
  /-- The level at ball TRG_IN[i] has passed the synchroniser (R268). -/
  | trgSample (i : Nat) (level : Bool)
  /-- The level that TRG_IN[i] has held since a tick qualifies, if it still holds (R268). -/
  | trgQualify (i since : Nat)
  /-- Channel sample k of readout channel r arrives at discrimination (R213). -/
  | sampleArrives (r k : Nat) (w : Word)
  /-- An evaluation of channel r saturates, if the window taken up then is still open (R236, R237, R243). -/
  | satEvent (r : Nat) (taken : Option Nat)
  /-- DSC_CH_STATUS.OPEN of channel r falls, unless a window has opened since (R230). -/
  | openFalls (r : Nat)
  /-- The next frame of the bulk packet in progress is launched on a lane of a port (R313). -/
  | bulkFrame (p lane : Nat)
  /-- A software reset that was written in the tick before acts (R516). -/
  | softReset
  /-- The loader comes to step 3 of the load whose GO was in tick `go` (R417). -/
  | loadApplies (go : Nat)
  /-- The mode becomes M5 after a check that refuses nothing (R427). -/
  | runStart
  /-- ARM of a launch slot that was armed too late falls (R86, R9). -/
  | disarm (k : Nat)
  /-- A write of PWR_DORM_TOL acts (R497). -/
  | dormTol
  /-- The FLX and BIA comparators, ignored since the thresholds switched, count again (R455). -/
  | rejudge
  /-- A decision of channel r, formed in the tick before at this reel time, is loaded (R246). -/
  | loadDecision (r ns : Nat) (w vI vQ : Word)
  deriving DecidableEq, Repr

/-- A chain at the fetch point of a target (R179 to R181); its segment and pass are in STM_TGT_STATUS and STM_TGT_PASS. -/
structure Chain where
  /-- Ticks of the present pass already fetched. -/
  done : Nat := 0
  /-- The next tick to be fetched. -/
  next : Nat
  /-- The amplitude of the PLS that started the chain, S1.15, and its sub-tick delay. -/
  amp : Nat
  dly : Nat
  /-- The whole pulse is muted (R154). -/
  muted : Bool := false
  /-- The oscillator from the pulse's first sample on. -/
  nco : Nco := {}
  /-- The spindle whose PLS started it. -/
  spn : Nat := 0
  deriving DecidableEq, Repr

/-- A pulse that a PLS has started and whose first tick is still to be fetched (R179): that tick, its segment and settings,
and the oscillator from its first sample on. -/
structure PulseStart where
  tick : Nat
  seg : Nat
  amp : Nat
  dly : Nat
  muted : Bool
  nco : Nco
  spn : Nat
  deriving DecidableEq, Repr

/-- What the fine-delay element of a tone still holds of the tick before (R151). -/
structure Lag where
  dly : Nat
  muted : Bool
  nco : Nco
  deriving DecidableEq, Repr

/-- A pending jump (R183): the tick in which it became visible, and whether an eligible boundary was passed over since. -/
structure Jump where
  vis : Nat
  passed : Bool := false
  deriving DecidableEq, Repr

/-- The underrun record that is still to be written (R198). -/
structure UrRec where
  reel : Nat
  sub : Nat
  stream : Nat
  cause : Nat
  pos : Nat
  deriving DecidableEq, Repr

/-- What synthesis and streaming hold for one target (spec/04, spec/05) beside its registers. -/
structure Tgt where
  chain : Option Chain := none
  start : Option PulseStart := none
  /-- The latest scaled samples (I, Q), S1.15, newest first. -/
  hist : List (Int × Int) := []
  /-- The oscillator applied at the mixer, and as the latest pulse on its way there leaves it (R102, R152). -/
  nco : Nco := {}
  ahead : Nco := {}
  lag : Option Lag := none
  jump : Option Jump := none
  /-- Segment ends on their way through stage 10: the tick in which each leaves it, and whether the chain ended with it. -/
  ends : List (Nat × Bool) := []
  /-- A word of this tick is uncorrectable: zero is played in it (R188). -/
  zeroTick : Option Nat := none
  /-- The tick from which no sample of the target is at or before the ball any more. -/
  busyTill : Nat := 0
  urRec : Option UrRec := none
  /-- The tick of the latest underrun, and the spindle that it stops (R196). -/
  urTick : Nat := 0
  urSpn : Nat := 0
  deriving DecidableEq, Repr

/-- What a flux port holds (R160 to R165): samples of earlier ticks still to be taken by the start offset, the last scaled
sample, section states in units of 2^-40, the last values of y in units of 2^-45 newest first, the last tick with a
non-zero code, and the tick last computed. -/
structure Flx where
  carry : List Int := []
  hold : Int := 0
  sec : List Int := []
  ys : List Int := []
  nzTick : Option Nat := none
  last : Option Nat := none
  deriving DecidableEq, Repr

/-- What a bias port holds (R168): the latest BIAS words, newest first, each with its tick and its target. -/
structure Bia where
  sets : List (Nat × Nat) := []
  deriving DecidableEq, Repr

/-- A marker or trigger output (R171 to R173): when its pulse falls, in 1/64 ticks. -/
structure OutPin where
  fall : Option Nat := none
  deriving DecidableEq, Repr

/-- DAC codes of one tick on their way to a port's ball: the tick in which they reach it, and whether samples of a pulse are among them. -/
structure OnWay where
  due : Nat
  codes : List Int
  pulse : Bool
  deriving DecidableEq, Repr

/-- What synthesis holds beside its registers: `codes` are the DAC codes of each RF and FLX port formed in the latest tick, by the port
numbers of R483, and `line` those on their way to the balls; `biaTick` is the tick of the last bias update. -/
structure Syn where
  tgt : List (Nat × Tgt) := []
  flx : List (Nat × Flx) := []
  bia : List (Nat × Bia) := []
  outs : List (Nat × OutPin) := []
  codes : List (Nat × List Int) := []
  line : List (Nat × List OnWay) := []
  biaTick : Option Nat := none
  deriving DecidableEq, Repr

/-- What a roving stream holds beside its registers (R189 to R193): bytes played and bytes stored since the last restart,
source units requested since the last restart, ring bytes and source units of the requests under way, oldest first, and
whether the source failed. -/
structure Rv where
  played : Nat := 0
  stored : Nat := 0
  asked : Nat := 0
  reqs : List (Nat × Nat) := []
  failed : Bool := false
  deriving DecidableEq, Repr

/-- A front-end change that waits for its group boundary (R201). -/
inductive FrontChange where
  | att (a v : Nat)
  | ftw (r w : Nat)
  | filter (r v : Nat)
  | gain (r v : Nat)
  | phase (r v : Nat)
  | calSet (v : Nat)
  | portOff (a : Nat)
  | portOn (a : Nat)
  deriving DecidableEq, Repr

/-- What an ACQ port holds beside its registers (R200 to R207): the raw samples of its latest groups, newest group first, and
the first group after the marking of an attenuator step or a change of calibration set. -/
structure Acq where
  raw : List (List Nat) := []
  settle : Nat := 0
  /-- The port's ADC output is in use (R207, R543). -/
  awake : Bool := false
  /-- The group last delivered, counted since SYNC. -/
  lastGroup : Option Nat := none
  deriving DecidableEq, Repr

/-- What a readout channel holds (R209 to R217): the settings in force, the first sample that its tuning and filter changes no longer
mark, its latest tuning words with the first group of each, and its latest samples with their numbers, newest first. -/
structure RdoCh where
  filter : Nat := 0
  gain : Nat := 0
  phase : Nat := 0
  mark : Nat := 0
  ftws : List (Nat × Nat) := []
  out : List (Nat × Word) := []
  deriving DecidableEq, Repr

/-- What an array pair holds (R218 to R225): COMB_ON before and from envelope sample `combDue` on, the comb's latest samples;
tone entries held, and entries accepted with their tick that wait for their bin boundary; by tone the stretches of marked samples, as the
ticks since SYNC after which a stretch begins and at which it ends; the band decimator's latest samples in units of 2^-58, newest first;
by tone its latest mixed bin samples in units of 2^-344, newest first; and the last groups that held an overrange sample, and in which the port was not awake. -/
structure ArrPair where
  combOld : Bool := false
  combNew : Bool := false
  combDue : Nat := 0
  hist : List (Int × Int) := []
  heldF : List (Nat × Option Word) := []
  heldC : List (Nat × Option Word) := []
  accepted : List (Nat × Nat × (Word × Word × Word)) := []
  marks : List (Nat × List (Nat × Nat)) := []
  base : List (Int × Int) := []
  bins : List (Nat × List (Int × Int)) := []
  ovrGroup : Option Nat := none
  sleepGroup : Option Nat := none
  /-- The latest sample of each tone, with its boundary in ticks since SYNC. -/
  last : List (Nat × Option (Nat × Word)) := []
  deriving DecidableEq, Repr

/-- What the readout front end holds beside its registers (spec/06). -/
structure Rdo where
  acq : List (Nat × Acq) := []
  ch : List (Nat × RdoCh) := []
  pair : List (Nat × ArrPair) := []
  changes : List (Nat × FrontChange) := []
  deriving DecidableEq, Repr

/-- An RWIN that discrimination takes up in a tick (R228, R229): that tick, its kernel set, early stop, length and the group of
window sample 0. -/
structure RwinReq where
  tick : Nat
  kset : Nat
  es : Nat
  len : Nat
  g0 : Nat
  deriving DecidableEq, Repr

/-- A partial window at an evaluation (R241): its number, the accumulator (units of 2^-29) and what its samples carried. -/
structure Eval where
  e : Nat
  zI : Int
  zQ : Int
  settle : Bool
  ovr : Bool
  void : Bool
  deriving DecidableEq, Repr

/-- An open readout window (R228 to R235): `set` holds the sixteen words of the active classifier copy that it latched. -/
structure Window where
  kset : Nat
  es : Nat
  len : Nat
  g0 : Nat
  seq : Nat
  set : List Word
  n : Nat := 0
  zI : Int := 0
  zQ : Int := 0
  settle : Bool := false
  ovr : Bool := false
  void : Bool := false
  deriving DecidableEq, Repr

/-- A committed decision: its word (R245) and v in S16.16. -/
structure Decision where
  word : Word
  vI : Word
  vQ : Word
  deriving DecidableEq, Repr

/-- What discrimination holds for one readout channel beside its registers (spec/07). -/
structure DscCh where
  /-- A decision was formed since the last RWIN (R100, R229). -/
  decided : Bool := false
  rwins : List RwinReq := []
  win : Option Window := none
  /-- The tick of the last take-up, and windows opened since entry to M5. -/
  taken : Option Nat := none
  seq : Nat := 0
  /-- An evaluation that starts, and the committed decision on its way with the tick in which it is formed (R243). -/
  due : Option Eval := none
  /-- The tick in which the registers of the latest decision were loaded (R246, R248). -/
  loaded : Option Nat := none
  form : Option (Nat × Decision) := none
  /-- The latest channel sample: its number and word (R213, R214). -/
  sample : Option (Nat × Word) := none
  deriving DecidableEq, Repr

/-- What a ply cell holds beside FAB_PLY_STATUS (R264 to R266): it emitted in the tick before, for how many ticks `a` has held
its value, that value, and the tick last evaluated. -/
structure Ply where
  emitted : Bool := false
  run : Nat := 0
  a : Bool := false
  last : Option Nat := none
  deriving DecidableEq, Repr

/-- What a trigger input holds (R268 to R270): the level at its ball, the first tick of its sampled level, whether that level has yet to
qualify, the tick in which it last became stuck, the tick of its last event, the tick in which it last ceased to be stuck, and the first tick of the stay at the
active level for which STUCK_EV has been set. -/
structure TrgIn where
  ball : Bool := false
  since : Nat := 0
  open_ : Bool := false
  stuckFrom : Nat := 0
  lastEv : Option Nat := none
  unstuck : Option Nat := none
  told : Option Nat := none
  deriving DecidableEq, Repr

/-- The decision fabric beside its registers (spec/08): events on strands and the tick in which each becomes visible, the
consumers that an event has reached in tick `visTick` (`vis` those whose command has not yet taken it), the strands whose events
became visible in it, ply cells, trigger
inputs, lookups in progress by table (start tick and address), and the values FAB_EV_EN words held before writes of the present tick. -/
structure Fab where
  flight : List (Nat × Nat) := []
  visTick : Nat := 0
  seen : List Nat := []
  vis : List Nat := []
  shown : List Nat := []
  ply : List (Nat × Ply) := []
  trg : List (Nat × TrgIn) := []
  ct : List (Nat × List (Nat × Nat)) := []
  enOld : List (Nat × Option Word) := []
  deriving DecidableEq, Repr

/-- A frame that waits in class 3 of a twist port (R305). -/
inductive TimeFrame where | timeLo | timeHi | state | syncLo | syncHi
  deriving DecidableEq, Repr

/-- A bulk packet (R313): destination, source, kind, tag, completion status, address space and byte address, and its data words
with their byte enables. -/
structure Packet where
  dest : Nat
  src : Nat
  kind : Nat
  tag : Nat
  status : Nat
  space : Nat
  addr : Nat
  data : List (Word × Nat)
  deriving DecidableEq, Repr

/-- A lane that carries bulk traffic (R313, R314): the tick after the packet in progress, the far end's free receive buffers,
receive buffers freed here and not yet reported, and the frames of the packet in progress that are still to be launched, as type and
payload. -/
structure BulkLane where
  busyTo : Nat := 0
  credits : Nat := 4
  freed : Nat := 0
  queue : List (Nat × Nat) := []
  deriving DecidableEq, Repr

/-- What a twist port holds beside its registers (spec/09): its frames that wait to be launched, with the tick in which each
was queued (GROUP frames: release tick, arrival port and payload); the GROUP payload selected for the next tick; the stamp of
the latest TIME_LO and the count of the latest SYNC_LO that it sent; whether it sends FAILOVER, its incoming duty lane, the
ticks of its invalid duty frames and the tick of the first that the failure counts; the tick in which it entered its state;
whether its outgoing duty traffic is to move; the SYNC_LO received (count, release tick, instant in it); by lane its scrambler and the
frame last launched, with its tick;
its bulk lanes, the packets that wait for one (tick, source, packet; source 0 is local, 1 + 4p + l is lane l of TW[p]), and for
completions, register accesses and memory writes the source served last (0 local, 1 + p). -/
structure Twist where
  fwd : List (Nat × Nat × Nat) := []
  rate : List (Nat × Nat) := []
  time : List (Nat × TimeFrame) := []
  sel : Option Nat := none
  stamp : Nat := 0
  mark : Nat := 0
  failing : Bool := false
  rxLane : Nat := 0
  bad : List Nat := []
  firstBad : Option Nat := none
  since : Nat := 0
  move : Bool := false
  lo : Option (Nat × Nat × Nat) := none
  scr : List (Nat × Nat) := []
  sent : List (Nat × Option (Nat × Nat)) := []
  lanes : List (Nat × BulkLane) := []
  wait : List (Nat × Nat × Packet) := []
  served : List Nat := [4, 4, 4]
  deriving DecidableEq, Repr

/-- The cascade beside its registers: twist ports; a master's rates not yet applied (tick, ADJ) and a slave's (reel integer ns,
ADJ); a slave's two shares of ADJ (R301); the latest RATE frame (ADJ, APPLY_T, tick sent); the last microsecond queued (R299);
the time sequence that arrives (R300): TIME_LO with the reel of its launch tick, then TIME_HI; the microsecond of the latest
measurement and its tick; measurements in a row; and the remote accesses in progress (R316, R317): the tick of the register
access, its kind and tag; of the transfer, the tick of the latest progress and the tags still to be answered; and the next tag. -/
structure Csc where
  tw : List (Nat × Twist) := []
  rates : List (Nat × Int) := []
  ratesRx : List (Nat × Int) := []
  adjM : Int := 0
  adjServo : Int := 0
  lastRate : Option (Int × Nat × Nat) := none
  lastUs : Option Nat := none
  seqLo : Option (Nat × Nat) := none
  seqHi : Option (Nat × Nat) := none
  lastMeas : Option (Nat × Nat) := none
  run : Nat := 0
  rra : Option (Nat × Nat × Nat) := none
  rdmaTick : Nat := 0
  rdmaTags : List Nat := []
  nextTag : Nat := 0
  deriving DecidableEq, Repr

/-- An item of a bobbin (R320): its time in units of 2^-32 ns, its bytes, whether it carries SETTLE and OVERRANGE, and the values
that levels and masks compare (R333). -/
structure BobItem where
  t : Nat
  bytes : List Byte
  settle : Bool
  ovr : Bool
  vals : List Int
  deriving DecidableEq, Repr

/-- A capture in progress (R337): the stream position of its first item, its pre-trigger items and the items from its trigger item
on; the acting trigger's time, condition and the flags of R334; PRE_SHORT and DEFERRED. -/
structure BobCap where
  start : Nat
  pre : Nat
  n : Nat
  trigT : Nat
  src : Nat
  flags : Nat
  short : Bool
  deferred : Bool
  deriving DecidableEq, Repr

/-- A capture that has ended and whose entry is not yet written (R339): the tick of its end, the position after its last byte, the capture, its
items before and from the trigger on, the status bits of its end, whether the entry waits for no spill, whether the bobbin is DONE after it,
the tick in which its last byte was spilled, and the positions of its items with SETTLE, with OVERRANGE, with a mask violation and of lost
records. -/
structure BobEnd where
  tick : Nat
  stop : Nat
  cap : BobCap
  pre : Nat
  post : Nat
  extra : Nat
  soon : Bool
  done : Bool
  spilled : Option Nat
  settles : List Nat
  ovrs : List Nat
  viols : List Nat
  losts : List Nat
  deriving DecidableEq, Repr

/-- What a bobbin holds beside its registers (spec/10): its record queue (R322), the tick in which that last wrote, whether the next
record carries LOST_BEFORE; what has reached it and in which tick, so that nothing reaches it twice (R320); the number of history items; the reel at which it was armed and whether AUTO acted; TC_T as latched, the
REEL conditions that acted, the times from which a condition identifies an item, the values of the last unmarked item; the last
decision or recorded sample by source (R325); the capture in progress, the trigger that is queued (time, condition, flags), the
trigger that the next arming takes (time, flags), captures whose entry is to be written, the tick of its re-arming; CAP_END (R329);
the end of the data whose spill is requested, the spills in progress (position, length), and what of ended captures is still to be
requested (from, to); and the positions of items with SETTLE,
with OVERRANGE, with a mask violation and of lost records. -/
structure Bob where
  q : List BobItem := []
  popTick : Option Nat := none
  lostBefore : Bool := false
  fed : List (Nat × Option Nat) := []
  hist : Nat := 0
  armReel : Nat := 0
  autoDone : Bool := false
  tcT : List Nat := []
  reelDone : List Nat := []
  marks : List (Nat × Nat) := []
  last : Option (List Int) := none
  prev : List (Nat × Option Word) := []
  cap : Option BobCap := none
  queued : Option (Nat × Nat × Nat) := none
  carry : Option (Nat × Nat) := none
  ended : List BobEnd := []
  rearm : Option Nat := none
  capEnd : Nat := 0
  issued : Nat := 0
  spill : List (Nat × Nat) := []
  todo : List (Nat × Nat) := []
  settles : List Nat := []
  ovrs : List Nat := []
  viols : List Nat := []
  losts : List Nat := []
  deriving DecidableEq, Repr

/-- The fields of a job descriptor (R369). -/
structure JobDesc where
  op : Nat
  mode : Nat
  flags : Nat
  block : Nat
  src : Nat
  len : Nat
  dst : Nat
  limit : Nat
  idx : Nat
  deriving DecidableEq, Repr

/-- A drafter job that a lane runs (R368, R369): its descriptor, the error that ends it before its first block (0 none), the block at whose
input the fetch finds an uncorrectable word, and the 64-bit DRAM words that DRAM_UE named for it (R359). -/
structure Job where
  desc : JobDesc
  err : Nat := 0
  ue : Option Nat := none
  bad : List Nat := []
  deriving DecidableEq, Repr

/-- A class C2 access that waits for its grants (R357, R361, R362): a write of the host's (none: a byte not enabled), a read of the host's
and whether it finds an uncorrectable word, a read by the test access port, a MEM_WR packet of another device (R316), or the read of a
transfer with its target, space, source, length and destination (R317). -/
inductive HeldAccess where
  | write (addr : Nat) (bytes : List (Option Byte))
  | read (addr len : Nat) (ue : Bool)
  | tap (addr : Nat)
  | remote (k : Packet)
  | rdma (dest space src len dst : Nat)
  deriving DecidableEq, Repr

/-- What a DRAM request is for (R361): the refill of stream `r` from source unit `from_` on, the spill of bobbin `b` from a stream position on,
a held access by its number, the descriptor of DMA queue `q`, or a job of lane `l`. -/
inductive DramOwner where
  | refill (r from_ : Nat)
  | spill (b pos : Nat)
  | host (id : Nat)
  | dma (q : Nat)
  | job (l : Nat)
  deriving DecidableEq, Repr

/-- A DRAM request under way (R361 to R365): its class, what it is for, the tick of its issue, the deadline of a C1 request (2^-32 ns of reel),
by stack the granules still to be granted, and whether one has been granted. -/
structure DramReq where
  cls : Nat
  owner : DramOwner
  tick : Nat
  deadline : Nat
  left : List Nat
  begun : Bool
  deriving DecidableEq, Repr

/-- What memory holds beside its bytes and registers (spec/11): 64-bit DRAM words and 128-bit SRAM words marked uncorrectable
(R352, R359); the reel (2^-32 ns) at each correctable error of the last second, by SRAM region, then by DRAM stack from 6 (R355); the
tick from which a stack's band has stayed lower than its refresh multiple asks (R360); C2 accesses that wait, oldest first, each with its
number, and the number of the next one (R357, R362); the streams of the compressed refill requests in request order (R366);
DRAM requests, oldest first, by stack the class whose turn it is in the round-robin with the grants it has left (R362), and the tick of its
latest grant with the number granted in it. -/
structure Mem where
  badDram : List Nat := []
  badSram : List Nat := []
  ces : List (Nat × List Nat) := []
  lowSince : List (Nat × Option Nat) := []
  held : List (Nat × HeldAccess) := []
  seq : Nat := 0
  order : List Nat := []
  reqs : List DramReq := []
  turn : List (Nat × (Nat × Nat)) := []
  granted : List (Nat × (Nat × Nat)) := []
  deriving DecidableEq, Repr


/-- What the host interface holds beside its registers (spec/12): the descriptor that each DMA queue runs (its 32 bytes), the data requests
that it is still to issue (R397), whether EN was cleared while it runs (R393), the base-2 logarithm of BAR4's size (R384), the function
mask of MSI-X (R400), the SMBus
address bits as sampled (R402), the status of the last SMBus WRITE, the tick since which each ready queue has been ready, the DESC queue
whose turn it is with the grants left of it (R397), and the registers as the tick began with them (R400). -/
structure Hif where
  dma : List (Nat × Option (List Byte)) := []
  dataLeft : List (Nat × Nat) := []
  stopping : List (Nat × Bool) := []
  bar4Log : Nat := 30
  funcMask : Bool := false
  smbAddr : Nat := 0
  smbStatus : Nat := 0
  since : List (Nat × Option Nat) := []
  turn : Nat × Nat := (63, 0)
  start : List (Nat × Word) := []
  deriving DecidableEq, Repr

/-- What the security block holds beside its registers (spec/13): whether a load has completed (R424); the fuses: lifecycle (0 BLANK,
1 OWNED, 3 RETIRED), owner hashes from slot 0 upward, revoked slots, the key-encryption key unless overwritten, MIN_SVN; whether the
key may still be read (R430); a PROVISION in progress (hashes, MIN_SVN); an authenticated command accepted and still to act (AUTH_OP,
AUTH_ARG); the challenge that is valid; whether submissions are locked out (R435); a load in progress, its DRAM offset, the tick of its GO and the
slots that were revoked then (R417, R431); DRAM
ranges: the image being loaded (R418), those written by DRAM sections (R423) and LIBREF ranges (R424); the ROLE section; whether a
failed load still treats configuration as confidential (R421). -/
structure Sec where
  loaded : Bool := false
  lcs : Nat := 0
  slots : List (List Byte) := []
  revoked : List Nat := []
  kek : Option (List Byte) := none
  minSvn : Nat := 0
  kekReadable : Bool := false
  prov : Option (List (List Byte) × Nat) := none
  auth : Option (Nat × Nat) := none
  chal : Option (List Byte) := none
  locked : Bool := false
  loading : Bool := false
  loadSrc : Nat := 0
  loadTick : Nat := 0
  loadRevoked : List Nat := []
  image : Option (Nat × Nat) := none
  dramRanges : List (Nat × Nat) := []
  libRanges : List (Nat × Nat) := []
  role : Option (List Byte) := none
  confLoad : Bool := false
  deriving DecidableEq, Repr

/-- An error that a block has reported (R476): class, event, instance, severity, and the integer reel ns of its report. -/
structure Report where
  cls : Nat
  ev : Nat
  inst : Nat
  sev : Nat
  ns : Nat
  deriving DecidableEq, Repr

/-- An entry of an error queue (R477): its sequence number, the report, and how often it came again. -/
structure ErrEntry where
  seq : Nat
  rep : Report
  again : Nat
  deriving DecidableEq, Repr

/-- A failure that the supervisor has detected (R446, R451): 1 to 11 for DF1 to DF11 or 0x20 for an S3 error, the object, the error's
class, event and instance, and the integer reel ns of the detection, zero when the reel is not valid. -/
structure Detection where
  cause : Nat
  object : Nat
  err : Nat × Nat × Nat
  ns : Nat
  deriving DecidableEq, Repr

/-- A disagreement of two comparators that is arbitrated (R462, R463): the monitor, the comparator that shows the breach (0 HI
primary, 1 HI redundant, 2 LO primary, 3 LO redundant) and the tick. -/
structure Arb where
  m : Nat
  cmp : Nat
  tick : Nat
  deriving DecidableEq, Repr

/-- A blank of a monitor (R457): the ticks in which it started and ended, or will end by BLANK_LEN. -/
structure Blank where
  start : Nat
  stop : Nat
  deriving DecidableEq, Repr

/-- What the supervisor holds of one monitor beside its registers: its qualified comparators (R456); the latest DF2 evaluation breached
(R458); a bias step breach stands (R459); the dangerous failures that its breaches stood for while FLAG is set (R452, R455); the bias current at the update
before, in nA; its latest blank; the tick whose notice waits for its blank (R457); the powers of the last microseconds, newest first (R458). -/
structure Mon where
  cmps : List Nat := []
  avg : Bool := false
  step : Bool := false
  causes : List Nat := []
  prev : Option Int := none
  blank : Option Blank := none
  pend : Option Nat := none
  powers : List Nat := []
  deriving DecidableEq, Repr

/-- What the supervisor holds of one sensor beside its registers (R472, R474): for each edge held, readings in a row past its cool side;
readings in a row past the limit; whether the last reading lay past LIMIT or within 2 % of it, or was invalid. -/
structure Sensor where
  cool : List Nat := [0, 0, 0, 0]
  past : Nat := 0
  near : Bool := false
  deriving DecidableEq, Repr

/-- What the tension supervisor holds beside its registers (spec/14). -/
structure Sup where
  /-- The permit waves run as far as trips and resets let them (R449, R514); they wait for every cause too after a reset in M7 (R515). -/
  permits : Bool := false
  held : Bool := false
  /-- SAFE_SLEW of every bias port as held when its permit wave stopped (R450), and the step each engine took last. -/
  slews : List (Nat × Nat) := []
  /-- The latest blanking notice of each port (R132), by R483's numbering: the reel value of its tick (2^-32 ns). -/
  notices : List (Nat × Option Nat) := []
  /-- Reports that wait for the end of their SUPCK cycle (R476), the queues of S0, S1 and S2 (R477), and the next sequence number. -/
  reports : List Report := []
  queues : List (Nat × List ErrEntry) := []
  seq : Nat := 0
  /-- The S3 error that is current (R479). -/
  s3 : Option ErrEntry := none
  /-- Failures detected whose reaction is still to come (R449). -/
  detect : List Detection := []
  mon : List (Nat × Mon) := []
  ts : List (Nat × Sensor) := []
  arb : Option Arb := none
  /-- The port on hold (R462), by R483's numbering. -/
  hold : Option Nat := none
  /-- The tick of the last switch between run and quiet thresholds (R455). -/
  switched : Option Nat := none
  /-- A DF10 cause stands until a full pass without failure; a copy mismatch until power-on reset (R452). -/
  df10 : Bool := false
  mismatch : Bool := false
  /-- Comparators, by monitor and number, that were disabled at the last entry to M3 and are to be tested again (R464). -/
  retest : List (Nat × Nat) := []
  /-- The tick in which the self-test pass in progress began, and whether an item has failed in it (R468). -/
  passAt : Nat := 0
  passFailed : Bool := false
  /-- Host conversions requested, by ADC: the input; and conversions made whose result is not yet written: input and value (R467). -/
  madc : List (Nat × Option Nat) := []
  conv : List (Nat × Option (Nat × Nat)) := []
  deriving DecidableEq, Repr

/-- What power states and energy accounting hold beside their registers (spec/15): the live counters of R500 (nJ, by group, 16 the
package) and R501 (pulses, decisions, the ticks that ports spent in a state, by 4 × group + state, up to tick `resTo` or, for a port that
changed its state since, the tick of that change); the tick in which a waking port is ACTIVE; the
tolerances in force at the start of the tick where a write changed them in it (R493); a DORMANT level that is being restored (R497). -/
structure Pwr where
  pulses : Nat := 0
  decisions : Nat := 0
  energy : List (Nat × Nat) := []
  res : List (Nat × Nat) := []
  resTo : Nat := 0
  since : List (Nat × Nat) := []
  waking : List (Nat × Option Nat) := []
  tolOld : List (Nat × Option Nat) := []
  restore : Option Nat := none
  deriving DecidableEq, Repr

/-- What the test access port holds (R530): its instruction (0x02 IDCODE after its reset), the 64-bit data register as it is captured
next (the identification code after its reset), the boundary cells as shifted in and as captured, and the cells that EXTEST drives. -/
structure Tap where
  ir : Nat := 2
  dr : Nat := 0x10256A4D
  cells : List Bool := []
  captured : List Bool := []
  drive : Option (List Bool) := none
  deriving DecidableEq, Repr


/-- The whole state of the block. -/
structure State where
  /-- Ticks since power-on (R18); REEL_ADVANCE counts it. -/
  tick : Nat := 0
  /-- Every BAR0 register by its byte offset; an unlisted one holds its reset value. -/
  regs : List (Nat × Word) := []
  /-- W1C bits that hardware set in the present tick (R8), by register. -/
  evSet : List (Nat × Word) := []
  /-- W1S bits that a write of the present tick wrote 1 (R9, R401), by register. -/
  wrOne : List (Nat × Word) := []
  /-- W1S bits that a write took from 0 to 1 in the present tick, by register (R250). -/
  wrSet : List (Nat × Word) := []
  /-- Holding copies of `_HI` values (R10), by path and pair. -/
  heldRd : List (Nat × Option Word) := []
  /-- Held `_LO` writes (R12), by path and pair. -/
  heldWr : List (Nat × Option Word) := []
  /-- The answer of the last access. -/
  resp : Resp := {}
  /-- The model's own counter that picks the next free value (log entry 1). -/
  freeCtr : Nat := 0
  /-- SRAM bytes by offset (R350); an unlisted byte reads 0 (log entry 3). -/
  sram : List Host.Cell := []
  /-- DRAM bytes by offset (R356); an unlisted byte reads 0 (log entry 4). -/
  dram : List Host.Cell := []
  /-- Mode control and sample clock (spec/01). -/
  glb : Glb := {}
  /-- The timeline (spec/02). -/
  tln : Tln := {}
  /-- The spindles (spec/03). -/
  spn : List (Nat × Spn) := []
  /-- What takes place at the start of a later tick, with that tick. -/
  later : List (Nat × Deferred) := []
  /-- Synthesis and streaming: outputs and targets (spec/04, spec/05). -/
  syn : Syn := {}
  /-- Roving streams (spec/05). -/
  rv : List (Nat × Rv) := []
  /-- The readout front end (spec/06). -/
  rdo : Rdo := {}
  /-- Discrimination, by readout channel (spec/07). -/
  dsc : List (Nat × DscCh) := []
  /-- The decision fabric (spec/08). -/
  fab : Fab := {}
  /-- The cascade (spec/09). -/
  csc : Csc := {}
  /-- The bobbins (spec/10). -/
  bob : List (Nat × Bob) := []
  /-- Memory (spec/11). -/
  mem : Mem := {}
  /-- Drafter jobs in progress, by lane (spec/11). -/
  jobs : List (Nat × Option Job) := []
  /-- The host interface (spec/12). -/
  hif : Hif := {}
  /-- Skein load, life cycle and debug (spec/13). -/
  sec : Sec := {}
  /-- The tension supervisor (spec/14). -/
  sup : Sup := {}
  /-- Power states and energy (spec/15). -/
  pwr : Pwr := {}
  /-- The test access port (spec/16). -/
  tap : Tap := {}
  /-- Commands that wait, first in, first out. -/
  pending : List Instr := []
  deriving DecidableEq, Repr

/-- The block right after power-on reset (R13, R513): every register at the value its table gives (`regs` lists only
registers that differ from it), every memory empty, every engine idle, no command waiting. -/
def State.reset : State := {}

end Sys2Proof.Machine
end

