-- ==== Sys2Proof/Machine/Ops.lean ====
section
/-! DEFINITION. Machine/Ops.lean: the named operations over registers, memory bytes, event flags and free values. -/

namespace Sys2Proof.Machine

/-! ### Registers -/

/-- Whether `off` is one instance of a register row that starts at `base` with these strides and counts. -/
def inDims : Nat → List (Nat × Nat) → Bool
  | r, [] => r == 0
  | r, (s, n) :: ds => if s = 0 then inDims r ds else decide (r / s < n) && inDims (r % s) ds

/-- The value a register holds after power-on reset (R13). Three tables stand in prose: the MSI-X entries (log entry 7),
the sensors 0 to 15 (spec/14, above the sensor registers), and every other non-zero reset is a row of `nonzeroResets`. -/
def regReset (off : Nat) : Word :=
  if 0x18000 ≤ off ∧ off < 0x1A000 then (if off % 16 = 12 then 1 else 0)
  else if 0x32000 ≤ off ∧ off < 0x32200 then
    match off % 32 with
    | 0 => 0x81
    | 12 => 0x014D0000
    | 16 => 0x015C0000
    | 20 => 0x01660000
    | 24 => 0x01700000
    | 28 => 0x017A0000
    | _ => 0
  else match nonzeroResets.find? (fun r => decide (r.1 ≤ off) && inDims (off - r.1) r.2.1) with
    | some r => r.2.2
    | none => 0

/-- The value a register holds. -/
def State.rd (s : State) (off : Nat) : Word := sget regReset s.regs off

/-- Hardware stores a register's value. -/
def State.wr (s : State) (off : Nat) (v : Word) : State := { s with regs := sset regReset s.regs off v }

/-- A field's value. -/
def State.fld (s : State) (f : Field) : Nat := fieldGet (s.rd f.reg) f

/-- Whether a one-bit field is 1. -/
def State.bit (s : State) (f : Field) : Bool := s.fld f == 1

/-- Hardware stores a field. -/
def State.put (s : State) (f : Field) (n : Nat) : State := s.wr f.reg (fieldPut (s.rd f.reg) f n)

/-- Hardware counts a counter field up by `k`, saturating. -/
def State.count (s : State) (f : Field) (k : Nat := 1) : State := s.put f (satAdd f.w (s.fld f) k)

/-- Hardware sets a W1C field and reports nothing; R8 holds it against a clearing write of the same tick. -/
def State.setFlag (s : State) (f : Field) : State :=
  { s.put f (2 ^ f.w - 1) with evSet := sset (fun _ => 0) s.evSet f.reg (sget (fun _ => 0) s.evSet f.reg ||| Field.mask f) }

/-- A block reports an error to the tension supervisor: it waits there for its SUPCK cycle's end (R476). -/
def State.report (s : State) (cls ev inst sev : Nat) : State :=
  { s with sup := { s.sup with reports := s.sup.reports ++ [⟨cls, ev, inst, sev, s.tln.reel / 2 ^ 32 % 2 ^ 64⟩] } }

/-- Hardware sets a W1C field, and a flag of the reporting tables makes its report in the same tick, for instance `inst` where the
flag's register stands for the whole block. -/
def State.raise (s : State) (f : Field) (inst : Nat := 0) : State :=
  match reportOf f.reg f.lo inst with
  | some (cls, ev, i, sev) => (s.setFlag f).report cls ev i sev
  | none => s.setFlag f

/-- Hardware clears a one-bit W1S field; a bit that a write of the same tick wrote 1 stays set (R9). -/
def State.drop (s : State) (f : Field) : State :=
  if sget (fun _ => 0) s.wrOne f.reg &&& Field.mask f = 0 then s.put f 0 else s

/-- Hardware sets a W1C field when a condition holds. -/
def State.raiseIf (s : State) (c : Bool) (f : Field) (inst : Nat := 0) : State := if c then s.raise f inst else s

/-- The 64-bit value of a `_LO` and `_HI` pair. -/
def State.rd64 (s : State) (lo : Nat) : Nat := (s.rd lo).toNat + 2 ^ 32 * (s.rd (lo + 4)).toNat

/-- Hardware stores a 64-bit value into a `_LO` and `_HI` pair. -/
def State.wr64 (s : State) (lo : Nat) (n : Nat) : State :=
  (s.wr lo (BitVec.ofNat 32 n)).wr (lo + 4) (BitVec.ofNat 32 (n / 2 ^ 32))

/-- The registers of a range of offsets return to their reset values. -/
def State.resetRange (s : State) (a b : Nat) : State := { s with regs := sdrop a b s.regs }

/-- The present mode, 0 to 7 for M0 to M7. -/
def State.mode (s : State) : Nat := s.fld Fld.GLB_MODE_STATUS_MODE

/-! ### Memory -/

/-- A memory is in its canonical form: addresses strictly rising, no entry equal to what an unlisted address reads as. -/
def Memory.wf (m : List Host.Cell) : Bool := sparseWf (fun _ => 0) m

/-- One SRAM byte. -/
def State.sramByte (s : State) (a : Nat) : Byte := sget (fun _ => 0) s.sram a

/-- Store one SRAM byte. -/
def State.putSram (s : State) (a : Nat) (b : Byte) : State := { s with sram := sset (fun _ => 0) s.sram a b }

/-- One DRAM byte. -/
def State.dramByte (s : State) (a : Nat) : Byte := sget (fun _ => 0) s.dram a

/-- Store one DRAM byte. -/
def State.putDram (s : State) (a : Nat) (b : Byte) : State := { s with dram := sset (fun _ => 0) s.dram a b }

/-- `n` bytes read by `rd` from address `a` on. -/
def readBytes (rd : Nat → Byte) (a : Nat) : Nat → List Byte
  | 0 => []
  | n + 1 => rd a :: readBytes rd (a + 1) n

/-- Bytes as a little-endian number (spec/00, "Multi-byte fields"). -/
def leNat : List Byte → Nat
  | [] => 0
  | b :: bs => b.toNat + 256 * leNat bs

/-- A number as `n` little-endian bytes. -/
def leBytes : Nat → Nat → List Byte
  | 0, _ => []
  | n + 1, v => BitVec.ofNat 8 v :: leBytes n (v / 256)

/-- `n` bytes as one big-endian number. -/
def beNat (bs : List Byte) : Nat := bs.foldl (fun a b => 256 * a + b.toNat) 0

/-- A number as `n` big-endian bytes. -/
def beBytes : Nat → Nat → List Byte
  | 0, _ => []
  | n + 1, v => BitVec.ofNat 8 (v / 256 ^ n) :: beBytes n v

/-- `n` SRAM bytes as a little-endian number. -/
def State.sramNat (s : State) (a n : Nat) : Nat := leNat (readBytes s.sramByte a n)

/-- `n` DRAM bytes as a little-endian number. -/
def State.dramNat (s : State) (a n : Nat) : Nat := leNat (readBytes s.dramByte a n)

/-- Store bytes into SRAM from address `a` on. -/
def State.putSramBytes (s : State) (a : Nat) : List Byte → State
  | [] => s
  | b :: bs => (s.putSram a b).putSramBytes (a + 1) bs

/-- Store bytes into DRAM from address `a` on. -/
def State.putDramBytes (s : State) (a : Nat) : List Byte → State
  | [] => s
  | b :: bs => (s.putDram a b).putDramBytes (a + 1) bs

/-! ### Free values -/

/-- The next free value, cut to `w` bits, and the state that will give another one next (log entry 1). -/
def State.fresh (s : State) (w : Nat) : Nat × State :=
  ((Config.freeValue s.freeCtr).toNat % 2 ^ w, { s with freeCtr := s.freeCtr + 1 })

/-! ### Folding over index ranges -/

/-- Apply `f 0`, then `f 1`, up to `f (n - 1)`. -/
def forN {σ : Type} : Nat → (Nat → σ → σ) → σ → σ
  | 0, _, s => s
  | n + 1, f, s => f n (forN n f s)

/-- Apply `f` with each element of a list, first to last. -/
def forAll {σ α : Type} (f : α → σ → σ) : List α → σ → σ
  | [], s => s
  | a :: as, s => forAll f as (f a s)

end Sys2Proof.Machine
end

