-- ==== Sys2Proof/Machine/Arbiter.lean ====
section
/-! DEFINITION. Machine/Arbiter.lean: the DRAM arbiter (R356, R361 to R365): requests that wait for their granules, and the order in which
each stack grants them. -/

namespace Sys2Proof.Machine

/-- How many of the 256-byte granules of a range of `n` bytes from `a` on lie in stack `k` (R356). -/
def granulesIn (a n k : Nat) : Nat :=
  if n = 0 then 0 else ((a + n + 255) / 256 + 3 - k) / 4 - (a / 256 + 3 - k) / 4

/-- A DRAM request is issued for some ranges (R361): its class, what it is for, and the deadline of R363 in units of 2^-32 ns. -/
def askDram (cls : Nat) (owner : DramOwner) (deadline : Nat) (spans : List (Nat × Nat)) (s : State) : State :=
  let left := (List.range 4).map fun k => (spans.map fun r => granulesIn r.1 r.2 k).sum
  if left.all (· == 0) then s
  else { s with mem := { s.mem with reqs := s.mem.reqs ++ [⟨cls, owner, s.tick, deadline, left, false⟩] } }

/-- The requests of an owner are withdrawn. -/
def dropDram (o : DramOwner) (s : State) : State :=
  { s with mem := { s.mem with reqs := s.mem.reqs.filter fun q => q.owner != o } }

/-- The DRAM requests of a stream are withdrawn. -/
def dropRefills (r : Nat) (s : State) : State :=
  { s with mem := { s.mem with reqs := s.mem.reqs.filter fun q => match q.owner with
      | .refill r' _ => r' != r
      | _ => true } }

/-- A request of this owner waits for a grant. -/
def State.dramWaits (s : State) (o : DramOwner) : Bool := s.mem.reqs.any fun q => q.owner == o

/-- A C1 request is urgent (R363): its deadline lies no more than C1_GUARD ns ahead. -/
def State.urgent (s : State) (q : DramReq) : Bool :=
  q.cls == 1 && decide (q.deadline ≤ s.tln.reel + s.fld Fld.MEM_ARB2_C1_GUARD * 2 ^ 32)

/-- A request has a granule that stack `k` is still to grant. -/
def DramReq.waitsAt (q : DramReq) (k : Nat) : Bool := q.left.getD k 0 != 0

/-- The weight of a class in step 3 of R362. -/
def State.arbWeight (s : State) (c : Nat) : Nat :=
  match c with
  | 1 => s.fld Fld.MEM_ARB_W1
  | 2 => s.fld Fld.MEM_ARB_W2
  | 3 => s.fld Fld.MEM_ARB_W3
  | _ => 0

/-- The request with the earliest deadline, and the oldest of several. -/
def earliest : List DramReq → Option DramReq
  | [] => none
  | q :: qs => match earliest qs with
    | some r => if q.deadline ≤ r.deadline then some q else some r
    | none => some q

/-- The classes 1 to 3 in the order of a round-robin whose turn is class `c` with `n` grants left: its rest of the turn, then each class
anew, that class last (log entry 123). -/
def roundFrom (s : State) (c n : Nat) : List (Nat × Nat) :=
  (c, n) :: (List.range 3).map fun i =>
    let d := (c + i) % 3 + 1
    (d, s.arbWeight d)

/-- The deadline of a C1 request has passed before its first granule has been granted: it is refused, and granted no more (R363). -/
def State.lapsed (s : State) (q : DramReq) : Bool := q.cls == 1 && !q.begun && decide (q.deadline < s.tln.reel)

/-- The request that stack `k` grants next, and the turn after that (R362): C0; then urgent C1, earliest deadline first; then relaxed
requests by weighted round-robin, a class of weight 0 only where nothing else waits. -/
def State.nextGrant (s : State) (k : Nat) : Option (DramReq × Nat × Nat) :=
  let here := s.mem.reqs.filter fun q => q.waitsAt k && !s.lapsed q
  let turn := sget (fun _ => (3, 0)) s.mem.turn k
  match here.find? fun q => q.cls == 0 with
  | some q => some (q, turn)
  | none =>
    match earliest (here.filter s.urgent) with
    | some q => some (q, turn)
    | none =>
      match (roundFrom s turn.1 turn.2).findSome? fun d =>
        if d.2 = 0 then none else (here.find? fun q => q.cls == d.1).map fun q => (q, d.1, d.2 - 1) with
      | some g => some g
      | none => here.head?.map fun q => (q, turn)

/-- The bytes that a stack moves in a tick at its refresh multiple (R360). -/
def stackBytes (multiple : Nat) : Nat := if multiple = 0 then 1536 else if multiple = 1 then 1472 else 1344

/-- The granules that stack `k` may grant in this tick. -/
def State.grantRoom (s : State) (k : Nat) : Nat :=
  let b := stackBytes (s.fld ⟨Reg.MEM_STATUS, 8 + 2 * k, 2⟩)
  let now := sget (fun _ => (0, 0)) s.mem.granted k
  (s.tick + 1) * b / 256 - s.tick * b / 256 - (if now.1 = s.tick then now.2 else 0)

/-- The flag of a delayed request by class (R365); C0 has none. -/
def raiseDelayed (c : Nat) (s : State) : State :=
  match c with
  | 1 => s.raise Fld.MEM_EVENT_C1_DELAYED
  | 2 => s.raise Fld.MEM_EVENT_C2_DELAYED
  | 3 => s.raise Fld.MEM_EVENT_C3_DELAYED
  | _ => s

/-- A request completes (R364, R365): the longest completion time of its class, a late C0 request, and a delayed one; a C1 request that is
urgent by now became so before it was served. -/
def dramDone (q : DramReq) (s : State) : State :=
  let ns := 2 * (s.tick - q.tick)
  let c := q.cls
  let s := if s.fld (Fld.MEM_CLS_MAXLAT_NS c) < ns then s.put (Fld.MEM_CLS_MAXLAT_NS c) (min ns (2 ^ 32 - 1)) else s
  let s := s.raiseIf (c == 0 && decide (1000 < ns)) Fld.MEM_EVENT_C0_LATE
  if decide (s.fld Fld.MEM_ARB2_DELAY_NS < ns) || s.urgent q then raiseDelayed c (s.count (Fld.MEM_CLS_COUNT_DELAYED c)) else s

/-- Stack `k` grants one granule: the request's last one completes it. -/
def dramGrant (k : Nat) (s : State) : State :=
  match s.nextGrant k with
  | some (q, turn) =>
    if s.bit Fld.MEM_STATUS_DRAM_READY && !s.bit Fld.MEM_STATUS_SELF_REFRESH && decide (0 < s.grantRoom k) then
      let now := sget (fun _ => (0, 0)) s.mem.granted k
      let q' := { q with left := q.left.set k (q.left.getD k 0 - 1), begun := true }
      let done := q'.left.all (· == 0)
      let reqs := if done then s.mem.reqs.erase q else s.mem.reqs.replace q q'
      let s := { s with mem := { s.mem with
        reqs := reqs, turn := sset (fun _ => (3, 0)) s.mem.turn k turn,
        granted := sset (fun _ => (0, 0)) s.mem.granted k (s.tick, if now.1 = s.tick then now.2 + 1 else 1) } }
      if done then dramDone q s else s
    else s
  | none => s

/-- Stacks grant granules one after another. -/
def dramGrants (ks : List (Fin 4)) (s : State) : State := forAll (fun k s => dramGrant k.val s) ks s

/-- The C1 request of an owner whose deadline passes before its first granule has been granted (R363). -/
def State.expired (s : State) (o : DramOwner) : Option DramReq :=
  s.mem.reqs.find? fun q => q.owner == o && s.lapsed q

end Sys2Proof.Machine
end

