-- ==== Sys2Proof/Machine/Trig.lean ====
section
/-! DEFINITION. Machine/Trig.lean: cosine, sine and sinc of rational turns as fixed-point numbers with 128 fractional bits, exact where
the value is a whole number; the rules that name these functions (R146, R148, R209, R212, R219, R221, R223) round them. Log entry 22. -/

namespace Sys2Proof.Machine

/-- The number 1 of the fixed-point values. -/
def fixOne : Int := 2 ^ 128

/-- The product of two fixed-point values. -/
def fixMul (a b : Int) : Int := a * b / fixOne

/-- Terms of the series of arctan(1/m): `pow` is 2^160 / m^k. -/
def arctanTerms (m : Nat) : Nat → Nat → Int → Int → Int
  | 0, _, _, acc => acc
  | n + 1, k, pow, acc =>
    arctanTerms m n (k + 2) (pow / (m * m : Nat)) (if k % 4 = 1 then acc + pow / (k : Int) else acc - pow / (k : Int))

/-- π as a fixed-point value, by 16·arctan(1/5) - 4·arctan(1/239). -/
def fixPi : Int :=
  (16 * arctanTerms 5 80 1 (2 ^ 160 / 5) 0 - 4 * arctanTerms 239 80 1 (2 ^ 160 / 239) 0) / 2 ^ 32

/-- Terms of the power series of cosine (`k` = 0) and sine (`k` = 1) at an angle whose square is `sq`. -/
def powerTerms (sq : Int) : Nat → Nat → Int → Int → Int
  | 0, _, _, acc => acc
  | n + 1, k, term, acc => powerTerms sq n (k + 2) (-(fixMul term sq / ((k + 1) * (k + 2) : Nat))) (acc + term)

/-- Cosine and sine of an angle of at most an eighth of a turn, in radians. -/
def smallCos (x : Int) : Int := powerTerms (fixMul x x) 24 0 fixOne 0
def smallSin (x : Int) : Int := powerTerms (fixMul x x) 24 1 x 0

/-- `p / q` turns in radians. -/
def radians (p q : Nat) : Int := 2 * fixPi * p / (q : Int)

/-- Cosine of `p / q` turns, at most a quarter. -/
def quarterCos (p q : Nat) : Int :=
  if 8 * p ≤ q then smallCos (radians p q) else smallSin (radians (q - 4 * p) (4 * q))

/-- Cosine of `p / q` turns. -/
def cosTurns (p : Int) (q : Nat) : Int :=
  let r := (p % (q : Int)).toNat
  let r := min r (q - r)
  if 4 * r ≤ q then quarterCos r q else -(quarterCos (q - 2 * r) (2 * q))

/-- Sine of `p / q` turns. -/
def sinTurns (p : Int) (q : Nat) : Int := cosTurns (4 * p - q) (4 * q)

/-- The cosine and sine lookups of R146: 20 phase bits to 18-bit values S1.17, a value that lies between two of them to either one,
and +1.0 to the largest (log entry 22). -/
def cosLookup (x : Nat) : Int := satInt 18 (roundOpen (cosTurns x (2 ^ 20)) (2 ^ 111))
def sinLookup (x : Nat) : Int := satInt 18 (roundOpen (sinTurns x (2 ^ 20)) (2 ^ 111))

/-- 1 / sinc(f / 32,000 MHz) for the frequency of a tuning word (R148), in units of 2^-32, rounded to either neighbour (log entry 23).
With `f / 32,000 MHz` = FTW / 2^48 = `x`, it is πx / sin(πx). -/
def sincFactor (ftw : Nat) : Nat :=
  if ftw = 0 then 2 ^ 32
  else (roundOpen (fixPi * ftw / 2 ^ 48 * 2 ^ 32) (sinTurns ftw (2 ^ 49)).toNat).toNat

end Sys2Proof.Machine
end

