-- ==== Sys2Proof/Machine/Filters.lean ====
section
/-! DEFINITION. Machine/Filters.lean: the linear-phase filters whose responses the spec bounds and whose coefficients it leaves open
(R141, R212, R219). Each filter is the open coefficient list of Config where that list meets the bounds, and else a list that
meets them, so that the bounds hold whatever the open list is (log entries 21, 25). Coefficients are in units of 2^-30. -/

namespace Sys2Proof.Machine

/-- The number 1 of the coefficients. -/
def tapOne : Int := 2 ^ 30

/-! ### A list that meets the bounds: a windowed sinc -/

/-- The modified Bessel function of order 0, of an argument whose half has the square `sq`. -/
def besselTerms (sq : Int) : Nat → Nat → Int → Int → Int
  | 0, _, _, acc => acc
  | n + 1, k, term, acc => besselTerms sq n (k + 1) (fixMul term sq / (k * k : Nat)) (acc + term)

/-- Coefficient `i` of a sinc with cutoff `num / den` of the sample rate under a Kaiser window of `len` coefficients, the square of half
its β being `bq`, unscaled. -/
def sincTap (len num den bq i : Nat) : Int :=
  let m : Int := 2 * i - (len - 1)
  let w := besselTerms (bq * fixOne * ((len - 1 : Nat) ^ 2 - m ^ 2) / ((len - 1 : Nat) ^ 2)) 40 1 fixOne 0
  let v := if m = 0 then 2 * num * fixOne / (den : Int)
    else 2 * sinTurns (num * m) (2 * den) * fixOne / (fixPi * m)
  fixMul v w

/-- The windowed sinc, scaled so that its coefficients add up to `sum` exactly. -/
def sincTaps (len num den bq : Nat) (sum : Int) : List Int :=
  let raw := (List.range (len / 2)).map (sincTap len num den bq)
  if len % 2 = 0 then
    let half := raw.map fun v => v * (sum / 2) / raw.sum
    let half := half.dropLast ++ [half.getLastD 0 + (sum / 2 - half.sum)]
    half ++ half.reverse
  else
    let half := raw.map fun v => v * sum / (2 * raw.sum + sincTap len num den bq (len / 2))
    half ++ (sum - 2 * half.sum) :: half.reverse

/-! ### Bounds -/

/-- Coefficients of a linear phase with the gain `sum` at 0 Hz. -/
def linearPhase (taps : List Int) (sum : Int) : Bool := taps.reverse == taps && taps.sum == sum

/-- The response of a linear-phase filter at `f` of a sample rate `fs`, in units of 2^-30 with 64 more fractional bits. -/
def response (taps : List Int) (f fs : Nat) : Int :=
  (taps.zipIdx.map fun p => p.1 * (cosTurns ((f : Int) * (2 * (p.2 : Int) - (taps.length - 1 : Nat))) (2 * fs) / 2 ^ 64)).sum

/-- The whole steps of frequency (MHz, unless stated) from `lo` to `hi`. -/
def wholeMHz (lo hi : Nat) : List Nat := (List.range (hi + 1 - lo)).map (· + lo)

/-- `a` lies within `n / d` of the magnitude of `b`. -/
def atMost (a b : Int) (n d : Nat) : Bool := decide (a.natAbs * d ≤ b.natAbs * n)

/-- The pass band up to `pass` is flat within ± `ripple` / 10^6 and the band from `stop` on at most `floor` / 10^8, at every whole step (the bounds
are those of the rule, rounded inward). -/
def meetsBand (resp : Nat → Int) (one : Int) (pass ripple stop top floor : Nat) : Bool :=
  ((wholeMHz 0 pass).all fun f => atMost (resp f - one) one ripple (10 ^ 6)) &&
  ((wholeMHz stop top).all fun f => atMost (resp f) one floor (10 ^ 8))

/-! ### The interpolator (R141) -/

/-- Rates in MHz at the output of each stage, and its interpolation factor. -/
def interpRate (k : Nat) : Nat := [4000, 8000, 32000].getD k 0
def interpFactor (k : Nat) : Nat := [2, 2, 4].getD k 1

/-- Three stages meet R141: linear phase, unit gain at 0 Hz, ±0.02 dB up to 800 MHz and 85 dB from 1,200 MHz on. -/
def interpMeets (t : Nat → List Int) : Bool :=
  ((List.range 3).all fun k => linearPhase (t k) (interpFactor k * tapOne)) &&
  meetsBand (fun f => response (t 0) f 4000 * response (t 1) f 8000 * response (t 2) f 32000)
    (16 * tapOne ^ 3 * 2 ^ 192) 800 2299 1200 16000 5623

/-- A cascade that meets R141. -/
def interpDesign (k : Nat) : List Int :=
  match k with
  | 0 => sincTaps 63 1000 4000 20 (2 * tapOne)
  | 1 => sincTaps 25 2000 8000 20 (2 * tapOne)
  | _ => sincTaps 33 4000 32000 20 (4 * tapOne)

/-- The coefficients of a stage of the interpolator. -/
def interpTaps (k : Nat) : List Int := if interpMeets Config.interpTaps then Config.interpTaps k else interpDesign k

/-- A list with `n` - 1 zeros after each entry. -/
def spread (n : Nat) (a : List Int) : List Int := a.flatMap fun v => v :: List.replicate (n - 1) 0

/-- Sum of two lists of coefficients, the shorter taken as ending in zeros. -/
def addLists : List Int → List Int → List Int
  | [], b => b
  | a, [] => a
  | x :: a, y :: b => (x + y) :: addLists a b

/-- Convolution. -/
def convolve : List Int → List Int → List Int
  | [], _ => []
  | x :: a, b => addLists (b.map (x * ·)) (0 :: convolve a b)

/-- The whole ×16 interpolator's response to one envelope sample, at 32 GS/s and in units of 2^-90. -/
def interpKernel : List Int := convolve (convolve (spread 8 (interpTaps 0)) (spread 4 (interpTaps 1))) (interpTaps 2)

/-! ### Receive filters (R212, R219) -/

/-- The response of FILTER (R212): WIDE meets its row of the table. NARROW meets its row's pass band, and its stop band's 80 dB from 110 MHz on: no
linear-phase filter that spans 1,024 samples has both that pass band and the stop band of its row from 45 MHz on (log entry 25). -/
def channelMeets (filter : Nat) (t : List Int) : Bool :=
  t.length == 1024 && linearPhase t tapOne &&
  if filter = 0 then meetsBand (fun f => response t f 16000) (tapOne * 2 ^ 64) 80 5739 170 8000 10000
  else meetsBand (fun f => response t f 16000) (tapOne * 2 ^ 64) 20 5739 110 8000 10000

/-- The coefficients of a channel filter. -/
def channelTaps (filter : Nat) : List Int :=
  let t := Config.channelTaps filter
  if channelMeets filter t then t
  else if filter = 0 then sincTaps 1024 125 16000 18 tapOne else sincTaps 1024 65 16000 18 tapOne

/-- The span of the band decimator in ADC samples (DESIGN CHOICE, log entry 25). -/
def bandSpan : Nat := 256

/-- The coefficients of the band decimator (R219). -/
def bandTaps : List Int :=
  let t := Config.bandTaps
  if t.length = bandSpan ∧ linearPhase t tapOne = true ∧
     meetsBand (fun f => response t f 16000) (tapOne * 2 ^ 64) 800 5739 1200 8000 10000 = true then t
  else sincTaps bandSpan 1000 16000 18 tapOne

/-- The prototype of the filter bank (R219): it spans 16 bin samples, with linear phase and unit gain at a bin's centre. In steps of 19,531.25 Hz
it is flat up to step 20, the rule's 390,625 Hz, and at least 60 dB down from step 50 on, the next bin's centre: no linear-phase filter of
this span is both so flat and 60 dB down from the rule's 585,937.5 Hz on (log entry 25). -/
def binTaps : List Int :=
  let t := Config.binTaps
  if t.length = 16384 ∧ linearPhase t tapOne = true ∧
     meetsBand (fun f => response t f 102400) (tapOne * 2 ^ 64) 20 11446 50 51200 100000 = true then t
  else sincTaps 16384 7 20480 10 tapOne

/-- The coefficients of the tone decimator by `d` (R219): it spans 4·`d` bin samples, with linear phase and unit gain (log entry 25). -/
def toneTaps (d : Nat) : List Int :=
  let t := Config.toneTaps d
  if t.length = 4 * d ∧ linearPhase t tapOne = true then t else sincTaps (4 * d) 1 (2 * d) 3 tapOne

end Sys2Proof.Machine
end

