-- ==== Sys2Proof/Machine/WriteOps.lean ====
section
/-! DEFINITION. Machine/WriteOps.lean: what a write of a register does by the access types of its fields (R6 to R9), its
refusals (R7, R425, R544), the write-refused indication (R386) and the taint of a configuration (R424). -/

namespace Sys2Proof.Machine

/-- The code of a register path in HIF_WR_REF.SRC. -/
def pathSrc : Path → Nat
  | .bar0 => 0
  | .smbus => 4
  | .tap => 5
  | .remote => 6

/-- A number for each path, to key the holding copies of R10. -/
def pathIdx : Path → Nat
  | .bar0 => 0
  | .smbus => 1
  | .tap => 2
  | .remote => 3

/-- The access is answered on its bus. -/
def State.answer (s : State) (st : RespStatus) (v : Word := 0) : State := { s with resp := { status := st, value := v } }

/-- The write-refused indication (R386), with the path's SRC code, the queue and the offset it may record; an initiator of another device
is answered REFUSED (R316). -/
def wrRefused (src queue addr : Nat) (s : State) : State :=
  let s := if src = 6 then s.answer .refused else s
  let s := (s.raise Fld.HIF_EVENT_WR_REFUSED).count Fld.HIF_WR_REF_COUNT
  if s.bit Fld.HIF_WR_REF_VALID then s
  else (((s.put Fld.HIF_WR_REF_SRC src).put Fld.HIF_WR_REF_QUEUE queue).wr64 Reg.HIF_WR_REF_ADDR_LO addr).raise
    Fld.HIF_WR_REF_VALID

/-- The register row of an offset, if a chapter assigns one (R4). HI of an RF monitor's SUP_MON_THR is read-only (R454). -/
def regDesc (off : Nat) : Option RegDesc :=
  ((rowsAt off).find? fun r => decide (r.base ≤ off) && inDims (off - r.base) r.dims).map fun r =>
    if (elem off (Reg.SUP_MON_THR 0) 0x10 48).isSome then { r with ro := 0x3FF0000, rwl := 0x3FF } else r

/-- RWL fields are locked in M4, M5 and M6 (R7). -/
def State.rwlLocked (s : State) : Bool := decide (4 ≤ s.mode) && decide (s.mode ≤ 6)

/-- Offsets whose writes a running check lets through (R425): the SEC block, HIF_Q_TAIL, HIF_Q_LIMIT, HIF_BAR4_WIN and
GLB_MODE_CTL. -/
def checkExempt (off : Nat) : Bool :=
  (decide (0x20000 ≤ off) && decide (off < 0x30000)) || off == Reg.HIF_BAR4_WIN || off == Reg.GLB_MODE_CTL ||
  (decide (0x11000 ≤ off) && decide (off < 0x12000) && (off % 0x40 == 0x14 || off % 0x40 == 0x28))

/-- Whether a running check discards a write to this offset (R425). -/
def State.checkBlocks (s : State) (off : Nat) : Bool := s.glb.checkOn && !checkExempt off

/-- A write changed a value that the signature of the loaded image covers (R424). -/
def taint (s : State) : State :=
  if s.sec.loaded then (s.put Fld.SEC_STATUS_TAINT 1).raise ⟨Reg.SEC_EVENT, 6, 1⟩ else s

/-- The value a register holds after a write of `v`, by the access types of its fields (R6): `rwl` are the RWL bits that the
write may change, `keepSet` the W1C bits hardware set in this tick (R8). -/
def writtenValue (d : RegDesc) (rwl keepSet old v : Word) : Word :=
  let m := d.rw ||| rwl
  let a := (old &&& ~~~m) ||| (v &&& m)
  let b := a &&& ~~~(v &&& d.w1c &&& ~~~keepSet)
  b ||| (v &&& d.w1s)

/-- Bits that read 1 whatever is written: EN and LIMIT_EN of the on-die sensors 0 to 15 (R474, text above the sensor registers). -/
def fixedOnes (off : Nat) : Word := if (elem off (Reg.SUP_TS_CFG 0) 0x20 16).isSome then 0x81 else 0

/-- The W1S bits that a write has written 1, and those of them that were 0, are noted for the present tick. -/
def noteSet (off : Nat) (ones fresh : Word) (s : State) : State :=
  if ones = 0 then s
  else { s with wrOne := sset (fun _ => 0) s.wrOne off (sget (fun _ => 0) s.wrOne off ||| ones)
                wrSet := sset (fun _ => 0) s.wrSet off (sget (fun _ => 0) s.wrSet off ||| fresh) }

/-- A write of one register by access types, no other rule in the way (R6, R7). -/
def writeFields (src off : Nat) (d : RegDesc) (v : Word) (s : State) : State :=
  let old := s.rd off
  let lock := s.rwlLocked
  let rwl := if lock then 0 else d.rwl
  let new := writtenValue d rwl (sget (fun _ => 0) s.evSet off) old v ||| fixedOnes off
  let differs := (old ^^^ v) &&& d.rwl != 0
  let s := noteSet off (v &&& d.w1s) (v &&& ~~~old &&& d.w1s) (s.wr off new)
  if differs then (if lock then wrRefused src 0 off s else taint s) else s

/-- A write during a check acts on W1C and W1S fields only; the rest is discarded, with the indication when the register has
no such field, or when the discarded part would have changed a value or performed an action (R425, R544). -/
def writeInCheck (src off : Nat) (d : RegDesc) (v : Word) (s : State) : State :=
  let old := s.rd off
  let new := writtenValue { d with rw := 0 } 0 (sget (fun _ => 0) s.evSet off) old v
  let s := noteSet off (v &&& d.w1s) (v &&& ~~~old &&& d.w1s) (s.wr off new)
  if d.w1c ||| d.w1s == 0 || ((old ^^^ v) &&& (d.rw ||| d.rwl)) ||| (v &&& d.wo) != 0 then wrRefused src 0 off s else s

/-- The debug level grants CONTROL (R436). -/
def State.debugControl (s : State) : Bool := decide (2 ≤ s.fld Fld.SEC_STATUS_LEVEL)

/-- An offset of the SEC block. -/
def inSec (off : Nat) : Bool := decide (0x20000 ≤ off) && decide (off < 0x30000)

/-- The SEC registers that an authenticated command uses (R433, R434, R436): SEC_CMD and its status, the challenge and the buffer. -/
def secAuth (off : Nat) : Bool :=
  off == Reg.SEC_CMD || off == Reg.SEC_CMD_STATUS || (elem off (Reg.SEC_CHAL 0) 4 12).isSome || (elem off (Reg.SEC_BUF 0) 4 64).isSome

/-- Whether a path may write an offset (R403, R436, R316), which none may while PORST_N holds the block in reset (R513); a write of
GLB_MODE_CTL over SMBus is judged by its REQ. -/
def State.mayWrite (s : State) (p : Path) (off : Nat) : Bool :=
  s.glb.released && match p with
  | .bar0 => true
  | .smbus => off == Reg.HIF_SMB_MBOX_IN
  | .tap => s.debugControl || secAuth off
  | .remote => s.bit Fld.CSC_CFG_RRA_EN && !inSec off

/-- A path refuses an access; it never reaches its register (R403, R316, R530). A block that PORST_N holds in reset does not answer (R513). -/
def pathRefused (p : Path) (s : State) : State :=
  if !s.glb.released then s.answer .none
  else
  let s := s.answer .refused
  match p with
  | .smbus => s.raise Fld.HIF_EVENT_SMB_REFUSED
  | _ => s

/-- A write of a register that no row of the table treats apart (R4, R6). -/
def plainWrite (p : Path) (off : Nat) (v : Word) (s : State) : State :=
  if !s.mayWrite p off then pathRefused p s
  else
    let s := s.answer .ok
    match regDesc off with
    | none => if s.checkBlocks off then wrRefused (pathSrc p) 0 off s else s
    | some d => if s.checkBlocks off then writeInCheck (pathSrc p) off d v s else writeFields (pathSrc p) off d v s

/-- A write whose action `act` has a row of its own: a running check discards it with the indication (R425). -/
def gated (p : Path) (off : Nat) (act : State → State) (s : State) : State :=
  if !s.mayWrite p off then pathRefused p s
  else
    let s := s.answer .ok
    if s.checkBlocks off then wrRefused (pathSrc p) 0 off s else act s

end Sys2Proof.Machine
end

