-- ==== Sys2Proof/Machine/Permits.lean ====
section
/-! DEFINITION. Machine/Permits.lean: when the permit waves of the supervisor run (R443, R450, R461, R438). -/

namespace Sys2Proof.Machine

/-- The permit waves run: no trip or reset holds them back, no monitor is still to qualify, the interlock is not asserted, and no FULL
debug level forces the outputs inert. -/
def State.permitted (s : State) : Bool :=
  s.sup.permits && s.bit Fld.SUP_STATUS_QUALIFIED && s.bit Fld.SUP_STATUS_ILK && !s.bit Fld.SEC_STATUS_INERT_FORCED

/-- Marker and trigger outputs are low at their balls. -/
def lowLevels (s : State) : State :=
  let s := (s.wr Reg.SYN_MRK_LEVEL 0).wr Reg.SYN_TRG_LEVEL 0
  { s with syn := { s.syn with outs := [] } }

/-- An effect on the permit waves: where it stops them, each bias port's own engine holds its SAFE_SLEW (R450), markers and triggers go low
and every other output carries zero (R443; State.ballCodes). -/
def permitting (f : State → State) (s : State) : State :=
  let s' := f s
  if s.permitted && !s'.permitted then
    let slews := (List.range 64).filterMap fun b =>
      let c := s.fld (Fld.SYN_BIA_SAFE_SLEW_CODE b)
      if c = 0 then none else some (b, c)
    lowLevels { s' with sup := { s'.sup with slews := slews } }
  else s'

/-- Some bias port still ramps on its own engine (R450). -/
def State.ramping (s : State) : Bool := !s.permitted && (List.range 64).any fun b => s.fld (Fld.SYN_BIA_NOW_CODE b) != 0

/-- Some bias source is not at zero (R170). -/
def State.biasOn (s : State) : Bool := (List.range 64).any fun b => s.fld (Fld.SYN_BIA_NOW_CODE b) != 0

/-- One step of a code toward a target by at most `slew`. -/
def stepToward (now target slew : Int) : Int :=
  if now ≤ target then min target (now + slew) else max target (now - slew)

/-- One step of a bias port's own ramp engine (R450). -/
def safeRampStep (b : Nat) (s : State) : State :=
  if s.permitted then s
  else
    let slew := sget (fun _ => 0) s.sup.slews b
    s.put (Fld.SYN_BIA_NOW_CODE b) (twos 20 (stepToward (sgn 20 (s.fld (Fld.SYN_BIA_NOW_CODE b))) 0 slew))

end Sys2Proof.Machine
end

