-- ==== Sys2Proof/Machine/Micro.lean ====
section
/-! DEFINITION. Machine/Micro.lean: the control-store words of the spindles (R94 to R97, R540): their operands, their
encoding, and a decoder that accepts a word only when it is the encoding of what it reads, so that a non-zero reserved bit
or a reserved field encoding is refused. -/

namespace Sys2Proof.Machine

/-- The operand part of a control-store word (R95, R97), with the manual's field names in lower case. -/
inductive Micro where
  | nop
  | alu (d : BitVec 5) (a : BitVec 5) (b : BitVec 5) (fn : BitVec 4) (immEn : BitVec 1) (imm : BitVec 32)
  | ldlc (n : BitVec 3) (src : BitVec 1) (a : BitVec 5) (count : BitVec 16)
  | rddec (d : BitVec 5) (ch : BitVec 8)
  | rdsin (d : BitVec 5)
  | ncop (kind : BitVec 2) (ch : BitVec 8) (setf : BitVec 1) (setp : BitVec 1) (addp : BitVec 1) (src : BitVec 1) (a : BitVec 5) (b : BitVec 5) (ftw : BitVec 48) (ph : BitVec 16)
  | settb (mode : BitVec 2) (a : BitVec 5) (imm : BitVec 64)
  | jmp (tgt : BitVec 13)
  | brs (sin : BitVec 4) (pol : BitVec 1) (tgt : BitVec 13)
  | loop (n : BitVec 3) (tgt : BitVec 13)
  | waitt (src : BitVec 1) (a : BitVec 5) (ticks : BitVec 24)
  | waitr (mode : BitVec 2) (a : BitVec 5) (t : BitVec 64)
  | wts (mask : BitVec 16) (sel : BitVec 4) (clr : BitVec 1) (tgtSel : BitVec 13) (tgtTo : BitVec 13) (timeout : BitVec 24)
  | pls (kind : BitVec 2) (ch : BitVec 8) (seg : BitVec 16) (amp : BitVec 16) (ampsrc : BitVec 1) (a : BitVec 5) (auto : BitVec 1) (dly : BitVec 6)
  | jreq (kind : BitVec 2) (ch : BitVec 8) (seg : BitVec 16)
  | bias (port : BitVec 6) (src : BitVec 1) (a : BitVec 5) (code : BitVec 20)
  | mrk (n : BitVec 4) (act : BitVec 2) (auto : BitVec 1) (dly : BitVec 6) (width : BitVec 16)
  | trgo (n : BitVec 5) (act : BitVec 2) (width : BitVec 16)
  | rwin (ch : BitVec 8) (kset : BitVec 1) (es : BitVec 1) (len : BitVec 12)
  | stro (out : BitVec 3)
  | stg (a : BitVec 5) (m : BitVec 4)
  | irq (code : BitVec 8)
  | clrs (mask : BitVec 16)
  | commit
  | endw (nxt : BitVec 2) (tgt : BitVec 13)
  deriving DecidableEq, Repr

/-- A control-store word: condition code, entry mark and operands (R94). -/
structure MicroWord where
  cc : BitVec 4
  ent : BitVec 1
  op : Micro
  deriving DecidableEq, Repr

/-- The opcode of a word (R95). -/
def Micro.opcode : Micro → Nat
  | .nop => 0x00
  | .alu _ _ _ _ _ _ => 0x01
  | .ldlc _ _ _ _ => 0x02
  | .rddec _ _ => 0x03
  | .rdsin _ => 0x04
  | .ncop _ _ _ _ _ _ _ _ _ _ => 0x05
  | .settb _ _ _ => 0x06
  | .jmp _ => 0x08
  | .brs _ _ _ => 0x09
  | .loop _ _ => 0x0A
  | .waitt _ _ _ => 0x0C
  | .waitr _ _ _ => 0x0D
  | .wts _ _ _ _ _ _ => 0x0E
  | .pls _ _ _ _ _ _ _ _ => 0x10
  | .jreq _ _ _ => 0x11
  | .bias _ _ _ _ => 0x12
  | .mrk _ _ _ _ _ => 0x13
  | .trgo _ _ _ => 0x14
  | .rwin _ _ _ _ => 0x15
  | .stro _ => 0x16
  | .stg _ _ => 0x17
  | .irq _ => 0x18
  | .clrs _ => 0x19
  | .commit => 0x3C
  | .endw _ _ => 0x3D

/-- Bits [111:0] of a word (R97). -/
def Micro.operands : Micro → Nat
  | .nop => 0
  | .alu d a b fn immEn imm => d.toNat * 2 ^ 107 + a.toNat * 2 ^ 102 + b.toNat * 2 ^ 97 + fn.toNat * 2 ^ 93 + immEn.toNat * 2 ^ 92 + imm.toNat
  | .ldlc n src a count => n.toNat * 2 ^ 109 + src.toNat * 2 ^ 108 + a.toNat * 2 ^ 102 + count.toNat
  | .rddec d ch => d.toNat * 2 ^ 107 + ch.toNat * 2 ^ 96
  | .rdsin d => d.toNat * 2 ^ 107
  | .ncop kind ch setf setp addp src a b ftw ph => kind.toNat * 2 ^ 110 + ch.toNat * 2 ^ 102 + setf.toNat * 2 ^ 101 + setp.toNat * 2 ^ 100 + addp.toNat * 2 ^ 99 + src.toNat * 2 ^ 98 + a.toNat * 2 ^ 93 + b.toNat * 2 ^ 88 + ftw.toNat * 2 ^ 16 + ph.toNat
  | .settb mode a imm => mode.toNat * 2 ^ 110 + a.toNat * 2 ^ 102 + imm.toNat
  | .jmp tgt => tgt.toNat
  | .brs sin pol tgt => sin.toNat * 2 ^ 108 + pol.toNat * 2 ^ 107 + tgt.toNat
  | .loop n tgt => n.toNat * 2 ^ 109 + tgt.toNat
  | .waitt src a ticks => src.toNat * 2 ^ 111 + a.toNat * 2 ^ 102 + ticks.toNat
  | .waitr mode a t => mode.toNat * 2 ^ 110 + a.toNat * 2 ^ 102 + t.toNat
  | .wts mask sel clr tgtSel tgtTo timeout => mask.toNat * 2 ^ 96 + sel.toNat * 2 ^ 92 + clr.toNat * 2 ^ 91 + tgtSel.toNat * 2 ^ 64 + tgtTo.toNat * 2 ^ 48 + timeout.toNat
  | .pls kind ch seg amp ampsrc a auto dly => kind.toNat * 2 ^ 110 + ch.toNat * 2 ^ 102 + seg.toNat * 2 ^ 86 + amp.toNat * 2 ^ 70 + ampsrc.toNat * 2 ^ 69 + a.toNat * 2 ^ 64 + auto.toNat * 2 ^ 63 + dly.toNat * 2 ^ 56
  | .jreq kind ch seg => kind.toNat * 2 ^ 110 + ch.toNat * 2 ^ 102 + seg.toNat * 2 ^ 86
  | .bias port src a code => port.toNat * 2 ^ 106 + src.toNat * 2 ^ 105 + a.toNat * 2 ^ 100 + code.toNat
  | .mrk n act auto dly width => n.toNat * 2 ^ 108 + act.toNat * 2 ^ 106 + auto.toNat * 2 ^ 105 + dly.toNat * 2 ^ 96 + width.toNat
  | .trgo n act width => n.toNat * 2 ^ 107 + act.toNat * 2 ^ 105 + width.toNat
  | .rwin ch kset es len => ch.toNat * 2 ^ 104 + kset.toNat * 2 ^ 103 + es.toNat * 2 ^ 102 + len.toNat
  | .stro out => out.toNat * 2 ^ 109
  | .stg a m => a.toNat * 2 ^ 107 + m.toNat * 2 ^ 100
  | .irq code => code.toNat * 2 ^ 104
  | .clrs mask => mask.toNat * 2 ^ 96
  | .commit => 0
  | .endw nxt tgt => nxt.toNat * 2 ^ 110 + tgt.toNat

/-- The 128-bit word of a header and operands (R94). -/
def MicroWord.encode (m : MicroWord) : Nat :=
  m.op.opcode * 2 ^ 122 + m.cc.toNat * 2 ^ 118 + m.ent.toNat * 2 ^ 117 + m.op.operands

/-- The operands that a word's opcode and bits [111:0] give, reserved bits not yet looked at; none for a reserved opcode. -/
def Micro.raw (opc x : Nat) : Option Micro :=
  match opc with
  | 0x00 => some (.nop)
  | 0x01 => some (.alu (BitVec.ofNat 5 (x / 2 ^ 107)) (BitVec.ofNat 5 (x / 2 ^ 102)) (BitVec.ofNat 5 (x / 2 ^ 97)) (BitVec.ofNat 4 (x / 2 ^ 93)) (BitVec.ofNat 1 (x / 2 ^ 92)) (BitVec.ofNat 32 x))
  | 0x02 => some (.ldlc (BitVec.ofNat 3 (x / 2 ^ 109)) (BitVec.ofNat 1 (x / 2 ^ 108)) (BitVec.ofNat 5 (x / 2 ^ 102)) (BitVec.ofNat 16 x))
  | 0x03 => some (.rddec (BitVec.ofNat 5 (x / 2 ^ 107)) (BitVec.ofNat 8 (x / 2 ^ 96)))
  | 0x04 => some (.rdsin (BitVec.ofNat 5 (x / 2 ^ 107)))
  | 0x05 => some (.ncop (BitVec.ofNat 2 (x / 2 ^ 110)) (BitVec.ofNat 8 (x / 2 ^ 102)) (BitVec.ofNat 1 (x / 2 ^ 101)) (BitVec.ofNat 1 (x / 2 ^ 100)) (BitVec.ofNat 1 (x / 2 ^ 99)) (BitVec.ofNat 1 (x / 2 ^ 98)) (BitVec.ofNat 5 (x / 2 ^ 93)) (BitVec.ofNat 5 (x / 2 ^ 88)) (BitVec.ofNat 48 (x / 2 ^ 16)) (BitVec.ofNat 16 x))
  | 0x06 => some (.settb (BitVec.ofNat 2 (x / 2 ^ 110)) (BitVec.ofNat 5 (x / 2 ^ 102)) (BitVec.ofNat 64 x))
  | 0x08 => some (.jmp (BitVec.ofNat 13 x))
  | 0x09 => some (.brs (BitVec.ofNat 4 (x / 2 ^ 108)) (BitVec.ofNat 1 (x / 2 ^ 107)) (BitVec.ofNat 13 x))
  | 0x0A => some (.loop (BitVec.ofNat 3 (x / 2 ^ 109)) (BitVec.ofNat 13 x))
  | 0x0C => some (.waitt (BitVec.ofNat 1 (x / 2 ^ 111)) (BitVec.ofNat 5 (x / 2 ^ 102)) (BitVec.ofNat 24 x))
  | 0x0D => some (.waitr (BitVec.ofNat 2 (x / 2 ^ 110)) (BitVec.ofNat 5 (x / 2 ^ 102)) (BitVec.ofNat 64 x))
  | 0x0E => some (.wts (BitVec.ofNat 16 (x / 2 ^ 96)) (BitVec.ofNat 4 (x / 2 ^ 92)) (BitVec.ofNat 1 (x / 2 ^ 91)) (BitVec.ofNat 13 (x / 2 ^ 64)) (BitVec.ofNat 13 (x / 2 ^ 48)) (BitVec.ofNat 24 x))
  | 0x10 => some (.pls (BitVec.ofNat 2 (x / 2 ^ 110)) (BitVec.ofNat 8 (x / 2 ^ 102)) (BitVec.ofNat 16 (x / 2 ^ 86)) (BitVec.ofNat 16 (x / 2 ^ 70)) (BitVec.ofNat 1 (x / 2 ^ 69)) (BitVec.ofNat 5 (x / 2 ^ 64)) (BitVec.ofNat 1 (x / 2 ^ 63)) (BitVec.ofNat 6 (x / 2 ^ 56)))
  | 0x11 => some (.jreq (BitVec.ofNat 2 (x / 2 ^ 110)) (BitVec.ofNat 8 (x / 2 ^ 102)) (BitVec.ofNat 16 (x / 2 ^ 86)))
  | 0x12 => some (.bias (BitVec.ofNat 6 (x / 2 ^ 106)) (BitVec.ofNat 1 (x / 2 ^ 105)) (BitVec.ofNat 5 (x / 2 ^ 100)) (BitVec.ofNat 20 x))
  | 0x13 => some (.mrk (BitVec.ofNat 4 (x / 2 ^ 108)) (BitVec.ofNat 2 (x / 2 ^ 106)) (BitVec.ofNat 1 (x / 2 ^ 105)) (BitVec.ofNat 6 (x / 2 ^ 96)) (BitVec.ofNat 16 x))
  | 0x14 => some (.trgo (BitVec.ofNat 5 (x / 2 ^ 107)) (BitVec.ofNat 2 (x / 2 ^ 105)) (BitVec.ofNat 16 x))
  | 0x15 => some (.rwin (BitVec.ofNat 8 (x / 2 ^ 104)) (BitVec.ofNat 1 (x / 2 ^ 103)) (BitVec.ofNat 1 (x / 2 ^ 102)) (BitVec.ofNat 12 x))
  | 0x16 => some (.stro (BitVec.ofNat 3 (x / 2 ^ 109)))
  | 0x17 => some (.stg (BitVec.ofNat 5 (x / 2 ^ 107)) (BitVec.ofNat 4 (x / 2 ^ 100)))
  | 0x18 => some (.irq (BitVec.ofNat 8 (x / 2 ^ 104)))
  | 0x19 => some (.clrs (BitVec.ofNat 16 (x / 2 ^ 96)))
  | 0x3C => some (.commit)
  | 0x3D => some (.endw (BitVec.ofNat 2 (x / 2 ^ 110)) (BitVec.ofNat 13 x))
  | _ => none

/-- Field encodings that R96 to R111 and R540 do not reserve. -/
def Micro.legal : Micro → Bool
  | .alu _ _ _ fn _ _ => fn.ult 0xB
  | .ncop kind _ _ _ _ _ _ _ _ _ => kind.ult 2
  | .settb mode _ _ => mode != 3
  | .waitr mode _ t => mode.ult 2 || t.toNat < 2 ^ 32
  | .pls kind ch _ _ _ _ _ _ => kind.ult 2 || (kind == 2 && ch.ult 128)
  | .jreq kind ch _ => kind.ult 2 || (kind == 2 && ch.ult 128)
  | .mrk _ act _ _ _ => act != 3
  | .trgo _ act _ => act != 3
  | _ => true

/-- Field encodings of a whole word that no rule reserves (R96 for CC). -/
def MicroWord.legal (m : MicroWord) : Bool := m.cc.ult 0xB && m.op.legal

/-- The word that 128 bits spell; none for a reserved opcode, a reserved field encoding or a non-zero reserved bit (R95). -/
def decodeMicro (w : Nat) : Option MicroWord :=
  match Micro.raw (w / 2 ^ 122) w with
  | some op =>
    let m : MicroWord := ⟨BitVec.ofNat 4 (w / 2 ^ 118), BitVec.ofNat 1 (w / 2 ^ 117), op⟩
    if m.encode = w ∧ m.legal then some m else none
  | none => none

/-- The output words (R95). -/
def Micro.isOutput : Micro → Bool
  | .pls .. | .jreq .. | .bias .. | .mrk .. | .trgo .. | .rwin .. | .stro .. | .stg .. | .irq .. | .clrs .. => true
  | _ => false

/-- Words that an uncommitted routine may not execute: output words and a WTS with CLR = 1 (R117). -/
def Micro.needsCommit : Micro → Bool
  | .wts _ _ clr _ _ _ => clr == 1
  | m => m.isOutput

end Sys2Proof.Machine
end

