-- ==== Sys2Proof/Machine/Operands.lean ====
section
/-! DEFINITION. Machine/Operands.lean: what the operands of control-store words name (spec/03): general registers and pairs, TB and CA,
latches, the committed state, the condition of a word, and the words of a control store. -/

namespace Sys2Proof.Machine

/-- What a spindle holds beside its registers. -/
def State.spindle (s : State) (n : Nat) : Spn := sget (fun _ => {}) s.spn n

/-- Store what a spindle holds beside its registers. -/
def State.setSpindle (s : State) (n : Nat) (x : Spn) : State := { s with spn := sset (fun _ => {}) s.spn n x }

/-- A general register; g0 reads 0 (R91). -/
def State.g (s : State) (n i : Nat) : Word := if i = 0 then 0 else s.rd (Reg.SPN_G n i)

/-- Write a general register; a write to g0 is discarded (R91). -/
def State.setG (s : State) (n i : Nat) (v : Word) : State := if i = 0 then s else s.wr (Reg.SPN_G n i) v

/-- The pair (g[A+1], gA), the index taken modulo 32 (R535). -/
def State.gPair (s : State) (n a : Nat) : Nat := (s.g n a).toNat + 2 ^ 32 * (s.g n ((a + 1) % 32)).toNat

/-- TB, integer reel ns. -/
def State.tb (s : State) (n : Nat) : Nat := s.rd64 (Reg.SPN_TB_LO n)

/-- CA, integer reel ns. -/
def State.ca (s : State) (n : Nat) : Nat := s.rd64 (Reg.SPN_CA_LO n)

/-- The routine of a spindle is committed. -/
def State.committed (s : State) (n : Nat) : Bool := s.bit (Fld.SPN_STATUS_COMMITTED n)

/-- Latch SIN[i]. -/
def State.latch (s : State) (n i : Nat) : Bool := bitOf (s.rd (Reg.SPN_SIN n)).toNat i

/-- The word at address `a` of a spindle's control store (text after R91). -/
def State.storeWord (s : State) (n a : Nat) : Nat := s.sramNat (n * 0x20000 + 16 * a) 16

/-- The condition of a word (R96). -/
def State.condition (s : State) (n : Nat) (cc : BitVec 4) : Bool :=
  let x := s.spindle n
  match cc.toNat with
  | 0 => true
  | 1 => x.z
  | 2 => !x.z
  | 3 => x.n
  | 4 => !x.n
  | 5 => x.c
  | 6 => !x.c
  | 7 => !x.z && !x.n
  | 8 => x.z || x.n
  | 9 => s.committed n
  | 10 => !s.committed n
  | _ => false

end Sys2Proof.Machine
end

