-- ==== Sys2Proof/Machine/ReelOps.lean ====
section
/-! DEFINITION. Machine/ReelOps.lean: the reel and its servo (spec/02): states, start and stop, measurements, refusals,
holdover and lock, as operations that several commands share. The reel is held in units of 2^-32 ns, offsets in 2^-8 ns. -/

namespace Sys2Proof.Machine

/-- Ticks since the last SYNC. -/
def State.sinceSync (s : State) : Nat := ((s.tick : Int) - s.glb.syncTick).toNat

/-- The reel state (R55): 0 STOPPED, 1 ACQUIRING, 2 LOCKED, 3 HOLDOVER. -/
def State.reelState (s : State) : Nat := s.fld Fld.TLN_STATUS_STATE

/-- REEL_LOCK (R55). -/
def State.reelLock (s : State) : Bool := s.reelState == 2

/-- PLL_LOCK. -/
def State.pllLock (s : State) : Bool := s.bit Fld.GLB_CLK_STATUS_PLL_LOCK

/-- VALID (R55, R25). -/
def State.reelValid (s : State) : Bool := (s.reelState == 2 || s.reelState == 3) && s.pllLock

/-- The reel advances: in every state but STOPPED. -/
def State.reelRuns (s : State) : Bool := s.reelState != 0

/-- The reel's integer nanoseconds, as records and registers carry them. -/
def State.reelNs (s : State) : Nat := s.tln.reel / 2 ^ 32 % 2 ^ 64

/-- The integer nanoseconds a record stores: 0 while the reel does not run. -/
def State.stampNs (s : State) : Nat := if s.reelRuns then s.reelNs else 0

/-- ADJ (R52), in units of 2^-32 ns per tick. -/
def State.adj (s : State) : Int := sgn 24 (s.fld Fld.TLN_ADJ_ADJ)

/-- The holdover mean of ADJ (R76). -/
def State.holdAdj (s : State) : Int := sgn 24 (s.fld Fld.TLN_HOLD_ADJ_ADJ)

/-- The bound of ADJ (R53): TLN_SLEW_MAX, never above 500 ppm of 2 ns. -/
def State.slewMax (s : State) : Int := (min (s.fld Fld.TLN_SLEW_MAX_MAX) 4294967 : Nat)

/-- Store ADJ, kept within its bound (R53), with its sign copies. -/
def State.setAdj (s : State) (a : Int) : State :=
  s.wr Reg.TLN_ADJ (BitVec.ofNat 32 (twos 32 (clampInt (-s.slewMax) s.slewMax a)))

/-- The reel value at the next tick: the nominal 2 ns plus ADJ (R52). -/
def reelNext (reel : Nat) (adj : Int) : Nat := (((reel : Int) + 2 ^ 33 + adj) % 2 ^ 96).toNat

/-- The reel value at the start of the next tick. -/
def State.reelAfter (s : State) : Nat := if s.reelRuns then reelNext s.tln.reel s.adj else s.tln.reel

/-- A time of integer nanoseconds falls in the present tick (R54). -/
def State.inTick (s : State) (ns : Nat) : Bool :=
  s.reelRuns && decide (s.tln.reel ≤ ns * 2 ^ 32) && decide (ns * 2 ^ 32 < s.reelAfter)

/-- The sub-tick position of a time (2^-32 ns) within the tick that R54 names, in units of 31.25 ps: within the present tick,
or within the tick of the past that the reel's runs of one increment give; before the reel's start no tick is named and the
position is 0. -/
def State.subTick (s : State) (t : Nat) : Nat :=
  if s.tln.reel ≤ t then min 63 ((t - s.tln.reel) * 32 / 2 ^ 32)
  else match s.tln.segs.find? fun g => decide (g.1 ≤ t) with
    | some (v, inc) => min 63 ((t - v) % inc.toNat * 32 / 2 ^ 32)
    | none => 0

/-- The reel's share of a tick that passes: the advance of R52, and the runs of one increment kept up to date. -/
def advanceReel (t : Tln) (runs : Bool) (adj : Int) (next : Nat) : Tln :=
  if runs then
    let jumped := t.prevReel != t.reel && !t.segs.isEmpty
    let segs := if jumped then
        match t.segs with
        | (_, inc) :: _ => if (t.reel : Int) = t.prevReel + inc then t.segs
                           else (t.prevReel, (t.reel : Int) - t.prevReel) :: t.segs
        | [] => []
      else t.segs
    let inc := 2 ^ 33 + adj
    let segs := match segs with
      | (_, i) :: _ => if i = inc then segs else (t.reel, inc) :: segs
      | [] => [(t.reel, inc)]
    { t with prevReel := t.reel, segs := segs, reel := next }
  else t

/-- The servo is held at TLN_HOLD_ADJ, and with FREE at 0 (text after R61). -/
def holdServo (s : State) : State :=
  (s.setAdj (if s.fld Fld.TLN_CTL_SRC = 0 then 0 else s.holdAdj)).put Fld.TLN_STATUS_SERVO_FROZEN 1

/-- The servo is frozen: ADJ is held at TLN_HOLD_ADJ (R73, R75, R81, R83). -/
def State.servoFrozen (s : State) : Bool := s.bit Fld.TLN_STATUS_SERVO_FROZEN

/-- A rate that comes by the cascade (R301) reaches ADJ: not while ADJ is held at TLN_HOLD_ADJ (R55, R73), nor in ACQUIRING before
the source first qualifies (R58), nor with SRC = FREE (text after R61). -/
def State.takesRates (s : State) : Bool :=
  !s.servoFrozen && s.fld Fld.TLN_CTL_SRC != 0 &&
  (s.reelState == 2 || s.reelState == 3 || (s.reelState == 1 && s.bit Fld.TLN_STATUS_SRC_QUALIFIED))

/-- HOLDOVER is entered from LOCKED (R75); in HOLDOVER a servo that had resumed is held again, and locking is measured anew (R55, R78). -/
def enterHoldover (s : State) : State :=
  if s.reelState = 2 then
    let s := holdServo (s.put Fld.TLN_STATUS_STATE 3)
    let s := (s.raise Fld.TLN_EVENT_HOLD_ENTER).count Fld.TLN_COUNT_HOLD_ENTRIES
    { s with tln := { s.tln with holdTick := s.tick, expired := false, lockRun := 0 } }
  else if s.reelState = 3 then
    let s := holdServo s
    { s with tln := { s.tln with lockRun := 0 } }
  else s

/-- The selected source is lost (R75): the flag, the qualification and, from LOCKED, HOLDOVER. -/
def loseSource (s : State) : State :=
  enterHoldover ((s.raise Fld.TLN_EVENT_SRC_LOSS).put Fld.TLN_STATUS_SRC_QUALIFIED 0)

/-- A stored refusal is lifted (R534). -/
def liftRefusal (s : State) : State := s.put Fld.TLN_STATUS_REFUSAL_STORED 0

/-- The reel leaves STOPPED on entry to M3 (R56, R58): it starts from TLN_SET for FREE and from 0 otherwise, or above the
value at which it stopped in this session, and a FREE reel is LOCKED at once. -/
def startReel (s : State) : State :=
  if s.reelState = 0 then
    let free := s.fld Fld.TLN_CTL_SRC == 0
    let v := if free then s.rd64 Reg.TLN_SET_LO * 2 ^ 32 else 0
    let v := if s.tln.session then max v (s.tln.reel + 2 ^ 33) else v
    let s := { s with tln := { s.tln with reel := v, prevReel := v, segs := [], session := true, lockedOnce := free, integ := 0, lockRun := 0,
                                          slewing := false, meas := none, slewOut := none, asymOn := false, asymRun := 0 },
                      csc := { s.csc with adjM := 0, adjServo := 0, rates := [] } }
    let s := (s.setAdj 0).put Fld.TLN_STATUS_SERVO_FROZEN 0
    if free then ((s.put Fld.TLN_STATUS_STATE 2).put Fld.TLN_STATUS_SRC_QUALIFIED 1).raise Fld.TLN_EVENT_LOCK
    else s.put Fld.TLN_STATUS_STATE 1
  else s

/-- The reel returns to STOPPED (R56); a stored refusal is lifted (R534), and FREE qualifies anew on leaving STOPPED (R60). -/
def stopReel (s : State) : State :=
  let s := liftRefusal (s.put Fld.TLN_STATUS_STATE 0)
  let s := if s.fld Fld.TLN_CTL_SRC = 0 then s.put Fld.TLN_STATUS_SRC_QUALIFIED 0 else s
  { s with tln := { s.tln with slewOut := none } }

/-- On entry to M0 the reel returns to STOPPED and its last value is forgotten (R56, R57), and with it every time that launches
hold against it. -/
def forgetReel (s : State) : State :=
  let s := stopReel s
  { s with tln := { s.tln with reel := 0, prevReel := 0, segs := [], session := false, deferred := [], tooLate := [],
                               portFree := [] } }

/-- The magnitude up to which an offset is slewed (R71), in 2^-8 ns. -/
def State.jumpLimit (s : State) : Int := (s.fld Fld.TLN_JUMP_LIMIT_NS : Int) * 256

/-- The refusal of this offset is lifted by SLEW_OUT (R74): it lies near the offset whose refusal was lifted, as far as slewing has
taken that up (log entry 126). -/
def State.lifted (s : State) (e : Int) : Bool :=
  match s.tln.slewOut with
  | some e0 => decide ((e - e0).natAbs ≤ s.jumpLimit.natAbs)
  | none => false

/-- The offset that the source would show now if it had advanced, since the last accepted measurement, as TLN_HOLD_ADJ
assumes, in units of 2^-32 ns (R76). -/
def State.prediction (s : State) : Option Int :=
  s.tln.meas.map fun m =>
    m.off * 2 ^ 24 + ((s.tick - m.tick : Nat) : Int) * (2 ^ 33 + s.holdAdj) - ((s.tln.reel : Int) - (m.reel : Int))

/-- An offset is refused (R73): flags, record, count, servo frozen, and HOLDOVER from LOCKED. -/
def refuseOffset (e : Int) (s : State) : State :=
  let s := s.raise (if e < 0 then Fld.TLN_EVENT_STEP_REF_BACK else Fld.TLN_EVENT_STEP_REF_FWD)
  let s := s.wr64 Reg.TLN_REFUSED_LO (twos 64 (e.tdiv 256))
  let s := (s.count Fld.TLN_COUNT_REFUSED).put Fld.TLN_STATUS_REFUSAL_STORED 1
  let s := { s with tln := { s.tln with refused := e, slewOut := none, lockRun := 0 } }
  enterHoldover (holdServo s)

/-- A path change is declared (R81). -/
def declareAsym (port : Nat) (s : State) : State :=
  let s := (s.raise Fld.TLN_EVENT_PATH_ASYM).put Fld.TLN_STATUS_ASYM_PORT port
  let s := s.count Fld.TLN_COUNT_ASYM
  let s := { s with tln := { s.tln with asymOn := true, asymRun := 0, lockRun := 0 } }
  enterHoldover (holdServo s)

/-- A twist port. -/
def State.twist (s : State) (p : Nat) : Twist := sget (fun _ => {}) s.csc.tw p

/-- Store a twist port. -/
def State.setTwist (s : State) (p : Nat) (x : Twist) : State :=
  { s with csc := { s.csc with tw := sset (fun _ => {}) s.csc.tw p x } }

/-- The cascade role: 0 standalone, 1 master, 2 slave (R285). -/
def State.role (s : State) : Nat := s.fld Fld.CSC_CFG_ROLE

/-- The downstream ports that are UP: every port but a slave's upstream one. -/
def State.downPorts (s : State) : List Nat :=
  (List.range 4).filter fun p =>
    s.fld (Fld.CSC_TW_STATUS_STATE p) == 6 && !(s.role == 2 && s.fld Fld.CSC_DIM_UP_PORT == p)

/-- A RATE frame is queued on every downstream port (R301). -/
def queueRate (adj : Int) (applyT : Nat) (s : State) : State :=
  forAll (fun p s =>
    s.setTwist p { s.twist p with rate := (s.twist p).rate ++ [(s.tick, twos 24 adj + 2 ^ 24 * (applyT % 2 ^ 18))] })
    s.downPorts s

/-- The reel value (2^-32 ns) `n` ticks from now, with the rates that are still to be applied. -/
def futureReel (reel : Nat) (adj : Int) (t n : Nat) : List (Nat × Int) → Nat
  | [] => ((reel : Int) + n * (2 ^ 33 + adj)).toNat
  | (due, a) :: rest =>
    let k := min n (due - t)
    futureReel ((reel : Int) + k * (2 ^ 33 + adj)).toNat a (t + k) (n - k) rest

/-- An ADJ that R70 has computed takes its way (R70, R301): a standalone device applies it; a master sends it as a RATE frame
and applies it CSC_RATE_LEAD ticks later; in a slave it adds to the master's, within R53. -/
def takeAdj (a : Int) (s : State) : State :=
  if s.role = 1 then
    let lead := s.fld Fld.CSC_RATE_LEAD_TICKS
    let t := futureReel s.tln.reel s.adj s.tick lead s.csc.rates / 2 ^ 32
    let s := { s with csc := { s.csc with rates := s.csc.rates ++ [(s.tick + lead, a)],
                                          lastRate := some (a, t % 2 ^ 18, s.tick) } }
    queueRate a t s
  else if s.role = 2 then ({ s with csc := { s.csc with adjServo := a } }).setAdj (s.csc.adjM + a)
  else s.setAdj a

/-- The servo takes up an accepted measurement (R70): the integral term and ADJ, both held within TLN_SLEW_MAX. KP is U24.8,
KI U16.16 and `e` counts 2^-8 ns, so both products are exact in units of 2^-24. -/
def servo (e : Int) (s : State) : State :=
  let smax : Int := s.slewMax * 2 ^ 24
  let i := clampInt (-smax) smax (s.tln.integ + (s.fld Fld.TLN_SERVO_KI_GAIN : Int) * e)
  let a := clampInt (-smax) smax ((s.fld Fld.TLN_SERVO_KP_GAIN : Int) * e * 2 ^ 8 + i)
  let s := { s with tln := { s.tln with integ := i } }
  (takeAdj (roundOpen a (2 ^ 24)) s).put Fld.TLN_STATUS_SERVO_FROZEN 0

/-- The reel value (2^-32 ns) `n` ticks ago, by its runs of one increment. -/
def reelBack (reel n : Nat) : List (Nat × Int) → Nat
  | [] => reel
  | (v, inc) :: rest =>
    let k := (reel - v) / inc.toNat
    if n ≤ k then ((reel : Int) - n * inc).toNat else reelBack v (n - k) rest

/-- The cascade source is lost (R303, R75). -/
def loseCascade (s : State) : State :=
  let s := { s with csc := { s.csc with run := 0, lastMeas := none, seqLo := none, seqHi := none } }
  if s.bit Fld.CSC_STATUS_SRC_QUALIFIED then
    let s := (s.put Fld.CSC_STATUS_SRC_QUALIFIED 0).raise Fld.CSC_EVENT_SRC_LOSS
    if s.fld Fld.TLN_CTL_SRC = 3 then loseSource s else s
  else s

/-- The tick at or after `t` in which SYNC aligns the dividers (R20): a fixed number of CK_S cycles after a rising edge of REFIN, whose
period is 5 ticks. -/
def State.alignTick (s : State) (t : Nat) : Nat := t + (s.glb.refPhase + 5 - t % 5) % 5

/-- The PLL's lock is lost or given up: the divider phases are no longer those of R20 (R539), and what is counted from SYNC is free
until the next one. -/
def losePhases (s : State) : State :=
  let (x, s) := s.fresh 64
  { s with glb := { s.glb with syncTick := (s.tick : Int) - x } }

/-- The PLL locks: where the rising edges of its reference lie among the ticks is open (R20). -/
def newPhase (s : State) : State :=
  let (x, s) := s.fresh 64
  { s with glb := { s.glb with refPhase := x % 5 } }

/-- SYNC is applied (R20, R23, R298): the dividers, and every count that starts from SYNC, begin anew at tick `t`; calibration
is to be done again; a master begins a new generation. -/
def applySync (t : Int) (s : State) : State :=
  let s := (s.put Fld.GLB_CLK_STATUS_SYNC_DONE 1).put Fld.GLB_MODE_STATUS_CAL_DONE 0
  let s := s.count Fld.GLB_CLK_STATUS_SYNC_COUNT
  let s := { s with glb := { s.glb with syncTick := t, syncDue := false, calOn := false } }
  let s := { s with rdo := { s.rdo with
    acq := smap (fun _ => {}) (fun x => { x with raw := [], settle := 0, lastGroup := none }) s.rdo.acq,
    ch := smap (fun _ => {}) (fun x => { x with mark := 0, ftws := [], out := [] }) s.rdo.ch,
    pair := smap (fun _ => {}) (fun x => { x with combDue := 0, marks := [], base := [], bins := [], ovrGroup := none, sleepGroup := none, last := [] })
      s.rdo.pair } }
  if s.role = 1 then s.put Fld.CSC_STATUS_GEN ((s.fld Fld.CSC_STATUS_GEN + 1) % 256) else s

/-- ADJ of a measurement accepted in LOCKED joins the holdover mean over the last 256 (R76). DESIGN CHOICE (log entry 139): with fewer than
256 taken the mean is over those, the history lives on over M0, and in a cascade master a measurement contributes the ADJ in force. -/
def holdMean (s : State) : State :=
  if s.reelState = 2 then
    let h := (s.adj :: s.tln.adjHist).take 256
    let s := { s with tln := { s.tln with adjHist := h } }
    s.wr Reg.TLN_HOLD_ADJ (BitVec.ofNat 32 (twos 32 (roundOpen h.sum h.length)))
  else s

/-- The reel enters LOCKED (R72, R78). -/
def lockReel (s : State) : State :=
  let s := s.raiseIf (s.reelState == 3) Fld.TLN_EVENT_HOLD_EXIT
  let s := (s.put Fld.TLN_STATUS_STATE 2).raise Fld.TLN_EVENT_LOCK
  { s with tln := { s.tln with lockedOnce := true } }

/-- Measurements in a row within THRESH are counted, and COUNT of them lock the reel (R72; a COUNT of 0 is treated as 1).
A slew that comes back within THRESH is done. -/
def countLock (e : Int) (s : State) : State :=
  let inside := decide (e.natAbs ≤ s.fld Fld.TLN_LOCK_CFG_THRESH)
  if inside then
    let s := s.raiseIf s.tln.slewing Fld.TLN_EVENT_SLEW_DONE
    let s := { s with tln := { s.tln with lockRun := s.tln.lockRun + 1, slewing := false } }
    if (s.reelState = 1 ∨ s.reelState = 3) ∧ max 1 (s.fld Fld.TLN_LOCK_CFG_COUNT) ≤ s.tln.lockRun then lockReel s else s
  else { s with tln := { s.tln with lockRun := 0, slewing := true } }

/-- A measurement is accepted (R70, R72, R76, R534). -/
def acceptOffset (e : Int) (s : State) : State :=
  let inside := decide (e.natAbs ≤ s.jumpLimit.natAbs)
  let s := if inside then liftRefusal s else s
  let s := countLock e (holdMean (servo e s))
  { s with tln := { s.tln with meas := some ⟨s.tick, s.tln.reel, e⟩,
                               slewOut := if inside then none else s.tln.slewOut.map fun _ => e } }

/-- A path change that stood is over. -/
def endAsym (s : State) : State := { s with tln := { s.tln with asymOn := false, asymRun := 0 } }

/-- A path change that stood is over once its condition was false for COUNT measurements in a row (R82). A measurement of the primary port at which no comparison is made counts as one at which the condition was false (DESIGN
CHOICE, log entry 127). -/
def clearAsym (s : State) : State :=
  if s.tln.asymOn then
    let s := { s with tln := { s.tln with asymRun := s.tln.asymRun + 1 } }
    if max 1 (s.fld Fld.TLN_LOCK_CFG_COUNT) ≤ s.tln.asymRun then endAsym s else s
  else s

/-- One measurement of the selected source: offset `e`, and the suspect port where this measurement declares a path change
(R71, R73, R59, R84). It is taken with the tuning of the sample clock frozen, too (log entry 40). -/
def measure (e : Int) (asym : Option Nat) (s : State) : State :=
  let s := s.wr Reg.TLN_OFFSET (BitVec.ofNat 32 (twos 32 (satInt 32 e)))
  if s.reelState = 0 ∨ s.fld Fld.TLN_CTL_SRC = 0 then s
  else if s.reelState = 1 ∧ s.mode = 3 ∧ !s.tln.lockedOnce ∧ s.jumpLimit < e then
    let s := { s with tln := { s.tln with reel := ((s.tln.reel : Int) + e * 2 ^ 24).toNat % 2 ^ 96, meas := none } }
    match asym with
    | some p => declareAsym p s
    | none => s
  else
    let refused := decide (s.jumpLimit.natAbs < e.natAbs) && !s.lifted e
    let s1 := if refused then refuseOffset e s else s
    match asym with
    | some p => declareAsym p s1
    | none =>
      let s2 := clearAsym s1
      if refused ∨ s2.tln.asymOn then s2 else acceptOffset e s2

end Sys2Proof.Machine
end

