-- ==== Sys2Proof/Machine/SpindleOps.lean ====
section
/-! DEFINITION. Machine/SpindleOps.lean: the spindles' shared operations (spec/03): registers, issue of a word, waits, routine
entry and abandonment, handlers and errors. -/

namespace Sys2Proof.Machine

/-- What discrimination holds for a readout channel. -/
def State.dscCh (s : State) (r : Nat) : DscCh := sget (fun _ => {}) s.dsc r

/-- Store what discrimination holds for a readout channel. -/
def State.setDscCh (s : State) (r : Nat) (x : DscCh) : State := { s with dsc := sset (fun _ => {}) s.dsc r x }

/-- Spindles run: in M5, and in M6 until they count as stopped (R90). -/
def State.spindlesRun (s : State) : Bool := s.mode == 5 || (s.mode == 6 && !s.glb.m6Stopped)

/-- Vector `v` is pending. -/
def State.pends (s : State) (n v : Nat) : Bool := bitOf (s.fld (Fld.SPN_PEND_PEND n)) v

/-- The highest-priority vector that was pending in a tick (R119): vector 0 is the highest. -/
def State.topVector (s : State) (n t : Nat) : Option Nat :=
  (List.range 8).find? fun v => s.pends n v && decide (sget (fun _ => 0) (s.spindle n).pendAt v ≤ t)

/-- The resume register's address, with the copy of its low bits in SPN_PEND. -/
def setResume (n : Nat) (addr : Nat) (halt : Bool) (s : State) : State :=
  let s := (s.put (Fld.SPN_RESUME_ADDR n) addr).put (Fld.SPN_RESUME_HALT n) (b2n halt)
  let s := s.put (Fld.SPN_PEND_RESUME n) (addr % 512)
  s.setSpindle n { s.spindle n with hasResume := true }

/-- The spindle enters state ERROR at an address with an event (R95, R114, R126, R127). -/
def toError (n : Nat) (addr : Option Nat) (ev : Field) (s : State) : State :=
  let s := (s.put (Fld.SPN_STATUS_STATE n) 4).raise ev
  let s := match addr with
    | some a => s.put (Fld.SPN_ERR_ADDR n) a
    | none => s
  let s := (s.put (Fld.SPN_STATUS_SCOUT_STOPPED n) 0).put (Fld.SPN_STATUS_SCOUT_HORIZON n) 0
  s.setSpindle n { s.spindle n with active := false, wait := none, gap := none, scout := {} }

/-- The spindle enters IDLE; its scout has nothing to look ahead on. -/
def toIdle (n : Nat) (s : State) : State :=
  let s := (s.put (Fld.SPN_STATUS_STATE n) 0).put (Fld.SPN_STATUS_HELD n) 0
  let s := (s.put (Fld.SPN_STATUS_SCOUT_STOPPED n) 0).put (Fld.SPN_STATUS_SCOUT_HORIZON n) 0
  s.setSpindle n { s.spindle n with active := false, wait := none, gap := none, stopHeld := false, idleTick := s.tick, scout := {} }

/-- No routine executes on the spindle, and the last one ended in an earlier tick: by its END, or by an abandonment that leads to IDLE. -/
def State.routineOver (s : State) (n : Nat) : Bool :=
  let x := s.spindle n
  !x.active && x.gap.isNone && decide (x.idleTick ≤ s.tick) && !s.later.any fun p => p.2 == .enterIdle n

/-- The issue stage should have issued a word in an earlier tick and has not (R131). -/
def State.failing (s : State) (n : Nat) : Bool :=
  let x := s.spindle n
  x.missed || (x.active && x.wait.isNone && s.fld (Fld.SPN_STATUS_STATE n) != 3 && decide (x.due < s.tick))

/-- A failure to issue is kept before the word's tick is given up (R131). -/
def noteMissed (n : Nat) (s : State) : State := s.setSpindle n { s.spindle n with missed := s.failing n }

/-- The copy taken at a routine's entry (R115). -/
def State.takeCheckpoint (s : State) (n : Nat) : Checkpoint :=
  let x := s.spindle n
  { g := (List.range 31).map fun i => s.g n (i + 1), lc := (List.range 8).map fun j => s.rd (Reg.SPN_LC n j),
    z := x.z, n := x.n, c := x.c, tb := s.tb n, shadows := x.shadows }

/-- The checkpoint is restored (R119). -/
def restoreCheckpoint (n : Nat) (s : State) : State :=
  match (s.spindle n).chk with
  | none => s
  | some k =>
    let s := forN 31 (fun i s => s.setG n (i + 1) (k.g.getD i 0)) s
    let s := forN 8 (fun j s => s.wr (Reg.SPN_LC n j) (k.lc.getD j 0)) s
    let s := s.wr64 (Reg.SPN_TB_LO n) k.tb
    s.setSpindle n { s.spindle n with z := k.z, n := k.n, c := k.c, shadows := k.shadows }

/-- A debug halt takes effect (R136). -/
def haltNow (n : Nat) (s : State) : State :=
  let s := noteMissed n s
  let s := (s.put (Fld.SPN_STATUS_STATE n) 3).raise (Fld.SPN_EVENT_HALTED n)
  (s.put (Fld.SPN_STATUS_SCOUT_STOPPED n) 0).put (Fld.SPN_STATUS_SCOUT_HORIZON n) 0

/-- The word in issue is done: the next word and the tick in which it may issue. A requested halt takes effect here while the
routine is uncommitted (R136). -/
def advanceTo (n next due : Nat) (s : State) : State :=
  let s := s.setSpindle n { s.spindle n with npc := next % 8192, due := due, wait := none }
  if (s.spindle n).haltReq && !s.committed n then haltNow n s else s

/-- The address after the word in issue. -/
def State.nextPc (s : State) (n : Nat) : Nat := (s.fld (Fld.SPN_STATUS_PC n) + 1) % 8192

/-- The word occupies one tick and the following word issues next. -/
def oneTick (n : Nat) (s : State) : State := advanceTo n (s.nextPc n) (s.tick + 1) s

/-- The word begins to wait. -/
def startWait (n : Nat) (w : Wait) (s : State) : State :=
  (s.put (Fld.SPN_STATUS_STATE n) 2).setSpindle n { s.spindle n with wait := some w }

/-- The scout restarts from the word at `pc`, which issues `ahead` ticks from now, with the loop counters and TB that hold then
(R135). The word is on its path until it has issued. -/
def restartScoutWith (n pc ahead : Nat) (lc : List Nat) (tb : Nat) (s : State) : State :=
  s.setSpindle n { s.spindle n with scout :=
    { pc := pc, time := (s.tln.reel + ahead * (2 ^ 33 + s.adj)).toNat, lc := lc, tb := tb, ca := s.ca n, path := [pc] } }

/-- The scout restarts from the word at `pc` with the registers as they stand. -/
def restartScout (n pc ahead : Nat) (s : State) : State :=
  restartScoutWith n pc ahead ((List.range 8).map fun j => (s.rd (Reg.SPN_LC n j)).toNat) (s.tb n) s

/-- The issue stage has reached `pc`: the scout's path loses it, or the scout restarts where the path does not lead there. -/
def followScout (n pc : Nat) (s : State) : State :=
  let x := s.spindle n
  match x.scout.path with
  | a :: rest =>
    if a = pc then s.setSpindle n { x with scout := { x.scout with path := rest, uses := x.scout.uses.map passed } }
    else issued (restartScout n pc 0 s)
  | [] => issued (restartScout n pc 0 s)
where
  /-- The word at which the scout stands has issued. -/
  issued (s : State) : State := s.setSpindle n { s.spindle n with scout := { (s.spindle n).scout with path := [] } }
  /-- A use lies one word less ahead. -/
  passed (u : ScoutUse) : ScoutUse := { u with words := u.words - 1 }

/-- A routine is entered as the handler of vector `v`. -/
def enterHandler (n v : Nat) (s : State) : State :=
  (s.put (Fld.SPN_STATUS_IN_HANDLER n) 1).put (Fld.SPN_STATUS_HANDLER_VEC n) v

/-- The address of the word that a spindle fetches next: after a gap, the entry that the decode tick chooses (R119, R122, R125). -/
def State.fetchAddr (s : State) (n : Nat) : Nat :=
  let x := s.spindle n
  match x.gap with
  | some other => match s.topVector n (x.due - 1) with
    | some v => s.fld (Fld.SPN_VEC_ENTRY n v)
    | none => other.getD x.npc
  | none => x.npc

/-- The entry that a gap leads to is entered (R119, R122, R125). -/
def resolveGap (n : Nat) (s : State) : State :=
  let x := s.spindle n
  let a := s.fetchAddr n
  match x.gap with
  | none => s
  | some other =>
    let x := { x with gap := none, npc := a, entry := a }
    match s.topVector n (x.due - 1) with
    | some v => (enterHandler n v s).setSpindle n { x with active := true }
    | none => s.setSpindle n { x with active := other.isSome }

/-- The issue stage is free to issue a word in this tick (R90). -/
def State.mayIssue (s : State) (n : Nat) : Bool :=
  let x := s.spindle n
  s.spindlesRun && (x.active || x.gap.isSome) && x.wait.isNone && decide (x.due ≤ s.tick) &&
  s.fld (Fld.SPN_STATUS_STATE n) != 3 && s.fld (Fld.SPN_STATUS_STATE n) != 4

/-- A word comes to issue: the gap is resolved, PC and STATE are set, and a word with ENT = 1 takes the checkpoint, as things
stand before it acts, and clears the committed state (R115). The word is none where no rule lets it execute (R95). -/
def issue (n : Nat) (s : State) : Option MicroWord × State :=
  let s := resolveGap n s
  let x := s.spindle n
  let s := s.setSpindle n { x with missed := x.missed || decide (x.due < s.tick) }
  let s := (s.put (Fld.SPN_STATUS_PC n) x.npc).put (Fld.SPN_STATUS_STATE n) 1
  let s := followScout n x.npc s
  match decodeMicro (s.storeWord n x.npc) with
  | none => (none, s)
  | some m =>
    if m.ent = 1 then
      let s := s.put (Fld.SPN_STATUS_COMMITTED n) 0
      (some m, s.setSpindle n { s.spindle n with chk := some (s.takeCheckpoint n), entry := x.npc })
    else (some m, s)

/-- The command of an opcode: where the word that issues now is one that `body` names, its condition is looked at (a false
one takes one tick, R96), a word that needs the committed state is left to ILLEGAL (R117), and `body` acts otherwise. Where
no such word issues now, nothing happens (log entry 11). -/
def runWord (n : Nat) (body : Micro → Option (State → State)) (s : State) : State :=
  if s.mayIssue n then
    match issue n s with
    | (some m, s') =>
      match body m.op with
      | some act =>
        if !s'.condition n m.cc then oneTick n s'
        else if m.op.needsCommit && !s'.committed n then s
        else act s'
      | none => s
    | (none, _) => s
  else s

/-- The scout restarts on abandonment (R135): at the entry that now stands to issue three ticks later, with what the checkpoint
restores. -/
def scoutAbandoned (n : Nat) (s : State) : State :=
  match (s.spindle n).chk with
  | some k => restartScoutWith n (s.fetchAddr n) 3 (k.lc.map BitVec.toNat) k.tb s
  | none => restartScout n (s.fetchAddr n) 3 s

/-- A routine is abandoned (R119): the word in issue is suppressed, the checkpoint is restored in the next tick, and an entry
word issues three ticks after this one; its own entry goes to the resume register unless a handler is abandoned. A debug halt that
was requested takes effect before that entry word (R136). -/
def abandon (n : Nat) (other : Option Nat) (s : State) : State :=
  let s := noteMissed n s
  let s := (s.raise (Fld.SPN_EVENT_ABANDON n)).count (Fld.SPN_COUNT_ABANDON n)
  let s := if s.bit (Fld.SPN_STATUS_IN_HANDLER n) then s else setResume n (s.spindle n).entry false s
  let s := s.put (Fld.SPN_STATUS_STATE n) 1
  let s := s.setSpindle n { s.spindle n with wait := none, gap := some other, due := s.tick + 3, active := true }
  let s := scoutAbandoned n { s with later := s.later ++ [(s.tick + 1, .restore n)] }
  if (s.spindle n).haltReq then haltNow n s else s

/-- A spindle recognises a STOP (R41, R124): an uncommitted routine is abandoned with no handler and no restart, and the
spindle is IDLE two ticks later; a committed one runs to its END. -/
def stopSpindle (n : Nat) (s : State) : State :=
  let x := s.spindle n
  if s.fld (Fld.SPN_STATUS_STATE n) = 4 then s
  else if x.active && s.committed n && x.gap.isNone then s.setSpindle n { x with stopHeld := true }
  else if x.active || x.gap.isSome then
    let s := if x.active && x.gap.isNone then abandon n none s else s
    let s := s.setSpindle n { s.spindle n with active := false, gap := none, wait := none }
    { s with later := s.later ++ [(s.tick + 2, .enterIdle n)] }
  else toIdle n s

/-- The stop of an underrun acts on the claiming spindle (R196): no vector is handled until the next entry to M5. -/
def underrunStopped (n : Nat) (s : State) : State :=
  stopSpindle n (s.setSpindle n { s.spindle n with noVec := true })

/-- No routine may start on a spindle: a STOP acted (R41), or an underrun stopped it (R196). -/
def State.noRoutine (s : State) (n : Nat) : Bool := s.glb.stopping || (s.spindle n).noVec

/-- STOP acts on every spindle as an event visible in this tick, recognised two ticks later (R41, R118). -/
def stopAllSpindles (s : State) : State :=
  { s with glb := { s.glb with stopping := true },
           later := s.later ++ (List.range 64).map fun n => (s.tick + 2, .stopRecognised n) }

/-- A strand event sets a latch (R128): one that is set stays set and its overrun flag is set. -/
def setLatch (n i : Nat) (s : State) : State :=
  let s := if s.latch n i then (s.raise ⟨Reg.SPN_SIN_OVR n, i, 1⟩).raise (Fld.SPN_EVENT_OVERRUN n)
    else s.setSpindle n { s.spindle n with sinAt := sset (fun _ => 0) (s.spindle n).sinAt i s.tick }
  s.raise ⟨Reg.SPN_SIN n, i, 1⟩

/-- Latches selected by a mask are cleared, but for those a new event set in this tick (R109). -/
def clearLatches (n mask : Nat) (s : State) : State :=
  let kept := sget (fun _ => 0) s.evSet (Reg.SPN_SIN n)
  s.wr (Reg.SPN_SIN n) (s.rd (Reg.SPN_SIN n) &&& ~~~(BitVec.ofNat 32 mask &&& ~~~kept))

/-- A vector becomes pending, or merges into a pending activation (R118, R123). -/
def setPending (n v : Nat) (s : State) : State :=
  if s.pends n v then
    ((s.raise (Fld.SPN_VEC_OVERRUN n v)).count (Fld.SPN_COUNT_OVERRUN n)).raise (Fld.SPN_EVENT_OVERRUN n)
  else
    let x := s.spindle n
    let same := (List.range 8).any fun u => s.pends n u && sget (fun _ => 0) x.pendAt u == s.tick
    let s := s.put (Fld.SPN_PEND_PEND n) (setBit (s.fld (Fld.SPN_PEND_PEND n)) v)
    let s := s.setSpindle n { x with pendAt := sset (fun _ => 0) x.pendAt v s.tick }
    s.raiseIf same (Fld.SPN_EVENT_COINCIDENT n)

/-- The preset shadow of a target, as the skein gives it where no NCOP has acted (R93, R101). -/
def State.shadow (s : State) (n k : Nat) : Shadow :=
  match sget (fun _ => none) (s.spindle n).shadows k with
  | some h => h
  | none => ⟨s.rd64 (Reg.SYN_CH_INIT_FTW_LO k) % 2 ^ 48, s.fld (Fld.SYN_CH_INIT_PHASE_PH k), false⟩

/-- Store a preset shadow. -/
def State.setShadow (s : State) (n k : Nat) (h : Shadow) : State :=
  s.setSpindle n { s.spindle n with shadows := sset (fun _ => none) (s.spindle n).shadows k (some h) }

end Sys2Proof.Machine
end

