-- ==== Sys2Proof/Machine/SynthOps.lean ====
section
/-! DEFINITION. Machine/SynthOps.lean: the shared operations of synthesis and streaming (spec/04, spec/05): targets and their
segment tables, chains and jumps, oscillators, ports, marker and trigger edges, roving streams. -/

namespace Sys2Proof.Machine

/-! ### Targets, ports, outputs -/

/-- What synthesis holds for target `t`: 0 to 255 drive, 256 to 511 probe, 512 to 639 flux. -/
def State.tgt (s : State) (t : Nat) : Tgt := sget (fun _ => {}) s.syn.tgt t

/-- Store what synthesis holds for a target. -/
def State.setTgt (s : State) (t : Nat) (x : Tgt) : State :=
  { s with syn := { s.syn with tgt := sset (fun _ => {}) s.syn.tgt t x } }

/-- What a flux port holds. -/
def State.flx (s : State) (f : Nat) : Flx := sget (fun _ => {}) s.syn.flx f

/-- Store what a flux port holds. -/
def State.setFlx (s : State) (f : Nat) (x : Flx) : State :=
  { s with syn := { s.syn with flx := sset (fun _ => {}) s.syn.flx f x } }

/-- A roving stream. -/
def State.stream (s : State) (r : Nat) : Rv := sget (fun _ => {}) s.rv r

/-- Store a roving stream. -/
def State.setStream (s : State) (r : Nat) (x : Rv) : State := { s with rv := sset (fun _ => {}) s.rv r x }

/-- Spindles count as running and the outputs are active (R32): M5, and M6 while spindles run. -/
def State.outputsActive (s : State) : Bool := s.spindlesRun

/-- How an output stands (R30 to R33): inert, muted or active. -/
inductive Form where
  | inert | muted | active
  deriving DecidableEq, Repr

/-- The form of the device's outputs: inert while their permit waves are absent (R443) and in the modes that the mode table lists so, muted in
M4 and in M6 with spindles stopped, and active in M5 and in M6 while spindles run. -/
def State.form (s : State) : Form :=
  if !s.permitted then .inert
  else if s.outputsActive then .active
  else if s.mode = 4 ∨ s.mode = 6 then .muted else .inert

/-- The channel map register of a drive or probe target (R26). -/
def mapReg (t : Nat) : Nat := if t < 256 then Reg.GLB_DRV_MAP t else Reg.GLB_PRB_MAP (t - 256)

/-- The port of a target by the numbers of R483; none for a channel that is not assigned. -/
def State.tgtPort (s : State) (t : Nat) : Option Nat :=
  if 512 ≤ t then some (64 + (t - 512))
  else if s.bit ⟨mapReg t, 31, 1⟩ then some (s.fld ⟨mapReg t, 0, 5⟩ + if t < 256 then 0 else 32) else none

/-- The targets of an RF port `p` (0 to 31 DRV, 32 to 47 PRB), lowest channel first. -/
def State.portTgts (s : State) (p : Nat) : List Nat :=
  ((List.range 256).map fun i => i + if p < 32 then 0 else 256).filter fun t => s.tgtPort t == some p

/-- The power state of a port by the numbers of R483 (R484): 0 is ACTIVE. -/
def State.portState (s : State) (p : Nat) : Nat := s.fld ⟨Reg.PWR_PORT_STATE (p / 16), 2 * (p % 16), 2⟩

/-- A port is waking from COLD: it recalibrates into its loopback (R486). -/
def State.recalibrates (s : State) (p : Nat) : Bool := s.portState p == 3 && (sget (fun _ => none) s.pwr.waking p).isSome

/-- RF port `p` has its internal 50 Ω termination engaged (R30, R31, R443, R484, R486). -/
def State.terminated (s : State) (p : Nat) : Bool := s.form == .inert || s.recalibrates p

/-- FLX port `f` has its output switch open (R30, R31, R443, R484, R486). -/
def State.switchOpen (s : State) (f : Nat) : Bool := s.form == .inert || s.recalibrates (64 + f)

/-- The converter of port `p` is powered: in every mode but M0, M1 and M2, where the dies are off, and where the port is not COLD
(R31, R484, R487). -/
def State.powered (s : State) (p : Nat) : Bool := decide (3 ≤ s.mode) && s.portState p != 3

/-- The group of a port (R483). -/
def portGroup (p : Nat) : Nat :=
  if p < 32 then 4 * (p / 8)
  else if p < 48 then 4 * ((p - 32) / 4) + 1
  else if p < 64 then 4 * ((p - 48) / 4) + 1
  else if p < 192 then 4 * ((p - 64) / 32) + 2
  else 4 * ((p - 192) / 16) + 3

/-- A sample reached a port that is not ACTIVE (R492). -/
def wakeLate (p : Nat) (s : State) : State :=
  let g := portGroup p
  ((s.raise (Fld.PWR_GRP_EVENT_WAKE_LATE g)).raise Fld.PWR_EVENT_WAKE_LATE).count (Fld.PWR_GRP_WAKES_LATE g)

/-! ### Segment tables -/

/-- A segment table entry (R177). -/
structure Seg where
  start : Nat
  len : Nat
  rep : Nat
  next : Nat
  roving : Bool
  finalOnly : Bool
  stream : Nat
  deriving DecidableEq, Repr

/-- The first byte of the envelope store region (R350). -/
def envBase : Nat := 0x800000

/-- The 16 bytes of a descriptor as a number (R178). -/
def State.segRaw (s : State) (t i : Nat) : Nat := s.sramNat (envBase + 16 * s.fld (Fld.STM_TGT_TBL_BASE t) + 16 * i) 16

/-- The fields of a descriptor (R177). -/
def Seg.ofRaw (d : Nat) : Seg :=
  { start := bitsOf d 22 0, len := bitsOf d 47 32, rep := bitsOf d 63 48, next := bitsOf d 79 64,
    roving := bitOf d 80, finalOnly := bitOf d 81, stream := bitsOf d 93 88 }

/-- Descriptor `i` of a target. -/
def State.segOf (s : State) (t i : Nat) : Seg := Seg.ofRaw (s.segRaw t i)

/-- The segment at a target's fetch point. -/
def State.segNow (s : State) (t : Nat) : Seg := s.segOf t (s.fld (Fld.STM_TGT_STATUS_SEG t))

/-- A SEG or NEXT value names a segment (R178). -/
def State.namesSeg (s : State) (t i : Nat) : Bool := decide (i < s.fld (Fld.STM_TGT_CNT_COUNT t))

/-! ### Marker and trigger edges (R171 to R174) -/

/-- The level field of output `o`: markers 0 to 15, triggers 16 to 47. -/
def outField (o : Nat) : Field := if o < 16 then ⟨Reg.SYN_MRK_LEVEL, o, 1⟩ else ⟨Reg.SYN_TRG_LEVEL, o - 16, 1⟩

/-- What an output holds. -/
def State.outPin (s : State) (o : Nat) : OutPin := sget (fun _ => {}) s.syn.outs o

/-- Store what an output holds. -/
def State.setOut (s : State) (o : Nat) (x : OutPin) : State :=
  { s with syn := { s.syn with outs := sset (fun _ => {}) s.syn.outs o x } }

/-- An edge takes effect at its placed time (R172): it cancels the falling edge of an earlier pulse that lies after it. An inert or muted output
stays low (R30, R31, R438, R443). -/
def placeEdge (o time act width : Nat) (s : State) : State :=
  if s.form = .active then
    if act = 2 then (s.put (outField o) 0).setOut o {}
    else (s.put (outField o) 1).setOut o { fall := if act = 0 then some (time + 64 * max 1 width) else none }
  else s

/-- An edge is placed 68 ns after the start of this tick plus a sub-tick position (R171, R173). -/
def scheduleEdge (o sub act width : Nat) (s : State) : State :=
  { s with later := s.later ++ [(s.tick + 34, .edge o (64 * (s.tick + 34) + sub) act width)] }

/-- Segment starts (`src` 2) and segment ends (`src` 3) on a target pulse the trigger outputs that follow it (R173). -/
def followTriggers (src t : Nat) (s : State) : State :=
  forN 32 (fun n s =>
    if s.fld (Fld.SYN_TRG_CFG_SRC n) = src ∧ s.fld (Fld.SYN_TRG_CFG_KIND n) * 256 + s.fld (Fld.SYN_TRG_CFG_CH n) = t then
      scheduleEdge (16 + n) 0 0 (s.fld (Fld.SYN_TRG_CFG_WIDTH n)) s
    else s) s

/-! ### Oscillators (R142 to R146) -/

/-- ACC of an oscillator in a DAC sample counted since power-on (R143). -/
def Nco.accAt (o : Nco) (coherent : Bool) (sync : Int) (a : Nat) : Nat :=
  if coherent then o.ftw * ((a : Int) - 64 * sync).toNat % 2 ^ 48 else (o.acc + o.ftw * (a - o.pos)) % 2 ^ 48

/-- The phase θ in a DAC sample (R146). -/
def Nco.theta (o : Nco) (coherent : Bool) (sync : Int) (a : Nat) : Nat := (o.accAt coherent sync a + o.poff * 2 ^ 32) % 2 ^ 48

/-- A channel is in COHERENT mode. -/
def State.coherent (s : State) (k : Nat) : Bool := s.bit (Fld.SYN_CH_CFG_PHASE_MODE k)

/-- The oscillator after a new tuning word and phase apply in DAC sample `a`: in CONTINUOUS mode the phase goes on from the
sample before (R143). -/
def Nco.retune (o : Nco) (coherent : Bool) (sync : Int) (ftw poff a : Nat) : Nco :=
  { ftw := ftw, poff := poff, acc := o.accAt coherent sync (a - 1), pos := a - 1 }

/-- The applied tuning word and phase are shown (SYN_CH_FTW, SYN_CH_PHASE). -/
def showNco (k : Nat) (o : Nco) (s : State) : State :=
  (s.wr64 (Reg.SYN_CH_FTW_LO k) o.ftw).put (Fld.SYN_CH_PHASE_PH k) o.poff

/-- At a run start every oscillator takes its initial tuning word and phase, and its accumulator FTW × N (R144). -/
def startNcos (s : State) : State :=
  forN 512 (fun k s =>
    let f := s.rd64 (Reg.SYN_CH_INIT_FTW_LO k) % 2 ^ 48
    let o : Nco := { ftw := f, poff := s.fld (Fld.SYN_CH_INIT_PHASE_PH k), acc := f * (64 * s.sinceSync) % 2 ^ 48,
                     pos := 64 * s.tick }
    showNco k o (s.setTgt k { s.tgt k with nco := o, ahead := o })) s

/-- A tuning word's frequency lies within an RF port's band (R142, R154). -/
def State.inBand (s : State) (p ftw : Nat) : Bool :=
  decide (s.fld (Fld.SYN_PORT_BAND_LO_MHZ p) * 2 ^ 48 ≤ ftw * 32000) &&
  decide (ftw * 32000 ≤ s.fld (Fld.SYN_PORT_BAND_HI_MHZ p) * 2 ^ 48)

/-! ### Chains -/

/-- The depth in ticks from the fetch point to the ball, without the sub-tick delay (R110, R159). -/
def ballDepth (t : Nat) : Nat := if t < 512 then 33 else 19

/-- A segment end is on its way: it leaves stage 10 five ticks after its last fetched tick (R181). -/
def markEnd (t lastFetch : Nat) (final : Bool) (s : State) : State :=
  let x := s.tgt t
  s.setTgt t { x with ends := x.ends ++ [(lastFetch + 5, final)] }

/-- A pending jump is discarded with its flag (R185, R186). -/
def dropJump (t : Nat) (s : State) : State :=
  if (s.tgt t).jump.isSome then
    let s := ((s.raise (Fld.STM_TGT_EVENT_JUMP_DROP t)).raise Fld.STM_EVENT_JUMP_DROP).put (Fld.STM_TGT_STATUS_JUMP_PEND t) 0
    s.setTgt t { s.tgt t with jump := none }
  else s

/-- The depth in DAC samples from the fetch of an envelope sample to its place at the mixer: stages 10 and 11, 76 envelope samples (R48). -/
def mixerDepth : Nat := 16 * (20 + 56)

/-- A pulse whose first tick has come becomes the chain at the fetch point; a chain that it cuts ends (R152, R179). -/
def takeUp (t : Nat) (s : State) : State :=
  let x := s.tgt t
  match x.start with
  | some p =>
    if p.tick ≤ s.tick then
      let s := match x.chain with
        | some c => markEnd t (c.next - 1) false s
        | none => s
      let s := s.setTgt t { s.tgt t with start := none, chain := some ⟨0, p.tick, p.amp, p.dly, p.muted, p.nco, p.spn⟩ }
      let s := (s.put (Fld.STM_TGT_STATUS_SEG t) p.seg).put (Fld.STM_TGT_PASS_PASS t) 0
      s.put (Fld.STM_TGT_STATUS_PLAYING t) 1
    else s
  | none => s

/-- A chain plays on a target, or its first tick has come. From the tick after the last fetched one on it counts as not playing for a jump
request of R186, though STM_TGT_STATUS.PLAYING reads 1 until the segment end of R181 (DESIGN CHOICE, log entry 132). -/
def State.playing (s : State) (t : Nat) : Bool :=
  let x := s.tgt t
  x.chain.isSome || match x.start with
    | some p => decide (p.tick ≤ s.tick)
    | none => false

/-- Samples of a target are at or before the ball (SYN_CH_STATUS.PLAYING). -/
def State.tgtBusy (s : State) (t : Nat) : Bool :=
  let x := s.tgt t
  x.chain.isSome || x.start.isSome || decide (s.tick < x.busyTill)

/-- A jump request becomes visible (R183, R184, R186). -/
def jreqVisible (t seg : Nat) (s : State) : State :=
  if s.playing t then
    let s := if (s.tgt t).jump.isSome then s.raise (Fld.STM_TGT_EVENT_JUMP_REPLACED t) else s
    let s := s.setTgt t { s.tgt t with jump := some ⟨s.tick, false⟩ }
    (s.put (Fld.STM_TGT_STATUS_JUMP_PEND t) 1).put (Fld.STM_TGT_PASS_PEND_SEG t) seg
  else (s.raise (Fld.STM_TGT_EVENT_JUMP_DROP t)).raise Fld.STM_EVENT_JUMP_DROP

/-- A target's chain enters a segment at its first pass. -/
def enterSeg (t seg : Nat) (s : State) : State :=
  let s := (s.put (Fld.STM_TGT_STATUS_SEG t) seg).put (Fld.STM_TGT_PASS_PASS t) 0
  s.setTgt t { s.tgt t with chain := (s.tgt t).chain.map fun c => { c with done := 0 } }

/-- Chains still playing end and the samples on their way are discarded, with the oscillator settings that they would have brought, the comb's
among them; the ball carries zero (R541). -/
def endChains (s : State) : State :=
  forAll (fun t s =>
    let x := s.tgt t
    let s := if x.chain.isSome ∨ x.start.isSome then followTriggers 3 t (dropJump t s) else s
    let s := s.setTgt t { s.tgt t with chain := none, start := none, hist := [], lag := none, ends := [], busyTill := s.tick,
                                       ahead := (s.tgt t).nco, zeroTick := none }
    let s := if 512 ≤ t then s.setFlx (t - 512) { s.flx (t - 512) with carry := [], hold := 0 } else s
    s.put (Fld.STM_TGT_STATUS_PLAYING t) 0) (s.syn.tgt.map Prod.fst)
    { s with syn := { s.syn with codes := [], line := [] },
             rdo := { s.rdo with pair := smap (fun _ => {}) (fun x => { x with hist := [] }) s.rdo.pair } }

/-- Markers and triggers go low and edges on their way are dropped (R30, R31). -/
def lowerOutputs (s : State) : State :=
  { lowLevels s with
           later := s.later.filter fun p => match p.2 with | .edge .. => false | _ => true }

/-- Muted bias ports have the target 0 (R169). -/
def muteBias (s : State) : State :=
  forN 64 (fun b s => s.put (Fld.SYN_BIA_TARGET_CODE b) 0) { s with syn := { s.syn with bia := [] } }

/-- Section states and histories of the flux filters are cleared (R163). -/
def clearFlux (s : State) : State :=
  forAll (fun f s => s.setFlx f { s.flx f with sec := [], ys := [] }) (s.syn.flx.map Prod.fst) s

/-! ### Roving streams -/

/-- The states of STM_RV_STATUS. -/
def rvOff : Nat := 0
def rvPriming : Nat := 1
def rvReady : Nat := 2
def rvFault : Nat := 3

/-- A stream's ring size in bytes. -/
def State.ringSize (s : State) (r : Nat) : Nat := 4096 * s.fld (Fld.STM_RV_RING_SIZE r)

/-- The SRAM offset of a byte of a stream, counted since its last restart. -/
def State.ringAddr (s : State) (r i : Nat) : Nat :=
  envBase + 4096 * s.fld (Fld.STM_RV_RING_BASE r) + i % s.ringSize r

/-- A priming stream that has reached PRIME is READY (R192). -/
def checkPrimed (r : Nat) (s : State) : State :=
  if s.fld (Fld.STM_RV_STATUS_STATE r) = rvPriming ∧ 256 * s.fld (Fld.STM_RV_WM_PRIME r) ≤ s.fld (Fld.STM_RV_FILL_BYTES r) then
    (s.put (Fld.STM_RV_STATUS_STATE r) rvReady).raise (Fld.STM_RV_EVENT_PRIMED r)
  else s

/-- HIF_Q_LIMIT of the queue that a host-sourced stream owns is cleared (R395, R396). -/
def clearLimit (r : Nat) (s : State) : State :=
  let q := s.fld (Fld.STM_RV_CFG_QUEUE r)
  if s.fld (Fld.STM_RV_CFG_SRC r) = 1 ∧ s.bit (Fld.HIF_Q_CFG_MODE q) then s.put (Fld.HIF_Q_LIMIT_LIMIT q) 0 else s

/-- A stream's ring is emptied, its position returns to 0 and it primes (R192). -/
def primeStream (r : Nat) (s : State) : State :=
  let s := clearLimit r (s.setStream r {})
  let s := (s.wr64 (Reg.STM_RV_POS_LO r) 0).put (Fld.STM_RV_FILL_BYTES r) 0
  checkPrimed r (s.put (Fld.STM_RV_STATUS_STATE r) rvPriming)

/-- On entry to M4 every enabled stream primes (R192). -/
def primeStreams (s : State) : State :=
  forN 64 (fun r s => if s.bit (Fld.STM_RV_CFG_EN r) then primeStream r s else s) s

/-- On entry to a mode other than M4, M5 and M6 every stream is OFF (R192). -/
def stopStreams (s : State) : State :=
  forN 64 (fun r s => dropRefills r ((s.put (Fld.STM_RV_STATUS_STATE r) rvOff).setStream r { s.stream r with reqs := [] })) s

/-- Some target plays a roving segment of a stream (R192). -/
def State.streamPlays (s : State) (r : Nat) : Bool :=
  (s.syn.tgt.map Prod.fst).any fun t =>
    (s.tgt t).chain.isSome && (s.segNow t).roving && (s.segNow t).stream == r

/-- An underrun of a target on a stream (R195); the record of R198 is made ready. -/
def underrun (t r cause : Nat) (c : Chain) (s : State) : State :=
  let s := dropRefills r ((s.put (Fld.STM_RV_STATUS_STATE r) rvFault).setStream r { s.stream r with reqs := [] })
  let s := ((s.raise (Fld.STM_RV_EVENT_UNDERRUN r)).raise (Fld.STM_TGT_EVENT_UNDERRUN t)).raise Fld.STM_EVENT_UNDERRUN
  let s := (s.put (Fld.STM_TGT_STATUS_MUTED_UR t) 1).count (Fld.STM_RV_COUNT_UNDERRUN r)
  let ball := ((s.tln.reel : Int) + (ballDepth t : Int) * (2 ^ 33 + s.adj)).toNat / 2 ^ 32
  let s := dropJump t (s.put (Fld.STM_TGT_STATUS_PLAYING t) 0)
  let s := if 512 ≤ t then s.setFlx (t - 512) { s.flx (t - 512) with hold := 0 } else s
  s.setTgt t { s.tgt t with chain := none, urRec := some ⟨ball, c.dly, r, cause, s.rd64 (Reg.STM_RV_POS_LO r) % 2 ^ 32⟩,
                            urTick := s.tick, urSpn := c.spn }

/-- The ring gives up `n` bytes to the fetch point: position, fill and the famine watermark (R189, R194). -/
def consume (r n : Nat) (s : State) : State :=
  let x := s.stream r
  let fill := s.fld (Fld.STM_RV_FILL_BYTES r)
  let low := 256 * s.fld (Fld.STM_RV_WM_LOW r)
  let s := s.setStream r { x with played := x.played + n }
  let s := (s.wr64 (Reg.STM_RV_POS_LO r) ((x.played + n) / 16)).put (Fld.STM_RV_FILL_BYTES r) (fill - n)
  if low ≤ fill ∧ fill - n < low then
    ((s.raise (Fld.STM_RV_EVENT_FAMINE r)).raise Fld.STM_EVENT_FAMINE).count (Fld.STM_RV_COUNT_FAMINE r)
  else s

/-! ### Fetching (R179, R139, R158, R140) -/

/-- A sample component scaled by the amplitude (R140), both S1.15. -/
def scaleSample (x amp : Nat) : Int := clampInt (-32768) 32767 (roundAway (sgn 16 x * sgn 16 amp) 15)

/-- The 32-bit words of one tick as pairs of 16-bit halves, low half first. -/
def halves (n : Nat) : Nat → List (Nat × Nat)
  | 0 => []
  | k + 1 => (n % 65536, n / 65536 % 65536) :: halves (n / 2 ^ 32) k

/-- The envelope words that a target takes per tick (R179). -/
def wordsPerTick (t : Nat) : Nat := if t < 512 then 4 else 2

/-- The chain `c` of target `t` has played one more tick. -/
def playTick (t : Nat) (c : Chain) (s : State) : State :=
  s.setTgt t { s.tgt t with
    chain := some { c with done := c.done + 1, next := s.tick + 1 },
    busyTill := s.tick + 1 + ballDepth t + (if (if t < 512 then c.dly else c.dly / 16) = 0 then 0 else 1) }

/-- The chain of a target takes one tick of its segment: the words fetched, low word first, as one number, and the state after
it; none when it plays nothing in this tick. An underrun ends the chain. -/
def fetchWords (t : Nat) (s : State) : Option Nat × State :=
  match (s.tgt t).chain with
  | none => (none, s)
  | some c =>
    let g := s.segNow t
    let bytes := 4 * wordsPerTick t
    if s.tick < c.next ∨ g.len ≤ c.done then (none, s)
    else
      let first := c.done == 0 && s.fld (Fld.STM_TGT_PASS_PASS t) == 0
      let zero := (s.tgt t).zeroTick == some s.tick
      if g.roving then
        let x := s.stream g.stream
        if s.fld (Fld.STM_RV_STATUS_STATE g.stream) ≠ rvReady ∧ (first ∨ s.fld (Fld.STM_RV_STATUS_STATE g.stream) ≠ rvPriming) then
          (none, underrun t g.stream 3 c s)
        else if s.fld (Fld.STM_RV_FILL_BYTES g.stream) < bytes then
          let len := s.fld (Fld.STM_RV_LEN_VALUE g.stream)
          let cause := if x.failed then 2 else if !s.bit (Fld.STM_RV_CFG_WRAP g.stream) && decide (len ≤ x.asked) && x.reqs.isEmpty
            then 1 else 0
          (none, underrun t g.stream cause c s)
        else
          let w := s.sramNat (s.ringAddr g.stream x.played) bytes
          (some (if zero then 0 else w), consume g.stream bytes (playTick t c s))
      else
        let w := s.sramNat (envBase + 4 * g.start + bytes * c.done) bytes
        (some (if zero then 0 else w), playTick t c s)

/-! ### The drive and probe path -/

/-- The samples kept for the interpolator: twice its depth of 56, and the present tick (R141). -/
def histLen : Nat := 116

/-- The interpolator's response by phase: entry `r` holds its coefficients `r`, `r` + 16, `r` + 32 and so on. -/
def interpPhases : List (List Int) :=
  let n := interpKernel.length / 16 + 1
  (List.range 16).map fun r => (List.range n).map fun e => interpKernel.getD (16 * e + r) 0

/-- The interpolated pair at a DAC sample counted from the first one of the newest tick (R141), S2.16, rounded to either neighbour and within
±1.15, from the samples fetched up to that tick, newest first (log entry 21). -/
def interpolated (h : List (Int × Int)) (p : Int) : Int × Int :=
  let taps := interpPhases.getD (p % 16).toNat []
  let xs := h.drop ((63 - p) / 16).toNat
  let hold := fun v => clampInt (-75366) 75366 (roundOpen v (2 ^ 89))
  (hold (List.zipWith (fun k x => k * x.1) taps xs).sum, hold (List.zipWith (fun k x => k * x.2) taps xs).sum)

/-- The real tone value of one DAC sample (R147), in units of 2^-33: the rule gives the width of the looked-up values and the model takes them
as S1.17 (DESIGN CHOICE, log entry 22). -/
def toneValue (iq : Int × Int) (theta : Nat) : Int :=
  let x := theta / 2 ^ 28
  iq.1 * cosLookup x - iq.2 * sinLookup x

/-- The sinc factor of a tuning word on a port, in units of 2^-32 (R148). -/
def State.sinc (s : State) (p ftw : Nat) : Int :=
  if s.bit (Fld.SYN_PORT_CFG_SINC_COMP p) then (sincFactor ftw : Int) else 2 ^ 32

/-- The values of one tone in the 64 DAC samples of a tick, in units of 2^-65: the delayed samples of the tick before up to
the new delay, then the samples of this tick (R151 to R154, R147, R148). -/
def State.toneValues (s : State) (p k : Nat) (old : Option Lag) (new : Option Lag) (h : List (Int × Int)) : List Int :=
  (List.range 64).map fun j =>
    let a := 64 * s.tick + j + mixerDepth
    let coh := s.coherent k
    let val := fun (l : Lag) =>
      if l.muted then 0
      else toneValue (interpolated h ((j : Int) - l.dly)) (l.nco.theta coh s.glb.syncTick a) * s.sinc p l.nco.ftw
    match new with
    | some l =>
      if l.dly ≤ j then val l
      else match old with
        | some o => if j < o.dly then val o else 0
        | none => 0
    | none => match old with
      | some o => if j < o.dly then val o else 0
      | none => 0

/-- Scaled complex samples of the words of one tick, newest first (R139, R140). -/
def scaledPairs (w amp : Nat) : List (Int × Int) :=
  ((halves w 4).map fun x => (scaleSample x.1 amp, scaleSample x.2 amp)).reverse

/-- One tone of an RF port in this tick: it is fetched, and its 64 values join the port's sums. The Bool tells that samples of
a pulse were fetched. -/
def fetchTone (p t : Nat) (acc : (List Int × Bool) × State) : (List Int × Bool) × State :=
  let s := takeUp t acc.2
  let (w, s) := fetchWords t s
  let x := s.tgt t
  let amp := (x.chain.map (·.amp)).getD 0
  let new := match w, x.chain with
    | some _, some c => some ⟨c.dly, c.muted, c.nco⟩
    | _, _ => none
  let h := ((match w with | some w => scaledPairs w amp | none => List.replicate 4 (0, 0)) ++ x.hist).take histLen
  let vals := s.toneValues p t x.lag new h
  let s := s.setTgt t { s.tgt t with hist := if h.all (· == (0, 0)) then [] else h, lag := new }
  ((List.zipWith (· + ·) acc.1.1 vals, acc.1.2 || w.isSome), s)

/-- The comb plays in an envelope sample (R224). -/
def ArrPair.combAt (x : ArrPair) (m : Nat) : Bool := if m < x.combDue then x.combOld else x.combNew

/-- An array pair. -/
def State.arrPair (s : State) (a : Nat) : ArrPair := sget (fun _ => {}) s.rdo.pair a

/-- Store an array pair. -/
def State.setArrPair (s : State) (a : Nat) (x : ArrPair) : State :=
  { s with rdo := { s.rdo with pair := sset (fun _ => {}) s.rdo.pair a x } }

/-- Amplitudes and phases (2^-32 turns) of the enabled comb tones in envelope sample `m` since SYNC (R223). -/
def State.combTones (s : State) (a m : Nat) : List (Nat × Nat) :=
  ((List.range 1024).filter fun i => s.bit (Fld.RDO_ARR_TONE_C_EN a i)).map fun i =>
    (s.fld (Fld.RDO_ARR_TONE_C_AMP a i),
     ((s.rd (Reg.RDO_ARR_TONE_F a i)).toNat * m + s.fld (Fld.RDO_ARR_TONE_P_COMB_PH a i) * 65536) % 2 ^ 32)

/-- The sum of the tones of R223 by a function of the phase, scaled and rounded, S1.15. -/
def combSum (tones : List (Nat × Nat)) (scale : Nat) (wave : Int → Nat → Int) : Int :=
  roundAway (scale * (tones.map fun t => (t.1 : Int) * wave t.2 (2 ^ 32)).sum) 144

/-- One comb sample, saturated to S1.15, and how many of its components saturated (R223). -/
def State.combSample (s : State) (a m : Nat) : (Int × Int) × Nat :=
  let tones := s.combTones a m
  let scale := s.fld (Fld.RDO_ARR_CFG_COMB_SCALE a)
  let y := (combSum tones scale cosTurns, combSum tones scale sinTurns)
  let c := (satInt 16 y.1, satInt 16 y.2)
  (c, b2n (c.1 != y.1) + b2n (c.2 != y.2))

/-- The comb of an array pair in this tick, as the port's only tone (R223, R224). -/
def combTick (a : Nat) (s : State) : List Int × State :=
  let x := s.arrPair a
  let m0 := 4 * s.sinceSync
  let ys := (List.range 4).map fun i =>
    if x.combAt (m0 + i) && s.outputsActive then s.combSample a (m0 + i) else ((0, 0), 0)
  let clips := (ys.map Prod.snd).sum
  let s := if clips = 0 then s else
    ((s.count (Fld.RDO_ARR_CLIP_CNT_COUNT a) clips).raise (Fld.RDO_ARR_EVENT_COMB_CLIP a)).raise Fld.RDO_EVENT_COMB_CLIP
  let h := ((ys.map Prod.fst).reverse ++ x.hist).take histLen
  let s := s.setArrPair a { x with hist := if h.all (· == (0, 0)) then [] else h }
  let o : Nco := { ftw := (s.rd64 (Reg.RDO_ARR_BAND_LO a)) % 2 ^ 48 }
  let vals := (List.range 64).map fun (j : Nat) =>
    toneValue (interpolated h (j : Int)) (o.theta true s.glb.syncTick (64 * s.tick + j + mixerDepth)) *
      s.sinc (32 + a) o.ftw
  (vals, s)

/-- PRB[a] is in an array pair (R218). -/
def State.arrayPort (s : State) (a : Nat) : Bool := s.bit (Fld.RDO_ACQ_CFG_MODE a)

/-- The DAC code of a port sum in units of 2^-65 (R149), before the clamp. -/
def rawCode (sum : Int) (gain : Nat) : Int := roundNear (sum * gain) (2 ^ 66)

/-- The samples of a port on their way to its ball. -/
def State.onWay (s : State) (p : Nat) : List OnWay := sget (fun _ => []) s.syn.line p

/-- The codes at a port's ball in this tick (R30, R31, R443, R462, R484): those that reach it, and zero (no codes) where the outputs are not
active, at a port on hold and at a port that is not ACTIVE in the tick in which they reach it (log entry 86). -/
def State.ballCodes (s : State) (p : Nat) : List Int :=
  if s.form != .active || s.sup.hold == some p || s.portState p != 0 then []
  else (((s.onWay p).find? fun x => x.due == s.tick).map (·.codes)).getD []

/-- The current code at a bias ball: 0 mA while the port is not ACTIVE (R484), and else what its source holds. -/
def State.ballBias (s : State) (b : Nat) : Int :=
  if s.portState (192 + b) != 0 then 0 else sgn 20 (s.fld (Fld.SYN_BIA_NOW_CODE b))

/-- The DAC codes that a port's path forms in this tick: they reach the ball `depth` ticks later; what has passed it is gone. -/
def State.setCodes (s : State) (p depth : Nat) (pulse : Bool) (c : List Int) : State :=
  let rest := (s.onWay p).filter fun x => decide (s.tick ≤ x.due)
  let new : List OnWay := if pulse || c.any (· != 0) then [⟨s.tick + depth, c, pulse⟩] else []
  { s with syn := { s.syn with codes := sset (fun _ => []) s.syn.codes p c, line := sset (fun _ => []) s.syn.line p (rest ++ new) } }

/-- Samples of a pulse reach the ball of port `p` in this tick. -/
def State.pulseArrives (s : State) (p : Nat) : Bool := (s.onWay p).any fun x => x.due == s.tick && x.pulse

/-- Samples of a pulse that reach an RF port that is not ACTIVE are lost: 64 of them a tick (R155, R492; log entry 86). -/
def rfArrival (p : Nat) (s : State) : State :=
  if s.pulseArrives p && s.portState p != 0 then
    wakeLate p (((s.count (Fld.SYN_PORT_ASLEEP_CNT_COUNT p) 64).raise (Fld.SYN_PORT_EVENT_ASLEEP p)).raise Fld.SYN_EVENT_ASLEEP)
  else s

/-- Flux samples reach the ball: the tick of the last code that is not zero (R488), and samples of a pulse at a port that is not ACTIVE (R492). -/
def fluxArrival (f : Nat) (s : State) : State :=
  let s := if (s.onWay (64 + f)).any fun x => x.due == s.tick && x.codes.any (· != 0) then s.setFlx f { s.flx f with nzTick := some s.tick } else s
  if s.pulseArrives (64 + f) && s.portState (64 + f) != 0 then wakeLate (64 + f) s else s

/-- The sums of RF port `p` in this tick: the weighted samples of a combined port, else those of its tones. -/
def portSum (p : Nat) (s : State) : (List Int × Bool) × State :=
  if 32 ≤ p ∧ s.arrayPort (p - 32) then
    let (v, s) := combTick (p - 32) s
    ((v, false), s)
  else forAll (fetchTone p) (s.portTgts p) ((List.replicate 64 (0 : Int), false), s)

/-- One tick of RF port `p` at the fetch point, through summation, gain and clipping (R149, R150, R195), and what reaches its ball (R155). -/
def fetchRf (p : Nat) (s : State) : State :=
  let tgts := s.portTgts p
  let zeros := List.replicate 64 (0 : Int)
  let ((sum, any), s) := portSum p s
  let off := !s.bit (Fld.SYN_PORT_CFG_EN p) || tgts.any fun t => s.bit (Fld.STM_TGT_STATUS_MUTED_UR t)
  let raw := sum.map fun v => rawCode v (s.fld (Fld.SYN_PORT_CFG_GAIN p))
  let codes := if off then zeros else raw.map (clampInt (-8191) 8191)
  let clips := if off then 0 else (raw.filter fun c => decide (c < -8191 ∨ 8191 < c)).length
  let s := if clips = 0 then s else
    ((s.count (Fld.SYN_PORT_CLIP_CNT_COUNT p) clips).raise (Fld.SYN_PORT_EVENT_CLIP p)).raise Fld.SYN_EVENT_CLIP
  rfArrival p (s.setCodes p 33 any codes)

/-! ### The flux path -/

/-- One section's state after a sample, S8.40, saturating (R161, R162): A is U0.32, B is S1.31 and `x` is S1.15. -/
def iirStep (a b : Nat) (st x : Int) : Int :=
  satInt 48 (roundOpen ((a : Int) * st * 2 ^ 2 + sgn 32 b * x * 2 ^ 28) (2 ^ 34))

/-- One flux sample through the filter: z in units of 2^-67, and the sections and history after it (R161, R162). -/
def State.fluxStep (s : State) (f : Nat) (v : Flx) (x : Int) : Int × Flx :=
  if s.bit (Fld.SYN_FLX_CFG_PD_EN f) then
    let n := min 8 (s.fld (Fld.SYN_FLX_CFG_NSEC f))
    let sec := (List.range n).map fun k =>
      iirStep (s.fld (Fld.SYN_FLX_IIR_A_COEF f k)) (s.fld (Fld.SYN_FLX_IIR_B_COEF f k)) (v.sec.getD k 0) x
    let y := sgn 32 (s.fld (Fld.SYN_FLX_G_COEF f)) * x + sec.sum * 2 ^ 5
    let ys := y :: v.ys
    let z := (ys.zipIdx.map fun q => sgn 24 (s.fld (Fld.SYN_FLX_FIR_COEF f q.2)) * q.1).sum
    (z, { v with sec := sec, ys := ys.take 47 })
  else (x * 2 ^ 52, v)

/-- The four samples of a tick through the filter, oldest first. -/
def State.fluxSteps (s : State) (f : Nat) : List Int → Flx → List Int × Flx
  | [], v => ([], v)
  | x :: xs, v =>
    let r := s.fluxStep f v x
    let rest := s.fluxSteps f xs r.2
    (r.1 :: rest.1, rest.2)

/-- The flux DAC code before the clamp (R164). -/
def rawFluxCode (z : Int) : Int := roundNear z (2 ^ 52)

/-- One tick of flux port `f` at the fetch point (R158 to R165, R542, R195, R492). -/
def fetchFlux (f : Nat) (s : State) : State :=
  if (s.flx f).last = some s.tick then s
  else
    let t := 512 + f
    let starts := match (s.tgt t).start with
      | some p => decide (p.tick ≤ s.tick)
      | none => false
    let s := takeUp t s
    let (w, s) := fetchWords t s
    let v := s.flx f
    let fill := if s.bit (Fld.SYN_FLX_CFG_HOLD_LAST f) then v.hold else 0
    let chain := (s.tgt t).chain
    let amp := (chain.map (·.amp)).getD 0
    let new := match w with
      | some w => ((halves w 2).map fun x => [scaleSample x.1 amp, scaleSample x.2 amp]).flatten
      | none => []
    let off := if starts then (chain.map (·.dly)).getD 0 / 16 else v.carry.length
    let lead := if starts && w.isSome then (v.carry ++ List.replicate off fill).take off else v.carry
    let str := lead ++ new ++ List.replicate 4 (if w.isSome then 0 else fill)
    let x := str.take 4
    let carry := if w.isSome then (lead ++ new).drop 4 else []
    let hold := new.getLast?.getD v.hold
    let active := s.form == .active
    let (zs, v) := s.fluxSteps f (if active then x else x.map fun _ => 0)
      { (if active then v else { v with sec := [], ys := [] }) with carry := carry, hold := hold, last := some s.tick }
    let v := if active then v else { v with sec := [], ys := [] }
    let raw := zs.map rawFluxCode
    let off := !s.bit (Fld.SYN_FLX_CFG_EN f) || s.bit (Fld.STM_TGT_STATUS_MUTED_UR t)
    let codes := if off then List.replicate 4 0 else raw.map (clampInt (-32767) 32767)
    let clips := if off then 0 else (raw.filter fun c => decide (c < -32767 ∨ 32767 < c)).length
    let s := s.setFlx f v
    let s := if clips = 0 then s else
      ((s.count (Fld.SYN_FLX_CLIP_CNT_COUNT f) clips).raise (Fld.SYN_FLX_EVENT_CLIP f)).raise Fld.SYN_EVENT_FLX_CLIP
    fluxArrival f (s.setCodes (64 + f) 19 w.isSome codes)

end Sys2Proof.Machine
end

