-- ==== Sys2Proof/Machine/FabOps.lean ====
section
/-! DEFINITION. Machine/FabOps.lean: the shared operations of the decision fabric (spec/08): emission on strands, events that
become visible, gates of export groups. -/

namespace Sys2Proof.Machine

/-- The fabric carries events (R259): in M5 and M6. -/
def State.fabricOn (s : State) : Bool := s.mode == 5 || s.mode == 6

/-- A strand is enabled in this tick (R258): a write of FAB_EV_EN acts from the tick after. -/
def State.strandOn (s : State) (k : Nat) : Bool :=
  let w := match sget (fun _ => none) s.fab.enOld (k / 32) with
    | some w => w
    | none => s.rd (Reg.FAB_EV_EN (k / 32))
  w.getLsbD (k % 32)

/-- An event is emitted on one strand, to become visible in tick `vis` (R257, R258). A forced event and the producer's own in one tick are two
events, which coincide (DESIGN CHOICE, log entry 144). -/
def emitOn (k vis : Nat) (s : State) : State :=
  if s.strandOn k then { s with fab := { s.fab with flight := s.fab.flight ++ [(vis, k)] } }
  else (s.count (Fld.FAB_EV_COUNT_DROPPED k)).raise Fld.FAB_EVENT_DROPPED k

/-- A producer (R256) emits an event on every strand that it drives, to become visible in tick `vis`. -/
def emit (prod vis : Nat) (s : State) : State :=
  if s.fabricOn then
    forN 1024 (fun k s => if s.fld (Fld.FAB_EV_CFG_PROD k) = prod then emitOn k vis s else s) s
  else s

/-- The strands' producer codes (R256). -/
def prodDecision (r o : Nat) : Nat := 0x1000 + 8 * r + o
def prodPly (n : Nat) : Nat := 0x2000 + n
def prodMask (t b : Nat) : Nat := 0x3000 + 32 * t + b
def prodDone (t : Nat) : Nat := 0x4000 + t
def prodSout (n o : Nat) : Nat := 0x5000 + 8 * n + o
def prodTrgIn (i : Nat) : Nat := 0x6000 + i
def prodImport (g b : Nat) : Nat := 0x7000 + 16 * g + b

/-- An event is visible at a consumer in this tick and no command has taken it yet. -/
def State.visible (s : State) (cons : Nat) : Bool := s.fab.visTick == s.tick && s.fab.vis.contains cons

/-- An event has reached a consumer in this tick (R261). -/
def State.reached (s : State) (cons : Nat) : Bool := s.fab.visTick == s.tick && s.fab.seen.contains cons

/-- An event on strand `k` becomes visible at its consumer. -/
def showEvent (k cons : Nat) (s : State) : State :=
  let s := if s.fab.visTick = s.tick then s else { s with fab := { s.fab with visTick := s.tick, seen := [], vis := [], shown := [] } }
  { s with fab := { s.fab with seen := cons :: s.fab.seen, vis := cons :: s.fab.vis, shown := k :: s.fab.shown } }

/-- A command takes a visible event. -/
def takeEvent (cons : Nat) (s : State) : State := { s with fab := { s.fab with vis := s.fab.vis.filter (· != cons) } }

/-- A slot event that a disabled group discards is counted (R278). -/
def dropSlot (g : Nat) (s : State) : State :=
  ((s.raise (Fld.FAB_GRP_EVENT_DROPPED g)).raise Fld.FAB_EVENT_DROPPED g).count (Fld.FAB_GRP_COUNT_DROPPED g)

/-- An export group is enabled or disabled; disabling discards its pending slots (R277, R278). -/
def setGate (g : Nat) (on : Bool) (s : State) : State :=
  if s.bit (Fld.FAB_GRP_STATUS_ENABLED g) = on then s
  else
    let s := (s.put (Fld.FAB_GRP_STATUS_ENABLED g) (b2n on)).raise (Fld.FAB_GRP_EVENT_GATE_CHG g)
    if on then s
    else
      let pend := s.fld (Fld.FAB_GRP_STATUS_PENDING g)
      let s := forN 16 (fun b s => if bitOf pend b then dropSlot g s else s) s
      s.put (Fld.FAB_GRP_STATUS_PENDING g) 0

/-- What a trigger input holds. -/
def State.trgIn (s : State) (i : Nat) : TrgIn := sget (fun _ => {}) s.fab.trg i

/-- Store it. -/
def State.setTrgIn (s : State) (i : Nat) (x : TrgIn) : State :=
  { s with fab := { s.fab with trg := sset (fun _ => {}) s.fab.trg i x } }

/-- At a run start the fabric's state is cleared and every enabled trigger input counts as STUCK (R259, R270); an input's previous event stays
known for R269 (DEDUCED, log entry 89). -/
def startFabric (s : State) : State :=
  let s := { s with fab := { s.fab with flight := [], seen := [], vis := [], shown := [], ply := [], ct := [] } }
  let s := forN 512 (fun n s =>
    s.wr (Reg.FAB_PLY_STATUS n) (s.rd (Reg.FAB_PLY_STATUS n) &&& 0x00000300)) s
  let s := forN 16 (fun t s => s.wr (Reg.FAB_CT_STATE t) 0) s
  let s := forN 64 (fun g s =>
    (s.put (Fld.FAB_GRP_STATUS_ENABLED g) (s.fld (Fld.FAB_GRP_CFG_INIT_EN g))).put (Fld.FAB_GRP_STATUS_PENDING g) 0) s
  forN 16 (fun i s =>
    if s.bit (Fld.FAB_TRG_CFG_EN i) then
      (s.put (Fld.FAB_TRG_STATUS_STUCK i) 1).setTrgIn i { s.trgIn i with stuckFrom := s.tick }
    else s) s

/-- Outside M5 and M6 no event is on its way. -/
def stopFabric (s : State) : State :=
  { s with fab := { s.fab with flight := [], seen := [], vis := [], shown := [] }
           later := s.later.filter fun p => match p.2 with
             | .gate .. => false
             | _ => true }

/-! ### Trigger inputs -/

/-- The edge of a trigger input qualifies (R268 to R270): its event, unless the input is stuck, the edge is not of the kind that EDGE
selects, or it comes too early. -/
def trgQualified (i : Nat) (s : State) : State :=
  let x := s.trgIn i
  let level := s.bit (Fld.FAB_TRG_STATUS_LEVEL i)
  let s := s.setTrgIn i { x with open_ := false }
  let chosen := match s.fld (Fld.FAB_TRG_CFG_EDGE i) with
    | 0 => level
    | 1 => !level
    | 2 => true
    | _ => false
  let limit := s.fld (Fld.FAB_TRG_CFG_RATE_LIM i)
  let early := match x.lastEv with
    | some t => decide (s.tick < t + limit)
    | none => false
  if !s.fabricOn || !chosen || s.bit (Fld.FAB_TRG_STATUS_STUCK i) || x.unstuck == some s.tick then s
  else if early then
    ((s.raise (Fld.FAB_TRG_STATUS_RATE i)).count (Fld.FAB_TRG_STATUS_RATE_CNT i)).raise Fld.FAB_EVENT_TRG_RATE i
  else emit (prodTrgIn i) (s.tick + 1) (s.setTrgIn i { s.trgIn i with lastEv := some s.tick })

/-- The level sampled at a trigger input changes (R268): a change that has not qualified reverts and counts as a glitch; the new level
qualifies once it has held for MIN_PULSE + 1 ticks. -/
def trgSample (i : Nat) (level : Bool) (s : State) : State :=
  if s.bit (Fld.FAB_TRG_STATUS_LEVEL i) = level then s
  else
    let x := s.trgIn i
    let on := s.bit (Fld.FAB_TRG_CFG_EN i)
    let wait := s.fld (Fld.FAB_TRG_CFG_MIN_PULSE i)
    let s := if on && x.open_ then s.count (Fld.FAB_TRG_STATUS_GLITCH_CNT i) else s
    let s := (s.put (Fld.FAB_TRG_STATUS_LEVEL i) (b2n level)).setTrgIn i { x with since := s.tick, open_ := on }
    if !on then s
    else if wait = 0 then trgQualified i s
    else { s with later := s.later ++ [(s.tick + wait, .trgQualify i s.tick)] }

/-- The level held since a tick qualifies, if it has not changed since. -/
def trgQualify (i since : Nat) (s : State) : State :=
  if (s.trgIn i).open_ && (s.trgIn i).since == since then trgQualified i s else s

end Sys2Proof.Machine
end

