-- ==== Sys2Proof/Machine/DiscrOps.lean ====
section
/-! DEFINITION. Machine/DiscrOps.lean: the shared operations of discrimination (spec/07): windows, accumulation, classification
and decisions. -/

namespace Sys2Proof.Machine

/-- The first byte of the kernels and classifier tables region (R350). -/
def kernBase : Nat := 0x3400000

/-- Tap `i` of a kernel that begins at tap `base` (R234). -/
def State.kernelTap (s : State) (base i : Nat) : Int × Int :=
  let w := s.sramNat (kernBase + 4 * (base + i)) 4
  (sgn 16 w, sgn 16 (w / 65536))

/-- Profile entry `e` of a set whose first entry is `base`: S_e and G_e (R239). -/
def State.profile (s : State) (base e : Nat) : Nat × Nat :=
  let w := s.sramNat (kernBase + 0x380000 + 4 * (base + e - 1)) 4
  (w % 65536, w / 65536)

/-- A word of the classifier copy that a window latched, by its offset in the copy. -/
def Window.word (w : Window) (off : Nat) : Word := w.set.getD (off / 4) 0

/-- The group that begins at or after the start of the tick in which `dly` ticks have passed since this one (R200, R228). -/
def State.groupAfter (s : State) (dly : Nat) : Nat := (s.sinceSync + dly + 1) / 2

/-- The number of evaluations of a window of `len` samples (R241). -/
def evalCount (len : Nat) : Nat := (len + 7) / 8

/-- Window sample `i` joins the accumulator (R232, R233, R235). -/
def State.accumulate (s : State) (r : Nat) (w : Window) (x : Word) : Window :=
  let settle := x.getLsbD 0
  let ovr := x.getLsbD 16
  let skip := settle && s.fld (Fld.DSC_CH_CFG_SETTLE_POL r) == 1
  let xI : Int := if skip then 0 else sgn 15 (x.toNat / 2)
  let xQ : Int := if skip then 0 else sgn 15 (x.toNat / 2 ^ 17)
  let h := s.kernelTap ((w.word 0).toNat % 2 ^ 20) w.n
  { w with
    n := w.n + 1
    zI := w.zI + h.1 * xI - h.2 * xQ
    zQ := w.zQ + h.1 * xQ + h.2 * xI
    settle := w.settle || settle
    ovr := w.ovr || ovr
    void := w.void || (settle && s.fld (Fld.DSC_CH_CFG_SETTLE_POL r) == 2) || (ovr && s.bit (Fld.DSC_CH_CFG_OVR_VOID r)) }

/-- A channel sample arrives at discrimination; an evaluation starts when its last window sample has arrived (R213, R241). -/
def sampleArrives (r k : Nat) (x : Word) (s : State) : State :=
  let c := s.dscCh r
  match c.win with
  | some w =>
    if k = w.g0 + w.n ∧ w.n < w.len then
      let w := s.accumulate r w x
      let e := evalCount w.n
      let due := if w.n = min (8 * e) w.len then some ⟨e, w.zI, w.zQ, w.settle, w.ovr, w.void⟩ else c.due
      (s.setDscCh r { c with win := some w, due := due }).put (Fld.DSC_CH_STATUS_SAMPLES r) w.n
    else s
  | none => s

/-- The integrated value of one component (R236): S16.16, and whether it saturated. -/
def integrated (z : Int) (shift : Int) : Int × Bool :=
  let v := if 13 ≤ shift then z * ((2 ^ (shift - 13).toNat : Nat) : Int) else roundAway z (13 - shift).toNat
  (satInt 32 v, satInt 32 v != v)

/-- One component of the whitened point (R237): S16.16, and whether it saturated. -/
def whitened (a b vI vQ : Int) : Int × Bool :=
  let p := roundAway (a * vI + b * vQ) 24
  (satInt 32 p, satInt 32 p != p)

/-- The distance of a point from a scaled centre (R240), U32.32, saturating; the low bits' rounding is open (log entry 2). -/
def distance (pI pQ cI cQ : Int) (se : Nat) : Nat :=
  let dI := pI * 2 ^ 15 - (se : Int) * cI
  let dQ := pQ * 2 ^ 15 - (se : Int) * cQ
  min (2 ^ 64 - 1) (roundOpen (dI * dI + dQ * dQ) (2 ^ 30)).toNat

/-- The least distance among classes, the lower index first on equal distances. -/
def leastOf : List (Nat × Nat) → Option (Nat × Nat)
  | [] => none
  | p :: ps => match leastOf ps with
    | some q => if p.2 ≤ q.2 then some p else some q
    | none => some p

/-- A classification (R236 to R240): v, the leading class, CONF, whether v or p saturated, and the state. With no rival
class CONF is open, and with no class the leading class too (log entry 26). -/
structure Classified where
  vI : Int
  vQ : Int
  cls : Nat
  conf : Nat
  satV : Bool
  satP : Bool

/-- The classification of an evaluation. -/
def classify (w : Window) (v : Eval) (s : State) : Classified × State :=
  let shift := sgn 6 ((w.word 4).toNat / 2 ^ 16)
  let vI := integrated v.zI shift
  let vQ := integrated v.zQ shift
  let c := fun (off : Nat) => (w.word off).toInt
  let pI := whitened (c 0x10) (c 0x14) vI.1 vQ.1
  let pQ := whitened (c 0x18) (c 0x1C) vI.1 vQ.1
  let sg := s.profile ((w.word 8).toNat % 2 ^ 17) v.e
  let ds := ((List.range 4).filter fun i => (w.word 4).getLsbD (24 + i)).map fun i =>
    (i, distance pI.1 pQ.1 (c (0x20 + 8 * i)) (c (0x24 + 8 * i)) sg.1)
  match leastOf ds with
  | none =>
    let (x, s) := s.fresh 10
    (⟨vI.1, vQ.1, x % 4, x / 4, vI.2 || vQ.2, pI.2 || pQ.2⟩, s)
  | some lead =>
    match leastOf (ds.filter fun d => d.1 != lead.1) with
    | some rival =>
      (⟨vI.1, vQ.1, lead.1, min 255 (4 * (rival.2 - lead.2) * sg.2 / 2 ^ 40), vI.2 || vQ.2, pI.2 || pQ.2⟩, s)
    | none =>
      let (x, s) := s.fresh 8
      (⟨vI.1, vQ.1, lead.1, x, vI.2 || vQ.2, pI.2 || pQ.2⟩, s)

/-- A decision word (R245). -/
def decisionWord (cls : Nat) (early void settle ovr below : Bool) (kset conf e seq : Nat) : Word :=
  BitVec.ofNat 32 (cls + 4 * b2n early + 8 * b2n void + 16 * b2n settle + 32 * b2n ovr + 64 * b2n below + 128 * kset +
    2 ^ 8 * conf + 2 ^ 16 * e + 2 ^ 25 * seq + 2 ^ 31)

/-- The rule of R242 at an evaluation: the decision it commits, if any. -/
def commitRule (w : Window) (v : Eval) (c : Classified) : Option Decision :=
  let thresh := (w.word 0xC).toNat % 256
  let minE := max 1 ((w.word 0xC).toNat / 256 % 512)
  let last := v.e == evalCount w.len
  let mk := fun (word : Word) => some (⟨word, BitVec.ofInt 32 c.vI, BitVec.ofInt 32 c.vQ⟩ : Decision)
  let ovr := v.ovr || c.satV || c.satP
  if v.void then mk (decisionWord 0 false true v.settle ovr false w.kset 0 v.e w.seq)
  else if last then
    mk (decisionWord c.cls false false v.settle ovr (decide (c.conf < thresh)) w.kset c.conf v.e w.seq)
  else if w.es = 1 ∧ minE ≤ v.e ∧ thresh ≤ c.conf then
    mk (decisionWord c.cls true false v.settle ovr false w.kset c.conf v.e w.seq)
  else none

/-- A stage of an evaluation saturates in tick `due`, the scaling two ticks and the whitening three ticks after its start (R236, R237, R243). -/
def satLater (r due : Nat) (sat : Bool) (s : State) : State :=
  if sat then { s with later := s.later ++ [(due, .satEvent r (s.dscCh r).taken)] } else s

/-- The saturation shows, unless the window has closed since. -/
def satEvent (r : Nat) (taken : Option Nat) (s : State) : State :=
  if (s.dscCh r).win.isSome ∧ (s.dscCh r).taken = taken then (s.raise (Fld.DSC_CH_EVENT_SAT r)).raise Fld.DSC_EVENT_SAT else s

/-- An evaluation starts; the decision it commits is formed six ticks later (R241 to R243). -/
def evaluate (r : Nat) (s : State) : State :=
  let c := s.dscCh r
  match c.win, c.due with
  | some w, some v =>
    let (k, s) := classify w v s
    let s := satLater r (s.tick + 3) k.satP (satLater r (s.tick + 2) k.satV s)
    let form := match c.form, commitRule w v k with
      | some f, _ => some f
      | none, some d => some (s.tick + 6, d)
      | none, none => none
    s.setDscCh r { c with due := none, form := form }
  | _, _ => s

/-- The decision outputs that a decision word drives (R247). -/
def decisionOuts (w : Word) : List Nat :=
  let void := w.getLsbD 3
  (if void then [4] else [w.toNat % 4]) ++ [5] ++ (if w.getLsbD 6 then [6] else [])

/-- A decision is formed when its tick has come (R243 to R247): the window closes, the strand events are on their way, and the
registers load in the next tick. -/
def formDecision (r : Nat) (s : State) : State :=
  let c := s.dscCh r
  match c.form with
  | some (t, d) =>
    if t ≤ s.tick then
      let s := (s.setDscCh r { c with win := none, due := none, form := none }).put (Fld.DSC_CH_STATUS_OPEN r) 0
      let s := forAll (fun o s => emit (prodDecision r o) (s.tick + 12) s) (decisionOuts d.word) s
      let s := { s with pwr := { s.pwr with decisions := s.pwr.decisions + 1 } }
      { s with later := s.later ++ [(s.tick + 1, .loadDecision r s.stampNs d.word d.vI d.vQ)] }
    else s
  | none => s

/-- The tick after a decision is formed (R246): registers, flags and counters. RDDEC shows the word unless an RWIN has been taken
up since. -/
def loadDecision (r ns : Nat) (w vI vQ : Word) (s : State) : State :=
  let s := ((s.wr (Reg.DSC_CH_LAST_DEC r) w).wr (Reg.DSC_CH_LAST_V_I r) vI).wr (Reg.DSC_CH_LAST_V_Q r) vQ
  let s := s.wr64 (Reg.DSC_CH_LAST_T_LO r) ns
  let void := w.getLsbD 3
  let s := s.raise (Fld.DSC_CH_EVENT_DECIDED r)
  let s := s.raiseIf (w.getLsbD 2) (Fld.DSC_CH_EVENT_EARLY r)
  let s := s.raiseIf void (Fld.DSC_CH_EVENT_VOID r)
  let s := s.raiseIf void Fld.DSC_EVENT_VOID
  let s := s.raiseIf (w.getLsbD 4) (Fld.DSC_CH_EVENT_SETTLE r)
  let s := s.raiseIf (w.getLsbD 5) (Fld.DSC_CH_EVENT_OVR r)
  let s := (s.count (Fld.DSC_CH_COUNT_DECISIONS r)).count Fld.DSC_COUNT_DECISIONS
  let s := if w.getLsbD 2 then s.count (Fld.DSC_CH_COUNT_EARLY r) else s
  let s := if void then s.count (Fld.DSC_CH_COUNT2_VOID r) else s
  let c := s.dscCh r
  let newer := match c.taken with
    | some t => decide (s.tick - 1 ≤ t)
    | none => false
  s.setDscCh r { c with decided := !newer, loaded := some s.tick }

/-- An open window closes without a decision. -/
def closeWindow (r : Nat) (s : State) : State :=
  (s.setDscCh r { s.dscCh r with win := none, due := none, form := none }).put (Fld.DSC_CH_STATUS_OPEN r) 0

/-- A window closes in this tick over an uncorrectable read; OPEN reads 0 from the next tick (R230, R352). -/
def breakWindow (r : Nat) (s : State) : State :=
  { s.setDscCh r { s.dscCh r with win := none, due := none, form := none } with later := s.later ++ [(s.tick + 1, .openFalls r)] }

/-- OPEN falls, unless a window has opened since. -/
def openFalls (r : Nat) (s : State) : State := if (s.dscCh r).win.isSome then s else s.put (Fld.DSC_CH_STATUS_OPEN r) 0

/-- On entry to a mode other than M5 and M6 every open window is abandoned (R231). -/
def dropWindows (s : State) : State :=
  forAll (fun r s =>
    let s := if (s.dscCh r).win.isSome then
        (closeWindow r ((s.raise (Fld.DSC_CH_EVENT_WIN_DROP r)).raise Fld.DSC_EVENT_WIN_DROP))
      else s
    s.setDscCh r { s.dscCh r with rwins := [] }) (s.dsc.map Prod.fst) s

/-- The staging values that a swap copies (R250), by their offset in the copy, with the bits concerned. -/
def swapWords : List (Nat × Word) :=
  [(0x04, 0x0F3F0000), (0x0C, 0xFFFFFFFF)] ++ (List.range 12).map fun i => (0x10 + 4 * i, 0xFFFFFFFF)

/-- The requested staging copy of set `k` is swapped into the active copy, or refused (R250). -/
def swapSet (r k : Nat) (s : State) : State :=
  let act := Reg.DSC_SET_K_BASE r k
  let stg := Reg.DSC_STG_K_BASE r k
  let en := s.fld (Fld.DSC_STG_K_CFG_CLS_EN r k)
  let two := decide (2 ≤ b2n (bitOf en 0) + b2n (bitOf en 1) + b2n (bitOf en 2) + b2n (bitOf en 3))
  let s := s.drop ⟨Reg.DSC_CH_SWAP r, k, 1⟩
  if two then
    (forAll (fun p s => s.wr (act + p.1) ((s.rd (act + p.1) &&& ~~~p.2) ||| (s.rd (stg + p.1) &&& p.2))) swapWords s).raise
      (Fld.DSC_CH_EVENT_SWAP_DONE r)
  else (s.raise (Fld.DSC_CH_EVENT_SWAP_REFUSED r)).raise Fld.DSC_EVENT_SWAP_REFUSED

/-- Every swap of a channel that stood requested at the start of the tick acts (R250). -/
def swapSets (r : Nat) (s : State) : State :=
  forN 2 (fun k s =>
    let fresh := (sget (fun _ => 0) s.wrSet (Reg.DSC_CH_SWAP r)).getLsbD k
    if s.bit ⟨Reg.DSC_CH_SWAP r, k, 1⟩ && !fresh then swapSet r k s else s) s

/-- The words of a kernel set, by their offset in the copy. -/
def setWords : List Nat := [0x00, 0x04, 0x08, 0x0C] ++ (List.range 12).map (0x10 + 4 * ·)

/-- At a run start: staging copies become active, and latest decisions and sequence numbers are cleared (R231, R249). -/
def startDiscr (s : State) : State :=
  forN 256 (fun r s =>
    let s := forN 2 (fun k s =>
      forAll (fun i s => s.wr (Reg.DSC_SET_K_BASE r k + i) (s.rd (Reg.DSC_STG_K_BASE r k + i))) setWords s) s
    let s := ((s.wr (Reg.DSC_CH_LAST_DEC r) 0).wr (Reg.DSC_CH_LAST_V_I r) 0).wr (Reg.DSC_CH_LAST_V_Q r) 0
    s.setDscCh r { s.dscCh r with seq := 0, decided := false }) s

end Sys2Proof.Machine
end

