-- ==== Sys2Proof/Machine/SupOps.lean ====
section
/-! DEFINITION. Machine/SupOps.lean: the shared operations of the tension supervisor (spec/14): monitors and thresholds, detections
and their record, active causes, error queues, temperature bands. -/

namespace Sys2Proof.Machine

/-! ### Monitors (R453 to R456, R460) -/

/-- A monitor. -/
def State.mon (s : State) (m : Nat) : Mon := sget (fun _ => {}) s.sup.mon m

/-- Store a monitor. -/
def State.setMon (s : State) (m : Nat) (x : Mon) : State :=
  { s with sup := { s.sup with mon := sset (fun _ => {}) s.sup.mon m x } }

/-- The port of a monitor by R483's numbering (R453). -/
def monPort (m : Nat) : Nat := if m < 48 then m else m + 16

/-- The monitor of an FLX or BIA port by R483's numbering. -/
def portMon (p : Nat) : Nat := p - 16

/-- A monitor is enabled. -/
def State.monOn (s : State) (m : Nat) : Bool := s.bit (Fld.SUP_MON_CFG_EN m)

/-- The power-envelope band (R473). -/
def State.pwrBand (s : State) : Nat :=
  if s.bit Fld.SUP_CFG_COLD_EN then s.fld (Fld.SUP_TS_STATUS_BAND (16 + s.fld Fld.SUP_CFG_COLD_STAGE)) else 0

/-- The calibration band (R473). -/
def State.calBand (s : State) : Nat := ((List.range 6).map fun i => s.fld (Fld.SUP_TS_STATUS_BAND (6 + i))).foldl max 0

/-- The HI code of an RF monitor by the band in force (R454). -/
def State.rfHi (s : State) (m : Nat) : Nat := s.fld (Fld.SYN_PWR_ENV_PEAK m s.pwrBand) / 64

/-- The threshold codes in force (R455): HI, and LO where it is compared. -/
def State.hiCode (s : State) (m : Nat) : Nat :=
  if m < 48 then (if s.spindlesRun then s.rfHi m else s.fld (Fld.SUP_MON_THR_LO m))
  else if m < 176 && !s.spindlesRun then 512 + s.fld Fld.SUP_QUIET_FLX
  else s.fld (Fld.SUP_MON_THR_HI m)
def State.loCode (s : State) (m : Nat) : Nat :=
  if m < 176 && !s.spindlesRun then 512 - s.fld Fld.SUP_QUIET_FLX else s.fld (Fld.SUP_MON_THR_LO m)

/-- The dangerous failure that a level breach of a monitor is under the thresholds in force (R455). -/
def State.levelCause (s : State) (m : Nat) : Nat :=
  if !s.spindlesRun then 5 else if m < 48 then 1 else if m < 176 then 3 else 4

/-- The modes in which a dangerous failure is armed (R446). -/
def State.armed (s : State) (df : Nat) : Bool :=
  if df ≤ 4 ∨ df = 6 ∨ df = 7 then s.spindlesRun
  else if df = 5 then decide (s.mode ≤ 4) || (s.mode == 6 && !s.spindlesRun)
  else if df = 8 ∨ df = 9 then decide (3 ≤ s.mode) && decide (s.mode ≤ 6)
  else decide (s.mode ≤ 6)

/-- A comparator is in use: enabled and not ignored after a switch of thresholds or in a blank (R455, R457, R463). -/
def State.cmpUsed (s : State) (m c : Nat) : Bool :=
  s.monOn m && s.bit (Fld.SUP_MON_STATUS_QUALIFIED m) && !bitOf (s.fld (Fld.SUP_MON_STATUS_CMP_DIS m)) c &&
  !(decide (m < 48) && decide (2 ≤ c)) &&
  (decide (m < 48) || (!s.bit (Fld.SUP_MON_STATUS_BLANKED m) && match s.sup.switched with
    | some t => decide (t + 1000 ≤ s.tick)
    | none => true))

/-- Both comparators of a threshold (HI, or with `lo` LO), or the one left in use, show a qualified breach that counts. -/
def State.levelStands (s : State) (m : Nat) (lo : Bool) : Bool :=
  let cs := (if lo then [2, 3] else [0, 1]).filter (s.cmpUsed m)
  !cs.isEmpty && cs.all (s.mon m).cmps.contains

/-- The dangerous failure that a step breach of a bias monitor is under the thresholds in force (R455). -/
def State.stepCause (s : State) : Nat := if s.spindlesRun then 4 else 5

/-- The breach indication of a monitor is shown: a comparator that counts, the latest evaluation of R458, or a step (R459). -/
def showBreach (m : Nat) (s : State) : State :=
  let x := s.mon m
  s.put (Fld.SUP_MON_STATUS_BREACH m) (b2n (x.cmps.any (s.cmpUsed m) || x.avg || x.step))

/-! ### Detections (R446, R451, R452) -/

/-- A cause is recorded in SUP_TRIP_SEEN (R451). -/
def seen (cause : Nat) (s : State) : State :=
  if cause = 0x20 then s.put Fld.SUP_TRIP_SEEN_S3 1
  else s.put Fld.SUP_TRIP_SEEN_DF (setBit (s.fld Fld.SUP_TRIP_SEEN_DF) (cause - 1))

/-- The first detection since the record was cleared is recorded (R451). -/
def recordFirst (d : Detection) (s : State) : State :=
  if s.bit Fld.SUP_TRIP_VALID then s
  else
    let s := ((s.put Fld.SUP_TRIP_FIRST d.cause).put Fld.SUP_TRIP_OBJECT d.object).put Fld.SUP_TRIP_VALID 1
    let s := s.wr64 Reg.SUP_TRIP_REEL_LO d.ns
    if d.cause = 0x20 then
      ((s.put Fld.SUP_TRIP_ERR_CLASS d.err.1).put Fld.SUP_TRIP_ERR_EVENT d.err.2.1).put Fld.SUP_TRIP_ERR_INSTANCE d.err.2.2
    else s

/-- A detection waits for its reaction; in M7 it is recorded only (R451), and a request of that cycle is refused (R452, R43). -/
def noteDetection (d : Detection) (s : State) : State :=
  if s.mode = 7 then
    let s := recordFirst d (seen d.cause s)
    { s with glb := { s.glb with tripTick := some s.tick } }
  else { s with sup := { s.sup with detect := s.sup.detect ++ [d] } }

/-- A failure is detected where it is armed, and in M7 (R446, R451). -/
def detect (cause object : Nat) (s : State) : State :=
  if s.mode = 7 ∨ s.armed cause then noteDetection ⟨cause, object, (0, 0, 0), if s.reelValid then s.reelNs else 0⟩ s else s

/-- A monitor's FLAG, where set, stands for this dangerous failure too (R452). -/
def addCause (m cause : Nat) (s : State) : State :=
  let x := s.mon m
  let earlier := if s.bit (Fld.SUP_MON_STATUS_FLAG m) then x.causes.filter (· != cause) else []
  s.setMon m { x with causes := cause :: earlier }

/-- A breach becomes qualified: FLAG and VIOL_CNT follow it in every mode (R460), and it is an error of the supervisor where its DF is
not armed (R480). -/
def flagBreach (m cause : Nat) (s : State) : State :=
  let s := addCause m cause s
  let s := ((s.raise (Fld.SUP_MON_STATUS_FLAG m)).count (Fld.SUP_MON_STATUS_VIOL_CNT m)).raise Fld.SUP_EVENT_MON_FLAG
  let s := showBreach m s
  if s.armed cause then s else s.report 12 6 m 1

/-- The monitor's qualified indication shows a breach that counts for dangerous failure `df` (R452). -/
def State.monActive (s : State) (df m : Nat) : Bool :=
  let x := s.mon m
  s.monOn m &&
    (if s.bit (Fld.SUP_MON_CFG_LATCH m) then s.bit (Fld.SUP_MON_STATUS_FLAG m) && x.causes.contains df
     else (x.cmps.any (s.cmpUsed m) && s.levelCause m == df) || (x.avg && df == 2) || (x.step && df == s.stepCause))

/-- The dangerous failures that a monitor's standing indication is under the thresholds in force: its level comparators, DF2, a step. -/
def State.standing (s : State) (m : Nat) : List Nat :=
  let x := s.mon m
  (if s.levelStands m false || s.levelStands m true then [s.levelCause m] else []) ++
    (if x.avg then [2] else []) ++ (if x.step then [s.stepCause] else [])

/-- Conditions that already hold are judged anew, when their failure becomes armed or the thresholds have switched (R447). -/
def rejudge (s : State) : State :=
  forAll (fun m s => forAll (fun df s => detect df m (addCause m df s)) (s.standing m) (showBreach m s)) (s.sup.mon.map Prod.fst) s

/-- A sensor takes part in DF11; on-die sensors always do (R474). -/
def State.tsOn (s : State) (k : Nat) : Bool := decide (k < 16) || s.bit (Fld.SUP_TS_CFG_EN k)
def State.tsLimitOn (s : State) (k : Nat) : Bool := decide (k < 16) || s.bit (Fld.SUP_TS_CFG_LIMIT_EN k)

/-- A sensor's dynamic part. -/
def State.sensor (s : State) (k : Nat) : Sensor := sget (fun _ => {}) s.sup.ts k

/-- A cause is active (R452); 12 stands for the error CLOCK. -/
def State.active (s : State) (cause : Nat) : Bool :=
  match cause with
  | 1 | 2 | 3 | 4 | 5 => (List.range 240).any (s.monActive cause)
  | 6 | 12 => !s.pllLock
  | 9 => !s.bit Fld.SUP_STATUS_ILK
  | 10 => s.sup.df10 || s.sup.mismatch
  | 11 => (List.range 24).any fun k => s.tsOn k && s.tsLimitOn k && (s.sensor k).near
  | _ => false

/-- SUP_TRIP_ACTIVE. -/
def State.activeBits (s : State) : Nat := (List.range 12).foldl (fun n i => if s.active (i + 1) then setBit n (i + 1) else n) 0

/-! ### Qualification (R461) -/

/-- SUP_STATUS.QUALIFIED follows the enabled monitors. -/
def refreshQualified (s : State) : State :=
  permitting (fun s =>
    let q := s.glb.released && (List.range 240).all fun m => !s.monOn m || s.bit (Fld.SUP_MON_STATUS_QUALIFIED m)
    let s := if q && !s.bit Fld.SUP_STATUS_QUALIFIED then s.raise Fld.SUP_EVENT_QUALIFIED else s
    s.put Fld.SUP_STATUS_QUALIFIED (b2n q)) s

/-- A monitor's EN has changed: it is to qualify anew, and nothing of its earlier indication stands. -/
def restartMon (m : Nat) (s : State) : State :=
  let s := s.setMon m { s.mon m with cmps := [], avg := false, step := false, prev := none, blank := none, pend := none }
  let s := (s.put (Fld.SUP_MON_STATUS_QUALIFIED m) 0).put (Fld.SUP_MON_STATUS_BLANKED m) 0
  refreshQualified (showBreach m s)

/-! ### Errors (R476 to R479) -/

/-- The order in which reports of one cycle are taken. -/
def Report.le (a b : Report) : Bool :=
  decide (a.cls < b.cls) || (a.cls == b.cls && (decide (a.ev < b.ev) || (a.ev == b.ev && decide (a.inst ≤ b.inst))))

/-- Put a report into an ordered list, after its equals. -/
def insertReport (r : Report) : List Report → List Report
  | [] => [r]
  | x :: xs => if x.le r then x :: insertReport r xs else r :: x :: xs

/-- The queue of a severity. -/
def State.errQueue (s : State) (sev : Nat) : List ErrEntry := sget (fun _ => []) s.sup.queues sev

/-- Store a queue and show its depth. -/
def State.setErrQueue (s : State) (sev : Nat) (q : List ErrEntry) : State :=
  let s := { s with sup := { s.sup with queues := sset (fun _ => []) s.sup.queues sev q } }
  s.put ⟨Reg.SUP_ERR_DEPTH, 8 * sev, 6⟩ q.length

/-- Two reports are of the same error. -/
def Report.same (a b : Report) : Bool := a.cls == b.cls && a.ev == b.ev && a.inst == b.inst

/-- A new entry's sequence number is taken. -/
def nextSeq (s : State) : Nat × State := (s.sup.seq, { s with sup := { s.sup with seq := (s.sup.seq + 1) % 256 } })

/-- One report is taken (R476, R477, R479). -/
def takeReport (r : Report) (s : State) : State :=
  if r.sev = 3 then
    let s := if s.sup.s3.isNone then
        let (n, s) := nextSeq s
        { s with sup := { s.sup with s3 := some ⟨n, r, 0⟩ } }
      else s
    noteDetection ⟨0x20, 0, (r.cls, r.ev, r.inst), if s.reelValid then s.reelNs else 0⟩ s
  else
    let q := s.errQueue r.sev
    if q.any fun e => e.rep.same r then
      s.setErrQueue r.sev (q.map fun e => if e.rep.same r then { e with again := min 255 (e.again + 1) } else e)
    else if 32 ≤ q.length then
      (s.count ⟨Reg.SUP_ERR_LOST, 8 * r.sev, 8⟩).raise Fld.SUP_EVENT_ERR_LOST
    else
      let (n, s) := nextSeq s
      (s.setErrQueue r.sev (q ++ [⟨n, r, 0⟩])).raise ⟨Reg.SUP_EVENT, 1 + r.sev, 1⟩

/-- The current entry (R478, R479). -/
def State.errCurrent (s : State) : Option ErrEntry :=
  match s.sup.s3 with
  | some e => some e
  | none => [2, 1, 0].findSome? fun sev => (s.errQueue sev).head?

/-! ### Temperature (R469 to R474) -/

/-- A reading lies at or past a value on the sensor's hot side (R469). -/
def State.hotHigh (s : State) (k : Nat) : Bool :=
  decide (k < 16) || !s.bit (Fld.SUP_TS_CFG_MODE k) || !s.bit (Fld.SUP_TS_CFG_POLARITY k)
def atOrPast (high : Bool) (v e : Nat) : Bool := if high then decide (e ≤ v) else decide (v ≤ e)

/-- A reading lies past an edge on the cool side by more than 2 % of it. -/
def wellCool (high : Bool) (v e : Nat) : Bool := if high then decide (50 * v + e < 50 * e) else decide (50 * e + e < 50 * v)

end Sys2Proof.Machine
end

