-- ==== Sys2Proof/Machine/FrontOps.lean ====
section
/-! DEFINITION. Machine/FrontOps.lean: the shared operations of the readout front end (spec/06): groups, the channeliser, changes
and their marking, array tones and their limits. -/

namespace Sys2Proof.Machine

/-- An ACQ port. -/
def State.acq (s : State) (a : Nat) : Acq := sget (fun _ => {}) s.rdo.acq a

/-- Store an ACQ port. -/
def State.setAcq (s : State) (a : Nat) (x : Acq) : State :=
  { s with rdo := { s.rdo with acq := sset (fun _ => {}) s.rdo.acq a x } }

/-- A readout channel. -/
def State.rdoCh (s : State) (r : Nat) : RdoCh := sget (fun _ => {}) s.rdo.ch r

/-- Store a readout channel. -/
def State.setRdoCh (s : State) (r : Nat) (x : RdoCh) : State :=
  { s with rdo := { s.rdo with ch := sset (fun _ => {}) s.rdo.ch r x } }

/-- The tick of the first group boundary after the end of this tick (R200, R201). -/
def State.nextBoundary (s : State) : Nat := if s.sinceSync % 2 = 1 then s.tick + 1 else s.tick + 2

/-- A front-end change is to take effect at the next group boundary (R201). -/
def scheduleChange (c : FrontChange) (s : State) : State :=
  { s with rdo := { s.rdo with changes := s.rdo.changes ++ [(s.nextBoundary, c)] } }

/-- A change of an ACQ port's power state takes effect at the next group boundary (R201, R207); one that still waits is overtaken. -/
def schedulePower (a : Nat) (c : FrontChange) (s : State) : State :=
  scheduleChange c { s with rdo := { s.rdo with
    changes := s.rdo.changes.filter fun p => p.2 != .portOff a && p.2 != .portOn a } }

/-- The readout channels that GLB_RDO_MAP places on ACQ port `a` (R26). -/
def State.acqChannels (s : State) (a : Nat) : List Nat :=
  (List.range 256).filter fun r => s.bit (Fld.GLB_RDO_MAP_VALID r) && s.fld (Fld.GLB_RDO_MAP_PORT r) == a

/-- The decimation factor of an array pair (R219). -/
def State.decim (s : State) (a : Nat) : Nat := 2 ^ s.fld (Fld.RDO_ARR_CFG_DEC a)

/-- Enabled tones of an array pair. -/
def State.enabledTones (s : State) (a : Nat) : List Nat :=
  (List.range 1024).filter fun i => s.bit (Fld.RDO_ARR_TONE_C_EN a i)

/-- The ticks from one tone sample of an array pair to the next (R219). -/
def State.tonePeriod (s : State) (a : Nat) : Nat := 256 * s.decim a

/-- The next `n` samples of a tone after the next bin-sample boundary are marked (R216); each change keeps its own count (R217). A boundary in this
tick is the next one. -/
def markTone (a i n : Nat) (s : State) : State :=
  let x := s.arrPair a
  let p := s.tonePeriod a
  let from_ := (s.sinceSync + 255) / 256 * 256
  let old := (sget (fun _ => []) x.marks i).filter fun m => decide (s.sinceSync ≤ m.2)
  s.setArrPair a { x with marks := sset (fun _ => []) x.marks i (old ++ [(from_, (from_ / p + n) * p)]) }

/-- The sample of a tone whose boundary is `t` ticks after SYNC is marked (R216, R217). -/
def ArrPair.marked (x : ArrPair) (i t : Nat) : Bool :=
  (sget (fun _ => []) x.marks i).any fun m => decide (m.1 < t) && decide (t ≤ m.2)

/-- The marking of a tone that a port change starts (R216). -/
def State.toneSpan (s : State) (a : Nat) : Nat := (16 + s.decim a - 1) / s.decim a + 4

/-- Every tone of an array pair is marked (R216). -/
def markTones (a : Nat) (s : State) : State :=
  if s.arrayPort a then forAll (fun i s => markTone a i (s.toneSpan a) s) (s.enabledTones a) s else s

/-- Raw samples of the next `n` groups are marked. -/
def markRaw (a n : Nat) (s : State) : State :=
  markTones a (s.setAcq a { s.acq a with settle := max (s.acq a).settle (s.sinceSync / 2 + n) })

/-- The channel's next 15 samples are marked (R216). -/
def markChannel (r : Nat) (s : State) : State :=
  s.setRdoCh r { s.rdoCh r with mark := max (s.rdoCh r).mark (s.sinceSync / 2 + 15) }

/-- The tuning word that a readout channel has applied. -/
def State.appliedFtw (s : State) (r : Nat) : Nat := s.rd64 (Reg.RDO_CH_APPLIED_FTW_LO r) % 2 ^ 48

/-- A readout channel applies a tuning word at a group boundary (R209, R211): the words of its latest groups are kept for the span of the
filter. -/
def retuneChannel (r w : Nat) (s : State) : State :=
  let x := s.rdoCh r
  let ws := if x.ftws.isEmpty then [(0, s.appliedFtw r)] else x.ftws
  (s.setRdoCh r { x with ftws := ((s.sinceSync / 2, w) :: ws).take 18 }).wr64 (Reg.RDO_CH_APPLIED_FTW_LO r) w

/-- The tuning word that a readout channel had applied in group `g`. -/
def State.ftwAt (s : State) (r g : Nat) : Nat :=
  match (s.rdoCh r).ftws.find? fun p => decide (p.1 ≤ g) with
  | some p => p.2
  | none => s.appliedFtw r

/-- A front-end change takes effect at a group boundary, with its marking (R201, R204, R206, R207, R211, R216). -/
def applyChange (c : FrontChange) (s : State) : State :=
  match c with
  | .att a v =>
    if s.fld (Fld.RDO_ACQ_STATUS_ATT_NOW a) = v then s else markRaw a 5 (s.put (Fld.RDO_ACQ_STATUS_ATT_NOW a) v)
  | .ftw r w => if s.appliedFtw r = w then s else markChannel r (retuneChannel r w s)
  | .filter r v =>
    if (s.rdoCh r).filter = v then s else markChannel r (s.setRdoCh r { s.rdoCh r with filter := v })
  | .gain r v => s.setRdoCh r { s.rdoCh r with gain := v }
  | .phase r v => s.setRdoCh r { s.rdoCh r with phase := v }
  | .calSet v => forN 16 (fun a s => markRaw a 2 s) (s.put Fld.RDO_STATUS_CAL_SET v)
  | .portOff a => (s.setAcq a { s.acq a with awake := false }).put (Fld.RDO_ACQ_STATUS_ACTIVE a) 0
  | .portOn a => markTones a ((s.setAcq a { s.acq a with awake := true }).put (Fld.RDO_ACQ_STATUS_ACTIVE a) 1)

/-- A readout channel that follows its probe tone takes twice the tuning word that the tone applies (R211). -/
def followTune (k ftw : Nat) (s : State) : State :=
  if 256 ≤ k && k < 512 && s.bit (Fld.RDO_CH_CFG_FOLLOW (k - 256)) then
    scheduleChange (.ftw (k - 256) (2 * ftw % 2 ^ 48)) s
  else s

/-- At a run start each readout channel applies its tuning word (R211). -/
def startReadout (s : State) : State :=
  forN 256 (fun r s =>
    let w := if s.bit (Fld.RDO_CH_CFG_FOLLOW r) then 2 * s.rd64 (Reg.SYN_CH_INIT_FTW_LO (256 + r)) % 2 ^ 48
             else s.rd64 (Reg.RDO_CH_FTW_LO r) % 2 ^ 48
    scheduleChange (.ftw r w) s) s

/-- A raw sample (R202): the ADC code and its flags. -/
def rawSample (code : BitVec 12) (settle : Bool) : Nat :=
  16 * code.toNat + 8 * b2n settle + 4 * b2n (code == 0x800 || code == 0x7FF)

/-- The raw sample of a port that is not awake (R207). -/
def asleepSample : Nat := 8

/-- The ports sample their balls (R543). -/
def State.sampling (s : State) (a : Nat) : Bool := decide (4 ≤ s.mode ∧ s.mode ≤ 6) && (s.acq a).awake

/-- One mixed sample (R209): x × e^(-jθ) for ADC sample `n` since SYNC, by the 18-bit lookups, in units of 2^-28. The rule does not say which
code stands for 1.0; the model takes 2,048, the full scale (DESIGN CHOICE, log entry 142). -/
def mixed (ftw : Nat) (n : Int) (x : Nat) : Int × Int :=
  let p := ((ftw : Int) * n % 2 ^ 48).toNat / 2 ^ 28
  let v := sgn 12 (x / 16)
  (v * cosLookup p, -(v * sinLookup p))

/-- A pair rotated by e^(-j2π·p/q), in units of 2^-128 of the pair's. -/
def rotatedBy (v : Int × Int) (p : Int) (q : Nat) : Int × Int :=
  let c := cosTurns p q
  let d := sinTurns p q
  (v.1 * c + v.2 * d, v.2 * c - v.1 * d)

/-- Pairs weighted by the coefficients of a filter. -/
def weighted (taps : List Int) (xs : List (Int × Int)) : Int × Int :=
  ((List.zipWith (fun t x => t * x.1) taps xs).sum, (List.zipWith (fun t x => t * x.2) taps xs).sum)

/-- A sample word (R214) from components in units of 2^-`n` of S1.14's last bit, and whether one saturated (R215). -/
def sampleWord (v : Int × Int) (n : Nat) (settle ovr : Bool) : Word × Bool :=
  let i := roundAway v.1 n
  let q := roundAway v.2 n
  let sat := satInt 15 i != i || satInt 15 q != q
  (BitVec.ofNat 32 (b2n settle + 2 * twos 15 (satInt 15 i) + 2 ^ 16 * b2n (ovr || sat) + 2 ^ 17 * twos 15 (satInt 15 q)), sat)

/-- The raw groups of a span of 16, newest first; a group before the first counts as not awake. -/
def spanOf (raw : List (List Nat)) : List (List Nat) :=
  (raw ++ List.replicate 16 (List.replicate 64 asleepSample)).take 16

/-- The samples of group `g` mixed by the tuning word that was applied in it (R209). -/
def mixedGroup (ftw : Nat) (g : Int) (xs : List Nat) : List (Int × Int) :=
  xs.zipIdx.map fun p => mixed ftw (64 * g + p.2) p.1

/-- Channel sample `k` of a channel from the span that ends with group `k`, newest group first (R209, R212 to R216). -/
def State.channelSample (s : State) (r k : Nat) (span : List (List Nat)) : Word × Bool :=
  let x := s.rdoCh r
  let m := (span.zipIdx.map fun p => (mixedGroup (s.ftwAt r (k - p.2)) ((k : Int) - p.2) p.1).reverse).flatten
  let y := weighted (channelTaps x.filter) m
  let v := rotatedBy (y.1 * x.gain, y.2 * x.gain) x.phase 65536
  let xs := span.flatten
  let settle := xs.any (fun w => bitOf w 3) || decide (k < x.mark)
  sampleWord v 186 settle (xs.any fun w => bitOf w 2)

/-- A channel sample leaves for discrimination, where it arrives 25 ticks later (R213). -/
def deliverSample (r k : Nat) (span : List (List Nat)) (s : State) : State :=
  let (w, sat) := s.channelSample r k span
  let s := s.put (Fld.RDO_CH_STATUS_SETTLE r) (b2n (w.getLsbD 0))
  let a := s.fld (Fld.GLB_RDO_MAP_PORT r)
  let s := if sat then ((s.count (Fld.RDO_CH_STATUS_SAT r)).raise (Fld.RDO_ACQ_EVENT_SAT a)).raise Fld.RDO_EVENT_SAT else s
  let s := s.setDscCh r { s.dscCh r with sample := some (k, w) }
  let s := s.setRdoCh r { s.rdoCh r with out := ((k, w) :: (s.rdoCh r).out).take 14 }
  if (s.dscCh r).win.isSome || !(s.dscCh r).rwins.isEmpty then
    { s with later := s.later ++ [(s.tick + 25, .sampleArrives r k w)] }
  else s

/-! ### Array tones (R218 to R225) -/

/-- The bin of a tone offset (R220): the one whose centre lies nearest, centres 2^21 units of OFF apart. -/
def toneBin (off : Int) : Int := (off + 2 ^ 20) / 2 ^ 21

/-- The offset lies within ±800 MHz. -/
def offInBand (off : Int) : Bool := decide (5 * off.natAbs ≤ 2 * 2 ^ 32)

/-- The offset lies close enough to its bin's centre (R220). -/
def nearBin (off : Int) : Bool := decide (5 * (off - toneBin off * 2 ^ 21).natAbs ≤ 2 * 2 ^ 21)

/-- The entry in force for a tone: TONE_F, TONE_C and TONE_P; an accepted entry that waits for its boundary counts. -/
def State.toneEntry (s : State) (a i : Nat) : Word × Word × Word :=
  match (s.arrPair a).accepted.find? (·.1 == i) with
  | some e => e.2.2
  | none => (s.rd (Reg.RDO_ARR_TONE_F a i), s.rd (Reg.RDO_ARR_TONE_C a i), s.rd (Reg.RDO_ARR_TONE_P a i))

/-- The tone entry keeps R220 among the other enabled tones of its pair. -/
def State.toneFits (s : State) (a i : Nat) (f c : Word) : Bool :=
  offInBand f.toInt &&
  (!c.getLsbD 0 ||
    (nearBin f.toInt && (List.range 1024).all fun j =>
      j == i || !(s.toneEntry a j).2.1.getLsbD 0 || toneBin (s.toneEntry a j).1.toInt != toneBin f.toInt))

/-- The band decimator's eight samples of the group that has just ended, newest first, in units of 2^-58 (R219): each spans the 256 ADC samples
up to its own. -/
def State.bandSamples (s : State) (a g : Nat) (raw : List (List Nat)) : List (Int × Int) :=
  let ftw := 2 * (s.rd64 (Reg.RDO_ARR_BAND_LO a) % 2 ^ 48)
  let xs := ((spanOf raw).take 5).zipIdx.map fun p => (mixedGroup ftw ((g : Int) - p.2) p.1).reverse
  (List.range 8).map fun j => weighted bandTaps (xs.flatten.drop (8 * j))

/-- The centre of the span of band sample `q` since SYNC, as a time in units of a sixteenth of a band sample (log entry 25). -/
def bandTime (q : Int) : Int := 16 * q + 8 - bandSpan

/-- A tone's bin sample of the boundary at which `q` band samples have been taken since SYNC, mixed by the tone's residual, in units of 2^-344
(R219 to R221): bin `b` of the bank, then the residual at the centre of the bin sample's span. -/
def binSample (base : List (Int × Int)) (off : Int) (q : Int) : Int × Int :=
  let b := toneBin off
  let turned := base.zipIdx.map fun p => rotatedBy p.1 (b * bandTime (q - 1 - p.2)) (2 ^ 15)
  rotatedBy (weighted binTaps turned) ((off - b * 2 ^ 21) * (bandTime (q - 1) - 8 * 16383)) (2 ^ 36)

/-- The array receive path of a pair takes the group that has just ended: eight band samples, and at a bin-sample boundary a bin sample of each
enabled tone (R219). Where groups are missing before this one, the paths begin anew, and the missing ones count as not awake (R216). -/
def arrayGroup (a g : Nat) (s : State) : State :=
  let x := s.arrPair a
  let broken := (s.acq a).raw.length == 1
  let x := if broken then { x with base := [], bins := [] } else x
  let sleep := if !s.sampling a then some g else if broken then (if g = 0 then none else some (g - 1)) else x.sleepGroup
  let base := (s.bandSamples a g (s.acq a).raw ++ x.base).take 16384
  let q : Int := 8 * (g + 1)
  let bins := if (g + 1) % 128 = 0 then (s.enabledTones a).map fun i =>
      (i, ((binSample base (sgn 32 (s.fld (Fld.RDO_ARR_TONE_F_OFF a i))) q) :: sget (fun _ => []) x.bins i).take (4 * s.decim a))
    else x.bins
  let over_ := ((s.acq a).raw.headD []).any fun w => bitOf w 2
  s.setArrPair a { x with base := base, bins := bins, ovrGroup := if over_ then some g else x.ovrGroup, sleepGroup := sleep }

/-- The ticks of raw samples that a tone sample's span covers: 4·D bin samples, each of 16 bin periods, and the band decimator's span
(R219, log entry 25). -/
def State.toneSpanTicks (s : State) (a : Nat) : Nat := 256 * (4 * s.decim a + 15) + bandSpan / 32

/-- A group lies in the span of the tone sample whose boundary is in this tick (R216). -/
def State.inToneSpan (s : State) (a : Nat) (g : Option Nat) : Bool :=
  match g with
  | some g => decide (s.sinceSync < 2 * (g + 1) + s.toneSpanTicks a)
  | none => false

/-- COMB_ON as its register now has it takes effect at the next envelope sample whose index is a multiple of 16, counted from the first sample
after this tick (R224; log entry 143). -/
def combFollows (a : Nat) (s : State) : State :=
  let on := s.bit (Fld.RDO_ARR_CFG_COMB_ON a)
  let x := s.arrPair a
  let m := 4 * s.sinceSync
  if x.combNew = on then s
  else s.setArrPair a { x with combOld := x.combAt (m + 3), combNew := on, combDue := (m + 4 + 15) / 16 * 16 }

/-- The comb's term of R157 in units of 2^-154, with the amplitudes given: the smaller of 1 and COMB_SCALE² × Σ AMP², by GAIN²
and the square of the sinc factor. -/
def State.combPower (s : State) (a : Nat) (amps : List Nat) : Nat :=
  let sc := s.fld (Fld.RDO_ARR_CFG_COMB_SCALE a)
  let p := min (2 ^ 62) (sc * sc * (amps.map fun x => x * x).sum)
  let g := s.fld (Fld.SYN_PORT_CFG_GAIN (32 + a))
  let k := (s.sinc (32 + a) (s.rd64 (Reg.RDO_ARR_BAND_LO a) % 2 ^ 48)).toNat
  p * (g * g) * (k * k)

/-- A term in units of 2^-154 lies above PEAK of the band in force on an RF port (R156, R157). -/
def State.abovePeak (s : State) (p x : Nat) : Bool :=
  decide (s.fld (Fld.SYN_PWR_ENV_PEAK p s.pwrBand) * 2 ^ 139 < x)

/-- The amplitudes of a pair's enabled tones with tone `i`'s entry replaced. -/
def State.combAmps (s : State) (a i : Nat) (c : Word) : List Nat :=
  (List.range 1024).filterMap fun j =>
    let w := if j = i then c else (s.toneEntry a j).2.1
    if w.getLsbD 0 then some (w.toNat / 65536) else none

end Sys2Proof.Machine
end

