-- ==== Sys2Proof/Machine/BobOps.lean ====
section
/-! DEFINITION. Machine/BobOps.lean: the shared operations of the bobbins (spec/10): items, history, triggers, captures and space. -/

namespace Sys2Proof.Machine

/-- A bobbin. -/
def State.bobbin (s : State) (b : Nat) : Bob := sget (fun _ => {}) s.bob b

/-- Store a bobbin. -/
def State.setBob (s : State) (b : Nat) (x : Bob) : State := { s with bob := sset (fun _ => {}) s.bob b x }

/-- The state of a bobbin (R331): 0 IDLE, 1 ARMED, 2 CAPTURING, 3 WAITING, 4 DONE. -/
def State.bobState (s : State) (b : Nat) : Nat := s.fld (Fld.BOB_STATUS_STATE b)

/-- The bytes of its ring. -/
def bobRingSize : Nat := 655360

/-- The first byte of a bobbin's ring in SRAM (R350). -/
def bobRingBase (b : Nat) : Nat := 0x2000000 + 0xA0000 * b

/-- Stream positions (R328). -/
def State.bobWr (s : State) (b : Nat) : Nat := s.rd64 (Reg.BOB_WR_LO b)
def State.bobSpilled (s : State) (b : Nat) : Nat := s.rd64 (Reg.BOB_SPILLED_LO b)
def State.bobRd (s : State) (b : Nat) : Nat := s.rd64 (Reg.BOB_RD_LO b)

/-- Bobbins spill (R326). -/
def State.spills (s : State) (b : Nat) : Bool := s.bit (Fld.BOB_CFG_SPILL_EN b)

/-- The size of the source's items (R320). -/
def State.itemSize (s : State) (b : Nat) : Nat :=
  match s.fld (Fld.BOB_SRC_KIND b) with
  | 1 => 2
  | 2 => 4 * (s.fld (Fld.BOB_SRC_NM1 b) + 1)
  | 3 => 4 * (s.fld (Fld.BOB_SRC_NM1 b) + 1)
  | _ => 16

/-- The full rate of a bobbin's source (R320), in bytes per second. -/
def State.fullRate (s : State) (b : Nat) : Nat :=
  let n := s.fld (Fld.BOB_SRC_NM1 b) + 1
  match s.fld (Fld.BOB_SRC_KIND b) with
  | 0 => 0
  | 1 => 32000000000
  | 2 => n * 1000000000
  | 3 => 4 * n * 1953125 / s.decim (s.fld (Fld.BOB_SRC_BASE b) / 1024)
  | _ => 8000000000

/-- Free space in the ring (R328). -/
def State.ringFree (s : State) (b : Nat) : Nat :=
  bobRingSize - (s.bobWr b - (if s.spills b then s.bobSpilled b else s.bobRd b))

/-- The size of the spill area. -/
def State.spillArea (s : State) (b : Nat) : Nat := s.fld (Fld.BOB_SPILL_SIZE_VALUE b) % 2 ^ 24 * 4096

/-- Free space of a bobbin (R328): in its ring, and with spill in DRAM too. -/
def State.bobFree (s : State) (b : Nat) : Nat :=
  if s.spills b then min (s.ringFree b) (s.spillArea b - (s.bobSpilled b - s.bobRd b)) else s.ringFree b

/-- The space that an arming needs: PRE items and 4 KiB (R329, R341). -/
def State.bobNeeds (s : State) (b : Nat) : Nat := s.fld (Fld.BOB_PRE_COUNT b) * s.itemSize b + 4096

/-- The position of the oldest history item (R329). -/
def State.bobHist (s : State) (b : Nat) : Nat := s.bobWr b - (s.bobbin b).hist * s.itemSize b

/-- History changes to `n` items; PRE_FULL follows. -/
def setHist (b n : Nat) (s : State) : State :=
  (s.setBob b { s.bobbin b with hist := n }).put (Fld.BOB_STATUS_PRE_FULL b) (b2n (n == s.fld (Fld.BOB_PRE_COUNT b)))

/-- A bobbin enters a state. -/
def enterBob (b st : Nat) (s : State) : State := s.put (Fld.BOB_STATUS_STATE b) st

/-- BOB_SPILLED passes over discarded history up to HIST (R329), once no captured data before it is still to be spilled (R330; log entry 146). -/
def passHistory (b : Nat) (s : State) : State :=
  let x := s.bobbin b
  if s.spills b && x.spill.isEmpty && x.todo.isEmpty then
    (s.wr64 (Reg.BOB_SPILLED_LO b) (s.bobHist b)).setBob b { x with issued := s.bobHist b }
  else s

/-- A bobbin's waiting records are dropped; records lost behind them are lost where it stands. -/
def dropRecords (b : Nat) (s : State) : State :=
  let x := s.bobbin b
  s.setBob b { x with q := [], losts := x.losts.map (min (s.bobWr b)) }

/-- A bobbin waits for space or entries (R329, R341): its whole history is discarded and a trigger that it carried is IGNORED (R347). -/
def bobWaits (b : Nat) (full low : Bool) (s : State) : State :=
  let x := s.bobbin b
  let s := if x.carry.isSome then s.count (Fld.BOB_COUNT2_IGNORED b) else s
  let s := dropRecords b (s.setBob b { x with carry := none, rearm := none })
  let s := (setHist b 0 (enterBob b 3 s)).put (Fld.BOB_STATUS_DIR_FULL b) (b2n full)
  passHistory b (s.put (Fld.BOB_STATUS_SPACE_LOW b) (b2n low))

/-- What an ARMED bobbin does with its positions in every tick (R329). -/
def tidyBob (b : Nat) (s : State) : State :=
  if s.bobState b = 1 then
    let s := passHistory b s
    if (s.bobbin b).capEnd ≤ s.bobRd b then s.wr64 (Reg.BOB_RD_LO b) (s.bobHist b)
    else if s.bobFree b < s.bobNeeds b then bobWaits b false true s
    else s
  else s

/-- A bobbin becomes ARMED with what its history holds (R332, R341): conditions are latched, AUTO starts anew, and times from which a condition
identifies an item still to come stand (R333); the trigger that a capture's last item identified is the first of this arming (R347). -/
def armBob (b : Nat) (s : State) : State :=
  let x := s.bobbin b
  let marks := match x.carry with
    | some (t, flags) => ((List.range 6).filter fun c => bitOf flags c).map fun c => (c, t)
    | none => []
  let s := s.setBob b { x with
    armReel := s.tln.reel, autoDone := false, reelDone := [], marks := marks ++ x.marks.filter (·.1 != 5), carry := none, rearm := none, prev := [],
    tcT := (List.range 4).map fun c => s.rd64 (Reg.BOB_TC_T_LO b c) }
  let s := (enterBob b 1 s).put (Fld.BOB_STATUS_DIR_FULL b) 0
  tidyBob b (s.put (Fld.BOB_STATUS_SPACE_LOW b) 0)

/-- A bobbin is armed by the host or at a run start (R332), with an empty history. -/
def bobArm (b : Nat) (s : State) : State :=
  if s.bit (Fld.BOB_CFG_EN b) ∧ (s.mode = 5 ∨ s.mode = 6) ∧ (s.bobState b = 0 ∨ s.bobState b = 4) then
    let x := s.bobbin b
    armBob b (setHist b 0 (s.setBob b { x with q := [], lostBefore := false, last := none, carry := none,
                                               settles := [], ovrs := [], viols := [], losts := [] }))
  else s

/-- A condition identifies the first item from time `t` on (R333). -/
def markTrigger (b c t : Nat) (s : State) : State :=
  let x := s.bobbin b
  if s.bobState b = 1 ∨ s.bobState b = 2 then s.setBob b { x with marks := x.marks ++ [(c, t)] } else s

/-- Events are visible at a bobbin's trigger input (R333, R335). -/
def bobStrand (b : Nat) (s : State) : State :=
  forN 4 (fun c s => if s.fld (Fld.BOB_TC_CFG_TYPE b c) = 1 then markTrigger b c s.tln.reel s else s) s

/-- Condition `c` of a bobbin is a WINDOW. -/
def State.isWindow (s : State) (b c : Nat) : Bool := decide (c < 4) && s.fld (Fld.BOB_TC_CFG_TYPE b c) == 3

/-- An RWIN on readout channel `r` whose window opens at reel `open_` has been taken up (R333, WINDOW): it identifies an item whatever the
bobbin's state is now. -/
def bobWindow (r open_ : Nat) (s : State) : State :=
  forN 32 (fun b s =>
    forN 4 (fun c s =>
      if s.bit (Fld.BOB_CFG_EN b) ∧ s.isWindow b c ∧ s.fld (Fld.BOB_TC_CFG_SEL b c) % 256 = r then
        let x := s.bobbin b
        s.setBob b { x with marks := x.marks ++ [(c, open_)] }
      else s) s) s

/-- Whether the level of RISE or FALL is crossed from `prev` to `v` (R333). -/
def crosses (rise : Bool) (level prev v : Int) : Bool :=
  if rise then decide (level ≤ v) && decide (prev < level) else decide (v ≤ level) && decide (level < prev)

/-- The conditions that identify an item as a trigger item (R333, R334), as flags. -/
def State.identified (s : State) (b : Nat) (it : BobItem) : Nat :=
  let x := s.bobbin b
  let hit : Nat → Bool := fun c =>
    x.marks.any (fun m => m.1 == c && decide (m.2 ≤ it.t)) ||
    (decide (c < 4) &&
      match s.fld (Fld.BOB_TC_CFG_TYPE b c) with
      | 2 => !x.reelDone.contains c && decide (x.tcT.getD c 0 * 2 ^ 32 ≤ it.t)
      | 4 | 5 =>
        let i := if s.fld (Fld.BOB_SRC_KIND b) = 1 then 0 else s.fld (Fld.BOB_TC_CFG_SEL b c)
        match x.last, it.vals[i]? with
        | some l, some v =>
          !it.settle && crosses (s.fld (Fld.BOB_TC_CFG_TYPE b c) == 4) (sgn 16 (s.fld (Fld.BOB_TC_CFG_LEVEL b c))) (l.getD i 0) v
        | _, _ => false
      | _ => false)
  ((List.range 6).filter hit).foldl (fun n c => n + 2 ^ c) 0

/-- The lowest condition of a set of flags (R334). -/
def lowest (flags : Nat) : Nat := ((List.range 6).find? fun c => bitOf flags c).getD 0

/-- Conditions that an item has met act no more for it: marks up to its time are used up, REEL acts once, and an unmarked item is
the previous value of the next. -/
def useItem (b : Nat) (it : BobItem) (flags : Nat) (s : State) : State :=
  let x := s.bobbin b
  let reels := (List.range 4).filter fun c => bitOf flags c && s.fld (Fld.BOB_TC_CFG_TYPE b c) == 2
  s.setBob b { x with marks := x.marks.filter (fun m => decide (it.t < m.2)), reelDone := x.reelDone ++ reels,
                      last := if it.settle || it.vals.isEmpty then x.last else some it.vals }

/-- An item is written at the stream position (R326, R327). -/
def writeItem (b : Nat) (it : BobItem) (s : State) : State :=
  let p := s.bobWr b
  let s := forAll (fun q s => s.putSram (bobRingBase b + (p + q.2) % bobRingSize) q.1) it.bytes.zipIdx s
  let x := s.bobbin b
  let s := s.setBob b { x with settles := if it.settle then p :: x.settles else x.settles,
                               ovrs := if it.ovr then p :: x.ovrs else x.ovrs }
  s.wr64 (Reg.BOB_WR_LO b) (p + it.bytes.length)

/-- An item joins the history, of at most PRE items (R327). -/
def keepHistory (b : Nat) (it : BobItem) (s : State) : State :=
  let s := writeItem b it s
  setHist b (min ((s.bobbin b).hist + 1) (s.fld (Fld.BOB_PRE_COUNT b))) s

/-- The words of a directory entry (R340). Pre-trigger items are not tested against the mask (R343); a record is lost within the capture where
items of it stand on both sides. -/
def BobEnd.words (e : BobEnd) (size : Nat) : List Word :=
  let c := e.cap
  let seen := fun (l : List Nat) => l.any fun p => decide (c.start ≤ p) && decide (p < e.stop)
  let lost := e.losts.any fun p => decide (c.start < p) && decide (p < e.stop)
  let viols := (e.viols.filter fun p => decide (c.start + e.pre * size ≤ p) && decide (p < e.stop)).length
  let st := 1 + e.extra + 16 * b2n c.short + 32 * b2n (c.src == 4 || c.src == 5) + 64 * b2n c.deferred +
    512 * b2n (decide (0 < viols)) + 2048 * b2n (seen e.settles) + 4096 * b2n (seen e.ovrs) + 8192 * b2n lost +
    2 ^ 16 * min viols 65535
  let ns := c.trigT / 2 ^ 32
  [BitVec.ofNat 32 c.start, BitVec.ofNat 32 (c.start / 2 ^ 32), BitVec.ofNat 32 e.pre, BitVec.ofNat 32 e.post,
   BitVec.ofNat 32 ns, BitVec.ofNat 32 (ns / 2 ^ 32),
   BitVec.ofNat 32 (c.trigT % 2 ^ 32 / 2 ^ 24 + 2 ^ 8 * c.src + 2 ^ 16 * c.flags), BitVec.ofNat 32 st]

/-- What of a capture that ends at `stop` is still to be requested (R330). -/
def State.remainder (s : State) (b start stop : Nat) : List (Nat × Nat) :=
  let from_ := max (s.bobbin b).issued start
  if s.spills b && decide (from_ < stop) then [(from_, stop)] else []

/-- A capture ends before stream position `stop` with `pre` and `post` items; its entry is to be written (R339). A queued trigger
starts a capture at the next item (R336) unless the bobbin is to be DONE; `extra` holds TRUNCATED, TRUNC_CAUSE, CUT, ABORTED and
MASK_STOP, and `soon` tells an entry that waits for no spill. -/
def endCapture (b stop pre post extra : Nat) (soon : Bool) (s : State) : State :=
  let x := s.bobbin b
  match x.cap with
  | none => s
  | some c =>
    let done := s.bit Fld.BOB_CTL_SINGLE || bitOf extra 10
    let e : BobEnd := ⟨s.tick, stop, c, pre, post, extra, soon, done, if stop ≤ s.bobSpilled b then some s.tick else none,
      x.settles, x.ovrs, x.viols, x.losts⟩
    let aborted := bitOf extra 8
    let next : Option BobCap := match x.queued with
      | some (t, src, flags) =>
        if done || aborted then none else some ⟨s.bobWr b, 0, 0, t, src, flags, false, true⟩
      | none => none
    let s := s.setBob b { x with cap := next, queued := none, ended := x.ended ++ [e], capEnd := stop, hist := 0,
                                 todo := x.todo ++ s.remainder b c.start stop, issued := max x.issued stop,
                                 settles := x.settles.filter (decide <| stop ≤ ·), ovrs := x.ovrs.filter (decide <| stop ≤ ·),
                                 viols := x.viols.filter (decide <| stop ≤ ·), losts := x.losts.filter (decide <| stop ≤ ·) }
    let s := (s.put (Fld.BOB_STATUS_QUEUED b) 0).put (Fld.BOB_STATUS_PRE_FULL b) (b2n (s.fld (Fld.BOB_PRE_COUNT b) == 0))
    s.raiseIf (bitOf extra 1) (Fld.BOB_EVENT_TRUNCATED b)

/-- Whether an item violates the mask at position `k` from the trigger item (R343). -/
def State.violates (s : State) (b k : Nat) (it : BobItem) : Bool :=
  s.bit (Fld.BOB_MASK_CFG_EN b) && !it.settle &&
    let j := min 4095 (k / 2 ^ s.fld (Fld.BOB_MASK_CFG_SHIFT b))
    let lo := sgn 16 (s.fld (Fld.BOB_MASK_LO b j))
    let hi := sgn 16 (s.fld (Fld.BOB_MASK_HI b j))
    it.vals.any fun v => decide (v < lo) || decide (hi < v)

/-- The next item of the running capture, its trigger item or a later one, is written, tested and may end it (R337, R338, R343, R344); without
spill the item that leaves no room for a next one is the last (R339's entry follows it in the next tick). -/
def captureItem (b : Nat) (it : BobItem) (s : State) : State :=
  match (s.bobbin b).cap with
  | none => s
  | some c =>
    if s.ringFree b < it.bytes.length then
      endCapture b (s.bobWr b) c.pre c.n (2 + (if s.spills b then 12 else 0)) false s
    else
      let p := s.bobWr b
      let viol := s.violates b c.n it
      let s := writeItem b it s
      let x := s.bobbin b
      let s := s.setBob b { x with cap := some { c with n := c.n + 1 }, viols := if viol then p :: x.viols else x.viols }
      let s := s.raiseIf viol (Fld.BOB_EVENT_MASK_VIOL b)
      let stop := viol && s.bit (Fld.BOB_MASK_CFG_STOP b)
      let post := s.fld (Fld.BOB_POST_COUNT b)
      if stop then endCapture b (s.bobWr b) c.pre (c.n + 1) 1024 false s
      else if post ≠ 0 ∧ post ≤ c.n + 1 then endCapture b (s.bobWr b) c.pre (c.n + 1) 0 false s
      else if !s.spills b && decide (s.ringFree b < s.itemSize b) then endCapture b (s.bobWr b) c.pre (c.n + 1) 2 false s
      else s

/-- A trigger while the bobbin is busy (R336). -/
def busyTrigger (b : Nat) (it : BobItem) (flags : Nat) (c : BobCap) (s : State) : State :=
  let s := (s.raise (Fld.BOB_EVENT_TRIG_OVERRUN b)).count (Fld.BOB_COUNT2_OVERRUN b)
  let x := s.bobbin b
  match s.fld (Fld.BOB_CFG_BUSY_POL b) with
  | 1 =>
    if x.queued.isSome then s.count (Fld.BOB_COUNT2_IGNORED b)
    else (s.setBob b { x with queued := some (it.t, lowest flags, flags) }).put (Fld.BOB_STATUS_QUEUED b) 1
  | 2 =>
    let want := s.fld (Fld.BOB_PRE_COUNT b)
    let pre := min want (c.n - 1)
    let start := s.bobWr b - pre * s.itemSize b
    let next : BobCap := ⟨start, pre, 0, it.t, lowest flags, flags, decide (pre < want), false⟩
    let s := endCapture b start c.pre (c.n - pre) 128 false s
    s.setBob b { s.bobbin b with cap := some next }
  | _ => s.count (Fld.BOB_COUNT2_IGNORED b)

/-- An item between a capture's end and the re-arming joins the new history where there is room (R341). -/
def spareItem (b : Nat) (it : BobItem) (s : State) : State :=
  if s.ringFree b < it.bytes.length then setHist b 0 s else keepHistory b it s

/-- A trigger after the last item of a capture, while the bobbin is still CAPTURING (R336): IGNORE discards it. Under QUEUE a deferred capture
starts with the items since that end, under RESTART a capture with them before its trigger item; nothing is left to cut (DESIGN CHOICE, log
entry 147). Where the bobbin is to be DONE the trigger is discarded. -/
def lateTrigger (b : Nat) (it : BobItem) (flags : Nat) (s : State) : State :=
  let s := (s.raise (Fld.BOB_EVENT_TRIG_OVERRUN b)).count (Fld.BOB_COUNT2_OVERRUN b)
  let x := s.bobbin b
  let pol := s.fld (Fld.BOB_CFG_BUSY_POL b)
  let post := s.fld (Fld.BOB_POST_COUNT b)
  let h := if pol = 1 ∧ post ≠ 0 then min x.hist (post - 1) else x.hist
  let start := s.bobWr b - h * s.itemSize b
  if (pol = 1 ∨ pol = 2) ∧ !x.ended.any (·.done) then
    let c : BobCap := if pol = 1 then ⟨start, 0, h, it.t, lowest flags, flags, false, true⟩
      else ⟨start, h, 0, it.t, lowest flags, flags, decide (h < s.fld (Fld.BOB_PRE_COUNT b)), false⟩
    captureItem b it (s.setBob b { x with cap := some c, rearm := none })
  else spareItem b it (s.count (Fld.BOB_COUNT2_IGNORED b))

/-- An item of an ARMED or CAPTURING bobbin (R327, R333 to R337, R341, R347). -/
def takeItem (b : Nat) (it : BobItem) (s : State) : State :=
  let x := s.bobbin b
  if s.bobState b = 1 then
    let flags := s.identified b it
    let s := useItem b it flags s
    if flags = 0 then tidyBob b (keepHistory b it s)
    else
      let pre := x.hist
      let short := decide (pre < s.fld (Fld.BOB_PRE_COUNT b))
      let c : BobCap := ⟨s.bobHist b, pre, 0, it.t, lowest flags, flags, short, false⟩
      captureItem b it (enterBob b 2 (s.setBob b { s.bobbin b with cap := some c }))
  else if s.bobState b = 2 then
    match x.cap with
    | some c =>
      let flags := s.identified b it
      let s := useItem b it flags s
      let post := s.fld (Fld.BOB_POST_COUNT b)
      let last := (post != 0 && decide (post ≤ c.n + 1)) || (!s.spills b && decide (s.ringFree b < 2 * s.itemSize b)) || (s.bit (Fld.BOB_MASK_CFG_STOP b) && s.violates b c.n it)
      if flags = 0 then captureItem b it s
      else if last && decide (it.bytes.length ≤ s.ringFree b) then
        captureItem b it (s.setBob b { s.bobbin b with carry := some (it.t, flags) })
      else captureItem b it (busyTrigger b it flags c s)
    | none =>
      let flags := s.identified b it
      let s := useItem b it flags s
      if flags = 0 then spareItem b it s else lateTrigger b it flags s
  else s

/-- A record finds its queue full and is lost behind what waits there, or joins it (R322); LOST_BEFORE goes into change records. -/
def queueRecord (b : Nat) (it : BobItem) (change : Bool) (s : State) : State :=
  let x := s.bobbin b
  if 64 ≤ x.q.length then
    let s := (s.count (Fld.BOB_COUNT_REC_LOST b)).raise (Fld.BOB_EVENT_REC_LOST b)
    s.setBob b { x with lostBefore := true, losts := (s.bobWr b + 16 * x.q.length) :: x.losts }
  else
    let it := if change && x.lostBefore then
        { it with bytes := it.bytes.mapIdx fun i v => if i = 11 then v ||| 2 else v }
      else it
    s.setBob b { x with q := x.q ++ [it], lostBefore := false }

/-- The record queue is full (R322). -/
def State.bobFull (s : State) (b : Nat) : Bool := decide (64 ≤ (s.bobbin b).q.length)

/-- The queue writes its first record, at most one in a tick (R322). -/
def popRecord (b : Nat) (s : State) : State :=
  let x := s.bobbin b
  match x.q with
  | it :: rest =>
    if x.popTick = some s.tick then s else takeItem b it (s.setBob b { x with q := rest, popTick := some s.tick })
  | [] => s

/-- A change record (R324). -/
def changeRecord (t kind idx : Nat) (first settle ovr : Bool) (v : Word) : BobItem :=
  ⟨t, leBytes 8 (t / 2 ^ 32 % 2 ^ 64) ++ leBytes 1 (t % 2 ^ 32 / 2 ^ 24) ++ leBytes 2 (kind * 2 ^ 14 + idx % 2 ^ 14) ++
      leBytes 1 (b2n first + 4 * b2n settle + 8 * b2n ovr) ++ leBytes 4 v.toNat, settle, ovr, []⟩

/-- The reel `n` ticks ago. -/
def State.reelAgo (s : State) (n : Nat) : Nat := if s.reelRuns then reelBack s.tln.reel n s.tln.segs else s.tln.reel

/-- The components of a sample word, markers cleared (R325, R333). -/
def components (w : Word) : List Int :=
  [sgn 16 (w.toNat % 65536 / 2 * 2), sgn 16 (w.toNat / 65536 / 2 * 2)]

/-- A frame as an item. -/
def frameItem (t : Nat) (ws : List Word) : BobItem :=
  ⟨t, ws.flatMap fun w => leBytes 4 w.toNat, ws.any (·.getLsbD 0), ws.any (·.getLsbD 16), ws.flatMap components⟩

/-- A sample is written by a change source (R325). -/
def sampleChanges (db : Nat) (prev : Option Word) (w : Word) : Bool :=
  match prev with
  | none => true
  | some p =>
    ((components p).zip (components w)).any (fun q => decide (db < (q.1 - q.2).natAbs)) ||
      p.getLsbD 0 != w.getLsbD 0 || p.getLsbD 16 != w.getLsbD 16

/-- The strands of a window with an event visible in this tick, as a bitmap (R325). -/
def State.strandMap (s : State) (base : Nat) : Nat :=
  if s.fab.visTick = s.tick then
    ((List.range 32).filter fun j => s.fab.shown.contains (base + j)).foldl (fun n j => n + 2 ^ j) 0
  else 0

/-- A decision reaches a bobbin in the tick after it was formed (R320, R321, R323, R325). -/
def bobDecision (b r : Nat) (s : State) : State :=
  let kind := s.fld (Fld.BOB_SRC_KIND b)
  let w := s.rd (Reg.DSC_CH_LAST_DEC r)
  let t := s.reelAgo 1
  let ns := s.rd64 (Reg.DSC_CH_LAST_T_LO r)
  if kind = 4 then
    queueRecord b ⟨t, leBytes 8 ns ++ leBytes 4 w.toNat ++ leBytes 2 r ++ leBytes 2 0, w.getLsbD 4, w.getLsbD 5, []⟩ false s
  else if kind = 5 then
    queueRecord b ⟨t, leBytes 4 (s.rd (Reg.DSC_CH_LAST_V_I r)).toNat ++ leBytes 4 (s.rd (Reg.DSC_CH_LAST_V_Q r)).toNat ++
      leBytes 4 w.toNat ++ leBytes 2 r ++ leBytes 2 ns, w.getLsbD 4, w.getLsbD 5, []⟩ false s
  else
    let x := s.bobbin b
    let prev := sget (fun _ => none) x.prev r
    let s := s.setBob b { x with prev := sset (fun _ => none) x.prev r (some w) }
    let changed : Bool := match prev with
      | none => true
      | some p => p.toNat % 4 != w.toNat % 4 || p.getLsbD 3 != w.getLsbD 3
    if changed then queueRecord b (changeRecord t 1 r prev.isNone (w.getLsbD 4) (w.getLsbD 5) w) true s else s

/-- A channel or tone sample reaches a change source (R325); what finds the queue full is not the last recorded sample. -/
def bobSample (b i t : Nat) (w : Word) (s : State) : State :=
  let x := s.bobbin b
  let prev := sget (fun _ => none) x.prev i
  if sampleChanges (s.fld (Fld.BOB_DB_COUNT b) % 65536) prev w then
    let kind := if s.fld (Fld.BOB_SRC_KIND b) = 8 then 2 else 3
    queueRecord b (changeRecord t kind i prev.isNone (w.getLsbD 0) (w.getLsbD 16) w) true
      (if s.bobFull b then s else s.setBob b { x with prev := sset (fun _ => none) x.prev i (some w) })
  else s

/-- The ticks from a tone sample's tag to its arrival (R222). -/
def State.toneAge (s : State) (b : Nat) : Nat := 2125 + 512 * s.decim (s.fld (Fld.BOB_SRC_BASE b) / 1024)

/-- The sample of a readout channel that reaches discrimination and the bobbins in this tick: that of the group that ended 25 ticks ago (R213). -/
def State.channelArrival (s : State) (r : Nat) : Option Word :=
  if s.sinceSync % 2 = 1 ∧ 27 ≤ s.sinceSync then ((s.rdoCh r).out.find? fun p => p.1 == (s.sinceSync - 27) / 2).map Prod.snd else none

/-- The sample of a tone (pair × 1,024 + tone) that reaches the bobbins in this tick: that of the boundary 201 ticks ago (R222). -/
def State.toneArrival (s : State) (i : Nat) : Option Word :=
  match sget (fun _ => none) (s.arrPair (i / 1024)).last (i % 1024) with
  | some (t, w) => if t + 201 = s.sinceSync then some w else none
  | none => none

/-- The raw samples of an ACQ port that reach the bobbins in this tick: the 32 that stood at the ball five ticks ago (R321). -/
def State.rawArrival (s : State) (a : Nat) : List Nat :=
  match (s.acq a).lastGroup with
  | some l =>
    let t := s.sinceSync - 5
    if 5 ≤ s.sinceSync ∧ t / 2 ≤ l then (((s.acq a).raw.getD (l - t / 2) []).drop (32 * (t % 2))).take 32 else []
  | none => []

/-- The raw samples of a tick enter a bobbin in their order, each at its own time. -/
def takeRaw (b : Nat) (ws : List Nat) (s : State) : State :=
  let t0 := s.reelAgo 5
  let t1 := s.reelAgo 4
  forAll (fun p s => takeItem b ⟨t0 + p.2 * (t1 - t0) / 32, leBytes 2 p.1, bitOf p.1 3, bitOf p.1 2, [sgn 16 (p.1 / 16 * 16)]⟩ s)
    ws.zipIdx s

/-- What reaches a bobbin under one key reaches it once in a tick. -/
def feedOnce (b key : Nat) (f : State → State) (s : State) : State :=
  let x := s.bobbin b
  if sget (fun _ => none) x.fed key = some s.tick then s
  else f (s.setBob b { x with fed := sset (fun _ => none) x.fed key (some s.tick) })

/-- The time of the last item that something brings to a bobbin. -/
def State.passTime (s : State) (b : Nat) (inp : BobInput) : Option Nat :=
  let kind := s.fld (Fld.BOB_SRC_KIND b)
  match inp with
  | .raw => if kind = 1 then some (s.reelAgo 5 + 31 * (s.reelAgo 4 - s.reelAgo 5) / 32) else none
  | .frame => if kind = 2 then some (s.reelAgo 41) else if kind = 3 then some (s.reelAgo (s.toneAge b)) else none
  | .sample _ => if kind = 8 then some (s.reelAgo 41) else if kind = 9 then some (s.reelAgo (s.toneAge b)) else none
  | .decision _ => if kind = 4 ∨ kind = 5 ∨ kind = 7 then some (s.reelAgo 1) else none
  | .strands => if kind = 6 ∧ s.strandMap (s.fld (Fld.BOB_SRC_BASE b)) ≠ 0 then some s.tln.reel else none
  | .queued => none

/-- An item that a bobbin does not take uses up the times up to its own: a condition identifies the first item only (R333). -/
def passItem (b : Nat) (inp : BobInput) (s : State) : State :=
  match s.passTime b inp with
  | some t => s.setBob b { s.bobbin b with marks := (s.bobbin b).marks.filter fun m => decide (t < m.2) }
  | none => s

/-- Something reaches a bobbin (R320 to R322): what that is follows from the samples and decisions of the ticks that R213, R222, R246 and R321 count
back; decisions of one tick are taken in channel order. -/
def bobInput (b : Nat) (inp : BobInput) (s : State) : State :=
  let kind := s.fld (Fld.BOB_SRC_KIND b)
  let base := s.fld (Fld.BOB_SRC_BASE b)
  let n := s.fld (Fld.BOB_SRC_NM1 b) + 1
  let mem : Nat → Bool := fun i => decide (base ≤ i) && decide (i < base + n)
  if (s.mode = 5 ∨ s.mode = 6) ∧ (s.bobState b = 1 ∨ s.bobState b = 2) then
    match inp with
    | .raw => if kind = 1 then feedOnce b 0 (takeRaw b (s.rawArrival base)) s else s
    | .frame =>
      let ws := (List.range n).filterMap fun i => if kind = 2 then s.channelArrival (base + i) else s.toneArrival (base + i)
      if ws.length = n ∧ (kind = 2 ∨ kind = 3) then
        feedOnce b 0 (takeItem b (frameItem (s.reelAgo (if kind = 2 then 41 else s.toneAge b)) ws)) s
      else s
    | .sample i =>
      match if kind = 8 then s.channelArrival i else if kind = 9 then s.toneArrival i else none with
      | some w =>
        if mem i then
          feedOnce b (1 + i) (fun s => popRecord b (bobSample b i (s.reelAgo (if kind = 8 then 41 else s.toneAge b)) w s)) s
        else s
      | none => s
    | .decision r =>
      let later := (List.range 256).any fun q => decide (r < q) && sget (fun _ => none) (s.bobbin b).fed (1 + q) == some s.tick
      if (kind = 4 ∨ kind = 5 ∨ kind = 7) ∧ mem r ∧ (s.dscCh r).loaded = some s.tick ∧ !later then
        feedOnce b (1 + r) (fun s => popRecord b (bobDecision b r s)) s
      else s
    | .strands =>
      let m := s.strandMap base
      if kind = 6 ∧ m ≠ 0 then
        feedOnce b 0 (fun s =>
          let x := s.bobbin b
          let first := (sget (fun _ => none) x.prev 0).isNone
          let s := s.setBob b { x with prev := sset (fun _ => none) x.prev 0 (some 0) }
          popRecord b (queueRecord b (changeRecord s.tln.reel 0 base first false false (BitVec.ofNat 32 m)) true s)) s
      else s
    | .queued => popRecord b s
  else passItem b inp s

/-- A running capture ends as ABORTED and the bobbin is IDLE (R332, R345, R346); a capture that a queued trigger is to start with the next
item has not begun. -/
def abortBob (b : Nat) (s : State) : State :=
  let s := match (s.bobbin b).cap with
    | some c => if c.deferred && c.n == 0 then s else endCapture b (s.bobWr b) c.pre c.n 256 false s
    | none => s
  let x := s.bobbin b
  let s := dropRecords b (s.setBob b { x with cap := none, queued := none, carry := none, rearm := none,
                                              marks := x.marks.filter fun m => s.isWindow b m.1 })
  let s := (setHist b 0 (enterBob b 0 s)).put (Fld.BOB_STATUS_QUEUED b) 0
  (s.put (Fld.BOB_STATUS_DIR_FULL b) 0).put (Fld.BOB_STATUS_SPACE_LOW b) 0

/-- On leaving M5 and M6 every bobbin enters IDLE (R345), and what its conditions waited for is over. -/
def stopBobs (s : State) : State :=
  forN 32 (fun b s =>
    let s := if s.bobState b = 0 then s else abortBob b s
    s.setBob b { s.bobbin b with marks := [] }) s

/-- At a run start counters are cleared and bobbins with ARM_ON_RUN are armed (R332). -/
def startBobs (s : State) : State :=
  forN 32 (fun b s =>
    let s := (s.wr (Reg.BOB_COUNT b) 0).wr (Reg.BOB_COUNT2 b) 0
    if s.bit (Fld.BOB_CFG_ARM_ON_RUN b) then bobArm b s else s) s

/-- A bobbin's data, directory and positions are cleared (R345). -/
def clearBob (b : Nat) (s : State) : State :=
  let s := { s with sram := sdrop (bobRingBase b) (bobRingBase b + bobRingSize) s.sram }
  let s := s.resetRange (Reg.BOB_DIR b 0 0) (Reg.BOB_DIR b 0 0 + 0x2000)
  let s := ((s.wr64 (Reg.BOB_WR_LO b) 0).wr64 (Reg.BOB_SPILLED_LO b) 0).wr64 (Reg.BOB_RD_LO b) 0
  (s.wr (Reg.BOB_DIR_HEAD b) 0).setBob b {}

/-- A capture that has ended, whose entry is still to be written and which holds position `p`, is truncated by `cause` (R338, R339); with `cut`
it keeps only the items wholly before `p`. -/
def truncateEnded (b p cause : Nat) (cut : Bool) (s : State) : State :=
  let x := s.bobbin b
  match x.ended.find? fun e => decide (e.cap.start ≤ p) && decide (p < e.stop) with
  | none => s
  | some e =>
    let k := (p - e.cap.start) / s.itemSize b
    let pre := if cut then min e.pre k else e.pre
    let stop := if cut then e.cap.start + k * s.itemSize b else e.stop
    let e' := { e with tick := s.tick, soon := true, extra := e.extra / 16 * 16 + 2 + 4 * cause, pre := pre,
                       post := if cut then k - pre else e.post, stop := stop }
    let s := s.setBob b { x with ended := x.ended.replace e e', capEnd := if x.capEnd = e.stop then stop else x.capEnd }
    s.raiseIf (!bitOf e.extra 1) (Fld.BOB_EVENT_TRUNCATED b)

/-- Requests of a bobbin for the positions from `a` to `z` are no more. -/
def dropSpills (b a z : Nat) (s : State) : State :=
  let x := s.bobbin b
  let out := fun (p : Nat) => decide (p < a) || decide (z ≤ p)
  let s := s.setBob b { x with spill := x.spill.filter fun q => out q.1, todo := x.todo.filter fun q => out q.1 }
  { s with mem := { s.mem with reqs := s.mem.reqs.filter fun q => match q.owner with
      | .spill b' p => b' != b || out p
      | _ => true } }

/-- The memory system refused the spill request for the chunk at `pos` (R330, R338): the chunk's data is discarded, and its capture, running or
ended, ends at the last item wholly before the chunk. -/
def spillRefused (b pos : Nat) (s : State) : State :=
  let x := s.bobbin b
  match x.cap with
  | some c =>
    if c.start ≤ pos then
      let k := (pos - c.start) / s.itemSize b
      let pre := min c.pre k
      endCapture b (c.start + k * s.itemSize b) pre (k - pre) (2 + 8) true (dropSpills b pos (s.bobWr b + 1) s)
    else truncateEnded b pos 2 true (dropSpills b pos c.start s)
  | none => truncateEnded b pos 2 true (dropSpills b pos (s.bobWr b + 1) s)

end Sys2Proof.Machine
end

