-- ==== Sys2Proof/Machine/MemOps.lean ====
section
/-! DEFINITION. Machine/MemOps.lean: the shared operations of memory (spec/11): regions, protected and masked accesses (R92, R187,
R251, R273, R350, R353, R418, R423, R424), marked words and errors. -/

namespace Sys2Proof.Machine

/-- The region of an SRAM offset (R350). -/
def sramRegion (off : Nat) : Nat :=
  if off < 0x800000 then 0 else if off < 0x2000000 then 1 else if off < 0x3400000 then 2
  else if off < 0x3800000 then 3 else if off < 0x3C00000 then 4 else 5

/-- The sizes of SRAM and DRAM in bytes. -/
def sramSize : Nat := 0x4000000
def dramSize : Nat := 0x2000000000

/-- The drafter history area (R350). -/
def inHistory (off : Nat) : Bool := decide (0x3F80000 ≤ off) && decide (off < sramSize)

/-- An SRAM offset lies in an enabled ring (R187). -/
def State.inRing (s : State) (off : Nat) : Bool :=
  sramRegion off == 1 && (List.range 64).any fun r =>
    let b := envBase + 4096 * s.fld (Fld.STM_RV_RING_BASE r)
    s.bit (Fld.STM_RV_CFG_EN r) && decide (b ≤ off) && decide (off < b + s.ringSize r)

/-- An SRAM offset holds configuration (R350): regions 0, 1 outside enabled rings, 3 and 4. -/
def State.configByte (s : State) (off : Nat) : Bool :=
  match sramRegion off with
  | 0 | 3 | 4 => true
  | 1 => !s.inRing off
  | _ => false

/-- Writes to configuration are refused (R92, R187, R251, R273). -/
def State.configLocked (s : State) : Bool := decide (4 ≤ s.mode) && decide (s.mode ≤ 6)

/-- An address lies in one of some ranges (start, length). -/
def inRanges (l : List (Nat × Nat)) (a : Nat) : Bool := l.any fun r => decide (r.1 ≤ a) && decide (a < r.1 + r.2)

/-- Reads of configuration are masked (R423, R421). -/
def State.masks (s : State) : Bool :=
  (s.bit Fld.SEC_STATUS_CONFIDENTIAL || s.sec.confLoad) && s.fld Fld.SEC_STATUS_LEVEL != 3

/-- A security event flag by its bit (R440). -/
def secEvent (b : Nat) : Field := ⟨Reg.SEC_EVENT, b, 1⟩

/-- Bytes with their addresses. -/
def atAddrs (a : Nat) (bs : List (Option Byte)) : List (Nat × Byte) :=
  bs.zipIdx.filterMap fun p => p.1.map fun b => (a + p.2, b)

/-! ### DRAM -/

/-- A byte joins DRAM, and its word is marked no more (R359). -/
def dramStore (a : Nat) (b : Byte) (s : State) : State :=
  let s := s.putDram a b
  { s with mem := { s.mem with badDram := s.mem.badDram.filter (· != a / 8) } }

/-- A write into DRAM by a path: bytes of an image being loaded are kept (R418), and a changed LIBREF range taints the
configuration (R424). -/
def writeDram (src queue a : Nat) (bs : List (Option Byte)) (s : State) : State :=
  let ws := atAddrs a bs
  let img := match s.sec.image with
    | some r => [r]
    | none => []
  let ok := ws.filter fun w => !inRanges img w.1 && decide (w.1 < dramSize)
  let changed := ok.any fun w => inRanges s.sec.libRanges w.1 && s.dramByte w.1 != w.2
  let s := forAll (fun w s => dramStore w.1 w.2 s) ok s
  let s := if changed then taint s else s
  if ws.any fun w => inRanges img w.1 then wrRefused src queue a s else s

/-- Some byte that the write enables lies in an image being loaded (R418). -/
def State.hitsImage (s : State) (a : Nat) (bs : List (Option Byte)) : Bool :=
  match s.sec.image with
  | some r => (atAddrs a bs).any fun w => inRanges [r] w.1
  | none => false

/-- A block of the device writes DRAM (R359, R418). The path of such a write has no code in HIF_WR_REF.SRC, so that value is
free. -/
def blockWriteDram (a : Nat) (bs : List Byte) (s : State) : State :=
  let os := bs.map some
  if s.hitsImage a os then
    let (src, s) := s.fresh 3
    writeDram src 0 a os s
  else writeDram 0 0 a os s

/-- Bytes of DRAM as a path reads them: masked ranges read zero (R423). -/
def readDram (a n : Nat) (s : State) : List Byte × State :=
  let hit := s.masks && (List.range n).any fun i => inRanges s.sec.dramRanges (a + i)
  let bs := (List.range n).map fun i => if s.masks && inRanges s.sec.dramRanges (a + i) then 0 else s.dramByte (a + i)
  (bs, s.raiseIf hit (secEvent 5))

/-- A range of DRAM holds a word marked uncorrectable (R359). -/
def State.dramMarked (s : State) (a n : Nat) : Bool :=
  s.mem.badDram.any fun w => decide (a < 8 * w + 8) && decide (8 * w < a + n)

/-- From GO until a load ends, the DRAM range that holds the image and its signature is kept (R418). -/
def guardImage (s : State) : State :=
  if s.sec.loading then
    let len := min (s.dramNat (s.sec.loadSrc + 8) 8) (2 ^ 30)
    { s with sec := { s.sec with image := some (s.sec.loadSrc, len + 96) } }
  else s

/-- A class C2 access waits for the zeroing and for its grants, behind those that arrived before it (R357, R361, R362; log entry 94). -/
def holdAccess (a : HeldAccess) (spans : List (Nat × Nat)) (s : State) : State :=
  let id := s.mem.seq
  askDram 2 (.host id) 0 spans { s with mem := { s.mem with held := s.mem.held ++ [(id, a)], seq := id + 1 } }

/-! ### SRAM -/

/-- CFG_VALID falls when a word of configuration is lost (R38). -/
def loseConfig (off : Nat) (s : State) : State :=
  if s.configByte off then s.put Fld.GLB_MODE_STATUS_CFG_VALID 0 else s

/-- An uncorrectable SRAM word is recorded (R352): where `line`, its reader raises its line in M3 to M6, which is DF8; else it makes its
report (R376). -/
def sramUe (off : Nat) (s : State) (line : Bool := false) : State :=
  let s := (s.put Fld.MEM_SRAM_UE_ADDR_ADDR (off / 16 * 16)).count (Fld.MEM_SRAM_ERR_UE (sramRegion off))
  let df8 := line && s.armed 8
  let s := if line then detect 8 (sramRegion off) s else s
  loseConfig off (if df8 then s.setFlag Fld.MEM_EVENT_SRAM_UE else s.raise Fld.MEM_EVENT_SRAM_UE (sramRegion off))

/-- The ascending list of some numbers. -/
def ascending (l : List Nat) : List Nat := l.foldr (fun n l => l.filter (· < n) ++ n :: l.filter (n ≤ ·)) []

/-- The words of `w` bytes that a range of `n` bytes from `a` on touches: the first one, and their number. -/
def wordsOf (w a n : Nat) : Nat × Nat := (a / w, (a + n + w - 1) / w - a / w)

/-- The words a read finds uncorrectable: those marked in the range, and where `ue` with none marked one that is free (log entry 148). -/
def uncorrectable (w : Nat) (marked : List Nat) (a n : Nat) (ue : Bool) (s : State) : List Nat × State :=
  let (first, count) := wordsOf w a n
  match ascending (marked.filter fun m => decide (first ≤ m) && decide (m < first + count)) with
  | [] =>
    if ue then
      let (k, s) := s.fresh 64
      ([first + k % max 1 count], s)
    else ([], s)
  | ms => (ms, s)

/-- A path reads a range of SRAM: each uncorrectable word is recorded (R352); whether there is one. -/
def sramFinds (a n : Nat) (ue : Bool) (s : State) : Bool × State :=
  let (ws, s) := uncorrectable 16 s.mem.badSram a n ue s
  (!ws.isEmpty, forAll (fun w s => sramUe (16 * w) s) ws s)

/-- An uncorrectable DRAM word is recorded (R359). -/
def dramUe (off : Nat) (s : State) : State :=
  let k := off / 256 % 4
  let s := (s.wr64 (Reg.MEM_DRAM_UE_ADDR_LO k) (off / 8 * 8)).count (Fld.MEM_DRAM_ERR_UE k)
  s.raise Fld.MEM_EVENT_DRAM_UE k

/-- A reader reads a range of DRAM: each uncorrectable word is recorded (R359); whether there is one. -/
def dramFinds (a n : Nat) (ue : Bool) (s : State) : Bool × State :=
  let (ws, s) := uncorrectable 8 s.mem.badDram a n ue s
  (!ws.isEmpty, forAll (fun w s => dramUe (8 * w) s) ws s)

/-- What stands in the way of a byte written to SRAM by a path: nothing, silence (the history area), or a refusal. -/
inductive SramBar where | free | silent | refused
  deriving DecidableEq, Repr

/-- The bar of an SRAM byte. -/
def State.sramBar (s : State) (off : Nat) : SramBar :=
  if inHistory off then .silent else if s.configLocked && s.configByte off then .refused else .free

/-- The SRAM words that a write covers in part (R353), in the order of its bytes. -/
def partWords (ws : List (Nat × Byte)) : List Nat :=
  ((ws.filter fun w => (List.range 16).any fun i => !ws.any fun v => v.1 == w.1 / 16 * 16 + i).map fun w => w.1 / 16).eraseDups

/-- A write into SRAM by a path (R92, R187, R251, R273, R350, R353, R424): `ue` tells that the merge of a part of a word finds an
uncorrectable word among those partly covered, which discards the write. -/
def writeSram (src queue a : Nat) (bs : List (Option Byte)) (ue : Bool) (s : State) : State :=
  let ws := (atAddrs a bs).filter fun w => decide (w.1 < sramSize)
  let ok := ws.filter fun w => s.sramBar w.1 == .free
  let part := partWords ok
  let refused := ws.any fun w => s.sramBar w.1 == .refused
  let s :=
    if ue && !part.isEmpty then
      let (k, s) := s.fresh 64
      (sramUe (16 * part.getD (k % part.length) 0) s).raise Fld.MEM_EVENT_PARTIAL_DISCARD
    else
      let changed := ok.any fun w => s.configByte w.1 && s.sramByte w.1 != w.2
      let s := forAll (fun w s => s.putSram w.1 w.2) ok s
      if changed then taint s else s
  if refused then wrRefused src queue a s else s

/-- The merge of a part of a word discards a write into SRAM whole (R353). -/
def State.sramDiscards (s : State) (a : Nat) (bs : List (Option Byte)) (ue : Bool) : Bool :=
  let ok := (atAddrs a bs).filter fun w => decide (w.1 < sramSize) && s.sramBar w.1 == .free
  ue && !(partWords ok).isEmpty

/-- A write into SRAM by a path acts: no byte of it is refused, it is not discarded whole by the merge, and not all of it falls on the
history area (R316, R350, R353). -/
def State.sramTakes (s : State) (a : Nat) (bs : List (Option Byte)) (ue : Bool) : Bool :=
  let ws := (atAddrs a bs).filter fun w => decide (w.1 < sramSize)
  let ok := ws.filter fun w => s.sramBar w.1 == .free
  !(ws.any fun w => s.sramBar w.1 == .refused) && !s.sramDiscards a bs ue && (ws.isEmpty || !ok.isEmpty)

/-- A byte of SRAM that a path may not see (R350, R423). -/
def State.sramHidden (s : State) (off : Nat) : Bool := inHistory off || (s.masks && s.configByte off)

/-- Bytes of SRAM as a path reads them (R350, R423). -/
def readSram (a n : Nat) (s : State) : List Byte × State :=
  let hit := s.masks && (List.range n).any fun i => s.configByte (a + i)
  let bs := (List.range n).map fun i => if s.sramHidden (a + i) || decide (sramSize ≤ a + i) then 0 else s.sramByte (a + i)
  (bs, s.raiseIf hit (secEvent 5))

/-- The data register of the test access port shows a completed access and its data (R530). -/
def State.tapDone (s : State) (v : Nat) : State :=
  { s with tap := { s.tap with dr := s.tap.dr % 2 ^ 27 + 2 ^ 27 + v % 2 ^ 32 * 2 ^ 32 } }

/-! ### Correctable errors (R355) -/

/-- A correctable error of region or stack `i` (stacks from 6): the storm threshold over the last second of reel. -/
def countCe (i : Nat) (s : State) : State :=
  let now := s.tln.reel
  let l := now :: (sget (fun _ => []) s.mem.ces i).filter fun t => decide (now < t + 1000000000 * 2 ^ 32)
  let s := { s with mem := { s.mem with ces := sset (fun _ => []) s.mem.ces i l } }
  s.raiseIf (decide (s.fld Fld.MEM_CE_THRESH_THRESH < l.length)) Fld.MEM_EVENT_CE_STORM i

/-! ### Refresh (R360) -/

/-- The refresh multiple of a temperature band: 0 1×, 1 2×, 2 4×. -/
def refreshOf (band : Nat) : Nat := if band ≤ 2 then 0 else if band = 3 then 1 else 2

/-- The multiple of a stack in MEM_STATUS. -/
def refreshField (k : Nat) : Field := ⟨Reg.MEM_STATUS, 8 + 2 * k, 2⟩

/-- The tick since which a stack's sensor shows a lower band. -/
def setLowSince (k : Nat) (v : Option Nat) (s : State) : State :=
  { s with mem := { s.mem with lowSince := sset (fun _ => none) s.mem.lowSince k v } }

/-- A stack's sensor shows a band: a higher multiple acts at once, a lower one after a second (R360). -/
def stackBand (k band : Nat) (s : State) : State :=
  let want := refreshOf band
  let now := s.fld (refreshField k)
  let low := sget (fun _ => none) s.mem.lowSince k
  if now < want then setLowSince k none ((s.put (refreshField k) want).raise Fld.MEM_EVENT_REFRESH_CHG)
  else if want < now then (if low.isSome then s else setLowSince k (some s.tick) s)
  else setLowSince k none s

/-! ### Roving streams: refill (R190 to R193, R367) -/

/-- A source error stops a stream's refill (R359, R367). -/
def refillError (r : Nat) (s : State) : State :=
  (dropRefills r (s.setStream r { s.stream r with failed := true, reqs := [] })).raise (Fld.STM_RV_EVENT_SRC_ERR r)

end Sys2Proof.Machine
end

