-- ==== Sys2Proof/Machine/Bobbins.lean ====
section
/-! DEFINITION. Machine/Bobbins.lean: the commands of acquisition (spec/10). -/

namespace Sys2Proof.Machine

/-- `act` for each bobbin whose bit is written as 1. -/
def forBits (act : Nat → State → State) (v : Word) (s : State) : State :=
  forN 32 (fun b s => if v.getLsbD b then act b s else s) s

/-- BOB_ARM: `v` is the value written. -/
def execBobArm (path : Path) (v : Word) (s : State) : Host.Outcome State Fault Refusal :=
  .next (gated path Reg.BOB_ARM (forBits bobArm v) s)

/-- BOB_DISARM. -/
def execBobDisarm (path : Path) (v : Word) (s : State) : Host.Outcome State Fault Refusal :=
  .next (gated path Reg.BOB_DISARM (forBits abortBob v) s)

/-- BOB_FORCE: condition 4 of R333. -/
def execBobForce (path : Path) (v : Word) (s : State) : Host.Outcome State Fault Refusal :=
  .next (gated path Reg.BOB_FORCE (forBits (fun b s => markTrigger b 4 s.tln.reel s) v) s)

/-- A write of BOB_CMD (R345). -/
def bobCmdWrite (b : Nat) (v : Word) (s : State) : State :=
  if fieldGet v (Fld.BOB_CMD_RESET b) = 1 ∧ (s.bobState b = 0 ∨ s.bobState b = 4) then clearBob b s else s

/-- BOB_RESET: a write of BOB_CMD. -/
def execBobReset (path : Path) (b : Fin 32) (v : Word) (s : State) : Host.Outcome State Fault Refusal :=
  .next (gated path (Reg.BOB_CMD b) (bobCmdWrite b v) s)

/-- A write of BOB_RD is refused (R328). -/
def State.refusesRd (s : State) (b v : Nat) : Bool :=
  decide (v < s.bobRd b) || decide ((if s.spills b then s.bobSpilled b else s.bobWr b) < v)

/-- The host releases data, or its write is refused (R328, R329). -/
def bobRdWrite (b v : Nat) (s : State) : State :=
  if s.refusesRd b v then s.raise (Fld.BOB_EVENT_RD_REFUSED b)
  else tidyBob b (s.wr64 (Reg.BOB_RD_LO b) v)

/-- BOB_RD_WRITE: the 64-bit value that BOB_RD takes under R12. -/
def execBobRdWrite (path : Path) (b : Fin 32) (v : BitVec 64) (s : State) : Host.Outcome State Fault Refusal :=
  .next (gated path (Reg.BOB_RD_HI b) (bobRdWrite b v.toNat) s)

/-- A write of BOB_DIR_HEAD acknowledges entries. -/
def bobDirAck (b : Nat) (v : Word) (s : State) : State :=
  if fieldGet v (Fld.BOB_DIR_HEAD_ACK_GO b) = 1 then
    s.put (Fld.BOB_DIR_HEAD_PENDING b) (s.fld (Fld.BOB_DIR_HEAD_PENDING b) - (fieldGet v (Fld.BOB_DIR_HEAD_ACK b) + 1))
  else s

/-- BOB_DIR_ACK. -/
def execBobDirAck (path : Path) (b : Fin 32) (v : Word) (s : State) : Host.Outcome State Fault Refusal :=
  .next (gated path (Reg.BOB_DIR_HEAD b) (bobDirAck b v) s)

/-- BOB_ITEM. -/
def execBobItem (b : Fin 32) (inp : BobInput) (s : State) : Host.Outcome State Fault Refusal := .next (bobInput b inp s)

/-- BOB_AUTO_TIMEOUT: no trigger within AUTO_TMO µs of reel since arming (R333). -/
def execBobAutoTimeout (b : Fin 32) (s : State) : Host.Outcome State Fault Refusal :=
  .next <|
    let x := s.bobbin b
    let tmo := s.fld (Fld.BOB_AUTO_TMO_COUNT b) % 65536
    if s.bobState b = 1 ∧ s.bit (Fld.BOB_CFG_AUTO b) ∧ !x.autoDone ∧ x.armReel + tmo * 1000 * 2 ^ 32 ≤ s.tln.reel then
      markTrigger b 5 s.tln.reel (s.setBob b { x with autoDone := true })
    else s

/-- The class C1 request of a spill (R330, R361, R363): its deadline is the reel plus the slack, the free space in the ring divided by the
source's full rate. -/
def askSpill (b pos len : Nat) (s : State) : State :=
  let area := s.spillArea b
  let base := s.rd64 (Reg.BOB_SPILL_BASE_LO b)
  let n := min len (area - pos % area)
  let slack := s.ringFree b * 1000000000 * 2 ^ 32 / max 1 (s.fullRate b)
  askDram 1 (.spill b pos) (s.tln.reel + slack) [(base + pos % area, n), (base, len - n)] s

/-- The captured data whose spill is to be requested next, from and length, and what of ended captures is left then (R330): up to 4 KiB of an
ended capture, or 4 KiB of the running one. -/
def State.nextSpill (s : State) (b : Nat) : Option (Nat × Nat × List (Nat × Nat)) :=
  let x := s.bobbin b
  match x.todo, x.cap with
  | (a, z) :: rest, _ => some (a, min 4096 (z - a), if a + 4096 < z then (a + 4096, z) :: rest else rest)
  | [], some c =>
    let a := max x.issued c.start
    if a + 4096 ≤ s.bobWr b then some (a, 4096, []) else none
  | [], none => none

/-- A spill request is issued (R330); with no room for it in DRAM the capture concerned, running or ended, is truncated (R338). -/
def spillRequest (b : Nat) (s : State) : State :=
  let x := s.bobbin b
  match s.nextSpill b, x.cap with
  | some (a, len, rest), c =>
    if !s.spills b then s
    else if s.spillArea b < a + len - s.bobRd b then
      match x.todo, c with
      | [], some c => endCapture b (s.bobWr b) c.pre c.n (2 + 4) true s
      | _, _ => truncateEnded b a 1 false s
    else askSpill b a len (s.setBob b { x with issued := max x.issued (a + len), spill := x.spill ++ [(a, len)], todo := rest })
  | none, _ => s

/-- BOB_SPILL_REQUEST. -/
def execBobSpillRequest (b : Fin 32) (s : State) : Host.Outcome State Fault Refusal := .next (spillRequest b s)

/-- The first spill in progress completes, once its granules have been granted (R362): its bytes stand in DRAM (R326, R328). -/
def spillDone (b : Nat) (s : State) : State :=
  let x := s.bobbin b
  match x.spill with
  | (pos, len) :: rest =>
   if s.dramWaits (.spill b pos) then s
   else
    let base := s.rd64 (Reg.BOB_SPILL_BASE_LO b)
    let area := s.spillArea b
    let n := min len (area - pos % area)
    let src := fun i => bobRingBase b + (pos + i) % bobRingSize
    let byte := fun i => s.sramByte (src i)
    let bad := (List.range len).filter fun i => s.mem.badSram.any (· == src i / 16)
    let s := blockWriteDram (base + pos % area) ((List.range n).map byte) s
    let s := blockWriteDram base ((List.range (len - n)).map fun i => byte (n + i)) s
    let marks := bad.map fun i => (base + (pos + i) % area) / 8
    let s := { s with mem := { s.mem with badDram := (marks ++ s.mem.badDram).eraseDups,
                                          badSram := s.mem.badSram.filter fun w => !bad.any fun i => src i / 16 == w } }
    let ended := x.ended.map fun e => if e.stop ≤ pos + len ∧ e.spilled.isNone then { e with spilled := some s.tick } else e
    let s : State := (s.setBob b { x with spill := rest, ended := ended }).wr64 (Reg.BOB_SPILLED_LO b) (pos + len)
    if s.bobState b = 1 ∨ s.bobState b = 3 then passHistory b s else s
  | [] => s

/-- BOB_SPILL_DONE. -/
def execBobSpillDone (b : Fin 32) (s : State) : Host.Outcome State Fault Refusal := .next (spillDone b s)

/-- The spill of a capture's last byte completed before tick `t`. -/
def BobEnd.spilledBefore (e : BobEnd) (t : Nat) : Bool :=
  match e.spilled with
  | some u => decide (u < t)
  | none => false

/-- The directory entry of the oldest ended capture is written (R339, R341, R342). -/
def captureEntry (b : Nat) (s : State) : State :=
  let x := s.bobbin b
  match x.ended with
  | e :: rest =>
    if e.tick < s.tick ∧ s.fld (Fld.BOB_DIR_HEAD_PENDING b) < 256 ∧ (!s.spills b ∨ e.soon ∨ e.spilledBefore s.tick) then
      let n := s.fld (Fld.BOB_DIR_HEAD_NEXT b)
      let s := forAll (fun p s => s.wr (Reg.BOB_DIR b n p.2) p.1) (e.words (s.itemSize b)).zipIdx s
      let s := (s.put (Fld.BOB_DIR_HEAD_NEXT b) ((n + 1) % 256)).put (Fld.BOB_DIR_HEAD_PENDING b)
        (s.fld (Fld.BOB_DIR_HEAD_PENDING b) + 1)
      let s := (s.raise (Fld.BOB_EVENT_CAPTURE b)).count (Fld.BOB_COUNT_CAPTURES b)
      let idle := s.bobState b = 2 ∧ x.cap.isNone ∧ rest.isEmpty
      let s := s.setBob b { x with ended := rest, rearm := if idle ∧ !e.done then some (s.tick + 1) else x.rearm }
      if idle ∧ e.done then setHist b 0 (enterBob b 4 s) else s
    else s
  | [] => s

/-- CAPTURE. -/
def execCapture (b : Fin 32) (s : State) : Host.Outcome State Fault Refusal := .next (captureEntry b s)

/-- A bobbin re-arms, or waits for space and entries (R341). -/
def bobRearm (b : Nat) (s : State) : State :=
  let due : Bool := match (s.bobbin b).rearm with
    | some t => decide (t ≤ s.tick)
    | none => false
  if (s.bobState b = 2 ∧ due ∧ (s.bobbin b).cap.isNone) ∨ s.bobState b = 3 then
    let full := decide (256 ≤ s.fld (Fld.BOB_DIR_HEAD_PENDING b))
    let low := decide (s.bobFree b < s.bobNeeds b)
    if full || low then bobWaits b full low s else armBob b s
  else s

/-- BOB_REARM. -/
def execBobRearm (b : Fin 32) (s : State) : Host.Outcome State Fault Refusal := .next (bobRearm b s)

end Sys2Proof.Machine
end

