-- ==== Sys2Proof/Machine/Crc.lean ====
section
/-! DEFINITION. Machine/Crc.lean: the cyclic redundancy checks the spec names: CRC-32C (spec/00 Standards, spec/11), the
Ethernet frame check (IEEE 802.3), and the twist frame's 16-bit check (R290), all bit by bit. -/

namespace Sys2Proof.Machine

/-- One bit of a reflected 32-bit CRC with reflected polynomial `poly`. -/
def crc32Bit (poly : BitVec 32) (c : BitVec 32) : BitVec 32 :=
  if c.getLsbD 0 then (c >>> 1) ^^^ poly else c >>> 1

/-- One byte of a reflected 32-bit CRC. -/
def crc32Byte (poly : BitVec 32) (c : BitVec 32) (b : Byte) : BitVec 32 :=
  let f := crc32Bit poly
  f (f (f (f (f (f (f (f (c ^^^ b.setWidth 32))))))))

/-- A reflected 32-bit CRC with all-ones start and final inversion. -/
def crc32 (poly : BitVec 32) (bs : List Byte) : BitVec 32 := ~~~(bs.foldl (crc32Byte poly) 0xFFFFFFFF)

/-- CRC-32C (Castagnoli, polynomial 0x1EDC_6F41, as used in RFC 3720). -/
def crc32c (bs : List Byte) : BitVec 32 := crc32 0x82F63B78 bs

/-- The frame check sequence of IEEE 802.3 (PRESUMED, log entry 8). -/
def fcs (bs : List Byte) : BitVec 32 := crc32 0xEDB88320 bs

/-- One bit of a most-significant-first 16-bit CRC. -/
def crc16Bit (poly : BitVec 16) (c : BitVec 16) (b : Bool) : BitVec 16 :=
  if c.getLsbD 15 != b then (c <<< 1) ^^^ poly else c <<< 1

end Sys2Proof.Machine
end

