-- ==== Sys2Proof/Machine/Cascade.lean ====
section
/-! DEFINITION. Machine/Cascade.lean: twist links, SYNC and time distribution, remote strands and failover (spec/09). Bulk
traffic is in Machine/Bulk.lean. -/

namespace Sys2Proof.Machine

/-- A port's training state (R293). -/
def State.twState (s : State) (p : Nat) : Nat := s.fld (Fld.CSC_TW_STATUS_STATE p)

/-- The upstream port of a slave (R286). -/
def State.isUp (s : State) (p : Nat) : Bool := s.role == 2 && s.fld Fld.CSC_DIM_UP_PORT == p

/-- A port enters a training state. -/
def enterTw (p st : Nat) (s : State) : State :=
  (s.put (Fld.CSC_TW_STATUS_STATE p) st).setTwist p { s.twist p with since := s.tick }

/-- A port leaves UP (R293, R303), and its frames go on lane 0 again (R292); in another state nothing is left. -/
def leaveUp (p : Nat) (s : State) : State :=
  if s.twState p = 6 then
    let s := s.raise Fld.CSC_EVENT_LINK_DOWN p
    let x := s.twist p
    let s := s.setTwist p { x with failing := false, rxLane := 0, bad := [], firstBad := none, move := false, lo := none }
    let s := s.put (Fld.CSC_TW_STATUS_DUTY_LANE p) 0
    if s.isUp p then loseCascade s else s
  else s

/-- A port goes DOWN (R293). -/
def twDown (p : Nat) (s : State) : State := enterTw p 0 (leaveUp p s)

/-- A port enters FAILED with a cause (R293). -/
def twFail (p cause : Nat) (s : State) : State :=
  let s := (enterTw p 7 (leaveUp p s)).put (Fld.CSC_TW_STATUS_FAIL p) cause
  s.raise Fld.CSC_EVENT_TRAIN_FAIL p

/-- Training starts on an enabled port from M3 on (R293). -/
def twTrain (p : Nat) (s : State) : State :=
  if s.bit (Fld.CSC_TW_CFG_EN p) ∧ 3 ≤ s.mode then
    let s := s.wr (Reg.CSC_TW_STATUS p) 0
    let x := s.twist p
    let s := s.setTwist p { x with failing := false, rxLane := 0, bad := [], firstBad := none, move := false, lo := none,
                                   lanes := [] }
    enterTw p 1 s
  else s

/-- TW_TRAIN_START. -/
def execTwTrainStart (p : Fin 4) (s : State) : Host.Outcome State Fault Refusal :=
  .next (if s.twState p = 0 then twTrain p s else s)

/-- TW_CDR_LOCK: lanes 0 and 1 lock within 100 µs (R293). -/
def execTwCdrLock (p : Fin 4) (s : State) : Host.Outcome State Fault Refusal :=
  .next (if s.twState p = 1 ∧ 3 ≤ s.mode ∧ s.tick ≤ (s.twist p).since + 50000 then enterTw p 2 s else s)

/-- TW_ALIGN_DONE: `lanes` tells the aligned lanes; lanes 0 and 1 must be among them (R293). -/
def execTwAlignDone (p : Fin 4) (lanes : BitVec 4) (s : State) : Host.Outcome State Fault Refusal :=
  .next <|
    if s.twState p = 2 ∧ 3 ≤ s.mode ∧ s.tick ≤ (s.twist p).since + 50000 ∧ lanes.getLsbD 0 ∧ lanes.getLsbD 1 then
      (enterTw p 3 s).put (Fld.CSC_TW_STATUS_LANES_UP p) lanes.toNat
    else s

/-- TW_IDENT: the neighbour's device ID, role, depth and SYNC generation are checked (R286). -/
def execTwIdent (p : Fin 4) (id : BitVec 6) (role : BitVec 2) (depth : BitVec 6) (s : State) :
    Host.Outcome State Fault Refusal :=
  .next <|
    if s.twState p = 3 ∧ 3 ≤ s.mode then
      let s := s.put (Fld.CSC_TW_STATUS_NEIGH_SEEN p) id.toNat
      let own := s.fld Fld.CSC_CFG_DEPTH
      let idOk := s.fld (Fld.CSC_TW_CFG_NEIGH_ID p) == id.toNat
      let roleOk := (role == 1 && depth == 0) || (role == 2 && depth != 0)
      let upOk := !s.isUp p || depth.toNat + 1 == own
      if s.role = 1 ∧ role = 1 then (twFail p 4 s).raise Fld.CSC_EVENT_MASTER_CONFLICT p
      else if idOk && roleOk && upOk then enterTw p 4 s
      else twFail p 3 s
    else s

/-- The one-way flight time of a lane in 1/16 ps (R294): half of the round trip without the far end's turnaround and the device's own
fixed latencies, and ASYM. -/
def flightTime (trip turn : Nat) (asym : Int) : Nat := (roundOpen ((trip : Int) - turn - Config.twFixed) 2 + asym).toNat

/-- TW_MEASURE_DONE: CSC_TW_DELAY shows lane 0's flight time (R294). -/
def execTwMeasureDone (p : Fin 4) (trip0 trip1 turn0 turn1 : Nat) (s : State) : Host.Outcome State Fault Refusal :=
  .next <|
    if s.twState p = 4 ∧ 3 ≤ s.mode then
      let asym := sgn 16 (s.fld (Fld.CSC_TW_CFG_ASYM p))
      let f0 := flightTime trip0 turn0 asym
      let f1 := flightTime trip1 turn1 asym
      let s := s.put (Fld.CSC_TW_DELAY_DELAY p) (min f0 (2 ^ 20 - 1))
      if 96000 < f0 ∨ 96000 < f1 then twFail p 5 s else enterTw p 5 s
    else s

/-- TW_LINK_UP: the far end is SYNC-aligned to generation `gen`; the port is UP when this end is aligned to the same one. -/
def execTwLinkUp (p : Fin 4) (gen : BitVec 8) (s : State) : Host.Outcome State Fault Refusal :=
  .next <|
    let own := if s.role = 2 then s.bit Fld.CSC_STATUS_SYNC_ALIGNED else s.bit Fld.GLB_CLK_STATUS_SYNC_DONE
    if s.twState p = 5 ∧ own ∧ s.fld Fld.CSC_STATUS_GEN = gen.toNat then (enterTw p 6 s).raise Fld.CSC_EVENT_LINK_UP else s

/-- TW_TRAIN_FAIL: clock recovery or alignment has not come within 100 µs (R293). -/
def execTwTrainFail (p : Fin 4) (s : State) : Host.Outcome State Fault Refusal :=
  .next <|
    if (s.twist p).since + 50000 ≤ s.tick then
      if s.twState p = 1 then twFail p 1 s else if s.twState p = 2 then twFail p 2 s else s
    else s

/-- TW_RETRY: 1 ms after FAILED the port trains again (R293). -/
def execTwRetry (p : Fin 4) (s : State) : Host.Outcome State Fault Refusal :=
  .next (if s.twState p = 7 ∧ (s.twist p).since + 500000 ≤ s.tick then twTrain p s else s)

/-- A write of CSC_TW_CMD: RETRAIN takes the port to DOWN (R293). -/
def twCmdWrite (p : Nat) (v : Word) (s : State) : State :=
  if fieldGet v (Fld.CSC_TW_CMD_RETRAIN p) = 1 then twDown p s else s

/-- TW_RETRAIN. -/
def execTwRetrain (path : Path) (p : Fin 4) (v : Word) (s : State) : Host.Outcome State Fault Refusal :=
  .next (gated path (Reg.CSC_TW_CMD p) (twCmdWrite p v) s)

/-! ### The frame (R288, R289, R291) -/

/-- The 16-bit CRC of the upper 48 bits of a frame, bit 63 first. -/
def crc16 (top : Nat) : Nat :=
  (((List.range 48).map fun i => bitOf top (47 - i)).foldl (crc16Bit 0x1021) 0xFFFF).toNat

/-- A frame before scrambling. -/
def frameWord (type payload : Nat) : Nat :=
  let top := 2 * 2 ^ 46 + type % 16 * 2 ^ 42 + payload % 2 ^ 42
  top * 2 ^ 16 + crc16 top

/-- Scrambles the `n` low bits of a frame, the highest first; the scrambler holds its last 58 output bits. -/
def scrambleBits : Nat → Nat → Nat → Nat × Nat
  | 0, scr, _ => (0, scr)
  | n + 1, scr, w =>
    let b := bitOf w n != (bitOf scr 38 != bitOf scr 57)
    let (rest, scr') := scrambleBits n ((2 * scr + b2n b) % 2 ^ 58) w
    (b2n b * 2 ^ n + rest, scr')

/-- A frame as it is sent on the duty lane of a port, and the scrambler after it. -/
def scramble (scr w : Nat) : Nat × Nat :=
  let (low, scr') := scrambleBits 62 scr w
  (w / 2 ^ 62 * 2 ^ 62 + low, scr')

/-- What a descrambler makes of the `n` low bits of a frame, the highest first, after the 58 bits `prev`. -/
def descrambleBits : Nat → Nat → Nat → Nat
  | 0, _, _ => 0
  | n + 1, prev, w =>
    let b := bitOf w n
    b2n (b != (bitOf prev 38 != bitOf prev 57)) * 2 ^ n + descrambleBits n ((2 * prev + b2n b) % 2 ^ 58) w

/-- A received frame, descrambled (R289). -/
def descramble (prev w : Nat) : Nat := w / 2 ^ 62 * 2 ^ 62 + descrambleBits 62 prev w

/-- A received frame is valid (R290): its SYNC field is 0b10, and the CRC of what the descrambler gives is right. -/
def frameValid (prev w : Nat) : Bool :=
  let f := descramble prev w
  f / 2 ^ 62 == 2 && crc16 (f / 2 ^ 16) == f % 2 ^ 16

/-- A port launches a frame on a lane, through that lane's scrambler (R289). -/
def launchOn (p lane type payload : Nat) (s : State) : State :=
  let x := s.twist p
  let (w, scr) := scramble (sget (fun _ => 0) x.scr lane) (frameWord type payload)
  s.setTwist p { x with scr := sset (fun _ => 0) x.scr lane scr, sent := sset (fun _ => none) x.sent lane (some (s.tick, w)) }

/-- A port sends a frame on its duty lane (R287). -/
def sendFrame (p type payload : Nat) (s : State) : State := launchOn p (s.fld (Fld.CSC_TW_STATUS_DUTY_LANE p)) type payload s

/-- The next frame of the bulk packet in progress on a lane, with the receive buffers freed since the frame before (R313). -/
def bulkFrame (p lane : Nat) (s : State) : State :=
  let x := s.twist p
  let l := sget (fun _ => {}) x.lanes lane
  match l.queue with
  | f :: rest =>
    let s := s.setTwist p { x with lanes := sset (fun _ => {}) x.lanes lane { l with queue := rest, freed := 0 } }
    let s := launchOn p lane f.1 (f.2 + l.freed % 16 * 2 ^ 38) s
    if rest.isEmpty then s else { s with later := s.later ++ [(s.tick + 1, .bulkFrame p lane)] }
  | [] => s

/-- The bulk packet in progress on a lane is cut (R309, R310). -/
def cutBulk (p lane : Nat) (s : State) : State :=
  let x := s.twist p
  let l := sget (fun _ => {}) x.lanes lane
  s.setTwist p { x with lanes := sset (fun _ => {}) x.lanes lane { l with busyTo := 0, queue := [] } }

/-- This tick begins an epoch (R20). -/
def State.epochStart (s : State) : Bool := s.sinceSync % 10 == 0

/-- The epoch count (spec/09, "SYNC markers"). -/
def State.epoch (s : State) : Nat := s.sinceSync / 10

/-- The reel integer nanoseconds and the fraction's upper 20 bits of a stamp. -/
def stampNsOf (stamp : Nat) : Nat := stamp / 2 ^ 32 % 2 ^ 64

/-- The payload of a STATE frame (R291). -/
def State.statePayload (s : State) : Nat :=
  s.fld Fld.CSC_CFG_MASTER_ID + 2 ^ 6 * s.fld Fld.CSC_CFG_DEV_ID + 2 ^ 12 * s.fld Fld.CSC_CFG_DEPTH +
    2 ^ 18 * s.fld Fld.CSC_STATUS_GEN + 2 ^ 26 * s.reelState + 2 ^ 28 * b2n s.reelValid + 2 ^ 29 * s.mode

/-- The frame of class 3 that a port could launch now, with the tick in which it was queued: at an epoch start a waiting
SYNC_LO (R296), else the first that is no SYNC_LO. -/
def class3 (x : Twist) (epoch : Bool) (up : Bool) : Option (Nat × TimeFrame) :=
  let sync := fun (f : Nat × TimeFrame) => f.2 == .syncLo
  let cand := if up then x.time else x.time.filter fun f => f.2 == .syncLo || f.2 == .syncHi
  match (if epoch then cand.find? sync else none) with
  | some f => some f
  | none => cand.find? fun f => !sync f

/-- A frame of class 3 is launched (R296, R299). -/
def launchTime (p : Nat) (f : Nat × TimeFrame) (s : State) : State :=
  let x := s.twist p
  let x := { x with time := x.time.erase f }
  match f.2 with
  | .timeLo => sendFrame p 2 (stampNsOf s.tln.reel % 2 ^ 42) (s.setTwist p { x with stamp := s.tln.reel })
  | .timeHi =>
    sendFrame p 3 (stampNsOf x.stamp / 2 ^ 42 + 2 ^ 22 * (x.stamp % 2 ^ 32 / 2 ^ 12)) (s.setTwist p x)
  | .state => sendFrame p 4 s.statePayload (s.setTwist p x)
  | .syncLo =>
    sendFrame p 6 (s.epoch % 2 ^ 42) (s.setTwist p { x with mark := s.epoch, time := (s.tick, .syncHi) :: x.time })
  | .syncHi => sendFrame p 7 (x.mark / 2 ^ 42 % 2 ^ 22 + 2 ^ 22 * s.fld Fld.CSC_STATUS_GEN) (s.setTwist p x)

/-- The forwarded GROUP frames of a port in their order (R305): release tick, then arrival port. -/
def fwdBefore (a b : Nat × Nat × Nat) : Bool := decide (a.1 < b.1) || (a.1 == b.1 && decide (a.2.1 ≤ b.2.1))

/-- The forwarded GROUP that stands first among those released before tick `t`. -/
def firstFwd (t : Nat) : List (Nat × Nat × Nat) → Option (Nat × Nat × Nat)
  | [] => none
  | f :: fs =>
    match firstFwd t fs with
    | some g => if decide (f.1 < t) && fwdBefore f g then some f else some g
    | none => if f.1 < t then some f else none

/-- A frame of class 2 or 3 has waited 64 ticks at tick `t` (R305). -/
def starving (t queued : Nat) : Bool := decide (queued + 64 ≤ t)

/-- Class 3 has waited 64 ticks at tick `t` (R305): one of its frames, a SYNC_LO only where it may be launched at all (R296). -/
def starving3 (t : Nat) (epoch : Bool) (x : Twist) : Bool :=
  x.time.any fun f => starving t f.1 && (epoch || f.2 != .syncLo)

/-- An export group is assigned to a port, enabled, and has a pending slot (R306). -/
def State.exportReady (s : State) (p g : Nat) : Bool :=
  s.bit (Fld.CSC_EXP_VALID g) && s.fld (Fld.CSC_EXP_PORT g) == p && s.bit (Fld.FAB_GRP_STATUS_ENABLED g) &&
    s.fld (Fld.FAB_GRP_STATUS_PENDING g) != 0

/-- The frame that an UP port launches in this tick (R305). -/
def launchUp (p : Nat) (s : State) : State :=
  let x := s.twist p
  let t := s.tick
  let c2 := x.rate.head?
  let c3 := class3 x s.epochStart true
  let starve2 : Bool := match c2 with
    | some f => starving t f.1
    | none => false
  let starve3 := starving3 t s.epochStart x
  if x.failing then launchOn p 1 8 (s.fld Fld.CSC_CFG_DEV_ID) (launchOn p 0 8 (s.fld Fld.CSC_CFG_DEV_ID) s)
  else match c2, starve2, c3, starve3, firstFwd t x.fwd, x.sel with
    | some f, true, _, _, _, _ => sendFrame p 5 f.2 (s.setTwist p { x with rate := x.rate.tail })
    | _, _, some f, true, _, _ => launchTime p f s
    | _, _, _, _, some f, _ => sendFrame p 1 f.2.2 (s.setTwist p { x with fwd := x.fwd.erase f })
    | _, _, _, _, none, some w => sendFrame p 1 w (s.setTwist p { x with sel := none })
    | some f, _, _, _, none, none => sendFrame p 5 f.2 (s.setTwist p { x with rate := x.rate.tail })
    | none, _, some f, _, none, none => launchTime p f s
    | none, _, none, _, none, none => sendFrame p 0 (s.fld Fld.CSC_CFG_DEV_ID) s

/-- The local export that stands first for the next tick is selected (R306): its pending slots go into its frame and are
cleared (R276). -/
def selectExport (p : Nat) (s : State) : State :=
  let x := s.twist p
  let t := s.tick + 1
  let late : Bool := match x.rate.head? with
    | some f => starving t f.1
    | none => false
  let late3 := starving3 t ((s.sinceSync + 1) % 10 == 0) x
  if x.failing || late || late3 || (firstFwd t x.fwd).isSome || x.sel.isSome then s
  else match (List.range 64).find? fun g => s.exportReady p g with
    | some g =>
      let gid := s.fld Fld.CSC_CFG_DEV_ID * 64 + g
      let w := s.fld (Fld.FAB_GRP_STATUS_PENDING g) + 2 ^ 16 * gid
      (s.put (Fld.FAB_GRP_STATUS_PENDING g) 0).setTwist p { x with sel := some w }
    | none => s

/-- Groups and GROUP frames that wait behind another frame are counted (R308): `displaced` counts the frames that this tick
could have launched and did not. -/
def countWaits (p displaced : Nat) (s : State) : State :=
  let n := displaced + ((List.range 64).filter fun g => s.exportReady p g).length
  if n = 0 then s else (s.count (Fld.CSC_TW_WAIT_COUNT p) n).raise Fld.CSC_EVENT_GRP_WAIT p

/-- A port launches the frame of this tick on its duty lane, TRAIN on every lane in the training states (R293), and the group of the next tick is selected (R292, R305, R306). -/
def frameLaunch (p : Nat) (s : State) : State :=
  if s.bit (Fld.CSC_TW_CFG_EN p) ∧ 1 ≤ s.mode ∧ s.role ≠ 0 then
    let st := s.twState p
    if st = 6 then
      let had := (s.twist p).sel.isSome
      let s := launchUp p s
      let x := s.twist p
      let left := (x.fwd.filter fun f => decide (f.1 < s.tick)).length + b2n (had && x.sel.isSome)
      countWaits p left (selectExport p s)
    else if st = 5 then
      match class3 (s.twist p) s.epochStart false with
      | some f => launchTime p f s
      | none => sendFrame p 0 (s.fld Fld.CSC_CFG_DEV_ID) s
    else if 1 ≤ st ∧ st ≤ 4 then
      forN 4 (fun lane s =>
        let (w, s) := s.fresh 42
        launchOn p lane 9 w s) s
    else sendFrame p 0 (s.fld Fld.CSC_CFG_DEV_ID) s
  else s

/-- FRAME_LAUNCH. -/
def execFrameLaunch (p : Fin 4) (s : State) : Host.Outcome State Fault Refusal := .next (frameLaunch p s)

/-! ### Received frames -/

/-- The incoming duty lane is declared failed (R309): the port sends FAILOVER; where lane 1 was the duty lane the port leaves
UP and retrains (R312). -/
def dutyFailed (p first : Nat) (s : State) : State :=
  let x := s.twist p
  if s.twState p ≠ 6 then s
  else if x.rxLane = 1 then twDown p s
  else if x.failing then s
  else cutBulk p 1 (s.setTwist p { x with failing := true, firstBad := some first })

/-- An invalid frame on a lane (R290, R309). -/
def frameInvalid (p lane : Nat) (s : State) : State :=
  let x := s.twist p
  let s := s.count (Fld.CSC_TW_CRC_COUNT p)
  if lane = x.rxLane then
    let s := s.raise Fld.CSC_EVENT_CRC_ERR p
    let bad := s.tick :: (x.bad.filter fun t => decide (s.tick < t + 16384) && t != s.tick)
    let s := s.setTwist p { x with bad := bad }
    let eight := (List.range 8).all fun i => decide (i ≤ s.tick) && bad.contains (s.tick - i)
    if eight then dutyFailed p (s.tick - 7) s
    else match bad[31]? with
      | some t => dutyFailed p t s
      | none => s
  else s

/-- FRAME_INVALID: the frame that a lane of an enabled port brings is descrambled and found invalid (R289, R290). -/
def execFrameInvalid (p lane : Fin 4) (prev : BitVec 58) (frame : BitVec 64) (s : State) : Host.Outcome State Fault Refusal :=
  .next (if s.bit (Fld.CSC_TW_CFG_EN p) && !frameValid prev.toNat frame.toNat then frameInvalid p lane s else s)

/-- CDR_LOCK_LOSS: the incoming duty lane loses clock recovery lock (R309). -/
def execCdrLockLoss (p : Fin 4) (s : State) : Host.Outcome State Fault Refusal := .next (dutyFailed p s.tick s)

/-- A valid frame of types 0x0 to 0x7 on lane 1 ends a failover (R309, R310). -/
def validFrame (p lane : Nat) (s : State) : State :=
  let x := s.twist p
  if x.failing ∧ lane = 1 then s.setTwist p { x with failing := false, rxLane := 1, bad := [] } else s

/-- A valid frame of types 0x0 to 0x7 has arrived on `lane` in a port whose training state is among `sts`: what it does where it
stands on the incoming duty lane. -/
def onFrame (p lane : Nat) (sts : List Nat) (act : State → State) (s : State) : State :=
  if sts.contains (s.twState p) then
    let s := validFrame p lane s
    if lane = (s.twist p).rxLane then act s else s
  else s

/-- A frame on a bulk lane returns `n` receive buffers of the far end (R313). -/
def creditBack (p lane n : Nat) (s : State) : State :=
  let x := s.twist p
  let l := sget (fun _ => {}) x.lanes lane
  s.setTwist p { x with lanes := sset (fun _ => {}) x.lanes lane { l with credits := min 4 (l.credits + n) } }

/-- A lane of a port sends bulk traffic: it is aligned and above the outgoing duty lane (R293, R310, R313). -/
def State.bulkLane (s : State) (p lane : Nat) : Bool :=
  decide (s.fld (Fld.CSC_TW_STATUS_DUTY_LANE p) < lane) && bitOf (s.fld (Fld.CSC_TW_STATUS_LANES_UP p)) lane

/-- A lane of a port receives bulk traffic: it is aligned and above the incoming duty lane (R293, R310, R313). -/
def State.bulkRx (s : State) (p lane : Nat) : Bool :=
  decide ((s.twist p).rxLane < lane) && bitOf (s.fld (Fld.CSC_TW_STATUS_LANES_UP p)) lane

/-- IDLE_RX: a valid frame ends a failover on lane 1 (R309); on a bulk lane it returns `freed` receive buffers (R313). -/
def execIdleRx (p lane : Fin 4) (freed : Fin 16) (s : State) : Host.Outcome State Fault Refusal :=
  let t := onFrame p lane [6] id s
  .next (if t.twState p = 6 ∧ t.bulkRx p lane then creditBack p lane freed t else t)

/-- A discarded frame is counted (R307, R291). -/
def dropFrame (p : Nat) (s : State) : State := (s.count (Fld.CSC_TW_DROP_COUNT p)).raise Fld.CSC_EVENT_FWD_DROP p

/-- A GROUP frame is released (R307). -/
def groupRx (p : Nat) (slots : BitVec 16) (gid : BitVec 12) (hops : BitVec 6) (s : State) : State :=
  let g := gid.toNat
  let imp := s.bit (Fld.CSC_FWD_IMP_EN g)
  let mask := s.fld (Fld.CSC_FWD_FWD g)
  if (!imp && mask == 0) || hops == 63 then dropFrame p s
  else
    let s := if imp then
        forN 16 (fun b s => if slots.getLsbD b then emit (prodImport (s.fld (Fld.CSC_FWD_IMPORT g)) b) (s.tick + 1) s else s) s
      else s
    let w := slots.toNat + 2 ^ 16 * g + 2 ^ 28 * (hops.toNat + 1)
    forN 4 (fun q s =>
      if bitOf mask q then
        let x := s.twist q
        if 16 ≤ x.fwd.length then dropFrame q s else s.setTwist q { x with fwd := x.fwd ++ [(s.tick, p, w)] }
      else s) s

/-- GROUP_RX. -/
def execGroupRx (p lane : Fin 4) (slots : BitVec 16) (gid : BitVec 12) (hops : BitVec 6) (s : State) :
    Host.Outcome State Fault Refusal := .next (onFrame p lane [6] (groupRx p slots gid hops) s)

/-- A time frame arrives out of sequence: the sequence yields no measurement, and measurements are no longer in a row (R300). -/
def breakSeq (s : State) : State := { s with csc := { s.csc with seqLo := none, seqHi := none, run := 0 } }

/-- TIME_LO_RX: the low bits of a stamp, with the reel of the tick in which the frame was launched (R295, R300). -/
def execTimeLoRx (p lane : Fin 4) (ns : BitVec 42) (s : State) : Host.Outcome State Fault Refusal :=
  .next <| onFrame p lane [6] (fun s =>
    if s.isUp p then
      let r := if s.reelRuns then reelBack s.tln.reel 10 s.tln.segs else s.tln.reel
      let s := if s.csc.seqLo.isSome then breakSeq s else s
      { s with csc := { s.csc with seqLo := some (ns.toNat, r), seqHi := none } }
    else s) s

/-- A frame that arrives in this tick may belong to the sequence of the TIME_LO that has arrived: it was launched within 500 ns after it.
Sequences are 1,000 ns apart (R299) and R305 bounds the wait of each frame, but no frame names its sequence (DEDUCED, log entry 145). -/
def State.sameSequence (s : State) : Bool :=
  match s.csc.seqLo with
  | some (_, r) => decide ((if s.reelRuns then reelBack s.tln.reel 10 s.tln.segs else s.tln.reel) < r + 500 * 2 ^ 32)
  | none => false

/-- TIME_HI_RX: one that follows no TIME_LO of its sequence breaks the sequence (R300). -/
def execTimeHiRx (p lane : Fin 4) (ns : BitVec 22) (frac : BitVec 20) (s : State) : Host.Outcome State Fault Refusal :=
  .next <| onFrame p lane [6] (fun s =>
    if !s.isUp p then s
    else if !s.sameSequence || s.csc.seqHi.isSome then breakSeq s
    else { s with csc := { s.csc with seqHi := some (ns.toNat, frac.toNat) } }) s

/-- The offset that a sequence measures (R300), in 2^-8 ns: the stamp (2^-32 ns), the sender's phase (1/16 ps) and the slave's
reel. -/
def cascadeOffset (stamp r : Nat) (phase : Int) : Int :=
  roundOpen (((stamp : Int) - r) * 16000 + phase * 2 ^ 32) (16000 * 2 ^ 24)

/-- A measurement from the cascade (R300, R303): after two in a row, 1,000 ns apart, the source is qualified. -/
def cascadeMeasure (p stamp r gen : Nat) (s : State) : State :=
  let us := stampNsOf stamp / 1000
  let next : Bool := match s.csc.lastMeas with
    | some (u, _) => u + 1 == us
    | none => false
  let run : Nat := if next = true then s.csc.run + 1 else 1
  let s := { s with csc := { s.csc with run := run, lastMeas := some (us, s.tick), seqLo := none, seqHi := none } }
  let ok := decide (2 ≤ run) && s.bit Fld.CSC_STATUS_SYNC_ALIGNED && s.fld Fld.CSC_STATUS_GEN == gen
  let s := if ok ∧ !s.bit Fld.CSC_STATUS_SRC_QUALIFIED then
      (s.put Fld.CSC_STATUS_SRC_QUALIFIED 1).raise Fld.CSC_EVENT_SRC_QUAL
    else s
  if s.bit Fld.CSC_STATUS_SRC_QUALIFIED ∧ s.fld Fld.TLN_CTL_SRC = 3 then
    measure (cascadeOffset stamp r (sgn 16 (s.fld (Fld.CSC_TW_PHASE_PHASE p)))) none (s.put Fld.TLN_STATUS_SRC_QUALIFIED 1)
  else s

/-- A STATE frame on the upstream port (R300, R303). -/
def stateRx (p : Nat) (master depth : BitVec 6) (gen : BitVec 8) (valid : Bool) (s : State) : State :=
  if !s.isUp p then s
  else if master.toNat ≠ s.fld Fld.CSC_CFG_MASTER_ID then loseCascade (breakSeq s)
  else match s.csc.seqLo, s.csc.seqHi with
    | some (lo, r), some (hi, frac) =>
      if s.sameSequence ∧ depth.toNat + 1 = s.fld Fld.CSC_CFG_DEPTH ∧ valid then
        cascadeMeasure p ((hi * 2 ^ 42 + lo) * 2 ^ 32 + frac * 2 ^ 12) r gen.toNat s
      else breakSeq s
    | _, _ => breakSeq s

/-- STATE_RX: the frame's sender ID, reel state and mode act on nothing. -/
def execStateRx (p lane : Fin 4) (master sender depth : BitVec 6) (gen : BitVec 8) (reel : BitVec 2) (valid : Bool)
    (mode : BitVec 3) (s : State) : Host.Outcome State Fault Refusal :=
  let _ := (sender, reel, mode)
  .next (onFrame p lane [6] (stateRx p master depth gen valid) s)

/-- The reel value that APPLY_T names (R302). -/
def applyReel (r t : Nat) : Int := ((r : Int) - 131071) + ((t : Int) - ((r : Int) - 131071)) % 2 ^ 18

/-- A rate reaches ADJ where the reel takes rates (R55, R58, R73). -/
def rateAdj (a : Int) (s : State) : State := if s.takesRates then s.setAdj a else s

/-- ADJ_m of a slave, and its ADJ (R301): the master's plus its own, within R53. -/
def slaveAdj (a : Int) (s : State) : State := rateAdj (a + s.csc.adjServo) { s with csc := { s.csc with adjM := a } }

/-- A RATE frame on the upstream port is forwarded and scheduled, or applied late (R301, R302). -/
def rateRx (p : Nat) (adj : BitVec 24) (applyT : BitVec 18) (s : State) : State :=
  if !s.isUp p then s
  else
    let a := adj.toInt
    let s := queueRate a applyT.toNat s
    let t := applyReel s.reelNs applyT.toNat
    if t * 2 ^ 32 < (s.tln.reel : Int) then
      if a = s.csc.adjM then s else (slaveAdj a s).raise Fld.CSC_EVENT_RATE_LATE
    else if s.csc.ratesRx.contains (t.toNat, a) then s
    else { s with csc := { s.csc with ratesRx := s.csc.ratesRx ++ [(t.toNat, a)] } }

/-- RATE_RX. -/
def execRateRx (p lane : Fin 4) (adj : BitVec 24) (applyT : BitVec 18) (s : State) : Host.Outcome State Fault Refusal :=
  .next (onFrame p lane [6] (rateRx p adj applyT) s)

/-- RATE_APPLY: the rates whose tick has come take effect (R301). -/
def execRateApply (s : State) : Host.Outcome State Fault Refusal :=
  .next <|
    let own := s.csc.rates.filter fun r => decide (r.1 ≤ s.tick)
    let hit := fun (r : Nat × Int) => s.inTick r.1 || decide (r.1 * 2 ^ 32 < s.tln.reel)
    let rx := s.csc.ratesRx.filter hit
    let s := { s with csc := { s.csc with rates := s.csc.rates.filter fun r => !decide (r.1 ≤ s.tick),
                                          ratesRx := s.csc.ratesRx.filter fun r => !hit r } }
    forAll (fun r s => slaveAdj r.2 s) rx (forAll (fun r s => rateAdj r.2 s) own s)

/-- RATE_REPEAT: the master repeats its latest RATE frame, with the original APPLY_T (R302). -/
def execRateRepeat (s : State) : Host.Outcome State Fault Refusal :=
  .next <|
    match s.csc.lastRate with
    | some (a, t, sent) =>
      if s.role = 1 ∧ sent + 500 ≤ s.tick then
        queueRate a t { s with csc := { s.csc with lastRate := some (a, t, s.tick) } }
      else s
    | none => s

/-- TIME_QUEUE: TIME_LO, TIME_HI and STATE are queued at a new microsecond (R299, R304). -/
def execTimeQueue (s : State) : Host.Outcome State Fault Refusal :=
  .next <|
    let us := s.reelNs / 1000
    if (s.role = 1 ∨ s.role = 2) ∧ s.reelValid ∧ s.tln.prevReel / 2 ^ 32 / 1000 < us ∧ s.csc.lastUs ≠ some us then
      let s := { s with csc := { s.csc with lastUs := some us } }
      forAll (fun p s =>
        let x := s.twist p
        s.setTwist p { x with time := x.time ++ [(s.tick, .timeLo), (s.tick, .timeHi), (s.tick, .state)] }) s.downPorts s
    else s

/-- SYNC_MARKER_QUEUE: a marker is due at an epoch whose count is a multiple of 50 (R296). -/
def execSyncMarkerQueue (p : Fin 4) (s : State) : Host.Outcome State Fault Refusal :=
  .next <|
    let on := (s.role = 1 ∧ s.bit Fld.GLB_CLK_STATUS_SYNC_DONE) ∨ (s.role = 2 ∧ s.bit Fld.CSC_STATUS_SYNC_ALIGNED)
    let x := s.twist p
    if on ∧ (s.twState p = 5 ∨ s.twState p = 6) ∧ s.epochStart ∧ s.epoch % 50 = 0 ∧
        !(x.time.any fun f => f.2 == .syncLo) then
      s.setTwist p { x with time := x.time ++ [(s.tick, .syncLo)] }
    else s

/-- SYNC_LO_RX. -/
def execSyncLoRx (p lane : Fin 4) (count : BitVec 42) (at_ : Fin 32000) (s : State) : Host.Outcome State Fault Refusal :=
  .next <| onFrame p lane [5, 6] (fun s => s.setTwist p { s.twist p with lo := some (count.toNat, s.tick, at_) }) s

/-- The instant in 1/16 ps at which the sender began the epoch of a SYNC_LO (R297), from the release time, the fixed latencies and
CSC_TW_DELAY. -/
def State.markedInstant (s : State) (p t at_ : Nat) : Int :=
  ((32000 * t + at_ : Nat) : Int) - Config.twLatency - s.fld (Fld.CSC_TW_DELAY_DELAY p)

/-- The CK_S cycle, of 1,000/16 ps, that starts nearest to an instant (R297). -/
def nearestCycle (i : Int) : Int := (i + 500) / 1000

/-- The offset that CSC_TW_PHASE records (R297, R300), S12.4 ps: how far the slave's epoch begins after the sender's. -/
def residual (i : Int) : Int := 1000 * nearestCycle i - i

/-- A marker pair is complete on the upstream port (R297, R298): the count, the tick in which SYNC_LO was released and the instant in it.
On an aligned link the sender began that epoch 10 ticks before (R295). -/
def markerPair (p count t at_ gen : Nat) (s : State) : State :=
  let aligned := s.bit Fld.CSC_STATUS_SYNC_ALIGNED
  let same := aligned && s.fld Fld.CSC_STATUS_GEN == gen
  if same then
    if (t : Int) - 10 - s.glb.syncTick = 10 * (count : Int) then s
    else loseCascade ((s.raise Fld.CSC_EVENT_SYNC_SLIP).put Fld.CSC_STATUS_SYNC_ALIGNED 0)
  else if s.mode = 2 ∨ s.mode = 3 ∨ s.mode = 7 then
    let i := s.markedInstant p t at_
    let s := applySync (nearestCycle i / 32 - 10 * (count : Int)) s
    let s := (s.put (Fld.CSC_TW_PHASE_PHASE p) (twos 16 (residual i))).put Fld.CSC_STATUS_GEN gen
    (s.put Fld.CSC_STATUS_SYNC_ALIGNED 1).raise Fld.CSC_EVENT_SYNC_APPLIED
  else if aligned then loseCascade s
  else s

/-- SYNC_HI_RX. -/
def execSyncHiRx (p lane : Fin 4) (count : BitVec 22) (gen : BitVec 8) (s : State) :
    Host.Outcome State Fault Refusal :=
  .next <| onFrame p lane [5, 6] (fun s =>
    let x := s.twist p
    match x.lo with
    | some (lo, t, at_) =>
      let s := s.setTwist p { x with lo := none }
      if s.isUp p then markerPair p (count.toNat * 2 ^ 42 + lo) t at_ gen.toNat s else s
    | none => s) s

/-- FRAME_RESERVED_TYPE: discarded and counted as UNROUTED, in every state of an enabled port (R291). -/
def execFrameReservedType (p lane : Fin 4) (s : State) : Host.Outcome State Fault Refusal :=
  let _ := lane
  .next (if s.bit (Fld.CSC_TW_CFG_EN p) then dropFrame p s else s)

/-- CASCADE_SRC_TIMEOUT: no measurement for 4 µs, except during a failover (R303, R311). -/
def execCascadeSrcTimeout (s : State) : Host.Outcome State Fault Refusal :=
  .next <|
    let old : Bool := match s.csc.lastMeas with
      | some (_, t) => decide (t + 2000 ≤ s.tick)
      | none => true
    if s.role = 2 ∧ s.bit Fld.CSC_STATUS_SRC_QUALIFIED ∧ old ∧ (s.twist (s.fld Fld.CSC_DIM_UP_PORT)).firstBad.isNone then
      loseCascade s
    else s

/-- FAILOVER_RX: the far end asks this port to move its outgoing duty traffic to lane 1 (R310). -/
def execFailoverRx (p lane : Fin 4) (s : State) : Host.Outcome State Fault Refusal :=
  .next <|
    if s.twState p = 6 ∧ lane.val ≤ 1 ∧ s.fld (Fld.CSC_TW_STATUS_DUTY_LANE p) = 0 then
      s.setTwist p { s.twist p with move := true }
    else s

/-- DUTY_LANE_SWITCH: at an epoch start the outgoing duty traffic moves to lane 1; a bulk packet in progress there is aborted
(R310, R315); the failover is a tolerated fault (R481). -/
def execDutyLaneSwitch (p : Fin 4) (s : State) : Host.Outcome State Fault Refusal :=
  .next <|
    let x := s.twist p
    if s.twState p = 6 ∧ x.move ∧ s.epochStart then
      let s := cutBulk p 1 (s.setTwist p { x with move := false })
      ((s.put (Fld.CSC_TW_STATUS_DUTY_LANE p) 1).raise Fld.CSC_EVENT_FAILOVER p).count Fld.SUP_TOL_FAILOVER
    else s

/-- FAILOVER_TIMEOUT: the failover interval ends; with no measurement in it the source is lost (R311). -/
def execFailoverTimeout (p : Fin 4) (s : State) : Host.Outcome State Fault Refusal :=
  .next <|
    let x := s.twist p
    match x.firstBad with
    | some t =>
      if t + 20000 ≤ s.tick then
        let s := s.setTwist p { x with firstBad := none }
        let seen : Bool := match s.csc.lastMeas with
          | some (_, m) => decide (t ≤ m)
          | none => false
        if s.isUp p && !seen then loseCascade s else s
      else s
    | none => s

/-- STRAP_CHG: the CASC_MASTER ball is at `level` (R285). -/
def execStrapChg (level : Bool) (s : State) : Host.Outcome State Fault Refusal :=
  .next (s.raiseIf (s.bit Fld.CSC_STATUS_STRAP != level) Fld.CSC_STATUS_STRAP_CHG)

end Sys2Proof.Machine
end

