-- ==== Sys2Proof/Machine/Fabric.lean ====
section
/-! DEFINITION. Machine/Fabric.lean: the commands of the decision fabric (spec/08). -/

namespace Sys2Proof.Machine

/-- The consumer type of a strand (R256). -/
def consType (cons : Nat) : Nat := cons / 4096

/-- The COINCIDENT flag of a consumer is set (R261, R262). -/
def coincide (cons : Nat) (s : State) : State :=
  let i := cons % 4096
  match consType cons with
  | 1 => (s.raise (Fld.FAB_PLY_STATUS_COINCIDENT (i / 4))).raise Fld.FAB_EVENT_COINCIDENT (i / 4)
  | 2 => s.raise (Fld.SPN_EVENT_COINCIDENT (i / 16))
  | 3 => (s.raise (Fld.FAB_CT_EVENT_COINCIDENT (i / 16))).raise Fld.FAB_EVENT_COINCIDENT (i / 16)
  | 4 => (s.raise (Fld.FAB_CT_EVENT_COINCIDENT i)).raise Fld.FAB_EVENT_COINCIDENT i
  | 5 => (s.raise (Fld.FAB_GRP_EVENT_COINCIDENT (i / 16))).raise Fld.FAB_EVENT_COINCIDENT (i / 16)
  | 6 => (s.raise (Fld.FAB_GRP_EVENT_COINCIDENT (i / 2))).raise Fld.FAB_EVENT_COINCIDENT (i / 2)
  | 7 => s.raise (Fld.BOB_EVENT_TRIG_COINCIDENT i)
  | _ => s

/-- An event at a syndrome bit (R262, R271). -/
def syndrome (t b : Nat) (s : State) : State :=
  let w := s.fld (Fld.FAB_CT_STATE_SYND t)
  if s.bit (Fld.FAB_CT_CFG_SYND_MODE t) then
    s.put (Fld.FAB_CT_STATE_SYND t) (if bitOf w b then clrBit w b else setBit w b)
  else if bitOf w b then
    ((s.raise (Fld.FAB_CT_EVENT_SYND_OVR t)).count (Fld.FAB_CT_COUNT_OVERRUN t)).raise Fld.FAB_EVENT_OVERRUN t
  else s.put (Fld.FAB_CT_STATE_SYND t) (setBit w b)

/-- What a consumer with no command of its own does with an event: in the next tick a SIN latch (R128), or the vectors that the input is
the source of, which take the latch's place (R118, R262); a syndrome bit, and a bobbin's trigger input. -/
def consume1 (cons : Nat) (s : State) : State :=
  let i := cons % 4096
  match consType cons with
  | 2 =>
    let n := i / 16
    let vs := (List.range 8).filter fun v => s.bit (Fld.SPN_VEC_EN n v) && s.fld (Fld.SPN_VEC_SRC n v) == i % 16
    { s with later := s.later ++ if vs.isEmpty then [(s.tick + 1, .sinSet n (i % 16))] else vs.map fun v => (s.tick + 1, .vecPend n v) }
  | 3 => syndrome (i / 16) (i % 16) s
  | 7 => bobStrand i s
  | _ => s

/-- Both gates of an export group receive events in one tick (R277). -/
def bothGates (cons : Nat) (s : State) : State :=
  if consType cons = 6 ∧ s.reached (if cons % 2 = 0 then cons + 1 else cons - 1) then coincide cons s else s

/-- An event becomes visible at its strand's consumer (R257); events of further strands in the same tick add nothing but the flag of R261,
once. -/
def strandEvent (k : Nat) (s : State) : State :=
  match s.fab.flight.find? fun f => decide (f.1 ≤ s.tick) && f.2 == k with
  | some f =>
    let s := { s with fab := { s.fab with flight := s.fab.flight.erase f } }
    let s := s.count (Fld.FAB_EV_COUNT_EVENTS k)
    let cons := s.fld (Fld.FAB_EV_CFG_CONS k)
    let again := s.reached cons
    let s := showEvent k cons s
    if again then
      let first := (s.fab.seen.filter (· == cons)).length == 2
      let s := { s with fab := { s.fab with vis := s.fab.vis.erase cons } }
      if first then coincide cons s else s
    else consume1 cons (bothGates cons s)
  | none => s

/-- STRAND_EVENT. -/
def execStrandEvent (k : Fin 1024) (s : State) : Host.Outcome State Fault Refusal := .next (strandEvent k s)

/-- A write of FAB_FORCE (R260). -/
def fabForce (v : Word) (s : State) : State :=
  if s.debugControl && s.fabricOn then
    (emitOn (fieldGet v Fld.FAB_FORCE_STRAND) (s.tick + 1) s).raise Fld.FAB_EVENT_FORCED
  else s

/-- FAB_FORCE. -/
def execFabForce (path : Path) (v : Word) (s : State) : Host.Outcome State Fault Refusal :=
  .next (gated path Reg.FAB_FORCE (fabForce v) s)

/-! ### Ply cells -/

/-- The mode of input `i` of a cell (R263). -/
def State.plyMode (s : State) (n i : Nat) : Nat := s.fld ⟨Reg.FAB_PLY_CFG n, 16 + 2 * i, 2⟩

/-- The consumer code of input `i` of a cell (R256). -/
def consPly (n i : Nat) : Nat := 0x1000 + 4 * n + i

/-- The input state of R264. -/
def plyInput (mode : Nat) (x e clr : Bool) : Bool :=
  match mode with
  | 0 => e
  | 1 => (x && !clr) || e
  | 2 => (x && !clr) != e
  | _ => false

/-- The filtered level follows a value held for FILT + 1 ticks (R265): the ticks held so far, and the level. -/
def plyFilter (filt : Nat) (p : Ply) (a f : Bool) : Nat × Bool :=
  let run := if p.last.isSome && p.a == a then p.run + 1 else 1
  (run, if filt + 1 ≤ run then a else f)

/-- A ply cell evaluates one tick (R263 to R266). -/
def plyEval (n : Nat) (s : State) : State :=
  let p := sget (fun _ => {}) s.fab.ply n
  if s.fabricOn && p.last != some s.tick then
    let e := (List.range 4).map fun i => s.visible (consPly n i)
    let s := forN 4 (fun i s => takeEvent (consPly n i) s) s
    let emitted := match p.last with
      | some t => p.emitted && t + 1 == s.tick
      | none => false
    let clr := (s.bit (Fld.FAB_PLY_CFG_AUTO_CLR n) && emitted) ||
      (List.range 4).any fun i => s.plyMode n i == 3 && e.getD i false
    let xs := s.fld (Fld.FAB_PLY_STATUS_X n)
    let overrun := (List.range 4).any fun i => s.plyMode n i == 1 && e.getD i false && bitOf xs i && !clr
    let x := (List.range 4).map fun i => plyInput (s.plyMode n i) (bitOf xs i) (e.getD i false) clr
    let q := s.bit (Fld.FAB_PLY_STATUS_Q n)
    let x3 := if s.bit (Fld.FAB_PLY_CFG_FB n) then q && !clr else x.getD 3 false
    let idx := b2n (x.getD 0 false) + 2 * b2n (x.getD 1 false) + 4 * b2n (x.getD 2 false) + 8 * b2n x3
    let l := bitOf (s.fld (Fld.FAB_PLY_CFG_TT n)) idx
    let ff := s.bit (Fld.FAB_PLY_CFG_FF_EN n)
    let a := if ff then q else l
    let f := s.bit (Fld.FAB_PLY_STATUS_F n)
    let (run, f') := plyFilter (s.fld (Fld.FAB_PLY_FILT_FILT n)) p a f
    let out := match s.fld (Fld.FAB_PLY_CFG_OUT_MODE n) with
      | 0 => f'
      | 1 => f' && !f
      | 2 => !f' && f
      | _ => false
    let s := { s with fab := { s.fab with ply := sset (fun _ => {}) s.fab.ply n ⟨out, run, a, some s.tick⟩ } }
    let s := (s.put (Fld.FAB_PLY_STATUS_X n) idx).put (Fld.FAB_PLY_STATUS_L n) (b2n l)
    let s := (s.put (Fld.FAB_PLY_STATUS_Q n) (b2n (if ff then l else q))).put (Fld.FAB_PLY_STATUS_F n) (b2n f')
    let s := if overrun then (s.raise (Fld.FAB_PLY_STATUS_OVERRUN n)).raise Fld.FAB_EVENT_OVERRUN n else s
    if out then emit (prodPly n) (s.tick + 1) (s.count (Fld.FAB_PLY_STATUS_EMITS n)) else s
  else s

/-- PLY_EVAL. -/
def execPlyEval (n : Fin 512) (s : State) : Host.Outcome State Fault Refusal := .next (plyEval n s)

/-! ### Trigger inputs -/

/-- The active level (R270). -/
def State.trgActive (s : State) (i : Nat) : Bool := s.fld (Fld.FAB_TRG_CFG_EDGE i) != 1

/-- The level at a ball TRG_IN changes, for the whole of this tick: it is sampled two ticks later (R268). -/
def trgEdge (i : Nat) (level : Bool) (s : State) : State :=
  let x := s.trgIn i
  if x.ball = level then s
  else
    let s := s.setTrgIn i { x with ball := level }
    { s with later := s.later ++ [(s.tick + 2, .trgSample i level)] }

/-- TRG_IN_EDGE: the edge at the ball, which is sampled in the tick after the next and qualifies MIN_PULSE ticks later (R268 to R270). -/
def execTrgInEdge (i : Fin 16) (level : Bool) (s : State) : Host.Outcome State Fault Refusal := .next (trgEdge i level s)

/-- The sampled level has stayed active for TIMEOUT × 500 ticks, this one included (R270): once for each stay, be the input STUCK already by its
run start or not. -/
def trgStuck (i : Nat) (s : State) : State :=
  let tmo := s.fld (Fld.FAB_TRG_STUCK_TIMEOUT i)
  let x := s.trgIn i
  if s.bit (Fld.FAB_TRG_CFG_EN i) ∧ s.bit (Fld.FAB_TRG_STATUS_LEVEL i) = s.trgActive i ∧ tmo ≠ 0 ∧
      x.told ≠ some x.since ∧ x.since + tmo * 500 ≤ s.tick + 1 then
    let from_ := if s.bit (Fld.FAB_TRG_STATUS_STUCK i) then x.stuckFrom else s.tick
    let s := s.setTrgIn i { x with stuckFrom := from_, told := some x.since }
    ((s.put (Fld.FAB_TRG_STATUS_STUCK i) 1).raise (Fld.FAB_TRG_STATUS_STUCK_EV i)).raise Fld.FAB_EVENT_TRG_STUCK i
  else s

/-- TRG_IN_STUCK. -/
def execTrgInStuck (i : Fin 16) (s : State) : Host.Outcome State Fault Refusal := .next (trgStuck i s)

/-- The sampled level has stayed inactive for MIN_PULSE + 1 ticks since the input became stuck (R270). -/
def trgUnstuck (i : Nat) (s : State) : State :=
  let x := s.trgIn i
  if s.bit (Fld.FAB_TRG_STATUS_STUCK i) ∧ s.bit (Fld.FAB_TRG_STATUS_LEVEL i) ≠ s.trgActive i ∧
      max x.since x.stuckFrom + s.fld (Fld.FAB_TRG_CFG_MIN_PULSE i) ≤ s.tick then
    (s.put (Fld.FAB_TRG_STATUS_STUCK i) 0).setTrgIn i { x with unstuck := some s.tick }
  else s

/-- TRG_IN_UNSTUCK. -/
def execTrgInUnstuck (i : Fin 16) (s : State) : Host.Outcome State Fault Refusal := .next (trgUnstuck i s)

/-- The sampled level reverts before it qualifies, as the ball did two ticks before (R268). -/
def trgGlitch (i : Nat) (s : State) : State :=
  let x := s.trgIn i
  if s.bit (Fld.FAB_TRG_CFG_EN i) && x.open_ then
    let back := !s.bit (Fld.FAB_TRG_STATUS_LEVEL i)
    trgSample i back ({ s with later := s.later.filter fun p => match p.2 with
      | .trgSample j _ => j != i
      | _ => true }.setTrgIn i { x with ball := back })
  else s

/-- TRG_IN_GLITCH. -/
def execTrgInGlitch (i : Fin 16) (s : State) : Host.Outcome State Fault Refusal := .next (trgGlitch i s)

/-! ### Correction tables -/

/-- The first byte of the correction-table region (R272, R350). -/
def tableBase : Nat := 0x3800000

/-- Lookups in progress of a table: start tick and address. -/
def State.lookups (s : State) (t : Nat) : List (Nat × Nat) := sget (fun _ => []) s.fab.ct t

/-- Store them. -/
def State.setLookups (s : State) (t : Nat) (l : List (Nat × Nat)) : State :=
  { s with fab := { s.fab with ct := sset (fun _ => []) s.fab.ct t l } }

/-- A trigger is visible at a table (R262, R274). -/
def ctTrigger (t : Nat) (s : State) : State :=
  if s.visible (0x4000 + t) then
    let s := takeEvent (0x4000 + t) s
    if !s.bit (Fld.FAB_CT_CFG_EN t) then s
    else if (s.lookups t).any fun l => decide (s.tick < l.1 + 6) then
      ((s.raise (Fld.FAB_CT_EVENT_TRIG_OVR t)).count (Fld.FAB_CT_COUNT_OVERRUN t)).raise Fld.FAB_EVENT_OVERRUN t
    else
      let s := s.setLookups t (s.lookups t ++ [(s.tick, s.fld (Fld.FAB_CT_STATE_SYND t))])
      (s.put (Fld.FAB_CT_STATE_SYND t) 0).put (Fld.FAB_CT_STATE_BUSY t) 1
  else s

/-- CT_TRIGGER. -/
def execCtTrigger (t : Fin 16) (s : State) : Host.Outcome State Fault Refusal := .next (ctTrigger t s)

/-- The oldest lookup of a table ends in its tick 6 (R274, R275). The entry that an uncorrectable read leaves in FAB_CT_LAST_MASK is a free
value (log entry 134). -/
def ctDone (t : Nat) (ecc : Ecc) (s : State) : State :=
  match s.lookups t with
  | (t0, addr) :: rest =>
    if t0 + 6 ≤ s.tick then
      let s := (s.setLookups t rest).put (Fld.FAB_CT_STATE_BUSY t) (b2n !rest.isEmpty)
      let at_ := tableBase + 0x40000 * t + 4 * addr
      let (w, s) := if ecc = .bad then s.fresh 32 else (s.sramNat at_ 4, s)
      let s := ((s.put (Fld.FAB_CT_LAST_ADDR t) addr).wr (Reg.FAB_CT_LAST_MASK t) (BitVec.ofNat 32 w)).count
        (Fld.FAB_CT_COUNT_LOOKUPS t)
      match ecc with
      | .bad => (s.raise (Fld.FAB_CT_EVENT_ECC_UNCORR t)).raise Fld.FAB_EVENT_CT_ECC
      | _ =>
        let s := if ecc = .corrected then (s.raise (Fld.FAB_CT_EVENT_ECC_CORR t)).raise Fld.FAB_EVENT_CT_ECC else s
        let s := forN 32 (fun b s => if bitOf w b then emit (prodMask t b) (s.tick + 1) s else s) s
        emit (prodDone t) (s.tick + 1) s
    else s
  | [] => s

/-- CT_LOOKUP_DONE. -/
def execCtLookupDone (t : Fin 16) (ecc : Ecc) (s : State) : Host.Outcome State Fault Refusal := .next (ctDone t ecc s)

/-! ### Export groups -/

/-- An event at an export slot (R262, R276, R278). -/
def exportSlot (g b : Nat) (s : State) : State :=
  let cons := 0x5000 + 16 * g + b
  if s.visible cons then
    let s := takeEvent cons s
    let pend := s.fld (Fld.FAB_GRP_STATUS_PENDING g)
    if !s.bit (Fld.FAB_GRP_STATUS_ENABLED g) then dropSlot g s
    else if bitOf pend b then (s.raise (Fld.FAB_GRP_EVENT_OVERRUN g)).raise Fld.FAB_EVENT_OVERRUN g
    else s.put (Fld.FAB_GRP_STATUS_PENDING g) (setBit pend b)
  else s

/-- EXPORT_SLOT_EVENT. -/
def execExportSlotEvent (g : Fin 64) (b : Fin 16) (s : State) : Host.Outcome State Fault Refusal := .next (exportSlot g b s)

/-- An event at a gate of an export group acts from the next tick; with both gates ENABLE acts, whichever command comes first (R277). -/
def exportGate (g : Nat) (on : Bool) (s : State) : State :=
  let cons := 0x6000 + 2 * g + b2n !on
  if s.visible cons then
    let s := takeEvent cons s
    if on then { s with later := s.later.erase (s.tick + 1, .gate g false) ++ [(s.tick + 1, .gate g true)] }
    else if s.reached (0x6000 + 2 * g) then s
    else { s with later := s.later ++ [(s.tick + 1, .gate g false)] }
  else s

/-- EXPORT_GATE_ENABLE. -/
def execExportGateEnable (g : Fin 64) (s : State) : Host.Outcome State Fault Refusal := .next (exportGate g true s)

/-- EXPORT_GATE_DISABLE. -/
def execExportGateDisable (g : Fin 64) (s : State) : Host.Outcome State Fault Refusal := .next (exportGate g false s)

end Sys2Proof.Machine
end

