-- ==== Sys2Proof/Machine/Reel.lean ====
section
/-! DEFINITION. Machine/Reel.lean: the timeline's commands (spec/02): the tick, network time, external time and launches. -/

namespace Sys2Proof.Machine

/-! ### PTP -/

/-- What one PTP port holds. -/
def State.port (s : State) (p : Nat) : PtpPort := sget (fun _ => {}) s.tln.ports p

/-- Store what one PTP port holds. -/
def State.setPort (s : State) (p : Nat) (x : PtpPort) : State :=
  { s with tln := { s.tln with ports := sset (fun _ => {}) s.tln.ports p x } }

/-- The Ethernet ports are on: in a mode of the mode table of spec/01 that has them, at no level below D1 (R495). -/
def State.ethOn (s : State) : Bool := decide (2 ≤ s.mode) && decide (s.fld Fld.PWR_STATUS_DORM_LEVEL < 2)

/-- The PTP instance of a port runs. -/
def State.ptpOn (s : State) (p : Nat) : Bool := s.bit (Fld.TLN_PTP_CFG_EN p) && s.ethOn

/-- Whether the source that TLN_CTL.SRC selects is qualified (R60). -/
def State.srcQualified (s : State) : Bool :=
  match s.fld Fld.TLN_CTL_SRC with
  | 0 => s.reelRuns
  | 1 => s.bit (Fld.TLN_PTP_STATUS_QUALIFIED (s.fld Fld.TLN_CTL_PTP_PRIMARY))
  | 2 => s.tln.extOk
  | 3 => s.bit Fld.CSC_STATUS_SRC_QUALIFIED
  | _ => false

/-- TLN_STATUS.SRC_QUALIFIED follows the selected source (R60). -/
def showQualified (s : State) : State := s.put Fld.TLN_STATUS_SRC_QUALIFIED (b2n s.srcQualified)

/-- A write of TLN_CTL: the qualification shown is that of the source it selects (R60), and with FREE, ADJ is held at 0 (text after
R61). STATE stays: a reel that is switched to FREE in ACQUIRING or HOLDOVER does not lock by itself (DESIGN CHOICE, log entry 129). -/
def tlnCtlWrite (path : Path) (v : Word) (s : State) : State :=
  let was := s.rd Reg.TLN_CTL
  let s := plainWrite path Reg.TLN_CTL v s
  if s.rd Reg.TLN_CTL = was then s
  else
    let s := showQualified s
    if s.fld Fld.TLN_CTL_SRC = 0 then (s.setAdj 0).put Fld.TLN_STATUS_SERVO_FROZEN 0 else s

/-- A write of TLN_SLEW_MAX: ADJ stays within the new bound (R53). -/
def slewMaxWrite (path : Path) (v : Word) (s : State) : State :=
  let was := s.rd Reg.TLN_SLEW_MAX
  let s := plainWrite path Reg.TLN_SLEW_MAX v s
  if s.rd Reg.TLN_SLEW_MAX = was then s else s.setAdj s.adj

/-- The primary port (R83). -/
def State.primary (s : State) : Nat := s.fld Fld.TLN_CTL_PTP_PRIMARY

/-- A port is qualified (R64). -/
def State.qualified (s : State) (p : Nat) : Bool := s.bit (Fld.TLN_PTP_STATUS_QUALIFIED p)

/-- How far an offset lies from the holdover prediction, in units of 2^-32 ns (R79, R80). -/
def State.departure (s : State) (e : Int) : Option Nat := s.prediction.map fun q => (e * 2 ^ 24 - q).natAbs

/-- Whether a measurement of the primary port declares a path change, and the suspect port (R79, R80). The manual leaves open, and
the model chooses (log entry 127): the secondary port is suspect where both offsets lie equally far from the prediction, the
primary one where there is no prediction yet; without a prediction or an earlier path delay R80 declares nothing. -/
def asymSuspect (s : State) (p : Nat) (e : Int) : Option Nat :=
  let q := 1 - p
  let thr := s.fld Fld.TLN_ASYM_THRESH_NS
  let x := s.port p
  if s.qualified q then
    let y := s.port q
    if y.fresh && decide (thr < (e - y.offset).natAbs) then
      match s.departure e, s.departure y.offset with
      | some a, some b => some (if b < a then p else q)
      | _, _ => some p
    else none
  else
    match s.departure e, x.delay, x.prevDelay with
    | some a, some d, some d0 => if thr * 2 ^ 24 < a ∧ thr < (d - d0).natAbs then some p else none
    | _, _, _ => none

/-- The measurement of a secondary port that is the one port qualified: no measurement of the selected source, but R80 looks at it, and
R82 counts it. -/
def watchPort (p : Nat) (e : Int) (s : State) : State :=
  match asymSuspect s p e with
  | some q => declareAsym q s
  | none => clearAsym s

/-- A port takes one measurement from a valid Sync (R64): the offset, with the mean path delay of the latest complete
exchange; the primary port's measurement goes to the servo. -/
def portMeasure (p : Nat) (t1 t2 : Int) (s : State) : State :=
  let x := s.port p
  match x.delay with
  | none => s
  | some d =>
    let e := t1 + d - t2
    let s := s.wr (Reg.TLN_PTP_OFFSET p) (BitVec.ofNat 32 (twos 32 (satInt 32 e)))
    let isPrim := p == s.primary && s.fld Fld.TLN_CTL_SRC == 1
    let s := if isPrim && s.qualified p then measure e (asymSuspect s p e) s
      else if !isPrim && s.fld Fld.TLN_CTL_SRC == 1 && s.qualified p && !s.qualified (1 - p) then watchPort p e s
      else s
    let s := s.setPort p { s.port p with offset := e, fresh := true, prevDelay := some d }
    if isPrim then s.setPort (1 - p) { s.port (1 - p) with fresh := false } else s

/-- A valid Sync with its stamps complete: it is the latest Sync, and one measurement is taken. -/
def takeSync (p : Nat) (t1 t2 : Int) (s : State) : State :=
  portMeasure p t1 t2 (s.setPort p { s.port p with syncT2 := none, lastSync := some (t1, t2) })

/-- The count of exchanges of a port that has not qualified begins anew (R64). -/
def restartCount (p : Nat) (s : State) : State :=
  if s.qualified p then s else s.setPort p { s.port p with exchanges := 0 }

/-- The time stamp of an event message in cycle `cyc` of CK_S of the present tick (R63): the reel, to 62.5 ps, in 2^-8 ns. The port's
own fixed latency is taken out of it. -/
def State.stamp (s : State) (cyc : Fin 32) : Int := ((s.tln.reel / 2 ^ 28 + cyc.val) * 16 : Nat)

/-- A receive stamp corrected by TLN_PTP_CORR (R63), S8.8 ns. -/
def State.ingress (s : State) (p : Nat) (cyc : Fin 32) : Int := s.stamp cyc - sgn 16 (s.fld (Fld.TLN_PTP_CORR_INGRESS p))

/-- A transmit stamp corrected by TLN_PTP_CORR (R63), S8.8 ns. -/
def State.egress (s : State) (p : Nat) (cyc : Fin 32) : Int := s.stamp cyc + sgn 16 (s.fld (Fld.TLN_PTP_CORR_EGRESS p))

/-- A received message is PTP of the port's domain and transport (R62). -/
def State.hears (s : State) (p : Nat) (m : PtpMsg) : Bool :=
  m.domain.toNat == s.fld (Fld.TLN_PTP_CFG_DOMAIN p) && m.udp == s.bit (Fld.TLN_PTP_CFG_TRANSPORT p)

/-- What a port does with a PTP message (R62, R64): one of another domain or transport is discarded and counted, and `act` takes one
of the selected time transmitter. -/
def fromMaster (p : Nat) (m : PtpMsg) (act : State → State) (s : State) : State :=
  if !s.ptpOn p then s
  else if !s.hears p m then s.count (Fld.TLN_PTP_STATUS_RX_DROP p)
  else if (s.port p).selected = some m.sender then act s
  else s

/-- A Sync of the selected time transmitter: a gap in the sequence numbers before it tells of a missing or invalid Sync, as does a
two-step Sync whose Follow_Up never came, and restarts the count (R64). -/
def syncRx (p : Nat) (seq : BitVec 16) (twoStep : Bool) (t1 : Int) (cyc : Fin 32) (s : State) : State :=
  let x := s.port p
  let gap := match x.lastSeq with
    | some q => (q + 1) % 2 ^ 16 != seq.toNat
    | none => false
  let s := if gap || x.syncT2.isSome then restartCount p s else s
  let s := s.setPort p { s.port p with lastSeq := some seq.toNat, syncT2 := none }
  let t := s.ingress p cyc
  if twoStep then s.setPort p { s.port p with syncT2 := some t } else takeSync p t1 t s

/-- PTP_SYNC_RX. -/
def execPtpSyncRx (p : Fin 2) (m : PtpMsg) (twoStep : Bool) (t1 : Int) (cyc : Fin 32) (s : State) :
    Host.Outcome State Fault Refusal :=
  .next (fromMaster p m (syncRx p m.seq twoStep t1 cyc) s)

/-- PTP_FOLLOW_UP_RX. -/
def execPtpFollowUpRx (p : Fin 2) (m : PtpMsg) (t1 : Int) (s : State) : Host.Outcome State Fault Refusal :=
  .next <| fromMaster p m (fun s =>
    match (s.port p).syncT2 with
    | some t2 => if (s.port p).lastSeq = some m.seq.toNat then takeSync p t1 t2 s else s
    | none => s) s

/-- Where the time-stamp point of an armed launch slot lies at the earliest, in units of 0.04 ns of the reel (R85, R88): at its time, and
where it is deferred not before the port's gap. -/
def State.slotTime (s : State) (k : Nat) : Nat :=
  let t := s.rd64 (Reg.TLN_LAUNCH_T_LO k) * 25
  if k ∈ s.tln.deferred then max t (sget (fun _ => 0) s.tln.portFree (s.fld (Fld.TLN_LAUNCH_CFG_PORT k)) + 96) else t

/-- When an armed launch slot begins on its port, preamble and SFD included: 8 bytes before its time-stamp point. -/
def State.launchStart (s : State) (k : Nat) : Nat := s.slotTime k - 64

/-- An armed launch on this port would begin before a transmission of `n` bytes that starts now has ended (R87); one byte takes 8
units of 0.04 ns. -/
def State.launchInWay (s : State) (p n : Nat) : Bool :=
  s.reelRuns && (List.range 16).any fun k =>
    s.bit (Fld.TLN_LAUNCH_CFG_ARM k) && s.fld (Fld.TLN_LAUNCH_CFG_PORT k) == p && !s.tln.tooLate.contains k &&
    (s.tln.deferred.contains k || decide (s.tln.reel ≤ s.rd64 (Reg.TLN_LAUNCH_T_LO k) * 2 ^ 32)) &&
    decide (s.launchStart k * 2 ^ 32 < s.tln.reel * 25 + 8 * n * 2 ^ 32)

/-- A frame as it leaves an Ethernet port (R85): preamble, SFD, the body padded to 60 bytes, and the FCS. -/
def ethFrame (body : List Byte) : List Byte :=
  let b := body ++ List.replicate (60 - body.length) 0
  List.replicate 7 0x55 ++ [0xD5] ++ b ++ leBytes 4 (fcs b).toNat

/-- The ones' complement sum of 16-bit words, as IPv4 headers carry it. -/
def ipChecksum : List Byte → Nat → Nat
  | a :: b :: r, acc => ipChecksum r (acc + a.toNat * 256 + b.toNat)
  | _, acc => 65535 - (acc % 65536 + acc / 65536)

/-- The port's MAC address, byte 0 first (TLN_PTP_MAC). -/
def State.macBytes (s : State) (p : Nat) : List Byte :=
  leBytes 4 (s.rd (Reg.TLN_PTP_MAC_LO p)).toNat ++ leBytes 2 ((s.rd (Reg.TLN_PTP_MAC_HI p)).toNat % 2 ^ 16)

/-- A Delay_Req message (PRESUMED from IEEE 1588-2019, log entry 128): the common header, with the clock identity that the MAC address
forms, and a zero origin time stamp. -/
def State.delayReq (s : State) (p : Nat) : List Byte :=
  let mac := s.macBytes p
  [0x01, 0x12] ++ beBytes 2 44 ++ [BitVec.ofNat 8 (s.fld (Fld.TLN_PTP_CFG_DOMAIN p)), 0, 0, 0] ++ List.replicate 12 0 ++
  mac.take 3 ++ [0xFF, 0xFE] ++ mac.drop 3 ++ beBytes 2 (p + 1) ++ beBytes 2 ((s.port p).dreqSeq % 2 ^ 16) ++ [1, 0x7F] ++
  List.replicate 10 0

/-- The frame of a Delay_Req (R62): over IEEE 802.3 with Ethertype 0x88F7, or over UDP/IPv4 to port 319 (log entry 128). -/
def State.delayReqFrame (s : State) (p : Nat) : List Byte :=
  let msg := s.delayReq p
  if s.bit (Fld.TLN_PTP_CFG_TRANSPORT p) then
    let ip := [0x45, 0] ++ beBytes 2 72 ++ [0, 0, 0, 0, 1, 17]
    let adr := beBytes 4 (s.rd (Reg.TLN_PTP_IPV4 p)).toNat ++ [224, 0, 1, 129]
    ethFrame ([0x01, 0x00, 0x5E, 0x00, 0x01, 0x81] ++ s.macBytes p ++ [0x08, 0x00] ++ ip ++
      beBytes 2 (ipChecksum (ip ++ adr) 0) ++ adr ++ beBytes 2 319 ++ beBytes 2 319 ++ beBytes 2 52 ++ [0, 0] ++ msg)
  else ethFrame ([0x01, 0x1B, 0x19, 0, 0, 0] ++ s.macBytes p ++ [0x88, 0xF7] ++ msg)

/-- The Delay_Req interval in ticks, 2^LOG_DREQ s with LOG_DREQ from −7 to 0 (R62). -/
def State.dreqTicks (s : State) (p : Nat) : Nat :=
  500000000 / 2 ^ (-(sgn 4 (s.fld (Fld.TLN_PTP_CFG_LOG_DREQ p)))).toNat

/-- PTP_DELAY_REQ_TX: a port sends Delay_Req once its interval has passed and no armed launch is in the way (R62, R87). An unanswered
request restarts the count of a port that has not qualified (R64); the request remembers the valid Sync before it, which in two-step
operation is the last one whose Follow_Up has come (DESIGN CHOICE, log entry 139). -/
def execPtpDelayReqTx (p : Fin 2) (cyc : Fin 32) (s : State) : Host.Outcome State Fault Refusal :=
  .next <|
    let x := s.port p
    let frame := s.delayReqFrame p
    let due := match x.dreqTick with
      | some t => decide (t + s.dreqTicks p ≤ s.tick)
      | none => true
    if s.ptpOn p && x.selected.isSome && due && !s.launchInWay p frame.length then
      let s := if x.dreq.isSome then restartCount p s else s
      let s := s.setPort p { s.port p with dreq := x.lastSync.map fun sy => (s.egress p cyc, sy),
                                           dreqTick := some s.tick, dreqSeq := (x.dreqSeq + 1) % 2 ^ 16 }
      { s with tln := { s.tln with ethOut := ⟨p, frame⟩ :: s.tln.ethOut } }
    else s

/-- PTP_DELAY_RESP_RX: the answer to the last Delay_Req completes the exchange; the mean path delay is half the sum of the two one-way
delays, and four exchanges in a row qualify the port (R64). -/
def execPtpDelayRespRx (p : Fin 2) (m : PtpMsg) (t4 : Int) (s : State) : Host.Outcome State Fault Refusal :=
  .next <| fromMaster p m (fun s =>
    match (s.port p).dreq with
    | some (t3, (t1, t2)) =>
      if (m.seq.toNat + 1) % 2 ^ 16 ≠ (s.port p).dreqSeq then s
      else
        let d := roundOpen ((t2 - t1) + (t4 - t3)) 2
        let n := (s.port p).exchanges + 1
        let s := s.setPort p { s.port p with dreq := none, exchanges := n, delay := some d }
        let s := s.wr (Reg.TLN_PTP_DELAY p) (BitVec.ofNat 32 (twos 32 d))
        if 4 ≤ n then showQualified (s.put (Fld.TLN_PTP_STATUS_QUALIFIED p) 1) else s
    | none => s) s

/-- The order of best time-transmitter selection (PRESUMED from IEEE 1588-2019, log entry 9): the first data set is better. -/
def announceBetter (a b : Announce) : Bool :=
  let rec lt : List (Nat × Nat) → Bool
    | [] => false
    | (x, y) :: r => if x < y then true else if y < x then false else lt r
  if a.identity = b.identity then lt [(a.steps, b.steps), (a.sender, b.sender)]
  else lt [(a.prio1, b.prio1), (a.clockClass, b.clockClass), (a.accuracy, b.accuracy), (a.variance, b.variance),
           (a.prio2, b.prio2), (a.identity, b.identity)]

/-- The best of the Announces heard. -/
def bestOf : List Announce → Option Announce
  | [] => none
  | a :: r => match bestOf r with
    | none => some a
    | some b => if announceBetter b a then some b else some a

/-- The selection of a port is made anew; a change from the time transmitter selected before, with or without a time in which none
was, sets GM_CHANGE and restarts the count of a port that has not qualified (R65). No exchange goes over a change (R64). -/
def reselect (p : Nat) (heard : List Announce) (s : State) : State :=
  let x := s.port p
  let sel := (bestOf heard).map Announce.sender
  let s := s.setPort p { x with heard := heard, selected := sel, former := sel.or x.former }
  if x.selected = sel then s
  else
    let changed := x.former.isSome && sel.isSome && x.former != sel
    let s := restartCount p s
    let s := s.setPort p { s.port p with dreq := none, lastSync := none, syncT2 := none, lastSeq := none }
    s.raiseIf changed Fld.TLN_EVENT_GM_CHANGE

/-- PTP_ANNOUNCE_RX. -/
def execPtpAnnounceRx (p : Fin 2) (m : PtpMsg) (a : Announce) (s : State) : Host.Outcome State Fault Refusal :=
  .next <|
    if !s.ptpOn p then s
    else if !s.hears p m then s.count (Fld.TLN_PTP_STATUS_RX_DROP p)
    else reselect p (a :: (s.port p).heard.filter fun b => b.sender != a.sender) s

/-- PTP_RX_DROP (R62). -/
def execPtpRxDrop (p : Fin 2) (s : State) : Host.Outcome State Fault Refusal :=
  .next (if s.ptpOn p then s.count (Fld.TLN_PTP_STATUS_RX_DROP p) else s)

/-- A port is lost (R65): it is no longer qualified. The loss of a primary port makes a qualified secondary primary, on
TLN_HOLD_ADJ (R83); with none, the source is lost (R75). -/
def losePort (p : Nat) (s : State) : State :=
  let s := s.put (Fld.TLN_PTP_STATUS_QUALIFIED p) 0
  let s := s.setPort p { s.port p with exchanges := 0, dreq := none, syncT2 := none, lastSync := none, lastSeq := none,
                                       delay := none, prevDelay := none, fresh := false }
  if p = s.primary ∧ s.fld Fld.TLN_CTL_SRC = 1 then
    if s.qualified (1 - p) then
      let s := (s.raise Fld.TLN_EVENT_PATH_LOSS).put Fld.TLN_CTL_PTP_PRIMARY (1 - p)
      let s := (s.count Fld.TLN_COUNT_PATH_LOSS).count Fld.SUP_TOL_PATH
      showQualified (if s.reelRuns then holdServo s else s)
    else loseSource s
  else s

/-- PTP_SYNC_TIMEOUT. -/
def execPtpSyncTimeout (p : Fin 2) (s : State) : Host.Outcome State Fault Refusal :=
  .next (if s.ptpOn p then losePort p s else s)

/-- PTP_ANNOUNCE_TIMEOUT: the port is lost and its time transmitter forgotten. -/
def execPtpAnnounceTimeout (p : Fin 2) (s : State) : Host.Outcome State Fault Refusal :=
  .next (if s.ptpOn p then
      let s := losePort p s
      let left := (s.port p).heard.filter fun b => some b.sender != (s.port p).selected
      reselect p left s
    else s)

/-! ### 10 MHz, PPS and time code -/

/-- The offset of the EXT source (R67), in 2^-8 ns: the source time of a second since 1970 and `ns` after it, less the reel at `pos` of
the present tick. -/
def State.extOffset (s : State) (sec ns : Nat) (pos : Fin 512) : Int :=
  (((sec + s.fld Fld.TLN_UTC_OFFSET_CURRENT) * 1000000000 + ns : Nat) : Int) * 256 - ((s.tln.reel / 2 ^ 24 + pos.val : Nat) : Int)

/-- EXT_PHASE_COMPARE: one measurement of a qualified EXT source (R67), against the REF10M edge `periods` after the last PPS edge. -/
def execExtPhaseCompare (periods : Nat) (pos : Fin 512) (s : State) : Host.Outcome State Fault Refusal :=
  let s := { s with tln := { s.tln with ref10m := true } }
  .next <| match s.tln.ppsSec with
    | some sec => if s.fld Fld.TLN_CTL_SRC = 2 ∧ s.bit Fld.TLN_STATUS_SRC_QUALIFIED
        then measure (s.extOffset sec (100 * periods) pos) none s else s
    | none => s

/-- Days from 1970-01-01 to the start of a year 2000 to 2099 (PRESUMED century, log entry 10). -/
def daysToYear (y : Nat) : Nat := 10957 + 365 * y + (y + 3) / 4

/-- A BCD byte as a number, if both digits are decimal. -/
def bcd (n digits : Nat) : Option Nat :=
  match digits with
  | 0 => some 0
  | k + 1 => if n % 16 ≤ 9 then (bcd (n / 16) k).map fun h => h * 10 + n % 16 else none

/-- The second since 1970 that a time-code frame carries, if its format, markers and BCD fields are good (R66). -/
def timeCodeSeconds (f : TimeCode) : Option Nat :=
  if 4 ≤ f.format ∧ f.format ≤ 7 ∧ f.markers then
    match bcd f.sec.toNat 2, bcd f.min.toNat 2, bcd f.hour.toNat 2, bcd f.day.toNat 3, bcd f.year.toNat 2 with
    | some sc, some mi, some h, some d, some y =>
      if sc ≤ 60 ∧ mi ≤ 59 ∧ h ≤ 23 ∧ 1 ≤ d ∧ d ≤ 366 then
        some (((daysToYear y + d - 1) * 24 + h) * 3600 + mi * 60 + sc)
      else none
    | _, _, _, _, _ => none
  else none

/-- TCODE_FRAME: a valid frame labels the coming PPS edge (log entry 10); any other sets TCODE_ERR and labels none (R66). -/
def execTcodeFrame (f : TimeCode) (s : State) : Host.Outcome State Fault Refusal :=
  .next <| match timeCodeSeconds f with
    | some t => { s with tln := { s.tln with tcode := some t } }
    | none =>
      let s := s.raise Fld.TLN_EVENT_TCODE_ERR
      { s with tln := { s.tln with tcode := none } }

/-- An armed leap second is applied when a labelled edge differs from the reel's prediction by exactly NEXT − CURRENT
seconds (R69); `e` is labelled time minus reel time in 2^-8 ns. -/
def applyLeap (e : Int) (s : State) : State :=
  let cur := s.fld Fld.TLN_UTC_OFFSET_CURRENT
  let nxt := s.fld Fld.TLN_UTC_OFFSET_NEXT
  if s.bit Fld.TLN_UTC_OFFSET_NEXT_ARM ∧ e = -(((nxt : Int) - cur) * 256000000000) ∧ s.reelRuns then
    ((s.put Fld.TLN_UTC_OFFSET_CURRENT nxt).drop Fld.TLN_UTC_OFFSET_NEXT_ARM).raise Fld.TLN_EVENT_LEAP_APPLIED
  else s

/-- PPS_EDGE: two edges 10^7 ± 1 REF10M periods apart, one of them labelled, qualify the EXT source (R67); a labelled edge
applies an armed leap second (R69) and, before the first lock, a forward load (R59). An edge without a label stands for the second
after that of the edge before. -/
def execPpsEdge (periods : Nat) (pos : Fin 512) (s : State) : Host.Outcome State Fault Refusal :=
  let pair := decide (9999999 ≤ periods) && decide (periods ≤ 10000001)
  let label := s.tln.tcode
  let wasLabelled := s.tln.labelled
  let sec := label.or (s.tln.ppsSec.map (· + 1))
  let s := { s with tln := { s.tln with ppsPair := pair, tcode := none, labelled := label.isSome, ppsSec := sec } }
  let ext : Bool := s.fld Fld.TLN_CTL_SRC == 2
  let s := match label with
    | some t => if ext then applyLeap (s.extOffset t 0 pos) s else s
    | none => s
  .next <|
    if s.tln.ref10m && pair && (label.isSome || wasLabelled) then
      let s := showQualified { s with tln := { s.tln with extOk := true } }
      match label with
      | some t =>
        let e := s.extOffset t 0 pos
        if ext ∧ s.reelState = 1 ∧ s.mode = 3 ∧ !s.tln.lockedOnce ∧ s.jumpLimit < e then measure e none s else s
      | none => s
    else s

/-- The EXT source is lost (R68). -/
def loseExt (s : State) : State :=
  let s := { s with tln := { s.tln with ppsPair := false, labelled := false, tcode := none, ppsSec := none, extOk := false } }
  if s.fld Fld.TLN_CTL_SRC = 2 ∧ s.bit Fld.TLN_STATUS_SRC_QUALIFIED then loseSource s else s

/-- REF10M_LOSS. -/
def execRef10mLoss (s : State) : Host.Outcome State Fault Refusal :=
  .next (loseExt { s with tln := { s.tln with ref10m := false } })

/-- PPS_LOSS. -/
def execPpsLoss (s : State) : Host.Outcome State Fault Refusal := .next (loseExt s)

/-! ### Refused offsets -/

/-- When TLN_CMD.ACCEPT acts (R74). -/
def State.acceptActs (s : State) : Bool :=
  (s.mode == 3 || s.mode == 6 || s.mode == 7) && (s.reelState == 1 || s.reelState == 3) &&
  s.bit Fld.TLN_STATUS_REFUSAL_STORED

/-- ACCEPT = SLEW_OUT (R74): the refusal is lifted for the stored offset and those near it, and the servo resumes. -/
def acceptSlewOut (s : State) : State :=
  if s.acceptActs then
    let s := (liftRefusal s).put Fld.TLN_STATUS_SERVO_FROZEN 0
    { s with tln := { s.tln with slewOut := some s.tln.refused } }
  else s

/-- ACCEPT_SLEW_OUT. -/
def execAcceptSlewOut (path : Path) (s : State) : Host.Outcome State Fault Refusal :=
  .next (gated path Reg.TLN_CMD acceptSlewOut s)

/-- A spindle runs: SPN_STATUS.STATE is RUN or WAIT. -/
def State.spindleRuns (s : State) (n : Nat) : Bool :=
  s.fld (Fld.SPN_STATUS_STATE n) == 1 || s.fld (Fld.SPN_STATUS_STATE n) == 2

/-- Some spindle runs: in M5, or in M6 before spindles count as stopped. -/
def State.anySpindleRuns (s : State) : Bool :=
  (s.mode == 5 || (s.mode == 6 && !s.glb.m6Stopped)) && (List.range 64).any s.spindleRuns

/-- ACCEPT = STEP_FWD (R74): a positive stored offset is added to the reel in one step when no spindle runs. -/
def acceptStepFwd (s : State) : State :=
  if s.acceptActs ∧ 0 < s.tln.refused ∧ !s.anySpindleRuns then
    let s := (liftRefusal s).put Fld.TLN_STATUS_SERVO_FROZEN 0
    { s with tln := { s.tln with reel := ((s.tln.reel : Int) + s.tln.refused * 2 ^ 24).toNat % 2 ^ 96 } }
  else s

/-- ACCEPT_STEP_FWD. -/
def execAcceptStepFwd (path : Path) (s : State) : Host.Outcome State Fault Refusal :=
  .next (gated path Reg.TLN_CMD acceptStepFwd s)

/-! ### Time-triggered launch -/

/-- A slot misses its time (R86): it is disarmed and its frame discarded. -/
def missSlot (k : Nat) (s : State) : State :=
  let s := (s.raise (Fld.TLN_LAUNCH_CFG_MISSED k)).raise Fld.TLN_EVENT_LAUNCH_MISSED
  let s := s.drop (Fld.TLN_LAUNCH_CFG_ARM k)
  { s with tln := { s.tln with deferred := s.tln.deferred.filter (· != k) } }

/-- A write of TLN_LAUNCH_CFG: its fields are written, and a slot that becomes armed with less than 1,000 ns to its time is
missed at once (R86). In the tick of the write the host's 1 stands in ARM (R9); it falls in the next one. -/
def writeLaunchCfg (p : Path) (k : Nat) (v : Word) (s : State) : State :=
  let was := s.bit (Fld.TLN_LAUNCH_CFG_ARM k)
  let s := plainWrite p (Reg.TLN_LAUNCH_CFG k) v s
  if !was ∧ s.bit (Fld.TLN_LAUNCH_CFG_ARM k) ∧ s.rd64 (Reg.TLN_LAUNCH_T_LO k) * 2 ^ 32 < s.tln.reel + 1000 * 2 ^ 32 then
    let s := missSlot k s
    { s with tln := { s.tln with tooLate := k :: s.tln.tooLate }, later := s.later ++ [(s.tick + 1, .disarm k)] }
  else s

/-- ARM of a slot that was armed too late falls. -/
def disarmSlot (k : Nat) (s : State) : State :=
  let s := s.put (Fld.TLN_LAUNCH_CFG_ARM k) 0
  { s with tln := { s.tln with tooLate := s.tln.tooLate.filter (· != k) } }

/-- LAUNCH_ARM. -/
def execLaunchArm (path : Path) (slot : Fin 16) (v : Word) (s : State) : Host.Outcome State Fault Refusal :=
  .next (writeLaunchCfg path slot v s)

/-- The frame a slot sends: preamble, SFD, the SRAM bytes padded to 60, and the FCS (R85 and the text above it). ADDR counts from the
start of the queue and descriptor region, whose size is its whole range (log entry 66). -/
def State.launchFrame (s : State) (k : Nat) : List Byte :=
  let len := s.fld (Fld.TLN_LAUNCH_CFG_LEN k)
  ethFrame (readBytes s.sramByte (0x3C00000 + 64 * s.fld (Fld.TLN_LAUNCH_CFG_ADDR k)) len)

/-- A slot's launch (R85, R88). Times are those of time-stamp points, in units of 0.04 ns (25 Gb/s: one byte takes 8); `portFree` is
where the next frame's lies after a launch, without the gap. A higher slot that would overlap a lower armed slot of its port, or
that finds its port busy, is deferred until after the minimum interframe gap of 12 bytes. Nothing leaves a port that is off (R495). The launch falls on a block boundary at most 2.56 ns later, whose place the manual leaves open. -/
def launchSlot (k : Nat) (s : State) : State :=
  let t := s.rd64 (Reg.TLN_LAUNCH_T_LO k)
  let p := s.fld (Fld.TLN_LAUNCH_CFG_PORT k)
  let frame := s.launchFrame k
  let late := k ∈ s.tln.deferred
  let start := max (t * 25) (sget (fun _ => 0) s.tln.portFree p + 96)
  let now := decide (start * 2 ^ 32 < s.reelAfter * 25)
  let due := s.inTick t || (late && now)
  if !(s.bit (Fld.TLN_LAUNCH_CFG_ARM k) && s.reelRuns && s.ethOn && due && !s.tln.tooLate.contains k) then s
  else
    let clash := (List.range k).any fun j =>
      s.bit (Fld.TLN_LAUNCH_CFG_ARM j) && s.fld (Fld.TLN_LAUNCH_CFG_PORT j) == p &&
      decide (start < s.slotTime j + 8 * (s.launchFrame j).length + 96) && decide (s.slotTime j < start + 8 * frame.length + 96)
    let s := if (clash || decide (t * 25 < start)) && !late then
        let s := (s.raise (Fld.TLN_LAUNCH_CFG_DEFERRED k)).raise Fld.TLN_EVENT_LAUNCH_DEFERRED
        { s with tln := { s.tln with deferred := k :: s.tln.deferred } }
      else s
    if clash || !now then s
    else
      let (x, s) := s.fresh 64
      let act := start + x % 65
      let s := s.wr64 (Reg.TLN_LAUNCH_ACT_LO k) (act / 25)
      let s := (s.raise Fld.TLN_EVENT_LAUNCH_DONE).drop (Fld.TLN_LAUNCH_CFG_ARM k)
      { s with tln := { s.tln with
          deferred := s.tln.deferred.filter (· != k)
          portFree := sset (fun _ => 0) s.tln.portFree p (act + 8 * frame.length)
          ethOut := ⟨p, frame⟩ :: s.tln.ethOut } }

/-- LAUNCH. -/
def execLaunch (slot : Fin 16) (s : State) : Host.Outcome State Fault Refusal := .next (launchSlot slot s)

/-- LAUNCH_MISS: the reel has passed an armed slot's time without a launch (R86); a deferred slot misses its time where its port is off. -/
def execLaunchMiss (slot : Fin 16) (s : State) : Host.Outcome State Fault Refusal :=
  .next <|
    if s.bit (Fld.TLN_LAUNCH_CFG_ARM slot) ∧ s.reelRuns ∧ (slot.val ∉ s.tln.deferred ∨ !s.ethOn) ∧ slot.val ∉ s.tln.tooLate ∧
       s.rd64 (Reg.TLN_LAUNCH_T_LO slot) * 2 ^ 32 < s.tln.reel then missSlot slot s else s

end Sys2Proof.Machine
end

