-- ==== Sys2Proof/Machine/Deflate.lean ====
section
/-! DEFINITION. Machine/Deflate.lean: the drafter's block format (R370 to R374): DEFLATE data of RFC 1951 within a wrapped block,
read with the error codes of R374 in the order in which the data meets them, and written. -/

namespace Sys2Proof.Machine

/-- The bits of a byte, least significant first. -/
def byteBits (b : Byte) : List Bool := (List.range 8).map b.getLsbD

/-- The bits of bytes, in the order in which DEFLATE reads them. -/
def bitsOfBytes (bs : List Byte) : List Bool := bs.flatMap byteBits

/-- Bytes from bits, the last byte filled with zeros; `n` bounds the bytes. -/
def bytesOfBits : Nat → List Bool → List Byte
  | 0, _ => []
  | _ + 1, [] => []
  | n + 1, bs =>
    BitVec.ofNat 8 ((bs.take 8).foldr (fun b v => b2n b + 2 * v) 0) :: bytesOfBits n (bs.drop 8)

/-- The next `n` bits as a number, least significant first; none where the input ends. -/
def takeBits : Nat → List Bool → Option (Nat × List Bool)
  | 0, bs => some (0, bs)
  | _ + 1, [] => none
  | n + 1, b :: bs =>
    match takeBits n bs with
    | some (v, r) => some (b2n b + 2 * v, r)
    | none => none

/-- A canonical Huffman code: codes of each length 1 to 15, and the symbols in code order. -/
structure Huff where
  counts : List Nat
  syms : List Nat

/-- The code of symbols' lengths. -/
def huffOf (lens : List Nat) : Huff where
  counts := (List.range 15).map fun l => lens.count (l + 1)
  syms := (List.range 15).flatMap fun l => (List.range lens.length).filter fun s => lens.getD s 0 == l + 1

/-- What a set of lengths leaves of the code space: negative where it is over-subscribed, positive where it is incomplete. -/
def kraft (lens : List Nat) : Int :=
  (huffOf lens).counts.foldl (fun (left : Int) (c : Nat) => if left < 0 then left else 2 * left - (c : Int)) 1

/-- One symbol: none where the input ends; the symbol is none where no code begins with these bits. -/
def decodeSym : List Nat → List Nat → List Bool → Nat → Nat → Option (Option Nat × List Bool)
  | [], _, bs, _, _ => some (none, bs)
  | _ :: _, _, [], _, _ => none
  | c :: cs, syms, b :: bs, code, first =>
    let code := code + b2n b
    if code < first + c then some (syms[code - first]?, bs)
    else decodeSym cs (syms.drop c) bs (2 * code) (2 * (first + c))

/-- One symbol of a code. -/
def Huff.read (h : Huff) (bs : List Bool) : Option (Option Nat × List Bool) := decodeSym h.counts h.syms bs 0 0

/-- Base and extra bits of the length symbols from 257. -/
def lengthTable : List (Nat × Nat) :=
  [(3, 0), (4, 0), (5, 0), (6, 0), (7, 0), (8, 0), (9, 0), (10, 0), (11, 1), (13, 1), (15, 1), (17, 1), (19, 2), (23, 2), (27, 2),
   (31, 2), (35, 3), (43, 3), (51, 3), (59, 3), (67, 4), (83, 4), (99, 4), (115, 4), (131, 5), (163, 5), (195, 5), (227, 5),
   (258, 0)]

/-- Base and extra bits of the distance symbols. -/
def distTable : List (Nat × Nat) :=
  [(1, 0), (2, 0), (3, 0), (4, 0), (5, 1), (7, 1), (9, 2), (13, 2), (17, 3), (25, 3), (33, 4), (49, 4), (65, 5), (97, 5),
   (129, 6), (193, 6), (257, 7), (385, 7), (513, 8), (769, 8), (1025, 9), (1537, 9), (2049, 10), (3073, 10), (4097, 11),
   (6145, 11), (8193, 12), (12289, 12), (16385, 13), (24577, 13)]

/-- A block being read: the bits left, and the bytes produced, newest first, with their number. -/
structure Inf where
  bits : List Bool
  out : List Byte
  n : Nat

/-- A byte is produced. -/
def Inf.push (x : Inf) (b : Byte) : Inf := { x with out := b :: x.out, n := x.n + 1 }

/-- A match of `len` bytes at a distance is copied, up to `ulen` bytes of output: error 13 where more would be produced. -/
def copyMatch (ulen dist : Nat) : Nat → Inf → Nat × Inf
  | 0, x => (0, x)
  | len + 1, x => if ulen ≤ x.n then (13, x) else copyMatch ulen dist len (x.push (x.out.getD (dist - 1) 0))

/-- Literals and matches up to the end-of-block symbol (R374); the fuel bounds the symbols. -/
def inflateCodes (lit dist : Huff) (ulen : Nat) : Nat → Inf → Nat × Inf
  | 0, x => (15, x)
  | fuel + 1, x =>
    match lit.read x.bits with
    | none => (15, x)
    | some (none, _) => (11, x)
    | some (some sym, bs) =>
      let x := { x with bits := bs }
      if sym < 256 then
        if ulen ≤ x.n then (13, x) else inflateCodes lit dist ulen fuel (x.push (BitVec.ofNat 8 sym))
      else if sym = 256 then (0, x)
      else match lengthTable[sym - 257]? with
        | none => (11, x)
        | some (base, extra) =>
          match takeBits extra x.bits with
          | none => (15, x)
          | some (e, bs) =>
            let len := base + e
            match dist.read bs with
            | none => (15, { x with bits := bs })
            | some (none, _) => (11, { x with bits := bs })
            | some (some ds, bs) =>
              match distTable[ds]? with
              | none => (11, { x with bits := bs })
              | some (base, extra) =>
                match takeBits extra bs with
                | none => (15, { x with bits := bs })
                | some (e, bs) =>
                  let x := { x with bits := bs }
                  if x.n < base + e then (12, x)
                  else
                    let (err, x) := copyMatch ulen (base + e) len x
                    if err = 0 then inflateCodes lit dist ulen fuel x else (err, x)

/-- The bytes of a stored block. -/
def inflateStored (ulen : Nat) : Nat → Inf → Nat × Inf
  | 0, x => (0, x)
  | len + 1, x =>
    match takeBits 8 x.bits with
    | none => (15, x)
    | some (v, bs) =>
      if ulen ≤ x.n then (13, x)
      else inflateStored ulen len ({ x with bits := bs }.push (BitVec.ofNat 8 v))

/-- The order of the code-length code's lengths. -/
def clenOrder : List Nat := [16, 17, 18, 0, 8, 7, 9, 6, 10, 5, 11, 4, 12, 3, 13, 2, 14, 1, 15]

/-- `n` 3-bit lengths. -/
def readThrees : Nat → List Bool → Option (List Nat × List Bool)
  | 0, bs => some ([], bs)
  | n + 1, bs =>
    match takeBits 3 bs with
    | none => none
    | some (v, bs) =>
      match readThrees n bs with
      | none => none
      | some (vs, bs) => some (v :: vs, bs)

/-- The code lengths of a dynamic block, newest first: `want` of them (R374, errors 8, 9 and 15). -/
def readLengths (h : Huff) (want : Nat) : Nat → List Nat → List Bool → Nat × List Nat × List Bool
  | 0, acc, bs => (0, acc, bs)
  | fuel + 1, acc, bs =>
    if want ≤ acc.length then (0, acc, bs)
    else match h.read bs with
      | none => (15, acc, bs)
      | some (none, bs) => (11, acc, bs)
      | some (some sym, bs) =>
        if sym < 16 then readLengths h want fuel (sym :: acc) bs
        else
          let (base, extra) := if sym = 16 then (3, 2) else if sym = 17 then (3, 3) else (11, 7)
          match takeBits extra bs with
          | none => (15, acc, bs)
          | some (e, bs) =>
            let prev := if sym = 16 then acc.head? else some 0
            match prev with
            | none => (8, acc, bs)
            | some v =>
              if want < acc.length + base + e then (9, acc, bs)
              else readLengths h want fuel (List.replicate (base + e) v ++ acc) bs

/-- The two codes of a dynamic block, with the checks of R374 (errors 5 to 10). -/
def readTables (bs : List Bool) : Nat × Huff × Huff × List Bool :=
  let bad := fun (e : Nat) (bs : List Bool) => (e, huffOf [], huffOf [], bs)
  match takeBits 14 bs with
  | none => bad 15 bs
  | some (v, bs) =>
    let hlit := v % 32 + 257
    let hdist := v / 32 % 32 + 1
    let hclen := v / 1024 + 4
    if 286 < hlit ∨ 30 < hdist then bad 5 bs
    else match readThrees hclen bs with
      | none => bad 15 bs
      | some (ts, bs) =>
        let lens := (List.range 19).map fun s => ts.getD (clenOrder.idxOf s) 0
        if kraft lens < 0 then bad 6 bs
        else if 0 < kraft lens then bad 7 bs
        else
          let (e, acc, bs) := readLengths (huffOf lens) (hlit + hdist) (hlit + hdist) [] bs
          if e ≠ 0 then bad e bs
          else
            let ls := acc.reverse
            let lit := ls.take hlit
            let dist := ls.drop hlit
            let one := dist.all (fun l => l == 0) || (dist.count 1 == 1 && dist.all fun l => l == 0 || l == 1)
            if kraft lit < 0 ∨ kraft dist < 0 then bad 6 bs
            else if 0 < kraft lit ∨ (0 < kraft dist ∧ !one) then bad 7 bs
            else if lit.getD 256 0 = 0 then bad 10 bs
            else (0, huffOf lit, huffOf dist, bs)

/-- The fixed codes of RFC 1951. -/
def fixedLit : Huff :=
  huffOf (List.replicate 144 8 ++ List.replicate 112 9 ++ List.replicate 24 7 ++ List.replicate 8 8)
def fixedDist : Huff := huffOf (List.replicate 32 5)

/-- The DEFLATE blocks of a wrapped block (R372, R374); the fuel bounds the blocks. -/
def inflateBlocks (ulen : Nat) : Nat → Inf → Nat × Inf
  | 0, x => (15, x)
  | fuel + 1, x =>
    match takeBits 3 x.bits with
    | none => (15, x)
    | some (h, bs) =>
      let x := { x with bits := bs }
      let (err, x) : Nat × Inf := match h / 2 with
        | 0 =>
          match takeBits 32 (x.bits.drop (x.bits.length % 8)) with
          | none => (15, x)
          | some (v, bs) =>
            if v / 65536 ≠ 65535 - v % 65536 then (4, x) else inflateStored ulen (v % 65536) { x with bits := bs }
        | 1 => inflateCodes fixedLit fixedDist ulen (x.bits.length + 1) x
        | 2 =>
          let (e, lit, dist, bs) := readTables x.bits
          if e ≠ 0 then (e, x) else inflateCodes lit dist ulen (bs.length + 1) { x with bits := bs }
        | _ => (3, x)
      if err ≠ 0 then (err, x)
      else if h % 2 = 0 then inflateBlocks ulen fuel x
      else if x.n < ulen then (14, x)
      else if 8 ≤ x.bits.length then (16, x)
      else (0, x)

/-- The bytes of DEFLATE data, with the error that ends them (R374). -/
def inflate (data : List Byte) (ulen : Nat) : Nat × List Byte :=
  let bs := bitsOfBytes data
  let (err, x) := inflateBlocks ulen (bs.length + 1) ⟨bs, [], 0⟩
  (err, x.out.reverse)

/-- What a block header says (R372): CLEN, ULEN and CRC. -/
structure BlockHead where
  clen : Nat
  ulen : Nat
  crc : Nat

/-- A block header is checked (R374, errors 1 and 2). -/
def readHead (h : List Byte) : Nat × BlockHead :=
  let f := fun (a n : Nat) => leNat' ((h.drop a).take n)
  let head : BlockHead := ⟨f 4 4, f 8 4, f 12 4⟩
  if f 0 2 ≠ 0xD7A1 ∨ 2 ≤ f 2 1 ∨ f 3 1 ≠ 0 then (1, head)
  else if head.clen = 0 ∨ 73728 < head.clen ∨ head.ulen = 0 ∨ 65536 < head.ulen then (2, head)
  else (0, head)
where
  /-- Bytes as a little-endian number. -/
  leNat' : List Byte → Nat
    | [] => 0
    | b :: bs => b.toNat + 256 * leNat' bs

/-- The bytes of a wrapped block whose header has passed, with the error (R374). -/
def decodeBlock (head : BlockHead) (data : List Byte) : Nat × List Byte :=
  let (err, out) := inflate data head.ulen
  if err ≠ 0 then (err, out)
  else if (crc32c out).toNat ≠ head.crc then (17, out)
  else (0, out)

/-! ### Writing blocks (R370, R371) -/

/-- A literal, or a match of a length at a distance. -/
inductive Tok where
  | lit (b : Byte)
  | mat (len dist : Nat)
  deriving DecidableEq, Repr

/-- A match at position `pos` that R371 allows. -/
def validMatch (data : List Byte) (pos len dist : Nat) : Bool :=
  decide (3 ≤ len) && decide (len ≤ 258) && decide (1 ≤ dist) && decide (dist ≤ 32768) && decide (dist ≤ pos) &&
    decide (pos + len ≤ data.length) && (List.range len).all fun i => data[pos + i]? == data[pos + i - dist]?

/-- The tokens of a block from `pos` on; which match the lane takes at a position is open (log entry 30). -/
def tokenise (mode : Nat) (data : List Byte) : Nat → Nat → List Tok
  | 0, _ => []
  | fuel + 1, pos =>
    if data.length ≤ pos then []
    else
      let (len, dist) := Config.lzMatch mode data pos
      if validMatch data pos len dist then .mat len dist :: tokenise mode data fuel (pos + len)
      else .lit (data.getD pos 0) :: tokenise mode data fuel (pos + 1)

/-- A number's `n` low bits, most significant first (code words). -/
def msbBits (n v : Nat) : List Bool := (List.range n).map fun i => bitOf v (n - 1 - i)

/-- A number's `n` low bits, least significant first (extra bits). -/
def lsbBits (n v : Nat) : List Bool := (List.range n).map fun i => bitOf v i

/-- The fixed code word of a literal/length symbol. -/
def fixedWord (sym : Nat) : List Bool :=
  if sym < 144 then msbBits 8 (0x30 + sym)
  else if sym < 256 then msbBits 9 (0x190 + (sym - 144))
  else if sym < 280 then msbBits 7 (sym - 256)
  else msbBits 8 (0xC0 + (sym - 280))

/-- The last entry of a table whose base is not above `v`: its index, base and extra bits. -/
def tableEntry (table : List (Nat × Nat)) (v : Nat) : Nat × Nat × Nat :=
  let n := (table.filter fun e => decide (e.1 ≤ v)).length
  let e := table.getD (n - 1) (0, 0)
  (n - 1, e.1, e.2)

/-- The symbols of a token with their extra bits: its literal/length symbol, and its distance symbol where it is a match. -/
def tokParts : Tok → (Nat × List Bool) × Option (Nat × List Bool)
  | .lit b => ((b.toNat, []), none)
  | .mat len dist =>
    let (ls, lb, le) := tableEntry lengthTable len
    let (ds, db, de) := tableEntry distTable dist
    ((257 + ls, lsbBits le (len - lb)), some (ds, lsbBits de (dist - db)))

/-- The literal/length symbols and the distance symbols of a block's tokens, the end of the block among them. -/
def litSymbols (ts : List Tok) : List Nat := ts.map (fun t => (tokParts t).1.1) ++ [256]
def distSymbols (ts : List Tok) : List Nat := ts.filterMap fun t => (tokParts t).2.map Prod.fst

/-- Tokens in two codes, given as the words of their symbols, with the end of the block. -/
def codeTokens (lit dist : Nat → List Bool) (ts : List Tok) : List Bool :=
  (ts.flatMap fun t =>
    let (l, d) := tokParts t
    lit l.1 ++ l.2 ++ match d with
      | some d => dist d.1 ++ d.2
      | none => []) ++ lit 256

/-- One DEFLATE block with the fixed codes. -/
def fixedBlock (mode : Nat) (data : List Byte) : List Byte :=
  let bits := [true, true, false] ++ codeTokens fixedWord (msbBits 5) (tokenise mode data (data.length + 1) 0)
  bytesOfBits (bits.length + 1) bits

/-- The first code word of length `n` of the canonical code of some lengths. -/
def firstCode (lens : List Nat) : Nat → Nat
  | 0 => 0
  | n + 1 => 2 * (firstCode lens n + if n = 0 then 0 else lens.count n)

/-- A symbol's word in the canonical code of some lengths (RFC 1951). -/
def codeWord (lens : List Nat) (sym : Nat) : List Bool :=
  let n := lens.getD sym 0
  msbBits n (firstCode lens n + (lens.take sym).count n)

/-- Lengths that a dynamic block may have (R374, errors 5 to 10), with a word for each of some symbols. -/
def lengthsOk (lo hi : Nat) (lens syms : List Nat) : Bool :=
  decide (lo ≤ lens.length) && decide (lens.length ≤ hi) && lens.all (· ≤ 15) && kraft lens == 0 && syms.all fun s => lens.getD s 0 != 0

/-- Codes of all 286 literal/length and 30 distance symbols. -/
def flatLit : List Nat := List.replicate 226 8 ++ List.replicate 60 9
def flatDist : List Nat := List.replicate 2 4 ++ List.replicate 28 5

/-- The lengths of a dynamic block's two codes, from the histograms of the tokens `stats` (R370): where what Config gives has no word for a
symbol of the block, the flat codes (log entry 30). -/
def dynamicLengths (mode : Nat) (stats ts : List Tok) : List Nat × List Nat :=
  let count := fun (n : Nat) (l : List Nat) => (List.range n).map fun s => l.count s
  let (lit, dist) := Config.codeLengths mode (count 286 (litSymbols stats)) (count 30 (distSymbols stats))
  if lengthsOk 257 286 lit (litSymbols ts) && lengthsOk 1 30 dist (distSymbols ts) then (lit, dist) else (flatLit, flatDist)

/-- The head of a dynamic block with every length as a word of four bits. -/
def plainHeader (lit dist : List Nat) : List Bool :=
  lsbBits 5 (lit.length - 257) ++ lsbBits 5 (dist.length - 1) ++ lsbBits 4 15 ++
    clenOrder.flatMap (fun s => lsbBits 3 (if s < 16 then 4 else 0)) ++ (lit ++ dist).flatMap (msbBits 4)

/-- The head of a dynamic block: what Config gives where it reads back as these codes, else the plain one (log entry 30). -/
def codeHeader (lit dist : List Nat) : List Bool :=
  let h := Config.codeHeader lit dist
  let (err, l, d, rest) := readTables h
  if err == 0 && rest.isEmpty && l.counts == (huffOf lit).counts && l.syms == (huffOf lit).syms && d.counts == (huffOf dist).counts &&
      d.syms == (huffOf dist).syms then h
  else plainHeader lit dist

/-- One DEFLATE block with dynamic codes built from the histogram of `stats`: the block before in SINGLE_PASS, the block itself in DYNAMIC
(R370). -/
def dynamicBlock (mode : Nat) (stats data : List Byte) : List Byte :=
  let toks := fun (bs : List Byte) => tokenise mode bs (bs.length + 1) 0
  let (lit, dist) := dynamicLengths mode (toks stats) (toks data)
  let bits := [true, false, true] ++ codeHeader lit dist ++ codeTokens (codeWord lit) (codeWord dist) (toks data)
  bytesOfBits (bits.length + 1) bits

/-- A stored DEFLATE block. -/
def storedPart (final : Bool) (data : List Byte) : List Byte :=
  let n := data.length
  [BitVec.ofNat 8 (b2n final), BitVec.ofNat 8 n, BitVec.ofNat 8 (n / 256), BitVec.ofNat 8 (65535 - n),
   BitVec.ofNat 8 ((65535 - n) / 256)] ++ data

/-- The stored form: one stored block, or two for 64 KiB (R372), whose split is open (log entry 30). -/
def storedForm (data : List Byte) : List Byte :=
  if data.length ≤ 65535 then storedPart true data
  else
    let k := 1 + Config.storedSplit % 65535
    storedPart false (data.take k) ++ storedPart true (data.drop k)

/-- The DEFLATE data of a block, and whether it is the stored form (R370, R371). -/
def deflateBlock (mode : Nat) (prev : Option (List Byte)) (data : List Byte) : Bool × List Byte :=
  let stored := storedForm data
  let e := match mode, prev with
    | 0, _ => fixedBlock mode data
    | 1, none => fixedBlock mode data
    | 1, some p => dynamicBlock mode p data
    | _, _ => dynamicBlock mode data data
  if stored.length < e.length then (true, stored) else (false, e)

/-- A whole wrapped block (R372). -/
def wrapBlock (stored : Bool) (data deflated : List Byte) : List Byte :=
  let le := fun (n v : Nat) => (List.range n).map fun i => BitVec.ofNat 8 (v / 256 ^ i)
  let body := le 2 0xD7A1 ++ le 1 (b2n stored) ++ le 1 0 ++ le 4 deflated.length ++ le 4 data.length ++
    le 4 (crc32c data).toNat ++ deflated
  body ++ List.replicate ((16 - body.length % 16) % 16) 0

end Sys2Proof.Machine
end

