-- ==== Sys2Proof/Machine/Drafter.lean ====
section
/-! DEFINITION. Machine/Drafter.lean: the drafter's host jobs (R366, R368 to R375). A job starts in
the row of its operation, and runs whole in the row of its completion (log entry 31). -/

namespace Sys2Proof.Machine

/-- A job that runs in a lane (R368). -/
def State.job (s : State) (l : Nat) : Option Job := sget (fun _ => none) s.jobs l

/-- Store a lane's job. -/
def State.setJob (s : State) (l : Nat) (j : Option Job) : State := { s with jobs := sset (fun _ => none) s.jobs l j }

/-- A lane is bound to roving streams (R366). -/
def State.laneBound (s : State) (l : Nat) : Bool :=
  decide (4 ≤ l) && bitOf (s.fld Fld.DRF_STATUS_BOUND_DRAM ||| s.fld Fld.DRF_STATUS_BOUND_HOST) (l - 4)

/-- A host job waits in a lane's ring (R368). -/
def State.jobWaits (s : State) (l : Nat) : Bool :=
  s.fld (Fld.DRF_LANE_RING_SIZE l) != 0 && s.fld (Fld.DRF_LANE_HEAD_INDEX l) != s.fld (Fld.DRF_LANE_TAIL_INDEX l)

/-- A lane that runs nothing shows IDLE, or BLOCKED where a host job waits on a bound lane (R366). -/
def restLane (l : Nat) (s : State) : State :=
  s.put (Fld.DRF_LANE_STATUS_STATE l) (if s.laneBound l && s.jobWaits l then 3 else 0)

/-- Lanes run host jobs only in M1 and M3 to M7 (R368). -/
def State.lanesRun (s : State) : Bool := s.mode == 1 || decide (3 ≤ s.mode)

/-- A lane may start the host job at its HEAD (R366, R368). -/
def State.mayRunJob (s : State) (l : Nat) : Bool :=
  s.lanesRun && !s.laneBound l && (s.job l).isNone && s.jobWaits l

/-- A write of DRF_LANE_TAIL (R368). -/
def drfTailWrite (p : Path) (l : Nat) (v : Word) (s : State) : State :=
  gated p (Reg.DRF_LANE_TAIL l) (fun s =>
    let n := fieldGet v (Fld.DRF_LANE_TAIL_INDEX l)
    if n < s.fld (Fld.DRF_LANE_RING_SIZE l) then
      let s := s.put (Fld.DRF_LANE_TAIL_INDEX l) n
      if (s.job l).isNone ∧ !s.bit (Fld.DRF_LANE_STATUS_ROVING l) then restLane l s else s
    else s) s

/-- DRF_TAIL_WRITE. -/
def execDrfTailWrite (p : Path) (l : Fin 8) (v : Word) (s : State) : Host.Outcome State Fault Refusal :=
  .next (drfTailWrite p l v s)

/-! ### Descriptors (R369) -/

/-- The SRAM offset of the descriptor at a lane's HEAD. -/
def State.jobAddr (s : State) (l : Nat) : Nat :=
  0x3C00000 + 64 * (s.fld (Fld.DRF_LANE_RING_BASE l) + s.fld (Fld.DRF_LANE_HEAD_INDEX l))

/-- The descriptor at a lane's HEAD. -/
def State.jobDesc (s : State) (l : Nat) : JobDesc :=
  let f := fun o n => s.sramNat (s.jobAddr l + o) n
  ⟨f 0 1, f 1 1, f 2 1, f 3 1, f 8 8, f 16 8, f 24 8, f 32 8, f 40 8⟩

/-- A range of bytes lies within DRAM. -/
def inDram (a n : Nat) : Bool := decide (a + n ≤ dramSize)

/-- The blocks of a COMPRESS job. -/
def JobDesc.blocks (d : JobDesc) : Nat := (d.len + d.block * 4096 - 1) / (d.block * 4096)

/-- A COMPRESS descriptor is sound (R374, error 20). -/
def JobDesc.compressOk (d : JobDesc) : Bool :=
  d.op == 1 && decide (d.mode ≤ 2) && decide (d.flags ≤ 3) && d.block != 0 && decide (d.block ≤ 16) && d.len != 0 &&
    inDram d.src d.len && inDram d.dst d.limit && d.dst % 16 == 0 &&
    (d.flags % 2 == 0 || (d.idx % 16 == 0 && inDram d.idx (16 * d.blocks)))

/-- A DECOMPRESS or VERIFY descriptor is sound (R374, error 20). -/
def JobDesc.expandOk (d : JobDesc) : Bool :=
  (d.op == 2 || d.op == 3) && decide (d.flags ≤ 3) && d.len != 0 && inDram d.src (16 * d.len) &&
    (d.op == 3 || inDram d.dst d.limit)

/-! ### COMPRESS (R369 to R373) -/

/-- DRAM bytes. -/
def State.dramBytes (s : State) (a n : Nat) : List Byte := readBytes s.dramByte a n

/-- A reader of a range meets a word that DRAM_UE named for its job; such a word is recorded already (R359). -/
def meetsBad (bad : List Nat) (a n : Nat) : Bool := bad.any fun w => decide (a < 8 * w + 8) && decide (8 * w < a + n)

/-- A job's fetch of a range finds an uncorrectable word: one of `bad`, or a word recorded now. -/
def jobFinds (bad : List Nat) (a n : Nat) (ue : Bool) (s : State) : Bool × State :=
  let (hit, s) := dramFinds a n ue s
  (hit || meetsBad bad a n, s)

/-- The blocks of a COMPRESS job from block `k` on; `out` counts the bytes written from DST, and `ue` tells the block at whose input
the fetch finds an uncorrectable word. The answer is the error, the blocks completed and OUT_BYTES. -/
def compressBlocks (j : Job) : Nat → Nat → Nat → Option (List Byte) → State → (Nat × Nat × Nat) × State
  | 0, k, out, _, s => ((0, k, out), s)
  | fuel + 1, k, out, prev, s =>
    let d := j.desc
    let size := d.block * 4096
    if d.len ≤ k * size then ((0, k, out), s)
    else
      let a := d.src + k * size
      let n := min size (d.len - k * size)
      let (hit, s) := jobFinds j.bad a n (j.ue == some k) s
      if hit then ((18, k, out), s)
      else
        let data := s.dramBytes a n
        let (stored, z) := deflateBlock d.mode prev data
        let w := wrapBlock stored data z
        if d.limit < out + w.length then ((19, k, out), s)
        else
          let s := blockWriteDram (d.dst + out) w s
          let e := d.idx + 16 * k
          let coff := d.dst + out + 2 ^ 64 - e
          let s := if d.flags % 2 = 1 then blockWriteDram e (leBytes 8 coff ++ leBytes 8 (k * size)) s else s
          compressBlocks j fuel (k + 1) (out + w.length) (some data) s

/-! ### DECOMPRESS and VERIFY (R369, R373, R374) -/

/-- The block that an index entry names (R373). -/
def State.blockAt (s : State) (e : Nat) : Nat := (e + s.dramNat e 8) % 2 ^ 64

/-- A block through its index entry at `e`: the error, and the bytes it gave. `ue` tells that a fetch finds an uncorrectable word, in the
entry, the header or the data; which is free (log entry 148). -/
def readBlock (e : Nat) (ue : Bool) (bad : List Nat) (s : State) : (Nat × List Byte) × State :=
  let a := s.blockAt e
  let (err, head) := readHead (s.dramBytes a 16)
  let whole := err == 0 && inDram (a + 16) head.clen
  let spans := if !inDram a 16 then 1 else if whole then 3 else 2
  let (k, s) := if ue then s.fresh 8 else (0, s)
  let at_ := fun (i : Nat) => ue && k % spans == i
  let (hit, s) := jobFinds bad e 16 (at_ 0) s
  if hit then ((18, []), s)
  else if !inDram a 16 then ((20, []), s)
  else
    let (hit, s) := jobFinds bad a 16 (at_ 1) s
    if hit then ((18, []), s)
    else if err ≠ 0 then ((err, []), s)
    else if !whole then ((20, []), s)
    else
      let (hit, s) := jobFinds bad (a + 16) head.clen (at_ 2) s
      if hit then ((18, []), s)
      else (decodeBlock head (s.dramBytes (a + 16) head.clen), s)

/-- The DRAM that reading a block takes: its index entry, and the header and data that stand in DRAM (R361, R367). -/
def State.blockSpans (s : State) (e : Nat) : List (Nat × Nat) :=
  let a := s.blockAt e
  (e, 16) :: if inDram a 16 then [(a, 16 + (readHead (s.dramBytes a 16)).2.clen % 2 ^ 17)] else []

/-- The blocks of a DECOMPRESS or VERIFY job from block `k` on. -/
def expandBlocks (j : Job) : Nat → Nat → Nat → State → (Nat × Nat × Nat) × State
  | 0, k, out, s => ((0, k, out), s)
  | fuel + 1, k, out, s =>
    let d := j.desc
    let ((err, bytes), s) := readBlock (d.src + 16 * k) (j.ue == some k) j.bad s
    let room := d.limit - out
    let writes := d.op == 2
    let full := writes && decide (room < bytes.length)
    let put := if writes then bytes.take room else []
    let s := blockWriteDram (d.dst + out) put s
    if full then ((19, k, out + put.length), s)
    else if err ≠ 0 then ((err, k, out + put.length), s)
    else expandBlocks j fuel (k + 1) (out + put.length) s

/-! ### Running a job -/

/-- What a job does: its error, the blocks completed and OUT_BYTES. -/
def runJob (j : Job) (s : State) : (Nat × Nat × Nat) × State :=
  if j.err ≠ 0 then ((j.err, 0, 0), s)
  else if j.desc.op = 1 then compressBlocks j j.desc.blocks 0 0 none s
  else expandBlocks j j.desc.len 0 0 s

/-- The DRAM that a job reads and writes (R361), as memory stands when it starts. -/
def State.jobSpans (s : State) (j : Job) : List (Nat × Nat) :=
  let d := j.desc
  let (_, blocks, out) := (runJob j s).1
  if j.err ≠ 0 then []
  else if d.op = 1 then [(d.src, d.len), (d.dst, out), (d.idx, if d.flags % 2 = 1 then 16 * blocks else 0)]
  else (d.dst, out) :: (List.range (min d.len (blocks + 1))).flatMap fun k => s.blockSpans (d.src + 16 * k)

/-- A lane starts a job: its DRAM request is issued in class C3 (R361). -/
def startJob (l : Nat) (j : Job) (s : State) : State :=
  askDram 3 (.job l) 0 (s.jobSpans j) ((s.setJob l (some j)).put (Fld.DRF_LANE_STATUS_STATE l) 1)

/-- A compression lane starts the descriptor at its HEAD; one of another operation ends as BAD_DESC. -/
def compressJob (l : Nat) (ue : Option Nat) (s : State) : State :=
  if l < 4 ∧ s.mayRunJob l then
    let d := s.jobDesc l
    startJob l { desc := d, err := if d.compressOk then 0 else 20, ue := ue } s
  else s

/-- DRF_COMPRESS. -/
def execDrfCompress (l : Fin 8) (ue : Option Nat) (s : State) : Host.Outcome State Fault Refusal := .next (compressJob l ue s)

/-- A decompression lane starts the descriptor at its HEAD where its operation is the one given; one that is neither DECOMPRESS nor
VERIFY ends as BAD_DESC with the first of the two rows. -/
def expandJob (op l : Nat) (ue : Option Nat) (s : State) : State :=
  if 4 ≤ l ∧ s.mayRunJob l then
    let d := s.jobDesc l
    if d.op = op ∨ (op = 2 ∧ d.op ≠ 3) then startJob l { desc := d, err := if d.expandOk then 0 else 20, ue := ue } s
    else s
  else s

/-- DRF_DECOMPRESS. -/
def execDrfDecompress (l : Fin 8) (ue : Option Nat) (s : State) : Host.Outcome State Fault Refusal := .next (expandJob 2 l ue s)

/-- DRF_VERIFY. -/
def execDrfVerify (l : Fin 8) (ue : Option Nat) (s : State) : Host.Outcome State Fault Refusal := .next (expandJob 3 l ue s)

/-- A job ends with its error, the blocks completed and OUT_BYTES: its completion fields are written, HEAD advances and the flags are
set (R368, R369, R374). -/
def endJob (l : Nat) (j : Job) (r : Nat × Nat × Nat) (s : State) : State :=
  let st := if r.1 = 0 then 1 else 2
  let s := s.putSramBytes (s.jobAddr l + 48) ([BitVec.ofNat 8 st, BitVec.ofNat 8 r.1, 0, 0] ++ leBytes 4 r.2.1 ++ leBytes 8 r.2.2)
  let s := s.put (Fld.DRF_LANE_HEAD_INDEX l) ((s.fld (Fld.DRF_LANE_HEAD_INDEX l) + 1) % max 1 (s.fld (Fld.DRF_LANE_RING_SIZE l)))
  let s := s.raise (if r.1 = 0 then Fld.DRF_LANE_EVENT_DONE l else Fld.DRF_LANE_EVENT_ERR l)
  let s := s.raiseIf (bitOf j.desc.flags 1) (Fld.DRF_LANE_EVENT_IRQ l)
  let s := if r.1 = 0 then s else s.put (Fld.DRF_LANE_STATUS_LAST_ERR l) r.1
  restLane l (s.setJob l none)

/-- A job completes once its DRAM request has been granted (R357, R362): it runs whole here (log entry 31). -/
def jobDone (l : Nat) (s : State) : State :=
  match s.job l with
  | some j =>
    if s.lanesRun && s.fld (Fld.DRF_LANE_STATUS_STATE l) == 1 && !s.dramWaits (.job l) then
      let (r, s) := runJob j s
      endJob l j r (s.count (Fld.DRF_LANE_BLOCKS_COUNT l) r.2.1)
    else s
  | none => s

/-- DRF_JOB_DONE. -/
def execDrfJobDone (l : Fin 8) (s : State) : Host.Outcome State Fault Refusal := .next (jobDone l s)

/-- A lane that runs stalls (R375). -/
def stallLane (l : Nat) (s : State) : State :=
  if s.fld (Fld.DRF_LANE_STATUS_STATE l) = 1 then s.put (Fld.DRF_LANE_STATUS_STATE l) 2 else s

/-- DRF_STALL. -/
def execDrfStall (l : Fin 8) (s : State) : Host.Outcome State Fault Refusal := .next (stallLane l s)

/-- A stalled lane resumes (R375); in M2 a job stays stalled (R368). -/
def resumeLane (l : Nat) (s : State) : State :=
  if s.fld (Fld.DRF_LANE_STATUS_STATE l) = 2 ∧ s.lanesRun then s.put (Fld.DRF_LANE_STATUS_STATE l) 1 else s

/-- DRF_RESUME. -/
def execDrfResume (l : Fin 8) (s : State) : Host.Outcome State Fault Refusal := .next (resumeLane l s)

/-- On entry to M2 running jobs stall, and on leaving it they resume (R368). -/
def stallJobs (s : State) : State := forN 8 stallLane s
def resumeJobs (s : State) : State :=
  forN 8 (fun l s => if (s.job l).isSome then resumeLane l s else s) s

/-- On entry to M0 running jobs end as ABORTED (R368). -/
def abortJobs (s : State) : State :=
  forN 8 (fun l s => match s.job l with | some j => dropDram (.job l) (endJob l j (21, 0, 0) s) | none => s) s

/-! ### Binding of lanes (R366) -/

/-- The enabled compressed streams of a source. -/
def State.compressedStreams (s : State) (src : Nat) : List Nat :=
  (List.range 64).filter fun r =>
    s.bit (Fld.STM_RV_CFG_EN r) && s.bit (Fld.STM_RV_CFG_COMPRESSED r) && s.fld (Fld.STM_RV_CFG_SRC r) == src

/-- A stream is bound to a lane. -/
def bindStream (r l : Nat) (s : State) : State :=
  let s := if s.fld (Fld.STM_RV_CFG_SRC r) = 0 then s.put Fld.DRF_STATUS_BOUND_DRAM (setBit (s.fld Fld.DRF_STATUS_BOUND_DRAM) (l - 4))
    else s.put Fld.DRF_STATUS_BOUND_HOST (setBit (s.fld Fld.DRF_STATUS_BOUND_HOST) (l - 4))
  let s := (s.put (Fld.DRF_RV_BIND_LANE r) l).put (Fld.DRF_RV_BIND_VALID r) 1
  if (s.job l).isNone then restLane l s else s

/-- On each entry to M4 the enabled compressed streams are bound to decompression lanes (R366). -/
def bindLanes (s : State) : State :=
  let d := (s.compressedStreams 0).take 4
  let free := 4 - d.length
  let s := forAll (fun p => bindStream p.1 (4 + p.2)) d.zipIdx s
  if free = 0 then s
  else forAll (fun p => bindStream p.1 (4 + d.length + p.2 % free)) (s.compressedStreams 1).zipIdx s

/-- The binding ends on entry to a mode other than M4, M5 and M6 (R366). -/
def unbindLanes (s : State) : State :=
  let s := forN 64 (fun r s => s.wr (Reg.DRF_RV_BIND r) 0) (s.wr Reg.DRF_STATUS 0)
  forN 8 (fun l s =>
    let s := s.put (Fld.DRF_LANE_STATUS_ROVING l) 0
    if (s.job l).isNone then restLane l s else s) s

end Sys2Proof.Machine
end

