-- ==== Sys2Proof/Machine/Refill.lean ====
section
/-! DEFINITION. Machine/Refill.lean: refill of roving streams (R190 to R193, R366, R367, R395, R396). A request stands in
`Rv.reqs` from REFILL_REQUEST to REFILL_COMPLETE. -/

namespace Sys2Proof.Machine

/-- Ring bytes that the requests under way will fill at most. -/
def Rv.coming (x : Rv) : Nat := (x.reqs.map Prod.fst).sum

/-- A stream refills (R192, R195), a compressed one through the lane that it is bound to (R366). -/
def State.refills (s : State) (r : Nat) : Bool :=
  let st := s.fld (Fld.STM_RV_STATUS_STATE r)
  decide (4 ≤ s.mode) && decide (s.mode ≤ 6) && s.bit (Fld.STM_RV_CFG_EN r) && (st == rvPriming || st == rvReady) &&
    !(s.stream r).failed && (!s.bit (Fld.STM_RV_CFG_COMPRESSED r) || s.bit (Fld.DRF_RV_BIND_VALID r))

/-- Source units from `asked` on that a host-sourced stream may read (R395): position `pos` and the following ones up to LIMIT. -/
def State.limitRoom (s : State) (q pos : Nat) : Nat :=
  let d := (s.fld (Fld.HIF_Q_LIMIT_LIMIT q) + 2 ^ 32 - pos % 2 ^ 32) % 2 ^ 32
  if d ≤ 2 ^ 31 then d else 0

/-- The queue of a stream may issue a read: at most 16 are outstanding (R381, R395). -/
def State.streamQueueReady (s : State) (r q : Nat) : Bool :=
  s.bit (Fld.HIF_Q_CFG_EN q) && s.bit (Fld.HIF_Q_CFG_MODE q) && decide ((s.stream r).reqs.length < 16) &&
    s.fld Fld.HIF_LINK_STATUS_DSTATE != 3

/-- The class C0 request of a DRAM-sourced refill (R361): its bytes, or an index entry and the block that it names (R367). -/
def askRefill (r : Nat) (comp : Bool) (from_ off bytes : Nat) (s : State) : State :=
  let a := s.rd64 (Reg.STM_RV_SRC_LO r) + off
  askDram 0 (.refill r from_) 0 (if comp then s.blockSpans a else [(a, bytes)]) s

/-- The source of a stream begins anew with its next request (R190). -/
def State.sourceWraps (s : State) (r : Nat) : Bool :=
  let asked := (s.stream r).asked
  asked != 0 && asked % max 1 (s.fld (Fld.STM_RV_LEN_VALUE r)) == 0

/-- The units of its source that a stream's next request asks for (R190, R191, R395): up to 4 KiB of ring, or one block (log entry 32); 0
where it may ask for none. A block of the host's is read once LIMIT leaves room for the 64 KiB that it may hold beyond the stream bytes stored and
under way (R395; log entry 149). -/
def State.refillUnits (s : State) (r : Nat) : Nat :=
  let x := s.stream r
  let comp := s.bit (Fld.STM_RV_CFG_COMPRESSED r)
  let src := s.fld (Fld.STM_RV_CFG_SRC r)
  let q := s.fld (Fld.STM_RV_CFG_QUEUE r)
  let len := s.fld (Fld.STM_RV_LEN_VALUE r)
  let free := s.ringSize r - s.fld (Fld.STM_RV_FILL_BYTES r) - x.coming
  let pos := x.asked % max 1 len
  let exhausted := s.sourceWraps r && !s.bit (Fld.STM_RV_CFG_WRAP r)
  let left := if comp then 1 else min 256 (len - pos)
  let n := if src = 0 then left
    else if comp then (if s.limitRoom q ((x.stored + x.coming) / 16) < 4096 then 0 else 1)
    else min left (s.limitRoom q x.asked)
  let need := if comp then 65536 else 4096
  if s.refills r && decide (src ≤ 1) && len != 0 && !exhausted && decide (need ≤ free) && (src == 0 || s.streamQueueReady r q) then n else 0

/-- A stream-owned queue has a read ready (R395). -/
def State.hostRefillReady (s : State) (r : Nat) : Bool := s.fld (Fld.STM_RV_CFG_SRC r) == 1 && s.refillUnits r != 0

/-- The queue of a host-sourced stream. -/
def State.queueOf (s : State) (r : Nat) : Nat := s.fld (Fld.STM_RV_CFG_QUEUE r)

/-- The tick since which a queue has its request ready. -/
def State.readySince (s : State) (q : Nat) : Nat := (sget (fun _ => none) s.hif.since q).getD s.tick

/-- A queue issues a request: its next one is ready from the next tick on. -/
def queueIssues (q : Nat) (s : State) : State :=
  { s with hif := { s.hif with since := sset (fun _ => none) s.hif.since q (some (s.tick + 1)) } }

/-- The stream-owned queue of `r` has the oldest request (R397). -/
def State.oldestRead (s : State) (r : Nat) : Bool :=
  (List.range 64).all fun r' => !s.hostRefillReady r' || decide (s.readySince (s.queueOf r) ≤ s.readySince (s.queueOf r'))

/-- Reads of host memory go out, with the attributes of HIF_CTL (R378). -/
def hostReads (rs : List (Nat × Nat)) (s : State) : State :=
  { s with resp := { s.resp with reads := rs.map fun r => ⟨r.1, r.2, s.bit Fld.HIF_CTL_RO_EN, s.bit Fld.HIF_CTL_NS_EN⟩ } }

/-- The lane of a stream takes its request behind those before it (R366); `first` tells that the stream has no other. -/
def laneTakes (r : Nat) (first : Bool) (s : State) : State :=
  let l := s.fld (Fld.DRF_RV_BIND_LANE r)
  let order := if first then s.mem.order.filter (· != r) else s.mem.order
  let s := { s with mem := { s.mem with order := order ++ [r] } }
  let idle := s.fld (Fld.DRF_LANE_STATUS_ROVING l) = 0
  let s := s.put (Fld.DRF_LANE_STATUS_ROVING l) 1
  if idle then s.put (Fld.DRF_LANE_STATUS_STATE l) 1 else s

/-- A refill request of stream `r` (R190, R191); one of the host's memory goes out in the order of R397. -/
def refillRequest (r : Nat) (s : State) : State :=
  let x := s.stream r
  let comp := s.bit (Fld.STM_RV_CFG_COMPRESSED r)
  let n := s.refillUnits r
  let host := s.hostRefillReady r
  if n != 0 && (!host || s.oldestRead r) then
    let bytes := if comp then 65536 else 16 * n
    let pos := x.asked % max 1 (s.fld (Fld.STM_RV_LEN_VALUE r))
    let wraps := s.sourceWraps r
    let s := s.setStream r { x with asked := x.asked + n, reqs := x.reqs ++ [(bytes, n)] }
    let s := s.raiseIf wraps (Fld.STM_RV_EVENT_WRAPPED r)
    let s := if host then
        queueIssues (s.queueOf r) (hostReads [(s.rd64 (Reg.STM_RV_SRC_LO r) + 16 * pos, if comp then 16 else bytes)] s)
      else askRefill r comp x.asked (16 * pos) bytes s
    if comp then laneTakes r x.reqs.isEmpty s else s
  else s

/-- REFILL_REQUEST. -/
def execRefillRequest (r : Fin 64) (s : State) : Host.Outcome State Fault Refusal := .next (refillRequest r s)

/-- Bytes join a stream's ring (R191, R367). -/
def joinRing (r : Nat) (bs : List Byte) (s : State) : State :=
  let x := s.stream r
  let s := forAll (fun (p : Byte × Nat) s => s.putSram (s.ringAddr r (x.stored + p.2)) p.1) bs.zipIdx s
  let s := s.setStream r { x with stored := x.stored + bs.length }
  checkPrimed r (s.put (Fld.STM_RV_FILL_BYTES r) (s.fld (Fld.STM_RV_FILL_BYTES r) + bs.length))

/-- A bound lane has no roving block in progress any more. -/
def lanePauses (l : Nat) (s : State) : State :=
  let busy := (List.range 64).any fun r =>
    s.bit (Fld.DRF_RV_BIND_VALID r) && s.fld (Fld.DRF_RV_BIND_LANE r) == l && !(s.stream r).reqs.isEmpty
  if busy then s else restLane l (s.put (Fld.DRF_LANE_STATUS_ROVING l) 0)

/-- A roving block ends: a good one joins the ring, an error stops the refill (R367, R374). -/
def endRovingBlock (r err : Nat) (bs : List Byte) (s : State) : State :=
  let l := s.fld (Fld.DRF_RV_BIND_LANE r)
  let s := if err = 0 then (joinRing r bs s).count (Fld.DRF_LANE_BLOCKS_COUNT l)
    else refillError r ((s.put (Fld.DRF_LANE_STATUS_LAST_ERR l) err).raise (Fld.DRF_LANE_EVENT_ERR l))
  lanePauses l s

/-- A block as the host's memory gave it: header and data in one (R372). -/
def hostBlock (bs : List Byte) : Nat × List Byte :=
  let (err, head) := readHead (bs.take 16 ++ List.replicate (16 - bs.length) 0)
  if err ≠ 0 then (err, [])
  else decodeBlock head ((bs.drop 16).take head.clen)

/-- The lane of a compressed stream may end its oldest block: it runs, and no earlier request of a stream that shares it is under way (R366,
R375). -/
def State.laneServes (s : State) (r : Nat) : Bool :=
  let l := s.fld (Fld.DRF_RV_BIND_LANE r)
  s.fld (Fld.DRF_LANE_STATUS_STATE l) == 1 && (s.mem.order.find? fun q =>
    s.bit (Fld.DRF_RV_BIND_VALID q) && s.fld (Fld.DRF_RV_BIND_LANE q) == l && !(s.stream q).reqs.isEmpty) == some r

/-- The oldest request of a stream completes, one of DRAM once its granules have been granted (R362): `host` are the bytes that the host's memory gave, `err` that they did not come, or that
a fetch found an uncorrectable word (R190, R359, R367). -/
def refillComplete (r : Nat) (host : List Byte) (err : Bool) (s : State) : State :=
  let x := s.stream r
  match x.reqs with
  | [] => s
  | (bytes, n) :: rest =>
    let src := s.fld (Fld.STM_RV_CFG_SRC r)
    let first := x.asked - (x.reqs.map Prod.snd).sum
    let a := s.rd64 (Reg.STM_RV_SRC_LO r) + 16 * (first % max 1 (s.fld (Fld.STM_RV_LEN_VALUE r)))
    let comp := s.bit (Fld.STM_RV_CFG_COMPRESSED r)
    if (src = 0 && s.dramWaits (.refill r first)) || (comp && !s.laneServes r) then s
    else
    let s := s.setStream r { x with reqs := rest }
    if comp then
      let s := { s with mem := { s.mem with order := s.mem.order.erase r } }
      let ((e, bs), s) := if src = 0 then readBlock a err [] s else if err then ((18, []), s) else (hostBlock host, s)
      endRovingBlock r e bs s
    else if src = 0 then
      let (hit, s) := dramFinds a bytes err s
      if hit then refillError r s else joinRing r (s.dramBytes a bytes) s
    else if err then refillError r s
    else joinRing r ((host ++ List.replicate bytes 0).take (16 * n)) s

/-- REFILL_COMPLETE. -/
def execRefillComplete (r : Fin 64) (host : List Byte) (err : Bool) (s : State) : Host.Outcome State Fault Refusal :=
  .next (refillComplete r host err s)

end Sys2Proof.Machine
end

