-- ==== Sys2Proof/Machine/Spindle.lean ====
section
/-! DEFINITION. Machine/Spindle.lean: the compute, flow and structure words of the spindles and the events of their issue
stages (spec/03). Output words are in Machine/Outputs.lean. -/

namespace Sys2Proof.Machine

/-! ### Compute words -/

/-- OP_NOP. -/
def execOpNop (n : Fin 64) (s : State) : Host.Outcome State Fault Refusal :=
  .next (runWord n (fun m => match m with | .nop => some (oneTick n) | _ => none) s)

/-- The result and carry of an ALU function (R98). -/
def alu (fn : Nat) (a y : Word) : Word × Bool :=
  let k := y.toNat % 32
  match fn with
  | 0 => (a + y, decide (2 ^ 32 ≤ a.toNat + y.toNat))
  | 1 => (a - y, decide (a.toNat < y.toNat))
  | 2 => (a &&& y, false)
  | 3 => (a ||| y, false)
  | 4 => (a ^^^ y, false)
  | 5 => (a <<< k, decide (k ≠ 0) && a.getLsbD (32 - k))
  | 6 => (a >>> k, decide (k ≠ 0) && a.getLsbD (k - 1))
  | 7 => (a.sshiftRight k, decide (k ≠ 0) && a.getLsbD (k - 1))
  | 8 => (if a.toInt ≤ y.toInt then a else y, false)
  | 9 => (if y.toInt ≤ a.toInt then a else y, false)
  | _ => (a * y, decide ((a * y).toInt ≠ a.toInt * y.toInt))

/-- An ALU word acts: gD and the flags (R98). -/
def aluWord (n d a b fn immEn : Nat) (imm : Word) (s : State) : State :=
  let r := alu fn (s.g n a) (if immEn = 1 then imm else s.g n b)
  let s := s.setG n d r.1
  oneTick n (s.setSpindle n { s.spindle n with z := r.1 == 0, n := r.1.getLsbD 31, c := r.2 })

/-- OP_ALU. -/
def execOpAlu (n : Fin 64) (s : State) : Host.Outcome State Fault Refusal :=
  .next (runWord n (fun m => match m with
    | .alu d a b fn immEn imm => some (aluWord n d.toNat a.toNat b.toNat fn.toNat immEn.toNat imm)
    | _ => none) s)

/-- LDLC acts (R99). -/
def ldlcWord (n k src a count : Nat) (s : State) : State :=
  let v := if src = 0 then count else (s.g n a).toNat % 2 ^ 16
  oneTick n (s.wr (Reg.SPN_LC n k) (BitVec.ofNat 32 v))

/-- OP_LDLC. -/
def execOpLdlc (n : Fin 64) (s : State) : Host.Outcome State Fault Refusal :=
  .next (runWord n (fun m => match m with
    | .ldlc k src a count => some (ldlcWord n k.toNat src.toNat a.toNat count.toNat)
    | _ => none) s)

/-- RDDEC acts: the channel's latest decision word since its last RWIN, or zero (R100). -/
def rddecWord (n d ch : Nat) (s : State) : State :=
  let v := if (s.dscCh ch).decided then s.rd (Reg.DSC_CH_LAST_DEC ch) else 0
  let s := s.setG n d v
  oneTick n (s.setSpindle n { s.spindle n with z := v == 0 })

/-- OP_RDDEC: "sets Z = 1 when the loaded value is zero" is taken as Z telling whether it is zero (log entry 12). -/
def execOpRddec (n : Fin 64) (s : State) : Host.Outcome State Fault Refusal :=
  .next (runWord n (fun m => match m with
    | .rddec d ch => some (rddecWord n d.toNat ch.toNat)
    | _ => none) s)

/-- RDSIN acts (R100). -/
def rdsinWord (n d : Nat) (s : State) : State := oneTick n (s.setG n d (s.rd (Reg.SPN_SIN n) &&& 0xFFFF))

/-- OP_RDSIN. -/
def execOpRdsin (n : Fin 64) (s : State) : Host.Outcome State Fault Refusal :=
  .next (runWord n (fun m => match m with
    | .rdsin d => some (rdsinWord n d.toNat)
    | _ => none) s)

/-- NCOP acts on a preset shadow (R101). -/
def ncopWord (n kind ch setf setp addp src a b ftw ph : Nat) (s : State) : State :=
  let k := kind * 256 + ch
  let f := if src = 0 then ftw else s.gPair n a % 2 ^ 48
  let p := if src = 0 then ph else (s.g n b).toNat % 2 ^ 16
  let h := s.shadow n k
  let p0 := if setp = 1 then p else h.ph
  let p1 := if addp = 1 then (p0 + p) % 2 ^ 16 else p0
  let changed := h.changed || setf == 1 || setp == 1 || addp == 1
  oneTick n (s.setShadow n k ⟨if setf = 1 then f else h.ftw, p1, changed⟩)

/-- OP_NCOP. -/
def execOpNcop (n : Fin 64) (s : State) : Host.Outcome State Fault Refusal :=
  .next (runWord n (fun m => match m with
    | .ncop kind ch setf setp addp src a b ftw ph =>
      some (ncopWord n kind.toNat ch.toNat setf.toNat setp.toNat addp.toNat src.toNat a.toNat b.toNat ftw.toNat ph.toNat)
    | _ => none) s)

/-- SETTB acts (R103). -/
def settbWord (n mode a imm : Nat) (s : State) : State :=
  let v := match mode with
    | 0 => imm
    | 1 => s.tb n + imm
    | _ => s.gPair n a
  oneTick n (s.wr64 (Reg.SPN_TB_LO n) (v % 2 ^ 64))

/-- OP_SETTB. -/
def execOpSettb (n : Fin 64) (s : State) : Host.Outcome State Fault Refusal :=
  .next (runWord n (fun m => match m with
    | .settb mode a imm => some (settbWord n mode.toNat a.toNat imm.toNat)
    | _ => none) s)

/-! ### Flow words -/

/-- OP_JMP (R104). -/
def execOpJmp (n : Fin 64) (s : State) : Host.Outcome State Fault Refusal :=
  .next (runWord n (fun m => match m with
    | .jmp tgt => some fun s => advanceTo n tgt.toNat (s.tick + 1) s
    | _ => none) s)

/-- OP_BRS: branches when the latch equals POL (R104). -/
def execOpBrs (n : Fin 64) (s : State) : Host.Outcome State Fault Refusal :=
  .next (runWord n (fun m => match m with
    | .brs sin pol tgt => some fun s =>
      if s.latch n sin.toNat == (pol == 1) then advanceTo n tgt.toNat (s.tick + 1) s else oneTick n s
    | _ => none) s)

/-- LOOP acts: a counter that is 0 stays 0 and does not branch (R104). -/
def loopWord (n k tgt : Nat) (s : State) : State :=
  let v := (s.rd (Reg.SPN_LC n k)).toNat
  if v = 0 then oneTick n s
  else
    let s := s.wr (Reg.SPN_LC n k) (BitVec.ofNat 32 (v - 1))
    if v - 1 = 0 then oneTick n s else advanceTo n tgt (s.tick + 1) s

/-- OP_LOOP. -/
def execOpLoop (n : Fin 64) (s : State) : Host.Outcome State Fault Refusal :=
  .next (runWord n (fun m => match m with
    | .loop k tgt => some (loopWord n k.toNat tgt.toNat)
    | _ => none) s)

/-- WAITT acts (R105): it occupies max(1, n) ticks. -/
def waittWord (n src a ticks : Nat) (s : State) : State :=
  let k := if src = 0 then ticks else (s.g n a).toNat % 2 ^ 24
  if k ≤ 1 then oneTick n s else startWait n (.ticks (s.tick + k)) s

/-- OP_WAITT. -/
def execOpWaitt (n : Fin 64) (s : State) : Host.Outcome State Fault Refusal :=
  .next (runWord n (fun m => match m with
    | .waitt src a ticks => some (waittWord n src.toNat a.toNat ticks.toNat)
    | _ => none) s)

/-- WAITT_DONE: the next word issues in the tick the count leads to. -/
def execWaittDone (n : Fin 64) (s : State) : Host.Outcome State Fault Refusal :=
  .next <| match (s.spindle n).wait with
    | some (.ticks t) => if t ≤ s.tick then advanceTo n (s.nextPc n) s.tick s else s
    | _ => s

/-- WAITR acts (R106, R107): a target whose tick is not later than this one makes it late. -/
def waitrWord (n mode a t : Nat) (s : State) : State :=
  let t := match mode with
    | 0 => t
    | 1 => s.gPair n a
    | 2 => (s.tb n + t) % 2 ^ 64
    | _ => (s.ca n + t) % 2 ^ 64
  let s := s.setSpindle n { s.spindle n with autoT := t }
  if t * 2 ^ 32 < s.reelAfter then
    oneTick n ((s.raise (Fld.SPN_EVENT_LATE n)).count (Fld.SPN_COUNT_LATE n))
  else startWait n (.reel t) s

/-- OP_WAITR. -/
def execOpWaitr (n : Fin 64) (s : State) : Host.Outcome State Fault Refusal :=
  .next (runWord n (fun m => match m with
    | .waitr mode a t => some (waitrWord n mode.toNat a.toNat t.toNat)
    | _ => none) s)

/-- WAITR_REACHED: the next word issues in the tick that R54 names. -/
def execWaitrReached (n : Fin 64) (s : State) : Host.Outcome State Fault Refusal :=
  .next <| match (s.spindle n).wait with
    | some (.reel t) => if t * 2 ^ 32 < s.reelAfter then advanceTo n (s.nextPc n) s.tick s else s
    | _ => s

/-- OP_WTS (R108). -/
def execOpWts (n : Fin 64) (s : State) : Host.Outcome State Fault Refusal :=
  .next (runWord n (fun m => match m with
    | .wts mask sel clr tgtSel tgtTo timeout => some fun s =>
      startWait n (.strand s.tick mask.toNat sel.toNat (clr == 1) tgtSel.toNat tgtTo.toNat timeout.toNat) s
    | _ => none) s)

/-- A waiting WTS finds a latch set from the tick after the one in which it became set (R130). -/
def State.latchFound (s : State) (n i : Nat) : Bool :=
  s.latch n i && decide (sget (fun _ => 0) (s.spindle n).sinAt i < s.tick)

/-- The latches a mask selects that are found set. -/
def State.found (s : State) (n mask : Nat) : List Nat := (List.range 16).filter fun i => bitOf mask i && s.latchFound n i

/-- The latches a mask selects that are set, those that became set in this very tick among them (R129). -/
def State.selected (s : State) (n mask : Nat) : List Nat := (List.range 16).filter fun i => bitOf mask i && s.latch n i

/-- A WTS ends: its next word issues two ticks later, and the scout restarts there (R108, R135). -/
def endWts (n next : Nat) (s : State) : State := advanceTo n next (s.tick + 2) (restartScout n (next % 8192) 2 s)

/-- WTS_LATCH: the wait ends on a latch; two or more set a coincidence, CLR clears those the mask selects, and the next word
issues two ticks later (R108, R109, R129). -/
def execWtsLatch (n : Fin 64) (s : State) : Host.Outcome State Fault Refusal :=
  .next <| match (s.spindle n).wait with
    | some (.strand _ mask sel clr tgtSel _ _) =>
      let f := s.found n mask
      if f.isEmpty then s
      else
        let next := if s.latch n sel then tgtSel else s.nextPc n
        let s := s.raiseIf (decide (2 ≤ (s.selected n mask).length)) (Fld.SPN_EVENT_COINCIDENT n)
        let s := if clr then clearLatches n mask s else s
        endWts n next s
    | _ => s

/-- WTS_TIMEOUT: in the last of its TIMEOUT ticks, with no selected latch found, the wait ends and TGT_TO issues two ticks
later (R108). -/
def execWtsTimeout (n : Fin 64) (s : State) : Host.Outcome State Fault Refusal :=
  .next <| match (s.spindle n).wait with
    | some (.strand issued mask _ _ _ tgtTo timeout) =>
      if timeout ≠ 0 ∧ issued + timeout ≤ s.tick + 1 ∧ (s.found n mask).isEmpty then
        endWts n tgtTo (s.raise (Fld.SPN_EVENT_WTS_TIMEOUT n))
      else s
    | _ => s

/-! ### Structure words -/

/-- COMMIT acts: committed state, CA, and a handler's vector is no longer pending (R116, R118); a restart of R125 is over (R126). -/
def commitWord (n : Nat) (s : State) : State :=
  let s := (s.put (Fld.SPN_STATUS_COMMITTED n) 1).wr64 (Reg.SPN_CA_LO n) s.reelNs
  let s := s.setSpindle n { s.spindle n with commitTick := s.tick, redo := none }
  let s := if s.bit (Fld.SPN_STATUS_IN_HANDLER n) then
      s.put (Fld.SPN_PEND_PEND n) (clrBit (s.fld (Fld.SPN_PEND_PEND n)) (s.fld (Fld.SPN_STATUS_HANDLER_VEC n)))
    else s
  oneTick n s

/-- OP_COMMIT. -/
def execOpCommit (n : Fin 64) (s : State) : Host.Outcome State Fault Refusal :=
  .next (runWord n (fun m => match m with | .commit => some (commitWord n) | _ => none) s)

/-- What an END chooses: a word, HALT, or nothing (a RET with no vector pending and no resume address). -/
inductive EndNext where
  | word (a : Nat) | handler (v : Nat) | halt | nowhere
  deriving DecidableEq, Repr

/-- The choice of NXT (R121, R122). -/
def State.endChoice (s : State) (n nxt tgt : Nat) : EndNext :=
  match nxt with
  | 0 => .word (s.nextPc n)
  | 1 => .word tgt
  | 2 => .halt
  | _ => match s.topVector n s.tick with
    | some v => .handler v
    | none =>
      if (s.spindle n).hasResume then
        if s.bit (Fld.SPN_RESUME_HALT n) then .halt else .word (s.fld (Fld.SPN_RESUME_ADDR n))
      else .nowhere

/-- A debug halt that was requested takes effect in the tick after END (R136). -/
def haltAfter (n : Nat) (s : State) : State :=
  if (s.spindle n).haltReq then { s with later := s.later ++ [(s.tick + 1, .haltAt n)] } else s

/-- The routine has ended; the next routine's entry word is at `a` and may issue in the next tick (R122, R136). -/
def endTo (n a : Nat) (s : State) : State :=
  let s := (s.put (Fld.SPN_STATUS_COMMITTED n) 0).put (Fld.SPN_STATUS_HELD n) 0
  haltAfter n (s.setSpindle n { s.spindle n with npc := a % 8192, due := s.tick + 1, wait := none, entry := a % 8192 })

/-- The routine has ended in this tick, and the spindle is IDLE from the next one on (R122, R136). -/
def endIdle (n : Nat) (s : State) : State :=
  let s := toIdle n (s.put (Fld.SPN_STATUS_COMMITTED n) 0)
  haltAfter n (s.setSpindle n { s.spindle n with idleTick := s.tick + 1 })

/-- END acts (R120 to R122, R41). A STOP that waited ends in IDLE; a vector recognised while the routine was committed puts
the highest-priority pending handler next, the resume register taking the word NXT would have chosen. What the routine left is what
an abandonment restores before the next entry word has issued. -/
def endWord (n nxt tgt : Nat) (s : State) : State :=
  let choice := s.endChoice n nxt tgt
  let held := s.bit (Fld.SPN_STATUS_HELD n)
  let s := s.setSpindle n { s.spindle n with chk := some (s.takeCheckpoint n) }
  if (s.spindle n).stopHeld || s.noRoutine n then
    endIdle n s
  else match held && nxt != 3, s.topVector n s.tick with
    | true, some v =>
      let s := match choice with
        | .word a => setResume n a false s
        | .halt => setResume n (s.fld (Fld.SPN_RESUME_ADDR n)) true s
        | _ => s
      endTo n (s.fld (Fld.SPN_VEC_ENTRY n v)) (enterHandler n v s)
    | _, _ =>
      match choice with
      | .word a => endTo n a (s.put (Fld.SPN_STATUS_IN_HANDLER n) 0)
      | .handler v => endTo n (s.fld (Fld.SPN_VEC_ENTRY n v)) (enterHandler n v s)
      | .halt =>
        let s := setResume n (s.fld (Fld.SPN_RESUME_ADDR n)) true s
        endIdle n (s.put (Fld.SPN_STATUS_IN_HANDLER n) 0)
      | .nowhere => toError n (some (s.fld (Fld.SPN_STATUS_PC n))) (Fld.SPN_EVENT_ILLEGAL n) s

/-- OP_END. -/
def execOpEnd (n : Fin 64) (s : State) : Host.Outcome State Fault Refusal :=
  .next (runWord n (fun m => match m with | .endw nxt tgt => some (endWord n nxt.toNat tgt.toNat) | _ => none) s)

/-! ### Events of the issue stage -/

/-- ILLEGAL: a reserved word, or a word that needs the committed state in an uncommitted routine, comes to issue (R95, R117). -/
def execIllegal (n : Fin 64) (s : State) : Host.Outcome State Fault Refusal :=
  .next <|
    if s.mayIssue n then
      match issue n s with
      | (none, s') => toError n (some (s'.fld (Fld.SPN_STATUS_PC n))) (Fld.SPN_EVENT_ILLEGAL n) s'
      | (some m, s') =>
        if s'.condition n m.cc && m.op.needsCommit && !s'.committed n then
          toError n (some (s'.fld (Fld.SPN_STATUS_PC n))) (Fld.SPN_EVENT_ILLEGAL n) s'
        else s
    else s

/-- POST_OVF: 4,096 ticks after its COMMIT the routine has issued no END (R114). -/
def execPostOvf (n : Fin 64) (s : State) : Host.Outcome State Fault Refusal :=
  .next <|
    if s.spindlesRun && (s.spindle n).active && s.committed n && decide ((s.spindle n).commitTick + 4096 ≤ s.tick) then
      toError n none (Fld.SPN_EVENT_POST_OVF n) s
    else s

/-- VECTOR_RECOGNISED, two ticks after its event (R118 to R122). -/
def recognise (n v : Nat) (s : State) : State :=
  let x := s.spindle n
  let st := s.fld (Fld.SPN_STATUS_STATE n)
  if !(s.spindlesRun && s.pends n v && decide (sget (fun _ => 0) x.pendAt v < s.tick) && s.bit (Fld.SPN_CTL_EN n)) ||
     s.noRoutine n || st == 3 || st == 4 || x.gap.isSome then s
  else if !x.active then s.setSpindle n { x with gap := some none, due := s.tick + 3 }
  else if s.committed n then s.put (Fld.SPN_STATUS_HELD n) 1
  else if s.bit (Fld.SPN_STATUS_IN_HANDLER n) && decide (s.fld (Fld.SPN_STATUS_HANDLER_VEC n) ≤ v) then s
  else abandon n none s

/-- VECTOR_RECOGNISED. -/
def execVectorRecognised (n : Fin 64) (v : Fin 8) (s : State) : Host.Outcome State Fault Refusal :=
  .next (recognise n v s)

/-- A write of SPN_CMD (R124): each vector named whose source is the host and that is enabled gets an event, which makes it
pending in the next tick. -/
def hostPreempt (n : Nat) (v : Word) (s : State) : State :=
  if s.spindlesRun then
    let vs := (List.range 8).filter fun k =>
      v.getLsbD k && s.fld (Fld.SPN_VEC_SRC n k) == 0x10 && s.bit (Fld.SPN_VEC_EN n k)
    { s with later := s.later ++ vs.map fun k => (s.tick + 1, .vecPend n k) }
  else s

/-- HOST_PREEMPT. -/
def execHostPreempt (path : Path) (n : Fin 64) (v : Word) (s : State) : Host.Outcome State Fault Refusal :=
  .next (gated path (Reg.SPN_CMD n) (hostPreempt n v) s)

/-- CSTORE_ECC_CORR (R125, R126): the corrected word of a committed routine issues; that of an uncommitted routine is
suppressed and the routine restarted, and a second error at the address of such a restart ends in ERROR. -/
def execCstoreEccCorr (n : Fin 64) (s : State) : Host.Outcome State Fault Refusal :=
  .next <|
    if s.mayIssue n then
      let a := s.fetchAddr n
      let s := (s.raise (Fld.SPN_EVENT_ECC_CORR n)).count (Fld.SPN_COUNT_ECC_CORR n)
      if (s.spindle n).redo = some a then toError n (some a) (Fld.SPN_EVENT_ECC_HARD n) s
      else if s.committed n && (s.spindle n).active && (s.spindle n).gap.isNone then s
      else
        let s := (resolveGap n s)
        let s := s.count Fld.SUP_TOL_ECC
        let s := s.setSpindle n { s.spindle n with redo := some a }
        abandon n (some (s.spindle n).entry) s
    else s

/-- The fetch of a control-store word finds an uncorrectable error (R127). -/
def uncorrFetch (n : Nat) (s : State) : State :=
  if s.mayIssue n then toError n (some (s.fetchAddr n)) (Fld.SPN_EVENT_ECC_UNCORR n) s else s

/-- CSTORE_ECC_UNCORR. -/
def execCstoreEccUncorr (n : Fin 64) (s : State) : Host.Outcome State Fault Refusal := .next (uncorrFetch n s)

/-- The integer reel ns first reaches a new multiple of 1,000 in this tick (R131). -/
def State.newMicrosecond (s : State) : Bool :=
  s.reelRuns && s.reelNs / 1000 != s.tln.prevReel / 2 ^ 32 % 2 ^ 64 / 1000

/-- HEARTBEAT_TOKEN (R131): RUN while a routine executes, IDLE while idle or halted; withheld in ERROR and after a tick in which
the issue stage failed to issue. -/
def execHeartbeatToken (n : Fin 64) (s : State) : Host.Outcome State Fault Refusal :=
  .next <|
    let x := s.spindle n
    let st := s.fld (Fld.SPN_STATUS_STATE n)
    if s.spindlesRun && s.bit (Fld.SPN_CTL_EN n) && s.newMicrosecond && st != 4 && !s.failing n then
      s.setSpindle n { x with tokenTick := s.tick, tokenRun := st == 1 || st == 2 }
    else noteMissed n s

/-! ### Debug control -/

/-- A halt is requested (R136): it takes effect before the next word of an uncommitted routine, in IDLE at once, and in the
tick after END of a committed routine. -/
def dbgHalt (n : Nat) (s : State) : State :=
  let x := s.spindle n
  let st := s.fld (Fld.SPN_STATUS_STATE n)
  if s.debugControl && st != 3 && st != 4 then
    let s := s.setSpindle n { x with haltReq := true }
    if x.active && (s.committed n || x.wait.isSome) && x.gap.isNone then s else haltNow n s
  else s

/-- DBG_HALT. -/
def execDbgHalt (path : Path) (n : Fin 64) (s : State) : Host.Outcome State Fault Refusal :=
  .next (gated path (Reg.SPN_DBG n) (dbgHalt n) s)

/-- A halted spindle may issue again. -/
def unhalt (n : Nat) (req : Bool) (s : State) : State :=
  let x := s.spindle n
  let s := s.setSpindle n { x with haltReq := req, due := max x.due s.tick }
  let s := if x.active then restartScout n (s.fetchAddr n) (max x.due s.tick - s.tick) s else s
  s.put (Fld.SPN_STATUS_STATE n) (if x.active then 1 else 0)

/-- One step (R137): the next word in full, and from a COMMIT up to END; the halt takes effect again after it. -/
def dbgStep (n : Nat) (s : State) : State :=
  if s.debugControl && s.fld (Fld.SPN_STATUS_STATE n) == 3 && ((s.spindle n).active || (s.spindle n).gap.isSome) then unhalt n true s else s

/-- DBG_STEP. -/
def execDbgStep (path : Path) (n : Fin 64) (s : State) : Host.Outcome State Fault Refusal :=
  .next (gated path (Reg.SPN_DBG n) (dbgStep n) s)

/-- The debug halt is left (R136). -/
def resumeSpindle (n : Nat) (s : State) : State :=
  if s.fld (Fld.SPN_STATUS_STATE n) = 3 then unhalt n false s
  else s.setSpindle n { s.spindle n with haltReq := false }

/-- DBG_RESUME. -/
def execDbgResume (path : Path) (n : Fin 64) (s : State) : Host.Outcome State Fault Refusal :=
  .next (gated path (Reg.SPN_DBG n) (fun s => if s.debugControl then resumeSpindle n s else s) s)

end Sys2Proof.Machine
end

