-- ==== Sys2Proof/Machine/Memory.lean ====
section
/-! DEFINITION. Machine/Memory.lean: the commands of the memories (spec/11): ECC errors, scrub, zeroing, refresh, arbitration. -/

namespace Sys2Proof.Machine

/-- A correctable SRAM error: the corrected word is delivered and written back, counted and reported (R351, R355). -/
def sramCe (off : Nat) (s : State) : State :=
  let g := sramRegion off
  countCe g ((s.count (Fld.MEM_SRAM_ERR_CE g)).raise Fld.MEM_EVENT_SRAM_CE g)

/-- SRAM_CE. -/
def execSramCe (off : Fin 0x4000000) (s : State) : Host.Outcome State Fault Refusal := .next (sramCe off s)

/-- The words of the reader's region, as the table of R352 pairs them. -/
def readerRegion (off : Nat) : SramReader → Bool
  | .fetch _ => sramRegion off == 0
  | .stream _ => sramRegion off == 1
  | .window _ => sramRegion off == 3
  | .table _ => sramRegion off == 4
  | .spill _ => sramRegion off == 2
  | .launch _ => sramRegion off == 5
  | .job _ => sramRegion off == 5
  | .host => true
  | .scrub => true

/-- The readers of the first four rows of R352, whose error line is DF8 in M3 to M6. -/
def readerLine : SramReader → Bool
  | .fetch _ => true
  | .stream _ => true
  | .window _ => true
  | .table _ => true
  | _ => false

/-- What an uncorrectable SRAM word does to its reader (R352). -/
def sramReaderHit (off : Nat) (rd : SramReader) (s : State) : State :=
  match rd with
  | .fetch n => uncorrFetch n s
  | .stream t => s.setTgt t { s.tgt t with zeroTick := some s.tick }
  | .window r => if (s.dscCh r).win.isSome then breakWindow r s else s
  | .table t => ctDone t .bad s
  | .spill b => if (s.bobbin b).spill.isEmpty then s
      else { s with mem := { s.mem with badSram := (off / 16 :: s.mem.badSram).eraseDups } }
  | .launch k => if s.bit (Fld.TLN_LAUNCH_CFG_ARM k) then missSlot k s else s
  | .job l => if s.mayRunJob l then startJob l { desc := ⟨0, 0, 0, 0, 0, 0, 0, 0, 0⟩, err := 18 } s else s
  | .host => s.raise Fld.MEM_EVENT_POISON
  | .scrub => s

/-- SRAM_UE: the word is recorded, and its reader acts as R352 says. -/
def execSramUe (off : Fin 0x4000000) (rd : SramReader) (s : State) : Host.Outcome State Fault Refusal :=
  .next (if readerRegion off rd then sramReaderHit off rd (sramUe off s (readerLine rd)) else s)

/-- SCRUB_PASS_DONE (R354). -/
def execScrubPassDone (dram : Bool) (s : State) : Host.Outcome State Fault Refusal :=
  .next <|
    if dram then s.raiseIf (s.fld Fld.MEM_SCRUB_CFG_DRAM_H != 0) Fld.MEM_EVENT_SCRUB_DRAM
    else s.raiseIf (s.fld Fld.MEM_SCRUB_CFG_SRAM_S != 0) Fld.MEM_EVENT_SCRUB_SRAM

/-- DRAM_CE (R359, R355). -/
def execDramCe (off : Fin 0x2000000000) (s : State) : Host.Outcome State Fault Refusal :=
  let k := off.val / 256 % 4
  .next (countCe (6 + k) ((s.count (Fld.MEM_DRAM_ERR_CE k)).raise Fld.MEM_EVENT_DRAM_CE k))

/-- A remote transfer ends with a code (R317); packets that wait are never discarded (R314). -/
def endRdma (code : Nat) (s : State) : State :=
  let s := (s.put Fld.CSC_RDMA_STATUS_BUSY 0).put Fld.CSC_RDMA_STATUS_RESULT code
  { s with csc := { s.csc with rdmaTags := [] } }

/-- A remote transfer ends with an error whose code the manual does not give (R359). -/
def failRdma (s : State) : State :=
  let (k, s) := s.fresh 8
  endRdma ([3, 4, 5].getD (k % 3) 3) s

/-- What an uncorrectable DRAM word does to its reader (R359); a job meets it where its run comes to it. -/
def dramReaderHit (off : Nat) (rd : DramReader) (s : State) : State :=
  match rd with
  | .refill r => if (s.stream r).reqs.isEmpty then s else refillError r s
  | .job l => match s.job l with
    | some j => s.setJob l (some { j with bad := j.bad ++ [off / 8] })
    | none => s
  | .rdma => if s.bit Fld.CSC_RDMA_STATUS_BUSY then failRdma s else s
  | .host => s.raise Fld.MEM_EVENT_POISON
  | .scrub => s

/-- DRAM_UE: the word is recorded, and its reader acts as R359 says. -/
def execDramUe (off : Fin 0x2000000000) (rd : DramReader) (s : State) : Host.Outcome State Fault Refusal :=
  .next (dramReaderHit off rd (dramUe off s))

/-- Ticks of one second. -/
def secondTicks : Nat := 500000000

/-- REFRESH_DOWN: the band of a stack's sensor has stayed lower for a second, and its multiple falls (R360). -/
def execRefreshDown (k : Fin 4) (s : State) : Host.Outcome State Fault Refusal :=
  .next <| match sget (fun _ => none) s.mem.lowSince k with
    | some t =>
      if t + secondTicks ≤ s.tick then
        let s := (s.put (refreshField k) (refreshOf (s.fld (Fld.SUP_TS_STATUS_BAND (12 + k))))).raise Fld.MEM_EVENT_REFRESH_CHG
        { s with mem := { s.mem with lowSince := sset (fun _ => none) s.mem.lowSince k none } }
      else s
    | none => s

/-- A spill request of a bobbin is refused, the first of those whose deadline has passed with no granule granted (R363, R338); it became urgent
before (R365). -/
def c1Refused (b : Nat) (s : State) : State :=
  match (s.bobbin b).spill.findSome? fun p => (s.expired (.spill b p.1)).map fun q => (p.1, q) with
  | some (pos, q) =>
    let s := raiseDelayed 1 (({ s with mem := { s.mem with reqs := s.mem.reqs.erase q } }).count (Fld.MEM_CLS_COUNT_DELAYED 1))
    spillRefused b pos ((s.count (Fld.MEM_CLS_COUNT_REFUSED 1)).raise Fld.MEM_EVENT_C1_REFUSED b)
  | none => s

/-- C1_REFUSED. -/
def execC1Refused (b : Fin 32) (s : State) : Host.Outcome State Fault Refusal := .next (c1Refused b s)

end Sys2Proof.Machine
end

