-- ==== Sys2Proof/Machine/Bulk.lean ====
section
/-! DEFINITION. Machine/Bulk.lean: bulk packets, their routing and the initiator's side of remote access (R313 to R317). What a
target does with a register or memory access is in Machine/Remote.lean. -/

namespace Sys2Proof.Machine

/-! ### Packets (R313) -/

/-- The frames of a packet, as type and payload; bits [41:38] are added when each is launched. -/
def packetFrames (k : Packet) : List (Nat × Nat) :=
  let head := k.dest % 64 + k.src % 64 * 2 ^ 6 + k.kind % 16 * 2 ^ 12 + k.tag % 256 * 2 ^ 16 + k.data.length % 256 * 2 ^ 24 +
    k.status % 8 * 2 ^ 32
  let addr := if k.kind = 3 then [] else [(0xB, k.space % 4 + k.addr / 4 % 2 ^ 35 * 4)]
  (0xA, head) :: addr ++ k.data.map fun d => (0xC, d.1.toNat + d.2 % 16 * 2 ^ 32)

/-- The place of a packet's kind in the order of R314: completions, register accesses, memory writes. -/
def Packet.cls (k : Packet) : Nat := if k.kind = 3 then 0 else if k.kind = 2 then 2 else 1

/-- The turn of a source: 0 local, 1 + p for TW[p]. -/
def sourceTurn (src : Nat) : Nat := if src = 0 then 0 else 1 + (src - 1) / 4

/-- A packet is routed by its destination and waits at its output port (R314); where no route stands it is lost (log entry 43). -/
def routePacket (src : Nat) (k : Packet) (s : State) : State :=
  if s.bit (Fld.CSC_ROUTE_VALID k.dest) then
    let p := s.fld (Fld.CSC_ROUTE_PORT k.dest)
    s.setTwist p { s.twist p with wait := (s.twist p).wait ++ [(s.tick, src, k)] }
  else s

/-- A receive buffer of a lane is free again (R313). -/
def freeBuffer (src : Nat) (s : State) : State :=
  if src = 0 then s
  else
    let p := (src - 1) / 4
    let x := s.twist p
    let l := sget (fun _ => {}) x.lanes ((src - 1) % 4)
    s.setTwist p { x with lanes := sset (fun _ => {}) x.lanes ((src - 1) % 4) { l with freed := l.freed + 1 } }

/-- The packet that starts next: the first class that waits, and in it the first source after the one served last (R314). -/
def nextPacket (wait : List (Nat × Nat × Packet)) (served : List Nat) : Option (Nat × Nat × Packet) :=
  (List.range 3).findSome? fun c =>
    let ws := wait.filter fun w => w.2.2.cls == c
    (List.range 5).findSome? fun i => ws.find? fun w => sourceTurn w.2.1 == (served.getD c 4 + 1 + i) % 5

/-- A waiting packet starts on the lowest free bulk lane for which a credit is held (R314), and its frames follow in consecutive ticks
(R313); lane 1 is taken while FAILOVER is sent on it (R309). -/
def startPacket (p : Nat) (s : State) : State :=
  let x := s.twist p
  let free := (List.range 4).find? fun l =>
    let y := sget (fun _ => {}) x.lanes l
    s.bulkLane p l && !(x.failing && l == 1) && decide (y.busyTo ≤ s.tick) && decide (0 < y.credits)
  match s.twState p == 6, free, nextPacket x.wait x.served with
  | true, some l, some w =>
    let y := sget (fun _ => {}) x.lanes l
    let frames := packetFrames w.2.2
    let y := { y with busyTo := s.tick + frames.length, credits := y.credits - 1, queue := frames }
    let s := s.setTwist p { x with wait := x.wait.erase w, served := x.served.set w.2.2.cls (sourceTurn w.2.1),
                                   lanes := sset (fun _ => {}) x.lanes l y }
    freeBuffer w.2.1 (bulkFrame p l s)
  | _, _, _ => s

/-- BULK_PACKET_START. -/
def execBulkPacketStart (p : Fin 4) (s : State) : Host.Outcome State Fault Refusal := .next (startPacket p s)

/-- A whole packet has arrived: its frames return `freed` buffers; a packet for another device is forwarded, one for this device is
taken by `act`. -/
def onPacket (p lane freed : Nat) (k : Packet) (act : State → State) (s : State) : State :=
  if s.twState p = 6 ∧ s.bulkRx p lane then
    let s := creditBack p lane freed s
    if k.dest = s.fld Fld.CSC_CFG_DEV_ID then freeBuffer (1 + 4 * p + lane) (act s)
    else if s.bit (Fld.CSC_ROUTE_VALID k.dest) then routePacket (1 + 4 * p + lane) k s
    else freeBuffer (1 + 4 * p + lane) s
  else s

/-- BULK_ERR: a packet with an invalid frame, or aborted by failover, is discarded whole (R315). -/
def execBulkErr (p lane : Fin 4) (s : State) : Host.Outcome State Fault Refusal :=
  .next <|
    if s.twState p = 6 then
      freeBuffer (1 + 4 * p + lane) ((s.count ⟨Reg.CSC_TW_BULK p, 24, 8⟩).raise Fld.CSC_EVENT_BULK_ERR p)
    else s

/-! ### The initiator (R316, R317) -/

/-- The next tag. -/
def takeTag (s : State) : Nat × State := (s.csc.nextTag, { s with csc := { s.csc with nextTag := (s.csc.nextTag + 1) % 256 } })

/-- A write of CSC_RRA_CTL: GO starts one register access of the master's host (R316); while one is in progress it is discarded (log
entry 44). -/
def rraStart (v : Word) (s : State) : State :=
  if fieldGet v Fld.CSC_RRA_CTL_GO = 1 ∧ s.role = 1 ∧ !s.bit Fld.CSC_RRA_STATUS_BUSY then
    let dest := fieldGet v Fld.CSC_RRA_CTL_TARGET
    let read := fieldGet v Fld.CSC_RRA_CTL_READ
    if s.bit (Fld.CSC_ROUTE_VALID dest) then
      let (tag, s) := takeTag s
      let data := if read = 1 then [] else [(s.rd Reg.CSC_RRA_DATA, 15)]
      let k : Packet := ⟨dest, s.fld Fld.CSC_CFG_DEV_ID, read, tag, 0, 0, 4 * s.fld Fld.CSC_RRA_ADDR_OFFSET, data⟩
      let s := (s.put Fld.CSC_RRA_STATUS_RESULT 0).put Fld.CSC_RRA_STATUS_BUSY 1
      routePacket 0 k { s with csc := { s.csc with rra := some (s.tick, read, tag) } }
    else s.put Fld.CSC_RRA_STATUS_RESULT 5
  else s

/-- RRA_WRITE: a write of CSC_RRA_CTL with GO = 1 and READ = 0. -/
def execRraWrite (path : Path) (target : Fin 64) (s : State) : Host.Outcome State Fault Refusal :=
  .next (gated path Reg.CSC_RRA_CTL (rraStart (BitVec.ofNat 32 (1 + 256 * target.val))) s)

/-- RRA_READ: a write of CSC_RRA_CTL with GO = 1 and READ = 1. -/
def execRraRead (path : Path) (target : Fin 64) (s : State) : Host.Outcome State Fault Refusal :=
  .next (gated path Reg.CSC_RRA_CTL (rraStart (BitVec.ofNat 32 (3 + 256 * target.val))) s)

/-- The register access ends with a result. -/
def endRra (r : Nat) (s : State) : State :=
  let s := (s.put Fld.CSC_RRA_STATUS_BUSY 0).put Fld.CSC_RRA_STATUS_RESULT r
  { s with csc := { s.csc with rra := none } }

/-- The ticks of the completion timeout. -/
def State.rraTimeout (s : State) : Nat := 500 * s.fld Fld.CSC_RRA_TIMEOUT_US

/-- RRA_TIMEOUT. -/
def execRraTimeout (s : State) : Host.Outcome State Fault Refusal :=
  .next <| match s.csc.rra with
    | some (t, _, _) => if t + s.rraTimeout ≤ s.tick then endRra 4 s else s
    | none => s

/-- The packets of a transfer: `n` pieces of 256 bytes, with a shorter last one (R317). -/
def rdmaPackets (dest space : Nat) : Nat → Nat → List Byte → State → State
  | 0, _, _, s => s
  | n + 1, a, bs, s =>
    let (tag, s) := takeTag s
    let piece := bs.take 256
    let data := (List.range (piece.length / 4)).map fun i => (BitVec.ofNat 32 (leNat ((piece.drop (4 * i)).take 4)), 15)
    let k : Packet := ⟨dest, s.fld Fld.CSC_CFG_DEV_ID, 2, tag, 0, space, a, data⟩
    let s := routePacket 0 k { s with csc := { s.csc with rdmaTags := s.csc.rdmaTags ++ [tag] } }
    rdmaPackets dest space n (a + 256) (bs.drop 256) s

/-- A write of CSC_RDMA_CTL: GO starts a transfer of the master's host (R317). -/
def rdmaStart (v : Word) (s : State) : State :=
  if fieldGet v Fld.CSC_RDMA_CTL_GO = 1 ∧ s.role = 1 ∧ !s.bit Fld.CSC_RDMA_STATUS_BUSY then
    let dest := fieldGet v Fld.CSC_RDMA_CTL_TARGET
    let space := fieldGet v Fld.CSC_RDMA_CTL_SPACE
    if space ≠ 1 ∧ space ≠ 2 then s.put Fld.CSC_RDMA_STATUS_RESULT 3
    else if !s.bit (Fld.CSC_ROUTE_VALID dest) then s.put Fld.CSC_RDMA_STATUS_RESULT 5
    else
      let src := s.rd64 Reg.CSC_RDMA_SRC_LO % dramSize / 4 * 4
      let len := s.fld Fld.CSC_RDMA_LEN_BYTES / 4 * 4
      if len = 0 then s.put Fld.CSC_RDMA_STATUS_RESULT 2
      else
        let s := (s.put Fld.CSC_RDMA_STATUS_RESULT 0).put Fld.CSC_RDMA_STATUS_BUSY 1
        let s := { s with csc := { s.csc with rdmaTags := [], rdmaTick := s.tick } }
        holdAccess (.rdma dest space src len (s.rd64 Reg.CSC_RDMA_DST_LO % 2 ^ 37 / 4 * 4)) [(src, len)] s
  else s

/-- RDMA_START: a write of CSC_RDMA_CTL with GO. -/
def execRdmaStart (path : Path) (space : Fin 4) (target : Fin 64) (s : State) : Host.Outcome State Fault Refusal :=
  .next (gated path Reg.CSC_RDMA_CTL (rdmaStart (BitVec.ofNat 32 (1 + 2 * space.val + 256 * target.val))) s)

/-- The source of a transfer has been read (R317, R357, R362): its packets are formed, or an uncorrectable word ends it (R359). -/
def rdmaSend (dest space src len dst : Nat) (s : State) : State :=
  if s.bit Fld.CSC_RDMA_STATUS_BUSY then
    let (bad, s) := dramFinds src len false s
    if bad then failRdma s
    else
      let (bs, s) := readDram src len s
      rdmaPackets dest space ((len + 255) / 256) dst bs s
  else s

/-- RDMA_TIMEOUT: no completion for the timeout. -/
def execRdmaTimeout (s : State) : Host.Outcome State Fault Refusal :=
  .next (if s.bit Fld.CSC_RDMA_STATUS_BUSY ∧ s.csc.rdmaTick + s.rraTimeout ≤ s.tick then endRdma 4 s else s)

/-- A completion of this device's own access; a register access completes by it, a transfer with the last one (log entry 50). -/
def takeCpl (tag status : Nat) (data : Option Word) (s : State) : State :=
  let mine : Bool := match s.csc.rra with
    | some (_, _, t) => t == tag
    | none => false
  if mine then
    let read : Bool := match s.csc.rra with
      | some (_, r, _) => r == 1
      | none => false
    let s := match data with
      | some w => if read && status == 2 then s.wr Reg.CSC_RRA_DATA w else s
      | none => s
    (endRra status s).raise Fld.CSC_EVENT_RRA_DONE
  else if s.csc.rdmaTags.contains tag then
    if status = 2 then
      let left := s.csc.rdmaTags.erase tag
      let s := { s with csc := { s.csc with rdmaTags := left, rdmaTick := s.tick } }
      if left.isEmpty then (endRdma 2 s).raise Fld.CSC_EVENT_RDMA_DONE else s
    else endRdma status s
  else s

/-- BULK_CPL: STATUS uses the codes of CSC_RRA_STATUS.RESULT (log entry 43). -/
def execBulkCpl (p lane : Fin 4) (freed : Fin 16) (dest src : Fin 64) (tag : Byte) (status : Fin 8) (data : Option Word) (s : State) :
    Host.Outcome State Fault Refusal :=
  let ws := match data with
    | some w => [(w, 15)]
    | none => []
  .next (onPacket p lane freed ⟨dest, src, 3, tag.toNat, status, 0, 0, ws⟩ (takeCpl tag.toNat status data) s)

end Sys2Proof.Machine
end

