-- ==== Sys2Proof/Machine/Front.lean ====
section
/-! DEFINITION. Machine/Front.lean: the commands of the readout front end (spec/06). -/

namespace Sys2Proof.Machine

/-- FRONT_END_CHANGE_APPLY: the changes whose group boundary has come take effect, in the order in which they were made. -/
def execFrontEndChangeApply (s : State) : Host.Outcome State Fault Refusal :=
  .next <|
    let due := s.rdo.changes.filter fun p => decide (p.1 ≤ s.tick)
    let s := { s with rdo := { s.rdo with changes := s.rdo.changes.filter fun p => !decide (p.1 ≤ s.tick) } }
    forAll (fun p s => applyChange p.2 s) due s

/-- A write of RDO_ACQ_ATT (R202, R204). -/
def attWrite (a : Nat) (v : Word) (s : State) : State :=
  let n := fieldGet v (Fld.RDO_ACQ_ATT_ATT a)
  scheduleChange (.att a n) (s.put (Fld.RDO_ACQ_ATT_ATT a) n)

/-- ATT_WRITE. -/
def execAttWrite (path : Path) (a : Fin 16) (v : Word) (s : State) : Host.Outcome State Fault Refusal :=
  .next (gated path (Reg.RDO_ACQ_ATT a) (attWrite a v) s)

/-- The group that has just ended on an ACQ port enters its history: its raw samples and overrange (R202, R203, R207, R543). -/
def takeGroup (a g : Nat) (adc : List (BitVec 12)) (s : State) : State :=
  let x := s.acq a
  let on := s.sampling a
  let codes := (adc ++ List.replicate 64 0).take 64
  let raw := codes.map fun c => if on then rawSample c (decide (g < x.settle)) else asleepSample
  let old := if x.lastGroup = some (g - 1) ∧ g ≠ 0 then x.raw else []
  let s := s.setAcq a { x with raw := (raw :: old).take 16, lastGroup := some g }
  let ovr := (raw.filter fun w => bitOf w 2).length
  let s := if ovr = 0 then s else
    ((s.count (Fld.RDO_ACQ_OVR_CNT_COUNT a) ovr).raise (Fld.RDO_ACQ_EVENT_OVERRANGE a)).raise Fld.RDO_EVENT_OVERRANGE
  s.put (Fld.RDO_ACQ_STATUS_MARKING a) (b2n (raw.any fun w => bitOf w 3))

/-- One group of an ACQ port ends: raw samples, then one channel sample of each readout channel on the port (R209, R213), with
RDO_ACQ_STATUS.MARKING telling whether any of them is marked. A
sample for an open window at a port that is not ACTIVE is a late wake (R492). In M3 the loopback reaches nothing (R543). -/
def channelGroup (a : Nat) (adc : List (BitVec 12)) (s : State) : State :=
  if 2 ≤ s.sinceSync ∧ s.mode ≠ 3 ∧ (s.acq a).lastGroup ≠ some (s.sinceSync / 2 - 1) then
    let g := s.sinceSync / 2 - 1
    let s := takeGroup a g adc s
    if s.arrayPort a then arrayGroup a g s
    else
      let chs := s.acqChannels a
      let span := spanOf (s.acq a).raw
      let s := forAll (fun r s => deliverSample r g span s) chs s
      let s := if chs.any fun r => s.bit (Fld.RDO_CH_STATUS_SETTLE r) then s.put (Fld.RDO_ACQ_STATUS_MARKING a) 1 else s
      if s.portState (48 + a) != 0 && chs.any fun r => (s.dscCh r).win.isSome then wakeLate (48 + a) s else s
  else s

/-- CHANNEL_SAMPLE. -/
def execChannelSample (a : Fin 16) (adc : List (BitVec 12)) (s : State) : Host.Outcome State Fault Refusal :=
  .next (channelGroup a adc s)

/-- A tone sample at its boundary (R219 to R222): the tone decimator over the latest 4·D bin samples, turned from the comb tone's phase at the
centre of the span, with COMB_PH, to RX_PH, and scaled to a sample word. It reaches the bobbins 201 ticks later. -/
def toneSample (a i : Nat) (s : State) : State :=
  let x := s.arrPair a
  let t := s.sinceSync
  let fresh := match sget (fun _ => none) x.last i with
    | some l => l.1 != t
    | none => true
  if s.arrayPort a && s.bit (Fld.RDO_ARR_TONE_C_EN a i) && decide (4 ≤ s.mode ∧ s.mode ≤ 6) && decide (0 < t) &&
      t % s.tonePeriod a == 0 && fresh then
    let settle := x.marked i t || !(s.acq a).awake || s.inToneSpan a x.sleepGroup
    let ovr := s.inToneSpan a x.ovrGroup
    let turn : Int := (s.fld (Fld.RDO_ARR_TONE_P_COMB_PH a i) : Int) - s.fld (Fld.RDO_ARR_TONE_P_RX_PH a i)
    let y := rotatedBy (weighted (toneTaps (s.decim a)) (sget (fun _ => []) x.bins i)) turn 65536
    let (w, sat) := sampleWord y 488 settle ovr
    let s := s.setArrPair a { x with last := sset (fun _ => none) x.last i (some (t, w)) }
    let s := if settle then s.put (Fld.RDO_ACQ_STATUS_MARKING a) 1 else s
    if sat then (s.raise (Fld.RDO_ACQ_EVENT_SAT a)).raise Fld.RDO_EVENT_SAT else s
  else s

/-- TONE_SAMPLE. -/
def execToneSample (a : Fin 16) (i : Fin 1024) (s : State) : Host.Outcome State Fault Refusal := .next (toneSample a i s)

/-- A write of RDO_ARR_CFG, whose COMB_ON the comb follows (R224). -/
def combOnWrite (path : Path) (a : Nat) (v : Word) (s : State) : State := combFollows a (plainWrite path (Reg.RDO_ARR_CFG a) v s)

/-- COMB_ON_WRITE. -/
def execCombOnWrite (path : Path) (a : Fin 16) (v : Word) (s : State) : Host.Outcome State Fault Refusal :=
  .next (combOnWrite path a v s)

/-- Writes of tone words are held (R225): M4, M5 and M6. -/
def State.holdsTones (s : State) : Bool := decide (4 ≤ s.mode ∧ s.mode ≤ 6)

/-- A write of RDO_ARR_TONE_F, or of RDO_ARR_TONE_C where `c`, is held in M4 to M6 (R225). -/
def toneFcWrite (path : Path) (a i : Nat) (c : Bool) (v : Word) (s : State) : State :=
  let off := if c then Reg.RDO_ARR_TONE_C a i else Reg.RDO_ARR_TONE_F a i
  if s.holdsTones then
    gated path off (fun s =>
      let x := s.arrPair a
      s.setArrPair a (if c then { x with heldC := sset (fun _ => none) x.heldC i (some (v &&& 0xFFFF0001)) }
                      else { x with heldF := sset (fun _ => none) x.heldF i (some v) })) s
  else plainWrite path off v s

/-- TONE_FC_WRITE. -/
def execToneFcWrite (path : Path) (a : Fin 16) (i : Fin 1024) (c : Bool) (v : Word) (s : State) :
    Host.Outcome State Fault Refusal := .next (toneFcWrite path a i c v s)

/-- A write of RDO_ARR_TONE_P in M4 to M6 accepts the held entry for the next bin boundary, or refuses it (R225). -/
def toneEntryWrite (a i : Nat) (v : Word) (s : State) : State :=
  let x := s.arrPair a
  let old := s.toneEntry a i
  let f := (sget (fun _ => none) x.heldF i).getD old.1
  let c := (sget (fun _ => none) x.heldC i).getD old.2.1
  let s := s.setArrPair a { x with heldF := sset (fun _ => none) x.heldF i none, heldC := sset (fun _ => none) x.heldC i none }
  let x := s.arrPair a
  let before := s.combPower a (s.combAmps a i old.2.1)
  let after := s.combPower a (s.combAmps a i c)
  if s.toneFits a i f c && !(s.abovePeak (32 + a) after && decide (before < after)) then
    s.setArrPair a { x with accepted := (x.accepted.filter (·.1 != i)) ++ [(i, s.tick, (f, c, v))] }
  else ((s.raise (Fld.RDO_ARR_EVENT_TONE_REFUSED a)).raise Fld.RDO_EVENT_TONE_REFUSED).put (Fld.RDO_ARR_STATUS_LAST_REFUSED a) i

/-- A write of RDO_ARR_TONE_P by a path. -/
def tonePWrite (path : Path) (a i : Nat) (v : Word) (s : State) : State :=
  if s.holdsTones then gated path (Reg.RDO_ARR_TONE_P a i) (toneEntryWrite a i v) s
  else plainWrite path (Reg.RDO_ARR_TONE_P a i) v s

/-- TONE_P_WRITE. -/
def execTonePWrite (path : Path) (a : Fin 16) (i : Fin 1024) (v : Word) (s : State) : Host.Outcome State Fault Refusal :=
  .next (tonePWrite path a i v s)

/-- An accepted tone entry takes effect at a bin-sample boundary, every 256 ticks since SYNC (R219, R225), with its marking
(R216). -/
def toneApplied (a i : Nat) (s : State) : State :=
  match (s.arrPair a).accepted.find? (·.1 == i) with
  | some (_, made, f, c, p) =>
    if s.sinceSync % 256 = 0 ∧ made < s.tick then
      let oldF := s.rd (Reg.RDO_ARR_TONE_F a i)
      let oldC := s.rd (Reg.RDO_ARR_TONE_C a i)
      let x := s.arrPair a
      let s := s.setArrPair a { x with accepted := x.accepted.filter (·.1 != i) }
      let s := ((s.wr (Reg.RDO_ARR_TONE_F a i) f).wr (Reg.RDO_ARR_TONE_C a i) c).wr (Reg.RDO_ARR_TONE_P a i) p
      let s := s.raise (Fld.RDO_ARR_EVENT_TONE_APPLIED a)
      let s := s.put (Fld.RDO_ARR_STATUS_TONES a) (s.enabledTones a).length
      if c.getLsbD 0 then
        if !oldC.getLsbD 0 || toneBin oldF.toInt != toneBin f.toInt then markTone a i (s.toneSpan a) s
        else if oldF != f then markTone a i 4 s else s
      else s
    else s
  | none => s

/-- TONE_APPLIED. -/
def execToneApplied (a : Fin 16) (i : Fin 1024) (s : State) : Host.Outcome State Fault Refusal := .next (toneApplied a i s)

end Sys2Proof.Machine
end

