-- ==== Sys2Proof/Machine/Walk.lean ====
section
/-! DEFINITION. Machine/Walk.lean: walks over the control store: which words follow a word, which words a spindle can reach, and the
resources that its words name (R27, R29, R134, R138). -/

namespace Sys2Proof.Machine

/-- The words reached from a worklist by a successor function, each once; the fuel bounds the steps. -/
def reach (succ : Nat → List Nat) : Nat → List Nat → List Nat → List Nat
  | 0, _, seen => seen
  | _ + 1, [], seen => seen
  | f + 1, a :: w, seen => if seen.contains a then reach succ f w seen else reach succ f (succ a ++ w) (a :: seen)

/-- Fuel for a walk over a whole store: every word is taken up once and gives at most three others. -/
def walkFuel : Nat := 4 * 8192 + 64

/-- The words that may issue after the word at `a`; an END leads on only where `ends` says so, and a false condition to the next
word (R96). An address past the store stands for a flow out of it. -/
def wordSucc (m : MicroWord) (a : Nat) (ends : Bool) : List Nat :=
  let fall := if m.cc = 0 then [] else [a + 1]
  match m.op with
  | .jmp t => fall ++ [t.toNat]
  | .brs _ _ t => [a + 1, t.toNat]
  | .loop _ t => [a + 1, t.toNat]
  | .wts _ _ _ t o tmo => [a + 1, t.toNat] ++ if tmo = 0 then [] else [o.toNat]
  | .endw nxt t =>
    fall ++ (if !ends then [] else match nxt.toNat with
      | 0 => [a + 1]
      | 1 => [t.toNat]
      | _ => [])
  | _ => [a + 1]

/-- The word at an address of a spindle's store. -/
def State.micro (s : State) (n a : Nat) : Option MicroWord := decodeMicro (s.storeWord n a)

/-- The successors of an address within the store. -/
def State.follow (s : State) (n : Nat) (ends : Bool) (a : Nat) : List Nat :=
  match s.micro n a with
  | some m => (wordSucc m a ends).filter fun b => decide (b < 8192)
  | none => []

/-- The entries of a spindle's enabled vectors. -/
def State.vecEntries (s : State) (n : Nat) : List Nat :=
  ((List.range 8).filter fun v => s.bit (Fld.SPN_VEC_EN n v)).map fun v => s.fld (Fld.SPN_VEC_ENTRY n v)

/-- The words that an enabled spindle can reach from its entry and its handlers. -/
def State.reachable (s : State) (n : Nat) : List Nat :=
  if s.bit (Fld.SPN_CTL_EN n) then reach (s.follow n true) walkFuel (s.fld (Fld.SPN_CTL_ENTRY n) :: s.vecEntries n) [] else []

/-- The port of a target by KIND and CH. -/
def State.portOfKind (s : State) (kind ch : Nat) : Option Nat :=
  match kind with
  | 0 => if s.bit (Fld.GLB_DRV_MAP_VALID ch) then some (s.fld (Fld.GLB_DRV_MAP_PORT ch)) else none
  | 1 => if s.bit (Fld.GLB_PRB_MAP_VALID ch) then some (32 + s.fld (Fld.GLB_PRB_MAP_PORT ch)) else none
  | _ => some (64 + ch)

/-- The converter port that an output word uses, by R483's numbering: a PLS, a JREQ, a BIAS or an RWIN. -/
def State.wordPort (s : State) (m : Micro) : Option Nat :=
  match m with
  | .pls kind ch .. => s.portOfKind kind.toNat ch.toNat
  | .jreq kind ch _ => s.portOfKind kind.toNat ch.toNat
  | .bias port .. => some (192 + port.toNat)
  | .rwin ch .. => if s.bit (Fld.GLB_RDO_MAP_VALID ch.toNat) then some (48 + s.fld (Fld.GLB_RDO_MAP_PORT ch.toNat)) else none
  | _ => none

/-- Ports that the words at some addresses name. -/
def State.portsNamed (s : State) (n : Nat) (words : List Nat) : List Nat :=
  words.filterMap fun a => (s.micro n a).bind fun m => s.wordPort m.op

/-- Ports that the handlers of a spindle's enabled vectors name (R134). -/
def State.handlerPorts (s : State) (n : Nat) : List Nat :=
  s.portsNamed n (reach (s.follow n false) walkFuel (s.vecEntries n) [])

/-- A spindle claims a drive channel, probe tone or readout channel on a port by the maps, and an FLX or BIA port by naming it (R29). -/
def State.claims (s : State) (n p : Nat) : Bool :=
  if p < 32 then (List.range 256).any fun k =>
    s.bit (Fld.GLB_DRV_MAP_VALID k) && s.fld (Fld.GLB_DRV_MAP_PORT k) == p && s.fld (Fld.GLB_DRV_MAP_SPINDLE k) == n
  else if p < 48 then (List.range 256).any fun k =>
    s.bit (Fld.GLB_PRB_MAP_VALID k) && s.fld (Fld.GLB_PRB_MAP_PORT k) + 32 == p && s.fld (Fld.GLB_PRB_MAP_SPINDLE k) == n
  else if p < 64 then (List.range 256).any fun k =>
    s.bit (Fld.GLB_RDO_MAP_VALID k) && s.fld (Fld.GLB_RDO_MAP_PORT k) + 48 == p && s.fld (Fld.GLB_RDO_MAP_SPINDLE k) == n
  else (s.portsNamed n (s.reachable n)).contains p

end Sys2Proof.Machine
end

