-- ==== Sys2Proof/Machine/CheckSpindle.lean ====
section
/-! DEFINITION. Machine/CheckSpindle.lean: the reason codes of class 0x02 (R112, R113, R138, R540): every routine of every enabled
spindle is walked with its committed state. Words that no entry reaches are not looked at (log entry 60). -/

namespace Sys2Proof.Machine

/-! ### Words -/

/-- A word whose reserved bits and field encodings are not looked at; none for a reserved opcode. -/
def State.rawWord (s : State) (n a : Nat) : Option MicroWord :=
  let w := s.storeWord n a
  (Micro.raw (w / 2 ^ 122) w).map fun op => ⟨BitVec.ofNat 4 (w / 2 ^ 118), BitVec.ofNat 1 (w / 2 ^ 117), op⟩

/-- ENT of a word. -/
def State.entAt (s : State) (n a : Nat) : Bool := s.storeWord n a / 2 ^ 117 % 2 == 1

/-- The words that may follow within a routine. -/
def State.flowFrom (s : State) (n a : Nat) : List Nat :=
  match s.rawWord n a with
  | some m => wordSucc m a false
  | none => []

/-- A word within the store that is no entry. -/
def State.inRoutine (s : State) (n a : Nat) : Bool := decide (a < 8192) && !s.entAt n a

/-- The words of a routine that may follow a word. -/
def State.routineNext (s : State) (n a : Nat) : List Nat := (s.flowFrom n a).filter (s.inRoutine n)

/-- The object of a word. -/
def wordObj (n a : Nat) : Nat := 65536 * n + a

/-- The object of a vector. -/
def vecObj (n v : Nat) : Nat := 65536 * n + 0x8000 + v

/-! ### Routines (R112): a node is an address with the committed state in which it is reached, as 2 × address + state -/

/-- The nodes that follow a node: a COMMIT whose condition is false leaves the routine uncommitted, and a second COMMIT leaves it
committed. -/
def State.nodeNext (s : State) (n x : Nat) : List Nat :=
  let a := x / 2
  let c := x % 2
  let next := s.routineNext n a
  match s.rawWord n a with
  | some m =>
    if m.op = .commit then
      (next.map fun b => 2 * b + 1) ++ (if m.cc = 0 || c == 1 then [] else next.map fun b => 2 * b)
    else next.map fun b => 2 * b + c
  | none => []

/-- The nodes of the routine that is entered at `e`. -/
def State.routine (s : State) (n e : Nat) : List Nat := reach (s.nodeNext n) (16 * 8192) [2 * e] []

/-- The entries that the END words of a routine lead to: the next word (NXT = 0) or TGT (NXT = 1). -/
def State.endsTo (s : State) (n e : Nat) : List Nat :=
  ((s.routine n e).map fun x => match s.rawWord n (x / 2) with
    | some ⟨_, _, .endw nxt t⟩ => if nxt = 0 then [x / 2 + 1] else if nxt = 1 then [t.toNat] else []
    | _ => []).flatten.filter fun a => decide (a < 8192)

/-- The entries of all routines of a spindle. -/
def State.entries (s : State) (n : Nat) : List Nat :=
  reach (s.endsTo n) walkFuel (s.fld (Fld.SPN_CTL_ENTRY n) :: s.vecEntries n) []

/-- A spindle as the check sees it: its handlers' entries, and each of its routines with its entry. -/
structure SpnView where
  n : Nat
  handlers : List Nat
  routines : List (Nat × List Nat)

/-- The view of a spindle. -/
def State.view (s : State) (n : Nat) : SpnView :=
  ⟨n, s.vecEntries n, (s.entries n).map fun e => (e, s.routine n e)⟩

/-- Every address that the spindle reaches, each once. -/
def SpnView.addrs (v : SpnView) : List Nat := ((v.routines.map fun r => r.2.map (· / 2)).flatten).eraseDups

/-- The addresses of a routine's nodes with committed state `c`. -/
def part (c : Nat) (nodes : List Nat) : List Nat := (nodes.filter fun x => x % 2 == c).map (· / 2)

/-! ### Bounded post-commit parts (R112, R113) -/

/-- The ticks of a word in the count of R113. -/
def wordTicks (m : Micro) : Nat :=
  match m with
  | .waitt _ _ t => t.toNat
  | .wts _ _ _ _ _ t => t.toNat + 1
  | .waitr _ _ t => (t.toNat * 1000 + 1998) / 1999
  | _ => 1

/-- A word that no post-commit part may hold: a backward branch other than a LOOP, or a wait with no bound in the word. -/
def badPost (m : MicroWord) (a : Nat) : Bool :=
  match m.op with
  | .loop .. => false
  | .waitt src _ _ => src == 1
  | .waitr mode _ _ => mode != 3
  | .wts _ _ _ _ _ t => t == 0 || (wordSucc m a false).any fun b => decide (b ≤ a)
  | _ => (wordSucc m a false).any fun b => decide (b ≤ a)

/-- A word that loads loop counter `k`: its SRC and count. -/
def State.loadsLoop (s : State) (n : Nat) (k : BitVec 3) (a : Nat) : Option (BitVec 1 × Nat) :=
  match s.rawWord n a with
  | some ⟨_, _, .ldlc k' src _ c⟩ => if k' = k then some (src, c.toNat) else none
  | _ => none

/-- Flow from these words reaches the LOOP at `l` with its counter `k` as it stands before them. -/
def State.keepsLoop (s : State) (n : Nat) (k : BitVec 3) (l : Nat) (from_ : List Nat) : Bool :=
  (reach (fun a => match s.loadsLoop n k a, s.rawWord n a with
    | some _, some m => if m.cc = 0 then [] else s.routineNext n a
    | _, _ => s.routineNext n a) walkFuel from_ []).contains l

/-- The largest count that an LDLC loads into the counter of the LOOP at `l`, over all loads of the post-commit part whose value reaches it;
none where a load from a register or no load at all may reach it (log entry 60). -/
def State.loopCount (s : State) (n : Nat) (post commits : List Nat) (k : BitVec 3) (l : Nat) : Option Nat :=
  let loads := post.filterMap fun a => match s.loadsLoop n k a with
    | some p => if s.keepsLoop n k l (s.routineNext n a) then some p else none
    | none => none
  if (commits.any fun a => s.keepsLoop n k l (s.routineNext n a)) || loads.any fun p => p.1 == 1 then none
  else (loads.map Prod.snd).max?

/-- The backward LOOP words of a post-commit part: address, target, and the passes of its body where they are loaded. -/
def State.backLoops (s : State) (n : Nat) (post commits : List Nat) : List (Nat × Nat × Option Nat) :=
  post.filterMap fun a => match s.rawWord n a with
    | some ⟨_, _, .loop k t⟩ => if t.toNat ≤ a then some (a, t.toNat, s.loopCount n post commits k a) else none
    | _ => none

/-- The longest ticks from each address of a list (highest first) to `goal`, or to END where there is none. A loop of the list adds
the further passes of its body at its target; `fuel` bounds how deep loops lie in one another. -/
def State.longest (s : State) (n : Nat) : Nat → List (Nat × Nat × Nat) → List Nat → Option Nat → List (Nat × Nat)
  | 0, _, _, _ => []
  | fuel + 1, loops, addrs, goal =>
    addrs.foldl (fun (tab : List (Nat × Nat)) a => match s.rawWord n a with
      | none => tab
      | some m =>
        if goal = some a then (a, wordTicks m.op) :: tab
        else
          let on := (wordSucc m a false).filterMap fun b => if a < b then tab.lookup b else none
          let on := match m.op, goal with
            | .endw .., none => 0 :: on
            | _, _ => on
          match on with
          | [] => tab
          | x :: xs =>
            let extra := (loops.filter fun l => l.2.1 == a).map fun l =>
              let inner := loops.filter fun k => (decide (a < k.2.1) || (k.2.1 == a && decide (k.1 < l.1))) && decide (k.1 ≤ l.1)
              let body := addrs.filter fun b => decide (a ≤ b) && decide (b ≤ l.1)
              (l.2.2 - 1) * ((s.longest n fuel inner body (some l.1)).lookup a).getD 0
            (a, wordTicks m.op + xs.foldl max x + extra.sum) :: tab) []

/-- The longest post-commit path from the word after a COMMIT to END, in ticks (R113). -/
def State.longestPost (s : State) (n cw : Nat) (loops : List (Nat × Nat × Nat)) : Nat :=
  let start := s.routineNext n cw
  let addrs := reach (s.routineNext n) walkFuel start []
  let down := addrs.mergeSort (fun a b => decide (b ≤ a))
  let tab := s.longest n (loops.length + 1) loops down none
  (start.map fun a => (tab.lookup a).getD 0).foldl max 0

/-! ### The codes -/

/-- What each word of a routine gives: 0x0201, 0x0202, 0x0203, 0x0205, 0x0206, 0x0207 and 0x0208. -/
def State.checkNode (s : State) (v : SpnView) (e x : Nat) : List (Nat × Nat) :=
  let n := v.n
  let a := x / 2
  let c := x % 2
  let at_ := fun (code : Nat) (b : Bool) => if b then [(code, wordObj n a)] else []
  at_ 0x0201 (s.micro n a).isNone ++
  match s.rawWord n a with
  | none => []
  | some m =>
    at_ 0x0202 (c == 0 && m.op.needsCommit) ++
    at_ 0x0205 (c == 1 && badPost m a) ++
    at_ 0x0206 ((s.flowFrom n a).any fun b => !s.inRoutine n b) ++
    match m.op with
    | .commit => at_ 0x0203 (c == 1)
    | .endw nxt t =>
      at_ 0x0203 (c == 0) ++
      at_ 0x0206 (nxt == 0 && a == 8191) ++
      at_ 0x0207 ((nxt == 0 && decide (a < 8191) && !s.entAt n (a + 1)) || (nxt == 1 && !s.entAt n t.toNat)) ++
      at_ 0x0208 ((nxt == 3) != v.handlers.contains e || (nxt == 1 && v.handlers.contains t.toNat))
    | _ => []

/-- What a whole routine gives: 0x0203 for a word reached with both counts of COMMIT, 0x0204, 0x0205 for its loops, and 0x020A. -/
def State.checkRoutine (s : State) (v : SpnView) (e : Nat) (nodes : List Nat) : List (Nat × Nat) :=
  let n := v.n
  let pre := part 0 nodes
  let post := part 1 nodes
  let commits := pre.filter fun a => match s.rawWord n a with
    | some m => m.op == .commit
    | none => false
  let loops := s.backLoops n post commits
  let badLoops := loops.filter fun l => l.2.2.isNone
  let ncops := nodes.filterMap fun x => match s.rawWord n (x / 2) with
    | some ⟨_, _, .ncop kind ch ..⟩ => some (256 * kind.toNat + ch.toNat, x / 2)
    | _ => none
  let targets := (ncops.map Prod.fst).eraseDups
  let firsts := (targets.map fun t => ((ncops.filter fun p => p.1 == t).map Prod.snd).foldl min 8192).mergeSort
  (nodes.map fun x => s.checkNode v e x).flatten ++
  ((pre.filter post.contains).map fun a => (0x0203, wordObj n a)) ++
  ((commits.filter fun a =>
      decide (4096 < s.longestPost n a (loops.map fun l => (l.1, l.2.1, l.2.2.getD 1)))).map fun a => (0x0204, wordObj n a)) ++
  (badLoops.map fun l => (0x0205, wordObj n l.1)) ++
  ((firsts.drop 16).take 1).map fun a => (0x020A, wordObj n a)

/-- A drive channel, probe tone or readout channel is assigned to the spindle by its map (R29). -/
def State.mapClaims (s : State) (n : Nat) (valid spindle : Field) : Bool := s.bit valid && s.fld spindle == n

/-- The target that a word names, where its index lies within its range: 0 to 255 drive, 256 to 511 probe, 512 to 639 FLX. -/
def Micro.target : Micro → Option Nat
  | .pls kind ch .. => named kind.toNat ch.toNat
  | .jreq kind ch _ => named kind.toNat ch.toNat
  | .ncop kind ch .. => if kind.toNat < 2 then some (256 * kind.toNat + ch.toNat) else none
  | _ => none
where
  /-- A target by KIND and CH. -/
  named (kind ch : Nat) : Option Nat :=
    if kind < 2 then some (256 * kind + ch) else if kind = 2 ∧ ch < 128 then some (512 + ch) else none

/-- A port with no channel map that a word names: FLX by its target, BIA from 640 on. -/
def Micro.freePort (m : Micro) : Option Nat :=
  match m with
  | .bias p .. => some (640 + p.toNat)
  | _ => match m.target with
    | some t => if 512 ≤ t then some t else none
    | none => none

/-- A word names a channel that its spindle does not claim by the maps (0x0209). -/
def State.unclaimed (s : State) (n : Nat) (m : Micro) : Bool :=
  match m with
  | .rddec _ ch => !s.mapClaims n (Fld.GLB_RDO_MAP_VALID ch.toNat) (Fld.GLB_RDO_MAP_SPINDLE ch.toNat)
  | .rwin ch .. => !s.mapClaims n (Fld.GLB_RDO_MAP_VALID ch.toNat) (Fld.GLB_RDO_MAP_SPINDLE ch.toNat)
  | m => match m.target with
    | some t =>
      if t < 256 then !s.mapClaims n (Fld.GLB_DRV_MAP_VALID t) (Fld.GLB_DRV_MAP_SPINDLE t)
      else if t < 512 then !s.mapClaims n (Fld.GLB_PRB_MAP_VALID (t - 256)) (Fld.GLB_PRB_MAP_SPINDLE (t - 256))
      else false
    | none => false

/-- The strand inputs that a word tests: a BRS its latch, a WTS its MASK and SEL (log entry 60). -/
def Micro.tests : Micro → List Nat
  | .brs sin _ _ => [sin.toNat]
  | .wts mask sel _ _ _ _ => sel.toNat :: (List.range 16).filter fun i => bitOf mask.toNat i
  | _ => []

/-- A strand input of a spindle has a producer. -/
def State.sinProduced (s : State) (n i : Nat) : Bool :=
  (List.range 1024).any fun k =>
    s.fld (Fld.FAB_EV_CFG_CONS k) == 0x2000 + 16 * n + i && s.fld (Fld.FAB_EV_CFG_PROD k) / 4096 != 0

/-- The vectors of a spindle: 0x0207, 0x020B and 0x020C. -/
def State.checkVectors (s : State) (n : Nat) (tested : List Nat) : List (Nat × Nat) :=
  let vs := (List.range 8).filter fun v => s.bit (Fld.SPN_VEC_EN n v)
  let src := fun v => s.fld (Fld.SPN_VEC_SRC n v)
  (vs.map fun v =>
    (if s.entAt n (s.fld (Fld.SPN_VEC_ENTRY n v)) then [] else [(0x0207, vecObj n v)]) ++
    (if 16 < src v ∨ (vs.any fun u => u != v && src u == src v) ∨ (src v < 16 ∧ tested.contains (src v)) then [(0x020B, vecObj n v)]
     else []) ++
    (if src v < 16 ∧ !s.sinProduced n (src v) then [(0x020C, vecObj n v)] else [])).flatten

/-- The words of a spindle that it reaches, with their addresses. -/
def State.wordsOf (s : State) (v : SpnView) : List (Nat × Micro) :=
  v.addrs.filterMap fun a => (s.rawWord v.n a).map fun m => (a, m.op)

/-- What one spindle gives by itself. -/
def State.checkOneSpindle (s : State) (v : SpnView) : List (Nat × Nat) :=
  let n := v.n
  let entry := s.fld (Fld.SPN_CTL_ENTRY n)
  let ws := s.wordsOf v
  (v.routines.map fun r => s.checkRoutine v r.1 r.2).flatten ++
  ((v.addrs.filter fun a => decide (1 < (v.routines.filter fun r => r.2.any fun x => x / 2 == a).length)).map fun a =>
    (0x0203, wordObj n a)) ++
  (if s.entAt n entry then [] else [(0x0207, wordObj n entry)]) ++
  ((ws.filter fun w => s.unclaimed n w.2).map fun w => (0x0209, wordObj n w.1)) ++
  s.checkVectors n (ws.map fun w => w.2.tests).flatten ++
  (ws.filter fun w => match w.2 with
    | .wts mask _ _ _ _ _ => mask == 0
    | .rwin _ _ _ len => len == 0 || decide (2048 < len.toNat)
    | _ => false).map fun w => (0x020D, wordObj n w.1)

/-- The views of all enabled spindles. -/
def State.views (s : State) : List SpnView :=
  ((List.range 64).filter fun n => s.bit (Fld.SPN_CTL_EN n)).map s.view

/-- The words that may follow in the store, across the ends of routines. -/
def State.flowOn (s : State) (n a : Nat) : List Nat :=
  match s.rawWord n a with
  | some m => (wordSucc m a true).filter fun b => decide (b < 8192)
  | none => []

/-- Every word that some enabled spindle reaches, even by a flow that 0x0206 refuses: spindle, address, operands. -/
def State.allWords (s : State) (vs : List SpnView) : List (Nat × Nat × Micro) :=
  (vs.map fun v => (reach (s.flowOn v.n) walkFuel (s.fld (Fld.SPN_CTL_ENTRY v.n) :: v.handlers) []).filterMap fun a =>
    (s.rawWord v.n a).map fun m => (v.n, a, m.op)).flatten

/-- Class 0x02 (R138). -/
def State.checkSpindles (s : State) (vs : List SpnView) : List (Nat × Nat) :=
  let ws := (vs.map fun v => (s.wordsOf v).map fun w => (v.n, w.1, w.2)).flatten
  let ports := ws.filterMap fun w => w.2.2.freePort.map fun p => (p, w.1, w.2.1)
  (vs.map s.checkOneSpindle).flatten ++
  (ports.filter fun p => ports.any fun q => q.1 == p.1 && q.2.1 != p.2.1).map fun p => (0x0209, wordObj p.2.1 p.2.2)

end Sys2Proof.Machine
end

