-- ==== Sys2Proof/Machine/CheckSynth.lean ====
section
/-! DEFINITION. Machine/CheckSynth.lean: the reason codes of class 0x03 (R28, R154, R157, R176), and of class 0x05 for the front end
(R205, R218, R220, R227) and for discrimination (R253). `ws` are the words that enabled spindles reach. -/

namespace Sys2Proof.Machine

/-- A refusal where a condition holds. -/
def refuseIf (code obj : Nat) (b : Bool) : List (Nat × Nat) := if b then [(code, obj)] else []

/-- What each index below `n` gives. -/
def eachIdx (n : Nat) (f : Nat → List (Nat × Nat)) : List (Nat × Nat) := ((List.range n).map f).flatten

/-! ### Channels and bands -/

/-- The slot of a target's map. -/
def State.tgtSlot (s : State) (t : Nat) : Nat := s.fld ⟨mapReg t, 8, 4⟩

/-- A frequency of `num / den` MHz lies in a port's band, with `margin` MHz to either side. -/
def bandHolds (lo hi : Nat) (num den margin : Nat) : Bool :=
  decide ((lo + margin) * den ≤ num) && decide (num + margin * den ≤ hi * den)

/-- A tuning word of 32 GS/s lies in an RF port's band (R142, R154). -/
def State.ftwInBand (s : State) (p ftw : Nat) : Bool :=
  bandHolds (s.fld (Fld.SYN_PORT_BAND_LO_MHZ p)) (s.fld (Fld.SYN_PORT_BAND_HI_MHZ p)) (ftw * 32000) (2 ^ 48) 0

/-- The initial tuning word of a channel. -/
def State.initFtw (s : State) (k : Nat) : Nat := s.rd64 (Reg.SYN_CH_INIT_FTW_LO k) % 2 ^ 48

/-- Channel `k` (0 to 255 drive, 256 to 511 probe): 0x0301, 0x0302 and 0x0303. -/
def State.checkChannel (s : State) (k : Nat) : List (Nat × Nat) :=
  match s.tgtPort k with
  | none => []
  | some p =>
    let first := if k < 256 then 0 else 256
    refuseIf 0x0301 k ((List.range (k - first)).any fun i =>
      s.tgtPort (first + i) == some p && s.tgtSlot (first + i) == s.tgtSlot k) ++
    if 48 ≤ p then [(0x0302, k)]
    else refuseIf 0x0302 k ((if p < 32 then p / 8 else (p - 32) / 4) != k % 256 / 64) ++
      refuseIf 0x0303 k (!s.ftwInBand p (s.initFtw k))

/-! ### Power (R157) -/

/-- The largest sum of `w` successive values of a list. -/
def maxWindow (w : Nat) (xs : List Nat) : Nat :=
  ((xs.zip (List.replicate w 0 ++ xs)).foldl (fun (acc : Nat × Nat) p =>
    let t := acc.1 + p.1 - p.2
    (t, max acc.2 t)) (0, 0)).2

/-- |e|² of an envelope word in units of 2^-30. -/
def envSquare (w : Nat) : Nat := (sgn 16 w).natAbs ^ 2 + (sgn 16 (w / 65536)).natAbs ^ 2

/-- Bytes as envelope words, |e|² of each; a rest of less than a word is none. -/
def envSquares : List Byte → List Nat
  | a :: b :: c :: d :: bs => envSquare (leNat [a, b, c, d]) :: envSquares bs
  | _ => []

/-- |e|² of the samples of a stream's source in DRAM: its bytes, or those that its blocks decode to (R189, R367). -/
def State.sourceSquares (s : State) (r : Nat) : List Nat :=
  let a := s.rd64 (Reg.STM_RV_SRC_LO r)
  let n := s.fld (Fld.STM_RV_LEN_VALUE r)
  if s.bit (Fld.STM_RV_CFG_COMPRESSED r) then
    envSquares ((List.range n).flatMap fun k => (readBlock (a + 16 * k) false [] s).1.2)
  else envSquares (s.dramBytes a (16 * n))

/-- The largest sum of |e|² over 1 µs of a roving segment that plays `n` samples of a stream, wherever it stands in the stream, in units of
2^-30: of its source in DRAM, run through again where it wraps; a host's samples, which the check cannot read, give an open value, at
most that of full scale (log entry 61). -/
def State.rovingPower (s : State) (r n : Nat) : Nat :=
  let w := min 2000 n
  if s.fld (Fld.STM_RV_CFG_SRC r) = 0 then
    let src := s.sourceSquares r
    maxWindow w (if s.bit (Fld.STM_RV_CFG_WRAP r) then src ++ (List.range w).map fun j => src.getD (j % max 1 src.length) 0 else src)
  else min (w * 2 ^ 31) (Config.rovingPower r)

/-- The largest sum of |e|² over 1 µs of a segment's passes, in units of 2^-30 (log entry 61). -/
def State.segPower (s : State) (t i : Nat) : Nat :=
  let d := s.segOf t i
  if !s.namesSeg t i || d.len == 0 then 0
  else if d.roving then s.rovingPower d.stream (if d.rep = 0xFFFF then 2000 else 4 * d.len * (d.rep + 1))
  else if 0x1800000 < 4 * d.start + 16 * d.len then 0
  else
    let pass := (List.range (4 * d.len)).map fun j => envSquare (s.sramNat (envBase + 4 * d.start + 4 * j) 4)
    let need := (2000 + 4 * d.len - 1) / (4 * d.len) + 1
    let n := if d.rep = 0xFFFF then need else min (d.rep + 1) need
    maxWindow 2000 (List.replicate n pass).flatten

/-- The term of a channel: the largest that its PLS words can start, in units of 2^-154 / 2,000. -/
def State.channelPower (s : State) (p k : Nat) (ws : List (Nat × Nat × Micro)) : Nat :=
  let xs := ws.map fun w => match w.2.2 with
    | .pls kind ch seg amp src .. =>
      if 256 * kind.toNat + ch.toNat = k ∧ kind.toNat < 2 then
        (if src = 1 then 2 ^ 30 else (sgn 16 amp.toNat).natAbs ^ 2) * s.segPower k seg.toNat
      else 0
    | _ => 0
  4 * xs.foldl max 0 * s.fld (Fld.SYN_PORT_CFG_GAIN p) ^ 2 * (s.sinc p (s.initFtw k)).natAbs ^ 2

/-- An array pair (R218). -/
def State.isArray (s : State) (a : Nat) : Bool := s.bit (Fld.RDO_ACQ_CFG_MODE a)

/-- An RF port's sum, in units of 2^-154 / 2,000: its channels, or the comb of its array pair (R157, R223). -/
def State.portPower (s : State) (p : Nat) (ws : List (Nat × Nat × Micro)) : Nat :=
  let amps := fun a => (List.range 1024).filterMap fun i =>
    if s.bit (Fld.RDO_ARR_TONE_C_EN a i) then some (s.fld (Fld.RDO_ARR_TONE_C_AMP a i)) else none
  ((s.portTgts p).map fun k => s.channelPower p k ws).sum +
    (if 32 ≤ p ∧ s.isArray (p - 32) then 2000 * s.combPower (p - 32) (amps (p - 32)) else 0)

/-- RF port `p`: 0x0305, 0x0306 and 0x0307. -/
def State.checkRfPort (s : State) (p : Nat) (ws : List (Nat × Nat × Micro)) : List (Nat × Nat) :=
  let hi := s.fld (Fld.SYN_PORT_BAND_HI_MHZ p)
  let env := fun b => (s.fld (Fld.SYN_PWR_ENV_PEAK p b), s.fld (Fld.SYN_PWR_ENV_AVG p b))
  (if s.bit (Fld.SYN_PORT_CFG_EN p) then
    refuseIf 0x0305 p (decide (hi ≤ s.fld (Fld.SYN_PORT_BAND_LO_MHZ p)) || decide (14000 < hi)) ++
    refuseIf 0x0307 p ((List.range 5).any fun b => decide ((env b).1 < (env b).2) || (env b).1 == 0)
  else []) ++
  refuseIf 0x0306 p (decide (s.fld (Fld.SYN_PWR_ENV_PEAK p s.pwrBand) * 2000 * 2 ^ 139 < s.portPower p ws))

/-! ### Flux, bias, markers and triggers -/

/-- The DC gain of a flux port's predistortion filter as a fraction (R162): (G + Σ B / (1 − A)) × Σ h. -/
def State.fluxGain (s : State) (f : Nat) : Int × Nat :=
  let sections := (List.range (s.fld (Fld.SYN_FLX_CFG_NSEC f))).foldl (fun (acc : Int × Nat) k =>
    let d : Nat := 2 ^ 32 - s.fld (Fld.SYN_FLX_IIR_A_COEF f k)
    let b := 2 * sgn 32 (s.fld (Fld.SYN_FLX_IIR_B_COEF f k))
    (acc.1 * d + b * acc.2, acc.2 * d)) (sgn 32 (s.fld (Fld.SYN_FLX_G_COEF f)), 2 ^ 30)
  let h := ((List.range 48).map fun m => sgn 24 (s.fld (Fld.SYN_FLX_FIR_COEF f m))).sum
  (sections.1 * h, sections.2 * 2 ^ 22)

/-- FLX port `f`: 0x0308. -/
def State.checkFlux (s : State) (f : Nat) : List (Nat × Nat) :=
  if !s.bit (Fld.SYN_FLX_CFG_EN f) then []
  else if 8 < s.fld (Fld.SYN_FLX_CFG_NSEC f) then [(0x0308, f)]
  else
    let (n, d) := s.fluxGain f
    refuseIf 0x0308 f (decide (2 * n < d) || decide ((2 * d : Nat) < n))

/-- BIA port `b`: 0x0309. -/
def State.checkBias (s : State) (b : Nat) : List (Nat × Nat) :=
  refuseIf 0x0309 b (s.bit (Fld.SYN_BIA_CFG_EN b) &&
    (s.fld (Fld.SYN_BIA_SLEW_CODE b) == 0 || decide (s.fld (Fld.SYN_BIA_SAFE_SLEW_CODE b) < 2622)))

/-- TRG_OUT `n`: 0x030C. An FLX port is always assigned (log entry 61). -/
def State.checkTrg (s : State) (n : Nat) : List (Nat × Nat) :=
  let kind := s.fld (Fld.SYN_TRG_CFG_KIND n)
  let ch := s.fld (Fld.SYN_TRG_CFG_CH n)
  refuseIf 0x030C n (decide (2 ≤ s.fld (Fld.SYN_TRG_CFG_SRC n)) &&
    (kind == 3 || (decide (kind < 2) && (s.tgtPort (256 * kind + ch)).isNone) || (kind == 2 && decide (128 ≤ ch))))

/-- A target's port is not enabled; an unassigned channel has none. -/
def State.portOff (s : State) (t : Nat) : Bool :=
  if 512 ≤ t then !s.bit (Fld.SYN_FLX_CFG_EN (t - 512))
  else match s.tgtPort t with
    | some p => decide (p < 48) && !s.bit (Fld.SYN_PORT_CFG_EN p)
    | none => false

/-- A word: 0x0304, 0x030A and 0x030B. -/
def State.checkOutput (s : State) (w : Nat × Nat × Micro) : List (Nat × Nat) :=
  let obj := wordObj w.1 w.2.1
  let off := match w.2.2.target with
    | some t => s.portOff t
    | none => false
  match w.2.2 with
  | .ncop kind ch setf _ _ src _ _ ftw _ =>
    refuseIf 0x030A obj off ++
    match s.tgtPort (256 * kind.toNat + ch.toNat) with
    | some p => refuseIf 0x0304 obj (decide (kind.toNat < 2) && decide (p < 48) && src == 0 && setf == 1 && !s.ftwInBand p ftw.toNat)
    | none => []
  | .pls .. => refuseIf 0x030A obj off
  | .bias port .. => refuseIf 0x030A obj (!s.bit (Fld.SYN_BIA_CFG_EN port.toNat))
  | .mrk n .. =>
    refuseIf 0x030B obj (!s.bit (Fld.SYN_MRK_CFG_VALID n.toNat) || s.fld (Fld.SYN_MRK_CFG_SPINDLE n.toNat) != w.1)
  | .trgo n .. =>
    refuseIf 0x030B obj (s.fld (Fld.SYN_TRG_CFG_SRC n.toNat) != 1 || s.fld (Fld.SYN_TRG_CFG_SPINDLE n.toNat) != w.1)
  | _ => []

/-- Class 0x03 (R176). -/
def State.checkSynth (s : State) (ws : List (Nat × Nat × Micro)) : List (Nat × Nat) :=
  eachIdx 512 s.checkChannel ++ eachIdx 48 (fun p => s.checkRfPort p ws) ++ eachIdx 128 s.checkFlux ++ eachIdx 64 s.checkBias ++
    eachIdx 32 s.checkTrg ++ (ws.map s.checkOutput).flatten

/-! ### Readout front end (R227) -/

/-- A frequency of `num / den` MHz with its margin lies in an ACQ port's band. -/
def State.acqInBand (s : State) (a num den margin : Nat) : Bool :=
  bandHolds (s.fld (Fld.RDO_ACQ_BAND_LO_MHZ a)) (s.fld (Fld.RDO_ACQ_BAND_HI_MHZ a)) num den margin

/-- Readout channel `r`: 0x0501, 0x0502, 0x0503 and 0x0505 where it is assigned, and 0x0506 for any channel. -/
def State.checkReadout (s : State) (r : Nat) : List (Nat × Nat) :=
  let follow := s.bit (Fld.RDO_CH_CFG_FOLLOW r)
  refuseIf 0x0506 r (follow && ((s.tgtPort (256 + r)).isNone || !s.bit (Fld.SYN_CH_CFG_PHASE_MODE (256 + r)))) ++
  if !s.bit (Fld.GLB_RDO_MAP_VALID r) then []
  else
    let a := s.fld (Fld.GLB_RDO_MAP_PORT r)
    let margin := if s.bit (Fld.RDO_CH_CFG_FILTER r) then 20 else 80
    let rate := if follow then 32000 else 16000
    let ftw := if follow then s.initFtw (256 + r) else s.rd64 (Reg.RDO_CH_FTW_LO r) % 2 ^ 48
    refuseIf 0x0501 r ((List.range r).any fun i => s.bit (Fld.GLB_RDO_MAP_VALID i) && s.fld (Fld.GLB_RDO_MAP_PORT i) == a &&
      s.fld (Fld.GLB_RDO_MAP_SLOT i) == s.fld (Fld.GLB_RDO_MAP_SLOT r)) ++
    if 16 ≤ a then [(0x0502, r)]
    else
      refuseIf 0x0502 r (a / 4 != r / 64) ++
      refuseIf 0x0503 r (!s.bit (Fld.RDO_ACQ_CFG_EN a) || s.isArray a) ++
      refuseIf 0x0505 r (!s.acqInBand a (ftw * rate) (2 ^ 48) margin)

/-- ACQ port `a`: 0x0504, and 0x0507, 0x0508 and 0x050A for an array pair. ATT is at most 31. -/
def State.checkAcq (s : State) (a : Nat) : List (Nat × Nat) :=
  let lo := s.fld (Fld.RDO_ACQ_BAND_LO_MHZ a)
  let hi := s.fld (Fld.RDO_ACQ_BAND_HI_MHZ a)
  let ftw := s.rd64 (Reg.RDO_ARR_BAND_LO a) % 2 ^ 48
  let prb := bandHolds (s.fld (Fld.SYN_PORT_BAND_LO_MHZ (32 + a))) (s.fld (Fld.SYN_PORT_BAND_HI_MHZ (32 + a))) (ftw * 32000) (2 ^ 48) 800
  refuseIf 0x0504 a (s.bit (Fld.RDO_ACQ_CFG_EN a) &&
    !(decide (lo < hi) && (decide (hi ≤ 8000) || (decide (8000 ≤ lo) && decide (hi ≤ 12000))))) ++
  if s.isArray a then
    refuseIf 0x0507 a (!s.bit (Fld.SYN_PORT_CFG_EN (32 + a)) || !(s.portTgts (32 + a)).isEmpty) ++
    refuseIf 0x0508 a (!s.acqInBand a (ftw * 32000) (2 ^ 48) 800 || !prb) ++
    refuseIf 0x050A a (decide (10 < s.fld (Fld.RDO_ARR_CFG_DEC a)))
  else []

/-- The tones of array pair `a`: 0x0509. -/
def State.checkTones (s : State) (a : Nat) : List (Nat × Nat) :=
  if !s.isArray a then []
  else
    let off := fun i => sgn 32 (s.fld (Fld.RDO_ARR_TONE_F_OFF a i))
    let on := s.enabledTones a
    let bins := on.map fun i => toneBin (off i)
    (on.filter fun i => !(offInBand (off i) && nearBin (off i)) || decide (1 < bins.count (toneBin (off i)))).map fun i =>
      (0x0509, 1024 * a + i)

/-! ### Discrimination (R253) -/

/-- Set `k` of channel `r`, which some RWIN names: 0x0520 to 0x0523, on the staging copy (log entry 61). -/
def State.checkSet (s : State) (r k : Nat) : List (Nat × Nat) :=
  let obj := 2 * r + k
  let klen := s.fld (Fld.DSC_STG_K_CFG_KLEN r k)
  let n := (klen + 7) / 8
  let pbase := s.fld (Fld.DSC_STG_P_BASE_PBASE r k)
  let cls := s.fld (Fld.DSC_STG_K_CFG_CLS_EN r k)
  refuseIf 0x0520 obj (klen == 0 || decide (2048 < klen) || decide (917504 < s.fld (Fld.DSC_STG_K_BASE_KBASE r k) + klen)) ++
  refuseIf 0x0521 obj (decide (131072 < pbase + n)) ++
  refuseIf 0x0522 obj ((List.range (min n (131072 - pbase))).any fun e =>
    s.sramNat (0x3780000 + 4 * (pbase + e)) 2 == 0 || s.sramNat (0x3780002 + 4 * (pbase + e)) 2 == 0) ++
  refuseIf 0x0523 obj (decide (((List.range 4).filter fun c => bitOf cls c).length < 2))

/-- Class 0x05 for discrimination: the sets, channels and words of every RWIN. -/
def State.checkDiscr (s : State) (ws : List (Nat × Nat × Micro)) : List (Nat × Nat) :=
  let named := ws.filterMap fun w => match w.2.2 with
    | .rwin ch kset _ len => some (wordObj w.1 w.2.1, ch.toNat, kset.toNat, len.toNat)
    | _ => none
  (((named.map fun x => (x.2.1, x.2.2.1)).eraseDups).map fun x => s.checkSet x.1 x.2).flatten ++
  (named.map fun x =>
    let r := x.2.1
    let a := s.fld (Fld.GLB_RDO_MAP_PORT r)
    refuseIf 0x0524 r (s.fld (Fld.DSC_CH_CFG_SETTLE_POL r) == 3) ++
    refuseIf 0x0525 x.1 (decide (s.fld (Fld.DSC_STG_K_CFG_KLEN r x.2.2.1) < x.2.2.2)) ++
    refuseIf 0x0526 x.1 (s.bit (Fld.GLB_RDO_MAP_VALID r) && decide (a < 16) && s.isArray a)).flatten

/-- Class 0x05. -/
def State.checkRead (s : State) (ws : List (Nat × Nat × Micro)) : List (Nat × Nat) :=
  eachIdx 256 s.checkReadout ++ eachIdx 16 s.checkAcq ++ eachIdx 16 s.checkTones ++ s.checkDiscr ws

end Sys2Proof.Machine
end

