-- ==== Sys2Proof/Machine/CheckFabric.lean ====
section
/-! DEFINITION. Machine/CheckFabric.lean: the reason codes of class 0x06 (R267, R282): strands, ply cells, tables, trigger inputs and
export groups (log entry 63). -/

namespace Sys2Proof.Machine

/-- Indices below this are in the range of a producer type (R256). -/
def prodRange : List Nat := [1, 2048, 512, 512, 16, 512, 16, 1024]

/-- Indices below this are in the range of a consumer type (R256). -/
def consRange : List Nat := [1, 2048, 1024, 256, 16, 1024, 128, 32]

/-- A PROD code names a producer: its type is not reserved and its index lies in range. -/
def prodValid (c : Nat) : Bool :=
  decide (c % 4096 < prodRange.getD (c / 4096) 0) && !(c / 4096 == 1 && c % 8 == 7)

/-- A CONS code names a consumer. -/
def consValid (c : Nat) : Bool := decide (c % 4096 < consRange.getD (c / 4096) 0)

/-- An import group has an importing entry of CSC_FWD. -/
def State.imported (s : State) (g : Nat) : Bool :=
  (List.range 4096).any fun e => s.bit (Fld.CSC_FWD_IMP_EN e) && s.fld (Fld.CSC_FWD_IMPORT e) == g

/-- A producer exists in the configuration (0x0603). -/
def State.prodExists (s : State) (c : Nat) : Bool :=
  let i := c % 4096
  match c / 4096 with
  | 1 => s.bit (Fld.GLB_RDO_MAP_VALID (i / 8))
  | 3 => s.bit (Fld.FAB_CT_CFG_EN (i / 32))
  | 4 => s.bit (Fld.FAB_CT_CFG_EN i)
  | 5 => s.bit (Fld.SPN_CTL_EN (i / 8))
  | 6 => s.bit (Fld.FAB_TRG_CFG_EN i)
  | 7 => s.imported (i / 16)
  | _ => true

/-- A consumer exists in the configuration (0x0603). -/
def State.consExists (s : State) (c : Nat) : Bool :=
  let i := c % 4096
  match c / 4096 with
  | 2 => s.bit (Fld.SPN_CTL_EN (i / 16))
  | 3 => s.bit (Fld.FAB_CT_CFG_EN (i / 16))
  | 4 => s.bit (Fld.FAB_CT_CFG_EN i)
  | 5 => s.bit (Fld.CSC_EXP_VALID (i / 16))
  | 6 => s.bit (Fld.CSC_EXP_VALID (i / 2))
  | 7 => s.bit (Fld.BOB_CFG_EN i)
  | _ => true

/-- The strands: index, PROD, CONS. -/
def State.strands (s : State) : List (Nat × Nat × Nat) :=
  (List.range 1024).map fun k => (k, s.fld (Fld.FAB_EV_CFG_PROD k), s.fld (Fld.FAB_EV_CFG_CONS k))

/-- Strand `k`: 0x0601, 0x0602 and 0x0603. -/
def State.checkStrand (s : State) (k : Nat) : List (Nat × Nat) :=
  let p := s.fld (Fld.FAB_EV_CFG_PROD k)
  let c := s.fld (Fld.FAB_EV_CFG_CONS k)
  refuseIf 0x0601 k ((p / 4096 == 0) != (c / 4096 == 0)) ++
  refuseIf 0x0602 k (!prodValid p || !consValid c) ++
  refuseIf 0x0603 k ((prodValid p && !s.prodExists p) || (consValid c && !s.consExists c))

/-! ### Cycles (R267): a node is a ply cell, or 512 + a table -/

/-- The node of the fabric graph that drives a strand. -/
def prodNode (c : Nat) : Option Nat :=
  match c / 4096 with
  | 2 => some (c % 4096)
  | 3 => some (512 + c % 4096 / 32)
  | 4 => some (512 + c % 4096)
  | _ => none

/-- The node of the fabric graph that a strand drives. -/
def consNode (c : Nat) : Option Nat :=
  match c / 4096 with
  | 1 => some (c % 4096 / 4)
  | 3 => some (512 + c % 4096 / 16)
  | 4 => some (512 + c % 4096)
  | _ => none

/-- The edges of the fabric graph without the ply cells that have FF_EN = 1: strand, from, to. -/
def State.fabricEdges (s : State) (st : List (Nat × Nat × Nat)) : List (Nat × Nat × Nat) :=
  let free := fun (n : Nat) => decide (512 ≤ n) || !s.bit (Fld.FAB_PLY_CFG_FF_EN n)
  st.filterMap fun x => match prodNode x.2.1, consNode x.2.2 with
    | some u, some v => if prodValid x.2.1 && consValid x.2.2 && free u && free v then some (x.1, u, v) else none
    | _, _ => none

/-- A strand is the lowest of some cycle: its consumer leads back to its producer by strands of no lower index. -/
def lowestOfCycle (es : List (Nat × Nat × Nat)) (e : Nat × Nat × Nat) : Bool :=
  let up := es.filter fun x => decide (e.1 ≤ x.1)
  (reach (fun n => (up.filter fun x => x.2.1 == n).map fun x => x.2.2) (2 * es.length + 2) [e.2.2] []).contains e.2.1

/-- Ply cell `n`: 0x0605. -/
def State.checkPly (s : State) (st : List (Nat × Nat × Nat)) (n : Nat) : List (Nat × Nat) :=
  let clears := ((List.range 4).filter fun i => s.plyMode n i == 3).length
  let fb := s.bit (Fld.FAB_PLY_CFG_FB n)
  refuseIf 0x0605 n (s.fld (Fld.FAB_PLY_CFG_OUT_MODE n) == 3 || decide (1 < clears) ||
    (fb && (!s.bit (Fld.FAB_PLY_CFG_FF_EN n) || st.any fun x => x.2.2 == consPly n 3)))

/-- TRG_IN `i`: 0x0607. -/
def State.checkTrgIn (s : State) (i : Nat) : List (Nat × Nat) :=
  let lim := s.fld (Fld.FAB_TRG_CFG_RATE_LIM i)
  refuseIf 0x0607 i (s.bit (Fld.FAB_TRG_CFG_EN i) && (s.fld (Fld.FAB_TRG_CFG_EDGE i) == 3 ||
    (lim != 0 && decide (lim ≤ s.fld (Fld.FAB_TRG_CFG_MIN_PULSE i)))))

/-- Class 0x06. -/
def State.checkFabric (s : State) : List (Nat × Nat) :=
  let st := s.strands
  let es := s.fabricEdges st
  let named := fun (c : Nat) => st.any fun x => x.2.2 == c
  eachIdx 1024 s.checkStrand ++
  (es.filter (lowestOfCycle es)).map (fun e => (0x0604, e.1)) ++
  eachIdx 512 (s.checkPly st) ++
  eachIdx 16 (fun t => refuseIf 0x0606 t (s.bit (Fld.FAB_CT_CFG_EN t) && !named (0x4000 + t))) ++
  eachIdx 16 s.checkTrgIn ++
  eachIdx 64 fun g => refuseIf 0x0608 g (named (0x6000 + 2 * g + 1) && !named (0x6000 + 2 * g) && !s.bit (Fld.FAB_GRP_CFG_INIT_EN g))

end Sys2Proof.Machine
end

