-- ==== Sys2Proof/Machine/CheckCascade.lean ====
section
/-! DEFINITION. Machine/CheckCascade.lean: the reason codes of class 0x07 (R283 to R286, R319): topology, roles, ports, export
groups and forwarding (log entry 64). -/

namespace Sys2Proof.Machine

/-- The dimensions suit the topology (R283). -/
def dimsFit (topo x y : Nat) : Bool :=
  match topo with
  | 0 => true
  | 1 => decide (2 ≤ x) && decide (x ≤ 64)
  | 2 => decide (3 ≤ x) && decide (x ≤ 64)
  | _ => decide (3 ≤ x) && decide (x ≤ 8) && decide (3 ≤ y) && decide (y ≤ 8)

/-- The devices of a cascade (R283). -/
def deviceCount (topo x y : Nat) : Nat :=
  match topo with
  | 0 => 1
  | 3 => x * y
  | _ => x

/-- The diameter (R283). -/
def diameter (topo x y : Nat) : Nat :=
  match topo with
  | 0 => 0
  | 1 => x - 1
  | 2 => x / 2
  | _ => x / 2 + y / 2

/-- The neighbour of device `d` on port `p`; none where the topology leaves the port unused (R283, R284). -/
def neighbour (topo x y d p : Nat) : Option Nat :=
  match topo with
  | 1 =>
    if p = 0 then (if 0 < d then some (d - 1) else none)
    else if p = 1 ∧ d + 1 < x then some (d + 1)
    else none
  | 2 => if p = 0 then some ((d + x - 1) % x) else if p = 1 then some ((d + 1) % x) else none
  | 3 =>
    let i := d % x
    let j := d / x
    match p with
    | 0 => some (j * x + (i + x - 1) % x)
    | 1 => some (j * x + (i + 1) % x)
    | 2 => some ((j + y - 1) % y * x + i)
    | _ => some ((j + 1) % y * x + i)
  | _ => none

/-- The roles of CSC_CFG.ROLE (R285). -/
def roleMaster : Nat := 1
def roleSlave : Nat := 2

/-- Device-level codes: 0x0701 to 0x0704, 0x0706 and 0x0709. -/
def State.checkDevice (s : State) : List (Nat × Nat) :=
  let role := s.fld Fld.CSC_CFG_ROLE
  let topo := s.fld Fld.CSC_CFG_TOPO
  let x := s.fld Fld.CSC_DIM_X
  let y := s.fld Fld.CSC_DIM_Y
  let n := deviceCount topo x y
  let dia := diameter topo x y
  let dev := s.fld Fld.CSC_CFG_DEV_ID
  let mid := s.fld Fld.CSC_CFG_MASTER_ID
  let depth := s.fld Fld.CSC_CFG_DEPTH
  let up := s.fld Fld.CSC_DIM_UP_PORT
  let ref := s.fld Fld.GLB_CLK_CTL_REF_SRC
  let strap := s.bit Fld.CSC_STATUS_STRAP
  refuseIf 0x0701 0 (role == 3 || (role == roleMaster && !strap) || (role == roleSlave && strap)) ++
  refuseIf 0x0702 0 ((role == 0) != (topo == 0) || !dimsFit topo x y) ++
  refuseIf 0x0703 0 (decide (n ≤ dev) || decide (n ≤ mid) || (role == roleMaster && mid != dev) || (role == roleSlave && mid == dev)) ++
  refuseIf 0x0704 0 ((role == roleMaster && depth != 0) ||
    (role == roleSlave && (depth == 0 || decide (dia < depth) || !s.bit (Fld.CSC_TW_CFG_EN up)))) ++
  refuseIf 0x0706 0 ((role == roleSlave && decide (4 ≤ ref) && ref != 4 + up) || (role == roleMaster && decide (4 ≤ ref))) ++
  refuseIf 0x0709 0 (role == roleMaster && decide (s.fld Fld.CSC_RATE_LEAD_TICKS < 75 * dia + 16))

/-- Twist port `p`: 0x0705. -/
def State.checkTwist (s : State) (p : Nat) : List (Nat × Nat) :=
  let nb := neighbour (s.fld Fld.CSC_CFG_TOPO) (s.fld Fld.CSC_DIM_X) (s.fld Fld.CSC_DIM_Y) (s.fld Fld.CSC_CFG_DEV_ID) p
  let on := s.bit (Fld.CSC_TW_CFG_EN p)
  refuseIf 0x0705 p (match nb with
    | none => on
    | some d => !on || s.fld (Fld.CSC_TW_CFG_NEIGH_ID p) != d)

/-- Forwarding entry `e`: 0x0708. `all` are the entries that import: entry and group. -/
def State.checkForward (s : State) (all : List (Nat × Nat)) (e : Nat) : List (Nat × Nat) :=
  let fwd := s.fld (Fld.CSC_FWD_FWD e)
  let imp := s.bit (Fld.CSC_FWD_IMP_EN e)
  refuseIf 0x0708 e (((List.range 4).any fun p => bitOf fwd p && !s.bit (Fld.CSC_TW_CFG_EN p)) ||
    ((imp || fwd != 0) && e / 64 == s.fld Fld.CSC_CFG_DEV_ID) ||
    (imp && all.any fun q => q.1 != e && q.2 == s.fld (Fld.CSC_FWD_IMPORT e)))

/-- Class 0x07. -/
def State.checkCascade (s : State) : List (Nat × Nat) :=
  let st := s.strands
  let groups := st.filterMap fun x =>
    let i := x.2.2 % 4096
    if x.2.2 / 4096 = 5 then some (i / 16) else if x.2.2 / 4096 = 6 then some (i / 2) else none
  let slots := st.filterMap fun x => if x.2.1 / 4096 = 7 ∧ prodValid x.2.1 then some (x.2.1 % 4096 / 16) else none
  let imports := (List.range 4096).filterMap fun e =>
    if s.bit (Fld.CSC_FWD_IMP_EN e) then some (e, s.fld (Fld.CSC_FWD_IMPORT e)) else none
  let off := fun (p : Nat) => !s.bit (Fld.CSC_TW_CFG_EN p)
  s.checkDevice ++ eachIdx 4 s.checkTwist ++
  eachIdx 64 (fun g => refuseIf 0x0707 g (groups.contains g && (!s.bit (Fld.CSC_EXP_VALID g) || off (s.fld (Fld.CSC_EXP_PORT g))))) ++
  eachIdx 4096 (s.checkForward imports) ++
  refuseIf 0x0708 0 (slots.any fun g => !imports.any fun q => q.2 == g) ++
  refuseIf 0x070A 0 (s.bit Fld.CSC_CFG_RRA_EN && s.fld Fld.CSC_CFG_ROLE == roleMaster) ++
  eachIdx 64 fun d => refuseIf 0x070A d (s.bit (Fld.CSC_ROUTE_VALID d) && off (s.fld (Fld.CSC_ROUTE_PORT d)))

end Sys2Proof.Machine
end

