-- ==== Sys2Proof/Machine/CheckStream.lean ====
section
/-! DEFINITION. Machine/CheckStream.lean: the reason codes of class 0x04 (R199), class 0x09 (R377) and class 0x0A (R406): segment
tables, roving streams, the memory system and the host's queues (log entry 62). -/

namespace Sys2Proof.Machine

/-- The size of the envelope store region in bytes (R350). -/
def envSize : Nat := 0x1800000

/-- An enabled roving stream. -/
def State.rvOn (s : State) (r : Nat) : Bool := s.bit (Fld.STM_RV_CFG_EN r)

/-- The enabled streams. -/
def State.rvAll (s : State) : List Nat := (List.range 64).filter s.rvOn

/-- A stream is compressed. -/
def State.rvComp (s : State) (r : Nat) : Bool := s.bit (Fld.STM_RV_CFG_COMPRESSED r)

/-- The enabled streams with a source: 0 DRAM, 1 host (R190). -/
def State.rvFrom (s : State) (src : Nat) : List Nat := s.rvAll.filter fun r => s.fld (Fld.STM_RV_CFG_SRC r) == src

/-- The bytes of a ring within the region, from the first to the one after the last. -/
def State.rvRing (s : State) (r : Nat) : Nat × Nat :=
  (4096 * s.fld (Fld.STM_RV_RING_BASE r), 4096 * s.fld (Fld.STM_RV_RING_BASE r) + s.ringSize r)

/-- Bytes [a, b) of the region lie beyond it, or overlap an enabled ring other than `own`'s. -/
def State.envBad (s : State) (a b own : Nat) : Bool :=
  decide (envSize < b) || s.rvAll.any fun r => r != own && decide (a < (s.rvRing r).2) && decide ((s.rvRing r).1 < b)

/-! ### Descriptors -/

/-- The descriptors of a target that lie within the region: index and the 16 bytes as a number. -/
def State.descriptors (s : State) (t : Nat) : List (Nat × Nat) :=
  let base := s.fld (Fld.STM_TGT_TBL_BASE t)
  (List.range (min (s.fld (Fld.STM_TGT_CNT_COUNT t)) (envSize / 16 - base))).map fun i => (i, s.segRaw t i)

/-- The roving descriptors of all targets: target, index, stream. -/
def State.rovings (s : State) : List (Nat × Nat × Nat) :=
  ((List.range 640).map fun t => (s.descriptors t).filterMap fun p =>
    if (Seg.ofRaw p.2).roving then some (t, p.1, (Seg.ofRaw p.2).stream) else none).flatten

/-- A reserved bit of a descriptor is not 0 (R177). -/
def descReserved (d : Nat) : Bool :=
  bitsOf d 31 23 != 0 || bitsOf d 87 82 != 0 || bitsOf d 95 94 != 0 || bitsOf d 127 96 != 0 ||
    (if bitOf d 80 then bitsOf d 22 0 != 0 else bitsOf d 93 88 != 0)

/-- Descriptor `i` of target `t`: 0x0402 to 0x0405. -/
def State.checkDescriptor (s : State) (rov : List (Nat × Nat × Nat)) (t i d : Nat) : List (Nat × Nat) :=
  let x := Seg.ofRaw d
  let obj := 65536 * t + i
  let cnt := s.fld (Fld.STM_TGT_CNT_COUNT t)
  refuseIf 0x0402 obj (x.len == 0 || descReserved d || (x.rep == 0xFFFF && x.finalOnly)) ++
  refuseIf 0x0403 obj (!x.roving && s.envBad (4 * x.start) (4 * x.start + (if t < 512 then 16 else 8) * x.len) 64) ++
  refuseIf 0x0404 obj (x.next != 0xFFFF && decide (cnt ≤ x.next)) ++
  refuseIf 0x0405 obj (x.roving && (!s.rvOn x.stream || rov.any fun q => q.2.2 == x.stream && q.1 != t))

/-- Target `t`: 0x0401 and its descriptors. -/
def State.checkTarget (s : State) (rov : List (Nat × Nat × Nat)) (t : Nat) : List (Nat × Nat) :=
  let cnt := s.fld (Fld.STM_TGT_CNT_COUNT t)
  let a := 16 * s.fld (Fld.STM_TGT_TBL_BASE t)
  refuseIf 0x0401 t (cnt != 0 && s.envBad a (a + 16 * cnt) 64) ++
    ((s.descriptors t).map fun p => s.checkDescriptor rov t p.1 p.2).flatten

/-- A PLS or JREQ: 0x0404. -/
def State.checkSegWord (s : State) (w : Nat × Nat × Micro) : List (Nat × Nat) :=
  let bad := fun (seg : Nat) => match w.2.2.target with
    | some t => decide (s.fld (Fld.STM_TGT_CNT_COUNT t) ≤ seg)
    | none => false
  match w.2.2 with
  | .pls _ _ seg .. => refuseIf 0x0404 (wordObj w.1 w.2.1) (bad seg.toNat)
  | .jreq _ _ seg => refuseIf 0x0404 (wordObj w.1 w.2.1) (bad seg.toNat)
  | _ => []

/-! ### Streams -/

/-- The full rate of a stream in GB/s (R193): 8 on an RF target, 4 on an FLX target, 0 where no descriptor names it. -/
def rvRate (rov : List (Nat × Nat × Nat)) (r : Nat) : Nat :=
  let ts := (rov.filter fun q => q.2.2 == r).map Prod.fst
  if ts.any fun t => decide (t < 512) then 8 else if ts.isEmpty then 0 else 4

/-- The highest of some streams. -/
def highest (rs : List Nat) : Nat := rs.foldl max 0

/-- The summed rate of some streams is above a limit: the object is the highest of them. -/
def rateAbove (rov : List (Nat × Nat × Nat)) (code : Nat) (rs : List Nat) (num den limit : Nat) : List (Nat × Nat) :=
  let on := rs.filter fun r => rvRate rov r != 0
  refuseIf code (highest on) (decide (limit * den < (on.map (rvRate rov)).sum * num))

/-- An enabled stream: 0x0406, 0x0407 and 0x040A. -/
def State.checkStreamOf (s : State) (rov : List (Nat × Nat × Nat)) (r : Nat) : List (Nat × Nat) :=
  let src := s.fld (Fld.STM_RV_CFG_SRC r)
  let low := 256 * s.fld (Fld.STM_RV_WM_LOW r)
  let prime := 256 * s.fld (Fld.STM_RV_WM_PRIME r)
  let ring := s.rvRing r
  let l := if s.rvComp r then 4000 else 1000
  let slack := if s.rvComp r then 131072 else 16384
  refuseIf 0x0406 r (decide (2 ≤ src) || s.ringSize r == 0 || s.envBad ring.1 ring.2 r || decide (prime < low) ||
    decide (s.ringSize r < prime) || s.fld (Fld.STM_RV_LEN_VALUE r) == 0) ++
  refuseIf 0x0407 r (src == 0 && (decide (low < rvRate rov r * l) || decide (s.ringSize r < low + slack))) ++
  refuseIf 0x040A r (s.fld (Fld.STM_RV_STATUS_STATE r) != rvReady)

/-- Class 0x04 (R199). -/
def State.checkStreams (s : State) (ws : List (Nat × Nat × Micro)) : List (Nat × Nat) :=
  let rov := s.rovings
  eachIdx 640 (s.checkTarget rov) ++ (ws.map s.checkSegWord).flatten ++ (s.rvAll.map (s.checkStreamOf rov)).flatten ++
    rateAbove rov 0x0408 (s.rvFrom 0) 1 1 (s.fld Fld.MEM_RES_C0) ++
    rateAbove rov 0x0409 (s.rvAll.filter s.rvComp) 1 1 96

/-! ### Memory and drafter (R377) -/

/-- The DRAM bytes of a stream's source, each range from its first byte to the one after its last: the range of R190, and for a
compressed source every block that its index names (R372, R373). -/
def State.sourceSpans (s : State) (r : Nat) : List (Nat × Nat) :=
  let a := s.rd64 (Reg.STM_RV_SRC_LO r)
  let len := s.fld (Fld.STM_RV_LEN_VALUE r)
  (a, a + 16 * len) :: if s.rvComp r then (List.range len).map fun k =>
      let e := a + 16 * k
      let b := (e + s.dramNat e 8) % 2 ^ 64
      (b, b + 16 + s.dramNat (b + 4) 4)
    else []

/-- Some byte of the source of a DRAM-sourced stream lies beyond the DRAM. -/
def State.sourceBeyond (s : State) (r : Nat) : Bool := (s.sourceSpans r).any fun x => decide (2 ^ 37 < x.2)

/-- Class 0x09. -/
def State.checkMemory (s : State) : List (Nat × Nat) :=
  let dram := (s.rvFrom 0).filter s.rvComp
  let host := (s.rvFrom 1).filter s.rvComp
  let excess := (if 4 < dram.length then dram else []) ++ (if 4 ≤ dram.length then host else [])
  refuseIf 0x0901 0 (decide (2048 < s.fld Fld.MEM_RES_C0 + s.fld Fld.MEM_RES_C1)) ++
  refuseIf 0x0902 (highest excess) (!excess.isEmpty) ++
  ((s.rvFrom 0).filter s.sourceBeyond).map (fun r => (0x0903, r)) ++
  refuseIf 0x0904 0 ((s.fld Fld.MEM_ARB_W1 == 0 && s.fld Fld.MEM_ARB_W2 == 0 && s.fld Fld.MEM_ARB_W3 == 0) ||
    decide (s.fld Fld.MEM_ARB2_C1_GUARD < 1000))

/-! ### Host queues (R406) -/

/-- A link speed in units of 0.5 GT/s, by the code of HIF_LINK_STATUS.SPEED. -/
def linkSpeed (code : Nat) : Nat :=
  match code with
  | 1 => 5
  | 2 => 10
  | 3 => 16
  | 4 => 32
  | 5 => 64
  | 6 => 128
  | _ => 0

/-- Class 0x0A. -/
def State.checkHost (s : State) : List (Nat × Nat) :=
  let host := s.rvFrom 1
  let names := fun q => host.filter fun r => s.fld (Fld.STM_RV_CFG_QUEUE r) == q
  (host.filter fun r =>
    let q := s.fld (Fld.STM_RV_CFG_QUEUE r)
    !s.bit (Fld.HIF_Q_CFG_EN q) || !s.bit (Fld.HIF_Q_CFG_MODE q)).map (fun r => (0x0A01, r)) ++
  eachIdx 64 (fun q =>
    let stream := s.bit (Fld.HIF_Q_CFG_MODE q)
    let log := s.fld (Fld.HIF_Q_CFG_SIZE_LOG q)
    refuseIf 0x0A02 q (decide (2 ≤ (names q).length)) ++
    refuseIf 0x0A03 q (stream && (decide (32 ≤ q) || (names q).isEmpty)) ++
    refuseIf 0x0A05 q (s.bit (Fld.HIF_Q_CFG_EN q) && !stream && (decide (log < 4) || decide (12 < log)))) ++
  rateAbove s.rovings 0x0A04 host (128 * 16) 1 (110 * linkSpeed (s.fld Fld.HIF_LINK_STATUS_SPEED) * s.fld Fld.HIF_LINK_STATUS_WIDTH)

end Sys2Proof.Machine
end

