-- ==== Sys2Proof/Machine/CheckBobbin.lean ====
section
/-! DEFINITION. Machine/CheckBobbin.lean: the reason codes of class 0x08 (R320, R349), for the enabled bobbins (log entry 65). -/

namespace Sys2Proof.Machine

/-- A record source: kinds 0x4 to 0x9 (R320). -/
def recordKind (k : Nat) : Bool := decide (4 ≤ k) && decide (k ≤ 9)

/-- KIND is reserved, or BASE or N lies outside R320. -/
def sourceOutside (kind base n : Nat) : Bool :=
  match kind with
  | 0 => false
  | 1 => decide (16 ≤ base) || n != 1
  | 2 => decide (16 < n) || decide (256 < base + n)
  | 3 => decide (1024 < base % 1024 + n)
  | 4 => decide (256 < base + n)
  | 5 => decide (256 < base + n)
  | 6 => decide (1024 < base + 32) || n != 32
  | 7 => decide (256 < base + n)
  | 8 => decide (16 < n) || decide (256 < base + n)
  | 9 => decide (1024 < base % 1024 + n)
  | _ => true

/-- Channel `r` is unassigned. -/
def State.rdoUnassigned (s : State) (r : Nat) : Bool := !s.bit (Fld.GLB_RDO_MAP_VALID r)

/-- Channel `r` gives no channel samples: it is unassigned, or its ACQ port is disabled or an array pair's. -/
def State.noSamples (s : State) (r : Nat) : Bool :=
  let a := s.fld (Fld.GLB_RDO_MAP_PORT r)
  s.rdoUnassigned r || decide (16 ≤ a) || !s.bit (Fld.RDO_ACQ_CFG_EN a) || s.isArray a

/-- Something of the source of a bobbin does not exist (0x0802): among its channels, tones and ports that the part has at all. -/
def State.sourceAbsent (s : State) (kind base n : Nat) : Bool :=
  let chans := ((List.range n).map (base + ·)).filter (· < 256)
  let pair := base / 1024 % 16
  match kind with
  | 1 => decide (base < 16) && (!s.bit (Fld.RDO_ACQ_CFG_EN base) || s.isArray base)
  | 2 => chans.any s.noSamples
  | 8 => chans.any s.noSamples
  | 3 => tones pair
  | 9 => tones pair
  | 4 => chans.any s.rdoUnassigned
  | 5 => chans.any s.rdoUnassigned
  | 7 => chans.any s.rdoUnassigned
  | _ => false
where
  /-- Some tone of the source is disabled. -/
  tones (pair : Nat) : Bool :=
    !s.bit (Fld.RDO_ACQ_CFG_EN pair) || !s.isArray pair ||
      (List.range n).any fun i => decide (base % 1024 + i < 1024) && !s.bit (Fld.RDO_ARR_TONE_C_EN pair (base % 1024 + i))

/-- The spill area of a bobbin, from its first byte to the one after its last (R326). -/
def State.spillSpan (s : State) (b : Nat) : Nat × Nat :=
  let a := s.rd64 (Reg.BOB_SPILL_BASE_LO b)
  (a, a + s.spillArea b)

/-- Two ranges share a byte. -/
def spansMeet (x y : Nat × Nat) : Bool := decide (x.1 < y.2) && decide (y.1 < x.2) && decide (x.1 < x.2) && decide (y.1 < y.2)

/-- The enabled bobbins that spill. -/
def State.spillers (s : State) : List Nat := (List.range 32).filter fun b => s.bit (Fld.BOB_CFG_EN b) && s.spills b

/-- The full rate of a source (R320) in units of 1/1,024 byte per second. -/
def State.exactRate (s : State) (b : Nat) : Nat :=
  if s.fld (Fld.BOB_SRC_KIND b) = 3 then
    4 * (s.fld (Fld.BOB_SRC_NM1 b) + 1) * 1953125 * 1024 / s.decim (s.fld (Fld.BOB_SRC_BASE b) / 1024)
  else 1024 * s.fullRate b

/-- Condition `c` of bobbin `b`: 0x0807. -/
def State.checkCondition (s : State) (b c : Nat) : List (Nat × Nat) :=
  let ty := s.fld (Fld.BOB_TC_CFG_TYPE b c)
  let sel := s.fld (Fld.BOB_TC_CFG_SEL b c)
  let kind := s.fld (Fld.BOB_SRC_KIND b)
  let level := ty == 4 || ty == 5
  refuseIf 0x0807 (4 * b + c) (decide (6 ≤ ty) ||
    (level && (recordKind kind || ((kind == 2 || kind == 3) && decide (s.fld (Fld.BOB_SRC_NM1 b) < sel / 2)))) ||
    (ty == 3 && s.rdoUnassigned (sel % 256)))

/-- An entry of the mask table that a capture can use has LO above HI (R343). -/
def State.maskCrossed (s : State) (b : Nat) : Bool :=
  let post := s.fld (Fld.BOB_POST_COUNT b)
  let last := if post = 0 then 4095 else min 4095 ((post - 1) / 2 ^ s.fld (Fld.BOB_MASK_CFG_SHIFT b))
  (List.range (last + 1)).any fun j => decide (sgn 16 (s.fld (Fld.BOB_MASK_HI b j)) < sgn 16 (s.fld (Fld.BOB_MASK_LO b j)))

/-- Enabled bobbin `b`: 0x0801 to 0x0805, 0x0807 and 0x0808. -/
def State.checkBobbin (s : State) (b : Nat) : List (Nat × Nat) :=
  if !s.bit (Fld.BOB_CFG_EN b) then []
  else
    let kind := s.fld (Fld.BOB_SRC_KIND b)
    let base := s.fld (Fld.BOB_SRC_BASE b)
    let n := s.fld (Fld.BOB_SRC_NM1 b) + 1
    let area := s.spillSpan b
    let others := (s.spillers.filter (· != b)).map s.spillSpan ++ ((s.rvFrom 0).map s.sourceSpans).flatten
    refuseIf 0x0801 b (sourceOutside kind base n) ++
    refuseIf 0x0802 b (s.sourceAbsent kind base n) ++
    refuseIf 0x0803 b (s.fld (Fld.BOB_CFG_BUSY_POL b) == 3 ||
      (s.bit (Fld.BOB_CFG_AUTO b) && s.fld (Fld.BOB_AUTO_TMO_COUNT b) % 65536 == 0)) ++
    refuseIf 0x0804 b (decide (524288 < s.fld (Fld.BOB_PRE_COUNT b) * s.itemSize b)) ++
    refuseIf 0x0805 b (s.spills b && (s.spillArea b == 0 || decide (2 ^ 37 < area.2) || others.any (spansMeet area))) ++
    eachIdx 4 (s.checkCondition b) ++
    refuseIf 0x0808 b (s.bit (Fld.BOB_MASK_CFG_EN b) && (recordKind kind || s.maskCrossed b))

/-- Class 0x08. -/
def State.checkBobbins (s : State) : List (Nat × Nat) :=
  let on := s.spillers.filter fun b => s.exactRate b != 0
  eachIdx 32 s.checkBobbin ++
    refuseIf 0x0806 (highest on) (decide (1024 * 1000000000 * s.fld Fld.MEM_RES_C1 < (on.map s.exactRate).sum))

end Sys2Proof.Machine
end

