-- ==== Sys2Proof/Machine/Scout.lean ====
section
/-! DEFINITION. Machine/Scout.lean: the scouts of the spindles (R133 to R135, R490). Predicted times are in units of 2^-32 ns. -/

namespace Sys2Proof.Machine

/-- The reel's increment per tick at the present ADJ (R52). -/
def State.perTick (s : State) : Nat := (2 ^ 33 + s.adj).toNat

/-- The start of the tick that a target names, seen from the tick that starts at `time`: that tick, or the next one where the target
lies behind (R54, R106). -/
def State.waitrTime (s : State) (time target : Nat) : Nat :=
  let t := target * 2 ^ 32
  if t < time + s.perTick then time + s.perTick else time + (t - time) / s.perTick * s.perTick

/-- The use time that the scout reports for an output word (R490). -/
def State.useTime (s : State) (time : Nat) (m : Micro) : Nat :=
  match m with
  | .rwin ch .. =>
    let k := (time - s.tln.reel) / max 1 s.perTick
    let dly := s.fld (Fld.DSC_CH_CFG_OPEN_DLY ch.toNat)
    let ahead := 2 * ((s.sinceSync + k + dly + 1) / 2) - (s.sinceSync + k)
    time + ahead * s.perTick - 64 * 2 ^ 32
  | _ => time

/-- How long after its use time a window's port may still wait for the window to open (R490). -/
def useHold (m : Micro) : Nat :=
  match m with
  | .rwin .. => 64 * 2 ^ 32
  | _ => 0

/-- A use still stands: its word has not issued, or the port is not yet busy by it (R490). -/
def State.useStands (s : State) (u : ScoutUse) : Bool := decide (0 < u.words) || decide (s.tln.reel ≤ u.time + u.hold)

/-- One word of the scout (R133): none where it is a stop. -/
def State.scoutWord (s : State) (c : Scout) (m : MicroWord) : Option Scout :=
  let next := c.pc + 1
  let go := fun (pc t : Nat) (c : Scout) => some { c with pc := pc % 8192, time := t, path := c.path ++ [pc % 8192] }
  let one := c.time + s.perTick
  match m.op with
  | .ldlc k src _ count => if src = 0 then go next one { c with lc := c.lc.set k.toNat count.toNat } else none
  | .settb mode _ imm => match mode.toNat with
    | 0 => go next one { c with tb := imm.toNat }
    | 1 => go next one { c with tb := (c.tb + imm.toNat) % 2 ^ 64 }
    | _ => none
  | .jmp t => if m.cc = 0 then go t.toNat one c else none
  | .loop k t =>
    let v := c.lc.getD k.toNat 0
    let c := { c with lc := c.lc.set k.toNat (v - 1) }
    go (if v ≤ 1 then next else t.toNat) one c
  | .waitt src _ n => if src = 0 then go next (c.time + max 1 n.toNat * s.perTick) c else none
  | .waitr mode _ t => match mode.toNat with
    | 0 => go next (s.waitrTime c.time t.toNat) c
    | 2 => go next (s.waitrTime c.time ((c.tb + t.toNat) % 2 ^ 64)) c
    | 3 => go next (s.waitrTime c.time ((c.ca + t.toNat) % 2 ^ 64)) c
    | _ => none
  | .commit => go next one { c with ca := c.time / 2 ^ 32 }
  | .endw nxt t => match nxt.toNat with
    | 0 => go next one c
    | 1 => go t.toNat one c
    | _ => none
  | .brs .. => none
  | .wts .. => none
  | op =>
    let c := match s.wordPort op with
      | some p => { c with uses := c.uses ++ [⟨p, s.useTime c.time op, c.path.length, s.perTick + useHold op⟩] }
      | none => c
    go next one c

/-- The horizon of a scout (R133). -/
def State.scoutHorizon (s : State) : Nat := s.tln.reel + 4000 * 2 ^ 32

/-- Up to `fuel` words of a scout. A word that no rule lets execute is a stop word too, though the table of R133 has no row for it (DESIGN
CHOICE, log entry 131). -/
def State.scoutRun (s : State) (n : Nat) : Nat → Scout → Scout
  | 0, c => if s.scoutHorizon ≤ c.time then { c with horizon := true, reached := true } else c
  | f + 1, c =>
    if s.scoutHorizon ≤ c.time then { c with horizon := true, reached := true }
    else match (s.micro n c.pc).bind (s.scoutWord c) with
      | some c' => s.scoutRun n f { c' with stopped := false, horizon := false }
      | none => { c with stopped := true, horizon := false }

/-- A scout's four words of one tick; uses that have been made are forgotten (R133, R134). -/
def scoutStep (n : Nat) (s : State) : State :=
  let x := s.spindle n
  if s.spindlesRun && x.active && s.fld (Fld.SPN_STATUS_STATE n) != 3 then
    let c := s.scoutRun n 4 { x.scout with uses := x.scout.uses.filter s.useStands }
    let s := s.setSpindle n { x with scout := c }
    (s.put (Fld.SPN_STATUS_SCOUT_STOPPED n) (b2n c.stopped)).put (Fld.SPN_STATUS_SCOUT_HORIZON n) (b2n c.horizon)
  else s

/-- SCOUT_STEP. -/
def execScoutStep (n : Fin 64) (s : State) : Host.Outcome State Fault Refusal := .next (scoutStep n s)

/-- A spindle reports port `p` as possibly used now (R134). -/
def State.possiblyUsed (s : State) (n p : Nat) : Bool :=
  let x := s.spindle n
  s.bit (Fld.SPN_CTL_EN n) &&
    ((x.active && (x.scout.stopped || !x.scout.reached) && s.claims n p) || (s.handlerPorts n).contains p)

/-- The earliest use of a port that a scout has reported; that of a halted spindle, which issues nothing, reports none (R136). -/
def State.earliestUse (s : State) (p : Nat) : Option Nat :=
  (((List.range 64).flatMap fun n =>
    if s.fld (Fld.SPN_STATUS_STATE n) = 3 then []
    else (s.spindle n).scout.uses.filter fun u => u.port == p && s.useStands u).map ScoutUse.time).min?

end Sys2Proof.Machine
end

