-- ==== Sys2Proof/Machine/PowerOps.lean ====
section
/-! DEFINITION. Machine/PowerOps.lean: the shared operations of power states (spec/15): port states, DORMANT levels, counters. -/

namespace Sys2Proof.Machine

/-- Wake times in ns and in ticks by state code (R484). -/
def wakeNs (st : Nat) : Nat := [0, 40, 2000, 300000].getD st 0
def wakeTicks (st : Nat) : Nat := [0, 20, 1000, 150000].getD st 0

/-- The field of a port's state. -/
def portField (p : Nat) : Field := ⟨Reg.PWR_PORT_STATE (p / 16), 2 * (p % 16), 2⟩

/-- The tick in which a waking port is ACTIVE. -/
def State.wakesAt (s : State) (p : Nat) : Option Nat := sget (fun _ => none) s.pwr.waking p

/-- Store the tick in which a waking port is ACTIVE. -/
def State.setWaking (s : State) (p : Nat) (t : Option Nat) : State :=
  { s with pwr := { s.pwr with waking := sset (fun _ => none) s.pwr.waking p t } }

/-- A live counter advances (R500). -/
def addLive (l : List (Nat × Nat)) (i k m : Nat) : List (Nat × Nat) := sset (fun _ => 0) l i ((sget (fun _ => 0) l i + k) % m)

/-- The ticks that port `p` has spent in its state and that its live counter does not yet hold (R501). -/
def State.uncounted (s : State) (p : Nat) : Nat := s.tick - max s.pwr.resTo (sget (fun _ => 0) s.pwr.since p)

/-- The live counters of R501 count port-microseconds of 500 ticks modulo 2^32. -/
def resTop : Nat := 500 * 2 ^ 32

/-- The time that a port has spent in its state joins its live counter (R501). -/
def countPort (p : Nat) (s : State) : State :=
  { s with pwr := { s.pwr with res := addLive s.pwr.res (4 * portGroup p + s.portState p) (s.uncounted p) resTop,
                               since := sset (fun _ => 0) s.pwr.since p s.tick } }

/-- The time that every port has spent in its state joins the live counters (R501). -/
def countPorts (s : State) : State :=
  if s.tick = s.pwr.resTo then s
  else
    let r := forN 256 (fun p l => addLive l (4 * portGroup p + s.portState p) (s.uncounted p) resTop) s.pwr.res
    { s with pwr := { s.pwr with res := r, resTo := s.tick, since := [] } }

/-- A port is in a state. The ball of a port that is not ACTIVE carries zero (R484: State.ballCodes, State.ballBias); an ACQ port that leaves ACTIVE delivers marked samples, and
one that becomes ACTIVE is used, from the next group boundary on (R201, R207). -/
def setPort (p st : Nat) (s : State) : State :=
  let was := s.portState p
  let s := if was = st ∨ s.uncounted p = 0 then s else countPort p s
  let s := (s.put (portField p) st).setWaking p none
  if 48 ≤ p ∧ p < 64 then
    if was = 0 ∧ st ≠ 0 then schedulePower (p - 48) (.portOff (p - 48)) s
    else if was ≠ 0 ∧ st = 0 then schedulePower (p - 48) (.portOn (p - 48)) s
    else s
  else s

/-- A port begins waking (R484, R501). -/
def beginWake (p : Nat) (s : State) : State :=
  (s.setWaking p (some (s.tick + wakeTicks (s.portState p)))).count (Fld.PWR_GRP_WAKES_WAKES (portGroup p))

/-- A port is parked (R494). -/
def State.parked (s : State) (p : Nat) : Bool := s.bit ⟨Reg.PWR_PARK (p / 32), p % 32, 1⟩

/-- Every port takes the state of its mode (R487); `cold` where the converter dies are off. -/
def setAllPorts (st : Nat) (parkedCold : Bool) (s : State) : State :=
  forN 256 (fun p s => setPort p (if parkedCold && s.parked p then 3 else st) s) s

/-- Gating runs in M5, and in M6 while spindles run (R487). -/
def State.gating (s : State) : Bool := s.spindlesRun

/-- The tolerance of a group in force at the start of the tick (R489, R493). -/
def State.latTol (s : State) (g : Nat) : Nat :=
  match sget (fun _ => none) s.pwr.tolOld g with
  | some t => t
  | none => s.fld (Fld.PWR_LAT_TOL_NS g)

/-- The source of a bobbin is ACQ port `a` (R488): its raw samples, channels or tones. -/
def State.bobReads (s : State) (b a : Nat) : Bool :=
  let kind := s.fld (Fld.BOB_SRC_KIND b)
  let base := s.fld (Fld.BOB_SRC_BASE b)
  if kind = 1 then base == a
  else if kind = 2 ∨ kind = 8 then
    (List.range (s.fld (Fld.BOB_SRC_NM1 b) + 1)).any fun i => (s.acqChannels a).contains (base + i)
  else (kind == 3 || kind == 9) && base / 1024 == a

/-- A bobbin that collects takes its items from ACQ port `a` (R488). -/
def State.bobUses (s : State) (b a : Nat) : Bool :=
  let st := s.bobState b
  (st == 1 || st == 2 || st == 3) && s.bobReads b a

/-- A port is busy (R488). -/
def State.portBusy (s : State) (p : Nat) : Bool :=
  if p < 48 then (s.portTgts p).any s.tgtBusy || (decide (32 ≤ p) && s.arrayPort (p - 32))
  else if p < 64 then
    let a := p - 48
    (s.acqChannels a).any (fun r => (s.dscCh r).win.isSome) || s.arrayPort a || (List.range 32).any fun b => s.bobUses b a
  else if p < 192 then
    s.tgtBusy (512 + (p - 64)) || match (s.flx (p - 64)).nzTick with
      | some t => decide (s.tick < t + 16)
      | none => false
  else s.rd (Reg.SYN_BIA_NOW (p - 192)) != 0 || s.rd (Reg.SYN_BIA_TARGET (p - 192)) != 0

/-- A spindle cannot issue another word before the next entry to M5 (R489). -/
def State.spindleDead (s : State) (n : Nat) : Bool :=
  !s.bit (Fld.SPN_CTL_EN n) || (s.fld (Fld.SPN_STATUS_STATE n) == 0 && (s.vecEntries n).isEmpty)

/-- A port is unreachable (R489). -/
def State.unreachable (s : State) (p : Nat) : Bool := (List.range 64).all fun n => s.spindleDead n || !s.claims n p

/-- The state that R489 chooses for a port. -/
def State.portChoice (s : State) (p : Nat) : Nat :=
  let tol := s.latTol (portGroup p)
  let within := fun st => decide (wakeNs st ≤ tol)
  if s.parked p then 3
  else if s.portBusy p || (List.range 64).any fun n => s.possiblyUsed n p then 0
  else if s.unreachable p then ([3, 2, 1].find? within).getD 0
  else
    let gap := match s.earliestUse p with
      | some t => t - s.tln.reel
      | none => 4000 * 2 ^ 32
    ([2, 1].find? fun st => within st && decide ((wakeNs st + 8) * 2 ^ 32 < gap)).getD 0

/-! ### DORMANT (R495 to R499) -/

/-- The level that a tolerance in ns allows (R495): 0 where no level's exit time is within it. -/
def dormLevelOf (tol : Nat) : Nat :=
  if 20000000 ≤ tol then 3 else if 1000000 ≤ tol then 2 else if 50000 ≤ tol then 1 else 0

/-- The level that the Q256 takes, and whether it is shallower than the tolerance allows, or the tolerance allows none (R495, R496). -/
def State.dormChoice (s : State) : Nat × Bool :=
  let l := dormLevelOf (s.fld Fld.PWR_DORM_TOL_NS)
  if s.role ≠ 0 then (1, l != 1) else (max 1 l, l == 0)

/-- The sample-clock PLL is turned off. -/
def pllDown (s : State) : State :=
  let s := (s.put Fld.GLB_CLK_STATUS_PLL_LOCK 0).put Fld.GLB_CLK_STATUS_TUNE_FROZEN 0
  let s := s.put Fld.GLB_CLK_STATUS_SYNC_DONE 0
  losePhases { s with glb := { s.glb with relock := false } }

/-- The PTP ports are turned off (R495). -/
def loseEthernet (s : State) : State := losePort s.primary (losePort (1 - s.primary) s)

/-- The twist ports are turned off. -/
def downTwists (s : State) : State := forN 4 (fun p s => if s.twState p = 0 then s else twDown p s) s

/-- Ports that are still in training go DOWN below M3 (R293); what is ALIGNED or UP survives in D1, where a slave's reel runs under its
source and SYNC markers arrive (R297, R495; log entry 90). -/
def endTraining (s : State) : State :=
  forN 4 (fun p s => if s.twState p = 0 ∨ s.twState p = 5 ∨ s.twState p = 6 then s else twDown p s) s

/-- A DORMANT level is entered; D2 turns off the PTP ports; D3 turns off the twist ports, the sample-clock PLL and stops the reel (R495, R497):
each only where the level before left it on. -/
def enterLevel (l : Nat) (short : Bool) (s : State) : State :=
  let was := s.fld Fld.PWR_STATUS_DORM_LEVEL
  let s := s.put Fld.PWR_STATUS_DORM_LEVEL l
  let s := if short && !s.bit Fld.PWR_STATUS_DORM_SHORT then s.raise Fld.PWR_EVENT_DORM_SHORT else s
  let s := s.put Fld.PWR_STATUS_DORM_SHORT (b2n short)
  let s := if 2 ≤ l ∧ was < 2 then loseEthernet s else s
  if l = 3 ∧ was ≠ 3 then stopReel (pllDown (downTwists s)) else s

/-- On leaving DORMANT. -/
def leaveDormant (s : State) : State :=
  let s := (s.put Fld.PWR_STATUS_DORM_LEVEL 0).put Fld.PWR_STATUS_DORM_SHORT 0
  { s with pwr := { s.pwr with restore := none } }

/-- The sample-clock PLL is off: in M0, and in D3 until its restoration (R495, R497). -/
def State.pllOff (s : State) : Bool :=
  s.mode == 0 || (s.mode == 2 && s.fld Fld.PWR_STATUS_DORM_LEVEL == 3 && s.pwr.restore.isNone && s.glb.restoring.isNone)

/-- A write of PWR_DORM_TOL acts in M2 (R497): a deeper level at once, a shallower one by a restoration. -/
def dormTolActs (s : State) : State :=
  if s.mode = 2 ∧ s.glb.restoring.isNone then
    let now := s.fld Fld.PWR_STATUS_DORM_LEVEL
    let (l, short) := s.dormChoice
    if now ≤ l then enterLevel l short { s with pwr := { s.pwr with restore := none } }
    else
      let s := { s with pwr := { s.pwr with restore := some l } }
      if now = 3 ∧ s.role ≠ 2 then { s with glb := { s.glb with syncDue := true } } else s
  else s

end Sys2Proof.Machine
end

