-- ==== Sys2Proof/Machine/Sha.lean ====
section
/-! DEFINITION. Machine/Sha.lean: SHA-384 as FIPS 180-4 defines it (R407, R412, R413, R415, R434). -/

namespace Sys2Proof.Machine

/-- A SHA-512 word. -/
abbrev W64 := BitVec 64

/-- Whether a number from 2 on has no divisor below it but 1. -/
def isPrime (n : Nat) : Bool := decide (2 ≤ n) && (List.range n).all fun d => decide (d < 2) || n % d != 0

/-- The first eighty primes: those up to 409. -/
def shaPrimes : List Nat := (List.range 410).filter isPrime

/-- The greatest number below 2^`bits` that added to `r` has a `k`-th power of at most `x`, found from its highest bit down; the sum. -/
def rootFrom (k x : Nat) : Nat → Nat → Nat
  | 0, r => r
  | bits + 1, r => rootFrom k x bits (if (r + 2 ^ bits) ^ k ≤ x then r + 2 ^ bits else r)

/-- The first 64 bits of the fractional part of the `k`-th root of `p`. -/
def rootFraction (k p : Nat) : W64 := BitVec.ofNat 64 (rootFrom k (p * 2 ^ (64 * k)) 70 0)

/-- The round constants (FIPS 180-4, 4.2.3), by the cube roots of the first eighty primes. -/
def shaK : List W64 := shaPrimes.map (rootFraction 3)

/-- The initial hash value of SHA-384 (FIPS 180-4, 5.3.4), by the square roots of the ninth to the sixteenth prime. -/
def shaInit : List W64 := ((shaPrimes.drop 8).take 8).map (rootFraction 2)

/-- The message schedule: the sixteen words before the present one, newest first, give the next. -/
def shaNext (w : List W64) : W64 :=
  let at' := fun i => w.getD i 0
  let s0 := fun (x : W64) => x.rotateRight 1 ^^^ x.rotateRight 8 ^^^ (x >>> 7)
  let s1 := fun (x : W64) => x.rotateRight 19 ^^^ x.rotateRight 61 ^^^ (x >>> 6)
  s1 (at' 1) + at' 6 + s0 (at' 14) + at' 15

/-- One round on the working variables a to h. -/
def shaRound (v : List W64) (k w : W64) : List W64 :=
  match v with
  | [a, b, c, d, e, f, g, h] =>
    let s1 := e.rotateRight 14 ^^^ e.rotateRight 18 ^^^ e.rotateRight 41
    let t1 := h + s1 + ((e &&& f) ^^^ (~~~e &&& g)) + k + w
    let s0 := a.rotateRight 28 ^^^ a.rotateRight 34 ^^^ a.rotateRight 39
    let t2 := s0 + ((a &&& b) ^^^ (a &&& c) ^^^ (b &&& c))
    [t1 + t2, a, b, c, d + t1, e, f, g]
  | _ => v

/-- The rounds that remain: `m` holds block words still to be taken, `w` the sixteen latest words, newest first. -/
def shaRounds : List W64 → List W64 → List W64 → List W64 → List W64
  | [], _, _, v => v
  | k :: ks, [], w, v =>
    let x := shaNext w
    shaRounds ks [] (x :: w.take 15) (shaRound v k x)
  | k :: ks, x :: m, w, v => shaRounds ks m (x :: w.take 15) (shaRound v k x)

/-- The words of a block. -/
def blockWords : Nat → List Byte → List W64
  | 0, _ => []
  | n + 1, bs => BitVec.ofNat 64 (beNat (bs.take 8)) :: blockWords n (bs.drop 8)

/-- One block is taken into the hash value. -/
def shaBlock (h : List W64) (b : List Byte) : List W64 :=
  List.zipWith (· + ·) h (shaRounds shaK (blockWords 16 b) [] h)

/-- `n` blocks of 128 bytes are taken. -/
def shaBlocks : Nat → List W64 → List Byte → List W64
  | 0, h, _ => h
  | n + 1, h, bs => shaBlocks n (shaBlock h (bs.take 128)) (bs.drop 128)

/-- The SHA-384 digest of a message. -/
def sha384 (bs : List Byte) : List Byte :=
  let n := bs.length
  let pad := 0x80 :: List.replicate ((239 - n % 128) % 128) 0
  let h := shaBlocks ((n + 144) / 128) shaInit (bs ++ pad ++ beBytes 16 (8 * n))
  ((h.take 6).map fun w => beBytes 8 w.toNat).flatten

end Sys2Proof.Machine
end

