-- ==== Sys2Proof/Machine/Ecdsa.lean ====
section
/-! DEFINITION. Machine/Ecdsa.lean: verification of ECDSA signatures over P-384 as FIPS 186-5 and SP 800-186 define them (R412,
R413, R434). -/

namespace Sys2Proof.Machine

/-- The field prime of P-384, the order of its base point, and its coefficient b; a is -3. -/
def p384P : Nat := 2 ^ 384 - 2 ^ 128 - 2 ^ 96 + 2 ^ 32 - 1
def p384N : Nat := 0xFFFFFFFFFFFFFFFFFFFFFFFFFFFFFFFFFFFFFFFFFFFFFFFFC7634D81F4372DDF581A0DB248B0A77AECEC196ACCC52973
def p384B : Nat := 0xB3312FA7E23EE7E4988E056BE3F82D19181D9C6EFE8141120314088F5013875AC656398D8A2ED19D2A85C8EDD3EC2AEF

/-- The base point of P-384. -/
def p384Gx : Nat := 0xAA87CA22BE8B05378EB1C71EF320AD746E1D3B628BA79B9859F741E082542A385502F25DBF55296C3A545E3872760AB7
def p384Gy : Nat := 0x3617DE4A96262C6F5D9E98BF9292DC29F8F41DBD289A147CE9DA3113B5F0B8C00A60B1CE1D7E819D7A431D7C90EA0E5F

/-- A point in Jacobian coordinates (x / z², y / z³); z = 0 is the point at infinity. -/
structure Jac where
  x : Nat
  y : Nat
  z : Nat

/-- A difference modulo `m`, of numbers below it. -/
def subMod (m a b : Nat) : Nat := (a + m - b) % m

/-- A point doubled. -/
def jacDouble (p : Jac) : Jac :=
  let q := p384P
  if p.z = 0 ∨ p.y = 0 then ⟨1, 1, 0⟩
  else
    let yy := p.y * p.y % q
    let s := 4 * p.x * yy % q
    let zz := p.z * p.z % q
    let m := 3 * subMod q p.x zz * (p.x + zz) % q
    let x := subMod q (m * m % q) (2 * s % q)
    ⟨x, subMod q (m * subMod q s x % q) (8 * yy * yy % q), 2 * p.y * p.z % q⟩

/-- The sum of two points. -/
def jacAdd (a b : Jac) : Jac :=
  let q := p384P
  if a.z = 0 then b
  else if b.z = 0 then a
  else
    let za := a.z * a.z % q
    let zb := b.z * b.z % q
    let u1 := a.x * zb % q
    let u2 := b.x * za % q
    let s1 := a.y * zb * b.z % q
    let s2 := b.y * za * a.z % q
    let h := subMod q u2 u1
    let r := subMod q s2 s1
    if h = 0 then (if r = 0 then jacDouble a else ⟨1, 1, 0⟩)
    else
      let hh := h * h % q
      let hhh := h * hh % q
      let v := u1 * hh % q
      let x := subMod q (subMod q (r * r % q) hhh) (2 * v % q)
      ⟨x, subMod q (r * subMod q v x % q) (s1 * hhh % q), a.z * b.z % q * h % q⟩

/-- A multiple of a point, by the `n` low bits of the scalar from the highest. -/
def jacMul : Nat → Nat → Jac → Jac → Jac
  | 0, _, _, acc => acc
  | n + 1, k, p, acc =>
    let acc := jacDouble acc
    jacMul n k p (if k.testBit n then jacAdd acc p else acc)

/-- A power modulo `m`, by the `n` low bits of the exponent from the highest. -/
def powMod (m b : Nat) : Nat → Nat → Nat → Nat
  | 0, _, acc => acc
  | n + 1, e, acc =>
    let acc := acc * acc % m
    powMod m b n e (if e.testBit n then acc * b % m else acc)

/-- The inverse modulo a prime of at most 384 bits. -/
def invMod (m a : Nat) : Nat := powMod m a 384 (m - 2) 1

/-- A public key is valid: its coordinates are a point of the curve (FIPS 186-5). -/
def keyValid (key : List Byte) : Bool :=
  let x := beNat (key.take 48)
  let y := beNat (key.drop 48)
  decide (x < p384P) && decide (y < p384P) && y * y % p384P == (x * x * x + (p384P - 3) * x + p384B) % p384P

/-- The signature (r, s) over a SHA-384 digest is valid under the key. -/
def ecdsaVerify (key digest sig : List Byte) : Bool :=
  let r := beNat (sig.take 48)
  let s := beNat (sig.drop 48)
  let w := invMod p384N s
  let u1 := beNat digest * w % p384N
  let u2 := r * w % p384N
  let zero : Jac := ⟨1, 1, 0⟩
  let p := jacAdd (jacMul 384 u1 ⟨p384Gx, p384Gy, 1⟩ zero) (jacMul 384 u2 ⟨beNat (key.take 48), beNat (key.drop 48), 1⟩ zero)
  let zi := invMod p384P p.z
  keyValid key && decide (0 < r) && decide (r < p384N) && decide (0 < s) && decide (s < p384N) && p.z != 0 &&
    p.x * (zi * zi % p384P) % p384P % p384N == r

end Sys2Proof.Machine
end

