-- ==== Sys2Proof/Machine/ModeOps.lean ====
section
/-! DEFINITION. Machine/ModeOps.lean: the change of mode (R34) and what each entry and exit does (spec/01 and the rules that name an
entry to a mode), run start (R40), the end of a run (R541), the clearing of the configuration (R39, R416), debug levels (R437). -/

namespace Sys2Proof.Machine

/-! ### Debug level (R437, R438) -/

/-- The device is in BLANK (R428). -/
def State.blank (s : State) : Bool := s.sec.lcs == 0

/-- SEC_STATUS.LCS: OWNED shows as OWNED-DEBUG while the level is above NONE (R428). -/
def showLcs (s : State) : State :=
  s.put Fld.SEC_STATUS_LCS (if s.sec.lcs = 1 ∧ s.fld Fld.SEC_STATUS_LEVEL ≠ 0 then 2 else s.sec.lcs)

/-- The debug level becomes `l` (R437); FULL outside BLANK forces the outputs inert (R438). Nothing changes it in BLANK. -/
def setLevel (l : Nat) (s : State) : State :=
  if s.blank ∨ s.fld Fld.SEC_STATUS_LEVEL = l then s
  else
    let was := s.fld Fld.SEC_STATUS_LEVEL
    let s := showLcs ((s.put Fld.SEC_STATUS_LEVEL l).raise (secEvent 4))
    let s := if l = 3 then permitting (fun s => s.put Fld.SEC_STATUS_INERT_FORCED 1) s else s
    if 2 ≤ was ∧ l < 2 then forN 64 resumeSpindle s else s

/-! ### Configuration (R39, R416) -/

/-- A channel map of Architecture and Operating Modes: GLB_DRV_MAP, GLB_PRB_MAP and GLB_RDO_MAP, which lie end to end. -/
def isChannelMap (off : Nat) : Bool := (elem off (Reg.GLB_DRV_MAP 0) 4 768).isSome

/-- A REGS section may name the register (R410): an RW or RWL field outside the HIF and SEC blocks, or a channel map. -/
def nameable (off : Nat) : Bool :=
  isChannelMap off ||
  (!inSec off && !(decide (0x10000 ≤ off) && decide (off < 0x20000)) && off != Reg.GLB_MODE_CTL &&
    match regDesc off with
    | some d => d.rw ||| d.rwl != 0
    | none => false)

/-- Monitors and sensors that have lost their EN keep no indication and no band (R461, R472); each port's powers go on (R458). -/
def settleSup (s : State) : State :=
  let s := forN 240 (fun m s =>
    if s.monOn m then s
    else
      let s := s.setMon m { powers := (s.mon m).powers }
      s.wr (Reg.SUP_MON_STATUS m) (s.rd (Reg.SUP_MON_STATUS m) &&& 0xFFFFFFF1)) s
  let s := { s with sup := { s.sup with ts := s.sup.ts.filter fun p => s.tsOn p.1 } }
  let s := forN 8 (fun i s =>
    if s.tsOn (16 + i) then s
    else
      let s := if s.fld (Fld.SUP_TS_STATUS_BAND (16 + i)) = 0 then s
        else (s.raise Fld.SUP_EVENT_BAND_CHG).report 12 7 (16 + i) 0
      s.wr (Reg.SUP_TS_STATUS (16 + i)) 0) s
  refreshQualified s

/-- Every register that a REGS section may name returns to its reset value. -/
def resetConfig (s : State) : State := settleSup { s with regs := s.regs.filter fun p => !nameable p.1 }

/-! ### Runs (R40, R541) -/

/-- Actions that wait for a later tick and outlive a run: samples on their way to windows that are still open, saturations, decisions being loaded
(R231), export groups being switched (R277), trigger inputs (R268), bulk frames (R313), and what belongs to no run. -/
def Deferred.lasts : Deferred → Bool
  | .sampleArrives .. => true
  | .satEvent .. => true
  | .openFalls _ => true
  | .loadDecision .. => true
  | .gate .. => true
  | .trgSample .. => true
  | .bulkFrame .. => true
  | .trgQualify .. => true
  | .disarm _ => true
  | .dormTol => true
  | .rejudge => true
  | .softReset => true
  | _ => false

/-- Every spindle stands still: IDLE, or ERROR as it was. -/
def haltSpindles (s : State) : State := forN 64 (fun n s =>
  if s.fld (Fld.SPN_STATUS_STATE n) = 4 then s else toIdle n s) s

/-- Spindles no longer run (R541, R31): chains end, outputs are muted, and what was to come of the run does not. -/
def endRun (s : State) : State :=
  let s := haltSpindles (clearFlux (muteBias (lowerOutputs (endChains s))))
  { s with later := s.later.filter fun p => p.2.lasts }

/-- The thresholds of the monitors are switched (R455): the FLX and BIA comparators are ignored for 2 µs, and what they show then is judged
under the thresholds now in force; what an RF monitor shows is judged so at once (R447). -/
def switchThresholds (s : State) : State :=
  rejudge { s with sup := { s.sup with switched := some s.tick }, later := s.later ++ [(s.tick + 1000, .rejudge)] }

/-- The supervisor's error CLOCK (R480). -/
def clockFault (s : State) : State := if !s.pllLock && !s.glb.relock then s.report 12 0 0 3 else s

/-- Spindles count as stopped in M6 (R42, R77). -/
def stopInM6 (s : State) : State :=
  let s := endRun s
  let s := { s with glb := { s.glb with m6Stopped := true } }
  let s := setAllPorts 0 true s
  clockFault (switchThresholds s)

/-- Counters that are cleared on entry to M5. -/
def clearCounters (s : State) : State :=
  let s := forN 48 (fun p s => (s.wr (Reg.SYN_PORT_CLIP_CNT p) 0).wr (Reg.SYN_PORT_ASLEEP_CNT p) 0) s
  let s := forN 512 (fun k s => s.put (Fld.SYN_CH_STATUS_CUT k) 0) s
  let s := forN 128 (fun f s => s.wr (Reg.SYN_FLX_CLIP_CNT f) 0) s
  let s := forN 640 (fun t s => s.wr (Reg.STM_TGT_JCNT t) 0) s
  let s := forN 16 (fun a s => (s.wr (Reg.RDO_ACQ_OVR_CNT a) 0).wr (Reg.RDO_ARR_CLIP_CNT a) 0) s
  let s := forN 256 (fun r s =>
    ((s.put (Fld.RDO_CH_STATUS_SAT r) 0).wr (Reg.DSC_CH_COUNT r) 0).wr (Reg.DSC_CH_COUNT2 r) 0) s
  let s := s.wr Reg.DSC_COUNT 0
  let s := forN 1024 (fun k s => s.wr (Reg.FAB_EV_COUNT k) 0) s
  let s := forN 512 (fun n s => s.put (Fld.FAB_PLY_STATUS_EMITS n) 0) s
  let s := forN 16 (fun t s => s.wr (Reg.FAB_CT_COUNT t) 0) s
  let s := forN 64 (fun g s => s.wr (Reg.FAB_GRP_COUNT g) 0) s
  let s := forN 4 (fun c s => (s.wr (Reg.MEM_CLS_COUNT c) 0).wr (Reg.MEM_CLS_MAXLAT c) 0) s
  let s := forN 240 (fun m s => s.put (Fld.SUP_MON_STATUS_VIOL_CNT m) 0) s
  forN 16 (fun g s => s.wr (Reg.PWR_GRP_WAKES g) 0) s

/-- The spindles at a run start (R93, R448). The resume register, which R93 does not name, is cleared with them (DESIGN CHOICE, log entry
131). -/
def startSpindles (s : State) : State :=
  forN 64 (fun n s =>
    let en := s.bit (Fld.SPN_CTL_EN n)
    let entry := s.fld (Fld.SPN_CTL_ENTRY n)
    let s := forN 32 (fun i s => s.wr (Reg.SPN_G n i) 0) s
    let s := forN 8 (fun j s => s.wr (Reg.SPN_LC n j) 0) s
    let s := (s.wr64 (Reg.SPN_TB_LO n) 0).wr64 (Reg.SPN_CA_LO n) 0
    let s := ((s.wr (Reg.SPN_SIN n) 0).wr (Reg.SPN_PEND n) 0).wr (Reg.SPN_RESUME n) 0
    let s := s.wr (Reg.SPN_STATUS n) 0
    let s := if en then (s.put (Fld.SPN_STATUS_PC n) entry).put (Fld.SPN_STATUS_STATE n) 1 else s
    restartScout n entry 0 (s.setSpindle n { npc := entry, entry := entry, due := s.tick, active := en, tokenTick := s.tick, idleTick := s.tick })) s

/-- A run start (R40). -/
def runStart (s : State) : State :=
  startBobs (startFabric (startDiscr (startReadout (startNcos (clearFlux (startSpindles (clearCounters s)))))))

/-! ### Entries -/

/-- A load in progress ends with an error code (R421). -/
def failLoad (err sect : Nat) (s : State) : State :=
  let s := ((s.put Fld.SEC_LOAD_STATUS_STATE 0).put Fld.SEC_LOAD_STATUS_ERR err).put Fld.SEC_LOAD_STATUS_SECTION (min sect 0xFFFF)
  let s := s.raise (secEvent 1)
  { s with sec := { s.sec with loading := false, image := none } }

/-- What a load in progress suffers when M1 is left by a request or a trip (R421). -/
def abortLoad (s : State) : State := if s.sec.loading then failLoad 17 0 s else s

/-- The front end follows registers that have returned to their reset values, at its next boundary (R201). -/
def frontFollows (s : State) : State :=
  let s := forN 16 (fun a s => combFollows a (scheduleChange (.att a (s.fld (Fld.RDO_ACQ_ATT_ATT a))) s)) s
  forN 256 (fun r s =>
    scheduleChange (.phase r (s.fld (Fld.RDO_CH_PHASE_PH r))) (scheduleChange (.gain r (s.fld (Fld.RDO_CH_CFG_DIG_GAIN r)))
      (scheduleChange (.filter r (s.fld (Fld.RDO_CH_CFG_FILTER r))) s))) s

/-- Entry to M0 (R38, R39, R56, R345, R357, R358, R368). -/
def enterM0 (s : State) : State :=
  let s := forN 32 clearBob (forgetReel (abortJobs (downTwists s)))
  let s := pllDown ((s.put Fld.GLB_MODE_STATUS_CFG_VALID 0).put Fld.GLB_MODE_STATUS_CAL_DONE 0)
  let s := (s.put Fld.MEM_STATUS_SRAM_READY 0).put Fld.MEM_STATUS_DRAM_READY 0
  let s := (s.put Fld.MEM_STATUS_SELF_REFRESH 0).put Fld.CSC_STATUS_SYNC_ALIGNED 0
  let s := forN 2 (fun p s => s.put (Fld.TLN_PTP_STATUS_QUALIFIED p) 0) (s.put Fld.TLN_STATUS_SRC_QUALIFIED 0)
  let s := resetConfig s
  let s := forN 16 (fun a s => s.put (Fld.RDO_ACQ_STATUS_ATT_NOW a) (s.fld (Fld.RDO_ACQ_ATT_ATT a))) s
  { s with sram := [], dram := [], spn := [], syn := {}, rv := [], rdo := {}, dsc := [], fab := {}, csc := {},
           mem := { s.mem with badDram := [], badSram := [], held := [], order := [],
                                  reqs := s.mem.reqs.filter fun q => match q.owner with | .dma _ => true | _ => false },
           tln := { s.tln with ports := [], ppsPair := false, labelled := false, tcode := none },
           sec := { s.sec with loaded := false, confLoad := false, dramRanges := [], libRanges := [], role := none } }

/-- Entry to M1 (R416, R357, R358, R21). -/
def enterM1 (s : State) : State :=
  let s := (frontFollows (resetConfig s)).put Fld.MEM_STATUS_SRAM_READY 1
  { s with glb := { s.glb with syncDue := true } }

/-- Entry to M2 (R38, R368, R437, R495, R499). -/
def enterM2 (was : Nat) (s : State) : State :=
  let s := endTraining (s.put Fld.GLB_MODE_STATUS_CAL_DONE 0)
  let s := if was = 1 then s.put Fld.GLB_MODE_STATUS_CFG_VALID 1 else s
  let s := if 1 < s.fld Fld.SEC_STATUS_LEVEL then setLevel 1 s else s
  let s := stallJobs (s.put Fld.MEM_STATUS_SELF_REFRESH 1)
  let (l, short) := s.dormChoice
  enterLevel l short s

/-- The comparators that are disabled (R463), by monitor and number. -/
def State.disabledCmps (s : State) : List (Nat × Nat) :=
  (List.range 240).flatMap fun m =>
    let d := s.fld (Fld.SUP_MON_STATUS_CMP_DIS m)
    if d = 0 then [] else ((List.range 4).filter (bitOf d)).map fun c => (m, c)

/-- Entry to M3 (R58, R447, R461, R464, R480); what the ports sample from here on reaches no channel (R543). -/
def enterM3 (s : State) : State :=
  let s := startReel (s.put Fld.GLB_MODE_STATUS_CAL_DONE 0)
  let s := { s with rdo := { s.rdo with acq := smap (fun _ => {}) (fun x => { x with raw := [] }) s.rdo.acq } }
  let s := { s with sup := { s.sup with retest := s.disabledCmps } }
  let s := if s.bit Fld.SUP_STATUS_ILK then s else detect 9 0 s
  clockFault s

/-- Entry to M4 (R31, R192, R366, R438). -/
def enterM4 (s : State) : State :=
  let s := primeStreams (bindLanes (muteBias (lowerOutputs s)))
  if s.fld Fld.SEC_STATUS_LEVEL < 3 ∨ s.blank then s.put Fld.SEC_STATUS_INERT_FORCED 0 else s

/-- Entry to M6 (R34, R77). -/
def enterM6 (was : Nat) (s : State) : State :=
  let s := s.put Fld.GLB_MODE_STATUS_HOLD_FROM_RUN (b2n (was == 5))
  if was = 5 then
    if s.fld Fld.TLN_HOLD_POLICY_POLICY = 1 ∨ s.glb.stopTick.isSome then s
    else stopAllSpindles { s with glb := { s.glb with stopTick := some s.tick } }
  else { s with glb := { s.glb with m6Stopped := true } }

/-- Tone words that were held in M4 to M6 and not accepted are discarded when these modes end (DESIGN CHOICE, log entry 133). -/
def dropHeldTones (s : State) : State :=
  { s with rdo := { s.rdo with pair := smap (fun _ => {}) (fun x => { x with heldF := [], heldC := [] }) s.rdo.pair } }

/-- The boundary cells drive no ball any more: EXTEST is granted in M0 and BLANK only (R436). -/
def endExtest (s : State) : State := { s with tap := { s.tap with drive := none } }

/-- What leaving a mode does. -/
def leaveMode (was m : Nat) (s : State) : State :=
  let runs := fun k => k == 5 || k == 6
  let s := if runs was && !runs m then stopFabric (stopBobs (dropWindows (endRun s))) else s
  let s := if 4 ≤ was ∧ was ≤ 6 ∧ ¬(4 ≤ m ∧ m ≤ 6) then unbindLanes (stopStreams s) else s
  let s := if was = 2 then
      let s := leaveDormant s
      if m = 0 then s else resumeJobs (s.put Fld.MEM_STATUS_SELF_REFRESH 0)
    else s
  let s := if was = 1 then abortLoad s else s
  let s := if 4 ≤ was ∧ was ≤ 6 ∧ ¬(4 ≤ m ∧ m ≤ 6) then dropHeldTones s else s
  let keep := runs was && runs m
  let g := s.glb
  let s := { s with later := s.later.filter fun p => p.2 != Deferred.runStart }
  { s with glb := { g with calOn := false, checkOn := false, rampTo := none, restoring := none, clearing := false,
                           m6Stopped := false, stopping := g.stopping && keep, stopTick := if keep then g.stopTick else none } }

/-- What entering a mode does. -/
def arrive (was m : Nat) (s : State) : State :=
  match m with
  | 0 => setAllPorts 3 false (enterM0 s)
  | 1 => setAllPorts 3 false (enterM1 s)
  | 2 => setAllPorts 3 false (enterM2 was s)
  | 3 => setAllPorts 0 false (enterM3 s)
  | 4 => setAllPorts 0 true (enterM4 s)
  | 5 => if was = 4 then runStart s else s
  | 6 => enterM6 was s
  | _ => s

/-- The mode changes (R34): what leaving does, the record of the change, and what entering does. -/
def enterMode (m : Nat) (s : State) : State :=
  let was := s.mode
  let ran := s.spindlesRun
  let s := leaveMode was m s
  let s := ((s.put Fld.GLB_MODE_STATUS_PREV_MODE was).put Fld.GLB_MODE_STATUS_MODE m).put Fld.GLB_MODE_STATUS_ARM_PENDING 0
  let s := (s.raise Fld.GLB_MODE_STATUS_MODE_CHG).raise Fld.HIF_EVENT_MODE_CHG
  let s := s.wr64 Reg.GLB_MODE_REEL_LO s.stampNs
  let s := arrive was m (if m = 0 then s else endExtest s)
  if ran != s.spindlesRun then switchThresholds s else if was = 7 then rejudge s else s

/-- The clearing of R39 begins: the entry to M0 follows when it is done. -/
def beginClearing (s : State) : State := { s with glb := { s.glb with clearing := true } }

/-- A mode change by a request: an entry to M0 waits for the clearing of the configuration (R39). -/
def goTo (m : Nat) (s : State) : State := if m = 0 then beginClearing s else enterMode m s

/-- The outcome of the last request, where it is still in progress. -/
def finishRequest (result : Nat) (s : State) : State :=
  if s.fld Fld.GLB_MODE_STATUS_REQ_RESULT = 1 then s.put Fld.GLB_MODE_STATUS_REQ_RESULT result else s

/-- BUSY (R35, R44). -/
def State.modeBusy (s : State) : Bool :=
  s.glb.calOn || s.glb.stopTick.isSome || s.glb.checkOn || s.glb.rampTo.isSome || s.glb.restoring.isSome || s.glb.clearing

end Sys2Proof.Machine
end

