-- ==== Sys2Proof/Machine/SecOps.lean ====
section
/-! DEFINITION. Machine/SecOps.lean: lifecycle, SEC_CMD and the start of a load (spec/13: R417, R418, R428 to R437). -/

namespace Sys2Proof.Machine

/-! ### Fuses -/

/-- SEC_STATUS and SEC_FUSE show the fuses (R428). -/
def showFuses (s : State) : State :=
  let s := showLcs (s.put Fld.SEC_STATUS_MIN_SVN s.sec.minSvn)
  let s := s.put Fld.SEC_FUSE_SLOT_USED (2 ^ s.sec.slots.length - 1)
  let s := s.put Fld.SEC_FUSE_SLOT_REVOKED ((List.range 4).foldl (fun a i => if s.sec.revoked.contains i then setBit a i else a) 0)
  s.put Fld.SEC_FUSE_KEK_PRESENT (b2n s.sec.kek.isSome)

/-- Hashes are written into owner slots 0 upward; a slot that holds one keeps it (R429). -/
def fuseSlots (hs : List (List Byte)) (s : State) : State :=
  { s with sec := { s.sec with slots := s.sec.slots ++ hs.drop s.sec.slots.length } }

/-- The owner slots of a key (R413). -/
def State.slotsOf (s : State) (key : List Byte) : List Nat :=
  let d := sha384 key
  (List.range s.sec.slots.length).filter fun i => s.sec.slots.getD i [] == d

/-- A public key is accepted (R413): a valid key in BLANK, else the key of an owner slot that is not revoked. -/
def State.keyAccepted (s : State) (key : List Byte) : Bool :=
  if s.blank then keyValid key else (s.slotsOf key).any fun i => !s.sec.revoked.contains i

/-! ### SEC_CMD -/

/-- The words of SEC_BUF as bytes. -/
def State.secBuf (s : State) (w n : Nat) : List Byte := ((List.range n).map fun i => leBytes 4 (s.rd (Reg.SEC_BUF (w + i))).toNat).flatten

/-- A command shows its number and its result. -/
def secResult (op r : Nat) (s : State) : State :=
  ((s.put Fld.SEC_CMD_STATUS_LAST_OP op).put Fld.SEC_CMD_STATUS_RESULT r).put Fld.SEC_CMD_STATUS_BUSY 0

/-- A command goes on (BUSY). -/
def secBusy (op : Nat) (s : State) : State := (secResult op 0 s).put Fld.SEC_CMD_STATUS_BUSY 1

/-- PROVISION begins (R429). -/
def provisionStart (arg : Nat) (s : State) : State :=
  let n := arg % 8
  let hs := (List.range n).map fun i => s.secBuf (12 * i) 12
  let same := (List.range (min n s.sec.slots.length)).all fun i => hs.getD i [] == s.sec.slots.getD i []
  if s.blank ∧ s.mode = 0 ∧ 1 ≤ n ∧ n ≤ 4 ∧ same then
    secBusy 1 { s with sec := { s.sec with prov := some (hs, arg / 256 % 64) } }
  else secResult 1 2 s

/-- `n` fresh bytes from the entropy source. -/
def freshBytes : Nat → State → List Byte × State
  | 0, s => ([], s)
  | n + 1, s =>
    let (b, s) := s.fresh 8
    let (bs, s) := freshBytes n s
    (BitVec.ofNat 8 b :: bs, s)

/-- PROVISION completes: every fuse of R429 is written, the lifecycle last, and the part is OWNED with the debug level NONE. -/
def provisionDone (s : State) : State :=
  match s.sec.prov with
  | none => s
  | some (hs, svn) =>
    let (k, s) := freshBytes 32 s
    let s := fuseSlots hs s
    let s := { s with sec := { s.sec with kek := some k, kekReadable := true, minSvn := svn, lcs := 1, prov := none } }
    secResult 1 1 (endExtest (showFuses (setLevel 0 s)))

/-- KEK_TAKEN (R430). -/
def kekTaken (s : State) : State := secResult 2 1 { s with sec := { s.sec with kekReadable := false } }

/-- CHALLENGE (R433): a fresh one, and any earlier one is invalid. -/
def drawChallenge (s : State) : State :=
  let (c, s) := freshBytes 48 s
  let s := forN 12 (fun w s => s.wr (Reg.SEC_CHAL w) (BitVec.ofNat 32 (leNat ((c.drop (4 * w)).take 4)))) s
  secResult 3 1 { s with sec := { s.sec with chal := some c } }

/-- What stands against a SUBMIT (R434): codes of RESULT. -/
def State.submitFaults (s : State) : List Nat :=
  let key := s.secBuf 0 24
  let msg := (s.sec.chal.getD []) ++ leBytes 8 Config.serialNumber.toNat ++ s.secBuf 48 2
  (if s.sec.chal.isNone then [4] else []) ++ (if s.keyAccepted key then [] else [6]) ++
  (if ecdsaVerify key (sha384 msg) (s.secBuf 24 24) then [] else [3])

/-- A SUBMIT fails, by `r`; the fourth in a row starts the lockout (R434, R435). -/
def submitFails (op r : Nat) (s : State) : State :=
  let s := (s.count Fld.SEC_CMD_STATUS_FAILS).raise (secEvent 3)
  let s := secResult op r s
  if 4 ≤ s.fld Fld.SEC_CMD_STATUS_FAILS then { s.raise (secEvent 7) with sec := { s.sec with locked := true } } else s

/-- SUBMIT (R434, R435). An accepted command is to act; one whose AUTH_OP names no operation is refused. Where several conditions
fail, which of them RESULT shows is free (log entry 41). -/
def submit (s : State) : State :=
  let op := (s.rd (Reg.SEC_BUF 48)).toNat
  let arg := (s.rd (Reg.SEC_BUF 49)).toNat
  let shown := op % 16
  let faults := s.submitFaults
  let s := { s with sec := { s.sec with chal := none } }
  if s.sec.locked then secResult shown 5 (s.raise (secEvent 3))
  else match faults with
    | [] =>
      let s := (s.put Fld.SEC_CMD_STATUS_FAILS 0).raise (secEvent 2)
      if 1 ≤ op ∧ op ≤ 4 then secBusy shown { s with sec := { s.sec with auth := some (op, arg) } } else secResult shown 2 s
    | [r] => submitFails shown r s
    | rs =>
      let (k, s) := s.fresh 8
      submitFails shown (rs.getD (k % rs.length) 3) s

/-- The debug level that an unlock to `l` grants (R437). -/
def State.levelCap (s : State) (l : Nat) : Nat :=
  let l := if s.mode = 2 then min l 1 else l
  if s.bit Fld.GLB_MODE_STATUS_CFG_VALID then min l (s.fld Fld.SEC_STATUS_DBG_CAP) else l

/-- An accepted UNLOCK (R437). -/
def authUnlock (arg : Nat) (s : State) : State :=
  if arg < 1 ∨ 3 < arg then secResult 1 2 s
  else if s.blank then secResult 1 1 s
  else
    let l := s.levelCap arg
    secResult 1 (if l = arg then 1 else 7) (setLevel l s)

/-- An accepted RETIRE (R432). -/
def authRetire (s : State) : State :=
  if s.mode = 0 then
    let s := { s with sec := { s.sec with kek := none, kekReadable := false, lcs := 3 } }
    secResult 2 1 (showFuses (setLevel 0 s))
  else secResult 2 2 s

/-- An accepted REVOKE (R431). -/
def authRevoke (arg : Nat) (s : State) : State :=
  let live := (List.range s.sec.slots.length).filter fun i => !s.sec.revoked.contains i
  if s.sec.lcs = 1 ∧ arg < 4 ∧ live ≠ [arg] then
    let r := if s.sec.revoked.contains arg then s.sec.revoked else arg :: s.sec.revoked
    secResult 3 1 (showFuses { s with sec := { s.sec with revoked := r } })
  else secResult 3 2 s

/-- An accepted ADVANCE_SVN (R431). -/
def authAdvance (arg : Nat) (s : State) : State :=
  if s.sec.lcs = 1 ∧ s.sec.minSvn < arg ∧ arg ≤ 63 then
    secResult 4 1 (showFuses { s with sec := { s.sec with minSvn := arg } })
  else secResult 4 2 s

/-- The authenticated command that was accepted acts, where it is `op`. -/
def authActs (op : Nat) (act : Nat → State → State) (s : State) : State :=
  match s.sec.auth with
  | some (o, arg) => if o = op then act arg { s with sec := { s.sec with auth := none } } else s
  | none => s

/-- RELOCK (R437). -/
def relock (s : State) : State := secResult 5 1 (setLevel 0 s)

/-- Word `j` of spindle `n` in a snapshot. -/
def snapWord (n j : Nat) (v : Word) (s : State) : State := s.wr (Reg.SEC_SNAP n j) v

/-- The words of spindle `n` in a snapshot, from byte 0x00 on (R436). -/
def snapSpindle (n : Nat) (s : State) : State :=
  let s := snapWord n 0 (s.rd (Reg.SPN_STATUS n)) s
  let s := snapWord n 1 (s.rd (Reg.SPN_TB_LO n)) (snapWord n 2 (s.rd (Reg.SPN_TB_LO n + 4)) s)
  let s := snapWord n 3 (s.rd (Reg.SPN_CA_LO n)) (snapWord n 4 (s.rd (Reg.SPN_CA_LO n + 4)) s)
  let s := forN 4 (fun k s =>
    snapWord n (8 + k) (BitVec.ofNat 32 (s.fld ⟨Reg.SPN_LC n (2 * k), 0, 16⟩ + 65536 * s.fld ⟨Reg.SPN_LC n (2 * k + 1), 0, 16⟩)) s) s
  forN 32 (fun i s => snapWord n (32 + i) (s.rd (Reg.SPN_G n i)) s) s

/-- SNAP (R436): a grant of OBSERVE. -/
def takeSnap (s : State) : State :=
  if 1 ≤ s.fld Fld.SEC_STATUS_LEVEL then
    secResult 6 1 (forN 64 snapSpindle (s.wr64 Reg.SEC_SNAP_REEL_LO (s.tln.reel / 2 ^ 32)))
  else secResult 6 2 s

/-- A command of SEC_CMD with its ARG; while one is in progress, another has no effect (log entry 42). -/
def secCommand (op arg : Nat) (s : State) : State :=
  if s.bit Fld.SEC_CMD_STATUS_BUSY then s
  else match op with
  | 1 => provisionStart arg s
  | 2 => kekTaken s
  | 3 => drawChallenge s
  | 4 => submit s
  | 5 => relock s
  | 6 => takeSnap s
  | _ => s

/-- A write of SEC_CMD. -/
def secCmdWrite (p : Path) (v : Word) (s : State) : State :=
  gated p Reg.SEC_CMD (secCommand (fieldGet v Fld.SEC_CMD_OP) (fieldGet v Fld.SEC_CMD_ARG)) s

/-! ### The start of a load (R417, R418) -/

/-- GO: the 4 KiB-aligned DRAM offset of SEC_LOAD_SRC. -/
def loadGo (s : State) : State :=
  if s.mode = 1 ∧ !s.sec.loading then
    let src := s.rd64 Reg.SEC_LOAD_SRC_LO % dramSize / 4096 * 4096
    let s := s.wr Reg.SEC_LOAD_STATUS 1
    let s := { s with sec := { s.sec with loading := true, loadSrc := src, loadTick := s.tick, loadRevoked := s.sec.revoked },
                      later := s.later ++ [(s.tick + 1 + Config.verifyTicks, .loadApplies s.tick)] }
    if s.bit Fld.MEM_STATUS_DRAM_READY then guardImage s else s
  else s

/-- A write of SEC_LOAD_CTL. -/
def loadCtlWrite (p : Path) (v : Word) (s : State) : State :=
  gated p Reg.SEC_LOAD_CTL (fun s => if v &&& 1 = 1 then loadGo s else s) s

end Sys2Proof.Machine
end

