-- ==== Sys2Proof/Machine/CheckUnit.lean ====
section
/-! DEFINITION. Machine/CheckUnit.lean: the reason codes of class 0x01 (R89), class 0x0B (R441), class 0x0C (R482) and class 0x0D
(R504): the timeline, security, the tension supervisor and power (log entry 66). -/

namespace Sys2Proof.Machine

/-! ### Timeline (R89) -/

/-- PTP port `p`: 0x0107. -/
def State.checkPtp (s : State) (p : Nat) : List (Nat × Nat) :=
  let d := sgn 4 (s.fld (Fld.TLN_PTP_CFG_LOG_DREQ p))
  refuseIf 0x0107 p (s.bit (Fld.TLN_PTP_CFG_EN p) && (decide (d < -7) || decide (0 < d) ||
    (s.bit (Fld.TLN_PTP_CFG_TRANSPORT p) && s.fld (Fld.TLN_PTP_IPV4_ADDR p) == 0)))

/-- Launch slot `k`: 0x0108. The region holds 4 MiB (R350). -/
def State.checkSlot (s : State) (k : Nat) : List (Nat × Nat) :=
  let len := s.fld (Fld.TLN_LAUNCH_CFG_LEN k)
  refuseIf 0x0108 k (s.bit (Fld.TLN_LAUNCH_CFG_ARM k) && (decide (len < 60) || decide (2044 < len) ||
    decide (0x400000 < 64 * s.fld (Fld.TLN_LAUNCH_CFG_ADDR k) + len)))

/-- Class 0x01. JUMP_LIMIT counts ns, and the two thresholds 2^-8 ns. -/
def State.checkTimeline (s : State) : List (Nat × Nat) :=
  let src := s.fld Fld.TLN_CTL_SRC
  let jump := 256 * s.fld Fld.TLN_JUMP_LIMIT_NS
  let slew := s.fld Fld.TLN_SLEW_MAX_MAX
  let prim := s.fld Fld.TLN_CTL_PTP_PRIMARY
  refuseIf 0x0101 0 ((src == 3) != (s.fld Fld.CSC_CFG_ROLE == 2)) ++
  refuseIf 0x0102 0 (decide (4 ≤ src)) ++
  refuseIf 0x0103 0 (jump == 0 || decide (jump ≤ s.fld Fld.TLN_LOCK_CFG_THRESH) || decide (jump ≤ s.fld Fld.TLN_ASYM_THRESH_NS)) ++
  refuseIf 0x0104 0 (slew == 0 || decide (4294967 < slew)) ++
  refuseIf 0x0105 0 (decide (2 ≤ s.fld Fld.TLN_HOLD_POLICY_POLICY)) ++
  refuseIf 0x0106 prim (src == 1 && !s.bit (Fld.TLN_PTP_CFG_EN prim)) ++
  eachIdx 2 s.checkPtp ++ eachIdx 16 s.checkSlot

/-! ### Security (R441) -/

/-- What CSC_CFG and CSC_DIM hold of the fields of a ROLE section, in its order. -/
def State.roleFields (s : State) : List Nat :=
  [Fld.CSC_CFG_ROLE, Fld.CSC_CFG_TOPO, Fld.CSC_CFG_DEV_ID, Fld.CSC_CFG_MASTER_ID, Fld.CSC_CFG_DEPTH, Fld.CSC_DIM_X, Fld.CSC_DIM_Y].map s.fld

/-- Class 0x0B. -/
def State.checkSecurity (s : State) : List (Nat × Nat) :=
  refuseIf 0x0B01 0 (match s.sec.role with
    | some p => (p.take 7).map BitVec.toNat != s.roleFields
    | none => s.fld Fld.CSC_CFG_ROLE != 0) ++
  refuseIf 0x0B02 0 (s.fld Fld.SEC_STATUS_LEVEL == 3 && !s.blank) ++
  refuseIf 0x0B03 0 (s.bit Fld.SEC_STATUS_SEALED && s.bit Fld.SEC_STATUS_TAINT)

/-! ### Safety (R482) -/

/-- The port of a monitor is enabled (R453). -/
def State.monPortOn (s : State) (m : Nat) : Bool :=
  if m < 48 then s.bit (Fld.SYN_PORT_CFG_EN m)
  else if m < 176 then s.bit (Fld.SYN_FLX_CFG_EN (m - 48))
  else s.bit (Fld.SYN_BIA_CFG_EN (m - 176))

/-- Monitor `m`: 0x0C01 to 0x0C05, and 0x0C07 for its comparators. -/
def State.checkMonitor (s : State) (m : Nat) : List (Nat × Nat) :=
  let on := s.monOn m
  let lo := s.fld (Fld.SUP_MON_THR_LO m)
  let len := s.fld (Fld.SUP_MON_CFG_BLANK_LEN m)
  let slew := max (s.fld (Fld.SYN_BIA_SLEW_CODE (m - 176))) (s.fld (Fld.SYN_BIA_SAFE_SLEW_CODE (m - 176)))
  refuseIf 0x0C01 m (on && decide (48 ≤ m) && (decide (512 ≤ lo) || decide (s.fld (Fld.SUP_MON_THR_HI m) ≤ 512))) ++
  refuseIf 0x0C02 m (on && decide (m < 48) && (lo == 0 ||
    (List.range 5).any fun b => decide (s.fld (Fld.SYN_PWR_ENV_PEAK m b) / 64 ≤ lo))) ++
  refuseIf 0x0C03 m (decide (24 < s.fld (Fld.SUP_MON_CFG_QUAL m)) || decide (50 < len) || (decide (m < 48) && len != 0)) ++
  refuseIf 0x0C04 m (decide (176 ≤ m) &&
    decide (s.fld (Fld.SUP_MON_SLEW_SLEW_THR m) < (slew * 10000 + 1048575) / 1048576 + 2)) ++
  refuseIf 0x0C05 m (!on && s.monPortOn m) ++
  refuseIf 0x0C07 m (s.fld (Fld.SUP_MON_STATUS_CMP_DIS m) != 0)

/-- Sensor `k`: 0x0C06, by the hot side of R469. -/
def State.checkSensor (s : State) (k : Nat) : List (Nat × Nat) :=
  let e := fun (i : Nat) => s.fld (Fld.SUP_TS_EDGE_VALUE k i)
  let limit := s.fld (Fld.SUP_TS_LIMIT_VALUE k)
  let high := s.hotHigh k
  let cold := s.bit Fld.SUP_CFG_COLD_EN && k == 16 + s.fld Fld.SUP_CFG_COLD_STAGE && !s.tsOn k
  let rising := (List.range 3).all fun i => if high then decide (e i < e (i + 1)) else decide (e (i + 1) < e i)
  let near := if high then decide (50 * limit < 51 * e 3) else decide (49 * e 3 < 50 * limit)
  refuseIf 0x0C06 k (cold || !rising || (s.tsLimitOn k && near) || (decide (k < 16) && decide (378 * 65536 < limit)) ||
    (s.tsOn k && decide (16 ≤ k) && s.bit (Fld.SUP_TS_CFG_MODE k) && decide (9 ≤ s.fld (Fld.SUP_TS_CFG_EXC k))))

/-- Class 0x0C. -/
def State.checkSafety (s : State) : List (Nat × Nat) :=
  eachIdx 240 s.checkMonitor ++ eachIdx 24 s.checkSensor ++
    refuseIf 0x0C07 0 (s.bit Fld.SUP_SELFTEST_FAILED || !s.bit Fld.SUP_STATUS_QUALIFIED)

/-! ### Power (R504): ports by R483's numbering -/

/-- Class 0x0D. `ws` are the words that enabled spindles reach. -/
def State.checkPower (s : State) (ws : List (Nat × Nat × Micro)) : List (Nat × Nat) :=
  let named := ws.filterMap fun w => s.wordPort w.2.2
  eachIdx 256 fun p =>
    if !s.parked p then []
    else if p < 48 then
      refuseIf 0x0D01 p (named.contains p || !(s.portTgts p).isEmpty || (decide (32 ≤ p) && s.isArray (p - 32)))
    else if p < 64 then
      let a := p - 48
      refuseIf 0x0D02 p (named.contains p || s.isArray a || (List.range 32).any fun b => s.bit (Fld.BOB_CFG_EN b) && s.bobReads b a)
    else refuseIf 0x0D01 p (named.contains p)

end Sys2Proof.Machine
end

