-- ==== Sys2Proof/Machine/Checker.lean ====
section
/-! DEFINITION. Machine/Checker.lean: the consistency check (R425 to R427): every class of the reason-code index. -/

namespace Sys2Proof.Machine

/-- Every pair of reason code and object that the check refuses. -/
def State.refusals (s : State) : List (Nat × Nat) :=
  let vs := s.views
  let ws := s.allWords vs
  s.checkTimeline ++ s.checkSpindles vs ++ s.checkSynth ws ++ s.checkStreams ws ++ s.checkRead ws ++ s.checkFabric ++
    s.checkCascade ++ s.checkBobbins ++ s.checkMemory ++ s.checkHost ++ s.checkSecurity ++ s.checkSafety ++ s.checkPower ws

end Sys2Proof.Machine
end

