-- ==== Sys2Proof/Machine/Supervisor.lean ====
section
/-! DEFINITION. Machine/Supervisor.lean: the commands of the tension supervisor (spec/14). -/

namespace Sys2Proof.Machine

/-! ### Breaches -/

/-- QUAL + 1 consecutive samples qualify a comparator's breach (R456). -/
def State.qualifies (s : State) (m samples : Nat) : Bool := decide (s.fld (Fld.SUP_MON_CFG_QUAL m) < samples)

/-- Both comparators of a threshold, or the one that is left in use, have shown a breach on so many samples: it becomes qualified once (R456),
and one that stands is detected when its failure is armed (R447). -/
def levelBreach (m : Nat) (lo : Bool) (samples : Nat) (s : State) : State :=
  let cs := (if lo then [2, 3] else [0, 1]).filter (s.cmpUsed m)
  if cs.isEmpty || !s.qualifies m samples then s
  else
    let x := s.mon m
    let df := s.levelCause m
    let s := if cs.all x.cmps.contains then s
      else flagBreach m df (s.setMon m { x with cmps := x.cmps.filter (fun c => !cs.contains c) ++ cs })
    detect df m s

/-- MONITOR_BREACH: a level breach of a monitor; or what DF5 watches beside the monitors' levels (R446). A marker or trigger ball has no
monitor, so the object is 0 (log entry 103). -/
def execMonitorBreach (b : Breach) (s : State) : Host.Outcome State Fault Refusal :=
  .next <| match b with
    | .level m lo samples => levelBreach m lo samples s
    | .outputHigh _ => detect 5 0 s
    | .switchNotInert m => if s.mode = 3 then detect 5 m s else s

/-- MONITOR_BREACH_CLEAR: a qualified comparator shows no breach on one sample (R456). -/
def execMonitorBreachClear (m : Fin 240) (c : Fin 4) (s : State) : Host.Outcome State Fault Refusal :=
  .next (showBreach m (s.setMon m { s.mon m with cmps := (s.mon m).cmps.filter (· != c.val) }))

/-- One RF port's evaluation (R458). -/
def df2Evaluate (m : Nat) (ps : List Nat) (s : State) : State :=
  let x := s.mon m
  let powers := (ps.reverse ++ x.powers).take 1000
  let above := decide (s.fld (Fld.SYN_PWR_ENV_AVG m s.pwrBand) * 1000 < powers.sum * 64) && s.monOn m
  let s := s.setMon m { x with powers := powers, avg := above }
  if above then detect 2 m (flagBreach m 2 s) else showBreach m s

/-- DF2_EVALUATION: `powers` gives, port by port, what the 50 periods since the evaluation before delivered, oldest first, in units of
1/512 of full-scale sine power (R458). -/
def execDf2Evaluation (powers : List (List Nat)) (s : State) : Host.Outcome State Fault Refusal :=
  .next (forN 48 (fun m s => df2Evaluate m ((powers.getD m []).take 50) s) s)

/-- BIAS_STEP_SAMPLE: the current of a bias port, 3 µs after an update, in nA (R455, R459). -/
def biasStepSample (b : Nat) (nA : Int) (s : State) : State :=
  let m := 176 + b
  let x := s.mon m
  if !s.monOn m then s
  else
    let above := match x.prev with
      | none => false
      | some p =>
        if s.spindlesRun then decide (1000 * s.fld (Fld.SUP_MON_SLEW_SLEW_THR m) < (nA - p).natAbs)
        else decide (p.natAbs + 2000 < nA.natAbs)
    let s := s.setMon m { x with prev := some nA, step := above }
    let df := s.stepCause
    if above then detect df m (flagBreach m df s) else showBreach m s

/-- BIAS_STEP_SAMPLE. -/
def execBiasStepSample (b : Fin 64) (nA : Int) (s : State) : Host.Outcome State Fault Refusal := .next (biasStepSample b nA s)

/-- A self-test item fails: DF10 (R468); a copy mismatch stands until power-on reset (R452). -/
def selftestFail (k : Nat) (s : State) : State :=
  let s := ((s.put Fld.SUP_SELFTEST_FAIL_ITEM k).put Fld.SUP_SELFTEST_FAILED 1).put Fld.SUP_STATUS_SELFTEST_OK 0
  detect 10 k { s with sup := { s.sup with df10 := true, mismatch := s.sup.mismatch || k == 1, passFailed := true } }

/-- CLOCK_CHECK: `count` is the number of CK_S/320 periods in 50 cycles of SUPCK (R446); where DF6 is not armed and the PLL is locked, it is
item 2 of the self-test (R468). -/
def execClockCheck (count : Nat) (s : State) : Host.Outcome State Fault Refusal :=
  .next <|
    let off := decide (count * 50 + 50 < 50 * 50) || decide (50 * 50 + 50 < count * 50)
    if s.spindlesRun then
      if !s.reelValid || (!s.pllLock && !s.glb.relock) || off then detect 6 0 s else s
    else if off && s.pllLock then selftestFail 2 s
    else s

/-- HEARTBEAT_TIMEOUT: 400 SUPCK cycles, which are at least 3,960 ticks, without a token of an enabled spindle (R448). -/
def execHeartbeatTimeout (n : Fin 64) (s : State) : Host.Outcome State Fault Refusal :=
  .next <|
    if s.spindlesRun && s.bit (Fld.SPN_CTL_EN n) && decide ((s.spindle n).tokenTick + 3960 ≤ s.tick) then detect 7 n s else s

/-- UE_LINE: an uncorrectable-error line is raised for a word of SRAM (R444, R446); only the readers of regions 0, 1, 3 and 4 have one
(R352). -/
def execUeLine (off : Fin 0x4000000) (s : State) : Host.Outcome State Fault Refusal :=
  .next (if [0, 1, 3, 4].contains (sramRegion off) then detect 8 (sramRegion off) s else s)

/-- PLANT_ILK_CHANGE (R461). -/
def plantIlk (asserted : Bool) (s : State) : State :=
  if s.bit Fld.SUP_STATUS_ILK == !asserted then s
  else
    let s := permitting (fun s => s.put Fld.SUP_STATUS_ILK (b2n !asserted)) s
    let s := s.raise Fld.SUP_EVENT_ILK_CHG
    if asserted then detect 9 0 s else s

/-- PLANT_ILK_CHANGE. -/
def execPlantIlkChange (asserted : Bool) (s : State) : Host.Outcome State Fault Refusal := .next (plantIlk asserted s)

/-! ### The trip (R449, R451) -/

/-- The order of causes detected together: the lowest DF number, a DF before an S3 error. -/
def firstOf : List Detection → Option Detection
  | [] => none
  | d :: ds => match firstOf ds with
    | none => some d
    | some e => if e.cause < d.cause then some e else some d

/-- The record of R451. -/
def recordTrip (ds : List Detection) (s : State) : State :=
  let s := forAll (fun d s => seen d.cause s) ds s
  match firstOf ds with
  | some d => recordFirst d s
  | none => s

/-- M7 is entered: what was under way in mode control ends, and a request in progress is abandoned. -/
def enterSafe (s : State) : State :=
  let s := { s with sup := { s.sup with arb := none, hold := none } }
  let s := if s.glb.reqTick = some s.tick then s.put Fld.GLB_MODE_STATUS_REQ_RESULT 6 else finishRequest 6 s
  enterMode 7 { s with glb := { s.glb with tripTick := some s.tick } }

/-- A trip: every permit stops, the trip is recorded, and M7 is entered. -/
def trip (s : State) : State :=
  if s.sup.detect.isEmpty ∨ s.mode = 7 then { s with sup := { s.sup with detect := [] } }
  else
    let ds := s.sup.detect
    let s := permitting (fun s => { s with sup := { s.sup with permits := false, detect := [] } }) s
    let s := (recordTrip ds s).raise Fld.SUP_EVENT_TRIP
    enterSafe (s.put Fld.SUP_STATUS_TRIPPED 1)

/-- TRIP. -/
def execTrip (s : State) : Host.Outcome State Fault Refusal := .next (trip s)

/-- PERMIT_LOSS: no permit wave on the global permit line for 2 µs (R445). -/
def execPermitLoss (s : State) : Host.Outcome State Fault Refusal :=
  .next (if s.mode = 7 then s else enterSafe (permitting (fun s => { s with sup := { s.sup with permits := false } }) s))

/-- SUP_SUPPLY_FAIL: every permit ends with VDD_SUP (R443). -/
def execSupSupplyFail (s : State) : Host.Outcome State Fault Refusal :=
  .next (permitting (fun s => { s with sup := { s.sup with permits := false } }) s)

/-- BIAS_SAFE_RAMP_STEP (R450). -/
def execBiasSafeRampStep (b : Fin 64) (s : State) : Host.Outcome State Fault Refusal := .next (safeRampStep b s)

/-- PERMITS_RESTORE (R515): the ports have ramped down and, after a reset in M7, no cause is active; the S3 error is current no more
(R479). -/
def execPermitsRestore (s : State) : Host.Outcome State Fault Refusal :=
  .next <|
    if !s.sup.permits && s.glb.released && s.mode != 7 && !s.ramping && (!s.sup.held || s.activeBits == 0) then
      { s with sup := { s.sup with permits := true, held := false, s3 := none } }
    else s

/-! ### Disagreement and arbitration (R462 to R464) -/

/-- One comparator of a threshold shows a qualified breach and its partner, in use too, does not. -/
def disagree (m c samples : Nat) (s : State) : State :=
  let partner := if c % 2 = 0 then c + 1 else c - 1
  if !s.qualifies m samples ∨ !s.cmpUsed m c ∨ !s.cmpUsed m partner ∨ (s.mon m).cmps.contains partner then s
  else if s.sup.arb.isSome then
    let s := s.setMon m { s.mon m with cmps := c :: (s.mon m).cmps }
    let s := flagBreach m (s.levelCause m) s
    detect (s.levelCause m) m ((s.raise Fld.SUP_EVENT_DISAGREE).report 12 2 m 1)
  else
    let s := s.setMon m { s.mon m with cmps := c :: (s.mon m).cmps }
    let s := flagBreach m (s.levelCause m) s
    let s := (s.raise Fld.SUP_EVENT_DISAGREE).report 12 2 m 1
    { s with sup := { s.sup with arb := some ⟨m, c, s.tick⟩, hold := some (monPort m) } }

/-- DISAGREE. -/
def execDisagree (m : Fin 240) (c : Fin 4) (samples : Nat) (s : State) : Host.Outcome State Fault Refusal :=
  .next (disagree m c samples s)

/-- A threshold code as the monitor ADCs read it (R453). -/
def codeLsb (m code : Nat) : Int := if m < 48 then 64 * (code : Int) else 64 * ((code : Int) - 512)

/-- A port on hold stays so until the trip (R463); in M7 that lies behind. -/
def holdUntilTrip (s : State) : State := if s.mode = 7 then { s with sup := { s.sup with hold := none } } else s

/-- The decision: `a` and `b` are the readings of the held quantity, `dac` that of the threshold (R463). -/
def arbitrate (x : Arb) (a b dac : Int) (s : State) : State :=
  let lsb := codeLsb x.m (if x.cmp < 2 then s.hiCode x.m else s.loCode x.m)
  let s := { s with sup := { s.sup with arb := none } }
  if 128 < (a - b).natAbs ∨ 128 < (dac - lsb).natAbs then
    holdUntilTrip (detect 10 0 { s with sup := { s.sup with df10 := true } })
  else if (if x.cmp < 2 then decide (2 * lsb < a + b) else decide (a + b < 2 * lsb)) then
    holdUntilTrip (detect (s.levelCause x.m) x.m s)
  else
    let s := s.put (Fld.SUP_MON_STATUS_CMP_DIS x.m) (setBit (s.fld (Fld.SUP_MON_STATUS_CMP_DIS x.m)) x.cmp)
    let s := (s.raise Fld.SUP_EVENT_DEGRADED).count Fld.SUP_TOL_DISAGREE
    let s := showBreach x.m (s.setMon x.m { s.mon x.m with cmps := (s.mon x.m).cmps.filter (· != x.cmp) })
    { s with sup := { s.sup with hold := none } }

/-- ARBITRATION_DECISION. -/
def execArbitrationDecision (a b dac : Int) (s : State) : Host.Outcome State Fault Refusal :=
  .next <| match s.sup.arb with
    | some x => arbitrate x a b dac s
    | none => s

/-! ### Blanks (R457) -/

/-- A monitor's pending blank opens after its delay. -/
def blankStart (m : Nat) (s : State) : State :=
  let x := s.mon m
  match x.pend with
  | none => s
  | some t =>
    if s.tick * 100 < t * 100 + 990 * s.fld (Fld.SUP_MON_CFG_BLANK_DLY m) then s
    else
      let len := s.fld (Fld.SUP_MON_CFG_BLANK_LEN m)
      let s := s.setMon m { x with pend := none, blank := some ⟨s.tick, s.tick + 10 * len⟩, cmps := if len = 0 then x.cmps else [] }
      if len = 0 then s else showBreach m (s.put (Fld.SUP_MON_STATUS_BLANKED m) 1)

/-- BLANK_START. -/
def execBlankStart (m : Fin 240) (s : State) : Host.Outcome State Fault Refusal := .next (blankStart m s)

/-- BLANK_END: BLANK_LEN has passed. -/
def execBlankEnd (m : Fin 240) (s : State) : Host.Outcome State Fault Refusal :=
  .next <| match (s.mon m).blank with
    | some b =>
      if s.bit (Fld.SUP_MON_STATUS_BLANKED m) && decide (b.start * 100 + 990 * s.fld (Fld.SUP_MON_CFG_BLANK_LEN m) ≤ s.tick * 100) then
        (s.put (Fld.SUP_MON_STATUS_BLANKED m) 0).setMon m { s.mon m with blank := some { b with stop := s.tick } }
      else s
    | none => s

/-! ### Monitor ADCs (R465 to R467) -/

/-- A host conversion of an ADC is pending or under way (R467). -/
def State.madcBusy (s : State) (x : Nat) : Bool := (sget (fun _ => none) s.sup.madc x).isSome || (sget (fun _ => none) s.sup.conv x).isSome

/-- A write of SUP_MADC_CTL (R467). -/
def madcStart (x : Nat) (v : Word) (s : State) : State :=
  if fieldGet v (Fld.SUP_MADC_CTL_START x) = 0 then s
  else if s.madcBusy x then
    s.raise Fld.SUP_EVENT_MADC_REFUSED
  else
    { s with sup := { s.sup with madc := sset (fun _ => none) s.sup.madc x (some (fieldGet v (Fld.SUP_MADC_CTL_MUX x))) } }

/-- MADC_START. -/
def execMadcStart (path : Path) (x : Fin 2) (v : Word) (s : State) : Host.Outcome State Fault Refusal :=
  .next (gated path (Reg.SUP_MADC_CTL x) (madcStart x v) s)

/-- The code that a threshold DAC of a monitor holds (R454, R455): 0 HI, 1 LO, 2 slew. -/
def State.dacCode (s : State) (m d : Nat) : Nat :=
  match d with
  | 0 => s.hiCode m
  | 1 => if m < 48 then s.fld (Fld.SUP_MON_THR_LO m) else s.loCode m
  | _ => s.fld (Fld.SUP_MON_SLEW_SLEW_THR m)

/-- What ADC `x` converts from input `mux`, where the input carries `value`: inputs 240 to 479 carry threshold DACs, which read their codes
(R466, R453). -/
def State.madcReads (s : State) (x mux value : Nat) : Nat :=
  if 240 ≤ mux ∧ mux < 480 then
    let m := mux - 240
    twos 16 (codeLsb m (s.dacCode m (if x = 0 then 0 else if 176 ≤ m then 2 else 1)))
  else value

/-- One ADC's conversion of a slot: an arbitration comes first, then a pending host conversion (R465). -/
def madcConvert (x value : Nat) (s : State) : State :=
  if s.sup.arb.isSome then s
  else match sget (fun _ => none) s.sup.madc x with
    | some mux => { s with sup := { s.sup with madc := sset (fun _ => none) s.sup.madc x none,
                                               conv := sset (fun _ => none) s.sup.conv x (some (mux, s.madcReads x mux value)) } }
    | none => s

/-- The nominal values of the rails, by tap, in mV (R509). -/
def railNominal : List Int :=
  [750, 800, 850, 1800, 1800, 1800, 1200, 850, 850, 1200, 850, 1200,
   1800, 1100, 800, 1000, 1800, 800, 1000, 1800, 3300, -3300, 5000, -5000]

/-- A supply reading lies outside ±5 % of nominal (R466). -/
def supplyBad (k : Nat) (mV : Int) : Bool :=
  let n := railNominal.getD k 0
  decide (n.natAbs < 20 * (mV - n).natAbs)

/-- MADC_SLOT: what the inputs of the two ADCs carry in the slot, and a supply tap that is read in it (R465, R466). -/
def execMadcSlot (a b : BitVec 16) (tap : Option (Fin 24 × Int)) (s : State) : Host.Outcome State Fault Refusal :=
  .next <|
    let s := madcConvert 1 b.toNat (madcConvert 0 a.toNat s)
    match tap with
    | some (k, mV) => if s.sup.arb.isSome ∨ !supplyBad k mV then s else (s.raise Fld.SUP_EVENT_SUPPLY).report 12 1 k 2
    | none => s

/-- MADC_DONE: a host conversion writes its result (R467). -/
def execMadcDone (x : Fin 2) (s : State) : Host.Outcome State Fault Refusal :=
  .next <| match sget (fun _ => none) s.sup.conv x with
    | some (mux, value) =>
      let s := { s with sup := { s.sup with conv := sset (fun _ => none) s.sup.conv x none } }
      let s := if s.bit (Fld.SUP_MADC_RESULT_VALID x) then
          ((s.raise (Fld.SUP_MADC_RESULT_OVERRUN x)).raise Fld.SUP_EVENT_MADC_OVR).report 12 3 x 0
        else s
      let s := (s.put (Fld.SUP_MADC_RESULT_VALUE x) value).put (Fld.SUP_MADC_RESULT_MUX x) mux
      (s.put (Fld.SUP_MADC_RESULT_VALID x) 1).raise ⟨Reg.SUP_EVENT, 8 + x, 1⟩
    | none => s

/-! ### Self-test (R468, R464) -/

/-- SUP_CMD.CLR_TRIP: the record is cleared; discarded in M7 (R451). -/
def clrTrip (s : State) : State :=
  if s.mode = 7 then s
  else ((s.wr Reg.SUP_TRIP 0).wr Reg.SUP_TRIP_SEEN 0).wr Reg.SUP_TRIP_ERR 0

/-- A self-test pass begins; one in progress is abandoned (R468). -/
def startPass (s : State) : State := { s with sup := { s.sup with passAt := s.tick, passFailed := false } }

/-- A write of SUP_CMD: a self-test pass begins anew, and CLR_TRIP acts. -/
def supCmdWrite (path : Path) (v : Word) (s : State) : State :=
  gated path Reg.SUP_CMD (fun s =>
    let s := if bitOf v.toNat 0 then startPass s else s
    if bitOf v.toNat 1 then clrTrip s else s) s

/-- SELFTEST_START: a write of SUP_CMD with SELFTEST, whatever its other bit. -/
def execSelftestStart (path : Path) (v : Word) (s : State) : Host.Outcome State Fault Refusal :=
  .next (supCmdWrite path (v ||| 1) s)

/-- CLR_TRIP: a write of SUP_CMD with CLR_TRIP, whatever its other bit. -/
def execClrTrip (path : Path) (v : Word) (s : State) : Host.Outcome State Fault Refusal :=
  .next (supCmdWrite path (v ||| 2) s)

/-- A comparator fails its item: no breach within 1 µs, or one that persists 1 µs after the removal (R468). -/
def cmpFails (p : Fin 240 × Fin 4 × Nat × Nat) : Bool := decide (1000 < p.2.2.1) || decide (1000 ≤ p.2.2.2)

/-- Two consecutive checks of input 511 differ by more than 32 LSB (R468). -/
def crossFails : List (Int × Int) → Bool
  | p :: q :: l => (decide (32 < (p.1 - p.2).natAbs) && decide (32 < (q.1 - q.2).natAbs)) || crossFails (q :: l)
  | _ => false

/-- The items of a self-test pass that fail on what they found (R468). Item 2 is CLOCK_CHECK's. -/
def State.failedItems (s : State) (r : SelfTest) : List Nat :=
  (if r.copies then [1] else []) ++
  (if r.dacs.any fun p => s.monOn p.1 && decide (128 < (p.2.2 - codeLsb p.1 (s.dacCode p.1 p.2.1)).natAbs) then [3] else []) ++
  (if r.cmps.any fun p => s.monOn p.1 && !bitOf (s.fld (Fld.SUP_MON_STATUS_CMP_DIS p.1)) p.2.1 && cmpFails p then [4] else []) ++
  (if crossFails r.cross then [5] else []) ++
  (if r.detectors.any (· != s.permitted) then [6] else []) ++
  (if r.reference < 9900 ∨ 10100 < r.reference then [7] else [])

/-- The comparators that are to be tested again and pass their item are enabled once more (R464). -/
def enableCmps (r : SelfTest) (s : State) : State :=
  let ok := s.sup.retest.filter fun p => !(r.cmps.any fun c => c.1.val == p.1 && c.2.1.val == p.2 && cmpFails c)
  let s := forAll (fun p s =>
    let f := Fld.SUP_MON_STATUS_CMP_DIS p.1
    s.put f (clrBit (s.fld f) p.2)) ok s
  { s with sup := { s.sup with retest := [] } }

/-- The least length of a pass of 100 ms, in ticks, where SUPCK runs 1 % fast (R468, R442). -/
def passTicks : Nat := 49500000

/-- A self-test pass tells what its items found: failures are DF10, and a pass whose 100 ms have passed ends; after one without failure
no DF10 cause stands but a mismatch (R468, R452, R464). -/
def selftestEnd (r : SelfTest) (s : State) : State :=
  let s := forAll selftestFail (s.failedItems r) s
  if s.tick < s.sup.passAt + passTicks then s
  else if s.sup.passFailed then startPass s
  else
    let s := ((s.count Fld.SUP_SELFTEST_PASSES).put Fld.SUP_SELFTEST_FAILED 0).put Fld.SUP_STATUS_SELFTEST_OK 1
    let s := enableCmps r (s.raise Fld.SUP_EVENT_SELFTEST_PASS)
    startPass { s with sup := { s.sup with df10 := false } }

/-- SELFTEST_PASS_END. -/
def execSelftestPassEnd (found : SelfTest) (s : State) : Host.Outcome State Fault Refusal := .next (selftestEnd found s)

/-! ### Monitor flags and qualification -/

/-- A write that clears a monitor's FLAG: with LATCH = 1 it is discarded while the indication shows a breach (R460). -/
def monFlagWrite (path : Path) (m : Nat) (v : Word) (s : State) : State :=
  let stands := s.bit (Fld.SUP_MON_CFG_LATCH m) && s.bit (Fld.SUP_MON_STATUS_BREACH m)
  plainWrite path (Reg.SUP_MON_STATUS m) (if stands then v &&& ~~~Field.mask (Fld.SUP_MON_STATUS_FLAG m) else v) s

/-- MON_FLAG_CLEAR. -/
def execMonFlagClear (path : Path) (m : Fin 240) (s : State) : Host.Outcome State Fault Refusal :=
  .next (monFlagWrite path m 1 s)

/-- MONITOR_QUALIFY: 1 ms of valid non-breach level (R461). -/
def execMonitorQualify (m : Fin 240) (s : State) : Host.Outcome State Fault Refusal :=
  .next (if s.monOn m then refreshQualified (s.put (Fld.SUP_MON_STATUS_QUALIFIED m) 1) else s)

/-! ### Temperature (R471 to R474) -/

/-- The edges of a sensor. -/
def State.edges (s : State) (k : Nat) : List Nat := (List.range 4).map fun i => s.fld (Fld.SUP_TS_EDGE_VALUE k i)

/-- The reading's place: within 5 % of a value (R471). -/
def nearValue (v e : Nat) : Bool := decide (20 * ((v : Int) - e).natAbs ≤ e)

/-- A band changed: the bands that follow it change (R473, R206, R360). R206 speaks of M5 and M6; the calibration set changes with the band in every
mode (DESIGN CHOICE, log entry 133). -/
def bandChanged (k band : Nat) (s : State) : State :=
  let cal := s.calBand
  let s := ((s.put (Fld.SUP_TS_STATUS_BAND k) band).raise Fld.SUP_EVENT_BAND_CHG).report 12 7 k 0
  let s := if s.calBand = cal then s else scheduleChange (.calSet s.calBand) s
  if 12 ≤ k ∧ k < 16 then stackBand (k - 12) band s else s

/-- One edge after a reading: whether it is held, and its count of readings past its cool side (R472). -/
def edgeAfter (high : Bool) (v e cool : Nat) (held : Bool) : Bool × Nat :=
  if atOrPast high v e then (true, 0)
  else if wellCool high v e then (if held && decide (cool + 1 < 3) then (true, cool + 1) else (false, 0))
  else (held, 0)

/-- A reading lies within the range of its sensor's mode: 20 K to 400 K, or 10 Ω to 10 MΩ (R470, R526). -/
def State.inRange (s : State) (k v : Nat) : Bool :=
  if k < 16 then true
  else if s.bit (Fld.SUP_TS_CFG_MODE k) then decide (2560 ≤ v) && decide (v ≤ 2560000000)
  else decide (1310720 ≤ v) && decide (v ≤ 26214400)

/-- A measurement of a sensor (R471 to R474). -/
def sensorMeasure (k : Nat) (reading : Option Word) (s : State) : State :=
  if !s.tsOn k then s
  else
    let limit := s.fld (Fld.SUP_TS_LIMIT_VALUE k)
    match reading.filter fun w => s.inRange k w.toNat with
    | none =>
      let s := (s.put (Fld.SUP_TS_STATUS_VALID k) 0).raise Fld.SUP_EVENT_TS_INVALID
      let s := { s with sup := { s.sup with ts := sset (fun _ => {}) s.sup.ts k (Sensor.mk [0, 0, 0, 0] 0 true) } }
      if s.tsLimitOn k then detect 11 k s else s.report 12 5 k 2
    | some w =>
      let v := w.toNat
      let high := s.hotHigh k
      let es := s.edges k
      let band := s.fld (Fld.SUP_TS_STATUS_BAND k)
      let after := (List.range 4).map fun i => edgeAfter high v (es.getD i 0) ((s.sensor k).cool.getD i 0) (decide (i < band))
      let beyond := atOrPast high v limit && v != limit
      let x := s.sensor k
      let past := if beyond then x.past + 1 else 0
      let s := (s.wr (Reg.SUP_TS_VALUE k) w).put (Fld.SUP_TS_STATUS_VALID k) 1
      let rate := if atOrPast high v (es.getD 3 0) then 2 else if (limit :: es).any (nearValue v) then 1 else 0
      let s := s.put (Fld.SUP_TS_STATUS_RATE k) rate
      let x := Sensor.mk (after.map Prod.snd) past (!wellCool high v limit)
      let s := { s with sup := { s.sup with ts := sset (fun _ => {}) s.sup.ts k x } }
      let band' := (after.filter Prod.fst).length
      let s := if band' = band then s else bandChanged k band' s
      if s.tsLimitOn k && decide (2 ≤ past) then detect 11 k s else s

/-- SENSOR_MEASURE: the reading of a sensor in its own units, or none where its input is open or shorted. -/
def execSensorMeasure (k : Fin 24) (reading : Option Word) (s : State) : Host.Outcome State Fault Refusal :=
  .next (sensorMeasure k reading s)

/-! ### Errors (R476 to R479) -/

/-- The reports of a cycle are taken in their order. -/
def errorReport (s : State) : State :=
  let rs := s.sup.reports.foldl (fun l r => insertReport r l) []
  forAll takeReport rs { s with sup := { s.sup with reports := [] } }

/-- ERROR_REPORT. -/
def execErrorReport (s : State) : Host.Outcome State Fault Refusal := .next (errorReport s)

/-- A write of SUP_ERR_ACK removes the current entry that it names (R478, R479). -/
def errAck (v : Word) (s : State) : State :=
  if s.sup.s3.isSome then s
  else match s.errCurrent with
    | some e => if e.seq = fieldGet v Fld.SUP_ERR_ACK_SEQ then s.setErrQueue e.rep.sev ((s.errQueue e.rep.sev).drop 1) else s
    | none => s

/-- ERR_ACK. -/
def execErrAck (path : Path) (v : Word) (s : State) : Host.Outcome State Fault Refusal :=
  .next (gated path Reg.SUP_ERR_ACK (errAck v) s)

end Sys2Proof.Machine
end

