-- ==== Sys2Proof/Machine/Mode.lean ====
section
/-! DEFINITION. Machine/Mode.lean: the commands of mode control and the sample clock (spec/01). -/

namespace Sys2Proof.Machine

/-! ### GLB_MODE_CTL (R34, R44, R46, R47, R537) -/

/-- The outcome of the write in hand. -/
def reqResult (r : Nat) (s : State) : State := s.put Fld.GLB_MODE_STATUS_REQ_RESULT r

/-- A path may write GLB_MODE_CTL with this REQ (R403, R436, R316). -/
def State.mayRequest (s : State) (p : Path) (req : Nat) : Bool :=
  match p with
  | .smbus => (req == 4 || req == 5) && decide (3 ≤ s.mode) && decide (s.mode ≤ 6)
  | .remote => s.mayWrite p Reg.GLB_MODE_CTL && req != 7
  | _ => s.mayWrite p Reg.GLB_MODE_CTL

/-- A request leaves M4: it waits for the bias sources to reach 0 (R170). -/
def leaveM4 (req m result : Nat) (s : State) : State :=
  if s.biasOn then reqResult 1 { s with glb := { s.glb with rampTo := some (req, m) } }
  else goTo m (reqResult (if m = 0 then 1 else result) s)

/-- A restoration from DORMANT begins (R498). -/
def beginRestore (req : Nat) (s : State) : State :=
  let s := { s with glb := { s.glb with restoring := some req }, pwr := { s.pwr with restore := none } }
  if s.fld Fld.PWR_STATUS_DORM_LEVEL = 3 ∧ s.role ≠ 2 then { s with glb := { s.glb with syncDue := true } } else s

/-- The lesser of two refusals: by code, then by object (R427). -/
def lesser (a b : Nat × Nat) : Nat × Nat := if b.1 < a.1 ∨ (b.1 = a.1 ∧ b.2 < a.2) then b else a

/-- The pairs of a list, each once. -/
def distinct : List (Nat × Nat) → List (Nat × Nat)
  | [] => []
  | x :: xs => if xs.contains x then distinct xs else x :: distinct xs

/-- The check's first refusal and their number, from the pairs that it refuses. -/
def checkResult (rs : List (Nat × Nat)) : Option ((Nat × Nat) × Nat) :=
  match distinct rs with
  | [] => none
  | x :: xs => some (xs.foldl lesser x, xs.length + 1)

/-- The check begins (R425): every rule is evaluated on the state of this tick. -/
def startCheck (s : State) : State :=
  let found := checkResult s.refusals
  let s := (s.wr Reg.GLB_CHECK_STATUS 0).wr Reg.GLB_CHECK_OBJECT 0
  { reqResult 1 s with glb := { s.glb with checkOn := true, checkTick := s.tick, checkFound := found } }

/-- CLEAR_SAFE is accepted: permits return and the S3 error is current no more (R452, R479). -/
def acceptClear (s : State) : State :=
  let s := (s.put Fld.SUP_STATUS_TRIPPED 0)
  let s := { s with sup := { s.sup with permits := true, held := false, s3 := none } }
  if s.bit Fld.GLB_MODE_STATUS_CFG_VALID then enterMode 2 (reqResult 2 s) else beginClearing (reqResult 1 s)

/-- A request that is neither malformed nor untimely acts, or is not legal in the present mode (R34). -/
def actRequest (p : Path) (req : Nat) (s : State) : State :=
  let no := reqResult 3 s
  let yes := { s with glb := { s.glb with reqTick := some s.tick } }
  match req, s.mode with
  | 1, 0 => if s.sec.lcs = 3 then no else enterMode 1 (reqResult 2 yes)
  | 2, 2 => beginRestore 2 (reqResult 1 yes)
  | 2, 4 => leaveM4 2 3 1 yes
  | 3, 2 => beginRestore 3 (reqResult 1 yes)
  | 3, 3 => (reqResult 1 yes).put Fld.GLB_MODE_STATUS_ARM_PENDING 1
  | 4, 5 => stopAllSpindles { reqResult 1 yes with glb := { yes.glb with stopTick := some s.tick } }
  | 4, 6 =>
    if s.glb.m6Stopped then reqResult 2 yes
    else stopAllSpindles { reqResult 1 yes with glb := { yes.glb with stopTick := some s.tick } }
  | 5, 3 => enterMode 2 (reqResult 2 yes)
  | 5, 4 => leaveM4 5 2 2 yes
  | 6, 1 => beginClearing (reqResult 1 (abortLoad yes))
  | 6, 2 => beginClearing (reqResult 1 yes)
  | 6, 3 => beginClearing (reqResult 1 yes)
  | 6, 4 => leaveM4 6 0 2 yes
  | 7, 7 =>
    if p = .tap then no
    else if s.activeBits = 0 ∧ !s.ramping then acceptClear yes
    else no.raise Fld.SUP_EVENT_CLEAR_REFUSED
  | _, _ => no

/-- A write of GLB_MODE_CTL: recorded, then judged by KEY, a trip of the same tick, BUSY, and RUN beside REQ. -/
def modeCtl (p : Path) (req : Nat) (run : Bool) (key : Byte) (s : State) : State :=
  if !s.mayRequest p req then pathRefused p s
  else
    let s := s.answer .ok
    let s := (s.put Fld.GLB_MODE_STATUS_LAST_REQ req).put Fld.GLB_MODE_STATUS_LAST_RUN (b2n run)
    if key ≠ 0xA5 then reqResult 7 s
    else if s.glb.tripTick = some s.tick then reqResult 6 s
    else if s.modeBusy then reqResult 4 s
    else if run ∧ req ≠ 0 then reqResult 3 s
    else if run then (if s.mode = 4 then { startCheck s with glb := { (startCheck s).glb with reqTick := some s.tick } } else reqResult 3 s)
    else if req = 0 then reqResult 2 s
    else actRequest p req s

/-- REQ_NONE. -/
def execReqNone (path : Path) (key : Byte) (s : State) : Host.Outcome State Fault Refusal := .next (modeCtl path 0 false key s)

/-- REQ_LOAD. -/
def execReqLoad (path : Path) (key : Byte) (s : State) : Host.Outcome State Fault Refusal := .next (modeCtl path 1 false key s)

/-- REQ_CALIBRATE. -/
def execReqCalibrate (path : Path) (key : Byte) (s : State) : Host.Outcome State Fault Refusal :=
  .next (modeCtl path 2 false key s)

/-- REQ_ARM. -/
def execReqArm (path : Path) (key : Byte) (s : State) : Host.Outcome State Fault Refusal := .next (modeCtl path 3 false key s)

/-- REQ_STOP. -/
def execReqStop (path : Path) (key : Byte) (s : State) : Host.Outcome State Fault Refusal := .next (modeCtl path 4 false key s)

/-- REQ_DORMANT. -/
def execReqDormant (path : Path) (key : Byte) (s : State) : Host.Outcome State Fault Refusal := .next (modeCtl path 5 false key s)

/-- REQ_UNLOAD. -/
def execReqUnload (path : Path) (key : Byte) (s : State) : Host.Outcome State Fault Refusal := .next (modeCtl path 6 false key s)

/-- REQ_CLEAR_SAFE. -/
def execReqClearSafe (path : Path) (key : Byte) (s : State) : Host.Outcome State Fault Refusal :=
  .next (modeCtl path 7 false key s)

/-- REQ_RESERVED: a code 8 to 15. -/
def execReqReserved (path : Path) (code : Fin 8) (key : Byte) (s : State) : Host.Outcome State Fault Refusal :=
  .next (modeCtl path (8 + code) false key s)

/-- RUN: a write with RUN = 1; a REQ beside it refuses the whole write (R46). -/
def execRun (path : Path) (req : Fin 16) (key : Byte) (s : State) : Host.Outcome State Fault Refusal :=
  .next (modeCtl path req true key s)

/-! ### The check, clearing, restoration -/

/-- The check ends (R426, R427): its outcome is shown, and a check that refuses nothing is followed by M5 in the next tick. A check in
which the reel has lost its lock is abandoned by M6_ENTRY and ends no other way (R45). -/
def checkEnd (s : State) : State :=
  if s.glb.checkOn ∧ s.mode = 4 ∧ s.reelLock then
    let found := s.glb.checkFound
    let s := { s with glb := { s.glb with checkOn := false, checkFound := none } }
    let s := (s.put Fld.GLB_CHECK_STATUS_DONE 1).raise Fld.HIF_EVENT_CHECK_DONE
    match found with
    | some (p, n) =>
      let s := (s.put Fld.GLB_CHECK_STATUS_CODE p.1).put Fld.GLB_CHECK_STATUS_COUNT (min 255 n)
      reqResult 5 (s.wr Reg.GLB_CHECK_OBJECT (BitVec.ofNat 32 p.2))
    | none => reqResult 2 { s with later := s.later ++ [(s.tick + 1, .runStart)] }
  else s

/-- CHECK_END. -/
def execCheckEnd (s : State) : Host.Outcome State Fault Refusal := .next (checkEnd s)

/-- CONFIG_CLEAR_DONE: the configuration is clear and the mode reads M0 (R39). -/
def execConfigClearDone (s : State) : Host.Outcome State Fault Refusal :=
  .next (if s.glb.clearing then finishRequest 2 (enterMode 0 s) else s)

/-- DORMANT_RESTORE_DONE: every block is restored and M3 is entered (R498), or the shallower level is reached (R497). -/
def execDormantRestoreDone (s : State) : Host.Outcome State Fault Refusal :=
  .next <|
    match s.glb.restoring with
    | some req =>
      let s := enterMode 3 s
      if req = 3 then s.put Fld.GLB_MODE_STATUS_ARM_PENDING 1 else s
    | none => match s.pwr.restore with
      | some l =>
        let s := { s with pwr := { s.pwr with restore := none } }
        if s.mode = 2 then enterLevel l s.dormChoice.2 s else s
      | none => s

/-! ### Calibration and ARM (R35, R36, R519) -/

/-- CALIBRATION_START. -/
def execCalibrationStart (s : State) : Host.Outcome State Fault Refusal :=
  .next <|
    let aligned := if s.role = 2 then s.bit Fld.CSC_STATUS_SYNC_ALIGNED else s.bit Fld.GLB_CLK_STATUS_SYNC_DONE
    if s.mode == 3 && !s.glb.calOn && !s.bit Fld.GLB_MODE_STATUS_CAL_DONE && s.pllLock && aligned then
      { s with glb := { s.glb with calOn := true } }
    else s

/-- CALIBRATION_DONE: CAL_DONE is set; a CALIBRATE request has completed (R36). -/
def execCalibrationDone (s : State) : Host.Outcome State Fault Refusal :=
  .next <|
    if s.glb.calOn then
      let s := { s.put Fld.GLB_MODE_STATUS_CAL_DONE 1 with glb := { s.glb with calOn := false } }
      if s.bit Fld.GLB_MODE_STATUS_ARM_PENDING then s else finishRequest 2 s
    else s

/-- ARM_COMPLETE (R35). -/
def execArmComplete (s : State) : Host.Outcome State Fault Refusal :=
  .next <|
    if s.mode == 3 && s.bit Fld.GLB_MODE_STATUS_ARM_PENDING && s.bit Fld.GLB_MODE_STATUS_CAL_DONE && s.reelLock then
      finishRequest 2 (enterMode 4 s)
    else s

/-! ### M6 and stopping (R41, R42, R45, R77, R536) -/

/-- M6_ENTRY, in the tick after REEL_LOCK has fallen (R536): a check is abandoned (R45), and so is a ramp of R170. -/
def execM6Entry (s : State) : Host.Outcome State Fault Refusal :=
  .next <|
    if (s.mode = 4 ∨ s.mode = 5) ∧ s.glb.lock2 ∧ !s.glb.lock1 then
      let s := if s.glb.checkOn then reqResult 6 s else if s.glb.rampTo.isSome then finishRequest 6 s else s
      enterMode 6 s
    else s

/-- M6_EXIT, in the tick after REEL_LOCK has risen again (R536). -/
def execM6Exit (s : State) : Host.Outcome State Fault Refusal :=
  .next <|
    if s.mode = 6 ∧ !s.glb.lock2 ∧ s.glb.lock1 then
      if s.bit Fld.GLB_MODE_STATUS_HOLD_FROM_RUN ∧ !s.glb.m6Stopped then enterMode 5 s else enterMode 4 s
    else s

/-- A stop ends: M5 enters M4, and in M6 the spindles count as stopped. -/
def stopEnds (s : State) : State :=
  let s := finishRequest 2 s
  if s.mode = 5 then enterMode 4 (s.put Fld.GLB_MODE_STATUS_HOLD_FROM_RUN 0)
  else
    let s := s.put Fld.GLB_MODE_STATUS_HOLD_FROM_RUN 0
    stopInM6 { s with glb := { s.glb with stopTick := none } }

/-- No routine executes, the last one having ended in an earlier tick, and no segment plays up to the ball (R42). -/
def State.atRest (s : State) : Bool :=
  ((List.range 64).all fun n => s.routineOver n) && !(s.syn.tgt.map Prod.fst).any s.tgtBusy

/-- STOP_COMPLETE. -/
def execStopComplete (s : State) : Host.Outcome State Fault Refusal :=
  .next <| match s.glb.stopTick with
    | some t => if t < s.tick ∧ s.atRest ∧ s.spindlesRun then stopEnds s else s
    | none => s

/-- STOP_TIMEOUT: 5,000 ticks after the stop. -/
def execStopTimeout (s : State) : Host.Outcome State Fault Refusal :=
  .next <| match s.glb.stopTick with
    | some t => if t + 5000 ≤ s.tick ∧ s.spindlesRun then stopEnds s else s
    | none => s

/-- HOLD_EXPIRED: MAX ms in HOLDOVER under CONTINUE, once in each HOLDOVER; spindles that run and do not stop already are stopped
(R77). -/
def execHoldExpired (s : State) : Host.Outcome State Fault Refusal :=
  .next <|
    let ms := s.fld Fld.TLN_HOLD_POLICY_MAX
    if s.mode = 6 ∧ s.fld Fld.TLN_HOLD_POLICY_POLICY = 1 ∧ ms ≠ 0 ∧ s.reelState = 3 ∧ !s.tln.expired ∧
        s.tln.holdTick + 500000 * ms ≤ s.tick then
      let s := s.raise Fld.TLN_EVENT_HOLD_EXPIRED
      let s := { s with tln := { s.tln with expired := true } }
      if s.spindlesRun ∧ s.glb.stopTick.isNone then stopAllSpindles { s with glb := { s.glb with stopTick := some s.tick } } else s
    else s

/-- BIAS_RAMP_TRANSITION, in the tick after the last bias source has reached 0 (R170). -/
def execBiasRampTransition (s : State) : Host.Outcome State Fault Refusal :=
  .next <| match s.glb.rampTo with
    | some (req, m) =>
      if s.biasOn || s.glb.bias1 || !s.glb.bias2 then s
      else
        let s := { s with glb := { s.glb with rampTo := none } }
        if m = 0 then beginClearing s else if req = 5 then finishRequest 2 (enterMode m s) else enterMode m s
    | none => s

/-! ### Sample clock (R20 to R25, R518, R538, R539) -/

/-- A flag of GLB_CLK_STATUS is set, and HIF_EVENT.CLK with it. -/
def clkEvent (f : Field) (s : State) : State := (s.raise f).raise Fld.HIF_EVENT_CLK

/-- The selected reference is present. -/
def State.refPresent (s : State) : Bool := s.glb.refs.contains (s.fld Fld.GLB_CLK_CTL_REF_SRC)

/-- REF_PRESENT follows the selected reference. -/
def showRef (s : State) : State := s.put Fld.GLB_CLK_STATUS_REF_PRESENT (b2n s.refPresent)

/-- The PLL runs on or relocks to a newly selected reference (R539). -/
def reselectRef (s : State) : State :=
  let s := showRef s
  if s.pllOff then s
  else
    let s := ((s.put Fld.GLB_CLK_STATUS_PLL_LOCK 0).put Fld.GLB_CLK_STATUS_TUNE_FROZEN 0).put Fld.GLB_CLK_STATUS_SYNC_DONE 0
    let s := losePhases (enterHoldover (s.put Fld.GLB_MODE_STATUS_CAL_DONE 0))
    { s with glb := { s.glb with relock := true, calOn := false, syncDue := true } }

/-- SYNC at the host's request is taken (R22). -/
def State.takesSync (s : State) : Bool := (s.mode == 2 || s.mode == 3 || s.mode == 7) && s.role != 2

/-- SYNC at the host's request (R22). -/
def syncRequest (s : State) : State :=
  if s.takesSync then applySync (s.alignTick s.tick) s else clkEvent Fld.GLB_CLK_STATUS_SYNC_REFUSED s

/-- A write of GLB_CLK_CTL: REF_SRC under R7, R538 and R539, and SYNC. -/
def clkCtlWrite (path : Path) (v : Word) (s : State) : State :=
  gated path Reg.GLB_CLK_CTL (fun s =>
    let was := s.fld Fld.GLB_CLK_CTL_REF_SRC
    let src := fieldGet v Fld.GLB_CLK_CTL_REF_SRC
    let s :=
      if src = was then s
      else if s.rwlLocked ∨ (1 ≤ src ∧ src ≤ 3) then wrRefused (pathSrc path) 0 Reg.GLB_CLK_CTL s
      else reselectRef (taint (s.put Fld.GLB_CLK_CTL_REF_SRC src))
    if fieldGet v Fld.GLB_CLK_CTL_SYNC = 1 then syncRequest s else s) s

/-- REF_SRC_WRITE. -/
def execRefSrcWrite (path : Path) (v : Word) (s : State) : Host.Outcome State Fault Refusal := .next (clkCtlWrite path v s)

/-- SYNC_WRITE: a write of GLB_CLK_CTL with SYNC. -/
def execSyncWrite (path : Path) (v : Word) (s : State) : Host.Outcome State Fault Refusal :=
  .next (clkCtlWrite path (v ||| 0x100) s)

/-- SYNC_AUTO (R21, R498, R539). -/
def execSyncAuto (s : State) : Host.Outcome State Fault Refusal :=
  .next (if s.glb.syncDue ∧ s.pllLock ∧ s.role ≠ 2 then applySync (s.alignTick s.tick) s else s)

/-- REF_LOSS: reference `src`, which was present, disappears; the selected one freezes the tuning of a locked PLL, also when it came
back for a while under frozen tuning (R24, R75). -/
def execRefLoss (src : Fin 8) (s : State) : Host.Outcome State Fault Refusal :=
  .next <|
    let was := s.glb.refs.contains src.val
    let s := { s with glb := { s.glb with refs := s.glb.refs.filter (· != src.val) } }
    let s := showRef s
    if was ∧ s.fld Fld.GLB_CLK_CTL_REF_SRC = src ∧ s.pllLock then
      enterHoldover (clkEvent Fld.GLB_CLK_STATUS_REF_LOSS (s.put Fld.GLB_CLK_STATUS_TUNE_FROZEN 1))
    else s

/-- REF_RETURN: reference `src` appears. -/
def execRefReturn (src : Fin 8) (s : State) : Host.Outcome State Fault Refusal :=
  .next (showRef { s with glb := { s.glb with refs := src.val :: s.glb.refs.filter (· != src.val) } })

/-- The PLL loses lock in M7: DF6 and the error CLOCK become active and are recorded as detected (R451, R452). -/
def clockLost (s : State) : State :=
  noteDetection ⟨0x20, 0, (12, 0, 0), if s.reelValid then s.reelNs else 0⟩ (detect 6 0 s)

/-- PLL_UNLOCK: the PLL loses lock (R25); the reel is in HOLDOVER, and the supervisor sees a clock fault where spindles do not run. -/
def execPllUnlock (s : State) : Host.Outcome State Fault Refusal :=
  .next <|
    if s.pllLock then
      let s := ((s.put Fld.GLB_CLK_STATUS_PLL_LOCK 0).put Fld.GLB_CLK_STATUS_TUNE_FROZEN 0).put Fld.GLB_CLK_STATUS_SYNC_DONE 0
      let s := losePhases (enterHoldover (clkEvent Fld.GLB_CLK_STATUS_PLL_UNLOCK s))
      if s.mode = 3 ∨ s.mode = 4 ∨ (s.mode = 6 ∧ s.glb.m6Stopped) then clockFault s
      else if s.mode = 7 then clockLost s
      else s
    else s

/-- PLL_LOCK: the PLL locks to its reference (R518); a reel that runs free goes on from HOLDOVER, and after a change of reference a
slave is to be aligned anew (R539). -/
def execPllLock (s : State) : Host.Outcome State Fault Refusal :=
  .next <|
    let frozen := s.bit Fld.GLB_CLK_STATUS_TUNE_FROZEN
    if s.pllOff ∨ !s.refPresent ∨ (s.pllLock ∧ !frozen) then s
    else
      let s := if s.pllLock then s else newPhase s
      let s := (s.put Fld.GLB_CLK_STATUS_PLL_LOCK 1).put Fld.GLB_CLK_STATUS_TUNE_FROZEN 0
      let s := if s.glb.relock ∧ s.role = 2 then s.put Fld.CSC_STATUS_SYNC_ALIGNED 0 else s
      let s := { s with glb := { s.glb with relock := false } }
      if s.reelState = 3 ∧ s.fld Fld.TLN_CTL_SRC = 0 then (lockReel s).put Fld.TLN_STATUS_SERVO_FROZEN 0 else s

end Sys2Proof.Machine
end

