-- ==== Sys2Proof/Machine/Power.lean ====
section
/-! DEFINITION. Machine/Power.lean: the commands of power states and energy accounting (spec/15). -/

namespace Sys2Proof.Machine

/-- One port takes up its choice (R489, R491, R493): a deeper state at once, a shallower one by a wake; a waking port completes. -/
def choosePort (p : Nat) (s : State) : State :=
  if s.gating && (s.wakesAt p).isNone then
    let st := s.portChoice p
    if s.portState p < st then setPort p st s else if st < s.portState p then beginWake p s else s
  else s

/-- PORT_STATE_CHOICE. -/
def execPortStateChoice (p : Fin 256) (s : State) : Host.Outcome State Fault Refusal := .next (choosePort p s)

/-- A waking port becomes ACTIVE (R484). -/
def portWakeDone (p : Nat) (s : State) : State :=
  match s.wakesAt p with
  | some t => if t ≤ s.tick ∧ s.mode ≠ 7 then setPort p 0 s else s
  | none => s

/-- PORT_WAKE_DONE. -/
def execPortWakeDone (p : Fin 256) (s : State) : Host.Outcome State Fault Refusal := .next (portWakeDone p s)

/-- A write of PWR_LAT_TOL: the tolerance in force at the start of the tick holds until its end (R489, R493). -/
def latTolWrite (path : Path) (g : Nat) (v : Word) (s : State) : State :=
  let was := s.fld (Fld.PWR_LAT_TOL_NS g)
  let s' := plainWrite path (Reg.PWR_LAT_TOL g) v s
  match sget (fun _ => none) s'.pwr.tolOld g with
  | some _ => s'
  | none => { s' with pwr := { s'.pwr with tolOld := sset (fun _ => none) s'.pwr.tolOld g (some was) } }

/-- LAT_TOL_WRITE. -/
def execLatTolWrite (path : Path) (g : Fin 16) (v : Word) (s : State) : Host.Outcome State Fault Refusal :=
  .next (latTolWrite path g v s)

/-- A write of PWR_DORM_TOL; in M2 it acts from the next tick (R497). -/
def dormTolWrite (path : Path) (v : Word) (s : State) : State :=
  let s' := plainWrite path Reg.PWR_DORM_TOL v s
  if s'.mode = 2 then { s' with later := s'.later ++ [(s'.tick + 1, .dormTol)] } else s'

/-- DORM_TOL_WRITE. -/
def execDormTolWrite (path : Path) (v : Word) (s : State) : Host.Outcome State Fault Refusal := .next (dormTolWrite path v s)

/-- One microsecond's energy and residency join the live counters (R500, R501): `nj` by group, and the package total. -/
def energySample (nj : List Nat) (total : Nat) (s : State) : State :=
  let top := 1000 * 2 ^ 64
  let e := addLive (forN 16 (fun g l => addLive l g (nj.getD g 0) top) s.pwr.energy) 16 total top
  countPorts { s with pwr := { s.pwr with energy := e } }

/-- ENERGY_SAMPLE. -/
def execEnergySample (nj : List Nat) (total : Nat) (s : State) : Host.Outcome State Fault Refusal :=
  .next (energySample nj total s)

/-- The live counters are copied into the registers that the host reads (R502). -/
def energySnap (s : State) : State :=
  let live := fun i => sget (fun _ => 0) s.pwr.energy i / 1000
  let w := ((s.wr64 Reg.PWR_SNAP_REEL_LO s.reelNs).wr64 Reg.PWR_TOTAL_ENERGY_LO (live 16)).wr64 Reg.PWR_PULSES_LO s.pwr.pulses
  let w := w.wr64 Reg.PWR_DECISIONS_LO s.pwr.decisions
  forN 16 (fun g w =>
    forN 4 (fun st w => w.wr (Reg.PWR_GRP_RES g st) (BitVec.ofNat 32 (sget (fun _ => 0) s.pwr.res (4 * g + st) / 500)))
      (w.wr64 (Reg.PWR_GRP_ENERGY_LO g) (live g))) w

/-- The live counters become zero (R502). -/
def energyClear (s : State) : State :=
  { s with pwr := { s.pwr with pulses := 0, decisions := 0, energy := [], res := [], resTo := s.tick, since := [] } }

/-- A write of PWR_CMD: a snapshot comes before a clear (R502). -/
def pwrCmdWrite (path : Path) (v : Word) (s : State) : State :=
  gated path Reg.PWR_CMD (fun s =>
    let s := if bitOf v.toNat 0 then energySnap (countPorts s) else s
    if bitOf v.toNat 1 then energyClear s else s) s

/-- ENERGY_SNAP: a write of PWR_CMD with SNAP, whatever its other bit. -/
def execEnergySnap (path : Path) (v : Word) (s : State) : Host.Outcome State Fault Refusal :=
  .next (pwrCmdWrite path (v ||| 1) s)

/-- ENERGY_CLEAR: a write of PWR_CMD with CLEAR, whatever its other bit. -/
def execEnergyClear (path : Path) (v : Word) (s : State) : Host.Outcome State Fault Refusal :=
  .next (pwrCmdWrite path (v ||| 2) s)

end Sys2Proof.Machine
end

