-- ==== Sys2Proof/Machine/HostIf.lean ====
section
/-! DEFINITION. Machine/HostIf.lean: the host interface (spec/12): link, memory windows, DMA queues, interrupts. -/

namespace Sys2Proof.Machine

/-! ### Identity (R378) -/

/-- The words of the PCI configuration header that R378 states, by offset: the identity, and the class code with the revision. -/
def pciHeader : List (Nat × Word) := [(0x00, 0x02561D5A), (0x08, 0x12000011)]

/-- The Revision ID that the header holds (R1). -/
def revisionId : Nat := (sget (fun _ => 0) pciHeader 0x08).toNat % 256

/-! ### Link and power state (R379 to R381) -/

/-- LINK_CHG: the link's state changes (R379). -/
def execLinkChg (up : Bool) (speed : BitVec 3) (width : BitVec 5) (flit : Bool) (s : State) : Host.Outcome State Fault Refusal :=
  .next <|
    let same := s.bit Fld.HIF_LINK_STATUS_UP == up && s.fld Fld.HIF_LINK_STATUS_SPEED == speed.toNat &&
      s.fld Fld.HIF_LINK_STATUS_WIDTH == width.toNat
    let s := (s.put Fld.HIF_LINK_STATUS_UP (b2n up)).put Fld.HIF_LINK_STATUS_SPEED speed.toNat
    let s := (s.put Fld.HIF_LINK_STATUS_WIDTH width.toNat).put Fld.HIF_LINK_STATUS_FLIT (b2n flit)
    s.raiseIf (!same) Fld.HIF_EVENT_LINK_CHG

/-- The endpoint is in D3hot (R381). -/
def State.d3hot (s : State) : Bool := s.fld Fld.HIF_LINK_STATUS_DSTATE == 3

/-- Reads that a stream-owned queue had outstanding are abandoned. -/
def dropHostReads (s : State) : State :=
  forN 64 (fun r s =>
    let x := s.stream r
    if s.fld (Fld.STM_RV_CFG_SRC r) = 1 ∧ !x.reqs.isEmpty then
      s.setStream r { x with asked := x.asked - (x.reqs.map Prod.snd).sum, reqs := [] }
    else s) s

/-- The descriptors under way are abandoned, with their DRAM requests (R380). -/
def dropDma (s : State) : State :=
  { s with mem := { s.mem with reqs := s.mem.reqs.filter fun q => match q.owner with
      | .dma _ => false
      | _ => true } }

/-- The host interface returns to its reset values, BAR4 to 1 GiB (R380, R384). -/
def resetHif (s : State) : State :=
  dropHostReads (dropDma { s.resetRange 0x10000 0x20000 with
    hif := { smbAddr := s.hif.smbAddr, smbStatus := s.hif.smbStatus } })

/-! ### BAR2 and BAR4 (R382 to R385) -/

/-- An access completes as an Unsupported Request (R3, R358); a block that PORST_N holds in reset does not answer (R513). -/
def unsupported (s : State) : State :=
  if s.glb.released then (s.raise Fld.HIF_EVENT_UR).answer .unsupported else s.answer .none

/-- Bytes are given back on a read, poisoned where a word of them is uncorrectable (R352, R359). -/
def State.giveBytes (s : State) (bs : List Byte) (bad : Bool := false) : State :=
  { s with resp := { status := if bad then .poisoned else .ok, bytes := bs } }

/-- An access of SRAM by a path with SRC code `src`; `ue` tells that a word it reads is uncorrectable (R351 to R353). -/
def sramAccess (src queue off : Nat) (a : MemAccess) (ue : Bool) (s : State) : State :=
  match a with
  | .write bs => writeSram src queue off bs ue (s.answer .ok)
  | .read n =>
    let (bad, s) := sramFinds off n ue s
    let (bs, s) := readSram off n (s.raiseIf bad Fld.MEM_EVENT_POISON)
    s.giveBytes bs bad

/-- BAR2_ACCESS (R358, R383). -/
def execBar2Access (off : Fin 0x4000000) (a : MemAccess) (ue : Bool) (s : State) : Host.Outcome State Fault Refusal :=
  .next (if s.mode = 0 then unsupported s else sramAccess 1 0 off a ue s)

/-- The bytes that an access covers. -/
def accessLength : MemAccess → Nat
  | .write bs => bs.length
  | .read n => n

/-- DRAM is not accessible in M0 and M2 (R358). -/
def State.noDram (s : State) : Bool := s.mode == 0 || s.mode == 2

/-- The DRAM offset of a BAR4 offset (R384). -/
def State.bar4Offset (s : State) (x : Nat) : Nat :=
  let k := s.hif.bar4Log
  s.fld Fld.HIF_BAR4_WIN_WIN % 2 ^ (37 - k) * 2 ^ k + x

/-- The host resizes BAR4 to 2^(30+k) bytes (R382, R384); BAR4_LOG shows the low bits of the logarithm that it has room for (log entry 150). -/
def resizeBar4 (k : Nat) (s : State) : State :=
  ({ s with hif := { s.hif with bar4Log := 30 + k } }).put Fld.HIF_LINK_STATUS_BAR4_LOG (30 + k)

/-- A host access through BAR4 (R357, R358, R383 to R385); an offset beyond the size in force is no access of the block. A write is
posted: it is taken at once and acts when it is granted; a read is answered then. -/
def bar4Access (x : Nat) (a : MemAccess) (ue : Bool) (s : State) : State :=
  let off := s.bar4Offset x
  if 2 ^ s.hif.bar4Log ≤ x then s
  else if s.noDram then unsupported s
  else match a with
    | .write bs => holdAccess (.write off bs) [(off, bs.length)] (s.answer .ok)
    | .read n => holdAccess (.read off n ue) [(off, n)] { s with resp := {} }

/-- BAR4_ACCESS; `size` tells that the host has resized BAR4 before it. -/
def execBar4Access (x : Fin 0x2000000000) (a : MemAccess) (ue : Bool) (size : Option (Fin 8)) (s : State) :
    Host.Outcome State Fault Refusal :=
  .next (bar4Access x a ue (match size with
    | some k => resizeBar4 k s
    | none => s))

/-! ### DMA queues (R387 to R394) -/

/-- The descriptor that a queue runs. -/
def State.dmaJob (s : State) (q : Nat) : Option (List Byte) := sget (fun _ => none) s.hif.dma q

/-- Store the descriptor that a queue runs. -/
def State.setDma (s : State) (q : Nat) (d : Option (List Byte)) : State :=
  { s with hif := { s.hif with dma := sset (fun _ => none) s.hif.dma q d } }

/-- Data requests that a queue's descriptor is still to issue, and their number set (R397). -/
def State.dataLeft (s : State) (q : Nat) : Nat := sget (fun _ => 0) s.hif.dataLeft q
def setDataLeft (q n : Nat) (s : State) : State := { s with hif := { s.hif with dataLeft := sset (fun _ => 0) s.hif.dataLeft q n } }

/-- EN was cleared while the queue's descriptor runs (R393). -/
def State.stopping (s : State) (q : Nat) : Bool := sget (fun _ => false) s.hif.stopping q
def setStopping (q : Nat) (b : Bool) (s : State) : State :=
  { s with hif := { s.hif with stopping := sset (fun _ => false) s.hif.stopping q b } }

/-- The entries of a queue's rings. -/
def State.qSize (s : State) (q : Nat) : Nat := 2 ^ s.fld (Fld.HIF_Q_CFG_SIZE_LOG q)

/-- An enabled queue's STATE: IDLE while it is empty, else RUNNING (HIF_Q_STATUS). -/
def showQueue (q : Nat) (s : State) : State :=
  let st := s.fld (Fld.HIF_Q_STATUS_STATE q)
  if s.bit (Fld.HIF_Q_CFG_EN q) ∧ (st = 1 ∨ st = 2) then
    let empty := s.fld (Fld.HIF_Q_HEAD_INDEX q) == s.fld (Fld.HIF_Q_TAIL_INDEX q) && (s.dmaJob q).isNone
    s.put (Fld.HIF_Q_STATUS_STATE q) (if empty then 2 else 1)
  else s

/-- A doorbell (R388). -/
def writeTail (p : Path) (q : Nat) (v : Word) (s : State) : State :=
  gated p (Reg.HIF_Q_TAIL q) (fun s =>
    let n := fieldGet v (Fld.HIF_Q_TAIL_INDEX q)
    if n < s.qSize q then showQueue q (s.put (Fld.HIF_Q_TAIL_INDEX q) n)
    else s.raise (Fld.HIF_Q_EVENT_BAD_TAIL q)) s

/-- DMA_DOORBELL. -/
def execDmaDoorbell (p : Path) (q : Fin 64) (v : Word) (s : State) : Host.Outcome State Fault Refusal := .next (writeTail p q v s)

/-- A queue is enabled: its first pass begins (R391). -/
def enableQueue (q : Nat) (s : State) : State :=
  showQueue q ((s.put (Fld.HIF_Q_STATUS_PHASE q) 1).put (Fld.HIF_Q_STATUS_STATE q) 2)

/-- A write of HIF_Q_CFG (R393, R394): while EN is 1 only EN and WEIGHT change. A queue that is disabled stops once the descriptor it
runs has ended, be it enabled again before. -/
def writeQCfg (p : Path) (q : Nat) (v : Word) (s : State) : State :=
  let was := s.bit (Fld.HIF_Q_CFG_EN q)
  let old := s.rd (Reg.HIF_Q_CFG q)
  let v := if was then (old &&& ~~~(0xF1 : Word)) ||| (v &&& 0xF1) else v
  let s := plainWrite p (Reg.HIF_Q_CFG q) v s
  let now := s.bit (Fld.HIF_Q_CFG_EN q)
  let st := s.fld (Fld.HIF_Q_STATUS_STATE q)
  if !was ∧ now ∧ st = 0 then enableQueue q s
  else if was ∧ !now then
    if (s.dmaJob q).isSome then setStopping q true s
    else if st ≠ 3 then s.put (Fld.HIF_Q_STATUS_STATE q) 0 else s
  else s

/-- DMA_QUEUE_DISABLE: a write that clears EN (R393). -/
def execDmaQueueDisable (p : Path) (q : Fin 64) (v : Word) (s : State) : Host.Outcome State Fault Refusal :=
  .next (writeQCfg p q (v &&& ~~~(1 : Word)) s)

/-- A write of HIF_Q_CTL (R393). -/
def writeQCtl (p : Path) (q : Nat) (v : Word) (s : State) : State :=
  gated p (Reg.HIF_Q_CTL q) (fun s =>
    if fieldGet v (Fld.HIF_Q_CTL_RESET q) = 1 ∧ s.fld (Fld.HIF_Q_STATUS_STATE q) ≠ 1 then
      ((s.put (Fld.HIF_Q_HEAD_INDEX q) 0).put (Fld.HIF_Q_STATUS_PHASE q) 1).put (Fld.HIF_Q_STATUS_STATE q) 0
    else s) s

/-- DMA_QUEUE_RESET. -/
def execDmaQueueReset (p : Path) (q : Fin 64) (v : Word) (s : State) : Host.Outcome State Fault Refusal := .next (writeQCtl p q v s)

/-- Q_LIMIT_WRITE (R396). -/
def execQLimitWrite (p : Path) (q : Fin 64) (v : Word) (s : State) : Host.Outcome State Fault Refusal :=
  .next (plainWrite p (Reg.HIF_Q_LIMIT q) v s)

/-- A DESC queue may start its next descriptor (R381, R387). -/
def State.mayStartDma (s : State) (q : Nat) : Bool :=
  s.bit (Fld.HIF_Q_CFG_EN q) && !s.bit (Fld.HIF_Q_CFG_MODE q) && s.fld (Fld.HIF_Q_STATUS_STATE q) == 1 && (s.dmaJob q).isNone &&
    s.fld (Fld.HIF_Q_HEAD_INDEX q) != s.fld (Fld.HIF_Q_TAIL_INDEX q) && !s.d3hot

/-- The queues in the order of the weighted round-robin: the rest of the turn's grants, then each queue anew, the turn's last (R397). -/
def State.queueRound (s : State) : List (Nat × Nat) :=
  s.hif.turn :: (List.range 64).map fun i =>
    let q := (s.hif.turn.1 + 1 + i) % 64
    (q, s.fld (Fld.HIF_Q_CFG_WEIGHT q))

/-- A queue has a data request of its descriptor ready (R397): one that stops issues none (R393), nor does one in D3hot (R381). -/
def State.hasData (s : State) (q : Nat) : Bool := (s.dmaJob q).isSome && s.dataLeft q != 0 && !s.stopping q && !s.d3hot

/-- A DESC queue has a request ready: the fetch of a descriptor, or data of the one it runs. -/
def State.descReady (s : State) (q : Nat) : Bool := s.mayStartDma q || s.hasData q

/-- The DESC queue that issues next, and the grants left of its turn; none where only queues of weight 0 are ready. -/
def State.nextQueue (s : State) : Option (Nat × Nat) :=
  s.queueRound.findSome? fun p => if p.2 != 0 && s.descReady p.1 then some (p.1, p.2 - 1) else none

/-- The turn after DESC queue `q` has issued, none where the order of R397 lets it wait: behind each stream-owned queue that is ready and
the queue whose turn it is; a queue of weight 0 behind each other ready one. -/
def State.queueTurn (s : State) (q : Nat) : Option (Nat × Nat) :=
  if (List.range 64).any s.hostRefillReady then none
  else match s.nextQueue with
    | none => some s.hif.turn
    | some t => if t.1 = q then some t else none

/-- The fields of a DMA descriptor (R389). -/
structure DmaDesc where
  host : Nat
  dev : Nat
  len : Nat
  space : Nat
  flags : Nat
  res : Nat
  tag : List Byte

/-- The fields of a descriptor's 32 bytes. -/
def dmaDesc (d : List Byte) : DmaDesc :=
  let f := fun (o n : Nat) => leNat ((d.drop o).take n)
  ⟨f 0 8, f 8 8, f 16 4, f 20 1, f 21 1, f 22 2 + f 28 4, (d.drop 24).take 4⟩

/-- A descriptor is sound (R392, error 1). -/
def DmaDesc.ok (d : DmaDesc) : Bool :=
  decide (d.space ≤ 1) && decide (d.flags ≤ 3) && d.res == 0 && d.len != 0 && decide (d.len ≤ 2 ^ 28) &&
    decide (d.dev + d.len ≤ if d.space = 0 then sramSize else dramSize)

/-- The bytes of one data request of a queue (R378): Max Read Request Size to the device, Max Payload Size to the host. -/
def dataChunk (q : Nat) : Nat := 128 * 2 ^ (if q < 32 then Config.readRequestLog % 6 else Config.payloadLog % 3)

/-- DMA_DESCRIPTOR_START: a queue whose turn it is takes the descriptor at HEAD (R387, R389, R397; log entry 138); its data requests are to
be issued, and its DRAM request is (R390). -/
def execDmaDescriptorStart (q : Fin 64) (desc : List Byte) (s : State) : Host.Outcome State Fault Refusal :=
  .next <|
    match s.queueTurn q with
    | some turn =>
      if s.mayStartDma q then
        let bytes := (desc ++ List.replicate 32 0).take 32
        let d := dmaDesc bytes
        let s := setDataLeft q (if d.ok then (d.len + dataChunk q - 1) / dataChunk q else 0) (s.setDma q (some bytes))
        let s := if d.ok ∧ d.space = 1 then askDram 2 (.dma q) 0 [(d.dev, d.len)] s else s
        queueIssues q { s with hif := { s.hif with turn := turn } }
      else s
    | none => s

/-- A tick's data request (R397; log entry 138): the DESC queue whose turn it is issues one where the link takes it. -/
def issueData (s : State) : State :=
  if Config.linkReady s.tick then
    match (List.range 64).findSome? fun q => if s.hasData q then (s.queueTurn q).map fun t => (q, t) else none with
    | some (q, turn) =>
      let n := s.dataLeft q
      let d := dmaDesc ((s.dmaJob q).getD [])
      let done := (d.len + dataChunk q - 1) / dataChunk q - n
      let s := if q < 32 then hostReads [(d.host + done * dataChunk q, min (dataChunk q) (d.len - done * dataChunk q))] s else s
      let s := setDataLeft q (n - 1) s
      queueIssues q { s with hif := { s.hif with turn := turn } }
    | none => s
  else s

/-- An enabled queue that a stop or a reset left OFF is enabled again (R387, R393). -/
def reviveQueues (s : State) : State :=
  forN 64 (fun q s =>
    if s.bit (Fld.HIF_Q_CFG_EN q) && s.fld (Fld.HIF_Q_STATUS_STATE q) == 0 && (s.dmaJob q).isNone then enableQueue q s else s) s

/-- The queues with a request ready. -/
def State.readyQueues (s : State) : List Nat :=
  (List.range 64).filter s.descReady ++ ((List.range 64).filter s.hostRefillReady).map s.queueOf

/-- A tick ends for the queues (R397): one that was ready in it and has not issued counts it. -/
def countQueueWaits (s : State) : State :=
  let qs := s.readyQueues
  let old := s.hif.since
  let waits := fun q => match sget (fun _ => none) old q with
    | some t => decide (t ≤ s.tick)
    | none => false
  let s := forAll (fun q s => if waits q then s.count (Fld.HIF_Q_WAIT_COUNT q) else s) qs s
  { s with hif := { s.hif with since := qs.foldl (fun m q =>
      sset (fun _ => none) m q (some ((sget (fun _ => none) old q).getD (s.tick + 1)))) [] } }

/-- Bytes at the front of a write that no rule discards (R386, R418). -/
def State.acceptedBytes (s : State) (space a n : Nat) : Nat :=
  ((List.range n).takeWhile fun i =>
    if space = 0 then s.sramBar (a + i) != .refused
    else match s.sec.image with
      | some r => !inRanges [r] (a + i)
      | none => true).length

/-- A host-to-device descriptor moves what the host gave: the error and the bytes moved. `ue` tells that the merge of a word that it covers
in part finds it uncorrectable: the write is discarded (R353, R390). -/
def dmaIn (q : Nat) (d : DmaDesc) (data : List Byte) (how : HostEnd) (ue : Bool) (s : State) : (Nat × Nat) × State :=
  let s := s.raiseIf (how == .poison) Fld.HIF_EVENT_POISON_RX
  let data := data.take d.len
  let n := s.acceptedBytes d.space d.dev data.length
  let put := (data.take n).map some
  let lost := d.space == 0 && s.sramDiscards d.dev put ue
  let s := if d.space = 0 then writeSram 3 q d.dev put ue s else writeDram 3 q d.dev put s
  if lost then ((4, 0), s)
  else if n < data.length then ((2, n), wrRefused 3 q (d.dev + n) s)
  else match how with
    | .ok => if data.length < d.len then ((3, n), s) else ((0, n), s)
    | .abort => ((3, n), s)
    | .poison => ((4, n), s)

/-- A device-to-host descriptor reads the first `n` bytes of its range and writes them to the host, poisoned where a word of them is
uncorrectable (R352, R359, R390, R392); `how` is the end of what it reads of the host. The answer is the error, the bytes moved and the write. -/
def dmaOut (d : DmaDesc) (n : Nat) (how : HostEnd) (ue : Bool) (s : State) : (Nat × Nat × List HostWrite) × State :=
  let s := s.raiseIf (how == .poison) Fld.HIF_EVENT_POISON_RX
  let (bad, s) := if d.space = 0 then sramFinds d.dev n ue s else dramFinds d.dev n ue s
  let s := s.raiseIf bad Fld.MEM_EVENT_POISON
  let (bs, s) := if d.space = 0 then readSram d.dev n s else readDram d.dev n s
  let err := match how with
    | .ok => if bad then 4 else 0
    | .abort => 3
    | .poison => 4
  ((err, n, if n = 0 then [] else [⟨d.host, bs, bad, s.bit Fld.HIF_CTL_RO_EN, s.bit Fld.HIF_CTL_NS_EN⟩]), s)

/-- A descriptor ends (R391 to R393): its entry is written where CPL asks for one or it failed, HEAD advances, and the queue goes on,
halts, or is OFF. -/
def endDma (q err bytes : Nat) (d : DmaDesc) (writes : List HostWrite) (s : State) : State :=
  let head := s.fld (Fld.HIF_Q_HEAD_INDEX q)
  let phase := s.fld (Fld.HIF_Q_STATUS_PHASE q)
  let entry := d.tag ++ leBytes 4 bytes ++ [if err = 0 then 1 else 2, BitVec.ofNat 8 err] ++ leBytes 2 head ++
    [0, 0, 0, BitVec.ofNat 8 phase]
  let cpl := if err ≠ 0 ∨ bitOf d.flags 0 then [{ addr := s.rd64 (Reg.HIF_Q_CPL_LO q) + 16 * head, bytes := entry : HostWrite }] else []
  let next := (head + 1) % s.qSize q
  let s := dropDram (.dma q) (setStopping q false (setDataLeft q 0 (s.setDma q none)))
  let s := s.put (Fld.HIF_Q_HEAD_INDEX q) next
  let s := if next = 0 then s.put (Fld.HIF_Q_STATUS_PHASE q) (1 - phase) else s
  let s := s.raiseIf (bitOf d.flags 1) (Fld.HIF_Q_EVENT_DONE q)
  let s := if err = 0 then s else (s.raise (Fld.HIF_Q_EVENT_ERR q)).raise Fld.HIF_EVENT_Q_ERR q
  let s := { s with resp := { status := .ok, host := writes ++ cpl } }
  if err = 6 then s.put (Fld.HIF_Q_STATUS_STATE q) 0
  else if err ≠ 0 then s.put (Fld.HIF_Q_STATUS_STATE q) 3
  else showQueue q s

/-- The bytes of its range that a descriptor's data requests so far cover. -/
def State.dmaIssued (s : State) (q : Nat) (d : DmaDesc) : Nat := d.len - s.dataLeft q * dataChunk q

/-- A queue that was disabled while its descriptor runs stops once its outstanding requests have returned, with what they moved (R393). -/
def dmaStopped (q : Nat) (d : DmaDesc) (noMode : Bool) (data : List Byte) (ue : Bool) (s : State) : State :=
  let n := if d.ok && !noMode then min data.length (s.dmaIssued q d) else 0
  if n ≠ 0 ∧ s.dramWaits (.dma q) then s
  else if n = 0 then endDma q 6 0 d [] s
  else if q < 32 then
    let ((_, m), s) := dmaIn q d (data.take n) .ok ue s
    endDma q 6 m d [] s
  else
    let ((_, m, ws), s) := dmaOut d n .ok ue s
    endDma q 6 m d ws s

/-- A descriptor completes: `data` is what the host's memory gave, or of a device-to-host descriptor what was moved, before it ended as
`how`; `ue` tells that a word read in the device is uncorrectable (R390 to R393). It completes once its data requests have been issued
(R397) and its DRAM request granted (R357, R362). -/
def dmaDone (q : Nat) (data : List Byte) (how : HostEnd) (ue : Bool) (s : State) : State :=
  match s.dmaJob q with
  | none => s
  | some bytes =>
    let d := dmaDesc bytes
    let noMode := s.mode == 0 || (d.space == 1 && s.mode == 2)
    if s.d3hot then s
    else if s.stopping q then dmaStopped q d noMode data ue s
    else if !d.ok then endDma q 1 0 d [] s
    else if noMode then endDma q 5 0 d [] s
    else if (how = .ok ∧ s.dataLeft q ≠ 0) ∨ s.dramWaits (.dma q) then s
    else if q < 32 then
      let ((err, n), s) := dmaIn q d data how ue s
      endDma q err n d [] s
    else
      let ((err, n, ws), s) := dmaOut d (if how = .ok then d.len else min data.length (s.dmaIssued q d)) how ue s
      endDma q err n d ws s

/-- DMA_DESCRIPTOR_DONE. -/
def execDmaDescriptorDone (q : Fin 64) (data : List Byte) (how : HostEnd) (ue : Bool) (s : State) :
    Host.Outcome State Fault Refusal := .next (dmaDone q data how ue s)

/-! ### Interrupts (R398 to R401) -/

/-- Some enabled flag of an event register is set. -/
def State.anyFlag (s : State) (ev en : Nat) (m : Word) : Bool := s.rd ev &&& s.rd en &&& m != 0

/-- Interrupt source `i` (R398). -/
def State.source (s : State) (i : Nat) : Bool :=
  let on := fun (ev en b : Nat) => bitOf (s.rd ev).toNat b && bitOf (s.rd en).toNat b
  if i < 128 then
    if i % 2 = 0 then s.bit (Fld.SPN_EVENT_IRQ (i / 2)) else s.anyFlag (Reg.SPN_EVENT (i / 2)) (Reg.SPN_EVENT_EN (i / 2)) 0xFFFFFFFE
  else if i < 192 then
    let b := (i - 128) / 2
    if i % 2 = 0 then s.bit (Fld.BOB_EVENT_CAPTURE b) else s.anyFlag (Reg.BOB_EVENT b) (Reg.BOB_EVENT_EN b) 0xFFFFFFFE
  else if i < 256 then s.anyFlag (Reg.STM_RV_EVENT (i - 192)) (Reg.STM_RV_EVENT_EN (i - 192)) 0xFFFFFFFF
  else if i < 288 then on Reg.SUP_EVENT Reg.SUP_EVENT_EN (i - 256)
  else if i < 304 then
    let g := 2 * (i - 288)
    [g, g + 1, 32 + g, 33 + g].any fun q => s.anyFlag (Reg.HIF_Q_EVENT q) (Reg.HIF_Q_EVENT_EN q) 0xFFFFFFFF
  else if i < 320 then on Reg.HIF_EVENT Reg.HIF_EVENT_EN (i - 304)
  else if i < 336 then bitOf (s.rd Reg.TLN_EVENT).toNat (i - 320)
  else if i < 352 then on Reg.CSC_EVENT Reg.CSC_EVENT_EN (i - 336)
  else if i < 368 then on Reg.MEM_EVENT Reg.MEM_EVENT_EN (i - 352)
  else if i < 376 then s.anyFlag (Reg.DRF_LANE_EVENT (i - 368)) (Reg.DRF_LANE_EVENT_EN (i - 368)) 0xFFFFFFFF
  else on Reg.SEC_EVENT Reg.SEC_EVENT_EN (i - 376)

/-- A vector's level (R399). -/
def State.vecLevel (s : State) (v : Nat) : Bool :=
  (List.range 384).any fun i => s.bit (Fld.HIF_IRQ_MAP_EN i) && s.fld (Fld.HIF_IRQ_MAP_VECTOR i) == v && s.source i

/-- A vector's level by the registers as the tick began with them (R400). -/
def State.startLevel (s : State) (v : Nat) : Bool := { s with regs := s.hif.start }.vecLevel v

/-- A vector's bit in an array of words. -/
def vecField (reg : Nat → Nat) (v : Nat) : Field := ⟨reg (v / 32), v % 32, 1⟩

/-- The message of a vector, from its table entry. -/
def State.vecMessage (s : State) (v : Nat) : HostWrite :=
  { addr := (s.rd (Reg.HIF_MSIX_TABLE v 0)).toNat + 2 ^ 32 * (s.rd (Reg.HIF_MSIX_TABLE v 1)).toNat
    bytes := leBytes 4 (s.rd (Reg.HIF_MSIX_TABLE v 2)).toNat }

/-- A vector is masked in the MSI-X table. -/
def State.vecMasked (s : State) (v : Nat) : Bool := bitOf (s.rd (Reg.HIF_MSIX_TABLE v 3)).toNat 0

/-- The function mask of MSI-X is as the host has set it (R400; log entry 99). -/
def maskFunction (b : Bool) (s : State) : State := { s with hif := { s.hif with funcMask := b } }

/-- A vector whose level is 1 as the tick begins, and whose ARMED is 1, sends its message, or becomes pending where it or the function is masked, or in D3hot
(R381, R400); in the tick of its re-arming nothing is sent (R401). -/
def msixSend (v : Nat) (s : State) : State :=
  let armed := vecField Reg.HIF_VEC_REARM v
  let rearmed := sget (fun _ => 0) s.wrOne armed.reg &&& Field.mask armed != 0
  if s.startLevel v && s.bit armed && !rearmed then
    let s := s.drop armed
    if s.hif.funcMask || s.vecMasked v || s.d3hot then s.put (vecField Reg.HIF_MSIX_PBA v) 1
    else { s with resp := { status := .ok, host := [s.vecMessage v] } }
  else s

/-- MSIX_SEND; `fmask` is the function mask in force. -/
def execMsixSend (v : Fin 512) (fmask : Bool) (s : State) : Host.Outcome State Fault Refusal := .next (msixSend v (maskFunction fmask s))

/-- VEC_REARM (R401). -/
def execVecRearm (p : Path) (w : Fin 16) (v : Word) (s : State) : Host.Outcome State Fault Refusal :=
  .next (plainWrite p (Reg.HIF_VEC_REARM w) v s)

/-- A pending vector that nothing masks sends its message (R400). -/
def sendPending (v : Nat) (s : State) : State :=
  let f := vecField Reg.HIF_MSIX_PBA v
  if s.bit f && !s.vecMasked v && !s.hif.funcMask && !s.d3hot then
    let s := s.put f 0
    { s with resp := { s.resp with status := .ok, host := s.resp.host ++ [s.vecMessage v] } }
  else s

/-- MSIX_UNMASK: a vector's mask in the table is removed, or (none) the function's (R400). -/
def execMsixUnmask (v : Option (Fin 512)) (s : State) : Host.Outcome State Fault Refusal :=
  .next <|
    let s := { s with resp := {} }
    match v with
    | some v => sendPending v (s.wr (Reg.HIF_MSIX_TABLE v 3) (s.rd (Reg.HIF_MSIX_TABLE v 3) &&& ~~~(1 : Word)))
    | none => forN 512 sendPending (maskFunction false s)

/-- A write of the MSI-X table: a vector whose mask it removes sends a pending message. -/
def writeMsix (p : Path) (v j : Nat) (x : Word) (s : State) : State :=
  let was := s.vecMasked v
  let s := plainWrite p (Reg.HIF_MSIX_TABLE v j) x s
  if was && !s.vecMasked v then sendPending v s else s

/-- D3HOT_ENTRY (R381). -/
def execD3hotEntry (s : State) : Host.Outcome State Fault Refusal := .next (s.put Fld.HIF_LINK_STATUS_DSTATE 3)

/-- D0_RETURN: what is pending is delivered (R381). -/
def execD0Return (s : State) : Host.Outcome State Fault Refusal :=
  .next (if s.d3hot then forN 512 sendPending { s.put Fld.HIF_LINK_STATUS_DSTATE 0 with resp := {} } else s)

end Sys2Proof.Machine
end

