-- ==== Sys2Proof/Machine/Reset.lean ====
section
/-! DEFINITION. Machine/Reset.lean: the resets and the release of PORST_N (R13, R380, R513 to R517). -/

namespace Sys2Proof.Machine

/-- How far a PROVISION in progress has come when a reset breaks it off: some of its owner slots are written, how many is free (log
entry 45). -/
def breakProvision (s : State) : State :=
  match s.sec.prov with
  | some (hs, _) =>
    let (k, s) := s.fresh 3
    fuseSlots (hs.take k) s
  | none => s

/-- The permits end (R514); after a reset in M7 they wait for every cause too (R515). -/
def endPermits (held : Bool) (s : State) : State :=
  permitting (fun s => { s with sup := { s.sup with permits := false, held := s.sup.held || held } }) s

/-- A range of offsets keeps its registers through a reset. -/
def keepRange (a b off : Nat) : Bool := decide (a ≤ off) && decide (off < b)

/-- The registers of the codes at which the bias ports' own ramp engines stand (R514). -/
def isBiaNow (off : Nat) : Bool := (elem off (Reg.SYN_BIA_NOW 0) 0x20 64).isSome

/-- What every reset of the whole device leaves: the fuses, what is present at the balls, the bias codes, the registers that `keep`
names, the live counters of energy accounting and the model's own counters; every other part starts anew, in M0; the host interface stays where `hif` says so. -/
def bareState (keep : Nat → Bool) (hif : Bool) (s : State) : State :=
  { tick := s.tick, freeCtr := s.freeCtr, pending := s.pending,
    regs := s.regs.filter fun p => keep p.1 || isBiaNow p.1,
    glb := { refs := s.glb.refs, released := s.glb.released, syncTick := s.tick },
    tln := { ref10m := s.tln.ref10m },
    sup := s.sup,
    hif := if hif then s.hif else { smbAddr := s.hif.smbAddr },
    pwr := { pulses := s.pwr.pulses, decisions := s.pwr.decisions, energy := s.pwr.energy, res := s.pwr.res,
             resTo := s.pwr.resTo, since := s.pwr.since },
    sec := { lcs := s.sec.lcs, slots := s.sec.slots, revoked := s.sec.revoked, kek := s.sec.kek, minSvn := s.sec.minSvn } }

/-- The mode change of a reset is shown (R34; log entry 46), and so is a change of the debug level (R437). -/
def showReset (was level : Nat) (s : State) : State :=
  let s := if was = 0 then s
    else (((s.put Fld.GLB_MODE_STATUS_PREV_MODE was).raise Fld.GLB_MODE_STATUS_MODE_CHG).raise Fld.HIF_EVENT_MODE_CHG)
  let s := showFuses (s.put Fld.SEC_STATUS_LEVEL (if s.blank then 3 else 0))
  if !s.blank ∧ level ≠ 0 then s.raise (secEvent 4) else s

/-- A system reset, or with `hif` a software reset, which keeps the host interface (R513 to R515). The supervisor block is not reset, but for the
registers that a REGS section may name (R39); the live counters of energy accounting go on (R500; log entry 106). -/
def resetDevice (cause rail : Nat) (hif : Bool) (s : State) : State :=
  let was := s.mode
  let ran := s.spindlesRun
  let level := s.fld Fld.SEC_STATUS_LEVEL
  let strap := s.fld Fld.CSC_STATUS_STRAP
  let s := countPorts (breakProvision (endPermits (was == 7) s))
  let s := bareState (fun off => (keepRange 0x30000 0x40000 off && !nameable off) || (hif && keepRange 0x10000 0x20000 off)) hif s
  let s := ((s.put Fld.GLB_RST_STATUS_CAUSE cause).put Fld.GLB_RST_STATUS_RAIL rail).put Fld.CSC_STATUS_STRAP strap
  let s := (s.put Fld.SUP_STATUS_TRIPPED 0).put Fld.RDO_STATUS_CAL_SET s.calBand
  let s := settleSup s
  let s := forN 4 (fun k s => s.put (refreshField k) (refreshOf (s.fld (Fld.SUP_TS_STATUS_BAND (12 + k))))) s
  showReset was level (if ran then switchThresholds s else if was = 7 then rejudge s else s)

/-- SYSTEM_RESET: SYS_RST_N, or (some) a rail of groups 2 to 5 by its tap (R509, R513). -/
def execSystemReset (rail : Option (Fin 24)) (s : State) : Host.Outcome State Fault Refusal :=
  .next <| match rail with
    | none => resetDevice 1 (s.fld Fld.GLB_RST_STATUS_RAIL) false s
    | some k => if 2 ≤ k.val ∧ k.val ≤ 5 then s else resetDevice 2 k false s

/-- A software reset: the RAIL of the last reset survives it, as it does SYS_RST_N. -/
def softwareReset (s : State) : State := resetDevice 3 (s.fld Fld.GLB_RST_STATUS_RAIL) true s

/-- A write of GLB_RST_CTL (R516). -/
def rstCtlWrite (p : Path) (v : Word) (s : State) : State :=
  gated p Reg.GLB_RST_CTL (fun s =>
    if p = .bar0 ∧ fieldGet v Fld.GLB_RST_CTL_KEY = 0x5A ∧ fieldGet v Fld.GLB_RST_CTL_SYS = 1 ∧ s.mode ≠ 7 then
      { s with later := s.later ++ [(s.tick + 1, .softReset)] }
    else s) s

/-- SOFTWARE_RESET: a write of GLB_RST_CTL; the reset acts in the tick after it (R516). -/
def execSoftwareReset (path : Path) (v : Word) (s : State) : Host.Outcome State Fault Refusal := .next (rstCtlWrite path v s)

/-- POWER_ON_RESET (R513): every block, the supervisor among them; the bias ports ramp to 0 on their own engines (R514). -/
def powerOn (s : State) : State :=
  let s := breakProvision (endPermits false s)
  let slews := s.sup.slews
  let s := bareState (fun _ => false) false s
  { s with glb := { refs := s.glb.refs, syncTick := s.tick }, sup := { slews := slews, passAt := s.tick }, hif := {}, pwr := { resTo := s.tick }, tap := {} }

/-- POWER_ON_RESET. -/
def execPowerOnReset (s : State) : Host.Outcome State Fault Refusal := .next (powerOn s)

/-- PORST_N_RELEASE: the reset that PORST_N held acts up to here (R513), whatever came meanwhile; the fuses, CASC_MASTER and SMB_ADDR are
sampled and SEC_STATUS becomes valid (R285, R402, R517). -/
def execPorstNRelease (strap : Bool) (addr : BitVec 2) (s : State) : Host.Outcome State Fault Refusal :=
  .next <|
    if s.glb.released then s
    else
      let s := powerOn s
      let s := { s with glb := { s.glb with released := true }, hif := { s.hif with smbAddr := addr.toNat } }
      let s := showFuses (s.put Fld.SEC_STATUS_LEVEL (if s.blank then 3 else 0))
      refreshQualified (s.put Fld.CSC_STATUS_STRAP (b2n strap))

/-- ENDPOINT_RESET: PERST_N low (R380, R513); every reset sets the debug level to NONE (R437). -/
def execEndpointReset (s : State) : Host.Outcome State Fault Refusal :=
  .next (setLevel 0 ((resetHif s).resetRange 0x10000 0x20000))

/-- FUNCTION_LEVEL_RESET (R380, R437, R513). -/
def execFunctionLevelReset (s : State) : Host.Outcome State Fault Refusal := .next (setLevel 0 (resetHif s))

end Sys2Proof.Machine
end

