-- ==== Sys2Proof/Machine/Synth.lean ====
section
/-! DEFINITION. Machine/Synth.lean: the fetch point, segment boundaries and ends, underruns, bias updates and output pulses
(spec/04, spec/05). The output words are in Machine/Outputs.lean. -/

namespace Sys2Proof.Machine

/-- FETCH_TICK: one tick at the fetch point of a port (R179). -/
def execFetchTick (p : PlayPort) (s : State) : Host.Outcome State Fault Refusal :=
  .next (match p with
    | .rf p => fetchRf p s
    | .flux f => fetchFlux f s)

/-- A pass of a target's segment is over and its boundary has come (R180, R182). -/
def State.atBoundary (s : State) (t : Nat) : Bool :=
  match (s.tgt t).chain with
  | some c => decide (c.next ≤ s.tick) && decide ((s.segNow t).len ≤ c.done)
  | none => false

/-- A pending jump acts at this boundary (R183). -/
def actJump (t : Nat) (j : Jump) (s : State) : State :=
  let s := enterSeg t (s.fld (Fld.STM_TGT_PASS_PEND_SEG t)) (markEnd t (s.tick - 1) false s)
  let s := (s.count (Fld.STM_TGT_JCNT_JUMPS t)).raise (Fld.STM_TGT_EVENT_JUMP_DONE t)
  let s := if j.passed then
      ((s.count (Fld.STM_TGT_JCNT_LATE t)).raise (Fld.STM_TGT_EVENT_JUMP_LATE t)).raise Fld.STM_EVENT_JUMP_LATE
    else s
  (s.put (Fld.STM_TGT_STATUS_JUMP_PEND t) 0).setTgt t { s.tgt t with jump := none }

/-- The segment goes on at a boundary that no jump takes (R180): the next pass, NEXT, or the chain's end. -/
def goOn (t : Nat) (g : Seg) (final : Bool) (s : State) : State :=
  if !final then
    let s := s.put (Fld.STM_TGT_PASS_PASS t) (s.fld (Fld.STM_TGT_PASS_PASS t) + 1)
    s.setTgt t { s.tgt t with chain := (s.tgt t).chain.map fun c => { c with done := 0 } }
  else if s.namesSeg t g.next then enterSeg t g.next (markEnd t (s.tick - 1) false s)
  else
    let s := markEnd t (s.tick - 1) true s
    s.setTgt t { s.tgt t with chain := none }

/-- A boundary of a target (R180 to R183). -/
def segmentBoundary (t : Nat) (s : State) : State :=
  if s.atBoundary t then
    let g := s.segNow t
    let final := g.rep != 0xFFFF && s.fld (Fld.STM_TGT_PASS_PASS t) == g.rep
    let eligible := !g.finalOnly || final
    match (s.tgt t).jump with
    | none => goOn t g final s
    | some j =>
      if eligible && decide (j.vis + 16 ≤ s.tick) then actJump t j s
      else goOn t g final (s.setTgt t { s.tgt t with jump := some { j with passed := j.passed || (eligible && decide (j.vis < s.tick)) } })
  else s

/-- SEGMENT_BOUNDARY. -/
def execSegmentBoundary (t : Fin 640) (s : State) : Host.Outcome State Fault Refusal := .next (segmentBoundary t s)

/-- The last fetched tick of a segment leaves stage 10 (R181): trigger outputs follow it, and with the chain's end PLAYING
ends and a jump still pending is discarded (R186). -/
def segmentEnd (t : Nat) (s : State) : State :=
  match (s.tgt t).ends with
  | (due, final) :: rest =>
    if due ≤ s.tick then
      let s := followTriggers 3 t (s.setTgt t { s.tgt t with ends := rest })
      if final && !s.playing t then dropJump t (s.put (Fld.STM_TGT_STATUS_PLAYING t) 0) else s
    else s
  | [] => s

/-- SEGMENT_END. -/
def execSegmentEnd (t : Fin 640) (s : State) : Host.Outcome State Fault Refusal := .next (segmentEnd t s)

/-- The record of an underrun is written at STM_UR_LOG[NEXT] (R198). -/
def writeUrRec (t : Nat) (u : UrRec) (s : State) : State :=
  let i := s.fld Fld.STM_UR_HEAD_NEXT
  let s := s.wr64 (Reg.STM_UR_LOG_REEL_LO i) u.reel
  let s := s.wr (Reg.STM_UR_LOG_INFO i) (BitVec.ofNat 32 (t + u.stream * 2 ^ 10 + u.sub * 2 ^ 16 + u.cause * 2 ^ 22))
  let s := s.wr (Reg.STM_UR_LOG_POS i) (BitVec.ofNat 32 u.pos)
  let s := if s.fld Fld.STM_UR_HEAD_PENDING = 16 then s.count Fld.STM_UR_HEAD_LOST
    else s.put Fld.STM_UR_HEAD_PENDING (s.fld Fld.STM_UR_HEAD_PENDING + 1)
  s.put Fld.STM_UR_HEAD_NEXT ((i + 1) % 16)

/-- The tick after an underrun: its record is written and a stop becomes visible to the claiming spindle, recognised two ticks
later (R196, R198). -/
def underrunStop (t : Nat) (s : State) : State :=
  match (s.tgt t).urRec with
  | some u =>
    if s.tick ≤ (s.tgt t).urTick then s else
    let s := writeUrRec t u (s.setTgt t { s.tgt t with urRec := none })
    { s with later := s.later ++ [(s.tick + 2, .underrunStop (s.tgt t).urSpn)] }
  | none => s

/-- UNDERRUN_STOP. -/
def execUnderrunStop (t : Fin 640) (s : State) : Host.Outcome State Fault Refusal := .next (underrunStop t s)

/-- The forced zero ends in the tick after the one in which the claiming spindle has entered IDLE since the underrun (R197), be it by the stop,
by an END of its own or because the run ends; the stop of a spindle that is IDLE already enters IDLE in the tick of its recognition, and
a spindle in ERROR enters it at the next run start at the latest (DESIGN CHOICE, log entry 132). -/
def underrunZeroEnd (t : Nat) (s : State) : State :=
  let x := s.tgt t
  let idle := (s.spindle x.urSpn).idleTick
  if s.bit (Fld.STM_TGT_STATUS_MUTED_UR t) && decide (x.urTick ≤ idle) && decide (idle < s.tick) then
    s.put (Fld.STM_TGT_STATUS_MUTED_UR t) 0
  else s

/-- UNDERRUN_ZERO_END. -/
def execUnderrunZeroEnd (t : Fin 640) (s : State) : Host.Outcome State Fault Refusal := .next (underrunZeroEnd t s)

/-- A write of STM_UR_HEAD acknowledges ACK records (R198). -/
def urAck (v : Word) (s : State) : State :=
  s.put Fld.STM_UR_HEAD_PENDING (s.fld Fld.STM_UR_HEAD_PENDING - fieldGet v Fld.STM_UR_HEAD_ACK)

/-- UR_ACK. -/
def execUrAck (path : Path) (v : Word) (s : State) : Host.Outcome State Fault Refusal :=
  .next (gated path Reg.STM_UR_HEAD (urAck v) s)

/-- The target that an update instant moves a bias port toward (R168, R169). -/
def State.biasTarget (s : State) (b : Nat) : Int :=
  if s.outputsActive && s.bit (Fld.SYN_BIA_CFG_EN b) then
    match (sget (fun _ => {}) s.syn.bia b).sets.find? fun p => decide (p.1 + 2 ≤ s.tick) with
    | some p => sgn 20 p.2
    | none => 0
  else 0

/-- One bias port at an update instant; a port on hold is frozen (R462). -/
def biasStep (b : Nat) (s : State) : State :=
  if s.sup.hold = some (192 + b) then s else
  s.put (Fld.SYN_BIA_NOW_CODE b)
    (twos 20 (stepToward (sgn 20 (s.fld (Fld.SYN_BIA_NOW_CODE b))) (s.biasTarget b) (s.fld (Fld.SYN_BIA_SLEW_CODE b))))

/-- An update instant of the bias ports (R167 to R169): every 5,000 ticks since SYNC, while their permit waves are present. -/
def biasUpdate (s : State) : State :=
  if s.sinceSync % 5000 = 0 ∧ s.syn.biaTick ≠ some s.tick ∧ s.permitted then
    let s := { s with syn := { s.syn with biaTick := some s.tick } }
    forN 64 biasStep s
  else s

/-- BIAS_UPDATE. -/
def execBiasUpdate (s : State) : Host.Outcome State Fault Refusal := .next (biasUpdate s)

/-- A write of STM_RV_CMD restarts an enabled stream that no segment plays (R192). -/
def rvRestart (r : Nat) (v : Word) (s : State) : State :=
  if v.getLsbD 0 && s.bit (Fld.STM_RV_CFG_EN r) && decide (4 ≤ s.mode ∧ s.mode ≤ 6) && !s.streamPlays r then primeStream r s
  else s

/-- RV_RESTART. -/
def execRvRestart (path : Path) (r : Fin 64) (v : Word) (s : State) : Host.Outcome State Fault Refusal :=
  .next (gated path (Reg.STM_RV_CMD r) (rvRestart r v) s)

/-- A pulse on an output falls (R172). -/
def outputPulseFall (o : Nat) (s : State) : State :=
  match (s.outPin o).fall with
  | some f => if f / 64 ≤ s.tick then (s.put (outField o) 0).setOut o {} else s
  | none => s

/-- OUTPUT_PULSE_FALL. -/
def execOutputPulseFall (o : Fin 48) (s : State) : Host.Outcome State Fault Refusal := .next (outputPulseFall o s)

end Sys2Proof.Machine
end

