-- ==== Sys2Proof/Machine/Access.lean ====
section
/-! DEFINITION. Machine/Access.lean: reads and writes of BAR0 by every path (R2 to R12), and the commands that are nothing else. -/

namespace Sys2Proof.Machine

/-! ### Reads -/

/-- A register value with some fields shown as they stand. -/
def showing (v : Word) (fs : List (Field × Nat)) : Word := fs.foldl (fun v f => fieldPut v f.1 f.2) v

/-- SUP_ERR_CUR and the registers beside it (R478). -/
def State.errShown (s : State) (off : Nat) : Word :=
  match s.errCurrent with
  | none => 0
  | some e =>
    if off = Reg.SUP_ERR_CUR then
      showing 0 [(Fld.SUP_ERR_CUR_SEV, e.rep.sev), (Fld.SUP_ERR_CUR_VALID, 1), (Fld.SUP_ERR_CUR_SEQ, e.seq),
        (Fld.SUP_ERR_CUR_CLASS, e.rep.cls), (Fld.SUP_ERR_CUR_EVENT, e.rep.ev)]
    else if off = Reg.SUP_ERR_CUR_INFO then
      showing 0 [(Fld.SUP_ERR_CUR_INFO_INSTANCE, e.rep.inst), (Fld.SUP_ERR_CUR_INFO_REPEAT, e.again)]
    else BitVec.ofNat 32 (e.rep.ns / 2 ^ (8 * (off - Reg.SUP_ERR_CUR_REEL_LO)))

/-- Reads outstanding for a DMA queue (HIF_Q_STATUS): those of the streams it feeds, or of the descriptor it runs. -/
def State.readsOut (s : State) (q : Nat) : Nat :=
  if s.bit (Fld.HIF_Q_CFG_MODE q) then
    ((List.range 64).map fun r =>
      if s.bit (Fld.STM_RV_CFG_EN r) ∧ s.fld (Fld.STM_RV_CFG_SRC r) = 1 ∧ s.fld (Fld.STM_RV_CFG_QUEUE r) = q then
        (s.stream r).reqs.length else 0).sum
  else if (s.dmaJob q).isSome then (Config.dmaOutstanding q s.tick).toNat else 0

/-- What a register shows beside what it stores: status that follows from the state, and words that are kept from the reader. From
power-on reset until PORST_N is released, status shows its reset value (R13; log entry 130). -/
def State.live (s : State) (off : Nat) : Word :=
  let v := s.rd off
  if off < 0x10000 then
    if off = Reg.GLB_MODE_STATUS then
      showing v [(Fld.GLB_MODE_STATUS_BUSY, b2n s.modeBusy), (Fld.GLB_MODE_STATUS_REEL_LOCK, b2n s.reelLock),
        (Fld.GLB_MODE_STATUS_PLL_LOCK, b2n s.pllLock),
        (Fld.GLB_MODE_STATUS_SAFE_OUT, b2n (!s.permitted || !(decide (4 ≤ s.mode) && decide (s.mode ≤ 6))))]
    else v
  else if off < 0x20000 then
    match elem off (Reg.HIF_VEC_LEVEL 0) 4 16, elem off (Reg.HIF_Q_STATUS 0) 0x40 64 with
    | some w, _ => BitVec.ofNat 32 ((List.range 32).foldl (fun n i => if s.vecLevel (32 * w + i) then setBit n i else n) 0)
    | _, some q => showing v [(Fld.HIF_Q_STATUS_OUTSTANDING q, s.readsOut q)]
    | _, _ => v
  else if off < 0x30000 then
    if off = Reg.SEC_DSN_LO then BitVec.ofNat 32 Config.serialNumber.toNat
    else if off = Reg.SEC_DSN_HI then BitVec.ofNat 32 (Config.serialNumber.toNat / 2 ^ 32)
    else match elem off (Reg.SEC_BUF 0) 4 64 with
      | some w =>
        if s.sec.kekReadable && decide (w < 8) then BitVec.ofNat 32 (leNat (((s.sec.kek.getD []).drop (4 * w)).take 4)) else 0
      | none => if Reg.SEC_SNAP_REEL_LO ≤ off ∧ s.fld Fld.SEC_STATUS_LEVEL = 0 then 0 else v
  else if off < 0x40000 then
    if off = Reg.SUP_STATUS then
      showing v [(Fld.SUP_STATUS_RAMPING, b2n s.ramping), (Fld.SUP_STATUS_ARBITRATING, b2n s.sup.arb.isSome),
        (Fld.SUP_STATUS_DEGRADED, b2n ((List.range 240).any fun m => s.fld (Fld.SUP_MON_STATUS_CMP_DIS m) != 0)),
        (Fld.SUP_STATUS_QUIET, b2n (s.glb.released && !s.spindlesRun)), (Fld.SUP_STATUS_PWR_BAND, s.pwrBand), (Fld.SUP_STATUS_CAL_BAND, s.calBand)]
    else if off = Reg.SUP_TRIP_ACTIVE then (if s.glb.released then BitVec.ofNat 32 s.activeBits else 0)
    else if Reg.SUP_ERR_CUR ≤ off ∧ off ≤ Reg.SUP_ERR_CUR_REEL_HI then s.errShown off
    else match elem off (Reg.SUP_MON_THR 0) 0x10 48 with
      | some m => showing v [(Fld.SUP_MON_THR_HI m, s.rfHi m)]
      | none => v
  else if off = Reg.PWR_STATUS then showing v [(Fld.PWR_STATUS_GATING, b2n s.gating)]
  else if off = Reg.TLN_STATUS then
    showing v [(Fld.TLN_STATUS_REEL_LOCK, b2n s.reelLock), (Fld.TLN_STATUS_VALID, b2n s.reelValid)]
  else if off = Reg.TLN_REEL_NS_LO then BitVec.ofNat 32 s.reelNs
  else if off = Reg.TLN_REEL_NS_HI then BitVec.ofNat 32 (s.reelNs / 2 ^ 32)
  else if off = Reg.TLN_REEL_FRAC then BitVec.ofNat 32 s.tln.reel
  else if off = Reg.CSC_EPOCH_LO then (if s.glb.released then BitVec.ofNat 32 s.epoch else 0)
  else if off = Reg.CSC_EPOCH_HI then (if s.glb.released then BitVec.ofNat 32 (s.epoch / 2 ^ 32) else 0)
  else if off = Reg.BOB_EVENT_SUM then
    BitVec.ofNat 32 ((List.range 32).foldl (fun n b => if s.rd (Reg.BOB_EVENT b) != 0 then setBit n b else n) 0)
  else if off = Reg.SYN_STATUS then showing v [(Fld.SYN_STATUS_BAND, s.pwrBand)]
  else match elem off (Reg.TLN_PTP_STATUS 0) 0x40 2, elem off (Reg.SYN_CH_STATUS 0) 0x20 512 with
    | some p, _ => showing v [(Fld.TLN_PTP_STATUS_PRIMARY p, b2n (s.glb.released && s.primary == p))]
    | _, some k => showing v [(Fld.SYN_CH_STATUS_PLAYING k, b2n (s.tgtBusy k))]
    | _, _ => v

/-- Whether a path may read an offset (R403, R436, R316). -/
def State.mayRead (s : State) (p : Path) (off : Nat) : Bool :=
  s.glb.released && match p with
  | .bar0 => true
  | .smbus => !inSec off
  | .tap => (decide (1 ≤ s.fld Fld.SEC_STATUS_LEVEL) && !inSec off) || secAuth off
  | .remote => s.bit Fld.CSC_CFG_RRA_EN && !inSec off

/-- The key of a path's copy of a pair, by the offset of its `_LO` register (R10). -/
def pairKey (p : Path) (lo : Nat) : Nat := pathIdx p * 2 ^ 26 + lo

/-- A path's copy of a register is set or released. -/
def State.hold (s : State) (key : Nat) (v : Option Word) : State := { s with heldRd := sset (fun _ => none) s.heldRd key v }

/-- What a read does beside giving the value: a capture or release of R10 (the low word of the reel captures TLN_REEL_FRAC too), and
VALID of a monitor ADC's result (R467). -/
def readEffect (p : Path) (off : Nat) (s : State) : State :=
  match elem off (Reg.SUP_MADC_RESULT 0) 0x10 2 with
  | some x => s.put (Fld.SUP_MADC_RESULT_VALID x) 0
  | none => match (regDesc off).map RegDesc.half with
    | some .lo =>
      let t := s.hold (pairKey p off) (some (s.live (off + 4)))
      if off = Reg.TLN_REEL_NS_LO then t.hold (pairKey p Reg.TLN_REEL_FRAC) (some (s.live Reg.TLN_REEL_FRAC)) else t
    | some .hi => s.hold (pairKey p (off - 4)) none
    | _ => if off = Reg.TLN_REEL_FRAC then s.hold (pairKey p off) none else s

/-- The value that a read gives (R4, R10, R11). -/
def State.readValue (s : State) (p : Path) (off : Nat) : Word :=
  match regDesc off with
  | none => 0
  | some d =>
    if d.half = .hi then (sget (fun _ => none) s.heldRd (pairKey p (off - 4))).getD (s.live off)
    else if off = Reg.TLN_REEL_FRAC then (sget (fun _ => none) s.heldRd (pairKey p off)).getD (s.live off)
    else s.live off

/-- A read of BAR0 by a path. -/
def readBar0 (p : Path) (off : Nat) (s : State) : State :=
  if off % 4 ≠ 0 then (if p = .bar0 then unsupported s else s.answer .refused)
  else if !s.mayRead p off then pathRefused p s
  else (readEffect p off s).answer .ok (s.readValue p off)

/-! ### Writes -/

/-- Writes that do more than their fields' access types say: the registers (two strides and counts) and the action. -/
structure WriteAction where
  base : Nat
  s1 : Nat
  n1 : Nat
  s2 : Nat := 4
  n2 : Nat := 1
  act : Path → Nat → Nat → Word → State → State

/-- The indices of an offset among an action's registers. -/
def WriteAction.index (a : WriteAction) (off : Nat) : Option (Nat × Nat) :=
  if a.base ≤ off then
    let r := off - a.base
    let i := r / a.s1
    let j := r % a.s1 / a.s2
    if i < a.n1 ∧ j < a.n2 ∧ r % a.s1 % a.s2 = 0 then some (i, j) else none
  else none

/-- TLN_CMD.ACCEPT (R74). -/
def tlnCmdWrite (p : Path) (v : Word) (s : State) : State :=
  gated p Reg.TLN_CMD (fun s => match fieldGet v Fld.TLN_CMD_ACCEPT with
    | 1 => acceptSlewOut s
    | 2 => acceptStepFwd s
    | _ => s) s

/-- A write of TLN_PTP_CFG: a port that is disabled is lost, and a path change that names it is over (R82). -/
def ptpCfgWrite (p : Path) (k : Nat) (v : Word) (s : State) : State :=
  let was := s.bit (Fld.TLN_PTP_CFG_EN k)
  let s := plainWrite p (Reg.TLN_PTP_CFG k) v s
  if was && !s.bit (Fld.TLN_PTP_CFG_EN k) then
    let s := losePort k s
    if s.tln.asymOn && s.fld Fld.TLN_STATUS_ASYM_PORT == k then endAsym s else s
  else s

/-- A write of SPN_DBG (R136, R137). -/
def spnDbgWrite (p : Path) (n : Nat) (v : Word) (s : State) : State :=
  gated p (Reg.SPN_DBG n) (fun s =>
    let s := if v.getLsbD 0 then dbgHalt n s else s
    let s := if v.getLsbD 1 then dbgStep n s else s
    if v.getLsbD 2 && s.debugControl then resumeSpindle n s else s) s

/-- A write of RDO_CH_CFG: its filter and gain take effect at the group boundary (R201). -/
def chCfgWrite (p : Path) (r : Nat) (v : Word) (s : State) : State :=
  let was := s.rd (Reg.RDO_CH_CFG r)
  let s := plainWrite p (Reg.RDO_CH_CFG r) v s
  let now := s.rd (Reg.RDO_CH_CFG r)
  if was = now then s
  else scheduleChange (.gain r (fieldGet now (Fld.RDO_CH_CFG_DIG_GAIN r)))
    (scheduleChange (.filter r (fieldGet now (Fld.RDO_CH_CFG_FILTER r))) s)

/-- A write of RDO_CH_PHASE, which takes effect likewise (log entry 48). -/
def chPhaseWrite (p : Path) (r : Nat) (v : Word) (s : State) : State :=
  let was := s.rd (Reg.RDO_CH_PHASE r)
  let s := plainWrite p (Reg.RDO_CH_PHASE r) v s
  if s.rd (Reg.RDO_CH_PHASE r) = was then s else scheduleChange (.phase r (s.fld (Fld.RDO_CH_PHASE_PH r))) s

/-- A write of FAB_EV_EN: an event of the same tick sees the enables as they were (R258). -/
def evEnWrite (p : Path) (w : Nat) (v : Word) (s : State) : State :=
  let was := s.rd (Reg.FAB_EV_EN w)
  let s := plainWrite p (Reg.FAB_EV_EN w) v s
  match sget (fun _ => none) s.fab.enOld w with
  | some _ => s
  | none => { s with fab := { s.fab with enOld := sset (fun _ => none) s.fab.enOld w (some was) } }

/-- A write of CSC_TW_CFG: a port that is disabled is DOWN (R293). -/
def twCfgWrite (p : Path) (k : Nat) (v : Word) (s : State) : State :=
  let was := s.bit (Fld.CSC_TW_CFG_EN k)
  let s := plainWrite p (Reg.CSC_TW_CFG k) v s
  if was && !s.bit (Fld.CSC_TW_CFG_EN k) then twDown k s else s

/-- A write of DRF_LANE_RING has no effect while the lane runs a job (log entry 31). -/
def laneRingWrite (p : Path) (l : Nat) (v : Word) (s : State) : State :=
  if (s.job l).isSome then gated p (Reg.DRF_LANE_RING l) id s else plainWrite p (Reg.DRF_LANE_RING l) v s

/-- A write of HIF_SMB_MBOX_IN, which SMBus alone makes (R404). -/
def mboxWrite (p : Path) (v : Word) (s : State) : State :=
  if p = .smbus then gated p Reg.HIF_SMB_MBOX_IN (fun s => (s.wr Reg.HIF_SMB_MBOX_IN v).raise Fld.HIF_EVENT_SMB_MBOX) s
  else plainWrite p Reg.HIF_SMB_MBOX_IN v s

/-- A write of SUP_MON_CFG: a monitor whose EN changes qualifies anew (R461). -/
def monCfgWrite (p : Path) (m : Nat) (v : Word) (s : State) : State :=
  permitting (fun s =>
    let was := s.monOn m
    let s := plainWrite p (Reg.SUP_MON_CFG m) v s
    if was == s.monOn m then s else restartMon m s) s

/-- A write of SUP_TS_CFG: a sensor that is disabled keeps no band (R472). -/
def tsCfgWrite (p : Path) (k : Nat) (v : Word) (s : State) : State :=
  let was := s.tsOn k
  let s := plainWrite p (Reg.SUP_TS_CFG k) v s
  if was && !s.tsOn k then settleSup s else s

/-- Every write that has an action of its own. -/
def writeActions : List WriteAction := [
  { base := Reg.GLB_MODE_CTL, s1 := 4, n1 := 1, act := fun p _ _ v s =>
      modeCtl p (fieldGet v Fld.GLB_MODE_CTL_REQ) (fieldGet v Fld.GLB_MODE_CTL_RUN == 1)
        (BitVec.ofNat 8 (fieldGet v Fld.GLB_MODE_CTL_KEY)) s },
  { base := Reg.GLB_CLK_CTL, s1 := 4, n1 := 1, act := fun p _ _ v s => clkCtlWrite p v s },
  { base := Reg.GLB_RST_CTL, s1 := 4, n1 := 1, act := fun p _ _ v s => rstCtlWrite p v s },
  { base := Reg.HIF_SMB_MBOX_IN, s1 := 4, n1 := 1, act := fun p _ _ v s => mboxWrite p v s },
  { base := Reg.HIF_Q_CFG 0, s1 := 0x40, n1 := 64, act := fun p q _ v s => writeQCfg p q v s },
  { base := Reg.HIF_Q_TAIL 0, s1 := 0x40, n1 := 64, act := fun p q _ v s => writeTail p q v s },
  { base := Reg.HIF_Q_CTL 0, s1 := 0x40, n1 := 64, act := fun p q _ v s => writeQCtl p q v s },
  { base := Reg.HIF_MSIX_TABLE 0 0, s1 := 16, n1 := 512, n2 := 4, act := fun p v j x s => writeMsix p v j x s },
  { base := Reg.SEC_LOAD_CTL, s1 := 4, n1 := 1, act := fun p _ _ v s => loadCtlWrite p v s },
  { base := Reg.SEC_CMD, s1 := 4, n1 := 1, act := fun p _ _ v s => secCmdWrite p v s },
  { base := Reg.SUP_CMD, s1 := 4, n1 := 1, act := fun p _ _ v s => supCmdWrite p v s },
  { base := Reg.SUP_ERR_ACK, s1 := 4, n1 := 1, act := fun p _ _ v s => gated p Reg.SUP_ERR_ACK (errAck v) s },
  { base := Reg.SUP_MADC_CTL 0, s1 := 0x10, n1 := 2, act := fun p x _ v s => gated p (Reg.SUP_MADC_CTL x) (madcStart x v) s },
  { base := Reg.SUP_MON_CFG 0, s1 := 0x10, n1 := 240, act := fun p m _ v s => monCfgWrite p m v s },
  { base := Reg.SUP_MON_STATUS 0, s1 := 0x10, n1 := 240, act := fun p m _ v s => monFlagWrite p m v s },
  { base := Reg.SUP_TS_CFG 0, s1 := 0x20, n1 := 24, act := fun p k _ v s => tsCfgWrite p k v s },
  { base := Reg.PWR_CMD, s1 := 4, n1 := 1, act := fun p _ _ v s => pwrCmdWrite p v s },
  { base := Reg.PWR_DORM_TOL, s1 := 4, n1 := 1, act := fun p _ _ v s => dormTolWrite p v s },
  { base := Reg.PWR_LAT_TOL 0, s1 := 4, n1 := 16, act := fun p g _ v s => latTolWrite p g v s },
  { base := Reg.TLN_CTL, s1 := 4, n1 := 1, act := fun p _ _ v s => tlnCtlWrite p v s },
  { base := Reg.TLN_SLEW_MAX, s1 := 4, n1 := 1, act := fun p _ _ v s => slewMaxWrite p v s },
  { base := Reg.TLN_CMD, s1 := 4, n1 := 1, act := fun p _ _ v s => tlnCmdWrite p v s },
  { base := Reg.TLN_PTP_CFG 0, s1 := 0x40, n1 := 2, act := fun p k _ v s => ptpCfgWrite p k v s },
  { base := Reg.TLN_LAUNCH_CFG 0, s1 := 0x20, n1 := 16, act := fun p k _ v s => writeLaunchCfg p k v s },
  { base := Reg.CSC_TW_CFG 0, s1 := 0x40, n1 := 4, act := fun p k _ v s => twCfgWrite p k v s },
  { base := Reg.CSC_TW_CMD 0, s1 := 0x40, n1 := 4, act := fun p k _ v s => gated p (Reg.CSC_TW_CMD k) (twCmdWrite k v) s },
  { base := Reg.CSC_RRA_CTL, s1 := 4, n1 := 1, act := fun p _ _ v s => gated p Reg.CSC_RRA_CTL (rraStart v) s },
  { base := Reg.CSC_RDMA_CTL, s1 := 4, n1 := 1, act := fun p _ _ v s => gated p Reg.CSC_RDMA_CTL (rdmaStart v) s },
  { base := Reg.DRF_LANE_RING 0, s1 := 0x40, n1 := 8, act := fun p l _ v s => laneRingWrite p l v s },
  { base := Reg.DRF_LANE_TAIL 0, s1 := 0x40, n1 := 8, act := fun p l _ v s => drfTailWrite p l v s },
  { base := Reg.SPN_CMD 0, s1 := 0x10000, n1 := 64, act := fun p n _ v s => gated p (Reg.SPN_CMD n) (hostPreempt n v) s },
  { base := Reg.SPN_DBG 0, s1 := 0x10000, n1 := 64, act := fun p n _ v s => spnDbgWrite p n v s },
  { base := Reg.STM_UR_HEAD, s1 := 4, n1 := 1, act := fun p _ _ v s => gated p Reg.STM_UR_HEAD (urAck v) s },
  { base := Reg.STM_RV_CMD 0, s1 := 0x40, n1 := 64, act := fun p r _ v s => gated p (Reg.STM_RV_CMD r) (rvRestart r v) s },
  { base := Reg.RDO_ACQ_ATT 0, s1 := 0x40, n1 := 16, act := fun p a _ v s => gated p (Reg.RDO_ACQ_ATT a) (attWrite a v) s },
  { base := Reg.RDO_CH_CFG 0, s1 := 0x20, n1 := 256, act := fun p r _ v s => chCfgWrite p r v s },
  { base := Reg.RDO_CH_PHASE 0, s1 := 0x20, n1 := 256, act := fun p r _ v s => chPhaseWrite p r v s },
  { base := Reg.RDO_ARR_CFG 0, s1 := 0x40, n1 := 16, act := fun p a _ v s => combOnWrite p a v s },
  { base := Reg.RDO_ARR_TONE_F 0 0, s1 := 0x4000, n1 := 16, s2 := 16, n2 := 1024, act := fun p a i v s => toneFcWrite p a i false v s },
  { base := Reg.RDO_ARR_TONE_C 0 0, s1 := 0x4000, n1 := 16, s2 := 16, n2 := 1024, act := fun p a i v s => toneFcWrite p a i true v s },
  { base := Reg.RDO_ARR_TONE_P 0 0, s1 := 0x4000, n1 := 16, s2 := 16, n2 := 1024, act := fun p a i v s => tonePWrite p a i v s },
  { base := Reg.FAB_FORCE, s1 := 4, n1 := 1, act := fun p _ _ v s => gated p Reg.FAB_FORCE (fabForce v) s },
  { base := Reg.FAB_EV_EN 0, s1 := 4, n1 := 32, act := fun p w _ v s => evEnWrite p w v s },
  { base := Reg.BOB_ARM, s1 := 4, n1 := 1, act := fun p _ _ v s => gated p Reg.BOB_ARM (forBits bobArm v) s },
  { base := Reg.BOB_DISARM, s1 := 4, n1 := 1, act := fun p _ _ v s => gated p Reg.BOB_DISARM (forBits abortBob v) s },
  { base := Reg.BOB_FORCE, s1 := 4, n1 := 1, act := fun p _ _ v s =>
      gated p Reg.BOB_FORCE (forBits (fun b s => markTrigger b 4 s.tln.reel s) v) s },
  { base := Reg.BOB_CMD 0, s1 := 0x100, n1 := 32, act := fun p b _ v s => gated p (Reg.BOB_CMD b) (bobCmdWrite b v) s },
  { base := Reg.BOB_DIR_HEAD 0, s1 := 0x100, n1 := 32, act := fun p b _ v s => gated p (Reg.BOB_DIR_HEAD b) (bobDirAck b v) s }]

/-- The action of an offset. -/
def writeActionAt (off : Nat) : List WriteAction → Option (Path → Word → State → State)
  | [] => none
  | a :: as => match a.index off with
    | some (i, j) => some fun p v s => a.act p i j v s
    | none => writeActionAt off as

/-- A write of one register. -/
def writeOne (p : Path) (off : Nat) (v : Word) (s : State) : State :=
  match writeActionAt off writeActions with
  | some act => act p v s
  | none => plainWrite p off v s

/-! ### Pairs (R12) -/

/-- A write of a writable `_LO` register is held. -/
def holdLo (p : Path) (off : Nat) (v : Word) (s : State) : State :=
  gated p off (fun s => { s with heldWr := sset (fun _ => none) s.heldWr (pairKey p off) (some v) }) s

/-- The 64-bit value of a pair takes effect, both halves judged as one write under R7. -/
def writePair (src lo : Nat) (d : RegDesc) (vl vh : Word) (s : State) : State :=
  let hi := lo + 4
  let lock := d.rwl != 0 && s.rwlLocked
  let differs := ((s.rd lo ^^^ vl) ||| (s.rd hi ^^^ vh)) &&& d.rwl != 0
  if lock then (if differs then wrRefused src 0 hi s else s)
  else
    let s := (s.wr lo ((s.rd lo &&& ~~~(d.rw ||| d.rwl)) ||| (vl &&& (d.rw ||| d.rwl)))).wr hi
      ((s.rd hi &&& ~~~(d.rw ||| d.rwl)) ||| (vh &&& (d.rw ||| d.rwl)))
    if differs then taint s else s

/-- A pair's value takes effect: BOB_RD releases data (R328), a queue's rings stand while it is enabled (R394). -/
def commitPair (p : Path) (lo : Nat) (d : RegDesc) (vl vh : Word) (s : State) : State :=
  match elem lo (Reg.BOB_RD_LO 0) 0x100 32, elem lo (Reg.HIF_Q_RING_LO 0) 0x40 64, elem lo (Reg.HIF_Q_CPL_LO 0) 0x40 64 with
  | some b, _, _ => bobRdWrite b (vl.toNat + 2 ^ 32 * vh.toNat) s
  | _, some q, _ => if s.bit (Fld.HIF_Q_CFG_EN q) then s else writePair (pathSrc p) lo d vl vh s
  | _, _, some q => if s.bit (Fld.HIF_Q_CFG_EN q) then s else writePair (pathSrc p) lo d vl vh s
  | _, _, _ => writePair (pathSrc p) lo d vl vh s

/-- A write of a `_HI` register: the value held for `_LO` on the same path, or the live word, takes effect with it. -/
def commitHi (p : Path) (off : Nat) (d : RegDesc) (v : Word) (s : State) : State :=
  gated p off (fun s =>
    let lo := off - 4
    let vl := (sget (fun _ => none) s.heldWr (pairKey p lo)).getD (s.rd lo)
    let s := { s with heldWr := sset (fun _ => none) s.heldWr (pairKey p lo) none }
    commitPair p lo d vl v s) s

/-- A write of BAR0 by a path. -/
def writeBar0 (p : Path) (off : Nat) (v : Word) (s : State) : State :=
  if off % 4 ≠ 0 then (if p = .bar0 then unsupported s else s.answer .refused)
  else match regDesc off with
    | some d =>
      if d.rw ||| d.rwl = 0 then writeOne p off v s
      else match d.half with
        | .lo => holdLo p off v s
        | .hi => commitHi p off d v s
        | .none => writeOne p off v s
    | none => plainWrite p off v s

/-! ### Commands -/

/-- REGISTER_WRITE. -/
def execRegisterWrite (path : Path) (off : BitVec 26) (v : Word) (s : State) : Host.Outcome State Fault Refusal :=
  .next (writeBar0 path off.toNat v s)

/-- BAR0_BAD_ACCESS (R3). -/
def execBar0BadAccess (s : State) : Host.Outcome State Fault Refusal := .next (unsupported s)

/-- LO_READ_CAPTURE (R10): a read; any other register reads as it does. -/
def execLoReadCapture (path : Path) (off : BitVec 26) (s : State) : Host.Outcome State Fault Refusal :=
  .next (readBar0 path off.toNat s)

/-- HI_READ (R11). -/
def execHiRead (path : Path) (off : BitVec 26) (s : State) : Host.Outcome State Fault Refusal := .next (readBar0 path off.toNat s)

/-- LO_WRITE_HOLD (R12). -/
def execLoWriteHold (path : Path) (off : BitVec 26) (v : Word) (s : State) : Host.Outcome State Fault Refusal :=
  .next (writeBar0 path off.toNat v s)

/-- HI_WRITE_COMMIT (R12). -/
def execHiWriteCommit (path : Path) (off : BitVec 26) (v : Word) (s : State) : Host.Outcome State Fault Refusal :=
  .next (writeBar0 path off.toNat v s)

/-- MADC_RESULT_READ (R467). -/
def execMadcResultRead (path : Path) (x : Fin 2) (s : State) : Host.Outcome State Fault Refusal :=
  .next (readBar0 path (Reg.SUP_MADC_RESULT x) s)

end Sys2Proof.Machine
end

