-- ==== Sys2Proof/Machine/Discr.lean ====
section
/-! DEFINITION. Machine/Discr.lean: the commands of discrimination (spec/07). -/

namespace Sys2Proof.Machine

/-- An RWIN is taken up (R228 to R230, R250): a decision formed in this tick or earlier stands, a requested swap acts, an open
window is cut, and the new window latches the active classifier; bobbins that
trigger on the window see its open time (R333). -/
def rwinTakeUp (r : Nat) (s : State) : State :=
  match (s.dscCh r).rwins with
  | q :: rest =>
    if q.tick ≤ s.tick then
      let s := swapSets r (formDecision r s)
      let c := s.dscCh r
      let s := if c.win.isSome then
          ((s.raise (Fld.DSC_CH_EVENT_WIN_CUT r)).raise Fld.DSC_EVENT_WIN_CUT).count (Fld.DSC_CH_COUNT2_CUT r)
        else s
      let set := (List.range 16).map fun i => s.rd (Reg.DSC_SET_K_BASE r q.kset + 4 * i)
      let seq := c.seq % 64
      let w : Window := { kset := q.kset, es := q.es, len := q.len, g0 := q.g0, seq := seq, set := set }
      let s := s.setDscCh r { c with rwins := rest, win := some w, due := none, form := none, decided := false,
                                     taken := some s.tick, seq := c.seq + 1 }
      let s := s.wr (Reg.DSC_CH_STATUS r) (BitVec.ofNat 32 (1 + 2 * q.kset + 4 * q.es + 2 ^ 16 * seq))
      let opens := 2 * q.g0
      bobWindow r (if s.sinceSync ≤ opens then futureReel s.tln.reel s.adj s.tick (opens - s.sinceSync) s.csc.rates
        else s.reelAgo (s.sinceSync - opens)) s
    else s
  | [] => s

/-- RWIN_TAKE_UP. -/
def execRwinTakeUp (r : Fin 256) (s : State) : Host.Outcome State Fault Refusal := .next (rwinTakeUp r s)

/-- EVALUATION. -/
def execEvaluation (r : Fin 256) (s : State) : Host.Outcome State Fault Refusal := .next (evaluate r s)

/-- DECISION_FORMED. -/
def execDecisionFormed (r : Fin 256) (s : State) : Host.Outcome State Fault Refusal := .next (formDecision r s)

end Sys2Proof.Machine
end

