-- ==== Sys2Proof/Machine/Remote.lean ====
section
/-! DEFINITION. Machine/Remote.lean: the other register paths: what a target does with remote accesses (R316), the SMBus target
(R402 to R404) and the test access port (R436, R530). -/

namespace Sys2Proof.Machine

/-! ### Remote access (R316) -/

/-- An access of this device ends: its completion, with STATUS in the codes of CSC_RRA_STATUS.RESULT, goes to the initiator. -/
def sendCpl (k : Packet) (status : Nat) (data : List (Word × Nat)) (s : State) : State :=
  routePacket 0 ⟨k.src, s.fld Fld.CSC_CFG_DEV_ID, 3, k.tag, status, 0, 0, data⟩ s

/-- The target acts for this initiator: the master, with RRA_EN. -/
def State.serves (s : State) (k : Packet) : Bool := k.src == s.fld Fld.CSC_CFG_MASTER_ID && s.bit Fld.CSC_CFG_RRA_EN

/-- A register access of this device: `act` makes it, and leaves its answer in `resp`; the answer of an access of the host's stands. -/
def remoteReg (k : Packet) (act : State → State) (s : State) : State :=
  if s.serves k ∧ k.space = 0 ∧ k.addr < 2 ^ 26 then
    let t := act s
    let ok : Bool := t.resp.status == .ok
    let data := if ok && k.kind == 1 then [(t.resp.value, 15)] else []
    sendCpl k (if ok then 2 else 3) data { t with resp := s.resp }
  else sendCpl k 3 [] s

/-- A rule discards a write of this device's registers, be it without the write-refused indication (R4, R22, R47, R260, R328, R388, R393,
R394, R467, R516, and the text of DRF_LANE_RING): the target does not act on it (R316). -/
def State.discards (s : State) (off : Nat) (v : Word) : Bool :=
  let held := (sget (fun _ => none) s.heldWr (pairKey .remote (off - 4))).getD (s.rd (off - 4))
  (regDesc off).isNone ||
  (off == Reg.GLB_MODE_CTL && fieldGet v Fld.GLB_MODE_CTL_KEY != 0xA5) ||
  off == Reg.GLB_RST_CTL ||
  (off == Reg.GLB_CLK_CTL && fieldGet v Fld.GLB_CLK_CTL_SYNC == 1 && !s.takesSync) ||
  (off == Reg.FAB_FORCE && !(s.debugControl && s.fabricOn)) ||
  (match elem off (Reg.HIF_Q_CFG 0) 0x40 64, elem off (Reg.HIF_Q_TAIL 0) 0x40 64, elem off (Reg.HIF_Q_CTL 0) 0x40 64 with
    | some q, _, _ => s.bit (Fld.HIF_Q_CFG_EN q) && (v &&& 0xF1) == (s.rd off &&& 0xF1) && (s.rd off ^^^ v) &&& 0xF02 != 0
    | _, some q, _ => decide (s.qSize q ≤ fieldGet v (Fld.HIF_Q_TAIL_INDEX q))
    | _, _, some q => fieldGet v (Fld.HIF_Q_CTL_RESET q) == 1 && s.fld (Fld.HIF_Q_STATUS_STATE q) == 1
    | _, _, _ => false) ||
  (match elem off (Reg.HIF_Q_RING_HI 0) 0x40 64, elem off (Reg.HIF_Q_CPL_HI 0) 0x40 64, elem off (Reg.BOB_RD_HI 0) 0x100 32 with
    | some q, _, _ => s.bit (Fld.HIF_Q_CFG_EN q)
    | _, some q, _ => s.bit (Fld.HIF_Q_CFG_EN q)
    | _, _, some b => s.refusesRd b (held.toNat + 2 ^ 32 * v.toNat)
    | _, _, _ => false) ||
  match elem off (Reg.DRF_LANE_RING 0) 0x40 8, elem off (Reg.SUP_MADC_CTL 0) 0x10 2 with
    | some l, _ => (s.job l).isSome
    | _, some x => fieldGet v (Fld.SUP_MADC_CTL_START x) == 1 && s.madcBusy x
    | _, _ => false

/-- A register write by an initiator of another device: REFUSED where this device does not act on it (R316). -/
def remoteWrite (off : Nat) (v : Word) (s : State) : State :=
  let t := writeBar0 .remote off v s
  if s.discards off v then t.answer .refused else t

/-- BULK_REG_WR. A write of other than 32 bits is the access of R3. -/
def execBulkRegWr (p lane : Fin 4) (freed : Fin 16) (dest src : Fin 64) (tag : Byte) (space : Fin 4) (addr : BitVec 37) (be : Fin 16)
    (v : Word) (s : State) : Host.Outcome State Fault Refusal :=
  let k : Packet := ⟨dest, src, 0, tag.toNat, 0, space, addr.toNat / 4 * 4, [(v, be)]⟩
  .next (onPacket p lane freed k (remoteReg k fun s => if be = 15 then remoteWrite k.addr v s else unsupported s) s)

/-- BULK_REG_RD. -/
def execBulkRegRd (p lane : Fin 4) (freed : Fin 16) (dest src : Fin 64) (tag : Byte) (space : Fin 4) (addr : BitVec 37) (s : State) :
    Host.Outcome State Fault Refusal :=
  let k : Packet := ⟨dest, src, 1, tag.toNat, 0, space, addr.toNat / 4 * 4, []⟩
  .next (onPacket p lane freed k (remoteReg k (readBar0 .remote k.addr)) s)

/-- The bytes that a packet's data frames write. -/
def packetBytes (data : List (Word × Nat)) : List (Option Byte) :=
  (data.map fun d => (leBytes 4 d.1.toNat).zipIdx.map fun b => if d.2.testBit b.2 then some b.1 else none).flatten

/-- A memory write of this device through BAR2 or BAR4 (R316, R357, R358); one of DRAM is answered when it is granted. -/
def remoteMem (k : Packet) (ue : Bool) (s : State) : State :=
  let bs := packetBytes k.data
  if !s.serves k then sendCpl k 3 [] s
  else if k.space = 1 then
    if sramSize ≤ k.addr then sendCpl k 3 [] s
    else if s.mode = 0 then sendCpl k 3 [] { unsupported s with resp := s.resp }
    else
      let st := if s.sramTakes k.addr bs ue then 2 else 3
      sendCpl k st [] { writeSram 6 0 k.addr bs ue s with resp := s.resp }
  else if k.space = 2 then
    if s.noDram then sendCpl k 3 [] { unsupported s with resp := s.resp }
    else holdAccess (.remote k) [(k.addr, bs.length)] s
  else sendCpl k 3 [] s

/-- BULK_MEM_WR; `ue` tells that the merge of a part of an SRAM word finds an uncorrectable error (R353). -/
def execBulkMemWr (p lane : Fin 4) (freed : Fin 16) (dest src : Fin 64) (tag : Byte) (space : Fin 4) (addr : BitVec 37)
    (data : List (Word × Fin 16)) (ue : Bool) (s : State) : Host.Outcome State Fault Refusal :=
  let k : Packet := ⟨dest, src, 2, tag.toNat, 0, space, addr.toNat / 4 * 4, data.map fun d => (d.1, d.2.val)⟩
  .next (onPacket p lane freed k (remoteMem k ue) s)

/-! ### SMBus (R402 to R404) -/

/-- The target's 7-bit address. -/
def State.smbTarget (s : State) : Nat := 0x58 + s.hif.smbAddr

/-- An offset that the target takes: aligned and within BAR0. -/
def smbOffset (off : Nat) : Bool := off % 4 == 0 && decide (off < 2 ^ 26)

/-- A byte joins the SMBus packet error code: CRC-8 of x^8 + x^2 + x + 1, the SMBus standard's (R402; log entry 152). -/
def pecStep (c b : Nat) : Nat := (List.range 8).foldl (fun c _ => if bitOf c 7 then (2 * c % 256) ^^^ 7 else 2 * c) (c ^^^ b)

/-- The packet error code of the bytes of a transfer, its addresses and command among them. -/
def pecOf (bs : List Nat) : Nat := bs.foldl pecStep 0

/-- The bytes of a 32-bit offset or value. -/
def bytes32 (v : BitVec 32) : List Nat := (leBytes 4 v.toNat).map BitVec.toNat

/-- A read gives its bytes and the PEC byte behind them (R402): `sent` are the bytes of the transfer before them. -/
def withPec (sent : List Nat) (bs : List Byte) : List Byte := bs ++ [BitVec.ofNat 8 (pecOf (sent ++ bs.map BitVec.toNat))]

/-- What a READ gives: its four data bytes, then its status byte, then PEC. -/
def smbReadAnswer (off : BitVec 32) (v : Word) (st : Nat) (s : State) : State :=
  let sent := [2 * s.smbTarget, 0x10, 4] ++ bytes32 off ++ [2 * s.smbTarget + 1, 5]
  { s with resp := { status := if st = 0 then .ok else .refused, value := v,
                     bytes := withPec sent (leBytes 4 v.toNat ++ [BitVec.ofNat 8 st]) } }

/-- SMB_READ. The data of a READ with a bad offset are free (log entry 49). -/
def execSmbRead (addr : BitVec 7) (off : BitVec 32) (s : State) : Host.Outcome State Fault Refusal :=
  .next <|
    if addr.toNat ≠ s.smbTarget ∨ !s.glb.released then s
    else if !smbOffset off.toNat then
      let (v, s) := s.fresh 32
      smbReadAnswer off (BitVec.ofNat 32 v) 2 s
    else
      let t := readBar0 .smbus off.toNat s
      if t.resp.status = .ok then smbReadAnswer off t.resp.value 0 t else smbReadAnswer off 0 1 t

/-- The status of a WRITE is kept for STATUS. -/
def keepSmbStatus (st : Nat) (s : State) : State := { s with hif := { s.hif with smbStatus := st } }

/-- SMB_WRITE. A PEC byte that is sent is checked; a write whose PEC is wrong is not taken (log entry 152). -/
def execSmbWrite (addr : BitVec 7) (off v : BitVec 32) (pec : Option Byte) (s : State) : Host.Outcome State Fault Refusal :=
  .next <|
    let good := match pec with
      | some b => b.toNat == pecOf ([2 * addr.toNat, 0x11, 8] ++ bytes32 off ++ bytes32 v)
      | none => true
    if addr.toNat ≠ s.smbTarget ∨ !s.glb.released ∨ !good then s
    else if !smbOffset off.toNat then keepSmbStatus 2 (s.answer .refused)
    else
      let t := writeBar0 .smbus off.toNat v s
      keepSmbStatus (if t.resp.status = .ok then 0 else 1) t

/-- SMB_STATUS. -/
def execSmbStatus (addr : BitVec 7) (s : State) : Host.Outcome State Fault Refusal :=
  .next (if addr.toNat = s.smbTarget ∧ s.glb.released then
    s.giveBytes (withPec [2 * s.smbTarget, 0x12, 2 * s.smbTarget + 1] [BitVec.ofNat 8 s.hif.smbStatus]) else s)

/-! ### Test access port (R436, R530) -/

/-- An instruction is selected; the cells that EXTEST drives end with it. -/
def selectTap (ir : Nat) (s : State) : State := { s with tap := { s.tap with ir := ir, drive := none } }

/-- The data register after an access, with REFUSED and its data. -/
def tapResult (refused : Bool) (v : Word) (s : State) : State :=
  let d := s.tap.dr % 2 ^ 27 + 2 ^ 27 + b2n refused * 2 ^ 28 + v.toNat * 2 ^ 32
  { s with tap := { s.tap with dr := d } }

/-- An access that the level refuses; the data it shows are free (log entry 49). -/
def tapRefuse (s : State) : State :=
  let (v, s) := s.fresh 32
  tapResult true (BitVec.ofNat 32 v) s

/-- EXTEST is granted: FULL, in BLANK and M0 only (R436, R439). -/
def State.mayExtest (s : State) : Bool := s.blank && s.mode == 0 && s.fld Fld.SEC_STATUS_LEVEL == 3

/-- TAP_EXTEST: the cells drive the balls where that is granted. -/
def execTapExtest (cells : List Bool) (s : State) : Host.Outcome State Fault Refusal :=
  .next <|
    let s := selectTap 0 s
    if s.mayExtest then { s with tap := { s.tap with cells := cells, drive := some cells } } else tapRefuse s

/-- Free bits of the boundary cells. -/
def freshBits : Nat → State → List Bool × State
  | 0, s => ([], s)
  | n + 1, s =>
    let (b, s) := s.fresh 1
    let (bs, s) := freshBits n s
    ((b == 1) :: bs, s)

/-- TAP_SAMPLE_PRELOAD: the balls are captured, free here (log entry 49), and the cells are loaded. -/
def execTapSamplePreload (cells : List Bool) (s : State) : Host.Outcome State Fault Refusal :=
  .next <|
    let (bs, s) := freshBits cells.length (selectTap 1 s)
    { s with tap := { s.tap with cells := cells, captured := bs } }

/-- TAP_IDCODE. -/
def execTapIdcode (s : State) : Host.Outcome State Fault Refusal :=
  let s := selectTap 2 s
  .next { s with tap := { s.tap with dr := 0x10256A4D } }

/-- TAP_BYPASS: the 1-bit register captures 0 (IEEE 1149.1; log entry 49). -/
def execTapBypass (s : State) : Host.Outcome State Fault Refusal :=
  let s := selectTap 0xFF s
  .next { s with tap := { s.tap with dr := 0 } }

/-- One register access of the test access port at Update-DR, its result shown for the next Capture-DR. -/
def tapAccess (ir off : Nat) (write : Bool) (v : Word) (granted : Bool) (s : State) : State :=
  let s := selectTap ir s
  let s := { s with tap := { s.tap with dr := off + b2n write * 2 ^ 26 + v.toNat * 2 ^ 32 } }
  if granted then
    let t := if write then writeBar0 .tap off v s else readBar0 .tap off s
    let u := { t with resp := s.resp }
    if t.resp.status = .ok then tapResult false (if write then v else t.resp.value) u else tapRefuse u
  else tapRefuse s

/-- TAP_SEC_ACC: the SEC registers of R433 and R434, at every level. -/
def execTapSecAcc (off : BitVec 26) (write : Bool) (v : Word) (s : State) : Host.Outcome State Fault Refusal :=
  .next (tapAccess 0x10 off.toNat write v (secAuth off.toNat) s)

/-- TAP_BAR0_ACC: reads outside the SEC block from OBSERVE on, writes from CONTROL on. -/
def execTapBar0Acc (off : BitVec 26) (write : Bool) (v : Word) (s : State) : Host.Outcome State Fault Refusal :=
  let level := s.fld Fld.SEC_STATUS_LEVEL
  .next (tapAccess 0x11 off.toNat write v (if write then decide (2 ≤ level) else decide (1 ≤ level) && !inSec off.toNat) s)

/-- A read of memory by the test access port, in DRAM a request of class C2 (R361, R383). -/
def tapMemRead (bar4 : Bool) (a : Nat) (s : State) : State :=
  if bar4 then
    if s.noDram || decide (dramSize < a + 4) then tapRefuse s
    else holdAccess (.tap a) [(a, 4)] s
  else if s.mode == 0 || decide (sramSize < a + 4) then tapRefuse s
  else
    let (bs, s) := readSram a 4 s
    s.tapDone (leNat bs)

/-- TAP_MEM_ACC: reads at FULL; R436 grants no write. -/
def execTapMemAcc (bar4 write : Bool) (addr : BitVec 64) (v : Word) (s : State) : Host.Outcome State Fault Refusal :=
  .next <|
    let s := selectTap 0x12 s
    let s := { s with tap := { s.tap with dr := b2n bar4 + b2n write * 2 ^ 26 + v.toNat * 2 ^ 32 } }
    if !write && s.fld Fld.SEC_STATUS_LEVEL == 3 then tapMemRead bar4 addr.toNat s else tapRefuse s

end Sys2Proof.Machine
end

