-- ==== Sys2Proof/Machine/Grants.lean ====
section
/-! DEFINITION. Machine/Grants.lean: what DRAM grants: the zeroing on entry to M1, and the class C2 accesses that wait (R357, R361,
R362, R365). -/

namespace Sys2Proof.Machine

/-- A class C2 access acts (R357, R362): a read of the host's is answered, poisoned where a word of it is uncorrectable (R359); a MEM_WR of
another device is answered by its completion (R316). -/
def serveAccess (a : HeldAccess) (s : State) : State :=
  match a with
  | .write off bs => writeDram 2 0 off bs s
  | .read off n ue =>
    let (bad, s) := dramFinds off n ue s
    let (bs, s) := readDram off n (s.raiseIf bad Fld.MEM_EVENT_POISON)
    s.giveBytes (s.resp.bytes ++ bs) (bad || s.resp.status == .poisoned)
  | .tap off =>
    let (bad, s) := dramFinds off 4 false s
    if bad then
      let (v, s) := s.fresh 32
      s.tapDone v
    else
      let (bs, s) := readDram off 4 s
      s.tapDone (leNat bs)
  | .remote k =>
    let bs := packetBytes k.data
    let st := if s.hitsImage k.addr bs then 3 else 2
    sendCpl k st [] (writeDram 6 0 k.addr bs s)
  | .rdma dest space src len dst => rdmaSend dest space src len dst s

/-- The accesses at the front whose granules have all been granted act, in the order in which they arrived (R357). -/
def serveHeld : List (Nat × HeldAccess) → State → State
  | [], s => s
  | (id, a) :: rest, s =>
    if s.dramWaits (.host id) then s
    else serveHeld rest (serveAccess a { s with mem := { s.mem with held := rest } })

/-- The accesses that may act do, once the zeroing is complete and DRAM is out of self-refresh. -/
def serveDram (s : State) : State :=
  if s.bit Fld.MEM_STATUS_DRAM_READY && !s.bit Fld.MEM_STATUS_SELF_REFRESH then serveHeld s.mem.held { s with resp := {} }
  else s

/-- The zeroing of DRAM is complete (R357). -/
def dramInit (s : State) : State :=
  if s.bit Fld.MEM_STATUS_SRAM_READY ∧ !s.bit Fld.MEM_STATUS_DRAM_READY then
    guardImage (serveDram ((s.put Fld.MEM_STATUS_DRAM_READY 1).raise Fld.MEM_EVENT_DRAM_INIT))
  else s

/-- DRAM_INIT. -/
def execDramInit (s : State) : Host.Outcome State Fault Refusal := .next (dramInit s)

/-- DRAM_REQUEST_DONE: the stacks grant, the requests whose last granule is granted complete, and the accesses among them act (R362, R364,
R365). -/
def execDramRequestDone (grants : List (Fin 4)) (s : State) : Host.Outcome State Fault Refusal := .next (serveDram (dramGrants grants s))

end Sys2Proof.Machine
end

