-- ==== Sys2Proof/Machine/Aes.lean ====
section
/-! DEFINITION. Machine/Aes.lean: AES-256 (FIPS 197), the key unwrap AES-KW of NIST SP 800-38F and AES-GCM decryption of NIST SP
800-38D (R415). Blocks are lists of bytes in the order of the standards. -/

namespace Sys2Proof.Machine

/-- The substitution table of AES and its inverse, entry `x` in bits [8x+7:8x]. -/
def aesSbox : Nat :=
  0x16bb54b00f2d99416842e6bf0d89a18cdf2855cee9871e9b948ed9691198f8e19e1dc186b95735610ef6034866b53e708a8bbd4b1f74dde8c6b4a61c2e2578ba08ae7a65eaf4566ca94ed58d6d37c8e779e4959162acd3c25c2406490a3a32e0db0b5ede14b8ee4688902a22dc4f816073195d643d7ea7c41744975fec130ccdd2f3ff1021dab6bcf5389d928f40a351a89f3c507f02f94585334d43fbaaefd0cf584c4a39becb6a5bb1fc20ed00d153842fe329b3d63b52a05a6e1b1a2c830975b227ebe28012079a059618c323c7041531d871f1e5a534ccf73f362693fdb7c072a49cafa2d4adf04759fa7dc982ca76abd7fe2b670130c56f6bf27b777c63
def aesInvSbox : Nat :=
  0x7d0c2155631469e126d677ba7e042b17619953833cbbebc8b0f52aae4d3be0a0ef9cc9939f7ae52d0d4ab519a97f51605fec8027591012b131c7078833a8dd1ff45acd78fec0db9a2079d2c64b3e56fc1bbe18aa0e62b76f89c5291d711af1476edf751ce837f9e28535ade72274ac9673e6b4f0cecff297eadc674f4111913a6b8a130103bdafc1020f3fca8f1e2cd00645b3b80558e4f70ad3bc8c00abd890849d8da75746155edab9edfd5048706c92b6655dcc5ca4d41698688664f6f87225d18b6d49a25b76b224d92866a12e084ec3fa420b954cee3d23c2a632947b54cbe9dec444438e3487ff2f9b8239e37cfbd7f3819ea340bf38a53630d56a0952

/-- Entry `x` of a table of bytes. -/
def tabByte (t : Nat) (x : Byte) : Byte := BitVec.ofNat 8 (t >>> (8 * x.toNat))

/-- Multiplication by x in the field of AES. -/
def xtime (b : Byte) : Byte := (b <<< 1) ^^^ (if b.msb then 0x1B else 0)

/-- Multiplication in the field of AES by a constant of four bits. -/
def aesMul (c : Nat) (b : Byte) : Byte :=
  let b2 := xtime b
  let b4 := xtime b2
  let b8 := xtime b4
  (if c % 2 = 1 then b else 0) ^^^ (if c / 2 % 2 = 1 then b2 else 0) ^^^ (if c / 4 % 2 = 1 then b4 else 0) ^^^ (if c / 8 = 1 then b8 else 0)

/-- Bytes added byte by byte. -/
def xorBytes (a b : List Byte) : List Byte := List.zipWith (· ^^^ ·) a b

/-- The next word of the key schedule, from the words so far, newest first, and its number. -/
def aesKeyWord (ws : List (List Byte)) (i : Nat) : List Byte :=
  let t := ws.headD []
  let sub := fun (w : List Byte) => w.map (tabByte aesSbox)
  let t := if i % 8 = 0 then
      match sub t with
      | [a, b, c, d] => [b ^^^ BitVec.ofNat 8 (2 ^ (i / 8 - 1)), c, d, a]
      | x => x
    else if i % 8 = 4 then sub t else t
  xorBytes (ws.getD 7 []) t

/-- The key schedule of AES-256: `n` more words, from word `i` on. -/
def aesExpand : Nat → Nat → List (List Byte) → List (List Byte)
  | 0, _, ws => ws
  | n + 1, i, ws => aesExpand n (i + 1) (aesKeyWord ws i :: ws)

/-- A list cut into pieces of `k` elements, `n` of them. -/
def pieces {α : Type} (k : Nat) : Nat → List α → List (List α)
  | 0, _ => []
  | n + 1, l => l.take k :: pieces k n (l.drop k)

/-- The fifteen round keys of a 32-byte key. -/
def aesKeys (key : List Byte) : List (List Byte) :=
  pieces 16 15 (aesExpand 52 8 (pieces 4 8 key).reverse).reverse.flatten

/-- Bytes of a block in another order. -/
def permute (p : List Nat) (b : List Byte) : List Byte := p.map fun i => b.getD i 0

/-- A product of columns with a circulant matrix, given by its first row. -/
def mixColumn (m : List Nat) (c : List Byte) : List Byte :=
  (List.range 4).map fun r => (List.range 4).foldl (fun a k => a ^^^ aesMul (m.getD ((k + 4 - r) % 4) 0) (c.getD k 0)) 0

/-- Every column of a block mixed. -/
def mixColumns (m : List Nat) (b : List Byte) : List Byte := ((pieces 4 4 b).map (mixColumn m)).flatten

/-- The order of ShiftRows and of its inverse. -/
def shiftOrder : List Nat := [0, 5, 10, 15, 4, 9, 14, 3, 8, 13, 2, 7, 12, 1, 6, 11]
def unshiftOrder : List Nat := [0, 13, 10, 7, 4, 1, 14, 11, 8, 5, 2, 15, 12, 9, 6, 3]

/-- The rounds of encryption with the round keys that remain. -/
def aesRounds : List (List Byte) → List Byte → List Byte
  | [], b => b
  | [k], b => xorBytes (permute shiftOrder (b.map (tabByte aesSbox))) k
  | k :: ks, b => aesRounds ks (xorBytes (mixColumns [2, 3, 1, 1] (permute shiftOrder (b.map (tabByte aesSbox)))) k)

/-- A block encrypted under round keys. -/
def aesEncrypt (ks : List (List Byte)) (b : List Byte) : List Byte :=
  match ks with
  | [] => b
  | k :: ks => aesRounds ks (xorBytes b k)

/-- The rounds of decryption with the round keys that remain, last round key first. -/
def aesUnrounds : List (List Byte) → List Byte → List Byte
  | [], b => b
  | [k], b => xorBytes ((permute unshiftOrder b).map (tabByte aesInvSbox)) k
  | k :: ks, b => aesUnrounds ks (mixColumns [14, 11, 13, 9] (xorBytes ((permute unshiftOrder b).map (tabByte aesInvSbox)) k))

/-- A block decrypted under round keys. -/
def aesDecrypt (ks : List (List Byte)) (b : List Byte) : List Byte :=
  match ks.reverse with
  | [] => b
  | k :: ks => aesUnrounds ks (xorBytes b k)

/-- The steps `t` down to 1 of the inverse wrapping of four 64-bit blocks: the register A and the blocks. -/
def kwUnwrapSteps (ks : List (List Byte)) : Nat → List Byte → List (List Byte) → List Byte × List (List Byte)
  | 0, a, r => (a, r)
  | t + 1, a, r =>
    let i := t % 4
    let b := aesDecrypt ks (xorBytes a (beBytes 8 (t + 1)) ++ r.getD i [])
    kwUnwrapSteps ks t (b.take 8) (r.set i (b.drop 8))

/-- AES-KW unwrap of a 32-byte key from 40 bytes; none where the integrity check fails. -/
def kwUnwrap (kek wrapped : List Byte) : Option (List Byte) :=
  let (a, r) := kwUnwrapSteps (aesKeys kek) 24 (wrapped.take 8) (pieces 8 4 (wrapped.drop 8))
  if a = List.replicate 8 0xA6 then some r.flatten else none

/-- Multiplication in the field of GCM: `n` bits of `x` from the highest, the product so far and the shifted factor. -/
def gcmMulSteps : Nat → Nat → Nat → Nat → Nat
  | 0, _, z, _ => z
  | n + 1, x, z, v =>
    let z := if x.testBit n then z ^^^ v else z
    gcmMulSteps n x z (if v % 2 = 1 then (v / 2) ^^^ (0xE1 <<< 120) else v / 2)

/-- Multiplication in the field of GCM. -/
def gcmMul (x y : Nat) : Nat := gcmMulSteps 128 x 0 y

/-- GHASH over a message of whole or partial blocks, padded with zeros, from a value on. -/
def ghash (h y : Nat) (bs : List Byte) : Nat :=
  (pieces 16 ((bs.length + 15) / 16) bs).foldl (fun y b => gcmMul (y ^^^ (beNat b <<< (8 * (16 - b.length)))) h) y

/-- Bytes encrypted in counter mode from counter value `c` on. -/
def gcmCtr (ks : List (List Byte)) (iv : List Byte) (c : Nat) : List (List Byte) → List Byte
  | [] => []
  | b :: bs => xorBytes b (aesEncrypt ks (iv ++ beBytes 4 c)) ++ gcmCtr ks iv (c + 1) bs

/-- The plaintext that AES-256-GCM gives for a 96-bit IV, before its tag is checked. -/
def gcmPlain (key iv ct : List Byte) : List Byte := gcmCtr (aesKeys key) iv 2 (pieces 16 ((ct.length + 15) / 16) ct)

/-- The 128-bit tag of AES-256-GCM for a 96-bit IV. -/
def gcmTag (key iv aad ct : List Byte) : List Byte :=
  let ks := aesKeys key
  let h := beNat (aesEncrypt ks (List.replicate 16 0))
  let y := ghash h (ghash h 0 aad) ct
  let y := gcmMul (y ^^^ (8 * aad.length <<< 64) ^^^ (8 * ct.length)) h
  xorBytes (beBytes 16 y) (aesEncrypt ks (iv ++ beBytes 4 1))

end Sys2Proof.Machine
end

