-- ==== Sys2Proof/Machine/Load.lean ====
section
/-! DEFINITION. Machine/Load.lean: a skein image is read, checked and applied (spec/13: R407 to R422). -/

namespace Sys2Proof.Machine

/-- Little-endian bytes `a` to `a + n - 1` of a byte list as a number. -/
def numAt (bs : List Byte) (a n : Nat) : Nat := leNat ((bs.drop a).take n)

/-- Bytes `a` to `a + n - 1` of a byte list are all zero. -/
def zeroAt (bs : List Byte) (a n : Nat) : Bool := ((bs.drop a).take n).all (· == 0)

/-! ### Steps 1 and 2 (R407, R412 to R414) -/

/-- The header lies in R407. -/
def headerGood (src : Nat) (h : List Byte) : Bool :=
  let len := numAt h 8 8
  numAt h 6 2 / 2 == 0 && zeroAt h 27 1 && zeroAt h 96 32 && (numAt h 6 2 % 2 == 1 || zeroAt h 36 60) && len % 16 == 0 &&
    decide (240 ≤ len) && decide (len ≤ 2 ^ 30) && decide (src + len + 96 ≤ dramSize) && decide (1 ≤ numAt h 16 4) &&
    decide (numAt h 16 4 ≤ 65535) && decide (numAt h 20 4 ≤ 63)

/-- What step 1 and step 2 find against the image at `src`: a code of R421, or 0. -/
def State.verifyImage (s : State) (src : Nat) : Nat :=
  let h := readBytes s.dramByte src 224
  let len := numAt h 8 8
  let dsn := numAt h 28 8
  let key := (h.drop 128).take 96
  let slots := s.slotsOf key
  if s.dramMarked src 224 then 16
  else if h.take 4 ≠ [0x53, 0x4B, 0x4E, 0x31] ∨ numAt h 4 2 ≠ 1 then 1
  else if !headerGood src h then 2
  else if numAt h 24 2 ≠ 0x0256 ∨ revisionId < numAt h 26 1 then 3
  else if dsn ≠ 0 ∧ dsn ≠ Config.serialNumber.toNat then 4
  else if !s.blank ∧ numAt h 20 4 < s.sec.minSvn then 5
  else if !s.blank ∧ slots.isEmpty then 6
  else if !s.blank ∧ slots.all s.sec.loadRevoked.contains then 7
  else if s.dramMarked src (len + 96) then 16
  else if !ecdsaVerify key (sha384 (readBytes s.dramByte src len)) (readBytes s.dramByte (src + len) 96) then 8
  else 0

/-! ### Step 3 -/

/-- What the sections have said so far: the ROLE payload, POLICY (DBG_CAP, SEALED), LIBREF ranges (section, offset, length, digest)
and the ranges that DRAM sections wrote. -/
structure Gathered where
  role : Option (List Byte) := none
  policy : Option (Nat × Nat) := none
  libs : List (Nat × Nat × Nat × List Byte) := []
  dram : List (Nat × Nat) := []
  deriving DecidableEq, Repr

/-- The last byte of the BAR0 window that a REGS section's BLOCK names, where it names a block other than HIF and SEC (R16, R410). -/
def blockEnd (b : Nat) : Option Nat :=
  if b = 0 ∨ (3 ≤ b ∧ b ≤ 7) then some (0x10000 * b + 0xFFFF)
  else if b = 0x08 then some 0xFFFFF
  else if b = 0x10 then some 0x4FFFFF
  else if b % 0x10 = 0 ∧ 0x50 ≤ b ∧ b ≤ 0xA0 then some (0x10000 * b + 0xFFFFF)
  else none

/-- A record is one that R410 and R538 allow. -/
def recordGood (b off : Nat) (v : Word) : Bool :=
  match blockEnd b with
  | none => false
  | some e => decide (0x10000 * b ≤ off) && decide (off ≤ e) && off % 4 == 0 && nameable off && (regDesc off).isSome &&
      (off != Reg.GLB_CLK_CTL ||
        (fieldGet v Fld.GLB_CLK_CTL_SYNC == 0 && !(decide (1 ≤ fieldGet v Fld.GLB_CLK_CTL_REF_SRC) &&
          decide (fieldGet v Fld.GLB_CLK_CTL_REF_SRC ≤ 3))))

/-- The bits of a register that some field holds; the others are reserved (R5). -/
def fieldBits (off : Nat) : Word :=
  match regDesc off with
  | some d => d.ro ||| d.rw ||| d.rwl ||| d.w1c ||| d.w1s
  | none => 0

/-- A record is applied: a host write through BAR0, or a write of the fields of a channel map (R410). -/
def applyRecord (off : Nat) (v : Word) (s : State) : State :=
  if isChannelMap off then s.wr off (v &&& fieldBits off) else writeBar0 .bar0 off v s

/-- The records of a REGS section; false where one of them fails the load. -/
def applyRecords (b : Nat) : Nat → List Byte → State → Bool × State
  | 0, _, s => (true, s)
  | n + 1, p, s =>
    let off := numAt p 0 4
    let v := BitVec.ofNat 32 (numAt p 4 4)
    if recordGood b off v then applyRecords b n (p.drop 8) (applyRecord off v s) else (false, s)

/-- First byte and size of an SRAM region that a section may name (R350). -/
def sectionRegion (r : Nat) : Option (Nat × Nat) :=
  match r with
  | 0 => some (0, 0x800000)
  | 1 => some (0x800000, 0x1800000)
  | 3 => some (0x3400000, 0x400000)
  | 4 => some (0x3800000, 0x400000)
  | _ => none

/-- A section is applied (R409 to R411): a code of R421, or 0. -/
def applySection (i ty : Nat) (crit : Bool) (p : List Byte) (g : Gathered) (s : State) : (Nat × Gathered) × State :=
  let n := p.length
  match ty with
  | 1 =>
    if n < 8 ∨ !zeroAt p 1 3 ∨ n ≠ 8 + 8 * numAt p 4 4 then ((12, g), s)
    else
      let (ok, s) := applyRecords (numAt p 0 1) (numAt p 4 4) (p.drop 8) s
      ((if ok then 0 else 14, g), s)
  | 2 =>
    let off := numAt p 8 8
    if n < 16 ∨ !zeroAt p 1 7 then ((12, g), s)
    else match sectionRegion (numAt p 0 1) with
      | none => ((14, g), s)
      | some (base, size) =>
        if off % 16 ≠ 0 ∨ size < off + (n - 16) then ((14, g), s) else ((0, g), s.putSramBytes (base + off) (p.drop 16))
  | 3 =>
    let off := numAt p 0 8
    if n < 16 ∨ !zeroAt p 8 8 then ((12, g), s)
    else if off % 16 ≠ 0 ∨ dramSize < off + (n - 16) then ((14, g), s)
    else
      let g := { g with dram := g.dram ++ [(off, n - 16)] }
      ((0, g), blockWriteDram off (p.drop 16) s)
  | 4 =>
    let off := numAt p 0 8
    let len := numAt p 8 8
    if n ≠ 64 then ((12, g), s)
    else if len < 1 ∨ dramSize < len ∨ dramSize < off + len then ((14, g), s)
    else ((0, { g with libs := g.libs ++ [(i, off, len, p.drop 16)] }), s)
  | 5 => if n ≠ 8 ∨ !zeroAt p 7 1 ∨ g.role.isSome then ((12, g), s) else ((0, { g with role := some p }), s)
  | 6 =>
    let x := numAt p 0 1
    if n ≠ 16 ∨ 8 ≤ x ∨ !zeroAt p 1 15 ∨ g.policy.isSome then ((12, g), s) else ((0, { g with policy := some (x % 4, x / 4) }), s)
  | 7 => if 4096 < n then ((12, g), s) else ((0, g), s)
  | _ => if crit then ((13, g), s) else ((0, g), s)

/-- The sections of an image in their order (R408): the code and the section of R421, or 0. `d` is what is left of them, `n` how
many the header still counts, `i` the index of the next. -/
def applySections : Nat → Nat → List Byte → Gathered → State → ((Nat × Nat) × Gathered) × State
  | 0, i, d, g, s => ((if d.isEmpty then (0, 0) else (12, i), g), s)
  | n + 1, i, d, g, s =>
    let len := numAt d 4 4
    let total := 16 + (len + 15) / 16 * 16
    if d.length < 16 ∨ 2 ≤ numAt d 2 2 ∨ !zeroAt d 8 8 ∨ d.length < total then (((12, i), g), s)
    else
      let ((e, g), s) := applySection i (numAt d 0 2) (numAt d 2 2 == 1) ((d.drop 16).take len) g s
      if e ≠ 0 then (((e, i), g), s) else applySections n (i + 1) (d.drop total) g s

/-! ### Step 4 -/

/-- The LIBREF digests: the code and the section of R421, or 0. -/
def State.checkLibs (s : State) : List (Nat × Nat × Nat × List Byte) → Nat × Nat
  | [] => (0, 0)
  | (i, off, len, digest) :: ls =>
    if s.dramMarked off len then (16, i)
    else if sha384 (readBytes s.dramByte off len) ≠ digest then (15, i)
    else s.checkLibs ls

/-- What R415 needs before an encrypted image is applied: the content key, or a code of R421. -/
def State.contentKey (s : State) (h : List Byte) : Nat × List Byte :=
  match s.sec.lcs, s.sec.kek with
  | 1, some k =>
    if (sha384 k).take 8 ≠ (h.drop 36).take 8 then (9, [])
    else match kwUnwrap k ((h.drop 44).take 40) with
      | some cek => (0, cek)
      | none => (10, [])
  | _, _ => (9, [])

/-- Steps 3 and 4 on an image that steps 1 and 2 have passed. -/
def applyImage (src : Nat) (s : State) : ((Nat × Nat) × Gathered) × State :=
  let h := readBytes s.dramByte src 224
  let data := readBytes s.dramByte src (numAt h 8 8)
  let count := numAt h 16 4
  if numAt h 6 2 % 2 = 0 then
    let (((e, i), g), s) := applySections count 0 (data.drop 224) {} s
    ((if e = 0 then s.checkLibs g.libs else (e, i), g), s)
  else
    let s := { s with sec := { s.sec with confLoad := true } }
    match s.contentKey h with
    | (0, cek) =>
      let iv := (h.drop 84).take 12
      let ct := (data.drop 224).take (data.length - 240)
      let (((e, i), g), s) := applySections count 0 (gcmPlain cek iv ct) {} s
      ((if e ≠ 0 then (e, i)
        else if gcmTag cek iv h ct ≠ data.drop (data.length - 16) then (11, 0)
        else s.checkLibs g.libs, g), s)
    | (e, _) => (((e, 0), {}), s)

/-- A whole load: what fails it (0: nothing) and what it has applied. The answer on the bus of an earlier access stands. -/
def runLoad (s : State) : ((Nat × Nat) × Gathered) × State :=
  match s.verifyImage s.sec.loadSrc with
  | 0 =>
    let r := s.resp
    let ((e, g), t) := applyImage s.sec.loadSrc s
    ((e, g), { t with resp := r })
  | e => (((e, 0), {}), s)

/-- The loader is at work: DRAM is ready, and the mode has not begun to be left. -/
def State.loaderRuns (s : State) : Bool :=
  s.sec.loading && s.mode == 1 && s.bit Fld.MEM_STATUS_DRAM_READY && !s.glb.clearing

/-- Step 5 (R422). -/
def completeLoad (svn enc : Nat) (g : Gathered) (s : State) : State :=
  let (cap, sealed) := g.policy.getD (3, 0)
  let s := (s.put Fld.SEC_LOAD_STATUS_STATE 3).put Fld.SEC_STATUS_TAINT 0
  let s := ((s.put Fld.SEC_STATUS_SVN svn).put Fld.SEC_STATUS_DBG_CAP cap).put Fld.SEC_STATUS_SEALED sealed
  let s := (s.put Fld.SEC_STATUS_CONFIDENTIAL enc).raise (secEvent 0)
  let libs := g.libs.map fun l => (l.2.1, l.2.2.1)
  enterMode 2 { s with sec := { s.sec with loaded := true, loading := false, image := none, confLoad := false, dramRanges := g.dram,
                                           libRanges := libs, role := g.role } }

/-- The loader comes to step 3, where steps 1 and 2 have passed: STATE shows APPLY, and an encrypted image counts as confidential from now
on (R417, R421). With DRAM not ready yet the loader has still to begin. -/
def loadApplies (go : Nat) (s : State) : State :=
  if s.sec.loading && s.sec.loadTick == go && s.fld Fld.SEC_LOAD_STATUS_STATE == 1 then
    if !s.loaderRuns then { s with later := s.later ++ [(s.tick + 1, .loadApplies go)] }
    else if s.verifyImage s.sec.loadSrc = 0 then
      let encrypted := numAt (readBytes s.dramByte s.sec.loadSrc 224) 6 2 % 2 == 1
      { s.put Fld.SEC_LOAD_STATUS_STATE 2 with sec := { s.sec with confLoad := encrypted } }
    else s
  else s

/-- LOAD_OK: the loader reaches step 5 (R417, R422). -/
def execLoadOk (s : State) : Host.Outcome State Fault Refusal :=
  .next <|
    if s.loaderRuns then
      let h := readBytes s.dramByte s.sec.loadSrc 224
      match runLoad s with
      | (((0, _), g), t) => completeLoad (numAt h 20 4) (numAt h 6 2 % 2) g t
      | _ => s
    else s

/-- LOAD_FAIL: the loader meets what fails the load (R421); `ue` names a DRAM word that it could not read (R359). -/
def execLoadFail (ue : Option (BitVec 37)) (s : State) : Host.Outcome State Fault Refusal :=
  .next <|
    if s.loaderRuns then
      let s1 := match ue with
        | some a => { s with mem := { s.mem with badDram := (a.toNat / 8 :: s.mem.badDram).eraseDups } }
        | none => s
      match runLoad s1 with
      | (((0, _), _), _) => s
      | (((e, i), g), t) =>
        let t := { t with sec := { t.sec with dramRanges := g.dram } }
        let t := match ue with
          | some a => if e = 16 then dramUe a.toNat t else t
          | none => t
        beginClearing (failLoad e i t)
    else s

end Sys2Proof.Machine
end

