-- ==== Sys2Proof/Machine/Outputs.lean ====
section
/-! DEFINITION. Machine/Outputs.lean: the output words of the spindles (R110, R111). -/

namespace Sys2Proof.Machine

/-- The sub-tick delay of an output word (R107). -/
def State.wordDelay (s : State) (n : Nat) (auto : BitVec 1) (dly : Nat) : Nat :=
  if auto = 1 then s.subTick ((s.spindle n).autoT * 2 ^ 32) else dly

/-- The supervisor takes a notice that names a monitor's FLX or BIA port (R457): it makes a blank pending, or is ignored and counted while one
is pending or open, or within 1,000 ns after one. -/
def takeNotice (m : Nat) (s : State) : State :=
  let x := s.mon m
  let near := match x.blank with
    | some b => decide (s.tick < b.stop + 500)
    | none => false
  if x.pend.isSome || near then ((s.count (Fld.SUP_MON_STATUS_BLANK_IGN m)).raise Fld.SUP_EVENT_BLANK_IGN).report 12 4 m 1
  else s.setMon m { x with pend := some s.tick }

/-- A blanking notice goes to the supervisor: the port and the reel value of this tick (R132). -/
def blankNotice (p : Nat) (s : State) : State :=
  let s := { s with sup := { s.sup with notices := sset (fun _ => none) s.sup.notices p (some s.tln.reel) } }
  if 64 ≤ p ∧ s.monOn (portMon p) then takeNotice (portMon p) s else s

/-- What a PLS does to its channel's oscillator (R102, R143, R154): none where no preset changed; else the oscillator with the changed
shadow, which applies from the pulse's first sample on, or that the pulse is muted because its tuning word lies outside the port's
band. -/
def presetNco (n k dly : Nat) (s : State) : Option (Option Nco) × State :=
  let h := s.shadow n k
  if k < 512 ∧ h.changed then
    let s := s.setShadow n k { h with changed := false }
    let ok := match s.tgtPort k with
      | some p => s.inBand p h.ftw
      | none => true
    (some (if ok then
        some ((s.tgt k).ahead.retune (s.coherent k) s.glb.syncTick h.ftw h.ph (64 * (s.tick + 1) + mixerDepth + dly))
      else none), s)
  else (none, s)

/-- The first sample of a pulse is on its way to the mixer, `mixerDepth` DAC samples behind the fetch point, where a cut and the preset
show (R152). -/
def sendFirstSample (k : Nat) (cut : Bool) (preset : Option (Option Nco)) (s : State) : State :=
  if k < 512 ∧ (cut ∨ preset.isSome) then
    { s with later := s.later ++ [(s.tick + 1 + mixerDepth / 64, .firstSample k cut preset)] }
  else s

/-- PLS acts (R110, R152, R160, R179, R185): a pulse starts whose first tick is fetched in the next tick. -/
def plsWord (n kind ch seg amp ampsrc a : Nat) (auto : BitVec 1) (dly : Nat) (s : State) : State :=
  let t := 256 * kind + ch
  let d := s.wordDelay n auto dly
  let amp := if ampsrc = 1 then (s.g n a).toNat % 65536 else amp
  let s := takeUp t s
  let s := dropJump t s
  let (preset, s) := presetNco n t d s
  let s := sendFirstSample t (s.tgt t).chain.isSome preset s
  let o := (preset.bind id).getD (s.tgt t).ahead
  let s := s.setTgt t { s.tgt t with start := some ⟨s.tick + 1, seg, amp, d, preset == some none, o, n⟩, ahead := o }
  let s := followTriggers 2 t s
  let s := if kind = 0 then { s with pwr := { s.pwr with pulses := s.pwr.pulses + 1 } } else s
  oneTick n (match s.tgtPort t with
    | some p => blankNotice p s
    | none => s)

/-- OP_PLS. -/
def execOpPls (n : Fin 64) (s : State) : Host.Outcome State Fault Refusal :=
  .next (runWord n (fun m => match m with
    | .pls kind ch seg amp ampsrc a auto dly =>
      some (plsWord n kind.toNat ch.toNat seg.toNat amp.toNat ampsrc.toNat a.toNat auto dly.toNat)
    | _ => none) s)

/-- JREQ acts (R183): the request becomes visible to its target in the next tick. -/
def jreqWord (n kind ch seg : Nat) (s : State) : State :=
  oneTick n { s with later := s.later ++ [(s.tick + 1, .jreqVisible (256 * kind + ch) seg)] }

/-- OP_JREQ. -/
def execOpJreq (n : Fin 64) (s : State) : Host.Outcome State Fault Refusal :=
  .next (runWord n (fun m => match m with
    | .jreq kind ch seg => some (jreqWord n kind.toNat ch.toNat seg.toNat)
    | _ => none) s)

/-- BIAS acts (R111, R168): the port's target in this tick. -/
def biasWord (n port src a code : Nat) (s : State) : State :=
  let c := if src = 1 then (s.g n a).toNat % 2 ^ 20 else code
  let x := sget (fun _ => {}) s.syn.bia port
  let s := s.put (Fld.SYN_BIA_TARGET_CODE port) c
  let s := { s with syn := { s.syn with bia := sset (fun _ => {}) s.syn.bia port { sets := (s.tick, c) :: x.sets.take 2 } } }
  oneTick n (blankNotice (192 + port) s)

/-- OP_BIAS. -/
def execOpBias (n : Fin 64) (s : State) : Host.Outcome State Fault Refusal :=
  .next (runWord n (fun m => match m with
    | .bias port src a code => some (biasWord n port.toNat src.toNat a.toNat code.toNat)
    | _ => none) s)

/-- MRK acts on an output that the spindle claims (R111, R171, R174). -/
def mrkWord (n o act : Nat) (auto : BitVec 1) (dly width : Nat) (s : State) : State :=
  let claimed := s.bit (Fld.SYN_MRK_CFG_VALID o) && s.fld (Fld.SYN_MRK_CFG_SPINDLE o) == n
  oneTick n (if claimed then scheduleEdge o (s.wordDelay n auto dly) act width s else s)

/-- OP_MRK. -/
def execOpMrk (n : Fin 64) (s : State) : Host.Outcome State Fault Refusal :=
  .next (runWord n (fun m => match m with
    | .mrk o act auto dly width => some (mrkWord n o.toNat act.toNat auto dly.toNat width.toNat)
    | _ => none) s)

/-- TRGO acts on an output with SRC = 1 that the spindle claims (R111, R173, R174). -/
def trgoWord (n o act width : Nat) (s : State) : State :=
  let claimed := s.fld (Fld.SYN_TRG_CFG_SRC o) == 1 && s.fld (Fld.SYN_TRG_CFG_SPINDLE o) == n
  oneTick n (if claimed then scheduleEdge (16 + o) 0 act width s else s)

/-- OP_TRGO. -/
def execOpTrgo (n : Fin 64) (s : State) : Host.Outcome State Fault Refusal :=
  .next (runWord n (fun m => match m with
    | .trgo o act width => some (trgoWord n o.toNat act.toNat width.toNat)
    | _ => none) s)

/-- RWIN acts (R111, R228): discrimination takes it up in the next tick. -/
def rwinWord (n r kset es len : Nat) (s : State) : State :=
  let q : RwinReq := ⟨s.tick + 1, kset, es, len, s.groupAfter (s.fld (Fld.DSC_CH_CFG_OPEN_DLY r))⟩
  oneTick n (s.setDscCh r { s.dscCh r with rwins := (s.dscCh r).rwins ++ [q] })

/-- OP_RWIN. -/
def execOpRwin (n : Fin 64) (s : State) : Host.Outcome State Fault Refusal :=
  .next (runWord n (fun m => match m with
    | .rwin ch kset es len => some (rwinWord n ch.toNat kset.toNat es.toNat len.toNat)
    | _ => none) s)

/-- OP_STRO: one event on the strands that SOUT[OUT] drives (R111, R257). -/
def execOpStro (n : Fin 64) (s : State) : Host.Outcome State Fault Refusal :=
  .next (runWord n (fun m => match m with
    | .stro out => some fun s => oneTick n (emit (prodSout n out.toNat) (s.tick + 1) s)
    | _ => none) s)

/-- OP_STG: a result mailbox takes a register (R111). -/
def execOpStg (n : Fin 64) (s : State) : Host.Outcome State Fault Refusal :=
  .next (runWord n (fun m => match m with
    | .stg a k => some fun s =>
      oneTick n ((s.wr (Reg.SPN_RESULT n k.toNat) (s.g n a.toNat)).raise (Fld.SPN_EVENT_RESULT n))
    | _ => none) s)

/-- OP_IRQ: the program interrupt with its code (R111). -/
def execOpIrq (n : Fin 64) (s : State) : Host.Outcome State Fault Refusal :=
  .next (runWord n (fun m => match m with
    | .irq code => some fun s =>
      oneTick n ((s.put (Fld.SPN_IRQ_CODE_CODE n) code.toNat).raise (Fld.SPN_EVENT_IRQ n))
    | _ => none) s)

/-- OP_CLRS: selected latches are cleared (R109, R111). -/
def execOpClrs (n : Fin 64) (s : State) : Host.Outcome State Fault Refusal :=
  .next (runWord n (fun m => match m with
    | .clrs mask => some fun s => oneTick n (clearLatches n mask.toNat s)
    | _ => none) s)

end Sys2Proof.Machine
end

