-- ==== Sys2Proof/Machine/Security.lean ====
section
/-! DEFINITION. Machine/Security.lean: the commands of spec/13 other than the end of a load: SEC_CMD, its progress, its timers. -/

namespace Sys2Proof.Machine

/-- LOAD_GO: a write of SEC_LOAD_CTL with GO (R417). -/
def execLoadGo (path : Path) (s : State) : Host.Outcome State Fault Refusal := .next (gated path Reg.SEC_LOAD_CTL loadGo s)

/-- PROVISION: a write of SEC_CMD with OP = 1 (R429). -/
def execProvision (path : Path) (arg : BitVec 16) (s : State) : Host.Outcome State Fault Refusal :=
  .next (gated path Reg.SEC_CMD (secCommand 1 arg.toNat) s)

/-- PROVISION_DONE: the last fuse is blown (R429). -/
def execProvisionDone (s : State) : Host.Outcome State Fault Refusal := .next (provisionDone s)

/-- KEK_TAKEN: a write of SEC_CMD with OP = 2 (R430). -/
def execKekTaken (path : Path) (s : State) : Host.Outcome State Fault Refusal := .next (gated path Reg.SEC_CMD (secCommand 2 0) s)

/-- CHALLENGE: a write of SEC_CMD with OP = 3 (R433). -/
def execChallenge (path : Path) (s : State) : Host.Outcome State Fault Refusal := .next (gated path Reg.SEC_CMD (secCommand 3 0) s)

/-- CHALLENGE_EXPIRY: 60 s have passed on the security block's own timer (R433). -/
def execChallengeExpiry (s : State) : Host.Outcome State Fault Refusal := .next { s with sec := { s.sec with chal := none } }

/-- SUBMIT: a write of SEC_CMD with OP = 4 (R434, R435). -/
def execSubmit (path : Path) (s : State) : Host.Outcome State Fault Refusal := .next (gated path Reg.SEC_CMD (secCommand 4 0) s)

/-- AUTH_UNLOCK (R434, R437). -/
def execAuthUnlock (s : State) : Host.Outcome State Fault Refusal := .next (authActs 1 authUnlock s)

/-- AUTH_RETIRE (R432). -/
def execAuthRetire (s : State) : Host.Outcome State Fault Refusal := .next (authActs 2 (fun _ => authRetire) s)

/-- AUTH_REVOKE (R431). -/
def execAuthRevoke (s : State) : Host.Outcome State Fault Refusal := .next (authActs 3 authRevoke s)

/-- AUTH_ADVANCE_SVN (R431). -/
def execAuthAdvanceSvn (s : State) : Host.Outcome State Fault Refusal := .next (authActs 4 authAdvance s)

/-- LOCKOUT_END: the 60 s of R435 have passed. -/
def execLockoutEnd (s : State) : Host.Outcome State Fault Refusal := .next { s with sec := { s.sec with locked := false } }

/-- RELOCK: a write of SEC_CMD with OP = 5 (R437). -/
def execRelock (path : Path) (s : State) : Host.Outcome State Fault Refusal := .next (gated path Reg.SEC_CMD (secCommand 5 0) s)

/-- SNAP: a write of SEC_CMD with OP = 6 (R436). -/
def execSnap (path : Path) (s : State) : Host.Outcome State Fault Refusal := .next (gated path Reg.SEC_CMD (secCommand 6 0) s)

end Sys2Proof.Machine
end

