-- ==== Sys2Proof/Machine/Tick.lean ====
section
/-! DEFINITION. Machine/Tick.lean: a tick passes: the reel advances and what was due in the new tick takes place. -/

namespace Sys2Proof.Machine

/-- The first sample of a pulse reaches the mixer (R102, R152, R154, R211). -/
def firstSample (k : Nat) (cut : Bool) (preset : Option (Option Nco)) (s : State) : State :=
  let s := if cut then s.count (Fld.SYN_CH_STATUS_CUT k) else s
  match preset with
  | none => s
  | some (some o) =>
    let s := showNco k o (s.setTgt k { s.tgt k with nco := o })
    followTune k o.ftw (s.put (Fld.SYN_CH_STATUS_MUTED_BAND k) 0)
  | some none =>
    let s := (s.put (Fld.SYN_CH_STATUS_MUTED_BAND k) 1).raise Fld.SYN_EVENT_BAND_ERR
    s.raise (Fld.SYN_PORT_EVENT_BAND_ERR ((s.tgtPort k).getD 0))

/-- A held trigger level qualifies after the sample of its tick is taken (R268). -/
def Deferred.qualifies : Deferred → Bool
  | .trgQualify .. => true
  | _ => false

/-- What a deferred action does when its tick has come. -/
def runDeferred (d : Deferred) (s : State) : State :=
  match d with
  | .sinSet n i => setLatch n i s
  | .vecPend n v => setPending n v s
  | .restore n => restoreCheckpoint n s
  | .stopRecognised n => if s.spindlesRun then stopSpindle n s else s
  | .underrunStop n => if s.spindlesRun then underrunStopped n s else s
  | .enterIdle n => toIdle n s
  | .haltAt n => if (s.spindle n).haltReq then haltNow n s else s
  | .firstSample k cut preset => firstSample k cut preset s
  | .satEvent r taken => satEvent r taken s
  | .openFalls r => openFalls r s
  | .softReset => softwareReset s
  | .jreqVisible t seg => jreqVisible t seg s
  | .edge o time act width => placeEdge o time act width s
  | .gate g on => setGate g on s
  | .bulkFrame p lane => bulkFrame p lane s
  | .trgSample i level => trgSample i level s
  | .trgQualify i since => trgQualify i since s
  | .sampleArrives r k w => sampleArrives r k w s
  | .loadDecision r ns w vI vQ => loadDecision r ns w vI vQ s
  | .dormTol => dormTolActs s
  | .rejudge => rejudge s
  | .disarm k => disarmSlot k s
  | .loadApplies go => loadApplies go s
  | .runStart => if s.mode = 4 then (if s.reelLock then enterMode 5 s else s.put Fld.GLB_MODE_STATUS_REQ_RESULT 6) else s

/-- Each stalled lane counts the tick (R375). -/
def countStalls (s : State) : State :=
  forN 8 (fun l s => if s.fld (Fld.DRF_LANE_STATUS_STATE l) = 2 then s.count (Fld.DRF_LANE_STALL_COUNT l) else s) s

/-- Each packet that waits for a bulk lane or a credit counts the tick (R314). -/
def countBulkWaits (s : State) : State :=
  forN 4 (fun p s => match (s.twist p).wait with
    | [] => s
    | ws => s.count ⟨Reg.CSC_TW_BULK p, 0, 24⟩ ws.length) s

/-- A tick passes (R52, R18): the reel advances where it runs, the races of R8 and R9 are over, and what was due in the new
tick takes place; a software reset of that tick leaves nothing else to do (R516). -/
def nextTick (s : State) : State :=
  let s := countQueueWaits (issueData (reviveQueues s))
  let t := s.tick + 1
  let due := s.later.filter fun p => decide (p.1 ≤ t)
  let due := if due.any fun p => p.2 == .softReset then [(t, .softReset)]
    else (due.filter fun p => !p.2.qualifies) ++ due.filter fun p => p.2.qualifies
  let s := { s with fab := { s.fab with enOld := [] }, pwr := { s.pwr with tolOld := [] } }
  let s := { s with glb := { s.glb with lock1 := s.reelLock, lock2 := s.glb.lock1, bias1 := s.biasOn, bias2 := s.glb.bias1 } }
  let s := { s with tick := t, evSet := [], hif := { s.hif with start := s.regs }, wrOne := [], wrSet := [], later := s.later.filter fun p => !decide (p.1 ≤ t),
                    tln := advanceReel s.tln s.reelRuns s.adj s.reelAfter }
  countStalls (forAll (fun p => runDeferred p.2) due (countBulkWaits s))

/-- REEL_ADVANCE. -/
def execReelAdvance (s : State) : Host.Outcome State Fault Refusal := .next (nextTick s)

end Sys2Proof.Machine
end

