-- ==== Sys2Proof/Machine/Dispatch.lean ====
section
/-! DEFINITION. Machine/Dispatch.lean: what each command does, one arm per constructor. -/

namespace Sys2Proof.Machine

/-- The effect of a command on everything but the queue. -/
def exec (i : Instr) (s : State) : Host.Outcome State Fault Refusal :=
  match i with
  | .registerWrite path off v => Sys2Proof.Machine.execRegisterWrite path off v s
  | .bar0BadAccess => Sys2Proof.Machine.execBar0BadAccess s
  | .loReadCapture path off => Sys2Proof.Machine.execLoReadCapture path off s
  | .hiRead path off => Sys2Proof.Machine.execHiRead path off s
  | .loWriteHold path off v => Sys2Proof.Machine.execLoWriteHold path off v s
  | .hiWriteCommit path off v => Sys2Proof.Machine.execHiWriteCommit path off v s
  | .reqNone path key => Sys2Proof.Machine.execReqNone path key s
  | .reqLoad path key => Sys2Proof.Machine.execReqLoad path key s
  | .reqCalibrate path key => Sys2Proof.Machine.execReqCalibrate path key s
  | .reqArm path key => Sys2Proof.Machine.execReqArm path key s
  | .reqStop path key => Sys2Proof.Machine.execReqStop path key s
  | .reqDormant path key => Sys2Proof.Machine.execReqDormant path key s
  | .reqUnload path key => Sys2Proof.Machine.execReqUnload path key s
  | .reqClearSafe path key => Sys2Proof.Machine.execReqClearSafe path key s
  | .run path req key => Sys2Proof.Machine.execRun path req key s
  | .checkEnd => Sys2Proof.Machine.execCheckEnd s
  | .configClearDone => Sys2Proof.Machine.execConfigClearDone s
  | .armComplete => Sys2Proof.Machine.execArmComplete s
  | .calibrationStart => Sys2Proof.Machine.execCalibrationStart s
  | .calibrationDone => Sys2Proof.Machine.execCalibrationDone s
  | .m6Entry => Sys2Proof.Machine.execM6Entry s
  | .m6Exit => Sys2Proof.Machine.execM6Exit s
  | .stopComplete => Sys2Proof.Machine.execStopComplete s
  | .stopTimeout => Sys2Proof.Machine.execStopTimeout s
  | .biasRampTransition => Sys2Proof.Machine.execBiasRampTransition s
  | .syncWrite path v => Sys2Proof.Machine.execSyncWrite path v s
  | .syncAuto => Sys2Proof.Machine.execSyncAuto s
  | .refLoss src => Sys2Proof.Machine.execRefLoss src s
  | .pllUnlock => Sys2Proof.Machine.execPllUnlock s
  | .refSrcWrite path v => Sys2Proof.Machine.execRefSrcWrite path v s
  | .pllLock => Sys2Proof.Machine.execPllLock s
  | .reelAdvance => Sys2Proof.Machine.execReelAdvance s
  | .ptpSyncRx p m twoStep t1 cyc => Sys2Proof.Machine.execPtpSyncRx p m twoStep t1 cyc s
  | .ptpFollowUpRx p m t1 => Sys2Proof.Machine.execPtpFollowUpRx p m t1 s
  | .ptpDelayReqTx p cyc => Sys2Proof.Machine.execPtpDelayReqTx p cyc s
  | .ptpDelayRespRx p m t4 => Sys2Proof.Machine.execPtpDelayRespRx p m t4 s
  | .ptpAnnounceRx p m a => Sys2Proof.Machine.execPtpAnnounceRx p m a s
  | .ptpRxDrop p => Sys2Proof.Machine.execPtpRxDrop p s
  | .ptpSyncTimeout p => Sys2Proof.Machine.execPtpSyncTimeout p s
  | .ptpAnnounceTimeout p => Sys2Proof.Machine.execPtpAnnounceTimeout p s
  | .extPhaseCompare periods pos => Sys2Proof.Machine.execExtPhaseCompare periods pos s
  | .ppsEdge periods pos => Sys2Proof.Machine.execPpsEdge periods pos s
  | .tcodeFrame f => Sys2Proof.Machine.execTcodeFrame f s
  | .ref10mLoss => Sys2Proof.Machine.execRef10mLoss s
  | .ppsLoss => Sys2Proof.Machine.execPpsLoss s
  | .acceptSlewOut path => Sys2Proof.Machine.execAcceptSlewOut path s
  | .acceptStepFwd path => Sys2Proof.Machine.execAcceptStepFwd path s
  | .holdExpired => Sys2Proof.Machine.execHoldExpired s
  | .launchArm path slot v => Sys2Proof.Machine.execLaunchArm path slot v s
  | .launch slot => Sys2Proof.Machine.execLaunch slot s
  | .launchMiss slot => Sys2Proof.Machine.execLaunchMiss slot s
  | .opNop n => Sys2Proof.Machine.execOpNop n s
  | .opAlu n => Sys2Proof.Machine.execOpAlu n s
  | .opLdlc n => Sys2Proof.Machine.execOpLdlc n s
  | .opRddec n => Sys2Proof.Machine.execOpRddec n s
  | .opRdsin n => Sys2Proof.Machine.execOpRdsin n s
  | .opNcop n => Sys2Proof.Machine.execOpNcop n s
  | .opSettb n => Sys2Proof.Machine.execOpSettb n s
  | .opJmp n => Sys2Proof.Machine.execOpJmp n s
  | .opBrs n => Sys2Proof.Machine.execOpBrs n s
  | .opLoop n => Sys2Proof.Machine.execOpLoop n s
  | .opWaitt n => Sys2Proof.Machine.execOpWaitt n s
  | .waittDone n => Sys2Proof.Machine.execWaittDone n s
  | .opWaitr n => Sys2Proof.Machine.execOpWaitr n s
  | .waitrReached n => Sys2Proof.Machine.execWaitrReached n s
  | .opWts n => Sys2Proof.Machine.execOpWts n s
  | .wtsLatch n => Sys2Proof.Machine.execWtsLatch n s
  | .wtsTimeout n => Sys2Proof.Machine.execWtsTimeout n s
  | .opPls n => Sys2Proof.Machine.execOpPls n s
  | .opJreq n => Sys2Proof.Machine.execOpJreq n s
  | .opBias n => Sys2Proof.Machine.execOpBias n s
  | .opMrk n => Sys2Proof.Machine.execOpMrk n s
  | .opTrgo n => Sys2Proof.Machine.execOpTrgo n s
  | .outputPulseFall o => Sys2Proof.Machine.execOutputPulseFall o s
  | .opRwin n => Sys2Proof.Machine.execOpRwin n s
  | .opStro n => Sys2Proof.Machine.execOpStro n s
  | .opStg n => Sys2Proof.Machine.execOpStg n s
  | .opIrq n => Sys2Proof.Machine.execOpIrq n s
  | .opClrs n => Sys2Proof.Machine.execOpClrs n s
  | .opCommit n => Sys2Proof.Machine.execOpCommit n s
  | .opEnd n => Sys2Proof.Machine.execOpEnd n s
  | .illegal n => Sys2Proof.Machine.execIllegal n s
  | .postOvf n => Sys2Proof.Machine.execPostOvf n s
  | .vectorRecognised n v => Sys2Proof.Machine.execVectorRecognised n v s
  | .hostPreempt path n v => Sys2Proof.Machine.execHostPreempt path n v s
  | .cstoreEccCorr n => Sys2Proof.Machine.execCstoreEccCorr n s
  | .cstoreEccUncorr n => Sys2Proof.Machine.execCstoreEccUncorr n s
  | .heartbeatToken n => Sys2Proof.Machine.execHeartbeatToken n s
  | .scoutStep n => Sys2Proof.Machine.execScoutStep n s
  | .dbgHalt path n => Sys2Proof.Machine.execDbgHalt path n s
  | .dbgStep path n => Sys2Proof.Machine.execDbgStep path n s
  | .dbgResume path n => Sys2Proof.Machine.execDbgResume path n s
  | .fetchTick p => Sys2Proof.Machine.execFetchTick p s
  | .underrunStop t => Sys2Proof.Machine.execUnderrunStop t s
  | .underrunZeroEnd t => Sys2Proof.Machine.execUnderrunZeroEnd t s
  | .urAck path v => Sys2Proof.Machine.execUrAck path v s
  | .segmentBoundary t => Sys2Proof.Machine.execSegmentBoundary t s
  | .segmentEnd t => Sys2Proof.Machine.execSegmentEnd t s
  | .biasUpdate => Sys2Proof.Machine.execBiasUpdate s
  | .rvRestart path r v => Sys2Proof.Machine.execRvRestart path r v s
  | .refillRequest r => Sys2Proof.Machine.execRefillRequest r s
  | .refillComplete r host err => Sys2Proof.Machine.execRefillComplete r host err s
  | .frontEndChangeApply => Sys2Proof.Machine.execFrontEndChangeApply s
  | .attWrite path a v => Sys2Proof.Machine.execAttWrite path a v s
  | .channelSample a adc => Sys2Proof.Machine.execChannelSample a adc s
  | .toneSample a k => Sys2Proof.Machine.execToneSample a k s
  | .combOnWrite path a v => Sys2Proof.Machine.execCombOnWrite path a v s
  | .toneFcWrite path a k c v => Sys2Proof.Machine.execToneFcWrite path a k c v s
  | .tonePWrite path a k v => Sys2Proof.Machine.execTonePWrite path a k v s
  | .toneApplied a k => Sys2Proof.Machine.execToneApplied a k s
  | .rwinTakeUp r => Sys2Proof.Machine.execRwinTakeUp r s
  | .evaluation r => Sys2Proof.Machine.execEvaluation r s
  | .decisionFormed r => Sys2Proof.Machine.execDecisionFormed r s
  | .strandEvent k => Sys2Proof.Machine.execStrandEvent k s
  | .fabForce path v => Sys2Proof.Machine.execFabForce path v s
  | .plyEval n => Sys2Proof.Machine.execPlyEval n s
  | .trgInEdge k level => Sys2Proof.Machine.execTrgInEdge k level s
  | .trgInStuck k => Sys2Proof.Machine.execTrgInStuck k s
  | .trgInUnstuck k => Sys2Proof.Machine.execTrgInUnstuck k s
  | .ctTrigger t => Sys2Proof.Machine.execCtTrigger t s
  | .ctLookupDone t ecc => Sys2Proof.Machine.execCtLookupDone t ecc s
  | .exportSlotEvent g b => Sys2Proof.Machine.execExportSlotEvent g b s
  | .exportGateEnable g => Sys2Proof.Machine.execExportGateEnable g s
  | .exportGateDisable g => Sys2Proof.Machine.execExportGateDisable g s
  | .twTrainStart p => Sys2Proof.Machine.execTwTrainStart p s
  | .twCdrLock p => Sys2Proof.Machine.execTwCdrLock p s
  | .twAlignDone p lanes => Sys2Proof.Machine.execTwAlignDone p lanes s
  | .twIdent p id role depth => Sys2Proof.Machine.execTwIdent p id role depth s
  | .twMeasureDone p trip0 trip1 turn0 turn1 => Sys2Proof.Machine.execTwMeasureDone p trip0 trip1 turn0 turn1 s
  | .twLinkUp p gen => Sys2Proof.Machine.execTwLinkUp p gen s
  | .twTrainFail p => Sys2Proof.Machine.execTwTrainFail p s
  | .twRetry p => Sys2Proof.Machine.execTwRetry p s
  | .twRetrain path p v => Sys2Proof.Machine.execTwRetrain path p v s
  | .frameLaunch p => Sys2Proof.Machine.execFrameLaunch p s
  | .frameInvalid p lane prev frame => Sys2Proof.Machine.execFrameInvalid p lane prev frame s
  | .idleRx p lane freed => Sys2Proof.Machine.execIdleRx p lane freed s
  | .groupRx p lane slots gid hops => Sys2Proof.Machine.execGroupRx p lane slots gid hops s
  | .timeLoRx p lane ns => Sys2Proof.Machine.execTimeLoRx p lane ns s
  | .timeHiRx p lane ns frac => Sys2Proof.Machine.execTimeHiRx p lane ns frac s
  | .stateRx p lane master sender depth gen reel valid mode => Sys2Proof.Machine.execStateRx p lane master sender depth gen reel valid mode s
  | .rateRx p lane adj applyT => Sys2Proof.Machine.execRateRx p lane adj applyT s
  | .rateApply => Sys2Proof.Machine.execRateApply s
  | .rateRepeat => Sys2Proof.Machine.execRateRepeat s
  | .timeQueue => Sys2Proof.Machine.execTimeQueue s
  | .syncMarkerQueue p => Sys2Proof.Machine.execSyncMarkerQueue p s
  | .syncLoRx p lane count at_ => Sys2Proof.Machine.execSyncLoRx p lane count at_ s
  | .syncHiRx p lane count gen => Sys2Proof.Machine.execSyncHiRx p lane count gen s
  | .frameReservedType p lane => Sys2Proof.Machine.execFrameReservedType p lane s
  | .cascadeSrcTimeout => Sys2Proof.Machine.execCascadeSrcTimeout s
  | .failoverRx p lane => Sys2Proof.Machine.execFailoverRx p lane s
  | .dutyLaneSwitch p => Sys2Proof.Machine.execDutyLaneSwitch p s
  | .failoverTimeout p => Sys2Proof.Machine.execFailoverTimeout p s
  | .bulkRegWr p lane freed dest src tag space addr be v => Sys2Proof.Machine.execBulkRegWr p lane freed dest src tag space addr be v s
  | .bulkRegRd p lane freed dest src tag space addr => Sys2Proof.Machine.execBulkRegRd p lane freed dest src tag space addr s
  | .bulkMemWr p lane freed dest src tag space addr data ue => Sys2Proof.Machine.execBulkMemWr p lane freed dest src tag space addr data ue s
  | .bulkCpl p lane freed dest src tag status data => Sys2Proof.Machine.execBulkCpl p lane freed dest src tag status data s
  | .bulkErr p lane => Sys2Proof.Machine.execBulkErr p lane s
  | .rraWrite path target => Sys2Proof.Machine.execRraWrite path target s
  | .rraRead path target => Sys2Proof.Machine.execRraRead path target s
  | .rraTimeout => Sys2Proof.Machine.execRraTimeout s
  | .rdmaStart path space target => Sys2Proof.Machine.execRdmaStart path space target s
  | .rdmaTimeout => Sys2Proof.Machine.execRdmaTimeout s
  | .strapChg level => Sys2Proof.Machine.execStrapChg level s
  | .bobArm path v => Sys2Proof.Machine.execBobArm path v s
  | .bobDisarm path v => Sys2Proof.Machine.execBobDisarm path v s
  | .bobForce path v => Sys2Proof.Machine.execBobForce path v s
  | .bobReset path b v => Sys2Proof.Machine.execBobReset path b v s
  | .bobRdWrite path b v => Sys2Proof.Machine.execBobRdWrite path b v s
  | .bobDirAck path b v => Sys2Proof.Machine.execBobDirAck path b v s
  | .bobItem b inp => Sys2Proof.Machine.execBobItem b inp s
  | .bobAutoTimeout b => Sys2Proof.Machine.execBobAutoTimeout b s
  | .bobSpillRequest b => Sys2Proof.Machine.execBobSpillRequest b s
  | .bobSpillDone b => Sys2Proof.Machine.execBobSpillDone b s
  | .capture b => Sys2Proof.Machine.execCapture b s
  | .bobRearm b => Sys2Proof.Machine.execBobRearm b s
  | .sramCe off => Sys2Proof.Machine.execSramCe off s
  | .sramUe off rd => Sys2Proof.Machine.execSramUe off rd s
  | .scrubPassDone dram => Sys2Proof.Machine.execScrubPassDone dram s
  | .dramInit => Sys2Proof.Machine.execDramInit s
  | .dramCe off => Sys2Proof.Machine.execDramCe off s
  | .dramUe off rd => Sys2Proof.Machine.execDramUe off rd s
  | .refreshDown k => Sys2Proof.Machine.execRefreshDown k s
  | .dramRequestDone grants => Sys2Proof.Machine.execDramRequestDone grants s
  | .c1Refused b => Sys2Proof.Machine.execC1Refused b s
  | .drfTailWrite path l v => Sys2Proof.Machine.execDrfTailWrite path l v s
  | .drfCompress l ue => Sys2Proof.Machine.execDrfCompress l ue s
  | .drfDecompress l ue => Sys2Proof.Machine.execDrfDecompress l ue s
  | .drfVerify l ue => Sys2Proof.Machine.execDrfVerify l ue s
  | .drfJobDone l => Sys2Proof.Machine.execDrfJobDone l s
  | .drfStall l => Sys2Proof.Machine.execDrfStall l s
  | .drfResume l => Sys2Proof.Machine.execDrfResume l s
  | .linkChg up speed width flit => Sys2Proof.Machine.execLinkChg up speed width flit s
  | .functionLevelReset => Sys2Proof.Machine.execFunctionLevelReset s
  | .d3hotEntry => Sys2Proof.Machine.execD3hotEntry s
  | .d0Return => Sys2Proof.Machine.execD0Return s
  | .bar2Access off a ue => Sys2Proof.Machine.execBar2Access off a ue s
  | .bar4Access x a ue size => Sys2Proof.Machine.execBar4Access x a ue size s
  | .dmaDoorbell p q v => Sys2Proof.Machine.execDmaDoorbell p q v s
  | .dmaDescriptorStart q desc => Sys2Proof.Machine.execDmaDescriptorStart q desc s
  | .dmaDescriptorDone q data how ue => Sys2Proof.Machine.execDmaDescriptorDone q data how ue s
  | .dmaQueueDisable p q v => Sys2Proof.Machine.execDmaQueueDisable p q v s
  | .dmaQueueReset p q v => Sys2Proof.Machine.execDmaQueueReset p q v s
  | .qLimitWrite p q v => Sys2Proof.Machine.execQLimitWrite p q v s
  | .msixSend v fmask => Sys2Proof.Machine.execMsixSend v fmask s
  | .vecRearm p w v => Sys2Proof.Machine.execVecRearm p w v s
  | .msixUnmask v => Sys2Proof.Machine.execMsixUnmask v s
  | .smbRead addr off => Sys2Proof.Machine.execSmbRead addr off s
  | .smbWrite addr off v pec => Sys2Proof.Machine.execSmbWrite addr off v pec s
  | .smbStatus addr => Sys2Proof.Machine.execSmbStatus addr s
  | .loadGo path => Sys2Proof.Machine.execLoadGo path s
  | .loadOk => Sys2Proof.Machine.execLoadOk s
  | .loadFail ue => Sys2Proof.Machine.execLoadFail ue s
  | .provision path arg => Sys2Proof.Machine.execProvision path arg s
  | .provisionDone => Sys2Proof.Machine.execProvisionDone s
  | .kekTaken path => Sys2Proof.Machine.execKekTaken path s
  | .challenge path => Sys2Proof.Machine.execChallenge path s
  | .challengeExpiry => Sys2Proof.Machine.execChallengeExpiry s
  | .submit path => Sys2Proof.Machine.execSubmit path s
  | .authUnlock => Sys2Proof.Machine.execAuthUnlock s
  | .authRetire => Sys2Proof.Machine.execAuthRetire s
  | .authRevoke => Sys2Proof.Machine.execAuthRevoke s
  | .authAdvanceSvn => Sys2Proof.Machine.execAuthAdvanceSvn s
  | .lockoutEnd => Sys2Proof.Machine.execLockoutEnd s
  | .relock path => Sys2Proof.Machine.execRelock path s
  | .snap path => Sys2Proof.Machine.execSnap path s
  | .monitorBreach b => Sys2Proof.Machine.execMonitorBreach b s
  | .df2Evaluation powers => Sys2Proof.Machine.execDf2Evaluation powers s
  | .biasStepSample b nA => Sys2Proof.Machine.execBiasStepSample b nA s
  | .clockCheck count => Sys2Proof.Machine.execClockCheck count s
  | .heartbeatTimeout n => Sys2Proof.Machine.execHeartbeatTimeout n s
  | .ueLine off => Sys2Proof.Machine.execUeLine off s
  | .plantIlkChange asserted => Sys2Proof.Machine.execPlantIlkChange asserted s
  | .trip => Sys2Proof.Machine.execTrip s
  | .permitLoss => Sys2Proof.Machine.execPermitLoss s
  | .supSupplyFail => Sys2Proof.Machine.execSupSupplyFail s
  | .biasSafeRampStep b => Sys2Proof.Machine.execBiasSafeRampStep b s
  | .disagree m c samples => Sys2Proof.Machine.execDisagree m c samples s
  | .arbitrationDecision a b dac => Sys2Proof.Machine.execArbitrationDecision a b dac s
  | .blankStart m => Sys2Proof.Machine.execBlankStart m s
  | .blankEnd m => Sys2Proof.Machine.execBlankEnd m s
  | .madcSlot a b tap => Sys2Proof.Machine.execMadcSlot a b tap s
  | .madcStart path x v => Sys2Proof.Machine.execMadcStart path x v s
  | .madcDone x => Sys2Proof.Machine.execMadcDone x s
  | .madcResultRead path x => Sys2Proof.Machine.execMadcResultRead path x s
  | .selftestStart path v => Sys2Proof.Machine.execSelftestStart path v s
  | .selftestPassEnd found => Sys2Proof.Machine.execSelftestPassEnd found s
  | .clrTrip path v => Sys2Proof.Machine.execClrTrip path v s
  | .monFlagClear path m => Sys2Proof.Machine.execMonFlagClear path m s
  | .monitorQualify m => Sys2Proof.Machine.execMonitorQualify m s
  | .sensorMeasure k reading => Sys2Proof.Machine.execSensorMeasure k reading s
  | .errorReport => Sys2Proof.Machine.execErrorReport s
  | .errAck path v => Sys2Proof.Machine.execErrAck path v s
  | .portStateChoice p => Sys2Proof.Machine.execPortStateChoice p s
  | .portWakeDone p => Sys2Proof.Machine.execPortWakeDone p s
  | .latTolWrite path g v => Sys2Proof.Machine.execLatTolWrite path g v s
  | .dormTolWrite path v => Sys2Proof.Machine.execDormTolWrite path v s
  | .dormantRestoreDone => Sys2Proof.Machine.execDormantRestoreDone s
  | .energySample nj total => Sys2Proof.Machine.execEnergySample nj total s
  | .energySnap path v => Sys2Proof.Machine.execEnergySnap path v s
  | .energyClear path v => Sys2Proof.Machine.execEnergyClear path v s
  | .powerOnReset => Sys2Proof.Machine.execPowerOnReset s
  | .systemReset rail => Sys2Proof.Machine.execSystemReset rail s
  | .softwareReset path v => Sys2Proof.Machine.execSoftwareReset path v s
  | .endpointReset => Sys2Proof.Machine.execEndpointReset s
  | .permitsRestore => Sys2Proof.Machine.execPermitsRestore s
  | .tapExtest cells => Sys2Proof.Machine.execTapExtest cells s
  | .tapSamplePreload cells => Sys2Proof.Machine.execTapSamplePreload cells s
  | .tapIdcode => Sys2Proof.Machine.execTapIdcode s
  | .tapSecAcc off write v => Sys2Proof.Machine.execTapSecAcc off write v s
  | .tapBar0Acc off write v => Sys2Proof.Machine.execTapBar0Acc off write v s
  | .tapMemAcc bar4 write addr v => Sys2Proof.Machine.execTapMemAcc bar4 write addr v s
  | .tapBypass => Sys2Proof.Machine.execTapBypass s
  | .refReturn src => Sys2Proof.Machine.execRefReturn src s
  | .cdrLockLoss p => Sys2Proof.Machine.execCdrLockLoss p s
  | .monitorBreachClear m c => Sys2Proof.Machine.execMonitorBreachClear m c s
  | .trgInGlitch k => Sys2Proof.Machine.execTrgInGlitch k s
  | .bulkPacketStart p => Sys2Proof.Machine.execBulkPacketStart p s
  | .porstNRelease strap addr => Sys2Proof.Machine.execPorstNRelease strap addr s
  | .reqReserved path code key => Sys2Proof.Machine.execReqReserved path code key s

end Sys2Proof.Machine
end

