-- ==== Sys2Proof/Machine/RegRows.lean ====
section
/-! DEFINITION. Machine/RegRows.lean: a name for every register row of the spec's register tables, and the offsets that belong to it. -/

namespace Sys2Proof.Machine

/-- The register rows; an array register is one row with all its instances. -/
inductive RegRow where
  | GLB_MODE_CTL | GLB_MODE_STATUS | GLB_MODE_REEL_LO | GLB_MODE_REEL_HI | GLB_CLK_CTL | GLB_CLK_STATUS | GLB_DRV_MAP | GLB_PRB_MAP
  | GLB_RDO_MAP | TLN_CTL | TLN_CMD | TLN_STATUS | TLN_EVENT | TLN_REEL_NS_LO | TLN_REEL_NS_HI | TLN_REEL_FRAC | TLN_SET_LO | TLN_SET_HI
  | TLN_ADJ | TLN_HOLD_ADJ | TLN_JUMP_LIMIT | TLN_SLEW_MAX | TLN_LOCK_CFG | TLN_HOLD_POLICY | TLN_SERVO_KP | TLN_SERVO_KI | TLN_OFFSET
  | TLN_ASYM_THRESH | TLN_UTC_OFFSET | TLN_REFUSED_LO | TLN_REFUSED_HI | TLN_COUNT | TLN_PTP_CFG | TLN_PTP_MAC_LO | TLN_PTP_MAC_HI
  | TLN_PTP_IPV4 | TLN_PTP_CORR | TLN_PTP_OFFSET | TLN_PTP_DELAY | TLN_PTP_STATUS | TLN_LAUNCH_T_LO | TLN_LAUNCH_T_HI | TLN_LAUNCH_ACT_LO
  | TLN_LAUNCH_ACT_HI | TLN_LAUNCH_CFG | SPN_CTL | SPN_CMD | SPN_STATUS | SPN_EVENT | SPN_EVENT_EN | SPN_SIN | SPN_SIN_OVR | SPN_PEND
  | SPN_VEC | SPN_RESUME | SPN_COUNT | SPN_ERR | SPN_IRQ_CODE | SPN_DBG | SPN_RESULT | SPN_G | SPN_LC | SPN_TB_LO | SPN_TB_HI | SPN_CA_LO
  | SPN_CA_HI | SYN_EVENT | SYN_STATUS | SYN_PORT_CFG | SYN_PORT_BAND | SYN_PORT_EVENT | SYN_PORT_CLIP_CNT | SYN_PORT_ASLEEP_CNT
  | SYN_PWR_ENV | SYN_CH_CFG | SYN_CH_FTW_LO | SYN_CH_FTW_HI | SYN_CH_INIT_FTW_LO | SYN_CH_INIT_FTW_HI | SYN_CH_PHASE | SYN_CH_INIT_PHASE
  | SYN_CH_STATUS | SYN_FLX_CFG | SYN_FLX_G | SYN_FLX_IIR_A | SYN_FLX_IIR_B | SYN_FLX_FIR | SYN_FLX_EVENT | SYN_FLX_CLIP_CNT
  | SYN_BIA_CFG | SYN_BIA_SLEW | SYN_BIA_SAFE_SLEW | SYN_BIA_TARGET | SYN_BIA_NOW | SYN_MRK_CFG | SYN_TRG_CFG | SYN_MRK_LEVEL
  | SYN_TRG_LEVEL | STM_EVENT | STM_UR_HEAD | STM_UR_LOG_REEL_LO | STM_UR_LOG_REEL_HI | STM_UR_LOG_INFO | STM_UR_LOG_POS | STM_TGT_TBL
  | STM_TGT_CNT | STM_TGT_STATUS | STM_TGT_PASS | STM_TGT_EVENT | STM_TGT_JCNT | STM_RV_CFG | STM_RV_RING | STM_RV_WM | STM_RV_SRC_LO
  | STM_RV_SRC_HI | STM_RV_LEN | STM_RV_CMD | STM_RV_STATUS | STM_RV_FILL | STM_RV_EVENT | STM_RV_EVENT_EN | STM_RV_POS_LO
  | STM_RV_POS_HI | STM_RV_COUNT | RDO_EVENT | RDO_STATUS | RDO_ACQ_CFG | RDO_ACQ_BAND | RDO_ACQ_ATT | RDO_ACQ_EVENT | RDO_ACQ_OVR_CNT
  | RDO_ACQ_STATUS | RDO_CH_CFG | RDO_CH_FTW_LO | RDO_CH_FTW_HI | RDO_CH_APPLIED_FTW_LO | RDO_CH_APPLIED_FTW_HI | RDO_CH_PHASE
  | RDO_CH_STATUS | RDO_ARR_CFG | RDO_ARR_BAND_LO | RDO_ARR_BAND_HI | RDO_ARR_EVENT | RDO_ARR_STATUS | RDO_ARR_CLIP_CNT | RDO_ARR_TONE_F
  | RDO_ARR_TONE_C | RDO_ARR_TONE_P | DSC_EVENT | DSC_COUNT | DSC_CH_CFG | DSC_CH_STATUS | DSC_CH_EVENT | DSC_CH_SWAP | DSC_CH_LAST_DEC
  | DSC_CH_LAST_V_I | DSC_CH_LAST_V_Q | DSC_CH_LAST_T_LO | DSC_CH_LAST_T_HI | DSC_CH_COUNT | DSC_CH_COUNT2 | DSC_SET_K_BASE
  | DSC_STG_K_BASE | DSC_SET_K_CFG | DSC_STG_K_CFG | DSC_SET_P_BASE | DSC_STG_P_BASE | DSC_SET_ES | DSC_STG_ES | DSC_SET_W | DSC_STG_W
  | DSC_SET_C_I | DSC_STG_C_I | DSC_SET_C_Q | DSC_STG_C_Q | FAB_EVENT | FAB_FORCE | FAB_EV_EN | FAB_EV_CFG | FAB_EV_COUNT | FAB_PLY_CFG
  | FAB_PLY_STATUS | FAB_PLY_FILT | FAB_TRG_CFG | FAB_TRG_STUCK | FAB_TRG_STATUS | FAB_CT_CFG | FAB_CT_STATE | FAB_CT_LAST
  | FAB_CT_LAST_MASK | FAB_CT_EVENT | FAB_CT_COUNT | FAB_GRP_CFG | FAB_GRP_STATUS | FAB_GRP_EVENT | FAB_GRP_COUNT | CSC_CFG | CSC_DIM
  | CSC_RATE_LEAD | CSC_STATUS | CSC_EVENT | CSC_EVENT_EN | CSC_EPOCH_LO | CSC_EPOCH_HI | CSC_TW_CFG | CSC_TW_STATUS | CSC_TW_DELAY
  | CSC_TW_PHASE | CSC_TW_CRC | CSC_TW_WAIT | CSC_TW_DROP | CSC_TW_BULK | CSC_TW_CMD | CSC_RRA_CTL | CSC_RRA_ADDR | CSC_RRA_DATA
  | CSC_RRA_STATUS | CSC_RRA_TIMEOUT | CSC_RDMA_SRC_LO | CSC_RDMA_SRC_HI | CSC_RDMA_DST_LO | CSC_RDMA_DST_HI | CSC_RDMA_LEN
  | CSC_RDMA_CTL | CSC_RDMA_STATUS | CSC_ROUTE | CSC_EXP | CSC_FWD | BOB_CTL | BOB_ARM | BOB_DISARM | BOB_FORCE | BOB_EVENT_SUM | BOB_CFG
  | BOB_SRC | BOB_PRE | BOB_POST | BOB_AUTO_TMO | BOB_DB | BOB_MASK_CFG | BOB_SPILL_BASE_LO | BOB_SPILL_BASE_HI | BOB_SPILL_SIZE
  | BOB_STATUS | BOB_EVENT | BOB_EVENT_EN | BOB_WR_LO | BOB_WR_HI | BOB_SPILLED_LO | BOB_SPILLED_HI | BOB_RD_LO | BOB_RD_HI
  | BOB_DIR_HEAD | BOB_COUNT | BOB_COUNT2 | BOB_CMD | BOB_TC_CFG | BOB_TC_T_LO | BOB_TC_T_HI | BOB_MASK | MEM_EVENT | MEM_EVENT_EN
  | MEM_STATUS | MEM_RES | MEM_ARB | MEM_ARB2 | MEM_SCRUB_CFG | MEM_CE_THRESH | MEM_CLS_COUNT | MEM_CLS_MAXLAT | MEM_SRAM_ERR
  | MEM_SRAM_UE_ADDR | MEM_DRAM_ERR | MEM_DRAM_UE_ADDR_LO | MEM_DRAM_UE_ADDR_HI | DRF_STATUS | DRF_RV_BIND | DRF_LANE_RING
  | DRF_LANE_HEAD | DRF_LANE_TAIL | DRF_LANE_STATUS | DRF_LANE_EVENT | DRF_LANE_EVENT_EN | DRF_LANE_STALL | DRF_LANE_BLOCKS | HIF_EVENT
  | HIF_EVENT_EN | HIF_CTL | HIF_LINK_STATUS | HIF_BAR4_WIN | HIF_WR_REF | HIF_WR_REF_ADDR_LO | HIF_WR_REF_ADDR_HI | HIF_SMB_MBOX_IN
  | HIF_SMB_MBOX_OUT | HIF_Q_CFG | HIF_Q_RING_LO | HIF_Q_RING_HI | HIF_Q_CPL_LO | HIF_Q_CPL_HI | HIF_Q_TAIL | HIF_Q_HEAD | HIF_Q_STATUS
  | HIF_Q_EVENT | HIF_Q_EVENT_EN | HIF_Q_LIMIT | HIF_Q_WAIT | HIF_Q_CTL | HIF_MSIX_TABLE | HIF_MSIX_PBA | HIF_IRQ_MAP | HIF_VEC_REARM
  | HIF_VEC_LEVEL | GLB_CHECK_STATUS | GLB_CHECK_OBJECT | SEC_STATUS | SEC_EVENT | SEC_EVENT_EN | SEC_LOAD_SRC_LO | SEC_LOAD_SRC_HI
  | SEC_LOAD_CTL | SEC_LOAD_STATUS | SEC_CMD | SEC_CMD_STATUS | SEC_DSN_LO | SEC_DSN_HI | SEC_FUSE | SEC_CHAL | SEC_BUF
  | SEC_SNAP_REEL_LO | SEC_SNAP_REEL_HI | SEC_SNAP | SUP_STATUS | SUP_EVENT | SUP_EVENT_EN | SUP_CFG | SUP_CMD | SUP_TRIP | SUP_TRIP_SEEN
  | SUP_TRIP_ACTIVE | SUP_TRIP_REEL_LO | SUP_TRIP_REEL_HI | SUP_TRIP_ERR | SUP_ERR_CUR | SUP_ERR_CUR_INFO | SUP_ERR_CUR_REEL_LO
  | SUP_ERR_CUR_REEL_HI | SUP_ERR_ACK | SUP_ERR_DEPTH | SUP_ERR_LOST | SUP_QUIET | SUP_TOL | SUP_SELFTEST | SUP_MADC_CTL
  | SUP_MADC_RESULT | SUP_MON_CFG | SUP_MON_THR | SUP_MON_SLEW | SUP_MON_STATUS | SUP_TS_CFG | SUP_TS_VALUE | SUP_TS_STATUS | SUP_TS_EDGE
  | SUP_TS_LIMIT | PWR_STATUS | PWR_EVENT | PWR_CMD | PWR_DORM_TOL | PWR_LAT_TOL | PWR_SNAP_REEL_LO | PWR_SNAP_REEL_HI
  | PWR_TOTAL_ENERGY_LO | PWR_TOTAL_ENERGY_HI | PWR_PULSES_LO | PWR_PULSES_HI | PWR_DECISIONS_LO | PWR_DECISIONS_HI | PWR_PARK
  | PWR_PORT_STATE | PWR_GRP_ENERGY_LO | PWR_GRP_ENERGY_HI | PWR_GRP_EVENT | PWR_GRP_WAKES | PWR_GRP_RES | GLB_RST_CTL | GLB_RST_STATUS
  | BOB_DIR
  deriving DecidableEq, Repr

/-- Whether an offset is one of a row's registers. -/
def RegRow.has : RegRow → Nat → Prop
  | .GLB_MODE_CTL, off => off = Reg.GLB_MODE_CTL
  | .GLB_MODE_STATUS, off => off = Reg.GLB_MODE_STATUS
  | .GLB_MODE_REEL_LO, off => off = Reg.GLB_MODE_REEL_LO
  | .GLB_MODE_REEL_HI, off => off = Reg.GLB_MODE_REEL_HI
  | .GLB_CLK_CTL, off => off = Reg.GLB_CLK_CTL
  | .GLB_CLK_STATUS, off => off = Reg.GLB_CLK_STATUS
  | .GLB_DRV_MAP, off => ∃ i, off = Reg.GLB_DRV_MAP i
  | .GLB_PRB_MAP, off => ∃ i, off = Reg.GLB_PRB_MAP i
  | .GLB_RDO_MAP, off => ∃ i, off = Reg.GLB_RDO_MAP i
  | .TLN_CTL, off => off = Reg.TLN_CTL
  | .TLN_CMD, off => off = Reg.TLN_CMD
  | .TLN_STATUS, off => off = Reg.TLN_STATUS
  | .TLN_EVENT, off => off = Reg.TLN_EVENT
  | .TLN_REEL_NS_LO, off => off = Reg.TLN_REEL_NS_LO
  | .TLN_REEL_NS_HI, off => off = Reg.TLN_REEL_NS_HI
  | .TLN_REEL_FRAC, off => off = Reg.TLN_REEL_FRAC
  | .TLN_SET_LO, off => off = Reg.TLN_SET_LO
  | .TLN_SET_HI, off => off = Reg.TLN_SET_HI
  | .TLN_ADJ, off => off = Reg.TLN_ADJ
  | .TLN_HOLD_ADJ, off => off = Reg.TLN_HOLD_ADJ
  | .TLN_JUMP_LIMIT, off => off = Reg.TLN_JUMP_LIMIT
  | .TLN_SLEW_MAX, off => off = Reg.TLN_SLEW_MAX
  | .TLN_LOCK_CFG, off => off = Reg.TLN_LOCK_CFG
  | .TLN_HOLD_POLICY, off => off = Reg.TLN_HOLD_POLICY
  | .TLN_SERVO_KP, off => off = Reg.TLN_SERVO_KP
  | .TLN_SERVO_KI, off => off = Reg.TLN_SERVO_KI
  | .TLN_OFFSET, off => off = Reg.TLN_OFFSET
  | .TLN_ASYM_THRESH, off => off = Reg.TLN_ASYM_THRESH
  | .TLN_UTC_OFFSET, off => off = Reg.TLN_UTC_OFFSET
  | .TLN_REFUSED_LO, off => off = Reg.TLN_REFUSED_LO
  | .TLN_REFUSED_HI, off => off = Reg.TLN_REFUSED_HI
  | .TLN_COUNT, off => off = Reg.TLN_COUNT
  | .TLN_PTP_CFG, off => ∃ i, off = Reg.TLN_PTP_CFG i
  | .TLN_PTP_MAC_LO, off => ∃ i, off = Reg.TLN_PTP_MAC_LO i
  | .TLN_PTP_MAC_HI, off => ∃ i, off = Reg.TLN_PTP_MAC_HI i
  | .TLN_PTP_IPV4, off => ∃ i, off = Reg.TLN_PTP_IPV4 i
  | .TLN_PTP_CORR, off => ∃ i, off = Reg.TLN_PTP_CORR i
  | .TLN_PTP_OFFSET, off => ∃ i, off = Reg.TLN_PTP_OFFSET i
  | .TLN_PTP_DELAY, off => ∃ i, off = Reg.TLN_PTP_DELAY i
  | .TLN_PTP_STATUS, off => ∃ i, off = Reg.TLN_PTP_STATUS i
  | .TLN_LAUNCH_T_LO, off => ∃ i, off = Reg.TLN_LAUNCH_T_LO i
  | .TLN_LAUNCH_T_HI, off => ∃ i, off = Reg.TLN_LAUNCH_T_HI i
  | .TLN_LAUNCH_ACT_LO, off => ∃ i, off = Reg.TLN_LAUNCH_ACT_LO i
  | .TLN_LAUNCH_ACT_HI, off => ∃ i, off = Reg.TLN_LAUNCH_ACT_HI i
  | .TLN_LAUNCH_CFG, off => ∃ i, off = Reg.TLN_LAUNCH_CFG i
  | .SPN_CTL, off => ∃ i, off = Reg.SPN_CTL i
  | .SPN_CMD, off => ∃ i, off = Reg.SPN_CMD i
  | .SPN_STATUS, off => ∃ i, off = Reg.SPN_STATUS i
  | .SPN_EVENT, off => ∃ i, off = Reg.SPN_EVENT i
  | .SPN_EVENT_EN, off => ∃ i, off = Reg.SPN_EVENT_EN i
  | .SPN_SIN, off => ∃ i, off = Reg.SPN_SIN i
  | .SPN_SIN_OVR, off => ∃ i, off = Reg.SPN_SIN_OVR i
  | .SPN_PEND, off => ∃ i, off = Reg.SPN_PEND i
  | .SPN_VEC, off => ∃ i j, off = Reg.SPN_VEC i j
  | .SPN_RESUME, off => ∃ i, off = Reg.SPN_RESUME i
  | .SPN_COUNT, off => ∃ i, off = Reg.SPN_COUNT i
  | .SPN_ERR, off => ∃ i, off = Reg.SPN_ERR i
  | .SPN_IRQ_CODE, off => ∃ i, off = Reg.SPN_IRQ_CODE i
  | .SPN_DBG, off => ∃ i, off = Reg.SPN_DBG i
  | .SPN_RESULT, off => ∃ i j, off = Reg.SPN_RESULT i j
  | .SPN_G, off => ∃ i j, off = Reg.SPN_G i j
  | .SPN_LC, off => ∃ i j, off = Reg.SPN_LC i j
  | .SPN_TB_LO, off => ∃ i, off = Reg.SPN_TB_LO i
  | .SPN_TB_HI, off => ∃ i, off = Reg.SPN_TB_HI i
  | .SPN_CA_LO, off => ∃ i, off = Reg.SPN_CA_LO i
  | .SPN_CA_HI, off => ∃ i, off = Reg.SPN_CA_HI i
  | .SYN_EVENT, off => off = Reg.SYN_EVENT
  | .SYN_STATUS, off => off = Reg.SYN_STATUS
  | .SYN_PORT_CFG, off => ∃ i, off = Reg.SYN_PORT_CFG i
  | .SYN_PORT_BAND, off => ∃ i, off = Reg.SYN_PORT_BAND i
  | .SYN_PORT_EVENT, off => ∃ i, off = Reg.SYN_PORT_EVENT i
  | .SYN_PORT_CLIP_CNT, off => ∃ i, off = Reg.SYN_PORT_CLIP_CNT i
  | .SYN_PORT_ASLEEP_CNT, off => ∃ i, off = Reg.SYN_PORT_ASLEEP_CNT i
  | .SYN_PWR_ENV, off => ∃ i j, off = Reg.SYN_PWR_ENV i j
  | .SYN_CH_CFG, off => ∃ i, off = Reg.SYN_CH_CFG i
  | .SYN_CH_FTW_LO, off => ∃ i, off = Reg.SYN_CH_FTW_LO i
  | .SYN_CH_FTW_HI, off => ∃ i, off = Reg.SYN_CH_FTW_HI i
  | .SYN_CH_INIT_FTW_LO, off => ∃ i, off = Reg.SYN_CH_INIT_FTW_LO i
  | .SYN_CH_INIT_FTW_HI, off => ∃ i, off = Reg.SYN_CH_INIT_FTW_HI i
  | .SYN_CH_PHASE, off => ∃ i, off = Reg.SYN_CH_PHASE i
  | .SYN_CH_INIT_PHASE, off => ∃ i, off = Reg.SYN_CH_INIT_PHASE i
  | .SYN_CH_STATUS, off => ∃ i, off = Reg.SYN_CH_STATUS i
  | .SYN_FLX_CFG, off => ∃ i, off = Reg.SYN_FLX_CFG i
  | .SYN_FLX_G, off => ∃ i, off = Reg.SYN_FLX_G i
  | .SYN_FLX_IIR_A, off => ∃ i j, off = Reg.SYN_FLX_IIR_A i j
  | .SYN_FLX_IIR_B, off => ∃ i j, off = Reg.SYN_FLX_IIR_B i j
  | .SYN_FLX_FIR, off => ∃ i j, off = Reg.SYN_FLX_FIR i j
  | .SYN_FLX_EVENT, off => ∃ i, off = Reg.SYN_FLX_EVENT i
  | .SYN_FLX_CLIP_CNT, off => ∃ i, off = Reg.SYN_FLX_CLIP_CNT i
  | .SYN_BIA_CFG, off => ∃ i, off = Reg.SYN_BIA_CFG i
  | .SYN_BIA_SLEW, off => ∃ i, off = Reg.SYN_BIA_SLEW i
  | .SYN_BIA_SAFE_SLEW, off => ∃ i, off = Reg.SYN_BIA_SAFE_SLEW i
  | .SYN_BIA_TARGET, off => ∃ i, off = Reg.SYN_BIA_TARGET i
  | .SYN_BIA_NOW, off => ∃ i, off = Reg.SYN_BIA_NOW i
  | .SYN_MRK_CFG, off => ∃ i, off = Reg.SYN_MRK_CFG i
  | .SYN_TRG_CFG, off => ∃ i, off = Reg.SYN_TRG_CFG i
  | .SYN_MRK_LEVEL, off => off = Reg.SYN_MRK_LEVEL
  | .SYN_TRG_LEVEL, off => off = Reg.SYN_TRG_LEVEL
  | .STM_EVENT, off => off = Reg.STM_EVENT
  | .STM_UR_HEAD, off => off = Reg.STM_UR_HEAD
  | .STM_UR_LOG_REEL_LO, off => ∃ i, off = Reg.STM_UR_LOG_REEL_LO i
  | .STM_UR_LOG_REEL_HI, off => ∃ i, off = Reg.STM_UR_LOG_REEL_HI i
  | .STM_UR_LOG_INFO, off => ∃ i, off = Reg.STM_UR_LOG_INFO i
  | .STM_UR_LOG_POS, off => ∃ i, off = Reg.STM_UR_LOG_POS i
  | .STM_TGT_TBL, off => ∃ i, off = Reg.STM_TGT_TBL i
  | .STM_TGT_CNT, off => ∃ i, off = Reg.STM_TGT_CNT i
  | .STM_TGT_STATUS, off => ∃ i, off = Reg.STM_TGT_STATUS i
  | .STM_TGT_PASS, off => ∃ i, off = Reg.STM_TGT_PASS i
  | .STM_TGT_EVENT, off => ∃ i, off = Reg.STM_TGT_EVENT i
  | .STM_TGT_JCNT, off => ∃ i, off = Reg.STM_TGT_JCNT i
  | .STM_RV_CFG, off => ∃ i, off = Reg.STM_RV_CFG i
  | .STM_RV_RING, off => ∃ i, off = Reg.STM_RV_RING i
  | .STM_RV_WM, off => ∃ i, off = Reg.STM_RV_WM i
  | .STM_RV_SRC_LO, off => ∃ i, off = Reg.STM_RV_SRC_LO i
  | .STM_RV_SRC_HI, off => ∃ i, off = Reg.STM_RV_SRC_HI i
  | .STM_RV_LEN, off => ∃ i, off = Reg.STM_RV_LEN i
  | .STM_RV_CMD, off => ∃ i, off = Reg.STM_RV_CMD i
  | .STM_RV_STATUS, off => ∃ i, off = Reg.STM_RV_STATUS i
  | .STM_RV_FILL, off => ∃ i, off = Reg.STM_RV_FILL i
  | .STM_RV_EVENT, off => ∃ i, off = Reg.STM_RV_EVENT i
  | .STM_RV_EVENT_EN, off => ∃ i, off = Reg.STM_RV_EVENT_EN i
  | .STM_RV_POS_LO, off => ∃ i, off = Reg.STM_RV_POS_LO i
  | .STM_RV_POS_HI, off => ∃ i, off = Reg.STM_RV_POS_HI i
  | .STM_RV_COUNT, off => ∃ i, off = Reg.STM_RV_COUNT i
  | .RDO_EVENT, off => off = Reg.RDO_EVENT
  | .RDO_STATUS, off => off = Reg.RDO_STATUS
  | .RDO_ACQ_CFG, off => ∃ i, off = Reg.RDO_ACQ_CFG i
  | .RDO_ACQ_BAND, off => ∃ i, off = Reg.RDO_ACQ_BAND i
  | .RDO_ACQ_ATT, off => ∃ i, off = Reg.RDO_ACQ_ATT i
  | .RDO_ACQ_EVENT, off => ∃ i, off = Reg.RDO_ACQ_EVENT i
  | .RDO_ACQ_OVR_CNT, off => ∃ i, off = Reg.RDO_ACQ_OVR_CNT i
  | .RDO_ACQ_STATUS, off => ∃ i, off = Reg.RDO_ACQ_STATUS i
  | .RDO_CH_CFG, off => ∃ i, off = Reg.RDO_CH_CFG i
  | .RDO_CH_FTW_LO, off => ∃ i, off = Reg.RDO_CH_FTW_LO i
  | .RDO_CH_FTW_HI, off => ∃ i, off = Reg.RDO_CH_FTW_HI i
  | .RDO_CH_APPLIED_FTW_LO, off => ∃ i, off = Reg.RDO_CH_APPLIED_FTW_LO i
  | .RDO_CH_APPLIED_FTW_HI, off => ∃ i, off = Reg.RDO_CH_APPLIED_FTW_HI i
  | .RDO_CH_PHASE, off => ∃ i, off = Reg.RDO_CH_PHASE i
  | .RDO_CH_STATUS, off => ∃ i, off = Reg.RDO_CH_STATUS i
  | .RDO_ARR_CFG, off => ∃ i, off = Reg.RDO_ARR_CFG i
  | .RDO_ARR_BAND_LO, off => ∃ i, off = Reg.RDO_ARR_BAND_LO i
  | .RDO_ARR_BAND_HI, off => ∃ i, off = Reg.RDO_ARR_BAND_HI i
  | .RDO_ARR_EVENT, off => ∃ i, off = Reg.RDO_ARR_EVENT i
  | .RDO_ARR_STATUS, off => ∃ i, off = Reg.RDO_ARR_STATUS i
  | .RDO_ARR_CLIP_CNT, off => ∃ i, off = Reg.RDO_ARR_CLIP_CNT i
  | .RDO_ARR_TONE_F, off => ∃ i j, off = Reg.RDO_ARR_TONE_F i j
  | .RDO_ARR_TONE_C, off => ∃ i j, off = Reg.RDO_ARR_TONE_C i j
  | .RDO_ARR_TONE_P, off => ∃ i j, off = Reg.RDO_ARR_TONE_P i j
  | .DSC_EVENT, off => off = Reg.DSC_EVENT
  | .DSC_COUNT, off => off = Reg.DSC_COUNT
  | .DSC_CH_CFG, off => ∃ i, off = Reg.DSC_CH_CFG i
  | .DSC_CH_STATUS, off => ∃ i, off = Reg.DSC_CH_STATUS i
  | .DSC_CH_EVENT, off => ∃ i, off = Reg.DSC_CH_EVENT i
  | .DSC_CH_SWAP, off => ∃ i, off = Reg.DSC_CH_SWAP i
  | .DSC_CH_LAST_DEC, off => ∃ i, off = Reg.DSC_CH_LAST_DEC i
  | .DSC_CH_LAST_V_I, off => ∃ i, off = Reg.DSC_CH_LAST_V_I i
  | .DSC_CH_LAST_V_Q, off => ∃ i, off = Reg.DSC_CH_LAST_V_Q i
  | .DSC_CH_LAST_T_LO, off => ∃ i, off = Reg.DSC_CH_LAST_T_LO i
  | .DSC_CH_LAST_T_HI, off => ∃ i, off = Reg.DSC_CH_LAST_T_HI i
  | .DSC_CH_COUNT, off => ∃ i, off = Reg.DSC_CH_COUNT i
  | .DSC_CH_COUNT2, off => ∃ i, off = Reg.DSC_CH_COUNT2 i
  | .DSC_SET_K_BASE, off => ∃ i j, off = Reg.DSC_SET_K_BASE i j
  | .DSC_STG_K_BASE, off => ∃ i j, off = Reg.DSC_STG_K_BASE i j
  | .DSC_SET_K_CFG, off => ∃ i j, off = Reg.DSC_SET_K_CFG i j
  | .DSC_STG_K_CFG, off => ∃ i j, off = Reg.DSC_STG_K_CFG i j
  | .DSC_SET_P_BASE, off => ∃ i j, off = Reg.DSC_SET_P_BASE i j
  | .DSC_STG_P_BASE, off => ∃ i j, off = Reg.DSC_STG_P_BASE i j
  | .DSC_SET_ES, off => ∃ i j, off = Reg.DSC_SET_ES i j
  | .DSC_STG_ES, off => ∃ i j, off = Reg.DSC_STG_ES i j
  | .DSC_SET_W, off => ∃ i j k, off = Reg.DSC_SET_W i j k
  | .DSC_STG_W, off => ∃ i j k, off = Reg.DSC_STG_W i j k
  | .DSC_SET_C_I, off => ∃ i j k, off = Reg.DSC_SET_C_I i j k
  | .DSC_STG_C_I, off => ∃ i j k, off = Reg.DSC_STG_C_I i j k
  | .DSC_SET_C_Q, off => ∃ i j k, off = Reg.DSC_SET_C_Q i j k
  | .DSC_STG_C_Q, off => ∃ i j k, off = Reg.DSC_STG_C_Q i j k
  | .FAB_EVENT, off => off = Reg.FAB_EVENT
  | .FAB_FORCE, off => off = Reg.FAB_FORCE
  | .FAB_EV_EN, off => ∃ i, off = Reg.FAB_EV_EN i
  | .FAB_EV_CFG, off => ∃ i, off = Reg.FAB_EV_CFG i
  | .FAB_EV_COUNT, off => ∃ i, off = Reg.FAB_EV_COUNT i
  | .FAB_PLY_CFG, off => ∃ i, off = Reg.FAB_PLY_CFG i
  | .FAB_PLY_STATUS, off => ∃ i, off = Reg.FAB_PLY_STATUS i
  | .FAB_PLY_FILT, off => ∃ i, off = Reg.FAB_PLY_FILT i
  | .FAB_TRG_CFG, off => ∃ i, off = Reg.FAB_TRG_CFG i
  | .FAB_TRG_STUCK, off => ∃ i, off = Reg.FAB_TRG_STUCK i
  | .FAB_TRG_STATUS, off => ∃ i, off = Reg.FAB_TRG_STATUS i
  | .FAB_CT_CFG, off => ∃ i, off = Reg.FAB_CT_CFG i
  | .FAB_CT_STATE, off => ∃ i, off = Reg.FAB_CT_STATE i
  | .FAB_CT_LAST, off => ∃ i, off = Reg.FAB_CT_LAST i
  | .FAB_CT_LAST_MASK, off => ∃ i, off = Reg.FAB_CT_LAST_MASK i
  | .FAB_CT_EVENT, off => ∃ i, off = Reg.FAB_CT_EVENT i
  | .FAB_CT_COUNT, off => ∃ i, off = Reg.FAB_CT_COUNT i
  | .FAB_GRP_CFG, off => ∃ i, off = Reg.FAB_GRP_CFG i
  | .FAB_GRP_STATUS, off => ∃ i, off = Reg.FAB_GRP_STATUS i
  | .FAB_GRP_EVENT, off => ∃ i, off = Reg.FAB_GRP_EVENT i
  | .FAB_GRP_COUNT, off => ∃ i, off = Reg.FAB_GRP_COUNT i
  | .CSC_CFG, off => off = Reg.CSC_CFG
  | .CSC_DIM, off => off = Reg.CSC_DIM
  | .CSC_RATE_LEAD, off => off = Reg.CSC_RATE_LEAD
  | .CSC_STATUS, off => off = Reg.CSC_STATUS
  | .CSC_EVENT, off => off = Reg.CSC_EVENT
  | .CSC_EVENT_EN, off => off = Reg.CSC_EVENT_EN
  | .CSC_EPOCH_LO, off => off = Reg.CSC_EPOCH_LO
  | .CSC_EPOCH_HI, off => off = Reg.CSC_EPOCH_HI
  | .CSC_TW_CFG, off => ∃ i, off = Reg.CSC_TW_CFG i
  | .CSC_TW_STATUS, off => ∃ i, off = Reg.CSC_TW_STATUS i
  | .CSC_TW_DELAY, off => ∃ i, off = Reg.CSC_TW_DELAY i
  | .CSC_TW_PHASE, off => ∃ i, off = Reg.CSC_TW_PHASE i
  | .CSC_TW_CRC, off => ∃ i, off = Reg.CSC_TW_CRC i
  | .CSC_TW_WAIT, off => ∃ i, off = Reg.CSC_TW_WAIT i
  | .CSC_TW_DROP, off => ∃ i, off = Reg.CSC_TW_DROP i
  | .CSC_TW_BULK, off => ∃ i, off = Reg.CSC_TW_BULK i
  | .CSC_TW_CMD, off => ∃ i, off = Reg.CSC_TW_CMD i
  | .CSC_RRA_CTL, off => off = Reg.CSC_RRA_CTL
  | .CSC_RRA_ADDR, off => off = Reg.CSC_RRA_ADDR
  | .CSC_RRA_DATA, off => off = Reg.CSC_RRA_DATA
  | .CSC_RRA_STATUS, off => off = Reg.CSC_RRA_STATUS
  | .CSC_RRA_TIMEOUT, off => off = Reg.CSC_RRA_TIMEOUT
  | .CSC_RDMA_SRC_LO, off => off = Reg.CSC_RDMA_SRC_LO
  | .CSC_RDMA_SRC_HI, off => off = Reg.CSC_RDMA_SRC_HI
  | .CSC_RDMA_DST_LO, off => off = Reg.CSC_RDMA_DST_LO
  | .CSC_RDMA_DST_HI, off => off = Reg.CSC_RDMA_DST_HI
  | .CSC_RDMA_LEN, off => off = Reg.CSC_RDMA_LEN
  | .CSC_RDMA_CTL, off => off = Reg.CSC_RDMA_CTL
  | .CSC_RDMA_STATUS, off => off = Reg.CSC_RDMA_STATUS
  | .CSC_ROUTE, off => ∃ i, off = Reg.CSC_ROUTE i
  | .CSC_EXP, off => ∃ i, off = Reg.CSC_EXP i
  | .CSC_FWD, off => ∃ i, off = Reg.CSC_FWD i
  | .BOB_CTL, off => off = Reg.BOB_CTL
  | .BOB_ARM, off => off = Reg.BOB_ARM
  | .BOB_DISARM, off => off = Reg.BOB_DISARM
  | .BOB_FORCE, off => off = Reg.BOB_FORCE
  | .BOB_EVENT_SUM, off => off = Reg.BOB_EVENT_SUM
  | .BOB_CFG, off => ∃ i, off = Reg.BOB_CFG i
  | .BOB_SRC, off => ∃ i, off = Reg.BOB_SRC i
  | .BOB_PRE, off => ∃ i, off = Reg.BOB_PRE i
  | .BOB_POST, off => ∃ i, off = Reg.BOB_POST i
  | .BOB_AUTO_TMO, off => ∃ i, off = Reg.BOB_AUTO_TMO i
  | .BOB_DB, off => ∃ i, off = Reg.BOB_DB i
  | .BOB_MASK_CFG, off => ∃ i, off = Reg.BOB_MASK_CFG i
  | .BOB_SPILL_BASE_LO, off => ∃ i, off = Reg.BOB_SPILL_BASE_LO i
  | .BOB_SPILL_BASE_HI, off => ∃ i, off = Reg.BOB_SPILL_BASE_HI i
  | .BOB_SPILL_SIZE, off => ∃ i, off = Reg.BOB_SPILL_SIZE i
  | .BOB_STATUS, off => ∃ i, off = Reg.BOB_STATUS i
  | .BOB_EVENT, off => ∃ i, off = Reg.BOB_EVENT i
  | .BOB_EVENT_EN, off => ∃ i, off = Reg.BOB_EVENT_EN i
  | .BOB_WR_LO, off => ∃ i, off = Reg.BOB_WR_LO i
  | .BOB_WR_HI, off => ∃ i, off = Reg.BOB_WR_HI i
  | .BOB_SPILLED_LO, off => ∃ i, off = Reg.BOB_SPILLED_LO i
  | .BOB_SPILLED_HI, off => ∃ i, off = Reg.BOB_SPILLED_HI i
  | .BOB_RD_LO, off => ∃ i, off = Reg.BOB_RD_LO i
  | .BOB_RD_HI, off => ∃ i, off = Reg.BOB_RD_HI i
  | .BOB_DIR_HEAD, off => ∃ i, off = Reg.BOB_DIR_HEAD i
  | .BOB_COUNT, off => ∃ i, off = Reg.BOB_COUNT i
  | .BOB_COUNT2, off => ∃ i, off = Reg.BOB_COUNT2 i
  | .BOB_CMD, off => ∃ i, off = Reg.BOB_CMD i
  | .BOB_TC_CFG, off => ∃ i j, off = Reg.BOB_TC_CFG i j
  | .BOB_TC_T_LO, off => ∃ i j, off = Reg.BOB_TC_T_LO i j
  | .BOB_TC_T_HI, off => ∃ i j, off = Reg.BOB_TC_T_HI i j
  | .BOB_MASK, off => ∃ i j, off = Reg.BOB_MASK i j
  | .MEM_EVENT, off => off = Reg.MEM_EVENT
  | .MEM_EVENT_EN, off => off = Reg.MEM_EVENT_EN
  | .MEM_STATUS, off => off = Reg.MEM_STATUS
  | .MEM_RES, off => off = Reg.MEM_RES
  | .MEM_ARB, off => off = Reg.MEM_ARB
  | .MEM_ARB2, off => off = Reg.MEM_ARB2
  | .MEM_SCRUB_CFG, off => off = Reg.MEM_SCRUB_CFG
  | .MEM_CE_THRESH, off => off = Reg.MEM_CE_THRESH
  | .MEM_CLS_COUNT, off => ∃ i, off = Reg.MEM_CLS_COUNT i
  | .MEM_CLS_MAXLAT, off => ∃ i, off = Reg.MEM_CLS_MAXLAT i
  | .MEM_SRAM_ERR, off => ∃ i, off = Reg.MEM_SRAM_ERR i
  | .MEM_SRAM_UE_ADDR, off => off = Reg.MEM_SRAM_UE_ADDR
  | .MEM_DRAM_ERR, off => ∃ i, off = Reg.MEM_DRAM_ERR i
  | .MEM_DRAM_UE_ADDR_LO, off => ∃ i, off = Reg.MEM_DRAM_UE_ADDR_LO i
  | .MEM_DRAM_UE_ADDR_HI, off => ∃ i, off = Reg.MEM_DRAM_UE_ADDR_HI i
  | .DRF_STATUS, off => off = Reg.DRF_STATUS
  | .DRF_RV_BIND, off => ∃ i, off = Reg.DRF_RV_BIND i
  | .DRF_LANE_RING, off => ∃ i, off = Reg.DRF_LANE_RING i
  | .DRF_LANE_HEAD, off => ∃ i, off = Reg.DRF_LANE_HEAD i
  | .DRF_LANE_TAIL, off => ∃ i, off = Reg.DRF_LANE_TAIL i
  | .DRF_LANE_STATUS, off => ∃ i, off = Reg.DRF_LANE_STATUS i
  | .DRF_LANE_EVENT, off => ∃ i, off = Reg.DRF_LANE_EVENT i
  | .DRF_LANE_EVENT_EN, off => ∃ i, off = Reg.DRF_LANE_EVENT_EN i
  | .DRF_LANE_STALL, off => ∃ i, off = Reg.DRF_LANE_STALL i
  | .DRF_LANE_BLOCKS, off => ∃ i, off = Reg.DRF_LANE_BLOCKS i
  | .HIF_EVENT, off => off = Reg.HIF_EVENT
  | .HIF_EVENT_EN, off => off = Reg.HIF_EVENT_EN
  | .HIF_CTL, off => off = Reg.HIF_CTL
  | .HIF_LINK_STATUS, off => off = Reg.HIF_LINK_STATUS
  | .HIF_BAR4_WIN, off => off = Reg.HIF_BAR4_WIN
  | .HIF_WR_REF, off => off = Reg.HIF_WR_REF
  | .HIF_WR_REF_ADDR_LO, off => off = Reg.HIF_WR_REF_ADDR_LO
  | .HIF_WR_REF_ADDR_HI, off => off = Reg.HIF_WR_REF_ADDR_HI
  | .HIF_SMB_MBOX_IN, off => off = Reg.HIF_SMB_MBOX_IN
  | .HIF_SMB_MBOX_OUT, off => off = Reg.HIF_SMB_MBOX_OUT
  | .HIF_Q_CFG, off => ∃ i, off = Reg.HIF_Q_CFG i
  | .HIF_Q_RING_LO, off => ∃ i, off = Reg.HIF_Q_RING_LO i
  | .HIF_Q_RING_HI, off => ∃ i, off = Reg.HIF_Q_RING_HI i
  | .HIF_Q_CPL_LO, off => ∃ i, off = Reg.HIF_Q_CPL_LO i
  | .HIF_Q_CPL_HI, off => ∃ i, off = Reg.HIF_Q_CPL_HI i
  | .HIF_Q_TAIL, off => ∃ i, off = Reg.HIF_Q_TAIL i
  | .HIF_Q_HEAD, off => ∃ i, off = Reg.HIF_Q_HEAD i
  | .HIF_Q_STATUS, off => ∃ i, off = Reg.HIF_Q_STATUS i
  | .HIF_Q_EVENT, off => ∃ i, off = Reg.HIF_Q_EVENT i
  | .HIF_Q_EVENT_EN, off => ∃ i, off = Reg.HIF_Q_EVENT_EN i
  | .HIF_Q_LIMIT, off => ∃ i, off = Reg.HIF_Q_LIMIT i
  | .HIF_Q_WAIT, off => ∃ i, off = Reg.HIF_Q_WAIT i
  | .HIF_Q_CTL, off => ∃ i, off = Reg.HIF_Q_CTL i
  | .HIF_MSIX_TABLE, off => ∃ i j, off = Reg.HIF_MSIX_TABLE i j
  | .HIF_MSIX_PBA, off => ∃ i, off = Reg.HIF_MSIX_PBA i
  | .HIF_IRQ_MAP, off => ∃ i, off = Reg.HIF_IRQ_MAP i
  | .HIF_VEC_REARM, off => ∃ i, off = Reg.HIF_VEC_REARM i
  | .HIF_VEC_LEVEL, off => ∃ i, off = Reg.HIF_VEC_LEVEL i
  | .GLB_CHECK_STATUS, off => off = Reg.GLB_CHECK_STATUS
  | .GLB_CHECK_OBJECT, off => off = Reg.GLB_CHECK_OBJECT
  | .SEC_STATUS, off => off = Reg.SEC_STATUS
  | .SEC_EVENT, off => off = Reg.SEC_EVENT
  | .SEC_EVENT_EN, off => off = Reg.SEC_EVENT_EN
  | .SEC_LOAD_SRC_LO, off => off = Reg.SEC_LOAD_SRC_LO
  | .SEC_LOAD_SRC_HI, off => off = Reg.SEC_LOAD_SRC_HI
  | .SEC_LOAD_CTL, off => off = Reg.SEC_LOAD_CTL
  | .SEC_LOAD_STATUS, off => off = Reg.SEC_LOAD_STATUS
  | .SEC_CMD, off => off = Reg.SEC_CMD
  | .SEC_CMD_STATUS, off => off = Reg.SEC_CMD_STATUS
  | .SEC_DSN_LO, off => off = Reg.SEC_DSN_LO
  | .SEC_DSN_HI, off => off = Reg.SEC_DSN_HI
  | .SEC_FUSE, off => off = Reg.SEC_FUSE
  | .SEC_CHAL, off => ∃ i, off = Reg.SEC_CHAL i
  | .SEC_BUF, off => ∃ i, off = Reg.SEC_BUF i
  | .SEC_SNAP_REEL_LO, off => off = Reg.SEC_SNAP_REEL_LO
  | .SEC_SNAP_REEL_HI, off => off = Reg.SEC_SNAP_REEL_HI
  | .SEC_SNAP, off => ∃ i j, off = Reg.SEC_SNAP i j
  | .SUP_STATUS, off => off = Reg.SUP_STATUS
  | .SUP_EVENT, off => off = Reg.SUP_EVENT
  | .SUP_EVENT_EN, off => off = Reg.SUP_EVENT_EN
  | .SUP_CFG, off => off = Reg.SUP_CFG
  | .SUP_CMD, off => off = Reg.SUP_CMD
  | .SUP_TRIP, off => off = Reg.SUP_TRIP
  | .SUP_TRIP_SEEN, off => off = Reg.SUP_TRIP_SEEN
  | .SUP_TRIP_ACTIVE, off => off = Reg.SUP_TRIP_ACTIVE
  | .SUP_TRIP_REEL_LO, off => off = Reg.SUP_TRIP_REEL_LO
  | .SUP_TRIP_REEL_HI, off => off = Reg.SUP_TRIP_REEL_HI
  | .SUP_TRIP_ERR, off => off = Reg.SUP_TRIP_ERR
  | .SUP_ERR_CUR, off => off = Reg.SUP_ERR_CUR
  | .SUP_ERR_CUR_INFO, off => off = Reg.SUP_ERR_CUR_INFO
  | .SUP_ERR_CUR_REEL_LO, off => off = Reg.SUP_ERR_CUR_REEL_LO
  | .SUP_ERR_CUR_REEL_HI, off => off = Reg.SUP_ERR_CUR_REEL_HI
  | .SUP_ERR_ACK, off => off = Reg.SUP_ERR_ACK
  | .SUP_ERR_DEPTH, off => off = Reg.SUP_ERR_DEPTH
  | .SUP_ERR_LOST, off => off = Reg.SUP_ERR_LOST
  | .SUP_QUIET, off => off = Reg.SUP_QUIET
  | .SUP_TOL, off => off = Reg.SUP_TOL
  | .SUP_SELFTEST, off => off = Reg.SUP_SELFTEST
  | .SUP_MADC_CTL, off => ∃ i, off = Reg.SUP_MADC_CTL i
  | .SUP_MADC_RESULT, off => ∃ i, off = Reg.SUP_MADC_RESULT i
  | .SUP_MON_CFG, off => ∃ i, off = Reg.SUP_MON_CFG i
  | .SUP_MON_THR, off => ∃ i, off = Reg.SUP_MON_THR i
  | .SUP_MON_SLEW, off => ∃ i, off = Reg.SUP_MON_SLEW i
  | .SUP_MON_STATUS, off => ∃ i, off = Reg.SUP_MON_STATUS i
  | .SUP_TS_CFG, off => ∃ i, off = Reg.SUP_TS_CFG i
  | .SUP_TS_VALUE, off => ∃ i, off = Reg.SUP_TS_VALUE i
  | .SUP_TS_STATUS, off => ∃ i, off = Reg.SUP_TS_STATUS i
  | .SUP_TS_EDGE, off => ∃ i j, off = Reg.SUP_TS_EDGE i j
  | .SUP_TS_LIMIT, off => ∃ i, off = Reg.SUP_TS_LIMIT i
  | .PWR_STATUS, off => off = Reg.PWR_STATUS
  | .PWR_EVENT, off => off = Reg.PWR_EVENT
  | .PWR_CMD, off => off = Reg.PWR_CMD
  | .PWR_DORM_TOL, off => off = Reg.PWR_DORM_TOL
  | .PWR_LAT_TOL, off => ∃ i, off = Reg.PWR_LAT_TOL i
  | .PWR_SNAP_REEL_LO, off => off = Reg.PWR_SNAP_REEL_LO
  | .PWR_SNAP_REEL_HI, off => off = Reg.PWR_SNAP_REEL_HI
  | .PWR_TOTAL_ENERGY_LO, off => off = Reg.PWR_TOTAL_ENERGY_LO
  | .PWR_TOTAL_ENERGY_HI, off => off = Reg.PWR_TOTAL_ENERGY_HI
  | .PWR_PULSES_LO, off => off = Reg.PWR_PULSES_LO
  | .PWR_PULSES_HI, off => off = Reg.PWR_PULSES_HI
  | .PWR_DECISIONS_LO, off => off = Reg.PWR_DECISIONS_LO
  | .PWR_DECISIONS_HI, off => off = Reg.PWR_DECISIONS_HI
  | .PWR_PARK, off => ∃ i, off = Reg.PWR_PARK i
  | .PWR_PORT_STATE, off => ∃ i, off = Reg.PWR_PORT_STATE i
  | .PWR_GRP_ENERGY_LO, off => ∃ i, off = Reg.PWR_GRP_ENERGY_LO i
  | .PWR_GRP_ENERGY_HI, off => ∃ i, off = Reg.PWR_GRP_ENERGY_HI i
  | .PWR_GRP_EVENT, off => ∃ i, off = Reg.PWR_GRP_EVENT i
  | .PWR_GRP_WAKES, off => ∃ i, off = Reg.PWR_GRP_WAKES i
  | .PWR_GRP_RES, off => ∃ i j, off = Reg.PWR_GRP_RES i j
  | .GLB_RST_CTL, off => off = Reg.GLB_RST_CTL
  | .GLB_RST_STATUS, off => off = Reg.GLB_RST_STATUS
  | .BOB_DIR, off => ∃ i j k, off = Reg.BOB_DIR i j k

end Sys2Proof.Machine
end

