-- ==== Sys2Proof/Safety.lean ====
section
/-! DEFINITION. Safety.lean: what a sound state is, and the footprint of every command: the register rows and the parts of the state
that it may change. Claims are stated in these terms. -/

namespace Sys2Proof.Machine

/-- The parts of the state beside the registers, one for each field of `State` (three groups of bookkeeping fields are one part each). -/
inductive Part where
  | tick | events | held | resp | free | sram | dram | glb | tln | spn | later | syn | rv | rdo | dsc | fab | csc | bob | mem | jobs
  | hif | sec | sup | pwr | tap | pending
  deriving DecidableEq, Repr

/-- Two states agree on a part. -/
def Part.same : Part → State → State → Prop
  | .tick, s, t => t.tick = s.tick
  | .events, s, t => t.evSet = s.evSet ∧ t.wrOne = s.wrOne ∧ t.wrSet = s.wrSet
  | .held, s, t => t.heldRd = s.heldRd ∧ t.heldWr = s.heldWr
  | .resp, s, t => t.resp = s.resp
  | .free, s, t => t.freeCtr = s.freeCtr
  | .sram, s, t => t.sram = s.sram
  | .dram, s, t => t.dram = s.dram
  | .glb, s, t => t.glb = s.glb
  | .tln, s, t => t.tln = s.tln
  | .spn, s, t => t.spn = s.spn
  | .later, s, t => t.later = s.later
  | .syn, s, t => t.syn = s.syn
  | .rv, s, t => t.rv = s.rv
  | .rdo, s, t => t.rdo = s.rdo
  | .dsc, s, t => t.dsc = s.dsc
  | .fab, s, t => t.fab = s.fab
  | .csc, s, t => t.csc = s.csc
  | .bob, s, t => t.bob = s.bob
  | .mem, s, t => t.mem = s.mem
  | .jobs, s, t => t.jobs = s.jobs
  | .hif, s, t => t.hif = s.hif
  | .sec, s, t => t.sec = s.sec
  | .sup, s, t => t.sup = s.sup
  | .pwr, s, t => t.pwr = s.pwr
  | .tap, s, t => t.tap = s.tap
  | .pending, s, t => t.pending = s.pending

/-- The sparse collections of a part (but the copy of the registers as the tick began with them) are in their canonical form: indices strictly rising, no entry equal to what an unlisted index
holds. -/
def Part.sound : Part → State → Prop
  | .events, s => sparseWf (fun _ => 0) s.evSet = true ∧ sparseWf (fun _ => 0) s.wrOne = true ∧ sparseWf (fun _ => 0) s.wrSet = true
  | .held, s => sparseWf (fun _ => none) s.heldRd = true ∧ sparseWf (fun _ => none) s.heldWr = true
  | .sram, s => Memory.wf s.sram = true
  | .dram, s => Memory.wf s.dram = true
  | .tln, s => sparseWf (fun _ => {}) s.tln.ports = true ∧ sparseWf (fun _ => 0) s.tln.portFree = true
  | .spn, s => sparseWf (fun _ => {}) s.spn = true
  | .syn, s => sparseWf (fun _ => {}) s.syn.tgt = true ∧ sparseWf (fun _ => {}) s.syn.flx = true
      ∧ sparseWf (fun _ => {}) s.syn.bia = true ∧ sparseWf (fun _ => {}) s.syn.outs = true ∧ sparseWf (fun _ => []) s.syn.codes = true
      ∧ sparseWf (fun _ => []) s.syn.line = true
  | .rv, s => sparseWf (fun _ => {}) s.rv = true
  | .rdo, s => sparseWf (fun _ => {}) s.rdo.acq = true ∧ sparseWf (fun _ => {}) s.rdo.ch = true
      ∧ sparseWf (fun _ => {}) s.rdo.pair = true
  | .dsc, s => sparseWf (fun _ => {}) s.dsc = true
  | .fab, s => sparseWf (fun _ => {}) s.fab.ply = true ∧ sparseWf (fun _ => {}) s.fab.trg = true
      ∧ sparseWf (fun _ => []) s.fab.ct = true ∧ sparseWf (fun _ => none) s.fab.enOld = true
  | .csc, s => sparseWf (fun _ => {}) s.csc.tw = true
  | .bob, s => sparseWf (fun _ => {}) s.bob = true
  | .mem, s => sparseWf (fun _ => []) s.mem.ces = true ∧ sparseWf (fun _ => none) s.mem.lowSince = true
      ∧ sparseWf (fun _ => (3, 0)) s.mem.turn = true ∧ sparseWf (fun _ => (0, 0)) s.mem.granted = true
  | .jobs, s => sparseWf (fun _ => none) s.jobs = true
  | .hif, s => sparseWf (fun _ => none) s.hif.dma = true ∧ sparseWf (fun _ => none) s.hif.since = true
      ∧ sparseWf (fun _ => 0) s.hif.dataLeft = true ∧ sparseWf (fun _ => false) s.hif.stopping = true
  | .sup, s => sparseWf (fun _ => []) s.sup.queues = true ∧ sparseWf (fun _ => {}) s.sup.mon = true
      ∧ sparseWf (fun _ => {}) s.sup.ts = true ∧ sparseWf (fun _ => none) s.sup.madc = true ∧ sparseWf (fun _ => none) s.sup.conv = true
      ∧ sparseWf (fun _ => none) s.sup.notices = true
  | .pwr, s => sparseWf (fun _ => none) s.pwr.waking = true ∧ sparseWf (fun _ => none) s.pwr.tolOld = true
      ∧ sparseWf (fun _ => 0) s.pwr.energy = true ∧ sparseWf (fun _ => 0) s.pwr.res = true
      ∧ sparseWf (fun _ => 0) s.pwr.since = true
  | _, _ => True

/-- A sound state: its registers and every sparse collection are in canonical form, so that equal contents are equal data. -/
structure State.Wf (s : State) : Prop where
  regs : sparseWf regReset s.regs = true
  parts : ∀ p : Part, p.sound s

/-- The offsets of some register rows; `none` stands for every offset. -/
def inRows : Option (List RegRow) → Nat → Prop
  | none, _ => True
  | some l, off => ∃ r ∈ l, r.has off

/-- From `s` to `t` no register outside `rows` and no part outside `parts` changes, and a sound state stays sound. -/
structure Frame (rows : Option (List RegRow)) (parts : List Part) (s t : State) : Prop where
  regs : ∀ off, ¬ inRows rows off → t.rd off = s.rd off
  same : ∀ p : Part, p ∉ parts → p.same s t
  sound : s.Wf → t.Wf

/-- The command completes from `s`, and the state it leads to meets `P`. -/
def Completes (c : Instr) (s : State) (P : State → Prop) : Prop := ∃ t, exec c s = .next t ∧ P t

/-- From `s` to `t` no register changes but those at the offsets of `l`. -/
def OnlyRegs (l : List Nat) (s t : State) : Prop := ∀ off, off ∉ l → t.rd off = s.rd off

/-- Spindle `n` issues a word with these operands in this tick and it acts: its condition holds, and the routine is committed where the
word needs that (R95, R96, R117). -/
def State.executes (s : State) (n : Nat) (op : Micro) : Bool :=
  s.mayIssue n && match issue n s with
    | (some m, s') => m.op == op && s'.condition n m.cc && (!op.needsCommit || s'.committed n)
    | _ => false

/-- Spindle `n` does not wait, and its next word is the one at address `a`, in tick `due` at the earliest. -/
def State.goesOn (t : State) (n a due : Nat) : Bool :=
  let x := t.spindle n
  x.npc == a && x.due == due && x.wait == none

/-- The address after the word that spindle `n` issues in this tick. -/
def State.following (s : State) (n : Nat) : Nat := (s.fetchAddr n + 1) % 8192

/-- A write to a register over a path reaches the register: the path grants it and no running check discards it (R403, R425, R436). -/
def State.accepts (s : State) (path : Path) (off : Nat) : Bool := s.mayWrite path off && !s.checkBlocks off

/-- The words at which a scout stops (R133). -/
def MicroWord.scoutStops (m : MicroWord) : Bool :=
  match m.op with
  | .ldlc _ src _ _ => src == 1
  | .settb mode .. => mode == 2
  | .waitt src .. => src == 1
  | .waitr mode .. => mode == 1
  | .jmp _ => m.cc != 0
  | .brs .. => true
  | .wts .. => true
  | .endw nxt _ => nxt == 2 || nxt == 3
  | _ => false

/-! ### What each command may change -/

/-- The registers of the write-refused indication (R386) and the refusals of the management paths. -/
def refusalRows : List RegRow := [.HIF_EVENT, .HIF_WR_REF, .HIF_WR_REF_ADDR_HI, .HIF_WR_REF_ADDR_LO]

/-- The registers of a lost source of time (R75). -/
def lossRows : List RegRow := [.TLN_ADJ, .TLN_COUNT, .TLN_EVENT, .TLN_STATUS]

/-- The registers of a DRAM word found uncorrectable (R359). -/
def eccRows : List RegRow := [.MEM_DRAM_ERR, .MEM_DRAM_UE_ADDR_HI, .MEM_DRAM_UE_ADDR_LO, .MEM_EVENT]

/-- Every part but the tick, the test access port and the queue. -/
def everyPart : List Part :=
  [.bob, .csc, .dram, .dsc, .events, .fab, .free, .glb, .held, .hif, .jobs, .later, .mem, .pwr, .rdo, .resp, .rv, .sec, .spn, .sram, .sup, .syn, .tap, .tln]

/-- The parts that a change of mode may reach. -/
def modeParts : List Part :=
  [.bob, .csc, .dram, .dsc, .events, .fab, .glb, .jobs, .later, .mem, .pwr, .rdo, .rv, .sec, .spn, .sram, .sup, .syn, .tap, .tln]

end Sys2Proof.Machine

namespace Sys2Proof

open Sys2Proof.Machine

/-- The register rows that a command may change; `none` where it may change any (a write by offset, a change of mode, a reset). -/
def Instr.rows : Instr → Option (List RegRow)
  | .registerWrite .. | .loWriteHold .. | .hiWriteCommit .. | .reqNone .. | .reqLoad .. | .reqCalibrate .. | .reqArm ..
  | .reqStop .. | .reqDormant .. | .reqUnload .. | .reqClearSafe .. | .run .. | .configClearDone | .armComplete | .m6Entry
  | .m6Exit | .stopComplete | .stopTimeout | .biasRampTransition | .reelAdvance | .launchArm .. | .combOnWrite ..
  | .toneFcWrite .. | .tonePWrite .. | .bulkRegWr .. | .bobReset .. | .functionLevelReset | .dmaQueueDisable ..
  | .qLimitWrite .. | .vecRearm .. | .smbWrite .. | .loadOk | .loadFail .. | .trip | .permitLoss | .monFlagClear ..
  | .latTolWrite .. | .dormTolWrite .. | .dormantRestoreDone | .powerOnReset | .systemReset .. | .endpointReset | .tapSecAcc ..
  | .tapBar0Acc .. | .porstNRelease .. | .reqReserved .. => none
  | .bar0BadAccess => some [.HIF_EVENT]
  | .loReadCapture .. | .hiRead .. | .bulkRegRd .. | .smbRead .. | .madcResultRead .. => some [.HIF_EVENT, .SUP_MADC_RESULT]
  | .checkEnd => some [.GLB_CHECK_OBJECT, .GLB_CHECK_STATUS, .GLB_MODE_STATUS, .HIF_EVENT]
  | .calibrationStart | .ptpDelayReqTx .. | .heartbeatToken .. | .evaluation .. | .trgInEdge .. | .exportGateEnable ..
  | .exportGateDisable .. | .idleRx .. | .timeLoRx .. | .timeHiRx .. | .rateRepeat | .timeQueue | .syncMarkerQueue ..
  | .syncLoRx .. | .failoverRx .. | .bobAutoTimeout .. | .dmaDescriptorStart .. | .smbStatus .. | .challengeExpiry
  | .lockoutEnd | .energySample .. | .permitsRestore | .tapExtest .. | .tapSamplePreload .. | .tapIdcode | .tapBypass
  | .bulkPacketStart .. => some []
  | .calibrationDone => some [.GLB_MODE_STATUS]
  | .syncWrite .. | .refSrcWrite .. =>
    some (refusalRows ++ lossRows ++ [.CSC_STATUS, .GLB_CLK_CTL, .GLB_CLK_STATUS, .GLB_MODE_STATUS, .SEC_EVENT, .SEC_STATUS])
  | .syncAuto => some [.CSC_STATUS, .GLB_CLK_STATUS, .GLB_MODE_STATUS]
  | .refLoss .. => some (lossRows ++ [.GLB_CLK_STATUS, .HIF_EVENT])
  | .pllUnlock =>
    some (lossRows ++ [.GLB_CLK_STATUS, .HIF_EVENT, .SUP_TRIP, .SUP_TRIP_ERR, .SUP_TRIP_REEL_HI, .SUP_TRIP_REEL_LO, .SUP_TRIP_SEEN])
  | .pllLock => some [.CSC_STATUS, .GLB_CLK_STATUS, .TLN_EVENT, .TLN_STATUS]
  | .ptpSyncRx .. | .ptpFollowUpRx .. =>
    some (lossRows ++ [.TLN_HOLD_ADJ, .TLN_OFFSET, .TLN_PTP_OFFSET, .TLN_PTP_STATUS, .TLN_REFUSED_HI, .TLN_REFUSED_LO])
  | .ptpDelayRespRx .. => some [.TLN_PTP_DELAY, .TLN_PTP_STATUS, .TLN_STATUS]
  | .ptpAnnounceRx .. => some [.TLN_EVENT, .TLN_PTP_STATUS]
  | .ptpRxDrop .. => some [.TLN_PTP_STATUS]
  | .ptpSyncTimeout .. | .ptpAnnounceTimeout .. => some (lossRows ++ [.SUP_TOL, .TLN_CTL, .TLN_PTP_STATUS])
  | .extPhaseCompare .. => some (lossRows ++ [.TLN_HOLD_ADJ, .TLN_OFFSET, .TLN_REFUSED_HI, .TLN_REFUSED_LO])
  | .ppsEdge .. => some (lossRows ++ [.TLN_HOLD_ADJ, .TLN_OFFSET, .TLN_REFUSED_HI, .TLN_REFUSED_LO, .TLN_UTC_OFFSET])
  | .tcodeFrame .. | .holdExpired => some [.TLN_EVENT]
  | .ref10mLoss | .ppsLoss => some lossRows
  | .acceptSlewOut .. | .acceptStepFwd .. => some (refusalRows ++ [.TLN_STATUS])
  | .launch .. => some [.TLN_EVENT, .TLN_LAUNCH_ACT_HI, .TLN_LAUNCH_ACT_LO, .TLN_LAUNCH_CFG]
  | .launchMiss .. => some [.TLN_EVENT, .TLN_LAUNCH_CFG]
  | .opNop .. | .opNcop .. | .opJmp .. | .opBrs .. | .opWaitt .. | .waittDone .. | .waitrReached .. | .opWts .. | .wtsTimeout ..
  | .opJreq .. | .opMrk .. | .opTrgo .. | .opRwin .. => some [.SPN_EVENT, .SPN_STATUS]
  | .opAlu .. | .opRddec .. | .opRdsin .. => some [.SPN_EVENT, .SPN_G, .SPN_STATUS]
  | .opLdlc .. | .opLoop .. => some [.SPN_EVENT, .SPN_LC, .SPN_STATUS]
  | .opSettb .. => some [.SPN_EVENT, .SPN_STATUS, .SPN_TB_HI, .SPN_TB_LO]
  | .opWaitr .. => some [.SPN_COUNT, .SPN_EVENT, .SPN_STATUS]
  | .wtsLatch .. | .opClrs .. => some [.SPN_EVENT, .SPN_SIN, .SPN_STATUS]
  | .opPls .. =>
    some [.SPN_EVENT, .SPN_STATUS, .STM_EVENT, .STM_TGT_EVENT, .STM_TGT_PASS, .STM_TGT_STATUS, .SUP_EVENT, .SUP_MON_STATUS]
  | .opBias .. => some [.SPN_EVENT, .SPN_STATUS, .SUP_EVENT, .SUP_MON_STATUS, .SYN_BIA_TARGET]
  | .outputPulseFall .. | .supSupplyFail => some [.SYN_MRK_LEVEL, .SYN_TRG_LEVEL]
  | .opStro .. => some [.FAB_EVENT, .FAB_EV_COUNT, .SPN_EVENT, .SPN_STATUS]
  | .opStg .. => some [.SPN_EVENT, .SPN_RESULT, .SPN_STATUS]
  | .opIrq .. => some [.SPN_EVENT, .SPN_IRQ_CODE, .SPN_STATUS]
  | .opCommit .. => some [.SPN_CA_HI, .SPN_CA_LO, .SPN_EVENT, .SPN_PEND, .SPN_STATUS]
  | .opEnd .. => some [.SPN_ERR, .SPN_EVENT, .SPN_PEND, .SPN_RESUME, .SPN_STATUS]
  | .illegal .. | .postOvf .. | .cstoreEccUncorr .. => some [.SPN_ERR, .SPN_EVENT, .SPN_STATUS]
  | .vectorRecognised .. => some [.SPN_COUNT, .SPN_EVENT, .SPN_PEND, .SPN_RESUME, .SPN_STATUS]
  | .hostPreempt .. | .bobForce .. | .softwareReset .. => some refusalRows
  | .cstoreEccCorr .. => some [.SPN_COUNT, .SPN_ERR, .SPN_EVENT, .SPN_PEND, .SPN_RESUME, .SPN_STATUS, .SUP_TOL]
  | .scoutStep .. => some [.SPN_STATUS]
  | .dbgHalt .. => some (refusalRows ++ [.SPN_EVENT, .SPN_STATUS])
  | .dbgStep .. | .dbgResume .. => some (refusalRows ++ [.SPN_STATUS])
  | .fetchTick .. =>
    some [.PWR_EVENT, .PWR_GRP_EVENT, .PWR_GRP_WAKES, .RDO_ARR_CLIP_CNT, .RDO_ARR_EVENT, .RDO_EVENT, .STM_EVENT, .STM_RV_COUNT, .STM_RV_EVENT, .STM_RV_FILL, .STM_RV_POS_HI, .STM_RV_POS_LO, .STM_RV_STATUS, .STM_TGT_EVENT, .STM_TGT_PASS, .STM_TGT_STATUS, .SYN_EVENT, .SYN_FLX_CLIP_CNT, .SYN_FLX_EVENT, .SYN_PORT_ASLEEP_CNT, .SYN_PORT_CLIP_CNT, .SYN_PORT_EVENT]
  | .underrunStop .. => some [.STM_UR_HEAD, .STM_UR_LOG_INFO, .STM_UR_LOG_POS, .STM_UR_LOG_REEL_HI, .STM_UR_LOG_REEL_LO]
  | .underrunZeroEnd .. => some [.STM_TGT_STATUS]
  | .urAck .. => some (refusalRows ++ [.STM_UR_HEAD])
  | .segmentBoundary .. => some [.STM_EVENT, .STM_TGT_EVENT, .STM_TGT_JCNT, .STM_TGT_PASS, .STM_TGT_STATUS]
  | .segmentEnd .. => some [.STM_EVENT, .STM_TGT_EVENT, .STM_TGT_STATUS]
  | .biasUpdate | .biasSafeRampStep .. => some [.SYN_BIA_NOW]
  | .rvRestart .. => some (refusalRows ++ [.HIF_Q_LIMIT, .STM_RV_EVENT, .STM_RV_FILL, .STM_RV_POS_HI, .STM_RV_POS_LO, .STM_RV_STATUS])
  | .refillRequest .. => some [.DRF_LANE_STATUS, .STM_RV_EVENT]
  | .refillComplete .. =>
    some (eccRows ++ [.DRF_LANE_BLOCKS, .DRF_LANE_EVENT, .DRF_LANE_STATUS, .STM_RV_EVENT, .STM_RV_FILL, .STM_RV_STATUS])
  | .frontEndChangeApply => some [.RDO_ACQ_STATUS, .RDO_CH_APPLIED_FTW_HI, .RDO_CH_APPLIED_FTW_LO, .RDO_STATUS]
  | .attWrite .. => some (refusalRows ++ [.RDO_ACQ_ATT])
  | .channelSample .. =>
    some [.PWR_EVENT, .PWR_GRP_EVENT, .PWR_GRP_WAKES, .RDO_ACQ_EVENT, .RDO_ACQ_OVR_CNT, .RDO_ACQ_STATUS, .RDO_CH_STATUS, .RDO_EVENT]
  | .toneSample .. => some [.RDO_ACQ_EVENT, .RDO_ACQ_STATUS, .RDO_EVENT]
  | .toneApplied .. => some [.RDO_ARR_EVENT, .RDO_ARR_STATUS, .RDO_ARR_TONE_C, .RDO_ARR_TONE_F, .RDO_ARR_TONE_P]
  | .rwinTakeUp .. =>
    some [.DSC_CH_COUNT2, .DSC_CH_EVENT, .DSC_CH_STATUS, .DSC_CH_SWAP, .DSC_EVENT, .DSC_SET_C_I, .DSC_SET_C_Q, .DSC_SET_ES, .DSC_SET_K_CFG, .DSC_SET_W, .FAB_EVENT, .FAB_EV_COUNT]
  | .decisionFormed .. => some [.DSC_CH_STATUS, .FAB_EVENT, .FAB_EV_COUNT]
  | .strandEvent .. =>
    some [.BOB_EVENT, .FAB_CT_COUNT, .FAB_CT_EVENT, .FAB_CT_STATE, .FAB_EVENT, .FAB_EV_COUNT, .FAB_GRP_EVENT, .FAB_PLY_STATUS, .SPN_EVENT]
  | .fabForce .. => some (refusalRows ++ [.FAB_EVENT, .FAB_EV_COUNT])
  | .plyEval .. => some [.FAB_EVENT, .FAB_EV_COUNT, .FAB_PLY_STATUS]
  | .trgInStuck .. => some [.FAB_EVENT, .FAB_TRG_STATUS]
  | .trgInUnstuck .. => some [.FAB_TRG_STATUS]
  | .ctTrigger .. => some [.FAB_CT_COUNT, .FAB_CT_EVENT, .FAB_CT_STATE, .FAB_EVENT]
  | .ctLookupDone .. => some [.FAB_CT_COUNT, .FAB_CT_EVENT, .FAB_CT_LAST, .FAB_CT_LAST_MASK, .FAB_CT_STATE, .FAB_EVENT, .FAB_EV_COUNT]
  | .exportSlotEvent .. => some [.FAB_EVENT, .FAB_GRP_COUNT, .FAB_GRP_EVENT, .FAB_GRP_STATUS]
  | .twTrainStart .. | .twCdrLock .. | .twAlignDone .. | .twRetry .. => some [.CSC_TW_STATUS]
  | .twIdent .. | .twTrainFail .. | .cdrLockLoss .. => some (lossRows ++ [.CSC_EVENT, .CSC_STATUS, .CSC_TW_STATUS])
  | .twMeasureDone .. => some (lossRows ++ [.CSC_EVENT, .CSC_STATUS, .CSC_TW_DELAY, .CSC_TW_STATUS])
  | .twLinkUp .. => some [.CSC_EVENT, .CSC_TW_STATUS]
  | .twRetrain .. => some (refusalRows ++ lossRows ++ [.CSC_EVENT, .CSC_STATUS, .CSC_TW_STATUS])
  | .frameLaunch .. => some [.CSC_EVENT, .CSC_TW_WAIT, .FAB_GRP_STATUS]
  | .frameInvalid .. => some (lossRows ++ [.CSC_EVENT, .CSC_STATUS, .CSC_TW_CRC, .CSC_TW_STATUS])
  | .groupRx .. => some [.CSC_EVENT, .CSC_TW_DROP, .FAB_EVENT, .FAB_EV_COUNT]
  | .stateRx .. => some (lossRows ++ [.CSC_EVENT, .CSC_STATUS, .TLN_HOLD_ADJ, .TLN_OFFSET, .TLN_REFUSED_HI, .TLN_REFUSED_LO])
  | .rateRx .. => some [.CSC_EVENT, .TLN_ADJ]
  | .rateApply => some [.TLN_ADJ]
  | .syncHiRx .. => some (lossRows ++ [.CSC_EVENT, .CSC_STATUS, .CSC_TW_PHASE, .GLB_CLK_STATUS, .GLB_MODE_STATUS])
  | .frameReservedType .. => some [.CSC_EVENT, .CSC_TW_DROP]
  | .cascadeSrcTimeout | .failoverTimeout .. => some (lossRows ++ [.CSC_EVENT, .CSC_STATUS])
  | .dutyLaneSwitch .. => some [.CSC_EVENT, .CSC_TW_STATUS, .SUP_TOL]
  | .bulkMemWr .. | .bar2Access .. =>
    some (refusalRows ++ [.GLB_MODE_STATUS, .MEM_EVENT, .MEM_SRAM_ERR, .MEM_SRAM_UE_ADDR, .SEC_EVENT, .SEC_STATUS, .SUP_TRIP, .SUP_TRIP_ERR, .SUP_TRIP_REEL_HI, .SUP_TRIP_REEL_LO, .SUP_TRIP_SEEN])
  | .bulkCpl .. => some [.CSC_EVENT, .CSC_RDMA_STATUS, .CSC_RRA_DATA, .CSC_RRA_STATUS]
  | .bulkErr .. => some [.CSC_EVENT, .CSC_TW_BULK]
  | .rraWrite .. | .rraRead .. => some (refusalRows ++ [.CSC_RRA_STATUS])
  | .rraTimeout => some [.CSC_RRA_STATUS]
  | .rdmaStart .. => some (refusalRows ++ [.CSC_RDMA_STATUS])
  | .rdmaTimeout => some [.CSC_RDMA_STATUS]
  | .strapChg .. => some [.CSC_STATUS]
  | .bobArm .. => some (refusalRows ++ [.BOB_COUNT2, .BOB_RD_HI, .BOB_RD_LO, .BOB_SPILLED_HI, .BOB_SPILLED_LO, .BOB_STATUS])
  | .bobDisarm .. => some (refusalRows ++ [.BOB_EVENT, .BOB_STATUS])
  | .bobRdWrite .. =>
    some (refusalRows ++ [.BOB_COUNT2, .BOB_EVENT, .BOB_RD_HI, .BOB_RD_LO, .BOB_SPILLED_HI, .BOB_SPILLED_LO, .BOB_STATUS])
  | .bobDirAck .. => some (refusalRows ++ [.BOB_DIR_HEAD])
  | .bobItem .. =>
    some [.BOB_COUNT, .BOB_COUNT2, .BOB_EVENT, .BOB_RD_HI, .BOB_RD_LO, .BOB_SPILLED_HI, .BOB_SPILLED_LO, .BOB_STATUS, .BOB_WR_HI, .BOB_WR_LO]
  | .bobSpillRequest .. => some [.BOB_EVENT, .BOB_STATUS]
  | .bobSpillDone .. => some (refusalRows ++ [.BOB_SPILLED_HI, .BOB_SPILLED_LO, .SEC_EVENT, .SEC_STATUS])
  | .capture .. => some [.BOB_COUNT, .BOB_DIR, .BOB_DIR_HEAD, .BOB_EVENT, .BOB_STATUS]
  | .bobRearm .. => some [.BOB_COUNT2, .BOB_RD_HI, .BOB_RD_LO, .BOB_SPILLED_HI, .BOB_SPILLED_LO, .BOB_STATUS]
  | .sramCe .. => some [.MEM_EVENT, .MEM_SRAM_ERR]
  | .sramUe .. =>
    some (refusalRows ++ eccRows ++ [.DRF_LANE_STATUS, .FAB_CT_COUNT, .FAB_CT_EVENT, .FAB_CT_LAST, .FAB_CT_LAST_MASK, .FAB_CT_STATE, .FAB_EVENT, .FAB_EV_COUNT, .GLB_MODE_STATUS, .MEM_SRAM_ERR, .MEM_SRAM_UE_ADDR, .SEC_EVENT, .SEC_STATUS, .SPN_ERR, .SPN_EVENT, .SPN_STATUS, .SUP_TRIP, .SUP_TRIP_ERR, .SUP_TRIP_REEL_HI, .SUP_TRIP_REEL_LO, .SUP_TRIP_SEEN, .TLN_EVENT, .TLN_LAUNCH_CFG])
  | .scrubPassDone .. => some [.MEM_EVENT]
  | .dramInit => some (refusalRows ++ eccRows ++ [.CSC_RDMA_STATUS, .MEM_STATUS, .SEC_EVENT, .SEC_STATUS])
  | .dramCe .. => some [.MEM_DRAM_ERR, .MEM_EVENT]
  | .dramUe .. => some (eccRows ++ [.CSC_RDMA_STATUS, .STM_RV_EVENT])
  | .refreshDown .. => some [.MEM_EVENT, .MEM_STATUS]
  | .dramRequestDone .. =>
    some (refusalRows ++ eccRows ++ [.CSC_RDMA_STATUS, .MEM_CLS_COUNT, .MEM_CLS_MAXLAT, .SEC_EVENT, .SEC_STATUS])
  | .c1Refused .. => some [.BOB_EVENT, .BOB_STATUS, .MEM_CLS_COUNT, .MEM_EVENT]
  | .drfTailWrite .. => some (refusalRows ++ [.DRF_LANE_STATUS, .DRF_LANE_TAIL])
  | .drfCompress .. | .drfDecompress .. | .drfVerify .. => some (refusalRows ++ eccRows ++ [.DRF_LANE_STATUS, .SEC_EVENT, .SEC_STATUS])
  | .drfJobDone .. =>
    some (refusalRows ++ eccRows ++ [.DRF_LANE_BLOCKS, .DRF_LANE_EVENT, .DRF_LANE_HEAD, .DRF_LANE_STATUS, .SEC_EVENT, .SEC_STATUS])
  | .drfStall .. | .drfResume .. => some [.DRF_LANE_STATUS]
  | .linkChg .. | .bar4Access .. => some [.HIF_EVENT, .HIF_LINK_STATUS]
  | .d3hotEntry => some [.HIF_LINK_STATUS]
  | .d0Return => some [.HIF_LINK_STATUS, .HIF_MSIX_PBA]
  | .dmaDoorbell .. => some (refusalRows ++ [.HIF_Q_EVENT, .HIF_Q_STATUS, .HIF_Q_TAIL])
  | .dmaDescriptorDone .. =>
    some (refusalRows ++ eccRows ++ [.GLB_MODE_STATUS, .HIF_Q_EVENT, .HIF_Q_HEAD, .HIF_Q_STATUS, .MEM_SRAM_ERR, .MEM_SRAM_UE_ADDR, .SEC_EVENT, .SEC_STATUS, .SUP_TRIP, .SUP_TRIP_ERR, .SUP_TRIP_REEL_HI, .SUP_TRIP_REEL_LO, .SUP_TRIP_SEEN])
  | .dmaQueueReset .. => some (refusalRows ++ [.HIF_Q_HEAD, .HIF_Q_STATUS])
  | .msixSend .. => some [.HIF_MSIX_PBA, .HIF_VEC_REARM]
  | .msixUnmask .. => some [.HIF_MSIX_PBA, .HIF_MSIX_TABLE]
  | .loadGo .. => some (refusalRows ++ [.SEC_LOAD_STATUS])
  | .provision .. | .kekTaken .. | .challenge .. | .submit .. | .relock .. | .snap .. =>
    some (refusalRows ++ [.SEC_CHAL, .SEC_CMD_STATUS, .SEC_EVENT, .SEC_SNAP, .SEC_SNAP_REEL_HI, .SEC_SNAP_REEL_LO, .SEC_STATUS, .SPN_STATUS, .SYN_MRK_LEVEL, .SYN_TRG_LEVEL])
  | .provisionDone | .authRetire =>
    some [.SEC_CMD_STATUS, .SEC_EVENT, .SEC_FUSE, .SEC_STATUS, .SPN_STATUS, .SYN_MRK_LEVEL, .SYN_TRG_LEVEL]
  | .authUnlock => some [.SEC_CMD_STATUS, .SEC_EVENT, .SEC_STATUS, .SPN_STATUS, .SYN_MRK_LEVEL, .SYN_TRG_LEVEL]
  | .authRevoke | .authAdvanceSvn => some [.SEC_CMD_STATUS, .SEC_FUSE, .SEC_STATUS]
  | .monitorBreach .. | .df2Evaluation .. | .biasStepSample .. | .disagree .. =>
    some [.SUP_EVENT, .SUP_MON_STATUS, .SUP_TRIP, .SUP_TRIP_ERR, .SUP_TRIP_REEL_HI, .SUP_TRIP_REEL_LO, .SUP_TRIP_SEEN]
  | .clockCheck .. => some [.SUP_SELFTEST, .SUP_STATUS, .SUP_TRIP, .SUP_TRIP_ERR, .SUP_TRIP_REEL_HI, .SUP_TRIP_REEL_LO, .SUP_TRIP_SEEN]
  | .heartbeatTimeout .. | .ueLine .. => some [.SUP_TRIP, .SUP_TRIP_ERR, .SUP_TRIP_REEL_HI, .SUP_TRIP_REEL_LO, .SUP_TRIP_SEEN]
  | .plantIlkChange .. =>
    some [.SUP_EVENT, .SUP_STATUS, .SUP_TRIP, .SUP_TRIP_ERR, .SUP_TRIP_REEL_HI, .SUP_TRIP_REEL_LO, .SUP_TRIP_SEEN, .SYN_MRK_LEVEL, .SYN_TRG_LEVEL]
  | .arbitrationDecision .. =>
    some [.SUP_EVENT, .SUP_MON_STATUS, .SUP_TOL, .SUP_TRIP, .SUP_TRIP_ERR, .SUP_TRIP_REEL_HI, .SUP_TRIP_REEL_LO, .SUP_TRIP_SEEN]
  | .blankStart .. | .blankEnd .. | .monitorBreachClear .. => some [.SUP_MON_STATUS]
  | .madcSlot .. => some [.SUP_EVENT]
  | .madcStart .. => some (refusalRows ++ [.SUP_EVENT])
  | .madcDone .. => some [.SUP_EVENT, .SUP_MADC_RESULT]
  | .selftestStart .. | .clrTrip .. => some (refusalRows ++ [.SUP_TRIP, .SUP_TRIP_ERR, .SUP_TRIP_SEEN])
  | .selftestPassEnd .. =>
    some [.SUP_EVENT, .SUP_MON_STATUS, .SUP_SELFTEST, .SUP_STATUS, .SUP_TRIP, .SUP_TRIP_ERR, .SUP_TRIP_REEL_HI, .SUP_TRIP_REEL_LO, .SUP_TRIP_SEEN]
  | .monitorQualify .. => some [.SUP_EVENT, .SUP_MON_STATUS, .SUP_STATUS, .SYN_MRK_LEVEL, .SYN_TRG_LEVEL]
  | .sensorMeasure .. =>
    some [.MEM_EVENT, .MEM_STATUS, .SUP_EVENT, .SUP_TRIP, .SUP_TRIP_ERR, .SUP_TRIP_REEL_HI, .SUP_TRIP_REEL_LO, .SUP_TRIP_SEEN, .SUP_TS_STATUS, .SUP_TS_VALUE]
  | .errorReport =>
    some [.SUP_ERR_DEPTH, .SUP_ERR_LOST, .SUP_EVENT, .SUP_TRIP, .SUP_TRIP_ERR, .SUP_TRIP_REEL_HI, .SUP_TRIP_REEL_LO, .SUP_TRIP_SEEN]
  | .errAck .. => some (refusalRows ++ [.SUP_ERR_DEPTH])
  | .portStateChoice .. => some [.PWR_GRP_WAKES, .PWR_PORT_STATE]
  | .portWakeDone .. => some [.PWR_PORT_STATE]
  | .energySnap .. | .energyClear .. =>
    some (refusalRows ++ [.PWR_DECISIONS_HI, .PWR_DECISIONS_LO, .PWR_GRP_ENERGY_HI, .PWR_GRP_ENERGY_LO, .PWR_GRP_RES, .PWR_PULSES_HI, .PWR_PULSES_LO, .PWR_SNAP_REEL_HI, .PWR_SNAP_REEL_LO, .PWR_TOTAL_ENERGY_HI, .PWR_TOTAL_ENERGY_LO])
  | .tapMemAcc .. => some [.SEC_EVENT]
  | .refReturn .. => some [.GLB_CLK_STATUS]
  | .trgInGlitch .. => some [.FAB_EVENT, .FAB_EV_COUNT, .FAB_TRG_STATUS]

/-- The parts of the state that a command may change beside the registers. -/
def Instr.parts : Instr → List Part
  | .registerWrite .. | .loWriteHold .. | .hiWriteCommit .. | .bulkRegWr .. | .smbWrite .. | .loadOk | .loadFail ..
  | .powerOnReset | .systemReset .. | .tapSecAcc .. | .tapBar0Acc .. | .porstNRelease .. => everyPart
  | .bar0BadAccess | .urAck .. | .bobDirAck .. | .drfTailWrite .. | .dmaDoorbell .. | .dmaQueueReset .. | .qLimitWrite ..
  | .vecRearm .. | .madcStart .. | .selftestStart .. | .clrTrip .. | .monFlagClear .. | .errAck .. => [.events, .resp, .sup]
  | .loReadCapture .. | .hiRead .. | .madcResultRead .. => [.events, .held, .resp, .sup]
  | .reqNone .. | .reqLoad .. | .reqCalibrate .. | .reqArm .. | .reqStop .. | .reqDormant .. | .reqUnload .. | .reqClearSafe ..
  | .run .. | .reqReserved .. => modeParts ++ [.free, .resp]
  | .checkEnd => [.events, .glb, .later, .sup]
  | .configClearDone | .armComplete | .m6Entry | .m6Exit | .stopComplete | .stopTimeout | .biasRampTransition | .trip
  | .permitLoss | .dormantRestoreDone => modeParts ++ [.free]
  | .calibrationStart | .calibrationDone | .refReturn .. => [.glb]
  | .syncWrite .. | .refSrcWrite .. => [.events, .free, .glb, .rdo, .resp, .sup, .tln]
  | .syncAuto => [.glb, .rdo]
  | .refLoss .. => [.events, .glb, .sup, .tln]
  | .pllUnlock | .pllLock => [.events, .free, .glb, .sup, .tln]
  | .reelAdvance => everyPart ++ [.tick]
  | .ptpSyncRx .. | .ptpFollowUpRx .. | .extPhaseCompare .. | .ppsEdge .. | .twIdent .. | .twMeasureDone .. | .twTrainFail ..
  | .frameInvalid .. | .stateRx .. | .cascadeSrcTimeout | .failoverTimeout .. | .cdrLockLoss .. => [.csc, .events, .sup, .tln]
  | .ptpDelayReqTx .. | .ptpDelayRespRx .. => [.tln]
  | .ptpAnnounceRx .. | .ptpSyncTimeout .. | .ptpAnnounceTimeout .. | .tcodeFrame .. | .ref10mLoss | .ppsLoss | .launchMiss .. =>
    [.events, .sup, .tln]
  | .ptpRxDrop .. | .underrunZeroEnd .. | .drfStall .. | .drfResume .. | .d3hotEntry | .biasSafeRampStep .. => []
  | .acceptSlewOut .. | .acceptStepFwd .. => [.events, .resp, .sup, .tln]
  | .holdExpired => [.events, .glb, .later, .sup, .tln]
  | .launchArm .. => [.events, .later, .resp, .sup, .tln]
  | .launch .. => [.events, .free, .sup, .tln]
  | .opNop .. | .opAlu .. | .opLdlc .. | .opRddec .. | .opRdsin .. | .opNcop .. | .opSettb .. | .opJmp .. | .opBrs ..
  | .opLoop .. | .opWaitt .. | .waittDone .. | .opWaitr .. | .waitrReached .. | .opWts .. | .wtsLatch .. | .wtsTimeout ..
  | .opStg .. | .opIrq .. | .opClrs .. | .opCommit .. | .illegal .. | .postOvf .. | .cstoreEccUncorr .. => [.events, .spn, .sup]
  | .opPls .. => [.events, .later, .pwr, .spn, .sup, .syn]
  | .opJreq .. | .opMrk .. | .opTrgo .. | .opEnd .. | .vectorRecognised .. | .cstoreEccCorr .. => [.events, .later, .spn, .sup]
  | .opBias .. => [.events, .spn, .sup, .syn]
  | .outputPulseFall .. | .biasUpdate => [.syn]
  | .opRwin .. => [.dsc, .events, .spn, .sup]
  | .opStro .. => [.events, .fab, .spn, .sup]
  | .hostPreempt .. | .dormTolWrite .. | .softwareReset .. => [.events, .later, .resp, .sup]
  | .heartbeatToken .. | .scoutStep .. => [.spn]
  | .dbgHalt .. | .dbgStep .. | .dbgResume .. => [.events, .resp, .spn, .sup]
  | .fetchTick .. => [.events, .mem, .rdo, .rv, .sup, .syn]
  | .underrunStop .. => [.later, .syn]
  | .segmentBoundary .. | .monitorQualify .. => [.events, .sup, .syn]
  | .segmentEnd .. => [.events, .later, .sup, .syn]
  | .rvRestart .. => [.events, .resp, .rv, .sup]
  | .refillRequest .. => [.events, .hif, .mem, .resp, .rv, .sup]
  | .refillComplete .. => [.events, .free, .mem, .rv, .sram, .sup]
  | .frontEndChangeApply => [.rdo]
  | .attWrite .. | .combOnWrite .. | .toneFcWrite .. | .tonePWrite .. => [.events, .rdo, .resp, .sup]
  | .channelSample .. => [.dsc, .events, .later, .rdo, .sup]
  | .toneSample .. | .toneApplied .. => [.events, .rdo, .sup]
  | .rwinTakeUp .. => [.bob, .dsc, .events, .fab, .later, .pwr, .sup]
  | .evaluation .. => [.dsc, .free, .later]
  | .decisionFormed .. => [.dsc, .events, .fab, .later, .pwr, .sup]
  | .strandEvent .. => [.bob, .events, .fab, .later, .sup]
  | .fabForce .. => [.events, .fab, .resp, .sup]
  | .plyEval .. | .trgInStuck .. | .ctTrigger .. | .exportSlotEvent .. => [.events, .fab, .sup]
  | .trgInEdge .. | .exportGateEnable .. | .exportGateDisable .. => [.fab, .later]
  | .trgInUnstuck .. => [.fab]
  | .ctLookupDone .. => [.events, .fab, .free, .sup]
  | .twTrainStart .. | .twCdrLock .. | .twAlignDone .. | .twRetry .. | .idleRx .. | .timeLoRx .. | .timeHiRx .. | .rateApply
  | .rateRepeat | .timeQueue | .syncMarkerQueue .. | .syncLoRx .. | .failoverRx .. | .rraTimeout | .rdmaTimeout => [.csc]
  | .twLinkUp .. | .rateRx .. | .dutyLaneSwitch .. | .bulkCpl .. | .bulkErr .. => [.csc, .events, .sup]
  | .twRetrain .. => [.csc, .events, .resp, .sup, .tln]
  | .frameLaunch .. => [.csc, .events, .free, .sup]
  | .groupRx .. => [.csc, .events, .fab, .sup]
  | .syncHiRx .. => [.csc, .events, .glb, .rdo, .sup, .tln]
  | .frameReservedType .. | .strapChg .. | .scrubPassDone .. | .linkChg .. | .madcSlot .. | .madcDone .. => [.events, .sup]
  | .bulkRegRd .. => [.csc, .events, .held, .resp, .sup]
  | .bulkMemWr .. => [.csc, .events, .free, .glb, .mem, .resp, .sram, .sup]
  | .rraWrite .. | .rraRead .. => [.csc, .events, .resp, .sup]
  | .rdmaStart .. => [.csc, .events, .mem, .resp, .sup]
  | .bobArm .. | .bobDisarm .. | .bobForce .. | .bobRdWrite .. => [.bob, .events, .resp, .sup]
  | .bobReset .. => [.bob, .events, .resp, .sram, .sup]
  | .bobItem .. => [.bob, .events, .sram, .sup]
  | .bobAutoTimeout .. | .bobRearm .. => [.bob]
  | .bobSpillRequest .. | .c1Refused .. => [.bob, .events, .mem, .sup]
  | .bobSpillDone .. => [.bob, .dram, .events, .free, .mem, .resp, .sup]
  | .capture .. => [.bob, .events, .sup]
  | .sramCe .. | .dramCe .. | .refreshDown .. => [.events, .mem, .sup]
  | .sramUe .. => [.dram, .dsc, .events, .fab, .free, .glb, .jobs, .later, .mem, .resp, .spn, .sup, .syn, .tln]
  | .dramInit => [.csc, .dram, .events, .free, .mem, .resp, .sec, .sup, .tap]
  | .dramUe .. => [.csc, .events, .free, .jobs, .mem, .rv, .sup]
  | .dramRequestDone .. => [.csc, .dram, .events, .free, .mem, .resp, .sup, .tap]
  | .drfCompress .. | .drfDecompress .. | .drfVerify .. => [.dram, .events, .free, .jobs, .mem, .resp, .sup]
  | .drfJobDone .. => [.dram, .events, .free, .jobs, .mem, .resp, .sram, .sup]
  | .functionLevelReset | .endpointReset => [.events, .hif, .mem, .rv, .spn, .sup, .syn]
  | .d0Return | .smbStatus .. => [.resp]
  | .bar2Access .. => [.events, .free, .glb, .resp, .sram, .sup]
  | .bar4Access .. => [.events, .hif, .mem, .resp, .sup]
  | .dmaDescriptorStart .. => [.hif, .mem]
  | .dmaDescriptorDone .. => [.dram, .events, .free, .glb, .hif, .mem, .resp, .sram, .sup]
  | .dmaQueueDisable .. => [.events, .hif, .resp, .sup]
  | .msixSend .. | .msixUnmask .. => [.hif, .resp]
  | .smbRead .. => [.events, .free, .held, .resp, .sup]
  | .loadGo .. => [.events, .later, .resp, .sec, .sup]
  | .provision .. | .kekTaken .. | .challenge .. | .submit .. | .relock .. | .snap .. =>
    [.events, .free, .resp, .sec, .spn, .sup, .syn]
  | .provisionDone => [.events, .free, .sec, .spn, .sup, .syn, .tap]
  | .challengeExpiry | .authRevoke | .authAdvanceSvn | .lockoutEnd => [.sec]
  | .authUnlock | .authRetire => [.events, .sec, .spn, .sup, .syn]
  | .monitorBreach .. | .df2Evaluation .. | .biasStepSample .. | .disagree .. | .arbitrationDecision .. | .selftestPassEnd ..
  | .errorReport => [.events, .glb, .sup]
  | .clockCheck .. | .heartbeatTimeout .. | .ueLine .. => [.glb, .sup]
  | .plantIlkChange .. => [.events, .glb, .sup, .syn]
  | .supSupplyFail => [.sup, .syn]
  | .blankStart .. | .blankEnd .. | .permitsRestore | .monitorBreachClear .. => [.sup]
  | .sensorMeasure .. => [.events, .glb, .mem, .rdo, .sup]
  | .portStateChoice .. | .portWakeDone .. => [.pwr, .rdo]
  | .latTolWrite .. | .energySnap .. | .energyClear .. => [.events, .pwr, .resp, .sup]
  | .energySample .. => [.pwr]
  | .tapExtest .. | .tapSamplePreload .. => [.free, .tap]
  | .tapIdcode | .tapBypass => [.tap]
  | .tapMemAcc .. => [.events, .free, .mem, .sup, .tap]
  | .trgInGlitch .. => [.events, .fab, .later, .sup]
  | .bulkPacketStart .. => [.csc, .later]

end Sys2Proof
end

