-- ==== Sys2Proof/WellFormed.lean ====
section
/-! DEFINITION. WellFormed.lean: which commands are well formed: the limits that the manual sets to their operands and that the
operands' types do not already hold (R3, R9, R200, R313, R372, R384, R389, R446). A command's meaning is given for ill-formed
operands too; nothing on the bus or at a pin spells them. -/

namespace Sys2Proof

/-- A byte offset of a 32-bit register or word (R3). -/
def aligned (a : Nat) : Bool := a % 4 == 0

/-- A memory access of at least one byte that ends within its window. -/
def MemAccess.wf (a : MemAccess) (off size : Nat) : Bool :=
  match a with
  | .read len => decide (1 ≤ len) && decide (off + len ≤ size)
  | .write bytes => decide (1 ≤ bytes.length) && decide (off + bytes.length ≤ size)

/-- A well-formed command. -/
def WellFormed (c : Instr) : Bool :=
  match c with
  | .registerWrite _ off _ => aligned off.toNat
  | .bar0BadAccess => true
  | .loReadCapture _ off => aligned off.toNat
  | .hiRead _ off => aligned off.toNat
  | .loWriteHold _ off _ => aligned off.toNat
  | .hiWriteCommit _ off _ => aligned off.toNat
  | .reqNone _ _ => true
  | .reqLoad _ _ => true
  | .reqCalibrate _ _ => true
  | .reqArm _ _ => true
  | .reqStop _ _ => true
  | .reqDormant _ _ => true
  | .reqUnload _ _ => true
  | .reqClearSafe _ _ => true
  | .run _ _ _ => true
  | .checkEnd => true
  | .configClearDone => true
  | .armComplete => true
  | .calibrationStart => true
  | .calibrationDone => true
  | .m6Entry => true
  | .m6Exit => true
  | .stopComplete => true
  | .stopTimeout => true
  | .biasRampTransition => true
  | .syncWrite _ _ => true
  | .syncAuto => true
  | .refLoss _ => true
  | .pllUnlock => true
  | .refSrcWrite _ _ => true
  | .pllLock => true
  | .reelAdvance => true
  | .ptpSyncRx _ _ _ _ _ => true
  | .ptpFollowUpRx _ _ _ => true
  | .ptpDelayReqTx _ _ => true
  | .ptpDelayRespRx _ _ _ => true
  | .ptpAnnounceRx _ _ _ => true
  | .ptpRxDrop _ => true
  | .ptpSyncTimeout _ => true
  | .ptpAnnounceTimeout _ => true
  | .extPhaseCompare _ _ => true
  | .ppsEdge _ _ => true
  | .tcodeFrame _ => true
  | .ref10mLoss => true
  | .ppsLoss => true
  | .acceptSlewOut _ => true
  | .acceptStepFwd _ => true
  | .holdExpired => true
  | .launchArm _ _ _ => true
  | .launch _ => true
  | .launchMiss _ => true
  | .opNop _ => true
  | .opAlu _ => true
  | .opLdlc _ => true
  | .opRddec _ => true
  | .opRdsin _ => true
  | .opNcop _ => true
  | .opSettb _ => true
  | .opJmp _ => true
  | .opBrs _ => true
  | .opLoop _ => true
  | .opWaitt _ => true
  | .waittDone _ => true
  | .opWaitr _ => true
  | .waitrReached _ => true
  | .opWts _ => true
  | .wtsLatch _ => true
  | .wtsTimeout _ => true
  | .opPls _ => true
  | .opJreq _ => true
  | .opBias _ => true
  | .opMrk _ => true
  | .opTrgo _ => true
  | .outputPulseFall _ => true
  | .opRwin _ => true
  | .opStro _ => true
  | .opStg _ => true
  | .opIrq _ => true
  | .opClrs _ => true
  | .opCommit _ => true
  | .opEnd _ => true
  | .illegal _ => true
  | .postOvf _ => true
  | .vectorRecognised _ _ => true
  | .hostPreempt _ _ _ => true
  | .cstoreEccCorr _ => true
  | .cstoreEccUncorr _ => true
  | .heartbeatToken _ => true
  | .scoutStep _ => true
  | .dbgHalt _ _ => true
  | .dbgStep _ _ => true
  | .dbgResume _ _ => true
  | .fetchTick _ => true
  | .underrunStop _ => true
  | .underrunZeroEnd _ => true
  | .urAck _ _ => true
  | .segmentBoundary _ => true
  | .segmentEnd _ => true
  | .biasUpdate => true
  | .rvRestart _ _ _ => true
  | .refillRequest _ => true
  | .refillComplete _ host _ => decide (host.length ≤ 16 + 73728)
  | .frontEndChangeApply => true
  | .attWrite _ _ _ => true
  | .channelSample _ adc => adc.length == 64
  | .toneSample _ _ => true
  | .combOnWrite _ _ _ => true
  | .toneFcWrite _ _ _ _ _ => true
  | .tonePWrite _ _ _ _ => true
  | .toneApplied _ _ => true
  | .rwinTakeUp _ => true
  | .evaluation _ => true
  | .decisionFormed _ => true
  | .strandEvent _ => true
  | .fabForce _ _ => true
  | .plyEval _ => true
  | .trgInEdge _ _ => true
  | .trgInStuck _ => true
  | .trgInUnstuck _ => true
  | .ctTrigger _ => true
  | .ctLookupDone _ _ => true
  | .exportSlotEvent _ _ => true
  | .exportGateEnable _ => true
  | .exportGateDisable _ => true
  | .twTrainStart _ => true
  | .twCdrLock _ => true
  | .twAlignDone _ _ => true
  | .twIdent _ _ _ _ => true
  | .twMeasureDone _ _ _ _ _ => true
  | .twLinkUp _ _ => true
  | .twTrainFail _ => true
  | .twRetry _ => true
  | .twRetrain _ _ _ => true
  | .frameLaunch _ => true
  | .frameInvalid _ _ _ _ => true
  | .idleRx _ _ _ => true
  | .groupRx _ _ _ _ _ => true
  | .timeLoRx _ _ _ => true
  | .timeHiRx _ _ _ _ => true
  | .stateRx _ _ _ _ _ _ _ _ _ => true
  | .rateRx _ _ _ _ => true
  | .rateApply => true
  | .rateRepeat => true
  | .timeQueue => true
  | .syncMarkerQueue _ => true
  | .syncLoRx _ _ _ _ => true
  | .syncHiRx _ _ _ _ => true
  | .frameReservedType _ _ => true
  | .cascadeSrcTimeout => true
  | .failoverRx _ _ => true
  | .dutyLaneSwitch _ => true
  | .failoverTimeout _ => true
  | .bulkRegWr _ _ _ _ _ _ _ addr _ _ => aligned addr.toNat
  | .bulkRegRd _ _ _ _ _ _ _ addr => aligned addr.toNat
  | .bulkMemWr _ _ _ _ _ _ _ addr data _ => aligned addr.toNat && decide (1 ≤ data.length) && decide (data.length ≤ 64)
  | .bulkCpl _ _ _ _ _ _ _ _ => true
  | .bulkErr _ _ => true
  | .rraWrite _ _ => true
  | .rraRead _ _ => true
  | .rraTimeout => true
  | .rdmaStart _ _ _ => true
  | .rdmaTimeout => true
  | .strapChg _ => true
  | .bobArm _ _ => true
  | .bobDisarm _ _ => true
  | .bobForce _ _ => true
  | .bobReset _ _ _ => true
  | .bobRdWrite _ _ _ => true
  | .bobDirAck _ _ _ => true
  | .bobItem _ _ => true
  | .bobAutoTimeout _ => true
  | .bobSpillRequest _ => true
  | .bobSpillDone _ => true
  | .capture _ => true
  | .bobRearm _ => true
  | .sramCe _ => true
  | .sramUe _ _ => true
  | .scrubPassDone _ => true
  | .dramInit => true
  | .dramCe _ => true
  | .dramUe _ _ => true
  | .refreshDown _ => true
  | .dramRequestDone _ => true
  | .c1Refused _ => true
  | .drfTailWrite _ _ _ => true
  | .drfCompress _ _ => true
  | .drfDecompress _ _ => true
  | .drfVerify _ _ => true
  | .drfJobDone _ => true
  | .drfStall _ => true
  | .drfResume _ => true
  | .linkChg _ speed width _ => decide (1 ≤ speed.toNat) && decide (speed.toNat ≤ 6) && [1, 2, 4, 8, 16].contains width.toNat
  | .functionLevelReset => true
  | .d3hotEntry => true
  | .d0Return => true
  | .bar2Access off a _ => a.wf off.val 0x4000000
  | .bar4Access x a _ _ => a.wf x.val 0x2000000000
  | .dmaDoorbell _ _ _ => true
  | .dmaDescriptorStart _ desc => desc.length == 32
  | .dmaDescriptorDone _ _ _ _ => true
  | .dmaQueueDisable _ _ _ => true
  | .dmaQueueReset _ _ _ => true
  | .qLimitWrite _ _ _ => true
  | .msixSend _ _ => true
  | .vecRearm _ _ _ => true
  | .msixUnmask _ => true
  | .smbRead _ _ => true
  | .smbWrite _ _ _ _ => true
  | .smbStatus _ => true
  | .loadGo _ => true
  | .loadOk => true
  | .loadFail _ => true
  | .provision _ _ => true
  | .provisionDone => true
  | .kekTaken _ => true
  | .challenge _ => true
  | .challengeExpiry => true
  | .submit _ => true
  | .authUnlock => true
  | .authRetire => true
  | .authRevoke => true
  | .authAdvanceSvn => true
  | .lockoutEnd => true
  | .relock _ => true
  | .snap _ => true
  | .monitorBreach _ => true
  | .df2Evaluation powers => powers.length == 48 && powers.all fun p => p.length == 50
  | .biasStepSample _ _ => true
  | .clockCheck _ => true
  | .heartbeatTimeout _ => true
  | .ueLine _ => true
  | .plantIlkChange _ => true
  | .trip => true
  | .permitLoss => true
  | .supSupplyFail => true
  | .biasSafeRampStep _ => true
  | .disagree _ _ _ => true
  | .arbitrationDecision _ _ _ => true
  | .blankStart _ => true
  | .blankEnd _ => true
  | .madcSlot _ _ _ => true
  | .madcStart _ _ _ => true
  | .madcDone _ => true
  | .madcResultRead _ _ => true
  | .selftestStart _ _ => true
  | .selftestPassEnd _ => true
  | .clrTrip _ _ => true
  | .monFlagClear _ _ => true
  | .monitorQualify _ => true
  | .sensorMeasure _ _ => true
  | .errorReport => true
  | .errAck _ _ => true
  | .portStateChoice _ => true
  | .portWakeDone _ => true
  | .latTolWrite _ _ _ => true
  | .dormTolWrite _ _ => true
  | .dormantRestoreDone => true
  | .energySample nj _ => nj.length == 16
  | .energySnap _ _ => true
  | .energyClear _ _ => true
  | .powerOnReset => true
  | .systemReset _ => true
  | .softwareReset _ _ => true
  | .endpointReset => true
  | .permitsRestore => true
  | .tapExtest _ => true
  | .tapSamplePreload _ => true
  | .tapIdcode => true
  | .tapSecAcc off _ _ => aligned off.toNat
  | .tapBar0Acc off _ _ => aligned off.toNat
  | .tapMemAcc bar4 _ addr _ => aligned addr.toNat && decide (addr.toNat < if bar4 then 0x2000000000 else 0x4000000)
  | .tapBypass => true
  | .refReturn _ => true
  | .cdrLockLoss _ => true
  | .monitorBreachClear _ _ => true
  | .trgInGlitch _ => true
  | .bulkPacketStart _ => true
  | .porstNRelease _ _ => true
  | .reqReserved _ _ _ => true

end Sys2Proof
end

