-- ==== Sys2Proof/Certificates/Slice0/Obligations.lean ====
section
/-! DEFINITION. Certificates/Slice0/Obligations.lean: the statements about the model, from the rules of spec/. In every statement about
a command, `s` is the state in which the command stands and `t` the state it leads to; `State.Wf` says that the state is in canonical form. -/

open Sys2Proof Sys2Proof.Machine

/-- A step takes the command at the front of the queue and runs it on the state with the queue's rest. -/
def Obligations.StepRunsFront : Prop :=
  ∀ (c : Instr) (rest : List Instr) (s : State),
    step { s with pending := c :: rest } = exec c { s with pending := rest }

/-- On an empty queue the block idles: nothing changes (the model's choice, log entry 6). -/
def Obligations.StepIdles : Prop :=
  ∀ s : State, s.pending = [] → step s = .next s

/-- Every command completes, and keeps to its footprint: registers outside its rows and parts of the state outside its parts are
unchanged, and a state in canonical form stays so. -/
def Obligations.EveryCommandKeepsItsFootprint : Prop :=
  ∀ (c : Instr) (s : State), ∃ t, exec c s = .next t ∧ Frame c.rows c.parts s t

/-- A sound state is one whose registers and sparse collections are canonical; every step that goes on keeps it sound. -/
def Obligations.EveryStepKeepsSoundness : Prop :=
  ∀ s t : State, s.Wf → step s = .next t → t.Wf

/-- The state after reset is sound. -/
def Obligations.ResetIsSound : Prop :=
  State.reset.Wf

/-- Only a command that carries time on moves the tick, and only the queue's own step changes the queue. -/
def Obligations.QueueAndTick : Prop :=
  ∀ (c : Instr) (s : State), ∃ t, exec c s = .next t ∧ t.pending = s.pending ∧ (c ≠ .reelAdvance → t.tick = s.tick)

/-- A write that reaches a register that no row of the table treats apart completes, and where RWL fields are not locked every bit
takes the value that its access type gives (R6); a W1C bit that hardware set in the same tick stays set (R8), and a W1S bit that
is written 1 is set. -/
def Obligations.RegisterWriteByAccessType : Prop :=
  ∀ (s : State), s.Wf →
    (∀ (path : Path) (off : BitVec 26) (v : Word) (d : RegDesc), off.toNat % 4 = 0 → regDesc off.toNat = some d → d.half = .none →
      writeActionAt off.toNat writeActions = none → s.accepts path off.toNat = true → s.rwlLocked = false →
      Completes (.registerWrite path off v) s fun t => t.resp = ⟨.ok, 0, [], [], []⟩ ∧ (∀ i : Fin 32, (d.w1c.getLsbD i = false →
      d.w1s.getLsbD i = false →
      (t.rd off.toNat).getLsbD i = (if (d.rw.getLsbD i || d.rwl.getLsbD i) = true then v.getLsbD i else (s.rd off.toNat).getLsbD i)) ∧
      (d.w1c.getLsbD i = true → d.rw.getLsbD i = false → d.rwl.getLsbD i = false → d.w1s.getLsbD i = false →
      (t.rd off.toNat).getLsbD i = ((s.rd off.toNat).getLsbD i && (!v.getLsbD i || (sget (fun _ => 0) s.evSet off.toNat).getLsbD i)))
      ∧ (d.w1s.getLsbD i = true → d.rw.getLsbD i = false → d.rwl.getLsbD i = false → d.w1c.getLsbD i = false →
      (t.rd off.toNat).getLsbD i = ((s.rd off.toNat).getLsbD i || v.getLsbD i))))

/-- Hardware that clears a W1S bit in the tick of a host's write of 1 to it leaves it set (R9): the operation with which hardware
clears such fields drops the bit only where no write of this tick wrote it 1. -/
def Obligations.HardwareClearKeepsWrittenBit : Prop :=
  ∀ (s : State) (f : Field), s.Wf → f.lo + f.w ≤ 32 →
    (sget (fun _ => 0) s.wrOne f.reg &&& Field.mask f ≠ 0 → (s.drop f).fld f = s.fld f) ∧
    (sget (fun _ => 0) s.wrOne f.reg &&& Field.mask f = 0 → (s.drop f).fld f = 0)

/-- In M4, M5 and M6 a host write leaves every RWL bit unchanged, applies the RW bits, and where the value written to an RWL bit
differs from the bit it sets the write-refused indication (R7). -/
def Obligations.RwlFieldsAreLocked : Prop :=
  ∀ (s : State), s.Wf →
    (∀ (path : Path) (off : BitVec 26) (v : Word) (d : RegDesc), off.toNat % 4 = 0 → regDesc off.toNat = some d → d.half = .none →
      writeActionAt off.toNat writeActions = none → s.accepts path off.toNat = true → s.rwlLocked = true →
      Completes (.registerWrite path off v) s fun t => (∀ i : Fin 32, d.w1c.getLsbD i = false → d.w1s.getLsbD i = false →
      (t.rd off.toNat).getLsbD i = (if d.rw.getLsbD i = true then v.getLsbD i else (s.rd off.toNat).getLsbD i)) ∧
      ((s.rd off.toNat ^^^ v) &&& d.rwl ≠ 0 → t.fld Fld.HIF_EVENT_WR_REFUSED = 1))

/-- Reads and writes of a `_LO` and `_HI` pair, each path with its own copies (R10 to R12): the `_LO` read gives the live word and
captures the live `_HI`; the `_HI` read gives the captured word, or with none the live one, and releases it; the `_LO` write is
held and changes no register; the `_HI` write gives both halves their value; the low word of the reel captures its fraction too.
Beside them an access of another size or alignment changes no register but the flag of the refusal (R3). -/
def Obligations.PairsAndBadAccess : Prop :=
  ∀ (s : State), s.Wf →
    (∀ (path : Path) (off : BitVec 26) (d : RegDesc), off.toNat % 4 = 0 → regDesc off.toNat = some d →
      s.mayRead path off.toNat = true → d.half = .lo → elem off.toNat (Reg.SUP_MADC_RESULT 0) 0x10 2 = none →
      Completes (.loReadCapture path off) s fun t => t.resp = ⟨.ok, s.live off.toNat, [], [], []⟩ ∧ t.regs = s.regs ∧
      sget (fun _ => none) t.heldRd (pairKey path off.toNat) = some (s.live (off.toNat + 4)) ∧ (off.toNat = Reg.TLN_REEL_NS_LO →
      sget (fun _ => none) t.heldRd (pairKey path Reg.TLN_REEL_FRAC) = some (s.live Reg.TLN_REEL_FRAC))) ∧
    (∀ (path : Path) (off : BitVec 26) (d : RegDesc), off.toNat % 4 = 0 → regDesc off.toNat = some d →
      s.mayRead path off.toNat = true → d.half = .hi → elem off.toNat (Reg.SUP_MADC_RESULT 0) 0x10 2 = none →
      Completes (.hiRead path off) s fun t => t.regs = s.regs ∧
      t.resp = ⟨.ok, (sget (fun _ => none) s.heldRd (pairKey path (off.toNat - 4))).getD (s.live off.toNat), [], [], []⟩ ∧
      sget (fun _ => none) t.heldRd (pairKey path (off.toNat - 4)) = none) ∧
    (∀ (path : Path) (off : BitVec 26) (v : Word) (d : RegDesc), off.toNat % 4 = 0 → regDesc off.toNat = some d → d.half = .lo →
      d.rw ||| d.rwl ≠ 0 → s.accepts path off.toNat = true → Completes (.loWriteHold path off v) s fun t => t.regs = s.regs ∧
      sget (fun _ => none) t.heldWr (pairKey path off.toNat) = some v) ∧
    (∀ (path : Path) (off : BitVec 26) (v : Word) (d : RegDesc), off.toNat % 4 = 0 → regDesc off.toNat = some d → d.half = .hi →
      d.rw = 0xFFFFFFFF → d.rwl = 0 → s.accepts path off.toNat = true → 4 ≤ off.toNat →
      elem (off.toNat - 4) (Reg.BOB_RD_LO 0) 0x100 32 = none → elem (off.toNat - 4) (Reg.HIF_Q_RING_LO 0) 0x40 64 = none →
      elem (off.toNat - 4) (Reg.HIF_Q_CPL_LO 0) 0x40 64 = none → Completes (.hiWriteCommit path off v) s fun t => t.rd off.toNat = v ∧
      t.rd (off.toNat - 4) = (sget (fun _ => none) s.heldWr (pairKey path (off.toNat - 4))).getD (s.rd (off.toNat - 4)) ∧
      sget (fun _ => none) t.heldWr (pairKey path (off.toNat - 4)) = none) ∧
    (s.glb.released = true → Completes .bar0BadAccess s fun t => t.resp.status = .unsupported ∧ t.fld Fld.HIF_EVENT_UR = 1 ∧
      OnlyRegs [Reg.HIF_EVENT] s t)

/-- Requests that the present mode lists act (R34, R36, R41, R425): a write of GLB_MODE_CTL that its path lets through, with the
right KEY, no transition in progress and no trip in its tick. -/
def Obligations.RequestsAct : Prop :=
  ∀ (s : State), s.Wf → s.modeBusy = false → s.glb.tripTick ≠ some s.tick →
    (∀ (path : Path), s.mayRequest path 0 = true → Completes (.reqNone path 0xA5) s fun t =>
      t.fld Fld.GLB_MODE_STATUS_REQ_RESULT = 2 ∧ t.mode = s.mode ∧ t.fld Fld.GLB_MODE_STATUS_LAST_REQ = 0 ∧
      OnlyRegs [Reg.GLB_MODE_STATUS] s t) ∧
    (∀ (path : Path), s.mayRequest path 1 = true → s.mode = 0 → s.sec.lcs ≠ 3 → Completes (.reqLoad path 0xA5) s fun t => t.mode = 1 ∧
      t.fld Fld.GLB_MODE_STATUS_REQ_RESULT = 2 ∧ t.fld Fld.GLB_MODE_STATUS_LAST_REQ = 1 ∧ t.fld Fld.GLB_MODE_STATUS_MODE_CHG = 1 ∧
      t.fld Fld.GLB_MODE_STATUS_PREV_MODE = 0 ∧ t.fld Fld.MEM_STATUS_SRAM_READY = 1) ∧
    (∀ (path : Path), s.mayRequest path 2 = true → s.mode = 2 → Completes (.reqCalibrate path 0xA5) s fun t =>
      t.glb.restoring = some 2 ∧ t.mode = 2 ∧ t.fld Fld.GLB_MODE_STATUS_REQ_RESULT = 1) ∧
    (∀ (path : Path), s.mayRequest path 2 = true → s.mode = 4 → s.biasOn = false → Completes (.reqCalibrate path 0xA5) s fun t =>
      t.mode = 3 ∧ t.fld Fld.GLB_MODE_STATUS_REQ_RESULT = 1 ∧ t.fld Fld.GLB_MODE_STATUS_PREV_MODE = 4) ∧
    (∀ (path : Path), s.mayRequest path 2 = true → s.mode = 4 → s.biasOn = true → Completes (.reqCalibrate path 0xA5) s fun t =>
      t.mode = 4 ∧ t.glb.rampTo = some (2, 3) ∧ t.fld Fld.GLB_MODE_STATUS_REQ_RESULT = 1) ∧
    (∀ (path : Path), s.mayRequest path 3 = true → s.mode = 3 → Completes (.reqArm path 0xA5) s fun t => t.mode = 3 ∧
      t.fld Fld.GLB_MODE_STATUS_ARM_PENDING = 1 ∧ t.fld Fld.GLB_MODE_STATUS_REQ_RESULT = 1 ∧ t.fld Fld.GLB_MODE_STATUS_LAST_REQ = 3) ∧
    (∀ (path : Path), s.mayRequest path 3 = true → s.mode = 2 → Completes (.reqArm path 0xA5) s fun t => t.mode = 2 ∧
      t.glb.restoring = some 3 ∧ t.fld Fld.GLB_MODE_STATUS_REQ_RESULT = 1) ∧
    (∀ (path : Path), s.mayRequest path 4 = true → (s.mode = 5 ∨ (s.mode = 6 ∧ s.glb.m6Stopped = false)) →
      Completes (.reqStop path 0xA5) s fun t => t.mode = s.mode ∧ t.glb.stopTick = some s.tick ∧ t.glb.stopping = true ∧
      t.fld Fld.GLB_MODE_STATUS_REQ_RESULT = 1) ∧
    (∀ (path : Path), s.mayRequest path 4 = true → s.mode = 6 → s.glb.m6Stopped = true → Completes (.reqStop path 0xA5) s fun t =>
      t.mode = 6 ∧ t.fld Fld.GLB_MODE_STATUS_REQ_RESULT = 2 ∧ OnlyRegs [Reg.GLB_MODE_STATUS] s t) ∧
    (∀ (path : Path), s.mayRequest path 5 = true → (s.mode = 3 ∨ (s.mode = 4 ∧ s.biasOn = false)) →
      Completes (.reqDormant path 0xA5) s fun t => t.mode = 2 ∧ t.fld Fld.GLB_MODE_STATUS_REQ_RESULT = 2 ∧
      t.fld Fld.GLB_MODE_STATUS_PREV_MODE = s.mode) ∧
    (∀ (path : Path), s.mayRequest path 6 = true → (1 ≤ s.mode ∧ s.mode ≤ 4) → (s.mode = 4 → s.biasOn = false) →
      Completes (.reqUnload path 0xA5) s fun t => t.glb.clearing = true ∧ t.mode = s.mode ∧
      t.fld Fld.GLB_MODE_STATUS_REQ_RESULT = 1) ∧
    (∀ (path : Path), s.mayRequest path 7 = true → path ≠ .tap → s.mode = 7 → s.activeBits = 0 → s.ramping = false →
      s.bit Fld.GLB_MODE_STATUS_CFG_VALID = true → Completes (.reqClearSafe path 0xA5) s fun t => t.mode = 2 ∧
      t.fld Fld.GLB_MODE_STATUS_REQ_RESULT = 2 ∧ t.fld Fld.GLB_MODE_STATUS_PREV_MODE = 7 ∧ t.sup.permits = true ∧
      t.fld Fld.SUP_STATUS_TRIPPED = 0) ∧
    (∀ (path : Path), s.mayRequest path 7 = true → path ≠ .tap → s.mode = 7 → s.activeBits = 0 → s.ramping = false →
      s.bit Fld.GLB_MODE_STATUS_CFG_VALID = false → Completes (.reqClearSafe path 0xA5) s fun t => t.glb.clearing = true ∧
      t.fld Fld.GLB_MODE_STATUS_REQ_RESULT = 1 ∧ t.mode = 7) ∧
    (∀ (path : Path), s.mayRequest path 7 = true → s.mode = 7 → path = .tap ∨ s.activeBits ≠ 0 ∨ s.ramping = true →
      Completes (.reqClearSafe path 0xA5) s fun t => t.mode = 7 ∧ t.fld Fld.GLB_MODE_STATUS_REQ_RESULT = 3 ∧
      (path ≠ .tap → t.fld Fld.SUP_EVENT_CLEAR_REFUSED = 1)) ∧
    (∀ (path : Path) (code : Fin 8), s.mayRequest path (8 + code.val) = true → Completes (.reqReserved path code 0xA5) s fun t =>
      t.mode = s.mode ∧ t.fld Fld.GLB_MODE_STATUS_REQ_RESULT = 3 ∧ t.fld Fld.GLB_MODE_STATUS_LAST_REQ = 8 + code.val ∧
      OnlyRegs [Reg.GLB_MODE_STATUS] s t) ∧
    (∀ (path : Path), s.mayRequest path 0 = true → s.mode = 4 → Completes (.run path 0 0xA5) s fun t => t.glb.checkOn = true ∧
      t.glb.checkTick = s.tick ∧ t.mode = 4 ∧ t.rd Reg.GLB_CHECK_STATUS = 0 ∧ t.rd Reg.GLB_CHECK_OBJECT = 0 ∧
      t.fld Fld.GLB_MODE_STATUS_REQ_RESULT = 1 ∧ t.fld Fld.GLB_MODE_STATUS_LAST_RUN = 1 ∧
      t.glb.checkFound = checkResult (s.answer .ok |>.put Fld.GLB_MODE_STATUS_LAST_REQ 0 |>.put Fld.GLB_MODE_STATUS_LAST_RUN
      1).refusals)

/-- A write of GLB_MODE_CTL that is refused records REQ and RUN, shows why, and changes nothing else: the wrong KEY (R47), a trip
in the same tick (R43), a busy device (R44), RUN beside a request (R46), and a request that the present mode does not list
(R34). -/
def Obligations.RequestsAreRefused : Prop :=
  ∀ (s : State) (path : Path) (code : Fin 8) (req : Fin 16) (key : Byte), s.Wf →
    (s.mayRequest path 0 = true → key ≠ 0xA5 → Completes (.reqNone path key) s fun t => t.mode = s.mode ∧
      t.fld Fld.GLB_MODE_STATUS_LAST_REQ = 0 ∧ t.fld Fld.GLB_MODE_STATUS_LAST_RUN = 0 ∧ t.fld Fld.GLB_MODE_STATUS_REQ_RESULT = 7 ∧
      OnlyRegs [Reg.GLB_MODE_STATUS] s t ∧ t.glb = s.glb ∧ t.later = s.later) ∧
    (s.mayRequest path 1 = true → key ≠ 0xA5 → Completes (.reqLoad path key) s fun t => t.mode = s.mode ∧
      t.fld Fld.GLB_MODE_STATUS_LAST_REQ = 1 ∧ t.fld Fld.GLB_MODE_STATUS_LAST_RUN = 0 ∧ t.fld Fld.GLB_MODE_STATUS_REQ_RESULT = 7 ∧
      OnlyRegs [Reg.GLB_MODE_STATUS] s t ∧ t.glb = s.glb ∧ t.later = s.later) ∧
    (s.mayRequest path 2 = true → key ≠ 0xA5 → Completes (.reqCalibrate path key) s fun t => t.mode = s.mode ∧
      t.fld Fld.GLB_MODE_STATUS_LAST_REQ = 2 ∧ t.fld Fld.GLB_MODE_STATUS_LAST_RUN = 0 ∧ t.fld Fld.GLB_MODE_STATUS_REQ_RESULT = 7 ∧
      OnlyRegs [Reg.GLB_MODE_STATUS] s t ∧ t.glb = s.glb ∧ t.later = s.later) ∧
    (s.mayRequest path 3 = true → key ≠ 0xA5 → Completes (.reqArm path key) s fun t => t.mode = s.mode ∧
      t.fld Fld.GLB_MODE_STATUS_LAST_REQ = 3 ∧ t.fld Fld.GLB_MODE_STATUS_LAST_RUN = 0 ∧ t.fld Fld.GLB_MODE_STATUS_REQ_RESULT = 7 ∧
      OnlyRegs [Reg.GLB_MODE_STATUS] s t ∧ t.glb = s.glb ∧ t.later = s.later) ∧
    (s.mayRequest path 4 = true → key ≠ 0xA5 → Completes (.reqStop path key) s fun t => t.mode = s.mode ∧
      t.fld Fld.GLB_MODE_STATUS_LAST_REQ = 4 ∧ t.fld Fld.GLB_MODE_STATUS_LAST_RUN = 0 ∧ t.fld Fld.GLB_MODE_STATUS_REQ_RESULT = 7 ∧
      OnlyRegs [Reg.GLB_MODE_STATUS] s t ∧ t.glb = s.glb ∧ t.later = s.later) ∧
    (s.mayRequest path 5 = true → key ≠ 0xA5 → Completes (.reqDormant path key) s fun t => t.mode = s.mode ∧
      t.fld Fld.GLB_MODE_STATUS_LAST_REQ = 5 ∧ t.fld Fld.GLB_MODE_STATUS_LAST_RUN = 0 ∧ t.fld Fld.GLB_MODE_STATUS_REQ_RESULT = 7 ∧
      OnlyRegs [Reg.GLB_MODE_STATUS] s t ∧ t.glb = s.glb ∧ t.later = s.later) ∧
    (s.mayRequest path 6 = true → key ≠ 0xA5 → Completes (.reqUnload path key) s fun t => t.mode = s.mode ∧
      t.fld Fld.GLB_MODE_STATUS_LAST_REQ = 6 ∧ t.fld Fld.GLB_MODE_STATUS_LAST_RUN = 0 ∧ t.fld Fld.GLB_MODE_STATUS_REQ_RESULT = 7 ∧
      OnlyRegs [Reg.GLB_MODE_STATUS] s t ∧ t.glb = s.glb ∧ t.later = s.later) ∧
    (s.mayRequest path 7 = true → key ≠ 0xA5 → Completes (.reqClearSafe path key) s fun t => t.mode = s.mode ∧
      t.fld Fld.GLB_MODE_STATUS_LAST_REQ = 7 ∧ t.fld Fld.GLB_MODE_STATUS_LAST_RUN = 0 ∧ t.fld Fld.GLB_MODE_STATUS_REQ_RESULT = 7 ∧
      OnlyRegs [Reg.GLB_MODE_STATUS] s t ∧ t.glb = s.glb ∧ t.later = s.later) ∧
    (s.mayRequest path req.val = true → key ≠ 0xA5 → Completes (.run path req key) s fun t => t.mode = s.mode ∧
      t.fld Fld.GLB_MODE_STATUS_LAST_REQ = req ∧ t.fld Fld.GLB_MODE_STATUS_LAST_RUN = 1 ∧ t.fld Fld.GLB_MODE_STATUS_REQ_RESULT = 7 ∧
      OnlyRegs [Reg.GLB_MODE_STATUS] s t ∧ t.glb = s.glb ∧ t.later = s.later) ∧
    (s.mayRequest path (8 + code.val) = true → key ≠ 0xA5 → Completes (.reqReserved path code key) s fun t => t.mode = s.mode ∧
      t.fld Fld.GLB_MODE_STATUS_LAST_REQ = 8 + code.val ∧ t.fld Fld.GLB_MODE_STATUS_LAST_RUN = 0 ∧
      t.fld Fld.GLB_MODE_STATUS_REQ_RESULT = 7 ∧ OnlyRegs [Reg.GLB_MODE_STATUS] s t ∧ t.glb = s.glb ∧ t.later = s.later) ∧
    (s.mayRequest path 0 = true → s.glb.tripTick = some s.tick → Completes (.reqNone path 0xA5) s fun t => t.mode = s.mode ∧
      t.fld Fld.GLB_MODE_STATUS_LAST_REQ = 0 ∧ t.fld Fld.GLB_MODE_STATUS_LAST_RUN = 0 ∧ t.fld Fld.GLB_MODE_STATUS_REQ_RESULT = 6 ∧
      OnlyRegs [Reg.GLB_MODE_STATUS] s t ∧ t.glb = s.glb ∧ t.later = s.later) ∧
    (s.mayRequest path 1 = true → s.glb.tripTick = some s.tick → Completes (.reqLoad path 0xA5) s fun t => t.mode = s.mode ∧
      t.fld Fld.GLB_MODE_STATUS_LAST_REQ = 1 ∧ t.fld Fld.GLB_MODE_STATUS_LAST_RUN = 0 ∧ t.fld Fld.GLB_MODE_STATUS_REQ_RESULT = 6 ∧
      OnlyRegs [Reg.GLB_MODE_STATUS] s t ∧ t.glb = s.glb ∧ t.later = s.later) ∧
    (s.mayRequest path 2 = true → s.glb.tripTick = some s.tick → Completes (.reqCalibrate path 0xA5) s fun t => t.mode = s.mode ∧
      t.fld Fld.GLB_MODE_STATUS_LAST_REQ = 2 ∧ t.fld Fld.GLB_MODE_STATUS_LAST_RUN = 0 ∧ t.fld Fld.GLB_MODE_STATUS_REQ_RESULT = 6 ∧
      OnlyRegs [Reg.GLB_MODE_STATUS] s t ∧ t.glb = s.glb ∧ t.later = s.later) ∧
    (s.mayRequest path 3 = true → s.glb.tripTick = some s.tick → Completes (.reqArm path 0xA5) s fun t => t.mode = s.mode ∧
      t.fld Fld.GLB_MODE_STATUS_LAST_REQ = 3 ∧ t.fld Fld.GLB_MODE_STATUS_LAST_RUN = 0 ∧ t.fld Fld.GLB_MODE_STATUS_REQ_RESULT = 6 ∧
      OnlyRegs [Reg.GLB_MODE_STATUS] s t ∧ t.glb = s.glb ∧ t.later = s.later) ∧
    (s.mayRequest path 4 = true → s.glb.tripTick = some s.tick → Completes (.reqStop path 0xA5) s fun t => t.mode = s.mode ∧
      t.fld Fld.GLB_MODE_STATUS_LAST_REQ = 4 ∧ t.fld Fld.GLB_MODE_STATUS_LAST_RUN = 0 ∧ t.fld Fld.GLB_MODE_STATUS_REQ_RESULT = 6 ∧
      OnlyRegs [Reg.GLB_MODE_STATUS] s t ∧ t.glb = s.glb ∧ t.later = s.later) ∧
    (s.mayRequest path 5 = true → s.glb.tripTick = some s.tick → Completes (.reqDormant path 0xA5) s fun t => t.mode = s.mode ∧
      t.fld Fld.GLB_MODE_STATUS_LAST_REQ = 5 ∧ t.fld Fld.GLB_MODE_STATUS_LAST_RUN = 0 ∧ t.fld Fld.GLB_MODE_STATUS_REQ_RESULT = 6 ∧
      OnlyRegs [Reg.GLB_MODE_STATUS] s t ∧ t.glb = s.glb ∧ t.later = s.later) ∧
    (s.mayRequest path 6 = true → s.glb.tripTick = some s.tick → Completes (.reqUnload path 0xA5) s fun t => t.mode = s.mode ∧
      t.fld Fld.GLB_MODE_STATUS_LAST_REQ = 6 ∧ t.fld Fld.GLB_MODE_STATUS_LAST_RUN = 0 ∧ t.fld Fld.GLB_MODE_STATUS_REQ_RESULT = 6 ∧
      OnlyRegs [Reg.GLB_MODE_STATUS] s t ∧ t.glb = s.glb ∧ t.later = s.later) ∧
    (s.mayRequest path 7 = true → s.glb.tripTick = some s.tick → Completes (.reqClearSafe path 0xA5) s fun t => t.mode = s.mode ∧
      t.fld Fld.GLB_MODE_STATUS_LAST_REQ = 7 ∧ t.fld Fld.GLB_MODE_STATUS_LAST_RUN = 0 ∧ t.fld Fld.GLB_MODE_STATUS_REQ_RESULT = 6 ∧
      OnlyRegs [Reg.GLB_MODE_STATUS] s t ∧ t.glb = s.glb ∧ t.later = s.later) ∧
    (s.mayRequest path req.val = true → s.glb.tripTick = some s.tick → Completes (.run path req 0xA5) s fun t => t.mode = s.mode ∧
      t.fld Fld.GLB_MODE_STATUS_LAST_REQ = req ∧ t.fld Fld.GLB_MODE_STATUS_LAST_RUN = 1 ∧ t.fld Fld.GLB_MODE_STATUS_REQ_RESULT = 6 ∧
      OnlyRegs [Reg.GLB_MODE_STATUS] s t ∧ t.glb = s.glb ∧ t.later = s.later) ∧
    (s.mayRequest path 0 = true → s.glb.tripTick ≠ some s.tick → s.modeBusy = true → Completes (.reqNone path 0xA5) s fun t =>
      t.mode = s.mode ∧ t.fld Fld.GLB_MODE_STATUS_LAST_REQ = 0 ∧ t.fld Fld.GLB_MODE_STATUS_LAST_RUN = 0 ∧
      t.fld Fld.GLB_MODE_STATUS_REQ_RESULT = 4 ∧ OnlyRegs [Reg.GLB_MODE_STATUS] s t ∧ t.glb = s.glb ∧ t.later = s.later) ∧
    (s.mayRequest path 1 = true → s.glb.tripTick ≠ some s.tick → s.modeBusy = true → Completes (.reqLoad path 0xA5) s fun t =>
      t.mode = s.mode ∧ t.fld Fld.GLB_MODE_STATUS_LAST_REQ = 1 ∧ t.fld Fld.GLB_MODE_STATUS_LAST_RUN = 0 ∧
      t.fld Fld.GLB_MODE_STATUS_REQ_RESULT = 4 ∧ OnlyRegs [Reg.GLB_MODE_STATUS] s t ∧ t.glb = s.glb ∧ t.later = s.later) ∧
    (s.mayRequest path 2 = true → s.glb.tripTick ≠ some s.tick → s.modeBusy = true → Completes (.reqCalibrate path 0xA5) s fun t =>
      t.mode = s.mode ∧ t.fld Fld.GLB_MODE_STATUS_LAST_REQ = 2 ∧ t.fld Fld.GLB_MODE_STATUS_LAST_RUN = 0 ∧
      t.fld Fld.GLB_MODE_STATUS_REQ_RESULT = 4 ∧ OnlyRegs [Reg.GLB_MODE_STATUS] s t ∧ t.glb = s.glb ∧ t.later = s.later) ∧
    (s.mayRequest path 3 = true → s.glb.tripTick ≠ some s.tick → s.modeBusy = true → Completes (.reqArm path 0xA5) s fun t =>
      t.mode = s.mode ∧ t.fld Fld.GLB_MODE_STATUS_LAST_REQ = 3 ∧ t.fld Fld.GLB_MODE_STATUS_LAST_RUN = 0 ∧
      t.fld Fld.GLB_MODE_STATUS_REQ_RESULT = 4 ∧ OnlyRegs [Reg.GLB_MODE_STATUS] s t ∧ t.glb = s.glb ∧ t.later = s.later) ∧
    (s.mayRequest path 4 = true → s.glb.tripTick ≠ some s.tick → s.modeBusy = true → Completes (.reqStop path 0xA5) s fun t =>
      t.mode = s.mode ∧ t.fld Fld.GLB_MODE_STATUS_LAST_REQ = 4 ∧ t.fld Fld.GLB_MODE_STATUS_LAST_RUN = 0 ∧
      t.fld Fld.GLB_MODE_STATUS_REQ_RESULT = 4 ∧ OnlyRegs [Reg.GLB_MODE_STATUS] s t ∧ t.glb = s.glb ∧ t.later = s.later) ∧
    (s.mayRequest path 5 = true → s.glb.tripTick ≠ some s.tick → s.modeBusy = true → Completes (.reqDormant path 0xA5) s fun t =>
      t.mode = s.mode ∧ t.fld Fld.GLB_MODE_STATUS_LAST_REQ = 5 ∧ t.fld Fld.GLB_MODE_STATUS_LAST_RUN = 0 ∧
      t.fld Fld.GLB_MODE_STATUS_REQ_RESULT = 4 ∧ OnlyRegs [Reg.GLB_MODE_STATUS] s t ∧ t.glb = s.glb ∧ t.later = s.later) ∧
    (s.mayRequest path 6 = true → s.glb.tripTick ≠ some s.tick → s.modeBusy = true → Completes (.reqUnload path 0xA5) s fun t =>
      t.mode = s.mode ∧ t.fld Fld.GLB_MODE_STATUS_LAST_REQ = 6 ∧ t.fld Fld.GLB_MODE_STATUS_LAST_RUN = 0 ∧
      t.fld Fld.GLB_MODE_STATUS_REQ_RESULT = 4 ∧ OnlyRegs [Reg.GLB_MODE_STATUS] s t ∧ t.glb = s.glb ∧ t.later = s.later) ∧
    (s.mayRequest path 7 = true → s.glb.tripTick ≠ some s.tick → s.modeBusy = true → Completes (.reqClearSafe path 0xA5) s fun t =>
      t.mode = s.mode ∧ t.fld Fld.GLB_MODE_STATUS_LAST_REQ = 7 ∧ t.fld Fld.GLB_MODE_STATUS_LAST_RUN = 0 ∧
      t.fld Fld.GLB_MODE_STATUS_REQ_RESULT = 4 ∧ OnlyRegs [Reg.GLB_MODE_STATUS] s t ∧ t.glb = s.glb ∧ t.later = s.later) ∧
    (s.mayRequest path req.val = true → s.glb.tripTick ≠ some s.tick → s.modeBusy = true → Completes (.run path req 0xA5) s fun t =>
      t.mode = s.mode ∧ t.fld Fld.GLB_MODE_STATUS_LAST_REQ = req ∧ t.fld Fld.GLB_MODE_STATUS_LAST_RUN = 1 ∧
      t.fld Fld.GLB_MODE_STATUS_REQ_RESULT = 4 ∧ OnlyRegs [Reg.GLB_MODE_STATUS] s t ∧ t.glb = s.glb ∧ t.later = s.later) ∧
    (s.mayRequest path (8 + code.val) = true → s.glb.tripTick = some s.tick → Completes (.reqReserved path code 0xA5) s fun t =>
      t.mode = s.mode ∧ t.fld Fld.GLB_MODE_STATUS_LAST_REQ = 8 + code.val ∧ t.fld Fld.GLB_MODE_STATUS_LAST_RUN = 0 ∧
      t.fld Fld.GLB_MODE_STATUS_REQ_RESULT = 6 ∧ OnlyRegs [Reg.GLB_MODE_STATUS] s t ∧ t.glb = s.glb ∧ t.later = s.later) ∧
    (s.mayRequest path (8 + code.val) = true → s.glb.tripTick ≠ some s.tick → s.modeBusy = true →
      Completes (.reqReserved path code 0xA5) s fun t => t.mode = s.mode ∧ t.fld Fld.GLB_MODE_STATUS_LAST_REQ = 8 + code.val ∧
      t.fld Fld.GLB_MODE_STATUS_LAST_RUN = 0 ∧ t.fld Fld.GLB_MODE_STATUS_REQ_RESULT = 4 ∧ OnlyRegs [Reg.GLB_MODE_STATUS] s t ∧
      t.glb = s.glb ∧ t.later = s.later) ∧
    (s.mayRequest path (8 + code.val) = true → s.glb.tripTick ≠ some s.tick → s.modeBusy = false →
      Completes (.reqReserved path code 0xA5) s fun t => t.mode = s.mode ∧ t.fld Fld.GLB_MODE_STATUS_LAST_REQ = 8 + code.val ∧
      t.fld Fld.GLB_MODE_STATUS_LAST_RUN = 0 ∧ t.fld Fld.GLB_MODE_STATUS_REQ_RESULT = 3 ∧ OnlyRegs [Reg.GLB_MODE_STATUS] s t ∧
      t.glb = s.glb ∧ t.later = s.later) ∧
    (s.mayRequest path req.val = true → s.glb.tripTick ≠ some s.tick → s.modeBusy = false → req ≠ 0 ∨ s.mode ≠ 4 →
      Completes (.run path req 0xA5) s fun t => t.mode = s.mode ∧ t.fld Fld.GLB_MODE_STATUS_LAST_REQ = req ∧
      t.fld Fld.GLB_MODE_STATUS_LAST_RUN = 1 ∧ t.fld Fld.GLB_MODE_STATUS_REQ_RESULT = 3 ∧ OnlyRegs [Reg.GLB_MODE_STATUS] s t ∧
      t.glb = s.glb ∧ t.later = s.later) ∧
    (s.mayRequest path 1 = true → s.glb.tripTick ≠ some s.tick → s.modeBusy = false → s.mode ≠ 0 ∨ s.sec.lcs = 3 →
      Completes (.reqLoad path 0xA5) s fun t => t.mode = s.mode ∧ t.fld Fld.GLB_MODE_STATUS_LAST_REQ = 1 ∧
      t.fld Fld.GLB_MODE_STATUS_LAST_RUN = 0 ∧ t.fld Fld.GLB_MODE_STATUS_REQ_RESULT = 3 ∧ OnlyRegs [Reg.GLB_MODE_STATUS] s t ∧
      t.glb = s.glb ∧ t.later = s.later) ∧
    (s.mayRequest path 2 = true → s.glb.tripTick ≠ some s.tick → s.modeBusy = false → (s.mode ≠ 2 ∧ s.mode ≠ 4) →
      Completes (.reqCalibrate path 0xA5) s fun t => t.mode = s.mode ∧ t.fld Fld.GLB_MODE_STATUS_LAST_REQ = 2 ∧
      t.fld Fld.GLB_MODE_STATUS_LAST_RUN = 0 ∧ t.fld Fld.GLB_MODE_STATUS_REQ_RESULT = 3 ∧ OnlyRegs [Reg.GLB_MODE_STATUS] s t ∧
      t.glb = s.glb ∧ t.later = s.later) ∧
    (s.mayRequest path 3 = true → s.glb.tripTick ≠ some s.tick → s.modeBusy = false → (s.mode ≠ 2 ∧ s.mode ≠ 3) →
      Completes (.reqArm path 0xA5) s fun t => t.mode = s.mode ∧ t.fld Fld.GLB_MODE_STATUS_LAST_REQ = 3 ∧
      t.fld Fld.GLB_MODE_STATUS_LAST_RUN = 0 ∧ t.fld Fld.GLB_MODE_STATUS_REQ_RESULT = 3 ∧ OnlyRegs [Reg.GLB_MODE_STATUS] s t ∧
      t.glb = s.glb ∧ t.later = s.later) ∧
    (s.mayRequest path 4 = true → s.glb.tripTick ≠ some s.tick → s.modeBusy = false → s.mode < 5 ∨ s.mode = 7 →
      Completes (.reqStop path 0xA5) s fun t => t.mode = s.mode ∧ t.fld Fld.GLB_MODE_STATUS_LAST_REQ = 4 ∧
      t.fld Fld.GLB_MODE_STATUS_LAST_RUN = 0 ∧ t.fld Fld.GLB_MODE_STATUS_REQ_RESULT = 3 ∧ OnlyRegs [Reg.GLB_MODE_STATUS] s t ∧
      t.glb = s.glb ∧ t.later = s.later) ∧
    (s.mayRequest path 5 = true → s.glb.tripTick ≠ some s.tick → s.modeBusy = false → (s.mode ≠ 3 ∧ s.mode ≠ 4) →
      Completes (.reqDormant path 0xA5) s fun t => t.mode = s.mode ∧ t.fld Fld.GLB_MODE_STATUS_LAST_REQ = 5 ∧
      t.fld Fld.GLB_MODE_STATUS_LAST_RUN = 0 ∧ t.fld Fld.GLB_MODE_STATUS_REQ_RESULT = 3 ∧ OnlyRegs [Reg.GLB_MODE_STATUS] s t ∧
      t.glb = s.glb ∧ t.later = s.later) ∧
    (s.mayRequest path 6 = true → s.glb.tripTick ≠ some s.tick → s.modeBusy = false → s.mode = 0 ∨ 4 < s.mode →
      Completes (.reqUnload path 0xA5) s fun t => t.mode = s.mode ∧ t.fld Fld.GLB_MODE_STATUS_LAST_REQ = 6 ∧
      t.fld Fld.GLB_MODE_STATUS_LAST_RUN = 0 ∧ t.fld Fld.GLB_MODE_STATUS_REQ_RESULT = 3 ∧ OnlyRegs [Reg.GLB_MODE_STATUS] s t ∧
      t.glb = s.glb ∧ t.later = s.later) ∧
    (s.mayRequest path 7 = true → s.glb.tripTick ≠ some s.tick → s.modeBusy = false → s.mode ≠ 7 →
      Completes (.reqClearSafe path 0xA5) s fun t => t.mode = s.mode ∧ t.fld Fld.GLB_MODE_STATUS_LAST_REQ = 7 ∧
      t.fld Fld.GLB_MODE_STATUS_LAST_RUN = 0 ∧ t.fld Fld.GLB_MODE_STATUS_REQ_RESULT = 3 ∧ OnlyRegs [Reg.GLB_MODE_STATUS] s t ∧
      t.glb = s.glb ∧ t.later = s.later)

/-- What a transition in progress ends in: the check (R426, R427), the clearing of R39, a restoration (R498), calibration
(R36, R519), an accepted ARM (R35), the change between M4, M5 and M6 (R536), a stop (R42), a bias ramp (R170) and the end of the
holdover policy (R77). -/
def Obligations.TransitionsComplete : Prop :=
  ∀ (s : State), s.Wf →
    (s.glb.checkOn = true → s.mode = 4 → s.reelLock = true → s.glb.checkFound = none → Completes .checkEnd s fun t => t.mode = 4 ∧
      t.glb.checkOn = false ∧ t.fld Fld.GLB_CHECK_STATUS_DONE = 1 ∧ t.fld Fld.GLB_MODE_STATUS_REQ_RESULT = 2 ∧
      (s.tick + 1, Deferred.runStart) ∈ t.later) ∧
    (∀ (code obj n : Nat), s.glb.checkOn = true → s.mode = 4 → s.reelLock = true → s.glb.checkFound = some ((code, obj), n) →
      code < 2 ^ 16 → Completes .checkEnd s fun t => t.mode = 4 ∧ t.glb.checkOn = false ∧ t.fld Fld.GLB_CHECK_STATUS_DONE = 1 ∧
      t.fld Fld.GLB_CHECK_STATUS_CODE = code ∧ t.fld Fld.GLB_CHECK_STATUS_COUNT = min 255 n ∧
      t.rd Reg.GLB_CHECK_OBJECT = BitVec.ofNat 32 obj ∧ t.fld Fld.GLB_MODE_STATUS_REQ_RESULT = 5 ∧ t.later = s.later) ∧
    (s.glb.clearing = true → Completes .configClearDone s fun t => t.mode = 0 ∧ t.sram = [] ∧ t.dram = [] ∧
      t.fld Fld.GLB_MODE_STATUS_CFG_VALID = 0 ∧ (∀ off, nameable off = true → t.rd off = regReset off)) ∧
    (∀ (req : Nat), s.glb.restoring = some req → Completes .dormantRestoreDone s fun t => t.mode = 3 ∧
      t.fld Fld.GLB_MODE_STATUS_ARM_PENDING = (if req = 3 then 1 else 0) ∧ t.glb.restoring = none) ∧
    (s.mode = 3 → s.glb.calOn = false → s.bit Fld.GLB_MODE_STATUS_CAL_DONE = false → s.pllLock = true →
      ((if s.role = 2 then s.bit Fld.CSC_STATUS_SYNC_ALIGNED else s.bit Fld.GLB_CLK_STATUS_SYNC_DONE) = true) →
      Completes .calibrationStart s fun t => t.glb.calOn = true ∧ t.modeBusy = true ∧ t.regs = s.regs) ∧
    (s.glb.calOn = true → s.fld Fld.GLB_MODE_STATUS_REQ_RESULT = 1 → s.bit Fld.GLB_MODE_STATUS_ARM_PENDING = false →
      Completes .calibrationDone s fun t => t.fld Fld.GLB_MODE_STATUS_CAL_DONE = 1 ∧ t.glb.calOn = false ∧ t.mode = s.mode ∧
      t.fld Fld.GLB_MODE_STATUS_REQ_RESULT = 2) ∧
    (s.mode = 3 → s.bit Fld.GLB_MODE_STATUS_ARM_PENDING = true → s.bit Fld.GLB_MODE_STATUS_CAL_DONE = true → s.reelLock = true →
      s.fld Fld.GLB_MODE_STATUS_REQ_RESULT = 1 → Completes .armComplete s fun t => t.mode = 4 ∧
      t.fld Fld.GLB_MODE_STATUS_ARM_PENDING = 0 ∧ t.fld Fld.GLB_MODE_STATUS_REQ_RESULT = 2) ∧
    (s.mode = 4 ∨ s.mode = 5 → s.glb.lock2 = true → s.glb.lock1 = false → Completes .m6Entry s fun t => t.mode = 6 ∧
      t.fld Fld.GLB_MODE_STATUS_HOLD_FROM_RUN = (if s.mode = 5 then 1 else 0)) ∧
    (s.mode = 6 → s.glb.lock2 = false → s.glb.lock1 = true → Completes .m6Exit s fun t =>
      t.mode = (if s.bit Fld.GLB_MODE_STATUS_HOLD_FROM_RUN = true ∧ s.glb.m6Stopped = false then 5 else 4)) ∧
    (∀ (n : Nat), s.glb.stopTick = some n → n < s.tick → s.atRest = true → s.mode = 5 → Completes .stopComplete s fun t =>
      t.mode = 4 ∧ t.fld Fld.GLB_MODE_STATUS_HOLD_FROM_RUN = 0 ∧ t.glb.stopTick = none) ∧
    (∀ (n : Nat), s.glb.stopTick = some n → n + 5000 ≤ s.tick → s.mode = 5 → Completes .stopTimeout s fun t => t.mode = 4 ∧
      t.fld Fld.GLB_MODE_STATUS_HOLD_FROM_RUN = 0 ∧ t.glb.stopTick = none) ∧
    (∀ (req m : Nat), s.glb.rampTo = some (req, m) → s.biasOn = false → s.glb.bias1 = false → s.glb.bias2 = true → (1 ≤ m ∧ m < 8) →
      Completes .biasRampTransition s fun t => t.mode = m ∧ t.fld Fld.GLB_MODE_STATUS_PREV_MODE = s.mode) ∧
    (s.mode = 6 → s.tln.expired = false → s.fld Fld.TLN_HOLD_POLICY_POLICY = 1 → s.fld Fld.TLN_HOLD_POLICY_MAX ≠ 0 → s.reelState = 3 →
      s.tln.holdTick + 500000 * s.fld Fld.TLN_HOLD_POLICY_MAX ≤ s.tick → Completes .holdExpired s fun t =>
      t.fld Fld.TLN_EVENT_HOLD_EXPIRED = 1 ∧ t.tln.expired = true ∧ (s.spindlesRun = true ∧ s.glb.stopTick = none →
      t.glb.stopTick = some s.tick ∧ t.glb.stopping = true) ∧ (s.spindlesRun = false → t.glb.stopTick = s.glb.stopTick))

/-- The sample clock (R21, R22, R24, R25, R538, R539): SYNC at the host's request in M2, M3 and M7 and its refusal in every other
mode and by a slave (the tick it aligns to is log entry 79's), a change of the reference, its loss and return, loss of lock and
lock. -/
def Obligations.SampleClock : Prop :=
  ∀ (s : State), s.Wf →
    (∀ (path : Path) (v : Word), s.accepts path Reg.GLB_CLK_CTL = true → s.mode = 2 ∨ s.mode = 3 ∨ s.mode = 7 → s.role ≠ 2 →
      fieldGet v Fld.GLB_CLK_CTL_REF_SRC = s.fld Fld.GLB_CLK_CTL_REF_SRC → Completes (.syncWrite path v) s fun t =>
      t.fld Fld.GLB_CLK_STATUS_SYNC_DONE = 1 ∧ t.fld Fld.GLB_MODE_STATUS_CAL_DONE = 0 ∧ t.glb.syncTick = s.alignTick s.tick) ∧
    (∀ (path : Path) (v : Word), s.accepts path Reg.GLB_CLK_CTL = true → ((s.mode ≠ 2 ∧ s.mode ≠ 3 ∧ s.mode ≠ 7) ∨ s.role = 2) →
      fieldGet v Fld.GLB_CLK_CTL_REF_SRC = s.fld Fld.GLB_CLK_CTL_REF_SRC → Completes (.syncWrite path v) s fun t =>
      t.fld Fld.GLB_CLK_STATUS_SYNC_REFUSED = 1 ∧ t.fld Fld.GLB_CLK_STATUS_SYNC_DONE = s.fld Fld.GLB_CLK_STATUS_SYNC_DONE) ∧
    (∀ (path : Path) (v : Word), s.accepts path Reg.GLB_CLK_CTL = true → s.rwlLocked = false → fieldGet v Fld.GLB_CLK_CTL_SYNC = 0 →
      fieldGet v Fld.GLB_CLK_CTL_REF_SRC ≠ s.fld Fld.GLB_CLK_CTL_REF_SRC → 4 ≤ fieldGet v Fld.GLB_CLK_CTL_REF_SRC → s.pllOff = false →
      Completes (.refSrcWrite path v) s fun t => t.fld Fld.GLB_CLK_CTL_REF_SRC = fieldGet v Fld.GLB_CLK_CTL_REF_SRC ∧
      t.fld Fld.GLB_CLK_STATUS_PLL_LOCK = 0 ∧ t.fld Fld.GLB_MODE_STATUS_CAL_DONE = 0 ∧ t.glb.relock = true ∧ t.glb.syncDue = true) ∧
    (∀ (path : Path) (v : Word), s.accepts path Reg.GLB_CLK_CTL = true → fieldGet v Fld.GLB_CLK_CTL_SYNC = 0 →
      (1 ≤ fieldGet v Fld.GLB_CLK_CTL_REF_SRC ∧ fieldGet v Fld.GLB_CLK_CTL_REF_SRC ≤ 3) → s.fld Fld.GLB_CLK_CTL_REF_SRC = 0 →
      Completes (.refSrcWrite path v) s fun t => t.fld Fld.GLB_CLK_CTL_REF_SRC = 0 ∧ t.fld Fld.HIF_EVENT_WR_REFUSED = 1) ∧
    (s.glb.syncDue = true → s.pllLock = true → s.role ≠ 2 → Completes .syncAuto s fun t => t.fld Fld.GLB_CLK_STATUS_SYNC_DONE = 1 ∧
      t.fld Fld.GLB_MODE_STATUS_CAL_DONE = 0 ∧ t.glb.syncDue = false) ∧
    (∀ (src : Fin 8), s.fld Fld.GLB_CLK_CTL_REF_SRC = src → s.pllLock = true → src.val ∈ s.glb.refs →
      Completes (.refLoss src) s fun t => t.fld Fld.GLB_CLK_STATUS_TUNE_FROZEN = 1 ∧ t.fld Fld.GLB_CLK_STATUS_REF_LOSS = 1 ∧
      t.fld Fld.GLB_CLK_STATUS_PLL_LOCK = 1 ∧ t.fld Fld.GLB_CLK_STATUS_REF_PRESENT = 0) ∧
    (∀ (src : Fin 8), s.fld Fld.GLB_CLK_CTL_REF_SRC = src → Completes (.refReturn src) s fun t =>
      t.fld Fld.GLB_CLK_STATUS_REF_PRESENT = 1 ∧ src.val ∈ t.glb.refs) ∧
    (s.pllLock = true → Completes .pllUnlock s fun t => t.fld Fld.GLB_CLK_STATUS_PLL_LOCK = 0 ∧
      t.fld Fld.GLB_CLK_STATUS_PLL_UNLOCK = 1 ∧ t.fld Fld.GLB_CLK_STATUS_SYNC_DONE = 0 ∧ t.reelValid = false) ∧
    (s.pllOff = false → s.refPresent = true → s.pllLock = false → Completes .pllLock s fun t =>
      t.fld Fld.GLB_CLK_STATUS_PLL_LOCK = 1 ∧ t.glb.relock = false)

/-- In every tick in which the reel runs it gains 2 ns and ADJ (R52), and so it never goes backward (R57); a stopped reel holds
its value (R55). The hypothesis leaves out ticks in which a deferred effect is due. -/
def Obligations.ReelAdvances : Prop :=
  ∀ (s : State), s.Wf →
    ((∀ p ∈ s.later, s.tick + 1 < p.1) → Completes .reelAdvance s fun t => t.tick = s.tick + 1 ∧ t.later = s.later ∧ t.evSet = [] ∧
      t.wrOne = [] ∧ (s.reelRuns = true → s.tln.reel + 2 ^ 34 < 2 ^ 96 → (t.tln.reel : Int) = s.tln.reel + 2 ^ 33 + s.adj ∧
      s.tln.reel < t.tln.reel) ∧ (s.reelRuns = false → t.tln.reel = s.tln.reel))

/-- The PTP ports (R62 to R65, R83): what each message of the selected time transmitter leaves in its port, the Delay_Req that the
port sends in its interval, the mean path delay and the qualification of a complete exchange, the selected time transmitter, and
the loss of a port. The Delay_Req's octets are the family's (log entry 128). -/
def Obligations.PtpPorts : Prop :=
  ∀ (s : State) (p : Fin 2) (m : PtpMsg) (cyc : Fin 32), s.Wf → s.ptpOn p = true →
    (∀ (t1 : Int), s.hears p m = true → (s.port p).selected = some m.sender → Completes (.ptpSyncRx p m true t1 cyc) s fun t =>
      (t.port p).syncT2 = some (s.ingress p cyc) ∧ (t.port p).lastSeq = some m.seq.toNat ∧ t.regs = s.regs) ∧
    (∀ (t1 d : Int), s.hears p m = true → (s.port p).selected = some m.sender → (s.port p).delay = some d → p.val ≠ s.primary →
      Completes (.ptpSyncRx p m false t1 cyc) s fun t =>
      t.rd (Reg.TLN_PTP_OFFSET p) = BitVec.ofNat 32 (twos 32 (satInt 32 (t1 + d - s.ingress p cyc))) ∧
      (t.port p).offset = t1 + d - s.ingress p cyc ∧ (t.port p).lastSync = some (t1, s.ingress p cyc)) ∧
    (∀ (t1 : Int) (two : Bool), s.hears p m = false → Completes (.ptpSyncRx p m two t1 cyc) s fun t =>
      t.fld (Fld.TLN_PTP_STATUS_RX_DROP p) = min 0xFFFF (s.fld (Fld.TLN_PTP_STATUS_RX_DROP p) + 1) ∧ t.tln = s.tln ∧
      OnlyRegs [Reg.TLN_PTP_STATUS p] s t) ∧
    (∀ (t1 : Int) (q : Nat), s.hears p m = true → (s.port p).selected = some m.sender → (s.port p).lastSeq = some q →
      (q + 1) % 2 ^ 16 ≠ m.seq.toNat → s.qualified p = false → Completes (.ptpSyncRx p m true t1 cyc) s fun t =>
      (t.port p).exchanges = 0 ∧ (t.port p).syncT2 = some (s.ingress p cyc)) ∧
    (∀ (t1 t2 : Int), s.hears p m = true → (s.port p).selected = some m.sender → (s.port p).syncT2 = some t2 →
      (s.port p).lastSeq = some m.seq.toNat → (s.port p).delay = none → Completes (.ptpFollowUpRx p m t1) s fun t =>
      (t.port p).lastSync = some (t1, t2) ∧ (t.port p).syncT2 = none) ∧
    (s.launchInWay p (s.delayReqFrame p).length = false → (s.port p).selected.isSome = true → (s.port p).dreqTick = none →
      Completes (.ptpDelayReqTx p cyc) s fun t => (t.port p).dreq = (s.port p).lastSync.map (fun sy => (s.egress p cyc, sy)) ∧
      (t.port p).dreqTick = some s.tick ∧ t.tln.ethOut = ⟨p.val, s.delayReqFrame p⟩ :: s.tln.ethOut ∧ OnlyRegs [] s t) ∧
    (∀ (n : Nat), s.launchInWay p (s.delayReqFrame p).length = false → (s.port p).selected.isSome = true →
      (s.port p).dreqTick = some n → n + s.dreqTicks p ≤ s.tick → (s.port p).dreq.isSome = true → s.qualified p = false →
      Completes (.ptpDelayReqTx p cyc) s fun t => (t.port p).dreq = (s.port p).lastSync.map (fun sy => (s.egress p cyc, sy)) ∧
      (t.port p).dreqTick = some s.tick ∧ t.tln.ethOut = ⟨p.val, s.delayReqFrame p⟩ :: s.tln.ethOut ∧ OnlyRegs [] s t ∧
      (t.port p).exchanges = 0) ∧
    (∀ (n : Nat), (s.port p).dreqTick = some n → s.tick < n + s.dreqTicks p → Completes (.ptpDelayReqTx p cyc) s fun t => t = s) ∧
    (∀ (t1 t2 t3 t4 : Int), s.hears p m = true → (s.port p).selected = some m.sender → (s.port p).dreq = some (t3, (t1, t2)) →
      (m.seq.toNat + 1) % 2 ^ 16 = (s.port p).dreqSeq → Completes (.ptpDelayRespRx p m t4) s fun t =>
      t.rd (Reg.TLN_PTP_DELAY p) = BitVec.ofNat 32 (twos 32 (roundOpen ((t2 - t1) + (t4 - t3)) 2)) ∧
      (t.port p).exchanges = (s.port p).exchanges + 1 ∧ (t.port p).dreq = none ∧
      t.fld (Fld.TLN_PTP_STATUS_QUALIFIED p) = (if 3 ≤ (s.port p).exchanges then 1 else s.fld (Fld.TLN_PTP_STATUS_QUALIFIED p))) ∧
    (∀ (a : Announce), s.hears p m = true → (s.port p).heard = [] → Completes (.ptpAnnounceRx p m a) s fun t =>
      (t.port p).heard = [a] ∧ (t.port p).selected = some a.sender) ∧
    (∀ (a : Announce) (n : Nat), s.hears p m = true → (s.port p).heard = [] → (s.port p).selected ≠ some a.sender →
      (s.port p).former = some n → n ≠ a.sender → Completes (.ptpAnnounceRx p m a) s fun t => t.fld Fld.TLN_EVENT_GM_CHANGE = 1 ∧
      (t.port p).selected = some a.sender ∧ (t.port p).lastSync = none ∧ (t.port p).dreq = none) ∧
    (Completes (.ptpRxDrop p) s fun t =>
      t.fld (Fld.TLN_PTP_STATUS_RX_DROP p) = min 0xFFFF (s.fld (Fld.TLN_PTP_STATUS_RX_DROP p) + 1) ∧
      OnlyRegs [Reg.TLN_PTP_STATUS p] s t) ∧
    (p.val ≠ s.primary → Completes (.ptpSyncTimeout p) s fun t => t.fld (Fld.TLN_PTP_STATUS_QUALIFIED p) = 0 ∧
      (t.port p).exchanges = 0 ∧ (t.port p).delay = none) ∧
    (p.val = s.primary → s.fld Fld.TLN_CTL_SRC = 1 → s.qualified (1 - p) = true → Completes (.ptpSyncTimeout p) s fun t =>
      t.fld (Fld.TLN_PTP_STATUS_QUALIFIED p) = 0 ∧ t.fld Fld.TLN_CTL_PTP_PRIMARY = 1 - p.val ∧ t.fld Fld.TLN_EVENT_PATH_LOSS = 1 ∧
      t.reelState = s.reelState ∧ (s.reelRuns = true → t.fld Fld.TLN_STATUS_SERVO_FROZEN = 1 ∧
      t.adj = clampInt (-s.slewMax) s.slewMax s.holdAdj)) ∧
    (p.val = s.primary → s.fld Fld.TLN_CTL_SRC = 1 → s.qualified (1 - p) = false → Completes (.ptpSyncTimeout p) s fun t =>
      t.fld (Fld.TLN_PTP_STATUS_QUALIFIED p) = 0 ∧ t.fld Fld.TLN_EVENT_SRC_LOSS = 1 ∧ t.fld Fld.TLN_STATUS_SRC_QUALIFIED = 0 ∧
      (s.reelState = 2 → t.reelState = 3)) ∧
    (p.val ≠ s.primary → Completes (.ptpAnnounceTimeout p) s fun t => t.fld (Fld.TLN_PTP_STATUS_QUALIFIED p) = 0 ∧
      ∀ a ∈ (t.port p).heard, some a.sender ≠ (s.port p).selected)

/-- A measurement of the EXT source in a standalone device (R67): an offset within the limit moves ADJ alone, by the servo's
products and clamps (R70, R71); one beyond it is refused, stored and counted, freezes the servo and ends LOCKED (R73, R75),
unless SLEW_OUT has lifted the refusal of an offset that near (R74; how near is log entry 126). A stored refusal is resolved by
SLEW_OUT or by STEP_FWD where no spindle runs, and a write without one is ignored (R74). -/
def Obligations.ServoAndRefusals : Prop :=
  ∀ (s : State), s.Wf →
    (∀ (e : Int) (periods sec : Nat) (pos : Fin 512), s.fld Fld.TLN_CTL_SRC = 2 → s.bit Fld.TLN_STATUS_SRC_QUALIFIED = true →
      s.tln.ppsSec = some sec → e = s.extOffset sec (100 * periods) pos → s.role = 0 → s.tln.asymOn = false → s.reelState = 2 →
      s.tln.slewOut = none → e.natAbs ≤ s.jumpLimit.natAbs → Completes (.extPhaseCompare periods pos) s fun t =>
      t.tln.integ = (clampInt (-(s.slewMax * 2 ^ 24)) (s.slewMax * 2 ^ 24) (s.tln.integ + (s.fld Fld.TLN_SERVO_KI_GAIN : Int) * e)) ∧
      t.tln.reel = s.tln.reel ∧ t.reelState = 2 ∧ t.fld Fld.TLN_STATUS_SERVO_FROZEN = 0 ∧ t.fld Fld.TLN_STATUS_REFUSAL_STORED = 0 ∧
      t.rd Reg.TLN_ADJ = BitVec.ofNat 32 (twos 32 (roundOpen (clampInt (-(s.slewMax * 2 ^ 24)) (s.slewMax * 2 ^ 24)
      ((s.fld Fld.TLN_SERVO_KP_GAIN : Int) * e * 2 ^ 8 + (clampInt (-(s.slewMax * 2 ^ 24)) (s.slewMax * 2 ^ 24)
      (s.tln.integ + (s.fld Fld.TLN_SERVO_KI_GAIN : Int) * e)))) (2 ^ 24)))) ∧
    (∀ (e : Int) (periods sec : Nat) (pos : Fin 512), s.fld Fld.TLN_CTL_SRC = 2 → s.bit Fld.TLN_STATUS_SRC_QUALIFIED = true →
      s.tln.ppsSec = some sec → e = s.extOffset sec (100 * periods) pos → s.role = 0 → s.tln.asymOn = false → s.reelState = 2 →
      s.tln.slewOut = none → s.jumpLimit.natAbs < e.natAbs → Completes (.extPhaseCompare periods pos) s fun t => t.reelState = 3 ∧
      t.fld (if e < 0 then Fld.TLN_EVENT_STEP_REF_BACK else Fld.TLN_EVENT_STEP_REF_FWD) = 1 ∧ t.fld Fld.TLN_EVENT_HOLD_ENTER = 1 ∧
      t.fld Fld.TLN_STATUS_REFUSAL_STORED = 1 ∧ t.fld Fld.TLN_STATUS_SERVO_FROZEN = 1 ∧
      t.adj = clampInt (-s.slewMax) s.slewMax s.holdAdj ∧ t.tln.refused = e ∧ t.rd64 Reg.TLN_REFUSED_LO = twos 64 (e.tdiv 256) ∧
      t.fld Fld.TLN_COUNT_REFUSED = min 255 (s.fld Fld.TLN_COUNT_REFUSED + 1) ∧ t.tln.reel = s.tln.reel) ∧
    (∀ (e : Int) (periods sec : Nat) (pos : Fin 512) (e0 : Int), s.fld Fld.TLN_CTL_SRC = 2 →
      s.bit Fld.TLN_STATUS_SRC_QUALIFIED = true → s.tln.ppsSec = some sec → e = s.extOffset sec (100 * periods) pos → s.role = 0 →
      s.tln.asymOn = false → s.reelState = 3 → s.jumpLimit.natAbs < e.natAbs → s.tln.slewOut = some e0 →
      (e - e0).natAbs ≤ s.jumpLimit.natAbs → Completes (.extPhaseCompare periods pos) s fun t =>
      t.tln.integ = (clampInt (-(s.slewMax * 2 ^ 24)) (s.slewMax * 2 ^ 24) (s.tln.integ + (s.fld Fld.TLN_SERVO_KI_GAIN : Int) * e)) ∧
      t.tln.slewOut = some e ∧ t.tln.reel = s.tln.reel ∧ t.fld Fld.TLN_STATUS_SERVO_FROZEN = 0 ∧
      t.fld Fld.TLN_STATUS_REFUSAL_STORED = s.fld Fld.TLN_STATUS_REFUSAL_STORED) ∧
    (∀ (path : Path), s.accepts path Reg.TLN_CMD = true → s.acceptActs = true → Completes (.acceptSlewOut path) s fun t =>
      t.fld Fld.TLN_STATUS_REFUSAL_STORED = 0 ∧ t.fld Fld.TLN_STATUS_SERVO_FROZEN = 0 ∧ t.tln.slewOut = some s.tln.refused ∧
      t.tln.reel = s.tln.reel ∧ OnlyRegs [Reg.TLN_STATUS] s t) ∧
    (∀ (path : Path), s.accepts path Reg.TLN_CMD = true → s.acceptActs = true → 0 < s.tln.refused → s.anySpindleRuns = false →
      s.tln.reel + (s.tln.refused * 2 ^ 24).toNat < 2 ^ 96 → Completes (.acceptStepFwd path) s fun t =>
      t.fld Fld.TLN_STATUS_REFUSAL_STORED = 0 ∧ (t.tln.reel : Int) = s.tln.reel + s.tln.refused * 2 ^ 24 ∧
      OnlyRegs [Reg.TLN_STATUS] s t) ∧
    (∀ (path : Path), s.accepts path Reg.TLN_CMD = true → s.acceptActs = false ∨ s.tln.refused ≤ 0 ∨ s.anySpindleRuns = true →
      Completes (.acceptStepFwd path) s fun t => t.tln = s.tln ∧ t.regs = s.regs) ∧
    (∀ (path : Path), s.accepts path Reg.TLN_CMD = true → s.acceptActs = false → Completes (.acceptSlewOut path) s fun t =>
      t.tln = s.tln ∧ t.regs = s.regs)

/-- The EXT source's pulses and time code (R66 to R69), and its loss (R68, R75). -/
def Obligations.ExtSource : Prop :=
  ∀ (s : State), s.Wf →
    (∀ (f : TimeCode) (n : Nat), timeCodeSeconds f = some n → Completes (.tcodeFrame f) s fun t => t.tln.tcode = some n ∧
      t.regs = s.regs) ∧
    (∀ (f : TimeCode), timeCodeSeconds f = none → Completes (.tcodeFrame f) s fun t => t.tln.tcode = none ∧
      t.fld Fld.TLN_EVENT_TCODE_ERR = 1) ∧
    (∀ (periods : Nat) (pos : Fin 512) (n : Nat), s.fld Fld.TLN_CTL_SRC = 2 → s.tln.ref10m = true →
      (9999999 ≤ periods ∧ periods ≤ 10000001) → s.tln.tcode = some n → s.reelState = 2 → Completes (.ppsEdge periods pos) s fun t =>
      t.fld Fld.TLN_STATUS_SRC_QUALIFIED = 1 ∧ t.tln.tcode = none ∧ t.tln.labelled = true ∧ t.tln.ppsSec = some n ∧
      t.tln.reel = s.tln.reel) ∧
    (∀ (periods : Nat) (pos : Fin 512) (n : Nat), s.fld Fld.TLN_CTL_SRC = 2 → s.tln.tcode = some n → s.reelRuns = true →
      s.bit Fld.TLN_UTC_OFFSET_NEXT_ARM = true →
      s.extOffset n 0 pos = -(((s.fld Fld.TLN_UTC_OFFSET_NEXT : Int) - s.fld Fld.TLN_UTC_OFFSET_CURRENT) * 256000000000) →
      Completes (.ppsEdge periods pos) s fun t => t.fld Fld.TLN_EVENT_LEAP_APPLIED = 1 ∧
      t.fld Fld.TLN_UTC_OFFSET_CURRENT = s.fld Fld.TLN_UTC_OFFSET_NEXT) ∧
    (∀ (periods : Nat) (pos : Fin 512), periods < 9999999 ∨ 10000001 < periods → Completes (.ppsEdge periods pos) s fun t =>
      t.tln.ppsPair = false ∧ t.fld Fld.TLN_STATUS_SRC_QUALIFIED = s.fld Fld.TLN_STATUS_SRC_QUALIFIED ∧ t.tln.reel = s.tln.reel) ∧
    (s.fld Fld.TLN_CTL_SRC = 2 → s.bit Fld.TLN_STATUS_SRC_QUALIFIED = true → s.reelState = 2 → Completes .ref10mLoss s fun t =>
      t.tln.ref10m = false ∧ t.fld Fld.TLN_STATUS_SRC_QUALIFIED = 0 ∧ t.tln.extOk = false ∧ t.fld Fld.TLN_EVENT_SRC_LOSS = 1 ∧
      t.reelState = 3 ∧ t.fld Fld.TLN_EVENT_HOLD_ENTER = 1 ∧ t.adj = clampInt (-s.slewMax) s.slewMax s.holdAdj) ∧
    (s.fld Fld.TLN_CTL_SRC = 2 → s.bit Fld.TLN_STATUS_SRC_QUALIFIED = true → s.reelState = 2 → Completes .ppsLoss s fun t =>
      t.tln.ppsPair = false ∧ t.tln.ppsSec = none ∧ t.fld Fld.TLN_STATUS_SRC_QUALIFIED = 0 ∧ t.tln.extOk = false ∧
      t.fld Fld.TLN_EVENT_SRC_LOSS = 1 ∧ t.reelState = 3 ∧ t.fld Fld.TLN_EVENT_HOLD_ENTER = 1 ∧
      t.adj = clampInt (-s.slewMax) s.slewMax s.holdAdj)

/-- Launch slots (R85, R86): arming, a slot armed too late, which falls in the next tick since the host's 1 stands in its own
(R9), the launch of a frame at its time on a port that is on, with preamble, SFD, padding and FCS, and a miss. The place of the
block boundary, 0 to 2.56 ns after the time, is free (log entry 1); the FCS is the family's (log entry 8). -/
def Obligations.LaunchSlots : Prop :=
  ∀ (s : State) (k : Fin 16), s.Wf →
    (∀ (path : Path) (v : Word), s.accepts path (Reg.TLN_LAUNCH_CFG k) = true → v.getLsbD 0 = true →
      s.bit (Fld.TLN_LAUNCH_CFG_ARM k) = false → s.tln.reel + 1000 * 2 ^ 32 ≤ s.rd64 (Reg.TLN_LAUNCH_T_LO k) * 2 ^ 32 →
      Completes (.launchArm path k v) s fun t => t.fld (Fld.TLN_LAUNCH_CFG_ARM k) = 1 ∧
      t.fld (Fld.TLN_LAUNCH_CFG_LEN k) = fieldGet v (Fld.TLN_LAUNCH_CFG_LEN k)) ∧
    (∀ (path : Path) (v : Word), s.accepts path (Reg.TLN_LAUNCH_CFG k) = true → v.getLsbD 0 = true →
      s.bit (Fld.TLN_LAUNCH_CFG_ARM k) = false → s.rd64 (Reg.TLN_LAUNCH_T_LO k) * 2 ^ 32 < s.tln.reel + 1000 * 2 ^ 32 →
      Completes (.launchArm path k v) s fun t => t.fld (Fld.TLN_LAUNCH_CFG_ARM k) = 1 ∧ t.fld (Fld.TLN_LAUNCH_CFG_MISSED k) = 1 ∧
      t.fld Fld.TLN_EVENT_LAUNCH_MISSED = 1 ∧ k.val ∈ t.tln.tooLate ∧ (s.tick + 1, Deferred.disarm k) ∈ t.later) ∧
    (s.bit (Fld.TLN_LAUNCH_CFG_ARM k) = true → s.reelRuns = true → s.ethOn = true → s.inTick (s.rd64 (Reg.TLN_LAUNCH_T_LO k)) = true →
      k.val ∉ s.tln.deferred → k.val ∉ s.tln.tooLate →
      (sget (fun _ => 0) s.tln.portFree (s.fld (Fld.TLN_LAUNCH_CFG_PORT k)) + 96 ≤ s.rd64 (Reg.TLN_LAUNCH_T_LO k) * 25) →
      (∀ j : Fin 16, j.val < k.val → s.bit (Fld.TLN_LAUNCH_CFG_ARM j) = false) →
      (sget (fun _ => 0) s.wrOne (Reg.TLN_LAUNCH_CFG k) = 0) → Completes (.launch k) s fun t => t.fld (Fld.TLN_LAUNCH_CFG_ARM k) = 0 ∧
      t.fld Fld.TLN_EVENT_LAUNCH_DONE = 1 ∧ t.tln.ethOut = ⟨s.fld (Fld.TLN_LAUNCH_CFG_PORT k), s.launchFrame k⟩ :: s.tln.ethOut ∧
      ∃ n : Fin 65, t.rd64 (Reg.TLN_LAUNCH_ACT_LO k) = (s.rd64 (Reg.TLN_LAUNCH_T_LO k) * 25 + n.val) / 25 % 2 ^ 64) ∧
    (s.bit (Fld.TLN_LAUNCH_CFG_ARM k) = true → s.reelRuns = true → k.val ∉ s.tln.deferred → k.val ∉ s.tln.tooLate →
      s.rd64 (Reg.TLN_LAUNCH_T_LO k) * 2 ^ 32 < s.tln.reel → (sget (fun _ => 0) s.wrOne (Reg.TLN_LAUNCH_CFG k) = 0) →
      Completes (.launchMiss k) s fun t => t.fld (Fld.TLN_LAUNCH_CFG_ARM k) = 0 ∧ t.fld (Fld.TLN_LAUNCH_CFG_MISSED k) = 1 ∧
      t.fld Fld.TLN_EVENT_LAUNCH_MISSED = 1 ∧ t.tln.ethOut = s.tln.ethOut)

/-- A word that comes to issue on a running spindle (R90, R95, R96, R115): PC shows its address, ENT = 1 takes the checkpoint of
the registers as they stand and clears the committed state, a word whose condition is false only takes its tick, and the word
after it issues in the next tick. -/
def Obligations.WordsIssue : Prop :=
  ∀ (s : State) (n : Fin 64), s.Wf →
    (s.mayIssue n = true → decodeMicro (s.storeWord n (s.fetchAddr n)) = some ⟨0, 0, .nop⟩ → Completes (.opNop n) s fun t =>
      t.fld (Fld.SPN_STATUS_PC n) = s.fetchAddr n % 8192 ∧ t.goesOn n (s.following n) (s.tick + 1) = true ∧
      t.committed n = s.committed n ∧ (t.spindle n).chk = (s.spindle n).chk ∧ OnlyRegs [Reg.SPN_STATUS n, Reg.SPN_EVENT n] s t) ∧
    (s.mayIssue n = true → decodeMicro (s.storeWord n (s.fetchAddr n)) = some ⟨0, 1, .nop⟩ → Completes (.opNop n) s fun t =>
      t.committed n = false ∧ (t.spindle n).entry = s.fetchAddr n ∧ (t.spindle n).chk = some ⟨(List.range 31).map fun i =>
      s.g n (i + 1), (List.range 8).map fun j =>
      s.rd (Reg.SPN_LC n j), (s.spindle n).z, (s.spindle n).n, (s.spindle n).c, s.tb n, (s.spindle n).shadows⟩ ∧
      t.goesOn n (s.following n) (s.tick + 1) = true) ∧
    (∀ (d a b : BitVec 5) (fn : BitVec 4) (immEn : BitVec 1) (imm : Word) (cc : BitVec 4), s.mayIssue n = true →
      decodeMicro (s.storeWord n (s.fetchAddr n)) = some ⟨cc, 0, .alu d a b fn immEn imm⟩ → s.condition n cc = false →
      Completes (.opAlu n) s fun t => t.goesOn n (s.following n) (s.tick + 1) = true ∧ (t.spindle n).z = (s.spindle n).z ∧
      OnlyRegs [Reg.SPN_STATUS n, Reg.SPN_EVENT n] s t)

/-- Compute words (R99 to R101, R103, R91): the destination takes the result, g0 discards it, the flags follow the function, and
the next word issues in the next tick. -/
def Obligations.ComputeWords : Prop :=
  ∀ (s : State) (n : Fin 64), s.Wf →
    (∀ (k : BitVec 3) (src : BitVec 1) (a : BitVec 5) (count : BitVec 16), s.executes n (.ldlc k src a count) = true →
      Completes (.opLdlc n) s fun t =>
      t.rd (Reg.SPN_LC n k.toNat) = (if src = 0 then count.zeroExtend 32 else s.g n a.toNat &&& 0xFFFF) ∧
      t.goesOn n (s.following n) (s.tick + 1) = true ∧ OnlyRegs [Reg.SPN_LC n k.toNat, Reg.SPN_STATUS n, Reg.SPN_EVENT n] s t) ∧
    (∀ (d : BitVec 5) (ch : BitVec 8), s.executes n (.rddec d ch) = true → Completes (.opRddec n) s fun t =>
      t.g n d.toNat = (if d = 0 then 0 else if (s.dscCh ch.toNat).decided then s.rd (Reg.DSC_CH_LAST_DEC ch.toNat) else 0) ∧
      (t.spindle n).n = (s.spindle n).n ∧ (t.spindle n).c = (s.spindle n).c ∧ ((s.dscCh ch.toNat).decided = false →
      (t.spindle n).z = true) ∧ t.goesOn n (s.following n) (s.tick + 1) = true ∧
      OnlyRegs [Reg.SPN_G n d.toNat, Reg.SPN_STATUS n, Reg.SPN_EVENT n] s t) ∧
    (∀ (d : BitVec 5), s.executes n (.rdsin d) = true → Completes (.opRdsin n) s fun t =>
      t.g n d.toNat = (if d = 0 then 0 else s.rd (Reg.SPN_SIN n) &&& 0xFFFF) ∧ t.rd (Reg.SPN_SIN n) = s.rd (Reg.SPN_SIN n) ∧
      t.goesOn n (s.following n) (s.tick + 1) = true ∧ OnlyRegs [Reg.SPN_G n d.toNat, Reg.SPN_STATUS n, Reg.SPN_EVENT n] s t) ∧
    (∀ (kind : BitVec 2) (ch : BitVec 8) (setf setp addp src : BitVec 1) (a b : BitVec 5) (ftw : BitVec 48) (ph : BitVec 16),
      (s.shadow n (kind.toNat * 256 + ch.toNat)).ph < 65536 → s.executes n (.ncop kind ch setf setp addp src a b ftw ph) = true →
      Completes (.opNcop n) s fun t =>
      (t.shadow n (kind.toNat * 256 + ch.toNat)).ftw = (if setf = 0 then (s.shadow n (kind.toNat * 256 + ch.toNat)).ftw else if src =
      0 then ftw.toNat else s.gPair n a.toNat % 2 ^ 48) ∧
      (t.shadow n (kind.toNat * 256 + ch.toNat)).ph = ((if setp = 0 then (s.shadow n (kind.toNat * 256 + ch.toNat)).ph else if src = 0
      then ph.toNat else (s.g n b.toNat).toNat % 65536) + (if addp = 0 then 0 else if src = 0 then ph.toNat else (s.g n b.toNat).toNat
      % 65536)) % 65536 ∧ t.goesOn n (s.following n) (s.tick + 1) = true ∧ OnlyRegs [Reg.SPN_STATUS n, Reg.SPN_EVENT n] s t) ∧
    (∀ (mode : BitVec 2) (a : BitVec 5) (imm : BitVec 64), s.executes n (.settb mode a imm) = true → Completes (.opSettb n) s fun t =>
      t.tb n = (if mode = 0 then imm.toNat else if mode = 1 then (s.tb n + imm.toNat) % 2 ^ 64 else s.gPair n a.toNat) ∧
      t.goesOn n (s.following n) (s.tick + 1) = true ∧
      OnlyRegs [Reg.SPN_TB_LO n, Reg.SPN_TB_HI n, Reg.SPN_STATUS n, Reg.SPN_EVENT n] s t)

/-- Flow words and the ends of waits (R104 to R108, R130, R54). A wait's end sends the spindle on in the tick that the rules name.
-/
def Obligations.FlowWords : Prop :=
  ∀ (s : State) (n : Fin 64), s.Wf →
    (∀ (tgt : BitVec 13), s.executes n (.jmp tgt) = true → Completes (.opJmp n) s fun t => t.goesOn n tgt.toNat (s.tick + 1) = true ∧
      OnlyRegs [Reg.SPN_STATUS n, Reg.SPN_EVENT n] s t) ∧
    (∀ (sin : BitVec 4) (pol : BitVec 1) (tgt : BitVec 13), s.executes n (.brs sin pol tgt) = true → Completes (.opBrs n) s fun t =>
      t.goesOn n (if s.latch n sin.toNat = (pol == 1) then tgt.toNat else s.following n) (s.tick + 1) = true ∧
      OnlyRegs [Reg.SPN_STATUS n, Reg.SPN_EVENT n] s t) ∧
    (∀ (k : BitVec 3) (tgt : BitVec 13), s.executes n (.loop k tgt) = true → Completes (.opLoop n) s fun t =>
      (t.rd (Reg.SPN_LC n k.toNat)).toNat = (s.rd (Reg.SPN_LC n k.toNat)).toNat - 1 ∧
      t.goesOn n (if 2 ≤ (s.rd (Reg.SPN_LC n k.toNat)).toNat then tgt.toNat else s.following n) (s.tick + 1) = true ∧
      OnlyRegs [Reg.SPN_LC n k.toNat, Reg.SPN_STATUS n, Reg.SPN_EVENT n] s t) ∧
    (∀ (src : BitVec 1) (a : BitVec 5) (ticks : BitVec 24), s.executes n (.waitt src a ticks) = true →
      ((if src = 0 then ticks.toNat else (s.g n a.toNat).toNat % 2 ^ 24) ≤ 1) → Completes (.opWaitt n) s fun t =>
      t.goesOn n (s.following n) (s.tick + 1) = true ∧ OnlyRegs [Reg.SPN_STATUS n, Reg.SPN_EVENT n] s t) ∧
    (∀ (src : BitVec 1) (a : BitVec 5) (ticks : BitVec 24), s.executes n (.waitt src a ticks) = true →
      (2 ≤ (if src = 0 then ticks.toNat else (s.g n a.toNat).toNat % 2 ^ 24)) → Completes (.opWaitt n) s fun t =>
      (t.spindle n).wait = some (.ticks (s.tick + (if src = 0 then ticks.toNat else (s.g n a.toNat).toNat % 2 ^ 24))) ∧
      t.fld (Fld.SPN_STATUS_STATE n) = 2 ∧ OnlyRegs [Reg.SPN_STATUS n, Reg.SPN_EVENT n] s t) ∧
    (∀ (next : Nat), (s.spindle n).wait = some (.ticks next) → next ≤ s.tick → Completes (.waittDone n) s fun t =>
      t.goesOn n ((s.fld (Fld.SPN_STATUS_PC n) + 1) % 8192) s.tick = true ∧ OnlyRegs [Reg.SPN_STATUS n, Reg.SPN_EVENT n] s t) ∧
    (∀ (mode : BitVec 2) (a : BitVec 5) (T : BitVec 64) (x : Nat), s.executes n (.waitr mode a T) = true →
      (x = (if mode.toNat = 0 then T.toNat else if mode.toNat = 1 then s.gPair n a.toNat else if mode.toNat = 2 then
      (s.tb n + T.toNat) % 2 ^ 64 else (s.ca n + T.toNat) % 2 ^ 64)) → Completes (.opWaitr n) s fun t => (t.spindle n).autoT = x ∧
      (if x * 2 ^ 32 < s.reelAfter then t.goesOn n (s.following n) (s.tick + 1) = true ∧ t.fld (Fld.SPN_EVENT_LATE n) = 1 ∧
      t.fld (Fld.SPN_COUNT_LATE n) = min 255 (s.fld (Fld.SPN_COUNT_LATE n) + 1) else (t.spindle n).wait = some (.reel x) ∧
      t.fld (Fld.SPN_STATUS_STATE n) = 2) ∧ OnlyRegs [Reg.SPN_COUNT n, Reg.SPN_STATUS n, Reg.SPN_EVENT n] s t) ∧
    (∀ (x : Nat), (s.spindle n).wait = some (.reel x) → x * 2 ^ 32 < s.reelAfter → Completes (.waitrReached n) s fun t =>
      t.goesOn n ((s.fld (Fld.SPN_STATUS_PC n) + 1) % 8192) s.tick = true ∧ OnlyRegs [Reg.SPN_STATUS n, Reg.SPN_EVENT n] s t) ∧
    (∀ (mask : BitVec 16) (sel : BitVec 4) (clr : BitVec 1) (tgtSel tgtTo : BitVec 13) (timeout : BitVec 24), s.executes n
      (.wts mask sel clr tgtSel tgtTo timeout) = true → Completes (.opWts n) s fun t =>
      (t.spindle n).wait = some (.strand s.tick mask.toNat sel.toNat (clr == 1) tgtSel.toNat tgtTo.toNat timeout.toNat) ∧
      t.fld (Fld.SPN_STATUS_STATE n) = 2 ∧ OnlyRegs [Reg.SPN_STATUS n, Reg.SPN_EVENT n] s t) ∧
    (∀ (w mask sel tgtSel tgtTo timeout : Nat) (clr : Bool), (s.spindle n).wait = some (.strand w mask sel clr tgtSel tgtTo timeout) →
      s.found n mask ≠ [] → Completes (.wtsLatch n) s fun t =>
      t.goesOn n (if s.latch n sel then tgtSel % 8192 else (s.fld (Fld.SPN_STATUS_PC n) + 1) % 8192) (s.tick + 2) = true ∧
      (2 ≤ (s.selected n mask).length → t.fld (Fld.SPN_EVENT_COINCIDENT n) = 1) ∧
      (∀ i : Fin 16, t.latch n i = (s.latch n i && !(clr && bitOf mask i && !bitOf (sget (fun _ => 0) s.evSet (Reg.SPN_SIN n)).toNat
      i))) ∧ OnlyRegs [Reg.SPN_SIN n, Reg.SPN_STATUS n, Reg.SPN_EVENT n] s t) ∧
    (∀ (w mask sel tgtSel tgtTo timeout : Nat) (clr : Bool), (s.spindle n).wait = some (.strand w mask sel clr tgtSel tgtTo timeout) →
      timeout ≠ 0 → s.tick + 1 = w + timeout → s.found n mask = [] → Completes (.wtsTimeout n) s fun t =>
      t.goesOn n (tgtTo % 8192) (s.tick + 2) = true ∧ t.fld (Fld.SPN_EVENT_WTS_TIMEOUT n) = 1 ∧
      OnlyRegs [Reg.SPN_STATUS n, Reg.SPN_EVENT n] s t)

/-- Output words on targets, bias ports, markers and triggers (R102, R107, R110, R111, R132, R154, R168, R171 to R174, R183): a
pulse is ready for its target from the next tick on, with its segment, amplitude and sub-tick delay; an unchanged oscillator is
left alone, a changed preset is applied or, outside the port's band, the pulse is muted. -/
def Obligations.OutputWords : Prop :=
  ∀ (s : State) (n : Fin 64), s.Wf →
    (∀ (kind : BitVec 2) (ch : BitVec 8) (seg amp : BitVec 16) (ampsrc : BitVec 1) (a : BitVec 5) (auto : BitVec 1) (dly : BitVec 6),
      s.executes n (.pls kind ch seg amp ampsrc a auto dly) = true → Completes (.opPls n) s fun t =>
      (t.tgt (256 * kind.toNat + ch.toNat)).start.map (fun p => (p.tick, p.seg, p.amp, p.dly, p.spn)) = some (s.tick + 1, seg.toNat,
      (if ampsrc = 1 then (s.g n a.toNat).toNat % 65536 else amp.toNat), (if auto = 1 then s.subTick ((s.spindle n).autoT * 2 ^ 32)
      else dly.toNat), n.val) ∧ (kind = 0 → t.pwr.pulses = s.pwr.pulses + 1) ∧ t.goesOn n (s.following n) (s.tick + 1) = true) ∧
    (∀ (kind : BitVec 2) (ch : BitVec 8) (seg amp : BitVec 16) (ampsrc : BitVec 1) (a : BitVec 5) (auto : BitVec 1) (dly : BitVec 6)
      (t0 p : Nat), s.executes n (.pls kind ch seg amp ampsrc a auto dly) = true → t0 = 256 * kind.toNat + ch.toNat → t0 < 512 →
      (s.shadow n t0).changed = true → (s.tgt t0).start = none → s.tgtPort t0 = some p → s.inBand p (s.shadow n t0).ftw = true →
      Completes (.opPls n) s fun t => (t.tgt t0).start.map (·.muted) = some false ∧ (t.tgt t0).ahead.ftw = (s.shadow n t0).ftw ∧
      (t.tgt t0).ahead.poff = (s.shadow n t0).ph ∧
      (s.tick + 20, .firstSample t0 ((s.tgt t0).chain.isSome) (some (some (t.tgt t0).ahead))) ∈ t.later ∧
      (t.shadow n t0).changed = false) ∧
    (∀ (kind : BitVec 2) (ch : BitVec 8) (seg amp : BitVec 16) (ampsrc : BitVec 1) (a : BitVec 5) (auto : BitVec 1) (dly : BitVec 6)
      (t0 p : Nat), s.executes n (.pls kind ch seg amp ampsrc a auto dly) = true → t0 = 256 * kind.toNat + ch.toNat → t0 < 512 →
      (s.shadow n t0).changed = true → (s.tgt t0).start = none → s.tgtPort t0 = some p → s.inBand p (s.shadow n t0).ftw = false →
      Completes (.opPls n) s fun t => (t.tgt t0).start.map (·.muted) = some true ∧ (t.tgt t0).ahead = (s.tgt t0).ahead ∧
      (s.tick + 20, .firstSample t0 ((s.tgt t0).chain.isSome) (some none)) ∈ t.later) ∧
    (∀ (kind : BitVec 2) (ch : BitVec 8) (seg amp : BitVec 16) (ampsrc : BitVec 1) (a : BitVec 5) (auto : BitVec 1) (dly : BitVec 6)
      (t0 : Nat), s.executes n (.pls kind ch seg amp ampsrc a auto dly) = true → t0 = 256 * kind.toNat + ch.toNat → t0 < 512 →
      (s.tgt t0).chain ≠ none → (s.tgt t0).start = none → (s.shadow n t0).changed = false → (s.tgt t0).jump ≠ none →
      Completes (.opPls n) s fun t => (s.tick + 20, .firstSample t0 true none) ∈ t.later ∧ (t.tgt t0).jump = none ∧
      t.fld (Fld.STM_TGT_EVENT_JUMP_DROP t0) = 1) ∧
    (∀ (kind : BitVec 2) (ch : BitVec 8) (seg : BitVec 16), s.executes n (.jreq kind ch seg) = true → Completes (.opJreq n) s fun t =>
      t.later = s.later ++ [(s.tick + 1, .jreqVisible (256 * kind.toNat + ch.toNat) seg.toNat)] ∧
      t.goesOn n (s.following n) (s.tick + 1) = true ∧ OnlyRegs [Reg.SPN_STATUS n, Reg.SPN_EVENT n] s t) ∧
    (∀ (port : BitVec 6) (src : BitVec 1) (a : BitVec 5) (code : BitVec 20), s.executes n (.bias port src a code) = true →
      (s.mon (portMon (192 + port.toNat))).pend = none → (s.mon (portMon (192 + port.toNat))).blank = none →
      Completes (.opBias n) s fun t =>
      t.fld (Fld.SYN_BIA_TARGET_CODE port.toNat) = (if src = 1 then (s.g n a.toNat).toNat % 2 ^ 20 else code.toNat) ∧
      (sget (fun _ => {}) t.syn.bia port.toNat).sets.head? = some (s.tick, if src = 1 then (s.g n a.toNat).toNat % 2 ^ 20 else
      code.toNat) ∧ sget (fun _ => none) t.sup.notices (192 + port.toNat) = some s.tln.reel ∧
      (s.monOn (portMon (192 + port.toNat)) = true → (t.mon (portMon (192 + port.toNat))).pend = some s.tick) ∧
      t.goesOn n (s.following n) (s.tick + 1) = true ∧
      OnlyRegs [Reg.SYN_BIA_TARGET port.toNat, Reg.SPN_STATUS n, Reg.SPN_EVENT n] s t) ∧
    (∀ (port : BitVec 6) (src : BitVec 1) (a : BitVec 5) (code : BitVec 20), s.executes n (.bias port src a code) = true →
      s.monOn (portMon (192 + port.toNat)) = true →
      ((s.mon (portMon (192 + port.toNat))).pend ≠ none ∨ ((s.mon (portMon (192 + port.toNat))).blank.any fun b =>
      decide (s.tick < b.stop + 500)) = true) → Completes (.opBias n) s fun t =>
      t.fld (Fld.SUP_MON_STATUS_BLANK_IGN (portMon (192 + port.toNat))) = min 255 (s.fld
      (Fld.SUP_MON_STATUS_BLANK_IGN (portMon (192 + port.toNat))) + 1) ∧ t.fld Fld.SUP_EVENT_BLANK_IGN = 1 ∧
      t.mon (portMon (192 + port.toNat)) = s.mon (portMon (192 + port.toNat))) ∧
    (∀ (o : BitVec 4) (act : BitVec 2) (auto : BitVec 1) (dly : BitVec 6) (width : BitVec 16), s.executes n
      (.mrk o act auto dly width) = true → Completes (.opMrk n) s fun t =>
      t.later = (if s.bit (Fld.SYN_MRK_CFG_VALID o.toNat) = true ∧
      s.fld (Fld.SYN_MRK_CFG_SPINDLE o.toNat) = n.val then s.later ++ [(s.tick + 34, .edge o.toNat (64 * (s.tick + 34) + (if auto = 1
      then s.subTick ((s.spindle n).autoT * 2 ^ 32) else dly.toNat)) act.toNat width.toNat)] else s.later) ∧
      t.goesOn n (s.following n) (s.tick + 1) = true ∧ OnlyRegs [Reg.SPN_STATUS n, Reg.SPN_EVENT n] s t) ∧
    (∀ (o : BitVec 5) (act : BitVec 2) (width : BitVec 16), s.executes n (.trgo o act width) = true → Completes (.opTrgo n) s fun t =>
      t.later = (if s.fld (Fld.SYN_TRG_CFG_SRC o.toNat) = 1 ∧
      s.fld (Fld.SYN_TRG_CFG_SPINDLE o.toNat) = n.val then s.later ++ [(s.tick + 34, .edge (16 + o.toNat) (64 * (s.tick + 34))
      act.toNat width.toNat)] else s.later) ∧ t.goesOn n (s.following n) (s.tick + 1) = true ∧
      OnlyRegs [Reg.SPN_STATUS n, Reg.SPN_EVENT n] s t) ∧
    (∀ (o : Fin 48) (f : Nat), (s.outPin o).fall = some f → f / 64 ≤ s.tick → Completes (.outputPulseFall o) s fun t =>
      t.fld (outField o) = 0 ∧ (t.outPin o).fall = none)

/-- Output words that act inside the device (R100, R109, R111, R228, R257): a readout window asked for, a strand event, a mailbox,
the program interrupt, and latches cleared but for those that an event of the same tick set. -/
def Obligations.SignalWords : Prop :=
  ∀ (s : State) (n : Fin 64), s.Wf →
    (∀ (ch : BitVec 8) (kset es : BitVec 1) (len : BitVec 12), s.executes n (.rwin ch kset es len) = true →
      Completes (.opRwin n) s fun t =>
      (t.dscCh ch.toNat).rwins = (s.dscCh ch.toNat).rwins ++ [⟨s.tick + 1, kset.toNat, es.toNat, len.toNat, s.groupAfter
      (s.fld (Fld.DSC_CH_CFG_OPEN_DLY ch.toNat))⟩] ∧ t.goesOn n (s.following n) (s.tick + 1) = true ∧
      OnlyRegs [Reg.SPN_STATUS n, Reg.SPN_EVENT n] s t) ∧
    (∀ (out : BitVec 3), s.executes n (.stro out) = true → Completes (.opStro n) s fun t =>
      (∀ k : Fin 1024, (s.tick + 1, k.val) ∈ t.fab.flight ↔ (s.tick + 1, k.val) ∈ s.fab.flight ∨ (s.fabricOn = true ∧
      s.strandOn k = true ∧ s.fld (Fld.FAB_EV_CFG_PROD k) = 0x5000 + 8 * n.val + out.toNat)) ∧
      (∀ k : Fin 1024, t.fld (Fld.FAB_EV_COUNT_DROPPED k) = if s.fabricOn = true ∧ s.strandOn k = false ∧
      s.fld (Fld.FAB_EV_CFG_PROD k) = 0x5000 + 8 * n.val + out.toNat then min 255 (s.fld (Fld.FAB_EV_COUNT_DROPPED k) + 1) else s.fld
      (Fld.FAB_EV_COUNT_DROPPED k)) ∧ t.goesOn n (s.following n) (s.tick + 1) = true) ∧
    (∀ (a : BitVec 5) (m : BitVec 4), s.executes n (.stg a m) = true → Completes (.opStg n) s fun t =>
      t.rd (Reg.SPN_RESULT n m.toNat) = s.g n a.toNat ∧ t.fld (Fld.SPN_EVENT_RESULT n) = 1 ∧
      t.goesOn n (s.following n) (s.tick + 1) = true ∧ OnlyRegs [Reg.SPN_RESULT n m.toNat, Reg.SPN_STATUS n, Reg.SPN_EVENT n] s t) ∧
    (∀ (code : Byte), s.executes n (.irq code) = true → Completes (.opIrq n) s fun t => t.fld (Fld.SPN_IRQ_CODE_CODE n) = code.toNat ∧
      t.fld (Fld.SPN_EVENT_IRQ n) = 1 ∧ t.goesOn n (s.following n) (s.tick + 1) = true ∧
      OnlyRegs [Reg.SPN_IRQ_CODE n, Reg.SPN_STATUS n, Reg.SPN_EVENT n] s t) ∧
    (∀ (mask : BitVec 16), s.executes n (.clrs mask) = true → Completes (.opClrs n) s fun t =>
      (∀ i : Fin 16, t.latch n i = (s.latch n i && !(mask.getLsbD i && !bitOf (sget (fun _ => 0) s.evSet (Reg.SPN_SIN n)).toNat i))) ∧
      t.goesOn n (s.following n) (s.tick + 1) = true ∧ OnlyRegs [Reg.SPN_SIN n, Reg.SPN_STATUS n, Reg.SPN_EVENT n] s t)

/-- COMMIT and END (R41, R116, R118, R120 to R122, R136): COMMIT loads CA and takes a handler's vector from the pending ones; END
goes on as NXT says, a vector that waited takes its place and the resume register keeps the word NXT would have chosen, a STOP
that waited ends in IDLE, and a return to nowhere stops the spindle. -/
def Obligations.StructureWords : Prop :=
  ∀ (s : State) (n : Fin 64), s.Wf →
    (s.executes n (.commit) = true → (s.spindle n).gap = none → Completes (.opCommit n) s fun t => t.committed n = true ∧
      t.ca n = s.reelNs ∧ (t.spindle n).commitTick = s.tick ∧
      (∀ v : Fin 8, t.pends n v = (s.pends n v && !(s.bit (Fld.SPN_STATUS_IN_HANDLER n) && s.fld (Fld.SPN_STATUS_HANDLER_VEC n) ==
      v.val))) ∧ t.goesOn n (s.following n) (s.tick + 1) = true ∧
      OnlyRegs [Reg.SPN_CA_LO n, Reg.SPN_CA_HI n, Reg.SPN_PEND n, Reg.SPN_STATUS n, Reg.SPN_EVENT n] s t) ∧
    (∀ (nxt : BitVec 2) (tgt : BitVec 13), s.executes n (.endw nxt tgt) = true → nxt = 0 ∨ nxt = 1 →
      s.bit (Fld.SPN_STATUS_HELD n) = false → (s.spindle n).stopHeld = false → s.noRoutine n = false → Completes (.opEnd n) s fun t =>
      t.committed n = false ∧ t.fld (Fld.SPN_STATUS_IN_HANDLER n) = 0 ∧
      t.goesOn n (if nxt = 0 then s.following n else tgt.toNat) (s.tick + 1) = true ∧
      OnlyRegs [Reg.SPN_STATUS n, Reg.SPN_EVENT n] s t) ∧
    (∀ (nxt : BitVec 2) (tgt : BitVec 13), s.executes n (.endw nxt tgt) = true → nxt = 2 → s.bit (Fld.SPN_STATUS_HELD n) = false →
      (s.spindle n).stopHeld = false → s.noRoutine n = false → Completes (.opEnd n) s fun t => t.committed n = false ∧
      t.fld (Fld.SPN_STATUS_STATE n) = 0 ∧ (t.spindle n).active = false ∧ t.fld (Fld.SPN_RESUME_HALT n) = 1 ∧
      t.fld (Fld.SPN_STATUS_IN_HANDLER n) = 0 ∧ (t.spindle n).idleTick = s.tick + 1 ∧ ((s.spindle n).haltReq = true →
      (s.tick + 1, Deferred.haltAt n) ∈ t.later)) ∧
    (∀ (nxt : BitVec 2) (tgt : BitVec 13) (v : Fin 8), s.executes n (.endw nxt tgt) = true →
      nxt = 3 ∨ s.bit (Fld.SPN_STATUS_HELD n) = true → s.topVector n s.tick = some v.val → (s.spindle n).stopHeld = false →
      s.noRoutine n = false → Completes (.opEnd n) s fun t => t.committed n = false ∧ t.fld (Fld.SPN_STATUS_IN_HANDLER n) = 1 ∧
      t.fld (Fld.SPN_STATUS_HANDLER_VEC n) = v.val ∧ t.fld (Fld.SPN_STATUS_HELD n) = 0 ∧
      t.goesOn n (s.fld (Fld.SPN_VEC_ENTRY n v)) (s.tick + 1) = true ∧ (nxt = 0 → t.fld (Fld.SPN_RESUME_ADDR n) = s.following n ∧
      t.fld (Fld.SPN_RESUME_HALT n) = 0) ∧ (nxt = 1 → t.fld (Fld.SPN_RESUME_ADDR n) = tgt.toNat ∧ t.fld (Fld.SPN_RESUME_HALT n) = 0) ∧
      (nxt = 2 → t.fld (Fld.SPN_RESUME_HALT n) = 1)) ∧
    (∀ (nxt : BitVec 2) (tgt : BitVec 13), s.executes n (.endw nxt tgt) = true → nxt = 3 → s.topVector n s.tick = none →
      (s.spindle n).hasResume = true → s.bit (Fld.SPN_RESUME_HALT n) = false → (s.spindle n).stopHeld = false →
      s.noRoutine n = false → Completes (.opEnd n) s fun t => t.committed n = false ∧ t.fld (Fld.SPN_STATUS_IN_HANDLER n) = 0 ∧
      t.goesOn n (s.fld (Fld.SPN_RESUME_ADDR n)) (s.tick + 1) = true) ∧
    (∀ (nxt : BitVec 2) (tgt : BitVec 13), s.executes n (.endw nxt tgt) = true → nxt = 3 → s.topVector n s.tick = none →
      (s.spindle n).hasResume = false → (s.spindle n).stopHeld = false → s.noRoutine n = false → Completes (.opEnd n) s fun t =>
      t.fld (Fld.SPN_STATUS_STATE n) = 4 ∧ t.fld (Fld.SPN_EVENT_ILLEGAL n) = 1 ∧ t.fld (Fld.SPN_ERR_ADDR n) = s.fetchAddr n % 8192 ∧
      (t.spindle n).active = false) ∧
    (∀ (nxt : BitVec 2) (tgt : BitVec 13), s.executes n (.endw nxt tgt) = true → (s.spindle n).stopHeld = true →
      Completes (.opEnd n) s fun t => t.committed n = false ∧ t.fld (Fld.SPN_STATUS_STATE n) = 0 ∧ (t.spindle n).active = false ∧
      (t.spindle n).stopHeld = false ∧ (t.spindle n).idleTick = s.tick + 1 ∧ ((s.spindle n).haltReq = true →
      (s.tick + 1, Deferred.haltAt n) ∈ t.later)) ∧
    (s.mayIssue n = true → decodeMicro (s.storeWord n (s.fetchAddr n)) = none → Completes (.illegal n) s fun t =>
      t.fld (Fld.SPN_STATUS_STATE n) = 4 ∧ t.fld (Fld.SPN_EVENT_ILLEGAL n) = 1 ∧ t.fld (Fld.SPN_ERR_ADDR n) = s.fetchAddr n % 8192 ∧
      (t.spindle n).active = false) ∧
    (∀ (m : MicroWord), s.mayIssue n = true → decodeMicro (s.storeWord n (s.fetchAddr n)) = some m → m.op.needsCommit = true →
      s.condition n m.cc = true → s.committed n = false → Completes (.illegal n) s fun t => t.fld (Fld.SPN_STATUS_STATE n) = 4 ∧
      t.fld (Fld.SPN_EVENT_ILLEGAL n) = 1 ∧ t.fld (Fld.SPN_ERR_ADDR n) = s.fetchAddr n % 8192 ∧ (t.spindle n).active = false) ∧
    (s.spindlesRun = true → (s.spindle n).active = true → s.committed n = true → (s.spindle n).commitTick + 4096 ≤ s.tick →
      Completes (.postOvf n) s fun t => t.fld (Fld.SPN_STATUS_STATE n) = 4 ∧ t.fld (Fld.SPN_EVENT_POST_OVF n) = 1 ∧
      (t.spindle n).active = false)

/-- Vectors, faulty fetches, tokens and the scout (R118 to R120, R124 to R127, R131, R133): a vector recognised wakes an idle
spindle, waits for a committed routine's END and abandons an uncommitted one, whose checkpoint returns a tick later and whose
entry word issues three ticks later. -/
def Obligations.VectorsAndFaults : Prop :=
  ∀ (s : State) (n : Fin 64), s.Wf →
    (∀ (v : Fin 8), s.spindlesRun = true → s.pends n v = true → (sget (fun _ => 0) (s.spindle n).pendAt v < s.tick) →
      s.bit (Fld.SPN_CTL_EN n) = true → s.noRoutine n = false → s.fld (Fld.SPN_STATUS_STATE n) < 3 → (s.spindle n).gap = none →
      (s.spindle n).active = false → Completes (.vectorRecognised n v) s fun t => (t.spindle n).gap = some none ∧
      (t.spindle n).due = s.tick + 3 ∧ OnlyRegs [] s t) ∧
    (∀ (v : Fin 8), s.spindlesRun = true → s.pends n v = true → (sget (fun _ => 0) (s.spindle n).pendAt v < s.tick) →
      s.bit (Fld.SPN_CTL_EN n) = true → s.noRoutine n = false → s.fld (Fld.SPN_STATUS_STATE n) < 3 → (s.spindle n).gap = none →
      (s.spindle n).active = true → s.committed n = true → Completes (.vectorRecognised n v) s fun t =>
      t.fld (Fld.SPN_STATUS_HELD n) = 1 ∧ t.spn = s.spn ∧ OnlyRegs [Reg.SPN_STATUS n] s t) ∧
    (∀ (v : Fin 8), s.spindlesRun = true → s.pends n v = true → (sget (fun _ => 0) (s.spindle n).pendAt v < s.tick) →
      s.bit (Fld.SPN_CTL_EN n) = true → s.noRoutine n = false → s.fld (Fld.SPN_STATUS_STATE n) < 3 → (s.spindle n).gap = none →
      (s.spindle n).active = true → s.committed n = false →
      s.bit (Fld.SPN_STATUS_IN_HANDLER n) = false ∨ v.val < s.fld (Fld.SPN_STATUS_HANDLER_VEC n) →
      Completes (.vectorRecognised n v) s fun t => (t.spindle n).gap = some none ∧ (t.spindle n).due = s.tick + 3 ∧
      t.later = s.later ++ [(s.tick + 1, .restore n)] ∧ t.fld (Fld.SPN_EVENT_ABANDON n) = 1 ∧
      t.fld (Fld.SPN_COUNT_ABANDON n) = min 255 (s.fld (Fld.SPN_COUNT_ABANDON n) + 1) ∧ (s.bit (Fld.SPN_STATUS_IN_HANDLER n) = false →
      t.fld (Fld.SPN_RESUME_ADDR n) = (s.spindle n).entry % 8192 ∧ t.fld (Fld.SPN_RESUME_HALT n) = 0) ∧
      (s.bit (Fld.SPN_STATUS_IN_HANDLER n) = true → t.rd (Reg.SPN_RESUME n) = s.rd (Reg.SPN_RESUME n))) ∧
    (∀ (path : Path) (v : Word), s.accepts path (Reg.SPN_CMD n) = true → s.spindlesRun = true →
      Completes (.hostPreempt path n v) s fun t => t.later = s.later ++ ((List.range 8).filter fun k =>
      v.getLsbD k && s.fld (Fld.SPN_VEC_SRC n k) == 0x10 && s.bit (Fld.SPN_VEC_EN n k)).map (fun k => (s.tick + 1, .vecPend n k)) ∧
      t.regs = s.regs) ∧
    (s.mayIssue n = true → s.committed n = true → (s.spindle n).active = true → (s.spindle n).gap = none → (s.spindle n).redo = none →
      Completes (.cstoreEccCorr n) s fun t => t.fld (Fld.SPN_EVENT_ECC_CORR n) = 1 ∧
      t.fld (Fld.SPN_COUNT_ECC_CORR n) = min 255 (s.fld (Fld.SPN_COUNT_ECC_CORR n) + 1) ∧ t.spn = s.spn ∧ t.later = s.later) ∧
    (∀ (m : MicroWord), s.mayIssue n = true → s.committed n = false → (s.spindle n).gap = none → (s.spindle n).redo = none →
      decodeMicro (s.storeWord n (s.fetchAddr n)) = some m → m.ent = 0 → Completes (.cstoreEccCorr n) s fun t =>
      t.fld (Fld.SPN_EVENT_ECC_CORR n) = 1 ∧ (t.spindle n).gap = some (some (s.spindle n).entry) ∧ (t.spindle n).due = s.tick + 3 ∧
      (t.spindle n).redo = some (s.fetchAddr n) ∧ t.later = s.later ++ [(s.tick + 1, .restore n)] ∧
      (s.bit (Fld.SPN_STATUS_IN_HANDLER n) = false → t.fld (Fld.SPN_RESUME_ADDR n) = (s.spindle n).entry % 8192 ∧
      t.fld (Fld.SPN_RESUME_HALT n) = 0) ∧ (s.bit (Fld.SPN_STATUS_IN_HANDLER n) = true →
      t.rd (Reg.SPN_RESUME n) = s.rd (Reg.SPN_RESUME n))) ∧
    (s.mayIssue n = true → (s.spindle n).redo = some (s.fetchAddr n) → Completes (.cstoreEccCorr n) s fun t =>
      t.fld (Fld.SPN_STATUS_STATE n) = 4 ∧ t.fld (Fld.SPN_EVENT_ECC_HARD n) = 1 ∧ t.fld (Fld.SPN_ERR_ADDR n) = s.fetchAddr n % 8192) ∧
    (s.mayIssue n = true → Completes (.cstoreEccUncorr n) s fun t => t.fld (Fld.SPN_STATUS_STATE n) = 4 ∧
      t.fld (Fld.SPN_EVENT_ECC_UNCORR n) = 1 ∧ t.fld (Fld.SPN_ERR_ADDR n) = s.fetchAddr n % 8192 ∧ (t.spindle n).active = false) ∧
    (s.spindlesRun = true → s.bit (Fld.SPN_CTL_EN n) = true → s.newMicrosecond = true → s.fld (Fld.SPN_STATUS_STATE n) ≠ 4 →
      (s.spindle n).missed = false → (s.spindle n).active = false ∨ s.tick ≤ (s.spindle n).due →
      Completes (.heartbeatToken n) s fun t => (t.spindle n).tokenTick = s.tick ∧
      (t.spindle n).tokenRun = (s.fld (Fld.SPN_STATUS_STATE n) == 1 || s.fld (Fld.SPN_STATUS_STATE n) == 2) ∧ t.regs = s.regs) ∧
    (s.fld (Fld.SPN_STATUS_STATE n) = 4 ∨ (s.spindle n).missed = true → Completes (.heartbeatToken n) s fun t =>
      (t.spindle n).tokenTick = (s.spindle n).tokenTick ∧ t.regs = s.regs) ∧
    (∀ (m : MicroWord), s.spindlesRun = true → (s.spindle n).active = true → s.fld (Fld.SPN_STATUS_STATE n) ≠ 3 →
      (s.spindle n).scout.time < s.scoutHorizon → s.micro n (s.spindle n).scout.pc = some m → m.scoutStops = true →
      Completes (.scoutStep n) s fun t => t.fld (Fld.SPN_STATUS_SCOUT_STOPPED n) = 1 ∧ t.fld (Fld.SPN_STATUS_SCOUT_HORIZON n) = 0 ∧
      (t.spindle n).scout.pc = (s.spindle n).scout.pc) ∧
    (s.spindlesRun = true → (s.spindle n).active = true → s.fld (Fld.SPN_STATUS_STATE n) ≠ 3 →
      s.scoutHorizon ≤ (s.spindle n).scout.time → Completes (.scoutStep n) s fun t => t.fld (Fld.SPN_STATUS_SCOUT_HORIZON n) = 1 ∧
      (t.spindle n).scout.pc = (s.spindle n).scout.pc ∧ (t.spindle n).scout.reached = true) ∧
    (∀ (m : MicroWord) (p : Nat), s.spindlesRun = true → (s.spindle n).active = true → s.fld (Fld.SPN_STATUS_STATE n) ≠ 3 →
      (s.spindle n).scout.time < s.scoutHorizon → s.micro n (s.spindle n).scout.pc = some m → s.wordPort m.op = some p →
      Completes (.scoutStep n) s fun t => ∃ u ∈ (t.spindle n).scout.uses, u.port = p ∧
      u.time = s.useTime (s.spindle n).scout.time m.op ∧ u.words = (s.spindle n).scout.path.length)

/-- Debug control of a spindle (R136, R137): a halt acts at once on an idle spindle and between the words of an uncommitted
routine, waits for the END of a committed one, a step lets one word issue and a resume all of them. -/
def Obligations.DebugControl : Prop :=
  ∀ (s : State) (n : Fin 64), s.Wf →
    (∀ (path : Path), s.accepts path (Reg.SPN_DBG n) = true → s.debugControl = true → s.fld (Fld.SPN_STATUS_STATE n) < 3 →
      ((s.spindle n).active = false ∨ (s.committed n = false ∧ (s.spindle n).wait = none)) → Completes (.dbgHalt path n) s fun t =>
      t.fld (Fld.SPN_STATUS_STATE n) = 3 ∧ t.fld (Fld.SPN_EVENT_HALTED n) = 1 ∧ (t.spindle n).haltReq = true) ∧
    (∀ (path : Path), s.accepts path (Reg.SPN_DBG n) = true → s.debugControl = true → s.fld (Fld.SPN_STATUS_STATE n) < 3 →
      (s.spindle n).active = true → s.committed n = true → Completes (.dbgHalt path n) s fun t =>
      t.fld (Fld.SPN_STATUS_STATE n) = s.fld (Fld.SPN_STATUS_STATE n) ∧ (t.spindle n).haltReq = true ∧ t.regs = s.regs) ∧
    (∀ (path : Path), s.accepts path (Reg.SPN_DBG n) = true → s.debugControl = true → s.fld (Fld.SPN_STATUS_STATE n) = 3 →
      (s.spindle n).active = true → Completes (.dbgStep path n) s fun t => t.fld (Fld.SPN_STATUS_STATE n) = 1 ∧
      (t.spindle n).haltReq = true ∧ (t.spindle n).due = max (s.spindle n).due s.tick) ∧
    (∀ (path : Path), s.accepts path (Reg.SPN_DBG n) = true → s.debugControl = true → s.fld (Fld.SPN_STATUS_STATE n) = 3 →
      (s.spindle n).active = false → (s.spindle n).gap ≠ none → Completes (.dbgStep path n) s fun t =>
      t.fld (Fld.SPN_STATUS_STATE n) = 0 ∧ (t.spindle n).haltReq = true ∧ (t.spindle n).gap = (s.spindle n).gap) ∧
    (∀ (path : Path), s.accepts path (Reg.SPN_DBG n) = true → s.debugControl = true → s.fld (Fld.SPN_STATUS_STATE n) = 3 →
      Completes (.dbgResume path n) s fun t => t.fld (Fld.SPN_STATUS_STATE n) = (if (s.spindle n).active then 1 else 0) ∧
      (t.spindle n).haltReq = false) ∧
    (∀ (path : Path), s.accepts path (Reg.SPN_DBG n) = true → s.debugControl = false → Completes (.dbgHalt path n) s fun t =>
      t.spn = s.spn ∧ t.regs = s.regs) ∧
    (∀ (path : Path), s.accepts path (Reg.SPN_DBG n) = true → s.debugControl = false → Completes (.dbgStep path n) s fun t =>
      t.spn = s.spn ∧ t.regs = s.regs) ∧
    (∀ (path : Path), s.accepts path (Reg.SPN_DBG n) = true → s.debugControl = false → Completes (.dbgResume path n) s fun t =>
      t.spn = s.spn ∧ t.regs = s.regs)

/-- What becomes due when a tick passes (R118, R119, R123, R128, R171, R172, R183, R184): a latch is set, or its overrun flag; a
vector pends, or merges; an abandoned routine's checkpoint returns; a jump request becomes visible, or is dropped where nothing
plays; an edge takes effect at its output; the first sample of a pulse reaches the mixer, where a cut and the preset show; a
halt that waited for END acts. -/
def Obligations.DeferredEffects : Prop :=
  ∀ (s : State) (n : Fin 64), s.Wf →
    (∀ (i : Fin 16), s.later = [(s.tick + 1, .sinSet n i)] → Completes .reelAdvance s fun t => t.latch n i = true ∧
      (s.latch n i = true → bitOf (t.rd (Reg.SPN_SIN_OVR n)).toNat i = true ∧ t.fld (Fld.SPN_EVENT_OVERRUN n) = 1)) ∧
    (∀ (k : Fin 512) (cut : Bool) (f q : Nat) (o : Nco), s.later = [(s.tick + 1, .firstSample k cut (some (some o)))] → o.ftw = f →
      o.poff = q → f < 2 ^ 48 → q < 2 ^ 16 → Completes .reelAdvance s fun t => t.rd64 (Reg.SYN_CH_FTW_LO k) = f ∧
      t.fld (Fld.SYN_CH_PHASE_PH k) = q ∧ t.fld (Fld.SYN_CH_STATUS_MUTED_BAND k) = 0 ∧
      t.fld (Fld.SYN_CH_STATUS_CUT k) = (if cut then min 0xFFFF (s.fld (Fld.SYN_CH_STATUS_CUT k) + 1) else s.fld
      (Fld.SYN_CH_STATUS_CUT k))) ∧
    (∀ (k : Fin 512) (p : Nat), s.later = [(s.tick + 1, .firstSample k false (some none))] → s.tgtPort k = some p →
      Completes .reelAdvance s fun t => t.fld (Fld.SYN_CH_STATUS_MUTED_BAND k) = 1 ∧ t.fld (Fld.SYN_PORT_EVENT_BAND_ERR p) = 1 ∧
      t.fld Fld.SYN_EVENT_BAND_ERR = 1 ∧ t.rd64 (Reg.SYN_CH_FTW_LO k) = s.rd64 (Reg.SYN_CH_FTW_LO k)) ∧
    (s.later = [(s.tick + 1, .haltAt n)] → s.fld (Fld.SPN_STATUS_STATE n) < 3 → (s.spindle n).haltReq = true →
      Completes .reelAdvance s fun t => t.fld (Fld.SPN_STATUS_STATE n) = 3 ∧ t.fld (Fld.SPN_EVENT_HALTED n) = 1) ∧
    (∀ (v : Fin 8), s.later = [(s.tick + 1, .vecPend n v)] → s.pends n v = false →
      (sparseWf (fun _ => 0) (s.spindle n).pendAt = true) → Completes .reelAdvance s fun t => t.pends n v = true ∧
      sget (fun _ => 0) (t.spindle n).pendAt v = s.tick + 1 ∧ t.fld (Fld.SPN_COUNT_OVERRUN n) = s.fld (Fld.SPN_COUNT_OVERRUN n)) ∧
    (∀ (v : Fin 8), s.later = [(s.tick + 1, .vecPend n v)] → s.pends n v = true → Completes .reelAdvance s fun t =>
      t.pends n v = true ∧ t.fld (Fld.SPN_VEC_OVERRUN n v) = 1 ∧ t.fld (Fld.SPN_EVENT_OVERRUN n) = 1 ∧
      t.fld (Fld.SPN_COUNT_OVERRUN n) = min 255 (s.fld (Fld.SPN_COUNT_OVERRUN n) + 1)) ∧
    (∀ (k : Checkpoint), s.later = [(s.tick + 1, .restore n)] → (s.spindle n).chk = some k → Completes .reelAdvance s fun t =>
      (∀ i : Fin 31, t.g n (i + 1) = k.g.getD i 0) ∧ (∀ j : Fin 8, t.rd (Reg.SPN_LC n j) = k.lc.getD j 0) ∧ t.tb n = k.tb % 2 ^ 64 ∧
      (t.spindle n).z = k.z ∧ (t.spindle n).n = k.n ∧ (t.spindle n).c = k.c ∧ (t.spindle n).shadows = k.shadows) ∧
    (∀ (x : Fin 640) (seg : BitVec 16), s.later = [(s.tick + 1, .jreqVisible x seg.toNat)] → (s.tgt x).chain ≠ none →
      Completes .reelAdvance s fun t => t.fld (Fld.STM_TGT_STATUS_JUMP_PEND x) = 1 ∧ t.fld (Fld.STM_TGT_PASS_PEND_SEG x) = seg.toNat ∧
      (t.tgt x).jump = some ⟨s.tick + 1, false⟩ ∧ ((s.tgt x).jump ≠ none → t.fld (Fld.STM_TGT_EVENT_JUMP_REPLACED x) = 1)) ∧
    (∀ (x : Fin 640) (seg : BitVec 16), s.later = [(s.tick + 1, .jreqVisible x seg.toNat)] → (s.tgt x).chain = none →
      (s.tgt x).start = none → Completes .reelAdvance s fun t => t.fld (Fld.STM_TGT_EVENT_JUMP_DROP x) = 1 ∧
      t.fld (Fld.STM_TGT_STATUS_JUMP_PEND x) = s.fld (Fld.STM_TGT_STATUS_JUMP_PEND x) ∧ t.syn = s.syn) ∧
    (∀ (o : Fin 48) (act : Fin 3) (x width : Nat), s.later = [(s.tick + 1, .edge o x act width)] → s.form = .active →
      Completes .reelAdvance s fun t => t.fld (outField o) = (if act = 2 then 0 else 1) ∧
      (t.outPin o).fall = (if act.val = 0 then some (x + 64 * max 1 width) else none))

/-- An ALU word computes gD = gA FN y, y being IMM or gB by IMM_EN, and sets Z, N and C; the table of R98 gives the result and the
carry of each function, and a reserved function is no word. -/
def Obligations.AluFunctions : Prop :=
  ∀ (s : State) (n : Fin 64), s.Wf →
    (∀ (d a b : BitVec 5) (fn : BitVec 4) (immEn : BitVec 1) (imm : Word), s.executes n (.alu d a b fn immEn imm) = true →
      Completes (.opAlu n) s fun t =>
      t.g n d.toNat = (if d = 0 then 0 else (alu fn.toNat (s.g n a.toNat) (if immEn = 1 then imm else s.g n b.toNat)).1) ∧
      (t.spindle n).z = ((alu fn.toNat (s.g n a.toNat) (if immEn = 1 then imm else s.g n b.toNat)).1 == 0) ∧
      (t.spindle n).n = (alu fn.toNat (s.g n a.toNat) (if immEn = 1 then imm else s.g n b.toNat)).1.getLsbD 31 ∧
      (t.spindle n).c = (alu fn.toNat (s.g n a.toNat) (if immEn = 1 then imm else s.g n b.toNat)).2 ∧
      t.goesOn n (s.following n) (s.tick + 1) = true ∧ OnlyRegs [Reg.SPN_G n d.toNat, Reg.SPN_STATUS n, Reg.SPN_EVENT n] s t) ∧
    (∀ a y : Word, (alu 0 a y).1 = a + y ∧ ((alu 0 a y).2 = true ↔ 2 ^ 32 ≤ a.toNat + y.toNat)) ∧
    (∀ a y : Word, (alu 1 a y).1 = a - y ∧ ((alu 1 a y).2 = true ↔ a.toNat < y.toNat)) ∧
    (∀ a y : Word, alu 2 a y = (a &&& y, false) ∧ alu 3 a y = (a ||| y, false) ∧ alu 4 a y = (a ^^^ y, false)) ∧
    (∀ a y : Word, (alu 5 a y).1.toNat = a.toNat * 2 ^ (y.toNat % 32) % 2 ^ 32 ∧ ((alu 5 a y).2 = true ↔ y.toNat % 32 ≠ 0 ∧
      a.toNat / 2 ^ (32 - y.toNat % 32) % 2 = 1)) ∧
    (∀ a y : Word, (alu 6 a y).1.toNat = a.toNat / 2 ^ (y.toNat % 32) ∧ ((alu 6 a y).2 = true ↔ y.toNat % 32 ≠ 0 ∧
      a.toNat / 2 ^ (y.toNat % 32 - 1) % 2 = 1)) ∧
    (∀ a y : Word, (alu 7 a y).1.toInt = a.toInt / 2 ^ (y.toNat % 32) ∧ ((alu 7 a y).2 = true ↔ y.toNat % 32 ≠ 0 ∧
      a.toNat / 2 ^ (y.toNat % 32 - 1) % 2 = 1)) ∧
    (∀ a y : Word, (alu 8 a y).1.toInt = min a.toInt y.toInt ∧ (alu 8 a y).2 = false ∧ (alu 9 a y).1.toInt = max a.toInt y.toInt ∧
      (alu 9 a y).2 = false) ∧
    (∀ a y : Word, (alu 10 a y).1.toInt = (a.toInt * y.toInt).bmod (2 ^ 32) ∧
      ((alu 10 a y).2 = true ↔ a.toInt * y.toInt < -2 ^ 31 ∨ 2 ^ 31 ≤ a.toInt * y.toInt)) ∧
    (∀ (cc : BitVec 4) (ent : BitVec 1) (d a b : BitVec 5) (fn : BitVec 4) (immEn : BitVec 1) (imm : Word), 0xB ≤ fn.toNat →
      decodeMicro (MicroWord.encode ⟨cc, ent, .alu d a b fn immEn imm⟩) = none)

/-- What a tick at the fetch point does (R158, R163 to R165, R179, R189, R194, R195): the target takes one tick of its segment,
stored or roving, and its count goes on; a flux port without predistortion plays the scaled samples, clamped; a disabled or
underrun port puts out zero; a roving segment takes its bytes from the ring, and one that finds too few underruns. -/
def Obligations.FetchPoint : Prop :=
  ∀ (s : State), s.Wf →
    (∀ (p : Fin 48) (x : Nat) (c : Chain), s.portTgts p = [x] → (32 ≤ p.val → s.arrayPort (p - 32) = false) → (s.tgt x).start = none →
      (s.tgt x).chain = some c → c.next ≤ s.tick → c.done < (s.segNow x).len → (s.segNow x).roving = false →
      Completes (.fetchTick (.rf p)) s fun t => (t.tgt x).chain = some { c with done := c.done + 1, next := s.tick + 1 } ∧
      (s.bit (Fld.SYN_PORT_CFG_EN p) = false → sget (fun _ => []) t.syn.codes p = List.replicate 64 0)) ∧
    (∀ (p : Fin 48) (x : Nat) (q : PulseStart), s.portTgts p = [x] → (32 ≤ p.val → s.arrayPort (p - 32) = false) →
      (s.tgt x).start = some q → q.tick ≤ s.tick → q.seg < 65536 → (s.segOf x q.seg).roving = false →
      Completes (.fetchTick (.rf p)) s fun t => t.fld (Fld.STM_TGT_STATUS_PLAYING x) = 1 ∧ t.fld (Fld.STM_TGT_STATUS_SEG x) = q.seg ∧
      t.fld (Fld.STM_TGT_PASS_PASS x) = 0 ∧ (t.tgt x).start = none) ∧
    (∀ (f : Fin 128) (c : Chain), (s.flx f).last ≠ some s.tick → (s.flx f).carry = [] → (s.tgt (512 + f)).start = none →
      (s.tgt (512 + f)).zeroTick = none → (s.tgt (512 + f)).chain = some c → c.next ≤ s.tick → c.done < (s.segNow (512 + f)).len →
      (s.segNow (512 + f)).roving = false → s.bit (Fld.SYN_FLX_CFG_EN f) = true → s.bit (Fld.SYN_FLX_CFG_PD_EN f) = false →
      s.bit (Fld.STM_TGT_STATUS_MUTED_UR (512 + f)) = false → Completes (.fetchTick (.flux f)) s fun t =>
      (t.tgt (512 + f)).chain = some { c with done := c.done + 1, next := s.tick + 1 } ∧
      sget (fun _ => []) t.syn.codes (64 + f) = (List.range 4).map (fun i =>
      clampInt (-32767) 32767 (scaleSample (s.sramNat (0x800000 + 4 * (s.segNow (512 + f)).start + 8 * c.done + 2 * i) 2) c.amp)) ∧
      ⟨s.tick + 19, sget (fun _ => []) t.syn.codes (64 + f), true⟩ ∈ t.onWay (64 + f.val)) ∧
    (∀ (f : Fin 128) (r : Fin 64) (c : Chain), (s.flx f).last ≠ some s.tick → (s.tgt (512 + f)).start = none →
      (s.tgt (512 + f)).chain = some c → c.next ≤ s.tick → c.done < (s.segNow (512 + f)).len → (s.segNow (512 + f)).roving = true →
      (s.segNow (512 + f)).stream = r.val → s.fld (Fld.STM_RV_STATUS_STATE r) = 2 → 8 ≤ s.fld (Fld.STM_RV_FILL_BYTES r) →
      Completes (.fetchTick (.flux f)) s fun t => (t.stream r).played = (s.stream r).played + 8 ∧
      t.fld (Fld.STM_RV_FILL_BYTES r) = s.fld (Fld.STM_RV_FILL_BYTES r) - 8 ∧
      t.rd64 (Reg.STM_RV_POS_LO r) = ((s.stream r).played + 8) / 16 % 2 ^ 64 ∧
      (256 * s.fld (Fld.STM_RV_WM_LOW r) ≤ s.fld (Fld.STM_RV_FILL_BYTES r) →
      s.fld (Fld.STM_RV_FILL_BYTES r) < 256 * s.fld (Fld.STM_RV_WM_LOW r) + 8 → t.fld (Fld.STM_RV_EVENT_FAMINE r) = 1 ∧
      t.fld (Fld.STM_RV_COUNT_FAMINE r) = min 0xFFFF (s.fld (Fld.STM_RV_COUNT_FAMINE r) + 1))) ∧
    (∀ (f : Fin 128) (r : Fin 64) (c : Chain), (s.flx f).last ≠ some s.tick → (s.tgt (512 + f)).start = none →
      (s.tgt (512 + f)).chain = some c → c.next ≤ s.tick → c.done < (s.segNow (512 + f)).len → (s.segNow (512 + f)).roving = true →
      (s.segNow (512 + f)).stream = r.val → ((s.fld (Fld.STM_RV_STATUS_STATE r) = 2 ∧ s.fld (Fld.STM_RV_FILL_BYTES r) < 8 ∧
      (s.stream r).failed = true) ∨ s.fld (Fld.STM_RV_STATUS_STATE r) = 3 ∨ s.fld (Fld.STM_RV_STATUS_STATE r) = 0) →
      Completes (.fetchTick (.flux f)) s fun t => t.fld (Fld.STM_RV_STATUS_STATE r) = 3 ∧ t.fld (Fld.STM_RV_EVENT_UNDERRUN r) = 1 ∧
      t.fld (Fld.STM_TGT_EVENT_UNDERRUN (512 + f)) = 1 ∧ t.fld (Fld.STM_TGT_STATUS_MUTED_UR (512 + f)) = 1 ∧
      t.fld (Fld.STM_TGT_STATUS_PLAYING (512 + f)) = 0 ∧
      t.fld (Fld.STM_RV_COUNT_UNDERRUN r) = min 0xFFFF (s.fld (Fld.STM_RV_COUNT_UNDERRUN r) + 1) ∧ (t.tgt (512 + f)).chain = none ∧
      (t.tgt (512 + f)).urRec.map (·.cause) = some (if s.fld (Fld.STM_RV_STATUS_STATE r) = 2 then 2 else 3) ∧ (t.stream r).reqs = [] ∧
      sget (fun _ => []) t.syn.codes (64 + f) = List.replicate 4 0)

/-- Boundaries and ends (R180 to R186): the next pass, the hand-over to NEXT, the chain's end, a jump that acts 16 ticks or more
after it became visible and one that a boundary passes over; and a chain's end at the end of stage 10, which discards a jump
still pending. -/
def Obligations.SegmentBoundaries : Prop :=
  ∀ (s : State) (x : Fin 640), s.Wf →
    (s.atBoundary x = true → (s.tgt x).jump = none → s.fld (Fld.STM_TGT_PASS_PASS x) < min (s.segNow x).rep 0xFFFE →
      Completes (.segmentBoundary x) s fun t => t.fld (Fld.STM_TGT_PASS_PASS x) = s.fld (Fld.STM_TGT_PASS_PASS x) + 1 ∧
      t.fld (Fld.STM_TGT_STATUS_SEG x) = s.fld (Fld.STM_TGT_STATUS_SEG x) ∧
      (t.tgt x).chain = (s.tgt x).chain.map (fun c => { c with done := 0 }) ∧ (t.tgt x).ends = (s.tgt x).ends ∧
      OnlyRegs [Reg.STM_TGT_PASS x] s t) ∧
    (s.atBoundary x = true → (s.tgt x).jump = none → ((s.segNow x).rep ≠ 0xFFFF ∧
      s.fld (Fld.STM_TGT_PASS_PASS x) = (s.segNow x).rep) → s.namesSeg x (s.segNow x).next = true →
      Completes (.segmentBoundary x) s fun t => t.fld (Fld.STM_TGT_STATUS_SEG x) = (s.segNow x).next ∧
      t.fld (Fld.STM_TGT_PASS_PASS x) = 0 ∧ (t.tgt x).chain = (s.tgt x).chain.map (fun c => { c with done := 0 }) ∧
      (t.tgt x).ends = (s.tgt x).ends ++ [(s.tick - 1 + 5, false)] ∧ OnlyRegs [Reg.STM_TGT_PASS x, Reg.STM_TGT_STATUS x] s t) ∧
    (s.atBoundary x = true → (s.tgt x).jump = none → ((s.segNow x).rep ≠ 0xFFFF ∧
      s.fld (Fld.STM_TGT_PASS_PASS x) = (s.segNow x).rep) → s.namesSeg x (s.segNow x).next = false →
      Completes (.segmentBoundary x) s fun t => (t.tgt x).chain = none ∧ (t.tgt x).ends = (s.tgt x).ends ++ [(s.tick - 1 + 5, true)] ∧
      OnlyRegs [] s t) ∧
    (∀ (j : Jump), s.atBoundary x = true → (s.tgt x).jump = some j → ((s.segNow x).finalOnly = false ∨ ((s.segNow x).rep ≠ 0xFFFF ∧
      s.fld (Fld.STM_TGT_PASS_PASS x) = (s.segNow x).rep)) → j.vis + 16 ≤ s.tick → Completes (.segmentBoundary x) s fun t =>
      t.fld (Fld.STM_TGT_STATUS_SEG x) = s.fld (Fld.STM_TGT_PASS_PEND_SEG x) ∧ t.fld (Fld.STM_TGT_PASS_PASS x) = 0 ∧
      t.fld (Fld.STM_TGT_STATUS_JUMP_PEND x) = 0 ∧ (t.tgt x).jump = none ∧
      (t.tgt x).chain = (s.tgt x).chain.map (fun c => { c with done := 0 }) ∧
      t.fld (Fld.STM_TGT_JCNT_JUMPS x) = min 0xFFFF (s.fld (Fld.STM_TGT_JCNT_JUMPS x) + 1) ∧
      t.fld (Fld.STM_TGT_EVENT_JUMP_DONE x) = 1 ∧
      t.fld (Fld.STM_TGT_JCNT_LATE x) = min 0xFFFF (s.fld (Fld.STM_TGT_JCNT_LATE x) + b2n j.passed) ∧ (j.passed = true →
      t.fld (Fld.STM_TGT_EVENT_JUMP_LATE x) = 1)) ∧
    (∀ (j : Jump), s.atBoundary x = true → (s.tgt x).jump = some j → (s.segNow x).finalOnly = false → j.vis < s.tick →
      s.tick < j.vis + 16 → s.fld (Fld.STM_TGT_PASS_PASS x) < min (s.segNow x).rep 0xFFFE → Completes (.segmentBoundary x) s fun t =>
      (t.tgt x).jump = some { j with passed := true } ∧ t.fld (Fld.STM_TGT_PASS_PASS x) = s.fld (Fld.STM_TGT_PASS_PASS x) + 1 ∧
      OnlyRegs [Reg.STM_TGT_PASS x] s t) ∧
    (∀ (j : Jump), s.atBoundary x = true → (s.tgt x).jump = some j → (s.segNow x).finalOnly = true →
      s.fld (Fld.STM_TGT_PASS_PASS x) < min (s.segNow x).rep 0xFFFE → Completes (.segmentBoundary x) s fun t =>
      (t.tgt x).jump = some j ∧ t.fld (Fld.STM_TGT_PASS_PASS x) = s.fld (Fld.STM_TGT_PASS_PASS x) + 1 ∧
      OnlyRegs [Reg.STM_TGT_PASS x] s t) ∧
    (∀ (d : Nat) (l : List (Nat × Bool)), (s.tgt x).ends = (d, true) :: l → d ≤ s.tick → s.playing x = false →
      Completes (.segmentEnd x) s fun t => t.fld (Fld.STM_TGT_STATUS_PLAYING x) = 0 ∧ (t.tgt x).ends = l ∧ (t.tgt x).jump = none ∧
      ((s.tgt x).jump ≠ none → t.fld (Fld.STM_TGT_EVENT_JUMP_DROP x) = 1 ∧ t.fld (Fld.STM_TGT_STATUS_JUMP_PEND x) = 0)) ∧
    (∀ (d : Nat) (l : List (Nat × Bool)), (s.tgt x).ends = (d, false) :: l → d ≤ s.tick → Completes (.segmentEnd x) s fun t =>
      (t.tgt x).ends = l ∧ t.fld (Fld.STM_TGT_STATUS_PLAYING x) = s.fld (Fld.STM_TGT_STATUS_PLAYING x) ∧
      (∀ k : Fin 32, s.fld (Fld.SYN_TRG_CFG_SRC k) = 3 → s.fld (Fld.SYN_TRG_CFG_KIND k) * 256 + s.fld (Fld.SYN_TRG_CFG_CH k) = x.val →
      (s.tick + 34, .edge (16 + k) (64 * (s.tick + 34)) 0 (s.fld (Fld.SYN_TRG_CFG_WIDTH k))) ∈ t.later))

/-- The tick after an underrun writes its record and stops the claiming spindle (R196, R198), the forced zero ends once the
spindle is IDLE (R197), the host acknowledges records (R198), and the bias ports move toward their targets at their slew every
5,000 ticks (R167, R168). -/
def Obligations.UnderrunsAndBias : Prop :=
  ∀ (s : State), s.Wf →
    (∀ (x : Fin 640) (u : UrRec) (i : Nat), (s.tgt x).urRec = some u → (s.tgt x).urTick < s.tick → u.stream < 64 → u.sub < 64 →
      u.cause < 4 → i = s.fld Fld.STM_UR_HEAD_NEXT → s.fld Fld.STM_UR_HEAD_PENDING ≤ 16 → Completes (.underrunStop x) s fun t =>
      t.rd64 (Reg.STM_UR_LOG_REEL_LO i) = u.reel % 2 ^ 64 ∧ t.fld (Fld.STM_UR_LOG_INFO_TARGET i) = x.val ∧
      t.fld (Fld.STM_UR_LOG_INFO_STREAM i) = u.stream ∧ t.fld (Fld.STM_UR_LOG_INFO_CAUSE i) = u.cause ∧
      (t.rd (Reg.STM_UR_LOG_POS i)).toNat = u.pos % 2 ^ 32 ∧ t.fld Fld.STM_UR_HEAD_NEXT = (i + 1) % 16 ∧
      t.fld Fld.STM_UR_HEAD_PENDING = min 16 (s.fld Fld.STM_UR_HEAD_PENDING + 1) ∧
      t.fld Fld.STM_UR_HEAD_LOST = (if s.fld Fld.STM_UR_HEAD_PENDING = 16 then min 0xFFFF (s.fld Fld.STM_UR_HEAD_LOST + 1) else s.fld
      Fld.STM_UR_HEAD_LOST) ∧ t.later = s.later ++ [(s.tick + 2, .underrunStop (s.tgt x).urSpn)] ∧ (t.tgt x).urRec = none) ∧
    (∀ (x : Fin 640), s.bit (Fld.STM_TGT_STATUS_MUTED_UR x) = true → (s.tgt x).urTick ≤ (s.spindle (s.tgt x).urSpn).idleTick →
      (s.spindle (s.tgt x).urSpn).idleTick < s.tick → Completes (.underrunZeroEnd x) s fun t =>
      t.fld (Fld.STM_TGT_STATUS_MUTED_UR x) = 0 ∧ OnlyRegs [Reg.STM_TGT_STATUS x] s t) ∧
    (∀ (x : Fin 640), (s.spindle (s.tgt x).urSpn).idleTick < (s.tgt x).urTick ∨ s.tick ≤ (s.spindle (s.tgt x).urSpn).idleTick →
      Completes (.underrunZeroEnd x) s fun t => t = s) ∧
    (∀ (path : Path) (v : Word), s.accepts path Reg.STM_UR_HEAD = true → Completes (.urAck path v) s fun t =>
      t.fld Fld.STM_UR_HEAD_PENDING = s.fld Fld.STM_UR_HEAD_PENDING - v.toNat / 4096 % 16 ∧
      t.fld Fld.STM_UR_HEAD_NEXT = s.fld Fld.STM_UR_HEAD_NEXT ∧ OnlyRegs [Reg.STM_UR_HEAD] s t) ∧
    (s.sinceSync % 5000 = 0 → s.syn.biaTick ≠ some s.tick → s.permitted = true → Completes .biasUpdate s fun t =>
      ∀ b : Fin 64, s.sup.hold ≠ some (192 + b.val) →
      t.fld (Fld.SYN_BIA_NOW_CODE b) = twos 20 (if (s.biasTarget b - sgn 20 (s.fld (Fld.SYN_BIA_NOW_CODE b))).natAbs ≤ s.fld
      (Fld.SYN_BIA_SLEW_CODE b) then s.biasTarget b else if sgn 20 (s.fld (Fld.SYN_BIA_NOW_CODE b)) ≤ s.biasTarget b then sgn 20
      (s.fld (Fld.SYN_BIA_NOW_CODE b)) + s.fld (Fld.SYN_BIA_SLEW_CODE b) else sgn 20 (s.fld (Fld.SYN_BIA_NOW_CODE b)) - s.fld
      (Fld.SYN_BIA_SLEW_CODE b))) ∧
    (s.sinceSync % 5000 ≠ 0 ∨ s.permitted = false → Completes .biasUpdate s fun t => ∀ off, t.rd off = s.rd off)

/-- Roving streams (R190 to R193, R367): a restart empties the ring and primes, a request asks for up to 4 KiB of an uncompressed
DRAM source and starts again where the source is exhausted and wraps, and its bytes join the ring behind what it holds; the
watermark PRIME makes the stream ready, and a failed fetch stops its refill. A request of the host's memory goes out only while
its queue has the oldest one (R397), and one of DRAM completes only after its granules have been granted (R362). -/
def Obligations.RovingStreams : Prop :=
  ∀ (s : State) (r : Fin 64), s.Wf →
    (∀ (path : Path) (v : Word), s.accepts path (Reg.STM_RV_CMD r) = true → v.getLsbD 0 = true → s.bit (Fld.STM_RV_CFG_EN r) = true →
      4 ≤ s.mode → s.mode ≤ 6 → s.streamPlays r = false → Completes (.rvRestart path r v) s fun t => t.stream r = {} ∧
      t.fld (Fld.STM_RV_FILL_BYTES r) = 0 ∧ t.rd64 (Reg.STM_RV_POS_LO r) = 0 ∧
      t.fld (Fld.STM_RV_STATUS_STATE r) = (if s.fld (Fld.STM_RV_WM_PRIME r) = 0 then 2 else 1)) ∧
    (∀ (path : Path) (v : Word), s.accepts path (Reg.STM_RV_CMD r) = true → s.streamPlays r = true →
      Completes (.rvRestart path r v) s fun t => t.rv = s.rv ∧ t.regs = s.regs) ∧
    (∀ (m : Nat), s.refills r = true → s.bit (Fld.STM_RV_CFG_COMPRESSED r) = false → s.fld (Fld.STM_RV_CFG_SRC r) = 0 →
      s.fld (Fld.STM_RV_LEN_VALUE r) ≠ 0 →
      (s.stream r).asked % s.fld (Fld.STM_RV_LEN_VALUE r) ≠ 0 ∨ (s.stream r).asked = 0 ∨ s.bit (Fld.STM_RV_CFG_WRAP r) = true →
      s.fld (Fld.STM_RV_FILL_BYTES r) + (s.stream r).coming + 4096 ≤ s.ringSize r →
      m = min 256 (s.fld (Fld.STM_RV_LEN_VALUE r) - (s.stream r).asked % s.fld (Fld.STM_RV_LEN_VALUE r)) →
      Completes (.refillRequest r) s fun t => (t.stream r).asked = (s.stream r).asked + m ∧
      (t.stream r).reqs = (s.stream r).reqs ++ [(16 * m, m)] ∧ t.dramWaits (.refill r (s.stream r).asked) = true ∧
      (t.fld (Fld.STM_RV_EVENT_WRAPPED r) = 1 ∨ (s.stream r).asked = 0 ∨ (s.stream r).asked % s.fld (Fld.STM_RV_LEN_VALUE r) ≠ 0)) ∧
    (s.bit (Fld.STM_RV_CFG_COMPRESSED r) = false → s.hostRefillReady r = true → s.oldestRead r = true →
      Completes (.refillRequest r) s fun t => (t.stream r).asked = (s.stream r).asked + s.refillUnits r ∧
      t.readySince (s.queueOf r) = s.tick + 1 ∧ t.mem = s.mem) ∧
    ((s.refillUnits r = 0 ∨ (s.hostRefillReady r = true ∧ s.oldestRead r = false)) → Completes (.refillRequest r) s fun t => t = s) ∧
    (∀ (host : List Byte) (err : Bool) (bytes m : Nat), (s.stream r).reqs = [(bytes, m)] → (s.stream r).asked = m →
      s.bit (Fld.STM_RV_CFG_COMPRESSED r) = false → s.fld (Fld.STM_RV_CFG_SRC r) = 0 → err = false →
      s.dramMarked (s.rd64 (Reg.STM_RV_SRC_LO r)) bytes = false → s.dramWaits (.refill r 0) = false →
      s.fld (Fld.STM_RV_STATUS_STATE r) = 1 → bytes ≤ s.ringSize r → s.fld (Fld.STM_RV_FILL_BYTES r) + bytes < 2 ^ 25 →
      Completes (.refillComplete r host err) s fun t =>
      (∀ i < bytes, t.sramByte (s.ringAddr r ((s.stream r).stored + i)) = s.dramByte (s.rd64 (Reg.STM_RV_SRC_LO r) + i)) ∧
      (t.stream r).stored = (s.stream r).stored + bytes ∧ (t.stream r).reqs = [] ∧
      t.fld (Fld.STM_RV_FILL_BYTES r) = s.fld (Fld.STM_RV_FILL_BYTES r) + bytes ∧
      (256 * s.fld (Fld.STM_RV_WM_PRIME r) ≤ s.fld (Fld.STM_RV_FILL_BYTES r) + bytes → t.fld (Fld.STM_RV_STATUS_STATE r) = 2 ∧
      t.fld (Fld.STM_RV_EVENT_PRIMED r) = 1)) ∧
    (∀ (host : List Byte) (err : Bool), (s.stream r).reqs ≠ [] → s.bit (Fld.STM_RV_CFG_COMPRESSED r) = false →
      s.fld (Fld.STM_RV_CFG_SRC r) = 1 → err = true → Completes (.refillComplete r host err) s fun t => (t.stream r).failed = true ∧
      (t.stream r).reqs = [] ∧ t.fld (Fld.STM_RV_EVENT_SRC_ERR r) = 1 ∧ t.sram = s.sram ∧
      t.fld (Fld.STM_RV_FILL_BYTES r) = s.fld (Fld.STM_RV_FILL_BYTES r)) ∧
    (∀ (host : List Byte) (err : Bool), s.fld (Fld.STM_RV_CFG_SRC r) = 0 →
      s.dramWaits (.refill r ((s.stream r).asked - ((s.stream r).reqs.map Prod.snd).sum)) = true →
      Completes (.refillComplete r host err) s fun t => t = s)

/-- Front-end settings (R201, R204, R206, R207, R211, R216): a write is kept for the next group boundary; there the attenuation
changes and marks five groups of raw samples, a changed tuning word or filter marks 15 channel samples, a digital gain marks
none, a calibration set marks two groups on every port, and a port that wakes is used again. -/
def Obligations.FrontEndChanges : Prop :=
  ∀ (s : State), s.Wf →
    (∀ (path : Path) (a : Fin 16) (v : Word), s.accepts path (Reg.RDO_ACQ_ATT a) = true → Completes (.attWrite path a v) s fun t =>
      t.fld (Fld.RDO_ACQ_ATT_ATT a) = v.toNat % 32 ∧
      t.rdo.changes = s.rdo.changes ++ [((if s.sinceSync % 2 = 1 then s.tick + 1 else s.tick + 2), .att a (v.toNat % 32))] ∧
      t.fld (Fld.RDO_ACQ_STATUS_ATT_NOW a) = s.fld (Fld.RDO_ACQ_STATUS_ATT_NOW a) ∧ OnlyRegs [Reg.RDO_ACQ_ATT a] s t) ∧
    (∀ (a : Fin 16) (v : Nat), s.rdo.changes = [(s.tick, .att a v)] → v < 32 → Completes .frontEndChangeApply s fun t =>
      t.fld (Fld.RDO_ACQ_STATUS_ATT_NOW a) = v ∧ t.rdo.changes = [] ∧
      (t.acq a).settle = (if s.fld (Fld.RDO_ACQ_STATUS_ATT_NOW a) = v then (s.acq a).settle else max (s.acq a).settle
      (s.sinceSync / 2 + 5)) ∧ OnlyRegs [Reg.RDO_ACQ_STATUS a] s t) ∧
    (∀ (r : Fin 256) (w : Nat), s.rdo.changes = [(s.tick, .ftw r w)] → w < 2 ^ 48 → Completes .frontEndChangeApply s fun t =>
      t.appliedFtw r = w ∧
      (t.rdoCh r).mark = (if s.appliedFtw r = w then (s.rdoCh r).mark else max (s.rdoCh r).mark (s.sinceSync / 2 + 15)) ∧
      t.rdo.changes = [] ∧ OnlyRegs [Reg.RDO_CH_APPLIED_FTW_LO r, Reg.RDO_CH_APPLIED_FTW_HI r] s t) ∧
    (∀ (r : Fin 256) (v : Nat), s.rdo.changes = [(s.tick, .filter r v)] → Completes .frontEndChangeApply s fun t =>
      (t.rdoCh r).filter = v ∧
      (t.rdoCh r).mark = (if (s.rdoCh r).filter = v then (s.rdoCh r).mark else max (s.rdoCh r).mark (s.sinceSync / 2 + 15)) ∧
      t.regs = s.regs) ∧
    (∀ (r : Fin 256) (v : Nat), s.rdo.changes = [(s.tick, .gain r v)] → Completes .frontEndChangeApply s fun t =>
      (t.rdoCh r).gain = v ∧ (t.rdoCh r).mark = (s.rdoCh r).mark ∧ t.rdo.acq = s.rdo.acq ∧ t.regs = s.regs) ∧
    (∀ (v : Nat), s.rdo.changes = [(s.tick, .calSet v)] → v < 8 → Completes .frontEndChangeApply s fun t =>
      t.fld Fld.RDO_STATUS_CAL_SET = v ∧ (∀ a : Fin 16, (t.acq a).settle = max (s.acq a).settle (s.sinceSync / 2 + 2)) ∧
      OnlyRegs [Reg.RDO_STATUS] s t) ∧
    (∀ (a : Fin 16), s.rdo.changes = [(s.tick, .portOff a)] → Completes .frontEndChangeApply s fun t => (t.acq a).awake = false ∧
      t.fld (Fld.RDO_ACQ_STATUS_ACTIVE a) = 0 ∧ OnlyRegs [Reg.RDO_ACQ_STATUS a] s t) ∧
    (∀ (a : Fin 16), s.rdo.changes = [(s.tick, .portOn a)] → Completes .frontEndChangeApply s fun t => (t.acq a).awake = true ∧
      t.fld (Fld.RDO_ACQ_STATUS_ACTIVE a) = 1 ∧ (t.acq a).settle = (s.acq a).settle ∧ OnlyRegs [Reg.RDO_ACQ_STATUS a] s t)

/-- A group of an ACQ port ends (R202, R203, R207, R213, R216, R543): its raw samples join the history with their flags, or as
samples of a port not awake, codes at an extreme are counted, and each readout channel on the port has the sample of that group,
marked where its span or a change marks it. -/
def Obligations.ChannelSamples : Prop :=
  ∀ (s : State), s.Wf →
    (∀ (a : Fin 16) (adc : List (BitVec 12)), 2 ≤ s.sinceSync → s.mode ≠ 3 → (s.acq a).lastGroup ≠ some (s.sinceSync / 2 - 1) →
      s.sampling a = true → adc.length = 64 → Completes (.channelSample a adc) s fun t => (t.acq a).raw = ((adc.map fun c =>
      16 * c.toNat + 8 * b2n (decide (s.sinceSync / 2 - 1 < (s.acq a).settle)) + 4 * b2n (c == 0x800 || c == 0x7FF)) :: (if
      (s.acq a).lastGroup = some (s.sinceSync / 2 - 1 - 1) ∧ s.sinceSync / 2 - 1 ≠ 0 then (s.acq a).raw else [])).take 16 ∧
      (t.acq a).lastGroup = some (s.sinceSync / 2 - 1) ∧
      t.fld (Fld.RDO_ACQ_OVR_CNT_COUNT a) = min 0xFFFFFFFF (s.fld (Fld.RDO_ACQ_OVR_CNT_COUNT a) +
      (adc.filter fun c => c == 0x800 || c == 0x7FF).length) ∧ (0x800 ∈ adc ∨ 0x7FF ∈ adc →
      t.fld (Fld.RDO_ACQ_EVENT_OVERRANGE a) = 1 ∧ t.fld Fld.RDO_EVENT_OVERRANGE = 1)) ∧
    (∀ (a : Fin 16) (adc : List (BitVec 12)), 2 ≤ s.sinceSync → s.mode ≠ 3 → (s.acq a).lastGroup ≠ some (s.sinceSync / 2 - 1) →
      s.sampling a = false → Completes (.channelSample a adc) s fun t =>
      (t.acq a).raw = (List.replicate 64 8 :: (if (s.acq a).lastGroup = some (s.sinceSync / 2 - 1 - 1) ∧
      s.sinceSync / 2 - 1 ≠ 0 then (s.acq a).raw else [])).take 16 ∧
      t.fld (Fld.RDO_ACQ_OVR_CNT_COUNT a) = s.fld (Fld.RDO_ACQ_OVR_CNT_COUNT a) ∧ t.fld (Fld.RDO_ACQ_STATUS_MARKING a) = 1) ∧
    (∀ (a : Fin 16) (adc : List (BitVec 12)) (r : Fin 256), 2 ≤ s.sinceSync → s.mode ≠ 3 →
      (s.acq a).lastGroup ≠ some (s.sinceSync / 2 - 1) → s.sampling a = true → s.arrayPort a = false → r.val ∈ s.acqChannels a →
      (s.acq a).settle ≤ s.sinceSync / 2 - 1 → 15 ≤ (s.acq a).raw.length → (s.acq a).lastGroup = some (s.sinceSync / 2 - 1 - 1) →
      s.sinceSync / 2 - 1 ≠ 0 → (∀ x ∈ (s.acq a).raw, ∀ w ∈ x, bitOf w 3 = false) → Completes (.channelSample a adc) s fun t =>
      (t.dscCh r).sample.map (fun p => (p.1, p.2.getLsbD 0)) = some (s.sinceSync / 2 - 1, decide
      (s.sinceSync / 2 - 1 < (s.rdoCh r).mark)) ∧ (((s.dscCh r).win ≠ none ∨ (s.dscCh r).rwins ≠ []) →
      ∃ w, (s.tick + 25, .sampleArrives r (s.sinceSync / 2 - 1) w) ∈ t.later))

/-- Array readout (R216, R219 to R222, R224, R225): tone samples and their marks, the comb switched at a multiple of 16 envelope
samples, tone words held in M4 to M6 until TONE_P, accepted for the next bin boundary or refused with the tone's number, and
applied there with their marking. -/
def Obligations.ArrayTones : Prop :=
  ∀ (s : State) (a : Fin 16), s.Wf →
    (∀ (i : Fin 1024), s.arrayPort a = true → s.bit (Fld.RDO_ARR_TONE_C_EN a i) = true → 4 ≤ s.mode → s.mode ≤ 6 → 0 < s.sinceSync →
      s.sinceSync % s.tonePeriod a = 0 → ((sget (fun _ => none) (s.arrPair a).last i).map Prod.fst ≠ some s.sinceSync) →
      (sparseWf (fun _ => none) (s.arrPair a).last = true) → Completes (.toneSample a i) s fun t =>
      (sget (fun _ => none) (t.arrPair a).last i).map (fun (q : Nat × Word) => (q.1, q.2.getLsbD 0)) = some (s.sinceSync,
      (s.arrPair a).marked i s.sinceSync || !(s.acq a).awake || s.inToneSpan a (s.arrPair a).sleepGroup) ∧
      ((s.arrPair a).marked i s.sinceSync = true → t.fld (Fld.RDO_ACQ_STATUS_MARKING a) = 1) ∧
      (t.arrPair a).bins = (s.arrPair a).bins) ∧
    (∀ (path : Path) (v : Word), s.accepts path (Reg.RDO_ARR_CFG a) = true → (s.arrPair a).combNew ≠ v.getLsbD 0 →
      Completes (.combOnWrite path a v) s fun t => t.bit (Fld.RDO_ARR_CFG_COMB_ON a) = v.getLsbD 0 ∧
      (t.arrPair a).combNew = v.getLsbD 0 ∧ (t.arrPair a).combDue % 16 = 0 ∧ 4 * s.sinceSync + 4 ≤ (t.arrPair a).combDue ∧
      (t.arrPair a).combDue ≤ 4 * s.sinceSync + 19 ∧ (t.arrPair a).combOld = (s.arrPair a).combAt (4 * s.sinceSync + 3)) ∧
    (∀ (path : Path) (i : Fin 1024) (v : Word), s.accepts path (Reg.RDO_ARR_TONE_F a i) = true → s.holdsTones = true →
      (sparseWf (fun _ => none) (s.arrPair a).heldF = true) → Completes (.toneFcWrite path a i false v) s fun t =>
      sget (fun _ => none) (t.arrPair a).heldF i = some v ∧ t.regs = s.regs) ∧
    (∀ (path : Path) (i : Fin 1024) (v : Word), s.accepts path (Reg.RDO_ARR_TONE_C a i) = true → s.holdsTones = true →
      (sparseWf (fun _ => none) (s.arrPair a).heldC = true) → Completes (.toneFcWrite path a i true v) s fun t =>
      sget (fun _ => none) (t.arrPair a).heldC i = some (v &&& 0xFFFF0001) ∧ t.regs = s.regs) ∧
    (∀ (path : Path) (i : Fin 1024) (c : Bool) (v : Word), (s.accepts path (if c then Reg.RDO_ARR_TONE_C a i else Reg.RDO_ARR_TONE_F a
      i) = true) → s.holdsTones = false → s.rwlLocked = false → s.rd (Reg.RDO_ARR_TONE_C a i) &&& 0xFFFE = 0 →
      Completes (.toneFcWrite path a i c v) s fun t =>
      t.rd (if c then Reg.RDO_ARR_TONE_C a i else Reg.RDO_ARR_TONE_F a i) = (if c then v &&& 0xFFFF0001 else v) ∧ t.rdo = s.rdo) ∧
    (∀ (path : Path) (i : Fin 1024) (v f c : Word), s.accepts path (Reg.RDO_ARR_TONE_P a i) = true → s.holdsTones = true →
      (sparseWf (fun _ => none) (s.arrPair a).heldF = true) → (sparseWf (fun _ => none) (s.arrPair a).heldC = true) →
      (sget (fun _ => none) (s.arrPair a).heldF i = some f) → (sget (fun _ => none) (s.arrPair a).heldC i = some c) →
      offInBand f.toInt = true → nearBin f.toInt = true → (((List.range 1024).all fun j =>
      j == i.val || !(s.toneEntry a j).2.1.getLsbD 0 || toneBin (s.toneEntry a j).1.toInt != toneBin f.toInt) = true) →
      s.abovePeak (32 + a) (s.combPower a (s.combAmps a i c)) = false → Completes (.tonePWrite path a i v) s fun t =>
      (i.val, s.tick, (f, c, v)) ∈ (t.arrPair a).accepted ∧ sget (fun _ => none) (t.arrPair a).heldF i = none ∧
      sget (fun _ => none) (t.arrPair a).heldC i = none ∧ t.regs = s.regs) ∧
    (∀ (path : Path) (i : Fin 1024) (v f : Word), s.accepts path (Reg.RDO_ARR_TONE_P a i) = true → s.holdsTones = true →
      (sparseWf (fun _ => none) (s.arrPair a).heldF = true) → (sget (fun _ => none) (s.arrPair a).heldF i = some f) →
      offInBand f.toInt = false → Completes (.tonePWrite path a i v) s fun t => t.fld (Fld.RDO_ARR_EVENT_TONE_REFUSED a) = 1 ∧
      t.fld Fld.RDO_EVENT_TONE_REFUSED = 1 ∧ t.fld (Fld.RDO_ARR_STATUS_LAST_REFUSED a) = i.val ∧
      (t.arrPair a).accepted = (s.arrPair a).accepted ∧ sget (fun _ => none) (t.arrPair a).heldF i = none ∧
      t.rd (Reg.RDO_ARR_TONE_F a i) = s.rd (Reg.RDO_ARR_TONE_F a i)) ∧
    (∀ (path : Path) (i : Fin 1024) (v : Word), s.accepts path (Reg.RDO_ARR_TONE_P a i) = true → s.holdsTones = false →
      s.rwlLocked = false → Completes (.tonePWrite path a i v) s fun t => t.rd (Reg.RDO_ARR_TONE_P a i) = v ∧ t.rdo = s.rdo) ∧
    (∀ (i : Fin 1024) (made : Nat) (f c p : Word), (s.arrPair a).accepted = [(i.val, made, (f, c, p))] → made < s.tick →
      s.sinceSync % 256 = 0 → (sparseWf (fun _ => []) (s.arrPair a).marks = true) → Completes (.toneApplied a i) s fun t =>
      t.rd (Reg.RDO_ARR_TONE_F a i) = f ∧ t.rd (Reg.RDO_ARR_TONE_C a i) = c ∧ t.rd (Reg.RDO_ARR_TONE_P a i) = p ∧
      t.fld (Fld.RDO_ARR_EVENT_TONE_APPLIED a) = 1 ∧ (t.arrPair a).accepted = [] ∧
      sget (fun _ => []) (t.arrPair a).marks i = (let m := sget (fun _ => []) (s.arrPair a).marks i; let more := fun (n : Nat) =>
      (m.filter fun k => decide (s.sinceSync ≤ k.2)) ++ [(s.sinceSync, (s.sinceSync / s.tonePeriod a + n) * s.tonePeriod a)]; if
      c.getLsbD 0 = false then m else if s.bit (Fld.RDO_ARR_TONE_C_EN a i) = false ∨ toneBin (s.rd (Reg.RDO_ARR_TONE_F a i)).toInt ≠
      toneBin f.toInt then more ((15 + s.decim a) / s.decim a + 4) else if s.rd (Reg.RDO_ARR_TONE_F a i) ≠ f then more 4 else m))

/-- An RWIN is taken up (R229, R230, R245, R250): the window latches its settings and one whole active classifier copy, the
channel's decision reads as none, an open window is cut, and a requested swap acts first, or is refused with fewer than two
classes. -/
def Obligations.ReadoutWindows : Prop :=
  ∀ (s : State) (r : Fin 256), s.Wf →
    (∀ (q : RwinReq) (l : List RwinReq), (s.dscCh r).rwins = q :: l → q.tick ≤ s.tick → q.kset < 2 → q.es < 2 →
      (∀ f ∈ (s.dscCh r).form, s.tick < f.1) → s.bit ⟨Reg.DSC_CH_SWAP r, q.kset, 1⟩ = false → Completes (.rwinTakeUp r) s fun t =>
      (t.dscCh r).win = some
      { kset := q.kset, es := q.es, len := q.len, g0 := q.g0, seq := (s.dscCh r).seq % 64, set := (List.range 16).map fun i => s.rd (Reg.DSC_SET_K_BASE r q.kset + 4 * i) }
      ∧ (t.dscCh r).rwins = l ∧ (t.dscCh r).decided = false ∧ (t.dscCh r).seq = (s.dscCh r).seq + 1 ∧
      t.fld (Fld.DSC_CH_STATUS_OPEN r) = 1 ∧ t.fld (Fld.DSC_CH_STATUS_KSET r) = q.kset ∧ t.fld (Fld.DSC_CH_STATUS_ES r) = q.es ∧
      t.fld (Fld.DSC_CH_STATUS_SAMPLES r) = 0 ∧ t.fld (Fld.DSC_CH_STATUS_SEQ r) = (s.dscCh r).seq % 64 ∧
      t.fld (Fld.DSC_CH_COUNT2_CUT r) = min 0xFFFF (s.fld (Fld.DSC_CH_COUNT2_CUT r) + b2n (s.dscCh r).win.isSome) ∧
      ((s.dscCh r).win ≠ none → t.fld (Fld.DSC_CH_EVENT_WIN_CUT r) = 1 ∧ t.fld Fld.DSC_EVENT_WIN_CUT = 1)) ∧
    (∀ (q : RwinReq) (l : List RwinReq), (s.dscCh r).rwins = q :: l → q.tick ≤ s.tick → q.kset < 2 →
      (∀ f ∈ (s.dscCh r).form, s.tick < f.1) → s.bit ⟨Reg.DSC_CH_SWAP r, q.kset, 1⟩ = true →
      (sget (fun _ => 0) s.wrSet (Reg.DSC_CH_SWAP r) = 0) → (sget (fun _ => 0) s.wrOne (Reg.DSC_CH_SWAP r) = 0) →
      s.fld (Fld.DSC_STG_K_CFG_CLS_EN r q.kset) ∈ [3, 5, 6, 7, 9, 10, 11, 12, 13, 14, 15] → Completes (.rwinTakeUp r) s fun t =>
      t.bit ⟨Reg.DSC_CH_SWAP r, q.kset, 1⟩ = false ∧ t.fld (Fld.DSC_CH_EVENT_SWAP_DONE r) = 1 ∧
      t.rd (Reg.DSC_SET_ES r q.kset) = s.rd (Reg.DSC_STG_ES r q.kset) ∧
      (∀ i : Fin 4, t.rd (Reg.DSC_SET_W r q.kset i) = s.rd (Reg.DSC_STG_W r q.kset i) ∧
      t.rd (Reg.DSC_SET_C_I r q.kset i) = s.rd (Reg.DSC_STG_C_I r q.kset i) ∧
      t.rd (Reg.DSC_SET_C_Q r q.kset i) = s.rd (Reg.DSC_STG_C_Q r q.kset i)) ∧
      t.fld (Fld.DSC_SET_K_CFG_SHIFT r q.kset) = s.fld (Fld.DSC_STG_K_CFG_SHIFT r q.kset) ∧
      t.fld (Fld.DSC_SET_K_CFG_CLS_EN r q.kset) = s.fld (Fld.DSC_STG_K_CFG_CLS_EN r q.kset) ∧
      t.fld (Fld.DSC_SET_K_CFG_KLEN r q.kset) = s.fld (Fld.DSC_SET_K_CFG_KLEN r q.kset) ∧
      t.rd (Reg.DSC_SET_K_BASE r q.kset) = s.rd (Reg.DSC_SET_K_BASE r q.kset) ∧
      (t.dscCh r).win.map (·.set) = some ((List.range 16).map fun i => t.rd (Reg.DSC_SET_K_BASE r q.kset + 4 * i))) ∧
    (∀ (q : RwinReq) (l : List RwinReq), (s.dscCh r).rwins = q :: l → q.tick ≤ s.tick → q.kset < 2 →
      (∀ f ∈ (s.dscCh r).form, s.tick < f.1) → s.bit ⟨Reg.DSC_CH_SWAP r, q.kset, 1⟩ = true →
      (sget (fun _ => 0) s.wrSet (Reg.DSC_CH_SWAP r) = 0) → (sget (fun _ => 0) s.wrOne (Reg.DSC_CH_SWAP r) = 0) →
      s.fld (Fld.DSC_STG_K_CFG_CLS_EN r q.kset) ∈ [0, 1, 2, 4, 8] → Completes (.rwinTakeUp r) s fun t =>
      t.bit ⟨Reg.DSC_CH_SWAP r, q.kset, 1⟩ = false ∧ t.fld (Fld.DSC_CH_EVENT_SWAP_REFUSED r) = 1 ∧
      t.fld Fld.DSC_EVENT_SWAP_REFUSED = 1 ∧
      (∀ i : Fin 16, t.rd (Reg.DSC_SET_K_BASE r q.kset + 4 * i) = s.rd (Reg.DSC_SET_K_BASE r q.kset + 4 * i)))

/-- Evaluations and decisions (R241 to R247): a VOID sample ends the window at its first evaluation, the last evaluation commits
the leading class, early stop commits one that is confident enough, and every other evaluation (no early stop, fewer than
MIN_EVAL, or less confident than ES_THRESH) lets the window go on without a decision; that a VOID decision has EARLY = 0 is the
model's choice (log entry 88). A committed decision is formed six ticks later, closes the window, sends its strand events twelve
ticks on and shows in the registers a tick later. -/
def Obligations.Decisions : Prop :=
  ∀ (s : State) (r : Fin 256), s.Wf →
    (∀ (w : Window) (v : Eval), (s.dscCh r).win = some w → (s.dscCh r).due = some v → (s.dscCh r).form = none → v.void = true →
      Completes (.evaluation r) s fun t =>
      (t.dscCh r).form.map (fun f => (f.1, f.2.word)) = some (s.tick + 6, BitVec.ofNat 32 (0 + 8 + 16 * b2n v.settle + 32 * b2n (v.ovr
      || (classify w v s).1.satV || (classify w v s).1.satP) + 64 * 0 + 128 * w.kset + 2 ^ 8 * 0 + 2 ^ 16 * v.e + 2 ^ 25 * w.seq + 2 ^
      31)) ∧ (t.dscCh r).due = none) ∧
    (∀ (w : Window) (v : Eval), (s.dscCh r).win = some w → (s.dscCh r).due = some v → (s.dscCh r).form = none → v.void = false →
      v.e = (w.len + 7) / 8 → Completes (.evaluation r) s fun t =>
      (t.dscCh r).form.map (fun f => (f.1, f.2.word)) = some (s.tick + 6, BitVec.ofNat 32 ((classify w v s).1.cls + 0 + 16 * b2n
      v.settle + 32 * b2n (v.ovr || (classify w v s).1.satV || (classify w v s).1.satP) + 64 * b2n
      (decide ((classify w v s).1.conf < (w.word 12).toNat % 256)) + 128 * w.kset + 2 ^ 8 * (classify w v s).1.conf + 2 ^ 16 * v.e + 2
      ^ 25 * w.seq + 2 ^ 31)) ∧ (t.dscCh r).due = none ∧ ((classify w v s).1.satV = true →
      (s.tick + 2, .satEvent r (s.dscCh r).taken) ∈ t.later) ∧ ((classify w v s).1.satP = true →
      (s.tick + 3, .satEvent r (s.dscCh r).taken) ∈ t.later)) ∧
    (∀ (w : Window) (v : Eval), (s.dscCh r).win = some w → (s.dscCh r).due = some v → (s.dscCh r).form = none → v.void = false →
      v.e ≠ (w.len + 7) / 8 → w.es = 1 → max 1 ((w.word 12).toNat / 256 % 512) ≤ v.e →
      (w.word 12).toNat % 256 ≤ (classify w v s).1.conf → Completes (.evaluation r) s fun t =>
      (t.dscCh r).form.map (fun f => (f.1, f.2.word)) = some (s.tick + 6, BitVec.ofNat 32 ((classify w v s).1.cls + 4 + 16 * b2n
      v.settle + 32 * b2n (v.ovr || (classify w v s).1.satV || (classify w v s).1.satP) + 64 * 0 + 128 * w.kset + 2 ^ 8 *
      (classify w v s).1.conf + 2 ^ 16 * v.e + 2 ^ 25 * w.seq + 2 ^ 31)) ∧ (t.dscCh r).due = none) ∧
    (∀ (w : Window) (v : Eval), (s.dscCh r).win = some w → (s.dscCh r).due = some v → (s.dscCh r).form = none → v.void = false →
      v.e ≠ (w.len + 7) / 8 → w.es ≠ 1 ∨ v.e < max 1 ((w.word 12).toNat / 256 % 512) → Completes (.evaluation r) s fun t =>
      (t.dscCh r).form = none ∧ (t.dscCh r).due = none ∧ (t.dscCh r).win = some w) ∧
    (∀ (w : Window) (v : Eval), (s.dscCh r).win = some w → (s.dscCh r).due = some v → (s.dscCh r).form = none → v.void = false →
      v.e ≠ (w.len + 7) / 8 → w.es = 1 → max 1 ((w.word 12).toNat / 256 % 512) ≤ v.e →
      (classify w v s).1.conf < (w.word 12).toNat % 256 → Completes (.evaluation r) s fun t => (t.dscCh r).form = none ∧
      (t.dscCh r).due = none ∧ (t.dscCh r).win = some w) ∧
    (∀ (x : Nat) (d : Decision), (s.dscCh r).form = some (x, d) → x ≤ s.tick → Completes (.decisionFormed r) s fun t =>
      (t.dscCh r).win = none ∧ (t.dscCh r).form = none ∧ t.fld (Fld.DSC_CH_STATUS_OPEN r) = 0 ∧
      t.pwr.decisions = s.pwr.decisions + 1 ∧ t.later = s.later ++ [(s.tick + 1, .loadDecision r s.stampNs d.word d.vI d.vQ)] ∧
      (∀ k : Fin 1024, ∀ o : Fin 7, s.fabricOn = true → s.strandOn k = true →
      s.fld (Fld.FAB_EV_CFG_PROD k) = 0x1000 + 8 * r.val + o.val → (if o.val < 4 then d.word.toNat % 4 = o.val ∧
      d.word.getLsbD 3 = false else if o.val = 4 then d.word.getLsbD 3 = true else if o.val = 5 then True else d.word.getLsbD 6 =
      true) → (s.tick + 12, k.val) ∈ t.fab.flight)) ∧
    (∀ (ns : Nat) (d vI vQ : Word), s.later = [(s.tick + 1, .loadDecision r ns d vI vQ)] → Completes .reelAdvance s fun t =>
      t.rd (Reg.DSC_CH_LAST_DEC r) = d ∧ t.rd (Reg.DSC_CH_LAST_V_I r) = vI ∧ t.rd (Reg.DSC_CH_LAST_V_Q r) = vQ ∧
      t.rd64 (Reg.DSC_CH_LAST_T_LO r) = ns % 2 ^ 64 ∧ t.fld (Fld.DSC_CH_EVENT_DECIDED r) = 1 ∧
      (d.getLsbD 2 = true → t.fld (Fld.DSC_CH_EVENT_EARLY r) = 1) ∧ (d.getLsbD 3 = true → t.fld (Fld.DSC_CH_EVENT_VOID r) = 1 ∧
      t.fld Fld.DSC_EVENT_VOID = 1) ∧ t.fld (Fld.DSC_CH_COUNT_DECISIONS r) = min 0xFFFF (s.fld (Fld.DSC_CH_COUNT_DECISIONS r) + 1) ∧
      t.fld Fld.DSC_COUNT_DECISIONS = min 0xFFFFFFFF (s.fld Fld.DSC_COUNT_DECISIONS + 1) ∧
      ((t.dscCh r).decided = true ↔ ∀ x ∈ (s.dscCh r).taken, x < s.tick)) ∧
    (∀ (k : Nat) (x : Word) (w : Window), s.later = [(s.tick + 1, .sampleArrives r k x)] → (s.dscCh r).win = some w → k = w.g0 + w.n →
      w.n < w.len → w.len ≤ 2048 → x.getLsbD 0 = false → Completes .reelAdvance s fun t =>
      (t.dscCh r).win.map (fun x => (x.n, x.zI, x.zQ, x.settle)) = some (w.n + 1, w.zI +
      ((s.kernelTap ((w.word 0).toNat % 2 ^ 20) w.n).1 * sgn 15 (x.toNat / 2) - (s.kernelTap ((w.word 0).toNat % 2 ^ 20) w.n).2 * sgn
      15 (x.toNat / 2 ^ 17)), w.zQ + ((s.kernelTap ((w.word 0).toNat % 2 ^ 20) w.n).1 * sgn 15 (x.toNat / 2 ^ 17) +
      (s.kernelTap ((w.word 0).toNat % 2 ^ 20) w.n).2 * sgn 15 (x.toNat / 2)), w.settle) ∧
      t.fld (Fld.DSC_CH_STATUS_SAMPLES r) = w.n + 1 ∧
      ((t.dscCh r).due.map (·.e) = if (w.n + 1) % 8 = 0 ∨ w.n + 1 = w.len then some ((w.n + 8) / 8) else (s.dscCh r).due.map (·.e)))

/-- An event becomes visible at its strand's one consumer (R118, R128, R257, R261, R262, R271, R276): it is counted, an input of a
spindle sets its latch in the next tick or, where it is a vector's source, the vector pends, a syndrome bit is set or inverted,
and a second event at the same consumer in the tick only sets the coincidence flag, as do events at both gates of an export
group (R277). -/
def Obligations.StrandEvents : Prop :=
  ∀ (s : State) (k : Fin 1024), s.Wf →
    (∀ (f : Nat × Nat) (c : Nat) (n : Fin 64) (i : Fin 16), ((s.fab.flight.find? fun f =>
      decide (f.1 ≤ s.tick) && f.2 == k.val) = some f) → s.fld (Fld.FAB_EV_CFG_CONS k) = c → s.reached c = false →
      c = 0x2000 + 16 * n.val + i.val → (∀ v : Fin 8, s.bit (Fld.SPN_VEC_EN n v) = true → s.fld (Fld.SPN_VEC_SRC n v) ≠ i.val) →
      Completes (.strandEvent k) s fun t => t.later = s.later ++ [(s.tick + 1, .sinSet n i)] ∧ t.fab.flight = s.fab.flight.erase f ∧
      t.fld (Fld.FAB_EV_COUNT_EVENTS k) = min 0xFFFFFF (s.fld (Fld.FAB_EV_COUNT_EVENTS k) + 1)) ∧
    (∀ (f : Nat × Nat) (c : Nat) (n : Fin 64) (i : Fin 16) (v : Fin 8), ((s.fab.flight.find? fun f =>
      decide (f.1 ≤ s.tick) && f.2 == k.val) = some f) → s.fld (Fld.FAB_EV_CFG_CONS k) = c → s.reached c = false →
      c = 0x2000 + 16 * n.val + i.val → (∀ u : Fin 8, (s.bit (Fld.SPN_VEC_EN n u) = true ∧
      s.fld (Fld.SPN_VEC_SRC n u) = i.val) ↔ u = v) → Completes (.strandEvent k) s fun t =>
      t.later = s.later ++ [(s.tick + 1, .vecPend n v)] ∧ t.fab.flight = s.fab.flight.erase f ∧
      t.fld (Fld.FAB_EV_COUNT_EVENTS k) = min 0xFFFFFF (s.fld (Fld.FAB_EV_COUNT_EVENTS k) + 1)) ∧
    (∀ (f : Nat × Nat) (c : Nat) (m b : Fin 16), ((s.fab.flight.find? fun f => decide (f.1 ≤ s.tick) && f.2 == k.val) = some f) →
      s.fld (Fld.FAB_EV_CFG_CONS k) = c → s.reached c = false → c = 0x3000 + 16 * m.val + b.val →
      Completes (.strandEvent k) s fun t =>
      (if s.bit (Fld.FAB_CT_CFG_SYND_MODE m) = true then bitOf (t.fld (Fld.FAB_CT_STATE_SYND m)) b = !bitOf
      (s.fld (Fld.FAB_CT_STATE_SYND m)) b else bitOf (t.fld (Fld.FAB_CT_STATE_SYND m)) b = true) ∧ (∀ j : Fin 16, j ≠ b →
      bitOf (t.fld (Fld.FAB_CT_STATE_SYND m)) j = bitOf (s.fld (Fld.FAB_CT_STATE_SYND m)) j) ∧
      (s.bit (Fld.FAB_CT_CFG_SYND_MODE m) = false → bitOf (s.fld (Fld.FAB_CT_STATE_SYND m)) b = true →
      t.fld (Fld.FAB_CT_EVENT_SYND_OVR m) = 1 ∧
      t.fld (Fld.FAB_CT_COUNT_OVERRUN m) = min 0xFFFF (s.fld (Fld.FAB_CT_COUNT_OVERRUN m) + 1)) ∧
      t.fld (Fld.FAB_EV_COUNT_EVENTS k) = min 0xFFFFFF (s.fld (Fld.FAB_EV_COUNT_EVENTS k) + 1)) ∧
    (∀ (f : Nat × Nat) (c : Nat), ((s.fab.flight.find? fun f => decide (f.1 ≤ s.tick) && f.2 == k.val) = some f) →
      s.fld (Fld.FAB_EV_CFG_CONS k) = c → s.reached c = false → c / 0x1000 = 1 ∨ c / 0x1000 = 4 ∨ c / 0x1000 = 5 ∨ c / 0x1000 = 6 →
      Completes (.strandEvent k) s fun t => t.visible c = true ∧
      t.fab.shown = k.val :: (if s.fab.visTick = s.tick then s.fab.shown else []) ∧ t.later = s.later ∧
      t.fld (Fld.FAB_EV_COUNT_EVENTS k) = min 0xFFFFFF (s.fld (Fld.FAB_EV_COUNT_EVENTS k) + 1)) ∧
    (∀ (f : Nat × Nat) (m b : Fin 16), ((s.fab.flight.find? fun f => decide (f.1 ≤ s.tick) && f.2 == k.val) = some f) →
      s.fld (Fld.FAB_EV_CFG_CONS k) = 0x3000 + 16 * m.val + b.val → s.reached (0x3000 + 16 * m.val + b.val) = true →
      (s.fab.seen.filter (· == 0x3000 + 16 * m.val + b.val)).length = 1 → Completes (.strandEvent k) s fun t =>
      t.fld (Fld.FAB_CT_EVENT_COINCIDENT m) = 1 ∧ t.fld (Fld.FAB_CT_STATE_SYND m) = s.fld (Fld.FAB_CT_STATE_SYND m) ∧
      t.fab.vis = s.fab.vis ∧ t.fld (Fld.FAB_EV_COUNT_EVENTS k) = min 0xFFFFFF (s.fld (Fld.FAB_EV_COUNT_EVENTS k) + 1)) ∧
    (∀ (f : Nat × Nat) (c : Nat) (g : Fin 64), ((s.fab.flight.find? fun f => decide (f.1 ≤ s.tick) && f.2 == k.val) = some f) →
      s.fld (Fld.FAB_EV_CFG_CONS k) = c → s.reached c = false → c / 2 = 0x3000 + g.val →
      (s.reached (if c % 2 = 0 then c + 1 else c - 1) = true) → Completes (.strandEvent k) s fun t => t.visible c = true ∧
      t.fld (Fld.FAB_GRP_EVENT_COINCIDENT g) = 1) ∧
    (∀ (path : Path) (v : Word), s.accepts path Reg.FAB_FORCE = true → s.debugControl = true → s.mode = 5 ∨ s.mode = 6 →
      s.strandOn (v.toNat % 1024) = true → Completes (.fabForce path v) s fun t => (s.tick + 1, v.toNat % 1024) ∈ t.fab.flight ∧
      t.fld Fld.FAB_EVENT_FORCED = 1) ∧
    (∀ (path : Path) (v : Word), s.accepts path Reg.FAB_FORCE = true → s.debugControl = false ∨ s.mode < 5 →
      Completes (.fabForce path v) s fun t => t.fab = s.fab ∧ t.regs = s.regs)

/-- A ply cell evaluates a tick (R263 to R266), where nothing clears it: the new input states, the truth table's value, with a
flip-flop delayed by one tick, the filter, and the output event. The filtered level follows a value that has been held for FILT
+ 1 ticks. That a HOLD input cleared in the tick of a new event counts no OVERRUN is read from R264 (log entry 89). -/
def Obligations.PlyCells : Prop :=
  ∀ (s : State) (n : Fin 512), s.Wf →
    (s.fabricOn = true → ((sget (fun _ => {}) s.fab.ply n).last ≠ some s.tick) → s.bit (Fld.FAB_PLY_CFG_AUTO_CLR n) = false →
      (∀ i : Fin 4, s.plyMode n i = 3 → s.visible (0x1000 + 4 * n + i) = false) → s.bit (Fld.FAB_PLY_CFG_FB n) = false →
      Completes (.plyEval n) s fun t =>
      (∀ i : Fin 4, bitOf (t.fld (Fld.FAB_PLY_STATUS_X n)) i = if s.plyMode n i = 0 then s.visible (0x1000 + 4 * n + i) else if
      s.plyMode n i = 1 then bitOf (s.fld (Fld.FAB_PLY_STATUS_X n)) i || s.visible (0x1000 + 4 * n + i) else if s.plyMode n i = 2 then
      bitOf (s.fld (Fld.FAB_PLY_STATUS_X n)) i != s.visible (0x1000 + 4 * n + i) else false) ∧
      t.fld (Fld.FAB_PLY_STATUS_L n) = b2n (bitOf (s.fld (Fld.FAB_PLY_CFG_TT n)) (t.fld (Fld.FAB_PLY_STATUS_X n))) ∧
      t.fld (Fld.FAB_PLY_STATUS_Q n) = (if s.bit (Fld.FAB_PLY_CFG_FF_EN n) then t.fld (Fld.FAB_PLY_STATUS_L n) else s.fld
      (Fld.FAB_PLY_STATUS_Q n)) ∧ (s.fld (Fld.FAB_PLY_FILT_FILT n) = 0 →
      t.fld (Fld.FAB_PLY_STATUS_F n) = (if s.bit (Fld.FAB_PLY_CFG_FF_EN n) then s.fld (Fld.FAB_PLY_STATUS_Q n) else t.fld
      (Fld.FAB_PLY_STATUS_L n)))) ∧
    (s.fabricOn = true → ((sget (fun _ => {}) s.fab.ply n).last ≠ some s.tick) → s.bit (Fld.FAB_PLY_CFG_FF_EN n) = false →
      s.fld (Fld.FAB_PLY_FILT_FILT n) = 0 → s.fld (Fld.FAB_PLY_CFG_TT n) = 0xFFFF →
      (s.fld (Fld.FAB_PLY_CFG_OUT_MODE n) = 0 ∨ (s.fld (Fld.FAB_PLY_CFG_OUT_MODE n) = 1 ∧ s.bit (Fld.FAB_PLY_STATUS_F n) = false)) →
      Completes (.plyEval n) s fun t => (∀ k : Fin 1024, s.strandOn k = true → s.fld (Fld.FAB_EV_CFG_PROD k) = 0x2000 + n.val →
      (s.tick + 1, k.val) ∈ t.fab.flight) ∧
      t.fld (Fld.FAB_PLY_STATUS_EMITS n) = min 0xFFFF (s.fld (Fld.FAB_PLY_STATUS_EMITS n) + 1)) ∧
    (s.fabricOn = true → ((sget (fun _ => {}) s.fab.ply n).last ≠ some s.tick) → s.bit (Fld.FAB_PLY_CFG_FB n) = false →
      (∃ i : Fin 4, s.plyMode n i = 3 ∧ s.visible (0x1000 + 4 * n + i) = true) → Completes (.plyEval n) s fun t =>
      (∀ i : Fin 4, s.plyMode n i = 1 ∨ s.plyMode n i = 2 →
      bitOf (t.fld (Fld.FAB_PLY_STATUS_X n)) i = s.visible (0x1000 + 4 * n + i)) ∧
      t.fld (Fld.FAB_PLY_STATUS_OVERRUN n) = s.fld (Fld.FAB_PLY_STATUS_OVERRUN n)) ∧
    (∀ (i : Fin 4), s.fabricOn = true → ((sget (fun _ => {}) s.fab.ply n).last ≠ some s.tick) →
      s.bit (Fld.FAB_PLY_CFG_AUTO_CLR n) = false → (∀ i : Fin 4, s.plyMode n i ≠ 3) → s.plyMode n i = 1 →
      s.visible (0x1000 + 4 * n + i) = true → bitOf (s.fld (Fld.FAB_PLY_STATUS_X n)) i = true → Completes (.plyEval n) s fun t =>
      t.fld (Fld.FAB_PLY_STATUS_OVERRUN n) = 1 ∧ t.fld Fld.FAB_EVENT_OVERRUN = 1) ∧
    (s.fabricOn = true → ((sget (fun _ => {}) s.fab.ply n).last ≠ some s.tick) → Completes (.plyEval n) s fun t =>
      (sget (fun _ => {}) t.fab.ply n).a = (if s.bit (Fld.FAB_PLY_CFG_FF_EN n) then s.bit (Fld.FAB_PLY_STATUS_Q n) else t.bit
      (Fld.FAB_PLY_STATUS_L n)) ∧ (sget (fun _ => {}) t.fab.ply n).run = (if (sget (fun _ => {}) s.fab.ply n).last.isSome = true ∧
      (sget (fun _ => {}) s.fab.ply n).a = (sget (fun _ => {}) t.fab.ply n).a then (sget (fun _ => {}) s.fab.ply n).run + 1 else 1) ∧
      t.bit (Fld.FAB_PLY_STATUS_F n) = (if s.fld (Fld.FAB_PLY_FILT_FILT n) + 1 ≤ (sget (fun _ => {}) t.fab.ply n).run then
      (sget (fun _ => {}) t.fab.ply n).a else s.bit (Fld.FAB_PLY_STATUS_F n)) ∧
      t.fld (Fld.FAB_PLY_STATUS_EMITS n) = min 0xFFFF (s.fld (Fld.FAB_PLY_STATUS_EMITS n) + b2n (if s.fld (Fld.FAB_PLY_CFG_OUT_MODE n)
      = 0 then t.bit (Fld.FAB_PLY_STATUS_F n) else if s.fld (Fld.FAB_PLY_CFG_OUT_MODE n) = 1 then t.bit (Fld.FAB_PLY_STATUS_F n) &&
      !s.bit (Fld.FAB_PLY_STATUS_F n) else if s.fld (Fld.FAB_PLY_CFG_OUT_MODE n) = 2 then !t.bit (Fld.FAB_PLY_STATUS_F n) && s.bit
      (Fld.FAB_PLY_STATUS_F n) else false)))

/-- Trigger inputs (R268 to R270): a change at the ball is sampled two ticks later, a change of the sampled level qualifies once
it has held for MIN_PULSE + 1 ticks and reverts as a glitch before that; a qualified edge of the kind selected is emitted unless
the input is stuck or the rate limit holds it back, an input too long active is stuck, and one inactive long enough is free
again. What counts as a glitch, and that inactive ticks are counted since the input became stuck, are the model's
(log entry 135). -/
def Obligations.TriggerInputs : Prop :=
  ∀ (s : State) (i : Fin 16), s.Wf →
    (∀ (level : Bool), (s.trgIn i).ball ≠ level → Completes (.trgInEdge i level) s fun t => (t.trgIn i).ball = level ∧
      t.later = s.later ++ [(s.tick + 2, .trgSample i level)] ∧ t.regs = s.regs) ∧
    (∀ (level : Bool), (s.trgIn i).ball = level → Completes (.trgInEdge i level) s fun t => t = s) ∧
    (∀ (level : Bool), s.later = [(s.tick + 1, .trgSample i level)] → s.bit (Fld.FAB_TRG_STATUS_LEVEL i) ≠ level →
      s.bit (Fld.FAB_TRG_CFG_EN i) = true → s.fld (Fld.FAB_TRG_CFG_MIN_PULSE i) ≠ 0 → Completes .reelAdvance s fun t =>
      t.fld (Fld.FAB_TRG_STATUS_LEVEL i) = b2n level ∧ (t.trgIn i).since = s.tick + 1 ∧ (t.trgIn i).open_ = true ∧
      t.later = [(s.tick + 1 + s.fld (Fld.FAB_TRG_CFG_MIN_PULSE i), .trgQualify i (s.tick + 1))] ∧
      t.fld (Fld.FAB_TRG_STATUS_GLITCH_CNT i) = min 255 (s.fld (Fld.FAB_TRG_STATUS_GLITCH_CNT i) + b2n (s.trgIn i).open_) ∧
      t.fab.flight = s.fab.flight) ∧
    (∀ (level : Bool), s.later = [(s.tick + 1, .trgSample i level)] → s.bit (Fld.FAB_TRG_STATUS_LEVEL i) ≠ level →
      s.bit (Fld.FAB_TRG_CFG_EN i) = false → Completes .reelAdvance s fun t => t.fld (Fld.FAB_TRG_STATUS_LEVEL i) = b2n level ∧
      (t.trgIn i).open_ = false ∧ t.later = [] ∧ t.fab.flight = s.fab.flight ∧
      t.fld (Fld.FAB_TRG_STATUS_GLITCH_CNT i) = s.fld (Fld.FAB_TRG_STATUS_GLITCH_CNT i)) ∧
    (∀ (level : Bool), s.later = [(s.tick + 1, .trgSample i level)] → s.bit (Fld.FAB_TRG_STATUS_LEVEL i) ≠ level → s.fabricOn = true →
      s.bit (Fld.FAB_TRG_CFG_EN i) = true → s.fld (Fld.FAB_TRG_CFG_MIN_PULSE i) = 0 →
      s.fld (Fld.FAB_TRG_CFG_EDGE i) = 2 ∨ s.fld (Fld.FAB_TRG_CFG_EDGE i) = b2n (!level) →
      (∀ x ∈ (s.trgIn i).lastEv, x + s.fld (Fld.FAB_TRG_CFG_RATE_LIM i) ≤ s.tick + 1) → s.bit (Fld.FAB_TRG_STATUS_STUCK i) = false →
      (s.trgIn i).unstuck ≠ some (s.tick + 1) → Completes .reelAdvance s fun t => t.fld (Fld.FAB_TRG_STATUS_LEVEL i) = b2n level ∧
      (∀ k : Fin 1024, s.strandOn k = true → s.fld (Fld.FAB_EV_CFG_PROD k) = 0x6000 + i.val → (s.tick + 2, k.val) ∈ t.fab.flight) ∧
      (t.trgIn i).lastEv = some (s.tick + 1)) ∧
    (∀ (x : Nat), s.later = [(s.tick + 1, .trgQualify i x)] → (s.trgIn i).open_ = true → (s.trgIn i).since = x → s.fabricOn = true →
      s.fld (Fld.FAB_TRG_CFG_EDGE i) = 2 ∨ s.fld (Fld.FAB_TRG_CFG_EDGE i) = b2n (!s.bit (Fld.FAB_TRG_STATUS_LEVEL i)) →
      (∀ y ∈ (s.trgIn i).lastEv, y + s.fld (Fld.FAB_TRG_CFG_RATE_LIM i) ≤ s.tick + 1) → s.bit (Fld.FAB_TRG_STATUS_STUCK i) = false →
      (s.trgIn i).unstuck ≠ some (s.tick + 1) → Completes .reelAdvance s fun t => (∀ k : Fin 1024, s.strandOn k = true →
      s.fld (Fld.FAB_EV_CFG_PROD k) = 0x6000 + i.val → (s.tick + 2, k.val) ∈ t.fab.flight) ∧ (t.trgIn i).lastEv = some (s.tick + 1)) ∧
    (∀ (x y : Nat), s.later = [(s.tick + 1, .trgQualify i x)] → (s.trgIn i).open_ = true → (s.trgIn i).since = x → s.fabricOn = true →
      s.fld (Fld.FAB_TRG_CFG_EDGE i) = 2 ∨ s.fld (Fld.FAB_TRG_CFG_EDGE i) = b2n (!s.bit (Fld.FAB_TRG_STATUS_LEVEL i)) →
      (s.trgIn i).lastEv = some y → s.tick + 1 < y + s.fld (Fld.FAB_TRG_CFG_RATE_LIM i) → s.bit (Fld.FAB_TRG_STATUS_STUCK i) = false →
      (s.trgIn i).unstuck ≠ some (s.tick + 1) → Completes .reelAdvance s fun t => t.fld (Fld.FAB_TRG_STATUS_RATE i) = 1 ∧
      t.fld (Fld.FAB_TRG_STATUS_RATE_CNT i) = min 255 (s.fld (Fld.FAB_TRG_STATUS_RATE_CNT i) + 1) ∧ t.fab.flight = s.fab.flight ∧
      (t.trgIn i).lastEv = (s.trgIn i).lastEv) ∧
    (∀ (x : Nat), s.later = [(s.tick + 1, .trgQualify i x)] → s.bit (Fld.FAB_TRG_STATUS_STUCK i) = true ∨ (s.trgIn i).since ≠ x →
      Completes .reelAdvance s fun t => t.fab.flight = s.fab.flight ∧
      (t.trgIn i).open_ = (if (s.trgIn i).since = x then false else (s.trgIn i).open_) ∧
      t.fld (Fld.FAB_TRG_STATUS_RATE_CNT i) = s.fld (Fld.FAB_TRG_STATUS_RATE_CNT i)) ∧
    (s.bit (Fld.FAB_TRG_CFG_EN i) = true → s.bit (Fld.FAB_TRG_STATUS_LEVEL i) = decide (s.fld (Fld.FAB_TRG_CFG_EDGE i) ≠ 1) →
      s.fld (Fld.FAB_TRG_STUCK_TIMEOUT i) ≠ 0 → (s.trgIn i).told ≠ some (s.trgIn i).since →
      (s.trgIn i).since + 500 * s.fld (Fld.FAB_TRG_STUCK_TIMEOUT i) ≤ s.tick + 1 → Completes (.trgInStuck i) s fun t =>
      t.fld (Fld.FAB_TRG_STATUS_STUCK i) = 1 ∧ t.fld (Fld.FAB_TRG_STATUS_STUCK_EV i) = 1 ∧ t.fld Fld.FAB_EVENT_TRG_STUCK = 1 ∧
      (t.trgIn i).told = some (s.trgIn i).since ∧ OnlyRegs [Reg.FAB_TRG_STATUS i, Reg.FAB_EVENT] s t) ∧
    ((s.trgIn i).told = some (s.trgIn i).since → Completes (.trgInStuck i) s fun t => t = s) ∧
    (s.bit (Fld.FAB_TRG_STATUS_STUCK i) = true → s.bit (Fld.FAB_TRG_STATUS_LEVEL i) = decide (s.fld (Fld.FAB_TRG_CFG_EDGE i) = 1) →
      max (s.trgIn i).since (s.trgIn i).stuckFrom + s.fld (Fld.FAB_TRG_CFG_MIN_PULSE i) ≤ s.tick →
      Completes (.trgInUnstuck i) s fun t => t.fld (Fld.FAB_TRG_STATUS_STUCK i) = 0 ∧ (t.trgIn i).unstuck = some s.tick ∧
      OnlyRegs [Reg.FAB_TRG_STATUS i] s t) ∧
    (s.bit (Fld.FAB_TRG_CFG_EN i) = true → (s.trgIn i).open_ = true → s.fld (Fld.FAB_TRG_CFG_MIN_PULSE i) ≠ 0 →
      Completes (.trgInGlitch i) s fun t =>
      t.fld (Fld.FAB_TRG_STATUS_GLITCH_CNT i) = min 255 (s.fld (Fld.FAB_TRG_STATUS_GLITCH_CNT i) + 1) ∧
      t.fld (Fld.FAB_TRG_STATUS_LEVEL i) = b2n (!s.bit (Fld.FAB_TRG_STATUS_LEVEL i)) ∧ (t.trgIn i).since = s.tick ∧
      OnlyRegs [Reg.FAB_TRG_STATUS i] s t)

/-- Correction tables and export groups (R262, R274 to R278): a trigger takes the syndrome as its address and clears it, a busy
table discards one, six ticks later the mask bits and DONE are emitted unless the entry is uncorrectable; an event marks a slot
of an enabled group pending, or is dropped, and the gates act in the next tick with ENABLE first. -/
def Obligations.TablesAndGroups : Prop :=
  ∀ (s : State), s.Wf →
    (∀ (x : Fin 16), s.visible (0x4000 + x) = true → s.bit (Fld.FAB_CT_CFG_EN x) = true → (∀ l ∈ s.lookups x, l.1 + 6 ≤ s.tick) →
      Completes (.ctTrigger x) s fun t => t.lookups x = s.lookups x ++ [(s.tick, s.fld (Fld.FAB_CT_STATE_SYND x))] ∧
      t.fld (Fld.FAB_CT_STATE_SYND x) = 0 ∧ t.fld (Fld.FAB_CT_STATE_BUSY x) = 1 ∧ t.visible (0x4000 + x) = false ∧
      OnlyRegs [Reg.FAB_CT_STATE x] s t) ∧
    (∀ (x : Fin 16), s.visible (0x4000 + x) = true → s.bit (Fld.FAB_CT_CFG_EN x) = true → (∃ l ∈ s.lookups x, s.tick < l.1 + 6) →
      Completes (.ctTrigger x) s fun t => t.fld (Fld.FAB_CT_EVENT_TRIG_OVR x) = 1 ∧
      t.fld (Fld.FAB_CT_COUNT_OVERRUN x) = min 0xFFFF (s.fld (Fld.FAB_CT_COUNT_OVERRUN x) + 1) ∧ t.lookups x = s.lookups x ∧
      t.fld (Fld.FAB_CT_STATE_SYND x) = s.fld (Fld.FAB_CT_STATE_SYND x)) ∧
    (∀ (x : Fin 16) (ecc : Ecc) (y a : Nat) (l : List (Nat × Nat)), s.lookups x = (y, a) :: l → y + 6 ≤ s.tick → a < 65536 →
      s.fabricOn = true → ecc ≠ .bad → Completes (.ctLookupDone x ecc) s fun t => t.fld (Fld.FAB_CT_LAST_ADDR x) = a ∧
      (t.rd (Reg.FAB_CT_LAST_MASK x)).toNat = s.sramNat (0x3800000 + 0x40000 * x + 4 * a) 4 ∧
      t.fld (Fld.FAB_CT_COUNT_LOOKUPS x) = min 0xFFFF (s.fld (Fld.FAB_CT_COUNT_LOOKUPS x) + 1) ∧
      t.fld (Fld.FAB_CT_STATE_BUSY x) = b2n (decide (l ≠ [])) ∧ t.lookups x = l ∧ (∀ k : Fin 1024, s.strandOn k = true →
      (s.fld (Fld.FAB_EV_CFG_PROD k) = 0x4000 + x.val ∨ ∃ b : Fin 32, bitOf (s.sramNat (0x3800000 + 0x40000 * x + 4 * a) 4) b = true ∧
      s.fld (Fld.FAB_EV_CFG_PROD k) = 0x3000 + 32 * x.val + b.val) → (s.tick + 1, k.val) ∈ t.fab.flight)) ∧
    (∀ (x : Fin 16) (y a : Nat) (l : List (Nat × Nat)), s.lookups x = (y, a) :: l → y + 6 ≤ s.tick → a < 65536 →
      Completes (.ctLookupDone x .bad) s fun t => t.fld (Fld.FAB_CT_EVENT_ECC_UNCORR x) = 1 ∧ t.fld (Fld.FAB_CT_LAST_ADDR x) = a ∧
      t.fld (Fld.FAB_CT_COUNT_LOOKUPS x) = min 0xFFFF (s.fld (Fld.FAB_CT_COUNT_LOOKUPS x) + 1) ∧ t.fab.flight = s.fab.flight ∧
      t.lookups x = l) ∧
    (∀ (g : Fin 64) (b : Fin 16), s.visible (0x5000 + 16 * g + b) = true → s.bit (Fld.FAB_GRP_STATUS_ENABLED g) = true →
      Completes (.exportSlotEvent g b) s fun t =>
      (∀ j : Fin 16, bitOf (t.fld (Fld.FAB_GRP_STATUS_PENDING g)) j = (bitOf (s.fld (Fld.FAB_GRP_STATUS_PENDING g)) j || decide
      (j = b))) ∧ (bitOf (s.fld (Fld.FAB_GRP_STATUS_PENDING g)) b = true → t.fld (Fld.FAB_GRP_EVENT_OVERRUN g) = 1)) ∧
    (∀ (g : Fin 64) (b : Fin 16), s.visible (0x5000 + 16 * g + b) = true → s.bit (Fld.FAB_GRP_STATUS_ENABLED g) = false →
      Completes (.exportSlotEvent g b) s fun t => t.fld (Fld.FAB_GRP_EVENT_DROPPED g) = 1 ∧
      t.fld (Fld.FAB_GRP_COUNT_DROPPED g) = min 0xFFFF (s.fld (Fld.FAB_GRP_COUNT_DROPPED g) + 1) ∧
      t.fld (Fld.FAB_GRP_STATUS_PENDING g) = s.fld (Fld.FAB_GRP_STATUS_PENDING g)) ∧
    (∀ (g : Fin 64), s.visible (0x6000 + 2 * g) = true → Completes (.exportGateEnable g) s fun t =>
      t.later = s.later.erase (s.tick + 1, .gate g false) ++ [(s.tick + 1, .gate g true)] ∧
      t.fld (Fld.FAB_GRP_STATUS_ENABLED g) = s.fld (Fld.FAB_GRP_STATUS_ENABLED g)) ∧
    (∀ (g : Fin 64), s.visible (0x6000 + 2 * g + 1) = true → Completes (.exportGateDisable g) s fun t =>
      t.later = (if s.reached (0x6000 + 2 * g) = true then s.later else s.later ++ [(s.tick + 1, .gate g false)]) ∧
      t.fld (Fld.FAB_GRP_STATUS_ENABLED g) = s.fld (Fld.FAB_GRP_STATUS_ENABLED g)) ∧
    (∀ (g : Fin 64) (on : Bool), s.later = [(s.tick + 1, .gate g on)] → s.bit (Fld.FAB_GRP_STATUS_ENABLED g) ≠ on →
      Completes .reelAdvance s fun t => t.fld (Fld.FAB_GRP_STATUS_ENABLED g) = b2n on ∧ t.fld (Fld.FAB_GRP_EVENT_GATE_CHG g) = 1 ∧
      (on = false → t.fld (Fld.FAB_GRP_STATUS_PENDING g) = 0 ∧ (s.fld (Fld.FAB_GRP_STATUS_PENDING g) ≠ 0 →
      t.fld (Fld.FAB_GRP_EVENT_DROPPED g) = 1)))

/-- Training of a twist port (R285, R286, R293, R294): each state's exit leads to the next in its time, the checks of IDENT and
the 6,000 ps limit fail the port with their cause, a link is UP when both ends are aligned to one generation, a failed port
tries again after 1 ms, and RETRAIN takes a port DOWN. -/
def Obligations.LinkTraining : Prop :=
  ∀ (s : State) (p : Fin 4), s.Wf →
    (s.twState p = 0 → s.bit (Fld.CSC_TW_CFG_EN p) = true → 3 ≤ s.mode → Completes (.twTrainStart p) s fun t => t.twState p = 1 ∧
      (t.twist p).since = s.tick ∧ t.fld (Fld.CSC_TW_STATUS_FAIL p) = 0 ∧ t.fld (Fld.CSC_TW_STATUS_DUTY_LANE p) = 0 ∧
      t.fld (Fld.CSC_TW_STATUS_LANES_UP p) = 0 ∧ OnlyRegs [Reg.CSC_TW_STATUS p] s t) ∧
    (s.bit (Fld.CSC_TW_CFG_EN p) = false ∨ s.mode < 3 → Completes (.twTrainStart p) s fun t => t = s) ∧
    (s.twState p = 1 → 3 ≤ s.mode → s.tick ≤ (s.twist p).since + 50000 → Completes (.twCdrLock p) s fun t => t.twState p = 2 ∧
      (t.twist p).since = s.tick ∧ OnlyRegs [Reg.CSC_TW_STATUS p] s t) ∧
    (∀ (lanes : BitVec 4), s.twState p = 2 → 3 ≤ s.mode → s.tick ≤ (s.twist p).since + 50000 →
      (lanes.getLsbD 0 = true ∧ lanes.getLsbD 1 = true) → Completes (.twAlignDone p lanes) s fun t => t.twState p = 3 ∧
      t.fld (Fld.CSC_TW_STATUS_LANES_UP p) = lanes.toNat ∧ OnlyRegs [Reg.CSC_TW_STATUS p] s t) ∧
    (s.twState p = 1 ∨ s.twState p = 2 → (s.twist p).since + 50000 ≤ s.tick → Completes (.twTrainFail p) s fun t => t.twState p = 7 ∧
      t.fld (Fld.CSC_TW_STATUS_FAIL p) = s.twState p ∧ t.fld Fld.CSC_EVENT_TRAIN_FAIL = 1 ∧ (t.twist p).since = s.tick) ∧
    (∀ (id : BitVec 6) (role : BitVec 2) (depth : BitVec 6), s.twState p = 3 → 3 ≤ s.mode →
      s.fld (Fld.CSC_TW_CFG_NEIGH_ID p) = id.toNat → ((role = 1 ∧ depth = 0) ∨ (role = 2 ∧ depth ≠ 0)) → (s.role = 1 → role = 2) →
      (s.isUp p = true → depth.toNat + 1 = s.fld Fld.CSC_CFG_DEPTH) → Completes (.twIdent p id role depth) s fun t =>
      t.twState p = 4 ∧ t.fld (Fld.CSC_TW_STATUS_NEIGH_SEEN p) = id.toNat ∧ OnlyRegs [Reg.CSC_TW_STATUS p] s t) ∧
    (∀ (id : BitVec 6) (role : BitVec 2) (depth : BitVec 6), s.twState p = 3 → 3 ≤ s.mode → s.role ≠ 1 ∨ role ≠ 1 →
      (s.fld (Fld.CSC_TW_CFG_NEIGH_ID p) ≠ id.toNat ∨ (s.isUp p = true ∧
      depth.toNat + 1 ≠ s.fld Fld.CSC_CFG_DEPTH) ∨ ¬((role = 1 ∧ depth = 0) ∨ (role = 2 ∧ depth ≠ 0))) →
      Completes (.twIdent p id role depth) s fun t => t.twState p = 7 ∧ t.fld (Fld.CSC_TW_STATUS_FAIL p) = 3 ∧
      t.fld Fld.CSC_EVENT_TRAIN_FAIL = 1 ∧ (t.twist p).since = s.tick ∧ t.fld (Fld.CSC_TW_STATUS_NEIGH_SEEN p) = id.toNat) ∧
    (∀ (id : BitVec 6) (role : BitVec 2) (depth : BitVec 6), s.twState p = 3 → 3 ≤ s.mode → (s.role = 1 ∧ role = 1) →
      Completes (.twIdent p id role depth) s fun t => t.twState p = 7 ∧ t.fld (Fld.CSC_TW_STATUS_FAIL p) = 4 ∧
      t.fld Fld.CSC_EVENT_TRAIN_FAIL = 1 ∧ (t.twist p).since = s.tick ∧ t.fld Fld.CSC_EVENT_MASTER_CONFLICT = 1) ∧
    (∀ (half0 half1 turn0 turn1 f0 : Nat), s.twState p = 4 → 3 ≤ s.mode →
      (half0 : Int) + sgn 16 (s.fld (Fld.CSC_TW_CFG_ASYM p)) = f0 → f0 ≤ 96000 →
      (half1 : Int) + sgn 16 (s.fld (Fld.CSC_TW_CFG_ASYM p)) ≤ 96000 →
      Completes (.twMeasureDone p (turn0 + Config.twFixed + 2 * half0) (turn1 + Config.twFixed + 2 * half1) turn0 turn1) s fun t =>
      t.twState p = 5 ∧ t.fld (Fld.CSC_TW_DELAY_DELAY p) = f0 ∧ OnlyRegs [Reg.CSC_TW_STATUS p, Reg.CSC_TW_DELAY p] s t) ∧
    (∀ (half0 half1 turn0 turn1 : Nat), s.twState p = 4 → 3 ≤ s.mode →
      96000 < (half0 : Int) + sgn 16 (s.fld (Fld.CSC_TW_CFG_ASYM p)) ∨ 96000 < (half1 : Int) + sgn 16 (s.fld (Fld.CSC_TW_CFG_ASYM p))
      → Completes (.twMeasureDone p (turn0 + Config.twFixed + 2 * half0) (turn1 + Config.twFixed + 2 * half1) turn0 turn1) s fun t =>
      t.twState p = 7 ∧ t.fld (Fld.CSC_TW_STATUS_FAIL p) = 5 ∧ t.fld Fld.CSC_EVENT_TRAIN_FAIL = 1 ∧ (t.twist p).since = s.tick) ∧
    (∀ (gen : BitVec 8), s.twState p = 5 → s.fld Fld.CSC_STATUS_GEN = gen.toNat →
      (if s.role = 2 then s.bit Fld.CSC_STATUS_SYNC_ALIGNED = true else s.bit Fld.GLB_CLK_STATUS_SYNC_DONE = true) →
      Completes (.twLinkUp p gen) s fun t => t.twState p = 6 ∧ t.fld Fld.CSC_EVENT_LINK_UP = 1 ∧
      OnlyRegs [Reg.CSC_TW_STATUS p, Reg.CSC_EVENT] s t) ∧
    (∀ (gen : BitVec 8), s.fld Fld.CSC_STATUS_GEN ≠ gen.toNat → Completes (.twLinkUp p gen) s fun t => t = s) ∧
    (s.twState p = 7 → (s.twist p).since + 500000 ≤ s.tick → s.bit (Fld.CSC_TW_CFG_EN p) = true → 3 ≤ s.mode →
      Completes (.twRetry p) s fun t => t.twState p = 1 ∧ t.fld (Fld.CSC_TW_STATUS_FAIL p) = 0) ∧
    (∀ (path : Path) (v : Word), s.accepts path (Reg.CSC_TW_CMD p) = true → v.getLsbD 0 = true →
      Completes (.twRetrain path p v) s fun t => t.twState p = 0 ∧ (s.twState p = 6 → t.fld Fld.CSC_EVENT_LINK_DOWN = 1)) ∧
    (∀ (path : Path) (v : Word), s.accepts path (Reg.CSC_TW_CMD p) = true → v.getLsbD 0 = false →
      Completes (.twRetrain path p v) s fun t => t.regs = s.regs ∧ t.csc = s.csc) ∧
    (∀ (level : Bool), Completes (.strapChg level) s fun t =>
      t.fld Fld.CSC_STATUS_STRAP_CHG = (if s.bit Fld.CSC_STATUS_STRAP = level then s.fld Fld.CSC_STATUS_STRAP_CHG else 1) ∧
      OnlyRegs [Reg.CSC_STATUS] s t)

/-- Frames on the duty lane (R288 to R292, R296, R299, R302, R304 to R308): what an UP port launches in the order of the classes,
with one selected group a tick and its waits counted, each frame of TIME, STATE and SYNC with its payload (R291), which follows
the GROUP frames but for one that has waited 64 ticks, what is sent while a link is not UP, what queues time, rate and SYNC
frames, and how a GROUP frame is imported, forwarded or dropped. -/
def Obligations.LaneZeroFrames : Prop :=
  ∀ (s : State), s.Wf →
    (∀ (p : Fin 4), s.bit (Fld.CSC_TW_CFG_EN p) = true → 1 ≤ s.mode → s.role ≠ 0 → s.twState p = 6 → (s.twist p).failing = true →
      Completes (.frameLaunch p) s fun t =>
      (∀ l : Fin 2, sget (fun _ => none) (t.twist p).sent l.val = some (s.tick, (scramble (sget (fun _ => 0) (s.twist p).scr l.val)
      (frameWord 8 (s.fld Fld.CSC_CFG_DEV_ID))).1)) ∧ (t.twist p).fwd = (s.twist p).fwd) ∧
    (∀ (p : Fin 4) (f : Nat × Nat × Nat), s.bit (Fld.CSC_TW_CFG_EN p) = true → 1 ≤ s.mode → s.role ≠ 0 → s.twState p = 6 →
      (s.twist p).failing = false → firstFwd s.tick (s.twist p).fwd = some f → (s.twist p).rate = [] → (s.twist p).time = [] →
      Completes (.frameLaunch p) s fun t =>
      sget (fun _ => none) (t.twist p).sent (s.fld (Fld.CSC_TW_STATUS_DUTY_LANE p)) = some (s.tick, (scramble (sget (fun _ => 0)
      (s.twist p).scr (s.fld (Fld.CSC_TW_STATUS_DUTY_LANE p))) (frameWord 1 (f.2.2))).1) ∧
      (t.twist p).fwd = (s.twist p).fwd.erase f) ∧
    (∀ (p : Fin 4) (w : Nat), s.bit (Fld.CSC_TW_CFG_EN p) = true → 1 ≤ s.mode → s.role ≠ 0 → s.twState p = 6 →
      (s.twist p).failing = false → firstFwd s.tick (s.twist p).fwd = none → (s.twist p).sel = some w →
      (∀ g : Fin 64, s.exportReady p g = false) → (s.twist p).rate = [] → (s.twist p).time = [] →
      Completes (.frameLaunch p) s fun t =>
      sget (fun _ => none) (t.twist p).sent (s.fld (Fld.CSC_TW_STATUS_DUTY_LANE p)) = some (s.tick, (scramble (sget (fun _ => 0)
      (s.twist p).scr (s.fld (Fld.CSC_TW_STATUS_DUTY_LANE p))) (frameWord 1 (w))).1) ∧ (t.twist p).sel = none) ∧
    (∀ (p : Fin 4) (f : Nat × Nat) (l : List (Nat × Nat)), s.bit (Fld.CSC_TW_CFG_EN p) = true → 1 ≤ s.mode → s.role ≠ 0 →
      s.twState p = 6 → (s.twist p).failing = false → (s.twist p).rate = f :: l →
      (f.1 + 64 ≤ s.tick ∨ (firstFwd s.tick (s.twist p).fwd = none ∧ (s.twist p).sel = none ∧ (s.twist p).time = [])) →
      Completes (.frameLaunch p) s fun t =>
      sget (fun _ => none) (t.twist p).sent (s.fld (Fld.CSC_TW_STATUS_DUTY_LANE p)) = some (s.tick, (scramble (sget (fun _ => 0)
      (s.twist p).scr (s.fld (Fld.CSC_TW_STATUS_DUTY_LANE p))) (frameWord 5 (f.2))).1) ∧ (t.twist p).rate = l) ∧
    (∀ (p : Fin 4) (x : Nat) (l : List (Nat × TimeFrame)), s.bit (Fld.CSC_TW_CFG_EN p) = true → 1 ≤ s.mode → s.role ≠ 0 →
      s.twState p = 6 → (s.twist p).failing = false → (s.twist p).rate = [] → (s.twist p).time = (x, .timeLo) :: l →
      s.epochStart = false → (x + 64 ≤ s.tick ∨ (firstFwd s.tick (s.twist p).fwd = none ∧ (s.twist p).sel = none)) →
      Completes (.frameLaunch p) s fun t =>
      sget (fun _ => none) (t.twist p).sent (s.fld (Fld.CSC_TW_STATUS_DUTY_LANE p)) = some (s.tick, (scramble (sget (fun _ => 0)
      (s.twist p).scr (s.fld (Fld.CSC_TW_STATUS_DUTY_LANE p))) (frameWord 2 (s.tln.reel / 2 ^ 32 % 2 ^ 64 % 2 ^ 42))).1) ∧
      (t.twist p).time = l ∧ (t.twist p).stamp = s.tln.reel) ∧
    (∀ (p : Fin 4) (x : Nat) (l : List (Nat × TimeFrame)), s.bit (Fld.CSC_TW_CFG_EN p) = true → 1 ≤ s.mode → s.role ≠ 0 →
      s.twState p = 6 → (s.twist p).failing = false → (s.twist p).rate = [] → (s.twist p).time = (x, .timeHi) :: l →
      s.epochStart = false → (x + 64 ≤ s.tick ∨ (firstFwd s.tick (s.twist p).fwd = none ∧ (s.twist p).sel = none)) →
      Completes (.frameLaunch p) s fun t =>
      sget (fun _ => none) (t.twist p).sent (s.fld (Fld.CSC_TW_STATUS_DUTY_LANE p)) = some (s.tick, (scramble (sget (fun _ => 0)
      (s.twist p).scr (s.fld (Fld.CSC_TW_STATUS_DUTY_LANE p))) (frameWord 3 ((s.twist p).stamp / 2 ^ 32 % 2 ^ 64 / 2 ^ 42 + 2 ^ 22 *
      ((s.twist p).stamp % 2 ^ 32 / 2 ^ 12)))).1) ∧ (t.twist p).time = l) ∧
    (∀ (p : Fin 4) (x : Nat) (l : List (Nat × TimeFrame)), s.bit (Fld.CSC_TW_CFG_EN p) = true → 1 ≤ s.mode → s.role ≠ 0 →
      s.twState p = 6 → (s.twist p).failing = false → (s.twist p).rate = [] → (s.twist p).time = (x, .state) :: l →
      s.epochStart = false → (x + 64 ≤ s.tick ∨ (firstFwd s.tick (s.twist p).fwd = none ∧ (s.twist p).sel = none)) →
      Completes (.frameLaunch p) s fun t =>
      sget (fun _ => none) (t.twist p).sent (s.fld (Fld.CSC_TW_STATUS_DUTY_LANE p)) = some (s.tick, (scramble (sget (fun _ => 0)
      (s.twist p).scr (s.fld (Fld.CSC_TW_STATUS_DUTY_LANE p))) (frameWord 4 (s.fld Fld.CSC_CFG_MASTER_ID + 2 ^ 6 * s.fld
      Fld.CSC_CFG_DEV_ID + 2 ^ 12 * s.fld Fld.CSC_CFG_DEPTH + 2 ^ 18 * s.fld Fld.CSC_STATUS_GEN + 2 ^ 26 * s.reelState + 2 ^ 28 * b2n
      s.reelValid + 2 ^ 29 * s.mode))).1) ∧ (t.twist p).time = l) ∧
    (∀ (p : Fin 4) (x : Nat) (l : List (Nat × TimeFrame)), s.bit (Fld.CSC_TW_CFG_EN p) = true → 1 ≤ s.mode → s.role ≠ 0 →
      s.twState p = 6 → (s.twist p).failing = false → (s.twist p).rate = [] → (s.twist p).time = (x, .syncLo) :: l →
      s.epochStart = true → (x + 64 ≤ s.tick ∨ (firstFwd s.tick (s.twist p).fwd = none ∧ (s.twist p).sel = none)) →
      Completes (.frameLaunch p) s fun t =>
      sget (fun _ => none) (t.twist p).sent (s.fld (Fld.CSC_TW_STATUS_DUTY_LANE p)) = some (s.tick, (scramble (sget (fun _ => 0)
      (s.twist p).scr (s.fld (Fld.CSC_TW_STATUS_DUTY_LANE p))) (frameWord 6 (s.epoch % 2 ^ 42))).1) ∧
      (t.twist p).time = (s.tick, .syncHi) :: l ∧ (t.twist p).mark = s.epoch) ∧
    (∀ (p : Fin 4) (x : Nat) (l : List (Nat × TimeFrame)), s.bit (Fld.CSC_TW_CFG_EN p) = true → 1 ≤ s.mode → s.role ≠ 0 →
      s.twState p = 6 → (s.twist p).failing = false → (s.twist p).rate = [] → (s.twist p).time = (x, .syncHi) :: l →
      s.epochStart = false → (x + 64 ≤ s.tick ∨ (firstFwd s.tick (s.twist p).fwd = none ∧ (s.twist p).sel = none)) →
      Completes (.frameLaunch p) s fun t =>
      sget (fun _ => none) (t.twist p).sent (s.fld (Fld.CSC_TW_STATUS_DUTY_LANE p)) = some (s.tick, (scramble (sget (fun _ => 0)
      (s.twist p).scr (s.fld (Fld.CSC_TW_STATUS_DUTY_LANE p))) (frameWord 7 ((s.twist p).mark / 2 ^ 42 % 2 ^ 22 + 2 ^ 22 * s.fld
      Fld.CSC_STATUS_GEN))).1) ∧ (t.twist p).time = l) ∧
    (∀ (p : Fin 4), s.bit (Fld.CSC_TW_CFG_EN p) = true → 1 ≤ s.mode → s.role ≠ 0 → s.twState p = 6 → (s.twist p).failing = false →
      firstFwd s.tick (s.twist p).fwd = none → (s.twist p).sel = none → (s.twist p).fwd = [] → (s.twist p).rate = [] →
      (s.twist p).time = [] → Completes (.frameLaunch p) s fun t =>
      sget (fun _ => none) (t.twist p).sent (s.fld (Fld.CSC_TW_STATUS_DUTY_LANE p)) = some (s.tick, (scramble (sget (fun _ => 0)
      (s.twist p).scr (s.fld (Fld.CSC_TW_STATUS_DUTY_LANE p))) (frameWord 0 (s.fld Fld.CSC_CFG_DEV_ID))).1) ∧
      ((∀ g : Fin 64, s.exportReady p g = false) → t.regs = s.regs)) ∧
    (∀ (p : Fin 4), s.bit (Fld.CSC_TW_CFG_EN p) = true → 1 ≤ s.mode → s.role ≠ 0 →
      (s.twState p = 0 ∨ s.twState p = 7 ∨ (s.twState p = 5 ∧ (s.twist p).time = [])) → Completes (.frameLaunch p) s fun t =>
      sget (fun _ => none) (t.twist p).sent (s.fld (Fld.CSC_TW_STATUS_DUTY_LANE p)) = some (s.tick, (scramble (sget (fun _ => 0)
      (s.twist p).scr (s.fld (Fld.CSC_TW_STATUS_DUTY_LANE p))) (frameWord 0 (s.fld Fld.CSC_CFG_DEV_ID))).1) ∧ t.regs = s.regs) ∧
    (∀ (p : Fin 4) (g : Fin 64), s.bit (Fld.CSC_TW_CFG_EN p) = true → 1 ≤ s.mode → s.role ≠ 0 → s.twState p = 6 →
      (s.twist p).failing = false → (s.twist p).fwd = [] → (s.twist p).sel = none → s.exportReady p g = true →
      (∀ x : Fin 64, x < g → s.exportReady p x = false) → (s.twist p).rate = [] → (s.twist p).time = [] →
      Completes (.frameLaunch p) s fun t =>
      (t.twist p).sel = some (s.fld (Fld.FAB_GRP_STATUS_PENDING g) + 2 ^ 16 * (64 * s.fld Fld.CSC_CFG_DEV_ID + g.val)) ∧
      t.fld (Fld.FAB_GRP_STATUS_PENDING g) = 0 ∧ ((∀ x : Fin 64, x ≠ g → s.exportReady p x = false) →
      t.fld (Fld.CSC_TW_WAIT_COUNT p) = s.fld (Fld.CSC_TW_WAIT_COUNT p)) ∧ ((∃ x : Fin 64, x ≠ g ∧ s.exportReady p x = true) →
      t.fld Fld.CSC_EVENT_GRP_WAIT = 1)) ∧
    (s.role = 1 ∨ s.role = 2 → s.reelValid = true → s.tln.prevReel / 2 ^ 32 / 1000 < s.reelNs / 1000 →
      s.csc.lastUs ≠ some (s.reelNs / 1000) → Completes .timeQueue s fun t => (t.csc.lastUs = some (s.reelNs / 1000)) ∧
      (∀ p : Fin 4, p.val ∈ s.downPorts →
      (t.twist p).time = (s.twist p).time ++ [(s.tick, .timeLo), (s.tick, .timeHi), (s.tick, .state)]) ∧ t.regs = s.regs) ∧
    (∀ (a : Int) (x y : Nat), s.role = 1 → s.csc.lastRate = some (a, x, y) → y + 500 ≤ s.tick → Completes .rateRepeat s fun t =>
      t.csc.lastRate = some (a, x, s.tick) ∧ (∀ p : Fin 4, p.val ∈ s.downPorts →
      (t.twist p).rate = (s.twist p).rate ++ [(s.tick, twos 24 a + 2 ^ 24 * (x % 2 ^ 18))]) ∧ t.regs = s.regs) ∧
    (∀ (p : Fin 4), ((s.role = 1 ∧ s.bit Fld.GLB_CLK_STATUS_SYNC_DONE = true) ∨
      (s.role = 2 ∧ s.bit Fld.CSC_STATUS_SYNC_ALIGNED = true)) → s.twState p = 5 ∨ s.twState p = 6 → s.sinceSync % 500 = 0 →
      (((s.twist p).time.any fun f => f.2 == .syncLo) = false) → Completes (.syncMarkerQueue p) s fun t =>
      (t.twist p).time = (s.twist p).time ++ [(s.tick, .syncLo)] ∧ t.regs = s.regs) ∧
    (∀ (p lane : Fin 4) (slots : BitVec 16) (gid : BitVec 12) (hops : BitVec 6), s.twState p = 6 → (s.twist p).failing = false →
      lane.val = (s.twist p).rxLane → s.bit (Fld.CSC_FWD_IMP_EN gid.toNat) = true ∨ s.fld (Fld.CSC_FWD_FWD gid.toNat) ≠ 0 →
      hops.toNat < 63 → Completes (.groupRx p lane slots gid hops) s fun t =>
      (∀ b : Fin 16, ∀ k : Fin 1024, s.bit (Fld.CSC_FWD_IMP_EN gid.toNat) = true → slots.getLsbD b = true → s.fabricOn = true →
      s.strandOn k = true → s.fld (Fld.FAB_EV_CFG_PROD k) = 0x7000 + 16 * s.fld (Fld.CSC_FWD_IMPORT gid.toNat) + b.val →
      (s.tick + 1, k.val) ∈ t.fab.flight) ∧ (∀ q : Fin 4, bitOf (s.fld (Fld.CSC_FWD_FWD gid.toNat)) q = true →
      (s.twist q).fwd.length < 16 →
      (t.twist q).fwd = (s.twist q).fwd ++ [(s.tick, p.val, slots.toNat + 2 ^ 16 * gid.toNat + 2 ^ 28 * (hops.toNat + 1))]) ∧
      (∀ q : Fin 4, bitOf (s.fld (Fld.CSC_FWD_FWD gid.toNat)) q = true → 16 ≤ (s.twist q).fwd.length →
      (t.twist q).fwd = (s.twist q).fwd ∧ t.fld Fld.CSC_EVENT_FWD_DROP = 1 ∧
      t.fld (Fld.CSC_TW_DROP_COUNT q) = min 0xFFFFFFFF (s.fld (Fld.CSC_TW_DROP_COUNT q) + 1))) ∧
    (∀ (p lane : Fin 4) (slots : BitVec 16) (gid : BitVec 12) (hops : BitVec 6), s.twState p = 6 → (s.twist p).failing = false →
      lane.val = (s.twist p).rxLane → ((s.bit (Fld.CSC_FWD_IMP_EN gid.toNat) = false ∧
      s.fld (Fld.CSC_FWD_FWD gid.toNat) = 0) ∨ hops.toNat = 63) → Completes (.groupRx p lane slots gid hops) s fun t =>
      t.fld Fld.CSC_EVENT_FWD_DROP = 1 ∧ t.fld (Fld.CSC_TW_DROP_COUNT p) = min 0xFFFFFFFF (s.fld (Fld.CSC_TW_DROP_COUNT p) + 1) ∧
      t.fab = s.fab ∧ t.csc = s.csc) ∧
    (∀ (p lane : Fin 4), s.bit (Fld.CSC_TW_CFG_EN p) = true → Completes (.frameReservedType p lane) s fun t =>
      t.fld Fld.CSC_EVENT_FWD_DROP = 1 ∧ t.fld (Fld.CSC_TW_DROP_COUNT p) = min 0xFFFFFFFF (s.fld (Fld.CSC_TW_DROP_COUNT p) + 1) ∧
      OnlyRegs [Reg.CSC_EVENT, Reg.CSC_TW_DROP p] s t)

/-- A slave's time (R297, R298, R300 to R303, R311): a valid TIME_LO, TIME_HI and STATE sequence is one measurement and two in a
row qualify the source, another sequence breaks it and another master loses it, RATE frames are forwarded and applied in the
tick that APPLY_T names or late, and a marker pair aligns the slave, agrees, or is a slip or a loss. -/
def Obligations.CascadeTime : Prop :=
  ∀ (s : State), s.Wf →
    (∀ (p lane : Fin 4) (ns : BitVec 42), s.twState p = 6 → (s.twist p).failing = false → lane.val = (s.twist p).rxLane →
      s.isUp p = true → Completes (.timeLoRx p lane ns) s fun t =>
      t.csc.seqLo = some (ns.toNat, (if s.reelRuns = true then reelBack s.tln.reel 10 s.tln.segs else s.tln.reel)) ∧
      t.csc.seqHi = none ∧ t.csc.run = (if s.csc.seqLo = none then s.csc.run else 0) ∧ t.regs = s.regs) ∧
    (∀ (p lane : Fin 4) (ns : BitVec 22) (frac : BitVec 20), s.twState p = 6 → (s.twist p).failing = false →
      lane.val = (s.twist p).rxLane → s.isUp p = true → s.sameSequence = true → s.csc.seqHi = none →
      Completes (.timeHiRx p lane ns frac) s fun t => t.csc.seqHi = some (ns.toNat, frac.toNat) ∧ t.csc.seqLo = s.csc.seqLo ∧
      t.csc.run = s.csc.run ∧ t.regs = s.regs) ∧
    (∀ (p lane : Fin 4) (ns : BitVec 22) (frac : BitVec 20), s.twState p = 6 → (s.twist p).failing = false →
      lane.val = (s.twist p).rxLane → s.isUp p = true → s.sameSequence = false ∨ s.csc.seqHi ≠ none →
      Completes (.timeHiRx p lane ns frac) s fun t => t.csc.run = 0 ∧ t.csc.lastMeas = s.csc.lastMeas ∧ t.csc.seqLo = none ∧
      t.csc.seqHi = none ∧ t.regs = s.regs) ∧
    (∀ (p lane : Fin 4) (master sender depth : BitVec 6) (gen : BitVec 8) (reel : BitVec 2) (valid : Bool) (mode : BitVec 3)
      (lo hi frac r : Nat), s.twState p = 6 → (s.twist p).failing = false → lane.val = (s.twist p).rxLane → s.isUp p = true →
      s.csc.seqLo = some (lo, r) → s.csc.seqHi = some (hi, frac) → s.sameSequence = true →
      master.toNat = s.fld Fld.CSC_CFG_MASTER_ID → depth.toNat + 1 = s.fld Fld.CSC_CFG_DEPTH → valid = true →
      Completes (.stateRx p lane master sender depth gen reel valid mode) s fun t =>
      t.csc.lastMeas = some ((((hi * 2 ^ 42 + lo) * 2 ^ 32 + frac * 2 ^ 12) / 2 ^ 32 % 2 ^ 64 / 1000), s.tick) ∧
      t.csc.run = (if s.csc.lastMeas.map (fun m => m.1 + 1) = some (((hi * 2 ^ 42 + lo) * 2 ^ 32 + frac * 2 ^ 12) / 2 ^ 32 % 2 ^ 64 /
      1000) then s.csc.run + 1 else 1) ∧ t.csc.seqLo = none ∧ t.csc.seqHi = none ∧ (t.csc.run = 1 →
      t.fld Fld.CSC_STATUS_SRC_QUALIFIED = s.fld Fld.CSC_STATUS_SRC_QUALIFIED) ∧ (2 ≤ t.csc.run →
      s.bit Fld.CSC_STATUS_SYNC_ALIGNED = true → s.fld Fld.CSC_STATUS_GEN = gen.toNat → t.fld Fld.CSC_STATUS_SRC_QUALIFIED = 1 ∧
      (s.fld Fld.CSC_STATUS_SRC_QUALIFIED = 0 → t.fld Fld.CSC_EVENT_SRC_QUAL = 1)) ∧ (t.fld Fld.CSC_STATUS_SRC_QUALIFIED = 1 →
      s.fld Fld.TLN_CTL_SRC = 3 →
      t.rd Reg.TLN_OFFSET = BitVec.ofNat 32 (twos 32 (satInt 32 (cascadeOffset ((hi * 2 ^ 42 + lo) * 2 ^ 32 + frac * 2 ^ 12) r
      (sgn 16 (s.fld (Fld.CSC_TW_PHASE_PHASE p)))))))) ∧
    (∀ (p lane : Fin 4) (master sender depth : BitVec 6) (gen : BitVec 8) (reel : BitVec 2) (valid : Bool) (mode : BitVec 3),
      s.twState p = 6 → (s.twist p).failing = false → lane.val = (s.twist p).rxLane → s.isUp p = true →
      master.toNat = s.fld Fld.CSC_CFG_MASTER_ID →
      s.sameSequence = false ∨ s.csc.seqHi = none ∨ depth.toNat + 1 ≠ s.fld Fld.CSC_CFG_DEPTH ∨ valid = false →
      Completes (.stateRx p lane master sender depth gen reel valid mode) s fun t => t.csc.run = 0 ∧ t.csc.lastMeas = s.csc.lastMeas ∧
      t.csc.seqLo = none ∧ t.csc.seqHi = none ∧ t.regs = s.regs) ∧
    (∀ (p lane : Fin 4) (master sender depth : BitVec 6) (gen : BitVec 8) (reel : BitVec 2) (valid : Bool) (mode : BitVec 3),
      s.twState p = 6 → (s.twist p).failing = false → lane.val = (s.twist p).rxLane → s.isUp p = true →
      master.toNat ≠ s.fld Fld.CSC_CFG_MASTER_ID → Completes (.stateRx p lane master sender depth gen reel valid mode) s fun t =>
      t.fld Fld.CSC_STATUS_SRC_QUALIFIED = 0 ∧ (s.fld Fld.CSC_STATUS_SRC_QUALIFIED = 1 → t.fld Fld.CSC_EVENT_SRC_LOSS = 1) ∧
      t.csc.run = 0) ∧
    (∀ (p lane : Fin 4) (adj : BitVec 24) (applyT : BitVec 18) (x : Int), s.twState p = 6 → (s.twist p).failing = false →
      lane.val = (s.twist p).rxLane → s.isUp p = true → (s.reelNs : Int) - 131072 < x → x ≤ s.reelNs + 131072 →
      x % 2 ^ 18 = applyT.toNat → (s.tln.reel : Int) ≤ x * 2 ^ 32 → Completes (.rateRx p lane adj applyT) s fun t =>
      (∀ q : Fin 4, q.val ∈ s.downPorts → (t.twist q).rate = (s.twist q).rate ++ [(s.tick, adj.toNat + 2 ^ 24 * applyT.toNat)]) ∧
      (x.toNat, adj.toInt) ∈ t.csc.ratesRx ∧ t.regs = s.regs) ∧
    (∀ (p lane : Fin 4) (adj : BitVec 24) (applyT : BitVec 18) (x : Int), s.twState p = 6 → (s.twist p).failing = false →
      lane.val = (s.twist p).rxLane → s.isUp p = true → (s.reelNs : Int) - 131072 < x → x ≤ s.reelNs + 131072 →
      x % 2 ^ 18 = applyT.toNat → x * 2 ^ 32 < (s.tln.reel : Int) → adj.toInt ≠ s.csc.adjM → s.takesRates = true →
      Completes (.rateRx p lane adj applyT) s fun t => t.csc.adjM = adj.toInt ∧
      t.adj = clampInt (-s.slewMax) s.slewMax (adj.toInt + s.csc.adjServo) ∧ t.fld Fld.CSC_EVENT_RATE_LATE = 1 ∧
      OnlyRegs [Reg.TLN_ADJ, Reg.CSC_EVENT] s t) ∧
    (∀ (x : Nat) (a : Int), s.csc.rates = [(x, a)] → x ≤ s.tick → s.csc.ratesRx = [] → s.takesRates = true →
      Completes .rateApply s fun t => t.adj = clampInt (-s.slewMax) s.slewMax a ∧ t.csc.rates = [] ∧ OnlyRegs [Reg.TLN_ADJ] s t) ∧
    (∀ (x : Nat) (a : Int), s.csc.rates = [] → s.csc.ratesRx = [(x, a)] → s.inTick x = true ∨ x * 2 ^ 32 < s.tln.reel →
      s.takesRates = true → Completes .rateApply s fun t => t.csc.adjM = a ∧
      t.adj = clampInt (-s.slewMax) s.slewMax (a + s.csc.adjServo) ∧ t.csc.ratesRx = [] ∧ OnlyRegs [Reg.TLN_ADJ] s t) ∧
    (∀ (x y : Nat) (a b : Int), s.csc.rates = [(x, a)] → x ≤ s.tick → s.csc.ratesRx = [(y, b)] →
      s.inTick y = true ∨ y * 2 ^ 32 < s.tln.reel → s.takesRates = false → Completes .rateApply s fun t => t.adj = s.adj ∧
      t.csc.rates = [] ∧ t.csc.ratesRx = [] ∧ t.regs = s.regs) ∧
    (∀ (p lane : Fin 4) (count : BitVec 42) (at_ : Fin 32000), s.twState p = 5 ∨ s.twState p = 6 → (s.twist p).failing = false →
      lane.val = (s.twist p).rxLane → Completes (.syncLoRx p lane count at_) s fun t =>
      (t.twist p).lo = some (count.toNat, s.tick, at_.val) ∧ t.regs = s.regs) ∧
    (∀ (p lane : Fin 4) (count : BitVec 22) (gen : BitVec 8) (lo x a : Nat), s.twState p = 5 ∨ s.twState p = 6 →
      (s.twist p).failing = false → lane.val = (s.twist p).rxLane → s.isUp p = true → (s.twist p).lo = some (lo, x, a) →
      s.mode = 2 ∨ s.mode = 3 ∨ s.mode = 7 → s.bit Fld.CSC_STATUS_SYNC_ALIGNED = false ∨ s.fld Fld.CSC_STATUS_GEN ≠ gen.toNat →
      Completes (.syncHiRx p lane count gen) s fun t => t.fld Fld.CSC_STATUS_SYNC_ALIGNED = 1 ∧ t.fld Fld.CSC_STATUS_GEN = gen.toNat ∧
      t.fld Fld.CSC_EVENT_SYNC_APPLIED = 1 ∧ t.fld (Fld.CSC_TW_PHASE_PHASE p) = twos 16 (residual (s.markedInstant p x a)) ∧
      t.fld Fld.GLB_MODE_STATUS_CAL_DONE = 0 ∧
      t.glb.syncTick = nearestCycle (s.markedInstant p x a) / 32 - 10 * ((count.toNat * 2 ^ 42 + lo : Nat) : Int) ∧
      (t.twist p).lo = none) ∧
    (∀ (p lane : Fin 4) (count : BitVec 22) (gen : BitVec 8) (lo x a : Nat), s.twState p = 5 ∨ s.twState p = 6 →
      (s.twist p).failing = false → lane.val = (s.twist p).rxLane → s.isUp p = true → (s.twist p).lo = some (lo, x, a) →
      s.bit Fld.CSC_STATUS_SYNC_ALIGNED = true → s.fld Fld.CSC_STATUS_GEN = gen.toNat →
      (x : Int) - 10 - s.glb.syncTick = 10 * ((count.toNat * 2 ^ 42 + lo : Nat) : Int) →
      Completes (.syncHiRx p lane count gen) s fun t => t.regs = s.regs ∧ t.glb = s.glb ∧ (t.twist p).lo = none) ∧
    (∀ (p lane : Fin 4) (count : BitVec 22) (gen : BitVec 8) (lo x a : Nat), s.twState p = 5 ∨ s.twState p = 6 →
      (s.twist p).failing = false → lane.val = (s.twist p).rxLane → s.isUp p = true → (s.twist p).lo = some (lo, x, a) →
      s.bit Fld.CSC_STATUS_SYNC_ALIGNED = true → s.fld Fld.CSC_STATUS_GEN = gen.toNat →
      (x : Int) - 10 - s.glb.syncTick ≠ 10 * ((count.toNat * 2 ^ 42 + lo : Nat) : Int) →
      Completes (.syncHiRx p lane count gen) s fun t => t.fld Fld.CSC_EVENT_SYNC_SLIP = 1 ∧ t.fld Fld.CSC_STATUS_SYNC_ALIGNED = 0 ∧
      t.fld Fld.CSC_STATUS_SRC_QUALIFIED = 0 ∧ (s.fld Fld.CSC_STATUS_SRC_QUALIFIED = 1 → t.fld Fld.CSC_EVENT_SRC_LOSS = 1)) ∧
    (∀ (p lane : Fin 4) (count : BitVec 22) (gen : BitVec 8) (lo x a : Nat), s.twState p = 5 ∨ s.twState p = 6 →
      (s.twist p).failing = false → lane.val = (s.twist p).rxLane → s.isUp p = true → (s.twist p).lo = some (lo, x, a) →
      s.mode = 4 ∨ s.mode = 5 ∨ s.mode = 6 → s.bit Fld.CSC_STATUS_SYNC_ALIGNED = true → s.fld Fld.CSC_STATUS_GEN ≠ gen.toNat →
      Completes (.syncHiRx p lane count gen) s fun t => t.fld Fld.CSC_STATUS_SRC_QUALIFIED = 0 ∧
      (s.fld Fld.CSC_STATUS_SRC_QUALIFIED = 1 → t.fld Fld.CSC_EVENT_SRC_LOSS = 1) ∧ t.fld Fld.CSC_STATUS_SYNC_ALIGNED = 1 ∧
      t.fld Fld.CSC_STATUS_GEN = s.fld Fld.CSC_STATUS_GEN ∧ t.glb = s.glb) ∧
    (s.role = 2 → (∀ m ∈ s.csc.lastMeas, m.2 + 2000 ≤ s.tick) → (s.twist (s.fld Fld.CSC_DIM_UP_PORT)).firstBad = none →
      Completes .cascadeSrcTimeout s fun t => t.fld Fld.CSC_STATUS_SRC_QUALIFIED = 0 ∧ (s.fld Fld.CSC_STATUS_SRC_QUALIFIED = 1 →
      t.fld Fld.CSC_EVENT_SRC_LOSS = 1)) ∧
    (((∃ m ∈ s.csc.lastMeas, s.tick < m.2 + 2000) ∨ (s.twist (s.fld Fld.CSC_DIM_UP_PORT)).firstBad ≠ none) →
      Completes .cascadeSrcTimeout s fun t => t = s)

/-- Failover and bulk packets (R290, R309 to R315): invalid duty frames are counted and the eighth in a row fails the lane until
lane 1 carries a valid frame, FAILOVER moves the outgoing duty lane at an epoch start, a bulk packet starts on the lowest free
lane in the order of R314, and a lost one is counted. -/
def Obligations.FailoverAndBulk : Prop :=
  ∀ (s : State), s.Wf →
    (∀ (p lane : Fin 4) (prev : BitVec 58) (frame : BitVec 64), s.bit (Fld.CSC_TW_CFG_EN p) = true →
      frameValid prev.toNat frame.toNat = false → lane.val = (s.twist p).rxLane → (s.twist p).failing = false →
      (s.twist p).bad.length < 7 → Completes (.frameInvalid p lane prev frame) s fun t =>
      t.fld (Fld.CSC_TW_CRC_COUNT p) = min 0xFFFFFFFF (s.fld (Fld.CSC_TW_CRC_COUNT p) + 1) ∧ t.fld Fld.CSC_EVENT_CRC_ERR = 1 ∧
      (t.twist p).failing = false) ∧
    (∀ (p lane : Fin 4) (prev : BitVec 58) (frame : BitVec 64), s.bit (Fld.CSC_TW_CFG_EN p) = true →
      frameValid prev.toNat frame.toNat = false → s.twState p = 6 → (lane.val = 0 ∧ (s.twist p).rxLane = 0) →
      (s.twist p).failing = false → 7 ≤ s.tick → (∀ i : Fin 7, s.tick - 1 - i.val ∈ (s.twist p).bad) →
      Completes (.frameInvalid p lane prev frame) s fun t =>
      t.fld (Fld.CSC_TW_CRC_COUNT p) = min 0xFFFFFFFF (s.fld (Fld.CSC_TW_CRC_COUNT p) + 1) ∧ t.fld Fld.CSC_EVENT_CRC_ERR = 1 ∧
      (t.twist p).failing = true ∧ (t.twist p).firstBad = some (s.tick - 7)) ∧
    (∀ (p lane : Fin 4) (prev : BitVec 58) (frame : BitVec 64), s.bit (Fld.CSC_TW_CFG_EN p) = true →
      frameValid prev.toNat frame.toNat = false → lane.val ≠ (s.twist p).rxLane →
      Completes (.frameInvalid p lane prev frame) s fun t =>
      t.fld (Fld.CSC_TW_CRC_COUNT p) = min 0xFFFFFFFF (s.fld (Fld.CSC_TW_CRC_COUNT p) + 1) ∧ OnlyRegs [Reg.CSC_TW_CRC p] s t ∧
      t.csc = s.csc) ∧
    (∀ (p lane : Fin 4) (prev : BitVec 58) (frame : BitVec 64) (g ty pay : Nat), g < 2 ^ 58 → prev.toNat = g →
      frame.toNat = (scramble g (frameWord ty pay)).1 → Completes (.frameInvalid p lane prev frame) s fun t => t = s) ∧
    (∀ (p : Fin 4), s.twState p = 6 → (s.twist p).rxLane = 0 → Completes (.cdrLockLoss p) s fun t => (t.twist p).failing = true ∧
      t.regs = s.regs) ∧
    (∀ (p : Fin 4), s.twState p = 6 → (s.twist p).rxLane = 1 → Completes (.cdrLockLoss p) s fun t => t.twState p = 0 ∧
      t.fld Fld.CSC_EVENT_LINK_DOWN = 1) ∧
    (∀ (p lane : Fin 4) (freed : Fin 16), s.twState p = 6 → (s.twist p).failing = true → lane = 1 →
      Completes (.idleRx p lane freed) s fun t => (t.twist p).failing = false ∧ (t.twist p).rxLane = 1 ∧ t.regs = s.regs) ∧
    (∀ (p lane : Fin 4) (freed : Fin 16), s.twState p = 6 → s.bulkRx p lane = true → (s.twist p).failing = false →
      Completes (.idleRx p lane freed) s fun t =>
      (sget (fun _ => {}) (t.twist p).lanes lane.val).credits = min 4 ((sget (fun _ => {}) (s.twist p).lanes lane.val).credits +
      freed.val) ∧ t.regs = s.regs) ∧
    (∀ (p lane : Fin 4), s.twState p = 6 → lane.val ≤ 1 → s.fld (Fld.CSC_TW_STATUS_DUTY_LANE p) = 0 →
      Completes (.failoverRx p lane) s fun t => (t.twist p).move = true ∧ t.regs = s.regs) ∧
    (∀ (p : Fin 4), s.twState p = 6 → (s.twist p).move = true → s.sinceSync % 10 = 0 → Completes (.dutyLaneSwitch p) s fun t =>
      t.fld (Fld.CSC_TW_STATUS_DUTY_LANE p) = 1 ∧ t.fld Fld.CSC_EVENT_FAILOVER = 1 ∧ (t.twist p).move = false ∧
      (sget (fun _ => {}) (t.twist p).lanes 1).busyTo = 0 ∧ (sget (fun _ => {}) (t.twist p).lanes 1).queue = [] ∧
      t.fld Fld.SUP_TOL_FAILOVER = satAdd Fld.SUP_TOL_FAILOVER.w (s.fld Fld.SUP_TOL_FAILOVER) 1) ∧
    (∀ (p : Fin 4) (x : Nat), (s.twist p).firstBad = some x → x + 20000 ≤ s.tick → s.isUp p = true → (∀ m ∈ s.csc.lastMeas, m.2 < x) →
      Completes (.failoverTimeout p) s fun t => (t.twist p).firstBad = none ∧ t.fld Fld.CSC_STATUS_SRC_QUALIFIED = 0 ∧
      (s.fld Fld.CSC_STATUS_SRC_QUALIFIED = 1 → t.fld Fld.CSC_EVENT_SRC_LOSS = 1)) ∧
    (∀ (p lane : Fin 4) (w : Nat × Nat × Packet), s.twState p = 6 → w.2.1 = 0 →
      nextPacket (s.twist p).wait (s.twist p).served = some w → s.bulkLane p lane = true → (s.twist p).failing = false ∨ lane ≠ 1 →
      ((sget (fun _ => {}) (s.twist p).lanes lane.val).busyTo ≤ s.tick ∧
      0 < (sget (fun _ => {}) (s.twist p).lanes lane.val).credits) → (∀ l : Fin 4, l < lane → s.bulkLane p l = true →
      ((s.twist p).failing = true ∧ l = 1) ∨ s.tick < (sget (fun _ => {}) (s.twist p).lanes l.val).busyTo ∨
      (sget (fun _ => {}) (s.twist p).lanes l.val).credits = 0) → Completes (.bulkPacketStart p) s fun t =>
      (t.twist p).wait = (s.twist p).wait.erase w ∧ (t.twist p).served = (s.twist p).served.set w.2.2.cls 0 ∧
      (sget (fun _ => {}) (t.twist p).lanes lane.val).queue = (packetFrames w.2.2).tail ∧
      (sget (fun _ => {}) (t.twist p).lanes lane.val).busyTo = s.tick + (packetFrames w.2.2).length ∧
      (sget (fun _ => {}) (t.twist p).lanes lane.val).credits + 1 = (sget (fun _ => {}) (s.twist p).lanes lane.val).credits ∧
      (sget (fun _ => {}) (t.twist p).lanes lane.val).freed = 0 ∧
      sget (fun _ => none) (t.twist p).sent lane.val = some (s.tick, (scramble (sget (fun _ => 0) (s.twist p).scr lane.val) (frameWord
      0xA (((packetFrames w.2.2).head?.map Prod.snd).getD 0 + (sget (fun _ => {}) (s.twist p).lanes lane.val).freed % 16 * 2 ^
      38))).1) ∧ (1 < (packetFrames w.2.2).length → t.later = s.later ++ [(s.tick + 1, .bulkFrame p lane)]) ∧ t.regs = s.regs) ∧
    (∀ (p lane : Fin 4), s.twState p = 6 → Completes (.bulkErr p lane) s fun t =>
      t.fld ⟨Reg.CSC_TW_BULK p, 24, 8⟩ = min 255 (s.fld ⟨Reg.CSC_TW_BULK p, 24, 8⟩ + 1) ∧ t.fld Fld.CSC_EVENT_BULK_ERR = 1 ∧
      OnlyRegs [Reg.CSC_TW_BULK p, Reg.CSC_EVENT] s t)

/-- Remote access (R316, R317): a target acts for the master with RRA_EN as for its own host and answers OK, and refuses all else,
the SEC block and CLEAR_SAFE; a write that the target discards is refused, one of its DRAM is answered once its granules have
been granted (log entry 94). The master's register accesses are sent as packets, and so are its transfers once their source has
been granted; they end with their completions, a missing route or the timeout. That STATUS carries the codes of RESULT, and that
tags count up, are the model's choices (log entry 43). -/
def Obligations.RemoteAccess : Prop :=
  ∀ (s : State), s.Wf →
    (∀ (p lane : Fin 4) (freed : Fin 16) (dest src : Fin 64) (tag : Byte) (space : Fin 4) (addr : BitVec 37) (be : Fin 16) (v : Word),
      s.twState p = 6 → s.bulkRx p lane = true → dest.val = s.fld Fld.CSC_CFG_DEV_ID → s.bit (Fld.CSC_ROUTE_VALID src) = true →
      src.val ≠ s.fld Fld.CSC_CFG_MASTER_ID ∨ s.bit Fld.CSC_CFG_RRA_EN = false ∨ space ≠ 0 →
      Completes (.bulkRegWr p lane freed dest src tag space addr be v) s fun t =>
      (t.twist (s.fld (Fld.CSC_ROUTE_PORT src))).wait = (s.twist (s.fld (Fld.CSC_ROUTE_PORT src))).wait ++ [(s.tick, 0,
      ⟨src, s.fld Fld.CSC_CFG_DEV_ID, 3, tag.toNat, 3, 0, 0, []⟩)] ∧ t.regs = s.regs) ∧
    (∀ (p lane : Fin 4) (freed : Fin 16) (dest src : Fin 64) (tag : Byte) (space : Fin 4) (addr : BitVec 37) (be : Fin 16) (v : Word)
      (d : RegDesc), s.twState p = 6 → s.bulkRx p lane = true → dest.val = s.fld Fld.CSC_CFG_DEV_ID →
      s.bit (Fld.CSC_ROUTE_VALID src) = true → src.val = s.fld Fld.CSC_CFG_MASTER_ID → s.bit Fld.CSC_CFG_RRA_EN = true → space = 0 →
      addr.toNat % 4 = 0 → addr.toNat < 2 ^ 26 → be = 15 → regDesc addr.toNat = some d → d.half = .none → d.rw = 0xFFFFFFFF →
      writeActionAt addr.toNat writeActions = none → s.discards addr.toNat v = false → s.glb.released = true → s.glb.checkOn = false →
      inSec addr.toNat = false → Completes (.bulkRegWr p lane freed dest src tag space addr be v) s fun t =>
      (t.twist (s.fld (Fld.CSC_ROUTE_PORT src))).wait = (s.twist (s.fld (Fld.CSC_ROUTE_PORT src))).wait ++ [(s.tick, 0,
      ⟨src, s.fld Fld.CSC_CFG_DEV_ID, 3, tag.toNat, 2, 0, 0, []⟩)] ∧ t.rd addr.toNat = v ∧ t.resp = s.resp) ∧
    (∀ (p lane : Fin 4) (freed : Fin 16) (dest src : Fin 64) (tag : Byte) (space : Fin 4) (addr : BitVec 37) (be : Fin 16) (v : Word),
      s.twState p = 6 → s.bulkRx p lane = true → dest.val = s.fld Fld.CSC_CFG_DEV_ID → s.bit (Fld.CSC_ROUTE_VALID src) = true →
      space = 0 → addr.toNat % 4 = 0 → addr.toNat < 2 ^ 26 → be = 15 → (inSec addr.toNat = true ∨ (addr.toNat = Reg.GLB_MODE_CTL ∧
      fieldGet v Fld.GLB_MODE_CTL_REQ = 7 ∧ s.glb.checkOn = false)) →
      Completes (.bulkRegWr p lane freed dest src tag space addr be v) s fun t =>
      (t.twist (s.fld (Fld.CSC_ROUTE_PORT src))).wait = (s.twist (s.fld (Fld.CSC_ROUTE_PORT src))).wait ++ [(s.tick, 0,
      ⟨src, s.fld Fld.CSC_CFG_DEV_ID, 3, tag.toNat, 3, 0, 0, []⟩)] ∧ t.regs = s.regs) ∧
    (∀ (p lane : Fin 4) (freed : Fin 16) (dest src : Fin 64) (tag : Byte) (space : Fin 4) (addr : BitVec 37) (be : Fin 16) (v : Word)
      (q : Fin 64), s.twState p = 6 → s.bulkRx p lane = true → dest.val = s.fld Fld.CSC_CFG_DEV_ID →
      s.bit (Fld.CSC_ROUTE_VALID src) = true → src.val = s.fld Fld.CSC_CFG_MASTER_ID → s.bit Fld.CSC_CFG_RRA_EN = true → space = 0 →
      be = 15 → addr.toNat = Reg.HIF_Q_RING_HI q → s.bit (Fld.HIF_Q_CFG_EN q) = true →
      Completes (.bulkRegWr p lane freed dest src tag space addr be v) s fun t =>
      (t.twist (s.fld (Fld.CSC_ROUTE_PORT src))).wait = (s.twist (s.fld (Fld.CSC_ROUTE_PORT src))).wait ++ [(s.tick, 0,
      ⟨src, s.fld Fld.CSC_CFG_DEV_ID, 3, tag.toNat, 3, 0, 0, []⟩)] ∧ t.rd64 (Reg.HIF_Q_RING_LO q) = s.rd64 (Reg.HIF_Q_RING_LO q)) ∧
    (∀ (p lane : Fin 4) (freed : Fin 16) (dest src : Fin 64) (tag : Byte) (space : Fin 4) (addr : BitVec 37) (d : RegDesc), s.twState
      p = 6 → s.bulkRx p lane = true → dest.val = s.fld Fld.CSC_CFG_DEV_ID → s.bit (Fld.CSC_ROUTE_VALID src) = true →
      src.val = s.fld Fld.CSC_CFG_MASTER_ID → s.bit Fld.CSC_CFG_RRA_EN = true → space = 0 → addr.toNat % 4 = 0 → addr.toNat < 2 ^ 26 →
      regDesc addr.toNat = some d → d.half = .none → elem addr.toNat (Reg.SUP_MADC_RESULT 0) 0x10 2 = none →
      addr.toNat ≠ Reg.TLN_REEL_FRAC → inSec addr.toNat = false → s.glb.released = true →
      Completes (.bulkRegRd p lane freed dest src tag space addr) s fun t =>
      (t.twist (s.fld (Fld.CSC_ROUTE_PORT src))).wait = (s.twist (s.fld (Fld.CSC_ROUTE_PORT src))).wait ++ [(s.tick, 0, ⟨src, s.fld
      Fld.CSC_CFG_DEV_ID, 3, tag.toNat, 2, 0, 0, [(s.live addr.toNat, 15)]⟩)] ∧ t.regs = s.regs ∧ t.resp = s.resp) ∧
    (∀ (p lane : Fin 4) (freed : Fin 16) (dest src : Fin 64) (tag : Byte) (space : Fin 4) (addr : BitVec 37), s.twState p = 6 →
      s.bulkRx p lane = true → dest.val = s.fld Fld.CSC_CFG_DEV_ID → s.bit (Fld.CSC_ROUTE_VALID src) = true →
      src.val ≠ s.fld Fld.CSC_CFG_MASTER_ID ∨ s.bit Fld.CSC_CFG_RRA_EN = false ∨ space ≠ 0 ∨ inSec (addr.toNat / 4 * 4) = true →
      Completes (.bulkRegRd p lane freed dest src tag space addr) s fun t =>
      (t.twist (s.fld (Fld.CSC_ROUTE_PORT src))).wait = (s.twist (s.fld (Fld.CSC_ROUTE_PORT src))).wait ++ [(s.tick, 0,
      ⟨src, s.fld Fld.CSC_CFG_DEV_ID, 3, tag.toNat, 3, 0, 0, []⟩)] ∧ t.regs = s.regs) ∧
    (∀ (p lane : Fin 4) (freed : Fin 16) (dest src : Fin 64) (tag : Byte) (space : Fin 4) (addr : BitVec 37) (v : Word), s.twState p =
      6 → s.bulkRx p lane = true → dest.val = s.fld Fld.CSC_CFG_DEV_ID → s.bit (Fld.CSC_ROUTE_VALID src) = true →
      src.val = s.fld Fld.CSC_CFG_MASTER_ID → s.bit Fld.CSC_CFG_RRA_EN = true → space = 1 → addr.toNat % 4 = 0 →
      addr.toNat < sramSize → s.mode ≠ 0 → (∀ i : Fin 4, s.sramBar (addr.toNat + i.val) = .free) →
      Completes (.bulkMemWr p lane freed dest src tag space addr [(v, 15)] false) s fun t =>
      (t.twist (s.fld (Fld.CSC_ROUTE_PORT src))).wait = (s.twist (s.fld (Fld.CSC_ROUTE_PORT src))).wait ++ [(s.tick, 0,
      ⟨src, s.fld Fld.CSC_CFG_DEV_ID, 3, tag.toNat, 2, 0, 0, []⟩)] ∧ t.sramNat addr.toNat 4 = v.toNat ∧
      (∀ a, a < addr.toNat ∨ addr.toNat + 4 ≤ a → t.sramByte a = s.sramByte a)) ∧
    (∀ (p lane : Fin 4) (freed : Fin 16) (dest src : Fin 64) (tag : Byte) (space : Fin 4) (addr : BitVec 37) (v : Word), s.twState p =
      6 → s.bulkRx p lane = true → dest.val = s.fld Fld.CSC_CFG_DEV_ID → s.bit (Fld.CSC_ROUTE_VALID src) = true →
      src.val = s.fld Fld.CSC_CFG_MASTER_ID → s.bit Fld.CSC_CFG_RRA_EN = true → space = 2 → addr.toNat % 4 = 0 →
      (s.mode ≠ 0 ∧ s.mode ≠ 2) → Completes (.bulkMemWr p lane freed dest src tag space addr [(v, 15)] false) s fun t =>
      t.mem.held = s.mem.held ++ [(s.mem.seq, .remote (⟨dest.val, src.val, 2, tag.toNat, 0, space.val, addr.toNat, [(v, 15)]⟩))] ∧
      t.dramWaits (.host s.mem.seq) = true ∧ t.dram = s.dram ∧
      (t.twist (s.fld (Fld.CSC_ROUTE_PORT src))).wait = (s.twist (s.fld (Fld.CSC_ROUTE_PORT src))).wait) ∧
    (∀ (id : Nat) (dest src : Fin 64) (tag : Byte) (addr : BitVec 37) (v : Word), s.mem.held = [(id, .remote (⟨dest.val, src.val, 2,
      tag.toNat, 0, 2, addr.toNat, [(v, 15)]⟩))] → s.dramWaits (.host id) = false → s.bit Fld.MEM_STATUS_DRAM_READY = true →
      s.bit Fld.MEM_STATUS_SELF_REFRESH = false → s.bit (Fld.CSC_ROUTE_VALID src) = true → addr.toNat % 4 = 0 → s.sec.image = none →
      Completes (.dramRequestDone []) s fun t =>
      (t.twist (s.fld (Fld.CSC_ROUTE_PORT src))).wait = (s.twist (s.fld (Fld.CSC_ROUTE_PORT src))).wait ++ [(s.tick, 0,
      ⟨src, s.fld Fld.CSC_CFG_DEV_ID, 3, tag.toNat, 2, 0, 0, []⟩)] ∧ t.mem.held = [] ∧ t.dramNat addr.toNat 4 = v.toNat ∧
      (∀ a, a < addr.toNat ∨ addr.toNat + 4 ≤ a → t.dramByte a = s.dramByte a)) ∧
    (∀ (p lane : Fin 4) (freed : Fin 16) (dest src : Fin 64) (tag : Byte) (space : Fin 4) (addr : BitVec 37)
      (data : List (Word × Fin 16)) (ue : Bool), s.twState p = 6 → s.bulkRx p lane = true → dest.val = s.fld Fld.CSC_CFG_DEV_ID →
      s.bit (Fld.CSC_ROUTE_VALID src) = true →
      src.val ≠ s.fld Fld.CSC_CFG_MASTER_ID ∨ s.bit Fld.CSC_CFG_RRA_EN = false ∨ space = 0 ∨ space = 3 →
      Completes (.bulkMemWr p lane freed dest src tag space addr data ue) s fun t =>
      (t.twist (s.fld (Fld.CSC_ROUTE_PORT src))).wait = (s.twist (s.fld (Fld.CSC_ROUTE_PORT src))).wait ++ [(s.tick, 0,
      ⟨src, s.fld Fld.CSC_CFG_DEV_ID, 3, tag.toNat, 3, 0, 0, []⟩)] ∧ t.regs = s.regs ∧ t.sram = s.sram ∧ t.dram = s.dram) ∧
    (∀ (path : Path) (target : Fin 64), s.accepts path Reg.CSC_RRA_CTL = true → s.role = 1 → s.bit Fld.CSC_RRA_STATUS_BUSY = false →
      s.bit (Fld.CSC_ROUTE_VALID target) = true → Completes (.rraWrite path target) s fun t =>
      (t.twist (s.fld (Fld.CSC_ROUTE_PORT target))).wait = (s.twist (s.fld (Fld.CSC_ROUTE_PORT target))).wait ++ [(s.tick, 0, ⟨target,
      s.fld Fld.CSC_CFG_DEV_ID, 0, s.csc.nextTag, 0, 0, 4 * s.fld Fld.CSC_RRA_ADDR_OFFSET, [(s.rd Reg.CSC_RRA_DATA, 15)]⟩)] ∧
      t.fld Fld.CSC_RRA_STATUS_BUSY = 1 ∧ t.fld Fld.CSC_RRA_STATUS_RESULT = 0 ∧ t.csc.rra = some (s.tick, 0, s.csc.nextTag)) ∧
    (∀ (path : Path) (target : Fin 64), s.accepts path Reg.CSC_RRA_CTL = true → s.role = 1 → s.bit Fld.CSC_RRA_STATUS_BUSY = false →
      s.bit (Fld.CSC_ROUTE_VALID target) = true → Completes (.rraRead path target) s fun t =>
      (t.twist (s.fld (Fld.CSC_ROUTE_PORT target))).wait = (s.twist (s.fld (Fld.CSC_ROUTE_PORT target))).wait ++ [(s.tick, 0, ⟨target,
      s.fld Fld.CSC_CFG_DEV_ID, 1, s.csc.nextTag, 0, 0, 4 * s.fld Fld.CSC_RRA_ADDR_OFFSET, []⟩)] ∧ t.fld Fld.CSC_RRA_STATUS_BUSY = 1 ∧
      t.fld Fld.CSC_RRA_STATUS_RESULT = 0 ∧ t.csc.rra = some (s.tick, 1, s.csc.nextTag)) ∧
    (∀ (path : Path) (target : Fin 64), s.accepts path Reg.CSC_RRA_CTL = true → s.role = 1 → s.bit Fld.CSC_RRA_STATUS_BUSY = false →
      s.bit (Fld.CSC_ROUTE_VALID target) = false → Completes (.rraRead path target) s fun t => t.fld Fld.CSC_RRA_STATUS_RESULT = 5 ∧
      t.fld Fld.CSC_RRA_STATUS_BUSY = 0 ∧ t.csc = s.csc) ∧
    (∀ (x r g : Nat), s.csc.rra = some (x, r, g) → x + 500 * s.fld Fld.CSC_RRA_TIMEOUT_US ≤ s.tick → Completes .rraTimeout s fun t =>
      t.fld Fld.CSC_RRA_STATUS_BUSY = 0 ∧ t.fld Fld.CSC_RRA_STATUS_RESULT = 4 ∧ t.csc.rra = none) ∧
    (∀ (p lane : Fin 4) (freed : Fin 16) (dest src : Fin 64) (tag : Byte) (status : Fin 8) (x r : Nat) (v : Word), s.twState p = 6 →
      s.bulkRx p lane = true → dest.val = s.fld Fld.CSC_CFG_DEV_ID → s.csc.rra = some (x, r, tag.toNat) →
      Completes (.bulkCpl p lane freed dest src tag status (some v)) s fun t => t.fld Fld.CSC_RRA_STATUS_BUSY = 0 ∧
      t.fld Fld.CSC_RRA_STATUS_RESULT = status.val ∧ t.fld Fld.CSC_EVENT_RRA_DONE = 1 ∧ t.csc.rra = none ∧
      t.rd Reg.CSC_RRA_DATA = (if r = 1 ∧ status.val = 2 then v else s.rd Reg.CSC_RRA_DATA)) ∧
    (∀ (p lane : Fin 4) (freed : Fin 16) (dest src : Fin 64) (tag : Byte) (status : Fin 8) (v : Word), s.twState p = 6 →
      s.bulkRx p lane = true → dest.val = s.fld Fld.CSC_CFG_DEV_ID → s.csc.rra = none → tag.toNat ∈ s.csc.rdmaTags →
      status.val ≠ 2 ∨ s.csc.rdmaTags = [tag.toNat] → Completes (.bulkCpl p lane freed dest src tag status (some v)) s fun t =>
      t.fld Fld.CSC_RDMA_STATUS_BUSY = 0 ∧ t.fld Fld.CSC_RDMA_STATUS_RESULT = status.val ∧ t.csc.rdmaTags = [] ∧
      (status.val = 2 → t.fld Fld.CSC_EVENT_RDMA_DONE = 1)) ∧
    (∀ (path : Path) (space : Fin 4) (target : Fin 64) (len : Nat), s.accepts path Reg.CSC_RDMA_CTL = true → s.role = 1 →
      s.bit Fld.CSC_RDMA_STATUS_BUSY = false → space = 1 ∨ space = 2 → s.bit (Fld.CSC_ROUTE_VALID target) = true →
      s.fld Fld.CSC_RDMA_LEN_BYTES = len → 0 < len → len % 4 = 0 → s.rd64 Reg.CSC_RDMA_SRC_LO % 4 = 0 →
      s.rd64 Reg.CSC_RDMA_DST_LO % 4 = 0 → s.rd64 Reg.CSC_RDMA_SRC_LO + len ≤ dramSize →
      Completes (.rdmaStart path space target) s fun t => t.fld Fld.CSC_RDMA_STATUS_BUSY = 1 ∧ t.fld Fld.CSC_RDMA_STATUS_RESULT = 0 ∧
      t.csc.rdmaTags = [] ∧
      t.mem.held = s.mem.held ++ [(s.mem.seq, .rdma target space (s.rd64 Reg.CSC_RDMA_SRC_LO) len
      (s.rd64 Reg.CSC_RDMA_DST_LO % 2 ^ 37))] ∧ t.dramWaits (.host s.mem.seq) = true) ∧
    (∀ (id space src len dst : Nat) (target : Fin 64), s.mem.held = [(id, .rdma target space src len dst)] →
      s.dramWaits (.host id) = false → s.bit Fld.MEM_STATUS_DRAM_READY = true → s.bit Fld.MEM_STATUS_SELF_REFRESH = false →
      s.bit Fld.CSC_RDMA_STATUS_BUSY = true → s.csc.rdmaTags = [] → s.bit (Fld.CSC_ROUTE_VALID target) = true → s.csc.nextTag < 256 →
      (0 < len ∧ len ≤ 256) → len % 4 = 0 → s.dramMarked src len = false → s.masks = false →
      Completes (.dramRequestDone []) s fun t => t.mem.held = [] ∧ t.csc.rdmaTags = [s.csc.nextTag] ∧
      t.fld Fld.CSC_RDMA_STATUS_BUSY = 1 ∧
      (t.twist (s.fld (Fld.CSC_ROUTE_PORT target))).wait = (s.twist (s.fld (Fld.CSC_ROUTE_PORT target))).wait ++ [(s.tick, 0, ⟨target,
      s.fld Fld.CSC_CFG_DEV_ID, 2, s.csc.nextTag, 0, space, dst, (List.range (len / 4)).map fun i =>
      (BitVec.ofNat 32 (s.dramNat (src + 4 * i) 4), 15)⟩)]) ∧
    (∀ (id space src len dst : Nat) (target : Fin 64), s.mem.held = [(id, .rdma target space src len dst)] →
      s.dramWaits (.host id) = false → s.bit Fld.MEM_STATUS_DRAM_READY = true → s.bit Fld.MEM_STATUS_SELF_REFRESH = false →
      s.bit Fld.CSC_RDMA_STATUS_BUSY = true → s.csc.rdmaTags = [] → s.bit (Fld.CSC_ROUTE_VALID target) = true → s.csc.nextTag < 256 →
      s.dramMarked src len = false → Completes (.dramRequestDone []) s fun t => t.mem.held = [] ∧
      t.csc.rdmaTags = (List.range ((len + 255) / 256)).map fun i => (s.csc.nextTag + i) % 256) ∧
    (∀ (path : Path) (space : Fin 4) (target : Fin 64), s.accepts path Reg.CSC_RDMA_CTL = true → s.role = 1 →
      s.bit Fld.CSC_RDMA_STATUS_BUSY = false → space = 0 ∨ space = 3 ∨ s.bit (Fld.CSC_ROUTE_VALID target) = false →
      Completes (.rdmaStart path space target) s fun t =>
      t.fld Fld.CSC_RDMA_STATUS_RESULT = (if space = 0 ∨ space = 3 then 3 else 5) ∧ t.fld Fld.CSC_RDMA_STATUS_BUSY = 0 ∧
      t.csc = s.csc) ∧
    (s.bit Fld.CSC_RDMA_STATUS_BUSY = true → s.csc.rdmaTick + 500 * s.fld Fld.CSC_RRA_TIMEOUT_US ≤ s.tick →
      Completes .rdmaTimeout s fun t => t.fld Fld.CSC_RDMA_STATUS_BUSY = 0 ∧ t.fld Fld.CSC_RDMA_STATUS_RESULT = 4 ∧
      t.csc.rdmaTags = [])

/-- Bobbins are armed, disarmed, forced, cleared and released (R328, R332, R333, R345), re-arm or wait (R341), write the entry of
an ended capture with its count (R339 to R342), and spill captured data to DRAM, the remainder of an ended capture first
(R326, R330, R338). BOB_SPILLED passes discarded history only when no captured data is still to be spilled (log entry 146). -/
def Obligations.BobbinControl : Prop :=
  ∀ (s : State) (b : Fin 32), s.Wf →
    (∀ (path : Path) (v : Word), s.accepts path Reg.BOB_ARM = true → v.getLsbD b = true → s.bit (Fld.BOB_CFG_EN b) = true →
      s.mode = 5 ∨ s.mode = 6 → s.bobState b = 0 ∨ s.bobState b = 4 → (s.bobbin b).capEnd ≤ s.bobRd b →
      Completes (.bobArm path v) s fun t => t.bobState b = 1 ∧ (t.bobbin b).hist = 0 ∧ (t.bobbin b).armReel = s.tln.reel ∧
      (t.bobbin b).tcT = (List.range 4).map (fun c => s.rd64 (Reg.BOB_TC_T_LO b c)) ∧ t.bobRd b = s.bobWr b) ∧
    (∀ (path : Path) (v : Word), s.accepts path Reg.BOB_ARM = true → v.getLsbD b = true → s.bit (Fld.BOB_CFG_EN b) = true →
      s.mode = 5 ∨ s.mode = 6 → s.bobState b = 0 ∨ s.bobState b = 4 → s.bobRd b < (s.bobbin b).capEnd → s.spills b = false →
      s.bobNeeds b ≤ s.bobFree b → Completes (.bobArm path v) s fun t => t.bobState b = 1 ∧ (t.bobbin b).hist = 0 ∧
      t.bobRd b = s.bobRd b) ∧
    (∀ (path : Path) (v : Word), s.accepts path Reg.BOB_ARM = true →
      (v.getLsbD b = false ∨ s.bit (Fld.BOB_CFG_EN b) = false ∨ (s.mode ≠ 5 ∧ s.mode ≠ 6) ∨ (s.bobState b ≠ 0 ∧ s.bobState b ≠ 4)) →
      Completes (.bobArm path v) s fun t => t.bobbin b = s.bobbin b ∧ t.rd (Reg.BOB_STATUS b) = s.rd (Reg.BOB_STATUS b)) ∧
    (∀ (path : Path) (v : Word), s.accepts path Reg.BOB_DISARM = true → v.getLsbD b = true → Completes (.bobDisarm path v) s fun t =>
      t.bobState b = 0 ∧ (t.bobbin b).cap = none ∧ (t.bobbin b).hist = 0 ∧ (∀ c ∈ (s.bobbin b).cap, c.deferred = false ∨ c.n ≠ 0 →
      (t.bobbin b).ended = (s.bobbin b).ended ++ [⟨s.tick, s.bobWr b, c, c.pre, c.n, 256, false, s.bit Fld.BOB_CTL_SINGLE || bitOf
      (256) 10, if s.bobWr b ≤ s.bobSpilled b then some s.tick else none, (s.bobbin b).settles, (s.bobbin b).ovrs, (s.bobbin b).viols,
      (s.bobbin b).losts⟩] ∧ (t.bobbin b).todo = (s.bobbin b).todo ++ (if s.spills b = true ∧
      max (s.bobbin b).issued (c.start) < s.bobWr b then [(max (s.bobbin b).issued (c.start), s.bobWr b)] else []))) ∧
    (∀ (path : Path) (v : Word), s.accepts path Reg.BOB_FORCE = true → v.getLsbD b = true → s.bobState b = 1 ∨ s.bobState b = 2 →
      Completes (.bobForce path v) s fun t => (t.bobbin b).marks = (s.bobbin b).marks ++ [(4, s.tln.reel)] ∧ t.regs = s.regs) ∧
    (∀ (path : Path) (v : Word), s.accepts path (Reg.BOB_CMD b) = true → v.getLsbD 0 = true → s.bobState b = 0 ∨ s.bobState b = 4 →
      Completes (.bobReset path b v) s fun t => t.bobWr b = 0 ∧ t.bobRd b = 0 ∧ t.bobSpilled b = 0 ∧ t.rd (Reg.BOB_DIR_HEAD b) = 0 ∧
      (∀ n : Fin 256, ∀ j : Fin 8, t.rd (Reg.BOB_DIR b n j) = 0) ∧ (∀ i, i < bobRingSize → t.sramByte (bobRingBase b + i) = 0) ∧
      t.bobbin b = {}) ∧
    (∀ (path : Path) (v : Word), s.accepts path (Reg.BOB_CMD b) = true →
      (v.getLsbD 0 = false ∨ (s.bobState b ≠ 0 ∧ s.bobState b ≠ 4)) → Completes (.bobReset path b v) s fun t => t.regs = s.regs ∧
      t.bob = s.bob ∧ t.sram = s.sram) ∧
    (∀ (path : Path) (v : BitVec 64), s.accepts path (Reg.BOB_RD_HI b) = true → s.bobState b ≠ 1 → s.bobRd b ≤ v.toNat →
      (v.toNat ≤ (if s.spills b = true then s.bobSpilled b else s.bobWr b)) → Completes (.bobRdWrite path b v) s fun t =>
      t.bobRd b = v.toNat) ∧
    (∀ (path : Path) (v : BitVec 64), s.accepts path (Reg.BOB_RD_HI b) = true →
      (v.toNat < s.bobRd b ∨ (if s.spills b = true then s.bobSpilled b else s.bobWr b) < v.toNat) →
      Completes (.bobRdWrite path b v) s fun t => t.bobRd b = s.bobRd b ∧ t.fld (Fld.BOB_EVENT_RD_REFUSED b) = 1 ∧
      OnlyRegs [Reg.BOB_EVENT b] s t) ∧
    (∀ (path : Path) (v : Word), s.accepts path (Reg.BOB_DIR_HEAD b) = true → Completes (.bobDirAck path b v) s fun t =>
      t.fld (Fld.BOB_DIR_HEAD_PENDING b) = (if v.getLsbD 23 = true then s.fld (Fld.BOB_DIR_HEAD_PENDING b) - (v.toNat / 2 ^ 24 + 1)
      else s.fld (Fld.BOB_DIR_HEAD_PENDING b)) ∧ OnlyRegs [Reg.BOB_DIR_HEAD b] s t) ∧
    (s.bobState b = 1 → s.bit (Fld.BOB_CFG_AUTO b) = true → (s.bobbin b).autoDone = false →
      (s.bobbin b).armReel + s.fld (Fld.BOB_AUTO_TMO_COUNT b) % 65536 * 1000 * 2 ^ 32 ≤ s.tln.reel →
      Completes (.bobAutoTimeout b) s fun t => (t.bobbin b).marks = (s.bobbin b).marks ++ [(5, s.tln.reel)] ∧
      (t.bobbin b).autoDone = true ∧ t.regs = s.regs) ∧
    ((s.bobState b = 3 ∨ (s.bobState b = 2 ∧ (s.bobbin b).cap = none ∧ ∃ x ∈ (s.bobbin b).rearm, x ≤ s.tick)) →
      s.fld (Fld.BOB_DIR_HEAD_PENDING b) < 256 → s.bobNeeds b ≤ s.bobFree b → s.spills b = false ∨ (s.bobbin b).capEnd ≤ s.bobRd b →
      Completes (.bobRearm b) s fun t => t.bobState b = 1 ∧ t.fld (Fld.BOB_STATUS_DIR_FULL b) = 0 ∧
      t.fld (Fld.BOB_STATUS_SPACE_LOW b) = 0) ∧
    ((s.bobState b = 3 ∨ (s.bobState b = 2 ∧ (s.bobbin b).cap = none ∧ ∃ x ∈ (s.bobbin b).rearm, x ≤ s.tick)) →
      256 ≤ s.fld (Fld.BOB_DIR_HEAD_PENDING b) ∨ s.bobFree b < s.bobNeeds b → Completes (.bobRearm b) s fun t => t.bobState b = 3 ∧
      t.fld (Fld.BOB_STATUS_DIR_FULL b) = b2n (decide (256 ≤ s.fld (Fld.BOB_DIR_HEAD_PENDING b))) ∧
      t.fld (Fld.BOB_STATUS_SPACE_LOW b) = b2n (decide (s.bobFree b < s.bobNeeds b))) ∧
    ((s.bobState b = 3 ∨ (s.bobState b = 2 ∧ (s.bobbin b).cap = none ∧ ∃ x ∈ (s.bobbin b).rearm, x ≤ s.tick)) →
      s.fld (Fld.BOB_DIR_HEAD_PENDING b) < 256 → s.bobNeeds b ≤ s.bobFree b → s.spills b = true → s.bobRd b < (s.bobbin b).capEnd →
      ((s.bobbin b).spill = [] ∧ (s.bobbin b).todo = []) →
      s.bobNeeds b ≤ min (bobRingSize - (s.bobWr b - s.bobHist b)) (s.spillArea b - (s.bobHist b - s.bobRd b)) →
      Completes (.bobRearm b) s fun t => t.bobState b = 1 ∧ t.bobRd b = s.bobRd b ∧ t.bobSpilled b = s.bobHist b ∧
      (t.bobbin b).issued = s.bobHist b) ∧
    ((s.bobState b = 3 ∨ (s.bobState b = 2 ∧ (s.bobbin b).cap = none ∧ ∃ x ∈ (s.bobbin b).rearm, x ≤ s.tick)) →
      s.fld (Fld.BOB_DIR_HEAD_PENDING b) < 256 → s.bobNeeds b ≤ s.bobFree b → s.spills b = true → s.bobRd b < (s.bobbin b).capEnd →
      (s.bobbin b).spill ≠ [] ∨ (s.bobbin b).todo ≠ [] → Completes (.bobRearm b) s fun t => t.bobState b = 1 ∧ t.bobRd b = s.bobRd b ∧
      t.bobSpilled b = s.bobSpilled b ∧ (t.bobbin b).todo = (s.bobbin b).todo) ∧
    (∀ (e : BobEnd) (l : List BobEnd), (s.bobbin b).ended = e :: l → e.tick < s.tick → s.fld (Fld.BOB_DIR_HEAD_PENDING b) < 256 →
      (s.spills b = false ∨ e.soon = true ∨ ∃ x ∈ e.spilled, x < s.tick) → Completes (.capture b) s fun t =>
      (∀ j : Fin 8, t.rd (Reg.BOB_DIR b (s.fld (Fld.BOB_DIR_HEAD_NEXT b)) j) = (e.words (s.itemSize b)).getD j 0) ∧
      t.fld (Fld.BOB_DIR_HEAD_NEXT b) = (s.fld (Fld.BOB_DIR_HEAD_NEXT b) + 1) % 256 ∧
      t.fld (Fld.BOB_DIR_HEAD_PENDING b) = s.fld (Fld.BOB_DIR_HEAD_PENDING b) + 1 ∧ t.fld (Fld.BOB_EVENT_CAPTURE b) = 1 ∧
      t.fld (Fld.BOB_COUNT_CAPTURES b) = min 0xFFFF (s.fld (Fld.BOB_COUNT_CAPTURES b) + 1) ∧ (t.bobbin b).ended = l ∧
      (s.bobState b = 2 → (s.bobbin b).cap = none → l = [] → if e.done = true then t.bobState b = 4 else t.bobState b = 2 ∧
      (t.bobbin b).rearm = some (s.tick + 1))) ∧
    (∀ (e : BobEnd) (l : List BobEnd), (s.bobbin b).ended = e :: l →
      (s.fld (Fld.BOB_DIR_HEAD_PENDING b) = 256 ∨ s.tick ≤ e.tick ∨ (s.spills b = true ∧ e.soon = false ∧
      ∀ x ∈ e.spilled, s.tick ≤ x)) → Completes (.capture b) s fun t => t = s) ∧
    (∀ (c : BobCap) (a : Nat), s.spills b = true → (s.bobbin b).todo = [] → (s.bobbin b).cap = some c →
      a = max (s.bobbin b).issued c.start → a + 4096 ≤ s.bobWr b → a + 4096 - s.bobRd b ≤ s.spillArea b →
      Completes (.bobSpillRequest b) s fun t => (t.bobbin b).spill = (s.bobbin b).spill ++ [(a, 4096)] ∧
      (t.bobbin b).issued = a + 4096 ∧ (∃ q ∈ t.mem.reqs, q.cls = 1 ∧ q.owner = .spill b a ∧ q.tick = s.tick ∧
      q.deadline = s.tln.reel + s.ringFree b * 1000000000 * 2 ^ 32 / max 1 (s.fullRate b)) ∧ t.regs = s.regs) ∧
    (∀ (a z : Nat) (l : List (Nat × Nat)), s.spills b = true → (s.bobbin b).todo = (a, z) :: l → a < z →
      a + min 4096 (z - a) - s.bobRd b ≤ s.spillArea b → Completes (.bobSpillRequest b) s fun t =>
      (t.bobbin b).spill = (s.bobbin b).spill ++ [(a, min 4096 (z - a))] ∧
      (t.bobbin b).todo = (if a + 4096 < z then (a + 4096, z) :: l else l) ∧ (∃ q ∈ t.mem.reqs, q.cls = 1 ∧ q.owner = .spill b a ∧
      q.tick = s.tick ∧ q.deadline = s.tln.reel + s.ringFree b * 1000000000 * 2 ^ 32 / max 1 (s.fullRate b)) ∧ t.regs = s.regs) ∧
    (∀ (a z : Nat) (l : List (Nat × Nat)) (e : BobEnd), s.spills b = true → (s.bobbin b).todo = (a, z) :: l →
      s.spillArea b < a + min 4096 (z - a) - s.bobRd b → Completes (.bobSpillRequest b) s fun t =>
      (s.bobbin b).ended.find? (fun e => decide (e.cap.start ≤ a) && decide (a < e.stop)) = some e →
      (t.bobbin b).ended = (s.bobbin b).ended.replace e { e with tick := s.tick, soon := true, extra := e.extra / 16 * 16 + 6 } ∧
      (t.bobbin b).spill = (s.bobbin b).spill ∧ (bitOf e.extra 1 = false → t.fld (Fld.BOB_EVENT_TRUNCATED b) = 1)) ∧
    (∀ (c : BobCap), s.spills b = true → (s.bobbin b).todo = [] → (s.bobbin b).cap = some c →
      max (s.bobbin b).issued c.start + 4096 ≤ s.bobWr b → s.spillArea b < max (s.bobbin b).issued c.start + 4096 - s.bobRd b →
      Completes (.bobSpillRequest b) s fun t => t.fld (Fld.BOB_EVENT_TRUNCATED b) = 1 ∧ (t.bobbin b).spill = (s.bobbin b).spill ∧
      (t.bobbin b).cap.map (·.start) = (s.bobbin b).queued.bind (fun _ =>
      if s.bit Fld.BOB_CTL_SINGLE then none else some (s.bobWr b)) ∧
      (t.bobbin b).ended = (s.bobbin b).ended ++ [⟨s.tick, s.bobWr b, c, c.pre, c.n, 6, true, s.bit Fld.BOB_CTL_SINGLE || bitOf (6)
      10, if s.bobWr b ≤ s.bobSpilled b then some s.tick else none, (s.bobbin b).settles, (s.bobbin b).ovrs, (s.bobbin b).viols,
      (s.bobbin b).losts⟩]) ∧
    (∀ (pos len : Nat) (l : List (Nat × Nat)), (s.bobbin b).spill = (pos, len) :: l → s.dramWaits (.spill b pos) = false →
      (s.bobState b ≠ 1 ∧ s.bobState b ≠ 3) → pos + len < 2 ^ 64 → (0 < len ∧ len ≤ s.spillArea b) →
      s.rd64 (Reg.BOB_SPILL_BASE_LO b) + s.spillArea b ≤ dramSize → s.sec.image = none → Completes (.bobSpillDone b) s fun t =>
      t.bobSpilled b = pos + len ∧ (t.bobbin b).spill = l ∧ (t.bobbin b).ended = (s.bobbin b).ended.map (fun e =>
      if e.stop ≤ pos + len ∧ e.spilled = none then { e with spilled := some s.tick } else e) ∧ (∀ i, i < len →
      t.dramByte (s.rd64 (Reg.BOB_SPILL_BASE_LO b) + (pos + i) % s.spillArea b) = s.sramByte
      (bobRingBase b + (pos + i) % bobRingSize))) ∧
    (∀ (pos len : Nat) (l : List (Nat × Nat)), (s.bobbin b).spill = (pos, len) :: l → s.dramWaits (.spill b pos) = true →
      Completes (.bobSpillDone b) s fun t => t = s)

/-- What an item does to a bobbin (R322 to R327, R333 to R339, R343, R344): an ARMED bobbin keeps it as history or captures from
it, a capture ends with its last item, a full ring or a stopping violation, a busy trigger acts by BUSY_POL, and records queue,
are lost when the queue is full, and are written for changes only. A trigger between a capture's last item and the re-arming
acts by BUSY_POL too (log entry 147). -/
def Obligations.BobbinItems : Prop :=
  ∀ (s : State) (b : Fin 32), s.Wf →
    (∀ (it : BobItem) (l : List BobItem), s.mode = 5 ∨ s.mode = 6 → (s.bobbin b).q = it :: l → (s.bobbin b).popTick ≠ some s.tick →
      it.bytes.length = s.itemSize b → s.bobWr b + it.bytes.length < 2 ^ 64 → s.bobState b = 1 → (s.bobbin b).cap = none →
      s.identified b it = 0 → (s.bobbin b).capEnd ≤ s.bobRd b → Completes (.bobItem b .queued) s fun t =>
      (List.range it.bytes.length).map (fun i => t.sramByte (bobRingBase b + (s.bobWr b + i) % bobRingSize)) = it.bytes ∧
      t.bobWr b = s.bobWr b + it.bytes.length ∧ t.bobState b = 1 ∧
      (t.bobbin b).hist = min ((s.bobbin b).hist + 1) (s.fld (Fld.BOB_PRE_COUNT b)) ∧ (t.bobbin b).cap = none ∧ (t.bobbin b).q = l) ∧
    (∀ (it : BobItem) (l : List BobItem), s.mode = 5 ∨ s.mode = 6 → (s.bobbin b).q = it :: l → (s.bobbin b).popTick ≠ some s.tick →
      it.bytes.length = s.itemSize b → s.bobWr b + it.bytes.length < 2 ^ 64 → s.bobState b = 1 → s.identified b it ≠ 0 →
      it.bytes.length ≤ s.ringFree b → s.spills b = true ∨ 2 * it.bytes.length ≤ s.ringFree b → s.fld (Fld.BOB_POST_COUNT b) ≠ 1 →
      s.violates b 0 it = false → Completes (.bobItem b .queued) s fun t => (List.range it.bytes.length).map (fun i =>
      t.sramByte (bobRingBase b + (s.bobWr b + i) % bobRingSize)) = it.bytes ∧ t.bobWr b = s.bobWr b + it.bytes.length ∧
      t.bobState b = 2 ∧
      (t.bobbin b).cap = some ⟨s.bobHist b, (s.bobbin b).hist, 1, it.t, lowest (s.identified b it), s.identified b it, decide
      ((s.bobbin b).hist < s.fld (Fld.BOB_PRE_COUNT b)), false⟩) ∧
    (∀ (it : BobItem) (l : List BobItem) (c : BobCap), s.mode = 5 ∨ s.mode = 6 → (s.bobbin b).q = it :: l →
      (s.bobbin b).popTick ≠ some s.tick → it.bytes.length = s.itemSize b → s.bobWr b + it.bytes.length < 2 ^ 64 → s.bobState b = 2 →
      (s.bobbin b).cap = some c → s.fld (Fld.BOB_POST_COUNT b) = 0 ∨ c.n + 1 < s.fld (Fld.BOB_POST_COUNT b) → s.identified b it = 0 →
      it.bytes.length ≤ s.ringFree b → s.spills b = true ∨ 2 * it.bytes.length ≤ s.ringFree b → s.violates b c.n it = false →
      Completes (.bobItem b .queued) s fun t => (List.range it.bytes.length).map (fun i =>
      t.sramByte (bobRingBase b + (s.bobWr b + i) % bobRingSize)) = it.bytes ∧ t.bobWr b = s.bobWr b + it.bytes.length ∧
      t.bobState b = 2 ∧ (t.bobbin b).cap = some { c with n := c.n + 1 }) ∧
    (∀ (it : BobItem) (l : List BobItem) (c : BobCap), s.mode = 5 ∨ s.mode = 6 → (s.bobbin b).q = it :: l →
      (s.bobbin b).popTick ≠ some s.tick → it.bytes.length = s.itemSize b → s.bobWr b + it.bytes.length < 2 ^ 64 → s.bobState b = 2 →
      (s.bobbin b).cap = some c → (s.bobbin b).queued = none → s.fld (Fld.BOB_POST_COUNT b) = c.n + 1 →
      it.bytes.length ≤ s.ringFree b → Completes (.bobItem b .queued) s fun t => (List.range it.bytes.length).map (fun i =>
      t.sramByte (bobRingBase b + (s.bobWr b + i) % bobRingSize)) = it.bytes ∧ t.bobWr b = s.bobWr b + it.bytes.length ∧
      (t.bobbin b).cap = none ∧ (t.bobbin b).capEnd = s.bobWr b + it.bytes.length ∧
      (t.bobbin b).ended.map (·.stop) = (s.bobbin b).ended.map (·.stop) ++ [s.bobWr b + it.bytes.length] ∧
      (t.bobbin b).carry = (if s.identified b it = 0 then (s.bobbin b).carry else some (it.t, s.identified b it)) ∧
      (t.bobbin b).todo = (s.bobbin b).todo ++ (if s.spills b = true ∧
      max (s.bobbin b).issued (c.start) < s.bobWr b + it.bytes.length then [(max (s.bobbin b).issued (c.start), s.bobWr b +
      it.bytes.length)] else [])) ∧
    (∀ (it : BobItem) (l : List BobItem) (c : BobCap), s.mode = 5 ∨ s.mode = 6 → (s.bobbin b).q = it :: l →
      (s.bobbin b).popTick ≠ some s.tick → it.bytes.length = s.itemSize b → s.bobWr b + it.bytes.length < 2 ^ 64 → s.bobState b = 2 →
      (s.bobbin b).cap = some c → (s.bobbin b).queued = none → s.identified b it = 0 → s.ringFree b < it.bytes.length →
      Completes (.bobItem b .queued) s fun t => t.fld (Fld.BOB_EVENT_TRUNCATED b) = 1 ∧ t.bobWr b = s.bobWr b ∧ t.sram = s.sram ∧
      (t.bobbin b).cap = none ∧
      (t.bobbin b).ended = (s.bobbin b).ended ++ [⟨s.tick, s.bobWr b, c, c.pre, c.n, 2 + if s.spills b = true then 12 else 0, false,
      s.bit Fld.BOB_CTL_SINGLE || bitOf (2 + if s.spills b = true then 12 else 0) 10, if s.bobWr b ≤ s.bobSpilled b then some s.tick
      else none, (s.bobbin b).settles, (s.bobbin b).ovrs, (s.bobbin b).viols, (s.bobbin b).losts⟩]) ∧
    (∀ (it : BobItem) (l : List BobItem) (c : BobCap), s.mode = 5 ∨ s.mode = 6 → (s.bobbin b).q = it :: l →
      (s.bobbin b).popTick ≠ some s.tick → it.bytes.length = s.itemSize b → s.bobWr b + it.bytes.length < 2 ^ 64 → s.bobState b = 2 →
      (s.bobbin b).cap = some c → s.fld (Fld.BOB_POST_COUNT b) = 0 ∨ c.n + 1 < s.fld (Fld.BOB_POST_COUNT b) →
      s.fld (Fld.BOB_CFG_BUSY_POL b) = 0 ∨ s.fld (Fld.BOB_CFG_BUSY_POL b) = 1 → s.identified b it ≠ 0 →
      it.bytes.length ≤ s.ringFree b → s.spills b = true ∨ 2 * it.bytes.length ≤ s.ringFree b → s.violates b c.n it = false →
      Completes (.bobItem b .queued) s fun t => t.fld (Fld.BOB_EVENT_TRIG_OVERRUN b) = 1 ∧
      t.fld (Fld.BOB_COUNT2_OVERRUN b) = min 0xFFFF (s.fld (Fld.BOB_COUNT2_OVERRUN b) + 1) ∧ (if s.fld (Fld.BOB_CFG_BUSY_POL b) = 1 ∧
      (s.bobbin b).queued = none then (t.bobbin b).queued = some (it.t, lowest (s.identified b it), s.identified b it) ∧
      t.fld (Fld.BOB_STATUS_QUEUED b) = 1 else t.fld (Fld.BOB_COUNT2_IGNORED b) = min 0xFFFF (s.fld (Fld.BOB_COUNT2_IGNORED b) + 1) ∧
      (t.bobbin b).queued = (s.bobbin b).queued) ∧ (t.bobbin b).cap = some { c with n := c.n + 1 }) ∧
    (∀ (it : BobItem) (l : List BobItem) (c : BobCap), s.mode = 5 ∨ s.mode = 6 → (s.bobbin b).q = it :: l →
      (s.bobbin b).popTick ≠ some s.tick → it.bytes.length = s.itemSize b → s.bobWr b + it.bytes.length < 2 ^ 64 → s.bobState b = 2 →
      (s.bobbin b).cap = some c → s.fld (Fld.BOB_CFG_BUSY_POL b) = 2 → s.identified b it ≠ 0 → (s.bobbin b).queued = none →
      it.bytes.length ≤ s.ringFree b → s.spills b = true ∨ 2 * it.bytes.length ≤ s.ringFree b → s.fld (Fld.BOB_POST_COUNT b) = 0 →
      s.bit (Fld.BOB_MASK_CFG_EN b) = false → Completes (.bobItem b .queued) s fun t => t.fld (Fld.BOB_EVENT_TRIG_OVERRUN b) = 1 ∧
      t.fld (Fld.BOB_COUNT2_OVERRUN b) = min 0xFFFF (s.fld (Fld.BOB_COUNT2_OVERRUN b) + 1) ∧
      (t.bobbin b).cap.map (fun x => (x.pre, x.n, x.trigT, x.start)) = some (min (s.fld (Fld.BOB_PRE_COUNT b)) (c.n - 1), 1, it.t,
      s.bobWr b - min (s.fld (Fld.BOB_PRE_COUNT b)) (c.n - 1) * s.itemSize b) ∧
      (t.bobbin b).ended.map (·.stop) = (s.bobbin b).ended.map (·.stop) ++ [s.bobWr b - min (s.fld (Fld.BOB_PRE_COUNT b)) (c.n - 1) *
      s.itemSize b]) ∧
    (∀ (it : BobItem) (l : List BobItem) (c : BobCap), s.mode = 5 ∨ s.mode = 6 → (s.bobbin b).q = it :: l →
      (s.bobbin b).popTick ≠ some s.tick → it.bytes.length = s.itemSize b → s.bobWr b + it.bytes.length < 2 ^ 64 → s.bobState b = 2 →
      (s.bobbin b).cap = some c → s.fld (Fld.BOB_POST_COUNT b) = 0 ∨ c.n + 1 < s.fld (Fld.BOB_POST_COUNT b) → s.identified b it = 0 →
      (s.bobbin b).queued = none → it.bytes.length ≤ s.ringFree b → s.spills b = true ∨ 2 * it.bytes.length ≤ s.ringFree b →
      s.violates b c.n it = true → Completes (.bobItem b .queued) s fun t => t.fld (Fld.BOB_EVENT_MASK_VIOL b) = 1 ∧
      t.bobWr b = s.bobWr b + it.bytes.length ∧ (if s.bit (Fld.BOB_MASK_CFG_STOP b) = true then (t.bobbin b).cap = none ∧
      (t.bobbin b).ended.map (·.done) = (s.bobbin b).ended.map (·.done) ++ [true] else (t.bobbin b).cap = some { c with n := c.n + 1 }
      ∧ (t.bobbin b).viols = s.bobWr b :: (s.bobbin b).viols)) ∧
    (∀ (g : Nat) (h : Fin 2) (grp : List Nat), s.mode = 5 ∨ s.mode = 6 → s.bobState b = 1 → s.fld (Fld.BOB_SRC_KIND b) = 1 →
      (s.bobbin b).marks = [] → (∀ c : Fin 4, s.fld (Fld.BOB_TC_CFG_TYPE b c) = 0) → (s.bobbin b).capEnd = 0 →
      s.bobWr b + 64 < 2 ^ 64 → s.sinceSync = 2 * g + h.val + 5 → (s.acq (s.fld (Fld.BOB_SRC_BASE b))).lastGroup = some g →
      (s.acq (s.fld (Fld.BOB_SRC_BASE b))).raw.head? = some grp → grp.length = 64 →
      (sget (fun _ => none) (s.bobbin b).fed 0 ≠ some s.tick) → Completes (.bobItem b .raw) s fun t => t.bobWr b = s.bobWr b + 64 ∧
      (List.range 64).map (fun i =>
      t.sramByte (bobRingBase b + (s.bobWr b + i) % bobRingSize)) = ((grp.drop (32 * h.val)).take 32).flatMap (leBytes 2) ∧
      (t.bobbin b).hist = min ((s.bobbin b).hist + 32) (s.fld (Fld.BOB_PRE_COUNT b))) ∧
    (∀ (ws : List Word), s.mode = 5 ∨ s.mode = 6 → s.bobState b = 1 →
      s.fld (Fld.BOB_SRC_KIND b) = 2 ∨ s.fld (Fld.BOB_SRC_KIND b) = 3 → (s.bobbin b).marks = [] →
      (∀ c : Fin 4, s.fld (Fld.BOB_TC_CFG_TYPE b c) = 0) → (s.bobbin b).capEnd = 0 → s.bobWr b + 4 * ws.length < 2 ^ 64 →
      ws.length = s.fld (Fld.BOB_SRC_NM1 b) + 1 →
      (∀ i ∈ List.range ws.length, (if s.fld (Fld.BOB_SRC_KIND b) = 2 then s.channelArrival (s.fld (Fld.BOB_SRC_BASE b) + i) else
      s.toneArrival (s.fld (Fld.BOB_SRC_BASE b) + i)) = some (ws.getD i 0)) →
      (sget (fun _ => none) (s.bobbin b).fed 0 ≠ some s.tick) → Completes (.bobItem b .frame) s fun t =>
      t.bobWr b = s.bobWr b + 4 * ws.length ∧ (List.range (4 * ws.length)).map (fun i =>
      t.sramByte (bobRingBase b + (s.bobWr b + i) % bobRingSize)) = ws.flatMap (fun w => leBytes 4 w.toNat)) ∧
    (∀ (r : Fin 256), (s.dscCh r).loaded = some s.tick → (∀ q : Fin 256, r ≤ q →
      sget (fun _ => none) (s.bobbin b).fed (1 + q.val) ≠ some s.tick) → s.mode = 5 ∨ s.mode = 6 →
      s.bobState b = 1 ∨ s.bobState b = 2 → (s.fld (Fld.BOB_SRC_BASE b) ≤ r.val ∧
      r.val ≤ s.fld (Fld.BOB_SRC_BASE b) + s.fld (Fld.BOB_SRC_NM1 b)) → s.fld (Fld.BOB_SRC_KIND b) = 4 → s.bobState b = 1 →
      (s.bobbin b).q = [] → (s.bobbin b).popTick ≠ some s.tick → (s.bobbin b).marks = [] →
      (∀ c : Fin 4, s.fld (Fld.BOB_TC_CFG_TYPE b c) = 0) → s.bobWr b + 16 < 2 ^ 64 → (s.bobbin b).capEnd ≤ s.bobRd b →
      Completes (.bobItem b (.decision r)) s fun t => t.bobWr b = s.bobWr b + 16 ∧ (List.range 16).map (fun i =>
      t.sramByte (bobRingBase b + (s.bobWr b + i) % bobRingSize)) = leBytes 8 (s.rd64 (Reg.DSC_CH_LAST_T_LO r)) ++ leBytes 4
      (s.rd (Reg.DSC_CH_LAST_DEC r)).toNat ++ leBytes 2 r.val ++ leBytes 2 0) ∧
    (∀ (r : Fin 256) (p : Word), (s.dscCh r).loaded = some s.tick → (∀ q : Fin 256, r ≤ q →
      sget (fun _ => none) (s.bobbin b).fed (1 + q.val) ≠ some s.tick) → s.mode = 5 ∨ s.mode = 6 →
      s.bobState b = 1 ∨ s.bobState b = 2 → (s.fld (Fld.BOB_SRC_BASE b) ≤ r.val ∧
      r.val ≤ s.fld (Fld.BOB_SRC_BASE b) + s.fld (Fld.BOB_SRC_NM1 b)) → s.fld (Fld.BOB_SRC_KIND b) = 7 → (s.bobbin b).q = [] →
      (sget (fun _ => none) (s.bobbin b).prev r = some p) → p.toNat % 4 = (s.rd (Reg.DSC_CH_LAST_DEC r)).toNat % 4 →
      p.getLsbD 3 = (s.rd (Reg.DSC_CH_LAST_DEC r)).getLsbD 3 → Completes (.bobItem b (.decision r)) s fun t => t.bobWr b = s.bobWr b ∧
      t.sram = s.sram ∧ (t.bobbin b).q = [] ∧ sget (fun _ => none) (t.bobbin b).prev r = some (s.rd (Reg.DSC_CH_LAST_DEC r))) ∧
    (∀ (r : Fin 256) (p : Word), (s.dscCh r).loaded = some s.tick → (∀ q : Fin 256, r ≤ q →
      sget (fun _ => none) (s.bobbin b).fed (1 + q.val) ≠ some s.tick) → s.mode = 5 ∨ s.mode = 6 →
      s.bobState b = 1 ∨ s.bobState b = 2 → (s.fld (Fld.BOB_SRC_BASE b) ≤ r.val ∧
      r.val ≤ s.fld (Fld.BOB_SRC_BASE b) + s.fld (Fld.BOB_SRC_NM1 b)) → s.fld (Fld.BOB_SRC_KIND b) = 7 → s.bobState b = 1 →
      (s.bobbin b).q = [] → (s.bobbin b).lostBefore = false → (s.bobbin b).popTick ≠ some s.tick → (s.bobbin b).marks = [] →
      (∀ c : Fin 4, s.fld (Fld.BOB_TC_CFG_TYPE b c) = 0) → s.bobWr b + 16 < 2 ^ 64 → (s.bobbin b).capEnd ≤ s.bobRd b →
      (sget (fun _ => none) (s.bobbin b).prev r = some p) → p.toNat % 4 ≠ (s.rd (Reg.DSC_CH_LAST_DEC r)).toNat % 4 →
      Completes (.bobItem b (.decision r)) s fun t => t.bobWr b = s.bobWr b + 16 ∧ (List.range 16).map (fun i =>
      t.sramByte (bobRingBase b + (s.bobWr b + i) % bobRingSize)) = (changeRecord (s.reelAgo 1) 1 r false
      ((s.rd (Reg.DSC_CH_LAST_DEC r)).getLsbD 4) ((s.rd (Reg.DSC_CH_LAST_DEC r)).getLsbD 5) (s.rd (Reg.DSC_CH_LAST_DEC r))).bytes) ∧
    (∀ (r : Fin 256), (s.dscCh r).loaded = some s.tick → (∀ q : Fin 256, r ≤ q →
      sget (fun _ => none) (s.bobbin b).fed (1 + q.val) ≠ some s.tick) → s.mode = 5 ∨ s.mode = 6 →
      s.bobState b = 1 ∨ s.bobState b = 2 → (s.fld (Fld.BOB_SRC_BASE b) ≤ r.val ∧
      r.val ≤ s.fld (Fld.BOB_SRC_BASE b) + s.fld (Fld.BOB_SRC_NM1 b)) →
      s.fld (Fld.BOB_SRC_KIND b) = 4 ∨ s.fld (Fld.BOB_SRC_KIND b) = 5 → (s.bobbin b).q.length = 64 →
      (s.bobbin b).popTick = some s.tick → Completes (.bobItem b (.decision r)) s fun t => t.fld (Fld.BOB_EVENT_REC_LOST b) = 1 ∧
      t.fld (Fld.BOB_COUNT_REC_LOST b) = min 0xFFFF (s.fld (Fld.BOB_COUNT_REC_LOST b) + 1) ∧ (t.bobbin b).lostBefore = true ∧
      (t.bobbin b).q = (s.bobbin b).q ∧ (t.bobbin b).losts = (s.bobWr b + 1024) :: (s.bobbin b).losts) ∧
    (∀ (inp : BobInput), ((s.mode ≠ 5 ∧ s.mode ≠ 6) ∨ (s.bobState b ≠ 1 ∧ s.bobState b ≠ 2)) → Completes (.bobItem b inp) s fun t =>
      t.regs = s.regs ∧ t.sram = s.sram ∧ (t.bobbin b).q = (s.bobbin b).q ∧ (t.bobbin b).cap = (s.bobbin b).cap ∧
      (t.bobbin b).marks = (s.passTime b inp).elim (s.bobbin b).marks (fun x => (s.bobbin b).marks.filter fun m =>
      decide (x < m.2))) ∧
    (∀ (it : BobItem) (l : List BobItem), s.mode = 5 ∨ s.mode = 6 → (s.bobbin b).q = it :: l → (s.bobbin b).popTick ≠ some s.tick →
      it.bytes.length = s.itemSize b → s.bobWr b + it.bytes.length < 2 ^ 64 → s.bobState b = 2 → (s.bobbin b).cap = none →
      s.identified b it ≠ 0 → Completes (.bobItem b .queued) s fun t => t.fld (Fld.BOB_EVENT_TRIG_OVERRUN b) = 1 ∧
      t.fld (Fld.BOB_COUNT2_OVERRUN b) = min 0xFFFF (s.fld (Fld.BOB_COUNT2_OVERRUN b) + 1) ∧ (s.fld (Fld.BOB_CFG_BUSY_POL b) = 0 →
      t.fld (Fld.BOB_COUNT2_IGNORED b) = min 0xFFFF (s.fld (Fld.BOB_COUNT2_IGNORED b) + 1) ∧ (t.bobbin b).cap = none))

/-- The memories (R38, R351, R352, R354, R355, R357, R359, R360, R363 to R365): an error is counted and recorded, drops CFG_VALID
where configuration is lost, and acts on its reader, in M3 to M6 as DF8 for a reader of the first four rows of R352; an access
of DRAM acts once its granules have been granted (log entry 94), and an uncorrectable read is answered poisoned; a scrub pass,
the end of the zeroing, refresh, delays and refused spills set their flags and counts; a stack grants C0, then the urgent
request of the earliest deadline, then by the turn of the round-robin. -/
def Obligations.MemoryErrors : Prop :=
  ∀ (s : State), s.Wf →
    (∀ (off : Fin 0x4000000), Completes (.sramCe off) s fun t =>
      t.fld (Fld.MEM_SRAM_ERR_CE (sramRegion off)) = satAdd (Fld.MEM_SRAM_ERR_CE (sramRegion off)).w
      (s.fld (Fld.MEM_SRAM_ERR_CE (sramRegion off))) 1 ∧ t.fld Fld.MEM_EVENT_SRAM_CE = 1 ∧ t.sram = s.sram ∧
      (t.fld Fld.MEM_EVENT_CE_STORM = 1 ∨ t.fld Fld.MEM_EVENT_CE_STORM = s.fld Fld.MEM_EVENT_CE_STORM ∧
      ((sget (fun _ => []) s.mem.ces (sramRegion off)).filter fun x =>
      decide (s.tln.reel < x + 1000000000 * 2 ^ 32)).length + 1 ≤ s.fld Fld.MEM_CE_THRESH_THRESH)) ∧
    (∀ (off : Fin 0x4000000), Completes (.sramUe off .scrub) s fun t => t.fld Fld.MEM_SRAM_UE_ADDR_ADDR = off.val / 16 * 16 ∧
      t.fld Fld.MEM_EVENT_SRAM_UE = 1 ∧ (s.configByte off = true → t.fld Fld.GLB_MODE_STATUS_CFG_VALID = 0) ∧
      t.fld (Fld.MEM_SRAM_ERR_UE (sramRegion off)) = satAdd (Fld.MEM_SRAM_ERR_UE (sramRegion off)).w
      (s.fld (Fld.MEM_SRAM_ERR_UE (sramRegion off))) 1 ∧ t.sram = s.sram) ∧
    (∀ (off : Fin 0x4000000), Completes (.sramUe off .host) s fun t => t.fld Fld.MEM_SRAM_UE_ADDR_ADDR = off.val / 16 * 16 ∧
      t.fld Fld.MEM_EVENT_SRAM_UE = 1 ∧ (s.configByte off = true → t.fld Fld.GLB_MODE_STATUS_CFG_VALID = 0) ∧
      t.fld (Fld.MEM_SRAM_ERR_UE (sramRegion off)) = satAdd (Fld.MEM_SRAM_ERR_UE (sramRegion off)).w
      (s.fld (Fld.MEM_SRAM_ERR_UE (sramRegion off))) 1 ∧ t.fld Fld.MEM_EVENT_POISON = 1) ∧
    (∀ (off : Fin 0x4000000) (x : Fin 640), sramRegion off = 1 → Completes (.sramUe off (.stream x)) s fun t =>
      t.fld Fld.MEM_SRAM_UE_ADDR_ADDR = off.val / 16 * 16 ∧ t.fld Fld.MEM_EVENT_SRAM_UE = 1 ∧ (s.configByte off = true →
      t.fld Fld.GLB_MODE_STATUS_CFG_VALID = 0) ∧
      t.fld (Fld.MEM_SRAM_ERR_UE (sramRegion off)) = satAdd (Fld.MEM_SRAM_ERR_UE (sramRegion off)).w
      (s.fld (Fld.MEM_SRAM_ERR_UE (sramRegion off))) 1 ∧ (t.tgt x).zeroTick = some s.tick ∧ (3 ≤ s.mode → s.mode ≤ 6 →
      t.sup.detect.map (fun d => (d.cause, d.object)) = s.sup.detect.map (fun d => (d.cause, d.object)) ++ [(8, 1)])) ∧
    (∀ (off : Fin 0x4000000) (r : Fin 256), sramRegion off = 3 → Completes (.sramUe off (.window r)) s fun t =>
      t.fld Fld.MEM_SRAM_UE_ADDR_ADDR = off.val / 16 * 16 ∧ t.fld Fld.MEM_EVENT_SRAM_UE = 1 ∧ (s.configByte off = true →
      t.fld Fld.GLB_MODE_STATUS_CFG_VALID = 0) ∧
      t.fld (Fld.MEM_SRAM_ERR_UE (sramRegion off)) = satAdd (Fld.MEM_SRAM_ERR_UE (sramRegion off)).w
      (s.fld (Fld.MEM_SRAM_ERR_UE (sramRegion off))) 1 ∧ (t.dscCh r).win = none) ∧
    (∀ (off : Fin 0x4000000) (b : Fin 32), sramRegion off = 2 → (s.bobbin b).spill ≠ [] →
      Completes (.sramUe off (.spill b)) s fun t => t.fld Fld.MEM_SRAM_UE_ADDR_ADDR = off.val / 16 * 16 ∧
      t.fld Fld.MEM_EVENT_SRAM_UE = 1 ∧ (s.configByte off = true → t.fld Fld.GLB_MODE_STATUS_CFG_VALID = 0) ∧
      t.fld (Fld.MEM_SRAM_ERR_UE (sramRegion off)) = satAdd (Fld.MEM_SRAM_ERR_UE (sramRegion off)).w
      (s.fld (Fld.MEM_SRAM_ERR_UE (sramRegion off))) 1 ∧ off.val / 16 ∈ t.mem.badSram) ∧
    (∀ (off : Fin 0x4000000) (k : Fin 16), sramRegion off = 5 → s.bit (Fld.TLN_LAUNCH_CFG_ARM k) = true →
      Completes (.sramUe off (.launch k)) s fun t => t.fld Fld.MEM_SRAM_UE_ADDR_ADDR = off.val / 16 * 16 ∧
      t.fld Fld.MEM_EVENT_SRAM_UE = 1 ∧ (s.configByte off = true → t.fld Fld.GLB_MODE_STATUS_CFG_VALID = 0) ∧
      t.fld (Fld.MEM_SRAM_ERR_UE (sramRegion off)) = satAdd (Fld.MEM_SRAM_ERR_UE (sramRegion off)).w
      (s.fld (Fld.MEM_SRAM_ERR_UE (sramRegion off))) 1 ∧ t.fld (Fld.TLN_LAUNCH_CFG_MISSED k) = 1) ∧
    (∀ (off : Fin 0x4000000) (l : Fin 8), sramRegion off = 5 → s.mayRunJob l = true → Completes (.sramUe off (.job l)) s fun t =>
      t.fld Fld.MEM_SRAM_UE_ADDR_ADDR = off.val / 16 * 16 ∧ t.fld Fld.MEM_EVENT_SRAM_UE = 1 ∧ (s.configByte off = true →
      t.fld Fld.GLB_MODE_STATUS_CFG_VALID = 0) ∧
      t.fld (Fld.MEM_SRAM_ERR_UE (sramRegion off)) = satAdd (Fld.MEM_SRAM_ERR_UE (sramRegion off)).w
      (s.fld (Fld.MEM_SRAM_ERR_UE (sramRegion off))) 1 ∧ t.job l = some { desc := ⟨0, 0, 0, 0, 0, 0, 0, 0, 0⟩, err := 18 } ∧
      t.fld (Fld.DRF_LANE_STATUS_STATE l) = 1) ∧
    (∀ (off : Fin 0x4000000) (n : Fin 64), sramRegion off = 0 → s.mayIssue n = true → Completes (.sramUe off (.fetch n)) s fun t =>
      t.fld Fld.MEM_SRAM_UE_ADDR_ADDR = off.val / 16 * 16 ∧ t.fld Fld.MEM_EVENT_SRAM_UE = 1 ∧ (s.configByte off = true →
      t.fld Fld.GLB_MODE_STATUS_CFG_VALID = 0) ∧
      t.fld (Fld.MEM_SRAM_ERR_UE (sramRegion off)) = satAdd (Fld.MEM_SRAM_ERR_UE (sramRegion off)).w
      (s.fld (Fld.MEM_SRAM_ERR_UE (sramRegion off))) 1 ∧ t.fld (Fld.SPN_STATUS_STATE n) = 4 ∧
      t.fld (Fld.SPN_EVENT_ECC_UNCORR n) = 1) ∧
    (∀ (off : Fin 0x4000000) (x : Fin 16) (a y : Nat) (l : List (Nat × Nat)), sramRegion off = 4 → s.lookups x = (y, a) :: l →
      y + 6 ≤ s.tick → a < 65536 → Completes (.sramUe off (.table x)) s fun t => t.fld Fld.MEM_SRAM_UE_ADDR_ADDR = off.val / 16 * 16 ∧
      t.fld Fld.MEM_EVENT_SRAM_UE = 1 ∧ (s.configByte off = true → t.fld Fld.GLB_MODE_STATUS_CFG_VALID = 0) ∧
      t.fld (Fld.MEM_SRAM_ERR_UE (sramRegion off)) = satAdd (Fld.MEM_SRAM_ERR_UE (sramRegion off)).w
      (s.fld (Fld.MEM_SRAM_ERR_UE (sramRegion off))) 1 ∧ t.fld (Fld.FAB_CT_LAST_ADDR x) = a ∧
      t.fld (Fld.FAB_CT_EVENT_ECC_UNCORR x) = 1 ∧ t.fld Fld.FAB_EVENT_CT_ECC = 1 ∧ t.fab.flight = s.fab.flight) ∧
    (∀ (off : Fin 0x4000000) (rd : SramReader), readerRegion off rd = false → Completes (.sramUe off rd) s fun t => t = s) ∧
    (∀ (dram : Bool), Completes (.scrubPassDone dram) s fun t => (if dram = true then (s.fld Fld.MEM_SCRUB_CFG_DRAM_H ≠ 0 →
      t.fld Fld.MEM_EVENT_SCRUB_DRAM = 1) else (s.fld Fld.MEM_SCRUB_CFG_SRAM_S ≠ 0 → t.fld Fld.MEM_EVENT_SCRUB_SRAM = 1)) ∧
      OnlyRegs [Reg.MEM_EVENT] s t) ∧
    (s.bit Fld.MEM_STATUS_SRAM_READY = true → s.bit Fld.MEM_STATUS_DRAM_READY = false → Completes .dramInit s fun t =>
      t.fld Fld.MEM_STATUS_DRAM_READY = 1 ∧ t.fld Fld.MEM_EVENT_DRAM_INIT = 1 ∧
      ((∀ x ∈ s.mem.held.head?, s.dramWaits (.host x.1) = true) → t.mem.held = s.mem.held ∧ t.dram = s.dram)) ∧
    (∀ (id a : Nat) (bs : List Byte), s.mem.held = [(id, .write a (bs.map some))] → s.dramWaits (.host id) = false →
      s.bit Fld.MEM_STATUS_DRAM_READY = true → s.bit Fld.MEM_STATUS_SELF_REFRESH = false → a + bs.length ≤ dramSize →
      s.sec.image = none → Completes (.dramRequestDone []) s fun t => t.mem.held = [] ∧
      (∀ i, i < bs.length → t.dramByte (a + i) = bs.getD i 0) ∧ (∀ x, x < a ∨ a + bs.length ≤ x → t.dramByte x = s.dramByte x)) ∧
    (∀ (id a n : Nat), s.mem.held = [(id, .read a n false)] → s.dramWaits (.host id) = false →
      s.bit Fld.MEM_STATUS_DRAM_READY = true → s.bit Fld.MEM_STATUS_SELF_REFRESH = false → s.dramMarked a n = false →
      s.masks = false → Completes (.dramRequestDone []) s fun t => t.mem.held = [] ∧ t.dram = s.dram ∧ t.resp.status = .ok ∧
      t.resp.bytes = (List.range n).map (fun i => s.dramByte (a + i))) ∧
    (∀ (id a n w : Nat), s.mem.held = [(id, .read a n false)] → s.dramWaits (.host id) = false →
      s.bit Fld.MEM_STATUS_DRAM_READY = true → s.bit Fld.MEM_STATUS_SELF_REFRESH = false → s.mem.badDram = [w] →
      (a < 8 * w + 8 ∧ 8 * w < a + n) → a + n ≤ dramSize → Completes (.dramRequestDone []) s fun t => t.mem.held = [] ∧
      t.resp.status = .poisoned ∧ t.fld Fld.MEM_EVENT_POISON = 1 ∧ t.rd64 (Reg.MEM_DRAM_UE_ADDR_LO (w / 32 % 4)) = 8 * w) ∧
    (s.bit Fld.MEM_STATUS_SRAM_READY = false ∨ s.bit Fld.MEM_STATUS_DRAM_READY = true → Completes .dramInit s fun t => t = s) ∧
    (∀ (off : Fin 0x2000000000), Completes (.dramCe off) s fun t =>
      t.fld (Fld.MEM_DRAM_ERR_CE (off.val / 256 % 4)) = satAdd (Fld.MEM_DRAM_ERR_CE (off.val / 256 % 4)).w
      (s.fld (Fld.MEM_DRAM_ERR_CE (off.val / 256 % 4))) 1 ∧ t.fld Fld.MEM_EVENT_DRAM_CE = 1 ∧ t.dram = s.dram) ∧
    (∀ (off : Fin 0x2000000000), Completes (.dramUe off .scrub) s fun t =>
      t.rd64 (Reg.MEM_DRAM_UE_ADDR_LO (off.val / 256 % 4)) = off.val / 8 * 8 ∧
      t.fld (Fld.MEM_DRAM_ERR_UE (off.val / 256 % 4)) = satAdd (Fld.MEM_DRAM_ERR_UE (off.val / 256 % 4)).w
      (s.fld (Fld.MEM_DRAM_ERR_UE (off.val / 256 % 4))) 1 ∧ t.fld Fld.MEM_EVENT_DRAM_UE = 1) ∧
    (∀ (off : Fin 0x2000000000), Completes (.dramUe off .host) s fun t =>
      t.rd64 (Reg.MEM_DRAM_UE_ADDR_LO (off.val / 256 % 4)) = off.val / 8 * 8 ∧
      t.fld (Fld.MEM_DRAM_ERR_UE (off.val / 256 % 4)) = satAdd (Fld.MEM_DRAM_ERR_UE (off.val / 256 % 4)).w
      (s.fld (Fld.MEM_DRAM_ERR_UE (off.val / 256 % 4))) 1 ∧ t.fld Fld.MEM_EVENT_DRAM_UE = 1 ∧ t.fld Fld.MEM_EVENT_POISON = 1) ∧
    (∀ (off : Fin 0x2000000000) (r : Fin 64), (s.stream r).reqs ≠ [] → Completes (.dramUe off (.refill r)) s fun t =>
      t.rd64 (Reg.MEM_DRAM_UE_ADDR_LO (off.val / 256 % 4)) = off.val / 8 * 8 ∧
      t.fld (Fld.MEM_DRAM_ERR_UE (off.val / 256 % 4)) = satAdd (Fld.MEM_DRAM_ERR_UE (off.val / 256 % 4)).w
      (s.fld (Fld.MEM_DRAM_ERR_UE (off.val / 256 % 4))) 1 ∧ t.fld Fld.MEM_EVENT_DRAM_UE = 1 ∧ t.fld (Fld.STM_RV_EVENT_SRC_ERR r) = 1 ∧
      (t.stream r).failed = true ∧ (t.stream r).reqs = []) ∧
    (∀ (off : Fin 0x2000000000) (l : Fin 8) (j : Job), s.job l = some j → Completes (.dramUe off (.job l)) s fun t =>
      t.rd64 (Reg.MEM_DRAM_UE_ADDR_LO (off.val / 256 % 4)) = off.val / 8 * 8 ∧
      t.fld (Fld.MEM_DRAM_ERR_UE (off.val / 256 % 4)) = satAdd (Fld.MEM_DRAM_ERR_UE (off.val / 256 % 4)).w
      (s.fld (Fld.MEM_DRAM_ERR_UE (off.val / 256 % 4))) 1 ∧ t.fld Fld.MEM_EVENT_DRAM_UE = 1 ∧
      t.job l = some { j with bad := j.bad ++ [off.val / 8] }) ∧
    (∀ (off : Fin 0x2000000000), s.bit Fld.CSC_RDMA_STATUS_BUSY = true → Completes (.dramUe off .rdma) s fun t =>
      t.rd64 (Reg.MEM_DRAM_UE_ADDR_LO (off.val / 256 % 4)) = off.val / 8 * 8 ∧
      t.fld (Fld.MEM_DRAM_ERR_UE (off.val / 256 % 4)) = satAdd (Fld.MEM_DRAM_ERR_UE (off.val / 256 % 4)).w
      (s.fld (Fld.MEM_DRAM_ERR_UE (off.val / 256 % 4))) 1 ∧ t.fld Fld.MEM_EVENT_DRAM_UE = 1 ∧ t.fld Fld.CSC_RDMA_STATUS_BUSY = 0 ∧
      t.fld Fld.CSC_RDMA_STATUS_RESULT ∈ [3, 4, 5] ∧ t.csc.rdmaTags = []) ∧
    (∀ (off : Fin 0x2000000000) (r : Fin 64), (s.stream r).reqs = [] → Completes (.dramUe off (.refill r)) s fun t =>
      t.rd64 (Reg.MEM_DRAM_UE_ADDR_LO (off.val / 256 % 4)) = off.val / 8 * 8 ∧
      t.fld (Fld.MEM_DRAM_ERR_UE (off.val / 256 % 4)) = satAdd (Fld.MEM_DRAM_ERR_UE (off.val / 256 % 4)).w
      (s.fld (Fld.MEM_DRAM_ERR_UE (off.val / 256 % 4))) 1 ∧ t.fld Fld.MEM_EVENT_DRAM_UE = 1 ∧ t.rv = s.rv) ∧
    (∀ (off : Fin 0x2000000000) (l : Fin 8), s.job l = none → Completes (.dramUe off (.job l)) s fun t =>
      t.rd64 (Reg.MEM_DRAM_UE_ADDR_LO (off.val / 256 % 4)) = off.val / 8 * 8 ∧
      t.fld (Fld.MEM_DRAM_ERR_UE (off.val / 256 % 4)) = satAdd (Fld.MEM_DRAM_ERR_UE (off.val / 256 % 4)).w
      (s.fld (Fld.MEM_DRAM_ERR_UE (off.val / 256 % 4))) 1 ∧ t.fld Fld.MEM_EVENT_DRAM_UE = 1 ∧ t.jobs = s.jobs) ∧
    (∀ (off : Fin 0x2000000000), s.bit Fld.CSC_RDMA_STATUS_BUSY = false → Completes (.dramUe off .rdma) s fun t =>
      t.rd64 (Reg.MEM_DRAM_UE_ADDR_LO (off.val / 256 % 4)) = off.val / 8 * 8 ∧
      t.fld (Fld.MEM_DRAM_ERR_UE (off.val / 256 % 4)) = satAdd (Fld.MEM_DRAM_ERR_UE (off.val / 256 % 4)).w
      (s.fld (Fld.MEM_DRAM_ERR_UE (off.val / 256 % 4))) 1 ∧ t.fld Fld.MEM_EVENT_DRAM_UE = 1 ∧ t.csc = s.csc) ∧
    (∀ (k : Fin 4), (∀ x ∈ sget (fun _ => none) s.mem.lowSince k, s.tick < x + 500000000) → Completes (.refreshDown k) s fun t =>
      t = s) ∧
    (∀ (k : Fin 4) (x : Nat), (sget (fun _ => none) s.mem.lowSince k = some x) → x + 500000000 ≤ s.tick →
      Completes (.refreshDown k) s fun t => t.fld (refreshField k) = refreshOf (s.fld (Fld.SUP_TS_STATUS_BAND (12 + k))) ∧
      t.fld Fld.MEM_EVENT_REFRESH_CHG = 1 ∧ sget (fun _ => none) t.mem.lowSince k = none ∧
      OnlyRegs [Reg.MEM_STATUS, Reg.MEM_EVENT] s t) ∧
    (∀ (k : Fin 4) (q : DramReq), (s.mem.reqs.find? (fun r => r.waitsAt k && r.cls == 0) = some q ∨
      (s.mem.reqs = [q] ∧ s.lapsed q = false)) → q.cls < 4 → q.left = (List.replicate 4 0).set k 1 →
      s.bit Fld.MEM_STATUS_DRAM_READY = true → s.bit Fld.MEM_STATUS_SELF_REFRESH = false → 0 < s.grantRoom k →
      Completes (.dramRequestDone [k]) s fun t => t.mem.reqs = s.mem.reqs.erase q ∧
      t.fld (Fld.MEM_CLS_MAXLAT_NS q.cls) = max (s.fld (Fld.MEM_CLS_MAXLAT_NS q.cls)) (min (2 * (s.tick - q.tick)) 0xFFFFFFFF) ∧
      (q.cls = 0 → 1000 < 2 * (s.tick - q.tick) → t.fld Fld.MEM_EVENT_C0_LATE = 1) ∧
      (s.fld Fld.MEM_ARB2_DELAY_NS < 2 * (s.tick - q.tick) ∨ s.urgent q = true →
      t.fld (Fld.MEM_CLS_COUNT_DELAYED q.cls) = satAdd (Fld.MEM_CLS_COUNT_DELAYED q.cls).w (s.fld (Fld.MEM_CLS_COUNT_DELAYED q.cls)) 1
      ∧ (q.cls = 1 → t.fld Fld.MEM_EVENT_C1_DELAYED = 1) ∧ (q.cls = 2 → t.fld Fld.MEM_EVENT_C2_DELAYED = 1) ∧
      (q.cls = 3 → t.fld Fld.MEM_EVENT_C3_DELAYED = 1)) ∧ (2 * (s.tick - q.tick) ≤ s.fld Fld.MEM_ARB2_DELAY_NS → s.urgent q = false →
      t.fld (Fld.MEM_CLS_COUNT_DELAYED q.cls) = s.fld (Fld.MEM_CLS_COUNT_DELAYED q.cls))) ∧
    (∀ (k : Fin 4) (q : DramReq) (n : Nat), s.mem.held = [] → q.cls = 0 → (∀ r ∈ s.mem.reqs, r.cls = 0 → r.waitsAt k = true → r = q) →
      q ∈ s.mem.reqs → q.waitsAt k = true → q.left.getD k.val 0 = n + 2 → s.bit Fld.MEM_STATUS_DRAM_READY = true →
      s.bit Fld.MEM_STATUS_SELF_REFRESH = false → 0 < s.grantRoom k → Completes (.dramRequestDone [k]) s fun t =>
      t.mem.reqs = s.mem.reqs.replace q { q with left := q.left.set k.val (n + 1), begun := true } ∧ t.regs = s.regs) ∧
    (∀ (k : Fin 4) (q : DramReq) (n : Nat), s.mem.held = [] → (∀ r ∈ s.mem.reqs, r.cls = 0 → r.waitsAt k = false) →
      s.urgent q = true → s.lapsed q = false → (∀ r ∈ s.mem.reqs, s.urgent r = true → r.waitsAt k = true →
      s.lapsed r = true ∨ q.deadline < r.deadline ∨ r = q) → q ∈ s.mem.reqs → q.waitsAt k = true → q.left.getD k.val 0 = n + 2 →
      s.bit Fld.MEM_STATUS_DRAM_READY = true → s.bit Fld.MEM_STATUS_SELF_REFRESH = false → 0 < s.grantRoom k →
      Completes (.dramRequestDone [k]) s fun t =>
      t.mem.reqs = s.mem.reqs.replace q { q with left := q.left.set k.val (n + 1), begun := true } ∧ t.regs = s.regs) ∧
    (∀ (k : Fin 4) (q : DramReq) (n : Nat) (left : Nat), s.mem.held = [] → (∀ r ∈ s.mem.reqs, r.cls = 0 → r.waitsAt k = false) →
      (∀ r ∈ s.mem.reqs, s.urgent r = true → r.waitsAt k = false ∨ s.lapsed r = true) → s.urgent q = false →
      (∀ r ∈ s.mem.reqs, r.cls = q.cls → r.waitsAt k = true → r = q) → (sget (fun _ => (3, 0)) s.mem.turn k = (q.cls, left + 1)) →
      q ∈ s.mem.reqs → q.waitsAt k = true → q.left.getD k.val 0 = n + 2 → s.bit Fld.MEM_STATUS_DRAM_READY = true →
      s.bit Fld.MEM_STATUS_SELF_REFRESH = false → 0 < s.grantRoom k → Completes (.dramRequestDone [k]) s fun t =>
      t.mem.reqs = s.mem.reqs.replace q { q with left := q.left.set k.val (n + 1), begun := true } ∧ t.regs = s.regs ∧
      sget (fun _ => (3, 0)) t.mem.turn k = (q.cls, left)) ∧
    (∀ (k : Fin 4), s.mem.held = [] →
      ((∀ r ∈ s.mem.reqs, r.waitsAt k = false ∨ s.lapsed r = true) ∨ s.bit Fld.MEM_STATUS_DRAM_READY = false ∨ s.bit
      Fld.MEM_STATUS_SELF_REFRESH = true ∨ s.grantRoom k = 0) → Completes (.dramRequestDone [k]) s fun t => t.mem = s.mem ∧
      t.dram = s.dram ∧ OnlyRegs [] s t) ∧
    (s.bit Fld.MEM_STATUS_DRAM_READY = false ∨ s.bit Fld.MEM_STATUS_SELF_REFRESH = true → Completes (.dramRequestDone []) s fun t =>
      t = s) ∧
    (∀ (b : Fin 32) (pos len : Nat) (q : DramReq) (c : BobCap), (s.bobbin b).spill = [(pos, len)] →
      (s.mem.reqs.filter (fun r => r.owner == .spill b pos) = [q]) → s.lapsed q = true → pos ≤ s.bobWr b → (s.bobbin b).cap = some c →
      c.start ≤ pos → Completes (.c1Refused b) s fun t =>
      t.fld (Fld.MEM_CLS_COUNT_REFUSED 1) = satAdd (Fld.MEM_CLS_COUNT_REFUSED 1).w (s.fld (Fld.MEM_CLS_COUNT_REFUSED 1)) 1 ∧
      t.fld Fld.MEM_EVENT_C1_REFUSED = 1 ∧
      t.fld (Fld.MEM_CLS_COUNT_DELAYED 1) = satAdd (Fld.MEM_CLS_COUNT_DELAYED 1).w (s.fld (Fld.MEM_CLS_COUNT_DELAYED 1)) 1 ∧
      t.fld Fld.MEM_EVENT_C1_DELAYED = 1 ∧ t.fld (Fld.BOB_EVENT_TRUNCATED b) = 1 ∧
      t.mem.reqs.filter (fun r => r.owner == .spill b pos) = [] ∧ (t.bobbin b).spill = [] ∧
      (t.bobbin b).ended.map (fun e => (e.stop, e.cap, e.pre + e.post, e.extra, e.soon)) = (s.bobbin b).ended.map
      (fun e => (e.stop, e.cap, e.pre + e.post, e.extra, e.soon)) ++ [(c.start + (pos - c.start) / s.itemSize b * s.itemSize b, c,
      (pos - c.start) / s.itemSize b, 10, true)]) ∧
    (∀ (b : Fin 32) (pos len : Nat) (q : DramReq) (e : BobEnd), (s.bobbin b).spill = [(pos, len)] →
      (s.mem.reqs.filter (fun r => r.owner == .spill b pos) = [q]) → s.lapsed q = true → pos ≤ s.bobWr b → (s.bobbin b).cap = none →
      (s.bobbin b).ended = [e] → (e.cap.start ≤ pos ∧ pos < e.stop) → Completes (.c1Refused b) s fun t =>
      t.fld (Fld.MEM_CLS_COUNT_REFUSED 1) = satAdd (Fld.MEM_CLS_COUNT_REFUSED 1).w (s.fld (Fld.MEM_CLS_COUNT_REFUSED 1)) 1 ∧
      t.fld Fld.MEM_EVENT_C1_REFUSED = 1 ∧
      t.fld (Fld.MEM_CLS_COUNT_DELAYED 1) = satAdd (Fld.MEM_CLS_COUNT_DELAYED 1).w (s.fld (Fld.MEM_CLS_COUNT_DELAYED 1)) 1 ∧
      t.fld Fld.MEM_EVENT_C1_DELAYED = 1 ∧ (bitOf e.extra 1 = false → t.fld (Fld.BOB_EVENT_TRUNCATED b) = 1) ∧
      t.mem.reqs.filter (fun r => r.owner == .spill b pos) = [] ∧ (t.bobbin b).spill = [] ∧
      (t.bobbin b).ended =
      [{ e with tick := s.tick, soon := true, extra := e.extra / 16 * 16 + 10, pre := min e.pre ((pos - e.cap.start) / s.itemSize b), post := (pos - e.cap.start) / s.itemSize b - min e.pre ((pos - e.cap.start) / s.itemSize b), stop := e.cap.start + (pos - e.cap.start) / s.itemSize b * s.itemSize b }])
      ∧
    (∀ (b : Fin 32), ((s.bobbin b).spill = [] ∨ (∀ r ∈ s.mem.reqs, r.cls ≠ 1 ∨ r.begun = true ∨ s.tln.reel ≤ r.deadline)) →
      Completes (.c1Refused b) s fun t => t = s)

/-- The drafter's host jobs (R366, R368, R369, R371 to R375) and, once more, the memory commands
(R351, R352, R354, R357, R359, R360, R362 to R365). A job starts with its DRAM request and runs when that has been granted. One
of one block gives the wrapped block or the decoded bytes, or ends as OUT_FULL, with its decoder's error or as BAD_DESC; its
completion writes the descriptor, advances HEAD and sets its flags; a lane stalls and resumes, a bound lane gives its streams'
blocks in request order while it runs, and a TAIL beyond the ring is discarded. Each memory command completes with its own
effect, whatever its reader. That a job's work stands whole before its completion is the model's choice (log entry 31). -/
def Obligations.DrafterJobs : Prop :=
  ∀ (s : State), s.Wf →
    (∀ (path : Path) (l : Fin 8) (v : Word), s.accepts path (Reg.DRF_LANE_TAIL l) = true →
      fieldGet v (Fld.DRF_LANE_TAIL_INDEX l) < s.fld (Fld.DRF_LANE_RING_SIZE l) → Completes (.drfTailWrite path l v) s fun t =>
      t.fld (Fld.DRF_LANE_TAIL_INDEX l) = fieldGet v (Fld.DRF_LANE_TAIL_INDEX l)) ∧
    (∀ (path : Path) (l : Fin 8) (v : Word), s.accepts path (Reg.DRF_LANE_TAIL l) = true →
      s.fld (Fld.DRF_LANE_RING_SIZE l) ≤ fieldGet v (Fld.DRF_LANE_TAIL_INDEX l) → Completes (.drfTailWrite path l v) s fun t =>
      t.regs = s.regs) ∧
    (∀ (l : Fin 8) (ue : Option Nat), l.val < 4 → s.mayRunJob l = true → (s.jobDesc l).compressOk = true →
      Completes (.drfCompress l ue) s fun t => t.job l = some { desc := s.jobDesc l, ue := ue } ∧ t.dramWaits (.job l) = true ∧
      t.fld (Fld.DRF_LANE_STATUS_STATE l) = 1 ∧ t.dram = s.dram) ∧
    (∀ (l : Fin 8) (ue : Option Nat), l.val < 4 → s.mayRunJob l = true → (s.jobDesc l).compressOk = false →
      Completes (.drfCompress l ue) s fun t => t.job l = some { desc := s.jobDesc l, err := 20, ue := ue } ∧
      t.fld (Fld.DRF_LANE_STATUS_STATE l) = 1 ∧ t.dram = s.dram ∧ t.mem = s.mem) ∧
    (∀ (l : Fin 8) (ue : Option Nat), s.mayRunJob l = false → Completes (.drfCompress l ue) s fun t => t = s) ∧
    (∀ (l : Fin 8) (ue : Option Nat), 4 ≤ l.val → s.mayRunJob l = true → (s.jobDesc l).op ≠ 3 →
      Completes (.drfDecompress l ue) s fun t =>
      t.job l = some { desc := s.jobDesc l, err := if (s.jobDesc l).expandOk = true then 0 else 20, ue := ue } ∧
      t.fld (Fld.DRF_LANE_STATUS_STATE l) = 1 ∧ t.dram = s.dram ∧ ((s.jobDesc l).expandOk = true → t.dramWaits (.job l) = true)) ∧
    (∀ (l : Fin 8) (ue : Option Nat), 4 ≤ l.val → s.mayRunJob l = true → (s.jobDesc l).op = 3 → Completes (.drfVerify l ue) s fun t =>
      t.job l = some { desc := s.jobDesc l, err := if (s.jobDesc l).expandOk = true then 0 else 20, ue := ue } ∧
      t.fld (Fld.DRF_LANE_STATUS_STATE l) = 1 ∧ t.dram = s.dram ∧ ((s.jobDesc l).expandOk = true → t.dramWaits (.job l) = true)) ∧
    (∀ (l : Fin 8) (d : JobDesc), s.job l = some { desc := d } → s.lanesRun = true → s.fld (Fld.DRF_LANE_STATUS_STATE l) = 1 →
      s.dramWaits (.job l) = false → s.fld (Fld.DRF_LANE_RING_SIZE l) ≠ 0 → d.compressOk = true → d.len ≤ d.block * 4096 →
      s.dramMarked d.src d.len = false → s.sec.image = none → d.flags % 2 = 0 →
      (wrapBlock (deflateBlock d.mode none (s.dramBytes d.src d.len)).1 (s.dramBytes d.src d.len)
      (deflateBlock d.mode none (s.dramBytes d.src d.len)).2).length ≤ d.limit → Completes (.drfJobDone l) s fun t =>
      (∀ i : Fin 16, t.sramByte (s.jobAddr l + 48 + i.val) = ([BitVec.ofNat 8 (if 0 = 0 then 1 else 2), BitVec.ofNat 8 (0), 0, 0] ++
      leBytes 4 (1) ++ leBytes 8 ((wrapBlock (deflateBlock d.mode none (s.dramBytes d.src d.len)).1 (s.dramBytes d.src d.len)
      (deflateBlock d.mode none (s.dramBytes d.src d.len)).2).length)).getD i.val 0) ∧
      t.fld (Fld.DRF_LANE_HEAD_INDEX l) = (s.fld (Fld.DRF_LANE_HEAD_INDEX l) + 1) % s.fld (Fld.DRF_LANE_RING_SIZE l) ∧
      (if 0 = 0 then t.fld (Fld.DRF_LANE_EVENT_DONE l) = 1 else t.fld (Fld.DRF_LANE_EVENT_ERR l) = 1 ∧
      t.fld (Fld.DRF_LANE_STATUS_LAST_ERR l) = 0) ∧ (bitOf d.flags 1 = true → t.fld (Fld.DRF_LANE_EVENT_IRQ l) = 1) ∧ t.job l = none ∧
      (List.range (wrapBlock (deflateBlock d.mode none (s.dramBytes d.src d.len)).1 (s.dramBytes d.src d.len)
      (deflateBlock d.mode none (s.dramBytes d.src d.len)).2).length).map (fun i => t.dramByte (d.dst + i)) = (wrapBlock
      (deflateBlock d.mode none (s.dramBytes d.src d.len)).1 (s.dramBytes d.src d.len)
      (deflateBlock d.mode none (s.dramBytes d.src d.len)).2)) ∧
    (∀ (l : Fin 8) (d : JobDesc), s.job l = some { desc := d } → s.lanesRun = true → s.fld (Fld.DRF_LANE_STATUS_STATE l) = 1 →
      s.dramWaits (.job l) = false → s.fld (Fld.DRF_LANE_RING_SIZE l) ≠ 0 → d.compressOk = true → d.len ≤ d.block * 4096 →
      s.dramMarked d.src d.len = false → s.sec.image = none →
      d.limit < (wrapBlock (deflateBlock d.mode none (s.dramBytes d.src d.len)).1 (s.dramBytes d.src d.len)
      (deflateBlock d.mode none (s.dramBytes d.src d.len)).2).length → Completes (.drfJobDone l) s fun t =>
      (∀ i : Fin 16, t.sramByte (s.jobAddr l + 48 + i.val) = ([BitVec.ofNat 8 (if 19 = 0 then 1 else 2), BitVec.ofNat 8 (19), 0, 0] ++
      leBytes 4 (0) ++ leBytes 8 (0)).getD i.val 0) ∧
      t.fld (Fld.DRF_LANE_HEAD_INDEX l) = (s.fld (Fld.DRF_LANE_HEAD_INDEX l) + 1) % s.fld (Fld.DRF_LANE_RING_SIZE l) ∧
      (if 19 = 0 then t.fld (Fld.DRF_LANE_EVENT_DONE l) = 1 else t.fld (Fld.DRF_LANE_EVENT_ERR l) = 1 ∧
      t.fld (Fld.DRF_LANE_STATUS_LAST_ERR l) = 19) ∧ (bitOf d.flags 1 = true → t.fld (Fld.DRF_LANE_EVENT_IRQ l) = 1) ∧
      t.job l = none ∧ t.dram = s.dram) ∧
    (∀ (l : Fin 8) (d : JobDesc) (bs : List Byte), s.job l = some { desc := d } → s.lanesRun = true →
      s.fld (Fld.DRF_LANE_STATUS_STATE l) = 1 → s.dramWaits (.job l) = false → s.fld (Fld.DRF_LANE_RING_SIZE l) ≠ 0 →
      d.expandOk = true → s.sec.image = none → d.op = 2 → d.len = 1 → (readBlock d.src false [] s).1 = (0, bs) → bs.length ≤ d.limit →
      Completes (.drfJobDone l) s fun t =>
      (∀ i : Fin 16, t.sramByte (s.jobAddr l + 48 + i.val) = ([BitVec.ofNat 8 (if 0 = 0 then 1 else 2), BitVec.ofNat 8 (0), 0, 0] ++
      leBytes 4 (1) ++ leBytes 8 (bs.length)).getD i.val 0) ∧
      t.fld (Fld.DRF_LANE_HEAD_INDEX l) = (s.fld (Fld.DRF_LANE_HEAD_INDEX l) + 1) % s.fld (Fld.DRF_LANE_RING_SIZE l) ∧
      (if 0 = 0 then t.fld (Fld.DRF_LANE_EVENT_DONE l) = 1 else t.fld (Fld.DRF_LANE_EVENT_ERR l) = 1 ∧
      t.fld (Fld.DRF_LANE_STATUS_LAST_ERR l) = 0) ∧ (bitOf d.flags 1 = true → t.fld (Fld.DRF_LANE_EVENT_IRQ l) = 1) ∧ t.job l = none ∧
      (List.range bs.length).map (fun i => t.dramByte (d.dst + i)) = bs) ∧
    (∀ (l : Fin 8) (d : JobDesc) (bs : List Byte), s.job l = some { desc := d } → s.lanesRun = true →
      s.fld (Fld.DRF_LANE_STATUS_STATE l) = 1 → s.dramWaits (.job l) = false → s.fld (Fld.DRF_LANE_RING_SIZE l) ≠ 0 →
      d.expandOk = true → s.sec.image = none → d.op = 2 → d.len = 1 → (readBlock d.src false [] s).1 = (0, bs) → d.limit < bs.length →
      Completes (.drfJobDone l) s fun t =>
      (∀ i : Fin 16, t.sramByte (s.jobAddr l + 48 + i.val) = ([BitVec.ofNat 8 (if 19 = 0 then 1 else 2), BitVec.ofNat 8 (19), 0, 0] ++
      leBytes 4 (0) ++ leBytes 8 (d.limit)).getD i.val 0) ∧
      t.fld (Fld.DRF_LANE_HEAD_INDEX l) = (s.fld (Fld.DRF_LANE_HEAD_INDEX l) + 1) % s.fld (Fld.DRF_LANE_RING_SIZE l) ∧
      (if 19 = 0 then t.fld (Fld.DRF_LANE_EVENT_DONE l) = 1 else t.fld (Fld.DRF_LANE_EVENT_ERR l) = 1 ∧
      t.fld (Fld.DRF_LANE_STATUS_LAST_ERR l) = 19) ∧ (bitOf d.flags 1 = true → t.fld (Fld.DRF_LANE_EVENT_IRQ l) = 1) ∧
      t.job l = none) ∧
    (∀ (l : Fin 8) (d : JobDesc) (e : Nat) (bs : List Byte), s.job l = some { desc := d } → s.lanesRun = true →
      s.fld (Fld.DRF_LANE_STATUS_STATE l) = 1 → s.dramWaits (.job l) = false → s.fld (Fld.DRF_LANE_RING_SIZE l) ≠ 0 →
      d.expandOk = true → s.sec.image = none → d.op = 2 → (readBlock d.src false [] s).1 = (e, bs) → (e ≠ 0 ∧ e < 32) →
      bs.length ≤ d.limit → Completes (.drfJobDone l) s fun t =>
      (∀ i : Fin 16, t.sramByte (s.jobAddr l + 48 + i.val) = ([BitVec.ofNat 8 (if e = 0 then 1 else 2), BitVec.ofNat 8 (e), 0, 0] ++
      leBytes 4 (0) ++ leBytes 8 (bs.length)).getD i.val 0) ∧
      t.fld (Fld.DRF_LANE_HEAD_INDEX l) = (s.fld (Fld.DRF_LANE_HEAD_INDEX l) + 1) % s.fld (Fld.DRF_LANE_RING_SIZE l) ∧
      (if e = 0 then t.fld (Fld.DRF_LANE_EVENT_DONE l) = 1 else t.fld (Fld.DRF_LANE_EVENT_ERR l) = 1 ∧
      t.fld (Fld.DRF_LANE_STATUS_LAST_ERR l) = e) ∧ (bitOf d.flags 1 = true → t.fld (Fld.DRF_LANE_EVENT_IRQ l) = 1) ∧
      t.job l = none) ∧
    (∀ (l : Fin 8) (d : JobDesc) (e : Nat) (bs : List Byte), s.job l = some { desc := d } → s.lanesRun = true →
      s.fld (Fld.DRF_LANE_STATUS_STATE l) = 1 → s.dramWaits (.job l) = false → s.fld (Fld.DRF_LANE_RING_SIZE l) ≠ 0 →
      d.expandOk = true → s.sec.image = none → d.op = 3 → d.len = 1 → (readBlock d.src false [] s).1 = (e, bs) → e < 32 →
      Completes (.drfJobDone l) s fun t =>
      (∀ i : Fin 16, t.sramByte (s.jobAddr l + 48 + i.val) = ([BitVec.ofNat 8 (if e = 0 then 1 else 2), BitVec.ofNat 8 (e), 0, 0] ++
      leBytes 4 ((if e = 0 then 1 else 0)) ++ leBytes 8 (0)).getD i.val 0) ∧
      t.fld (Fld.DRF_LANE_HEAD_INDEX l) = (s.fld (Fld.DRF_LANE_HEAD_INDEX l) + 1) % s.fld (Fld.DRF_LANE_RING_SIZE l) ∧
      (if e = 0 then t.fld (Fld.DRF_LANE_EVENT_DONE l) = 1 else t.fld (Fld.DRF_LANE_EVENT_ERR l) = 1 ∧
      t.fld (Fld.DRF_LANE_STATUS_LAST_ERR l) = e) ∧ (bitOf d.flags 1 = true → t.fld (Fld.DRF_LANE_EVENT_IRQ l) = 1) ∧ t.job l = none ∧
      (∀ a, t.dramByte a = s.dramByte a)) ∧
    (∀ (l : Fin 8) (j : Job), s.job l = some j → (j.err ≠ 0 ∧ j.err < 32) → s.lanesRun = true →
      s.fld (Fld.DRF_LANE_STATUS_STATE l) = 1 → s.dramWaits (.job l) = false → s.fld (Fld.DRF_LANE_RING_SIZE l) ≠ 0 →
      Completes (.drfJobDone l) s fun t =>
      (∀ i : Fin 16, t.sramByte (s.jobAddr l + 48 + i.val) = ([BitVec.ofNat 8 (if j.err = 0 then 1 else 2), BitVec.ofNat 8 (j.err), 0,
      0] ++ leBytes 4 (0) ++ leBytes 8 (0)).getD i.val 0) ∧
      t.fld (Fld.DRF_LANE_HEAD_INDEX l) = (s.fld (Fld.DRF_LANE_HEAD_INDEX l) + 1) % s.fld (Fld.DRF_LANE_RING_SIZE l) ∧
      (if j.err = 0 then t.fld (Fld.DRF_LANE_EVENT_DONE l) = 1 else t.fld (Fld.DRF_LANE_EVENT_ERR l) = 1 ∧
      t.fld (Fld.DRF_LANE_STATUS_LAST_ERR l) = j.err) ∧ (bitOf j.desc.flags 1 = true → t.fld (Fld.DRF_LANE_EVENT_IRQ l) = 1) ∧
      t.job l = none ∧ t.dram = s.dram) ∧
    (∀ (l : Fin 8), s.job l = none ∨ s.lanesRun = false ∨ s.fld (Fld.DRF_LANE_STATUS_STATE l) ≠ 1 ∨ s.dramWaits (.job l) = true →
      Completes (.drfJobDone l) s fun t => t = s) ∧
    (∀ (r : Fin 64) (host bs : List Byte) (m n : Nat), (s.stream r).reqs = [(m, n)] → (s.stream r).asked = n →
      s.bit (Fld.STM_RV_CFG_COMPRESSED r) = true → s.fld (Fld.STM_RV_CFG_SRC r) = 0 → s.dramWaits (.refill r 0) = false →
      s.laneServes r = true → s.mem.order = [r.val] → (readBlock (s.rd64 (Reg.STM_RV_SRC_LO r)) false [] s).1 = (0, bs) →
      s.fld (Fld.STM_RV_FILL_BYTES r) + bs.length < 2 ^ 25 → Completes (.refillComplete r host false) s fun t =>
      t.fld (Fld.STM_RV_FILL_BYTES r) = s.fld (Fld.STM_RV_FILL_BYTES r) + bs.length ∧ (t.stream r).reqs = [] ∧
      (t.stream r).stored = (s.stream r).stored + bs.length ∧ r.val ∉ t.mem.order) ∧
    (∀ (r : Fin 64) (host : List Byte) (err : Bool), s.bit (Fld.STM_RV_CFG_COMPRESSED r) = true → s.laneServes r = false →
      Completes (.refillComplete r host err) s fun t => t = s) ∧
    (∀ (l : Fin 8), s.fld (Fld.DRF_LANE_STATUS_STATE l) = 1 → Completes (.drfStall l) s fun t =>
      t.fld (Fld.DRF_LANE_STATUS_STATE l) = 2 ∧ t.jobs = s.jobs ∧ OnlyRegs [Reg.DRF_LANE_STATUS l] s t) ∧
    (∀ (l : Fin 8), s.fld (Fld.DRF_LANE_STATUS_STATE l) = 2 → s.mode = 1 ∨ 3 ≤ s.mode → Completes (.drfResume l) s fun t =>
      t.fld (Fld.DRF_LANE_STATUS_STATE l) = 1 ∧ t.jobs = s.jobs ∧ OnlyRegs [Reg.DRF_LANE_STATUS l] s t) ∧
    (∀ (l : Fin 8), s.mode = 0 ∨ s.mode = 2 → Completes (.drfResume l) s fun t => t = s) ∧
    (∀ (off : Fin 0x4000000) (rd : SramReader), readerRegion off rd = true → Completes (.sramUe off rd) s fun t =>
      t.fld Fld.MEM_SRAM_UE_ADDR_ADDR = off.val / 16 * 16 ∧ t.fld Fld.MEM_EVENT_SRAM_UE = 1 ∧ t.dram = s.dram) ∧
    (∀ (off : Fin 0x2000000000) (rd : DramReader), Completes (.dramUe off rd) s fun t =>
      t.rd64 (Reg.MEM_DRAM_UE_ADDR_LO (off.val / 256 % 4)) = off.val / 8 * 8 ∧ t.fld Fld.MEM_EVENT_DRAM_UE = 1 ∧ t.dram = s.dram ∧
      t.sram = s.sram) ∧
    (∀ (grants : List (Fin 4)), s.mem.held = [] → Completes (.dramRequestDone grants) s fun t => t.dram = s.dram ∧ t.sram = s.sram ∧
      t.mem.held = [] ∧ t.mem.reqs.length ≤ s.mem.reqs.length) ∧
    (∀ (off : Fin 0x4000000), Completes (.sramCe off) s fun t =>
      t.fld (Fld.MEM_SRAM_ERR_CE (sramRegion off)) = satAdd (Fld.MEM_SRAM_ERR_CE (sramRegion off)).w
      (s.fld (Fld.MEM_SRAM_ERR_CE (sramRegion off))) 1 ∧ t.fld Fld.MEM_EVENT_SRAM_CE = 1 ∧ t.sram = s.sram ∧
      (t.fld Fld.MEM_EVENT_CE_STORM = 1 ∨ t.fld Fld.MEM_EVENT_CE_STORM = s.fld Fld.MEM_EVENT_CE_STORM ∧
      ((sget (fun _ => []) s.mem.ces (sramRegion off)).filter fun x =>
      decide (s.tln.reel < x + 1000000000 * 2 ^ 32)).length + 1 ≤ s.fld Fld.MEM_CE_THRESH_THRESH)) ∧
    (∀ (dram : Bool), Completes (.scrubPassDone dram) s fun t => (if dram = true then (s.fld Fld.MEM_SCRUB_CFG_DRAM_H ≠ 0 →
      t.fld Fld.MEM_EVENT_SCRUB_DRAM = 1) else (s.fld Fld.MEM_SCRUB_CFG_SRAM_S ≠ 0 → t.fld Fld.MEM_EVENT_SCRUB_SRAM = 1)) ∧
      OnlyRegs [Reg.MEM_EVENT] s t) ∧
    (s.bit Fld.MEM_STATUS_SRAM_READY = true → s.bit Fld.MEM_STATUS_DRAM_READY = false → Completes .dramInit s fun t =>
      t.fld Fld.MEM_STATUS_DRAM_READY = 1 ∧ t.fld Fld.MEM_EVENT_DRAM_INIT = 1 ∧
      ((∀ x ∈ s.mem.held.head?, s.dramWaits (.host x.1) = true) → t.mem.held = s.mem.held ∧ t.dram = s.dram)) ∧
    (∀ (off : Fin 0x2000000000), Completes (.dramCe off) s fun t =>
      t.fld (Fld.MEM_DRAM_ERR_CE (off.val / 256 % 4)) = satAdd (Fld.MEM_DRAM_ERR_CE (off.val / 256 % 4)).w
      (s.fld (Fld.MEM_DRAM_ERR_CE (off.val / 256 % 4))) 1 ∧ t.fld Fld.MEM_EVENT_DRAM_CE = 1 ∧ t.dram = s.dram) ∧
    (∀ (k : Fin 4) (x : Nat), (sget (fun _ => none) s.mem.lowSince k = some x) → x + 500000000 ≤ s.tick →
      Completes (.refreshDown k) s fun t => t.fld (refreshField k) = refreshOf (s.fld (Fld.SUP_TS_STATUS_BAND (12 + k))) ∧
      t.fld Fld.MEM_EVENT_REFRESH_CHG = 1 ∧ sget (fun _ => none) t.mem.lowSince k = none ∧
      OnlyRegs [Reg.MEM_STATUS, Reg.MEM_EVENT] s t) ∧
    (∀ (id a : Nat) (bs : List Byte), s.mem.held = [(id, .write a (bs.map some))] → s.dramWaits (.host id) = false →
      s.bit Fld.MEM_STATUS_DRAM_READY = true → s.bit Fld.MEM_STATUS_SELF_REFRESH = false → a + bs.length ≤ dramSize →
      s.sec.image = none → Completes (.dramRequestDone []) s fun t => t.mem.held = [] ∧
      (∀ i, i < bs.length → t.dramByte (a + i) = bs.getD i 0) ∧ (∀ x, x < a ∨ a + bs.length ≤ x → t.dramByte x = s.dramByte x)) ∧
    (∀ (b : Fin 32) (pos len : Nat) (q : DramReq) (c : BobCap), (s.bobbin b).spill = [(pos, len)] →
      (s.mem.reqs.filter (fun r => r.owner == .spill b pos) = [q]) → s.lapsed q = true → pos ≤ s.bobWr b → (s.bobbin b).cap = some c →
      c.start ≤ pos → Completes (.c1Refused b) s fun t =>
      t.fld (Fld.MEM_CLS_COUNT_REFUSED 1) = satAdd (Fld.MEM_CLS_COUNT_REFUSED 1).w (s.fld (Fld.MEM_CLS_COUNT_REFUSED 1)) 1 ∧
      t.fld Fld.MEM_EVENT_C1_REFUSED = 1 ∧
      t.fld (Fld.MEM_CLS_COUNT_DELAYED 1) = satAdd (Fld.MEM_CLS_COUNT_DELAYED 1).w (s.fld (Fld.MEM_CLS_COUNT_DELAYED 1)) 1 ∧
      t.fld Fld.MEM_EVENT_C1_DELAYED = 1 ∧ t.fld (Fld.BOB_EVENT_TRUNCATED b) = 1 ∧
      t.mem.reqs.filter (fun r => r.owner == .spill b pos) = [] ∧ (t.bobbin b).spill = [] ∧
      (t.bobbin b).ended.map (fun e => (e.stop, e.cap, e.pre + e.post, e.extra, e.soon)) = (s.bobbin b).ended.map
      (fun e => (e.stop, e.cap, e.pre + e.post, e.extra, e.soon)) ++ [(c.start + (pos - c.start) / s.itemSize b * s.itemSize b, c,
      (pos - c.start) / s.itemSize b, 10, true)])

/-- The link, the memory windows and the DMA queues (R350, R357, R358, R379 to R396): what each BAR access reads, writes, holds or
refuses, what a Function Level Reset returns to reset, and how a queue's descriptor starts, moves its bytes, writes its
completion entry, fails, stops or is reset. The order of the starts is the model's by log entry 138, the held accesses of DRAM
are by log entry 94, and the size that the host gives BAR4 is by log entry 150. -/
def Obligations.HostWindowsAndDma : Prop :=
  ∀ (s : State), s.Wf →
    (∀ (up : Bool) (speed : BitVec 3) (width : BitVec 5) (flit : Bool), Completes (.linkChg up speed width flit) s fun t =>
      t.fld Fld.HIF_LINK_STATUS_UP = b2n up ∧ t.fld Fld.HIF_LINK_STATUS_SPEED = speed.toNat ∧
      t.fld Fld.HIF_LINK_STATUS_WIDTH = width.toNat ∧ t.fld Fld.HIF_LINK_STATUS_FLIT = b2n flit ∧
      ((s.fld Fld.HIF_LINK_STATUS_UP, s.fld Fld.HIF_LINK_STATUS_SPEED, s.fld Fld.HIF_LINK_STATUS_WIDTH) ≠
      (b2n up, speed.toNat, width.toNat) → t.fld Fld.HIF_EVENT_LINK_CHG = 1) ∧ OnlyRegs [Reg.HIF_LINK_STATUS, Reg.HIF_EVENT] s t) ∧
    (Completes .functionLevelReset s fun t => (∀ off, 0x10000 ≤ off → off < 0x20000 → t.rd off = regReset off) ∧
      (∀ q : Fin 64, t.dmaJob q = none ∧ t.dramWaits (.dma q) = false) ∧ t.d3hot = false ∧ t.hif.bar4Log = 30 ∧
      t.hif.funcMask = false ∧ t.mode = s.mode ∧ t.sram = s.sram ∧ t.dram = s.dram) ∧
    (Completes .d3hotEntry s fun t => t.fld Fld.HIF_LINK_STATUS_DSTATE = 3 ∧ OnlyRegs [Reg.HIF_LINK_STATUS] s t) ∧
    (∀ (off : Fin 0x4000000) (a : MemAccess) (ue : Bool), s.glb.released = true → s.mode = 0 →
      Completes (.bar2Access off a ue) s fun t => t.resp.status = .unsupported ∧ t.fld Fld.HIF_EVENT_UR = 1 ∧ t.sram = s.sram ∧
      t.dram = s.dram ∧ t.mem = s.mem) ∧
    (∀ (off : Fin 0x4000000) (n : Nat), s.mode ≠ 0 → s.masks = false →
      (∀ w ∈ s.mem.badSram, 16 * w + 16 ≤ off.val ∨ off.val + n ≤ 16 * w) → Completes (.bar2Access off (.read n) false) s fun t =>
      t.resp.bytes = (List.range n).map (fun i =>
      if inHistory (off.val + i) = true ∨ 0x4000000 ≤ off.val + i then 0 else s.sramByte (off.val + i)) ∧ t.resp.status = .ok ∧
      t.regs = s.regs ∧ t.sram = s.sram) ∧
    (∀ (off : Fin 0x4000000) (n : Nat), s.mode ≠ 0 → (∃ w ∈ s.mem.badSram, off.val < 16 * w + 16 ∧ 16 * w < off.val + n) →
      Completes (.bar2Access off (.read n) false) s fun t => t.resp.status = .poisoned ∧ t.fld Fld.MEM_EVENT_POISON = 1 ∧
      t.fld Fld.MEM_EVENT_SRAM_UE = 1 ∧ t.sram = s.sram) ∧
    (∀ (off : Fin 0x4000000) (n : Nat), s.mode ≠ 0 → s.masks = true → Completes (.bar2Access off (.read n) false) s fun t =>
      (∀ i, i < n → s.configByte (off.val + i) = true → t.resp.bytes.getD i 0 = 0) ∧
      ((∃ i, i < n ∧ s.configByte (off.val + i) = true) → t.fld (secEvent 5) = 1)) ∧
    (∀ (off : Fin 0x4000000) (x : Byte), s.mode ≠ 0 → s.sramBar off = .free →
      Completes (.bar2Access off (.write [some x]) false) s fun t => t.sramByte off = x ∧
      (∀ a, a ≠ off.val → t.sramByte a = s.sramByte a)) ∧
    (∀ (off : Fin 0x4000000) (x : Byte) (ue : Bool), s.mode ≠ 0 → s.sramBar off ≠ .free →
      Completes (.bar2Access off (.write [some x]) ue) s fun t => t.sram = s.sram ∧
      (if inHistory off = true then t.regs = s.regs else t.fld Fld.HIF_EVENT_WR_REFUSED = 1 ∧ (s.bit Fld.HIF_WR_REF_VALID = false →
      t.fld Fld.HIF_WR_REF_SRC = 1 ∧ t.rd64 Reg.HIF_WR_REF_ADDR_LO = off.val ∧ t.fld Fld.HIF_WR_REF_VALID = 1))) ∧
    (∀ (off : Fin 0x4000000) (x : Byte), s.mode ≠ 0 → s.sramBar off = .free →
      Completes (.bar2Access off (.write [some x]) true) s fun t => t.sram = s.sram ∧ t.fld Fld.MEM_EVENT_PARTIAL_DISCARD = 1 ∧
      t.fld Fld.MEM_EVENT_SRAM_UE = 1) ∧
    (∀ (x : Fin 0x2000000000) (a : MemAccess) (ue : Bool), x.val < 2 ^ s.hif.bar4Log → s.glb.released = true →
      s.mode = 0 ∨ s.mode = 2 → Completes (.bar4Access x a ue none) s fun t => t.resp.status = .unsupported ∧
      t.fld Fld.HIF_EVENT_UR = 1 ∧ t.sram = s.sram ∧ t.dram = s.dram ∧ t.mem = s.mem) ∧
    (∀ (x : Fin 0x2000000000) (n : Nat) (ue : Bool), x.val < 2 ^ s.hif.bar4Log → (s.mode ≠ 0 ∧ s.mode ≠ 2) →
      Completes (.bar4Access x (.read n) ue none) s fun t =>
      t.mem.held = s.mem.held ++ [(s.mem.seq, .read (s.fld Fld.HIF_BAR4_WIN_WIN % 2 ^ (37 - s.hif.bar4Log) * 2 ^ s.hif.bar4Log +
      x.val) n ue)] ∧ (n ≠ 0 → t.dramWaits (.host s.mem.seq) = true) ∧ t.resp.bytes = [] ∧ t.dram = s.dram ∧ t.regs = s.regs) ∧
    (∀ (x : Fin 0x2000000000) (bs : List (Option Byte)) (ue : Bool), x.val < 2 ^ s.hif.bar4Log → (s.mode ≠ 0 ∧ s.mode ≠ 2) →
      Completes (.bar4Access x (.write bs) ue none) s fun t =>
      t.mem.held = s.mem.held ++ [(s.mem.seq, .write (s.fld Fld.HIF_BAR4_WIN_WIN % 2 ^ (37 - s.hif.bar4Log) * 2 ^ s.hif.bar4Log +
      x.val) bs)] ∧ (bs ≠ [] → t.dramWaits (.host s.mem.seq) = true) ∧ t.resp.status = .ok ∧ t.dram = s.dram ∧ t.regs = s.regs) ∧
    (∀ (x : Fin 0x2000000000) (a : MemAccess) (ue : Bool), 2 ^ s.hif.bar4Log ≤ x.val → Completes (.bar4Access x a ue none) s fun t =>
      t = s) ∧
    (∀ (x : Fin 0x2000000000) (a : MemAccess) (ue : Bool) (k : Fin 8), Completes (.bar4Access x a ue (some k)) s fun t =>
      t.hif.bar4Log = 30 + k.val ∧ t.fld Fld.HIF_LINK_STATUS_BAR4_LOG = (30 + k.val) % 32) ∧
    (∀ (p : Path) (q : Fin 64) (v : Word), s.accepts p (Reg.HIF_Q_TAIL q) = true →
      v.toNat % 4096 < 2 ^ s.fld (Fld.HIF_Q_CFG_SIZE_LOG q) → Completes (.dmaDoorbell p q v) s fun t =>
      t.fld (Fld.HIF_Q_TAIL_INDEX q) = v.toNat % 4096 ∧ (s.bit (Fld.HIF_Q_CFG_EN q) = true → s.fld (Fld.HIF_Q_STATUS_STATE q) = 2 →
      v.toNat % 4096 ≠ s.fld (Fld.HIF_Q_HEAD_INDEX q) → t.fld (Fld.HIF_Q_STATUS_STATE q) = 1)) ∧
    (∀ (p : Path) (q : Fin 64) (v : Word), s.accepts p (Reg.HIF_Q_TAIL q) = true →
      2 ^ s.fld (Fld.HIF_Q_CFG_SIZE_LOG q) ≤ v.toNat % 4096 → Completes (.dmaDoorbell p q v) s fun t =>
      t.fld (Fld.HIF_Q_EVENT_BAD_TAIL q) = 1 ∧ OnlyRegs [Reg.HIF_Q_EVENT q] s t) ∧
    (∀ (q : Fin 64) (desc : List Byte) (n : Nat), s.mayStartDma q = true → desc.length = 32 →
      (∀ r : Fin 64, s.hostRefillReady r = false) → s.hif.turn = (q.val, n + 1) → Completes (.dmaDescriptorStart q desc) s fun t =>
      t.dmaJob q = some desc ∧ t.hif.turn = (q.val, n) ∧ t.regs = s.regs ∧ ((dmaDesc desc).ok = true →
      t.dataLeft q = ((dmaDesc desc).len + dataChunk q - 1) / dataChunk q ∧
      ((dmaDesc desc).space = 1 → t.dramWaits (.dma q) = true))) ∧
    (∀ (q : Fin 64) (desc : List Byte) (p n : Nat), s.mayStartDma q = true → desc.length = 32 →
      (∀ r : Fin 64, s.hostRefillReady r = false) → s.fld (Fld.HIF_Q_CFG_WEIGHT q) ≠ 0 → s.hif.turn = (p, n) →
      n = 0 ∨ s.descReady p = false → (∀ x : Fin 64, (x.val + 127 - p) % 64 < (q.val + 127 - p) % 64 →
      s.descReady x = false ∨ s.fld (Fld.HIF_Q_CFG_WEIGHT x) = 0) → p < 64 → Completes (.dmaDescriptorStart q desc) s fun t =>
      t.dmaJob q = some desc ∧ t.hif.turn = (q.val, s.fld (Fld.HIF_Q_CFG_WEIGHT q) - 1) ∧ t.regs = s.regs) ∧
    (∀ (q : Fin 64) (desc : List Byte), s.mayStartDma q = true → desc.length = 32 → (∀ r : Fin 64, s.hostRefillReady r = false) →
      s.hif.turn.2 = 0 ∨ s.descReady s.hif.turn.1 = false → (∀ x : Fin 64, s.descReady x = true →
      s.fld (Fld.HIF_Q_CFG_WEIGHT x) = 0) → Completes (.dmaDescriptorStart q desc) s fun t => t.dmaJob q = some desc ∧
      t.hif.turn = s.hif.turn ∧ t.regs = s.regs) ∧
    (∀ (q : Fin 64) (desc : List Byte), (s.mayStartDma q = false ∨ (∃ r : Fin 64, s.hostRefillReady r = true) ∨ (s.fld
      (Fld.HIF_Q_CFG_WEIGHT q) = 0 ∧ s.hif.turn.2 = 0 ∧ ∃ x : Fin 64, s.descReady x = true ∧ s.fld (Fld.HIF_Q_CFG_WEIGHT x) ≠ 0)) →
      Completes (.dmaDescriptorStart q desc) s fun t => t = s) ∧
    (∀ (q : Fin 64) (d data : List Byte), q.val < 32 → s.dmaJob q = some d → s.d3hot = false → s.fld (Fld.HIF_Q_CFG_SIZE_LOG q) ≤ 12 →
      s.stopping q = false → s.dataLeft q = 0 → s.dramWaits (.dma q) = false → (dmaDesc d).ok = true → (dmaDesc d).space = 0 →
      s.mode ≠ 0 → data.length = (dmaDesc d).len → (∀ i, i < data.length → s.sramBar ((dmaDesc d).dev + i) = .free) →
      Completes (.dmaDescriptorDone q data .ok false) s fun t =>
      (List.range data.length).map (fun i => t.sramByte ((dmaDesc d).dev + i)) = data ∧
      t.fld (Fld.HIF_Q_HEAD_INDEX q) = (s.fld (Fld.HIF_Q_HEAD_INDEX q) + 1) % 2 ^ s.fld (Fld.HIF_Q_CFG_SIZE_LOG q) ∧
      t.dmaJob q = none ∧ (bitOf (dmaDesc d).flags 1 = true → t.fld (Fld.HIF_Q_EVENT_DONE q) = 1) ∧
      t.resp.host = (if bitOf (dmaDesc d).flags 0 = true then
      [{ addr := s.rd64 (Reg.HIF_Q_CPL_LO q) + 16 * s.fld (Fld.HIF_Q_HEAD_INDEX q), bytes := (dmaDesc d).tag ++ leBytes 4 (dmaDesc d).len ++ [1, 0] ++ leBytes 2 (s.fld (Fld.HIF_Q_HEAD_INDEX q)) ++ [0, 0, 0, BitVec.ofNat 8 (s.fld (Fld.HIF_Q_STATUS_PHASE q))] }]
      else [])) ∧
    (∀ (q : Fin 64) (d data : List Byte), q.val < 32 → s.dmaJob q = some d → s.d3hot = false → s.fld (Fld.HIF_Q_CFG_SIZE_LOG q) ≤ 12 →
      s.stopping q = false → s.dataLeft q = 0 → s.dramWaits (.dma q) = false → (dmaDesc d).ok = true → (dmaDesc d).space = 0 →
      s.mode ≠ 0 → data.length = (dmaDesc d).len → (dmaDesc d).dev % 16 ≠ 0 → (∀ i, i < data.length →
      s.sramBar ((dmaDesc d).dev + i) = .free) → Completes (.dmaDescriptorDone q data .ok true) s fun t =>
      t.fld (Fld.HIF_Q_HEAD_INDEX q) = (s.fld (Fld.HIF_Q_HEAD_INDEX q) + 1) % 2 ^ s.fld (Fld.HIF_Q_CFG_SIZE_LOG q) ∧
      t.dmaJob q = none ∧ t.fld (Fld.HIF_Q_EVENT_ERR q) = 1 ∧ t.fld Fld.HIF_EVENT_Q_ERR = 1 ∧ t.fld (Fld.HIF_Q_STATUS_STATE q) = 3 ∧
      t.resp.host =
      [{ addr := s.rd64 (Reg.HIF_Q_CPL_LO q) + 16 * s.fld (Fld.HIF_Q_HEAD_INDEX q), bytes := (dmaDesc d).tag ++ leBytes 4 0 ++ [2, 4] ++ leBytes 2 (s.fld (Fld.HIF_Q_HEAD_INDEX q)) ++ [0, 0, 0, BitVec.ofNat 8 (s.fld (Fld.HIF_Q_STATUS_PHASE q))] }]
      ∧ t.fld Fld.MEM_EVENT_PARTIAL_DISCARD = 1 ∧ t.sram = s.sram) ∧
    (∀ (q : Fin 64) (d data : List Byte), 32 ≤ q.val → s.dmaJob q = some d → s.d3hot = false → s.fld (Fld.HIF_Q_CFG_SIZE_LOG q) ≤ 12 →
      s.stopping q = false → s.dataLeft q = 0 → s.dramWaits (.dma q) = false → (dmaDesc d).ok = true → (dmaDesc d).space = 1 →
      (s.mode ≠ 0 ∧ s.mode ≠ 2) → s.masks = false → s.dramMarked (dmaDesc d).dev (dmaDesc d).len = false →
      Completes (.dmaDescriptorDone q data .ok false) s fun t =>
      t.resp.host =
      { addr := (dmaDesc d).host, bytes := (List.range (dmaDesc d).len).map (fun i => s.dramByte ((dmaDesc d).dev + i)), poisoned := false, relaxed := s.bit Fld.HIF_CTL_RO_EN, noSnoop := s.bit Fld.HIF_CTL_NS_EN }
      :: (if bitOf (dmaDesc d).flags 0 = true then
      [{ addr := s.rd64 (Reg.HIF_Q_CPL_LO q) + 16 * s.fld (Fld.HIF_Q_HEAD_INDEX q), bytes := (dmaDesc d).tag ++ leBytes 4 (dmaDesc d).len ++ [1, 0] ++ leBytes 2 (s.fld (Fld.HIF_Q_HEAD_INDEX q)) ++ [0, 0, 0, BitVec.ofNat 8 (s.fld (Fld.HIF_Q_STATUS_PHASE q))] }]
      else []) ∧ t.fld (Fld.HIF_Q_HEAD_INDEX q) = (s.fld (Fld.HIF_Q_HEAD_INDEX q) + 1) % 2 ^ s.fld (Fld.HIF_Q_CFG_SIZE_LOG q) ∧
      t.dmaJob q = none ∧ (bitOf (dmaDesc d).flags 1 = true → t.fld (Fld.HIF_Q_EVENT_DONE q) = 1)) ∧
    (∀ (q : Fin 64) (d data : List Byte) (ue : Bool), 32 ≤ q.val → s.dmaJob q = some d → s.d3hot = false →
      s.fld (Fld.HIF_Q_CFG_SIZE_LOG q) ≤ 12 → s.stopping q = false → s.dataLeft q = 0 → s.dramWaits (.dma q) = false →
      (dmaDesc d).ok = true → (dmaDesc d).space = 1 → (s.mode ≠ 0 ∧ s.mode ≠ 2) → s.masks = false →
      s.dramMarked (dmaDesc d).dev (dmaDesc d).len = true → Completes (.dmaDescriptorDone q data .ok ue) s fun t =>
      t.resp.host =
      [{ addr := (dmaDesc d).host, bytes := (List.range (dmaDesc d).len).map (fun i => s.dramByte ((dmaDesc d).dev + i)), poisoned := true, relaxed := s.bit Fld.HIF_CTL_RO_EN, noSnoop := s.bit Fld.HIF_CTL_NS_EN },
      { addr := s.rd64 (Reg.HIF_Q_CPL_LO q) + 16 * s.fld (Fld.HIF_Q_HEAD_INDEX q), bytes := (dmaDesc d).tag ++ leBytes 4 (dmaDesc d).len ++ [2, 4] ++ leBytes 2 (s.fld (Fld.HIF_Q_HEAD_INDEX q)) ++ [0, 0, 0, BitVec.ofNat 8 (s.fld (Fld.HIF_Q_STATUS_PHASE q))] }]
      ∧ t.fld (Fld.HIF_Q_HEAD_INDEX q) = (s.fld (Fld.HIF_Q_HEAD_INDEX q) + 1) % 2 ^ s.fld (Fld.HIF_Q_CFG_SIZE_LOG q) ∧
      t.dmaJob q = none ∧ t.fld (Fld.HIF_Q_EVENT_ERR q) = 1 ∧ t.fld Fld.HIF_EVENT_Q_ERR = 1 ∧ t.fld (Fld.HIF_Q_STATUS_STATE q) = 3 ∧
      t.fld Fld.MEM_EVENT_POISON = 1) ∧
    (∀ (q : Fin 64) (d : List Byte) (ue : Bool), 32 ≤ q.val → s.dmaJob q = some d → s.d3hot = false →
      s.fld (Fld.HIF_Q_CFG_SIZE_LOG q) ≤ 12 → s.stopping q = false → s.dramWaits (.dma q) = false → (dmaDesc d).ok = true →
      (dmaDesc d).space = 1 → (s.mode ≠ 0 ∧ s.mode ≠ 2) → Completes (.dmaDescriptorDone q [] .abort ue) s fun t =>
      t.fld (Fld.HIF_Q_HEAD_INDEX q) = (s.fld (Fld.HIF_Q_HEAD_INDEX q) + 1) % 2 ^ s.fld (Fld.HIF_Q_CFG_SIZE_LOG q) ∧
      t.dmaJob q = none ∧ t.fld (Fld.HIF_Q_EVENT_ERR q) = 1 ∧ t.fld Fld.HIF_EVENT_Q_ERR = 1 ∧ t.fld (Fld.HIF_Q_STATUS_STATE q) = 3 ∧
      t.resp.host =
      [{ addr := s.rd64 (Reg.HIF_Q_CPL_LO q) + 16 * s.fld (Fld.HIF_Q_HEAD_INDEX q), bytes := (dmaDesc d).tag ++ leBytes 4 0 ++ [2, 3] ++ leBytes 2 (s.fld (Fld.HIF_Q_HEAD_INDEX q)) ++ [0, 0, 0, BitVec.ofNat 8 (s.fld (Fld.HIF_Q_STATUS_PHASE q))] }])
      ∧
    (∀ (q : Fin 64) (d data : List Byte) (how : HostEnd) (ue : Bool), s.dmaJob q = some d → s.d3hot = false →
      s.fld (Fld.HIF_Q_CFG_SIZE_LOG q) ≤ 12 → s.stopping q = false → (dmaDesc d).ok = false →
      Completes (.dmaDescriptorDone q data how ue) s fun t =>
      t.fld (Fld.HIF_Q_HEAD_INDEX q) = (s.fld (Fld.HIF_Q_HEAD_INDEX q) + 1) % 2 ^ s.fld (Fld.HIF_Q_CFG_SIZE_LOG q) ∧
      t.dmaJob q = none ∧ t.fld (Fld.HIF_Q_EVENT_ERR q) = 1 ∧ t.fld Fld.HIF_EVENT_Q_ERR = 1 ∧ t.fld (Fld.HIF_Q_STATUS_STATE q) = 3 ∧
      t.resp.host =
      [{ addr := s.rd64 (Reg.HIF_Q_CPL_LO q) + 16 * s.fld (Fld.HIF_Q_HEAD_INDEX q), bytes := (dmaDesc d).tag ++ leBytes 4 0 ++ [2, 1] ++ leBytes 2 (s.fld (Fld.HIF_Q_HEAD_INDEX q)) ++ [0, 0, 0, BitVec.ofNat 8 (s.fld (Fld.HIF_Q_STATUS_PHASE q))] }])
      ∧
    (∀ (q : Fin 64) (d data : List Byte) (how : HostEnd) (ue : Bool), s.dmaJob q = some d → s.d3hot = false →
      s.fld (Fld.HIF_Q_CFG_SIZE_LOG q) ≤ 12 → s.stopping q = false → (dmaDesc d).ok = true →
      (s.mode = 0 ∨ ((dmaDesc d).space = 1 ∧ s.mode = 2)) → Completes (.dmaDescriptorDone q data how ue) s fun t =>
      t.fld (Fld.HIF_Q_HEAD_INDEX q) = (s.fld (Fld.HIF_Q_HEAD_INDEX q) + 1) % 2 ^ s.fld (Fld.HIF_Q_CFG_SIZE_LOG q) ∧
      t.dmaJob q = none ∧ t.fld (Fld.HIF_Q_EVENT_ERR q) = 1 ∧ t.fld Fld.HIF_EVENT_Q_ERR = 1 ∧ t.fld (Fld.HIF_Q_STATUS_STATE q) = 3 ∧
      t.resp.host =
      [{ addr := s.rd64 (Reg.HIF_Q_CPL_LO q) + 16 * s.fld (Fld.HIF_Q_HEAD_INDEX q), bytes := (dmaDesc d).tag ++ leBytes 4 0 ++ [2, 5] ++ leBytes 2 (s.fld (Fld.HIF_Q_HEAD_INDEX q)) ++ [0, 0, 0, BitVec.ofNat 8 (s.fld (Fld.HIF_Q_STATUS_PHASE q))] }]
      ∧ t.dram = s.dram ∧ t.sram = s.sram) ∧
    (∀ (q : Fin 64) (d data : List Byte), q.val < 32 → s.dmaJob q = some d → s.d3hot = false → s.fld (Fld.HIF_Q_CFG_SIZE_LOG q) ≤ 12 →
      s.stopping q = false → s.dramWaits (.dma q) = false → (dmaDesc d).ok = true → (dmaDesc d).space = 0 → s.mode ≠ 0 →
      data.length ≤ (dmaDesc d).len → (∀ i, i < data.length → s.sramBar ((dmaDesc d).dev + i) = .free) →
      Completes (.dmaDescriptorDone q data .abort false) s fun t =>
      t.fld (Fld.HIF_Q_HEAD_INDEX q) = (s.fld (Fld.HIF_Q_HEAD_INDEX q) + 1) % 2 ^ s.fld (Fld.HIF_Q_CFG_SIZE_LOG q) ∧
      t.dmaJob q = none ∧ t.fld (Fld.HIF_Q_EVENT_ERR q) = 1 ∧ t.fld Fld.HIF_EVENT_Q_ERR = 1 ∧ t.fld (Fld.HIF_Q_STATUS_STATE q) = 3 ∧
      t.resp.host =
      [{ addr := s.rd64 (Reg.HIF_Q_CPL_LO q) + 16 * s.fld (Fld.HIF_Q_HEAD_INDEX q), bytes := (dmaDesc d).tag ++ leBytes 4 data.length ++ [2, 3] ++ leBytes 2 (s.fld (Fld.HIF_Q_HEAD_INDEX q)) ++ [0, 0, 0, BitVec.ofNat 8 (s.fld (Fld.HIF_Q_STATUS_PHASE q))] }])
      ∧
    (∀ (q : Fin 64) (d data : List Byte) (how : HostEnd), q.val < 32 → s.dmaJob q = some d → s.d3hot = false →
      s.fld (Fld.HIF_Q_CFG_SIZE_LOG q) ≤ 12 → s.stopping q = true → s.dramWaits (.dma q) = false → (dmaDesc d).ok = true →
      (dmaDesc d).space = 0 → s.mode ≠ 0 → data.length ≤ s.dmaIssued q (dmaDesc d) → (∀ i, i < data.length →
      s.sramBar ((dmaDesc d).dev + i) = .free) → Completes (.dmaDescriptorDone q data how false) s fun t =>
      (List.range data.length).map (fun i => t.sramByte ((dmaDesc d).dev + i)) = data ∧
      t.fld (Fld.HIF_Q_HEAD_INDEX q) = (s.fld (Fld.HIF_Q_HEAD_INDEX q) + 1) % 2 ^ s.fld (Fld.HIF_Q_CFG_SIZE_LOG q) ∧
      t.dmaJob q = none ∧ t.fld (Fld.HIF_Q_EVENT_ERR q) = 1 ∧ t.fld Fld.HIF_EVENT_Q_ERR = 1 ∧ t.fld (Fld.HIF_Q_STATUS_STATE q) = 0 ∧
      t.stopping q = false ∧
      t.resp.host =
      [{ addr := s.rd64 (Reg.HIF_Q_CPL_LO q) + 16 * s.fld (Fld.HIF_Q_HEAD_INDEX q), bytes := (dmaDesc d).tag ++ leBytes 4 data.length ++ [2, 6] ++ leBytes 2 (s.fld (Fld.HIF_Q_HEAD_INDEX q)) ++ [0, 0, 0, BitVec.ofNat 8 (s.fld (Fld.HIF_Q_STATUS_PHASE q))] }])
      ∧
    (∀ (q : Fin 64) (d : List Byte) (how : HostEnd) (ue : Bool), s.dmaJob q = some d → s.d3hot = false →
      s.fld (Fld.HIF_Q_CFG_SIZE_LOG q) ≤ 12 → s.stopping q = true → Completes (.dmaDescriptorDone q [] how ue) s fun t =>
      t.fld (Fld.HIF_Q_HEAD_INDEX q) = (s.fld (Fld.HIF_Q_HEAD_INDEX q) + 1) % 2 ^ s.fld (Fld.HIF_Q_CFG_SIZE_LOG q) ∧
      t.dmaJob q = none ∧ t.fld (Fld.HIF_Q_EVENT_ERR q) = 1 ∧ t.fld Fld.HIF_EVENT_Q_ERR = 1 ∧ t.fld (Fld.HIF_Q_STATUS_STATE q) = 0 ∧
      t.resp.host =
      [{ addr := s.rd64 (Reg.HIF_Q_CPL_LO q) + 16 * s.fld (Fld.HIF_Q_HEAD_INDEX q), bytes := (dmaDesc d).tag ++ leBytes 4 0 ++ [2, 6] ++ leBytes 2 (s.fld (Fld.HIF_Q_HEAD_INDEX q)) ++ [0, 0, 0, BitVec.ofNat 8 (s.fld (Fld.HIF_Q_STATUS_PHASE q))] }]
      ∧ t.sram = s.sram ∧ t.dram = s.dram) ∧
    (∀ (q : Fin 64) (d data : List Byte) (how : HostEnd) (ue : Bool), s.dmaJob q = none ∨ s.d3hot = true →
      Completes (.dmaDescriptorDone q data how ue) s fun t => t = s) ∧
    (∀ (p : Path) (q : Fin 64) (v : Word), s.accepts p (Reg.HIF_Q_CFG q) = true → Completes (.dmaQueueDisable p q v) s fun t =>
      t.bit (Fld.HIF_Q_CFG_EN q) = false ∧ (s.bit (Fld.HIF_Q_CFG_EN q) = true → s.fld (Fld.HIF_Q_STATUS_STATE q) ≠ 3 →
      s.dmaJob q = none → t.fld (Fld.HIF_Q_STATUS_STATE q) = 0) ∧ (s.dmaJob q ≠ none →
      t.fld (Fld.HIF_Q_STATUS_STATE q) = s.fld (Fld.HIF_Q_STATUS_STATE q) ∧
      (s.bit (Fld.HIF_Q_CFG_EN q) = true → t.stopping q = true))) ∧
    (∀ (p : Path) (q : Fin 64) (v : Word), s.accepts p (Reg.HIF_Q_CTL q) = true → v.getLsbD 0 = true →
      s.fld (Fld.HIF_Q_STATUS_STATE q) ≠ 1 → Completes (.dmaQueueReset p q v) s fun t => t.fld (Fld.HIF_Q_HEAD_INDEX q) = 0 ∧
      t.fld (Fld.HIF_Q_STATUS_PHASE q) = 1 ∧ t.fld (Fld.HIF_Q_STATUS_STATE q) = 0 ∧
      OnlyRegs [Reg.HIF_Q_HEAD q, Reg.HIF_Q_STATUS q] s t) ∧
    (∀ (p : Path) (q : Fin 64) (v : Word), s.accepts p (Reg.HIF_Q_CTL q) = true →
      v.getLsbD 0 = false ∨ s.fld (Fld.HIF_Q_STATUS_STATE q) = 1 → Completes (.dmaQueueReset p q v) s fun t => t.regs = s.regs) ∧
    (∀ (p : Path) (q : Fin 64) (v : Word), s.accepts p (Reg.HIF_Q_LIMIT q) = true → Completes (.qLimitWrite p q v) s fun t =>
      t.rd (Reg.HIF_Q_LIMIT q) = v ∧ OnlyRegs [Reg.HIF_Q_LIMIT q] s t)

/-- Interrupts (R398 to R401, R381) and the SMBus target (R37, R402 to R404), the read of a monitor ADC's result (R467), and once
more the link, window and queue commands (R379 to R393): an armed vector that the tick begins with at level 1 disarms and sends
its message, or becomes pending while masked or in D3hot; SMBus reads all but the SEC block, writes the mailbox and requests
STOP or DORMANT in M3 to M6, and is refused all else; each link, window and queue command here completes with its own effect.
The function mask is what MSIX_SEND and MSIX_UNMASK say (log entry 99), the turn of DMA_DESCRIPTOR_START is the model's by log
entry 138, and the PEC bytes are by log entry 152. -/
def Obligations.InterruptsAndSmbus : Prop :=
  ∀ (s : State), s.Wf →
    (∀ (v : Fin 512) (fmask : Bool), s.startLevel v = true → s.bit (vecField Reg.HIF_VEC_REARM v) = true →
      (sget (fun _ => 0) s.wrOne (Reg.HIF_VEC_REARM (v.val / 32)) = 0) → fmask = false → s.vecMasked v = false → s.d3hot = false →
      Completes (.msixSend v fmask) s fun t => t.fld (vecField Reg.HIF_VEC_REARM v) = 0 ∧ t.resp.host = [s.vecMessage v] ∧
      OnlyRegs [Reg.HIF_VEC_REARM (v.val / 32)] s t) ∧
    (∀ (v : Fin 512) (fmask : Bool), s.startLevel v = true → s.bit (vecField Reg.HIF_VEC_REARM v) = true →
      (sget (fun _ => 0) s.wrOne (Reg.HIF_VEC_REARM (v.val / 32)) = 0) → fmask = true ∨ s.vecMasked v = true ∨ s.d3hot = true →
      Completes (.msixSend v fmask) s fun t => t.fld (vecField Reg.HIF_VEC_REARM v) = 0 ∧ t.fld (vecField Reg.HIF_MSIX_PBA v) = 1 ∧
      t.resp = s.resp ∧ t.hif.funcMask = fmask) ∧
    (∀ (v : Fin 512) (fmask : Bool), s.startLevel v = false ∨ s.bit (vecField Reg.HIF_VEC_REARM v) = false →
      Completes (.msixSend v fmask) s fun t => t.regs = s.regs ∧ t.resp = s.resp ∧ t.hif = { s.hif with funcMask := fmask }) ∧
    (∀ (p : Path) (w : Fin 16) (v : Word), s.accepts p (Reg.HIF_VEC_REARM w) = true → Completes (.vecRearm p w v) s fun t =>
      t.rd (Reg.HIF_VEC_REARM w) = s.rd (Reg.HIF_VEC_REARM w) ||| v ∧ OnlyRegs [Reg.HIF_VEC_REARM w] s t) ∧
    (∀ (v : Fin 512), s.bit (vecField Reg.HIF_MSIX_PBA v) = true → s.d3hot = false → s.hif.funcMask = false →
      Completes (.msixUnmask (some v)) s fun t => t.fld (vecField Reg.HIF_MSIX_PBA v) = 0 ∧ t.vecMasked v = false ∧
      t.resp.host = [s.vecMessage v]) ∧
    (∀ (v : Fin 512), s.hif.funcMask = true → Completes (.msixUnmask (some v)) s fun t => t.vecMasked v = false ∧ t.resp.host = [] ∧
      OnlyRegs [Reg.HIF_MSIX_TABLE v 3] s t) ∧
    (s.d3hot = false → Completes (.msixUnmask none) s fun t => t.hif.funcMask = false ∧
      (∀ v : Fin 512, s.bit (vecField Reg.HIF_MSIX_PBA v) = true → s.vecMasked v = false → t.fld (vecField Reg.HIF_MSIX_PBA v) = 0 ∧
      s.vecMessage v ∈ t.resp.host)) ∧
    (s.d3hot = true → s.hif.funcMask = false → Completes .d0Return s fun t => t.fld Fld.HIF_LINK_STATUS_DSTATE = 0 ∧
      (∀ v : Fin 512, s.bit (vecField Reg.HIF_MSIX_PBA v) = true → s.vecMasked v = false → t.fld (vecField Reg.HIF_MSIX_PBA v) = 0 ∧
      s.vecMessage v ∈ t.resp.host)) ∧
    (∀ (addr : BitVec 7) (off : BitVec 32) (d : RegDesc), s.glb.released = true → addr.toNat = 0x58 + s.hif.smbAddr →
      off.toNat % 4 = 0 → off.toNat < 2 ^ 26 → inSec off.toNat = false → regDesc off.toNat = some d → d.half = .none →
      elem off.toNat (Reg.SUP_MADC_RESULT 0) 0x10 2 = none → off.toNat ≠ Reg.TLN_REEL_FRAC → Completes (.smbRead addr off) s fun t =>
      t.resp = ⟨.ok, s.live off.toNat, withPec ([2 * s.smbTarget, 0x10, 4] ++ bytes32 off ++ [2 * s.smbTarget + 1, 5])
      (leBytes 4 (s.live off.toNat).toNat ++ [0]), [], []⟩ ∧ t.regs = s.regs) ∧
    (∀ (addr : BitVec 7) (off : BitVec 32), s.glb.released = true → addr.toNat = 0x58 + s.hif.smbAddr → off.toNat % 4 = 0 →
      off.toNat < 2 ^ 26 → inSec off.toNat = false → regDesc off.toNat = none → elem off.toNat (Reg.SUP_MADC_RESULT 0) 0x10 2 = none →
      Completes (.smbRead addr off) s fun t =>
      t.resp = ⟨.ok, (0 : Word), withPec ([2 * s.smbTarget, 0x10, 4] ++ bytes32 off ++ [2 * s.smbTarget + 1, 5])
      (leBytes 4 (0 : Word).toNat ++ [0]), [], []⟩ ∧ t.regs = s.regs) ∧
    (∀ (addr : BitVec 7) (off : BitVec 32) (d : RegDesc), s.glb.released = true → addr.toNat = 0x58 + s.hif.smbAddr →
      off.toNat % 4 = 0 → off.toNat < 2 ^ 26 → inSec off.toNat = false → regDesc off.toNat = some d → d.half = .lo →
      elem off.toNat (Reg.SUP_MADC_RESULT 0) 0x10 2 = none → Completes (.smbRead addr off) s fun t =>
      t.resp = ⟨.ok, (s.live off.toNat), withPec ([2 * s.smbTarget, 0x10, 4] ++ bytes32 off ++ [2 * s.smbTarget + 1, 5])
      (leBytes 4 (s.live off.toNat).toNat ++ [0]), [], []⟩ ∧ t.regs = s.regs ∧
      sget (fun _ => none) t.heldRd (pairKey .smbus off.toNat) = some (s.live (off.toNat + 4)) ∧ (off.toNat = Reg.TLN_REEL_NS_LO →
      sget (fun _ => none) t.heldRd (pairKey .smbus Reg.TLN_REEL_FRAC) = some (s.live Reg.TLN_REEL_FRAC))) ∧
    (∀ (addr : BitVec 7) (off : BitVec 32) (d : RegDesc), s.glb.released = true → addr.toNat = 0x58 + s.hif.smbAddr →
      off.toNat % 4 = 0 → off.toNat < 2 ^ 26 → inSec off.toNat = false → regDesc off.toNat = some d → d.half = .hi →
      elem off.toNat (Reg.SUP_MADC_RESULT 0) 0x10 2 = none → Completes (.smbRead addr off) s fun t =>
      t.resp = ⟨.ok, ((sget (fun _ => none) s.heldRd (pairKey .smbus (off.toNat - 4))).getD (s.live off.toNat)), withPec
      ([2 * s.smbTarget, 0x10, 4] ++ bytes32 off ++ [2 * s.smbTarget + 1, 5]) (leBytes 4 ((sget (fun _ => none) s.heldRd
      (pairKey .smbus (off.toNat - 4))).getD (s.live off.toNat)).toNat ++ [0]), [], []⟩ ∧ t.regs = s.regs ∧
      sget (fun _ => none) t.heldRd (pairKey .smbus (off.toNat - 4)) = none) ∧
    (∀ (addr : BitVec 7) (off : BitVec 32), s.glb.released = true → addr.toNat = 0x58 + s.hif.smbAddr → off.toNat % 4 = 0 →
      off.toNat < 2 ^ 26 → off.toNat = Reg.TLN_REEL_FRAC → Completes (.smbRead addr off) s fun t =>
      t.resp = ⟨.ok, ((sget (fun _ => none) s.heldRd (pairKey .smbus off.toNat)).getD (s.live off.toNat)), withPec
      ([2 * s.smbTarget, 0x10, 4] ++ bytes32 off ++ [2 * s.smbTarget + 1, 5]) (leBytes 4
      ((sget (fun _ => none) s.heldRd (pairKey .smbus off.toNat)).getD (s.live off.toNat)).toNat ++ [0]), [], []⟩ ∧ t.regs = s.regs ∧
      sget (fun _ => none) t.heldRd (pairKey .smbus off.toNat) = none) ∧
    (∀ (addr : BitVec 7) (off : BitVec 32) (x : Fin 2), s.glb.released = true → addr.toNat = 0x58 + s.hif.smbAddr →
      off.toNat % 4 = 0 → off.toNat < 2 ^ 26 → off.toNat = Reg.SUP_MADC_RESULT x → Completes (.smbRead addr off) s fun t =>
      t.resp = ⟨.ok, (s.live off.toNat), withPec ([2 * s.smbTarget, 0x10, 4] ++ bytes32 off ++ [2 * s.smbTarget + 1, 5])
      (leBytes 4 (s.live off.toNat).toNat ++ [0]), [], []⟩ ∧ t.fld (Fld.SUP_MADC_RESULT_VALID x) = 0 ∧
      OnlyRegs [Reg.SUP_MADC_RESULT x] s t) ∧
    (∀ (addr : BitVec 7) (off : BitVec 32), s.glb.released = true → addr.toNat = 0x58 + s.hif.smbAddr → off.toNat % 4 = 0 →
      off.toNat < 2 ^ 26 → inSec off.toNat = true → Completes (.smbRead addr off) s fun t => t.resp.bytes.take 5 = [0, 0, 0, 0, 1] ∧
      t.fld Fld.HIF_EVENT_SMB_REFUSED = 1 ∧ OnlyRegs [Reg.HIF_EVENT] s t) ∧
    (∀ (addr : BitVec 7) (off : BitVec 32), s.glb.released = true → addr.toNat = 0x58 + s.hif.smbAddr →
      off.toNat % 4 ≠ 0 ∨ 2 ^ 26 ≤ off.toNat → Completes (.smbRead addr off) s fun t => t.resp.bytes.getD 4 0 = 2 ∧ t.regs = s.regs) ∧
    (∀ (addr : BitVec 7) (off : BitVec 32), addr.toNat ≠ 0x58 + s.hif.smbAddr → Completes (.smbRead addr off) s fun t => t = s) ∧
    (∀ (addr : BitVec 7) (off : BitVec 32) (v : Word), s.glb.released = true → addr.toNat = 0x58 + s.hif.smbAddr → off.toNat % 4 = 0 →
      off.toNat < 2 ^ 26 → off.toNat = Reg.HIF_SMB_MBOX_IN → s.checkBlocks Reg.HIF_SMB_MBOX_IN = false →
      Completes (.smbWrite addr off v none) s fun t => t.rd Reg.HIF_SMB_MBOX_IN = v ∧ t.fld Fld.HIF_EVENT_SMB_MBOX = 1 ∧
      t.hif.smbStatus = 0 ∧ OnlyRegs [Reg.HIF_SMB_MBOX_IN, Reg.HIF_EVENT] s t) ∧
    (∀ (addr : BitVec 7) (off : BitVec 32) (v : Word) (pec : Byte), s.glb.released = true → addr.toNat = 0x58 + s.hif.smbAddr →
      off.toNat % 4 = 0 → off.toNat < 2 ^ 26 → off.toNat = Reg.HIF_SMB_MBOX_IN → s.checkBlocks Reg.HIF_SMB_MBOX_IN = false →
      pec.toNat = pecOf ([2 * addr.toNat, 0x11, 8] ++ bytes32 off ++ bytes32 v) →
      Completes (.smbWrite addr off v (some pec)) s fun t => t.rd Reg.HIF_SMB_MBOX_IN = v ∧ t.fld Fld.HIF_EVENT_SMB_MBOX = 1 ∧
      t.hif.smbStatus = 0 ∧ OnlyRegs [Reg.HIF_SMB_MBOX_IN, Reg.HIF_EVENT] s t) ∧
    (∀ (addr : BitVec 7) (off : BitVec 32) (v : Word) (pec : Byte), pec.toNat ≠ pecOf
      ([2 * addr.toNat, 0x11, 8] ++ bytes32 off ++ bytes32 v) → Completes (.smbWrite addr off v (some pec)) s fun t => t = s) ∧
    (∀ (addr : BitVec 7) (off : BitVec 32) (v : Word), s.glb.released = true → addr.toNat = 0x58 + s.hif.smbAddr → off.toNat % 4 = 0 →
      off.toNat < 2 ^ 26 → off.toNat = Reg.GLB_MODE_CTL → (3 ≤ s.mode ∧ s.mode ≤ 6) →
      fieldGet v Fld.GLB_MODE_CTL_REQ = 4 ∨ fieldGet v Fld.GLB_MODE_CTL_REQ = 5 → Completes (.smbWrite addr off v none) s fun t =>
      t.hif.smbStatus = 0 ∧ t.resp.status = .ok ∧ t.fld Fld.GLB_MODE_STATUS_LAST_REQ = fieldGet v Fld.GLB_MODE_CTL_REQ ∧
      (fieldGet v Fld.GLB_MODE_CTL_KEY ≠ 0xA5 → t.fld Fld.GLB_MODE_STATUS_REQ_RESULT = 7 ∧ t.mode = s.mode)) ∧
    (∀ (addr : BitVec 7) (off : BitVec 32) (v : Word), s.glb.released = true → addr.toNat = 0x58 + s.hif.smbAddr → off.toNat % 4 = 0 →
      off.toNat < 2 ^ 26 → off.toNat = Reg.GLB_MODE_CTL → (s.mode = 5 ∨ (s.mode = 6 ∧ s.glb.m6Stopped = false)) →
      fieldGet v Fld.GLB_MODE_CTL_REQ = 4 → fieldGet v Fld.GLB_MODE_CTL_KEY = 0xA5 → fieldGet v Fld.GLB_MODE_CTL_RUN = 0 →
      s.modeBusy = false → s.glb.tripTick ≠ some s.tick → Completes (.smbWrite addr off v none) s fun t => t.hif.smbStatus = 0 ∧
      t.glb.stopping = true ∧ t.glb.stopTick = some s.tick ∧ t.fld Fld.GLB_MODE_STATUS_REQ_RESULT = 1 ∧ t.mode = s.mode) ∧
    (∀ (addr : BitVec 7) (off : BitVec 32) (v : Word), s.glb.released = true → addr.toNat = 0x58 + s.hif.smbAddr → off.toNat % 4 = 0 →
      off.toNat < 2 ^ 26 → off.toNat = Reg.GLB_MODE_CTL → (s.mode = 3 ∨ (s.mode = 4 ∧ s.biasOn = false)) →
      fieldGet v Fld.GLB_MODE_CTL_REQ = 5 → fieldGet v Fld.GLB_MODE_CTL_KEY = 0xA5 → fieldGet v Fld.GLB_MODE_CTL_RUN = 0 →
      s.modeBusy = false → s.glb.tripTick ≠ some s.tick → Completes (.smbWrite addr off v none) s fun t => t.hif.smbStatus = 0 ∧
      t.mode = 2 ∧ t.fld Fld.GLB_MODE_STATUS_REQ_RESULT = 2 ∧ t.fld Fld.GLB_MODE_STATUS_PREV_MODE = s.mode) ∧
    (∀ (addr : BitVec 7) (off : BitVec 32) (v : Word), s.glb.released = true → addr.toNat = 0x58 + s.hif.smbAddr → off.toNat % 4 = 0 →
      off.toNat < 2 ^ 26 → off.toNat = Reg.GLB_MODE_CTL → ((s.mode = 3 ∨ s.mode = 4) ∧
      fieldGet v Fld.GLB_MODE_CTL_REQ = 4 ∨ (s.mode = 5 ∨ s.mode = 6) ∧ fieldGet v Fld.GLB_MODE_CTL_REQ = 5) →
      fieldGet v Fld.GLB_MODE_CTL_KEY = 0xA5 → fieldGet v Fld.GLB_MODE_CTL_RUN = 0 → s.modeBusy = false →
      s.glb.tripTick ≠ some s.tick → Completes (.smbWrite addr off v none) s fun t => t.hif.smbStatus = 0 ∧ t.mode = s.mode ∧
      t.fld Fld.GLB_MODE_STATUS_REQ_RESULT = 3) ∧
    (∀ (addr : BitVec 7) (off : BitVec 32) (v : Word), s.glb.released = true → addr.toNat = 0x58 + s.hif.smbAddr → off.toNat % 4 = 0 →
      off.toNat < 2 ^ 26 → off.toNat ≠ Reg.HIF_SMB_MBOX_IN → (off.toNat = Reg.GLB_MODE_CTL →
      s.mode < 3 ∨ s.mode = 7 ∨ (fieldGet v Fld.GLB_MODE_CTL_REQ ≠ 4 ∧ fieldGet v Fld.GLB_MODE_CTL_REQ ≠ 5)) →
      Completes (.smbWrite addr off v none) s fun t => t.hif.smbStatus = 1 ∧ t.fld Fld.HIF_EVENT_SMB_REFUSED = 1 ∧
      OnlyRegs [Reg.HIF_EVENT] s t) ∧
    (∀ (addr : BitVec 7) (off : BitVec 32) (v : Word), s.glb.released = true → addr.toNat = 0x58 + s.hif.smbAddr →
      off.toNat % 4 ≠ 0 ∨ 2 ^ 26 ≤ off.toNat → Completes (.smbWrite addr off v none) s fun t => t.hif.smbStatus = 2 ∧
      t.regs = s.regs) ∧
    (∀ (addr : BitVec 7), s.glb.released = true → addr.toNat = 0x58 + s.hif.smbAddr → Completes (.smbStatus addr) s fun t =>
      t.resp = ⟨.ok, 0, withPec [2 * s.smbTarget, 0x12, 2 * s.smbTarget + 1] [BitVec.ofNat 8 s.hif.smbStatus], [], []⟩ ∧
      t.regs = s.regs) ∧
    (∀ (path : Path) (x : Fin 2), s.mayRead path (Reg.SUP_MADC_RESULT x) = true → Completes (.madcResultRead path x) s fun t =>
      t.resp = ⟨.ok, s.live (Reg.SUP_MADC_RESULT x), [], [], []⟩ ∧ t.fld (Fld.SUP_MADC_RESULT_VALID x) = 0 ∧
      OnlyRegs [Reg.SUP_MADC_RESULT x] s t) ∧
    (∀ (up : Bool) (speed : BitVec 3) (width : BitVec 5) (flit : Bool), Completes (.linkChg up speed width flit) s fun t =>
      t.fld Fld.HIF_LINK_STATUS_UP = b2n up ∧ t.fld Fld.HIF_LINK_STATUS_SPEED = speed.toNat ∧
      t.fld Fld.HIF_LINK_STATUS_WIDTH = width.toNat ∧ t.fld Fld.HIF_LINK_STATUS_FLIT = b2n flit ∧
      ((s.fld Fld.HIF_LINK_STATUS_UP, s.fld Fld.HIF_LINK_STATUS_SPEED, s.fld Fld.HIF_LINK_STATUS_WIDTH) ≠
      (b2n up, speed.toNat, width.toNat) → t.fld Fld.HIF_EVENT_LINK_CHG = 1) ∧ OnlyRegs [Reg.HIF_LINK_STATUS, Reg.HIF_EVENT] s t) ∧
    (Completes .functionLevelReset s fun t => (∀ off, 0x10000 ≤ off → off < 0x20000 → t.rd off = regReset off) ∧
      (∀ q : Fin 64, t.dmaJob q = none ∧ t.dramWaits (.dma q) = false) ∧ t.d3hot = false ∧ t.hif.bar4Log = 30 ∧
      t.hif.funcMask = false ∧ t.mode = s.mode ∧ t.sram = s.sram ∧ t.dram = s.dram) ∧
    (Completes .d3hotEntry s fun t => t.fld Fld.HIF_LINK_STATUS_DSTATE = 3 ∧ OnlyRegs [Reg.HIF_LINK_STATUS] s t) ∧
    (∀ (off : Fin 0x4000000) (n : Nat), s.mode ≠ 0 → (∀ w ∈ s.mem.badSram, 16 * w + 16 ≤ off.val ∨ off.val + n ≤ 16 * w) →
      Completes (.bar2Access off (.read n) false) s fun t => t.resp.bytes = (List.range n).map (fun i =>
      if s.sramHidden (off.val + i) || decide (sramSize ≤ off.val + i) then 0 else s.sramByte (off.val + i)) ∧ t.resp.status = .ok ∧
      t.sram = s.sram ∧ (s.masks = false → t.regs = s.regs)) ∧
    (∀ (x : Fin 0x2000000000) (n : Nat) (ue : Bool), x.val < 2 ^ s.hif.bar4Log → (s.mode ≠ 0 ∧ s.mode ≠ 2) →
      Completes (.bar4Access x (.read n) ue none) s fun t =>
      t.mem.held = s.mem.held ++ [(s.mem.seq, .read (s.fld Fld.HIF_BAR4_WIN_WIN % 2 ^ (37 - s.hif.bar4Log) * 2 ^ s.hif.bar4Log +
      x.val) n ue)] ∧ (n ≠ 0 → t.dramWaits (.host s.mem.seq) = true) ∧ t.resp.bytes = [] ∧ t.dram = s.dram ∧ t.regs = s.regs) ∧
    (∀ (p : Path) (q : Fin 64) (v : Word), s.accepts p (Reg.HIF_Q_TAIL q) = true →
      v.toNat % 4096 < 2 ^ s.fld (Fld.HIF_Q_CFG_SIZE_LOG q) → Completes (.dmaDoorbell p q v) s fun t =>
      t.fld (Fld.HIF_Q_TAIL_INDEX q) = v.toNat % 4096 ∧ (s.bit (Fld.HIF_Q_CFG_EN q) = true → s.fld (Fld.HIF_Q_STATUS_STATE q) = 2 →
      v.toNat % 4096 ≠ s.fld (Fld.HIF_Q_HEAD_INDEX q) → t.fld (Fld.HIF_Q_STATUS_STATE q) = 1)) ∧
    (∀ (q : Fin 64) (desc : List Byte) (n : Nat), s.mayStartDma q = true → desc.length = 32 →
      (∀ r : Fin 64, s.hostRefillReady r = false) → s.hif.turn = (q.val, n + 1) → Completes (.dmaDescriptorStart q desc) s fun t =>
      t.dmaJob q = some desc ∧ t.hif.turn = (q.val, n) ∧ t.regs = s.regs ∧ ((dmaDesc desc).ok = true →
      t.dataLeft q = ((dmaDesc desc).len + dataChunk q - 1) / dataChunk q ∧
      ((dmaDesc desc).space = 1 → t.dramWaits (.dma q) = true))) ∧
    (∀ (q : Fin 64) (d data : List Byte), q.val < 32 → s.dmaJob q = some d → s.d3hot = false → s.fld (Fld.HIF_Q_CFG_SIZE_LOG q) ≤ 12 →
      s.stopping q = false → s.dataLeft q = 0 → s.dramWaits (.dma q) = false → (dmaDesc d).ok = true → (dmaDesc d).space = 0 →
      s.mode ≠ 0 → data.length = (dmaDesc d).len → (∀ i, i < data.length → s.sramBar ((dmaDesc d).dev + i) = .free) →
      Completes (.dmaDescriptorDone q data .ok false) s fun t =>
      (List.range data.length).map (fun i => t.sramByte ((dmaDesc d).dev + i)) = data ∧
      t.fld (Fld.HIF_Q_HEAD_INDEX q) = (s.fld (Fld.HIF_Q_HEAD_INDEX q) + 1) % 2 ^ s.fld (Fld.HIF_Q_CFG_SIZE_LOG q) ∧
      t.dmaJob q = none ∧ (bitOf (dmaDesc d).flags 1 = true → t.fld (Fld.HIF_Q_EVENT_DONE q) = 1) ∧
      t.resp.host = (if bitOf (dmaDesc d).flags 0 = true then
      [{ addr := s.rd64 (Reg.HIF_Q_CPL_LO q) + 16 * s.fld (Fld.HIF_Q_HEAD_INDEX q), bytes := (dmaDesc d).tag ++ leBytes 4 (dmaDesc d).len ++ [1, 0] ++ leBytes 2 (s.fld (Fld.HIF_Q_HEAD_INDEX q)) ++ [0, 0, 0, BitVec.ofNat 8 (s.fld (Fld.HIF_Q_STATUS_PHASE q))] }]
      else [])) ∧
    (∀ (p : Path) (q : Fin 64) (v : Word), s.accepts p (Reg.HIF_Q_CFG q) = true → Completes (.dmaQueueDisable p q v) s fun t =>
      t.bit (Fld.HIF_Q_CFG_EN q) = false ∧ (s.bit (Fld.HIF_Q_CFG_EN q) = true → s.fld (Fld.HIF_Q_STATUS_STATE q) ≠ 3 →
      s.dmaJob q = none → t.fld (Fld.HIF_Q_STATUS_STATE q) = 0) ∧ (s.dmaJob q ≠ none →
      t.fld (Fld.HIF_Q_STATUS_STATE q) = s.fld (Fld.HIF_Q_STATUS_STATE q) ∧
      (s.bit (Fld.HIF_Q_CFG_EN q) = true → t.stopping q = true))) ∧
    (∀ (p : Path) (q : Fin 64) (v : Word), s.accepts p (Reg.HIF_Q_CTL q) = true → v.getLsbD 0 = true →
      s.fld (Fld.HIF_Q_STATUS_STATE q) ≠ 1 → Completes (.dmaQueueReset p q v) s fun t => t.fld (Fld.HIF_Q_HEAD_INDEX q) = 0 ∧
      t.fld (Fld.HIF_Q_STATUS_PHASE q) = 1 ∧ t.fld (Fld.HIF_Q_STATUS_STATE q) = 0 ∧
      OnlyRegs [Reg.HIF_Q_HEAD q, Reg.HIF_Q_STATUS q] s t) ∧
    (∀ (p : Path) (q : Fin 64) (v : Word), s.accepts p (Reg.HIF_Q_LIMIT q) = true → Completes (.qLimitWrite p q v) s fun t =>
      t.rd (Reg.HIF_Q_LIMIT q) = v ∧ OnlyRegs [Reg.HIF_Q_LIMIT q] s t)

/-- Loading and authority (R407 to R437): GO begins a load in M1; a load that its checks pass is applied and enters M2 with the
image's SVN, policy and confidentiality, one that fails them records its code and section and clears the configuration; SEC_CMD
provisions, releases the key, draws challenges, judges SUBMITs, relocks and takes snapshots; an accepted command unlocks to its
capped level, retires, revokes or advances the floor. An idle SEC_CMD only: that one in progress keeps a new one from acting is
the model's choice (log entry 42). -/
def Obligations.LoadAndSecurity : Prop :=
  ∀ (s : State), s.Wf →
    (∀ (path : Path), s.accepts path Reg.SEC_LOAD_CTL = true → s.mode = 1 → s.sec.loading = false →
      Completes (.loadGo path) s fun t => t.sec.loading = true ∧ t.sec.loadSrc = s.rd64 Reg.SEC_LOAD_SRC_LO % dramSize / 4096 * 4096 ∧
      t.rd Reg.SEC_LOAD_STATUS = 1 ∧ (s.bit Fld.MEM_STATUS_DRAM_READY = true →
      t.sec.image = some (t.sec.loadSrc, min (s.dramNat (t.sec.loadSrc + 8) 8) (2 ^ 30) + 96)) ∧ OnlyRegs [Reg.SEC_LOAD_STATUS] s t) ∧
    (∀ (path : Path), s.accepts path Reg.SEC_LOAD_CTL = true → s.mode ≠ 1 ∨ s.sec.loading = true → Completes (.loadGo path) s fun t =>
      t.regs = s.regs ∧ t.sec = s.sec) ∧
    (s.loaderRuns = true → (runLoad s).1.1.1 = 0 → Completes .loadOk s fun t => t.mode = 2 ∧ t.fld Fld.SEC_LOAD_STATUS_STATE = 3 ∧
      t.fld Fld.SEC_STATUS_TAINT = 0 ∧ t.fld Fld.SEC_STATUS_SVN = s.dramNat (s.sec.loadSrc + 20) 4 % 64 ∧
      t.fld Fld.SEC_STATUS_CONFIDENTIAL = s.dramNat (s.sec.loadSrc + 6) 2 % 2 ∧
      t.fld Fld.SEC_STATUS_DBG_CAP = ((runLoad s).1.2.policy.getD (3, 0)).1 % 4 ∧
      t.fld Fld.SEC_STATUS_SEALED = ((runLoad s).1.2.policy.getD (3, 0)).2 % 2 ∧ t.fld (secEvent 0) = 1 ∧
      t.fld Fld.GLB_MODE_STATUS_CFG_VALID = 1 ∧ t.sec.loaded = true ∧ t.sec.loading = false ∧ t.sec.image = none ∧
      t.sec.role = (runLoad s).1.2.role ∧ t.sram = (runLoad s).2.sram ∧ t.dram = (runLoad s).2.dram) ∧
    (s.loaderRuns = true → (runLoad s).1.1.1 ≠ 0 → Completes .loadOk s fun t => t = s) ∧
    (s.loaderRuns = false → Completes .loadOk s fun t => t = s) ∧
    (s.loaderRuns = true → (runLoad s).1.1.1 ≠ 0 → Completes (.loadFail none) s fun t => t.sec.loading = false ∧ t.sec.image = none ∧
      t.fld Fld.SEC_LOAD_STATUS_STATE = 0 ∧ t.fld Fld.SEC_LOAD_STATUS_ERR = (runLoad s).1.1.1 ∧
      t.fld Fld.SEC_LOAD_STATUS_SECTION = min (runLoad s).1.1.2 0xFFFF ∧ t.fld (secEvent 1) = 1 ∧ t.glb.clearing = true ∧
      t.mode = s.mode) ∧
    (s.loaderRuns = true → (runLoad s).1.1.1 = 0 → Completes (.loadFail none) s fun t => t = s) ∧
    (∀ (a : BitVec 37), s.loaderRuns = true → (s.sec.loadSrc ≤ a.toNat ∧ a.toNat < s.sec.loadSrc + 224) →
      Completes (.loadFail (some a)) s fun t => t.sec.loading = false ∧ t.sec.image = none ∧ t.fld Fld.SEC_LOAD_STATUS_STATE = 0 ∧
      t.fld Fld.SEC_LOAD_STATUS_ERR = 16 ∧ t.fld (secEvent 1) = 1 ∧ t.fld Fld.MEM_EVENT_DRAM_UE = 1 ∧ t.glb.clearing = true) ∧
    (∀ (ue : Option (BitVec 37)), s.loaderRuns = false → Completes (.loadFail ue) s fun t => t = s) ∧
    (∀ (path : Path) (arg : BitVec 16), s.accepts path Reg.SEC_CMD = true → s.bit Fld.SEC_CMD_STATUS_BUSY = false → s.blank = true →
      s.mode = 0 → (1 ≤ arg.toNat % 8 ∧ arg.toNat % 8 ≤ 4) → (∀ i : Fin 4, i.val < arg.toNat % 8 → i.val < s.sec.slots.length →
      s.secBuf (12 * i.val) 12 = s.sec.slots.getD i []) → Completes (.provision path arg) s fun t =>
      t.fld Fld.SEC_CMD_STATUS_LAST_OP = 1 ∧ t.fld Fld.SEC_CMD_STATUS_RESULT = 0 ∧ t.fld Fld.SEC_CMD_STATUS_BUSY = 1 ∧
      t.sec.prov = some ((List.range (arg.toNat % 8)).map (fun i => s.secBuf (12 * i) 12), arg.toNat / 256 % 64) ∧
      OnlyRegs [Reg.SEC_CMD_STATUS] s t) ∧
    (∀ (path : Path) (arg : BitVec 16), s.accepts path Reg.SEC_CMD = true → s.bit Fld.SEC_CMD_STATUS_BUSY = false →
      s.blank = false ∨ s.mode ≠ 0 ∨ arg.toNat % 8 = 0 ∨ 4 < arg.toNat % 8 → Completes (.provision path arg) s fun t =>
      t.fld Fld.SEC_CMD_STATUS_LAST_OP = 1 ∧ t.fld Fld.SEC_CMD_STATUS_RESULT = 2 ∧ t.fld Fld.SEC_CMD_STATUS_BUSY = 0 ∧ t.sec = s.sec ∧
      OnlyRegs [Reg.SEC_CMD_STATUS] s t) ∧
    (∀ (hs : List (List Byte)) (svn : Nat), s.sec.prov = some (hs, svn) → Completes .provisionDone s fun t =>
      t.sec.slots = s.sec.slots ++ hs.drop s.sec.slots.length ∧ t.sec.lcs = 1 ∧ t.fld Fld.SEC_STATUS_LCS = 1 ∧
      t.fld Fld.SEC_STATUS_LEVEL = 0 ∧ t.sec.minSvn = svn ∧ t.fld Fld.SEC_STATUS_MIN_SVN = svn % 64 ∧ t.sec.kek.isSome = true ∧
      t.sec.kekReadable = true ∧ t.fld Fld.SEC_FUSE_KEK_PRESENT = 1 ∧ t.fld Fld.SEC_CMD_STATUS_LAST_OP = 1 ∧
      t.fld Fld.SEC_CMD_STATUS_RESULT = 1 ∧ t.fld Fld.SEC_CMD_STATUS_BUSY = 0) ∧
    (s.sec.prov = none → Completes .provisionDone s fun t => t = s) ∧
    (∀ (path : Path), s.accepts path Reg.SEC_CMD = true → s.bit Fld.SEC_CMD_STATUS_BUSY = false →
      Completes (.kekTaken path) s fun t => t.fld Fld.SEC_CMD_STATUS_LAST_OP = 2 ∧ t.fld Fld.SEC_CMD_STATUS_RESULT = 1 ∧
      t.fld Fld.SEC_CMD_STATUS_BUSY = 0 ∧ t.sec = { s.sec with kekReadable := false } ∧ (∀ w : Fin 64, t.live (Reg.SEC_BUF w) = 0) ∧
      OnlyRegs [Reg.SEC_CMD_STATUS] s t) ∧
    (∀ (path : Path), s.accepts path Reg.SEC_CMD = true → s.bit Fld.SEC_CMD_STATUS_BUSY = false →
      Completes (.challenge path) s fun t => (∃ c, t.sec.chal = some c ∧ c.length = 48 ∧
      (∀ w : Fin 12, t.rd (Reg.SEC_CHAL w) = BitVec.ofNat 32 (leNat ((c.drop (4 * w.val)).take 4)))) ∧
      t.fld Fld.SEC_CMD_STATUS_LAST_OP = 3 ∧ t.fld Fld.SEC_CMD_STATUS_RESULT = 1 ∧ t.fld Fld.SEC_CMD_STATUS_BUSY = 0 ∧
      OnlyRegs ((Reg.SEC_CMD_STATUS) :: (List.range 12).map Reg.SEC_CHAL) s t) ∧
    (Completes .challengeExpiry s fun t => t.sec = { s.sec with chal := none } ∧ t.regs = s.regs) ∧
    (∀ (path : Path), s.accepts path Reg.SEC_CMD = true → s.bit Fld.SEC_CMD_STATUS_BUSY = false → s.sec.locked = true →
      Completes (.submit path) s fun t => t.fld Fld.SEC_CMD_STATUS_RESULT = 5 ∧ t.fld (secEvent 3) = 1 ∧
      t.sec = { s.sec with chal := none } ∧ t.fld Fld.SEC_CMD_STATUS_FAILS = s.fld Fld.SEC_CMD_STATUS_FAILS ∧
      t.fld Fld.SEC_CMD_STATUS_LAST_OP = (s.rd (Reg.SEC_BUF 48)).toNat % 16 ∧ OnlyRegs [Reg.SEC_CMD_STATUS, Reg.SEC_EVENT] s t) ∧
    (∀ (path : Path), s.accepts path Reg.SEC_CMD = true → s.bit Fld.SEC_CMD_STATUS_BUSY = false → s.sec.locked = false →
      Completes (.submit path) s fun t => t.sec.chal = none ∧ t.fld Fld.SEC_CMD_STATUS_LAST_OP = (s.rd (Reg.SEC_BUF 48)).toNat % 16 ∧
      OnlyRegs [Reg.SEC_CMD_STATUS, Reg.SEC_EVENT] s t ∧ (if s.submitFaults = [] then t.fld (secEvent 2) = 1 ∧
      t.fld Fld.SEC_CMD_STATUS_FAILS = 0 ∧ (if 1 ≤ (s.rd (Reg.SEC_BUF 48)).toNat ∧
      (s.rd (Reg.SEC_BUF 48)).toNat ≤ 4 then t.fld Fld.SEC_CMD_STATUS_BUSY = 1 ∧
      t.sec.auth = some ((s.rd (Reg.SEC_BUF 48)).toNat, (s.rd (Reg.SEC_BUF 49)).toNat) else t.fld Fld.SEC_CMD_STATUS_RESULT = 2 ∧
      t.sec.auth = s.sec.auth) else t.fld (secEvent 3) = 1 ∧ t.fld Fld.SEC_CMD_STATUS_RESULT ∈ s.submitFaults ∧
      t.fld Fld.SEC_CMD_STATUS_FAILS = min 15 (s.fld Fld.SEC_CMD_STATUS_FAILS + 1) ∧ t.sec.auth = s.sec.auth ∧
      (3 ≤ s.fld Fld.SEC_CMD_STATUS_FAILS → t.sec.locked = true ∧ t.fld (secEvent 7) = 1) ∧
      (s.fld Fld.SEC_CMD_STATUS_FAILS < 3 → t.sec.locked = false))) ∧
    (∀ (arg : Nat), s.sec.auth = some (1, arg) → (1 ≤ arg ∧ arg ≤ 3) → s.blank = false →
      (s.fld Fld.SEC_STATUS_LCS = (if s.sec.lcs = 1 ∧ s.fld Fld.SEC_STATUS_LEVEL ≠ 0 then 2 else s.sec.lcs % 4)) →
      Completes .authUnlock s fun t =>
      t.fld Fld.SEC_STATUS_LEVEL = min arg (min (if s.mode = 2 then 1 else 3) (if s.bit Fld.GLB_MODE_STATUS_CFG_VALID = true then
      s.fld Fld.SEC_STATUS_DBG_CAP else 3)) ∧
      t.fld Fld.SEC_CMD_STATUS_RESULT = (if min arg (min (if s.mode = 2 then 1 else 3) (if s.bit Fld.GLB_MODE_STATUS_CFG_VALID = true
      then s.fld Fld.SEC_STATUS_DBG_CAP else 3)) = arg then 1 else 7) ∧ t.sec.auth = none ∧
      t.fld Fld.SEC_STATUS_LCS = (if s.sec.lcs = 1 ∧
      min arg (min (if s.mode = 2 then 1 else 3) (if s.bit Fld.GLB_MODE_STATUS_CFG_VALID = true then s.fld Fld.SEC_STATUS_DBG_CAP else
      3)) ≠ 0 then 2 else s.sec.lcs % 4) ∧
      (s.fld Fld.SEC_STATUS_LEVEL ≠ min arg (min (if s.mode = 2 then 1 else 3) (if s.bit Fld.GLB_MODE_STATUS_CFG_VALID = true then
      s.fld Fld.SEC_STATUS_DBG_CAP else 3)) → t.fld (secEvent 4) = 1 ∧
      (min arg (min (if s.mode = 2 then 1 else 3) (if s.bit Fld.GLB_MODE_STATUS_CFG_VALID = true then s.fld Fld.SEC_STATUS_DBG_CAP
      else 3)) = 3 → t.fld Fld.SEC_STATUS_INERT_FORCED = 1))) ∧
    (∀ (arg : Nat), s.sec.auth = some (1, arg) → arg < 1 ∨ 3 < arg ∨ s.blank = true → Completes .authUnlock s fun t =>
      t.sec = { s.sec with auth := none } ∧ t.fld Fld.SEC_CMD_STATUS_RESULT = (if arg < 1 ∨ 3 < arg then 2 else 1) ∧
      OnlyRegs [Reg.SEC_CMD_STATUS] s t) ∧
    (∀ (arg : Nat), s.sec.auth = some (2, arg) → s.mode = 0 → Completes .authRetire s fun t => t.sec.lcs = 3 ∧
      t.fld Fld.SEC_STATUS_LCS = 3 ∧ t.fld Fld.SEC_STATUS_LEVEL = 0 ∧ t.sec.kek = none ∧ t.fld Fld.SEC_FUSE_KEK_PRESENT = 0 ∧
      t.sec.slots = s.sec.slots ∧ t.sec.auth = none ∧ t.fld Fld.SEC_CMD_STATUS_LAST_OP = 2 ∧ t.fld Fld.SEC_CMD_STATUS_RESULT = 1 ∧
      t.fld Fld.SEC_CMD_STATUS_BUSY = 0) ∧
    (∀ (arg : Nat), s.sec.auth = some (2, arg) → s.mode ≠ 0 → Completes .authRetire s fun t => t.fld Fld.SEC_CMD_STATUS_LAST_OP = 2 ∧
      t.fld Fld.SEC_CMD_STATUS_RESULT = 2 ∧ t.fld Fld.SEC_CMD_STATUS_BUSY = 0 ∧ t.sec = { s.sec with auth := none } ∧
      OnlyRegs [Reg.SEC_CMD_STATUS] s t) ∧
    (∀ (arg : Nat), s.sec.auth = some (3, arg) → s.sec.lcs = 1 → arg < 4 → (∃ x, x < s.sec.slots.length ∧ x ≠ arg ∧
      s.sec.revoked.contains x = false) → Completes .authRevoke s fun t => arg ∈ t.sec.revoked ∧
      (∀ x, x ≠ arg → (x ∈ t.sec.revoked ↔ x ∈ s.sec.revoked)) ∧ t.fld Fld.SEC_FUSE_SLOT_REVOKED / 2 ^ arg % 2 = 1 ∧
      t.fld Fld.SEC_CMD_STATUS_LAST_OP = 3 ∧ t.fld Fld.SEC_CMD_STATUS_RESULT = 1 ∧ t.fld Fld.SEC_CMD_STATUS_BUSY = 0) ∧
    (∀ (arg : Nat), s.sec.auth = some (3, arg) → (s.sec.lcs ≠ 1 ∨ 4 ≤ arg ∨ ((List.range s.sec.slots.length).filter fun i =>
      !s.sec.revoked.contains i) = [arg]) → Completes .authRevoke s fun t => t.fld Fld.SEC_CMD_STATUS_LAST_OP = 3 ∧
      t.fld Fld.SEC_CMD_STATUS_RESULT = 2 ∧ t.fld Fld.SEC_CMD_STATUS_BUSY = 0 ∧ t.sec = { s.sec with auth := none } ∧
      OnlyRegs [Reg.SEC_CMD_STATUS] s t) ∧
    (∀ (arg : Nat), s.sec.auth = some (4, arg) → s.sec.lcs = 1 → (s.sec.minSvn < arg ∧ arg ≤ 63) →
      Completes .authAdvanceSvn s fun t => t.sec.minSvn = arg ∧ t.fld Fld.SEC_STATUS_MIN_SVN = arg ∧
      t.fld Fld.SEC_CMD_STATUS_LAST_OP = 4 ∧ t.fld Fld.SEC_CMD_STATUS_RESULT = 1 ∧ t.fld Fld.SEC_CMD_STATUS_BUSY = 0) ∧
    (∀ (arg : Nat), s.sec.auth = some (4, arg) → s.sec.lcs ≠ 1 ∨ arg ≤ s.sec.minSvn ∨ 63 < arg → Completes .authAdvanceSvn s fun t =>
      t.fld Fld.SEC_CMD_STATUS_LAST_OP = 4 ∧ t.fld Fld.SEC_CMD_STATUS_RESULT = 2 ∧ t.fld Fld.SEC_CMD_STATUS_BUSY = 0 ∧
      t.sec = { s.sec with auth := none } ∧ OnlyRegs [Reg.SEC_CMD_STATUS] s t) ∧
    (Completes .lockoutEnd s fun t => t.sec = { s.sec with locked := false } ∧ t.regs = s.regs) ∧
    (∀ (path : Path), s.accepts path Reg.SEC_CMD = true → s.bit Fld.SEC_CMD_STATUS_BUSY = false → Completes (.relock path) s fun t =>
      t.fld Fld.SEC_CMD_STATUS_LAST_OP = 5 ∧ t.fld Fld.SEC_CMD_STATUS_RESULT = 1 ∧ t.fld Fld.SEC_CMD_STATUS_BUSY = 0 ∧
      t.fld Fld.SEC_STATUS_LEVEL = (if s.blank = true then s.fld Fld.SEC_STATUS_LEVEL else 0) ∧ (s.blank = false →
      s.fld Fld.SEC_STATUS_LEVEL ≠ 0 → t.fld (secEvent 4) = 1 ∧ t.fld Fld.SEC_STATUS_LCS = s.sec.lcs % 4)) ∧
    (∀ (path : Path), s.accepts path Reg.SEC_CMD = true → s.bit Fld.SEC_CMD_STATUS_BUSY = false → 1 ≤ s.fld Fld.SEC_STATUS_LEVEL →
      Completes (.snap path) s fun t => t.fld Fld.SEC_CMD_STATUS_LAST_OP = 6 ∧ t.fld Fld.SEC_CMD_STATUS_RESULT = 1 ∧
      t.fld Fld.SEC_CMD_STATUS_BUSY = 0 ∧ t.rd64 Reg.SEC_SNAP_REEL_LO = s.tln.reel / 2 ^ 32 % 2 ^ 64 ∧
      (∀ n : Fin 64, t.rd (Reg.SEC_SNAP n 0) = s.rd (Reg.SPN_STATUS n) ∧ t.rd (Reg.SEC_SNAP n 1) = s.rd (Reg.SPN_TB_LO n) ∧
      t.rd (Reg.SEC_SNAP n 3) = s.rd (Reg.SPN_CA_LO n) ∧ (∀ i : Fin 32, t.rd (Reg.SEC_SNAP n (32 + i.val)) = s.rd (Reg.SPN_G n i)) ∧
      (∀ k : Fin 4, t.rd (Reg.SEC_SNAP n (8 + k.val)) = BitVec.ofNat 32 (s.fld ⟨Reg.SPN_LC n (2 * k.val), 0, 16⟩ + 65536 * s.fld
      ⟨Reg.SPN_LC n (2 * k.val + 1), 0, 16⟩)))) ∧
    (∀ (path : Path), s.accepts path Reg.SEC_CMD = true → s.bit Fld.SEC_CMD_STATUS_BUSY = false → s.fld Fld.SEC_STATUS_LEVEL = 0 →
      Completes (.snap path) s fun t => t.fld Fld.SEC_CMD_STATUS_LAST_OP = 6 ∧ t.fld Fld.SEC_CMD_STATUS_RESULT = 2 ∧
      t.fld Fld.SEC_CMD_STATUS_BUSY = 0 ∧ t.sec = s.sec ∧ OnlyRegs [Reg.SEC_CMD_STATUS] s t)

/-- What the supervisor detects and how it reacts (R442 to R464). A breach, a power sum, a bias step, a clock count, a missing
heartbeat, an error line or the interlock is recorded and detected where R446 arms it, and seen in M7; a breach counts once QUAL
+ 1 samples have shown it (log entry 104); a trip stops every permit, records the first cause and enters M7; a disagreement is
held and arbitrated; blanks follow notices. -/
def Obligations.SupervisorDetects : Prop :=
  ∀ (s : State), s.Wf →
    (∀ (m : Fin 240) (lo : Bool) (n : Nat), (s.cmpUsed m (2 * b2n lo) || s.cmpUsed m (2 * b2n lo + 1)) = true →
      s.fld (Fld.SUP_MON_CFG_QUAL m) < n → s.levelStands m lo = false → s.spindlesRun = true →
      Completes (.monitorBreach (.level m lo n)) s fun t => t.fld (Fld.SUP_MON_STATUS_FLAG m) = 1 ∧
      t.fld (Fld.SUP_MON_STATUS_VIOL_CNT m) = min 0xFFFF (s.fld (Fld.SUP_MON_STATUS_VIOL_CNT m) + 1) ∧
      t.fld Fld.SUP_EVENT_MON_FLAG = 1 ∧ t.fld (Fld.SUP_MON_STATUS_BREACH m) = 1 ∧
      t.sup.detect = s.sup.detect ++ [⟨(if m.val < 48 then 1 else if m.val < 176 then 3 else 4), m, (0, 0, 0),
      (if s.reelValid = true then s.reelNs else 0)⟩]) ∧
    (∀ (m : Fin 240) (lo : Bool) (n : Nat), (s.cmpUsed m (2 * b2n lo) || s.cmpUsed m (2 * b2n lo + 1)) = true →
      s.fld (Fld.SUP_MON_CFG_QUAL m) < n → s.levelStands m lo = false → s.spindlesRun = false → s.mode ≤ 6 →
      Completes (.monitorBreach (.level m lo n)) s fun t => t.fld (Fld.SUP_MON_STATUS_FLAG m) = 1 ∧
      t.fld (Fld.SUP_MON_STATUS_VIOL_CNT m) = min 0xFFFF (s.fld (Fld.SUP_MON_STATUS_VIOL_CNT m) + 1) ∧
      t.fld Fld.SUP_EVENT_MON_FLAG = 1 ∧ t.fld (Fld.SUP_MON_STATUS_BREACH m) = 1 ∧
      t.sup.detect = s.sup.detect ++ [⟨5, m, (0, 0, 0), (if s.reelValid = true then s.reelNs else 0)⟩]) ∧
    (∀ (m : Fin 240) (lo : Bool) (n : Nat), (s.cmpUsed m (2 * b2n lo) || s.cmpUsed m (2 * b2n lo + 1)) = true →
      s.fld (Fld.SUP_MON_CFG_QUAL m) < n → s.levelStands m lo = false → s.mode = 7 →
      Completes (.monitorBreach (.level m lo n)) s fun t => t.fld (Fld.SUP_MON_STATUS_FLAG m) = 1 ∧
      t.fld (Fld.SUP_MON_STATUS_VIOL_CNT m) = min 0xFFFF (s.fld (Fld.SUP_MON_STATUS_VIOL_CNT m) + 1) ∧
      t.fld Fld.SUP_EVENT_MON_FLAG = 1 ∧ t.fld (Fld.SUP_MON_STATUS_BREACH m) = 1 ∧ t.fld Fld.SUP_TRIP_SEEN_DF / 2 ^ (5 - 1) % 2 = 1 ∧
      t.sup.detect = s.sup.detect ∧ ⟨12, 6, m, 1, s.reelNs⟩ ∈ t.sup.reports) ∧
    (∀ (m : Fin 240) (lo : Bool) (n : Nat), s.fld (Fld.SUP_MON_CFG_QUAL m) < n → s.levelStands m lo = true → s.spindlesRun = true →
      Completes (.monitorBreach (.level m lo n)) s fun t =>
      t.sup.detect = s.sup.detect ++ [⟨(if m.val < 48 then 1 else if m.val < 176 then 3 else 4), m, (0, 0, 0),
      (if s.reelValid = true then s.reelNs else 0)⟩] ∧ t.regs = s.regs) ∧
    (∀ (m : Fin 240) (lo : Bool) (n : Nat), n ≤ s.fld (Fld.SUP_MON_CFG_QUAL m) → Completes (.monitorBreach (.level m lo n)) s fun t =>
      t = s) ∧
    (∀ (m : Fin 240) (lo : Bool) (n : Nat), s.cmpUsed m (2 * b2n lo) = false → s.cmpUsed m (2 * b2n lo + 1) = false →
      Completes (.monitorBreach (.level m lo n)) s fun t => t = s) ∧
    (∀ (o : Fin 48), s.spindlesRun = false → s.mode ≤ 6 → Completes (.monitorBreach (.outputHigh o)) s fun t =>
      t.sup.detect = s.sup.detect ++ [⟨5, 0, (0, 0, 0), (if s.reelValid = true then s.reelNs else 0)⟩] ∧ t.regs = s.regs) ∧
    (∀ (m : Fin 176), s.mode = 3 → Completes (.monitorBreach (.switchNotInert m)) s fun t =>
      t.sup.detect = s.sup.detect ++ [⟨5, m, (0, 0, 0), (if s.reelValid = true then s.reelNs else 0)⟩] ∧ t.regs = s.regs) ∧
    (∀ (m : Fin 176), s.mode ≠ 3 → Completes (.monitorBreach (.switchNotInert m)) s fun t => t = s) ∧
    (∀ (m : Fin 240) (c : Fin 4), Completes (.monitorBreachClear m c) s fun t =>
      (t.mon m).cmps = (s.mon m).cmps.filter (fun x => x != c.val) ∧
      t.fld (Fld.SUP_MON_STATUS_BREACH m) = b2n ((t.mon m).cmps.any (s.cmpUsed m) || (s.mon m).avg || (s.mon m).step) ∧
      OnlyRegs [Reg.SUP_MON_STATUS m] s t) ∧
    (∀ (powers : List (List Nat)), Completes (.df2Evaluation powers) s fun t =>
      ∀ m : Fin 48, (t.mon m).avg = decide (s.fld (Fld.SYN_PWR_ENV_AVG m s.pwrBand) * 1000 < (((powers.getD m []).take 50).reverse ++
      (s.mon m).powers |>.take 1000).sum * 64 ∧ s.monOn m = true) ∧
      ((s.fld (Fld.SYN_PWR_ENV_AVG m s.pwrBand) * 1000 < (((powers.getD m []).take 50).reverse ++ (s.mon m).powers |>.take 1000).sum *
      64 ∧ s.monOn m = true) → t.fld (Fld.SUP_MON_STATUS_FLAG m) = 1 ∧ t.fld (Fld.SUP_MON_STATUS_BREACH m) = 1 ∧
      (s.spindlesRun = true → ∃ d ∈ t.sup.detect, d.cause = 2 ∧ d.object = m))) ∧
    (∀ (b : Fin 64) (nA p : Int), s.monOn (176 + b.val) = true → (s.mon (176 + b.val)).prev = some p →
      (if s.spindlesRun = true then 1000 * s.fld (Fld.SUP_MON_SLEW_SLEW_THR (176 + b.val)) < (nA - p).natAbs else p.natAbs + 2000 <
      nA.natAbs) → Completes (.biasStepSample b nA) s fun t => (t.mon (176 + b.val)).step = true ∧
      (t.mon (176 + b.val)).prev = some nA ∧ t.fld (Fld.SUP_MON_STATUS_FLAG (176 + b.val)) = 1 ∧
      t.fld (Fld.SUP_MON_STATUS_VIOL_CNT (176 + b.val)) = min 0xFFFF (s.fld (Fld.SUP_MON_STATUS_VIOL_CNT (176 + b.val)) + 1) ∧
      t.fld Fld.SUP_EVENT_MON_FLAG = 1 ∧ t.fld (Fld.SUP_MON_STATUS_BREACH (176 + b.val)) = 1 ∧ (s.spindlesRun = true →
      t.sup.detect = s.sup.detect ++ [⟨4, (176 + b.val), (0, 0, 0), (if s.reelValid = true then s.reelNs else 0)⟩]) ∧
      (s.spindlesRun = false → s.mode ≤ 6 →
      t.sup.detect = s.sup.detect ++ [⟨5, (176 + b.val), (0, 0, 0), (if s.reelValid = true then s.reelNs else 0)⟩])) ∧
    (∀ (b : Fin 64) (nA p : Int), s.monOn (176 + b.val) = true → (s.mon (176 + b.val)).prev = some p →
      (¬ (if s.spindlesRun = true then 1000 * s.fld (Fld.SUP_MON_SLEW_SLEW_THR (176 + b.val)) < (nA - p).natAbs else p.natAbs + 2000 <
      nA.natAbs)) → Completes (.biasStepSample b nA) s fun t => (t.mon (176 + b.val)).step = false ∧
      (t.mon (176 + b.val)).prev = some nA ∧ t.sup.detect = s.sup.detect ∧ OnlyRegs [Reg.SUP_MON_STATUS (176 + b.val)] s t) ∧
    (∀ (count : Nat), s.spindlesRun = true → s.reelValid = false ∨ count < 49 ∨ 51 < count → Completes (.clockCheck count) s fun t =>
      t.sup.detect = s.sup.detect ++ [⟨6, 0, (0, 0, 0), (if s.reelValid = true then s.reelNs else 0)⟩] ∧ t.regs = s.regs) ∧
    (∀ (count : Nat), s.spindlesRun = false → s.pllLock = true → count < 49 ∨ 51 < count → Completes (.clockCheck count) s fun t =>
      t.fld Fld.SUP_SELFTEST_FAIL_ITEM = 2 ∧ t.fld Fld.SUP_SELFTEST_FAILED = 1 ∧ t.fld Fld.SUP_STATUS_SELFTEST_OK = 0 ∧
      t.active 10 = true ∧ (s.mode ≤ 6 →
      t.sup.detect = s.sup.detect ++ [⟨10, 2, (0, 0, 0), (if s.reelValid = true then s.reelNs else 0)⟩])) ∧
    (∀ (count : Nat), ((s.spindlesRun = false ∧ s.pllLock = false) ∨ ((s.spindlesRun = false ∨
      (s.reelValid = true ∧ s.pllLock = true)) ∧ 49 ≤ count ∧ count ≤ 51)) → Completes (.clockCheck count) s fun t => t = s) ∧
    (∀ (n : Fin 64), s.spindlesRun = true → s.bit (Fld.SPN_CTL_EN n) = true → (s.spindle n).tokenTick + 3960 ≤ s.tick →
      Completes (.heartbeatTimeout n) s fun t =>
      t.sup.detect = s.sup.detect ++ [⟨7, n, (0, 0, 0), (if s.reelValid = true then s.reelNs else 0)⟩] ∧ t.regs = s.regs) ∧
    (∀ (n : Fin 64), s.spindlesRun = false ∨ s.bit (Fld.SPN_CTL_EN n) = false ∨ s.tick < (s.spindle n).tokenTick + 3960 →
      Completes (.heartbeatTimeout n) s fun t => t = s) ∧
    (∀ (off : Fin 0x4000000), (3 ≤ s.mode ∧ s.mode ≤ 6) → (sramRegion off ≠ 2 ∧ sramRegion off < 5) →
      Completes (.ueLine off) s fun t =>
      t.sup.detect = s.sup.detect ++ [⟨8, sramRegion off, (0, 0, 0), (if s.reelValid = true then s.reelNs else 0)⟩] ∧
      t.regs = s.regs) ∧
    (∀ (off : Fin 0x4000000), s.mode < 3 ∨ sramRegion off = 2 ∨ 5 ≤ sramRegion off → Completes (.ueLine off) s fun t => t = s) ∧
    (s.bit Fld.SUP_STATUS_ILK = true → Completes (.plantIlkChange true) s fun t => t.fld Fld.SUP_STATUS_ILK = 0 ∧
      t.fld Fld.SUP_EVENT_ILK_CHG = 1 ∧ t.permitted = false ∧ (3 ≤ s.mode → s.mode ≤ 6 →
      t.sup.detect = s.sup.detect ++ [⟨9, 0, (0, 0, 0), (if s.reelValid = true then s.reelNs else 0)⟩]) ∧
      (s.mode < 3 → t.sup.detect = s.sup.detect) ∧ (s.mode = 7 → t.fld Fld.SUP_TRIP_SEEN_DF / 2 ^ (9 - 1) % 2 = 1)) ∧
    (s.bit Fld.SUP_STATUS_ILK = false → Completes (.plantIlkChange false) s fun t => t.fld Fld.SUP_STATUS_ILK = 1 ∧
      t.fld Fld.SUP_EVENT_ILK_CHG = 1 ∧ t.sup.detect = s.sup.detect ∧ OnlyRegs [Reg.SUP_STATUS, Reg.SUP_EVENT] s t) ∧
    (s.sup.detect ≠ [] → s.mode ≠ 7 → Completes .trip s fun t => t.mode = 7 ∧ t.sup.permits = false ∧ t.permitted = false ∧
      t.fld Fld.GLB_MODE_STATUS_PREV_MODE = s.mode ∧ t.sup.arb = none ∧ t.sup.hold = none ∧ t.fld Fld.SUP_STATUS_TRIPPED = 1 ∧
      t.fld Fld.SUP_EVENT_TRIP = 1 ∧ t.sup.detect = [] ∧ t.fld Fld.SUP_TRIP_VALID = 1 ∧ (∀ d ∈ s.sup.detect, d.cause = 0x20 →
      t.fld Fld.SUP_TRIP_SEEN_S3 = 1) ∧ (s.bit Fld.SUP_TRIP_VALID = false →
      ∃ d ∈ s.sup.detect, (∀ e ∈ s.sup.detect, d.cause ≤ e.cause) ∧ t.fld Fld.SUP_TRIP_FIRST = d.cause % 256 ∧
      t.fld Fld.SUP_TRIP_OBJECT = d.object % 65536 ∧ t.rd64 Reg.SUP_TRIP_REEL_LO = d.ns % 2 ^ 64 ∧ (d.cause = 0x20 →
      t.fld Fld.SUP_TRIP_ERR_CLASS = d.err.1 % 256 ∧ t.fld Fld.SUP_TRIP_ERR_EVENT = d.err.2.1 % 256 ∧
      t.fld Fld.SUP_TRIP_ERR_INSTANCE = d.err.2.2 % 4096))) ∧
    (s.sup.detect ≠ [] → s.mode ≠ 7 → Completes .trip s fun t => ∀ c : Fin 11, (∃ d ∈ s.sup.detect, d.cause = c.val + 1) →
      t.fld Fld.SUP_TRIP_SEEN_DF / 2 ^ ((c.val + 1) - 1) % 2 = 1) ∧
    (s.sup.detect = [] ∨ s.mode = 7 → Completes .trip s fun t => t.sup.detect = [] ∧ t.regs = s.regs ∧
      t.sup.permits = s.sup.permits) ∧
    (s.mode ≠ 7 → Completes .permitLoss s fun t => t.mode = 7 ∧ t.sup.permits = false ∧ t.permitted = false ∧
      t.fld Fld.GLB_MODE_STATUS_PREV_MODE = s.mode ∧ t.sup.arb = none ∧ t.sup.hold = none ∧
      t.fld Fld.SUP_STATUS_TRIPPED = s.fld Fld.SUP_STATUS_TRIPPED) ∧
    (s.mode = 7 → Completes .permitLoss s fun t => t = s) ∧
    (Completes .supSupplyFail s fun t => t.sup.permits = false ∧ t.permitted = false ∧ (s.permitted = true →
      t.rd Reg.SYN_MRK_LEVEL = 0 ∧ t.rd Reg.SYN_TRG_LEVEL = 0) ∧ OnlyRegs [Reg.SYN_MRK_LEVEL, Reg.SYN_TRG_LEVEL] s t) ∧
    (∀ (b : Fin 64), s.permitted = false → Completes (.biasSafeRampStep b) s fun t =>
      sgn 20 (t.fld (Fld.SYN_BIA_NOW_CODE b)) = (if sgn 20 (s.fld (Fld.SYN_BIA_NOW_CODE b)) ≤ 0 then min 0 (sgn 20
      (s.fld (Fld.SYN_BIA_NOW_CODE b)) + sget (fun _ => 0) s.sup.slews b) else max 0 (sgn 20 (s.fld (Fld.SYN_BIA_NOW_CODE b)) - sget
      (fun _ => 0) s.sup.slews b)) ∧ OnlyRegs [Reg.SYN_BIA_NOW b] s t) ∧
    (∀ (b : Fin 64), s.permitted = true → Completes (.biasSafeRampStep b) s fun t => t = s) ∧
    (∀ (m : Fin 240) (c : Fin 4) (n : Nat), s.fld (Fld.SUP_MON_CFG_QUAL m) < n → s.cmpUsed m c = true →
      (s.cmpUsed m (if c.val % 2 = 0 then c.val + 1 else c.val - 1) = true) →
      ((s.mon m).cmps.contains (if c.val % 2 = 0 then c.val + 1 else c.val - 1) = false) → s.sup.arb = none →
      Completes (.disagree m c n) s fun t => t.fld Fld.SUP_EVENT_DISAGREE = 1 ∧ t.sup.arb = some ⟨m, c, s.tick⟩ ∧
      t.sup.hold = some (monPort m) ∧ t.fld (Fld.SUP_MON_STATUS_FLAG m) = 1 ∧
      t.fld (Fld.SUP_MON_STATUS_VIOL_CNT m) = min 0xFFFF (s.fld (Fld.SUP_MON_STATUS_VIOL_CNT m) + 1) ∧
      t.fld Fld.SUP_EVENT_MON_FLAG = 1 ∧ t.fld (Fld.SUP_MON_STATUS_BREACH m) = 1 ∧ t.sup.detect = s.sup.detect) ∧
    (∀ (m : Fin 240) (c : Fin 4) (n : Nat), s.fld (Fld.SUP_MON_CFG_QUAL m) < n → s.cmpUsed m c = true →
      (s.cmpUsed m (if c.val % 2 = 0 then c.val + 1 else c.val - 1) = true) →
      ((s.mon m).cmps.contains (if c.val % 2 = 0 then c.val + 1 else c.val - 1) = false) → s.sup.arb ≠ none → s.spindlesRun = true →
      Completes (.disagree m c n) s fun t => t.fld Fld.SUP_EVENT_DISAGREE = 1 ∧ t.sup.arb = s.sup.arb ∧ t.sup.hold = s.sup.hold ∧
      t.fld (Fld.SUP_MON_STATUS_FLAG m) = 1 ∧
      t.fld (Fld.SUP_MON_STATUS_VIOL_CNT m) = min 0xFFFF (s.fld (Fld.SUP_MON_STATUS_VIOL_CNT m) + 1) ∧
      t.fld Fld.SUP_EVENT_MON_FLAG = 1 ∧ t.fld (Fld.SUP_MON_STATUS_BREACH m) = 1 ∧
      t.sup.detect = s.sup.detect ++ [⟨(if m.val < 48 then 1 else if m.val < 176 then 3 else 4), m, (0, 0, 0),
      (if s.reelValid = true then s.reelNs else 0)⟩]) ∧
    (∀ (m : Fin 240) (c : Fin 4) (n : Nat), (n ≤ s.fld (Fld.SUP_MON_CFG_QUAL m) ∨ s.cmpUsed m c = false ∨ s.cmpUsed m
      (if c.val % 2 = 0 then c.val + 1 else c.val - 1) = false ∨ (s.mon m).cmps.contains
      (if c.val % 2 = 0 then c.val + 1 else c.val - 1) = true) → Completes (.disagree m c n) s fun t => t = s) ∧
    (∀ (x : Arb) (a b dac : Int), s.sup.arb = some x →
      (128 < (a - b).natAbs ∨ 128 < (dac - (codeLsb x.m (if x.cmp < 2 then s.hiCode x.m else s.loCode x.m))).natAbs) →
      Completes (.arbitrationDecision a b dac) s fun t => t.sup.arb = none ∧ t.sup.df10 = true ∧ (s.mode ≤ 6 →
      t.sup.detect = s.sup.detect ++ [⟨10, 0, (0, 0, 0), (if s.reelValid = true then s.reelNs else 0)⟩]) ∧ (s.mode = 7 →
      t.fld Fld.SUP_TRIP_SEEN_DF / 2 ^ (10 - 1) % 2 = 1)) ∧
    (∀ (x : Arb) (a b dac : Int), s.sup.arb = some x → ((a - b).natAbs ≤ 128 ∧
      (dac - (codeLsb x.m (if x.cmp < 2 then s.hiCode x.m else s.loCode x.m))).natAbs ≤ 128) →
      (if x.cmp < 2 then 2 * (codeLsb x.m (if x.cmp < 2 then s.hiCode x.m else s.loCode x.m)) < a + b else a + b < 2 * (codeLsb x.m
      (if x.cmp < 2 then s.hiCode x.m else s.loCode x.m))) → s.spindlesRun = true →
      Completes (.arbitrationDecision a b dac) s fun t => t.sup.arb = none ∧ t.sup.df10 = s.sup.df10 ∧ t.sup.hold = s.sup.hold ∧
      t.sup.detect = s.sup.detect ++ [⟨(if x.m < 48 then 1 else if x.m < 176 then 3 else 4), x.m, (0, 0, 0),
      (if s.reelValid = true then s.reelNs else 0)⟩]) ∧
    (∀ (x : Arb) (a b dac : Int), s.sup.arb = some x → (x.m < 240 ∧ x.cmp < 4) → ((a - b).natAbs ≤ 128 ∧
      (dac - (codeLsb x.m (if x.cmp < 2 then s.hiCode x.m else s.loCode x.m))).natAbs ≤ 128) →
      (¬ (if x.cmp < 2 then 2 * (codeLsb x.m (if x.cmp < 2 then s.hiCode x.m else s.loCode x.m)) < a + b else a + b < 2 * (codeLsb x.m
      (if x.cmp < 2 then s.hiCode x.m else s.loCode x.m)))) → Completes (.arbitrationDecision a b dac) s fun t => t.sup.arb = none ∧
      t.sup.hold = none ∧ t.sup.detect = s.sup.detect ∧ t.fld (Fld.SUP_MON_STATUS_CMP_DIS x.m) / 2 ^ x.cmp % 2 = 1 ∧
      t.fld Fld.SUP_EVENT_DEGRADED = 1 ∧ t.fld Fld.SUP_TOL_DISAGREE = min 255 (s.fld Fld.SUP_TOL_DISAGREE + 1)) ∧
    (∀ (a b dac : Int), s.sup.arb = none → Completes (.arbitrationDecision a b dac) s fun t => t = s) ∧
    (∀ (m : Fin 240) (n : Nat), (s.mon m).pend = some n → n * 100 + 990 * s.fld (Fld.SUP_MON_CFG_BLANK_DLY m) ≤ s.tick * 100 →
      s.fld (Fld.SUP_MON_CFG_BLANK_LEN m) ≠ 0 → Completes (.blankStart m) s fun t => t.fld (Fld.SUP_MON_STATUS_BLANKED m) = 1 ∧
      (t.mon m).blank = some ⟨s.tick, s.tick + 10 * s.fld (Fld.SUP_MON_CFG_BLANK_LEN m)⟩ ∧ (t.mon m).pend = none ∧
      (t.mon m).cmps = [] ∧ OnlyRegs [Reg.SUP_MON_STATUS m] s t) ∧
    (∀ (m : Fin 240), (∀ n ∈ (s.mon m).pend, s.tick * 100 < n * 100 + 990 * s.fld (Fld.SUP_MON_CFG_BLANK_DLY m)) →
      Completes (.blankStart m) s fun t => t = s) ∧
    (∀ (m : Fin 240) (b : Blank), (s.mon m).blank = some b → s.bit (Fld.SUP_MON_STATUS_BLANKED m) = true →
      b.start * 100 + 990 * s.fld (Fld.SUP_MON_CFG_BLANK_LEN m) ≤ s.tick * 100 → Completes (.blankEnd m) s fun t =>
      t.fld (Fld.SUP_MON_STATUS_BLANKED m) = 0 ∧ (t.mon m).blank = some ⟨b.start, s.tick⟩ ∧ OnlyRegs [Reg.SUP_MON_STATUS m] s t) ∧
    (∀ (m : Fin 240), (s.mon m).blank = none ∨ s.bit (Fld.SUP_MON_STATUS_BLANKED m) = false → Completes (.blankEnd m) s fun t =>
      t = s)

/-- The supervisor's services (R453, R460, R461, R464 to R480): the monitor ADCs serve arbitration first, then a host conversion,
whose result they write; a self-test pass counts, goes on, or records its failed items (log entry 154); FLAG clears but where
LATCH holds it; a monitor qualifies, and SUP_STATUS.QUALIFIED follows the enabled ones (log entry 130); a sensor's reading moves
its band and its limit count (log entry 105); reports enter their queues, merge or are lost, and an acknowledgement removes the
entry that it names. The log entry on reports says what the model chose for sequence numbers. -/
def Obligations.SupervisorServices : Prop :=
  ∀ (s : State), s.Wf →
    (∀ (path : Path) (x : Fin 2) (v : Word), s.accepts path (Reg.SUP_MADC_CTL x) = true → v.getLsbD 0 = true →
      (sget (fun _ => none) s.sup.madc x = none) → (sget (fun _ => none) s.sup.conv x = none) →
      Completes (.madcStart path x v) s fun t => sget (fun _ => none) t.sup.madc x = some (v.toNat / 256 % 512) ∧ t.regs = s.regs) ∧
    (∀ (path : Path) (x : Fin 2) (v : Word), s.accepts path (Reg.SUP_MADC_CTL x) = true → v.getLsbD 0 = true →
      (sget (fun _ => none) s.sup.madc x ≠ none ∨ sget (fun _ => none) s.sup.conv x ≠ none) →
      Completes (.madcStart path x v) s fun t => t.fld Fld.SUP_EVENT_MADC_REFUSED = 1 ∧ t.sup = s.sup) ∧
    (∀ (path : Path) (x : Fin 2) (v : Word), s.accepts path (Reg.SUP_MADC_CTL x) = true → v.getLsbD 0 = false →
      Completes (.madcStart path x v) s fun t => t.regs = s.regs ∧ t.sup = s.sup) ∧
    (∀ (a b : BitVec 16), s.sup.arb ≠ none → Completes (.madcSlot a b none) s fun t => t = s) ∧
    (∀ (a b : BitVec 16), s.sup.arb = none → Completes (.madcSlot a b none) s fun t =>
      (∀ mux, sget (fun _ => none) s.sup.madc 0 = some mux →
      sget (fun _ => none) t.sup.conv 0 = some (mux, s.madcReads 0 mux a.toNat) ∧ sget (fun _ => none) t.sup.madc 0 = none) ∧
      (∀ mux, sget (fun _ => none) s.sup.madc 1 = some mux →
      sget (fun _ => none) t.sup.conv 1 = some (mux, s.madcReads 1 mux b.toNat) ∧ sget (fun _ => none) t.sup.madc 1 = none) ∧
      t.regs = s.regs) ∧
    (∀ (a b : BitVec 16) (k : Fin 24) (mV : Int), s.sup.arb = none →
      (railNominal.getD k 0).natAbs < 20 * (mV - railNominal.getD k 0).natAbs → Completes (.madcSlot a b (some (k, mV))) s fun t =>
      t.fld Fld.SUP_EVENT_SUPPLY = 1 ∧ ⟨12, 1, k, 2, s.reelNs⟩ ∈ t.sup.reports) ∧
    (∀ (a b : BitVec 16) (k : Fin 24) (mV : Int), s.sup.arb ≠ none ∨ 20 * (mV - railNominal.getD k 0).natAbs ≤
      (railNominal.getD k 0).natAbs → Completes (.madcSlot a b (some (k, mV))) s fun t => t.regs = s.regs ∧
      t.sup.reports = s.sup.reports) ∧
    (∀ (x : Fin 2) (p : Nat × Nat), (sget (fun _ => none) s.sup.conv x = some p) → Completes (.madcDone x) s fun t =>
      t.fld (Fld.SUP_MADC_RESULT_VALUE x) = p.2 % 65536 ∧ t.fld (Fld.SUP_MADC_RESULT_MUX x) = p.1 % 512 ∧
      t.fld (Fld.SUP_MADC_RESULT_VALID x) = 1 ∧ t.fld ⟨Reg.SUP_EVENT, 8 + x, 1⟩ = 1 ∧ sget (fun _ => none) t.sup.conv x = none ∧
      (s.bit (Fld.SUP_MADC_RESULT_VALID x) = true → t.fld (Fld.SUP_MADC_RESULT_OVERRUN x) = 1 ∧ t.fld Fld.SUP_EVENT_MADC_OVR = 1) ∧
      (s.bit (Fld.SUP_MADC_RESULT_VALID x) = false → t.fld (Fld.SUP_MADC_RESULT_OVERRUN x) = s.fld (Fld.SUP_MADC_RESULT_OVERRUN x))) ∧
    (∀ (x : Fin 2), (sget (fun _ => none) s.sup.conv x = none) → Completes (.madcDone x) s fun t => t = s) ∧
    (∀ (path : Path) (v : Word), s.accepts path Reg.SUP_CMD = true → Completes (.selftestStart path v) s fun t =>
      t.sup = { s.sup with passAt := s.tick, passFailed := false } ∧ (v.getLsbD 1 = false ∨ s.mode = 7 → t.regs = s.regs) ∧
      OnlyRegs [Reg.SUP_TRIP, Reg.SUP_TRIP_SEEN, Reg.SUP_TRIP_ERR] s t) ∧
    (∀ (path : Path) (v : Word), s.accepts path Reg.SUP_CMD = true → s.mode ≠ 7 → Completes (.clrTrip path v) s fun t =>
      t.rd Reg.SUP_TRIP = 0 ∧ t.rd Reg.SUP_TRIP_SEEN = 0 ∧ t.rd Reg.SUP_TRIP_ERR = 0 ∧
      OnlyRegs [Reg.SUP_TRIP, Reg.SUP_TRIP_SEEN, Reg.SUP_TRIP_ERR] s t) ∧
    (∀ (path : Path) (v : Word), s.accepts path Reg.SUP_CMD = true → s.mode = 7 → Completes (.clrTrip path v) s fun t =>
      t.regs = s.regs) ∧
    (∀ (found : SelfTest) (k : Nat), s.failedItems found = [k] → k < 8 → Completes (.selftestPassEnd found) s fun t =>
      t.fld Fld.SUP_SELFTEST_FAIL_ITEM = k ∧ t.fld Fld.SUP_SELFTEST_FAILED = 1 ∧ t.fld Fld.SUP_STATUS_SELFTEST_OK = 0 ∧
      t.active 10 = true ∧ (s.mode ≤ 6 →
      t.sup.detect = s.sup.detect ++ [⟨10, k, (0, 0, 0), (if s.reelValid = true then s.reelNs else 0)⟩]) ∧
      t.fld Fld.SUP_SELFTEST_PASSES = s.fld Fld.SUP_SELFTEST_PASSES) ∧
    (∀ (found : SelfTest), found.copies = true → Completes (.selftestPassEnd found) s fun t => t.sup.mismatch = true ∧
      t.fld Fld.SUP_SELFTEST_FAILED = 1 ∧ t.fld Fld.SUP_STATUS_SELFTEST_OK = 0 ∧ t.active 10 = true ∧ (s.mode ≤ 6 →
      ∃ d ∈ t.sup.detect, d.cause = 10 ∧ d.object = 1)) ∧
    (∀ (found : SelfTest) (m : Fin 240) (x : Fin 3) (v : Int), (m, x, v) ∈ found.dacs → s.monOn m = true →
      128 < (v - codeLsb m (s.dacCode m x)).natAbs → Completes (.selftestPassEnd found) s fun t => t.fld Fld.SUP_SELFTEST_FAILED = 1 ∧
      t.fld Fld.SUP_STATUS_SELFTEST_OK = 0 ∧ t.active 10 = true ∧ (s.mode ≤ 6 → ∃ d ∈ t.sup.detect, d.cause = 10 ∧ d.object = 3)) ∧
    (∀ (found : SelfTest) (m : Fin 240) (c : Fin 4) (rise fall : Nat), (m, c, rise, fall) ∈ found.cmps → s.monOn m = true →
      s.fld (Fld.SUP_MON_STATUS_CMP_DIS m) / 2 ^ c.val % 2 = 0 → 1000 < rise ∨ 1000 ≤ fall →
      Completes (.selftestPassEnd found) s fun t => t.fld Fld.SUP_SELFTEST_FAILED = 1 ∧ t.fld Fld.SUP_STATUS_SELFTEST_OK = 0 ∧
      t.active 10 = true ∧ (s.mode ≤ 6 → ∃ d ∈ t.sup.detect, d.cause = 10 ∧ d.object = 4)) ∧
    (∀ (found : SelfTest) (p q : Int × Int) (l : List (Int × Int)), found.cross = p :: q :: l →
      (32 < (p.1 - p.2).natAbs ∧ 32 < (q.1 - q.2).natAbs) → Completes (.selftestPassEnd found) s fun t =>
      t.fld Fld.SUP_SELFTEST_FAILED = 1 ∧ t.fld Fld.SUP_STATUS_SELFTEST_OK = 0 ∧ t.active 10 = true ∧ (s.mode ≤ 6 →
      ∃ d ∈ t.sup.detect, d.cause = 10 ∧ d.object = 5)) ∧
    (∀ (found : SelfTest) (d : Bool), d ∈ found.detectors → d ≠ s.permitted → Completes (.selftestPassEnd found) s fun t =>
      t.fld Fld.SUP_SELFTEST_FAILED = 1 ∧ t.fld Fld.SUP_STATUS_SELFTEST_OK = 0 ∧ t.active 10 = true ∧ (s.mode ≤ 6 →
      ∃ d ∈ t.sup.detect, d.cause = 10 ∧ d.object = 6)) ∧
    (∀ (found : SelfTest), found.reference < 9900 ∨ 10100 < found.reference → Completes (.selftestPassEnd found) s fun t =>
      t.fld Fld.SUP_SELFTEST_FAILED = 1 ∧ t.fld Fld.SUP_STATUS_SELFTEST_OK = 0 ∧ t.active 10 = true ∧ (s.mode ≤ 6 →
      ∃ d ∈ t.sup.detect, d.cause = 10 ∧ d.object = 7)) ∧
    (∀ (found : SelfTest), s.failedItems found = [] → s.tick < s.sup.passAt + 49500000 → Completes (.selftestPassEnd found) s fun t =>
      t = s) ∧
    (∀ (found : SelfTest), s.failedItems found = [] → s.sup.passAt + 49500000 ≤ s.tick → s.sup.passFailed = true →
      Completes (.selftestPassEnd found) s fun t => t.regs = s.regs ∧ t.sup = { s.sup with passAt := s.tick, passFailed := false }) ∧
    (∀ (found : SelfTest), s.failedItems found = [] → s.sup.passAt + 49500000 ≤ s.tick → s.sup.passFailed = false →
      Completes (.selftestPassEnd found) s fun t => t.fld Fld.SUP_SELFTEST_PASSES = min 0xFFFF (s.fld Fld.SUP_SELFTEST_PASSES + 1) ∧
      t.fld Fld.SUP_SELFTEST_FAILED = 0 ∧ t.fld Fld.SUP_STATUS_SELFTEST_OK = 1 ∧ t.fld Fld.SUP_EVENT_SELFTEST_PASS = 1 ∧
      t.active 10 = s.sup.mismatch ∧ t.sup.passAt = s.tick ∧ t.sup.retest = [] ∧
      (∀ (m : Fin 240) (c : Fin 4), t.fld (Fld.SUP_MON_STATUS_CMP_DIS m) / 2 ^ c.val % 2 = (if s.sup.retest.contains (m.val, c.val) =
      true ∧
      (∀ x ∈ found.cmps, x.1 = m → x.2.1 = c → cmpFails x = false) then 0 else s.fld (Fld.SUP_MON_STATUS_CMP_DIS m) / 2 ^ c.val % 2)))
      ∧
    (∀ (path : Path) (m : Fin 240), s.accepts path (Reg.SUP_MON_STATUS m) = true →
      s.bit (Fld.SUP_MON_CFG_LATCH m) = false ∨ s.bit (Fld.SUP_MON_STATUS_BREACH m) = false →
      (sget (fun _ => 0) s.evSet (Reg.SUP_MON_STATUS m) = 0) → Completes (.monFlagClear path m) s fun t =>
      t.fld (Fld.SUP_MON_STATUS_FLAG m) = 0 ∧ OnlyRegs [Reg.SUP_MON_STATUS m] s t) ∧
    (∀ (path : Path) (m : Fin 240), s.accepts path (Reg.SUP_MON_STATUS m) = true → s.bit (Fld.SUP_MON_CFG_LATCH m) = true →
      s.bit (Fld.SUP_MON_STATUS_BREACH m) = true → Completes (.monFlagClear path m) s fun t => OnlyRegs [] s t) ∧
    (∀ (m : Fin 240), s.monOn m = true → Completes (.monitorQualify m) s fun t => t.fld (Fld.SUP_MON_STATUS_QUALIFIED m) = 1 ∧
      t.fld Fld.SUP_STATUS_QUALIFIED = b2n (s.glb.released && (List.range 240).all fun x =>
      !s.monOn x || x == m.val || s.bit (Fld.SUP_MON_STATUS_QUALIFIED x)) ∧ (t.fld Fld.SUP_STATUS_QUALIFIED = 1 →
      s.fld Fld.SUP_STATUS_QUALIFIED = 0 → t.fld Fld.SUP_EVENT_QUALIFIED = 1) ∧ (t.permitted = s.permitted →
      OnlyRegs [Reg.SUP_MON_STATUS m, Reg.SUP_STATUS, Reg.SUP_EVENT] s t) ∧
      OnlyRegs [Reg.SUP_MON_STATUS m, Reg.SUP_STATUS, Reg.SUP_EVENT, Reg.SYN_MRK_LEVEL, Reg.SYN_TRG_LEVEL] s t) ∧
    (∀ (m : Fin 240), s.monOn m = false → Completes (.monitorQualify m) s fun t => t = s) ∧
    (∀ (k : Fin 24) , s.tsOn k = true → Completes (.sensorMeasure k none) s fun t => t.fld (Fld.SUP_TS_STATUS_VALID k) = 0 ∧
      t.fld (Fld.SUP_TS_STATUS_BAND k) = s.fld (Fld.SUP_TS_STATUS_BAND k) ∧ t.fld Fld.SUP_EVENT_TS_INVALID = 1 ∧
      (s.tsLimitOn k = true → s.mode ≤ 6 →
      t.sup.detect = s.sup.detect ++ [⟨11, k, (0, 0, 0), (if s.reelValid = true then s.reelNs else 0)⟩] ∧ t.active 11 = true) ∧
      (s.tsLimitOn k = false → ⟨12, 5, k, 2, s.reelNs⟩ ∈ t.sup.reports ∧ t.sup.detect = s.sup.detect)) ∧
    (∀ (k : Fin 24) (w : Word), s.tsOn k = true → s.inRange k w.toNat = true → Completes (.sensorMeasure k (some w)) s fun t =>
      t.rd (Reg.SUP_TS_VALUE k) = w ∧ t.fld (Fld.SUP_TS_STATUS_VALID k) = 1 ∧ (∀ e : Nat, e ≤ 4 → (∀ i, i < e →
      atOrPast (s.hotHigh k) w.toNat (s.fld (Fld.SUP_TS_EDGE_VALUE k i)) = true) → e ≤ t.fld (Fld.SUP_TS_STATUS_BAND k)) ∧
      (t.fld (Fld.SUP_TS_STATUS_BAND k) ≠ s.fld (Fld.SUP_TS_STATUS_BAND k) → t.fld Fld.SUP_EVENT_BAND_CHG = 1)) ∧
    (∀ (k : Fin 24) (w : Word), s.tsOn k = true → s.inRange k w.toNat = true → s.fld (Fld.SUP_TS_STATUS_BAND k) ≤ 4 →
      (∀ i : Fin 4, (i.val < s.fld (Fld.SUP_TS_STATUS_BAND k) →
      wellCool (s.hotHigh k) w.toNat (s.fld (Fld.SUP_TS_EDGE_VALUE k i.val)) = false) ∧ (s.fld (Fld.SUP_TS_STATUS_BAND k) ≤ i.val →
      atOrPast (s.hotHigh k) w.toNat (s.fld (Fld.SUP_TS_EDGE_VALUE k i.val)) = false)) →
      Completes (.sensorMeasure k (some w)) s fun t => t.fld (Fld.SUP_TS_STATUS_BAND k) = s.fld (Fld.SUP_TS_STATUS_BAND k) ∧
      t.fld Fld.SUP_EVENT_BAND_CHG = s.fld Fld.SUP_EVENT_BAND_CHG) ∧
    (∀ (k : Fin 24) (w : Word), s.tsOn k = true → s.inRange k w.toNat = true → s.tsLimitOn k = true →
      (atOrPast (s.hotHigh k) w.toNat (s.fld (Fld.SUP_TS_LIMIT_VALUE k)) = true ∧ w.toNat ≠ s.fld (Fld.SUP_TS_LIMIT_VALUE k)) →
      (1 ≤ (sget (fun _ => ({} : Sensor)) s.sup.ts k).past) → Completes (.sensorMeasure k (some w)) s fun t => (s.mode ≤ 6 →
      t.sup.detect = s.sup.detect ++ [⟨11, k, (0, 0, 0), (if s.reelValid = true then s.reelNs else 0)⟩])) ∧
    (∀ (k : Fin 24) (w : Word), s.tsOn k = true → s.inRange k w.toNat = true → s.fld (Fld.SUP_TS_STATUS_BAND k) = 1 →
      wellCool (s.hotHigh k) w.toNat (s.fld (Fld.SUP_TS_EDGE_VALUE k 0)) = true →
      (∀ i : Fin 3, atOrPast (s.hotHigh k) w.toNat (s.fld (Fld.SUP_TS_EDGE_VALUE k (i.val + 1))) = false) →
      Completes (.sensorMeasure k (some w)) s fun t =>
      t.fld (Fld.SUP_TS_STATUS_BAND k) = (if 2 ≤ (sget (fun _ => ({} : Sensor)) s.sup.ts k).cool.getD 0 0 then 0 else 1) ∧
      ((sget (fun _ => ({} : Sensor)) s.sup.ts k).cool.getD 0 0 < 2 →
      (sget (fun _ => ({} : Sensor)) t.sup.ts k).cool.getD 0 0 = (sget (fun _ => ({} : Sensor)) s.sup.ts k).cool.getD 0 0 + 1)) ∧
    (∀ (k : Fin 24) (w : Word), s.tsOn k = true → s.inRange k w.toNat = true →
      (atOrPast (s.hotHigh k) w.toNat (s.fld (Fld.SUP_TS_LIMIT_VALUE k)) = true ∧ w.toNat ≠ s.fld (Fld.SUP_TS_LIMIT_VALUE k)) →
      ((sget (fun _ => ({} : Sensor)) s.sup.ts k).past = 0) → Completes (.sensorMeasure k (some w)) s fun t =>
      (sget (fun _ => ({} : Sensor)) t.sup.ts k).past = 1 ∧ t.sup.detect = s.sup.detect) ∧
    (∀ (k : Fin 24) (w : Word), s.tsOn k = true → s.inRange k w.toNat = true →
      (atOrPast (s.hotHigh k) w.toNat (s.fld (Fld.SUP_TS_LIMIT_VALUE k)) = true ∧ w.toNat ≠ s.fld (Fld.SUP_TS_LIMIT_VALUE k)) →
      Completes (.sensorMeasure k (some w)) s fun t =>
      (sget (fun _ => ({} : Sensor)) t.sup.ts k).past = (sget (fun _ => ({} : Sensor)) s.sup.ts k).past + 1 ∧
      (s.tsLimitOn k = false → t.sup.detect = s.sup.detect)) ∧
    (∀ (k : Fin 24) (w : Word), s.tsOn k = true → s.inRange k w.toNat = true →
      (¬ (atOrPast (s.hotHigh k) w.toNat (s.fld (Fld.SUP_TS_LIMIT_VALUE k)) = true ∧ w.toNat ≠ s.fld (Fld.SUP_TS_LIMIT_VALUE k))) →
      Completes (.sensorMeasure k (some w)) s fun t => (sget (fun _ => ({} : Sensor)) t.sup.ts k).past = 0 ∧
      t.sup.detect = s.sup.detect) ∧
    (∀ (k : Fin 24) (w : Word), s.tsOn k = true → 16 ≤ k.val →
      (w.toNat < (if s.bit (Fld.SUP_TS_CFG_MODE k) = true then 2560 else 1310720) ∨ (if s.bit (Fld.SUP_TS_CFG_MODE k) = true then
      2560000000 else 26214400) < w.toNat) → Completes (.sensorMeasure k (some w)) s fun t => t.fld (Fld.SUP_TS_STATUS_VALID k) = 0 ∧
      t.rd (Reg.SUP_TS_VALUE k) = s.rd (Reg.SUP_TS_VALUE k) ∧ t.fld Fld.SUP_EVENT_TS_INVALID = 1) ∧
    (∀ (k : Fin 24) (reading : Option Word), s.tsOn k = false → Completes (.sensorMeasure k reading) s fun t => t = s) ∧
    (∀ (r : Report), s.sup.reports = [r] → r.sev < 3 → (((s.errQueue r.sev).any fun e => e.rep.same r) = false) →
      (s.errQueue r.sev).length < 32 → Completes .errorReport s fun t => t.errQueue r.sev = s.errQueue r.sev ++ [⟨s.sup.seq, r, 0⟩] ∧
      t.fld ⟨Reg.SUP_ERR_DEPTH, 8 * r.sev, 6⟩ = (s.errQueue r.sev).length + 1 ∧ t.fld ⟨Reg.SUP_EVENT, 1 + r.sev, 1⟩ = 1 ∧
      t.sup.reports = [] ∧ t.sup.seq = (s.sup.seq + 1) % 256) ∧
    (∀ (r : Report), s.sup.reports = [r] → r.sev < 3 → (((s.errQueue r.sev).any fun e => e.rep.same r) = true) →
      Completes .errorReport s fun t => t.errQueue r.sev = (s.errQueue r.sev).map (fun e =>
      if e.rep.same r = true then { e with again := min 255 (e.again + 1) } else e) ∧ t.sup.seq = s.sup.seq ∧ t.sup.reports = []) ∧
    (∀ (r : Report), s.sup.reports = [r] → r.sev < 3 → (((s.errQueue r.sev).any fun e => e.rep.same r) = false) →
      32 ≤ (s.errQueue r.sev).length → Completes .errorReport s fun t => t.errQueue r.sev = s.errQueue r.sev ∧
      t.fld ⟨Reg.SUP_ERR_LOST, 8 * r.sev, 8⟩ = min 255 (s.fld ⟨Reg.SUP_ERR_LOST, 8 * r.sev, 8⟩ + 1) ∧
      t.fld Fld.SUP_EVENT_ERR_LOST = 1) ∧
    (∀ (r : Report), s.sup.reports = [r] → r.sev = 3 → Completes .errorReport s fun t =>
      (s.sup.s3 = none → t.errCurrent = some ⟨s.sup.seq, r, 0⟩) ∧ (s.sup.s3 ≠ none → t.sup.s3 = s.sup.s3) ∧
      (s.mode = 7 → t.fld Fld.SUP_TRIP_SEEN_S3 = 1) ∧ (s.mode ≠ 7 →
      t.sup.detect = s.sup.detect ++ [⟨0x20, 0, (r.cls, r.ev, r.inst), (if s.reelValid = true then s.reelNs else 0)⟩])) ∧
    (∀ (path : Path) (v : Word) (e : ErrEntry), s.accepts path Reg.SUP_ERR_ACK = true → s.sup.s3 = none → s.errCurrent = some e →
      v.toNat / 256 % 256 = e.seq → Completes (.errAck path v) s fun t => t.errQueue e.rep.sev = (s.errQueue e.rep.sev).drop 1 ∧
      (∀ x : Fin 3, x.val ≠ e.rep.sev → t.errQueue x = s.errQueue x) ∧ OnlyRegs [Reg.SUP_ERR_DEPTH] s t) ∧
    (∀ (path : Path) (v : Word), s.accepts path Reg.SUP_ERR_ACK = true →
      (s.sup.s3 ≠ none ∨ s.errCurrent = none ∨ (s.errCurrent.map (fun e => decide (v.toNat / 256 % 256 = e.seq))) = some false) →
      Completes (.errAck path v) s fun t => t.sup = s.sup ∧ t.regs = s.regs)

/-- Power states, resets and the test access port (R436, R483 to R502, R513 to R517, R530): a port sleeps and wakes by R489,
tolerances act from the next tick, counters accumulate, are copied and cleared; each reset leaves what R513 says, that of
software in the tick after its write, permits wait under R515; TAP instructions act at the levels that grant them and complete
with REFUSED otherwise. That TAP BYPASS captures 0, and the free data of a refusal, are the model's (log entry 49), and so is
what a counter holds of the time in a state (log entry 106). -/
def Obligations.PowerResetsAndTap : Prop :=
  ∀ (s : State), s.Wf →
    (∀ (p : Fin 256), s.gating = true → s.wakesAt p = none → s.parked p = true → Completes (.portStateChoice p) s fun t =>
      t.portState p = 3 ∧ (∀ q : Fin 256, q ≠ p → t.portState q = s.portState q)) ∧
    (∀ (p : Fin 256), s.gating = true → s.wakesAt p = none → s.parked p = false →
      (s.portBusy p = true ∨ ∃ n : Fin 64, s.possiblyUsed n p = true) → Completes (.portStateChoice p) s fun t =>
      t.portState p = max (s.portState p) 0 ∧ (0 < s.portState p →
      t.wakesAt p = some (s.tick + (if s.portState p = 1 then 20 else if s.portState p = 2 then 1000 else 150000)) ∧
      t.portState p = s.portState p ∧
      t.fld (Fld.PWR_GRP_WAKES_WAKES (portGroup p)) = satAdd (Fld.PWR_GRP_WAKES_WAKES (portGroup p)).w
      (s.fld (Fld.PWR_GRP_WAKES_WAKES (portGroup p))) 1) ∧ (∀ q : Fin 256, q ≠ p → t.portState q = s.portState q)) ∧
    (∀ (p : Fin 256), s.gating = true → s.wakesAt p = none → s.parked p = false → s.portBusy p = false →
      (∀ n : Fin 64, s.possiblyUsed n p = false) → s.unreachable p = true → Completes (.portStateChoice p) s fun t =>
      t.portState p = max (s.portState p) (if 300000 ≤ s.latTol (portGroup p) then 3 else if 2000 ≤ s.latTol (portGroup p) then 2 else
      if 40 ≤ s.latTol (portGroup p) then 1 else 0) ∧
      ((if 300000 ≤ s.latTol (portGroup p) then 3 else if 2000 ≤ s.latTol (portGroup p) then 2 else if 40 ≤ s.latTol (portGroup p)
      then 1 else 0) < s.portState p →
      t.wakesAt p = some (s.tick + (if s.portState p = 1 then 20 else if s.portState p = 2 then 1000 else 150000)) ∧
      t.portState p = s.portState p ∧
      t.fld (Fld.PWR_GRP_WAKES_WAKES (portGroup p)) = satAdd (Fld.PWR_GRP_WAKES_WAKES (portGroup p)).w
      (s.fld (Fld.PWR_GRP_WAKES_WAKES (portGroup p))) 1) ∧ (∀ q : Fin 256, q ≠ p → t.portState q = s.portState q)) ∧
    (∀ (p : Fin 256), s.gating = true → s.wakesAt p = none → s.parked p = false → s.portBusy p = false →
      (∀ n : Fin 64, s.possiblyUsed n p = false) → s.unreachable p = false → Completes (.portStateChoice p) s fun t =>
      t.portState p = max (s.portState p) (if 2000 ≤ s.latTol (portGroup p) ∧
      2008 * 2 ^ 32 < ((s.earliestUse p).elim (4000 * 2 ^ 32) (fun x => x - s.tln.reel)) then 2 else if 40 ≤ s.latTol (portGroup p) ∧
      48 * 2 ^ 32 < ((s.earliestUse p).elim (4000 * 2 ^ 32) (fun x => x - s.tln.reel)) then 1 else 0) ∧
      ((if 2000 ≤ s.latTol (portGroup p) ∧
      2008 * 2 ^ 32 < ((s.earliestUse p).elim (4000 * 2 ^ 32) (fun x => x - s.tln.reel)) then 2 else if 40 ≤ s.latTol (portGroup p) ∧
      48 * 2 ^ 32 < ((s.earliestUse p).elim (4000 * 2 ^ 32) (fun x => x - s.tln.reel)) then 1 else 0) < s.portState p →
      t.wakesAt p = some (s.tick + (if s.portState p = 1 then 20 else if s.portState p = 2 then 1000 else 150000)) ∧
      t.portState p = s.portState p ∧
      t.fld (Fld.PWR_GRP_WAKES_WAKES (portGroup p)) = satAdd (Fld.PWR_GRP_WAKES_WAKES (portGroup p)).w
      (s.fld (Fld.PWR_GRP_WAKES_WAKES (portGroup p))) 1) ∧ (∀ q : Fin 256, q ≠ p → t.portState q = s.portState q)) ∧
    (∀ (p : Fin 256), s.gating = false ∨ s.wakesAt p ≠ none → Completes (.portStateChoice p) s fun t => t = s) ∧
    (∀ (p : Fin 256) (x : Nat), s.wakesAt p = some x → x ≤ s.tick → s.mode ≠ 7 → Completes (.portWakeDone p) s fun t =>
      t.portState p = 0 ∧ t.wakesAt p = none ∧ (∀ q : Fin 256, q ≠ p → t.portState q = s.portState q)) ∧
    (∀ (p : Fin 256), (s.wakesAt p = none ∨ (∃ x ∈ s.wakesAt p, s.tick < x) ∨ s.mode = 7) → Completes (.portWakeDone p) s fun t =>
      t = s) ∧
    (∀ (path : Path) (g : Fin 16) (v : Word), s.accepts path (Reg.PWR_LAT_TOL g) = true → Completes (.latTolWrite path g v) s fun t =>
      t.fld (Fld.PWR_LAT_TOL_NS g) = v.toNat ∧ t.latTol g = s.latTol g ∧ OnlyRegs [Reg.PWR_LAT_TOL g] s t) ∧
    (∀ (path : Path) (v : Word), s.accepts path Reg.PWR_DORM_TOL = true → Completes (.dormTolWrite path v) s fun t =>
      t.fld Fld.PWR_DORM_TOL_NS = v.toNat ∧ (s.mode = 2 → t.later = s.later ++ [(s.tick + 1, .dormTol)]) ∧
      (s.mode ≠ 2 → t.later = s.later) ∧ OnlyRegs [Reg.PWR_DORM_TOL] s t) ∧
    (∀ (nj : List Nat) (total : Nat), (∀ k : Fin 64, sget (fun _ => 0) s.pwr.res k < 500 * 2 ^ 32) →
      Completes (.energySample nj total) s fun t =>
      sget (fun _ => 0) t.pwr.energy 16 = (sget (fun _ => 0) s.pwr.energy 16 + total) % (1000 * 2 ^ 64) ∧
      (∀ g : Fin 16, sget (fun _ => 0) t.pwr.energy g = (sget (fun _ => 0) s.pwr.energy g + nj.getD g 0) % (1000 * 2 ^ 64)) ∧
      (∀ k : Fin 64, sget (fun _ => 0) t.pwr.res k = ((sget (fun _ => 0) s.pwr.res k.val + ((List.range 256).map fun p =>
      if 4 * portGroup p + s.portState p = k.val then s.uncounted p else 0).sum) % (500 * 2 ^ 32))) ∧
      (∀ p : Fin 256, t.uncounted p = 0) ∧ t.regs = s.regs) ∧
    (∀ (path : Path) (v : Word), s.accepts path Reg.PWR_CMD = true → (∀ k : Fin 64, sget (fun _ => 0) s.pwr.res k < 500 * 2 ^ 32) →
      Completes (.energySnap path v) s fun t => t.rd64 Reg.PWR_SNAP_REEL_LO = s.reelNs % 2 ^ 64 ∧
      t.rd64 Reg.PWR_TOTAL_ENERGY_LO = sget (fun _ => 0) s.pwr.energy 16 / 1000 % 2 ^ 64 ∧
      t.rd64 Reg.PWR_PULSES_LO = s.pwr.pulses % 2 ^ 64 ∧ t.rd64 Reg.PWR_DECISIONS_LO = s.pwr.decisions % 2 ^ 64 ∧
      (∀ g : Fin 16, t.rd64 (Reg.PWR_GRP_ENERGY_LO g) = sget (fun _ => 0) s.pwr.energy g / 1000 % 2 ^ 64 ∧
      (∀ k : Fin 4, (t.rd (Reg.PWR_GRP_RES g k)).toNat = ((sget (fun _ => 0) s.pwr.res (4 * g.val + k.val) + ((List.range 256).map fun
      p => if 4 * portGroup p + s.portState p = (4 * g.val + k.val) then s.uncounted p else 0).sum) % (500 * 2 ^ 32)) / 500)) ∧
      (if v.getLsbD 1 = true then t.pwr.resTo = s.tick ∧ t.pwr.since = [] ∧ t.pwr.pulses = 0 ∧ t.pwr.decisions = 0 ∧
      t.pwr.energy = [] ∧ t.pwr.res = [] else t.pwr = (countPorts s).pwr)) ∧
    (∀ (path : Path) (v : Word), s.accepts path Reg.PWR_CMD = true → Completes (.energyClear path v) s fun t => t.pwr.resTo = s.tick ∧
      t.pwr.since = [] ∧ t.pwr.pulses = 0 ∧ t.pwr.decisions = 0 ∧ t.pwr.energy = [] ∧ t.pwr.res = [] ∧
      (v.getLsbD 0 = false → t.regs = s.regs) ∧ (v.getLsbD 0 = true → t.rd64 Reg.PWR_PULSES_LO = s.pwr.pulses % 2 ^ 64)) ∧
    (Completes .powerOnReset s fun t => t.mode = 0 ∧ t.sram = [] ∧ t.dram = [] ∧ t.sup.permits = false ∧ t.permitted = false ∧
      t.sec.lcs = s.sec.lcs ∧ t.sec.kek = s.sec.kek ∧ t.sec.minSvn = s.sec.minSvn ∧ t.sec.prov = none ∧ t.sec.chal = none ∧
      t.sec.kekReadable = false ∧ (∀ b : Fin 64, t.rd (Reg.SYN_BIA_NOW b) = s.rd (Reg.SYN_BIA_NOW b)) ∧ t.pending = s.pending ∧
      (∀ off, isBiaNow off = false → t.rd off = regReset off) ∧ t.sup.queues = [] ∧ t.sup.s3 = none ∧ t.glb.released = false ∧
      t.glb.syncTick = s.tick ∧ t.tap.drive = none ∧ t.tap.dr = 0x10256A4D) ∧
    (Completes (.systemReset none) s fun t => t.mode = 0 ∧ t.sram = [] ∧ t.dram = [] ∧ t.sup.permits = false ∧ t.permitted = false ∧
      t.sec.lcs = s.sec.lcs ∧ t.sec.kek = s.sec.kek ∧ t.sec.minSvn = s.sec.minSvn ∧ t.sec.prov = none ∧ t.sec.chal = none ∧
      t.sec.kekReadable = false ∧ (∀ b : Fin 64, t.rd (Reg.SYN_BIA_NOW b) = s.rd (Reg.SYN_BIA_NOW b)) ∧ t.pending = s.pending ∧
      t.fld Fld.SEC_STATUS_LEVEL = (if s.blank = true then 3 else 0) ∧ t.fld Fld.SUP_STATUS_TRIPPED = 0 ∧
      t.rd Reg.SUP_TRIP = s.rd Reg.SUP_TRIP ∧ t.rd Reg.SUP_TRIP_SEEN = s.rd Reg.SUP_TRIP_SEEN ∧
      t.sup.held = (s.sup.held || decide (s.mode = 7)) ∧ t.tap.drive = none ∧
      t.fld Fld.CSC_STATUS_STRAP = s.fld Fld.CSC_STATUS_STRAP ∧ t.fld Fld.GLB_RST_STATUS_CAUSE = 1 ∧
      t.fld Fld.GLB_RST_STATUS_RAIL = s.fld Fld.GLB_RST_STATUS_RAIL ∧ (∀ off, off < 0x30000 ∨ 0x40000 ≤ off → isBiaNow off = false →
      off ∉ [Reg.GLB_MODE_STATUS, Reg.GLB_RST_STATUS, Reg.CSC_STATUS, Reg.HIF_EVENT, Reg.SEC_STATUS, Reg.SEC_FUSE, Reg.SEC_EVENT,
      Reg.RDO_STATUS, Reg.MEM_STATUS] → t.rd off = regReset off)) ∧
    (∀ (k : Fin 24), k.val < 2 ∨ 5 < k.val → Completes (.systemReset (some k)) s fun t => t.mode = 0 ∧ t.sram = [] ∧ t.dram = [] ∧
      t.sup.permits = false ∧ t.permitted = false ∧ t.sec.lcs = s.sec.lcs ∧ t.sec.kek = s.sec.kek ∧ t.sec.minSvn = s.sec.minSvn ∧
      t.sec.prov = none ∧ t.sec.chal = none ∧ t.sec.kekReadable = false ∧
      (∀ b : Fin 64, t.rd (Reg.SYN_BIA_NOW b) = s.rd (Reg.SYN_BIA_NOW b)) ∧ t.pending = s.pending ∧
      t.fld Fld.SEC_STATUS_LEVEL = (if s.blank = true then 3 else 0) ∧ t.fld Fld.SUP_STATUS_TRIPPED = 0 ∧
      t.rd Reg.SUP_TRIP = s.rd Reg.SUP_TRIP ∧ t.rd Reg.SUP_TRIP_SEEN = s.rd Reg.SUP_TRIP_SEEN ∧
      t.sup.held = (s.sup.held || decide (s.mode = 7)) ∧ t.tap.drive = none ∧
      t.fld Fld.CSC_STATUS_STRAP = s.fld Fld.CSC_STATUS_STRAP ∧ t.fld Fld.GLB_RST_STATUS_CAUSE = 2 ∧
      t.fld Fld.GLB_RST_STATUS_RAIL = k ∧ (∀ off, off < 0x30000 ∨ 0x40000 ≤ off → isBiaNow off = false →
      off ∉ [Reg.GLB_MODE_STATUS, Reg.GLB_RST_STATUS, Reg.CSC_STATUS, Reg.HIF_EVENT, Reg.SEC_STATUS, Reg.SEC_FUSE, Reg.SEC_EVENT,
      Reg.RDO_STATUS, Reg.MEM_STATUS] → t.rd off = regReset off)) ∧
    (∀ (k : Fin 24), (2 ≤ k.val ∧ k.val ≤ 5) → Completes (.systemReset (some k)) s fun t => t = s) ∧
    (∀ (v : Word), s.accepts .bar0 Reg.GLB_RST_CTL = true → v.toNat / 2 ^ 24 = 0x5A → v.getLsbD 0 = true → s.mode ≠ 7 →
      Completes (.softwareReset .bar0 v) s fun t => t.later = s.later ++ [(s.tick + 1, .softReset)] ∧ t.regs = s.regs ∧
      t.sram = s.sram ∧ t.dram = s.dram ∧ t.sup = s.sup) ∧
    ((s.tick + 1, .softReset) ∈ s.later → Completes .reelAdvance s fun t => t.mode = 0 ∧ t.sram = [] ∧ t.dram = [] ∧
      t.sup.permits = false ∧ t.permitted = false ∧ t.sec.lcs = s.sec.lcs ∧ t.sec.kek = s.sec.kek ∧ t.sec.minSvn = s.sec.minSvn ∧
      t.sec.prov = none ∧ t.sec.chal = none ∧ t.sec.kekReadable = false ∧
      (∀ b : Fin 64, t.rd (Reg.SYN_BIA_NOW b) = s.rd (Reg.SYN_BIA_NOW b)) ∧ t.pending = s.pending ∧
      t.fld Fld.SEC_STATUS_LEVEL = (if s.blank = true then 3 else 0) ∧ t.fld Fld.SUP_STATUS_TRIPPED = 0 ∧
      t.rd Reg.SUP_TRIP = s.rd Reg.SUP_TRIP ∧ t.rd Reg.SUP_TRIP_SEEN = s.rd Reg.SUP_TRIP_SEEN ∧
      t.sup.held = (s.sup.held || decide (s.mode = 7)) ∧ t.tap.drive = none ∧
      t.fld Fld.CSC_STATUS_STRAP = s.fld Fld.CSC_STATUS_STRAP ∧ t.fld Fld.GLB_RST_STATUS_CAUSE = 3 ∧ t.tick = s.tick + 1 ∧
      (∀ off, 0x10000 ≤ off → off < 0x20000 → off ≠ Reg.HIF_EVENT → (∀ q : Fin 64, off ≠ Reg.HIF_Q_WAIT q ∧
      off ≠ Reg.HIF_Q_STATUS q) → t.rd off = s.rd off) ∧ (∀ off, off < 0x30000 ∨ 0x40000 ≤ off → off < 0x10000 ∨ 0x20000 ≤ off →
      isBiaNow off = false →
      off ∉ [Reg.GLB_MODE_STATUS, Reg.GLB_RST_STATUS, Reg.CSC_STATUS, Reg.HIF_EVENT, Reg.SEC_STATUS, Reg.SEC_FUSE, Reg.SEC_EVENT,
      Reg.RDO_STATUS, Reg.MEM_STATUS] → t.rd off = regReset off)) ∧
    (∀ (path : Path) (v : Word), s.accepts path Reg.GLB_RST_CTL = true →
      path ≠ .bar0 ∨ v.toNat / 2 ^ 24 ≠ 0x5A ∨ v.getLsbD 0 = false ∨ s.mode = 7 → Completes (.softwareReset path v) s fun t =>
      t.regs = s.regs ∧ t.sup = s.sup ∧ t.sram = s.sram ∧ t.dram = s.dram) ∧
    (Completes .endpointReset s fun t => (∀ off, 0x10000 ≤ off → off < 0x20000 → t.rd off = regReset off) ∧
      (∀ q : Fin 64, t.dmaJob q = none) ∧ t.mode = s.mode ∧ t.sram = s.sram ∧ t.dram = s.dram ∧
      (s.blank = false → t.fld Fld.SEC_STATUS_LEVEL = 0)) ∧
    (s.sup.permits = false → s.glb.released = true → s.mode ≠ 7 → s.ramping = false → s.sup.held = false ∨ s.activeBits = 0 →
      Completes .permitsRestore s fun t => t.sup.permits = true ∧ t.sup.held = false ∧ t.sup.s3 = none ∧ t.regs = s.regs) ∧
    ((s.sup.permits = true ∨ s.glb.released = false ∨ s.mode = 7 ∨ s.ramping = true ∨ (s.sup.held = true ∧ s.activeBits ≠ 0)) →
      Completes .permitsRestore s fun t => t = s) ∧
    (∀ (strap : Bool) (addr : BitVec 2), s.glb.released = false → Completes (.porstNRelease strap addr) s fun t =>
      t.glb.released = true ∧ t.hif.smbAddr = addr.toNat ∧ t.fld Fld.CSC_STATUS_STRAP = b2n strap ∧
      t.fld Fld.SEC_STATUS_LEVEL = (if s.blank = true then 3 else 0) ∧ t.fld Fld.SEC_STATUS_MIN_SVN = s.sec.minSvn % 64 ∧
      t.fld Fld.SEC_FUSE_KEK_PRESENT = b2n s.sec.kek.isSome ∧ t.mode = 0 ∧ t.sram = [] ∧ t.dram = [] ∧ t.sup.permits = false) ∧
    (∀ (strap : Bool) (addr : BitVec 2), s.glb.released = true → Completes (.porstNRelease strap addr) s fun t => t = s) ∧
    (∀ (cells : List Bool), s.blank = true → s.mode = 0 → s.fld Fld.SEC_STATUS_LEVEL = 3 → Completes (.tapExtest cells) s fun t =>
      t.tap.ir = 0 ∧ t.tap.drive = some cells ∧ t.tap.cells = cells ∧ t.regs = s.regs) ∧
    (∀ (cells : List Bool), s.blank = false ∨ s.mode ≠ 0 ∨ s.fld Fld.SEC_STATUS_LEVEL ≠ 3 → Completes (.tapExtest cells) s fun t =>
      t.tap.ir = 0 ∧ t.tap.dr / 2 ^ 27 % 4 = 3 ∧ t.tap.drive = none ∧ t.regs = s.regs ∧ t.sram = s.sram ∧ t.dram = s.dram ∧
      t.resp = s.resp) ∧
    (∀ (cells : List Bool), Completes (.tapSamplePreload cells) s fun t => t.tap.ir = 1 ∧ t.tap.cells = cells ∧
      t.tap.captured.length = cells.length ∧ t.tap.drive = none ∧ t.regs = s.regs) ∧
    (Completes .tapIdcode s fun t => t.tap.ir = 2 ∧ t.tap.dr = 0x10256A4D ∧ t.tap.drive = none ∧ t.regs = s.regs) ∧
    (Completes .tapBypass s fun t => t.tap.ir = 0xFF ∧ t.tap.dr = 0 ∧ t.tap.drive = none ∧ t.regs = s.regs) ∧
    (∀ (off : BitVec 26) (write : Bool) (v : Word), secAuth off.toNat = false → Completes (.tapSecAcc off write v) s fun t =>
      t.tap.ir = 0x10 ∧ t.tap.dr / 2 ^ 27 % 4 = 3 ∧ t.tap.drive = none ∧ t.regs = s.regs ∧ t.sram = s.sram ∧ t.dram = s.dram ∧
      t.resp = s.resp) ∧
    (∀ (off : BitVec 26) (v : Word) (d : RegDesc), s.glb.released = true → secAuth off.toNat = true → regDesc off.toNat = some d →
      d.half = .none → elem off.toNat (Reg.SUP_MADC_RESULT 0) 0x10 2 = none → off.toNat ≠ Reg.TLN_REEL_FRAC → off.toNat % 4 = 0 →
      Completes (.tapSecAcc off false v) s fun t => t.tap.ir = 0x10 ∧ t.tap.dr / 2 ^ 27 % 4 = 1 ∧ t.tap.drive = none ∧
      t.tap.dr / 2 ^ 32 % 2 ^ 32 = (s.live off.toNat).toNat ∧ t.regs = s.regs ∧ t.resp = s.resp) ∧
    (∀ (off : BitVec 26) (x : Fin 64) (v : Word), s.glb.released = true → off.toNat = Reg.SEC_BUF x →
      s.checkBlocks (Reg.SEC_BUF x) = false → Completes (.tapSecAcc off true v) s fun t => t.tap.ir = 0x10 ∧
      t.tap.dr / 2 ^ 27 % 4 = 1 ∧ t.tap.drive = none ∧ t.rd (Reg.SEC_BUF x) = v ∧ OnlyRegs [Reg.SEC_BUF x] s t) ∧
    (∀ (off : BitVec 26) (write : Bool) (v : Word), (s.fld Fld.SEC_STATUS_LEVEL = 0 ∨ (write = true ∧ s.fld Fld.SEC_STATUS_LEVEL < 2)
      ∨ (write = false ∧ inSec off.toNat = true)) → Completes (.tapBar0Acc off write v) s fun t => t.tap.ir = 0x11 ∧
      t.tap.dr / 2 ^ 27 % 4 = 3 ∧ t.tap.drive = none ∧ t.regs = s.regs ∧ t.sram = s.sram ∧ t.dram = s.dram ∧ t.resp = s.resp) ∧
    (∀ (off : BitVec 26) (v : Word) (d : RegDesc), s.glb.released = true → 1 ≤ s.fld Fld.SEC_STATUS_LEVEL → inSec off.toNat = false →
      regDesc off.toNat = some d → d.half = .none → elem off.toNat (Reg.SUP_MADC_RESULT 0) 0x10 2 = none →
      off.toNat ≠ Reg.TLN_REEL_FRAC → off.toNat % 4 = 0 → Completes (.tapBar0Acc off false v) s fun t => t.tap.ir = 0x11 ∧
      t.tap.dr / 2 ^ 27 % 4 = 1 ∧ t.tap.drive = none ∧ t.tap.dr / 2 ^ 32 % 2 ^ 32 = (s.live off.toNat).toNat ∧ t.regs = s.regs ∧
      t.resp = s.resp) ∧
    (∀ (off : BitVec 26) (v : Word), s.glb.released = true → 2 ≤ s.fld Fld.SEC_STATUS_LEVEL → off.toNat = Reg.HIF_SMB_MBOX_OUT →
      s.checkBlocks Reg.HIF_SMB_MBOX_OUT = false → Completes (.tapBar0Acc off true v) s fun t => t.tap.ir = 0x11 ∧
      t.tap.dr / 2 ^ 27 % 4 = 1 ∧ t.tap.drive = none ∧ t.rd Reg.HIF_SMB_MBOX_OUT = v ∧ OnlyRegs [Reg.HIF_SMB_MBOX_OUT] s t) ∧
    (∀ (bar4 write : Bool) (addr : BitVec 64) (v : Word), write = true ∨ s.fld Fld.SEC_STATUS_LEVEL ≠ 3 →
      Completes (.tapMemAcc bar4 write addr v) s fun t => t.tap.ir = 0x12 ∧ t.tap.dr / 2 ^ 27 % 4 = 3 ∧ t.tap.drive = none ∧
      t.regs = s.regs ∧ t.sram = s.sram ∧ t.dram = s.dram ∧ t.resp = s.resp) ∧
    (∀ (addr : BitVec 64) (v : Word), s.fld Fld.SEC_STATUS_LEVEL = 3 → s.mode ≠ 0 → addr.toNat + 4 ≤ 0x4000000 →
      (∀ i : Fin 4, inHistory (addr.toNat + i.val) = false) → Completes (.tapMemAcc false false addr v) s fun t => t.tap.ir = 0x12 ∧
      t.tap.dr / 2 ^ 27 % 4 = 1 ∧ t.tap.drive = none ∧ t.tap.dr / 2 ^ 32 % 2 ^ 32 = s.sramNat addr.toNat 4 ∧ t.sram = s.sram ∧
      t.dram = s.dram) ∧
    (∀ (addr : BitVec 64) (v : Word), s.fld Fld.SEC_STATUS_LEVEL = 3 → (s.mode ≠ 0 ∧ s.mode ≠ 2) → addr.toNat + 4 ≤ 0x2000000000 →
      Completes (.tapMemAcc true false addr v) s fun t => t.tap.ir = 0x12 ∧
      t.mem.held = s.mem.held ++ [(s.mem.seq, .tap addr.toNat)] ∧ t.regs = s.regs ∧ t.dram = s.dram) ∧
    (∀ (key : Byte), s.glb.released = false → Completes (.reqLoad .bar0 key) s fun t => t.regs = s.regs ∧ t.glb = s.glb ∧
      t.later = s.later)

/-- Decode and encode agree on control-store words (R94 to R97, R540): a word in which no field encoding is reserved, with every
operand at every value, decodes to itself from its encoding, and its encoding fits in 128 bits. -/
def Obligations.MicroRoundTrip : Prop :=
  ∀ m : MicroWord, m.legal = true → m.encode < 2 ^ 128 ∧ decodeMicro m.encode = some m

/-- What power-on reset leaves (R13, R14, R34): M0, the registers named here at the reset values of their tables, the spindles,
DMA queues and monitors not enabled, the permit waves stopped, and no command waiting. That memory that nothing has written
reads 0 is the model's choice (log entries 3 and 4), and so is the Mask bit of an MSI-X entry (log entry 7). -/
def Obligations.ResetValues : Prop :=
  State.reset.mode = 0 ∧ State.reset.reelState = 0 ∧ State.reset.rd Reg.SEC_STATUS = 0x300 ∧ State.reset.rd Reg.SUP_QUIET = 4 ∧
    State.reset.rd Reg.TLN_JUMP_LIMIT = 1000 ∧ State.reset.rd Reg.TLN_SLEW_MAX = 0x418937 ∧ State.reset.rd Reg.TLN_LOCK_CFG = 0x80100 ∧
    State.reset.rd Reg.TLN_SERVO_KP = 0x200000 ∧ State.reset.rd Reg.TLN_SERVO_KI = 0x4000 ∧ State.reset.rd Reg.CSC_RATE_LEAD = 1024 ∧
    State.reset.rd Reg.CSC_RRA_TIMEOUT = 1000 ∧ State.reset.rd Reg.MEM_ARB2 = 0x07D02710 ∧ State.reset.rd Reg.MEM_SCRUB_CFG = 0x1801 ∧
    State.reset.rd Reg.MEM_CE_THRESH = 16 ∧
    (∀ w : Fin 16, State.reset.rd (Reg.PWR_PORT_STATE w) = 0xFFFFFFFF ∧ State.reset.rd (Reg.HIF_VEC_REARM w) = 0xFFFFFFFF) ∧
    (∀ a : Fin 16, State.reset.rd (Reg.RDO_ACQ_ATT a) = 31 ∧ State.reset.rd (Reg.SUP_TS_LIMIT a) = 0x017A0000 ∧
      State.reset.fld (Fld.SUP_TS_CFG_EN a) = 1 ∧ State.reset.rd (Reg.SUP_TS_EDGE a 0) = 0x014D0000 ∧
      State.reset.rd (Reg.SUP_TS_EDGE a 3) = 0x01700000) ∧
    (∀ n : Fin 64, State.reset.fld (Fld.SPN_CTL_EN n) = 0 ∧ State.reset.fld (Fld.HIF_Q_CFG_EN n) = 0) ∧
    (∀ m : Fin 240, State.reset.fld (Fld.SUP_MON_CFG_EN m) = 0) ∧
    (∀ off, State.reset.sramByte off = 0 ∧ State.reset.dramByte off = 0) ∧ State.reset.permitted = false ∧ State.reset.pending = []

/-- When the digital die sees no permit wave on the global permit line for 2 µs, it enters M7 (R445). -/
def Obligations.PermitLossEntersSafe : Prop :=
  ∀ (s : State), s.Wf →
    (Completes .permitLoss s fun t => t.mode = 7)
end

