-- ==== Sys2Proof/Laws/Sparse.lean ====
section
/-! SUPPORT. Laws/Sparse.lean: the sparse lists of Machine/Sparse.lean: a read after a write, and that writing and dropping keep the
canonical form. -/

set_option Elab.async false

namespace Sys2Proof.Machine

variable {α : Type} [DecidableEq α] {d : Nat → α}

theorem sparseFrom_cons {lo k : Nat} {v : α} {m : List (Nat × α)} :
    sparseFrom d lo ((k, v) :: m) = true ↔ lo ≤ k ∧ v ≠ d k ∧ sparseFrom d (k + 1) m = true := by
  simp [sparseFrom, and_assoc]

theorem sparseFrom_mono {lo lo' : Nat} {m : List (Nat × α)} (h : sparseFrom d lo m = true) (hl : lo' ≤ lo) :
    sparseFrom d lo' m = true := by
  cases m with
  | nil => rfl
  | cons p m => rw [sparseFrom_cons] at *; exact ⟨by omega, h.2⟩

/-- An index below a list's range holds what an unlisted index holds. -/
theorem sget_below {lo k : Nat} {m : List (Nat × α)} (h : sparseFrom d lo m = true) (hk : k < lo) : sget d m k = d k := by
  induction m generalizing lo with
  | nil => rfl
  | cons p m ih =>
    rw [sparseFrom_cons] at h
    unfold sget
    rw [if_neg (by omega)]
    exact ih h.2.2 (by omega)

/-- Writing keeps the canonical form. -/
theorem sparseFrom_sset {lo k : Nat} {v : α} {m : List (Nat × α)} (h : sparseFrom d lo m = true) (hk : lo ≤ k) :
    sparseFrom d lo (sset d m k v) = true := by
  induction m generalizing lo with
  | nil => unfold sset; split <;> simp_all [sparseFrom]
  | cons p m ih =>
    obtain ⟨k', w⟩ := p
    have h' := sparseFrom_cons.mp h
    unfold sset
    split
    · split
      · exact h
      · rw [sparseFrom_cons, sparseFrom_cons]; exact ⟨hk, ‹_›, by omega, h'.2⟩
    · split
      · split
        · exact sparseFrom_mono h'.2.2 (by omega)
        · subst k'; rw [sparseFrom_cons]; exact ⟨hk, ‹_›, h'.2.2⟩
      · rw [sparseFrom_cons]; exact ⟨h'.1, h'.2.1, ih h'.2.2 (by omega)⟩

/-- A read of the index just written gives the value written. -/
theorem sget_sset_same {lo k : Nat} {v : α} {m : List (Nat × α)} (h : sparseFrom d lo m = true) :
    sget d (sset d m k v) k = v := by
  induction m generalizing lo with
  | nil => unfold sset; split <;> simp_all [sget]
  | cons p m ih =>
    obtain ⟨k', w⟩ := p
    have h' := sparseFrom_cons.mp h
    unfold sset
    split
    · split
      · rw [‹v = d k›]; unfold sget; rw [if_neg (by omega)]; exact sget_below h'.2.2 (by omega)
      · simp [sget]
    · split
      · split
        · rw [‹v = d k›]; exact sget_below h'.2.2 (by omega)
        · simp [sget]
      · unfold sget; rw [if_neg ‹_›]; exact ih h'.2.2

/-- A write leaves every other index alone. -/
theorem sget_sset_other {k j : Nat} {v : α} {m : List (Nat × α)} (hj : j ≠ k) : sget d (sset d m k v) j = sget d m j := by
  induction m with
  | nil => unfold sset; split <;> simp [sget, hj]
  | cons p m ih =>
    obtain ⟨k', w⟩ := p
    unfold sset
    split
    · split
      · rfl
      · simp [sget, hj]
    · split
      · subst k'
        split <;> simp [sget, hj]
      · simp only [sget]; split
        · rfl
        · exact ih

/-- Dropping a range keeps the canonical form. -/
theorem sparseFrom_sdrop {lo a b : Nat} {m : List (Nat × α)} (h : sparseFrom d lo m = true) :
    sparseFrom d lo (sdrop a b m) = true := by
  induction m generalizing lo with
  | nil => rfl
  | cons p m ih =>
    obtain ⟨k, w⟩ := p
    have h' := sparseFrom_cons.mp h
    have hm := ih h'.2.2
    unfold sdrop at *
    rw [List.filter_cons]
    split
    · rw [sparseFrom_cons]; exact ⟨h'.1, h'.2.1, hm⟩
    · exact sparseFrom_mono hm (by omega)

omit [DecidableEq α] in
/-- An index outside a dropped range keeps what it holds. -/
theorem sget_sdrop_outside {a b k : Nat} {m : List (Nat × α)} (hk : ¬(a ≤ k ∧ k < b)) :
    sget d (sdrop a b m) k = sget d m k := by
  induction m with
  | nil => rfl
  | cons p m ih =>
    obtain ⟨k', w⟩ := p
    unfold sdrop at *
    rw [List.filter_cons]
    split
    · simp only [sget]; split
      · rfl
      · exact ih
    · rename_i hd
      have : k ≠ k' := by rintro rfl; simp at hd; omega
      simp only [sget, if_neg this]; exact ih

theorem sparseWf_sset {k : Nat} {v : α} {m : List (Nat × α)} (h : sparseWf d m = true) : sparseWf d (sset d m k v) = true :=
  sparseFrom_sset h (Nat.zero_le k)

/-- A map built by stores is in canonical form. -/
theorem sparseWf_fold {β : Type} {key : β → Nat} {val : β → α} {l : List β} {m : List (Nat × α)} (h : sparseWf d m = true) :
    sparseWf d (l.foldl (fun m q => sset d m (key q) (val q)) m) = true := by
  induction l generalizing m with
  | nil => exact h
  | cons a l ih => exact ih (sparseWf_sset h)

theorem sparseWf_sdrop {a b : Nat} {m : List (Nat × α)} (h : sparseWf d m = true) : sparseWf d (sdrop a b m) = true :=
  sparseFrom_sdrop h

theorem sparseWf_nil : sparseWf d [] = true := rfl

/-- Leaving entries out keeps the canonical form. -/
theorem sparseFrom_filter {lo : Nat} {q : Nat × α → Bool} {m : List (Nat × α)} (h : sparseFrom d lo m = true) :
    sparseFrom d lo (m.filter q) = true := by
  induction m generalizing lo with
  | nil => rfl
  | cons p m ih =>
    obtain ⟨k, w⟩ := p
    have h' := sparseFrom_cons.mp h
    have hm := ih h'.2.2
    rw [List.filter_cons]
    split
    · rw [sparseFrom_cons]; exact ⟨h'.1, h'.2.1, hm⟩
    · exact sparseFrom_mono hm (by omega)

theorem sparseWf_filter {q : Nat × α → Bool} {m : List (Nat × α)} (h : sparseWf d m = true) : sparseWf d (m.filter q) = true :=
  sparseFrom_filter h

/-- Changing the values held keeps the canonical form. -/
theorem sparseFrom_smap {lo : Nat} {f : α → α} {m : List (Nat × α)} (h : sparseFrom d lo m = true) :
    sparseFrom d lo (smap d f m) = true := by
  induction m generalizing lo with
  | nil => rfl
  | cons p m ih =>
    obtain ⟨k, w⟩ := p
    have h' := sparseFrom_cons.mp h
    have hm := ih h'.2.2
    unfold smap at *
    rw [List.map_cons, List.filter_cons]
    split
    · rename_i hd; rw [sparseFrom_cons]; exact ⟨h'.1, by simpa using hd, hm⟩
    · exact sparseFrom_mono hm (by omega)

theorem sparseWf_smap {f : α → α} {m : List (Nat × α)} (h : sparseWf d m = true) : sparseWf d (smap d f m) = true :=
  sparseFrom_smap h

end Sys2Proof.Machine
end

