-- ==== Sys2Proof/Laws/Frame.lean ====
section
/-! SUPPORT. Laws/Frame.lean: footprints compose, and the footprint of each named operation of Machine/Ops.lean. -/

set_option Elab.async false

namespace Sys2Proof.Machine

variable {R R' : Option (List RegRow)} {P P' : List Part} {s t u : State}

/-- One list of rows lies within another. -/
def rowsLe : Option (List RegRow) → Option (List RegRow) → Bool
  | _, none => true
  | none, some _ => false
  | some l, some l' => l.all fun r => l'.elem r

/-- One list of parts lies within another. -/
def partsLe (l l' : List Part) : Bool := l.all fun p => l'.elem p

theorem partsLe_mem (h : partsLe P P' = true) {p : Part} (hp : p ∈ P) : p ∈ P' := by
  simp only [partsLe, List.all_eq_true, List.elem_eq_mem, decide_eq_true_eq] at h
  exact h p hp

theorem inRows_le (h : rowsLe R R' = true) {off : Nat} (ho : inRows R off) : inRows R' off := by
  cases R' with
  | none => trivial
  | some l' =>
    cases R with
    | none => cases h
    | some l =>
      simp only [rowsLe, List.all_eq_true, List.elem_eq_mem, decide_eq_true_eq] at h
      obtain ⟨r, hr, hb⟩ := ho
      exact ⟨r, h r hr, hb⟩

theorem rowsLe_trans {R'' : Option (List RegRow)} (h : rowsLe R R' = true) (h' : rowsLe R' R'' = true) : rowsLe R R'' = true := by
  cases R'' with
  | none => rfl
  | some l'' =>
    cases R' with
    | none => cases h'
    | some l' =>
      cases R with
      | none => cases h
      | some l =>
        simp only [rowsLe, List.all_eq_true, List.elem_eq_mem, decide_eq_true_eq] at *
        exact fun r hr => h' r (h r hr)

theorem partsLe_trans {P'' : List Part} (h : partsLe P P' = true) (h' : partsLe P' P'' = true) : partsLe P P'' = true := by
  simp only [partsLe, List.all_eq_true, List.elem_eq_mem, decide_eq_true_eq] at *
  exact fun p hp => h' p (h p hp)

/-- A register of a row lies within a list that names the row. -/
theorem inRows_of {r : RegRow} {off : Nat} (h : rowsLe (some [r]) R = true) (ho : r.has off) : inRows R off :=
  inRows_le h ⟨r, by simp, ho⟩

theorem hiShift1 {a b c : Nat} (h : a + 4 = b) : a + c + 4 = b + c := by omega

theorem hiShift2 {a b c d : Nat} (h : a + 4 = b) : a + c + d + 4 = b + c + d := by omega

/-- A part whose fields are unchanged is as sound as before. -/
theorem Part.sound_of_same {p : Part} (h : p.same s t) (hs : p.sound s) : p.sound t := by
  cases p <;> simp only [Part.same] at h <;> simp only [Part.sound, h] at * <;> exact hs

theorem State.Wf.part (h : s.Wf) (p : Part) : p.sound s := h.parts p

theorem Frame.refl : Frame R P s s := ⟨fun _ _ => rfl, fun p _ => by cases p <;> simp [Part.same], id⟩

theorem Part.same_trans {p : Part} (h : p.same s t) (h' : p.same t u) : p.same s u := by
  cases p <;> simp only [Part.same] at * <;> simp only [h', h, and_self]

theorem Frame.trans (h : Frame R P s t) (h' : Frame R P t u) : Frame R P s u :=
  ⟨fun off ho => (h'.regs off ho).trans (h.regs off ho), fun p hp => Part.same_trans (h.same p hp) (h'.same p hp),
   fun hs => h'.sound (h.sound hs)⟩

/-- A footprint may be widened. -/
theorem Frame.mono (h : Frame R P s t) (hr : rowsLe R R' = true) (hp : partsLe P P' = true) : Frame R' P' s t :=
  ⟨fun off ho => h.regs off fun hb => ho (inRows_le hr hb), fun p hn => h.same p fun hm => hn (partsLe_mem hp hm), h.sound⟩

/-- A later operation widens to the footprint of the whole. -/
theorem Frame.then (h : Frame R P s t) (h' : Frame R' P' t u) (hr : rowsLe R' R = true) (hp : partsLe P' P = true) : Frame R P s u :=
  h.trans (h'.mono hr hp)

/-- A state on the way is named, with what is known of it. -/
theorem Frame.via (t : State) (h : Frame R P s t) (k : Frame R P s t → Frame R P s u) : Frame R P s u := k h

theorem Frame.ite {c : Prop} [Decidable c] (h : c → Frame R P s t) (h' : ¬c → Frame R P s u) : Frame R P s (if c then t else u) := by
  split
  · exact h ‹_›
  · exact h' ‹_›

theorem Frame.dite {c : Prop} [Decidable c] {f : c → State} {g : ¬c → State} (h : ∀ hc, Frame R P s (f hc))
    (h' : ∀ hc, Frame R P s (g hc)) : Frame R P s (if hc : c then f hc else g hc) := by
  split
  · exact h _
  · exact h' _

theorem Frame.ofSnd {α : Type} {p : α × State} {a : α} (h : p = (a, t)) (hf : Frame R P s p.2) : Frame R P s t := by
  subst h; exact hf

theorem Frame.forN {f : Nat → State → State} (n : Nat) (h : Frame R P s t) (hf : ∀ i x, Frame R P s x → Frame R P s (f i x)) :
    Frame R P s (forN n f t) := by
  induction n with
  | zero => exact h
  | succ n ih => exact hf n _ ih

theorem Frame.forAll {α : Type} {f : α → State → State} (l : List α) (h : Frame R P s t)
    (hf : ∀ i x, Frame R P s x → Frame R P s (f i x)) : Frame R P s (forAll f l t) := by
  induction l generalizing t with
  | nil => exact h
  | cons a l ih => exact ih (hf a _ h)

theorem Frame.forMem {α : Type} {f : α → State → State} (l : List α) (h : Frame R P s t)
    (hf : ∀ i ∈ l, ∀ x, Frame R P s x → Frame R P s (f i x)) : Frame R P s (Sys2Proof.Machine.forAll f l t) := by
  induction l generalizing t with
  | nil => exact h
  | cons a l ih => exact ih (hf a (by simp) _ h) fun i hi => hf i (by simp [hi])

theorem Frame.foldl {α : Type} {f : State → α → State} (l : List α) (h : Frame R P s t)
    (hf : ∀ i x, Frame R P s x → Frame R P s (f x i)) : Frame R P s (l.foldl f t) := by
  induction l generalizing t with
  | nil => exact h
  | cons a l ih => exact ih (hf a _ h)

/-- A change of some parts' fields. -/
theorem Frame.upd (ps : List Part) (h : Frame R P s t) (hr : u.regs = t.regs) (hps : partsLe ps P = true)
    (hs : ∀ p : Part, p ∉ ps → p.same t u) (hw : ∀ p : Part, p ∈ ps → p.sound t → p.sound u) : Frame R P s u := by
  refine h.trans ⟨fun off _ => by simp only [State.rd, hr], fun p hp => hs p fun hm => hp (partsLe_mem hps hm), fun hf => ⟨?_, fun p => ?_⟩⟩
  · rw [hr]; exact hf.regs
  · by_cases hm : p ∈ ps
    · exact hw p hm (hf.parts p)
    · exact Part.sound_of_same (hs p hm) (hf.parts p)

theorem Frame.tick {v : Nat} (h : Frame R P s t) (hp : partsLe [.tick] P = true)
    (hw : Part.sound .tick t → Part.sound .tick { t with tick := v }) : Frame R P s { t with tick := v } :=
  h.upd [.tick] rfl hp (fun p hn => by cases p <;> simp_all [Part.same]) (fun p hm => by simp only [List.mem_singleton] at hm; subst hm; exact hw)

theorem Frame.evSet {v : List (Nat × Word)} (h : Frame R P s t) (hp : partsLe [.events] P = true)
    (hw : Part.sound .events t → Part.sound .events { t with evSet := v }) : Frame R P s { t with evSet := v } :=
  h.upd [.events] rfl hp (fun p hn => by cases p <;> simp_all [Part.same]) (fun p hm => by simp only [List.mem_singleton] at hm; subst hm; exact hw)

theorem Frame.wrOne {v : List (Nat × Word)} (h : Frame R P s t) (hp : partsLe [.events] P = true)
    (hw : Part.sound .events t → Part.sound .events { t with wrOne := v }) : Frame R P s { t with wrOne := v } :=
  h.upd [.events] rfl hp (fun p hn => by cases p <;> simp_all [Part.same]) (fun p hm => by simp only [List.mem_singleton] at hm; subst hm; exact hw)

theorem Frame.wrSet {v : List (Nat × Word)} (h : Frame R P s t) (hp : partsLe [.events] P = true)
    (hw : Part.sound .events t → Part.sound .events { t with wrSet := v }) : Frame R P s { t with wrSet := v } :=
  h.upd [.events] rfl hp (fun p hn => by cases p <;> simp_all [Part.same]) (fun p hm => by simp only [List.mem_singleton] at hm; subst hm; exact hw)

theorem Frame.heldRd {v : List (Nat × Option Word)} (h : Frame R P s t) (hp : partsLe [.held] P = true)
    (hw : Part.sound .held t → Part.sound .held { t with heldRd := v }) : Frame R P s { t with heldRd := v } :=
  h.upd [.held] rfl hp (fun p hn => by cases p <;> simp_all [Part.same]) (fun p hm => by simp only [List.mem_singleton] at hm; subst hm; exact hw)

theorem Frame.heldWr {v : List (Nat × Option Word)} (h : Frame R P s t) (hp : partsLe [.held] P = true)
    (hw : Part.sound .held t → Part.sound .held { t with heldWr := v }) : Frame R P s { t with heldWr := v } :=
  h.upd [.held] rfl hp (fun p hn => by cases p <;> simp_all [Part.same]) (fun p hm => by simp only [List.mem_singleton] at hm; subst hm; exact hw)

theorem Frame.resp {v : Resp} (h : Frame R P s t) (hp : partsLe [.resp] P = true)
    (hw : Part.sound .resp t → Part.sound .resp { t with resp := v }) : Frame R P s { t with resp := v } :=
  h.upd [.resp] rfl hp (fun p hn => by cases p <;> simp_all [Part.same]) (fun p hm => by simp only [List.mem_singleton] at hm; subst hm; exact hw)

theorem Frame.free {v : Nat} (h : Frame R P s t) (hp : partsLe [.free] P = true)
    (hw : Part.sound .free t → Part.sound .free { t with freeCtr := v }) : Frame R P s { t with freeCtr := v } :=
  h.upd [.free] rfl hp (fun p hn => by cases p <;> simp_all [Part.same]) (fun p hm => by simp only [List.mem_singleton] at hm; subst hm; exact hw)

theorem Frame.sram {v : List Host.Cell} (h : Frame R P s t) (hp : partsLe [.sram] P = true)
    (hw : Part.sound .sram t → Part.sound .sram { t with sram := v }) : Frame R P s { t with sram := v } :=
  h.upd [.sram] rfl hp (fun p hn => by cases p <;> simp_all [Part.same]) (fun p hm => by simp only [List.mem_singleton] at hm; subst hm; exact hw)

theorem Frame.dram {v : List Host.Cell} (h : Frame R P s t) (hp : partsLe [.dram] P = true)
    (hw : Part.sound .dram t → Part.sound .dram { t with dram := v }) : Frame R P s { t with dram := v } :=
  h.upd [.dram] rfl hp (fun p hn => by cases p <;> simp_all [Part.same]) (fun p hm => by simp only [List.mem_singleton] at hm; subst hm; exact hw)

theorem Frame.glb {v : Glb} (h : Frame R P s t) (hp : partsLe [.glb] P = true)
    (hw : Part.sound .glb t → Part.sound .glb { t with glb := v }) : Frame R P s { t with glb := v } :=
  h.upd [.glb] rfl hp (fun p hn => by cases p <;> simp_all [Part.same]) (fun p hm => by simp only [List.mem_singleton] at hm; subst hm; exact hw)

theorem Frame.tln {v : Tln} (h : Frame R P s t) (hp : partsLe [.tln] P = true)
    (hw : Part.sound .tln t → Part.sound .tln { t with tln := v }) : Frame R P s { t with tln := v } :=
  h.upd [.tln] rfl hp (fun p hn => by cases p <;> simp_all [Part.same]) (fun p hm => by simp only [List.mem_singleton] at hm; subst hm; exact hw)

theorem Frame.spn {v : List (Nat × Spn)} (h : Frame R P s t) (hp : partsLe [.spn] P = true)
    (hw : Part.sound .spn t → Part.sound .spn { t with spn := v }) : Frame R P s { t with spn := v } :=
  h.upd [.spn] rfl hp (fun p hn => by cases p <;> simp_all [Part.same]) (fun p hm => by simp only [List.mem_singleton] at hm; subst hm; exact hw)

theorem Frame.later {v : List (Nat × Deferred)} (h : Frame R P s t) (hp : partsLe [.later] P = true)
    (hw : Part.sound .later t → Part.sound .later { t with later := v }) : Frame R P s { t with later := v } :=
  h.upd [.later] rfl hp (fun p hn => by cases p <;> simp_all [Part.same]) (fun p hm => by simp only [List.mem_singleton] at hm; subst hm; exact hw)

theorem Frame.syn {v : Syn} (h : Frame R P s t) (hp : partsLe [.syn] P = true)
    (hw : Part.sound .syn t → Part.sound .syn { t with syn := v }) : Frame R P s { t with syn := v } :=
  h.upd [.syn] rfl hp (fun p hn => by cases p <;> simp_all [Part.same]) (fun p hm => by simp only [List.mem_singleton] at hm; subst hm; exact hw)

theorem Frame.rv {v : List (Nat × Rv)} (h : Frame R P s t) (hp : partsLe [.rv] P = true)
    (hw : Part.sound .rv t → Part.sound .rv { t with rv := v }) : Frame R P s { t with rv := v } :=
  h.upd [.rv] rfl hp (fun p hn => by cases p <;> simp_all [Part.same]) (fun p hm => by simp only [List.mem_singleton] at hm; subst hm; exact hw)

theorem Frame.rdo {v : Rdo} (h : Frame R P s t) (hp : partsLe [.rdo] P = true)
    (hw : Part.sound .rdo t → Part.sound .rdo { t with rdo := v }) : Frame R P s { t with rdo := v } :=
  h.upd [.rdo] rfl hp (fun p hn => by cases p <;> simp_all [Part.same]) (fun p hm => by simp only [List.mem_singleton] at hm; subst hm; exact hw)

theorem Frame.dsc {v : List (Nat × DscCh)} (h : Frame R P s t) (hp : partsLe [.dsc] P = true)
    (hw : Part.sound .dsc t → Part.sound .dsc { t with dsc := v }) : Frame R P s { t with dsc := v } :=
  h.upd [.dsc] rfl hp (fun p hn => by cases p <;> simp_all [Part.same]) (fun p hm => by simp only [List.mem_singleton] at hm; subst hm; exact hw)

theorem Frame.fab {v : Fab} (h : Frame R P s t) (hp : partsLe [.fab] P = true)
    (hw : Part.sound .fab t → Part.sound .fab { t with fab := v }) : Frame R P s { t with fab := v } :=
  h.upd [.fab] rfl hp (fun p hn => by cases p <;> simp_all [Part.same]) (fun p hm => by simp only [List.mem_singleton] at hm; subst hm; exact hw)

theorem Frame.csc {v : Csc} (h : Frame R P s t) (hp : partsLe [.csc] P = true)
    (hw : Part.sound .csc t → Part.sound .csc { t with csc := v }) : Frame R P s { t with csc := v } :=
  h.upd [.csc] rfl hp (fun p hn => by cases p <;> simp_all [Part.same]) (fun p hm => by simp only [List.mem_singleton] at hm; subst hm; exact hw)

theorem Frame.bob {v : List (Nat × Bob)} (h : Frame R P s t) (hp : partsLe [.bob] P = true)
    (hw : Part.sound .bob t → Part.sound .bob { t with bob := v }) : Frame R P s { t with bob := v } :=
  h.upd [.bob] rfl hp (fun p hn => by cases p <;> simp_all [Part.same]) (fun p hm => by simp only [List.mem_singleton] at hm; subst hm; exact hw)

theorem Frame.mem {v : Mem} (h : Frame R P s t) (hp : partsLe [.mem] P = true)
    (hw : Part.sound .mem t → Part.sound .mem { t with mem := v }) : Frame R P s { t with mem := v } :=
  h.upd [.mem] rfl hp (fun p hn => by cases p <;> simp_all [Part.same]) (fun p hm => by simp only [List.mem_singleton] at hm; subst hm; exact hw)

theorem Frame.jobs {v : List (Nat × Option Job)} (h : Frame R P s t) (hp : partsLe [.jobs] P = true)
    (hw : Part.sound .jobs t → Part.sound .jobs { t with jobs := v }) : Frame R P s { t with jobs := v } :=
  h.upd [.jobs] rfl hp (fun p hn => by cases p <;> simp_all [Part.same]) (fun p hm => by simp only [List.mem_singleton] at hm; subst hm; exact hw)

theorem Frame.hif {v : Hif} (h : Frame R P s t) (hp : partsLe [.hif] P = true)
    (hw : Part.sound .hif t → Part.sound .hif { t with hif := v }) : Frame R P s { t with hif := v } :=
  h.upd [.hif] rfl hp (fun p hn => by cases p <;> simp_all [Part.same]) (fun p hm => by simp only [List.mem_singleton] at hm; subst hm; exact hw)

theorem Frame.sec {v : Sec} (h : Frame R P s t) (hp : partsLe [.sec] P = true)
    (hw : Part.sound .sec t → Part.sound .sec { t with sec := v }) : Frame R P s { t with sec := v } :=
  h.upd [.sec] rfl hp (fun p hn => by cases p <;> simp_all [Part.same]) (fun p hm => by simp only [List.mem_singleton] at hm; subst hm; exact hw)

theorem Frame.sup {v : Sup} (h : Frame R P s t) (hp : partsLe [.sup] P = true)
    (hw : Part.sound .sup t → Part.sound .sup { t with sup := v }) : Frame R P s { t with sup := v } :=
  h.upd [.sup] rfl hp (fun p hn => by cases p <;> simp_all [Part.same]) (fun p hm => by simp only [List.mem_singleton] at hm; subst hm; exact hw)

theorem Frame.pwr {v : Pwr} (h : Frame R P s t) (hp : partsLe [.pwr] P = true)
    (hw : Part.sound .pwr t → Part.sound .pwr { t with pwr := v }) : Frame R P s { t with pwr := v } :=
  h.upd [.pwr] rfl hp (fun p hn => by cases p <;> simp_all [Part.same]) (fun p hm => by simp only [List.mem_singleton] at hm; subst hm; exact hw)

theorem Frame.tap {v : Tap} (h : Frame R P s t) (hp : partsLe [.tap] P = true)
    (hw : Part.sound .tap t → Part.sound .tap { t with tap := v }) : Frame R P s { t with tap := v } :=
  h.upd [.tap] rfl hp (fun p hn => by cases p <;> simp_all [Part.same]) (fun p hm => by simp only [List.mem_singleton] at hm; subst hm; exact hw)

/-! ### The operations of Machine/Ops.lean -/

/-- A register write touches its register alone. -/
theorem Frame.wr {off : Nat} {v : Word} (h : Frame R P s t) (ho : inRows R off) : Frame R P s (t.wr off v) := by
  refine h.trans ⟨fun off' hn => ?_, fun p _ => by cases p <;> simp [Part.same, State.wr], fun hw => ⟨sparseWf_sset hw.regs, fun p => ?_⟩⟩
  · have : off' ≠ off := by rintro rfl; exact hn ho
    exact sget_sset_other this
  · exact Part.sound_of_same (by cases p <;> simp [Part.same, State.wr]) (hw.parts p)

theorem Frame.put {f : Field} {n : Nat} (h : Frame R P s t) (ho : inRows R f.reg) : Frame R P s (t.put f n) := h.wr ho

theorem Frame.count {f : Field} {k : Nat} (h : Frame R P s t) (ho : inRows R f.reg) : Frame R P s (t.count f k) := h.put ho

theorem Frame.wr64 {lo n : Nat} (h : Frame R P s t) (ho : inRows R lo) (ho' : inRows R (lo + 4)) : Frame R P s (t.wr64 lo n) :=
  (h.wr ho).wr ho'

theorem Frame.setFlag {f : Field} (h : Frame R P s t) (ho : inRows R f.reg) (hp : partsLe [.events] P = true) :
    Frame R P s (t.setFlag f) :=
  (h.put ho).evSet hp fun hw => ⟨sparseWf_sset hw.1, hw.2⟩

theorem Frame.drop {f : Field} (h : Frame R P s t) (ho : inRows R f.reg) : Frame R P s (t.drop f) := by
  unfold State.drop
  split
  · exact h.put ho
  · exact h

theorem Frame.report {cls ev inst sev : Nat} (h : Frame R P s t) (hp : partsLe [.sup] P = true) :
    Frame R P s (t.report cls ev inst sev) := h.sup hp id

theorem Frame.raise {f : Field} {inst : Nat} (h : Frame R P s t) (ho : inRows R f.reg) (hp : partsLe [.events, .sup] P = true) :
    Frame R P s (t.raise f inst) := by
  have he : partsLe [.events] P = true := partsLe_trans (by rfl) hp
  have hs : partsLe [.sup] P = true := partsLe_trans (by rfl) hp
  unfold State.raise
  split
  · exact (h.setFlag ho he).report hs
  · exact h.setFlag ho he

theorem Frame.raiseIf {c : Bool} {f : Field} {inst : Nat} (h : Frame R P s t) (ho : inRows R f.reg)
    (hp : partsLe [.events, .sup] P = true) : Frame R P s (t.raiseIf c f inst) := by
  unfold State.raiseIf
  split
  · exact h.raise ho hp
  · exact h

theorem Frame.resetRange {a b : Nat} (h : Frame none P s t) : Frame none P s (t.resetRange a b) :=
  h.trans ⟨fun off hn => absurd trivial hn, fun p _ => by cases p <;> simp [Part.same, State.resetRange],
    fun hw => ⟨sparseWf_sdrop hw.regs, fun p => Part.sound_of_same (by cases p <;> simp [Part.same, State.resetRange]) (hw.parts p)⟩⟩

theorem Frame.putSram {a : Nat} {b : Byte} (h : Frame R P s t) (hp : partsLe [.sram] P = true) : Frame R P s (t.putSram a b) :=
  h.sram hp fun hw => sparseWf_sset hw

theorem Frame.putDram {a : Nat} {b : Byte} (h : Frame R P s t) (hp : partsLe [.dram] P = true) : Frame R P s (t.putDram a b) :=
  h.dram hp fun hw => sparseWf_sset hw

theorem Frame.putSramBytes {a : Nat} {bs : List Byte} (h : Frame R P s t) (hp : partsLe [.sram] P = true) :
    Frame R P s (t.putSramBytes a bs) := by
  induction bs generalizing t a with
  | nil => exact h
  | cons b bs ih => exact ih (h.putSram hp)

theorem Frame.putDramBytes {a : Nat} {bs : List Byte} (h : Frame R P s t) (hp : partsLe [.dram] P = true) :
    Frame R P s (t.putDramBytes a bs) := by
  induction bs generalizing t a with
  | nil => exact h
  | cons b bs ih => exact ih (h.putDram hp)

theorem Frame.fresh {w : Nat} (h : Frame R P s t) (hp : partsLe [.free] P = true) : Frame R P s (t.fresh w).2 :=
  Frame.free h hp id

end Sys2Proof.Machine
end

