-- ==== Sys2Proof/Laws/Frame/WriteOps.lean ====
section
/-! SUPPORT. Laws/Frame/WriteOps.lean: what each operation of Machine/WriteOps.lean can change, and that it keeps a sound state sound. -/

set_option Elab.async false

namespace Sys2Proof.Machine

variable {R : Option (List RegRow)} {P : List Part} {s t : State}

theorem State.answer_frame {a0 : RespStatus} {a1 : Word} : Frame (some []) [.resp] s (State.answer s a0 a1) := by
  unfold State.answer
  refine Frame.resp ?_ rfl (fun _ => trivial)
  exact Frame.refl

theorem wrRefused_frame {a0 : Nat} {a1 : Nat} {a2 : Nat} : Frame (some [.HIF_EVENT, .HIF_WR_REF, .HIF_WR_REF_ADDR_HI, .HIF_WR_REF_ADDR_LO]) [.events, .resp, .sup] s (wrRefused a0 a1 a2 s) := by
  unfold wrRefused
  extract_lets -merge -useContext -underBinder +onlyGivenNames x1
  refine Frame.via x1 ?_ fun h1 => ?_
  · unfold x1
    refine Frame.ite (fun _ => ?_) (fun _ => ?_)
    · refine Frame.then ?_ State.answer_frame rfl rfl
      exact Frame.refl
    · exact Frame.refl
  try clear_value x1
  extract_lets -merge -useContext -underBinder +onlyGivenNames x2
  refine Frame.via x2 ?_ fun h2 => ?_
  · unfold x2
    refine Frame.count ?_ (inRows_of (r := .HIF_WR_REF) rfl (by exact rfl))
    refine Frame.raise ?_ (inRows_of (r := .HIF_EVENT) rfl (by exact rfl)) rfl
    exact h1
  try clear_value x2
  refine Frame.ite (fun _ => ?_) (fun _ => ?_)
  · exact h2
  · refine Frame.raise ?_ (inRows_of (r := .HIF_WR_REF) rfl (by exact rfl)) rfl
    refine Frame.wr64 ?_ (inRows_of (r := .HIF_WR_REF_ADDR_LO) rfl (by exact rfl)) (inRows_of (r := .HIF_WR_REF_ADDR_HI) rfl (by show Reg.HIF_WR_REF_ADDR_LO + 4 = Reg.HIF_WR_REF_ADDR_HI; decide))
    refine Frame.put ?_ (inRows_of (r := .HIF_WR_REF) rfl (by exact rfl))
    refine Frame.put ?_ (inRows_of (r := .HIF_WR_REF) rfl (by exact rfl))
    exact h2

theorem taint_frame  : Frame (some [.SEC_EVENT, .SEC_STATUS]) [.events, .sup] s (taint s) := by
  unfold taint
  refine Frame.ite (fun _ => ?_) (fun _ => ?_)
  · refine Frame.raise ?_ (inRows_of (r := .SEC_EVENT) rfl (by exact rfl)) rfl
    refine Frame.put ?_ (inRows_of (r := .SEC_STATUS) rfl (by exact rfl))
    exact Frame.refl
  · exact Frame.refl

theorem noteSet_frame {a0 : Nat} {a1 : Word} {a2 : Word} : Frame (some []) [.events] s (noteSet a0 a1 a2 s) := by
  unfold noteSet
  refine Frame.ite (fun _ => ?_) (fun _ => ?_)
  · exact Frame.refl
  · refine Frame.upd (t := s) [.events] ?_ rfl rfl (fun p hn => by cases p <;> first | rfl | exact ⟨rfl, rfl⟩ | exact ⟨rfl, rfl, rfl⟩ | exact absurd hn (by decide)) (fun p hm => by
        simp only [List.mem_cons, List.not_mem_nil, or_false] at hm
        rcases hm with rfl
        · exact fun h => ⟨(by first | exact h.1 | exact sparseWf_sset h.1 | exact sparseWf_nil | exact sparseWf_filter h.1 | exact sparseWf_smap h.1 | exact sparseWf_sdrop h.1 | exact sparseWf_sset (sparseWf_sset h.1) | exact sparseWf_fold sparseWf_nil | (dsimp only; exact sparseWf_smap h.1)), (by first | exact h.2.1 | exact sparseWf_sset h.2.1 | exact sparseWf_nil | exact sparseWf_filter h.2.1 | exact sparseWf_smap h.2.1 | exact sparseWf_sdrop h.2.1 | exact sparseWf_sset (sparseWf_sset h.2.1) | exact sparseWf_fold sparseWf_nil | (dsimp only; exact sparseWf_smap h.2.1)), (by first | exact h.2.2 | exact sparseWf_sset h.2.2 | exact sparseWf_nil | exact sparseWf_filter h.2.2 | exact sparseWf_smap h.2.2 | exact sparseWf_sdrop h.2.2 | exact sparseWf_sset (sparseWf_sset h.2.2) | exact sparseWf_fold sparseWf_nil | (dsimp only; exact sparseWf_smap h.2.2))⟩)
    exact Frame.refl

theorem writeFields_frame {a0 : Nat} {a1 : Nat} {a2 : RegDesc} {a3 : Word} : Frame none [.events, .resp, .sup] s (writeFields a0 a1 a2 a3 s) := by
  unfold writeFields
  extract_lets -merge -useContext -underBinder +onlyGivenNames v1 v2 v3 v4 v5 x6
  refine Frame.via x6 ?_ fun h6 => ?_
  · unfold x6
    refine Frame.then ?_ noteSet_frame rfl rfl
    refine Frame.wr ?_ (by exact trivial)
    exact Frame.refl
  try clear_value x6
  refine Frame.ite (fun _ => ?_) (fun _ => ?_)
  · refine Frame.ite (fun _ => ?_) (fun _ => ?_)
    · refine Frame.then ?_ wrRefused_frame rfl rfl
      exact h6
    · refine Frame.then ?_ taint_frame rfl rfl
      exact h6
  · exact h6

theorem writeInCheck_frame {a0 : Nat} {a1 : Nat} {a2 : RegDesc} {a3 : Word} : Frame none [.events, .resp, .sup] s (writeInCheck a0 a1 a2 a3 s) := by
  unfold writeInCheck
  extract_lets -merge -useContext -underBinder +onlyGivenNames v1 v2 x3
  refine Frame.via x3 ?_ fun h3 => ?_
  · unfold x3
    refine Frame.then ?_ noteSet_frame rfl rfl
    refine Frame.wr ?_ (by exact trivial)
    exact Frame.refl
  try clear_value x3
  refine Frame.ite (fun _ => ?_) (fun _ => ?_)
  · refine Frame.then ?_ wrRefused_frame rfl rfl
    exact h3
  · exact h3

theorem pathRefused_frame {a0 : Path} : Frame (some [.HIF_EVENT]) [.events, .resp, .sup] s (pathRefused a0 s) := by
  unfold pathRefused
  refine Frame.ite (fun _ => ?_) (fun _ => ?_)
  · refine Frame.then ?_ State.answer_frame rfl rfl
    exact Frame.refl
  · extract_lets -merge -useContext -underBinder +onlyGivenNames x1
    refine Frame.via x1 ?_ fun h1 => ?_
    · unfold x1
      refine Frame.then ?_ State.answer_frame rfl rfl
      exact Frame.refl
    try clear_value x1
    first | split | (clear_value *; split)
    · refine Frame.raise ?_ (inRows_of (r := .HIF_EVENT) rfl (by exact rfl)) rfl
      exact h1
    · exact h1

theorem plainWrite_frame {a0 : Path} {a1 : Nat} {a2 : Word} : Frame none [.events, .resp, .sup] s (plainWrite a0 a1 a2 s) := by
  unfold plainWrite
  refine Frame.ite (fun _ => ?_) (fun _ => ?_)
  · refine Frame.then ?_ pathRefused_frame rfl rfl
    exact Frame.refl
  · extract_lets -merge -useContext -underBinder +onlyGivenNames x1
    refine Frame.via x1 ?_ fun h1 => ?_
    · unfold x1
      refine Frame.then ?_ State.answer_frame rfl rfl
      exact Frame.refl
    try clear_value x1
    first | split | (clear_value *; split)
    · refine Frame.ite (fun _ => ?_) (fun _ => ?_)
      · refine Frame.then ?_ wrRefused_frame rfl rfl
        exact h1
      · exact h1
    · refine Frame.ite (fun _ => ?_) (fun _ => ?_)
      · refine Frame.then ?_ writeInCheck_frame rfl rfl
        exact h1
      · refine Frame.then ?_ writeFields_frame rfl rfl
        exact h1

theorem gated_frame {a0 : Path} {a1 : Nat} {a2 : State → State} (h : Frame R P s t) (hR : rowsLe (some [.HIF_EVENT, .HIF_WR_REF, .HIF_WR_REF_ADDR_HI, .HIF_WR_REF_ADDR_LO]) R = true) (hP : partsLe [.events, .resp, .sup] P = true) (ha2 : ∀ x, Frame R P s x → Frame R P s (a2 x)) : Frame R P s (gated a0 a1 a2 t) := by
  unfold gated
  refine Frame.ite (fun _ => ?_) (fun _ => ?_)
  · refine Frame.then ?_ pathRefused_frame (rowsLe_trans rfl hR) (partsLe_trans rfl hP)
    exact h
  · extract_lets -merge -useContext -underBinder +onlyGivenNames x1
    refine Frame.via x1 ?_ fun h1 => ?_
    · unfold x1
      refine Frame.then ?_ State.answer_frame (rowsLe_trans rfl hR) (partsLe_trans rfl hP)
      exact h
    try clear_value x1
    refine Frame.ite (fun _ => ?_) (fun _ => ?_)
    · refine Frame.then ?_ wrRefused_frame (rowsLe_trans rfl hR) (partsLe_trans rfl hP)
      exact h1
    · refine ha2 _ ?_
      exact h1

end Sys2Proof.Machine
end

