-- ==== Sys2Proof/Laws/Frame/ReelOps.lean ====
section
/-! SUPPORT. Laws/Frame/ReelOps.lean: what each operation of Machine/ReelOps.lean can change, and that it keeps a sound state sound. -/

set_option Elab.async false

namespace Sys2Proof.Machine

variable {R : Option (List RegRow)} {P : List Part} {s t : State}

theorem State.setAdj_frame {a0 : Int} : Frame (some [.TLN_ADJ]) [] s (State.setAdj s a0) := by
  unfold State.setAdj
  refine Frame.wr ?_ (inRows_of (r := .TLN_ADJ) rfl (by exact rfl))
  exact Frame.refl

theorem holdServo_frame  : Frame (some [.TLN_ADJ, .TLN_STATUS]) [] s (holdServo s) := by
  unfold holdServo
  refine Frame.put ?_ (inRows_of (r := .TLN_STATUS) rfl (by exact rfl))
  refine Frame.then ?_ State.setAdj_frame rfl rfl
  exact Frame.refl

theorem enterHoldover_frame  : Frame (some [.TLN_ADJ, .TLN_COUNT, .TLN_EVENT, .TLN_STATUS]) [.events, .sup, .tln] s (enterHoldover s) := by
  unfold enterHoldover
  refine Frame.ite (fun _ => ?_) (fun _ => ?_)
  · extract_lets -merge -useContext -underBinder +onlyGivenNames x1
    refine Frame.via x1 ?_ fun h1 => ?_
    · unfold x1
      refine Frame.then ?_ holdServo_frame rfl rfl
      refine Frame.put ?_ (inRows_of (r := .TLN_STATUS) rfl (by exact rfl))
      exact Frame.refl
    try clear_value x1
    extract_lets -merge -useContext -underBinder +onlyGivenNames x2
    refine Frame.via x2 ?_ fun h2 => ?_
    · unfold x2
      refine Frame.count ?_ (inRows_of (r := .TLN_COUNT) rfl (by exact rfl))
      refine Frame.raise ?_ (inRows_of (r := .TLN_EVENT) rfl (by exact rfl)) rfl
      exact h1
    try clear_value x2
    refine Frame.tln ?_ rfl (by first | exact id | exact fun h => ⟨(by first | exact h.1 | exact sparseWf_sset h.1 | exact sparseWf_nil | exact sparseWf_filter h.1 | exact sparseWf_smap h.1 | exact sparseWf_sdrop h.1 | exact sparseWf_sset (sparseWf_sset h.1) | exact sparseWf_fold sparseWf_nil | (dsimp only; exact sparseWf_smap h.1)), (by first | exact h.2 | exact sparseWf_sset h.2 | exact sparseWf_nil | exact sparseWf_filter h.2 | exact sparseWf_smap h.2 | exact sparseWf_sdrop h.2 | exact sparseWf_sset (sparseWf_sset h.2) | exact sparseWf_fold sparseWf_nil | (dsimp only; exact sparseWf_smap h.2))⟩)
    exact h2
  · refine Frame.ite (fun _ => ?_) (fun _ => ?_)
    · extract_lets -merge -useContext -underBinder +onlyGivenNames x3
      refine Frame.via x3 ?_ fun h3 => ?_
      · unfold x3
        refine Frame.then ?_ holdServo_frame rfl rfl
        exact Frame.refl
      try clear_value x3
      refine Frame.tln ?_ rfl (by first | exact id | exact fun h => ⟨(by first | exact h.1 | exact sparseWf_sset h.1 | exact sparseWf_nil | exact sparseWf_filter h.1 | exact sparseWf_smap h.1 | exact sparseWf_sdrop h.1 | exact sparseWf_sset (sparseWf_sset h.1) | exact sparseWf_fold sparseWf_nil | (dsimp only; exact sparseWf_smap h.1)), (by first | exact h.2 | exact sparseWf_sset h.2 | exact sparseWf_nil | exact sparseWf_filter h.2 | exact sparseWf_smap h.2 | exact sparseWf_sdrop h.2 | exact sparseWf_sset (sparseWf_sset h.2) | exact sparseWf_fold sparseWf_nil | (dsimp only; exact sparseWf_smap h.2))⟩)
      exact h3
    · exact Frame.refl

theorem loseSource_frame  : Frame (some [.TLN_ADJ, .TLN_COUNT, .TLN_EVENT, .TLN_STATUS]) [.events, .sup, .tln] s (loseSource s) := by
  unfold loseSource
  refine Frame.then ?_ enterHoldover_frame rfl rfl
  refine Frame.put ?_ (inRows_of (r := .TLN_STATUS) rfl (by exact rfl))
  refine Frame.raise ?_ (inRows_of (r := .TLN_EVENT) rfl (by exact rfl)) rfl
  exact Frame.refl

theorem liftRefusal_frame  : Frame (some [.TLN_STATUS]) [] s (liftRefusal s) := by
  unfold liftRefusal
  refine Frame.put ?_ (inRows_of (r := .TLN_STATUS) rfl (by exact rfl))
  exact Frame.refl

theorem startReel_frame  : Frame (some [.TLN_ADJ, .TLN_EVENT, .TLN_STATUS]) [.csc, .events, .sup, .tln] s (startReel s) := by
  unfold startReel
  refine Frame.ite (fun _ => ?_) (fun _ => ?_)
  · extract_lets -merge -useContext -underBinder +onlyGivenNames v1 v2 v3 w4 w5 x6
    refine Frame.via x6 ?_ fun h6 => ?_
    · unfold x6
      refine Frame.upd (t := s) [.csc, .tln] ?_ rfl rfl (fun p hn => by cases p <;> first | rfl | exact ⟨rfl, rfl⟩ | exact ⟨rfl, rfl, rfl⟩ | exact absurd hn (by decide)) (fun p hm => by
          simp only [List.mem_cons, List.not_mem_nil, or_false] at hm
          rcases hm with rfl | rfl
          · exact fun h => (by first | exact h | exact sparseWf_sset h | exact sparseWf_nil | exact sparseWf_filter h | exact sparseWf_smap h | exact sparseWf_sdrop h | exact sparseWf_sset (sparseWf_sset h) | exact sparseWf_fold sparseWf_nil | (dsimp only; exact sparseWf_smap h))
          · exact fun h => ⟨(by first | exact h.1 | exact sparseWf_sset h.1 | exact sparseWf_nil | exact sparseWf_filter h.1 | exact sparseWf_smap h.1 | exact sparseWf_sdrop h.1 | exact sparseWf_sset (sparseWf_sset h.1) | exact sparseWf_fold sparseWf_nil | (dsimp only; exact sparseWf_smap h.1)), (by first | exact h.2 | exact sparseWf_sset h.2 | exact sparseWf_nil | exact sparseWf_filter h.2 | exact sparseWf_smap h.2 | exact sparseWf_sdrop h.2 | exact sparseWf_sset (sparseWf_sset h.2) | exact sparseWf_fold sparseWf_nil | (dsimp only; exact sparseWf_smap h.2))⟩)
      exact Frame.refl
    try clear_value x6
    extract_lets -merge -useContext -underBinder +onlyGivenNames x7
    refine Frame.via x7 ?_ fun h7 => ?_
    · unfold x7
      refine Frame.put ?_ (inRows_of (r := .TLN_STATUS) rfl (by exact rfl))
      refine Frame.then ?_ State.setAdj_frame rfl rfl
      exact h6
    try clear_value x7
    refine Frame.ite (fun _ => ?_) (fun _ => ?_)
    · refine Frame.raise ?_ (inRows_of (r := .TLN_EVENT) rfl (by exact rfl)) rfl
      refine Frame.put ?_ (inRows_of (r := .TLN_STATUS) rfl (by exact rfl))
      refine Frame.put ?_ (inRows_of (r := .TLN_STATUS) rfl (by exact rfl))
      exact h7
    · refine Frame.put ?_ (inRows_of (r := .TLN_STATUS) rfl (by exact rfl))
      exact h7
  · exact Frame.refl

theorem stopReel_frame  : Frame (some [.TLN_STATUS]) [.tln] s (stopReel s) := by
  unfold stopReel
  extract_lets -merge -useContext -underBinder +onlyGivenNames x1
  refine Frame.via x1 ?_ fun h1 => ?_
  · unfold x1
    refine Frame.then ?_ liftRefusal_frame rfl rfl
    refine Frame.put ?_ (inRows_of (r := .TLN_STATUS) rfl (by exact rfl))
    exact Frame.refl
  try clear_value x1
  extract_lets -merge -useContext -underBinder +onlyGivenNames x2
  refine Frame.via x2 ?_ fun h2 => ?_
  · unfold x2
    refine Frame.ite (fun _ => ?_) (fun _ => ?_)
    · refine Frame.put ?_ (inRows_of (r := .TLN_STATUS) rfl (by exact rfl))
      exact h1
    · exact h1
  try clear_value x2
  refine Frame.tln ?_ rfl (by first | exact id | exact fun h => ⟨(by first | exact h.1 | exact sparseWf_sset h.1 | exact sparseWf_nil | exact sparseWf_filter h.1 | exact sparseWf_smap h.1 | exact sparseWf_sdrop h.1 | exact sparseWf_sset (sparseWf_sset h.1) | exact sparseWf_fold sparseWf_nil | (dsimp only; exact sparseWf_smap h.1)), (by first | exact h.2 | exact sparseWf_sset h.2 | exact sparseWf_nil | exact sparseWf_filter h.2 | exact sparseWf_smap h.2 | exact sparseWf_sdrop h.2 | exact sparseWf_sset (sparseWf_sset h.2) | exact sparseWf_fold sparseWf_nil | (dsimp only; exact sparseWf_smap h.2))⟩)
  exact h2

theorem forgetReel_frame  : Frame (some [.TLN_STATUS]) [.tln] s (forgetReel s) := by
  unfold forgetReel
  extract_lets -merge -useContext -underBinder +onlyGivenNames x1
  refine Frame.via x1 ?_ fun h1 => ?_
  · unfold x1
    refine Frame.then ?_ stopReel_frame rfl rfl
    exact Frame.refl
  try clear_value x1
  refine Frame.tln ?_ rfl (fun h => ⟨(by first | exact h.1 | exact sparseWf_sset h.1 | exact sparseWf_nil | exact sparseWf_filter h.1 | exact sparseWf_smap h.1 | exact sparseWf_sdrop h.1 | exact sparseWf_sset (sparseWf_sset h.1) | exact sparseWf_fold sparseWf_nil | (dsimp only; exact sparseWf_smap h.1)), (by first | exact h.2 | exact sparseWf_sset h.2 | exact sparseWf_nil | exact sparseWf_filter h.2 | exact sparseWf_smap h.2 | exact sparseWf_sdrop h.2 | exact sparseWf_sset (sparseWf_sset h.2) | exact sparseWf_fold sparseWf_nil | (dsimp only; exact sparseWf_smap h.2))⟩)
  exact h1

theorem refuseOffset_frame {a0 : Int} : Frame (some [.TLN_ADJ, .TLN_COUNT, .TLN_EVENT, .TLN_REFUSED_HI, .TLN_REFUSED_LO, .TLN_STATUS]) [.events, .sup, .tln] s (refuseOffset a0 s) := by
  unfold refuseOffset
  extract_lets -merge -useContext -underBinder +onlyGivenNames x1
  refine Frame.via x1 ?_ fun h1 => ?_
  · unfold x1
    refine Frame.raise ?_ (by split <;> first | exact inRows_of (r := .TLN_EVENT) rfl (by exact rfl)) rfl
    exact Frame.refl
  try clear_value x1
  extract_lets -merge -useContext -underBinder +onlyGivenNames x2
  refine Frame.via x2 ?_ fun h2 => ?_
  · unfold x2
    refine Frame.wr64 ?_ (inRows_of (r := .TLN_REFUSED_LO) rfl (by exact rfl)) (inRows_of (r := .TLN_REFUSED_HI) rfl (by show Reg.TLN_REFUSED_LO + 4 = Reg.TLN_REFUSED_HI; decide))
    exact h1
  try clear_value x2
  extract_lets -merge -useContext -underBinder +onlyGivenNames x3
  refine Frame.via x3 ?_ fun h3 => ?_
  · unfold x3
    refine Frame.put ?_ (inRows_of (r := .TLN_STATUS) rfl (by exact rfl))
    refine Frame.count ?_ (inRows_of (r := .TLN_COUNT) rfl (by exact rfl))
    exact h2
  try clear_value x3
  extract_lets -merge -useContext -underBinder +onlyGivenNames w4 x5
  refine Frame.via x5 ?_ fun h5 => ?_
  · unfold x5
    refine Frame.tln ?_ rfl (by first | exact id | exact fun h => ⟨(by first | exact h.1 | exact sparseWf_sset h.1 | exact sparseWf_nil | exact sparseWf_filter h.1 | exact sparseWf_smap h.1 | exact sparseWf_sdrop h.1 | exact sparseWf_sset (sparseWf_sset h.1) | exact sparseWf_fold sparseWf_nil | (dsimp only; exact sparseWf_smap h.1)), (by first | exact h.2 | exact sparseWf_sset h.2 | exact sparseWf_nil | exact sparseWf_filter h.2 | exact sparseWf_smap h.2 | exact sparseWf_sdrop h.2 | exact sparseWf_sset (sparseWf_sset h.2) | exact sparseWf_fold sparseWf_nil | (dsimp only; exact sparseWf_smap h.2))⟩)
    exact h3
  try clear_value x5
  refine Frame.then ?_ enterHoldover_frame rfl rfl
  refine Frame.then ?_ holdServo_frame rfl rfl
  exact h5

theorem declareAsym_frame {a0 : Nat} : Frame (some [.TLN_ADJ, .TLN_COUNT, .TLN_EVENT, .TLN_STATUS]) [.events, .sup, .tln] s (declareAsym a0 s) := by
  unfold declareAsym
  extract_lets -merge -useContext -underBinder +onlyGivenNames x1
  refine Frame.via x1 ?_ fun h1 => ?_
  · unfold x1
    refine Frame.put ?_ (inRows_of (r := .TLN_STATUS) rfl (by exact rfl))
    refine Frame.raise ?_ (inRows_of (r := .TLN_EVENT) rfl (by exact rfl)) rfl
    exact Frame.refl
  try clear_value x1
  extract_lets -merge -useContext -underBinder +onlyGivenNames x2
  refine Frame.via x2 ?_ fun h2 => ?_
  · unfold x2
    refine Frame.count ?_ (inRows_of (r := .TLN_COUNT) rfl (by exact rfl))
    exact h1
  try clear_value x2
  extract_lets -merge -useContext -underBinder +onlyGivenNames w3 x4
  refine Frame.via x4 ?_ fun h4 => ?_
  · unfold x4
    refine Frame.tln ?_ rfl (by first | exact id | exact fun h => ⟨(by first | exact h.1 | exact sparseWf_sset h.1 | exact sparseWf_nil | exact sparseWf_filter h.1 | exact sparseWf_smap h.1 | exact sparseWf_sdrop h.1 | exact sparseWf_sset (sparseWf_sset h.1) | exact sparseWf_fold sparseWf_nil | (dsimp only; exact sparseWf_smap h.1)), (by first | exact h.2 | exact sparseWf_sset h.2 | exact sparseWf_nil | exact sparseWf_filter h.2 | exact sparseWf_smap h.2 | exact sparseWf_sdrop h.2 | exact sparseWf_sset (sparseWf_sset h.2) | exact sparseWf_fold sparseWf_nil | (dsimp only; exact sparseWf_smap h.2))⟩)
    exact h2
  try clear_value x4
  refine Frame.then ?_ enterHoldover_frame rfl rfl
  refine Frame.then ?_ holdServo_frame rfl rfl
  exact h4

theorem State.setTwist_frame {a0 : Nat} {a1 : Twist} : Frame (some []) [.csc] s (State.setTwist s a0 a1) := by
  unfold State.setTwist
  refine Frame.csc ?_ rfl (fun h => (by first | exact h | exact sparseWf_sset h | exact sparseWf_nil | exact sparseWf_filter h | exact sparseWf_smap h | exact sparseWf_sdrop h | exact sparseWf_sset (sparseWf_sset h) | exact sparseWf_fold sparseWf_nil | (dsimp only; exact sparseWf_smap h)))
  exact Frame.refl

theorem queueRate_frame {a0 : Int} {a1 : Nat} : Frame (some []) [.csc] s (queueRate a0 a1 s) := by
  unfold queueRate
  refine Frame.forAll _ ?_ fun i x hx => ?_
  · exact Frame.refl
  · refine Frame.then ?_ State.setTwist_frame rfl rfl
    exact hx

theorem takeAdj_frame {a0 : Int} : Frame (some [.TLN_ADJ]) [.csc] s (takeAdj a0 s) := by
  unfold takeAdj
  refine Frame.ite (fun _ => ?_) (fun _ => ?_)
  · extract_lets -merge -useContext -underBinder +onlyGivenNames v1 v2 w3 x4
    refine Frame.via x4 ?_ fun h4 => ?_
    · unfold x4
      refine Frame.csc ?_ rfl (fun h => (by first | exact h | exact sparseWf_sset h | exact sparseWf_nil | exact sparseWf_filter h | exact sparseWf_smap h | exact sparseWf_sdrop h | exact sparseWf_sset (sparseWf_sset h) | exact sparseWf_fold sparseWf_nil | (dsimp only; exact sparseWf_smap h)))
      exact Frame.refl
    try clear_value x4
    refine Frame.then ?_ queueRate_frame rfl rfl
    exact h4
  · refine Frame.ite (fun _ => ?_) (fun _ => ?_)
    · refine Frame.then ?_ State.setAdj_frame rfl rfl
      refine Frame.csc ?_ rfl (by first | exact id | exact fun h => (by first | exact h | exact sparseWf_sset h | exact sparseWf_nil | exact sparseWf_filter h | exact sparseWf_smap h | exact sparseWf_sdrop h | exact sparseWf_sset (sparseWf_sset h) | exact sparseWf_fold sparseWf_nil | (dsimp only; exact sparseWf_smap h)))
      exact Frame.refl
    · refine Frame.then ?_ State.setAdj_frame rfl rfl
      exact Frame.refl

theorem servoAt_frame {a i : Int} : Frame (some [.TLN_ADJ, .TLN_STATUS]) [.csc, .tln] s
      ((takeAdj a { s with tln := { s.tln with integ := i } }).put Fld.TLN_STATUS_SERVO_FROZEN 0) := by
    refine Frame.put ?_ (inRows_of (r := .TLN_STATUS) rfl (by exact rfl))
    refine Frame.then ?_ takeAdj_frame rfl rfl
    exact Frame.tln Frame.refl rfl id
theorem servo_frame {a0 : Int} : Frame (some [.TLN_ADJ, .TLN_STATUS]) [.csc, .tln] s (servo a0 s) := by
  unfold servo
  generalize (2 : Int) ^ 24 = k
  exact servoAt_frame

theorem loseCascade_frame  : Frame (some [.CSC_EVENT, .CSC_STATUS, .TLN_ADJ, .TLN_COUNT, .TLN_EVENT, .TLN_STATUS]) [.csc, .events, .sup, .tln] s (loseCascade s) := by
  unfold loseCascade
  extract_lets -merge -useContext -underBinder +onlyGivenNames w1 x2
  refine Frame.via x2 ?_ fun h2 => ?_
  · unfold x2
    refine Frame.csc ?_ rfl (by first | exact id | exact fun h => (by first | exact h | exact sparseWf_sset h | exact sparseWf_nil | exact sparseWf_filter h | exact sparseWf_smap h | exact sparseWf_sdrop h | exact sparseWf_sset (sparseWf_sset h) | exact sparseWf_fold sparseWf_nil | (dsimp only; exact sparseWf_smap h)))
    exact Frame.refl
  try clear_value x2
  refine Frame.ite (fun _ => ?_) (fun _ => ?_)
  · extract_lets -merge -useContext -underBinder +onlyGivenNames x3
    refine Frame.via x3 ?_ fun h3 => ?_
    · unfold x3
      refine Frame.raise ?_ (inRows_of (r := .CSC_EVENT) rfl (by exact rfl)) rfl
      refine Frame.put ?_ (inRows_of (r := .CSC_STATUS) rfl (by exact rfl))
      exact h2
    try clear_value x3
    refine Frame.ite (fun _ => ?_) (fun _ => ?_)
    · refine Frame.then ?_ loseSource_frame rfl rfl
      exact h3
    · exact h3
  · exact h2

theorem losePhases_frame  : Frame (some []) [.free, .glb] s (losePhases s) := by
  unfold losePhases
  first | split | (clear_value *; split)
  · rename_i x1 e1
    refine Frame.via x1 (Frame.ofSnd e1 ?_) fun h1 => ?_
    · refine Frame.fresh ?_ rfl
      exact Frame.refl
    refine Frame.glb ?_ rfl (fun _ => trivial)
    exact h1

theorem newPhase_frame  : Frame (some []) [.free, .glb] s (newPhase s) := by
  unfold newPhase
  first | split | (clear_value *; split)
  · rename_i x1 e1
    refine Frame.via x1 (Frame.ofSnd e1 ?_) fun h1 => ?_
    · refine Frame.fresh ?_ rfl
      exact Frame.refl
    refine Frame.glb ?_ rfl (fun _ => trivial)
    exact h1

theorem applySync_frame {a0 : Int} : Frame (some [.CSC_STATUS, .GLB_CLK_STATUS, .GLB_MODE_STATUS]) [.glb, .rdo] s (applySync a0 s) := by
  unfold applySync
  extract_lets -merge -useContext -underBinder +onlyGivenNames x1
  refine Frame.via x1 ?_ fun h1 => ?_
  · unfold x1
    refine Frame.put ?_ (inRows_of (r := .GLB_MODE_STATUS) rfl (by exact rfl))
    refine Frame.put ?_ (inRows_of (r := .GLB_CLK_STATUS) rfl (by exact rfl))
    exact Frame.refl
  try clear_value x1
  extract_lets -merge -useContext -underBinder +onlyGivenNames x2
  refine Frame.via x2 ?_ fun h2 => ?_
  · unfold x2
    refine Frame.count ?_ (inRows_of (r := .GLB_CLK_STATUS) rfl (by exact rfl))
    exact h1
  try clear_value x2
  extract_lets -merge -useContext -underBinder +onlyGivenNames w3 x4
  refine Frame.via x4 ?_ fun h4 => ?_
  · unfold x4
    refine Frame.glb ?_ rfl (fun _ => trivial)
    exact h2
  try clear_value x4
  extract_lets -merge -useContext -underBinder +onlyGivenNames w5
  have hh : Frame (some [.CSC_STATUS, .GLB_CLK_STATUS, .GLB_MODE_STATUS]) [.glb, .rdo] s
      { x4 with rdo := { w5 with
        acq := smap (fun _ => {}) (fun x => { x with raw := [], settle := 0, lastGroup := none }) x4.rdo.acq,
        ch := smap (fun _ => {}) (fun x => { x with mark := 0, ftws := [], out := [] }) x4.rdo.ch,
        pair := smap (fun _ => {}) (fun x => { x with combDue := 0, marks := [], base := [], bins := [], ovrGroup := none, sleepGroup := none, last := [] })
          x4.rdo.pair } } :=
    Frame.rdo h4 rfl (fun h => by
      obtain ⟨ha, hb, hc⟩ := h
      dsimp only [Part.sound]
      exact ⟨sparseWf_smap ha, sparseWf_smap hb, sparseWf_smap hc⟩)
  refine Frame.ite (fun _ => ?_) (fun _ => hh)
  exact hh.put (inRows_of (r := .CSC_STATUS) rfl (by exact rfl))

theorem holdMean_frame  : Frame (some [.TLN_HOLD_ADJ]) [.tln] s (holdMean s) := by
  unfold holdMean
  refine Frame.ite (fun _ => ?_) (fun _ => ?_)
  · extract_lets -merge -useContext -underBinder +onlyGivenNames v1 w2 x3
    refine Frame.via x3 ?_ fun h3 => ?_
    · unfold x3
      refine Frame.tln ?_ rfl (by first | exact id | exact fun h => ⟨(by first | exact h.1 | exact sparseWf_sset h.1 | exact sparseWf_nil | exact sparseWf_filter h.1 | exact sparseWf_smap h.1 | exact sparseWf_sdrop h.1 | exact sparseWf_sset (sparseWf_sset h.1) | exact sparseWf_fold sparseWf_nil | (dsimp only; exact sparseWf_smap h.1)), (by first | exact h.2 | exact sparseWf_sset h.2 | exact sparseWf_nil | exact sparseWf_filter h.2 | exact sparseWf_smap h.2 | exact sparseWf_sdrop h.2 | exact sparseWf_sset (sparseWf_sset h.2) | exact sparseWf_fold sparseWf_nil | (dsimp only; exact sparseWf_smap h.2))⟩)
      exact Frame.refl
    try clear_value x3
    refine Frame.wr ?_ (inRows_of (r := .TLN_HOLD_ADJ) rfl (by exact rfl))
    exact h3
  · exact Frame.refl

theorem lockReel_frame  : Frame (some [.TLN_EVENT, .TLN_STATUS]) [.events, .sup, .tln] s (lockReel s) := by
  unfold lockReel
  extract_lets -merge -useContext -underBinder +onlyGivenNames x1
  refine Frame.via x1 ?_ fun h1 => ?_
  · unfold x1
    refine Frame.raiseIf ?_ (inRows_of (r := .TLN_EVENT) rfl (by exact rfl)) rfl
    exact Frame.refl
  try clear_value x1
  extract_lets -merge -useContext -underBinder +onlyGivenNames x2
  refine Frame.via x2 ?_ fun h2 => ?_
  · unfold x2
    refine Frame.raise ?_ (inRows_of (r := .TLN_EVENT) rfl (by exact rfl)) rfl
    refine Frame.put ?_ (inRows_of (r := .TLN_STATUS) rfl (by exact rfl))
    exact h1
  try clear_value x2
  refine Frame.tln ?_ rfl (by first | exact id | exact fun h => ⟨(by first | exact h.1 | exact sparseWf_sset h.1 | exact sparseWf_nil | exact sparseWf_filter h.1 | exact sparseWf_smap h.1 | exact sparseWf_sdrop h.1 | exact sparseWf_sset (sparseWf_sset h.1) | exact sparseWf_fold sparseWf_nil | (dsimp only; exact sparseWf_smap h.1)), (by first | exact h.2 | exact sparseWf_sset h.2 | exact sparseWf_nil | exact sparseWf_filter h.2 | exact sparseWf_smap h.2 | exact sparseWf_sdrop h.2 | exact sparseWf_sset (sparseWf_sset h.2) | exact sparseWf_fold sparseWf_nil | (dsimp only; exact sparseWf_smap h.2))⟩)
  exact h2

theorem countLock_frame {a0 : Int} : Frame (some [.TLN_EVENT, .TLN_STATUS]) [.events, .sup, .tln] s (countLock a0 s) := by
  unfold countLock
  extract_lets -merge -useContext -underBinder +onlyGivenNames v1
  refine Frame.ite (fun _ => ?_) (fun _ => ?_)
  · extract_lets -merge -useContext -underBinder +onlyGivenNames x2
    refine Frame.via x2 ?_ fun h2 => ?_
    · unfold x2
      refine Frame.raiseIf ?_ (inRows_of (r := .TLN_EVENT) rfl (by exact rfl)) rfl
      exact Frame.refl
    try clear_value x2
    extract_lets -merge -useContext -underBinder +onlyGivenNames w3 x4
    refine Frame.via x4 ?_ fun h4 => ?_
    · unfold x4
      refine Frame.tln ?_ rfl (by first | exact id | exact fun h => ⟨(by first | exact h.1 | exact sparseWf_sset h.1 | exact sparseWf_nil | exact sparseWf_filter h.1 | exact sparseWf_smap h.1 | exact sparseWf_sdrop h.1 | exact sparseWf_sset (sparseWf_sset h.1) | exact sparseWf_fold sparseWf_nil | (dsimp only; exact sparseWf_smap h.1)), (by first | exact h.2 | exact sparseWf_sset h.2 | exact sparseWf_nil | exact sparseWf_filter h.2 | exact sparseWf_smap h.2 | exact sparseWf_sdrop h.2 | exact sparseWf_sset (sparseWf_sset h.2) | exact sparseWf_fold sparseWf_nil | (dsimp only; exact sparseWf_smap h.2))⟩)
      exact h2
    try clear_value x4
    refine Frame.ite (fun _ => ?_) (fun _ => ?_)
    · refine Frame.then ?_ lockReel_frame rfl rfl
      exact h4
    · exact h4
  · refine Frame.tln ?_ rfl (by first | exact id | exact fun h => ⟨(by first | exact h.1 | exact sparseWf_sset h.1 | exact sparseWf_nil | exact sparseWf_filter h.1 | exact sparseWf_smap h.1 | exact sparseWf_sdrop h.1 | exact sparseWf_sset (sparseWf_sset h.1) | exact sparseWf_fold sparseWf_nil | (dsimp only; exact sparseWf_smap h.1)), (by first | exact h.2 | exact sparseWf_sset h.2 | exact sparseWf_nil | exact sparseWf_filter h.2 | exact sparseWf_smap h.2 | exact sparseWf_sdrop h.2 | exact sparseWf_sset (sparseWf_sset h.2) | exact sparseWf_fold sparseWf_nil | (dsimp only; exact sparseWf_smap h.2))⟩)
    exact Frame.refl

theorem acceptOffset_frame {a0 : Int} : Frame (some [.TLN_ADJ, .TLN_EVENT, .TLN_HOLD_ADJ, .TLN_STATUS]) [.csc, .events, .sup, .tln] s (acceptOffset a0 s) := by
  unfold acceptOffset
  extract_lets -merge -useContext -underBinder +onlyGivenNames v1 x2
  refine Frame.via x2 ?_ fun h2 => ?_
  · unfold x2
    refine Frame.ite (fun _ => ?_) (fun _ => ?_)
    · refine Frame.then ?_ liftRefusal_frame rfl rfl
      exact Frame.refl
    · exact Frame.refl
  try clear_value x2
  extract_lets -merge -useContext -underBinder +onlyGivenNames x3
  refine Frame.via x3 ?_ fun h3 => ?_
  · unfold x3
    refine Frame.then ?_ countLock_frame rfl rfl
    refine Frame.then ?_ holdMean_frame rfl rfl
    refine Frame.then ?_ servo_frame rfl rfl
    exact h2
  try clear_value x3
  refine Frame.tln ?_ rfl (by first | exact id | exact fun h => ⟨(by first | exact h.1 | exact sparseWf_sset h.1 | exact sparseWf_nil | exact sparseWf_filter h.1 | exact sparseWf_smap h.1 | exact sparseWf_sdrop h.1 | exact sparseWf_sset (sparseWf_sset h.1) | exact sparseWf_fold sparseWf_nil | (dsimp only; exact sparseWf_smap h.1)), (by first | exact h.2 | exact sparseWf_sset h.2 | exact sparseWf_nil | exact sparseWf_filter h.2 | exact sparseWf_smap h.2 | exact sparseWf_sdrop h.2 | exact sparseWf_sset (sparseWf_sset h.2) | exact sparseWf_fold sparseWf_nil | (dsimp only; exact sparseWf_smap h.2))⟩)
  exact h3

theorem endAsym_frame  : Frame (some []) [.tln] s (endAsym s) := by
  unfold endAsym
  refine Frame.tln ?_ rfl (by first | exact id | exact fun h => ⟨(by first | exact h.1 | exact sparseWf_sset h.1 | exact sparseWf_nil | exact sparseWf_filter h.1 | exact sparseWf_smap h.1 | exact sparseWf_sdrop h.1 | exact sparseWf_sset (sparseWf_sset h.1) | exact sparseWf_fold sparseWf_nil | (dsimp only; exact sparseWf_smap h.1)), (by first | exact h.2 | exact sparseWf_sset h.2 | exact sparseWf_nil | exact sparseWf_filter h.2 | exact sparseWf_smap h.2 | exact sparseWf_sdrop h.2 | exact sparseWf_sset (sparseWf_sset h.2) | exact sparseWf_fold sparseWf_nil | (dsimp only; exact sparseWf_smap h.2))⟩)
  exact Frame.refl

theorem clearAsym_frame  : Frame (some []) [.tln] s (clearAsym s) := by
  unfold clearAsym
  refine Frame.ite (fun _ => ?_) (fun _ => ?_)
  · extract_lets -merge -useContext -underBinder +onlyGivenNames w1 x2
    refine Frame.via x2 ?_ fun h2 => ?_
    · unfold x2
      refine Frame.tln ?_ rfl (by first | exact id | exact fun h => ⟨(by first | exact h.1 | exact sparseWf_sset h.1 | exact sparseWf_nil | exact sparseWf_filter h.1 | exact sparseWf_smap h.1 | exact sparseWf_sdrop h.1 | exact sparseWf_sset (sparseWf_sset h.1) | exact sparseWf_fold sparseWf_nil | (dsimp only; exact sparseWf_smap h.1)), (by first | exact h.2 | exact sparseWf_sset h.2 | exact sparseWf_nil | exact sparseWf_filter h.2 | exact sparseWf_smap h.2 | exact sparseWf_sdrop h.2 | exact sparseWf_sset (sparseWf_sset h.2) | exact sparseWf_fold sparseWf_nil | (dsimp only; exact sparseWf_smap h.2))⟩)
      exact Frame.refl
    try clear_value x2
    refine Frame.ite (fun _ => ?_) (fun _ => ?_)
    · refine Frame.then ?_ endAsym_frame rfl rfl
      exact h2
    · exact h2
  · exact Frame.refl

theorem measure_frame {a0 : Int} {a1 : Option Nat} : Frame (some [.TLN_ADJ, .TLN_COUNT, .TLN_EVENT, .TLN_HOLD_ADJ, .TLN_OFFSET, .TLN_REFUSED_HI, .TLN_REFUSED_LO, .TLN_STATUS]) [.csc, .events, .sup, .tln] s (measure a0 a1 s) := by
  unfold measure
  extract_lets -merge -useContext -underBinder +onlyGivenNames x1
  refine Frame.via x1 ?_ fun h1 => ?_
  · unfold x1
    refine Frame.wr ?_ (inRows_of (r := .TLN_OFFSET) rfl (by exact rfl))
    exact Frame.refl
  try clear_value x1
  refine Frame.ite (fun _ => ?_) (fun _ => ?_)
  · exact h1
  · refine Frame.ite (fun _ => ?_) (fun _ => ?_)
    · extract_lets -merge -useContext -underBinder +onlyGivenNames w2 x3
      refine Frame.via x3 ?_ fun h3 => ?_
      · unfold x3
        refine Frame.tln ?_ rfl (by first | exact id | exact fun h => ⟨(by first | exact h.1 | exact sparseWf_sset h.1 | exact sparseWf_nil | exact sparseWf_filter h.1 | exact sparseWf_smap h.1 | exact sparseWf_sdrop h.1 | exact sparseWf_sset (sparseWf_sset h.1) | exact sparseWf_fold sparseWf_nil | (dsimp only; exact sparseWf_smap h.1)), (by first | exact h.2 | exact sparseWf_sset h.2 | exact sparseWf_nil | exact sparseWf_filter h.2 | exact sparseWf_smap h.2 | exact sparseWf_sdrop h.2 | exact sparseWf_sset (sparseWf_sset h.2) | exact sparseWf_fold sparseWf_nil | (dsimp only; exact sparseWf_smap h.2))⟩)
        exact h1
      try clear_value x3
      first | split | (clear_value *; split)
      · refine Frame.then ?_ declareAsym_frame rfl rfl
        exact h3
      · exact h3
    · extract_lets -merge -useContext -underBinder +onlyGivenNames v4 x5
      refine Frame.via x5 ?_ fun h5 => ?_
      · unfold x5
        refine Frame.ite (fun _ => ?_) (fun _ => ?_)
        · refine Frame.then ?_ refuseOffset_frame rfl rfl
          exact h1
        · exact h1
      try clear_value x5
      first | split | (clear_value *; split)
      · refine Frame.then ?_ declareAsym_frame rfl rfl
        exact h5
      · extract_lets -merge -useContext -underBinder +onlyGivenNames x6
        refine Frame.via x6 ?_ fun h6 => ?_
        · unfold x6
          refine Frame.then ?_ clearAsym_frame rfl rfl
          exact h5
        try clear_value x6
        refine Frame.ite (fun _ => ?_) (fun _ => ?_)
        · exact h6
        · refine Frame.then ?_ acceptOffset_frame rfl rfl
          exact h6

end Sys2Proof.Machine
end

