-- ==== Sys2Proof/Laws/Frame/Operands.lean ====
section
/-! SUPPORT. Laws/Frame/Operands.lean: what each operation of Machine/Operands.lean can change, and that it keeps a sound state sound. -/

set_option Elab.async false

namespace Sys2Proof.Machine

variable {R : Option (List RegRow)} {P : List Part} {s t : State}

theorem State.setSpindle_frame {a0 : Nat} {a1 : Spn} : Frame (some []) [.spn] s (State.setSpindle s a0 a1) := by
  unfold State.setSpindle
  refine Frame.spn ?_ rfl (fun h => (by first | exact h | exact sparseWf_sset h | exact sparseWf_nil | exact sparseWf_filter h | exact sparseWf_smap h | exact sparseWf_sdrop h | exact sparseWf_sset (sparseWf_sset h) | exact sparseWf_fold sparseWf_nil | (dsimp only; exact sparseWf_smap h)))
  exact Frame.refl

theorem State.setG_frame {a0 : Nat} {a1 : Nat} {a2 : Word} : Frame (some [.SPN_G]) [] s (State.setG s a0 a1 a2) := by
  unfold State.setG
  refine Frame.ite (fun _ => ?_) (fun _ => ?_)
  · exact Frame.refl
  · refine Frame.wr ?_ (inRows_of (r := .SPN_G) rfl (by exact ⟨_, _, rfl⟩))
    exact Frame.refl

end Sys2Proof.Machine
end

