-- ==== Sys2Proof/Laws/Frame/SpindleOps.lean ====
section
/-! SUPPORT. Laws/Frame/SpindleOps.lean: what each operation of Machine/SpindleOps.lean can change, and that it keeps a sound state sound. -/

set_option Elab.async false

namespace Sys2Proof.Machine

variable {R : Option (List RegRow)} {P : List Part} {s t : State}

theorem followScout.issued_frame {a0 : Nat} : Frame (some []) [.spn] s (followScout.issued a0 s) := by
  unfold followScout.issued
  refine Frame.then ?_ State.setSpindle_frame rfl rfl
  exact Frame.refl

theorem State.setDscCh_frame {a0 : Nat} {a1 : DscCh} : Frame (some []) [.dsc] s (State.setDscCh s a0 a1) := by
  unfold State.setDscCh
  refine Frame.dsc ?_ rfl (fun h => (by first | exact h | exact sparseWf_sset h | exact sparseWf_nil | exact sparseWf_filter h | exact sparseWf_smap h | exact sparseWf_sdrop h | exact sparseWf_sset (sparseWf_sset h) | exact sparseWf_fold sparseWf_nil | (dsimp only; exact sparseWf_smap h)))
  exact Frame.refl

theorem setResume_frame {a0 : Nat} {a1 : Nat} {a2 : Bool} : Frame (some [.SPN_PEND, .SPN_RESUME]) [.spn] s (setResume a0 a1 a2 s) := by
  unfold setResume
  extract_lets -merge -useContext -underBinder +onlyGivenNames x1
  refine Frame.via x1 ?_ fun h1 => ?_
  · unfold x1
    refine Frame.put ?_ (inRows_of (r := .SPN_RESUME) rfl (by exact ⟨_, rfl⟩))
    refine Frame.put ?_ (inRows_of (r := .SPN_RESUME) rfl (by exact ⟨_, rfl⟩))
    exact Frame.refl
  try clear_value x1
  extract_lets -merge -useContext -underBinder +onlyGivenNames x2
  refine Frame.via x2 ?_ fun h2 => ?_
  · unfold x2
    refine Frame.put ?_ (inRows_of (r := .SPN_PEND) rfl (by exact ⟨_, rfl⟩))
    exact h1
  try clear_value x2
  refine Frame.then ?_ State.setSpindle_frame rfl rfl
  exact h2

theorem toError_frame {a0 : Nat} {a1 : Option Nat} {a2 : Field} (h : Frame R P s t) (hR : rowsLe (some [.SPN_ERR, .SPN_STATUS]) R = true) (hP : partsLe [.events, .spn, .sup] P = true) (ha2 : inRows R a2.reg) : Frame R P s (toError a0 a1 a2 t) := by
  unfold toError
  extract_lets -merge -useContext -underBinder +onlyGivenNames x1
  refine Frame.via x1 ?_ fun h1 => ?_
  · unfold x1
    refine Frame.raise ?_ ha2 (partsLe_trans rfl hP)
    refine Frame.put ?_ (inRows_of (r := .SPN_STATUS) (rowsLe_trans rfl hR) (by exact ⟨_, rfl⟩))
    exact h
  try clear_value x1
  extract_lets -merge -useContext -underBinder +onlyGivenNames x2
  refine Frame.via x2 ?_ fun h2 => ?_
  · unfold x2
    first | split | (clear_value *; split)
    · refine Frame.put ?_ (inRows_of (r := .SPN_ERR) (rowsLe_trans rfl hR) (by exact ⟨_, rfl⟩))
      exact h1
    · exact h1
  try clear_value x2
  extract_lets -merge -useContext -underBinder +onlyGivenNames x3
  refine Frame.via x3 ?_ fun h3 => ?_
  · unfold x3
    refine Frame.put ?_ (inRows_of (r := .SPN_STATUS) (rowsLe_trans rfl hR) (by exact ⟨_, rfl⟩))
    refine Frame.put ?_ (inRows_of (r := .SPN_STATUS) (rowsLe_trans rfl hR) (by exact ⟨_, rfl⟩))
    exact h2
  try clear_value x3
  refine Frame.then ?_ State.setSpindle_frame (rowsLe_trans rfl hR) (partsLe_trans rfl hP)
  exact h3

theorem toIdle_frame {a0 : Nat} : Frame (some [.SPN_STATUS]) [.spn] s (toIdle a0 s) := by
  unfold toIdle
  extract_lets -merge -useContext -underBinder +onlyGivenNames x1
  refine Frame.via x1 ?_ fun h1 => ?_
  · unfold x1
    refine Frame.put ?_ (inRows_of (r := .SPN_STATUS) rfl (by exact ⟨_, rfl⟩))
    refine Frame.put ?_ (inRows_of (r := .SPN_STATUS) rfl (by exact ⟨_, rfl⟩))
    exact Frame.refl
  try clear_value x1
  extract_lets -merge -useContext -underBinder +onlyGivenNames x2
  refine Frame.via x2 ?_ fun h2 => ?_
  · unfold x2
    refine Frame.put ?_ (inRows_of (r := .SPN_STATUS) rfl (by exact ⟨_, rfl⟩))
    refine Frame.put ?_ (inRows_of (r := .SPN_STATUS) rfl (by exact ⟨_, rfl⟩))
    exact h1
  try clear_value x2
  refine Frame.then ?_ State.setSpindle_frame rfl rfl
  exact h2

theorem noteMissed_frame {a0 : Nat} : Frame (some []) [.spn] s (noteMissed a0 s) := by
  unfold noteMissed
  refine Frame.then ?_ State.setSpindle_frame rfl rfl
  exact Frame.refl

theorem restoreCheckpoint_frame {a0 : Nat} : Frame (some [.SPN_G, .SPN_LC, .SPN_TB_HI, .SPN_TB_LO]) [.spn] s (restoreCheckpoint a0 s) := by
  unfold restoreCheckpoint
  first | split | (clear_value *; split)
  · exact Frame.refl
  · extract_lets -merge -useContext -underBinder +onlyGivenNames x1
    refine Frame.via x1 ?_ fun h1 => ?_
    · unfold x1
      refine Frame.forN _ ?_ fun i x hx => ?_
      · exact Frame.refl
      · refine Frame.then ?_ State.setG_frame rfl rfl
        exact hx
    try clear_value x1
    extract_lets -merge -useContext -underBinder +onlyGivenNames x2
    refine Frame.via x2 ?_ fun h2 => ?_
    · unfold x2
      refine Frame.forN _ ?_ fun i x hx => ?_
      · exact h1
      · refine Frame.wr ?_ (inRows_of (r := .SPN_LC) rfl (by exact ⟨_, _, rfl⟩))
        exact hx
    try clear_value x2
    extract_lets -merge -useContext -underBinder +onlyGivenNames x3
    refine Frame.via x3 ?_ fun h3 => ?_
    · unfold x3
      refine Frame.wr64 ?_ (inRows_of (r := .SPN_TB_LO) rfl (by exact ⟨_, rfl⟩)) (inRows_of (r := .SPN_TB_HI) rfl (by exact ⟨_, hiShift1 (by decide)⟩))
      exact h2
    try clear_value x3
    refine Frame.then ?_ State.setSpindle_frame rfl rfl
    exact h3

theorem haltNow_frame {a0 : Nat} : Frame (some [.SPN_EVENT, .SPN_STATUS]) [.events, .spn, .sup] s (haltNow a0 s) := by
  unfold haltNow
  extract_lets -merge -useContext -underBinder +onlyGivenNames x1
  refine Frame.via x1 ?_ fun h1 => ?_
  · unfold x1
    refine Frame.then ?_ noteMissed_frame rfl rfl
    exact Frame.refl
  try clear_value x1
  extract_lets -merge -useContext -underBinder +onlyGivenNames x2
  refine Frame.via x2 ?_ fun h2 => ?_
  · unfold x2
    refine Frame.raise ?_ (inRows_of (r := .SPN_EVENT) rfl (by exact ⟨_, rfl⟩)) rfl
    refine Frame.put ?_ (inRows_of (r := .SPN_STATUS) rfl (by exact ⟨_, rfl⟩))
    exact h1
  try clear_value x2
  refine Frame.put ?_ (inRows_of (r := .SPN_STATUS) rfl (by exact ⟨_, rfl⟩))
  refine Frame.put ?_ (inRows_of (r := .SPN_STATUS) rfl (by exact ⟨_, rfl⟩))
  exact h2

theorem advanceTo_frame {a0 : Nat} {a1 : Nat} {a2 : Nat} : Frame (some [.SPN_EVENT, .SPN_STATUS]) [.events, .spn, .sup] s (advanceTo a0 a1 a2 s) := by
  unfold advanceTo
  extract_lets -merge -useContext -underBinder +onlyGivenNames w1 x2
  refine Frame.via x2 ?_ fun h2 => ?_
  · unfold x2
    refine Frame.then ?_ State.setSpindle_frame rfl rfl
    exact Frame.refl
  try clear_value x2
  refine Frame.ite (fun _ => ?_) (fun _ => ?_)
  · refine Frame.then ?_ haltNow_frame rfl rfl
    exact h2
  · exact h2

theorem oneTick_frame {a0 : Nat} : Frame (some [.SPN_EVENT, .SPN_STATUS]) [.events, .spn, .sup] s (oneTick a0 s) := by
  unfold oneTick
  refine Frame.then ?_ advanceTo_frame rfl rfl
  exact Frame.refl

theorem startWait_frame {a0 : Nat} {a1 : Wait} : Frame (some [.SPN_STATUS]) [.spn] s (startWait a0 a1 s) := by
  unfold startWait
  refine Frame.then ?_ State.setSpindle_frame rfl rfl
  refine Frame.put ?_ (inRows_of (r := .SPN_STATUS) rfl (by exact ⟨_, rfl⟩))
  exact Frame.refl

theorem restartScoutWith_frame {a0 : Nat} {a1 : Nat} {a2 : Nat} {a3 : List Nat} {a4 : Nat} : Frame (some []) [.spn] s (restartScoutWith a0 a1 a2 a3 a4 s) := by
  unfold restartScoutWith
  refine Frame.then ?_ State.setSpindle_frame rfl rfl
  exact Frame.refl

theorem restartScout_frame {a0 : Nat} {a1 : Nat} {a2 : Nat} : Frame (some []) [.spn] s (restartScout a0 a1 a2 s) := by
  unfold restartScout
  refine Frame.then ?_ restartScoutWith_frame rfl rfl
  exact Frame.refl

theorem followScout_frame {a0 : Nat} {a1 : Nat} : Frame (some []) [.spn] s (followScout a0 a1 s) := by
  unfold followScout
  extract_lets -merge -useContext -underBinder +onlyGivenNames v1
  first | split | (clear_value *; split)
  · refine Frame.ite (fun _ => ?_) (fun _ => ?_)
    · refine Frame.then ?_ State.setSpindle_frame rfl rfl
      exact Frame.refl
    · refine Frame.then ?_ followScout.issued_frame rfl rfl
      refine Frame.then ?_ restartScout_frame rfl rfl
      exact Frame.refl
  · refine Frame.then ?_ followScout.issued_frame rfl rfl
    refine Frame.then ?_ restartScout_frame rfl rfl
    exact Frame.refl

theorem enterHandler_frame {a0 : Nat} {a1 : Nat} : Frame (some [.SPN_STATUS]) [] s (enterHandler a0 a1 s) := by
  unfold enterHandler
  refine Frame.put ?_ (inRows_of (r := .SPN_STATUS) rfl (by exact ⟨_, rfl⟩))
  refine Frame.put ?_ (inRows_of (r := .SPN_STATUS) rfl (by exact ⟨_, rfl⟩))
  exact Frame.refl

theorem resolveGap_frame {a0 : Nat} : Frame (some [.SPN_STATUS]) [.spn] s (resolveGap a0 s) := by
  unfold resolveGap
  extract_lets -merge -useContext -underBinder +onlyGivenNames v1 v2
  first | split | (clear_value *; split)
  · exact Frame.refl
  · extract_lets -merge -useContext -underBinder +onlyGivenNames v3
    first | split | (clear_value *; split)
    · refine Frame.then ?_ State.setSpindle_frame rfl rfl
      refine Frame.then ?_ enterHandler_frame rfl rfl
      exact Frame.refl
    · refine Frame.then ?_ State.setSpindle_frame rfl rfl
      exact Frame.refl

theorem issue_frame {a0 : Nat} : Frame (some [.SPN_STATUS]) [.spn] s (issue a0 s).2 := by
  unfold issue
  extract_lets -merge -useContext -underBinder +onlyGivenNames x1
  refine Frame.via x1 ?_ fun h1 => ?_
  · unfold x1
    refine Frame.then ?_ resolveGap_frame rfl rfl
    exact Frame.refl
  try clear_value x1
  extract_lets -merge -useContext -underBinder +onlyGivenNames v2 x3
  refine Frame.via x3 ?_ fun h3 => ?_
  · unfold x3
    refine Frame.then ?_ State.setSpindle_frame rfl rfl
    exact h1
  try clear_value x3
  extract_lets -merge -useContext -underBinder +onlyGivenNames x4
  refine Frame.via x4 ?_ fun h4 => ?_
  · unfold x4
    refine Frame.put ?_ (inRows_of (r := .SPN_STATUS) rfl (by exact ⟨_, rfl⟩))
    refine Frame.put ?_ (inRows_of (r := .SPN_STATUS) rfl (by exact ⟨_, rfl⟩))
    exact h3
  try clear_value x4
  extract_lets -merge -useContext -underBinder +onlyGivenNames x5
  refine Frame.via x5 ?_ fun h5 => ?_
  · unfold x5
    refine Frame.then ?_ followScout_frame rfl rfl
    exact h4
  try clear_value x5
  first | split | (clear_value *; split)
  · exact h5
  · split
    · extract_lets -merge -useContext -underBinder +onlyGivenNames x6
      refine Frame.via x6 ?_ fun h6 => ?_
      · unfold x6
        refine Frame.put ?_ (inRows_of (r := .SPN_STATUS) rfl (by exact ⟨_, rfl⟩))
        exact h5
      try clear_value x6
      refine Frame.then ?_ State.setSpindle_frame rfl rfl
      exact h6
    · exact h5

theorem runWord_frame {n : Nat} {body : Micro → Option (State → State)} (h : Frame R P s t)
    (hR : rowsLe (some [.SPN_EVENT, .SPN_STATUS]) R = true) (hP : partsLe [.events, .spn, .sup] P = true)
    (hb : ∀ m act, body m = some act → ∀ x, Frame R P s x → Frame R P s (act x)) : Frame R P s (runWord n body t) := by
  unfold runWord
  refine Frame.ite (fun _ => ?_) (fun _ => h)
  have hi : Frame R P s (issue n t).2 := h.then issue_frame (rowsLe_trans rfl hR) (partsLe_trans rfl hP)
  split
  · rename_i m x e
    have hx : Frame R P s x := Frame.ofSnd e hi
    split
    · rename_i act ha
      refine Frame.ite (fun _ => ?_) (fun _ => Frame.ite (fun _ => h) (fun _ => hb _ _ ha _ hx))
      exact Frame.then hx oneTick_frame (rowsLe_trans rfl hR) (partsLe_trans rfl hP)
    · exact h
  · exact h

theorem scoutAbandoned_frame {a0 : Nat} : Frame (some []) [.spn] s (scoutAbandoned a0 s) := by
  unfold scoutAbandoned
  first | split | (clear_value *; split)
  · refine Frame.then ?_ restartScoutWith_frame rfl rfl
    exact Frame.refl
  · refine Frame.then ?_ restartScout_frame rfl rfl
    exact Frame.refl

theorem abandon_frame {a0 : Nat} {a1 : Option Nat} : Frame (some [.SPN_COUNT, .SPN_EVENT, .SPN_PEND, .SPN_RESUME, .SPN_STATUS]) [.events, .later, .spn, .sup] s (abandon a0 a1 s) := by
  unfold abandon
  extract_lets -merge -useContext -underBinder +onlyGivenNames x1
  refine Frame.via x1 ?_ fun h1 => ?_
  · unfold x1
    refine Frame.then ?_ noteMissed_frame rfl rfl
    exact Frame.refl
  try clear_value x1
  extract_lets -merge -useContext -underBinder +onlyGivenNames x2
  refine Frame.via x2 ?_ fun h2 => ?_
  · unfold x2
    refine Frame.count ?_ (inRows_of (r := .SPN_COUNT) rfl (by exact ⟨_, rfl⟩))
    refine Frame.raise ?_ (inRows_of (r := .SPN_EVENT) rfl (by exact ⟨_, rfl⟩)) rfl
    exact h1
  try clear_value x2
  extract_lets -merge -useContext -underBinder +onlyGivenNames x3
  refine Frame.via x3 ?_ fun h3 => ?_
  · unfold x3
    refine Frame.ite (fun _ => ?_) (fun _ => ?_)
    · exact h2
    · refine Frame.then ?_ setResume_frame rfl rfl
      exact h2
  try clear_value x3
  extract_lets -merge -useContext -underBinder +onlyGivenNames x4
  refine Frame.via x4 ?_ fun h4 => ?_
  · unfold x4
    refine Frame.put ?_ (inRows_of (r := .SPN_STATUS) rfl (by exact ⟨_, rfl⟩))
    exact h3
  try clear_value x4
  extract_lets -merge -useContext -underBinder +onlyGivenNames w5 x6
  refine Frame.via x6 ?_ fun h6 => ?_
  · unfold x6
    refine Frame.then ?_ State.setSpindle_frame rfl rfl
    exact h4
  try clear_value x6
  extract_lets -merge -useContext -underBinder +onlyGivenNames x7
  refine Frame.via x7 ?_ fun h7 => ?_
  · unfold x7
    refine Frame.then ?_ scoutAbandoned_frame rfl rfl
    refine Frame.later ?_ rfl (fun _ => trivial)
    exact h6
  try clear_value x7
  refine Frame.ite (fun _ => ?_) (fun _ => ?_)
  · refine Frame.then ?_ haltNow_frame rfl rfl
    exact h7
  · exact h7

theorem stopSpindle_frame {a0 : Nat} : Frame (some [.SPN_COUNT, .SPN_EVENT, .SPN_PEND, .SPN_RESUME, .SPN_STATUS]) [.events, .later, .spn, .sup] s (stopSpindle a0 s) := by
  unfold stopSpindle
  extract_lets -merge -useContext -underBinder +onlyGivenNames v1
  refine Frame.ite (fun _ => ?_) (fun _ => ?_)
  · exact Frame.refl
  · refine Frame.ite (fun _ => ?_) (fun _ => ?_)
    · refine Frame.then ?_ State.setSpindle_frame rfl rfl
      exact Frame.refl
    · refine Frame.ite (fun _ => ?_) (fun _ => ?_)
      · extract_lets -merge -useContext -underBinder +onlyGivenNames x2
        refine Frame.via x2 ?_ fun h2 => ?_
        · unfold x2
          refine Frame.ite (fun _ => ?_) (fun _ => ?_)
          · refine Frame.then ?_ abandon_frame rfl rfl
            exact Frame.refl
          · exact Frame.refl
        try clear_value x2
        extract_lets -merge -useContext -underBinder +onlyGivenNames w3 x4
        refine Frame.via x4 ?_ fun h4 => ?_
        · unfold x4
          refine Frame.then ?_ State.setSpindle_frame rfl rfl
          exact h2
        try clear_value x4
        refine Frame.later ?_ rfl (fun _ => trivial)
        exact h4
      · refine Frame.then ?_ toIdle_frame rfl rfl
        exact Frame.refl

theorem underrunStopped_frame {a0 : Nat} : Frame (some [.SPN_COUNT, .SPN_EVENT, .SPN_PEND, .SPN_RESUME, .SPN_STATUS]) [.events, .later, .spn, .sup] s (underrunStopped a0 s) := by
  unfold underrunStopped
  refine Frame.then ?_ stopSpindle_frame rfl rfl
  refine Frame.then ?_ State.setSpindle_frame rfl rfl
  exact Frame.refl

theorem stopAllSpindles_frame  : Frame (some []) [.glb, .later] s (stopAllSpindles s) := by
  unfold stopAllSpindles
  refine Frame.upd (t := s) [.later, .glb] ?_ rfl rfl (fun p hn => by cases p <;> first | rfl | exact ⟨rfl, rfl⟩ | exact ⟨rfl, rfl, rfl⟩ | exact absurd hn (by decide)) (fun p hm => by
      simp only [List.mem_cons, List.not_mem_nil, or_false] at hm
      rcases hm with rfl | rfl
      · exact fun _ => trivial
      · exact fun _ => trivial)
  exact Frame.refl

theorem setLatch_frame {a0 : Nat} {a1 : Nat} : Frame (some [.SPN_EVENT, .SPN_SIN, .SPN_SIN_OVR]) [.events, .spn, .sup] s (setLatch a0 a1 s) := by
  unfold setLatch
  extract_lets -merge -useContext -underBinder +onlyGivenNames w1 x2
  refine Frame.via x2 ?_ fun h2 => ?_
  · unfold x2
    refine Frame.ite (fun _ => ?_) (fun _ => ?_)
    · refine Frame.raise ?_ (inRows_of (r := .SPN_EVENT) rfl (by exact ⟨_, rfl⟩)) rfl
      refine Frame.raise ?_ (inRows_of (r := .SPN_SIN_OVR) rfl (by exact ⟨_, rfl⟩)) rfl
      exact Frame.refl
    · refine Frame.then ?_ State.setSpindle_frame rfl rfl
      exact Frame.refl
  try clear_value x2
  refine Frame.raise ?_ (inRows_of (r := .SPN_SIN) rfl (by exact ⟨_, rfl⟩)) rfl
  exact h2

theorem clearLatches_frame {a0 : Nat} {a1 : Nat} : Frame (some [.SPN_SIN]) [] s (clearLatches a0 a1 s) := by
  unfold clearLatches
  extract_lets -merge -useContext -underBinder +onlyGivenNames v1
  refine Frame.wr ?_ (inRows_of (r := .SPN_SIN) rfl (by exact ⟨_, rfl⟩))
  exact Frame.refl

theorem setPending_frame {a0 : Nat} {a1 : Nat} : Frame (some [.SPN_COUNT, .SPN_EVENT, .SPN_PEND, .SPN_VEC]) [.events, .spn, .sup] s (setPending a0 a1 s) := by
  unfold setPending
  refine Frame.ite (fun _ => ?_) (fun _ => ?_)
  · refine Frame.raise ?_ (inRows_of (r := .SPN_EVENT) rfl (by exact ⟨_, rfl⟩)) rfl
    refine Frame.count ?_ (inRows_of (r := .SPN_COUNT) rfl (by exact ⟨_, rfl⟩))
    refine Frame.raise ?_ (inRows_of (r := .SPN_VEC) rfl (by exact ⟨_, _, rfl⟩)) rfl
    exact Frame.refl
  · extract_lets -merge -useContext -underBinder +onlyGivenNames v1 v2 x3
    refine Frame.via x3 ?_ fun h3 => ?_
    · unfold x3
      refine Frame.put ?_ (inRows_of (r := .SPN_PEND) rfl (by exact ⟨_, rfl⟩))
      exact Frame.refl
    try clear_value x3
    extract_lets -merge -useContext -underBinder +onlyGivenNames x4
    refine Frame.via x4 ?_ fun h4 => ?_
    · unfold x4
      refine Frame.then ?_ State.setSpindle_frame rfl rfl
      exact h3
    try clear_value x4
    refine Frame.raiseIf ?_ (inRows_of (r := .SPN_EVENT) rfl (by exact ⟨_, rfl⟩)) rfl
    exact h4

theorem State.setShadow_frame {a0 : Nat} {a1 : Nat} {a2 : Shadow} : Frame (some []) [.spn] s (State.setShadow s a0 a1 a2) := by
  unfold State.setShadow
  refine Frame.then ?_ State.setSpindle_frame rfl rfl
  exact Frame.refl

end Sys2Proof.Machine
end

