-- ==== Sys2Proof/Laws/Frame/Permits.lean ====
section
/-! SUPPORT. Laws/Frame/Permits.lean: what each operation of Machine/Permits.lean can change, and that it keeps a sound state sound. -/

set_option Elab.async false

namespace Sys2Proof.Machine

variable {R : Option (List RegRow)} {P : List Part} {s t : State}

theorem lowLevels_frame  : Frame (some [.SYN_MRK_LEVEL, .SYN_TRG_LEVEL]) [.syn] s (lowLevels s) := by
  unfold lowLevels
  extract_lets -merge -useContext -underBinder +onlyGivenNames x1
  refine Frame.via x1 ?_ fun h1 => ?_
  · unfold x1
    refine Frame.wr ?_ (inRows_of (r := .SYN_TRG_LEVEL) rfl (by exact rfl))
    refine Frame.wr ?_ (inRows_of (r := .SYN_MRK_LEVEL) rfl (by exact rfl))
    exact Frame.refl
  try clear_value x1
  refine Frame.syn ?_ rfl (fun h => ⟨(by first | exact h.1 | exact sparseWf_sset h.1 | exact sparseWf_nil | exact sparseWf_filter h.1 | exact sparseWf_smap h.1 | exact sparseWf_sdrop h.1 | exact sparseWf_sset (sparseWf_sset h.1) | exact sparseWf_fold sparseWf_nil | (dsimp only; exact sparseWf_smap h.1)), (by first | exact h.2.1 | exact sparseWf_sset h.2.1 | exact sparseWf_nil | exact sparseWf_filter h.2.1 | exact sparseWf_smap h.2.1 | exact sparseWf_sdrop h.2.1 | exact sparseWf_sset (sparseWf_sset h.2.1) | exact sparseWf_fold sparseWf_nil | (dsimp only; exact sparseWf_smap h.2.1)), (by first | exact h.2.2.1 | exact sparseWf_sset h.2.2.1 | exact sparseWf_nil | exact sparseWf_filter h.2.2.1 | exact sparseWf_smap h.2.2.1 | exact sparseWf_sdrop h.2.2.1 | exact sparseWf_sset (sparseWf_sset h.2.2.1) | exact sparseWf_fold sparseWf_nil | (dsimp only; exact sparseWf_smap h.2.2.1)), (by first | exact h.2.2.2.1 | exact sparseWf_sset h.2.2.2.1 | exact sparseWf_nil | exact sparseWf_filter h.2.2.2.1 | exact sparseWf_smap h.2.2.2.1 | exact sparseWf_sdrop h.2.2.2.1 | exact sparseWf_sset (sparseWf_sset h.2.2.2.1) | exact sparseWf_fold sparseWf_nil | (dsimp only; exact sparseWf_smap h.2.2.2.1)), (by first | exact h.2.2.2.2.1 | exact sparseWf_sset h.2.2.2.2.1 | exact sparseWf_nil | exact sparseWf_filter h.2.2.2.2.1 | exact sparseWf_smap h.2.2.2.2.1 | exact sparseWf_sdrop h.2.2.2.2.1 | exact sparseWf_sset (sparseWf_sset h.2.2.2.2.1) | exact sparseWf_fold sparseWf_nil | (dsimp only; exact sparseWf_smap h.2.2.2.2.1)), (by first | exact h.2.2.2.2.2 | exact sparseWf_sset h.2.2.2.2.2 | exact sparseWf_nil | exact sparseWf_filter h.2.2.2.2.2 | exact sparseWf_smap h.2.2.2.2.2 | exact sparseWf_sdrop h.2.2.2.2.2 | exact sparseWf_sset (sparseWf_sset h.2.2.2.2.2) | exact sparseWf_fold sparseWf_nil | (dsimp only; exact sparseWf_smap h.2.2.2.2.2))⟩)
  exact h1

theorem permitting_frame {a0 : State → State} (h : Frame R P s t) (hR : rowsLe (some [.SYN_MRK_LEVEL, .SYN_TRG_LEVEL]) R = true) (hP : partsLe [.sup, .syn] P = true) (ha0 : ∀ x, Frame R P s x → Frame R P s (a0 x)) : Frame R P s (permitting a0 t) := by
  unfold permitting
  extract_lets -merge -useContext -underBinder +onlyGivenNames x1
  refine Frame.via x1 ?_ fun h1 => ?_
  · unfold x1
    refine ha0 _ ?_
    exact h
  try clear_value x1
  refine Frame.ite (fun _ => ?_) (fun _ => ?_)
  · extract_lets -merge -useContext -underBinder +onlyGivenNames v2
    refine Frame.then ?_ lowLevels_frame (rowsLe_trans rfl hR) (partsLe_trans rfl hP)
    refine Frame.sup ?_ (partsLe_trans rfl hP) (by first | exact id | exact fun h => ⟨(by first | exact h.1 | exact sparseWf_sset h.1 | exact sparseWf_nil | exact sparseWf_filter h.1 | exact sparseWf_smap h.1 | exact sparseWf_sdrop h.1 | exact sparseWf_sset (sparseWf_sset h.1) | exact sparseWf_fold sparseWf_nil | (dsimp only; exact sparseWf_smap h.1)), (by first | exact h.2.1 | exact sparseWf_sset h.2.1 | exact sparseWf_nil | exact sparseWf_filter h.2.1 | exact sparseWf_smap h.2.1 | exact sparseWf_sdrop h.2.1 | exact sparseWf_sset (sparseWf_sset h.2.1) | exact sparseWf_fold sparseWf_nil | (dsimp only; exact sparseWf_smap h.2.1)), (by first | exact h.2.2.1 | exact sparseWf_sset h.2.2.1 | exact sparseWf_nil | exact sparseWf_filter h.2.2.1 | exact sparseWf_smap h.2.2.1 | exact sparseWf_sdrop h.2.2.1 | exact sparseWf_sset (sparseWf_sset h.2.2.1) | exact sparseWf_fold sparseWf_nil | (dsimp only; exact sparseWf_smap h.2.2.1)), (by first | exact h.2.2.2.1 | exact sparseWf_sset h.2.2.2.1 | exact sparseWf_nil | exact sparseWf_filter h.2.2.2.1 | exact sparseWf_smap h.2.2.2.1 | exact sparseWf_sdrop h.2.2.2.1 | exact sparseWf_sset (sparseWf_sset h.2.2.2.1) | exact sparseWf_fold sparseWf_nil | (dsimp only; exact sparseWf_smap h.2.2.2.1)), (by first | exact h.2.2.2.2.1 | exact sparseWf_sset h.2.2.2.2.1 | exact sparseWf_nil | exact sparseWf_filter h.2.2.2.2.1 | exact sparseWf_smap h.2.2.2.2.1 | exact sparseWf_sdrop h.2.2.2.2.1 | exact sparseWf_sset (sparseWf_sset h.2.2.2.2.1) | exact sparseWf_fold sparseWf_nil | (dsimp only; exact sparseWf_smap h.2.2.2.2.1)), (by first | exact h.2.2.2.2.2 | exact sparseWf_sset h.2.2.2.2.2 | exact sparseWf_nil | exact sparseWf_filter h.2.2.2.2.2 | exact sparseWf_smap h.2.2.2.2.2 | exact sparseWf_sdrop h.2.2.2.2.2 | exact sparseWf_sset (sparseWf_sset h.2.2.2.2.2) | exact sparseWf_fold sparseWf_nil | (dsimp only; exact sparseWf_smap h.2.2.2.2.2))⟩)
    exact h1
  · exact h1

theorem safeRampStep_frame {a0 : Nat} : Frame (some [.SYN_BIA_NOW]) [] s (safeRampStep a0 s) := by
  unfold safeRampStep
  refine Frame.ite (fun _ => ?_) (fun _ => ?_)
  · exact Frame.refl
  · extract_lets -merge -useContext -underBinder +onlyGivenNames v1
    refine Frame.put ?_ (inRows_of (r := .SYN_BIA_NOW) rfl (by exact ⟨_, rfl⟩))
    exact Frame.refl

end Sys2Proof.Machine
end

