-- ==== Sys2Proof/Laws/Frame/Arbiter.lean ====
section
/-! SUPPORT. Laws/Frame/Arbiter.lean: what each operation of Machine/Arbiter.lean can change, and that it keeps a sound state sound. -/

set_option Elab.async false

namespace Sys2Proof.Machine

variable {R : Option (List RegRow)} {P : List Part} {s t : State}

theorem askDram_frame {a0 : Nat} {a1 : DramOwner} {a2 : Nat} {a3 : List (Nat × Nat)} : Frame (some []) [.mem] s (askDram a0 a1 a2 a3 s) := by
  unfold askDram
  extract_lets -merge -useContext -underBinder +onlyGivenNames v1
  refine Frame.ite (fun _ => ?_) (fun _ => ?_)
  · exact Frame.refl
  · refine Frame.mem ?_ rfl (fun h => ⟨(by first | exact h.1 | exact sparseWf_sset h.1 | exact sparseWf_nil | exact sparseWf_filter h.1 | exact sparseWf_smap h.1 | exact sparseWf_sdrop h.1 | exact sparseWf_sset (sparseWf_sset h.1) | exact sparseWf_fold sparseWf_nil | (dsimp only; exact sparseWf_smap h.1)), (by first | exact h.2.1 | exact sparseWf_sset h.2.1 | exact sparseWf_nil | exact sparseWf_filter h.2.1 | exact sparseWf_smap h.2.1 | exact sparseWf_sdrop h.2.1 | exact sparseWf_sset (sparseWf_sset h.2.1) | exact sparseWf_fold sparseWf_nil | (dsimp only; exact sparseWf_smap h.2.1)), (by first | exact h.2.2.1 | exact sparseWf_sset h.2.2.1 | exact sparseWf_nil | exact sparseWf_filter h.2.2.1 | exact sparseWf_smap h.2.2.1 | exact sparseWf_sdrop h.2.2.1 | exact sparseWf_sset (sparseWf_sset h.2.2.1) | exact sparseWf_fold sparseWf_nil | (dsimp only; exact sparseWf_smap h.2.2.1)), (by first | exact h.2.2.2 | exact sparseWf_sset h.2.2.2 | exact sparseWf_nil | exact sparseWf_filter h.2.2.2 | exact sparseWf_smap h.2.2.2 | exact sparseWf_sdrop h.2.2.2 | exact sparseWf_sset (sparseWf_sset h.2.2.2) | exact sparseWf_fold sparseWf_nil | (dsimp only; exact sparseWf_smap h.2.2.2))⟩)
    exact Frame.refl

theorem dropDram_frame {a0 : DramOwner} : Frame (some []) [.mem] s (dropDram a0 s) := by
  unfold dropDram
  refine Frame.mem ?_ rfl (fun h => ⟨(by first | exact h.1 | exact sparseWf_sset h.1 | exact sparseWf_nil | exact sparseWf_filter h.1 | exact sparseWf_smap h.1 | exact sparseWf_sdrop h.1 | exact sparseWf_sset (sparseWf_sset h.1) | exact sparseWf_fold sparseWf_nil | (dsimp only; exact sparseWf_smap h.1)), (by first | exact h.2.1 | exact sparseWf_sset h.2.1 | exact sparseWf_nil | exact sparseWf_filter h.2.1 | exact sparseWf_smap h.2.1 | exact sparseWf_sdrop h.2.1 | exact sparseWf_sset (sparseWf_sset h.2.1) | exact sparseWf_fold sparseWf_nil | (dsimp only; exact sparseWf_smap h.2.1)), (by first | exact h.2.2.1 | exact sparseWf_sset h.2.2.1 | exact sparseWf_nil | exact sparseWf_filter h.2.2.1 | exact sparseWf_smap h.2.2.1 | exact sparseWf_sdrop h.2.2.1 | exact sparseWf_sset (sparseWf_sset h.2.2.1) | exact sparseWf_fold sparseWf_nil | (dsimp only; exact sparseWf_smap h.2.2.1)), (by first | exact h.2.2.2 | exact sparseWf_sset h.2.2.2 | exact sparseWf_nil | exact sparseWf_filter h.2.2.2 | exact sparseWf_smap h.2.2.2 | exact sparseWf_sdrop h.2.2.2 | exact sparseWf_sset (sparseWf_sset h.2.2.2) | exact sparseWf_fold sparseWf_nil | (dsimp only; exact sparseWf_smap h.2.2.2))⟩)
  exact Frame.refl

theorem dropRefills_frame {a0 : Nat} : Frame (some []) [.mem] s (dropRefills a0 s) := by
  unfold dropRefills
  refine Frame.mem ?_ rfl (fun h => ⟨(by first | exact h.1 | exact sparseWf_sset h.1 | exact sparseWf_nil | exact sparseWf_filter h.1 | exact sparseWf_smap h.1 | exact sparseWf_sdrop h.1 | exact sparseWf_sset (sparseWf_sset h.1) | exact sparseWf_fold sparseWf_nil | (dsimp only; exact sparseWf_smap h.1)), (by first | exact h.2.1 | exact sparseWf_sset h.2.1 | exact sparseWf_nil | exact sparseWf_filter h.2.1 | exact sparseWf_smap h.2.1 | exact sparseWf_sdrop h.2.1 | exact sparseWf_sset (sparseWf_sset h.2.1) | exact sparseWf_fold sparseWf_nil | (dsimp only; exact sparseWf_smap h.2.1)), (by first | exact h.2.2.1 | exact sparseWf_sset h.2.2.1 | exact sparseWf_nil | exact sparseWf_filter h.2.2.1 | exact sparseWf_smap h.2.2.1 | exact sparseWf_sdrop h.2.2.1 | exact sparseWf_sset (sparseWf_sset h.2.2.1) | exact sparseWf_fold sparseWf_nil | (dsimp only; exact sparseWf_smap h.2.2.1)), (by first | exact h.2.2.2 | exact sparseWf_sset h.2.2.2 | exact sparseWf_nil | exact sparseWf_filter h.2.2.2 | exact sparseWf_smap h.2.2.2 | exact sparseWf_sdrop h.2.2.2 | exact sparseWf_sset (sparseWf_sset h.2.2.2) | exact sparseWf_fold sparseWf_nil | (dsimp only; exact sparseWf_smap h.2.2.2))⟩)
  exact Frame.refl

theorem raiseDelayed_frame {a0 : Nat} : Frame (some [.MEM_EVENT]) [.events, .sup] s (raiseDelayed a0 s) := by
  unfold raiseDelayed
  first | split | (clear_value *; split)
  · refine Frame.raise ?_ (inRows_of (r := .MEM_EVENT) rfl (by exact rfl)) rfl
    exact Frame.refl
  · refine Frame.raise ?_ (inRows_of (r := .MEM_EVENT) rfl (by exact rfl)) rfl
    exact Frame.refl
  · refine Frame.raise ?_ (inRows_of (r := .MEM_EVENT) rfl (by exact rfl)) rfl
    exact Frame.refl
  · exact Frame.refl

theorem dramDone_frame {a0 : DramReq} : Frame (some [.MEM_CLS_COUNT, .MEM_CLS_MAXLAT, .MEM_EVENT]) [.events, .sup] s (dramDone a0 s) := by
  unfold dramDone
  extract_lets -merge -useContext -underBinder +onlyGivenNames v1 v2 x3
  refine Frame.via x3 ?_ fun h3 => ?_
  · unfold x3
    refine Frame.ite (fun _ => ?_) (fun _ => ?_)
    · refine Frame.put ?_ (inRows_of (r := .MEM_CLS_MAXLAT) rfl (by exact ⟨_, rfl⟩))
      exact Frame.refl
    · exact Frame.refl
  try clear_value x3
  extract_lets -merge -useContext -underBinder +onlyGivenNames x4
  refine Frame.via x4 ?_ fun h4 => ?_
  · unfold x4
    refine Frame.raiseIf ?_ (inRows_of (r := .MEM_EVENT) rfl (by exact rfl)) rfl
    exact h3
  try clear_value x4
  refine Frame.ite (fun _ => ?_) (fun _ => ?_)
  · refine Frame.then ?_ raiseDelayed_frame rfl rfl
    refine Frame.count ?_ (inRows_of (r := .MEM_CLS_COUNT) rfl (by exact ⟨_, rfl⟩))
    exact h4
  · exact h4

theorem dramGrant_frame {a0 : Nat} : Frame (some [.MEM_CLS_COUNT, .MEM_CLS_MAXLAT, .MEM_EVENT]) [.events, .mem, .sup] s (dramGrant a0 s) := by
  unfold dramGrant
  first | split | (clear_value *; split)
  · refine Frame.ite (fun _ => ?_) (fun _ => ?_)
    · extract_lets -merge -useContext -underBinder +onlyGivenNames v1 v2 v3 v4 w5 x6
      refine Frame.via x6 ?_ fun h6 => ?_
      · unfold x6
        refine Frame.mem ?_ rfl (fun h => ⟨(by first | exact h.1 | exact sparseWf_sset h.1 | exact sparseWf_nil | exact sparseWf_filter h.1 | exact sparseWf_smap h.1 | exact sparseWf_sdrop h.1 | exact sparseWf_sset (sparseWf_sset h.1) | exact sparseWf_fold sparseWf_nil | (dsimp only; exact sparseWf_smap h.1)), (by first | exact h.2.1 | exact sparseWf_sset h.2.1 | exact sparseWf_nil | exact sparseWf_filter h.2.1 | exact sparseWf_smap h.2.1 | exact sparseWf_sdrop h.2.1 | exact sparseWf_sset (sparseWf_sset h.2.1) | exact sparseWf_fold sparseWf_nil | (dsimp only; exact sparseWf_smap h.2.1)), (by first | exact h.2.2.1 | exact sparseWf_sset h.2.2.1 | exact sparseWf_nil | exact sparseWf_filter h.2.2.1 | exact sparseWf_smap h.2.2.1 | exact sparseWf_sdrop h.2.2.1 | exact sparseWf_sset (sparseWf_sset h.2.2.1) | exact sparseWf_fold sparseWf_nil | (dsimp only; exact sparseWf_smap h.2.2.1)), (by first | exact h.2.2.2 | exact sparseWf_sset h.2.2.2 | exact sparseWf_nil | exact sparseWf_filter h.2.2.2 | exact sparseWf_smap h.2.2.2 | exact sparseWf_sdrop h.2.2.2 | exact sparseWf_sset (sparseWf_sset h.2.2.2) | exact sparseWf_fold sparseWf_nil | (dsimp only; exact sparseWf_smap h.2.2.2))⟩)
        exact Frame.refl
      try clear_value x6
      refine Frame.ite (fun _ => ?_) (fun _ => ?_)
      · refine Frame.then ?_ dramDone_frame rfl rfl
        exact h6
      · exact h6
    · exact Frame.refl
  · exact Frame.refl

theorem dramGrants_frame {a0 : List (Fin 4)} : Frame (some [.MEM_CLS_COUNT, .MEM_CLS_MAXLAT, .MEM_EVENT]) [.events, .mem, .sup] s (dramGrants a0 s) := by
  unfold dramGrants
  refine Frame.forAll _ ?_ fun i x hx => ?_
  · exact Frame.refl
  · refine Frame.then ?_ dramGrant_frame rfl rfl
    exact hx

end Sys2Proof.Machine
end

