-- ==== Sys2Proof/Laws/Frame/SynthOps.lean ====
section
/-! SUPPORT. Laws/Frame/SynthOps.lean: what each operation of Machine/SynthOps.lean can change, and that it keeps a sound state sound. -/

set_option Elab.async false

namespace Sys2Proof.Machine

variable {R : Option (List RegRow)} {P : List Part} {s t : State}

theorem State.setTgt_frame {a0 : Nat} {a1 : Tgt} : Frame (some []) [.syn] s (State.setTgt s a0 a1) := by
  unfold State.setTgt
  refine Frame.syn ?_ rfl (fun h => ⟨(by first | exact h.1 | exact sparseWf_sset h.1 | exact sparseWf_nil | exact sparseWf_filter h.1 | exact sparseWf_smap h.1 | exact sparseWf_sdrop h.1 | exact sparseWf_sset (sparseWf_sset h.1) | exact sparseWf_fold sparseWf_nil | (dsimp only; exact sparseWf_smap h.1)), (by first | exact h.2.1 | exact sparseWf_sset h.2.1 | exact sparseWf_nil | exact sparseWf_filter h.2.1 | exact sparseWf_smap h.2.1 | exact sparseWf_sdrop h.2.1 | exact sparseWf_sset (sparseWf_sset h.2.1) | exact sparseWf_fold sparseWf_nil | (dsimp only; exact sparseWf_smap h.2.1)), (by first | exact h.2.2.1 | exact sparseWf_sset h.2.2.1 | exact sparseWf_nil | exact sparseWf_filter h.2.2.1 | exact sparseWf_smap h.2.2.1 | exact sparseWf_sdrop h.2.2.1 | exact sparseWf_sset (sparseWf_sset h.2.2.1) | exact sparseWf_fold sparseWf_nil | (dsimp only; exact sparseWf_smap h.2.2.1)), (by first | exact h.2.2.2.1 | exact sparseWf_sset h.2.2.2.1 | exact sparseWf_nil | exact sparseWf_filter h.2.2.2.1 | exact sparseWf_smap h.2.2.2.1 | exact sparseWf_sdrop h.2.2.2.1 | exact sparseWf_sset (sparseWf_sset h.2.2.2.1) | exact sparseWf_fold sparseWf_nil | (dsimp only; exact sparseWf_smap h.2.2.2.1)), (by first | exact h.2.2.2.2.1 | exact sparseWf_sset h.2.2.2.2.1 | exact sparseWf_nil | exact sparseWf_filter h.2.2.2.2.1 | exact sparseWf_smap h.2.2.2.2.1 | exact sparseWf_sdrop h.2.2.2.2.1 | exact sparseWf_sset (sparseWf_sset h.2.2.2.2.1) | exact sparseWf_fold sparseWf_nil | (dsimp only; exact sparseWf_smap h.2.2.2.2.1)), (by first | exact h.2.2.2.2.2 | exact sparseWf_sset h.2.2.2.2.2 | exact sparseWf_nil | exact sparseWf_filter h.2.2.2.2.2 | exact sparseWf_smap h.2.2.2.2.2 | exact sparseWf_sdrop h.2.2.2.2.2 | exact sparseWf_sset (sparseWf_sset h.2.2.2.2.2) | exact sparseWf_fold sparseWf_nil | (dsimp only; exact sparseWf_smap h.2.2.2.2.2))⟩)
  exact Frame.refl

theorem State.setFlx_frame {a0 : Nat} {a1 : Flx} : Frame (some []) [.syn] s (State.setFlx s a0 a1) := by
  unfold State.setFlx
  refine Frame.syn ?_ rfl (fun h => ⟨(by first | exact h.1 | exact sparseWf_sset h.1 | exact sparseWf_nil | exact sparseWf_filter h.1 | exact sparseWf_smap h.1 | exact sparseWf_sdrop h.1 | exact sparseWf_sset (sparseWf_sset h.1) | exact sparseWf_fold sparseWf_nil | (dsimp only; exact sparseWf_smap h.1)), (by first | exact h.2.1 | exact sparseWf_sset h.2.1 | exact sparseWf_nil | exact sparseWf_filter h.2.1 | exact sparseWf_smap h.2.1 | exact sparseWf_sdrop h.2.1 | exact sparseWf_sset (sparseWf_sset h.2.1) | exact sparseWf_fold sparseWf_nil | (dsimp only; exact sparseWf_smap h.2.1)), (by first | exact h.2.2.1 | exact sparseWf_sset h.2.2.1 | exact sparseWf_nil | exact sparseWf_filter h.2.2.1 | exact sparseWf_smap h.2.2.1 | exact sparseWf_sdrop h.2.2.1 | exact sparseWf_sset (sparseWf_sset h.2.2.1) | exact sparseWf_fold sparseWf_nil | (dsimp only; exact sparseWf_smap h.2.2.1)), (by first | exact h.2.2.2.1 | exact sparseWf_sset h.2.2.2.1 | exact sparseWf_nil | exact sparseWf_filter h.2.2.2.1 | exact sparseWf_smap h.2.2.2.1 | exact sparseWf_sdrop h.2.2.2.1 | exact sparseWf_sset (sparseWf_sset h.2.2.2.1) | exact sparseWf_fold sparseWf_nil | (dsimp only; exact sparseWf_smap h.2.2.2.1)), (by first | exact h.2.2.2.2.1 | exact sparseWf_sset h.2.2.2.2.1 | exact sparseWf_nil | exact sparseWf_filter h.2.2.2.2.1 | exact sparseWf_smap h.2.2.2.2.1 | exact sparseWf_sdrop h.2.2.2.2.1 | exact sparseWf_sset (sparseWf_sset h.2.2.2.2.1) | exact sparseWf_fold sparseWf_nil | (dsimp only; exact sparseWf_smap h.2.2.2.2.1)), (by first | exact h.2.2.2.2.2 | exact sparseWf_sset h.2.2.2.2.2 | exact sparseWf_nil | exact sparseWf_filter h.2.2.2.2.2 | exact sparseWf_smap h.2.2.2.2.2 | exact sparseWf_sdrop h.2.2.2.2.2 | exact sparseWf_sset (sparseWf_sset h.2.2.2.2.2) | exact sparseWf_fold sparseWf_nil | (dsimp only; exact sparseWf_smap h.2.2.2.2.2))⟩)
  exact Frame.refl

theorem State.setStream_frame {a0 : Nat} {a1 : Rv} : Frame (some []) [.rv] s (State.setStream s a0 a1) := by
  unfold State.setStream
  refine Frame.rv ?_ rfl (fun h => (by first | exact h | exact sparseWf_sset h | exact sparseWf_nil | exact sparseWf_filter h | exact sparseWf_smap h | exact sparseWf_sdrop h | exact sparseWf_sset (sparseWf_sset h) | exact sparseWf_fold sparseWf_nil | (dsimp only; exact sparseWf_smap h)))
  exact Frame.refl

theorem wakeLate_frame {a0 : Nat} : Frame (some [.PWR_EVENT, .PWR_GRP_EVENT, .PWR_GRP_WAKES]) [.events, .sup] s (wakeLate a0 s) := by
  unfold wakeLate
  extract_lets -merge -useContext -underBinder +onlyGivenNames v1
  refine Frame.count ?_ (inRows_of (r := .PWR_GRP_WAKES) rfl (by exact ⟨_, rfl⟩))
  refine Frame.raise ?_ (inRows_of (r := .PWR_EVENT) rfl (by exact rfl)) rfl
  refine Frame.raise ?_ (inRows_of (r := .PWR_GRP_EVENT) rfl (by exact ⟨_, rfl⟩)) rfl
  exact Frame.refl

theorem State.setOut_frame {a0 : Nat} {a1 : OutPin} : Frame (some []) [.syn] s (State.setOut s a0 a1) := by
  unfold State.setOut
  refine Frame.syn ?_ rfl (fun h => ⟨(by first | exact h.1 | exact sparseWf_sset h.1 | exact sparseWf_nil | exact sparseWf_filter h.1 | exact sparseWf_smap h.1 | exact sparseWf_sdrop h.1 | exact sparseWf_sset (sparseWf_sset h.1) | exact sparseWf_fold sparseWf_nil | (dsimp only; exact sparseWf_smap h.1)), (by first | exact h.2.1 | exact sparseWf_sset h.2.1 | exact sparseWf_nil | exact sparseWf_filter h.2.1 | exact sparseWf_smap h.2.1 | exact sparseWf_sdrop h.2.1 | exact sparseWf_sset (sparseWf_sset h.2.1) | exact sparseWf_fold sparseWf_nil | (dsimp only; exact sparseWf_smap h.2.1)), (by first | exact h.2.2.1 | exact sparseWf_sset h.2.2.1 | exact sparseWf_nil | exact sparseWf_filter h.2.2.1 | exact sparseWf_smap h.2.2.1 | exact sparseWf_sdrop h.2.2.1 | exact sparseWf_sset (sparseWf_sset h.2.2.1) | exact sparseWf_fold sparseWf_nil | (dsimp only; exact sparseWf_smap h.2.2.1)), (by first | exact h.2.2.2.1 | exact sparseWf_sset h.2.2.2.1 | exact sparseWf_nil | exact sparseWf_filter h.2.2.2.1 | exact sparseWf_smap h.2.2.2.1 | exact sparseWf_sdrop h.2.2.2.1 | exact sparseWf_sset (sparseWf_sset h.2.2.2.1) | exact sparseWf_fold sparseWf_nil | (dsimp only; exact sparseWf_smap h.2.2.2.1)), (by first | exact h.2.2.2.2.1 | exact sparseWf_sset h.2.2.2.2.1 | exact sparseWf_nil | exact sparseWf_filter h.2.2.2.2.1 | exact sparseWf_smap h.2.2.2.2.1 | exact sparseWf_sdrop h.2.2.2.2.1 | exact sparseWf_sset (sparseWf_sset h.2.2.2.2.1) | exact sparseWf_fold sparseWf_nil | (dsimp only; exact sparseWf_smap h.2.2.2.2.1)), (by first | exact h.2.2.2.2.2 | exact sparseWf_sset h.2.2.2.2.2 | exact sparseWf_nil | exact sparseWf_filter h.2.2.2.2.2 | exact sparseWf_smap h.2.2.2.2.2 | exact sparseWf_sdrop h.2.2.2.2.2 | exact sparseWf_sset (sparseWf_sset h.2.2.2.2.2) | exact sparseWf_fold sparseWf_nil | (dsimp only; exact sparseWf_smap h.2.2.2.2.2))⟩)
  exact Frame.refl

theorem placeEdge_frame {a0 : Nat} {a1 : Nat} {a2 : Nat} {a3 : Nat} : Frame (some [.SYN_MRK_LEVEL, .SYN_TRG_LEVEL]) [.syn] s (placeEdge a0 a1 a2 a3 s) := by
  unfold placeEdge
  refine Frame.ite (fun _ => ?_) (fun _ => ?_)
  · refine Frame.ite (fun _ => ?_) (fun _ => ?_)
    · refine Frame.then ?_ State.setOut_frame rfl rfl
      refine Frame.put ?_ (by unfold outField; split <;> first | exact inRows_of (r := .SYN_MRK_LEVEL) rfl (by exact rfl) | exact inRows_of (r := .SYN_TRG_LEVEL) rfl (by exact rfl))
      exact Frame.refl
    · refine Frame.then ?_ State.setOut_frame rfl rfl
      refine Frame.put ?_ (by unfold outField; split <;> first | exact inRows_of (r := .SYN_MRK_LEVEL) rfl (by exact rfl) | exact inRows_of (r := .SYN_TRG_LEVEL) rfl (by exact rfl))
      exact Frame.refl
  · exact Frame.refl

theorem scheduleEdge_frame {a0 : Nat} {a1 : Nat} {a2 : Nat} {a3 : Nat} : Frame (some []) [.later] s (scheduleEdge a0 a1 a2 a3 s) := by
  unfold scheduleEdge
  refine Frame.later ?_ rfl (fun _ => trivial)
  exact Frame.refl

theorem followTriggers_frame {a0 : Nat} {a1 : Nat} : Frame (some []) [.later] s (followTriggers a0 a1 s) := by
  unfold followTriggers
  refine Frame.forN _ ?_ fun i x hx => ?_
  · exact Frame.refl
  · refine Frame.ite (fun _ => ?_) (fun _ => ?_)
    · refine Frame.then ?_ scheduleEdge_frame rfl rfl
      exact hx
    · exact hx

theorem showNco_frame {a0 : Nat} {a1 : Nco} : Frame (some [.SYN_CH_FTW_HI, .SYN_CH_FTW_LO, .SYN_CH_PHASE]) [] s (showNco a0 a1 s) := by
  unfold showNco
  refine Frame.put ?_ (inRows_of (r := .SYN_CH_PHASE) rfl (by exact ⟨_, rfl⟩))
  refine Frame.wr64 ?_ (inRows_of (r := .SYN_CH_FTW_LO) rfl (by exact ⟨_, rfl⟩)) (inRows_of (r := .SYN_CH_FTW_HI) rfl (by exact ⟨_, hiShift1 (by decide)⟩))
  exact Frame.refl

theorem startNcos_frame  : Frame (some [.SYN_CH_FTW_HI, .SYN_CH_FTW_LO, .SYN_CH_PHASE]) [.syn] s (startNcos s) := by
  unfold startNcos
  refine Frame.forN _ ?_ fun i x hx => ?_
  · exact Frame.refl
  · extract_lets -merge -useContext -underBinder +onlyGivenNames v1 v2
    refine Frame.then ?_ showNco_frame rfl rfl
    refine Frame.then ?_ State.setTgt_frame rfl rfl
    exact hx

theorem markEnd_frame {a0 : Nat} {a1 : Nat} {a2 : Bool} : Frame (some []) [.syn] s (markEnd a0 a1 a2 s) := by
  unfold markEnd
  extract_lets -merge -useContext -underBinder +onlyGivenNames v1
  refine Frame.then ?_ State.setTgt_frame rfl rfl
  exact Frame.refl

theorem dropJump_frame {a0 : Nat} : Frame (some [.STM_EVENT, .STM_TGT_EVENT, .STM_TGT_STATUS]) [.events, .sup, .syn] s (dropJump a0 s) := by
  unfold dropJump
  refine Frame.ite (fun _ => ?_) (fun _ => ?_)
  · extract_lets -merge -useContext -underBinder +onlyGivenNames x1
    refine Frame.via x1 ?_ fun h1 => ?_
    · unfold x1
      refine Frame.put ?_ (inRows_of (r := .STM_TGT_STATUS) rfl (by exact ⟨_, rfl⟩))
      refine Frame.raise ?_ (inRows_of (r := .STM_EVENT) rfl (by exact rfl)) rfl
      refine Frame.raise ?_ (inRows_of (r := .STM_TGT_EVENT) rfl (by exact ⟨_, rfl⟩)) rfl
      exact Frame.refl
    try clear_value x1
    refine Frame.then ?_ State.setTgt_frame rfl rfl
    exact h1
  · exact Frame.refl

theorem takeUp_frame {a0 : Nat} : Frame (some [.STM_TGT_PASS, .STM_TGT_STATUS]) [.syn] s (takeUp a0 s) := by
  unfold takeUp
  extract_lets -merge -useContext -underBinder +onlyGivenNames v1
  first | split | (clear_value *; split)
  · refine Frame.ite (fun _ => ?_) (fun _ => ?_)
    · extract_lets -merge -useContext -underBinder +onlyGivenNames x2
      refine Frame.via x2 ?_ fun h2 => ?_
      · unfold x2
        first | split | (clear_value *; split)
        · refine Frame.then ?_ markEnd_frame rfl rfl
          exact Frame.refl
        · exact Frame.refl
      try clear_value x2
      extract_lets -merge -useContext -underBinder +onlyGivenNames w3 x4
      refine Frame.via x4 ?_ fun h4 => ?_
      · unfold x4
        refine Frame.then ?_ State.setTgt_frame rfl rfl
        exact h2
      try clear_value x4
      extract_lets -merge -useContext -underBinder +onlyGivenNames x5
      refine Frame.via x5 ?_ fun h5 => ?_
      · unfold x5
        refine Frame.put ?_ (inRows_of (r := .STM_TGT_PASS) rfl (by exact ⟨_, rfl⟩))
        refine Frame.put ?_ (inRows_of (r := .STM_TGT_STATUS) rfl (by exact ⟨_, rfl⟩))
        exact h4
      try clear_value x5
      refine Frame.put ?_ (inRows_of (r := .STM_TGT_STATUS) rfl (by exact ⟨_, rfl⟩))
      exact h5
    · exact Frame.refl
  · exact Frame.refl

theorem jreqVisible_frame {a0 : Nat} {a1 : Nat} : Frame (some [.STM_EVENT, .STM_TGT_EVENT, .STM_TGT_PASS, .STM_TGT_STATUS]) [.events, .sup, .syn] s (jreqVisible a0 a1 s) := by
  unfold jreqVisible
  refine Frame.ite (fun _ => ?_) (fun _ => ?_)
  · extract_lets -merge -useContext -underBinder +onlyGivenNames x1
    refine Frame.via x1 ?_ fun h1 => ?_
    · unfold x1
      refine Frame.ite (fun _ => ?_) (fun _ => ?_)
      · refine Frame.raise ?_ (inRows_of (r := .STM_TGT_EVENT) rfl (by exact ⟨_, rfl⟩)) rfl
        exact Frame.refl
      · exact Frame.refl
    try clear_value x1
    extract_lets -merge -useContext -underBinder +onlyGivenNames w2 x3
    refine Frame.via x3 ?_ fun h3 => ?_
    · unfold x3
      refine Frame.then ?_ State.setTgt_frame rfl rfl
      exact h1
    try clear_value x3
    refine Frame.put ?_ (inRows_of (r := .STM_TGT_PASS) rfl (by exact ⟨_, rfl⟩))
    refine Frame.put ?_ (inRows_of (r := .STM_TGT_STATUS) rfl (by exact ⟨_, rfl⟩))
    exact h3
  · refine Frame.raise ?_ (inRows_of (r := .STM_EVENT) rfl (by exact rfl)) rfl
    refine Frame.raise ?_ (inRows_of (r := .STM_TGT_EVENT) rfl (by exact ⟨_, rfl⟩)) rfl
    exact Frame.refl

theorem enterSeg_frame {a0 : Nat} {a1 : Nat} : Frame (some [.STM_TGT_PASS, .STM_TGT_STATUS]) [.syn] s (enterSeg a0 a1 s) := by
  unfold enterSeg
  extract_lets -merge -useContext -underBinder +onlyGivenNames x1
  refine Frame.via x1 ?_ fun h1 => ?_
  · unfold x1
    refine Frame.put ?_ (inRows_of (r := .STM_TGT_PASS) rfl (by exact ⟨_, rfl⟩))
    refine Frame.put ?_ (inRows_of (r := .STM_TGT_STATUS) rfl (by exact ⟨_, rfl⟩))
    exact Frame.refl
  try clear_value x1
  refine Frame.then ?_ State.setTgt_frame rfl rfl
  exact h1

theorem endChains_frame  : Frame (some [.STM_EVENT, .STM_TGT_EVENT, .STM_TGT_STATUS]) [.events, .later, .rdo, .sup, .syn] s (endChains s) := by
  unfold endChains
  refine Frame.forAll _ ?_ fun i x hx => ?_
  · refine Frame.upd (t := s) [.rdo, .syn] ?_ rfl rfl (fun p hn => by cases p <;> first | rfl | exact ⟨rfl, rfl⟩ | exact ⟨rfl, rfl, rfl⟩ | exact absurd hn (by decide)) (fun p hm => by
        simp only [List.mem_cons, List.not_mem_nil, or_false] at hm
        rcases hm with rfl | rfl
        · exact fun h => ⟨(by first | exact h.1 | exact sparseWf_sset h.1 | exact sparseWf_nil | exact sparseWf_filter h.1 | exact sparseWf_smap h.1 | exact sparseWf_sdrop h.1 | exact sparseWf_sset (sparseWf_sset h.1) | exact sparseWf_fold sparseWf_nil | (dsimp only; exact sparseWf_smap h.1)), (by first | exact h.2.1 | exact sparseWf_sset h.2.1 | exact sparseWf_nil | exact sparseWf_filter h.2.1 | exact sparseWf_smap h.2.1 | exact sparseWf_sdrop h.2.1 | exact sparseWf_sset (sparseWf_sset h.2.1) | exact sparseWf_fold sparseWf_nil | (dsimp only; exact sparseWf_smap h.2.1)), (by first | exact h.2.2 | exact sparseWf_sset h.2.2 | exact sparseWf_nil | exact sparseWf_filter h.2.2 | exact sparseWf_smap h.2.2 | exact sparseWf_sdrop h.2.2 | exact sparseWf_sset (sparseWf_sset h.2.2) | exact sparseWf_fold sparseWf_nil | (dsimp only; exact sparseWf_smap h.2.2))⟩
        · exact fun h => ⟨(by first | exact h.1 | exact sparseWf_sset h.1 | exact sparseWf_nil | exact sparseWf_filter h.1 | exact sparseWf_smap h.1 | exact sparseWf_sdrop h.1 | exact sparseWf_sset (sparseWf_sset h.1) | exact sparseWf_fold sparseWf_nil | (dsimp only; exact sparseWf_smap h.1)), (by first | exact h.2.1 | exact sparseWf_sset h.2.1 | exact sparseWf_nil | exact sparseWf_filter h.2.1 | exact sparseWf_smap h.2.1 | exact sparseWf_sdrop h.2.1 | exact sparseWf_sset (sparseWf_sset h.2.1) | exact sparseWf_fold sparseWf_nil | (dsimp only; exact sparseWf_smap h.2.1)), (by first | exact h.2.2.1 | exact sparseWf_sset h.2.2.1 | exact sparseWf_nil | exact sparseWf_filter h.2.2.1 | exact sparseWf_smap h.2.2.1 | exact sparseWf_sdrop h.2.2.1 | exact sparseWf_sset (sparseWf_sset h.2.2.1) | exact sparseWf_fold sparseWf_nil | (dsimp only; exact sparseWf_smap h.2.2.1)), (by first | exact h.2.2.2.1 | exact sparseWf_sset h.2.2.2.1 | exact sparseWf_nil | exact sparseWf_filter h.2.2.2.1 | exact sparseWf_smap h.2.2.2.1 | exact sparseWf_sdrop h.2.2.2.1 | exact sparseWf_sset (sparseWf_sset h.2.2.2.1) | exact sparseWf_fold sparseWf_nil | (dsimp only; exact sparseWf_smap h.2.2.2.1)), (by first | exact h.2.2.2.2.1 | exact sparseWf_sset h.2.2.2.2.1 | exact sparseWf_nil | exact sparseWf_filter h.2.2.2.2.1 | exact sparseWf_smap h.2.2.2.2.1 | exact sparseWf_sdrop h.2.2.2.2.1 | exact sparseWf_sset (sparseWf_sset h.2.2.2.2.1) | exact sparseWf_fold sparseWf_nil | (dsimp only; exact sparseWf_smap h.2.2.2.2.1)), (by first | exact h.2.2.2.2.2 | exact sparseWf_sset h.2.2.2.2.2 | exact sparseWf_nil | exact sparseWf_filter h.2.2.2.2.2 | exact sparseWf_smap h.2.2.2.2.2 | exact sparseWf_sdrop h.2.2.2.2.2 | exact sparseWf_sset (sparseWf_sset h.2.2.2.2.2) | exact sparseWf_fold sparseWf_nil | (dsimp only; exact sparseWf_smap h.2.2.2.2.2))⟩)
    exact Frame.refl
  · extract_lets -merge -useContext -underBinder +onlyGivenNames v1 x2
    refine Frame.via x2 ?_ fun h2 => ?_
    · unfold x2
      refine Frame.ite (fun _ => ?_) (fun _ => ?_)
      · refine Frame.then ?_ followTriggers_frame rfl rfl
        refine Frame.then ?_ dropJump_frame rfl rfl
        exact hx
      · exact hx
    try clear_value x2
    extract_lets -merge -useContext -underBinder +onlyGivenNames w3 x4
    refine Frame.via x4 ?_ fun h4 => ?_
    · unfold x4
      refine Frame.then ?_ State.setTgt_frame rfl rfl
      exact h2
    try clear_value x4
    extract_lets -merge -useContext -underBinder +onlyGivenNames w5 x6
    refine Frame.via x6 ?_ fun h6 => ?_
    · unfold x6
      refine Frame.ite (fun _ => ?_) (fun _ => ?_)
      · refine Frame.then ?_ State.setFlx_frame rfl rfl
        exact h4
      · exact h4
    try clear_value x6
    refine Frame.put ?_ (inRows_of (r := .STM_TGT_STATUS) rfl (by exact ⟨_, rfl⟩))
    exact h6

theorem lowerOutputs_frame  : Frame (some [.SYN_MRK_LEVEL, .SYN_TRG_LEVEL]) [.later, .syn] s (lowerOutputs s) := by
  unfold lowerOutputs
  extract_lets -merge -useContext -underBinder +onlyGivenNames x1
  refine Frame.via x1 ?_ fun h1 => ?_
  · unfold x1
    refine Frame.then ?_ lowLevels_frame rfl rfl
    exact Frame.refl
  try clear_value x1
  refine Frame.later ?_ rfl (fun _ => trivial)
  exact h1

theorem muteBias_frame  : Frame (some [.SYN_BIA_TARGET]) [.syn] s (muteBias s) := by
  unfold muteBias
  refine Frame.forN _ ?_ fun i x hx => ?_
  · refine Frame.syn ?_ rfl (fun h => ⟨(by first | exact h.1 | exact sparseWf_sset h.1 | exact sparseWf_nil | exact sparseWf_filter h.1 | exact sparseWf_smap h.1 | exact sparseWf_sdrop h.1 | exact sparseWf_sset (sparseWf_sset h.1) | exact sparseWf_fold sparseWf_nil | (dsimp only; exact sparseWf_smap h.1)), (by first | exact h.2.1 | exact sparseWf_sset h.2.1 | exact sparseWf_nil | exact sparseWf_filter h.2.1 | exact sparseWf_smap h.2.1 | exact sparseWf_sdrop h.2.1 | exact sparseWf_sset (sparseWf_sset h.2.1) | exact sparseWf_fold sparseWf_nil | (dsimp only; exact sparseWf_smap h.2.1)), (by first | exact h.2.2.1 | exact sparseWf_sset h.2.2.1 | exact sparseWf_nil | exact sparseWf_filter h.2.2.1 | exact sparseWf_smap h.2.2.1 | exact sparseWf_sdrop h.2.2.1 | exact sparseWf_sset (sparseWf_sset h.2.2.1) | exact sparseWf_fold sparseWf_nil | (dsimp only; exact sparseWf_smap h.2.2.1)), (by first | exact h.2.2.2.1 | exact sparseWf_sset h.2.2.2.1 | exact sparseWf_nil | exact sparseWf_filter h.2.2.2.1 | exact sparseWf_smap h.2.2.2.1 | exact sparseWf_sdrop h.2.2.2.1 | exact sparseWf_sset (sparseWf_sset h.2.2.2.1) | exact sparseWf_fold sparseWf_nil | (dsimp only; exact sparseWf_smap h.2.2.2.1)), (by first | exact h.2.2.2.2.1 | exact sparseWf_sset h.2.2.2.2.1 | exact sparseWf_nil | exact sparseWf_filter h.2.2.2.2.1 | exact sparseWf_smap h.2.2.2.2.1 | exact sparseWf_sdrop h.2.2.2.2.1 | exact sparseWf_sset (sparseWf_sset h.2.2.2.2.1) | exact sparseWf_fold sparseWf_nil | (dsimp only; exact sparseWf_smap h.2.2.2.2.1)), (by first | exact h.2.2.2.2.2 | exact sparseWf_sset h.2.2.2.2.2 | exact sparseWf_nil | exact sparseWf_filter h.2.2.2.2.2 | exact sparseWf_smap h.2.2.2.2.2 | exact sparseWf_sdrop h.2.2.2.2.2 | exact sparseWf_sset (sparseWf_sset h.2.2.2.2.2) | exact sparseWf_fold sparseWf_nil | (dsimp only; exact sparseWf_smap h.2.2.2.2.2))⟩)
    exact Frame.refl
  · refine Frame.put ?_ (inRows_of (r := .SYN_BIA_TARGET) rfl (by exact ⟨_, rfl⟩))
    exact hx

theorem clearFlux_frame  : Frame (some []) [.syn] s (clearFlux s) := by
  unfold clearFlux
  refine Frame.forAll _ ?_ fun i x hx => ?_
  · exact Frame.refl
  · refine Frame.then ?_ State.setFlx_frame rfl rfl
    exact hx

theorem checkPrimed_frame {a0 : Nat} : Frame (some [.STM_RV_EVENT, .STM_RV_STATUS]) [.events, .sup] s (checkPrimed a0 s) := by
  unfold checkPrimed
  refine Frame.ite (fun _ => ?_) (fun _ => ?_)
  · refine Frame.raise ?_ (inRows_of (r := .STM_RV_EVENT) rfl (by exact ⟨_, rfl⟩)) rfl
    refine Frame.put ?_ (inRows_of (r := .STM_RV_STATUS) rfl (by exact ⟨_, rfl⟩))
    exact Frame.refl
  · exact Frame.refl

theorem clearLimit_frame {a0 : Nat} : Frame (some [.HIF_Q_LIMIT]) [] s (clearLimit a0 s) := by
  unfold clearLimit
  extract_lets -merge -useContext -underBinder +onlyGivenNames v1
  refine Frame.ite (fun _ => ?_) (fun _ => ?_)
  · refine Frame.put ?_ (inRows_of (r := .HIF_Q_LIMIT) rfl (by exact ⟨_, rfl⟩))
    exact Frame.refl
  · exact Frame.refl

theorem primeStream_frame {a0 : Nat} : Frame (some [.HIF_Q_LIMIT, .STM_RV_EVENT, .STM_RV_FILL, .STM_RV_POS_HI, .STM_RV_POS_LO, .STM_RV_STATUS]) [.events, .rv, .sup] s (primeStream a0 s) := by
  unfold primeStream
  extract_lets -merge -useContext -underBinder +onlyGivenNames x1
  refine Frame.via x1 ?_ fun h1 => ?_
  · unfold x1
    refine Frame.then ?_ clearLimit_frame rfl rfl
    refine Frame.then ?_ State.setStream_frame rfl rfl
    exact Frame.refl
  try clear_value x1
  extract_lets -merge -useContext -underBinder +onlyGivenNames x2
  refine Frame.via x2 ?_ fun h2 => ?_
  · unfold x2
    refine Frame.put ?_ (inRows_of (r := .STM_RV_FILL) rfl (by exact ⟨_, rfl⟩))
    refine Frame.wr64 ?_ (inRows_of (r := .STM_RV_POS_LO) rfl (by exact ⟨_, rfl⟩)) (inRows_of (r := .STM_RV_POS_HI) rfl (by exact ⟨_, hiShift1 (by decide)⟩))
    exact h1
  try clear_value x2
  refine Frame.then ?_ checkPrimed_frame rfl rfl
  refine Frame.put ?_ (inRows_of (r := .STM_RV_STATUS) rfl (by exact ⟨_, rfl⟩))
  exact h2

theorem primeStreams_frame  : Frame (some [.HIF_Q_LIMIT, .STM_RV_EVENT, .STM_RV_FILL, .STM_RV_POS_HI, .STM_RV_POS_LO, .STM_RV_STATUS]) [.events, .rv, .sup] s (primeStreams s) := by
  unfold primeStreams
  refine Frame.forN _ ?_ fun i x hx => ?_
  · exact Frame.refl
  · refine Frame.ite (fun _ => ?_) (fun _ => ?_)
    · refine Frame.then ?_ primeStream_frame rfl rfl
      exact hx
    · exact hx

theorem stopStreams_frame  : Frame (some [.STM_RV_STATUS]) [.mem, .rv] s (stopStreams s) := by
  unfold stopStreams
  refine Frame.forN _ ?_ fun i x hx => ?_
  · exact Frame.refl
  · refine Frame.then ?_ dropRefills_frame rfl rfl
    refine Frame.then ?_ State.setStream_frame rfl rfl
    refine Frame.put ?_ (inRows_of (r := .STM_RV_STATUS) rfl (by exact ⟨_, rfl⟩))
    exact hx

theorem underrun_frame {a0 : Nat} {a1 : Nat} {a2 : Nat} {a3 : Chain} : Frame (some [.STM_EVENT, .STM_RV_COUNT, .STM_RV_EVENT, .STM_RV_STATUS, .STM_TGT_EVENT, .STM_TGT_STATUS]) [.events, .mem, .rv, .sup, .syn] s (underrun a0 a1 a2 a3 s) := by
  unfold underrun
  extract_lets -merge -useContext -underBinder +onlyGivenNames w1 x2
  refine Frame.via x2 ?_ fun h2 => ?_
  · unfold x2
    refine Frame.then ?_ dropRefills_frame rfl rfl
    refine Frame.then ?_ State.setStream_frame rfl rfl
    refine Frame.put ?_ (inRows_of (r := .STM_RV_STATUS) rfl (by exact ⟨_, rfl⟩))
    exact Frame.refl
  try clear_value x2
  extract_lets -merge -useContext -underBinder +onlyGivenNames x3
  refine Frame.via x3 ?_ fun h3 => ?_
  · unfold x3
    refine Frame.raise ?_ (inRows_of (r := .STM_EVENT) rfl (by exact rfl)) rfl
    refine Frame.raise ?_ (inRows_of (r := .STM_TGT_EVENT) rfl (by exact ⟨_, rfl⟩)) rfl
    refine Frame.raise ?_ (inRows_of (r := .STM_RV_EVENT) rfl (by exact ⟨_, rfl⟩)) rfl
    exact h2
  try clear_value x3
  extract_lets -merge -useContext -underBinder +onlyGivenNames x4
  refine Frame.via x4 ?_ fun h4 => ?_
  · unfold x4
    refine Frame.count ?_ (inRows_of (r := .STM_RV_COUNT) rfl (by exact ⟨_, rfl⟩))
    refine Frame.put ?_ (inRows_of (r := .STM_TGT_STATUS) rfl (by exact ⟨_, rfl⟩))
    exact h3
  try clear_value x4
  extract_lets -merge -useContext -underBinder +onlyGivenNames v5 x6
  refine Frame.via x6 ?_ fun h6 => ?_
  · unfold x6
    refine Frame.then ?_ dropJump_frame rfl rfl
    refine Frame.put ?_ (inRows_of (r := .STM_TGT_STATUS) rfl (by exact ⟨_, rfl⟩))
    exact h4
  try clear_value x6
  extract_lets -merge -useContext -underBinder +onlyGivenNames w7 x8
  refine Frame.via x8 ?_ fun h8 => ?_
  · unfold x8
    refine Frame.ite (fun _ => ?_) (fun _ => ?_)
    · refine Frame.then ?_ State.setFlx_frame rfl rfl
      exact h6
    · exact h6
  try clear_value x8
  refine Frame.then ?_ State.setTgt_frame rfl rfl
  exact h8

theorem consume_frame {a0 : Nat} {a1 : Nat} : Frame (some [.STM_EVENT, .STM_RV_COUNT, .STM_RV_EVENT, .STM_RV_FILL, .STM_RV_POS_HI, .STM_RV_POS_LO]) [.events, .rv, .sup] s (consume a0 a1 s) := by
  unfold consume
  extract_lets -merge -useContext -underBinder +onlyGivenNames v1 v2 v3 x4
  refine Frame.via x4 ?_ fun h4 => ?_
  · unfold x4
    refine Frame.then ?_ State.setStream_frame rfl rfl
    exact Frame.refl
  try clear_value x4
  extract_lets -merge -useContext -underBinder +onlyGivenNames x5
  refine Frame.via x5 ?_ fun h5 => ?_
  · unfold x5
    refine Frame.put ?_ (inRows_of (r := .STM_RV_FILL) rfl (by exact ⟨_, rfl⟩))
    refine Frame.wr64 ?_ (inRows_of (r := .STM_RV_POS_LO) rfl (by exact ⟨_, rfl⟩)) (inRows_of (r := .STM_RV_POS_HI) rfl (by exact ⟨_, hiShift1 (by decide)⟩))
    exact h4
  try clear_value x5
  refine Frame.ite (fun _ => ?_) (fun _ => ?_)
  · refine Frame.count ?_ (inRows_of (r := .STM_RV_COUNT) rfl (by exact ⟨_, rfl⟩))
    refine Frame.raise ?_ (inRows_of (r := .STM_EVENT) rfl (by exact rfl)) rfl
    refine Frame.raise ?_ (inRows_of (r := .STM_RV_EVENT) rfl (by exact ⟨_, rfl⟩)) rfl
    exact h5
  · exact h5

theorem playTick_frame {a0 : Nat} {a1 : Chain} : Frame (some []) [.syn] s (playTick a0 a1 s) := by
  unfold playTick
  refine Frame.then ?_ State.setTgt_frame rfl rfl
  exact Frame.refl

theorem fetchWords_frame {a0 : Nat} : Frame (some [.STM_EVENT, .STM_RV_COUNT, .STM_RV_EVENT, .STM_RV_FILL, .STM_RV_POS_HI, .STM_RV_POS_LO, .STM_RV_STATUS, .STM_TGT_EVENT, .STM_TGT_STATUS]) [.events, .mem, .rv, .sup, .syn] s (fetchWords a0 s).2 := by
  unfold fetchWords
  first | split | (clear_value *; split)
  · exact Frame.refl
  · extract_lets -merge -useContext -underBinder +onlyGivenNames v1 v2
    split
    · exact Frame.refl
    · extract_lets -merge -useContext -underBinder +onlyGivenNames v3 v4
      split
      · extract_lets -merge -useContext -underBinder +onlyGivenNames v5
        split
        · refine Frame.then ?_ underrun_frame rfl rfl
          exact Frame.refl
        · split
          · extract_lets -merge -useContext -underBinder +onlyGivenNames v6 v7
            refine Frame.then ?_ underrun_frame rfl rfl
            exact Frame.refl
          · extract_lets -merge -useContext -underBinder +onlyGivenNames v8
            refine Frame.then ?_ consume_frame rfl rfl
            refine Frame.then ?_ playTick_frame rfl rfl
            exact Frame.refl
      · extract_lets -merge -useContext -underBinder +onlyGivenNames v9
        refine Frame.then ?_ playTick_frame rfl rfl
        exact Frame.refl

theorem fetchTone_frame {p t : Nat} {acc : (List Int × Bool) × State} : Frame (some [.STM_EVENT, .STM_RV_COUNT, .STM_RV_EVENT, .STM_RV_FILL, .STM_RV_POS_HI, .STM_RV_POS_LO, .STM_RV_STATUS, .STM_TGT_EVENT, .STM_TGT_PASS, .STM_TGT_STATUS]) [.events, .mem, .rv, .sup, .syn] acc.2 (fetchTone p t acc).2 := by
  unfold fetchTone
  extract_lets s
  have hs : Frame (some [.STM_EVENT, .STM_RV_COUNT, .STM_RV_EVENT, .STM_RV_FILL, .STM_RV_POS_HI, .STM_RV_POS_LO, .STM_RV_STATUS, .STM_TGT_EVENT, .STM_TGT_PASS, .STM_TGT_STATUS]) [.events, .mem, .rv, .sup, .syn] acc.2 s :=
    takeUp_frame.mono rfl rfl
  split
  rename_i w x e
  have hx : Frame (some [.STM_EVENT, .STM_RV_COUNT, .STM_RV_EVENT, .STM_RV_FILL, .STM_RV_POS_HI, .STM_RV_POS_LO, .STM_RV_STATUS, .STM_TGT_EVENT, .STM_TGT_PASS, .STM_TGT_STATUS]) [.events, .mem, .rv, .sup, .syn] acc.2 x :=
    Frame.ofSnd e (hs.then fetchWords_frame rfl rfl)
  exact hx.then State.setTgt_frame rfl rfl

theorem State.setArrPair_frame {a0 : Nat} {a1 : ArrPair} : Frame (some []) [.rdo] s (State.setArrPair s a0 a1) := by
  unfold State.setArrPair
  refine Frame.rdo ?_ rfl (fun h => ⟨(by first | exact h.1 | exact sparseWf_sset h.1 | exact sparseWf_nil | exact sparseWf_filter h.1 | exact sparseWf_smap h.1 | exact sparseWf_sdrop h.1 | exact sparseWf_sset (sparseWf_sset h.1) | exact sparseWf_fold sparseWf_nil | (dsimp only; exact sparseWf_smap h.1)), (by first | exact h.2.1 | exact sparseWf_sset h.2.1 | exact sparseWf_nil | exact sparseWf_filter h.2.1 | exact sparseWf_smap h.2.1 | exact sparseWf_sdrop h.2.1 | exact sparseWf_sset (sparseWf_sset h.2.1) | exact sparseWf_fold sparseWf_nil | (dsimp only; exact sparseWf_smap h.2.1)), (by first | exact h.2.2 | exact sparseWf_sset h.2.2 | exact sparseWf_nil | exact sparseWf_filter h.2.2 | exact sparseWf_smap h.2.2 | exact sparseWf_sdrop h.2.2 | exact sparseWf_sset (sparseWf_sset h.2.2) | exact sparseWf_fold sparseWf_nil | (dsimp only; exact sparseWf_smap h.2.2))⟩)
  exact Frame.refl

theorem combTick_frame {a0 : Nat} : Frame (some [.RDO_ARR_CLIP_CNT, .RDO_ARR_EVENT, .RDO_EVENT]) [.events, .rdo, .sup] s (combTick a0 s).2 := by
  unfold combTick
  extract_lets -merge -useContext -underBinder +onlyGivenNames v1 v2 v3 v4 x5
  refine Frame.via x5 ?_ fun h5 => ?_
  · unfold x5
    refine Frame.ite (fun _ => ?_) (fun _ => ?_)
    · exact Frame.refl
    · refine Frame.raise ?_ (inRows_of (r := .RDO_EVENT) rfl (by exact rfl)) rfl
      refine Frame.raise ?_ (inRows_of (r := .RDO_ARR_EVENT) rfl (by exact ⟨_, rfl⟩)) rfl
      refine Frame.count ?_ (inRows_of (r := .RDO_ARR_CLIP_CNT) rfl (by exact ⟨_, rfl⟩))
      exact Frame.refl
  try clear_value x5
  extract_lets -merge -useContext -underBinder +onlyGivenNames v6 x7
  refine Frame.via x7 ?_ fun h7 => ?_
  · unfold x7
    refine Frame.then ?_ State.setArrPair_frame rfl rfl
    exact h5
  try clear_value x7
  extract_lets -merge -useContext -underBinder +onlyGivenNames v8 v9
  exact h7

theorem State.setCodes_frame {a0 : Nat} {a1 : Nat} {a2 : Bool} {a3 : List Int} : Frame (some []) [.syn] s (State.setCodes s a0 a1 a2 a3) := by
  unfold State.setCodes
  extract_lets -merge -useContext -underBinder +onlyGivenNames v1 v2
  refine Frame.syn ?_ rfl (fun h => ⟨(by first | exact h.1 | exact sparseWf_sset h.1 | exact sparseWf_nil | exact sparseWf_filter h.1 | exact sparseWf_smap h.1 | exact sparseWf_sdrop h.1 | exact sparseWf_sset (sparseWf_sset h.1) | exact sparseWf_fold sparseWf_nil | (dsimp only; exact sparseWf_smap h.1)), (by first | exact h.2.1 | exact sparseWf_sset h.2.1 | exact sparseWf_nil | exact sparseWf_filter h.2.1 | exact sparseWf_smap h.2.1 | exact sparseWf_sdrop h.2.1 | exact sparseWf_sset (sparseWf_sset h.2.1) | exact sparseWf_fold sparseWf_nil | (dsimp only; exact sparseWf_smap h.2.1)), (by first | exact h.2.2.1 | exact sparseWf_sset h.2.2.1 | exact sparseWf_nil | exact sparseWf_filter h.2.2.1 | exact sparseWf_smap h.2.2.1 | exact sparseWf_sdrop h.2.2.1 | exact sparseWf_sset (sparseWf_sset h.2.2.1) | exact sparseWf_fold sparseWf_nil | (dsimp only; exact sparseWf_smap h.2.2.1)), (by first | exact h.2.2.2.1 | exact sparseWf_sset h.2.2.2.1 | exact sparseWf_nil | exact sparseWf_filter h.2.2.2.1 | exact sparseWf_smap h.2.2.2.1 | exact sparseWf_sdrop h.2.2.2.1 | exact sparseWf_sset (sparseWf_sset h.2.2.2.1) | exact sparseWf_fold sparseWf_nil | (dsimp only; exact sparseWf_smap h.2.2.2.1)), (by first | exact h.2.2.2.2.1 | exact sparseWf_sset h.2.2.2.2.1 | exact sparseWf_nil | exact sparseWf_filter h.2.2.2.2.1 | exact sparseWf_smap h.2.2.2.2.1 | exact sparseWf_sdrop h.2.2.2.2.1 | exact sparseWf_sset (sparseWf_sset h.2.2.2.2.1) | exact sparseWf_fold sparseWf_nil | (dsimp only; exact sparseWf_smap h.2.2.2.2.1)), (by first | exact h.2.2.2.2.2 | exact sparseWf_sset h.2.2.2.2.2 | exact sparseWf_nil | exact sparseWf_filter h.2.2.2.2.2 | exact sparseWf_smap h.2.2.2.2.2 | exact sparseWf_sdrop h.2.2.2.2.2 | exact sparseWf_sset (sparseWf_sset h.2.2.2.2.2) | exact sparseWf_fold sparseWf_nil | (dsimp only; exact sparseWf_smap h.2.2.2.2.2))⟩)
  exact Frame.refl

theorem rfArrival_frame {a0 : Nat} : Frame (some [.PWR_EVENT, .PWR_GRP_EVENT, .PWR_GRP_WAKES, .SYN_EVENT, .SYN_PORT_ASLEEP_CNT, .SYN_PORT_EVENT]) [.events, .sup] s (rfArrival a0 s) := by
  unfold rfArrival
  refine Frame.ite (fun _ => ?_) (fun _ => ?_)
  · refine Frame.then ?_ wakeLate_frame rfl rfl
    refine Frame.raise ?_ (inRows_of (r := .SYN_EVENT) rfl (by exact rfl)) rfl
    refine Frame.raise ?_ (inRows_of (r := .SYN_PORT_EVENT) rfl (by exact ⟨_, rfl⟩)) rfl
    refine Frame.count ?_ (inRows_of (r := .SYN_PORT_ASLEEP_CNT) rfl (by exact ⟨_, rfl⟩))
    exact Frame.refl
  · exact Frame.refl

theorem fluxArrival_frame {a0 : Nat} : Frame (some [.PWR_EVENT, .PWR_GRP_EVENT, .PWR_GRP_WAKES]) [.events, .sup, .syn] s (fluxArrival a0 s) := by
  unfold fluxArrival
  extract_lets -merge -useContext -underBinder +onlyGivenNames w1 x2
  refine Frame.via x2 ?_ fun h2 => ?_
  · unfold x2
    refine Frame.ite (fun _ => ?_) (fun _ => ?_)
    · refine Frame.then ?_ State.setFlx_frame rfl rfl
      exact Frame.refl
    · exact Frame.refl
  try clear_value x2
  refine Frame.ite (fun _ => ?_) (fun _ => ?_)
  · refine Frame.then ?_ wakeLate_frame rfl rfl
    exact h2
  · exact h2

theorem portSum_frame {a0 : Nat} : Frame (some [.RDO_ARR_CLIP_CNT, .RDO_ARR_EVENT, .RDO_EVENT, .STM_EVENT, .STM_RV_COUNT, .STM_RV_EVENT, .STM_RV_FILL, .STM_RV_POS_HI, .STM_RV_POS_LO, .STM_RV_STATUS, .STM_TGT_EVENT, .STM_TGT_PASS, .STM_TGT_STATUS]) [.events, .mem, .rdo, .rv, .sup, .syn] s (portSum a0 s).2 := by
  have key : ∀ (l : List Nat) (acc : (List Int × Bool) × State), Frame (some [.RDO_ARR_CLIP_CNT, .RDO_ARR_EVENT, .RDO_EVENT, .STM_EVENT, .STM_RV_COUNT, .STM_RV_EVENT, .STM_RV_FILL, .STM_RV_POS_HI, .STM_RV_POS_LO, .STM_RV_STATUS, .STM_TGT_EVENT, .STM_TGT_PASS, .STM_TGT_STATUS]) [.events, .mem, .rdo, .rv, .sup, .syn] acc.2 (forAll (fetchTone a0) l acc).2 := by
    intro l
    induction l with
    | nil => exact fun acc => Frame.refl
    | cons t l ih => exact fun acc => (fetchTone_frame (acc := acc)).mono rfl rfl |>.trans (ih _)
  unfold portSum
  split
  · exact combTick_frame.mono rfl rfl
  · exact key _ ((List.replicate 64 (0 : Int), false), s)

theorem fetchRf_frame {a0 : Nat} : Frame (some [.PWR_EVENT, .PWR_GRP_EVENT, .PWR_GRP_WAKES, .RDO_ARR_CLIP_CNT, .RDO_ARR_EVENT, .RDO_EVENT, .STM_EVENT, .STM_RV_COUNT, .STM_RV_EVENT, .STM_RV_FILL, .STM_RV_POS_HI, .STM_RV_POS_LO, .STM_RV_STATUS, .STM_TGT_EVENT, .STM_TGT_PASS, .STM_TGT_STATUS, .SYN_EVENT, .SYN_PORT_ASLEEP_CNT, .SYN_PORT_CLIP_CNT, .SYN_PORT_EVENT]) [.events, .mem, .rdo, .rv, .sup, .syn] s (fetchRf a0 s) := by
  unfold fetchRf
  extract_lets -merge -useContext -underBinder +onlyGivenNames v1 v2
  first | split | (clear_value *; split)
  · rename_i x3 e3
    refine Frame.via x3 (Frame.ofSnd e3 ?_) fun h3 => ?_
    · refine Frame.then ?_ portSum_frame rfl rfl
      exact Frame.refl
    extract_lets -merge -useContext -underBinder +onlyGivenNames v4 v5 v6 v7 x8
    refine Frame.via x8 ?_ fun h8 => ?_
    · unfold x8
      refine Frame.ite (fun _ => ?_) (fun _ => ?_)
      · exact h3
      · refine Frame.raise ?_ (inRows_of (r := .SYN_EVENT) rfl (by exact rfl)) rfl
        refine Frame.raise ?_ (inRows_of (r := .SYN_PORT_EVENT) rfl (by exact ⟨_, rfl⟩)) rfl
        refine Frame.count ?_ (inRows_of (r := .SYN_PORT_CLIP_CNT) rfl (by exact ⟨_, rfl⟩))
        exact h3
    try clear_value x8
    refine Frame.then ?_ rfArrival_frame rfl rfl
    refine Frame.then ?_ State.setCodes_frame rfl rfl
    exact h8

theorem fetchFlux_frame {a0 : Nat} : Frame (some [.PWR_EVENT, .PWR_GRP_EVENT, .PWR_GRP_WAKES, .STM_EVENT, .STM_RV_COUNT, .STM_RV_EVENT, .STM_RV_FILL, .STM_RV_POS_HI, .STM_RV_POS_LO, .STM_RV_STATUS, .STM_TGT_EVENT, .STM_TGT_PASS, .STM_TGT_STATUS, .SYN_EVENT, .SYN_FLX_CLIP_CNT, .SYN_FLX_EVENT]) [.events, .mem, .rv, .sup, .syn] s (fetchFlux a0 s) := by
  unfold fetchFlux
  refine Frame.ite (fun _ => ?_) (fun _ => ?_)
  · exact Frame.refl
  · extract_lets -merge -useContext -underBinder +onlyGivenNames v1 v2 x3
    refine Frame.via x3 ?_ fun h3 => ?_
    · unfold x3
      refine Frame.then ?_ takeUp_frame rfl rfl
      exact Frame.refl
    try clear_value x3
    first | split | (clear_value *; split)
    · rename_i x4 e4
      refine Frame.via x4 (Frame.ofSnd e4 ?_) fun h4 => ?_
      · refine Frame.then ?_ fetchWords_frame rfl rfl
        exact h3
      extract_lets -merge -useContext -underBinder +onlyGivenNames v5 v6 v7 v8 v9 v10 v11 v12 v13 v14 v15 v16
      first | split | (clear_value *; split)
      · extract_lets -merge -useContext -underBinder +onlyGivenNames v17 v18 v19 v20 v21 x22
        refine Frame.via x22 ?_ fun h22 => ?_
        · unfold x22
          refine Frame.then ?_ State.setFlx_frame rfl rfl
          exact h4
        try clear_value x22
        extract_lets -merge -useContext -underBinder +onlyGivenNames x23
        refine Frame.via x23 ?_ fun h23 => ?_
        · unfold x23
          refine Frame.ite (fun _ => ?_) (fun _ => ?_)
          · exact h22
          · refine Frame.raise ?_ (inRows_of (r := .SYN_EVENT) rfl (by exact rfl)) rfl
            refine Frame.raise ?_ (inRows_of (r := .SYN_FLX_EVENT) rfl (by exact ⟨_, rfl⟩)) rfl
            refine Frame.count ?_ (inRows_of (r := .SYN_FLX_CLIP_CNT) rfl (by exact ⟨_, rfl⟩))
            exact h22
        try clear_value x23
        refine Frame.then ?_ fluxArrival_frame rfl rfl
        refine Frame.then ?_ State.setCodes_frame rfl rfl
        exact h23

end Sys2Proof.Machine
end

