-- ==== Sys2Proof/Laws/Frame/SupOps.lean ====
section
/-! SUPPORT. Laws/Frame/SupOps.lean: what each operation of Machine/SupOps.lean can change, and that it keeps a sound state sound. -/

set_option Elab.async false

namespace Sys2Proof.Machine

variable {R : Option (List RegRow)} {P : List Part} {s t : State}

theorem State.setMon_frame {a0 : Nat} {a1 : Mon} : Frame (some []) [.sup] s (State.setMon s a0 a1) := by
  unfold State.setMon
  refine Frame.sup ?_ rfl (fun h => ⟨(by first | exact h.1 | exact sparseWf_sset h.1 | exact sparseWf_nil | exact sparseWf_filter h.1 | exact sparseWf_smap h.1 | exact sparseWf_sdrop h.1 | exact sparseWf_sset (sparseWf_sset h.1) | exact sparseWf_fold sparseWf_nil | (dsimp only; exact sparseWf_smap h.1)), (by first | exact h.2.1 | exact sparseWf_sset h.2.1 | exact sparseWf_nil | exact sparseWf_filter h.2.1 | exact sparseWf_smap h.2.1 | exact sparseWf_sdrop h.2.1 | exact sparseWf_sset (sparseWf_sset h.2.1) | exact sparseWf_fold sparseWf_nil | (dsimp only; exact sparseWf_smap h.2.1)), (by first | exact h.2.2.1 | exact sparseWf_sset h.2.2.1 | exact sparseWf_nil | exact sparseWf_filter h.2.2.1 | exact sparseWf_smap h.2.2.1 | exact sparseWf_sdrop h.2.2.1 | exact sparseWf_sset (sparseWf_sset h.2.2.1) | exact sparseWf_fold sparseWf_nil | (dsimp only; exact sparseWf_smap h.2.2.1)), (by first | exact h.2.2.2.1 | exact sparseWf_sset h.2.2.2.1 | exact sparseWf_nil | exact sparseWf_filter h.2.2.2.1 | exact sparseWf_smap h.2.2.2.1 | exact sparseWf_sdrop h.2.2.2.1 | exact sparseWf_sset (sparseWf_sset h.2.2.2.1) | exact sparseWf_fold sparseWf_nil | (dsimp only; exact sparseWf_smap h.2.2.2.1)), (by first | exact h.2.2.2.2.1 | exact sparseWf_sset h.2.2.2.2.1 | exact sparseWf_nil | exact sparseWf_filter h.2.2.2.2.1 | exact sparseWf_smap h.2.2.2.2.1 | exact sparseWf_sdrop h.2.2.2.2.1 | exact sparseWf_sset (sparseWf_sset h.2.2.2.2.1) | exact sparseWf_fold sparseWf_nil | (dsimp only; exact sparseWf_smap h.2.2.2.2.1)), (by first | exact h.2.2.2.2.2 | exact sparseWf_sset h.2.2.2.2.2 | exact sparseWf_nil | exact sparseWf_filter h.2.2.2.2.2 | exact sparseWf_smap h.2.2.2.2.2 | exact sparseWf_sdrop h.2.2.2.2.2 | exact sparseWf_sset (sparseWf_sset h.2.2.2.2.2) | exact sparseWf_fold sparseWf_nil | (dsimp only; exact sparseWf_smap h.2.2.2.2.2))⟩)
  exact Frame.refl

theorem showBreach_frame {a0 : Nat} : Frame (some [.SUP_MON_STATUS]) [] s (showBreach a0 s) := by
  unfold showBreach
  extract_lets -merge -useContext -underBinder +onlyGivenNames v1
  refine Frame.put ?_ (inRows_of (r := .SUP_MON_STATUS) rfl (by exact ⟨_, rfl⟩))
  exact Frame.refl

theorem seen_frame {a0 : Nat} : Frame (some [.SUP_TRIP_SEEN]) [] s (seen a0 s) := by
  unfold seen
  refine Frame.ite (fun _ => ?_) (fun _ => ?_)
  · refine Frame.put ?_ (inRows_of (r := .SUP_TRIP_SEEN) rfl (by exact rfl))
    exact Frame.refl
  · refine Frame.put ?_ (inRows_of (r := .SUP_TRIP_SEEN) rfl (by exact rfl))
    exact Frame.refl

theorem recordFirst_frame {a0 : Detection} : Frame (some [.SUP_TRIP, .SUP_TRIP_ERR, .SUP_TRIP_REEL_HI, .SUP_TRIP_REEL_LO]) [] s (recordFirst a0 s) := by
  unfold recordFirst
  refine Frame.ite (fun _ => ?_) (fun _ => ?_)
  · exact Frame.refl
  · extract_lets -merge -useContext -underBinder +onlyGivenNames x1
    refine Frame.via x1 ?_ fun h1 => ?_
    · unfold x1
      refine Frame.put ?_ (inRows_of (r := .SUP_TRIP) rfl (by exact rfl))
      refine Frame.put ?_ (inRows_of (r := .SUP_TRIP) rfl (by exact rfl))
      refine Frame.put ?_ (inRows_of (r := .SUP_TRIP) rfl (by exact rfl))
      exact Frame.refl
    try clear_value x1
    extract_lets -merge -useContext -underBinder +onlyGivenNames x2
    refine Frame.via x2 ?_ fun h2 => ?_
    · unfold x2
      refine Frame.wr64 ?_ (inRows_of (r := .SUP_TRIP_REEL_LO) rfl (by exact rfl)) (inRows_of (r := .SUP_TRIP_REEL_HI) rfl (by show Reg.SUP_TRIP_REEL_LO + 4 = Reg.SUP_TRIP_REEL_HI; decide))
      exact h1
    try clear_value x2
    refine Frame.ite (fun _ => ?_) (fun _ => ?_)
    · refine Frame.put ?_ (inRows_of (r := .SUP_TRIP_ERR) rfl (by exact rfl))
      refine Frame.put ?_ (inRows_of (r := .SUP_TRIP_ERR) rfl (by exact rfl))
      refine Frame.put ?_ (inRows_of (r := .SUP_TRIP_ERR) rfl (by exact rfl))
      exact h2
    · exact h2

theorem noteDetection_frame {a0 : Detection} : Frame (some [.SUP_TRIP, .SUP_TRIP_ERR, .SUP_TRIP_REEL_HI, .SUP_TRIP_REEL_LO, .SUP_TRIP_SEEN]) [.glb, .sup] s (noteDetection a0 s) := by
  unfold noteDetection
  refine Frame.ite (fun _ => ?_) (fun _ => ?_)
  · extract_lets -merge -useContext -underBinder +onlyGivenNames x1
    refine Frame.via x1 ?_ fun h1 => ?_
    · unfold x1
      refine Frame.then ?_ recordFirst_frame rfl rfl
      refine Frame.then ?_ seen_frame rfl rfl
      exact Frame.refl
    try clear_value x1
    refine Frame.glb ?_ rfl (fun _ => trivial)
    exact h1
  · refine Frame.sup ?_ rfl (fun h => ⟨(by first | exact h.1 | exact sparseWf_sset h.1 | exact sparseWf_nil | exact sparseWf_filter h.1 | exact sparseWf_smap h.1 | exact sparseWf_sdrop h.1 | exact sparseWf_sset (sparseWf_sset h.1) | exact sparseWf_fold sparseWf_nil | (dsimp only; exact sparseWf_smap h.1)), (by first | exact h.2.1 | exact sparseWf_sset h.2.1 | exact sparseWf_nil | exact sparseWf_filter h.2.1 | exact sparseWf_smap h.2.1 | exact sparseWf_sdrop h.2.1 | exact sparseWf_sset (sparseWf_sset h.2.1) | exact sparseWf_fold sparseWf_nil | (dsimp only; exact sparseWf_smap h.2.1)), (by first | exact h.2.2.1 | exact sparseWf_sset h.2.2.1 | exact sparseWf_nil | exact sparseWf_filter h.2.2.1 | exact sparseWf_smap h.2.2.1 | exact sparseWf_sdrop h.2.2.1 | exact sparseWf_sset (sparseWf_sset h.2.2.1) | exact sparseWf_fold sparseWf_nil | (dsimp only; exact sparseWf_smap h.2.2.1)), (by first | exact h.2.2.2.1 | exact sparseWf_sset h.2.2.2.1 | exact sparseWf_nil | exact sparseWf_filter h.2.2.2.1 | exact sparseWf_smap h.2.2.2.1 | exact sparseWf_sdrop h.2.2.2.1 | exact sparseWf_sset (sparseWf_sset h.2.2.2.1) | exact sparseWf_fold sparseWf_nil | (dsimp only; exact sparseWf_smap h.2.2.2.1)), (by first | exact h.2.2.2.2.1 | exact sparseWf_sset h.2.2.2.2.1 | exact sparseWf_nil | exact sparseWf_filter h.2.2.2.2.1 | exact sparseWf_smap h.2.2.2.2.1 | exact sparseWf_sdrop h.2.2.2.2.1 | exact sparseWf_sset (sparseWf_sset h.2.2.2.2.1) | exact sparseWf_fold sparseWf_nil | (dsimp only; exact sparseWf_smap h.2.2.2.2.1)), (by first | exact h.2.2.2.2.2 | exact sparseWf_sset h.2.2.2.2.2 | exact sparseWf_nil | exact sparseWf_filter h.2.2.2.2.2 | exact sparseWf_smap h.2.2.2.2.2 | exact sparseWf_sdrop h.2.2.2.2.2 | exact sparseWf_sset (sparseWf_sset h.2.2.2.2.2) | exact sparseWf_fold sparseWf_nil | (dsimp only; exact sparseWf_smap h.2.2.2.2.2))⟩)
    exact Frame.refl

theorem detect_frame {a0 : Nat} {a1 : Nat} : Frame (some [.SUP_TRIP, .SUP_TRIP_ERR, .SUP_TRIP_REEL_HI, .SUP_TRIP_REEL_LO, .SUP_TRIP_SEEN]) [.glb, .sup] s (detect a0 a1 s) := by
  unfold detect
  refine Frame.ite (fun _ => ?_) (fun _ => ?_)
  · refine Frame.then ?_ noteDetection_frame rfl rfl
    exact Frame.refl
  · exact Frame.refl

theorem addCause_frame {a0 : Nat} {a1 : Nat} : Frame (some []) [.sup] s (addCause a0 a1 s) := by
  unfold addCause
  extract_lets -merge -useContext -underBinder +onlyGivenNames v1 v2
  refine Frame.then ?_ State.setMon_frame rfl rfl
  exact Frame.refl

theorem flagBreach_frame {a0 : Nat} {a1 : Nat} : Frame (some [.SUP_EVENT, .SUP_MON_STATUS]) [.events, .sup] s (flagBreach a0 a1 s) := by
  unfold flagBreach
  extract_lets -merge -useContext -underBinder +onlyGivenNames x1
  refine Frame.via x1 ?_ fun h1 => ?_
  · unfold x1
    refine Frame.then ?_ addCause_frame rfl rfl
    exact Frame.refl
  try clear_value x1
  extract_lets -merge -useContext -underBinder +onlyGivenNames x2
  refine Frame.via x2 ?_ fun h2 => ?_
  · unfold x2
    refine Frame.raise ?_ (inRows_of (r := .SUP_EVENT) rfl (by exact rfl)) rfl
    refine Frame.count ?_ (inRows_of (r := .SUP_MON_STATUS) rfl (by exact ⟨_, rfl⟩))
    refine Frame.raise ?_ (inRows_of (r := .SUP_MON_STATUS) rfl (by exact ⟨_, rfl⟩)) rfl
    exact h1
  try clear_value x2
  extract_lets -merge -useContext -underBinder +onlyGivenNames x3
  refine Frame.via x3 ?_ fun h3 => ?_
  · unfold x3
    refine Frame.then ?_ showBreach_frame rfl rfl
    exact h2
  try clear_value x3
  refine Frame.ite (fun _ => ?_) (fun _ => ?_)
  · exact h3
  · refine Frame.report ?_ rfl
    exact h3

theorem rejudge_frame  : Frame (some [.SUP_MON_STATUS, .SUP_TRIP, .SUP_TRIP_ERR, .SUP_TRIP_REEL_HI, .SUP_TRIP_REEL_LO, .SUP_TRIP_SEEN]) [.glb, .sup] s (rejudge s) := by
  unfold rejudge
  refine Frame.forAll _ ?_ fun i x hx => ?_
  · exact Frame.refl
  · refine Frame.forAll _ ?_ fun i x hx => ?_
    · refine Frame.then ?_ showBreach_frame rfl rfl
      exact hx
    · refine Frame.then ?_ detect_frame rfl rfl
      refine Frame.then ?_ addCause_frame rfl rfl
      exact hx

theorem refreshQualified_frame  : Frame (some [.SUP_EVENT, .SUP_STATUS, .SYN_MRK_LEVEL, .SYN_TRG_LEVEL]) [.events, .sup, .syn] s (refreshQualified s) := by
  unfold refreshQualified
  refine permitting_frame ?_ rfl rfl (fun x hx => ?_)
  · exact Frame.refl
  · extract_lets -merge -useContext -underBinder +onlyGivenNames v1 x2
    refine Frame.via x2 ?_ fun h2 => ?_
    · unfold x2
      refine Frame.ite (fun _ => ?_) (fun _ => ?_)
      · refine Frame.raise ?_ (inRows_of (r := .SUP_EVENT) rfl (by exact rfl)) rfl
        exact hx
      · exact hx
    try clear_value x2
    refine Frame.put ?_ (inRows_of (r := .SUP_STATUS) rfl (by exact rfl))
    exact h2

theorem restartMon_frame {a0 : Nat} : Frame (some [.SUP_EVENT, .SUP_MON_STATUS, .SUP_STATUS, .SYN_MRK_LEVEL, .SYN_TRG_LEVEL]) [.events, .sup, .syn] s (restartMon a0 s) := by
  unfold restartMon
  extract_lets -merge -useContext -underBinder +onlyGivenNames w1 x2
  refine Frame.via x2 ?_ fun h2 => ?_
  · unfold x2
    refine Frame.then ?_ State.setMon_frame rfl rfl
    exact Frame.refl
  try clear_value x2
  extract_lets -merge -useContext -underBinder +onlyGivenNames x3
  refine Frame.via x3 ?_ fun h3 => ?_
  · unfold x3
    refine Frame.put ?_ (inRows_of (r := .SUP_MON_STATUS) rfl (by exact ⟨_, rfl⟩))
    refine Frame.put ?_ (inRows_of (r := .SUP_MON_STATUS) rfl (by exact ⟨_, rfl⟩))
    exact h2
  try clear_value x3
  refine Frame.then ?_ refreshQualified_frame rfl rfl
  refine Frame.then ?_ showBreach_frame rfl rfl
  exact h3

theorem State.setErrQueue_frame {a0 : Nat} {a1 : List ErrEntry} : Frame (some [.SUP_ERR_DEPTH]) [.sup] s (State.setErrQueue s a0 a1) := by
  unfold State.setErrQueue
  extract_lets -merge -useContext -underBinder +onlyGivenNames w1 x2
  refine Frame.via x2 ?_ fun h2 => ?_
  · unfold x2
    refine Frame.sup ?_ rfl (fun h => ⟨(by first | exact h.1 | exact sparseWf_sset h.1 | exact sparseWf_nil | exact sparseWf_filter h.1 | exact sparseWf_smap h.1 | exact sparseWf_sdrop h.1 | exact sparseWf_sset (sparseWf_sset h.1) | exact sparseWf_fold sparseWf_nil | (dsimp only; exact sparseWf_smap h.1)), (by first | exact h.2.1 | exact sparseWf_sset h.2.1 | exact sparseWf_nil | exact sparseWf_filter h.2.1 | exact sparseWf_smap h.2.1 | exact sparseWf_sdrop h.2.1 | exact sparseWf_sset (sparseWf_sset h.2.1) | exact sparseWf_fold sparseWf_nil | (dsimp only; exact sparseWf_smap h.2.1)), (by first | exact h.2.2.1 | exact sparseWf_sset h.2.2.1 | exact sparseWf_nil | exact sparseWf_filter h.2.2.1 | exact sparseWf_smap h.2.2.1 | exact sparseWf_sdrop h.2.2.1 | exact sparseWf_sset (sparseWf_sset h.2.2.1) | exact sparseWf_fold sparseWf_nil | (dsimp only; exact sparseWf_smap h.2.2.1)), (by first | exact h.2.2.2.1 | exact sparseWf_sset h.2.2.2.1 | exact sparseWf_nil | exact sparseWf_filter h.2.2.2.1 | exact sparseWf_smap h.2.2.2.1 | exact sparseWf_sdrop h.2.2.2.1 | exact sparseWf_sset (sparseWf_sset h.2.2.2.1) | exact sparseWf_fold sparseWf_nil | (dsimp only; exact sparseWf_smap h.2.2.2.1)), (by first | exact h.2.2.2.2.1 | exact sparseWf_sset h.2.2.2.2.1 | exact sparseWf_nil | exact sparseWf_filter h.2.2.2.2.1 | exact sparseWf_smap h.2.2.2.2.1 | exact sparseWf_sdrop h.2.2.2.2.1 | exact sparseWf_sset (sparseWf_sset h.2.2.2.2.1) | exact sparseWf_fold sparseWf_nil | (dsimp only; exact sparseWf_smap h.2.2.2.2.1)), (by first | exact h.2.2.2.2.2 | exact sparseWf_sset h.2.2.2.2.2 | exact sparseWf_nil | exact sparseWf_filter h.2.2.2.2.2 | exact sparseWf_smap h.2.2.2.2.2 | exact sparseWf_sdrop h.2.2.2.2.2 | exact sparseWf_sset (sparseWf_sset h.2.2.2.2.2) | exact sparseWf_fold sparseWf_nil | (dsimp only; exact sparseWf_smap h.2.2.2.2.2))⟩)
    exact Frame.refl
  try clear_value x2
  refine Frame.put ?_ (inRows_of (r := .SUP_ERR_DEPTH) rfl (by exact rfl))
  exact h2

theorem nextSeq_frame  : Frame (some []) [.sup] s (nextSeq s).2 := by
  unfold nextSeq
  refine Frame.sup ?_ rfl (by first | exact id | exact fun h => ⟨(by first | exact h.1 | exact sparseWf_sset h.1 | exact sparseWf_nil | exact sparseWf_filter h.1 | exact sparseWf_smap h.1 | exact sparseWf_sdrop h.1 | exact sparseWf_sset (sparseWf_sset h.1) | exact sparseWf_fold sparseWf_nil | (dsimp only; exact sparseWf_smap h.1)), (by first | exact h.2.1 | exact sparseWf_sset h.2.1 | exact sparseWf_nil | exact sparseWf_filter h.2.1 | exact sparseWf_smap h.2.1 | exact sparseWf_sdrop h.2.1 | exact sparseWf_sset (sparseWf_sset h.2.1) | exact sparseWf_fold sparseWf_nil | (dsimp only; exact sparseWf_smap h.2.1)), (by first | exact h.2.2.1 | exact sparseWf_sset h.2.2.1 | exact sparseWf_nil | exact sparseWf_filter h.2.2.1 | exact sparseWf_smap h.2.2.1 | exact sparseWf_sdrop h.2.2.1 | exact sparseWf_sset (sparseWf_sset h.2.2.1) | exact sparseWf_fold sparseWf_nil | (dsimp only; exact sparseWf_smap h.2.2.1)), (by first | exact h.2.2.2.1 | exact sparseWf_sset h.2.2.2.1 | exact sparseWf_nil | exact sparseWf_filter h.2.2.2.1 | exact sparseWf_smap h.2.2.2.1 | exact sparseWf_sdrop h.2.2.2.1 | exact sparseWf_sset (sparseWf_sset h.2.2.2.1) | exact sparseWf_fold sparseWf_nil | (dsimp only; exact sparseWf_smap h.2.2.2.1)), (by first | exact h.2.2.2.2.1 | exact sparseWf_sset h.2.2.2.2.1 | exact sparseWf_nil | exact sparseWf_filter h.2.2.2.2.1 | exact sparseWf_smap h.2.2.2.2.1 | exact sparseWf_sdrop h.2.2.2.2.1 | exact sparseWf_sset (sparseWf_sset h.2.2.2.2.1) | exact sparseWf_fold sparseWf_nil | (dsimp only; exact sparseWf_smap h.2.2.2.2.1)), (by first | exact h.2.2.2.2.2 | exact sparseWf_sset h.2.2.2.2.2 | exact sparseWf_nil | exact sparseWf_filter h.2.2.2.2.2 | exact sparseWf_smap h.2.2.2.2.2 | exact sparseWf_sdrop h.2.2.2.2.2 | exact sparseWf_sset (sparseWf_sset h.2.2.2.2.2) | exact sparseWf_fold sparseWf_nil | (dsimp only; exact sparseWf_smap h.2.2.2.2.2))⟩)
  exact Frame.refl

theorem takeReport_frame {a0 : Report} : Frame (some [.SUP_ERR_DEPTH, .SUP_ERR_LOST, .SUP_EVENT, .SUP_TRIP, .SUP_TRIP_ERR, .SUP_TRIP_REEL_HI, .SUP_TRIP_REEL_LO, .SUP_TRIP_SEEN]) [.events, .glb, .sup] s (takeReport a0 s) := by
  unfold takeReport
  refine Frame.ite (fun _ => ?_) (fun _ => ?_)
  · extract_lets -merge -useContext -underBinder +onlyGivenNames x1
    refine Frame.via x1 ?_ fun h1 => ?_
    · unfold x1
      refine Frame.ite (fun _ => ?_) (fun _ => ?_)
      · first | split | (clear_value *; split)
        · rename_i x2 e2
          refine Frame.via x2 (Frame.ofSnd e2 ?_) fun h2 => ?_
          · refine Frame.then ?_ nextSeq_frame rfl rfl
            exact Frame.refl
          refine Frame.sup ?_ rfl (by first | exact id | exact fun h => ⟨(by first | exact h.1 | exact sparseWf_sset h.1 | exact sparseWf_nil | exact sparseWf_filter h.1 | exact sparseWf_smap h.1 | exact sparseWf_sdrop h.1 | exact sparseWf_sset (sparseWf_sset h.1) | exact sparseWf_fold sparseWf_nil | (dsimp only; exact sparseWf_smap h.1)), (by first | exact h.2.1 | exact sparseWf_sset h.2.1 | exact sparseWf_nil | exact sparseWf_filter h.2.1 | exact sparseWf_smap h.2.1 | exact sparseWf_sdrop h.2.1 | exact sparseWf_sset (sparseWf_sset h.2.1) | exact sparseWf_fold sparseWf_nil | (dsimp only; exact sparseWf_smap h.2.1)), (by first | exact h.2.2.1 | exact sparseWf_sset h.2.2.1 | exact sparseWf_nil | exact sparseWf_filter h.2.2.1 | exact sparseWf_smap h.2.2.1 | exact sparseWf_sdrop h.2.2.1 | exact sparseWf_sset (sparseWf_sset h.2.2.1) | exact sparseWf_fold sparseWf_nil | (dsimp only; exact sparseWf_smap h.2.2.1)), (by first | exact h.2.2.2.1 | exact sparseWf_sset h.2.2.2.1 | exact sparseWf_nil | exact sparseWf_filter h.2.2.2.1 | exact sparseWf_smap h.2.2.2.1 | exact sparseWf_sdrop h.2.2.2.1 | exact sparseWf_sset (sparseWf_sset h.2.2.2.1) | exact sparseWf_fold sparseWf_nil | (dsimp only; exact sparseWf_smap h.2.2.2.1)), (by first | exact h.2.2.2.2.1 | exact sparseWf_sset h.2.2.2.2.1 | exact sparseWf_nil | exact sparseWf_filter h.2.2.2.2.1 | exact sparseWf_smap h.2.2.2.2.1 | exact sparseWf_sdrop h.2.2.2.2.1 | exact sparseWf_sset (sparseWf_sset h.2.2.2.2.1) | exact sparseWf_fold sparseWf_nil | (dsimp only; exact sparseWf_smap h.2.2.2.2.1)), (by first | exact h.2.2.2.2.2 | exact sparseWf_sset h.2.2.2.2.2 | exact sparseWf_nil | exact sparseWf_filter h.2.2.2.2.2 | exact sparseWf_smap h.2.2.2.2.2 | exact sparseWf_sdrop h.2.2.2.2.2 | exact sparseWf_sset (sparseWf_sset h.2.2.2.2.2) | exact sparseWf_fold sparseWf_nil | (dsimp only; exact sparseWf_smap h.2.2.2.2.2))⟩)
          exact h2
      · exact Frame.refl
    try clear_value x1
    refine Frame.then ?_ noteDetection_frame rfl rfl
    exact h1
  · extract_lets -merge -useContext -underBinder +onlyGivenNames v3
    refine Frame.ite (fun _ => ?_) (fun _ => ?_)
    · refine Frame.then ?_ State.setErrQueue_frame rfl rfl
      exact Frame.refl
    · refine Frame.ite (fun _ => ?_) (fun _ => ?_)
      · refine Frame.raise ?_ (inRows_of (r := .SUP_EVENT) rfl (by exact rfl)) rfl
        refine Frame.count ?_ (inRows_of (r := .SUP_ERR_LOST) rfl (by exact rfl))
        exact Frame.refl
      · first | split | (clear_value *; split)
        · rename_i x4 e4
          refine Frame.via x4 (Frame.ofSnd e4 ?_) fun h4 => ?_
          · refine Frame.then ?_ nextSeq_frame rfl rfl
            exact Frame.refl
          refine Frame.raise ?_ (inRows_of (r := .SUP_EVENT) rfl (by exact rfl)) rfl
          refine Frame.then ?_ State.setErrQueue_frame rfl rfl
          exact h4

end Sys2Proof.Machine
end

