-- ==== Sys2Proof/Laws/Frame/FabOps.lean ====
section
/-! SUPPORT. Laws/Frame/FabOps.lean: what each operation of Machine/FabOps.lean can change, and that it keeps a sound state sound. -/

set_option Elab.async false

namespace Sys2Proof.Machine

variable {R : Option (List RegRow)} {P : List Part} {s t : State}

theorem emitOn_frame {a0 : Nat} {a1 : Nat} : Frame (some [.FAB_EVENT, .FAB_EV_COUNT]) [.events, .fab, .sup] s (emitOn a0 a1 s) := by
  unfold emitOn
  refine Frame.ite (fun _ => ?_) (fun _ => ?_)
  · refine Frame.fab ?_ rfl (fun h => ⟨(by first | exact h.1 | exact sparseWf_sset h.1 | exact sparseWf_nil | exact sparseWf_filter h.1 | exact sparseWf_smap h.1 | exact sparseWf_sdrop h.1 | exact sparseWf_sset (sparseWf_sset h.1) | exact sparseWf_fold sparseWf_nil | (dsimp only; exact sparseWf_smap h.1)), (by first | exact h.2.1 | exact sparseWf_sset h.2.1 | exact sparseWf_nil | exact sparseWf_filter h.2.1 | exact sparseWf_smap h.2.1 | exact sparseWf_sdrop h.2.1 | exact sparseWf_sset (sparseWf_sset h.2.1) | exact sparseWf_fold sparseWf_nil | (dsimp only; exact sparseWf_smap h.2.1)), (by first | exact h.2.2.1 | exact sparseWf_sset h.2.2.1 | exact sparseWf_nil | exact sparseWf_filter h.2.2.1 | exact sparseWf_smap h.2.2.1 | exact sparseWf_sdrop h.2.2.1 | exact sparseWf_sset (sparseWf_sset h.2.2.1) | exact sparseWf_fold sparseWf_nil | (dsimp only; exact sparseWf_smap h.2.2.1)), (by first | exact h.2.2.2 | exact sparseWf_sset h.2.2.2 | exact sparseWf_nil | exact sparseWf_filter h.2.2.2 | exact sparseWf_smap h.2.2.2 | exact sparseWf_sdrop h.2.2.2 | exact sparseWf_sset (sparseWf_sset h.2.2.2) | exact sparseWf_fold sparseWf_nil | (dsimp only; exact sparseWf_smap h.2.2.2))⟩)
    exact Frame.refl
  · refine Frame.raise ?_ (inRows_of (r := .FAB_EVENT) rfl (by exact rfl)) rfl
    refine Frame.count ?_ (inRows_of (r := .FAB_EV_COUNT) rfl (by exact ⟨_, rfl⟩))
    exact Frame.refl

theorem emit_frame {a0 : Nat} {a1 : Nat} : Frame (some [.FAB_EVENT, .FAB_EV_COUNT]) [.events, .fab, .sup] s (emit a0 a1 s) := by
  unfold emit
  refine Frame.ite (fun _ => ?_) (fun _ => ?_)
  · refine Frame.forN _ ?_ fun i x hx => ?_
    · exact Frame.refl
    · refine Frame.ite (fun _ => ?_) (fun _ => ?_)
      · refine Frame.then ?_ emitOn_frame rfl rfl
        exact hx
      · exact hx
  · exact Frame.refl

theorem showEvent_frame {a0 : Nat} {a1 : Nat} : Frame (some []) [.fab] s (showEvent a0 a1 s) := by
  unfold showEvent
  extract_lets -merge -useContext -underBinder +onlyGivenNames w1 x2
  refine Frame.via x2 ?_ fun h2 => ?_
  · unfold x2
    refine Frame.ite (fun _ => ?_) (fun _ => ?_)
    · exact Frame.refl
    · refine Frame.fab ?_ rfl (fun h => ⟨(by first | exact h.1 | exact sparseWf_sset h.1 | exact sparseWf_nil | exact sparseWf_filter h.1 | exact sparseWf_smap h.1 | exact sparseWf_sdrop h.1 | exact sparseWf_sset (sparseWf_sset h.1) | exact sparseWf_fold sparseWf_nil | (dsimp only; exact sparseWf_smap h.1)), (by first | exact h.2.1 | exact sparseWf_sset h.2.1 | exact sparseWf_nil | exact sparseWf_filter h.2.1 | exact sparseWf_smap h.2.1 | exact sparseWf_sdrop h.2.1 | exact sparseWf_sset (sparseWf_sset h.2.1) | exact sparseWf_fold sparseWf_nil | (dsimp only; exact sparseWf_smap h.2.1)), (by first | exact h.2.2.1 | exact sparseWf_sset h.2.2.1 | exact sparseWf_nil | exact sparseWf_filter h.2.2.1 | exact sparseWf_smap h.2.2.1 | exact sparseWf_sdrop h.2.2.1 | exact sparseWf_sset (sparseWf_sset h.2.2.1) | exact sparseWf_fold sparseWf_nil | (dsimp only; exact sparseWf_smap h.2.2.1)), (by first | exact h.2.2.2 | exact sparseWf_sset h.2.2.2 | exact sparseWf_nil | exact sparseWf_filter h.2.2.2 | exact sparseWf_smap h.2.2.2 | exact sparseWf_sdrop h.2.2.2 | exact sparseWf_sset (sparseWf_sset h.2.2.2) | exact sparseWf_fold sparseWf_nil | (dsimp only; exact sparseWf_smap h.2.2.2))⟩)
      exact Frame.refl
  try clear_value x2
  refine Frame.fab ?_ rfl (by first | exact id | exact fun h => ⟨(by first | exact h.1 | exact sparseWf_sset h.1 | exact sparseWf_nil | exact sparseWf_filter h.1 | exact sparseWf_smap h.1 | exact sparseWf_sdrop h.1 | exact sparseWf_sset (sparseWf_sset h.1) | exact sparseWf_fold sparseWf_nil | (dsimp only; exact sparseWf_smap h.1)), (by first | exact h.2.1 | exact sparseWf_sset h.2.1 | exact sparseWf_nil | exact sparseWf_filter h.2.1 | exact sparseWf_smap h.2.1 | exact sparseWf_sdrop h.2.1 | exact sparseWf_sset (sparseWf_sset h.2.1) | exact sparseWf_fold sparseWf_nil | (dsimp only; exact sparseWf_smap h.2.1)), (by first | exact h.2.2.1 | exact sparseWf_sset h.2.2.1 | exact sparseWf_nil | exact sparseWf_filter h.2.2.1 | exact sparseWf_smap h.2.2.1 | exact sparseWf_sdrop h.2.2.1 | exact sparseWf_sset (sparseWf_sset h.2.2.1) | exact sparseWf_fold sparseWf_nil | (dsimp only; exact sparseWf_smap h.2.2.1)), (by first | exact h.2.2.2 | exact sparseWf_sset h.2.2.2 | exact sparseWf_nil | exact sparseWf_filter h.2.2.2 | exact sparseWf_smap h.2.2.2 | exact sparseWf_sdrop h.2.2.2 | exact sparseWf_sset (sparseWf_sset h.2.2.2) | exact sparseWf_fold sparseWf_nil | (dsimp only; exact sparseWf_smap h.2.2.2))⟩)
  exact h2

theorem takeEvent_frame {a0 : Nat} : Frame (some []) [.fab] s (takeEvent a0 s) := by
  unfold takeEvent
  refine Frame.fab ?_ rfl (fun h => ⟨(by first | exact h.1 | exact sparseWf_sset h.1 | exact sparseWf_nil | exact sparseWf_filter h.1 | exact sparseWf_smap h.1 | exact sparseWf_sdrop h.1 | exact sparseWf_sset (sparseWf_sset h.1) | exact sparseWf_fold sparseWf_nil | (dsimp only; exact sparseWf_smap h.1)), (by first | exact h.2.1 | exact sparseWf_sset h.2.1 | exact sparseWf_nil | exact sparseWf_filter h.2.1 | exact sparseWf_smap h.2.1 | exact sparseWf_sdrop h.2.1 | exact sparseWf_sset (sparseWf_sset h.2.1) | exact sparseWf_fold sparseWf_nil | (dsimp only; exact sparseWf_smap h.2.1)), (by first | exact h.2.2.1 | exact sparseWf_sset h.2.2.1 | exact sparseWf_nil | exact sparseWf_filter h.2.2.1 | exact sparseWf_smap h.2.2.1 | exact sparseWf_sdrop h.2.2.1 | exact sparseWf_sset (sparseWf_sset h.2.2.1) | exact sparseWf_fold sparseWf_nil | (dsimp only; exact sparseWf_smap h.2.2.1)), (by first | exact h.2.2.2 | exact sparseWf_sset h.2.2.2 | exact sparseWf_nil | exact sparseWf_filter h.2.2.2 | exact sparseWf_smap h.2.2.2 | exact sparseWf_sdrop h.2.2.2 | exact sparseWf_sset (sparseWf_sset h.2.2.2) | exact sparseWf_fold sparseWf_nil | (dsimp only; exact sparseWf_smap h.2.2.2))⟩)
  exact Frame.refl

theorem dropSlot_frame {a0 : Nat} : Frame (some [.FAB_EVENT, .FAB_GRP_COUNT, .FAB_GRP_EVENT]) [.events, .sup] s (dropSlot a0 s) := by
  unfold dropSlot
  refine Frame.count ?_ (inRows_of (r := .FAB_GRP_COUNT) rfl (by exact ⟨_, rfl⟩))
  refine Frame.raise ?_ (inRows_of (r := .FAB_EVENT) rfl (by exact rfl)) rfl
  refine Frame.raise ?_ (inRows_of (r := .FAB_GRP_EVENT) rfl (by exact ⟨_, rfl⟩)) rfl
  exact Frame.refl

theorem setGate_frame {a0 : Nat} {a1 : Bool} : Frame (some [.FAB_EVENT, .FAB_GRP_COUNT, .FAB_GRP_EVENT, .FAB_GRP_STATUS]) [.events, .sup] s (setGate a0 a1 s) := by
  unfold setGate
  refine Frame.ite (fun _ => ?_) (fun _ => ?_)
  · exact Frame.refl
  · extract_lets -merge -useContext -underBinder +onlyGivenNames x1
    refine Frame.via x1 ?_ fun h1 => ?_
    · unfold x1
      refine Frame.raise ?_ (inRows_of (r := .FAB_GRP_EVENT) rfl (by exact ⟨_, rfl⟩)) rfl
      refine Frame.put ?_ (inRows_of (r := .FAB_GRP_STATUS) rfl (by exact ⟨_, rfl⟩))
      exact Frame.refl
    try clear_value x1
    refine Frame.ite (fun _ => ?_) (fun _ => ?_)
    · exact h1
    · extract_lets -merge -useContext -underBinder +onlyGivenNames v2 x3
      refine Frame.via x3 ?_ fun h3 => ?_
      · unfold x3
        refine Frame.forN _ ?_ fun i x hx => ?_
        · exact h1
        · refine Frame.ite (fun _ => ?_) (fun _ => ?_)
          · refine Frame.then ?_ dropSlot_frame rfl rfl
            exact hx
          · exact hx
      try clear_value x3
      refine Frame.put ?_ (inRows_of (r := .FAB_GRP_STATUS) rfl (by exact ⟨_, rfl⟩))
      exact h3

theorem State.setTrgIn_frame {a0 : Nat} {a1 : TrgIn} : Frame (some []) [.fab] s (State.setTrgIn s a0 a1) := by
  unfold State.setTrgIn
  refine Frame.fab ?_ rfl (fun h => ⟨(by first | exact h.1 | exact sparseWf_sset h.1 | exact sparseWf_nil | exact sparseWf_filter h.1 | exact sparseWf_smap h.1 | exact sparseWf_sdrop h.1 | exact sparseWf_sset (sparseWf_sset h.1) | exact sparseWf_fold sparseWf_nil | (dsimp only; exact sparseWf_smap h.1)), (by first | exact h.2.1 | exact sparseWf_sset h.2.1 | exact sparseWf_nil | exact sparseWf_filter h.2.1 | exact sparseWf_smap h.2.1 | exact sparseWf_sdrop h.2.1 | exact sparseWf_sset (sparseWf_sset h.2.1) | exact sparseWf_fold sparseWf_nil | (dsimp only; exact sparseWf_smap h.2.1)), (by first | exact h.2.2.1 | exact sparseWf_sset h.2.2.1 | exact sparseWf_nil | exact sparseWf_filter h.2.2.1 | exact sparseWf_smap h.2.2.1 | exact sparseWf_sdrop h.2.2.1 | exact sparseWf_sset (sparseWf_sset h.2.2.1) | exact sparseWf_fold sparseWf_nil | (dsimp only; exact sparseWf_smap h.2.2.1)), (by first | exact h.2.2.2 | exact sparseWf_sset h.2.2.2 | exact sparseWf_nil | exact sparseWf_filter h.2.2.2 | exact sparseWf_smap h.2.2.2 | exact sparseWf_sdrop h.2.2.2 | exact sparseWf_sset (sparseWf_sset h.2.2.2) | exact sparseWf_fold sparseWf_nil | (dsimp only; exact sparseWf_smap h.2.2.2))⟩)
  exact Frame.refl

theorem startFabric_frame  : Frame (some [.FAB_CT_STATE, .FAB_GRP_STATUS, .FAB_PLY_STATUS, .FAB_TRG_STATUS]) [.fab] s (startFabric s) := by
  unfold startFabric
  extract_lets -merge -useContext -underBinder +onlyGivenNames w1 x2
  refine Frame.via x2 ?_ fun h2 => ?_
  · unfold x2
    refine Frame.fab ?_ rfl (fun h => ⟨(by first | exact h.1 | exact sparseWf_sset h.1 | exact sparseWf_nil | exact sparseWf_filter h.1 | exact sparseWf_smap h.1 | exact sparseWf_sdrop h.1 | exact sparseWf_sset (sparseWf_sset h.1) | exact sparseWf_fold sparseWf_nil | (dsimp only; exact sparseWf_smap h.1)), (by first | exact h.2.1 | exact sparseWf_sset h.2.1 | exact sparseWf_nil | exact sparseWf_filter h.2.1 | exact sparseWf_smap h.2.1 | exact sparseWf_sdrop h.2.1 | exact sparseWf_sset (sparseWf_sset h.2.1) | exact sparseWf_fold sparseWf_nil | (dsimp only; exact sparseWf_smap h.2.1)), (by first | exact h.2.2.1 | exact sparseWf_sset h.2.2.1 | exact sparseWf_nil | exact sparseWf_filter h.2.2.1 | exact sparseWf_smap h.2.2.1 | exact sparseWf_sdrop h.2.2.1 | exact sparseWf_sset (sparseWf_sset h.2.2.1) | exact sparseWf_fold sparseWf_nil | (dsimp only; exact sparseWf_smap h.2.2.1)), (by first | exact h.2.2.2 | exact sparseWf_sset h.2.2.2 | exact sparseWf_nil | exact sparseWf_filter h.2.2.2 | exact sparseWf_smap h.2.2.2 | exact sparseWf_sdrop h.2.2.2 | exact sparseWf_sset (sparseWf_sset h.2.2.2) | exact sparseWf_fold sparseWf_nil | (dsimp only; exact sparseWf_smap h.2.2.2))⟩)
    exact Frame.refl
  try clear_value x2
  extract_lets -merge -useContext -underBinder +onlyGivenNames x3
  refine Frame.via x3 ?_ fun h3 => ?_
  · unfold x3
    refine Frame.forN _ ?_ fun i x hx => ?_
    · exact h2
    · refine Frame.wr ?_ (inRows_of (r := .FAB_PLY_STATUS) rfl (by exact ⟨_, rfl⟩))
      exact hx
  try clear_value x3
  extract_lets -merge -useContext -underBinder +onlyGivenNames x4
  refine Frame.via x4 ?_ fun h4 => ?_
  · unfold x4
    refine Frame.forN _ ?_ fun i x hx => ?_
    · exact h3
    · refine Frame.wr ?_ (inRows_of (r := .FAB_CT_STATE) rfl (by exact ⟨_, rfl⟩))
      exact hx
  try clear_value x4
  extract_lets -merge -useContext -underBinder +onlyGivenNames x5
  refine Frame.via x5 ?_ fun h5 => ?_
  · unfold x5
    refine Frame.forN _ ?_ fun i x hx => ?_
    · exact h4
    · refine Frame.put ?_ (inRows_of (r := .FAB_GRP_STATUS) rfl (by exact ⟨_, rfl⟩))
      refine Frame.put ?_ (inRows_of (r := .FAB_GRP_STATUS) rfl (by exact ⟨_, rfl⟩))
      exact hx
  try clear_value x5
  refine Frame.forN _ ?_ fun i x hx => ?_
  · exact h5
  · refine Frame.ite (fun _ => ?_) (fun _ => ?_)
    · refine Frame.then ?_ State.setTrgIn_frame rfl rfl
      refine Frame.put ?_ (inRows_of (r := .FAB_TRG_STATUS) rfl (by exact ⟨_, rfl⟩))
      exact hx
    · exact hx

theorem stopFabric_frame  : Frame (some []) [.fab, .later] s (stopFabric s) := by
  unfold stopFabric
  refine Frame.upd (t := s) [.fab, .later] ?_ rfl rfl (fun p hn => by cases p <;> first | rfl | exact ⟨rfl, rfl⟩ | exact ⟨rfl, rfl, rfl⟩ | exact absurd hn (by decide)) (fun p hm => by
      simp only [List.mem_cons, List.not_mem_nil, or_false] at hm
      rcases hm with rfl | rfl
      · exact fun h => ⟨(by first | exact h.1 | exact sparseWf_sset h.1 | exact sparseWf_nil | exact sparseWf_filter h.1 | exact sparseWf_smap h.1 | exact sparseWf_sdrop h.1 | exact sparseWf_sset (sparseWf_sset h.1) | exact sparseWf_fold sparseWf_nil | (dsimp only; exact sparseWf_smap h.1)), (by first | exact h.2.1 | exact sparseWf_sset h.2.1 | exact sparseWf_nil | exact sparseWf_filter h.2.1 | exact sparseWf_smap h.2.1 | exact sparseWf_sdrop h.2.1 | exact sparseWf_sset (sparseWf_sset h.2.1) | exact sparseWf_fold sparseWf_nil | (dsimp only; exact sparseWf_smap h.2.1)), (by first | exact h.2.2.1 | exact sparseWf_sset h.2.2.1 | exact sparseWf_nil | exact sparseWf_filter h.2.2.1 | exact sparseWf_smap h.2.2.1 | exact sparseWf_sdrop h.2.2.1 | exact sparseWf_sset (sparseWf_sset h.2.2.1) | exact sparseWf_fold sparseWf_nil | (dsimp only; exact sparseWf_smap h.2.2.1)), (by first | exact h.2.2.2 | exact sparseWf_sset h.2.2.2 | exact sparseWf_nil | exact sparseWf_filter h.2.2.2 | exact sparseWf_smap h.2.2.2 | exact sparseWf_sdrop h.2.2.2 | exact sparseWf_sset (sparseWf_sset h.2.2.2) | exact sparseWf_fold sparseWf_nil | (dsimp only; exact sparseWf_smap h.2.2.2))⟩
      · exact fun _ => trivial)
  exact Frame.refl

theorem trgQualified_frame {a0 : Nat} : Frame (some [.FAB_EVENT, .FAB_EV_COUNT, .FAB_TRG_STATUS]) [.events, .fab, .sup] s (trgQualified a0 s) := by
  unfold trgQualified
  extract_lets -merge -useContext -underBinder +onlyGivenNames v1 v2 x3
  refine Frame.via x3 ?_ fun h3 => ?_
  · unfold x3
    refine Frame.then ?_ State.setTrgIn_frame rfl rfl
    exact Frame.refl
  try clear_value x3
  extract_lets -merge -useContext -underBinder +onlyGivenNames v4 v5 v6
  refine Frame.ite (fun _ => ?_) (fun _ => ?_)
  · exact h3
  · refine Frame.ite (fun _ => ?_) (fun _ => ?_)
    · refine Frame.raise ?_ (inRows_of (r := .FAB_EVENT) rfl (by exact rfl)) rfl
      refine Frame.count ?_ (inRows_of (r := .FAB_TRG_STATUS) rfl (by exact ⟨_, rfl⟩))
      refine Frame.raise ?_ (inRows_of (r := .FAB_TRG_STATUS) rfl (by exact ⟨_, rfl⟩)) rfl
      exact h3
    · refine Frame.then ?_ emit_frame rfl rfl
      refine Frame.then ?_ State.setTrgIn_frame rfl rfl
      exact h3

theorem trgSample_frame {a0 : Nat} {a1 : Bool} : Frame (some [.FAB_EVENT, .FAB_EV_COUNT, .FAB_TRG_STATUS]) [.events, .fab, .later, .sup] s (trgSample a0 a1 s) := by
  unfold trgSample
  refine Frame.ite (fun _ => ?_) (fun _ => ?_)
  · exact Frame.refl
  · extract_lets -merge -useContext -underBinder +onlyGivenNames v1 v2 v3 x4
    refine Frame.via x4 ?_ fun h4 => ?_
    · unfold x4
      refine Frame.ite (fun _ => ?_) (fun _ => ?_)
      · refine Frame.count ?_ (inRows_of (r := .FAB_TRG_STATUS) rfl (by exact ⟨_, rfl⟩))
        exact Frame.refl
      · exact Frame.refl
    try clear_value x4
    extract_lets -merge -useContext -underBinder +onlyGivenNames x5
    refine Frame.via x5 ?_ fun h5 => ?_
    · unfold x5
      refine Frame.then ?_ State.setTrgIn_frame rfl rfl
      refine Frame.put ?_ (inRows_of (r := .FAB_TRG_STATUS) rfl (by exact ⟨_, rfl⟩))
      exact h4
    try clear_value x5
    refine Frame.ite (fun _ => ?_) (fun _ => ?_)
    · exact h5
    · refine Frame.ite (fun _ => ?_) (fun _ => ?_)
      · refine Frame.then ?_ trgQualified_frame rfl rfl
        exact h5
      · refine Frame.later ?_ rfl (fun _ => trivial)
        exact h5

theorem trgQualify_frame {a0 : Nat} {a1 : Nat} : Frame (some [.FAB_EVENT, .FAB_EV_COUNT, .FAB_TRG_STATUS]) [.events, .fab, .sup] s (trgQualify a0 a1 s) := by
  unfold trgQualify
  refine Frame.ite (fun _ => ?_) (fun _ => ?_)
  · refine Frame.then ?_ trgQualified_frame rfl rfl
    exact Frame.refl
  · exact Frame.refl

end Sys2Proof.Machine
end

