-- ==== Sys2Proof/Laws/Frame/DiscrOps.lean ====
section
/-! SUPPORT. Laws/Frame/DiscrOps.lean: what each operation of Machine/DiscrOps.lean can change, and that it keeps a sound state sound. -/

set_option Elab.async false

namespace Sys2Proof.Machine

variable {R : Option (List RegRow)} {P : List Part} {s t : State}

theorem sampleArrives_frame {a0 : Nat} {a1 : Nat} {a2 : Word} : Frame (some [.DSC_CH_STATUS]) [.dsc] s (sampleArrives a0 a1 a2 s) := by
  unfold sampleArrives
  extract_lets -merge -useContext -underBinder +onlyGivenNames v1
  first | split | (clear_value *; split)
  · refine Frame.ite (fun _ => ?_) (fun _ => ?_)
    · extract_lets -merge -useContext -underBinder +onlyGivenNames v2 v3 v4
      refine Frame.put ?_ (inRows_of (r := .DSC_CH_STATUS) rfl (by exact ⟨_, rfl⟩))
      refine Frame.then ?_ State.setDscCh_frame rfl rfl
      exact Frame.refl
    · exact Frame.refl
  · exact Frame.refl

theorem classify_frame {a0 : Window} {a1 : Eval} : Frame (some []) [.free] s (classify a0 a1 s).2 := by
  unfold classify
  extract_lets -merge -useContext -underBinder +onlyGivenNames v1 v2 v3 v4 v5 v6 v7 v8
  first | split | (clear_value *; split)
  · first | split | (clear_value *; split)
    · rename_i x9 e9
      refine Frame.via x9 (Frame.ofSnd e9 ?_) fun h9 => ?_
      · refine Frame.fresh ?_ rfl
        exact Frame.refl
      exact h9
  · first | split | (clear_value *; split)
    · exact Frame.refl
    · first | split | (clear_value *; split)
      · rename_i x10 e10
        refine Frame.via x10 (Frame.ofSnd e10 ?_) fun h10 => ?_
        · refine Frame.fresh ?_ rfl
          exact Frame.refl
        exact h10

theorem satLater_frame {a0 : Nat} {a1 : Nat} {a2 : Bool} : Frame (some []) [.later] s (satLater a0 a1 a2 s) := by
  unfold satLater
  refine Frame.ite (fun _ => ?_) (fun _ => ?_)
  · refine Frame.later ?_ rfl (fun _ => trivial)
    exact Frame.refl
  · exact Frame.refl

theorem satEvent_frame {a0 : Nat} {a1 : Option Nat} : Frame (some [.DSC_CH_EVENT, .DSC_EVENT]) [.events, .sup] s (satEvent a0 a1 s) := by
  unfold satEvent
  refine Frame.ite (fun _ => ?_) (fun _ => ?_)
  · refine Frame.raise ?_ (inRows_of (r := .DSC_EVENT) rfl (by exact rfl)) rfl
    refine Frame.raise ?_ (inRows_of (r := .DSC_CH_EVENT) rfl (by exact ⟨_, rfl⟩)) rfl
    exact Frame.refl
  · exact Frame.refl

theorem evaluate_frame {a0 : Nat} : Frame (some []) [.dsc, .free, .later] s (evaluate a0 s) := by
  unfold evaluate
  extract_lets -merge -useContext -underBinder +onlyGivenNames v1
  first | split | (clear_value *; split)
  · first | split | (clear_value *; split)
    · rename_i x2 e2
      refine Frame.via x2 (Frame.ofSnd e2 ?_) fun h2 => ?_
      · refine Frame.then ?_ classify_frame rfl rfl
        exact Frame.refl
      extract_lets -merge -useContext -underBinder +onlyGivenNames x3
      refine Frame.via x3 ?_ fun h3 => ?_
      · unfold x3
        refine Frame.then ?_ satLater_frame rfl rfl
        refine Frame.then ?_ satLater_frame rfl rfl
        exact h2
      try clear_value x3
      extract_lets -merge -useContext -underBinder +onlyGivenNames v4
      refine Frame.then ?_ State.setDscCh_frame rfl rfl
      exact h3
  · exact Frame.refl

theorem formDecision_frame {a0 : Nat} : Frame (some [.DSC_CH_STATUS, .FAB_EVENT, .FAB_EV_COUNT]) [.dsc, .events, .fab, .later, .pwr, .sup] s (formDecision a0 s) := by
  unfold formDecision
  extract_lets -merge -useContext -underBinder +onlyGivenNames v1
  first | split | (clear_value *; split)
  · refine Frame.ite (fun _ => ?_) (fun _ => ?_)
    · extract_lets -merge -useContext -underBinder +onlyGivenNames x2
      refine Frame.via x2 ?_ fun h2 => ?_
      · unfold x2
        refine Frame.put ?_ (inRows_of (r := .DSC_CH_STATUS) rfl (by exact ⟨_, rfl⟩))
        refine Frame.then ?_ State.setDscCh_frame rfl rfl
        exact Frame.refl
      try clear_value x2
      extract_lets -merge -useContext -underBinder +onlyGivenNames x3
      refine Frame.via x3 ?_ fun h3 => ?_
      · unfold x3
        refine Frame.forAll _ ?_ fun i x hx => ?_
        · exact h2
        · refine Frame.then ?_ emit_frame rfl rfl
          exact hx
      try clear_value x3
      extract_lets -merge -useContext -underBinder +onlyGivenNames w4 x5
      refine Frame.via x5 ?_ fun h5 => ?_
      · unfold x5
        refine Frame.pwr ?_ rfl (by first | exact id | exact fun h => ⟨(by first | exact h.1 | exact sparseWf_sset h.1 | exact sparseWf_nil | exact sparseWf_filter h.1 | exact sparseWf_smap h.1 | exact sparseWf_sdrop h.1 | exact sparseWf_sset (sparseWf_sset h.1) | exact sparseWf_fold sparseWf_nil | (dsimp only; exact sparseWf_smap h.1)), (by first | exact h.2.1 | exact sparseWf_sset h.2.1 | exact sparseWf_nil | exact sparseWf_filter h.2.1 | exact sparseWf_smap h.2.1 | exact sparseWf_sdrop h.2.1 | exact sparseWf_sset (sparseWf_sset h.2.1) | exact sparseWf_fold sparseWf_nil | (dsimp only; exact sparseWf_smap h.2.1)), (by first | exact h.2.2.1 | exact sparseWf_sset h.2.2.1 | exact sparseWf_nil | exact sparseWf_filter h.2.2.1 | exact sparseWf_smap h.2.2.1 | exact sparseWf_sdrop h.2.2.1 | exact sparseWf_sset (sparseWf_sset h.2.2.1) | exact sparseWf_fold sparseWf_nil | (dsimp only; exact sparseWf_smap h.2.2.1)), (by first | exact h.2.2.2.1 | exact sparseWf_sset h.2.2.2.1 | exact sparseWf_nil | exact sparseWf_filter h.2.2.2.1 | exact sparseWf_smap h.2.2.2.1 | exact sparseWf_sdrop h.2.2.2.1 | exact sparseWf_sset (sparseWf_sset h.2.2.2.1) | exact sparseWf_fold sparseWf_nil | (dsimp only; exact sparseWf_smap h.2.2.2.1)), (by first | exact h.2.2.2.2 | exact sparseWf_sset h.2.2.2.2 | exact sparseWf_nil | exact sparseWf_filter h.2.2.2.2 | exact sparseWf_smap h.2.2.2.2 | exact sparseWf_sdrop h.2.2.2.2 | exact sparseWf_sset (sparseWf_sset h.2.2.2.2) | exact sparseWf_fold sparseWf_nil | (dsimp only; exact sparseWf_smap h.2.2.2.2))⟩)
        exact h3
      try clear_value x5
      refine Frame.later ?_ rfl (fun _ => trivial)
      exact h5
    · exact Frame.refl
  · exact Frame.refl

theorem loadDecision_frame {a0 : Nat} {a1 : Nat} {a2 : Word} {a3 : Word} {a4 : Word} : Frame (some [.DSC_CH_COUNT, .DSC_CH_COUNT2, .DSC_CH_EVENT, .DSC_CH_LAST_DEC, .DSC_CH_LAST_T_HI, .DSC_CH_LAST_T_LO, .DSC_CH_LAST_V_I, .DSC_CH_LAST_V_Q, .DSC_COUNT, .DSC_EVENT]) [.dsc, .events, .sup] s (loadDecision a0 a1 a2 a3 a4 s) := by
  unfold loadDecision
  extract_lets -merge -useContext -underBinder +onlyGivenNames x1
  refine Frame.via x1 ?_ fun h1 => ?_
  · unfold x1
    refine Frame.wr ?_ (inRows_of (r := .DSC_CH_LAST_V_Q) rfl (by exact ⟨_, rfl⟩))
    refine Frame.wr ?_ (inRows_of (r := .DSC_CH_LAST_V_I) rfl (by exact ⟨_, rfl⟩))
    refine Frame.wr ?_ (inRows_of (r := .DSC_CH_LAST_DEC) rfl (by exact ⟨_, rfl⟩))
    exact Frame.refl
  try clear_value x1
  extract_lets -merge -useContext -underBinder +onlyGivenNames x2
  refine Frame.via x2 ?_ fun h2 => ?_
  · unfold x2
    refine Frame.wr64 ?_ (inRows_of (r := .DSC_CH_LAST_T_LO) rfl (by exact ⟨_, rfl⟩)) (inRows_of (r := .DSC_CH_LAST_T_HI) rfl (by exact ⟨_, hiShift1 (by decide)⟩))
    exact h1
  try clear_value x2
  extract_lets -merge -useContext -underBinder +onlyGivenNames v3 x4
  refine Frame.via x4 ?_ fun h4 => ?_
  · unfold x4
    refine Frame.raise ?_ (inRows_of (r := .DSC_CH_EVENT) rfl (by exact ⟨_, rfl⟩)) rfl
    exact h2
  try clear_value x4
  extract_lets -merge -useContext -underBinder +onlyGivenNames x5
  refine Frame.via x5 ?_ fun h5 => ?_
  · unfold x5
    refine Frame.raiseIf ?_ (inRows_of (r := .DSC_CH_EVENT) rfl (by exact ⟨_, rfl⟩)) rfl
    exact h4
  try clear_value x5
  extract_lets -merge -useContext -underBinder +onlyGivenNames x6
  refine Frame.via x6 ?_ fun h6 => ?_
  · unfold x6
    refine Frame.raiseIf ?_ (inRows_of (r := .DSC_CH_EVENT) rfl (by exact ⟨_, rfl⟩)) rfl
    exact h5
  try clear_value x6
  extract_lets -merge -useContext -underBinder +onlyGivenNames x7
  refine Frame.via x7 ?_ fun h7 => ?_
  · unfold x7
    refine Frame.raiseIf ?_ (inRows_of (r := .DSC_EVENT) rfl (by exact rfl)) rfl
    exact h6
  try clear_value x7
  extract_lets -merge -useContext -underBinder +onlyGivenNames x8
  refine Frame.via x8 ?_ fun h8 => ?_
  · unfold x8
    refine Frame.raiseIf ?_ (inRows_of (r := .DSC_CH_EVENT) rfl (by exact ⟨_, rfl⟩)) rfl
    exact h7
  try clear_value x8
  extract_lets -merge -useContext -underBinder +onlyGivenNames x9
  refine Frame.via x9 ?_ fun h9 => ?_
  · unfold x9
    refine Frame.raiseIf ?_ (inRows_of (r := .DSC_CH_EVENT) rfl (by exact ⟨_, rfl⟩)) rfl
    exact h8
  try clear_value x9
  extract_lets -merge -useContext -underBinder +onlyGivenNames x10
  refine Frame.via x10 ?_ fun h10 => ?_
  · unfold x10
    refine Frame.count ?_ (inRows_of (r := .DSC_COUNT) rfl (by exact rfl))
    refine Frame.count ?_ (inRows_of (r := .DSC_CH_COUNT) rfl (by exact ⟨_, rfl⟩))
    exact h9
  try clear_value x10
  extract_lets -merge -useContext -underBinder +onlyGivenNames x11
  refine Frame.via x11 ?_ fun h11 => ?_
  · unfold x11
    refine Frame.ite (fun _ => ?_) (fun _ => ?_)
    · refine Frame.count ?_ (inRows_of (r := .DSC_CH_COUNT) rfl (by exact ⟨_, rfl⟩))
      exact h10
    · exact h10
  try clear_value x11
  extract_lets -merge -useContext -underBinder +onlyGivenNames x12
  refine Frame.via x12 ?_ fun h12 => ?_
  · unfold x12
    refine Frame.ite (fun _ => ?_) (fun _ => ?_)
    · refine Frame.count ?_ (inRows_of (r := .DSC_CH_COUNT2) rfl (by exact ⟨_, rfl⟩))
      exact h11
    · exact h11
  try clear_value x12
  extract_lets -merge -useContext -underBinder +onlyGivenNames v13 v14
  refine Frame.then ?_ State.setDscCh_frame rfl rfl
  exact h12

theorem closeWindow_frame {a0 : Nat} : Frame (some [.DSC_CH_STATUS]) [.dsc] s (closeWindow a0 s) := by
  unfold closeWindow
  refine Frame.put ?_ (inRows_of (r := .DSC_CH_STATUS) rfl (by exact ⟨_, rfl⟩))
  refine Frame.then ?_ State.setDscCh_frame rfl rfl
  exact Frame.refl

theorem breakWindow_frame {a0 : Nat} : Frame (some []) [.dsc, .later] s (breakWindow a0 s) := by
  unfold breakWindow
  extract_lets -merge -useContext -underBinder +onlyGivenNames w1 x2
  refine Frame.via x2 ?_ fun h2 => ?_
  · unfold x2
    refine Frame.then ?_ State.setDscCh_frame rfl rfl
    exact Frame.refl
  try clear_value x2
  refine Frame.later ?_ rfl (fun _ => trivial)
  exact h2

theorem openFalls_frame {a0 : Nat} : Frame (some [.DSC_CH_STATUS]) [] s (openFalls a0 s) := by
  unfold openFalls
  refine Frame.ite (fun _ => ?_) (fun _ => ?_)
  · exact Frame.refl
  · refine Frame.put ?_ (inRows_of (r := .DSC_CH_STATUS) rfl (by exact ⟨_, rfl⟩))
    exact Frame.refl

theorem dropWindows_frame  : Frame (some [.DSC_CH_EVENT, .DSC_CH_STATUS, .DSC_EVENT]) [.dsc, .events, .sup] s (dropWindows s) := by
  unfold dropWindows
  refine Frame.forAll _ ?_ fun i x hx => ?_
  · exact Frame.refl
  · extract_lets -merge -useContext -underBinder +onlyGivenNames x1
    refine Frame.via x1 ?_ fun h1 => ?_
    · unfold x1
      refine Frame.ite (fun _ => ?_) (fun _ => ?_)
      · refine Frame.then ?_ closeWindow_frame rfl rfl
        refine Frame.raise ?_ (inRows_of (r := .DSC_EVENT) rfl (by exact rfl)) rfl
        refine Frame.raise ?_ (inRows_of (r := .DSC_CH_EVENT) rfl (by exact ⟨_, rfl⟩)) rfl
        exact hx
      · exact hx
    try clear_value x1
    refine Frame.then ?_ State.setDscCh_frame rfl rfl
    exact h1

theorem rowShift2 {a b c d e : Nat} (h : a + e = b) : a + c + d + e = b + c + d := by omega

theorem rowShift3 {a b c d e f : Nat} (h : a + e = b + f) : a + c + d + e = b + c + d + f := by omega

/-- The words of a set lie in its rows. -/
theorem setWords_rows {r k : Nat} {q : Nat} (h : q ∈ setWords) : inRows (some [.DSC_SET_K_BASE, .DSC_SET_K_CFG, .DSC_SET_P_BASE, .DSC_SET_ES, .DSC_SET_W, .DSC_SET_C_I, .DSC_SET_C_Q]) (Reg.DSC_SET_K_BASE r k + q) := by
  have hq : ∀ q ∈ setWords, q = 0 ∨ q = 4 ∨ q = 8 ∨ q = 12 ∨ q = 16 ∨ q = 20 ∨ q = 24 ∨ q = 28 ∨ q = 32 ∨ q = 36 ∨ q = 40 ∨ q = 44 ∨ q = 48 ∨ q = 52 ∨ q = 56 ∨ q = 60 := by decide
  have h' := hq q h
  revert h'
  generalize q = i
  intro h'
  rcases h' with rfl | rfl | rfl | rfl | rfl | rfl | rfl | rfl | rfl | rfl | rfl | rfl | rfl | rfl | rfl | rfl
  · exact inRows_of (r := .DSC_SET_K_BASE) rfl ⟨r, k, rfl⟩
  · exact inRows_of (r := .DSC_SET_K_CFG) rfl ⟨r, k, rowShift2 (by decide)⟩
  · exact inRows_of (r := .DSC_SET_P_BASE) rfl ⟨r, k, rowShift2 (by decide)⟩
  · exact inRows_of (r := .DSC_SET_ES) rfl ⟨r, k, rowShift2 (by decide)⟩
  · exact inRows_of (r := .DSC_SET_W) rfl ⟨r, k, 0, rowShift3 (by decide)⟩
  · exact inRows_of (r := .DSC_SET_W) rfl ⟨r, k, 1, rowShift3 (by decide)⟩
  · exact inRows_of (r := .DSC_SET_W) rfl ⟨r, k, 2, rowShift3 (by decide)⟩
  · exact inRows_of (r := .DSC_SET_W) rfl ⟨r, k, 3, rowShift3 (by decide)⟩
  · exact inRows_of (r := .DSC_SET_C_I) rfl ⟨r, k, 0, rowShift3 (by decide)⟩
  · exact inRows_of (r := .DSC_SET_C_Q) rfl ⟨r, k, 0, rowShift3 (by decide)⟩
  · exact inRows_of (r := .DSC_SET_C_I) rfl ⟨r, k, 1, rowShift3 (by decide)⟩
  · exact inRows_of (r := .DSC_SET_C_Q) rfl ⟨r, k, 1, rowShift3 (by decide)⟩
  · exact inRows_of (r := .DSC_SET_C_I) rfl ⟨r, k, 2, rowShift3 (by decide)⟩
  · exact inRows_of (r := .DSC_SET_C_Q) rfl ⟨r, k, 2, rowShift3 (by decide)⟩
  · exact inRows_of (r := .DSC_SET_C_I) rfl ⟨r, k, 3, rowShift3 (by decide)⟩
  · exact inRows_of (r := .DSC_SET_C_Q) rfl ⟨r, k, 3, rowShift3 (by decide)⟩

theorem swapWords_rows {r k : Nat} {q : Nat × Word} (h : q ∈ swapWords) : inRows (some [.DSC_CH_EVENT, .DSC_CH_SWAP, .DSC_EVENT, .DSC_SET_C_I, .DSC_SET_C_Q, .DSC_SET_ES, .DSC_SET_K_CFG, .DSC_SET_W]) (Reg.DSC_SET_K_BASE r k + q.1) := by
  have hq : ∀ q ∈ swapWords, q.1 = 4 ∨ q.1 = 12 ∨ q.1 = 16 ∨ q.1 = 20 ∨ q.1 = 24 ∨ q.1 = 28 ∨ q.1 = 32 ∨ q.1 = 36 ∨ q.1 = 40 ∨ q.1 = 44 ∨ q.1 = 48 ∨ q.1 = 52 ∨ q.1 = 56 ∨ q.1 = 60 := by decide
  have h' := hq q h
  revert h'
  generalize q.1 = i
  intro h'
  rcases h' with rfl | rfl | rfl | rfl | rfl | rfl | rfl | rfl | rfl | rfl | rfl | rfl | rfl | rfl
  · exact inRows_of (r := .DSC_SET_K_CFG) rfl ⟨r, k, rowShift2 (by decide)⟩
  · exact inRows_of (r := .DSC_SET_ES) rfl ⟨r, k, rowShift2 (by decide)⟩
  · exact inRows_of (r := .DSC_SET_W) rfl ⟨r, k, 0, rowShift3 (by decide)⟩
  · exact inRows_of (r := .DSC_SET_W) rfl ⟨r, k, 1, rowShift3 (by decide)⟩
  · exact inRows_of (r := .DSC_SET_W) rfl ⟨r, k, 2, rowShift3 (by decide)⟩
  · exact inRows_of (r := .DSC_SET_W) rfl ⟨r, k, 3, rowShift3 (by decide)⟩
  · exact inRows_of (r := .DSC_SET_C_I) rfl ⟨r, k, 0, rowShift3 (by decide)⟩
  · exact inRows_of (r := .DSC_SET_C_Q) rfl ⟨r, k, 0, rowShift3 (by decide)⟩
  · exact inRows_of (r := .DSC_SET_C_I) rfl ⟨r, k, 1, rowShift3 (by decide)⟩
  · exact inRows_of (r := .DSC_SET_C_Q) rfl ⟨r, k, 1, rowShift3 (by decide)⟩
  · exact inRows_of (r := .DSC_SET_C_I) rfl ⟨r, k, 2, rowShift3 (by decide)⟩
  · exact inRows_of (r := .DSC_SET_C_Q) rfl ⟨r, k, 2, rowShift3 (by decide)⟩
  · exact inRows_of (r := .DSC_SET_C_I) rfl ⟨r, k, 3, rowShift3 (by decide)⟩
  · exact inRows_of (r := .DSC_SET_C_Q) rfl ⟨r, k, 3, rowShift3 (by decide)⟩

theorem swapSet_frame {a0 a1 : Nat} : Frame (some [.DSC_CH_EVENT, .DSC_CH_SWAP, .DSC_EVENT, .DSC_SET_C_I, .DSC_SET_C_Q, .DSC_SET_ES, .DSC_SET_K_CFG, .DSC_SET_W]) [.events, .sup] s (swapSet a0 a1 s) := by
  unfold swapSet
  extract_lets act stg en two x
  have hx : Frame (some [.DSC_CH_EVENT, .DSC_CH_SWAP, .DSC_EVENT, .DSC_SET_C_I, .DSC_SET_C_Q, .DSC_SET_ES, .DSC_SET_K_CFG, .DSC_SET_W]) [.events, .sup] s x := Frame.refl.drop (inRows_of (r := .DSC_CH_SWAP) rfl (by exact ⟨_, rfl⟩))
  clear_value x
  split
  · refine Frame.raise ?_ (inRows_of (r := .DSC_CH_EVENT) rfl (by exact ⟨_, rfl⟩)) rfl
    exact Frame.forMem swapWords hx fun q hq y hy => hy.wr (swapWords_rows hq)
  · refine Frame.raise ?_ (inRows_of (r := .DSC_EVENT) rfl (by exact rfl)) rfl
    exact hx.raise (inRows_of (r := .DSC_CH_EVENT) rfl (by exact ⟨_, rfl⟩)) rfl

theorem swapSets_frame {a0 : Nat} : Frame (some [.DSC_CH_EVENT, .DSC_CH_SWAP, .DSC_EVENT, .DSC_SET_C_I, .DSC_SET_C_Q, .DSC_SET_ES, .DSC_SET_K_CFG, .DSC_SET_W]) [.events, .sup] s (swapSets a0 s) := by
  unfold swapSets
  refine Frame.forN _ ?_ fun i x hx => ?_
  · exact Frame.refl
  · extract_lets -merge -useContext -underBinder +onlyGivenNames v1
    refine Frame.ite (fun _ => ?_) (fun _ => ?_)
    · refine Frame.then ?_ swapSet_frame rfl rfl
      exact hx
    · exact hx

theorem startDiscr_frame : Frame (some [.DSC_CH_LAST_DEC, .DSC_CH_LAST_V_I, .DSC_CH_LAST_V_Q, .DSC_SET_C_I, .DSC_SET_C_Q, .DSC_SET_ES, .DSC_SET_K_BASE, .DSC_SET_K_CFG, .DSC_SET_P_BASE, .DSC_SET_W]) [.dsc] s (startDiscr s) := by
  unfold startDiscr
  refine Frame.forN _ Frame.refl fun r x hx => ?_
  extract_lets y z
  have hy : Frame (some [.DSC_CH_LAST_DEC, .DSC_CH_LAST_V_I, .DSC_CH_LAST_V_Q, .DSC_SET_C_I, .DSC_SET_C_Q, .DSC_SET_ES, .DSC_SET_K_BASE, .DSC_SET_K_CFG, .DSC_SET_P_BASE, .DSC_SET_W]) [.dsc] s y := Frame.forN _ hx fun k u hu =>
    Frame.forMem setWords hu fun i hi w hw => hw.wr (inRows_le (by rfl) (setWords_rows hi))
  clear_value y
  have hz : Frame (some [.DSC_CH_LAST_DEC, .DSC_CH_LAST_V_I, .DSC_CH_LAST_V_Q, .DSC_SET_C_I, .DSC_SET_C_Q, .DSC_SET_ES, .DSC_SET_K_BASE, .DSC_SET_K_CFG, .DSC_SET_P_BASE, .DSC_SET_W]) [.dsc] s z := ((hy.wr (inRows_of (r := .DSC_CH_LAST_DEC) rfl (by exact ⟨_, rfl⟩))).wr
    (inRows_of (r := .DSC_CH_LAST_V_I) rfl (by exact ⟨_, rfl⟩))).wr (inRows_of (r := .DSC_CH_LAST_V_Q) rfl (by exact ⟨_, rfl⟩))
  clear_value z
  exact hz.then State.setDscCh_frame rfl rfl

end Sys2Proof.Machine
end

