-- ==== Sys2Proof/Laws/Frame/Scout.lean ====
section
/-! SUPPORT. Laws/Frame/Scout.lean: what each operation of Machine/Scout.lean can change, and that it keeps a sound state sound. -/

set_option Elab.async false

namespace Sys2Proof.Machine

variable {R : Option (List RegRow)} {P : List Part} {s t : State}

theorem scoutStep_frame {a0 : Nat} : Frame (some [.SPN_STATUS]) [.spn] s (scoutStep a0 s) := by
  unfold scoutStep
  extract_lets -merge -useContext -underBinder +onlyGivenNames v1
  refine Frame.ite (fun _ => ?_) (fun _ => ?_)
  · extract_lets -merge -useContext -underBinder +onlyGivenNames w2 v3 x4
    refine Frame.via x4 ?_ fun h4 => ?_
    · unfold x4
      refine Frame.then ?_ State.setSpindle_frame rfl rfl
      exact Frame.refl
    try clear_value x4
    refine Frame.put ?_ (inRows_of (r := .SPN_STATUS) rfl (by exact ⟨_, rfl⟩))
    refine Frame.put ?_ (inRows_of (r := .SPN_STATUS) rfl (by exact ⟨_, rfl⟩))
    exact h4
  · exact Frame.refl

theorem execScoutStep_frame {a0 : Fin 64} : ∃ t, execScoutStep a0 s = .next t ∧ Frame (some [.SPN_STATUS]) [.spn] s t := by
  refine ⟨_, rfl, ?_⟩
  refine Frame.then ?_ scoutStep_frame rfl rfl
  exact Frame.refl

end Sys2Proof.Machine
end

