-- ==== Sys2Proof/Laws/Frame/FrontOps.lean ====
section
/-! SUPPORT. Laws/Frame/FrontOps.lean: what each operation of Machine/FrontOps.lean can change, and that it keeps a sound state sound. -/

set_option Elab.async false

namespace Sys2Proof.Machine

variable {R : Option (List RegRow)} {P : List Part} {s t : State}

theorem State.setAcq_frame {a0 : Nat} {a1 : Acq} : Frame (some []) [.rdo] s (State.setAcq s a0 a1) := by
  unfold State.setAcq
  refine Frame.rdo ?_ rfl (fun h => ⟨(by first | exact h.1 | exact sparseWf_sset h.1 | exact sparseWf_nil | exact sparseWf_filter h.1 | exact sparseWf_smap h.1 | exact sparseWf_sdrop h.1 | exact sparseWf_sset (sparseWf_sset h.1) | exact sparseWf_fold sparseWf_nil | (dsimp only; exact sparseWf_smap h.1)), (by first | exact h.2.1 | exact sparseWf_sset h.2.1 | exact sparseWf_nil | exact sparseWf_filter h.2.1 | exact sparseWf_smap h.2.1 | exact sparseWf_sdrop h.2.1 | exact sparseWf_sset (sparseWf_sset h.2.1) | exact sparseWf_fold sparseWf_nil | (dsimp only; exact sparseWf_smap h.2.1)), (by first | exact h.2.2 | exact sparseWf_sset h.2.2 | exact sparseWf_nil | exact sparseWf_filter h.2.2 | exact sparseWf_smap h.2.2 | exact sparseWf_sdrop h.2.2 | exact sparseWf_sset (sparseWf_sset h.2.2) | exact sparseWf_fold sparseWf_nil | (dsimp only; exact sparseWf_smap h.2.2))⟩)
  exact Frame.refl

theorem State.setRdoCh_frame {a0 : Nat} {a1 : RdoCh} : Frame (some []) [.rdo] s (State.setRdoCh s a0 a1) := by
  unfold State.setRdoCh
  refine Frame.rdo ?_ rfl (fun h => ⟨(by first | exact h.1 | exact sparseWf_sset h.1 | exact sparseWf_nil | exact sparseWf_filter h.1 | exact sparseWf_smap h.1 | exact sparseWf_sdrop h.1 | exact sparseWf_sset (sparseWf_sset h.1) | exact sparseWf_fold sparseWf_nil | (dsimp only; exact sparseWf_smap h.1)), (by first | exact h.2.1 | exact sparseWf_sset h.2.1 | exact sparseWf_nil | exact sparseWf_filter h.2.1 | exact sparseWf_smap h.2.1 | exact sparseWf_sdrop h.2.1 | exact sparseWf_sset (sparseWf_sset h.2.1) | exact sparseWf_fold sparseWf_nil | (dsimp only; exact sparseWf_smap h.2.1)), (by first | exact h.2.2 | exact sparseWf_sset h.2.2 | exact sparseWf_nil | exact sparseWf_filter h.2.2 | exact sparseWf_smap h.2.2 | exact sparseWf_sdrop h.2.2 | exact sparseWf_sset (sparseWf_sset h.2.2) | exact sparseWf_fold sparseWf_nil | (dsimp only; exact sparseWf_smap h.2.2))⟩)
  exact Frame.refl

theorem scheduleChange_frame {a0 : FrontChange} : Frame (some []) [.rdo] s (scheduleChange a0 s) := by
  unfold scheduleChange
  refine Frame.rdo ?_ rfl (fun h => ⟨(by first | exact h.1 | exact sparseWf_sset h.1 | exact sparseWf_nil | exact sparseWf_filter h.1 | exact sparseWf_smap h.1 | exact sparseWf_sdrop h.1 | exact sparseWf_sset (sparseWf_sset h.1) | exact sparseWf_fold sparseWf_nil | (dsimp only; exact sparseWf_smap h.1)), (by first | exact h.2.1 | exact sparseWf_sset h.2.1 | exact sparseWf_nil | exact sparseWf_filter h.2.1 | exact sparseWf_smap h.2.1 | exact sparseWf_sdrop h.2.1 | exact sparseWf_sset (sparseWf_sset h.2.1) | exact sparseWf_fold sparseWf_nil | (dsimp only; exact sparseWf_smap h.2.1)), (by first | exact h.2.2 | exact sparseWf_sset h.2.2 | exact sparseWf_nil | exact sparseWf_filter h.2.2 | exact sparseWf_smap h.2.2 | exact sparseWf_sdrop h.2.2 | exact sparseWf_sset (sparseWf_sset h.2.2) | exact sparseWf_fold sparseWf_nil | (dsimp only; exact sparseWf_smap h.2.2))⟩)
  exact Frame.refl

theorem schedulePower_frame {a0 : Nat} {a1 : FrontChange} : Frame (some []) [.rdo] s (schedulePower a0 a1 s) := by
  unfold schedulePower
  refine Frame.then ?_ scheduleChange_frame rfl rfl
  refine Frame.rdo ?_ rfl (fun h => ⟨(by first | exact h.1 | exact sparseWf_sset h.1 | exact sparseWf_nil | exact sparseWf_filter h.1 | exact sparseWf_smap h.1 | exact sparseWf_sdrop h.1 | exact sparseWf_sset (sparseWf_sset h.1) | exact sparseWf_fold sparseWf_nil | (dsimp only; exact sparseWf_smap h.1)), (by first | exact h.2.1 | exact sparseWf_sset h.2.1 | exact sparseWf_nil | exact sparseWf_filter h.2.1 | exact sparseWf_smap h.2.1 | exact sparseWf_sdrop h.2.1 | exact sparseWf_sset (sparseWf_sset h.2.1) | exact sparseWf_fold sparseWf_nil | (dsimp only; exact sparseWf_smap h.2.1)), (by first | exact h.2.2 | exact sparseWf_sset h.2.2 | exact sparseWf_nil | exact sparseWf_filter h.2.2 | exact sparseWf_smap h.2.2 | exact sparseWf_sdrop h.2.2 | exact sparseWf_sset (sparseWf_sset h.2.2) | exact sparseWf_fold sparseWf_nil | (dsimp only; exact sparseWf_smap h.2.2))⟩)
  exact Frame.refl

theorem markTone_frame {a0 : Nat} {a1 : Nat} {a2 : Nat} : Frame (some []) [.rdo] s (markTone a0 a1 a2 s) := by
  unfold markTone
  extract_lets -merge -useContext -underBinder +onlyGivenNames v1 v2 v3 v4
  refine Frame.then ?_ State.setArrPair_frame rfl rfl
  exact Frame.refl

theorem markTones_frame {a0 : Nat} : Frame (some []) [.rdo] s (markTones a0 s) := by
  unfold markTones
  refine Frame.ite (fun _ => ?_) (fun _ => ?_)
  · refine Frame.forAll _ ?_ fun i x hx => ?_
    · exact Frame.refl
    · refine Frame.then ?_ markTone_frame rfl rfl
      exact hx
  · exact Frame.refl

theorem markRaw_frame {a0 : Nat} {a1 : Nat} : Frame (some []) [.rdo] s (markRaw a0 a1 s) := by
  unfold markRaw
  refine Frame.then ?_ markTones_frame rfl rfl
  refine Frame.then ?_ State.setAcq_frame rfl rfl
  exact Frame.refl

theorem markChannel_frame {a0 : Nat} : Frame (some []) [.rdo] s (markChannel a0 s) := by
  unfold markChannel
  refine Frame.then ?_ State.setRdoCh_frame rfl rfl
  exact Frame.refl

theorem retuneChannel_frame {a0 : Nat} {a1 : Nat} : Frame (some [.RDO_CH_APPLIED_FTW_HI, .RDO_CH_APPLIED_FTW_LO]) [.rdo] s (retuneChannel a0 a1 s) := by
  unfold retuneChannel
  extract_lets -merge -useContext -underBinder +onlyGivenNames v1 v2
  refine Frame.wr64 ?_ (inRows_of (r := .RDO_CH_APPLIED_FTW_LO) rfl (by exact ⟨_, rfl⟩)) (inRows_of (r := .RDO_CH_APPLIED_FTW_HI) rfl (by exact ⟨_, hiShift1 (by decide)⟩))
  refine Frame.then ?_ State.setRdoCh_frame rfl rfl
  exact Frame.refl

theorem applyChange_frame {a0 : FrontChange} : Frame (some [.RDO_ACQ_STATUS, .RDO_CH_APPLIED_FTW_HI, .RDO_CH_APPLIED_FTW_LO, .RDO_STATUS]) [.rdo] s (applyChange a0 s) := by
  unfold applyChange
  first | split | (clear_value *; split)
  · refine Frame.ite (fun _ => ?_) (fun _ => ?_)
    · exact Frame.refl
    · refine Frame.then ?_ markRaw_frame rfl rfl
      refine Frame.put ?_ (inRows_of (r := .RDO_ACQ_STATUS) rfl (by exact ⟨_, rfl⟩))
      exact Frame.refl
  · refine Frame.ite (fun _ => ?_) (fun _ => ?_)
    · exact Frame.refl
    · refine Frame.then ?_ markChannel_frame rfl rfl
      refine Frame.then ?_ retuneChannel_frame rfl rfl
      exact Frame.refl
  · refine Frame.ite (fun _ => ?_) (fun _ => ?_)
    · exact Frame.refl
    · refine Frame.then ?_ markChannel_frame rfl rfl
      refine Frame.then ?_ State.setRdoCh_frame rfl rfl
      exact Frame.refl
  · refine Frame.then ?_ State.setRdoCh_frame rfl rfl
    exact Frame.refl
  · refine Frame.then ?_ State.setRdoCh_frame rfl rfl
    exact Frame.refl
  · refine Frame.forN _ ?_ fun i x hx => ?_
    · refine Frame.put ?_ (inRows_of (r := .RDO_STATUS) rfl (by exact rfl))
      exact Frame.refl
    · refine Frame.then ?_ markRaw_frame rfl rfl
      exact hx
  · refine Frame.put ?_ (inRows_of (r := .RDO_ACQ_STATUS) rfl (by exact ⟨_, rfl⟩))
    refine Frame.then ?_ State.setAcq_frame rfl rfl
    exact Frame.refl
  · refine Frame.then ?_ markTones_frame rfl rfl
    refine Frame.put ?_ (inRows_of (r := .RDO_ACQ_STATUS) rfl (by exact ⟨_, rfl⟩))
    refine Frame.then ?_ State.setAcq_frame rfl rfl
    exact Frame.refl

theorem followTune_frame {a0 : Nat} {a1 : Nat} : Frame (some []) [.rdo] s (followTune a0 a1 s) := by
  unfold followTune
  refine Frame.ite (fun _ => ?_) (fun _ => ?_)
  · refine Frame.then ?_ scheduleChange_frame rfl rfl
    exact Frame.refl
  · exact Frame.refl

theorem startReadout_frame  : Frame (some []) [.rdo] s (startReadout s) := by
  unfold startReadout
  refine Frame.forN _ ?_ fun i x hx => ?_
  · exact Frame.refl
  · extract_lets -merge -useContext -underBinder +onlyGivenNames v1
    refine Frame.then ?_ scheduleChange_frame rfl rfl
    exact hx

theorem deliverSample_frame {a0 : Nat} {a1 : Nat} {a2 : List (List Nat)} : Frame (some [.RDO_ACQ_EVENT, .RDO_CH_STATUS, .RDO_EVENT]) [.dsc, .events, .later, .rdo, .sup] s (deliverSample a0 a1 a2 s) := by
  unfold deliverSample
  first | split | (clear_value *; split)
  · extract_lets -merge -useContext -underBinder +onlyGivenNames x1
    refine Frame.via x1 ?_ fun h1 => ?_
    · unfold x1
      refine Frame.put ?_ (inRows_of (r := .RDO_CH_STATUS) rfl (by exact ⟨_, rfl⟩))
      exact Frame.refl
    try clear_value x1
    extract_lets -merge -useContext -underBinder +onlyGivenNames v2 x3
    refine Frame.via x3 ?_ fun h3 => ?_
    · unfold x3
      refine Frame.ite (fun _ => ?_) (fun _ => ?_)
      · refine Frame.raise ?_ (inRows_of (r := .RDO_EVENT) rfl (by exact rfl)) rfl
        refine Frame.raise ?_ (inRows_of (r := .RDO_ACQ_EVENT) rfl (by exact ⟨_, rfl⟩)) rfl
        refine Frame.count ?_ (inRows_of (r := .RDO_CH_STATUS) rfl (by exact ⟨_, rfl⟩))
        exact h1
      · exact h1
    try clear_value x3
    extract_lets -merge -useContext -underBinder +onlyGivenNames w4 x5
    refine Frame.via x5 ?_ fun h5 => ?_
    · unfold x5
      refine Frame.then ?_ State.setDscCh_frame rfl rfl
      exact h3
    try clear_value x5
    extract_lets -merge -useContext -underBinder +onlyGivenNames w6 x7
    refine Frame.via x7 ?_ fun h7 => ?_
    · unfold x7
      refine Frame.then ?_ State.setRdoCh_frame rfl rfl
      exact h5
    try clear_value x7
    refine Frame.ite (fun _ => ?_) (fun _ => ?_)
    · refine Frame.later ?_ rfl (fun _ => trivial)
      exact h7
    · exact h7

theorem arrayGroup_frame {a0 : Nat} {a1 : Nat} : Frame (some []) [.rdo] s (arrayGroup a0 a1 s) := by
  unfold arrayGroup
  extract_lets -merge -useContext -underBinder +onlyGivenNames v1 v2 v3 v4 v5 v6 v7 v8
  refine Frame.then ?_ State.setArrPair_frame rfl rfl
  exact Frame.refl

theorem combFollows_frame {a0 : Nat} : Frame (some []) [.rdo] s (combFollows a0 s) := by
  unfold combFollows
  extract_lets -merge -useContext -underBinder +onlyGivenNames v1 v2 v3
  refine Frame.ite (fun _ => ?_) (fun _ => ?_)
  · exact Frame.refl
  · refine Frame.then ?_ State.setArrPair_frame rfl rfl
    exact Frame.refl

end Sys2Proof.Machine
end

