-- ==== Sys2Proof/Laws/Frame/BobOps.lean ====
section
/-! SUPPORT. Laws/Frame/BobOps.lean: what each operation of Machine/BobOps.lean can change, and that it keeps a sound state sound. -/

set_option Elab.async false

namespace Sys2Proof.Machine

variable {R : Option (List RegRow)} {P : List Part} {s t : State}

theorem State.setBob_frame {a0 : Nat} {a1 : Bob} : Frame (some []) [.bob] s (State.setBob s a0 a1) := by
  unfold State.setBob
  refine Frame.bob ?_ rfl (fun h => (by first | exact h | exact sparseWf_sset h | exact sparseWf_nil | exact sparseWf_filter h | exact sparseWf_smap h | exact sparseWf_sdrop h | exact sparseWf_sset (sparseWf_sset h) | exact sparseWf_fold sparseWf_nil | (dsimp only; exact sparseWf_smap h)))
  exact Frame.refl

theorem setHist_frame {a0 : Nat} {a1 : Nat} : Frame (some [.BOB_STATUS]) [.bob] s (setHist a0 a1 s) := by
  unfold setHist
  refine Frame.put ?_ (inRows_of (r := .BOB_STATUS) rfl (by exact ⟨_, rfl⟩))
  refine Frame.then ?_ State.setBob_frame rfl rfl
  exact Frame.refl

theorem enterBob_frame {a0 : Nat} {a1 : Nat} : Frame (some [.BOB_STATUS]) [] s (enterBob a0 a1 s) := by
  unfold enterBob
  refine Frame.put ?_ (inRows_of (r := .BOB_STATUS) rfl (by exact ⟨_, rfl⟩))
  exact Frame.refl

theorem passHistory_frame {a0 : Nat} : Frame (some [.BOB_SPILLED_HI, .BOB_SPILLED_LO]) [.bob] s (passHistory a0 s) := by
  unfold passHistory
  extract_lets -merge -useContext -underBinder +onlyGivenNames v1
  refine Frame.ite (fun _ => ?_) (fun _ => ?_)
  · refine Frame.then ?_ State.setBob_frame rfl rfl
    refine Frame.wr64 ?_ (inRows_of (r := .BOB_SPILLED_LO) rfl (by exact ⟨_, rfl⟩)) (inRows_of (r := .BOB_SPILLED_HI) rfl (by exact ⟨_, hiShift1 (by decide)⟩))
    exact Frame.refl
  · exact Frame.refl

theorem dropRecords_frame {a0 : Nat} : Frame (some []) [.bob] s (dropRecords a0 s) := by
  unfold dropRecords
  extract_lets -merge -useContext -underBinder +onlyGivenNames v1
  refine Frame.then ?_ State.setBob_frame rfl rfl
  exact Frame.refl

theorem bobWaits_frame {a0 : Nat} {a1 : Bool} {a2 : Bool} : Frame (some [.BOB_COUNT2, .BOB_SPILLED_HI, .BOB_SPILLED_LO, .BOB_STATUS]) [.bob] s (bobWaits a0 a1 a2 s) := by
  unfold bobWaits
  extract_lets -merge -useContext -underBinder +onlyGivenNames v1 x2
  refine Frame.via x2 ?_ fun h2 => ?_
  · unfold x2
    refine Frame.ite (fun _ => ?_) (fun _ => ?_)
    · refine Frame.count ?_ (inRows_of (r := .BOB_COUNT2) rfl (by exact ⟨_, rfl⟩))
      exact Frame.refl
    · exact Frame.refl
  try clear_value x2
  extract_lets -merge -useContext -underBinder +onlyGivenNames x3
  refine Frame.via x3 ?_ fun h3 => ?_
  · unfold x3
    refine Frame.then ?_ dropRecords_frame rfl rfl
    refine Frame.then ?_ State.setBob_frame rfl rfl
    exact h2
  try clear_value x3
  extract_lets -merge -useContext -underBinder +onlyGivenNames x4
  refine Frame.via x4 ?_ fun h4 => ?_
  · unfold x4
    refine Frame.put ?_ (inRows_of (r := .BOB_STATUS) rfl (by exact ⟨_, rfl⟩))
    refine Frame.then ?_ setHist_frame rfl rfl
    refine Frame.then ?_ enterBob_frame rfl rfl
    exact h3
  try clear_value x4
  refine Frame.then ?_ passHistory_frame rfl rfl
  refine Frame.put ?_ (inRows_of (r := .BOB_STATUS) rfl (by exact ⟨_, rfl⟩))
  exact h4

theorem tidyBob_frame {a0 : Nat} : Frame (some [.BOB_COUNT2, .BOB_RD_HI, .BOB_RD_LO, .BOB_SPILLED_HI, .BOB_SPILLED_LO, .BOB_STATUS]) [.bob] s (tidyBob a0 s) := by
  unfold tidyBob
  refine Frame.ite (fun _ => ?_) (fun _ => ?_)
  · extract_lets -merge -useContext -underBinder +onlyGivenNames x1
    refine Frame.via x1 ?_ fun h1 => ?_
    · unfold x1
      refine Frame.then ?_ passHistory_frame rfl rfl
      exact Frame.refl
    try clear_value x1
    refine Frame.ite (fun _ => ?_) (fun _ => ?_)
    · refine Frame.wr64 ?_ (inRows_of (r := .BOB_RD_LO) rfl (by exact ⟨_, rfl⟩)) (inRows_of (r := .BOB_RD_HI) rfl (by exact ⟨_, hiShift1 (by decide)⟩))
      exact h1
    · refine Frame.ite (fun _ => ?_) (fun _ => ?_)
      · refine Frame.then ?_ bobWaits_frame rfl rfl
        exact h1
      · exact h1
  · exact Frame.refl

theorem armBob_frame {a0 : Nat} : Frame (some [.BOB_COUNT2, .BOB_RD_HI, .BOB_RD_LO, .BOB_SPILLED_HI, .BOB_SPILLED_LO, .BOB_STATUS]) [.bob] s (armBob a0 s) := by
  unfold armBob
  extract_lets -merge -useContext -underBinder +onlyGivenNames v1 v2 x3
  refine Frame.via x3 ?_ fun h3 => ?_
  · unfold x3
    refine Frame.then ?_ State.setBob_frame rfl rfl
    exact Frame.refl
  try clear_value x3
  extract_lets -merge -useContext -underBinder +onlyGivenNames x4
  refine Frame.via x4 ?_ fun h4 => ?_
  · unfold x4
    refine Frame.put ?_ (inRows_of (r := .BOB_STATUS) rfl (by exact ⟨_, rfl⟩))
    refine Frame.then ?_ enterBob_frame rfl rfl
    exact h3
  try clear_value x4
  refine Frame.then ?_ tidyBob_frame rfl rfl
  refine Frame.put ?_ (inRows_of (r := .BOB_STATUS) rfl (by exact ⟨_, rfl⟩))
  exact h4

theorem bobArm_frame {a0 : Nat} : Frame (some [.BOB_COUNT2, .BOB_RD_HI, .BOB_RD_LO, .BOB_SPILLED_HI, .BOB_SPILLED_LO, .BOB_STATUS]) [.bob] s (bobArm a0 s) := by
  unfold bobArm
  refine Frame.ite (fun _ => ?_) (fun _ => ?_)
  · extract_lets -merge -useContext -underBinder +onlyGivenNames v1
    refine Frame.then ?_ armBob_frame rfl rfl
    refine Frame.then ?_ setHist_frame rfl rfl
    refine Frame.then ?_ State.setBob_frame rfl rfl
    exact Frame.refl
  · exact Frame.refl

theorem markTrigger_frame {a0 : Nat} {a1 : Nat} {a2 : Nat} : Frame (some []) [.bob] s (markTrigger a0 a1 a2 s) := by
  unfold markTrigger
  extract_lets -merge -useContext -underBinder +onlyGivenNames v1
  refine Frame.ite (fun _ => ?_) (fun _ => ?_)
  · refine Frame.then ?_ State.setBob_frame rfl rfl
    exact Frame.refl
  · exact Frame.refl

theorem bobStrand_frame {a0 : Nat} : Frame (some []) [.bob] s (bobStrand a0 s) := by
  unfold bobStrand
  refine Frame.forN _ ?_ fun i x hx => ?_
  · exact Frame.refl
  · refine Frame.ite (fun _ => ?_) (fun _ => ?_)
    · refine Frame.then ?_ markTrigger_frame rfl rfl
      exact hx
    · exact hx

theorem bobWindow_frame {a0 : Nat} {a1 : Nat} : Frame (some []) [.bob] s (bobWindow a0 a1 s) := by
  unfold bobWindow
  refine Frame.forN _ ?_ fun i x hx => ?_
  · exact Frame.refl
  · refine Frame.forN _ ?_ fun i x hx => ?_
    · exact hx
    · refine Frame.ite (fun _ => ?_) (fun _ => ?_)
      · extract_lets -merge -useContext -underBinder +onlyGivenNames v1
        refine Frame.then ?_ State.setBob_frame rfl rfl
        exact hx
      · exact hx

theorem useItem_frame {a0 : Nat} {a1 : BobItem} {a2 : Nat} : Frame (some []) [.bob] s (useItem a0 a1 a2 s) := by
  unfold useItem
  extract_lets -merge -useContext -underBinder +onlyGivenNames v1 v2
  refine Frame.then ?_ State.setBob_frame rfl rfl
  exact Frame.refl

theorem writeItem_frame {a0 : Nat} {a1 : BobItem} : Frame (some [.BOB_WR_HI, .BOB_WR_LO]) [.bob, .sram] s (writeItem a0 a1 s) := by
  unfold writeItem
  extract_lets -merge -useContext -underBinder +onlyGivenNames v1 x2
  refine Frame.via x2 ?_ fun h2 => ?_
  · unfold x2
    refine Frame.forAll _ ?_ fun i x hx => ?_
    · exact Frame.refl
    · refine Frame.putSram ?_ rfl
      exact hx
  try clear_value x2
  extract_lets -merge -useContext -underBinder +onlyGivenNames v3 x4
  refine Frame.via x4 ?_ fun h4 => ?_
  · unfold x4
    refine Frame.then ?_ State.setBob_frame rfl rfl
    exact h2
  try clear_value x4
  refine Frame.wr64 ?_ (inRows_of (r := .BOB_WR_LO) rfl (by exact ⟨_, rfl⟩)) (inRows_of (r := .BOB_WR_HI) rfl (by exact ⟨_, hiShift1 (by decide)⟩))
  exact h4

theorem keepHistory_frame {a0 : Nat} {a1 : BobItem} : Frame (some [.BOB_STATUS, .BOB_WR_HI, .BOB_WR_LO]) [.bob, .sram] s (keepHistory a0 a1 s) := by
  unfold keepHistory
  extract_lets -merge -useContext -underBinder +onlyGivenNames x1
  refine Frame.via x1 ?_ fun h1 => ?_
  · unfold x1
    refine Frame.then ?_ writeItem_frame rfl rfl
    exact Frame.refl
  try clear_value x1
  refine Frame.then ?_ setHist_frame rfl rfl
  exact h1

theorem endCapture_frame {a0 : Nat} {a1 : Nat} {a2 : Nat} {a3 : Nat} {a4 : Nat} {a5 : Bool} : Frame (some [.BOB_EVENT, .BOB_STATUS]) [.bob, .events, .sup] s (endCapture a0 a1 a2 a3 a4 a5 s) := by
  unfold endCapture
  extract_lets -merge -useContext -underBinder +onlyGivenNames v1
  first | split | (clear_value *; split)
  · exact Frame.refl
  · extract_lets -merge -useContext -underBinder +onlyGivenNames v2 v3 v4 v5 x6
    refine Frame.via x6 ?_ fun h6 => ?_
    · unfold x6
      refine Frame.then ?_ State.setBob_frame rfl rfl
      exact Frame.refl
    try clear_value x6
    extract_lets -merge -useContext -underBinder +onlyGivenNames x7
    refine Frame.via x7 ?_ fun h7 => ?_
    · unfold x7
      refine Frame.put ?_ (inRows_of (r := .BOB_STATUS) rfl (by exact ⟨_, rfl⟩))
      refine Frame.put ?_ (inRows_of (r := .BOB_STATUS) rfl (by exact ⟨_, rfl⟩))
      exact h6
    try clear_value x7
    refine Frame.raiseIf ?_ (inRows_of (r := .BOB_EVENT) rfl (by exact ⟨_, rfl⟩)) rfl
    exact h7

theorem captureItem_frame {a0 : Nat} {a1 : BobItem} : Frame (some [.BOB_EVENT, .BOB_STATUS, .BOB_WR_HI, .BOB_WR_LO]) [.bob, .events, .sram, .sup] s (captureItem a0 a1 s) := by
  unfold captureItem
  first | split | (clear_value *; split)
  · exact Frame.refl
  · refine Frame.ite (fun _ => ?_) (fun _ => ?_)
    · refine Frame.then ?_ endCapture_frame rfl rfl
      exact Frame.refl
    · extract_lets -merge -useContext -underBinder +onlyGivenNames v1 v2 x3
      refine Frame.via x3 ?_ fun h3 => ?_
      · unfold x3
        refine Frame.then ?_ writeItem_frame rfl rfl
        exact Frame.refl
      try clear_value x3
      extract_lets -merge -useContext -underBinder +onlyGivenNames v4 x5
      refine Frame.via x5 ?_ fun h5 => ?_
      · unfold x5
        refine Frame.then ?_ State.setBob_frame rfl rfl
        exact h3
      try clear_value x5
      extract_lets -merge -useContext -underBinder +onlyGivenNames x6
      refine Frame.via x6 ?_ fun h6 => ?_
      · unfold x6
        refine Frame.raiseIf ?_ (inRows_of (r := .BOB_EVENT) rfl (by exact ⟨_, rfl⟩)) rfl
        exact h5
      try clear_value x6
      extract_lets -merge -useContext -underBinder +onlyGivenNames v7 v8
      refine Frame.ite (fun _ => ?_) (fun _ => ?_)
      · refine Frame.then ?_ endCapture_frame rfl rfl
        exact h6
      · refine Frame.ite (fun _ => ?_) (fun _ => ?_)
        · refine Frame.then ?_ endCapture_frame rfl rfl
          exact h6
        · refine Frame.ite (fun _ => ?_) (fun _ => ?_)
          · refine Frame.then ?_ endCapture_frame rfl rfl
            exact h6
          · exact h6

theorem busyTrigger_frame {a0 : Nat} {a1 : BobItem} {a2 : Nat} {a3 : BobCap} : Frame (some [.BOB_COUNT2, .BOB_EVENT, .BOB_STATUS]) [.bob, .events, .sup] s (busyTrigger a0 a1 a2 a3 s) := by
  unfold busyTrigger
  extract_lets -merge -useContext -underBinder +onlyGivenNames x1
  refine Frame.via x1 ?_ fun h1 => ?_
  · unfold x1
    refine Frame.count ?_ (inRows_of (r := .BOB_COUNT2) rfl (by exact ⟨_, rfl⟩))
    refine Frame.raise ?_ (inRows_of (r := .BOB_EVENT) rfl (by exact ⟨_, rfl⟩)) rfl
    exact Frame.refl
  try clear_value x1
  extract_lets -merge -useContext -underBinder +onlyGivenNames v2
  first | split | (clear_value *; split)
  · refine Frame.ite (fun _ => ?_) (fun _ => ?_)
    · refine Frame.count ?_ (inRows_of (r := .BOB_COUNT2) rfl (by exact ⟨_, rfl⟩))
      exact h1
    · refine Frame.put ?_ (inRows_of (r := .BOB_STATUS) rfl (by exact ⟨_, rfl⟩))
      refine Frame.then ?_ State.setBob_frame rfl rfl
      exact h1
  · extract_lets -merge -useContext -underBinder +onlyGivenNames v3 v4 v5 v6 x7
    refine Frame.via x7 ?_ fun h7 => ?_
    · unfold x7
      refine Frame.then ?_ endCapture_frame rfl rfl
      exact h1
    try clear_value x7
    refine Frame.then ?_ State.setBob_frame rfl rfl
    exact h7
  · refine Frame.count ?_ (inRows_of (r := .BOB_COUNT2) rfl (by exact ⟨_, rfl⟩))
    exact h1

theorem spareItem_frame {a0 : Nat} {a1 : BobItem} : Frame (some [.BOB_STATUS, .BOB_WR_HI, .BOB_WR_LO]) [.bob, .sram] s (spareItem a0 a1 s) := by
  unfold spareItem
  refine Frame.ite (fun _ => ?_) (fun _ => ?_)
  · refine Frame.then ?_ setHist_frame rfl rfl
    exact Frame.refl
  · refine Frame.then ?_ keepHistory_frame rfl rfl
    exact Frame.refl

theorem lateTrigger_frame {a0 : Nat} {a1 : BobItem} {a2 : Nat} : Frame (some [.BOB_COUNT2, .BOB_EVENT, .BOB_STATUS, .BOB_WR_HI, .BOB_WR_LO]) [.bob, .events, .sram, .sup] s (lateTrigger a0 a1 a2 s) := by
  unfold lateTrigger
  extract_lets -merge -useContext -underBinder +onlyGivenNames x1
  refine Frame.via x1 ?_ fun h1 => ?_
  · unfold x1
    refine Frame.count ?_ (inRows_of (r := .BOB_COUNT2) rfl (by exact ⟨_, rfl⟩))
    refine Frame.raise ?_ (inRows_of (r := .BOB_EVENT) rfl (by exact ⟨_, rfl⟩)) rfl
    exact Frame.refl
  try clear_value x1
  extract_lets -merge -useContext -underBinder +onlyGivenNames v2 v3 v4 v5 v6
  refine Frame.ite (fun _ => ?_) (fun _ => ?_)
  · extract_lets -merge -useContext -underBinder +onlyGivenNames v7
    refine Frame.then ?_ captureItem_frame rfl rfl
    refine Frame.then ?_ State.setBob_frame rfl rfl
    exact h1
  · refine Frame.then ?_ spareItem_frame rfl rfl
    refine Frame.count ?_ (inRows_of (r := .BOB_COUNT2) rfl (by exact ⟨_, rfl⟩))
    exact h1

theorem takeItem_frame {a0 : Nat} {a1 : BobItem} : Frame (some [.BOB_COUNT2, .BOB_EVENT, .BOB_RD_HI, .BOB_RD_LO, .BOB_SPILLED_HI, .BOB_SPILLED_LO, .BOB_STATUS, .BOB_WR_HI, .BOB_WR_LO]) [.bob, .events, .sram, .sup] s (takeItem a0 a1 s) := by
  unfold takeItem
  extract_lets -merge -useContext -underBinder +onlyGivenNames v1
  refine Frame.ite (fun _ => ?_) (fun _ => ?_)
  · extract_lets -merge -useContext -underBinder +onlyGivenNames v2 x3
    refine Frame.via x3 ?_ fun h3 => ?_
    · unfold x3
      refine Frame.then ?_ useItem_frame rfl rfl
      exact Frame.refl
    try clear_value x3
    refine Frame.ite (fun _ => ?_) (fun _ => ?_)
    · refine Frame.then ?_ tidyBob_frame rfl rfl
      refine Frame.then ?_ keepHistory_frame rfl rfl
      exact h3
    · extract_lets -merge -useContext -underBinder +onlyGivenNames v4 v5 v6
      refine Frame.then ?_ captureItem_frame rfl rfl
      refine Frame.then ?_ enterBob_frame rfl rfl
      refine Frame.then ?_ State.setBob_frame rfl rfl
      exact h3
  · refine Frame.ite (fun _ => ?_) (fun _ => ?_)
    · first | split | (clear_value *; split)
      · extract_lets -merge -useContext -underBinder +onlyGivenNames v7 x8
        refine Frame.via x8 ?_ fun h8 => ?_
        · unfold x8
          refine Frame.then ?_ useItem_frame rfl rfl
          exact Frame.refl
        try clear_value x8
        extract_lets -merge -useContext -underBinder +onlyGivenNames v9 v10
        refine Frame.ite (fun _ => ?_) (fun _ => ?_)
        · refine Frame.then ?_ captureItem_frame rfl rfl
          exact h8
        · refine Frame.ite (fun _ => ?_) (fun _ => ?_)
          · refine Frame.then ?_ captureItem_frame rfl rfl
            refine Frame.then ?_ State.setBob_frame rfl rfl
            exact h8
          · refine Frame.then ?_ captureItem_frame rfl rfl
            refine Frame.then ?_ busyTrigger_frame rfl rfl
            exact h8
      · extract_lets -merge -useContext -underBinder +onlyGivenNames v11 x12
        refine Frame.via x12 ?_ fun h12 => ?_
        · unfold x12
          refine Frame.then ?_ useItem_frame rfl rfl
          exact Frame.refl
        try clear_value x12
        refine Frame.ite (fun _ => ?_) (fun _ => ?_)
        · refine Frame.then ?_ spareItem_frame rfl rfl
          exact h12
        · refine Frame.then ?_ lateTrigger_frame rfl rfl
          exact h12
    · exact Frame.refl

theorem queueRecord_frame {a0 : Nat} {a1 : BobItem} {a2 : Bool} : Frame (some [.BOB_COUNT, .BOB_EVENT]) [.bob, .events, .sup] s (queueRecord a0 a1 a2 s) := by
  unfold queueRecord
  extract_lets -merge -useContext -underBinder +onlyGivenNames v1
  refine Frame.ite (fun _ => ?_) (fun _ => ?_)
  · extract_lets -merge -useContext -underBinder +onlyGivenNames x2
    refine Frame.via x2 ?_ fun h2 => ?_
    · unfold x2
      refine Frame.raise ?_ (inRows_of (r := .BOB_EVENT) rfl (by exact ⟨_, rfl⟩)) rfl
      refine Frame.count ?_ (inRows_of (r := .BOB_COUNT) rfl (by exact ⟨_, rfl⟩))
      exact Frame.refl
    try clear_value x2
    refine Frame.then ?_ State.setBob_frame rfl rfl
    exact h2
  · extract_lets -merge -useContext -underBinder +onlyGivenNames v3
    refine Frame.then ?_ State.setBob_frame rfl rfl
    exact Frame.refl

theorem popRecord_frame {a0 : Nat} : Frame (some [.BOB_COUNT2, .BOB_EVENT, .BOB_RD_HI, .BOB_RD_LO, .BOB_SPILLED_HI, .BOB_SPILLED_LO, .BOB_STATUS, .BOB_WR_HI, .BOB_WR_LO]) [.bob, .events, .sram, .sup] s (popRecord a0 s) := by
  unfold popRecord
  extract_lets -merge -useContext -underBinder +onlyGivenNames v1
  first | split | (clear_value *; split)
  · refine Frame.ite (fun _ => ?_) (fun _ => ?_)
    · exact Frame.refl
    · refine Frame.then ?_ takeItem_frame rfl rfl
      refine Frame.then ?_ State.setBob_frame rfl rfl
      exact Frame.refl
  · exact Frame.refl

theorem bobDecision_frame {a0 : Nat} {a1 : Nat} : Frame (some [.BOB_COUNT, .BOB_EVENT]) [.bob, .events, .sup] s (bobDecision a0 a1 s) := by
  unfold bobDecision
  extract_lets -merge -useContext -underBinder +onlyGivenNames v1 v2 v3 v4
  refine Frame.ite (fun _ => ?_) (fun _ => ?_)
  · refine Frame.then ?_ queueRecord_frame rfl rfl
    exact Frame.refl
  · refine Frame.ite (fun _ => ?_) (fun _ => ?_)
    · refine Frame.then ?_ queueRecord_frame rfl rfl
      exact Frame.refl
    · extract_lets -merge -useContext -underBinder +onlyGivenNames v5 v6 x7
      refine Frame.via x7 ?_ fun h7 => ?_
      · unfold x7
        refine Frame.then ?_ State.setBob_frame rfl rfl
        exact Frame.refl
      try clear_value x7
      extract_lets -merge -useContext -underBinder +onlyGivenNames v8
      refine Frame.ite (fun _ => ?_) (fun _ => ?_)
      · refine Frame.then ?_ queueRecord_frame rfl rfl
        exact h7
      · exact h7

theorem bobSample_frame {a0 : Nat} {a1 : Nat} {a2 : Nat} {a3 : Word} : Frame (some [.BOB_COUNT, .BOB_EVENT]) [.bob, .events, .sup] s (bobSample a0 a1 a2 a3 s) := by
  unfold bobSample
  extract_lets -merge -useContext -underBinder +onlyGivenNames v1 v2
  refine Frame.ite (fun _ => ?_) (fun _ => ?_)
  · extract_lets -merge -useContext -underBinder +onlyGivenNames v3
    refine Frame.then ?_ queueRecord_frame rfl rfl
    refine Frame.ite (fun _ => ?_) (fun _ => ?_)
    · exact Frame.refl
    · refine Frame.then ?_ State.setBob_frame rfl rfl
      exact Frame.refl
  · exact Frame.refl

theorem takeRaw_frame {a0 : Nat} {a1 : List Nat} : Frame (some [.BOB_COUNT2, .BOB_EVENT, .BOB_RD_HI, .BOB_RD_LO, .BOB_SPILLED_HI, .BOB_SPILLED_LO, .BOB_STATUS, .BOB_WR_HI, .BOB_WR_LO]) [.bob, .events, .sram, .sup] s (takeRaw a0 a1 s) := by
  unfold takeRaw
  extract_lets -merge -useContext -underBinder +onlyGivenNames v1 v2
  refine Frame.forAll _ ?_ fun i x hx => ?_
  · exact Frame.refl
  · refine Frame.then ?_ takeItem_frame rfl rfl
    exact hx

theorem feedOnce_frame {a0 : Nat} {a1 : Nat} {a2 : State → State} (h : Frame R P s t) (hR : rowsLe (some []) R = true) (hP : partsLe [.bob] P = true) (ha2 : ∀ x, Frame R P s x → Frame R P s (a2 x)) : Frame R P s (feedOnce a0 a1 a2 t) := by
  unfold feedOnce
  extract_lets -merge -useContext -underBinder +onlyGivenNames v1
  refine Frame.ite (fun _ => ?_) (fun _ => ?_)
  · exact h
  · refine ha2 _ ?_
    refine Frame.then ?_ State.setBob_frame (rowsLe_trans rfl hR) (partsLe_trans rfl hP)
    exact h

theorem passItem_frame {a0 : Nat} {a1 : BobInput} : Frame (some []) [.bob] s (passItem a0 a1 s) := by
  unfold passItem
  first | split | (clear_value *; split)
  · refine Frame.then ?_ State.setBob_frame rfl rfl
    exact Frame.refl
  · exact Frame.refl

theorem bobInput_frame {a0 : Nat} {a1 : BobInput} : Frame (some [.BOB_COUNT, .BOB_COUNT2, .BOB_EVENT, .BOB_RD_HI, .BOB_RD_LO, .BOB_SPILLED_HI, .BOB_SPILLED_LO, .BOB_STATUS, .BOB_WR_HI, .BOB_WR_LO]) [.bob, .events, .sram, .sup] s (bobInput a0 a1 s) := by
  unfold bobInput
  extract_lets -merge -useContext -underBinder +onlyGivenNames v1 v2 v3 v4
  refine Frame.ite (fun _ => ?_) (fun _ => ?_)
  · first | split | (clear_value *; split)
    · refine Frame.ite (fun _ => ?_) (fun _ => ?_)
      · refine feedOnce_frame ?_ rfl rfl (fun x hx => ?_)
        · exact Frame.refl
        · refine Frame.then ?_ takeRaw_frame rfl rfl
          exact hx
      · exact Frame.refl
    · extract_lets -merge -useContext -underBinder +onlyGivenNames v5
      refine Frame.ite (fun _ => ?_) (fun _ => ?_)
      · refine feedOnce_frame ?_ rfl rfl (fun x hx => ?_)
        · exact Frame.refl
        · refine Frame.then ?_ takeItem_frame rfl rfl
          exact hx
      · exact Frame.refl
    · first | split | (clear_value *; split)
      · refine Frame.ite (fun _ => ?_) (fun _ => ?_)
        · refine feedOnce_frame ?_ rfl rfl (fun x hx => ?_)
          · exact Frame.refl
          · refine Frame.then ?_ popRecord_frame rfl rfl
            refine Frame.then ?_ bobSample_frame rfl rfl
            exact hx
        · exact Frame.refl
      · exact Frame.refl
    · extract_lets -merge -useContext -underBinder +onlyGivenNames v6
      refine Frame.ite (fun _ => ?_) (fun _ => ?_)
      · refine feedOnce_frame ?_ rfl rfl (fun x hx => ?_)
        · exact Frame.refl
        · refine Frame.then ?_ popRecord_frame rfl rfl
          refine Frame.then ?_ bobDecision_frame rfl rfl
          exact hx
      · exact Frame.refl
    · extract_lets -merge -useContext -underBinder +onlyGivenNames v7
      refine Frame.ite (fun _ => ?_) (fun _ => ?_)
      · refine feedOnce_frame ?_ rfl rfl (fun x hx => ?_)
        · exact Frame.refl
        · extract_lets -merge -useContext -underBinder +onlyGivenNames v8 v9 x10
          refine Frame.via x10 ?_ fun h10 => ?_
          · unfold x10
            refine Frame.then ?_ State.setBob_frame rfl rfl
            exact hx
          try clear_value x10
          refine Frame.then ?_ popRecord_frame rfl rfl
          refine Frame.then ?_ queueRecord_frame rfl rfl
          exact h10
      · exact Frame.refl
    · refine Frame.then ?_ popRecord_frame rfl rfl
      exact Frame.refl
  · refine Frame.then ?_ passItem_frame rfl rfl
    exact Frame.refl

theorem abortBob_frame {a0 : Nat} : Frame (some [.BOB_EVENT, .BOB_STATUS]) [.bob, .events, .sup] s (abortBob a0 s) := by
  unfold abortBob
  extract_lets -merge -useContext -underBinder +onlyGivenNames x1
  refine Frame.via x1 ?_ fun h1 => ?_
  · unfold x1
    first | split | (clear_value *; split)
    · refine Frame.ite (fun _ => ?_) (fun _ => ?_)
      · exact Frame.refl
      · refine Frame.then ?_ endCapture_frame rfl rfl
        exact Frame.refl
    · exact Frame.refl
  try clear_value x1
  extract_lets -merge -useContext -underBinder +onlyGivenNames v2 x3
  refine Frame.via x3 ?_ fun h3 => ?_
  · unfold x3
    refine Frame.then ?_ dropRecords_frame rfl rfl
    refine Frame.then ?_ State.setBob_frame rfl rfl
    exact h1
  try clear_value x3
  extract_lets -merge -useContext -underBinder +onlyGivenNames x4
  refine Frame.via x4 ?_ fun h4 => ?_
  · unfold x4
    refine Frame.put ?_ (inRows_of (r := .BOB_STATUS) rfl (by exact ⟨_, rfl⟩))
    refine Frame.then ?_ setHist_frame rfl rfl
    refine Frame.then ?_ enterBob_frame rfl rfl
    exact h3
  try clear_value x4
  refine Frame.put ?_ (inRows_of (r := .BOB_STATUS) rfl (by exact ⟨_, rfl⟩))
  refine Frame.put ?_ (inRows_of (r := .BOB_STATUS) rfl (by exact ⟨_, rfl⟩))
  exact h4

theorem stopBobs_frame  : Frame (some [.BOB_EVENT, .BOB_STATUS]) [.bob, .events, .sup] s (stopBobs s) := by
  unfold stopBobs
  refine Frame.forN _ ?_ fun i x hx => ?_
  · exact Frame.refl
  · extract_lets -merge -useContext -underBinder +onlyGivenNames x1
    refine Frame.via x1 ?_ fun h1 => ?_
    · unfold x1
      refine Frame.ite (fun _ => ?_) (fun _ => ?_)
      · exact hx
      · refine Frame.then ?_ abortBob_frame rfl rfl
        exact hx
    try clear_value x1
    refine Frame.then ?_ State.setBob_frame rfl rfl
    exact h1

theorem startBobs_frame  : Frame (some [.BOB_COUNT, .BOB_COUNT2, .BOB_RD_HI, .BOB_RD_LO, .BOB_SPILLED_HI, .BOB_SPILLED_LO, .BOB_STATUS]) [.bob] s (startBobs s) := by
  unfold startBobs
  refine Frame.forN _ ?_ fun i x hx => ?_
  · exact Frame.refl
  · extract_lets -merge -useContext -underBinder +onlyGivenNames x1
    refine Frame.via x1 ?_ fun h1 => ?_
    · unfold x1
      refine Frame.wr ?_ (inRows_of (r := .BOB_COUNT2) rfl (by exact ⟨_, rfl⟩))
      refine Frame.wr ?_ (inRows_of (r := .BOB_COUNT) rfl (by exact ⟨_, rfl⟩))
      exact hx
    try clear_value x1
    refine Frame.ite (fun _ => ?_) (fun _ => ?_)
    · refine Frame.then ?_ bobArm_frame rfl rfl
      exact h1
    · exact h1

theorem clearBob_frame {a0 : Nat} : Frame none [.bob, .sram] s (clearBob a0 s) := by
  unfold clearBob
  extract_lets -merge -useContext -underBinder +onlyGivenNames x1
  refine Frame.via x1 ?_ fun h1 => ?_
  · unfold x1
    refine Frame.sram ?_ rfl (fun h => (by first | exact h | exact sparseWf_sset h | exact sparseWf_nil | exact sparseWf_filter h | exact sparseWf_smap h | exact sparseWf_sdrop h | exact sparseWf_sset (sparseWf_sset h) | exact sparseWf_fold sparseWf_nil | (dsimp only; exact sparseWf_smap h)))
    exact Frame.refl
  try clear_value x1
  extract_lets -merge -useContext -underBinder +onlyGivenNames x2
  refine Frame.via x2 ?_ fun h2 => ?_
  · unfold x2
    refine Frame.resetRange ?_
    exact h1
  try clear_value x2
  extract_lets -merge -useContext -underBinder +onlyGivenNames x3
  refine Frame.via x3 ?_ fun h3 => ?_
  · unfold x3
    refine Frame.wr64 ?_ (inRows_of (r := .BOB_RD_LO) rfl (by exact ⟨_, rfl⟩)) (inRows_of (r := .BOB_RD_HI) rfl (by exact ⟨_, hiShift1 (by decide)⟩))
    refine Frame.wr64 ?_ (inRows_of (r := .BOB_SPILLED_LO) rfl (by exact ⟨_, rfl⟩)) (inRows_of (r := .BOB_SPILLED_HI) rfl (by exact ⟨_, hiShift1 (by decide)⟩))
    refine Frame.wr64 ?_ (inRows_of (r := .BOB_WR_LO) rfl (by exact ⟨_, rfl⟩)) (inRows_of (r := .BOB_WR_HI) rfl (by exact ⟨_, hiShift1 (by decide)⟩))
    exact h2
  try clear_value x3
  refine Frame.then ?_ State.setBob_frame rfl rfl
  refine Frame.wr ?_ (inRows_of (r := .BOB_DIR_HEAD) rfl (by exact ⟨_, rfl⟩))
  exact h3

theorem truncateEnded_frame {a0 : Nat} {a1 : Nat} {a2 : Nat} {a3 : Bool} : Frame (some [.BOB_EVENT]) [.bob, .events, .sup] s (truncateEnded a0 a1 a2 a3 s) := by
  unfold truncateEnded
  extract_lets -merge -useContext -underBinder +onlyGivenNames v1
  first | split | (clear_value *; split)
  · exact Frame.refl
  · extract_lets -merge -useContext -underBinder +onlyGivenNames v2 v3 v4 v5 x6
    refine Frame.via x6 ?_ fun h6 => ?_
    · unfold x6
      refine Frame.then ?_ State.setBob_frame rfl rfl
      exact Frame.refl
    try clear_value x6
    refine Frame.raiseIf ?_ (inRows_of (r := .BOB_EVENT) rfl (by exact ⟨_, rfl⟩)) rfl
    exact h6

theorem dropSpills_frame {a0 : Nat} {a1 : Nat} {a2 : Nat} : Frame (some []) [.bob, .mem] s (dropSpills a0 a1 a2 s) := by
  unfold dropSpills
  extract_lets -merge -useContext -underBinder +onlyGivenNames v1 v2 x3
  refine Frame.via x3 ?_ fun h3 => ?_
  · unfold x3
    refine Frame.then ?_ State.setBob_frame rfl rfl
    exact Frame.refl
  try clear_value x3
  refine Frame.mem ?_ rfl (fun h => ⟨(by first | exact h.1 | exact sparseWf_sset h.1 | exact sparseWf_nil | exact sparseWf_filter h.1 | exact sparseWf_smap h.1 | exact sparseWf_sdrop h.1 | exact sparseWf_sset (sparseWf_sset h.1) | exact sparseWf_fold sparseWf_nil | (dsimp only; exact sparseWf_smap h.1)), (by first | exact h.2.1 | exact sparseWf_sset h.2.1 | exact sparseWf_nil | exact sparseWf_filter h.2.1 | exact sparseWf_smap h.2.1 | exact sparseWf_sdrop h.2.1 | exact sparseWf_sset (sparseWf_sset h.2.1) | exact sparseWf_fold sparseWf_nil | (dsimp only; exact sparseWf_smap h.2.1)), (by first | exact h.2.2.1 | exact sparseWf_sset h.2.2.1 | exact sparseWf_nil | exact sparseWf_filter h.2.2.1 | exact sparseWf_smap h.2.2.1 | exact sparseWf_sdrop h.2.2.1 | exact sparseWf_sset (sparseWf_sset h.2.2.1) | exact sparseWf_fold sparseWf_nil | (dsimp only; exact sparseWf_smap h.2.2.1)), (by first | exact h.2.2.2 | exact sparseWf_sset h.2.2.2 | exact sparseWf_nil | exact sparseWf_filter h.2.2.2 | exact sparseWf_smap h.2.2.2 | exact sparseWf_sdrop h.2.2.2 | exact sparseWf_sset (sparseWf_sset h.2.2.2) | exact sparseWf_fold sparseWf_nil | (dsimp only; exact sparseWf_smap h.2.2.2))⟩)
  exact h3

theorem spillRefused_frame {a0 : Nat} {a1 : Nat} : Frame (some [.BOB_EVENT, .BOB_STATUS]) [.bob, .events, .mem, .sup] s (spillRefused a0 a1 s) := by
  unfold spillRefused
  extract_lets -merge -useContext -underBinder +onlyGivenNames v1
  first | split | (clear_value *; split)
  · refine Frame.ite (fun _ => ?_) (fun _ => ?_)
    · extract_lets -merge -useContext -underBinder +onlyGivenNames v2 v3
      refine Frame.then ?_ endCapture_frame rfl rfl
      refine Frame.then ?_ dropSpills_frame rfl rfl
      exact Frame.refl
    · refine Frame.then ?_ truncateEnded_frame rfl rfl
      refine Frame.then ?_ dropSpills_frame rfl rfl
      exact Frame.refl
  · refine Frame.then ?_ truncateEnded_frame rfl rfl
    refine Frame.then ?_ dropSpills_frame rfl rfl
    exact Frame.refl

end Sys2Proof.Machine
end

