-- ==== Sys2Proof/Laws/Frame/Reel.lean ====
section
/-! SUPPORT. Laws/Frame/Reel.lean: what each operation of Machine/Reel.lean can change, and that it keeps a sound state sound. -/

set_option Elab.async false

namespace Sys2Proof.Machine

variable {R : Option (List RegRow)} {P : List Part} {s t : State}

theorem State.setPort_frame {a0 : Nat} {a1 : PtpPort} : Frame (some []) [.tln] s (State.setPort s a0 a1) := by
  unfold State.setPort
  refine Frame.tln ?_ rfl (fun h => ⟨(by first | exact h.1 | exact sparseWf_sset h.1 | exact sparseWf_nil | exact sparseWf_filter h.1 | exact sparseWf_smap h.1 | exact sparseWf_sdrop h.1 | exact sparseWf_sset (sparseWf_sset h.1) | exact sparseWf_fold sparseWf_nil | (dsimp only; exact sparseWf_smap h.1)), (by first | exact h.2 | exact sparseWf_sset h.2 | exact sparseWf_nil | exact sparseWf_filter h.2 | exact sparseWf_smap h.2 | exact sparseWf_sdrop h.2 | exact sparseWf_sset (sparseWf_sset h.2) | exact sparseWf_fold sparseWf_nil | (dsimp only; exact sparseWf_smap h.2))⟩)
  exact Frame.refl

theorem showQualified_frame  : Frame (some [.TLN_STATUS]) [] s (showQualified s) := by
  unfold showQualified
  refine Frame.put ?_ (inRows_of (r := .TLN_STATUS) rfl (by exact rfl))
  exact Frame.refl

theorem tlnCtlWrite_frame {a0 : Path} {a1 : Word} : Frame none [.events, .resp, .sup] s (tlnCtlWrite a0 a1 s) := by
  unfold tlnCtlWrite
  extract_lets -merge -useContext -underBinder +onlyGivenNames v1 x2
  refine Frame.via x2 ?_ fun h2 => ?_
  · unfold x2
    refine Frame.then ?_ plainWrite_frame rfl rfl
    exact Frame.refl
  try clear_value x2
  refine Frame.ite (fun _ => ?_) (fun _ => ?_)
  · exact h2
  · extract_lets -merge -useContext -underBinder +onlyGivenNames x3
    refine Frame.via x3 ?_ fun h3 => ?_
    · unfold x3
      refine Frame.then ?_ showQualified_frame rfl rfl
      exact h2
    try clear_value x3
    refine Frame.ite (fun _ => ?_) (fun _ => ?_)
    · refine Frame.put ?_ (inRows_of (r := .TLN_STATUS) rfl (by exact rfl))
      refine Frame.then ?_ State.setAdj_frame rfl rfl
      exact h3
    · exact h3

theorem slewMaxWrite_frame {a0 : Path} {a1 : Word} : Frame none [.events, .resp, .sup] s (slewMaxWrite a0 a1 s) := by
  unfold slewMaxWrite
  extract_lets -merge -useContext -underBinder +onlyGivenNames v1 x2
  refine Frame.via x2 ?_ fun h2 => ?_
  · unfold x2
    refine Frame.then ?_ plainWrite_frame rfl rfl
    exact Frame.refl
  try clear_value x2
  refine Frame.ite (fun _ => ?_) (fun _ => ?_)
  · exact h2
  · refine Frame.then ?_ State.setAdj_frame rfl rfl
    exact h2

theorem watchPort_frame {a0 : Nat} {a1 : Int} : Frame (some [.TLN_ADJ, .TLN_COUNT, .TLN_EVENT, .TLN_STATUS]) [.events, .sup, .tln] s (watchPort a0 a1 s) := by
  unfold watchPort
  first | split | (clear_value *; split)
  · refine Frame.then ?_ declareAsym_frame rfl rfl
    exact Frame.refl
  · refine Frame.then ?_ clearAsym_frame rfl rfl
    exact Frame.refl

theorem portMeasure_frame {a0 : Nat} {a1 : Int} {a2 : Int} : Frame (some [.TLN_ADJ, .TLN_COUNT, .TLN_EVENT, .TLN_HOLD_ADJ, .TLN_OFFSET, .TLN_PTP_OFFSET, .TLN_REFUSED_HI, .TLN_REFUSED_LO, .TLN_STATUS]) [.csc, .events, .sup, .tln] s (portMeasure a0 a1 a2 s) := by
  unfold portMeasure
  extract_lets -merge -useContext -underBinder +onlyGivenNames v1
  first | split | (clear_value *; split)
  · exact Frame.refl
  · extract_lets -merge -useContext -underBinder +onlyGivenNames v2 x3
    refine Frame.via x3 ?_ fun h3 => ?_
    · unfold x3
      refine Frame.wr ?_ (inRows_of (r := .TLN_PTP_OFFSET) rfl (by exact ⟨_, rfl⟩))
      exact Frame.refl
    try clear_value x3
    extract_lets -merge -useContext -underBinder +onlyGivenNames v4 x5
    refine Frame.via x5 ?_ fun h5 => ?_
    · unfold x5
      refine Frame.ite (fun _ => ?_) (fun _ => ?_)
      · refine Frame.then ?_ measure_frame rfl rfl
        exact h3
      · refine Frame.ite (fun _ => ?_) (fun _ => ?_)
        · refine Frame.then ?_ watchPort_frame rfl rfl
          exact h3
        · exact h3
    try clear_value x5
    extract_lets -merge -useContext -underBinder +onlyGivenNames w6 x7
    refine Frame.via x7 ?_ fun h7 => ?_
    · unfold x7
      refine Frame.then ?_ State.setPort_frame rfl rfl
      exact h5
    try clear_value x7
    refine Frame.ite (fun _ => ?_) (fun _ => ?_)
    · refine Frame.then ?_ State.setPort_frame rfl rfl
      exact h7
    · exact h7

theorem takeSync_frame {a0 : Nat} {a1 : Int} {a2 : Int} : Frame (some [.TLN_ADJ, .TLN_COUNT, .TLN_EVENT, .TLN_HOLD_ADJ, .TLN_OFFSET, .TLN_PTP_OFFSET, .TLN_REFUSED_HI, .TLN_REFUSED_LO, .TLN_STATUS]) [.csc, .events, .sup, .tln] s (takeSync a0 a1 a2 s) := by
  unfold takeSync
  refine Frame.then ?_ portMeasure_frame rfl rfl
  refine Frame.then ?_ State.setPort_frame rfl rfl
  exact Frame.refl

theorem restartCount_frame {a0 : Nat} : Frame (some []) [.tln] s (restartCount a0 s) := by
  unfold restartCount
  refine Frame.ite (fun _ => ?_) (fun _ => ?_)
  · exact Frame.refl
  · refine Frame.then ?_ State.setPort_frame rfl rfl
    exact Frame.refl

theorem fromMaster_frame {a0 : Nat} {a1 : PtpMsg} {a2 : State → State} (h : Frame R P s t) (hR : rowsLe (some [.TLN_PTP_STATUS]) R = true) (hP : partsLe [] P = true) (ha2 : ∀ x, Frame R P s x → Frame R P s (a2 x)) : Frame R P s (fromMaster a0 a1 a2 t) := by
  unfold fromMaster
  refine Frame.ite (fun _ => ?_) (fun _ => ?_)
  · exact h
  · refine Frame.ite (fun _ => ?_) (fun _ => ?_)
    · refine Frame.count ?_ (inRows_of (r := .TLN_PTP_STATUS) (rowsLe_trans rfl hR) (by exact ⟨_, rfl⟩))
      exact h
    · refine Frame.ite (fun _ => ?_) (fun _ => ?_)
      · refine ha2 _ ?_
        exact h
      · exact h

theorem syncRx_frame {a0 : Nat} {a1 : BitVec 16} {a2 : Bool} {a3 : Int} {a4 : Fin 32} : Frame (some [.TLN_ADJ, .TLN_COUNT, .TLN_EVENT, .TLN_HOLD_ADJ, .TLN_OFFSET, .TLN_PTP_OFFSET, .TLN_REFUSED_HI, .TLN_REFUSED_LO, .TLN_STATUS]) [.csc, .events, .sup, .tln] s (syncRx a0 a1 a2 a3 a4 s) := by
  unfold syncRx
  extract_lets -merge -useContext -underBinder +onlyGivenNames v1 v2 x3
  refine Frame.via x3 ?_ fun h3 => ?_
  · unfold x3
    refine Frame.ite (fun _ => ?_) (fun _ => ?_)
    · refine Frame.then ?_ restartCount_frame rfl rfl
      exact Frame.refl
    · exact Frame.refl
  try clear_value x3
  extract_lets -merge -useContext -underBinder +onlyGivenNames w4 x5
  refine Frame.via x5 ?_ fun h5 => ?_
  · unfold x5
    refine Frame.then ?_ State.setPort_frame rfl rfl
    exact h3
  try clear_value x5
  extract_lets -merge -useContext -underBinder +onlyGivenNames v6
  refine Frame.ite (fun _ => ?_) (fun _ => ?_)
  · refine Frame.then ?_ State.setPort_frame rfl rfl
    exact h5
  · refine Frame.then ?_ takeSync_frame rfl rfl
    exact h5

theorem execPtpSyncRx_frame {a0 : Fin 2} {a1 : PtpMsg} {a2 : Bool} {a3 : Int} {a4 : Fin 32} : ∃ t, execPtpSyncRx a0 a1 a2 a3 a4 s = .next t ∧ Frame (some [.TLN_ADJ, .TLN_COUNT, .TLN_EVENT, .TLN_HOLD_ADJ, .TLN_OFFSET, .TLN_PTP_OFFSET, .TLN_PTP_STATUS, .TLN_REFUSED_HI, .TLN_REFUSED_LO, .TLN_STATUS]) [.csc, .events, .sup, .tln] s t := by
  refine ⟨_, rfl, ?_⟩
  refine fromMaster_frame ?_ rfl rfl (fun x hx => ?_)
  · exact Frame.refl
  · refine Frame.then ?_ syncRx_frame rfl rfl
    exact hx

theorem execPtpFollowUpRx_frame {a0 : Fin 2} {a1 : PtpMsg} {a2 : Int} : ∃ t, execPtpFollowUpRx a0 a1 a2 s = .next t ∧ Frame (some [.TLN_ADJ, .TLN_COUNT, .TLN_EVENT, .TLN_HOLD_ADJ, .TLN_OFFSET, .TLN_PTP_OFFSET, .TLN_PTP_STATUS, .TLN_REFUSED_HI, .TLN_REFUSED_LO, .TLN_STATUS]) [.csc, .events, .sup, .tln] s t := by
  refine ⟨_, rfl, ?_⟩
  refine fromMaster_frame ?_ rfl rfl (fun x hx => ?_)
  · exact Frame.refl
  · first | split | (clear_value *; split)
    · refine Frame.ite (fun _ => ?_) (fun _ => ?_)
      · refine Frame.then ?_ takeSync_frame rfl rfl
        exact hx
      · exact hx
    · exact hx

theorem execPtpDelayReqTx_frame {a0 : Fin 2} {a1 : Fin 32} : ∃ t, execPtpDelayReqTx a0 a1 s = .next t ∧ Frame (some []) [.tln] s t := by
  refine ⟨_, rfl, ?_⟩
  extract_lets -merge -useContext -underBinder +onlyGivenNames v1 v2 v3
  refine Frame.ite (fun _ => ?_) (fun _ => ?_)
  · extract_lets -merge -useContext -underBinder +onlyGivenNames x4
    refine Frame.via x4 ?_ fun h4 => ?_
    · unfold x4
      refine Frame.ite (fun _ => ?_) (fun _ => ?_)
      · refine Frame.then ?_ restartCount_frame rfl rfl
        exact Frame.refl
      · exact Frame.refl
    try clear_value x4
    extract_lets -merge -useContext -underBinder +onlyGivenNames w5 x6
    refine Frame.via x6 ?_ fun h6 => ?_
    · unfold x6
      refine Frame.then ?_ State.setPort_frame rfl rfl
      exact h4
    try clear_value x6
    refine Frame.tln ?_ rfl (by first | exact id | exact fun h => ⟨(by first | exact h.1 | exact sparseWf_sset h.1 | exact sparseWf_nil | exact sparseWf_filter h.1 | exact sparseWf_smap h.1 | exact sparseWf_sdrop h.1 | exact sparseWf_sset (sparseWf_sset h.1) | exact sparseWf_fold sparseWf_nil | (dsimp only; exact sparseWf_smap h.1)), (by first | exact h.2 | exact sparseWf_sset h.2 | exact sparseWf_nil | exact sparseWf_filter h.2 | exact sparseWf_smap h.2 | exact sparseWf_sdrop h.2 | exact sparseWf_sset (sparseWf_sset h.2) | exact sparseWf_fold sparseWf_nil | (dsimp only; exact sparseWf_smap h.2))⟩)
    exact h6
  · exact Frame.refl

theorem execPtpDelayRespRx_frame {a0 : Fin 2} {a1 : PtpMsg} {a2 : Int} : ∃ t, execPtpDelayRespRx a0 a1 a2 s = .next t ∧ Frame (some [.TLN_PTP_DELAY, .TLN_PTP_STATUS, .TLN_STATUS]) [.tln] s t := by
  refine ⟨_, rfl, ?_⟩
  refine fromMaster_frame ?_ rfl rfl (fun x hx => ?_)
  · exact Frame.refl
  · first | split | (clear_value *; split)
    · refine Frame.ite (fun _ => ?_) (fun _ => ?_)
      · exact hx
      · extract_lets -merge -useContext -underBinder +onlyGivenNames v1 v2 w3 x4
        refine Frame.via x4 ?_ fun h4 => ?_
        · unfold x4
          refine Frame.then ?_ State.setPort_frame rfl rfl
          exact hx
        try clear_value x4
        extract_lets -merge -useContext -underBinder +onlyGivenNames x5
        refine Frame.via x5 ?_ fun h5 => ?_
        · unfold x5
          refine Frame.wr ?_ (inRows_of (r := .TLN_PTP_DELAY) rfl (by exact ⟨_, rfl⟩))
          exact h4
        try clear_value x5
        refine Frame.ite (fun _ => ?_) (fun _ => ?_)
        · refine Frame.then ?_ showQualified_frame rfl rfl
          refine Frame.put ?_ (inRows_of (r := .TLN_PTP_STATUS) rfl (by exact ⟨_, rfl⟩))
          exact h5
        · exact h5
    · exact hx

theorem reselect_frame {a0 : Nat} {a1 : List Announce} : Frame (some [.TLN_EVENT]) [.events, .sup, .tln] s (reselect a0 a1 s) := by
  unfold reselect
  extract_lets -merge -useContext -underBinder +onlyGivenNames v1 v2 x3
  refine Frame.via x3 ?_ fun h3 => ?_
  · unfold x3
    refine Frame.then ?_ State.setPort_frame rfl rfl
    exact Frame.refl
  try clear_value x3
  refine Frame.ite (fun _ => ?_) (fun _ => ?_)
  · exact h3
  · extract_lets -merge -useContext -underBinder +onlyGivenNames v4 x5
    refine Frame.via x5 ?_ fun h5 => ?_
    · unfold x5
      refine Frame.then ?_ restartCount_frame rfl rfl
      exact h3
    try clear_value x5
    extract_lets -merge -useContext -underBinder +onlyGivenNames w6 x7
    refine Frame.via x7 ?_ fun h7 => ?_
    · unfold x7
      refine Frame.then ?_ State.setPort_frame rfl rfl
      exact h5
    try clear_value x7
    refine Frame.raiseIf ?_ (inRows_of (r := .TLN_EVENT) rfl (by exact rfl)) rfl
    exact h7

theorem execPtpAnnounceRx_frame {a0 : Fin 2} {a1 : PtpMsg} {a2 : Announce} : ∃ t, execPtpAnnounceRx a0 a1 a2 s = .next t ∧ Frame (some [.TLN_EVENT, .TLN_PTP_STATUS]) [.events, .sup, .tln] s t := by
  refine ⟨_, rfl, ?_⟩
  refine Frame.ite (fun _ => ?_) (fun _ => ?_)
  · exact Frame.refl
  · refine Frame.ite (fun _ => ?_) (fun _ => ?_)
    · refine Frame.count ?_ (inRows_of (r := .TLN_PTP_STATUS) rfl (by exact ⟨_, rfl⟩))
      exact Frame.refl
    · refine Frame.then ?_ reselect_frame rfl rfl
      exact Frame.refl

theorem execPtpRxDrop_frame {a0 : Fin 2} : ∃ t, execPtpRxDrop a0 s = .next t ∧ Frame (some [.TLN_PTP_STATUS]) [] s t := by
  refine ⟨_, rfl, ?_⟩
  refine Frame.ite (fun _ => ?_) (fun _ => ?_)
  · refine Frame.count ?_ (inRows_of (r := .TLN_PTP_STATUS) rfl (by exact ⟨_, rfl⟩))
    exact Frame.refl
  · exact Frame.refl

theorem losePort_frame {a0 : Nat} : Frame (some [.SUP_TOL, .TLN_ADJ, .TLN_COUNT, .TLN_CTL, .TLN_EVENT, .TLN_PTP_STATUS, .TLN_STATUS]) [.events, .sup, .tln] s (losePort a0 s) := by
  unfold losePort
  extract_lets -merge -useContext -underBinder +onlyGivenNames x1
  refine Frame.via x1 ?_ fun h1 => ?_
  · unfold x1
    refine Frame.put ?_ (inRows_of (r := .TLN_PTP_STATUS) rfl (by exact ⟨_, rfl⟩))
    exact Frame.refl
  try clear_value x1
  extract_lets -merge -useContext -underBinder +onlyGivenNames w2 x3
  refine Frame.via x3 ?_ fun h3 => ?_
  · unfold x3
    refine Frame.then ?_ State.setPort_frame rfl rfl
    exact h1
  try clear_value x3
  refine Frame.ite (fun _ => ?_) (fun _ => ?_)
  · refine Frame.ite (fun _ => ?_) (fun _ => ?_)
    · extract_lets -merge -useContext -underBinder +onlyGivenNames x4
      refine Frame.via x4 ?_ fun h4 => ?_
      · unfold x4
        refine Frame.put ?_ (inRows_of (r := .TLN_CTL) rfl (by exact rfl))
        refine Frame.raise ?_ (inRows_of (r := .TLN_EVENT) rfl (by exact rfl)) rfl
        exact h3
      try clear_value x4
      extract_lets -merge -useContext -underBinder +onlyGivenNames x5
      refine Frame.via x5 ?_ fun h5 => ?_
      · unfold x5
        refine Frame.count ?_ (inRows_of (r := .SUP_TOL) rfl (by exact rfl))
        refine Frame.count ?_ (inRows_of (r := .TLN_COUNT) rfl (by exact rfl))
        exact h4
      try clear_value x5
      refine Frame.then ?_ showQualified_frame rfl rfl
      refine Frame.ite (fun _ => ?_) (fun _ => ?_)
      · refine Frame.then ?_ holdServo_frame rfl rfl
        exact h5
      · exact h5
    · refine Frame.then ?_ loseSource_frame rfl rfl
      exact h3
  · exact h3

theorem execPtpSyncTimeout_frame {a0 : Fin 2} : ∃ t, execPtpSyncTimeout a0 s = .next t ∧ Frame (some [.SUP_TOL, .TLN_ADJ, .TLN_COUNT, .TLN_CTL, .TLN_EVENT, .TLN_PTP_STATUS, .TLN_STATUS]) [.events, .sup, .tln] s t := by
  refine ⟨_, rfl, ?_⟩
  refine Frame.ite (fun _ => ?_) (fun _ => ?_)
  · refine Frame.then ?_ losePort_frame rfl rfl
    exact Frame.refl
  · exact Frame.refl

theorem execPtpAnnounceTimeout_frame {a0 : Fin 2} : ∃ t, execPtpAnnounceTimeout a0 s = .next t ∧ Frame (some [.SUP_TOL, .TLN_ADJ, .TLN_COUNT, .TLN_CTL, .TLN_EVENT, .TLN_PTP_STATUS, .TLN_STATUS]) [.events, .sup, .tln] s t := by
  refine ⟨_, rfl, ?_⟩
  refine Frame.ite (fun _ => ?_) (fun _ => ?_)
  · extract_lets -merge -useContext -underBinder +onlyGivenNames x1
    refine Frame.via x1 ?_ fun h1 => ?_
    · unfold x1
      refine Frame.then ?_ losePort_frame rfl rfl
      exact Frame.refl
    try clear_value x1
    extract_lets -merge -useContext -underBinder +onlyGivenNames v2
    refine Frame.then ?_ reselect_frame rfl rfl
    exact h1
  · exact Frame.refl

theorem execExtPhaseCompare_frame {a0 : Nat} {a1 : Fin 512} : ∃ t, execExtPhaseCompare a0 a1 s = .next t ∧ Frame (some [.TLN_ADJ, .TLN_COUNT, .TLN_EVENT, .TLN_HOLD_ADJ, .TLN_OFFSET, .TLN_REFUSED_HI, .TLN_REFUSED_LO, .TLN_STATUS]) [.csc, .events, .sup, .tln] s t := by
  refine ⟨_, rfl, ?_⟩
  first | split | (clear_value *; split)
  · refine Frame.ite (fun _ => ?_) (fun _ => ?_)
    · refine Frame.then ?_ measure_frame rfl rfl
      refine Frame.tln ?_ rfl (by first | exact id | exact fun h => ⟨(by first | exact h.1 | exact sparseWf_sset h.1 | exact sparseWf_nil | exact sparseWf_filter h.1 | exact sparseWf_smap h.1 | exact sparseWf_sdrop h.1 | exact sparseWf_sset (sparseWf_sset h.1) | exact sparseWf_fold sparseWf_nil | (dsimp only; exact sparseWf_smap h.1)), (by first | exact h.2 | exact sparseWf_sset h.2 | exact sparseWf_nil | exact sparseWf_filter h.2 | exact sparseWf_smap h.2 | exact sparseWf_sdrop h.2 | exact sparseWf_sset (sparseWf_sset h.2) | exact sparseWf_fold sparseWf_nil | (dsimp only; exact sparseWf_smap h.2))⟩)
      exact Frame.refl
    · refine Frame.tln ?_ rfl (by first | exact id | exact fun h => ⟨(by first | exact h.1 | exact sparseWf_sset h.1 | exact sparseWf_nil | exact sparseWf_filter h.1 | exact sparseWf_smap h.1 | exact sparseWf_sdrop h.1 | exact sparseWf_sset (sparseWf_sset h.1) | exact sparseWf_fold sparseWf_nil | (dsimp only; exact sparseWf_smap h.1)), (by first | exact h.2 | exact sparseWf_sset h.2 | exact sparseWf_nil | exact sparseWf_filter h.2 | exact sparseWf_smap h.2 | exact sparseWf_sdrop h.2 | exact sparseWf_sset (sparseWf_sset h.2) | exact sparseWf_fold sparseWf_nil | (dsimp only; exact sparseWf_smap h.2))⟩)
      exact Frame.refl
  · refine Frame.tln ?_ rfl (by first | exact id | exact fun h => ⟨(by first | exact h.1 | exact sparseWf_sset h.1 | exact sparseWf_nil | exact sparseWf_filter h.1 | exact sparseWf_smap h.1 | exact sparseWf_sdrop h.1 | exact sparseWf_sset (sparseWf_sset h.1) | exact sparseWf_fold sparseWf_nil | (dsimp only; exact sparseWf_smap h.1)), (by first | exact h.2 | exact sparseWf_sset h.2 | exact sparseWf_nil | exact sparseWf_filter h.2 | exact sparseWf_smap h.2 | exact sparseWf_sdrop h.2 | exact sparseWf_sset (sparseWf_sset h.2) | exact sparseWf_fold sparseWf_nil | (dsimp only; exact sparseWf_smap h.2))⟩)
    exact Frame.refl

theorem execTcodeFrame_frame {a0 : TimeCode} : ∃ t, execTcodeFrame a0 s = .next t ∧ Frame (some [.TLN_EVENT]) [.events, .sup, .tln] s t := by
  refine ⟨_, rfl, ?_⟩
  first | split | (clear_value *; split)
  · refine Frame.tln ?_ rfl (by first | exact id | exact fun h => ⟨(by first | exact h.1 | exact sparseWf_sset h.1 | exact sparseWf_nil | exact sparseWf_filter h.1 | exact sparseWf_smap h.1 | exact sparseWf_sdrop h.1 | exact sparseWf_sset (sparseWf_sset h.1) | exact sparseWf_fold sparseWf_nil | (dsimp only; exact sparseWf_smap h.1)), (by first | exact h.2 | exact sparseWf_sset h.2 | exact sparseWf_nil | exact sparseWf_filter h.2 | exact sparseWf_smap h.2 | exact sparseWf_sdrop h.2 | exact sparseWf_sset (sparseWf_sset h.2) | exact sparseWf_fold sparseWf_nil | (dsimp only; exact sparseWf_smap h.2))⟩)
    exact Frame.refl
  · extract_lets -merge -useContext -underBinder +onlyGivenNames x1
    refine Frame.via x1 ?_ fun h1 => ?_
    · unfold x1
      refine Frame.raise ?_ (inRows_of (r := .TLN_EVENT) rfl (by exact rfl)) rfl
      exact Frame.refl
    try clear_value x1
    refine Frame.tln ?_ rfl (by first | exact id | exact fun h => ⟨(by first | exact h.1 | exact sparseWf_sset h.1 | exact sparseWf_nil | exact sparseWf_filter h.1 | exact sparseWf_smap h.1 | exact sparseWf_sdrop h.1 | exact sparseWf_sset (sparseWf_sset h.1) | exact sparseWf_fold sparseWf_nil | (dsimp only; exact sparseWf_smap h.1)), (by first | exact h.2 | exact sparseWf_sset h.2 | exact sparseWf_nil | exact sparseWf_filter h.2 | exact sparseWf_smap h.2 | exact sparseWf_sdrop h.2 | exact sparseWf_sset (sparseWf_sset h.2) | exact sparseWf_fold sparseWf_nil | (dsimp only; exact sparseWf_smap h.2))⟩)
    exact h1

theorem applyLeap_frame {a0 : Int} : Frame (some [.TLN_EVENT, .TLN_UTC_OFFSET]) [.events, .sup] s (applyLeap a0 s) := by
  unfold applyLeap
  extract_lets -merge -useContext -underBinder +onlyGivenNames v1 v2
  refine Frame.ite (fun _ => ?_) (fun _ => ?_)
  · refine Frame.raise ?_ (inRows_of (r := .TLN_EVENT) rfl (by exact rfl)) rfl
    refine Frame.drop ?_ (inRows_of (r := .TLN_UTC_OFFSET) rfl (by exact rfl))
    refine Frame.put ?_ (inRows_of (r := .TLN_UTC_OFFSET) rfl (by exact rfl))
    exact Frame.refl
  · exact Frame.refl

theorem execPpsEdge_frame {a0 : Nat} {a1 : Fin 512} : ∃ t, execPpsEdge a0 a1 s = .next t ∧ Frame (some [.TLN_ADJ, .TLN_COUNT, .TLN_EVENT, .TLN_HOLD_ADJ, .TLN_OFFSET, .TLN_REFUSED_HI, .TLN_REFUSED_LO, .TLN_STATUS, .TLN_UTC_OFFSET]) [.csc, .events, .sup, .tln] s t := by
  refine ⟨_, rfl, ?_⟩
  refine Frame.ite (fun _ => ?_) (fun _ => ?_)
  · extract_lets -merge -useContext -underBinder +onlyGivenNames w1 x2
    refine Frame.via x2 ?_ fun h2 => ?_
    · unfold x2
      refine Frame.then ?_ showQualified_frame rfl rfl
      refine Frame.tln ?_ rfl (by first | exact id | exact fun h => ⟨(by first | exact h.1 | exact sparseWf_sset h.1 | exact sparseWf_nil | exact sparseWf_filter h.1 | exact sparseWf_smap h.1 | exact sparseWf_sdrop h.1 | exact sparseWf_sset (sparseWf_sset h.1) | exact sparseWf_fold sparseWf_nil | (dsimp only; exact sparseWf_smap h.1)), (by first | exact h.2 | exact sparseWf_sset h.2 | exact sparseWf_nil | exact sparseWf_filter h.2 | exact sparseWf_smap h.2 | exact sparseWf_sdrop h.2 | exact sparseWf_sset (sparseWf_sset h.2) | exact sparseWf_fold sparseWf_nil | (dsimp only; exact sparseWf_smap h.2))⟩)
      first | split | (clear_value *; split)
      · refine Frame.ite (fun _ => ?_) (fun _ => ?_)
        · refine Frame.then ?_ applyLeap_frame rfl rfl
          refine Frame.tln ?_ rfl (by first | exact id | exact fun h => ⟨(by first | exact h.1 | exact sparseWf_sset h.1 | exact sparseWf_nil | exact sparseWf_filter h.1 | exact sparseWf_smap h.1 | exact sparseWf_sdrop h.1 | exact sparseWf_sset (sparseWf_sset h.1) | exact sparseWf_fold sparseWf_nil | (dsimp only; exact sparseWf_smap h.1)), (by first | exact h.2 | exact sparseWf_sset h.2 | exact sparseWf_nil | exact sparseWf_filter h.2 | exact sparseWf_smap h.2 | exact sparseWf_sdrop h.2 | exact sparseWf_sset (sparseWf_sset h.2) | exact sparseWf_fold sparseWf_nil | (dsimp only; exact sparseWf_smap h.2))⟩)
          exact Frame.refl
        · refine Frame.tln ?_ rfl (by first | exact id | exact fun h => ⟨(by first | exact h.1 | exact sparseWf_sset h.1 | exact sparseWf_nil | exact sparseWf_filter h.1 | exact sparseWf_smap h.1 | exact sparseWf_sdrop h.1 | exact sparseWf_sset (sparseWf_sset h.1) | exact sparseWf_fold sparseWf_nil | (dsimp only; exact sparseWf_smap h.1)), (by first | exact h.2 | exact sparseWf_sset h.2 | exact sparseWf_nil | exact sparseWf_filter h.2 | exact sparseWf_smap h.2 | exact sparseWf_sdrop h.2 | exact sparseWf_sset (sparseWf_sset h.2) | exact sparseWf_fold sparseWf_nil | (dsimp only; exact sparseWf_smap h.2))⟩)
          exact Frame.refl
      · refine Frame.tln ?_ rfl (by first | exact id | exact fun h => ⟨(by first | exact h.1 | exact sparseWf_sset h.1 | exact sparseWf_nil | exact sparseWf_filter h.1 | exact sparseWf_smap h.1 | exact sparseWf_sdrop h.1 | exact sparseWf_sset (sparseWf_sset h.1) | exact sparseWf_fold sparseWf_nil | (dsimp only; exact sparseWf_smap h.1)), (by first | exact h.2 | exact sparseWf_sset h.2 | exact sparseWf_nil | exact sparseWf_filter h.2 | exact sparseWf_smap h.2 | exact sparseWf_sdrop h.2 | exact sparseWf_sset (sparseWf_sset h.2) | exact sparseWf_fold sparseWf_nil | (dsimp only; exact sparseWf_smap h.2))⟩)
        exact Frame.refl
    try clear_value x2
    first | split | (clear_value *; split)
    · extract_lets -merge -useContext -underBinder +onlyGivenNames v3
      refine Frame.ite (fun _ => ?_) (fun _ => ?_)
      · refine Frame.then ?_ measure_frame rfl rfl
        exact h2
      · exact h2
    · exact h2
  · first | split | (clear_value *; split)
    · refine Frame.ite (fun _ => ?_) (fun _ => ?_)
      · refine Frame.then ?_ applyLeap_frame rfl rfl
        refine Frame.tln ?_ rfl (by first | exact id | exact fun h => ⟨(by first | exact h.1 | exact sparseWf_sset h.1 | exact sparseWf_nil | exact sparseWf_filter h.1 | exact sparseWf_smap h.1 | exact sparseWf_sdrop h.1 | exact sparseWf_sset (sparseWf_sset h.1) | exact sparseWf_fold sparseWf_nil | (dsimp only; exact sparseWf_smap h.1)), (by first | exact h.2 | exact sparseWf_sset h.2 | exact sparseWf_nil | exact sparseWf_filter h.2 | exact sparseWf_smap h.2 | exact sparseWf_sdrop h.2 | exact sparseWf_sset (sparseWf_sset h.2) | exact sparseWf_fold sparseWf_nil | (dsimp only; exact sparseWf_smap h.2))⟩)
        exact Frame.refl
      · refine Frame.tln ?_ rfl (by first | exact id | exact fun h => ⟨(by first | exact h.1 | exact sparseWf_sset h.1 | exact sparseWf_nil | exact sparseWf_filter h.1 | exact sparseWf_smap h.1 | exact sparseWf_sdrop h.1 | exact sparseWf_sset (sparseWf_sset h.1) | exact sparseWf_fold sparseWf_nil | (dsimp only; exact sparseWf_smap h.1)), (by first | exact h.2 | exact sparseWf_sset h.2 | exact sparseWf_nil | exact sparseWf_filter h.2 | exact sparseWf_smap h.2 | exact sparseWf_sdrop h.2 | exact sparseWf_sset (sparseWf_sset h.2) | exact sparseWf_fold sparseWf_nil | (dsimp only; exact sparseWf_smap h.2))⟩)
        exact Frame.refl
    · refine Frame.tln ?_ rfl (by first | exact id | exact fun h => ⟨(by first | exact h.1 | exact sparseWf_sset h.1 | exact sparseWf_nil | exact sparseWf_filter h.1 | exact sparseWf_smap h.1 | exact sparseWf_sdrop h.1 | exact sparseWf_sset (sparseWf_sset h.1) | exact sparseWf_fold sparseWf_nil | (dsimp only; exact sparseWf_smap h.1)), (by first | exact h.2 | exact sparseWf_sset h.2 | exact sparseWf_nil | exact sparseWf_filter h.2 | exact sparseWf_smap h.2 | exact sparseWf_sdrop h.2 | exact sparseWf_sset (sparseWf_sset h.2) | exact sparseWf_fold sparseWf_nil | (dsimp only; exact sparseWf_smap h.2))⟩)
      exact Frame.refl

theorem loseExt_frame  : Frame (some [.TLN_ADJ, .TLN_COUNT, .TLN_EVENT, .TLN_STATUS]) [.events, .sup, .tln] s (loseExt s) := by
  unfold loseExt
  extract_lets -merge -useContext -underBinder +onlyGivenNames w1 x2
  refine Frame.via x2 ?_ fun h2 => ?_
  · unfold x2
    refine Frame.tln ?_ rfl (by first | exact id | exact fun h => ⟨(by first | exact h.1 | exact sparseWf_sset h.1 | exact sparseWf_nil | exact sparseWf_filter h.1 | exact sparseWf_smap h.1 | exact sparseWf_sdrop h.1 | exact sparseWf_sset (sparseWf_sset h.1) | exact sparseWf_fold sparseWf_nil | (dsimp only; exact sparseWf_smap h.1)), (by first | exact h.2 | exact sparseWf_sset h.2 | exact sparseWf_nil | exact sparseWf_filter h.2 | exact sparseWf_smap h.2 | exact sparseWf_sdrop h.2 | exact sparseWf_sset (sparseWf_sset h.2) | exact sparseWf_fold sparseWf_nil | (dsimp only; exact sparseWf_smap h.2))⟩)
    exact Frame.refl
  try clear_value x2
  refine Frame.ite (fun _ => ?_) (fun _ => ?_)
  · refine Frame.then ?_ loseSource_frame rfl rfl
    exact h2
  · exact h2

theorem execRef10mLoss_frame  : ∃ t, execRef10mLoss s = .next t ∧ Frame (some [.TLN_ADJ, .TLN_COUNT, .TLN_EVENT, .TLN_STATUS]) [.events, .sup, .tln] s t := by
  refine ⟨_, rfl, ?_⟩
  refine Frame.then ?_ loseExt_frame rfl rfl
  refine Frame.tln ?_ rfl (by first | exact id | exact fun h => ⟨(by first | exact h.1 | exact sparseWf_sset h.1 | exact sparseWf_nil | exact sparseWf_filter h.1 | exact sparseWf_smap h.1 | exact sparseWf_sdrop h.1 | exact sparseWf_sset (sparseWf_sset h.1) | exact sparseWf_fold sparseWf_nil | (dsimp only; exact sparseWf_smap h.1)), (by first | exact h.2 | exact sparseWf_sset h.2 | exact sparseWf_nil | exact sparseWf_filter h.2 | exact sparseWf_smap h.2 | exact sparseWf_sdrop h.2 | exact sparseWf_sset (sparseWf_sset h.2) | exact sparseWf_fold sparseWf_nil | (dsimp only; exact sparseWf_smap h.2))⟩)
  exact Frame.refl

theorem execPpsLoss_frame  : ∃ t, execPpsLoss s = .next t ∧ Frame (some [.TLN_ADJ, .TLN_COUNT, .TLN_EVENT, .TLN_STATUS]) [.events, .sup, .tln] s t := by
  refine ⟨_, rfl, ?_⟩
  refine Frame.then ?_ loseExt_frame rfl rfl
  exact Frame.refl

theorem acceptSlewOut_frame  : Frame (some [.TLN_STATUS]) [.tln] s (acceptSlewOut s) := by
  unfold acceptSlewOut
  refine Frame.ite (fun _ => ?_) (fun _ => ?_)
  · extract_lets -merge -useContext -underBinder +onlyGivenNames x1
    refine Frame.via x1 ?_ fun h1 => ?_
    · unfold x1
      refine Frame.put ?_ (inRows_of (r := .TLN_STATUS) rfl (by exact rfl))
      refine Frame.then ?_ liftRefusal_frame rfl rfl
      exact Frame.refl
    try clear_value x1
    refine Frame.tln ?_ rfl (by first | exact id | exact fun h => ⟨(by first | exact h.1 | exact sparseWf_sset h.1 | exact sparseWf_nil | exact sparseWf_filter h.1 | exact sparseWf_smap h.1 | exact sparseWf_sdrop h.1 | exact sparseWf_sset (sparseWf_sset h.1) | exact sparseWf_fold sparseWf_nil | (dsimp only; exact sparseWf_smap h.1)), (by first | exact h.2 | exact sparseWf_sset h.2 | exact sparseWf_nil | exact sparseWf_filter h.2 | exact sparseWf_smap h.2 | exact sparseWf_sdrop h.2 | exact sparseWf_sset (sparseWf_sset h.2) | exact sparseWf_fold sparseWf_nil | (dsimp only; exact sparseWf_smap h.2))⟩)
    exact h1
  · exact Frame.refl

theorem execAcceptSlewOut_frame {a0 : Path} : ∃ t, execAcceptSlewOut a0 s = .next t ∧ Frame (some [.HIF_EVENT, .HIF_WR_REF, .HIF_WR_REF_ADDR_HI, .HIF_WR_REF_ADDR_LO, .TLN_STATUS]) [.events, .resp, .sup, .tln] s t := by
  refine ⟨_, rfl, ?_⟩
  refine gated_frame ?_ rfl rfl (fun x hx => ?_)
  · exact Frame.refl
  · refine Frame.then ?_ acceptSlewOut_frame rfl rfl
    exact hx

theorem acceptStepFwd_frame  : Frame (some [.TLN_STATUS]) [.tln] s (acceptStepFwd s) := by
  unfold acceptStepFwd
  refine Frame.ite (fun _ => ?_) (fun _ => ?_)
  · extract_lets -merge -useContext -underBinder +onlyGivenNames x1
    refine Frame.via x1 ?_ fun h1 => ?_
    · unfold x1
      refine Frame.put ?_ (inRows_of (r := .TLN_STATUS) rfl (by exact rfl))
      refine Frame.then ?_ liftRefusal_frame rfl rfl
      exact Frame.refl
    try clear_value x1
    refine Frame.tln ?_ rfl (by first | exact id | exact fun h => ⟨(by first | exact h.1 | exact sparseWf_sset h.1 | exact sparseWf_nil | exact sparseWf_filter h.1 | exact sparseWf_smap h.1 | exact sparseWf_sdrop h.1 | exact sparseWf_sset (sparseWf_sset h.1) | exact sparseWf_fold sparseWf_nil | (dsimp only; exact sparseWf_smap h.1)), (by first | exact h.2 | exact sparseWf_sset h.2 | exact sparseWf_nil | exact sparseWf_filter h.2 | exact sparseWf_smap h.2 | exact sparseWf_sdrop h.2 | exact sparseWf_sset (sparseWf_sset h.2) | exact sparseWf_fold sparseWf_nil | (dsimp only; exact sparseWf_smap h.2))⟩)
    exact h1
  · exact Frame.refl

theorem execAcceptStepFwd_frame {a0 : Path} : ∃ t, execAcceptStepFwd a0 s = .next t ∧ Frame (some [.HIF_EVENT, .HIF_WR_REF, .HIF_WR_REF_ADDR_HI, .HIF_WR_REF_ADDR_LO, .TLN_STATUS]) [.events, .resp, .sup, .tln] s t := by
  refine ⟨_, rfl, ?_⟩
  refine gated_frame ?_ rfl rfl (fun x hx => ?_)
  · exact Frame.refl
  · refine Frame.then ?_ acceptStepFwd_frame rfl rfl
    exact hx

theorem missSlot_frame {a0 : Nat} : Frame (some [.TLN_EVENT, .TLN_LAUNCH_CFG]) [.events, .sup, .tln] s (missSlot a0 s) := by
  unfold missSlot
  extract_lets -merge -useContext -underBinder +onlyGivenNames x1
  refine Frame.via x1 ?_ fun h1 => ?_
  · unfold x1
    refine Frame.raise ?_ (inRows_of (r := .TLN_EVENT) rfl (by exact rfl)) rfl
    refine Frame.raise ?_ (inRows_of (r := .TLN_LAUNCH_CFG) rfl (by exact ⟨_, rfl⟩)) rfl
    exact Frame.refl
  try clear_value x1
  extract_lets -merge -useContext -underBinder +onlyGivenNames x2
  refine Frame.via x2 ?_ fun h2 => ?_
  · unfold x2
    refine Frame.drop ?_ (inRows_of (r := .TLN_LAUNCH_CFG) rfl (by exact ⟨_, rfl⟩))
    exact h1
  try clear_value x2
  refine Frame.tln ?_ rfl (fun h => ⟨(by first | exact h.1 | exact sparseWf_sset h.1 | exact sparseWf_nil | exact sparseWf_filter h.1 | exact sparseWf_smap h.1 | exact sparseWf_sdrop h.1 | exact sparseWf_sset (sparseWf_sset h.1) | exact sparseWf_fold sparseWf_nil | (dsimp only; exact sparseWf_smap h.1)), (by first | exact h.2 | exact sparseWf_sset h.2 | exact sparseWf_nil | exact sparseWf_filter h.2 | exact sparseWf_smap h.2 | exact sparseWf_sdrop h.2 | exact sparseWf_sset (sparseWf_sset h.2) | exact sparseWf_fold sparseWf_nil | (dsimp only; exact sparseWf_smap h.2))⟩)
  exact h2

theorem writeLaunchCfg_frame {a0 : Path} {a1 : Nat} {a2 : Word} : Frame none [.events, .later, .resp, .sup, .tln] s (writeLaunchCfg a0 a1 a2 s) := by
  unfold writeLaunchCfg
  extract_lets -merge -useContext -underBinder +onlyGivenNames v1 x2
  refine Frame.via x2 ?_ fun h2 => ?_
  · unfold x2
    refine Frame.then ?_ plainWrite_frame rfl rfl
    exact Frame.refl
  try clear_value x2
  refine Frame.ite (fun _ => ?_) (fun _ => ?_)
  · extract_lets -merge -useContext -underBinder +onlyGivenNames x3
    refine Frame.via x3 ?_ fun h3 => ?_
    · unfold x3
      refine Frame.then ?_ missSlot_frame rfl rfl
      exact h2
    try clear_value x3
    refine Frame.upd (t := x3) [.later, .tln] ?_ rfl rfl (fun p hn => by cases p <;> first | rfl | exact ⟨rfl, rfl⟩ | exact ⟨rfl, rfl, rfl⟩ | exact absurd hn (by decide)) (fun p hm => by
        simp only [List.mem_cons, List.not_mem_nil, or_false] at hm
        rcases hm with rfl | rfl
        · exact fun _ => trivial
        · exact fun h => ⟨(by first | exact h.1 | exact sparseWf_sset h.1 | exact sparseWf_nil | exact sparseWf_filter h.1 | exact sparseWf_smap h.1 | exact sparseWf_sdrop h.1 | exact sparseWf_sset (sparseWf_sset h.1) | exact sparseWf_fold sparseWf_nil | (dsimp only; exact sparseWf_smap h.1)), (by first | exact h.2 | exact sparseWf_sset h.2 | exact sparseWf_nil | exact sparseWf_filter h.2 | exact sparseWf_smap h.2 | exact sparseWf_sdrop h.2 | exact sparseWf_sset (sparseWf_sset h.2) | exact sparseWf_fold sparseWf_nil | (dsimp only; exact sparseWf_smap h.2))⟩)
    exact h3
  · exact h2

theorem disarmSlot_frame {a0 : Nat} : Frame (some [.TLN_LAUNCH_CFG]) [.tln] s (disarmSlot a0 s) := by
  unfold disarmSlot
  extract_lets -merge -useContext -underBinder +onlyGivenNames x1
  refine Frame.via x1 ?_ fun h1 => ?_
  · unfold x1
    refine Frame.put ?_ (inRows_of (r := .TLN_LAUNCH_CFG) rfl (by exact ⟨_, rfl⟩))
    exact Frame.refl
  try clear_value x1
  refine Frame.tln ?_ rfl (fun h => ⟨(by first | exact h.1 | exact sparseWf_sset h.1 | exact sparseWf_nil | exact sparseWf_filter h.1 | exact sparseWf_smap h.1 | exact sparseWf_sdrop h.1 | exact sparseWf_sset (sparseWf_sset h.1) | exact sparseWf_fold sparseWf_nil | (dsimp only; exact sparseWf_smap h.1)), (by first | exact h.2 | exact sparseWf_sset h.2 | exact sparseWf_nil | exact sparseWf_filter h.2 | exact sparseWf_smap h.2 | exact sparseWf_sdrop h.2 | exact sparseWf_sset (sparseWf_sset h.2) | exact sparseWf_fold sparseWf_nil | (dsimp only; exact sparseWf_smap h.2))⟩)
  exact h1

theorem execLaunchArm_frame {a0 : Path} {a1 : Fin 16} {a2 : Word} : ∃ t, execLaunchArm a0 a1 a2 s = .next t ∧ Frame none [.events, .later, .resp, .sup, .tln] s t := by
  refine ⟨_, rfl, ?_⟩
  refine Frame.then ?_ writeLaunchCfg_frame rfl rfl
  exact Frame.refl

theorem launchSlot_frame {a0 : Nat} : Frame (some [.TLN_EVENT, .TLN_LAUNCH_ACT_HI, .TLN_LAUNCH_ACT_LO, .TLN_LAUNCH_CFG]) [.events, .free, .sup, .tln] s (launchSlot a0 s) := by
  unfold launchSlot
  extract_lets -merge -useContext -underBinder +onlyGivenNames v1 v2 v3 v4 v5 v6 v7
  refine Frame.ite (fun _ => ?_) (fun _ => ?_)
  · exact Frame.refl
  · extract_lets -merge -useContext -underBinder +onlyGivenNames v8 x9
    refine Frame.via x9 ?_ fun h9 => ?_
    · unfold x9
      refine Frame.raise ?_ (inRows_of (r := .TLN_EVENT) rfl (by exact rfl)) rfl
      refine Frame.raise ?_ (inRows_of (r := .TLN_LAUNCH_CFG) rfl (by exact ⟨_, rfl⟩)) rfl
      exact Frame.refl
    try clear_value x9
    extract_lets -merge -useContext -underBinder +onlyGivenNames w10 x11
    refine Frame.via x11 ?_ fun h11 => ?_
    · unfold x11
      refine Frame.ite (fun _ => ?_) (fun _ => ?_)
      · refine Frame.tln ?_ rfl (by first | exact id | exact fun h => ⟨(by first | exact h.1 | exact sparseWf_sset h.1 | exact sparseWf_nil | exact sparseWf_filter h.1 | exact sparseWf_smap h.1 | exact sparseWf_sdrop h.1 | exact sparseWf_sset (sparseWf_sset h.1) | exact sparseWf_fold sparseWf_nil | (dsimp only; exact sparseWf_smap h.1)), (by first | exact h.2 | exact sparseWf_sset h.2 | exact sparseWf_nil | exact sparseWf_filter h.2 | exact sparseWf_smap h.2 | exact sparseWf_sdrop h.2 | exact sparseWf_sset (sparseWf_sset h.2) | exact sparseWf_fold sparseWf_nil | (dsimp only; exact sparseWf_smap h.2))⟩)
        exact h9
      · exact Frame.refl
    try clear_value x11
    refine Frame.ite (fun _ => ?_) (fun _ => ?_)
    · exact h11
    · first | split | (clear_value *; split)
      · rename_i x12 e12
        refine Frame.via x12 (Frame.ofSnd e12 ?_) fun h12 => ?_
        · refine Frame.fresh ?_ rfl
          exact h11
        extract_lets -merge -useContext -underBinder +onlyGivenNames v13 x14
        refine Frame.via x14 ?_ fun h14 => ?_
        · unfold x14
          refine Frame.wr64 ?_ (inRows_of (r := .TLN_LAUNCH_ACT_LO) rfl (by exact ⟨_, rfl⟩)) (inRows_of (r := .TLN_LAUNCH_ACT_HI) rfl (by exact ⟨_, hiShift1 (by decide)⟩))
          exact h12
        try clear_value x14
        extract_lets -merge -useContext -underBinder +onlyGivenNames x15
        refine Frame.via x15 ?_ fun h15 => ?_
        · unfold x15
          refine Frame.drop ?_ (inRows_of (r := .TLN_LAUNCH_CFG) rfl (by exact ⟨_, rfl⟩))
          refine Frame.raise ?_ (inRows_of (r := .TLN_EVENT) rfl (by exact rfl)) rfl
          exact h14
        try clear_value x15
        refine Frame.tln ?_ rfl (fun h => ⟨(by first | exact h.1 | exact sparseWf_sset h.1 | exact sparseWf_nil | exact sparseWf_filter h.1 | exact sparseWf_smap h.1 | exact sparseWf_sdrop h.1 | exact sparseWf_sset (sparseWf_sset h.1) | exact sparseWf_fold sparseWf_nil | (dsimp only; exact sparseWf_smap h.1)), (by first | exact h.2 | exact sparseWf_sset h.2 | exact sparseWf_nil | exact sparseWf_filter h.2 | exact sparseWf_smap h.2 | exact sparseWf_sdrop h.2 | exact sparseWf_sset (sparseWf_sset h.2) | exact sparseWf_fold sparseWf_nil | (dsimp only; exact sparseWf_smap h.2))⟩)
        exact h15

theorem execLaunch_frame {a0 : Fin 16} : ∃ t, execLaunch a0 s = .next t ∧ Frame (some [.TLN_EVENT, .TLN_LAUNCH_ACT_HI, .TLN_LAUNCH_ACT_LO, .TLN_LAUNCH_CFG]) [.events, .free, .sup, .tln] s t := by
  refine ⟨_, rfl, ?_⟩
  refine Frame.then ?_ launchSlot_frame rfl rfl
  exact Frame.refl

theorem execLaunchMiss_frame {a0 : Fin 16} : ∃ t, execLaunchMiss a0 s = .next t ∧ Frame (some [.TLN_EVENT, .TLN_LAUNCH_CFG]) [.events, .sup, .tln] s t := by
  refine ⟨_, rfl, ?_⟩
  refine Frame.ite (fun _ => ?_) (fun _ => ?_)
  · refine Frame.then ?_ missSlot_frame rfl rfl
    exact Frame.refl
  · exact Frame.refl

end Sys2Proof.Machine
end

