-- ==== Sys2Proof/Laws/Frame/Cascade.lean ====
section
/-! SUPPORT. Laws/Frame/Cascade.lean: what each operation of Machine/Cascade.lean can change, and that it keeps a sound state sound. -/

set_option Elab.async false

namespace Sys2Proof.Machine

variable {R : Option (List RegRow)} {P : List Part} {s t : State}

theorem enterTw_frame {a0 : Nat} {a1 : Nat} : Frame (some [.CSC_TW_STATUS]) [.csc] s (enterTw a0 a1 s) := by
  unfold enterTw
  refine Frame.then ?_ State.setTwist_frame rfl rfl
  refine Frame.put ?_ (inRows_of (r := .CSC_TW_STATUS) rfl (by exact ⟨_, rfl⟩))
  exact Frame.refl

theorem leaveUp_frame {a0 : Nat} : Frame (some [.CSC_EVENT, .CSC_STATUS, .CSC_TW_STATUS, .TLN_ADJ, .TLN_COUNT, .TLN_EVENT, .TLN_STATUS]) [.csc, .events, .sup, .tln] s (leaveUp a0 s) := by
  unfold leaveUp
  refine Frame.ite (fun _ => ?_) (fun _ => ?_)
  · extract_lets -merge -useContext -underBinder +onlyGivenNames x1
    refine Frame.via x1 ?_ fun h1 => ?_
    · unfold x1
      refine Frame.raise ?_ (inRows_of (r := .CSC_EVENT) rfl (by exact rfl)) rfl
      exact Frame.refl
    try clear_value x1
    extract_lets -merge -useContext -underBinder +onlyGivenNames v2 x3
    refine Frame.via x3 ?_ fun h3 => ?_
    · unfold x3
      refine Frame.then ?_ State.setTwist_frame rfl rfl
      exact h1
    try clear_value x3
    extract_lets -merge -useContext -underBinder +onlyGivenNames x4
    refine Frame.via x4 ?_ fun h4 => ?_
    · unfold x4
      refine Frame.put ?_ (inRows_of (r := .CSC_TW_STATUS) rfl (by exact ⟨_, rfl⟩))
      exact h3
    try clear_value x4
    refine Frame.ite (fun _ => ?_) (fun _ => ?_)
    · refine Frame.then ?_ loseCascade_frame rfl rfl
      exact h4
    · exact h4
  · exact Frame.refl

theorem twDown_frame {a0 : Nat} : Frame (some [.CSC_EVENT, .CSC_STATUS, .CSC_TW_STATUS, .TLN_ADJ, .TLN_COUNT, .TLN_EVENT, .TLN_STATUS]) [.csc, .events, .sup, .tln] s (twDown a0 s) := by
  unfold twDown
  refine Frame.then ?_ enterTw_frame rfl rfl
  refine Frame.then ?_ leaveUp_frame rfl rfl
  exact Frame.refl

theorem twFail_frame {a0 : Nat} {a1 : Nat} : Frame (some [.CSC_EVENT, .CSC_STATUS, .CSC_TW_STATUS, .TLN_ADJ, .TLN_COUNT, .TLN_EVENT, .TLN_STATUS]) [.csc, .events, .sup, .tln] s (twFail a0 a1 s) := by
  unfold twFail
  extract_lets -merge -useContext -underBinder +onlyGivenNames x1
  refine Frame.via x1 ?_ fun h1 => ?_
  · unfold x1
    refine Frame.put ?_ (inRows_of (r := .CSC_TW_STATUS) rfl (by exact ⟨_, rfl⟩))
    refine Frame.then ?_ enterTw_frame rfl rfl
    refine Frame.then ?_ leaveUp_frame rfl rfl
    exact Frame.refl
  try clear_value x1
  refine Frame.raise ?_ (inRows_of (r := .CSC_EVENT) rfl (by exact rfl)) rfl
  exact h1

theorem twTrain_frame {a0 : Nat} : Frame (some [.CSC_TW_STATUS]) [.csc] s (twTrain a0 s) := by
  unfold twTrain
  refine Frame.ite (fun _ => ?_) (fun _ => ?_)
  · extract_lets -merge -useContext -underBinder +onlyGivenNames x1
    refine Frame.via x1 ?_ fun h1 => ?_
    · unfold x1
      refine Frame.wr ?_ (inRows_of (r := .CSC_TW_STATUS) rfl (by exact ⟨_, rfl⟩))
      exact Frame.refl
    try clear_value x1
    extract_lets -merge -useContext -underBinder +onlyGivenNames v2 x3
    refine Frame.via x3 ?_ fun h3 => ?_
    · unfold x3
      refine Frame.then ?_ State.setTwist_frame rfl rfl
      exact h1
    try clear_value x3
    refine Frame.then ?_ enterTw_frame rfl rfl
    exact h3
  · exact Frame.refl

theorem execTwTrainStart_frame {a0 : Fin 4} : ∃ t, execTwTrainStart a0 s = .next t ∧ Frame (some [.CSC_TW_STATUS]) [.csc] s t := by
  refine ⟨_, rfl, ?_⟩
  refine Frame.ite (fun _ => ?_) (fun _ => ?_)
  · refine Frame.then ?_ twTrain_frame rfl rfl
    exact Frame.refl
  · exact Frame.refl

theorem execTwCdrLock_frame {a0 : Fin 4} : ∃ t, execTwCdrLock a0 s = .next t ∧ Frame (some [.CSC_TW_STATUS]) [.csc] s t := by
  refine ⟨_, rfl, ?_⟩
  refine Frame.ite (fun _ => ?_) (fun _ => ?_)
  · refine Frame.then ?_ enterTw_frame rfl rfl
    exact Frame.refl
  · exact Frame.refl

theorem execTwAlignDone_frame {a0 : Fin 4} {a1 : BitVec 4} : ∃ t, execTwAlignDone a0 a1 s = .next t ∧ Frame (some [.CSC_TW_STATUS]) [.csc] s t := by
  refine ⟨_, rfl, ?_⟩
  refine Frame.ite (fun _ => ?_) (fun _ => ?_)
  · refine Frame.put ?_ (inRows_of (r := .CSC_TW_STATUS) rfl (by exact ⟨_, rfl⟩))
    refine Frame.then ?_ enterTw_frame rfl rfl
    exact Frame.refl
  · exact Frame.refl

theorem execTwIdent_frame {a0 : Fin 4} {a1 : BitVec 6} {a2 : BitVec 2} {a3 : BitVec 6} : ∃ t, execTwIdent a0 a1 a2 a3 s = .next t ∧ Frame (some [.CSC_EVENT, .CSC_STATUS, .CSC_TW_STATUS, .TLN_ADJ, .TLN_COUNT, .TLN_EVENT, .TLN_STATUS]) [.csc, .events, .sup, .tln] s t := by
  refine ⟨_, rfl, ?_⟩
  refine Frame.ite (fun _ => ?_) (fun _ => ?_)
  · extract_lets -merge -useContext -underBinder +onlyGivenNames x1
    refine Frame.via x1 ?_ fun h1 => ?_
    · unfold x1
      refine Frame.put ?_ (inRows_of (r := .CSC_TW_STATUS) rfl (by exact ⟨_, rfl⟩))
      exact Frame.refl
    try clear_value x1
    extract_lets -merge -useContext -underBinder +onlyGivenNames v2 v3 v4 v5
    refine Frame.ite (fun _ => ?_) (fun _ => ?_)
    · refine Frame.raise ?_ (inRows_of (r := .CSC_EVENT) rfl (by exact rfl)) rfl
      refine Frame.then ?_ twFail_frame rfl rfl
      exact h1
    · refine Frame.ite (fun _ => ?_) (fun _ => ?_)
      · refine Frame.then ?_ enterTw_frame rfl rfl
        exact h1
      · refine Frame.then ?_ twFail_frame rfl rfl
        exact h1
  · exact Frame.refl

theorem execTwMeasureDone_frame {a0 : Fin 4} {a1 : Nat} {a2 : Nat} {a3 : Nat} {a4 : Nat} : ∃ t, execTwMeasureDone a0 a1 a2 a3 a4 s = .next t ∧ Frame (some [.CSC_EVENT, .CSC_STATUS, .CSC_TW_DELAY, .CSC_TW_STATUS, .TLN_ADJ, .TLN_COUNT, .TLN_EVENT, .TLN_STATUS]) [.csc, .events, .sup, .tln] s t := by
  refine ⟨_, rfl, ?_⟩
  refine Frame.ite (fun _ => ?_) (fun _ => ?_)
  · extract_lets -merge -useContext -underBinder +onlyGivenNames v1 v2 v3 x4
    refine Frame.via x4 ?_ fun h4 => ?_
    · unfold x4
      refine Frame.put ?_ (inRows_of (r := .CSC_TW_DELAY) rfl (by exact ⟨_, rfl⟩))
      exact Frame.refl
    try clear_value x4
    refine Frame.ite (fun _ => ?_) (fun _ => ?_)
    · refine Frame.then ?_ twFail_frame rfl rfl
      exact h4
    · refine Frame.then ?_ enterTw_frame rfl rfl
      exact h4
  · exact Frame.refl

theorem execTwLinkUp_frame {a0 : Fin 4} {a1 : BitVec 8} : ∃ t, execTwLinkUp a0 a1 s = .next t ∧ Frame (some [.CSC_EVENT, .CSC_TW_STATUS]) [.csc, .events, .sup] s t := by
  refine ⟨_, rfl, ?_⟩
  extract_lets -merge -useContext -underBinder +onlyGivenNames v1
  refine Frame.ite (fun _ => ?_) (fun _ => ?_)
  · refine Frame.raise ?_ (inRows_of (r := .CSC_EVENT) rfl (by exact rfl)) rfl
    refine Frame.then ?_ enterTw_frame rfl rfl
    exact Frame.refl
  · exact Frame.refl

theorem execTwTrainFail_frame {a0 : Fin 4} : ∃ t, execTwTrainFail a0 s = .next t ∧ Frame (some [.CSC_EVENT, .CSC_STATUS, .CSC_TW_STATUS, .TLN_ADJ, .TLN_COUNT, .TLN_EVENT, .TLN_STATUS]) [.csc, .events, .sup, .tln] s t := by
  refine ⟨_, rfl, ?_⟩
  refine Frame.ite (fun _ => ?_) (fun _ => ?_)
  · refine Frame.ite (fun _ => ?_) (fun _ => ?_)
    · refine Frame.then ?_ twFail_frame rfl rfl
      exact Frame.refl
    · refine Frame.ite (fun _ => ?_) (fun _ => ?_)
      · refine Frame.then ?_ twFail_frame rfl rfl
        exact Frame.refl
      · exact Frame.refl
  · exact Frame.refl

theorem execTwRetry_frame {a0 : Fin 4} : ∃ t, execTwRetry a0 s = .next t ∧ Frame (some [.CSC_TW_STATUS]) [.csc] s t := by
  refine ⟨_, rfl, ?_⟩
  refine Frame.ite (fun _ => ?_) (fun _ => ?_)
  · refine Frame.then ?_ twTrain_frame rfl rfl
    exact Frame.refl
  · exact Frame.refl

theorem twCmdWrite_frame {a0 : Nat} {a1 : Word} : Frame (some [.CSC_EVENT, .CSC_STATUS, .CSC_TW_STATUS, .TLN_ADJ, .TLN_COUNT, .TLN_EVENT, .TLN_STATUS]) [.csc, .events, .sup, .tln] s (twCmdWrite a0 a1 s) := by
  unfold twCmdWrite
  refine Frame.ite (fun _ => ?_) (fun _ => ?_)
  · refine Frame.then ?_ twDown_frame rfl rfl
    exact Frame.refl
  · exact Frame.refl

theorem execTwRetrain_frame {a0 : Path} {a1 : Fin 4} {a2 : Word} : ∃ t, execTwRetrain a0 a1 a2 s = .next t ∧ Frame (some [.CSC_EVENT, .CSC_STATUS, .CSC_TW_STATUS, .HIF_EVENT, .HIF_WR_REF, .HIF_WR_REF_ADDR_HI, .HIF_WR_REF_ADDR_LO, .TLN_ADJ, .TLN_COUNT, .TLN_EVENT, .TLN_STATUS]) [.csc, .events, .resp, .sup, .tln] s t := by
  refine ⟨_, rfl, ?_⟩
  refine gated_frame ?_ rfl rfl (fun x hx => ?_)
  · exact Frame.refl
  · refine Frame.then ?_ twCmdWrite_frame rfl rfl
    exact hx

theorem launchOn_frame {a0 : Nat} {a1 : Nat} {a2 : Nat} {a3 : Nat} : Frame (some []) [.csc] s (launchOn a0 a1 a2 a3 s) := by
  unfold launchOn
  extract_lets -merge -useContext -underBinder +onlyGivenNames v1
  first | split | (clear_value *; split)
  · refine Frame.then ?_ State.setTwist_frame rfl rfl
    exact Frame.refl

theorem sendFrame_frame {a0 : Nat} {a1 : Nat} {a2 : Nat} : Frame (some []) [.csc] s (sendFrame a0 a1 a2 s) := by
  unfold sendFrame
  refine Frame.then ?_ launchOn_frame rfl rfl
  exact Frame.refl

theorem bulkFrame_frame {a0 : Nat} {a1 : Nat} : Frame (some []) [.csc, .later] s (bulkFrame a0 a1 s) := by
  unfold bulkFrame
  extract_lets -merge -useContext -underBinder +onlyGivenNames v1 v2
  first | split | (clear_value *; split)
  · extract_lets -merge -useContext -underBinder +onlyGivenNames x3
    refine Frame.via x3 ?_ fun h3 => ?_
    · unfold x3
      refine Frame.then ?_ State.setTwist_frame rfl rfl
      exact Frame.refl
    try clear_value x3
    extract_lets -merge -useContext -underBinder +onlyGivenNames x4
    refine Frame.via x4 ?_ fun h4 => ?_
    · unfold x4
      refine Frame.then ?_ launchOn_frame rfl rfl
      exact h3
    try clear_value x4
    refine Frame.ite (fun _ => ?_) (fun _ => ?_)
    · exact h4
    · refine Frame.later ?_ rfl (fun _ => trivial)
      exact h4
  · exact Frame.refl

theorem cutBulk_frame {a0 : Nat} {a1 : Nat} : Frame (some []) [.csc] s (cutBulk a0 a1 s) := by
  unfold cutBulk
  extract_lets -merge -useContext -underBinder +onlyGivenNames v1 v2
  refine Frame.then ?_ State.setTwist_frame rfl rfl
  exact Frame.refl

theorem launchTime_frame {a0 : Nat} {a1 : Nat × TimeFrame} : Frame (some []) [.csc] s (launchTime a0 a1 s) := by
  unfold launchTime
  extract_lets -merge -useContext -underBinder +onlyGivenNames v1 v2
  first | split | (clear_value *; split)
  · refine Frame.then ?_ sendFrame_frame rfl rfl
    refine Frame.then ?_ State.setTwist_frame rfl rfl
    exact Frame.refl
  · refine Frame.then ?_ sendFrame_frame rfl rfl
    refine Frame.then ?_ State.setTwist_frame rfl rfl
    exact Frame.refl
  · refine Frame.then ?_ sendFrame_frame rfl rfl
    refine Frame.then ?_ State.setTwist_frame rfl rfl
    exact Frame.refl
  · refine Frame.then ?_ sendFrame_frame rfl rfl
    refine Frame.then ?_ State.setTwist_frame rfl rfl
    exact Frame.refl
  · refine Frame.then ?_ sendFrame_frame rfl rfl
    refine Frame.then ?_ State.setTwist_frame rfl rfl
    exact Frame.refl

theorem launchUp_frame {a0 : Nat} : Frame (some []) [.csc] s (launchUp a0 s) := by
  unfold launchUp
  extract_lets -merge -useContext -underBinder +onlyGivenNames v1 v2 v3 v4 v5 v6
  refine Frame.ite (fun _ => ?_) (fun _ => ?_)
  · refine Frame.then ?_ launchOn_frame rfl rfl
    refine Frame.then ?_ launchOn_frame rfl rfl
    exact Frame.refl
  · first | split | (clear_value *; split)
    · refine Frame.then ?_ sendFrame_frame rfl rfl
      refine Frame.then ?_ State.setTwist_frame rfl rfl
      exact Frame.refl
    · refine Frame.then ?_ launchTime_frame rfl rfl
      exact Frame.refl
    · refine Frame.then ?_ sendFrame_frame rfl rfl
      refine Frame.then ?_ State.setTwist_frame rfl rfl
      exact Frame.refl
    · refine Frame.then ?_ sendFrame_frame rfl rfl
      refine Frame.then ?_ State.setTwist_frame rfl rfl
      exact Frame.refl
    · refine Frame.then ?_ sendFrame_frame rfl rfl
      refine Frame.then ?_ State.setTwist_frame rfl rfl
      exact Frame.refl
    · refine Frame.then ?_ launchTime_frame rfl rfl
      exact Frame.refl
    · refine Frame.then ?_ sendFrame_frame rfl rfl
      exact Frame.refl

theorem selectExport_frame {a0 : Nat} : Frame (some [.FAB_GRP_STATUS]) [.csc] s (selectExport a0 s) := by
  unfold selectExport
  extract_lets -merge -useContext -underBinder +onlyGivenNames v1 v2 v3 v4
  refine Frame.ite (fun _ => ?_) (fun _ => ?_)
  · exact Frame.refl
  · first | split | (clear_value *; split)
    · extract_lets -merge -useContext -underBinder +onlyGivenNames v5 v6
      refine Frame.then ?_ State.setTwist_frame rfl rfl
      refine Frame.put ?_ (inRows_of (r := .FAB_GRP_STATUS) rfl (by exact ⟨_, rfl⟩))
      exact Frame.refl
    · exact Frame.refl

theorem countWaits_frame {a0 : Nat} {a1 : Nat} : Frame (some [.CSC_EVENT, .CSC_TW_WAIT]) [.events, .sup] s (countWaits a0 a1 s) := by
  unfold countWaits
  extract_lets -merge -useContext -underBinder +onlyGivenNames v1
  refine Frame.ite (fun _ => ?_) (fun _ => ?_)
  · exact Frame.refl
  · refine Frame.raise ?_ (inRows_of (r := .CSC_EVENT) rfl (by exact rfl)) rfl
    refine Frame.count ?_ (inRows_of (r := .CSC_TW_WAIT) rfl (by exact ⟨_, rfl⟩))
    exact Frame.refl

theorem frameLaunch_frame {a0 : Nat} : Frame (some [.CSC_EVENT, .CSC_TW_WAIT, .FAB_GRP_STATUS]) [.csc, .events, .free, .sup] s (frameLaunch a0 s) := by
  unfold frameLaunch
  refine Frame.ite (fun _ => ?_) (fun _ => ?_)
  · extract_lets -merge -useContext -underBinder +onlyGivenNames v1
    refine Frame.ite (fun _ => ?_) (fun _ => ?_)
    · extract_lets -merge -useContext -underBinder +onlyGivenNames v2 x3
      refine Frame.via x3 ?_ fun h3 => ?_
      · unfold x3
        refine Frame.then ?_ launchUp_frame rfl rfl
        exact Frame.refl
      try clear_value x3
      extract_lets -merge -useContext -underBinder +onlyGivenNames v4 v5
      refine Frame.then ?_ countWaits_frame rfl rfl
      refine Frame.then ?_ selectExport_frame rfl rfl
      exact h3
    · refine Frame.ite (fun _ => ?_) (fun _ => ?_)
      · first | split | (clear_value *; split)
        · refine Frame.then ?_ launchTime_frame rfl rfl
          exact Frame.refl
        · refine Frame.then ?_ sendFrame_frame rfl rfl
          exact Frame.refl
      · refine Frame.ite (fun _ => ?_) (fun _ => ?_)
        · refine Frame.forN _ ?_ fun i x hx => ?_
          · exact Frame.refl
          · first | split | (clear_value *; split)
            · rename_i x6 e6
              refine Frame.via x6 (Frame.ofSnd e6 ?_) fun h6 => ?_
              · refine Frame.fresh ?_ rfl
                exact hx
              refine Frame.then ?_ launchOn_frame rfl rfl
              exact h6
        · refine Frame.then ?_ sendFrame_frame rfl rfl
          exact Frame.refl
  · exact Frame.refl

theorem execFrameLaunch_frame {a0 : Fin 4} : ∃ t, execFrameLaunch a0 s = .next t ∧ Frame (some [.CSC_EVENT, .CSC_TW_WAIT, .FAB_GRP_STATUS]) [.csc, .events, .free, .sup] s t := by
  refine ⟨_, rfl, ?_⟩
  refine Frame.then ?_ frameLaunch_frame rfl rfl
  exact Frame.refl

theorem dutyFailed_frame {a0 : Nat} {a1 : Nat} : Frame (some [.CSC_EVENT, .CSC_STATUS, .CSC_TW_STATUS, .TLN_ADJ, .TLN_COUNT, .TLN_EVENT, .TLN_STATUS]) [.csc, .events, .sup, .tln] s (dutyFailed a0 a1 s) := by
  unfold dutyFailed
  extract_lets -merge -useContext -underBinder +onlyGivenNames v1
  refine Frame.ite (fun _ => ?_) (fun _ => ?_)
  · exact Frame.refl
  · refine Frame.ite (fun _ => ?_) (fun _ => ?_)
    · refine Frame.then ?_ twDown_frame rfl rfl
      exact Frame.refl
    · refine Frame.ite (fun _ => ?_) (fun _ => ?_)
      · exact Frame.refl
      · refine Frame.then ?_ cutBulk_frame rfl rfl
        refine Frame.then ?_ State.setTwist_frame rfl rfl
        exact Frame.refl

theorem frameInvalid_frame {a0 : Nat} {a1 : Nat} : Frame (some [.CSC_EVENT, .CSC_STATUS, .CSC_TW_CRC, .CSC_TW_STATUS, .TLN_ADJ, .TLN_COUNT, .TLN_EVENT, .TLN_STATUS]) [.csc, .events, .sup, .tln] s (frameInvalid a0 a1 s) := by
  unfold frameInvalid
  extract_lets -merge -useContext -underBinder +onlyGivenNames v1 x2
  refine Frame.via x2 ?_ fun h2 => ?_
  · unfold x2
    refine Frame.count ?_ (inRows_of (r := .CSC_TW_CRC) rfl (by exact ⟨_, rfl⟩))
    exact Frame.refl
  try clear_value x2
  refine Frame.ite (fun _ => ?_) (fun _ => ?_)
  · extract_lets -merge -useContext -underBinder +onlyGivenNames x3
    refine Frame.via x3 ?_ fun h3 => ?_
    · unfold x3
      refine Frame.raise ?_ (inRows_of (r := .CSC_EVENT) rfl (by exact rfl)) rfl
      exact h2
    try clear_value x3
    extract_lets -merge -useContext -underBinder +onlyGivenNames v4 x5
    refine Frame.via x5 ?_ fun h5 => ?_
    · unfold x5
      refine Frame.then ?_ State.setTwist_frame rfl rfl
      exact h3
    try clear_value x5
    extract_lets -merge -useContext -underBinder +onlyGivenNames v6
    refine Frame.ite (fun _ => ?_) (fun _ => ?_)
    · refine Frame.then ?_ dutyFailed_frame rfl rfl
      exact h5
    · first | split | (clear_value *; split)
      · refine Frame.then ?_ dutyFailed_frame rfl rfl
        exact h5
      · exact h5
  · exact h2

theorem execFrameInvalid_frame {a0 : Fin 4} {a1 : Fin 4} {a2 : BitVec 58} {a3 : BitVec 64} : ∃ t, execFrameInvalid a0 a1 a2 a3 s = .next t ∧ Frame (some [.CSC_EVENT, .CSC_STATUS, .CSC_TW_CRC, .CSC_TW_STATUS, .TLN_ADJ, .TLN_COUNT, .TLN_EVENT, .TLN_STATUS]) [.csc, .events, .sup, .tln] s t := by
  refine ⟨_, rfl, ?_⟩
  refine Frame.ite (fun _ => ?_) (fun _ => ?_)
  · refine Frame.then ?_ frameInvalid_frame rfl rfl
    exact Frame.refl
  · exact Frame.refl

theorem execCdrLockLoss_frame {a0 : Fin 4} : ∃ t, execCdrLockLoss a0 s = .next t ∧ Frame (some [.CSC_EVENT, .CSC_STATUS, .CSC_TW_STATUS, .TLN_ADJ, .TLN_COUNT, .TLN_EVENT, .TLN_STATUS]) [.csc, .events, .sup, .tln] s t := by
  refine ⟨_, rfl, ?_⟩
  refine Frame.then ?_ dutyFailed_frame rfl rfl
  exact Frame.refl

theorem validFrame_frame {a0 : Nat} {a1 : Nat} : Frame (some []) [.csc] s (validFrame a0 a1 s) := by
  unfold validFrame
  extract_lets -merge -useContext -underBinder +onlyGivenNames v1
  refine Frame.ite (fun _ => ?_) (fun _ => ?_)
  · refine Frame.then ?_ State.setTwist_frame rfl rfl
    exact Frame.refl
  · exact Frame.refl

theorem onFrame_frame {a0 : Nat} {a1 : Nat} {a2 : List Nat} {a3 : State → State} (h : Frame R P s t) (hR : rowsLe (some []) R = true) (hP : partsLe [.csc] P = true) (ha3 : ∀ x, Frame R P s x → Frame R P s (a3 x)) : Frame R P s (onFrame a0 a1 a2 a3 t) := by
  unfold onFrame
  refine Frame.ite (fun _ => ?_) (fun _ => ?_)
  · extract_lets -merge -useContext -underBinder +onlyGivenNames x1
    refine Frame.via x1 ?_ fun h1 => ?_
    · unfold x1
      refine Frame.then ?_ validFrame_frame (rowsLe_trans rfl hR) (partsLe_trans rfl hP)
      exact h
    try clear_value x1
    refine Frame.ite (fun _ => ?_) (fun _ => ?_)
    · refine ha3 _ ?_
      exact h1
    · exact h1
  · exact h

theorem creditBack_frame {a0 : Nat} {a1 : Nat} {a2 : Nat} : Frame (some []) [.csc] s (creditBack a0 a1 a2 s) := by
  unfold creditBack
  extract_lets -merge -useContext -underBinder +onlyGivenNames v1 v2
  refine Frame.then ?_ State.setTwist_frame rfl rfl
  exact Frame.refl

theorem execIdleRx_frame {a0 : Fin 4} {a1 : Fin 4} {a2 : Fin 16} : ∃ t, execIdleRx a0 a1 a2 s = .next t ∧ Frame (some []) [.csc] s t := by
  refine ⟨_, rfl, ?_⟩
  refine Frame.ite (fun _ => ?_) (fun _ => ?_)
  · refine Frame.then ?_ creditBack_frame rfl rfl
    refine onFrame_frame ?_ rfl rfl (fun x hx => ?_)
    · exact Frame.refl
    · exact hx
  · refine onFrame_frame ?_ rfl rfl (fun x hx => ?_)
    · exact Frame.refl
    · exact hx

theorem dropFrame_frame {a0 : Nat} : Frame (some [.CSC_EVENT, .CSC_TW_DROP]) [.events, .sup] s (dropFrame a0 s) := by
  unfold dropFrame
  refine Frame.raise ?_ (inRows_of (r := .CSC_EVENT) rfl (by exact rfl)) rfl
  refine Frame.count ?_ (inRows_of (r := .CSC_TW_DROP) rfl (by exact ⟨_, rfl⟩))
  exact Frame.refl

theorem groupRx_frame {a0 : Nat} {a1 : BitVec 16} {a2 : BitVec 12} {a3 : BitVec 6} : Frame (some [.CSC_EVENT, .CSC_TW_DROP, .FAB_EVENT, .FAB_EV_COUNT]) [.csc, .events, .fab, .sup] s (groupRx a0 a1 a2 a3 s) := by
  unfold groupRx
  extract_lets -merge -useContext -underBinder +onlyGivenNames v1 v2 v3
  refine Frame.ite (fun _ => ?_) (fun _ => ?_)
  · refine Frame.then ?_ dropFrame_frame rfl rfl
    exact Frame.refl
  · extract_lets -merge -useContext -underBinder +onlyGivenNames x4
    refine Frame.via x4 ?_ fun h4 => ?_
    · unfold x4
      refine Frame.ite (fun _ => ?_) (fun _ => ?_)
      · refine Frame.forN _ ?_ fun i x hx => ?_
        · exact Frame.refl
        · refine Frame.ite (fun _ => ?_) (fun _ => ?_)
          · refine Frame.then ?_ emit_frame rfl rfl
            exact hx
          · exact hx
      · exact Frame.refl
    try clear_value x4
    extract_lets -merge -useContext -underBinder +onlyGivenNames v5
    refine Frame.forN _ ?_ fun i x hx => ?_
    · exact h4
    · refine Frame.ite (fun _ => ?_) (fun _ => ?_)
      · extract_lets -merge -useContext -underBinder +onlyGivenNames v6
        refine Frame.ite (fun _ => ?_) (fun _ => ?_)
        · refine Frame.then ?_ dropFrame_frame rfl rfl
          exact hx
        · refine Frame.then ?_ State.setTwist_frame rfl rfl
          exact hx
      · exact hx

theorem execGroupRx_frame {a0 : Fin 4} {a1 : Fin 4} {a2 : BitVec 16} {a3 : BitVec 12} {a4 : BitVec 6} : ∃ t, execGroupRx a0 a1 a2 a3 a4 s = .next t ∧ Frame (some [.CSC_EVENT, .CSC_TW_DROP, .FAB_EVENT, .FAB_EV_COUNT]) [.csc, .events, .fab, .sup] s t := by
  refine ⟨_, rfl, ?_⟩
  refine onFrame_frame ?_ rfl rfl (fun x hx => ?_)
  · exact Frame.refl
  · refine Frame.then ?_ groupRx_frame rfl rfl
    exact hx

theorem breakSeq_frame  : Frame (some []) [.csc] s (breakSeq s) := by
  unfold breakSeq
  refine Frame.csc ?_ rfl (by first | exact id | exact fun h => (by first | exact h | exact sparseWf_sset h | exact sparseWf_nil | exact sparseWf_filter h | exact sparseWf_smap h | exact sparseWf_sdrop h | exact sparseWf_sset (sparseWf_sset h) | exact sparseWf_fold sparseWf_nil | (dsimp only; exact sparseWf_smap h)))
  exact Frame.refl

theorem execTimeLoRx_frame {a0 : Fin 4} {a1 : Fin 4} {a2 : BitVec 42} : ∃ t, execTimeLoRx a0 a1 a2 s = .next t ∧ Frame (some []) [.csc] s t := by
  refine ⟨_, rfl, ?_⟩
  refine onFrame_frame ?_ rfl rfl (fun x hx => ?_)
  · exact Frame.refl
  · refine Frame.ite (fun _ => ?_) (fun _ => ?_)
    · extract_lets -merge -useContext -underBinder +onlyGivenNames v1 x2
      refine Frame.via x2 ?_ fun h2 => ?_
      · unfold x2
        refine Frame.ite (fun _ => ?_) (fun _ => ?_)
        · refine Frame.then ?_ breakSeq_frame rfl rfl
          exact hx
        · exact hx
      try clear_value x2
      refine Frame.csc ?_ rfl (by first | exact id | exact fun h => (by first | exact h | exact sparseWf_sset h | exact sparseWf_nil | exact sparseWf_filter h | exact sparseWf_smap h | exact sparseWf_sdrop h | exact sparseWf_sset (sparseWf_sset h) | exact sparseWf_fold sparseWf_nil | (dsimp only; exact sparseWf_smap h)))
      exact h2
    · exact hx

theorem execTimeHiRx_frame {a0 : Fin 4} {a1 : Fin 4} {a2 : BitVec 22} {a3 : BitVec 20} : ∃ t, execTimeHiRx a0 a1 a2 a3 s = .next t ∧ Frame (some []) [.csc] s t := by
  refine ⟨_, rfl, ?_⟩
  refine onFrame_frame ?_ rfl rfl (fun x hx => ?_)
  · exact Frame.refl
  · refine Frame.ite (fun _ => ?_) (fun _ => ?_)
    · exact hx
    · refine Frame.ite (fun _ => ?_) (fun _ => ?_)
      · refine Frame.then ?_ breakSeq_frame rfl rfl
        exact hx
      · refine Frame.csc ?_ rfl (by first | exact id | exact fun h => (by first | exact h | exact sparseWf_sset h | exact sparseWf_nil | exact sparseWf_filter h | exact sparseWf_smap h | exact sparseWf_sdrop h | exact sparseWf_sset (sparseWf_sset h) | exact sparseWf_fold sparseWf_nil | (dsimp only; exact sparseWf_smap h)))
        exact hx

theorem cascadeMeasure_frame {a0 : Nat} {a1 : Nat} {a2 : Nat} {a3 : Nat} : Frame (some [.CSC_EVENT, .CSC_STATUS, .TLN_ADJ, .TLN_COUNT, .TLN_EVENT, .TLN_HOLD_ADJ, .TLN_OFFSET, .TLN_REFUSED_HI, .TLN_REFUSED_LO, .TLN_STATUS]) [.csc, .events, .sup, .tln] s (cascadeMeasure a0 a1 a2 a3 s) := by
  unfold cascadeMeasure
  extract_lets -merge -useContext -underBinder +onlyGivenNames v1 v2 v3 w4 x5
  refine Frame.via x5 ?_ fun h5 => ?_
  · unfold x5
    refine Frame.csc ?_ rfl (by first | exact id | exact fun h => (by first | exact h | exact sparseWf_sset h | exact sparseWf_nil | exact sparseWf_filter h | exact sparseWf_smap h | exact sparseWf_sdrop h | exact sparseWf_sset (sparseWf_sset h) | exact sparseWf_fold sparseWf_nil | (dsimp only; exact sparseWf_smap h)))
    exact Frame.refl
  try clear_value x5
  extract_lets -merge -useContext -underBinder +onlyGivenNames v6 x7
  refine Frame.via x7 ?_ fun h7 => ?_
  · unfold x7
    refine Frame.ite (fun _ => ?_) (fun _ => ?_)
    · refine Frame.raise ?_ (inRows_of (r := .CSC_EVENT) rfl (by exact rfl)) rfl
      refine Frame.put ?_ (inRows_of (r := .CSC_STATUS) rfl (by exact rfl))
      exact h5
    · exact h5
  try clear_value x7
  refine Frame.ite (fun _ => ?_) (fun _ => ?_)
  · refine Frame.then ?_ measure_frame rfl rfl
    refine Frame.put ?_ (inRows_of (r := .TLN_STATUS) rfl (by exact rfl))
    exact h7
  · exact h7

theorem stateRx_frame {a0 : Nat} {a1 : BitVec 6} {a2 : BitVec 6} {a3 : BitVec 8} {a4 : Bool} : Frame (some [.CSC_EVENT, .CSC_STATUS, .TLN_ADJ, .TLN_COUNT, .TLN_EVENT, .TLN_HOLD_ADJ, .TLN_OFFSET, .TLN_REFUSED_HI, .TLN_REFUSED_LO, .TLN_STATUS]) [.csc, .events, .sup, .tln] s (stateRx a0 a1 a2 a3 a4 s) := by
  unfold stateRx
  refine Frame.ite (fun _ => ?_) (fun _ => ?_)
  · exact Frame.refl
  · refine Frame.ite (fun _ => ?_) (fun _ => ?_)
    · refine Frame.then ?_ loseCascade_frame rfl rfl
      refine Frame.then ?_ breakSeq_frame rfl rfl
      exact Frame.refl
    · first | split | (clear_value *; split)
      · refine Frame.ite (fun _ => ?_) (fun _ => ?_)
        · refine Frame.then ?_ cascadeMeasure_frame rfl rfl
          exact Frame.refl
        · refine Frame.then ?_ breakSeq_frame rfl rfl
          exact Frame.refl
      · refine Frame.then ?_ breakSeq_frame rfl rfl
        exact Frame.refl

theorem execStateRx_frame {a0 : Fin 4} {a1 : Fin 4} {a2 : BitVec 6} {a3 : BitVec 6} {a4 : BitVec 6} {a5 : BitVec 8} {a6 : BitVec 2} {a7 : Bool} {a8 : BitVec 3} : ∃ t, execStateRx a0 a1 a2 a3 a4 a5 a6 a7 a8 s = .next t ∧ Frame (some [.CSC_EVENT, .CSC_STATUS, .TLN_ADJ, .TLN_COUNT, .TLN_EVENT, .TLN_HOLD_ADJ, .TLN_OFFSET, .TLN_REFUSED_HI, .TLN_REFUSED_LO, .TLN_STATUS]) [.csc, .events, .sup, .tln] s t := by
  refine ⟨_, rfl, ?_⟩
  refine onFrame_frame ?_ rfl rfl (fun x hx => ?_)
  · exact Frame.refl
  · refine Frame.then ?_ stateRx_frame rfl rfl
    exact hx

theorem rateAdj_frame {a0 : Int} : Frame (some [.TLN_ADJ]) [] s (rateAdj a0 s) := by
  unfold rateAdj
  refine Frame.ite (fun _ => ?_) (fun _ => ?_)
  · refine Frame.then ?_ State.setAdj_frame rfl rfl
    exact Frame.refl
  · exact Frame.refl

theorem slaveAdj_frame {a0 : Int} : Frame (some [.TLN_ADJ]) [.csc] s (slaveAdj a0 s) := by
  unfold slaveAdj
  refine Frame.then ?_ rateAdj_frame rfl rfl
  refine Frame.csc ?_ rfl (by first | exact id | exact fun h => (by first | exact h | exact sparseWf_sset h | exact sparseWf_nil | exact sparseWf_filter h | exact sparseWf_smap h | exact sparseWf_sdrop h | exact sparseWf_sset (sparseWf_sset h) | exact sparseWf_fold sparseWf_nil | (dsimp only; exact sparseWf_smap h)))
  exact Frame.refl

theorem rateRx_frame {a0 : Nat} {a1 : BitVec 24} {a2 : BitVec 18} : Frame (some [.CSC_EVENT, .TLN_ADJ]) [.csc, .events, .sup] s (rateRx a0 a1 a2 s) := by
  unfold rateRx
  refine Frame.ite (fun _ => ?_) (fun _ => ?_)
  · exact Frame.refl
  · extract_lets -merge -useContext -underBinder +onlyGivenNames v1 x2
    refine Frame.via x2 ?_ fun h2 => ?_
    · unfold x2
      refine Frame.then ?_ queueRate_frame rfl rfl
      exact Frame.refl
    try clear_value x2
    extract_lets -merge -useContext -underBinder +onlyGivenNames v3
    refine Frame.ite (fun _ => ?_) (fun _ => ?_)
    · refine Frame.ite (fun _ => ?_) (fun _ => ?_)
      · exact h2
      · refine Frame.raise ?_ (inRows_of (r := .CSC_EVENT) rfl (by exact rfl)) rfl
        refine Frame.then ?_ slaveAdj_frame rfl rfl
        exact h2
    · refine Frame.ite (fun _ => ?_) (fun _ => ?_)
      · exact h2
      · refine Frame.csc ?_ rfl (fun h => (by first | exact h | exact sparseWf_sset h | exact sparseWf_nil | exact sparseWf_filter h | exact sparseWf_smap h | exact sparseWf_sdrop h | exact sparseWf_sset (sparseWf_sset h) | exact sparseWf_fold sparseWf_nil | (dsimp only; exact sparseWf_smap h)))
        exact h2

theorem execRateRx_frame {a0 : Fin 4} {a1 : Fin 4} {a2 : BitVec 24} {a3 : BitVec 18} : ∃ t, execRateRx a0 a1 a2 a3 s = .next t ∧ Frame (some [.CSC_EVENT, .TLN_ADJ]) [.csc, .events, .sup] s t := by
  refine ⟨_, rfl, ?_⟩
  refine onFrame_frame ?_ rfl rfl (fun x hx => ?_)
  · exact Frame.refl
  · refine Frame.then ?_ rateRx_frame rfl rfl
    exact hx

theorem execRateApply_frame  : ∃ t, execRateApply s = .next t ∧ Frame (some [.TLN_ADJ]) [.csc] s t := by
  refine ⟨_, rfl, ?_⟩
  extract_lets -merge -useContext -underBinder +onlyGivenNames v1 v2 v3 w4 x5
  refine Frame.via x5 ?_ fun h5 => ?_
  · unfold x5
    refine Frame.csc ?_ rfl (fun h => (by first | exact h | exact sparseWf_sset h | exact sparseWf_nil | exact sparseWf_filter h | exact sparseWf_smap h | exact sparseWf_sdrop h | exact sparseWf_sset (sparseWf_sset h) | exact sparseWf_fold sparseWf_nil | (dsimp only; exact sparseWf_smap h)))
    exact Frame.refl
  try clear_value x5
  refine Frame.forAll _ ?_ fun i x hx => ?_
  · refine Frame.forAll _ ?_ fun i x hx => ?_
    · exact h5
    · refine Frame.then ?_ rateAdj_frame rfl rfl
      exact hx
  · refine Frame.then ?_ slaveAdj_frame rfl rfl
    exact hx

theorem execRateRepeat_frame  : ∃ t, execRateRepeat s = .next t ∧ Frame (some []) [.csc] s t := by
  refine ⟨_, rfl, ?_⟩
  first | split | (clear_value *; split)
  · refine Frame.ite (fun _ => ?_) (fun _ => ?_)
    · refine Frame.then ?_ queueRate_frame rfl rfl
      refine Frame.csc ?_ rfl (by first | exact id | exact fun h => (by first | exact h | exact sparseWf_sset h | exact sparseWf_nil | exact sparseWf_filter h | exact sparseWf_smap h | exact sparseWf_sdrop h | exact sparseWf_sset (sparseWf_sset h) | exact sparseWf_fold sparseWf_nil | (dsimp only; exact sparseWf_smap h)))
      exact Frame.refl
    · exact Frame.refl
  · exact Frame.refl

theorem execTimeQueue_frame  : ∃ t, execTimeQueue s = .next t ∧ Frame (some []) [.csc] s t := by
  refine ⟨_, rfl, ?_⟩
  extract_lets -merge -useContext -underBinder +onlyGivenNames v1
  refine Frame.ite (fun _ => ?_) (fun _ => ?_)
  · extract_lets -merge -useContext -underBinder +onlyGivenNames w2 x3
    refine Frame.via x3 ?_ fun h3 => ?_
    · unfold x3
      refine Frame.csc ?_ rfl (by first | exact id | exact fun h => (by first | exact h | exact sparseWf_sset h | exact sparseWf_nil | exact sparseWf_filter h | exact sparseWf_smap h | exact sparseWf_sdrop h | exact sparseWf_sset (sparseWf_sset h) | exact sparseWf_fold sparseWf_nil | (dsimp only; exact sparseWf_smap h)))
      exact Frame.refl
    try clear_value x3
    refine Frame.forAll _ ?_ fun i x hx => ?_
    · exact h3
    · extract_lets -merge -useContext -underBinder +onlyGivenNames v4
      refine Frame.then ?_ State.setTwist_frame rfl rfl
      exact hx
  · exact Frame.refl

theorem execSyncMarkerQueue_frame {a0 : Fin 4} : ∃ t, execSyncMarkerQueue a0 s = .next t ∧ Frame (some []) [.csc] s t := by
  refine ⟨_, rfl, ?_⟩
  extract_lets -merge -useContext -underBinder +onlyGivenNames v1 v2
  refine Frame.ite (fun _ => ?_) (fun _ => ?_)
  · refine Frame.then ?_ State.setTwist_frame rfl rfl
    exact Frame.refl
  · exact Frame.refl

theorem execSyncLoRx_frame {a0 : Fin 4} {a1 : Fin 4} {a2 : BitVec 42} {a3 : Fin 32000} : ∃ t, execSyncLoRx a0 a1 a2 a3 s = .next t ∧ Frame (some []) [.csc] s t := by
  refine ⟨_, rfl, ?_⟩
  refine onFrame_frame ?_ rfl rfl (fun x hx => ?_)
  · exact Frame.refl
  · refine Frame.then ?_ State.setTwist_frame rfl rfl
    exact hx

theorem markerPair_frame {a0 : Nat} {a1 : Nat} {a2 : Nat} {a3 : Nat} {a4 : Nat} : Frame (some [.CSC_EVENT, .CSC_STATUS, .CSC_TW_PHASE, .GLB_CLK_STATUS, .GLB_MODE_STATUS, .TLN_ADJ, .TLN_COUNT, .TLN_EVENT, .TLN_STATUS]) [.csc, .events, .glb, .rdo, .sup, .tln] s (markerPair a0 a1 a2 a3 a4 s) := by
  unfold markerPair
  extract_lets -merge -useContext -underBinder +onlyGivenNames v1 v2
  refine Frame.ite (fun _ => ?_) (fun _ => ?_)
  · refine Frame.ite (fun _ => ?_) (fun _ => ?_)
    · exact Frame.refl
    · refine Frame.then ?_ loseCascade_frame rfl rfl
      refine Frame.put ?_ (inRows_of (r := .CSC_STATUS) rfl (by exact rfl))
      refine Frame.raise ?_ (inRows_of (r := .CSC_EVENT) rfl (by exact rfl)) rfl
      exact Frame.refl
  · refine Frame.ite (fun _ => ?_) (fun _ => ?_)
    · extract_lets -merge -useContext -underBinder +onlyGivenNames v3 x4
      refine Frame.via x4 ?_ fun h4 => ?_
      · unfold x4
        refine Frame.then ?_ applySync_frame rfl rfl
        exact Frame.refl
      try clear_value x4
      extract_lets -merge -useContext -underBinder +onlyGivenNames x5
      refine Frame.via x5 ?_ fun h5 => ?_
      · unfold x5
        refine Frame.put ?_ (inRows_of (r := .CSC_STATUS) rfl (by exact rfl))
        refine Frame.put ?_ (inRows_of (r := .CSC_TW_PHASE) rfl (by exact ⟨_, rfl⟩))
        exact h4
      try clear_value x5
      refine Frame.raise ?_ (inRows_of (r := .CSC_EVENT) rfl (by exact rfl)) rfl
      refine Frame.put ?_ (inRows_of (r := .CSC_STATUS) rfl (by exact rfl))
      exact h5
    · refine Frame.ite (fun _ => ?_) (fun _ => ?_)
      · refine Frame.then ?_ loseCascade_frame rfl rfl
        exact Frame.refl
      · exact Frame.refl

theorem execSyncHiRx_frame {a0 : Fin 4} {a1 : Fin 4} {a2 : BitVec 22} {a3 : BitVec 8} : ∃ t, execSyncHiRx a0 a1 a2 a3 s = .next t ∧ Frame (some [.CSC_EVENT, .CSC_STATUS, .CSC_TW_PHASE, .GLB_CLK_STATUS, .GLB_MODE_STATUS, .TLN_ADJ, .TLN_COUNT, .TLN_EVENT, .TLN_STATUS]) [.csc, .events, .glb, .rdo, .sup, .tln] s t := by
  refine ⟨_, rfl, ?_⟩
  refine onFrame_frame ?_ rfl rfl (fun x hx => ?_)
  · exact Frame.refl
  · extract_lets -merge -useContext -underBinder +onlyGivenNames v1
    first | split | (clear_value *; split)
    · extract_lets -merge -useContext -underBinder +onlyGivenNames x2
      refine Frame.via x2 ?_ fun h2 => ?_
      · unfold x2
        refine Frame.then ?_ State.setTwist_frame rfl rfl
        exact hx
      try clear_value x2
      refine Frame.ite (fun _ => ?_) (fun _ => ?_)
      · refine Frame.then ?_ markerPair_frame rfl rfl
        exact h2
      · exact h2
    · exact hx

theorem execFrameReservedType_frame {a0 : Fin 4} {a1 : Fin 4} : ∃ t, execFrameReservedType a0 a1 s = .next t ∧ Frame (some [.CSC_EVENT, .CSC_TW_DROP]) [.events, .sup] s t := by
  refine ⟨_, rfl, ?_⟩
  refine Frame.ite (fun _ => ?_) (fun _ => ?_)
  · refine Frame.then ?_ dropFrame_frame rfl rfl
    exact Frame.refl
  · exact Frame.refl

theorem execCascadeSrcTimeout_frame  : ∃ t, execCascadeSrcTimeout s = .next t ∧ Frame (some [.CSC_EVENT, .CSC_STATUS, .TLN_ADJ, .TLN_COUNT, .TLN_EVENT, .TLN_STATUS]) [.csc, .events, .sup, .tln] s t := by
  refine ⟨_, rfl, ?_⟩
  extract_lets -merge -useContext -underBinder +onlyGivenNames v1
  refine Frame.ite (fun _ => ?_) (fun _ => ?_)
  · refine Frame.then ?_ loseCascade_frame rfl rfl
    exact Frame.refl
  · exact Frame.refl

theorem execFailoverRx_frame {a0 : Fin 4} {a1 : Fin 4} : ∃ t, execFailoverRx a0 a1 s = .next t ∧ Frame (some []) [.csc] s t := by
  refine ⟨_, rfl, ?_⟩
  refine Frame.ite (fun _ => ?_) (fun _ => ?_)
  · refine Frame.then ?_ State.setTwist_frame rfl rfl
    exact Frame.refl
  · exact Frame.refl

theorem execDutyLaneSwitch_frame {a0 : Fin 4} : ∃ t, execDutyLaneSwitch a0 s = .next t ∧ Frame (some [.CSC_EVENT, .CSC_TW_STATUS, .SUP_TOL]) [.csc, .events, .sup] s t := by
  refine ⟨_, rfl, ?_⟩
  extract_lets -merge -useContext -underBinder +onlyGivenNames v1
  refine Frame.ite (fun _ => ?_) (fun _ => ?_)
  · extract_lets -merge -useContext -underBinder +onlyGivenNames x2
    refine Frame.via x2 ?_ fun h2 => ?_
    · unfold x2
      refine Frame.then ?_ cutBulk_frame rfl rfl
      refine Frame.then ?_ State.setTwist_frame rfl rfl
      exact Frame.refl
    try clear_value x2
    refine Frame.count ?_ (inRows_of (r := .SUP_TOL) rfl (by exact rfl))
    refine Frame.raise ?_ (inRows_of (r := .CSC_EVENT) rfl (by exact rfl)) rfl
    refine Frame.put ?_ (inRows_of (r := .CSC_TW_STATUS) rfl (by exact ⟨_, rfl⟩))
    exact h2
  · exact Frame.refl

theorem execFailoverTimeout_frame {a0 : Fin 4} : ∃ t, execFailoverTimeout a0 s = .next t ∧ Frame (some [.CSC_EVENT, .CSC_STATUS, .TLN_ADJ, .TLN_COUNT, .TLN_EVENT, .TLN_STATUS]) [.csc, .events, .sup, .tln] s t := by
  refine ⟨_, rfl, ?_⟩
  extract_lets -merge -useContext -underBinder +onlyGivenNames v1
  first | split | (clear_value *; split)
  · refine Frame.ite (fun _ => ?_) (fun _ => ?_)
    · extract_lets -merge -useContext -underBinder +onlyGivenNames x2
      refine Frame.via x2 ?_ fun h2 => ?_
      · unfold x2
        refine Frame.then ?_ State.setTwist_frame rfl rfl
        exact Frame.refl
      try clear_value x2
      extract_lets -merge -useContext -underBinder +onlyGivenNames v3
      refine Frame.ite (fun _ => ?_) (fun _ => ?_)
      · refine Frame.then ?_ loseCascade_frame rfl rfl
        exact h2
      · exact h2
    · exact Frame.refl
  · exact Frame.refl

theorem execStrapChg_frame {a0 : Bool} : ∃ t, execStrapChg a0 s = .next t ∧ Frame (some [.CSC_STATUS]) [.events, .sup] s t := by
  refine ⟨_, rfl, ?_⟩
  refine Frame.raiseIf ?_ (inRows_of (r := .CSC_STATUS) rfl (by exact rfl)) rfl
  exact Frame.refl

end Sys2Proof.Machine
end

