-- ==== Sys2Proof/Laws/Frame/PowerOps.lean ====
section
/-! SUPPORT. Laws/Frame/PowerOps.lean: what each operation of Machine/PowerOps.lean can change, and that it keeps a sound state sound. -/

set_option Elab.async false

namespace Sys2Proof.Machine

variable {R : Option (List RegRow)} {P : List Part} {s t : State}

theorem State.setWaking_frame {a0 : Nat} {a1 : Option Nat} : Frame (some []) [.pwr] s (State.setWaking s a0 a1) := by
  unfold State.setWaking
  refine Frame.pwr ?_ rfl (fun h => ⟨(by first | exact h.1 | exact sparseWf_sset h.1 | exact sparseWf_nil | exact sparseWf_filter h.1 | exact sparseWf_smap h.1 | exact sparseWf_sdrop h.1 | exact sparseWf_sset (sparseWf_sset h.1) | exact sparseWf_fold sparseWf_nil | (dsimp only; exact sparseWf_smap h.1)), (by first | exact h.2.1 | exact sparseWf_sset h.2.1 | exact sparseWf_nil | exact sparseWf_filter h.2.1 | exact sparseWf_smap h.2.1 | exact sparseWf_sdrop h.2.1 | exact sparseWf_sset (sparseWf_sset h.2.1) | exact sparseWf_fold sparseWf_nil | (dsimp only; exact sparseWf_smap h.2.1)), (by first | exact h.2.2.1 | exact sparseWf_sset h.2.2.1 | exact sparseWf_nil | exact sparseWf_filter h.2.2.1 | exact sparseWf_smap h.2.2.1 | exact sparseWf_sdrop h.2.2.1 | exact sparseWf_sset (sparseWf_sset h.2.2.1) | exact sparseWf_fold sparseWf_nil | (dsimp only; exact sparseWf_smap h.2.2.1)), (by first | exact h.2.2.2.1 | exact sparseWf_sset h.2.2.2.1 | exact sparseWf_nil | exact sparseWf_filter h.2.2.2.1 | exact sparseWf_smap h.2.2.2.1 | exact sparseWf_sdrop h.2.2.2.1 | exact sparseWf_sset (sparseWf_sset h.2.2.2.1) | exact sparseWf_fold sparseWf_nil | (dsimp only; exact sparseWf_smap h.2.2.2.1)), (by first | exact h.2.2.2.2 | exact sparseWf_sset h.2.2.2.2 | exact sparseWf_nil | exact sparseWf_filter h.2.2.2.2 | exact sparseWf_smap h.2.2.2.2 | exact sparseWf_sdrop h.2.2.2.2 | exact sparseWf_sset (sparseWf_sset h.2.2.2.2) | exact sparseWf_fold sparseWf_nil | (dsimp only; exact sparseWf_smap h.2.2.2.2))⟩)
  exact Frame.refl

theorem countPort_frame {a0 : Nat} : Frame (some []) [.pwr] s (countPort a0 s) := by
  unfold countPort
  refine Frame.pwr ?_ rfl (fun h => ⟨(by first | exact h.1 | exact sparseWf_sset h.1 | exact sparseWf_nil | exact sparseWf_filter h.1 | exact sparseWf_smap h.1 | exact sparseWf_sdrop h.1 | exact sparseWf_sset (sparseWf_sset h.1) | exact sparseWf_fold sparseWf_nil | (dsimp only; exact sparseWf_smap h.1)), (by first | exact h.2.1 | exact sparseWf_sset h.2.1 | exact sparseWf_nil | exact sparseWf_filter h.2.1 | exact sparseWf_smap h.2.1 | exact sparseWf_sdrop h.2.1 | exact sparseWf_sset (sparseWf_sset h.2.1) | exact sparseWf_fold sparseWf_nil | (dsimp only; exact sparseWf_smap h.2.1)), (by first | exact h.2.2.1 | exact sparseWf_sset h.2.2.1 | exact sparseWf_nil | exact sparseWf_filter h.2.2.1 | exact sparseWf_smap h.2.2.1 | exact sparseWf_sdrop h.2.2.1 | exact sparseWf_sset (sparseWf_sset h.2.2.1) | exact sparseWf_fold sparseWf_nil | (dsimp only; exact sparseWf_smap h.2.2.1)), (by first | exact h.2.2.2.1 | exact sparseWf_sset h.2.2.2.1 | exact sparseWf_nil | exact sparseWf_filter h.2.2.2.1 | exact sparseWf_smap h.2.2.2.1 | exact sparseWf_sdrop h.2.2.2.1 | exact sparseWf_sset (sparseWf_sset h.2.2.2.1) | exact sparseWf_fold sparseWf_nil | (dsimp only; exact sparseWf_smap h.2.2.2.1)), (by first | exact h.2.2.2.2 | exact sparseWf_sset h.2.2.2.2 | exact sparseWf_nil | exact sparseWf_filter h.2.2.2.2 | exact sparseWf_smap h.2.2.2.2 | exact sparseWf_sdrop h.2.2.2.2 | exact sparseWf_sset (sparseWf_sset h.2.2.2.2) | exact sparseWf_fold sparseWf_nil | (dsimp only; exact sparseWf_smap h.2.2.2.2))⟩)
  exact Frame.refl

/-- Adding to the live counters keeps their canonical form. -/
theorem forN_sound {α : Type} {p : α → Prop} {f : Nat → α → α} (n : Nat) {x : α} (hx : p x) (hf : ∀ i y, p y → p (f i y)) : p (forN n f x) := by
  induction n with
  | zero => exact hx
  | succ n ih => exact hf n _ ih

theorem countPorts_frame : Frame (some []) [.pwr] s (countPorts s) := by
  unfold countPorts
  refine Frame.ite (fun _ => Frame.refl) (fun _ => ?_)
  extract_lets r
  have hr : sparseWf (fun _ => 0) s.pwr.res = true → sparseWf (fun _ => 0) r = true := fun h =>
    forN_sound (p := fun l => sparseWf (fun _ => 0) l = true) 256 h fun i y hy => sparseWf_sset hy
  clear_value r
  exact Frame.refl.pwr rfl fun h => ⟨h.1, h.2.1, h.2.2.1, hr h.2.2.2.1, sparseWf_nil⟩

theorem setPort_frame {a0 : Nat} {a1 : Nat} : Frame (some [.PWR_PORT_STATE]) [.pwr, .rdo] s (setPort a0 a1 s) := by
  unfold setPort
  extract_lets -merge -useContext -underBinder +onlyGivenNames v1 x2
  refine Frame.via x2 ?_ fun h2 => ?_
  · unfold x2
    refine Frame.ite (fun _ => ?_) (fun _ => ?_)
    · exact Frame.refl
    · refine Frame.then ?_ countPort_frame rfl rfl
      exact Frame.refl
  try clear_value x2
  extract_lets -merge -useContext -underBinder +onlyGivenNames x3
  refine Frame.via x3 ?_ fun h3 => ?_
  · unfold x3
    refine Frame.then ?_ State.setWaking_frame rfl rfl
    refine Frame.put ?_ (inRows_of (r := .PWR_PORT_STATE) rfl (by exact ⟨_, rfl⟩))
    exact h2
  try clear_value x3
  refine Frame.ite (fun _ => ?_) (fun _ => ?_)
  · refine Frame.ite (fun _ => ?_) (fun _ => ?_)
    · refine Frame.then ?_ schedulePower_frame rfl rfl
      exact h3
    · refine Frame.ite (fun _ => ?_) (fun _ => ?_)
      · refine Frame.then ?_ schedulePower_frame rfl rfl
        exact h3
      · exact h3
  · exact h3

theorem beginWake_frame {a0 : Nat} : Frame (some [.PWR_GRP_WAKES]) [.pwr] s (beginWake a0 s) := by
  unfold beginWake
  refine Frame.count ?_ (inRows_of (r := .PWR_GRP_WAKES) rfl (by exact ⟨_, rfl⟩))
  refine Frame.then ?_ State.setWaking_frame rfl rfl
  exact Frame.refl

theorem setAllPorts_frame {a0 : Nat} {a1 : Bool} : Frame (some [.PWR_PORT_STATE]) [.pwr, .rdo] s (setAllPorts a0 a1 s) := by
  unfold setAllPorts
  refine Frame.forN _ ?_ fun i x hx => ?_
  · exact Frame.refl
  · refine Frame.then ?_ setPort_frame rfl rfl
    exact hx

theorem pllDown_frame  : Frame (some [.GLB_CLK_STATUS]) [.free, .glb] s (pllDown s) := by
  unfold pllDown
  extract_lets -merge -useContext -underBinder +onlyGivenNames x1
  refine Frame.via x1 ?_ fun h1 => ?_
  · unfold x1
    refine Frame.put ?_ (inRows_of (r := .GLB_CLK_STATUS) rfl (by exact rfl))
    refine Frame.put ?_ (inRows_of (r := .GLB_CLK_STATUS) rfl (by exact rfl))
    exact Frame.refl
  try clear_value x1
  extract_lets -merge -useContext -underBinder +onlyGivenNames x2
  refine Frame.via x2 ?_ fun h2 => ?_
  · unfold x2
    refine Frame.put ?_ (inRows_of (r := .GLB_CLK_STATUS) rfl (by exact rfl))
    exact h1
  try clear_value x2
  refine Frame.then ?_ losePhases_frame rfl rfl
  refine Frame.glb ?_ rfl (fun _ => trivial)
  exact h2

theorem loseEthernet_frame  : Frame (some [.SUP_TOL, .TLN_ADJ, .TLN_COUNT, .TLN_CTL, .TLN_EVENT, .TLN_PTP_STATUS, .TLN_STATUS]) [.events, .sup, .tln] s (loseEthernet s) := by
  unfold loseEthernet
  refine Frame.then ?_ losePort_frame rfl rfl
  refine Frame.then ?_ losePort_frame rfl rfl
  exact Frame.refl

theorem downTwists_frame  : Frame (some [.CSC_EVENT, .CSC_STATUS, .CSC_TW_STATUS, .TLN_ADJ, .TLN_COUNT, .TLN_EVENT, .TLN_STATUS]) [.csc, .events, .sup, .tln] s (downTwists s) := by
  unfold downTwists
  refine Frame.forN _ ?_ fun i x hx => ?_
  · exact Frame.refl
  · refine Frame.ite (fun _ => ?_) (fun _ => ?_)
    · exact hx
    · refine Frame.then ?_ twDown_frame rfl rfl
      exact hx

theorem endTraining_frame  : Frame (some [.CSC_EVENT, .CSC_STATUS, .CSC_TW_STATUS, .TLN_ADJ, .TLN_COUNT, .TLN_EVENT, .TLN_STATUS]) [.csc, .events, .sup, .tln] s (endTraining s) := by
  unfold endTraining
  refine Frame.forN _ ?_ fun i x hx => ?_
  · exact Frame.refl
  · refine Frame.ite (fun _ => ?_) (fun _ => ?_)
    · exact hx
    · refine Frame.then ?_ twDown_frame rfl rfl
      exact hx

theorem enterLevel_frame {a0 : Nat} {a1 : Bool} : Frame (some [.CSC_EVENT, .CSC_STATUS, .CSC_TW_STATUS, .GLB_CLK_STATUS, .PWR_EVENT, .PWR_STATUS, .SUP_TOL, .TLN_ADJ, .TLN_COUNT, .TLN_CTL, .TLN_EVENT, .TLN_PTP_STATUS, .TLN_STATUS]) [.csc, .events, .free, .glb, .sup, .tln] s (enterLevel a0 a1 s) := by
  unfold enterLevel
  extract_lets -merge -useContext -underBinder +onlyGivenNames v1 x2
  refine Frame.via x2 ?_ fun h2 => ?_
  · unfold x2
    refine Frame.put ?_ (inRows_of (r := .PWR_STATUS) rfl (by exact rfl))
    exact Frame.refl
  try clear_value x2
  extract_lets -merge -useContext -underBinder +onlyGivenNames x3
  refine Frame.via x3 ?_ fun h3 => ?_
  · unfold x3
    refine Frame.ite (fun _ => ?_) (fun _ => ?_)
    · refine Frame.raise ?_ (inRows_of (r := .PWR_EVENT) rfl (by exact rfl)) rfl
      exact h2
    · exact h2
  try clear_value x3
  extract_lets -merge -useContext -underBinder +onlyGivenNames x4
  refine Frame.via x4 ?_ fun h4 => ?_
  · unfold x4
    refine Frame.put ?_ (inRows_of (r := .PWR_STATUS) rfl (by exact rfl))
    exact h3
  try clear_value x4
  extract_lets -merge -useContext -underBinder +onlyGivenNames x5
  refine Frame.via x5 ?_ fun h5 => ?_
  · unfold x5
    refine Frame.ite (fun _ => ?_) (fun _ => ?_)
    · refine Frame.then ?_ loseEthernet_frame rfl rfl
      exact h4
    · exact h4
  try clear_value x5
  refine Frame.ite (fun _ => ?_) (fun _ => ?_)
  · refine Frame.then ?_ stopReel_frame rfl rfl
    refine Frame.then ?_ pllDown_frame rfl rfl
    refine Frame.then ?_ downTwists_frame rfl rfl
    exact h5
  · exact h5

theorem leaveDormant_frame  : Frame (some [.PWR_STATUS]) [.pwr] s (leaveDormant s) := by
  unfold leaveDormant
  extract_lets -merge -useContext -underBinder +onlyGivenNames x1
  refine Frame.via x1 ?_ fun h1 => ?_
  · unfold x1
    refine Frame.put ?_ (inRows_of (r := .PWR_STATUS) rfl (by exact rfl))
    refine Frame.put ?_ (inRows_of (r := .PWR_STATUS) rfl (by exact rfl))
    exact Frame.refl
  try clear_value x1
  refine Frame.pwr ?_ rfl (by first | exact id | exact fun h => ⟨(by first | exact h.1 | exact sparseWf_sset h.1 | exact sparseWf_nil | exact sparseWf_filter h.1 | exact sparseWf_smap h.1 | exact sparseWf_sdrop h.1 | exact sparseWf_sset (sparseWf_sset h.1) | exact sparseWf_fold sparseWf_nil | (dsimp only; exact sparseWf_smap h.1)), (by first | exact h.2.1 | exact sparseWf_sset h.2.1 | exact sparseWf_nil | exact sparseWf_filter h.2.1 | exact sparseWf_smap h.2.1 | exact sparseWf_sdrop h.2.1 | exact sparseWf_sset (sparseWf_sset h.2.1) | exact sparseWf_fold sparseWf_nil | (dsimp only; exact sparseWf_smap h.2.1)), (by first | exact h.2.2.1 | exact sparseWf_sset h.2.2.1 | exact sparseWf_nil | exact sparseWf_filter h.2.2.1 | exact sparseWf_smap h.2.2.1 | exact sparseWf_sdrop h.2.2.1 | exact sparseWf_sset (sparseWf_sset h.2.2.1) | exact sparseWf_fold sparseWf_nil | (dsimp only; exact sparseWf_smap h.2.2.1)), (by first | exact h.2.2.2.1 | exact sparseWf_sset h.2.2.2.1 | exact sparseWf_nil | exact sparseWf_filter h.2.2.2.1 | exact sparseWf_smap h.2.2.2.1 | exact sparseWf_sdrop h.2.2.2.1 | exact sparseWf_sset (sparseWf_sset h.2.2.2.1) | exact sparseWf_fold sparseWf_nil | (dsimp only; exact sparseWf_smap h.2.2.2.1)), (by first | exact h.2.2.2.2 | exact sparseWf_sset h.2.2.2.2 | exact sparseWf_nil | exact sparseWf_filter h.2.2.2.2 | exact sparseWf_smap h.2.2.2.2 | exact sparseWf_sdrop h.2.2.2.2 | exact sparseWf_sset (sparseWf_sset h.2.2.2.2) | exact sparseWf_fold sparseWf_nil | (dsimp only; exact sparseWf_smap h.2.2.2.2))⟩)
  exact h1

theorem dormTolActs_frame  : Frame (some [.CSC_EVENT, .CSC_STATUS, .CSC_TW_STATUS, .GLB_CLK_STATUS, .PWR_EVENT, .PWR_STATUS, .SUP_TOL, .TLN_ADJ, .TLN_COUNT, .TLN_CTL, .TLN_EVENT, .TLN_PTP_STATUS, .TLN_STATUS]) [.csc, .events, .free, .glb, .pwr, .sup, .tln] s (dormTolActs s) := by
  unfold dormTolActs
  refine Frame.ite (fun _ => ?_) (fun _ => ?_)
  · extract_lets -merge -useContext -underBinder +onlyGivenNames v1
    first | split | (clear_value *; split)
    · refine Frame.ite (fun _ => ?_) (fun _ => ?_)
      · refine Frame.then ?_ enterLevel_frame rfl rfl
        refine Frame.pwr ?_ rfl (by first | exact id | exact fun h => ⟨(by first | exact h.1 | exact sparseWf_sset h.1 | exact sparseWf_nil | exact sparseWf_filter h.1 | exact sparseWf_smap h.1 | exact sparseWf_sdrop h.1 | exact sparseWf_sset (sparseWf_sset h.1) | exact sparseWf_fold sparseWf_nil | (dsimp only; exact sparseWf_smap h.1)), (by first | exact h.2.1 | exact sparseWf_sset h.2.1 | exact sparseWf_nil | exact sparseWf_filter h.2.1 | exact sparseWf_smap h.2.1 | exact sparseWf_sdrop h.2.1 | exact sparseWf_sset (sparseWf_sset h.2.1) | exact sparseWf_fold sparseWf_nil | (dsimp only; exact sparseWf_smap h.2.1)), (by first | exact h.2.2.1 | exact sparseWf_sset h.2.2.1 | exact sparseWf_nil | exact sparseWf_filter h.2.2.1 | exact sparseWf_smap h.2.2.1 | exact sparseWf_sdrop h.2.2.1 | exact sparseWf_sset (sparseWf_sset h.2.2.1) | exact sparseWf_fold sparseWf_nil | (dsimp only; exact sparseWf_smap h.2.2.1)), (by first | exact h.2.2.2.1 | exact sparseWf_sset h.2.2.2.1 | exact sparseWf_nil | exact sparseWf_filter h.2.2.2.1 | exact sparseWf_smap h.2.2.2.1 | exact sparseWf_sdrop h.2.2.2.1 | exact sparseWf_sset (sparseWf_sset h.2.2.2.1) | exact sparseWf_fold sparseWf_nil | (dsimp only; exact sparseWf_smap h.2.2.2.1)), (by first | exact h.2.2.2.2 | exact sparseWf_sset h.2.2.2.2 | exact sparseWf_nil | exact sparseWf_filter h.2.2.2.2 | exact sparseWf_smap h.2.2.2.2 | exact sparseWf_sdrop h.2.2.2.2 | exact sparseWf_sset (sparseWf_sset h.2.2.2.2) | exact sparseWf_fold sparseWf_nil | (dsimp only; exact sparseWf_smap h.2.2.2.2))⟩)
        exact Frame.refl
      · extract_lets -merge -useContext -underBinder +onlyGivenNames w2 x3
        refine Frame.via x3 ?_ fun h3 => ?_
        · unfold x3
          refine Frame.pwr ?_ rfl (by first | exact id | exact fun h => ⟨(by first | exact h.1 | exact sparseWf_sset h.1 | exact sparseWf_nil | exact sparseWf_filter h.1 | exact sparseWf_smap h.1 | exact sparseWf_sdrop h.1 | exact sparseWf_sset (sparseWf_sset h.1) | exact sparseWf_fold sparseWf_nil | (dsimp only; exact sparseWf_smap h.1)), (by first | exact h.2.1 | exact sparseWf_sset h.2.1 | exact sparseWf_nil | exact sparseWf_filter h.2.1 | exact sparseWf_smap h.2.1 | exact sparseWf_sdrop h.2.1 | exact sparseWf_sset (sparseWf_sset h.2.1) | exact sparseWf_fold sparseWf_nil | (dsimp only; exact sparseWf_smap h.2.1)), (by first | exact h.2.2.1 | exact sparseWf_sset h.2.2.1 | exact sparseWf_nil | exact sparseWf_filter h.2.2.1 | exact sparseWf_smap h.2.2.1 | exact sparseWf_sdrop h.2.2.1 | exact sparseWf_sset (sparseWf_sset h.2.2.1) | exact sparseWf_fold sparseWf_nil | (dsimp only; exact sparseWf_smap h.2.2.1)), (by first | exact h.2.2.2.1 | exact sparseWf_sset h.2.2.2.1 | exact sparseWf_nil | exact sparseWf_filter h.2.2.2.1 | exact sparseWf_smap h.2.2.2.1 | exact sparseWf_sdrop h.2.2.2.1 | exact sparseWf_sset (sparseWf_sset h.2.2.2.1) | exact sparseWf_fold sparseWf_nil | (dsimp only; exact sparseWf_smap h.2.2.2.1)), (by first | exact h.2.2.2.2 | exact sparseWf_sset h.2.2.2.2 | exact sparseWf_nil | exact sparseWf_filter h.2.2.2.2 | exact sparseWf_smap h.2.2.2.2 | exact sparseWf_sdrop h.2.2.2.2 | exact sparseWf_sset (sparseWf_sset h.2.2.2.2) | exact sparseWf_fold sparseWf_nil | (dsimp only; exact sparseWf_smap h.2.2.2.2))⟩)
          exact Frame.refl
        try clear_value x3
        refine Frame.ite (fun _ => ?_) (fun _ => ?_)
        · refine Frame.glb ?_ rfl (fun _ => trivial)
          exact h3
        · exact h3
  · exact Frame.refl

end Sys2Proof.Machine
end

