-- ==== Sys2Proof/Laws/Frame/MemOps.lean ====
section
/-! SUPPORT. Laws/Frame/MemOps.lean: what each operation of Machine/MemOps.lean can change, and that it keeps a sound state sound. -/

set_option Elab.async false

namespace Sys2Proof.Machine

variable {R : Option (List RegRow)} {P : List Part} {s t : State}

theorem dramStore_frame {a0 : Nat} {a1 : Byte} : Frame (some []) [.dram, .mem] s (dramStore a0 a1 s) := by
  unfold dramStore
  extract_lets -merge -useContext -underBinder +onlyGivenNames x1
  refine Frame.via x1 ?_ fun h1 => ?_
  · unfold x1
    refine Frame.putDram ?_ rfl
    exact Frame.refl
  try clear_value x1
  refine Frame.mem ?_ rfl (fun h => ⟨(by first | exact h.1 | exact sparseWf_sset h.1 | exact sparseWf_nil | exact sparseWf_filter h.1 | exact sparseWf_smap h.1 | exact sparseWf_sdrop h.1 | exact sparseWf_sset (sparseWf_sset h.1) | exact sparseWf_fold sparseWf_nil | (dsimp only; exact sparseWf_smap h.1)), (by first | exact h.2.1 | exact sparseWf_sset h.2.1 | exact sparseWf_nil | exact sparseWf_filter h.2.1 | exact sparseWf_smap h.2.1 | exact sparseWf_sdrop h.2.1 | exact sparseWf_sset (sparseWf_sset h.2.1) | exact sparseWf_fold sparseWf_nil | (dsimp only; exact sparseWf_smap h.2.1)), (by first | exact h.2.2.1 | exact sparseWf_sset h.2.2.1 | exact sparseWf_nil | exact sparseWf_filter h.2.2.1 | exact sparseWf_smap h.2.2.1 | exact sparseWf_sdrop h.2.2.1 | exact sparseWf_sset (sparseWf_sset h.2.2.1) | exact sparseWf_fold sparseWf_nil | (dsimp only; exact sparseWf_smap h.2.2.1)), (by first | exact h.2.2.2 | exact sparseWf_sset h.2.2.2 | exact sparseWf_nil | exact sparseWf_filter h.2.2.2 | exact sparseWf_smap h.2.2.2 | exact sparseWf_sdrop h.2.2.2 | exact sparseWf_sset (sparseWf_sset h.2.2.2) | exact sparseWf_fold sparseWf_nil | (dsimp only; exact sparseWf_smap h.2.2.2))⟩)
  exact h1

theorem writeDram_frame {a0 : Nat} {a1 : Nat} {a2 : Nat} {a3 : List (Option Byte)} : Frame (some [.HIF_EVENT, .HIF_WR_REF, .HIF_WR_REF_ADDR_HI, .HIF_WR_REF_ADDR_LO, .SEC_EVENT, .SEC_STATUS]) [.dram, .events, .mem, .resp, .sup] s (writeDram a0 a1 a2 a3 s) := by
  unfold writeDram
  extract_lets -merge -useContext -underBinder +onlyGivenNames v1 v2 v3 v4 x5
  refine Frame.via x5 ?_ fun h5 => ?_
  · unfold x5
    refine Frame.forAll _ ?_ fun i x hx => ?_
    · exact Frame.refl
    · refine Frame.then ?_ dramStore_frame rfl rfl
      exact hx
  try clear_value x5
  extract_lets -merge -useContext -underBinder +onlyGivenNames x6
  refine Frame.via x6 ?_ fun h6 => ?_
  · unfold x6
    refine Frame.ite (fun _ => ?_) (fun _ => ?_)
    · refine Frame.then ?_ taint_frame rfl rfl
      exact h5
    · exact h5
  try clear_value x6
  refine Frame.ite (fun _ => ?_) (fun _ => ?_)
  · refine Frame.then ?_ wrRefused_frame rfl rfl
    exact h6
  · exact h6

theorem blockWriteDram_frame {a0 : Nat} {a1 : List Byte} : Frame (some [.HIF_EVENT, .HIF_WR_REF, .HIF_WR_REF_ADDR_HI, .HIF_WR_REF_ADDR_LO, .SEC_EVENT, .SEC_STATUS]) [.dram, .events, .free, .mem, .resp, .sup] s (blockWriteDram a0 a1 s) := by
  unfold blockWriteDram
  extract_lets -merge -useContext -underBinder +onlyGivenNames v1
  refine Frame.ite (fun _ => ?_) (fun _ => ?_)
  · first | split | (clear_value *; split)
    · rename_i x2 e2
      refine Frame.via x2 (Frame.ofSnd e2 ?_) fun h2 => ?_
      · refine Frame.fresh ?_ rfl
        exact Frame.refl
      refine Frame.then ?_ writeDram_frame rfl rfl
      exact h2
  · refine Frame.then ?_ writeDram_frame rfl rfl
    exact Frame.refl

theorem readDram_frame {a0 : Nat} {a1 : Nat} : Frame (some [.SEC_EVENT]) [.events, .sup] s (readDram a0 a1 s).2 := by
  unfold readDram
  extract_lets -merge -useContext -underBinder +onlyGivenNames v1 v2
  refine Frame.raiseIf ?_ (inRows_of (r := .SEC_EVENT) rfl (by exact rfl)) rfl
  exact Frame.refl

theorem guardImage_frame  : Frame (some []) [.sec] s (guardImage s) := by
  unfold guardImage
  refine Frame.ite (fun _ => ?_) (fun _ => ?_)
  · extract_lets -merge -useContext -underBinder +onlyGivenNames v1
    refine Frame.sec ?_ rfl (fun _ => trivial)
    exact Frame.refl
  · exact Frame.refl

theorem holdAccess_frame {a0 : HeldAccess} {a1 : List (Nat × Nat)} : Frame (some []) [.mem] s (holdAccess a0 a1 s) := by
  unfold holdAccess
  extract_lets -merge -useContext -underBinder +onlyGivenNames v1
  refine Frame.then ?_ askDram_frame rfl rfl
  refine Frame.mem ?_ rfl (fun h => ⟨(by first | exact h.1 | exact sparseWf_sset h.1 | exact sparseWf_nil | exact sparseWf_filter h.1 | exact sparseWf_smap h.1 | exact sparseWf_sdrop h.1 | exact sparseWf_sset (sparseWf_sset h.1) | exact sparseWf_fold sparseWf_nil | (dsimp only; exact sparseWf_smap h.1)), (by first | exact h.2.1 | exact sparseWf_sset h.2.1 | exact sparseWf_nil | exact sparseWf_filter h.2.1 | exact sparseWf_smap h.2.1 | exact sparseWf_sdrop h.2.1 | exact sparseWf_sset (sparseWf_sset h.2.1) | exact sparseWf_fold sparseWf_nil | (dsimp only; exact sparseWf_smap h.2.1)), (by first | exact h.2.2.1 | exact sparseWf_sset h.2.2.1 | exact sparseWf_nil | exact sparseWf_filter h.2.2.1 | exact sparseWf_smap h.2.2.1 | exact sparseWf_sdrop h.2.2.1 | exact sparseWf_sset (sparseWf_sset h.2.2.1) | exact sparseWf_fold sparseWf_nil | (dsimp only; exact sparseWf_smap h.2.2.1)), (by first | exact h.2.2.2 | exact sparseWf_sset h.2.2.2 | exact sparseWf_nil | exact sparseWf_filter h.2.2.2 | exact sparseWf_smap h.2.2.2 | exact sparseWf_sdrop h.2.2.2 | exact sparseWf_sset (sparseWf_sset h.2.2.2) | exact sparseWf_fold sparseWf_nil | (dsimp only; exact sparseWf_smap h.2.2.2))⟩)
  exact Frame.refl

theorem loseConfig_frame {a0 : Nat} : Frame (some [.GLB_MODE_STATUS]) [] s (loseConfig a0 s) := by
  unfold loseConfig
  refine Frame.ite (fun _ => ?_) (fun _ => ?_)
  · refine Frame.put ?_ (inRows_of (r := .GLB_MODE_STATUS) rfl (by exact rfl))
    exact Frame.refl
  · exact Frame.refl

theorem sramUe_frame {a0 : Nat} {a1 : Bool} : Frame (some [.GLB_MODE_STATUS, .MEM_EVENT, .MEM_SRAM_ERR, .MEM_SRAM_UE_ADDR, .SUP_TRIP, .SUP_TRIP_ERR, .SUP_TRIP_REEL_HI, .SUP_TRIP_REEL_LO, .SUP_TRIP_SEEN]) [.events, .glb, .sup] s (sramUe a0 s a1) := by
  unfold sramUe
  extract_lets -merge -useContext -underBinder +onlyGivenNames x1
  refine Frame.via x1 ?_ fun h1 => ?_
  · unfold x1
    refine Frame.count ?_ (inRows_of (r := .MEM_SRAM_ERR) rfl (by exact ⟨_, rfl⟩))
    refine Frame.put ?_ (inRows_of (r := .MEM_SRAM_UE_ADDR) rfl (by exact rfl))
    exact Frame.refl
  try clear_value x1
  extract_lets -merge -useContext -underBinder +onlyGivenNames v2 x3
  refine Frame.via x3 ?_ fun h3 => ?_
  · unfold x3
    refine Frame.ite (fun _ => ?_) (fun _ => ?_)
    · refine Frame.then ?_ detect_frame rfl rfl
      exact h1
    · exact h1
  try clear_value x3
  refine Frame.then ?_ loseConfig_frame rfl rfl
  refine Frame.ite (fun _ => ?_) (fun _ => ?_)
  · refine Frame.setFlag ?_ (inRows_of (r := .MEM_EVENT) rfl (by exact rfl)) rfl
    exact h3
  · refine Frame.raise ?_ (inRows_of (r := .MEM_EVENT) rfl (by exact rfl)) rfl
    exact h3

theorem uncorrectable_frame {a0 : Nat} {a1 : List Nat} {a2 : Nat} {a3 : Nat} {a4 : Bool} : Frame (some []) [.free] s (uncorrectable a0 a1 a2 a3 a4 s).2 := by
  unfold uncorrectable
  first | split | (clear_value *; split)
  · first | split | (clear_value *; split)
    · split
      · first | split | (clear_value *; split)
        · rename_i x1 e1
          refine Frame.via x1 (Frame.ofSnd e1 ?_) fun h1 => ?_
          · refine Frame.fresh ?_ rfl
            exact Frame.refl
          exact h1
      · exact Frame.refl
    · exact Frame.refl

theorem sramFinds_frame {a0 : Nat} {a1 : Nat} {a2 : Bool} : Frame (some [.GLB_MODE_STATUS, .MEM_EVENT, .MEM_SRAM_ERR, .MEM_SRAM_UE_ADDR, .SUP_TRIP, .SUP_TRIP_ERR, .SUP_TRIP_REEL_HI, .SUP_TRIP_REEL_LO, .SUP_TRIP_SEEN]) [.events, .free, .glb, .sup] s (sramFinds a0 a1 a2 s).2 := by
  unfold sramFinds
  first | split | (clear_value *; split)
  · rename_i x1 e1
    refine Frame.via x1 (Frame.ofSnd e1 ?_) fun h1 => ?_
    · refine Frame.then ?_ uncorrectable_frame rfl rfl
      exact Frame.refl
    refine Frame.forAll _ ?_ fun i x hx => ?_
    · exact h1
    · refine Frame.then ?_ sramUe_frame rfl rfl
      exact hx

theorem dramUe_frame {a0 : Nat} : Frame (some [.MEM_DRAM_ERR, .MEM_DRAM_UE_ADDR_HI, .MEM_DRAM_UE_ADDR_LO, .MEM_EVENT]) [.events, .sup] s (dramUe a0 s) := by
  unfold dramUe
  extract_lets -merge -useContext -underBinder +onlyGivenNames v1 x2
  refine Frame.via x2 ?_ fun h2 => ?_
  · unfold x2
    refine Frame.count ?_ (inRows_of (r := .MEM_DRAM_ERR) rfl (by exact ⟨_, rfl⟩))
    refine Frame.wr64 ?_ (inRows_of (r := .MEM_DRAM_UE_ADDR_LO) rfl (by exact ⟨_, rfl⟩)) (inRows_of (r := .MEM_DRAM_UE_ADDR_HI) rfl (by exact ⟨_, hiShift1 (by decide)⟩))
    exact Frame.refl
  try clear_value x2
  refine Frame.raise ?_ (inRows_of (r := .MEM_EVENT) rfl (by exact rfl)) rfl
  exact h2

theorem dramFinds_frame {a0 : Nat} {a1 : Nat} {a2 : Bool} : Frame (some [.MEM_DRAM_ERR, .MEM_DRAM_UE_ADDR_HI, .MEM_DRAM_UE_ADDR_LO, .MEM_EVENT]) [.events, .free, .sup] s (dramFinds a0 a1 a2 s).2 := by
  unfold dramFinds
  first | split | (clear_value *; split)
  · rename_i x1 e1
    refine Frame.via x1 (Frame.ofSnd e1 ?_) fun h1 => ?_
    · refine Frame.then ?_ uncorrectable_frame rfl rfl
      exact Frame.refl
    refine Frame.forAll _ ?_ fun i x hx => ?_
    · exact h1
    · refine Frame.then ?_ dramUe_frame rfl rfl
      exact hx

theorem writeSram_frame {a0 : Nat} {a1 : Nat} {a2 : Nat} {a3 : List (Option Byte)} {a4 : Bool} : Frame (some [.GLB_MODE_STATUS, .HIF_EVENT, .HIF_WR_REF, .HIF_WR_REF_ADDR_HI, .HIF_WR_REF_ADDR_LO, .MEM_EVENT, .MEM_SRAM_ERR, .MEM_SRAM_UE_ADDR, .SEC_EVENT, .SEC_STATUS, .SUP_TRIP, .SUP_TRIP_ERR, .SUP_TRIP_REEL_HI, .SUP_TRIP_REEL_LO, .SUP_TRIP_SEEN]) [.events, .free, .glb, .resp, .sram, .sup] s (writeSram a0 a1 a2 a3 a4 s) := by
  unfold writeSram
  extract_lets -merge -useContext -underBinder +onlyGivenNames v1 v2 v3 v4 w5 x6
  refine Frame.via x6 ?_ fun h6 => ?_
  · unfold x6
    refine Frame.forAll _ ?_ fun i x hx => ?_
    · exact Frame.refl
    · refine Frame.putSram ?_ rfl
      exact hx
  try clear_value x6
  extract_lets -merge -useContext -underBinder +onlyGivenNames x7
  refine Frame.via x7 ?_ fun h7 => ?_
  · unfold x7
    refine Frame.ite (fun _ => ?_) (fun _ => ?_)
    · first | split | (clear_value *; split)
      · rename_i x8 e8
        refine Frame.via x8 (Frame.ofSnd e8 ?_) fun h8 => ?_
        · refine Frame.fresh ?_ rfl
          exact Frame.refl
        refine Frame.raise ?_ (inRows_of (r := .MEM_EVENT) rfl (by exact rfl)) rfl
        refine Frame.then ?_ sramUe_frame rfl rfl
        exact h8
    · refine Frame.ite (fun _ => ?_) (fun _ => ?_)
      · refine Frame.then ?_ taint_frame rfl rfl
        exact h6
      · exact h6
  try clear_value x7
  refine Frame.ite (fun _ => ?_) (fun _ => ?_)
  · refine Frame.then ?_ wrRefused_frame rfl rfl
    exact h7
  · exact h7

theorem readSram_frame {a0 : Nat} {a1 : Nat} : Frame (some [.SEC_EVENT]) [.events, .sup] s (readSram a0 a1 s).2 := by
  unfold readSram
  extract_lets -merge -useContext -underBinder +onlyGivenNames v1 v2
  refine Frame.raiseIf ?_ (inRows_of (r := .SEC_EVENT) rfl (by exact rfl)) rfl
  exact Frame.refl

theorem State.tapDone_frame {a0 : Nat} : Frame (some []) [.tap] s (State.tapDone s a0) := by
  unfold State.tapDone
  refine Frame.tap ?_ rfl (fun _ => trivial)
  exact Frame.refl

theorem countCe_frame {a0 : Nat} : Frame (some [.MEM_EVENT]) [.events, .mem, .sup] s (countCe a0 s) := by
  unfold countCe
  extract_lets -merge -useContext -underBinder +onlyGivenNames v1 v2 w3 x4
  refine Frame.via x4 ?_ fun h4 => ?_
  · unfold x4
    refine Frame.mem ?_ rfl (fun h => ⟨(by first | exact h.1 | exact sparseWf_sset h.1 | exact sparseWf_nil | exact sparseWf_filter h.1 | exact sparseWf_smap h.1 | exact sparseWf_sdrop h.1 | exact sparseWf_sset (sparseWf_sset h.1) | exact sparseWf_fold sparseWf_nil | (dsimp only; exact sparseWf_smap h.1)), (by first | exact h.2.1 | exact sparseWf_sset h.2.1 | exact sparseWf_nil | exact sparseWf_filter h.2.1 | exact sparseWf_smap h.2.1 | exact sparseWf_sdrop h.2.1 | exact sparseWf_sset (sparseWf_sset h.2.1) | exact sparseWf_fold sparseWf_nil | (dsimp only; exact sparseWf_smap h.2.1)), (by first | exact h.2.2.1 | exact sparseWf_sset h.2.2.1 | exact sparseWf_nil | exact sparseWf_filter h.2.2.1 | exact sparseWf_smap h.2.2.1 | exact sparseWf_sdrop h.2.2.1 | exact sparseWf_sset (sparseWf_sset h.2.2.1) | exact sparseWf_fold sparseWf_nil | (dsimp only; exact sparseWf_smap h.2.2.1)), (by first | exact h.2.2.2 | exact sparseWf_sset h.2.2.2 | exact sparseWf_nil | exact sparseWf_filter h.2.2.2 | exact sparseWf_smap h.2.2.2 | exact sparseWf_sdrop h.2.2.2 | exact sparseWf_sset (sparseWf_sset h.2.2.2) | exact sparseWf_fold sparseWf_nil | (dsimp only; exact sparseWf_smap h.2.2.2))⟩)
    exact Frame.refl
  try clear_value x4
  refine Frame.raiseIf ?_ (inRows_of (r := .MEM_EVENT) rfl (by exact rfl)) rfl
  exact h4

theorem setLowSince_frame {a0 : Nat} {a1 : Option Nat} : Frame (some []) [.mem] s (setLowSince a0 a1 s) := by
  unfold setLowSince
  refine Frame.mem ?_ rfl (fun h => ⟨(by first | exact h.1 | exact sparseWf_sset h.1 | exact sparseWf_nil | exact sparseWf_filter h.1 | exact sparseWf_smap h.1 | exact sparseWf_sdrop h.1 | exact sparseWf_sset (sparseWf_sset h.1) | exact sparseWf_fold sparseWf_nil | (dsimp only; exact sparseWf_smap h.1)), (by first | exact h.2.1 | exact sparseWf_sset h.2.1 | exact sparseWf_nil | exact sparseWf_filter h.2.1 | exact sparseWf_smap h.2.1 | exact sparseWf_sdrop h.2.1 | exact sparseWf_sset (sparseWf_sset h.2.1) | exact sparseWf_fold sparseWf_nil | (dsimp only; exact sparseWf_smap h.2.1)), (by first | exact h.2.2.1 | exact sparseWf_sset h.2.2.1 | exact sparseWf_nil | exact sparseWf_filter h.2.2.1 | exact sparseWf_smap h.2.2.1 | exact sparseWf_sdrop h.2.2.1 | exact sparseWf_sset (sparseWf_sset h.2.2.1) | exact sparseWf_fold sparseWf_nil | (dsimp only; exact sparseWf_smap h.2.2.1)), (by first | exact h.2.2.2 | exact sparseWf_sset h.2.2.2 | exact sparseWf_nil | exact sparseWf_filter h.2.2.2 | exact sparseWf_smap h.2.2.2 | exact sparseWf_sdrop h.2.2.2 | exact sparseWf_sset (sparseWf_sset h.2.2.2) | exact sparseWf_fold sparseWf_nil | (dsimp only; exact sparseWf_smap h.2.2.2))⟩)
  exact Frame.refl

theorem stackBand_frame {a0 : Nat} {a1 : Nat} : Frame (some [.MEM_EVENT, .MEM_STATUS]) [.events, .mem, .sup] s (stackBand a0 a1 s) := by
  unfold stackBand
  extract_lets -merge -useContext -underBinder +onlyGivenNames v1 v2 v3
  refine Frame.ite (fun _ => ?_) (fun _ => ?_)
  · refine Frame.then ?_ setLowSince_frame rfl rfl
    refine Frame.raise ?_ (inRows_of (r := .MEM_EVENT) rfl (by exact rfl)) rfl
    refine Frame.put ?_ (inRows_of (r := .MEM_STATUS) rfl (by exact rfl))
    exact Frame.refl
  · refine Frame.ite (fun _ => ?_) (fun _ => ?_)
    · refine Frame.ite (fun _ => ?_) (fun _ => ?_)
      · exact Frame.refl
      · refine Frame.then ?_ setLowSince_frame rfl rfl
        exact Frame.refl
    · refine Frame.then ?_ setLowSince_frame rfl rfl
      exact Frame.refl

theorem refillError_frame {a0 : Nat} : Frame (some [.STM_RV_EVENT]) [.events, .mem, .rv, .sup] s (refillError a0 s) := by
  unfold refillError
  refine Frame.raise ?_ (inRows_of (r := .STM_RV_EVENT) rfl (by exact ⟨_, rfl⟩)) rfl
  refine Frame.then ?_ dropRefills_frame rfl rfl
  refine Frame.then ?_ State.setStream_frame rfl rfl
  exact Frame.refl

end Sys2Proof.Machine
end

