-- ==== Sys2Proof/Laws/Frame/Drafter.lean ====
section
/-! SUPPORT. Laws/Frame/Drafter.lean: what each operation of Machine/Drafter.lean can change, and that it keeps a sound state sound. -/

set_option Elab.async false

namespace Sys2Proof.Machine

variable {R : Option (List RegRow)} {P : List Part} {s t : State}

theorem State.setJob_frame {a0 : Nat} {a1 : Option Job} : Frame (some []) [.jobs] s (State.setJob s a0 a1) := by
  unfold State.setJob
  refine Frame.jobs ?_ rfl (fun h => (by first | exact h | exact sparseWf_sset h | exact sparseWf_nil | exact sparseWf_filter h | exact sparseWf_smap h | exact sparseWf_sdrop h | exact sparseWf_sset (sparseWf_sset h) | exact sparseWf_fold sparseWf_nil | (dsimp only; exact sparseWf_smap h)))
  exact Frame.refl

theorem restLane_frame {a0 : Nat} : Frame (some [.DRF_LANE_STATUS]) [] s (restLane a0 s) := by
  unfold restLane
  refine Frame.put ?_ (inRows_of (r := .DRF_LANE_STATUS) rfl (by exact ⟨_, rfl⟩))
  exact Frame.refl

theorem drfTailWrite_frame {a0 : Path} {a1 : Nat} {a2 : Word} : Frame (some [.DRF_LANE_STATUS, .DRF_LANE_TAIL, .HIF_EVENT, .HIF_WR_REF, .HIF_WR_REF_ADDR_HI, .HIF_WR_REF_ADDR_LO]) [.events, .resp, .sup] s (drfTailWrite a0 a1 a2 s) := by
  unfold drfTailWrite
  refine gated_frame ?_ rfl rfl (fun x hx => ?_)
  · exact Frame.refl
  · extract_lets -merge -useContext -underBinder +onlyGivenNames v1
    refine Frame.ite (fun _ => ?_) (fun _ => ?_)
    · extract_lets -merge -useContext -underBinder +onlyGivenNames x2
      refine Frame.via x2 ?_ fun h2 => ?_
      · unfold x2
        refine Frame.put ?_ (inRows_of (r := .DRF_LANE_TAIL) rfl (by exact ⟨_, rfl⟩))
        exact hx
      try clear_value x2
      refine Frame.ite (fun _ => ?_) (fun _ => ?_)
      · refine Frame.then ?_ restLane_frame rfl rfl
        exact h2
      · exact h2
    · exact hx

theorem execDrfTailWrite_frame {a0 : Path} {a1 : Fin 8} {a2 : Word} : ∃ t, execDrfTailWrite a0 a1 a2 s = .next t ∧ Frame (some [.DRF_LANE_STATUS, .DRF_LANE_TAIL, .HIF_EVENT, .HIF_WR_REF, .HIF_WR_REF_ADDR_HI, .HIF_WR_REF_ADDR_LO]) [.events, .resp, .sup] s t := by
  refine ⟨_, rfl, ?_⟩
  refine Frame.then ?_ drfTailWrite_frame rfl rfl
  exact Frame.refl

theorem jobFinds_frame {a0 : List Nat} {a1 : Nat} {a2 : Nat} {a3 : Bool} : Frame (some [.MEM_DRAM_ERR, .MEM_DRAM_UE_ADDR_HI, .MEM_DRAM_UE_ADDR_LO, .MEM_EVENT]) [.events, .free, .sup] s (jobFinds a0 a1 a2 a3 s).2 := by
  unfold jobFinds
  first | split | (clear_value *; split)
  · rename_i x1 e1
    refine Frame.via x1 (Frame.ofSnd e1 ?_) fun h1 => ?_
    · refine Frame.then ?_ dramFinds_frame rfl rfl
      exact Frame.refl
    exact h1

theorem compressBlocks_frame {a0 : Job} {a1 : Nat} {a2 : Nat} {a3 : Nat} {a4 : Option (List Byte)} : Frame (some [.HIF_EVENT, .HIF_WR_REF, .HIF_WR_REF_ADDR_HI, .HIF_WR_REF_ADDR_LO, .MEM_DRAM_ERR, .MEM_DRAM_UE_ADDR_HI, .MEM_DRAM_UE_ADDR_LO, .MEM_EVENT, .SEC_EVENT, .SEC_STATUS]) [.dram, .events, .free, .mem, .resp, .sup] s (compressBlocks a0 a1 a2 a3 a4 s).2 := by
  induction a1 generalizing a2 a3 a4 s with
  | zero => exact Frame.refl
  | succ n ih =>
    unfold compressBlocks
    extract_lets -merge -useContext -underBinder +onlyGivenNames d size
    split
    · exact Frame.refl
    · extract_lets -merge -useContext -underBinder +onlyGivenNames a m
      split
      rename_i hit x e
      have hx : Frame (some [.HIF_EVENT, .HIF_WR_REF, .HIF_WR_REF_ADDR_HI, .HIF_WR_REF_ADDR_LO, .MEM_DRAM_ERR, .MEM_DRAM_UE_ADDR_HI, .MEM_DRAM_UE_ADDR_LO, .MEM_EVENT, .SEC_EVENT, .SEC_STATUS]) [.dram, .events, .free, .mem, .resp, .sup] s x :=
        Frame.ofSnd e (jobFinds_frame.mono rfl rfl)
      split
      · exact hx
      · extract_lets -merge -useContext -underBinder +onlyGivenNames data
        split
        extract_lets -merge -useContext -underBinder +onlyGivenNames w
        split
        · exact hx
        · extract_lets -merge -useContext -underBinder +onlyGivenNames y e coff z
          have hy : Frame (some [.HIF_EVENT, .HIF_WR_REF, .HIF_WR_REF_ADDR_HI, .HIF_WR_REF_ADDR_LO, .MEM_DRAM_ERR, .MEM_DRAM_UE_ADDR_HI, .MEM_DRAM_UE_ADDR_LO, .MEM_EVENT, .SEC_EVENT, .SEC_STATUS]) [.dram, .events, .free, .mem, .resp, .sup] s y :=
            hx.then blockWriteDram_frame rfl rfl
          have hz : Frame (some [.HIF_EVENT, .HIF_WR_REF, .HIF_WR_REF_ADDR_HI, .HIF_WR_REF_ADDR_LO, .MEM_DRAM_ERR, .MEM_DRAM_UE_ADDR_HI, .MEM_DRAM_UE_ADDR_LO, .MEM_EVENT, .SEC_EVENT, .SEC_STATUS]) [.dram, .events, .free, .mem, .resp, .sup] s z :=
            Frame.ite (fun _ => hy.then blockWriteDram_frame rfl rfl) (fun _ => hy)
          exact hz.trans ih

theorem readBlock_frame {a0 : Nat} {a1 : Bool} {a2 : List Nat} : Frame (some [.MEM_DRAM_ERR, .MEM_DRAM_UE_ADDR_HI, .MEM_DRAM_UE_ADDR_LO, .MEM_EVENT]) [.events, .free, .sup] s (readBlock a0 a1 a2 s).2 := by
  unfold readBlock
  extract_lets -merge -useContext -underBinder +onlyGivenNames v1
  first | split | (clear_value *; split)
  · extract_lets -merge -useContext -underBinder +onlyGivenNames v2 v3
    first | split | (clear_value *; split)
    · rename_i x4 e4
      refine Frame.via x4 (Frame.ofSnd e4 ?_) fun h4 => ?_
      · split
        · refine Frame.fresh ?_ rfl
          exact Frame.refl
        · exact Frame.refl
      extract_lets -merge -useContext -underBinder +onlyGivenNames v5
      first | split | (clear_value *; split)
      · rename_i x6 e6
        refine Frame.via x6 (Frame.ofSnd e6 ?_) fun h6 => ?_
        · refine Frame.then ?_ jobFinds_frame rfl rfl
          exact h4
        split
        · exact h6
        · split
          · exact h6
          · first | split | (clear_value *; split)
            · rename_i x7 e7
              refine Frame.via x7 (Frame.ofSnd e7 ?_) fun h7 => ?_
              · refine Frame.then ?_ jobFinds_frame rfl rfl
                exact h6
              split
              · exact h7
              · split
                · exact h7
                · split
                  · exact h7
                  · first | split | (clear_value *; split)
                    · rename_i x8 e8
                      refine Frame.via x8 (Frame.ofSnd e8 ?_) fun h8 => ?_
                      · refine Frame.then ?_ jobFinds_frame rfl rfl
                        exact h7
                      split
                      · exact h8
                      · exact h8

theorem expandBlocks_frame {a0 : Job} {a1 : Nat} {a2 : Nat} {a3 : Nat} : Frame (some [.HIF_EVENT, .HIF_WR_REF, .HIF_WR_REF_ADDR_HI, .HIF_WR_REF_ADDR_LO, .MEM_DRAM_ERR, .MEM_DRAM_UE_ADDR_HI, .MEM_DRAM_UE_ADDR_LO, .MEM_EVENT, .SEC_EVENT, .SEC_STATUS]) [.dram, .events, .free, .mem, .resp, .sup] s (expandBlocks a0 a1 a2 a3 s).2 := by
  induction a1 generalizing a2 a3 s with
  | zero => exact Frame.refl
  | succ n ih =>
    unfold expandBlocks
    extract_lets -merge -useContext -underBinder +onlyGivenNames d
    split
    rename_i err bytes x e
    extract_lets -merge -useContext -underBinder +onlyGivenNames room writes full put y
    have hx := Frame.ofSnd e readBlock_frame
    have hy := (hx.mono (R' := some [.HIF_EVENT, .HIF_WR_REF, .HIF_WR_REF_ADDR_HI, .HIF_WR_REF_ADDR_LO, .MEM_DRAM_ERR, .MEM_DRAM_UE_ADDR_HI, .MEM_DRAM_UE_ADDR_LO, .MEM_EVENT, .SEC_EVENT, .SEC_STATUS])
      (P' := [.dram, .events, .free, .mem, .resp, .sup]) rfl rfl).then (u := y) blockWriteDram_frame rfl rfl
    clear_value y
    split
    · exact hy
    · split
      · exact hy
      · exact hy.trans ih

theorem runJob_frame {a0 : Job} : Frame (some [.HIF_EVENT, .HIF_WR_REF, .HIF_WR_REF_ADDR_HI, .HIF_WR_REF_ADDR_LO, .MEM_DRAM_ERR, .MEM_DRAM_UE_ADDR_HI, .MEM_DRAM_UE_ADDR_LO, .MEM_EVENT, .SEC_EVENT, .SEC_STATUS]) [.dram, .events, .free, .mem, .resp, .sup] s (runJob a0 s).2 := by
  unfold runJob
  split
  · exact Frame.refl
  · split
    · refine Frame.then ?_ compressBlocks_frame rfl rfl
      exact Frame.refl
    · refine Frame.then ?_ expandBlocks_frame rfl rfl
      exact Frame.refl

theorem startJob_frame {a0 : Nat} {a1 : Job} : Frame (some [.DRF_LANE_STATUS, .HIF_EVENT, .HIF_WR_REF, .HIF_WR_REF_ADDR_HI, .HIF_WR_REF_ADDR_LO, .MEM_DRAM_ERR, .MEM_DRAM_UE_ADDR_HI, .MEM_DRAM_UE_ADDR_LO, .MEM_EVENT, .SEC_EVENT, .SEC_STATUS]) [.dram, .events, .free, .jobs, .mem, .resp, .sup] s (startJob a0 a1 s) := by
  unfold startJob
  refine Frame.then ?_ askDram_frame rfl rfl
  refine Frame.put ?_ (inRows_of (r := .DRF_LANE_STATUS) rfl (by exact ⟨_, rfl⟩))
  refine Frame.then ?_ State.setJob_frame rfl rfl
  exact Frame.refl

theorem compressJob_frame {a0 : Nat} {a1 : Option Nat} : Frame (some [.DRF_LANE_STATUS, .HIF_EVENT, .HIF_WR_REF, .HIF_WR_REF_ADDR_HI, .HIF_WR_REF_ADDR_LO, .MEM_DRAM_ERR, .MEM_DRAM_UE_ADDR_HI, .MEM_DRAM_UE_ADDR_LO, .MEM_EVENT, .SEC_EVENT, .SEC_STATUS]) [.dram, .events, .free, .jobs, .mem, .resp, .sup] s (compressJob a0 a1 s) := by
  unfold compressJob
  refine Frame.ite (fun _ => ?_) (fun _ => ?_)
  · extract_lets -merge -useContext -underBinder +onlyGivenNames v1
    refine Frame.then ?_ startJob_frame rfl rfl
    exact Frame.refl
  · exact Frame.refl

theorem execDrfCompress_frame {a0 : Fin 8} {a1 : Option Nat} : ∃ t, execDrfCompress a0 a1 s = .next t ∧ Frame (some [.DRF_LANE_STATUS, .HIF_EVENT, .HIF_WR_REF, .HIF_WR_REF_ADDR_HI, .HIF_WR_REF_ADDR_LO, .MEM_DRAM_ERR, .MEM_DRAM_UE_ADDR_HI, .MEM_DRAM_UE_ADDR_LO, .MEM_EVENT, .SEC_EVENT, .SEC_STATUS]) [.dram, .events, .free, .jobs, .mem, .resp, .sup] s t := by
  refine ⟨_, rfl, ?_⟩
  refine Frame.then ?_ compressJob_frame rfl rfl
  exact Frame.refl

theorem expandJob_frame {a0 : Nat} {a1 : Nat} {a2 : Option Nat} : Frame (some [.DRF_LANE_STATUS, .HIF_EVENT, .HIF_WR_REF, .HIF_WR_REF_ADDR_HI, .HIF_WR_REF_ADDR_LO, .MEM_DRAM_ERR, .MEM_DRAM_UE_ADDR_HI, .MEM_DRAM_UE_ADDR_LO, .MEM_EVENT, .SEC_EVENT, .SEC_STATUS]) [.dram, .events, .free, .jobs, .mem, .resp, .sup] s (expandJob a0 a1 a2 s) := by
  unfold expandJob
  refine Frame.ite (fun _ => ?_) (fun _ => ?_)
  · extract_lets -merge -useContext -underBinder +onlyGivenNames v1
    refine Frame.ite (fun _ => ?_) (fun _ => ?_)
    · refine Frame.then ?_ startJob_frame rfl rfl
      exact Frame.refl
    · exact Frame.refl
  · exact Frame.refl

theorem execDrfDecompress_frame {a0 : Fin 8} {a1 : Option Nat} : ∃ t, execDrfDecompress a0 a1 s = .next t ∧ Frame (some [.DRF_LANE_STATUS, .HIF_EVENT, .HIF_WR_REF, .HIF_WR_REF_ADDR_HI, .HIF_WR_REF_ADDR_LO, .MEM_DRAM_ERR, .MEM_DRAM_UE_ADDR_HI, .MEM_DRAM_UE_ADDR_LO, .MEM_EVENT, .SEC_EVENT, .SEC_STATUS]) [.dram, .events, .free, .jobs, .mem, .resp, .sup] s t := by
  refine ⟨_, rfl, ?_⟩
  refine Frame.then ?_ expandJob_frame rfl rfl
  exact Frame.refl

theorem execDrfVerify_frame {a0 : Fin 8} {a1 : Option Nat} : ∃ t, execDrfVerify a0 a1 s = .next t ∧ Frame (some [.DRF_LANE_STATUS, .HIF_EVENT, .HIF_WR_REF, .HIF_WR_REF_ADDR_HI, .HIF_WR_REF_ADDR_LO, .MEM_DRAM_ERR, .MEM_DRAM_UE_ADDR_HI, .MEM_DRAM_UE_ADDR_LO, .MEM_EVENT, .SEC_EVENT, .SEC_STATUS]) [.dram, .events, .free, .jobs, .mem, .resp, .sup] s t := by
  refine ⟨_, rfl, ?_⟩
  refine Frame.then ?_ expandJob_frame rfl rfl
  exact Frame.refl

theorem endJob_frame {a0 : Nat} {a1 : Job} {a2 : Nat × Nat × Nat} : Frame (some [.DRF_LANE_EVENT, .DRF_LANE_HEAD, .DRF_LANE_STATUS]) [.events, .jobs, .sram, .sup] s (endJob a0 a1 a2 s) := by
  unfold endJob
  extract_lets -merge -useContext -underBinder +onlyGivenNames v1 x2
  refine Frame.via x2 ?_ fun h2 => ?_
  · unfold x2
    refine Frame.putSramBytes ?_ rfl
    exact Frame.refl
  try clear_value x2
  extract_lets -merge -useContext -underBinder +onlyGivenNames x3
  refine Frame.via x3 ?_ fun h3 => ?_
  · unfold x3
    refine Frame.put ?_ (inRows_of (r := .DRF_LANE_HEAD) rfl (by exact ⟨_, rfl⟩))
    exact h2
  try clear_value x3
  extract_lets -merge -useContext -underBinder +onlyGivenNames x4
  refine Frame.via x4 ?_ fun h4 => ?_
  · unfold x4
    refine Frame.raise ?_ (by split <;> first | exact inRows_of (r := .DRF_LANE_EVENT) rfl (by exact ⟨_, rfl⟩)) rfl
    exact h3
  try clear_value x4
  extract_lets -merge -useContext -underBinder +onlyGivenNames x5
  refine Frame.via x5 ?_ fun h5 => ?_
  · unfold x5
    refine Frame.raiseIf ?_ (inRows_of (r := .DRF_LANE_EVENT) rfl (by exact ⟨_, rfl⟩)) rfl
    exact h4
  try clear_value x5
  extract_lets -merge -useContext -underBinder +onlyGivenNames x6
  refine Frame.via x6 ?_ fun h6 => ?_
  · unfold x6
    refine Frame.ite (fun _ => ?_) (fun _ => ?_)
    · exact h5
    · refine Frame.put ?_ (inRows_of (r := .DRF_LANE_STATUS) rfl (by exact ⟨_, rfl⟩))
      exact h5
  try clear_value x6
  refine Frame.then ?_ restLane_frame rfl rfl
  refine Frame.then ?_ State.setJob_frame rfl rfl
  exact h6

theorem jobDone_frame {a0 : Nat} : Frame (some [.DRF_LANE_BLOCKS, .DRF_LANE_EVENT, .DRF_LANE_HEAD, .DRF_LANE_STATUS, .HIF_EVENT, .HIF_WR_REF, .HIF_WR_REF_ADDR_HI, .HIF_WR_REF_ADDR_LO, .MEM_DRAM_ERR, .MEM_DRAM_UE_ADDR_HI, .MEM_DRAM_UE_ADDR_LO, .MEM_EVENT, .SEC_EVENT, .SEC_STATUS]) [.dram, .events, .free, .jobs, .mem, .resp, .sram, .sup] s (jobDone a0 s) := by
  unfold jobDone
  first | split | (clear_value *; split)
  · refine Frame.ite (fun _ => ?_) (fun _ => ?_)
    · first | split | (clear_value *; split)
      · rename_i x1 e1
        refine Frame.via x1 (Frame.ofSnd e1 ?_) fun h1 => ?_
        · refine Frame.then ?_ runJob_frame rfl rfl
          exact Frame.refl
        refine Frame.then ?_ endJob_frame rfl rfl
        refine Frame.count ?_ (inRows_of (r := .DRF_LANE_BLOCKS) rfl (by exact ⟨_, rfl⟩))
        exact h1
    · exact Frame.refl
  · exact Frame.refl

theorem execDrfJobDone_frame {a0 : Fin 8} : ∃ t, execDrfJobDone a0 s = .next t ∧ Frame (some [.DRF_LANE_BLOCKS, .DRF_LANE_EVENT, .DRF_LANE_HEAD, .DRF_LANE_STATUS, .HIF_EVENT, .HIF_WR_REF, .HIF_WR_REF_ADDR_HI, .HIF_WR_REF_ADDR_LO, .MEM_DRAM_ERR, .MEM_DRAM_UE_ADDR_HI, .MEM_DRAM_UE_ADDR_LO, .MEM_EVENT, .SEC_EVENT, .SEC_STATUS]) [.dram, .events, .free, .jobs, .mem, .resp, .sram, .sup] s t := by
  refine ⟨_, rfl, ?_⟩
  refine Frame.then ?_ jobDone_frame rfl rfl
  exact Frame.refl

theorem stallLane_frame {a0 : Nat} : Frame (some [.DRF_LANE_STATUS]) [] s (stallLane a0 s) := by
  unfold stallLane
  refine Frame.ite (fun _ => ?_) (fun _ => ?_)
  · refine Frame.put ?_ (inRows_of (r := .DRF_LANE_STATUS) rfl (by exact ⟨_, rfl⟩))
    exact Frame.refl
  · exact Frame.refl

theorem execDrfStall_frame {a0 : Fin 8} : ∃ t, execDrfStall a0 s = .next t ∧ Frame (some [.DRF_LANE_STATUS]) [] s t := by
  refine ⟨_, rfl, ?_⟩
  refine Frame.then ?_ stallLane_frame rfl rfl
  exact Frame.refl

theorem resumeLane_frame {a0 : Nat} : Frame (some [.DRF_LANE_STATUS]) [] s (resumeLane a0 s) := by
  unfold resumeLane
  refine Frame.ite (fun _ => ?_) (fun _ => ?_)
  · refine Frame.put ?_ (inRows_of (r := .DRF_LANE_STATUS) rfl (by exact ⟨_, rfl⟩))
    exact Frame.refl
  · exact Frame.refl

theorem execDrfResume_frame {a0 : Fin 8} : ∃ t, execDrfResume a0 s = .next t ∧ Frame (some [.DRF_LANE_STATUS]) [] s t := by
  refine ⟨_, rfl, ?_⟩
  refine Frame.then ?_ resumeLane_frame rfl rfl
  exact Frame.refl

theorem stallJobs_frame  : Frame (some [.DRF_LANE_STATUS]) [] s (stallJobs s) := by
  unfold stallJobs
  refine Frame.forN _ ?_ fun i x hx => ?_
  · exact Frame.refl
  · refine Frame.then ?_ stallLane_frame rfl rfl
    exact hx

theorem resumeJobs_frame  : Frame (some [.DRF_LANE_STATUS]) [] s (resumeJobs s) := by
  unfold resumeJobs
  refine Frame.forN _ ?_ fun i x hx => ?_
  · exact Frame.refl
  · refine Frame.ite (fun _ => ?_) (fun _ => ?_)
    · refine Frame.then ?_ resumeLane_frame rfl rfl
      exact hx
    · exact hx

theorem abortJobs_frame  : Frame (some [.DRF_LANE_EVENT, .DRF_LANE_HEAD, .DRF_LANE_STATUS]) [.events, .jobs, .mem, .sram, .sup] s (abortJobs s) := by
  unfold abortJobs
  refine Frame.forN _ ?_ fun i x hx => ?_
  · exact Frame.refl
  · first | split | (clear_value *; split)
    · refine Frame.then ?_ dropDram_frame rfl rfl
      refine Frame.then ?_ endJob_frame rfl rfl
      exact hx
    · exact hx

theorem bindStream_frame {a0 : Nat} {a1 : Nat} : Frame (some [.DRF_LANE_STATUS, .DRF_RV_BIND, .DRF_STATUS]) [] s (bindStream a0 a1 s) := by
  unfold bindStream
  extract_lets -merge -useContext -underBinder +onlyGivenNames x1
  refine Frame.via x1 ?_ fun h1 => ?_
  · unfold x1
    refine Frame.ite (fun _ => ?_) (fun _ => ?_)
    · refine Frame.put ?_ (inRows_of (r := .DRF_STATUS) rfl (by exact rfl))
      exact Frame.refl
    · refine Frame.put ?_ (inRows_of (r := .DRF_STATUS) rfl (by exact rfl))
      exact Frame.refl
  try clear_value x1
  extract_lets -merge -useContext -underBinder +onlyGivenNames x2
  refine Frame.via x2 ?_ fun h2 => ?_
  · unfold x2
    refine Frame.put ?_ (inRows_of (r := .DRF_RV_BIND) rfl (by exact ⟨_, rfl⟩))
    refine Frame.put ?_ (inRows_of (r := .DRF_RV_BIND) rfl (by exact ⟨_, rfl⟩))
    exact h1
  try clear_value x2
  refine Frame.ite (fun _ => ?_) (fun _ => ?_)
  · refine Frame.then ?_ restLane_frame rfl rfl
    exact h2
  · exact h2

theorem bindLanes_frame  : Frame (some [.DRF_LANE_STATUS, .DRF_RV_BIND, .DRF_STATUS]) [] s (bindLanes s) := by
  unfold bindLanes
  extract_lets -merge -useContext -underBinder +onlyGivenNames v1 v2 x3
  refine Frame.via x3 ?_ fun h3 => ?_
  · unfold x3
    refine Frame.forAll _ ?_ fun i x hx => ?_
    · exact Frame.refl
    · refine Frame.then ?_ bindStream_frame rfl rfl
      exact hx
  try clear_value x3
  refine Frame.ite (fun _ => ?_) (fun _ => ?_)
  · exact h3
  · refine Frame.forAll _ ?_ fun i x hx => ?_
    · exact h3
    · refine Frame.then ?_ bindStream_frame rfl rfl
      exact hx

theorem unbindLanes_frame  : Frame (some [.DRF_LANE_STATUS, .DRF_RV_BIND, .DRF_STATUS]) [] s (unbindLanes s) := by
  unfold unbindLanes
  extract_lets -merge -useContext -underBinder +onlyGivenNames x1
  refine Frame.via x1 ?_ fun h1 => ?_
  · unfold x1
    refine Frame.forN _ ?_ fun i x hx => ?_
    · refine Frame.wr ?_ (inRows_of (r := .DRF_STATUS) rfl (by exact rfl))
      exact Frame.refl
    · refine Frame.wr ?_ (inRows_of (r := .DRF_RV_BIND) rfl (by exact ⟨_, rfl⟩))
      exact hx
  try clear_value x1
  refine Frame.forN _ ?_ fun i x hx => ?_
  · exact h1
  · extract_lets -merge -useContext -underBinder +onlyGivenNames x2
    refine Frame.via x2 ?_ fun h2 => ?_
    · unfold x2
      refine Frame.put ?_ (inRows_of (r := .DRF_LANE_STATUS) rfl (by exact ⟨_, rfl⟩))
      exact hx
    try clear_value x2
    refine Frame.ite (fun _ => ?_) (fun _ => ?_)
    · refine Frame.then ?_ restLane_frame rfl rfl
      exact h2
    · exact h2

end Sys2Proof.Machine
end

