-- ==== Sys2Proof/Laws/Frame/Spindle.lean ====
section
/-! SUPPORT. Laws/Frame/Spindle.lean: what each operation of Machine/Spindle.lean can change, and that it keeps a sound state sound. -/

set_option Elab.async false

namespace Sys2Proof.Machine

variable {R : Option (List RegRow)} {P : List Part} {s t : State}

theorem execOpNop_frame {a0 : Fin 64} : ∃ t, execOpNop a0 s = .next t ∧ Frame (some [.SPN_EVENT, .SPN_STATUS]) [.events, .spn, .sup] s t := by
  refine ⟨_, rfl, ?_⟩
  refine runWord_frame ?_ rfl rfl (fun m act hm x hx => ?_)
  · exact Frame.refl
  · split at hm
    · cases hm
      try dsimp -zeta only
      refine Frame.then ?_ oneTick_frame rfl rfl
      exact hx
    · cases hm

theorem aluWord_frame {a0 : Nat} {a1 : Nat} {a2 : Nat} {a3 : Nat} {a4 : Nat} {a5 : Nat} {a6 : Word} : Frame (some [.SPN_EVENT, .SPN_G, .SPN_STATUS]) [.events, .spn, .sup] s (aluWord a0 a1 a2 a3 a4 a5 a6 s) := by
  unfold aluWord
  extract_lets -merge -useContext -underBinder +onlyGivenNames v1 x2
  refine Frame.via x2 ?_ fun h2 => ?_
  · unfold x2
    refine Frame.then ?_ State.setG_frame rfl rfl
    exact Frame.refl
  try clear_value x2
  refine Frame.then ?_ oneTick_frame rfl rfl
  refine Frame.then ?_ State.setSpindle_frame rfl rfl
  exact h2

theorem execOpAlu_frame {a0 : Fin 64} : ∃ t, execOpAlu a0 s = .next t ∧ Frame (some [.SPN_EVENT, .SPN_G, .SPN_STATUS]) [.events, .spn, .sup] s t := by
  refine ⟨_, rfl, ?_⟩
  refine runWord_frame ?_ rfl rfl (fun m act hm x hx => ?_)
  · exact Frame.refl
  · split at hm
    · cases hm
      try dsimp -zeta only
      refine Frame.then ?_ aluWord_frame rfl rfl
      exact hx
    · cases hm

theorem ldlcWord_frame {a0 : Nat} {a1 : Nat} {a2 : Nat} {a3 : Nat} {a4 : Nat} : Frame (some [.SPN_EVENT, .SPN_LC, .SPN_STATUS]) [.events, .spn, .sup] s (ldlcWord a0 a1 a2 a3 a4 s) := by
  unfold ldlcWord
  extract_lets -merge -useContext -underBinder +onlyGivenNames v1
  refine Frame.then ?_ oneTick_frame rfl rfl
  refine Frame.wr ?_ (inRows_of (r := .SPN_LC) rfl (by exact ⟨_, _, rfl⟩))
  exact Frame.refl

theorem execOpLdlc_frame {a0 : Fin 64} : ∃ t, execOpLdlc a0 s = .next t ∧ Frame (some [.SPN_EVENT, .SPN_LC, .SPN_STATUS]) [.events, .spn, .sup] s t := by
  refine ⟨_, rfl, ?_⟩
  refine runWord_frame ?_ rfl rfl (fun m act hm x hx => ?_)
  · exact Frame.refl
  · split at hm
    · cases hm
      try dsimp -zeta only
      refine Frame.then ?_ ldlcWord_frame rfl rfl
      exact hx
    · cases hm

theorem rddecWord_frame {a0 : Nat} {a1 : Nat} {a2 : Nat} : Frame (some [.SPN_EVENT, .SPN_G, .SPN_STATUS]) [.events, .spn, .sup] s (rddecWord a0 a1 a2 s) := by
  unfold rddecWord
  extract_lets -merge -useContext -underBinder +onlyGivenNames v1 x2
  refine Frame.via x2 ?_ fun h2 => ?_
  · unfold x2
    refine Frame.then ?_ State.setG_frame rfl rfl
    exact Frame.refl
  try clear_value x2
  refine Frame.then ?_ oneTick_frame rfl rfl
  refine Frame.then ?_ State.setSpindle_frame rfl rfl
  exact h2

theorem execOpRddec_frame {a0 : Fin 64} : ∃ t, execOpRddec a0 s = .next t ∧ Frame (some [.SPN_EVENT, .SPN_G, .SPN_STATUS]) [.events, .spn, .sup] s t := by
  refine ⟨_, rfl, ?_⟩
  refine runWord_frame ?_ rfl rfl (fun m act hm x hx => ?_)
  · exact Frame.refl
  · split at hm
    · cases hm
      try dsimp -zeta only
      refine Frame.then ?_ rddecWord_frame rfl rfl
      exact hx
    · cases hm

theorem rdsinWord_frame {a0 : Nat} {a1 : Nat} : Frame (some [.SPN_EVENT, .SPN_G, .SPN_STATUS]) [.events, .spn, .sup] s (rdsinWord a0 a1 s) := by
  unfold rdsinWord
  refine Frame.then ?_ oneTick_frame rfl rfl
  refine Frame.then ?_ State.setG_frame rfl rfl
  exact Frame.refl

theorem execOpRdsin_frame {a0 : Fin 64} : ∃ t, execOpRdsin a0 s = .next t ∧ Frame (some [.SPN_EVENT, .SPN_G, .SPN_STATUS]) [.events, .spn, .sup] s t := by
  refine ⟨_, rfl, ?_⟩
  refine runWord_frame ?_ rfl rfl (fun m act hm x hx => ?_)
  · exact Frame.refl
  · split at hm
    · cases hm
      try dsimp -zeta only
      refine Frame.then ?_ rdsinWord_frame rfl rfl
      exact hx
    · cases hm

theorem ncopWord_frame {a0 : Nat} {a1 : Nat} {a2 : Nat} {a3 : Nat} {a4 : Nat} {a5 : Nat} {a6 : Nat} {a7 : Nat} {a8 : Nat} {a9 : Nat} {a10 : Nat} : Frame (some [.SPN_EVENT, .SPN_STATUS]) [.events, .spn, .sup] s (ncopWord a0 a1 a2 a3 a4 a5 a6 a7 a8 a9 a10 s) := by
  unfold ncopWord
  extract_lets -merge -useContext -underBinder +onlyGivenNames v1 v2 v3 v4 v5 v6 v7
  refine Frame.then ?_ oneTick_frame rfl rfl
  refine Frame.then ?_ State.setShadow_frame rfl rfl
  exact Frame.refl

theorem execOpNcop_frame {a0 : Fin 64} : ∃ t, execOpNcop a0 s = .next t ∧ Frame (some [.SPN_EVENT, .SPN_STATUS]) [.events, .spn, .sup] s t := by
  refine ⟨_, rfl, ?_⟩
  refine runWord_frame ?_ rfl rfl (fun m act hm x hx => ?_)
  · exact Frame.refl
  · split at hm
    · cases hm
      try dsimp -zeta only
      refine Frame.then ?_ ncopWord_frame rfl rfl
      exact hx
    · cases hm

theorem settbWord_frame {a0 : Nat} {a1 : Nat} {a2 : Nat} {a3 : Nat} : Frame (some [.SPN_EVENT, .SPN_STATUS, .SPN_TB_HI, .SPN_TB_LO]) [.events, .spn, .sup] s (settbWord a0 a1 a2 a3 s) := by
  unfold settbWord
  extract_lets -merge -useContext -underBinder +onlyGivenNames v1
  refine Frame.then ?_ oneTick_frame rfl rfl
  refine Frame.wr64 ?_ (inRows_of (r := .SPN_TB_LO) rfl (by exact ⟨_, rfl⟩)) (inRows_of (r := .SPN_TB_HI) rfl (by exact ⟨_, hiShift1 (by decide)⟩))
  exact Frame.refl

theorem execOpSettb_frame {a0 : Fin 64} : ∃ t, execOpSettb a0 s = .next t ∧ Frame (some [.SPN_EVENT, .SPN_STATUS, .SPN_TB_HI, .SPN_TB_LO]) [.events, .spn, .sup] s t := by
  refine ⟨_, rfl, ?_⟩
  refine runWord_frame ?_ rfl rfl (fun m act hm x hx => ?_)
  · exact Frame.refl
  · split at hm
    · cases hm
      try dsimp -zeta only
      refine Frame.then ?_ settbWord_frame rfl rfl
      exact hx
    · cases hm

theorem execOpJmp_frame {a0 : Fin 64} : ∃ t, execOpJmp a0 s = .next t ∧ Frame (some [.SPN_EVENT, .SPN_STATUS]) [.events, .spn, .sup] s t := by
  refine ⟨_, rfl, ?_⟩
  refine runWord_frame ?_ rfl rfl (fun m act hm x hx => ?_)
  · exact Frame.refl
  · split at hm
    · cases hm
      try dsimp -zeta only
      refine Frame.then ?_ advanceTo_frame rfl rfl
      exact hx
    · cases hm

theorem execOpBrs_frame {a0 : Fin 64} : ∃ t, execOpBrs a0 s = .next t ∧ Frame (some [.SPN_EVENT, .SPN_STATUS]) [.events, .spn, .sup] s t := by
  refine ⟨_, rfl, ?_⟩
  refine runWord_frame ?_ rfl rfl (fun m act hm x hx => ?_)
  · exact Frame.refl
  · split at hm
    · cases hm
      try dsimp -zeta only
      refine Frame.ite (fun _ => ?_) (fun _ => ?_)
      · refine Frame.then ?_ advanceTo_frame rfl rfl
        exact hx
      · refine Frame.then ?_ oneTick_frame rfl rfl
        exact hx
    · cases hm

theorem loopWord_frame {a0 : Nat} {a1 : Nat} {a2 : Nat} : Frame (some [.SPN_EVENT, .SPN_LC, .SPN_STATUS]) [.events, .spn, .sup] s (loopWord a0 a1 a2 s) := by
  unfold loopWord
  extract_lets -merge -useContext -underBinder +onlyGivenNames v1
  refine Frame.ite (fun _ => ?_) (fun _ => ?_)
  · refine Frame.then ?_ oneTick_frame rfl rfl
    exact Frame.refl
  · extract_lets -merge -useContext -underBinder +onlyGivenNames x2
    refine Frame.via x2 ?_ fun h2 => ?_
    · unfold x2
      refine Frame.wr ?_ (inRows_of (r := .SPN_LC) rfl (by exact ⟨_, _, rfl⟩))
      exact Frame.refl
    try clear_value x2
    refine Frame.ite (fun _ => ?_) (fun _ => ?_)
    · refine Frame.then ?_ oneTick_frame rfl rfl
      exact h2
    · refine Frame.then ?_ advanceTo_frame rfl rfl
      exact h2

theorem execOpLoop_frame {a0 : Fin 64} : ∃ t, execOpLoop a0 s = .next t ∧ Frame (some [.SPN_EVENT, .SPN_LC, .SPN_STATUS]) [.events, .spn, .sup] s t := by
  refine ⟨_, rfl, ?_⟩
  refine runWord_frame ?_ rfl rfl (fun m act hm x hx => ?_)
  · exact Frame.refl
  · split at hm
    · cases hm
      try dsimp -zeta only
      refine Frame.then ?_ loopWord_frame rfl rfl
      exact hx
    · cases hm

theorem waittWord_frame {a0 : Nat} {a1 : Nat} {a2 : Nat} {a3 : Nat} : Frame (some [.SPN_EVENT, .SPN_STATUS]) [.events, .spn, .sup] s (waittWord a0 a1 a2 a3 s) := by
  unfold waittWord
  extract_lets -merge -useContext -underBinder +onlyGivenNames v1
  refine Frame.ite (fun _ => ?_) (fun _ => ?_)
  · refine Frame.then ?_ oneTick_frame rfl rfl
    exact Frame.refl
  · refine Frame.then ?_ startWait_frame rfl rfl
    exact Frame.refl

theorem execOpWaitt_frame {a0 : Fin 64} : ∃ t, execOpWaitt a0 s = .next t ∧ Frame (some [.SPN_EVENT, .SPN_STATUS]) [.events, .spn, .sup] s t := by
  refine ⟨_, rfl, ?_⟩
  refine runWord_frame ?_ rfl rfl (fun m act hm x hx => ?_)
  · exact Frame.refl
  · split at hm
    · cases hm
      try dsimp -zeta only
      refine Frame.then ?_ waittWord_frame rfl rfl
      exact hx
    · cases hm

theorem execWaittDone_frame {a0 : Fin 64} : ∃ t, execWaittDone a0 s = .next t ∧ Frame (some [.SPN_EVENT, .SPN_STATUS]) [.events, .spn, .sup] s t := by
  refine ⟨_, rfl, ?_⟩
  first | split | (clear_value *; split)
  · refine Frame.ite (fun _ => ?_) (fun _ => ?_)
    · refine Frame.then ?_ advanceTo_frame rfl rfl
      exact Frame.refl
    · exact Frame.refl
  · exact Frame.refl

theorem waitrWord_frame {a0 : Nat} {a1 : Nat} {a2 : Nat} {a3 : Nat} : Frame (some [.SPN_COUNT, .SPN_EVENT, .SPN_STATUS]) [.events, .spn, .sup] s (waitrWord a0 a1 a2 a3 s) := by
  unfold waitrWord
  extract_lets -merge -useContext -underBinder +onlyGivenNames v1 w2 x3
  refine Frame.via x3 ?_ fun h3 => ?_
  · unfold x3
    refine Frame.then ?_ State.setSpindle_frame rfl rfl
    exact Frame.refl
  try clear_value x3
  refine Frame.ite (fun _ => ?_) (fun _ => ?_)
  · refine Frame.then ?_ oneTick_frame rfl rfl
    refine Frame.count ?_ (inRows_of (r := .SPN_COUNT) rfl (by exact ⟨_, rfl⟩))
    refine Frame.raise ?_ (inRows_of (r := .SPN_EVENT) rfl (by exact ⟨_, rfl⟩)) rfl
    exact h3
  · refine Frame.then ?_ startWait_frame rfl rfl
    exact h3

theorem execOpWaitr_frame {a0 : Fin 64} : ∃ t, execOpWaitr a0 s = .next t ∧ Frame (some [.SPN_COUNT, .SPN_EVENT, .SPN_STATUS]) [.events, .spn, .sup] s t := by
  refine ⟨_, rfl, ?_⟩
  refine runWord_frame ?_ rfl rfl (fun m act hm x hx => ?_)
  · exact Frame.refl
  · split at hm
    · cases hm
      try dsimp -zeta only
      refine Frame.then ?_ waitrWord_frame rfl rfl
      exact hx
    · cases hm

theorem execWaitrReached_frame {a0 : Fin 64} : ∃ t, execWaitrReached a0 s = .next t ∧ Frame (some [.SPN_EVENT, .SPN_STATUS]) [.events, .spn, .sup] s t := by
  refine ⟨_, rfl, ?_⟩
  first | split | (clear_value *; split)
  · refine Frame.ite (fun _ => ?_) (fun _ => ?_)
    · refine Frame.then ?_ advanceTo_frame rfl rfl
      exact Frame.refl
    · exact Frame.refl
  · exact Frame.refl

theorem execOpWts_frame {a0 : Fin 64} : ∃ t, execOpWts a0 s = .next t ∧ Frame (some [.SPN_EVENT, .SPN_STATUS]) [.events, .spn, .sup] s t := by
  refine ⟨_, rfl, ?_⟩
  refine runWord_frame ?_ rfl rfl (fun m act hm x hx => ?_)
  · exact Frame.refl
  · split at hm
    · cases hm
      try dsimp -zeta only
      refine Frame.then ?_ startWait_frame rfl rfl
      exact hx
    · cases hm

theorem endWts_frame {a0 : Nat} {a1 : Nat} : Frame (some [.SPN_EVENT, .SPN_STATUS]) [.events, .spn, .sup] s (endWts a0 a1 s) := by
  unfold endWts
  refine Frame.then ?_ advanceTo_frame rfl rfl
  refine Frame.then ?_ restartScout_frame rfl rfl
  exact Frame.refl

theorem execWtsLatch_frame {a0 : Fin 64} : ∃ t, execWtsLatch a0 s = .next t ∧ Frame (some [.SPN_EVENT, .SPN_SIN, .SPN_STATUS]) [.events, .spn, .sup] s t := by
  refine ⟨_, rfl, ?_⟩
  first | split | (clear_value *; split)
  · extract_lets -merge -useContext -underBinder +onlyGivenNames v1
    refine Frame.ite (fun _ => ?_) (fun _ => ?_)
    · exact Frame.refl
    · extract_lets -merge -useContext -underBinder +onlyGivenNames v2 x3
      refine Frame.via x3 ?_ fun h3 => ?_
      · unfold x3
        refine Frame.raiseIf ?_ (inRows_of (r := .SPN_EVENT) rfl (by exact ⟨_, rfl⟩)) rfl
        exact Frame.refl
      try clear_value x3
      extract_lets -merge -useContext -underBinder +onlyGivenNames x4
      refine Frame.via x4 ?_ fun h4 => ?_
      · unfold x4
        refine Frame.ite (fun _ => ?_) (fun _ => ?_)
        · refine Frame.then ?_ clearLatches_frame rfl rfl
          exact h3
        · exact h3
      try clear_value x4
      refine Frame.then ?_ endWts_frame rfl rfl
      exact h4
  · exact Frame.refl

theorem execWtsTimeout_frame {a0 : Fin 64} : ∃ t, execWtsTimeout a0 s = .next t ∧ Frame (some [.SPN_EVENT, .SPN_STATUS]) [.events, .spn, .sup] s t := by
  refine ⟨_, rfl, ?_⟩
  first | split | (clear_value *; split)
  · refine Frame.ite (fun _ => ?_) (fun _ => ?_)
    · refine Frame.then ?_ endWts_frame rfl rfl
      refine Frame.raise ?_ (inRows_of (r := .SPN_EVENT) rfl (by exact ⟨_, rfl⟩)) rfl
      exact Frame.refl
    · exact Frame.refl
  · exact Frame.refl

theorem commitWord_frame {a0 : Nat} : Frame (some [.SPN_CA_HI, .SPN_CA_LO, .SPN_EVENT, .SPN_PEND, .SPN_STATUS]) [.events, .spn, .sup] s (commitWord a0 s) := by
  unfold commitWord
  extract_lets -merge -useContext -underBinder +onlyGivenNames x1
  refine Frame.via x1 ?_ fun h1 => ?_
  · unfold x1
    refine Frame.wr64 ?_ (inRows_of (r := .SPN_CA_LO) rfl (by exact ⟨_, rfl⟩)) (inRows_of (r := .SPN_CA_HI) rfl (by exact ⟨_, hiShift1 (by decide)⟩))
    refine Frame.put ?_ (inRows_of (r := .SPN_STATUS) rfl (by exact ⟨_, rfl⟩))
    exact Frame.refl
  try clear_value x1
  extract_lets -merge -useContext -underBinder +onlyGivenNames w2 x3
  refine Frame.via x3 ?_ fun h3 => ?_
  · unfold x3
    refine Frame.then ?_ State.setSpindle_frame rfl rfl
    exact h1
  try clear_value x3
  extract_lets -merge -useContext -underBinder +onlyGivenNames x4
  refine Frame.via x4 ?_ fun h4 => ?_
  · unfold x4
    refine Frame.ite (fun _ => ?_) (fun _ => ?_)
    · refine Frame.put ?_ (inRows_of (r := .SPN_PEND) rfl (by exact ⟨_, rfl⟩))
      exact h3
    · exact h3
  try clear_value x4
  refine Frame.then ?_ oneTick_frame rfl rfl
  exact h4

theorem execOpCommit_frame {a0 : Fin 64} : ∃ t, execOpCommit a0 s = .next t ∧ Frame (some [.SPN_CA_HI, .SPN_CA_LO, .SPN_EVENT, .SPN_PEND, .SPN_STATUS]) [.events, .spn, .sup] s t := by
  refine ⟨_, rfl, ?_⟩
  refine runWord_frame ?_ rfl rfl (fun m act hm x hx => ?_)
  · exact Frame.refl
  · split at hm
    · cases hm
      try dsimp -zeta only
      refine Frame.then ?_ commitWord_frame rfl rfl
      exact hx
    · cases hm

theorem haltAfter_frame {a0 : Nat} : Frame (some []) [.later] s (haltAfter a0 s) := by
  unfold haltAfter
  refine Frame.ite (fun _ => ?_) (fun _ => ?_)
  · refine Frame.later ?_ rfl (fun _ => trivial)
    exact Frame.refl
  · exact Frame.refl

theorem endTo_frame {a0 : Nat} {a1 : Nat} : Frame (some [.SPN_STATUS]) [.later, .spn] s (endTo a0 a1 s) := by
  unfold endTo
  extract_lets -merge -useContext -underBinder +onlyGivenNames x1
  refine Frame.via x1 ?_ fun h1 => ?_
  · unfold x1
    refine Frame.put ?_ (inRows_of (r := .SPN_STATUS) rfl (by exact ⟨_, rfl⟩))
    refine Frame.put ?_ (inRows_of (r := .SPN_STATUS) rfl (by exact ⟨_, rfl⟩))
    exact Frame.refl
  try clear_value x1
  refine Frame.then ?_ haltAfter_frame rfl rfl
  refine Frame.then ?_ State.setSpindle_frame rfl rfl
  exact h1

theorem endIdle_frame {a0 : Nat} : Frame (some [.SPN_STATUS]) [.later, .spn] s (endIdle a0 s) := by
  unfold endIdle
  extract_lets -merge -useContext -underBinder +onlyGivenNames x1
  refine Frame.via x1 ?_ fun h1 => ?_
  · unfold x1
    refine Frame.then ?_ toIdle_frame rfl rfl
    refine Frame.put ?_ (inRows_of (r := .SPN_STATUS) rfl (by exact ⟨_, rfl⟩))
    exact Frame.refl
  try clear_value x1
  refine Frame.then ?_ haltAfter_frame rfl rfl
  refine Frame.then ?_ State.setSpindle_frame rfl rfl
  exact h1

theorem endWord_frame {a0 : Nat} {a1 : Nat} {a2 : Nat} : Frame (some [.SPN_ERR, .SPN_EVENT, .SPN_PEND, .SPN_RESUME, .SPN_STATUS]) [.events, .later, .spn, .sup] s (endWord a0 a1 a2 s) := by
  unfold endWord
  extract_lets -merge -useContext -underBinder +onlyGivenNames v1 v2 w3 x4
  refine Frame.via x4 ?_ fun h4 => ?_
  · unfold x4
    refine Frame.then ?_ State.setSpindle_frame rfl rfl
    exact Frame.refl
  try clear_value x4
  refine Frame.ite (fun _ => ?_) (fun _ => ?_)
  · refine Frame.then ?_ endIdle_frame rfl rfl
    exact h4
  · first | split | (clear_value *; split)
    · extract_lets -merge -useContext -underBinder +onlyGivenNames x5
      refine Frame.via x5 ?_ fun h5 => ?_
      · unfold x5
        first | split | (clear_value *; split)
        · refine Frame.then ?_ setResume_frame rfl rfl
          exact h4
        · refine Frame.then ?_ setResume_frame rfl rfl
          exact h4
        · exact h4
      try clear_value x5
      refine Frame.then ?_ endTo_frame rfl rfl
      refine Frame.then ?_ enterHandler_frame rfl rfl
      exact h5
    · first | split | (clear_value *; split)
      · refine Frame.then ?_ endTo_frame rfl rfl
        refine Frame.put ?_ (inRows_of (r := .SPN_STATUS) rfl (by exact ⟨_, rfl⟩))
        exact h4
      · refine Frame.then ?_ endTo_frame rfl rfl
        refine Frame.then ?_ enterHandler_frame rfl rfl
        exact h4
      · extract_lets -merge -useContext -underBinder +onlyGivenNames x6
        refine Frame.via x6 ?_ fun h6 => ?_
        · unfold x6
          refine Frame.then ?_ setResume_frame rfl rfl
          exact h4
        try clear_value x6
        refine Frame.then ?_ endIdle_frame rfl rfl
        refine Frame.put ?_ (inRows_of (r := .SPN_STATUS) rfl (by exact ⟨_, rfl⟩))
        exact h6
      · refine toError_frame ?_ rfl rfl (inRows_of (r := .SPN_EVENT) rfl (by exact ⟨_, rfl⟩))
        exact h4

theorem execOpEnd_frame {a0 : Fin 64} : ∃ t, execOpEnd a0 s = .next t ∧ Frame (some [.SPN_ERR, .SPN_EVENT, .SPN_PEND, .SPN_RESUME, .SPN_STATUS]) [.events, .later, .spn, .sup] s t := by
  refine ⟨_, rfl, ?_⟩
  refine runWord_frame ?_ rfl rfl (fun m act hm x hx => ?_)
  · exact Frame.refl
  · split at hm
    · cases hm
      try dsimp -zeta only
      refine Frame.then ?_ endWord_frame rfl rfl
      exact hx
    · cases hm

theorem execIllegal_frame {a0 : Fin 64} : ∃ t, execIllegal a0 s = .next t ∧ Frame (some [.SPN_ERR, .SPN_EVENT, .SPN_STATUS]) [.events, .spn, .sup] s t := by
  refine ⟨_, rfl, ?_⟩
  refine Frame.ite (fun _ => ?_) (fun _ => ?_)
  · first | split | (clear_value *; split)
    · first | (rename_i x1 e1; refine Frame.via x1 (Frame.ofSnd e1 ?_) fun h1 => ?_) | (rename_i x1 n1 e1; refine Frame.via x1 (Frame.ofSnd e1 ?_) fun h1 => ?_)
      · refine Frame.then ?_ issue_frame rfl rfl
        exact Frame.refl
      refine toError_frame ?_ rfl rfl (inRows_of (r := .SPN_EVENT) rfl (by exact ⟨_, rfl⟩))
      exact h1
    · first | (rename_i x2 e2; refine Frame.via x2 (Frame.ofSnd e2 ?_) fun h2 => ?_) | (rename_i x2 n2 e2; refine Frame.via x2 (Frame.ofSnd e2 ?_) fun h2 => ?_)
      · refine Frame.then ?_ issue_frame rfl rfl
        exact Frame.refl
      refine Frame.ite (fun _ => ?_) (fun _ => ?_)
      · refine toError_frame ?_ rfl rfl (inRows_of (r := .SPN_EVENT) rfl (by exact ⟨_, rfl⟩))
        exact h2
      · exact Frame.refl
  · exact Frame.refl

theorem execPostOvf_frame {a0 : Fin 64} : ∃ t, execPostOvf a0 s = .next t ∧ Frame (some [.SPN_ERR, .SPN_EVENT, .SPN_STATUS]) [.events, .spn, .sup] s t := by
  refine ⟨_, rfl, ?_⟩
  refine Frame.ite (fun _ => ?_) (fun _ => ?_)
  · refine toError_frame ?_ rfl rfl (inRows_of (r := .SPN_EVENT) rfl (by exact ⟨_, rfl⟩))
    exact Frame.refl
  · exact Frame.refl

theorem recognise_frame {a0 : Nat} {a1 : Nat} : Frame (some [.SPN_COUNT, .SPN_EVENT, .SPN_PEND, .SPN_RESUME, .SPN_STATUS]) [.events, .later, .spn, .sup] s (recognise a0 a1 s) := by
  unfold recognise
  extract_lets -merge -useContext -underBinder +onlyGivenNames v1 v2
  refine Frame.ite (fun _ => ?_) (fun _ => ?_)
  · exact Frame.refl
  · refine Frame.ite (fun _ => ?_) (fun _ => ?_)
    · refine Frame.then ?_ State.setSpindle_frame rfl rfl
      exact Frame.refl
    · refine Frame.ite (fun _ => ?_) (fun _ => ?_)
      · refine Frame.put ?_ (inRows_of (r := .SPN_STATUS) rfl (by exact ⟨_, rfl⟩))
        exact Frame.refl
      · refine Frame.ite (fun _ => ?_) (fun _ => ?_)
        · exact Frame.refl
        · refine Frame.then ?_ abandon_frame rfl rfl
          exact Frame.refl

theorem execVectorRecognised_frame {a0 : Fin 64} {a1 : Fin 8} : ∃ t, execVectorRecognised a0 a1 s = .next t ∧ Frame (some [.SPN_COUNT, .SPN_EVENT, .SPN_PEND, .SPN_RESUME, .SPN_STATUS]) [.events, .later, .spn, .sup] s t := by
  refine ⟨_, rfl, ?_⟩
  refine Frame.then ?_ recognise_frame rfl rfl
  exact Frame.refl

theorem hostPreempt_frame {a0 : Nat} {a1 : Word} : Frame (some []) [.later] s (hostPreempt a0 a1 s) := by
  unfold hostPreempt
  refine Frame.ite (fun _ => ?_) (fun _ => ?_)
  · extract_lets -merge -useContext -underBinder +onlyGivenNames v1
    refine Frame.later ?_ rfl (fun _ => trivial)
    exact Frame.refl
  · exact Frame.refl

theorem execHostPreempt_frame {a0 : Path} {a1 : Fin 64} {a2 : Word} : ∃ t, execHostPreempt a0 a1 a2 s = .next t ∧ Frame (some [.HIF_EVENT, .HIF_WR_REF, .HIF_WR_REF_ADDR_HI, .HIF_WR_REF_ADDR_LO]) [.events, .later, .resp, .sup] s t := by
  refine ⟨_, rfl, ?_⟩
  refine gated_frame ?_ rfl rfl (fun x hx => ?_)
  · exact Frame.refl
  · refine Frame.then ?_ hostPreempt_frame rfl rfl
    exact hx

theorem execCstoreEccCorr_frame {a0 : Fin 64} : ∃ t, execCstoreEccCorr a0 s = .next t ∧ Frame (some [.SPN_COUNT, .SPN_ERR, .SPN_EVENT, .SPN_PEND, .SPN_RESUME, .SPN_STATUS, .SUP_TOL]) [.events, .later, .spn, .sup] s t := by
  refine ⟨_, rfl, ?_⟩
  refine Frame.ite (fun _ => ?_) (fun _ => ?_)
  · extract_lets -merge -useContext -underBinder +onlyGivenNames v1 x2
    refine Frame.via x2 ?_ fun h2 => ?_
    · unfold x2
      refine Frame.count ?_ (inRows_of (r := .SPN_COUNT) rfl (by exact ⟨_, rfl⟩))
      refine Frame.raise ?_ (inRows_of (r := .SPN_EVENT) rfl (by exact ⟨_, rfl⟩)) rfl
      exact Frame.refl
    try clear_value x2
    refine Frame.ite (fun _ => ?_) (fun _ => ?_)
    · refine toError_frame ?_ rfl rfl (inRows_of (r := .SPN_EVENT) rfl (by exact ⟨_, rfl⟩))
      exact h2
    · refine Frame.ite (fun _ => ?_) (fun _ => ?_)
      · exact h2
      · extract_lets -merge -useContext -underBinder +onlyGivenNames x3
        refine Frame.via x3 ?_ fun h3 => ?_
        · unfold x3
          refine Frame.then ?_ resolveGap_frame rfl rfl
          exact h2
        try clear_value x3
        extract_lets -merge -useContext -underBinder +onlyGivenNames x4
        refine Frame.via x4 ?_ fun h4 => ?_
        · unfold x4
          refine Frame.count ?_ (inRows_of (r := .SUP_TOL) rfl (by exact rfl))
          exact h3
        try clear_value x4
        extract_lets -merge -useContext -underBinder +onlyGivenNames w5 x6
        refine Frame.via x6 ?_ fun h6 => ?_
        · unfold x6
          refine Frame.then ?_ State.setSpindle_frame rfl rfl
          exact h4
        try clear_value x6
        refine Frame.then ?_ abandon_frame rfl rfl
        exact h6
  · exact Frame.refl

theorem uncorrFetch_frame {a0 : Nat} : Frame (some [.SPN_ERR, .SPN_EVENT, .SPN_STATUS]) [.events, .spn, .sup] s (uncorrFetch a0 s) := by
  unfold uncorrFetch
  refine Frame.ite (fun _ => ?_) (fun _ => ?_)
  · refine toError_frame ?_ rfl rfl (inRows_of (r := .SPN_EVENT) rfl (by exact ⟨_, rfl⟩))
    exact Frame.refl
  · exact Frame.refl

theorem execCstoreEccUncorr_frame {a0 : Fin 64} : ∃ t, execCstoreEccUncorr a0 s = .next t ∧ Frame (some [.SPN_ERR, .SPN_EVENT, .SPN_STATUS]) [.events, .spn, .sup] s t := by
  refine ⟨_, rfl, ?_⟩
  refine Frame.then ?_ uncorrFetch_frame rfl rfl
  exact Frame.refl

theorem execHeartbeatToken_frame {a0 : Fin 64} : ∃ t, execHeartbeatToken a0 s = .next t ∧ Frame (some []) [.spn] s t := by
  refine ⟨_, rfl, ?_⟩
  extract_lets -merge -useContext -underBinder +onlyGivenNames v1 v2
  refine Frame.ite (fun _ => ?_) (fun _ => ?_)
  · refine Frame.then ?_ State.setSpindle_frame rfl rfl
    exact Frame.refl
  · refine Frame.then ?_ noteMissed_frame rfl rfl
    exact Frame.refl

theorem dbgHalt_frame {a0 : Nat} : Frame (some [.SPN_EVENT, .SPN_STATUS]) [.events, .spn, .sup] s (dbgHalt a0 s) := by
  unfold dbgHalt
  extract_lets -merge -useContext -underBinder +onlyGivenNames v1 v2
  refine Frame.ite (fun _ => ?_) (fun _ => ?_)
  · extract_lets -merge -useContext -underBinder +onlyGivenNames x3
    refine Frame.via x3 ?_ fun h3 => ?_
    · unfold x3
      refine Frame.then ?_ State.setSpindle_frame rfl rfl
      exact Frame.refl
    try clear_value x3
    refine Frame.ite (fun _ => ?_) (fun _ => ?_)
    · exact h3
    · refine Frame.then ?_ haltNow_frame rfl rfl
      exact h3
  · exact Frame.refl

theorem execDbgHalt_frame {a0 : Path} {a1 : Fin 64} : ∃ t, execDbgHalt a0 a1 s = .next t ∧ Frame (some [.HIF_EVENT, .HIF_WR_REF, .HIF_WR_REF_ADDR_HI, .HIF_WR_REF_ADDR_LO, .SPN_EVENT, .SPN_STATUS]) [.events, .resp, .spn, .sup] s t := by
  refine ⟨_, rfl, ?_⟩
  refine gated_frame ?_ rfl rfl (fun x hx => ?_)
  · exact Frame.refl
  · refine Frame.then ?_ dbgHalt_frame rfl rfl
    exact hx

theorem unhalt_frame {a0 : Nat} {a1 : Bool} : Frame (some [.SPN_STATUS]) [.spn] s (unhalt a0 a1 s) := by
  unfold unhalt
  extract_lets -merge -useContext -underBinder +onlyGivenNames v1 x2
  refine Frame.via x2 ?_ fun h2 => ?_
  · unfold x2
    refine Frame.then ?_ State.setSpindle_frame rfl rfl
    exact Frame.refl
  try clear_value x2
  extract_lets -merge -useContext -underBinder +onlyGivenNames x3
  refine Frame.via x3 ?_ fun h3 => ?_
  · unfold x3
    refine Frame.ite (fun _ => ?_) (fun _ => ?_)
    · refine Frame.then ?_ restartScout_frame rfl rfl
      exact h2
    · exact h2
  try clear_value x3
  refine Frame.put ?_ (inRows_of (r := .SPN_STATUS) rfl (by exact ⟨_, rfl⟩))
  exact h3

theorem dbgStep_frame {a0 : Nat} : Frame (some [.SPN_STATUS]) [.spn] s (dbgStep a0 s) := by
  unfold dbgStep
  refine Frame.ite (fun _ => ?_) (fun _ => ?_)
  · refine Frame.then ?_ unhalt_frame rfl rfl
    exact Frame.refl
  · exact Frame.refl

theorem execDbgStep_frame {a0 : Path} {a1 : Fin 64} : ∃ t, execDbgStep a0 a1 s = .next t ∧ Frame (some [.HIF_EVENT, .HIF_WR_REF, .HIF_WR_REF_ADDR_HI, .HIF_WR_REF_ADDR_LO, .SPN_STATUS]) [.events, .resp, .spn, .sup] s t := by
  refine ⟨_, rfl, ?_⟩
  refine gated_frame ?_ rfl rfl (fun x hx => ?_)
  · exact Frame.refl
  · refine Frame.then ?_ dbgStep_frame rfl rfl
    exact hx

theorem resumeSpindle_frame {a0 : Nat} : Frame (some [.SPN_STATUS]) [.spn] s (resumeSpindle a0 s) := by
  unfold resumeSpindle
  refine Frame.ite (fun _ => ?_) (fun _ => ?_)
  · refine Frame.then ?_ unhalt_frame rfl rfl
    exact Frame.refl
  · refine Frame.then ?_ State.setSpindle_frame rfl rfl
    exact Frame.refl

theorem execDbgResume_frame {a0 : Path} {a1 : Fin 64} : ∃ t, execDbgResume a0 a1 s = .next t ∧ Frame (some [.HIF_EVENT, .HIF_WR_REF, .HIF_WR_REF_ADDR_HI, .HIF_WR_REF_ADDR_LO, .SPN_STATUS]) [.events, .resp, .spn, .sup] s t := by
  refine ⟨_, rfl, ?_⟩
  refine gated_frame ?_ rfl rfl (fun x hx => ?_)
  · exact Frame.refl
  · refine Frame.ite (fun _ => ?_) (fun _ => ?_)
    · refine Frame.then ?_ resumeSpindle_frame rfl rfl
      exact hx
    · exact hx

end Sys2Proof.Machine
end

