-- ==== Sys2Proof/Laws/Frame/ModeOps.lean ====
section
/-! SUPPORT. Laws/Frame/ModeOps.lean: what each operation of Machine/ModeOps.lean can change, and that it keeps a sound state sound. -/

set_option Elab.async false

namespace Sys2Proof.Machine

variable {R : Option (List RegRow)} {P : List Part} {s t : State}

theorem showLcs_frame  : Frame (some [.SEC_STATUS]) [] s (showLcs s) := by
  unfold showLcs
  refine Frame.put ?_ (inRows_of (r := .SEC_STATUS) rfl (by exact rfl))
  exact Frame.refl

theorem setLevel_frame {a0 : Nat} : Frame (some [.SEC_EVENT, .SEC_STATUS, .SPN_STATUS, .SYN_MRK_LEVEL, .SYN_TRG_LEVEL]) [.events, .spn, .sup, .syn] s (setLevel a0 s) := by
  unfold setLevel
  refine Frame.ite (fun _ => ?_) (fun _ => ?_)
  · exact Frame.refl
  · extract_lets -merge -useContext -underBinder +onlyGivenNames v1 x2
    refine Frame.via x2 ?_ fun h2 => ?_
    · unfold x2
      refine Frame.then ?_ showLcs_frame rfl rfl
      refine Frame.raise ?_ (inRows_of (r := .SEC_EVENT) rfl (by exact rfl)) rfl
      refine Frame.put ?_ (inRows_of (r := .SEC_STATUS) rfl (by exact rfl))
      exact Frame.refl
    try clear_value x2
    extract_lets -merge -useContext -underBinder +onlyGivenNames x3
    refine Frame.via x3 ?_ fun h3 => ?_
    · unfold x3
      refine Frame.ite (fun _ => ?_) (fun _ => ?_)
      · refine permitting_frame ?_ rfl rfl (fun x hx => ?_)
        · exact h2
        · refine Frame.put ?_ (inRows_of (r := .SEC_STATUS) rfl (by exact rfl))
          exact hx
      · exact h2
    try clear_value x3
    refine Frame.ite (fun _ => ?_) (fun _ => ?_)
    · refine Frame.forN _ ?_ fun i x hx => ?_
      · exact h3
      · refine Frame.then ?_ resumeSpindle_frame rfl rfl
        exact hx
    · exact h3

theorem settleSup_frame  : Frame (some [.SUP_EVENT, .SUP_MON_STATUS, .SUP_STATUS, .SUP_TS_STATUS, .SYN_MRK_LEVEL, .SYN_TRG_LEVEL]) [.events, .sup, .syn] s (settleSup s) := by
  unfold settleSup
  extract_lets -merge -useContext -underBinder +onlyGivenNames x1
  refine Frame.via x1 ?_ fun h1 => ?_
  · unfold x1
    refine Frame.forN _ ?_ fun i x hx => ?_
    · exact Frame.refl
    · refine Frame.ite (fun _ => ?_) (fun _ => ?_)
      · exact hx
      · extract_lets -merge -useContext -underBinder +onlyGivenNames x2
        refine Frame.via x2 ?_ fun h2 => ?_
        · unfold x2
          refine Frame.then ?_ State.setMon_frame rfl rfl
          exact hx
        try clear_value x2
        refine Frame.wr ?_ (inRows_of (r := .SUP_MON_STATUS) rfl (by exact ⟨_, rfl⟩))
        exact h2
  try clear_value x1
  extract_lets -merge -useContext -underBinder +onlyGivenNames w3 x4
  refine Frame.via x4 ?_ fun h4 => ?_
  · unfold x4
    refine Frame.sup ?_ rfl (fun h => ⟨(by first | exact h.1 | exact sparseWf_sset h.1 | exact sparseWf_nil | exact sparseWf_filter h.1 | exact sparseWf_smap h.1 | exact sparseWf_sdrop h.1 | exact sparseWf_sset (sparseWf_sset h.1) | exact sparseWf_fold sparseWf_nil | (dsimp only; exact sparseWf_smap h.1)), (by first | exact h.2.1 | exact sparseWf_sset h.2.1 | exact sparseWf_nil | exact sparseWf_filter h.2.1 | exact sparseWf_smap h.2.1 | exact sparseWf_sdrop h.2.1 | exact sparseWf_sset (sparseWf_sset h.2.1) | exact sparseWf_fold sparseWf_nil | (dsimp only; exact sparseWf_smap h.2.1)), (by first | exact h.2.2.1 | exact sparseWf_sset h.2.2.1 | exact sparseWf_nil | exact sparseWf_filter h.2.2.1 | exact sparseWf_smap h.2.2.1 | exact sparseWf_sdrop h.2.2.1 | exact sparseWf_sset (sparseWf_sset h.2.2.1) | exact sparseWf_fold sparseWf_nil | (dsimp only; exact sparseWf_smap h.2.2.1)), (by first | exact h.2.2.2.1 | exact sparseWf_sset h.2.2.2.1 | exact sparseWf_nil | exact sparseWf_filter h.2.2.2.1 | exact sparseWf_smap h.2.2.2.1 | exact sparseWf_sdrop h.2.2.2.1 | exact sparseWf_sset (sparseWf_sset h.2.2.2.1) | exact sparseWf_fold sparseWf_nil | (dsimp only; exact sparseWf_smap h.2.2.2.1)), (by first | exact h.2.2.2.2.1 | exact sparseWf_sset h.2.2.2.2.1 | exact sparseWf_nil | exact sparseWf_filter h.2.2.2.2.1 | exact sparseWf_smap h.2.2.2.2.1 | exact sparseWf_sdrop h.2.2.2.2.1 | exact sparseWf_sset (sparseWf_sset h.2.2.2.2.1) | exact sparseWf_fold sparseWf_nil | (dsimp only; exact sparseWf_smap h.2.2.2.2.1)), (by first | exact h.2.2.2.2.2 | exact sparseWf_sset h.2.2.2.2.2 | exact sparseWf_nil | exact sparseWf_filter h.2.2.2.2.2 | exact sparseWf_smap h.2.2.2.2.2 | exact sparseWf_sdrop h.2.2.2.2.2 | exact sparseWf_sset (sparseWf_sset h.2.2.2.2.2) | exact sparseWf_fold sparseWf_nil | (dsimp only; exact sparseWf_smap h.2.2.2.2.2))⟩)
    exact h1
  try clear_value x4
  extract_lets -merge -useContext -underBinder +onlyGivenNames x5
  refine Frame.via x5 ?_ fun h5 => ?_
  · unfold x5
    refine Frame.forN _ ?_ fun i x hx => ?_
    · exact h4
    · refine Frame.ite (fun _ => ?_) (fun _ => ?_)
      · exact hx
      · extract_lets -merge -useContext -underBinder +onlyGivenNames x6
        refine Frame.via x6 ?_ fun h6 => ?_
        · unfold x6
          refine Frame.ite (fun _ => ?_) (fun _ => ?_)
          · exact hx
          · refine Frame.report ?_ rfl
            refine Frame.raise ?_ (inRows_of (r := .SUP_EVENT) rfl (by exact rfl)) rfl
            exact hx
        try clear_value x6
        refine Frame.wr ?_ (inRows_of (r := .SUP_TS_STATUS) rfl (by exact ⟨_, rfl⟩))
        exact h6
  try clear_value x5
  refine Frame.then ?_ refreshQualified_frame rfl rfl
  exact h5

theorem resetConfig_frame  : Frame none [.events, .sup, .syn] s (resetConfig s) := by
  unfold resetConfig
  refine Frame.then ?_ settleSup_frame rfl rfl
  refine ⟨fun off hn => absurd trivial hn, fun p hp => by cases p <;> simp [Part.same], fun hw => ⟨sparseWf_filter hw.regs, fun p => ?_⟩⟩
  have h := hw.parts p
  cases p <;> exact h

theorem haltSpindles_frame  : Frame (some [.SPN_STATUS]) [.spn] s (haltSpindles s) := by
  unfold haltSpindles
  refine Frame.forN _ ?_ fun i x hx => ?_
  · exact Frame.refl
  · refine Frame.ite (fun _ => ?_) (fun _ => ?_)
    · exact hx
    · refine Frame.then ?_ toIdle_frame rfl rfl
      exact hx

theorem endRun_frame  : Frame (some [.SPN_STATUS, .STM_EVENT, .STM_TGT_EVENT, .STM_TGT_STATUS, .SYN_BIA_TARGET, .SYN_MRK_LEVEL, .SYN_TRG_LEVEL]) [.events, .later, .rdo, .spn, .sup, .syn] s (endRun s) := by
  unfold endRun
  extract_lets -merge -useContext -underBinder +onlyGivenNames x1
  refine Frame.via x1 ?_ fun h1 => ?_
  · unfold x1
    refine Frame.then ?_ haltSpindles_frame rfl rfl
    refine Frame.then ?_ clearFlux_frame rfl rfl
    refine Frame.then ?_ muteBias_frame rfl rfl
    refine Frame.then ?_ lowerOutputs_frame rfl rfl
    refine Frame.then ?_ endChains_frame rfl rfl
    exact Frame.refl
  try clear_value x1
  refine Frame.later ?_ rfl (fun _ => trivial)
  exact h1

theorem switchThresholds_frame  : Frame (some [.SUP_MON_STATUS, .SUP_TRIP, .SUP_TRIP_ERR, .SUP_TRIP_REEL_HI, .SUP_TRIP_REEL_LO, .SUP_TRIP_SEEN]) [.glb, .later, .sup] s (switchThresholds s) := by
  unfold switchThresholds
  refine Frame.then ?_ rejudge_frame rfl rfl
  refine Frame.upd (t := s) [.sup, .later] ?_ rfl rfl (fun p hn => by cases p <;> first | rfl | exact ⟨rfl, rfl⟩ | exact ⟨rfl, rfl, rfl⟩ | exact absurd hn (by decide)) (fun p hm => by
      simp only [List.mem_cons, List.not_mem_nil, or_false] at hm
      rcases hm with rfl | rfl
      · exact fun h => ⟨(by first | exact h.1 | exact sparseWf_sset h.1 | exact sparseWf_nil | exact sparseWf_filter h.1 | exact sparseWf_smap h.1 | exact sparseWf_sdrop h.1 | exact sparseWf_sset (sparseWf_sset h.1) | exact sparseWf_fold sparseWf_nil | (dsimp only; exact sparseWf_smap h.1)), (by first | exact h.2.1 | exact sparseWf_sset h.2.1 | exact sparseWf_nil | exact sparseWf_filter h.2.1 | exact sparseWf_smap h.2.1 | exact sparseWf_sdrop h.2.1 | exact sparseWf_sset (sparseWf_sset h.2.1) | exact sparseWf_fold sparseWf_nil | (dsimp only; exact sparseWf_smap h.2.1)), (by first | exact h.2.2.1 | exact sparseWf_sset h.2.2.1 | exact sparseWf_nil | exact sparseWf_filter h.2.2.1 | exact sparseWf_smap h.2.2.1 | exact sparseWf_sdrop h.2.2.1 | exact sparseWf_sset (sparseWf_sset h.2.2.1) | exact sparseWf_fold sparseWf_nil | (dsimp only; exact sparseWf_smap h.2.2.1)), (by first | exact h.2.2.2.1 | exact sparseWf_sset h.2.2.2.1 | exact sparseWf_nil | exact sparseWf_filter h.2.2.2.1 | exact sparseWf_smap h.2.2.2.1 | exact sparseWf_sdrop h.2.2.2.1 | exact sparseWf_sset (sparseWf_sset h.2.2.2.1) | exact sparseWf_fold sparseWf_nil | (dsimp only; exact sparseWf_smap h.2.2.2.1)), (by first | exact h.2.2.2.2.1 | exact sparseWf_sset h.2.2.2.2.1 | exact sparseWf_nil | exact sparseWf_filter h.2.2.2.2.1 | exact sparseWf_smap h.2.2.2.2.1 | exact sparseWf_sdrop h.2.2.2.2.1 | exact sparseWf_sset (sparseWf_sset h.2.2.2.2.1) | exact sparseWf_fold sparseWf_nil | (dsimp only; exact sparseWf_smap h.2.2.2.2.1)), (by first | exact h.2.2.2.2.2 | exact sparseWf_sset h.2.2.2.2.2 | exact sparseWf_nil | exact sparseWf_filter h.2.2.2.2.2 | exact sparseWf_smap h.2.2.2.2.2 | exact sparseWf_sdrop h.2.2.2.2.2 | exact sparseWf_sset (sparseWf_sset h.2.2.2.2.2) | exact sparseWf_fold sparseWf_nil | (dsimp only; exact sparseWf_smap h.2.2.2.2.2))⟩
      · exact fun _ => trivial)
  exact Frame.refl

theorem clockFault_frame  : Frame (some []) [.sup] s (clockFault s) := by
  unfold clockFault
  refine Frame.ite (fun _ => ?_) (fun _ => ?_)
  · refine Frame.report ?_ rfl
    exact Frame.refl
  · exact Frame.refl

theorem stopInM6_frame  : Frame (some [.PWR_PORT_STATE, .SPN_STATUS, .STM_EVENT, .STM_TGT_EVENT, .STM_TGT_STATUS, .SUP_MON_STATUS, .SUP_TRIP, .SUP_TRIP_ERR, .SUP_TRIP_REEL_HI, .SUP_TRIP_REEL_LO, .SUP_TRIP_SEEN, .SYN_BIA_TARGET, .SYN_MRK_LEVEL, .SYN_TRG_LEVEL]) [.events, .glb, .later, .pwr, .rdo, .spn, .sup, .syn] s (stopInM6 s) := by
  unfold stopInM6
  extract_lets -merge -useContext -underBinder +onlyGivenNames x1
  refine Frame.via x1 ?_ fun h1 => ?_
  · unfold x1
    refine Frame.then ?_ endRun_frame rfl rfl
    exact Frame.refl
  try clear_value x1
  extract_lets -merge -useContext -underBinder +onlyGivenNames w2 x3
  refine Frame.via x3 ?_ fun h3 => ?_
  · unfold x3
    refine Frame.glb ?_ rfl (fun _ => trivial)
    exact h1
  try clear_value x3
  extract_lets -merge -useContext -underBinder +onlyGivenNames x4
  refine Frame.via x4 ?_ fun h4 => ?_
  · unfold x4
    refine Frame.then ?_ setAllPorts_frame rfl rfl
    exact h3
  try clear_value x4
  refine Frame.then ?_ clockFault_frame rfl rfl
  refine Frame.then ?_ switchThresholds_frame rfl rfl
  exact h4

theorem clearCounters_frame  : Frame (some [.DSC_CH_COUNT, .DSC_CH_COUNT2, .DSC_COUNT, .FAB_CT_COUNT, .FAB_EV_COUNT, .FAB_GRP_COUNT, .FAB_PLY_STATUS, .MEM_CLS_COUNT, .MEM_CLS_MAXLAT, .PWR_GRP_WAKES, .RDO_ACQ_OVR_CNT, .RDO_ARR_CLIP_CNT, .RDO_CH_STATUS, .STM_TGT_JCNT, .SUP_MON_STATUS, .SYN_CH_STATUS, .SYN_FLX_CLIP_CNT, .SYN_PORT_ASLEEP_CNT, .SYN_PORT_CLIP_CNT]) [] s (clearCounters s) := by
  unfold clearCounters
  extract_lets -merge -useContext -underBinder +onlyGivenNames x1
  refine Frame.via x1 ?_ fun h1 => ?_
  · unfold x1
    refine Frame.forN _ ?_ fun i x hx => ?_
    · exact Frame.refl
    · refine Frame.wr ?_ (inRows_of (r := .SYN_PORT_ASLEEP_CNT) rfl (by exact ⟨_, rfl⟩))
      refine Frame.wr ?_ (inRows_of (r := .SYN_PORT_CLIP_CNT) rfl (by exact ⟨_, rfl⟩))
      exact hx
  try clear_value x1
  extract_lets -merge -useContext -underBinder +onlyGivenNames x2
  refine Frame.via x2 ?_ fun h2 => ?_
  · unfold x2
    refine Frame.forN _ ?_ fun i x hx => ?_
    · exact h1
    · refine Frame.put ?_ (inRows_of (r := .SYN_CH_STATUS) rfl (by exact ⟨_, rfl⟩))
      exact hx
  try clear_value x2
  extract_lets -merge -useContext -underBinder +onlyGivenNames x3
  refine Frame.via x3 ?_ fun h3 => ?_
  · unfold x3
    refine Frame.forN _ ?_ fun i x hx => ?_
    · exact h2
    · refine Frame.wr ?_ (inRows_of (r := .SYN_FLX_CLIP_CNT) rfl (by exact ⟨_, rfl⟩))
      exact hx
  try clear_value x3
  extract_lets -merge -useContext -underBinder +onlyGivenNames x4
  refine Frame.via x4 ?_ fun h4 => ?_
  · unfold x4
    refine Frame.forN _ ?_ fun i x hx => ?_
    · exact h3
    · refine Frame.wr ?_ (inRows_of (r := .STM_TGT_JCNT) rfl (by exact ⟨_, rfl⟩))
      exact hx
  try clear_value x4
  extract_lets -merge -useContext -underBinder +onlyGivenNames x5
  refine Frame.via x5 ?_ fun h5 => ?_
  · unfold x5
    refine Frame.forN _ ?_ fun i x hx => ?_
    · exact h4
    · refine Frame.wr ?_ (inRows_of (r := .RDO_ARR_CLIP_CNT) rfl (by exact ⟨_, rfl⟩))
      refine Frame.wr ?_ (inRows_of (r := .RDO_ACQ_OVR_CNT) rfl (by exact ⟨_, rfl⟩))
      exact hx
  try clear_value x5
  extract_lets -merge -useContext -underBinder +onlyGivenNames x6
  refine Frame.via x6 ?_ fun h6 => ?_
  · unfold x6
    refine Frame.forN _ ?_ fun i x hx => ?_
    · exact h5
    · refine Frame.wr ?_ (inRows_of (r := .DSC_CH_COUNT2) rfl (by exact ⟨_, rfl⟩))
      refine Frame.wr ?_ (inRows_of (r := .DSC_CH_COUNT) rfl (by exact ⟨_, rfl⟩))
      refine Frame.put ?_ (inRows_of (r := .RDO_CH_STATUS) rfl (by exact ⟨_, rfl⟩))
      exact hx
  try clear_value x6
  extract_lets -merge -useContext -underBinder +onlyGivenNames x7
  refine Frame.via x7 ?_ fun h7 => ?_
  · unfold x7
    refine Frame.wr ?_ (inRows_of (r := .DSC_COUNT) rfl (by exact rfl))
    exact h6
  try clear_value x7
  extract_lets -merge -useContext -underBinder +onlyGivenNames x8
  refine Frame.via x8 ?_ fun h8 => ?_
  · unfold x8
    refine Frame.forN _ ?_ fun i x hx => ?_
    · exact h7
    · refine Frame.wr ?_ (inRows_of (r := .FAB_EV_COUNT) rfl (by exact ⟨_, rfl⟩))
      exact hx
  try clear_value x8
  extract_lets -merge -useContext -underBinder +onlyGivenNames x9
  refine Frame.via x9 ?_ fun h9 => ?_
  · unfold x9
    refine Frame.forN _ ?_ fun i x hx => ?_
    · exact h8
    · refine Frame.put ?_ (inRows_of (r := .FAB_PLY_STATUS) rfl (by exact ⟨_, rfl⟩))
      exact hx
  try clear_value x9
  extract_lets -merge -useContext -underBinder +onlyGivenNames x10
  refine Frame.via x10 ?_ fun h10 => ?_
  · unfold x10
    refine Frame.forN _ ?_ fun i x hx => ?_
    · exact h9
    · refine Frame.wr ?_ (inRows_of (r := .FAB_CT_COUNT) rfl (by exact ⟨_, rfl⟩))
      exact hx
  try clear_value x10
  extract_lets -merge -useContext -underBinder +onlyGivenNames x11
  refine Frame.via x11 ?_ fun h11 => ?_
  · unfold x11
    refine Frame.forN _ ?_ fun i x hx => ?_
    · exact h10
    · refine Frame.wr ?_ (inRows_of (r := .FAB_GRP_COUNT) rfl (by exact ⟨_, rfl⟩))
      exact hx
  try clear_value x11
  extract_lets -merge -useContext -underBinder +onlyGivenNames x12
  refine Frame.via x12 ?_ fun h12 => ?_
  · unfold x12
    refine Frame.forN _ ?_ fun i x hx => ?_
    · exact h11
    · refine Frame.wr ?_ (inRows_of (r := .MEM_CLS_MAXLAT) rfl (by exact ⟨_, rfl⟩))
      refine Frame.wr ?_ (inRows_of (r := .MEM_CLS_COUNT) rfl (by exact ⟨_, rfl⟩))
      exact hx
  try clear_value x12
  extract_lets -merge -useContext -underBinder +onlyGivenNames x13
  refine Frame.via x13 ?_ fun h13 => ?_
  · unfold x13
    refine Frame.forN _ ?_ fun i x hx => ?_
    · exact h12
    · refine Frame.put ?_ (inRows_of (r := .SUP_MON_STATUS) rfl (by exact ⟨_, rfl⟩))
      exact hx
  try clear_value x13
  refine Frame.forN _ ?_ fun i x hx => ?_
  · exact h13
  · refine Frame.wr ?_ (inRows_of (r := .PWR_GRP_WAKES) rfl (by exact ⟨_, rfl⟩))
    exact hx

theorem startSpindles_frame  : Frame (some [.SPN_CA_HI, .SPN_CA_LO, .SPN_G, .SPN_LC, .SPN_PEND, .SPN_RESUME, .SPN_SIN, .SPN_STATUS, .SPN_TB_HI, .SPN_TB_LO]) [.spn] s (startSpindles s) := by
  unfold startSpindles
  refine Frame.forN _ ?_ fun i x hx => ?_
  · exact Frame.refl
  · extract_lets -merge -useContext -underBinder +onlyGivenNames v1 v2 x3
    refine Frame.via x3 ?_ fun h3 => ?_
    · unfold x3
      refine Frame.forN _ ?_ fun i x hx => ?_
      · exact hx
      · refine Frame.wr ?_ (inRows_of (r := .SPN_G) rfl (by exact ⟨_, _, rfl⟩))
        exact hx
    try clear_value x3
    extract_lets -merge -useContext -underBinder +onlyGivenNames x4
    refine Frame.via x4 ?_ fun h4 => ?_
    · unfold x4
      refine Frame.forN _ ?_ fun i x hx => ?_
      · exact h3
      · refine Frame.wr ?_ (inRows_of (r := .SPN_LC) rfl (by exact ⟨_, _, rfl⟩))
        exact hx
    try clear_value x4
    extract_lets -merge -useContext -underBinder +onlyGivenNames x5
    refine Frame.via x5 ?_ fun h5 => ?_
    · unfold x5
      refine Frame.wr64 ?_ (inRows_of (r := .SPN_CA_LO) rfl (by exact ⟨_, rfl⟩)) (inRows_of (r := .SPN_CA_HI) rfl (by exact ⟨_, hiShift1 (by decide)⟩))
      refine Frame.wr64 ?_ (inRows_of (r := .SPN_TB_LO) rfl (by exact ⟨_, rfl⟩)) (inRows_of (r := .SPN_TB_HI) rfl (by exact ⟨_, hiShift1 (by decide)⟩))
      exact h4
    try clear_value x5
    extract_lets -merge -useContext -underBinder +onlyGivenNames x6
    refine Frame.via x6 ?_ fun h6 => ?_
    · unfold x6
      refine Frame.wr ?_ (inRows_of (r := .SPN_RESUME) rfl (by exact ⟨_, rfl⟩))
      refine Frame.wr ?_ (inRows_of (r := .SPN_PEND) rfl (by exact ⟨_, rfl⟩))
      refine Frame.wr ?_ (inRows_of (r := .SPN_SIN) rfl (by exact ⟨_, rfl⟩))
      exact h5
    try clear_value x6
    extract_lets -merge -useContext -underBinder +onlyGivenNames x7
    refine Frame.via x7 ?_ fun h7 => ?_
    · unfold x7
      refine Frame.wr ?_ (inRows_of (r := .SPN_STATUS) rfl (by exact ⟨_, rfl⟩))
      exact h6
    try clear_value x7
    extract_lets -merge -useContext -underBinder +onlyGivenNames x8
    refine Frame.via x8 ?_ fun h8 => ?_
    · unfold x8
      refine Frame.ite (fun _ => ?_) (fun _ => ?_)
      · refine Frame.put ?_ (inRows_of (r := .SPN_STATUS) rfl (by exact ⟨_, rfl⟩))
        refine Frame.put ?_ (inRows_of (r := .SPN_STATUS) rfl (by exact ⟨_, rfl⟩))
        exact h7
      · exact h7
    try clear_value x8
    refine Frame.then ?_ restartScout_frame rfl rfl
    refine Frame.then ?_ State.setSpindle_frame rfl rfl
    exact h8

theorem runStart_frame  : Frame none [.bob, .dsc, .fab, .rdo, .spn, .syn] s (runStart s) := by
  unfold runStart
  refine Frame.then ?_ startBobs_frame rfl rfl
  refine Frame.then ?_ startFabric_frame rfl rfl
  refine Frame.then ?_ startDiscr_frame rfl rfl
  refine Frame.then ?_ startReadout_frame rfl rfl
  refine Frame.then ?_ startNcos_frame rfl rfl
  refine Frame.then ?_ clearFlux_frame rfl rfl
  refine Frame.then ?_ startSpindles_frame rfl rfl
  refine Frame.then ?_ clearCounters_frame rfl rfl
  exact Frame.refl

theorem failLoad_frame {a0 : Nat} {a1 : Nat} : Frame (some [.SEC_EVENT, .SEC_LOAD_STATUS]) [.events, .sec, .sup] s (failLoad a0 a1 s) := by
  unfold failLoad
  extract_lets -merge -useContext -underBinder +onlyGivenNames x1
  refine Frame.via x1 ?_ fun h1 => ?_
  · unfold x1
    refine Frame.put ?_ (inRows_of (r := .SEC_LOAD_STATUS) rfl (by exact rfl))
    refine Frame.put ?_ (inRows_of (r := .SEC_LOAD_STATUS) rfl (by exact rfl))
    refine Frame.put ?_ (inRows_of (r := .SEC_LOAD_STATUS) rfl (by exact rfl))
    exact Frame.refl
  try clear_value x1
  extract_lets -merge -useContext -underBinder +onlyGivenNames x2
  refine Frame.via x2 ?_ fun h2 => ?_
  · unfold x2
    refine Frame.raise ?_ (inRows_of (r := .SEC_EVENT) rfl (by exact rfl)) rfl
    exact h1
  try clear_value x2
  refine Frame.sec ?_ rfl (fun _ => trivial)
  exact h2

theorem abortLoad_frame  : Frame (some [.SEC_EVENT, .SEC_LOAD_STATUS]) [.events, .sec, .sup] s (abortLoad s) := by
  unfold abortLoad
  refine Frame.ite (fun _ => ?_) (fun _ => ?_)
  · refine Frame.then ?_ failLoad_frame rfl rfl
    exact Frame.refl
  · exact Frame.refl

theorem frontFollows_frame  : Frame (some []) [.rdo] s (frontFollows s) := by
  unfold frontFollows
  extract_lets -merge -useContext -underBinder +onlyGivenNames x1
  refine Frame.via x1 ?_ fun h1 => ?_
  · unfold x1
    refine Frame.forN _ ?_ fun i x hx => ?_
    · exact Frame.refl
    · refine Frame.then ?_ combFollows_frame rfl rfl
      refine Frame.then ?_ scheduleChange_frame rfl rfl
      exact hx
  try clear_value x1
  refine Frame.forN _ ?_ fun i x hx => ?_
  · exact h1
  · refine Frame.then ?_ scheduleChange_frame rfl rfl
    refine Frame.then ?_ scheduleChange_frame rfl rfl
    refine Frame.then ?_ scheduleChange_frame rfl rfl
    exact hx

theorem enterM0_frame  : Frame none [.bob, .csc, .dram, .dsc, .events, .fab, .free, .glb, .jobs, .mem, .rdo, .rv, .sec, .spn, .sram, .sup, .syn, .tln] s (enterM0 s) := by
  unfold enterM0
  extract_lets -merge -useContext -underBinder +onlyGivenNames x1
  refine Frame.via x1 ?_ fun h1 => ?_
  · unfold x1
    refine Frame.forN _ ?_ fun i x hx => ?_
    · refine Frame.then ?_ forgetReel_frame rfl rfl
      refine Frame.then ?_ abortJobs_frame rfl rfl
      refine Frame.then ?_ downTwists_frame rfl rfl
      exact Frame.refl
    · refine Frame.then ?_ clearBob_frame rfl rfl
      exact hx
  try clear_value x1
  extract_lets -merge -useContext -underBinder +onlyGivenNames x2
  refine Frame.via x2 ?_ fun h2 => ?_
  · unfold x2
    refine Frame.then ?_ pllDown_frame rfl rfl
    refine Frame.put ?_ (inRows_of (r := .GLB_MODE_STATUS) rfl (by exact rfl))
    refine Frame.put ?_ (inRows_of (r := .GLB_MODE_STATUS) rfl (by exact rfl))
    exact h1
  try clear_value x2
  extract_lets -merge -useContext -underBinder +onlyGivenNames x3
  refine Frame.via x3 ?_ fun h3 => ?_
  · unfold x3
    refine Frame.put ?_ (inRows_of (r := .MEM_STATUS) rfl (by exact rfl))
    refine Frame.put ?_ (inRows_of (r := .MEM_STATUS) rfl (by exact rfl))
    exact h2
  try clear_value x3
  extract_lets -merge -useContext -underBinder +onlyGivenNames x4
  refine Frame.via x4 ?_ fun h4 => ?_
  · unfold x4
    refine Frame.put ?_ (inRows_of (r := .CSC_STATUS) rfl (by exact rfl))
    refine Frame.put ?_ (inRows_of (r := .MEM_STATUS) rfl (by exact rfl))
    exact h3
  try clear_value x4
  extract_lets -merge -useContext -underBinder +onlyGivenNames x5
  refine Frame.via x5 ?_ fun h5 => ?_
  · unfold x5
    refine Frame.forN _ ?_ fun i x hx => ?_
    · refine Frame.put ?_ (inRows_of (r := .TLN_STATUS) rfl (by exact rfl))
      exact h4
    · refine Frame.put ?_ (inRows_of (r := .TLN_PTP_STATUS) rfl (by exact ⟨_, rfl⟩))
      exact hx
  try clear_value x5
  extract_lets -merge -useContext -underBinder +onlyGivenNames x6
  refine Frame.via x6 ?_ fun h6 => ?_
  · unfold x6
    refine Frame.then ?_ resetConfig_frame rfl rfl
    exact h5
  try clear_value x6
  extract_lets -merge -useContext -underBinder +onlyGivenNames x7
  refine Frame.via x7 ?_ fun h7 => ?_
  · unfold x7
    refine Frame.forN _ ?_ fun i x hx => ?_
    · exact h6
    · refine Frame.put ?_ (inRows_of (r := .RDO_ACQ_STATUS) rfl (by exact ⟨_, rfl⟩))
      exact hx
  try clear_value x7
  refine Frame.upd (t := x7) [.sec, .mem, .csc, .fab, .dsc, .rdo, .rv, .syn, .spn, .tln, .dram, .sram] ?_ rfl rfl (fun p hn => by cases p <;> first | rfl | exact ⟨rfl, rfl⟩ | exact ⟨rfl, rfl, rfl⟩ | exact absurd hn (by decide)) (fun p hm => by
      simp only [List.mem_cons, List.not_mem_nil, or_false] at hm
      rcases hm with rfl | rfl | rfl | rfl | rfl | rfl | rfl | rfl | rfl | rfl | rfl | rfl
      · exact fun _ => trivial
      · exact fun h => ⟨(by first | exact h.1 | exact sparseWf_sset h.1 | exact sparseWf_nil | exact sparseWf_filter h.1 | exact sparseWf_smap h.1 | exact sparseWf_sdrop h.1 | exact sparseWf_sset (sparseWf_sset h.1) | exact sparseWf_fold sparseWf_nil | (dsimp only; exact sparseWf_smap h.1)), (by first | exact h.2.1 | exact sparseWf_sset h.2.1 | exact sparseWf_nil | exact sparseWf_filter h.2.1 | exact sparseWf_smap h.2.1 | exact sparseWf_sdrop h.2.1 | exact sparseWf_sset (sparseWf_sset h.2.1) | exact sparseWf_fold sparseWf_nil | (dsimp only; exact sparseWf_smap h.2.1)), (by first | exact h.2.2.1 | exact sparseWf_sset h.2.2.1 | exact sparseWf_nil | exact sparseWf_filter h.2.2.1 | exact sparseWf_smap h.2.2.1 | exact sparseWf_sdrop h.2.2.1 | exact sparseWf_sset (sparseWf_sset h.2.2.1) | exact sparseWf_fold sparseWf_nil | (dsimp only; exact sparseWf_smap h.2.2.1)), (by first | exact h.2.2.2 | exact sparseWf_sset h.2.2.2 | exact sparseWf_nil | exact sparseWf_filter h.2.2.2 | exact sparseWf_smap h.2.2.2 | exact sparseWf_sdrop h.2.2.2 | exact sparseWf_sset (sparseWf_sset h.2.2.2) | exact sparseWf_fold sparseWf_nil | (dsimp only; exact sparseWf_smap h.2.2.2))⟩
      · exact fun h => (by first | exact h | exact sparseWf_sset h | exact sparseWf_nil | exact sparseWf_filter h | exact sparseWf_smap h | exact sparseWf_sdrop h | exact sparseWf_sset (sparseWf_sset h) | exact sparseWf_fold sparseWf_nil | (dsimp only; exact sparseWf_smap h))
      · exact fun h => ⟨(by first | exact h.1 | exact sparseWf_sset h.1 | exact sparseWf_nil | exact sparseWf_filter h.1 | exact sparseWf_smap h.1 | exact sparseWf_sdrop h.1 | exact sparseWf_sset (sparseWf_sset h.1) | exact sparseWf_fold sparseWf_nil | (dsimp only; exact sparseWf_smap h.1)), (by first | exact h.2.1 | exact sparseWf_sset h.2.1 | exact sparseWf_nil | exact sparseWf_filter h.2.1 | exact sparseWf_smap h.2.1 | exact sparseWf_sdrop h.2.1 | exact sparseWf_sset (sparseWf_sset h.2.1) | exact sparseWf_fold sparseWf_nil | (dsimp only; exact sparseWf_smap h.2.1)), (by first | exact h.2.2.1 | exact sparseWf_sset h.2.2.1 | exact sparseWf_nil | exact sparseWf_filter h.2.2.1 | exact sparseWf_smap h.2.2.1 | exact sparseWf_sdrop h.2.2.1 | exact sparseWf_sset (sparseWf_sset h.2.2.1) | exact sparseWf_fold sparseWf_nil | (dsimp only; exact sparseWf_smap h.2.2.1)), (by first | exact h.2.2.2 | exact sparseWf_sset h.2.2.2 | exact sparseWf_nil | exact sparseWf_filter h.2.2.2 | exact sparseWf_smap h.2.2.2 | exact sparseWf_sdrop h.2.2.2 | exact sparseWf_sset (sparseWf_sset h.2.2.2) | exact sparseWf_fold sparseWf_nil | (dsimp only; exact sparseWf_smap h.2.2.2))⟩
      · exact fun h => (by first | exact h | exact sparseWf_sset h | exact sparseWf_nil | exact sparseWf_filter h | exact sparseWf_smap h | exact sparseWf_sdrop h | exact sparseWf_sset (sparseWf_sset h) | exact sparseWf_fold sparseWf_nil | (dsimp only; exact sparseWf_smap h))
      · exact fun h => ⟨(by first | exact h.1 | exact sparseWf_sset h.1 | exact sparseWf_nil | exact sparseWf_filter h.1 | exact sparseWf_smap h.1 | exact sparseWf_sdrop h.1 | exact sparseWf_sset (sparseWf_sset h.1) | exact sparseWf_fold sparseWf_nil | (dsimp only; exact sparseWf_smap h.1)), (by first | exact h.2.1 | exact sparseWf_sset h.2.1 | exact sparseWf_nil | exact sparseWf_filter h.2.1 | exact sparseWf_smap h.2.1 | exact sparseWf_sdrop h.2.1 | exact sparseWf_sset (sparseWf_sset h.2.1) | exact sparseWf_fold sparseWf_nil | (dsimp only; exact sparseWf_smap h.2.1)), (by first | exact h.2.2 | exact sparseWf_sset h.2.2 | exact sparseWf_nil | exact sparseWf_filter h.2.2 | exact sparseWf_smap h.2.2 | exact sparseWf_sdrop h.2.2 | exact sparseWf_sset (sparseWf_sset h.2.2) | exact sparseWf_fold sparseWf_nil | (dsimp only; exact sparseWf_smap h.2.2))⟩
      · exact fun h => (by first | exact h | exact sparseWf_sset h | exact sparseWf_nil | exact sparseWf_filter h | exact sparseWf_smap h | exact sparseWf_sdrop h | exact sparseWf_sset (sparseWf_sset h) | exact sparseWf_fold sparseWf_nil | (dsimp only; exact sparseWf_smap h))
      · exact fun h => ⟨(by first | exact h.1 | exact sparseWf_sset h.1 | exact sparseWf_nil | exact sparseWf_filter h.1 | exact sparseWf_smap h.1 | exact sparseWf_sdrop h.1 | exact sparseWf_sset (sparseWf_sset h.1) | exact sparseWf_fold sparseWf_nil | (dsimp only; exact sparseWf_smap h.1)), (by first | exact h.2.1 | exact sparseWf_sset h.2.1 | exact sparseWf_nil | exact sparseWf_filter h.2.1 | exact sparseWf_smap h.2.1 | exact sparseWf_sdrop h.2.1 | exact sparseWf_sset (sparseWf_sset h.2.1) | exact sparseWf_fold sparseWf_nil | (dsimp only; exact sparseWf_smap h.2.1)), (by first | exact h.2.2.1 | exact sparseWf_sset h.2.2.1 | exact sparseWf_nil | exact sparseWf_filter h.2.2.1 | exact sparseWf_smap h.2.2.1 | exact sparseWf_sdrop h.2.2.1 | exact sparseWf_sset (sparseWf_sset h.2.2.1) | exact sparseWf_fold sparseWf_nil | (dsimp only; exact sparseWf_smap h.2.2.1)), (by first | exact h.2.2.2.1 | exact sparseWf_sset h.2.2.2.1 | exact sparseWf_nil | exact sparseWf_filter h.2.2.2.1 | exact sparseWf_smap h.2.2.2.1 | exact sparseWf_sdrop h.2.2.2.1 | exact sparseWf_sset (sparseWf_sset h.2.2.2.1) | exact sparseWf_fold sparseWf_nil | (dsimp only; exact sparseWf_smap h.2.2.2.1)), (by first | exact h.2.2.2.2.1 | exact sparseWf_sset h.2.2.2.2.1 | exact sparseWf_nil | exact sparseWf_filter h.2.2.2.2.1 | exact sparseWf_smap h.2.2.2.2.1 | exact sparseWf_sdrop h.2.2.2.2.1 | exact sparseWf_sset (sparseWf_sset h.2.2.2.2.1) | exact sparseWf_fold sparseWf_nil | (dsimp only; exact sparseWf_smap h.2.2.2.2.1)), (by first | exact h.2.2.2.2.2 | exact sparseWf_sset h.2.2.2.2.2 | exact sparseWf_nil | exact sparseWf_filter h.2.2.2.2.2 | exact sparseWf_smap h.2.2.2.2.2 | exact sparseWf_sdrop h.2.2.2.2.2 | exact sparseWf_sset (sparseWf_sset h.2.2.2.2.2) | exact sparseWf_fold sparseWf_nil | (dsimp only; exact sparseWf_smap h.2.2.2.2.2))⟩
      · exact fun h => (by first | exact h | exact sparseWf_sset h | exact sparseWf_nil | exact sparseWf_filter h | exact sparseWf_smap h | exact sparseWf_sdrop h | exact sparseWf_sset (sparseWf_sset h) | exact sparseWf_fold sparseWf_nil | (dsimp only; exact sparseWf_smap h))
      · exact fun h => ⟨(by first | exact h.1 | exact sparseWf_sset h.1 | exact sparseWf_nil | exact sparseWf_filter h.1 | exact sparseWf_smap h.1 | exact sparseWf_sdrop h.1 | exact sparseWf_sset (sparseWf_sset h.1) | exact sparseWf_fold sparseWf_nil | (dsimp only; exact sparseWf_smap h.1)), (by first | exact h.2 | exact sparseWf_sset h.2 | exact sparseWf_nil | exact sparseWf_filter h.2 | exact sparseWf_smap h.2 | exact sparseWf_sdrop h.2 | exact sparseWf_sset (sparseWf_sset h.2) | exact sparseWf_fold sparseWf_nil | (dsimp only; exact sparseWf_smap h.2))⟩
      · exact fun h => (by first | exact h | exact sparseWf_sset h | exact sparseWf_nil | exact sparseWf_filter h | exact sparseWf_smap h | exact sparseWf_sdrop h | exact sparseWf_sset (sparseWf_sset h) | exact sparseWf_fold sparseWf_nil | (dsimp only; exact sparseWf_smap h))
      · exact fun h => (by first | exact h | exact sparseWf_sset h | exact sparseWf_nil | exact sparseWf_filter h | exact sparseWf_smap h | exact sparseWf_sdrop h | exact sparseWf_sset (sparseWf_sset h) | exact sparseWf_fold sparseWf_nil | (dsimp only; exact sparseWf_smap h)))
  exact h7

theorem enterM1_frame  : Frame none [.events, .glb, .rdo, .sup, .syn] s (enterM1 s) := by
  unfold enterM1
  extract_lets -merge -useContext -underBinder +onlyGivenNames x1
  refine Frame.via x1 ?_ fun h1 => ?_
  · unfold x1
    refine Frame.put ?_ (inRows_of (r := .MEM_STATUS) rfl (by exact rfl))
    refine Frame.then ?_ frontFollows_frame rfl rfl
    refine Frame.then ?_ resetConfig_frame rfl rfl
    exact Frame.refl
  try clear_value x1
  refine Frame.glb ?_ rfl (fun _ => trivial)
  exact h1

theorem enterM2_frame {a0 : Nat} : Frame (some [.CSC_EVENT, .CSC_STATUS, .CSC_TW_STATUS, .DRF_LANE_STATUS, .GLB_CLK_STATUS, .GLB_MODE_STATUS, .MEM_STATUS, .PWR_EVENT, .PWR_STATUS, .SEC_EVENT, .SEC_STATUS, .SPN_STATUS, .SUP_TOL, .SYN_MRK_LEVEL, .SYN_TRG_LEVEL, .TLN_ADJ, .TLN_COUNT, .TLN_CTL, .TLN_EVENT, .TLN_PTP_STATUS, .TLN_STATUS]) [.csc, .events, .free, .glb, .spn, .sup, .syn, .tln] s (enterM2 a0 s) := by
  unfold enterM2
  extract_lets -merge -useContext -underBinder +onlyGivenNames x1
  refine Frame.via x1 ?_ fun h1 => ?_
  · unfold x1
    refine Frame.then ?_ endTraining_frame rfl rfl
    refine Frame.put ?_ (inRows_of (r := .GLB_MODE_STATUS) rfl (by exact rfl))
    exact Frame.refl
  try clear_value x1
  extract_lets -merge -useContext -underBinder +onlyGivenNames x2
  refine Frame.via x2 ?_ fun h2 => ?_
  · unfold x2
    refine Frame.ite (fun _ => ?_) (fun _ => ?_)
    · refine Frame.put ?_ (inRows_of (r := .GLB_MODE_STATUS) rfl (by exact rfl))
      exact h1
    · exact h1
  try clear_value x2
  extract_lets -merge -useContext -underBinder +onlyGivenNames x3
  refine Frame.via x3 ?_ fun h3 => ?_
  · unfold x3
    refine Frame.ite (fun _ => ?_) (fun _ => ?_)
    · refine Frame.then ?_ setLevel_frame rfl rfl
      exact h2
    · exact h2
  try clear_value x3
  extract_lets -merge -useContext -underBinder +onlyGivenNames x4
  refine Frame.via x4 ?_ fun h4 => ?_
  · unfold x4
    refine Frame.then ?_ stallJobs_frame rfl rfl
    refine Frame.put ?_ (inRows_of (r := .MEM_STATUS) rfl (by exact rfl))
    exact h3
  try clear_value x4
  first | split | (clear_value *; split)
  · refine Frame.then ?_ enterLevel_frame rfl rfl
    exact h4

theorem enterM3_frame  : Frame (some [.GLB_MODE_STATUS, .SUP_TRIP, .SUP_TRIP_ERR, .SUP_TRIP_REEL_HI, .SUP_TRIP_REEL_LO, .SUP_TRIP_SEEN, .TLN_ADJ, .TLN_EVENT, .TLN_STATUS]) [.csc, .events, .glb, .rdo, .sup, .tln] s (enterM3 s) := by
  unfold enterM3
  extract_lets -merge -useContext -underBinder +onlyGivenNames x1
  refine Frame.via x1 ?_ fun h1 => ?_
  · unfold x1
    refine Frame.then ?_ startReel_frame rfl rfl
    refine Frame.put ?_ (inRows_of (r := .GLB_MODE_STATUS) rfl (by exact rfl))
    exact Frame.refl
  try clear_value x1
  extract_lets -merge -useContext -underBinder +onlyGivenNames w2 x3
  refine Frame.via x3 ?_ fun h3 => ?_
  · unfold x3
    refine Frame.rdo ?_ rfl (fun h => ⟨(by first | exact h.1 | exact sparseWf_sset h.1 | exact sparseWf_nil | exact sparseWf_filter h.1 | exact sparseWf_smap h.1 | exact sparseWf_sdrop h.1 | exact sparseWf_sset (sparseWf_sset h.1) | exact sparseWf_fold sparseWf_nil | (dsimp only; exact sparseWf_smap h.1)), (by first | exact h.2.1 | exact sparseWf_sset h.2.1 | exact sparseWf_nil | exact sparseWf_filter h.2.1 | exact sparseWf_smap h.2.1 | exact sparseWf_sdrop h.2.1 | exact sparseWf_sset (sparseWf_sset h.2.1) | exact sparseWf_fold sparseWf_nil | (dsimp only; exact sparseWf_smap h.2.1)), (by first | exact h.2.2 | exact sparseWf_sset h.2.2 | exact sparseWf_nil | exact sparseWf_filter h.2.2 | exact sparseWf_smap h.2.2 | exact sparseWf_sdrop h.2.2 | exact sparseWf_sset (sparseWf_sset h.2.2) | exact sparseWf_fold sparseWf_nil | (dsimp only; exact sparseWf_smap h.2.2))⟩)
    exact h1
  try clear_value x3
  extract_lets -merge -useContext -underBinder +onlyGivenNames w4 x5
  refine Frame.via x5 ?_ fun h5 => ?_
  · unfold x5
    refine Frame.sup ?_ rfl (by first | exact id | exact fun h => ⟨(by first | exact h.1 | exact sparseWf_sset h.1 | exact sparseWf_nil | exact sparseWf_filter h.1 | exact sparseWf_smap h.1 | exact sparseWf_sdrop h.1 | exact sparseWf_sset (sparseWf_sset h.1) | exact sparseWf_fold sparseWf_nil | (dsimp only; exact sparseWf_smap h.1)), (by first | exact h.2.1 | exact sparseWf_sset h.2.1 | exact sparseWf_nil | exact sparseWf_filter h.2.1 | exact sparseWf_smap h.2.1 | exact sparseWf_sdrop h.2.1 | exact sparseWf_sset (sparseWf_sset h.2.1) | exact sparseWf_fold sparseWf_nil | (dsimp only; exact sparseWf_smap h.2.1)), (by first | exact h.2.2.1 | exact sparseWf_sset h.2.2.1 | exact sparseWf_nil | exact sparseWf_filter h.2.2.1 | exact sparseWf_smap h.2.2.1 | exact sparseWf_sdrop h.2.2.1 | exact sparseWf_sset (sparseWf_sset h.2.2.1) | exact sparseWf_fold sparseWf_nil | (dsimp only; exact sparseWf_smap h.2.2.1)), (by first | exact h.2.2.2.1 | exact sparseWf_sset h.2.2.2.1 | exact sparseWf_nil | exact sparseWf_filter h.2.2.2.1 | exact sparseWf_smap h.2.2.2.1 | exact sparseWf_sdrop h.2.2.2.1 | exact sparseWf_sset (sparseWf_sset h.2.2.2.1) | exact sparseWf_fold sparseWf_nil | (dsimp only; exact sparseWf_smap h.2.2.2.1)), (by first | exact h.2.2.2.2.1 | exact sparseWf_sset h.2.2.2.2.1 | exact sparseWf_nil | exact sparseWf_filter h.2.2.2.2.1 | exact sparseWf_smap h.2.2.2.2.1 | exact sparseWf_sdrop h.2.2.2.2.1 | exact sparseWf_sset (sparseWf_sset h.2.2.2.2.1) | exact sparseWf_fold sparseWf_nil | (dsimp only; exact sparseWf_smap h.2.2.2.2.1)), (by first | exact h.2.2.2.2.2 | exact sparseWf_sset h.2.2.2.2.2 | exact sparseWf_nil | exact sparseWf_filter h.2.2.2.2.2 | exact sparseWf_smap h.2.2.2.2.2 | exact sparseWf_sdrop h.2.2.2.2.2 | exact sparseWf_sset (sparseWf_sset h.2.2.2.2.2) | exact sparseWf_fold sparseWf_nil | (dsimp only; exact sparseWf_smap h.2.2.2.2.2))⟩)
    exact h3
  try clear_value x5
  extract_lets -merge -useContext -underBinder +onlyGivenNames x6
  refine Frame.via x6 ?_ fun h6 => ?_
  · unfold x6
    refine Frame.ite (fun _ => ?_) (fun _ => ?_)
    · exact h5
    · refine Frame.then ?_ detect_frame rfl rfl
      exact h5
  try clear_value x6
  refine Frame.then ?_ clockFault_frame rfl rfl
  exact h6

theorem enterM4_frame  : Frame (some [.DRF_LANE_STATUS, .DRF_RV_BIND, .DRF_STATUS, .HIF_Q_LIMIT, .SEC_STATUS, .STM_RV_EVENT, .STM_RV_FILL, .STM_RV_POS_HI, .STM_RV_POS_LO, .STM_RV_STATUS, .SYN_BIA_TARGET, .SYN_MRK_LEVEL, .SYN_TRG_LEVEL]) [.events, .later, .rv, .sup, .syn] s (enterM4 s) := by
  unfold enterM4
  extract_lets -merge -useContext -underBinder +onlyGivenNames x1
  refine Frame.via x1 ?_ fun h1 => ?_
  · unfold x1
    refine Frame.then ?_ primeStreams_frame rfl rfl
    refine Frame.then ?_ bindLanes_frame rfl rfl
    refine Frame.then ?_ muteBias_frame rfl rfl
    refine Frame.then ?_ lowerOutputs_frame rfl rfl
    exact Frame.refl
  try clear_value x1
  refine Frame.ite (fun _ => ?_) (fun _ => ?_)
  · refine Frame.put ?_ (inRows_of (r := .SEC_STATUS) rfl (by exact rfl))
    exact h1
  · exact h1

theorem enterM6_frame {a0 : Nat} : Frame (some [.GLB_MODE_STATUS]) [.glb, .later] s (enterM6 a0 s) := by
  unfold enterM6
  extract_lets -merge -useContext -underBinder +onlyGivenNames x1
  refine Frame.via x1 ?_ fun h1 => ?_
  · unfold x1
    refine Frame.put ?_ (inRows_of (r := .GLB_MODE_STATUS) rfl (by exact rfl))
    exact Frame.refl
  try clear_value x1
  refine Frame.ite (fun _ => ?_) (fun _ => ?_)
  · refine Frame.ite (fun _ => ?_) (fun _ => ?_)
    · exact h1
    · refine Frame.then ?_ stopAllSpindles_frame rfl rfl
      refine Frame.glb ?_ rfl (fun _ => trivial)
      exact h1
  · refine Frame.glb ?_ rfl (fun _ => trivial)
    exact h1

theorem dropHeldTones_frame  : Frame (some []) [.rdo] s (dropHeldTones s) := by
  unfold dropHeldTones
  refine Frame.rdo ?_ rfl (fun h => ⟨(by first | exact h.1 | exact sparseWf_sset h.1 | exact sparseWf_nil | exact sparseWf_filter h.1 | exact sparseWf_smap h.1 | exact sparseWf_sdrop h.1 | exact sparseWf_sset (sparseWf_sset h.1) | exact sparseWf_fold sparseWf_nil | (dsimp only; exact sparseWf_smap h.1)), (by first | exact h.2.1 | exact sparseWf_sset h.2.1 | exact sparseWf_nil | exact sparseWf_filter h.2.1 | exact sparseWf_smap h.2.1 | exact sparseWf_sdrop h.2.1 | exact sparseWf_sset (sparseWf_sset h.2.1) | exact sparseWf_fold sparseWf_nil | (dsimp only; exact sparseWf_smap h.2.1)), (by first | exact h.2.2 | exact sparseWf_sset h.2.2 | exact sparseWf_nil | exact sparseWf_filter h.2.2 | exact sparseWf_smap h.2.2 | exact sparseWf_sdrop h.2.2 | exact sparseWf_sset (sparseWf_sset h.2.2) | exact sparseWf_fold sparseWf_nil | (dsimp only; exact sparseWf_smap h.2.2))⟩)
  exact Frame.refl

theorem endExtest_frame  : Frame (some []) [.tap] s (endExtest s) := by
  unfold endExtest
  refine Frame.tap ?_ rfl (fun _ => trivial)
  exact Frame.refl

theorem leaveMode_frame {a0 : Nat} {a1 : Nat} : Frame (some [.BOB_EVENT, .BOB_STATUS, .DRF_LANE_STATUS, .DRF_RV_BIND, .DRF_STATUS, .DSC_CH_EVENT, .DSC_CH_STATUS, .DSC_EVENT, .MEM_STATUS, .PWR_STATUS, .SEC_EVENT, .SEC_LOAD_STATUS, .SPN_STATUS, .STM_EVENT, .STM_RV_STATUS, .STM_TGT_EVENT, .STM_TGT_STATUS, .SYN_BIA_TARGET, .SYN_MRK_LEVEL, .SYN_TRG_LEVEL]) [.bob, .dsc, .events, .fab, .glb, .later, .mem, .pwr, .rdo, .rv, .sec, .spn, .sup, .syn] s (leaveMode a0 a1 s) := by
  unfold leaveMode
  extract_lets -merge -useContext -underBinder +onlyGivenNames v1 x2
  refine Frame.via x2 ?_ fun h2 => ?_
  · unfold x2
    refine Frame.ite (fun _ => ?_) (fun _ => ?_)
    · refine Frame.then ?_ stopFabric_frame rfl rfl
      refine Frame.then ?_ stopBobs_frame rfl rfl
      refine Frame.then ?_ dropWindows_frame rfl rfl
      refine Frame.then ?_ endRun_frame rfl rfl
      exact Frame.refl
    · exact Frame.refl
  try clear_value x2
  extract_lets -merge -useContext -underBinder +onlyGivenNames x3
  refine Frame.via x3 ?_ fun h3 => ?_
  · unfold x3
    refine Frame.ite (fun _ => ?_) (fun _ => ?_)
    · refine Frame.then ?_ unbindLanes_frame rfl rfl
      refine Frame.then ?_ stopStreams_frame rfl rfl
      exact h2
    · exact h2
  try clear_value x3
  extract_lets -merge -useContext -underBinder +onlyGivenNames x4
  refine Frame.via x4 ?_ fun h4 => ?_
  · unfold x4
    refine Frame.then ?_ leaveDormant_frame rfl rfl
    exact h3
  try clear_value x4
  extract_lets -merge -useContext -underBinder +onlyGivenNames x5
  refine Frame.via x5 ?_ fun h5 => ?_
  · unfold x5
    refine Frame.ite (fun _ => ?_) (fun _ => ?_)
    · refine Frame.ite (fun _ => ?_) (fun _ => ?_)
      · exact h4
      · refine Frame.then ?_ resumeJobs_frame rfl rfl
        refine Frame.put ?_ (inRows_of (r := .MEM_STATUS) rfl (by exact rfl))
        exact h4
    · exact h3
  try clear_value x5
  extract_lets -merge -useContext -underBinder +onlyGivenNames x6
  refine Frame.via x6 ?_ fun h6 => ?_
  · unfold x6
    refine Frame.ite (fun _ => ?_) (fun _ => ?_)
    · refine Frame.then ?_ abortLoad_frame rfl rfl
      exact h5
    · exact h5
  try clear_value x6
  extract_lets -merge -useContext -underBinder +onlyGivenNames x7
  refine Frame.via x7 ?_ fun h7 => ?_
  · unfold x7
    refine Frame.ite (fun _ => ?_) (fun _ => ?_)
    · refine Frame.then ?_ dropHeldTones_frame rfl rfl
      exact h6
    · exact h6
  try clear_value x7
  extract_lets -merge -useContext -underBinder +onlyGivenNames v8 v9 x10
  refine Frame.via x10 ?_ fun h10 => ?_
  · unfold x10
    refine Frame.later ?_ rfl (fun _ => trivial)
    exact h7
  try clear_value x10
  refine Frame.glb ?_ rfl (fun _ => trivial)
  exact h10

theorem arrive_frame {a0 : Nat} {a1 : Nat} : Frame none [.bob, .csc, .dram, .dsc, .events, .fab, .free, .glb, .jobs, .later, .mem, .pwr, .rdo, .rv, .sec, .spn, .sram, .sup, .syn, .tln] s (arrive a0 a1 s) := by
  unfold arrive
  first | split | (clear_value *; split)
  · refine Frame.then ?_ setAllPorts_frame rfl rfl
    refine Frame.then ?_ enterM0_frame rfl rfl
    exact Frame.refl
  · refine Frame.then ?_ setAllPorts_frame rfl rfl
    refine Frame.then ?_ enterM1_frame rfl rfl
    exact Frame.refl
  · refine Frame.then ?_ setAllPorts_frame rfl rfl
    refine Frame.then ?_ enterM2_frame rfl rfl
    exact Frame.refl
  · refine Frame.then ?_ setAllPorts_frame rfl rfl
    refine Frame.then ?_ enterM3_frame rfl rfl
    exact Frame.refl
  · refine Frame.then ?_ setAllPorts_frame rfl rfl
    refine Frame.then ?_ enterM4_frame rfl rfl
    exact Frame.refl
  · refine Frame.ite (fun _ => ?_) (fun _ => ?_)
    · refine Frame.then ?_ runStart_frame rfl rfl
      exact Frame.refl
    · exact Frame.refl
  · refine Frame.then ?_ enterM6_frame rfl rfl
    exact Frame.refl
  · exact Frame.refl

theorem enterMode_frame {a0 : Nat} : Frame none [.bob, .csc, .dram, .dsc, .events, .fab, .free, .glb, .jobs, .later, .mem, .pwr, .rdo, .rv, .sec, .spn, .sram, .sup, .syn, .tap, .tln] s (enterMode a0 s) := by
  unfold enterMode
  extract_lets -merge -useContext -underBinder +onlyGivenNames v1 v2 x3
  refine Frame.via x3 ?_ fun h3 => ?_
  · unfold x3
    refine Frame.then ?_ leaveMode_frame rfl rfl
    exact Frame.refl
  try clear_value x3
  extract_lets -merge -useContext -underBinder +onlyGivenNames x4
  refine Frame.via x4 ?_ fun h4 => ?_
  · unfold x4
    refine Frame.put ?_ (inRows_of (r := .GLB_MODE_STATUS) rfl (by exact rfl))
    refine Frame.put ?_ (inRows_of (r := .GLB_MODE_STATUS) rfl (by exact rfl))
    refine Frame.put ?_ (inRows_of (r := .GLB_MODE_STATUS) rfl (by exact rfl))
    exact h3
  try clear_value x4
  extract_lets -merge -useContext -underBinder +onlyGivenNames x5
  refine Frame.via x5 ?_ fun h5 => ?_
  · unfold x5
    refine Frame.raise ?_ (inRows_of (r := .HIF_EVENT) rfl (by exact rfl)) rfl
    refine Frame.raise ?_ (inRows_of (r := .GLB_MODE_STATUS) rfl (by exact rfl)) rfl
    exact h4
  try clear_value x5
  extract_lets -merge -useContext -underBinder +onlyGivenNames x6
  refine Frame.via x6 ?_ fun h6 => ?_
  · unfold x6
    refine Frame.wr64 ?_ (inRows_of (r := .GLB_MODE_REEL_LO) rfl (by exact rfl)) (inRows_of (r := .GLB_MODE_REEL_HI) rfl (by show Reg.GLB_MODE_REEL_LO + 4 = Reg.GLB_MODE_REEL_HI; decide))
    exact h5
  try clear_value x6
  extract_lets -merge -useContext -underBinder +onlyGivenNames x7
  refine Frame.via x7 ?_ fun h7 => ?_
  · unfold x7
    refine Frame.then ?_ arrive_frame rfl rfl
    refine Frame.ite (fun _ => ?_) (fun _ => ?_)
    · exact h6
    · refine Frame.then ?_ endExtest_frame rfl rfl
      exact h6
  try clear_value x7
  refine Frame.ite (fun _ => ?_) (fun _ => ?_)
  · refine Frame.then ?_ switchThresholds_frame rfl rfl
    exact h7
  · refine Frame.ite (fun _ => ?_) (fun _ => ?_)
    · refine Frame.then ?_ rejudge_frame rfl rfl
      exact h7
    · exact h7

theorem beginClearing_frame  : Frame (some []) [.glb] s (beginClearing s) := by
  unfold beginClearing
  refine Frame.glb ?_ rfl (fun _ => trivial)
  exact Frame.refl

theorem goTo_frame {a0 : Nat} : Frame none [.bob, .csc, .dram, .dsc, .events, .fab, .free, .glb, .jobs, .later, .mem, .pwr, .rdo, .rv, .sec, .spn, .sram, .sup, .syn, .tap, .tln] s (goTo a0 s) := by
  unfold goTo
  refine Frame.ite (fun _ => ?_) (fun _ => ?_)
  · refine Frame.then ?_ beginClearing_frame rfl rfl
    exact Frame.refl
  · refine Frame.then ?_ enterMode_frame rfl rfl
    exact Frame.refl

theorem finishRequest_frame {a0 : Nat} : Frame (some [.GLB_MODE_STATUS]) [] s (finishRequest a0 s) := by
  unfold finishRequest
  refine Frame.ite (fun _ => ?_) (fun _ => ?_)
  · refine Frame.put ?_ (inRows_of (r := .GLB_MODE_STATUS) rfl (by exact rfl))
    exact Frame.refl
  · exact Frame.refl

end Sys2Proof.Machine
end

