-- ==== Sys2Proof/Laws/Frame/SecOps.lean ====
section
/-! SUPPORT. Laws/Frame/SecOps.lean: what each operation of Machine/SecOps.lean can change, and that it keeps a sound state sound. -/

set_option Elab.async false

namespace Sys2Proof.Machine

variable {R : Option (List RegRow)} {P : List Part} {s t : State}

theorem showFuses_frame  : Frame (some [.SEC_FUSE, .SEC_STATUS]) [] s (showFuses s) := by
  unfold showFuses
  extract_lets -merge -useContext -underBinder +onlyGivenNames x1
  refine Frame.via x1 ?_ fun h1 => ?_
  · unfold x1
    refine Frame.then ?_ showLcs_frame rfl rfl
    refine Frame.put ?_ (inRows_of (r := .SEC_STATUS) rfl (by exact rfl))
    exact Frame.refl
  try clear_value x1
  extract_lets -merge -useContext -underBinder +onlyGivenNames x2
  refine Frame.via x2 ?_ fun h2 => ?_
  · unfold x2
    refine Frame.put ?_ (inRows_of (r := .SEC_FUSE) rfl (by exact rfl))
    exact h1
  try clear_value x2
  extract_lets -merge -useContext -underBinder +onlyGivenNames x3
  refine Frame.via x3 ?_ fun h3 => ?_
  · unfold x3
    refine Frame.put ?_ (inRows_of (r := .SEC_FUSE) rfl (by exact rfl))
    exact h2
  try clear_value x3
  refine Frame.put ?_ (inRows_of (r := .SEC_FUSE) rfl (by exact rfl))
  exact h3

theorem fuseSlots_frame {a0 : List (List Byte)} : Frame (some []) [.sec] s (fuseSlots a0 s) := by
  unfold fuseSlots
  refine Frame.sec ?_ rfl (fun _ => trivial)
  exact Frame.refl

theorem secResult_frame {a0 : Nat} {a1 : Nat} : Frame (some [.SEC_CMD_STATUS]) [] s (secResult a0 a1 s) := by
  unfold secResult
  refine Frame.put ?_ (inRows_of (r := .SEC_CMD_STATUS) rfl (by exact rfl))
  refine Frame.put ?_ (inRows_of (r := .SEC_CMD_STATUS) rfl (by exact rfl))
  refine Frame.put ?_ (inRows_of (r := .SEC_CMD_STATUS) rfl (by exact rfl))
  exact Frame.refl

theorem secBusy_frame {a0 : Nat} : Frame (some [.SEC_CMD_STATUS]) [] s (secBusy a0 s) := by
  unfold secBusy
  refine Frame.put ?_ (inRows_of (r := .SEC_CMD_STATUS) rfl (by exact rfl))
  refine Frame.then ?_ secResult_frame rfl rfl
  exact Frame.refl

theorem provisionStart_frame {a0 : Nat} : Frame (some [.SEC_CMD_STATUS]) [.sec] s (provisionStart a0 s) := by
  unfold provisionStart
  extract_lets -merge -useContext -underBinder +onlyGivenNames v1 v2 v3
  refine Frame.ite (fun _ => ?_) (fun _ => ?_)
  · refine Frame.then ?_ secBusy_frame rfl rfl
    refine Frame.sec ?_ rfl (fun _ => trivial)
    exact Frame.refl
  · refine Frame.then ?_ secResult_frame rfl rfl
    exact Frame.refl

theorem freshBytes_frame {a0 : Nat} : Frame (some []) [.free] s (freshBytes a0 s).2 := by
  induction a0 generalizing s with
  | zero => exact Frame.refl
  | succ n ih =>
    have h1 : Frame (some []) [.free] s (s.fresh 8).2 := Frame.refl.fresh rfl
    exact h1.trans ih

theorem provisionDone_frame  : Frame (some [.SEC_CMD_STATUS, .SEC_EVENT, .SEC_FUSE, .SEC_STATUS, .SPN_STATUS, .SYN_MRK_LEVEL, .SYN_TRG_LEVEL]) [.events, .free, .sec, .spn, .sup, .syn, .tap] s (provisionDone s) := by
  unfold provisionDone
  first | split | (clear_value *; split)
  · exact Frame.refl
  · first | split | (clear_value *; split)
    · rename_i x1 e1
      refine Frame.via x1 (Frame.ofSnd e1 ?_) fun h1 => ?_
      · refine Frame.then ?_ freshBytes_frame rfl rfl
        exact Frame.refl
      extract_lets -merge -useContext -underBinder +onlyGivenNames x2
      refine Frame.via x2 ?_ fun h2 => ?_
      · unfold x2
        refine Frame.then ?_ fuseSlots_frame rfl rfl
        exact h1
      try clear_value x2
      extract_lets -merge -useContext -underBinder +onlyGivenNames w3 x4
      refine Frame.via x4 ?_ fun h4 => ?_
      · unfold x4
        refine Frame.sec ?_ rfl (fun _ => trivial)
        exact h2
      try clear_value x4
      refine Frame.then ?_ secResult_frame rfl rfl
      refine Frame.then ?_ endExtest_frame rfl rfl
      refine Frame.then ?_ showFuses_frame rfl rfl
      refine Frame.then ?_ setLevel_frame rfl rfl
      exact h4

theorem kekTaken_frame  : Frame (some [.SEC_CMD_STATUS]) [.sec] s (kekTaken s) := by
  unfold kekTaken
  refine Frame.then ?_ secResult_frame rfl rfl
  refine Frame.sec ?_ rfl (fun _ => trivial)
  exact Frame.refl

theorem drawChallenge_frame  : Frame (some [.SEC_CHAL, .SEC_CMD_STATUS]) [.free, .sec] s (drawChallenge s) := by
  unfold drawChallenge
  first | split | (clear_value *; split)
  · rename_i x1 e1
    refine Frame.via x1 (Frame.ofSnd e1 ?_) fun h1 => ?_
    · refine Frame.then ?_ freshBytes_frame rfl rfl
      exact Frame.refl
    extract_lets -merge -useContext -underBinder +onlyGivenNames x2
    refine Frame.via x2 ?_ fun h2 => ?_
    · unfold x2
      refine Frame.forN _ ?_ fun i x hx => ?_
      · exact h1
      · refine Frame.wr ?_ (inRows_of (r := .SEC_CHAL) rfl (by exact ⟨_, rfl⟩))
        exact hx
    try clear_value x2
    refine Frame.then ?_ secResult_frame rfl rfl
    refine Frame.sec ?_ rfl (fun _ => trivial)
    exact h2

theorem submitFails_frame {a0 : Nat} {a1 : Nat} : Frame (some [.SEC_CMD_STATUS, .SEC_EVENT]) [.events, .sec, .sup] s (submitFails a0 a1 s) := by
  unfold submitFails
  extract_lets -merge -useContext -underBinder +onlyGivenNames x1
  refine Frame.via x1 ?_ fun h1 => ?_
  · unfold x1
    refine Frame.raise ?_ (inRows_of (r := .SEC_EVENT) rfl (by exact rfl)) rfl
    refine Frame.count ?_ (inRows_of (r := .SEC_CMD_STATUS) rfl (by exact rfl))
    exact Frame.refl
  try clear_value x1
  extract_lets -merge -useContext -underBinder +onlyGivenNames x2
  refine Frame.via x2 ?_ fun h2 => ?_
  · unfold x2
    refine Frame.then ?_ secResult_frame rfl rfl
    exact h1
  try clear_value x2
  refine Frame.ite (fun _ => ?_) (fun _ => ?_)
  · extract_lets -merge -useContext -underBinder +onlyGivenNames x3
    refine Frame.via x3 ?_ fun h3 => ?_
    · unfold x3
      refine Frame.raise ?_ (inRows_of (r := .SEC_EVENT) rfl (by exact rfl)) rfl
      exact h2
    try clear_value x3
    refine Frame.sec ?_ rfl (fun _ => trivial)
    exact h3
  · exact h2

theorem submit_frame  : Frame (some [.SEC_CMD_STATUS, .SEC_EVENT]) [.events, .free, .sec, .sup] s (submit s) := by
  unfold submit
  extract_lets -merge -useContext -underBinder +onlyGivenNames v1 v2 v3 v4 w5 x6
  refine Frame.via x6 ?_ fun h6 => ?_
  · unfold x6
    refine Frame.sec ?_ rfl (fun _ => trivial)
    exact Frame.refl
  try clear_value x6
  refine Frame.ite (fun _ => ?_) (fun _ => ?_)
  · refine Frame.then ?_ secResult_frame rfl rfl
    refine Frame.raise ?_ (inRows_of (r := .SEC_EVENT) rfl (by exact rfl)) rfl
    exact h6
  · first | split | (clear_value *; split)
    · extract_lets -merge -useContext -underBinder +onlyGivenNames x7
      refine Frame.via x7 ?_ fun h7 => ?_
      · unfold x7
        refine Frame.raise ?_ (inRows_of (r := .SEC_EVENT) rfl (by exact rfl)) rfl
        refine Frame.put ?_ (inRows_of (r := .SEC_CMD_STATUS) rfl (by exact rfl))
        exact h6
      try clear_value x7
      refine Frame.ite (fun _ => ?_) (fun _ => ?_)
      · refine Frame.then ?_ secBusy_frame rfl rfl
        refine Frame.sec ?_ rfl (fun _ => trivial)
        exact h7
      · refine Frame.then ?_ secResult_frame rfl rfl
        exact h7
    · refine Frame.then ?_ submitFails_frame rfl rfl
      exact h6
    · first | split | (clear_value *; split)
      · rename_i x8 e8
        refine Frame.via x8 (Frame.ofSnd e8 ?_) fun h8 => ?_
        · refine Frame.fresh ?_ rfl
          exact h6
        refine Frame.then ?_ submitFails_frame rfl rfl
        exact h8

theorem authUnlock_frame {a0 : Nat} : Frame (some [.SEC_CMD_STATUS, .SEC_EVENT, .SEC_STATUS, .SPN_STATUS, .SYN_MRK_LEVEL, .SYN_TRG_LEVEL]) [.events, .spn, .sup, .syn] s (authUnlock a0 s) := by
  unfold authUnlock
  refine Frame.ite (fun _ => ?_) (fun _ => ?_)
  · refine Frame.then ?_ secResult_frame rfl rfl
    exact Frame.refl
  · refine Frame.ite (fun _ => ?_) (fun _ => ?_)
    · refine Frame.then ?_ secResult_frame rfl rfl
      exact Frame.refl
    · extract_lets -merge -useContext -underBinder +onlyGivenNames v1
      refine Frame.then ?_ secResult_frame rfl rfl
      refine Frame.then ?_ setLevel_frame rfl rfl
      exact Frame.refl

theorem authRetire_frame  : Frame (some [.SEC_CMD_STATUS, .SEC_EVENT, .SEC_FUSE, .SEC_STATUS, .SPN_STATUS, .SYN_MRK_LEVEL, .SYN_TRG_LEVEL]) [.events, .sec, .spn, .sup, .syn] s (authRetire s) := by
  unfold authRetire
  refine Frame.ite (fun _ => ?_) (fun _ => ?_)
  · extract_lets -merge -useContext -underBinder +onlyGivenNames w1 x2
    refine Frame.via x2 ?_ fun h2 => ?_
    · unfold x2
      refine Frame.sec ?_ rfl (fun _ => trivial)
      exact Frame.refl
    try clear_value x2
    refine Frame.then ?_ secResult_frame rfl rfl
    refine Frame.then ?_ showFuses_frame rfl rfl
    refine Frame.then ?_ setLevel_frame rfl rfl
    exact h2
  · refine Frame.then ?_ secResult_frame rfl rfl
    exact Frame.refl

theorem authRevoke_frame {a0 : Nat} : Frame (some [.SEC_CMD_STATUS, .SEC_FUSE, .SEC_STATUS]) [.sec] s (authRevoke a0 s) := by
  unfold authRevoke
  extract_lets -merge -useContext -underBinder +onlyGivenNames v1
  refine Frame.ite (fun _ => ?_) (fun _ => ?_)
  · extract_lets -merge -useContext -underBinder +onlyGivenNames v2
    refine Frame.then ?_ secResult_frame rfl rfl
    refine Frame.then ?_ showFuses_frame rfl rfl
    refine Frame.sec ?_ rfl (fun _ => trivial)
    exact Frame.refl
  · refine Frame.then ?_ secResult_frame rfl rfl
    exact Frame.refl

theorem authAdvance_frame {a0 : Nat} : Frame (some [.SEC_CMD_STATUS, .SEC_FUSE, .SEC_STATUS]) [.sec] s (authAdvance a0 s) := by
  unfold authAdvance
  refine Frame.ite (fun _ => ?_) (fun _ => ?_)
  · refine Frame.then ?_ secResult_frame rfl rfl
    refine Frame.then ?_ showFuses_frame rfl rfl
    refine Frame.sec ?_ rfl (fun _ => trivial)
    exact Frame.refl
  · refine Frame.then ?_ secResult_frame rfl rfl
    exact Frame.refl

theorem authActs_frame {a0 : Nat} {a1 : Nat → State → State} (h : Frame R P s t) (hR : rowsLe (some []) R = true) (hP : partsLe [.sec] P = true) (ha1 : ∀ i0 x, Frame R P s x → Frame R P s (a1 i0 x)) : Frame R P s (authActs a0 a1 t) := by
  unfold authActs
  first | split | (clear_value *; split)
  · refine Frame.ite (fun _ => ?_) (fun _ => ?_)
    · refine ha1 _ _ ?_
      refine Frame.sec ?_ (partsLe_trans rfl hP) (fun _ => trivial)
      exact h
    · exact h
  · exact h

theorem relock_frame  : Frame (some [.SEC_CMD_STATUS, .SEC_EVENT, .SEC_STATUS, .SPN_STATUS, .SYN_MRK_LEVEL, .SYN_TRG_LEVEL]) [.events, .spn, .sup, .syn] s (relock s) := by
  unfold relock
  refine Frame.then ?_ secResult_frame rfl rfl
  refine Frame.then ?_ setLevel_frame rfl rfl
  exact Frame.refl

theorem snapWord_frame {a0 : Nat} {a1 : Nat} {a2 : Word} : Frame (some [.SEC_SNAP]) [] s (snapWord a0 a1 a2 s) := by
  unfold snapWord
  refine Frame.wr ?_ (inRows_of (r := .SEC_SNAP) rfl (by exact ⟨_, _, rfl⟩))
  exact Frame.refl

theorem snapSpindle_frame {a0 : Nat} : Frame (some [.SEC_SNAP]) [] s (snapSpindle a0 s) := by
  unfold snapSpindle
  extract_lets -merge -useContext -underBinder +onlyGivenNames x1
  refine Frame.via x1 ?_ fun h1 => ?_
  · unfold x1
    refine Frame.then ?_ snapWord_frame rfl rfl
    exact Frame.refl
  try clear_value x1
  extract_lets -merge -useContext -underBinder +onlyGivenNames x2
  refine Frame.via x2 ?_ fun h2 => ?_
  · unfold x2
    refine Frame.then ?_ snapWord_frame rfl rfl
    refine Frame.then ?_ snapWord_frame rfl rfl
    exact h1
  try clear_value x2
  extract_lets -merge -useContext -underBinder +onlyGivenNames x3
  refine Frame.via x3 ?_ fun h3 => ?_
  · unfold x3
    refine Frame.then ?_ snapWord_frame rfl rfl
    refine Frame.then ?_ snapWord_frame rfl rfl
    exact h2
  try clear_value x3
  extract_lets -merge -useContext -underBinder +onlyGivenNames x4
  refine Frame.via x4 ?_ fun h4 => ?_
  · unfold x4
    refine Frame.forN _ ?_ fun i x hx => ?_
    · exact h3
    · refine Frame.then ?_ snapWord_frame rfl rfl
      exact hx
  try clear_value x4
  refine Frame.forN _ ?_ fun i x hx => ?_
  · exact h4
  · refine Frame.then ?_ snapWord_frame rfl rfl
    exact hx

theorem takeSnap_frame  : Frame (some [.SEC_CMD_STATUS, .SEC_SNAP, .SEC_SNAP_REEL_HI, .SEC_SNAP_REEL_LO]) [] s (takeSnap s) := by
  unfold takeSnap
  refine Frame.ite (fun _ => ?_) (fun _ => ?_)
  · refine Frame.then ?_ secResult_frame rfl rfl
    refine Frame.forN _ ?_ fun i x hx => ?_
    · refine Frame.wr64 ?_ (inRows_of (r := .SEC_SNAP_REEL_LO) rfl (by exact rfl)) (inRows_of (r := .SEC_SNAP_REEL_HI) rfl (by show Reg.SEC_SNAP_REEL_LO + 4 = Reg.SEC_SNAP_REEL_HI; decide))
      exact Frame.refl
    · refine Frame.then ?_ snapSpindle_frame rfl rfl
      exact hx
  · refine Frame.then ?_ secResult_frame rfl rfl
    exact Frame.refl

theorem secCommand_frame {a0 : Nat} {a1 : Nat} : Frame (some [.SEC_CHAL, .SEC_CMD_STATUS, .SEC_EVENT, .SEC_SNAP, .SEC_SNAP_REEL_HI, .SEC_SNAP_REEL_LO, .SEC_STATUS, .SPN_STATUS, .SYN_MRK_LEVEL, .SYN_TRG_LEVEL]) [.events, .free, .sec, .spn, .sup, .syn] s (secCommand a0 a1 s) := by
  unfold secCommand
  refine Frame.ite (fun _ => ?_) (fun _ => ?_)
  · exact Frame.refl
  · first | split | (clear_value *; split)
    · refine Frame.then ?_ provisionStart_frame rfl rfl
      exact Frame.refl
    · refine Frame.then ?_ kekTaken_frame rfl rfl
      exact Frame.refl
    · refine Frame.then ?_ drawChallenge_frame rfl rfl
      exact Frame.refl
    · refine Frame.then ?_ submit_frame rfl rfl
      exact Frame.refl
    · refine Frame.then ?_ relock_frame rfl rfl
      exact Frame.refl
    · refine Frame.then ?_ takeSnap_frame rfl rfl
      exact Frame.refl
    · exact Frame.refl

theorem secCmdWrite_frame {a0 : Path} {a1 : Word} : Frame (some [.HIF_EVENT, .HIF_WR_REF, .HIF_WR_REF_ADDR_HI, .HIF_WR_REF_ADDR_LO, .SEC_CHAL, .SEC_CMD_STATUS, .SEC_EVENT, .SEC_SNAP, .SEC_SNAP_REEL_HI, .SEC_SNAP_REEL_LO, .SEC_STATUS, .SPN_STATUS, .SYN_MRK_LEVEL, .SYN_TRG_LEVEL]) [.events, .free, .resp, .sec, .spn, .sup, .syn] s (secCmdWrite a0 a1 s) := by
  unfold secCmdWrite
  refine gated_frame ?_ rfl rfl (fun x hx => ?_)
  · exact Frame.refl
  · refine Frame.then ?_ secCommand_frame rfl rfl
    exact hx

theorem loadGo_frame  : Frame (some [.SEC_LOAD_STATUS]) [.later, .sec] s (loadGo s) := by
  unfold loadGo
  refine Frame.ite (fun _ => ?_) (fun _ => ?_)
  · extract_lets -merge -useContext -underBinder +onlyGivenNames v1 x2
    refine Frame.via x2 ?_ fun h2 => ?_
    · unfold x2
      refine Frame.wr ?_ (inRows_of (r := .SEC_LOAD_STATUS) rfl (by exact rfl))
      exact Frame.refl
    try clear_value x2
    extract_lets -merge -useContext -underBinder +onlyGivenNames w3 x4
    refine Frame.via x4 ?_ fun h4 => ?_
    · unfold x4
      refine Frame.upd (t := x2) [.sec, .later] ?_ rfl rfl (fun p hn => by cases p <;> first | rfl | exact ⟨rfl, rfl⟩ | exact ⟨rfl, rfl, rfl⟩ | exact absurd hn (by decide)) (fun p hm => by
          simp only [List.mem_cons, List.not_mem_nil, or_false] at hm
          rcases hm with rfl | rfl
          · exact fun _ => trivial
          · exact fun _ => trivial)
      exact h2
    try clear_value x4
    refine Frame.ite (fun _ => ?_) (fun _ => ?_)
    · refine Frame.then ?_ guardImage_frame rfl rfl
      exact h4
    · exact h4
  · exact Frame.refl

theorem loadCtlWrite_frame {a0 : Path} {a1 : Word} : Frame (some [.HIF_EVENT, .HIF_WR_REF, .HIF_WR_REF_ADDR_HI, .HIF_WR_REF_ADDR_LO, .SEC_LOAD_STATUS]) [.events, .later, .resp, .sec, .sup] s (loadCtlWrite a0 a1 s) := by
  unfold loadCtlWrite
  refine gated_frame ?_ rfl rfl (fun x hx => ?_)
  · exact Frame.refl
  · refine Frame.ite (fun _ => ?_) (fun _ => ?_)
    · refine Frame.then ?_ loadGo_frame rfl rfl
      exact hx
    · exact hx

end Sys2Proof.Machine
end

