-- ==== Sys2Proof/Laws/Frame/Refill.lean ====
section
/-! SUPPORT. Laws/Frame/Refill.lean: what each operation of Machine/Refill.lean can change, and that it keeps a sound state sound. -/

set_option Elab.async false

namespace Sys2Proof.Machine

variable {R : Option (List RegRow)} {P : List Part} {s t : State}

theorem askRefill_frame {a0 : Nat} {a1 : Bool} {a2 : Nat} {a3 : Nat} {a4 : Nat} : Frame (some []) [.mem] s (askRefill a0 a1 a2 a3 a4 s) := by
  unfold askRefill
  extract_lets -merge -useContext -underBinder +onlyGivenNames v1
  refine Frame.then ?_ askDram_frame rfl rfl
  exact Frame.refl

theorem queueIssues_frame {a0 : Nat} : Frame (some []) [.hif] s (queueIssues a0 s) := by
  unfold queueIssues
  refine Frame.hif ?_ rfl (fun h => ⟨(by first | exact h.1 | exact sparseWf_sset h.1 | exact sparseWf_nil | exact sparseWf_filter h.1 | exact sparseWf_smap h.1 | exact sparseWf_sdrop h.1 | exact sparseWf_sset (sparseWf_sset h.1) | exact sparseWf_fold sparseWf_nil | (dsimp only; exact sparseWf_smap h.1)), (by first | exact h.2.1 | exact sparseWf_sset h.2.1 | exact sparseWf_nil | exact sparseWf_filter h.2.1 | exact sparseWf_smap h.2.1 | exact sparseWf_sdrop h.2.1 | exact sparseWf_sset (sparseWf_sset h.2.1) | exact sparseWf_fold sparseWf_nil | (dsimp only; exact sparseWf_smap h.2.1)), (by first | exact h.2.2.1 | exact sparseWf_sset h.2.2.1 | exact sparseWf_nil | exact sparseWf_filter h.2.2.1 | exact sparseWf_smap h.2.2.1 | exact sparseWf_sdrop h.2.2.1 | exact sparseWf_sset (sparseWf_sset h.2.2.1) | exact sparseWf_fold sparseWf_nil | (dsimp only; exact sparseWf_smap h.2.2.1)), (by first | exact h.2.2.2 | exact sparseWf_sset h.2.2.2 | exact sparseWf_nil | exact sparseWf_filter h.2.2.2 | exact sparseWf_smap h.2.2.2 | exact sparseWf_sdrop h.2.2.2 | exact sparseWf_sset (sparseWf_sset h.2.2.2) | exact sparseWf_fold sparseWf_nil | (dsimp only; exact sparseWf_smap h.2.2.2))⟩)
  exact Frame.refl

theorem hostReads_frame {a0 : List (Nat × Nat)} : Frame (some []) [.resp] s (hostReads a0 s) := by
  unfold hostReads
  refine Frame.resp ?_ rfl (fun _ => trivial)
  exact Frame.refl

theorem laneTakes_frame {a0 : Nat} {a1 : Bool} : Frame (some [.DRF_LANE_STATUS]) [.mem] s (laneTakes a0 a1 s) := by
  unfold laneTakes
  extract_lets -merge -useContext -underBinder +onlyGivenNames v1 v2 w3 x4
  refine Frame.via x4 ?_ fun h4 => ?_
  · unfold x4
    refine Frame.mem ?_ rfl (fun h => ⟨(by first | exact h.1 | exact sparseWf_sset h.1 | exact sparseWf_nil | exact sparseWf_filter h.1 | exact sparseWf_smap h.1 | exact sparseWf_sdrop h.1 | exact sparseWf_sset (sparseWf_sset h.1) | exact sparseWf_fold sparseWf_nil | (dsimp only; exact sparseWf_smap h.1)), (by first | exact h.2.1 | exact sparseWf_sset h.2.1 | exact sparseWf_nil | exact sparseWf_filter h.2.1 | exact sparseWf_smap h.2.1 | exact sparseWf_sdrop h.2.1 | exact sparseWf_sset (sparseWf_sset h.2.1) | exact sparseWf_fold sparseWf_nil | (dsimp only; exact sparseWf_smap h.2.1)), (by first | exact h.2.2.1 | exact sparseWf_sset h.2.2.1 | exact sparseWf_nil | exact sparseWf_filter h.2.2.1 | exact sparseWf_smap h.2.2.1 | exact sparseWf_sdrop h.2.2.1 | exact sparseWf_sset (sparseWf_sset h.2.2.1) | exact sparseWf_fold sparseWf_nil | (dsimp only; exact sparseWf_smap h.2.2.1)), (by first | exact h.2.2.2 | exact sparseWf_sset h.2.2.2 | exact sparseWf_nil | exact sparseWf_filter h.2.2.2 | exact sparseWf_smap h.2.2.2 | exact sparseWf_sdrop h.2.2.2 | exact sparseWf_sset (sparseWf_sset h.2.2.2) | exact sparseWf_fold sparseWf_nil | (dsimp only; exact sparseWf_smap h.2.2.2))⟩)
    exact Frame.refl
  try clear_value x4
  extract_lets -merge -useContext -underBinder +onlyGivenNames v5 x6
  refine Frame.via x6 ?_ fun h6 => ?_
  · unfold x6
    refine Frame.put ?_ (inRows_of (r := .DRF_LANE_STATUS) rfl (by exact ⟨_, rfl⟩))
    exact h4
  try clear_value x6
  refine Frame.ite (fun _ => ?_) (fun _ => ?_)
  · refine Frame.put ?_ (inRows_of (r := .DRF_LANE_STATUS) rfl (by exact ⟨_, rfl⟩))
    exact h6
  · exact h6

theorem refillRequest_frame {a0 : Nat} : Frame (some [.DRF_LANE_STATUS, .STM_RV_EVENT]) [.events, .hif, .mem, .resp, .rv, .sup] s (refillRequest a0 s) := by
  unfold refillRequest
  extract_lets -merge -useContext -underBinder +onlyGivenNames v1 v2 v3 v4
  refine Frame.ite (fun _ => ?_) (fun _ => ?_)
  · extract_lets -merge -useContext -underBinder +onlyGivenNames v5 v6 v7 x8
    refine Frame.via x8 ?_ fun h8 => ?_
    · unfold x8
      refine Frame.then ?_ State.setStream_frame rfl rfl
      exact Frame.refl
    try clear_value x8
    extract_lets -merge -useContext -underBinder +onlyGivenNames x9
    refine Frame.via x9 ?_ fun h9 => ?_
    · unfold x9
      refine Frame.raiseIf ?_ (inRows_of (r := .STM_RV_EVENT) rfl (by exact ⟨_, rfl⟩)) rfl
      exact h8
    try clear_value x9
    extract_lets -merge -useContext -underBinder +onlyGivenNames x10
    refine Frame.via x10 ?_ fun h10 => ?_
    · unfold x10
      refine Frame.ite (fun _ => ?_) (fun _ => ?_)
      · refine Frame.then ?_ queueIssues_frame rfl rfl
        refine Frame.then ?_ hostReads_frame rfl rfl
        exact h9
      · refine Frame.then ?_ askRefill_frame rfl rfl
        exact h9
    try clear_value x10
    refine Frame.ite (fun _ => ?_) (fun _ => ?_)
    · refine Frame.then ?_ laneTakes_frame rfl rfl
      exact h10
    · exact h10
  · exact Frame.refl

theorem execRefillRequest_frame {a0 : Fin 64} : ∃ t, execRefillRequest a0 s = .next t ∧ Frame (some [.DRF_LANE_STATUS, .STM_RV_EVENT]) [.events, .hif, .mem, .resp, .rv, .sup] s t := by
  refine ⟨_, rfl, ?_⟩
  refine Frame.then ?_ refillRequest_frame rfl rfl
  exact Frame.refl

theorem joinRing_frame {a0 : Nat} {a1 : List Byte} : Frame (some [.STM_RV_EVENT, .STM_RV_FILL, .STM_RV_STATUS]) [.events, .rv, .sram, .sup] s (joinRing a0 a1 s) := by
  unfold joinRing
  extract_lets -merge -useContext -underBinder +onlyGivenNames v1 x2
  refine Frame.via x2 ?_ fun h2 => ?_
  · unfold x2
    refine Frame.forAll _ ?_ fun i x hx => ?_
    · exact Frame.refl
    · refine Frame.putSram ?_ rfl
      exact hx
  try clear_value x2
  extract_lets -merge -useContext -underBinder +onlyGivenNames x3
  refine Frame.via x3 ?_ fun h3 => ?_
  · unfold x3
    refine Frame.then ?_ State.setStream_frame rfl rfl
    exact h2
  try clear_value x3
  refine Frame.then ?_ checkPrimed_frame rfl rfl
  refine Frame.put ?_ (inRows_of (r := .STM_RV_FILL) rfl (by exact ⟨_, rfl⟩))
  exact h3

theorem lanePauses_frame {a0 : Nat} : Frame (some [.DRF_LANE_STATUS]) [] s (lanePauses a0 s) := by
  unfold lanePauses
  extract_lets -merge -useContext -underBinder +onlyGivenNames v1
  refine Frame.ite (fun _ => ?_) (fun _ => ?_)
  · exact Frame.refl
  · refine Frame.then ?_ restLane_frame rfl rfl
    refine Frame.put ?_ (inRows_of (r := .DRF_LANE_STATUS) rfl (by exact ⟨_, rfl⟩))
    exact Frame.refl

theorem endRovingBlock_frame {a0 : Nat} {a1 : Nat} {a2 : List Byte} : Frame (some [.DRF_LANE_BLOCKS, .DRF_LANE_EVENT, .DRF_LANE_STATUS, .STM_RV_EVENT, .STM_RV_FILL, .STM_RV_STATUS]) [.events, .mem, .rv, .sram, .sup] s (endRovingBlock a0 a1 a2 s) := by
  unfold endRovingBlock
  extract_lets -merge -useContext -underBinder +onlyGivenNames v1 x2
  refine Frame.via x2 ?_ fun h2 => ?_
  · unfold x2
    refine Frame.ite (fun _ => ?_) (fun _ => ?_)
    · refine Frame.count ?_ (inRows_of (r := .DRF_LANE_BLOCKS) rfl (by exact ⟨_, rfl⟩))
      refine Frame.then ?_ joinRing_frame rfl rfl
      exact Frame.refl
    · refine Frame.then ?_ refillError_frame rfl rfl
      refine Frame.raise ?_ (inRows_of (r := .DRF_LANE_EVENT) rfl (by exact ⟨_, rfl⟩)) rfl
      refine Frame.put ?_ (inRows_of (r := .DRF_LANE_STATUS) rfl (by exact ⟨_, rfl⟩))
      exact Frame.refl
  try clear_value x2
  refine Frame.then ?_ lanePauses_frame rfl rfl
  exact h2

theorem refillComplete_frame {a0 : Nat} {a1 : List Byte} {a2 : Bool} : Frame (some [.DRF_LANE_BLOCKS, .DRF_LANE_EVENT, .DRF_LANE_STATUS, .MEM_DRAM_ERR, .MEM_DRAM_UE_ADDR_HI, .MEM_DRAM_UE_ADDR_LO, .MEM_EVENT, .STM_RV_EVENT, .STM_RV_FILL, .STM_RV_STATUS]) [.events, .free, .mem, .rv, .sram, .sup] s (refillComplete a0 a1 a2 s) := by
  unfold refillComplete
  extract_lets -merge -useContext -underBinder +onlyGivenNames v1
  first | split | (clear_value *; split)
  · exact Frame.refl
  · extract_lets -merge -useContext -underBinder +onlyGivenNames v2 v3 v4 v5
    refine Frame.ite (fun _ => ?_) (fun _ => ?_)
    · exact Frame.refl
    · extract_lets -merge -useContext -underBinder +onlyGivenNames x6
      refine Frame.via x6 ?_ fun h6 => ?_
      · unfold x6
        refine Frame.then ?_ State.setStream_frame rfl rfl
        exact Frame.refl
      try clear_value x6
      refine Frame.ite (fun _ => ?_) (fun _ => ?_)
      · extract_lets -merge -useContext -underBinder +onlyGivenNames w7 x8
        refine Frame.via x8 ?_ fun h8 => ?_
        · unfold x8
          refine Frame.mem ?_ rfl (by first | exact id | exact fun h => ⟨(by first | exact h.1 | exact sparseWf_sset h.1 | exact sparseWf_nil | exact sparseWf_filter h.1 | exact sparseWf_smap h.1 | exact sparseWf_sdrop h.1 | exact sparseWf_sset (sparseWf_sset h.1) | exact sparseWf_fold sparseWf_nil | (dsimp only; exact sparseWf_smap h.1)), (by first | exact h.2.1 | exact sparseWf_sset h.2.1 | exact sparseWf_nil | exact sparseWf_filter h.2.1 | exact sparseWf_smap h.2.1 | exact sparseWf_sdrop h.2.1 | exact sparseWf_sset (sparseWf_sset h.2.1) | exact sparseWf_fold sparseWf_nil | (dsimp only; exact sparseWf_smap h.2.1)), (by first | exact h.2.2.1 | exact sparseWf_sset h.2.2.1 | exact sparseWf_nil | exact sparseWf_filter h.2.2.1 | exact sparseWf_smap h.2.2.1 | exact sparseWf_sdrop h.2.2.1 | exact sparseWf_sset (sparseWf_sset h.2.2.1) | exact sparseWf_fold sparseWf_nil | (dsimp only; exact sparseWf_smap h.2.2.1)), (by first | exact h.2.2.2 | exact sparseWf_sset h.2.2.2 | exact sparseWf_nil | exact sparseWf_filter h.2.2.2 | exact sparseWf_smap h.2.2.2 | exact sparseWf_sdrop h.2.2.2 | exact sparseWf_sset (sparseWf_sset h.2.2.2) | exact sparseWf_fold sparseWf_nil | (dsimp only; exact sparseWf_smap h.2.2.2))⟩)
          exact h6
        try clear_value x8
        first | split | (clear_value *; split)
        · rename_i x9 e9
          refine Frame.via x9 (Frame.ofSnd e9 ?_) fun h9 => ?_
          · split
            · refine Frame.then ?_ readBlock_frame rfl rfl
              exact h8
            · split
              · exact h8
              · exact h8
          refine Frame.then ?_ endRovingBlock_frame rfl rfl
          exact h9
      · refine Frame.ite (fun _ => ?_) (fun _ => ?_)
        · first | split | (clear_value *; split)
          · rename_i x10 e10
            refine Frame.via x10 (Frame.ofSnd e10 ?_) fun h10 => ?_
            · refine Frame.then ?_ dramFinds_frame rfl rfl
              exact h6
            refine Frame.ite (fun _ => ?_) (fun _ => ?_)
            · refine Frame.then ?_ refillError_frame rfl rfl
              exact h10
            · refine Frame.then ?_ joinRing_frame rfl rfl
              exact h10
        · refine Frame.ite (fun _ => ?_) (fun _ => ?_)
          · refine Frame.then ?_ refillError_frame rfl rfl
            exact h6
          · refine Frame.then ?_ joinRing_frame rfl rfl
            exact h6

theorem execRefillComplete_frame {a0 : Fin 64} {a1 : List Byte} {a2 : Bool} : ∃ t, execRefillComplete a0 a1 a2 s = .next t ∧ Frame (some [.DRF_LANE_BLOCKS, .DRF_LANE_EVENT, .DRF_LANE_STATUS, .MEM_DRAM_ERR, .MEM_DRAM_UE_ADDR_HI, .MEM_DRAM_UE_ADDR_LO, .MEM_EVENT, .STM_RV_EVENT, .STM_RV_FILL, .STM_RV_STATUS]) [.events, .free, .mem, .rv, .sram, .sup] s t := by
  refine ⟨_, rfl, ?_⟩
  refine Frame.then ?_ refillComplete_frame rfl rfl
  exact Frame.refl

end Sys2Proof.Machine
end

