-- ==== Sys2Proof/Laws/Frame/HostIf.lean ====
section
/-! SUPPORT. Laws/Frame/HostIf.lean: what each operation of Machine/HostIf.lean can change, and that it keeps a sound state sound. -/

set_option Elab.async false

namespace Sys2Proof.Machine

variable {R : Option (List RegRow)} {P : List Part} {s t : State}

theorem execLinkChg_frame {a0 : Bool} {a1 : BitVec 3} {a2 : BitVec 5} {a3 : Bool} : ∃ t, execLinkChg a0 a1 a2 a3 s = .next t ∧ Frame (some [.HIF_EVENT, .HIF_LINK_STATUS]) [.events, .sup] s t := by
  refine ⟨_, rfl, ?_⟩
  extract_lets -merge -useContext -underBinder +onlyGivenNames v1 x2
  refine Frame.via x2 ?_ fun h2 => ?_
  · unfold x2
    refine Frame.put ?_ (inRows_of (r := .HIF_LINK_STATUS) rfl (by exact rfl))
    refine Frame.put ?_ (inRows_of (r := .HIF_LINK_STATUS) rfl (by exact rfl))
    exact Frame.refl
  try clear_value x2
  extract_lets -merge -useContext -underBinder +onlyGivenNames x3
  refine Frame.via x3 ?_ fun h3 => ?_
  · unfold x3
    refine Frame.put ?_ (inRows_of (r := .HIF_LINK_STATUS) rfl (by exact rfl))
    refine Frame.put ?_ (inRows_of (r := .HIF_LINK_STATUS) rfl (by exact rfl))
    exact h2
  try clear_value x3
  refine Frame.raiseIf ?_ (inRows_of (r := .HIF_EVENT) rfl (by exact rfl)) rfl
  exact h3

theorem dropHostReads_frame  : Frame (some []) [.rv] s (dropHostReads s) := by
  unfold dropHostReads
  refine Frame.forN _ ?_ fun i x hx => ?_
  · exact Frame.refl
  · extract_lets -merge -useContext -underBinder +onlyGivenNames v1
    refine Frame.ite (fun _ => ?_) (fun _ => ?_)
    · refine Frame.then ?_ State.setStream_frame rfl rfl
      exact hx
    · exact hx

theorem dropDma_frame  : Frame (some []) [.mem] s (dropDma s) := by
  unfold dropDma
  refine Frame.mem ?_ rfl (fun h => ⟨(by first | exact h.1 | exact sparseWf_sset h.1 | exact sparseWf_nil | exact sparseWf_filter h.1 | exact sparseWf_smap h.1 | exact sparseWf_sdrop h.1 | exact sparseWf_sset (sparseWf_sset h.1) | exact sparseWf_fold sparseWf_nil | (dsimp only; exact sparseWf_smap h.1)), (by first | exact h.2.1 | exact sparseWf_sset h.2.1 | exact sparseWf_nil | exact sparseWf_filter h.2.1 | exact sparseWf_smap h.2.1 | exact sparseWf_sdrop h.2.1 | exact sparseWf_sset (sparseWf_sset h.2.1) | exact sparseWf_fold sparseWf_nil | (dsimp only; exact sparseWf_smap h.2.1)), (by first | exact h.2.2.1 | exact sparseWf_sset h.2.2.1 | exact sparseWf_nil | exact sparseWf_filter h.2.2.1 | exact sparseWf_smap h.2.2.1 | exact sparseWf_sdrop h.2.2.1 | exact sparseWf_sset (sparseWf_sset h.2.2.1) | exact sparseWf_fold sparseWf_nil | (dsimp only; exact sparseWf_smap h.2.2.1)), (by first | exact h.2.2.2 | exact sparseWf_sset h.2.2.2 | exact sparseWf_nil | exact sparseWf_filter h.2.2.2 | exact sparseWf_smap h.2.2.2 | exact sparseWf_sdrop h.2.2.2 | exact sparseWf_sset (sparseWf_sset h.2.2.2) | exact sparseWf_fold sparseWf_nil | (dsimp only; exact sparseWf_smap h.2.2.2))⟩)
  exact Frame.refl

theorem resetHif_frame  : Frame none [.hif, .mem, .rv] s (resetHif s) := by
  unfold resetHif
  refine Frame.then ?_ dropHostReads_frame rfl rfl
  refine Frame.then ?_ dropDma_frame rfl rfl
  extract_lets -merge -useContext -underBinder +onlyGivenNames x1
  refine Frame.via x1 ?_ fun h1 => ?_
  · unfold x1
    refine Frame.resetRange ?_
    exact Frame.refl
  try clear_value x1
  refine Frame.hif ?_ rfl (fun h => ⟨(by first | exact h.1 | exact sparseWf_sset h.1 | exact sparseWf_nil | exact sparseWf_filter h.1 | exact sparseWf_smap h.1 | exact sparseWf_sdrop h.1 | exact sparseWf_sset (sparseWf_sset h.1) | exact sparseWf_fold sparseWf_nil | (dsimp only; exact sparseWf_smap h.1)), (by first | exact h.2.1 | exact sparseWf_sset h.2.1 | exact sparseWf_nil | exact sparseWf_filter h.2.1 | exact sparseWf_smap h.2.1 | exact sparseWf_sdrop h.2.1 | exact sparseWf_sset (sparseWf_sset h.2.1) | exact sparseWf_fold sparseWf_nil | (dsimp only; exact sparseWf_smap h.2.1)), (by first | exact h.2.2.1 | exact sparseWf_sset h.2.2.1 | exact sparseWf_nil | exact sparseWf_filter h.2.2.1 | exact sparseWf_smap h.2.2.1 | exact sparseWf_sdrop h.2.2.1 | exact sparseWf_sset (sparseWf_sset h.2.2.1) | exact sparseWf_fold sparseWf_nil | (dsimp only; exact sparseWf_smap h.2.2.1)), (by first | exact h.2.2.2 | exact sparseWf_sset h.2.2.2 | exact sparseWf_nil | exact sparseWf_filter h.2.2.2 | exact sparseWf_smap h.2.2.2 | exact sparseWf_sdrop h.2.2.2 | exact sparseWf_sset (sparseWf_sset h.2.2.2) | exact sparseWf_fold sparseWf_nil | (dsimp only; exact sparseWf_smap h.2.2.2))⟩)
  exact h1

theorem unsupported_frame  : Frame (some [.HIF_EVENT]) [.events, .resp, .sup] s (unsupported s) := by
  unfold unsupported
  refine Frame.ite (fun _ => ?_) (fun _ => ?_)
  · refine Frame.then ?_ State.answer_frame rfl rfl
    refine Frame.raise ?_ (inRows_of (r := .HIF_EVENT) rfl (by exact rfl)) rfl
    exact Frame.refl
  · refine Frame.then ?_ State.answer_frame rfl rfl
    exact Frame.refl

theorem State.giveBytes_frame {a0 : List Byte} {a1 : Bool} : Frame (some []) [.resp] s (State.giveBytes s a0 a1) := by
  unfold State.giveBytes
  refine Frame.resp ?_ rfl (fun _ => trivial)
  exact Frame.refl

theorem sramAccess_frame {a0 : Nat} {a1 : Nat} {a2 : Nat} {a3 : MemAccess} {a4 : Bool} : Frame (some [.GLB_MODE_STATUS, .HIF_EVENT, .HIF_WR_REF, .HIF_WR_REF_ADDR_HI, .HIF_WR_REF_ADDR_LO, .MEM_EVENT, .MEM_SRAM_ERR, .MEM_SRAM_UE_ADDR, .SEC_EVENT, .SEC_STATUS, .SUP_TRIP, .SUP_TRIP_ERR, .SUP_TRIP_REEL_HI, .SUP_TRIP_REEL_LO, .SUP_TRIP_SEEN]) [.events, .free, .glb, .resp, .sram, .sup] s (sramAccess a0 a1 a2 a3 a4 s) := by
  unfold sramAccess
  first | split | (clear_value *; split)
  · refine Frame.then ?_ writeSram_frame rfl rfl
    refine Frame.then ?_ State.answer_frame rfl rfl
    exact Frame.refl
  · first | split | (clear_value *; split)
    · rename_i x1 e1
      refine Frame.via x1 (Frame.ofSnd e1 ?_) fun h1 => ?_
      · refine Frame.then ?_ sramFinds_frame rfl rfl
        exact Frame.refl
      first | split | (clear_value *; split)
      · rename_i x2 e2
        refine Frame.via x2 (Frame.ofSnd e2 ?_) fun h2 => ?_
        · refine Frame.then ?_ readSram_frame rfl rfl
          refine Frame.raiseIf ?_ (inRows_of (r := .MEM_EVENT) rfl (by exact rfl)) rfl
          exact h1
        refine Frame.then ?_ State.giveBytes_frame rfl rfl
        exact h2

theorem execBar2Access_frame {a0 : Fin 67108864} {a1 : MemAccess} {a2 : Bool} : ∃ t, execBar2Access a0 a1 a2 s = .next t ∧ Frame (some [.GLB_MODE_STATUS, .HIF_EVENT, .HIF_WR_REF, .HIF_WR_REF_ADDR_HI, .HIF_WR_REF_ADDR_LO, .MEM_EVENT, .MEM_SRAM_ERR, .MEM_SRAM_UE_ADDR, .SEC_EVENT, .SEC_STATUS, .SUP_TRIP, .SUP_TRIP_ERR, .SUP_TRIP_REEL_HI, .SUP_TRIP_REEL_LO, .SUP_TRIP_SEEN]) [.events, .free, .glb, .resp, .sram, .sup] s t := by
  refine ⟨_, rfl, ?_⟩
  refine Frame.ite (fun _ => ?_) (fun _ => ?_)
  · refine Frame.then ?_ unsupported_frame rfl rfl
    exact Frame.refl
  · refine Frame.then ?_ sramAccess_frame rfl rfl
    exact Frame.refl

theorem resizeBar4_frame {a0 : Nat} : Frame (some [.HIF_LINK_STATUS]) [.hif] s (resizeBar4 a0 s) := by
  unfold resizeBar4
  refine Frame.put ?_ (inRows_of (r := .HIF_LINK_STATUS) rfl (by exact rfl))
  refine Frame.hif ?_ rfl (by first | exact id | exact fun h => ⟨(by first | exact h.1 | exact sparseWf_sset h.1 | exact sparseWf_nil | exact sparseWf_filter h.1 | exact sparseWf_smap h.1 | exact sparseWf_sdrop h.1 | exact sparseWf_sset (sparseWf_sset h.1) | exact sparseWf_fold sparseWf_nil | (dsimp only; exact sparseWf_smap h.1)), (by first | exact h.2.1 | exact sparseWf_sset h.2.1 | exact sparseWf_nil | exact sparseWf_filter h.2.1 | exact sparseWf_smap h.2.1 | exact sparseWf_sdrop h.2.1 | exact sparseWf_sset (sparseWf_sset h.2.1) | exact sparseWf_fold sparseWf_nil | (dsimp only; exact sparseWf_smap h.2.1)), (by first | exact h.2.2.1 | exact sparseWf_sset h.2.2.1 | exact sparseWf_nil | exact sparseWf_filter h.2.2.1 | exact sparseWf_smap h.2.2.1 | exact sparseWf_sdrop h.2.2.1 | exact sparseWf_sset (sparseWf_sset h.2.2.1) | exact sparseWf_fold sparseWf_nil | (dsimp only; exact sparseWf_smap h.2.2.1)), (by first | exact h.2.2.2 | exact sparseWf_sset h.2.2.2 | exact sparseWf_nil | exact sparseWf_filter h.2.2.2 | exact sparseWf_smap h.2.2.2 | exact sparseWf_sdrop h.2.2.2 | exact sparseWf_sset (sparseWf_sset h.2.2.2) | exact sparseWf_fold sparseWf_nil | (dsimp only; exact sparseWf_smap h.2.2.2))⟩)
  exact Frame.refl

theorem bar4Access_frame {a0 : Nat} {a1 : MemAccess} {a2 : Bool} : Frame (some [.HIF_EVENT]) [.events, .mem, .resp, .sup] s (bar4Access a0 a1 a2 s) := by
  unfold bar4Access
  extract_lets -merge -useContext -underBinder +onlyGivenNames v1
  refine Frame.ite (fun _ => ?_) (fun _ => ?_)
  · exact Frame.refl
  · refine Frame.ite (fun _ => ?_) (fun _ => ?_)
    · refine Frame.then ?_ unsupported_frame rfl rfl
      exact Frame.refl
    · first | split | (clear_value *; split)
      · refine Frame.then ?_ holdAccess_frame rfl rfl
        refine Frame.then ?_ State.answer_frame rfl rfl
        exact Frame.refl
      · refine Frame.then ?_ holdAccess_frame rfl rfl
        refine Frame.resp ?_ rfl (fun _ => trivial)
        exact Frame.refl

theorem execBar4Access_frame {a0 : Fin 137438953472} {a1 : MemAccess} {a2 : Bool} {a3 : Option (Fin 8)} : ∃ t, execBar4Access a0 a1 a2 a3 s = .next t ∧ Frame (some [.HIF_EVENT, .HIF_LINK_STATUS]) [.events, .hif, .mem, .resp, .sup] s t := by
  refine ⟨_, rfl, ?_⟩
  refine Frame.then ?_ bar4Access_frame rfl rfl
  first | split | (clear_value *; split)
  · refine Frame.then ?_ resizeBar4_frame rfl rfl
    exact Frame.refl
  · exact Frame.refl

theorem State.setDma_frame {a0 : Nat} {a1 : Option (List Byte)} : Frame (some []) [.hif] s (State.setDma s a0 a1) := by
  unfold State.setDma
  refine Frame.hif ?_ rfl (fun h => ⟨(by first | exact h.1 | exact sparseWf_sset h.1 | exact sparseWf_nil | exact sparseWf_filter h.1 | exact sparseWf_smap h.1 | exact sparseWf_sdrop h.1 | exact sparseWf_sset (sparseWf_sset h.1) | exact sparseWf_fold sparseWf_nil | (dsimp only; exact sparseWf_smap h.1)), (by first | exact h.2.1 | exact sparseWf_sset h.2.1 | exact sparseWf_nil | exact sparseWf_filter h.2.1 | exact sparseWf_smap h.2.1 | exact sparseWf_sdrop h.2.1 | exact sparseWf_sset (sparseWf_sset h.2.1) | exact sparseWf_fold sparseWf_nil | (dsimp only; exact sparseWf_smap h.2.1)), (by first | exact h.2.2.1 | exact sparseWf_sset h.2.2.1 | exact sparseWf_nil | exact sparseWf_filter h.2.2.1 | exact sparseWf_smap h.2.2.1 | exact sparseWf_sdrop h.2.2.1 | exact sparseWf_sset (sparseWf_sset h.2.2.1) | exact sparseWf_fold sparseWf_nil | (dsimp only; exact sparseWf_smap h.2.2.1)), (by first | exact h.2.2.2 | exact sparseWf_sset h.2.2.2 | exact sparseWf_nil | exact sparseWf_filter h.2.2.2 | exact sparseWf_smap h.2.2.2 | exact sparseWf_sdrop h.2.2.2 | exact sparseWf_sset (sparseWf_sset h.2.2.2) | exact sparseWf_fold sparseWf_nil | (dsimp only; exact sparseWf_smap h.2.2.2))⟩)
  exact Frame.refl

theorem setDataLeft_frame {a0 : Nat} {a1 : Nat} : Frame (some []) [.hif] s (setDataLeft a0 a1 s) := by
  unfold setDataLeft
  refine Frame.hif ?_ rfl (fun h => ⟨(by first | exact h.1 | exact sparseWf_sset h.1 | exact sparseWf_nil | exact sparseWf_filter h.1 | exact sparseWf_smap h.1 | exact sparseWf_sdrop h.1 | exact sparseWf_sset (sparseWf_sset h.1) | exact sparseWf_fold sparseWf_nil | (dsimp only; exact sparseWf_smap h.1)), (by first | exact h.2.1 | exact sparseWf_sset h.2.1 | exact sparseWf_nil | exact sparseWf_filter h.2.1 | exact sparseWf_smap h.2.1 | exact sparseWf_sdrop h.2.1 | exact sparseWf_sset (sparseWf_sset h.2.1) | exact sparseWf_fold sparseWf_nil | (dsimp only; exact sparseWf_smap h.2.1)), (by first | exact h.2.2.1 | exact sparseWf_sset h.2.2.1 | exact sparseWf_nil | exact sparseWf_filter h.2.2.1 | exact sparseWf_smap h.2.2.1 | exact sparseWf_sdrop h.2.2.1 | exact sparseWf_sset (sparseWf_sset h.2.2.1) | exact sparseWf_fold sparseWf_nil | (dsimp only; exact sparseWf_smap h.2.2.1)), (by first | exact h.2.2.2 | exact sparseWf_sset h.2.2.2 | exact sparseWf_nil | exact sparseWf_filter h.2.2.2 | exact sparseWf_smap h.2.2.2 | exact sparseWf_sdrop h.2.2.2 | exact sparseWf_sset (sparseWf_sset h.2.2.2) | exact sparseWf_fold sparseWf_nil | (dsimp only; exact sparseWf_smap h.2.2.2))⟩)
  exact Frame.refl

theorem setStopping_frame {a0 : Nat} {a1 : Bool} : Frame (some []) [.hif] s (setStopping a0 a1 s) := by
  unfold setStopping
  refine Frame.hif ?_ rfl (fun h => ⟨(by first | exact h.1 | exact sparseWf_sset h.1 | exact sparseWf_nil | exact sparseWf_filter h.1 | exact sparseWf_smap h.1 | exact sparseWf_sdrop h.1 | exact sparseWf_sset (sparseWf_sset h.1) | exact sparseWf_fold sparseWf_nil | (dsimp only; exact sparseWf_smap h.1)), (by first | exact h.2.1 | exact sparseWf_sset h.2.1 | exact sparseWf_nil | exact sparseWf_filter h.2.1 | exact sparseWf_smap h.2.1 | exact sparseWf_sdrop h.2.1 | exact sparseWf_sset (sparseWf_sset h.2.1) | exact sparseWf_fold sparseWf_nil | (dsimp only; exact sparseWf_smap h.2.1)), (by first | exact h.2.2.1 | exact sparseWf_sset h.2.2.1 | exact sparseWf_nil | exact sparseWf_filter h.2.2.1 | exact sparseWf_smap h.2.2.1 | exact sparseWf_sdrop h.2.2.1 | exact sparseWf_sset (sparseWf_sset h.2.2.1) | exact sparseWf_fold sparseWf_nil | (dsimp only; exact sparseWf_smap h.2.2.1)), (by first | exact h.2.2.2 | exact sparseWf_sset h.2.2.2 | exact sparseWf_nil | exact sparseWf_filter h.2.2.2 | exact sparseWf_smap h.2.2.2 | exact sparseWf_sdrop h.2.2.2 | exact sparseWf_sset (sparseWf_sset h.2.2.2) | exact sparseWf_fold sparseWf_nil | (dsimp only; exact sparseWf_smap h.2.2.2))⟩)
  exact Frame.refl

theorem showQueue_frame {a0 : Nat} : Frame (some [.HIF_Q_STATUS]) [] s (showQueue a0 s) := by
  unfold showQueue
  extract_lets -merge -useContext -underBinder +onlyGivenNames v1
  refine Frame.ite (fun _ => ?_) (fun _ => ?_)
  · extract_lets -merge -useContext -underBinder +onlyGivenNames v2
    refine Frame.put ?_ (inRows_of (r := .HIF_Q_STATUS) rfl (by exact ⟨_, rfl⟩))
    exact Frame.refl
  · exact Frame.refl

theorem writeTail_frame {a0 : Path} {a1 : Nat} {a2 : Word} : Frame (some [.HIF_EVENT, .HIF_Q_EVENT, .HIF_Q_STATUS, .HIF_Q_TAIL, .HIF_WR_REF, .HIF_WR_REF_ADDR_HI, .HIF_WR_REF_ADDR_LO]) [.events, .resp, .sup] s (writeTail a0 a1 a2 s) := by
  unfold writeTail
  refine gated_frame ?_ rfl rfl (fun x hx => ?_)
  · exact Frame.refl
  · extract_lets -merge -useContext -underBinder +onlyGivenNames v1
    refine Frame.ite (fun _ => ?_) (fun _ => ?_)
    · refine Frame.then ?_ showQueue_frame rfl rfl
      refine Frame.put ?_ (inRows_of (r := .HIF_Q_TAIL) rfl (by exact ⟨_, rfl⟩))
      exact hx
    · refine Frame.raise ?_ (inRows_of (r := .HIF_Q_EVENT) rfl (by exact ⟨_, rfl⟩)) rfl
      exact hx

theorem execDmaDoorbell_frame {a0 : Path} {a1 : Fin 64} {a2 : Word} : ∃ t, execDmaDoorbell a0 a1 a2 s = .next t ∧ Frame (some [.HIF_EVENT, .HIF_Q_EVENT, .HIF_Q_STATUS, .HIF_Q_TAIL, .HIF_WR_REF, .HIF_WR_REF_ADDR_HI, .HIF_WR_REF_ADDR_LO]) [.events, .resp, .sup] s t := by
  refine ⟨_, rfl, ?_⟩
  refine Frame.then ?_ writeTail_frame rfl rfl
  exact Frame.refl

theorem enableQueue_frame {a0 : Nat} : Frame (some [.HIF_Q_STATUS]) [] s (enableQueue a0 s) := by
  unfold enableQueue
  refine Frame.then ?_ showQueue_frame rfl rfl
  refine Frame.put ?_ (inRows_of (r := .HIF_Q_STATUS) rfl (by exact ⟨_, rfl⟩))
  refine Frame.put ?_ (inRows_of (r := .HIF_Q_STATUS) rfl (by exact ⟨_, rfl⟩))
  exact Frame.refl

theorem writeQCfg_frame {a0 : Path} {a1 : Nat} {a2 : Word} : Frame none [.events, .hif, .resp, .sup] s (writeQCfg a0 a1 a2 s) := by
  unfold writeQCfg
  extract_lets -merge -useContext -underBinder +onlyGivenNames v1 v2 v3 x4
  refine Frame.via x4 ?_ fun h4 => ?_
  · unfold x4
    refine Frame.then ?_ plainWrite_frame rfl rfl
    exact Frame.refl
  try clear_value x4
  extract_lets -merge -useContext -underBinder +onlyGivenNames v5 v6
  refine Frame.ite (fun _ => ?_) (fun _ => ?_)
  · refine Frame.then ?_ enableQueue_frame rfl rfl
    exact h4
  · refine Frame.ite (fun _ => ?_) (fun _ => ?_)
    · refine Frame.ite (fun _ => ?_) (fun _ => ?_)
      · refine Frame.then ?_ setStopping_frame rfl rfl
        exact h4
      · refine Frame.ite (fun _ => ?_) (fun _ => ?_)
        · refine Frame.put ?_ (inRows_of (r := .HIF_Q_STATUS) rfl (by exact ⟨_, rfl⟩))
          exact h4
        · exact h4
    · exact h4

theorem execDmaQueueDisable_frame {a0 : Path} {a1 : Fin 64} {a2 : Word} : ∃ t, execDmaQueueDisable a0 a1 a2 s = .next t ∧ Frame none [.events, .hif, .resp, .sup] s t := by
  refine ⟨_, rfl, ?_⟩
  refine Frame.then ?_ writeQCfg_frame rfl rfl
  exact Frame.refl

theorem writeQCtl_frame {a0 : Path} {a1 : Nat} {a2 : Word} : Frame (some [.HIF_EVENT, .HIF_Q_HEAD, .HIF_Q_STATUS, .HIF_WR_REF, .HIF_WR_REF_ADDR_HI, .HIF_WR_REF_ADDR_LO]) [.events, .resp, .sup] s (writeQCtl a0 a1 a2 s) := by
  unfold writeQCtl
  refine gated_frame ?_ rfl rfl (fun x hx => ?_)
  · exact Frame.refl
  · refine Frame.ite (fun _ => ?_) (fun _ => ?_)
    · refine Frame.put ?_ (inRows_of (r := .HIF_Q_STATUS) rfl (by exact ⟨_, rfl⟩))
      refine Frame.put ?_ (inRows_of (r := .HIF_Q_STATUS) rfl (by exact ⟨_, rfl⟩))
      refine Frame.put ?_ (inRows_of (r := .HIF_Q_HEAD) rfl (by exact ⟨_, rfl⟩))
      exact hx
    · exact hx

theorem execDmaQueueReset_frame {a0 : Path} {a1 : Fin 64} {a2 : Word} : ∃ t, execDmaQueueReset a0 a1 a2 s = .next t ∧ Frame (some [.HIF_EVENT, .HIF_Q_HEAD, .HIF_Q_STATUS, .HIF_WR_REF, .HIF_WR_REF_ADDR_HI, .HIF_WR_REF_ADDR_LO]) [.events, .resp, .sup] s t := by
  refine ⟨_, rfl, ?_⟩
  refine Frame.then ?_ writeQCtl_frame rfl rfl
  exact Frame.refl

theorem execQLimitWrite_frame {a0 : Path} {a1 : Fin 64} {a2 : Word} : ∃ t, execQLimitWrite a0 a1 a2 s = .next t ∧ Frame none [.events, .resp, .sup] s t := by
  refine ⟨_, rfl, ?_⟩
  refine Frame.then ?_ plainWrite_frame rfl rfl
  exact Frame.refl

theorem execDmaDescriptorStart_frame {a0 : Fin 64} {a1 : List Byte} : ∃ t, execDmaDescriptorStart a0 a1 s = .next t ∧ Frame (some []) [.hif, .mem] s t := by
  refine ⟨_, rfl, ?_⟩
  first | split | (clear_value *; split)
  · refine Frame.ite (fun _ => ?_) (fun _ => ?_)
    · extract_lets -merge -useContext -underBinder +onlyGivenNames v1 v2 x3
      refine Frame.via x3 ?_ fun h3 => ?_
      · unfold x3
        refine Frame.then ?_ setDataLeft_frame rfl rfl
        refine Frame.then ?_ State.setDma_frame rfl rfl
        exact Frame.refl
      try clear_value x3
      extract_lets -merge -useContext -underBinder +onlyGivenNames x4
      refine Frame.via x4 ?_ fun h4 => ?_
      · unfold x4
        refine Frame.ite (fun _ => ?_) (fun _ => ?_)
        · refine Frame.then ?_ askDram_frame rfl rfl
          exact h3
        · exact h3
      try clear_value x4
      refine Frame.then ?_ queueIssues_frame rfl rfl
      refine Frame.hif ?_ rfl (by first | exact id | exact fun h => ⟨(by first | exact h.1 | exact sparseWf_sset h.1 | exact sparseWf_nil | exact sparseWf_filter h.1 | exact sparseWf_smap h.1 | exact sparseWf_sdrop h.1 | exact sparseWf_sset (sparseWf_sset h.1) | exact sparseWf_fold sparseWf_nil | (dsimp only; exact sparseWf_smap h.1)), (by first | exact h.2.1 | exact sparseWf_sset h.2.1 | exact sparseWf_nil | exact sparseWf_filter h.2.1 | exact sparseWf_smap h.2.1 | exact sparseWf_sdrop h.2.1 | exact sparseWf_sset (sparseWf_sset h.2.1) | exact sparseWf_fold sparseWf_nil | (dsimp only; exact sparseWf_smap h.2.1)), (by first | exact h.2.2.1 | exact sparseWf_sset h.2.2.1 | exact sparseWf_nil | exact sparseWf_filter h.2.2.1 | exact sparseWf_smap h.2.2.1 | exact sparseWf_sdrop h.2.2.1 | exact sparseWf_sset (sparseWf_sset h.2.2.1) | exact sparseWf_fold sparseWf_nil | (dsimp only; exact sparseWf_smap h.2.2.1)), (by first | exact h.2.2.2 | exact sparseWf_sset h.2.2.2 | exact sparseWf_nil | exact sparseWf_filter h.2.2.2 | exact sparseWf_smap h.2.2.2 | exact sparseWf_sdrop h.2.2.2 | exact sparseWf_sset (sparseWf_sset h.2.2.2) | exact sparseWf_fold sparseWf_nil | (dsimp only; exact sparseWf_smap h.2.2.2))⟩)
      exact h4
    · exact Frame.refl
  · exact Frame.refl

theorem issueData_frame  : Frame (some []) [.hif, .resp] s (issueData s) := by
  unfold issueData
  refine Frame.ite (fun _ => ?_) (fun _ => ?_)
  · first | split | (clear_value *; split)
    · extract_lets -merge -useContext -underBinder +onlyGivenNames v1 v2 v3 x4
      refine Frame.via x4 ?_ fun h4 => ?_
      · unfold x4
        refine Frame.ite (fun _ => ?_) (fun _ => ?_)
        · refine Frame.then ?_ hostReads_frame rfl rfl
          exact Frame.refl
        · exact Frame.refl
      try clear_value x4
      extract_lets -merge -useContext -underBinder +onlyGivenNames x5
      refine Frame.via x5 ?_ fun h5 => ?_
      · unfold x5
        refine Frame.then ?_ setDataLeft_frame rfl rfl
        exact h4
      try clear_value x5
      refine Frame.then ?_ queueIssues_frame rfl rfl
      refine Frame.hif ?_ rfl (by first | exact id | exact fun h => ⟨(by first | exact h.1 | exact sparseWf_sset h.1 | exact sparseWf_nil | exact sparseWf_filter h.1 | exact sparseWf_smap h.1 | exact sparseWf_sdrop h.1 | exact sparseWf_sset (sparseWf_sset h.1) | exact sparseWf_fold sparseWf_nil | (dsimp only; exact sparseWf_smap h.1)), (by first | exact h.2.1 | exact sparseWf_sset h.2.1 | exact sparseWf_nil | exact sparseWf_filter h.2.1 | exact sparseWf_smap h.2.1 | exact sparseWf_sdrop h.2.1 | exact sparseWf_sset (sparseWf_sset h.2.1) | exact sparseWf_fold sparseWf_nil | (dsimp only; exact sparseWf_smap h.2.1)), (by first | exact h.2.2.1 | exact sparseWf_sset h.2.2.1 | exact sparseWf_nil | exact sparseWf_filter h.2.2.1 | exact sparseWf_smap h.2.2.1 | exact sparseWf_sdrop h.2.2.1 | exact sparseWf_sset (sparseWf_sset h.2.2.1) | exact sparseWf_fold sparseWf_nil | (dsimp only; exact sparseWf_smap h.2.2.1)), (by first | exact h.2.2.2 | exact sparseWf_sset h.2.2.2 | exact sparseWf_nil | exact sparseWf_filter h.2.2.2 | exact sparseWf_smap h.2.2.2 | exact sparseWf_sdrop h.2.2.2 | exact sparseWf_sset (sparseWf_sset h.2.2.2) | exact sparseWf_fold sparseWf_nil | (dsimp only; exact sparseWf_smap h.2.2.2))⟩)
      exact h5
    · exact Frame.refl
  · exact Frame.refl

theorem reviveQueues_frame  : Frame (some [.HIF_Q_STATUS]) [] s (reviveQueues s) := by
  unfold reviveQueues
  refine Frame.forN _ ?_ fun i x hx => ?_
  · exact Frame.refl
  · refine Frame.ite (fun _ => ?_) (fun _ => ?_)
    · refine Frame.then ?_ enableQueue_frame rfl rfl
      exact hx
    · exact hx

theorem countQueueWaits_frame  : Frame (some [.HIF_Q_WAIT]) [.hif] s (countQueueWaits s) := by
  unfold countQueueWaits
  extract_lets -merge -useContext -underBinder +onlyGivenNames v1 v2 v3 x4
  refine Frame.via x4 ?_ fun h4 => ?_
  · unfold x4
    refine Frame.forAll _ ?_ fun i x hx => ?_
    · exact Frame.refl
    · refine Frame.ite (fun _ => ?_) (fun _ => ?_)
      · refine Frame.count ?_ (inRows_of (r := .HIF_Q_WAIT) rfl (by exact ⟨_, rfl⟩))
        exact hx
      · exact hx
  try clear_value x4
  refine Frame.hif ?_ rfl (fun h => ⟨(by first | exact h.1 | exact sparseWf_sset h.1 | exact sparseWf_nil | exact sparseWf_filter h.1 | exact sparseWf_smap h.1 | exact sparseWf_sdrop h.1 | exact sparseWf_sset (sparseWf_sset h.1) | exact sparseWf_fold sparseWf_nil | (dsimp only; exact sparseWf_smap h.1)), (by first | exact h.2.1 | exact sparseWf_sset h.2.1 | exact sparseWf_nil | exact sparseWf_filter h.2.1 | exact sparseWf_smap h.2.1 | exact sparseWf_sdrop h.2.1 | exact sparseWf_sset (sparseWf_sset h.2.1) | exact sparseWf_fold sparseWf_nil | (dsimp only; exact sparseWf_smap h.2.1)), (by first | exact h.2.2.1 | exact sparseWf_sset h.2.2.1 | exact sparseWf_nil | exact sparseWf_filter h.2.2.1 | exact sparseWf_smap h.2.2.1 | exact sparseWf_sdrop h.2.2.1 | exact sparseWf_sset (sparseWf_sset h.2.2.1) | exact sparseWf_fold sparseWf_nil | (dsimp only; exact sparseWf_smap h.2.2.1)), (by first | exact h.2.2.2 | exact sparseWf_sset h.2.2.2 | exact sparseWf_nil | exact sparseWf_filter h.2.2.2 | exact sparseWf_smap h.2.2.2 | exact sparseWf_sdrop h.2.2.2 | exact sparseWf_sset (sparseWf_sset h.2.2.2) | exact sparseWf_fold sparseWf_nil | (dsimp only; exact sparseWf_smap h.2.2.2))⟩)
  exact h4

theorem dmaIn_frame {a0 : Nat} {a1 : DmaDesc} {a2 : List Byte} {a3 : HostEnd} {a4 : Bool} : Frame (some [.GLB_MODE_STATUS, .HIF_EVENT, .HIF_WR_REF, .HIF_WR_REF_ADDR_HI, .HIF_WR_REF_ADDR_LO, .MEM_EVENT, .MEM_SRAM_ERR, .MEM_SRAM_UE_ADDR, .SEC_EVENT, .SEC_STATUS, .SUP_TRIP, .SUP_TRIP_ERR, .SUP_TRIP_REEL_HI, .SUP_TRIP_REEL_LO, .SUP_TRIP_SEEN]) [.dram, .events, .free, .glb, .mem, .resp, .sram, .sup] s (dmaIn a0 a1 a2 a3 a4 s).2 := by
  unfold dmaIn
  extract_lets -merge -useContext -underBinder +onlyGivenNames x1
  refine Frame.via x1 ?_ fun h1 => ?_
  · unfold x1
    refine Frame.raiseIf ?_ (inRows_of (r := .HIF_EVENT) rfl (by exact rfl)) rfl
    exact Frame.refl
  try clear_value x1
  extract_lets -merge -useContext -underBinder +onlyGivenNames v2 v3 v4 v5 x6
  refine Frame.via x6 ?_ fun h6 => ?_
  · unfold x6
    refine Frame.ite (fun _ => ?_) (fun _ => ?_)
    · refine Frame.then ?_ writeSram_frame rfl rfl
      exact h1
    · refine Frame.then ?_ writeDram_frame rfl rfl
      exact h1
  try clear_value x6
  split
  · exact h6
  · split
    · refine Frame.then ?_ wrRefused_frame rfl rfl
      exact h6
    · first | split | (clear_value *; split)
      · split
        · exact h6
        · exact h6
      · exact h6
      · exact h6

theorem dmaOut_frame {a0 : DmaDesc} {a1 : Nat} {a2 : HostEnd} {a3 : Bool} : Frame (some [.GLB_MODE_STATUS, .HIF_EVENT, .MEM_DRAM_ERR, .MEM_DRAM_UE_ADDR_HI, .MEM_DRAM_UE_ADDR_LO, .MEM_EVENT, .MEM_SRAM_ERR, .MEM_SRAM_UE_ADDR, .SEC_EVENT, .SUP_TRIP, .SUP_TRIP_ERR, .SUP_TRIP_REEL_HI, .SUP_TRIP_REEL_LO, .SUP_TRIP_SEEN]) [.events, .free, .glb, .sup] s (dmaOut a0 a1 a2 a3 s).2 := by
  unfold dmaOut
  extract_lets -merge -useContext -underBinder +onlyGivenNames x1
  refine Frame.via x1 ?_ fun h1 => ?_
  · unfold x1
    refine Frame.raiseIf ?_ (inRows_of (r := .HIF_EVENT) rfl (by exact rfl)) rfl
    exact Frame.refl
  try clear_value x1
  first | split | (clear_value *; split)
  · rename_i x2 e2
    refine Frame.via x2 (Frame.ofSnd e2 ?_) fun h2 => ?_
    · split
      · refine Frame.then ?_ sramFinds_frame rfl rfl
        exact h1
      · refine Frame.then ?_ dramFinds_frame rfl rfl
        exact h1
    extract_lets -merge -useContext -underBinder +onlyGivenNames x3
    refine Frame.via x3 ?_ fun h3 => ?_
    · unfold x3
      refine Frame.raiseIf ?_ (inRows_of (r := .MEM_EVENT) rfl (by exact rfl)) rfl
      exact h2
    try clear_value x3
    first | split | (clear_value *; split)
    · rename_i x4 e4
      refine Frame.via x4 (Frame.ofSnd e4 ?_) fun h4 => ?_
      · split
        · refine Frame.then ?_ readSram_frame rfl rfl
          exact h3
        · refine Frame.then ?_ readDram_frame rfl rfl
          exact h3
      extract_lets -merge -useContext -underBinder +onlyGivenNames v5
      exact h4

theorem endDma_frame {a0 : Nat} {a1 : Nat} {a2 : Nat} {a3 : DmaDesc} {a4 : List HostWrite} : Frame (some [.HIF_EVENT, .HIF_Q_EVENT, .HIF_Q_HEAD, .HIF_Q_STATUS]) [.events, .hif, .mem, .resp, .sup] s (endDma a0 a1 a2 a3 a4 s) := by
  unfold endDma
  extract_lets -merge -useContext -underBinder +onlyGivenNames v1 v2 v3 v4 v5 x6
  refine Frame.via x6 ?_ fun h6 => ?_
  · unfold x6
    refine Frame.then ?_ dropDram_frame rfl rfl
    refine Frame.then ?_ setStopping_frame rfl rfl
    refine Frame.then ?_ setDataLeft_frame rfl rfl
    refine Frame.then ?_ State.setDma_frame rfl rfl
    exact Frame.refl
  try clear_value x6
  extract_lets -merge -useContext -underBinder +onlyGivenNames x7
  refine Frame.via x7 ?_ fun h7 => ?_
  · unfold x7
    refine Frame.put ?_ (inRows_of (r := .HIF_Q_HEAD) rfl (by exact ⟨_, rfl⟩))
    exact h6
  try clear_value x7
  extract_lets -merge -useContext -underBinder +onlyGivenNames x8
  refine Frame.via x8 ?_ fun h8 => ?_
  · unfold x8
    refine Frame.ite (fun _ => ?_) (fun _ => ?_)
    · refine Frame.put ?_ (inRows_of (r := .HIF_Q_STATUS) rfl (by exact ⟨_, rfl⟩))
      exact h7
    · exact h7
  try clear_value x8
  extract_lets -merge -useContext -underBinder +onlyGivenNames x9
  refine Frame.via x9 ?_ fun h9 => ?_
  · unfold x9
    refine Frame.raiseIf ?_ (inRows_of (r := .HIF_Q_EVENT) rfl (by exact ⟨_, rfl⟩)) rfl
    exact h8
  try clear_value x9
  extract_lets -merge -useContext -underBinder +onlyGivenNames x10
  refine Frame.via x10 ?_ fun h10 => ?_
  · unfold x10
    refine Frame.ite (fun _ => ?_) (fun _ => ?_)
    · exact h9
    · refine Frame.raise ?_ (inRows_of (r := .HIF_EVENT) rfl (by exact rfl)) rfl
      refine Frame.raise ?_ (inRows_of (r := .HIF_Q_EVENT) rfl (by exact ⟨_, rfl⟩)) rfl
      exact h9
  try clear_value x10
  extract_lets -merge -useContext -underBinder +onlyGivenNames x11
  refine Frame.via x11 ?_ fun h11 => ?_
  · unfold x11
    refine Frame.resp ?_ rfl (fun _ => trivial)
    exact h10
  try clear_value x11
  refine Frame.ite (fun _ => ?_) (fun _ => ?_)
  · refine Frame.put ?_ (inRows_of (r := .HIF_Q_STATUS) rfl (by exact ⟨_, rfl⟩))
    exact h11
  · refine Frame.ite (fun _ => ?_) (fun _ => ?_)
    · refine Frame.put ?_ (inRows_of (r := .HIF_Q_STATUS) rfl (by exact ⟨_, rfl⟩))
      exact h11
    · refine Frame.then ?_ showQueue_frame rfl rfl
      exact h11

theorem dmaStopped_frame {a0 : Nat} {a1 : DmaDesc} {a2 : Bool} {a3 : List Byte} {a4 : Bool} : Frame (some [.GLB_MODE_STATUS, .HIF_EVENT, .HIF_Q_EVENT, .HIF_Q_HEAD, .HIF_Q_STATUS, .HIF_WR_REF, .HIF_WR_REF_ADDR_HI, .HIF_WR_REF_ADDR_LO, .MEM_DRAM_ERR, .MEM_DRAM_UE_ADDR_HI, .MEM_DRAM_UE_ADDR_LO, .MEM_EVENT, .MEM_SRAM_ERR, .MEM_SRAM_UE_ADDR, .SEC_EVENT, .SEC_STATUS, .SUP_TRIP, .SUP_TRIP_ERR, .SUP_TRIP_REEL_HI, .SUP_TRIP_REEL_LO, .SUP_TRIP_SEEN]) [.dram, .events, .free, .glb, .hif, .mem, .resp, .sram, .sup] s (dmaStopped a0 a1 a2 a3 a4 s) := by
  unfold dmaStopped
  extract_lets -merge -useContext -underBinder +onlyGivenNames v1
  refine Frame.ite (fun _ => ?_) (fun _ => ?_)
  · exact Frame.refl
  · refine Frame.ite (fun _ => ?_) (fun _ => ?_)
    · refine Frame.then ?_ endDma_frame rfl rfl
      exact Frame.refl
    · refine Frame.ite (fun _ => ?_) (fun _ => ?_)
      · first | split | (clear_value *; split)
        · rename_i x2 e2
          refine Frame.via x2 (Frame.ofSnd e2 ?_) fun h2 => ?_
          · refine Frame.then ?_ dmaIn_frame rfl rfl
            exact Frame.refl
          refine Frame.then ?_ endDma_frame rfl rfl
          exact h2
      · first | split | (clear_value *; split)
        · rename_i x3 e3
          refine Frame.via x3 (Frame.ofSnd e3 ?_) fun h3 => ?_
          · refine Frame.then ?_ dmaOut_frame rfl rfl
            exact Frame.refl
          refine Frame.then ?_ endDma_frame rfl rfl
          exact h3

theorem dmaDone_frame {a0 : Nat} {a1 : List Byte} {a2 : HostEnd} {a3 : Bool} : Frame (some [.GLB_MODE_STATUS, .HIF_EVENT, .HIF_Q_EVENT, .HIF_Q_HEAD, .HIF_Q_STATUS, .HIF_WR_REF, .HIF_WR_REF_ADDR_HI, .HIF_WR_REF_ADDR_LO, .MEM_DRAM_ERR, .MEM_DRAM_UE_ADDR_HI, .MEM_DRAM_UE_ADDR_LO, .MEM_EVENT, .MEM_SRAM_ERR, .MEM_SRAM_UE_ADDR, .SEC_EVENT, .SEC_STATUS, .SUP_TRIP, .SUP_TRIP_ERR, .SUP_TRIP_REEL_HI, .SUP_TRIP_REEL_LO, .SUP_TRIP_SEEN]) [.dram, .events, .free, .glb, .hif, .mem, .resp, .sram, .sup] s (dmaDone a0 a1 a2 a3 s) := by
  unfold dmaDone
  first | split | (clear_value *; split)
  · exact Frame.refl
  · extract_lets -merge -useContext -underBinder +onlyGivenNames v1 v2
    refine Frame.ite (fun _ => ?_) (fun _ => ?_)
    · exact Frame.refl
    · refine Frame.ite (fun _ => ?_) (fun _ => ?_)
      · refine Frame.then ?_ dmaStopped_frame rfl rfl
        exact Frame.refl
      · refine Frame.ite (fun _ => ?_) (fun _ => ?_)
        · refine Frame.then ?_ endDma_frame rfl rfl
          exact Frame.refl
        · refine Frame.ite (fun _ => ?_) (fun _ => ?_)
          · refine Frame.then ?_ endDma_frame rfl rfl
            exact Frame.refl
          · refine Frame.ite (fun _ => ?_) (fun _ => ?_)
            · exact Frame.refl
            · refine Frame.ite (fun _ => ?_) (fun _ => ?_)
              · first | split | (clear_value *; split)
                · rename_i x3 e3
                  refine Frame.via x3 (Frame.ofSnd e3 ?_) fun h3 => ?_
                  · refine Frame.then ?_ dmaIn_frame rfl rfl
                    exact Frame.refl
                  refine Frame.then ?_ endDma_frame rfl rfl
                  exact h3
              · first | split | (clear_value *; split)
                · rename_i x4 e4
                  refine Frame.via x4 (Frame.ofSnd e4 ?_) fun h4 => ?_
                  · refine Frame.then ?_ dmaOut_frame rfl rfl
                    exact Frame.refl
                  refine Frame.then ?_ endDma_frame rfl rfl
                  exact h4

theorem execDmaDescriptorDone_frame {a0 : Fin 64} {a1 : List Byte} {a2 : HostEnd} {a3 : Bool} : ∃ t, execDmaDescriptorDone a0 a1 a2 a3 s = .next t ∧ Frame (some [.GLB_MODE_STATUS, .HIF_EVENT, .HIF_Q_EVENT, .HIF_Q_HEAD, .HIF_Q_STATUS, .HIF_WR_REF, .HIF_WR_REF_ADDR_HI, .HIF_WR_REF_ADDR_LO, .MEM_DRAM_ERR, .MEM_DRAM_UE_ADDR_HI, .MEM_DRAM_UE_ADDR_LO, .MEM_EVENT, .MEM_SRAM_ERR, .MEM_SRAM_UE_ADDR, .SEC_EVENT, .SEC_STATUS, .SUP_TRIP, .SUP_TRIP_ERR, .SUP_TRIP_REEL_HI, .SUP_TRIP_REEL_LO, .SUP_TRIP_SEEN]) [.dram, .events, .free, .glb, .hif, .mem, .resp, .sram, .sup] s t := by
  refine ⟨_, rfl, ?_⟩
  refine Frame.then ?_ dmaDone_frame rfl rfl
  exact Frame.refl

theorem maskFunction_frame {a0 : Bool} : Frame (some []) [.hif] s (maskFunction a0 s) := by
  unfold maskFunction
  refine Frame.hif ?_ rfl (by first | exact id | exact fun h => ⟨(by first | exact h.1 | exact sparseWf_sset h.1 | exact sparseWf_nil | exact sparseWf_filter h.1 | exact sparseWf_smap h.1 | exact sparseWf_sdrop h.1 | exact sparseWf_sset (sparseWf_sset h.1) | exact sparseWf_fold sparseWf_nil | (dsimp only; exact sparseWf_smap h.1)), (by first | exact h.2.1 | exact sparseWf_sset h.2.1 | exact sparseWf_nil | exact sparseWf_filter h.2.1 | exact sparseWf_smap h.2.1 | exact sparseWf_sdrop h.2.1 | exact sparseWf_sset (sparseWf_sset h.2.1) | exact sparseWf_fold sparseWf_nil | (dsimp only; exact sparseWf_smap h.2.1)), (by first | exact h.2.2.1 | exact sparseWf_sset h.2.2.1 | exact sparseWf_nil | exact sparseWf_filter h.2.2.1 | exact sparseWf_smap h.2.2.1 | exact sparseWf_sdrop h.2.2.1 | exact sparseWf_sset (sparseWf_sset h.2.2.1) | exact sparseWf_fold sparseWf_nil | (dsimp only; exact sparseWf_smap h.2.2.1)), (by first | exact h.2.2.2 | exact sparseWf_sset h.2.2.2 | exact sparseWf_nil | exact sparseWf_filter h.2.2.2 | exact sparseWf_smap h.2.2.2 | exact sparseWf_sdrop h.2.2.2 | exact sparseWf_sset (sparseWf_sset h.2.2.2) | exact sparseWf_fold sparseWf_nil | (dsimp only; exact sparseWf_smap h.2.2.2))⟩)
  exact Frame.refl

theorem msixSend_frame {a0 : Nat} : Frame (some [.HIF_MSIX_PBA, .HIF_VEC_REARM]) [.resp] s (msixSend a0 s) := by
  unfold msixSend
  extract_lets -merge -useContext -underBinder +onlyGivenNames v1 v2
  refine Frame.ite (fun _ => ?_) (fun _ => ?_)
  · extract_lets -merge -useContext -underBinder +onlyGivenNames x3
    refine Frame.via x3 ?_ fun h3 => ?_
    · unfold x3
      refine Frame.drop ?_ (inRows_of (r := .HIF_VEC_REARM) rfl (by exact ⟨_, rfl⟩))
      exact Frame.refl
    try clear_value x3
    refine Frame.ite (fun _ => ?_) (fun _ => ?_)
    · refine Frame.put ?_ (inRows_of (r := .HIF_MSIX_PBA) rfl (by exact ⟨_, rfl⟩))
      exact h3
    · refine Frame.resp ?_ rfl (fun _ => trivial)
      exact h3
  · exact Frame.refl

theorem execMsixSend_frame {a0 : Fin 512} {a1 : Bool} : ∃ t, execMsixSend a0 a1 s = .next t ∧ Frame (some [.HIF_MSIX_PBA, .HIF_VEC_REARM]) [.hif, .resp] s t := by
  refine ⟨_, rfl, ?_⟩
  refine Frame.then ?_ msixSend_frame rfl rfl
  refine Frame.then ?_ maskFunction_frame rfl rfl
  exact Frame.refl

theorem execVecRearm_frame {a0 : Path} {a1 : Fin 16} {a2 : Word} : ∃ t, execVecRearm a0 a1 a2 s = .next t ∧ Frame none [.events, .resp, .sup] s t := by
  refine ⟨_, rfl, ?_⟩
  refine Frame.then ?_ plainWrite_frame rfl rfl
  exact Frame.refl

theorem sendPending_frame {a0 : Nat} : Frame (some [.HIF_MSIX_PBA]) [.resp] s (sendPending a0 s) := by
  unfold sendPending
  extract_lets -merge -useContext -underBinder +onlyGivenNames v1
  refine Frame.ite (fun _ => ?_) (fun _ => ?_)
  · extract_lets -merge -useContext -underBinder +onlyGivenNames x2
    refine Frame.via x2 ?_ fun h2 => ?_
    · unfold x2
      refine Frame.put ?_ (inRows_of (r := .HIF_MSIX_PBA) rfl (by exact ⟨_, rfl⟩))
      exact Frame.refl
    try clear_value x2
    refine Frame.resp ?_ rfl (fun _ => trivial)
    exact h2
  · exact Frame.refl

theorem execMsixUnmask_frame {a0 : Option (Fin 512)} : ∃ t, execMsixUnmask a0 s = .next t ∧ Frame (some [.HIF_MSIX_PBA, .HIF_MSIX_TABLE]) [.hif, .resp] s t := by
  refine ⟨_, rfl, ?_⟩
  extract_lets -merge -useContext -underBinder +onlyGivenNames x1
  refine Frame.via x1 ?_ fun h1 => ?_
  · unfold x1
    refine Frame.resp ?_ rfl (fun _ => trivial)
    exact Frame.refl
  try clear_value x1
  first | split | (clear_value *; split)
  · refine Frame.then ?_ sendPending_frame rfl rfl
    refine Frame.wr ?_ (inRows_of (r := .HIF_MSIX_TABLE) rfl (by exact ⟨_, _, rfl⟩))
    exact h1
  · refine Frame.forN _ ?_ fun i x hx => ?_
    · refine Frame.then ?_ maskFunction_frame rfl rfl
      exact h1
    · refine Frame.then ?_ sendPending_frame rfl rfl
      exact hx

theorem writeMsix_frame {a0 : Path} {a1 : Nat} {a2 : Nat} {a3 : Word} : Frame none [.events, .resp, .sup] s (writeMsix a0 a1 a2 a3 s) := by
  unfold writeMsix
  extract_lets -merge -useContext -underBinder +onlyGivenNames v1 x2
  refine Frame.via x2 ?_ fun h2 => ?_
  · unfold x2
    refine Frame.then ?_ plainWrite_frame rfl rfl
    exact Frame.refl
  try clear_value x2
  refine Frame.ite (fun _ => ?_) (fun _ => ?_)
  · refine Frame.then ?_ sendPending_frame rfl rfl
    exact h2
  · exact h2

theorem execD3hotEntry_frame  : ∃ t, execD3hotEntry s = .next t ∧ Frame (some [.HIF_LINK_STATUS]) [] s t := by
  refine ⟨_, rfl, ?_⟩
  refine Frame.put ?_ (inRows_of (r := .HIF_LINK_STATUS) rfl (by exact rfl))
  exact Frame.refl

theorem execD0Return_frame  : ∃ t, execD0Return s = .next t ∧ Frame (some [.HIF_LINK_STATUS, .HIF_MSIX_PBA]) [.resp] s t := by
  refine ⟨_, rfl, ?_⟩
  refine Frame.ite (fun _ => ?_) (fun _ => ?_)
  · refine Frame.forN _ ?_ fun i x hx => ?_
    · extract_lets -merge -useContext -underBinder +onlyGivenNames x1
      refine Frame.via x1 ?_ fun h1 => ?_
      · unfold x1
        refine Frame.put ?_ (inRows_of (r := .HIF_LINK_STATUS) rfl (by exact rfl))
        exact Frame.refl
      try clear_value x1
      refine Frame.resp ?_ rfl (fun _ => trivial)
      exact h1
    · refine Frame.then ?_ sendPending_frame rfl rfl
      exact hx
  · exact Frame.refl

end Sys2Proof.Machine
end

