-- ==== Sys2Proof/Laws/Frame/Reset.lean ====
section
/-! SUPPORT. Laws/Frame/Reset.lean: what each operation of Machine/Reset.lean can change, and that it keeps a sound state sound. -/

set_option Elab.async false

namespace Sys2Proof.Machine

variable {R : Option (List RegRow)} {P : List Part} {s t : State}

theorem breakProvision_frame  : Frame (some []) [.free, .sec] s (breakProvision s) := by
  unfold breakProvision
  first | split | (clear_value *; split)
  · first | split | (clear_value *; split)
    · rename_i x1 e1
      refine Frame.via x1 (Frame.ofSnd e1 ?_) fun h1 => ?_
      · refine Frame.fresh ?_ rfl
        exact Frame.refl
      refine Frame.then ?_ fuseSlots_frame rfl rfl
      exact h1
  · exact Frame.refl

theorem endPermits_frame {a0 : Bool} : Frame (some [.SYN_MRK_LEVEL, .SYN_TRG_LEVEL]) [.sup, .syn] s (endPermits a0 s) := by
  unfold endPermits
  refine permitting_frame ?_ rfl rfl (fun x hx => ?_)
  · exact Frame.refl
  · refine Frame.sup ?_ rfl (by first | exact id | exact fun h => ⟨(by first | exact h.1 | exact sparseWf_sset h.1 | exact sparseWf_nil | exact sparseWf_filter h.1 | exact sparseWf_smap h.1 | exact sparseWf_sdrop h.1 | exact sparseWf_sset (sparseWf_sset h.1) | exact sparseWf_fold sparseWf_nil | (dsimp only; exact sparseWf_smap h.1)), (by first | exact h.2.1 | exact sparseWf_sset h.2.1 | exact sparseWf_nil | exact sparseWf_filter h.2.1 | exact sparseWf_smap h.2.1 | exact sparseWf_sdrop h.2.1 | exact sparseWf_sset (sparseWf_sset h.2.1) | exact sparseWf_fold sparseWf_nil | (dsimp only; exact sparseWf_smap h.2.1)), (by first | exact h.2.2.1 | exact sparseWf_sset h.2.2.1 | exact sparseWf_nil | exact sparseWf_filter h.2.2.1 | exact sparseWf_smap h.2.2.1 | exact sparseWf_sdrop h.2.2.1 | exact sparseWf_sset (sparseWf_sset h.2.2.1) | exact sparseWf_fold sparseWf_nil | (dsimp only; exact sparseWf_smap h.2.2.1)), (by first | exact h.2.2.2.1 | exact sparseWf_sset h.2.2.2.1 | exact sparseWf_nil | exact sparseWf_filter h.2.2.2.1 | exact sparseWf_smap h.2.2.2.1 | exact sparseWf_sdrop h.2.2.2.1 | exact sparseWf_sset (sparseWf_sset h.2.2.2.1) | exact sparseWf_fold sparseWf_nil | (dsimp only; exact sparseWf_smap h.2.2.2.1)), (by first | exact h.2.2.2.2.1 | exact sparseWf_sset h.2.2.2.2.1 | exact sparseWf_nil | exact sparseWf_filter h.2.2.2.2.1 | exact sparseWf_smap h.2.2.2.2.1 | exact sparseWf_sdrop h.2.2.2.2.1 | exact sparseWf_sset (sparseWf_sset h.2.2.2.2.1) | exact sparseWf_fold sparseWf_nil | (dsimp only; exact sparseWf_smap h.2.2.2.2.1)), (by first | exact h.2.2.2.2.2 | exact sparseWf_sset h.2.2.2.2.2 | exact sparseWf_nil | exact sparseWf_filter h.2.2.2.2.2 | exact sparseWf_smap h.2.2.2.2.2 | exact sparseWf_sdrop h.2.2.2.2.2 | exact sparseWf_sset (sparseWf_sset h.2.2.2.2.2) | exact sparseWf_fold sparseWf_nil | (dsimp only; exact sparseWf_smap h.2.2.2.2.2))⟩)
    exact hx

theorem bareState_frame {a0 : Nat → Bool} {a1 : Bool} : Frame none [.bob, .csc, .dram, .dsc, .events, .fab, .glb, .held, .hif, .jobs, .later, .mem, .pwr, .rdo, .resp, .rv, .sec, .spn, .sram, .syn, .tap, .tln] s (bareState a0 a1 s) := by
  refine ⟨fun off hn => absurd trivial hn, fun p hp => ?_, fun hw => ⟨sparseWf_filter hw.regs, fun p => ?_⟩⟩
  · cases p <;> first | exact rfl | exact absurd (by decide) hp
  · have h := hw.parts p
    cases p <;> first | exact h | exact rfl | exact ⟨rfl, rfl⟩ | exact ⟨rfl, rfl, rfl⟩ | exact ⟨rfl, rfl, rfl, rfl⟩ | exact ⟨rfl, rfl, rfl, rfl, rfl⟩ | exact ⟨rfl, rfl, rfl, rfl, rfl, rfl⟩ | trivial | exact ⟨rfl, rfl, h.2.2.1, h.2.2.2.1, h.2.2.2.2⟩ | (cases a1 <;> first | exact h | exact rfl | exact ⟨rfl, rfl, rfl, rfl⟩)

theorem showReset_frame {a0 : Nat} {a1 : Nat} : Frame (some [.GLB_MODE_STATUS, .HIF_EVENT, .SEC_EVENT, .SEC_FUSE, .SEC_STATUS]) [.events, .sup] s (showReset a0 a1 s) := by
  unfold showReset
  extract_lets -merge -useContext -underBinder +onlyGivenNames x1
  refine Frame.via x1 ?_ fun h1 => ?_
  · unfold x1
    refine Frame.ite (fun _ => ?_) (fun _ => ?_)
    · exact Frame.refl
    · refine Frame.raise ?_ (inRows_of (r := .HIF_EVENT) rfl (by exact rfl)) rfl
      refine Frame.raise ?_ (inRows_of (r := .GLB_MODE_STATUS) rfl (by exact rfl)) rfl
      refine Frame.put ?_ (inRows_of (r := .GLB_MODE_STATUS) rfl (by exact rfl))
      exact Frame.refl
  try clear_value x1
  extract_lets -merge -useContext -underBinder +onlyGivenNames x2
  refine Frame.via x2 ?_ fun h2 => ?_
  · unfold x2
    refine Frame.then ?_ showFuses_frame rfl rfl
    refine Frame.put ?_ (inRows_of (r := .SEC_STATUS) rfl (by exact rfl))
    exact h1
  try clear_value x2
  refine Frame.ite (fun _ => ?_) (fun _ => ?_)
  · refine Frame.raise ?_ (inRows_of (r := .SEC_EVENT) rfl (by exact rfl)) rfl
    exact h2
  · exact h2

theorem resetDevice_frame {a0 : Nat} {a1 : Nat} {a2 : Bool} : Frame none [.bob, .csc, .dram, .dsc, .events, .fab, .free, .glb, .held, .hif, .jobs, .later, .mem, .pwr, .rdo, .resp, .rv, .sec, .spn, .sram, .sup, .syn, .tap, .tln] s (resetDevice a0 a1 a2 s) := by
  unfold resetDevice
  extract_lets -merge -useContext -underBinder +onlyGivenNames v1 v2 v3 v4 x5
  refine Frame.via x5 ?_ fun h5 => ?_
  · unfold x5
    refine Frame.then ?_ countPorts_frame rfl rfl
    refine Frame.then ?_ breakProvision_frame rfl rfl
    refine Frame.then ?_ endPermits_frame rfl rfl
    exact Frame.refl
  try clear_value x5
  extract_lets -merge -useContext -underBinder +onlyGivenNames x6
  refine Frame.via x6 ?_ fun h6 => ?_
  · unfold x6
    refine Frame.then ?_ bareState_frame rfl rfl
    exact h5
  try clear_value x6
  extract_lets -merge -useContext -underBinder +onlyGivenNames x7
  refine Frame.via x7 ?_ fun h7 => ?_
  · unfold x7
    refine Frame.put ?_ (inRows_of (r := .CSC_STATUS) rfl (by exact rfl))
    refine Frame.put ?_ (inRows_of (r := .GLB_RST_STATUS) rfl (by exact rfl))
    refine Frame.put ?_ (inRows_of (r := .GLB_RST_STATUS) rfl (by exact rfl))
    exact h6
  try clear_value x7
  extract_lets -merge -useContext -underBinder +onlyGivenNames x8
  refine Frame.via x8 ?_ fun h8 => ?_
  · unfold x8
    refine Frame.put ?_ (inRows_of (r := .RDO_STATUS) rfl (by exact rfl))
    refine Frame.put ?_ (inRows_of (r := .SUP_STATUS) rfl (by exact rfl))
    exact h7
  try clear_value x8
  extract_lets -merge -useContext -underBinder +onlyGivenNames x9
  refine Frame.via x9 ?_ fun h9 => ?_
  · unfold x9
    refine Frame.then ?_ settleSup_frame rfl rfl
    exact h8
  try clear_value x9
  extract_lets -merge -useContext -underBinder +onlyGivenNames x10
  refine Frame.via x10 ?_ fun h10 => ?_
  · unfold x10
    refine Frame.forN _ ?_ fun i x hx => ?_
    · exact h9
    · refine Frame.put ?_ (inRows_of (r := .MEM_STATUS) rfl (by exact rfl))
      exact hx
  try clear_value x10
  refine Frame.then ?_ showReset_frame rfl rfl
  refine Frame.ite (fun _ => ?_) (fun _ => ?_)
  · refine Frame.then ?_ switchThresholds_frame rfl rfl
    exact h10
  · refine Frame.ite (fun _ => ?_) (fun _ => ?_)
    · refine Frame.then ?_ rejudge_frame rfl rfl
      exact h10
    · exact h10

theorem execSystemReset_frame {a0 : Option (Fin 24)} : ∃ t, execSystemReset a0 s = .next t ∧ Frame none [.bob, .csc, .dram, .dsc, .events, .fab, .free, .glb, .held, .hif, .jobs, .later, .mem, .pwr, .rdo, .resp, .rv, .sec, .spn, .sram, .sup, .syn, .tap, .tln] s t := by
  refine ⟨_, rfl, ?_⟩
  first | split | (clear_value *; split)
  · refine Frame.then ?_ resetDevice_frame rfl rfl
    exact Frame.refl
  · refine Frame.ite (fun _ => ?_) (fun _ => ?_)
    · exact Frame.refl
    · refine Frame.then ?_ resetDevice_frame rfl rfl
      exact Frame.refl

theorem softwareReset_frame  : Frame none [.bob, .csc, .dram, .dsc, .events, .fab, .free, .glb, .held, .hif, .jobs, .later, .mem, .pwr, .rdo, .resp, .rv, .sec, .spn, .sram, .sup, .syn, .tap, .tln] s (softwareReset s) := by
  unfold softwareReset
  refine Frame.then ?_ resetDevice_frame rfl rfl
  exact Frame.refl

theorem rstCtlWrite_frame {a0 : Path} {a1 : Word} : Frame (some [.HIF_EVENT, .HIF_WR_REF, .HIF_WR_REF_ADDR_HI, .HIF_WR_REF_ADDR_LO]) [.events, .later, .resp, .sup] s (rstCtlWrite a0 a1 s) := by
  unfold rstCtlWrite
  refine gated_frame ?_ rfl rfl (fun x hx => ?_)
  · exact Frame.refl
  · refine Frame.ite (fun _ => ?_) (fun _ => ?_)
    · refine Frame.later ?_ rfl (fun _ => trivial)
      exact hx
    · exact hx

theorem execSoftwareReset_frame {a0 : Path} {a1 : Word} : ∃ t, execSoftwareReset a0 a1 s = .next t ∧ Frame (some [.HIF_EVENT, .HIF_WR_REF, .HIF_WR_REF_ADDR_HI, .HIF_WR_REF_ADDR_LO]) [.events, .later, .resp, .sup] s t := by
  refine ⟨_, rfl, ?_⟩
  refine Frame.then ?_ rstCtlWrite_frame rfl rfl
  exact Frame.refl

theorem powerOn_frame  : Frame none [.bob, .csc, .dram, .dsc, .events, .fab, .free, .glb, .held, .hif, .jobs, .later, .mem, .pwr, .rdo, .resp, .rv, .sec, .spn, .sram, .sup, .syn, .tap, .tln] s (powerOn s) := by
  unfold powerOn
  extract_lets -merge -useContext -underBinder +onlyGivenNames x1
  refine Frame.via x1 ?_ fun h1 => ?_
  · unfold x1
    refine Frame.then ?_ breakProvision_frame rfl rfl
    refine Frame.then ?_ endPermits_frame rfl rfl
    exact Frame.refl
  try clear_value x1
  extract_lets -merge -useContext -underBinder +onlyGivenNames v2 x3
  refine Frame.via x3 ?_ fun h3 => ?_
  · unfold x3
    refine Frame.then ?_ bareState_frame rfl rfl
    exact h1
  try clear_value x3
  refine Frame.upd (t := x3) [.tap, .pwr, .sup, .hif, .glb] ?_ rfl rfl (fun p hn => by cases p <;> first | rfl | exact ⟨rfl, rfl⟩ | exact ⟨rfl, rfl, rfl⟩ | exact absurd hn (by decide)) (fun p hm => by
      simp only [List.mem_cons, List.not_mem_nil, or_false] at hm
      rcases hm with rfl | rfl | rfl | rfl | rfl
      · exact fun _ => trivial
      · exact fun h => ⟨(by first | exact h.1 | exact sparseWf_sset h.1 | exact sparseWf_nil | exact sparseWf_filter h.1 | exact sparseWf_smap h.1 | exact sparseWf_sdrop h.1 | exact sparseWf_sset (sparseWf_sset h.1) | exact sparseWf_fold sparseWf_nil | (dsimp only; exact sparseWf_smap h.1)), (by first | exact h.2.1 | exact sparseWf_sset h.2.1 | exact sparseWf_nil | exact sparseWf_filter h.2.1 | exact sparseWf_smap h.2.1 | exact sparseWf_sdrop h.2.1 | exact sparseWf_sset (sparseWf_sset h.2.1) | exact sparseWf_fold sparseWf_nil | (dsimp only; exact sparseWf_smap h.2.1)), (by first | exact h.2.2.1 | exact sparseWf_sset h.2.2.1 | exact sparseWf_nil | exact sparseWf_filter h.2.2.1 | exact sparseWf_smap h.2.2.1 | exact sparseWf_sdrop h.2.2.1 | exact sparseWf_sset (sparseWf_sset h.2.2.1) | exact sparseWf_fold sparseWf_nil | (dsimp only; exact sparseWf_smap h.2.2.1)), (by first | exact h.2.2.2.1 | exact sparseWf_sset h.2.2.2.1 | exact sparseWf_nil | exact sparseWf_filter h.2.2.2.1 | exact sparseWf_smap h.2.2.2.1 | exact sparseWf_sdrop h.2.2.2.1 | exact sparseWf_sset (sparseWf_sset h.2.2.2.1) | exact sparseWf_fold sparseWf_nil | (dsimp only; exact sparseWf_smap h.2.2.2.1)), (by first | exact h.2.2.2.2 | exact sparseWf_sset h.2.2.2.2 | exact sparseWf_nil | exact sparseWf_filter h.2.2.2.2 | exact sparseWf_smap h.2.2.2.2 | exact sparseWf_sdrop h.2.2.2.2 | exact sparseWf_sset (sparseWf_sset h.2.2.2.2) | exact sparseWf_fold sparseWf_nil | (dsimp only; exact sparseWf_smap h.2.2.2.2))⟩
      · exact fun h => ⟨(by first | exact h.1 | exact sparseWf_sset h.1 | exact sparseWf_nil | exact sparseWf_filter h.1 | exact sparseWf_smap h.1 | exact sparseWf_sdrop h.1 | exact sparseWf_sset (sparseWf_sset h.1) | exact sparseWf_fold sparseWf_nil | (dsimp only; exact sparseWf_smap h.1)), (by first | exact h.2.1 | exact sparseWf_sset h.2.1 | exact sparseWf_nil | exact sparseWf_filter h.2.1 | exact sparseWf_smap h.2.1 | exact sparseWf_sdrop h.2.1 | exact sparseWf_sset (sparseWf_sset h.2.1) | exact sparseWf_fold sparseWf_nil | (dsimp only; exact sparseWf_smap h.2.1)), (by first | exact h.2.2.1 | exact sparseWf_sset h.2.2.1 | exact sparseWf_nil | exact sparseWf_filter h.2.2.1 | exact sparseWf_smap h.2.2.1 | exact sparseWf_sdrop h.2.2.1 | exact sparseWf_sset (sparseWf_sset h.2.2.1) | exact sparseWf_fold sparseWf_nil | (dsimp only; exact sparseWf_smap h.2.2.1)), (by first | exact h.2.2.2.1 | exact sparseWf_sset h.2.2.2.1 | exact sparseWf_nil | exact sparseWf_filter h.2.2.2.1 | exact sparseWf_smap h.2.2.2.1 | exact sparseWf_sdrop h.2.2.2.1 | exact sparseWf_sset (sparseWf_sset h.2.2.2.1) | exact sparseWf_fold sparseWf_nil | (dsimp only; exact sparseWf_smap h.2.2.2.1)), (by first | exact h.2.2.2.2.1 | exact sparseWf_sset h.2.2.2.2.1 | exact sparseWf_nil | exact sparseWf_filter h.2.2.2.2.1 | exact sparseWf_smap h.2.2.2.2.1 | exact sparseWf_sdrop h.2.2.2.2.1 | exact sparseWf_sset (sparseWf_sset h.2.2.2.2.1) | exact sparseWf_fold sparseWf_nil | (dsimp only; exact sparseWf_smap h.2.2.2.2.1)), (by first | exact h.2.2.2.2.2 | exact sparseWf_sset h.2.2.2.2.2 | exact sparseWf_nil | exact sparseWf_filter h.2.2.2.2.2 | exact sparseWf_smap h.2.2.2.2.2 | exact sparseWf_sdrop h.2.2.2.2.2 | exact sparseWf_sset (sparseWf_sset h.2.2.2.2.2) | exact sparseWf_fold sparseWf_nil | (dsimp only; exact sparseWf_smap h.2.2.2.2.2))⟩
      · exact fun h => ⟨(by first | exact h.1 | exact sparseWf_sset h.1 | exact sparseWf_nil | exact sparseWf_filter h.1 | exact sparseWf_smap h.1 | exact sparseWf_sdrop h.1 | exact sparseWf_sset (sparseWf_sset h.1) | exact sparseWf_fold sparseWf_nil | (dsimp only; exact sparseWf_smap h.1)), (by first | exact h.2.1 | exact sparseWf_sset h.2.1 | exact sparseWf_nil | exact sparseWf_filter h.2.1 | exact sparseWf_smap h.2.1 | exact sparseWf_sdrop h.2.1 | exact sparseWf_sset (sparseWf_sset h.2.1) | exact sparseWf_fold sparseWf_nil | (dsimp only; exact sparseWf_smap h.2.1)), (by first | exact h.2.2.1 | exact sparseWf_sset h.2.2.1 | exact sparseWf_nil | exact sparseWf_filter h.2.2.1 | exact sparseWf_smap h.2.2.1 | exact sparseWf_sdrop h.2.2.1 | exact sparseWf_sset (sparseWf_sset h.2.2.1) | exact sparseWf_fold sparseWf_nil | (dsimp only; exact sparseWf_smap h.2.2.1)), (by first | exact h.2.2.2 | exact sparseWf_sset h.2.2.2 | exact sparseWf_nil | exact sparseWf_filter h.2.2.2 | exact sparseWf_smap h.2.2.2 | exact sparseWf_sdrop h.2.2.2 | exact sparseWf_sset (sparseWf_sset h.2.2.2) | exact sparseWf_fold sparseWf_nil | (dsimp only; exact sparseWf_smap h.2.2.2))⟩
      · exact fun _ => trivial)
  exact h3

theorem execPowerOnReset_frame  : ∃ t, execPowerOnReset s = .next t ∧ Frame none [.bob, .csc, .dram, .dsc, .events, .fab, .free, .glb, .held, .hif, .jobs, .later, .mem, .pwr, .rdo, .resp, .rv, .sec, .spn, .sram, .sup, .syn, .tap, .tln] s t := by
  refine ⟨_, rfl, ?_⟩
  refine Frame.then ?_ powerOn_frame rfl rfl
  exact Frame.refl

theorem execPorstNRelease_frame {a0 : Bool} {a1 : BitVec 2} : ∃ t, execPorstNRelease a0 a1 s = .next t ∧ Frame none [.bob, .csc, .dram, .dsc, .events, .fab, .free, .glb, .held, .hif, .jobs, .later, .mem, .pwr, .rdo, .resp, .rv, .sec, .spn, .sram, .sup, .syn, .tap, .tln] s t := by
  refine ⟨_, rfl, ?_⟩
  refine Frame.ite (fun _ => ?_) (fun _ => ?_)
  · exact Frame.refl
  · extract_lets -merge -useContext -underBinder +onlyGivenNames x1
    refine Frame.via x1 ?_ fun h1 => ?_
    · unfold x1
      refine Frame.then ?_ powerOn_frame rfl rfl
      exact Frame.refl
    try clear_value x1
    extract_lets -merge -useContext -underBinder +onlyGivenNames w2 w3 x4
    refine Frame.via x4 ?_ fun h4 => ?_
    · unfold x4
      refine Frame.upd (t := x1) [.hif, .glb] ?_ rfl rfl (fun p hn => by cases p <;> first | rfl | exact ⟨rfl, rfl⟩ | exact ⟨rfl, rfl, rfl⟩ | exact absurd hn (by decide)) (fun p hm => by
          simp only [List.mem_cons, List.not_mem_nil, or_false] at hm
          rcases hm with rfl | rfl
          · exact fun h => ⟨(by first | exact h.1 | exact sparseWf_sset h.1 | exact sparseWf_nil | exact sparseWf_filter h.1 | exact sparseWf_smap h.1 | exact sparseWf_sdrop h.1 | exact sparseWf_sset (sparseWf_sset h.1) | exact sparseWf_fold sparseWf_nil | (dsimp only; exact sparseWf_smap h.1)), (by first | exact h.2.1 | exact sparseWf_sset h.2.1 | exact sparseWf_nil | exact sparseWf_filter h.2.1 | exact sparseWf_smap h.2.1 | exact sparseWf_sdrop h.2.1 | exact sparseWf_sset (sparseWf_sset h.2.1) | exact sparseWf_fold sparseWf_nil | (dsimp only; exact sparseWf_smap h.2.1)), (by first | exact h.2.2.1 | exact sparseWf_sset h.2.2.1 | exact sparseWf_nil | exact sparseWf_filter h.2.2.1 | exact sparseWf_smap h.2.2.1 | exact sparseWf_sdrop h.2.2.1 | exact sparseWf_sset (sparseWf_sset h.2.2.1) | exact sparseWf_fold sparseWf_nil | (dsimp only; exact sparseWf_smap h.2.2.1)), (by first | exact h.2.2.2 | exact sparseWf_sset h.2.2.2 | exact sparseWf_nil | exact sparseWf_filter h.2.2.2 | exact sparseWf_smap h.2.2.2 | exact sparseWf_sdrop h.2.2.2 | exact sparseWf_sset (sparseWf_sset h.2.2.2) | exact sparseWf_fold sparseWf_nil | (dsimp only; exact sparseWf_smap h.2.2.2))⟩
          · exact fun _ => trivial)
      exact h1
    try clear_value x4
    extract_lets -merge -useContext -underBinder +onlyGivenNames x5
    refine Frame.via x5 ?_ fun h5 => ?_
    · unfold x5
      refine Frame.then ?_ showFuses_frame rfl rfl
      refine Frame.put ?_ (inRows_of (r := .SEC_STATUS) rfl (by exact rfl))
      exact h4
    try clear_value x5
    refine Frame.then ?_ refreshQualified_frame rfl rfl
    refine Frame.put ?_ (inRows_of (r := .CSC_STATUS) rfl (by exact rfl))
    exact h5

theorem execEndpointReset_frame  : ∃ t, execEndpointReset s = .next t ∧ Frame none [.events, .hif, .mem, .rv, .spn, .sup, .syn] s t := by
  refine ⟨_, rfl, ?_⟩
  refine Frame.then ?_ setLevel_frame rfl rfl
  refine Frame.resetRange ?_
  refine Frame.then ?_ resetHif_frame rfl rfl
  exact Frame.refl

theorem execFunctionLevelReset_frame  : ∃ t, execFunctionLevelReset s = .next t ∧ Frame none [.events, .hif, .mem, .rv, .spn, .sup, .syn] s t := by
  refine ⟨_, rfl, ?_⟩
  refine Frame.then ?_ setLevel_frame rfl rfl
  refine Frame.then ?_ resetHif_frame rfl rfl
  exact Frame.refl

end Sys2Proof.Machine
end

