-- ==== Sys2Proof/Laws/Frame/Bobbins.lean ====
section
/-! SUPPORT. Laws/Frame/Bobbins.lean: what each operation of Machine/Bobbins.lean can change, and that it keeps a sound state sound. -/

set_option Elab.async false

namespace Sys2Proof.Machine

variable {R : Option (List RegRow)} {P : List Part} {s t : State}

theorem forBits_frame {a0 : Nat → State → State} {a1 : Word} (h : Frame R P s t) (hR : rowsLe (some []) R = true) (hP : partsLe [] P = true) (ha0 : ∀ i0 x, Frame R P s x → Frame R P s (a0 i0 x)) : Frame R P s (forBits a0 a1 t) := by
  unfold forBits
  refine Frame.forN _ ?_ fun i x hx => ?_
  · exact h
  · refine Frame.ite (fun _ => ?_) (fun _ => ?_)
    · refine ha0 _ _ ?_
      exact hx
    · exact hx

theorem execBobArm_frame {a0 : Path} {a1 : Word} : ∃ t, execBobArm a0 a1 s = .next t ∧ Frame (some [.BOB_COUNT2, .BOB_RD_HI, .BOB_RD_LO, .BOB_SPILLED_HI, .BOB_SPILLED_LO, .BOB_STATUS, .HIF_EVENT, .HIF_WR_REF, .HIF_WR_REF_ADDR_HI, .HIF_WR_REF_ADDR_LO]) [.bob, .events, .resp, .sup] s t := by
  refine ⟨_, rfl, ?_⟩
  refine gated_frame ?_ rfl rfl (fun x hx => ?_)
  · exact Frame.refl
  · refine forBits_frame ?_ rfl rfl (fun i0 x hx => ?_)
    · exact hx
    · refine Frame.then ?_ bobArm_frame rfl rfl
      exact hx

theorem execBobDisarm_frame {a0 : Path} {a1 : Word} : ∃ t, execBobDisarm a0 a1 s = .next t ∧ Frame (some [.BOB_EVENT, .BOB_STATUS, .HIF_EVENT, .HIF_WR_REF, .HIF_WR_REF_ADDR_HI, .HIF_WR_REF_ADDR_LO]) [.bob, .events, .resp, .sup] s t := by
  refine ⟨_, rfl, ?_⟩
  refine gated_frame ?_ rfl rfl (fun x hx => ?_)
  · exact Frame.refl
  · refine forBits_frame ?_ rfl rfl (fun i0 x hx => ?_)
    · exact hx
    · refine Frame.then ?_ abortBob_frame rfl rfl
      exact hx

theorem execBobForce_frame {a0 : Path} {a1 : Word} : ∃ t, execBobForce a0 a1 s = .next t ∧ Frame (some [.HIF_EVENT, .HIF_WR_REF, .HIF_WR_REF_ADDR_HI, .HIF_WR_REF_ADDR_LO]) [.bob, .events, .resp, .sup] s t := by
  refine ⟨_, rfl, ?_⟩
  refine gated_frame ?_ rfl rfl (fun x hx => ?_)
  · exact Frame.refl
  · refine forBits_frame ?_ rfl rfl (fun i0 x hx => ?_)
    · exact hx
    · refine Frame.then ?_ markTrigger_frame rfl rfl
      exact hx

theorem bobCmdWrite_frame {a0 : Nat} {a1 : Word} : Frame none [.bob, .sram] s (bobCmdWrite a0 a1 s) := by
  unfold bobCmdWrite
  refine Frame.ite (fun _ => ?_) (fun _ => ?_)
  · refine Frame.then ?_ clearBob_frame rfl rfl
    exact Frame.refl
  · exact Frame.refl

theorem execBobReset_frame {a0 : Path} {a1 : Fin 32} {a2 : Word} : ∃ t, execBobReset a0 a1 a2 s = .next t ∧ Frame none [.bob, .events, .resp, .sram, .sup] s t := by
  refine ⟨_, rfl, ?_⟩
  refine gated_frame ?_ rfl rfl (fun x hx => ?_)
  · exact Frame.refl
  · refine Frame.then ?_ bobCmdWrite_frame rfl rfl
    exact hx

theorem bobRdWrite_frame {a0 : Nat} {a1 : Nat} : Frame (some [.BOB_COUNT2, .BOB_EVENT, .BOB_RD_HI, .BOB_RD_LO, .BOB_SPILLED_HI, .BOB_SPILLED_LO, .BOB_STATUS]) [.bob, .events, .sup] s (bobRdWrite a0 a1 s) := by
  unfold bobRdWrite
  refine Frame.ite (fun _ => ?_) (fun _ => ?_)
  · refine Frame.raise ?_ (inRows_of (r := .BOB_EVENT) rfl (by exact ⟨_, rfl⟩)) rfl
    exact Frame.refl
  · refine Frame.then ?_ tidyBob_frame rfl rfl
    refine Frame.wr64 ?_ (inRows_of (r := .BOB_RD_LO) rfl (by exact ⟨_, rfl⟩)) (inRows_of (r := .BOB_RD_HI) rfl (by exact ⟨_, hiShift1 (by decide)⟩))
    exact Frame.refl

theorem execBobRdWrite_frame {a0 : Path} {a1 : Fin 32} {a2 : BitVec 64} : ∃ t, execBobRdWrite a0 a1 a2 s = .next t ∧ Frame (some [.BOB_COUNT2, .BOB_EVENT, .BOB_RD_HI, .BOB_RD_LO, .BOB_SPILLED_HI, .BOB_SPILLED_LO, .BOB_STATUS, .HIF_EVENT, .HIF_WR_REF, .HIF_WR_REF_ADDR_HI, .HIF_WR_REF_ADDR_LO]) [.bob, .events, .resp, .sup] s t := by
  refine ⟨_, rfl, ?_⟩
  refine gated_frame ?_ rfl rfl (fun x hx => ?_)
  · exact Frame.refl
  · refine Frame.then ?_ bobRdWrite_frame rfl rfl
    exact hx

theorem bobDirAck_frame {a0 : Nat} {a1 : Word} : Frame (some [.BOB_DIR_HEAD]) [] s (bobDirAck a0 a1 s) := by
  unfold bobDirAck
  refine Frame.ite (fun _ => ?_) (fun _ => ?_)
  · refine Frame.put ?_ (inRows_of (r := .BOB_DIR_HEAD) rfl (by exact ⟨_, rfl⟩))
    exact Frame.refl
  · exact Frame.refl

theorem execBobDirAck_frame {a0 : Path} {a1 : Fin 32} {a2 : Word} : ∃ t, execBobDirAck a0 a1 a2 s = .next t ∧ Frame (some [.BOB_DIR_HEAD, .HIF_EVENT, .HIF_WR_REF, .HIF_WR_REF_ADDR_HI, .HIF_WR_REF_ADDR_LO]) [.events, .resp, .sup] s t := by
  refine ⟨_, rfl, ?_⟩
  refine gated_frame ?_ rfl rfl (fun x hx => ?_)
  · exact Frame.refl
  · refine Frame.then ?_ bobDirAck_frame rfl rfl
    exact hx

theorem execBobItem_frame {a0 : Fin 32} {a1 : BobInput} : ∃ t, execBobItem a0 a1 s = .next t ∧ Frame (some [.BOB_COUNT, .BOB_COUNT2, .BOB_EVENT, .BOB_RD_HI, .BOB_RD_LO, .BOB_SPILLED_HI, .BOB_SPILLED_LO, .BOB_STATUS, .BOB_WR_HI, .BOB_WR_LO]) [.bob, .events, .sram, .sup] s t := by
  refine ⟨_, rfl, ?_⟩
  refine Frame.then ?_ bobInput_frame rfl rfl
  exact Frame.refl

theorem execBobAutoTimeout_frame {a0 : Fin 32} : ∃ t, execBobAutoTimeout a0 s = .next t ∧ Frame (some []) [.bob] s t := by
  refine ⟨_, rfl, ?_⟩
  extract_lets -merge -useContext -underBinder +onlyGivenNames v1 v2
  refine Frame.ite (fun _ => ?_) (fun _ => ?_)
  · refine Frame.then ?_ markTrigger_frame rfl rfl
    refine Frame.then ?_ State.setBob_frame rfl rfl
    exact Frame.refl
  · exact Frame.refl

theorem askSpill_frame {a0 : Nat} {a1 : Nat} {a2 : Nat} : Frame (some []) [.mem] s (askSpill a0 a1 a2 s) := by
  unfold askSpill
  extract_lets -merge -useContext -underBinder +onlyGivenNames v1 v2 v3 v4
  refine Frame.then ?_ askDram_frame rfl rfl
  exact Frame.refl

theorem spillRequest_frame {a0 : Nat} : Frame (some [.BOB_EVENT, .BOB_STATUS]) [.bob, .events, .mem, .sup] s (spillRequest a0 s) := by
  unfold spillRequest
  extract_lets -merge -useContext -underBinder +onlyGivenNames v1
  first | split | (clear_value *; split)
  · refine Frame.ite (fun _ => ?_) (fun _ => ?_)
    · exact Frame.refl
    · refine Frame.ite (fun _ => ?_) (fun _ => ?_)
      · first | split | (clear_value *; split)
        · refine Frame.then ?_ endCapture_frame rfl rfl
          exact Frame.refl
        · refine Frame.then ?_ truncateEnded_frame rfl rfl
          exact Frame.refl
      · refine Frame.then ?_ askSpill_frame rfl rfl
        refine Frame.then ?_ State.setBob_frame rfl rfl
        exact Frame.refl
  · exact Frame.refl

theorem execBobSpillRequest_frame {a0 : Fin 32} : ∃ t, execBobSpillRequest a0 s = .next t ∧ Frame (some [.BOB_EVENT, .BOB_STATUS]) [.bob, .events, .mem, .sup] s t := by
  refine ⟨_, rfl, ?_⟩
  refine Frame.then ?_ spillRequest_frame rfl rfl
  exact Frame.refl

theorem spillDone_frame {a0 : Nat} : Frame (some [.BOB_SPILLED_HI, .BOB_SPILLED_LO, .HIF_EVENT, .HIF_WR_REF, .HIF_WR_REF_ADDR_HI, .HIF_WR_REF_ADDR_LO, .SEC_EVENT, .SEC_STATUS]) [.bob, .dram, .events, .free, .mem, .resp, .sup] s (spillDone a0 s) := by
  unfold spillDone
  extract_lets -merge -useContext -underBinder +onlyGivenNames v1
  first | split | (clear_value *; split)
  · refine Frame.ite (fun _ => ?_) (fun _ => ?_)
    · exact Frame.refl
    · extract_lets -merge -useContext -underBinder +onlyGivenNames v2 v3 v4 v5 v6 v7 x8
      refine Frame.via x8 ?_ fun h8 => ?_
      · unfold x8
        refine Frame.then ?_ blockWriteDram_frame rfl rfl
        exact Frame.refl
      try clear_value x8
      extract_lets -merge -useContext -underBinder +onlyGivenNames x9
      refine Frame.via x9 ?_ fun h9 => ?_
      · unfold x9
        refine Frame.then ?_ blockWriteDram_frame rfl rfl
        exact h8
      try clear_value x9
      extract_lets -merge -useContext -underBinder +onlyGivenNames v10 w11 x12
      refine Frame.via x12 ?_ fun h12 => ?_
      · unfold x12
        refine Frame.mem ?_ rfl (fun h => ⟨(by first | exact h.1 | exact sparseWf_sset h.1 | exact sparseWf_nil | exact sparseWf_filter h.1 | exact sparseWf_smap h.1 | exact sparseWf_sdrop h.1 | exact sparseWf_sset (sparseWf_sset h.1) | exact sparseWf_fold sparseWf_nil | (dsimp only; exact sparseWf_smap h.1)), (by first | exact h.2.1 | exact sparseWf_sset h.2.1 | exact sparseWf_nil | exact sparseWf_filter h.2.1 | exact sparseWf_smap h.2.1 | exact sparseWf_sdrop h.2.1 | exact sparseWf_sset (sparseWf_sset h.2.1) | exact sparseWf_fold sparseWf_nil | (dsimp only; exact sparseWf_smap h.2.1)), (by first | exact h.2.2.1 | exact sparseWf_sset h.2.2.1 | exact sparseWf_nil | exact sparseWf_filter h.2.2.1 | exact sparseWf_smap h.2.2.1 | exact sparseWf_sdrop h.2.2.1 | exact sparseWf_sset (sparseWf_sset h.2.2.1) | exact sparseWf_fold sparseWf_nil | (dsimp only; exact sparseWf_smap h.2.2.1)), (by first | exact h.2.2.2 | exact sparseWf_sset h.2.2.2 | exact sparseWf_nil | exact sparseWf_filter h.2.2.2 | exact sparseWf_smap h.2.2.2 | exact sparseWf_sdrop h.2.2.2 | exact sparseWf_sset (sparseWf_sset h.2.2.2) | exact sparseWf_fold sparseWf_nil | (dsimp only; exact sparseWf_smap h.2.2.2))⟩)
        exact h9
      try clear_value x12
      extract_lets -merge -useContext -underBinder +onlyGivenNames v13 x14
      refine Frame.via x14 ?_ fun h14 => ?_
      · unfold x14
        refine Frame.wr64 ?_ (inRows_of (r := .BOB_SPILLED_LO) rfl (by exact ⟨_, rfl⟩)) (inRows_of (r := .BOB_SPILLED_HI) rfl (by exact ⟨_, hiShift1 (by decide)⟩))
        refine Frame.then ?_ State.setBob_frame rfl rfl
        exact h12
      try clear_value x14
      refine Frame.ite (fun _ => ?_) (fun _ => ?_)
      · refine Frame.then ?_ passHistory_frame rfl rfl
        exact h14
      · exact h14
  · exact Frame.refl

theorem execBobSpillDone_frame {a0 : Fin 32} : ∃ t, execBobSpillDone a0 s = .next t ∧ Frame (some [.BOB_SPILLED_HI, .BOB_SPILLED_LO, .HIF_EVENT, .HIF_WR_REF, .HIF_WR_REF_ADDR_HI, .HIF_WR_REF_ADDR_LO, .SEC_EVENT, .SEC_STATUS]) [.bob, .dram, .events, .free, .mem, .resp, .sup] s t := by
  refine ⟨_, rfl, ?_⟩
  refine Frame.then ?_ spillDone_frame rfl rfl
  exact Frame.refl

theorem captureEntry_frame {a0 : Nat} : Frame (some [.BOB_COUNT, .BOB_DIR, .BOB_DIR_HEAD, .BOB_EVENT, .BOB_STATUS]) [.bob, .events, .sup] s (captureEntry a0 s) := by
  unfold captureEntry
  extract_lets -merge -useContext -underBinder +onlyGivenNames v1
  first | split | (clear_value *; split)
  · refine Frame.ite (fun _ => ?_) (fun _ => ?_)
    · extract_lets -merge -useContext -underBinder +onlyGivenNames v2 x3
      refine Frame.via x3 ?_ fun h3 => ?_
      · unfold x3
        refine Frame.forAll _ ?_ fun i x hx => ?_
        · exact Frame.refl
        · refine Frame.wr ?_ (inRows_of (r := .BOB_DIR) rfl (by exact ⟨_, _, _, rfl⟩))
          exact hx
      try clear_value x3
      extract_lets -merge -useContext -underBinder +onlyGivenNames x4
      refine Frame.via x4 ?_ fun h4 => ?_
      · unfold x4
        refine Frame.put ?_ (inRows_of (r := .BOB_DIR_HEAD) rfl (by exact ⟨_, rfl⟩))
        refine Frame.put ?_ (inRows_of (r := .BOB_DIR_HEAD) rfl (by exact ⟨_, rfl⟩))
        exact h3
      try clear_value x4
      extract_lets -merge -useContext -underBinder +onlyGivenNames x5
      refine Frame.via x5 ?_ fun h5 => ?_
      · unfold x5
        refine Frame.count ?_ (inRows_of (r := .BOB_COUNT) rfl (by exact ⟨_, rfl⟩))
        refine Frame.raise ?_ (inRows_of (r := .BOB_EVENT) rfl (by exact ⟨_, rfl⟩)) rfl
        exact h4
      try clear_value x5
      extract_lets -merge -useContext -underBinder +onlyGivenNames v6 x7
      refine Frame.via x7 ?_ fun h7 => ?_
      · unfold x7
        refine Frame.then ?_ State.setBob_frame rfl rfl
        exact h5
      try clear_value x7
      refine Frame.ite (fun _ => ?_) (fun _ => ?_)
      · refine Frame.then ?_ setHist_frame rfl rfl
        refine Frame.then ?_ enterBob_frame rfl rfl
        exact h7
      · exact h7
    · exact Frame.refl
  · exact Frame.refl

theorem execCapture_frame {a0 : Fin 32} : ∃ t, execCapture a0 s = .next t ∧ Frame (some [.BOB_COUNT, .BOB_DIR, .BOB_DIR_HEAD, .BOB_EVENT, .BOB_STATUS]) [.bob, .events, .sup] s t := by
  refine ⟨_, rfl, ?_⟩
  refine Frame.then ?_ captureEntry_frame rfl rfl
  exact Frame.refl

theorem bobRearm_frame {a0 : Nat} : Frame (some [.BOB_COUNT2, .BOB_RD_HI, .BOB_RD_LO, .BOB_SPILLED_HI, .BOB_SPILLED_LO, .BOB_STATUS]) [.bob] s (bobRearm a0 s) := by
  unfold bobRearm
  extract_lets -merge -useContext -underBinder +onlyGivenNames v1
  refine Frame.ite (fun _ => ?_) (fun _ => ?_)
  · extract_lets -merge -useContext -underBinder +onlyGivenNames v2 v3
    refine Frame.ite (fun _ => ?_) (fun _ => ?_)
    · refine Frame.then ?_ bobWaits_frame rfl rfl
      exact Frame.refl
    · refine Frame.then ?_ armBob_frame rfl rfl
      exact Frame.refl
  · exact Frame.refl

theorem execBobRearm_frame {a0 : Fin 32} : ∃ t, execBobRearm a0 s = .next t ∧ Frame (some [.BOB_COUNT2, .BOB_RD_HI, .BOB_RD_LO, .BOB_SPILLED_HI, .BOB_SPILLED_LO, .BOB_STATUS]) [.bob] s t := by
  refine ⟨_, rfl, ?_⟩
  refine Frame.then ?_ bobRearm_frame rfl rfl
  exact Frame.refl

end Sys2Proof.Machine
end

