-- ==== Sys2Proof/Laws/Frame/Fabric.lean ====
section
/-! SUPPORT. Laws/Frame/Fabric.lean: what each operation of Machine/Fabric.lean can change, and that it keeps a sound state sound. -/

set_option Elab.async false

namespace Sys2Proof.Machine

variable {R : Option (List RegRow)} {P : List Part} {s t : State}

theorem coincide_frame {a0 : Nat} : Frame (some [.BOB_EVENT, .FAB_CT_EVENT, .FAB_EVENT, .FAB_GRP_EVENT, .FAB_PLY_STATUS, .SPN_EVENT]) [.events, .sup] s (coincide a0 s) := by
  unfold coincide
  extract_lets -merge -useContext -underBinder +onlyGivenNames v1
  first | split | (clear_value *; split)
  · refine Frame.raise ?_ (inRows_of (r := .FAB_EVENT) rfl (by exact rfl)) rfl
    refine Frame.raise ?_ (inRows_of (r := .FAB_PLY_STATUS) rfl (by exact ⟨_, rfl⟩)) rfl
    exact Frame.refl
  · refine Frame.raise ?_ (inRows_of (r := .SPN_EVENT) rfl (by exact ⟨_, rfl⟩)) rfl
    exact Frame.refl
  · refine Frame.raise ?_ (inRows_of (r := .FAB_EVENT) rfl (by exact rfl)) rfl
    refine Frame.raise ?_ (inRows_of (r := .FAB_CT_EVENT) rfl (by exact ⟨_, rfl⟩)) rfl
    exact Frame.refl
  · refine Frame.raise ?_ (inRows_of (r := .FAB_EVENT) rfl (by exact rfl)) rfl
    refine Frame.raise ?_ (inRows_of (r := .FAB_CT_EVENT) rfl (by exact ⟨_, rfl⟩)) rfl
    exact Frame.refl
  · refine Frame.raise ?_ (inRows_of (r := .FAB_EVENT) rfl (by exact rfl)) rfl
    refine Frame.raise ?_ (inRows_of (r := .FAB_GRP_EVENT) rfl (by exact ⟨_, rfl⟩)) rfl
    exact Frame.refl
  · refine Frame.raise ?_ (inRows_of (r := .FAB_EVENT) rfl (by exact rfl)) rfl
    refine Frame.raise ?_ (inRows_of (r := .FAB_GRP_EVENT) rfl (by exact ⟨_, rfl⟩)) rfl
    exact Frame.refl
  · refine Frame.raise ?_ (inRows_of (r := .BOB_EVENT) rfl (by exact ⟨_, rfl⟩)) rfl
    exact Frame.refl
  · exact Frame.refl

theorem syndrome_frame {a0 : Nat} {a1 : Nat} : Frame (some [.FAB_CT_COUNT, .FAB_CT_EVENT, .FAB_CT_STATE, .FAB_EVENT]) [.events, .sup] s (syndrome a0 a1 s) := by
  unfold syndrome
  extract_lets -merge -useContext -underBinder +onlyGivenNames v1
  refine Frame.ite (fun _ => ?_) (fun _ => ?_)
  · refine Frame.put ?_ (inRows_of (r := .FAB_CT_STATE) rfl (by exact ⟨_, rfl⟩))
    exact Frame.refl
  · refine Frame.ite (fun _ => ?_) (fun _ => ?_)
    · refine Frame.raise ?_ (inRows_of (r := .FAB_EVENT) rfl (by exact rfl)) rfl
      refine Frame.count ?_ (inRows_of (r := .FAB_CT_COUNT) rfl (by exact ⟨_, rfl⟩))
      refine Frame.raise ?_ (inRows_of (r := .FAB_CT_EVENT) rfl (by exact ⟨_, rfl⟩)) rfl
      exact Frame.refl
    · refine Frame.put ?_ (inRows_of (r := .FAB_CT_STATE) rfl (by exact ⟨_, rfl⟩))
      exact Frame.refl

theorem consume1_frame {a0 : Nat} : Frame (some [.FAB_CT_COUNT, .FAB_CT_EVENT, .FAB_CT_STATE, .FAB_EVENT]) [.bob, .events, .later, .sup] s (consume1 a0 s) := by
  unfold consume1
  extract_lets -merge -useContext -underBinder +onlyGivenNames v1
  first | split | (clear_value *; split)
  · extract_lets -merge -useContext -underBinder +onlyGivenNames v2 v3
    refine Frame.later ?_ rfl (fun _ => trivial)
    exact Frame.refl
  · refine Frame.then ?_ syndrome_frame rfl rfl
    exact Frame.refl
  · refine Frame.then ?_ bobStrand_frame rfl rfl
    exact Frame.refl
  · exact Frame.refl

theorem bothGates_frame {a0 : Nat} : Frame (some [.BOB_EVENT, .FAB_CT_EVENT, .FAB_EVENT, .FAB_GRP_EVENT, .FAB_PLY_STATUS, .SPN_EVENT]) [.events, .sup] s (bothGates a0 s) := by
  unfold bothGates
  refine Frame.ite (fun _ => ?_) (fun _ => ?_)
  · refine Frame.then ?_ coincide_frame rfl rfl
    exact Frame.refl
  · exact Frame.refl

theorem strandEvent_frame {a0 : Nat} : Frame (some [.BOB_EVENT, .FAB_CT_COUNT, .FAB_CT_EVENT, .FAB_CT_STATE, .FAB_EVENT, .FAB_EV_COUNT, .FAB_GRP_EVENT, .FAB_PLY_STATUS, .SPN_EVENT]) [.bob, .events, .fab, .later, .sup] s (strandEvent a0 s) := by
  unfold strandEvent
  first | split | (clear_value *; split)
  · extract_lets -merge -useContext -underBinder +onlyGivenNames w1 x2
    refine Frame.via x2 ?_ fun h2 => ?_
    · unfold x2
      refine Frame.fab ?_ rfl (by first | exact id | exact fun h => ⟨(by first | exact h.1 | exact sparseWf_sset h.1 | exact sparseWf_nil | exact sparseWf_filter h.1 | exact sparseWf_smap h.1 | exact sparseWf_sdrop h.1 | exact sparseWf_sset (sparseWf_sset h.1) | exact sparseWf_fold sparseWf_nil | (dsimp only; exact sparseWf_smap h.1)), (by first | exact h.2.1 | exact sparseWf_sset h.2.1 | exact sparseWf_nil | exact sparseWf_filter h.2.1 | exact sparseWf_smap h.2.1 | exact sparseWf_sdrop h.2.1 | exact sparseWf_sset (sparseWf_sset h.2.1) | exact sparseWf_fold sparseWf_nil | (dsimp only; exact sparseWf_smap h.2.1)), (by first | exact h.2.2.1 | exact sparseWf_sset h.2.2.1 | exact sparseWf_nil | exact sparseWf_filter h.2.2.1 | exact sparseWf_smap h.2.2.1 | exact sparseWf_sdrop h.2.2.1 | exact sparseWf_sset (sparseWf_sset h.2.2.1) | exact sparseWf_fold sparseWf_nil | (dsimp only; exact sparseWf_smap h.2.2.1)), (by first | exact h.2.2.2 | exact sparseWf_sset h.2.2.2 | exact sparseWf_nil | exact sparseWf_filter h.2.2.2 | exact sparseWf_smap h.2.2.2 | exact sparseWf_sdrop h.2.2.2 | exact sparseWf_sset (sparseWf_sset h.2.2.2) | exact sparseWf_fold sparseWf_nil | (dsimp only; exact sparseWf_smap h.2.2.2))⟩)
      exact Frame.refl
    try clear_value x2
    extract_lets -merge -useContext -underBinder +onlyGivenNames x3
    refine Frame.via x3 ?_ fun h3 => ?_
    · unfold x3
      refine Frame.count ?_ (inRows_of (r := .FAB_EV_COUNT) rfl (by exact ⟨_, rfl⟩))
      exact h2
    try clear_value x3
    extract_lets -merge -useContext -underBinder +onlyGivenNames v4 v5 x6
    refine Frame.via x6 ?_ fun h6 => ?_
    · unfold x6
      refine Frame.then ?_ showEvent_frame rfl rfl
      exact h3
    try clear_value x6
    refine Frame.ite (fun _ => ?_) (fun _ => ?_)
    · extract_lets -merge -useContext -underBinder +onlyGivenNames v7 w8 x9
      refine Frame.via x9 ?_ fun h9 => ?_
      · unfold x9
        refine Frame.fab ?_ rfl (by first | exact id | exact fun h => ⟨(by first | exact h.1 | exact sparseWf_sset h.1 | exact sparseWf_nil | exact sparseWf_filter h.1 | exact sparseWf_smap h.1 | exact sparseWf_sdrop h.1 | exact sparseWf_sset (sparseWf_sset h.1) | exact sparseWf_fold sparseWf_nil | (dsimp only; exact sparseWf_smap h.1)), (by first | exact h.2.1 | exact sparseWf_sset h.2.1 | exact sparseWf_nil | exact sparseWf_filter h.2.1 | exact sparseWf_smap h.2.1 | exact sparseWf_sdrop h.2.1 | exact sparseWf_sset (sparseWf_sset h.2.1) | exact sparseWf_fold sparseWf_nil | (dsimp only; exact sparseWf_smap h.2.1)), (by first | exact h.2.2.1 | exact sparseWf_sset h.2.2.1 | exact sparseWf_nil | exact sparseWf_filter h.2.2.1 | exact sparseWf_smap h.2.2.1 | exact sparseWf_sdrop h.2.2.1 | exact sparseWf_sset (sparseWf_sset h.2.2.1) | exact sparseWf_fold sparseWf_nil | (dsimp only; exact sparseWf_smap h.2.2.1)), (by first | exact h.2.2.2 | exact sparseWf_sset h.2.2.2 | exact sparseWf_nil | exact sparseWf_filter h.2.2.2 | exact sparseWf_smap h.2.2.2 | exact sparseWf_sdrop h.2.2.2 | exact sparseWf_sset (sparseWf_sset h.2.2.2) | exact sparseWf_fold sparseWf_nil | (dsimp only; exact sparseWf_smap h.2.2.2))⟩)
        exact h6
      try clear_value x9
      refine Frame.ite (fun _ => ?_) (fun _ => ?_)
      · refine Frame.then ?_ coincide_frame rfl rfl
        exact h9
      · exact h9
    · refine Frame.then ?_ consume1_frame rfl rfl
      refine Frame.then ?_ bothGates_frame rfl rfl
      exact h6
  · exact Frame.refl

theorem execStrandEvent_frame {a0 : Fin 1024} : ∃ t, execStrandEvent a0 s = .next t ∧ Frame (some [.BOB_EVENT, .FAB_CT_COUNT, .FAB_CT_EVENT, .FAB_CT_STATE, .FAB_EVENT, .FAB_EV_COUNT, .FAB_GRP_EVENT, .FAB_PLY_STATUS, .SPN_EVENT]) [.bob, .events, .fab, .later, .sup] s t := by
  refine ⟨_, rfl, ?_⟩
  refine Frame.then ?_ strandEvent_frame rfl rfl
  exact Frame.refl

theorem fabForce_frame {a0 : Word} : Frame (some [.FAB_EVENT, .FAB_EV_COUNT]) [.events, .fab, .sup] s (fabForce a0 s) := by
  unfold fabForce
  refine Frame.ite (fun _ => ?_) (fun _ => ?_)
  · refine Frame.raise ?_ (inRows_of (r := .FAB_EVENT) rfl (by exact rfl)) rfl
    refine Frame.then ?_ emitOn_frame rfl rfl
    exact Frame.refl
  · exact Frame.refl

theorem execFabForce_frame {a0 : Path} {a1 : Word} : ∃ t, execFabForce a0 a1 s = .next t ∧ Frame (some [.FAB_EVENT, .FAB_EV_COUNT, .HIF_EVENT, .HIF_WR_REF, .HIF_WR_REF_ADDR_HI, .HIF_WR_REF_ADDR_LO]) [.events, .fab, .resp, .sup] s t := by
  refine ⟨_, rfl, ?_⟩
  refine gated_frame ?_ rfl rfl (fun x hx => ?_)
  · exact Frame.refl
  · refine Frame.then ?_ fabForce_frame rfl rfl
    exact hx

theorem plyEval_frame {a0 : Nat} : Frame (some [.FAB_EVENT, .FAB_EV_COUNT, .FAB_PLY_STATUS]) [.events, .fab, .sup] s (plyEval a0 s) := by
  unfold plyEval
  extract_lets -merge -useContext -underBinder +onlyGivenNames v1
  refine Frame.ite (fun _ => ?_) (fun _ => ?_)
  · extract_lets -merge -useContext -underBinder +onlyGivenNames v2 x3
    refine Frame.via x3 ?_ fun h3 => ?_
    · unfold x3
      refine Frame.forN _ ?_ fun i x hx => ?_
      · exact Frame.refl
      · refine Frame.then ?_ takeEvent_frame rfl rfl
        exact hx
    try clear_value x3
    extract_lets -merge -useContext -underBinder +onlyGivenNames v4 v5 v6 v7 v8 v9 v10 v11 v12 v13 v14 v15
    first | split | (clear_value *; split)
    · extract_lets -merge -useContext -underBinder +onlyGivenNames v16 w17 x18
      refine Frame.via x18 ?_ fun h18 => ?_
      · unfold x18
        refine Frame.fab ?_ rfl (fun h => ⟨(by first | exact h.1 | exact sparseWf_sset h.1 | exact sparseWf_nil | exact sparseWf_filter h.1 | exact sparseWf_smap h.1 | exact sparseWf_sdrop h.1 | exact sparseWf_sset (sparseWf_sset h.1) | exact sparseWf_fold sparseWf_nil | (dsimp only; exact sparseWf_smap h.1)), (by first | exact h.2.1 | exact sparseWf_sset h.2.1 | exact sparseWf_nil | exact sparseWf_filter h.2.1 | exact sparseWf_smap h.2.1 | exact sparseWf_sdrop h.2.1 | exact sparseWf_sset (sparseWf_sset h.2.1) | exact sparseWf_fold sparseWf_nil | (dsimp only; exact sparseWf_smap h.2.1)), (by first | exact h.2.2.1 | exact sparseWf_sset h.2.2.1 | exact sparseWf_nil | exact sparseWf_filter h.2.2.1 | exact sparseWf_smap h.2.2.1 | exact sparseWf_sdrop h.2.2.1 | exact sparseWf_sset (sparseWf_sset h.2.2.1) | exact sparseWf_fold sparseWf_nil | (dsimp only; exact sparseWf_smap h.2.2.1)), (by first | exact h.2.2.2 | exact sparseWf_sset h.2.2.2 | exact sparseWf_nil | exact sparseWf_filter h.2.2.2 | exact sparseWf_smap h.2.2.2 | exact sparseWf_sdrop h.2.2.2 | exact sparseWf_sset (sparseWf_sset h.2.2.2) | exact sparseWf_fold sparseWf_nil | (dsimp only; exact sparseWf_smap h.2.2.2))⟩)
        exact h3
      try clear_value x18
      extract_lets -merge -useContext -underBinder +onlyGivenNames x19
      refine Frame.via x19 ?_ fun h19 => ?_
      · unfold x19
        refine Frame.put ?_ (inRows_of (r := .FAB_PLY_STATUS) rfl (by exact ⟨_, rfl⟩))
        refine Frame.put ?_ (inRows_of (r := .FAB_PLY_STATUS) rfl (by exact ⟨_, rfl⟩))
        exact h18
      try clear_value x19
      extract_lets -merge -useContext -underBinder +onlyGivenNames x20
      refine Frame.via x20 ?_ fun h20 => ?_
      · unfold x20
        refine Frame.put ?_ (inRows_of (r := .FAB_PLY_STATUS) rfl (by exact ⟨_, rfl⟩))
        refine Frame.put ?_ (inRows_of (r := .FAB_PLY_STATUS) rfl (by exact ⟨_, rfl⟩))
        exact h19
      try clear_value x20
      extract_lets -merge -useContext -underBinder +onlyGivenNames x21
      refine Frame.via x21 ?_ fun h21 => ?_
      · unfold x21
        refine Frame.ite (fun _ => ?_) (fun _ => ?_)
        · refine Frame.raise ?_ (inRows_of (r := .FAB_EVENT) rfl (by exact rfl)) rfl
          refine Frame.raise ?_ (inRows_of (r := .FAB_PLY_STATUS) rfl (by exact ⟨_, rfl⟩)) rfl
          exact h20
        · exact h20
      try clear_value x21
      refine Frame.ite (fun _ => ?_) (fun _ => ?_)
      · refine Frame.then ?_ emit_frame rfl rfl
        refine Frame.count ?_ (inRows_of (r := .FAB_PLY_STATUS) rfl (by exact ⟨_, rfl⟩))
        exact h21
      · exact h21
  · exact Frame.refl

theorem execPlyEval_frame {a0 : Fin 512} : ∃ t, execPlyEval a0 s = .next t ∧ Frame (some [.FAB_EVENT, .FAB_EV_COUNT, .FAB_PLY_STATUS]) [.events, .fab, .sup] s t := by
  refine ⟨_, rfl, ?_⟩
  refine Frame.then ?_ plyEval_frame rfl rfl
  exact Frame.refl

theorem trgEdge_frame {a0 : Nat} {a1 : Bool} : Frame (some []) [.fab, .later] s (trgEdge a0 a1 s) := by
  unfold trgEdge
  extract_lets -merge -useContext -underBinder +onlyGivenNames v1
  refine Frame.ite (fun _ => ?_) (fun _ => ?_)
  · exact Frame.refl
  · extract_lets -merge -useContext -underBinder +onlyGivenNames x2
    refine Frame.via x2 ?_ fun h2 => ?_
    · unfold x2
      refine Frame.then ?_ State.setTrgIn_frame rfl rfl
      exact Frame.refl
    try clear_value x2
    refine Frame.later ?_ rfl (fun _ => trivial)
    exact h2

theorem execTrgInEdge_frame {a0 : Fin 16} {a1 : Bool} : ∃ t, execTrgInEdge a0 a1 s = .next t ∧ Frame (some []) [.fab, .later] s t := by
  refine ⟨_, rfl, ?_⟩
  refine Frame.then ?_ trgEdge_frame rfl rfl
  exact Frame.refl

theorem trgStuck_frame {a0 : Nat} : Frame (some [.FAB_EVENT, .FAB_TRG_STATUS]) [.events, .fab, .sup] s (trgStuck a0 s) := by
  unfold trgStuck
  extract_lets -merge -useContext -underBinder +onlyGivenNames v1 v2
  refine Frame.ite (fun _ => ?_) (fun _ => ?_)
  · extract_lets -merge -useContext -underBinder +onlyGivenNames v3 x4
    refine Frame.via x4 ?_ fun h4 => ?_
    · unfold x4
      refine Frame.then ?_ State.setTrgIn_frame rfl rfl
      exact Frame.refl
    try clear_value x4
    refine Frame.raise ?_ (inRows_of (r := .FAB_EVENT) rfl (by exact rfl)) rfl
    refine Frame.raise ?_ (inRows_of (r := .FAB_TRG_STATUS) rfl (by exact ⟨_, rfl⟩)) rfl
    refine Frame.put ?_ (inRows_of (r := .FAB_TRG_STATUS) rfl (by exact ⟨_, rfl⟩))
    exact h4
  · exact Frame.refl

theorem execTrgInStuck_frame {a0 : Fin 16} : ∃ t, execTrgInStuck a0 s = .next t ∧ Frame (some [.FAB_EVENT, .FAB_TRG_STATUS]) [.events, .fab, .sup] s t := by
  refine ⟨_, rfl, ?_⟩
  refine Frame.then ?_ trgStuck_frame rfl rfl
  exact Frame.refl

theorem trgUnstuck_frame {a0 : Nat} : Frame (some [.FAB_TRG_STATUS]) [.fab] s (trgUnstuck a0 s) := by
  unfold trgUnstuck
  extract_lets -merge -useContext -underBinder +onlyGivenNames v1
  refine Frame.ite (fun _ => ?_) (fun _ => ?_)
  · refine Frame.then ?_ State.setTrgIn_frame rfl rfl
    refine Frame.put ?_ (inRows_of (r := .FAB_TRG_STATUS) rfl (by exact ⟨_, rfl⟩))
    exact Frame.refl
  · exact Frame.refl

theorem execTrgInUnstuck_frame {a0 : Fin 16} : ∃ t, execTrgInUnstuck a0 s = .next t ∧ Frame (some [.FAB_TRG_STATUS]) [.fab] s t := by
  refine ⟨_, rfl, ?_⟩
  refine Frame.then ?_ trgUnstuck_frame rfl rfl
  exact Frame.refl

theorem trgGlitch_frame {a0 : Nat} : Frame (some [.FAB_EVENT, .FAB_EV_COUNT, .FAB_TRG_STATUS]) [.events, .fab, .later, .sup] s (trgGlitch a0 s) := by
  unfold trgGlitch
  extract_lets -merge -useContext -underBinder +onlyGivenNames v1
  refine Frame.ite (fun _ => ?_) (fun _ => ?_)
  · extract_lets -merge -useContext -underBinder +onlyGivenNames v2
    refine Frame.then ?_ trgSample_frame rfl rfl
    refine Frame.then ?_ State.setTrgIn_frame rfl rfl
    refine Frame.later ?_ rfl (fun _ => trivial)
    exact Frame.refl
  · exact Frame.refl

theorem execTrgInGlitch_frame {a0 : Fin 16} : ∃ t, execTrgInGlitch a0 s = .next t ∧ Frame (some [.FAB_EVENT, .FAB_EV_COUNT, .FAB_TRG_STATUS]) [.events, .fab, .later, .sup] s t := by
  refine ⟨_, rfl, ?_⟩
  refine Frame.then ?_ trgGlitch_frame rfl rfl
  exact Frame.refl

theorem State.setLookups_frame {a0 : Nat} {a1 : List (Nat × Nat)} : Frame (some []) [.fab] s (State.setLookups s a0 a1) := by
  unfold State.setLookups
  refine Frame.fab ?_ rfl (fun h => ⟨(by first | exact h.1 | exact sparseWf_sset h.1 | exact sparseWf_nil | exact sparseWf_filter h.1 | exact sparseWf_smap h.1 | exact sparseWf_sdrop h.1 | exact sparseWf_sset (sparseWf_sset h.1) | exact sparseWf_fold sparseWf_nil | (dsimp only; exact sparseWf_smap h.1)), (by first | exact h.2.1 | exact sparseWf_sset h.2.1 | exact sparseWf_nil | exact sparseWf_filter h.2.1 | exact sparseWf_smap h.2.1 | exact sparseWf_sdrop h.2.1 | exact sparseWf_sset (sparseWf_sset h.2.1) | exact sparseWf_fold sparseWf_nil | (dsimp only; exact sparseWf_smap h.2.1)), (by first | exact h.2.2.1 | exact sparseWf_sset h.2.2.1 | exact sparseWf_nil | exact sparseWf_filter h.2.2.1 | exact sparseWf_smap h.2.2.1 | exact sparseWf_sdrop h.2.2.1 | exact sparseWf_sset (sparseWf_sset h.2.2.1) | exact sparseWf_fold sparseWf_nil | (dsimp only; exact sparseWf_smap h.2.2.1)), (by first | exact h.2.2.2 | exact sparseWf_sset h.2.2.2 | exact sparseWf_nil | exact sparseWf_filter h.2.2.2 | exact sparseWf_smap h.2.2.2 | exact sparseWf_sdrop h.2.2.2 | exact sparseWf_sset (sparseWf_sset h.2.2.2) | exact sparseWf_fold sparseWf_nil | (dsimp only; exact sparseWf_smap h.2.2.2))⟩)
  exact Frame.refl

theorem ctTrigger_frame {a0 : Nat} : Frame (some [.FAB_CT_COUNT, .FAB_CT_EVENT, .FAB_CT_STATE, .FAB_EVENT]) [.events, .fab, .sup] s (ctTrigger a0 s) := by
  unfold ctTrigger
  refine Frame.ite (fun _ => ?_) (fun _ => ?_)
  · extract_lets -merge -useContext -underBinder +onlyGivenNames x1
    refine Frame.via x1 ?_ fun h1 => ?_
    · unfold x1
      refine Frame.then ?_ takeEvent_frame rfl rfl
      exact Frame.refl
    try clear_value x1
    refine Frame.ite (fun _ => ?_) (fun _ => ?_)
    · exact h1
    · refine Frame.ite (fun _ => ?_) (fun _ => ?_)
      · refine Frame.raise ?_ (inRows_of (r := .FAB_EVENT) rfl (by exact rfl)) rfl
        refine Frame.count ?_ (inRows_of (r := .FAB_CT_COUNT) rfl (by exact ⟨_, rfl⟩))
        refine Frame.raise ?_ (inRows_of (r := .FAB_CT_EVENT) rfl (by exact ⟨_, rfl⟩)) rfl
        exact h1
      · extract_lets -merge -useContext -underBinder +onlyGivenNames x2
        refine Frame.via x2 ?_ fun h2 => ?_
        · unfold x2
          refine Frame.then ?_ State.setLookups_frame rfl rfl
          exact h1
        try clear_value x2
        refine Frame.put ?_ (inRows_of (r := .FAB_CT_STATE) rfl (by exact ⟨_, rfl⟩))
        refine Frame.put ?_ (inRows_of (r := .FAB_CT_STATE) rfl (by exact ⟨_, rfl⟩))
        exact h2
  · exact Frame.refl

theorem execCtTrigger_frame {a0 : Fin 16} : ∃ t, execCtTrigger a0 s = .next t ∧ Frame (some [.FAB_CT_COUNT, .FAB_CT_EVENT, .FAB_CT_STATE, .FAB_EVENT]) [.events, .fab, .sup] s t := by
  refine ⟨_, rfl, ?_⟩
  refine Frame.then ?_ ctTrigger_frame rfl rfl
  exact Frame.refl

theorem ctDone_frame {a0 : Nat} {a1 : Ecc} : Frame (some [.FAB_CT_COUNT, .FAB_CT_EVENT, .FAB_CT_LAST, .FAB_CT_LAST_MASK, .FAB_CT_STATE, .FAB_EVENT, .FAB_EV_COUNT]) [.events, .fab, .free, .sup] s (ctDone a0 a1 s) := by
  unfold ctDone
  first | split | (clear_value *; split)
  · refine Frame.ite (fun _ => ?_) (fun _ => ?_)
    · extract_lets -merge -useContext -underBinder +onlyGivenNames x1
      refine Frame.via x1 ?_ fun h1 => ?_
      · unfold x1
        refine Frame.put ?_ (inRows_of (r := .FAB_CT_STATE) rfl (by exact ⟨_, rfl⟩))
        refine Frame.then ?_ State.setLookups_frame rfl rfl
        exact Frame.refl
      try clear_value x1
      extract_lets -merge -useContext -underBinder +onlyGivenNames v2
      first | split | (clear_value *; split)
      · rename_i x3 e3
        refine Frame.via x3 (Frame.ofSnd e3 ?_) fun h3 => ?_
        · split
          · refine Frame.fresh ?_ rfl
            exact h1
          · exact h1
        extract_lets -merge -useContext -underBinder +onlyGivenNames x4
        refine Frame.via x4 ?_ fun h4 => ?_
        · unfold x4
          refine Frame.count ?_ (inRows_of (r := .FAB_CT_COUNT) rfl (by exact ⟨_, rfl⟩))
          refine Frame.wr ?_ (inRows_of (r := .FAB_CT_LAST_MASK) rfl (by exact ⟨_, rfl⟩))
          refine Frame.put ?_ (inRows_of (r := .FAB_CT_LAST) rfl (by exact ⟨_, rfl⟩))
          exact h3
        try clear_value x4
        first | split | (clear_value *; split)
        · refine Frame.raise ?_ (inRows_of (r := .FAB_EVENT) rfl (by exact rfl)) rfl
          refine Frame.raise ?_ (inRows_of (r := .FAB_CT_EVENT) rfl (by exact ⟨_, rfl⟩)) rfl
          exact h4
        · extract_lets -merge -useContext -underBinder +onlyGivenNames x5
          refine Frame.via x5 ?_ fun h5 => ?_
          · unfold x5
            refine Frame.ite (fun _ => ?_) (fun _ => ?_)
            · refine Frame.raise ?_ (inRows_of (r := .FAB_EVENT) rfl (by exact rfl)) rfl
              refine Frame.raise ?_ (inRows_of (r := .FAB_CT_EVENT) rfl (by exact ⟨_, rfl⟩)) rfl
              exact h4
            · exact h4
          try clear_value x5
          extract_lets -merge -useContext -underBinder +onlyGivenNames x6
          refine Frame.via x6 ?_ fun h6 => ?_
          · unfold x6
            refine Frame.forN _ ?_ fun i x hx => ?_
            · exact h5
            · refine Frame.ite (fun _ => ?_) (fun _ => ?_)
              · refine Frame.then ?_ emit_frame rfl rfl
                exact hx
              · exact hx
          try clear_value x6
          refine Frame.then ?_ emit_frame rfl rfl
          exact h6
    · exact Frame.refl
  · exact Frame.refl

theorem execCtLookupDone_frame {a0 : Fin 16} {a1 : Ecc} : ∃ t, execCtLookupDone a0 a1 s = .next t ∧ Frame (some [.FAB_CT_COUNT, .FAB_CT_EVENT, .FAB_CT_LAST, .FAB_CT_LAST_MASK, .FAB_CT_STATE, .FAB_EVENT, .FAB_EV_COUNT]) [.events, .fab, .free, .sup] s t := by
  refine ⟨_, rfl, ?_⟩
  refine Frame.then ?_ ctDone_frame rfl rfl
  exact Frame.refl

theorem exportSlot_frame {a0 : Nat} {a1 : Nat} : Frame (some [.FAB_EVENT, .FAB_GRP_COUNT, .FAB_GRP_EVENT, .FAB_GRP_STATUS]) [.events, .fab, .sup] s (exportSlot a0 a1 s) := by
  unfold exportSlot
  extract_lets -merge -useContext -underBinder +onlyGivenNames v1
  refine Frame.ite (fun _ => ?_) (fun _ => ?_)
  · extract_lets -merge -useContext -underBinder +onlyGivenNames x2
    refine Frame.via x2 ?_ fun h2 => ?_
    · unfold x2
      refine Frame.then ?_ takeEvent_frame rfl rfl
      exact Frame.refl
    try clear_value x2
    extract_lets -merge -useContext -underBinder +onlyGivenNames v3
    refine Frame.ite (fun _ => ?_) (fun _ => ?_)
    · refine Frame.then ?_ dropSlot_frame rfl rfl
      exact h2
    · refine Frame.ite (fun _ => ?_) (fun _ => ?_)
      · refine Frame.raise ?_ (inRows_of (r := .FAB_EVENT) rfl (by exact rfl)) rfl
        refine Frame.raise ?_ (inRows_of (r := .FAB_GRP_EVENT) rfl (by exact ⟨_, rfl⟩)) rfl
        exact h2
      · refine Frame.put ?_ (inRows_of (r := .FAB_GRP_STATUS) rfl (by exact ⟨_, rfl⟩))
        exact h2
  · exact Frame.refl

theorem execExportSlotEvent_frame {a0 : Fin 64} {a1 : Fin 16} : ∃ t, execExportSlotEvent a0 a1 s = .next t ∧ Frame (some [.FAB_EVENT, .FAB_GRP_COUNT, .FAB_GRP_EVENT, .FAB_GRP_STATUS]) [.events, .fab, .sup] s t := by
  refine ⟨_, rfl, ?_⟩
  refine Frame.then ?_ exportSlot_frame rfl rfl
  exact Frame.refl

theorem exportGate_frame {a0 : Nat} {a1 : Bool} : Frame (some []) [.fab, .later] s (exportGate a0 a1 s) := by
  unfold exportGate
  extract_lets -merge -useContext -underBinder +onlyGivenNames v1
  refine Frame.ite (fun _ => ?_) (fun _ => ?_)
  · extract_lets -merge -useContext -underBinder +onlyGivenNames x2
    refine Frame.via x2 ?_ fun h2 => ?_
    · unfold x2
      refine Frame.then ?_ takeEvent_frame rfl rfl
      exact Frame.refl
    try clear_value x2
    refine Frame.ite (fun _ => ?_) (fun _ => ?_)
    · refine Frame.later ?_ rfl (fun _ => trivial)
      exact h2
    · refine Frame.ite (fun _ => ?_) (fun _ => ?_)
      · exact h2
      · refine Frame.later ?_ rfl (fun _ => trivial)
        exact h2
  · exact Frame.refl

theorem execExportGateEnable_frame {a0 : Fin 64} : ∃ t, execExportGateEnable a0 s = .next t ∧ Frame (some []) [.fab, .later] s t := by
  refine ⟨_, rfl, ?_⟩
  refine Frame.then ?_ exportGate_frame rfl rfl
  exact Frame.refl

theorem execExportGateDisable_frame {a0 : Fin 64} : ∃ t, execExportGateDisable a0 s = .next t ∧ Frame (some []) [.fab, .later] s t := by
  refine ⟨_, rfl, ?_⟩
  refine Frame.then ?_ exportGate_frame rfl rfl
  exact Frame.refl

end Sys2Proof.Machine
end

