-- ==== Sys2Proof/Laws/Frame/Supervisor.lean ====
section
/-! SUPPORT. Laws/Frame/Supervisor.lean: what each operation of Machine/Supervisor.lean can change, and that it keeps a sound state sound. -/

set_option Elab.async false

namespace Sys2Proof.Machine

variable {R : Option (List RegRow)} {P : List Part} {s t : State}

theorem levelBreach_frame {a0 : Nat} {a1 : Bool} {a2 : Nat} : Frame (some [.SUP_EVENT, .SUP_MON_STATUS, .SUP_TRIP, .SUP_TRIP_ERR, .SUP_TRIP_REEL_HI, .SUP_TRIP_REEL_LO, .SUP_TRIP_SEEN]) [.events, .glb, .sup] s (levelBreach a0 a1 a2 s) := by
  unfold levelBreach
  extract_lets -merge -useContext -underBinder +onlyGivenNames v1
  refine Frame.ite (fun _ => ?_) (fun _ => ?_)
  · exact Frame.refl
  · extract_lets -merge -useContext -underBinder +onlyGivenNames v2 v3 x4
    refine Frame.via x4 ?_ fun h4 => ?_
    · unfold x4
      refine Frame.ite (fun _ => ?_) (fun _ => ?_)
      · exact Frame.refl
      · refine Frame.then ?_ flagBreach_frame rfl rfl
        refine Frame.then ?_ State.setMon_frame rfl rfl
        exact Frame.refl
    try clear_value x4
    refine Frame.then ?_ detect_frame rfl rfl
    exact h4

theorem execMonitorBreach_frame {a0 : Breach} : ∃ t, execMonitorBreach a0 s = .next t ∧ Frame (some [.SUP_EVENT, .SUP_MON_STATUS, .SUP_TRIP, .SUP_TRIP_ERR, .SUP_TRIP_REEL_HI, .SUP_TRIP_REEL_LO, .SUP_TRIP_SEEN]) [.events, .glb, .sup] s t := by
  refine ⟨_, rfl, ?_⟩
  first | split | (clear_value *; split)
  · refine Frame.then ?_ levelBreach_frame rfl rfl
    exact Frame.refl
  · refine Frame.then ?_ detect_frame rfl rfl
    exact Frame.refl
  · refine Frame.ite (fun _ => ?_) (fun _ => ?_)
    · refine Frame.then ?_ detect_frame rfl rfl
      exact Frame.refl
    · exact Frame.refl

theorem execMonitorBreachClear_frame {a0 : Fin 240} {a1 : Fin 4} : ∃ t, execMonitorBreachClear a0 a1 s = .next t ∧ Frame (some [.SUP_MON_STATUS]) [.sup] s t := by
  refine ⟨_, rfl, ?_⟩
  refine Frame.then ?_ showBreach_frame rfl rfl
  refine Frame.then ?_ State.setMon_frame rfl rfl
  exact Frame.refl

theorem df2Evaluate_frame {a0 : Nat} {a1 : List Nat} : Frame (some [.SUP_EVENT, .SUP_MON_STATUS, .SUP_TRIP, .SUP_TRIP_ERR, .SUP_TRIP_REEL_HI, .SUP_TRIP_REEL_LO, .SUP_TRIP_SEEN]) [.events, .glb, .sup] s (df2Evaluate a0 a1 s) := by
  unfold df2Evaluate
  extract_lets -merge -useContext -underBinder +onlyGivenNames v1 v2 v3 x4
  refine Frame.via x4 ?_ fun h4 => ?_
  · unfold x4
    refine Frame.then ?_ State.setMon_frame rfl rfl
    exact Frame.refl
  try clear_value x4
  refine Frame.ite (fun _ => ?_) (fun _ => ?_)
  · refine Frame.then ?_ detect_frame rfl rfl
    refine Frame.then ?_ flagBreach_frame rfl rfl
    exact h4
  · refine Frame.then ?_ showBreach_frame rfl rfl
    exact h4

theorem execDf2Evaluation_frame {a0 : List (List Nat)} : ∃ t, execDf2Evaluation a0 s = .next t ∧ Frame (some [.SUP_EVENT, .SUP_MON_STATUS, .SUP_TRIP, .SUP_TRIP_ERR, .SUP_TRIP_REEL_HI, .SUP_TRIP_REEL_LO, .SUP_TRIP_SEEN]) [.events, .glb, .sup] s t := by
  refine ⟨_, rfl, ?_⟩
  refine Frame.forN _ ?_ fun i x hx => ?_
  · exact Frame.refl
  · refine Frame.then ?_ df2Evaluate_frame rfl rfl
    exact hx

theorem biasStepSample_frame {a0 : Nat} {a1 : Int} : Frame (some [.SUP_EVENT, .SUP_MON_STATUS, .SUP_TRIP, .SUP_TRIP_ERR, .SUP_TRIP_REEL_HI, .SUP_TRIP_REEL_LO, .SUP_TRIP_SEEN]) [.events, .glb, .sup] s (biasStepSample a0 a1 s) := by
  unfold biasStepSample
  extract_lets -merge -useContext -underBinder +onlyGivenNames v1 v2
  refine Frame.ite (fun _ => ?_) (fun _ => ?_)
  · exact Frame.refl
  · extract_lets -merge -useContext -underBinder +onlyGivenNames v3 x4
    refine Frame.via x4 ?_ fun h4 => ?_
    · unfold x4
      refine Frame.then ?_ State.setMon_frame rfl rfl
      exact Frame.refl
    try clear_value x4
    extract_lets -merge -useContext -underBinder +onlyGivenNames v5
    refine Frame.ite (fun _ => ?_) (fun _ => ?_)
    · refine Frame.then ?_ detect_frame rfl rfl
      refine Frame.then ?_ flagBreach_frame rfl rfl
      exact h4
    · refine Frame.then ?_ showBreach_frame rfl rfl
      exact h4

theorem execBiasStepSample_frame {a0 : Fin 64} {a1 : Int} : ∃ t, execBiasStepSample a0 a1 s = .next t ∧ Frame (some [.SUP_EVENT, .SUP_MON_STATUS, .SUP_TRIP, .SUP_TRIP_ERR, .SUP_TRIP_REEL_HI, .SUP_TRIP_REEL_LO, .SUP_TRIP_SEEN]) [.events, .glb, .sup] s t := by
  refine ⟨_, rfl, ?_⟩
  refine Frame.then ?_ biasStepSample_frame rfl rfl
  exact Frame.refl

theorem selftestFail_frame {a0 : Nat} : Frame (some [.SUP_SELFTEST, .SUP_STATUS, .SUP_TRIP, .SUP_TRIP_ERR, .SUP_TRIP_REEL_HI, .SUP_TRIP_REEL_LO, .SUP_TRIP_SEEN]) [.glb, .sup] s (selftestFail a0 s) := by
  unfold selftestFail
  extract_lets -merge -useContext -underBinder +onlyGivenNames x1
  refine Frame.via x1 ?_ fun h1 => ?_
  · unfold x1
    refine Frame.put ?_ (inRows_of (r := .SUP_STATUS) rfl (by exact rfl))
    refine Frame.put ?_ (inRows_of (r := .SUP_SELFTEST) rfl (by exact rfl))
    refine Frame.put ?_ (inRows_of (r := .SUP_SELFTEST) rfl (by exact rfl))
    exact Frame.refl
  try clear_value x1
  refine Frame.then ?_ detect_frame rfl rfl
  refine Frame.sup ?_ rfl (by first | exact id | exact fun h => ⟨(by first | exact h.1 | exact sparseWf_sset h.1 | exact sparseWf_nil | exact sparseWf_filter h.1 | exact sparseWf_smap h.1 | exact sparseWf_sdrop h.1 | exact sparseWf_sset (sparseWf_sset h.1) | exact sparseWf_fold sparseWf_nil | (dsimp only; exact sparseWf_smap h.1)), (by first | exact h.2.1 | exact sparseWf_sset h.2.1 | exact sparseWf_nil | exact sparseWf_filter h.2.1 | exact sparseWf_smap h.2.1 | exact sparseWf_sdrop h.2.1 | exact sparseWf_sset (sparseWf_sset h.2.1) | exact sparseWf_fold sparseWf_nil | (dsimp only; exact sparseWf_smap h.2.1)), (by first | exact h.2.2.1 | exact sparseWf_sset h.2.2.1 | exact sparseWf_nil | exact sparseWf_filter h.2.2.1 | exact sparseWf_smap h.2.2.1 | exact sparseWf_sdrop h.2.2.1 | exact sparseWf_sset (sparseWf_sset h.2.2.1) | exact sparseWf_fold sparseWf_nil | (dsimp only; exact sparseWf_smap h.2.2.1)), (by first | exact h.2.2.2.1 | exact sparseWf_sset h.2.2.2.1 | exact sparseWf_nil | exact sparseWf_filter h.2.2.2.1 | exact sparseWf_smap h.2.2.2.1 | exact sparseWf_sdrop h.2.2.2.1 | exact sparseWf_sset (sparseWf_sset h.2.2.2.1) | exact sparseWf_fold sparseWf_nil | (dsimp only; exact sparseWf_smap h.2.2.2.1)), (by first | exact h.2.2.2.2.1 | exact sparseWf_sset h.2.2.2.2.1 | exact sparseWf_nil | exact sparseWf_filter h.2.2.2.2.1 | exact sparseWf_smap h.2.2.2.2.1 | exact sparseWf_sdrop h.2.2.2.2.1 | exact sparseWf_sset (sparseWf_sset h.2.2.2.2.1) | exact sparseWf_fold sparseWf_nil | (dsimp only; exact sparseWf_smap h.2.2.2.2.1)), (by first | exact h.2.2.2.2.2 | exact sparseWf_sset h.2.2.2.2.2 | exact sparseWf_nil | exact sparseWf_filter h.2.2.2.2.2 | exact sparseWf_smap h.2.2.2.2.2 | exact sparseWf_sdrop h.2.2.2.2.2 | exact sparseWf_sset (sparseWf_sset h.2.2.2.2.2) | exact sparseWf_fold sparseWf_nil | (dsimp only; exact sparseWf_smap h.2.2.2.2.2))⟩)
  exact h1

theorem execClockCheck_frame {a0 : Nat} : ∃ t, execClockCheck a0 s = .next t ∧ Frame (some [.SUP_SELFTEST, .SUP_STATUS, .SUP_TRIP, .SUP_TRIP_ERR, .SUP_TRIP_REEL_HI, .SUP_TRIP_REEL_LO, .SUP_TRIP_SEEN]) [.glb, .sup] s t := by
  refine ⟨_, rfl, ?_⟩
  extract_lets -merge -useContext -underBinder +onlyGivenNames v1
  refine Frame.ite (fun _ => ?_) (fun _ => ?_)
  · refine Frame.ite (fun _ => ?_) (fun _ => ?_)
    · refine Frame.then ?_ detect_frame rfl rfl
      exact Frame.refl
    · exact Frame.refl
  · refine Frame.ite (fun _ => ?_) (fun _ => ?_)
    · refine Frame.then ?_ selftestFail_frame rfl rfl
      exact Frame.refl
    · exact Frame.refl

theorem execHeartbeatTimeout_frame {a0 : Fin 64} : ∃ t, execHeartbeatTimeout a0 s = .next t ∧ Frame (some [.SUP_TRIP, .SUP_TRIP_ERR, .SUP_TRIP_REEL_HI, .SUP_TRIP_REEL_LO, .SUP_TRIP_SEEN]) [.glb, .sup] s t := by
  refine ⟨_, rfl, ?_⟩
  refine Frame.ite (fun _ => ?_) (fun _ => ?_)
  · refine Frame.then ?_ detect_frame rfl rfl
    exact Frame.refl
  · exact Frame.refl

theorem execUeLine_frame {a0 : Fin 67108864} : ∃ t, execUeLine a0 s = .next t ∧ Frame (some [.SUP_TRIP, .SUP_TRIP_ERR, .SUP_TRIP_REEL_HI, .SUP_TRIP_REEL_LO, .SUP_TRIP_SEEN]) [.glb, .sup] s t := by
  refine ⟨_, rfl, ?_⟩
  refine Frame.ite (fun _ => ?_) (fun _ => ?_)
  · refine Frame.then ?_ detect_frame rfl rfl
    exact Frame.refl
  · exact Frame.refl

theorem plantIlk_frame {a0 : Bool} : Frame (some [.SUP_EVENT, .SUP_STATUS, .SUP_TRIP, .SUP_TRIP_ERR, .SUP_TRIP_REEL_HI, .SUP_TRIP_REEL_LO, .SUP_TRIP_SEEN, .SYN_MRK_LEVEL, .SYN_TRG_LEVEL]) [.events, .glb, .sup, .syn] s (plantIlk a0 s) := by
  unfold plantIlk
  refine Frame.ite (fun _ => ?_) (fun _ => ?_)
  · exact Frame.refl
  · extract_lets -merge -useContext -underBinder +onlyGivenNames x1
    refine Frame.via x1 ?_ fun h1 => ?_
    · unfold x1
      refine permitting_frame ?_ rfl rfl (fun x hx => ?_)
      · exact Frame.refl
      · refine Frame.put ?_ (inRows_of (r := .SUP_STATUS) rfl (by exact rfl))
        exact hx
    try clear_value x1
    extract_lets -merge -useContext -underBinder +onlyGivenNames x2
    refine Frame.via x2 ?_ fun h2 => ?_
    · unfold x2
      refine Frame.raise ?_ (inRows_of (r := .SUP_EVENT) rfl (by exact rfl)) rfl
      exact h1
    try clear_value x2
    refine Frame.ite (fun _ => ?_) (fun _ => ?_)
    · refine Frame.then ?_ detect_frame rfl rfl
      exact h2
    · exact h2

theorem execPlantIlkChange_frame {a0 : Bool} : ∃ t, execPlantIlkChange a0 s = .next t ∧ Frame (some [.SUP_EVENT, .SUP_STATUS, .SUP_TRIP, .SUP_TRIP_ERR, .SUP_TRIP_REEL_HI, .SUP_TRIP_REEL_LO, .SUP_TRIP_SEEN, .SYN_MRK_LEVEL, .SYN_TRG_LEVEL]) [.events, .glb, .sup, .syn] s t := by
  refine ⟨_, rfl, ?_⟩
  refine Frame.then ?_ plantIlk_frame rfl rfl
  exact Frame.refl

theorem recordTrip_frame {a0 : List Detection} : Frame (some [.SUP_TRIP, .SUP_TRIP_ERR, .SUP_TRIP_REEL_HI, .SUP_TRIP_REEL_LO, .SUP_TRIP_SEEN]) [] s (recordTrip a0 s) := by
  unfold recordTrip
  extract_lets -merge -useContext -underBinder +onlyGivenNames x1
  refine Frame.via x1 ?_ fun h1 => ?_
  · unfold x1
    refine Frame.forAll _ ?_ fun i x hx => ?_
    · exact Frame.refl
    · refine Frame.then ?_ seen_frame rfl rfl
      exact hx
  try clear_value x1
  first | split | (clear_value *; split)
  · refine Frame.then ?_ recordFirst_frame rfl rfl
    exact h1
  · exact h1

theorem enterSafe_frame  : Frame none [.bob, .csc, .dram, .dsc, .events, .fab, .free, .glb, .jobs, .later, .mem, .pwr, .rdo, .rv, .sec, .spn, .sram, .sup, .syn, .tap, .tln] s (enterSafe s) := by
  unfold enterSafe
  extract_lets -merge -useContext -underBinder +onlyGivenNames w1 x2
  refine Frame.via x2 ?_ fun h2 => ?_
  · unfold x2
    refine Frame.sup ?_ rfl (by first | exact id | exact fun h => ⟨(by first | exact h.1 | exact sparseWf_sset h.1 | exact sparseWf_nil | exact sparseWf_filter h.1 | exact sparseWf_smap h.1 | exact sparseWf_sdrop h.1 | exact sparseWf_sset (sparseWf_sset h.1) | exact sparseWf_fold sparseWf_nil | (dsimp only; exact sparseWf_smap h.1)), (by first | exact h.2.1 | exact sparseWf_sset h.2.1 | exact sparseWf_nil | exact sparseWf_filter h.2.1 | exact sparseWf_smap h.2.1 | exact sparseWf_sdrop h.2.1 | exact sparseWf_sset (sparseWf_sset h.2.1) | exact sparseWf_fold sparseWf_nil | (dsimp only; exact sparseWf_smap h.2.1)), (by first | exact h.2.2.1 | exact sparseWf_sset h.2.2.1 | exact sparseWf_nil | exact sparseWf_filter h.2.2.1 | exact sparseWf_smap h.2.2.1 | exact sparseWf_sdrop h.2.2.1 | exact sparseWf_sset (sparseWf_sset h.2.2.1) | exact sparseWf_fold sparseWf_nil | (dsimp only; exact sparseWf_smap h.2.2.1)), (by first | exact h.2.2.2.1 | exact sparseWf_sset h.2.2.2.1 | exact sparseWf_nil | exact sparseWf_filter h.2.2.2.1 | exact sparseWf_smap h.2.2.2.1 | exact sparseWf_sdrop h.2.2.2.1 | exact sparseWf_sset (sparseWf_sset h.2.2.2.1) | exact sparseWf_fold sparseWf_nil | (dsimp only; exact sparseWf_smap h.2.2.2.1)), (by first | exact h.2.2.2.2.1 | exact sparseWf_sset h.2.2.2.2.1 | exact sparseWf_nil | exact sparseWf_filter h.2.2.2.2.1 | exact sparseWf_smap h.2.2.2.2.1 | exact sparseWf_sdrop h.2.2.2.2.1 | exact sparseWf_sset (sparseWf_sset h.2.2.2.2.1) | exact sparseWf_fold sparseWf_nil | (dsimp only; exact sparseWf_smap h.2.2.2.2.1)), (by first | exact h.2.2.2.2.2 | exact sparseWf_sset h.2.2.2.2.2 | exact sparseWf_nil | exact sparseWf_filter h.2.2.2.2.2 | exact sparseWf_smap h.2.2.2.2.2 | exact sparseWf_sdrop h.2.2.2.2.2 | exact sparseWf_sset (sparseWf_sset h.2.2.2.2.2) | exact sparseWf_fold sparseWf_nil | (dsimp only; exact sparseWf_smap h.2.2.2.2.2))⟩)
    exact Frame.refl
  try clear_value x2
  extract_lets -merge -useContext -underBinder +onlyGivenNames x3
  refine Frame.via x3 ?_ fun h3 => ?_
  · unfold x3
    refine Frame.ite (fun _ => ?_) (fun _ => ?_)
    · refine Frame.put ?_ (inRows_of (r := .GLB_MODE_STATUS) rfl (by exact rfl))
      exact h2
    · refine Frame.then ?_ finishRequest_frame rfl rfl
      exact h2
  try clear_value x3
  refine Frame.then ?_ enterMode_frame rfl rfl
  refine Frame.glb ?_ rfl (fun _ => trivial)
  exact h3

theorem trip_frame  : Frame none [.bob, .csc, .dram, .dsc, .events, .fab, .free, .glb, .jobs, .later, .mem, .pwr, .rdo, .rv, .sec, .spn, .sram, .sup, .syn, .tap, .tln] s (trip s) := by
  unfold trip
  refine Frame.ite (fun _ => ?_) (fun _ => ?_)
  · refine Frame.sup ?_ rfl (fun h => ⟨(by first | exact h.1 | exact sparseWf_sset h.1 | exact sparseWf_nil | exact sparseWf_filter h.1 | exact sparseWf_smap h.1 | exact sparseWf_sdrop h.1 | exact sparseWf_sset (sparseWf_sset h.1) | exact sparseWf_fold sparseWf_nil | (dsimp only; exact sparseWf_smap h.1)), (by first | exact h.2.1 | exact sparseWf_sset h.2.1 | exact sparseWf_nil | exact sparseWf_filter h.2.1 | exact sparseWf_smap h.2.1 | exact sparseWf_sdrop h.2.1 | exact sparseWf_sset (sparseWf_sset h.2.1) | exact sparseWf_fold sparseWf_nil | (dsimp only; exact sparseWf_smap h.2.1)), (by first | exact h.2.2.1 | exact sparseWf_sset h.2.2.1 | exact sparseWf_nil | exact sparseWf_filter h.2.2.1 | exact sparseWf_smap h.2.2.1 | exact sparseWf_sdrop h.2.2.1 | exact sparseWf_sset (sparseWf_sset h.2.2.1) | exact sparseWf_fold sparseWf_nil | (dsimp only; exact sparseWf_smap h.2.2.1)), (by first | exact h.2.2.2.1 | exact sparseWf_sset h.2.2.2.1 | exact sparseWf_nil | exact sparseWf_filter h.2.2.2.1 | exact sparseWf_smap h.2.2.2.1 | exact sparseWf_sdrop h.2.2.2.1 | exact sparseWf_sset (sparseWf_sset h.2.2.2.1) | exact sparseWf_fold sparseWf_nil | (dsimp only; exact sparseWf_smap h.2.2.2.1)), (by first | exact h.2.2.2.2.1 | exact sparseWf_sset h.2.2.2.2.1 | exact sparseWf_nil | exact sparseWf_filter h.2.2.2.2.1 | exact sparseWf_smap h.2.2.2.2.1 | exact sparseWf_sdrop h.2.2.2.2.1 | exact sparseWf_sset (sparseWf_sset h.2.2.2.2.1) | exact sparseWf_fold sparseWf_nil | (dsimp only; exact sparseWf_smap h.2.2.2.2.1)), (by first | exact h.2.2.2.2.2 | exact sparseWf_sset h.2.2.2.2.2 | exact sparseWf_nil | exact sparseWf_filter h.2.2.2.2.2 | exact sparseWf_smap h.2.2.2.2.2 | exact sparseWf_sdrop h.2.2.2.2.2 | exact sparseWf_sset (sparseWf_sset h.2.2.2.2.2) | exact sparseWf_fold sparseWf_nil | (dsimp only; exact sparseWf_smap h.2.2.2.2.2))⟩)
    exact Frame.refl
  · extract_lets -merge -useContext -underBinder +onlyGivenNames v1 x2
    refine Frame.via x2 ?_ fun h2 => ?_
    · unfold x2
      refine permitting_frame ?_ rfl rfl (fun x hx => ?_)
      · exact Frame.refl
      · refine Frame.sup ?_ rfl (fun h => ⟨(by first | exact h.1 | exact sparseWf_sset h.1 | exact sparseWf_nil | exact sparseWf_filter h.1 | exact sparseWf_smap h.1 | exact sparseWf_sdrop h.1 | exact sparseWf_sset (sparseWf_sset h.1) | exact sparseWf_fold sparseWf_nil | (dsimp only; exact sparseWf_smap h.1)), (by first | exact h.2.1 | exact sparseWf_sset h.2.1 | exact sparseWf_nil | exact sparseWf_filter h.2.1 | exact sparseWf_smap h.2.1 | exact sparseWf_sdrop h.2.1 | exact sparseWf_sset (sparseWf_sset h.2.1) | exact sparseWf_fold sparseWf_nil | (dsimp only; exact sparseWf_smap h.2.1)), (by first | exact h.2.2.1 | exact sparseWf_sset h.2.2.1 | exact sparseWf_nil | exact sparseWf_filter h.2.2.1 | exact sparseWf_smap h.2.2.1 | exact sparseWf_sdrop h.2.2.1 | exact sparseWf_sset (sparseWf_sset h.2.2.1) | exact sparseWf_fold sparseWf_nil | (dsimp only; exact sparseWf_smap h.2.2.1)), (by first | exact h.2.2.2.1 | exact sparseWf_sset h.2.2.2.1 | exact sparseWf_nil | exact sparseWf_filter h.2.2.2.1 | exact sparseWf_smap h.2.2.2.1 | exact sparseWf_sdrop h.2.2.2.1 | exact sparseWf_sset (sparseWf_sset h.2.2.2.1) | exact sparseWf_fold sparseWf_nil | (dsimp only; exact sparseWf_smap h.2.2.2.1)), (by first | exact h.2.2.2.2.1 | exact sparseWf_sset h.2.2.2.2.1 | exact sparseWf_nil | exact sparseWf_filter h.2.2.2.2.1 | exact sparseWf_smap h.2.2.2.2.1 | exact sparseWf_sdrop h.2.2.2.2.1 | exact sparseWf_sset (sparseWf_sset h.2.2.2.2.1) | exact sparseWf_fold sparseWf_nil | (dsimp only; exact sparseWf_smap h.2.2.2.2.1)), (by first | exact h.2.2.2.2.2 | exact sparseWf_sset h.2.2.2.2.2 | exact sparseWf_nil | exact sparseWf_filter h.2.2.2.2.2 | exact sparseWf_smap h.2.2.2.2.2 | exact sparseWf_sdrop h.2.2.2.2.2 | exact sparseWf_sset (sparseWf_sset h.2.2.2.2.2) | exact sparseWf_fold sparseWf_nil | (dsimp only; exact sparseWf_smap h.2.2.2.2.2))⟩)
        exact hx
    try clear_value x2
    extract_lets -merge -useContext -underBinder +onlyGivenNames x3
    refine Frame.via x3 ?_ fun h3 => ?_
    · unfold x3
      refine Frame.raise ?_ (inRows_of (r := .SUP_EVENT) rfl (by exact rfl)) rfl
      refine Frame.then ?_ recordTrip_frame rfl rfl
      exact h2
    try clear_value x3
    refine Frame.then ?_ enterSafe_frame rfl rfl
    refine Frame.put ?_ (inRows_of (r := .SUP_STATUS) rfl (by exact rfl))
    exact h3

theorem execTrip_frame  : ∃ t, execTrip s = .next t ∧ Frame none [.bob, .csc, .dram, .dsc, .events, .fab, .free, .glb, .jobs, .later, .mem, .pwr, .rdo, .rv, .sec, .spn, .sram, .sup, .syn, .tap, .tln] s t := by
  refine ⟨_, rfl, ?_⟩
  refine Frame.then ?_ trip_frame rfl rfl
  exact Frame.refl

theorem execPermitLoss_frame  : ∃ t, execPermitLoss s = .next t ∧ Frame none [.bob, .csc, .dram, .dsc, .events, .fab, .free, .glb, .jobs, .later, .mem, .pwr, .rdo, .rv, .sec, .spn, .sram, .sup, .syn, .tap, .tln] s t := by
  refine ⟨_, rfl, ?_⟩
  refine Frame.ite (fun _ => ?_) (fun _ => ?_)
  · exact Frame.refl
  · refine Frame.then ?_ enterSafe_frame rfl rfl
    refine permitting_frame ?_ rfl rfl (fun x hx => ?_)
    · exact Frame.refl
    · refine Frame.sup ?_ rfl (by first | exact id | exact fun h => ⟨(by first | exact h.1 | exact sparseWf_sset h.1 | exact sparseWf_nil | exact sparseWf_filter h.1 | exact sparseWf_smap h.1 | exact sparseWf_sdrop h.1 | exact sparseWf_sset (sparseWf_sset h.1) | exact sparseWf_fold sparseWf_nil | (dsimp only; exact sparseWf_smap h.1)), (by first | exact h.2.1 | exact sparseWf_sset h.2.1 | exact sparseWf_nil | exact sparseWf_filter h.2.1 | exact sparseWf_smap h.2.1 | exact sparseWf_sdrop h.2.1 | exact sparseWf_sset (sparseWf_sset h.2.1) | exact sparseWf_fold sparseWf_nil | (dsimp only; exact sparseWf_smap h.2.1)), (by first | exact h.2.2.1 | exact sparseWf_sset h.2.2.1 | exact sparseWf_nil | exact sparseWf_filter h.2.2.1 | exact sparseWf_smap h.2.2.1 | exact sparseWf_sdrop h.2.2.1 | exact sparseWf_sset (sparseWf_sset h.2.2.1) | exact sparseWf_fold sparseWf_nil | (dsimp only; exact sparseWf_smap h.2.2.1)), (by first | exact h.2.2.2.1 | exact sparseWf_sset h.2.2.2.1 | exact sparseWf_nil | exact sparseWf_filter h.2.2.2.1 | exact sparseWf_smap h.2.2.2.1 | exact sparseWf_sdrop h.2.2.2.1 | exact sparseWf_sset (sparseWf_sset h.2.2.2.1) | exact sparseWf_fold sparseWf_nil | (dsimp only; exact sparseWf_smap h.2.2.2.1)), (by first | exact h.2.2.2.2.1 | exact sparseWf_sset h.2.2.2.2.1 | exact sparseWf_nil | exact sparseWf_filter h.2.2.2.2.1 | exact sparseWf_smap h.2.2.2.2.1 | exact sparseWf_sdrop h.2.2.2.2.1 | exact sparseWf_sset (sparseWf_sset h.2.2.2.2.1) | exact sparseWf_fold sparseWf_nil | (dsimp only; exact sparseWf_smap h.2.2.2.2.1)), (by first | exact h.2.2.2.2.2 | exact sparseWf_sset h.2.2.2.2.2 | exact sparseWf_nil | exact sparseWf_filter h.2.2.2.2.2 | exact sparseWf_smap h.2.2.2.2.2 | exact sparseWf_sdrop h.2.2.2.2.2 | exact sparseWf_sset (sparseWf_sset h.2.2.2.2.2) | exact sparseWf_fold sparseWf_nil | (dsimp only; exact sparseWf_smap h.2.2.2.2.2))⟩)
      exact hx

theorem execSupSupplyFail_frame  : ∃ t, execSupSupplyFail s = .next t ∧ Frame (some [.SYN_MRK_LEVEL, .SYN_TRG_LEVEL]) [.sup, .syn] s t := by
  refine ⟨_, rfl, ?_⟩
  refine permitting_frame ?_ rfl rfl (fun x hx => ?_)
  · exact Frame.refl
  · refine Frame.sup ?_ rfl (by first | exact id | exact fun h => ⟨(by first | exact h.1 | exact sparseWf_sset h.1 | exact sparseWf_nil | exact sparseWf_filter h.1 | exact sparseWf_smap h.1 | exact sparseWf_sdrop h.1 | exact sparseWf_sset (sparseWf_sset h.1) | exact sparseWf_fold sparseWf_nil | (dsimp only; exact sparseWf_smap h.1)), (by first | exact h.2.1 | exact sparseWf_sset h.2.1 | exact sparseWf_nil | exact sparseWf_filter h.2.1 | exact sparseWf_smap h.2.1 | exact sparseWf_sdrop h.2.1 | exact sparseWf_sset (sparseWf_sset h.2.1) | exact sparseWf_fold sparseWf_nil | (dsimp only; exact sparseWf_smap h.2.1)), (by first | exact h.2.2.1 | exact sparseWf_sset h.2.2.1 | exact sparseWf_nil | exact sparseWf_filter h.2.2.1 | exact sparseWf_smap h.2.2.1 | exact sparseWf_sdrop h.2.2.1 | exact sparseWf_sset (sparseWf_sset h.2.2.1) | exact sparseWf_fold sparseWf_nil | (dsimp only; exact sparseWf_smap h.2.2.1)), (by first | exact h.2.2.2.1 | exact sparseWf_sset h.2.2.2.1 | exact sparseWf_nil | exact sparseWf_filter h.2.2.2.1 | exact sparseWf_smap h.2.2.2.1 | exact sparseWf_sdrop h.2.2.2.1 | exact sparseWf_sset (sparseWf_sset h.2.2.2.1) | exact sparseWf_fold sparseWf_nil | (dsimp only; exact sparseWf_smap h.2.2.2.1)), (by first | exact h.2.2.2.2.1 | exact sparseWf_sset h.2.2.2.2.1 | exact sparseWf_nil | exact sparseWf_filter h.2.2.2.2.1 | exact sparseWf_smap h.2.2.2.2.1 | exact sparseWf_sdrop h.2.2.2.2.1 | exact sparseWf_sset (sparseWf_sset h.2.2.2.2.1) | exact sparseWf_fold sparseWf_nil | (dsimp only; exact sparseWf_smap h.2.2.2.2.1)), (by first | exact h.2.2.2.2.2 | exact sparseWf_sset h.2.2.2.2.2 | exact sparseWf_nil | exact sparseWf_filter h.2.2.2.2.2 | exact sparseWf_smap h.2.2.2.2.2 | exact sparseWf_sdrop h.2.2.2.2.2 | exact sparseWf_sset (sparseWf_sset h.2.2.2.2.2) | exact sparseWf_fold sparseWf_nil | (dsimp only; exact sparseWf_smap h.2.2.2.2.2))⟩)
    exact hx

theorem execBiasSafeRampStep_frame {a0 : Fin 64} : ∃ t, execBiasSafeRampStep a0 s = .next t ∧ Frame (some [.SYN_BIA_NOW]) [] s t := by
  refine ⟨_, rfl, ?_⟩
  refine Frame.then ?_ safeRampStep_frame rfl rfl
  exact Frame.refl

theorem execPermitsRestore_frame  : ∃ t, execPermitsRestore s = .next t ∧ Frame (some []) [.sup] s t := by
  refine ⟨_, rfl, ?_⟩
  refine Frame.ite (fun _ => ?_) (fun _ => ?_)
  · refine Frame.sup ?_ rfl (by first | exact id | exact fun h => ⟨(by first | exact h.1 | exact sparseWf_sset h.1 | exact sparseWf_nil | exact sparseWf_filter h.1 | exact sparseWf_smap h.1 | exact sparseWf_sdrop h.1 | exact sparseWf_sset (sparseWf_sset h.1) | exact sparseWf_fold sparseWf_nil | (dsimp only; exact sparseWf_smap h.1)), (by first | exact h.2.1 | exact sparseWf_sset h.2.1 | exact sparseWf_nil | exact sparseWf_filter h.2.1 | exact sparseWf_smap h.2.1 | exact sparseWf_sdrop h.2.1 | exact sparseWf_sset (sparseWf_sset h.2.1) | exact sparseWf_fold sparseWf_nil | (dsimp only; exact sparseWf_smap h.2.1)), (by first | exact h.2.2.1 | exact sparseWf_sset h.2.2.1 | exact sparseWf_nil | exact sparseWf_filter h.2.2.1 | exact sparseWf_smap h.2.2.1 | exact sparseWf_sdrop h.2.2.1 | exact sparseWf_sset (sparseWf_sset h.2.2.1) | exact sparseWf_fold sparseWf_nil | (dsimp only; exact sparseWf_smap h.2.2.1)), (by first | exact h.2.2.2.1 | exact sparseWf_sset h.2.2.2.1 | exact sparseWf_nil | exact sparseWf_filter h.2.2.2.1 | exact sparseWf_smap h.2.2.2.1 | exact sparseWf_sdrop h.2.2.2.1 | exact sparseWf_sset (sparseWf_sset h.2.2.2.1) | exact sparseWf_fold sparseWf_nil | (dsimp only; exact sparseWf_smap h.2.2.2.1)), (by first | exact h.2.2.2.2.1 | exact sparseWf_sset h.2.2.2.2.1 | exact sparseWf_nil | exact sparseWf_filter h.2.2.2.2.1 | exact sparseWf_smap h.2.2.2.2.1 | exact sparseWf_sdrop h.2.2.2.2.1 | exact sparseWf_sset (sparseWf_sset h.2.2.2.2.1) | exact sparseWf_fold sparseWf_nil | (dsimp only; exact sparseWf_smap h.2.2.2.2.1)), (by first | exact h.2.2.2.2.2 | exact sparseWf_sset h.2.2.2.2.2 | exact sparseWf_nil | exact sparseWf_filter h.2.2.2.2.2 | exact sparseWf_smap h.2.2.2.2.2 | exact sparseWf_sdrop h.2.2.2.2.2 | exact sparseWf_sset (sparseWf_sset h.2.2.2.2.2) | exact sparseWf_fold sparseWf_nil | (dsimp only; exact sparseWf_smap h.2.2.2.2.2))⟩)
    exact Frame.refl
  · exact Frame.refl

theorem disagree_frame {a0 : Nat} {a1 : Nat} {a2 : Nat} : Frame (some [.SUP_EVENT, .SUP_MON_STATUS, .SUP_TRIP, .SUP_TRIP_ERR, .SUP_TRIP_REEL_HI, .SUP_TRIP_REEL_LO, .SUP_TRIP_SEEN]) [.events, .glb, .sup] s (disagree a0 a1 a2 s) := by
  unfold disagree
  extract_lets -merge -useContext -underBinder +onlyGivenNames v1
  refine Frame.ite (fun _ => ?_) (fun _ => ?_)
  · exact Frame.refl
  · refine Frame.ite (fun _ => ?_) (fun _ => ?_)
    · extract_lets -merge -useContext -underBinder +onlyGivenNames w2 x3
      refine Frame.via x3 ?_ fun h3 => ?_
      · unfold x3
        refine Frame.then ?_ State.setMon_frame rfl rfl
        exact Frame.refl
      try clear_value x3
      extract_lets -merge -useContext -underBinder +onlyGivenNames x4
      refine Frame.via x4 ?_ fun h4 => ?_
      · unfold x4
        refine Frame.then ?_ flagBreach_frame rfl rfl
        exact h3
      try clear_value x4
      refine Frame.then ?_ detect_frame rfl rfl
      refine Frame.report ?_ rfl
      refine Frame.raise ?_ (inRows_of (r := .SUP_EVENT) rfl (by exact rfl)) rfl
      exact h4
    · extract_lets -merge -useContext -underBinder +onlyGivenNames w5 x6
      refine Frame.via x6 ?_ fun h6 => ?_
      · unfold x6
        refine Frame.then ?_ State.setMon_frame rfl rfl
        exact Frame.refl
      try clear_value x6
      extract_lets -merge -useContext -underBinder +onlyGivenNames x7
      refine Frame.via x7 ?_ fun h7 => ?_
      · unfold x7
        refine Frame.then ?_ flagBreach_frame rfl rfl
        exact h6
      try clear_value x7
      extract_lets -merge -useContext -underBinder +onlyGivenNames x8
      refine Frame.via x8 ?_ fun h8 => ?_
      · unfold x8
        refine Frame.report ?_ rfl
        refine Frame.raise ?_ (inRows_of (r := .SUP_EVENT) rfl (by exact rfl)) rfl
        exact h7
      try clear_value x8
      refine Frame.sup ?_ rfl (by first | exact id | exact fun h => ⟨(by first | exact h.1 | exact sparseWf_sset h.1 | exact sparseWf_nil | exact sparseWf_filter h.1 | exact sparseWf_smap h.1 | exact sparseWf_sdrop h.1 | exact sparseWf_sset (sparseWf_sset h.1) | exact sparseWf_fold sparseWf_nil | (dsimp only; exact sparseWf_smap h.1)), (by first | exact h.2.1 | exact sparseWf_sset h.2.1 | exact sparseWf_nil | exact sparseWf_filter h.2.1 | exact sparseWf_smap h.2.1 | exact sparseWf_sdrop h.2.1 | exact sparseWf_sset (sparseWf_sset h.2.1) | exact sparseWf_fold sparseWf_nil | (dsimp only; exact sparseWf_smap h.2.1)), (by first | exact h.2.2.1 | exact sparseWf_sset h.2.2.1 | exact sparseWf_nil | exact sparseWf_filter h.2.2.1 | exact sparseWf_smap h.2.2.1 | exact sparseWf_sdrop h.2.2.1 | exact sparseWf_sset (sparseWf_sset h.2.2.1) | exact sparseWf_fold sparseWf_nil | (dsimp only; exact sparseWf_smap h.2.2.1)), (by first | exact h.2.2.2.1 | exact sparseWf_sset h.2.2.2.1 | exact sparseWf_nil | exact sparseWf_filter h.2.2.2.1 | exact sparseWf_smap h.2.2.2.1 | exact sparseWf_sdrop h.2.2.2.1 | exact sparseWf_sset (sparseWf_sset h.2.2.2.1) | exact sparseWf_fold sparseWf_nil | (dsimp only; exact sparseWf_smap h.2.2.2.1)), (by first | exact h.2.2.2.2.1 | exact sparseWf_sset h.2.2.2.2.1 | exact sparseWf_nil | exact sparseWf_filter h.2.2.2.2.1 | exact sparseWf_smap h.2.2.2.2.1 | exact sparseWf_sdrop h.2.2.2.2.1 | exact sparseWf_sset (sparseWf_sset h.2.2.2.2.1) | exact sparseWf_fold sparseWf_nil | (dsimp only; exact sparseWf_smap h.2.2.2.2.1)), (by first | exact h.2.2.2.2.2 | exact sparseWf_sset h.2.2.2.2.2 | exact sparseWf_nil | exact sparseWf_filter h.2.2.2.2.2 | exact sparseWf_smap h.2.2.2.2.2 | exact sparseWf_sdrop h.2.2.2.2.2 | exact sparseWf_sset (sparseWf_sset h.2.2.2.2.2) | exact sparseWf_fold sparseWf_nil | (dsimp only; exact sparseWf_smap h.2.2.2.2.2))⟩)
      exact h8

theorem execDisagree_frame {a0 : Fin 240} {a1 : Fin 4} {a2 : Nat} : ∃ t, execDisagree a0 a1 a2 s = .next t ∧ Frame (some [.SUP_EVENT, .SUP_MON_STATUS, .SUP_TRIP, .SUP_TRIP_ERR, .SUP_TRIP_REEL_HI, .SUP_TRIP_REEL_LO, .SUP_TRIP_SEEN]) [.events, .glb, .sup] s t := by
  refine ⟨_, rfl, ?_⟩
  refine Frame.then ?_ disagree_frame rfl rfl
  exact Frame.refl

theorem holdUntilTrip_frame  : Frame (some []) [.sup] s (holdUntilTrip s) := by
  unfold holdUntilTrip
  refine Frame.ite (fun _ => ?_) (fun _ => ?_)
  · refine Frame.sup ?_ rfl (by first | exact id | exact fun h => ⟨(by first | exact h.1 | exact sparseWf_sset h.1 | exact sparseWf_nil | exact sparseWf_filter h.1 | exact sparseWf_smap h.1 | exact sparseWf_sdrop h.1 | exact sparseWf_sset (sparseWf_sset h.1) | exact sparseWf_fold sparseWf_nil | (dsimp only; exact sparseWf_smap h.1)), (by first | exact h.2.1 | exact sparseWf_sset h.2.1 | exact sparseWf_nil | exact sparseWf_filter h.2.1 | exact sparseWf_smap h.2.1 | exact sparseWf_sdrop h.2.1 | exact sparseWf_sset (sparseWf_sset h.2.1) | exact sparseWf_fold sparseWf_nil | (dsimp only; exact sparseWf_smap h.2.1)), (by first | exact h.2.2.1 | exact sparseWf_sset h.2.2.1 | exact sparseWf_nil | exact sparseWf_filter h.2.2.1 | exact sparseWf_smap h.2.2.1 | exact sparseWf_sdrop h.2.2.1 | exact sparseWf_sset (sparseWf_sset h.2.2.1) | exact sparseWf_fold sparseWf_nil | (dsimp only; exact sparseWf_smap h.2.2.1)), (by first | exact h.2.2.2.1 | exact sparseWf_sset h.2.2.2.1 | exact sparseWf_nil | exact sparseWf_filter h.2.2.2.1 | exact sparseWf_smap h.2.2.2.1 | exact sparseWf_sdrop h.2.2.2.1 | exact sparseWf_sset (sparseWf_sset h.2.2.2.1) | exact sparseWf_fold sparseWf_nil | (dsimp only; exact sparseWf_smap h.2.2.2.1)), (by first | exact h.2.2.2.2.1 | exact sparseWf_sset h.2.2.2.2.1 | exact sparseWf_nil | exact sparseWf_filter h.2.2.2.2.1 | exact sparseWf_smap h.2.2.2.2.1 | exact sparseWf_sdrop h.2.2.2.2.1 | exact sparseWf_sset (sparseWf_sset h.2.2.2.2.1) | exact sparseWf_fold sparseWf_nil | (dsimp only; exact sparseWf_smap h.2.2.2.2.1)), (by first | exact h.2.2.2.2.2 | exact sparseWf_sset h.2.2.2.2.2 | exact sparseWf_nil | exact sparseWf_filter h.2.2.2.2.2 | exact sparseWf_smap h.2.2.2.2.2 | exact sparseWf_sdrop h.2.2.2.2.2 | exact sparseWf_sset (sparseWf_sset h.2.2.2.2.2) | exact sparseWf_fold sparseWf_nil | (dsimp only; exact sparseWf_smap h.2.2.2.2.2))⟩)
    exact Frame.refl
  · exact Frame.refl

theorem arbitrate_p1 {a0 : Arb} : Frame (some [.SUP_EVENT, .SUP_MON_STATUS, .SUP_TOL, .SUP_TRIP, .SUP_TRIP_ERR, .SUP_TRIP_REEL_HI, .SUP_TRIP_REEL_LO, .SUP_TRIP_SEEN]) [.events, .glb, .sup] s (s.put (Fld.SUP_MON_STATUS_CMP_DIS a0.m) (setBit (s.fld (Fld.SUP_MON_STATUS_CMP_DIS a0.m)) a0.cmp)) :=
  Frame.put Frame.refl (inRows_of (r := .SUP_MON_STATUS) rfl (by exact ⟨_, rfl⟩))

theorem arbitrate_p2 : Frame (some [.SUP_EVENT, .SUP_MON_STATUS, .SUP_TOL, .SUP_TRIP, .SUP_TRIP_ERR, .SUP_TRIP_REEL_HI, .SUP_TRIP_REEL_LO, .SUP_TRIP_SEEN]) [.events, .glb, .sup] s ((s.raise Fld.SUP_EVENT_DEGRADED).count Fld.SUP_TOL_DISAGREE) := by
        refine Frame.count ?_ (inRows_of (r := .SUP_TOL) rfl (by exact rfl))
        refine Frame.raise ?_ (inRows_of (r := .SUP_EVENT) rfl (by exact rfl)) rfl
        exact Frame.refl

theorem arbitrate_p3 {a0 : Arb} : Frame (some [.SUP_EVENT, .SUP_MON_STATUS, .SUP_TOL, .SUP_TRIP, .SUP_TRIP_ERR, .SUP_TRIP_REEL_HI, .SUP_TRIP_REEL_LO, .SUP_TRIP_SEEN]) [.events, .glb, .sup] s (showBreach a0.m (s.setMon a0.m { s.mon a0.m with cmps := (s.mon a0.m).cmps.filter (· != a0.cmp) })) := by
        refine Frame.then ?_ showBreach_frame rfl rfl
        refine Frame.then ?_ State.setMon_frame rfl rfl
        exact Frame.refl

theorem arbitrate_p4 : Frame (some [.SUP_EVENT, .SUP_MON_STATUS, .SUP_TOL, .SUP_TRIP, .SUP_TRIP_ERR, .SUP_TRIP_REEL_HI, .SUP_TRIP_REEL_LO, .SUP_TRIP_SEEN]) [.events, .glb, .sup] s ({ s with sup := { s.sup with hold := none } }) := by
  refine Frame.sup ?_ rfl id
  exact Frame.refl

theorem arbitrateAt_frame {a0 : Arb} {a1 a2 a3 v1 : Int} {x3 : State} (h3 : Frame (some [.SUP_EVENT, .SUP_MON_STATUS, .SUP_TOL, .SUP_TRIP, .SUP_TRIP_ERR, .SUP_TRIP_REEL_HI, .SUP_TRIP_REEL_LO, .SUP_TRIP_SEEN]) [.events, .glb, .sup] s x3) : Frame (some [.SUP_EVENT, .SUP_MON_STATUS, .SUP_TOL, .SUP_TRIP, .SUP_TRIP_ERR, .SUP_TRIP_REEL_HI, .SUP_TRIP_REEL_LO, .SUP_TRIP_SEEN]) [.events, .glb, .sup] s
    (if 128 < (a1 - a2).natAbs ∨ 128 < (a3 - v1).natAbs then
      holdUntilTrip (detect 10 0 { x3 with sup := { x3.sup with df10 := true } })
    else if (if a0.cmp < 2 then decide (2 * v1 < a1 + a2) else decide (a1 + a2 < 2 * v1)) then
      holdUntilTrip (detect (x3.levelCause a0.m) a0.m x3)
    else
      let s := x3.put (Fld.SUP_MON_STATUS_CMP_DIS a0.m) (setBit (x3.fld (Fld.SUP_MON_STATUS_CMP_DIS a0.m)) a0.cmp)
      let s := (s.raise Fld.SUP_EVENT_DEGRADED).count Fld.SUP_TOL_DISAGREE
      let s := showBreach a0.m (s.setMon a0.m { s.mon a0.m with cmps := (s.mon a0.m).cmps.filter (· != a0.cmp) })
      { s with sup := { s.sup with hold := none } }) := by
  refine Frame.ite (fun _ => ?_) (fun _ => ?_)
  · refine Frame.then ?_ holdUntilTrip_frame rfl rfl
    refine Frame.then ?_ detect_frame rfl rfl
    refine Frame.sup ?_ rfl id
    exact h3
  · refine Frame.ite (fun _ => ?_) (fun _ => ?_)
    · refine Frame.then ?_ holdUntilTrip_frame rfl rfl
      refine Frame.then ?_ detect_frame rfl rfl
      exact h3
    · exact (((h3.trans arbitrate_p1).trans arbitrate_p2).trans arbitrate_p3).trans arbitrate_p4

theorem arbitrate_frame {a0 : Arb} {a1 : Int} {a2 : Int} {a3 : Int} : Frame (some [.SUP_EVENT, .SUP_MON_STATUS, .SUP_TOL, .SUP_TRIP, .SUP_TRIP_ERR, .SUP_TRIP_REEL_HI, .SUP_TRIP_REEL_LO, .SUP_TRIP_SEEN]) [.events, .glb, .sup] s (arbitrate a0 a1 a2 a3 s) := by
  have h : Frame (some [.SUP_EVENT, .SUP_MON_STATUS, .SUP_TOL, .SUP_TRIP, .SUP_TRIP_ERR, .SUP_TRIP_REEL_HI, .SUP_TRIP_REEL_LO, .SUP_TRIP_SEEN]) [.events, .glb, .sup] s { s with sup := { s.sup with arb := none } } := Frame.sup Frame.refl rfl id
  unfold arbitrate
  exact arbitrateAt_frame h

theorem execArbitrationDecision_frame {a0 : Int} {a1 : Int} {a2 : Int} : ∃ t, execArbitrationDecision a0 a1 a2 s = .next t ∧ Frame (some [.SUP_EVENT, .SUP_MON_STATUS, .SUP_TOL, .SUP_TRIP, .SUP_TRIP_ERR, .SUP_TRIP_REEL_HI, .SUP_TRIP_REEL_LO, .SUP_TRIP_SEEN]) [.events, .glb, .sup] s t := by
  refine ⟨_, rfl, ?_⟩
  first | split | (clear_value *; split)
  · refine Frame.then ?_ arbitrate_frame rfl rfl
    exact Frame.refl
  · exact Frame.refl

theorem blankStart_frame {a0 : Nat} : Frame (some [.SUP_MON_STATUS]) [.sup] s (blankStart a0 s) := by
  unfold blankStart
  extract_lets -merge -useContext -underBinder +onlyGivenNames v1
  first | split | (clear_value *; split)
  · exact Frame.refl
  · refine Frame.ite (fun _ => ?_) (fun _ => ?_)
    · exact Frame.refl
    · extract_lets -merge -useContext -underBinder +onlyGivenNames v2 x3
      refine Frame.via x3 ?_ fun h3 => ?_
      · unfold x3
        refine Frame.then ?_ State.setMon_frame rfl rfl
        exact Frame.refl
      try clear_value x3
      refine Frame.ite (fun _ => ?_) (fun _ => ?_)
      · exact h3
      · refine Frame.then ?_ showBreach_frame rfl rfl
        refine Frame.put ?_ (inRows_of (r := .SUP_MON_STATUS) rfl (by exact ⟨_, rfl⟩))
        exact h3

theorem execBlankStart_frame {a0 : Fin 240} : ∃ t, execBlankStart a0 s = .next t ∧ Frame (some [.SUP_MON_STATUS]) [.sup] s t := by
  refine ⟨_, rfl, ?_⟩
  refine Frame.then ?_ blankStart_frame rfl rfl
  exact Frame.refl

theorem execBlankEnd_frame {a0 : Fin 240} : ∃ t, execBlankEnd a0 s = .next t ∧ Frame (some [.SUP_MON_STATUS]) [.sup] s t := by
  refine ⟨_, rfl, ?_⟩
  first | split | (clear_value *; split)
  · refine Frame.ite (fun _ => ?_) (fun _ => ?_)
    · refine Frame.then ?_ State.setMon_frame rfl rfl
      refine Frame.put ?_ (inRows_of (r := .SUP_MON_STATUS) rfl (by exact ⟨_, rfl⟩))
      exact Frame.refl
    · exact Frame.refl
  · exact Frame.refl

theorem madcStart_frame {a0 : Nat} {a1 : Word} : Frame (some [.SUP_EVENT]) [.events, .sup] s (madcStart a0 a1 s) := by
  unfold madcStart
  refine Frame.ite (fun _ => ?_) (fun _ => ?_)
  · exact Frame.refl
  · refine Frame.ite (fun _ => ?_) (fun _ => ?_)
    · refine Frame.raise ?_ (inRows_of (r := .SUP_EVENT) rfl (by exact rfl)) rfl
      exact Frame.refl
    · refine Frame.sup ?_ rfl (fun h => ⟨(by first | exact h.1 | exact sparseWf_sset h.1 | exact sparseWf_nil | exact sparseWf_filter h.1 | exact sparseWf_smap h.1 | exact sparseWf_sdrop h.1 | exact sparseWf_sset (sparseWf_sset h.1) | exact sparseWf_fold sparseWf_nil | (dsimp only; exact sparseWf_smap h.1)), (by first | exact h.2.1 | exact sparseWf_sset h.2.1 | exact sparseWf_nil | exact sparseWf_filter h.2.1 | exact sparseWf_smap h.2.1 | exact sparseWf_sdrop h.2.1 | exact sparseWf_sset (sparseWf_sset h.2.1) | exact sparseWf_fold sparseWf_nil | (dsimp only; exact sparseWf_smap h.2.1)), (by first | exact h.2.2.1 | exact sparseWf_sset h.2.2.1 | exact sparseWf_nil | exact sparseWf_filter h.2.2.1 | exact sparseWf_smap h.2.2.1 | exact sparseWf_sdrop h.2.2.1 | exact sparseWf_sset (sparseWf_sset h.2.2.1) | exact sparseWf_fold sparseWf_nil | (dsimp only; exact sparseWf_smap h.2.2.1)), (by first | exact h.2.2.2.1 | exact sparseWf_sset h.2.2.2.1 | exact sparseWf_nil | exact sparseWf_filter h.2.2.2.1 | exact sparseWf_smap h.2.2.2.1 | exact sparseWf_sdrop h.2.2.2.1 | exact sparseWf_sset (sparseWf_sset h.2.2.2.1) | exact sparseWf_fold sparseWf_nil | (dsimp only; exact sparseWf_smap h.2.2.2.1)), (by first | exact h.2.2.2.2.1 | exact sparseWf_sset h.2.2.2.2.1 | exact sparseWf_nil | exact sparseWf_filter h.2.2.2.2.1 | exact sparseWf_smap h.2.2.2.2.1 | exact sparseWf_sdrop h.2.2.2.2.1 | exact sparseWf_sset (sparseWf_sset h.2.2.2.2.1) | exact sparseWf_fold sparseWf_nil | (dsimp only; exact sparseWf_smap h.2.2.2.2.1)), (by first | exact h.2.2.2.2.2 | exact sparseWf_sset h.2.2.2.2.2 | exact sparseWf_nil | exact sparseWf_filter h.2.2.2.2.2 | exact sparseWf_smap h.2.2.2.2.2 | exact sparseWf_sdrop h.2.2.2.2.2 | exact sparseWf_sset (sparseWf_sset h.2.2.2.2.2) | exact sparseWf_fold sparseWf_nil | (dsimp only; exact sparseWf_smap h.2.2.2.2.2))⟩)
      exact Frame.refl

theorem execMadcStart_frame {a0 : Path} {a1 : Fin 2} {a2 : Word} : ∃ t, execMadcStart a0 a1 a2 s = .next t ∧ Frame (some [.HIF_EVENT, .HIF_WR_REF, .HIF_WR_REF_ADDR_HI, .HIF_WR_REF_ADDR_LO, .SUP_EVENT]) [.events, .resp, .sup] s t := by
  refine ⟨_, rfl, ?_⟩
  refine gated_frame ?_ rfl rfl (fun x hx => ?_)
  · exact Frame.refl
  · refine Frame.then ?_ madcStart_frame rfl rfl
    exact hx

theorem madcConvert_frame {a0 : Nat} {a1 : Nat} : Frame (some []) [.sup] s (madcConvert a0 a1 s) := by
  unfold madcConvert
  refine Frame.ite (fun _ => ?_) (fun _ => ?_)
  · exact Frame.refl
  · first | split | (clear_value *; split)
    · refine Frame.sup ?_ rfl (fun h => ⟨(by first | exact h.1 | exact sparseWf_sset h.1 | exact sparseWf_nil | exact sparseWf_filter h.1 | exact sparseWf_smap h.1 | exact sparseWf_sdrop h.1 | exact sparseWf_sset (sparseWf_sset h.1) | exact sparseWf_fold sparseWf_nil | (dsimp only; exact sparseWf_smap h.1)), (by first | exact h.2.1 | exact sparseWf_sset h.2.1 | exact sparseWf_nil | exact sparseWf_filter h.2.1 | exact sparseWf_smap h.2.1 | exact sparseWf_sdrop h.2.1 | exact sparseWf_sset (sparseWf_sset h.2.1) | exact sparseWf_fold sparseWf_nil | (dsimp only; exact sparseWf_smap h.2.1)), (by first | exact h.2.2.1 | exact sparseWf_sset h.2.2.1 | exact sparseWf_nil | exact sparseWf_filter h.2.2.1 | exact sparseWf_smap h.2.2.1 | exact sparseWf_sdrop h.2.2.1 | exact sparseWf_sset (sparseWf_sset h.2.2.1) | exact sparseWf_fold sparseWf_nil | (dsimp only; exact sparseWf_smap h.2.2.1)), (by first | exact h.2.2.2.1 | exact sparseWf_sset h.2.2.2.1 | exact sparseWf_nil | exact sparseWf_filter h.2.2.2.1 | exact sparseWf_smap h.2.2.2.1 | exact sparseWf_sdrop h.2.2.2.1 | exact sparseWf_sset (sparseWf_sset h.2.2.2.1) | exact sparseWf_fold sparseWf_nil | (dsimp only; exact sparseWf_smap h.2.2.2.1)), (by first | exact h.2.2.2.2.1 | exact sparseWf_sset h.2.2.2.2.1 | exact sparseWf_nil | exact sparseWf_filter h.2.2.2.2.1 | exact sparseWf_smap h.2.2.2.2.1 | exact sparseWf_sdrop h.2.2.2.2.1 | exact sparseWf_sset (sparseWf_sset h.2.2.2.2.1) | exact sparseWf_fold sparseWf_nil | (dsimp only; exact sparseWf_smap h.2.2.2.2.1)), (by first | exact h.2.2.2.2.2 | exact sparseWf_sset h.2.2.2.2.2 | exact sparseWf_nil | exact sparseWf_filter h.2.2.2.2.2 | exact sparseWf_smap h.2.2.2.2.2 | exact sparseWf_sdrop h.2.2.2.2.2 | exact sparseWf_sset (sparseWf_sset h.2.2.2.2.2) | exact sparseWf_fold sparseWf_nil | (dsimp only; exact sparseWf_smap h.2.2.2.2.2))⟩)
      exact Frame.refl
    · exact Frame.refl

theorem execMadcSlot_frame {a0 : BitVec 16} {a1 : BitVec 16} {a2 : Option (Fin 24 × Int)} : ∃ t, execMadcSlot a0 a1 a2 s = .next t ∧ Frame (some [.SUP_EVENT]) [.events, .sup] s t := by
  refine ⟨_, rfl, ?_⟩
  extract_lets -merge -useContext -underBinder +onlyGivenNames x1
  refine Frame.via x1 ?_ fun h1 => ?_
  · unfold x1
    refine Frame.then ?_ madcConvert_frame rfl rfl
    refine Frame.then ?_ madcConvert_frame rfl rfl
    exact Frame.refl
  try clear_value x1
  first | split | (clear_value *; split)
  · refine Frame.ite (fun _ => ?_) (fun _ => ?_)
    · exact h1
    · refine Frame.report ?_ rfl
      refine Frame.raise ?_ (inRows_of (r := .SUP_EVENT) rfl (by exact rfl)) rfl
      exact h1
  · exact h1

theorem execMadcDone_frame {a0 : Fin 2} : ∃ t, execMadcDone a0 s = .next t ∧ Frame (some [.SUP_EVENT, .SUP_MADC_RESULT]) [.events, .sup] s t := by
  refine ⟨_, rfl, ?_⟩
  first | split | (clear_value *; split)
  · extract_lets -merge -useContext -underBinder +onlyGivenNames w1 x2
    refine Frame.via x2 ?_ fun h2 => ?_
    · unfold x2
      refine Frame.sup ?_ rfl (fun h => ⟨(by first | exact h.1 | exact sparseWf_sset h.1 | exact sparseWf_nil | exact sparseWf_filter h.1 | exact sparseWf_smap h.1 | exact sparseWf_sdrop h.1 | exact sparseWf_sset (sparseWf_sset h.1) | exact sparseWf_fold sparseWf_nil | (dsimp only; exact sparseWf_smap h.1)), (by first | exact h.2.1 | exact sparseWf_sset h.2.1 | exact sparseWf_nil | exact sparseWf_filter h.2.1 | exact sparseWf_smap h.2.1 | exact sparseWf_sdrop h.2.1 | exact sparseWf_sset (sparseWf_sset h.2.1) | exact sparseWf_fold sparseWf_nil | (dsimp only; exact sparseWf_smap h.2.1)), (by first | exact h.2.2.1 | exact sparseWf_sset h.2.2.1 | exact sparseWf_nil | exact sparseWf_filter h.2.2.1 | exact sparseWf_smap h.2.2.1 | exact sparseWf_sdrop h.2.2.1 | exact sparseWf_sset (sparseWf_sset h.2.2.1) | exact sparseWf_fold sparseWf_nil | (dsimp only; exact sparseWf_smap h.2.2.1)), (by first | exact h.2.2.2.1 | exact sparseWf_sset h.2.2.2.1 | exact sparseWf_nil | exact sparseWf_filter h.2.2.2.1 | exact sparseWf_smap h.2.2.2.1 | exact sparseWf_sdrop h.2.2.2.1 | exact sparseWf_sset (sparseWf_sset h.2.2.2.1) | exact sparseWf_fold sparseWf_nil | (dsimp only; exact sparseWf_smap h.2.2.2.1)), (by first | exact h.2.2.2.2.1 | exact sparseWf_sset h.2.2.2.2.1 | exact sparseWf_nil | exact sparseWf_filter h.2.2.2.2.1 | exact sparseWf_smap h.2.2.2.2.1 | exact sparseWf_sdrop h.2.2.2.2.1 | exact sparseWf_sset (sparseWf_sset h.2.2.2.2.1) | exact sparseWf_fold sparseWf_nil | (dsimp only; exact sparseWf_smap h.2.2.2.2.1)), (by first | exact h.2.2.2.2.2 | exact sparseWf_sset h.2.2.2.2.2 | exact sparseWf_nil | exact sparseWf_filter h.2.2.2.2.2 | exact sparseWf_smap h.2.2.2.2.2 | exact sparseWf_sdrop h.2.2.2.2.2 | exact sparseWf_sset (sparseWf_sset h.2.2.2.2.2) | exact sparseWf_fold sparseWf_nil | (dsimp only; exact sparseWf_smap h.2.2.2.2.2))⟩)
      exact Frame.refl
    try clear_value x2
    extract_lets -merge -useContext -underBinder +onlyGivenNames x3
    refine Frame.via x3 ?_ fun h3 => ?_
    · unfold x3
      refine Frame.ite (fun _ => ?_) (fun _ => ?_)
      · refine Frame.report ?_ rfl
        refine Frame.raise ?_ (inRows_of (r := .SUP_EVENT) rfl (by exact rfl)) rfl
        refine Frame.raise ?_ (inRows_of (r := .SUP_MADC_RESULT) rfl (by exact ⟨_, rfl⟩)) rfl
        exact h2
      · exact h2
    try clear_value x3
    extract_lets -merge -useContext -underBinder +onlyGivenNames x4
    refine Frame.via x4 ?_ fun h4 => ?_
    · unfold x4
      refine Frame.put ?_ (inRows_of (r := .SUP_MADC_RESULT) rfl (by exact ⟨_, rfl⟩))
      refine Frame.put ?_ (inRows_of (r := .SUP_MADC_RESULT) rfl (by exact ⟨_, rfl⟩))
      exact h3
    try clear_value x4
    refine Frame.raise ?_ (inRows_of (r := .SUP_EVENT) rfl (by exact rfl)) rfl
    refine Frame.put ?_ (inRows_of (r := .SUP_MADC_RESULT) rfl (by exact ⟨_, rfl⟩))
    exact h4
  · exact Frame.refl

theorem clrTrip_frame  : Frame (some [.SUP_TRIP, .SUP_TRIP_ERR, .SUP_TRIP_SEEN]) [] s (clrTrip s) := by
  unfold clrTrip
  refine Frame.ite (fun _ => ?_) (fun _ => ?_)
  · exact Frame.refl
  · refine Frame.wr ?_ (inRows_of (r := .SUP_TRIP_ERR) rfl (by exact rfl))
    refine Frame.wr ?_ (inRows_of (r := .SUP_TRIP_SEEN) rfl (by exact rfl))
    refine Frame.wr ?_ (inRows_of (r := .SUP_TRIP) rfl (by exact rfl))
    exact Frame.refl

theorem startPass_frame  : Frame (some []) [.sup] s (startPass s) := by
  unfold startPass
  refine Frame.sup ?_ rfl (by first | exact id | exact fun h => ⟨(by first | exact h.1 | exact sparseWf_sset h.1 | exact sparseWf_nil | exact sparseWf_filter h.1 | exact sparseWf_smap h.1 | exact sparseWf_sdrop h.1 | exact sparseWf_sset (sparseWf_sset h.1) | exact sparseWf_fold sparseWf_nil | (dsimp only; exact sparseWf_smap h.1)), (by first | exact h.2.1 | exact sparseWf_sset h.2.1 | exact sparseWf_nil | exact sparseWf_filter h.2.1 | exact sparseWf_smap h.2.1 | exact sparseWf_sdrop h.2.1 | exact sparseWf_sset (sparseWf_sset h.2.1) | exact sparseWf_fold sparseWf_nil | (dsimp only; exact sparseWf_smap h.2.1)), (by first | exact h.2.2.1 | exact sparseWf_sset h.2.2.1 | exact sparseWf_nil | exact sparseWf_filter h.2.2.1 | exact sparseWf_smap h.2.2.1 | exact sparseWf_sdrop h.2.2.1 | exact sparseWf_sset (sparseWf_sset h.2.2.1) | exact sparseWf_fold sparseWf_nil | (dsimp only; exact sparseWf_smap h.2.2.1)), (by first | exact h.2.2.2.1 | exact sparseWf_sset h.2.2.2.1 | exact sparseWf_nil | exact sparseWf_filter h.2.2.2.1 | exact sparseWf_smap h.2.2.2.1 | exact sparseWf_sdrop h.2.2.2.1 | exact sparseWf_sset (sparseWf_sset h.2.2.2.1) | exact sparseWf_fold sparseWf_nil | (dsimp only; exact sparseWf_smap h.2.2.2.1)), (by first | exact h.2.2.2.2.1 | exact sparseWf_sset h.2.2.2.2.1 | exact sparseWf_nil | exact sparseWf_filter h.2.2.2.2.1 | exact sparseWf_smap h.2.2.2.2.1 | exact sparseWf_sdrop h.2.2.2.2.1 | exact sparseWf_sset (sparseWf_sset h.2.2.2.2.1) | exact sparseWf_fold sparseWf_nil | (dsimp only; exact sparseWf_smap h.2.2.2.2.1)), (by first | exact h.2.2.2.2.2 | exact sparseWf_sset h.2.2.2.2.2 | exact sparseWf_nil | exact sparseWf_filter h.2.2.2.2.2 | exact sparseWf_smap h.2.2.2.2.2 | exact sparseWf_sdrop h.2.2.2.2.2 | exact sparseWf_sset (sparseWf_sset h.2.2.2.2.2) | exact sparseWf_fold sparseWf_nil | (dsimp only; exact sparseWf_smap h.2.2.2.2.2))⟩)
  exact Frame.refl

theorem supCmdWrite_frame {a0 : Path} {a1 : Word} : Frame (some [.HIF_EVENT, .HIF_WR_REF, .HIF_WR_REF_ADDR_HI, .HIF_WR_REF_ADDR_LO, .SUP_TRIP, .SUP_TRIP_ERR, .SUP_TRIP_SEEN]) [.events, .resp, .sup] s (supCmdWrite a0 a1 s) := by
  unfold supCmdWrite
  refine gated_frame ?_ rfl rfl (fun x hx => ?_)
  · exact Frame.refl
  · extract_lets -merge -useContext -underBinder +onlyGivenNames x1
    refine Frame.via x1 ?_ fun h1 => ?_
    · unfold x1
      refine Frame.ite (fun _ => ?_) (fun _ => ?_)
      · refine Frame.then ?_ startPass_frame rfl rfl
        exact hx
      · exact hx
    try clear_value x1
    refine Frame.ite (fun _ => ?_) (fun _ => ?_)
    · refine Frame.then ?_ clrTrip_frame rfl rfl
      exact h1
    · exact h1

theorem execSelftestStart_frame {a0 : Path} {a1 : Word} : ∃ t, execSelftestStart a0 a1 s = .next t ∧ Frame (some [.HIF_EVENT, .HIF_WR_REF, .HIF_WR_REF_ADDR_HI, .HIF_WR_REF_ADDR_LO, .SUP_TRIP, .SUP_TRIP_ERR, .SUP_TRIP_SEEN]) [.events, .resp, .sup] s t := by
  refine ⟨_, rfl, ?_⟩
  refine Frame.then ?_ supCmdWrite_frame rfl rfl
  exact Frame.refl

theorem execClrTrip_frame {a0 : Path} {a1 : Word} : ∃ t, execClrTrip a0 a1 s = .next t ∧ Frame (some [.HIF_EVENT, .HIF_WR_REF, .HIF_WR_REF_ADDR_HI, .HIF_WR_REF_ADDR_LO, .SUP_TRIP, .SUP_TRIP_ERR, .SUP_TRIP_SEEN]) [.events, .resp, .sup] s t := by
  refine ⟨_, rfl, ?_⟩
  refine Frame.then ?_ supCmdWrite_frame rfl rfl
  exact Frame.refl

theorem enableCmps_frame {a0 : SelfTest} : Frame (some [.SUP_MON_STATUS]) [.sup] s (enableCmps a0 s) := by
  unfold enableCmps
  extract_lets -merge -useContext -underBinder +onlyGivenNames v1 x2
  refine Frame.via x2 ?_ fun h2 => ?_
  · unfold x2
    refine Frame.forAll _ ?_ fun i x hx => ?_
    · exact Frame.refl
    · extract_lets -merge -useContext -underBinder +onlyGivenNames v3
      refine Frame.put ?_ (inRows_of (r := .SUP_MON_STATUS) rfl (by exact ⟨_, rfl⟩))
      exact hx
  try clear_value x2
  refine Frame.sup ?_ rfl (fun h => ⟨(by first | exact h.1 | exact sparseWf_sset h.1 | exact sparseWf_nil | exact sparseWf_filter h.1 | exact sparseWf_smap h.1 | exact sparseWf_sdrop h.1 | exact sparseWf_sset (sparseWf_sset h.1) | exact sparseWf_fold sparseWf_nil | (dsimp only; exact sparseWf_smap h.1)), (by first | exact h.2.1 | exact sparseWf_sset h.2.1 | exact sparseWf_nil | exact sparseWf_filter h.2.1 | exact sparseWf_smap h.2.1 | exact sparseWf_sdrop h.2.1 | exact sparseWf_sset (sparseWf_sset h.2.1) | exact sparseWf_fold sparseWf_nil | (dsimp only; exact sparseWf_smap h.2.1)), (by first | exact h.2.2.1 | exact sparseWf_sset h.2.2.1 | exact sparseWf_nil | exact sparseWf_filter h.2.2.1 | exact sparseWf_smap h.2.2.1 | exact sparseWf_sdrop h.2.2.1 | exact sparseWf_sset (sparseWf_sset h.2.2.1) | exact sparseWf_fold sparseWf_nil | (dsimp only; exact sparseWf_smap h.2.2.1)), (by first | exact h.2.2.2.1 | exact sparseWf_sset h.2.2.2.1 | exact sparseWf_nil | exact sparseWf_filter h.2.2.2.1 | exact sparseWf_smap h.2.2.2.1 | exact sparseWf_sdrop h.2.2.2.1 | exact sparseWf_sset (sparseWf_sset h.2.2.2.1) | exact sparseWf_fold sparseWf_nil | (dsimp only; exact sparseWf_smap h.2.2.2.1)), (by first | exact h.2.2.2.2.1 | exact sparseWf_sset h.2.2.2.2.1 | exact sparseWf_nil | exact sparseWf_filter h.2.2.2.2.1 | exact sparseWf_smap h.2.2.2.2.1 | exact sparseWf_sdrop h.2.2.2.2.1 | exact sparseWf_sset (sparseWf_sset h.2.2.2.2.1) | exact sparseWf_fold sparseWf_nil | (dsimp only; exact sparseWf_smap h.2.2.2.2.1)), (by first | exact h.2.2.2.2.2 | exact sparseWf_sset h.2.2.2.2.2 | exact sparseWf_nil | exact sparseWf_filter h.2.2.2.2.2 | exact sparseWf_smap h.2.2.2.2.2 | exact sparseWf_sdrop h.2.2.2.2.2 | exact sparseWf_sset (sparseWf_sset h.2.2.2.2.2) | exact sparseWf_fold sparseWf_nil | (dsimp only; exact sparseWf_smap h.2.2.2.2.2))⟩)
  exact h2

theorem selftestEnd_frame {a0 : SelfTest} : Frame (some [.SUP_EVENT, .SUP_MON_STATUS, .SUP_SELFTEST, .SUP_STATUS, .SUP_TRIP, .SUP_TRIP_ERR, .SUP_TRIP_REEL_HI, .SUP_TRIP_REEL_LO, .SUP_TRIP_SEEN]) [.events, .glb, .sup] s (selftestEnd a0 s) := by
  unfold selftestEnd
  extract_lets -merge -useContext -underBinder +onlyGivenNames x1
  refine Frame.via x1 ?_ fun h1 => ?_
  · unfold x1
    refine Frame.forAll _ ?_ fun i x hx => ?_
    · exact Frame.refl
    · refine Frame.then ?_ selftestFail_frame rfl rfl
      exact hx
  try clear_value x1
  refine Frame.ite (fun _ => ?_) (fun _ => ?_)
  · exact h1
  · refine Frame.ite (fun _ => ?_) (fun _ => ?_)
    · refine Frame.then ?_ startPass_frame rfl rfl
      exact h1
    · extract_lets -merge -useContext -underBinder +onlyGivenNames x2
      refine Frame.via x2 ?_ fun h2 => ?_
      · unfold x2
        refine Frame.put ?_ (inRows_of (r := .SUP_STATUS) rfl (by exact rfl))
        refine Frame.put ?_ (inRows_of (r := .SUP_SELFTEST) rfl (by exact rfl))
        refine Frame.count ?_ (inRows_of (r := .SUP_SELFTEST) rfl (by exact rfl))
        exact h1
      try clear_value x2
      extract_lets -merge -useContext -underBinder +onlyGivenNames x3
      refine Frame.via x3 ?_ fun h3 => ?_
      · unfold x3
        refine Frame.then ?_ enableCmps_frame rfl rfl
        refine Frame.raise ?_ (inRows_of (r := .SUP_EVENT) rfl (by exact rfl)) rfl
        exact h2
      try clear_value x3
      refine Frame.then ?_ startPass_frame rfl rfl
      refine Frame.sup ?_ rfl (by first | exact id | exact fun h => ⟨(by first | exact h.1 | exact sparseWf_sset h.1 | exact sparseWf_nil | exact sparseWf_filter h.1 | exact sparseWf_smap h.1 | exact sparseWf_sdrop h.1 | exact sparseWf_sset (sparseWf_sset h.1) | exact sparseWf_fold sparseWf_nil | (dsimp only; exact sparseWf_smap h.1)), (by first | exact h.2.1 | exact sparseWf_sset h.2.1 | exact sparseWf_nil | exact sparseWf_filter h.2.1 | exact sparseWf_smap h.2.1 | exact sparseWf_sdrop h.2.1 | exact sparseWf_sset (sparseWf_sset h.2.1) | exact sparseWf_fold sparseWf_nil | (dsimp only; exact sparseWf_smap h.2.1)), (by first | exact h.2.2.1 | exact sparseWf_sset h.2.2.1 | exact sparseWf_nil | exact sparseWf_filter h.2.2.1 | exact sparseWf_smap h.2.2.1 | exact sparseWf_sdrop h.2.2.1 | exact sparseWf_sset (sparseWf_sset h.2.2.1) | exact sparseWf_fold sparseWf_nil | (dsimp only; exact sparseWf_smap h.2.2.1)), (by first | exact h.2.2.2.1 | exact sparseWf_sset h.2.2.2.1 | exact sparseWf_nil | exact sparseWf_filter h.2.2.2.1 | exact sparseWf_smap h.2.2.2.1 | exact sparseWf_sdrop h.2.2.2.1 | exact sparseWf_sset (sparseWf_sset h.2.2.2.1) | exact sparseWf_fold sparseWf_nil | (dsimp only; exact sparseWf_smap h.2.2.2.1)), (by first | exact h.2.2.2.2.1 | exact sparseWf_sset h.2.2.2.2.1 | exact sparseWf_nil | exact sparseWf_filter h.2.2.2.2.1 | exact sparseWf_smap h.2.2.2.2.1 | exact sparseWf_sdrop h.2.2.2.2.1 | exact sparseWf_sset (sparseWf_sset h.2.2.2.2.1) | exact sparseWf_fold sparseWf_nil | (dsimp only; exact sparseWf_smap h.2.2.2.2.1)), (by first | exact h.2.2.2.2.2 | exact sparseWf_sset h.2.2.2.2.2 | exact sparseWf_nil | exact sparseWf_filter h.2.2.2.2.2 | exact sparseWf_smap h.2.2.2.2.2 | exact sparseWf_sdrop h.2.2.2.2.2 | exact sparseWf_sset (sparseWf_sset h.2.2.2.2.2) | exact sparseWf_fold sparseWf_nil | (dsimp only; exact sparseWf_smap h.2.2.2.2.2))⟩)
      exact h3

theorem execSelftestPassEnd_frame {a0 : SelfTest} : ∃ t, execSelftestPassEnd a0 s = .next t ∧ Frame (some [.SUP_EVENT, .SUP_MON_STATUS, .SUP_SELFTEST, .SUP_STATUS, .SUP_TRIP, .SUP_TRIP_ERR, .SUP_TRIP_REEL_HI, .SUP_TRIP_REEL_LO, .SUP_TRIP_SEEN]) [.events, .glb, .sup] s t := by
  refine ⟨_, rfl, ?_⟩
  refine Frame.then ?_ selftestEnd_frame rfl rfl
  exact Frame.refl

theorem monFlagWrite_frame {a0 : Path} {a1 : Nat} {a2 : Word} : Frame none [.events, .resp, .sup] s (monFlagWrite a0 a1 a2 s) := by
  unfold monFlagWrite
  extract_lets -merge -useContext -underBinder +onlyGivenNames v1
  refine Frame.then ?_ plainWrite_frame rfl rfl
  exact Frame.refl

theorem execMonFlagClear_frame {a0 : Path} {a1 : Fin 240} : ∃ t, execMonFlagClear a0 a1 s = .next t ∧ Frame none [.events, .resp, .sup] s t := by
  refine ⟨_, rfl, ?_⟩
  refine Frame.then ?_ monFlagWrite_frame rfl rfl
  exact Frame.refl

theorem execMonitorQualify_frame {a0 : Fin 240} : ∃ t, execMonitorQualify a0 s = .next t ∧ Frame (some [.SUP_EVENT, .SUP_MON_STATUS, .SUP_STATUS, .SYN_MRK_LEVEL, .SYN_TRG_LEVEL]) [.events, .sup, .syn] s t := by
  refine ⟨_, rfl, ?_⟩
  refine Frame.ite (fun _ => ?_) (fun _ => ?_)
  · refine Frame.then ?_ refreshQualified_frame rfl rfl
    refine Frame.put ?_ (inRows_of (r := .SUP_MON_STATUS) rfl (by exact ⟨_, rfl⟩))
    exact Frame.refl
  · exact Frame.refl

theorem bandChanged_frame {a0 : Nat} {a1 : Nat} : Frame (some [.MEM_EVENT, .MEM_STATUS, .SUP_EVENT, .SUP_TS_STATUS]) [.events, .mem, .rdo, .sup] s (bandChanged a0 a1 s) := by
  unfold bandChanged
  extract_lets -merge -useContext -underBinder +onlyGivenNames v1 x2
  refine Frame.via x2 ?_ fun h2 => ?_
  · unfold x2
    refine Frame.report ?_ rfl
    refine Frame.raise ?_ (inRows_of (r := .SUP_EVENT) rfl (by exact rfl)) rfl
    refine Frame.put ?_ (inRows_of (r := .SUP_TS_STATUS) rfl (by exact ⟨_, rfl⟩))
    exact Frame.refl
  try clear_value x2
  extract_lets -merge -useContext -underBinder +onlyGivenNames x3
  refine Frame.via x3 ?_ fun h3 => ?_
  · unfold x3
    refine Frame.ite (fun _ => ?_) (fun _ => ?_)
    · exact h2
    · refine Frame.then ?_ scheduleChange_frame rfl rfl
      exact h2
  try clear_value x3
  refine Frame.ite (fun _ => ?_) (fun _ => ?_)
  · refine Frame.then ?_ stackBand_frame rfl rfl
    exact h3
  · exact h3

theorem sensorMeasure_frame {a0 : Nat} {a1 : Option Word} : Frame (some [.MEM_EVENT, .MEM_STATUS, .SUP_EVENT, .SUP_TRIP, .SUP_TRIP_ERR, .SUP_TRIP_REEL_HI, .SUP_TRIP_REEL_LO, .SUP_TRIP_SEEN, .SUP_TS_STATUS, .SUP_TS_VALUE]) [.events, .glb, .mem, .rdo, .sup] s (sensorMeasure a0 a1 s) := by
  unfold sensorMeasure
  refine Frame.ite (fun _ => ?_) (fun _ => ?_)
  · exact Frame.refl
  · extract_lets -merge -useContext -underBinder +onlyGivenNames v1
    first | split | (clear_value *; split)
    · extract_lets -merge -useContext -underBinder +onlyGivenNames x2
      refine Frame.via x2 ?_ fun h2 => ?_
      · unfold x2
        refine Frame.raise ?_ (inRows_of (r := .SUP_EVENT) rfl (by exact rfl)) rfl
        refine Frame.put ?_ (inRows_of (r := .SUP_TS_STATUS) rfl (by exact ⟨_, rfl⟩))
        exact Frame.refl
      try clear_value x2
      extract_lets -merge -useContext -underBinder +onlyGivenNames w3 x4
      refine Frame.via x4 ?_ fun h4 => ?_
      · unfold x4
        refine Frame.sup ?_ rfl (fun h => ⟨(by first | exact h.1 | exact sparseWf_sset h.1 | exact sparseWf_nil | exact sparseWf_filter h.1 | exact sparseWf_smap h.1 | exact sparseWf_sdrop h.1 | exact sparseWf_sset (sparseWf_sset h.1) | exact sparseWf_fold sparseWf_nil | (dsimp only; exact sparseWf_smap h.1)), (by first | exact h.2.1 | exact sparseWf_sset h.2.1 | exact sparseWf_nil | exact sparseWf_filter h.2.1 | exact sparseWf_smap h.2.1 | exact sparseWf_sdrop h.2.1 | exact sparseWf_sset (sparseWf_sset h.2.1) | exact sparseWf_fold sparseWf_nil | (dsimp only; exact sparseWf_smap h.2.1)), (by first | exact h.2.2.1 | exact sparseWf_sset h.2.2.1 | exact sparseWf_nil | exact sparseWf_filter h.2.2.1 | exact sparseWf_smap h.2.2.1 | exact sparseWf_sdrop h.2.2.1 | exact sparseWf_sset (sparseWf_sset h.2.2.1) | exact sparseWf_fold sparseWf_nil | (dsimp only; exact sparseWf_smap h.2.2.1)), (by first | exact h.2.2.2.1 | exact sparseWf_sset h.2.2.2.1 | exact sparseWf_nil | exact sparseWf_filter h.2.2.2.1 | exact sparseWf_smap h.2.2.2.1 | exact sparseWf_sdrop h.2.2.2.1 | exact sparseWf_sset (sparseWf_sset h.2.2.2.1) | exact sparseWf_fold sparseWf_nil | (dsimp only; exact sparseWf_smap h.2.2.2.1)), (by first | exact h.2.2.2.2.1 | exact sparseWf_sset h.2.2.2.2.1 | exact sparseWf_nil | exact sparseWf_filter h.2.2.2.2.1 | exact sparseWf_smap h.2.2.2.2.1 | exact sparseWf_sdrop h.2.2.2.2.1 | exact sparseWf_sset (sparseWf_sset h.2.2.2.2.1) | exact sparseWf_fold sparseWf_nil | (dsimp only; exact sparseWf_smap h.2.2.2.2.1)), (by first | exact h.2.2.2.2.2 | exact sparseWf_sset h.2.2.2.2.2 | exact sparseWf_nil | exact sparseWf_filter h.2.2.2.2.2 | exact sparseWf_smap h.2.2.2.2.2 | exact sparseWf_sdrop h.2.2.2.2.2 | exact sparseWf_sset (sparseWf_sset h.2.2.2.2.2) | exact sparseWf_fold sparseWf_nil | (dsimp only; exact sparseWf_smap h.2.2.2.2.2))⟩)
        exact h2
      try clear_value x4
      refine Frame.ite (fun _ => ?_) (fun _ => ?_)
      · refine Frame.then ?_ detect_frame rfl rfl
        exact h4
      · refine Frame.report ?_ rfl
        exact h4
    · extract_lets -merge -useContext -underBinder +onlyGivenNames v5 v6 v7 v8 v9 v10 v11 v12 x13
      refine Frame.via x13 ?_ fun h13 => ?_
      · unfold x13
        refine Frame.put ?_ (inRows_of (r := .SUP_TS_STATUS) rfl (by exact ⟨_, rfl⟩))
        refine Frame.wr ?_ (inRows_of (r := .SUP_TS_VALUE) rfl (by exact ⟨_, rfl⟩))
        exact Frame.refl
      try clear_value x13
      extract_lets -merge -useContext -underBinder +onlyGivenNames v14 x15
      refine Frame.via x15 ?_ fun h15 => ?_
      · unfold x15
        refine Frame.put ?_ (inRows_of (r := .SUP_TS_STATUS) rfl (by exact ⟨_, rfl⟩))
        exact h13
      try clear_value x15
      extract_lets -merge -useContext -underBinder +onlyGivenNames v16 w17 x18
      refine Frame.via x18 ?_ fun h18 => ?_
      · unfold x18
        refine Frame.sup ?_ rfl (fun h => ⟨(by first | exact h.1 | exact sparseWf_sset h.1 | exact sparseWf_nil | exact sparseWf_filter h.1 | exact sparseWf_smap h.1 | exact sparseWf_sdrop h.1 | exact sparseWf_sset (sparseWf_sset h.1) | exact sparseWf_fold sparseWf_nil | (dsimp only; exact sparseWf_smap h.1)), (by first | exact h.2.1 | exact sparseWf_sset h.2.1 | exact sparseWf_nil | exact sparseWf_filter h.2.1 | exact sparseWf_smap h.2.1 | exact sparseWf_sdrop h.2.1 | exact sparseWf_sset (sparseWf_sset h.2.1) | exact sparseWf_fold sparseWf_nil | (dsimp only; exact sparseWf_smap h.2.1)), (by first | exact h.2.2.1 | exact sparseWf_sset h.2.2.1 | exact sparseWf_nil | exact sparseWf_filter h.2.2.1 | exact sparseWf_smap h.2.2.1 | exact sparseWf_sdrop h.2.2.1 | exact sparseWf_sset (sparseWf_sset h.2.2.1) | exact sparseWf_fold sparseWf_nil | (dsimp only; exact sparseWf_smap h.2.2.1)), (by first | exact h.2.2.2.1 | exact sparseWf_sset h.2.2.2.1 | exact sparseWf_nil | exact sparseWf_filter h.2.2.2.1 | exact sparseWf_smap h.2.2.2.1 | exact sparseWf_sdrop h.2.2.2.1 | exact sparseWf_sset (sparseWf_sset h.2.2.2.1) | exact sparseWf_fold sparseWf_nil | (dsimp only; exact sparseWf_smap h.2.2.2.1)), (by first | exact h.2.2.2.2.1 | exact sparseWf_sset h.2.2.2.2.1 | exact sparseWf_nil | exact sparseWf_filter h.2.2.2.2.1 | exact sparseWf_smap h.2.2.2.2.1 | exact sparseWf_sdrop h.2.2.2.2.1 | exact sparseWf_sset (sparseWf_sset h.2.2.2.2.1) | exact sparseWf_fold sparseWf_nil | (dsimp only; exact sparseWf_smap h.2.2.2.2.1)), (by first | exact h.2.2.2.2.2 | exact sparseWf_sset h.2.2.2.2.2 | exact sparseWf_nil | exact sparseWf_filter h.2.2.2.2.2 | exact sparseWf_smap h.2.2.2.2.2 | exact sparseWf_sdrop h.2.2.2.2.2 | exact sparseWf_sset (sparseWf_sset h.2.2.2.2.2) | exact sparseWf_fold sparseWf_nil | (dsimp only; exact sparseWf_smap h.2.2.2.2.2))⟩)
        exact h15
      try clear_value x18
      extract_lets -merge -useContext -underBinder +onlyGivenNames v19 x20
      refine Frame.via x20 ?_ fun h20 => ?_
      · unfold x20
        refine Frame.ite (fun _ => ?_) (fun _ => ?_)
        · exact h18
        · refine Frame.then ?_ bandChanged_frame rfl rfl
          exact h18
      try clear_value x20
      refine Frame.ite (fun _ => ?_) (fun _ => ?_)
      · refine Frame.then ?_ detect_frame rfl rfl
        exact h20
      · exact h20

theorem execSensorMeasure_frame {a0 : Fin 24} {a1 : Option Word} : ∃ t, execSensorMeasure a0 a1 s = .next t ∧ Frame (some [.MEM_EVENT, .MEM_STATUS, .SUP_EVENT, .SUP_TRIP, .SUP_TRIP_ERR, .SUP_TRIP_REEL_HI, .SUP_TRIP_REEL_LO, .SUP_TRIP_SEEN, .SUP_TS_STATUS, .SUP_TS_VALUE]) [.events, .glb, .mem, .rdo, .sup] s t := by
  refine ⟨_, rfl, ?_⟩
  refine Frame.then ?_ sensorMeasure_frame rfl rfl
  exact Frame.refl

theorem errorReport_frame  : Frame (some [.SUP_ERR_DEPTH, .SUP_ERR_LOST, .SUP_EVENT, .SUP_TRIP, .SUP_TRIP_ERR, .SUP_TRIP_REEL_HI, .SUP_TRIP_REEL_LO, .SUP_TRIP_SEEN]) [.events, .glb, .sup] s (errorReport s) := by
  unfold errorReport
  extract_lets -merge -useContext -underBinder +onlyGivenNames v1
  refine Frame.forAll _ ?_ fun i x hx => ?_
  · refine Frame.sup ?_ rfl (fun h => ⟨(by first | exact h.1 | exact sparseWf_sset h.1 | exact sparseWf_nil | exact sparseWf_filter h.1 | exact sparseWf_smap h.1 | exact sparseWf_sdrop h.1 | exact sparseWf_sset (sparseWf_sset h.1) | exact sparseWf_fold sparseWf_nil | (dsimp only; exact sparseWf_smap h.1)), (by first | exact h.2.1 | exact sparseWf_sset h.2.1 | exact sparseWf_nil | exact sparseWf_filter h.2.1 | exact sparseWf_smap h.2.1 | exact sparseWf_sdrop h.2.1 | exact sparseWf_sset (sparseWf_sset h.2.1) | exact sparseWf_fold sparseWf_nil | (dsimp only; exact sparseWf_smap h.2.1)), (by first | exact h.2.2.1 | exact sparseWf_sset h.2.2.1 | exact sparseWf_nil | exact sparseWf_filter h.2.2.1 | exact sparseWf_smap h.2.2.1 | exact sparseWf_sdrop h.2.2.1 | exact sparseWf_sset (sparseWf_sset h.2.2.1) | exact sparseWf_fold sparseWf_nil | (dsimp only; exact sparseWf_smap h.2.2.1)), (by first | exact h.2.2.2.1 | exact sparseWf_sset h.2.2.2.1 | exact sparseWf_nil | exact sparseWf_filter h.2.2.2.1 | exact sparseWf_smap h.2.2.2.1 | exact sparseWf_sdrop h.2.2.2.1 | exact sparseWf_sset (sparseWf_sset h.2.2.2.1) | exact sparseWf_fold sparseWf_nil | (dsimp only; exact sparseWf_smap h.2.2.2.1)), (by first | exact h.2.2.2.2.1 | exact sparseWf_sset h.2.2.2.2.1 | exact sparseWf_nil | exact sparseWf_filter h.2.2.2.2.1 | exact sparseWf_smap h.2.2.2.2.1 | exact sparseWf_sdrop h.2.2.2.2.1 | exact sparseWf_sset (sparseWf_sset h.2.2.2.2.1) | exact sparseWf_fold sparseWf_nil | (dsimp only; exact sparseWf_smap h.2.2.2.2.1)), (by first | exact h.2.2.2.2.2 | exact sparseWf_sset h.2.2.2.2.2 | exact sparseWf_nil | exact sparseWf_filter h.2.2.2.2.2 | exact sparseWf_smap h.2.2.2.2.2 | exact sparseWf_sdrop h.2.2.2.2.2 | exact sparseWf_sset (sparseWf_sset h.2.2.2.2.2) | exact sparseWf_fold sparseWf_nil | (dsimp only; exact sparseWf_smap h.2.2.2.2.2))⟩)
    exact Frame.refl
  · refine Frame.then ?_ takeReport_frame rfl rfl
    exact hx

theorem execErrorReport_frame  : ∃ t, execErrorReport s = .next t ∧ Frame (some [.SUP_ERR_DEPTH, .SUP_ERR_LOST, .SUP_EVENT, .SUP_TRIP, .SUP_TRIP_ERR, .SUP_TRIP_REEL_HI, .SUP_TRIP_REEL_LO, .SUP_TRIP_SEEN]) [.events, .glb, .sup] s t := by
  refine ⟨_, rfl, ?_⟩
  refine Frame.then ?_ errorReport_frame rfl rfl
  exact Frame.refl

theorem errAck_frame {a0 : Word} : Frame (some [.SUP_ERR_DEPTH]) [.sup] s (errAck a0 s) := by
  unfold errAck
  refine Frame.ite (fun _ => ?_) (fun _ => ?_)
  · exact Frame.refl
  · first | split | (clear_value *; split)
    · refine Frame.ite (fun _ => ?_) (fun _ => ?_)
      · refine Frame.then ?_ State.setErrQueue_frame rfl rfl
        exact Frame.refl
      · exact Frame.refl
    · exact Frame.refl

theorem execErrAck_frame {a0 : Path} {a1 : Word} : ∃ t, execErrAck a0 a1 s = .next t ∧ Frame (some [.HIF_EVENT, .HIF_WR_REF, .HIF_WR_REF_ADDR_HI, .HIF_WR_REF_ADDR_LO, .SUP_ERR_DEPTH]) [.events, .resp, .sup] s t := by
  refine ⟨_, rfl, ?_⟩
  refine gated_frame ?_ rfl rfl (fun x hx => ?_)
  · exact Frame.refl
  · refine Frame.then ?_ errAck_frame rfl rfl
    exact hx

end Sys2Proof.Machine
end

