-- ==== Sys2Proof/Laws/Frame/Mode.lean ====
section
/-! SUPPORT. Laws/Frame/Mode.lean: what each operation of Machine/Mode.lean can change, and that it keeps a sound state sound. -/

set_option Elab.async false

namespace Sys2Proof.Machine

variable {R : Option (List RegRow)} {P : List Part} {s t : State}

theorem reqResult_frame {a0 : Nat} : Frame (some [.GLB_MODE_STATUS]) [] s (reqResult a0 s) := by
  unfold reqResult
  refine Frame.put ?_ (inRows_of (r := .GLB_MODE_STATUS) rfl (by exact rfl))
  exact Frame.refl

theorem leaveM4_frame {a0 : Nat} {a1 : Nat} {a2 : Nat} : Frame none [.bob, .csc, .dram, .dsc, .events, .fab, .free, .glb, .jobs, .later, .mem, .pwr, .rdo, .rv, .sec, .spn, .sram, .sup, .syn, .tap, .tln] s (leaveM4 a0 a1 a2 s) := by
  unfold leaveM4
  refine Frame.ite (fun _ => ?_) (fun _ => ?_)
  · refine Frame.then ?_ reqResult_frame rfl rfl
    refine Frame.glb ?_ rfl (fun _ => trivial)
    exact Frame.refl
  · refine Frame.then ?_ goTo_frame rfl rfl
    refine Frame.then ?_ reqResult_frame rfl rfl
    exact Frame.refl

theorem beginRestore_frame {a0 : Nat} : Frame (some []) [.glb, .pwr] s (beginRestore a0 s) := by
  unfold beginRestore
  extract_lets -merge -useContext -underBinder +onlyGivenNames w1 w2 x3
  refine Frame.via x3 ?_ fun h3 => ?_
  · unfold x3
    refine Frame.upd (t := s) [.pwr, .glb] ?_ rfl rfl (fun p hn => by cases p <;> first | rfl | exact ⟨rfl, rfl⟩ | exact ⟨rfl, rfl, rfl⟩ | exact absurd hn (by decide)) (fun p hm => by
        simp only [List.mem_cons, List.not_mem_nil, or_false] at hm
        rcases hm with rfl | rfl
        · exact fun h => ⟨(by first | exact h.1 | exact sparseWf_sset h.1 | exact sparseWf_nil | exact sparseWf_filter h.1 | exact sparseWf_smap h.1 | exact sparseWf_sdrop h.1 | exact sparseWf_sset (sparseWf_sset h.1) | exact sparseWf_fold sparseWf_nil | (dsimp only; exact sparseWf_smap h.1)), (by first | exact h.2.1 | exact sparseWf_sset h.2.1 | exact sparseWf_nil | exact sparseWf_filter h.2.1 | exact sparseWf_smap h.2.1 | exact sparseWf_sdrop h.2.1 | exact sparseWf_sset (sparseWf_sset h.2.1) | exact sparseWf_fold sparseWf_nil | (dsimp only; exact sparseWf_smap h.2.1)), (by first | exact h.2.2.1 | exact sparseWf_sset h.2.2.1 | exact sparseWf_nil | exact sparseWf_filter h.2.2.1 | exact sparseWf_smap h.2.2.1 | exact sparseWf_sdrop h.2.2.1 | exact sparseWf_sset (sparseWf_sset h.2.2.1) | exact sparseWf_fold sparseWf_nil | (dsimp only; exact sparseWf_smap h.2.2.1)), (by first | exact h.2.2.2.1 | exact sparseWf_sset h.2.2.2.1 | exact sparseWf_nil | exact sparseWf_filter h.2.2.2.1 | exact sparseWf_smap h.2.2.2.1 | exact sparseWf_sdrop h.2.2.2.1 | exact sparseWf_sset (sparseWf_sset h.2.2.2.1) | exact sparseWf_fold sparseWf_nil | (dsimp only; exact sparseWf_smap h.2.2.2.1)), (by first | exact h.2.2.2.2 | exact sparseWf_sset h.2.2.2.2 | exact sparseWf_nil | exact sparseWf_filter h.2.2.2.2 | exact sparseWf_smap h.2.2.2.2 | exact sparseWf_sdrop h.2.2.2.2 | exact sparseWf_sset (sparseWf_sset h.2.2.2.2) | exact sparseWf_fold sparseWf_nil | (dsimp only; exact sparseWf_smap h.2.2.2.2))⟩
        · exact fun _ => trivial)
    exact Frame.refl
  try clear_value x3
  refine Frame.ite (fun _ => ?_) (fun _ => ?_)
  · refine Frame.glb ?_ rfl (fun _ => trivial)
    exact h3
  · exact h3

theorem startCheck_frame  : Frame (some [.GLB_CHECK_OBJECT, .GLB_CHECK_STATUS, .GLB_MODE_STATUS, .MEM_DRAM_ERR, .MEM_DRAM_UE_ADDR_HI, .MEM_DRAM_UE_ADDR_LO, .MEM_EVENT]) [.events, .free, .glb, .sup] s (startCheck s) := by
  unfold startCheck
  extract_lets -merge -useContext -underBinder +onlyGivenNames v1 x2
  refine Frame.via x2 ?_ fun h2 => ?_
  · unfold x2
    refine Frame.wr ?_ (inRows_of (r := .GLB_CHECK_OBJECT) rfl (by exact rfl))
    refine Frame.wr ?_ (inRows_of (r := .GLB_CHECK_STATUS) rfl (by exact rfl))
    exact Frame.refl
  try clear_value x2
  extract_lets -merge -useContext -underBinder +onlyGivenNames x3
  refine Frame.via x3 ?_ fun h3 => ?_
  · unfold x3
    refine Frame.then ?_ reqResult_frame rfl rfl
    exact h2
  try clear_value x3
  refine Frame.glb ?_ rfl (fun _ => trivial)
  exact h3

theorem acceptClear_frame  : Frame none [.bob, .csc, .dram, .dsc, .events, .fab, .free, .glb, .jobs, .later, .mem, .pwr, .rdo, .rv, .sec, .spn, .sram, .sup, .syn, .tap, .tln] s (acceptClear s) := by
  unfold acceptClear
  extract_lets -merge -useContext -underBinder +onlyGivenNames x1
  refine Frame.via x1 ?_ fun h1 => ?_
  · unfold x1
    refine Frame.put ?_ (inRows_of (r := .SUP_STATUS) rfl (by exact rfl))
    exact Frame.refl
  try clear_value x1
  extract_lets -merge -useContext -underBinder +onlyGivenNames w2 x3
  refine Frame.via x3 ?_ fun h3 => ?_
  · unfold x3
    refine Frame.sup ?_ rfl (by first | exact id | exact fun h => ⟨(by first | exact h.1 | exact sparseWf_sset h.1 | exact sparseWf_nil | exact sparseWf_filter h.1 | exact sparseWf_smap h.1 | exact sparseWf_sdrop h.1 | exact sparseWf_sset (sparseWf_sset h.1) | exact sparseWf_fold sparseWf_nil | (dsimp only; exact sparseWf_smap h.1)), (by first | exact h.2.1 | exact sparseWf_sset h.2.1 | exact sparseWf_nil | exact sparseWf_filter h.2.1 | exact sparseWf_smap h.2.1 | exact sparseWf_sdrop h.2.1 | exact sparseWf_sset (sparseWf_sset h.2.1) | exact sparseWf_fold sparseWf_nil | (dsimp only; exact sparseWf_smap h.2.1)), (by first | exact h.2.2.1 | exact sparseWf_sset h.2.2.1 | exact sparseWf_nil | exact sparseWf_filter h.2.2.1 | exact sparseWf_smap h.2.2.1 | exact sparseWf_sdrop h.2.2.1 | exact sparseWf_sset (sparseWf_sset h.2.2.1) | exact sparseWf_fold sparseWf_nil | (dsimp only; exact sparseWf_smap h.2.2.1)), (by first | exact h.2.2.2.1 | exact sparseWf_sset h.2.2.2.1 | exact sparseWf_nil | exact sparseWf_filter h.2.2.2.1 | exact sparseWf_smap h.2.2.2.1 | exact sparseWf_sdrop h.2.2.2.1 | exact sparseWf_sset (sparseWf_sset h.2.2.2.1) | exact sparseWf_fold sparseWf_nil | (dsimp only; exact sparseWf_smap h.2.2.2.1)), (by first | exact h.2.2.2.2.1 | exact sparseWf_sset h.2.2.2.2.1 | exact sparseWf_nil | exact sparseWf_filter h.2.2.2.2.1 | exact sparseWf_smap h.2.2.2.2.1 | exact sparseWf_sdrop h.2.2.2.2.1 | exact sparseWf_sset (sparseWf_sset h.2.2.2.2.1) | exact sparseWf_fold sparseWf_nil | (dsimp only; exact sparseWf_smap h.2.2.2.2.1)), (by first | exact h.2.2.2.2.2 | exact sparseWf_sset h.2.2.2.2.2 | exact sparseWf_nil | exact sparseWf_filter h.2.2.2.2.2 | exact sparseWf_smap h.2.2.2.2.2 | exact sparseWf_sdrop h.2.2.2.2.2 | exact sparseWf_sset (sparseWf_sset h.2.2.2.2.2) | exact sparseWf_fold sparseWf_nil | (dsimp only; exact sparseWf_smap h.2.2.2.2.2))⟩)
    exact h1
  try clear_value x3
  refine Frame.ite (fun _ => ?_) (fun _ => ?_)
  · refine Frame.then ?_ enterMode_frame rfl rfl
    refine Frame.then ?_ reqResult_frame rfl rfl
    exact h3
  · refine Frame.then ?_ beginClearing_frame rfl rfl
    refine Frame.then ?_ reqResult_frame rfl rfl
    exact h3

theorem actRequest_frame {a0 : Path} {a1 : Nat} : Frame none [.bob, .csc, .dram, .dsc, .events, .fab, .free, .glb, .jobs, .later, .mem, .pwr, .rdo, .rv, .sec, .spn, .sram, .sup, .syn, .tap, .tln] s (actRequest a0 a1 s) := by
  unfold actRequest
  extract_lets -merge -useContext -underBinder +onlyGivenNames x1
  refine Frame.via x1 ?_ fun h1 => ?_
  · unfold x1
    refine Frame.then ?_ reqResult_frame rfl rfl
    exact Frame.refl
  try clear_value x1
  extract_lets -merge -useContext -underBinder +onlyGivenNames w2 x3
  refine Frame.via x3 ?_ fun h3 => ?_
  · unfold x3
    refine Frame.glb ?_ rfl (fun _ => trivial)
    exact Frame.refl
  try clear_value x3
  first | split | (clear_value *; split)
  · refine Frame.ite (fun _ => ?_) (fun _ => ?_)
    · exact h1
    · refine Frame.then ?_ enterMode_frame rfl rfl
      refine Frame.then ?_ reqResult_frame rfl rfl
      exact h3
  · refine Frame.then ?_ beginRestore_frame rfl rfl
    refine Frame.then ?_ reqResult_frame rfl rfl
    exact h3
  · refine Frame.then ?_ leaveM4_frame rfl rfl
    exact h3
  · refine Frame.then ?_ beginRestore_frame rfl rfl
    refine Frame.then ?_ reqResult_frame rfl rfl
    exact h3
  · refine Frame.put ?_ (inRows_of (r := .GLB_MODE_STATUS) rfl (by exact rfl))
    refine Frame.then ?_ reqResult_frame rfl rfl
    exact h3
  · refine Frame.then ?_ stopAllSpindles_frame rfl rfl
    extract_lets -merge -useContext -underBinder +onlyGivenNames x4
    refine Frame.via x4 ?_ fun h4 => ?_
    · unfold x4
      refine Frame.then ?_ reqResult_frame rfl rfl
      exact h3
    try clear_value x4
    refine Frame.glb ?_ rfl (fun _ => trivial)
    exact h4
  · refine Frame.ite (fun _ => ?_) (fun _ => ?_)
    · refine Frame.then ?_ reqResult_frame rfl rfl
      exact h3
    · refine Frame.then ?_ stopAllSpindles_frame rfl rfl
      extract_lets -merge -useContext -underBinder +onlyGivenNames x5
      refine Frame.via x5 ?_ fun h5 => ?_
      · unfold x5
        refine Frame.then ?_ reqResult_frame rfl rfl
        exact h3
      try clear_value x5
      refine Frame.glb ?_ rfl (fun _ => trivial)
      exact h5
  · refine Frame.then ?_ enterMode_frame rfl rfl
    refine Frame.then ?_ reqResult_frame rfl rfl
    exact h3
  · refine Frame.then ?_ leaveM4_frame rfl rfl
    exact h3
  · refine Frame.then ?_ beginClearing_frame rfl rfl
    refine Frame.then ?_ reqResult_frame rfl rfl
    refine Frame.then ?_ abortLoad_frame rfl rfl
    exact h3
  · refine Frame.then ?_ beginClearing_frame rfl rfl
    refine Frame.then ?_ reqResult_frame rfl rfl
    exact h3
  · refine Frame.then ?_ beginClearing_frame rfl rfl
    refine Frame.then ?_ reqResult_frame rfl rfl
    exact h3
  · refine Frame.then ?_ leaveM4_frame rfl rfl
    exact h3
  · refine Frame.ite (fun _ => ?_) (fun _ => ?_)
    · exact h1
    · refine Frame.ite (fun _ => ?_) (fun _ => ?_)
      · refine Frame.then ?_ acceptClear_frame rfl rfl
        exact h3
      · refine Frame.raise ?_ (inRows_of (r := .SUP_EVENT) rfl (by exact rfl)) rfl
        exact h1
  · exact h1

theorem modeCtl_frame {a0 : Path} {a1 : Nat} {a2 : Bool} {a3 : Byte} : Frame none [.bob, .csc, .dram, .dsc, .events, .fab, .free, .glb, .jobs, .later, .mem, .pwr, .rdo, .resp, .rv, .sec, .spn, .sram, .sup, .syn, .tap, .tln] s (modeCtl a0 a1 a2 a3 s) := by
  unfold modeCtl
  refine Frame.ite (fun _ => ?_) (fun _ => ?_)
  · refine Frame.then ?_ pathRefused_frame rfl rfl
    exact Frame.refl
  · extract_lets -merge -useContext -underBinder +onlyGivenNames x1
    refine Frame.via x1 ?_ fun h1 => ?_
    · unfold x1
      refine Frame.then ?_ State.answer_frame rfl rfl
      exact Frame.refl
    try clear_value x1
    extract_lets -merge -useContext -underBinder +onlyGivenNames x2
    refine Frame.via x2 ?_ fun h2 => ?_
    · unfold x2
      refine Frame.put ?_ (inRows_of (r := .GLB_MODE_STATUS) rfl (by exact rfl))
      refine Frame.put ?_ (inRows_of (r := .GLB_MODE_STATUS) rfl (by exact rfl))
      exact h1
    try clear_value x2
    refine Frame.ite (fun _ => ?_) (fun _ => ?_)
    · refine Frame.then ?_ reqResult_frame rfl rfl
      exact h2
    · refine Frame.ite (fun _ => ?_) (fun _ => ?_)
      · refine Frame.then ?_ reqResult_frame rfl rfl
        exact h2
      · refine Frame.ite (fun _ => ?_) (fun _ => ?_)
        · refine Frame.then ?_ reqResult_frame rfl rfl
          exact h2
        · refine Frame.ite (fun _ => ?_) (fun _ => ?_)
          · refine Frame.then ?_ reqResult_frame rfl rfl
            exact h2
          · refine Frame.ite (fun _ => ?_) (fun _ => ?_)
            · refine Frame.ite (fun _ => ?_) (fun _ => ?_)
              · extract_lets -merge -useContext -underBinder +onlyGivenNames x3
                refine Frame.via x3 ?_ fun h3 => ?_
                · unfold x3
                  refine Frame.then ?_ startCheck_frame rfl rfl
                  exact h2
                try clear_value x3
                refine Frame.glb ?_ rfl (fun _ => trivial)
                exact h3
              · refine Frame.then ?_ reqResult_frame rfl rfl
                exact h2
            · refine Frame.ite (fun _ => ?_) (fun _ => ?_)
              · refine Frame.then ?_ reqResult_frame rfl rfl
                exact h2
              · refine Frame.then ?_ actRequest_frame rfl rfl
                exact h2

theorem execReqNone_frame {a0 : Path} {a1 : Byte} : ∃ t, execReqNone a0 a1 s = .next t ∧ Frame none [.bob, .csc, .dram, .dsc, .events, .fab, .free, .glb, .jobs, .later, .mem, .pwr, .rdo, .resp, .rv, .sec, .spn, .sram, .sup, .syn, .tap, .tln] s t := by
  refine ⟨_, rfl, ?_⟩
  refine Frame.then ?_ modeCtl_frame rfl rfl
  exact Frame.refl

theorem execReqLoad_frame {a0 : Path} {a1 : Byte} : ∃ t, execReqLoad a0 a1 s = .next t ∧ Frame none [.bob, .csc, .dram, .dsc, .events, .fab, .free, .glb, .jobs, .later, .mem, .pwr, .rdo, .resp, .rv, .sec, .spn, .sram, .sup, .syn, .tap, .tln] s t := by
  refine ⟨_, rfl, ?_⟩
  refine Frame.then ?_ modeCtl_frame rfl rfl
  exact Frame.refl

theorem execReqCalibrate_frame {a0 : Path} {a1 : Byte} : ∃ t, execReqCalibrate a0 a1 s = .next t ∧ Frame none [.bob, .csc, .dram, .dsc, .events, .fab, .free, .glb, .jobs, .later, .mem, .pwr, .rdo, .resp, .rv, .sec, .spn, .sram, .sup, .syn, .tap, .tln] s t := by
  refine ⟨_, rfl, ?_⟩
  refine Frame.then ?_ modeCtl_frame rfl rfl
  exact Frame.refl

theorem execReqArm_frame {a0 : Path} {a1 : Byte} : ∃ t, execReqArm a0 a1 s = .next t ∧ Frame none [.bob, .csc, .dram, .dsc, .events, .fab, .free, .glb, .jobs, .later, .mem, .pwr, .rdo, .resp, .rv, .sec, .spn, .sram, .sup, .syn, .tap, .tln] s t := by
  refine ⟨_, rfl, ?_⟩
  refine Frame.then ?_ modeCtl_frame rfl rfl
  exact Frame.refl

theorem execReqStop_frame {a0 : Path} {a1 : Byte} : ∃ t, execReqStop a0 a1 s = .next t ∧ Frame none [.bob, .csc, .dram, .dsc, .events, .fab, .free, .glb, .jobs, .later, .mem, .pwr, .rdo, .resp, .rv, .sec, .spn, .sram, .sup, .syn, .tap, .tln] s t := by
  refine ⟨_, rfl, ?_⟩
  refine Frame.then ?_ modeCtl_frame rfl rfl
  exact Frame.refl

theorem execReqDormant_frame {a0 : Path} {a1 : Byte} : ∃ t, execReqDormant a0 a1 s = .next t ∧ Frame none [.bob, .csc, .dram, .dsc, .events, .fab, .free, .glb, .jobs, .later, .mem, .pwr, .rdo, .resp, .rv, .sec, .spn, .sram, .sup, .syn, .tap, .tln] s t := by
  refine ⟨_, rfl, ?_⟩
  refine Frame.then ?_ modeCtl_frame rfl rfl
  exact Frame.refl

theorem execReqUnload_frame {a0 : Path} {a1 : Byte} : ∃ t, execReqUnload a0 a1 s = .next t ∧ Frame none [.bob, .csc, .dram, .dsc, .events, .fab, .free, .glb, .jobs, .later, .mem, .pwr, .rdo, .resp, .rv, .sec, .spn, .sram, .sup, .syn, .tap, .tln] s t := by
  refine ⟨_, rfl, ?_⟩
  refine Frame.then ?_ modeCtl_frame rfl rfl
  exact Frame.refl

theorem execReqClearSafe_frame {a0 : Path} {a1 : Byte} : ∃ t, execReqClearSafe a0 a1 s = .next t ∧ Frame none [.bob, .csc, .dram, .dsc, .events, .fab, .free, .glb, .jobs, .later, .mem, .pwr, .rdo, .resp, .rv, .sec, .spn, .sram, .sup, .syn, .tap, .tln] s t := by
  refine ⟨_, rfl, ?_⟩
  refine Frame.then ?_ modeCtl_frame rfl rfl
  exact Frame.refl

theorem execReqReserved_frame {a0 : Path} {a1 : Fin 8} {a2 : Byte} : ∃ t, execReqReserved a0 a1 a2 s = .next t ∧ Frame none [.bob, .csc, .dram, .dsc, .events, .fab, .free, .glb, .jobs, .later, .mem, .pwr, .rdo, .resp, .rv, .sec, .spn, .sram, .sup, .syn, .tap, .tln] s t := by
  refine ⟨_, rfl, ?_⟩
  refine Frame.then ?_ modeCtl_frame rfl rfl
  exact Frame.refl

theorem execRun_frame {a0 : Path} {a1 : Fin 16} {a2 : Byte} : ∃ t, execRun a0 a1 a2 s = .next t ∧ Frame none [.bob, .csc, .dram, .dsc, .events, .fab, .free, .glb, .jobs, .later, .mem, .pwr, .rdo, .resp, .rv, .sec, .spn, .sram, .sup, .syn, .tap, .tln] s t := by
  refine ⟨_, rfl, ?_⟩
  refine Frame.then ?_ modeCtl_frame rfl rfl
  exact Frame.refl

theorem checkEnd_frame  : Frame (some [.GLB_CHECK_OBJECT, .GLB_CHECK_STATUS, .GLB_MODE_STATUS, .HIF_EVENT]) [.events, .glb, .later, .sup] s (checkEnd s) := by
  unfold checkEnd
  refine Frame.ite (fun _ => ?_) (fun _ => ?_)
  · extract_lets -merge -useContext -underBinder +onlyGivenNames v1 w2 x3
    refine Frame.via x3 ?_ fun h3 => ?_
    · unfold x3
      refine Frame.glb ?_ rfl (fun _ => trivial)
      exact Frame.refl
    try clear_value x3
    extract_lets -merge -useContext -underBinder +onlyGivenNames x4
    refine Frame.via x4 ?_ fun h4 => ?_
    · unfold x4
      refine Frame.raise ?_ (inRows_of (r := .HIF_EVENT) rfl (by exact rfl)) rfl
      refine Frame.put ?_ (inRows_of (r := .GLB_CHECK_STATUS) rfl (by exact rfl))
      exact h3
    try clear_value x4
    first | split | (clear_value *; split)
    · extract_lets -merge -useContext -underBinder +onlyGivenNames x5
      refine Frame.via x5 ?_ fun h5 => ?_
      · unfold x5
        refine Frame.put ?_ (inRows_of (r := .GLB_CHECK_STATUS) rfl (by exact rfl))
        refine Frame.put ?_ (inRows_of (r := .GLB_CHECK_STATUS) rfl (by exact rfl))
        exact h4
      try clear_value x5
      refine Frame.then ?_ reqResult_frame rfl rfl
      refine Frame.wr ?_ (inRows_of (r := .GLB_CHECK_OBJECT) rfl (by exact rfl))
      exact h5
    · refine Frame.then ?_ reqResult_frame rfl rfl
      refine Frame.later ?_ rfl (fun _ => trivial)
      exact h4
  · exact Frame.refl

theorem execCheckEnd_frame  : ∃ t, execCheckEnd s = .next t ∧ Frame (some [.GLB_CHECK_OBJECT, .GLB_CHECK_STATUS, .GLB_MODE_STATUS, .HIF_EVENT]) [.events, .glb, .later, .sup] s t := by
  refine ⟨_, rfl, ?_⟩
  refine Frame.then ?_ checkEnd_frame rfl rfl
  exact Frame.refl

theorem execConfigClearDone_frame  : ∃ t, execConfigClearDone s = .next t ∧ Frame none [.bob, .csc, .dram, .dsc, .events, .fab, .free, .glb, .jobs, .later, .mem, .pwr, .rdo, .rv, .sec, .spn, .sram, .sup, .syn, .tap, .tln] s t := by
  refine ⟨_, rfl, ?_⟩
  refine Frame.ite (fun _ => ?_) (fun _ => ?_)
  · refine Frame.then ?_ finishRequest_frame rfl rfl
    refine Frame.then ?_ enterMode_frame rfl rfl
    exact Frame.refl
  · exact Frame.refl

theorem execDormantRestoreDone_frame  : ∃ t, execDormantRestoreDone s = .next t ∧ Frame none [.bob, .csc, .dram, .dsc, .events, .fab, .free, .glb, .jobs, .later, .mem, .pwr, .rdo, .rv, .sec, .spn, .sram, .sup, .syn, .tap, .tln] s t := by
  refine ⟨_, rfl, ?_⟩
  first | split | (clear_value *; split)
  · extract_lets -merge -useContext -underBinder +onlyGivenNames x1
    refine Frame.via x1 ?_ fun h1 => ?_
    · unfold x1
      refine Frame.then ?_ enterMode_frame rfl rfl
      exact Frame.refl
    try clear_value x1
    refine Frame.ite (fun _ => ?_) (fun _ => ?_)
    · refine Frame.put ?_ (inRows_of (r := .GLB_MODE_STATUS) rfl (by exact rfl))
      exact h1
    · exact h1
  · first | split | (clear_value *; split)
    · extract_lets -merge -useContext -underBinder +onlyGivenNames w2 x3
      refine Frame.via x3 ?_ fun h3 => ?_
      · unfold x3
        refine Frame.pwr ?_ rfl (by first | exact id | exact fun h => ⟨(by first | exact h.1 | exact sparseWf_sset h.1 | exact sparseWf_nil | exact sparseWf_filter h.1 | exact sparseWf_smap h.1 | exact sparseWf_sdrop h.1 | exact sparseWf_sset (sparseWf_sset h.1) | exact sparseWf_fold sparseWf_nil | (dsimp only; exact sparseWf_smap h.1)), (by first | exact h.2.1 | exact sparseWf_sset h.2.1 | exact sparseWf_nil | exact sparseWf_filter h.2.1 | exact sparseWf_smap h.2.1 | exact sparseWf_sdrop h.2.1 | exact sparseWf_sset (sparseWf_sset h.2.1) | exact sparseWf_fold sparseWf_nil | (dsimp only; exact sparseWf_smap h.2.1)), (by first | exact h.2.2.1 | exact sparseWf_sset h.2.2.1 | exact sparseWf_nil | exact sparseWf_filter h.2.2.1 | exact sparseWf_smap h.2.2.1 | exact sparseWf_sdrop h.2.2.1 | exact sparseWf_sset (sparseWf_sset h.2.2.1) | exact sparseWf_fold sparseWf_nil | (dsimp only; exact sparseWf_smap h.2.2.1)), (by first | exact h.2.2.2.1 | exact sparseWf_sset h.2.2.2.1 | exact sparseWf_nil | exact sparseWf_filter h.2.2.2.1 | exact sparseWf_smap h.2.2.2.1 | exact sparseWf_sdrop h.2.2.2.1 | exact sparseWf_sset (sparseWf_sset h.2.2.2.1) | exact sparseWf_fold sparseWf_nil | (dsimp only; exact sparseWf_smap h.2.2.2.1)), (by first | exact h.2.2.2.2 | exact sparseWf_sset h.2.2.2.2 | exact sparseWf_nil | exact sparseWf_filter h.2.2.2.2 | exact sparseWf_smap h.2.2.2.2 | exact sparseWf_sdrop h.2.2.2.2 | exact sparseWf_sset (sparseWf_sset h.2.2.2.2) | exact sparseWf_fold sparseWf_nil | (dsimp only; exact sparseWf_smap h.2.2.2.2))⟩)
        exact Frame.refl
      try clear_value x3
      refine Frame.ite (fun _ => ?_) (fun _ => ?_)
      · refine Frame.then ?_ enterLevel_frame rfl rfl
        exact h3
      · exact h3
    · exact Frame.refl

theorem execCalibrationStart_frame  : ∃ t, execCalibrationStart s = .next t ∧ Frame (some []) [.glb] s t := by
  refine ⟨_, rfl, ?_⟩
  extract_lets -merge -useContext -underBinder +onlyGivenNames v1
  refine Frame.ite (fun _ => ?_) (fun _ => ?_)
  · refine Frame.glb ?_ rfl (fun _ => trivial)
    exact Frame.refl
  · exact Frame.refl

theorem execCalibrationDone_frame  : ∃ t, execCalibrationDone s = .next t ∧ Frame (some [.GLB_MODE_STATUS]) [.glb] s t := by
  refine ⟨_, rfl, ?_⟩
  refine Frame.ite (fun _ => ?_) (fun _ => ?_)
  · extract_lets -merge -useContext -underBinder +onlyGivenNames x1
    refine Frame.via x1 ?_ fun h1 => ?_
    · unfold x1
      refine Frame.put ?_ (inRows_of (r := .GLB_MODE_STATUS) rfl (by exact rfl))
      exact Frame.refl
    try clear_value x1
    extract_lets -merge -useContext -underBinder +onlyGivenNames w2 x3
    refine Frame.via x3 ?_ fun h3 => ?_
    · unfold x3
      refine Frame.glb ?_ rfl (fun _ => trivial)
      exact h1
    try clear_value x3
    refine Frame.ite (fun _ => ?_) (fun _ => ?_)
    · exact h3
    · refine Frame.then ?_ finishRequest_frame rfl rfl
      exact h3
  · exact Frame.refl

theorem execArmComplete_frame  : ∃ t, execArmComplete s = .next t ∧ Frame none [.bob, .csc, .dram, .dsc, .events, .fab, .free, .glb, .jobs, .later, .mem, .pwr, .rdo, .rv, .sec, .spn, .sram, .sup, .syn, .tap, .tln] s t := by
  refine ⟨_, rfl, ?_⟩
  refine Frame.ite (fun _ => ?_) (fun _ => ?_)
  · refine Frame.then ?_ finishRequest_frame rfl rfl
    refine Frame.then ?_ enterMode_frame rfl rfl
    exact Frame.refl
  · exact Frame.refl

theorem execM6Entry_frame  : ∃ t, execM6Entry s = .next t ∧ Frame none [.bob, .csc, .dram, .dsc, .events, .fab, .free, .glb, .jobs, .later, .mem, .pwr, .rdo, .rv, .sec, .spn, .sram, .sup, .syn, .tap, .tln] s t := by
  refine ⟨_, rfl, ?_⟩
  refine Frame.ite (fun _ => ?_) (fun _ => ?_)
  · extract_lets -merge -useContext -underBinder +onlyGivenNames x1
    refine Frame.via x1 ?_ fun h1 => ?_
    · unfold x1
      refine Frame.ite (fun _ => ?_) (fun _ => ?_)
      · refine Frame.then ?_ reqResult_frame rfl rfl
        exact Frame.refl
      · refine Frame.ite (fun _ => ?_) (fun _ => ?_)
        · refine Frame.then ?_ finishRequest_frame rfl rfl
          exact Frame.refl
        · exact Frame.refl
    try clear_value x1
    refine Frame.then ?_ enterMode_frame rfl rfl
    exact h1
  · exact Frame.refl

theorem execM6Exit_frame  : ∃ t, execM6Exit s = .next t ∧ Frame none [.bob, .csc, .dram, .dsc, .events, .fab, .free, .glb, .jobs, .later, .mem, .pwr, .rdo, .rv, .sec, .spn, .sram, .sup, .syn, .tap, .tln] s t := by
  refine ⟨_, rfl, ?_⟩
  refine Frame.ite (fun _ => ?_) (fun _ => ?_)
  · refine Frame.ite (fun _ => ?_) (fun _ => ?_)
    · refine Frame.then ?_ enterMode_frame rfl rfl
      exact Frame.refl
    · refine Frame.then ?_ enterMode_frame rfl rfl
      exact Frame.refl
  · exact Frame.refl

theorem stopEnds_frame  : Frame none [.bob, .csc, .dram, .dsc, .events, .fab, .free, .glb, .jobs, .later, .mem, .pwr, .rdo, .rv, .sec, .spn, .sram, .sup, .syn, .tap, .tln] s (stopEnds s) := by
  unfold stopEnds
  extract_lets -merge -useContext -underBinder +onlyGivenNames x1
  refine Frame.via x1 ?_ fun h1 => ?_
  · unfold x1
    refine Frame.then ?_ finishRequest_frame rfl rfl
    exact Frame.refl
  try clear_value x1
  refine Frame.ite (fun _ => ?_) (fun _ => ?_)
  · refine Frame.then ?_ enterMode_frame rfl rfl
    refine Frame.put ?_ (inRows_of (r := .GLB_MODE_STATUS) rfl (by exact rfl))
    exact h1
  · extract_lets -merge -useContext -underBinder +onlyGivenNames x2
    refine Frame.via x2 ?_ fun h2 => ?_
    · unfold x2
      refine Frame.put ?_ (inRows_of (r := .GLB_MODE_STATUS) rfl (by exact rfl))
      exact h1
    try clear_value x2
    refine Frame.then ?_ stopInM6_frame rfl rfl
    refine Frame.glb ?_ rfl (fun _ => trivial)
    exact h2

theorem execStopComplete_frame  : ∃ t, execStopComplete s = .next t ∧ Frame none [.bob, .csc, .dram, .dsc, .events, .fab, .free, .glb, .jobs, .later, .mem, .pwr, .rdo, .rv, .sec, .spn, .sram, .sup, .syn, .tap, .tln] s t := by
  refine ⟨_, rfl, ?_⟩
  first | split | (clear_value *; split)
  · refine Frame.ite (fun _ => ?_) (fun _ => ?_)
    · refine Frame.then ?_ stopEnds_frame rfl rfl
      exact Frame.refl
    · exact Frame.refl
  · exact Frame.refl

theorem execStopTimeout_frame  : ∃ t, execStopTimeout s = .next t ∧ Frame none [.bob, .csc, .dram, .dsc, .events, .fab, .free, .glb, .jobs, .later, .mem, .pwr, .rdo, .rv, .sec, .spn, .sram, .sup, .syn, .tap, .tln] s t := by
  refine ⟨_, rfl, ?_⟩
  first | split | (clear_value *; split)
  · refine Frame.ite (fun _ => ?_) (fun _ => ?_)
    · refine Frame.then ?_ stopEnds_frame rfl rfl
      exact Frame.refl
    · exact Frame.refl
  · exact Frame.refl

theorem execHoldExpired_frame  : ∃ t, execHoldExpired s = .next t ∧ Frame (some [.TLN_EVENT]) [.events, .glb, .later, .sup, .tln] s t := by
  refine ⟨_, rfl, ?_⟩
  extract_lets -merge -useContext -underBinder +onlyGivenNames v1
  refine Frame.ite (fun _ => ?_) (fun _ => ?_)
  · extract_lets -merge -useContext -underBinder +onlyGivenNames x2
    refine Frame.via x2 ?_ fun h2 => ?_
    · unfold x2
      refine Frame.raise ?_ (inRows_of (r := .TLN_EVENT) rfl (by exact rfl)) rfl
      exact Frame.refl
    try clear_value x2
    extract_lets -merge -useContext -underBinder +onlyGivenNames w3 x4
    refine Frame.via x4 ?_ fun h4 => ?_
    · unfold x4
      refine Frame.tln ?_ rfl (by first | exact id | exact fun h => ⟨(by first | exact h.1 | exact sparseWf_sset h.1 | exact sparseWf_nil | exact sparseWf_filter h.1 | exact sparseWf_smap h.1 | exact sparseWf_sdrop h.1 | exact sparseWf_sset (sparseWf_sset h.1) | exact sparseWf_fold sparseWf_nil | (dsimp only; exact sparseWf_smap h.1)), (by first | exact h.2 | exact sparseWf_sset h.2 | exact sparseWf_nil | exact sparseWf_filter h.2 | exact sparseWf_smap h.2 | exact sparseWf_sdrop h.2 | exact sparseWf_sset (sparseWf_sset h.2) | exact sparseWf_fold sparseWf_nil | (dsimp only; exact sparseWf_smap h.2))⟩)
      exact h2
    try clear_value x4
    refine Frame.ite (fun _ => ?_) (fun _ => ?_)
    · refine Frame.then ?_ stopAllSpindles_frame rfl rfl
      refine Frame.glb ?_ rfl (fun _ => trivial)
      exact h4
    · exact h4
  · exact Frame.refl

theorem execBiasRampTransition_frame  : ∃ t, execBiasRampTransition s = .next t ∧ Frame none [.bob, .csc, .dram, .dsc, .events, .fab, .free, .glb, .jobs, .later, .mem, .pwr, .rdo, .rv, .sec, .spn, .sram, .sup, .syn, .tap, .tln] s t := by
  refine ⟨_, rfl, ?_⟩
  first | split | (clear_value *; split)
  · refine Frame.ite (fun _ => ?_) (fun _ => ?_)
    · exact Frame.refl
    · extract_lets -merge -useContext -underBinder +onlyGivenNames w1 x2
      refine Frame.via x2 ?_ fun h2 => ?_
      · unfold x2
        refine Frame.glb ?_ rfl (fun _ => trivial)
        exact Frame.refl
      try clear_value x2
      refine Frame.ite (fun _ => ?_) (fun _ => ?_)
      · refine Frame.then ?_ beginClearing_frame rfl rfl
        exact h2
      · refine Frame.ite (fun _ => ?_) (fun _ => ?_)
        · refine Frame.then ?_ finishRequest_frame rfl rfl
          refine Frame.then ?_ enterMode_frame rfl rfl
          exact h2
        · refine Frame.then ?_ enterMode_frame rfl rfl
          exact h2
  · exact Frame.refl

theorem clkEvent_frame {a0 : Field} (h : Frame R P s t) (hR : rowsLe (some [.HIF_EVENT]) R = true) (hP : partsLe [.events, .sup] P = true) (ha0 : inRows R a0.reg) : Frame R P s (clkEvent a0 t) := by
  unfold clkEvent
  refine Frame.raise ?_ (inRows_of (r := .HIF_EVENT) (rowsLe_trans rfl hR) (by exact rfl)) (partsLe_trans rfl hP)
  refine Frame.raise ?_ ha0 (partsLe_trans rfl hP)
  exact h

theorem showRef_frame  : Frame (some [.GLB_CLK_STATUS]) [] s (showRef s) := by
  unfold showRef
  refine Frame.put ?_ (inRows_of (r := .GLB_CLK_STATUS) rfl (by exact rfl))
  exact Frame.refl

theorem reselectRef_frame  : Frame (some [.GLB_CLK_STATUS, .GLB_MODE_STATUS, .TLN_ADJ, .TLN_COUNT, .TLN_EVENT, .TLN_STATUS]) [.events, .free, .glb, .sup, .tln] s (reselectRef s) := by
  unfold reselectRef
  extract_lets -merge -useContext -underBinder +onlyGivenNames x1
  refine Frame.via x1 ?_ fun h1 => ?_
  · unfold x1
    refine Frame.then ?_ showRef_frame rfl rfl
    exact Frame.refl
  try clear_value x1
  refine Frame.ite (fun _ => ?_) (fun _ => ?_)
  · exact h1
  · extract_lets -merge -useContext -underBinder +onlyGivenNames x2
    refine Frame.via x2 ?_ fun h2 => ?_
    · unfold x2
      refine Frame.put ?_ (inRows_of (r := .GLB_CLK_STATUS) rfl (by exact rfl))
      refine Frame.put ?_ (inRows_of (r := .GLB_CLK_STATUS) rfl (by exact rfl))
      refine Frame.put ?_ (inRows_of (r := .GLB_CLK_STATUS) rfl (by exact rfl))
      exact h1
    try clear_value x2
    extract_lets -merge -useContext -underBinder +onlyGivenNames x3
    refine Frame.via x3 ?_ fun h3 => ?_
    · unfold x3
      refine Frame.then ?_ losePhases_frame rfl rfl
      refine Frame.then ?_ enterHoldover_frame rfl rfl
      refine Frame.put ?_ (inRows_of (r := .GLB_MODE_STATUS) rfl (by exact rfl))
      exact h2
    try clear_value x3
    refine Frame.glb ?_ rfl (fun _ => trivial)
    exact h3

theorem syncRequest_frame  : Frame (some [.CSC_STATUS, .GLB_CLK_STATUS, .GLB_MODE_STATUS, .HIF_EVENT]) [.events, .glb, .rdo, .sup] s (syncRequest s) := by
  unfold syncRequest
  refine Frame.ite (fun _ => ?_) (fun _ => ?_)
  · refine Frame.then ?_ applySync_frame rfl rfl
    exact Frame.refl
  · refine clkEvent_frame ?_ rfl rfl (inRows_of (r := .GLB_CLK_STATUS) rfl (by exact rfl))
    exact Frame.refl

theorem clkCtlWrite_frame {a0 : Path} {a1 : Word} : Frame (some [.CSC_STATUS, .GLB_CLK_CTL, .GLB_CLK_STATUS, .GLB_MODE_STATUS, .HIF_EVENT, .HIF_WR_REF, .HIF_WR_REF_ADDR_HI, .HIF_WR_REF_ADDR_LO, .SEC_EVENT, .SEC_STATUS, .TLN_ADJ, .TLN_COUNT, .TLN_EVENT, .TLN_STATUS]) [.events, .free, .glb, .rdo, .resp, .sup, .tln] s (clkCtlWrite a0 a1 s) := by
  unfold clkCtlWrite
  refine gated_frame ?_ rfl rfl (fun x hx => ?_)
  · exact Frame.refl
  · extract_lets -merge -useContext -underBinder +onlyGivenNames v1 v2 x3
    refine Frame.via x3 ?_ fun h3 => ?_
    · unfold x3
      refine Frame.ite (fun _ => ?_) (fun _ => ?_)
      · exact hx
      · refine Frame.ite (fun _ => ?_) (fun _ => ?_)
        · refine Frame.then ?_ wrRefused_frame rfl rfl
          exact hx
        · refine Frame.then ?_ reselectRef_frame rfl rfl
          refine Frame.then ?_ taint_frame rfl rfl
          refine Frame.put ?_ (inRows_of (r := .GLB_CLK_CTL) rfl (by exact rfl))
          exact hx
    try clear_value x3
    refine Frame.ite (fun _ => ?_) (fun _ => ?_)
    · refine Frame.then ?_ syncRequest_frame rfl rfl
      exact h3
    · exact h3

theorem execRefSrcWrite_frame {a0 : Path} {a1 : Word} : ∃ t, execRefSrcWrite a0 a1 s = .next t ∧ Frame (some [.CSC_STATUS, .GLB_CLK_CTL, .GLB_CLK_STATUS, .GLB_MODE_STATUS, .HIF_EVENT, .HIF_WR_REF, .HIF_WR_REF_ADDR_HI, .HIF_WR_REF_ADDR_LO, .SEC_EVENT, .SEC_STATUS, .TLN_ADJ, .TLN_COUNT, .TLN_EVENT, .TLN_STATUS]) [.events, .free, .glb, .rdo, .resp, .sup, .tln] s t := by
  refine ⟨_, rfl, ?_⟩
  refine Frame.then ?_ clkCtlWrite_frame rfl rfl
  exact Frame.refl

theorem execSyncWrite_frame {a0 : Path} {a1 : Word} : ∃ t, execSyncWrite a0 a1 s = .next t ∧ Frame (some [.CSC_STATUS, .GLB_CLK_CTL, .GLB_CLK_STATUS, .GLB_MODE_STATUS, .HIF_EVENT, .HIF_WR_REF, .HIF_WR_REF_ADDR_HI, .HIF_WR_REF_ADDR_LO, .SEC_EVENT, .SEC_STATUS, .TLN_ADJ, .TLN_COUNT, .TLN_EVENT, .TLN_STATUS]) [.events, .free, .glb, .rdo, .resp, .sup, .tln] s t := by
  refine ⟨_, rfl, ?_⟩
  refine Frame.then ?_ clkCtlWrite_frame rfl rfl
  exact Frame.refl

theorem execSyncAuto_frame  : ∃ t, execSyncAuto s = .next t ∧ Frame (some [.CSC_STATUS, .GLB_CLK_STATUS, .GLB_MODE_STATUS]) [.glb, .rdo] s t := by
  refine ⟨_, rfl, ?_⟩
  refine Frame.ite (fun _ => ?_) (fun _ => ?_)
  · refine Frame.then ?_ applySync_frame rfl rfl
    exact Frame.refl
  · exact Frame.refl

theorem execRefLoss_frame {a0 : Fin 8} : ∃ t, execRefLoss a0 s = .next t ∧ Frame (some [.GLB_CLK_STATUS, .HIF_EVENT, .TLN_ADJ, .TLN_COUNT, .TLN_EVENT, .TLN_STATUS]) [.events, .glb, .sup, .tln] s t := by
  refine ⟨_, rfl, ?_⟩
  extract_lets -merge -useContext -underBinder +onlyGivenNames v1 w2 x3
  refine Frame.via x3 ?_ fun h3 => ?_
  · unfold x3
    refine Frame.glb ?_ rfl (fun _ => trivial)
    exact Frame.refl
  try clear_value x3
  extract_lets -merge -useContext -underBinder +onlyGivenNames x4
  refine Frame.via x4 ?_ fun h4 => ?_
  · unfold x4
    refine Frame.then ?_ showRef_frame rfl rfl
    exact h3
  try clear_value x4
  refine Frame.ite (fun _ => ?_) (fun _ => ?_)
  · refine Frame.then ?_ enterHoldover_frame rfl rfl
    refine clkEvent_frame ?_ rfl rfl (inRows_of (r := .GLB_CLK_STATUS) rfl (by exact rfl))
    refine Frame.put ?_ (inRows_of (r := .GLB_CLK_STATUS) rfl (by exact rfl))
    exact h4
  · exact h4

theorem execRefReturn_frame {a0 : Fin 8} : ∃ t, execRefReturn a0 s = .next t ∧ Frame (some [.GLB_CLK_STATUS]) [.glb] s t := by
  refine ⟨_, rfl, ?_⟩
  refine Frame.then ?_ showRef_frame rfl rfl
  refine Frame.glb ?_ rfl (fun _ => trivial)
  exact Frame.refl

theorem clockLost_frame  : Frame (some [.SUP_TRIP, .SUP_TRIP_ERR, .SUP_TRIP_REEL_HI, .SUP_TRIP_REEL_LO, .SUP_TRIP_SEEN]) [.glb, .sup] s (clockLost s) := by
  unfold clockLost
  refine Frame.then ?_ noteDetection_frame rfl rfl
  refine Frame.then ?_ detect_frame rfl rfl
  exact Frame.refl

theorem execPllUnlock_frame  : ∃ t, execPllUnlock s = .next t ∧ Frame (some [.GLB_CLK_STATUS, .HIF_EVENT, .SUP_TRIP, .SUP_TRIP_ERR, .SUP_TRIP_REEL_HI, .SUP_TRIP_REEL_LO, .SUP_TRIP_SEEN, .TLN_ADJ, .TLN_COUNT, .TLN_EVENT, .TLN_STATUS]) [.events, .free, .glb, .sup, .tln] s t := by
  refine ⟨_, rfl, ?_⟩
  refine Frame.ite (fun _ => ?_) (fun _ => ?_)
  · extract_lets -merge -useContext -underBinder +onlyGivenNames x1
    refine Frame.via x1 ?_ fun h1 => ?_
    · unfold x1
      refine Frame.put ?_ (inRows_of (r := .GLB_CLK_STATUS) rfl (by exact rfl))
      refine Frame.put ?_ (inRows_of (r := .GLB_CLK_STATUS) rfl (by exact rfl))
      refine Frame.put ?_ (inRows_of (r := .GLB_CLK_STATUS) rfl (by exact rfl))
      exact Frame.refl
    try clear_value x1
    extract_lets -merge -useContext -underBinder +onlyGivenNames x2
    refine Frame.via x2 ?_ fun h2 => ?_
    · unfold x2
      refine Frame.then ?_ losePhases_frame rfl rfl
      refine Frame.then ?_ enterHoldover_frame rfl rfl
      refine clkEvent_frame ?_ rfl rfl (inRows_of (r := .GLB_CLK_STATUS) rfl (by exact rfl))
      exact h1
    try clear_value x2
    refine Frame.ite (fun _ => ?_) (fun _ => ?_)
    · refine Frame.then ?_ clockFault_frame rfl rfl
      exact h2
    · refine Frame.ite (fun _ => ?_) (fun _ => ?_)
      · refine Frame.then ?_ clockLost_frame rfl rfl
        exact h2
      · exact h2
  · exact Frame.refl

theorem execPllLock_frame  : ∃ t, execPllLock s = .next t ∧ Frame (some [.CSC_STATUS, .GLB_CLK_STATUS, .TLN_EVENT, .TLN_STATUS]) [.events, .free, .glb, .sup, .tln] s t := by
  refine ⟨_, rfl, ?_⟩
  extract_lets -merge -useContext -underBinder +onlyGivenNames v1
  refine Frame.ite (fun _ => ?_) (fun _ => ?_)
  · exact Frame.refl
  · extract_lets -merge -useContext -underBinder +onlyGivenNames x2
    refine Frame.via x2 ?_ fun h2 => ?_
    · unfold x2
      refine Frame.ite (fun _ => ?_) (fun _ => ?_)
      · exact Frame.refl
      · refine Frame.then ?_ newPhase_frame rfl rfl
        exact Frame.refl
    try clear_value x2
    extract_lets -merge -useContext -underBinder +onlyGivenNames x3
    refine Frame.via x3 ?_ fun h3 => ?_
    · unfold x3
      refine Frame.put ?_ (inRows_of (r := .GLB_CLK_STATUS) rfl (by exact rfl))
      refine Frame.put ?_ (inRows_of (r := .GLB_CLK_STATUS) rfl (by exact rfl))
      exact h2
    try clear_value x3
    extract_lets -merge -useContext -underBinder +onlyGivenNames x4
    refine Frame.via x4 ?_ fun h4 => ?_
    · unfold x4
      refine Frame.ite (fun _ => ?_) (fun _ => ?_)
      · refine Frame.put ?_ (inRows_of (r := .CSC_STATUS) rfl (by exact rfl))
        exact h3
      · exact h3
    try clear_value x4
    extract_lets -merge -useContext -underBinder +onlyGivenNames w5 x6
    refine Frame.via x6 ?_ fun h6 => ?_
    · unfold x6
      refine Frame.glb ?_ rfl (fun _ => trivial)
      exact h4
    try clear_value x6
    refine Frame.ite (fun _ => ?_) (fun _ => ?_)
    · refine Frame.put ?_ (inRows_of (r := .TLN_STATUS) rfl (by exact rfl))
      refine Frame.then ?_ lockReel_frame rfl rfl
      exact h6
    · exact h6

end Sys2Proof.Machine
end

