-- ==== Sys2Proof/Laws/Frame/Memory.lean ====
section
/-! SUPPORT. Laws/Frame/Memory.lean: what each operation of Machine/Memory.lean can change, and that it keeps a sound state sound. -/

set_option Elab.async false

namespace Sys2Proof.Machine

variable {R : Option (List RegRow)} {P : List Part} {s t : State}

theorem sramCe_frame {a0 : Nat} : Frame (some [.MEM_EVENT, .MEM_SRAM_ERR]) [.events, .mem, .sup] s (sramCe a0 s) := by
  unfold sramCe
  extract_lets -merge -useContext -underBinder +onlyGivenNames v1
  refine Frame.then ?_ countCe_frame rfl rfl
  refine Frame.raise ?_ (inRows_of (r := .MEM_EVENT) rfl (by exact rfl)) rfl
  refine Frame.count ?_ (inRows_of (r := .MEM_SRAM_ERR) rfl (by exact ⟨_, rfl⟩))
  exact Frame.refl

theorem execSramCe_frame {a0 : Fin 67108864} : ∃ t, execSramCe a0 s = .next t ∧ Frame (some [.MEM_EVENT, .MEM_SRAM_ERR]) [.events, .mem, .sup] s t := by
  refine ⟨_, rfl, ?_⟩
  refine Frame.then ?_ sramCe_frame rfl rfl
  exact Frame.refl

theorem sramReaderHit_frame {a0 : Nat} {a1 : SramReader} : Frame (some [.DRF_LANE_STATUS, .FAB_CT_COUNT, .FAB_CT_EVENT, .FAB_CT_LAST, .FAB_CT_LAST_MASK, .FAB_CT_STATE, .FAB_EVENT, .FAB_EV_COUNT, .HIF_EVENT, .HIF_WR_REF, .HIF_WR_REF_ADDR_HI, .HIF_WR_REF_ADDR_LO, .MEM_DRAM_ERR, .MEM_DRAM_UE_ADDR_HI, .MEM_DRAM_UE_ADDR_LO, .MEM_EVENT, .SEC_EVENT, .SEC_STATUS, .SPN_ERR, .SPN_EVENT, .SPN_STATUS, .TLN_EVENT, .TLN_LAUNCH_CFG]) [.dram, .dsc, .events, .fab, .free, .jobs, .later, .mem, .resp, .spn, .sup, .syn, .tln] s (sramReaderHit a0 a1 s) := by
  unfold sramReaderHit
  first | split | (clear_value *; split)
  · refine Frame.then ?_ uncorrFetch_frame rfl rfl
    exact Frame.refl
  · refine Frame.then ?_ State.setTgt_frame rfl rfl
    exact Frame.refl
  · refine Frame.ite (fun _ => ?_) (fun _ => ?_)
    · refine Frame.then ?_ breakWindow_frame rfl rfl
      exact Frame.refl
    · exact Frame.refl
  · refine Frame.then ?_ ctDone_frame rfl rfl
    exact Frame.refl
  · refine Frame.ite (fun _ => ?_) (fun _ => ?_)
    · exact Frame.refl
    · refine Frame.mem ?_ rfl (by first | exact id | exact fun h => ⟨(by first | exact h.1 | exact sparseWf_sset h.1 | exact sparseWf_nil | exact sparseWf_filter h.1 | exact sparseWf_smap h.1 | exact sparseWf_sdrop h.1 | exact sparseWf_sset (sparseWf_sset h.1) | exact sparseWf_fold sparseWf_nil | (dsimp only; exact sparseWf_smap h.1)), (by first | exact h.2.1 | exact sparseWf_sset h.2.1 | exact sparseWf_nil | exact sparseWf_filter h.2.1 | exact sparseWf_smap h.2.1 | exact sparseWf_sdrop h.2.1 | exact sparseWf_sset (sparseWf_sset h.2.1) | exact sparseWf_fold sparseWf_nil | (dsimp only; exact sparseWf_smap h.2.1)), (by first | exact h.2.2.1 | exact sparseWf_sset h.2.2.1 | exact sparseWf_nil | exact sparseWf_filter h.2.2.1 | exact sparseWf_smap h.2.2.1 | exact sparseWf_sdrop h.2.2.1 | exact sparseWf_sset (sparseWf_sset h.2.2.1) | exact sparseWf_fold sparseWf_nil | (dsimp only; exact sparseWf_smap h.2.2.1)), (by first | exact h.2.2.2 | exact sparseWf_sset h.2.2.2 | exact sparseWf_nil | exact sparseWf_filter h.2.2.2 | exact sparseWf_smap h.2.2.2 | exact sparseWf_sdrop h.2.2.2 | exact sparseWf_sset (sparseWf_sset h.2.2.2) | exact sparseWf_fold sparseWf_nil | (dsimp only; exact sparseWf_smap h.2.2.2))⟩)
      exact Frame.refl
  · refine Frame.ite (fun _ => ?_) (fun _ => ?_)
    · refine Frame.then ?_ missSlot_frame rfl rfl
      exact Frame.refl
    · exact Frame.refl
  · refine Frame.ite (fun _ => ?_) (fun _ => ?_)
    · refine Frame.then ?_ startJob_frame rfl rfl
      exact Frame.refl
    · exact Frame.refl
  · refine Frame.raise ?_ (inRows_of (r := .MEM_EVENT) rfl (by exact rfl)) rfl
    exact Frame.refl
  · exact Frame.refl

theorem execSramUe_frame {a0 : Fin 67108864} {a1 : SramReader} : ∃ t, execSramUe a0 a1 s = .next t ∧ Frame (some [.DRF_LANE_STATUS, .FAB_CT_COUNT, .FAB_CT_EVENT, .FAB_CT_LAST, .FAB_CT_LAST_MASK, .FAB_CT_STATE, .FAB_EVENT, .FAB_EV_COUNT, .GLB_MODE_STATUS, .HIF_EVENT, .HIF_WR_REF, .HIF_WR_REF_ADDR_HI, .HIF_WR_REF_ADDR_LO, .MEM_DRAM_ERR, .MEM_DRAM_UE_ADDR_HI, .MEM_DRAM_UE_ADDR_LO, .MEM_EVENT, .MEM_SRAM_ERR, .MEM_SRAM_UE_ADDR, .SEC_EVENT, .SEC_STATUS, .SPN_ERR, .SPN_EVENT, .SPN_STATUS, .SUP_TRIP, .SUP_TRIP_ERR, .SUP_TRIP_REEL_HI, .SUP_TRIP_REEL_LO, .SUP_TRIP_SEEN, .TLN_EVENT, .TLN_LAUNCH_CFG]) [.dram, .dsc, .events, .fab, .free, .glb, .jobs, .later, .mem, .resp, .spn, .sup, .syn, .tln] s t := by
  refine ⟨_, rfl, ?_⟩
  refine Frame.ite (fun _ => ?_) (fun _ => ?_)
  · refine Frame.then ?_ sramReaderHit_frame rfl rfl
    refine Frame.then ?_ sramUe_frame rfl rfl
    exact Frame.refl
  · exact Frame.refl

theorem execScrubPassDone_frame {a0 : Bool} : ∃ t, execScrubPassDone a0 s = .next t ∧ Frame (some [.MEM_EVENT]) [.events, .sup] s t := by
  refine ⟨_, rfl, ?_⟩
  refine Frame.ite (fun _ => ?_) (fun _ => ?_)
  · refine Frame.raiseIf ?_ (inRows_of (r := .MEM_EVENT) rfl (by exact rfl)) rfl
    exact Frame.refl
  · refine Frame.raiseIf ?_ (inRows_of (r := .MEM_EVENT) rfl (by exact rfl)) rfl
    exact Frame.refl

theorem execDramCe_frame {a0 : Fin 137438953472} : ∃ t, execDramCe a0 s = .next t ∧ Frame (some [.MEM_DRAM_ERR, .MEM_EVENT]) [.events, .mem, .sup] s t := by
  refine ⟨_, rfl, ?_⟩
  refine Frame.then ?_ countCe_frame rfl rfl
  refine Frame.raise ?_ (inRows_of (r := .MEM_EVENT) rfl (by exact rfl)) rfl
  refine Frame.count ?_ (inRows_of (r := .MEM_DRAM_ERR) rfl (by exact ⟨_, rfl⟩))
  exact Frame.refl

theorem endRdma_frame {a0 : Nat} : Frame (some [.CSC_RDMA_STATUS]) [.csc] s (endRdma a0 s) := by
  unfold endRdma
  extract_lets -merge -useContext -underBinder +onlyGivenNames x1
  refine Frame.via x1 ?_ fun h1 => ?_
  · unfold x1
    refine Frame.put ?_ (inRows_of (r := .CSC_RDMA_STATUS) rfl (by exact rfl))
    refine Frame.put ?_ (inRows_of (r := .CSC_RDMA_STATUS) rfl (by exact rfl))
    exact Frame.refl
  try clear_value x1
  refine Frame.csc ?_ rfl (fun h => (by first | exact h | exact sparseWf_sset h | exact sparseWf_nil | exact sparseWf_filter h | exact sparseWf_smap h | exact sparseWf_sdrop h | exact sparseWf_sset (sparseWf_sset h) | exact sparseWf_fold sparseWf_nil | (dsimp only; exact sparseWf_smap h)))
  exact h1

theorem failRdma_frame  : Frame (some [.CSC_RDMA_STATUS]) [.csc, .free] s (failRdma s) := by
  unfold failRdma
  first | split | (clear_value *; split)
  · rename_i x1 e1
    refine Frame.via x1 (Frame.ofSnd e1 ?_) fun h1 => ?_
    · refine Frame.fresh ?_ rfl
      exact Frame.refl
    refine Frame.then ?_ endRdma_frame rfl rfl
    exact h1

theorem dramReaderHit_frame {a0 : Nat} {a1 : DramReader} : Frame (some [.CSC_RDMA_STATUS, .MEM_EVENT, .STM_RV_EVENT]) [.csc, .events, .free, .jobs, .mem, .rv, .sup] s (dramReaderHit a0 a1 s) := by
  unfold dramReaderHit
  first | split | (clear_value *; split)
  · refine Frame.ite (fun _ => ?_) (fun _ => ?_)
    · exact Frame.refl
    · refine Frame.then ?_ refillError_frame rfl rfl
      exact Frame.refl
  · first | split | (clear_value *; split)
    · refine Frame.then ?_ State.setJob_frame rfl rfl
      exact Frame.refl
    · exact Frame.refl
  · refine Frame.ite (fun _ => ?_) (fun _ => ?_)
    · refine Frame.then ?_ failRdma_frame rfl rfl
      exact Frame.refl
    · exact Frame.refl
  · refine Frame.raise ?_ (inRows_of (r := .MEM_EVENT) rfl (by exact rfl)) rfl
    exact Frame.refl
  · exact Frame.refl

theorem execDramUe_frame {a0 : Fin 137438953472} {a1 : DramReader} : ∃ t, execDramUe a0 a1 s = .next t ∧ Frame (some [.CSC_RDMA_STATUS, .MEM_DRAM_ERR, .MEM_DRAM_UE_ADDR_HI, .MEM_DRAM_UE_ADDR_LO, .MEM_EVENT, .STM_RV_EVENT]) [.csc, .events, .free, .jobs, .mem, .rv, .sup] s t := by
  refine ⟨_, rfl, ?_⟩
  refine Frame.then ?_ dramReaderHit_frame rfl rfl
  refine Frame.then ?_ dramUe_frame rfl rfl
  exact Frame.refl

theorem execRefreshDown_frame {a0 : Fin 4} : ∃ t, execRefreshDown a0 s = .next t ∧ Frame (some [.MEM_EVENT, .MEM_STATUS]) [.events, .mem, .sup] s t := by
  refine ⟨_, rfl, ?_⟩
  first | split | (clear_value *; split)
  · refine Frame.ite (fun _ => ?_) (fun _ => ?_)
    · extract_lets -merge -useContext -underBinder +onlyGivenNames x1
      refine Frame.via x1 ?_ fun h1 => ?_
      · unfold x1
        refine Frame.raise ?_ (inRows_of (r := .MEM_EVENT) rfl (by exact rfl)) rfl
        refine Frame.put ?_ (inRows_of (r := .MEM_STATUS) rfl (by exact rfl))
        exact Frame.refl
      try clear_value x1
      refine Frame.mem ?_ rfl (fun h => ⟨(by first | exact h.1 | exact sparseWf_sset h.1 | exact sparseWf_nil | exact sparseWf_filter h.1 | exact sparseWf_smap h.1 | exact sparseWf_sdrop h.1 | exact sparseWf_sset (sparseWf_sset h.1) | exact sparseWf_fold sparseWf_nil | (dsimp only; exact sparseWf_smap h.1)), (by first | exact h.2.1 | exact sparseWf_sset h.2.1 | exact sparseWf_nil | exact sparseWf_filter h.2.1 | exact sparseWf_smap h.2.1 | exact sparseWf_sdrop h.2.1 | exact sparseWf_sset (sparseWf_sset h.2.1) | exact sparseWf_fold sparseWf_nil | (dsimp only; exact sparseWf_smap h.2.1)), (by first | exact h.2.2.1 | exact sparseWf_sset h.2.2.1 | exact sparseWf_nil | exact sparseWf_filter h.2.2.1 | exact sparseWf_smap h.2.2.1 | exact sparseWf_sdrop h.2.2.1 | exact sparseWf_sset (sparseWf_sset h.2.2.1) | exact sparseWf_fold sparseWf_nil | (dsimp only; exact sparseWf_smap h.2.2.1)), (by first | exact h.2.2.2 | exact sparseWf_sset h.2.2.2 | exact sparseWf_nil | exact sparseWf_filter h.2.2.2 | exact sparseWf_smap h.2.2.2 | exact sparseWf_sdrop h.2.2.2 | exact sparseWf_sset (sparseWf_sset h.2.2.2) | exact sparseWf_fold sparseWf_nil | (dsimp only; exact sparseWf_smap h.2.2.2))⟩)
      exact h1
    · exact Frame.refl
  · exact Frame.refl

theorem c1Refused_frame {a0 : Nat} : Frame (some [.BOB_EVENT, .BOB_STATUS, .MEM_CLS_COUNT, .MEM_EVENT]) [.bob, .events, .mem, .sup] s (c1Refused a0 s) := by
  unfold c1Refused
  first | split | (clear_value *; split)
  · extract_lets -merge -useContext -underBinder +onlyGivenNames w1 x2
    refine Frame.via x2 ?_ fun h2 => ?_
    · unfold x2
      refine Frame.then ?_ raiseDelayed_frame rfl rfl
      refine Frame.count ?_ (inRows_of (r := .MEM_CLS_COUNT) rfl (by exact ⟨_, rfl⟩))
      refine Frame.mem ?_ rfl (by first | exact id | exact fun h => ⟨(by first | exact h.1 | exact sparseWf_sset h.1 | exact sparseWf_nil | exact sparseWf_filter h.1 | exact sparseWf_smap h.1 | exact sparseWf_sdrop h.1 | exact sparseWf_sset (sparseWf_sset h.1) | exact sparseWf_fold sparseWf_nil | (dsimp only; exact sparseWf_smap h.1)), (by first | exact h.2.1 | exact sparseWf_sset h.2.1 | exact sparseWf_nil | exact sparseWf_filter h.2.1 | exact sparseWf_smap h.2.1 | exact sparseWf_sdrop h.2.1 | exact sparseWf_sset (sparseWf_sset h.2.1) | exact sparseWf_fold sparseWf_nil | (dsimp only; exact sparseWf_smap h.2.1)), (by first | exact h.2.2.1 | exact sparseWf_sset h.2.2.1 | exact sparseWf_nil | exact sparseWf_filter h.2.2.1 | exact sparseWf_smap h.2.2.1 | exact sparseWf_sdrop h.2.2.1 | exact sparseWf_sset (sparseWf_sset h.2.2.1) | exact sparseWf_fold sparseWf_nil | (dsimp only; exact sparseWf_smap h.2.2.1)), (by first | exact h.2.2.2 | exact sparseWf_sset h.2.2.2 | exact sparseWf_nil | exact sparseWf_filter h.2.2.2 | exact sparseWf_smap h.2.2.2 | exact sparseWf_sdrop h.2.2.2 | exact sparseWf_sset (sparseWf_sset h.2.2.2) | exact sparseWf_fold sparseWf_nil | (dsimp only; exact sparseWf_smap h.2.2.2))⟩)
      exact Frame.refl
    try clear_value x2
    refine Frame.then ?_ spillRefused_frame rfl rfl
    refine Frame.raise ?_ (inRows_of (r := .MEM_EVENT) rfl (by exact rfl)) rfl
    refine Frame.count ?_ (inRows_of (r := .MEM_CLS_COUNT) rfl (by exact ⟨_, rfl⟩))
    exact h2
  · exact Frame.refl

theorem execC1Refused_frame {a0 : Fin 32} : ∃ t, execC1Refused a0 s = .next t ∧ Frame (some [.BOB_EVENT, .BOB_STATUS, .MEM_CLS_COUNT, .MEM_EVENT]) [.bob, .events, .mem, .sup] s t := by
  refine ⟨_, rfl, ?_⟩
  refine Frame.then ?_ c1Refused_frame rfl rfl
  exact Frame.refl

end Sys2Proof.Machine
end

