-- ==== Sys2Proof/Laws/Frame/Bulk.lean ====
section
/-! SUPPORT. Laws/Frame/Bulk.lean: what each operation of Machine/Bulk.lean can change, and that it keeps a sound state sound. -/

set_option Elab.async false

namespace Sys2Proof.Machine

variable {R : Option (List RegRow)} {P : List Part} {s t : State}

theorem routePacket_frame {a0 : Nat} {a1 : Packet} : Frame (some []) [.csc] s (routePacket a0 a1 s) := by
  unfold routePacket
  refine Frame.ite (fun _ => ?_) (fun _ => ?_)
  · extract_lets -merge -useContext -underBinder +onlyGivenNames v1
    refine Frame.then ?_ State.setTwist_frame rfl rfl
    exact Frame.refl
  · exact Frame.refl

theorem freeBuffer_frame {a0 : Nat} : Frame (some []) [.csc] s (freeBuffer a0 s) := by
  unfold freeBuffer
  refine Frame.ite (fun _ => ?_) (fun _ => ?_)
  · exact Frame.refl
  · extract_lets -merge -useContext -underBinder +onlyGivenNames v1 v2 v3
    refine Frame.then ?_ State.setTwist_frame rfl rfl
    exact Frame.refl

theorem startPacket_frame {a0 : Nat} : Frame (some []) [.csc, .later] s (startPacket a0 s) := by
  unfold startPacket
  extract_lets -merge -useContext -underBinder +onlyGivenNames v1 v2
  first | split | (clear_value *; split)
  · extract_lets -merge -useContext -underBinder +onlyGivenNames v3 v4 v5 x6
    refine Frame.via x6 ?_ fun h6 => ?_
    · unfold x6
      refine Frame.then ?_ State.setTwist_frame rfl rfl
      exact Frame.refl
    try clear_value x6
    refine Frame.then ?_ freeBuffer_frame rfl rfl
    refine Frame.then ?_ bulkFrame_frame rfl rfl
    exact h6
  · exact Frame.refl

theorem execBulkPacketStart_frame {a0 : Fin 4} : ∃ t, execBulkPacketStart a0 s = .next t ∧ Frame (some []) [.csc, .later] s t := by
  refine ⟨_, rfl, ?_⟩
  refine Frame.then ?_ startPacket_frame rfl rfl
  exact Frame.refl

theorem onPacket_frame {a0 : Nat} {a1 : Nat} {a2 : Nat} {a3 : Packet} {a4 : State → State} (h : Frame R P s t) (hR : rowsLe (some []) R = true) (hP : partsLe [.csc] P = true) (ha4 : ∀ x, Frame R P s x → Frame R P s (a4 x)) : Frame R P s (onPacket a0 a1 a2 a3 a4 t) := by
  unfold onPacket
  refine Frame.ite (fun _ => ?_) (fun _ => ?_)
  · extract_lets -merge -useContext -underBinder +onlyGivenNames x1
    refine Frame.via x1 ?_ fun h1 => ?_
    · unfold x1
      refine Frame.then ?_ creditBack_frame (rowsLe_trans rfl hR) (partsLe_trans rfl hP)
      exact h
    try clear_value x1
    refine Frame.ite (fun _ => ?_) (fun _ => ?_)
    · refine Frame.then ?_ freeBuffer_frame (rowsLe_trans rfl hR) (partsLe_trans rfl hP)
      refine ha4 _ ?_
      exact h1
    · refine Frame.ite (fun _ => ?_) (fun _ => ?_)
      · refine Frame.then ?_ routePacket_frame (rowsLe_trans rfl hR) (partsLe_trans rfl hP)
        exact h1
      · refine Frame.then ?_ freeBuffer_frame (rowsLe_trans rfl hR) (partsLe_trans rfl hP)
        exact h1
  · exact h

theorem execBulkErr_frame {a0 : Fin 4} {a1 : Fin 4} : ∃ t, execBulkErr a0 a1 s = .next t ∧ Frame (some [.CSC_EVENT, .CSC_TW_BULK]) [.csc, .events, .sup] s t := by
  refine ⟨_, rfl, ?_⟩
  refine Frame.ite (fun _ => ?_) (fun _ => ?_)
  · refine Frame.then ?_ freeBuffer_frame rfl rfl
    refine Frame.raise ?_ (inRows_of (r := .CSC_EVENT) rfl (by exact rfl)) rfl
    refine Frame.count ?_ (inRows_of (r := .CSC_TW_BULK) rfl (by exact ⟨_, rfl⟩))
    exact Frame.refl
  · exact Frame.refl

theorem takeTag_frame  : Frame (some []) [.csc] s (takeTag s).2 := by
  unfold takeTag
  refine Frame.csc ?_ rfl (by first | exact id | exact fun h => (by first | exact h | exact sparseWf_sset h | exact sparseWf_nil | exact sparseWf_filter h | exact sparseWf_smap h | exact sparseWf_sdrop h | exact sparseWf_sset (sparseWf_sset h) | exact sparseWf_fold sparseWf_nil | (dsimp only; exact sparseWf_smap h)))
  exact Frame.refl

theorem rraStart_frame {a0 : Word} : Frame (some [.CSC_RRA_STATUS]) [.csc] s (rraStart a0 s) := by
  unfold rraStart
  refine Frame.ite (fun _ => ?_) (fun _ => ?_)
  · extract_lets -merge -useContext -underBinder +onlyGivenNames v1 v2
    refine Frame.ite (fun _ => ?_) (fun _ => ?_)
    · first | split | (clear_value *; split)
      · rename_i x3 e3
        refine Frame.via x3 (Frame.ofSnd e3 ?_) fun h3 => ?_
        · refine Frame.then ?_ takeTag_frame rfl rfl
          exact Frame.refl
        extract_lets -merge -useContext -underBinder +onlyGivenNames v4 v5 x6
        refine Frame.via x6 ?_ fun h6 => ?_
        · unfold x6
          refine Frame.put ?_ (inRows_of (r := .CSC_RRA_STATUS) rfl (by exact rfl))
          refine Frame.put ?_ (inRows_of (r := .CSC_RRA_STATUS) rfl (by exact rfl))
          exact h3
        try clear_value x6
        refine Frame.then ?_ routePacket_frame rfl rfl
        refine Frame.csc ?_ rfl (by first | exact id | exact fun h => (by first | exact h | exact sparseWf_sset h | exact sparseWf_nil | exact sparseWf_filter h | exact sparseWf_smap h | exact sparseWf_sdrop h | exact sparseWf_sset (sparseWf_sset h) | exact sparseWf_fold sparseWf_nil | (dsimp only; exact sparseWf_smap h)))
        exact h6
    · refine Frame.put ?_ (inRows_of (r := .CSC_RRA_STATUS) rfl (by exact rfl))
      exact Frame.refl
  · exact Frame.refl

theorem execRraWrite_frame {a0 : Path} {a1 : Fin 64} : ∃ t, execRraWrite a0 a1 s = .next t ∧ Frame (some [.CSC_RRA_STATUS, .HIF_EVENT, .HIF_WR_REF, .HIF_WR_REF_ADDR_HI, .HIF_WR_REF_ADDR_LO]) [.csc, .events, .resp, .sup] s t := by
  refine ⟨_, rfl, ?_⟩
  refine gated_frame ?_ rfl rfl (fun x hx => ?_)
  · exact Frame.refl
  · refine Frame.then ?_ rraStart_frame rfl rfl
    exact hx

theorem execRraRead_frame {a0 : Path} {a1 : Fin 64} : ∃ t, execRraRead a0 a1 s = .next t ∧ Frame (some [.CSC_RRA_STATUS, .HIF_EVENT, .HIF_WR_REF, .HIF_WR_REF_ADDR_HI, .HIF_WR_REF_ADDR_LO]) [.csc, .events, .resp, .sup] s t := by
  refine ⟨_, rfl, ?_⟩
  refine gated_frame ?_ rfl rfl (fun x hx => ?_)
  · exact Frame.refl
  · refine Frame.then ?_ rraStart_frame rfl rfl
    exact hx

theorem endRra_frame {a0 : Nat} : Frame (some [.CSC_RRA_STATUS]) [.csc] s (endRra a0 s) := by
  unfold endRra
  extract_lets -merge -useContext -underBinder +onlyGivenNames x1
  refine Frame.via x1 ?_ fun h1 => ?_
  · unfold x1
    refine Frame.put ?_ (inRows_of (r := .CSC_RRA_STATUS) rfl (by exact rfl))
    refine Frame.put ?_ (inRows_of (r := .CSC_RRA_STATUS) rfl (by exact rfl))
    exact Frame.refl
  try clear_value x1
  refine Frame.csc ?_ rfl (by first | exact id | exact fun h => (by first | exact h | exact sparseWf_sset h | exact sparseWf_nil | exact sparseWf_filter h | exact sparseWf_smap h | exact sparseWf_sdrop h | exact sparseWf_sset (sparseWf_sset h) | exact sparseWf_fold sparseWf_nil | (dsimp only; exact sparseWf_smap h)))
  exact h1

theorem execRraTimeout_frame  : ∃ t, execRraTimeout s = .next t ∧ Frame (some [.CSC_RRA_STATUS]) [.csc] s t := by
  refine ⟨_, rfl, ?_⟩
  first | split | (clear_value *; split)
  · refine Frame.ite (fun _ => ?_) (fun _ => ?_)
    · refine Frame.then ?_ endRra_frame rfl rfl
      exact Frame.refl
    · exact Frame.refl
  · exact Frame.refl

theorem rdmaPackets_frame {a0 : Nat} {a1 : Nat} {a2 : Nat} {a3 : Nat} {a4 : List Byte} : Frame (some []) [.csc] s (rdmaPackets a0 a1 a2 a3 a4 s) := by
  induction a2 generalizing a3 a4 s with
  | zero => exact Frame.refl
  | succ n ih =>
    have h1 : Frame (some []) [.csc] s (takeTag s).2 := takeTag_frame
    have h2 : Frame (some []) [.csc] s { (takeTag s).2 with csc := { (takeTag s).2.csc with rdmaTags := (takeTag s).2.csc.rdmaTags ++ [(takeTag s).1] } } :=
      h1.csc rfl id
    exact (h2.then routePacket_frame rfl rfl).trans ih

theorem rdmaStart_frame {a0 : Word} : Frame (some [.CSC_RDMA_STATUS]) [.csc, .mem] s (rdmaStart a0 s) := by
  unfold rdmaStart
  refine Frame.ite (fun _ => ?_) (fun _ => ?_)
  · extract_lets -merge -useContext -underBinder +onlyGivenNames v1 v2
    refine Frame.ite (fun _ => ?_) (fun _ => ?_)
    · refine Frame.put ?_ (inRows_of (r := .CSC_RDMA_STATUS) rfl (by exact rfl))
      exact Frame.refl
    · refine Frame.ite (fun _ => ?_) (fun _ => ?_)
      · refine Frame.put ?_ (inRows_of (r := .CSC_RDMA_STATUS) rfl (by exact rfl))
        exact Frame.refl
      · extract_lets -merge -useContext -underBinder +onlyGivenNames v3 v4
        refine Frame.ite (fun _ => ?_) (fun _ => ?_)
        · refine Frame.put ?_ (inRows_of (r := .CSC_RDMA_STATUS) rfl (by exact rfl))
          exact Frame.refl
        · extract_lets -merge -useContext -underBinder +onlyGivenNames x5
          refine Frame.via x5 ?_ fun h5 => ?_
          · unfold x5
            refine Frame.put ?_ (inRows_of (r := .CSC_RDMA_STATUS) rfl (by exact rfl))
            refine Frame.put ?_ (inRows_of (r := .CSC_RDMA_STATUS) rfl (by exact rfl))
            exact Frame.refl
          try clear_value x5
          extract_lets -merge -useContext -underBinder +onlyGivenNames w6 x7
          refine Frame.via x7 ?_ fun h7 => ?_
          · unfold x7
            refine Frame.csc ?_ rfl (fun h => (by first | exact h | exact sparseWf_sset h | exact sparseWf_nil | exact sparseWf_filter h | exact sparseWf_smap h | exact sparseWf_sdrop h | exact sparseWf_sset (sparseWf_sset h) | exact sparseWf_fold sparseWf_nil | (dsimp only; exact sparseWf_smap h)))
            exact h5
          try clear_value x7
          refine Frame.then ?_ holdAccess_frame rfl rfl
          exact h7
  · exact Frame.refl

theorem execRdmaStart_frame {a0 : Path} {a1 : Fin 4} {a2 : Fin 64} : ∃ t, execRdmaStart a0 a1 a2 s = .next t ∧ Frame (some [.CSC_RDMA_STATUS, .HIF_EVENT, .HIF_WR_REF, .HIF_WR_REF_ADDR_HI, .HIF_WR_REF_ADDR_LO]) [.csc, .events, .mem, .resp, .sup] s t := by
  refine ⟨_, rfl, ?_⟩
  refine gated_frame ?_ rfl rfl (fun x hx => ?_)
  · exact Frame.refl
  · refine Frame.then ?_ rdmaStart_frame rfl rfl
    exact hx

theorem rdmaSend_frame {a0 : Nat} {a1 : Nat} {a2 : Nat} {a3 : Nat} {a4 : Nat} : Frame (some [.CSC_RDMA_STATUS, .MEM_DRAM_ERR, .MEM_DRAM_UE_ADDR_HI, .MEM_DRAM_UE_ADDR_LO, .MEM_EVENT, .SEC_EVENT]) [.csc, .events, .free, .sup] s (rdmaSend a0 a1 a2 a3 a4 s) := by
  unfold rdmaSend
  refine Frame.ite (fun _ => ?_) (fun _ => ?_)
  · first | split | (clear_value *; split)
    · rename_i x1 e1
      refine Frame.via x1 (Frame.ofSnd e1 ?_) fun h1 => ?_
      · refine Frame.then ?_ dramFinds_frame rfl rfl
        exact Frame.refl
      refine Frame.ite (fun _ => ?_) (fun _ => ?_)
      · refine Frame.then ?_ failRdma_frame rfl rfl
        exact h1
      · first | split | (clear_value *; split)
        · rename_i x2 e2
          refine Frame.via x2 (Frame.ofSnd e2 ?_) fun h2 => ?_
          · refine Frame.then ?_ readDram_frame rfl rfl
            exact h1
          refine Frame.then ?_ rdmaPackets_frame rfl rfl
          exact h2
  · exact Frame.refl

theorem execRdmaTimeout_frame  : ∃ t, execRdmaTimeout s = .next t ∧ Frame (some [.CSC_RDMA_STATUS]) [.csc] s t := by
  refine ⟨_, rfl, ?_⟩
  refine Frame.ite (fun _ => ?_) (fun _ => ?_)
  · refine Frame.then ?_ endRdma_frame rfl rfl
    exact Frame.refl
  · exact Frame.refl

theorem takeCpl_frame {a0 : Nat} {a1 : Nat} {a2 : Option Word} : Frame (some [.CSC_EVENT, .CSC_RDMA_STATUS, .CSC_RRA_DATA, .CSC_RRA_STATUS]) [.csc, .events, .sup] s (takeCpl a0 a1 a2 s) := by
  unfold takeCpl
  extract_lets -merge -useContext -underBinder +onlyGivenNames v1
  refine Frame.ite (fun _ => ?_) (fun _ => ?_)
  · extract_lets -merge -useContext -underBinder +onlyGivenNames v2 x3
    refine Frame.via x3 ?_ fun h3 => ?_
    · unfold x3
      first | split | (clear_value *; split)
      · refine Frame.ite (fun _ => ?_) (fun _ => ?_)
        · refine Frame.wr ?_ (inRows_of (r := .CSC_RRA_DATA) rfl (by exact rfl))
          exact Frame.refl
        · exact Frame.refl
      · exact Frame.refl
    try clear_value x3
    refine Frame.raise ?_ (inRows_of (r := .CSC_EVENT) rfl (by exact rfl)) rfl
    refine Frame.then ?_ endRra_frame rfl rfl
    exact h3
  · refine Frame.ite (fun _ => ?_) (fun _ => ?_)
    · refine Frame.ite (fun _ => ?_) (fun _ => ?_)
      · extract_lets -merge -useContext -underBinder +onlyGivenNames v4 w5 x6
        refine Frame.via x6 ?_ fun h6 => ?_
        · unfold x6
          refine Frame.csc ?_ rfl (by first | exact id | exact fun h => (by first | exact h | exact sparseWf_sset h | exact sparseWf_nil | exact sparseWf_filter h | exact sparseWf_smap h | exact sparseWf_sdrop h | exact sparseWf_sset (sparseWf_sset h) | exact sparseWf_fold sparseWf_nil | (dsimp only; exact sparseWf_smap h)))
          exact Frame.refl
        try clear_value x6
        refine Frame.ite (fun _ => ?_) (fun _ => ?_)
        · refine Frame.raise ?_ (inRows_of (r := .CSC_EVENT) rfl (by exact rfl)) rfl
          refine Frame.then ?_ endRdma_frame rfl rfl
          exact h6
        · exact h6
      · refine Frame.then ?_ endRdma_frame rfl rfl
        exact Frame.refl
    · exact Frame.refl

theorem execBulkCpl_frame {a0 : Fin 4} {a1 : Fin 4} {a2 : Fin 16} {a3 : Fin 64} {a4 : Fin 64} {a5 : Byte} {a6 : Fin 8} {a7 : Option Word} : ∃ t, execBulkCpl a0 a1 a2 a3 a4 a5 a6 a7 s = .next t ∧ Frame (some [.CSC_EVENT, .CSC_RDMA_STATUS, .CSC_RRA_DATA, .CSC_RRA_STATUS]) [.csc, .events, .sup] s t := by
  refine ⟨_, rfl, ?_⟩
  refine onPacket_frame ?_ rfl rfl (fun x hx => ?_)
  · exact Frame.refl
  · refine Frame.then ?_ takeCpl_frame rfl rfl
    exact hx

end Sys2Proof.Machine
end

