-- ==== Sys2Proof/Laws/Frame/Front.lean ====
section
/-! SUPPORT. Laws/Frame/Front.lean: what each operation of Machine/Front.lean can change, and that it keeps a sound state sound. -/

set_option Elab.async false

namespace Sys2Proof.Machine

variable {R : Option (List RegRow)} {P : List Part} {s t : State}

theorem execFrontEndChangeApply_frame  : ∃ t, execFrontEndChangeApply s = .next t ∧ Frame (some [.RDO_ACQ_STATUS, .RDO_CH_APPLIED_FTW_HI, .RDO_CH_APPLIED_FTW_LO, .RDO_STATUS]) [.rdo] s t := by
  refine ⟨_, rfl, ?_⟩
  extract_lets -merge -useContext -underBinder +onlyGivenNames v1 w2 x3
  refine Frame.via x3 ?_ fun h3 => ?_
  · unfold x3
    refine Frame.rdo ?_ rfl (fun h => ⟨(by first | exact h.1 | exact sparseWf_sset h.1 | exact sparseWf_nil | exact sparseWf_filter h.1 | exact sparseWf_smap h.1 | exact sparseWf_sdrop h.1 | exact sparseWf_sset (sparseWf_sset h.1) | exact sparseWf_fold sparseWf_nil | (dsimp only; exact sparseWf_smap h.1)), (by first | exact h.2.1 | exact sparseWf_sset h.2.1 | exact sparseWf_nil | exact sparseWf_filter h.2.1 | exact sparseWf_smap h.2.1 | exact sparseWf_sdrop h.2.1 | exact sparseWf_sset (sparseWf_sset h.2.1) | exact sparseWf_fold sparseWf_nil | (dsimp only; exact sparseWf_smap h.2.1)), (by first | exact h.2.2 | exact sparseWf_sset h.2.2 | exact sparseWf_nil | exact sparseWf_filter h.2.2 | exact sparseWf_smap h.2.2 | exact sparseWf_sdrop h.2.2 | exact sparseWf_sset (sparseWf_sset h.2.2) | exact sparseWf_fold sparseWf_nil | (dsimp only; exact sparseWf_smap h.2.2))⟩)
    exact Frame.refl
  try clear_value x3
  refine Frame.forAll _ ?_ fun i x hx => ?_
  · exact h3
  · refine Frame.then ?_ applyChange_frame rfl rfl
    exact hx

theorem attWrite_frame {a0 : Nat} {a1 : Word} : Frame (some [.RDO_ACQ_ATT]) [.rdo] s (attWrite a0 a1 s) := by
  unfold attWrite
  extract_lets -merge -useContext -underBinder +onlyGivenNames v1
  refine Frame.then ?_ scheduleChange_frame rfl rfl
  refine Frame.put ?_ (inRows_of (r := .RDO_ACQ_ATT) rfl (by exact ⟨_, rfl⟩))
  exact Frame.refl

theorem execAttWrite_frame {a0 : Path} {a1 : Fin 16} {a2 : Word} : ∃ t, execAttWrite a0 a1 a2 s = .next t ∧ Frame (some [.HIF_EVENT, .HIF_WR_REF, .HIF_WR_REF_ADDR_HI, .HIF_WR_REF_ADDR_LO, .RDO_ACQ_ATT]) [.events, .rdo, .resp, .sup] s t := by
  refine ⟨_, rfl, ?_⟩
  refine gated_frame ?_ rfl rfl (fun x hx => ?_)
  · exact Frame.refl
  · refine Frame.then ?_ attWrite_frame rfl rfl
    exact hx

theorem takeGroup_frame {a0 : Nat} {a1 : Nat} {a2 : List (BitVec 12)} : Frame (some [.RDO_ACQ_EVENT, .RDO_ACQ_OVR_CNT, .RDO_ACQ_STATUS, .RDO_EVENT]) [.events, .rdo, .sup] s (takeGroup a0 a1 a2 s) := by
  unfold takeGroup
  extract_lets -merge -useContext -underBinder +onlyGivenNames v1 v2 v3 v4 v5 x6
  refine Frame.via x6 ?_ fun h6 => ?_
  · unfold x6
    refine Frame.then ?_ State.setAcq_frame rfl rfl
    exact Frame.refl
  try clear_value x6
  extract_lets -merge -useContext -underBinder +onlyGivenNames v7 x8
  refine Frame.via x8 ?_ fun h8 => ?_
  · unfold x8
    refine Frame.ite (fun _ => ?_) (fun _ => ?_)
    · exact h6
    · refine Frame.raise ?_ (inRows_of (r := .RDO_EVENT) rfl (by exact rfl)) rfl
      refine Frame.raise ?_ (inRows_of (r := .RDO_ACQ_EVENT) rfl (by exact ⟨_, rfl⟩)) rfl
      refine Frame.count ?_ (inRows_of (r := .RDO_ACQ_OVR_CNT) rfl (by exact ⟨_, rfl⟩))
      exact h6
  try clear_value x8
  refine Frame.put ?_ (inRows_of (r := .RDO_ACQ_STATUS) rfl (by exact ⟨_, rfl⟩))
  exact h8

theorem channelGroup_frame {a0 : Nat} {a1 : List (BitVec 12)} : Frame (some [.PWR_EVENT, .PWR_GRP_EVENT, .PWR_GRP_WAKES, .RDO_ACQ_EVENT, .RDO_ACQ_OVR_CNT, .RDO_ACQ_STATUS, .RDO_CH_STATUS, .RDO_EVENT]) [.dsc, .events, .later, .rdo, .sup] s (channelGroup a0 a1 s) := by
  unfold channelGroup
  refine Frame.ite (fun _ => ?_) (fun _ => ?_)
  · extract_lets -merge -useContext -underBinder +onlyGivenNames v1 x2
    refine Frame.via x2 ?_ fun h2 => ?_
    · unfold x2
      refine Frame.then ?_ takeGroup_frame rfl rfl
      exact Frame.refl
    try clear_value x2
    refine Frame.ite (fun _ => ?_) (fun _ => ?_)
    · refine Frame.then ?_ arrayGroup_frame rfl rfl
      exact h2
    · extract_lets -merge -useContext -underBinder +onlyGivenNames v3 v4 x5
      refine Frame.via x5 ?_ fun h5 => ?_
      · unfold x5
        refine Frame.forAll _ ?_ fun i x hx => ?_
        · exact h2
        · refine Frame.then ?_ deliverSample_frame rfl rfl
          exact hx
      try clear_value x5
      extract_lets -merge -useContext -underBinder +onlyGivenNames x6
      refine Frame.via x6 ?_ fun h6 => ?_
      · unfold x6
        refine Frame.ite (fun _ => ?_) (fun _ => ?_)
        · refine Frame.put ?_ (inRows_of (r := .RDO_ACQ_STATUS) rfl (by exact ⟨_, rfl⟩))
          exact h5
        · exact h5
      try clear_value x6
      refine Frame.ite (fun _ => ?_) (fun _ => ?_)
      · refine Frame.then ?_ wakeLate_frame rfl rfl
        exact h6
      · exact h6
  · exact Frame.refl

theorem execChannelSample_frame {a0 : Fin 16} {a1 : List (BitVec 12)} : ∃ t, execChannelSample a0 a1 s = .next t ∧ Frame (some [.PWR_EVENT, .PWR_GRP_EVENT, .PWR_GRP_WAKES, .RDO_ACQ_EVENT, .RDO_ACQ_OVR_CNT, .RDO_ACQ_STATUS, .RDO_CH_STATUS, .RDO_EVENT]) [.dsc, .events, .later, .rdo, .sup] s t := by
  refine ⟨_, rfl, ?_⟩
  refine Frame.then ?_ channelGroup_frame rfl rfl
  exact Frame.refl

theorem toneSample_frame {a0 : Nat} {a1 : Nat} : Frame (some [.RDO_ACQ_EVENT, .RDO_ACQ_STATUS, .RDO_EVENT]) [.events, .rdo, .sup] s (toneSample a0 a1 s) := by
  unfold toneSample
  extract_lets -merge -useContext -underBinder +onlyGivenNames v1 v2 v3
  refine Frame.ite (fun _ => ?_) (fun _ => ?_)
  · extract_lets -merge -useContext -underBinder +onlyGivenNames v4 v5 v6 v7
    first | split | (clear_value *; split)
    · extract_lets -merge -useContext -underBinder +onlyGivenNames x8
      refine Frame.via x8 ?_ fun h8 => ?_
      · unfold x8
        refine Frame.then ?_ State.setArrPair_frame rfl rfl
        exact Frame.refl
      try clear_value x8
      extract_lets -merge -useContext -underBinder +onlyGivenNames x9
      refine Frame.via x9 ?_ fun h9 => ?_
      · unfold x9
        refine Frame.ite (fun _ => ?_) (fun _ => ?_)
        · refine Frame.put ?_ (inRows_of (r := .RDO_ACQ_STATUS) rfl (by exact ⟨_, rfl⟩))
          exact h8
        · exact h8
      try clear_value x9
      refine Frame.ite (fun _ => ?_) (fun _ => ?_)
      · refine Frame.raise ?_ (inRows_of (r := .RDO_EVENT) rfl (by exact rfl)) rfl
        refine Frame.raise ?_ (inRows_of (r := .RDO_ACQ_EVENT) rfl (by exact ⟨_, rfl⟩)) rfl
        exact h9
      · exact h9
  · exact Frame.refl

theorem execToneSample_frame {a0 : Fin 16} {a1 : Fin 1024} : ∃ t, execToneSample a0 a1 s = .next t ∧ Frame (some [.RDO_ACQ_EVENT, .RDO_ACQ_STATUS, .RDO_EVENT]) [.events, .rdo, .sup] s t := by
  refine ⟨_, rfl, ?_⟩
  refine Frame.then ?_ toneSample_frame rfl rfl
  exact Frame.refl

theorem combOnWrite_frame {a0 : Path} {a1 : Nat} {a2 : Word} : Frame none [.events, .rdo, .resp, .sup] s (combOnWrite a0 a1 a2 s) := by
  unfold combOnWrite
  refine Frame.then ?_ combFollows_frame rfl rfl
  refine Frame.then ?_ plainWrite_frame rfl rfl
  exact Frame.refl

theorem execCombOnWrite_frame {a0 : Path} {a1 : Fin 16} {a2 : Word} : ∃ t, execCombOnWrite a0 a1 a2 s = .next t ∧ Frame none [.events, .rdo, .resp, .sup] s t := by
  refine ⟨_, rfl, ?_⟩
  refine Frame.then ?_ combOnWrite_frame rfl rfl
  exact Frame.refl

theorem toneFcWrite_frame {a0 : Path} {a1 : Nat} {a2 : Nat} {a3 : Bool} {a4 : Word} : Frame none [.events, .rdo, .resp, .sup] s (toneFcWrite a0 a1 a2 a3 a4 s) := by
  unfold toneFcWrite
  extract_lets -merge -useContext -underBinder +onlyGivenNames v1
  refine Frame.ite (fun _ => ?_) (fun _ => ?_)
  · refine gated_frame ?_ rfl rfl (fun x hx => ?_)
    · exact Frame.refl
    · extract_lets -merge -useContext -underBinder +onlyGivenNames v2
      refine Frame.then ?_ State.setArrPair_frame rfl rfl
      exact hx
  · refine Frame.then ?_ plainWrite_frame rfl rfl
    exact Frame.refl

theorem execToneFcWrite_frame {a0 : Path} {a1 : Fin 16} {a2 : Fin 1024} {a3 : Bool} {a4 : Word} : ∃ t, execToneFcWrite a0 a1 a2 a3 a4 s = .next t ∧ Frame none [.events, .rdo, .resp, .sup] s t := by
  refine ⟨_, rfl, ?_⟩
  refine Frame.then ?_ toneFcWrite_frame rfl rfl
  exact Frame.refl

theorem toneEntryWrite_frame {a0 : Nat} {a1 : Nat} {a2 : Word} : Frame (some [.RDO_ARR_EVENT, .RDO_ARR_STATUS, .RDO_EVENT]) [.events, .rdo, .sup] s (toneEntryWrite a0 a1 a2 s) := by
  unfold toneEntryWrite
  extract_lets -merge -useContext -underBinder +onlyGivenNames v1 v2 v3 v4 x5
  refine Frame.via x5 ?_ fun h5 => ?_
  · unfold x5
    refine Frame.then ?_ State.setArrPair_frame rfl rfl
    exact Frame.refl
  try clear_value x5
  extract_lets -merge -useContext -underBinder +onlyGivenNames v6 v7 v8
  refine Frame.ite (fun _ => ?_) (fun _ => ?_)
  · refine Frame.then ?_ State.setArrPair_frame rfl rfl
    exact h5
  · refine Frame.put ?_ (inRows_of (r := .RDO_ARR_STATUS) rfl (by exact ⟨_, rfl⟩))
    refine Frame.raise ?_ (inRows_of (r := .RDO_EVENT) rfl (by exact rfl)) rfl
    refine Frame.raise ?_ (inRows_of (r := .RDO_ARR_EVENT) rfl (by exact ⟨_, rfl⟩)) rfl
    exact h5

theorem tonePWrite_frame {a0 : Path} {a1 : Nat} {a2 : Nat} {a3 : Word} : Frame none [.events, .rdo, .resp, .sup] s (tonePWrite a0 a1 a2 a3 s) := by
  unfold tonePWrite
  refine Frame.ite (fun _ => ?_) (fun _ => ?_)
  · refine gated_frame ?_ rfl rfl (fun x hx => ?_)
    · exact Frame.refl
    · refine Frame.then ?_ toneEntryWrite_frame rfl rfl
      exact hx
  · refine Frame.then ?_ plainWrite_frame rfl rfl
    exact Frame.refl

theorem execTonePWrite_frame {a0 : Path} {a1 : Fin 16} {a2 : Fin 1024} {a3 : Word} : ∃ t, execTonePWrite a0 a1 a2 a3 s = .next t ∧ Frame none [.events, .rdo, .resp, .sup] s t := by
  refine ⟨_, rfl, ?_⟩
  refine Frame.then ?_ tonePWrite_frame rfl rfl
  exact Frame.refl

theorem toneApplied_frame {a0 : Nat} {a1 : Nat} : Frame (some [.RDO_ARR_EVENT, .RDO_ARR_STATUS, .RDO_ARR_TONE_C, .RDO_ARR_TONE_F, .RDO_ARR_TONE_P]) [.events, .rdo, .sup] s (toneApplied a0 a1 s) := by
  unfold toneApplied
  first | split | (clear_value *; split)
  · refine Frame.ite (fun _ => ?_) (fun _ => ?_)
    · extract_lets -merge -useContext -underBinder +onlyGivenNames v1 v2 v3 x4
      refine Frame.via x4 ?_ fun h4 => ?_
      · unfold x4
        refine Frame.then ?_ State.setArrPair_frame rfl rfl
        exact Frame.refl
      try clear_value x4
      extract_lets -merge -useContext -underBinder +onlyGivenNames x5
      refine Frame.via x5 ?_ fun h5 => ?_
      · unfold x5
        refine Frame.wr ?_ (inRows_of (r := .RDO_ARR_TONE_P) rfl (by exact ⟨_, _, rfl⟩))
        refine Frame.wr ?_ (inRows_of (r := .RDO_ARR_TONE_C) rfl (by exact ⟨_, _, rfl⟩))
        refine Frame.wr ?_ (inRows_of (r := .RDO_ARR_TONE_F) rfl (by exact ⟨_, _, rfl⟩))
        exact h4
      try clear_value x5
      extract_lets -merge -useContext -underBinder +onlyGivenNames x6
      refine Frame.via x6 ?_ fun h6 => ?_
      · unfold x6
        refine Frame.raise ?_ (inRows_of (r := .RDO_ARR_EVENT) rfl (by exact ⟨_, rfl⟩)) rfl
        exact h5
      try clear_value x6
      extract_lets -merge -useContext -underBinder +onlyGivenNames x7
      refine Frame.via x7 ?_ fun h7 => ?_
      · unfold x7
        refine Frame.put ?_ (inRows_of (r := .RDO_ARR_STATUS) rfl (by exact ⟨_, rfl⟩))
        exact h6
      try clear_value x7
      refine Frame.ite (fun _ => ?_) (fun _ => ?_)
      · refine Frame.ite (fun _ => ?_) (fun _ => ?_)
        · refine Frame.then ?_ markTone_frame rfl rfl
          exact h7
        · refine Frame.ite (fun _ => ?_) (fun _ => ?_)
          · refine Frame.then ?_ markTone_frame rfl rfl
            exact h7
          · exact h7
      · exact h7
    · exact Frame.refl
  · exact Frame.refl

theorem execToneApplied_frame {a0 : Fin 16} {a1 : Fin 1024} : ∃ t, execToneApplied a0 a1 s = .next t ∧ Frame (some [.RDO_ARR_EVENT, .RDO_ARR_STATUS, .RDO_ARR_TONE_C, .RDO_ARR_TONE_F, .RDO_ARR_TONE_P]) [.events, .rdo, .sup] s t := by
  refine ⟨_, rfl, ?_⟩
  refine Frame.then ?_ toneApplied_frame rfl rfl
  exact Frame.refl

end Sys2Proof.Machine
end

