-- ==== Sys2Proof/Laws/Frame/Power.lean ====
section
/-! SUPPORT. Laws/Frame/Power.lean: what each operation of Machine/Power.lean can change, and that it keeps a sound state sound. -/

set_option Elab.async false

namespace Sys2Proof.Machine

variable {R : Option (List RegRow)} {P : List Part} {s t : State}

theorem choosePort_frame {a0 : Nat} : Frame (some [.PWR_GRP_WAKES, .PWR_PORT_STATE]) [.pwr, .rdo] s (choosePort a0 s) := by
  unfold choosePort
  refine Frame.ite (fun _ => ?_) (fun _ => ?_)
  · extract_lets -merge -useContext -underBinder +onlyGivenNames v1
    refine Frame.ite (fun _ => ?_) (fun _ => ?_)
    · refine Frame.then ?_ setPort_frame rfl rfl
      exact Frame.refl
    · refine Frame.ite (fun _ => ?_) (fun _ => ?_)
      · refine Frame.then ?_ beginWake_frame rfl rfl
        exact Frame.refl
      · exact Frame.refl
  · exact Frame.refl

theorem execPortStateChoice_frame {a0 : Fin 256} : ∃ t, execPortStateChoice a0 s = .next t ∧ Frame (some [.PWR_GRP_WAKES, .PWR_PORT_STATE]) [.pwr, .rdo] s t := by
  refine ⟨_, rfl, ?_⟩
  refine Frame.then ?_ choosePort_frame rfl rfl
  exact Frame.refl

theorem portWakeDone_frame {a0 : Nat} : Frame (some [.PWR_PORT_STATE]) [.pwr, .rdo] s (portWakeDone a0 s) := by
  unfold portWakeDone
  first | split | (clear_value *; split)
  · refine Frame.ite (fun _ => ?_) (fun _ => ?_)
    · refine Frame.then ?_ setPort_frame rfl rfl
      exact Frame.refl
    · exact Frame.refl
  · exact Frame.refl

theorem execPortWakeDone_frame {a0 : Fin 256} : ∃ t, execPortWakeDone a0 s = .next t ∧ Frame (some [.PWR_PORT_STATE]) [.pwr, .rdo] s t := by
  refine ⟨_, rfl, ?_⟩
  refine Frame.then ?_ portWakeDone_frame rfl rfl
  exact Frame.refl

theorem latTolWrite_frame {a0 : Path} {a1 : Nat} {a2 : Word} : Frame none [.events, .pwr, .resp, .sup] s (latTolWrite a0 a1 a2 s) := by
  unfold latTolWrite
  extract_lets -merge -useContext -underBinder +onlyGivenNames v1 x2
  refine Frame.via x2 ?_ fun h2 => ?_
  · unfold x2
    refine Frame.then ?_ plainWrite_frame rfl rfl
    exact Frame.refl
  try clear_value x2
  first | split | (clear_value *; split)
  · exact h2
  · refine Frame.pwr ?_ rfl (fun h => ⟨(by first | exact h.1 | exact sparseWf_sset h.1 | exact sparseWf_nil | exact sparseWf_filter h.1 | exact sparseWf_smap h.1 | exact sparseWf_sdrop h.1 | exact sparseWf_sset (sparseWf_sset h.1) | exact sparseWf_fold sparseWf_nil | (dsimp only; exact sparseWf_smap h.1)), (by first | exact h.2.1 | exact sparseWf_sset h.2.1 | exact sparseWf_nil | exact sparseWf_filter h.2.1 | exact sparseWf_smap h.2.1 | exact sparseWf_sdrop h.2.1 | exact sparseWf_sset (sparseWf_sset h.2.1) | exact sparseWf_fold sparseWf_nil | (dsimp only; exact sparseWf_smap h.2.1)), (by first | exact h.2.2.1 | exact sparseWf_sset h.2.2.1 | exact sparseWf_nil | exact sparseWf_filter h.2.2.1 | exact sparseWf_smap h.2.2.1 | exact sparseWf_sdrop h.2.2.1 | exact sparseWf_sset (sparseWf_sset h.2.2.1) | exact sparseWf_fold sparseWf_nil | (dsimp only; exact sparseWf_smap h.2.2.1)), (by first | exact h.2.2.2.1 | exact sparseWf_sset h.2.2.2.1 | exact sparseWf_nil | exact sparseWf_filter h.2.2.2.1 | exact sparseWf_smap h.2.2.2.1 | exact sparseWf_sdrop h.2.2.2.1 | exact sparseWf_sset (sparseWf_sset h.2.2.2.1) | exact sparseWf_fold sparseWf_nil | (dsimp only; exact sparseWf_smap h.2.2.2.1)), (by first | exact h.2.2.2.2 | exact sparseWf_sset h.2.2.2.2 | exact sparseWf_nil | exact sparseWf_filter h.2.2.2.2 | exact sparseWf_smap h.2.2.2.2 | exact sparseWf_sdrop h.2.2.2.2 | exact sparseWf_sset (sparseWf_sset h.2.2.2.2) | exact sparseWf_fold sparseWf_nil | (dsimp only; exact sparseWf_smap h.2.2.2.2))⟩)
    exact h2

theorem execLatTolWrite_frame {a0 : Path} {a1 : Fin 16} {a2 : Word} : ∃ t, execLatTolWrite a0 a1 a2 s = .next t ∧ Frame none [.events, .pwr, .resp, .sup] s t := by
  refine ⟨_, rfl, ?_⟩
  refine Frame.then ?_ latTolWrite_frame rfl rfl
  exact Frame.refl

theorem dormTolWrite_frame {a0 : Path} {a1 : Word} : Frame none [.events, .later, .resp, .sup] s (dormTolWrite a0 a1 s) := by
  unfold dormTolWrite
  extract_lets -merge -useContext -underBinder +onlyGivenNames x1
  refine Frame.via x1 ?_ fun h1 => ?_
  · unfold x1
    refine Frame.then ?_ plainWrite_frame rfl rfl
    exact Frame.refl
  try clear_value x1
  refine Frame.ite (fun _ => ?_) (fun _ => ?_)
  · refine Frame.later ?_ rfl (fun _ => trivial)
    exact h1
  · exact h1

theorem execDormTolWrite_frame {a0 : Path} {a1 : Word} : ∃ t, execDormTolWrite a0 a1 s = .next t ∧ Frame none [.events, .later, .resp, .sup] s t := by
  refine ⟨_, rfl, ?_⟩
  refine Frame.then ?_ dormTolWrite_frame rfl rfl
  exact Frame.refl

theorem energySample_frame {a0 : List Nat} {a1 : Nat} : Frame (some []) [.pwr] s (energySample a0 a1 s) := by
  unfold energySample
  extract_lets top e
  have he : sparseWf (fun _ => 0) s.pwr.energy = true → sparseWf (fun _ => 0) e = true := fun h =>
    sparseWf_sset (forN_sound (p := fun l => sparseWf (fun _ => 0) l = true) 16 h fun i y hy => sparseWf_sset hy)
  clear_value e
  refine Frame.then (Frame.pwr Frame.refl rfl fun h => ?_) countPorts_frame rfl rfl
  exact ⟨h.1, h.2.1, he h.2.2.1, h.2.2.2⟩

theorem execEnergySample_frame {a0 : List Nat} {a1 : Nat} : ∃ t, execEnergySample a0 a1 s = .next t ∧ Frame (some []) [.pwr] s t := by
  refine ⟨_, rfl, ?_⟩
  refine Frame.then ?_ energySample_frame rfl rfl
  exact Frame.refl

theorem energySnap_frame  : Frame (some [.PWR_DECISIONS_HI, .PWR_DECISIONS_LO, .PWR_GRP_ENERGY_HI, .PWR_GRP_ENERGY_LO, .PWR_GRP_RES, .PWR_PULSES_HI, .PWR_PULSES_LO, .PWR_SNAP_REEL_HI, .PWR_SNAP_REEL_LO, .PWR_TOTAL_ENERGY_HI, .PWR_TOTAL_ENERGY_LO]) [] s (energySnap s) := by
  unfold energySnap
  extract_lets -merge -useContext -underBinder +onlyGivenNames v1 x2
  refine Frame.via x2 ?_ fun h2 => ?_
  · unfold x2
    refine Frame.wr64 ?_ (inRows_of (r := .PWR_PULSES_LO) rfl (by exact rfl)) (inRows_of (r := .PWR_PULSES_HI) rfl (by show Reg.PWR_PULSES_LO + 4 = Reg.PWR_PULSES_HI; decide))
    refine Frame.wr64 ?_ (inRows_of (r := .PWR_TOTAL_ENERGY_LO) rfl (by exact rfl)) (inRows_of (r := .PWR_TOTAL_ENERGY_HI) rfl (by show Reg.PWR_TOTAL_ENERGY_LO + 4 = Reg.PWR_TOTAL_ENERGY_HI; decide))
    refine Frame.wr64 ?_ (inRows_of (r := .PWR_SNAP_REEL_LO) rfl (by exact rfl)) (inRows_of (r := .PWR_SNAP_REEL_HI) rfl (by show Reg.PWR_SNAP_REEL_LO + 4 = Reg.PWR_SNAP_REEL_HI; decide))
    exact Frame.refl
  try clear_value x2
  extract_lets -merge -useContext -underBinder +onlyGivenNames x3
  refine Frame.via x3 ?_ fun h3 => ?_
  · unfold x3
    refine Frame.wr64 ?_ (inRows_of (r := .PWR_DECISIONS_LO) rfl (by exact rfl)) (inRows_of (r := .PWR_DECISIONS_HI) rfl (by show Reg.PWR_DECISIONS_LO + 4 = Reg.PWR_DECISIONS_HI; decide))
    exact h2
  try clear_value x3
  refine Frame.forN _ ?_ fun i x hx => ?_
  · exact h3
  · refine Frame.forN _ ?_ fun i x hx => ?_
    · refine Frame.wr64 ?_ (inRows_of (r := .PWR_GRP_ENERGY_LO) rfl (by exact ⟨_, rfl⟩)) (inRows_of (r := .PWR_GRP_ENERGY_HI) rfl (by exact ⟨_, hiShift1 (by decide)⟩))
      exact hx
    · refine Frame.wr ?_ (inRows_of (r := .PWR_GRP_RES) rfl (by exact ⟨_, _, rfl⟩))
      exact hx

theorem energyClear_frame  : Frame (some []) [.pwr] s (energyClear s) := by
  unfold energyClear
  refine Frame.pwr ?_ rfl (fun h => ⟨(by first | exact h.1 | exact sparseWf_sset h.1 | exact sparseWf_nil | exact sparseWf_filter h.1 | exact sparseWf_smap h.1 | exact sparseWf_sdrop h.1 | exact sparseWf_sset (sparseWf_sset h.1) | exact sparseWf_fold sparseWf_nil | (dsimp only; exact sparseWf_smap h.1)), (by first | exact h.2.1 | exact sparseWf_sset h.2.1 | exact sparseWf_nil | exact sparseWf_filter h.2.1 | exact sparseWf_smap h.2.1 | exact sparseWf_sdrop h.2.1 | exact sparseWf_sset (sparseWf_sset h.2.1) | exact sparseWf_fold sparseWf_nil | (dsimp only; exact sparseWf_smap h.2.1)), (by first | exact h.2.2.1 | exact sparseWf_sset h.2.2.1 | exact sparseWf_nil | exact sparseWf_filter h.2.2.1 | exact sparseWf_smap h.2.2.1 | exact sparseWf_sdrop h.2.2.1 | exact sparseWf_sset (sparseWf_sset h.2.2.1) | exact sparseWf_fold sparseWf_nil | (dsimp only; exact sparseWf_smap h.2.2.1)), (by first | exact h.2.2.2.1 | exact sparseWf_sset h.2.2.2.1 | exact sparseWf_nil | exact sparseWf_filter h.2.2.2.1 | exact sparseWf_smap h.2.2.2.1 | exact sparseWf_sdrop h.2.2.2.1 | exact sparseWf_sset (sparseWf_sset h.2.2.2.1) | exact sparseWf_fold sparseWf_nil | (dsimp only; exact sparseWf_smap h.2.2.2.1)), (by first | exact h.2.2.2.2 | exact sparseWf_sset h.2.2.2.2 | exact sparseWf_nil | exact sparseWf_filter h.2.2.2.2 | exact sparseWf_smap h.2.2.2.2 | exact sparseWf_sdrop h.2.2.2.2 | exact sparseWf_sset (sparseWf_sset h.2.2.2.2) | exact sparseWf_fold sparseWf_nil | (dsimp only; exact sparseWf_smap h.2.2.2.2))⟩)
  exact Frame.refl

theorem pwrCmdWrite_frame {a0 : Path} {a1 : Word} : Frame (some [.HIF_EVENT, .HIF_WR_REF, .HIF_WR_REF_ADDR_HI, .HIF_WR_REF_ADDR_LO, .PWR_DECISIONS_HI, .PWR_DECISIONS_LO, .PWR_GRP_ENERGY_HI, .PWR_GRP_ENERGY_LO, .PWR_GRP_RES, .PWR_PULSES_HI, .PWR_PULSES_LO, .PWR_SNAP_REEL_HI, .PWR_SNAP_REEL_LO, .PWR_TOTAL_ENERGY_HI, .PWR_TOTAL_ENERGY_LO]) [.events, .pwr, .resp, .sup] s (pwrCmdWrite a0 a1 s) := by
  unfold pwrCmdWrite
  refine gated_frame ?_ rfl rfl (fun x hx => ?_)
  · exact Frame.refl
  · extract_lets -merge -useContext -underBinder +onlyGivenNames x1
    refine Frame.via x1 ?_ fun h1 => ?_
    · unfold x1
      refine Frame.ite (fun _ => ?_) (fun _ => ?_)
      · refine Frame.then ?_ energySnap_frame rfl rfl
        refine Frame.then ?_ countPorts_frame rfl rfl
        exact hx
      · exact hx
    try clear_value x1
    refine Frame.ite (fun _ => ?_) (fun _ => ?_)
    · refine Frame.then ?_ energyClear_frame rfl rfl
      exact h1
    · exact h1

theorem execEnergySnap_frame {a0 : Path} {a1 : Word} : ∃ t, execEnergySnap a0 a1 s = .next t ∧ Frame (some [.HIF_EVENT, .HIF_WR_REF, .HIF_WR_REF_ADDR_HI, .HIF_WR_REF_ADDR_LO, .PWR_DECISIONS_HI, .PWR_DECISIONS_LO, .PWR_GRP_ENERGY_HI, .PWR_GRP_ENERGY_LO, .PWR_GRP_RES, .PWR_PULSES_HI, .PWR_PULSES_LO, .PWR_SNAP_REEL_HI, .PWR_SNAP_REEL_LO, .PWR_TOTAL_ENERGY_HI, .PWR_TOTAL_ENERGY_LO]) [.events, .pwr, .resp, .sup] s t := by
  refine ⟨_, rfl, ?_⟩
  refine Frame.then ?_ pwrCmdWrite_frame rfl rfl
  exact Frame.refl

theorem execEnergyClear_frame {a0 : Path} {a1 : Word} : ∃ t, execEnergyClear a0 a1 s = .next t ∧ Frame (some [.HIF_EVENT, .HIF_WR_REF, .HIF_WR_REF_ADDR_HI, .HIF_WR_REF_ADDR_LO, .PWR_DECISIONS_HI, .PWR_DECISIONS_LO, .PWR_GRP_ENERGY_HI, .PWR_GRP_ENERGY_LO, .PWR_GRP_RES, .PWR_PULSES_HI, .PWR_PULSES_LO, .PWR_SNAP_REEL_HI, .PWR_SNAP_REEL_LO, .PWR_TOTAL_ENERGY_HI, .PWR_TOTAL_ENERGY_LO]) [.events, .pwr, .resp, .sup] s t := by
  refine ⟨_, rfl, ?_⟩
  refine Frame.then ?_ pwrCmdWrite_frame rfl rfl
  exact Frame.refl

end Sys2Proof.Machine
end

