-- ==== Sys2Proof/Laws/Frame/Synth.lean ====
section
/-! SUPPORT. Laws/Frame/Synth.lean: what each operation of Machine/Synth.lean can change, and that it keeps a sound state sound. -/

set_option Elab.async false

namespace Sys2Proof.Machine

variable {R : Option (List RegRow)} {P : List Part} {s t : State}

theorem execFetchTick_frame {a0 : PlayPort} : ∃ t, execFetchTick a0 s = .next t ∧ Frame (some [.PWR_EVENT, .PWR_GRP_EVENT, .PWR_GRP_WAKES, .RDO_ARR_CLIP_CNT, .RDO_ARR_EVENT, .RDO_EVENT, .STM_EVENT, .STM_RV_COUNT, .STM_RV_EVENT, .STM_RV_FILL, .STM_RV_POS_HI, .STM_RV_POS_LO, .STM_RV_STATUS, .STM_TGT_EVENT, .STM_TGT_PASS, .STM_TGT_STATUS, .SYN_EVENT, .SYN_FLX_CLIP_CNT, .SYN_FLX_EVENT, .SYN_PORT_ASLEEP_CNT, .SYN_PORT_CLIP_CNT, .SYN_PORT_EVENT]) [.events, .mem, .rdo, .rv, .sup, .syn] s t := by
  refine ⟨_, rfl, ?_⟩
  first | split | (clear_value *; split)
  · refine Frame.then ?_ fetchRf_frame rfl rfl
    exact Frame.refl
  · refine Frame.then ?_ fetchFlux_frame rfl rfl
    exact Frame.refl

theorem actJump_frame {a0 : Nat} {a1 : Jump} : Frame (some [.STM_EVENT, .STM_TGT_EVENT, .STM_TGT_JCNT, .STM_TGT_PASS, .STM_TGT_STATUS]) [.events, .sup, .syn] s (actJump a0 a1 s) := by
  unfold actJump
  extract_lets -merge -useContext -underBinder +onlyGivenNames x1
  refine Frame.via x1 ?_ fun h1 => ?_
  · unfold x1
    refine Frame.then ?_ enterSeg_frame rfl rfl
    refine Frame.then ?_ markEnd_frame rfl rfl
    exact Frame.refl
  try clear_value x1
  extract_lets -merge -useContext -underBinder +onlyGivenNames x2
  refine Frame.via x2 ?_ fun h2 => ?_
  · unfold x2
    refine Frame.raise ?_ (inRows_of (r := .STM_TGT_EVENT) rfl (by exact ⟨_, rfl⟩)) rfl
    refine Frame.count ?_ (inRows_of (r := .STM_TGT_JCNT) rfl (by exact ⟨_, rfl⟩))
    exact h1
  try clear_value x2
  extract_lets -merge -useContext -underBinder +onlyGivenNames x3
  refine Frame.via x3 ?_ fun h3 => ?_
  · unfold x3
    refine Frame.ite (fun _ => ?_) (fun _ => ?_)
    · refine Frame.raise ?_ (inRows_of (r := .STM_EVENT) rfl (by exact rfl)) rfl
      refine Frame.raise ?_ (inRows_of (r := .STM_TGT_EVENT) rfl (by exact ⟨_, rfl⟩)) rfl
      refine Frame.count ?_ (inRows_of (r := .STM_TGT_JCNT) rfl (by exact ⟨_, rfl⟩))
      exact h2
    · exact h2
  try clear_value x3
  refine Frame.then ?_ State.setTgt_frame rfl rfl
  refine Frame.put ?_ (inRows_of (r := .STM_TGT_STATUS) rfl (by exact ⟨_, rfl⟩))
  exact h3

theorem goOn_frame {a0 : Nat} {a1 : Seg} {a2 : Bool} : Frame (some [.STM_TGT_PASS, .STM_TGT_STATUS]) [.syn] s (goOn a0 a1 a2 s) := by
  unfold goOn
  refine Frame.ite (fun _ => ?_) (fun _ => ?_)
  · extract_lets -merge -useContext -underBinder +onlyGivenNames x1
    refine Frame.via x1 ?_ fun h1 => ?_
    · unfold x1
      refine Frame.put ?_ (inRows_of (r := .STM_TGT_PASS) rfl (by exact ⟨_, rfl⟩))
      exact Frame.refl
    try clear_value x1
    refine Frame.then ?_ State.setTgt_frame rfl rfl
    exact h1
  · refine Frame.ite (fun _ => ?_) (fun _ => ?_)
    · refine Frame.then ?_ enterSeg_frame rfl rfl
      refine Frame.then ?_ markEnd_frame rfl rfl
      exact Frame.refl
    · extract_lets -merge -useContext -underBinder +onlyGivenNames x2
      refine Frame.via x2 ?_ fun h2 => ?_
      · unfold x2
        refine Frame.then ?_ markEnd_frame rfl rfl
        exact Frame.refl
      try clear_value x2
      refine Frame.then ?_ State.setTgt_frame rfl rfl
      exact h2

theorem segmentBoundary_frame {a0 : Nat} : Frame (some [.STM_EVENT, .STM_TGT_EVENT, .STM_TGT_JCNT, .STM_TGT_PASS, .STM_TGT_STATUS]) [.events, .sup, .syn] s (segmentBoundary a0 s) := by
  unfold segmentBoundary
  refine Frame.ite (fun _ => ?_) (fun _ => ?_)
  · extract_lets -merge -useContext -underBinder +onlyGivenNames v1 v2 v3
    first | split | (clear_value *; split)
    · refine Frame.then ?_ goOn_frame rfl rfl
      exact Frame.refl
    · refine Frame.ite (fun _ => ?_) (fun _ => ?_)
      · refine Frame.then ?_ actJump_frame rfl rfl
        exact Frame.refl
      · refine Frame.then ?_ goOn_frame rfl rfl
        refine Frame.then ?_ State.setTgt_frame rfl rfl
        exact Frame.refl
  · exact Frame.refl

theorem execSegmentBoundary_frame {a0 : Fin 640} : ∃ t, execSegmentBoundary a0 s = .next t ∧ Frame (some [.STM_EVENT, .STM_TGT_EVENT, .STM_TGT_JCNT, .STM_TGT_PASS, .STM_TGT_STATUS]) [.events, .sup, .syn] s t := by
  refine ⟨_, rfl, ?_⟩
  refine Frame.then ?_ segmentBoundary_frame rfl rfl
  exact Frame.refl

theorem segmentEnd_frame {a0 : Nat} : Frame (some [.STM_EVENT, .STM_TGT_EVENT, .STM_TGT_STATUS]) [.events, .later, .sup, .syn] s (segmentEnd a0 s) := by
  unfold segmentEnd
  first | split | (clear_value *; split)
  · refine Frame.ite (fun _ => ?_) (fun _ => ?_)
    · extract_lets -merge -useContext -underBinder +onlyGivenNames w1 x2
      refine Frame.via x2 ?_ fun h2 => ?_
      · unfold x2
        refine Frame.then ?_ followTriggers_frame rfl rfl
        refine Frame.then ?_ State.setTgt_frame rfl rfl
        exact Frame.refl
      try clear_value x2
      refine Frame.ite (fun _ => ?_) (fun _ => ?_)
      · refine Frame.then ?_ dropJump_frame rfl rfl
        refine Frame.put ?_ (inRows_of (r := .STM_TGT_STATUS) rfl (by exact ⟨_, rfl⟩))
        exact h2
      · exact h2
    · exact Frame.refl
  · exact Frame.refl

theorem execSegmentEnd_frame {a0 : Fin 640} : ∃ t, execSegmentEnd a0 s = .next t ∧ Frame (some [.STM_EVENT, .STM_TGT_EVENT, .STM_TGT_STATUS]) [.events, .later, .sup, .syn] s t := by
  refine ⟨_, rfl, ?_⟩
  refine Frame.then ?_ segmentEnd_frame rfl rfl
  exact Frame.refl

theorem writeUrRec_frame {a0 : Nat} {a1 : UrRec} : Frame (some [.STM_UR_HEAD, .STM_UR_LOG_INFO, .STM_UR_LOG_POS, .STM_UR_LOG_REEL_HI, .STM_UR_LOG_REEL_LO]) [] s (writeUrRec a0 a1 s) := by
  unfold writeUrRec
  extract_lets -merge -useContext -underBinder +onlyGivenNames v1 x2
  refine Frame.via x2 ?_ fun h2 => ?_
  · unfold x2
    refine Frame.wr64 ?_ (inRows_of (r := .STM_UR_LOG_REEL_LO) rfl (by exact ⟨_, rfl⟩)) (inRows_of (r := .STM_UR_LOG_REEL_HI) rfl (by exact ⟨_, hiShift1 (by decide)⟩))
    exact Frame.refl
  try clear_value x2
  extract_lets -merge -useContext -underBinder +onlyGivenNames x3
  refine Frame.via x3 ?_ fun h3 => ?_
  · unfold x3
    refine Frame.wr ?_ (inRows_of (r := .STM_UR_LOG_INFO) rfl (by exact ⟨_, rfl⟩))
    exact h2
  try clear_value x3
  extract_lets -merge -useContext -underBinder +onlyGivenNames x4
  refine Frame.via x4 ?_ fun h4 => ?_
  · unfold x4
    refine Frame.wr ?_ (inRows_of (r := .STM_UR_LOG_POS) rfl (by exact ⟨_, rfl⟩))
    exact h3
  try clear_value x4
  extract_lets -merge -useContext -underBinder +onlyGivenNames x5
  refine Frame.via x5 ?_ fun h5 => ?_
  · unfold x5
    refine Frame.ite (fun _ => ?_) (fun _ => ?_)
    · refine Frame.count ?_ (inRows_of (r := .STM_UR_HEAD) rfl (by exact rfl))
      exact h4
    · refine Frame.put ?_ (inRows_of (r := .STM_UR_HEAD) rfl (by exact rfl))
      exact h4
  try clear_value x5
  refine Frame.put ?_ (inRows_of (r := .STM_UR_HEAD) rfl (by exact rfl))
  exact h5

theorem underrunStop_frame {a0 : Nat} : Frame (some [.STM_UR_HEAD, .STM_UR_LOG_INFO, .STM_UR_LOG_POS, .STM_UR_LOG_REEL_HI, .STM_UR_LOG_REEL_LO]) [.later, .syn] s (underrunStop a0 s) := by
  unfold underrunStop
  first | split | (clear_value *; split)
  · refine Frame.ite (fun _ => ?_) (fun _ => ?_)
    · exact Frame.refl
    · extract_lets -merge -useContext -underBinder +onlyGivenNames w1 x2
      refine Frame.via x2 ?_ fun h2 => ?_
      · unfold x2
        refine Frame.then ?_ writeUrRec_frame rfl rfl
        refine Frame.then ?_ State.setTgt_frame rfl rfl
        exact Frame.refl
      try clear_value x2
      refine Frame.later ?_ rfl (fun _ => trivial)
      exact h2
  · exact Frame.refl

theorem execUnderrunStop_frame {a0 : Fin 640} : ∃ t, execUnderrunStop a0 s = .next t ∧ Frame (some [.STM_UR_HEAD, .STM_UR_LOG_INFO, .STM_UR_LOG_POS, .STM_UR_LOG_REEL_HI, .STM_UR_LOG_REEL_LO]) [.later, .syn] s t := by
  refine ⟨_, rfl, ?_⟩
  refine Frame.then ?_ underrunStop_frame rfl rfl
  exact Frame.refl

theorem underrunZeroEnd_frame {a0 : Nat} : Frame (some [.STM_TGT_STATUS]) [] s (underrunZeroEnd a0 s) := by
  unfold underrunZeroEnd
  extract_lets -merge -useContext -underBinder +onlyGivenNames v1 v2
  refine Frame.ite (fun _ => ?_) (fun _ => ?_)
  · refine Frame.put ?_ (inRows_of (r := .STM_TGT_STATUS) rfl (by exact ⟨_, rfl⟩))
    exact Frame.refl
  · exact Frame.refl

theorem execUnderrunZeroEnd_frame {a0 : Fin 640} : ∃ t, execUnderrunZeroEnd a0 s = .next t ∧ Frame (some [.STM_TGT_STATUS]) [] s t := by
  refine ⟨_, rfl, ?_⟩
  refine Frame.then ?_ underrunZeroEnd_frame rfl rfl
  exact Frame.refl

theorem urAck_frame {a0 : Word} : Frame (some [.STM_UR_HEAD]) [] s (urAck a0 s) := by
  unfold urAck
  refine Frame.put ?_ (inRows_of (r := .STM_UR_HEAD) rfl (by exact rfl))
  exact Frame.refl

theorem execUrAck_frame {a0 : Path} {a1 : Word} : ∃ t, execUrAck a0 a1 s = .next t ∧ Frame (some [.HIF_EVENT, .HIF_WR_REF, .HIF_WR_REF_ADDR_HI, .HIF_WR_REF_ADDR_LO, .STM_UR_HEAD]) [.events, .resp, .sup] s t := by
  refine ⟨_, rfl, ?_⟩
  refine gated_frame ?_ rfl rfl (fun x hx => ?_)
  · exact Frame.refl
  · refine Frame.then ?_ urAck_frame rfl rfl
    exact hx

theorem biasStep_frame {a0 : Nat} : Frame (some [.SYN_BIA_NOW]) [] s (biasStep a0 s) := by
  unfold biasStep
  refine Frame.ite (fun _ => ?_) (fun _ => ?_)
  · exact Frame.refl
  · refine Frame.put ?_ (inRows_of (r := .SYN_BIA_NOW) rfl (by exact ⟨_, rfl⟩))
    exact Frame.refl

theorem biasUpdate_frame  : Frame (some [.SYN_BIA_NOW]) [.syn] s (biasUpdate s) := by
  unfold biasUpdate
  refine Frame.ite (fun _ => ?_) (fun _ => ?_)
  · extract_lets -merge -useContext -underBinder +onlyGivenNames w1 x2
    refine Frame.via x2 ?_ fun h2 => ?_
    · unfold x2
      refine Frame.syn ?_ rfl (by first | exact id | exact fun h => ⟨(by first | exact h.1 | exact sparseWf_sset h.1 | exact sparseWf_nil | exact sparseWf_filter h.1 | exact sparseWf_smap h.1 | exact sparseWf_sdrop h.1 | exact sparseWf_sset (sparseWf_sset h.1) | exact sparseWf_fold sparseWf_nil | (dsimp only; exact sparseWf_smap h.1)), (by first | exact h.2.1 | exact sparseWf_sset h.2.1 | exact sparseWf_nil | exact sparseWf_filter h.2.1 | exact sparseWf_smap h.2.1 | exact sparseWf_sdrop h.2.1 | exact sparseWf_sset (sparseWf_sset h.2.1) | exact sparseWf_fold sparseWf_nil | (dsimp only; exact sparseWf_smap h.2.1)), (by first | exact h.2.2.1 | exact sparseWf_sset h.2.2.1 | exact sparseWf_nil | exact sparseWf_filter h.2.2.1 | exact sparseWf_smap h.2.2.1 | exact sparseWf_sdrop h.2.2.1 | exact sparseWf_sset (sparseWf_sset h.2.2.1) | exact sparseWf_fold sparseWf_nil | (dsimp only; exact sparseWf_smap h.2.2.1)), (by first | exact h.2.2.2.1 | exact sparseWf_sset h.2.2.2.1 | exact sparseWf_nil | exact sparseWf_filter h.2.2.2.1 | exact sparseWf_smap h.2.2.2.1 | exact sparseWf_sdrop h.2.2.2.1 | exact sparseWf_sset (sparseWf_sset h.2.2.2.1) | exact sparseWf_fold sparseWf_nil | (dsimp only; exact sparseWf_smap h.2.2.2.1)), (by first | exact h.2.2.2.2.1 | exact sparseWf_sset h.2.2.2.2.1 | exact sparseWf_nil | exact sparseWf_filter h.2.2.2.2.1 | exact sparseWf_smap h.2.2.2.2.1 | exact sparseWf_sdrop h.2.2.2.2.1 | exact sparseWf_sset (sparseWf_sset h.2.2.2.2.1) | exact sparseWf_fold sparseWf_nil | (dsimp only; exact sparseWf_smap h.2.2.2.2.1)), (by first | exact h.2.2.2.2.2 | exact sparseWf_sset h.2.2.2.2.2 | exact sparseWf_nil | exact sparseWf_filter h.2.2.2.2.2 | exact sparseWf_smap h.2.2.2.2.2 | exact sparseWf_sdrop h.2.2.2.2.2 | exact sparseWf_sset (sparseWf_sset h.2.2.2.2.2) | exact sparseWf_fold sparseWf_nil | (dsimp only; exact sparseWf_smap h.2.2.2.2.2))⟩)
      exact Frame.refl
    try clear_value x2
    refine Frame.forN _ ?_ fun i x hx => ?_
    · exact h2
    · refine Frame.then ?_ biasStep_frame rfl rfl
      exact hx
  · exact Frame.refl

theorem execBiasUpdate_frame  : ∃ t, execBiasUpdate s = .next t ∧ Frame (some [.SYN_BIA_NOW]) [.syn] s t := by
  refine ⟨_, rfl, ?_⟩
  refine Frame.then ?_ biasUpdate_frame rfl rfl
  exact Frame.refl

theorem rvRestart_frame {a0 : Nat} {a1 : Word} : Frame (some [.HIF_Q_LIMIT, .STM_RV_EVENT, .STM_RV_FILL, .STM_RV_POS_HI, .STM_RV_POS_LO, .STM_RV_STATUS]) [.events, .rv, .sup] s (rvRestart a0 a1 s) := by
  unfold rvRestart
  refine Frame.ite (fun _ => ?_) (fun _ => ?_)
  · refine Frame.then ?_ primeStream_frame rfl rfl
    exact Frame.refl
  · exact Frame.refl

theorem execRvRestart_frame {a0 : Path} {a1 : Fin 64} {a2 : Word} : ∃ t, execRvRestart a0 a1 a2 s = .next t ∧ Frame (some [.HIF_EVENT, .HIF_Q_LIMIT, .HIF_WR_REF, .HIF_WR_REF_ADDR_HI, .HIF_WR_REF_ADDR_LO, .STM_RV_EVENT, .STM_RV_FILL, .STM_RV_POS_HI, .STM_RV_POS_LO, .STM_RV_STATUS]) [.events, .resp, .rv, .sup] s t := by
  refine ⟨_, rfl, ?_⟩
  refine gated_frame ?_ rfl rfl (fun x hx => ?_)
  · exact Frame.refl
  · refine Frame.then ?_ rvRestart_frame rfl rfl
    exact hx

theorem outputPulseFall_frame {a0 : Nat} : Frame (some [.SYN_MRK_LEVEL, .SYN_TRG_LEVEL]) [.syn] s (outputPulseFall a0 s) := by
  unfold outputPulseFall
  first | split | (clear_value *; split)
  · refine Frame.ite (fun _ => ?_) (fun _ => ?_)
    · refine Frame.then ?_ State.setOut_frame rfl rfl
      refine Frame.put ?_ (by unfold outField; split <;> first | exact inRows_of (r := .SYN_MRK_LEVEL) rfl (by exact rfl) | exact inRows_of (r := .SYN_TRG_LEVEL) rfl (by exact rfl))
      exact Frame.refl
    · exact Frame.refl
  · exact Frame.refl

theorem execOutputPulseFall_frame {a0 : Fin 48} : ∃ t, execOutputPulseFall a0 s = .next t ∧ Frame (some [.SYN_MRK_LEVEL, .SYN_TRG_LEVEL]) [.syn] s t := by
  refine ⟨_, rfl, ?_⟩
  refine Frame.then ?_ outputPulseFall_frame rfl rfl
  exact Frame.refl

end Sys2Proof.Machine
end

