-- ==== Sys2Proof/Laws/Frame/Access.lean ====
section
/-! SUPPORT. Laws/Frame/Access.lean: what each operation of Machine/Access.lean can change, and that it keeps a sound state sound. -/

set_option Elab.async false

namespace Sys2Proof.Machine

variable {R : Option (List RegRow)} {P : List Part} {s t : State}

theorem State.hold_frame {a0 : Nat} {a1 : Option Word} : Frame (some []) [.held] s (State.hold s a0 a1) := by
  unfold State.hold
  refine Frame.heldRd ?_ rfl (fun h => ⟨(by first | exact h.1 | exact sparseWf_sset h.1 | exact sparseWf_nil | exact sparseWf_filter h.1 | exact sparseWf_smap h.1 | exact sparseWf_sdrop h.1 | exact sparseWf_sset (sparseWf_sset h.1) | exact sparseWf_fold sparseWf_nil | (dsimp only; exact sparseWf_smap h.1)), (by first | exact h.2 | exact sparseWf_sset h.2 | exact sparseWf_nil | exact sparseWf_filter h.2 | exact sparseWf_smap h.2 | exact sparseWf_sdrop h.2 | exact sparseWf_sset (sparseWf_sset h.2) | exact sparseWf_fold sparseWf_nil | (dsimp only; exact sparseWf_smap h.2))⟩)
  exact Frame.refl

theorem readEffect_frame {a0 : Path} {a1 : Nat} : Frame (some [.SUP_MADC_RESULT]) [.held] s (readEffect a0 a1 s) := by
  unfold readEffect
  first | split | (clear_value *; split)
  · refine Frame.put ?_ (inRows_of (r := .SUP_MADC_RESULT) rfl (by exact ⟨_, rfl⟩))
    exact Frame.refl
  · first | split | (clear_value *; split)
    · extract_lets -merge -useContext -underBinder +onlyGivenNames x1
      refine Frame.via x1 ?_ fun h1 => ?_
      · unfold x1
        refine Frame.then ?_ State.hold_frame rfl rfl
        exact Frame.refl
      try clear_value x1
      refine Frame.ite (fun _ => ?_) (fun _ => ?_)
      · refine Frame.then ?_ State.hold_frame rfl rfl
        exact h1
      · exact h1
    · refine Frame.then ?_ State.hold_frame rfl rfl
      exact Frame.refl
    · refine Frame.ite (fun _ => ?_) (fun _ => ?_)
      · refine Frame.then ?_ State.hold_frame rfl rfl
        exact Frame.refl
      · exact Frame.refl

theorem readBar0_frame {a0 : Path} {a1 : Nat} : Frame (some [.HIF_EVENT, .SUP_MADC_RESULT]) [.events, .held, .resp, .sup] s (readBar0 a0 a1 s) := by
  unfold readBar0
  refine Frame.ite (fun _ => ?_) (fun _ => ?_)
  · refine Frame.ite (fun _ => ?_) (fun _ => ?_)
    · refine Frame.then ?_ unsupported_frame rfl rfl
      exact Frame.refl
    · refine Frame.then ?_ State.answer_frame rfl rfl
      exact Frame.refl
  · refine Frame.ite (fun _ => ?_) (fun _ => ?_)
    · refine Frame.then ?_ pathRefused_frame rfl rfl
      exact Frame.refl
    · refine Frame.then ?_ State.answer_frame rfl rfl
      refine Frame.then ?_ readEffect_frame rfl rfl
      exact Frame.refl

theorem tlnCmdWrite_frame {a0 : Path} {a1 : Word} : Frame (some [.HIF_EVENT, .HIF_WR_REF, .HIF_WR_REF_ADDR_HI, .HIF_WR_REF_ADDR_LO, .TLN_STATUS]) [.events, .resp, .sup, .tln] s (tlnCmdWrite a0 a1 s) := by
  unfold tlnCmdWrite
  refine gated_frame ?_ rfl rfl (fun x hx => ?_)
  · exact Frame.refl
  · first | split | (clear_value *; split)
    · refine Frame.then ?_ acceptSlewOut_frame rfl rfl
      exact hx
    · refine Frame.then ?_ acceptStepFwd_frame rfl rfl
      exact hx
    · exact hx

theorem ptpCfgWrite_frame {a0 : Path} {a1 : Nat} {a2 : Word} : Frame none [.events, .resp, .sup, .tln] s (ptpCfgWrite a0 a1 a2 s) := by
  unfold ptpCfgWrite
  extract_lets -merge -useContext -underBinder +onlyGivenNames v1 x2
  refine Frame.via x2 ?_ fun h2 => ?_
  · unfold x2
    refine Frame.then ?_ plainWrite_frame rfl rfl
    exact Frame.refl
  try clear_value x2
  refine Frame.ite (fun _ => ?_) (fun _ => ?_)
  · extract_lets -merge -useContext -underBinder +onlyGivenNames x3
    refine Frame.via x3 ?_ fun h3 => ?_
    · unfold x3
      refine Frame.then ?_ losePort_frame rfl rfl
      exact h2
    try clear_value x3
    refine Frame.ite (fun _ => ?_) (fun _ => ?_)
    · refine Frame.then ?_ endAsym_frame rfl rfl
      exact h3
    · exact h3
  · exact h2

theorem spnDbgWrite_frame {a0 : Path} {a1 : Nat} {a2 : Word} : Frame (some [.HIF_EVENT, .HIF_WR_REF, .HIF_WR_REF_ADDR_HI, .HIF_WR_REF_ADDR_LO, .SPN_EVENT, .SPN_STATUS]) [.events, .resp, .spn, .sup] s (spnDbgWrite a0 a1 a2 s) := by
  unfold spnDbgWrite
  refine gated_frame ?_ rfl rfl (fun x hx => ?_)
  · exact Frame.refl
  · extract_lets -merge -useContext -underBinder +onlyGivenNames x1
    refine Frame.via x1 ?_ fun h1 => ?_
    · unfold x1
      refine Frame.ite (fun _ => ?_) (fun _ => ?_)
      · refine Frame.then ?_ dbgHalt_frame rfl rfl
        exact hx
      · exact hx
    try clear_value x1
    extract_lets -merge -useContext -underBinder +onlyGivenNames x2
    refine Frame.via x2 ?_ fun h2 => ?_
    · unfold x2
      refine Frame.ite (fun _ => ?_) (fun _ => ?_)
      · refine Frame.then ?_ dbgStep_frame rfl rfl
        exact h1
      · exact h1
    try clear_value x2
    refine Frame.ite (fun _ => ?_) (fun _ => ?_)
    · refine Frame.then ?_ resumeSpindle_frame rfl rfl
      exact h2
    · exact h2

theorem chCfgWrite_frame {a0 : Path} {a1 : Nat} {a2 : Word} : Frame none [.events, .rdo, .resp, .sup] s (chCfgWrite a0 a1 a2 s) := by
  unfold chCfgWrite
  extract_lets -merge -useContext -underBinder +onlyGivenNames v1 x2
  refine Frame.via x2 ?_ fun h2 => ?_
  · unfold x2
    refine Frame.then ?_ plainWrite_frame rfl rfl
    exact Frame.refl
  try clear_value x2
  extract_lets -merge -useContext -underBinder +onlyGivenNames v3
  refine Frame.ite (fun _ => ?_) (fun _ => ?_)
  · exact h2
  · refine Frame.then ?_ scheduleChange_frame rfl rfl
    refine Frame.then ?_ scheduleChange_frame rfl rfl
    exact h2

theorem chPhaseWrite_frame {a0 : Path} {a1 : Nat} {a2 : Word} : Frame none [.events, .rdo, .resp, .sup] s (chPhaseWrite a0 a1 a2 s) := by
  unfold chPhaseWrite
  extract_lets -merge -useContext -underBinder +onlyGivenNames v1 x2
  refine Frame.via x2 ?_ fun h2 => ?_
  · unfold x2
    refine Frame.then ?_ plainWrite_frame rfl rfl
    exact Frame.refl
  try clear_value x2
  refine Frame.ite (fun _ => ?_) (fun _ => ?_)
  · exact h2
  · refine Frame.then ?_ scheduleChange_frame rfl rfl
    exact h2

theorem evEnWrite_frame {a0 : Path} {a1 : Nat} {a2 : Word} : Frame none [.events, .fab, .resp, .sup] s (evEnWrite a0 a1 a2 s) := by
  unfold evEnWrite
  extract_lets -merge -useContext -underBinder +onlyGivenNames v1 x2
  refine Frame.via x2 ?_ fun h2 => ?_
  · unfold x2
    refine Frame.then ?_ plainWrite_frame rfl rfl
    exact Frame.refl
  try clear_value x2
  first | split | (clear_value *; split)
  · exact h2
  · refine Frame.fab ?_ rfl (fun h => ⟨(by first | exact h.1 | exact sparseWf_sset h.1 | exact sparseWf_nil | exact sparseWf_filter h.1 | exact sparseWf_smap h.1 | exact sparseWf_sdrop h.1 | exact sparseWf_sset (sparseWf_sset h.1) | exact sparseWf_fold sparseWf_nil | (dsimp only; exact sparseWf_smap h.1)), (by first | exact h.2.1 | exact sparseWf_sset h.2.1 | exact sparseWf_nil | exact sparseWf_filter h.2.1 | exact sparseWf_smap h.2.1 | exact sparseWf_sdrop h.2.1 | exact sparseWf_sset (sparseWf_sset h.2.1) | exact sparseWf_fold sparseWf_nil | (dsimp only; exact sparseWf_smap h.2.1)), (by first | exact h.2.2.1 | exact sparseWf_sset h.2.2.1 | exact sparseWf_nil | exact sparseWf_filter h.2.2.1 | exact sparseWf_smap h.2.2.1 | exact sparseWf_sdrop h.2.2.1 | exact sparseWf_sset (sparseWf_sset h.2.2.1) | exact sparseWf_fold sparseWf_nil | (dsimp only; exact sparseWf_smap h.2.2.1)), (by first | exact h.2.2.2 | exact sparseWf_sset h.2.2.2 | exact sparseWf_nil | exact sparseWf_filter h.2.2.2 | exact sparseWf_smap h.2.2.2 | exact sparseWf_sdrop h.2.2.2 | exact sparseWf_sset (sparseWf_sset h.2.2.2) | exact sparseWf_fold sparseWf_nil | (dsimp only; exact sparseWf_smap h.2.2.2))⟩)
    exact h2

theorem twCfgWrite_frame {a0 : Path} {a1 : Nat} {a2 : Word} : Frame none [.csc, .events, .resp, .sup, .tln] s (twCfgWrite a0 a1 a2 s) := by
  unfold twCfgWrite
  extract_lets -merge -useContext -underBinder +onlyGivenNames v1 x2
  refine Frame.via x2 ?_ fun h2 => ?_
  · unfold x2
    refine Frame.then ?_ plainWrite_frame rfl rfl
    exact Frame.refl
  try clear_value x2
  refine Frame.ite (fun _ => ?_) (fun _ => ?_)
  · refine Frame.then ?_ twDown_frame rfl rfl
    exact h2
  · exact h2

theorem laneRingWrite_frame {a0 : Path} {a1 : Nat} {a2 : Word} : Frame none [.events, .resp, .sup] s (laneRingWrite a0 a1 a2 s) := by
  unfold laneRingWrite
  refine Frame.ite (fun _ => ?_) (fun _ => ?_)
  · refine gated_frame ?_ rfl rfl (fun x hx => ?_)
    · exact Frame.refl
    · exact hx
  · refine Frame.then ?_ plainWrite_frame rfl rfl
    exact Frame.refl

theorem mboxWrite_frame {a0 : Path} {a1 : Word} : Frame none [.events, .resp, .sup] s (mboxWrite a0 a1 s) := by
  unfold mboxWrite
  refine Frame.ite (fun _ => ?_) (fun _ => ?_)
  · refine gated_frame ?_ rfl rfl (fun x hx => ?_)
    · exact Frame.refl
    · refine Frame.raise ?_ (inRows_of (r := .HIF_EVENT) rfl (by exact rfl)) rfl
      refine Frame.wr ?_ (inRows_of (r := .HIF_SMB_MBOX_IN) rfl (by exact rfl))
      exact hx
  · refine Frame.then ?_ plainWrite_frame rfl rfl
    exact Frame.refl

theorem monCfgWrite_frame {a0 : Path} {a1 : Nat} {a2 : Word} : Frame none [.events, .resp, .sup, .syn] s (monCfgWrite a0 a1 a2 s) := by
  unfold monCfgWrite
  refine permitting_frame ?_ rfl rfl (fun x hx => ?_)
  · exact Frame.refl
  · extract_lets -merge -useContext -underBinder +onlyGivenNames v1 x2
    refine Frame.via x2 ?_ fun h2 => ?_
    · unfold x2
      refine Frame.then ?_ plainWrite_frame rfl rfl
      exact hx
    try clear_value x2
    refine Frame.ite (fun _ => ?_) (fun _ => ?_)
    · exact h2
    · refine Frame.then ?_ restartMon_frame rfl rfl
      exact h2

theorem tsCfgWrite_frame {a0 : Path} {a1 : Nat} {a2 : Word} : Frame none [.events, .resp, .sup, .syn] s (tsCfgWrite a0 a1 a2 s) := by
  unfold tsCfgWrite
  extract_lets -merge -useContext -underBinder +onlyGivenNames v1 x2
  refine Frame.via x2 ?_ fun h2 => ?_
  · unfold x2
    refine Frame.then ?_ plainWrite_frame rfl rfl
    exact Frame.refl
  try clear_value x2
  refine Frame.ite (fun _ => ?_) (fun _ => ?_)
  · refine Frame.then ?_ settleSup_frame rfl rfl
    exact h2
  · exact h2

/-- Every writing action keeps within the whole. -/
theorem writeActions_frame : ∀ a ∈ writeActions, ∀ (p : Path) (i j : Nat) (v : Word) (s : State), Frame none [.bob, .csc, .dram, .dsc, .events, .fab, .free, .glb, .held, .hif, .jobs, .later, .mem, .pwr, .rdo, .resp, .rv, .sec, .spn, .sram, .sup, .syn, .tap, .tln] s (a.act p i j v s) := by
  unfold writeActions
  simp only [List.forall_mem_cons, List.not_mem_nil, false_implies, implies_true, and_true]
  refine ⟨fun p i j v s => ?_, fun p i j v s => ?_, fun p i j v s => ?_, fun p i j v s => ?_, fun p i j v s => ?_, fun p i j v s => ?_, fun p i j v s => ?_, fun p i j v s => ?_, fun p i j v s => ?_, fun p i j v s => ?_, fun p i j v s => ?_, fun p i j v s => ?_, fun p i j v s => ?_, fun p i j v s => ?_, fun p i j v s => ?_, fun p i j v s => ?_, fun p i j v s => ?_, fun p i j v s => ?_, fun p i j v s => ?_, fun p i j v s => ?_, fun p i j v s => ?_, fun p i j v s => ?_, fun p i j v s => ?_, fun p i j v s => ?_, fun p i j v s => ?_, fun p i j v s => ?_, fun p i j v s => ?_, fun p i j v s => ?_, fun p i j v s => ?_, fun p i j v s => ?_, fun p i j v s => ?_, fun p i j v s => ?_, fun p i j v s => ?_, fun p i j v s => ?_, fun p i j v s => ?_, fun p i j v s => ?_, fun p i j v s => ?_, fun p i j v s => ?_, fun p i j v s => ?_, fun p i j v s => ?_, fun p i j v s => ?_, fun p i j v s => ?_, fun p i j v s => ?_, fun p i j v s => ?_, fun p i j v s => ?_, fun p i j v s => ?_, fun p i j v s => ?_, fun p i j v s => ?_⟩
  · exact Frame.mono modeCtl_frame rfl rfl
  · exact Frame.mono clkCtlWrite_frame rfl rfl
  · exact Frame.mono rstCtlWrite_frame rfl rfl
  · exact Frame.mono mboxWrite_frame rfl rfl
  · exact Frame.mono writeQCfg_frame rfl rfl
  · exact Frame.mono writeTail_frame rfl rfl
  · exact Frame.mono writeQCtl_frame rfl rfl
  · exact Frame.mono writeMsix_frame rfl rfl
  · exact Frame.mono loadCtlWrite_frame rfl rfl
  · exact Frame.mono secCmdWrite_frame rfl rfl
  · exact Frame.mono supCmdWrite_frame rfl rfl
  · exact gated_frame Frame.refl rfl rfl (fun x hx => hx.then errAck_frame rfl rfl)
  · exact gated_frame Frame.refl rfl rfl (fun x hx => hx.then madcStart_frame rfl rfl)
  · exact Frame.mono monCfgWrite_frame rfl rfl
  · exact Frame.mono monFlagWrite_frame rfl rfl
  · exact Frame.mono tsCfgWrite_frame rfl rfl
  · exact Frame.mono pwrCmdWrite_frame rfl rfl
  · exact Frame.mono dormTolWrite_frame rfl rfl
  · exact Frame.mono latTolWrite_frame rfl rfl
  · exact Frame.mono tlnCtlWrite_frame rfl rfl
  · exact Frame.mono slewMaxWrite_frame rfl rfl
  · exact Frame.mono tlnCmdWrite_frame rfl rfl
  · exact Frame.mono ptpCfgWrite_frame rfl rfl
  · exact Frame.mono writeLaunchCfg_frame rfl rfl
  · exact Frame.mono twCfgWrite_frame rfl rfl
  · exact gated_frame Frame.refl rfl rfl (fun x hx => hx.then twCmdWrite_frame rfl rfl)
  · exact gated_frame Frame.refl rfl rfl (fun x hx => hx.then rraStart_frame rfl rfl)
  · exact gated_frame Frame.refl rfl rfl (fun x hx => hx.then rdmaStart_frame rfl rfl)
  · exact Frame.mono laneRingWrite_frame rfl rfl
  · exact Frame.mono drfTailWrite_frame rfl rfl
  · exact gated_frame Frame.refl rfl rfl (fun x hx => hx.then hostPreempt_frame rfl rfl)
  · exact Frame.mono spnDbgWrite_frame rfl rfl
  · exact gated_frame Frame.refl rfl rfl (fun x hx => hx.then urAck_frame rfl rfl)
  · exact gated_frame Frame.refl rfl rfl (fun x hx => hx.then rvRestart_frame rfl rfl)
  · exact gated_frame Frame.refl rfl rfl (fun x hx => hx.then attWrite_frame rfl rfl)
  · exact Frame.mono chCfgWrite_frame rfl rfl
  · exact Frame.mono chPhaseWrite_frame rfl rfl
  · exact Frame.mono combOnWrite_frame rfl rfl
  · exact Frame.mono toneFcWrite_frame rfl rfl
  · exact Frame.mono toneFcWrite_frame rfl rfl
  · exact Frame.mono tonePWrite_frame rfl rfl
  · exact gated_frame Frame.refl rfl rfl (fun x hx => hx.then fabForce_frame rfl rfl)
  · exact Frame.mono evEnWrite_frame rfl rfl
  · exact gated_frame Frame.refl rfl rfl (fun x hx => forBits_frame hx rfl rfl (fun i y hy => hy.then bobArm_frame rfl rfl))
  · exact gated_frame Frame.refl rfl rfl (fun x hx => forBits_frame hx rfl rfl (fun i y hy => hy.then abortBob_frame rfl rfl))
  · exact gated_frame Frame.refl rfl rfl (fun x hx => forBits_frame hx rfl rfl (fun i y hy => hy.then markTrigger_frame rfl rfl))
  · exact gated_frame Frame.refl rfl rfl (fun x hx => hx.then bobCmdWrite_frame rfl rfl)
  · exact gated_frame Frame.refl rfl rfl (fun x hx => hx.then bobDirAck_frame rfl rfl)

theorem writeActionAt_frame {off : Nat} {l : List WriteAction} {act : Path → Word → State → State} (h : writeActionAt off l = some act)
    (hl : ∀ a ∈ l, ∀ (p : Path) (i j : Nat) (v : Word) (s : State), Frame none [.bob, .csc, .dram, .dsc, .events, .fab, .free, .glb, .held, .hif, .jobs, .later, .mem, .pwr, .rdo, .resp, .rv, .sec, .spn, .sram, .sup, .syn, .tap, .tln] s (a.act p i j v s)) (p : Path) (v : Word) (s : State) :
    Frame none [.bob, .csc, .dram, .dsc, .events, .fab, .free, .glb, .held, .hif, .jobs, .later, .mem, .pwr, .rdo, .resp, .rv, .sec, .spn, .sram, .sup, .syn, .tap, .tln] s (act p v s) := by
  induction l with
  | nil => cases h
  | cons a l ih =>
    unfold writeActionAt at h
    split at h
    · cases h; exact hl a (by simp) _ _ _ _ _
    · exact ih h fun b hb => hl b (by simp [hb])

theorem writeOne_frame {a0 : Path} {a1 : Nat} {a2 : Word} : Frame none [.bob, .csc, .dram, .dsc, .events, .fab, .free, .glb, .held, .hif, .jobs, .later, .mem, .pwr, .rdo, .resp, .rv, .sec, .spn, .sram, .sup, .syn, .tap, .tln] s (writeOne a0 a1 a2 s) := by
  unfold writeOne
  split
  · exact writeActionAt_frame ‹_› writeActions_frame _ _ _
  · exact Frame.mono plainWrite_frame rfl rfl

theorem holdLo_frame {a0 : Path} {a1 : Nat} {a2 : Word} : Frame (some [.HIF_EVENT, .HIF_WR_REF, .HIF_WR_REF_ADDR_HI, .HIF_WR_REF_ADDR_LO]) [.events, .held, .resp, .sup] s (holdLo a0 a1 a2 s) := by
  unfold holdLo
  refine gated_frame ?_ rfl rfl (fun x hx => ?_)
  · exact Frame.refl
  · refine Frame.heldWr ?_ rfl (fun h => ⟨(by first | exact h.1 | exact sparseWf_sset h.1 | exact sparseWf_nil | exact sparseWf_filter h.1 | exact sparseWf_smap h.1 | exact sparseWf_sdrop h.1 | exact sparseWf_sset (sparseWf_sset h.1) | exact sparseWf_fold sparseWf_nil | (dsimp only; exact sparseWf_smap h.1)), (by first | exact h.2 | exact sparseWf_sset h.2 | exact sparseWf_nil | exact sparseWf_filter h.2 | exact sparseWf_smap h.2 | exact sparseWf_sdrop h.2 | exact sparseWf_sset (sparseWf_sset h.2) | exact sparseWf_fold sparseWf_nil | (dsimp only; exact sparseWf_smap h.2))⟩)
    exact hx

theorem writePair_frame {a0 : Nat} {a1 : Nat} {a2 : RegDesc} {a3 : Word} {a4 : Word} : Frame none [.events, .resp, .sup] s (writePair a0 a1 a2 a3 a4 s) := by
  unfold writePair
  extract_lets -merge -useContext -underBinder +onlyGivenNames v1 v2 v3
  refine Frame.ite (fun _ => ?_) (fun _ => ?_)
  · refine Frame.ite (fun _ => ?_) (fun _ => ?_)
    · refine Frame.then ?_ wrRefused_frame rfl rfl
      exact Frame.refl
    · exact Frame.refl
  · extract_lets -merge -useContext -underBinder +onlyGivenNames x4
    refine Frame.via x4 ?_ fun h4 => ?_
    · unfold x4
      refine Frame.wr ?_ (by exact trivial)
      refine Frame.wr ?_ (by exact trivial)
      exact Frame.refl
    try clear_value x4
    refine Frame.ite (fun _ => ?_) (fun _ => ?_)
    · refine Frame.then ?_ taint_frame rfl rfl
      exact h4
    · exact h4

theorem commitPair_frame {a0 : Path} {a1 : Nat} {a2 : RegDesc} {a3 : Word} {a4 : Word} : Frame none [.bob, .events, .resp, .sup] s (commitPair a0 a1 a2 a3 a4 s) := by
  unfold commitPair
  first | split | (clear_value *; split)
  · refine Frame.then ?_ bobRdWrite_frame rfl rfl
    exact Frame.refl
  · refine Frame.ite (fun _ => ?_) (fun _ => ?_)
    · exact Frame.refl
    · refine Frame.then ?_ writePair_frame rfl rfl
      exact Frame.refl
  · refine Frame.ite (fun _ => ?_) (fun _ => ?_)
    · exact Frame.refl
    · refine Frame.then ?_ writePair_frame rfl rfl
      exact Frame.refl
  · refine Frame.then ?_ writePair_frame rfl rfl
    exact Frame.refl

theorem commitHi_frame {a0 : Path} {a1 : Nat} {a2 : RegDesc} {a3 : Word} : Frame none [.bob, .events, .held, .resp, .sup] s (commitHi a0 a1 a2 a3 s) := by
  unfold commitHi
  refine gated_frame ?_ rfl rfl (fun x hx => ?_)
  · exact Frame.refl
  · extract_lets -merge -useContext -underBinder +onlyGivenNames v1 v2 x3
    refine Frame.via x3 ?_ fun h3 => ?_
    · unfold x3
      refine Frame.heldWr ?_ rfl (fun h => ⟨(by first | exact h.1 | exact sparseWf_sset h.1 | exact sparseWf_nil | exact sparseWf_filter h.1 | exact sparseWf_smap h.1 | exact sparseWf_sdrop h.1 | exact sparseWf_sset (sparseWf_sset h.1) | exact sparseWf_fold sparseWf_nil | (dsimp only; exact sparseWf_smap h.1)), (by first | exact h.2 | exact sparseWf_sset h.2 | exact sparseWf_nil | exact sparseWf_filter h.2 | exact sparseWf_smap h.2 | exact sparseWf_sdrop h.2 | exact sparseWf_sset (sparseWf_sset h.2) | exact sparseWf_fold sparseWf_nil | (dsimp only; exact sparseWf_smap h.2))⟩)
      exact hx
    try clear_value x3
    refine Frame.then ?_ commitPair_frame rfl rfl
    exact h3

theorem writeBar0_frame {a0 : Path} {a1 : Nat} {a2 : Word} : Frame none [.bob, .csc, .dram, .dsc, .events, .fab, .free, .glb, .held, .hif, .jobs, .later, .mem, .pwr, .rdo, .resp, .rv, .sec, .spn, .sram, .sup, .syn, .tap, .tln] s (writeBar0 a0 a1 a2 s) := by
  unfold writeBar0
  refine Frame.ite (fun _ => ?_) (fun _ => ?_)
  · refine Frame.ite (fun _ => ?_) (fun _ => ?_)
    · refine Frame.then ?_ unsupported_frame rfl rfl
      exact Frame.refl
    · refine Frame.then ?_ State.answer_frame rfl rfl
      exact Frame.refl
  · first | split | (clear_value *; split)
    · refine Frame.ite (fun _ => ?_) (fun _ => ?_)
      · refine Frame.then ?_ writeOne_frame rfl rfl
        exact Frame.refl
      · first | split | (clear_value *; split)
        · refine Frame.then ?_ holdLo_frame rfl rfl
          exact Frame.refl
        · refine Frame.then ?_ commitHi_frame rfl rfl
          exact Frame.refl
        · refine Frame.then ?_ writeOne_frame rfl rfl
          exact Frame.refl
    · refine Frame.then ?_ plainWrite_frame rfl rfl
      exact Frame.refl

theorem execRegisterWrite_frame {a0 : Path} {a1 : BitVec 26} {a2 : Word} : ∃ t, execRegisterWrite a0 a1 a2 s = .next t ∧ Frame none [.bob, .csc, .dram, .dsc, .events, .fab, .free, .glb, .held, .hif, .jobs, .later, .mem, .pwr, .rdo, .resp, .rv, .sec, .spn, .sram, .sup, .syn, .tap, .tln] s t := by
  refine ⟨_, rfl, ?_⟩
  refine Frame.then ?_ writeBar0_frame rfl rfl
  exact Frame.refl

theorem execBar0BadAccess_frame  : ∃ t, execBar0BadAccess s = .next t ∧ Frame (some [.HIF_EVENT]) [.events, .resp, .sup] s t := by
  refine ⟨_, rfl, ?_⟩
  refine Frame.then ?_ unsupported_frame rfl rfl
  exact Frame.refl

theorem execLoReadCapture_frame {a0 : Path} {a1 : BitVec 26} : ∃ t, execLoReadCapture a0 a1 s = .next t ∧ Frame (some [.HIF_EVENT, .SUP_MADC_RESULT]) [.events, .held, .resp, .sup] s t := by
  refine ⟨_, rfl, ?_⟩
  refine Frame.then ?_ readBar0_frame rfl rfl
  exact Frame.refl

theorem execHiRead_frame {a0 : Path} {a1 : BitVec 26} : ∃ t, execHiRead a0 a1 s = .next t ∧ Frame (some [.HIF_EVENT, .SUP_MADC_RESULT]) [.events, .held, .resp, .sup] s t := by
  refine ⟨_, rfl, ?_⟩
  refine Frame.then ?_ readBar0_frame rfl rfl
  exact Frame.refl

theorem execLoWriteHold_frame {a0 : Path} {a1 : BitVec 26} {a2 : Word} : ∃ t, execLoWriteHold a0 a1 a2 s = .next t ∧ Frame none [.bob, .csc, .dram, .dsc, .events, .fab, .free, .glb, .held, .hif, .jobs, .later, .mem, .pwr, .rdo, .resp, .rv, .sec, .spn, .sram, .sup, .syn, .tap, .tln] s t := by
  refine ⟨_, rfl, ?_⟩
  refine Frame.then ?_ writeBar0_frame rfl rfl
  exact Frame.refl

theorem execHiWriteCommit_frame {a0 : Path} {a1 : BitVec 26} {a2 : Word} : ∃ t, execHiWriteCommit a0 a1 a2 s = .next t ∧ Frame none [.bob, .csc, .dram, .dsc, .events, .fab, .free, .glb, .held, .hif, .jobs, .later, .mem, .pwr, .rdo, .resp, .rv, .sec, .spn, .sram, .sup, .syn, .tap, .tln] s t := by
  refine ⟨_, rfl, ?_⟩
  refine Frame.then ?_ writeBar0_frame rfl rfl
  exact Frame.refl

theorem execMadcResultRead_frame {a0 : Path} {a1 : Fin 2} : ∃ t, execMadcResultRead a0 a1 s = .next t ∧ Frame (some [.HIF_EVENT, .SUP_MADC_RESULT]) [.events, .held, .resp, .sup] s t := by
  refine ⟨_, rfl, ?_⟩
  refine Frame.then ?_ readBar0_frame rfl rfl
  exact Frame.refl

end Sys2Proof.Machine
end

