-- ==== Sys2Proof/Laws/Frame/Discr.lean ====
section
/-! SUPPORT. Laws/Frame/Discr.lean: what each operation of Machine/Discr.lean can change, and that it keeps a sound state sound. -/

set_option Elab.async false

namespace Sys2Proof.Machine

variable {R : Option (List RegRow)} {P : List Part} {s t : State}

theorem rwinTakeUp_frame {a0 : Nat} : Frame (some [.DSC_CH_COUNT2, .DSC_CH_EVENT, .DSC_CH_STATUS, .DSC_CH_SWAP, .DSC_EVENT, .DSC_SET_C_I, .DSC_SET_C_Q, .DSC_SET_ES, .DSC_SET_K_CFG, .DSC_SET_W, .FAB_EVENT, .FAB_EV_COUNT]) [.bob, .dsc, .events, .fab, .later, .pwr, .sup] s (rwinTakeUp a0 s) := by
  unfold rwinTakeUp
  first | split | (clear_value *; split)
  · refine Frame.ite (fun _ => ?_) (fun _ => ?_)
    · extract_lets -merge -useContext -underBinder +onlyGivenNames x1
      refine Frame.via x1 ?_ fun h1 => ?_
      · unfold x1
        refine Frame.then ?_ swapSets_frame rfl rfl
        refine Frame.then ?_ formDecision_frame rfl rfl
        exact Frame.refl
      try clear_value x1
      extract_lets -merge -useContext -underBinder +onlyGivenNames v2 x3
      refine Frame.via x3 ?_ fun h3 => ?_
      · unfold x3
        refine Frame.ite (fun _ => ?_) (fun _ => ?_)
        · refine Frame.count ?_ (inRows_of (r := .DSC_CH_COUNT2) rfl (by exact ⟨_, rfl⟩))
          refine Frame.raise ?_ (inRows_of (r := .DSC_EVENT) rfl (by exact rfl)) rfl
          refine Frame.raise ?_ (inRows_of (r := .DSC_CH_EVENT) rfl (by exact ⟨_, rfl⟩)) rfl
          exact h1
        · exact h1
      try clear_value x3
      extract_lets -merge -useContext -underBinder +onlyGivenNames v4 v5 v6 x7
      refine Frame.via x7 ?_ fun h7 => ?_
      · unfold x7
        refine Frame.then ?_ State.setDscCh_frame rfl rfl
        exact h3
      try clear_value x7
      extract_lets -merge -useContext -underBinder +onlyGivenNames x8
      refine Frame.via x8 ?_ fun h8 => ?_
      · unfold x8
        refine Frame.wr ?_ (inRows_of (r := .DSC_CH_STATUS) rfl (by exact ⟨_, rfl⟩))
        exact h7
      try clear_value x8
      extract_lets -merge -useContext -underBinder +onlyGivenNames v9
      refine Frame.then ?_ bobWindow_frame rfl rfl
      exact h8
    · exact Frame.refl
  · exact Frame.refl

theorem execRwinTakeUp_frame {a0 : Fin 256} : ∃ t, execRwinTakeUp a0 s = .next t ∧ Frame (some [.DSC_CH_COUNT2, .DSC_CH_EVENT, .DSC_CH_STATUS, .DSC_CH_SWAP, .DSC_EVENT, .DSC_SET_C_I, .DSC_SET_C_Q, .DSC_SET_ES, .DSC_SET_K_CFG, .DSC_SET_W, .FAB_EVENT, .FAB_EV_COUNT]) [.bob, .dsc, .events, .fab, .later, .pwr, .sup] s t := by
  refine ⟨_, rfl, ?_⟩
  refine Frame.then ?_ rwinTakeUp_frame rfl rfl
  exact Frame.refl

theorem execEvaluation_frame {a0 : Fin 256} : ∃ t, execEvaluation a0 s = .next t ∧ Frame (some []) [.dsc, .free, .later] s t := by
  refine ⟨_, rfl, ?_⟩
  refine Frame.then ?_ evaluate_frame rfl rfl
  exact Frame.refl

theorem execDecisionFormed_frame {a0 : Fin 256} : ∃ t, execDecisionFormed a0 s = .next t ∧ Frame (some [.DSC_CH_STATUS, .FAB_EVENT, .FAB_EV_COUNT]) [.dsc, .events, .fab, .later, .pwr, .sup] s t := by
  refine ⟨_, rfl, ?_⟩
  refine Frame.then ?_ formDecision_frame rfl rfl
  exact Frame.refl

end Sys2Proof.Machine
end

