-- ==== Sys2Proof/Laws/Frame/Remote.lean ====
section
/-! SUPPORT. Laws/Frame/Remote.lean: what each operation of Machine/Remote.lean can change, and that it keeps a sound state sound. -/

set_option Elab.async false

namespace Sys2Proof.Machine

variable {R : Option (List RegRow)} {P : List Part} {s t : State}

theorem sendCpl_frame {a0 : Packet} {a1 : Nat} {a2 : List (Word × Nat)} : Frame (some []) [.csc] s (sendCpl a0 a1 a2 s) := by
  unfold sendCpl
  refine Frame.then ?_ routePacket_frame rfl rfl
  exact Frame.refl

theorem remoteReg_frame {a0 : Packet} {a1 : State → State} (h : Frame R P s t) (hR : rowsLe (some []) R = true) (hP : partsLe [.csc, .resp] P = true) (ha1 : ∀ x, Frame R P s x → Frame R P s (a1 x)) : Frame R P s (remoteReg a0 a1 t) := by
  unfold remoteReg
  refine Frame.ite (fun _ => ?_) (fun _ => ?_)
  · extract_lets -merge -useContext -underBinder +onlyGivenNames x1
    refine Frame.via x1 ?_ fun h1 => ?_
    · unfold x1
      refine ha1 _ ?_
      exact h
    try clear_value x1
    extract_lets -merge -useContext -underBinder +onlyGivenNames v2 v3
    refine Frame.then ?_ sendCpl_frame (rowsLe_trans rfl hR) (partsLe_trans rfl hP)
    refine Frame.resp ?_ (partsLe_trans rfl hP) (fun _ => trivial)
    exact h1
  · refine Frame.then ?_ sendCpl_frame (rowsLe_trans rfl hR) (partsLe_trans rfl hP)
    exact h

theorem remoteWrite_frame {a0 : Nat} {a1 : Word} : Frame none [.bob, .csc, .dram, .dsc, .events, .fab, .free, .glb, .held, .hif, .jobs, .later, .mem, .pwr, .rdo, .resp, .rv, .sec, .spn, .sram, .sup, .syn, .tap, .tln] s (remoteWrite a0 a1 s) := by
  unfold remoteWrite
  extract_lets -merge -useContext -underBinder +onlyGivenNames x1
  refine Frame.via x1 ?_ fun h1 => ?_
  · unfold x1
    refine Frame.then ?_ writeBar0_frame rfl rfl
    exact Frame.refl
  try clear_value x1
  refine Frame.ite (fun _ => ?_) (fun _ => ?_)
  · refine Frame.then ?_ State.answer_frame rfl rfl
    exact h1
  · exact h1

theorem execBulkRegWr_frame {a0 : Fin 4} {a1 : Fin 4} {a2 : Fin 16} {a3 : Fin 64} {a4 : Fin 64} {a5 : Byte} {a6 : Fin 4} {a7 : BitVec 37} {a8 : Fin 16} {a9 : Word} : ∃ t, execBulkRegWr a0 a1 a2 a3 a4 a5 a6 a7 a8 a9 s = .next t ∧ Frame none [.bob, .csc, .dram, .dsc, .events, .fab, .free, .glb, .held, .hif, .jobs, .later, .mem, .pwr, .rdo, .resp, .rv, .sec, .spn, .sram, .sup, .syn, .tap, .tln] s t := by
  refine ⟨_, rfl, ?_⟩
  refine onPacket_frame ?_ rfl rfl (fun x hx => ?_)
  · exact Frame.refl
  · refine remoteReg_frame ?_ rfl rfl (fun x hx => ?_)
    · exact hx
    · refine Frame.ite (fun _ => ?_) (fun _ => ?_)
      · refine Frame.then ?_ remoteWrite_frame rfl rfl
        exact hx
      · refine Frame.then ?_ unsupported_frame rfl rfl
        exact hx

theorem execBulkRegRd_frame {a0 : Fin 4} {a1 : Fin 4} {a2 : Fin 16} {a3 : Fin 64} {a4 : Fin 64} {a5 : Byte} {a6 : Fin 4} {a7 : BitVec 37} : ∃ t, execBulkRegRd a0 a1 a2 a3 a4 a5 a6 a7 s = .next t ∧ Frame (some [.HIF_EVENT, .SUP_MADC_RESULT]) [.csc, .events, .held, .resp, .sup] s t := by
  refine ⟨_, rfl, ?_⟩
  refine onPacket_frame ?_ rfl rfl (fun x hx => ?_)
  · exact Frame.refl
  · refine remoteReg_frame ?_ rfl rfl (fun x hx => ?_)
    · exact hx
    · refine Frame.then ?_ readBar0_frame rfl rfl
      exact hx

theorem remoteMem_frame {a0 : Packet} {a1 : Bool} : Frame (some [.GLB_MODE_STATUS, .HIF_EVENT, .HIF_WR_REF, .HIF_WR_REF_ADDR_HI, .HIF_WR_REF_ADDR_LO, .MEM_EVENT, .MEM_SRAM_ERR, .MEM_SRAM_UE_ADDR, .SEC_EVENT, .SEC_STATUS, .SUP_TRIP, .SUP_TRIP_ERR, .SUP_TRIP_REEL_HI, .SUP_TRIP_REEL_LO, .SUP_TRIP_SEEN]) [.csc, .events, .free, .glb, .mem, .resp, .sram, .sup] s (remoteMem a0 a1 s) := by
  unfold remoteMem
  extract_lets -merge -useContext -underBinder +onlyGivenNames v1
  refine Frame.ite (fun _ => ?_) (fun _ => ?_)
  · refine Frame.then ?_ sendCpl_frame rfl rfl
    exact Frame.refl
  · refine Frame.ite (fun _ => ?_) (fun _ => ?_)
    · refine Frame.ite (fun _ => ?_) (fun _ => ?_)
      · refine Frame.then ?_ sendCpl_frame rfl rfl
        exact Frame.refl
      · refine Frame.ite (fun _ => ?_) (fun _ => ?_)
        · refine Frame.then ?_ sendCpl_frame rfl rfl
          extract_lets -merge -useContext -underBinder +onlyGivenNames x2
          refine Frame.via x2 ?_ fun h2 => ?_
          · unfold x2
            refine Frame.then ?_ unsupported_frame rfl rfl
            exact Frame.refl
          try clear_value x2
          refine Frame.resp ?_ rfl (fun _ => trivial)
          exact h2
        · extract_lets -merge -useContext -underBinder +onlyGivenNames v3
          refine Frame.then ?_ sendCpl_frame rfl rfl
          extract_lets -merge -useContext -underBinder +onlyGivenNames x4
          refine Frame.via x4 ?_ fun h4 => ?_
          · unfold x4
            refine Frame.then ?_ writeSram_frame rfl rfl
            exact Frame.refl
          try clear_value x4
          refine Frame.resp ?_ rfl (fun _ => trivial)
          exact h4
    · refine Frame.ite (fun _ => ?_) (fun _ => ?_)
      · refine Frame.ite (fun _ => ?_) (fun _ => ?_)
        · refine Frame.then ?_ sendCpl_frame rfl rfl
          extract_lets -merge -useContext -underBinder +onlyGivenNames x5
          refine Frame.via x5 ?_ fun h5 => ?_
          · unfold x5
            refine Frame.then ?_ unsupported_frame rfl rfl
            exact Frame.refl
          try clear_value x5
          refine Frame.resp ?_ rfl (fun _ => trivial)
          exact h5
        · refine Frame.then ?_ holdAccess_frame rfl rfl
          exact Frame.refl
      · refine Frame.then ?_ sendCpl_frame rfl rfl
        exact Frame.refl

theorem execBulkMemWr_frame {a0 : Fin 4} {a1 : Fin 4} {a2 : Fin 16} {a3 : Fin 64} {a4 : Fin 64} {a5 : Byte} {a6 : Fin 4} {a7 : BitVec 37} {a8 : List (Word × Fin 16)} {a9 : Bool} : ∃ t, execBulkMemWr a0 a1 a2 a3 a4 a5 a6 a7 a8 a9 s = .next t ∧ Frame (some [.GLB_MODE_STATUS, .HIF_EVENT, .HIF_WR_REF, .HIF_WR_REF_ADDR_HI, .HIF_WR_REF_ADDR_LO, .MEM_EVENT, .MEM_SRAM_ERR, .MEM_SRAM_UE_ADDR, .SEC_EVENT, .SEC_STATUS, .SUP_TRIP, .SUP_TRIP_ERR, .SUP_TRIP_REEL_HI, .SUP_TRIP_REEL_LO, .SUP_TRIP_SEEN]) [.csc, .events, .free, .glb, .mem, .resp, .sram, .sup] s t := by
  refine ⟨_, rfl, ?_⟩
  refine onPacket_frame ?_ rfl rfl (fun x hx => ?_)
  · exact Frame.refl
  · refine Frame.then ?_ remoteMem_frame rfl rfl
    exact hx

theorem smbReadAnswer_frame {a0 : BitVec 32} {a1 : Word} {a2 : Nat} : Frame (some []) [.resp] s (smbReadAnswer a0 a1 a2 s) := by
  unfold smbReadAnswer
  extract_lets -merge -useContext -underBinder +onlyGivenNames v1
  refine Frame.resp ?_ rfl (fun _ => trivial)
  exact Frame.refl

theorem execSmbRead_frame {a0 : BitVec 7} {a1 : BitVec 32} : ∃ t, execSmbRead a0 a1 s = .next t ∧ Frame (some [.HIF_EVENT, .SUP_MADC_RESULT]) [.events, .free, .held, .resp, .sup] s t := by
  refine ⟨_, rfl, ?_⟩
  refine Frame.ite (fun _ => ?_) (fun _ => ?_)
  · exact Frame.refl
  · refine Frame.ite (fun _ => ?_) (fun _ => ?_)
    · first | split | (clear_value *; split)
      · rename_i x1 e1
        refine Frame.via x1 (Frame.ofSnd e1 ?_) fun h1 => ?_
        · refine Frame.fresh ?_ rfl
          exact Frame.refl
        refine Frame.then ?_ smbReadAnswer_frame rfl rfl
        exact h1
    · extract_lets -merge -useContext -underBinder +onlyGivenNames x2
      refine Frame.via x2 ?_ fun h2 => ?_
      · unfold x2
        refine Frame.then ?_ readBar0_frame rfl rfl
        exact Frame.refl
      try clear_value x2
      refine Frame.ite (fun _ => ?_) (fun _ => ?_)
      · refine Frame.then ?_ smbReadAnswer_frame rfl rfl
        exact h2
      · refine Frame.then ?_ smbReadAnswer_frame rfl rfl
        exact h2

theorem keepSmbStatus_frame {a0 : Nat} : Frame (some []) [.hif] s (keepSmbStatus a0 s) := by
  unfold keepSmbStatus
  refine Frame.hif ?_ rfl (by first | exact id | exact fun h => ⟨(by first | exact h.1 | exact sparseWf_sset h.1 | exact sparseWf_nil | exact sparseWf_filter h.1 | exact sparseWf_smap h.1 | exact sparseWf_sdrop h.1 | exact sparseWf_sset (sparseWf_sset h.1) | exact sparseWf_fold sparseWf_nil | (dsimp only; exact sparseWf_smap h.1)), (by first | exact h.2.1 | exact sparseWf_sset h.2.1 | exact sparseWf_nil | exact sparseWf_filter h.2.1 | exact sparseWf_smap h.2.1 | exact sparseWf_sdrop h.2.1 | exact sparseWf_sset (sparseWf_sset h.2.1) | exact sparseWf_fold sparseWf_nil | (dsimp only; exact sparseWf_smap h.2.1)), (by first | exact h.2.2.1 | exact sparseWf_sset h.2.2.1 | exact sparseWf_nil | exact sparseWf_filter h.2.2.1 | exact sparseWf_smap h.2.2.1 | exact sparseWf_sdrop h.2.2.1 | exact sparseWf_sset (sparseWf_sset h.2.2.1) | exact sparseWf_fold sparseWf_nil | (dsimp only; exact sparseWf_smap h.2.2.1)), (by first | exact h.2.2.2 | exact sparseWf_sset h.2.2.2 | exact sparseWf_nil | exact sparseWf_filter h.2.2.2 | exact sparseWf_smap h.2.2.2 | exact sparseWf_sdrop h.2.2.2 | exact sparseWf_sset (sparseWf_sset h.2.2.2) | exact sparseWf_fold sparseWf_nil | (dsimp only; exact sparseWf_smap h.2.2.2))⟩)
  exact Frame.refl

theorem execSmbWrite_frame {a0 : BitVec 7} {a1 : BitVec 32} {a2 : BitVec 32} {a3 : Option Byte} : ∃ t, execSmbWrite a0 a1 a2 a3 s = .next t ∧ Frame none [.bob, .csc, .dram, .dsc, .events, .fab, .free, .glb, .held, .hif, .jobs, .later, .mem, .pwr, .rdo, .resp, .rv, .sec, .spn, .sram, .sup, .syn, .tap, .tln] s t := by
  refine ⟨_, rfl, ?_⟩
  extract_lets -merge -useContext -underBinder +onlyGivenNames v1
  refine Frame.ite (fun _ => ?_) (fun _ => ?_)
  · exact Frame.refl
  · refine Frame.ite (fun _ => ?_) (fun _ => ?_)
    · refine Frame.then ?_ keepSmbStatus_frame rfl rfl
      refine Frame.then ?_ State.answer_frame rfl rfl
      exact Frame.refl
    · extract_lets -merge -useContext -underBinder +onlyGivenNames x2
      refine Frame.via x2 ?_ fun h2 => ?_
      · unfold x2
        refine Frame.then ?_ writeBar0_frame rfl rfl
        exact Frame.refl
      try clear_value x2
      refine Frame.then ?_ keepSmbStatus_frame rfl rfl
      exact h2

theorem execSmbStatus_frame {a0 : BitVec 7} : ∃ t, execSmbStatus a0 s = .next t ∧ Frame (some []) [.resp] s t := by
  refine ⟨_, rfl, ?_⟩
  refine Frame.ite (fun _ => ?_) (fun _ => ?_)
  · refine Frame.then ?_ State.giveBytes_frame rfl rfl
    exact Frame.refl
  · exact Frame.refl

theorem selectTap_frame {a0 : Nat} : Frame (some []) [.tap] s (selectTap a0 s) := by
  unfold selectTap
  refine Frame.tap ?_ rfl (fun _ => trivial)
  exact Frame.refl

theorem tapResult_frame {a0 : Bool} {a1 : Word} : Frame (some []) [.tap] s (tapResult a0 a1 s) := by
  unfold tapResult
  extract_lets -merge -useContext -underBinder +onlyGivenNames v1
  refine Frame.tap ?_ rfl (fun _ => trivial)
  exact Frame.refl

theorem tapRefuse_frame  : Frame (some []) [.free, .tap] s (tapRefuse s) := by
  unfold tapRefuse
  first | split | (clear_value *; split)
  · rename_i x1 e1
    refine Frame.via x1 (Frame.ofSnd e1 ?_) fun h1 => ?_
    · refine Frame.fresh ?_ rfl
      exact Frame.refl
    refine Frame.then ?_ tapResult_frame rfl rfl
    exact h1

theorem execTapExtest_frame {a0 : List Bool} : ∃ t, execTapExtest a0 s = .next t ∧ Frame (some []) [.free, .tap] s t := by
  refine ⟨_, rfl, ?_⟩
  extract_lets -merge -useContext -underBinder +onlyGivenNames x1
  refine Frame.via x1 ?_ fun h1 => ?_
  · unfold x1
    refine Frame.then ?_ selectTap_frame rfl rfl
    exact Frame.refl
  try clear_value x1
  refine Frame.ite (fun _ => ?_) (fun _ => ?_)
  · refine Frame.tap ?_ rfl (fun _ => trivial)
    exact h1
  · refine Frame.then ?_ tapRefuse_frame rfl rfl
    exact h1

theorem freshBits_frame {a0 : Nat} : Frame (some []) [.free] s (freshBits a0 s).2 := by
  induction a0 generalizing s with
  | zero => exact Frame.refl
  | succ n ih =>
    have h1 : Frame (some []) [.free] s (s.fresh 1).2 := Frame.refl.fresh rfl
    exact h1.trans ih

theorem execTapSamplePreload_frame {a0 : List Bool} : ∃ t, execTapSamplePreload a0 s = .next t ∧ Frame (some []) [.free, .tap] s t := by
  refine ⟨_, rfl, ?_⟩
  first | split | (clear_value *; split)
  · rename_i x1 e1
    refine Frame.via x1 (Frame.ofSnd e1 ?_) fun h1 => ?_
    · refine Frame.then ?_ freshBits_frame rfl rfl
      refine Frame.then ?_ selectTap_frame rfl rfl
      exact Frame.refl
    refine Frame.tap ?_ rfl (fun _ => trivial)
    exact h1

theorem execTapIdcode_frame  : ∃ t, execTapIdcode s = .next t ∧ Frame (some []) [.tap] s t := by
  refine ⟨_, rfl, ?_⟩
  refine Frame.tap ?_ rfl (fun _ => trivial)
  refine Frame.then ?_ selectTap_frame rfl rfl
  exact Frame.refl

theorem execTapBypass_frame  : ∃ t, execTapBypass s = .next t ∧ Frame (some []) [.tap] s t := by
  refine ⟨_, rfl, ?_⟩
  refine Frame.tap ?_ rfl (fun _ => trivial)
  refine Frame.then ?_ selectTap_frame rfl rfl
  exact Frame.refl

theorem tapAccess_frame {a0 : Nat} {a1 : Nat} {a2 : Bool} {a3 : Word} {a4 : Bool} : Frame none [.bob, .csc, .dram, .dsc, .events, .fab, .free, .glb, .held, .hif, .jobs, .later, .mem, .pwr, .rdo, .resp, .rv, .sec, .spn, .sram, .sup, .syn, .tap, .tln] s (tapAccess a0 a1 a2 a3 a4 s) := by
  unfold tapAccess
  extract_lets -merge -useContext -underBinder +onlyGivenNames x1
  refine Frame.via x1 ?_ fun h1 => ?_
  · unfold x1
    refine Frame.then ?_ selectTap_frame rfl rfl
    exact Frame.refl
  try clear_value x1
  extract_lets -merge -useContext -underBinder +onlyGivenNames w2 x3
  refine Frame.via x3 ?_ fun h3 => ?_
  · unfold x3
    refine Frame.tap ?_ rfl (fun _ => trivial)
    exact h1
  try clear_value x3
  refine Frame.ite (fun _ => ?_) (fun _ => ?_)
  · extract_lets -merge -useContext -underBinder +onlyGivenNames x4
    refine Frame.via x4 ?_ fun h4 => ?_
    · unfold x4
      refine Frame.ite (fun _ => ?_) (fun _ => ?_)
      · refine Frame.then ?_ writeBar0_frame rfl rfl
        exact h3
      · refine Frame.then ?_ readBar0_frame rfl rfl
        exact h3
    try clear_value x4
    extract_lets -merge -useContext -underBinder +onlyGivenNames x5
    refine Frame.via x5 ?_ fun h5 => ?_
    · unfold x5
      refine Frame.resp ?_ rfl (fun _ => trivial)
      exact h4
    try clear_value x5
    refine Frame.ite (fun _ => ?_) (fun _ => ?_)
    · refine Frame.then ?_ tapResult_frame rfl rfl
      exact h5
    · refine Frame.then ?_ tapRefuse_frame rfl rfl
      exact h5
  · refine Frame.then ?_ tapRefuse_frame rfl rfl
    exact h3

theorem execTapSecAcc_frame {a0 : BitVec 26} {a1 : Bool} {a2 : Word} : ∃ t, execTapSecAcc a0 a1 a2 s = .next t ∧ Frame none [.bob, .csc, .dram, .dsc, .events, .fab, .free, .glb, .held, .hif, .jobs, .later, .mem, .pwr, .rdo, .resp, .rv, .sec, .spn, .sram, .sup, .syn, .tap, .tln] s t := by
  refine ⟨_, rfl, ?_⟩
  refine Frame.then ?_ tapAccess_frame rfl rfl
  exact Frame.refl

theorem execTapBar0Acc_frame {a0 : BitVec 26} {a1 : Bool} {a2 : Word} : ∃ t, execTapBar0Acc a0 a1 a2 s = .next t ∧ Frame none [.bob, .csc, .dram, .dsc, .events, .fab, .free, .glb, .held, .hif, .jobs, .later, .mem, .pwr, .rdo, .resp, .rv, .sec, .spn, .sram, .sup, .syn, .tap, .tln] s t := by
  refine ⟨_, rfl, ?_⟩
  refine Frame.then ?_ tapAccess_frame rfl rfl
  exact Frame.refl

theorem tapMemRead_frame {a0 : Bool} {a1 : Nat} : Frame (some [.SEC_EVENT]) [.events, .free, .mem, .sup, .tap] s (tapMemRead a0 a1 s) := by
  unfold tapMemRead
  refine Frame.ite (fun _ => ?_) (fun _ => ?_)
  · refine Frame.ite (fun _ => ?_) (fun _ => ?_)
    · refine Frame.then ?_ tapRefuse_frame rfl rfl
      exact Frame.refl
    · refine Frame.then ?_ holdAccess_frame rfl rfl
      exact Frame.refl
  · refine Frame.ite (fun _ => ?_) (fun _ => ?_)
    · refine Frame.then ?_ tapRefuse_frame rfl rfl
      exact Frame.refl
    · first | split | (clear_value *; split)
      · rename_i x1 e1
        refine Frame.via x1 (Frame.ofSnd e1 ?_) fun h1 => ?_
        · refine Frame.then ?_ readSram_frame rfl rfl
          exact Frame.refl
        refine Frame.then ?_ State.tapDone_frame rfl rfl
        exact h1

theorem execTapMemAcc_frame {a0 : Bool} {a1 : Bool} {a2 : BitVec 64} {a3 : Word} : ∃ t, execTapMemAcc a0 a1 a2 a3 s = .next t ∧ Frame (some [.SEC_EVENT]) [.events, .free, .mem, .sup, .tap] s t := by
  refine ⟨_, rfl, ?_⟩
  extract_lets -merge -useContext -underBinder +onlyGivenNames x1
  refine Frame.via x1 ?_ fun h1 => ?_
  · unfold x1
    refine Frame.then ?_ selectTap_frame rfl rfl
    exact Frame.refl
  try clear_value x1
  extract_lets -merge -useContext -underBinder +onlyGivenNames w2 x3
  refine Frame.via x3 ?_ fun h3 => ?_
  · unfold x3
    refine Frame.tap ?_ rfl (fun _ => trivial)
    exact h1
  try clear_value x3
  refine Frame.ite (fun _ => ?_) (fun _ => ?_)
  · refine Frame.then ?_ tapMemRead_frame rfl rfl
    exact h3
  · refine Frame.then ?_ tapRefuse_frame rfl rfl
    exact h3

end Sys2Proof.Machine
end

