-- ==== Sys2Proof/Laws/Frame/Grants.lean ====
section
/-! SUPPORT. Laws/Frame/Grants.lean: what each operation of Machine/Grants.lean can change, and that it keeps a sound state sound. -/

set_option Elab.async false

namespace Sys2Proof.Machine

variable {R : Option (List RegRow)} {P : List Part} {s t : State}

theorem serveAccess_frame {a0 : HeldAccess} : Frame (some [.CSC_RDMA_STATUS, .HIF_EVENT, .HIF_WR_REF, .HIF_WR_REF_ADDR_HI, .HIF_WR_REF_ADDR_LO, .MEM_DRAM_ERR, .MEM_DRAM_UE_ADDR_HI, .MEM_DRAM_UE_ADDR_LO, .MEM_EVENT, .SEC_EVENT, .SEC_STATUS]) [.csc, .dram, .events, .free, .mem, .resp, .sup, .tap] s (serveAccess a0 s) := by
  unfold serveAccess
  first | split | (clear_value *; split)
  · refine Frame.then ?_ writeDram_frame rfl rfl
    exact Frame.refl
  · first | split | (clear_value *; split)
    · rename_i x1 e1
      refine Frame.via x1 (Frame.ofSnd e1 ?_) fun h1 => ?_
      · refine Frame.then ?_ dramFinds_frame rfl rfl
        exact Frame.refl
      first | split | (clear_value *; split)
      · rename_i x2 e2
        refine Frame.via x2 (Frame.ofSnd e2 ?_) fun h2 => ?_
        · refine Frame.then ?_ readDram_frame rfl rfl
          refine Frame.raiseIf ?_ (inRows_of (r := .MEM_EVENT) rfl (by exact rfl)) rfl
          exact h1
        refine Frame.then ?_ State.giveBytes_frame rfl rfl
        exact h2
  · first | split | (clear_value *; split)
    · rename_i x3 e3
      refine Frame.via x3 (Frame.ofSnd e3 ?_) fun h3 => ?_
      · refine Frame.then ?_ dramFinds_frame rfl rfl
        exact Frame.refl
      refine Frame.ite (fun _ => ?_) (fun _ => ?_)
      · first | split | (clear_value *; split)
        · rename_i x4 e4
          refine Frame.via x4 (Frame.ofSnd e4 ?_) fun h4 => ?_
          · refine Frame.fresh ?_ rfl
            exact h3
          refine Frame.then ?_ State.tapDone_frame rfl rfl
          exact h4
      · first | split | (clear_value *; split)
        · rename_i x5 e5
          refine Frame.via x5 (Frame.ofSnd e5 ?_) fun h5 => ?_
          · refine Frame.then ?_ readDram_frame rfl rfl
            exact h3
          refine Frame.then ?_ State.tapDone_frame rfl rfl
          exact h5
  · extract_lets -merge -useContext -underBinder +onlyGivenNames v6 v7
    refine Frame.then ?_ sendCpl_frame rfl rfl
    refine Frame.then ?_ writeDram_frame rfl rfl
    exact Frame.refl
  · refine Frame.then ?_ rdmaSend_frame rfl rfl
    exact Frame.refl

theorem serveHeld_frame {a0 : List (Nat × HeldAccess)} : Frame (some [.CSC_RDMA_STATUS, .HIF_EVENT, .HIF_WR_REF, .HIF_WR_REF_ADDR_HI, .HIF_WR_REF_ADDR_LO, .MEM_DRAM_ERR, .MEM_DRAM_UE_ADDR_HI, .MEM_DRAM_UE_ADDR_LO, .MEM_EVENT, .SEC_EVENT, .SEC_STATUS]) [.csc, .dram, .events, .free, .mem, .resp, .sup, .tap] s (serveHeld a0 s) := by
  induction a0 generalizing s with
  | nil => exact Frame.refl
  | cons p l ih =>
    obtain ⟨id, a⟩ := p
    unfold serveHeld
    refine Frame.ite (fun _ => Frame.refl) (fun _ => ?_)
    refine Frame.trans ?_ ih
    refine Frame.then ?_ serveAccess_frame rfl rfl
    exact Frame.mem Frame.refl rfl fun h => h

theorem serveDram_frame  : Frame (some [.CSC_RDMA_STATUS, .HIF_EVENT, .HIF_WR_REF, .HIF_WR_REF_ADDR_HI, .HIF_WR_REF_ADDR_LO, .MEM_DRAM_ERR, .MEM_DRAM_UE_ADDR_HI, .MEM_DRAM_UE_ADDR_LO, .MEM_EVENT, .SEC_EVENT, .SEC_STATUS]) [.csc, .dram, .events, .free, .mem, .resp, .sup, .tap] s (serveDram s) := by
  unfold serveDram
  refine Frame.ite (fun _ => ?_) (fun _ => ?_)
  · refine Frame.then ?_ serveHeld_frame rfl rfl
    refine Frame.resp ?_ rfl (fun _ => trivial)
    exact Frame.refl
  · exact Frame.refl

theorem dramInit_frame  : Frame (some [.CSC_RDMA_STATUS, .HIF_EVENT, .HIF_WR_REF, .HIF_WR_REF_ADDR_HI, .HIF_WR_REF_ADDR_LO, .MEM_DRAM_ERR, .MEM_DRAM_UE_ADDR_HI, .MEM_DRAM_UE_ADDR_LO, .MEM_EVENT, .MEM_STATUS, .SEC_EVENT, .SEC_STATUS]) [.csc, .dram, .events, .free, .mem, .resp, .sec, .sup, .tap] s (dramInit s) := by
  unfold dramInit
  refine Frame.ite (fun _ => ?_) (fun _ => ?_)
  · refine Frame.then ?_ guardImage_frame rfl rfl
    refine Frame.then ?_ serveDram_frame rfl rfl
    refine Frame.raise ?_ (inRows_of (r := .MEM_EVENT) rfl (by exact rfl)) rfl
    refine Frame.put ?_ (inRows_of (r := .MEM_STATUS) rfl (by exact rfl))
    exact Frame.refl
  · exact Frame.refl

theorem execDramInit_frame  : ∃ t, execDramInit s = .next t ∧ Frame (some [.CSC_RDMA_STATUS, .HIF_EVENT, .HIF_WR_REF, .HIF_WR_REF_ADDR_HI, .HIF_WR_REF_ADDR_LO, .MEM_DRAM_ERR, .MEM_DRAM_UE_ADDR_HI, .MEM_DRAM_UE_ADDR_LO, .MEM_EVENT, .MEM_STATUS, .SEC_EVENT, .SEC_STATUS]) [.csc, .dram, .events, .free, .mem, .resp, .sec, .sup, .tap] s t := by
  refine ⟨_, rfl, ?_⟩
  refine Frame.then ?_ dramInit_frame rfl rfl
  exact Frame.refl

theorem execDramRequestDone_frame {a0 : List (Fin 4)} : ∃ t, execDramRequestDone a0 s = .next t ∧ Frame (some [.CSC_RDMA_STATUS, .HIF_EVENT, .HIF_WR_REF, .HIF_WR_REF_ADDR_HI, .HIF_WR_REF_ADDR_LO, .MEM_CLS_COUNT, .MEM_CLS_MAXLAT, .MEM_DRAM_ERR, .MEM_DRAM_UE_ADDR_HI, .MEM_DRAM_UE_ADDR_LO, .MEM_EVENT, .SEC_EVENT, .SEC_STATUS]) [.csc, .dram, .events, .free, .mem, .resp, .sup, .tap] s t := by
  refine ⟨_, rfl, ?_⟩
  refine Frame.then ?_ serveDram_frame rfl rfl
  refine Frame.then ?_ dramGrants_frame rfl rfl
  exact Frame.refl

end Sys2Proof.Machine
end

