-- ==== Sys2Proof/Laws/Frame/Load.lean ====
section
/-! SUPPORT. Laws/Frame/Load.lean: what each operation of Machine/Load.lean can change, and that it keeps a sound state sound. -/

set_option Elab.async false

namespace Sys2Proof.Machine

variable {R : Option (List RegRow)} {P : List Part} {s t : State}

theorem applyRecord_frame {a0 : Nat} {a1 : Word} : Frame none [.bob, .csc, .dram, .dsc, .events, .fab, .free, .glb, .held, .hif, .jobs, .later, .mem, .pwr, .rdo, .resp, .rv, .sec, .spn, .sram, .sup, .syn, .tap, .tln] s (applyRecord a0 a1 s) := by
  unfold applyRecord
  refine Frame.ite (fun _ => ?_) (fun _ => ?_)
  · refine Frame.wr ?_ (by exact trivial)
    exact Frame.refl
  · refine Frame.then ?_ writeBar0_frame rfl rfl
    exact Frame.refl

theorem applyRecords_frame {a0 : Nat} {a1 : Nat} {a2 : List Byte} : Frame none [.bob, .csc, .dram, .dsc, .events, .fab, .free, .glb, .held, .hif, .jobs, .later, .mem, .pwr, .rdo, .resp, .rv, .sec, .spn, .sram, .sup, .syn, .tap, .tln] s (applyRecords a0 a1 a2 s).2 := by
  induction a1 generalizing a2 s with
  | zero => exact Frame.refl
  | succ n ih =>
    unfold applyRecords
    extract_lets off v
    split
    · exact applyRecord_frame.trans ih
    · exact Frame.refl

theorem applySection_frame {a0 : Nat} {a1 : Nat} {a2 : Bool} {a3 : List Byte} {a4 : Gathered} : Frame none [.bob, .csc, .dram, .dsc, .events, .fab, .free, .glb, .held, .hif, .jobs, .later, .mem, .pwr, .rdo, .resp, .rv, .sec, .spn, .sram, .sup, .syn, .tap, .tln] s (applySection a0 a1 a2 a3 a4 s).2 := by
  unfold applySection
  extract_lets -merge -useContext -underBinder +onlyGivenNames v1
  first | split | (clear_value *; split)
  · split
    · exact Frame.refl
    · first | split | (clear_value *; split)
      · rename_i x2 e2
        refine Frame.via x2 (Frame.ofSnd e2 ?_) fun h2 => ?_
        · refine Frame.then ?_ applyRecords_frame rfl rfl
          exact Frame.refl
        exact h2
  · extract_lets -merge -useContext -underBinder +onlyGivenNames v3
    split
    · exact Frame.refl
    · first | split | (clear_value *; split)
      · exact Frame.refl
      · split
        · exact Frame.refl
        · refine Frame.putSramBytes ?_ rfl
          exact Frame.refl
  · extract_lets -merge -useContext -underBinder +onlyGivenNames v4
    split
    · exact Frame.refl
    · split
      · exact Frame.refl
      · extract_lets -merge -useContext -underBinder +onlyGivenNames v5
        refine Frame.then ?_ blockWriteDram_frame rfl rfl
        exact Frame.refl
  · extract_lets -merge -useContext -underBinder +onlyGivenNames v6 v7
    split
    · exact Frame.refl
    · split
      · exact Frame.refl
      · exact Frame.refl
  · split
    · exact Frame.refl
    · exact Frame.refl
  · extract_lets -merge -useContext -underBinder +onlyGivenNames v8
    split
    · exact Frame.refl
    · exact Frame.refl
  · split
    · exact Frame.refl
    · exact Frame.refl
  · split
    · exact Frame.refl
    · exact Frame.refl

theorem applySections_frame {a0 : Nat} {a1 : Nat} {a2 : List Byte} {a3 : Gathered} : Frame none [.bob, .csc, .dram, .dsc, .events, .fab, .free, .glb, .held, .hif, .jobs, .later, .mem, .pwr, .rdo, .resp, .rv, .sec, .spn, .sram, .sup, .syn, .tap, .tln] s (applySections a0 a1 a2 a3 s).2 := by
  induction a0 generalizing a1 a2 a3 s with
  | zero => exact Frame.refl
  | succ n ih =>
    unfold applySections
    extract_lets len total
    split
    · exact Frame.refl
    · dsimp only
      split
      · exact applySection_frame
      · exact applySection_frame.trans ih

theorem applyImage_frame {a0 : Nat} : Frame none [.bob, .csc, .dram, .dsc, .events, .fab, .free, .glb, .held, .hif, .jobs, .later, .mem, .pwr, .rdo, .resp, .rv, .sec, .spn, .sram, .sup, .syn, .tap, .tln] s (applyImage a0 s).2 := by
  unfold applyImage
  extract_lets -merge -useContext -underBinder +onlyGivenNames v1 v2 v3
  split
  · first | split | (clear_value *; split)
    · rename_i x4 e4
      refine Frame.via x4 (Frame.ofSnd e4 ?_) fun h4 => ?_
      · refine Frame.then ?_ applySections_frame rfl rfl
        exact Frame.refl
      exact h4
  · extract_lets -merge -useContext -underBinder +onlyGivenNames w5 x6
    refine Frame.via x6 ?_ fun h6 => ?_
    · unfold x6
      refine Frame.sec ?_ rfl (fun _ => trivial)
      exact Frame.refl
    try clear_value x6
    first | split | (clear_value *; split)
    · extract_lets -merge -useContext -underBinder +onlyGivenNames v7 v8
      first | split | (clear_value *; split)
      · rename_i x9 e9
        refine Frame.via x9 (Frame.ofSnd e9 ?_) fun h9 => ?_
        · refine Frame.then ?_ applySections_frame rfl rfl
          exact h6
        exact h9
    · exact h6

theorem runLoad_frame  : Frame none [.bob, .csc, .dram, .dsc, .events, .fab, .free, .glb, .held, .hif, .jobs, .later, .mem, .pwr, .rdo, .resp, .rv, .sec, .spn, .sram, .sup, .syn, .tap, .tln] s (runLoad s).2 := by
  unfold runLoad
  first | split | (clear_value *; split)
  · extract_lets -merge -useContext -underBinder +onlyGivenNames v1
    first | split | (clear_value *; split)
    · rename_i x2 e2
      refine Frame.via x2 (Frame.ofSnd e2 ?_) fun h2 => ?_
      · refine Frame.then ?_ applyImage_frame rfl rfl
        exact Frame.refl
      refine Frame.resp ?_ rfl (fun _ => trivial)
      exact h2
  · exact Frame.refl

theorem completeLoad_frame {a0 : Nat} {a1 : Nat} {a2 : Gathered} : Frame none [.bob, .csc, .dram, .dsc, .events, .fab, .free, .glb, .jobs, .later, .mem, .pwr, .rdo, .rv, .sec, .spn, .sram, .sup, .syn, .tap, .tln] s (completeLoad a0 a1 a2 s) := by
  unfold completeLoad
  first | split | (clear_value *; split)
  · extract_lets -merge -useContext -underBinder +onlyGivenNames x1
    refine Frame.via x1 ?_ fun h1 => ?_
    · unfold x1
      refine Frame.put ?_ (inRows_of (r := .SEC_STATUS) rfl (by exact rfl))
      refine Frame.put ?_ (inRows_of (r := .SEC_LOAD_STATUS) rfl (by exact rfl))
      exact Frame.refl
    try clear_value x1
    extract_lets -merge -useContext -underBinder +onlyGivenNames x2
    refine Frame.via x2 ?_ fun h2 => ?_
    · unfold x2
      refine Frame.put ?_ (inRows_of (r := .SEC_STATUS) rfl (by exact rfl))
      refine Frame.put ?_ (inRows_of (r := .SEC_STATUS) rfl (by exact rfl))
      refine Frame.put ?_ (inRows_of (r := .SEC_STATUS) rfl (by exact rfl))
      exact h1
    try clear_value x2
    extract_lets -merge -useContext -underBinder +onlyGivenNames x3
    refine Frame.via x3 ?_ fun h3 => ?_
    · unfold x3
      refine Frame.raise ?_ (inRows_of (r := .SEC_EVENT) rfl (by exact rfl)) rfl
      refine Frame.put ?_ (inRows_of (r := .SEC_STATUS) rfl (by exact rfl))
      exact h2
    try clear_value x3
    extract_lets -merge -useContext -underBinder +onlyGivenNames v4
    refine Frame.then ?_ enterMode_frame rfl rfl
    refine Frame.sec ?_ rfl (fun _ => trivial)
    exact h3

theorem loadApplies_frame {a0 : Nat} : Frame (some [.SEC_LOAD_STATUS]) [.later, .sec] s (loadApplies a0 s) := by
  unfold loadApplies
  refine Frame.ite (fun _ => ?_) (fun _ => ?_)
  · refine Frame.ite (fun _ => ?_) (fun _ => ?_)
    · refine Frame.later ?_ rfl (fun _ => trivial)
      exact Frame.refl
    · refine Frame.ite (fun _ => ?_) (fun _ => ?_)
      · extract_lets -merge -useContext -underBinder +onlyGivenNames v1 x2
        refine Frame.via x2 ?_ fun h2 => ?_
        · unfold x2
          refine Frame.put ?_ (inRows_of (r := .SEC_LOAD_STATUS) rfl (by exact rfl))
          exact Frame.refl
        try clear_value x2
        refine Frame.sec ?_ rfl (fun _ => trivial)
        exact h2
      · exact Frame.refl
  · exact Frame.refl

theorem execLoadOk_frame  : ∃ t, execLoadOk s = .next t ∧ Frame none [.bob, .csc, .dram, .dsc, .events, .fab, .free, .glb, .held, .hif, .jobs, .later, .mem, .pwr, .rdo, .resp, .rv, .sec, .spn, .sram, .sup, .syn, .tap, .tln] s t := by
  refine ⟨_, rfl, ?_⟩
  refine Frame.ite (fun _ => ?_) (fun _ => ?_)
  · extract_lets -merge -useContext -underBinder +onlyGivenNames v1
    first | split | (clear_value *; split)
    · first | (rename_i x2 e2; refine Frame.via x2 (Frame.ofSnd e2 ?_) fun h2 => ?_) | (rename_i x2 n2 e2; refine Frame.via x2 (Frame.ofSnd e2 ?_) fun h2 => ?_)
      · refine Frame.then ?_ runLoad_frame rfl rfl
        exact Frame.refl
      refine Frame.then ?_ completeLoad_frame rfl rfl
      exact h2
    · exact Frame.refl
  · exact Frame.refl

theorem execLoadFail_frame {a0 : Option (BitVec 37)} : ∃ t, execLoadFail a0 s = .next t ∧ Frame none [.bob, .csc, .dram, .dsc, .events, .fab, .free, .glb, .held, .hif, .jobs, .later, .mem, .pwr, .rdo, .resp, .rv, .sec, .spn, .sram, .sup, .syn, .tap, .tln] s t := by
  refine ⟨_, rfl, ?_⟩
  refine Frame.ite (fun _ => ?_) (fun _ => ?_)
  · extract_lets -merge -useContext -underBinder +onlyGivenNames x1
    refine Frame.via x1 ?_ fun h1 => ?_
    · unfold x1
      first | split | (clear_value *; split)
      · refine Frame.mem ?_ rfl (by first | exact id | exact fun h => ⟨(by first | exact h.1 | exact sparseWf_sset h.1 | exact sparseWf_nil | exact sparseWf_filter h.1 | exact sparseWf_smap h.1 | exact sparseWf_sdrop h.1 | exact sparseWf_sset (sparseWf_sset h.1) | exact sparseWf_fold sparseWf_nil | (dsimp only; exact sparseWf_smap h.1)), (by first | exact h.2.1 | exact sparseWf_sset h.2.1 | exact sparseWf_nil | exact sparseWf_filter h.2.1 | exact sparseWf_smap h.2.1 | exact sparseWf_sdrop h.2.1 | exact sparseWf_sset (sparseWf_sset h.2.1) | exact sparseWf_fold sparseWf_nil | (dsimp only; exact sparseWf_smap h.2.1)), (by first | exact h.2.2.1 | exact sparseWf_sset h.2.2.1 | exact sparseWf_nil | exact sparseWf_filter h.2.2.1 | exact sparseWf_smap h.2.2.1 | exact sparseWf_sdrop h.2.2.1 | exact sparseWf_sset (sparseWf_sset h.2.2.1) | exact sparseWf_fold sparseWf_nil | (dsimp only; exact sparseWf_smap h.2.2.1)), (by first | exact h.2.2.2 | exact sparseWf_sset h.2.2.2 | exact sparseWf_nil | exact sparseWf_filter h.2.2.2 | exact sparseWf_smap h.2.2.2 | exact sparseWf_sdrop h.2.2.2 | exact sparseWf_sset (sparseWf_sset h.2.2.2) | exact sparseWf_fold sparseWf_nil | (dsimp only; exact sparseWf_smap h.2.2.2))⟩)
        exact Frame.refl
      · exact Frame.refl
    try clear_value x1
    first | split | (clear_value *; split)
    · first | (rename_i x2 e2; refine Frame.via x2 (Frame.ofSnd e2 ?_) fun h2 => ?_) | (rename_i x2 n2 e2; refine Frame.via x2 (Frame.ofSnd e2 ?_) fun h2 => ?_)
      · refine Frame.then ?_ runLoad_frame rfl rfl
        exact h1
      exact Frame.refl
    · first | (rename_i x3 e3; refine Frame.via x3 (Frame.ofSnd e3 ?_) fun h3 => ?_) | (rename_i x3 n3 e3; refine Frame.via x3 (Frame.ofSnd e3 ?_) fun h3 => ?_)
      · refine Frame.then ?_ runLoad_frame rfl rfl
        exact h1
      extract_lets -merge -useContext -underBinder +onlyGivenNames w4 x5
      refine Frame.via x5 ?_ fun h5 => ?_
      · unfold x5
        refine Frame.sec ?_ rfl (fun _ => trivial)
        exact h3
      try clear_value x5
      extract_lets -merge -useContext -underBinder +onlyGivenNames x6
      refine Frame.via x6 ?_ fun h6 => ?_
      · unfold x6
        first | split | (clear_value *; split)
        · refine Frame.ite (fun _ => ?_) (fun _ => ?_)
          · refine Frame.then ?_ dramUe_frame rfl rfl
            exact h5
          · exact h5
        · exact h5
      try clear_value x6
      refine Frame.then ?_ beginClearing_frame rfl rfl
      refine Frame.then ?_ failLoad_frame rfl rfl
      exact h6
  · exact Frame.refl

end Sys2Proof.Machine
end

