-- ==== Sys2Proof/Laws/Frame/Outputs.lean ====
section
/-! SUPPORT. Laws/Frame/Outputs.lean: what each operation of Machine/Outputs.lean can change, and that it keeps a sound state sound. -/

set_option Elab.async false

namespace Sys2Proof.Machine

variable {R : Option (List RegRow)} {P : List Part} {s t : State}

theorem takeNotice_frame {a0 : Nat} : Frame (some [.SUP_EVENT, .SUP_MON_STATUS]) [.events, .sup] s (takeNotice a0 s) := by
  unfold takeNotice
  extract_lets -merge -useContext -underBinder +onlyGivenNames v1 v2
  refine Frame.ite (fun _ => ?_) (fun _ => ?_)
  · refine Frame.report ?_ rfl
    refine Frame.raise ?_ (inRows_of (r := .SUP_EVENT) rfl (by exact rfl)) rfl
    refine Frame.count ?_ (inRows_of (r := .SUP_MON_STATUS) rfl (by exact ⟨_, rfl⟩))
    exact Frame.refl
  · refine Frame.then ?_ State.setMon_frame rfl rfl
    exact Frame.refl

theorem blankNotice_frame {a0 : Nat} : Frame (some [.SUP_EVENT, .SUP_MON_STATUS]) [.events, .sup] s (blankNotice a0 s) := by
  unfold blankNotice
  extract_lets -merge -useContext -underBinder +onlyGivenNames w1 x2
  refine Frame.via x2 ?_ fun h2 => ?_
  · unfold x2
    refine Frame.sup ?_ rfl (fun h => ⟨(by first | exact h.1 | exact sparseWf_sset h.1 | exact sparseWf_nil | exact sparseWf_filter h.1 | exact sparseWf_smap h.1 | exact sparseWf_sdrop h.1 | exact sparseWf_sset (sparseWf_sset h.1) | exact sparseWf_fold sparseWf_nil | (dsimp only; exact sparseWf_smap h.1)), (by first | exact h.2.1 | exact sparseWf_sset h.2.1 | exact sparseWf_nil | exact sparseWf_filter h.2.1 | exact sparseWf_smap h.2.1 | exact sparseWf_sdrop h.2.1 | exact sparseWf_sset (sparseWf_sset h.2.1) | exact sparseWf_fold sparseWf_nil | (dsimp only; exact sparseWf_smap h.2.1)), (by first | exact h.2.2.1 | exact sparseWf_sset h.2.2.1 | exact sparseWf_nil | exact sparseWf_filter h.2.2.1 | exact sparseWf_smap h.2.2.1 | exact sparseWf_sdrop h.2.2.1 | exact sparseWf_sset (sparseWf_sset h.2.2.1) | exact sparseWf_fold sparseWf_nil | (dsimp only; exact sparseWf_smap h.2.2.1)), (by first | exact h.2.2.2.1 | exact sparseWf_sset h.2.2.2.1 | exact sparseWf_nil | exact sparseWf_filter h.2.2.2.1 | exact sparseWf_smap h.2.2.2.1 | exact sparseWf_sdrop h.2.2.2.1 | exact sparseWf_sset (sparseWf_sset h.2.2.2.1) | exact sparseWf_fold sparseWf_nil | (dsimp only; exact sparseWf_smap h.2.2.2.1)), (by first | exact h.2.2.2.2.1 | exact sparseWf_sset h.2.2.2.2.1 | exact sparseWf_nil | exact sparseWf_filter h.2.2.2.2.1 | exact sparseWf_smap h.2.2.2.2.1 | exact sparseWf_sdrop h.2.2.2.2.1 | exact sparseWf_sset (sparseWf_sset h.2.2.2.2.1) | exact sparseWf_fold sparseWf_nil | (dsimp only; exact sparseWf_smap h.2.2.2.2.1)), (by first | exact h.2.2.2.2.2 | exact sparseWf_sset h.2.2.2.2.2 | exact sparseWf_nil | exact sparseWf_filter h.2.2.2.2.2 | exact sparseWf_smap h.2.2.2.2.2 | exact sparseWf_sdrop h.2.2.2.2.2 | exact sparseWf_sset (sparseWf_sset h.2.2.2.2.2) | exact sparseWf_fold sparseWf_nil | (dsimp only; exact sparseWf_smap h.2.2.2.2.2))⟩)
    exact Frame.refl
  try clear_value x2
  refine Frame.ite (fun _ => ?_) (fun _ => ?_)
  · refine Frame.then ?_ takeNotice_frame rfl rfl
    exact h2
  · exact h2

theorem presetNco_frame {a0 : Nat} {a1 : Nat} {a2 : Nat} : Frame (some []) [.spn] s (presetNco a0 a1 a2 s).2 := by
  unfold presetNco
  extract_lets -merge -useContext -underBinder +onlyGivenNames v1
  split
  · extract_lets -merge -useContext -underBinder +onlyGivenNames x2
    refine Frame.via x2 ?_ fun h2 => ?_
    · unfold x2
      refine Frame.then ?_ State.setShadow_frame rfl rfl
      exact Frame.refl
    try clear_value x2
    extract_lets -merge -useContext -underBinder +onlyGivenNames v3
    exact h2
  · exact Frame.refl

theorem sendFirstSample_frame {a0 : Nat} {a1 : Bool} {a2 : Option (Option Nco)} : Frame (some []) [.later] s (sendFirstSample a0 a1 a2 s) := by
  unfold sendFirstSample
  refine Frame.ite (fun _ => ?_) (fun _ => ?_)
  · refine Frame.later ?_ rfl (fun _ => trivial)
    exact Frame.refl
  · exact Frame.refl

theorem plsWord_frame {a0 : Nat} {a1 : Nat} {a2 : Nat} {a3 : Nat} {a4 : Nat} {a5 : Nat} {a6 : Nat} {a7 : BitVec 1} {a8 : Nat} : Frame (some [.SPN_EVENT, .SPN_STATUS, .STM_EVENT, .STM_TGT_EVENT, .STM_TGT_PASS, .STM_TGT_STATUS, .SUP_EVENT, .SUP_MON_STATUS]) [.events, .later, .pwr, .spn, .sup, .syn] s (plsWord a0 a1 a2 a3 a4 a5 a6 a7 a8 s) := by
  unfold plsWord
  extract_lets -merge -useContext -underBinder +onlyGivenNames v1 v2 v3 x4
  refine Frame.via x4 ?_ fun h4 => ?_
  · unfold x4
    refine Frame.then ?_ takeUp_frame rfl rfl
    exact Frame.refl
  try clear_value x4
  extract_lets -merge -useContext -underBinder +onlyGivenNames x5
  refine Frame.via x5 ?_ fun h5 => ?_
  · unfold x5
    refine Frame.then ?_ dropJump_frame rfl rfl
    exact h4
  try clear_value x5
  first | split | (clear_value *; split)
  · rename_i x6 e6
    refine Frame.via x6 (Frame.ofSnd e6 ?_) fun h6 => ?_
    · refine Frame.then ?_ presetNco_frame rfl rfl
      exact h5
    extract_lets -merge -useContext -underBinder +onlyGivenNames x7
    refine Frame.via x7 ?_ fun h7 => ?_
    · unfold x7
      refine Frame.then ?_ sendFirstSample_frame rfl rfl
      exact h6
    try clear_value x7
    extract_lets -merge -useContext -underBinder +onlyGivenNames v8 w9 x10
    refine Frame.via x10 ?_ fun h10 => ?_
    · unfold x10
      refine Frame.then ?_ State.setTgt_frame rfl rfl
      exact h7
    try clear_value x10
    extract_lets -merge -useContext -underBinder +onlyGivenNames x11
    refine Frame.via x11 ?_ fun h11 => ?_
    · unfold x11
      refine Frame.then ?_ followTriggers_frame rfl rfl
      exact h10
    try clear_value x11
    extract_lets -merge -useContext -underBinder +onlyGivenNames w12 x13
    refine Frame.via x13 ?_ fun h13 => ?_
    · unfold x13
      refine Frame.ite (fun _ => ?_) (fun _ => ?_)
      · refine Frame.pwr ?_ rfl (by first | exact id | exact fun h => ⟨(by first | exact h.1 | exact sparseWf_sset h.1 | exact sparseWf_nil | exact sparseWf_filter h.1 | exact sparseWf_smap h.1 | exact sparseWf_sdrop h.1 | exact sparseWf_sset (sparseWf_sset h.1) | exact sparseWf_fold sparseWf_nil | (dsimp only; exact sparseWf_smap h.1)), (by first | exact h.2.1 | exact sparseWf_sset h.2.1 | exact sparseWf_nil | exact sparseWf_filter h.2.1 | exact sparseWf_smap h.2.1 | exact sparseWf_sdrop h.2.1 | exact sparseWf_sset (sparseWf_sset h.2.1) | exact sparseWf_fold sparseWf_nil | (dsimp only; exact sparseWf_smap h.2.1)), (by first | exact h.2.2.1 | exact sparseWf_sset h.2.2.1 | exact sparseWf_nil | exact sparseWf_filter h.2.2.1 | exact sparseWf_smap h.2.2.1 | exact sparseWf_sdrop h.2.2.1 | exact sparseWf_sset (sparseWf_sset h.2.2.1) | exact sparseWf_fold sparseWf_nil | (dsimp only; exact sparseWf_smap h.2.2.1)), (by first | exact h.2.2.2.1 | exact sparseWf_sset h.2.2.2.1 | exact sparseWf_nil | exact sparseWf_filter h.2.2.2.1 | exact sparseWf_smap h.2.2.2.1 | exact sparseWf_sdrop h.2.2.2.1 | exact sparseWf_sset (sparseWf_sset h.2.2.2.1) | exact sparseWf_fold sparseWf_nil | (dsimp only; exact sparseWf_smap h.2.2.2.1)), (by first | exact h.2.2.2.2 | exact sparseWf_sset h.2.2.2.2 | exact sparseWf_nil | exact sparseWf_filter h.2.2.2.2 | exact sparseWf_smap h.2.2.2.2 | exact sparseWf_sdrop h.2.2.2.2 | exact sparseWf_sset (sparseWf_sset h.2.2.2.2) | exact sparseWf_fold sparseWf_nil | (dsimp only; exact sparseWf_smap h.2.2.2.2))⟩)
        exact h11
      · exact h11
    try clear_value x13
    refine Frame.then ?_ oneTick_frame rfl rfl
    first | split | (clear_value *; split)
    · refine Frame.then ?_ blankNotice_frame rfl rfl
      exact h13
    · exact h13

theorem execOpPls_frame {a0 : Fin 64} : ∃ t, execOpPls a0 s = .next t ∧ Frame (some [.SPN_EVENT, .SPN_STATUS, .STM_EVENT, .STM_TGT_EVENT, .STM_TGT_PASS, .STM_TGT_STATUS, .SUP_EVENT, .SUP_MON_STATUS]) [.events, .later, .pwr, .spn, .sup, .syn] s t := by
  refine ⟨_, rfl, ?_⟩
  refine runWord_frame ?_ rfl rfl (fun m act hm x hx => ?_)
  · exact Frame.refl
  · split at hm
    · cases hm
      try dsimp -zeta only
      refine Frame.then ?_ plsWord_frame rfl rfl
      exact hx
    · cases hm

theorem jreqWord_frame {a0 : Nat} {a1 : Nat} {a2 : Nat} {a3 : Nat} : Frame (some [.SPN_EVENT, .SPN_STATUS]) [.events, .later, .spn, .sup] s (jreqWord a0 a1 a2 a3 s) := by
  unfold jreqWord
  refine Frame.then ?_ oneTick_frame rfl rfl
  refine Frame.later ?_ rfl (fun _ => trivial)
  exact Frame.refl

theorem execOpJreq_frame {a0 : Fin 64} : ∃ t, execOpJreq a0 s = .next t ∧ Frame (some [.SPN_EVENT, .SPN_STATUS]) [.events, .later, .spn, .sup] s t := by
  refine ⟨_, rfl, ?_⟩
  refine runWord_frame ?_ rfl rfl (fun m act hm x hx => ?_)
  · exact Frame.refl
  · split at hm
    · cases hm
      try dsimp -zeta only
      refine Frame.then ?_ jreqWord_frame rfl rfl
      exact hx
    · cases hm

theorem biasWord_frame {a0 : Nat} {a1 : Nat} {a2 : Nat} {a3 : Nat} {a4 : Nat} : Frame (some [.SPN_EVENT, .SPN_STATUS, .SUP_EVENT, .SUP_MON_STATUS, .SYN_BIA_TARGET]) [.events, .spn, .sup, .syn] s (biasWord a0 a1 a2 a3 a4 s) := by
  unfold biasWord
  extract_lets -merge -useContext -underBinder +onlyGivenNames v1 v2 x3
  refine Frame.via x3 ?_ fun h3 => ?_
  · unfold x3
    refine Frame.put ?_ (inRows_of (r := .SYN_BIA_TARGET) rfl (by exact ⟨_, rfl⟩))
    exact Frame.refl
  try clear_value x3
  extract_lets -merge -useContext -underBinder +onlyGivenNames w4 x5
  refine Frame.via x5 ?_ fun h5 => ?_
  · unfold x5
    refine Frame.syn ?_ rfl (fun h => ⟨(by first | exact h.1 | exact sparseWf_sset h.1 | exact sparseWf_nil | exact sparseWf_filter h.1 | exact sparseWf_smap h.1 | exact sparseWf_sdrop h.1 | exact sparseWf_sset (sparseWf_sset h.1) | exact sparseWf_fold sparseWf_nil | (dsimp only; exact sparseWf_smap h.1)), (by first | exact h.2.1 | exact sparseWf_sset h.2.1 | exact sparseWf_nil | exact sparseWf_filter h.2.1 | exact sparseWf_smap h.2.1 | exact sparseWf_sdrop h.2.1 | exact sparseWf_sset (sparseWf_sset h.2.1) | exact sparseWf_fold sparseWf_nil | (dsimp only; exact sparseWf_smap h.2.1)), (by first | exact h.2.2.1 | exact sparseWf_sset h.2.2.1 | exact sparseWf_nil | exact sparseWf_filter h.2.2.1 | exact sparseWf_smap h.2.2.1 | exact sparseWf_sdrop h.2.2.1 | exact sparseWf_sset (sparseWf_sset h.2.2.1) | exact sparseWf_fold sparseWf_nil | (dsimp only; exact sparseWf_smap h.2.2.1)), (by first | exact h.2.2.2.1 | exact sparseWf_sset h.2.2.2.1 | exact sparseWf_nil | exact sparseWf_filter h.2.2.2.1 | exact sparseWf_smap h.2.2.2.1 | exact sparseWf_sdrop h.2.2.2.1 | exact sparseWf_sset (sparseWf_sset h.2.2.2.1) | exact sparseWf_fold sparseWf_nil | (dsimp only; exact sparseWf_smap h.2.2.2.1)), (by first | exact h.2.2.2.2.1 | exact sparseWf_sset h.2.2.2.2.1 | exact sparseWf_nil | exact sparseWf_filter h.2.2.2.2.1 | exact sparseWf_smap h.2.2.2.2.1 | exact sparseWf_sdrop h.2.2.2.2.1 | exact sparseWf_sset (sparseWf_sset h.2.2.2.2.1) | exact sparseWf_fold sparseWf_nil | (dsimp only; exact sparseWf_smap h.2.2.2.2.1)), (by first | exact h.2.2.2.2.2 | exact sparseWf_sset h.2.2.2.2.2 | exact sparseWf_nil | exact sparseWf_filter h.2.2.2.2.2 | exact sparseWf_smap h.2.2.2.2.2 | exact sparseWf_sdrop h.2.2.2.2.2 | exact sparseWf_sset (sparseWf_sset h.2.2.2.2.2) | exact sparseWf_fold sparseWf_nil | (dsimp only; exact sparseWf_smap h.2.2.2.2.2))⟩)
    exact h3
  try clear_value x5
  refine Frame.then ?_ oneTick_frame rfl rfl
  refine Frame.then ?_ blankNotice_frame rfl rfl
  exact h5

theorem execOpBias_frame {a0 : Fin 64} : ∃ t, execOpBias a0 s = .next t ∧ Frame (some [.SPN_EVENT, .SPN_STATUS, .SUP_EVENT, .SUP_MON_STATUS, .SYN_BIA_TARGET]) [.events, .spn, .sup, .syn] s t := by
  refine ⟨_, rfl, ?_⟩
  refine runWord_frame ?_ rfl rfl (fun m act hm x hx => ?_)
  · exact Frame.refl
  · split at hm
    · cases hm
      try dsimp -zeta only
      refine Frame.then ?_ biasWord_frame rfl rfl
      exact hx
    · cases hm

theorem mrkWord_frame {a0 : Nat} {a1 : Nat} {a2 : Nat} {a3 : BitVec 1} {a4 : Nat} {a5 : Nat} : Frame (some [.SPN_EVENT, .SPN_STATUS]) [.events, .later, .spn, .sup] s (mrkWord a0 a1 a2 a3 a4 a5 s) := by
  unfold mrkWord
  extract_lets -merge -useContext -underBinder +onlyGivenNames v1
  refine Frame.then ?_ oneTick_frame rfl rfl
  refine Frame.ite (fun _ => ?_) (fun _ => ?_)
  · refine Frame.then ?_ scheduleEdge_frame rfl rfl
    exact Frame.refl
  · exact Frame.refl

theorem execOpMrk_frame {a0 : Fin 64} : ∃ t, execOpMrk a0 s = .next t ∧ Frame (some [.SPN_EVENT, .SPN_STATUS]) [.events, .later, .spn, .sup] s t := by
  refine ⟨_, rfl, ?_⟩
  refine runWord_frame ?_ rfl rfl (fun m act hm x hx => ?_)
  · exact Frame.refl
  · split at hm
    · cases hm
      try dsimp -zeta only
      refine Frame.then ?_ mrkWord_frame rfl rfl
      exact hx
    · cases hm

theorem trgoWord_frame {a0 : Nat} {a1 : Nat} {a2 : Nat} {a3 : Nat} : Frame (some [.SPN_EVENT, .SPN_STATUS]) [.events, .later, .spn, .sup] s (trgoWord a0 a1 a2 a3 s) := by
  unfold trgoWord
  extract_lets -merge -useContext -underBinder +onlyGivenNames v1
  refine Frame.then ?_ oneTick_frame rfl rfl
  refine Frame.ite (fun _ => ?_) (fun _ => ?_)
  · refine Frame.then ?_ scheduleEdge_frame rfl rfl
    exact Frame.refl
  · exact Frame.refl

theorem execOpTrgo_frame {a0 : Fin 64} : ∃ t, execOpTrgo a0 s = .next t ∧ Frame (some [.SPN_EVENT, .SPN_STATUS]) [.events, .later, .spn, .sup] s t := by
  refine ⟨_, rfl, ?_⟩
  refine runWord_frame ?_ rfl rfl (fun m act hm x hx => ?_)
  · exact Frame.refl
  · split at hm
    · cases hm
      try dsimp -zeta only
      refine Frame.then ?_ trgoWord_frame rfl rfl
      exact hx
    · cases hm

theorem rwinWord_frame {a0 : Nat} {a1 : Nat} {a2 : Nat} {a3 : Nat} {a4 : Nat} : Frame (some [.SPN_EVENT, .SPN_STATUS]) [.dsc, .events, .spn, .sup] s (rwinWord a0 a1 a2 a3 a4 s) := by
  unfold rwinWord
  extract_lets -merge -useContext -underBinder +onlyGivenNames v1
  refine Frame.then ?_ oneTick_frame rfl rfl
  refine Frame.then ?_ State.setDscCh_frame rfl rfl
  exact Frame.refl

theorem execOpRwin_frame {a0 : Fin 64} : ∃ t, execOpRwin a0 s = .next t ∧ Frame (some [.SPN_EVENT, .SPN_STATUS]) [.dsc, .events, .spn, .sup] s t := by
  refine ⟨_, rfl, ?_⟩
  refine runWord_frame ?_ rfl rfl (fun m act hm x hx => ?_)
  · exact Frame.refl
  · split at hm
    · cases hm
      try dsimp -zeta only
      refine Frame.then ?_ rwinWord_frame rfl rfl
      exact hx
    · cases hm

theorem execOpStro_frame {a0 : Fin 64} : ∃ t, execOpStro a0 s = .next t ∧ Frame (some [.FAB_EVENT, .FAB_EV_COUNT, .SPN_EVENT, .SPN_STATUS]) [.events, .fab, .spn, .sup] s t := by
  refine ⟨_, rfl, ?_⟩
  refine runWord_frame ?_ rfl rfl (fun m act hm x hx => ?_)
  · exact Frame.refl
  · split at hm
    · cases hm
      try dsimp -zeta only
      refine Frame.then ?_ oneTick_frame rfl rfl
      refine Frame.then ?_ emit_frame rfl rfl
      exact hx
    · cases hm

theorem execOpStg_frame {a0 : Fin 64} : ∃ t, execOpStg a0 s = .next t ∧ Frame (some [.SPN_EVENT, .SPN_RESULT, .SPN_STATUS]) [.events, .spn, .sup] s t := by
  refine ⟨_, rfl, ?_⟩
  refine runWord_frame ?_ rfl rfl (fun m act hm x hx => ?_)
  · exact Frame.refl
  · split at hm
    · cases hm
      try dsimp -zeta only
      refine Frame.then ?_ oneTick_frame rfl rfl
      refine Frame.raise ?_ (inRows_of (r := .SPN_EVENT) rfl (by exact ⟨_, rfl⟩)) rfl
      refine Frame.wr ?_ (inRows_of (r := .SPN_RESULT) rfl (by exact ⟨_, _, rfl⟩))
      exact hx
    · cases hm

theorem execOpIrq_frame {a0 : Fin 64} : ∃ t, execOpIrq a0 s = .next t ∧ Frame (some [.SPN_EVENT, .SPN_IRQ_CODE, .SPN_STATUS]) [.events, .spn, .sup] s t := by
  refine ⟨_, rfl, ?_⟩
  refine runWord_frame ?_ rfl rfl (fun m act hm x hx => ?_)
  · exact Frame.refl
  · split at hm
    · cases hm
      try dsimp -zeta only
      refine Frame.then ?_ oneTick_frame rfl rfl
      refine Frame.raise ?_ (inRows_of (r := .SPN_EVENT) rfl (by exact ⟨_, rfl⟩)) rfl
      refine Frame.put ?_ (inRows_of (r := .SPN_IRQ_CODE) rfl (by exact ⟨_, rfl⟩))
      exact hx
    · cases hm

theorem execOpClrs_frame {a0 : Fin 64} : ∃ t, execOpClrs a0 s = .next t ∧ Frame (some [.SPN_EVENT, .SPN_SIN, .SPN_STATUS]) [.events, .spn, .sup] s t := by
  refine ⟨_, rfl, ?_⟩
  refine runWord_frame ?_ rfl rfl (fun m act hm x hx => ?_)
  · exact Frame.refl
  · split at hm
    · cases hm
      try dsimp -zeta only
      refine Frame.then ?_ oneTick_frame rfl rfl
      refine Frame.then ?_ clearLatches_frame rfl rfl
      exact hx
    · cases hm

end Sys2Proof.Machine
end

