-- ==== Sys2Proof/Laws/Frame/Security.lean ====
section
/-! SUPPORT. Laws/Frame/Security.lean: what each operation of Machine/Security.lean can change, and that it keeps a sound state sound. -/

set_option Elab.async false

namespace Sys2Proof.Machine

variable {R : Option (List RegRow)} {P : List Part} {s t : State}

theorem execLoadGo_frame {a0 : Path} : ∃ t, execLoadGo a0 s = .next t ∧ Frame (some [.HIF_EVENT, .HIF_WR_REF, .HIF_WR_REF_ADDR_HI, .HIF_WR_REF_ADDR_LO, .SEC_LOAD_STATUS]) [.events, .later, .resp, .sec, .sup] s t := by
  refine ⟨_, rfl, ?_⟩
  refine gated_frame ?_ rfl rfl (fun x hx => ?_)
  · exact Frame.refl
  · refine Frame.then ?_ loadGo_frame rfl rfl
    exact hx

theorem execProvision_frame {a0 : Path} {a1 : BitVec 16} : ∃ t, execProvision a0 a1 s = .next t ∧ Frame (some [.HIF_EVENT, .HIF_WR_REF, .HIF_WR_REF_ADDR_HI, .HIF_WR_REF_ADDR_LO, .SEC_CHAL, .SEC_CMD_STATUS, .SEC_EVENT, .SEC_SNAP, .SEC_SNAP_REEL_HI, .SEC_SNAP_REEL_LO, .SEC_STATUS, .SPN_STATUS, .SYN_MRK_LEVEL, .SYN_TRG_LEVEL]) [.events, .free, .resp, .sec, .spn, .sup, .syn] s t := by
  refine ⟨_, rfl, ?_⟩
  refine gated_frame ?_ rfl rfl (fun x hx => ?_)
  · exact Frame.refl
  · refine Frame.then ?_ secCommand_frame rfl rfl
    exact hx

theorem execProvisionDone_frame  : ∃ t, execProvisionDone s = .next t ∧ Frame (some [.SEC_CMD_STATUS, .SEC_EVENT, .SEC_FUSE, .SEC_STATUS, .SPN_STATUS, .SYN_MRK_LEVEL, .SYN_TRG_LEVEL]) [.events, .free, .sec, .spn, .sup, .syn, .tap] s t := by
  refine ⟨_, rfl, ?_⟩
  refine Frame.then ?_ provisionDone_frame rfl rfl
  exact Frame.refl

theorem execKekTaken_frame {a0 : Path} : ∃ t, execKekTaken a0 s = .next t ∧ Frame (some [.HIF_EVENT, .HIF_WR_REF, .HIF_WR_REF_ADDR_HI, .HIF_WR_REF_ADDR_LO, .SEC_CHAL, .SEC_CMD_STATUS, .SEC_EVENT, .SEC_SNAP, .SEC_SNAP_REEL_HI, .SEC_SNAP_REEL_LO, .SEC_STATUS, .SPN_STATUS, .SYN_MRK_LEVEL, .SYN_TRG_LEVEL]) [.events, .free, .resp, .sec, .spn, .sup, .syn] s t := by
  refine ⟨_, rfl, ?_⟩
  refine gated_frame ?_ rfl rfl (fun x hx => ?_)
  · exact Frame.refl
  · refine Frame.then ?_ secCommand_frame rfl rfl
    exact hx

theorem execChallenge_frame {a0 : Path} : ∃ t, execChallenge a0 s = .next t ∧ Frame (some [.HIF_EVENT, .HIF_WR_REF, .HIF_WR_REF_ADDR_HI, .HIF_WR_REF_ADDR_LO, .SEC_CHAL, .SEC_CMD_STATUS, .SEC_EVENT, .SEC_SNAP, .SEC_SNAP_REEL_HI, .SEC_SNAP_REEL_LO, .SEC_STATUS, .SPN_STATUS, .SYN_MRK_LEVEL, .SYN_TRG_LEVEL]) [.events, .free, .resp, .sec, .spn, .sup, .syn] s t := by
  refine ⟨_, rfl, ?_⟩
  refine gated_frame ?_ rfl rfl (fun x hx => ?_)
  · exact Frame.refl
  · refine Frame.then ?_ secCommand_frame rfl rfl
    exact hx

theorem execChallengeExpiry_frame  : ∃ t, execChallengeExpiry s = .next t ∧ Frame (some []) [.sec] s t := by
  refine ⟨_, rfl, ?_⟩
  refine Frame.sec ?_ rfl (fun _ => trivial)
  exact Frame.refl

theorem execSubmit_frame {a0 : Path} : ∃ t, execSubmit a0 s = .next t ∧ Frame (some [.HIF_EVENT, .HIF_WR_REF, .HIF_WR_REF_ADDR_HI, .HIF_WR_REF_ADDR_LO, .SEC_CHAL, .SEC_CMD_STATUS, .SEC_EVENT, .SEC_SNAP, .SEC_SNAP_REEL_HI, .SEC_SNAP_REEL_LO, .SEC_STATUS, .SPN_STATUS, .SYN_MRK_LEVEL, .SYN_TRG_LEVEL]) [.events, .free, .resp, .sec, .spn, .sup, .syn] s t := by
  refine ⟨_, rfl, ?_⟩
  refine gated_frame ?_ rfl rfl (fun x hx => ?_)
  · exact Frame.refl
  · refine Frame.then ?_ secCommand_frame rfl rfl
    exact hx

theorem execAuthUnlock_frame  : ∃ t, execAuthUnlock s = .next t ∧ Frame (some [.SEC_CMD_STATUS, .SEC_EVENT, .SEC_STATUS, .SPN_STATUS, .SYN_MRK_LEVEL, .SYN_TRG_LEVEL]) [.events, .sec, .spn, .sup, .syn] s t := by
  refine ⟨_, rfl, ?_⟩
  refine authActs_frame ?_ rfl rfl (fun i0 x hx => ?_)
  · exact Frame.refl
  · refine Frame.then ?_ authUnlock_frame rfl rfl
    exact hx

theorem execAuthRetire_frame  : ∃ t, execAuthRetire s = .next t ∧ Frame (some [.SEC_CMD_STATUS, .SEC_EVENT, .SEC_FUSE, .SEC_STATUS, .SPN_STATUS, .SYN_MRK_LEVEL, .SYN_TRG_LEVEL]) [.events, .sec, .spn, .sup, .syn] s t := by
  refine ⟨_, rfl, ?_⟩
  refine authActs_frame ?_ rfl rfl (fun i0 x hx => ?_)
  · exact Frame.refl
  · refine Frame.then ?_ authRetire_frame rfl rfl
    exact hx

theorem execAuthRevoke_frame  : ∃ t, execAuthRevoke s = .next t ∧ Frame (some [.SEC_CMD_STATUS, .SEC_FUSE, .SEC_STATUS]) [.sec] s t := by
  refine ⟨_, rfl, ?_⟩
  refine authActs_frame ?_ rfl rfl (fun i0 x hx => ?_)
  · exact Frame.refl
  · refine Frame.then ?_ authRevoke_frame rfl rfl
    exact hx

theorem execAuthAdvanceSvn_frame  : ∃ t, execAuthAdvanceSvn s = .next t ∧ Frame (some [.SEC_CMD_STATUS, .SEC_FUSE, .SEC_STATUS]) [.sec] s t := by
  refine ⟨_, rfl, ?_⟩
  refine authActs_frame ?_ rfl rfl (fun i0 x hx => ?_)
  · exact Frame.refl
  · refine Frame.then ?_ authAdvance_frame rfl rfl
    exact hx

theorem execLockoutEnd_frame  : ∃ t, execLockoutEnd s = .next t ∧ Frame (some []) [.sec] s t := by
  refine ⟨_, rfl, ?_⟩
  refine Frame.sec ?_ rfl (fun _ => trivial)
  exact Frame.refl

theorem execRelock_frame {a0 : Path} : ∃ t, execRelock a0 s = .next t ∧ Frame (some [.HIF_EVENT, .HIF_WR_REF, .HIF_WR_REF_ADDR_HI, .HIF_WR_REF_ADDR_LO, .SEC_CHAL, .SEC_CMD_STATUS, .SEC_EVENT, .SEC_SNAP, .SEC_SNAP_REEL_HI, .SEC_SNAP_REEL_LO, .SEC_STATUS, .SPN_STATUS, .SYN_MRK_LEVEL, .SYN_TRG_LEVEL]) [.events, .free, .resp, .sec, .spn, .sup, .syn] s t := by
  refine ⟨_, rfl, ?_⟩
  refine gated_frame ?_ rfl rfl (fun x hx => ?_)
  · exact Frame.refl
  · refine Frame.then ?_ secCommand_frame rfl rfl
    exact hx

theorem execSnap_frame {a0 : Path} : ∃ t, execSnap a0 s = .next t ∧ Frame (some [.HIF_EVENT, .HIF_WR_REF, .HIF_WR_REF_ADDR_HI, .HIF_WR_REF_ADDR_LO, .SEC_CHAL, .SEC_CMD_STATUS, .SEC_EVENT, .SEC_SNAP, .SEC_SNAP_REEL_HI, .SEC_SNAP_REEL_LO, .SEC_STATUS, .SPN_STATUS, .SYN_MRK_LEVEL, .SYN_TRG_LEVEL]) [.events, .free, .resp, .sec, .spn, .sup, .syn] s t := by
  refine ⟨_, rfl, ?_⟩
  refine gated_frame ?_ rfl rfl (fun x hx => ?_)
  · exact Frame.refl
  · refine Frame.then ?_ secCommand_frame rfl rfl
    exact hx

end Sys2Proof.Machine
end

