-- ==== Sys2Proof/Laws/Frame/Tick.lean ====
section
/-! SUPPORT. Laws/Frame/Tick.lean: what each operation of Machine/Tick.lean can change, and that it keeps a sound state sound. -/

set_option Elab.async false

namespace Sys2Proof.Machine

variable {R : Option (List RegRow)} {P : List Part} {s t : State}

theorem firstSample_frame {a0 : Nat} {a1 : Bool} {a2 : Option (Option Nco)} : Frame (some [.SYN_CH_FTW_HI, .SYN_CH_FTW_LO, .SYN_CH_PHASE, .SYN_CH_STATUS, .SYN_EVENT, .SYN_PORT_EVENT]) [.events, .rdo, .sup, .syn] s (firstSample a0 a1 a2 s) := by
  unfold firstSample
  extract_lets -merge -useContext -underBinder +onlyGivenNames x1
  refine Frame.via x1 ?_ fun h1 => ?_
  · unfold x1
    refine Frame.ite (fun _ => ?_) (fun _ => ?_)
    · refine Frame.count ?_ (inRows_of (r := .SYN_CH_STATUS) rfl (by exact ⟨_, rfl⟩))
      exact Frame.refl
    · exact Frame.refl
  try clear_value x1
  first | split | (clear_value *; split)
  · exact h1
  · extract_lets -merge -useContext -underBinder +onlyGivenNames w2 x3
    refine Frame.via x3 ?_ fun h3 => ?_
    · unfold x3
      refine Frame.then ?_ showNco_frame rfl rfl
      refine Frame.then ?_ State.setTgt_frame rfl rfl
      exact h1
    try clear_value x3
    refine Frame.then ?_ followTune_frame rfl rfl
    refine Frame.put ?_ (inRows_of (r := .SYN_CH_STATUS) rfl (by exact ⟨_, rfl⟩))
    exact h3
  · extract_lets -merge -useContext -underBinder +onlyGivenNames x4
    refine Frame.via x4 ?_ fun h4 => ?_
    · unfold x4
      refine Frame.raise ?_ (inRows_of (r := .SYN_EVENT) rfl (by exact rfl)) rfl
      refine Frame.put ?_ (inRows_of (r := .SYN_CH_STATUS) rfl (by exact ⟨_, rfl⟩))
      exact h1
    try clear_value x4
    refine Frame.raise ?_ (inRows_of (r := .SYN_PORT_EVENT) rfl (by exact ⟨_, rfl⟩)) rfl
    exact h4

theorem runDeferred_frame {a0 : Deferred} : Frame none [.bob, .csc, .dram, .dsc, .events, .fab, .free, .glb, .held, .hif, .jobs, .later, .mem, .pwr, .rdo, .resp, .rv, .sec, .spn, .sram, .sup, .syn, .tap, .tln] s (runDeferred a0 s) := by
  unfold runDeferred
  first | split | (clear_value *; split)
  · refine Frame.then ?_ setLatch_frame rfl rfl
    exact Frame.refl
  · refine Frame.then ?_ setPending_frame rfl rfl
    exact Frame.refl
  · refine Frame.then ?_ restoreCheckpoint_frame rfl rfl
    exact Frame.refl
  · refine Frame.ite (fun _ => ?_) (fun _ => ?_)
    · refine Frame.then ?_ stopSpindle_frame rfl rfl
      exact Frame.refl
    · exact Frame.refl
  · refine Frame.ite (fun _ => ?_) (fun _ => ?_)
    · refine Frame.then ?_ underrunStopped_frame rfl rfl
      exact Frame.refl
    · exact Frame.refl
  · refine Frame.then ?_ toIdle_frame rfl rfl
    exact Frame.refl
  · refine Frame.ite (fun _ => ?_) (fun _ => ?_)
    · refine Frame.then ?_ haltNow_frame rfl rfl
      exact Frame.refl
    · exact Frame.refl
  · refine Frame.then ?_ firstSample_frame rfl rfl
    exact Frame.refl
  · refine Frame.then ?_ satEvent_frame rfl rfl
    exact Frame.refl
  · refine Frame.then ?_ openFalls_frame rfl rfl
    exact Frame.refl
  · refine Frame.then ?_ softwareReset_frame rfl rfl
    exact Frame.refl
  · refine Frame.then ?_ jreqVisible_frame rfl rfl
    exact Frame.refl
  · refine Frame.then ?_ placeEdge_frame rfl rfl
    exact Frame.refl
  · refine Frame.then ?_ setGate_frame rfl rfl
    exact Frame.refl
  · refine Frame.then ?_ bulkFrame_frame rfl rfl
    exact Frame.refl
  · refine Frame.then ?_ trgSample_frame rfl rfl
    exact Frame.refl
  · refine Frame.then ?_ trgQualify_frame rfl rfl
    exact Frame.refl
  · refine Frame.then ?_ sampleArrives_frame rfl rfl
    exact Frame.refl
  · refine Frame.then ?_ loadDecision_frame rfl rfl
    exact Frame.refl
  · refine Frame.then ?_ dormTolActs_frame rfl rfl
    exact Frame.refl
  · refine Frame.then ?_ rejudge_frame rfl rfl
    exact Frame.refl
  · refine Frame.then ?_ disarmSlot_frame rfl rfl
    exact Frame.refl
  · refine Frame.then ?_ loadApplies_frame rfl rfl
    exact Frame.refl
  · refine Frame.ite (fun _ => ?_) (fun _ => ?_)
    · refine Frame.ite (fun _ => ?_) (fun _ => ?_)
      · refine Frame.then ?_ enterMode_frame rfl rfl
        exact Frame.refl
      · refine Frame.put ?_ (inRows_of (r := .GLB_MODE_STATUS) rfl (by exact rfl))
        exact Frame.refl
    · exact Frame.refl

theorem countStalls_frame  : Frame (some [.DRF_LANE_STALL]) [] s (countStalls s) := by
  unfold countStalls
  refine Frame.forN _ ?_ fun i x hx => ?_
  · exact Frame.refl
  · refine Frame.ite (fun _ => ?_) (fun _ => ?_)
    · refine Frame.count ?_ (inRows_of (r := .DRF_LANE_STALL) rfl (by exact ⟨_, rfl⟩))
      exact hx
    · exact hx

theorem countBulkWaits_frame  : Frame (some [.CSC_TW_BULK]) [] s (countBulkWaits s) := by
  unfold countBulkWaits
  refine Frame.forN _ ?_ fun i x hx => ?_
  · exact Frame.refl
  · first | split | (clear_value *; split)
    · exact hx
    · refine Frame.count ?_ (inRows_of (r := .CSC_TW_BULK) rfl (by exact ⟨_, rfl⟩))
      exact hx

/-- The reel's advance leaves the ports alone. -/
theorem advanceReel_ports {t : Tln} {r : Bool} {a : Int} {n : Nat} : (advanceReel t r a n).ports = t.ports ∧ (advanceReel t r a n).portFree = t.portFree := by
  unfold advanceReel
  split <;> exact ⟨rfl, rfl⟩

theorem nextTick_frame  : Frame none [.bob, .csc, .dram, .dsc, .events, .fab, .free, .glb, .held, .hif, .jobs, .later, .mem, .pwr, .rdo, .resp, .rv, .sec, .spn, .sram, .sup, .syn, .tap, .tick, .tln] s (nextTick s) := by
  unfold nextTick
  extract_lets -merge -useContext -underBinder +onlyGivenNames x0
  refine Frame.via x0 ?_ fun h0 => ?_
  · unfold x0
    refine Frame.then ?_ countQueueWaits_frame rfl rfl
    refine Frame.then ?_ issueData_frame rfl rfl
    refine Frame.then ?_ reviveQueues_frame rfl rfl
    exact Frame.refl
  try clear_value x0
  extract_lets -merge -useContext -underBinder +onlyGivenNames v1 v2 v3 w1 w2 x4
  refine Frame.via x4 ?_ fun h4 => ?_
  · unfold x4
    refine Frame.upd (t := x0) [.pwr, .fab] ?_ rfl rfl (fun p hn => by cases p <;> first | rfl | exact ⟨rfl, rfl⟩ | exact ⟨rfl, rfl, rfl⟩ | exact absurd hn (by decide)) (fun p hm => by
        simp only [List.mem_cons, List.not_mem_nil, or_false] at hm
        rcases hm with rfl | rfl
        · exact fun h => ⟨(by first | exact h.1 | exact sparseWf_sset h.1 | exact sparseWf_nil | exact sparseWf_filter h.1 | exact sparseWf_smap h.1 | exact sparseWf_sdrop h.1 | exact sparseWf_sset (sparseWf_sset h.1)), (by first | exact h.2.1 | exact sparseWf_sset h.2.1 | exact sparseWf_nil | exact sparseWf_filter h.2.1 | exact sparseWf_smap h.2.1 | exact sparseWf_sdrop h.2.1 | exact sparseWf_sset (sparseWf_sset h.2.1)), (by first | exact h.2.2.1 | exact sparseWf_sset h.2.2.1 | exact sparseWf_nil | exact sparseWf_filter h.2.2.1 | exact sparseWf_smap h.2.2.1 | exact sparseWf_sdrop h.2.2.1 | exact sparseWf_sset (sparseWf_sset h.2.2.1)), (by first | exact h.2.2.2 | exact ⟨h.2.2.2.1, h.2.2.2.2⟩ | exact sparseWf_sset h.2.2.2 | exact sparseWf_nil | exact sparseWf_filter h.2.2.2 | exact sparseWf_smap h.2.2.2 | exact sparseWf_sdrop h.2.2.2 | exact sparseWf_sset (sparseWf_sset h.2.2.2))⟩
        · exact fun h => ⟨(by first | exact h.1 | exact sparseWf_sset h.1 | exact sparseWf_nil | exact sparseWf_filter h.1 | exact sparseWf_smap h.1 | exact sparseWf_sdrop h.1 | exact sparseWf_sset (sparseWf_sset h.1)), (by first | exact h.2.1 | exact sparseWf_sset h.2.1 | exact sparseWf_nil | exact sparseWf_filter h.2.1 | exact sparseWf_smap h.2.1 | exact sparseWf_sdrop h.2.1 | exact sparseWf_sset (sparseWf_sset h.2.1)), (by first | exact h.2.2.1 | exact sparseWf_sset h.2.2.1 | exact sparseWf_nil | exact sparseWf_filter h.2.2.1 | exact sparseWf_smap h.2.2.1 | exact sparseWf_sdrop h.2.2.1 | exact sparseWf_sset (sparseWf_sset h.2.2.1)), (by first | exact h.2.2.2 | exact ⟨h.2.2.2.1, h.2.2.2.2⟩ | exact sparseWf_sset h.2.2.2 | exact sparseWf_nil | exact sparseWf_filter h.2.2.2 | exact sparseWf_smap h.2.2.2 | exact sparseWf_sdrop h.2.2.2 | exact sparseWf_sset (sparseWf_sset h.2.2.2))⟩)
    exact h0
  try clear_value x4
  extract_lets -merge -useContext -underBinder +onlyGivenNames w3 x5
  refine Frame.via x5 ?_ fun h5 => ?_
  · unfold x5
    refine Frame.glb ?_ rfl (fun _ => trivial)
    exact h4
  try clear_value x5
  extract_lets -merge -useContext -underBinder +onlyGivenNames w4 x6
  refine Frame.via x6 ?_ fun h6 => ?_
  · unfold x6
    refine Frame.upd (t := x5) [.later, .tln, .hif, .events, .tick] ?_ rfl rfl (fun p hn => by cases p <;> first | rfl | exact ⟨rfl, rfl⟩ | exact ⟨rfl, rfl, rfl⟩ | exact absurd hn (by decide)) (fun p hm => by
        simp only [List.mem_cons, List.not_mem_nil, or_false] at hm
        rcases hm with rfl | rfl | rfl | rfl | rfl
        · exact fun _ => trivial
        · exact fun h => ⟨advanceReel_ports.1.symm ▸ h.1, advanceReel_ports.2.symm ▸ h.2⟩
        · exact id
        · exact fun h => ⟨(by first | exact h.1 | exact sparseWf_sset h.1 | exact sparseWf_nil | exact sparseWf_filter h.1 | exact sparseWf_smap h.1 | exact sparseWf_sdrop h.1 | exact sparseWf_sset (sparseWf_sset h.1)), (by first | exact h.2.1 | exact sparseWf_sset h.2.1 | exact sparseWf_nil | exact sparseWf_filter h.2.1 | exact sparseWf_smap h.2.1 | exact sparseWf_sdrop h.2.1 | exact sparseWf_sset (sparseWf_sset h.2.1)), (by first | exact h.2.2 | exact sparseWf_sset h.2.2 | exact sparseWf_nil | exact sparseWf_filter h.2.2 | exact sparseWf_smap h.2.2 | exact sparseWf_sdrop h.2.2 | exact sparseWf_sset (sparseWf_sset h.2.2))⟩
        · exact fun _ => trivial)
    exact h5
  try clear_value x6
  refine Frame.then ?_ countStalls_frame rfl rfl
  refine Frame.forAll _ ?_ fun i x hx => ?_
  · refine Frame.then ?_ countBulkWaits_frame rfl rfl
    exact h6
  · refine Frame.then ?_ runDeferred_frame rfl rfl
    exact hx

theorem execReelAdvance_frame  : ∃ t, execReelAdvance s = .next t ∧ Frame none [.bob, .csc, .dram, .dsc, .events, .fab, .free, .glb, .held, .hif, .jobs, .later, .mem, .pwr, .rdo, .resp, .rv, .sec, .spn, .sram, .sup, .syn, .tap, .tick, .tln] s t := by
  refine ⟨_, rfl, ?_⟩
  refine Frame.then ?_ nextTick_frame rfl rfl
  exact Frame.refl

end Sys2Proof.Machine
end

