-- ==== Sys2Proof/Laws/Ops.lean ====
section
/-! SUPPORT. Laws/Ops.lean: read after write for registers, fields, pairs and memory bytes. -/

set_option Elab.async false

namespace Sys2Proof.Machine

variable {s t : State}

/-! ### Fields of a word -/

theorem mask_bit {f : Field} (hf : f.lo + f.w ≤ 32) {i : Nat} :
    (Field.mask f).getLsbD i = (decide (f.lo ≤ i) && decide (i < f.lo + f.w)) := by
  rw [Field.mask, BitVec.getLsbD_ofNat, Nat.testBit_mul_two_pow, Nat.testBit_two_pow_sub_one]
  rw [Bool.eq_iff_iff]
  simp only [Bool.and_eq_true, decide_eq_true_eq]
  omega

theorem fieldGet_bit {v : Word} {f : Field} {i : Nat} : (fieldGet v f).testBit i = (decide (i < f.w) && v.getLsbD (f.lo + i)) := by
  rw [fieldGet, Nat.testBit_mod_two_pow, Nat.testBit_div_two_pow, BitVec.testBit_toNat, Nat.add_comm]

theorem fieldPut_bit {v : Word} {f : Field} (hf : f.lo + f.w ≤ 32) {n i : Nat} (hi : i < 32) :
    (fieldPut v f n).getLsbD i = if f.lo ≤ i ∧ i < f.lo + f.w then n.testBit (i - f.lo) else v.getLsbD i := by
  rw [fieldPut, BitVec.getLsbD_or, BitVec.getLsbD_and, BitVec.getLsbD_not, mask_bit hf, BitVec.getLsbD_ofNat,
    Nat.testBit_mul_two_pow, Nat.testBit_mod_two_pow]
  split
  · rename_i h; simp [h.1, h.2, hi, show i - f.lo < f.w by omega]
  · rename_i h
    by_cases h1 : f.lo ≤ i
    · have h2 : ¬ i < f.lo + f.w := fun h2 => h ⟨h1, h2⟩
      simp [h1, h2, hi, show ¬ i - f.lo < f.w by omega]
    · simp [h1, hi]

theorem fieldGet_fieldPut {v : Word} {f : Field} (hf : f.lo + f.w ≤ 32) {n : Nat} : fieldGet (fieldPut v f n) f = n % 2 ^ f.w := by
  apply Nat.eq_of_testBit_eq
  intro i
  rw [fieldGet_bit, Nat.testBit_mod_two_pow]
  by_cases h : i < f.w
  · rw [fieldPut_bit hf (by omega)]; simp [h]
  · simp [h]

theorem fieldGet_fieldPut_other {v : Word} {f g : Field} (hf : f.lo + f.w ≤ 32) (hg : g.lo + g.w ≤ 32)
    (h : f.lo + f.w ≤ g.lo ∨ g.lo + g.w ≤ f.lo) {n : Nat} : fieldGet (fieldPut v f n) g = fieldGet v g := by
  apply Nat.eq_of_testBit_eq
  intro i
  rw [fieldGet_bit, fieldGet_bit]
  by_cases hi : i < g.w
  · rw [fieldPut_bit hf (by omega), if_neg (by omega)]
  · simp [hi]

theorem rd_wr_same {off : Nat} {v : Word} (h : s.Wf) : (s.wr off v).rd off = v := sget_sset_same h.regs

theorem rd_wr_other {off off' : Nat} {v : Word} (h : off' ≠ off) : (s.wr off v).rd off' = s.rd off' := sget_sset_other h

theorem fld_put_same {f : Field} {n : Nat} (h : s.Wf) (hf : f.lo + f.w ≤ 32) : (s.put f n).fld f = n % 2 ^ f.w := by
  rw [State.fld, State.put, rd_wr_same h, fieldGet_fieldPut hf]

theorem fld_put_other {f g : Field} {n : Nat} (h : f.reg ≠ g.reg) : (s.put f n).fld g = s.fld g := by
  rw [State.fld, State.put, rd_wr_other (Ne.symm h), State.fld]

theorem fld_put_beside {f g : Field} {n : Nat} (h : s.Wf) (hr : f.reg = g.reg) (hf : f.lo + f.w ≤ 32) (hg : g.lo + g.w ≤ 32)
    (hd : f.lo + f.w ≤ g.lo ∨ g.lo + g.w ≤ f.lo) : (s.put f n).fld g = s.fld g := by
  rw [State.fld, State.put, hr, rd_wr_same h, fieldGet_fieldPut_other hf hg hd, State.fld]

theorem bit_put_same {f : Field} {n : Nat} (h : s.Wf) (hf : f.lo + f.w ≤ 32) : (s.put f n).bit f = (n % 2 ^ f.w == 1) := by
  rw [State.bit, fld_put_same h hf]

theorem fld_lt {f : Field} : s.fld f < 2 ^ f.w := Nat.mod_lt _ (Nat.two_pow_pos _)

/-! ### The operations keep a sound state sound -/

theorem State.Wf.wr {off : Nat} {v : Word} (h : s.Wf) : (s.wr off v).Wf := (Frame.wr (R := none) (P := []) Frame.refl trivial).sound h

theorem State.Wf.put {f : Field} {n : Nat} (h : s.Wf) : (s.put f n).Wf := h.wr

theorem State.Wf.count {f : Field} {k : Nat} (h : s.Wf) : (s.count f k).Wf := h.wr

theorem State.Wf.wr64 {lo n : Nat} (h : s.Wf) : (s.wr64 lo n).Wf := h.wr.wr

theorem State.Wf.setFlag {f : Field} (h : s.Wf) : (s.setFlag f).Wf := (Frame.setFlag (R := none) (P := [.events]) Frame.refl trivial rfl).sound h

theorem State.Wf.drop {f : Field} (h : s.Wf) : (s.drop f).Wf := (Frame.drop (R := none) (P := []) Frame.refl trivial).sound h

theorem State.Wf.report {c e i v : Nat} (h : s.Wf) : (s.report c e i v).Wf := (Frame.report (R := none) (P := [.sup]) Frame.refl rfl).sound h

theorem State.Wf.raise {f : Field} {i : Nat} (h : s.Wf) : (s.raise f i).Wf :=
  (Frame.raise (R := none) (P := [.events, .sup]) Frame.refl trivial rfl).sound h

theorem State.Wf.raiseIf {c : Bool} {f : Field} {i : Nat} (h : s.Wf) : (s.raiseIf c f i).Wf :=
  (Frame.raiseIf (R := none) (P := [.events, .sup]) Frame.refl trivial rfl).sound h

/-! ### What the operations leave and set -/

/-- Every register outside a footprint reads as before. -/
theorem Frame.fld {R : Option (List RegRow)} {P : List Part} {f : Field} (h : Frame R P s t) (hf : ¬ inRows R f.reg) : t.fld f = s.fld f := by
  rw [State.fld, h.regs _ hf, State.fld]

@[simp] theorem rd_report {c e i v off : Nat} : (s.report c e i v).rd off = s.rd off := rfl

@[simp] theorem fld_report {c e i v : Nat} {f : Field} : (s.report c e i v).fld f = s.fld f := rfl

@[simp] theorem rd_setFlag {f : Field} {off : Nat} : (s.setFlag f).rd off = (s.put f (2 ^ f.w - 1)).rd off := rfl

@[simp] theorem rd_raise {f : Field} {i off : Nat} : (s.raise f i).rd off = (s.put f (2 ^ f.w - 1)).rd off := by
  unfold State.raise
  split <;> rfl

@[simp] theorem fld_setFlag {f g : Field} : (s.setFlag f).fld g = (s.put f (2 ^ f.w - 1)).fld g := rfl

/-- A W1S bit that no write of the present tick wrote 1 is cleared. -/
theorem drop_eq {f : Field} (h : sget (fun _ => 0) s.wrOne f.reg &&& Field.mask f = 0) : s.drop f = s.put f 0 := if_pos h

/-- A W1S bit that a write of the present tick wrote 1 stays (R9). -/
theorem drop_kept {f : Field} (h : sget (fun _ => 0) s.wrOne f.reg &&& Field.mask f ≠ 0) : s.drop f = s := if_neg h

theorem rd_drop_other {f : Field} {off : Nat} (h : off ≠ f.reg) : (s.drop f).rd off = s.rd off := by
  unfold State.drop
  split
  · exact rd_wr_other h
  · rfl

@[simp] theorem fld_raise {f g : Field} {i : Nat} : (s.raise f i).fld g = (s.put f (2 ^ f.w - 1)).fld g := by
  rw [State.fld, rd_raise, State.fld]

theorem rd_put_other {f : Field} {n off : Nat} (h : off ≠ f.reg) : (s.put f n).rd off = s.rd off := rd_wr_other h

theorem fld_wr_other {f : Field} {off : Nat} {v : Word} (h : f.reg ≠ off) : (s.wr off v).fld f = s.fld f := by
  rw [State.fld, rd_wr_other h, State.fld]

theorem fld_wr_same {f : Field} {v : Word} (h : s.Wf) : (s.wr f.reg v).fld f = fieldGet v f := by
  rw [State.fld, rd_wr_same h]

theorem rd64_wr64 {lo n : Nat} (h : s.Wf) (hn : n < 2 ^ 64) : (s.wr64 lo n).rd64 lo = n := by
  rw [State.rd64, State.wr64, rd_wr_same h.wr, rd_wr_other (by omega), rd_wr_same h, BitVec.toNat_ofNat, BitVec.toNat_ofNat]
  omega

theorem rd64_of_rd {lo : Nat} (h0 : t.rd lo = s.rd lo) (h1 : t.rd (lo + 4) = s.rd (lo + 4)) : t.rd64 lo = s.rd64 lo := by
  rw [State.rd64, h0, h1, State.rd64]

/-! ### Memory -/

theorem sramByte_putSram {a x : Nat} {b : Byte} (h : Memory.wf s.sram = true) :
    (s.putSram a b).sramByte x = if x = a then b else s.sramByte x := by
  split
  · rename_i e; subst e; exact sget_sset_same h
  · rename_i e; exact sget_sset_other e

theorem dramByte_putDram {a x : Nat} {b : Byte} (h : Memory.wf s.dram = true) :
    (s.putDram a b).dramByte x = if x = a then b else s.dramByte x := by
  split
  · rename_i e; subst e; exact sget_sset_same h
  · rename_i e; exact sget_sset_other e

/-- Every memory operation keeps the canonical form. -/
theorem wf_putSramBytes {a : Nat} {bs : List Byte} (h : Memory.wf s.sram = true) : Memory.wf (s.putSramBytes a bs).sram = true := by
  induction bs generalizing s a with
  | nil => exact h
  | cons b bs ih => exact ih (s := s.putSram a b) (sparseWf_sset h)

theorem wf_putDramBytes {a : Nat} {bs : List Byte} (h : Memory.wf s.dram = true) : Memory.wf (s.putDramBytes a bs).dram = true := by
  induction bs generalizing s a with
  | nil => exact h
  | cons b bs ih => exact ih (s := s.putDram a b) (sparseWf_sset h)

/-- A run of stored SRAM bytes reads back; every other address reads as before. -/
theorem sramByte_putSramBytes {a x : Nat} {bs : List Byte} (h : Memory.wf s.sram = true) :
    (s.putSramBytes a bs).sramByte x = if a ≤ x ∧ x < a + bs.length then bs.getD (x - a) 0 else s.sramByte x := by
  induction bs generalizing s a with
  | nil => rw [if_neg (by simp)]; rfl
  | cons b bs ih =>
    rw [State.putSramBytes, ih (s := s.putSram a b) (sparseWf_sset h), sramByte_putSram h]
    simp only [List.length_cons]
    by_cases e : x = a
    · subst e; rw [if_neg (by omega), if_pos rfl, if_pos (by omega)]; simp
    · by_cases hx : a + 1 ≤ x ∧ x < a + 1 + bs.length
      · rw [if_pos hx, if_pos (by omega), show x - a = (x - (a + 1)) + 1 by omega, List.getD_cons_succ]
      · rw [if_neg hx, if_neg e, if_neg (by omega)]

theorem dramByte_putDramBytes {a x : Nat} {bs : List Byte} (h : Memory.wf s.dram = true) :
    (s.putDramBytes a bs).dramByte x = if a ≤ x ∧ x < a + bs.length then bs.getD (x - a) 0 else s.dramByte x := by
  induction bs generalizing s a with
  | nil => rw [if_neg (by simp)]; rfl
  | cons b bs ih =>
    rw [State.putDramBytes, ih (s := s.putDram a b) (sparseWf_sset h), dramByte_putDram h]
    simp only [List.length_cons]
    by_cases e : x = a
    · subst e; rw [if_neg (by omega), if_pos rfl, if_pos (by omega)]; simp
    · by_cases hx : a + 1 ≤ x ∧ x < a + 1 + bs.length
      · rw [if_pos hx, if_pos (by omega), show x - a = (x - (a + 1)) + 1 by omega, List.getD_cons_succ]
      · rw [if_neg hx, if_neg e, if_neg (by omega)]

end Sys2Proof.Machine
end

