-- ==== Sys2Proof/Laws/PerInstr.lean ====
section
/-! SUPPORT. Laws/PerInstr.lean: what every command promises by its footprint alone, one lemma per constructor of `Instr`. -/

set_option Elab.async false

namespace Sys2Proof.Laws.TimeAndQueue

/-- A command's footprint holds neither the queue of waiting commands nor, but for REEL_ADVANCE, the tick (R18, R52). -/
def Statement (c : Sys2Proof.Instr) : Prop :=
  c.parts.contains .pending = false ∧ (c ≠ .reelAdvance → c.parts.contains .tick = false)

theorem registerWrite (path : Path) (off : BitVec 26) (v : Word) : Statement (.registerWrite path off v) := ⟨rfl, fun _ => rfl⟩
theorem bar0BadAccess : Statement (.bar0BadAccess) := ⟨rfl, fun _ => rfl⟩
theorem loReadCapture (path : Path) (off : BitVec 26) : Statement (.loReadCapture path off) := ⟨rfl, fun _ => rfl⟩
theorem hiRead (path : Path) (off : BitVec 26) : Statement (.hiRead path off) := ⟨rfl, fun _ => rfl⟩
theorem loWriteHold (path : Path) (off : BitVec 26) (v : Word) : Statement (.loWriteHold path off v) := ⟨rfl, fun _ => rfl⟩
theorem hiWriteCommit (path : Path) (off : BitVec 26) (v : Word) : Statement (.hiWriteCommit path off v) := ⟨rfl, fun _ => rfl⟩
theorem reqNone (path : Path) (key : Byte) : Statement (.reqNone path key) := ⟨rfl, fun _ => rfl⟩
theorem reqLoad (path : Path) (key : Byte) : Statement (.reqLoad path key) := ⟨rfl, fun _ => rfl⟩
theorem reqCalibrate (path : Path) (key : Byte) : Statement (.reqCalibrate path key) := ⟨rfl, fun _ => rfl⟩
theorem reqArm (path : Path) (key : Byte) : Statement (.reqArm path key) := ⟨rfl, fun _ => rfl⟩
theorem reqStop (path : Path) (key : Byte) : Statement (.reqStop path key) := ⟨rfl, fun _ => rfl⟩
theorem reqDormant (path : Path) (key : Byte) : Statement (.reqDormant path key) := ⟨rfl, fun _ => rfl⟩
theorem reqUnload (path : Path) (key : Byte) : Statement (.reqUnload path key) := ⟨rfl, fun _ => rfl⟩
theorem reqClearSafe (path : Path) (key : Byte) : Statement (.reqClearSafe path key) := ⟨rfl, fun _ => rfl⟩
theorem run (path : Path) (req : Fin 16) (key : Byte) : Statement (.run path req key) := ⟨rfl, fun _ => rfl⟩
theorem checkEnd : Statement (.checkEnd) := ⟨rfl, fun _ => rfl⟩
theorem configClearDone : Statement (.configClearDone) := ⟨rfl, fun _ => rfl⟩
theorem armComplete : Statement (.armComplete) := ⟨rfl, fun _ => rfl⟩
theorem calibrationStart : Statement (.calibrationStart) := ⟨rfl, fun _ => rfl⟩
theorem calibrationDone : Statement (.calibrationDone) := ⟨rfl, fun _ => rfl⟩
theorem m6Entry : Statement (.m6Entry) := ⟨rfl, fun _ => rfl⟩
theorem m6Exit : Statement (.m6Exit) := ⟨rfl, fun _ => rfl⟩
theorem stopComplete : Statement (.stopComplete) := ⟨rfl, fun _ => rfl⟩
theorem stopTimeout : Statement (.stopTimeout) := ⟨rfl, fun _ => rfl⟩
theorem biasRampTransition : Statement (.biasRampTransition) := ⟨rfl, fun _ => rfl⟩
theorem syncWrite (path : Path) (v : Word) : Statement (.syncWrite path v) := ⟨rfl, fun _ => rfl⟩
theorem syncAuto : Statement (.syncAuto) := ⟨rfl, fun _ => rfl⟩
theorem refLoss (src : Fin 8) : Statement (.refLoss src) := ⟨rfl, fun _ => rfl⟩
theorem pllUnlock : Statement (.pllUnlock) := ⟨rfl, fun _ => rfl⟩
theorem refSrcWrite (path : Path) (v : Word) : Statement (.refSrcWrite path v) := ⟨rfl, fun _ => rfl⟩
theorem pllLock : Statement (.pllLock) := ⟨rfl, fun _ => rfl⟩
theorem reelAdvance : Statement (.reelAdvance) := ⟨rfl, fun h => absurd rfl h⟩
theorem ptpSyncRx (p : Fin 2) (m : PtpMsg) (twoStep : Bool) (t1 : Int) (cyc : Fin 32) : Statement (.ptpSyncRx p m twoStep t1 cyc) :=
  ⟨rfl, fun _ => rfl⟩
theorem ptpFollowUpRx (p : Fin 2) (m : PtpMsg) (t1 : Int) : Statement (.ptpFollowUpRx p m t1) := ⟨rfl, fun _ => rfl⟩
theorem ptpDelayReqTx (p : Fin 2) (cyc : Fin 32) : Statement (.ptpDelayReqTx p cyc) := ⟨rfl, fun _ => rfl⟩
theorem ptpDelayRespRx (p : Fin 2) (m : PtpMsg) (t4 : Int) : Statement (.ptpDelayRespRx p m t4) := ⟨rfl, fun _ => rfl⟩
theorem ptpAnnounceRx (p : Fin 2) (m : PtpMsg) (a : Announce) : Statement (.ptpAnnounceRx p m a) := ⟨rfl, fun _ => rfl⟩
theorem ptpRxDrop (p : Fin 2) : Statement (.ptpRxDrop p) := ⟨rfl, fun _ => rfl⟩
theorem ptpSyncTimeout (p : Fin 2) : Statement (.ptpSyncTimeout p) := ⟨rfl, fun _ => rfl⟩
theorem ptpAnnounceTimeout (p : Fin 2) : Statement (.ptpAnnounceTimeout p) := ⟨rfl, fun _ => rfl⟩
theorem extPhaseCompare (periods : Nat) (pos : Fin 512) : Statement (.extPhaseCompare periods pos) := ⟨rfl, fun _ => rfl⟩
theorem ppsEdge (periods : Nat) (pos : Fin 512) : Statement (.ppsEdge periods pos) := ⟨rfl, fun _ => rfl⟩
theorem tcodeFrame (f : TimeCode) : Statement (.tcodeFrame f) := ⟨rfl, fun _ => rfl⟩
theorem ref10mLoss : Statement (.ref10mLoss) := ⟨rfl, fun _ => rfl⟩
theorem ppsLoss : Statement (.ppsLoss) := ⟨rfl, fun _ => rfl⟩
theorem acceptSlewOut (path : Path) : Statement (.acceptSlewOut path) := ⟨rfl, fun _ => rfl⟩
theorem acceptStepFwd (path : Path) : Statement (.acceptStepFwd path) := ⟨rfl, fun _ => rfl⟩
theorem holdExpired : Statement (.holdExpired) := ⟨rfl, fun _ => rfl⟩
theorem launchArm (path : Path) (slot : Fin 16) (v : Word) : Statement (.launchArm path slot v) := ⟨rfl, fun _ => rfl⟩
theorem launch (slot : Fin 16) : Statement (.launch slot) := ⟨rfl, fun _ => rfl⟩
theorem launchMiss (slot : Fin 16) : Statement (.launchMiss slot) := ⟨rfl, fun _ => rfl⟩
theorem opNop (n : Fin 64) : Statement (.opNop n) := ⟨rfl, fun _ => rfl⟩
theorem opAlu (n : Fin 64) : Statement (.opAlu n) := ⟨rfl, fun _ => rfl⟩
theorem opLdlc (n : Fin 64) : Statement (.opLdlc n) := ⟨rfl, fun _ => rfl⟩
theorem opRddec (n : Fin 64) : Statement (.opRddec n) := ⟨rfl, fun _ => rfl⟩
theorem opRdsin (n : Fin 64) : Statement (.opRdsin n) := ⟨rfl, fun _ => rfl⟩
theorem opNcop (n : Fin 64) : Statement (.opNcop n) := ⟨rfl, fun _ => rfl⟩
theorem opSettb (n : Fin 64) : Statement (.opSettb n) := ⟨rfl, fun _ => rfl⟩
theorem opJmp (n : Fin 64) : Statement (.opJmp n) := ⟨rfl, fun _ => rfl⟩
theorem opBrs (n : Fin 64) : Statement (.opBrs n) := ⟨rfl, fun _ => rfl⟩
theorem opLoop (n : Fin 64) : Statement (.opLoop n) := ⟨rfl, fun _ => rfl⟩
theorem opWaitt (n : Fin 64) : Statement (.opWaitt n) := ⟨rfl, fun _ => rfl⟩
theorem waittDone (n : Fin 64) : Statement (.waittDone n) := ⟨rfl, fun _ => rfl⟩
theorem opWaitr (n : Fin 64) : Statement (.opWaitr n) := ⟨rfl, fun _ => rfl⟩
theorem waitrReached (n : Fin 64) : Statement (.waitrReached n) := ⟨rfl, fun _ => rfl⟩
theorem opWts (n : Fin 64) : Statement (.opWts n) := ⟨rfl, fun _ => rfl⟩
theorem wtsLatch (n : Fin 64) : Statement (.wtsLatch n) := ⟨rfl, fun _ => rfl⟩
theorem wtsTimeout (n : Fin 64) : Statement (.wtsTimeout n) := ⟨rfl, fun _ => rfl⟩
theorem opPls (n : Fin 64) : Statement (.opPls n) := ⟨rfl, fun _ => rfl⟩
theorem opJreq (n : Fin 64) : Statement (.opJreq n) := ⟨rfl, fun _ => rfl⟩
theorem opBias (n : Fin 64) : Statement (.opBias n) := ⟨rfl, fun _ => rfl⟩
theorem opMrk (n : Fin 64) : Statement (.opMrk n) := ⟨rfl, fun _ => rfl⟩
theorem opTrgo (n : Fin 64) : Statement (.opTrgo n) := ⟨rfl, fun _ => rfl⟩
theorem outputPulseFall (o : Fin 48) : Statement (.outputPulseFall o) := ⟨rfl, fun _ => rfl⟩
theorem opRwin (n : Fin 64) : Statement (.opRwin n) := ⟨rfl, fun _ => rfl⟩
theorem opStro (n : Fin 64) : Statement (.opStro n) := ⟨rfl, fun _ => rfl⟩
theorem opStg (n : Fin 64) : Statement (.opStg n) := ⟨rfl, fun _ => rfl⟩
theorem opIrq (n : Fin 64) : Statement (.opIrq n) := ⟨rfl, fun _ => rfl⟩
theorem opClrs (n : Fin 64) : Statement (.opClrs n) := ⟨rfl, fun _ => rfl⟩
theorem opCommit (n : Fin 64) : Statement (.opCommit n) := ⟨rfl, fun _ => rfl⟩
theorem opEnd (n : Fin 64) : Statement (.opEnd n) := ⟨rfl, fun _ => rfl⟩
theorem illegal (n : Fin 64) : Statement (.illegal n) := ⟨rfl, fun _ => rfl⟩
theorem postOvf (n : Fin 64) : Statement (.postOvf n) := ⟨rfl, fun _ => rfl⟩
theorem vectorRecognised (n : Fin 64) (v : Fin 8) : Statement (.vectorRecognised n v) := ⟨rfl, fun _ => rfl⟩
theorem hostPreempt (path : Path) (n : Fin 64) (v : Word) : Statement (.hostPreempt path n v) := ⟨rfl, fun _ => rfl⟩
theorem cstoreEccCorr (n : Fin 64) : Statement (.cstoreEccCorr n) := ⟨rfl, fun _ => rfl⟩
theorem cstoreEccUncorr (n : Fin 64) : Statement (.cstoreEccUncorr n) := ⟨rfl, fun _ => rfl⟩
theorem heartbeatToken (n : Fin 64) : Statement (.heartbeatToken n) := ⟨rfl, fun _ => rfl⟩
theorem scoutStep (n : Fin 64) : Statement (.scoutStep n) := ⟨rfl, fun _ => rfl⟩
theorem dbgHalt (path : Path) (n : Fin 64) : Statement (.dbgHalt path n) := ⟨rfl, fun _ => rfl⟩
theorem dbgStep (path : Path) (n : Fin 64) : Statement (.dbgStep path n) := ⟨rfl, fun _ => rfl⟩
theorem dbgResume (path : Path) (n : Fin 64) : Statement (.dbgResume path n) := ⟨rfl, fun _ => rfl⟩
theorem fetchTick (p : PlayPort) : Statement (.fetchTick p) := ⟨rfl, fun _ => rfl⟩
theorem underrunStop (t : Fin 640) : Statement (.underrunStop t) := ⟨rfl, fun _ => rfl⟩
theorem underrunZeroEnd (t : Fin 640) : Statement (.underrunZeroEnd t) := ⟨rfl, fun _ => rfl⟩
theorem urAck (path : Path) (v : Word) : Statement (.urAck path v) := ⟨rfl, fun _ => rfl⟩
theorem segmentBoundary (t : Fin 640) : Statement (.segmentBoundary t) := ⟨rfl, fun _ => rfl⟩
theorem segmentEnd (t : Fin 640) : Statement (.segmentEnd t) := ⟨rfl, fun _ => rfl⟩
theorem biasUpdate : Statement (.biasUpdate) := ⟨rfl, fun _ => rfl⟩
theorem rvRestart (path : Path) (r : Fin 64) (v : Word) : Statement (.rvRestart path r v) := ⟨rfl, fun _ => rfl⟩
theorem refillRequest (r : Fin 64) : Statement (.refillRequest r) := ⟨rfl, fun _ => rfl⟩
theorem refillComplete (r : Fin 64) (host : List Byte) (err : Bool) : Statement (.refillComplete r host err) := ⟨rfl, fun _ => rfl⟩
theorem frontEndChangeApply : Statement (.frontEndChangeApply) := ⟨rfl, fun _ => rfl⟩
theorem attWrite (path : Path) (a : Fin 16) (v : Word) : Statement (.attWrite path a v) := ⟨rfl, fun _ => rfl⟩
theorem channelSample (a : Fin 16) (adc : List (BitVec 12)) : Statement (.channelSample a adc) := ⟨rfl, fun _ => rfl⟩
theorem toneSample (a : Fin 16) (k : Fin 1024) : Statement (.toneSample a k) := ⟨rfl, fun _ => rfl⟩
theorem combOnWrite (path : Path) (a : Fin 16) (v : Word) : Statement (.combOnWrite path a v) := ⟨rfl, fun _ => rfl⟩
theorem toneFcWrite (path : Path) (a : Fin 16) (k : Fin 1024) (c : Bool) (v : Word) : Statement (.toneFcWrite path a k c v) :=
  ⟨rfl, fun _ => rfl⟩
theorem tonePWrite (path : Path) (a : Fin 16) (k : Fin 1024) (v : Word) : Statement (.tonePWrite path a k v) := ⟨rfl, fun _ => rfl⟩
theorem toneApplied (a : Fin 16) (k : Fin 1024) : Statement (.toneApplied a k) := ⟨rfl, fun _ => rfl⟩
theorem rwinTakeUp (r : Fin 256) : Statement (.rwinTakeUp r) := ⟨rfl, fun _ => rfl⟩
theorem evaluation (r : Fin 256) : Statement (.evaluation r) := ⟨rfl, fun _ => rfl⟩
theorem decisionFormed (r : Fin 256) : Statement (.decisionFormed r) := ⟨rfl, fun _ => rfl⟩
theorem strandEvent (k : Fin 1024) : Statement (.strandEvent k) := ⟨rfl, fun _ => rfl⟩
theorem fabForce (path : Path) (v : Word) : Statement (.fabForce path v) := ⟨rfl, fun _ => rfl⟩
theorem plyEval (n : Fin 512) : Statement (.plyEval n) := ⟨rfl, fun _ => rfl⟩
theorem trgInEdge (k : Fin 16) (level : Bool) : Statement (.trgInEdge k level) := ⟨rfl, fun _ => rfl⟩
theorem trgInStuck (k : Fin 16) : Statement (.trgInStuck k) := ⟨rfl, fun _ => rfl⟩
theorem trgInUnstuck (k : Fin 16) : Statement (.trgInUnstuck k) := ⟨rfl, fun _ => rfl⟩
theorem ctTrigger (t : Fin 16) : Statement (.ctTrigger t) := ⟨rfl, fun _ => rfl⟩
theorem ctLookupDone (t : Fin 16) (ecc : Ecc) : Statement (.ctLookupDone t ecc) := ⟨rfl, fun _ => rfl⟩
theorem exportSlotEvent (g : Fin 64) (b : Fin 16) : Statement (.exportSlotEvent g b) := ⟨rfl, fun _ => rfl⟩
theorem exportGateEnable (g : Fin 64) : Statement (.exportGateEnable g) := ⟨rfl, fun _ => rfl⟩
theorem exportGateDisable (g : Fin 64) : Statement (.exportGateDisable g) := ⟨rfl, fun _ => rfl⟩
theorem twTrainStart (p : Fin 4) : Statement (.twTrainStart p) := ⟨rfl, fun _ => rfl⟩
theorem twCdrLock (p : Fin 4) : Statement (.twCdrLock p) := ⟨rfl, fun _ => rfl⟩
theorem twAlignDone (p : Fin 4) (lanes : BitVec 4) : Statement (.twAlignDone p lanes) := ⟨rfl, fun _ => rfl⟩
theorem twIdent (p : Fin 4) (id : BitVec 6) (role : BitVec 2) (depth : BitVec 6) : Statement (.twIdent p id role depth) :=
  ⟨rfl, fun _ => rfl⟩
theorem twMeasureDone (p : Fin 4) (trip0 trip1 turn0 turn1 : Nat) : Statement (.twMeasureDone p trip0 trip1 turn0 turn1) :=
  ⟨rfl, fun _ => rfl⟩
theorem twLinkUp (p : Fin 4) (gen : BitVec 8) : Statement (.twLinkUp p gen) := ⟨rfl, fun _ => rfl⟩
theorem twTrainFail (p : Fin 4) : Statement (.twTrainFail p) := ⟨rfl, fun _ => rfl⟩
theorem twRetry (p : Fin 4) : Statement (.twRetry p) := ⟨rfl, fun _ => rfl⟩
theorem twRetrain (path : Path) (p : Fin 4) (v : Word) : Statement (.twRetrain path p v) := ⟨rfl, fun _ => rfl⟩
theorem frameLaunch (p : Fin 4) : Statement (.frameLaunch p) := ⟨rfl, fun _ => rfl⟩
theorem frameInvalid (p lane : Fin 4) (prev : BitVec 58) (frame : BitVec 64) : Statement (.frameInvalid p lane prev frame) :=
  ⟨rfl, fun _ => rfl⟩
theorem idleRx (p lane : Fin 4) (freed : Fin 16) : Statement (.idleRx p lane freed) := ⟨rfl, fun _ => rfl⟩
theorem groupRx (p lane : Fin 4) (slots : BitVec 16) (gid : BitVec 12) (hops : BitVec 6) : Statement (.groupRx p lane slots gid hops) :=
  ⟨rfl, fun _ => rfl⟩
theorem timeLoRx (p lane : Fin 4) (ns : BitVec 42) : Statement (.timeLoRx p lane ns) := ⟨rfl, fun _ => rfl⟩
theorem timeHiRx (p lane : Fin 4) (ns : BitVec 22) (frac : BitVec 20) : Statement (.timeHiRx p lane ns frac) := ⟨rfl, fun _ => rfl⟩
theorem stateRx (p lane : Fin 4) (master sender depth : BitVec 6) (gen : BitVec 8) (reel : BitVec 2) (valid : Bool) (mode : BitVec 3) :
  Statement (.stateRx p lane master sender depth gen reel valid mode) :=
  ⟨rfl, fun _ => rfl⟩
theorem rateRx (p lane : Fin 4) (adj : BitVec 24) (applyT : BitVec 18) : Statement (.rateRx p lane adj applyT) := ⟨rfl, fun _ => rfl⟩
theorem rateApply : Statement (.rateApply) := ⟨rfl, fun _ => rfl⟩
theorem rateRepeat : Statement (.rateRepeat) := ⟨rfl, fun _ => rfl⟩
theorem timeQueue : Statement (.timeQueue) := ⟨rfl, fun _ => rfl⟩
theorem syncMarkerQueue (p : Fin 4) : Statement (.syncMarkerQueue p) := ⟨rfl, fun _ => rfl⟩
theorem syncLoRx (p lane : Fin 4) (count : BitVec 42) (at_ : Fin 32000) : Statement (.syncLoRx p lane count at_) := ⟨rfl, fun _ => rfl⟩
theorem syncHiRx (p lane : Fin 4) (count : BitVec 22) (gen : BitVec 8) : Statement (.syncHiRx p lane count gen) := ⟨rfl, fun _ => rfl⟩
theorem frameReservedType (p lane : Fin 4) : Statement (.frameReservedType p lane) := ⟨rfl, fun _ => rfl⟩
theorem cascadeSrcTimeout : Statement (.cascadeSrcTimeout) := ⟨rfl, fun _ => rfl⟩
theorem failoverRx (p lane : Fin 4) : Statement (.failoverRx p lane) := ⟨rfl, fun _ => rfl⟩
theorem dutyLaneSwitch (p : Fin 4) : Statement (.dutyLaneSwitch p) := ⟨rfl, fun _ => rfl⟩
theorem failoverTimeout (p : Fin 4) : Statement (.failoverTimeout p) := ⟨rfl, fun _ => rfl⟩
theorem bulkRegWr (p lane : Fin 4) (freed : Fin 16) (dest src : Fin 64) (tag : Byte) (space : Fin 4) (addr : BitVec 37) (be : Fin 16) (v : Word) :
  Statement (.bulkRegWr p lane freed dest src tag space addr be v) :=
  ⟨rfl, fun _ => rfl⟩
theorem bulkRegRd (p lane : Fin 4) (freed : Fin 16) (dest src : Fin 64) (tag : Byte) (space : Fin 4) (addr : BitVec 37) :
  Statement (.bulkRegRd p lane freed dest src tag space addr) :=
  ⟨rfl, fun _ => rfl⟩
theorem bulkMemWr (p lane : Fin 4) (freed : Fin 16) (dest src : Fin 64) (tag : Byte) (space : Fin 4) (addr : BitVec 37) (data : List (Word × Fin 16)) (ue : Bool) :
  Statement (.bulkMemWr p lane freed dest src tag space addr data ue) :=
  ⟨rfl, fun _ => rfl⟩
theorem bulkCpl (p lane : Fin 4) (freed : Fin 16) (dest src : Fin 64) (tag : Byte) (status : Fin 8) (data : Option Word) :
  Statement (.bulkCpl p lane freed dest src tag status data) :=
  ⟨rfl, fun _ => rfl⟩
theorem bulkErr (p lane : Fin 4) : Statement (.bulkErr p lane) := ⟨rfl, fun _ => rfl⟩
theorem rraWrite (path : Path) (target : Fin 64) : Statement (.rraWrite path target) := ⟨rfl, fun _ => rfl⟩
theorem rraRead (path : Path) (target : Fin 64) : Statement (.rraRead path target) := ⟨rfl, fun _ => rfl⟩
theorem rraTimeout : Statement (.rraTimeout) := ⟨rfl, fun _ => rfl⟩
theorem rdmaStart (path : Path) (space : Fin 4) (target : Fin 64) : Statement (.rdmaStart path space target) := ⟨rfl, fun _ => rfl⟩
theorem rdmaTimeout : Statement (.rdmaTimeout) := ⟨rfl, fun _ => rfl⟩
theorem strapChg (level : Bool) : Statement (.strapChg level) := ⟨rfl, fun _ => rfl⟩
theorem bobArm (path : Path) (v : Word) : Statement (.bobArm path v) := ⟨rfl, fun _ => rfl⟩
theorem bobDisarm (path : Path) (v : Word) : Statement (.bobDisarm path v) := ⟨rfl, fun _ => rfl⟩
theorem bobForce (path : Path) (v : Word) : Statement (.bobForce path v) := ⟨rfl, fun _ => rfl⟩
theorem bobReset (path : Path) (b : Fin 32) (v : Word) : Statement (.bobReset path b v) := ⟨rfl, fun _ => rfl⟩
theorem bobRdWrite (path : Path) (b : Fin 32) (v : BitVec 64) : Statement (.bobRdWrite path b v) := ⟨rfl, fun _ => rfl⟩
theorem bobDirAck (path : Path) (b : Fin 32) (v : Word) : Statement (.bobDirAck path b v) := ⟨rfl, fun _ => rfl⟩
theorem bobItem (b : Fin 32) (inp : BobInput) : Statement (.bobItem b inp) := ⟨rfl, fun _ => rfl⟩
theorem bobAutoTimeout (b : Fin 32) : Statement (.bobAutoTimeout b) := ⟨rfl, fun _ => rfl⟩
theorem bobSpillRequest (b : Fin 32) : Statement (.bobSpillRequest b) := ⟨rfl, fun _ => rfl⟩
theorem bobSpillDone (b : Fin 32) : Statement (.bobSpillDone b) := ⟨rfl, fun _ => rfl⟩
theorem capture (b : Fin 32) : Statement (.capture b) := ⟨rfl, fun _ => rfl⟩
theorem bobRearm (b : Fin 32) : Statement (.bobRearm b) := ⟨rfl, fun _ => rfl⟩
theorem sramCe (off : Fin 0x4000000) : Statement (.sramCe off) := ⟨rfl, fun _ => rfl⟩
theorem sramUe (off : Fin 0x4000000) (rd : SramReader) : Statement (.sramUe off rd) := ⟨rfl, fun _ => rfl⟩
theorem scrubPassDone (dram : Bool) : Statement (.scrubPassDone dram) := ⟨rfl, fun _ => rfl⟩
theorem dramInit : Statement (.dramInit) := ⟨rfl, fun _ => rfl⟩
theorem dramCe (off : Fin 0x2000000000) : Statement (.dramCe off) := ⟨rfl, fun _ => rfl⟩
theorem dramUe (off : Fin 0x2000000000) (rd : DramReader) : Statement (.dramUe off rd) := ⟨rfl, fun _ => rfl⟩
theorem refreshDown (k : Fin 4) : Statement (.refreshDown k) := ⟨rfl, fun _ => rfl⟩
theorem dramRequestDone (grants : List (Fin 4)) : Statement (.dramRequestDone grants) := ⟨rfl, fun _ => rfl⟩
theorem c1Refused (b : Fin 32) : Statement (.c1Refused b) := ⟨rfl, fun _ => rfl⟩
theorem drfTailWrite (path : Path) (l : Fin 8) (v : Word) : Statement (.drfTailWrite path l v) := ⟨rfl, fun _ => rfl⟩
theorem drfCompress (l : Fin 8) (ue : Option Nat) : Statement (.drfCompress l ue) := ⟨rfl, fun _ => rfl⟩
theorem drfDecompress (l : Fin 8) (ue : Option Nat) : Statement (.drfDecompress l ue) := ⟨rfl, fun _ => rfl⟩
theorem drfVerify (l : Fin 8) (ue : Option Nat) : Statement (.drfVerify l ue) := ⟨rfl, fun _ => rfl⟩
theorem drfJobDone (l : Fin 8) : Statement (.drfJobDone l) := ⟨rfl, fun _ => rfl⟩
theorem drfStall (l : Fin 8) : Statement (.drfStall l) := ⟨rfl, fun _ => rfl⟩
theorem drfResume (l : Fin 8) : Statement (.drfResume l) := ⟨rfl, fun _ => rfl⟩
theorem linkChg (up : Bool) (speed : BitVec 3) (width : BitVec 5) (flit : Bool) : Statement (.linkChg up speed width flit) :=
  ⟨rfl, fun _ => rfl⟩
theorem functionLevelReset : Statement (.functionLevelReset) := ⟨rfl, fun _ => rfl⟩
theorem d3hotEntry : Statement (.d3hotEntry) := ⟨rfl, fun _ => rfl⟩
theorem d0Return : Statement (.d0Return) := ⟨rfl, fun _ => rfl⟩
theorem bar2Access (off : Fin 0x4000000) (a : MemAccess) (ue : Bool) : Statement (.bar2Access off a ue) := ⟨rfl, fun _ => rfl⟩
theorem bar4Access (x : Fin 0x2000000000) (a : MemAccess) (ue : Bool) (size : Option (Fin 8)) : Statement (.bar4Access x a ue size) :=
  ⟨rfl, fun _ => rfl⟩
theorem dmaDoorbell (p : Path) (q : Fin 64) (v : Word) : Statement (.dmaDoorbell p q v) := ⟨rfl, fun _ => rfl⟩
theorem dmaDescriptorStart (q : Fin 64) (desc : List Byte) : Statement (.dmaDescriptorStart q desc) := ⟨rfl, fun _ => rfl⟩
theorem dmaDescriptorDone (q : Fin 64) (data : List Byte) (how : HostEnd) (ue : Bool) : Statement (.dmaDescriptorDone q data how ue) :=
  ⟨rfl, fun _ => rfl⟩
theorem dmaQueueDisable (p : Path) (q : Fin 64) (v : Word) : Statement (.dmaQueueDisable p q v) := ⟨rfl, fun _ => rfl⟩
theorem dmaQueueReset (p : Path) (q : Fin 64) (v : Word) : Statement (.dmaQueueReset p q v) := ⟨rfl, fun _ => rfl⟩
theorem qLimitWrite (p : Path) (q : Fin 64) (v : Word) : Statement (.qLimitWrite p q v) := ⟨rfl, fun _ => rfl⟩
theorem msixSend (v : Fin 512) (fmask : Bool) : Statement (.msixSend v fmask) := ⟨rfl, fun _ => rfl⟩
theorem vecRearm (p : Path) (w : Fin 16) (v : Word) : Statement (.vecRearm p w v) := ⟨rfl, fun _ => rfl⟩
theorem msixUnmask (v : Option (Fin 512)) : Statement (.msixUnmask v) := ⟨rfl, fun _ => rfl⟩
theorem smbRead (addr : BitVec 7) (off : BitVec 32) : Statement (.smbRead addr off) := ⟨rfl, fun _ => rfl⟩
theorem smbWrite (addr : BitVec 7) (off v : BitVec 32) (pec : Option Byte) : Statement (.smbWrite addr off v pec) := ⟨rfl, fun _ => rfl⟩
theorem smbStatus (addr : BitVec 7) : Statement (.smbStatus addr) := ⟨rfl, fun _ => rfl⟩
theorem loadGo (path : Path) : Statement (.loadGo path) := ⟨rfl, fun _ => rfl⟩
theorem loadOk : Statement (.loadOk) := ⟨rfl, fun _ => rfl⟩
theorem loadFail (ue : Option (BitVec 37)) : Statement (.loadFail ue) := ⟨rfl, fun _ => rfl⟩
theorem provision (path : Path) (arg : BitVec 16) : Statement (.provision path arg) := ⟨rfl, fun _ => rfl⟩
theorem provisionDone : Statement (.provisionDone) := ⟨rfl, fun _ => rfl⟩
theorem kekTaken (path : Path) : Statement (.kekTaken path) := ⟨rfl, fun _ => rfl⟩
theorem challenge (path : Path) : Statement (.challenge path) := ⟨rfl, fun _ => rfl⟩
theorem challengeExpiry : Statement (.challengeExpiry) := ⟨rfl, fun _ => rfl⟩
theorem submit (path : Path) : Statement (.submit path) := ⟨rfl, fun _ => rfl⟩
theorem authUnlock : Statement (.authUnlock) := ⟨rfl, fun _ => rfl⟩
theorem authRetire : Statement (.authRetire) := ⟨rfl, fun _ => rfl⟩
theorem authRevoke : Statement (.authRevoke) := ⟨rfl, fun _ => rfl⟩
theorem authAdvanceSvn : Statement (.authAdvanceSvn) := ⟨rfl, fun _ => rfl⟩
theorem lockoutEnd : Statement (.lockoutEnd) := ⟨rfl, fun _ => rfl⟩
theorem relock (path : Path) : Statement (.relock path) := ⟨rfl, fun _ => rfl⟩
theorem snap (path : Path) : Statement (.snap path) := ⟨rfl, fun _ => rfl⟩
theorem monitorBreach (b : Breach) : Statement (.monitorBreach b) := ⟨rfl, fun _ => rfl⟩
theorem df2Evaluation (powers : List (List Nat)) : Statement (.df2Evaluation powers) := ⟨rfl, fun _ => rfl⟩
theorem biasStepSample (b : Fin 64) (nA : Int) : Statement (.biasStepSample b nA) := ⟨rfl, fun _ => rfl⟩
theorem clockCheck (count : Nat) : Statement (.clockCheck count) := ⟨rfl, fun _ => rfl⟩
theorem heartbeatTimeout (n : Fin 64) : Statement (.heartbeatTimeout n) := ⟨rfl, fun _ => rfl⟩
theorem ueLine (off : Fin 0x4000000) : Statement (.ueLine off) := ⟨rfl, fun _ => rfl⟩
theorem plantIlkChange (asserted : Bool) : Statement (.plantIlkChange asserted) := ⟨rfl, fun _ => rfl⟩
theorem trip : Statement (.trip) := ⟨rfl, fun _ => rfl⟩
theorem permitLoss : Statement (.permitLoss) := ⟨rfl, fun _ => rfl⟩
theorem supSupplyFail : Statement (.supSupplyFail) := ⟨rfl, fun _ => rfl⟩
theorem biasSafeRampStep (b : Fin 64) : Statement (.biasSafeRampStep b) := ⟨rfl, fun _ => rfl⟩
theorem disagree (m : Fin 240) (c : Fin 4) (samples : Nat) : Statement (.disagree m c samples) := ⟨rfl, fun _ => rfl⟩
theorem arbitrationDecision (a b dac : Int) : Statement (.arbitrationDecision a b dac) := ⟨rfl, fun _ => rfl⟩
theorem blankStart (m : Fin 240) : Statement (.blankStart m) := ⟨rfl, fun _ => rfl⟩
theorem blankEnd (m : Fin 240) : Statement (.blankEnd m) := ⟨rfl, fun _ => rfl⟩
theorem madcSlot (a b : BitVec 16) (tap : Option (Fin 24 × Int)) : Statement (.madcSlot a b tap) := ⟨rfl, fun _ => rfl⟩
theorem madcStart (path : Path) (x : Fin 2) (v : Word) : Statement (.madcStart path x v) := ⟨rfl, fun _ => rfl⟩
theorem madcDone (x : Fin 2) : Statement (.madcDone x) := ⟨rfl, fun _ => rfl⟩
theorem madcResultRead (path : Path) (x : Fin 2) : Statement (.madcResultRead path x) := ⟨rfl, fun _ => rfl⟩
theorem selftestStart (path : Path) (v : Word) : Statement (.selftestStart path v) := ⟨rfl, fun _ => rfl⟩
theorem selftestPassEnd (found : SelfTest) : Statement (.selftestPassEnd found) := ⟨rfl, fun _ => rfl⟩
theorem clrTrip (path : Path) (v : Word) : Statement (.clrTrip path v) := ⟨rfl, fun _ => rfl⟩
theorem monFlagClear (path : Path) (m : Fin 240) : Statement (.monFlagClear path m) := ⟨rfl, fun _ => rfl⟩
theorem monitorQualify (m : Fin 240) : Statement (.monitorQualify m) := ⟨rfl, fun _ => rfl⟩
theorem sensorMeasure (k : Fin 24) (reading : Option Word) : Statement (.sensorMeasure k reading) := ⟨rfl, fun _ => rfl⟩
theorem errorReport : Statement (.errorReport) := ⟨rfl, fun _ => rfl⟩
theorem errAck (path : Path) (v : Word) : Statement (.errAck path v) := ⟨rfl, fun _ => rfl⟩
theorem portStateChoice (p : Fin 256) : Statement (.portStateChoice p) := ⟨rfl, fun _ => rfl⟩
theorem portWakeDone (p : Fin 256) : Statement (.portWakeDone p) := ⟨rfl, fun _ => rfl⟩
theorem latTolWrite (path : Path) (g : Fin 16) (v : Word) : Statement (.latTolWrite path g v) := ⟨rfl, fun _ => rfl⟩
theorem dormTolWrite (path : Path) (v : Word) : Statement (.dormTolWrite path v) := ⟨rfl, fun _ => rfl⟩
theorem dormantRestoreDone : Statement (.dormantRestoreDone) := ⟨rfl, fun _ => rfl⟩
theorem energySample (nj : List Nat) (total : Nat) : Statement (.energySample nj total) := ⟨rfl, fun _ => rfl⟩
theorem energySnap (path : Path) (v : Word) : Statement (.energySnap path v) := ⟨rfl, fun _ => rfl⟩
theorem energyClear (path : Path) (v : Word) : Statement (.energyClear path v) := ⟨rfl, fun _ => rfl⟩
theorem powerOnReset : Statement (.powerOnReset) := ⟨rfl, fun _ => rfl⟩
theorem systemReset (rail : Option (Fin 24)) : Statement (.systemReset rail) := ⟨rfl, fun _ => rfl⟩
theorem softwareReset (path : Path) (v : Word) : Statement (.softwareReset path v) := ⟨rfl, fun _ => rfl⟩
theorem endpointReset : Statement (.endpointReset) := ⟨rfl, fun _ => rfl⟩
theorem permitsRestore : Statement (.permitsRestore) := ⟨rfl, fun _ => rfl⟩
theorem tapExtest (cells : List Bool) : Statement (.tapExtest cells) := ⟨rfl, fun _ => rfl⟩
theorem tapSamplePreload (cells : List Bool) : Statement (.tapSamplePreload cells) := ⟨rfl, fun _ => rfl⟩
theorem tapIdcode : Statement (.tapIdcode) := ⟨rfl, fun _ => rfl⟩
theorem tapSecAcc (off : BitVec 26) (write : Bool) (v : Word) : Statement (.tapSecAcc off write v) := ⟨rfl, fun _ => rfl⟩
theorem tapBar0Acc (off : BitVec 26) (write : Bool) (v : Word) : Statement (.tapBar0Acc off write v) := ⟨rfl, fun _ => rfl⟩
theorem tapMemAcc (bar4 write : Bool) (addr : BitVec 64) (v : Word) : Statement (.tapMemAcc bar4 write addr v) := ⟨rfl, fun _ => rfl⟩
theorem tapBypass : Statement (.tapBypass) := ⟨rfl, fun _ => rfl⟩
theorem refReturn (src : Fin 8) : Statement (.refReturn src) := ⟨rfl, fun _ => rfl⟩
theorem cdrLockLoss (p : Fin 4) : Statement (.cdrLockLoss p) := ⟨rfl, fun _ => rfl⟩
theorem monitorBreachClear (m : Fin 240) (c : Fin 4) : Statement (.monitorBreachClear m c) := ⟨rfl, fun _ => rfl⟩
theorem trgInGlitch (k : Fin 16) : Statement (.trgInGlitch k) := ⟨rfl, fun _ => rfl⟩
theorem bulkPacketStart (p : Fin 4) : Statement (.bulkPacketStart p) := ⟨rfl, fun _ => rfl⟩
theorem porstNRelease (strap : Bool) (addr : BitVec 2) : Statement (.porstNRelease strap addr) := ⟨rfl, fun _ => rfl⟩
theorem reqReserved (path : Path) (code : Fin 8) (key : Byte) : Statement (.reqReserved path code key) := ⟨rfl, fun _ => rfl⟩

end Sys2Proof.Laws.TimeAndQueue
end

