-- ==== Sys2Proof/Laws/State.lean ====
section
/-! SUPPORT. Laws/State.lean: every named update leaves every field of the state that it does not name (one lemma for each). -/

set_option Elab.async false

namespace Sys2Proof.Machine

variable {s : State}

@[simp] theorem wr_tick {off : Nat} {v : Word} : (s.wr off v).tick = s.tick := rfl
@[simp] theorem wr_evSet {off : Nat} {v : Word} : (s.wr off v).evSet = s.evSet := rfl
@[simp] theorem wr_wrOne {off : Nat} {v : Word} : (s.wr off v).wrOne = s.wrOne := rfl
@[simp] theorem wr_wrSet {off : Nat} {v : Word} : (s.wr off v).wrSet = s.wrSet := rfl
@[simp] theorem wr_heldRd {off : Nat} {v : Word} : (s.wr off v).heldRd = s.heldRd := rfl
@[simp] theorem wr_heldWr {off : Nat} {v : Word} : (s.wr off v).heldWr = s.heldWr := rfl
@[simp] theorem wr_resp {off : Nat} {v : Word} : (s.wr off v).resp = s.resp := rfl
@[simp] theorem wr_freeCtr {off : Nat} {v : Word} : (s.wr off v).freeCtr = s.freeCtr := rfl
@[simp] theorem wr_sram {off : Nat} {v : Word} : (s.wr off v).sram = s.sram := rfl
@[simp] theorem wr_dram {off : Nat} {v : Word} : (s.wr off v).dram = s.dram := rfl
@[simp] theorem wr_glb {off : Nat} {v : Word} : (s.wr off v).glb = s.glb := rfl
@[simp] theorem wr_tln {off : Nat} {v : Word} : (s.wr off v).tln = s.tln := rfl
@[simp] theorem wr_spn {off : Nat} {v : Word} : (s.wr off v).spn = s.spn := rfl
@[simp] theorem wr_later {off : Nat} {v : Word} : (s.wr off v).later = s.later := rfl
@[simp] theorem wr_syn {off : Nat} {v : Word} : (s.wr off v).syn = s.syn := rfl
@[simp] theorem wr_rv {off : Nat} {v : Word} : (s.wr off v).rv = s.rv := rfl
@[simp] theorem wr_rdo {off : Nat} {v : Word} : (s.wr off v).rdo = s.rdo := rfl
@[simp] theorem wr_dsc {off : Nat} {v : Word} : (s.wr off v).dsc = s.dsc := rfl
@[simp] theorem wr_fab {off : Nat} {v : Word} : (s.wr off v).fab = s.fab := rfl
@[simp] theorem wr_csc {off : Nat} {v : Word} : (s.wr off v).csc = s.csc := rfl
@[simp] theorem wr_bob {off : Nat} {v : Word} : (s.wr off v).bob = s.bob := rfl
@[simp] theorem wr_mem {off : Nat} {v : Word} : (s.wr off v).mem = s.mem := rfl
@[simp] theorem wr_jobs {off : Nat} {v : Word} : (s.wr off v).jobs = s.jobs := rfl
@[simp] theorem wr_hif {off : Nat} {v : Word} : (s.wr off v).hif = s.hif := rfl
@[simp] theorem wr_sec {off : Nat} {v : Word} : (s.wr off v).sec = s.sec := rfl
@[simp] theorem wr_sup {off : Nat} {v : Word} : (s.wr off v).sup = s.sup := rfl
@[simp] theorem wr_pwr {off : Nat} {v : Word} : (s.wr off v).pwr = s.pwr := rfl
@[simp] theorem wr_tap {off : Nat} {v : Word} : (s.wr off v).tap = s.tap := rfl
@[simp] theorem wr_pending {off : Nat} {v : Word} : (s.wr off v).pending = s.pending := rfl

@[simp] theorem put_tick {f : Field} {n : Nat} : (s.put f n).tick = s.tick := rfl
@[simp] theorem put_evSet {f : Field} {n : Nat} : (s.put f n).evSet = s.evSet := rfl
@[simp] theorem put_wrOne {f : Field} {n : Nat} : (s.put f n).wrOne = s.wrOne := rfl
@[simp] theorem put_wrSet {f : Field} {n : Nat} : (s.put f n).wrSet = s.wrSet := rfl
@[simp] theorem put_heldRd {f : Field} {n : Nat} : (s.put f n).heldRd = s.heldRd := rfl
@[simp] theorem put_heldWr {f : Field} {n : Nat} : (s.put f n).heldWr = s.heldWr := rfl
@[simp] theorem put_resp {f : Field} {n : Nat} : (s.put f n).resp = s.resp := rfl
@[simp] theorem put_freeCtr {f : Field} {n : Nat} : (s.put f n).freeCtr = s.freeCtr := rfl
@[simp] theorem put_sram {f : Field} {n : Nat} : (s.put f n).sram = s.sram := rfl
@[simp] theorem put_dram {f : Field} {n : Nat} : (s.put f n).dram = s.dram := rfl
@[simp] theorem put_glb {f : Field} {n : Nat} : (s.put f n).glb = s.glb := rfl
@[simp] theorem put_tln {f : Field} {n : Nat} : (s.put f n).tln = s.tln := rfl
@[simp] theorem put_spn {f : Field} {n : Nat} : (s.put f n).spn = s.spn := rfl
@[simp] theorem put_later {f : Field} {n : Nat} : (s.put f n).later = s.later := rfl
@[simp] theorem put_syn {f : Field} {n : Nat} : (s.put f n).syn = s.syn := rfl
@[simp] theorem put_rv {f : Field} {n : Nat} : (s.put f n).rv = s.rv := rfl
@[simp] theorem put_rdo {f : Field} {n : Nat} : (s.put f n).rdo = s.rdo := rfl
@[simp] theorem put_dsc {f : Field} {n : Nat} : (s.put f n).dsc = s.dsc := rfl
@[simp] theorem put_fab {f : Field} {n : Nat} : (s.put f n).fab = s.fab := rfl
@[simp] theorem put_csc {f : Field} {n : Nat} : (s.put f n).csc = s.csc := rfl
@[simp] theorem put_bob {f : Field} {n : Nat} : (s.put f n).bob = s.bob := rfl
@[simp] theorem put_mem {f : Field} {n : Nat} : (s.put f n).mem = s.mem := rfl
@[simp] theorem put_jobs {f : Field} {n : Nat} : (s.put f n).jobs = s.jobs := rfl
@[simp] theorem put_hif {f : Field} {n : Nat} : (s.put f n).hif = s.hif := rfl
@[simp] theorem put_sec {f : Field} {n : Nat} : (s.put f n).sec = s.sec := rfl
@[simp] theorem put_sup {f : Field} {n : Nat} : (s.put f n).sup = s.sup := rfl
@[simp] theorem put_pwr {f : Field} {n : Nat} : (s.put f n).pwr = s.pwr := rfl
@[simp] theorem put_tap {f : Field} {n : Nat} : (s.put f n).tap = s.tap := rfl
@[simp] theorem put_pending {f : Field} {n : Nat} : (s.put f n).pending = s.pending := rfl

@[simp] theorem count_tick {f : Field} {k : Nat} : (s.count f k).tick = s.tick := rfl
@[simp] theorem count_evSet {f : Field} {k : Nat} : (s.count f k).evSet = s.evSet := rfl
@[simp] theorem count_wrOne {f : Field} {k : Nat} : (s.count f k).wrOne = s.wrOne := rfl
@[simp] theorem count_wrSet {f : Field} {k : Nat} : (s.count f k).wrSet = s.wrSet := rfl
@[simp] theorem count_heldRd {f : Field} {k : Nat} : (s.count f k).heldRd = s.heldRd := rfl
@[simp] theorem count_heldWr {f : Field} {k : Nat} : (s.count f k).heldWr = s.heldWr := rfl
@[simp] theorem count_resp {f : Field} {k : Nat} : (s.count f k).resp = s.resp := rfl
@[simp] theorem count_freeCtr {f : Field} {k : Nat} : (s.count f k).freeCtr = s.freeCtr := rfl
@[simp] theorem count_sram {f : Field} {k : Nat} : (s.count f k).sram = s.sram := rfl
@[simp] theorem count_dram {f : Field} {k : Nat} : (s.count f k).dram = s.dram := rfl
@[simp] theorem count_glb {f : Field} {k : Nat} : (s.count f k).glb = s.glb := rfl
@[simp] theorem count_tln {f : Field} {k : Nat} : (s.count f k).tln = s.tln := rfl
@[simp] theorem count_spn {f : Field} {k : Nat} : (s.count f k).spn = s.spn := rfl
@[simp] theorem count_later {f : Field} {k : Nat} : (s.count f k).later = s.later := rfl
@[simp] theorem count_syn {f : Field} {k : Nat} : (s.count f k).syn = s.syn := rfl
@[simp] theorem count_rv {f : Field} {k : Nat} : (s.count f k).rv = s.rv := rfl
@[simp] theorem count_rdo {f : Field} {k : Nat} : (s.count f k).rdo = s.rdo := rfl
@[simp] theorem count_dsc {f : Field} {k : Nat} : (s.count f k).dsc = s.dsc := rfl
@[simp] theorem count_fab {f : Field} {k : Nat} : (s.count f k).fab = s.fab := rfl
@[simp] theorem count_csc {f : Field} {k : Nat} : (s.count f k).csc = s.csc := rfl
@[simp] theorem count_bob {f : Field} {k : Nat} : (s.count f k).bob = s.bob := rfl
@[simp] theorem count_mem {f : Field} {k : Nat} : (s.count f k).mem = s.mem := rfl
@[simp] theorem count_jobs {f : Field} {k : Nat} : (s.count f k).jobs = s.jobs := rfl
@[simp] theorem count_hif {f : Field} {k : Nat} : (s.count f k).hif = s.hif := rfl
@[simp] theorem count_sec {f : Field} {k : Nat} : (s.count f k).sec = s.sec := rfl
@[simp] theorem count_sup {f : Field} {k : Nat} : (s.count f k).sup = s.sup := rfl
@[simp] theorem count_pwr {f : Field} {k : Nat} : (s.count f k).pwr = s.pwr := rfl
@[simp] theorem count_tap {f : Field} {k : Nat} : (s.count f k).tap = s.tap := rfl
@[simp] theorem count_pending {f : Field} {k : Nat} : (s.count f k).pending = s.pending := rfl

@[simp] theorem wr64_tick {lo n : Nat} : (s.wr64 lo n).tick = s.tick := rfl
@[simp] theorem wr64_evSet {lo n : Nat} : (s.wr64 lo n).evSet = s.evSet := rfl
@[simp] theorem wr64_wrOne {lo n : Nat} : (s.wr64 lo n).wrOne = s.wrOne := rfl
@[simp] theorem wr64_wrSet {lo n : Nat} : (s.wr64 lo n).wrSet = s.wrSet := rfl
@[simp] theorem wr64_heldRd {lo n : Nat} : (s.wr64 lo n).heldRd = s.heldRd := rfl
@[simp] theorem wr64_heldWr {lo n : Nat} : (s.wr64 lo n).heldWr = s.heldWr := rfl
@[simp] theorem wr64_resp {lo n : Nat} : (s.wr64 lo n).resp = s.resp := rfl
@[simp] theorem wr64_freeCtr {lo n : Nat} : (s.wr64 lo n).freeCtr = s.freeCtr := rfl
@[simp] theorem wr64_sram {lo n : Nat} : (s.wr64 lo n).sram = s.sram := rfl
@[simp] theorem wr64_dram {lo n : Nat} : (s.wr64 lo n).dram = s.dram := rfl
@[simp] theorem wr64_glb {lo n : Nat} : (s.wr64 lo n).glb = s.glb := rfl
@[simp] theorem wr64_tln {lo n : Nat} : (s.wr64 lo n).tln = s.tln := rfl
@[simp] theorem wr64_spn {lo n : Nat} : (s.wr64 lo n).spn = s.spn := rfl
@[simp] theorem wr64_later {lo n : Nat} : (s.wr64 lo n).later = s.later := rfl
@[simp] theorem wr64_syn {lo n : Nat} : (s.wr64 lo n).syn = s.syn := rfl
@[simp] theorem wr64_rv {lo n : Nat} : (s.wr64 lo n).rv = s.rv := rfl
@[simp] theorem wr64_rdo {lo n : Nat} : (s.wr64 lo n).rdo = s.rdo := rfl
@[simp] theorem wr64_dsc {lo n : Nat} : (s.wr64 lo n).dsc = s.dsc := rfl
@[simp] theorem wr64_fab {lo n : Nat} : (s.wr64 lo n).fab = s.fab := rfl
@[simp] theorem wr64_csc {lo n : Nat} : (s.wr64 lo n).csc = s.csc := rfl
@[simp] theorem wr64_bob {lo n : Nat} : (s.wr64 lo n).bob = s.bob := rfl
@[simp] theorem wr64_mem {lo n : Nat} : (s.wr64 lo n).mem = s.mem := rfl
@[simp] theorem wr64_jobs {lo n : Nat} : (s.wr64 lo n).jobs = s.jobs := rfl
@[simp] theorem wr64_hif {lo n : Nat} : (s.wr64 lo n).hif = s.hif := rfl
@[simp] theorem wr64_sec {lo n : Nat} : (s.wr64 lo n).sec = s.sec := rfl
@[simp] theorem wr64_sup {lo n : Nat} : (s.wr64 lo n).sup = s.sup := rfl
@[simp] theorem wr64_pwr {lo n : Nat} : (s.wr64 lo n).pwr = s.pwr := rfl
@[simp] theorem wr64_tap {lo n : Nat} : (s.wr64 lo n).tap = s.tap := rfl
@[simp] theorem wr64_pending {lo n : Nat} : (s.wr64 lo n).pending = s.pending := rfl

@[simp] theorem setFlag_tick {f : Field} : (s.setFlag f).tick = s.tick := rfl
@[simp] theorem setFlag_wrOne {f : Field} : (s.setFlag f).wrOne = s.wrOne := rfl
@[simp] theorem setFlag_wrSet {f : Field} : (s.setFlag f).wrSet = s.wrSet := rfl
@[simp] theorem setFlag_heldRd {f : Field} : (s.setFlag f).heldRd = s.heldRd := rfl
@[simp] theorem setFlag_heldWr {f : Field} : (s.setFlag f).heldWr = s.heldWr := rfl
@[simp] theorem setFlag_resp {f : Field} : (s.setFlag f).resp = s.resp := rfl
@[simp] theorem setFlag_freeCtr {f : Field} : (s.setFlag f).freeCtr = s.freeCtr := rfl
@[simp] theorem setFlag_sram {f : Field} : (s.setFlag f).sram = s.sram := rfl
@[simp] theorem setFlag_dram {f : Field} : (s.setFlag f).dram = s.dram := rfl
@[simp] theorem setFlag_glb {f : Field} : (s.setFlag f).glb = s.glb := rfl
@[simp] theorem setFlag_tln {f : Field} : (s.setFlag f).tln = s.tln := rfl
@[simp] theorem setFlag_spn {f : Field} : (s.setFlag f).spn = s.spn := rfl
@[simp] theorem setFlag_later {f : Field} : (s.setFlag f).later = s.later := rfl
@[simp] theorem setFlag_syn {f : Field} : (s.setFlag f).syn = s.syn := rfl
@[simp] theorem setFlag_rv {f : Field} : (s.setFlag f).rv = s.rv := rfl
@[simp] theorem setFlag_rdo {f : Field} : (s.setFlag f).rdo = s.rdo := rfl
@[simp] theorem setFlag_dsc {f : Field} : (s.setFlag f).dsc = s.dsc := rfl
@[simp] theorem setFlag_fab {f : Field} : (s.setFlag f).fab = s.fab := rfl
@[simp] theorem setFlag_csc {f : Field} : (s.setFlag f).csc = s.csc := rfl
@[simp] theorem setFlag_bob {f : Field} : (s.setFlag f).bob = s.bob := rfl
@[simp] theorem setFlag_mem {f : Field} : (s.setFlag f).mem = s.mem := rfl
@[simp] theorem setFlag_jobs {f : Field} : (s.setFlag f).jobs = s.jobs := rfl
@[simp] theorem setFlag_hif {f : Field} : (s.setFlag f).hif = s.hif := rfl
@[simp] theorem setFlag_sec {f : Field} : (s.setFlag f).sec = s.sec := rfl
@[simp] theorem setFlag_sup {f : Field} : (s.setFlag f).sup = s.sup := rfl
@[simp] theorem setFlag_pwr {f : Field} : (s.setFlag f).pwr = s.pwr := rfl
@[simp] theorem setFlag_tap {f : Field} : (s.setFlag f).tap = s.tap := rfl
@[simp] theorem setFlag_pending {f : Field} : (s.setFlag f).pending = s.pending := rfl

@[simp] theorem drop_tick {f : Field} : (s.drop f).tick = s.tick := by unfold State.drop; split <;> rfl
@[simp] theorem drop_evSet {f : Field} : (s.drop f).evSet = s.evSet := by unfold State.drop; split <;> rfl
@[simp] theorem drop_wrOne {f : Field} : (s.drop f).wrOne = s.wrOne := by unfold State.drop; split <;> rfl
@[simp] theorem drop_wrSet {f : Field} : (s.drop f).wrSet = s.wrSet := by unfold State.drop; split <;> rfl
@[simp] theorem drop_heldRd {f : Field} : (s.drop f).heldRd = s.heldRd := by unfold State.drop; split <;> rfl
@[simp] theorem drop_heldWr {f : Field} : (s.drop f).heldWr = s.heldWr := by unfold State.drop; split <;> rfl
@[simp] theorem drop_resp {f : Field} : (s.drop f).resp = s.resp := by unfold State.drop; split <;> rfl
@[simp] theorem drop_freeCtr {f : Field} : (s.drop f).freeCtr = s.freeCtr := by unfold State.drop; split <;> rfl
@[simp] theorem drop_sram {f : Field} : (s.drop f).sram = s.sram := by unfold State.drop; split <;> rfl
@[simp] theorem drop_dram {f : Field} : (s.drop f).dram = s.dram := by unfold State.drop; split <;> rfl
@[simp] theorem drop_glb {f : Field} : (s.drop f).glb = s.glb := by unfold State.drop; split <;> rfl
@[simp] theorem drop_tln {f : Field} : (s.drop f).tln = s.tln := by unfold State.drop; split <;> rfl
@[simp] theorem drop_spn {f : Field} : (s.drop f).spn = s.spn := by unfold State.drop; split <;> rfl
@[simp] theorem drop_later {f : Field} : (s.drop f).later = s.later := by unfold State.drop; split <;> rfl
@[simp] theorem drop_syn {f : Field} : (s.drop f).syn = s.syn := by unfold State.drop; split <;> rfl
@[simp] theorem drop_rv {f : Field} : (s.drop f).rv = s.rv := by unfold State.drop; split <;> rfl
@[simp] theorem drop_rdo {f : Field} : (s.drop f).rdo = s.rdo := by unfold State.drop; split <;> rfl
@[simp] theorem drop_dsc {f : Field} : (s.drop f).dsc = s.dsc := by unfold State.drop; split <;> rfl
@[simp] theorem drop_fab {f : Field} : (s.drop f).fab = s.fab := by unfold State.drop; split <;> rfl
@[simp] theorem drop_csc {f : Field} : (s.drop f).csc = s.csc := by unfold State.drop; split <;> rfl
@[simp] theorem drop_bob {f : Field} : (s.drop f).bob = s.bob := by unfold State.drop; split <;> rfl
@[simp] theorem drop_mem {f : Field} : (s.drop f).mem = s.mem := by unfold State.drop; split <;> rfl
@[simp] theorem drop_jobs {f : Field} : (s.drop f).jobs = s.jobs := by unfold State.drop; split <;> rfl
@[simp] theorem drop_hif {f : Field} : (s.drop f).hif = s.hif := by unfold State.drop; split <;> rfl
@[simp] theorem drop_sec {f : Field} : (s.drop f).sec = s.sec := by unfold State.drop; split <;> rfl
@[simp] theorem drop_sup {f : Field} : (s.drop f).sup = s.sup := by unfold State.drop; split <;> rfl
@[simp] theorem drop_pwr {f : Field} : (s.drop f).pwr = s.pwr := by unfold State.drop; split <;> rfl
@[simp] theorem drop_tap {f : Field} : (s.drop f).tap = s.tap := by unfold State.drop; split <;> rfl
@[simp] theorem drop_pending {f : Field} : (s.drop f).pending = s.pending := by unfold State.drop; split <;> rfl

@[simp] theorem report_tick {c e i v : Nat} : (s.report c e i v).tick = s.tick := rfl
@[simp] theorem report_regs {c e i v : Nat} : (s.report c e i v).regs = s.regs := rfl
@[simp] theorem report_evSet {c e i v : Nat} : (s.report c e i v).evSet = s.evSet := rfl
@[simp] theorem report_wrOne {c e i v : Nat} : (s.report c e i v).wrOne = s.wrOne := rfl
@[simp] theorem report_wrSet {c e i v : Nat} : (s.report c e i v).wrSet = s.wrSet := rfl
@[simp] theorem report_heldRd {c e i v : Nat} : (s.report c e i v).heldRd = s.heldRd := rfl
@[simp] theorem report_heldWr {c e i v : Nat} : (s.report c e i v).heldWr = s.heldWr := rfl
@[simp] theorem report_resp {c e i v : Nat} : (s.report c e i v).resp = s.resp := rfl
@[simp] theorem report_freeCtr {c e i v : Nat} : (s.report c e i v).freeCtr = s.freeCtr := rfl
@[simp] theorem report_sram {c e i v : Nat} : (s.report c e i v).sram = s.sram := rfl
@[simp] theorem report_dram {c e i v : Nat} : (s.report c e i v).dram = s.dram := rfl
@[simp] theorem report_glb {c e i v : Nat} : (s.report c e i v).glb = s.glb := rfl
@[simp] theorem report_tln {c e i v : Nat} : (s.report c e i v).tln = s.tln := rfl
@[simp] theorem report_spn {c e i v : Nat} : (s.report c e i v).spn = s.spn := rfl
@[simp] theorem report_later {c e i v : Nat} : (s.report c e i v).later = s.later := rfl
@[simp] theorem report_syn {c e i v : Nat} : (s.report c e i v).syn = s.syn := rfl
@[simp] theorem report_rv {c e i v : Nat} : (s.report c e i v).rv = s.rv := rfl
@[simp] theorem report_rdo {c e i v : Nat} : (s.report c e i v).rdo = s.rdo := rfl
@[simp] theorem report_dsc {c e i v : Nat} : (s.report c e i v).dsc = s.dsc := rfl
@[simp] theorem report_fab {c e i v : Nat} : (s.report c e i v).fab = s.fab := rfl
@[simp] theorem report_csc {c e i v : Nat} : (s.report c e i v).csc = s.csc := rfl
@[simp] theorem report_bob {c e i v : Nat} : (s.report c e i v).bob = s.bob := rfl
@[simp] theorem report_mem {c e i v : Nat} : (s.report c e i v).mem = s.mem := rfl
@[simp] theorem report_jobs {c e i v : Nat} : (s.report c e i v).jobs = s.jobs := rfl
@[simp] theorem report_hif {c e i v : Nat} : (s.report c e i v).hif = s.hif := rfl
@[simp] theorem report_sec {c e i v : Nat} : (s.report c e i v).sec = s.sec := rfl
@[simp] theorem report_pwr {c e i v : Nat} : (s.report c e i v).pwr = s.pwr := rfl
@[simp] theorem report_tap {c e i v : Nat} : (s.report c e i v).tap = s.tap := rfl
@[simp] theorem report_pending {c e i v : Nat} : (s.report c e i v).pending = s.pending := rfl

@[simp] theorem raise_tick {f : Field} {i : Nat} : (s.raise f i).tick = s.tick := by unfold State.raise; split <;> rfl
@[simp] theorem raise_wrOne {f : Field} {i : Nat} : (s.raise f i).wrOne = s.wrOne := by unfold State.raise; split <;> rfl
@[simp] theorem raise_wrSet {f : Field} {i : Nat} : (s.raise f i).wrSet = s.wrSet := by unfold State.raise; split <;> rfl
@[simp] theorem raise_heldRd {f : Field} {i : Nat} : (s.raise f i).heldRd = s.heldRd := by unfold State.raise; split <;> rfl
@[simp] theorem raise_heldWr {f : Field} {i : Nat} : (s.raise f i).heldWr = s.heldWr := by unfold State.raise; split <;> rfl
@[simp] theorem raise_resp {f : Field} {i : Nat} : (s.raise f i).resp = s.resp := by unfold State.raise; split <;> rfl
@[simp] theorem raise_freeCtr {f : Field} {i : Nat} : (s.raise f i).freeCtr = s.freeCtr := by unfold State.raise; split <;> rfl
@[simp] theorem raise_sram {f : Field} {i : Nat} : (s.raise f i).sram = s.sram := by unfold State.raise; split <;> rfl
@[simp] theorem raise_dram {f : Field} {i : Nat} : (s.raise f i).dram = s.dram := by unfold State.raise; split <;> rfl
@[simp] theorem raise_glb {f : Field} {i : Nat} : (s.raise f i).glb = s.glb := by unfold State.raise; split <;> rfl
@[simp] theorem raise_tln {f : Field} {i : Nat} : (s.raise f i).tln = s.tln := by unfold State.raise; split <;> rfl
@[simp] theorem raise_spn {f : Field} {i : Nat} : (s.raise f i).spn = s.spn := by unfold State.raise; split <;> rfl
@[simp] theorem raise_later {f : Field} {i : Nat} : (s.raise f i).later = s.later := by unfold State.raise; split <;> rfl
@[simp] theorem raise_syn {f : Field} {i : Nat} : (s.raise f i).syn = s.syn := by unfold State.raise; split <;> rfl
@[simp] theorem raise_rv {f : Field} {i : Nat} : (s.raise f i).rv = s.rv := by unfold State.raise; split <;> rfl
@[simp] theorem raise_rdo {f : Field} {i : Nat} : (s.raise f i).rdo = s.rdo := by unfold State.raise; split <;> rfl
@[simp] theorem raise_dsc {f : Field} {i : Nat} : (s.raise f i).dsc = s.dsc := by unfold State.raise; split <;> rfl
@[simp] theorem raise_fab {f : Field} {i : Nat} : (s.raise f i).fab = s.fab := by unfold State.raise; split <;> rfl
@[simp] theorem raise_csc {f : Field} {i : Nat} : (s.raise f i).csc = s.csc := by unfold State.raise; split <;> rfl
@[simp] theorem raise_bob {f : Field} {i : Nat} : (s.raise f i).bob = s.bob := by unfold State.raise; split <;> rfl
@[simp] theorem raise_mem {f : Field} {i : Nat} : (s.raise f i).mem = s.mem := by unfold State.raise; split <;> rfl
@[simp] theorem raise_jobs {f : Field} {i : Nat} : (s.raise f i).jobs = s.jobs := by unfold State.raise; split <;> rfl
@[simp] theorem raise_hif {f : Field} {i : Nat} : (s.raise f i).hif = s.hif := by unfold State.raise; split <;> rfl
@[simp] theorem raise_sec {f : Field} {i : Nat} : (s.raise f i).sec = s.sec := by unfold State.raise; split <;> rfl
@[simp] theorem raise_pwr {f : Field} {i : Nat} : (s.raise f i).pwr = s.pwr := by unfold State.raise; split <;> rfl
@[simp] theorem raise_tap {f : Field} {i : Nat} : (s.raise f i).tap = s.tap := by unfold State.raise; split <;> rfl
@[simp] theorem raise_pending {f : Field} {i : Nat} : (s.raise f i).pending = s.pending := by unfold State.raise; split <;> rfl

@[simp] theorem raiseIf_tick {c : Bool} {f : Field} {i : Nat} : (s.raiseIf c f i).tick = s.tick := by cases c <;> simp [State.raiseIf]
@[simp] theorem raiseIf_wrOne {c : Bool} {f : Field} {i : Nat} : (s.raiseIf c f i).wrOne = s.wrOne := by cases c <;> simp [State.raiseIf]
@[simp] theorem raiseIf_wrSet {c : Bool} {f : Field} {i : Nat} : (s.raiseIf c f i).wrSet = s.wrSet := by cases c <;> simp [State.raiseIf]
@[simp] theorem raiseIf_heldRd {c : Bool} {f : Field} {i : Nat} : (s.raiseIf c f i).heldRd = s.heldRd := by cases c <;> simp [State.raiseIf]
@[simp] theorem raiseIf_heldWr {c : Bool} {f : Field} {i : Nat} : (s.raiseIf c f i).heldWr = s.heldWr := by cases c <;> simp [State.raiseIf]
@[simp] theorem raiseIf_resp {c : Bool} {f : Field} {i : Nat} : (s.raiseIf c f i).resp = s.resp := by cases c <;> simp [State.raiseIf]
@[simp] theorem raiseIf_freeCtr {c : Bool} {f : Field} {i : Nat} : (s.raiseIf c f i).freeCtr = s.freeCtr := by cases c <;> simp [State.raiseIf]
@[simp] theorem raiseIf_sram {c : Bool} {f : Field} {i : Nat} : (s.raiseIf c f i).sram = s.sram := by cases c <;> simp [State.raiseIf]
@[simp] theorem raiseIf_dram {c : Bool} {f : Field} {i : Nat} : (s.raiseIf c f i).dram = s.dram := by cases c <;> simp [State.raiseIf]
@[simp] theorem raiseIf_glb {c : Bool} {f : Field} {i : Nat} : (s.raiseIf c f i).glb = s.glb := by cases c <;> simp [State.raiseIf]
@[simp] theorem raiseIf_tln {c : Bool} {f : Field} {i : Nat} : (s.raiseIf c f i).tln = s.tln := by cases c <;> simp [State.raiseIf]
@[simp] theorem raiseIf_spn {c : Bool} {f : Field} {i : Nat} : (s.raiseIf c f i).spn = s.spn := by cases c <;> simp [State.raiseIf]
@[simp] theorem raiseIf_later {c : Bool} {f : Field} {i : Nat} : (s.raiseIf c f i).later = s.later := by cases c <;> simp [State.raiseIf]
@[simp] theorem raiseIf_syn {c : Bool} {f : Field} {i : Nat} : (s.raiseIf c f i).syn = s.syn := by cases c <;> simp [State.raiseIf]
@[simp] theorem raiseIf_rv {c : Bool} {f : Field} {i : Nat} : (s.raiseIf c f i).rv = s.rv := by cases c <;> simp [State.raiseIf]
@[simp] theorem raiseIf_rdo {c : Bool} {f : Field} {i : Nat} : (s.raiseIf c f i).rdo = s.rdo := by cases c <;> simp [State.raiseIf]
@[simp] theorem raiseIf_dsc {c : Bool} {f : Field} {i : Nat} : (s.raiseIf c f i).dsc = s.dsc := by cases c <;> simp [State.raiseIf]
@[simp] theorem raiseIf_fab {c : Bool} {f : Field} {i : Nat} : (s.raiseIf c f i).fab = s.fab := by cases c <;> simp [State.raiseIf]
@[simp] theorem raiseIf_csc {c : Bool} {f : Field} {i : Nat} : (s.raiseIf c f i).csc = s.csc := by cases c <;> simp [State.raiseIf]
@[simp] theorem raiseIf_bob {c : Bool} {f : Field} {i : Nat} : (s.raiseIf c f i).bob = s.bob := by cases c <;> simp [State.raiseIf]
@[simp] theorem raiseIf_mem {c : Bool} {f : Field} {i : Nat} : (s.raiseIf c f i).mem = s.mem := by cases c <;> simp [State.raiseIf]
@[simp] theorem raiseIf_jobs {c : Bool} {f : Field} {i : Nat} : (s.raiseIf c f i).jobs = s.jobs := by cases c <;> simp [State.raiseIf]
@[simp] theorem raiseIf_hif {c : Bool} {f : Field} {i : Nat} : (s.raiseIf c f i).hif = s.hif := by cases c <;> simp [State.raiseIf]
@[simp] theorem raiseIf_sec {c : Bool} {f : Field} {i : Nat} : (s.raiseIf c f i).sec = s.sec := by cases c <;> simp [State.raiseIf]
@[simp] theorem raiseIf_pwr {c : Bool} {f : Field} {i : Nat} : (s.raiseIf c f i).pwr = s.pwr := by cases c <;> simp [State.raiseIf]
@[simp] theorem raiseIf_tap {c : Bool} {f : Field} {i : Nat} : (s.raiseIf c f i).tap = s.tap := by cases c <;> simp [State.raiseIf]
@[simp] theorem raiseIf_pending {c : Bool} {f : Field} {i : Nat} : (s.raiseIf c f i).pending = s.pending := by cases c <;> simp [State.raiseIf]

@[simp] theorem resetRange_tick {a b : Nat} : (s.resetRange a b).tick = s.tick := rfl
@[simp] theorem resetRange_evSet {a b : Nat} : (s.resetRange a b).evSet = s.evSet := rfl
@[simp] theorem resetRange_wrOne {a b : Nat} : (s.resetRange a b).wrOne = s.wrOne := rfl
@[simp] theorem resetRange_wrSet {a b : Nat} : (s.resetRange a b).wrSet = s.wrSet := rfl
@[simp] theorem resetRange_heldRd {a b : Nat} : (s.resetRange a b).heldRd = s.heldRd := rfl
@[simp] theorem resetRange_heldWr {a b : Nat} : (s.resetRange a b).heldWr = s.heldWr := rfl
@[simp] theorem resetRange_resp {a b : Nat} : (s.resetRange a b).resp = s.resp := rfl
@[simp] theorem resetRange_freeCtr {a b : Nat} : (s.resetRange a b).freeCtr = s.freeCtr := rfl
@[simp] theorem resetRange_sram {a b : Nat} : (s.resetRange a b).sram = s.sram := rfl
@[simp] theorem resetRange_dram {a b : Nat} : (s.resetRange a b).dram = s.dram := rfl
@[simp] theorem resetRange_glb {a b : Nat} : (s.resetRange a b).glb = s.glb := rfl
@[simp] theorem resetRange_tln {a b : Nat} : (s.resetRange a b).tln = s.tln := rfl
@[simp] theorem resetRange_spn {a b : Nat} : (s.resetRange a b).spn = s.spn := rfl
@[simp] theorem resetRange_later {a b : Nat} : (s.resetRange a b).later = s.later := rfl
@[simp] theorem resetRange_syn {a b : Nat} : (s.resetRange a b).syn = s.syn := rfl
@[simp] theorem resetRange_rv {a b : Nat} : (s.resetRange a b).rv = s.rv := rfl
@[simp] theorem resetRange_rdo {a b : Nat} : (s.resetRange a b).rdo = s.rdo := rfl
@[simp] theorem resetRange_dsc {a b : Nat} : (s.resetRange a b).dsc = s.dsc := rfl
@[simp] theorem resetRange_fab {a b : Nat} : (s.resetRange a b).fab = s.fab := rfl
@[simp] theorem resetRange_csc {a b : Nat} : (s.resetRange a b).csc = s.csc := rfl
@[simp] theorem resetRange_bob {a b : Nat} : (s.resetRange a b).bob = s.bob := rfl
@[simp] theorem resetRange_mem {a b : Nat} : (s.resetRange a b).mem = s.mem := rfl
@[simp] theorem resetRange_jobs {a b : Nat} : (s.resetRange a b).jobs = s.jobs := rfl
@[simp] theorem resetRange_hif {a b : Nat} : (s.resetRange a b).hif = s.hif := rfl
@[simp] theorem resetRange_sec {a b : Nat} : (s.resetRange a b).sec = s.sec := rfl
@[simp] theorem resetRange_sup {a b : Nat} : (s.resetRange a b).sup = s.sup := rfl
@[simp] theorem resetRange_pwr {a b : Nat} : (s.resetRange a b).pwr = s.pwr := rfl
@[simp] theorem resetRange_tap {a b : Nat} : (s.resetRange a b).tap = s.tap := rfl
@[simp] theorem resetRange_pending {a b : Nat} : (s.resetRange a b).pending = s.pending := rfl

@[simp] theorem putSram_tick {a : Nat} {b : Byte} : (s.putSram a b).tick = s.tick := rfl
@[simp] theorem putSram_regs {a : Nat} {b : Byte} : (s.putSram a b).regs = s.regs := rfl
@[simp] theorem putSram_evSet {a : Nat} {b : Byte} : (s.putSram a b).evSet = s.evSet := rfl
@[simp] theorem putSram_wrOne {a : Nat} {b : Byte} : (s.putSram a b).wrOne = s.wrOne := rfl
@[simp] theorem putSram_wrSet {a : Nat} {b : Byte} : (s.putSram a b).wrSet = s.wrSet := rfl
@[simp] theorem putSram_heldRd {a : Nat} {b : Byte} : (s.putSram a b).heldRd = s.heldRd := rfl
@[simp] theorem putSram_heldWr {a : Nat} {b : Byte} : (s.putSram a b).heldWr = s.heldWr := rfl
@[simp] theorem putSram_resp {a : Nat} {b : Byte} : (s.putSram a b).resp = s.resp := rfl
@[simp] theorem putSram_freeCtr {a : Nat} {b : Byte} : (s.putSram a b).freeCtr = s.freeCtr := rfl
@[simp] theorem putSram_dram {a : Nat} {b : Byte} : (s.putSram a b).dram = s.dram := rfl
@[simp] theorem putSram_glb {a : Nat} {b : Byte} : (s.putSram a b).glb = s.glb := rfl
@[simp] theorem putSram_tln {a : Nat} {b : Byte} : (s.putSram a b).tln = s.tln := rfl
@[simp] theorem putSram_spn {a : Nat} {b : Byte} : (s.putSram a b).spn = s.spn := rfl
@[simp] theorem putSram_later {a : Nat} {b : Byte} : (s.putSram a b).later = s.later := rfl
@[simp] theorem putSram_syn {a : Nat} {b : Byte} : (s.putSram a b).syn = s.syn := rfl
@[simp] theorem putSram_rv {a : Nat} {b : Byte} : (s.putSram a b).rv = s.rv := rfl
@[simp] theorem putSram_rdo {a : Nat} {b : Byte} : (s.putSram a b).rdo = s.rdo := rfl
@[simp] theorem putSram_dsc {a : Nat} {b : Byte} : (s.putSram a b).dsc = s.dsc := rfl
@[simp] theorem putSram_fab {a : Nat} {b : Byte} : (s.putSram a b).fab = s.fab := rfl
@[simp] theorem putSram_csc {a : Nat} {b : Byte} : (s.putSram a b).csc = s.csc := rfl
@[simp] theorem putSram_bob {a : Nat} {b : Byte} : (s.putSram a b).bob = s.bob := rfl
@[simp] theorem putSram_mem {a : Nat} {b : Byte} : (s.putSram a b).mem = s.mem := rfl
@[simp] theorem putSram_jobs {a : Nat} {b : Byte} : (s.putSram a b).jobs = s.jobs := rfl
@[simp] theorem putSram_hif {a : Nat} {b : Byte} : (s.putSram a b).hif = s.hif := rfl
@[simp] theorem putSram_sec {a : Nat} {b : Byte} : (s.putSram a b).sec = s.sec := rfl
@[simp] theorem putSram_sup {a : Nat} {b : Byte} : (s.putSram a b).sup = s.sup := rfl
@[simp] theorem putSram_pwr {a : Nat} {b : Byte} : (s.putSram a b).pwr = s.pwr := rfl
@[simp] theorem putSram_tap {a : Nat} {b : Byte} : (s.putSram a b).tap = s.tap := rfl
@[simp] theorem putSram_pending {a : Nat} {b : Byte} : (s.putSram a b).pending = s.pending := rfl

@[simp] theorem rd_putSram {a : Nat} {b : Byte} {o : Nat} : (s.putSram a b).rd o = s.rd o := rfl

@[simp] theorem putDram_tick {a : Nat} {b : Byte} : (s.putDram a b).tick = s.tick := rfl
@[simp] theorem putDram_regs {a : Nat} {b : Byte} : (s.putDram a b).regs = s.regs := rfl
@[simp] theorem putDram_evSet {a : Nat} {b : Byte} : (s.putDram a b).evSet = s.evSet := rfl
@[simp] theorem putDram_wrOne {a : Nat} {b : Byte} : (s.putDram a b).wrOne = s.wrOne := rfl
@[simp] theorem putDram_wrSet {a : Nat} {b : Byte} : (s.putDram a b).wrSet = s.wrSet := rfl
@[simp] theorem putDram_heldRd {a : Nat} {b : Byte} : (s.putDram a b).heldRd = s.heldRd := rfl
@[simp] theorem putDram_heldWr {a : Nat} {b : Byte} : (s.putDram a b).heldWr = s.heldWr := rfl
@[simp] theorem putDram_resp {a : Nat} {b : Byte} : (s.putDram a b).resp = s.resp := rfl
@[simp] theorem putDram_freeCtr {a : Nat} {b : Byte} : (s.putDram a b).freeCtr = s.freeCtr := rfl
@[simp] theorem putDram_sram {a : Nat} {b : Byte} : (s.putDram a b).sram = s.sram := rfl
@[simp] theorem putDram_glb {a : Nat} {b : Byte} : (s.putDram a b).glb = s.glb := rfl
@[simp] theorem putDram_tln {a : Nat} {b : Byte} : (s.putDram a b).tln = s.tln := rfl
@[simp] theorem putDram_spn {a : Nat} {b : Byte} : (s.putDram a b).spn = s.spn := rfl
@[simp] theorem putDram_later {a : Nat} {b : Byte} : (s.putDram a b).later = s.later := rfl
@[simp] theorem putDram_syn {a : Nat} {b : Byte} : (s.putDram a b).syn = s.syn := rfl
@[simp] theorem putDram_rv {a : Nat} {b : Byte} : (s.putDram a b).rv = s.rv := rfl
@[simp] theorem putDram_rdo {a : Nat} {b : Byte} : (s.putDram a b).rdo = s.rdo := rfl
@[simp] theorem putDram_dsc {a : Nat} {b : Byte} : (s.putDram a b).dsc = s.dsc := rfl
@[simp] theorem putDram_fab {a : Nat} {b : Byte} : (s.putDram a b).fab = s.fab := rfl
@[simp] theorem putDram_csc {a : Nat} {b : Byte} : (s.putDram a b).csc = s.csc := rfl
@[simp] theorem putDram_bob {a : Nat} {b : Byte} : (s.putDram a b).bob = s.bob := rfl
@[simp] theorem putDram_mem {a : Nat} {b : Byte} : (s.putDram a b).mem = s.mem := rfl
@[simp] theorem putDram_jobs {a : Nat} {b : Byte} : (s.putDram a b).jobs = s.jobs := rfl
@[simp] theorem putDram_hif {a : Nat} {b : Byte} : (s.putDram a b).hif = s.hif := rfl
@[simp] theorem putDram_sec {a : Nat} {b : Byte} : (s.putDram a b).sec = s.sec := rfl
@[simp] theorem putDram_sup {a : Nat} {b : Byte} : (s.putDram a b).sup = s.sup := rfl
@[simp] theorem putDram_pwr {a : Nat} {b : Byte} : (s.putDram a b).pwr = s.pwr := rfl
@[simp] theorem putDram_tap {a : Nat} {b : Byte} : (s.putDram a b).tap = s.tap := rfl
@[simp] theorem putDram_pending {a : Nat} {b : Byte} : (s.putDram a b).pending = s.pending := rfl

@[simp] theorem rd_putDram {a : Nat} {b : Byte} {o : Nat} : (s.putDram a b).rd o = s.rd o := rfl

@[simp] theorem answer_tick {st : RespStatus} {v : Word} : (s.answer st v).tick = s.tick := rfl
@[simp] theorem answer_regs {st : RespStatus} {v : Word} : (s.answer st v).regs = s.regs := rfl
@[simp] theorem answer_evSet {st : RespStatus} {v : Word} : (s.answer st v).evSet = s.evSet := rfl
@[simp] theorem answer_wrOne {st : RespStatus} {v : Word} : (s.answer st v).wrOne = s.wrOne := rfl
@[simp] theorem answer_wrSet {st : RespStatus} {v : Word} : (s.answer st v).wrSet = s.wrSet := rfl
@[simp] theorem answer_heldRd {st : RespStatus} {v : Word} : (s.answer st v).heldRd = s.heldRd := rfl
@[simp] theorem answer_heldWr {st : RespStatus} {v : Word} : (s.answer st v).heldWr = s.heldWr := rfl
@[simp] theorem answer_freeCtr {st : RespStatus} {v : Word} : (s.answer st v).freeCtr = s.freeCtr := rfl
@[simp] theorem answer_sram {st : RespStatus} {v : Word} : (s.answer st v).sram = s.sram := rfl
@[simp] theorem answer_dram {st : RespStatus} {v : Word} : (s.answer st v).dram = s.dram := rfl
@[simp] theorem answer_glb {st : RespStatus} {v : Word} : (s.answer st v).glb = s.glb := rfl
@[simp] theorem answer_tln {st : RespStatus} {v : Word} : (s.answer st v).tln = s.tln := rfl
@[simp] theorem answer_spn {st : RespStatus} {v : Word} : (s.answer st v).spn = s.spn := rfl
@[simp] theorem answer_later {st : RespStatus} {v : Word} : (s.answer st v).later = s.later := rfl
@[simp] theorem answer_syn {st : RespStatus} {v : Word} : (s.answer st v).syn = s.syn := rfl
@[simp] theorem answer_rv {st : RespStatus} {v : Word} : (s.answer st v).rv = s.rv := rfl
@[simp] theorem answer_rdo {st : RespStatus} {v : Word} : (s.answer st v).rdo = s.rdo := rfl
@[simp] theorem answer_dsc {st : RespStatus} {v : Word} : (s.answer st v).dsc = s.dsc := rfl
@[simp] theorem answer_fab {st : RespStatus} {v : Word} : (s.answer st v).fab = s.fab := rfl
@[simp] theorem answer_csc {st : RespStatus} {v : Word} : (s.answer st v).csc = s.csc := rfl
@[simp] theorem answer_bob {st : RespStatus} {v : Word} : (s.answer st v).bob = s.bob := rfl
@[simp] theorem answer_mem {st : RespStatus} {v : Word} : (s.answer st v).mem = s.mem := rfl
@[simp] theorem answer_jobs {st : RespStatus} {v : Word} : (s.answer st v).jobs = s.jobs := rfl
@[simp] theorem answer_hif {st : RespStatus} {v : Word} : (s.answer st v).hif = s.hif := rfl
@[simp] theorem answer_sec {st : RespStatus} {v : Word} : (s.answer st v).sec = s.sec := rfl
@[simp] theorem answer_sup {st : RespStatus} {v : Word} : (s.answer st v).sup = s.sup := rfl
@[simp] theorem answer_pwr {st : RespStatus} {v : Word} : (s.answer st v).pwr = s.pwr := rfl
@[simp] theorem answer_tap {st : RespStatus} {v : Word} : (s.answer st v).tap = s.tap := rfl
@[simp] theorem answer_pending {st : RespStatus} {v : Word} : (s.answer st v).pending = s.pending := rfl

@[simp] theorem rd_answer {st : RespStatus} {v : Word} {o : Nat} : (s.answer st v).rd o = s.rd o := rfl

@[simp] theorem setSpindle_tick {n : Nat} {x : Spn} : (s.setSpindle n x).tick = s.tick := rfl
@[simp] theorem setSpindle_regs {n : Nat} {x : Spn} : (s.setSpindle n x).regs = s.regs := rfl
@[simp] theorem setSpindle_evSet {n : Nat} {x : Spn} : (s.setSpindle n x).evSet = s.evSet := rfl
@[simp] theorem setSpindle_wrOne {n : Nat} {x : Spn} : (s.setSpindle n x).wrOne = s.wrOne := rfl
@[simp] theorem setSpindle_wrSet {n : Nat} {x : Spn} : (s.setSpindle n x).wrSet = s.wrSet := rfl
@[simp] theorem setSpindle_heldRd {n : Nat} {x : Spn} : (s.setSpindle n x).heldRd = s.heldRd := rfl
@[simp] theorem setSpindle_heldWr {n : Nat} {x : Spn} : (s.setSpindle n x).heldWr = s.heldWr := rfl
@[simp] theorem setSpindle_resp {n : Nat} {x : Spn} : (s.setSpindle n x).resp = s.resp := rfl
@[simp] theorem setSpindle_freeCtr {n : Nat} {x : Spn} : (s.setSpindle n x).freeCtr = s.freeCtr := rfl
@[simp] theorem setSpindle_sram {n : Nat} {x : Spn} : (s.setSpindle n x).sram = s.sram := rfl
@[simp] theorem setSpindle_dram {n : Nat} {x : Spn} : (s.setSpindle n x).dram = s.dram := rfl
@[simp] theorem setSpindle_glb {n : Nat} {x : Spn} : (s.setSpindle n x).glb = s.glb := rfl
@[simp] theorem setSpindle_tln {n : Nat} {x : Spn} : (s.setSpindle n x).tln = s.tln := rfl
@[simp] theorem setSpindle_later {n : Nat} {x : Spn} : (s.setSpindle n x).later = s.later := rfl
@[simp] theorem setSpindle_syn {n : Nat} {x : Spn} : (s.setSpindle n x).syn = s.syn := rfl
@[simp] theorem setSpindle_rv {n : Nat} {x : Spn} : (s.setSpindle n x).rv = s.rv := rfl
@[simp] theorem setSpindle_rdo {n : Nat} {x : Spn} : (s.setSpindle n x).rdo = s.rdo := rfl
@[simp] theorem setSpindle_dsc {n : Nat} {x : Spn} : (s.setSpindle n x).dsc = s.dsc := rfl
@[simp] theorem setSpindle_fab {n : Nat} {x : Spn} : (s.setSpindle n x).fab = s.fab := rfl
@[simp] theorem setSpindle_csc {n : Nat} {x : Spn} : (s.setSpindle n x).csc = s.csc := rfl
@[simp] theorem setSpindle_bob {n : Nat} {x : Spn} : (s.setSpindle n x).bob = s.bob := rfl
@[simp] theorem setSpindle_mem {n : Nat} {x : Spn} : (s.setSpindle n x).mem = s.mem := rfl
@[simp] theorem setSpindle_jobs {n : Nat} {x : Spn} : (s.setSpindle n x).jobs = s.jobs := rfl
@[simp] theorem setSpindle_hif {n : Nat} {x : Spn} : (s.setSpindle n x).hif = s.hif := rfl
@[simp] theorem setSpindle_sec {n : Nat} {x : Spn} : (s.setSpindle n x).sec = s.sec := rfl
@[simp] theorem setSpindle_sup {n : Nat} {x : Spn} : (s.setSpindle n x).sup = s.sup := rfl
@[simp] theorem setSpindle_pwr {n : Nat} {x : Spn} : (s.setSpindle n x).pwr = s.pwr := rfl
@[simp] theorem setSpindle_tap {n : Nat} {x : Spn} : (s.setSpindle n x).tap = s.tap := rfl
@[simp] theorem setSpindle_pending {n : Nat} {x : Spn} : (s.setSpindle n x).pending = s.pending := rfl

@[simp] theorem rd_setSpindle {n : Nat} {x : Spn} {o : Nat} : (s.setSpindle n x).rd o = s.rd o := rfl

@[simp] theorem fresh_regs {w : Nat} : (s.fresh w).2.regs = s.regs := rfl

@[simp] theorem spindle_setSpindle {n : Nat} {x : Spn} (h : s.Wf) : (s.setSpindle n x).spindle n = x := sget_sset_same (h.parts .spn)

theorem spindle_setSpindle_other {n m : Nat} {x : Spn} (h : m ≠ n) : (s.setSpindle n x).spindle m = s.spindle m := sget_sset_other h

end Sys2Proof.Machine
end

