-- ==== Sys2Proof/Tests/Slice0.lean ====
section
/-! SUPPORT. Tests/Slice0.lean: a term that each check of WellFormed refuses, control-store words and single commands checked against
values the manual gives, and for every statement with hypotheses a state and operands that meet them. -/

set_option Elab.async false

namespace Sys2Proof.Tests

open Sys2Proof Sys2Proof.Machine

/-- The state after reset, with PORST_N released. -/
def rel : State := { State.reset with glb := { State.reset.glb with released := true } }
/-- A state with some fields set. -/
def st (l : List (Field × Nat)) (s : State := rel) : State := l.foldl (fun s p => s.put p.1 p.2) s
/-- `State.Wf`, decided. -/
def chkWf (s : State) : Bool :=
  sparseWf regReset s.regs && sparseWf (fun _ => 0) s.evSet && sparseWf (fun _ => 0) s.wrOne && sparseWf (fun _ => 0) s.wrSet &&
  sparseWf (fun _ => none) s.heldRd && sparseWf (fun _ => none) s.heldWr && Memory.wf s.sram && Memory.wf s.dram &&
  sparseWf (fun _ => {}) s.tln.ports && sparseWf (fun _ => 0) s.tln.portFree && sparseWf (fun _ => {}) s.spn &&
  sparseWf (fun _ => {}) s.syn.tgt && sparseWf (fun _ => {}) s.syn.flx && sparseWf (fun _ => {}) s.syn.bia && sparseWf (fun _ => {}) s.syn.outs && sparseWf (fun _ => []) s.syn.codes && sparseWf (fun _ => []) s.syn.line &&
  sparseWf (fun _ => {}) s.rv && sparseWf (fun _ => {}) s.rdo.acq && sparseWf (fun _ => {}) s.rdo.ch && sparseWf (fun _ => {}) s.rdo.pair &&
  sparseWf (fun _ => {}) s.dsc && sparseWf (fun _ => {}) s.fab.ply && sparseWf (fun _ => {}) s.fab.trg && sparseWf (fun _ => []) s.fab.ct &&
  sparseWf (fun _ => none) s.fab.enOld && sparseWf (fun _ => {}) s.csc.tw && sparseWf (fun _ => {}) s.bob && sparseWf (fun _ => []) s.mem.ces &&
  sparseWf (fun _ => none) s.mem.lowSince && sparseWf (fun _ => (3, 0)) s.mem.turn && sparseWf (fun _ => (0, 0)) s.mem.granted && sparseWf (fun _ => none) s.jobs && sparseWf (fun _ => none) s.hif.dma && sparseWf (fun _ => none) s.hif.since && sparseWf (fun _ => 0) s.hif.dataLeft && sparseWf (fun _ => false) s.hif.stopping && sparseWf (fun _ => []) s.sup.queues &&
  sparseWf (fun _ => none) s.sup.notices && sparseWf (fun _ => {}) s.sup.mon && sparseWf (fun _ => {}) s.sup.ts && sparseWf (fun _ => none) s.sup.madc && sparseWf (fun _ => none) s.sup.conv &&
  sparseWf (fun _ => none) s.pwr.waking && sparseWf (fun _ => none) s.pwr.tolOld && sparseWf (fun _ => 0) s.pwr.energy && sparseWf (fun _ => 0) s.pwr.res && sparseWf (fun _ => 0) s.pwr.since
/-- A state that the check passes is sound. -/
theorem wf_of (s : State) (h : chkWf s = true) : s.Wf := by
  simp only [chkWf, Bool.and_eq_true] at h
  refine ⟨by simp_all, fun p => ?_⟩
  cases p <;> simp_all [Part.sound]
/-- a running spindle with the word `m` at address `a` next -/
def wordAt (n a : Nat) (m : MicroWord) (s : State := rel) : State :=
  let s := st [(Fld.GLB_MODE_STATUS_MODE, 5), (Fld.SPN_CTL_EN n, 1)] (s.putSramBytes (n * 0x20000 + 16 * a) (leBytes 16 m.encode))
  s.setSpindle n { s.spindle n with active := true, npc := a }
/-- Spindle `n` runs a committed routine. -/
def committed (n : Nat) (s : State) : State := st [(Fld.SPN_STATUS_COMMITTED n, 1)] s

/-- a signed image of one POLICY section (DBG_CAP 1, SEALED 1), SVN 9, at DRAM offset 4096, while the loader is at work -/
def img : List Byte := beBytes 352 0x534B4E31010000000001000000000000010000000900000056021100000000000000000000000000000000000000000000000000000000000000000000000000000000000000000000000000000000000000000000000000000000000000000000000000000000000000000000000000000000000000000000000000000000000E2A6DEC9D2B66068F44D66230316468F879062B0062F6E64C81263EEF27C80980C2B9DDD0434C02BD5A3759B069920F6B9F3967B78CD7E64532A1961333DF2B0C0BB4935D975524971656187DC2513BE780A0A11B855499043962C35F90B3080600010010000000000000000000000005000000000000000000000000000000255A888E09C8DF3CAE8D5DAABBE77C29B573039661E439B8079C2F06F30996D0EB704F92D07C9EA42C9CC0DE6212CCA7D60580C0417EA4DECDC4FB82878A2FA8153B3B3337163670B2C791226BE3623CB4A528539502D1688F7D70E2C9C9D37C
/-- The loader at work on an image that stands in DRAM. -/
def loadState (l : List (Field × Nat)) (bs : List Byte) : State :=
  let s := st ([(Fld.GLB_MODE_STATUS_MODE, 1), (Fld.MEM_STATUS_DRAM_READY, 1), (Fld.SEC_LOAD_STATUS_STATE, 1)] ++ l) (rel.putDramBytes 4096 bs)
  { s with sec := { s.sec with loading := true, loadSrc := 4096 } }
/-- A device in OWNED with two key slots and a KEK. -/
def owned (l : List (Field × Nat)) (f : Sec → Sec := id) : State :=
  let s := st ([(Fld.SEC_STATUS_LCS, 1)] ++ l)
  { s with sec := f { s.sec with lcs := 1, slots := [List.replicate 48 1, List.replicate 48 2], kek := some (List.replicate 32 3) } }

/-! ### WellFormed: an ill-formed term for each check -/

theorem test_wf_registerWrite : WellFormed (.registerWrite .bar0 0x12 0) = false := by decide
theorem test_wf_loReadCapture : WellFormed (.loReadCapture .bar0 0x21) = false := by decide
theorem test_wf_hiRead : WellFormed (.hiRead .tap 0x26) = false := by decide
theorem test_wf_loWriteHold : WellFormed (.loWriteHold .bar0 0x22 0) = false := by decide
theorem test_wf_hiWriteCommit : WellFormed (.hiWriteCommit .bar0 0x25 0) = false := by decide
theorem test_wf_refillComplete (l : List Byte) (h : l.length = 73745) : WellFormed (.refillComplete 0 l false) = false :=
  decide_eq_false (by rw [h]; decide)
theorem test_wf_channelSample : WellFormed (.channelSample 0 [0]) = false := by decide
theorem test_wf_bulkRegWr : WellFormed (.bulkRegWr 0 0 0 0 0 0 0 2 15 0) = false := by decide
theorem test_wf_bulkRegRd : WellFormed (.bulkRegRd 0 0 0 0 0 0 0 1) = false := by decide
theorem test_wf_bulkMemWr_aligned : WellFormed (.bulkMemWr 0 0 0 0 0 0 1 3 [(0, 15)] false) = false := by decide
theorem test_wf_bulkMemWr_empty : WellFormed (.bulkMemWr 0 0 0 0 0 0 1 4 [] false) = false := by decide
theorem test_wf_bulkMemWr_long : WellFormed (.bulkMemWr 0 0 0 0 0 0 1 4 (List.replicate 65 (0, 15)) false) = false := by decide
theorem test_wf_linkChg_speed : WellFormed (.linkChg true 7 16 false) = false := by decide
theorem test_wf_linkChg_slow : WellFormed (.linkChg true 0 16 false) = false := by decide
theorem test_wf_linkChg_width : WellFormed (.linkChg true 5 3 false) = false := by decide
theorem test_wf_bar2Access : WellFormed (.bar2Access 0x3FFFFFF (.read 2) false) = false := by decide
theorem test_wf_bar4Access : WellFormed (.bar4Access 0 (.write []) false none) = false := by decide
theorem test_wf_dmaDescriptorStart : WellFormed (.dmaDescriptorStart 0 []) = false := by decide
theorem test_wf_df2Evaluation : WellFormed (.df2Evaluation [[1]]) = false := by decide
theorem test_wf_df2Evaluation_port :
    WellFormed (.df2Evaluation (List.replicate 48 (List.replicate 49 0))) = false := by decide +kernel
theorem test_wf_df2Evaluation_long : WellFormed (.df2Evaluation (List.replicate 49 (List.replicate 50 0))) = false := by decide +kernel
theorem test_wf_energySample : WellFormed (.energySample [] 0) = false := by decide
theorem test_wf_tapSecAcc : WellFormed (.tapSecAcc 0x20002 false 0) = false := by decide
theorem test_wf_tapBar0Acc : WellFormed (.tapBar0Acc 1 true 0) = false := by decide
theorem test_wf_tapMemAcc_aligned : WellFormed (.tapMemAcc false false 2 0) = false := by decide
theorem test_wf_tapMemAcc_range : WellFormed (.tapMemAcc false false 0x4000000 0) = false := by decide

/-! ### Values the manual gives -/

/-- The word of the worked example under R97: PLS on drive channel 0x25, segment 0x12, amplitude 0x4000, AUTO. -/
theorem test_micro_pls : decodeMicro 0x40000940049000008000000000000000 = some ⟨0, 0, .pls 0 0x25 0x12 0x4000 0 0 1 0⟩ := by
  decide +kernel

/-- A COMMIT (opcode 0x3C, R95) that carries ENT, written out from R94. -/
theorem test_micro_commit : decodeMicro 0xF0200000000000000000000000000000 = some ⟨0, 1, .commit⟩ := by decide +kernel

/-- A reserved header bit is no word (R94, R540). -/
theorem test_micro_reserved : decodeMicro 0x00010000000000000000000000000000 = none := by decide +kernel

/-- The check value of the SMBus packet error code over the characters 1 to 9. -/
theorem test_pec : pecOf [0x31, 0x32, 0x33, 0x34, 0x35, 0x36, 0x37, 0x38, 0x39] = 0xF4 := by decide +kernel

/-! ### Statements: a state and operands that meet the hypotheses of each clause -/

/-- A one-byte block holds no match, whatever the lane would take (log entry 30). -/
theorem validMatch_short (b : Byte) (pos len dist : Nat) : validMatch [b] pos len dist = false := by
  simp only [validMatch, List.length_singleton, Bool.and_eq_false_iff, decide_eq_false_iff_not]
  omega
/-- The fixed codes of a block of one byte 0. -/
theorem deflate_short : deflateBlock 0 none [0] = (false, fixedBlock 0 [0]) ∧ (fixedBlock 0 [0]).length = 3 := by
  have ht : tokenise 0 [0] ([(0 : Byte)].length + 1) 0 = [.lit 0] := by
    simp only [List.length_singleton, tokenise, validMatch_short]
    rfl
  have h : fixedBlock 0 [0] = bytesOfBits 19 ([true, true, false] ++ codeTokens fixedWord (msbBits 5) [.lit 0]) := by
    simp only [fixedBlock, ht]
    rfl
  have l : (fixedBlock 0 [0]).length = 3 := by rw [h]; decide +kernel
  refine ⟨?_, l⟩
  show (if (storedForm [0]).length < (fixedBlock 0 [0]).length then (true, storedForm [0]) else (false, fixedBlock 0 [0])) = _
  rw [l]
  exact if_neg (by decide)
theorem issued_all {k : Nat} (s : State) (q : Nat) (d : DmaDesc) (h : s.dataLeft q = 0) (hk : k ≤ d.len) :
    k ≤ s.dmaIssued q d := by
  rw [State.dmaIssued, h, Nat.zero_mul]
  exact hk

/-- A wrapped block of one byte 0 is 32 bytes. -/
theorem wrap_short (m : Nat) (d : List Byte) (hm : m = 0) (hd : d = [0]) :
    (wrapBlock (deflateBlock m none d).1 d (deflateBlock m none d).2).length = 32 := by
  subst hm hd
  rw [deflate_short.1]
  generalize hf : fixedBlock 0 [0] = f
  have h3 : f.length = 3 := hf ▸ deflate_short.2
  match f, h3 with
  | [a, b, c], _ => simp [wrapBlock]

theorem wit_StepIdles : ∃ s : State, s.pending = [] := ⟨rel, rfl⟩

theorem wit_EveryStepKeepsSoundness : ∃ s t : State, s.Wf ∧ step s = .next t := ⟨rel, rel, wf_of _ rfl, rfl⟩

theorem wit_RegisterWriteByAccessType_0 :
    ∃ (s : State) (path : Path) (off : BitVec 26) (v : Word) (d : RegDesc), s.Wf ∧ off.toNat % 4 = 0 ∧ regDesc off.toNat = some d ∧
      d.half = .none ∧ writeActionAt off.toNat writeActions = none ∧ s.accepts path off.toNat = true ∧ s.rwlLocked = false :=
  ⟨({ st [(⟨Reg.SUP_EVENT, 0, 20⟩, 0xFFFFF)] with evSet := [(Reg.SUP_EVENT, 1)] } : State), .bar0, BitVec.ofNat 26 (Reg.SUP_EVENT),
    0x80001, (regDesc (Reg.SUP_EVENT)).getD ⟨"", 0, [], .none, 0, 0, 0, 0, 0, 0⟩, wf_of _ (by decide +kernel), (by decide +kernel),
    (by decide +kernel), (by decide +kernel), (by decide +kernel), (by decide +kernel), (by decide +kernel)⟩

theorem wit_HardwareClearKeepsWrittenBit :
    (∃ (s : State) (f : Field), s.Wf ∧ f.lo + f.w ≤ 32 ∧ sget (fun _ => 0) s.wrOne f.reg &&& Field.mask f ≠ 0) ∧
    (∃ (s : State) (f : Field), s.Wf ∧ f.lo + f.w ≤ 32 ∧ sget (fun _ => 0) s.wrOne f.reg &&& Field.mask f = 0) :=
  ⟨⟨{ rel with wrOne := [(4, 0x80000000)] }, ⟨4, 31, 1⟩, wf_of _ rfl, by decide +kernel, by decide +kernel⟩,
    ⟨rel, ⟨4, 0, 32⟩, wf_of _ rfl, by decide +kernel, by decide +kernel⟩⟩

theorem wit_RwlFieldsAreLocked_0 :
    ∃ (s : State) (path : Path) (off : BitVec 26) (v : Word) (d : RegDesc), s.Wf ∧ off.toNat % 4 = 0 ∧ regDesc off.toNat = some d ∧
      d.half = .none ∧ writeActionAt off.toNat writeActions = none ∧ s.accepts path off.toNat = true ∧ s.rwlLocked = true :=
  ⟨st [(Fld.GLB_MODE_STATUS_MODE, 6)], .bar0, BitVec.ofNat 26 (Reg.SPN_CTL 63), 1, (regDesc (Reg.SPN_CTL 63)).getD
    ⟨"", 0, [], .none, 0, 0, 0, 0, 0, 0⟩, wf_of _ (by decide +kernel), (by decide +kernel), (by decide +kernel), (by decide +kernel),
    (by decide +kernel), (by decide +kernel), (by decide +kernel)⟩

theorem wit_PairsAndBadAccess_0 :
    ∃ (s : State) (path : Path) (off : BitVec 26) (d : RegDesc), s.Wf ∧ off.toNat % 4 = 0 ∧ regDesc off.toNat = some d ∧
      s.mayRead path off.toNat = true ∧ d.half = .lo ∧ elem off.toNat (Reg.SUP_MADC_RESULT 0) 0x10 2 = none :=
  ⟨({ st [(Fld.TLN_STATUS_STATE, 2)] with tln := { rel.tln with reel := 0x123456789ABCDEF01234567 } } : State), .bar0, BitVec.ofNat 26
    Reg.TLN_REEL_NS_LO, (regDesc (Reg.TLN_REEL_NS_LO)).getD ⟨"", 0, [], .none, 0, 0, 0, 0, 0, 0⟩, wf_of _ (by decide +kernel),
    (by decide +kernel), (by decide +kernel), (by decide +kernel), (by decide +kernel), (by decide +kernel)⟩

theorem wit_PairsAndBadAccess_1 :
    ∃ (s : State) (path : Path) (off : BitVec 26) (d : RegDesc), s.Wf ∧ off.toNat % 4 = 0 ∧ regDesc off.toNat = some d ∧
      s.mayRead path off.toNat = true ∧ d.half = .hi ∧ elem off.toNat (Reg.SUP_MADC_RESULT 0) 0x10 2 = none :=
  ⟨({ rel with heldRd := [(pairKey .bar0 Reg.TLN_REEL_NS_LO, some 7)] } : State), .bar0, BitVec.ofNat 26 Reg.TLN_REEL_NS_HI,
    (regDesc (Reg.TLN_REEL_NS_HI)).getD ⟨"", 0, [], .none, 0, 0, 0, 0, 0, 0⟩, wf_of _ (by decide +kernel), (by decide +kernel),
    (by decide +kernel), (by decide +kernel), (by decide +kernel), (by decide +kernel)⟩

theorem wit_PairsAndBadAccess_2 :
    ∃ (s : State) (path : Path) (off : BitVec 26) (v : Word) (d : RegDesc), s.Wf ∧ off.toNat % 4 = 0 ∧ regDesc off.toNat = some d ∧
      d.half = .lo ∧ d.rw ||| d.rwl ≠ 0 ∧ s.accepts path off.toNat = true :=
  ⟨rel, .bar0, BitVec.ofNat 26 Reg.TLN_SET_LO, 9, (regDesc (Reg.TLN_SET_LO)).getD ⟨"", 0, [], .none, 0, 0, 0, 0, 0, 0⟩, wf_of _
    (by decide +kernel), (by decide +kernel), (by decide +kernel), (by decide +kernel), (by decide +kernel), (by decide +kernel)⟩

theorem wit_PairsAndBadAccess_3 :
    ∃ (s : State) (path : Path) (off : BitVec 26) (v : Word) (d : RegDesc), s.Wf ∧ off.toNat % 4 = 0 ∧ regDesc off.toNat = some d ∧
      d.half = .hi ∧ d.rw = 0xFFFFFFFF ∧ d.rwl = 0 ∧ s.accepts path off.toNat = true ∧ 4 ≤ off.toNat ∧
      elem (off.toNat - 4) (Reg.BOB_RD_LO 0) 0x100 32 = none ∧ elem (off.toNat - 4) (Reg.HIF_Q_RING_LO 0) 0x40 64 = none ∧
      elem (off.toNat - 4) (Reg.HIF_Q_CPL_LO 0) 0x40 64 = none :=
  ⟨({ rel with heldWr := [(pairKey .bar0 Reg.SEC_LOAD_SRC_LO, some 7)] } : State), .bar0, BitVec.ofNat 26 (Reg.SEC_LOAD_SRC_LO + 4),
    9, (regDesc (Reg.SEC_LOAD_SRC_LO + 4)).getD ⟨"", 0, [], .none, 0, 0, 0, 0, 0, 0⟩, wf_of _ (by decide +kernel),
    (by decide +kernel), (by decide +kernel), (by decide +kernel), (by decide +kernel), (by decide +kernel), (by decide +kernel),
    (by decide +kernel), (by decide +kernel), (by decide +kernel), (by decide +kernel)⟩

theorem wit_PairsAndBadAccess_4 :
    ∃ (s : State), s.Wf ∧ s.glb.released = true :=
  ⟨rel, wf_of _ (by decide +kernel), (by decide +kernel)⟩

theorem wit_RequestsAct_0 :
    ∃ (s : State) (path : Path), s.Wf ∧ s.modeBusy = false ∧ s.glb.tripTick ≠ some s.tick ∧ s.mayRequest path 0 = true :=
  ⟨(st [(Fld.GLB_MODE_STATUS_MODE, 5)]), .bar0, wf_of _ (by decide +kernel), (by decide +kernel), (by decide +kernel),
    (by decide +kernel)⟩

theorem wit_RequestsAct_1 :
    ∃ (s : State) (path : Path), s.Wf ∧ s.modeBusy = false ∧ s.glb.tripTick ≠ some s.tick ∧ s.mayRequest path 1 = true ∧ s.mode = 0 ∧
      s.sec.lcs ≠ 3 :=
  ⟨rel, .bar0, wf_of _ (by decide +kernel), (by decide +kernel), (by decide +kernel), (by decide +kernel), (by decide +kernel),
    (by decide +kernel)⟩

theorem wit_RequestsAct_2 :
    ∃ (s : State) (path : Path), s.Wf ∧ s.modeBusy = false ∧ s.glb.tripTick ≠ some s.tick ∧ s.mayRequest path 2 = true ∧ s.mode = 2 :=
  ⟨(st [(Fld.GLB_MODE_STATUS_MODE, 2)]), .bar0, wf_of _ (by decide +kernel), (by decide +kernel), (by decide +kernel),
    (by decide +kernel), (by decide +kernel)⟩

theorem wit_RequestsAct_3 :
    ∃ (s : State) (path : Path), s.Wf ∧ s.modeBusy = false ∧ s.glb.tripTick ≠ some s.tick ∧ s.mayRequest path 2 = true ∧ s.mode = 4 ∧
      s.biasOn = false :=
  ⟨(st [(Fld.GLB_MODE_STATUS_MODE, 4)]), .bar0, wf_of _ (by decide +kernel), (by decide +kernel), (by decide +kernel),
    (by decide +kernel), (by decide +kernel), (by decide +kernel)⟩

theorem wit_RequestsAct_4 :
    ∃ (s : State) (path : Path), s.Wf ∧ s.modeBusy = false ∧ s.glb.tripTick ≠ some s.tick ∧ s.mayRequest path 2 = true ∧ s.mode = 4 ∧
      s.biasOn = true :=
  ⟨(st [(Fld.GLB_MODE_STATUS_MODE, 4), (Fld.SYN_BIA_NOW_CODE 63, 1)]), .bar0, wf_of _ (by decide +kernel), (by decide +kernel),
    (by decide +kernel), (by decide +kernel), (by decide +kernel), (by decide +kernel)⟩

theorem wit_RequestsAct_5 :
    ∃ (s : State) (path : Path), s.Wf ∧ s.modeBusy = false ∧ s.glb.tripTick ≠ some s.tick ∧ s.mayRequest path 3 = true ∧ s.mode = 3 :=
  ⟨(st [(Fld.GLB_MODE_STATUS_MODE, 3)]), .bar0, wf_of _ (by decide +kernel), (by decide +kernel), (by decide +kernel),
    (by decide +kernel), (by decide +kernel)⟩

theorem wit_RequestsAct_6 :
    ∃ (s : State) (path : Path), s.Wf ∧ s.modeBusy = false ∧ s.glb.tripTick ≠ some s.tick ∧ s.mayRequest path 3 = true ∧ s.mode = 2 :=
  ⟨(st [(Fld.GLB_MODE_STATUS_MODE, 2)]), .bar0, wf_of _ (by decide +kernel), (by decide +kernel), (by decide +kernel),
    (by decide +kernel), (by decide +kernel)⟩

theorem wit_RequestsAct_7 :
    ∃ (s : State) (path : Path), s.Wf ∧ s.modeBusy = false ∧ s.glb.tripTick ≠ some s.tick ∧ s.mayRequest path 4 = true ∧
      (s.mode = 5 ∨ (s.mode = 6 ∧ s.glb.m6Stopped = false)) :=
  ⟨(st [(Fld.GLB_MODE_STATUS_MODE, 6)]), .bar0, wf_of _ (by decide +kernel), (by decide +kernel), (by decide +kernel),
    (by decide +kernel), (by decide +kernel)⟩

theorem wit_RequestsAct_8 :
    ∃ (s : State) (path : Path), s.Wf ∧ s.modeBusy = false ∧ s.glb.tripTick ≠ some s.tick ∧ s.mayRequest path 4 = true ∧ s.mode = 6 ∧
      s.glb.m6Stopped = true :=
  ⟨({ (st [(Fld.GLB_MODE_STATUS_MODE, 6)]) with glb := { rel.glb with m6Stopped := true } } : State), .bar0, wf_of _
    (by decide +kernel), (by decide +kernel), (by decide +kernel), (by decide +kernel), (by decide +kernel), (by decide +kernel)⟩

theorem wit_RequestsAct_9 :
    ∃ (s : State) (path : Path), s.Wf ∧ s.modeBusy = false ∧ s.glb.tripTick ≠ some s.tick ∧ s.mayRequest path 5 = true ∧
      (s.mode = 3 ∨ (s.mode = 4 ∧ s.biasOn = false)) :=
  ⟨(st [(Fld.GLB_MODE_STATUS_MODE, 4)]), .bar0, wf_of _ (by decide +kernel), (by decide +kernel), (by decide +kernel),
    (by decide +kernel), (by decide +kernel)⟩

theorem wit_RequestsAct_10 :
    ∃ (s : State) (path : Path), s.Wf ∧ s.modeBusy = false ∧ s.glb.tripTick ≠ some s.tick ∧ s.mayRequest path 6 = true ∧
      (1 ≤ s.mode ∧ s.mode ≤ 4) ∧ (s.mode = 4 → s.biasOn = false) :=
  ⟨(st [(Fld.GLB_MODE_STATUS_MODE, 4)]), .bar0, wf_of _ (by decide +kernel), (by decide +kernel), (by decide +kernel),
    (by decide +kernel), (by decide +kernel), (by decide +kernel)⟩

theorem wit_RequestsAct_11 :
    ∃ (s : State) (path : Path), s.Wf ∧ s.modeBusy = false ∧ s.glb.tripTick ≠ some s.tick ∧ s.mayRequest path 7 = true ∧ path ≠ .tap ∧
      s.mode = 7 ∧ s.activeBits = 0 ∧ s.ramping = false ∧ s.bit Fld.GLB_MODE_STATUS_CFG_VALID = true :=
  ⟨({ st [(Fld.GLB_MODE_STATUS_MODE, 7), (Fld.SUP_STATUS_ILK, 1), (Fld.GLB_CLK_STATUS_PLL_LOCK, 1), (Fld.GLB_MODE_STATUS_CFG_VALID, 1)] with glb := { rel.glb with released := true } }
    : State), .bar0, wf_of _ (by decide +kernel), (by decide +kernel), (by decide +kernel), (by decide +kernel), (by decide +kernel),
    (by decide +kernel), (by decide +kernel), (by decide +kernel), (by decide +kernel)⟩

theorem wit_RequestsAct_12 :
    ∃ (s : State) (path : Path), s.Wf ∧ s.modeBusy = false ∧ s.glb.tripTick ≠ some s.tick ∧ s.mayRequest path 7 = true ∧ path ≠ .tap ∧
      s.mode = 7 ∧ s.activeBits = 0 ∧ s.ramping = false ∧ s.bit Fld.GLB_MODE_STATUS_CFG_VALID = false :=
  ⟨({ st [(Fld.GLB_MODE_STATUS_MODE, 7), (Fld.SUP_STATUS_ILK, 1), (Fld.GLB_CLK_STATUS_PLL_LOCK, 1)] with glb := { rel.glb with released := true } }
    : State), .bar0, wf_of _ (by decide +kernel), (by decide +kernel), (by decide +kernel), (by decide +kernel), (by decide +kernel),
    (by decide +kernel), (by decide +kernel), (by decide +kernel), (by decide +kernel)⟩

theorem wit_RequestsAct_13 :
    ∃ (s : State) (path : Path), s.Wf ∧ s.modeBusy = false ∧ s.glb.tripTick ≠ some s.tick ∧ s.mayRequest path 7 = true ∧ s.mode = 7 ∧
      (path = .tap ∨ s.activeBits ≠ 0 ∨ s.ramping = true) :=
  ⟨(st [(Fld.GLB_MODE_STATUS_MODE, 7)]), .bar0, wf_of _ (by decide +kernel), (by decide +kernel), (by decide +kernel),
    (by decide +kernel), (by decide +kernel), (by decide +kernel)⟩

theorem wit_RequestsAct_14 :
    ∃ (s : State) (path : Path) (code : Fin 8), s.Wf ∧ s.modeBusy = false ∧ s.glb.tripTick ≠ some s.tick ∧
      s.mayRequest path (8 + code.val) = true :=
  ⟨(st [(Fld.GLB_MODE_STATUS_MODE, 0)]), .bar0, 7, wf_of _ (by decide +kernel), (by decide +kernel), (by decide +kernel),
    (by decide +kernel)⟩

theorem wit_RequestsAct_15 :
    ∃ (s : State) (path : Path), s.Wf ∧ s.modeBusy = false ∧ s.glb.tripTick ≠ some s.tick ∧ s.mayRequest path 0 = true ∧ s.mode = 4 :=
  ⟨(st [(Fld.GLB_MODE_STATUS_MODE, 4)]), .bar0, wf_of _ (by decide +kernel), (by decide +kernel), (by decide +kernel),
    (by decide +kernel), (by decide +kernel)⟩

theorem wit_RequestsAreRefused_0 :
    ∃ (s : State) (path : Path) (code : Fin 8) (req : Fin 16) (key : Byte), s.Wf ∧ s.mayRequest path 0 = true ∧ key ≠ 0xA5 :=
  ⟨(st [(Fld.GLB_MODE_STATUS_MODE, 5)]), .bar0, 7, 0, 0x5A, wf_of _ (by decide +kernel), (by decide +kernel), (by decide +kernel)⟩

theorem wit_RequestsAreRefused_1 :
    ∃ (s : State) (path : Path) (code : Fin 8) (req : Fin 16) (key : Byte), s.Wf ∧ s.mayRequest path 1 = true ∧ key ≠ 0xA5 :=
  ⟨(st [(Fld.GLB_MODE_STATUS_MODE, 5)]), .bar0, 7, 0, 0x5A, wf_of _ (by decide +kernel), (by decide +kernel), (by decide +kernel)⟩

theorem wit_RequestsAreRefused_2 :
    ∃ (s : State) (path : Path) (code : Fin 8) (req : Fin 16) (key : Byte), s.Wf ∧ s.mayRequest path 2 = true ∧ key ≠ 0xA5 :=
  ⟨(st [(Fld.GLB_MODE_STATUS_MODE, 5)]), .bar0, 7, 0, 0x5A, wf_of _ (by decide +kernel), (by decide +kernel), (by decide +kernel)⟩

theorem wit_RequestsAreRefused_3 :
    ∃ (s : State) (path : Path) (code : Fin 8) (req : Fin 16) (key : Byte), s.Wf ∧ s.mayRequest path 3 = true ∧ key ≠ 0xA5 :=
  ⟨(st [(Fld.GLB_MODE_STATUS_MODE, 5)]), .bar0, 7, 0, 0x5A, wf_of _ (by decide +kernel), (by decide +kernel), (by decide +kernel)⟩

theorem wit_RequestsAreRefused_4 :
    ∃ (s : State) (path : Path) (code : Fin 8) (req : Fin 16) (key : Byte), s.Wf ∧ s.mayRequest path 4 = true ∧ key ≠ 0xA5 :=
  ⟨(st [(Fld.GLB_MODE_STATUS_MODE, 5)]), .bar0, 7, 0, 0x5A, wf_of _ (by decide +kernel), (by decide +kernel), (by decide +kernel)⟩

theorem wit_RequestsAreRefused_5 :
    ∃ (s : State) (path : Path) (code : Fin 8) (req : Fin 16) (key : Byte), s.Wf ∧ s.mayRequest path 5 = true ∧ key ≠ 0xA5 :=
  ⟨(st [(Fld.GLB_MODE_STATUS_MODE, 5)]), .bar0, 7, 0, 0x5A, wf_of _ (by decide +kernel), (by decide +kernel), (by decide +kernel)⟩

theorem wit_RequestsAreRefused_6 :
    ∃ (s : State) (path : Path) (code : Fin 8) (req : Fin 16) (key : Byte), s.Wf ∧ s.mayRequest path 6 = true ∧ key ≠ 0xA5 :=
  ⟨(st [(Fld.GLB_MODE_STATUS_MODE, 5)]), .bar0, 7, 0, 0x5A, wf_of _ (by decide +kernel), (by decide +kernel), (by decide +kernel)⟩

theorem wit_RequestsAreRefused_7 :
    ∃ (s : State) (path : Path) (code : Fin 8) (req : Fin 16) (key : Byte), s.Wf ∧ s.mayRequest path 7 = true ∧ key ≠ 0xA5 :=
  ⟨(st [(Fld.GLB_MODE_STATUS_MODE, 5)]), .bar0, 7, 0, 0x5A, wf_of _ (by decide +kernel), (by decide +kernel), (by decide +kernel)⟩

theorem wit_RequestsAreRefused_8 :
    ∃ (s : State) (path : Path) (code : Fin 8) (req : Fin 16) (key : Byte), s.Wf ∧ s.mayRequest path req.val = true ∧ key ≠ 0xA5 :=
  ⟨(st [(Fld.GLB_MODE_STATUS_MODE, 4)]), .bar0, 7, 0, 0x5A, wf_of _ (by decide +kernel), (by decide +kernel), (by decide +kernel)⟩

theorem wit_RequestsAreRefused_9 :
    ∃ (s : State) (path : Path) (code : Fin 8) (req : Fin 16) (key : Byte), s.Wf ∧ s.mayRequest path (8 + code.val) = true ∧
      key ≠ 0xA5 :=
  ⟨(st [(Fld.GLB_MODE_STATUS_MODE, 4)]), .bar0, 7, 0, 0x5A, wf_of _ (by decide +kernel), (by decide +kernel), (by decide +kernel)⟩

theorem wit_RequestsAreRefused_10 :
    ∃ (s : State) (path : Path) (code : Fin 8) (req : Fin 16) (key : Byte), s.Wf ∧ s.mayRequest path 0 = true ∧
      s.glb.tripTick = some s.tick :=
  ⟨({ (st [(Fld.GLB_MODE_STATUS_MODE, 4)]) with glb := { rel.glb with tripTick := some 0 } } : State), .bar0, 7, 0, 0x5A, wf_of _
    (by decide +kernel), (by decide +kernel), (by decide +kernel)⟩

theorem wit_RequestsAreRefused_11 :
    ∃ (s : State) (path : Path) (code : Fin 8) (req : Fin 16) (key : Byte), s.Wf ∧ s.mayRequest path 1 = true ∧
      s.glb.tripTick = some s.tick :=
  ⟨({ (st [(Fld.GLB_MODE_STATUS_MODE, 4)]) with glb := { rel.glb with tripTick := some 0 } } : State), .bar0, 7, 0, 0x5A, wf_of _
    (by decide +kernel), (by decide +kernel), (by decide +kernel)⟩

theorem wit_RequestsAreRefused_12 :
    ∃ (s : State) (path : Path) (code : Fin 8) (req : Fin 16) (key : Byte), s.Wf ∧ s.mayRequest path 2 = true ∧
      s.glb.tripTick = some s.tick :=
  ⟨({ (st [(Fld.GLB_MODE_STATUS_MODE, 4)]) with glb := { rel.glb with tripTick := some 0 } } : State), .bar0, 7, 0, 0x5A, wf_of _
    (by decide +kernel), (by decide +kernel), (by decide +kernel)⟩

theorem wit_RequestsAreRefused_13 :
    ∃ (s : State) (path : Path) (code : Fin 8) (req : Fin 16) (key : Byte), s.Wf ∧ s.mayRequest path 3 = true ∧
      s.glb.tripTick = some s.tick :=
  ⟨({ (st [(Fld.GLB_MODE_STATUS_MODE, 4)]) with glb := { rel.glb with tripTick := some 0 } } : State), .bar0, 7, 0, 0x5A, wf_of _
    (by decide +kernel), (by decide +kernel), (by decide +kernel)⟩

theorem wit_RequestsAreRefused_14 :
    ∃ (s : State) (path : Path) (code : Fin 8) (req : Fin 16) (key : Byte), s.Wf ∧ s.mayRequest path 4 = true ∧
      s.glb.tripTick = some s.tick :=
  ⟨({ (st [(Fld.GLB_MODE_STATUS_MODE, 4)]) with glb := { rel.glb with tripTick := some 0 } } : State), .bar0, 7, 0, 0x5A, wf_of _
    (by decide +kernel), (by decide +kernel), (by decide +kernel)⟩

theorem wit_RequestsAreRefused_15 :
    ∃ (s : State) (path : Path) (code : Fin 8) (req : Fin 16) (key : Byte), s.Wf ∧ s.mayRequest path 5 = true ∧
      s.glb.tripTick = some s.tick :=
  ⟨({ (st [(Fld.GLB_MODE_STATUS_MODE, 4)]) with glb := { rel.glb with tripTick := some 0 } } : State), .bar0, 7, 0, 0x5A, wf_of _
    (by decide +kernel), (by decide +kernel), (by decide +kernel)⟩

theorem wit_RequestsAreRefused_16 :
    ∃ (s : State) (path : Path) (code : Fin 8) (req : Fin 16) (key : Byte), s.Wf ∧ s.mayRequest path 6 = true ∧
      s.glb.tripTick = some s.tick :=
  ⟨({ (st [(Fld.GLB_MODE_STATUS_MODE, 4)]) with glb := { rel.glb with tripTick := some 0 } } : State), .bar0, 7, 0, 0x5A, wf_of _
    (by decide +kernel), (by decide +kernel), (by decide +kernel)⟩

theorem wit_RequestsAreRefused_17 :
    ∃ (s : State) (path : Path) (code : Fin 8) (req : Fin 16) (key : Byte), s.Wf ∧ s.mayRequest path 7 = true ∧
      s.glb.tripTick = some s.tick :=
  ⟨({ (st [(Fld.GLB_MODE_STATUS_MODE, 4)]) with glb := { rel.glb with tripTick := some 0 } } : State), .bar0, 7, 0, 0x5A, wf_of _
    (by decide +kernel), (by decide +kernel), (by decide +kernel)⟩

theorem wit_RequestsAreRefused_18 :
    ∃ (s : State) (path : Path) (code : Fin 8) (req : Fin 16) (key : Byte), s.Wf ∧ s.mayRequest path req.val = true ∧
      s.glb.tripTick = some s.tick :=
  ⟨({ (st [(Fld.GLB_MODE_STATUS_MODE, 4)]) with glb := { rel.glb with tripTick := some 0 } } : State), .bar0, 7, 0, 0x5A, wf_of _
    (by decide +kernel), (by decide +kernel), (by decide +kernel)⟩

theorem wit_RequestsAreRefused_19 :
    ∃ (s : State) (path : Path) (code : Fin 8) (req : Fin 16) (key : Byte), s.Wf ∧ s.mayRequest path 0 = true ∧
      s.glb.tripTick ≠ some s.tick ∧ s.modeBusy = true :=
  ⟨({ (st [(Fld.GLB_MODE_STATUS_MODE, 3)]) with glb := { rel.glb with clearing := true } } : State), .bar0, 7, 0, 0x5A, wf_of _
    (by decide +kernel), (by decide +kernel), (by decide +kernel), (by decide +kernel)⟩

theorem wit_RequestsAreRefused_20 :
    ∃ (s : State) (path : Path) (code : Fin 8) (req : Fin 16) (key : Byte), s.Wf ∧ s.mayRequest path 1 = true ∧
      s.glb.tripTick ≠ some s.tick ∧ s.modeBusy = true :=
  ⟨({ (st [(Fld.GLB_MODE_STATUS_MODE, 3)]) with glb := { rel.glb with clearing := true } } : State), .bar0, 7, 0, 0x5A, wf_of _
    (by decide +kernel), (by decide +kernel), (by decide +kernel), (by decide +kernel)⟩

theorem wit_RequestsAreRefused_21 :
    ∃ (s : State) (path : Path) (code : Fin 8) (req : Fin 16) (key : Byte), s.Wf ∧ s.mayRequest path 2 = true ∧
      s.glb.tripTick ≠ some s.tick ∧ s.modeBusy = true :=
  ⟨({ (st [(Fld.GLB_MODE_STATUS_MODE, 3)]) with glb := { rel.glb with clearing := true } } : State), .bar0, 7, 0, 0x5A, wf_of _
    (by decide +kernel), (by decide +kernel), (by decide +kernel), (by decide +kernel)⟩

theorem wit_RequestsAreRefused_22 :
    ∃ (s : State) (path : Path) (code : Fin 8) (req : Fin 16) (key : Byte), s.Wf ∧ s.mayRequest path 3 = true ∧
      s.glb.tripTick ≠ some s.tick ∧ s.modeBusy = true :=
  ⟨({ (st [(Fld.GLB_MODE_STATUS_MODE, 3)]) with glb := { rel.glb with clearing := true } } : State), .bar0, 7, 0, 0x5A, wf_of _
    (by decide +kernel), (by decide +kernel), (by decide +kernel), (by decide +kernel)⟩

theorem wit_RequestsAreRefused_23 :
    ∃ (s : State) (path : Path) (code : Fin 8) (req : Fin 16) (key : Byte), s.Wf ∧ s.mayRequest path 4 = true ∧
      s.glb.tripTick ≠ some s.tick ∧ s.modeBusy = true :=
  ⟨({ (st [(Fld.GLB_MODE_STATUS_MODE, 3)]) with glb := { rel.glb with clearing := true } } : State), .bar0, 7, 0, 0x5A, wf_of _
    (by decide +kernel), (by decide +kernel), (by decide +kernel), (by decide +kernel)⟩

theorem wit_RequestsAreRefused_24 :
    ∃ (s : State) (path : Path) (code : Fin 8) (req : Fin 16) (key : Byte), s.Wf ∧ s.mayRequest path 5 = true ∧
      s.glb.tripTick ≠ some s.tick ∧ s.modeBusy = true :=
  ⟨({ (st [(Fld.GLB_MODE_STATUS_MODE, 3)]) with glb := { rel.glb with clearing := true } } : State), .bar0, 7, 0, 0x5A, wf_of _
    (by decide +kernel), (by decide +kernel), (by decide +kernel), (by decide +kernel)⟩

theorem wit_RequestsAreRefused_25 :
    ∃ (s : State) (path : Path) (code : Fin 8) (req : Fin 16) (key : Byte), s.Wf ∧ s.mayRequest path 6 = true ∧
      s.glb.tripTick ≠ some s.tick ∧ s.modeBusy = true :=
  ⟨({ (st [(Fld.GLB_MODE_STATUS_MODE, 3)]) with glb := { rel.glb with clearing := true } } : State), .bar0, 7, 0, 0x5A, wf_of _
    (by decide +kernel), (by decide +kernel), (by decide +kernel), (by decide +kernel)⟩

theorem wit_RequestsAreRefused_26 :
    ∃ (s : State) (path : Path) (code : Fin 8) (req : Fin 16) (key : Byte), s.Wf ∧ s.mayRequest path 7 = true ∧
      s.glb.tripTick ≠ some s.tick ∧ s.modeBusy = true :=
  ⟨({ (st [(Fld.GLB_MODE_STATUS_MODE, 3)]) with glb := { rel.glb with clearing := true } } : State), .bar0, 7, 0, 0x5A, wf_of _
    (by decide +kernel), (by decide +kernel), (by decide +kernel), (by decide +kernel)⟩

theorem wit_RequestsAreRefused_27 :
    ∃ (s : State) (path : Path) (code : Fin 8) (req : Fin 16) (key : Byte), s.Wf ∧ s.mayRequest path req.val = true ∧
      s.glb.tripTick ≠ some s.tick ∧ s.modeBusy = true :=
  ⟨({ (st [(Fld.GLB_MODE_STATUS_MODE, 3)]) with glb := { rel.glb with clearing := true } } : State), .bar0, 7, 0, 0x5A, wf_of _
    (by decide +kernel), (by decide +kernel), (by decide +kernel), (by decide +kernel)⟩

theorem wit_RequestsAreRefused_28 :
    ∃ (s : State) (path : Path) (code : Fin 8) (req : Fin 16) (key : Byte), s.Wf ∧ s.mayRequest path (8 + code.val) = true ∧
      s.glb.tripTick = some s.tick :=
  ⟨({ (st [(Fld.GLB_MODE_STATUS_MODE, 4)]) with glb := { rel.glb with tripTick := some 0 } } : State), .bar0, 7, 0, 0x5A, wf_of _
    (by decide +kernel), (by decide +kernel), (by decide +kernel)⟩

theorem wit_RequestsAreRefused_29 :
    ∃ (s : State) (path : Path) (code : Fin 8) (req : Fin 16) (key : Byte), s.Wf ∧ s.mayRequest path (8 + code.val) = true ∧
      s.glb.tripTick ≠ some s.tick ∧ s.modeBusy = true :=
  ⟨({ (st [(Fld.GLB_MODE_STATUS_MODE, 3)]) with glb := { rel.glb with clearing := true } } : State), .bar0, 7, 0, 0x5A, wf_of _
    (by decide +kernel), (by decide +kernel), (by decide +kernel), (by decide +kernel)⟩

theorem wit_RequestsAreRefused_30 :
    ∃ (s : State) (path : Path) (code : Fin 8) (req : Fin 16) (key : Byte), s.Wf ∧ s.mayRequest path (8 + code.val) = true ∧
      s.glb.tripTick ≠ some s.tick ∧ s.modeBusy = false :=
  ⟨(st [(Fld.GLB_MODE_STATUS_MODE, 4)]), .bar0, 7, 0, 0x5A, wf_of _ (by decide +kernel), (by decide +kernel), (by decide +kernel),
    (by decide +kernel)⟩

theorem wit_RequestsAreRefused_31 :
    ∃ (s : State) (path : Path) (code : Fin 8) (req : Fin 16) (key : Byte), s.Wf ∧ s.mayRequest path req.val = true ∧
      s.glb.tripTick ≠ some s.tick ∧ s.modeBusy = false ∧ (req ≠ 0 ∨ s.mode ≠ 4) :=
  ⟨(st [(Fld.GLB_MODE_STATUS_MODE, 4)]), .bar0, 7, 15, 0x5A, wf_of _ (by decide +kernel), (by decide +kernel), (by decide +kernel),
    (by decide +kernel), (by decide +kernel)⟩

theorem wit_RequestsAreRefused_32 :
    ∃ (s : State) (path : Path) (code : Fin 8) (req : Fin 16) (key : Byte), s.Wf ∧ s.mayRequest path 1 = true ∧
      s.glb.tripTick ≠ some s.tick ∧ s.modeBusy = false ∧ (s.mode ≠ 0 ∨ s.sec.lcs = 3) :=
  ⟨(st [(Fld.GLB_MODE_STATUS_MODE, 1)]), .bar0, 7, 0, 0x5A, wf_of _ (by decide +kernel), (by decide +kernel), (by decide +kernel),
    (by decide +kernel), (by decide +kernel)⟩

theorem wit_RequestsAreRefused_33 :
    ∃ (s : State) (path : Path) (code : Fin 8) (req : Fin 16) (key : Byte), s.Wf ∧ s.mayRequest path 2 = true ∧
      s.glb.tripTick ≠ some s.tick ∧ s.modeBusy = false ∧ (s.mode ≠ 2 ∧ s.mode ≠ 4) :=
  ⟨(st [(Fld.GLB_MODE_STATUS_MODE, 3)]), .bar0, 7, 0, 0x5A, wf_of _ (by decide +kernel), (by decide +kernel), (by decide +kernel),
    (by decide +kernel), (by decide +kernel)⟩

theorem wit_RequestsAreRefused_34 :
    ∃ (s : State) (path : Path) (code : Fin 8) (req : Fin 16) (key : Byte), s.Wf ∧ s.mayRequest path 3 = true ∧
      s.glb.tripTick ≠ some s.tick ∧ s.modeBusy = false ∧ (s.mode ≠ 2 ∧ s.mode ≠ 3) :=
  ⟨(st [(Fld.GLB_MODE_STATUS_MODE, 4)]), .bar0, 7, 0, 0x5A, wf_of _ (by decide +kernel), (by decide +kernel), (by decide +kernel),
    (by decide +kernel), (by decide +kernel)⟩

theorem wit_RequestsAreRefused_35 :
    ∃ (s : State) (path : Path) (code : Fin 8) (req : Fin 16) (key : Byte), s.Wf ∧ s.mayRequest path 4 = true ∧
      s.glb.tripTick ≠ some s.tick ∧ s.modeBusy = false ∧ (s.mode < 5 ∨ s.mode = 7) :=
  ⟨(st [(Fld.GLB_MODE_STATUS_MODE, 4)]), .bar0, 7, 0, 0x5A, wf_of _ (by decide +kernel), (by decide +kernel), (by decide +kernel),
    (by decide +kernel), (by decide +kernel)⟩

theorem wit_RequestsAreRefused_36 :
    ∃ (s : State) (path : Path) (code : Fin 8) (req : Fin 16) (key : Byte), s.Wf ∧ s.mayRequest path 5 = true ∧
      s.glb.tripTick ≠ some s.tick ∧ s.modeBusy = false ∧ (s.mode ≠ 3 ∧ s.mode ≠ 4) :=
  ⟨(st [(Fld.GLB_MODE_STATUS_MODE, 5)]), .bar0, 7, 0, 0x5A, wf_of _ (by decide +kernel), (by decide +kernel), (by decide +kernel),
    (by decide +kernel), (by decide +kernel)⟩

theorem wit_RequestsAreRefused_37 :
    ∃ (s : State) (path : Path) (code : Fin 8) (req : Fin 16) (key : Byte), s.Wf ∧ s.mayRequest path 6 = true ∧
      s.glb.tripTick ≠ some s.tick ∧ s.modeBusy = false ∧ (s.mode = 0 ∨ 4 < s.mode) :=
  ⟨(st [(Fld.GLB_MODE_STATUS_MODE, 5)]), .bar0, 7, 0, 0x5A, wf_of _ (by decide +kernel), (by decide +kernel), (by decide +kernel),
    (by decide +kernel), (by decide +kernel)⟩

theorem wit_RequestsAreRefused_38 :
    ∃ (s : State) (path : Path) (code : Fin 8) (req : Fin 16) (key : Byte), s.Wf ∧ s.mayRequest path 7 = true ∧
      s.glb.tripTick ≠ some s.tick ∧ s.modeBusy = false ∧ s.mode ≠ 7 :=
  ⟨(st [(Fld.GLB_MODE_STATUS_MODE, 6)]), .bar0, 7, 0, 0x5A, wf_of _ (by decide +kernel), (by decide +kernel), (by decide +kernel),
    (by decide +kernel), (by decide +kernel)⟩

theorem wit_TransitionsComplete_0 :
    ∃ (s : State), s.Wf ∧ s.glb.checkOn = true ∧ s.mode = 4 ∧ s.reelLock = true ∧ s.glb.checkFound = none :=
  ⟨({ (st [(Fld.GLB_MODE_STATUS_MODE, 4), (Fld.GLB_MODE_STATUS_REQ_RESULT, 1), (Fld.GLB_CLK_STATUS_PLL_LOCK, 1), (Fld.TLN_STATUS_STATE, 2), (Fld.TLN_STATUS_SRC_QUALIFIED, 1)]) with glb := { rel.glb with checkOn := true } }
    : State), wf_of _ (by decide +kernel), (by decide +kernel), (by decide +kernel), (by decide +kernel), (by decide +kernel)⟩

theorem wit_TransitionsComplete_1 :
    ∃ (s : State) (code : Nat) (obj : Nat) (n : Nat), s.Wf ∧ s.glb.checkOn = true ∧ s.mode = 4 ∧ s.reelLock = true ∧
      s.glb.checkFound = some ((code, obj), n) ∧ code < 2 ^ 16 :=
  ⟨({ (st [(Fld.GLB_MODE_STATUS_MODE, 4), (Fld.GLB_CLK_STATUS_PLL_LOCK, 1), (Fld.TLN_STATUS_STATE, 2), (Fld.TLN_STATUS_SRC_QUALIFIED, 1)]) with glb := { rel.glb with checkOn := true, checkFound := some ((0x0D02, 9), 256) } }
    : State), 0x0D02, 9, 256, wf_of _ (by decide +kernel), (by decide +kernel), (by decide +kernel), (by decide +kernel),
    (by decide +kernel), (by decide +kernel)⟩

theorem wit_TransitionsComplete_2 :
    ∃ (s : State), s.Wf ∧ s.glb.clearing = true :=
  ⟨({ ({ (st [(Fld.GLB_MODE_STATUS_MODE, 2), (Fld.SPN_CTL_EN 63, 1), (Fld.GLB_MODE_STATUS_CFG_VALID, 1)]) with glb := { rel.glb with clearing := true } } : State) with sram := [(5, 6)] }
    : State), wf_of _ (by decide +kernel), (by decide +kernel)⟩

theorem wit_TransitionsComplete_3 :
    ∃ (s : State) (req : Nat), s.Wf ∧ s.glb.restoring = some req :=
  ⟨({ (st [(Fld.GLB_MODE_STATUS_MODE, 2)]) with glb := { rel.glb with restoring := some 3 } } : State), 3, wf_of _
    (by decide +kernel), (by decide +kernel)⟩

theorem wit_TransitionsComplete_4 :
    ∃ (s : State), s.Wf ∧ s.mode = 3 ∧ s.glb.calOn = false ∧ s.bit Fld.GLB_MODE_STATUS_CAL_DONE = false ∧ s.pllLock = true ∧
      ((if s.role = 2 then s.bit Fld.CSC_STATUS_SYNC_ALIGNED else s.bit Fld.GLB_CLK_STATUS_SYNC_DONE) = true) :=
  ⟨(st [(Fld.GLB_MODE_STATUS_MODE, 3), (Fld.GLB_CLK_STATUS_PLL_LOCK, 1), (Fld.GLB_CLK_STATUS_SYNC_DONE, 1)]), wf_of _
    (by decide +kernel), (by decide +kernel), (by decide +kernel), (by decide +kernel), (by decide +kernel), (by decide +kernel)⟩

theorem wit_TransitionsComplete_5 :
    ∃ (s : State), s.Wf ∧ s.glb.calOn = true ∧ s.fld Fld.GLB_MODE_STATUS_REQ_RESULT = 1 ∧
      s.bit Fld.GLB_MODE_STATUS_ARM_PENDING = false :=
  ⟨({ (st [(Fld.GLB_MODE_STATUS_MODE, 3), (Fld.GLB_MODE_STATUS_REQ_RESULT, 1)]) with glb := { rel.glb with calOn := true } } : State),
    wf_of _ (by decide +kernel), (by decide +kernel), (by decide +kernel), (by decide +kernel)⟩

theorem wit_TransitionsComplete_6 :
    ∃ (s : State), s.Wf ∧ s.mode = 3 ∧ s.bit Fld.GLB_MODE_STATUS_ARM_PENDING = true ∧ s.bit Fld.GLB_MODE_STATUS_CAL_DONE = true ∧
      s.reelLock = true ∧ s.fld Fld.GLB_MODE_STATUS_REQ_RESULT = 1 :=
  ⟨(st [(Fld.GLB_MODE_STATUS_MODE, 3), (Fld.GLB_MODE_STATUS_ARM_PENDING, 1), (Fld.GLB_MODE_STATUS_CAL_DONE, 1),
    (Fld.GLB_MODE_STATUS_REQ_RESULT, 1), (Fld.GLB_CLK_STATUS_PLL_LOCK, 1), (Fld.TLN_STATUS_STATE, 2),
    (Fld.TLN_STATUS_SRC_QUALIFIED, 1)]), wf_of _ (by decide +kernel), (by decide +kernel), (by decide +kernel), (by decide +kernel),
    (by decide +kernel), (by decide +kernel)⟩

theorem wit_TransitionsComplete_7 :
    ∃ (s : State), s.Wf ∧ (s.mode = 4 ∨ s.mode = 5) ∧ s.glb.lock2 = true ∧ s.glb.lock1 = false :=
  ⟨({ (st [(Fld.GLB_MODE_STATUS_MODE, 5)]) with glb := { rel.glb with lock2 := true } } : State), wf_of _ (by decide +kernel),
    (by decide +kernel), (by decide +kernel), (by decide +kernel)⟩

theorem wit_TransitionsComplete_8 :
    ∃ (s : State), s.Wf ∧ s.mode = 6 ∧ s.glb.lock2 = false ∧ s.glb.lock1 = true :=
  ⟨({ (st [(Fld.GLB_MODE_STATUS_MODE, 6), (Fld.GLB_MODE_STATUS_HOLD_FROM_RUN, 1)]) with glb := { rel.glb with lock1 := true } } :
    State), wf_of _ (by decide +kernel), (by decide +kernel), (by decide +kernel), (by decide +kernel)⟩

theorem wit_TransitionsComplete_9 :
    ∃ (s : State) (n : Nat), s.Wf ∧ s.glb.stopTick = some n ∧ n < s.tick ∧ s.atRest = true ∧ s.mode = 5 :=
  ⟨({ ({ (st [(Fld.GLB_MODE_STATUS_MODE, 5)]) with glb := { rel.glb with stopTick := some 0 } } : State) with tick := 1 } : State), 0,
    wf_of _ (by decide +kernel), (by decide +kernel), (by decide +kernel), (by decide +kernel), (by decide +kernel)⟩

theorem wit_TransitionsComplete_10 :
    ∃ (s : State) (n : Nat), s.Wf ∧ s.glb.stopTick = some n ∧ n + 5000 ≤ s.tick ∧ s.mode = 5 :=
  ⟨({ ({ (st [(Fld.GLB_MODE_STATUS_MODE, 5)]) with glb := { rel.glb with stopTick := some 0 } } : State) with tick := 5000 } : State),
    0, wf_of _ (by decide +kernel), (by decide +kernel), (by decide +kernel), (by decide +kernel)⟩

theorem wit_TransitionsComplete_11 :
    ∃ (s : State) (req : Nat) (m : Nat), s.Wf ∧ s.glb.rampTo = some (req, m) ∧ s.biasOn = false ∧ s.glb.bias1 = false ∧
      s.glb.bias2 = true ∧ (1 ≤ m ∧ m < 8) :=
  ⟨({ (st [(Fld.GLB_MODE_STATUS_MODE, 4)]) with glb := { rel.glb with rampTo := some (2, 3), bias2 := true } } : State), 2, 3, wf_of _
    (by decide +kernel), (by decide +kernel), (by decide +kernel), (by decide +kernel), (by decide +kernel), (by decide +kernel)⟩

theorem wit_TransitionsComplete_12 :
    ∃ (s : State), s.Wf ∧ s.mode = 6 ∧ s.tln.expired = false ∧ s.fld Fld.TLN_HOLD_POLICY_POLICY = 1 ∧
      s.fld Fld.TLN_HOLD_POLICY_MAX ≠ 0 ∧ s.reelState = 3 ∧ s.tln.holdTick + 500000 * s.fld Fld.TLN_HOLD_POLICY_MAX ≤ s.tick :=
  ⟨({ (st [(Fld.GLB_MODE_STATUS_MODE, 6), (Fld.TLN_HOLD_POLICY_POLICY, 1), (Fld.TLN_HOLD_POLICY_MAX, 1), (Fld.TLN_STATUS_STATE, 3)]) with tick := 500000 }
    : State), wf_of _ (by decide +kernel), (by decide +kernel), (by decide +kernel), (by decide +kernel), (by decide +kernel),
    (by decide +kernel), (by decide +kernel)⟩

theorem wit_SampleClock_0 :
    ∃ (s : State) (path : Path) (v : Word), s.Wf ∧ s.accepts path Reg.GLB_CLK_CTL = true ∧ (s.mode = 2 ∨ s.mode = 3 ∨ s.mode = 7) ∧
      s.role ≠ 2 ∧ fieldGet v Fld.GLB_CLK_CTL_REF_SRC = s.fld Fld.GLB_CLK_CTL_REF_SRC :=
  ⟨(st [(Fld.GLB_MODE_STATUS_MODE, 7)]), .bar0, 0x100, wf_of _ (by decide +kernel), (by decide +kernel), (by decide +kernel),
    (by decide +kernel), (by decide +kernel)⟩

theorem wit_SampleClock_1 :
    ∃ (s : State) (path : Path) (v : Word), s.Wf ∧ s.accepts path Reg.GLB_CLK_CTL = true ∧
      ((s.mode ≠ 2 ∧ s.mode ≠ 3 ∧ s.mode ≠ 7) ∨ s.role = 2) ∧ fieldGet v Fld.GLB_CLK_CTL_REF_SRC = s.fld Fld.GLB_CLK_CTL_REF_SRC :=
  ⟨(st [(Fld.GLB_MODE_STATUS_MODE, 6)]), .bar0, 0x100, wf_of _ (by decide +kernel), (by decide +kernel), (by decide +kernel),
    (by decide +kernel)⟩

theorem wit_SampleClock_2 :
    ∃ (s : State) (path : Path) (v : Word), s.Wf ∧ s.accepts path Reg.GLB_CLK_CTL = true ∧ s.rwlLocked = false ∧
      fieldGet v Fld.GLB_CLK_CTL_SYNC = 0 ∧ fieldGet v Fld.GLB_CLK_CTL_REF_SRC ≠ s.fld Fld.GLB_CLK_CTL_REF_SRC ∧
      4 ≤ fieldGet v Fld.GLB_CLK_CTL_REF_SRC ∧ s.pllOff = false :=
  ⟨(st [(Fld.GLB_MODE_STATUS_MODE, 3), (Fld.GLB_CLK_STATUS_PLL_LOCK, 1)]), .bar0, 7, wf_of _ (by decide +kernel), (by decide +kernel),
    (by decide +kernel), (by decide +kernel), (by decide +kernel), (by decide +kernel), (by decide +kernel)⟩

theorem wit_SampleClock_3 :
    ∃ (s : State) (path : Path) (v : Word), s.Wf ∧ s.accepts path Reg.GLB_CLK_CTL = true ∧ fieldGet v Fld.GLB_CLK_CTL_SYNC = 0 ∧
      (1 ≤ fieldGet v Fld.GLB_CLK_CTL_REF_SRC ∧ fieldGet v Fld.GLB_CLK_CTL_REF_SRC ≤ 3) ∧ s.fld Fld.GLB_CLK_CTL_REF_SRC = 0 :=
  ⟨(st [(Fld.GLB_MODE_STATUS_MODE, 3)]), .bar0, 3, wf_of _ (by decide +kernel), (by decide +kernel), (by decide +kernel),
    (by decide +kernel), (by decide +kernel)⟩

theorem wit_SampleClock_4 :
    ∃ (s : State), s.Wf ∧ s.glb.syncDue = true ∧ s.pllLock = true ∧ s.role ≠ 2 :=
  ⟨({ (st [(Fld.GLB_MODE_STATUS_MODE, 1), (Fld.GLB_CLK_STATUS_PLL_LOCK, 1)]) with glb := { rel.glb with syncDue := true } } : State),
    wf_of _ (by decide +kernel), (by decide +kernel), (by decide +kernel), (by decide +kernel)⟩

theorem wit_SampleClock_5 :
    ∃ (s : State) (src : Fin 8), s.Wf ∧ s.fld Fld.GLB_CLK_CTL_REF_SRC = src ∧ s.pllLock = true ∧ src.val ∈ s.glb.refs :=
  ⟨({ (st [(Fld.GLB_MODE_STATUS_MODE, 3), (Fld.GLB_CLK_STATUS_PLL_LOCK, 1)]) with glb := { rel.glb with refs := [0] } } : State), 0,
    wf_of _ (by decide +kernel), (by decide +kernel), (by decide +kernel), (by decide +kernel)⟩

theorem wit_SampleClock_6 :
    ∃ (s : State) (src : Fin 8), s.Wf ∧ s.fld Fld.GLB_CLK_CTL_REF_SRC = src :=
  ⟨rel, 0, wf_of _ (by decide +kernel), (by decide +kernel)⟩

theorem wit_SampleClock_7 :
    ∃ (s : State), s.Wf ∧ s.pllLock = true :=
  ⟨(st [(Fld.GLB_MODE_STATUS_MODE, 3), (Fld.GLB_CLK_STATUS_PLL_LOCK, 1)]), wf_of _ (by decide +kernel), (by decide +kernel)⟩

theorem wit_SampleClock_8 :
    ∃ (s : State), s.Wf ∧ s.pllOff = false ∧ s.refPresent = true ∧ s.pllLock = false :=
  ⟨({ (st [(Fld.GLB_MODE_STATUS_MODE, 1)]) with glb := { rel.glb with refs := [0] } } : State), wf_of _ (by decide +kernel),
    (by decide +kernel), (by decide +kernel), (by decide +kernel)⟩

theorem wit_ReelAdvances_0 :
    ∃ (s : State), s.Wf ∧ (∀ p ∈ s.later, s.tick + 1 < p.1) :=
  ⟨({ st [(Fld.TLN_STATUS_STATE, 2), (Fld.TLN_ADJ_ADJ, 0xFFFFFF)] with tln := { rel.tln with reel := 5 }, later := [(2, .dormTol)] } :
    State), wf_of _ (by decide +kernel), (by decide +kernel)⟩

theorem wit_PtpPorts_0 :
    ∃ (s : State) (p : Fin 2) (m : PtpMsg) (cyc : Fin 32) (t1 : Int), s.Wf ∧ s.ptpOn p = true ∧ s.hears p m = true ∧
      (s.port p).selected = some m.sender :=
  ⟨((st [(Fld.GLB_MODE_STATUS_MODE, 3), (Fld.TLN_PTP_CFG_EN 1, 1), (Fld.TLN_CTL_SRC, 1), (Fld.TLN_CTL_PTP_PRIMARY, 0),
    (Fld.TLN_PTP_CORR_INGRESS 1, 413)]).setPort 1 { exchanges := 0, selected := some 9 }), 1, ⟨0, false, 9, 7⟩, 17, 5, wf_of _
    (by decide +kernel), (by decide +kernel), (by decide +kernel), (by decide +kernel)⟩

theorem wit_PtpPorts_1 :
    ∃ (s : State) (p : Fin 2) (m : PtpMsg) (cyc : Fin 32) (t1 : Int) (d : Int), s.Wf ∧ s.ptpOn p = true ∧ s.hears p m = true ∧
      (s.port p).selected = some m.sender ∧ (s.port p).delay = some d ∧ p.val ≠ s.primary :=
  ⟨((st [(Fld.GLB_MODE_STATUS_MODE, 3), (Fld.TLN_PTP_CFG_EN 1, 1), (Fld.TLN_CTL_SRC, 1), (Fld.TLN_CTL_PTP_PRIMARY, 0),
    (Fld.TLN_PTP_CORR_INGRESS 1, 413)]).setPort 1 { delay := some 70, selected := some 9 }), 1, ⟨0, false, 9, 7⟩, 17, 5, 70, wf_of _
    (by decide +kernel), (by decide +kernel), (by decide +kernel), (by decide +kernel), (by decide +kernel), (by decide +kernel)⟩

theorem wit_PtpPorts_2 :
    ∃ (s : State) (p : Fin 2) (m : PtpMsg) (cyc : Fin 32) (t1 : Int) (two : Bool), s.Wf ∧ s.ptpOn p = true ∧ s.hears p m = false :=
  ⟨((st [(Fld.GLB_MODE_STATUS_MODE, 3), (Fld.TLN_PTP_CFG_EN 1, 1), (Fld.TLN_CTL_SRC, 1), (Fld.TLN_CTL_PTP_PRIMARY, 0),
    (Fld.TLN_PTP_CORR_INGRESS 1, 413)]).setPort 1 { selected := some 9 }), 1, ⟨0, true, 9, 7⟩, 17, 5, true, wf_of _
    (by decide +kernel), (by decide +kernel), (by decide +kernel)⟩

theorem wit_PtpPorts_3 :
    ∃ (s : State) (p : Fin 2) (m : PtpMsg) (cyc : Fin 32) (t1 : Int) (q : Nat), s.Wf ∧ s.ptpOn p = true ∧ s.hears p m = true ∧
      (s.port p).selected = some m.sender ∧ (s.port p).lastSeq = some q ∧ (q + 1) % 2 ^ 16 ≠ m.seq.toNat ∧ s.qualified p = false :=
  ⟨((st [(Fld.GLB_MODE_STATUS_MODE, 3), (Fld.TLN_PTP_CFG_EN 1, 1), (Fld.TLN_CTL_SRC, 1), (Fld.TLN_CTL_PTP_PRIMARY, 0),
    (Fld.TLN_PTP_CORR_INGRESS 1, 413)]).setPort 1 { exchanges := 3, lastSeq := some 7, selected := some 9 }), 1, ⟨0, false, 9, 7⟩, 17,
    5, 7, wf_of _ (by decide +kernel), (by decide +kernel), (by decide +kernel), (by decide +kernel), (by decide +kernel),
    (by decide +kernel), (by decide +kernel)⟩

theorem wit_PtpPorts_4 :
    ∃ (s : State) (p : Fin 2) (m : PtpMsg) (cyc : Fin 32) (t1 : Int) (t2 : Int), s.Wf ∧ s.ptpOn p = true ∧ s.hears p m = true ∧
      (s.port p).selected = some m.sender ∧ (s.port p).syncT2 = some t2 ∧ (s.port p).lastSeq = some m.seq.toNat ∧
      (s.port p).delay = none :=
  ⟨((st [(Fld.GLB_MODE_STATUS_MODE, 3), (Fld.TLN_PTP_CFG_EN 1, 1), (Fld.TLN_CTL_SRC, 1), (Fld.TLN_CTL_PTP_PRIMARY, 0),
    (Fld.TLN_PTP_CORR_INGRESS 1, 413)]).setPort 1 { syncT2 := some 9, lastSeq := some 7, selected := some 9 }), 1, ⟨0, false, 9, 7⟩,
    default, 5, 9, wf_of _ (by decide +kernel), (by decide +kernel), (by decide +kernel), (by decide +kernel), (by decide +kernel),
    (by decide +kernel), (by decide +kernel)⟩

theorem wit_PtpPorts_5 :
    ∃ (s : State) (p : Fin 2) (m : PtpMsg) (cyc : Fin 32), s.Wf ∧ s.ptpOn p = true ∧
      s.launchInWay p (s.delayReqFrame p).length = false ∧ (s.port p).selected.isSome = true ∧ (s.port p).dreqTick = none :=
  ⟨((st [(Fld.GLB_MODE_STATUS_MODE, 3), (Fld.TLN_PTP_CFG_EN 1, 1), (Fld.TLN_CTL_SRC, 1), (Fld.TLN_CTL_PTP_PRIMARY, 0),
    (Fld.TLN_PTP_CORR_INGRESS 1, 413)]).setPort 1 { lastSync := some (1, 2), exchanges := 3, selected := some 9 }), 1,
    ⟨0, false, 0, 0⟩, 31, wf_of _ (by decide +kernel), (by decide +kernel), (by decide +kernel), (by decide +kernel),
    (by decide +kernel)⟩

theorem wit_PtpPorts_6 :
    ∃ (s : State) (p : Fin 2) (m : PtpMsg) (cyc : Fin 32) (n : Nat), s.Wf ∧ s.ptpOn p = true ∧
      s.launchInWay p (s.delayReqFrame p).length = false ∧ (s.port p).selected.isSome = true ∧ (s.port p).dreqTick = some n ∧
      n + s.dreqTicks p ≤ s.tick ∧ (s.port p).dreq.isSome = true ∧ s.qualified p = false :=
  ⟨({ ((st [(Fld.GLB_MODE_STATUS_MODE, 3), (Fld.TLN_PTP_CFG_EN 1, 1), (Fld.TLN_CTL_SRC, 1), (Fld.TLN_CTL_PTP_PRIMARY, 0), (Fld.TLN_PTP_CORR_INGRESS 1, 413), (Fld.TLN_PTP_CFG_TRANSPORT 1, 1)]).setPort 1 { dreq := some (4, (1, 2)), dreqTick := some 0, exchanges := 3, selected := some 9 }) with tick := 500000000 }
    : State), 1, ⟨0, false, 0, 0⟩, 31, 0, wf_of _ (by decide +kernel), (by decide +kernel), (by decide +kernel), (by decide +kernel),
    (by decide +kernel), (by decide +kernel), (by decide +kernel), (by decide +kernel)⟩

theorem wit_PtpPorts_7 :
    ∃ (s : State) (p : Fin 2) (m : PtpMsg) (cyc : Fin 32) (n : Nat), s.Wf ∧ s.ptpOn p = true ∧ (s.port p).dreqTick = some n ∧
      s.tick < n + s.dreqTicks p :=
  ⟨((st [(Fld.GLB_MODE_STATUS_MODE, 3), (Fld.TLN_PTP_CFG_EN 1, 1), (Fld.TLN_CTL_SRC, 1), (Fld.TLN_CTL_PTP_PRIMARY, 0),
    (Fld.TLN_PTP_CORR_INGRESS 1, 413), (Fld.TLN_PTP_CFG_LOG_DREQ 1, 9)]).setPort 1 { dreqTick := some 0, selected := some 9 }), 1,
    ⟨0, false, 0, 0⟩, 31, 0, wf_of _ (by decide +kernel), (by decide +kernel), (by decide +kernel), (by decide +kernel)⟩

theorem wit_PtpPorts_8 :
    ∃ (s : State) (p : Fin 2) (m : PtpMsg) (cyc : Fin 32) (t1 : Int) (t2 : Int) (t3 : Int) (t4 : Int), s.Wf ∧ s.ptpOn p = true ∧
      s.hears p m = true ∧ (s.port p).selected = some m.sender ∧ (s.port p).dreq = some (t3, (t1, t2)) ∧
      (m.seq.toNat + 1) % 2 ^ 16 = (s.port p).dreqSeq :=
  ⟨((st [(Fld.GLB_MODE_STATUS_MODE, 3), (Fld.TLN_PTP_CFG_EN 1, 1), (Fld.TLN_CTL_SRC, 1), (Fld.TLN_CTL_PTP_PRIMARY, 0),
    (Fld.TLN_PTP_CORR_INGRESS 1, 413)]).setPort 1 { dreq := some (30, (10, 20)), exchanges := 3, dreqSeq := 8, selected := some 9 }),
    1, ⟨0, false, 9, 7⟩, default, 10, 20, 30, 40, wf_of _ (by decide +kernel), (by decide +kernel), (by decide +kernel),
    (by decide +kernel), (by decide +kernel), (by decide +kernel)⟩

theorem wit_PtpPorts_9 :
    ∃ (s : State) (p : Fin 2) (m : PtpMsg) (cyc : Fin 32) (a : Announce), s.Wf ∧ s.ptpOn p = true ∧ s.hears p m = true ∧
      (s.port p).heard = [] :=
  ⟨((st [(Fld.GLB_MODE_STATUS_MODE, 3), (Fld.TLN_PTP_CFG_EN 1, 1), (Fld.TLN_CTL_SRC, 1), (Fld.TLN_CTL_PTP_PRIMARY, 0),
    (Fld.TLN_PTP_CORR_INGRESS 1, 413)]).setPort 1 { exchanges := 0 }), 1, ⟨0, false, 9, 7⟩, default, ⟨1, 2, 3, 4, 5, 6, 7, 8⟩, wf_of _
    (by decide +kernel), (by decide +kernel), (by decide +kernel), (by decide +kernel)⟩

theorem wit_PtpPorts_10 :
    ∃ (s : State) (p : Fin 2) (m : PtpMsg) (cyc : Fin 32) (a : Announce) (n : Nat), s.Wf ∧ s.ptpOn p = true ∧ s.hears p m = true ∧
      (s.port p).heard = [] ∧ (s.port p).selected ≠ some a.sender ∧ (s.port p).former = some n ∧ n ≠ a.sender :=
  ⟨((st [(Fld.GLB_MODE_STATUS_MODE, 3), (Fld.TLN_PTP_CFG_EN 1, 1), (Fld.TLN_CTL_SRC, 1), (Fld.TLN_CTL_PTP_PRIMARY, 0),
    (Fld.TLN_PTP_CORR_INGRESS 1, 413)]).setPort 1 { former := some 9 }), 1, ⟨0, false, 9, 7⟩, default, ⟨1, 2, 3, 4, 5, 6, 7, 8⟩, 9,
    wf_of _ (by decide +kernel), (by decide +kernel), (by decide +kernel), (by decide +kernel), (by decide +kernel),
    (by decide +kernel), (by decide +kernel)⟩

theorem wit_PtpPorts_11 :
    ∃ (s : State) (p : Fin 2) (m : PtpMsg) (cyc : Fin 32), s.Wf ∧ s.ptpOn p = true :=
  ⟨((st [(Fld.GLB_MODE_STATUS_MODE, 3), (Fld.TLN_PTP_CFG_EN 1, 1), (Fld.TLN_CTL_SRC, 1), (Fld.TLN_CTL_PTP_PRIMARY, 0),
    (Fld.TLN_PTP_CORR_INGRESS 1, 413), (Fld.TLN_PTP_STATUS_RX_DROP 1, 0xFFFF)]).setPort 1 { exchanges := 0 }), 1, ⟨0, false, 0, 0⟩,
    default, wf_of _ (by decide +kernel), (by decide +kernel)⟩

theorem wit_PtpPorts_12 :
    ∃ (s : State) (p : Fin 2) (m : PtpMsg) (cyc : Fin 32), s.Wf ∧ s.ptpOn p = true ∧ p.val ≠ s.primary :=
  ⟨((st [(Fld.GLB_MODE_STATUS_MODE, 3), (Fld.TLN_PTP_CFG_EN 1, 1), (Fld.TLN_CTL_SRC, 1), (Fld.TLN_CTL_PTP_PRIMARY, 0),
    (Fld.TLN_PTP_CORR_INGRESS 1, 413), (Fld.TLN_PTP_STATUS_QUALIFIED 1, 1)]).setPort 1 { exchanges := 5, delay := some 3 }), 1,
    ⟨0, false, 0, 0⟩, default, wf_of _ (by decide +kernel), (by decide +kernel), (by decide +kernel)⟩

theorem wit_PtpPorts_13 :
    ∃ (s : State) (p : Fin 2) (m : PtpMsg) (cyc : Fin 32), s.Wf ∧ s.ptpOn p = true ∧ p.val = s.primary ∧ s.fld Fld.TLN_CTL_SRC = 1 ∧
      s.qualified (1 - p) = true :=
  ⟨((st [(Fld.GLB_MODE_STATUS_MODE, 3), (Fld.TLN_PTP_CFG_EN 1, 1), (Fld.TLN_CTL_SRC, 1), (Fld.TLN_CTL_PTP_PRIMARY, 1),
    (Fld.TLN_PTP_CORR_INGRESS 1, 413), (Fld.TLN_PTP_STATUS_QUALIFIED 0, 1), (Fld.TLN_STATUS_STATE, 2),
    (Fld.TLN_HOLD_ADJ_ADJ, 0xFFFFFF)]).setPort 1 { exchanges := 5 }), 1, ⟨0, false, 0, 0⟩, default, wf_of _ (by decide +kernel),
    (by decide +kernel), (by decide +kernel), (by decide +kernel), (by decide +kernel)⟩

theorem wit_PtpPorts_14 :
    ∃ (s : State) (p : Fin 2) (m : PtpMsg) (cyc : Fin 32), s.Wf ∧ s.ptpOn p = true ∧ p.val = s.primary ∧ s.fld Fld.TLN_CTL_SRC = 1 ∧
      s.qualified (1 - p) = false :=
  ⟨((st [(Fld.GLB_MODE_STATUS_MODE, 3), (Fld.TLN_PTP_CFG_EN 1, 1), (Fld.TLN_CTL_SRC, 1), (Fld.TLN_CTL_PTP_PRIMARY, 1),
    (Fld.TLN_PTP_CORR_INGRESS 1, 413), (Fld.TLN_STATUS_STATE, 2)]).setPort 1 { exchanges := 5 }), 1, ⟨0, false, 0, 0⟩, default, wf_of
    _ (by decide +kernel), (by decide +kernel), (by decide +kernel), (by decide +kernel), (by decide +kernel)⟩

theorem wit_PtpPorts_15 :
    ∃ (s : State) (p : Fin 2) (m : PtpMsg) (cyc : Fin 32), s.Wf ∧ s.ptpOn p = true ∧ p.val ≠ s.primary :=
  ⟨((st [(Fld.GLB_MODE_STATUS_MODE, 3), (Fld.TLN_PTP_CFG_EN 1, 1), (Fld.TLN_CTL_SRC, 1), (Fld.TLN_CTL_PTP_PRIMARY, 0),
    (Fld.TLN_PTP_CORR_INGRESS 1, 413)]).setPort 1
    { heard := [⟨1, 2, 3, 4, 5, 6, 7, 8⟩, ⟨1, 2, 3, 4, 5, 6, 7, 9⟩], selected := some 8 }), 1, ⟨0, false, 0, 0⟩, default, wf_of _
    (by decide +kernel), (by decide +kernel), (by decide +kernel)⟩

theorem wit_ServoAndRefusals_0 :
    ∃ (s : State) (e : Int) (periods : Nat) (sec : Nat) (pos : Fin 512), s.Wf ∧ s.fld Fld.TLN_CTL_SRC = 2 ∧
      s.bit Fld.TLN_STATUS_SRC_QUALIFIED = true ∧ s.tln.ppsSec = some sec ∧ e = s.extOffset sec (100 * periods) pos ∧ s.role = 0 ∧
      s.tln.asymOn = false ∧ s.reelState = 2 ∧ s.tln.slewOut = none ∧ e.natAbs ≤ s.jumpLimit.natAbs :=
  ⟨({ st [(Fld.GLB_MODE_STATUS_MODE, 3), (Fld.TLN_CTL_SRC, 2), (Fld.TLN_STATUS_SRC_QUALIFIED, 1), (Fld.TLN_STATUS_STATE, 2), (Fld.TLN_JUMP_LIMIT_NS, 2)] with tln := { rel.tln with ppsSec := some 0, reel := 512 * 2 ^ 24 } }
    : State), -512, 0, 0, 0, wf_of _ (by decide +kernel), (by decide +kernel), (by decide +kernel), (by decide +kernel),
    (by decide +kernel), (by decide +kernel), (by decide +kernel), (by decide +kernel), (by decide +kernel), (by decide +kernel)⟩

theorem wit_ServoAndRefusals_1 :
    ∃ (s : State) (e : Int) (periods : Nat) (sec : Nat) (pos : Fin 512), s.Wf ∧ s.fld Fld.TLN_CTL_SRC = 2 ∧
      s.bit Fld.TLN_STATUS_SRC_QUALIFIED = true ∧ s.tln.ppsSec = some sec ∧ e = s.extOffset sec (100 * periods) pos ∧ s.role = 0 ∧
      s.tln.asymOn = false ∧ s.reelState = 2 ∧ s.tln.slewOut = none ∧ s.jumpLimit.natAbs < e.natAbs :=
  ⟨({ st [(Fld.GLB_MODE_STATUS_MODE, 3), (Fld.TLN_CTL_SRC, 2), (Fld.TLN_STATUS_SRC_QUALIFIED, 1), (Fld.TLN_STATUS_STATE, 2), (Fld.TLN_JUMP_LIMIT_NS, 2), (Fld.TLN_COUNT_REFUSED, 255), (Fld.TLN_HOLD_ADJ_ADJ, 0xFFFFFE)] with tln := { rel.tln with ppsSec := some 0, reel := 513 * 2 ^ 24 } }
    : State), -513, 0, 0, 0, wf_of _ (by decide +kernel), (by decide +kernel), (by decide +kernel), (by decide +kernel),
    (by decide +kernel), (by decide +kernel), (by decide +kernel), (by decide +kernel), (by decide +kernel), (by decide +kernel)⟩

theorem wit_ServoAndRefusals_2 :
    ∃ (s : State) (e : Int) (periods : Nat) (sec : Nat) (pos : Fin 512) (e0 : Int), s.Wf ∧ s.fld Fld.TLN_CTL_SRC = 2 ∧
      s.bit Fld.TLN_STATUS_SRC_QUALIFIED = true ∧ s.tln.ppsSec = some sec ∧ e = s.extOffset sec (100 * periods) pos ∧ s.role = 0 ∧
      s.tln.asymOn = false ∧ s.reelState = 3 ∧ s.jumpLimit.natAbs < e.natAbs ∧ s.tln.slewOut = some e0 ∧
      (e - e0).natAbs ≤ s.jumpLimit.natAbs :=
  ⟨({ st [(Fld.GLB_MODE_STATUS_MODE, 3), (Fld.TLN_CTL_SRC, 2), (Fld.TLN_STATUS_SRC_QUALIFIED, 1), (Fld.TLN_STATUS_STATE, 3), (Fld.TLN_JUMP_LIMIT_NS, 2)] with tln := { rel.tln with ppsSec := some 0, reel := 613 * 2 ^ 24, slewOut := some (-1000) } }
    : State), -613, 0, 0, 0, -1000, wf_of _ (by decide +kernel), (by decide +kernel), (by decide +kernel), (by decide +kernel),
    (by decide +kernel), (by decide +kernel), (by decide +kernel), (by decide +kernel), (by decide +kernel), (by decide +kernel),
    (by decide +kernel)⟩

theorem wit_ServoAndRefusals_3 :
    ∃ (s : State) (path : Path), s.Wf ∧ s.accepts path Reg.TLN_CMD = true ∧ s.acceptActs = true :=
  ⟨({ st [(Fld.GLB_MODE_STATUS_MODE, 3), (Fld.TLN_STATUS_STATE, 3), (Fld.TLN_STATUS_REFUSAL_STORED, 1)] with tln := { rel.tln with refused := -600 } }
    : State), .bar0, wf_of _ (by decide +kernel), (by decide +kernel), (by decide +kernel)⟩

theorem wit_ServoAndRefusals_4 :
    ∃ (s : State) (path : Path), s.Wf ∧ s.accepts path Reg.TLN_CMD = true ∧ s.acceptActs = true ∧ 0 < s.tln.refused ∧
      s.anySpindleRuns = false ∧ s.tln.reel + (s.tln.refused * 2 ^ 24).toNat < 2 ^ 96 :=
  ⟨({ st [(Fld.GLB_MODE_STATUS_MODE, 3), (Fld.TLN_STATUS_STATE, 3), (Fld.TLN_STATUS_REFUSAL_STORED, 1)] with tln := { rel.tln with refused := 600 } }
    : State), .bar0, wf_of _ (by decide +kernel), (by decide +kernel), (by decide +kernel), (by decide +kernel), (by decide +kernel),
    (by decide +kernel)⟩

theorem wit_ServoAndRefusals_5 :
    ∃ (s : State) (path : Path), s.Wf ∧ s.accepts path Reg.TLN_CMD = true ∧
      (s.acceptActs = false ∨ s.tln.refused ≤ 0 ∨ s.anySpindleRuns = true) :=
  ⟨({ st [(Fld.GLB_MODE_STATUS_MODE, 6), (Fld.TLN_STATUS_STATE, 3), (Fld.TLN_STATUS_REFUSAL_STORED, 1), (Fld.SPN_STATUS_STATE 63, 2)] with tln := { rel.tln with refused := 600 } }
    : State), .bar0, wf_of _ (by decide +kernel), (by decide +kernel), (by decide +kernel)⟩

theorem wit_ServoAndRefusals_6 :
    ∃ (s : State) (path : Path), s.Wf ∧ s.accepts path Reg.TLN_CMD = true ∧ s.acceptActs = false :=
  ⟨({ st [(Fld.GLB_MODE_STATUS_MODE, 5), (Fld.TLN_STATUS_STATE, 3), (Fld.TLN_STATUS_REFUSAL_STORED, 1)] with tln := { rel.tln with refused := 600 } }
    : State), .bar0, wf_of _ (by decide +kernel), (by decide +kernel), (by decide +kernel)⟩

theorem wit_ExtSource_0 :
    ∃ (s : State) (f : TimeCode) (n : Nat), s.Wf ∧ timeCodeSeconds f = some n :=
  ⟨rel, ⟨4, true, 0x59, 0x59, 0x23, 0x366, 0x24⟩, 1735689599, wf_of _ (by decide +kernel), (by decide +kernel)⟩

theorem wit_ExtSource_1 :
    ∃ (s : State) (f : TimeCode), s.Wf ∧ timeCodeSeconds f = none :=
  ⟨rel, ⟨3, true, 0x59, 0x59, 0x23, 0x366, 0x24⟩, wf_of _ (by decide +kernel), (by decide +kernel)⟩

theorem wit_ExtSource_2 :
    ∃ (s : State) (periods : Nat) (pos : Fin 512) (n : Nat), s.Wf ∧ s.fld Fld.TLN_CTL_SRC = 2 ∧ s.tln.ref10m = true ∧
      (9999999 ≤ periods ∧ periods ≤ 10000001) ∧ s.tln.tcode = some n ∧ s.reelState = 2 :=
  ⟨({ st [(Fld.TLN_CTL_SRC, 2), (Fld.TLN_STATUS_STATE, 2)] with tln := { rel.tln with ref10m := true, tcode := some 100 } } : State),
    9999999, 7, 100, wf_of _ (by decide +kernel), (by decide +kernel), (by decide +kernel), (by decide +kernel), (by decide +kernel),
    (by decide +kernel)⟩

theorem wit_ExtSource_3 :
    ∃ (s : State) (periods : Nat) (pos : Fin 512) (n : Nat), s.Wf ∧ s.fld Fld.TLN_CTL_SRC = 2 ∧ s.tln.tcode = some n ∧
      s.reelRuns = true ∧ s.bit Fld.TLN_UTC_OFFSET_NEXT_ARM = true ∧
      s.extOffset n 0 pos = -(((s.fld Fld.TLN_UTC_OFFSET_NEXT : Int) - s.fld Fld.TLN_UTC_OFFSET_CURRENT) * 256000000000) :=
  ⟨({ st [(Fld.TLN_CTL_SRC, 2), (Fld.TLN_STATUS_STATE, 2), (Fld.TLN_UTC_OFFSET_NEXT_ARM, 1), (Fld.TLN_UTC_OFFSET_CURRENT, 36), (Fld.TLN_UTC_OFFSET_NEXT, 37)] with tln := { rel.tln with ref10m := true, tcode := some 100, reel := 137000000000 * 2 ^ 32 } }
    : State), 9999999, 0, 100, wf_of _ (by decide +kernel), (by decide +kernel), (by decide +kernel), (by decide +kernel),
    (by decide +kernel), (by decide +kernel)⟩

theorem wit_ExtSource_4 :
    ∃ (s : State) (periods : Nat) (pos : Fin 512), s.Wf ∧ (periods < 9999999 ∨ 10000001 < periods) :=
  ⟨({ st [(Fld.TLN_CTL_SRC, 2), (Fld.TLN_STATUS_STATE, 2)] with tln := { rel.tln with ref10m := true, tcode := some 100 } } : State),
    10000002, 7, wf_of _ (by decide +kernel), (by decide +kernel)⟩

theorem wit_ExtSource_5 :
    ∃ (s : State), s.Wf ∧ s.fld Fld.TLN_CTL_SRC = 2 ∧ s.bit Fld.TLN_STATUS_SRC_QUALIFIED = true ∧ s.reelState = 2 :=
  ⟨({ st [(Fld.GLB_MODE_STATUS_MODE, 3), (Fld.TLN_CTL_SRC, 2), (Fld.TLN_STATUS_SRC_QUALIFIED, 1), (Fld.TLN_STATUS_STATE, 2), (Fld.TLN_JUMP_LIMIT_NS, 2), (Fld.TLN_HOLD_ADJ_ADJ, 0xFFFFFE)] with tln := { rel.tln with ppsSec := some 0, reel := 0 * 2 ^ 24 } }
    : State), wf_of _ (by decide +kernel), (by decide +kernel), (by decide +kernel), (by decide +kernel)⟩

theorem wit_ExtSource_6 :
    ∃ (s : State), s.Wf ∧ s.fld Fld.TLN_CTL_SRC = 2 ∧ s.bit Fld.TLN_STATUS_SRC_QUALIFIED = true ∧ s.reelState = 2 :=
  ⟨({ st [(Fld.GLB_MODE_STATUS_MODE, 3), (Fld.TLN_CTL_SRC, 2), (Fld.TLN_STATUS_SRC_QUALIFIED, 1), (Fld.TLN_STATUS_STATE, 2), (Fld.TLN_JUMP_LIMIT_NS, 2), (Fld.TLN_HOLD_ADJ_ADJ, 0xFFFFFE)] with tln := { rel.tln with ppsSec := some 0, reel := 0 * 2 ^ 24 } }
    : State), wf_of _ (by decide +kernel), (by decide +kernel), (by decide +kernel), (by decide +kernel)⟩

theorem wit_LaunchSlots_0 :
    ∃ (s : State) (k : Fin 16) (path : Path) (v : Word), s.Wf ∧ s.accepts path (Reg.TLN_LAUNCH_CFG k) = true ∧ v.getLsbD 0 = true ∧
      s.bit (Fld.TLN_LAUNCH_CFG_ARM k) = false ∧ s.tln.reel + 1000 * 2 ^ 32 ≤ s.rd64 (Reg.TLN_LAUNCH_T_LO k) * 2 ^ 32 :=
  ⟨({ st [(Fld.GLB_MODE_STATUS_MODE, 3), (Fld.TLN_STATUS_STATE, 2), (⟨Reg.TLN_LAUNCH_T_LO 15, 0, 32⟩, 1007)] with tln := { rel.tln with reel := 7 * 2 ^ 32 } }
    : State), 15, .bar0, 0x7FFF0001, wf_of _ (by decide +kernel), (by decide +kernel), (by decide +kernel), (by decide +kernel),
    (by decide +kernel)⟩

theorem wit_LaunchSlots_1 :
    ∃ (s : State) (k : Fin 16) (path : Path) (v : Word), s.Wf ∧ s.accepts path (Reg.TLN_LAUNCH_CFG k) = true ∧ v.getLsbD 0 = true ∧
      s.bit (Fld.TLN_LAUNCH_CFG_ARM k) = false ∧ s.rd64 (Reg.TLN_LAUNCH_T_LO k) * 2 ^ 32 < s.tln.reel + 1000 * 2 ^ 32 :=
  ⟨({ st [(Fld.GLB_MODE_STATUS_MODE, 3), (Fld.TLN_STATUS_STATE, 2), (⟨Reg.TLN_LAUNCH_T_LO 15, 0, 32⟩, 1006)] with tln := { rel.tln with reel := 7 * 2 ^ 32 } }
    : State), 15, .bar0, 1, wf_of _ (by decide +kernel), (by decide +kernel), (by decide +kernel), (by decide +kernel),
    (by decide +kernel)⟩

theorem wit_LaunchSlots_2 :
    ∃ (s : State) (k : Fin 16), s.Wf ∧ s.bit (Fld.TLN_LAUNCH_CFG_ARM k) = true ∧ s.reelRuns = true ∧ s.ethOn = true ∧
      s.inTick (s.rd64 (Reg.TLN_LAUNCH_T_LO k)) = true ∧ k.val ∉ s.tln.deferred ∧ k.val ∉ s.tln.tooLate ∧
      (sget (fun _ => 0) s.tln.portFree (s.fld (Fld.TLN_LAUNCH_CFG_PORT k)) + 96 ≤ s.rd64 (Reg.TLN_LAUNCH_T_LO k) * 25) ∧
      (∀ j : Fin 16, j.val < k.val → s.bit (Fld.TLN_LAUNCH_CFG_ARM j) = false) ∧
      (sget (fun _ => 0) s.wrOne (Reg.TLN_LAUNCH_CFG k) = 0) :=
  ⟨({ st [(Fld.GLB_MODE_STATUS_MODE, 3), (Fld.TLN_STATUS_STATE, 2), (⟨Reg.TLN_LAUNCH_T_LO 15, 0, 32⟩, 1007), (Fld.TLN_LAUNCH_CFG_ARM 15, 1), (Fld.TLN_LAUNCH_CFG_LEN 15, 4)] with tln := { rel.tln with reel := 1006 * 2 ^ 32 } }
    : State), 15, wf_of _ (by decide +kernel), (by decide +kernel), (by decide +kernel), (by decide +kernel), (by decide +kernel),
    (by decide +kernel), (by decide +kernel), (by decide +kernel), (by decide +kernel), (by decide +kernel)⟩

theorem wit_LaunchSlots_3 :
    ∃ (s : State) (k : Fin 16), s.Wf ∧ s.bit (Fld.TLN_LAUNCH_CFG_ARM k) = true ∧ s.reelRuns = true ∧ k.val ∉ s.tln.deferred ∧
      k.val ∉ s.tln.tooLate ∧ s.rd64 (Reg.TLN_LAUNCH_T_LO k) * 2 ^ 32 < s.tln.reel ∧
      (sget (fun _ => 0) s.wrOne (Reg.TLN_LAUNCH_CFG k) = 0) :=
  ⟨({ st [(Fld.GLB_MODE_STATUS_MODE, 3), (Fld.TLN_STATUS_STATE, 2), (⟨Reg.TLN_LAUNCH_T_LO 15, 0, 32⟩, 1007), (Fld.TLN_LAUNCH_CFG_ARM 15, 1)] with tln := { rel.tln with reel := 1008 * 2 ^ 32 } }
    : State), 15, wf_of _ (by decide +kernel), (by decide +kernel), (by decide +kernel), (by decide +kernel), (by decide +kernel),
    (by decide +kernel), (by decide +kernel)⟩

theorem wit_WordsIssue_0 :
    ∃ (s : State) (n : Fin 64), s.Wf ∧ s.mayIssue n = true ∧ decodeMicro (s.storeWord n (s.fetchAddr n)) = some ⟨0, 0, .nop⟩ :=
  ⟨(wordAt 3 5 ⟨0, 0, .nop⟩ (rel)), 3, wf_of _ (by decide +kernel), (by decide +kernel), (by decide +kernel)⟩

theorem wit_WordsIssue_1 :
    ∃ (s : State) (n : Fin 64), s.Wf ∧ s.mayIssue n = true ∧ decodeMicro (s.storeWord n (s.fetchAddr n)) = some ⟨0, 1, .nop⟩ :=
  ⟨(committed 3 (wordAt 3 5 ⟨0, 1, .nop⟩ (st [(⟨Reg.SPN_G 3 2, 0, 32⟩, 0xFFFFFFF0), (⟨Reg.SPN_G 3 4, 0, 32⟩, 0x20),
    (⟨Reg.SPN_G 3 3, 0, 32⟩, 7)]))), 3, wf_of _ (by decide +kernel), (by decide +kernel), (by decide +kernel)⟩

theorem wit_WordsIssue_2 :
    ∃ (s : State) (n : Fin 64) (d : BitVec 5) (a : BitVec 5) (b : BitVec 5) (fn : BitVec 4) (immEn : BitVec 1) (imm : Word)
      (cc : BitVec 4), s.Wf ∧ s.mayIssue n = true ∧
      decodeMicro (s.storeWord n (s.fetchAddr n)) = some ⟨cc, 0, .alu d a b fn immEn imm⟩ ∧ s.condition n cc = false :=
  ⟨(wordAt 3 5 ⟨1, 0, .alu 1 2 3 0 0 9⟩ (st [(⟨Reg.SPN_G 3 2, 0, 32⟩, 0xFFFFFFF0), (⟨Reg.SPN_G 3 4, 0, 32⟩, 0x20),
    (⟨Reg.SPN_G 3 3, 0, 32⟩, 7)])), 3, 1, 2, 3, default, default, 9, 1, wf_of _ (by decide +kernel), (by decide +kernel),
    (by decide +kernel), (by decide +kernel)⟩

theorem wit_ComputeWords_0 :
    ∃ (s : State) (n : Fin 64) (k : BitVec 3) (src : BitVec 1) (a : BitVec 5) (count : BitVec 16), s.Wf ∧
      s.executes n (.ldlc k src a count) = true :=
  ⟨(wordAt 3 5 ⟨0, 0, .ldlc 7 1 2 0x1234⟩ (st [(⟨Reg.SPN_G 3 2, 0, 32⟩, 0xFFFFFFF0), (⟨Reg.SPN_G 3 4, 0, 32⟩, 0x20),
    (⟨Reg.SPN_G 3 3, 0, 32⟩, 7)])), 3, 7, 1, 2, 0x1234, wf_of _ (by decide +kernel), (by decide +kernel)⟩

theorem wit_ComputeWords_1 :
    ∃ (s : State) (n : Fin 64) (d : BitVec 5) (ch : BitVec 8), s.Wf ∧ s.executes n (.rddec d ch) = true :=
  ⟨(wordAt 3 5 ⟨0, 0, .rddec 1 255⟩ (st [(⟨Reg.SPN_G 3 2, 0, 32⟩, 0xFFFFFFF0), (⟨Reg.SPN_G 3 4, 0, 32⟩, 0x20),
    (⟨Reg.SPN_G 3 3, 0, 32⟩, 7)])), 3, 1, 255, wf_of _ (by decide +kernel), (by decide +kernel)⟩

theorem wit_ComputeWords_2 :
    ∃ (s : State) (n : Fin 64) (d : BitVec 5), s.Wf ∧ s.executes n (.rdsin d) = true :=
  ⟨(wordAt 3 5 ⟨0, 0, .rdsin 5⟩ (st [(⟨Reg.SPN_SIN 3, 0, 16⟩, 0x8001)])), 3, 5, wf_of _ (by decide +kernel), (by decide +kernel)⟩

theorem wit_ComputeWords_3 :
    ∃ (s : State) (n : Fin 64) (kind : BitVec 2) (ch : BitVec 8) (setf : BitVec 1) (setp : BitVec 1) (addp : BitVec 1)
      (src : BitVec 1) (a : BitVec 5) (b : BitVec 5) (ftw : BitVec 48) (ph : BitVec 16), s.Wf ∧
      (s.shadow n (kind.toNat * 256 + ch.toNat)).ph < 65536 ∧ s.executes n (.ncop kind ch setf setp addp src a b ftw ph) = true :=
  ⟨(wordAt 3 5 ⟨0, 0, .ncop 1 37 1 1 1 0 0 0 0x123456789ABC 0x9000⟩ (st [(⟨Reg.SPN_G 3 2, 0, 32⟩, 0xFFFFFFF0),
    (⟨Reg.SPN_G 3 4, 0, 32⟩, 0x20), (⟨Reg.SPN_G 3 3, 0, 32⟩, 7)])), 3, 1, 37, 1, 1, 1, default, default, default, 0x123456789ABC,
    0x9000, wf_of _ (by decide +kernel), (by decide +kernel), (by decide +kernel)⟩

theorem wit_ComputeWords_4 :
    ∃ (s : State) (n : Fin 64) (mode : BitVec 2) (a : BitVec 5) (imm : BitVec 64), s.Wf ∧ s.executes n (.settb mode a imm) = true :=
  ⟨(wordAt 3 5 ⟨0, 0, .settb 1 0 0xFFFFFFFFFFFFFFFF⟩ (st [(⟨Reg.SPN_TB_LO 3, 0, 32⟩, 5)])), 3, 1, default, 0xFFFFFFFFFFFFFFFF, wf_of _
    (by decide +kernel), (by decide +kernel)⟩

theorem wit_FlowWords_0 :
    ∃ (s : State) (n : Fin 64) (tgt : BitVec 13), s.Wf ∧ s.executes n (.jmp tgt) = true :=
  ⟨(wordAt 3 5 ⟨0, 0, .jmp 0x1FFF⟩ (rel)), 3, 0x1FFF, wf_of _ (by decide +kernel), (by decide +kernel)⟩

theorem wit_FlowWords_1 :
    ∃ (s : State) (n : Fin 64) (sin : BitVec 4) (pol : BitVec 1) (tgt : BitVec 13), s.Wf ∧ s.executes n (.brs sin pol tgt) = true :=
  ⟨(wordAt 3 5 ⟨0, 0, .brs 15 1 9⟩ (st [(⟨Reg.SPN_SIN 3, 0, 16⟩, 0x8000)])), 3, 15, 1, 9, wf_of _ (by decide +kernel),
    (by decide +kernel)⟩

theorem wit_FlowWords_2 :
    ∃ (s : State) (n : Fin 64) (k : BitVec 3) (tgt : BitVec 13), s.Wf ∧ s.executes n (.loop k tgt) = true :=
  ⟨(wordAt 3 5 ⟨0, 0, .loop 2 9⟩ (st [(⟨Reg.SPN_LC 3 2, 0, 32⟩, 1)])), 3, 2, 9, wf_of _ (by decide +kernel), (by decide +kernel)⟩

theorem wit_FlowWords_3 :
    ∃ (s : State) (n : Fin 64) (src : BitVec 1) (a : BitVec 5) (ticks : BitVec 24), s.Wf ∧ s.executes n (.waitt src a ticks) = true ∧
      ((if src = 0 then ticks.toNat else (s.g n a.toNat).toNat % 2 ^ 24) ≤ 1) :=
  ⟨(wordAt 3 5 ⟨0, 0, .waitt 0 0 1⟩ (rel)), 3, default, default, 1, wf_of _ (by decide +kernel), (by decide +kernel),
    (by decide +kernel)⟩

theorem wit_FlowWords_4 :
    ∃ (s : State) (n : Fin 64) (src : BitVec 1) (a : BitVec 5) (ticks : BitVec 24), s.Wf ∧ s.executes n (.waitt src a ticks) = true ∧
      (2 ≤ (if src = 0 then ticks.toNat else (s.g n a.toNat).toNat % 2 ^ 24)) :=
  ⟨(wordAt 3 5 ⟨0, 0, .waitt 1 2 1⟩ (st [(⟨Reg.SPN_G 3 2, 0, 32⟩, 0xFFFFFFF0), (⟨Reg.SPN_G 3 4, 0, 32⟩, 0x20),
    (⟨Reg.SPN_G 3 3, 0, 32⟩, 7)])), 3, 1, 2, 1, wf_of _ (by decide +kernel), (by decide +kernel), (by decide +kernel)⟩

theorem wit_FlowWords_5 :
    ∃ (s : State) (n : Fin 64) (next : Nat), s.Wf ∧ (s.spindle n).wait = some (.ticks next) ∧ next ≤ s.tick :=
  ⟨(rel.setSpindle 3 { wait := some (.ticks 0) }), 3, 0, wf_of _ (by decide +kernel), (by decide +kernel), (by decide +kernel)⟩

theorem wit_FlowWords_6 :
    ∃ (s : State) (n : Fin 64) (mode : BitVec 2) (a : BitVec 5) (T : BitVec 64) (x : Nat), s.Wf ∧
      s.executes n (.waitr mode a T) = true ∧
      (x = (if mode.toNat = 0 then T.toNat else if mode.toNat = 1 then s.gPair n a.toNat else if mode.toNat = 2 then
      (s.tb n + T.toNat) % 2 ^ 64 else (s.ca n + T.toNat) % 2 ^ 64)) :=
  ⟨(wordAt 3 5 ⟨0, 0, .waitr 3 0 7⟩ (st [(⟨Reg.SPN_CA_LO 3, 0, 32⟩, 90)])), 3, 3, default, 7, 97, wf_of _ (by decide +kernel),
    (by decide +kernel), (by decide +kernel)⟩

theorem wit_FlowWords_7 :
    ∃ (s : State) (n : Fin 64) (x : Nat), s.Wf ∧ (s.spindle n).wait = some (.reel x) ∧ x * 2 ^ 32 < s.reelAfter :=
  ⟨(({ rel with tln := { rel.tln with reel := 2 ^ 40 } } : State).setSpindle 3 { wait := some (.reel 255) }), 3, 255, wf_of _
    (by decide +kernel), (by decide +kernel), (by decide +kernel)⟩

theorem wit_FlowWords_8 :
    ∃ (s : State) (n : Fin 64) (mask : BitVec 16) (sel : BitVec 4) (clr : BitVec 1) (tgtSel : BitVec 13) (tgtTo : BitVec 13)
      (timeout : BitVec 24), s.Wf ∧ s.executes n (.wts mask sel clr tgtSel tgtTo timeout) = true :=
  ⟨(committed 3 (wordAt 3 5 ⟨0, 0, .wts 0x8001 0 1 7 8 1000⟩ (rel))), 3, 0x8001, default, 1, 7, 8, 1000, wf_of _ (by decide +kernel),
    (by decide +kernel)⟩

theorem wit_FlowWords_9 :
    ∃ (s : State) (n : Fin 64) (w : Nat) (mask : Nat) (sel : Nat) (tgtSel : Nat) (tgtTo : Nat) (timeout : Nat) (clr : Bool), s.Wf ∧
      (s.spindle n).wait = some (.strand w mask sel clr tgtSel tgtTo timeout) ∧ s.found n mask ≠ [] :=
  ⟨({ (st [(⟨Reg.SPN_SIN 3, 0, 16⟩, 0x8003)]).setSpindle 3 { wait := some (.strand 0 0x8001 0 true 7 8 1000) } with tick := 1 } :
    State), 3, 0, 0x8001, 0, 7, 8, 1000, true, wf_of _ (by decide +kernel), (by decide +kernel), (by decide +kernel)⟩

theorem wit_FlowWords_10 :
    ∃ (s : State) (n : Fin 64) (w : Nat) (mask : Nat) (sel : Nat) (tgtSel : Nat) (tgtTo : Nat) (timeout : Nat) (clr : Bool), s.Wf ∧
      (s.spindle n).wait = some (.strand w mask sel clr tgtSel tgtTo timeout) ∧ timeout ≠ 0 ∧ s.tick + 1 = w + timeout ∧
      s.found n mask = [] :=
  ⟨(({ rel with tick := 10 } : State).setSpindle 3 { wait := some (.strand 1 0x8001 0 true 7 8 10) }), 3, 1, 0x8001, 0, 7, 8, 10,
    true, wf_of _ (by decide +kernel), (by decide +kernel), (by decide +kernel), (by decide +kernel), (by decide +kernel)⟩

theorem wit_OutputWords_0 :
    ∃ (s : State) (n : Fin 64) (kind : BitVec 2) (ch : BitVec 8) (seg : BitVec 16) (amp : BitVec 16) (ampsrc : BitVec 1)
      (a : BitVec 5) (auto : BitVec 1) (dly : BitVec 6), s.Wf ∧ s.executes n (.pls kind ch seg amp ampsrc a auto dly) = true :=
  ⟨(committed 3 (wordAt 3 5 ⟨0, 0, .pls 2 127 0x12 0x4000 1 2 0 17⟩ (st [(⟨Reg.SPN_G 3 2, 0, 32⟩, 0xFFFFFFF0),
    (⟨Reg.SPN_G 3 4, 0, 32⟩, 0x20), (⟨Reg.SPN_G 3 3, 0, 32⟩, 7)]))), 3, 2, 127, 0x12, 0x4000, 1, 2, 0, 17, wf_of _
    (by decide +kernel), (by decide +kernel)⟩

theorem wit_OutputWords_1 :
    ∃ (s : State) (n : Fin 64) (kind : BitVec 2) (ch : BitVec 8) (seg : BitVec 16) (amp : BitVec 16) (ampsrc : BitVec 1)
      (a : BitVec 5) (auto : BitVec 1) (dly : BitVec 6) (t0 : Nat) (p : Nat), s.Wf ∧
      s.executes n (.pls kind ch seg amp ampsrc a auto dly) = true ∧ t0 = 256 * kind.toNat + ch.toNat ∧ t0 < 512 ∧
      (s.shadow n t0).changed = true ∧ (s.tgt t0).start = none ∧ s.tgtPort t0 = some p ∧ s.inBand p (s.shadow n t0).ftw = true :=
  ⟨((committed 3 (wordAt 3 5 ⟨0, 0, .pls 0 37 0x12 0x4000 0 0 0 0⟩ (st [(⟨Reg.GLB_DRV_MAP 37, 31, 1⟩, 1),
    (⟨Reg.GLB_DRV_MAP 37, 0, 5⟩, 4), (Fld.SYN_PORT_BAND_HI_MHZ 4, 14000)]))).setShadow 3 37 ⟨0x28FBE76C8B44, 0x4000, true⟩), 3, 0, 37,
    0x12, 0x4000, default, default, default, default, 37, 4, wf_of _ (by decide +kernel), (by decide +kernel), (by decide +kernel),
    (by decide +kernel), (by decide +kernel), (by decide +kernel), (by decide +kernel), (by decide +kernel)⟩

theorem wit_OutputWords_2 :
    ∃ (s : State) (n : Fin 64) (kind : BitVec 2) (ch : BitVec 8) (seg : BitVec 16) (amp : BitVec 16) (ampsrc : BitVec 1)
      (a : BitVec 5) (auto : BitVec 1) (dly : BitVec 6) (t0 : Nat) (p : Nat), s.Wf ∧
      s.executes n (.pls kind ch seg amp ampsrc a auto dly) = true ∧ t0 = 256 * kind.toNat + ch.toNat ∧ t0 < 512 ∧
      (s.shadow n t0).changed = true ∧ (s.tgt t0).start = none ∧ s.tgtPort t0 = some p ∧ s.inBand p (s.shadow n t0).ftw = false :=
  ⟨((committed 3 (wordAt 3 5 ⟨0, 0, .pls 0 37 0x12 0x4000 0 0 0 0⟩ (st [(⟨Reg.GLB_DRV_MAP 37, 31, 1⟩, 1),
    (⟨Reg.GLB_DRV_MAP 37, 0, 5⟩, 4), (Fld.SYN_PORT_BAND_HI_MHZ 4, 5122)]))).setShadow 3 37 ⟨0x28FBE76C8B44, 0x4000, true⟩), 3, 0, 37,
    0x12, 0x4000, default, default, default, default, 37, 4, wf_of _ (by decide +kernel), (by decide +kernel), (by decide +kernel),
    (by decide +kernel), (by decide +kernel), (by decide +kernel), (by decide +kernel), (by decide +kernel)⟩

theorem wit_OutputWords_3 :
    ∃ (s : State) (n : Fin 64) (kind : BitVec 2) (ch : BitVec 8) (seg : BitVec 16) (amp : BitVec 16) (ampsrc : BitVec 1)
      (a : BitVec 5) (auto : BitVec 1) (dly : BitVec 6) (t0 : Nat), s.Wf ∧
      s.executes n (.pls kind ch seg amp ampsrc a auto dly) = true ∧ t0 = 256 * kind.toNat + ch.toNat ∧ t0 < 512 ∧
      (s.tgt t0).chain ≠ none ∧ (s.tgt t0).start = none ∧ (s.shadow n t0).changed = false ∧ (s.tgt t0).jump ≠ none :=
  ⟨((committed 3 (wordAt 3 5 ⟨0, 0, .pls 1 255 0x12 0x4000 0 0 0 0⟩)).setTgt 511
    { chain := some ⟨0, 1, 0, 0, false, {}, 0⟩, jump := some ⟨0, false⟩ }), 3, 1, 255, 0x12, 0x4000, default, default, default,
    default, 511, wf_of _ (by decide +kernel), (by decide +kernel), (by decide +kernel), (by decide +kernel), (by decide +kernel),
    (by decide +kernel), (by decide +kernel), (by decide +kernel)⟩

theorem wit_OutputWords_4 :
    ∃ (s : State) (n : Fin 64) (kind : BitVec 2) (ch : BitVec 8) (seg : BitVec 16), s.Wf ∧ s.executes n (.jreq kind ch seg) = true :=
  ⟨(committed 3 (wordAt 3 5 ⟨0, 0, .jreq 1 7 9⟩ (rel))), 3, 1, 7, 9, wf_of _ (by decide +kernel), (by decide +kernel)⟩

theorem wit_OutputWords_5 :
    ∃ (s : State) (n : Fin 64) (port : BitVec 6) (src : BitVec 1) (a : BitVec 5) (code : BitVec 20), s.Wf ∧
      s.executes n (.bias port src a code) = true ∧ (s.mon (portMon (192 + port.toNat))).pend = none ∧
      (s.mon (portMon (192 + port.toNat))).blank = none :=
  ⟨(committed 3 (wordAt 3 5 ⟨0, 0, .bias 63 1 2 0x1999A⟩ (st [(⟨Reg.SPN_G 3 2, 0, 32⟩, 0xFFFFFFF0), (⟨Reg.SPN_G 3 4, 0, 32⟩, 0x20),
    (⟨Reg.SPN_G 3 3, 0, 32⟩, 7)]))), 3, 63, 1, 2, 0x1999A, wf_of _ (by decide +kernel), (by decide +kernel), (by decide +kernel),
    (by decide +kernel)⟩

theorem wit_OutputWords_6 :
    ∃ (s : State) (n : Fin 64) (port : BitVec 6) (src : BitVec 1) (a : BitVec 5) (code : BitVec 20), s.Wf ∧
      s.executes n (.bias port src a code) = true ∧ s.monOn (portMon (192 + port.toNat)) = true ∧
      ((s.mon (portMon (192 + port.toNat))).pend ≠ none ∨ ((s.mon (portMon (192 + port.toNat))).blank.any fun b =>
      decide (s.tick < b.stop + 500)) = true) :=
  ⟨(st [(Fld.SUP_MON_CFG_EN 239, 1)] ((committed 3 (wordAt 3 5 ⟨0, 0, .bias 63 1 2 0x1999A⟩ (st [(⟨Reg.SPN_G 3 2, 0, 32⟩, 0xFFFFFFF0),
    (⟨Reg.SPN_G 3 4, 0, 32⟩, 0x20), (⟨Reg.SPN_G 3 3, 0, 32⟩, 7)]))))).setMon 239 { blank := some ⟨0, 100⟩ }, 3, 63, 1, 2, 0x1999A,
    wf_of _ (by decide +kernel), (by decide +kernel), (by decide +kernel), (by decide +kernel)⟩

theorem wit_OutputWords_7 :
    ∃ (s : State) (n : Fin 64) (o : BitVec 4) (act : BitVec 2) (auto : BitVec 1) (dly : BitVec 6) (width : BitVec 16), s.Wf ∧
      s.executes n (.mrk o act auto dly width) = true :=
  ⟨(committed 3 (wordAt 3 5 ⟨0, 0, .mrk 15 0 0 33 0⟩ (st [(Fld.SYN_MRK_CFG_VALID 15, 1), (Fld.SYN_MRK_CFG_SPINDLE 15, 3)]))), 3, 15,
    default, default, 33, default, wf_of _ (by decide +kernel), (by decide +kernel)⟩

theorem wit_OutputWords_8 :
    ∃ (s : State) (n : Fin 64) (o : BitVec 5) (act : BitVec 2) (width : BitVec 16), s.Wf ∧ s.executes n (.trgo o act width) = true :=
  ⟨(committed 3 (wordAt 3 5 ⟨0, 0, .trgo 31 1 5⟩ (st [(Fld.SYN_TRG_CFG_SRC 31, 1), (Fld.SYN_TRG_CFG_SPINDLE 31, 3)]))), 3, 31, 1, 5,
    wf_of _ (by decide +kernel), (by decide +kernel)⟩

theorem wit_OutputWords_9 :
    ∃ (s : State) (n : Fin 64) (o : Fin 48) (f : Nat), s.Wf ∧ (s.outPin o).fall = some f ∧ f / 64 ≤ s.tick :=
  ⟨((st [(Fld.SYN_MRK_LEVEL_LEVEL, 0xFFFF)]).setOut 15 { fall := some 63 }), 3, 15, 63, wf_of _ (by decide +kernel),
    (by decide +kernel), (by decide +kernel)⟩

theorem wit_SignalWords_0 :
    ∃ (s : State) (n : Fin 64) (ch : BitVec 8) (kset : BitVec 1) (es : BitVec 1) (len : BitVec 12), s.Wf ∧
      s.executes n (.rwin ch kset es len) = true :=
  ⟨(committed 3 (wordAt 3 5 ⟨0, 0, .rwin 255 1 1 2048⟩ (rel))), 3, 255, 1, 1, 2048, wf_of _ (by decide +kernel), (by decide +kernel)⟩

theorem wit_SignalWords_1 :
    ∃ (s : State) (n : Fin 64) (out : BitVec 3), s.Wf ∧ s.executes n (.stro out) = true :=
  ⟨(committed 3 (wordAt 3 5 ⟨0, 0, .stro 7⟩ (st [(Fld.FAB_EV_CFG_PROD 1023, 0x501F), (⟨Reg.FAB_EV_EN 31, 31, 1⟩, 1),
    (Fld.FAB_EV_CFG_PROD 5, 0x501F)]))), 3, 7, wf_of _ (by decide +kernel), (by decide +kernel)⟩

theorem wit_SignalWords_2 :
    ∃ (s : State) (n : Fin 64) (a : BitVec 5) (m : BitVec 4), s.Wf ∧ s.executes n (.stg a m) = true :=
  ⟨(committed 3 (wordAt 3 5 ⟨0, 0, .stg 2 15⟩ (st [(⟨Reg.SPN_G 3 2, 0, 32⟩, 0xFFFFFFF0), (⟨Reg.SPN_G 3 4, 0, 32⟩, 0x20),
    (⟨Reg.SPN_G 3 3, 0, 32⟩, 7)]))), 3, 2, 15, wf_of _ (by decide +kernel), (by decide +kernel)⟩

theorem wit_SignalWords_3 :
    ∃ (s : State) (n : Fin 64) (code : Byte), s.Wf ∧ s.executes n (.irq code) = true :=
  ⟨(committed 3 (wordAt 3 5 ⟨0, 0, .irq 0xA5⟩ (rel))), 3, 0xA5, wf_of _ (by decide +kernel), (by decide +kernel)⟩

theorem wit_SignalWords_4 :
    ∃ (s : State) (n : Fin 64) (mask : BitVec 16), s.Wf ∧ s.executes n (.clrs mask) = true :=
  ⟨(committed 3 (wordAt 3 5 ⟨0, 0, .clrs 0x8001⟩ (st [(⟨Reg.SPN_SIN 3, 0, 16⟩, 0x8003)]))), 3, 0x8001, wf_of _ (by decide +kernel),
    (by decide +kernel)⟩

theorem wit_StructureWords_0 :
    ∃ (s : State) (n : Fin 64), s.Wf ∧ s.executes n (.commit) = true ∧ (s.spindle n).gap = none :=
  ⟨(wordAt 3 5 ⟨0, 0, .commit⟩ (st [(Fld.SPN_STATUS_IN_HANDLER 3, 1), (Fld.SPN_STATUS_HANDLER_VEC 3, 7),
    (Fld.SPN_PEND_PEND 3, 0x81)])), 3, wf_of _ (by decide +kernel), (by decide +kernel), (by decide +kernel)⟩

theorem wit_StructureWords_1 :
    ∃ (s : State) (n : Fin 64) (nxt : BitVec 2) (tgt : BitVec 13), s.Wf ∧ s.executes n (.endw nxt tgt) = true ∧ (nxt = 0 ∨ nxt = 1) ∧
      s.bit (Fld.SPN_STATUS_HELD n) = false ∧ (s.spindle n).stopHeld = false ∧ s.noRoutine n = false :=
  ⟨(committed 3 (wordAt 3 5 ⟨0, 0, .endw 1 0x100⟩ (rel))), 3, 1, 0x100, wf_of _ (by decide +kernel), (by decide +kernel),
    (by decide +kernel), (by decide +kernel), (by decide +kernel), (by decide +kernel)⟩

theorem wit_StructureWords_2 :
    ∃ (s : State) (n : Fin 64) (nxt : BitVec 2) (tgt : BitVec 13), s.Wf ∧ s.executes n (.endw nxt tgt) = true ∧ nxt = 2 ∧
      s.bit (Fld.SPN_STATUS_HELD n) = false ∧ (s.spindle n).stopHeld = false ∧ s.noRoutine n = false :=
  ⟨(committed 3 (wordAt 3 5 ⟨0, 0, .endw 2 0⟩ (rel))), 3, 2, default, wf_of _ (by decide +kernel), (by decide +kernel),
    (by decide +kernel), (by decide +kernel), (by decide +kernel), (by decide +kernel)⟩

theorem wit_StructureWords_3 :
    ∃ (s : State) (n : Fin 64) (nxt : BitVec 2) (tgt : BitVec 13) (v : Fin 8), s.Wf ∧ s.executes n (.endw nxt tgt) = true ∧
      (nxt = 3 ∨ s.bit (Fld.SPN_STATUS_HELD n) = true) ∧ s.topVector n s.tick = some v.val ∧ (s.spindle n).stopHeld = false ∧
      s.noRoutine n = false :=
  ⟨(committed 3 (wordAt 3 5 ⟨0, 0, .endw 1 0x100⟩ (st [(Fld.SPN_STATUS_HELD 3, 1), (Fld.SPN_PEND_PEND 3, 0x80),
    (Fld.SPN_VEC_ENTRY 3 7, 0x77)]))), 3, 1, 0x100, 7, wf_of _ (by decide +kernel), (by decide +kernel), (by decide +kernel),
    (by decide +kernel), (by decide +kernel), (by decide +kernel)⟩

theorem wit_StructureWords_4 :
    ∃ (s : State) (n : Fin 64) (nxt : BitVec 2) (tgt : BitVec 13), s.Wf ∧ s.executes n (.endw nxt tgt) = true ∧ nxt = 3 ∧
      s.topVector n s.tick = none ∧ (s.spindle n).hasResume = true ∧ s.bit (Fld.SPN_RESUME_HALT n) = false ∧
      (s.spindle n).stopHeld = false ∧ s.noRoutine n = false :=
  ⟨(setResume 3 0x99 false (committed 3 (wordAt 3 5 ⟨0, 0, .endw 3 0⟩ (rel)))), 3, 3, default, wf_of _ (by decide +kernel),
    (by decide +kernel), (by decide +kernel), (by decide +kernel), (by decide +kernel), (by decide +kernel), (by decide +kernel),
    (by decide +kernel)⟩

theorem wit_StructureWords_5 :
    ∃ (s : State) (n : Fin 64) (nxt : BitVec 2) (tgt : BitVec 13), s.Wf ∧ s.executes n (.endw nxt tgt) = true ∧ nxt = 3 ∧
      s.topVector n s.tick = none ∧ (s.spindle n).hasResume = false ∧ (s.spindle n).stopHeld = false ∧ s.noRoutine n = false :=
  ⟨(committed 3 (wordAt 3 5 ⟨0, 0, .endw 3 0⟩ (rel))), 3, 3, default, wf_of _ (by decide +kernel), (by decide +kernel),
    (by decide +kernel), (by decide +kernel), (by decide +kernel), (by decide +kernel), (by decide +kernel)⟩

theorem wit_StructureWords_6 :
    ∃ (s : State) (n : Fin 64) (nxt : BitVec 2) (tgt : BitVec 13), s.Wf ∧ s.executes n (.endw nxt tgt) = true ∧
      (s.spindle n).stopHeld = true :=
  ⟨((committed 3 (wordAt 3 5 ⟨0, 0, .endw 1 0⟩ (rel))).setSpindle 3
    { ((committed 3 (wordAt 3 5 ⟨0, 0, .endw 1 0⟩ (rel)))).spindle 3 with stopHeld := true }), 3, 1, default, wf_of _
    (by decide +kernel), (by decide +kernel), (by decide +kernel)⟩

theorem wit_StructureWords_7 :
    ∃ (s : State) (n : Fin 64), s.Wf ∧ s.mayIssue n = true ∧ decodeMicro (s.storeWord n (s.fetchAddr n)) = none :=
  ⟨((wordAt 3 8191 ⟨0, 0, .nop⟩).putSram 0x7FFF0 1), 3, wf_of _ (by decide +kernel), (by decide +kernel), (by decide +kernel)⟩

theorem wit_StructureWords_8 :
    ∃ (s : State) (n : Fin 64) (m : MicroWord), s.Wf ∧ s.mayIssue n = true ∧ decodeMicro (s.storeWord n (s.fetchAddr n)) = some m ∧
      m.op.needsCommit = true ∧ s.condition n m.cc = true ∧ s.committed n = false :=
  ⟨(wordAt 3 8191 ⟨0, 0, .wts 1 0 1 0 0 0⟩), 3, ⟨0, 0, .wts 1 0 1 0 0 0⟩, wf_of _ (by decide +kernel), (by decide +kernel),
    (by decide +kernel), (by decide +kernel), (by decide +kernel), (by decide +kernel)⟩

theorem wit_StructureWords_9 :
    ∃ (s : State) (n : Fin 64), s.Wf ∧ s.spindlesRun = true ∧ (s.spindle n).active = true ∧ s.committed n = true ∧
      (s.spindle n).commitTick + 4096 ≤ s.tick :=
  ⟨({ (committed 3 (wordAt 3 5 ⟨0, 0, .nop⟩ (rel))) with tick := 4096 } : State), 3, wf_of _ (by decide +kernel), (by decide +kernel),
    (by decide +kernel), (by decide +kernel), (by decide +kernel)⟩

theorem wit_VectorsAndFaults_0 :
    ∃ (s : State) (n : Fin 64) (v : Fin 8), s.Wf ∧ s.spindlesRun = true ∧ s.pends n v = true ∧
      (sget (fun _ => 0) (s.spindle n).pendAt v < s.tick) ∧ s.bit (Fld.SPN_CTL_EN n) = true ∧ s.noRoutine n = false ∧
      s.fld (Fld.SPN_STATUS_STATE n) < 3 ∧ (s.spindle n).gap = none ∧ (s.spindle n).active = false :=
  ⟨(setPending 3 7 { (st [(Fld.GLB_MODE_STATUS_MODE, 5), (Fld.SPN_CTL_EN 3, 1)]) with tick := 0 } |> fun s =>
    { s with tick := 1 }), 3, 7, wf_of _ (by decide +kernel), (by decide +kernel), (by decide +kernel), (by decide +kernel),
    (by decide +kernel), (by decide +kernel), (by decide +kernel), (by decide +kernel), (by decide +kernel)⟩

theorem wit_VectorsAndFaults_1 :
    ∃ (s : State) (n : Fin 64) (v : Fin 8), s.Wf ∧ s.spindlesRun = true ∧ s.pends n v = true ∧
      (sget (fun _ => 0) (s.spindle n).pendAt v < s.tick) ∧ s.bit (Fld.SPN_CTL_EN n) = true ∧ s.noRoutine n = false ∧
      s.fld (Fld.SPN_STATUS_STATE n) < 3 ∧ (s.spindle n).gap = none ∧ (s.spindle n).active = true ∧ s.committed n = true :=
  ⟨({ setPending 3 0 (committed 3 (wordAt 3 5 ⟨0, 0, .nop⟩ (rel))) with tick := 1 } : State), 3, 0, wf_of _ (by decide +kernel),
    (by decide +kernel), (by decide +kernel), (by decide +kernel), (by decide +kernel), (by decide +kernel), (by decide +kernel),
    (by decide +kernel), (by decide +kernel), (by decide +kernel)⟩

theorem wit_VectorsAndFaults_2 :
    ∃ (s : State) (n : Fin 64) (v : Fin 8), s.Wf ∧ s.spindlesRun = true ∧ s.pends n v = true ∧
      (sget (fun _ => 0) (s.spindle n).pendAt v < s.tick) ∧ s.bit (Fld.SPN_CTL_EN n) = true ∧ s.noRoutine n = false ∧
      s.fld (Fld.SPN_STATUS_STATE n) < 3 ∧ (s.spindle n).gap = none ∧ (s.spindle n).active = true ∧ s.committed n = false ∧
      (s.bit (Fld.SPN_STATUS_IN_HANDLER n) = false ∨ v.val < s.fld (Fld.SPN_STATUS_HANDLER_VEC n)) :=
  ⟨({ setPending 3 0 (st [(Fld.SPN_STATUS_IN_HANDLER 3, 1), (Fld.SPN_STATUS_HANDLER_VEC 3, 1)] (wordAt 3 5 ⟨0, 0, .nop⟩ (rel))) with tick := 1 }
    : State), 3, 0, wf_of _ (by decide +kernel), (by decide +kernel), (by decide +kernel), (by decide +kernel), (by decide +kernel),
    (by decide +kernel), (by decide +kernel), (by decide +kernel), (by decide +kernel), (by decide +kernel), (by decide +kernel)⟩

theorem wit_VectorsAndFaults_3 :
    ∃ (s : State) (n : Fin 64) (path : Path) (v : Word), s.Wf ∧ s.accepts path (Reg.SPN_CMD n) = true ∧ s.spindlesRun = true :=
  ⟨st [(Fld.GLB_MODE_STATUS_MODE, 5), (Fld.SPN_VEC_SRC 3 7, 0x10), (Fld.SPN_VEC_EN 3 7, 1)], 3, .bar0, 0x81, wf_of _
    (by decide +kernel), (by decide +kernel), (by decide +kernel)⟩

theorem wit_VectorsAndFaults_4 :
    ∃ (s : State) (n : Fin 64), s.Wf ∧ s.mayIssue n = true ∧ s.committed n = true ∧ (s.spindle n).active = true ∧
      (s.spindle n).gap = none ∧ (s.spindle n).redo = none :=
  ⟨(committed 3 (wordAt 3 5 ⟨0, 0, .nop⟩ (rel))), 3, wf_of _ (by decide +kernel), (by decide +kernel), (by decide +kernel),
    (by decide +kernel), (by decide +kernel), (by decide +kernel)⟩

theorem wit_VectorsAndFaults_5 :
    ∃ (s : State) (n : Fin 64) (m : MicroWord), s.Wf ∧ s.mayIssue n = true ∧ s.committed n = false ∧ (s.spindle n).gap = none ∧
      (s.spindle n).redo = none ∧ decodeMicro (s.storeWord n (s.fetchAddr n)) = some m ∧ m.ent = 0 :=
  ⟨(wordAt 3 5 ⟨0, 0, .nop⟩ (rel)), 3, ⟨0, 0, .nop⟩, wf_of _ (by decide +kernel), (by decide +kernel), (by decide +kernel),
    (by decide +kernel), (by decide +kernel), (by decide +kernel), (by decide +kernel)⟩

theorem wit_VectorsAndFaults_6 :
    ∃ (s : State) (n : Fin 64), s.Wf ∧ s.mayIssue n = true ∧ (s.spindle n).redo = some (s.fetchAddr n) :=
  ⟨((wordAt 3 5 ⟨0, 0, .nop⟩ (rel)).setSpindle 3 { active := true, npc := 5, redo := some 5 }), 3, wf_of _ (by decide +kernel),
    (by decide +kernel), (by decide +kernel)⟩

theorem wit_VectorsAndFaults_7 :
    ∃ (s : State) (n : Fin 64), s.Wf ∧ s.mayIssue n = true :=
  ⟨(committed 3 (wordAt 3 5 ⟨0, 0, .nop⟩ (rel))), 3, wf_of _ (by decide +kernel), (by decide +kernel)⟩

theorem wit_VectorsAndFaults_8 :
    ∃ (s : State) (n : Fin 64), s.Wf ∧ s.spindlesRun = true ∧ s.bit (Fld.SPN_CTL_EN n) = true ∧ s.newMicrosecond = true ∧
      s.fld (Fld.SPN_STATUS_STATE n) ≠ 4 ∧ (s.spindle n).missed = false ∧ ((s.spindle n).active = false ∨ s.tick ≤ (s.spindle n).due) :=
  ⟨({ st [(Fld.TLN_STATUS_STATE, 2)] (st [(Fld.GLB_MODE_STATUS_MODE, 5), (Fld.SPN_CTL_EN 3, 1)]) with tln := { rel.tln with reel := 1000 * 2 ^ 32, prevReel := 999 * 2 ^ 32 } }
    : State), 3, wf_of _ (by decide +kernel), (by decide +kernel), (by decide +kernel), (by decide +kernel), (by decide +kernel),
    (by decide +kernel), (by decide +kernel)⟩

theorem wit_VectorsAndFaults_9 :
    ∃ (s : State) (n : Fin 64), s.Wf ∧ (s.fld (Fld.SPN_STATUS_STATE n) = 4 ∨ (s.spindle n).missed = true) :=
  ⟨st [(Fld.SPN_STATUS_STATE 3, 4)], 3, wf_of _ (by decide +kernel), (by decide +kernel)⟩

theorem wit_VectorsAndFaults_10 :
    ∃ (s : State) (n : Fin 64) (m : MicroWord), s.Wf ∧ s.spindlesRun = true ∧ (s.spindle n).active = true ∧
      s.fld (Fld.SPN_STATUS_STATE n) ≠ 3 ∧ (s.spindle n).scout.time < s.scoutHorizon ∧ s.micro n (s.spindle n).scout.pc = some m ∧
      m.scoutStops = true :=
  ⟨((wordAt 3 5 ⟨0, 0, .brs 0 0 0⟩ (rel)).setSpindle 3 { active := true, npc := 5, scout := { pc := 5 } }), 3, ⟨0, 0, .brs 0 0 0⟩,
    wf_of _ (by decide +kernel), (by decide +kernel), (by decide +kernel), (by decide +kernel), (by decide +kernel),
    (by decide +kernel), (by decide +kernel)⟩

theorem wit_VectorsAndFaults_11 :
    ∃ (s : State) (n : Fin 64), s.Wf ∧ s.spindlesRun = true ∧ (s.spindle n).active = true ∧ s.fld (Fld.SPN_STATUS_STATE n) ≠ 3 ∧
      s.scoutHorizon ≤ (s.spindle n).scout.time :=
  ⟨((wordAt 3 5 ⟨0, 0, .brs 0 0 0⟩ (rel)).setSpindle 3 { active := true, npc := 5, scout := { pc := 5, time := 4000 * 2 ^ 32 } }), 3,
    wf_of _ (by decide +kernel), (by decide +kernel), (by decide +kernel), (by decide +kernel), (by decide +kernel)⟩

theorem wit_VectorsAndFaults_12 :
    ∃ (s : State) (n : Fin 64) (m : MicroWord) (p : Nat), s.Wf ∧ s.spindlesRun = true ∧ (s.spindle n).active = true ∧
      s.fld (Fld.SPN_STATUS_STATE n) ≠ 3 ∧ (s.spindle n).scout.time < s.scoutHorizon ∧ s.micro n (s.spindle n).scout.pc = some m ∧
      s.wordPort m.op = some p :=
  ⟨((wordAt 3 5 ⟨0, 0, .bias 63 0 0 9⟩ (rel)).setSpindle 3 { active := true, npc := 5, scout := { pc := 5 } }), 3,
    ⟨0, 0, .bias 63 0 0 9⟩, 255, wf_of _ (by decide +kernel), (by decide +kernel), (by decide +kernel), (by decide +kernel),
    (by decide +kernel), (by decide +kernel), (by decide +kernel)⟩

theorem wit_DebugControl_0 :
    ∃ (s : State) (n : Fin 64) (path : Path), s.Wf ∧ s.accepts path (Reg.SPN_DBG n) = true ∧ s.debugControl = true ∧
      s.fld (Fld.SPN_STATUS_STATE n) < 3 ∧ ((s.spindle n).active = false ∨ (s.committed n = false ∧ (s.spindle n).wait = none)) :=
  ⟨(st [(Fld.SEC_STATUS_LEVEL, 2)] (wordAt 3 5 ⟨0, 0, .nop⟩ (rel))), 3, .tap, wf_of _ (by decide +kernel), (by decide +kernel),
    (by decide +kernel), (by decide +kernel), (by decide +kernel)⟩

theorem wit_DebugControl_1 :
    ∃ (s : State) (n : Fin 64) (path : Path), s.Wf ∧ s.accepts path (Reg.SPN_DBG n) = true ∧ s.debugControl = true ∧
      s.fld (Fld.SPN_STATUS_STATE n) < 3 ∧ (s.spindle n).active = true ∧ s.committed n = true :=
  ⟨(st [(Fld.SEC_STATUS_LEVEL, 2)] (committed 3 (wordAt 3 5 ⟨0, 0, .nop⟩ (rel)))), 3, .tap, wf_of _ (by decide +kernel),
    (by decide +kernel), (by decide +kernel), (by decide +kernel), (by decide +kernel), (by decide +kernel)⟩

theorem wit_DebugControl_2 :
    ∃ (s : State) (n : Fin 64) (path : Path), s.Wf ∧ s.accepts path (Reg.SPN_DBG n) = true ∧ s.debugControl = true ∧
      s.fld (Fld.SPN_STATUS_STATE n) = 3 ∧ (s.spindle n).active = true :=
  ⟨(st [(Fld.SEC_STATUS_LEVEL, 2), (Fld.SPN_STATUS_STATE 3, 3)] (wordAt 3 5 ⟨0, 0, .nop⟩ (rel))), 3, .tap, wf_of _
    (by decide +kernel), (by decide +kernel), (by decide +kernel), (by decide +kernel), (by decide +kernel)⟩

theorem wit_DebugControl_3 :
    ∃ (s : State) (n : Fin 64) (path : Path), s.Wf ∧ s.accepts path (Reg.SPN_DBG n) = true ∧ s.debugControl = true ∧
      s.fld (Fld.SPN_STATUS_STATE n) = 3 ∧ (s.spindle n).active = false ∧ (s.spindle n).gap ≠ none :=
  ⟨((st [(Fld.SEC_STATUS_LEVEL, 2), (Fld.SPN_STATUS_STATE 3, 3)]).setSpindle 3 { gap := some none }), 3, .tap, wf_of _
    (by decide +kernel), (by decide +kernel), (by decide +kernel), (by decide +kernel), (by decide +kernel), (by decide +kernel)⟩

theorem wit_DebugControl_4 :
    ∃ (s : State) (n : Fin 64) (path : Path), s.Wf ∧ s.accepts path (Reg.SPN_DBG n) = true ∧ s.debugControl = true ∧
      s.fld (Fld.SPN_STATUS_STATE n) = 3 :=
  ⟨(st [(Fld.SEC_STATUS_LEVEL, 2), (Fld.SPN_STATUS_STATE 3, 3)] (wordAt 3 5 ⟨0, 0, .nop⟩ (rel))), 3, .bar0, wf_of _
    (by decide +kernel), (by decide +kernel), (by decide +kernel), (by decide +kernel)⟩

theorem wit_DebugControl_5 :
    ∃ (s : State) (n : Fin 64) (path : Path), s.Wf ∧ s.accepts path (Reg.SPN_DBG n) = true ∧ s.debugControl = false :=
  ⟨rel, 3, .bar0, wf_of _ (by decide +kernel), (by decide +kernel), (by decide +kernel)⟩

theorem wit_DebugControl_6 :
    ∃ (s : State) (n : Fin 64) (path : Path), s.Wf ∧ s.accepts path (Reg.SPN_DBG n) = true ∧ s.debugControl = false :=
  ⟨rel, 3, .bar0, wf_of _ (by decide +kernel), (by decide +kernel), (by decide +kernel)⟩

theorem wit_DebugControl_7 :
    ∃ (s : State) (n : Fin 64) (path : Path), s.Wf ∧ s.accepts path (Reg.SPN_DBG n) = true ∧ s.debugControl = false :=
  ⟨rel, 3, .bar0, wf_of _ (by decide +kernel), (by decide +kernel), (by decide +kernel)⟩

theorem wit_DeferredEffects_0 :
    ∃ (s : State) (n : Fin 64) (i : Fin 16), s.Wf ∧ s.later = [(s.tick + 1, .sinSet n i)] :=
  ⟨({ st [(⟨Reg.SPN_SIN 3, 15, 1⟩, 1)] with later := [((st [(⟨Reg.SPN_SIN 3, 15, 1⟩, 1)]).tick + 1, .sinSet 3 15)] } : State), 3, 15,
    wf_of _ (by decide +kernel), (by decide +kernel)⟩

theorem wit_DeferredEffects_1 :
    ∃ (s : State) (n : Fin 64) (k : Fin 512) (cut : Bool) (f : Nat) (q : Nat) (o : Nco), s.Wf ∧
      s.later = [(s.tick + 1, .firstSample k cut (some (some o)))] ∧ o.ftw = f ∧ o.poff = q ∧ f < 2 ^ 48 ∧ q < 2 ^ 16 :=
  ⟨({ st [(Fld.SYN_CH_STATUS_CUT 511, 0xFFFF)] with later := [((st [(Fld.SYN_CH_STATUS_CUT 511, 0xFFFF)]).tick + 1, .firstSample 511 true (some (some ⟨9, 8, 7, 6⟩)))] }
    : State), 0, 511, true, 9, 8, ⟨9, 8, 7, 6⟩, wf_of _ (by decide +kernel), (by decide +kernel), (by decide +kernel),
    (by decide +kernel), (by decide +kernel), (by decide +kernel)⟩

theorem wit_DeferredEffects_2 :
    ∃ (s : State) (n : Fin 64) (k : Fin 512) (p : Nat), s.Wf ∧ s.later = [(s.tick + 1, .firstSample k false (some none))] ∧
      s.tgtPort k = some p :=
  ⟨({ st [(⟨Reg.GLB_DRV_MAP 37, 31, 1⟩, 1), (⟨Reg.GLB_DRV_MAP 37, 0, 5⟩, 4)] with later := [((st [(⟨Reg.GLB_DRV_MAP 37, 31, 1⟩, 1), (⟨Reg.GLB_DRV_MAP 37, 0, 5⟩, 4)]).tick + 1, .firstSample 37 false (some none))] }
    : State), 0, 37, 4, wf_of _ (by decide +kernel), (by decide +kernel), (by decide +kernel)⟩

theorem wit_DeferredEffects_3 :
    ∃ (s : State) (n : Fin 64), s.Wf ∧ s.later = [(s.tick + 1, .haltAt n)] ∧ s.fld (Fld.SPN_STATUS_STATE n) < 3 ∧
      (s.spindle n).haltReq = true :=
  ⟨({ rel.setSpindle 3 { haltReq := true } with later := [((rel.setSpindle 3 { haltReq := true }).tick + 1, .haltAt 3)] } : State), 3,
    wf_of _ (by decide +kernel), (by decide +kernel), (by decide +kernel), (by decide +kernel)⟩

theorem wit_DeferredEffects_4 :
    ∃ (s : State) (n : Fin 64) (v : Fin 8), s.Wf ∧ s.later = [(s.tick + 1, .vecPend n v)] ∧ s.pends n v = false ∧
      (sparseWf (fun _ => 0) (s.spindle n).pendAt = true) :=
  ⟨({ rel with later := [((rel).tick + 1, .vecPend 3 7)] } : State), 3, 7, wf_of _ (by decide +kernel), (by decide +kernel),
    (by decide +kernel), (by decide +kernel)⟩

theorem wit_DeferredEffects_5 :
    ∃ (s : State) (n : Fin 64) (v : Fin 8), s.Wf ∧ s.later = [(s.tick + 1, .vecPend n v)] ∧ s.pends n v = true :=
  ⟨({ st [(Fld.SPN_PEND_PEND 3, 0x80)] with later := [((st [(Fld.SPN_PEND_PEND 3, 0x80)]).tick + 1, .vecPend 3 7)] } : State), 3, 7,
    wf_of _ (by decide +kernel), (by decide +kernel), (by decide +kernel)⟩

theorem wit_DeferredEffects_6 :
    ∃ (s : State) (n : Fin 64) (k : Checkpoint), s.Wf ∧ s.later = [(s.tick + 1, .restore n)] ∧ (s.spindle n).chk = some k :=
  ⟨({ (rel.setSpindle 3 { chk := some ⟨[7], [8], true, false, true, 5000, []⟩ }) with later := [(1, .restore 3)] } : State), 3,
    ⟨[7], [8], true, false, true, 5000, []⟩, wf_of _ (by decide +kernel), (by decide +kernel), (by decide +kernel)⟩

theorem wit_DeferredEffects_7 :
    ∃ (s : State) (n : Fin 64) (x : Fin 640) (seg : BitVec 16), s.Wf ∧ s.later = [(s.tick + 1, .jreqVisible x seg.toNat)] ∧
      (s.tgt x).chain ≠ none :=
  ⟨({ rel.setTgt 639 { chain := some ⟨0, 1, 0, 0, false, {}, 0⟩, jump := some ⟨0, false⟩ } with later := [(1, .jreqVisible 639 9)] } :
    State), 0, 639, 9, wf_of _ (by decide +kernel), (by decide +kernel), (by decide +kernel)⟩

theorem wit_DeferredEffects_8 :
    ∃ (s : State) (n : Fin 64) (x : Fin 640) (seg : BitVec 16), s.Wf ∧ s.later = [(s.tick + 1, .jreqVisible x seg.toNat)] ∧
      (s.tgt x).chain = none ∧ (s.tgt x).start = none :=
  ⟨({ rel with later := [(1, .jreqVisible 639 9)] } : State), 0, 639, 9, wf_of _ (by decide +kernel), (by decide +kernel),
    (by decide +kernel), (by decide +kernel)⟩

theorem wit_DeferredEffects_9 :
    ∃ (s : State) (n : Fin 64) (o : Fin 48) (act : Fin 3) (x : Nat) (width : Nat), s.Wf ∧
      s.later = [(s.tick + 1, .edge o x act width)] ∧ s.form = .active :=
  ⟨({ ({ (st [(Fld.GLB_MODE_STATUS_MODE, 5), (Fld.SUP_STATUS_QUALIFIED, 1), (Fld.SUP_STATUS_ILK, 1)]) with sup := { rel.sup with permits := true } } : State) with later := [((({ (st [(Fld.GLB_MODE_STATUS_MODE, 5), (Fld.SUP_STATUS_QUALIFIED, 1), (Fld.SUP_STATUS_ILK, 1)]) with sup := { rel.sup with permits := true } } : State)).tick + 1, .edge 47 64 0 0)] }
    : State), 0, 47, 0, 64, 0, wf_of _ (by decide +kernel), (by decide +kernel), (by decide +kernel)⟩

theorem wit_AluFunctions_0 :
    ∃ (s : State) (n : Fin 64) (d : BitVec 5) (a : BitVec 5) (b : BitVec 5) (fn : BitVec 4) (immEn : BitVec 1) (imm : Word), s.Wf ∧
      s.executes n (.alu d a b fn immEn imm) = true :=
  ⟨(wordAt 3 5 ⟨0, 0, .alu 31 2 4 1 0 9⟩ (st [(⟨Reg.SPN_G 3 2, 0, 32⟩, 0xFFFFFFF0), (⟨Reg.SPN_G 3 4, 0, 32⟩, 0x20),
    (⟨Reg.SPN_G 3 3, 0, 32⟩, 7)])), 3, 31, 2, 4, 1, default, 9, wf_of _ (by decide +kernel), (by decide +kernel)⟩

theorem wit_FetchPoint_0 :
    ∃ (s : State) (p : Fin 48) (x : Nat) (c : Chain), s.Wf ∧ s.portTgts p = [x] ∧ (32 ≤ p.val → s.arrayPort (p - 32) = false) ∧
      (s.tgt x).start = none ∧ (s.tgt x).chain = some c ∧ c.next ≤ s.tick ∧ c.done < (s.segNow x).len ∧ (s.segNow x).roving = false :=
  ⟨({ ((st [(Fld.STM_TGT_TBL_BASE 37, 0x100), (Fld.STM_TGT_CNT_COUNT 37, 5), (Fld.STM_TGT_STATUS_SEG 37, 2)] ((st [(⟨Reg.GLB_DRV_MAP 37, 31, 1⟩, 1), (⟨Reg.GLB_DRV_MAP 37, 0, 5⟩, 4)]).putSramBytes (0x800000 + 0x1000 + 16*2) (leBytes 16 (64 + 2^32*20 + 2^48*0 + 2^64*65535 + 2^80*0 + 2^81*0 + 2^88*0))))).setTgt 37 { chain := some ⟨3, 9, 0x4000, 0, false, {}, 3⟩ } with tick := 9 }
    : State), 4, 37, ⟨3, 9, 0x4000, 0, false, {}, 3⟩, wf_of _ (by decide +kernel), (by decide +kernel), (by decide +kernel),
    (by decide +kernel), (by decide +kernel), (by decide +kernel), (by decide +kernel), (by decide +kernel)⟩

theorem wit_FetchPoint_1 :
    ∃ (s : State) (p : Fin 48) (x : Nat) (q : PulseStart), s.Wf ∧ s.portTgts p = [x] ∧ (32 ≤ p.val → s.arrayPort (p - 32) = false) ∧
      (s.tgt x).start = some q ∧ q.tick ≤ s.tick ∧ q.seg < 65536 ∧ (s.segOf x q.seg).roving = false :=
  ⟨({ ((st [(Fld.STM_TGT_TBL_BASE 37, 0x100), (Fld.STM_TGT_CNT_COUNT 37, 5), (Fld.STM_TGT_STATUS_SEG 37, 2)] ((st [(⟨Reg.GLB_DRV_MAP 37, 31, 1⟩, 1), (⟨Reg.GLB_DRV_MAP 37, 0, 5⟩, 4)]).putSramBytes (0x800000 + 0x1000 + 16*2) (leBytes 16 (64 + 2^32*20 + 2^48*0 + 2^64*65535 + 2^80*0 + 2^81*0 + 2^88*0))))).setTgt 37 { start := some ⟨9, 2, 0x4000, 0, false, {}, 3⟩ } with tick := 9 }
    : State), 4, 37, ⟨9, 2, 0x4000, 0, false, {}, 3⟩, wf_of _ (by decide +kernel), (by decide +kernel), (by decide +kernel),
    (by decide +kernel), (by decide +kernel), (by decide +kernel), (by decide +kernel)⟩

theorem wit_FetchPoint_2 :
    ∃ (s : State) (f : Fin 128) (c : Chain), s.Wf ∧ (s.flx f).last ≠ some s.tick ∧ (s.flx f).carry = [] ∧
      (s.tgt (512 + f)).start = none ∧ (s.tgt (512 + f)).zeroTick = none ∧ (s.tgt (512 + f)).chain = some c ∧ c.next ≤ s.tick ∧
      c.done < (s.segNow (512 + f)).len ∧ (s.segNow (512 + f)).roving = false ∧ s.bit (Fld.SYN_FLX_CFG_EN f) = true ∧
      s.bit (Fld.SYN_FLX_CFG_PD_EN f) = false ∧ s.bit (Fld.STM_TGT_STATUS_MUTED_UR (512 + f)) = false :=
  ⟨({ (({ ((st [(Fld.STM_TGT_TBL_BASE 639, 0x100), (Fld.STM_TGT_CNT_COUNT 639, 5), (Fld.STM_TGT_STATUS_SEG 639, 2)] ((st [(Fld.GLB_MODE_STATUS_MODE, 5), (Fld.SYN_FLX_CFG_EN 127, 1), (⟨Reg.PWR_PORT_STATE 11, 30, 2⟩, 0), (Fld.SUP_STATUS_QUALIFIED, 1), (Fld.SUP_STATUS_ILK, 1)]).putSramBytes (0x800000 + 0x1000 + 16*2) (leBytes 16 (64 + 2^32*20 + 2^48*0 + 2^64*65535 + 2^80*0 + 2^81*0 + 2^88*0))))).putSramBytes (0x800100 + 24) [0, 0x80, 0xFF, 0x7F, 1, 0, 0, 0xC0] with sup := { rel.sup with permits := true } } : State)).setTgt 639 { chain := some ⟨3, 9, 0x7FFF, 0, false, {}, 3⟩ } with tick := 9 }
    : State), 127, ⟨3, 9, 0x7FFF, 0, false, {}, 3⟩, wf_of _ (by decide +kernel), (by decide +kernel), (by decide +kernel),
    (by decide +kernel), (by decide +kernel), (by decide +kernel), (by decide +kernel), (by decide +kernel), (by decide +kernel),
    (by decide +kernel), (by decide +kernel), (by decide +kernel)⟩

theorem wit_FetchPoint_3 :
    ∃ (s : State) (f : Fin 128) (r : Fin 64) (c : Chain), s.Wf ∧ (s.flx f).last ≠ some s.tick ∧ (s.tgt (512 + f)).start = none ∧
      (s.tgt (512 + f)).chain = some c ∧ c.next ≤ s.tick ∧ c.done < (s.segNow (512 + f)).len ∧ (s.segNow (512 + f)).roving = true ∧
      (s.segNow (512 + f)).stream = r.val ∧ s.fld (Fld.STM_RV_STATUS_STATE r) = 2 ∧ 8 ≤ s.fld (Fld.STM_RV_FILL_BYTES r) :=
  ⟨({ ((st [(Fld.STM_TGT_TBL_BASE 639, 0x100), (Fld.STM_TGT_CNT_COUNT 639, 5), (Fld.STM_TGT_STATUS_SEG 639, 2)] ((st [(Fld.STM_RV_STATUS_STATE 63, 2), (Fld.STM_RV_FILL_BYTES 63, 263), (Fld.STM_RV_WM_LOW 63, 1), (Fld.STM_RV_RING_SIZE 63, 1)]).putSramBytes (0x800000 + 0x1000 + 16*2) (leBytes 16 (0 + 2^32*20 + 2^48*0 + 2^64*65535 + 2^80*1 + 2^81*0 + 2^88*63))))).setTgt 639 { chain := some ⟨3, 9, 0x7FFF, 0, false, {}, 3⟩ } with tick := 9 }
    : State), 127, 63, ⟨3, 9, 0x7FFF, 0, false, {}, 3⟩, wf_of _ (by decide +kernel), (by decide +kernel), (by decide +kernel),
    (by decide +kernel), (by decide +kernel), (by decide +kernel), (by decide +kernel), (by decide +kernel), (by decide +kernel),
    (by decide +kernel)⟩

theorem wit_FetchPoint_4 :
    ∃ (s : State) (f : Fin 128) (r : Fin 64) (c : Chain), s.Wf ∧ (s.flx f).last ≠ some s.tick ∧ (s.tgt (512 + f)).start = none ∧
      (s.tgt (512 + f)).chain = some c ∧ c.next ≤ s.tick ∧ c.done < (s.segNow (512 + f)).len ∧ (s.segNow (512 + f)).roving = true ∧
      (s.segNow (512 + f)).stream = r.val ∧ ((s.fld (Fld.STM_RV_STATUS_STATE r) = 2 ∧ s.fld (Fld.STM_RV_FILL_BYTES r) < 8 ∧
      (s.stream r).failed = true) ∨ s.fld (Fld.STM_RV_STATUS_STATE r) = 3 ∨ s.fld (Fld.STM_RV_STATUS_STATE r) = 0) :=
  ⟨({ (((st [(Fld.STM_TGT_TBL_BASE 639, 0x100), (Fld.STM_TGT_CNT_COUNT 639, 5), (Fld.STM_TGT_STATUS_SEG 639, 2)] ((st [(Fld.STM_RV_STATUS_STATE 63, 2), (Fld.STM_RV_FILL_BYTES 63, 7), (Fld.STM_RV_RING_SIZE 63, 1)]).putSramBytes (0x800000 + 0x1000 + 16*2) (leBytes 16 (0 + 2^32*20 + 2^48*0 + 2^64*65535 + 2^80*1 + 2^81*0 + 2^88*63))))).setStream 63 { failed := true }).setTgt 639 { chain := some ⟨3, 9, 0x7FFF, 0, false, {}, 3⟩ } with tick := 9 }
    : State), 127, 63, ⟨3, 9, 0x7FFF, 0, false, {}, 3⟩, wf_of _ (by decide +kernel), (by decide +kernel), (by decide +kernel),
    (by decide +kernel), (by decide +kernel), (by decide +kernel), (by decide +kernel), (by decide +kernel), (by decide +kernel)⟩

theorem wit_SegmentBoundaries_0 :
    ∃ (s : State) (x : Fin 640), s.Wf ∧ s.atBoundary x = true ∧ (s.tgt x).jump = none ∧
      s.fld (Fld.STM_TGT_PASS_PASS x) < min (s.segNow x).rep 0xFFFE :=
  ⟨({ (st [(Fld.STM_TGT_PASS_PASS 639, 1)] (st [(Fld.STM_TGT_TBL_BASE 639, 0x100), (Fld.STM_TGT_CNT_COUNT 639, 5), (Fld.STM_TGT_STATUS_SEG 639, 2)] ((rel).putSramBytes (0x800000 + 0x1000 + 16*2) (leBytes 16 (0 + 2^32*4 + 2^48*2 + 2^64*3 + 2^80*0 + 2^81*0 + 2^88*0))))).setTgt 639 { chain := some ⟨4, 40, 0, 0, false, {}, 0⟩, jump := none } with tick := 40 }
    : State), 639, wf_of _ (by decide +kernel), (by decide +kernel), (by decide +kernel), (by decide +kernel)⟩

theorem wit_SegmentBoundaries_1 :
    ∃ (s : State) (x : Fin 640), s.Wf ∧ s.atBoundary x = true ∧ (s.tgt x).jump = none ∧ ((s.segNow x).rep ≠ 0xFFFF ∧
      s.fld (Fld.STM_TGT_PASS_PASS x) = (s.segNow x).rep) ∧ s.namesSeg x (s.segNow x).next = true :=
  ⟨({ (st [(Fld.STM_TGT_PASS_PASS 639, 2)] (st [(Fld.STM_TGT_TBL_BASE 639, 0x100), (Fld.STM_TGT_CNT_COUNT 639, 5), (Fld.STM_TGT_STATUS_SEG 639, 2)] ((rel).putSramBytes (0x800000 + 0x1000 + 16*2) (leBytes 16 (0 + 2^32*4 + 2^48*2 + 2^64*3 + 2^80*0 + 2^81*0 + 2^88*0))))).setTgt 639 { chain := some ⟨4, 40, 0, 0, false, {}, 0⟩, jump := none } with tick := 40 }
    : State), 639, wf_of _ (by decide +kernel), (by decide +kernel), (by decide +kernel), (by decide +kernel), (by decide +kernel)⟩

theorem wit_SegmentBoundaries_2 :
    ∃ (s : State) (x : Fin 640), s.Wf ∧ s.atBoundary x = true ∧ (s.tgt x).jump = none ∧ ((s.segNow x).rep ≠ 0xFFFF ∧
      s.fld (Fld.STM_TGT_PASS_PASS x) = (s.segNow x).rep) ∧ s.namesSeg x (s.segNow x).next = false :=
  ⟨({ (st [(Fld.STM_TGT_PASS_PASS 639, 65534)] (st [(Fld.STM_TGT_TBL_BASE 639, 0x100), (Fld.STM_TGT_CNT_COUNT 639, 5), (Fld.STM_TGT_STATUS_SEG 639, 2)] ((rel).putSramBytes (0x800000 + 0x1000 + 16*2) (leBytes 16 (0 + 2^32*4 + 2^48*65534 + 2^64*5 + 2^80*0 + 2^81*0 + 2^88*0))))).setTgt 639 { chain := some ⟨4, 40, 0, 0, false, {}, 0⟩, jump := none } with tick := 40 }
    : State), 639, wf_of _ (by decide +kernel), (by decide +kernel), (by decide +kernel), (by decide +kernel), (by decide +kernel)⟩

theorem wit_SegmentBoundaries_3 :
    ∃ (s : State) (x : Fin 640) (j : Jump), s.Wf ∧ s.atBoundary x = true ∧ (s.tgt x).jump = some j ∧
      ((s.segNow x).finalOnly = false ∨ ((s.segNow x).rep ≠ 0xFFFF ∧ s.fld (Fld.STM_TGT_PASS_PASS x) = (s.segNow x).rep)) ∧
      j.vis + 16 ≤ s.tick :=
  ⟨({ (st [(Fld.STM_TGT_PASS_PASS 639, 0)] (st [(Fld.STM_TGT_TBL_BASE 639, 0x100), (Fld.STM_TGT_CNT_COUNT 639, 5), (Fld.STM_TGT_STATUS_SEG 639, 2)] ((rel).putSramBytes (0x800000 + 0x1000 + 16*2) (leBytes 16 (0 + 2^32*4 + 2^48*2 + 2^64*3 + 2^80*0 + 2^81*0 + 2^88*0))))).setTgt 639 { chain := some ⟨4, 40, 0, 0, false, {}, 0⟩, jump := some ⟨24, true⟩ } with tick := 40 }
    : State), 639, ⟨24, true⟩, wf_of _ (by decide +kernel), (by decide +kernel), (by decide +kernel), (by decide +kernel),
    (by decide +kernel)⟩

theorem wit_SegmentBoundaries_4 :
    ∃ (s : State) (x : Fin 640) (j : Jump), s.Wf ∧ s.atBoundary x = true ∧ (s.tgt x).jump = some j ∧ (s.segNow x).finalOnly = false ∧
      j.vis < s.tick ∧ s.tick < j.vis + 16 ∧ s.fld (Fld.STM_TGT_PASS_PASS x) < min (s.segNow x).rep 0xFFFE :=
  ⟨({ (st [(Fld.STM_TGT_PASS_PASS 639, 0)] (st [(Fld.STM_TGT_TBL_BASE 639, 0x100), (Fld.STM_TGT_CNT_COUNT 639, 5), (Fld.STM_TGT_STATUS_SEG 639, 2)] ((rel).putSramBytes (0x800000 + 0x1000 + 16*2) (leBytes 16 (0 + 2^32*4 + 2^48*2 + 2^64*3 + 2^80*0 + 2^81*0 + 2^88*0))))).setTgt 639 { chain := some ⟨4, 40, 0, 0, false, {}, 0⟩, jump := some ⟨25, false⟩ } with tick := 40 }
    : State), 639, ⟨25, false⟩, wf_of _ (by decide +kernel), (by decide +kernel), (by decide +kernel), (by decide +kernel),
    (by decide +kernel), (by decide +kernel), (by decide +kernel)⟩

theorem wit_SegmentBoundaries_5 :
    ∃ (s : State) (x : Fin 640) (j : Jump), s.Wf ∧ s.atBoundary x = true ∧ (s.tgt x).jump = some j ∧ (s.segNow x).finalOnly = true ∧
      s.fld (Fld.STM_TGT_PASS_PASS x) < min (s.segNow x).rep 0xFFFE :=
  ⟨({ (st [(Fld.STM_TGT_PASS_PASS 639, 0)] (st [(Fld.STM_TGT_TBL_BASE 639, 0x100), (Fld.STM_TGT_CNT_COUNT 639, 5), (Fld.STM_TGT_STATUS_SEG 639, 2)] ((rel).putSramBytes (0x800000 + 0x1000 + 16*2) (leBytes 16 (0 + 2^32*4 + 2^48*2 + 2^64*3 + 2^80*0 + 2^81*1 + 2^88*0))))).setTgt 639 { chain := some ⟨4, 40, 0, 0, false, {}, 0⟩, jump := some ⟨3, false⟩ } with tick := 40 }
    : State), 639, ⟨3, false⟩, wf_of _ (by decide +kernel), (by decide +kernel), (by decide +kernel), (by decide +kernel),
    (by decide +kernel)⟩

theorem wit_SegmentBoundaries_6 :
    ∃ (s : State) (x : Fin 640) (d : Nat) (l : List (Nat × Bool)), s.Wf ∧ (s.tgt x).ends = (d, true) :: l ∧ d ≤ s.tick ∧
      s.playing x = false :=
  ⟨({ (st [(Fld.STM_TGT_STATUS_PLAYING 639, 1), (Fld.STM_TGT_STATUS_JUMP_PEND 639, 1)]).setTgt 639 { jump := some ⟨3, false⟩, ends := [(9, true)] } with tick := 9 }
    : State), 639, 9, [], wf_of _ (by decide +kernel), (by decide +kernel), (by decide +kernel), (by decide +kernel)⟩

theorem wit_SegmentBoundaries_7 :
    ∃ (s : State) (x : Fin 640) (d : Nat) (l : List (Nat × Bool)), s.Wf ∧ (s.tgt x).ends = (d, false) :: l ∧ d ≤ s.tick :=
  ⟨({ (st [(Fld.SYN_TRG_CFG_SRC 31, 3), (Fld.SYN_TRG_CFG_KIND 31, 2), (Fld.SYN_TRG_CFG_CH 31, 127)]).setTgt 639 { ends := [(9, false)] } with tick := 9 }
    : State), 639, 9, [], wf_of _ (by decide +kernel), (by decide +kernel), (by decide +kernel)⟩

theorem wit_UnderrunsAndBias_0 :
    ∃ (s : State) (x : Fin 640) (u : UrRec) (i : Nat), s.Wf ∧ (s.tgt x).urRec = some u ∧ (s.tgt x).urTick < s.tick ∧ u.stream < 64 ∧
      u.sub < 64 ∧ u.cause < 4 ∧ i = s.fld Fld.STM_UR_HEAD_NEXT ∧ s.fld Fld.STM_UR_HEAD_PENDING ≤ 16 :=
  ⟨({ (st [(Fld.STM_UR_HEAD_PENDING, 16), (Fld.STM_UR_HEAD_NEXT, 15)]).setTgt 639 { urRec := some ⟨3611548, 63, 63, 3, 305740⟩, urSpn := 25 } with tick := 1 }
    : State), 639, ⟨3611548, 63, 63, 3, 305740⟩, 15, wf_of _ (by decide +kernel), (by decide +kernel), (by decide +kernel),
    (by decide +kernel), (by decide +kernel), (by decide +kernel), (by decide +kernel), (by decide +kernel)⟩

theorem wit_UnderrunsAndBias_1 :
    ∃ (s : State) (x : Fin 640), s.Wf ∧ s.bit (Fld.STM_TGT_STATUS_MUTED_UR x) = true ∧
      (s.tgt x).urTick ≤ (s.spindle (s.tgt x).urSpn).idleTick ∧ (s.spindle (s.tgt x).urSpn).idleTick < s.tick :=
  ⟨({ ((st [(Fld.STM_TGT_STATUS_MUTED_UR 639, 1)]).setTgt 639 { urSpn := 25 }).setSpindle 25 { noVec := true, idleTick := 8 } with tick := 9 }
    : State), 639, wf_of _ (by decide +kernel), (by decide +kernel), (by decide +kernel), (by decide +kernel)⟩

theorem wit_UnderrunsAndBias_2 :
    ∃ (s : State) (x : Fin 640), s.Wf ∧
      ((s.spindle (s.tgt x).urSpn).idleTick < (s.tgt x).urTick ∨ s.tick ≤ (s.spindle (s.tgt x).urSpn).idleTick) :=
  ⟨({ ((st [(Fld.STM_TGT_STATUS_MUTED_UR 639, 1)]).setTgt 639 { urSpn := 25 }).setSpindle 25 { noVec := true, idleTick := 9 } with tick := 9 }
    : State), 639, wf_of _ (by decide +kernel), (by decide +kernel)⟩

theorem wit_UnderrunsAndBias_3 :
    ∃ (s : State) (path : Path) (v : Word), s.Wf ∧ s.accepts path Reg.STM_UR_HEAD = true :=
  ⟨st [(Fld.STM_UR_HEAD_PENDING, 16)], .bar0, 0xF000, wf_of _ (by decide +kernel), (by decide +kernel)⟩

theorem wit_UnderrunsAndBias_4 :
    ∃ (s : State), s.Wf ∧ s.sinceSync % 5000 = 0 ∧ s.syn.biaTick ≠ some s.tick ∧ s.permitted = true :=
  ⟨({ st [(Fld.GLB_MODE_STATUS_MODE, 4), (Fld.SYN_BIA_NOW_CODE 63, 0xFFF00), (Fld.SYN_BIA_SLEW_CODE 63, 104), (Fld.SUP_STATUS_QUALIFIED, 1), (Fld.SUP_STATUS_ILK, 1)] with sup := { rel.sup with permits := true }, tick := 5000 }
    : State), wf_of _ (by decide +kernel), (by decide +kernel), (by decide +kernel), (by decide +kernel)⟩

theorem wit_UnderrunsAndBias_5 :
    ∃ (s : State), s.Wf ∧ (s.sinceSync % 5000 ≠ 0 ∨ s.permitted = false) :=
  ⟨rel, wf_of _ (by decide +kernel), (by decide +kernel)⟩

theorem wit_RovingStreams_0 :
    ∃ (s : State) (r : Fin 64) (path : Path) (v : Word), s.Wf ∧ s.accepts path (Reg.STM_RV_CMD r) = true ∧ v.getLsbD 0 = true ∧
      s.bit (Fld.STM_RV_CFG_EN r) = true ∧ 4 ≤ s.mode ∧ s.mode ≤ 6 ∧ s.streamPlays r = false :=
  ⟨(st [(Fld.GLB_MODE_STATUS_MODE, 4), (Fld.STM_RV_CFG_EN 63, 1), (Fld.STM_RV_RING_SIZE 63, 2), (Fld.STM_RV_STATUS_STATE 63, 1),
    (Fld.STM_RV_LEN_VALUE 63, 300), (Fld.STM_RV_WM_PRIME 63, 4), (Fld.STM_RV_FILL_BYTES 63, 77)]).setStream 63
    { played := 7, failed := true }, 63, .bar0, 1, wf_of _ (by decide +kernel), (by decide +kernel), (by decide +kernel),
    (by decide +kernel), (by decide +kernel), (by decide +kernel), (by decide +kernel)⟩

theorem wit_RovingStreams_1 :
    ∃ (s : State) (r : Fin 64) (path : Path) (v : Word), s.Wf ∧ s.accepts path (Reg.STM_RV_CMD r) = true ∧ s.streamPlays r = true :=
  ⟨((st [(Fld.STM_TGT_TBL_BASE 639, 0x100), (Fld.STM_TGT_CNT_COUNT 639, 5), (Fld.STM_TGT_STATUS_SEG 639, 2)] ((rel).putSramBytes
    (0x800000 + 0x1000 + 16*2) (leBytes 16 (0 + 2^32*20 + 2^48*0 + 2^64*65535 + 2^80*1 + 2^81*0 + 2^88*63))))).setTgt 639
    { chain := some ⟨0, 0, 0, 0, false, {}, 0⟩ }, 63, .bar0, 1, wf_of _ (by decide +kernel), (by decide +kernel), (by decide +kernel)⟩

theorem wit_RovingStreams_2 :
    ∃ (s : State) (r : Fin 64) (m : Nat), s.Wf ∧ s.refills r = true ∧ s.bit (Fld.STM_RV_CFG_COMPRESSED r) = false ∧
      s.fld (Fld.STM_RV_CFG_SRC r) = 0 ∧ s.fld (Fld.STM_RV_LEN_VALUE r) ≠ 0 ∧
      ((s.stream r).asked % s.fld (Fld.STM_RV_LEN_VALUE r) ≠ 0 ∨ (s.stream r).asked = 0 ∨ s.bit (Fld.STM_RV_CFG_WRAP r) = true) ∧
      s.fld (Fld.STM_RV_FILL_BYTES r) + (s.stream r).coming + 4096 ≤ s.ringSize r ∧
      m = min 256 (s.fld (Fld.STM_RV_LEN_VALUE r) - (s.stream r).asked % s.fld (Fld.STM_RV_LEN_VALUE r)) :=
  ⟨(st [(Fld.GLB_MODE_STATUS_MODE, 4), (Fld.STM_RV_CFG_EN 63, 1), (Fld.STM_RV_RING_SIZE 63, 2), (Fld.STM_RV_STATUS_STATE 63, 1),
    (Fld.STM_RV_LEN_VALUE 63, 300), (Fld.STM_RV_WM_PRIME 63, 4), (Fld.STM_RV_CFG_WRAP 63, 1),
    (Fld.STM_RV_FILL_BYTES 63, 4096)]).setStream 63 { asked := 600 }, 63, 256, wf_of _ (by decide +kernel), (by decide +kernel),
    (by decide +kernel), (by decide +kernel), (by decide +kernel), (by decide +kernel), (by decide +kernel), (by decide +kernel)⟩

theorem wit_RovingStreams_3 :
    ∃ (s : State) (r : Fin 64), s.Wf ∧ s.bit (Fld.STM_RV_CFG_COMPRESSED r) = false ∧ s.hostRefillReady r = true ∧
      s.oldestRead r = true :=
  ⟨(st [(Fld.GLB_MODE_STATUS_MODE, 4), (Fld.STM_RV_CFG_EN 63, 1), (Fld.STM_RV_RING_SIZE 63, 2), (Fld.STM_RV_STATUS_STATE 63, 1),
    (Fld.STM_RV_LEN_VALUE 63, 300), (Fld.STM_RV_WM_PRIME 63, 4), (Fld.STM_RV_CFG_SRC 63, 1), (Fld.STM_RV_CFG_QUEUE 63, 7),
    (Fld.HIF_Q_CFG_EN 7, 1), (Fld.HIF_Q_CFG_MODE 7, 1), (Fld.HIF_Q_LIMIT_LIMIT 7, 9)]), 63, wf_of _ (by decide +kernel),
    (by decide +kernel), (by decide +kernel), (by decide +kernel)⟩

theorem wit_RovingStreams_4 :
    ∃ (s : State) (r : Fin 64), s.Wf ∧ (s.refillUnits r = 0 ∨ (s.hostRefillReady r = true ∧ s.oldestRead r = false)) :=
  ⟨(st [(Fld.GLB_MODE_STATUS_MODE, 4), (Fld.STM_RV_CFG_EN 63, 1), (Fld.STM_RV_RING_SIZE 63, 2), (Fld.STM_RV_STATUS_STATE 63, 1),
    (Fld.STM_RV_LEN_VALUE 63, 300), (Fld.STM_RV_WM_PRIME 63, 4), (Fld.STM_RV_CFG_SRC 63, 1), (Fld.STM_RV_CFG_QUEUE 63, 7),
    (Fld.HIF_Q_CFG_EN 7, 1), (Fld.HIF_Q_CFG_MODE 7, 1), (Fld.HIF_Q_LIMIT_LIMIT 7, 9)]), 5, wf_of _ (by decide +kernel),
    (by decide +kernel)⟩

theorem wit_RovingStreams_5 :
    ∃ (s : State) (r : Fin 64) (host : List Byte) (err : Bool) (bytes : Nat) (m : Nat), s.Wf ∧ (s.stream r).reqs = [(bytes, m)] ∧
      (s.stream r).asked = m ∧ s.bit (Fld.STM_RV_CFG_COMPRESSED r) = false ∧ s.fld (Fld.STM_RV_CFG_SRC r) = 0 ∧ err = false ∧
      s.dramMarked (s.rd64 (Reg.STM_RV_SRC_LO r)) bytes = false ∧ s.dramWaits (.refill r 0) = false ∧
      s.fld (Fld.STM_RV_STATUS_STATE r) = 1 ∧ bytes ≤ s.ringSize r ∧ s.fld (Fld.STM_RV_FILL_BYTES r) + bytes < 2 ^ 25 :=
  ⟨(((st [(Fld.GLB_MODE_STATUS_MODE, 4), (Fld.STM_RV_CFG_EN 63, 1), (Fld.STM_RV_RING_SIZE 63, 2), (Fld.STM_RV_STATUS_STATE 63, 1),
    (Fld.STM_RV_LEN_VALUE 63, 300), (Fld.STM_RV_WM_PRIME 63, 4), (⟨Reg.STM_RV_SRC_LO 63, 0, 32⟩, 0x1000)]).putDramBytes 0x1000
    [1, 2, 3, 4]).setStream 63 { asked := 64, stored := 8190, reqs := [(1024, 64)] }), 63, [], false, 1024, 64, wf_of _
    (by decide +kernel), (by decide +kernel), (by decide +kernel), (by decide +kernel), (by decide +kernel), (by decide +kernel),
    (by decide +kernel), (by decide +kernel), (by decide +kernel), (by decide +kernel), (by decide +kernel)⟩

theorem wit_RovingStreams_6 :
    ∃ (s : State) (r : Fin 64) (host : List Byte) (err : Bool), s.Wf ∧ (s.stream r).reqs ≠ [] ∧
      s.bit (Fld.STM_RV_CFG_COMPRESSED r) = false ∧ s.fld (Fld.STM_RV_CFG_SRC r) = 1 ∧ err = true :=
  ⟨(st [(Fld.GLB_MODE_STATUS_MODE, 4), (Fld.STM_RV_CFG_EN 63, 1), (Fld.STM_RV_RING_SIZE 63, 2), (Fld.STM_RV_STATUS_STATE 63, 1),
    (Fld.STM_RV_LEN_VALUE 63, 300), (Fld.STM_RV_WM_PRIME 63, 4), (Fld.STM_RV_CFG_SRC 63, 1)]).setStream 63
    { asked := 64, stored := 8190, reqs := [(1024, 64)] }, 63, [], true, wf_of _ (by decide +kernel), (by decide +kernel),
    (by decide +kernel), (by decide +kernel), (by decide +kernel)⟩

theorem wit_RovingStreams_7 :
    ∃ (s : State) (r : Fin 64) (host : List Byte) (err : Bool), s.Wf ∧ s.fld (Fld.STM_RV_CFG_SRC r) = 0 ∧
      s.dramWaits (.refill r ((s.stream r).asked - ((s.stream r).reqs.map Prod.snd).sum)) = true :=
  ⟨(askRefill 63 false 0 0 4096 ((st [(Fld.GLB_MODE_STATUS_MODE, 4), (Fld.STM_RV_CFG_EN 63, 1), (Fld.STM_RV_RING_SIZE 63, 2),
    (Fld.STM_RV_STATUS_STATE 63, 1), (Fld.STM_RV_LEN_VALUE 63, 300), (Fld.STM_RV_WM_PRIME 63, 4)]).setStream 63
    { asked := 256, reqs := [(4096, 256)] })), 63, [], false, wf_of _ (by decide +kernel), (by decide +kernel), (by decide +kernel)⟩

theorem wit_FrontEndChanges_0 :
    ∃ (s : State) (path : Path) (a : Fin 16) (v : Word), s.Wf ∧ s.accepts path (Reg.RDO_ACQ_ATT a) = true :=
  ⟨({ rel with tick := 7 } : State), .bar0, 15, 0x2C, wf_of _ (by decide +kernel), (by decide +kernel)⟩

theorem wit_FrontEndChanges_1 :
    ∃ (s : State) (a : Fin 16) (v : Nat), s.Wf ∧ s.rdo.changes = [(s.tick, .att a v)] ∧ v < 32 :=
  ⟨(let b := (rel); { b with tick := 8, rdo := { b.rdo with changes := [(8, .att 15 12)] } } : State), 15, 12, wf_of _
    (by decide +kernel), (by decide +kernel), (by decide +kernel)⟩

theorem wit_FrontEndChanges_2 :
    ∃ (s : State) (r : Fin 256) (w : Nat), s.Wf ∧ s.rdo.changes = [(s.tick, .ftw r w)] ∧ w < 2 ^ 48 :=
  ⟨(let b := (rel); { b with tick := 8, rdo := { b.rdo with changes := [(8, .ftw 255 0x740000000001)] } } : State), 255,
    0x740000000001, wf_of _ (by decide +kernel), (by decide +kernel), (by decide +kernel)⟩

theorem wit_FrontEndChanges_3 :
    ∃ (s : State) (r : Fin 256) (v : Nat), s.Wf ∧ s.rdo.changes = [(s.tick, .filter r v)] :=
  ⟨(let b := (rel); { b with tick := 8, rdo := { b.rdo with changes := [(8, .filter 255 1)] } } : State), 255, 1, wf_of _
    (by decide +kernel), (by decide +kernel)⟩

theorem wit_FrontEndChanges_4 :
    ∃ (s : State) (r : Fin 256) (v : Nat), s.Wf ∧ s.rdo.changes = [(s.tick, .gain r v)] :=
  ⟨(let b := (rel); { b with tick := 8, rdo := { b.rdo with changes := [(8, .gain 255 0x4000)] } } : State), 255, 0x4000, wf_of _
    (by decide +kernel), (by decide +kernel)⟩

theorem wit_FrontEndChanges_5 :
    ∃ (s : State) (v : Nat), s.Wf ∧ s.rdo.changes = [(s.tick, .calSet v)] ∧ v < 8 :=
  ⟨(let b := (rel); { b with tick := 8, rdo := { b.rdo with changes := [(8, .calSet 4)] } } : State), 4, wf_of _ (by decide +kernel),
    (by decide +kernel), (by decide +kernel)⟩

theorem wit_FrontEndChanges_6 :
    ∃ (s : State) (a : Fin 16), s.Wf ∧ s.rdo.changes = [(s.tick, .portOff a)] :=
  ⟨(let b := ((st [(Fld.RDO_ACQ_STATUS_ACTIVE 15, 1)]).setAcq 15 { awake := true });
    { b with tick := 8, rdo := { b.rdo with changes := [(8, .portOff 15)] } } : State), 15, wf_of _ (by decide +kernel),
    (by decide +kernel)⟩

theorem wit_FrontEndChanges_7 :
    ∃ (s : State) (a : Fin 16), s.Wf ∧ s.rdo.changes = [(s.tick, .portOn a)] :=
  ⟨(let b := (rel); { b with tick := 8, rdo := { b.rdo with changes := [(8, .portOn 15)] } } : State), 15, wf_of _
    (by decide +kernel), (by decide +kernel)⟩

theorem wit_ChannelSamples_0 :
    ∃ (s : State) (a : Fin 16) (adc : List (BitVec 12)), s.Wf ∧ 2 ≤ s.sinceSync ∧ s.mode ≠ 3 ∧
      (s.acq a).lastGroup ≠ some (s.sinceSync / 2 - 1) ∧ s.sampling a = true ∧ adc.length = 64 :=
  ⟨({ (st [(Fld.GLB_MODE_STATUS_MODE, 4), (Fld.RDO_ACQ_CFG_EN 15, 1)]).setAcq 15 { awake := true, raw := [[80]], lastGroup := some 0 } with tick := 4 }
    : State), 15, 0x7FF :: 0x800 :: List.replicate 62 5, wf_of _ (by decide +kernel), (by decide +kernel), (by decide +kernel),
    (by decide +kernel), (by decide +kernel), (by decide +kernel)⟩

theorem wit_ChannelSamples_1 :
    ∃ (s : State) (a : Fin 16) (adc : List (BitVec 12)), s.Wf ∧ 2 ≤ s.sinceSync ∧ s.mode ≠ 3 ∧
      (s.acq a).lastGroup ≠ some (s.sinceSync / 2 - 1) ∧ s.sampling a = false :=
  ⟨({ rel with tick := 2 } : State), 15, List.replicate 64 0x7FF, wf_of _ (by decide +kernel), (by decide +kernel),
    (by decide +kernel), (by decide +kernel), (by decide +kernel)⟩

theorem wit_ChannelSamples_2 :
    ∃ (s : State) (a : Fin 16) (adc : List (BitVec 12)) (r : Fin 256), s.Wf ∧ 2 ≤ s.sinceSync ∧ s.mode ≠ 3 ∧
      (s.acq a).lastGroup ≠ some (s.sinceSync / 2 - 1) ∧ s.sampling a = true ∧ s.arrayPort a = false ∧ r.val ∈ s.acqChannels a ∧
      (s.acq a).settle ≤ s.sinceSync / 2 - 1 ∧ 15 ≤ (s.acq a).raw.length ∧ (s.acq a).lastGroup = some (s.sinceSync / 2 - 1 - 1) ∧
      s.sinceSync / 2 - 1 ≠ 0 ∧ (∀ x ∈ (s.acq a).raw, ∀ w ∈ x, bitOf w 3 = false) :=
  ⟨({ (((st [(Fld.GLB_MODE_STATUS_MODE, 4), (Fld.RDO_ACQ_CFG_EN 15, 1), (Fld.GLB_RDO_MAP_VALID 255, 1), (Fld.GLB_RDO_MAP_PORT 255, 15)]).setAcq 15 { awake := true, raw := List.replicate 15 [0x50], lastGroup := some 18 }).setRdoCh 255 { mark := 20 }).setDscCh 255 { rwins := [⟨1, 0, 0, 4, 9⟩] } with tick := 40 }
    : State), 15, [], 255, wf_of _ (by decide +kernel), (by decide +kernel), (by decide +kernel), (by decide +kernel),
    (by decide +kernel), (by decide +kernel), (by decide +kernel), (by decide +kernel), (by decide +kernel), (by decide +kernel),
    (by decide +kernel), (by decide +kernel)⟩

theorem wit_ArrayTones_0 :
    ∃ (s : State) (a : Fin 16) (i : Fin 1024), s.Wf ∧ s.arrayPort a = true ∧ s.bit (Fld.RDO_ARR_TONE_C_EN a i) = true ∧ 4 ≤ s.mode ∧
      s.mode ≤ 6 ∧ 0 < s.sinceSync ∧ s.sinceSync % s.tonePeriod a = 0 ∧
      ((sget (fun _ => none) (s.arrPair a).last i).map Prod.fst ≠ some s.sinceSync) ∧
      (sparseWf (fun _ => none) (s.arrPair a).last = true) :=
  ⟨({ (st [(Fld.GLB_MODE_STATUS_MODE, 4), (Fld.RDO_ACQ_CFG_MODE 15, 1), (Fld.RDO_ARR_CFG_DEC 15, 0), (Fld.RDO_ARR_TONE_C_EN 15 1023, 1)]).setArrPair 15 { marks := [(1023, [(0, 512)])] } with tick := 512 }
    : State), 15, 1023, wf_of _ (by decide +kernel), (by decide +kernel), (by decide +kernel), (by decide +kernel),
    (by decide +kernel), (by decide +kernel), (by decide +kernel), (by decide +kernel), (by decide +kernel)⟩

theorem wit_ArrayTones_1 :
    ∃ (s : State) (a : Fin 16) (path : Path) (v : Word), s.Wf ∧ s.accepts path (Reg.RDO_ARR_CFG a) = true ∧
      (s.arrPair a).combNew ≠ v.getLsbD 0 :=
  ⟨({ rel with tick := 3 } : State), 15, .bar0, 1, wf_of _ (by decide +kernel), (by decide +kernel), (by decide +kernel)⟩

theorem wit_ArrayTones_2 :
    ∃ (s : State) (a : Fin 16) (path : Path) (i : Fin 1024) (v : Word), s.Wf ∧ s.accepts path (Reg.RDO_ARR_TONE_F a i) = true ∧
      s.holdsTones = true ∧ (sparseWf (fun _ => none) (s.arrPair a).heldF = true) :=
  ⟨st [(Fld.GLB_MODE_STATUS_MODE, 4)], 15, .bar0, 1023, 0x0FCCC038, wf_of _ (by decide +kernel), (by decide +kernel),
    (by decide +kernel), (by decide +kernel)⟩

theorem wit_ArrayTones_3 :
    ∃ (s : State) (a : Fin 16) (path : Path) (i : Fin 1024) (v : Word), s.Wf ∧ s.accepts path (Reg.RDO_ARR_TONE_C a i) = true ∧
      s.holdsTones = true ∧ (sparseWf (fun _ => none) (s.arrPair a).heldC = true) :=
  ⟨st [(Fld.GLB_MODE_STATUS_MODE, 4)], 15, .bar0, 1023, 0xFFFFFFFF, wf_of _ (by decide +kernel), (by decide +kernel),
    (by decide +kernel), (by decide +kernel)⟩

theorem wit_ArrayTones_4 :
    ∃ (s : State) (a : Fin 16) (path : Path) (i : Fin 1024) (c : Bool) (v : Word), s.Wf ∧
      (s.accepts path (if c then Reg.RDO_ARR_TONE_C a i else Reg.RDO_ARR_TONE_F a i) = true) ∧ s.holdsTones = false ∧
      s.rwlLocked = false ∧ s.rd (Reg.RDO_ARR_TONE_C a i) &&& 0xFFFE = 0 :=
  ⟨st [(Fld.GLB_MODE_STATUS_MODE, 2)], 15, .bar0, 1023, true, 0xFFFFFFFF, wf_of _ (by decide +kernel), (by decide +kernel),
    (by decide +kernel), (by decide +kernel), (by decide +kernel)⟩

theorem wit_ArrayTones_5 :
    ∃ (s : State) (a : Fin 16) (path : Path) (i : Fin 1024) (v : Word) (f : Word) (c : Word), s.Wf ∧
      s.accepts path (Reg.RDO_ARR_TONE_P a i) = true ∧ s.holdsTones = true ∧ (sparseWf (fun _ => none) (s.arrPair a).heldF = true) ∧
      (sparseWf (fun _ => none) (s.arrPair a).heldC = true) ∧ (sget (fun _ => none) (s.arrPair a).heldF i = some f) ∧
      (sget (fun _ => none) (s.arrPair a).heldC i = some c) ∧ offInBand f.toInt = true ∧ nearBin f.toInt = true ∧
      (((List.range 1024).all fun j =>
      j == i.val || !(s.toneEntry a j).2.1.getLsbD 0 || toneBin (s.toneEntry a j).1.toInt != toneBin f.toInt) = true) ∧
      s.abovePeak (32 + a) (s.combPower a (s.combAmps a i c)) = false :=
  ⟨((st [(Fld.GLB_MODE_STATUS_MODE, 4)]).setArrPair 15 { heldF := [(1023, some 0x0FCCC038)], heldC := [(1023, some 0x40000001)] }),
    15, .bar0, 1023, 5, 0x0FCCC038, 0x40000001, wf_of _ (by decide +kernel), (by decide +kernel), (by decide +kernel),
    (by decide +kernel), (by decide +kernel), (by decide +kernel), (by decide +kernel), (by decide +kernel), (by decide +kernel),
    (by decide +kernel), (by decide +kernel)⟩

theorem wit_ArrayTones_6 :
    ∃ (s : State) (a : Fin 16) (path : Path) (i : Fin 1024) (v : Word) (f : Word), s.Wf ∧
      s.accepts path (Reg.RDO_ARR_TONE_P a i) = true ∧ s.holdsTones = true ∧ (sparseWf (fun _ => none) (s.arrPair a).heldF = true) ∧
      (sget (fun _ => none) (s.arrPair a).heldF i = some f) ∧ offInBand f.toInt = false :=
  ⟨((st [(Fld.GLB_MODE_STATUS_MODE, 4)]).setArrPair 15 { heldF := [(1023, some 0x66666667)] }), 15, .bar0, 1023, 5, 0x66666667, wf_of
    _ (by decide +kernel), (by decide +kernel), (by decide +kernel), (by decide +kernel), (by decide +kernel), (by decide +kernel)⟩

theorem wit_ArrayTones_7 :
    ∃ (s : State) (a : Fin 16) (path : Path) (i : Fin 1024) (v : Word), s.Wf ∧ s.accepts path (Reg.RDO_ARR_TONE_P a i) = true ∧
      s.holdsTones = false ∧ s.rwlLocked = false :=
  ⟨st [(Fld.GLB_MODE_STATUS_MODE, 2)], 15, .bar0, 1023, 0xFFFFFFFF, wf_of _ (by decide +kernel), (by decide +kernel),
    (by decide +kernel), (by decide +kernel)⟩

theorem wit_ArrayTones_8 :
    ∃ (s : State) (a : Fin 16) (i : Fin 1024) (made : Nat) (f : Word) (c : Word) (p : Word), s.Wf ∧
      (s.arrPair a).accepted = [(i.val, made, (f, c, p))] ∧ made < s.tick ∧ s.sinceSync % 256 = 0 ∧
      (sparseWf (fun _ => []) (s.arrPair a).marks = true) :=
  ⟨({ (st [(Fld.RDO_ARR_CFG_DEC 15, 4)]).setArrPair 15 { accepted := [(1023, 7, (0x0FCCC038, 0x40000001, 5))] } with tick := 256 } :
    State), 15, 1023, 7, 0x0FCCC038, 0x40000001, 5, wf_of _ (by decide +kernel), (by decide +kernel), (by decide +kernel),
    (by decide +kernel), (by decide +kernel)⟩

theorem wit_ReadoutWindows_0 :
    ∃ (s : State) (r : Fin 256) (q : RwinReq) (l : List RwinReq), s.Wf ∧ (s.dscCh r).rwins = q :: l ∧ q.tick ≤ s.tick ∧ q.kset < 2 ∧
      q.es < 2 ∧ (∀ f ∈ (s.dscCh r).form, s.tick < f.1) ∧ s.bit ⟨Reg.DSC_CH_SWAP r, q.kset, 1⟩ = false :=
  ⟨({ (st [(⟨Reg.DSC_SET_K_BASE 255 1 + 0x3C, 0, 32⟩, 77)]).setDscCh 255 { rwins := [⟨4, 1, 1, 250, 2⟩], win := some ⟨0, 0, 9, 1, 3, [], 0, 0, 0, false, false, false⟩, seq := 64 } with tick := 4 }
    : State), 255, ⟨4, 1, 1, 250, 2⟩, [], wf_of _ (by decide +kernel), (by decide +kernel), (by decide +kernel), (by decide +kernel),
    (by decide +kernel), (by decide +kernel), (by decide +kernel)⟩

theorem wit_ReadoutWindows_1 :
    ∃ (s : State) (r : Fin 256) (q : RwinReq) (l : List RwinReq), s.Wf ∧ (s.dscCh r).rwins = q :: l ∧ q.tick ≤ s.tick ∧ q.kset < 2 ∧
      (∀ f ∈ (s.dscCh r).form, s.tick < f.1) ∧ s.bit ⟨Reg.DSC_CH_SWAP r, q.kset, 1⟩ = true ∧
      (sget (fun _ => 0) s.wrSet (Reg.DSC_CH_SWAP r) = 0) ∧ (sget (fun _ => 0) s.wrOne (Reg.DSC_CH_SWAP r) = 0) ∧
      s.fld (Fld.DSC_STG_K_CFG_CLS_EN r q.kset) ∈ [3, 5, 6, 7, 9, 10, 11, 12, 13, 14, 15] :=
  ⟨({ (st [(Fld.DSC_CH_SWAP_SET1 255, 1), (Fld.DSC_STG_K_CFG_CLS_EN 255 1, 3), (Fld.DSC_STG_ES_ES_THRESH 255 1, 40), (Fld.DSC_STG_C_Q_VALUE 255 1 3, 99)]).setDscCh 255 { rwins := [⟨4, 1, 1, 250, 2⟩] } with tick := 4 }
    : State), 255, ⟨4, 1, 1, 250, 2⟩, [], wf_of _ (by decide +kernel), (by decide +kernel), (by decide +kernel), (by decide +kernel),
    (by decide +kernel), (by decide +kernel), (by decide +kernel), (by decide +kernel), (by decide +kernel)⟩

theorem wit_ReadoutWindows_2 :
    ∃ (s : State) (r : Fin 256) (q : RwinReq) (l : List RwinReq), s.Wf ∧ (s.dscCh r).rwins = q :: l ∧ q.tick ≤ s.tick ∧ q.kset < 2 ∧
      (∀ f ∈ (s.dscCh r).form, s.tick < f.1) ∧ s.bit ⟨Reg.DSC_CH_SWAP r, q.kset, 1⟩ = true ∧
      (sget (fun _ => 0) s.wrSet (Reg.DSC_CH_SWAP r) = 0) ∧ (sget (fun _ => 0) s.wrOne (Reg.DSC_CH_SWAP r) = 0) ∧
      s.fld (Fld.DSC_STG_K_CFG_CLS_EN r q.kset) ∈ [0, 1, 2, 4, 8] :=
  ⟨({ (st [(Fld.DSC_CH_SWAP_SET1 255, 1), (Fld.DSC_STG_K_CFG_CLS_EN 255 1, 8), (Fld.DSC_STG_ES_ES_THRESH 255 1, 40)]).setDscCh 255 { rwins := [⟨4, 1, 1, 250, 2⟩] } with tick := 4 }
    : State), 255, ⟨4, 1, 1, 250, 2⟩, [], wf_of _ (by decide +kernel), (by decide +kernel), (by decide +kernel), (by decide +kernel),
    (by decide +kernel), (by decide +kernel), (by decide +kernel), (by decide +kernel), (by decide +kernel)⟩

theorem wit_Decisions_0 :
    ∃ (s : State) (r : Fin 256) (w : Window) (v : Eval), s.Wf ∧ (s.dscCh r).win = some w ∧ (s.dscCh r).due = some v ∧
      (s.dscCh r).form = none ∧ v.void = true :=
  ⟨(rel.setDscCh 255
    { win := some { kset := 1, es := 1, len := 250, g0 := 0, seq := 3, set := [0, 0x030000FA, 0, 0x0428] }, due := some ⟨1, 0, 0, true, false, true⟩ }),
    255, { kset := 1, es := 1, len := 250, g0 := 0, seq := 3, set := [0, 0x030000FA, 0, 0x0428] }, ⟨1, 0, 0, true, false, true⟩, wf_of
    _ (by decide +kernel), (by decide +kernel), (by decide +kernel), (by decide +kernel), (by decide +kernel)⟩

theorem wit_Decisions_1 :
    ∃ (s : State) (r : Fin 256) (w : Window) (v : Eval), s.Wf ∧ (s.dscCh r).win = some w ∧ (s.dscCh r).due = some v ∧
      (s.dscCh r).form = none ∧ v.void = false ∧ v.e = (w.len + 7) / 8 :=
  ⟨(rel.setDscCh 255
    { win := some { kset := 1, es := 1, len := 250, g0 := 0, seq := 3, set := [0, 0x030000FA, 0, 0x0428] }, due := some ⟨32, 0, 0, true, false, false⟩ }),
    255, { kset := 1, es := 1, len := 250, g0 := 0, seq := 3, set := [0, 0x030000FA, 0, 0x0428] }, ⟨32, 0, 0, true, false, false⟩,
    wf_of _ (by decide +kernel), (by decide +kernel), (by decide +kernel), (by decide +kernel), (by decide +kernel),
    (by decide +kernel)⟩

theorem wit_Decisions_2 :
    ∃ (s : State) (r : Fin 256) (w : Window) (v : Eval), s.Wf ∧ (s.dscCh r).win = some w ∧ (s.dscCh r).due = some v ∧
      (s.dscCh r).form = none ∧ v.void = false ∧ v.e ≠ (w.len + 7) / 8 ∧ w.es = 1 ∧ max 1 ((w.word 12).toNat / 256 % 512) ≤ v.e ∧
      (w.word 12).toNat % 256 ≤ (classify w v s).1.conf :=
  ⟨(rel.setDscCh 255
    { win := some { kset := 1, es := 1, len := 250, g0 := 0, seq := 3, set := [0, 0x030000FA, 0, 0x0400] }, due := some ⟨4, 0, 0, false, false, false⟩ }),
    255, { kset := 1, es := 1, len := 250, g0 := 0, seq := 3, set := [0, 0x030000FA, 0, 0x0400] }, ⟨4, 0, 0, false, false, false⟩,
    wf_of _ (by decide +kernel), (by decide +kernel), (by decide +kernel), (by decide +kernel), (by decide +kernel),
    (by decide +kernel), (by decide +kernel), (by decide +kernel), (by decide +kernel)⟩

theorem wit_Decisions_3 :
    ∃ (s : State) (r : Fin 256) (w : Window) (v : Eval), s.Wf ∧ (s.dscCh r).win = some w ∧ (s.dscCh r).due = some v ∧
      (s.dscCh r).form = none ∧ v.void = false ∧ v.e ≠ (w.len + 7) / 8 ∧ (w.es ≠ 1 ∨ v.e < max 1 ((w.word 12).toNat / 256 % 512)) :=
  ⟨(rel.setDscCh 255
    { win := some { kset := 1, es := 1, len := 250, g0 := 0, seq := 3, set := [0, 0x030000FA, 0, 0x0428] }, due := some ⟨3, 0, 0, false, false, false⟩ }),
    255, { kset := 1, es := 1, len := 250, g0 := 0, seq := 3, set := [0, 0x030000FA, 0, 0x0428] }, ⟨3, 0, 0, false, false, false⟩,
    wf_of _ (by decide +kernel), (by decide +kernel), (by decide +kernel), (by decide +kernel), (by decide +kernel),
    (by decide +kernel), (by decide +kernel)⟩

theorem wit_Decisions_4 :
    ∃ (s : State) (r : Fin 256) (w : Window) (v : Eval), s.Wf ∧ (s.dscCh r).win = some w ∧ (s.dscCh r).due = some v ∧
      (s.dscCh r).form = none ∧ v.void = false ∧ v.e ≠ (w.len + 7) / 8 ∧ w.es = 1 ∧ max 1 ((w.word 12).toNat / 256 % 512) ≤ v.e ∧
      (classify w v s).1.conf < (w.word 12).toNat % 256 :=
  ⟨(rel.setDscCh 255
    { win := some { kset := 1, es := 1, len := 250, g0 := 0, seq := 3, set := [0, 0x030000FA, 0, 0x0428] }, due := some ⟨4, 0, 0, false, false, false⟩ }),
    255, { kset := 1, es := 1, len := 250, g0 := 0, seq := 3, set := [0, 0x030000FA, 0, 0x0428] }, ⟨4, 0, 0, false, false, false⟩,
    wf_of _ (by decide +kernel), (by decide +kernel), (by decide +kernel), (by decide +kernel), (by decide +kernel),
    (by decide +kernel), (by decide +kernel), (by decide +kernel), (by decide +kernel)⟩

theorem wit_Decisions_5 :
    ∃ (s : State) (r : Fin 256) (x : Nat) (d : Decision), s.Wf ∧ (s.dscCh r).form = some (x, d) ∧ x ≤ s.tick :=
  ⟨((st [(Fld.GLB_MODE_STATUS_MODE, 5), (Fld.FAB_EV_CFG_PROD 1023, 0x17FD), (⟨Reg.FAB_EV_EN 31, 31, 1⟩, 1)]).setDscCh 255
    { form := some (0, ⟨0x86062905, 1, 2⟩) }), 255, 0, ⟨0x86062905, 1, 2⟩, wf_of _ (by decide +kernel), (by decide +kernel),
    (by decide +kernel)⟩

theorem wit_Decisions_6 :
    ∃ (s : State) (r : Fin 256) (ns : Nat) (d : Word) (vI : Word) (vQ : Word), s.Wf ∧
      s.later = [(s.tick + 1, .loadDecision r ns d vI vQ)] :=
  ⟨({ rel.setDscCh 255 { taken := some 4 } with tick := 5, later := [(6, .loadDecision 255 2000254 0x86062905 1 2)] } : State), 255,
    2000254, 0x86062905, 1, 2, wf_of _ (by decide +kernel), (by decide +kernel)⟩

theorem wit_Decisions_7 :
    ∃ (s : State) (r : Fin 256) (k : Nat) (x : Word) (w : Window), s.Wf ∧ s.later = [(s.tick + 1, .sampleArrives r k x)] ∧
      (s.dscCh r).win = some w ∧ k = w.g0 + w.n ∧ w.n < w.len ∧ w.len ≤ 2048 ∧ x.getLsbD 0 = false :=
  ⟨({ (rel.putSramBytes (0x3400000 + 28) [1, 0, 2, 0]).setDscCh 255 { win := some { kset := 0, es := 0, len := 250, g0 := 5, seq := 0, set := [0], n := 7, zI := 3 } } with later := [(1, .sampleArrives 255 12 0x00060002)] }
    : State), 255, 12, 0x00060002, { kset := 0, es := 0, len := 250, g0 := 5, seq := 0, set := [0], n := 7, zI := 3 }, wf_of _
    (by decide +kernel), (by decide +kernel), (by decide +kernel), (by decide +kernel), (by decide +kernel), (by decide +kernel),
    (by decide +kernel)⟩

theorem wit_StrandEvents_0 :
    ∃ (s : State) (k : Fin 1024) (f : Nat × Nat) (c : Nat) (n : Fin 64) (i : Fin 16), s.Wf ∧ ((s.fab.flight.find? fun f =>
      decide (f.1 ≤ s.tick) && f.2 == k.val) = some f) ∧ s.fld (Fld.FAB_EV_CFG_CONS k) = c ∧ s.reached c = false ∧
      c = 0x2000 + 16 * n.val + i.val ∧ (∀ v : Fin 8, s.bit (Fld.SPN_VEC_EN n v) = true → s.fld (Fld.SPN_VEC_SRC n v) ≠ i.val) :=
  ⟨({ (st [(Fld.GLB_MODE_STATUS_MODE, 5), (Fld.FAB_EV_CFG_CONS 1023, 0x23FF)]) with fab := { rel.fab with flight := [(0, 1023)] } } :
    State), 1023, (0, 1023), 0x23FF, 63, 15, wf_of _ (by decide +kernel), (by decide +kernel), (by decide +kernel),
    (by decide +kernel), (by decide +kernel), (by decide +kernel)⟩

theorem wit_StrandEvents_1 :
    ∃ (s : State) (k : Fin 1024) (f : Nat × Nat) (c : Nat) (n : Fin 64) (i : Fin 16) (v : Fin 8), s.Wf ∧ ((s.fab.flight.find? fun f =>
      decide (f.1 ≤ s.tick) && f.2 == k.val) = some f) ∧ s.fld (Fld.FAB_EV_CFG_CONS k) = c ∧ s.reached c = false ∧
      c = 0x2000 + 16 * n.val + i.val ∧ (∀ u : Fin 8, (s.bit (Fld.SPN_VEC_EN n u) = true ∧
      s.fld (Fld.SPN_VEC_SRC n u) = i.val) ↔ u = v) :=
  ⟨({ (st [(Fld.GLB_MODE_STATUS_MODE, 5), (Fld.FAB_EV_CFG_CONS 1023, 0x23FF), (Fld.SPN_VEC_EN 63 7, 1), (Fld.SPN_VEC_SRC 63 7, 15)]) with fab := { rel.fab with flight := [(0, 1023)] } }
    : State), 1023, (0, 1023), 0x23FF, 63, 15, 7, wf_of _ (by decide +kernel), (by decide +kernel), (by decide +kernel),
    (by decide +kernel), (by decide +kernel), (by decide +kernel)⟩

theorem wit_StrandEvents_2 :
    ∃ (s : State) (k : Fin 1024) (f : Nat × Nat) (c : Nat) (m : Fin 16) (b : Fin 16), s.Wf ∧ ((s.fab.flight.find? fun f =>
      decide (f.1 ≤ s.tick) && f.2 == k.val) = some f) ∧ s.fld (Fld.FAB_EV_CFG_CONS k) = c ∧ s.reached c = false ∧
      c = 0x3000 + 16 * m.val + b.val :=
  ⟨({ (st [(Fld.GLB_MODE_STATUS_MODE, 5), (Fld.FAB_EV_CFG_CONS 1023, 0x30FF), (Fld.FAB_CT_STATE_SYND 15, 0x8001)]) with fab := { rel.fab with flight := [(0, 1023)] } }
    : State), 1023, (0, 1023), 0x30FF, 15, 15, wf_of _ (by decide +kernel), (by decide +kernel), (by decide +kernel),
    (by decide +kernel), (by decide +kernel)⟩

theorem wit_StrandEvents_3 :
    ∃ (s : State) (k : Fin 1024) (f : Nat × Nat) (c : Nat), s.Wf ∧ ((s.fab.flight.find? fun f =>
      decide (f.1 ≤ s.tick) && f.2 == k.val) = some f) ∧ s.fld (Fld.FAB_EV_CFG_CONS k) = c ∧ s.reached c = false ∧
      (c / 0x1000 = 1 ∨ c / 0x1000 = 4 ∨ c / 0x1000 = 5 ∨ c / 0x1000 = 6) :=
  ⟨({ (st [(Fld.GLB_MODE_STATUS_MODE, 5), (Fld.FAB_EV_CFG_CONS 1023, 0x400F)]) with fab := { rel.fab with flight := [(0, 1023)] } } :
    State), 1023, (0, 1023), 0x400F, wf_of _ (by decide +kernel), (by decide +kernel), (by decide +kernel), (by decide +kernel),
    (by decide +kernel)⟩

theorem wit_StrandEvents_4 :
    ∃ (s : State) (k : Fin 1024) (f : Nat × Nat) (m : Fin 16) (b : Fin 16), s.Wf ∧ ((s.fab.flight.find? fun f =>
      decide (f.1 ≤ s.tick) && f.2 == k.val) = some f) ∧ s.fld (Fld.FAB_EV_CFG_CONS k) = 0x3000 + 16 * m.val + b.val ∧
      s.reached (0x3000 + 16 * m.val + b.val) = true ∧ (s.fab.seen.filter (· == 0x3000 + 16 * m.val + b.val)).length = 1 :=
  ⟨({ (st [(Fld.FAB_EV_CFG_CONS 1023, 0x30FF)]) with fab := { rel.fab with flight := [(0, 1023)], visTick := 0, seen := [0x30FF], vis := [0x30FF] } }
    : State), 1023, (0, 1023), 15, 15, wf_of _ (by decide +kernel), (by decide +kernel), (by decide +kernel), (by decide +kernel),
    (by decide +kernel)⟩

theorem wit_StrandEvents_5 :
    ∃ (s : State) (k : Fin 1024) (f : Nat × Nat) (c : Nat) (g : Fin 64), s.Wf ∧ ((s.fab.flight.find? fun f =>
      decide (f.1 ≤ s.tick) && f.2 == k.val) = some f) ∧ s.fld (Fld.FAB_EV_CFG_CONS k) = c ∧ s.reached c = false ∧
      c / 2 = 0x3000 + g.val ∧ (s.reached (if c % 2 = 0 then c + 1 else c - 1) = true) :=
  ⟨({ (st [(Fld.FAB_EV_CFG_CONS 1023, 0x607F)]) with fab := { rel.fab with flight := [(0, 1023)], visTick := 0, seen := [0x607E] } } :
    State), 1023, (0, 1023), 0x607F, 63, wf_of _ (by decide +kernel), (by decide +kernel), (by decide +kernel), (by decide +kernel),
    (by decide +kernel), (by decide +kernel)⟩

theorem wit_StrandEvents_6 :
    ∃ (s : State) (k : Fin 1024) (path : Path) (v : Word), s.Wf ∧ s.accepts path Reg.FAB_FORCE = true ∧ s.debugControl = true ∧
      (s.mode = 5 ∨ s.mode = 6) ∧ s.strandOn (v.toNat % 1024) = true :=
  ⟨st [(Fld.GLB_MODE_STATUS_MODE, 6), (Fld.SEC_STATUS_LEVEL, 2), (⟨Reg.FAB_EV_EN 31, 31, 1⟩, 1)], 0, .bar0, 1023, wf_of _
    (by decide +kernel), (by decide +kernel), (by decide +kernel), (by decide +kernel), (by decide +kernel)⟩

theorem wit_StrandEvents_7 :
    ∃ (s : State) (k : Fin 1024) (path : Path) (v : Word), s.Wf ∧ s.accepts path Reg.FAB_FORCE = true ∧
      (s.debugControl = false ∨ s.mode < 5) :=
  ⟨rel, 0, .bar0, 1023, wf_of _ (by decide +kernel), (by decide +kernel), (by decide +kernel)⟩

theorem wit_PlyCells_0 :
    ∃ (s : State) (n : Fin 512), s.Wf ∧ s.fabricOn = true ∧ ((sget (fun _ => {}) s.fab.ply n).last ≠ some s.tick) ∧
      s.bit (Fld.FAB_PLY_CFG_AUTO_CLR n) = false ∧ (∀ i : Fin 4, s.plyMode n i = 3 → s.visible (0x1000 + 4 * n + i) = false) ∧
      s.bit (Fld.FAB_PLY_CFG_FB n) = false :=
  ⟨({ (st [(Fld.GLB_MODE_STATUS_MODE, 5), (Fld.FAB_PLY_CFG_TT 511, 0x8000), (⟨Reg.FAB_PLY_CFG 511, 16, 8⟩, 0x55), (Fld.FAB_PLY_STATUS_X 511, 7)]) with fab := { rel.fab with visTick := 0, seen := [0x17FF], vis := [0x17FF] } }
    : State), 511, wf_of _ (by decide +kernel), (by decide +kernel), (by decide +kernel), (by decide +kernel), (by decide +kernel),
    (by decide +kernel)⟩

theorem wit_PlyCells_1 :
    ∃ (s : State) (n : Fin 512), s.Wf ∧ s.fabricOn = true ∧ ((sget (fun _ => {}) s.fab.ply n).last ≠ some s.tick) ∧
      s.bit (Fld.FAB_PLY_CFG_FF_EN n) = false ∧ s.fld (Fld.FAB_PLY_FILT_FILT n) = 0 ∧ s.fld (Fld.FAB_PLY_CFG_TT n) = 0xFFFF ∧
      (s.fld (Fld.FAB_PLY_CFG_OUT_MODE n) = 0 ∨ (s.fld (Fld.FAB_PLY_CFG_OUT_MODE n) = 1 ∧ s.bit (Fld.FAB_PLY_STATUS_F n) = false)) :=
  ⟨st [(Fld.GLB_MODE_STATUS_MODE, 5), (Fld.FAB_PLY_CFG_TT 511, 0xFFFF), (Fld.FAB_PLY_CFG_OUT_MODE 511, 1),
    (⟨Reg.FAB_EV_EN 31, 31, 1⟩, 1), (Fld.FAB_EV_CFG_PROD 1023, 0x21FF)], 511, wf_of _ (by decide +kernel), (by decide +kernel),
    (by decide +kernel), (by decide +kernel), (by decide +kernel), (by decide +kernel), (by decide +kernel)⟩

theorem wit_PlyCells_2 :
    ∃ (s : State) (n : Fin 512), s.Wf ∧ s.fabricOn = true ∧ ((sget (fun _ => {}) s.fab.ply n).last ≠ some s.tick) ∧
      s.bit (Fld.FAB_PLY_CFG_FB n) = false ∧ (∃ i : Fin 4, s.plyMode n i = 3 ∧ s.visible (0x1000 + 4 * n + i) = true) :=
  ⟨({ (st [(Fld.GLB_MODE_STATUS_MODE, 5), (⟨Reg.FAB_PLY_CFG 511, 16, 8⟩, 0xD9), (Fld.FAB_PLY_STATUS_X 511, 7)]) with fab := { rel.fab with visTick := 0, seen := [0x17FF], vis := [0x17FF] } }
    : State), 511, wf_of _ (by decide +kernel), (by decide +kernel), (by decide +kernel), (by decide +kernel), (by decide +kernel)⟩

theorem wit_PlyCells_3 :
    ∃ (s : State) (n : Fin 512) (i : Fin 4), s.Wf ∧ s.fabricOn = true ∧ ((sget (fun _ => {}) s.fab.ply n).last ≠ some s.tick) ∧
      s.bit (Fld.FAB_PLY_CFG_AUTO_CLR n) = false ∧ (∀ i : Fin 4, s.plyMode n i ≠ 3) ∧ s.plyMode n i = 1 ∧
      s.visible (0x1000 + 4 * n + i) = true ∧ bitOf (s.fld (Fld.FAB_PLY_STATUS_X n)) i = true :=
  ⟨({ (st [(Fld.GLB_MODE_STATUS_MODE, 5), (⟨Reg.FAB_PLY_CFG 511, 16, 8⟩, 0x55), (Fld.FAB_PLY_STATUS_X 511, 8)]) with fab := { rel.fab with visTick := 0, seen := [0x17FF], vis := [0x17FF] } }
    : State), 511, 3, wf_of _ (by decide +kernel), (by decide +kernel), (by decide +kernel), (by decide +kernel), (by decide +kernel),
    (by decide +kernel), (by decide +kernel), (by decide +kernel)⟩

theorem wit_PlyCells_4 :
    ∃ (s : State) (n : Fin 512), s.Wf ∧ s.fabricOn = true ∧ ((sget (fun _ => {}) s.fab.ply n).last ≠ some s.tick) :=
  ⟨({ (st [(Fld.GLB_MODE_STATUS_MODE, 5), (Fld.FAB_PLY_FILT_FILT 511, 3), (Fld.FAB_PLY_CFG_OUT_MODE 511, 2), (Fld.FAB_PLY_STATUS_F 511, 1), (⟨Reg.FAB_EV_EN 31, 31, 1⟩, 1), (Fld.FAB_EV_CFG_PROD 1023, 0x21FF)]) with tick := 9, fab := { rel.fab with ply := [(511, ⟨false, 3, false, some 8⟩)] } }
    : State), 511, wf_of _ (by decide +kernel), (by decide +kernel), (by decide +kernel)⟩

theorem wit_TriggerInputs_0 :
    ∃ (s : State) (i : Fin 16) (level : Bool), s.Wf ∧ (s.trgIn i).ball ≠ level :=
  ⟨st [(Fld.GLB_MODE_STATUS_MODE, 5), (Fld.FAB_TRG_CFG_EN 15, 1)], 15, true, wf_of _ (by decide +kernel), (by decide +kernel)⟩

theorem wit_TriggerInputs_1 :
    ∃ (s : State) (i : Fin 16) (level : Bool), s.Wf ∧ (s.trgIn i).ball = level :=
  ⟨st [(Fld.GLB_MODE_STATUS_MODE, 5), (Fld.FAB_TRG_CFG_EN 15, 1)], 15, false, wf_of _ (by decide +kernel), (by decide +kernel)⟩

theorem wit_TriggerInputs_2 :
    ∃ (s : State) (i : Fin 16) (level : Bool), s.Wf ∧ s.later = [(s.tick + 1, .trgSample i level)] ∧
      s.bit (Fld.FAB_TRG_STATUS_LEVEL i) ≠ level ∧ s.bit (Fld.FAB_TRG_CFG_EN i) = true ∧ s.fld (Fld.FAB_TRG_CFG_MIN_PULSE i) ≠ 0 :=
  ⟨({ ((st [(Fld.GLB_MODE_STATUS_MODE, 5), (Fld.FAB_TRG_CFG_EN 15, 1), (Fld.FAB_TRG_CFG_MIN_PULSE 15, 5), (Fld.FAB_TRG_STATUS_GLITCH_CNT 15, 254)]).setTrgIn 15 { open_ := true }) with tick := 9, later := [(10, .trgSample 15 true)] }
    : State), 15, true, wf_of _ (by decide +kernel), (by decide +kernel), (by decide +kernel), (by decide +kernel),
    (by decide +kernel)⟩

theorem wit_TriggerInputs_3 :
    ∃ (s : State) (i : Fin 16) (level : Bool), s.Wf ∧ s.later = [(s.tick + 1, .trgSample i level)] ∧
      s.bit (Fld.FAB_TRG_STATUS_LEVEL i) ≠ level ∧ s.bit (Fld.FAB_TRG_CFG_EN i) = false :=
  ⟨({ ((st [(Fld.GLB_MODE_STATUS_MODE, 5), (Fld.FAB_TRG_CFG_EN 15, 1), (Fld.FAB_TRG_CFG_EN 15, 0)]).setTrgIn 15 { since := 3 }) with tick := 9, later := [(10, .trgSample 15 true)] }
    : State), 15, true, wf_of _ (by decide +kernel), (by decide +kernel), (by decide +kernel), (by decide +kernel)⟩

theorem wit_TriggerInputs_4 :
    ∃ (s : State) (i : Fin 16) (level : Bool), s.Wf ∧ s.later = [(s.tick + 1, .trgSample i level)] ∧
      s.bit (Fld.FAB_TRG_STATUS_LEVEL i) ≠ level ∧ s.fabricOn = true ∧ s.bit (Fld.FAB_TRG_CFG_EN i) = true ∧
      s.fld (Fld.FAB_TRG_CFG_MIN_PULSE i) = 0 ∧ (s.fld (Fld.FAB_TRG_CFG_EDGE i) = 2 ∨ s.fld (Fld.FAB_TRG_CFG_EDGE i) = b2n (!level)) ∧
      (∀ x ∈ (s.trgIn i).lastEv, x + s.fld (Fld.FAB_TRG_CFG_RATE_LIM i) ≤ s.tick + 1) ∧ s.bit (Fld.FAB_TRG_STATUS_STUCK i) = false ∧
      (s.trgIn i).unstuck ≠ some (s.tick + 1) :=
  ⟨({ ((st [(Fld.GLB_MODE_STATUS_MODE, 5), (Fld.FAB_TRG_CFG_EN 15, 1), (Fld.FAB_TRG_CFG_RATE_LIM 15, 3), (⟨Reg.FAB_EV_EN 31, 31, 1⟩, 1), (Fld.FAB_EV_CFG_PROD 1023, 0x600F)]).setTrgIn 15 { lastEv := some 7 }) with tick := 9, later := [(10, .trgSample 15 true)] }
    : State), 15, true, wf_of _ (by decide +kernel), (by decide +kernel), (by decide +kernel), (by decide +kernel),
    (by decide +kernel), (by decide +kernel), (by decide +kernel), (by decide +kernel), (by decide +kernel), (by decide +kernel)⟩

theorem wit_TriggerInputs_5 :
    ∃ (s : State) (i : Fin 16) (x : Nat), s.Wf ∧ s.later = [(s.tick + 1, .trgQualify i x)] ∧ (s.trgIn i).open_ = true ∧
      (s.trgIn i).since = x ∧ s.fabricOn = true ∧
      (s.fld (Fld.FAB_TRG_CFG_EDGE i) = 2 ∨ s.fld (Fld.FAB_TRG_CFG_EDGE i) = b2n (!s.bit (Fld.FAB_TRG_STATUS_LEVEL i))) ∧
      (∀ y ∈ (s.trgIn i).lastEv, y + s.fld (Fld.FAB_TRG_CFG_RATE_LIM i) ≤ s.tick + 1) ∧ s.bit (Fld.FAB_TRG_STATUS_STUCK i) = false ∧
      (s.trgIn i).unstuck ≠ some (s.tick + 1) :=
  ⟨({ ((st [(Fld.GLB_MODE_STATUS_MODE, 5), (Fld.FAB_TRG_CFG_EN 15, 1), (Fld.FAB_TRG_CFG_RATE_LIM 15, 3), (Fld.FAB_TRG_STATUS_LEVEL 15, 1), (⟨Reg.FAB_EV_EN 31, 31, 1⟩, 1), (Fld.FAB_EV_CFG_PROD 1023, 0x600F)]).setTrgIn 15 { lastEv := some 7, open_ := true, since := 4 }) with tick := 9, later := [(10, .trgQualify 15 4)] }
    : State), 15, 4, wf_of _ (by decide +kernel), (by decide +kernel), (by decide +kernel), (by decide +kernel), (by decide +kernel),
    (by decide +kernel), (by decide +kernel), (by decide +kernel), (by decide +kernel)⟩

theorem wit_TriggerInputs_6 :
    ∃ (s : State) (i : Fin 16) (x : Nat) (y : Nat), s.Wf ∧ s.later = [(s.tick + 1, .trgQualify i x)] ∧ (s.trgIn i).open_ = true ∧
      (s.trgIn i).since = x ∧ s.fabricOn = true ∧
      (s.fld (Fld.FAB_TRG_CFG_EDGE i) = 2 ∨ s.fld (Fld.FAB_TRG_CFG_EDGE i) = b2n (!s.bit (Fld.FAB_TRG_STATUS_LEVEL i))) ∧
      (s.trgIn i).lastEv = some y ∧ s.tick + 1 < y + s.fld (Fld.FAB_TRG_CFG_RATE_LIM i) ∧ s.bit (Fld.FAB_TRG_STATUS_STUCK i) = false ∧
      (s.trgIn i).unstuck ≠ some (s.tick + 1) :=
  ⟨({ ((st [(Fld.GLB_MODE_STATUS_MODE, 5), (Fld.FAB_TRG_CFG_EN 15, 1), (Fld.FAB_TRG_CFG_RATE_LIM 15, 3), (Fld.FAB_TRG_STATUS_LEVEL 15, 1)]).setTrgIn 15 { lastEv := some 8, open_ := true, since := 4 }) with tick := 9, later := [(10, .trgQualify 15 4)] }
    : State), 15, 4, 8, wf_of _ (by decide +kernel), (by decide +kernel), (by decide +kernel), (by decide +kernel),
    (by decide +kernel), (by decide +kernel), (by decide +kernel), (by decide +kernel), (by decide +kernel), (by decide +kernel)⟩

theorem wit_TriggerInputs_7 :
    ∃ (s : State) (i : Fin 16) (x : Nat), s.Wf ∧ s.later = [(s.tick + 1, .trgQualify i x)] ∧
      (s.bit (Fld.FAB_TRG_STATUS_STUCK i) = true ∨ (s.trgIn i).since ≠ x) :=
  ⟨({ ((st [(Fld.GLB_MODE_STATUS_MODE, 5), (Fld.FAB_TRG_CFG_EN 15, 1), (Fld.FAB_TRG_STATUS_STUCK 15, 1)]).setTrgIn 15 { open_ := true, since := 4 }) with tick := 9, later := [(10, .trgQualify 15 4)] }
    : State), 15, 4, wf_of _ (by decide +kernel), (by decide +kernel), (by decide +kernel)⟩

theorem wit_TriggerInputs_8 :
    ∃ (s : State) (i : Fin 16), s.Wf ∧ s.bit (Fld.FAB_TRG_CFG_EN i) = true ∧
      s.bit (Fld.FAB_TRG_STATUS_LEVEL i) = decide (s.fld (Fld.FAB_TRG_CFG_EDGE i) ≠ 1) ∧ s.fld (Fld.FAB_TRG_STUCK_TIMEOUT i) ≠ 0 ∧
      (s.trgIn i).told ≠ some (s.trgIn i).since ∧ (s.trgIn i).since + 500 * s.fld (Fld.FAB_TRG_STUCK_TIMEOUT i) ≤ s.tick + 1 :=
  ⟨({ (st [(Fld.GLB_MODE_STATUS_MODE, 5), (Fld.FAB_TRG_CFG_EN 15, 1), (Fld.FAB_TRG_STATUS_LEVEL 15, 1), (Fld.FAB_TRG_STUCK_TIMEOUT 15, 1), (Fld.FAB_TRG_STATUS_STUCK 15, 1)]) with tick := 499 }
    : State), 15, wf_of _ (by decide +kernel), (by decide +kernel), (by decide +kernel), (by decide +kernel), (by decide +kernel),
    (by decide +kernel)⟩

theorem wit_TriggerInputs_9 :
    ∃ (s : State) (i : Fin 16), s.Wf ∧ (s.trgIn i).told = some (s.trgIn i).since :=
  ⟨({ (st [(Fld.GLB_MODE_STATUS_MODE, 5), (Fld.FAB_TRG_CFG_EN 15, 1), (Fld.FAB_TRG_STATUS_LEVEL 15, 1), (Fld.FAB_TRG_STUCK_TIMEOUT 15, 1)]).setTrgIn 15 { told := some 0 } with tick := 499 }
    : State), 15, wf_of _ (by decide +kernel), (by decide +kernel)⟩

theorem wit_TriggerInputs_10 :
    ∃ (s : State) (i : Fin 16), s.Wf ∧ s.bit (Fld.FAB_TRG_STATUS_STUCK i) = true ∧
      s.bit (Fld.FAB_TRG_STATUS_LEVEL i) = decide (s.fld (Fld.FAB_TRG_CFG_EDGE i) = 1) ∧
      max (s.trgIn i).since (s.trgIn i).stuckFrom + s.fld (Fld.FAB_TRG_CFG_MIN_PULSE i) ≤ s.tick :=
  ⟨({ (st [(Fld.GLB_MODE_STATUS_MODE, 5), (Fld.FAB_TRG_CFG_EN 15, 1), (Fld.FAB_TRG_STATUS_STUCK 15, 1), (Fld.FAB_TRG_CFG_MIN_PULSE 15, 255)]) with tick := 255 }
    : State), 15, wf_of _ (by decide +kernel), (by decide +kernel), (by decide +kernel), (by decide +kernel)⟩

theorem wit_TriggerInputs_11 :
    ∃ (s : State) (i : Fin 16), s.Wf ∧ s.bit (Fld.FAB_TRG_CFG_EN i) = true ∧ (s.trgIn i).open_ = true ∧
      s.fld (Fld.FAB_TRG_CFG_MIN_PULSE i) ≠ 0 :=
  ⟨({ (st [(Fld.GLB_MODE_STATUS_MODE, 5), (Fld.FAB_TRG_CFG_EN 15, 1), (Fld.FAB_TRG_CFG_MIN_PULSE 15, 4), (Fld.FAB_TRG_STATUS_GLITCH_CNT 15, 255)]).setTrgIn 15 { open_ := true, since := 7 } with tick := 9 }
    : State), 15, wf_of _ (by decide +kernel), (by decide +kernel), (by decide +kernel), (by decide +kernel)⟩

theorem wit_TablesAndGroups_0 :
    ∃ (s : State) (x : Fin 16), s.Wf ∧ s.visible (0x4000 + x) = true ∧ s.bit (Fld.FAB_CT_CFG_EN x) = true ∧
      (∀ l ∈ s.lookups x, l.1 + 6 ≤ s.tick) :=
  ⟨(let b := (st [(Fld.FAB_CT_CFG_EN 15, 1), (Fld.FAB_CT_STATE_SYND 15, 5)]);
    { b with fab := { b.fab with visTick := 0, seen := [0x400F], vis := [0x400F] } } : State), 15, wf_of _ (by decide +kernel),
    (by decide +kernel), (by decide +kernel), (by decide +kernel)⟩

theorem wit_TablesAndGroups_1 :
    ∃ (s : State) (x : Fin 16), s.Wf ∧ s.visible (0x4000 + x) = true ∧ s.bit (Fld.FAB_CT_CFG_EN x) = true ∧
      (∃ l ∈ s.lookups x, s.tick < l.1 + 6) :=
  ⟨((let b := (st [(Fld.FAB_CT_CFG_EN 15, 1), (Fld.FAB_CT_STATE_SYND 15, 5)]);
    { b with fab := { b.fab with visTick := 0, seen := [0x400F], vis := [0x400F] } } : State).setLookups 15 [(0, 7)]), 15, wf_of _
    (by decide +kernel), (by decide +kernel), (by decide +kernel), (by decide +kernel)⟩

theorem wit_TablesAndGroups_2 :
    ∃ (s : State) (x : Fin 16) (ecc : Ecc) (y : Nat) (a : Nat) (l : List (Nat × Nat)), s.Wf ∧ s.lookups x = (y, a) :: l ∧
      y + 6 ≤ s.tick ∧ a < 65536 ∧ s.fabricOn = true ∧ ecc ≠ .bad :=
  ⟨({ ((st [(Fld.GLB_MODE_STATUS_MODE, 5), (⟨Reg.FAB_EV_EN 31, 30, 2⟩, 3), (Fld.FAB_EV_CFG_PROD 1023, 0x400F), (Fld.FAB_EV_CFG_PROD 1022, 0x31FF)]).putSramBytes (0x3800000 + 0x40000 * 15 + 20) [0, 0, 0, 0x80]).setLookups 15 [(0, 5)] with tick := 6 }
    : State), 15, .corrected, 0, 5, [], wf_of _ (by decide +kernel), (by decide +kernel), (by decide +kernel), (by decide +kernel),
    (by decide +kernel), (by decide +kernel)⟩

theorem wit_TablesAndGroups_3 :
    ∃ (s : State) (x : Fin 16) (y : Nat) (a : Nat) (l : List (Nat × Nat)), s.Wf ∧ s.lookups x = (y, a) :: l ∧ y + 6 ≤ s.tick ∧
      a < 65536 :=
  ⟨({ (rel).setLookups 15 [(0, 5)] with tick := 6 } : State), 15, 0, 5, [], wf_of _ (by decide +kernel), (by decide +kernel),
    (by decide +kernel), (by decide +kernel)⟩

theorem wit_TablesAndGroups_4 :
    ∃ (s : State) (g : Fin 64) (b : Fin 16), s.Wf ∧ s.visible (0x5000 + 16 * g + b) = true ∧
      s.bit (Fld.FAB_GRP_STATUS_ENABLED g) = true :=
  ⟨(let b := (st [(Fld.FAB_GRP_STATUS_ENABLED 63, 1), (Fld.FAB_GRP_STATUS_PENDING 63, 0x8001)]);
    { b with fab := { b.fab with visTick := 0, seen := [0x53FF], vis := [0x53FF] } } : State), 63, 15, wf_of _ (by decide +kernel),
    (by decide +kernel), (by decide +kernel)⟩

theorem wit_TablesAndGroups_5 :
    ∃ (s : State) (g : Fin 64) (b : Fin 16), s.Wf ∧ s.visible (0x5000 + 16 * g + b) = true ∧
      s.bit (Fld.FAB_GRP_STATUS_ENABLED g) = false :=
  ⟨(let b := (rel); { b with fab := { b.fab with visTick := 0, seen := [0x53FF], vis := [0x53FF] } } : State), 63, 15, wf_of _
    (by decide +kernel), (by decide +kernel), (by decide +kernel)⟩

theorem wit_TablesAndGroups_6 :
    ∃ (s : State) (g : Fin 64), s.Wf ∧ s.visible (0x6000 + 2 * g) = true :=
  ⟨(let b := (rel); { b with fab := { b.fab with visTick := 0, seen := [0x607E], vis := [0x607E] } } : State), 63, wf_of _
    (by decide +kernel), (by decide +kernel)⟩

theorem wit_TablesAndGroups_7 :
    ∃ (s : State) (g : Fin 64), s.Wf ∧ s.visible (0x6000 + 2 * g + 1) = true :=
  ⟨(let b := (rel); { b with fab := { b.fab with visTick := 0, seen := [0x607F], vis := [0x607F] } } : State), 63, wf_of _
    (by decide +kernel), (by decide +kernel)⟩

theorem wit_TablesAndGroups_8 :
    ∃ (s : State) (g : Fin 64) (on : Bool), s.Wf ∧ s.later = [(s.tick + 1, .gate g on)] ∧ s.bit (Fld.FAB_GRP_STATUS_ENABLED g) ≠ on :=
  ⟨({ st [(Fld.FAB_GRP_STATUS_ENABLED 63, 1), (Fld.FAB_GRP_STATUS_PENDING 63, 0x8000)] with later := [(1, .gate 63 false)] } : State),
    63, false, wf_of _ (by decide +kernel), (by decide +kernel), (by decide +kernel)⟩

theorem wit_LinkTraining_0 :
    ∃ (s : State) (p : Fin 4), s.Wf ∧ s.twState p = 0 ∧ s.bit (Fld.CSC_TW_CFG_EN p) = true ∧ 3 ≤ s.mode :=
  ⟨(st [(Fld.CSC_TW_STATUS_STATE 3, 0), (Fld.CSC_TW_CFG_EN 3, 1), (Fld.GLB_MODE_STATUS_MODE, 3)]), 3, wf_of _ (by decide +kernel),
    (by decide +kernel), (by decide +kernel), (by decide +kernel)⟩

theorem wit_LinkTraining_1 :
    ∃ (s : State) (p : Fin 4), s.Wf ∧ (s.bit (Fld.CSC_TW_CFG_EN p) = false ∨ s.mode < 3) :=
  ⟨(st [(Fld.CSC_TW_STATUS_STATE 3, 0), (Fld.CSC_TW_CFG_EN 3, 1)]), 3, wf_of _ (by decide +kernel), (by decide +kernel)⟩

theorem wit_LinkTraining_2 :
    ∃ (s : State) (p : Fin 4), s.Wf ∧ s.twState p = 1 ∧ 3 ≤ s.mode ∧ s.tick ≤ (s.twist p).since + 50000 :=
  ⟨({ st [(Fld.CSC_TW_STATUS_STATE 3, 1), (Fld.CSC_TW_CFG_EN 3, 1), (Fld.GLB_MODE_STATUS_MODE, 3)] with tick := 50000 } : State), 3,
    wf_of _ (by decide +kernel), (by decide +kernel), (by decide +kernel), (by decide +kernel)⟩

theorem wit_LinkTraining_3 :
    ∃ (s : State) (p : Fin 4) (lanes : BitVec 4), s.Wf ∧ s.twState p = 2 ∧ 3 ≤ s.mode ∧ s.tick ≤ (s.twist p).since + 50000 ∧
      (lanes.getLsbD 0 = true ∧ lanes.getLsbD 1 = true) :=
  ⟨({ st [(Fld.CSC_TW_STATUS_STATE 3, 2), (Fld.CSC_TW_CFG_EN 3, 1), (Fld.GLB_MODE_STATUS_MODE, 3)] with tick := 50000 } : State), 3,
    11, wf_of _ (by decide +kernel), (by decide +kernel), (by decide +kernel), (by decide +kernel), (by decide +kernel)⟩

theorem wit_LinkTraining_4 :
    ∃ (s : State) (p : Fin 4), s.Wf ∧ (s.twState p = 1 ∨ s.twState p = 2) ∧ (s.twist p).since + 50000 ≤ s.tick :=
  ⟨({ st [(Fld.CSC_TW_STATUS_STATE 3, 2), (Fld.CSC_TW_CFG_EN 3, 1)] with tick := 50000 } : State), 3, wf_of _ (by decide +kernel),
    (by decide +kernel), (by decide +kernel)⟩

theorem wit_LinkTraining_5 :
    ∃ (s : State) (p : Fin 4) (id : BitVec 6) (role : BitVec 2) (depth : BitVec 6), s.Wf ∧ s.twState p = 3 ∧ 3 ≤ s.mode ∧
      s.fld (Fld.CSC_TW_CFG_NEIGH_ID p) = id.toNat ∧ ((role = 1 ∧ depth = 0) ∨ (role = 2 ∧ depth ≠ 0)) ∧ (s.role = 1 → role = 2) ∧
      (s.isUp p = true → depth.toNat + 1 = s.fld Fld.CSC_CFG_DEPTH) :=
  ⟨(st [(Fld.CSC_TW_STATUS_STATE 3, 3), (Fld.CSC_TW_CFG_EN 3, 1), (Fld.GLB_MODE_STATUS_MODE, 3), (Fld.CSC_TW_CFG_NEIGH_ID 3, 63),
    (Fld.CSC_CFG_ROLE, 2), (Fld.CSC_CFG_DEPTH, 1), (Fld.CSC_DIM_UP_PORT, 3)]), 3, 63, 1, 0, wf_of _ (by decide +kernel),
    (by decide +kernel), (by decide +kernel), (by decide +kernel), (by decide +kernel), (by decide +kernel), (by decide +kernel)⟩

theorem wit_LinkTraining_6 :
    ∃ (s : State) (p : Fin 4) (id : BitVec 6) (role : BitVec 2) (depth : BitVec 6), s.Wf ∧ s.twState p = 3 ∧ 3 ≤ s.mode ∧
      (s.role ≠ 1 ∨ role ≠ 1) ∧ (s.fld (Fld.CSC_TW_CFG_NEIGH_ID p) ≠ id.toNat ∨ (s.isUp p = true ∧
      depth.toNat + 1 ≠ s.fld Fld.CSC_CFG_DEPTH) ∨ ¬((role = 1 ∧ depth = 0) ∨ (role = 2 ∧ depth ≠ 0))) :=
  ⟨(st [(Fld.CSC_TW_STATUS_STATE 3, 3), (Fld.CSC_TW_CFG_EN 3, 1), (Fld.GLB_MODE_STATUS_MODE, 3), (Fld.CSC_TW_CFG_NEIGH_ID 3, 63),
    (Fld.CSC_CFG_ROLE, 2), (Fld.CSC_CFG_DEPTH, 1), (Fld.CSC_DIM_UP_PORT, 3)]), 3, 63, 2, 2, wf_of _ (by decide +kernel),
    (by decide +kernel), (by decide +kernel), (by decide +kernel), (by decide +kernel)⟩

theorem wit_LinkTraining_7 :
    ∃ (s : State) (p : Fin 4) (id : BitVec 6) (role : BitVec 2) (depth : BitVec 6), s.Wf ∧ s.twState p = 3 ∧ 3 ≤ s.mode ∧
      (s.role = 1 ∧ role = 1) :=
  ⟨(st [(Fld.CSC_TW_STATUS_STATE 3, 3), (Fld.CSC_TW_CFG_EN 3, 1), (Fld.GLB_MODE_STATUS_MODE, 3), (Fld.CSC_CFG_ROLE, 1)]), 3, 63, 1, 0,
    wf_of _ (by decide +kernel), (by decide +kernel), (by decide +kernel), (by decide +kernel)⟩

theorem wit_LinkTraining_8 :
    ∃ (s : State) (p : Fin 4) (half0 : Nat) (half1 : Nat) (turn0 : Nat) (turn1 : Nat) (f0 : Nat), s.Wf ∧ s.twState p = 4 ∧
      3 ≤ s.mode ∧ (half0 : Int) + sgn 16 (s.fld (Fld.CSC_TW_CFG_ASYM p)) = f0 ∧ f0 ≤ 96000 ∧
      (half1 : Int) + sgn 16 (s.fld (Fld.CSC_TW_CFG_ASYM p)) ≤ 96000 :=
  ⟨(st [(Fld.CSC_TW_STATUS_STATE 3, 4), (Fld.CSC_TW_CFG_EN 3, 1), (Fld.GLB_MODE_STATUS_MODE, 3), (Fld.CSC_TW_CFG_ASYM 3, 0xFFFF)]), 3,
    96001, 96001, 7, 9, 96000, wf_of _ (by decide +kernel), (by decide +kernel), (by decide +kernel), (by decide +kernel),
    (by decide +kernel), (by decide +kernel)⟩

theorem wit_LinkTraining_9 :
    ∃ (s : State) (p : Fin 4) (half0 : Nat) (half1 : Nat) (turn0 : Nat) (turn1 : Nat), s.Wf ∧ s.twState p = 4 ∧ 3 ≤ s.mode ∧
      (96000 < (half0 : Int) + sgn 16 (s.fld (Fld.CSC_TW_CFG_ASYM p)) ∨ 96000 < (half1 : Int) + sgn 16
      (s.fld (Fld.CSC_TW_CFG_ASYM p))) :=
  ⟨(st [(Fld.CSC_TW_STATUS_STATE 3, 4), (Fld.CSC_TW_CFG_EN 3, 1), (Fld.GLB_MODE_STATUS_MODE, 3), (Fld.CSC_TW_CFG_ASYM 3, 1)]), 3, 5,
    96000, 7, 9, wf_of _ (by decide +kernel), (by decide +kernel), (by decide +kernel), (by decide +kernel)⟩

theorem wit_LinkTraining_10 :
    ∃ (s : State) (p : Fin 4) (gen : BitVec 8), s.Wf ∧ s.twState p = 5 ∧ s.fld Fld.CSC_STATUS_GEN = gen.toNat ∧
      (if s.role = 2 then s.bit Fld.CSC_STATUS_SYNC_ALIGNED = true else s.bit Fld.GLB_CLK_STATUS_SYNC_DONE = true) :=
  ⟨(st [(Fld.CSC_TW_STATUS_STATE 3, 5), (Fld.CSC_TW_CFG_EN 3, 1), (Fld.CSC_CFG_ROLE, 2), (Fld.CSC_STATUS_SYNC_ALIGNED, 1),
    (Fld.CSC_STATUS_GEN, 255)]), 3, 255, wf_of _ (by decide +kernel), (by decide +kernel), (by decide +kernel), (by decide +kernel)⟩

theorem wit_LinkTraining_11 :
    ∃ (s : State) (p : Fin 4) (gen : BitVec 8), s.Wf ∧ s.fld Fld.CSC_STATUS_GEN ≠ gen.toNat :=
  ⟨(st [(Fld.CSC_TW_STATUS_STATE 3, 5), (Fld.CSC_TW_CFG_EN 3, 1)]), 3, 255, wf_of _ (by decide +kernel), (by decide +kernel)⟩

theorem wit_LinkTraining_12 :
    ∃ (s : State) (p : Fin 4), s.Wf ∧ s.twState p = 7 ∧ (s.twist p).since + 500000 ≤ s.tick ∧ s.bit (Fld.CSC_TW_CFG_EN p) = true ∧
      3 ≤ s.mode :=
  ⟨({ st [(Fld.CSC_TW_STATUS_STATE 3, 7), (Fld.CSC_TW_CFG_EN 3, 1), (Fld.GLB_MODE_STATUS_MODE, 3), (Fld.CSC_TW_STATUS_FAIL 3, 5)] with tick := 500000 }
    : State), 3, wf_of _ (by decide +kernel), (by decide +kernel), (by decide +kernel), (by decide +kernel), (by decide +kernel)⟩

theorem wit_LinkTraining_13 :
    ∃ (s : State) (p : Fin 4) (path : Path) (v : Word), s.Wf ∧ s.accepts path (Reg.CSC_TW_CMD p) = true ∧ v.getLsbD 0 = true :=
  ⟨(st [(Fld.CSC_TW_STATUS_STATE 3, 6), (Fld.CSC_TW_CFG_EN 3, 1)]), 3, .bar0, 1, wf_of _ (by decide +kernel), (by decide +kernel),
    (by decide +kernel)⟩

theorem wit_LinkTraining_14 :
    ∃ (s : State) (p : Fin 4) (path : Path) (v : Word), s.Wf ∧ s.accepts path (Reg.CSC_TW_CMD p) = true ∧ v.getLsbD 0 = false :=
  ⟨(st [(Fld.CSC_TW_STATUS_STATE 3, 6), (Fld.CSC_TW_CFG_EN 3, 1)]), 3, .bar0, 0xFFFFFFFE, wf_of _ (by decide +kernel),
    (by decide +kernel), (by decide +kernel)⟩

theorem wit_LinkTraining_15 :
    ∃ (s : State) (p : Fin 4) (level : Bool), s.Wf :=
  ⟨rel, 3, true, wf_of _ (by decide +kernel)⟩

theorem wit_LaneZeroFrames_0 :
    ∃ (s : State) (p : Fin 4), s.Wf ∧ s.bit (Fld.CSC_TW_CFG_EN p) = true ∧ 1 ≤ s.mode ∧ s.role ≠ 0 ∧ s.twState p = 6 ∧
      (s.twist p).failing = true :=
  ⟨({ (st [(Fld.GLB_MODE_STATUS_MODE, 5), (Fld.CSC_TW_STATUS_STATE 3, 6), (Fld.CSC_TW_CFG_EN 3, 1), (Fld.CSC_CFG_ROLE, 1), (Fld.CSC_CFG_DEV_ID, 63)]).setTwist 3 { failing := true } with tick := 0 }
    : State), 3, wf_of _ (by decide +kernel), (by decide +kernel), (by decide +kernel), (by decide +kernel), (by decide +kernel),
    (by decide +kernel)⟩

theorem wit_LaneZeroFrames_1 :
    ∃ (s : State) (p : Fin 4) (f : Nat × Nat × Nat), s.Wf ∧ s.bit (Fld.CSC_TW_CFG_EN p) = true ∧ 1 ≤ s.mode ∧ s.role ≠ 0 ∧
      s.twState p = 6 ∧ (s.twist p).failing = false ∧ firstFwd s.tick (s.twist p).fwd = some f ∧ (s.twist p).rate = [] ∧
      (s.twist p).time = [] :=
  ⟨({ (st [(Fld.GLB_MODE_STATUS_MODE, 5), (Fld.CSC_TW_STATUS_STATE 3, 6), (Fld.CSC_TW_CFG_EN 3, 1), (Fld.CSC_CFG_ROLE, 1), (Fld.CSC_CFG_DEV_ID, 63)]).setTwist 3 { fwd := [(7, 2, 9), (6, 2, 5), (6, 1, 0x10004708)] } with tick := 8 }
    : State), 3, (6, 1, 0x10004708), wf_of _ (by decide +kernel), (by decide +kernel), (by decide +kernel), (by decide +kernel),
    (by decide +kernel), (by decide +kernel), (by decide +kernel), (by decide +kernel), (by decide +kernel)⟩

theorem wit_LaneZeroFrames_2 :
    ∃ (s : State) (p : Fin 4) (w : Nat), s.Wf ∧ s.bit (Fld.CSC_TW_CFG_EN p) = true ∧ 1 ≤ s.mode ∧ s.role ≠ 0 ∧ s.twState p = 6 ∧
      (s.twist p).failing = false ∧ firstFwd s.tick (s.twist p).fwd = none ∧ (s.twist p).sel = some w ∧
      (∀ g : Fin 64, s.exportReady p g = false) ∧ (s.twist p).rate = [] ∧ (s.twist p).time = [] :=
  ⟨({ (st [(Fld.GLB_MODE_STATUS_MODE, 5), (Fld.CSC_TW_STATUS_STATE 3, 6), (Fld.CSC_TW_CFG_EN 3, 1), (Fld.CSC_CFG_ROLE, 1), (Fld.CSC_CFG_DEV_ID, 63)]).setTwist 3 { sel := some 0x470008 } with tick := 8 }
    : State), 3, 0x470008, wf_of _ (by decide +kernel), (by decide +kernel), (by decide +kernel), (by decide +kernel),
    (by decide +kernel), (by decide +kernel), (by decide +kernel), (by decide +kernel), (by decide +kernel), (by decide +kernel),
    (by decide +kernel)⟩

theorem wit_LaneZeroFrames_3 :
    ∃ (s : State) (p : Fin 4) (f : Nat × Nat) (l : List (Nat × Nat)), s.Wf ∧ s.bit (Fld.CSC_TW_CFG_EN p) = true ∧ 1 ≤ s.mode ∧
      s.role ≠ 0 ∧ s.twState p = 6 ∧ (s.twist p).failing = false ∧ (s.twist p).rate = f :: l ∧
      (f.1 + 64 ≤ s.tick ∨ (firstFwd s.tick (s.twist p).fwd = none ∧ (s.twist p).sel = none ∧ (s.twist p).time = [])) :=
  ⟨({ (st [(Fld.GLB_MODE_STATUS_MODE, 5), (Fld.CSC_TW_STATUS_STATE 3, 6), (Fld.CSC_TW_CFG_EN 3, 1), (Fld.CSC_CFG_ROLE, 1), (Fld.CSC_CFG_DEV_ID, 63)]).setTwist 3 { rate := [(0, 99)], fwd := [(7, 2, 9)] } with tick := 64 }
    : State), 3, (0, 99), [], wf_of _ (by decide +kernel), (by decide +kernel), (by decide +kernel), (by decide +kernel),
    (by decide +kernel), (by decide +kernel), (by decide +kernel), (by decide +kernel)⟩

theorem wit_LaneZeroFrames_4 :
    ∃ (s : State) (p : Fin 4) (x : Nat) (l : List (Nat × TimeFrame)), s.Wf ∧ s.bit (Fld.CSC_TW_CFG_EN p) = true ∧ 1 ≤ s.mode ∧
      s.role ≠ 0 ∧ s.twState p = 6 ∧ (s.twist p).failing = false ∧ (s.twist p).rate = [] ∧ (s.twist p).time = (x, .timeLo) :: l ∧
      s.epochStart = false ∧ (x + 64 ≤ s.tick ∨ (firstFwd s.tick (s.twist p).fwd = none ∧ (s.twist p).sel = none)) :=
  ⟨({ (st [(Fld.GLB_MODE_STATUS_MODE, 5), (Fld.CSC_TW_STATUS_STATE 3, 6), (Fld.CSC_TW_CFG_EN 3, 1), (Fld.CSC_CFG_ROLE, 1), (Fld.CSC_CFG_DEV_ID, 63), (Fld.CSC_STATUS_GEN, 7), (Fld.CSC_CFG_MASTER_ID, 63)]).setTwist 3 { time := [(0, .timeLo), (0, .state)], stamp := 2 ^ 75 + 77, mark := 2 ^ 50 } with tick := 7, tln := { rel.tln with reel := 2 ^ 80 + 2 ^ 40 + 12345 } }
    : State), 3, 0, [(0, .state)], wf_of _ (by decide +kernel), (by decide +kernel), (by decide +kernel), (by decide +kernel),
    (by decide +kernel), (by decide +kernel), (by decide +kernel), (by decide +kernel), (by decide +kernel), (by decide +kernel)⟩

theorem wit_LaneZeroFrames_5 :
    ∃ (s : State) (p : Fin 4) (x : Nat) (l : List (Nat × TimeFrame)), s.Wf ∧ s.bit (Fld.CSC_TW_CFG_EN p) = true ∧ 1 ≤ s.mode ∧
      s.role ≠ 0 ∧ s.twState p = 6 ∧ (s.twist p).failing = false ∧ (s.twist p).rate = [] ∧ (s.twist p).time = (x, .timeHi) :: l ∧
      s.epochStart = false ∧ (x + 64 ≤ s.tick ∨ (firstFwd s.tick (s.twist p).fwd = none ∧ (s.twist p).sel = none)) :=
  ⟨({ (st [(Fld.GLB_MODE_STATUS_MODE, 5), (Fld.CSC_TW_STATUS_STATE 3, 6), (Fld.CSC_TW_CFG_EN 3, 1), (Fld.CSC_CFG_ROLE, 1), (Fld.CSC_CFG_DEV_ID, 63), (Fld.CSC_STATUS_GEN, 7), (Fld.CSC_CFG_MASTER_ID, 63)]).setTwist 3 { time := [(0, .timeHi), (0, .state)], stamp := 2 ^ 75 + 77, mark := 2 ^ 50 } with tick := 7, tln := { rel.tln with reel := 2 ^ 80 + 2 ^ 40 + 12345 } }
    : State), 3, 0, [(0, .state)], wf_of _ (by decide +kernel), (by decide +kernel), (by decide +kernel), (by decide +kernel),
    (by decide +kernel), (by decide +kernel), (by decide +kernel), (by decide +kernel), (by decide +kernel), (by decide +kernel)⟩

theorem wit_LaneZeroFrames_6 :
    ∃ (s : State) (p : Fin 4) (x : Nat) (l : List (Nat × TimeFrame)), s.Wf ∧ s.bit (Fld.CSC_TW_CFG_EN p) = true ∧ 1 ≤ s.mode ∧
      s.role ≠ 0 ∧ s.twState p = 6 ∧ (s.twist p).failing = false ∧ (s.twist p).rate = [] ∧ (s.twist p).time = (x, .state) :: l ∧
      s.epochStart = false ∧ (x + 64 ≤ s.tick ∨ (firstFwd s.tick (s.twist p).fwd = none ∧ (s.twist p).sel = none)) :=
  ⟨({ (st [(Fld.GLB_MODE_STATUS_MODE, 5), (Fld.CSC_TW_STATUS_STATE 3, 6), (Fld.CSC_TW_CFG_EN 3, 1), (Fld.CSC_CFG_ROLE, 1), (Fld.CSC_CFG_DEV_ID, 63), (Fld.CSC_STATUS_GEN, 7), (Fld.CSC_CFG_MASTER_ID, 63)]).setTwist 3 { time := [(0, .state), (0, .state)], stamp := 2 ^ 75 + 77, mark := 2 ^ 50 } with tick := 7, tln := { rel.tln with reel := 2 ^ 80 + 2 ^ 40 + 12345 } }
    : State), 3, 0, [(0, .state)], wf_of _ (by decide +kernel), (by decide +kernel), (by decide +kernel), (by decide +kernel),
    (by decide +kernel), (by decide +kernel), (by decide +kernel), (by decide +kernel), (by decide +kernel), (by decide +kernel)⟩

theorem wit_LaneZeroFrames_7 :
    ∃ (s : State) (p : Fin 4) (x : Nat) (l : List (Nat × TimeFrame)), s.Wf ∧ s.bit (Fld.CSC_TW_CFG_EN p) = true ∧ 1 ≤ s.mode ∧
      s.role ≠ 0 ∧ s.twState p = 6 ∧ (s.twist p).failing = false ∧ (s.twist p).rate = [] ∧ (s.twist p).time = (x, .syncLo) :: l ∧
      s.epochStart = true ∧ (x + 64 ≤ s.tick ∨ (firstFwd s.tick (s.twist p).fwd = none ∧ (s.twist p).sel = none)) :=
  ⟨({ (st [(Fld.GLB_MODE_STATUS_MODE, 5), (Fld.CSC_TW_STATUS_STATE 3, 6), (Fld.CSC_TW_CFG_EN 3, 1), (Fld.CSC_CFG_ROLE, 1), (Fld.CSC_CFG_DEV_ID, 63), (Fld.CSC_STATUS_GEN, 7), (Fld.CSC_CFG_MASTER_ID, 63)]).setTwist 3 { time := [(0, .syncLo), (0, .state)], stamp := 2 ^ 75 + 77, mark := 2 ^ 50 } with tick := 70, tln := { rel.tln with reel := 2 ^ 80 + 2 ^ 40 + 12345 } }
    : State), 3, 0, [(0, .state)], wf_of _ (by decide +kernel), (by decide +kernel), (by decide +kernel), (by decide +kernel),
    (by decide +kernel), (by decide +kernel), (by decide +kernel), (by decide +kernel), (by decide +kernel), (by decide +kernel)⟩

theorem wit_LaneZeroFrames_8 :
    ∃ (s : State) (p : Fin 4) (x : Nat) (l : List (Nat × TimeFrame)), s.Wf ∧ s.bit (Fld.CSC_TW_CFG_EN p) = true ∧ 1 ≤ s.mode ∧
      s.role ≠ 0 ∧ s.twState p = 6 ∧ (s.twist p).failing = false ∧ (s.twist p).rate = [] ∧ (s.twist p).time = (x, .syncHi) :: l ∧
      s.epochStart = false ∧ (x + 64 ≤ s.tick ∨ (firstFwd s.tick (s.twist p).fwd = none ∧ (s.twist p).sel = none)) :=
  ⟨({ (st [(Fld.GLB_MODE_STATUS_MODE, 5), (Fld.CSC_TW_STATUS_STATE 3, 6), (Fld.CSC_TW_CFG_EN 3, 1), (Fld.CSC_CFG_ROLE, 1), (Fld.CSC_CFG_DEV_ID, 63), (Fld.CSC_STATUS_GEN, 7), (Fld.CSC_CFG_MASTER_ID, 63)]).setTwist 3 { time := [(0, .syncHi), (0, .state)], stamp := 2 ^ 75 + 77, mark := 2 ^ 50 } with tick := 7, tln := { rel.tln with reel := 2 ^ 80 + 2 ^ 40 + 12345 } }
    : State), 3, 0, [(0, .state)], wf_of _ (by decide +kernel), (by decide +kernel), (by decide +kernel), (by decide +kernel),
    (by decide +kernel), (by decide +kernel), (by decide +kernel), (by decide +kernel), (by decide +kernel), (by decide +kernel)⟩

theorem wit_LaneZeroFrames_9 :
    ∃ (s : State) (p : Fin 4), s.Wf ∧ s.bit (Fld.CSC_TW_CFG_EN p) = true ∧ 1 ≤ s.mode ∧ s.role ≠ 0 ∧ s.twState p = 6 ∧
      (s.twist p).failing = false ∧ firstFwd s.tick (s.twist p).fwd = none ∧ (s.twist p).sel = none ∧ (s.twist p).fwd = [] ∧
      (s.twist p).rate = [] ∧ (s.twist p).time = [] :=
  ⟨({ st [(Fld.GLB_MODE_STATUS_MODE, 5), (Fld.CSC_TW_STATUS_STATE 3, 6), (Fld.CSC_TW_CFG_EN 3, 1), (Fld.CSC_CFG_ROLE, 1), (Fld.CSC_CFG_DEV_ID, 63)] with tick := 0 }
    : State), 3, wf_of _ (by decide +kernel), (by decide +kernel), (by decide +kernel), (by decide +kernel), (by decide +kernel),
    (by decide +kernel), (by decide +kernel), (by decide +kernel), (by decide +kernel), (by decide +kernel), (by decide +kernel)⟩

theorem wit_LaneZeroFrames_10 :
    ∃ (s : State) (p : Fin 4), s.Wf ∧ s.bit (Fld.CSC_TW_CFG_EN p) = true ∧ 1 ≤ s.mode ∧ s.role ≠ 0 ∧
      (s.twState p = 0 ∨ s.twState p = 7 ∨ (s.twState p = 5 ∧ (s.twist p).time = [])) :=
  ⟨(st [(Fld.CSC_TW_STATUS_STATE 3, 7), (Fld.CSC_TW_CFG_EN 3, 1), (Fld.CSC_CFG_ROLE, 1), (Fld.CSC_CFG_DEV_ID, 63),
    (Fld.GLB_MODE_STATUS_MODE, 1)]), 3, wf_of _ (by decide +kernel), (by decide +kernel), (by decide +kernel), (by decide +kernel),
    (by decide +kernel)⟩

theorem wit_LaneZeroFrames_11 :
    ∃ (s : State) (p : Fin 4) (g : Fin 64), s.Wf ∧ s.bit (Fld.CSC_TW_CFG_EN p) = true ∧ 1 ≤ s.mode ∧ s.role ≠ 0 ∧ s.twState p = 6 ∧
      (s.twist p).failing = false ∧ (s.twist p).fwd = [] ∧ (s.twist p).sel = none ∧ s.exportReady p g = true ∧
      (∀ x : Fin 64, x < g → s.exportReady p x = false) ∧ (s.twist p).rate = [] ∧ (s.twist p).time = [] :=
  ⟨({ st [(Fld.GLB_MODE_STATUS_MODE, 5), (Fld.CSC_TW_STATUS_STATE 3, 6), (Fld.CSC_TW_CFG_EN 3, 1), (Fld.CSC_CFG_ROLE, 1), (Fld.CSC_CFG_DEV_ID, 63), (Fld.CSC_EXP_VALID 62, 1), (Fld.CSC_EXP_PORT 62, 3), (Fld.FAB_GRP_STATUS_ENABLED 62, 1), (Fld.FAB_GRP_STATUS_PENDING 62, 0x8008), (Fld.CSC_EXP_VALID 63, 1), (Fld.CSC_EXP_PORT 63, 3), (Fld.FAB_GRP_STATUS_ENABLED 63, 1), (Fld.FAB_GRP_STATUS_PENDING 63, 1)] with tick := 0 }
    : State), 3, 62, wf_of _ (by decide +kernel), (by decide +kernel), (by decide +kernel), (by decide +kernel), (by decide +kernel),
    (by decide +kernel), (by decide +kernel), (by decide +kernel), (by decide +kernel), (by decide +kernel), (by decide +kernel),
    (by decide +kernel)⟩

theorem wit_LaneZeroFrames_12 :
    ∃ (s : State), s.Wf ∧ (s.role = 1 ∨ s.role = 2) ∧ s.reelValid = true ∧ s.tln.prevReel / 2 ^ 32 / 1000 < s.reelNs / 1000 ∧
      s.csc.lastUs ≠ some (s.reelNs / 1000) :=
  ⟨({ st [(Fld.GLB_MODE_STATUS_MODE, 5), (Fld.CSC_TW_STATUS_STATE 3, 6), (Fld.CSC_TW_CFG_EN 3, 1), (Fld.CSC_CFG_ROLE, 1), (Fld.CSC_CFG_DEV_ID, 63), (Fld.TLN_STATUS_STATE, 2), (Fld.GLB_CLK_STATUS_PLL_LOCK, 1)] with tick := 0, tln := { rel.tln with reel := 1000 * 2 ^ 32, prevReel := 998 * 2 ^ 32 } }
    : State), wf_of _ (by decide +kernel), (by decide +kernel), (by decide +kernel), (by decide +kernel), (by decide +kernel)⟩

theorem wit_LaneZeroFrames_13 :
    ∃ (s : State) (a : Int) (x : Nat) (y : Nat), s.Wf ∧ s.role = 1 ∧ s.csc.lastRate = some (a, x, y) ∧ y + 500 ≤ s.tick :=
  ⟨({ st [(Fld.GLB_MODE_STATUS_MODE, 5), (Fld.CSC_TW_STATUS_STATE 3, 6), (Fld.CSC_TW_CFG_EN 3, 1), (Fld.CSC_CFG_ROLE, 1), (Fld.CSC_CFG_DEV_ID, 63)] with tick := 500, csc := { (st [(Fld.CSC_TW_STATUS_STATE 3, 6)]).csc with lastRate := some (-5, 131071, 0) } }
    : State), -5, 131071, 0, wf_of _ (by decide +kernel), (by decide +kernel), (by decide +kernel), (by decide +kernel)⟩

theorem wit_LaneZeroFrames_14 :
    ∃ (s : State) (p : Fin 4), s.Wf ∧
      ((s.role = 1 ∧ s.bit Fld.GLB_CLK_STATUS_SYNC_DONE = true) ∨ (s.role = 2 ∧ s.bit Fld.CSC_STATUS_SYNC_ALIGNED = true)) ∧
      (s.twState p = 5 ∨ s.twState p = 6) ∧ s.sinceSync % 500 = 0 ∧ (((s.twist p).time.any fun f => f.2 == .syncLo) = false) :=
  ⟨({ st [(Fld.GLB_MODE_STATUS_MODE, 5), (Fld.CSC_TW_STATUS_STATE 3, 6), (Fld.CSC_TW_CFG_EN 3, 1), (Fld.CSC_CFG_ROLE, 1), (Fld.CSC_CFG_DEV_ID, 63), (Fld.GLB_CLK_STATUS_SYNC_DONE, 1)] with tick := 500 }
    : State), 3, wf_of _ (by decide +kernel), (by decide +kernel), (by decide +kernel), (by decide +kernel), (by decide +kernel)⟩

theorem wit_LaneZeroFrames_15 :
    ∃ (s : State) (p : Fin 4) (lane : Fin 4) (slots : BitVec 16) (gid : BitVec 12) (hops : BitVec 6), s.Wf ∧ s.twState p = 6 ∧
      (s.twist p).failing = false ∧ lane.val = (s.twist p).rxLane ∧
      (s.bit (Fld.CSC_FWD_IMP_EN gid.toNat) = true ∨ s.fld (Fld.CSC_FWD_FWD gid.toNat) ≠ 0) ∧ hops.toNat < 63 :=
  ⟨({ st [(Fld.GLB_MODE_STATUS_MODE, 5), (Fld.CSC_TW_STATUS_STATE 3, 6), (Fld.CSC_TW_CFG_EN 3, 1), (Fld.CSC_FWD_IMP_EN 0x047, 1), (Fld.CSC_FWD_IMPORT 0x047, 12), (Fld.CSC_FWD_FWD 0x047, 4), (⟨Reg.FAB_EV_EN 31, 31, 1⟩, 1), (Fld.FAB_EV_CFG_PROD 1023, 0x70CF)] with tick := 0 }
    : State), 3, 0, 0x8008, 0x047, 0, wf_of _ (by decide +kernel), (by decide +kernel), (by decide +kernel), (by decide +kernel),
    (by decide +kernel), (by decide +kernel)⟩

theorem wit_LaneZeroFrames_16 :
    ∃ (s : State) (p : Fin 4) (lane : Fin 4) (slots : BitVec 16) (gid : BitVec 12) (hops : BitVec 6), s.Wf ∧ s.twState p = 6 ∧
      (s.twist p).failing = false ∧ lane.val = (s.twist p).rxLane ∧ ((s.bit (Fld.CSC_FWD_IMP_EN gid.toNat) = false ∧
      s.fld (Fld.CSC_FWD_FWD gid.toNat) = 0) ∨ hops.toNat = 63) :=
  ⟨({ st [(Fld.GLB_MODE_STATUS_MODE, 5), (Fld.CSC_TW_STATUS_STATE 3, 6), (Fld.CSC_TW_CFG_EN 3, 1)] with tick := 0 } : State), 3, 0, 1,
    4095, 62, wf_of _ (by decide +kernel), (by decide +kernel), (by decide +kernel), (by decide +kernel), (by decide +kernel)⟩

theorem wit_LaneZeroFrames_17 :
    ∃ (s : State) (p : Fin 4) (lane : Fin 4), s.Wf ∧ s.bit (Fld.CSC_TW_CFG_EN p) = true :=
  ⟨(st [(Fld.CSC_TW_STATUS_STATE 3, 5), (Fld.CSC_TW_CFG_EN 3, 1)]), 3, 2, wf_of _ (by decide +kernel), (by decide +kernel)⟩

theorem wit_CascadeTime_0 :
    ∃ (s : State) (p : Fin 4) (lane : Fin 4) (ns : BitVec 42), s.Wf ∧ s.twState p = 6 ∧ (s.twist p).failing = false ∧
      lane.val = (s.twist p).rxLane ∧ s.isUp p = true :=
  ⟨({ st [(Fld.GLB_MODE_STATUS_MODE, 5), (Fld.CSC_TW_STATUS_STATE 3, 6), (Fld.CSC_TW_CFG_EN 3, 1), (Fld.CSC_CFG_ROLE, 2), (Fld.CSC_DIM_UP_PORT, 3), (Fld.CSC_CFG_DEPTH, 2), (Fld.CSC_CFG_MASTER_ID, 63)] with tick := 0 }
    : State), 3, 0, 5, wf_of _ (by decide +kernel), (by decide +kernel), (by decide +kernel), (by decide +kernel),
    (by decide +kernel)⟩

theorem wit_CascadeTime_1 :
    ∃ (s : State) (p : Fin 4) (lane : Fin 4) (ns : BitVec 22) (frac : BitVec 20), s.Wf ∧ s.twState p = 6 ∧
      (s.twist p).failing = false ∧ lane.val = (s.twist p).rxLane ∧ s.isUp p = true ∧ s.sameSequence = true ∧ s.csc.seqHi = none :=
  ⟨({ st [(Fld.GLB_MODE_STATUS_MODE, 5), (Fld.CSC_TW_STATUS_STATE 3, 6), (Fld.CSC_TW_CFG_EN 3, 1), (Fld.CSC_CFG_ROLE, 2), (Fld.CSC_DIM_UP_PORT, 3), (Fld.CSC_CFG_DEPTH, 2), (Fld.CSC_CFG_MASTER_ID, 63)] with tick := 0, csc := { (st [(Fld.GLB_MODE_STATUS_MODE, 5), (Fld.CSC_TW_STATUS_STATE 3, 6), (Fld.CSC_TW_CFG_EN 3, 1), (Fld.CSC_CFG_ROLE, 2), (Fld.CSC_DIM_UP_PORT, 3), (Fld.CSC_CFG_DEPTH, 2), (Fld.CSC_CFG_MASTER_ID, 63)]).csc with seqLo := some (4, 0) } }
    : State), 3, 0, 5, 0xFFFFF, wf_of _ (by decide +kernel), (by decide +kernel), (by decide +kernel), (by decide +kernel),
    (by decide +kernel), (by decide +kernel), (by decide +kernel)⟩

theorem wit_CascadeTime_2 :
    ∃ (s : State) (p : Fin 4) (lane : Fin 4) (ns : BitVec 22) (frac : BitVec 20), s.Wf ∧ s.twState p = 6 ∧
      (s.twist p).failing = false ∧ lane.val = (s.twist p).rxLane ∧ s.isUp p = true ∧ (s.sameSequence = false ∨ s.csc.seqHi ≠ none) :=
  ⟨({ st [(Fld.GLB_MODE_STATUS_MODE, 5), (Fld.CSC_TW_STATUS_STATE 3, 6), (Fld.CSC_TW_CFG_EN 3, 1), (Fld.CSC_CFG_ROLE, 2), (Fld.CSC_DIM_UP_PORT, 3), (Fld.CSC_CFG_DEPTH, 2), (Fld.CSC_CFG_MASTER_ID, 63)] with tick := 0, csc := { (st [(Fld.GLB_MODE_STATUS_MODE, 5), (Fld.CSC_TW_STATUS_STATE 3, 6), (Fld.CSC_TW_CFG_EN 3, 1), (Fld.CSC_CFG_ROLE, 2), (Fld.CSC_DIM_UP_PORT, 3), (Fld.CSC_CFG_DEPTH, 2), (Fld.CSC_CFG_MASTER_ID, 63)]).csc with seqLo := some (4, 0), seqHi := some (0, 0), run := 2, lastMeas := some (3, 0) } }
    : State), 3, 0, 5, 0xFFFFF, wf_of _ (by decide +kernel), (by decide +kernel), (by decide +kernel), (by decide +kernel),
    (by decide +kernel), (by decide +kernel)⟩

theorem wit_CascadeTime_3 :
    ∃ (s : State) (p : Fin 4) (lane : Fin 4) (master : BitVec 6) (sender : BitVec 6) (depth : BitVec 6) (gen : BitVec 8)
      (reel : BitVec 2) (valid : Bool) (mode : BitVec 3) (lo : Nat) (hi : Nat) (frac : Nat) (r : Nat), s.Wf ∧ s.twState p = 6 ∧
      (s.twist p).failing = false ∧ lane.val = (s.twist p).rxLane ∧ s.isUp p = true ∧ s.csc.seqLo = some (lo, r) ∧
      s.csc.seqHi = some (hi, frac) ∧ s.sameSequence = true ∧ master.toNat = s.fld Fld.CSC_CFG_MASTER_ID ∧
      depth.toNat + 1 = s.fld Fld.CSC_CFG_DEPTH ∧ valid = true :=
  ⟨({ st [(Fld.GLB_MODE_STATUS_MODE, 5), (Fld.CSC_TW_STATUS_STATE 3, 6), (Fld.CSC_TW_CFG_EN 3, 1), (Fld.CSC_CFG_ROLE, 2), (Fld.CSC_DIM_UP_PORT, 3), (Fld.CSC_CFG_DEPTH, 2), (Fld.CSC_CFG_MASTER_ID, 63), (Fld.CSC_STATUS_SYNC_ALIGNED, 1), (Fld.CSC_STATUS_GEN, 7), (Fld.TLN_CTL_SRC, 3)] with tick := 0, csc := { (st [(Fld.GLB_MODE_STATUS_MODE, 5), (Fld.CSC_TW_STATUS_STATE 3, 6), (Fld.CSC_TW_CFG_EN 3, 1), (Fld.CSC_CFG_ROLE, 2), (Fld.CSC_DIM_UP_PORT, 3), (Fld.CSC_CFG_DEPTH, 2), (Fld.CSC_CFG_MASTER_ID, 63), (Fld.CSC_STATUS_SYNC_ALIGNED, 1), (Fld.CSC_STATUS_GEN, 7), (Fld.TLN_CTL_SRC, 3)]).csc with seqLo := some (5000, 5000 * 2 ^ 32 - 2 ^ 24), seqHi := some (0, 0), run := 1, lastMeas := some (4, 0) } }
    : State), 3, 0, 63, 1, 1, 7, 2, true, 5, 5000, 0, 0, 5000 * 2 ^ 32 - 2 ^ 24, wf_of _ (by decide +kernel), (by decide +kernel),
    (by decide +kernel), (by decide +kernel), (by decide +kernel), (by decide +kernel), (by decide +kernel), (by decide +kernel),
    (by decide +kernel), (by decide +kernel), (by decide +kernel)⟩

theorem wit_CascadeTime_4 :
    ∃ (s : State) (p : Fin 4) (lane : Fin 4) (master : BitVec 6) (sender : BitVec 6) (depth : BitVec 6) (gen : BitVec 8)
      (reel : BitVec 2) (valid : Bool) (mode : BitVec 3), s.Wf ∧ s.twState p = 6 ∧ (s.twist p).failing = false ∧
      lane.val = (s.twist p).rxLane ∧ s.isUp p = true ∧ master.toNat = s.fld Fld.CSC_CFG_MASTER_ID ∧
      (s.sameSequence = false ∨ s.csc.seqHi = none ∨ depth.toNat + 1 ≠ s.fld Fld.CSC_CFG_DEPTH ∨ valid = false) :=
  ⟨({ st [(Fld.GLB_MODE_STATUS_MODE, 5), (Fld.CSC_TW_STATUS_STATE 3, 6), (Fld.CSC_TW_CFG_EN 3, 1), (Fld.CSC_CFG_ROLE, 2), (Fld.CSC_DIM_UP_PORT, 3), (Fld.CSC_CFG_DEPTH, 2), (Fld.CSC_CFG_MASTER_ID, 63)] with tick := 0, csc := { (st [(Fld.GLB_MODE_STATUS_MODE, 5), (Fld.CSC_TW_STATUS_STATE 3, 6), (Fld.CSC_TW_CFG_EN 3, 1), (Fld.CSC_CFG_ROLE, 2), (Fld.CSC_DIM_UP_PORT, 3), (Fld.CSC_CFG_DEPTH, 2), (Fld.CSC_CFG_MASTER_ID, 63)]).csc with seqLo := some (5000, 0), seqHi := some (0, 0), run := 1, lastMeas := some (4, 0) } }
    : State), 3, 0, 63, 1, 2, 7, 2, true, 5, wf_of _ (by decide +kernel), (by decide +kernel), (by decide +kernel),
    (by decide +kernel), (by decide +kernel), (by decide +kernel), (by decide +kernel)⟩

theorem wit_CascadeTime_5 :
    ∃ (s : State) (p : Fin 4) (lane : Fin 4) (master : BitVec 6) (sender : BitVec 6) (depth : BitVec 6) (gen : BitVec 8)
      (reel : BitVec 2) (valid : Bool) (mode : BitVec 3), s.Wf ∧ s.twState p = 6 ∧ (s.twist p).failing = false ∧
      lane.val = (s.twist p).rxLane ∧ s.isUp p = true ∧ master.toNat ≠ s.fld Fld.CSC_CFG_MASTER_ID :=
  ⟨({ st [(Fld.GLB_MODE_STATUS_MODE, 5), (Fld.CSC_TW_STATUS_STATE 3, 6), (Fld.CSC_TW_CFG_EN 3, 1), (Fld.CSC_CFG_ROLE, 2), (Fld.CSC_DIM_UP_PORT, 3), (Fld.CSC_CFG_DEPTH, 2), (Fld.CSC_CFG_MASTER_ID, 63), (Fld.CSC_STATUS_SRC_QUALIFIED, 1), (Fld.TLN_CTL_SRC, 3), (Fld.TLN_STATUS_STATE, 2)] with tick := 0 }
    : State), 3, 0, 62, 1, 1, 7, 2, true, 5, wf_of _ (by decide +kernel), (by decide +kernel), (by decide +kernel),
    (by decide +kernel), (by decide +kernel), (by decide +kernel)⟩

theorem wit_CascadeTime_6 :
    ∃ (s : State) (p : Fin 4) (lane : Fin 4) (adj : BitVec 24) (applyT : BitVec 18) (x : Int), s.Wf ∧ s.twState p = 6 ∧
      (s.twist p).failing = false ∧ lane.val = (s.twist p).rxLane ∧ s.isUp p = true ∧ (s.reelNs : Int) - 131072 < x ∧
      x ≤ s.reelNs + 131072 ∧ x % 2 ^ 18 = applyT.toNat ∧ (s.tln.reel : Int) ≤ x * 2 ^ 32 :=
  ⟨({ st [(Fld.GLB_MODE_STATUS_MODE, 5), (Fld.CSC_TW_STATUS_STATE 3, 6), (Fld.CSC_TW_CFG_EN 3, 1), (Fld.CSC_CFG_ROLE, 2), (Fld.CSC_DIM_UP_PORT, 3), (Fld.CSC_CFG_DEPTH, 2), (Fld.CSC_CFG_MASTER_ID, 63), (Fld.CSC_TW_STATUS_STATE 1, 6)] with tick := 0, tln := { rel.tln with reel := 262143 * 2 ^ 32 } }
    : State), 3, 0, 0xFFFFFF, 131071, 393215, wf_of _ (by decide +kernel), (by decide +kernel), (by decide +kernel),
    (by decide +kernel), (by decide +kernel), (by decide +kernel), (by decide +kernel), (by decide +kernel), (by decide +kernel)⟩

theorem wit_CascadeTime_7 :
    ∃ (s : State) (p : Fin 4) (lane : Fin 4) (adj : BitVec 24) (applyT : BitVec 18) (x : Int), s.Wf ∧ s.twState p = 6 ∧
      (s.twist p).failing = false ∧ lane.val = (s.twist p).rxLane ∧ s.isUp p = true ∧ (s.reelNs : Int) - 131072 < x ∧
      x ≤ s.reelNs + 131072 ∧ x % 2 ^ 18 = applyT.toNat ∧ x * 2 ^ 32 < (s.tln.reel : Int) ∧ adj.toInt ≠ s.csc.adjM ∧
      s.takesRates = true :=
  ⟨({ st [(Fld.GLB_MODE_STATUS_MODE, 5), (Fld.CSC_TW_STATUS_STATE 3, 6), (Fld.CSC_TW_CFG_EN 3, 1), (Fld.CSC_CFG_ROLE, 2), (Fld.CSC_DIM_UP_PORT, 3), (Fld.CSC_CFG_DEPTH, 2), (Fld.CSC_CFG_MASTER_ID, 63), (Fld.TLN_SLEW_MAX_MAX, 100), (Fld.TLN_CTL_SRC, 3), (Fld.TLN_STATUS_STATE, 2)] with tick := 0, tln := { rel.tln with reel := 262144 * 2 ^ 32 } }
    : State), 3, 0, 0x800000, 262143, 262143, wf_of _ (by decide +kernel), (by decide +kernel), (by decide +kernel),
    (by decide +kernel), (by decide +kernel), (by decide +kernel), (by decide +kernel), (by decide +kernel), (by decide +kernel),
    (by decide +kernel), (by decide +kernel)⟩

theorem wit_CascadeTime_8 :
    ∃ (s : State) (x : Nat) (a : Int), s.Wf ∧ s.csc.rates = [(x, a)] ∧ x ≤ s.tick ∧ s.csc.ratesRx = [] ∧ s.takesRates = true :=
  ⟨({ (st [(Fld.TLN_SLEW_MAX_MAX, 100), (Fld.TLN_CTL_SRC, 3), (Fld.TLN_STATUS_STATE, 2)]) with tick := 9, csc := { rel.csc with rates := [(9, -8388608)] } }
    : State), 9, -8388608, wf_of _ (by decide +kernel), (by decide +kernel), (by decide +kernel), (by decide +kernel),
    (by decide +kernel)⟩

theorem wit_CascadeTime_9 :
    ∃ (s : State) (x : Nat) (a : Int), s.Wf ∧ s.csc.rates = [] ∧ s.csc.ratesRx = [(x, a)] ∧
      (s.inTick x = true ∨ x * 2 ^ 32 < s.tln.reel) ∧ s.takesRates = true :=
  ⟨({ (st [(Fld.TLN_SLEW_MAX_MAX, 100), (Fld.TLN_CTL_SRC, 3), (Fld.TLN_STATUS_STATE, 2)]) with tln := { rel.tln with reel := 2 ^ 33 }, csc := { rel.csc with ratesRx := [(1, -8388608)] } }
    : State), 1, -8388608, wf_of _ (by decide +kernel), (by decide +kernel), (by decide +kernel), (by decide +kernel),
    (by decide +kernel)⟩

theorem wit_CascadeTime_10 :
    ∃ (s : State) (x : Nat) (y : Nat) (a : Int) (b : Int), s.Wf ∧ s.csc.rates = [(x, a)] ∧ x ≤ s.tick ∧ s.csc.ratesRx = [(y, b)] ∧
      (s.inTick y = true ∨ y * 2 ^ 32 < s.tln.reel) ∧ s.takesRates = false :=
  ⟨({ (st [(Fld.TLN_SLEW_MAX_MAX, 100), (Fld.TLN_CTL_SRC, 0), (Fld.TLN_STATUS_STATE, 2)]) with tick := 9, tln := { rel.tln with reel := 2 ^ 33 }, csc := { rel.csc with rates := [(9, 5)], ratesRx := [(1, -5)] } }
    : State), 9, 1, 5, -5, wf_of _ (by decide +kernel), (by decide +kernel), (by decide +kernel), (by decide +kernel),
    (by decide +kernel), (by decide +kernel)⟩

theorem wit_CascadeTime_11 :
    ∃ (s : State) (p : Fin 4) (lane : Fin 4) (count : BitVec 42) (at_ : Fin 32000), s.Wf ∧ (s.twState p = 5 ∨ s.twState p = 6) ∧
      (s.twist p).failing = false ∧ lane.val = (s.twist p).rxLane :=
  ⟨({ st [(Fld.GLB_MODE_STATUS_MODE, 5), (Fld.CSC_TW_STATUS_STATE 3, 6), (Fld.CSC_TW_CFG_EN 3, 1), (Fld.CSC_CFG_ROLE, 2), (Fld.CSC_DIM_UP_PORT, 3), (Fld.CSC_CFG_DEPTH, 2), (Fld.CSC_CFG_MASTER_ID, 63)] with tick := 0 }
    : State), 3, 0, 50, 31999, wf_of _ (by decide +kernel), (by decide +kernel), (by decide +kernel), (by decide +kernel)⟩

theorem wit_CascadeTime_12 :
    ∃ (s : State) (p : Fin 4) (lane : Fin 4) (count : BitVec 22) (gen : BitVec 8) (lo : Nat) (x : Nat) (a : Nat), s.Wf ∧
      (s.twState p = 5 ∨ s.twState p = 6) ∧ (s.twist p).failing = false ∧ lane.val = (s.twist p).rxLane ∧ s.isUp p = true ∧
      (s.twist p).lo = some (lo, x, a) ∧ (s.mode = 2 ∨ s.mode = 3 ∨ s.mode = 7) ∧
      (s.bit Fld.CSC_STATUS_SYNC_ALIGNED = false ∨ s.fld Fld.CSC_STATUS_GEN ≠ gen.toNat) :=
  ⟨({ (st [(Fld.GLB_MODE_STATUS_MODE, 5), (Fld.CSC_TW_STATUS_STATE 3, 6), (Fld.CSC_TW_CFG_EN 3, 1), (Fld.CSC_CFG_ROLE, 2), (Fld.CSC_DIM_UP_PORT, 3), (Fld.CSC_CFG_DEPTH, 2), (Fld.CSC_CFG_MASTER_ID, 63), (Fld.GLB_MODE_STATUS_MODE, 3), (Fld.CSC_STATUS_SYNC_ALIGNED, 1)]).setTwist 3 { lo := some (50, 510, 31999) } with tick := 511 }
    : State), 3, 0, 0, 7, 50, 510, 31999, wf_of _ (by decide +kernel), (by decide +kernel), (by decide +kernel), (by decide +kernel),
    (by decide +kernel), (by decide +kernel), (by decide +kernel), (by decide +kernel)⟩

theorem wit_CascadeTime_13 :
    ∃ (s : State) (p : Fin 4) (lane : Fin 4) (count : BitVec 22) (gen : BitVec 8) (lo : Nat) (x : Nat) (a : Nat), s.Wf ∧
      (s.twState p = 5 ∨ s.twState p = 6) ∧ (s.twist p).failing = false ∧ lane.val = (s.twist p).rxLane ∧ s.isUp p = true ∧
      (s.twist p).lo = some (lo, x, a) ∧ s.bit Fld.CSC_STATUS_SYNC_ALIGNED = true ∧ s.fld Fld.CSC_STATUS_GEN = gen.toNat ∧
      (x : Int) - 10 - s.glb.syncTick = 10 * ((count.toNat * 2 ^ 42 + lo : Nat) : Int) :=
  ⟨({ (st [(Fld.GLB_MODE_STATUS_MODE, 5), (Fld.CSC_TW_STATUS_STATE 3, 6), (Fld.CSC_TW_CFG_EN 3, 1), (Fld.CSC_CFG_ROLE, 2), (Fld.CSC_DIM_UP_PORT, 3), (Fld.CSC_CFG_DEPTH, 2), (Fld.CSC_CFG_MASTER_ID, 63), (Fld.CSC_STATUS_SYNC_ALIGNED, 1), (Fld.CSC_STATUS_GEN, 7)]).setTwist 3 { lo := some (50, 510, 31999) } with tick := 511 }
    : State), 3, 0, 0, 7, 50, 510, 31999, wf_of _ (by decide +kernel), (by decide +kernel), (by decide +kernel), (by decide +kernel),
    (by decide +kernel), (by decide +kernel), (by decide +kernel), (by decide +kernel), (by decide +kernel)⟩

theorem wit_CascadeTime_14 :
    ∃ (s : State) (p : Fin 4) (lane : Fin 4) (count : BitVec 22) (gen : BitVec 8) (lo : Nat) (x : Nat) (a : Nat), s.Wf ∧
      (s.twState p = 5 ∨ s.twState p = 6) ∧ (s.twist p).failing = false ∧ lane.val = (s.twist p).rxLane ∧ s.isUp p = true ∧
      (s.twist p).lo = some (lo, x, a) ∧ s.bit Fld.CSC_STATUS_SYNC_ALIGNED = true ∧ s.fld Fld.CSC_STATUS_GEN = gen.toNat ∧
      (x : Int) - 10 - s.glb.syncTick ≠ 10 * ((count.toNat * 2 ^ 42 + lo : Nat) : Int) :=
  ⟨({ (st [(Fld.GLB_MODE_STATUS_MODE, 5), (Fld.CSC_TW_STATUS_STATE 3, 6), (Fld.CSC_TW_CFG_EN 3, 1), (Fld.CSC_CFG_ROLE, 2), (Fld.CSC_DIM_UP_PORT, 3), (Fld.CSC_CFG_DEPTH, 2), (Fld.CSC_CFG_MASTER_ID, 63), (Fld.CSC_STATUS_SYNC_ALIGNED, 1), (Fld.CSC_STATUS_GEN, 7), (Fld.CSC_STATUS_SRC_QUALIFIED, 1)]).setTwist 3 { lo := some (49, 510, 31999) } with tick := 511 }
    : State), 3, 0, 0, 7, 49, 510, 31999, wf_of _ (by decide +kernel), (by decide +kernel), (by decide +kernel), (by decide +kernel),
    (by decide +kernel), (by decide +kernel), (by decide +kernel), (by decide +kernel), (by decide +kernel)⟩

theorem wit_CascadeTime_15 :
    ∃ (s : State) (p : Fin 4) (lane : Fin 4) (count : BitVec 22) (gen : BitVec 8) (lo : Nat) (x : Nat) (a : Nat), s.Wf ∧
      (s.twState p = 5 ∨ s.twState p = 6) ∧ (s.twist p).failing = false ∧ lane.val = (s.twist p).rxLane ∧ s.isUp p = true ∧
      (s.twist p).lo = some (lo, x, a) ∧ (s.mode = 4 ∨ s.mode = 5 ∨ s.mode = 6) ∧ s.bit Fld.CSC_STATUS_SYNC_ALIGNED = true ∧
      s.fld Fld.CSC_STATUS_GEN ≠ gen.toNat :=
  ⟨({ (st [(Fld.GLB_MODE_STATUS_MODE, 5), (Fld.CSC_TW_STATUS_STATE 3, 6), (Fld.CSC_TW_CFG_EN 3, 1), (Fld.CSC_CFG_ROLE, 2), (Fld.CSC_DIM_UP_PORT, 3), (Fld.CSC_CFG_DEPTH, 2), (Fld.CSC_CFG_MASTER_ID, 63), (Fld.CSC_STATUS_SYNC_ALIGNED, 1), (Fld.CSC_STATUS_SRC_QUALIFIED, 1)]).setTwist 3 { lo := some (50, 510, 31999) } with tick := 511 }
    : State), 3, 0, 0, 7, 50, 510, 31999, wf_of _ (by decide +kernel), (by decide +kernel), (by decide +kernel), (by decide +kernel),
    (by decide +kernel), (by decide +kernel), (by decide +kernel), (by decide +kernel), (by decide +kernel)⟩

theorem wit_CascadeTime_16 :
    ∃ (s : State), s.Wf ∧ s.role = 2 ∧ (∀ m ∈ s.csc.lastMeas, m.2 + 2000 ≤ s.tick) ∧
      (s.twist (s.fld Fld.CSC_DIM_UP_PORT)).firstBad = none :=
  ⟨({ st [(Fld.GLB_MODE_STATUS_MODE, 5), (Fld.CSC_TW_STATUS_STATE 3, 6), (Fld.CSC_TW_CFG_EN 3, 1), (Fld.CSC_CFG_ROLE, 2), (Fld.CSC_DIM_UP_PORT, 3), (Fld.CSC_CFG_DEPTH, 2), (Fld.CSC_CFG_MASTER_ID, 63), (Fld.CSC_STATUS_SRC_QUALIFIED, 1)] with tick := 2000, csc := { (st [(Fld.GLB_MODE_STATUS_MODE, 5), (Fld.CSC_TW_STATUS_STATE 3, 6), (Fld.CSC_TW_CFG_EN 3, 1), (Fld.CSC_CFG_ROLE, 2), (Fld.CSC_DIM_UP_PORT, 3), (Fld.CSC_CFG_DEPTH, 2), (Fld.CSC_CFG_MASTER_ID, 63), (Fld.CSC_STATUS_SRC_QUALIFIED, 1)]).csc with lastMeas := some (0, 0) } }
    : State), wf_of _ (by decide +kernel), (by decide +kernel), (by decide +kernel), (by decide +kernel)⟩

theorem wit_CascadeTime_17 :
    ∃ (s : State), s.Wf ∧ ((∃ m ∈ s.csc.lastMeas, s.tick < m.2 + 2000) ∨ (s.twist (s.fld Fld.CSC_DIM_UP_PORT)).firstBad ≠ none) :=
  ⟨({ st [(Fld.GLB_MODE_STATUS_MODE, 5), (Fld.CSC_TW_STATUS_STATE 3, 6), (Fld.CSC_TW_CFG_EN 3, 1), (Fld.CSC_CFG_ROLE, 2), (Fld.CSC_DIM_UP_PORT, 3), (Fld.CSC_CFG_DEPTH, 2), (Fld.CSC_CFG_MASTER_ID, 63), (Fld.CSC_STATUS_SRC_QUALIFIED, 1)] with tick := 1999, csc := { (st [(Fld.GLB_MODE_STATUS_MODE, 5), (Fld.CSC_TW_STATUS_STATE 3, 6), (Fld.CSC_TW_CFG_EN 3, 1), (Fld.CSC_CFG_ROLE, 2), (Fld.CSC_DIM_UP_PORT, 3), (Fld.CSC_CFG_DEPTH, 2), (Fld.CSC_CFG_MASTER_ID, 63), (Fld.CSC_STATUS_SRC_QUALIFIED, 1)]).csc with lastMeas := some (0, 0) } }
    : State), wf_of _ (by decide +kernel), (by decide +kernel)⟩

theorem wit_FailoverAndBulk_0 :
    ∃ (s : State) (p : Fin 4) (lane : Fin 4) (prev : BitVec 58) (frame : BitVec 64), s.Wf ∧ s.bit (Fld.CSC_TW_CFG_EN p) = true ∧
      frameValid prev.toNat frame.toNat = false ∧ lane.val = (s.twist p).rxLane ∧ (s.twist p).failing = false ∧
      (s.twist p).bad.length < 7 :=
  ⟨({ (st [(Fld.GLB_MODE_STATUS_MODE, 5), (Fld.CSC_TW_STATUS_STATE 3, 6), (Fld.CSC_TW_CFG_EN 3, 1)]).setTwist 3 { bad := [5, 4, 3, 2, 1, 0] } with tick := 6 }
    : State), 3, 0, 5, 0x8000000000000001, wf_of _ (by decide +kernel), (by decide +kernel), (by decide +kernel), (by decide +kernel),
    (by decide +kernel), (by decide +kernel)⟩

theorem wit_FailoverAndBulk_1 :
    ∃ (s : State) (p : Fin 4) (lane : Fin 4) (prev : BitVec 58) (frame : BitVec 64), s.Wf ∧ s.bit (Fld.CSC_TW_CFG_EN p) = true ∧
      frameValid prev.toNat frame.toNat = false ∧ s.twState p = 6 ∧ (lane.val = 0 ∧ (s.twist p).rxLane = 0) ∧
      (s.twist p).failing = false ∧ 7 ≤ s.tick ∧ (∀ i : Fin 7, s.tick - 1 - i.val ∈ (s.twist p).bad) :=
  ⟨({ (st [(Fld.GLB_MODE_STATUS_MODE, 5), (Fld.CSC_TW_STATUS_STATE 3, 6), (Fld.CSC_TW_CFG_EN 3, 1)]).setTwist 3 { bad := [6, 5, 4, 3, 2, 1, 0] } with tick := 7 }
    : State), 3, 0, 5, 0x8000000000000001, wf_of _ (by decide +kernel), (by decide +kernel), (by decide +kernel), (by decide +kernel),
    (by decide +kernel), (by decide +kernel), (by decide +kernel), (by decide +kernel)⟩

theorem wit_FailoverAndBulk_2 :
    ∃ (s : State) (p : Fin 4) (lane : Fin 4) (prev : BitVec 58) (frame : BitVec 64), s.Wf ∧ s.bit (Fld.CSC_TW_CFG_EN p) = true ∧
      frameValid prev.toNat frame.toNat = false ∧ lane.val ≠ (s.twist p).rxLane :=
  ⟨({ st [(Fld.GLB_MODE_STATUS_MODE, 5), (Fld.CSC_TW_STATUS_STATE 3, 6), (Fld.CSC_TW_CFG_EN 3, 1)] with tick := 0 } : State), 3, 2, 5,
    0x8000000000000001, wf_of _ (by decide +kernel), (by decide +kernel), (by decide +kernel), (by decide +kernel)⟩

theorem wit_FailoverAndBulk_3 :
    ∃ (s : State) (p : Fin 4) (lane : Fin 4) (prev : BitVec 58) (frame : BitVec 64) (g : Nat) (ty : Nat) (pay : Nat), s.Wf ∧
      g < 2 ^ 58 ∧ prev.toNat = g ∧ frame.toNat = (scramble g (frameWord ty pay)).1 :=
  ⟨({ st [(Fld.GLB_MODE_STATUS_MODE, 5), (Fld.CSC_TW_STATUS_STATE 3, 6), (Fld.CSC_TW_CFG_EN 3, 1)] with tick := 0 } : State), 3, 0,
    0x2AAAAAAAAAAAAAA, BitVec.ofNat 64 (scramble 0x2AAAAAAAAAAAAAA (frameWord 5 99)).1, 0x2AAAAAAAAAAAAAA, 5, 99, wf_of _
    (by decide +kernel), (by decide +kernel), (by decide +kernel), (by decide +kernel)⟩

theorem wit_FailoverAndBulk_4 :
    ∃ (s : State) (p : Fin 4), s.Wf ∧ s.twState p = 6 ∧ (s.twist p).rxLane = 0 :=
  ⟨({ st [(Fld.GLB_MODE_STATUS_MODE, 5), (Fld.CSC_TW_STATUS_STATE 3, 6), (Fld.CSC_TW_CFG_EN 3, 1)] with tick := 0 } : State), 3, wf_of
    _ (by decide +kernel), (by decide +kernel), (by decide +kernel)⟩

theorem wit_FailoverAndBulk_5 :
    ∃ (s : State) (p : Fin 4), s.Wf ∧ s.twState p = 6 ∧ (s.twist p).rxLane = 1 :=
  ⟨({ (st [(Fld.GLB_MODE_STATUS_MODE, 5), (Fld.CSC_TW_STATUS_STATE 3, 6), (Fld.CSC_TW_CFG_EN 3, 1)]).setTwist 3 { rxLane := 1 } with tick := 0 }
    : State), 3, wf_of _ (by decide +kernel), (by decide +kernel), (by decide +kernel)⟩

theorem wit_FailoverAndBulk_6 :
    ∃ (s : State) (p : Fin 4) (lane : Fin 4) (freed : Fin 16), s.Wf ∧ s.twState p = 6 ∧ (s.twist p).failing = true ∧ lane = 1 :=
  ⟨({ (st [(Fld.GLB_MODE_STATUS_MODE, 5), (Fld.CSC_TW_STATUS_STATE 3, 6), (Fld.CSC_TW_CFG_EN 3, 1), (Fld.CSC_TW_STATUS_LANES_UP 3, 3)]).setTwist 3 { failing := true } with tick := 0 }
    : State), 3, 1, 0, wf_of _ (by decide +kernel), (by decide +kernel), (by decide +kernel), (by decide +kernel)⟩

theorem wit_FailoverAndBulk_7 :
    ∃ (s : State) (p : Fin 4) (lane : Fin 4) (freed : Fin 16), s.Wf ∧ s.twState p = 6 ∧ s.bulkRx p lane = true ∧
      (s.twist p).failing = false :=
  ⟨({ (st [(Fld.GLB_MODE_STATUS_MODE, 5), (Fld.CSC_TW_STATUS_STATE 3, 6), (Fld.CSC_TW_CFG_EN 3, 1), (Fld.CSC_TW_STATUS_LANES_UP 3, 15), (Fld.CSC_CFG_DEV_ID, 5), (Fld.CSC_CFG_MASTER_ID, 63), (Fld.CSC_CFG_ROLE, 2), (Fld.CSC_ROUTE_VALID 63, 1), (Fld.CSC_ROUTE_PORT 63, 3)]).setTwist 3 { lanes := [(3, { credits := 3 })] } with tick := 0 }
    : State), 3, 3, 15, wf_of _ (by decide +kernel), (by decide +kernel), (by decide +kernel), (by decide +kernel)⟩

theorem wit_FailoverAndBulk_8 :
    ∃ (s : State) (p : Fin 4) (lane : Fin 4), s.Wf ∧ s.twState p = 6 ∧ lane.val ≤ 1 ∧ s.fld (Fld.CSC_TW_STATUS_DUTY_LANE p) = 0 :=
  ⟨({ st [(Fld.GLB_MODE_STATUS_MODE, 5), (Fld.CSC_TW_STATUS_STATE 3, 6), (Fld.CSC_TW_CFG_EN 3, 1)] with tick := 0 } : State), 3, 1,
    wf_of _ (by decide +kernel), (by decide +kernel), (by decide +kernel), (by decide +kernel)⟩

theorem wit_FailoverAndBulk_9 :
    ∃ (s : State) (p : Fin 4), s.Wf ∧ s.twState p = 6 ∧ (s.twist p).move = true ∧ s.sinceSync % 10 = 0 :=
  ⟨({ (st [(Fld.GLB_MODE_STATUS_MODE, 5), (Fld.CSC_TW_STATUS_STATE 3, 6), (Fld.CSC_TW_CFG_EN 3, 1)]).setTwist 3 { move := true, lanes := [(1, { busyTo := 99, queue := [(0xC, 5)] })] } with tick := 10 }
    : State), 3, wf_of _ (by decide +kernel), (by decide +kernel), (by decide +kernel), (by decide +kernel)⟩

theorem wit_FailoverAndBulk_10 :
    ∃ (s : State) (p : Fin 4) (x : Nat), s.Wf ∧ (s.twist p).firstBad = some x ∧ x + 20000 ≤ s.tick ∧ s.isUp p = true ∧
      (∀ m ∈ s.csc.lastMeas, m.2 < x) :=
  ⟨({ (st [(Fld.GLB_MODE_STATUS_MODE, 5), (Fld.CSC_TW_STATUS_STATE 3, 6), (Fld.CSC_TW_CFG_EN 3, 1), (Fld.CSC_CFG_ROLE, 2), (Fld.CSC_DIM_UP_PORT, 3), (Fld.CSC_CFG_DEPTH, 2), (Fld.CSC_CFG_MASTER_ID, 63), (Fld.CSC_STATUS_SRC_QUALIFIED, 1)]).setTwist 3 { firstBad := some 0 } with tick := 20000 }
    : State), 3, 0, wf_of _ (by decide +kernel), (by decide +kernel), (by decide +kernel), (by decide +kernel), (by decide +kernel)⟩

theorem wit_FailoverAndBulk_11 :
    ∃ (s : State) (p : Fin 4) (lane : Fin 4) (w : Nat × Nat × Packet), s.Wf ∧ s.twState p = 6 ∧ w.2.1 = 0 ∧
      nextPacket (s.twist p).wait (s.twist p).served = some w ∧ s.bulkLane p lane = true ∧ ((s.twist p).failing = false ∨ lane ≠ 1) ∧
      ((sget (fun _ => {}) (s.twist p).lanes lane.val).busyTo ≤ s.tick ∧
      0 < (sget (fun _ => {}) (s.twist p).lanes lane.val).credits) ∧ (∀ l : Fin 4, l < lane → s.bulkLane p l = true →
      ((s.twist p).failing = true ∧ l = 1) ∨ s.tick < (sget (fun _ => {}) (s.twist p).lanes l.val).busyTo ∨
      (sget (fun _ => {}) (s.twist p).lanes l.val).credits = 0) :=
  ⟨({ (st [(Fld.GLB_MODE_STATUS_MODE, 5), (Fld.CSC_TW_STATUS_STATE 3, 6), (Fld.CSC_TW_CFG_EN 3, 1), (Fld.CSC_TW_STATUS_LANES_UP 3, 15), (Fld.CSC_CFG_DEV_ID, 5), (Fld.CSC_CFG_MASTER_ID, 63), (Fld.CSC_CFG_ROLE, 2), (Fld.CSC_ROUTE_VALID 63, 1), (Fld.CSC_ROUTE_PORT 63, 3)]).setTwist 3 { wait := [(2, 0, ⟨63, 5, 0, 7, 0, 0, 8, [(1, 15)]⟩), (3, 0, ⟨63, 5, 3, 9, 2, 0, 0, []⟩)], lanes := [(1, { busyTo := 99 }), (2, { credits := 0 }), (3, { freed := 2 })] } with tick := 8 }
    : State), 3, 3, (3, 0, ⟨63, 5, 3, 9, 2, 0, 0, []⟩), wf_of _ (by decide +kernel), (by decide +kernel), (by decide +kernel),
    (by decide +kernel), (by decide +kernel), (by decide +kernel), (by decide +kernel), (by decide +kernel)⟩

theorem wit_FailoverAndBulk_12 :
    ∃ (s : State) (p : Fin 4) (lane : Fin 4), s.Wf ∧ s.twState p = 6 :=
  ⟨({ st [(Fld.GLB_MODE_STATUS_MODE, 5), (Fld.CSC_TW_STATUS_STATE 3, 6), (Fld.CSC_TW_CFG_EN 3, 1)] with tick := 0 } : State), 3, 3,
    wf_of _ (by decide +kernel), (by decide +kernel)⟩

theorem wit_RemoteAccess_0 :
    ∃ (s : State) (p : Fin 4) (lane : Fin 4) (freed : Fin 16) (dest : Fin 64) (src : Fin 64) (tag : Byte) (space : Fin 4)
      (addr : BitVec 37) (be : Fin 16) (v : Word), s.Wf ∧ s.twState p = 6 ∧ s.bulkRx p lane = true ∧
      dest.val = s.fld Fld.CSC_CFG_DEV_ID ∧ s.bit (Fld.CSC_ROUTE_VALID src) = true ∧
      (src.val ≠ s.fld Fld.CSC_CFG_MASTER_ID ∨ s.bit Fld.CSC_CFG_RRA_EN = false ∨ space ≠ 0) :=
  ⟨({ st [(Fld.GLB_MODE_STATUS_MODE, 5), (Fld.CSC_TW_STATUS_STATE 3, 6), (Fld.CSC_TW_CFG_EN 3, 1), (Fld.CSC_TW_STATUS_LANES_UP 3, 15), (Fld.CSC_CFG_DEV_ID, 5), (Fld.CSC_CFG_MASTER_ID, 63), (Fld.CSC_CFG_ROLE, 2), (Fld.CSC_ROUTE_VALID 63, 1), (Fld.CSC_ROUTE_PORT 63, 3)] with tick := 0 }
    : State), 3, 3, 15, 5, 63, 255, 0, 0x20, 15, 7, wf_of _ (by decide +kernel), (by decide +kernel), (by decide +kernel),
    (by decide +kernel), (by decide +kernel), (by decide +kernel)⟩

theorem wit_RemoteAccess_1 :
    ∃ (s : State) (p : Fin 4) (lane : Fin 4) (freed : Fin 16) (dest : Fin 64) (src : Fin 64) (tag : Byte) (space : Fin 4)
      (addr : BitVec 37) (be : Fin 16) (v : Word) (d : RegDesc), s.Wf ∧ s.twState p = 6 ∧ s.bulkRx p lane = true ∧
      dest.val = s.fld Fld.CSC_CFG_DEV_ID ∧ s.bit (Fld.CSC_ROUTE_VALID src) = true ∧ src.val = s.fld Fld.CSC_CFG_MASTER_ID ∧
      s.bit Fld.CSC_CFG_RRA_EN = true ∧ space = 0 ∧ addr.toNat % 4 = 0 ∧ addr.toNat < 2 ^ 26 ∧ be = 15 ∧ regDesc addr.toNat = some d ∧
      d.half = .none ∧ d.rw = 0xFFFFFFFF ∧ writeActionAt addr.toNat writeActions = none ∧ s.discards addr.toNat v = false ∧
      s.glb.released = true ∧ s.glb.checkOn = false ∧ inSec addr.toNat = false :=
  ⟨({ st [(Fld.GLB_MODE_STATUS_MODE, 5), (Fld.CSC_TW_STATUS_STATE 3, 6), (Fld.CSC_TW_CFG_EN 3, 1), (Fld.CSC_TW_STATUS_LANES_UP 3, 15), (Fld.CSC_CFG_DEV_ID, 5), (Fld.CSC_CFG_MASTER_ID, 63), (Fld.CSC_CFG_ROLE, 2), (Fld.CSC_ROUTE_VALID 63, 1), (Fld.CSC_ROUTE_PORT 63, 3), (Fld.CSC_CFG_RRA_EN, 1)] with tick := 0 }
    : State), 3, 3, 15, 5, 63, 255, 0, BitVec.ofNat 37 Reg.CSC_RRA_DATA, 15, 7, ⟨"CSC_RRA_DATA", 393736, [], .none, 0, 0xFFFFFFFF, 0,
    0, 0, 0⟩, wf_of _ (by decide +kernel), (by decide +kernel), (by decide +kernel), (by decide +kernel), (by decide +kernel),
    (by decide +kernel), (by decide +kernel), (by decide +kernel), (by decide +kernel), (by decide +kernel), (by decide +kernel),
    (by decide +kernel), (by decide +kernel), (by decide +kernel), (by decide +kernel), (by decide +kernel), (by decide +kernel),
    (by decide +kernel), (by decide +kernel)⟩

theorem wit_RemoteAccess_2 :
    ∃ (s : State) (p : Fin 4) (lane : Fin 4) (freed : Fin 16) (dest : Fin 64) (src : Fin 64) (tag : Byte) (space : Fin 4)
      (addr : BitVec 37) (be : Fin 16) (v : Word), s.Wf ∧ s.twState p = 6 ∧ s.bulkRx p lane = true ∧
      dest.val = s.fld Fld.CSC_CFG_DEV_ID ∧ s.bit (Fld.CSC_ROUTE_VALID src) = true ∧ space = 0 ∧ addr.toNat % 4 = 0 ∧
      addr.toNat < 2 ^ 26 ∧ be = 15 ∧ (inSec addr.toNat = true ∨ (addr.toNat = Reg.GLB_MODE_CTL ∧
      fieldGet v Fld.GLB_MODE_CTL_REQ = 7 ∧ s.glb.checkOn = false)) :=
  ⟨({ st [(Fld.GLB_MODE_STATUS_MODE, 5), (Fld.CSC_TW_STATUS_STATE 3, 6), (Fld.CSC_TW_CFG_EN 3, 1), (Fld.CSC_TW_STATUS_LANES_UP 3, 15), (Fld.CSC_CFG_DEV_ID, 5), (Fld.CSC_CFG_MASTER_ID, 63), (Fld.CSC_CFG_ROLE, 2), (Fld.CSC_ROUTE_VALID 63, 1), (Fld.CSC_ROUTE_PORT 63, 3), (Fld.CSC_CFG_RRA_EN, 1)] with tick := 0 }
    : State), 3, 3, 15, 5, 63, 255, 0, BitVec.ofNat 37 Reg.SEC_CMD, 15, 7, wf_of _ (by decide +kernel), (by decide +kernel),
    (by decide +kernel), (by decide +kernel), (by decide +kernel), (by decide +kernel), (by decide +kernel), (by decide +kernel),
    (by decide +kernel), (by decide +kernel)⟩

theorem wit_RemoteAccess_3 :
    ∃ (s : State) (p : Fin 4) (lane : Fin 4) (freed : Fin 16) (dest : Fin 64) (src : Fin 64) (tag : Byte) (space : Fin 4)
      (addr : BitVec 37) (be : Fin 16) (v : Word) (q : Fin 64), s.Wf ∧ s.twState p = 6 ∧ s.bulkRx p lane = true ∧
      dest.val = s.fld Fld.CSC_CFG_DEV_ID ∧ s.bit (Fld.CSC_ROUTE_VALID src) = true ∧ src.val = s.fld Fld.CSC_CFG_MASTER_ID ∧
      s.bit Fld.CSC_CFG_RRA_EN = true ∧ space = 0 ∧ be = 15 ∧ addr.toNat = Reg.HIF_Q_RING_HI q ∧ s.bit (Fld.HIF_Q_CFG_EN q) = true :=
  ⟨({ st [(Fld.GLB_MODE_STATUS_MODE, 5), (Fld.CSC_TW_STATUS_STATE 3, 6), (Fld.CSC_TW_CFG_EN 3, 1), (Fld.CSC_TW_STATUS_LANES_UP 3, 15), (Fld.CSC_CFG_DEV_ID, 5), (Fld.CSC_CFG_MASTER_ID, 63), (Fld.CSC_CFG_ROLE, 2), (Fld.CSC_ROUTE_VALID 63, 1), (Fld.CSC_ROUTE_PORT 63, 3), (Fld.CSC_CFG_RRA_EN, 1), (Fld.HIF_Q_CFG_EN 63, 1)] with tick := 0 }
    : State), 3, 3, 15, 5, 63, 255, 0, BitVec.ofNat 37 (Reg.HIF_Q_RING_HI 63), 15, 7, 63, wf_of _ (by decide +kernel),
    (by decide +kernel), (by decide +kernel), (by decide +kernel), (by decide +kernel), (by decide +kernel), (by decide +kernel),
    (by decide +kernel), (by decide +kernel), (by decide +kernel), (by decide +kernel)⟩

theorem wit_RemoteAccess_4 :
    ∃ (s : State) (p : Fin 4) (lane : Fin 4) (freed : Fin 16) (dest : Fin 64) (src : Fin 64) (tag : Byte) (space : Fin 4)
      (addr : BitVec 37) (d : RegDesc), s.Wf ∧ s.twState p = 6 ∧ s.bulkRx p lane = true ∧ dest.val = s.fld Fld.CSC_CFG_DEV_ID ∧
      s.bit (Fld.CSC_ROUTE_VALID src) = true ∧ src.val = s.fld Fld.CSC_CFG_MASTER_ID ∧ s.bit Fld.CSC_CFG_RRA_EN = true ∧ space = 0 ∧
      addr.toNat % 4 = 0 ∧ addr.toNat < 2 ^ 26 ∧ regDesc addr.toNat = some d ∧ d.half = .none ∧
      elem addr.toNat (Reg.SUP_MADC_RESULT 0) 0x10 2 = none ∧ addr.toNat ≠ Reg.TLN_REEL_FRAC ∧ inSec addr.toNat = false ∧
      s.glb.released = true :=
  ⟨({ st [(Fld.GLB_MODE_STATUS_MODE, 5), (Fld.CSC_TW_STATUS_STATE 3, 6), (Fld.CSC_TW_CFG_EN 3, 1), (Fld.CSC_TW_STATUS_LANES_UP 3, 15), (Fld.CSC_CFG_DEV_ID, 5), (Fld.CSC_CFG_MASTER_ID, 63), (Fld.CSC_CFG_ROLE, 2), (Fld.CSC_ROUTE_VALID 63, 1), (Fld.CSC_ROUTE_PORT 63, 3), (Fld.CSC_CFG_RRA_EN, 1)] with tick := 0 }
    : State), 3, 3, 15, 5, 63, 255, 0, BitVec.ofNat 37 Reg.CSC_RRA_DATA, ⟨"CSC_RRA_DATA", 393736, [], .none, 0, 0xFFFFFFFF, 0, 0, 0,
    0⟩, wf_of _ (by decide +kernel), (by decide +kernel), (by decide +kernel), (by decide +kernel), (by decide +kernel),
    (by decide +kernel), (by decide +kernel), (by decide +kernel), (by decide +kernel), (by decide +kernel), (by decide +kernel),
    (by decide +kernel), (by decide +kernel), (by decide +kernel), (by decide +kernel), (by decide +kernel)⟩

theorem wit_RemoteAccess_5 :
    ∃ (s : State) (p : Fin 4) (lane : Fin 4) (freed : Fin 16) (dest : Fin 64) (src : Fin 64) (tag : Byte) (space : Fin 4)
      (addr : BitVec 37), s.Wf ∧ s.twState p = 6 ∧ s.bulkRx p lane = true ∧ dest.val = s.fld Fld.CSC_CFG_DEV_ID ∧
      s.bit (Fld.CSC_ROUTE_VALID src) = true ∧
      (src.val ≠ s.fld Fld.CSC_CFG_MASTER_ID ∨ s.bit Fld.CSC_CFG_RRA_EN = false ∨ space ≠ 0 ∨ inSec (addr.toNat / 4 * 4) = true) :=
  ⟨({ st [(Fld.GLB_MODE_STATUS_MODE, 5), (Fld.CSC_TW_STATUS_STATE 3, 6), (Fld.CSC_TW_CFG_EN 3, 1), (Fld.CSC_TW_STATUS_LANES_UP 3, 15), (Fld.CSC_CFG_DEV_ID, 5), (Fld.CSC_CFG_MASTER_ID, 63), (Fld.CSC_CFG_ROLE, 2), (Fld.CSC_ROUTE_VALID 63, 1), (Fld.CSC_ROUTE_PORT 63, 3)] with tick := 0 }
    : State), 3, 3, 15, 5, 63, 255, 0, 0, wf_of _ (by decide +kernel), (by decide +kernel), (by decide +kernel), (by decide +kernel),
    (by decide +kernel), (by decide +kernel)⟩

theorem wit_RemoteAccess_6 :
    ∃ (s : State) (p : Fin 4) (lane : Fin 4) (freed : Fin 16) (dest : Fin 64) (src : Fin 64) (tag : Byte) (space : Fin 4)
      (addr : BitVec 37) (v : Word), s.Wf ∧ s.twState p = 6 ∧ s.bulkRx p lane = true ∧ dest.val = s.fld Fld.CSC_CFG_DEV_ID ∧
      s.bit (Fld.CSC_ROUTE_VALID src) = true ∧ src.val = s.fld Fld.CSC_CFG_MASTER_ID ∧ s.bit Fld.CSC_CFG_RRA_EN = true ∧ space = 1 ∧
      addr.toNat % 4 = 0 ∧ addr.toNat < sramSize ∧ s.mode ≠ 0 ∧ (∀ i : Fin 4, s.sramBar (addr.toNat + i.val) = .free) :=
  ⟨({ st [(Fld.GLB_MODE_STATUS_MODE, 5), (Fld.CSC_TW_STATUS_STATE 3, 6), (Fld.CSC_TW_CFG_EN 3, 1), (Fld.CSC_TW_STATUS_LANES_UP 3, 15), (Fld.CSC_CFG_DEV_ID, 5), (Fld.CSC_CFG_MASTER_ID, 63), (Fld.CSC_CFG_ROLE, 2), (Fld.CSC_ROUTE_VALID 63, 1), (Fld.CSC_ROUTE_PORT 63, 3), (Fld.CSC_CFG_RRA_EN, 1), (Fld.GLB_MODE_STATUS_MODE, 3)] with tick := 0 }
    : State), 3, 3, 15, 5, 63, 255, 1, BitVec.ofNat 37 0x3FFFF0, 0x04030201, wf_of _ (by decide +kernel), (by decide +kernel),
    (by decide +kernel), (by decide +kernel), (by decide +kernel), (by decide +kernel), (by decide +kernel), (by decide +kernel),
    (by decide +kernel), (by decide +kernel), (by decide +kernel), (by decide +kernel)⟩

theorem wit_RemoteAccess_7 :
    ∃ (s : State) (p : Fin 4) (lane : Fin 4) (freed : Fin 16) (dest : Fin 64) (src : Fin 64) (tag : Byte) (space : Fin 4)
      (addr : BitVec 37) (v : Word), s.Wf ∧ s.twState p = 6 ∧ s.bulkRx p lane = true ∧ dest.val = s.fld Fld.CSC_CFG_DEV_ID ∧
      s.bit (Fld.CSC_ROUTE_VALID src) = true ∧ src.val = s.fld Fld.CSC_CFG_MASTER_ID ∧ s.bit Fld.CSC_CFG_RRA_EN = true ∧ space = 2 ∧
      addr.toNat % 4 = 0 ∧ (s.mode ≠ 0 ∧ s.mode ≠ 2) :=
  ⟨({ st [(Fld.GLB_MODE_STATUS_MODE, 5), (Fld.CSC_TW_STATUS_STATE 3, 6), (Fld.CSC_TW_CFG_EN 3, 1), (Fld.CSC_TW_STATUS_LANES_UP 3, 15), (Fld.CSC_CFG_DEV_ID, 5), (Fld.CSC_CFG_MASTER_ID, 63), (Fld.CSC_CFG_ROLE, 2), (Fld.CSC_ROUTE_VALID 63, 1), (Fld.CSC_ROUTE_PORT 63, 3), (Fld.CSC_CFG_RRA_EN, 1)] with tick := 0 }
    : State), 3, 3, 15, 5, 63, 255, 2, BitVec.ofNat 37 (dramSize - 4), 0x04030201, wf_of _ (by decide +kernel), (by decide +kernel),
    (by decide +kernel), (by decide +kernel), (by decide +kernel), (by decide +kernel), (by decide +kernel), (by decide +kernel),
    (by decide +kernel), (by decide +kernel)⟩

theorem wit_RemoteAccess_8 :
    ∃ (s : State) (id : Nat) (dest : Fin 64) (src : Fin 64) (tag : Byte) (addr : BitVec 37) (v : Word), s.Wf ∧
      s.mem.held = [(id, .remote (⟨dest.val, src.val, 2, tag.toNat, 0, 2, addr.toNat, [(v, 15)]⟩))] ∧ s.dramWaits (.host id) = false ∧
      s.bit Fld.MEM_STATUS_DRAM_READY = true ∧ s.bit Fld.MEM_STATUS_SELF_REFRESH = false ∧ s.bit (Fld.CSC_ROUTE_VALID src) = true ∧
      addr.toNat % 4 = 0 ∧ s.sec.image = none :=
  ⟨(({ st [(Fld.GLB_MODE_STATUS_MODE, 5), (Fld.CSC_TW_STATUS_STATE 3, 6), (Fld.CSC_TW_CFG_EN 3, 1), (Fld.CSC_TW_STATUS_LANES_UP 3, 15), (Fld.CSC_CFG_DEV_ID, 5), (Fld.CSC_CFG_MASTER_ID, 63), (Fld.CSC_CFG_ROLE, 2), (Fld.CSC_ROUTE_VALID 63, 1), (Fld.CSC_ROUTE_PORT 63, 3), (Fld.CSC_CFG_RRA_EN, 1), (Fld.MEM_STATUS_DRAM_READY, 1)] with tick := 0, mem := { rel.mem with held := [(7, .remote ⟨5, 63, 2, 255, 0, 2, dramSize - 4, [(0x04030201, 15)]⟩)] } }
    : State)), 7, 5, 63, 255, BitVec.ofNat 37 (dramSize - 4), 0x04030201, wf_of _ (by decide +kernel), (by decide +kernel),
    (by decide +kernel), (by decide +kernel), (by decide +kernel), (by decide +kernel), (by decide +kernel), (by decide +kernel)⟩

theorem wit_RemoteAccess_9 :
    ∃ (s : State) (p : Fin 4) (lane : Fin 4) (freed : Fin 16) (dest : Fin 64) (src : Fin 64) (tag : Byte) (space : Fin 4)
      (addr : BitVec 37) (data : List (Word × Fin 16)) (ue : Bool), s.Wf ∧ s.twState p = 6 ∧ s.bulkRx p lane = true ∧
      dest.val = s.fld Fld.CSC_CFG_DEV_ID ∧ s.bit (Fld.CSC_ROUTE_VALID src) = true ∧
      (src.val ≠ s.fld Fld.CSC_CFG_MASTER_ID ∨ s.bit Fld.CSC_CFG_RRA_EN = false ∨ space = 0 ∨ space = 3) :=
  ⟨({ st [(Fld.GLB_MODE_STATUS_MODE, 5), (Fld.CSC_TW_STATUS_STATE 3, 6), (Fld.CSC_TW_CFG_EN 3, 1), (Fld.CSC_TW_STATUS_LANES_UP 3, 15), (Fld.CSC_CFG_DEV_ID, 5), (Fld.CSC_CFG_MASTER_ID, 63), (Fld.CSC_CFG_ROLE, 2), (Fld.CSC_ROUTE_VALID 63, 1), (Fld.CSC_ROUTE_PORT 63, 3)] with tick := 0 }
    : State), 3, 3, 15, 5, 63, 255, 1, 0, [(1, 15)], false, wf_of _ (by decide +kernel), (by decide +kernel), (by decide +kernel),
    (by decide +kernel), (by decide +kernel), (by decide +kernel)⟩

theorem wit_RemoteAccess_10 :
    ∃ (s : State) (path : Path) (target : Fin 64), s.Wf ∧ s.accepts path Reg.CSC_RRA_CTL = true ∧ s.role = 1 ∧
      s.bit Fld.CSC_RRA_STATUS_BUSY = false ∧ s.bit (Fld.CSC_ROUTE_VALID target) = true :=
  ⟨({ st [(Fld.GLB_MODE_STATUS_MODE, 5), (Fld.CSC_TW_STATUS_STATE 3, 6), (Fld.CSC_TW_CFG_EN 3, 1), (Fld.CSC_TW_STATUS_LANES_UP 3, 15), (Fld.CSC_CFG_DEV_ID, 63), (Fld.CSC_CFG_MASTER_ID, 63), (Fld.CSC_CFG_ROLE, 1), (Fld.CSC_ROUTE_VALID 5, 1), (Fld.CSC_ROUTE_PORT 5, 3)] with tick := 0 }
    : State), .bar0, 5, wf_of _ (by decide +kernel), (by decide +kernel), (by decide +kernel), (by decide +kernel),
    (by decide +kernel)⟩

theorem wit_RemoteAccess_11 :
    ∃ (s : State) (path : Path) (target : Fin 64), s.Wf ∧ s.accepts path Reg.CSC_RRA_CTL = true ∧ s.role = 1 ∧
      s.bit Fld.CSC_RRA_STATUS_BUSY = false ∧ s.bit (Fld.CSC_ROUTE_VALID target) = true :=
  ⟨({ st [(Fld.GLB_MODE_STATUS_MODE, 5), (Fld.CSC_TW_STATUS_STATE 3, 6), (Fld.CSC_TW_CFG_EN 3, 1), (Fld.CSC_TW_STATUS_LANES_UP 3, 15), (Fld.CSC_CFG_DEV_ID, 63), (Fld.CSC_CFG_MASTER_ID, 63), (Fld.CSC_CFG_ROLE, 1), (Fld.CSC_ROUTE_VALID 5, 1), (Fld.CSC_ROUTE_PORT 5, 3)] with tick := 0 }
    : State), .bar0, 5, wf_of _ (by decide +kernel), (by decide +kernel), (by decide +kernel), (by decide +kernel),
    (by decide +kernel)⟩

theorem wit_RemoteAccess_12 :
    ∃ (s : State) (path : Path) (target : Fin 64), s.Wf ∧ s.accepts path Reg.CSC_RRA_CTL = true ∧ s.role = 1 ∧
      s.bit Fld.CSC_RRA_STATUS_BUSY = false ∧ s.bit (Fld.CSC_ROUTE_VALID target) = false :=
  ⟨({ st [(Fld.GLB_MODE_STATUS_MODE, 5), (Fld.CSC_TW_STATUS_STATE 3, 6), (Fld.CSC_TW_CFG_EN 3, 1), (Fld.CSC_TW_STATUS_LANES_UP 3, 15), (Fld.CSC_CFG_DEV_ID, 63), (Fld.CSC_CFG_MASTER_ID, 63), (Fld.CSC_CFG_ROLE, 1), (Fld.CSC_ROUTE_VALID 5, 1), (Fld.CSC_ROUTE_PORT 5, 3)] with tick := 0 }
    : State), .bar0, 6, wf_of _ (by decide +kernel), (by decide +kernel), (by decide +kernel), (by decide +kernel),
    (by decide +kernel)⟩

theorem wit_RemoteAccess_13 :
    ∃ (s : State) (x : Nat) (r : Nat) (g : Nat), s.Wf ∧ s.csc.rra = some (x, r, g) ∧ x + 500 * s.fld Fld.CSC_RRA_TIMEOUT_US ≤ s.tick :=
  ⟨({ st [(Fld.GLB_MODE_STATUS_MODE, 5), (Fld.CSC_TW_STATUS_STATE 3, 6), (Fld.CSC_TW_CFG_EN 3, 1), (Fld.CSC_TW_STATUS_LANES_UP 3, 15), (Fld.CSC_CFG_DEV_ID, 63), (Fld.CSC_CFG_MASTER_ID, 63), (Fld.CSC_CFG_ROLE, 1), (Fld.CSC_ROUTE_VALID 5, 1), (Fld.CSC_ROUTE_PORT 5, 3)] with tick := 500000, csc := { rel.csc with rra := some (0, 1, 7) } }
    : State), 0, 1, 7, wf_of _ (by decide +kernel), (by decide +kernel), (by decide +kernel)⟩

theorem wit_RemoteAccess_14 :
    ∃ (s : State) (p : Fin 4) (lane : Fin 4) (freed : Fin 16) (dest : Fin 64) (src : Fin 64) (tag : Byte) (status : Fin 8) (x : Nat)
      (r : Nat) (v : Word), s.Wf ∧ s.twState p = 6 ∧ s.bulkRx p lane = true ∧ dest.val = s.fld Fld.CSC_CFG_DEV_ID ∧
      s.csc.rra = some (x, r, tag.toNat) :=
  ⟨({ st [(Fld.GLB_MODE_STATUS_MODE, 5), (Fld.CSC_TW_STATUS_STATE 3, 6), (Fld.CSC_TW_CFG_EN 3, 1), (Fld.CSC_TW_STATUS_LANES_UP 3, 15), (Fld.CSC_CFG_DEV_ID, 63), (Fld.CSC_CFG_MASTER_ID, 63), (Fld.CSC_CFG_ROLE, 1), (Fld.CSC_ROUTE_VALID 5, 1), (Fld.CSC_ROUTE_PORT 5, 3)] with tick := 0, csc := { (({ st [(Fld.GLB_MODE_STATUS_MODE, 5), (Fld.CSC_TW_STATUS_STATE 3, 6), (Fld.CSC_TW_CFG_EN 3, 1), (Fld.CSC_TW_STATUS_LANES_UP 3, 15), (Fld.CSC_CFG_DEV_ID, 63), (Fld.CSC_CFG_MASTER_ID, 63), (Fld.CSC_CFG_ROLE, 1), (Fld.CSC_ROUTE_VALID 5, 1), (Fld.CSC_ROUTE_PORT 5, 3)] with tick := 0 } : State)).csc with rra := some (0, 1, 255) } }
    : State), 3, 3, 15, 63, 5, 255, 2, 0, 1, 9, wf_of _ (by decide +kernel), (by decide +kernel), (by decide +kernel),
    (by decide +kernel), (by decide +kernel)⟩

theorem wit_RemoteAccess_15 :
    ∃ (s : State) (p : Fin 4) (lane : Fin 4) (freed : Fin 16) (dest : Fin 64) (src : Fin 64) (tag : Byte) (status : Fin 8) (v : Word),
      s.Wf ∧ s.twState p = 6 ∧ s.bulkRx p lane = true ∧ dest.val = s.fld Fld.CSC_CFG_DEV_ID ∧ s.csc.rra = none ∧
      tag.toNat ∈ s.csc.rdmaTags ∧ (status.val ≠ 2 ∨ s.csc.rdmaTags = [tag.toNat]) :=
  ⟨({ st [(Fld.GLB_MODE_STATUS_MODE, 5), (Fld.CSC_TW_STATUS_STATE 3, 6), (Fld.CSC_TW_CFG_EN 3, 1), (Fld.CSC_TW_STATUS_LANES_UP 3, 15), (Fld.CSC_CFG_DEV_ID, 63), (Fld.CSC_CFG_MASTER_ID, 63), (Fld.CSC_CFG_ROLE, 1), (Fld.CSC_ROUTE_VALID 5, 1), (Fld.CSC_ROUTE_PORT 5, 3)] with tick := 0, csc := { (({ st [(Fld.GLB_MODE_STATUS_MODE, 5), (Fld.CSC_TW_STATUS_STATE 3, 6), (Fld.CSC_TW_CFG_EN 3, 1), (Fld.CSC_TW_STATUS_LANES_UP 3, 15), (Fld.CSC_CFG_DEV_ID, 63), (Fld.CSC_CFG_MASTER_ID, 63), (Fld.CSC_CFG_ROLE, 1), (Fld.CSC_ROUTE_VALID 5, 1), (Fld.CSC_ROUTE_PORT 5, 3)] with tick := 0 } : State)).csc with rdmaTags := [255] } }
    : State), 3, 3, 15, 63, 5, 255, 2, 9, wf_of _ (by decide +kernel), (by decide +kernel), (by decide +kernel), (by decide +kernel),
    (by decide +kernel), (by decide +kernel), (by decide +kernel)⟩

theorem wit_RemoteAccess_16 :
    ∃ (s : State) (path : Path) (space : Fin 4) (target : Fin 64) (len : Nat), s.Wf ∧ s.accepts path Reg.CSC_RDMA_CTL = true ∧
      s.role = 1 ∧ s.bit Fld.CSC_RDMA_STATUS_BUSY = false ∧ (space = 1 ∨ space = 2) ∧ s.bit (Fld.CSC_ROUTE_VALID target) = true ∧
      s.fld Fld.CSC_RDMA_LEN_BYTES = len ∧ 0 < len ∧ len % 4 = 0 ∧ s.rd64 Reg.CSC_RDMA_SRC_LO % 4 = 0 ∧
      s.rd64 Reg.CSC_RDMA_DST_LO % 4 = 0 ∧ s.rd64 Reg.CSC_RDMA_SRC_LO + len ≤ dramSize :=
  ⟨(({ st [(Fld.GLB_MODE_STATUS_MODE, 5), (Fld.CSC_TW_STATUS_STATE 3, 6), (Fld.CSC_TW_CFG_EN 3, 1), (Fld.CSC_TW_STATUS_LANES_UP 3, 15), (Fld.CSC_CFG_DEV_ID, 63), (Fld.CSC_CFG_MASTER_ID, 63), (Fld.CSC_CFG_ROLE, 1), (Fld.CSC_ROUTE_VALID 5, 1), (Fld.CSC_ROUTE_PORT 5, 3), (Fld.CSC_RDMA_LEN_BYTES, 8), (⟨Reg.CSC_RDMA_SRC_LO, 0, 32⟩, 0x100), (⟨Reg.CSC_RDMA_DST_LO, 0, 32⟩, 0x200)] with tick := 0 }
    : State)), .bar0, 2, 5, 8, wf_of _ (by decide +kernel), (by decide +kernel), (by decide +kernel), (by decide +kernel),
    (by decide +kernel), (by decide +kernel), (by decide +kernel), (by decide +kernel), (by decide +kernel), (by decide +kernel),
    (by decide +kernel), (by decide +kernel)⟩

theorem wit_RemoteAccess_17 :
    ∃ (s : State) (id : Nat) (space : Nat) (src : Nat) (len : Nat) (dst : Nat) (target : Fin 64), s.Wf ∧
      s.mem.held = [(id, .rdma target space src len dst)] ∧ s.dramWaits (.host id) = false ∧ s.bit Fld.MEM_STATUS_DRAM_READY = true ∧
      s.bit Fld.MEM_STATUS_SELF_REFRESH = false ∧ s.bit Fld.CSC_RDMA_STATUS_BUSY = true ∧ s.csc.rdmaTags = [] ∧
      s.bit (Fld.CSC_ROUTE_VALID target) = true ∧ s.csc.nextTag < 256 ∧ (0 < len ∧ len ≤ 256) ∧ len % 4 = 0 ∧
      s.dramMarked src len = false ∧ s.masks = false :=
  ⟨(({ st [(Fld.GLB_MODE_STATUS_MODE, 5), (Fld.CSC_TW_STATUS_STATE 3, 6), (Fld.CSC_TW_CFG_EN 3, 1), (Fld.CSC_TW_STATUS_LANES_UP 3, 15), (Fld.CSC_CFG_DEV_ID, 63), (Fld.CSC_CFG_MASTER_ID, 63), (Fld.CSC_CFG_ROLE, 1), (Fld.CSC_ROUTE_VALID 5, 1), (Fld.CSC_ROUTE_PORT 5, 3), (Fld.MEM_STATUS_DRAM_READY, 1), (Fld.CSC_RDMA_STATUS_BUSY, 1)] with tick := 0, mem := { rel.mem with held := [(7, .rdma 5 2 0x100 8 0x200)] } }
    : State)), 7, 2, 0x100, 8, 0x200, 5, wf_of _ (by decide +kernel), (by decide +kernel), (by decide +kernel), (by decide +kernel),
    (by decide +kernel), (by decide +kernel), (by decide +kernel), (by decide +kernel), (by decide +kernel), (by decide +kernel),
    (by decide +kernel), (by decide +kernel), (by decide +kernel)⟩

theorem wit_RemoteAccess_18 :
    ∃ (s : State) (id : Nat) (space : Nat) (src : Nat) (len : Nat) (dst : Nat) (target : Fin 64), s.Wf ∧
      s.mem.held = [(id, .rdma target space src len dst)] ∧ s.dramWaits (.host id) = false ∧ s.bit Fld.MEM_STATUS_DRAM_READY = true ∧
      s.bit Fld.MEM_STATUS_SELF_REFRESH = false ∧ s.bit Fld.CSC_RDMA_STATUS_BUSY = true ∧ s.csc.rdmaTags = [] ∧
      s.bit (Fld.CSC_ROUTE_VALID target) = true ∧ s.csc.nextTag < 256 ∧ s.dramMarked src len = false :=
  ⟨(({ st [(Fld.GLB_MODE_STATUS_MODE, 5), (Fld.CSC_TW_STATUS_STATE 3, 6), (Fld.CSC_TW_CFG_EN 3, 1), (Fld.CSC_TW_STATUS_LANES_UP 3, 15), (Fld.CSC_CFG_DEV_ID, 63), (Fld.CSC_CFG_MASTER_ID, 63), (Fld.CSC_CFG_ROLE, 1), (Fld.CSC_ROUTE_VALID 5, 1), (Fld.CSC_ROUTE_PORT 5, 3), (Fld.MEM_STATUS_DRAM_READY, 1), (Fld.CSC_RDMA_STATUS_BUSY, 1)] with tick := 0, mem := { rel.mem with held := [(7, .rdma 5 2 0x100 516 0x200)] } }
    : State)), 7, 2, 0x100, 516, 0x200, 5, wf_of _ (by decide +kernel), (by decide +kernel), (by decide +kernel), (by decide +kernel),
    (by decide +kernel), (by decide +kernel), (by decide +kernel), (by decide +kernel), (by decide +kernel), (by decide +kernel)⟩

theorem wit_RemoteAccess_19 :
    ∃ (s : State) (path : Path) (space : Fin 4) (target : Fin 64), s.Wf ∧ s.accepts path Reg.CSC_RDMA_CTL = true ∧ s.role = 1 ∧
      s.bit Fld.CSC_RDMA_STATUS_BUSY = false ∧ (space = 0 ∨ space = 3 ∨ s.bit (Fld.CSC_ROUTE_VALID target) = false) :=
  ⟨(({ st [(Fld.GLB_MODE_STATUS_MODE, 5), (Fld.CSC_TW_STATUS_STATE 3, 6), (Fld.CSC_TW_CFG_EN 3, 1), (Fld.CSC_TW_STATUS_LANES_UP 3, 15), (Fld.CSC_CFG_DEV_ID, 63), (Fld.CSC_CFG_MASTER_ID, 63), (Fld.CSC_CFG_ROLE, 1), (Fld.CSC_ROUTE_VALID 5, 1), (Fld.CSC_ROUTE_PORT 5, 3)] with tick := 0 }
    : State)), .bar0, 2, 6, wf_of _ (by decide +kernel), (by decide +kernel), (by decide +kernel), (by decide +kernel),
    (by decide +kernel)⟩

theorem wit_RemoteAccess_20 :
    ∃ (s : State), s.Wf ∧ s.bit Fld.CSC_RDMA_STATUS_BUSY = true ∧ s.csc.rdmaTick + 500 * s.fld Fld.CSC_RRA_TIMEOUT_US ≤ s.tick :=
  ⟨({ st [(Fld.GLB_MODE_STATUS_MODE, 5), (Fld.CSC_TW_STATUS_STATE 3, 6), (Fld.CSC_TW_CFG_EN 3, 1), (Fld.CSC_TW_STATUS_LANES_UP 3, 15), (Fld.CSC_CFG_DEV_ID, 63), (Fld.CSC_CFG_MASTER_ID, 63), (Fld.CSC_CFG_ROLE, 1), (Fld.CSC_ROUTE_VALID 5, 1), (Fld.CSC_ROUTE_PORT 5, 3), (Fld.CSC_RDMA_STATUS_BUSY, 1)] with tick := 500000 }
    : State), wf_of _ (by decide +kernel), (by decide +kernel), (by decide +kernel)⟩

theorem wit_BobbinControl_0 :
    ∃ (s : State) (b : Fin 32) (path : Path) (v : Word), s.Wf ∧ s.accepts path Reg.BOB_ARM = true ∧ v.getLsbD b = true ∧
      s.bit (Fld.BOB_CFG_EN b) = true ∧ (s.mode = 5 ∨ s.mode = 6) ∧ (s.bobState b = 0 ∨ s.bobState b = 4) ∧
      (s.bobbin b).capEnd ≤ s.bobRd b :=
  ⟨((st [(Fld.GLB_MODE_STATUS_MODE, 5), (Fld.BOB_CFG_EN 31, 1), (Fld.BOB_STATUS_STATE 31, 4), (⟨Reg.BOB_WR_LO 31, 0, 32⟩, 77)]).setBob
    31 { hist := 9 }), 31, .bar0, 0x80000000, wf_of _ (by decide +kernel), (by decide +kernel), (by decide +kernel),
    (by decide +kernel), (by decide +kernel), (by decide +kernel), (by decide +kernel)⟩

theorem wit_BobbinControl_1 :
    ∃ (s : State) (b : Fin 32) (path : Path) (v : Word), s.Wf ∧ s.accepts path Reg.BOB_ARM = true ∧ v.getLsbD b = true ∧
      s.bit (Fld.BOB_CFG_EN b) = true ∧ (s.mode = 5 ∨ s.mode = 6) ∧ (s.bobState b = 0 ∨ s.bobState b = 4) ∧
      s.bobRd b < (s.bobbin b).capEnd ∧ s.spills b = false ∧ s.bobNeeds b ≤ s.bobFree b :=
  ⟨((st [(Fld.GLB_MODE_STATUS_MODE, 5), (Fld.BOB_CFG_EN 31, 1), (Fld.BOB_STATUS_STATE 31, 4), (⟨Reg.BOB_WR_LO 31, 0, 32⟩, 77)]).setBob
    31 { hist := 9, capEnd := 70 }), 31, .bar0, 0x80000000, wf_of _ (by decide +kernel), (by decide +kernel), (by decide +kernel),
    (by decide +kernel), (by decide +kernel), (by decide +kernel), (by decide +kernel), (by decide +kernel), (by decide +kernel)⟩

theorem wit_BobbinControl_2 :
    ∃ (s : State) (b : Fin 32) (path : Path) (v : Word), s.Wf ∧ s.accepts path Reg.BOB_ARM = true ∧
      (v.getLsbD b = false ∨ s.bit (Fld.BOB_CFG_EN b) = false ∨ (s.mode ≠ 5 ∧ s.mode ≠ 6) ∨ (s.bobState b ≠ 0 ∧ s.bobState b ≠ 4)) :=
  ⟨((st [(Fld.GLB_MODE_STATUS_MODE, 5), (Fld.BOB_CFG_EN 31, 1), (Fld.BOB_STATUS_STATE 31, 3)]).setBob 31 { hist := 9 }), 31, .bar0,
    0x80000000, wf_of _ (by decide +kernel), (by decide +kernel), (by decide +kernel)⟩

theorem wit_BobbinControl_3 :
    ∃ (s : State) (b : Fin 32) (path : Path) (v : Word), s.Wf ∧ s.accepts path Reg.BOB_DISARM = true ∧ v.getLsbD b = true :=
  ⟨((st [(Fld.GLB_MODE_STATUS_MODE, 5), (Fld.BOB_CFG_EN 31, 1), (Fld.BOB_STATUS_STATE 31, 2), (⟨Reg.BOB_WR_LO 31, 0, 32⟩, 770),
    (Fld.BOB_CFG_SPILL_EN 31, 1)]).setBob 31 { cap := some ⟨100, 3, 7, 2 ^ 40, 2, 4, true, false⟩ }), 31, .bar0, 0x80000000, wf_of _
    (by decide +kernel), (by decide +kernel), (by decide +kernel)⟩

theorem wit_BobbinControl_4 :
    ∃ (s : State) (b : Fin 32) (path : Path) (v : Word), s.Wf ∧ s.accepts path Reg.BOB_FORCE = true ∧ v.getLsbD b = true ∧
      (s.bobState b = 1 ∨ s.bobState b = 2) :=
  ⟨(st [(Fld.GLB_MODE_STATUS_MODE, 5), (Fld.BOB_CFG_EN 31, 1), (Fld.BOB_STATUS_STATE 31, 1)]), 31, .bar0, 0x80000000, wf_of _
    (by decide +kernel), (by decide +kernel), (by decide +kernel), (by decide +kernel)⟩

theorem wit_BobbinControl_5 :
    ∃ (s : State) (b : Fin 32) (path : Path) (v : Word), s.Wf ∧ s.accepts path (Reg.BOB_CMD b) = true ∧ v.getLsbD 0 = true ∧
      (s.bobState b = 0 ∨ s.bobState b = 4) :=
  ⟨(((st [(Fld.GLB_MODE_STATUS_MODE, 5), (Fld.BOB_CFG_EN 31, 1), (Fld.BOB_STATUS_STATE 31, 4), (⟨Reg.BOB_WR_LO 31, 0, 32⟩, 77),
    (⟨Reg.BOB_DIR 31 255 7, 0, 32⟩, 77)]).setBob 31 { hist := 9 }).putSramBytes (bobRingBase 31) [1, 2, 3]), 31, .bar0, 1, wf_of _
    (by decide +kernel), (by decide +kernel), (by decide +kernel), (by decide +kernel)⟩

theorem wit_BobbinControl_6 :
    ∃ (s : State) (b : Fin 32) (path : Path) (v : Word), s.Wf ∧ s.accepts path (Reg.BOB_CMD b) = true ∧
      (v.getLsbD 0 = false ∨ (s.bobState b ≠ 0 ∧ s.bobState b ≠ 4)) :=
  ⟨(st [(Fld.GLB_MODE_STATUS_MODE, 5), (Fld.BOB_CFG_EN 31, 1), (Fld.BOB_STATUS_STATE 31, 1)]), 31, .bar0, 1, wf_of _
    (by decide +kernel), (by decide +kernel), (by decide +kernel)⟩

theorem wit_BobbinControl_7 :
    ∃ (s : State) (b : Fin 32) (path : Path) (v : BitVec 64), s.Wf ∧ s.accepts path (Reg.BOB_RD_HI b) = true ∧ s.bobState b ≠ 1 ∧
      s.bobRd b ≤ v.toNat ∧ (v.toNat ≤ (if s.spills b = true then s.bobSpilled b else s.bobWr b)) :=
  ⟨(st [(Fld.GLB_MODE_STATUS_MODE, 5), (Fld.BOB_CFG_EN 31, 1), (Fld.BOB_STATUS_STATE 31, 2), (⟨Reg.BOB_WR_LO 31, 0, 32⟩, 77)]), 31,
    .bar0, 77, wf_of _ (by decide +kernel), (by decide +kernel), (by decide +kernel), (by decide +kernel), (by decide +kernel)⟩

theorem wit_BobbinControl_8 :
    ∃ (s : State) (b : Fin 32) (path : Path) (v : BitVec 64), s.Wf ∧ s.accepts path (Reg.BOB_RD_HI b) = true ∧
      (v.toNat < s.bobRd b ∨ (if s.spills b = true then s.bobSpilled b else s.bobWr b) < v.toNat) :=
  ⟨(st [(Fld.GLB_MODE_STATUS_MODE, 5), (Fld.BOB_CFG_EN 31, 1), (Fld.BOB_STATUS_STATE 31, 2), (⟨Reg.BOB_WR_LO 31, 0, 32⟩, 77)]), 31,
    .bar0, 78, wf_of _ (by decide +kernel), (by decide +kernel), (by decide +kernel)⟩

theorem wit_BobbinControl_9 :
    ∃ (s : State) (b : Fin 32) (path : Path) (v : Word), s.Wf ∧ s.accepts path (Reg.BOB_DIR_HEAD b) = true :=
  ⟨(st [(Fld.GLB_MODE_STATUS_MODE, 5), (Fld.BOB_CFG_EN 31, 1), (Fld.BOB_DIR_HEAD_PENDING 31, 256)]), 31, .bar0, 0xFE800000, wf_of _
    (by decide +kernel), (by decide +kernel)⟩

theorem wit_BobbinControl_10 :
    ∃ (s : State) (b : Fin 32), s.Wf ∧ s.bobState b = 1 ∧ s.bit (Fld.BOB_CFG_AUTO b) = true ∧ (s.bobbin b).autoDone = false ∧
      (s.bobbin b).armReel + s.fld (Fld.BOB_AUTO_TMO_COUNT b) % 65536 * 1000 * 2 ^ 32 ≤ s.tln.reel :=
  ⟨({ (st [(Fld.GLB_MODE_STATUS_MODE, 5), (Fld.BOB_CFG_EN 31, 1), (Fld.BOB_STATUS_STATE 31, 1), (Fld.BOB_CFG_AUTO 31, 1), (Fld.BOB_AUTO_TMO_COUNT 31, 2)]) with tick := 0, tln := { rel.tln with reel := 2000 * 2 ^ 32 } }
    : State), 31, wf_of _ (by decide +kernel), (by decide +kernel), (by decide +kernel), (by decide +kernel), (by decide +kernel)⟩

theorem wit_BobbinControl_11 :
    ∃ (s : State) (b : Fin 32), s.Wf ∧ (s.bobState b = 3 ∨ (s.bobState b = 2 ∧ (s.bobbin b).cap = none ∧
      ∃ x ∈ (s.bobbin b).rearm, x ≤ s.tick)) ∧ s.fld (Fld.BOB_DIR_HEAD_PENDING b) < 256 ∧ s.bobNeeds b ≤ s.bobFree b ∧
      (s.spills b = false ∨ (s.bobbin b).capEnd ≤ s.bobRd b) :=
  ⟨(st [(Fld.GLB_MODE_STATUS_MODE, 5), (Fld.BOB_CFG_EN 31, 1), (Fld.BOB_STATUS_STATE 31, 3), (Fld.BOB_STATUS_SPACE_LOW 31, 1),
    (Fld.BOB_DIR_HEAD_PENDING 31, 255)]), 31, wf_of _ (by decide +kernel), (by decide +kernel), (by decide +kernel),
    (by decide +kernel), (by decide +kernel)⟩

theorem wit_BobbinControl_12 :
    ∃ (s : State) (b : Fin 32), s.Wf ∧ (s.bobState b = 3 ∨ (s.bobState b = 2 ∧ (s.bobbin b).cap = none ∧
      ∃ x ∈ (s.bobbin b).rearm, x ≤ s.tick)) ∧ (256 ≤ s.fld (Fld.BOB_DIR_HEAD_PENDING b) ∨ s.bobFree b < s.bobNeeds b) :=
  ⟨((st [(Fld.GLB_MODE_STATUS_MODE, 5), (Fld.BOB_CFG_EN 31, 1), (Fld.BOB_STATUS_STATE 31, 2),
    (⟨Reg.BOB_WR_LO 31, 0, 32⟩, 655360)]).setBob 31 { rearm := some 0 }), 31, wf_of _ (by decide +kernel), (by decide +kernel),
    (by decide +kernel)⟩

theorem wit_BobbinControl_13 :
    ∃ (s : State) (b : Fin 32), s.Wf ∧ (s.bobState b = 3 ∨ (s.bobState b = 2 ∧ (s.bobbin b).cap = none ∧
      ∃ x ∈ (s.bobbin b).rearm, x ≤ s.tick)) ∧ s.fld (Fld.BOB_DIR_HEAD_PENDING b) < 256 ∧ s.bobNeeds b ≤ s.bobFree b ∧
      s.spills b = true ∧ s.bobRd b < (s.bobbin b).capEnd ∧ ((s.bobbin b).spill = [] ∧ (s.bobbin b).todo = []) ∧
      s.bobNeeds b ≤ min (bobRingSize - (s.bobWr b - s.bobHist b)) (s.spillArea b - (s.bobHist b - s.bobRd b)) :=
  ⟨((st [(Fld.GLB_MODE_STATUS_MODE, 5), (Fld.BOB_CFG_EN 31, 1), (Fld.BOB_STATUS_STATE 31, 3), (Fld.BOB_CFG_SPILL_EN 31, 1),
    (Fld.BOB_SPILL_SIZE_VALUE 31, 9), (⟨Reg.BOB_WR_LO 31, 0, 32⟩, 96), (⟨Reg.BOB_SPILLED_LO 31, 0, 32⟩, 60)]).setBob 31
    { capEnd := 60, hist := 2 }), 31, wf_of _ (by decide +kernel), (by decide +kernel), (by decide +kernel), (by decide +kernel),
    (by decide +kernel), (by decide +kernel), (by decide +kernel), (by decide +kernel)⟩

theorem wit_BobbinControl_14 :
    ∃ (s : State) (b : Fin 32), s.Wf ∧ (s.bobState b = 3 ∨ (s.bobState b = 2 ∧ (s.bobbin b).cap = none ∧
      ∃ x ∈ (s.bobbin b).rearm, x ≤ s.tick)) ∧ s.fld (Fld.BOB_DIR_HEAD_PENDING b) < 256 ∧ s.bobNeeds b ≤ s.bobFree b ∧
      s.spills b = true ∧ s.bobRd b < (s.bobbin b).capEnd ∧ ((s.bobbin b).spill ≠ [] ∨ (s.bobbin b).todo ≠ []) :=
  ⟨((st [(Fld.GLB_MODE_STATUS_MODE, 5), (Fld.BOB_CFG_EN 31, 1), (Fld.BOB_STATUS_STATE 31, 3), (Fld.BOB_CFG_SPILL_EN 31, 1),
    (Fld.BOB_SPILL_SIZE_VALUE 31, 9), (⟨Reg.BOB_WR_LO 31, 0, 32⟩, 96), (⟨Reg.BOB_SPILLED_LO 31, 0, 32⟩, 40)]).setBob 31
    { capEnd := 60, hist := 2, todo := [(40, 60)] }), 31, wf_of _ (by decide +kernel), (by decide +kernel), (by decide +kernel),
    (by decide +kernel), (by decide +kernel), (by decide +kernel), (by decide +kernel)⟩

theorem wit_BobbinControl_15 :
    ∃ (s : State) (b : Fin 32) (e : BobEnd) (l : List BobEnd), s.Wf ∧ (s.bobbin b).ended = e :: l ∧ e.tick < s.tick ∧
      s.fld (Fld.BOB_DIR_HEAD_PENDING b) < 256 ∧ (s.spills b = false ∨ e.soon = true ∨ ∃ x ∈ e.spilled, x < s.tick) :=
  ⟨({ ((st [(Fld.GLB_MODE_STATUS_MODE, 5), (Fld.BOB_CFG_EN 31, 1), (Fld.BOB_STATUS_STATE 31, 2), (Fld.BOB_DIR_HEAD_PENDING 31, 255), (Fld.BOB_DIR_HEAD_NEXT 31, 255)]).setBob 31 { ended := [⟨0, 9, ⟨100, 3, 7, 2 ^ 40, 2, 4, true, false⟩, 3, 7, 0, false, true, none, [], [], [], []⟩] }) with tick := 1 }
    : State), 31, ⟨0, 9, ⟨100, 3, 7, 2 ^ 40, 2, 4, true, false⟩, 3, 7, 0, false, true, none, [], [], [], []⟩, [], wf_of _
    (by decide +kernel), (by decide +kernel), (by decide +kernel), (by decide +kernel), (by decide +kernel)⟩

theorem wit_BobbinControl_16 :
    ∃ (s : State) (b : Fin 32) (e : BobEnd) (l : List BobEnd), s.Wf ∧ (s.bobbin b).ended = e :: l ∧
      (s.fld (Fld.BOB_DIR_HEAD_PENDING b) = 256 ∨ s.tick ≤ e.tick ∨ (s.spills b = true ∧ e.soon = false ∧
      ∀ x ∈ e.spilled, s.tick ≤ x)) :=
  ⟨({ ((st [(Fld.GLB_MODE_STATUS_MODE, 5), (Fld.BOB_CFG_EN 31, 1), (Fld.BOB_STATUS_STATE 31, 2), (Fld.BOB_DIR_HEAD_PENDING 31, 256)]).setBob 31 { ended := [⟨0, 9, ⟨100, 3, 7, 2 ^ 40, 2, 4, true, false⟩, 3, 7, 0, false, true, none, [], [], [], []⟩] }) with tick := 1 }
    : State), 31, ⟨0, 9, ⟨100, 3, 7, 2 ^ 40, 2, 4, true, false⟩, 3, 7, 0, false, true, none, [], [], [], []⟩, [], wf_of _
    (by decide +kernel), (by decide +kernel), (by decide +kernel)⟩

theorem wit_BobbinControl_17 :
    ∃ (s : State) (b : Fin 32) (c : BobCap) (a : Nat), s.Wf ∧ s.spills b = true ∧ (s.bobbin b).todo = [] ∧ (s.bobbin b).cap = some c ∧
      a = max (s.bobbin b).issued c.start ∧ a + 4096 ≤ s.bobWr b ∧ a + 4096 - s.bobRd b ≤ s.spillArea b :=
  ⟨((st [(Fld.GLB_MODE_STATUS_MODE, 5), (Fld.BOB_CFG_EN 31, 1), (Fld.BOB_CFG_SPILL_EN 31, 1), (Fld.BOB_SPILL_SIZE_VALUE 31, 2),
    (⟨Reg.BOB_WR_LO 31, 0, 32⟩, 4196)]).setBob 31 { cap := some ⟨100, 3, 7, 2 ^ 40, 2, 4, true, false⟩ }), 31,
    ⟨100, 3, 7, 2 ^ 40, 2, 4, true, false⟩, 100, wf_of _ (by decide +kernel), (by decide +kernel), (by decide +kernel),
    (by decide +kernel), (by decide +kernel), (by decide +kernel), (by decide +kernel)⟩

theorem wit_BobbinControl_18 :
    ∃ (s : State) (b : Fin 32) (a : Nat) (z : Nat) (l : List (Nat × Nat)), s.Wf ∧ s.spills b = true ∧
      (s.bobbin b).todo = (a, z) :: l ∧ a < z ∧ a + min 4096 (z - a) - s.bobRd b ≤ s.spillArea b :=
  ⟨((st [(Fld.GLB_MODE_STATUS_MODE, 5), (Fld.BOB_CFG_EN 31, 1), (Fld.BOB_CFG_SPILL_EN 31, 1), (Fld.BOB_SPILL_SIZE_VALUE 31, 2),
    (⟨Reg.BOB_WR_LO 31, 0, 32⟩, 4196)]).setBob 31 { todo := [(100, 140)] }), 31, 100, 140, [], wf_of _ (by decide +kernel),
    (by decide +kernel), (by decide +kernel), (by decide +kernel), (by decide +kernel)⟩

theorem wit_BobbinControl_19 :
    ∃ (s : State) (b : Fin 32) (a : Nat) (z : Nat) (l : List (Nat × Nat)) (e : BobEnd), s.Wf ∧ s.spills b = true ∧
      (s.bobbin b).todo = (a, z) :: l ∧ s.spillArea b < a + min 4096 (z - a) - s.bobRd b :=
  ⟨((st [(Fld.GLB_MODE_STATUS_MODE, 5), (Fld.BOB_CFG_EN 31, 1), (Fld.BOB_CFG_SPILL_EN 31, 1),
    (⟨Reg.BOB_WR_LO 31, 0, 32⟩, 4196)]).setBob 31
    { todo := [(100, 140)], ended := [⟨0, 140, ⟨100, 3, 7, 2 ^ 40, 2, 4, true, false⟩, 3, 7, 0, false, false, none, [], [], [], []⟩] }),
    31, 100, 140, [], ⟨0, 140, ⟨100, 3, 7, 2 ^ 40, 2, 4, true, false⟩, 3, 7, 0, false, false, none, [], [], [], []⟩, wf_of _
    (by decide +kernel), (by decide +kernel), (by decide +kernel), (by decide +kernel)⟩

theorem wit_BobbinControl_20 :
    ∃ (s : State) (b : Fin 32) (c : BobCap), s.Wf ∧ s.spills b = true ∧ (s.bobbin b).todo = [] ∧ (s.bobbin b).cap = some c ∧
      max (s.bobbin b).issued c.start + 4096 ≤ s.bobWr b ∧ s.spillArea b < max (s.bobbin b).issued c.start + 4096 - s.bobRd b :=
  ⟨((st [(Fld.GLB_MODE_STATUS_MODE, 5), (Fld.BOB_CFG_EN 31, 1), (Fld.BOB_CFG_SPILL_EN 31, 1), (Fld.BOB_SPILL_SIZE_VALUE 31, 1),
    (⟨Reg.BOB_WR_LO 31, 0, 32⟩, 8192)]).setBob 31 { issued := 1, cap := some ⟨100, 3, 7, 2 ^ 40, 2, 4, true, false⟩ }), 31,
    ⟨100, 3, 7, 2 ^ 40, 2, 4, true, false⟩, wf_of _ (by decide +kernel), (by decide +kernel), (by decide +kernel),
    (by decide +kernel), (by decide +kernel), (by decide +kernel)⟩

theorem wit_BobbinControl_21 :
    ∃ (s : State) (b : Fin 32) (pos : Nat) (len : Nat) (l : List (Nat × Nat)), s.Wf ∧ (s.bobbin b).spill = (pos, len) :: l ∧
      s.dramWaits (.spill b pos) = false ∧ (s.bobState b ≠ 1 ∧ s.bobState b ≠ 3) ∧ pos + len < 2 ^ 64 ∧
      (0 < len ∧ len ≤ s.spillArea b) ∧ s.rd64 (Reg.BOB_SPILL_BASE_LO b) + s.spillArea b ≤ dramSize ∧ s.sec.image = none :=
  ⟨(((st [(Fld.GLB_MODE_STATUS_MODE, 5), (Fld.BOB_CFG_EN 31, 1), (Fld.BOB_CFG_SPILL_EN 31, 1), (Fld.BOB_SPILL_SIZE_VALUE 31, 1),
    (⟨Reg.BOB_SPILL_BASE_LO 31, 0, 32⟩, 0x1000)]).setBob 31 { spill := [(4094, 4)] }).putSramBytes (bobRingBase 31 + 4094)
    [1, 2, 3, 4]), 31, 4094, 4, [], wf_of _ (by decide +kernel), (by decide +kernel), (by decide +kernel), (by decide +kernel),
    (by decide +kernel), (by decide +kernel), (by decide +kernel), (by decide +kernel)⟩

theorem wit_BobbinControl_22 :
    ∃ (s : State) (b : Fin 32) (pos : Nat) (len : Nat) (l : List (Nat × Nat)), s.Wf ∧ (s.bobbin b).spill = (pos, len) :: l ∧
      s.dramWaits (.spill b pos) = true :=
  ⟨({ ((st [(Fld.GLB_MODE_STATUS_MODE, 5), (Fld.BOB_CFG_EN 31, 1)]).setBob 31 { spill := [(4094, 4)] }) with mem := { rel.mem with reqs := [⟨1, .spill 31 4094, 0, 9, [1, 0, 0, 0], false⟩] } }
    : State), 31, 4094, 4, [], wf_of _ (by decide +kernel), (by decide +kernel), (by decide +kernel)⟩

theorem wit_BobbinItems_0 :
    ∃ (s : State) (b : Fin 32) (it : BobItem) (l : List BobItem), s.Wf ∧ (s.mode = 5 ∨ s.mode = 6) ∧ (s.bobbin b).q = it :: l ∧
      (s.bobbin b).popTick ≠ some s.tick ∧ it.bytes.length = s.itemSize b ∧ s.bobWr b + it.bytes.length < 2 ^ 64 ∧ s.bobState b = 1 ∧
      (s.bobbin b).cap = none ∧ s.identified b it = 0 ∧ (s.bobbin b).capEnd ≤ s.bobRd b :=
  ⟨((st [(Fld.GLB_MODE_STATUS_MODE, 5), (Fld.BOB_CFG_EN 31, 1), (Fld.BOB_STATUS_STATE 31, 1), (Fld.BOB_SRC_KIND 31, 4),
    (Fld.BOB_PRE_COUNT 31, 4), (⟨Reg.BOB_WR_LO 31, 0, 32⟩, 655350), (⟨Reg.BOB_RD_LO 31, 0, 32⟩, 655302)]).setBob 31
    { q := [⟨2 ^ 40, [1, 2, 3, 4, 5, 6, 7, 8, 9, 10, 11, 12, 13, 14, 15, 16], false, false, []⟩], hist := 3 }), 31, ⟨2 ^ 40,
    [1, 2, 3, 4, 5, 6, 7, 8, 9, 10, 11, 12, 13, 14, 15, 16], false, false, []⟩, [], wf_of _ (by decide +kernel), (by decide +kernel),
    (by decide +kernel), (by decide +kernel), (by decide +kernel), (by decide +kernel), (by decide +kernel), (by decide +kernel),
    (by decide +kernel), (by decide +kernel)⟩

theorem wit_BobbinItems_1 :
    ∃ (s : State) (b : Fin 32) (it : BobItem) (l : List BobItem), s.Wf ∧ (s.mode = 5 ∨ s.mode = 6) ∧ (s.bobbin b).q = it :: l ∧
      (s.bobbin b).popTick ≠ some s.tick ∧ it.bytes.length = s.itemSize b ∧ s.bobWr b + it.bytes.length < 2 ^ 64 ∧ s.bobState b = 1 ∧
      s.identified b it ≠ 0 ∧ it.bytes.length ≤ s.ringFree b ∧ (s.spills b = true ∨ 2 * it.bytes.length ≤ s.ringFree b) ∧
      s.fld (Fld.BOB_POST_COUNT b) ≠ 1 ∧ s.violates b 0 it = false :=
  ⟨((st [(Fld.GLB_MODE_STATUS_MODE, 5), (Fld.BOB_CFG_EN 31, 1), (Fld.BOB_STATUS_STATE 31, 1), (Fld.BOB_SRC_KIND 31, 4),
    (Fld.BOB_PRE_COUNT 31, 4), (⟨Reg.BOB_WR_LO 31, 0, 32⟩, 48)]).setBob 31
    { q := [⟨2 ^ 40, [1, 2, 3, 4, 5, 6, 7, 8, 9, 10, 11, 12, 13, 14, 15, 16], false, false, []⟩], hist := 3, marks := [(4, 5)] }), 31,
    ⟨2 ^ 40, [1, 2, 3, 4, 5, 6, 7, 8, 9, 10, 11, 12, 13, 14, 15, 16], false, false, []⟩, [], wf_of _ (by decide +kernel),
    (by decide +kernel), (by decide +kernel), (by decide +kernel), (by decide +kernel), (by decide +kernel), (by decide +kernel),
    (by decide +kernel), (by decide +kernel), (by decide +kernel), (by decide +kernel), (by decide +kernel)⟩

theorem wit_BobbinItems_2 :
    ∃ (s : State) (b : Fin 32) (it : BobItem) (l : List BobItem) (c : BobCap), s.Wf ∧ (s.mode = 5 ∨ s.mode = 6) ∧
      (s.bobbin b).q = it :: l ∧ (s.bobbin b).popTick ≠ some s.tick ∧ it.bytes.length = s.itemSize b ∧
      s.bobWr b + it.bytes.length < 2 ^ 64 ∧ s.bobState b = 2 ∧ (s.bobbin b).cap = some c ∧
      (s.fld (Fld.BOB_POST_COUNT b) = 0 ∨ c.n + 1 < s.fld (Fld.BOB_POST_COUNT b)) ∧ s.identified b it = 0 ∧
      it.bytes.length ≤ s.ringFree b ∧ (s.spills b = true ∨ 2 * it.bytes.length ≤ s.ringFree b) ∧ s.violates b c.n it = false :=
  ⟨((st [(Fld.GLB_MODE_STATUS_MODE, 5), (Fld.BOB_CFG_EN 31, 1), (Fld.BOB_STATUS_STATE 31, 2), (Fld.BOB_SRC_KIND 31, 4),
    (Fld.BOB_POST_COUNT 31, 9)]).setBob 31
    { q := [⟨2 ^ 40, [1, 2, 3, 4, 5, 6, 7, 8, 9, 10, 11, 12, 13, 14, 15, 16], false, false, []⟩], cap := some ⟨100, 3, 7, 2 ^ 40, 2, 4, true, false⟩ }),
    31, ⟨2 ^ 40, [1, 2, 3, 4, 5, 6, 7, 8, 9, 10, 11, 12, 13, 14, 15, 16], false, false, []⟩, [],
    ⟨100, 3, 7, 2 ^ 40, 2, 4, true, false⟩, wf_of _ (by decide +kernel), (by decide +kernel), (by decide +kernel),
    (by decide +kernel), (by decide +kernel), (by decide +kernel), (by decide +kernel), (by decide +kernel), (by decide +kernel),
    (by decide +kernel), (by decide +kernel), (by decide +kernel), (by decide +kernel)⟩

theorem wit_BobbinItems_3 :
    ∃ (s : State) (b : Fin 32) (it : BobItem) (l : List BobItem) (c : BobCap), s.Wf ∧ (s.mode = 5 ∨ s.mode = 6) ∧
      (s.bobbin b).q = it :: l ∧ (s.bobbin b).popTick ≠ some s.tick ∧ it.bytes.length = s.itemSize b ∧
      s.bobWr b + it.bytes.length < 2 ^ 64 ∧ s.bobState b = 2 ∧ (s.bobbin b).cap = some c ∧ (s.bobbin b).queued = none ∧
      s.fld (Fld.BOB_POST_COUNT b) = c.n + 1 ∧ it.bytes.length ≤ s.ringFree b :=
  ⟨((st [(Fld.GLB_MODE_STATUS_MODE, 5), (Fld.BOB_CFG_EN 31, 1), (Fld.BOB_STATUS_STATE 31, 2), (Fld.BOB_SRC_KIND 31, 4),
    (Fld.BOB_POST_COUNT 31, 8)]).setBob 31
    { q := [⟨2 ^ 40, [1, 2, 3, 4, 5, 6, 7, 8, 9, 10, 11, 12, 13, 14, 15, 16], false, false, []⟩], marks := [(4, 5)], cap := some ⟨100, 3, 7, 2 ^ 40, 2, 4, true, false⟩ }),
    31, ⟨2 ^ 40, [1, 2, 3, 4, 5, 6, 7, 8, 9, 10, 11, 12, 13, 14, 15, 16], false, false, []⟩, [],
    ⟨100, 3, 7, 2 ^ 40, 2, 4, true, false⟩, wf_of _ (by decide +kernel), (by decide +kernel), (by decide +kernel),
    (by decide +kernel), (by decide +kernel), (by decide +kernel), (by decide +kernel), (by decide +kernel), (by decide +kernel),
    (by decide +kernel), (by decide +kernel)⟩

theorem wit_BobbinItems_4 :
    ∃ (s : State) (b : Fin 32) (it : BobItem) (l : List BobItem) (c : BobCap), s.Wf ∧ (s.mode = 5 ∨ s.mode = 6) ∧
      (s.bobbin b).q = it :: l ∧ (s.bobbin b).popTick ≠ some s.tick ∧ it.bytes.length = s.itemSize b ∧
      s.bobWr b + it.bytes.length < 2 ^ 64 ∧ s.bobState b = 2 ∧ (s.bobbin b).cap = some c ∧ (s.bobbin b).queued = none ∧
      s.identified b it = 0 ∧ s.ringFree b < it.bytes.length :=
  ⟨((st [(Fld.GLB_MODE_STATUS_MODE, 5), (Fld.BOB_CFG_EN 31, 1), (Fld.BOB_STATUS_STATE 31, 2), (Fld.BOB_SRC_KIND 31, 4),
    (⟨Reg.BOB_WR_LO 31, 0, 32⟩, 655345)]).setBob 31
    { q := [⟨2 ^ 40, [1, 2, 3, 4, 5, 6, 7, 8, 9, 10, 11, 12, 13, 14, 15, 16], false, false, []⟩], cap := some ⟨100, 3, 7, 2 ^ 40, 2, 4, true, false⟩ }),
    31, ⟨2 ^ 40, [1, 2, 3, 4, 5, 6, 7, 8, 9, 10, 11, 12, 13, 14, 15, 16], false, false, []⟩, [],
    ⟨100, 3, 7, 2 ^ 40, 2, 4, true, false⟩, wf_of _ (by decide +kernel), (by decide +kernel), (by decide +kernel),
    (by decide +kernel), (by decide +kernel), (by decide +kernel), (by decide +kernel), (by decide +kernel), (by decide +kernel),
    (by decide +kernel), (by decide +kernel)⟩

theorem wit_BobbinItems_5 :
    ∃ (s : State) (b : Fin 32) (it : BobItem) (l : List BobItem) (c : BobCap), s.Wf ∧ (s.mode = 5 ∨ s.mode = 6) ∧
      (s.bobbin b).q = it :: l ∧ (s.bobbin b).popTick ≠ some s.tick ∧ it.bytes.length = s.itemSize b ∧
      s.bobWr b + it.bytes.length < 2 ^ 64 ∧ s.bobState b = 2 ∧ (s.bobbin b).cap = some c ∧
      (s.fld (Fld.BOB_POST_COUNT b) = 0 ∨ c.n + 1 < s.fld (Fld.BOB_POST_COUNT b)) ∧
      (s.fld (Fld.BOB_CFG_BUSY_POL b) = 0 ∨ s.fld (Fld.BOB_CFG_BUSY_POL b) = 1) ∧ s.identified b it ≠ 0 ∧
      it.bytes.length ≤ s.ringFree b ∧ (s.spills b = true ∨ 2 * it.bytes.length ≤ s.ringFree b) ∧ s.violates b c.n it = false :=
  ⟨((st [(Fld.GLB_MODE_STATUS_MODE, 5), (Fld.BOB_CFG_EN 31, 1), (Fld.BOB_STATUS_STATE 31, 2), (Fld.BOB_SRC_KIND 31, 4),
    (Fld.BOB_POST_COUNT 31, 9), (Fld.BOB_CFG_BUSY_POL 31, 1)]).setBob 31
    { q := [⟨2 ^ 40, [1, 2, 3, 4, 5, 6, 7, 8, 9, 10, 11, 12, 13, 14, 15, 16], false, false, []⟩], marks := [(4, 5)], cap := some ⟨100, 3, 7, 2 ^ 40, 2, 4, true, false⟩ }),
    31, ⟨2 ^ 40, [1, 2, 3, 4, 5, 6, 7, 8, 9, 10, 11, 12, 13, 14, 15, 16], false, false, []⟩, [],
    ⟨100, 3, 7, 2 ^ 40, 2, 4, true, false⟩, wf_of _ (by decide +kernel), (by decide +kernel), (by decide +kernel),
    (by decide +kernel), (by decide +kernel), (by decide +kernel), (by decide +kernel), (by decide +kernel), (by decide +kernel),
    (by decide +kernel), (by decide +kernel), (by decide +kernel), (by decide +kernel), (by decide +kernel)⟩

theorem wit_BobbinItems_6 :
    ∃ (s : State) (b : Fin 32) (it : BobItem) (l : List BobItem) (c : BobCap), s.Wf ∧ (s.mode = 5 ∨ s.mode = 6) ∧
      (s.bobbin b).q = it :: l ∧ (s.bobbin b).popTick ≠ some s.tick ∧ it.bytes.length = s.itemSize b ∧
      s.bobWr b + it.bytes.length < 2 ^ 64 ∧ s.bobState b = 2 ∧ (s.bobbin b).cap = some c ∧ s.fld (Fld.BOB_CFG_BUSY_POL b) = 2 ∧
      s.identified b it ≠ 0 ∧ (s.bobbin b).queued = none ∧ it.bytes.length ≤ s.ringFree b ∧
      (s.spills b = true ∨ 2 * it.bytes.length ≤ s.ringFree b) ∧ s.fld (Fld.BOB_POST_COUNT b) = 0 ∧
      s.bit (Fld.BOB_MASK_CFG_EN b) = false :=
  ⟨((st [(Fld.GLB_MODE_STATUS_MODE, 5), (Fld.BOB_CFG_EN 31, 1), (Fld.BOB_STATUS_STATE 31, 2), (Fld.BOB_SRC_KIND 31, 4),
    (Fld.BOB_CFG_BUSY_POL 31, 2), (Fld.BOB_PRE_COUNT 31, 2), (⟨Reg.BOB_WR_LO 31, 0, 32⟩, 260)]).setBob 31
    { q := [⟨2 ^ 40, [1, 2, 3, 4, 5, 6, 7, 8, 9, 10, 11, 12, 13, 14, 15, 16], false, false, []⟩], marks := [(4, 5)], cap := some ⟨100, 3, 7, 2 ^ 40, 2, 4, true, false⟩ }),
    31, ⟨2 ^ 40, [1, 2, 3, 4, 5, 6, 7, 8, 9, 10, 11, 12, 13, 14, 15, 16], false, false, []⟩, [],
    ⟨100, 3, 7, 2 ^ 40, 2, 4, true, false⟩, wf_of _ (by decide +kernel), (by decide +kernel), (by decide +kernel),
    (by decide +kernel), (by decide +kernel), (by decide +kernel), (by decide +kernel), (by decide +kernel), (by decide +kernel),
    (by decide +kernel), (by decide +kernel), (by decide +kernel), (by decide +kernel), (by decide +kernel), (by decide +kernel)⟩

theorem wit_BobbinItems_7 :
    ∃ (s : State) (b : Fin 32) (it : BobItem) (l : List BobItem) (c : BobCap), s.Wf ∧ (s.mode = 5 ∨ s.mode = 6) ∧
      (s.bobbin b).q = it :: l ∧ (s.bobbin b).popTick ≠ some s.tick ∧ it.bytes.length = s.itemSize b ∧
      s.bobWr b + it.bytes.length < 2 ^ 64 ∧ s.bobState b = 2 ∧ (s.bobbin b).cap = some c ∧
      (s.fld (Fld.BOB_POST_COUNT b) = 0 ∨ c.n + 1 < s.fld (Fld.BOB_POST_COUNT b)) ∧ s.identified b it = 0 ∧
      (s.bobbin b).queued = none ∧ it.bytes.length ≤ s.ringFree b ∧ (s.spills b = true ∨ 2 * it.bytes.length ≤ s.ringFree b) ∧
      s.violates b c.n it = true :=
  ⟨((st [(Fld.GLB_MODE_STATUS_MODE, 5), (Fld.BOB_CFG_EN 31, 1), (Fld.BOB_STATUS_STATE 31, 2), (Fld.BOB_SRC_KIND 31, 1),
    (Fld.BOB_MASK_CFG_EN 31, 1), (Fld.BOB_MASK_CFG_STOP 31, 1), (Fld.BOB_MASK_HI 31 3, 4), (Fld.BOB_MASK_CFG_SHIFT 31, 1)]).setBob 31
    { q := [⟨2 ^ 40, [1, 2], false, false, [5]⟩], cap := some ⟨100, 3, 7, 2 ^ 40, 2, 4, true, false⟩ }), 31,
    ⟨2 ^ 40, [1, 2], false, false, [5]⟩, [], ⟨100, 3, 7, 2 ^ 40, 2, 4, true, false⟩, wf_of _ (by decide +kernel), (by decide +kernel),
    (by decide +kernel), (by decide +kernel), (by decide +kernel), (by decide +kernel), (by decide +kernel), (by decide +kernel),
    (by decide +kernel), (by decide +kernel), (by decide +kernel), (by decide +kernel), (by decide +kernel), (by decide +kernel)⟩

theorem wit_BobbinItems_8 :
    ∃ (s : State) (b : Fin 32) (g : Nat) (h : Fin 2) (grp : List Nat), s.Wf ∧ (s.mode = 5 ∨ s.mode = 6) ∧ s.bobState b = 1 ∧
      s.fld (Fld.BOB_SRC_KIND b) = 1 ∧ (s.bobbin b).marks = [] ∧ (∀ c : Fin 4, s.fld (Fld.BOB_TC_CFG_TYPE b c) = 0) ∧
      (s.bobbin b).capEnd = 0 ∧ s.bobWr b + 64 < 2 ^ 64 ∧ s.sinceSync = 2 * g + h.val + 5 ∧
      (s.acq (s.fld (Fld.BOB_SRC_BASE b))).lastGroup = some g ∧ (s.acq (s.fld (Fld.BOB_SRC_BASE b))).raw.head? = some grp ∧
      grp.length = 64 ∧ (sget (fun _ => none) (s.bobbin b).fed 0 ≠ some s.tick) :=
  ⟨({ (st [(Fld.GLB_MODE_STATUS_MODE, 5), (Fld.BOB_CFG_EN 31, 1), (Fld.BOB_STATUS_STATE 31, 1), (Fld.BOB_SRC_KIND 31, 1), (Fld.BOB_SRC_BASE 31, 31), (Fld.BOB_PRE_COUNT 31, 8), (⟨Reg.BOB_WR_LO 31, 0, 32⟩, 655359)]) with tick := 10, rdo := { rel.rdo with acq := [(31, { raw := [(List.range 64).map (1027 * ·)], lastGroup := some 2 })] } }
    : State), 31, 2, 1, (List.range 64).map (1027 * ·), wf_of _ (by decide +kernel), (by decide +kernel), (by decide +kernel),
    (by decide +kernel), (by decide +kernel), (by decide +kernel), (by decide +kernel), (by decide +kernel), (by decide +kernel),
    (by decide +kernel), (by decide +kernel), (by decide +kernel), (by decide +kernel)⟩

theorem wit_BobbinItems_9 :
    ∃ (s : State) (b : Fin 32) (ws : List Word), s.Wf ∧ (s.mode = 5 ∨ s.mode = 6) ∧ s.bobState b = 1 ∧
      (s.fld (Fld.BOB_SRC_KIND b) = 2 ∨ s.fld (Fld.BOB_SRC_KIND b) = 3) ∧ (s.bobbin b).marks = [] ∧
      (∀ c : Fin 4, s.fld (Fld.BOB_TC_CFG_TYPE b c) = 0) ∧ (s.bobbin b).capEnd = 0 ∧ s.bobWr b + 4 * ws.length < 2 ^ 64 ∧
      ws.length = s.fld (Fld.BOB_SRC_NM1 b) + 1 ∧
      (∀ i ∈ List.range ws.length, (if s.fld (Fld.BOB_SRC_KIND b) = 2 then s.channelArrival (s.fld (Fld.BOB_SRC_BASE b) + i) else
      s.toneArrival (s.fld (Fld.BOB_SRC_BASE b) + i)) = some (ws.getD i 0)) ∧ (sget (fun _ => none) (s.bobbin b).fed 0 ≠ some s.tick) :=
  ⟨({ (st [(Fld.GLB_MODE_STATUS_MODE, 5), (Fld.BOB_CFG_EN 31, 1), (Fld.BOB_STATUS_STATE 31, 1), (Fld.BOB_SRC_KIND 31, 2), (Fld.BOB_SRC_BASE 31, 254), (Fld.BOB_SRC_NM1 31, 1)]) with tick := 31, rdo := { rel.rdo with ch := [(254, { out := [(2, 0x80010002)] }), (255, { out := [(2, 77)] })] } }
    : State), 31, [0x80010002, 77], wf_of _ (by decide +kernel), (by decide +kernel), (by decide +kernel), (by decide +kernel),
    (by decide +kernel), (by decide +kernel), (by decide +kernel), (by decide +kernel), (by decide +kernel), (by decide +kernel),
    (by decide +kernel)⟩

theorem wit_BobbinItems_10 :
    ∃ (s : State) (b : Fin 32) (r : Fin 256), s.Wf ∧ (s.dscCh r).loaded = some s.tick ∧ (∀ q : Fin 256, r ≤ q →
      sget (fun _ => none) (s.bobbin b).fed (1 + q.val) ≠ some s.tick) ∧ (s.mode = 5 ∨ s.mode = 6) ∧
      (s.bobState b = 1 ∨ s.bobState b = 2) ∧ (s.fld (Fld.BOB_SRC_BASE b) ≤ r.val ∧
      r.val ≤ s.fld (Fld.BOB_SRC_BASE b) + s.fld (Fld.BOB_SRC_NM1 b)) ∧ s.fld (Fld.BOB_SRC_KIND b) = 4 ∧ s.bobState b = 1 ∧
      (s.bobbin b).q = [] ∧ (s.bobbin b).popTick ≠ some s.tick ∧ (s.bobbin b).marks = [] ∧
      (∀ c : Fin 4, s.fld (Fld.BOB_TC_CFG_TYPE b c) = 0) ∧ s.bobWr b + 16 < 2 ^ 64 ∧ (s.bobbin b).capEnd ≤ s.bobRd b :=
  ⟨({ (st [(Fld.GLB_MODE_STATUS_MODE, 5), (Fld.BOB_CFG_EN 31, 1), (Fld.BOB_STATUS_STATE 31, 1), (Fld.BOB_SRC_KIND 31, 4), (Fld.BOB_SRC_BASE 31, 37), (⟨Reg.DSC_CH_LAST_DEC 37, 0, 32⟩, 0x86062905), (⟨Reg.DSC_CH_LAST_T_LO 37, 0, 32⟩, 2000254)]) with tick := 0, dsc := [(0, { loaded := some 0 }), (37, { loaded := some 0 })] }
    : State), 31, 37, wf_of _ (by decide +kernel), (by decide +kernel), (by decide +kernel), (by decide +kernel), (by decide +kernel),
    (by decide +kernel), (by decide +kernel), (by decide +kernel), (by decide +kernel), (by decide +kernel), (by decide +kernel),
    (by decide +kernel), (by decide +kernel), (by decide +kernel)⟩

theorem wit_BobbinItems_11 :
    ∃ (s : State) (b : Fin 32) (r : Fin 256) (p : Word), s.Wf ∧ (s.dscCh r).loaded = some s.tick ∧ (∀ q : Fin 256, r ≤ q →
      sget (fun _ => none) (s.bobbin b).fed (1 + q.val) ≠ some s.tick) ∧ (s.mode = 5 ∨ s.mode = 6) ∧
      (s.bobState b = 1 ∨ s.bobState b = 2) ∧ (s.fld (Fld.BOB_SRC_BASE b) ≤ r.val ∧
      r.val ≤ s.fld (Fld.BOB_SRC_BASE b) + s.fld (Fld.BOB_SRC_NM1 b)) ∧ s.fld (Fld.BOB_SRC_KIND b) = 7 ∧ (s.bobbin b).q = [] ∧
      (sget (fun _ => none) (s.bobbin b).prev r = some p) ∧ p.toNat % 4 = (s.rd (Reg.DSC_CH_LAST_DEC r)).toNat % 4 ∧
      p.getLsbD 3 = (s.rd (Reg.DSC_CH_LAST_DEC r)).getLsbD 3 :=
  ⟨({ ((st [(Fld.GLB_MODE_STATUS_MODE, 5), (Fld.BOB_CFG_EN 31, 1), (Fld.BOB_STATUS_STATE 31, 1), (Fld.BOB_SRC_KIND 31, 7), (Fld.BOB_SRC_BASE 31, 37), (⟨Reg.DSC_CH_LAST_DEC 37, 0, 32⟩, 0x86062905)]).setBob 31 { prev := [(37, some 0x87071F01)] }) with tick := 0, dsc := [(0, { loaded := some 0 }), (37, { loaded := some 0 })] }
    : State), 31, 37, 0x87071F01, wf_of _ (by decide +kernel), (by decide +kernel), (by decide +kernel), (by decide +kernel),
    (by decide +kernel), (by decide +kernel), (by decide +kernel), (by decide +kernel), (by decide +kernel), (by decide +kernel),
    (by decide +kernel)⟩

theorem wit_BobbinItems_12 :
    ∃ (s : State) (b : Fin 32) (r : Fin 256) (p : Word), s.Wf ∧ (s.dscCh r).loaded = some s.tick ∧ (∀ q : Fin 256, r ≤ q →
      sget (fun _ => none) (s.bobbin b).fed (1 + q.val) ≠ some s.tick) ∧ (s.mode = 5 ∨ s.mode = 6) ∧
      (s.bobState b = 1 ∨ s.bobState b = 2) ∧ (s.fld (Fld.BOB_SRC_BASE b) ≤ r.val ∧
      r.val ≤ s.fld (Fld.BOB_SRC_BASE b) + s.fld (Fld.BOB_SRC_NM1 b)) ∧ s.fld (Fld.BOB_SRC_KIND b) = 7 ∧ s.bobState b = 1 ∧
      (s.bobbin b).q = [] ∧ (s.bobbin b).lostBefore = false ∧ (s.bobbin b).popTick ≠ some s.tick ∧ (s.bobbin b).marks = [] ∧
      (∀ c : Fin 4, s.fld (Fld.BOB_TC_CFG_TYPE b c) = 0) ∧ s.bobWr b + 16 < 2 ^ 64 ∧ (s.bobbin b).capEnd ≤ s.bobRd b ∧
      (sget (fun _ => none) (s.bobbin b).prev r = some p) ∧ p.toNat % 4 ≠ (s.rd (Reg.DSC_CH_LAST_DEC r)).toNat % 4 :=
  ⟨({ ((st [(Fld.GLB_MODE_STATUS_MODE, 5), (Fld.BOB_CFG_EN 31, 1), (Fld.BOB_STATUS_STATE 31, 1), (Fld.BOB_SRC_KIND 31, 7), (Fld.BOB_SRC_BASE 31, 37), (⟨Reg.DSC_CH_LAST_DEC 37, 0, 32⟩, 0x86062905)]).setBob 31 { prev := [(37, some 0x87071F00)] }) with tick := 0, dsc := [(0, { loaded := some 0 }), (37, { loaded := some 0 })], tln := { rel.tln with reel := 2000254 * 2 ^ 32 } }
    : State), 31, 37, 0x87071F00, wf_of _ (by decide +kernel), (by decide +kernel), (by decide +kernel), (by decide +kernel),
    (by decide +kernel), (by decide +kernel), (by decide +kernel), (by decide +kernel), (by decide +kernel), (by decide +kernel),
    (by decide +kernel), (by decide +kernel), (by decide +kernel), (by decide +kernel), (by decide +kernel), (by decide +kernel),
    (by decide +kernel)⟩

theorem wit_BobbinItems_13 :
    ∃ (s : State) (b : Fin 32) (r : Fin 256), s.Wf ∧ (s.dscCh r).loaded = some s.tick ∧ (∀ q : Fin 256, r ≤ q →
      sget (fun _ => none) (s.bobbin b).fed (1 + q.val) ≠ some s.tick) ∧ (s.mode = 5 ∨ s.mode = 6) ∧
      (s.bobState b = 1 ∨ s.bobState b = 2) ∧ (s.fld (Fld.BOB_SRC_BASE b) ≤ r.val ∧
      r.val ≤ s.fld (Fld.BOB_SRC_BASE b) + s.fld (Fld.BOB_SRC_NM1 b)) ∧
      (s.fld (Fld.BOB_SRC_KIND b) = 4 ∨ s.fld (Fld.BOB_SRC_KIND b) = 5) ∧ (s.bobbin b).q.length = 64 ∧
      (s.bobbin b).popTick = some s.tick :=
  ⟨({ ((st [(Fld.GLB_MODE_STATUS_MODE, 5), (Fld.BOB_CFG_EN 31, 1), (Fld.BOB_STATUS_STATE 31, 1), (Fld.BOB_SRC_KIND 31, 5)]).setBob 31 { popTick := some 0, q := List.replicate 64 ⟨2 ^ 40, [1, 2, 3, 4, 5, 6, 7, 8, 9, 10, 11, 12, 13, 14, 15, 16], false, false, []⟩ }) with tick := 0, dsc := [(0, { loaded := some 0 }), (37, { loaded := some 0 })] }
    : State), 31, 0, wf_of _ (by decide +kernel), (by decide +kernel), (by decide +kernel), (by decide +kernel), (by decide +kernel),
    (by decide +kernel), (by decide +kernel), (by decide +kernel), (by decide +kernel)⟩

theorem wit_BobbinItems_14 :
    ∃ (s : State) (b : Fin 32) (inp : BobInput), s.Wf ∧ ((s.mode ≠ 5 ∧ s.mode ≠ 6) ∨ (s.bobState b ≠ 1 ∧ s.bobState b ≠ 2)) :=
  ⟨((st [(Fld.GLB_MODE_STATUS_MODE, 5), (Fld.BOB_CFG_EN 31, 1), (Fld.BOB_STATUS_STATE 31, 4)]).setBob 31
    { marks := [(4, 0), (3, 2 ^ 60)] }), 31, .raw, wf_of _ (by decide +kernel), (by decide +kernel)⟩

theorem wit_BobbinItems_15 :
    ∃ (s : State) (b : Fin 32) (it : BobItem) (l : List BobItem), s.Wf ∧ (s.mode = 5 ∨ s.mode = 6) ∧ (s.bobbin b).q = it :: l ∧
      (s.bobbin b).popTick ≠ some s.tick ∧ it.bytes.length = s.itemSize b ∧ s.bobWr b + it.bytes.length < 2 ^ 64 ∧ s.bobState b = 2 ∧
      (s.bobbin b).cap = none ∧ s.identified b it ≠ 0 :=
  ⟨((st [(Fld.GLB_MODE_STATUS_MODE, 5), (Fld.BOB_CFG_EN 31, 1), (Fld.BOB_STATUS_STATE 31, 2), (Fld.BOB_SRC_KIND 31, 4)]).setBob 31
    { q := [⟨2 ^ 40, [1, 2, 3, 4, 5, 6, 7, 8, 9, 10, 11, 12, 13, 14, 15, 16], false, false, []⟩], marks := [(4, 5)] }), 31, ⟨2 ^ 40,
    [1, 2, 3, 4, 5, 6, 7, 8, 9, 10, 11, 12, 13, 14, 15, 16], false, false, []⟩, [], wf_of _ (by decide +kernel), (by decide +kernel),
    (by decide +kernel), (by decide +kernel), (by decide +kernel), (by decide +kernel), (by decide +kernel), (by decide +kernel),
    (by decide +kernel)⟩

theorem wit_MemoryErrors_0 :
    ∃ (s : State) (off : Fin 0x4000000), s.Wf :=
  ⟨rel, 0x3FFFFFF, wf_of _ (by decide +kernel)⟩

theorem wit_MemoryErrors_1 :
    ∃ (s : State) (off : Fin 0x4000000), s.Wf :=
  ⟨st [(Fld.GLB_MODE_STATUS_CFG_VALID, 1)], 0x7FFFFF, wf_of _ (by decide +kernel)⟩

theorem wit_MemoryErrors_2 :
    ∃ (s : State) (off : Fin 0x4000000), s.Wf :=
  ⟨rel, 0x3FFFFFF, wf_of _ (by decide +kernel)⟩

theorem wit_MemoryErrors_3 :
    ∃ (s : State) (off : Fin 0x4000000) (x : Fin 640), s.Wf ∧ sramRegion off = 1 :=
  ⟨st [(Fld.GLB_MODE_STATUS_MODE, 3)], 0x800000, 639, wf_of _ (by decide +kernel), (by decide +kernel)⟩

theorem wit_MemoryErrors_4 :
    ∃ (s : State) (off : Fin 0x4000000) (r : Fin 256), s.Wf ∧ sramRegion off = 3 :=
  ⟨(rel.setDscCh 255 { win := some { kset := 1, es := 0, len := 250, g0 := 0, seq := 3, set := [] } }), 0x3400000, 255, wf_of _
    (by decide +kernel), (by decide +kernel)⟩

theorem wit_MemoryErrors_5 :
    ∃ (s : State) (off : Fin 0x4000000) (b : Fin 32), s.Wf ∧ sramRegion off = 2 ∧ (s.bobbin b).spill ≠ [] :=
  ⟨(rel.setBob 31 { spill := [(0, 4096)] }), 0x2000000, 31, wf_of _ (by decide +kernel), (by decide +kernel), (by decide +kernel)⟩

theorem wit_MemoryErrors_6 :
    ∃ (s : State) (off : Fin 0x4000000) (k : Fin 16), s.Wf ∧ sramRegion off = 5 ∧ s.bit (Fld.TLN_LAUNCH_CFG_ARM k) = true :=
  ⟨st [(Fld.TLN_LAUNCH_CFG_ARM 15, 1)], 0x3C00000, 15, wf_of _ (by decide +kernel), (by decide +kernel), (by decide +kernel)⟩

theorem wit_MemoryErrors_7 :
    ∃ (s : State) (off : Fin 0x4000000) (l : Fin 8), s.Wf ∧ sramRegion off = 5 ∧ s.mayRunJob l = true :=
  ⟨st [(Fld.GLB_MODE_STATUS_MODE, 1), (Fld.DRF_LANE_RING_SIZE 7, 2), (Fld.DRF_LANE_TAIL_INDEX 7, 1)], 0x3C00000, 7, wf_of _
    (by decide +kernel), (by decide +kernel), (by decide +kernel)⟩

theorem wit_MemoryErrors_8 :
    ∃ (s : State) (off : Fin 0x4000000) (n : Fin 64), s.Wf ∧ sramRegion off = 0 ∧ s.mayIssue n = true :=
  ⟨wordAt 63 0 ⟨0, 0, .nop⟩, 0x7E0000, 63, wf_of _ (by decide +kernel), (by decide +kernel), (by decide +kernel)⟩

theorem wit_MemoryErrors_9 :
    ∃ (s : State) (off : Fin 0x4000000) (x : Fin 16) (a : Nat) (y : Nat) (l : List (Nat × Nat)), s.Wf ∧ sramRegion off = 4 ∧
      s.lookups x = (y, a) :: l ∧ y + 6 ≤ s.tick ∧ a < 65536 :=
  ⟨({ rel.setLookups 7 [(0, 65535)] with tick := 6 } : State), 0x3A00000, 7, 65535, 0, [], wf_of _ (by decide +kernel),
    (by decide +kernel), (by decide +kernel), (by decide +kernel), (by decide +kernel)⟩

theorem wit_MemoryErrors_10 :
    ∃ (s : State) (off : Fin 0x4000000) (rd : SramReader), s.Wf ∧ readerRegion off rd = false :=
  ⟨rel, 0, .stream 5, wf_of _ (by decide +kernel), (by decide +kernel)⟩

theorem wit_MemoryErrors_11 :
    ∃ (s : State) (dram : Bool), s.Wf :=
  ⟨rel, true, wf_of _ (by decide +kernel)⟩

theorem wit_MemoryErrors_12 :
    ∃ (s : State), s.Wf ∧ s.bit Fld.MEM_STATUS_SRAM_READY = true ∧ s.bit Fld.MEM_STATUS_DRAM_READY = false :=
  ⟨({ (st [(Fld.MEM_STATUS_SRAM_READY, 1)]) with mem := { rel.mem with held := [(4, .write 8 [some 1]), (5, .read 8 2 false)], reqs := [⟨2, .host 4, 0, 0, [1, 0, 0, 0], false⟩] } }
    : State), wf_of _ (by decide +kernel), (by decide +kernel), (by decide +kernel)⟩

theorem wit_MemoryErrors_13 :
    ∃ (s : State) (id : Nat) (a : Nat) (bs : List Byte), s.Wf ∧ s.mem.held = [(id, .write a (bs.map some))] ∧
      s.dramWaits (.host id) = false ∧ s.bit Fld.MEM_STATUS_DRAM_READY = true ∧ s.bit Fld.MEM_STATUS_SELF_REFRESH = false ∧
      a + bs.length ≤ dramSize ∧ s.sec.image = none :=
  ⟨({ (st [(Fld.MEM_STATUS_DRAM_READY, 1)]) with mem := { rel.mem with held := [(7, .write 8 [some 1, some 2, some 3])] } } : State),
    7, 8, [1, 2, 3], wf_of _ (by decide +kernel), (by decide +kernel), (by decide +kernel), (by decide +kernel), (by decide +kernel),
    (by decide +kernel), (by decide +kernel)⟩

theorem wit_MemoryErrors_14 :
    ∃ (s : State) (id : Nat) (a : Nat) (n : Nat), s.Wf ∧ s.mem.held = [(id, .read a n false)] ∧ s.dramWaits (.host id) = false ∧
      s.bit Fld.MEM_STATUS_DRAM_READY = true ∧ s.bit Fld.MEM_STATUS_SELF_REFRESH = false ∧ s.dramMarked a n = false ∧ s.masks = false :=
  ⟨({ (st [(Fld.MEM_STATUS_DRAM_READY, 1)]) with mem := { rel.mem with held := [(7, .read 8 3 false)] } } : State), 7, 8, 3, wf_of _
    (by decide +kernel), (by decide +kernel), (by decide +kernel), (by decide +kernel), (by decide +kernel), (by decide +kernel),
    (by decide +kernel)⟩

theorem wit_MemoryErrors_15 :
    ∃ (s : State) (id : Nat) (a : Nat) (n : Nat) (w : Nat), s.Wf ∧ s.mem.held = [(id, .read a n false)] ∧
      s.dramWaits (.host id) = false ∧ s.bit Fld.MEM_STATUS_DRAM_READY = true ∧ s.bit Fld.MEM_STATUS_SELF_REFRESH = false ∧
      s.mem.badDram = [w] ∧ (a < 8 * w + 8 ∧ 8 * w < a + n) ∧ a + n ≤ dramSize :=
  ⟨({ (st [(Fld.MEM_STATUS_DRAM_READY, 1)]) with mem := { rel.mem with held := [(7, .read 8 3 false)], badDram := [1] } } : State), 7,
    8, 3, 1, wf_of _ (by decide +kernel), (by decide +kernel), (by decide +kernel), (by decide +kernel), (by decide +kernel),
    (by decide +kernel), (by decide +kernel), (by decide +kernel)⟩

theorem wit_MemoryErrors_16 :
    ∃ (s : State), s.Wf ∧ (s.bit Fld.MEM_STATUS_SRAM_READY = false ∨ s.bit Fld.MEM_STATUS_DRAM_READY = true) :=
  ⟨rel, wf_of _ (by decide +kernel), (by decide +kernel)⟩

theorem wit_MemoryErrors_17 :
    ∃ (s : State) (off : Fin 0x2000000000), s.Wf :=
  ⟨rel, 0x1FFFFFFFFF, wf_of _ (by decide +kernel)⟩

theorem wit_MemoryErrors_18 :
    ∃ (s : State) (off : Fin 0x2000000000), s.Wf :=
  ⟨rel, 0x1FFFFFFFFF, wf_of _ (by decide +kernel)⟩

theorem wit_MemoryErrors_19 :
    ∃ (s : State) (off : Fin 0x2000000000), s.Wf :=
  ⟨rel, 0x1FFFFFFFFF, wf_of _ (by decide +kernel)⟩

theorem wit_MemoryErrors_20 :
    ∃ (s : State) (off : Fin 0x2000000000) (r : Fin 64), s.Wf ∧ (s.stream r).reqs ≠ [] :=
  ⟨(rel.setStream 63 { reqs := [(4096, 256)] }), 0x1FFFFFFFFF, 63, wf_of _ (by decide +kernel), (by decide +kernel)⟩

theorem wit_MemoryErrors_21 :
    ∃ (s : State) (off : Fin 0x2000000000) (l : Fin 8) (j : Job), s.Wf ∧ s.job l = some j :=
  ⟨(rel.setJob 7 (some { desc := ⟨1, 0, 0, 1, 0, 8, 0, 99, 0⟩ })), 0, 7, { desc := ⟨1, 0, 0, 1, 0, 8, 0, 99, 0⟩ }, wf_of _
    (by decide +kernel), (by decide +kernel)⟩

theorem wit_MemoryErrors_22 :
    ∃ (s : State) (off : Fin 0x2000000000), s.Wf ∧ s.bit Fld.CSC_RDMA_STATUS_BUSY = true :=
  ⟨st [(Fld.CSC_RDMA_STATUS_BUSY, 1)], 0, wf_of _ (by decide +kernel), (by decide +kernel)⟩

theorem wit_MemoryErrors_23 :
    ∃ (s : State) (off : Fin 0x2000000000) (r : Fin 64), s.Wf ∧ (s.stream r).reqs = [] :=
  ⟨rel, 0x1FFFFFFFFF, 63, wf_of _ (by decide +kernel), (by decide +kernel)⟩

theorem wit_MemoryErrors_24 :
    ∃ (s : State) (off : Fin 0x2000000000) (l : Fin 8), s.Wf ∧ s.job l = none :=
  ⟨rel, 0, 7, wf_of _ (by decide +kernel), (by decide +kernel)⟩

theorem wit_MemoryErrors_25 :
    ∃ (s : State) (off : Fin 0x2000000000), s.Wf ∧ s.bit Fld.CSC_RDMA_STATUS_BUSY = false :=
  ⟨rel, 0, wf_of _ (by decide +kernel), (by decide +kernel)⟩

theorem wit_MemoryErrors_26 :
    ∃ (s : State) (k : Fin 4), s.Wf ∧ (∀ x ∈ sget (fun _ => none) s.mem.lowSince k, s.tick < x + 500000000) :=
  ⟨({ (setLowSince 3 (some 0) rel) with tick := 499999999 } : State), 3, wf_of _ (by decide +kernel), (by decide +kernel)⟩

theorem wit_MemoryErrors_27 :
    ∃ (s : State) (k : Fin 4) (x : Nat), s.Wf ∧ (sget (fun _ => none) s.mem.lowSince k = some x) ∧ x + 500000000 ≤ s.tick :=
  ⟨({ (setLowSince 3 (some 0) (st [(refreshField 3, 2), (Fld.SUP_TS_STATUS_BAND 15, 3)])) with tick := 500000000 } : State), 3, 0,
    wf_of _ (by decide +kernel), (by decide +kernel), (by decide +kernel)⟩

theorem wit_MemoryErrors_28 :
    ∃ (s : State) (k : Fin 4) (q : DramReq), s.Wf ∧
      (s.mem.reqs.find? (fun r => r.waitsAt k && r.cls == 0) = some q ∨ (s.mem.reqs = [q] ∧ s.lapsed q = false)) ∧ q.cls < 4 ∧
      q.left = (List.replicate 4 0).set k 1 ∧ s.bit Fld.MEM_STATUS_DRAM_READY = true ∧ s.bit Fld.MEM_STATUS_SELF_REFRESH = false ∧
      0 < s.grantRoom k :=
  ⟨({ (st [(Fld.MEM_STATUS_DRAM_READY, 1)]) with tick := 6000, tln := { rel.tln with reel := 12000 * 2 ^ 32 }, mem := { rel.mem with reqs := [⟨1, .spill 3 0, 20, 12100 * 2 ^ 32, [0, 1, 0, 2], false⟩, ⟨0, .refill 5 0, 10, 0, [0, 0, 0, 1], true⟩] } }
    : State), 3, ⟨0, .refill 5 0, 10, 0, [0, 0, 0, 1], true⟩, wf_of _ (by decide +kernel), (by decide +kernel), (by decide +kernel),
    (by decide +kernel), (by decide +kernel), (by decide +kernel), (by decide +kernel)⟩

theorem wit_MemoryErrors_29 :
    ∃ (s : State) (k : Fin 4) (q : DramReq) (n : Nat), s.Wf ∧ s.mem.held = [] ∧ q.cls = 0 ∧
      (∀ r ∈ s.mem.reqs, r.cls = 0 → r.waitsAt k = true → r = q) ∧ q ∈ s.mem.reqs ∧ q.waitsAt k = true ∧ q.left.getD k.val 0 = n + 2 ∧
      s.bit Fld.MEM_STATUS_DRAM_READY = true ∧ s.bit Fld.MEM_STATUS_SELF_REFRESH = false ∧ 0 < s.grantRoom k :=
  ⟨({ (st [(Fld.MEM_STATUS_DRAM_READY, 1)]) with tick := 6000, tln := { rel.tln with reel := 12000 * 2 ^ 32 }, mem := { rel.mem with reqs := [⟨1, .spill 3 0, 20, 12100 * 2 ^ 32, [0, 1, 0, 2], false⟩, ⟨0, .refill 5 0, 10, 0, [0, 0, 0, 3], true⟩] } }
    : State), 3, ⟨0, .refill 5 0, 10, 0, [0, 0, 0, 3], true⟩, 1, wf_of _ (by decide +kernel), (by decide +kernel),
    (by decide +kernel), (by decide +kernel), (by decide +kernel), (by decide +kernel), (by decide +kernel), (by decide +kernel),
    (by decide +kernel), (by decide +kernel)⟩

theorem wit_MemoryErrors_30 :
    ∃ (s : State) (k : Fin 4) (q : DramReq) (n : Nat), s.Wf ∧ s.mem.held = [] ∧ (∀ r ∈ s.mem.reqs, r.cls = 0 → r.waitsAt k = false) ∧
      s.urgent q = true ∧ s.lapsed q = false ∧ (∀ r ∈ s.mem.reqs, s.urgent r = true → r.waitsAt k = true →
      s.lapsed r = true ∨ q.deadline < r.deadline ∨ r = q) ∧ q ∈ s.mem.reqs ∧ q.waitsAt k = true ∧ q.left.getD k.val 0 = n + 2 ∧
      s.bit Fld.MEM_STATUS_DRAM_READY = true ∧ s.bit Fld.MEM_STATUS_SELF_REFRESH = false ∧ 0 < s.grantRoom k :=
  ⟨({ (st [(Fld.MEM_STATUS_DRAM_READY, 1), (Fld.MEM_ARB2_C1_GUARD, 200)]) with tick := 6000, tln := { rel.tln with reel := 12000 * 2 ^ 32 }, mem := { rel.mem with reqs := [⟨1, .spill 3 0, 20, 12100 * 2 ^ 32, [0, 1, 0, 2], false⟩, ⟨1, .spill 6 0, 1, 5, [0, 0, 0, 9], false⟩, ⟨2, .host 4, 5990, 0, [0, 0, 0, 3], false⟩, ⟨1, .spill 4 0, 30, 12050 * 2 ^ 32, [0, 0, 0, 2], false⟩] } }
    : State), 3, ⟨1, .spill 4 0, 30, 12050 * 2 ^ 32, [0, 0, 0, 2], false⟩, 0, wf_of _ (by decide +kernel), (by decide +kernel),
    (by decide +kernel), (by decide +kernel), (by decide +kernel), (by decide +kernel), (by decide +kernel), (by decide +kernel),
    (by decide +kernel), (by decide +kernel), (by decide +kernel), (by decide +kernel)⟩

theorem wit_MemoryErrors_31 :
    ∃ (s : State) (k : Fin 4) (q : DramReq) (n : Nat) (left : Nat), s.Wf ∧ s.mem.held = [] ∧
      (∀ r ∈ s.mem.reqs, r.cls = 0 → r.waitsAt k = false) ∧ (∀ r ∈ s.mem.reqs, s.urgent r = true →
      r.waitsAt k = false ∨ s.lapsed r = true) ∧ s.urgent q = false ∧ (∀ r ∈ s.mem.reqs, r.cls = q.cls → r.waitsAt k = true → r = q) ∧
      (sget (fun _ => (3, 0)) s.mem.turn k = (q.cls, left + 1)) ∧ q ∈ s.mem.reqs ∧ q.waitsAt k = true ∧ q.left.getD k.val 0 = n + 2 ∧
      s.bit Fld.MEM_STATUS_DRAM_READY = true ∧ s.bit Fld.MEM_STATUS_SELF_REFRESH = false ∧ 0 < s.grantRoom k :=
  ⟨({ (st [(Fld.MEM_STATUS_DRAM_READY, 1)]) with tick := 6000, tln := { rel.tln with reel := 12000 * 2 ^ 32 }, mem := { rel.mem with reqs := [⟨3, .job 2, 5, 0, [0, 0, 0, 3], false⟩, ⟨2, .host 4, 5990, 0, [0, 0, 0, 3], false⟩], turn := [(3, (2, 7))] } }
    : State), 3, ⟨2, .host 4, 5990, 0, [0, 0, 0, 3], false⟩, 1, 6, wf_of _ (by decide +kernel), (by decide +kernel),
    (by decide +kernel), (by decide +kernel), (by decide +kernel), (by decide +kernel), (by decide +kernel), (by decide +kernel),
    (by decide +kernel), (by decide +kernel), (by decide +kernel), (by decide +kernel), (by decide +kernel)⟩

theorem wit_MemoryErrors_32 :
    ∃ (s : State) (k : Fin 4), s.Wf ∧ s.mem.held = [] ∧
      ((∀ r ∈ s.mem.reqs, r.waitsAt k = false ∨ s.lapsed r = true) ∨ s.bit Fld.MEM_STATUS_DRAM_READY = false ∨ s.bit
      Fld.MEM_STATUS_SELF_REFRESH = true ∨ s.grantRoom k = 0) :=
  ⟨({ (st [(Fld.MEM_STATUS_DRAM_READY, 1)]) with tick := 6000, tln := { rel.tln with reel := 12000 * 2 ^ 32 }, mem := { rel.mem with reqs := [⟨3, .job 2, 5, 0, [0, 0, 0, 3], false⟩, ⟨2, .host 4, 5990, 0, [0, 0, 0, 3], false⟩] } }
    : State), 2, wf_of _ (by decide +kernel), (by decide +kernel), (by decide +kernel)⟩

theorem wit_MemoryErrors_33 :
    ∃ (s : State), s.Wf ∧ (s.bit Fld.MEM_STATUS_DRAM_READY = false ∨ s.bit Fld.MEM_STATUS_SELF_REFRESH = true) :=
  ⟨rel, wf_of _ (by decide +kernel), (by decide +kernel)⟩

theorem wit_MemoryErrors_34 :
    ∃ (s : State) (b : Fin 32) (pos : Nat) (len : Nat) (q : DramReq) (c : BobCap), s.Wf ∧ (s.bobbin b).spill = [(pos, len)] ∧
      (s.mem.reqs.filter (fun r => r.owner == .spill b pos) = [q]) ∧ s.lapsed q = true ∧ pos ≤ s.bobWr b ∧ (s.bobbin b).cap = some c ∧
      c.start ≤ pos :=
  ⟨({ (st [(Fld.BOB_SRC_KIND 31, 4), (⟨Reg.BOB_WR_LO 31, 0, 32⟩, 9000)]).setBob 31 { spill := [(4096, 4096)], cap := some ⟨4, 3, 7, 0, 2, 4, false, false⟩ } with tln := { rel.tln with reel := 10 }, mem := { rel.mem with reqs := [⟨2, .host 4, 0, 0, [1, 0, 0, 0], false⟩, ⟨1, .spill 31 4096, 0, 9, [1, 2, 3, 4], false⟩] } }
    : State), 31, 4096, 4096, ⟨1, .spill 31 4096, 0, 9, [1, 2, 3, 4], false⟩, ⟨4, 3, 7, 0, 2, 4, false, false⟩, wf_of _
    (by decide +kernel), (by decide +kernel), (by decide +kernel), (by decide +kernel), (by decide +kernel), (by decide +kernel),
    (by decide +kernel)⟩

theorem wit_MemoryErrors_35 :
    ∃ (s : State) (b : Fin 32) (pos : Nat) (len : Nat) (q : DramReq) (e : BobEnd), s.Wf ∧ (s.bobbin b).spill = [(pos, len)] ∧
      (s.mem.reqs.filter (fun r => r.owner == .spill b pos) = [q]) ∧ s.lapsed q = true ∧ pos ≤ s.bobWr b ∧ (s.bobbin b).cap = none ∧
      (s.bobbin b).ended = [e] ∧ (e.cap.start ≤ pos ∧ pos < e.stop) :=
  ⟨({ (st [(Fld.BOB_SRC_KIND 31, 4), (⟨Reg.BOB_WR_LO 31, 0, 32⟩, 9000)]).setBob 31 { spill := [(4096, 4096)], ended := [⟨0, 9000, ⟨4, 3, 7, 0, 2, 4, false, false⟩, 3, 500, 0, false, false, none, [], [], [], []⟩] } with tln := { rel.tln with reel := 10 }, mem := { rel.mem with reqs := [⟨2, .host 4, 0, 0, [1, 0, 0, 0], false⟩, ⟨1, .spill 31 4096, 0, 9, [1, 2, 3, 4], false⟩] } }
    : State), 31, 4096, 4096, ⟨1, .spill 31 4096, 0, 9, [1, 2, 3, 4], false⟩, ⟨0, 9000, ⟨4, 3, 7, 0, 2, 4, false, false⟩, 3, 500, 0,
    false, false, none, [], [], [], []⟩, wf_of _ (by decide +kernel), (by decide +kernel), (by decide +kernel), (by decide +kernel),
    (by decide +kernel), (by decide +kernel), (by decide +kernel), (by decide +kernel)⟩

theorem wit_MemoryErrors_36 :
    ∃ (s : State) (b : Fin 32), s.Wf ∧
      ((s.bobbin b).spill = [] ∨ (∀ r ∈ s.mem.reqs, r.cls ≠ 1 ∨ r.begun = true ∨ s.tln.reel ≤ r.deadline)) :=
  ⟨rel, 31, wf_of _ (by decide +kernel), (by decide +kernel)⟩

theorem wit_DrafterJobs_0 :
    ∃ (s : State) (path : Path) (l : Fin 8) (v : Word), s.Wf ∧ s.accepts path (Reg.DRF_LANE_TAIL l) = true ∧
      fieldGet v (Fld.DRF_LANE_TAIL_INDEX l) < s.fld (Fld.DRF_LANE_RING_SIZE l) :=
  ⟨st [(Fld.DRF_LANE_RING_SIZE 7, 4)], .bar0, 7, 3, wf_of _ (by decide +kernel), (by decide +kernel), (by decide +kernel)⟩

theorem wit_DrafterJobs_1 :
    ∃ (s : State) (path : Path) (l : Fin 8) (v : Word), s.Wf ∧ s.accepts path (Reg.DRF_LANE_TAIL l) = true ∧
      s.fld (Fld.DRF_LANE_RING_SIZE l) ≤ fieldGet v (Fld.DRF_LANE_TAIL_INDEX l) :=
  ⟨st [(Fld.DRF_LANE_RING_SIZE 7, 4)], .bar0, 7, 4, wf_of _ (by decide +kernel), (by decide +kernel), (by decide +kernel)⟩

theorem wit_DrafterJobs_2 :
    ∃ (s : State) (l : Fin 8) (ue : Option Nat), s.Wf ∧ l.val < 4 ∧ s.mayRunJob l = true ∧ (s.jobDesc l).compressOk = true :=
  ⟨((st [(Fld.GLB_MODE_STATUS_MODE, 1), (Fld.DRF_LANE_RING_SIZE 3, 2), (Fld.DRF_LANE_TAIL_INDEX 3, 1)]).putSramBytes 0x3C00000
    (leBytes 1 1 ++ leBytes 1 0 ++ leBytes 1 2 ++ leBytes 1 1 ++ leBytes 4 0 ++ leBytes 8 (4096) ++ leBytes 8 1 ++ leBytes 8 (8192) ++
    leBytes 8 (dramSize - 0x2000) ++ leBytes 8 0)), 3, some 0, wf_of _ (by decide +kernel), (by decide +kernel), (by decide +kernel),
    (by decide +kernel)⟩

theorem wit_DrafterJobs_3 :
    ∃ (s : State) (l : Fin 8) (ue : Option Nat), s.Wf ∧ l.val < 4 ∧ s.mayRunJob l = true ∧ (s.jobDesc l).compressOk = false :=
  ⟨((st [(Fld.GLB_MODE_STATUS_MODE, 1), (Fld.DRF_LANE_RING_SIZE 3, 2), (Fld.DRF_LANE_TAIL_INDEX 3, 1)]).putSramBytes 0x3C00000
    (leBytes 1 2 ++ leBytes 1 0 ++ leBytes 1 2 ++ leBytes 1 1 ++ leBytes 4 0 ++ leBytes 8 (4096) ++ leBytes 8 9 ++ leBytes 8 (8192) ++
    leBytes 8 (99) ++ leBytes 8 0)), 3, none, wf_of _ (by decide +kernel), (by decide +kernel), (by decide +kernel),
    (by decide +kernel)⟩

theorem wit_DrafterJobs_4 :
    ∃ (s : State) (l : Fin 8) (ue : Option Nat), s.Wf ∧ s.mayRunJob l = false :=
  ⟨rel, 3, none, wf_of _ (by decide +kernel), (by decide +kernel)⟩

theorem wit_DrafterJobs_5 :
    ∃ (s : State) (l : Fin 8) (ue : Option Nat), s.Wf ∧ 4 ≤ l.val ∧ s.mayRunJob l = true ∧ (s.jobDesc l).op ≠ 3 :=
  ⟨((st [(Fld.GLB_MODE_STATUS_MODE, 1), (Fld.DRF_LANE_RING_SIZE 7, 2), (Fld.DRF_LANE_TAIL_INDEX 7, 1)]).putSramBytes 0x3C00000
    (leBytes 1 2 ++ leBytes 1 0 ++ leBytes 1 2 ++ leBytes 1 0 ++ leBytes 4 0 ++ leBytes 8 (1048576) ++ leBytes 8 1 ++ leBytes 8 (8192)
    ++ leBytes 8 (99) ++ leBytes 8 0)), 7, none, wf_of _ (by decide +kernel), (by decide +kernel), (by decide +kernel),
    (by decide +kernel)⟩

theorem wit_DrafterJobs_6 :
    ∃ (s : State) (l : Fin 8) (ue : Option Nat), s.Wf ∧ 4 ≤ l.val ∧ s.mayRunJob l = true ∧ (s.jobDesc l).op = 3 :=
  ⟨((st [(Fld.GLB_MODE_STATUS_MODE, 1), (Fld.DRF_LANE_RING_SIZE 7, 2), (Fld.DRF_LANE_TAIL_INDEX 7, 1)]).putSramBytes 0x3C00000
    (leBytes 1 3 ++ leBytes 1 0 ++ leBytes 1 2 ++ leBytes 1 0 ++ leBytes 4 0 ++ leBytes 8 (1048576) ++ leBytes 8 1 ++ leBytes 8 (0) ++
    leBytes 8 (0) ++ leBytes 8 0)), 7, none, wf_of _ (by decide +kernel), (by decide +kernel), (by decide +kernel),
    (by decide +kernel)⟩

theorem wit_DrafterJobs_7 :
    ∃ (s : State) (l : Fin 8) (d : JobDesc), s.Wf ∧ s.job l = some { desc := d } ∧ s.lanesRun = true ∧
      s.fld (Fld.DRF_LANE_STATUS_STATE l) = 1 ∧ s.dramWaits (.job l) = false ∧ s.fld (Fld.DRF_LANE_RING_SIZE l) ≠ 0 ∧
      d.compressOk = true ∧ d.len ≤ d.block * 4096 ∧ s.dramMarked d.src d.len = false ∧ s.sec.image = none ∧ d.flags % 2 = 0 ∧
      (wrapBlock (deflateBlock d.mode none (s.dramBytes d.src d.len)).1 (s.dramBytes d.src d.len)
      (deflateBlock d.mode none (s.dramBytes d.src d.len)).2).length ≤ d.limit :=
  ⟨(((st [(Fld.GLB_MODE_STATUS_MODE, 1), (Fld.DRF_LANE_RING_SIZE 3, 2), (Fld.DRF_LANE_HEAD_INDEX 3, 1),
    (Fld.DRF_LANE_STATUS_STATE 3, 1)])).setJob 3 (some { desc := ⟨1, 0, 2, 1, 0x1000, 1, 0x2000, dramSize - 0x2000, 0⟩ })), 3,
    ⟨1, 0, 2, 1, 0x1000, 1, 0x2000, dramSize - 0x2000, 0⟩, wf_of _ (by decide +kernel), (by decide +kernel), (by decide +kernel),
    (by decide +kernel), (by decide +kernel), (by decide +kernel), (by decide +kernel), (by decide +kernel), (by decide +kernel),
    (by decide +kernel), (by decide +kernel), (le_of_eq_of_le (wrap_short _ _ (by decide +kernel) (by decide +kernel))
    (by decide +kernel))⟩

theorem wit_DrafterJobs_8 :
    ∃ (s : State) (l : Fin 8) (d : JobDesc), s.Wf ∧ s.job l = some { desc := d } ∧ s.lanesRun = true ∧
      s.fld (Fld.DRF_LANE_STATUS_STATE l) = 1 ∧ s.dramWaits (.job l) = false ∧ s.fld (Fld.DRF_LANE_RING_SIZE l) ≠ 0 ∧
      d.compressOk = true ∧ d.len ≤ d.block * 4096 ∧ s.dramMarked d.src d.len = false ∧ s.sec.image = none ∧
      d.limit < (wrapBlock (deflateBlock d.mode none (s.dramBytes d.src d.len)).1 (s.dramBytes d.src d.len)
      (deflateBlock d.mode none (s.dramBytes d.src d.len)).2).length :=
  ⟨(((st [(Fld.GLB_MODE_STATUS_MODE, 1), (Fld.DRF_LANE_RING_SIZE 3, 2), (Fld.DRF_LANE_HEAD_INDEX 3, 1),
    (Fld.DRF_LANE_STATUS_STATE 3, 1)])).setJob 3 (some { desc := ⟨1, 0, 2, 1, 0x1000, 1, 0x2000, 16, 0⟩ })), 3,
    ⟨1, 0, 2, 1, 0x1000, 1, 0x2000, 16, 0⟩, wf_of _ (by decide +kernel), (by decide +kernel), (by decide +kernel),
    (by decide +kernel), (by decide +kernel), (by decide +kernel), (by decide +kernel), (by decide +kernel), (by decide +kernel),
    (by decide +kernel), (lt_of_lt_of_eq (by decide +kernel) (wrap_short _ _ (by decide +kernel) (by decide +kernel)).symm)⟩

theorem wit_DrafterJobs_9 :
    ∃ (s : State) (l : Fin 8) (d : JobDesc) (bs : List Byte), s.Wf ∧ s.job l = some { desc := d } ∧ s.lanesRun = true ∧
      s.fld (Fld.DRF_LANE_STATUS_STATE l) = 1 ∧ s.dramWaits (.job l) = false ∧ s.fld (Fld.DRF_LANE_RING_SIZE l) ≠ 0 ∧
      d.expandOk = true ∧ s.sec.image = none ∧ d.op = 2 ∧ d.len = 1 ∧ (readBlock d.src false [] s).1 = (0, bs) ∧ bs.length ≤ d.limit :=
  ⟨(((((st [(Fld.GLB_MODE_STATUS_MODE, 1), (Fld.DRF_LANE_RING_SIZE 7, 2), (Fld.DRF_LANE_HEAD_INDEX 7, 1),
    (Fld.DRF_LANE_STATUS_STATE 7, 1)]).putDramBytes 0x101000 [0xA1, 0xD7, 1, 0, 14, 0, 0, 0, 9, 0, 0, 0, 0x83, 0x92, 6, 0xE3, 1, 9, 0,
    0xF6, 0xFF, 0x31, 0x32, 0x33, 0x34, 0x35, 0x36, 0x37, 0x38, 0x39, 0, 0]).putDramBytes 0x100000 [0, 16])).setJob 7
    (some { desc := ⟨2, 0, 0, 0, 0x100000, 1, 0x2000, 9, 0⟩ })), 7, ⟨2, 0, 0, 0, 0x100000, 1, 0x2000, 9, 0⟩,
    [0x31, 0x32, 0x33, 0x34, 0x35, 0x36, 0x37, 0x38, 0x39], wf_of _ (by decide +kernel), (by decide +kernel), (by decide +kernel),
    (by decide +kernel), (by decide +kernel), (by decide +kernel), (by decide +kernel), (by decide +kernel), (by decide +kernel),
    (by decide +kernel), (by decide +kernel), (by decide +kernel)⟩

theorem wit_DrafterJobs_10 :
    ∃ (s : State) (l : Fin 8) (d : JobDesc) (bs : List Byte), s.Wf ∧ s.job l = some { desc := d } ∧ s.lanesRun = true ∧
      s.fld (Fld.DRF_LANE_STATUS_STATE l) = 1 ∧ s.dramWaits (.job l) = false ∧ s.fld (Fld.DRF_LANE_RING_SIZE l) ≠ 0 ∧
      d.expandOk = true ∧ s.sec.image = none ∧ d.op = 2 ∧ d.len = 1 ∧ (readBlock d.src false [] s).1 = (0, bs) ∧ d.limit < bs.length :=
  ⟨(((((st [(Fld.GLB_MODE_STATUS_MODE, 1), (Fld.DRF_LANE_RING_SIZE 7, 2), (Fld.DRF_LANE_HEAD_INDEX 7, 1),
    (Fld.DRF_LANE_STATUS_STATE 7, 1)]).putDramBytes 0x101000 [0xA1, 0xD7, 1, 0, 14, 0, 0, 0, 9, 0, 0, 0, 0x83, 0x92, 6, 0xE3, 1, 9, 0,
    0xF6, 0xFF, 0x31, 0x32, 0x33, 0x34, 0x35, 0x36, 0x37, 0x38, 0x39, 0, 0]).putDramBytes 0x100000 [0, 16])).setJob 7
    (some { desc := ⟨2, 0, 2, 0, 0x100000, 1, 0x2000, 8, 0⟩ })), 7, ⟨2, 0, 2, 0, 0x100000, 1, 0x2000, 8, 0⟩,
    [0x31, 0x32, 0x33, 0x34, 0x35, 0x36, 0x37, 0x38, 0x39], wf_of _ (by decide +kernel), (by decide +kernel), (by decide +kernel),
    (by decide +kernel), (by decide +kernel), (by decide +kernel), (by decide +kernel), (by decide +kernel), (by decide +kernel),
    (by decide +kernel), (by decide +kernel), (by decide +kernel)⟩

theorem wit_DrafterJobs_11 :
    ∃ (s : State) (l : Fin 8) (d : JobDesc) (e : Nat) (bs : List Byte), s.Wf ∧ s.job l = some { desc := d } ∧ s.lanesRun = true ∧
      s.fld (Fld.DRF_LANE_STATUS_STATE l) = 1 ∧ s.dramWaits (.job l) = false ∧ s.fld (Fld.DRF_LANE_RING_SIZE l) ≠ 0 ∧
      d.expandOk = true ∧ s.sec.image = none ∧ d.op = 2 ∧ (readBlock d.src false [] s).1 = (e, bs) ∧ (e ≠ 0 ∧ e < 32) ∧
      bs.length ≤ d.limit :=
  ⟨(((((st [(Fld.GLB_MODE_STATUS_MODE, 1), (Fld.DRF_LANE_RING_SIZE 7, 2), (Fld.DRF_LANE_HEAD_INDEX 7, 1),
    (Fld.DRF_LANE_STATUS_STATE 7, 1)]).putDramBytes 0x101000 [0xA1, 0xD7, 1, 0, 14, 0, 0, 0, 9, 0, 0, 0, 0x83, 0x92, 6, 0xE3, 1, 9, 0,
    0xF6, 0xFF, 0x31, 0x32, 0x33, 0x34, 0x35, 0x36, 0x37, 0x38, 0x39, 0, 0]).putDramBytes 0x100000 [0, 16]).putDram 0x10100C
    0x84).setJob 7 (some { desc := ⟨2, 0, 2, 0, 0x100000, 1, 0x2000, 99, 0⟩ })), 7, ⟨2, 0, 2, 0, 0x100000, 1, 0x2000, 99, 0⟩, 17,
    [0x31, 0x32, 0x33, 0x34, 0x35, 0x36, 0x37, 0x38, 0x39], wf_of _ (by decide +kernel), (by decide +kernel), (by decide +kernel),
    (by decide +kernel), (by decide +kernel), (by decide +kernel), (by decide +kernel), (by decide +kernel), (by decide +kernel),
    (by decide +kernel), (by decide +kernel), (by decide +kernel)⟩

theorem wit_DrafterJobs_12 :
    ∃ (s : State) (l : Fin 8) (d : JobDesc) (e : Nat) (bs : List Byte), s.Wf ∧ s.job l = some { desc := d } ∧ s.lanesRun = true ∧
      s.fld (Fld.DRF_LANE_STATUS_STATE l) = 1 ∧ s.dramWaits (.job l) = false ∧ s.fld (Fld.DRF_LANE_RING_SIZE l) ≠ 0 ∧
      d.expandOk = true ∧ s.sec.image = none ∧ d.op = 3 ∧ d.len = 1 ∧ (readBlock d.src false [] s).1 = (e, bs) ∧ e < 32 :=
  ⟨(((((st [(Fld.GLB_MODE_STATUS_MODE, 1), (Fld.DRF_LANE_RING_SIZE 7, 2), (Fld.DRF_LANE_HEAD_INDEX 7, 1),
    (Fld.DRF_LANE_STATUS_STATE 7, 1)]).putDramBytes 0x101000 [0xA1, 0xD7, 1, 0, 14, 0, 0, 0, 9, 0, 0, 0, 0x83, 0x92, 6, 0xE3, 1, 9, 0,
    0xF6, 0xFF, 0x31, 0x32, 0x33, 0x34, 0x35, 0x36, 0x37, 0x38, 0x39, 0, 0]).putDramBytes 0x100000 [0, 16])).setJob 7
    (some { desc := ⟨3, 0, 2, 0, 0x100000, 1, 0x2000, 0, 0⟩ })), 7, ⟨3, 0, 2, 0, 0x100000, 1, 0x2000, 0, 0⟩, 0,
    [0x31, 0x32, 0x33, 0x34, 0x35, 0x36, 0x37, 0x38, 0x39], wf_of _ (by decide +kernel), (by decide +kernel), (by decide +kernel),
    (by decide +kernel), (by decide +kernel), (by decide +kernel), (by decide +kernel), (by decide +kernel), (by decide +kernel),
    (by decide +kernel), (by decide +kernel), (by decide +kernel)⟩

theorem wit_DrafterJobs_13 :
    ∃ (s : State) (l : Fin 8) (j : Job), s.Wf ∧ s.job l = some j ∧ (j.err ≠ 0 ∧ j.err < 32) ∧ s.lanesRun = true ∧
      s.fld (Fld.DRF_LANE_STATUS_STATE l) = 1 ∧ s.dramWaits (.job l) = false ∧ s.fld (Fld.DRF_LANE_RING_SIZE l) ≠ 0 :=
  ⟨(((st [(Fld.GLB_MODE_STATUS_MODE, 1), (Fld.DRF_LANE_RING_SIZE 7, 2), (Fld.DRF_LANE_HEAD_INDEX 7, 1),
    (Fld.DRF_LANE_STATUS_STATE 7, 1)])).setJob 7 (some { desc := ⟨9, 0, 2, 1, 0x1000, 9, 0x2000, 99, 0⟩, err := 20 })), 7,
    { desc := ⟨9, 0, 2, 1, 0x1000, 9, 0x2000, 99, 0⟩, err := 20 }, wf_of _ (by decide +kernel), (by decide +kernel),
    (by decide +kernel), (by decide +kernel), (by decide +kernel), (by decide +kernel), (by decide +kernel)⟩

theorem wit_DrafterJobs_14 :
    ∃ (s : State) (l : Fin 8), s.Wf ∧
      (s.job l = none ∨ s.lanesRun = false ∨ s.fld (Fld.DRF_LANE_STATUS_STATE l) ≠ 1 ∨ s.dramWaits (.job l) = true) :=
  ⟨({ (((st [(Fld.GLB_MODE_STATUS_MODE, 1), (Fld.DRF_LANE_RING_SIZE 7, 2), (Fld.DRF_LANE_HEAD_INDEX 7, 1), (Fld.DRF_LANE_STATUS_STATE 7, 1)])).setJob 7 (some { desc := ⟨9, 0, 2, 1, 0x1000, 9, 0x2000, 99, 0⟩ })) with mem := { rel.mem with reqs := [⟨3, .job 7, 0, 0, [1, 0, 0, 0], false⟩] } }
    : State), 7, wf_of _ (by decide +kernel), (by decide +kernel)⟩

theorem wit_DrafterJobs_15 :
    ∃ (s : State) (r : Fin 64) (host : List Byte) (bs : List Byte) (m : Nat) (n : Nat), s.Wf ∧ (s.stream r).reqs = [(m, n)] ∧
      (s.stream r).asked = n ∧ s.bit (Fld.STM_RV_CFG_COMPRESSED r) = true ∧ s.fld (Fld.STM_RV_CFG_SRC r) = 0 ∧
      s.dramWaits (.refill r 0) = false ∧ s.laneServes r = true ∧ s.mem.order = [r.val] ∧
      (readBlock (s.rd64 (Reg.STM_RV_SRC_LO r)) false [] s).1 = (0, bs) ∧ s.fld (Fld.STM_RV_FILL_BYTES r) + bs.length < 2 ^ 25 :=
  ⟨({ ((((st [(Fld.STM_RV_CFG_COMPRESSED 63, 1), (Fld.STM_RV_STATUS_STATE 63, 1), (Fld.STM_RV_RING_SIZE 63, 2), (⟨Reg.STM_RV_SRC_LO 63, 0, 32⟩, 0x100000), (Fld.DRF_RV_BIND_VALID 63, 1), (Fld.DRF_RV_BIND_LANE 63, 7), (Fld.DRF_LANE_STATUS_STATE 7, 1)]).putDramBytes 0x101000 [0xA1, 0xD7, 1, 0, 14, 0, 0, 0, 9, 0, 0, 0, 0x83, 0x92, 6, 0xE3, 1, 9, 0, 0xF6, 0xFF, 0x31, 0x32, 0x33, 0x34, 0x35, 0x36, 0x37, 0x38, 0x39, 0, 0]).putDramBytes 0x100000 [0, 16]).setStream 63 { asked := 1, reqs := [(65536, 1)] }) with mem := { rel.mem with order := [63] } }
    : State), 63, [], [0x31, 0x32, 0x33, 0x34, 0x35, 0x36, 0x37, 0x38, 0x39], 65536, 1, wf_of _ (by decide +kernel),
    (by decide +kernel), (by decide +kernel), (by decide +kernel), (by decide +kernel), (by decide +kernel), (by decide +kernel),
    (by decide +kernel), (by decide +kernel), (by decide +kernel)⟩

theorem wit_DrafterJobs_16 :
    ∃ (s : State) (r : Fin 64) (host : List Byte) (err : Bool), s.Wf ∧ s.bit (Fld.STM_RV_CFG_COMPRESSED r) = true ∧
      s.laneServes r = false :=
  ⟨((st [(Fld.STM_RV_CFG_COMPRESSED 63, 1), (Fld.DRF_RV_BIND_VALID 63, 1), (Fld.DRF_RV_BIND_LANE 63, 7),
    (Fld.DRF_LANE_STATUS_STATE 7, 2)]).setStream 63 { asked := 1, reqs := [(65536, 1)] }), 63, [], false, wf_of _ (by decide +kernel),
    (by decide +kernel), (by decide +kernel)⟩

theorem wit_DrafterJobs_17 :
    ∃ (s : State) (l : Fin 8), s.Wf ∧ s.fld (Fld.DRF_LANE_STATUS_STATE l) = 1 :=
  ⟨st [(Fld.DRF_LANE_STATUS_STATE 7, 1)], 7, wf_of _ (by decide +kernel), (by decide +kernel)⟩

theorem wit_DrafterJobs_18 :
    ∃ (s : State) (l : Fin 8), s.Wf ∧ s.fld (Fld.DRF_LANE_STATUS_STATE l) = 2 ∧ (s.mode = 1 ∨ 3 ≤ s.mode) :=
  ⟨st [(Fld.DRF_LANE_STATUS_STATE 7, 2), (Fld.GLB_MODE_STATUS_MODE, 1)], 7, wf_of _ (by decide +kernel), (by decide +kernel),
    (by decide +kernel)⟩

theorem wit_DrafterJobs_19 :
    ∃ (s : State) (l : Fin 8), s.Wf ∧ (s.mode = 0 ∨ s.mode = 2) :=
  ⟨st [(Fld.DRF_LANE_STATUS_STATE 7, 2), (Fld.GLB_MODE_STATUS_MODE, 2)], 7, wf_of _ (by decide +kernel), (by decide +kernel)⟩

theorem wit_DrafterJobs_20 :
    ∃ (s : State) (off : Fin 0x4000000) (rd : SramReader), s.Wf ∧ readerRegion off rd = true :=
  ⟨rel, 0x800000, .stream 639, wf_of _ (by decide +kernel), (by decide +kernel)⟩

theorem wit_DrafterJobs_21 :
    ∃ (s : State) (off : Fin 0x2000000000) (rd : DramReader), s.Wf :=
  ⟨rel, 0x1FFFFFFFFF, .refill 63, wf_of _ (by decide +kernel)⟩

theorem wit_DrafterJobs_22 :
    ∃ (s : State) (grants : List (Fin 4)), s.Wf ∧ s.mem.held = [] :=
  ⟨rel, [0, 3], wf_of _ (by decide +kernel), (by decide +kernel)⟩

theorem wit_DrafterJobs_23 :
    ∃ (s : State) (off : Fin 0x4000000), s.Wf :=
  ⟨rel, 0x3FFFFFF, wf_of _ (by decide +kernel)⟩

theorem wit_DrafterJobs_24 :
    ∃ (s : State) (dram : Bool), s.Wf :=
  ⟨rel, true, wf_of _ (by decide +kernel)⟩

theorem wit_DrafterJobs_25 :
    ∃ (s : State), s.Wf ∧ s.bit Fld.MEM_STATUS_SRAM_READY = true ∧ s.bit Fld.MEM_STATUS_DRAM_READY = false :=
  ⟨({ (st [(Fld.MEM_STATUS_SRAM_READY, 1)]) with mem := { rel.mem with held := [(4, .write 8 [some 1]), (5, .read 8 2 false)], reqs := [⟨2, .host 4, 0, 0, [1, 0, 0, 0], false⟩] } }
    : State), wf_of _ (by decide +kernel), (by decide +kernel), (by decide +kernel)⟩

theorem wit_DrafterJobs_26 :
    ∃ (s : State) (off : Fin 0x2000000000), s.Wf :=
  ⟨rel, 0x1FFFFFFFFF, wf_of _ (by decide +kernel)⟩

theorem wit_DrafterJobs_27 :
    ∃ (s : State) (k : Fin 4) (x : Nat), s.Wf ∧ (sget (fun _ => none) s.mem.lowSince k = some x) ∧ x + 500000000 ≤ s.tick :=
  ⟨({ (setLowSince 3 (some 0) (st [(refreshField 3, 2), (Fld.SUP_TS_STATUS_BAND 15, 3)])) with tick := 500000000 } : State), 3, 0,
    wf_of _ (by decide +kernel), (by decide +kernel), (by decide +kernel)⟩

theorem wit_DrafterJobs_28 :
    ∃ (s : State) (id : Nat) (a : Nat) (bs : List Byte), s.Wf ∧ s.mem.held = [(id, .write a (bs.map some))] ∧
      s.dramWaits (.host id) = false ∧ s.bit Fld.MEM_STATUS_DRAM_READY = true ∧ s.bit Fld.MEM_STATUS_SELF_REFRESH = false ∧
      a + bs.length ≤ dramSize ∧ s.sec.image = none :=
  ⟨({ (st [(Fld.MEM_STATUS_DRAM_READY, 1)]) with mem := { rel.mem with held := [(7, .write 8 [some 1, some 2, some 3])] } } : State),
    7, 8, [1, 2, 3], wf_of _ (by decide +kernel), (by decide +kernel), (by decide +kernel), (by decide +kernel), (by decide +kernel),
    (by decide +kernel), (by decide +kernel)⟩

theorem wit_DrafterJobs_29 :
    ∃ (s : State) (b : Fin 32) (pos : Nat) (len : Nat) (q : DramReq) (c : BobCap), s.Wf ∧ (s.bobbin b).spill = [(pos, len)] ∧
      (s.mem.reqs.filter (fun r => r.owner == .spill b pos) = [q]) ∧ s.lapsed q = true ∧ pos ≤ s.bobWr b ∧ (s.bobbin b).cap = some c ∧
      c.start ≤ pos :=
  ⟨({ (st [(Fld.BOB_SRC_KIND 31, 4), (⟨Reg.BOB_WR_LO 31, 0, 32⟩, 9000)]).setBob 31 { spill := [(4096, 4096)], cap := some ⟨4, 3, 7, 0, 2, 4, false, false⟩ } with tln := { rel.tln with reel := 10 }, mem := { rel.mem with reqs := [⟨2, .host 4, 0, 0, [1, 0, 0, 0], false⟩, ⟨1, .spill 31 4096, 0, 9, [1, 2, 3, 4], false⟩] } }
    : State), 31, 4096, 4096, ⟨1, .spill 31 4096, 0, 9, [1, 2, 3, 4], false⟩, ⟨4, 3, 7, 0, 2, 4, false, false⟩, wf_of _
    (by decide +kernel), (by decide +kernel), (by decide +kernel), (by decide +kernel), (by decide +kernel), (by decide +kernel),
    (by decide +kernel)⟩

theorem wit_HostWindowsAndDma_0 :
    ∃ (s : State) (up : Bool) (speed : BitVec 3) (width : BitVec 5) (flit : Bool), s.Wf :=
  ⟨rel, true, 6, 16, true, wf_of _ (by decide +kernel)⟩

theorem wit_HostWindowsAndDma_1 :
    ∃ (s : State), s.Wf :=
  ⟨(({ (st [(Fld.GLB_MODE_STATUS_MODE, 1), (Fld.HIF_Q_CFG_EN 33, 1), (Fld.HIF_Q_CFG_SIZE_LOG 33, 4), (Fld.HIF_Q_HEAD_INDEX 33, 5), (Fld.HIF_Q_TAIL_INDEX 33, 6), (Fld.HIF_Q_STATUS_STATE 33, 1), (Fld.HIF_Q_STATUS_PHASE 33, 1), (⟨Reg.HIF_Q_CPL_LO 33, 0, 32⟩, 0x1000), (Fld.HIF_LINK_STATUS_DSTATE, 3)]) with hif := { rel.hif with bar4Log := 33, funcMask := true } }
    : State).setDma 33 (some (leBytes 8 (0x120000000) ++ leBytes 8 (0x40000000) ++ leBytes 4 4 ++ [1, 3, 0, 0] ++ [4, 1, 0, 0] ++
    [0, 0, 0, 0]))), wf_of _ (by decide +kernel)⟩

theorem wit_HostWindowsAndDma_2 :
    ∃ (s : State), s.Wf :=
  ⟨rel, wf_of _ (by decide +kernel)⟩

theorem wit_HostWindowsAndDma_3 :
    ∃ (s : State) (off : Fin 0x4000000) (a : MemAccess) (ue : Bool), s.Wf ∧ s.glb.released = true ∧ s.mode = 0 :=
  ⟨rel, 0, .read 4, false, wf_of _ (by decide +kernel), (by decide +kernel), (by decide +kernel)⟩

theorem wit_HostWindowsAndDma_4 :
    ∃ (s : State) (off : Fin 0x4000000) (n : Nat), s.Wf ∧ s.mode ≠ 0 ∧ s.masks = false ∧
      (∀ w ∈ s.mem.badSram, 16 * w + 16 ≤ off.val ∨ off.val + n ≤ 16 * w) :=
  ⟨((st [(Fld.GLB_MODE_STATUS_MODE, 1)]).putSramBytes 0x3F7FFFF [9]), 0x3F7FFFF, 2, wf_of _ (by decide +kernel), (by decide +kernel),
    (by decide +kernel), (by decide +kernel)⟩

theorem wit_HostWindowsAndDma_5 :
    ∃ (s : State) (off : Fin 0x4000000) (n : Nat), s.Wf ∧ s.mode ≠ 0 ∧ (∃ w ∈ s.mem.badSram, off.val < 16 * w + 16 ∧
      16 * w < off.val + n) :=
  ⟨({ (st [(Fld.GLB_MODE_STATUS_MODE, 1)]) with mem := { rel.mem with badSram := [1] } } : State), 0, 17, wf_of _ (by decide +kernel),
    (by decide +kernel), (by decide +kernel)⟩

theorem wit_HostWindowsAndDma_6 :
    ∃ (s : State) (off : Fin 0x4000000) (n : Nat), s.Wf ∧ s.mode ≠ 0 ∧ s.masks = true :=
  ⟨((st [(Fld.GLB_MODE_STATUS_MODE, 1), (Fld.SEC_STATUS_CONFIDENTIAL, 1)]).putSramBytes 0 [9]), 0, 2, wf_of _ (by decide +kernel),
    (by decide +kernel), (by decide +kernel)⟩

theorem wit_HostWindowsAndDma_7 :
    ∃ (s : State) (off : Fin 0x4000000) (x : Byte), s.Wf ∧ s.mode ≠ 0 ∧ s.sramBar off = .free :=
  ⟨(st [(Fld.GLB_MODE_STATUS_MODE, 1)]), 0x1FFFFFF, 7, wf_of _ (by decide +kernel), (by decide +kernel), (by decide +kernel)⟩

theorem wit_HostWindowsAndDma_8 :
    ∃ (s : State) (off : Fin 0x4000000) (x : Byte) (ue : Bool), s.Wf ∧ s.mode ≠ 0 ∧ s.sramBar off ≠ .free :=
  ⟨(st [(Fld.GLB_MODE_STATUS_MODE, 5)]), 0x1FFFFFF, 7, false, wf_of _ (by decide +kernel), (by decide +kernel), (by decide +kernel)⟩

theorem wit_HostWindowsAndDma_9 :
    ∃ (s : State) (off : Fin 0x4000000) (x : Byte), s.Wf ∧ s.mode ≠ 0 ∧ s.sramBar off = .free :=
  ⟨(st [(Fld.GLB_MODE_STATUS_MODE, 1)]), 0x1FFFFFF, 7, wf_of _ (by decide +kernel), (by decide +kernel), (by decide +kernel)⟩

theorem wit_HostWindowsAndDma_10 :
    ∃ (s : State) (x : Fin 0x2000000000) (a : MemAccess) (ue : Bool), s.Wf ∧ x.val < 2 ^ s.hif.bar4Log ∧ s.glb.released = true ∧
      (s.mode = 0 ∨ s.mode = 2) :=
  ⟨(st [(Fld.GLB_MODE_STATUS_MODE, 2)]), 0, .read 4, false, wf_of _ (by decide +kernel), (by decide +kernel), (by decide +kernel),
    (by decide +kernel)⟩

theorem wit_HostWindowsAndDma_11 :
    ∃ (s : State) (x : Fin 0x2000000000) (n : Nat) (ue : Bool), s.Wf ∧ x.val < 2 ^ s.hif.bar4Log ∧ (s.mode ≠ 0 ∧ s.mode ≠ 2) :=
  ⟨(st [(Fld.GLB_MODE_STATUS_MODE, 1), (Fld.HIF_BAR4_WIN_WIN, 127)]), 0x3FFFFFFF, 4, false, wf_of _ (by decide +kernel),
    (by decide +kernel), (by decide +kernel)⟩

theorem wit_HostWindowsAndDma_12 :
    ∃ (s : State) (x : Fin 0x2000000000) (bs : List (Option Byte)) (ue : Bool), s.Wf ∧ x.val < 2 ^ s.hif.bar4Log ∧
      (s.mode ≠ 0 ∧ s.mode ≠ 2) :=
  ⟨(st [(Fld.GLB_MODE_STATUS_MODE, 1), (Fld.HIF_BAR4_WIN_WIN, 127)]), 0x3FFFFFFF, [some 7, none], false, wf_of _ (by decide +kernel),
    (by decide +kernel), (by decide +kernel)⟩

theorem wit_HostWindowsAndDma_13 :
    ∃ (s : State) (x : Fin 0x2000000000) (a : MemAccess) (ue : Bool), s.Wf ∧ 2 ^ s.hif.bar4Log ≤ x.val :=
  ⟨rel, 0x40000000, .read 4, false, wf_of _ (by decide +kernel), (by decide +kernel)⟩

theorem wit_HostWindowsAndDma_14 :
    ∃ (s : State) (x : Fin 0x2000000000) (a : MemAccess) (ue : Bool) (k : Fin 8), s.Wf :=
  ⟨rel, 0x1FFFFFFFFF, .read 4, false, 7, wf_of _ (by decide +kernel)⟩

theorem wit_HostWindowsAndDma_15 :
    ∃ (s : State) (p : Path) (q : Fin 64) (v : Word), s.Wf ∧ s.accepts p (Reg.HIF_Q_TAIL q) = true ∧
      v.toNat % 4096 < 2 ^ s.fld (Fld.HIF_Q_CFG_SIZE_LOG q) :=
  ⟨st [(Fld.HIF_Q_CFG_EN 63, 1), (Fld.HIF_Q_CFG_SIZE_LOG 63, 4), (Fld.HIF_Q_STATUS_STATE 63, 2)], .bar0, 63, 15, wf_of _
    (by decide +kernel), (by decide +kernel), (by decide +kernel)⟩

theorem wit_HostWindowsAndDma_16 :
    ∃ (s : State) (p : Path) (q : Fin 64) (v : Word), s.Wf ∧ s.accepts p (Reg.HIF_Q_TAIL q) = true ∧
      2 ^ s.fld (Fld.HIF_Q_CFG_SIZE_LOG q) ≤ v.toNat % 4096 :=
  ⟨st [(Fld.HIF_Q_CFG_SIZE_LOG 63, 4)], .bar0, 63, 16, wf_of _ (by decide +kernel), (by decide +kernel), (by decide +kernel)⟩

theorem wit_HostWindowsAndDma_17 :
    ∃ (s : State) (q : Fin 64) (desc : List Byte) (n : Nat), s.Wf ∧ s.mayStartDma q = true ∧ desc.length = 32 ∧
      (∀ r : Fin 64, s.hostRefillReady r = false) ∧ s.hif.turn = (q.val, n + 1) :=
  ⟨({ (st [(Fld.GLB_MODE_STATUS_MODE, 1), (Fld.HIF_Q_CFG_EN 63, 1), (Fld.HIF_Q_CFG_SIZE_LOG 63, 4), (Fld.HIF_Q_HEAD_INDEX 63, 5), (Fld.HIF_Q_TAIL_INDEX 63, 6), (Fld.HIF_Q_STATUS_STATE 63, 1), (Fld.HIF_Q_STATUS_PHASE 63, 1), (⟨Reg.HIF_Q_CPL_LO 63, 0, 32⟩, 0x1000)]) with hif := { rel.hif with turn := (63, 2) } }
    : State), 63, (leBytes 8 (0x120000000) ++ leBytes 8 (0x40000000) ++ leBytes 4 4 ++ [1, 3, 0, 0] ++ [4, 1, 0, 0] ++ [0, 0, 0, 0]),
    1, wf_of _ (by decide +kernel), (by decide +kernel), (by decide +kernel), (by decide +kernel), (by decide +kernel)⟩

theorem wit_HostWindowsAndDma_18 :
    ∃ (s : State) (q : Fin 64) (desc : List Byte) (p : Nat) (n : Nat), s.Wf ∧ s.mayStartDma q = true ∧ desc.length = 32 ∧
      (∀ r : Fin 64, s.hostRefillReady r = false) ∧ s.fld (Fld.HIF_Q_CFG_WEIGHT q) ≠ 0 ∧ s.hif.turn = (p, n) ∧
      (n = 0 ∨ s.descReady p = false) ∧ (∀ x : Fin 64, (x.val + 127 - p) % 64 < (q.val + 127 - p) % 64 →
      s.descReady x = false ∨ s.fld (Fld.HIF_Q_CFG_WEIGHT x) = 0) ∧ p < 64 :=
  ⟨(({ (st [(Fld.GLB_MODE_STATUS_MODE, 1), (Fld.HIF_Q_CFG_EN 3, 1), (Fld.HIF_Q_CFG_SIZE_LOG 3, 4), (Fld.HIF_Q_HEAD_INDEX 3, 5), (Fld.HIF_Q_TAIL_INDEX 3, 6), (Fld.HIF_Q_STATUS_STATE 3, 1), (Fld.HIF_Q_STATUS_PHASE 3, 1), (⟨Reg.HIF_Q_CPL_LO 3, 0, 32⟩, 0x1000), (Fld.HIF_Q_CFG_WEIGHT 3, 5)]) with hif := { rel.hif with turn := (60, 0) } }
    : State)), 3, (leBytes 8 (0x120000000) ++ leBytes 8 (0x40000000) ++ leBytes 4 4 ++ [1, 3, 0, 0] ++ [4, 1, 0, 0] ++ [0, 0, 0, 0]),
    60, 0, wf_of _ (by decide +kernel), (by decide +kernel), (by decide +kernel), (by decide +kernel), (by decide +kernel),
    (by decide +kernel), (by decide +kernel), (by decide +kernel), (by decide +kernel)⟩

theorem wit_HostWindowsAndDma_19 :
    ∃ (s : State) (q : Fin 64) (desc : List Byte), s.Wf ∧ s.mayStartDma q = true ∧ desc.length = 32 ∧
      (∀ r : Fin 64, s.hostRefillReady r = false) ∧ (s.hif.turn.2 = 0 ∨ s.descReady s.hif.turn.1 = false) ∧
      (∀ x : Fin 64, s.descReady x = true → s.fld (Fld.HIF_Q_CFG_WEIGHT x) = 0) :=
  ⟨(st [(Fld.GLB_MODE_STATUS_MODE, 1), (Fld.HIF_Q_CFG_EN 63, 1), (Fld.HIF_Q_CFG_SIZE_LOG 63, 4), (Fld.HIF_Q_HEAD_INDEX 63, 5),
    (Fld.HIF_Q_TAIL_INDEX 63, 6), (Fld.HIF_Q_STATUS_STATE 63, 1), (Fld.HIF_Q_STATUS_PHASE 63, 1),
    (⟨Reg.HIF_Q_CPL_LO 63, 0, 32⟩, 0x1000)]), 63, (leBytes 8 (0x120000000) ++ leBytes 8 (0x40000000) ++ leBytes 4 4 ++ [1, 3, 0, 0] ++
    [4, 1, 0, 0] ++ [0, 0, 0, 0]), wf_of _ (by decide +kernel), (by decide +kernel), (by decide +kernel), (by decide +kernel),
    (by decide +kernel), (by decide +kernel)⟩

theorem wit_HostWindowsAndDma_20 :
    ∃ (s : State) (q : Fin 64) (desc : List Byte), s.Wf ∧
      (s.mayStartDma q = false ∨ (∃ r : Fin 64, s.hostRefillReady r = true) ∨ (s.fld (Fld.HIF_Q_CFG_WEIGHT q) = 0 ∧ s.hif.turn.2 = 0 ∧
      ∃ x : Fin 64, s.descReady x = true ∧ s.fld (Fld.HIF_Q_CFG_WEIGHT x) ≠ 0)) :=
  ⟨((st [(Fld.GLB_MODE_STATUS_MODE, 1), (Fld.HIF_Q_CFG_EN 63, 1), (Fld.HIF_Q_CFG_SIZE_LOG 63, 4), (Fld.HIF_Q_HEAD_INDEX 63, 5),
    (Fld.HIF_Q_TAIL_INDEX 63, 6), (Fld.HIF_Q_STATUS_STATE 63, 1), (Fld.HIF_Q_STATUS_PHASE 63, 1),
    (⟨Reg.HIF_Q_CPL_LO 63, 0, 32⟩, 0x1000)]).setDma 63 (some (leBytes 8 (0x120000000) ++ leBytes 8 (0x40000000) ++ leBytes 4 4 ++
    [1, 3, 0, 0] ++ [4, 1, 0, 0] ++ [0, 0, 0, 0]))), 63, (leBytes 8 (0x120000000) ++ leBytes 8 (0x40000000) ++ leBytes 4 4 ++
    [1, 3, 0, 0] ++ [4, 1, 0, 0] ++ [0, 0, 0, 0]), wf_of _ (by decide +kernel), (by decide +kernel)⟩

theorem wit_HostWindowsAndDma_21 :
    ∃ (s : State) (q : Fin 64) (d : List Byte) (data : List Byte), s.Wf ∧ q.val < 32 ∧ s.dmaJob q = some d ∧ s.d3hot = false ∧
      s.fld (Fld.HIF_Q_CFG_SIZE_LOG q) ≤ 12 ∧ s.stopping q = false ∧ s.dataLeft q = 0 ∧ s.dramWaits (.dma q) = false ∧
      (dmaDesc d).ok = true ∧ (dmaDesc d).space = 0 ∧ s.mode ≠ 0 ∧ data.length = (dmaDesc d).len ∧ (∀ i, i < data.length →
      s.sramBar ((dmaDesc d).dev + i) = .free) :=
  ⟨((st [(Fld.GLB_MODE_STATUS_MODE, 1), (Fld.HIF_Q_CFG_EN 31, 1), (Fld.HIF_Q_CFG_SIZE_LOG 31, 4), (Fld.HIF_Q_HEAD_INDEX 31, 5),
    (Fld.HIF_Q_TAIL_INDEX 31, 6), (Fld.HIF_Q_STATUS_STATE 31, 1), (Fld.HIF_Q_STATUS_PHASE 31, 1),
    (⟨Reg.HIF_Q_CPL_LO 31, 0, 32⟩, 0x1000)]).setDma 31 (some (leBytes 8 (0x120000000) ++ leBytes 8 (0x3C00000) ++ leBytes 4 4 ++
    [0, 3, 0, 0] ++ [4, 1, 0, 0] ++ [0, 0, 0, 0]))), 31, (leBytes 8 (0x120000000) ++ leBytes 8 (0x3C00000) ++ leBytes 4 4 ++
    [0, 3, 0, 0] ++ [4, 1, 0, 0] ++ [0, 0, 0, 0]), [1, 2, 3, 4], wf_of _ (by decide +kernel), (by decide +kernel),
    (by decide +kernel), (by decide +kernel), (by decide +kernel), (by decide +kernel), (by decide +kernel), (by decide +kernel),
    (by decide +kernel), (by decide +kernel), (by decide +kernel), (by decide +kernel), (by decide +kernel)⟩

theorem wit_HostWindowsAndDma_22 :
    ∃ (s : State) (q : Fin 64) (d : List Byte) (data : List Byte), s.Wf ∧ q.val < 32 ∧ s.dmaJob q = some d ∧ s.d3hot = false ∧
      s.fld (Fld.HIF_Q_CFG_SIZE_LOG q) ≤ 12 ∧ s.stopping q = false ∧ s.dataLeft q = 0 ∧ s.dramWaits (.dma q) = false ∧
      (dmaDesc d).ok = true ∧ (dmaDesc d).space = 0 ∧ s.mode ≠ 0 ∧ data.length = (dmaDesc d).len ∧ (dmaDesc d).dev % 16 ≠ 0 ∧
      (∀ i, i < data.length → s.sramBar ((dmaDesc d).dev + i) = .free) :=
  ⟨((st [(Fld.GLB_MODE_STATUS_MODE, 1), (Fld.HIF_Q_CFG_EN 31, 1), (Fld.HIF_Q_CFG_SIZE_LOG 31, 4), (Fld.HIF_Q_HEAD_INDEX 31, 5),
    (Fld.HIF_Q_TAIL_INDEX 31, 6), (Fld.HIF_Q_STATUS_STATE 31, 1), (Fld.HIF_Q_STATUS_PHASE 31, 1),
    (⟨Reg.HIF_Q_CPL_LO 31, 0, 32⟩, 0x1000)]).setDma 31 (some (leBytes 8 (0x120000000) ++ leBytes 8 (0x3C00001) ++ leBytes 4 4 ++
    [0, 3, 0, 0] ++ [4, 1, 0, 0] ++ [0, 0, 0, 0]))), 31, (leBytes 8 (0x120000000) ++ leBytes 8 (0x3C00001) ++ leBytes 4 4 ++
    [0, 3, 0, 0] ++ [4, 1, 0, 0] ++ [0, 0, 0, 0]), [1, 2, 3, 4], wf_of _ (by decide +kernel), (by decide +kernel),
    (by decide +kernel), (by decide +kernel), (by decide +kernel), (by decide +kernel), (by decide +kernel), (by decide +kernel),
    (by decide +kernel), (by decide +kernel), (by decide +kernel), (by decide +kernel), (by decide +kernel), (by decide +kernel)⟩

theorem wit_HostWindowsAndDma_23 :
    ∃ (s : State) (q : Fin 64) (d : List Byte) (data : List Byte), s.Wf ∧ 32 ≤ q.val ∧ s.dmaJob q = some d ∧ s.d3hot = false ∧
      s.fld (Fld.HIF_Q_CFG_SIZE_LOG q) ≤ 12 ∧ s.stopping q = false ∧ s.dataLeft q = 0 ∧ s.dramWaits (.dma q) = false ∧
      (dmaDesc d).ok = true ∧ (dmaDesc d).space = 1 ∧ (s.mode ≠ 0 ∧ s.mode ≠ 2) ∧ s.masks = false ∧
      s.dramMarked (dmaDesc d).dev (dmaDesc d).len = false :=
  ⟨(((st [(Fld.GLB_MODE_STATUS_MODE, 1), (Fld.HIF_Q_CFG_EN 33, 1), (Fld.HIF_Q_CFG_SIZE_LOG 33, 4), (Fld.HIF_Q_HEAD_INDEX 33, 5),
    (Fld.HIF_Q_TAIL_INDEX 33, 6), (Fld.HIF_Q_STATUS_STATE 33, 1), (Fld.HIF_Q_STATUS_PHASE 33, 1),
    (⟨Reg.HIF_Q_CPL_LO 33, 0, 32⟩, 0x1000), (Fld.HIF_CTL_RO_EN, 1)]).setDma 33 (some (leBytes 8 (0x120000000) ++ leBytes 8
    (0x40000000) ++ leBytes 4 4 ++ [1, 3, 0, 0] ++ [4, 1, 0, 0] ++ [0, 0, 0, 0]))).putDramBytes 0x40000000 [1, 2, 3, 4]), 33, (leBytes
    8 (0x120000000) ++ leBytes 8 (0x40000000) ++ leBytes 4 4 ++ [1, 3, 0, 0] ++ [4, 1, 0, 0] ++ [0, 0, 0, 0]), [], wf_of _
    (by decide +kernel), (by decide +kernel), (by decide +kernel), (by decide +kernel), (by decide +kernel), (by decide +kernel),
    (by decide +kernel), (by decide +kernel), (by decide +kernel), (by decide +kernel), (by decide +kernel), (by decide +kernel),
    (by decide +kernel)⟩

theorem wit_HostWindowsAndDma_24 :
    ∃ (s : State) (q : Fin 64) (d : List Byte) (data : List Byte) (ue : Bool), s.Wf ∧ 32 ≤ q.val ∧ s.dmaJob q = some d ∧
      s.d3hot = false ∧ s.fld (Fld.HIF_Q_CFG_SIZE_LOG q) ≤ 12 ∧ s.stopping q = false ∧ s.dataLeft q = 0 ∧
      s.dramWaits (.dma q) = false ∧ (dmaDesc d).ok = true ∧ (dmaDesc d).space = 1 ∧ (s.mode ≠ 0 ∧ s.mode ≠ 2) ∧ s.masks = false ∧
      s.dramMarked (dmaDesc d).dev (dmaDesc d).len = true :=
  ⟨({ ((st [(Fld.GLB_MODE_STATUS_MODE, 1), (Fld.HIF_Q_CFG_EN 33, 1), (Fld.HIF_Q_CFG_SIZE_LOG 33, 4), (Fld.HIF_Q_HEAD_INDEX 33, 5), (Fld.HIF_Q_TAIL_INDEX 33, 6), (Fld.HIF_Q_STATUS_STATE 33, 1), (Fld.HIF_Q_STATUS_PHASE 33, 1), (⟨Reg.HIF_Q_CPL_LO 33, 0, 32⟩, 0x1000)]).setDma 33 (some (leBytes 8 (0x120000000) ++ leBytes 8 (0x40000000) ++ leBytes 4 4 ++ [1, 3, 0, 0] ++ [4, 1, 0, 0] ++ [0, 0, 0, 0]))) with mem := { rel.mem with badDram := [0x8000000] } }
    : State), 33, (leBytes 8 (0x120000000) ++ leBytes 8 (0x40000000) ++ leBytes 4 4 ++ [1, 3, 0, 0] ++ [4, 1, 0, 0] ++ [0, 0, 0, 0]),
    [], false, wf_of _ (by decide +kernel), (by decide +kernel), (by decide +kernel), (by decide +kernel), (by decide +kernel),
    (by decide +kernel), (by decide +kernel), (by decide +kernel), (by decide +kernel), (by decide +kernel), (by decide +kernel),
    (by decide +kernel), (by decide +kernel)⟩

theorem wit_HostWindowsAndDma_25 :
    ∃ (s : State) (q : Fin 64) (d : List Byte) (ue : Bool), s.Wf ∧ 32 ≤ q.val ∧ s.dmaJob q = some d ∧ s.d3hot = false ∧
      s.fld (Fld.HIF_Q_CFG_SIZE_LOG q) ≤ 12 ∧ s.stopping q = false ∧ s.dramWaits (.dma q) = false ∧ (dmaDesc d).ok = true ∧
      (dmaDesc d).space = 1 ∧ (s.mode ≠ 0 ∧ s.mode ≠ 2) :=
  ⟨(({ (st [(Fld.GLB_MODE_STATUS_MODE, 1), (Fld.HIF_Q_CFG_EN 33, 1), (Fld.HIF_Q_CFG_SIZE_LOG 33, 4), (Fld.HIF_Q_HEAD_INDEX 33, 5), (Fld.HIF_Q_TAIL_INDEX 33, 6), (Fld.HIF_Q_STATUS_STATE 33, 1), (Fld.HIF_Q_STATUS_PHASE 33, 1), (⟨Reg.HIF_Q_CPL_LO 33, 0, 32⟩, 0x1000)]) with hif := { rel.hif with dataLeft := [(33, 1)] } }
    : State).setDma 33 (some (leBytes 8 (0x120000000) ++ leBytes 8 (0x40000000) ++ leBytes 4 4 ++ [1, 3, 0, 0] ++ [4, 1, 0, 0] ++
    [0, 0, 0, 0]))), 33, (leBytes 8 (0x120000000) ++ leBytes 8 (0x40000000) ++ leBytes 4 4 ++ [1, 3, 0, 0] ++ [4, 1, 0, 0] ++
    [0, 0, 0, 0]), true, wf_of _ (by decide +kernel), (by decide +kernel), (by decide +kernel), (by decide +kernel),
    (by decide +kernel), (by decide +kernel), (by decide +kernel), (by decide +kernel), (by decide +kernel), (by decide +kernel)⟩

theorem wit_HostWindowsAndDma_26 :
    ∃ (s : State) (q : Fin 64) (d : List Byte) (data : List Byte) (how : HostEnd) (ue : Bool), s.Wf ∧ s.dmaJob q = some d ∧
      s.d3hot = false ∧ s.fld (Fld.HIF_Q_CFG_SIZE_LOG q) ≤ 12 ∧ s.stopping q = false ∧ (dmaDesc d).ok = false :=
  ⟨((st [(Fld.GLB_MODE_STATUS_MODE, 1), (Fld.HIF_Q_CFG_EN 33, 1), (Fld.HIF_Q_CFG_SIZE_LOG 33, 4), (Fld.HIF_Q_HEAD_INDEX 33, 5),
    (Fld.HIF_Q_TAIL_INDEX 33, 6), (Fld.HIF_Q_STATUS_STATE 33, 1), (Fld.HIF_Q_STATUS_PHASE 33, 1),
    (⟨Reg.HIF_Q_CPL_LO 33, 0, 32⟩, 0x1000)]).setDma 33 (some (leBytes 8 (0) ++ leBytes 8 (0) ++ leBytes 4 0 ++ [1, 0, 0, 0] ++
    [4, 1, 0, 0] ++ [0, 0, 0, 0]))), 33, (leBytes 8 (0) ++ leBytes 8 (0) ++ leBytes 4 0 ++ [1, 0, 0, 0] ++ [4, 1, 0, 0] ++
    [0, 0, 0, 0]), [], .ok, false, wf_of _ (by decide +kernel), (by decide +kernel), (by decide +kernel), (by decide +kernel),
    (by decide +kernel), (by decide +kernel)⟩

theorem wit_HostWindowsAndDma_27 :
    ∃ (s : State) (q : Fin 64) (d : List Byte) (data : List Byte) (how : HostEnd) (ue : Bool), s.Wf ∧ s.dmaJob q = some d ∧
      s.d3hot = false ∧ s.fld (Fld.HIF_Q_CFG_SIZE_LOG q) ≤ 12 ∧ s.stopping q = false ∧ (dmaDesc d).ok = true ∧
      (s.mode = 0 ∨ ((dmaDesc d).space = 1 ∧ s.mode = 2)) :=
  ⟨((st [(Fld.GLB_MODE_STATUS_MODE, 2), (Fld.HIF_Q_CFG_EN 33, 1), (Fld.HIF_Q_CFG_SIZE_LOG 33, 4), (Fld.HIF_Q_HEAD_INDEX 33, 5),
    (Fld.HIF_Q_TAIL_INDEX 33, 6), (Fld.HIF_Q_STATUS_STATE 33, 1), (Fld.HIF_Q_STATUS_PHASE 33, 1),
    (⟨Reg.HIF_Q_CPL_LO 33, 0, 32⟩, 0x1000)]).setDma 33 (some (leBytes 8 (0x120000000) ++ leBytes 8 (0x40000000) ++ leBytes 4 4 ++
    [1, 3, 0, 0] ++ [4, 1, 0, 0] ++ [0, 0, 0, 0]))), 33, (leBytes 8 (0x120000000) ++ leBytes 8 (0x40000000) ++ leBytes 4 4 ++
    [1, 3, 0, 0] ++ [4, 1, 0, 0] ++ [0, 0, 0, 0]), [], .ok, false, wf_of _ (by decide +kernel), (by decide +kernel),
    (by decide +kernel), (by decide +kernel), (by decide +kernel), (by decide +kernel), (by decide +kernel)⟩

theorem wit_HostWindowsAndDma_28 :
    ∃ (s : State) (q : Fin 64) (d : List Byte) (data : List Byte), s.Wf ∧ q.val < 32 ∧ s.dmaJob q = some d ∧ s.d3hot = false ∧
      s.fld (Fld.HIF_Q_CFG_SIZE_LOG q) ≤ 12 ∧ s.stopping q = false ∧ s.dramWaits (.dma q) = false ∧ (dmaDesc d).ok = true ∧
      (dmaDesc d).space = 0 ∧ s.mode ≠ 0 ∧ data.length ≤ (dmaDesc d).len ∧ (∀ i, i < data.length →
      s.sramBar ((dmaDesc d).dev + i) = .free) :=
  ⟨((st [(Fld.GLB_MODE_STATUS_MODE, 1), (Fld.HIF_Q_CFG_EN 31, 1), (Fld.HIF_Q_CFG_SIZE_LOG 31, 4), (Fld.HIF_Q_HEAD_INDEX 31, 5),
    (Fld.HIF_Q_TAIL_INDEX 31, 6), (Fld.HIF_Q_STATUS_STATE 31, 1), (Fld.HIF_Q_STATUS_PHASE 31, 1),
    (⟨Reg.HIF_Q_CPL_LO 31, 0, 32⟩, 0x1000)]).setDma 31 (some (leBytes 8 (0x120000000) ++ leBytes 8 (0x3C00000) ++ leBytes 4 4 ++
    [0, 3, 0, 0] ++ [4, 1, 0, 0] ++ [0, 0, 0, 0]))), 31, (leBytes 8 (0x120000000) ++ leBytes 8 (0x3C00000) ++ leBytes 4 4 ++
    [0, 3, 0, 0] ++ [4, 1, 0, 0] ++ [0, 0, 0, 0]), [1, 2], wf_of _ (by decide +kernel), (by decide +kernel), (by decide +kernel),
    (by decide +kernel), (by decide +kernel), (by decide +kernel), (by decide +kernel), (by decide +kernel), (by decide +kernel),
    (by decide +kernel), (by decide +kernel), (by decide +kernel)⟩

theorem wit_HostWindowsAndDma_29 :
    ∃ (s : State) (q : Fin 64) (d : List Byte) (data : List Byte) (how : HostEnd), s.Wf ∧ q.val < 32 ∧ s.dmaJob q = some d ∧
      s.d3hot = false ∧ s.fld (Fld.HIF_Q_CFG_SIZE_LOG q) ≤ 12 ∧ s.stopping q = true ∧ s.dramWaits (.dma q) = false ∧
      (dmaDesc d).ok = true ∧ (dmaDesc d).space = 0 ∧ s.mode ≠ 0 ∧ data.length ≤ s.dmaIssued q (dmaDesc d) ∧ (∀ i, i < data.length →
      s.sramBar ((dmaDesc d).dev + i) = .free) :=
  ⟨({ ((st [(Fld.GLB_MODE_STATUS_MODE, 1), (Fld.HIF_Q_CFG_EN 31, 1), (Fld.HIF_Q_CFG_SIZE_LOG 31, 4), (Fld.HIF_Q_HEAD_INDEX 31, 5), (Fld.HIF_Q_TAIL_INDEX 31, 6), (Fld.HIF_Q_STATUS_STATE 31, 1), (Fld.HIF_Q_STATUS_PHASE 31, 1), (⟨Reg.HIF_Q_CPL_LO 31, 0, 32⟩, 0x1000)]).setDma 31 (some (leBytes 8 (0x120000000) ++ leBytes 8 (0x3C00000) ++ leBytes 4 4 ++ [0, 3, 0, 0] ++ [4, 1, 0, 0] ++ [0, 0, 0, 0]))) with hif := { ((st [(Fld.GLB_MODE_STATUS_MODE, 1), (Fld.HIF_Q_CFG_EN 31, 1), (Fld.HIF_Q_CFG_SIZE_LOG 31, 4), (Fld.HIF_Q_HEAD_INDEX 31, 5), (Fld.HIF_Q_TAIL_INDEX 31, 6), (Fld.HIF_Q_STATUS_STATE 31, 1), (Fld.HIF_Q_STATUS_PHASE 31, 1), (⟨Reg.HIF_Q_CPL_LO 31, 0, 32⟩, 0x1000)]).setDma 31 (some (leBytes 8 (0x120000000) ++ leBytes 8 (0x3C00000) ++ leBytes 4 4 ++ [0, 3, 0, 0] ++ [4, 1, 0, 0] ++ [0, 0, 0, 0]))).hif with stopping := [(31, true)] } }
    : State), 31, (leBytes 8 (0x120000000) ++ leBytes 8 (0x3C00000) ++ leBytes 4 4 ++ [0, 3, 0, 0] ++ [4, 1, 0, 0] ++ [0, 0, 0, 0]),
    [1, 2, 3], .ok, wf_of _ (by decide +kernel), (by decide +kernel), (by decide +kernel), (by decide +kernel), (by decide +kernel),
    (by decide +kernel), (by decide +kernel), (by decide +kernel), (by decide +kernel), (by decide +kernel),
    (issued_all _ _ _ (by decide +kernel) (by decide +kernel)), (by decide +kernel)⟩

theorem wit_HostWindowsAndDma_30 :
    ∃ (s : State) (q : Fin 64) (d : List Byte) (how : HostEnd) (ue : Bool), s.Wf ∧ s.dmaJob q = some d ∧ s.d3hot = false ∧
      s.fld (Fld.HIF_Q_CFG_SIZE_LOG q) ≤ 12 ∧ s.stopping q = true :=
  ⟨({ ((st [(Fld.GLB_MODE_STATUS_MODE, 1), (Fld.HIF_Q_CFG_EN 31, 1), (Fld.HIF_Q_CFG_SIZE_LOG 31, 4), (Fld.HIF_Q_HEAD_INDEX 31, 5), (Fld.HIF_Q_TAIL_INDEX 31, 6), (Fld.HIF_Q_STATUS_STATE 31, 1), (Fld.HIF_Q_STATUS_PHASE 31, 1), (⟨Reg.HIF_Q_CPL_LO 31, 0, 32⟩, 0x1000)]).setDma 31 (some (leBytes 8 (0x120000000) ++ leBytes 8 (0x3C00000) ++ leBytes 4 4 ++ [0, 3, 0, 0] ++ [4, 1, 0, 0] ++ [0, 0, 0, 0]))) with hif := { ((st [(Fld.GLB_MODE_STATUS_MODE, 1), (Fld.HIF_Q_CFG_EN 31, 1), (Fld.HIF_Q_CFG_SIZE_LOG 31, 4), (Fld.HIF_Q_HEAD_INDEX 31, 5), (Fld.HIF_Q_TAIL_INDEX 31, 6), (Fld.HIF_Q_STATUS_STATE 31, 1), (Fld.HIF_Q_STATUS_PHASE 31, 1), (⟨Reg.HIF_Q_CPL_LO 31, 0, 32⟩, 0x1000)]).setDma 31 (some (leBytes 8 (0x120000000) ++ leBytes 8 (0x3C00000) ++ leBytes 4 4 ++ [0, 3, 0, 0] ++ [4, 1, 0, 0] ++ [0, 0, 0, 0]))).hif with stopping := [(31, true)] } }
    : State), 31, (leBytes 8 (0x120000000) ++ leBytes 8 (0x3C00000) ++ leBytes 4 4 ++ [0, 3, 0, 0] ++ [4, 1, 0, 0] ++ [0, 0, 0, 0]),
    .abort, false, wf_of _ (by decide +kernel), (by decide +kernel), (by decide +kernel), (by decide +kernel), (by decide +kernel)⟩

theorem wit_HostWindowsAndDma_31 :
    ∃ (s : State) (q : Fin 64) (d : List Byte) (data : List Byte) (how : HostEnd) (ue : Bool), s.Wf ∧
      (s.dmaJob q = none ∨ s.d3hot = true) :=
  ⟨rel, 31, [], [], .ok, false, wf_of _ (by decide +kernel), (by decide +kernel)⟩

theorem wit_HostWindowsAndDma_32 :
    ∃ (s : State) (p : Path) (q : Fin 64) (v : Word), s.Wf ∧ s.accepts p (Reg.HIF_Q_CFG q) = true :=
  ⟨(st [(Fld.GLB_MODE_STATUS_MODE, 1), (Fld.HIF_Q_CFG_EN 63, 1), (Fld.HIF_Q_CFG_SIZE_LOG 63, 4), (Fld.HIF_Q_HEAD_INDEX 63, 5),
    (Fld.HIF_Q_TAIL_INDEX 63, 6), (Fld.HIF_Q_STATUS_STATE 63, 1), (Fld.HIF_Q_STATUS_PHASE 63, 1),
    (⟨Reg.HIF_Q_CPL_LO 63, 0, 32⟩, 0x1000)]), .bar0, 63, 0, wf_of _ (by decide +kernel), (by decide +kernel)⟩

theorem wit_HostWindowsAndDma_33 :
    ∃ (s : State) (p : Path) (q : Fin 64) (v : Word), s.Wf ∧ s.accepts p (Reg.HIF_Q_CTL q) = true ∧ v.getLsbD 0 = true ∧
      s.fld (Fld.HIF_Q_STATUS_STATE q) ≠ 1 :=
  ⟨st [(Fld.HIF_Q_STATUS_STATE 63, 3), (Fld.HIF_Q_HEAD_INDEX 63, 9)], .bar0, 63, 1, wf_of _ (by decide +kernel), (by decide +kernel),
    (by decide +kernel), (by decide +kernel)⟩

theorem wit_HostWindowsAndDma_34 :
    ∃ (s : State) (p : Path) (q : Fin 64) (v : Word), s.Wf ∧ s.accepts p (Reg.HIF_Q_CTL q) = true ∧
      (v.getLsbD 0 = false ∨ s.fld (Fld.HIF_Q_STATUS_STATE q) = 1) :=
  ⟨(st [(Fld.GLB_MODE_STATUS_MODE, 1), (Fld.HIF_Q_CFG_EN 63, 1), (Fld.HIF_Q_CFG_SIZE_LOG 63, 4), (Fld.HIF_Q_HEAD_INDEX 63, 5),
    (Fld.HIF_Q_TAIL_INDEX 63, 6), (Fld.HIF_Q_STATUS_STATE 63, 1), (Fld.HIF_Q_STATUS_PHASE 63, 1),
    (⟨Reg.HIF_Q_CPL_LO 63, 0, 32⟩, 0x1000)]), .bar0, 63, 1, wf_of _ (by decide +kernel), (by decide +kernel), (by decide +kernel)⟩

theorem wit_HostWindowsAndDma_35 :
    ∃ (s : State) (p : Path) (q : Fin 64) (v : Word), s.Wf ∧ s.accepts p (Reg.HIF_Q_LIMIT q) = true :=
  ⟨rel, .bar0, 63, 0x80000000, wf_of _ (by decide +kernel), (by decide +kernel)⟩

theorem wit_InterruptsAndSmbus_0 :
    ∃ (s : State) (v : Fin 512) (fmask : Bool), s.Wf ∧ s.startLevel v = true ∧ s.bit (vecField Reg.HIF_VEC_REARM v) = true ∧
      (sget (fun _ => 0) s.wrOne (Reg.HIF_VEC_REARM (v.val / 32)) = 0) ∧ fmask = false ∧ s.vecMasked v = false ∧ s.d3hot = false :=
  ⟨(let x := st [(Fld.GLB_MODE_STATUS_MODE, 1), (Fld.HIF_IRQ_MAP_EN 304, 1), (Fld.HIF_IRQ_MAP_VECTOR 304, 511),
    (Fld.HIF_EVENT_MODE_CHG, 1), (⟨Reg.HIF_EVENT_EN, 0, 1⟩, 1), (⟨Reg.HIF_MSIX_TABLE 511 3, 0, 1⟩, 0),
    (⟨Reg.HIF_MSIX_TABLE 511 0, 0, 32⟩, 0xFEE00000)]; { x with hif := { x.hif with start := x.regs } }), 511, false, wf_of _
    (by decide +kernel), (by decide +kernel), (by decide +kernel), (by decide +kernel), (by decide +kernel), (by decide +kernel),
    (by decide +kernel)⟩

theorem wit_InterruptsAndSmbus_1 :
    ∃ (s : State) (v : Fin 512) (fmask : Bool), s.Wf ∧ s.startLevel v = true ∧ s.bit (vecField Reg.HIF_VEC_REARM v) = true ∧
      (sget (fun _ => 0) s.wrOne (Reg.HIF_VEC_REARM (v.val / 32)) = 0) ∧ (fmask = true ∨ s.vecMasked v = true ∨ s.d3hot = true) :=
  ⟨(let x := st [(Fld.GLB_MODE_STATUS_MODE, 1), (Fld.HIF_IRQ_MAP_EN 304, 1), (Fld.HIF_IRQ_MAP_VECTOR 304, 511),
    (Fld.HIF_EVENT_MODE_CHG, 1), (⟨Reg.HIF_EVENT_EN, 0, 1⟩, 1)]; { x with hif := { x.hif with start := x.regs } }), 511, true, wf_of _
    (by decide +kernel), (by decide +kernel), (by decide +kernel), (by decide +kernel), (by decide +kernel)⟩

theorem wit_InterruptsAndSmbus_2 :
    ∃ (s : State) (v : Fin 512) (fmask : Bool), s.Wf ∧ (s.startLevel v = false ∨ s.bit (vecField Reg.HIF_VEC_REARM v) = false) :=
  ⟨rel, 511, false, wf_of _ (by decide +kernel), (by decide +kernel)⟩

theorem wit_InterruptsAndSmbus_3 :
    ∃ (s : State) (p : Path) (w : Fin 16) (v : Word), s.Wf ∧ s.accepts p (Reg.HIF_VEC_REARM w) = true :=
  ⟨st [(⟨Reg.HIF_VEC_REARM 15, 0, 32⟩, 1)], .bar0, 15, 0x80000000, wf_of _ (by decide +kernel), (by decide +kernel)⟩

theorem wit_InterruptsAndSmbus_4 :
    ∃ (s : State) (v : Fin 512), s.Wf ∧ s.bit (vecField Reg.HIF_MSIX_PBA v) = true ∧ s.d3hot = false ∧ s.hif.funcMask = false :=
  ⟨st [(vecField Reg.HIF_MSIX_PBA 511, 1)], 511, wf_of _ (by decide +kernel), (by decide +kernel), (by decide +kernel),
    (by decide +kernel)⟩

theorem wit_InterruptsAndSmbus_5 :
    ∃ (s : State) (v : Fin 512), s.Wf ∧ s.hif.funcMask = true :=
  ⟨({ (st [(vecField Reg.HIF_MSIX_PBA 511, 1)]) with hif := { rel.hif with funcMask := true } } : State), 511, wf_of _
    (by decide +kernel), (by decide +kernel)⟩

theorem wit_InterruptsAndSmbus_6 :
    ∃ (s : State), s.Wf ∧ s.d3hot = false :=
  ⟨st [(vecField Reg.HIF_MSIX_PBA 511, 1), (⟨Reg.HIF_MSIX_TABLE 511 3, 0, 1⟩, 0)], wf_of _ (by decide +kernel), (by decide +kernel)⟩

theorem wit_InterruptsAndSmbus_7 :
    ∃ (s : State), s.Wf ∧ s.d3hot = true ∧ s.hif.funcMask = false :=
  ⟨st [(Fld.HIF_LINK_STATUS_DSTATE, 3), (vecField Reg.HIF_MSIX_PBA 511, 1), (⟨Reg.HIF_MSIX_TABLE 511 3, 0, 1⟩, 0)], wf_of _
    (by decide +kernel), (by decide +kernel), (by decide +kernel)⟩

theorem wit_InterruptsAndSmbus_8 :
    ∃ (s : State) (addr : BitVec 7) (off : BitVec 32) (d : RegDesc), s.Wf ∧ s.glb.released = true ∧
      addr.toNat = 0x58 + s.hif.smbAddr ∧ off.toNat % 4 = 0 ∧ off.toNat < 2 ^ 26 ∧ inSec off.toNat = false ∧
      regDesc off.toNat = some d ∧ d.half = .none ∧ elem off.toNat (Reg.SUP_MADC_RESULT 0) 0x10 2 = none ∧
      off.toNat ≠ Reg.TLN_REEL_FRAC :=
  ⟨st [(⟨Reg.CSC_RRA_DATA, 0, 32⟩, 0x80000001)], 0x58, BitVec.ofNat 32 Reg.CSC_RRA_DATA, ⟨"CSC_RRA_DATA", 393736, [], .none, 0,
    0xFFFFFFFF, 0, 0, 0, 0⟩, wf_of _ (by decide +kernel), (by decide +kernel), (by decide +kernel), (by decide +kernel),
    (by decide +kernel), (by decide +kernel), (by decide +kernel), (by decide +kernel), (by decide +kernel), (by decide +kernel)⟩

theorem wit_InterruptsAndSmbus_9 :
    ∃ (s : State) (addr : BitVec 7) (off : BitVec 32), s.Wf ∧ s.glb.released = true ∧ addr.toNat = 0x58 + s.hif.smbAddr ∧
      off.toNat % 4 = 0 ∧ off.toNat < 2 ^ 26 ∧ inSec off.toNat = false ∧ regDesc off.toNat = none ∧
      elem off.toNat (Reg.SUP_MADC_RESULT 0) 0x10 2 = none :=
  ⟨rel, 0x58, 0x3FFFFFC, wf_of _ (by decide +kernel), (by decide +kernel), (by decide +kernel), (by decide +kernel),
    (by decide +kernel), (by decide +kernel), (by decide +kernel), (by decide +kernel)⟩

theorem wit_InterruptsAndSmbus_10 :
    ∃ (s : State) (addr : BitVec 7) (off : BitVec 32) (d : RegDesc), s.Wf ∧ s.glb.released = true ∧
      addr.toNat = 0x58 + s.hif.smbAddr ∧ off.toNat % 4 = 0 ∧ off.toNat < 2 ^ 26 ∧ inSec off.toNat = false ∧
      regDesc off.toNat = some d ∧ d.half = .lo ∧ elem off.toNat (Reg.SUP_MADC_RESULT 0) 0x10 2 = none :=
  ⟨rel, 0x58, BitVec.ofNat 32 Reg.CSC_EPOCH_LO, (regDesc Reg.CSC_EPOCH_LO).get (by decide +kernel), wf_of _ (by decide +kernel),
    (by decide +kernel), (by decide +kernel), (by decide +kernel), (by decide +kernel), (by decide +kernel), (by decide +kernel),
    (by decide +kernel), (by decide +kernel)⟩

theorem wit_InterruptsAndSmbus_11 :
    ∃ (s : State) (addr : BitVec 7) (off : BitVec 32) (d : RegDesc), s.Wf ∧ s.glb.released = true ∧
      addr.toNat = 0x58 + s.hif.smbAddr ∧ off.toNat % 4 = 0 ∧ off.toNat < 2 ^ 26 ∧ inSec off.toNat = false ∧
      regDesc off.toNat = some d ∧ d.half = .hi ∧ elem off.toNat (Reg.SUP_MADC_RESULT 0) 0x10 2 = none :=
  ⟨({ rel with heldRd := [(pairKey .smbus Reg.CSC_EPOCH_LO, some 7)] } : State), 0x58, BitVec.ofNat 32 Reg.CSC_EPOCH_HI,
    (regDesc Reg.CSC_EPOCH_HI).get (by decide +kernel), wf_of _ (by decide +kernel), (by decide +kernel), (by decide +kernel),
    (by decide +kernel), (by decide +kernel), (by decide +kernel), (by decide +kernel), (by decide +kernel), (by decide +kernel)⟩

theorem wit_InterruptsAndSmbus_12 :
    ∃ (s : State) (addr : BitVec 7) (off : BitVec 32), s.Wf ∧ s.glb.released = true ∧ addr.toNat = 0x58 + s.hif.smbAddr ∧
      off.toNat % 4 = 0 ∧ off.toNat < 2 ^ 26 ∧ off.toNat = Reg.TLN_REEL_FRAC :=
  ⟨({ rel with heldRd := [(pairKey .smbus Reg.TLN_REEL_FRAC, some 7)] } : State), 0x58, BitVec.ofNat 32 Reg.TLN_REEL_FRAC, wf_of _
    (by decide +kernel), (by decide +kernel), (by decide +kernel), (by decide +kernel), (by decide +kernel), (by decide +kernel)⟩

theorem wit_InterruptsAndSmbus_13 :
    ∃ (s : State) (addr : BitVec 7) (off : BitVec 32) (x : Fin 2), s.Wf ∧ s.glb.released = true ∧ addr.toNat = 0x58 + s.hif.smbAddr ∧
      off.toNat % 4 = 0 ∧ off.toNat < 2 ^ 26 ∧ off.toNat = Reg.SUP_MADC_RESULT x :=
  ⟨st [(Fld.SUP_MADC_RESULT_VALID 1, 1)], 0x58, BitVec.ofNat 32 (Reg.SUP_MADC_RESULT 1), 1, wf_of _ (by decide +kernel),
    (by decide +kernel), (by decide +kernel), (by decide +kernel), (by decide +kernel), (by decide +kernel)⟩

theorem wit_InterruptsAndSmbus_14 :
    ∃ (s : State) (addr : BitVec 7) (off : BitVec 32), s.Wf ∧ s.glb.released = true ∧ addr.toNat = 0x58 + s.hif.smbAddr ∧
      off.toNat % 4 = 0 ∧ off.toNat < 2 ^ 26 ∧ inSec off.toNat = true :=
  ⟨rel, 0x58, BitVec.ofNat 32 Reg.SEC_DSN_LO, wf_of _ (by decide +kernel), (by decide +kernel), (by decide +kernel),
    (by decide +kernel), (by decide +kernel), (by decide +kernel)⟩

theorem wit_InterruptsAndSmbus_15 :
    ∃ (s : State) (addr : BitVec 7) (off : BitVec 32), s.Wf ∧ s.glb.released = true ∧ addr.toNat = 0x58 + s.hif.smbAddr ∧
      (off.toNat % 4 ≠ 0 ∨ 2 ^ 26 ≤ off.toNat) :=
  ⟨rel, 0x58, 0x4000000, wf_of _ (by decide +kernel), (by decide +kernel), (by decide +kernel), (by decide +kernel)⟩

theorem wit_InterruptsAndSmbus_16 :
    ∃ (s : State) (addr : BitVec 7) (off : BitVec 32), s.Wf ∧ addr.toNat ≠ 0x58 + s.hif.smbAddr :=
  ⟨rel, 0x59, 0, wf_of _ (by decide +kernel), (by decide +kernel)⟩

theorem wit_InterruptsAndSmbus_17 :
    ∃ (s : State) (addr : BitVec 7) (off : BitVec 32) (v : Word), s.Wf ∧ s.glb.released = true ∧ addr.toNat = 0x58 + s.hif.smbAddr ∧
      off.toNat % 4 = 0 ∧ off.toNat < 2 ^ 26 ∧ off.toNat = Reg.HIF_SMB_MBOX_IN ∧ s.checkBlocks Reg.HIF_SMB_MBOX_IN = false :=
  ⟨rel, 0x58, BitVec.ofNat 32 Reg.HIF_SMB_MBOX_IN, 7, wf_of _ (by decide +kernel), (by decide +kernel), (by decide +kernel),
    (by decide +kernel), (by decide +kernel), (by decide +kernel), (by decide +kernel)⟩

theorem wit_InterruptsAndSmbus_18 :
    ∃ (s : State) (addr : BitVec 7) (off : BitVec 32) (v : Word) (pec : Byte), s.Wf ∧ s.glb.released = true ∧
      addr.toNat = 0x58 + s.hif.smbAddr ∧ off.toNat % 4 = 0 ∧ off.toNat < 2 ^ 26 ∧ off.toNat = Reg.HIF_SMB_MBOX_IN ∧
      s.checkBlocks Reg.HIF_SMB_MBOX_IN = false ∧ pec.toNat = pecOf ([2 * addr.toNat, 0x11, 8] ++ bytes32 off ++ bytes32 v) :=
  ⟨rel, 0x58, BitVec.ofNat 32 Reg.HIF_SMB_MBOX_IN, 7, BitVec.ofNat 8 (pecOf ([0xB0, 0x11, 8] ++ bytes32
    (BitVec.ofNat 32 Reg.HIF_SMB_MBOX_IN) ++ bytes32 7)), wf_of _ (by decide +kernel), (by decide +kernel), (by decide +kernel),
    (by decide +kernel), (by decide +kernel), (by decide +kernel), (by decide +kernel), (by decide +kernel)⟩

theorem wit_InterruptsAndSmbus_19 :
    ∃ (s : State) (addr : BitVec 7) (off : BitVec 32) (v : Word) (pec : Byte), s.Wf ∧
      pec.toNat ≠ pecOf ([2 * addr.toNat, 0x11, 8] ++ bytes32 off ++ bytes32 v) :=
  ⟨rel, 0x58, BitVec.ofNat 32 Reg.HIF_SMB_MBOX_IN, 7, 0, wf_of _ (by decide +kernel), (by decide +kernel)⟩

theorem wit_InterruptsAndSmbus_20 :
    ∃ (s : State) (addr : BitVec 7) (off : BitVec 32) (v : Word), s.Wf ∧ s.glb.released = true ∧ addr.toNat = 0x58 + s.hif.smbAddr ∧
      off.toNat % 4 = 0 ∧ off.toNat < 2 ^ 26 ∧ off.toNat = Reg.GLB_MODE_CTL ∧ (3 ≤ s.mode ∧ s.mode ≤ 6) ∧
      (fieldGet v Fld.GLB_MODE_CTL_REQ = 4 ∨ fieldGet v Fld.GLB_MODE_CTL_REQ = 5) :=
  ⟨(st [(Fld.GLB_MODE_STATUS_MODE, 6)]), 0x58, BitVec.ofNat 32 Reg.GLB_MODE_CTL, 0xA4000004, wf_of _ (by decide +kernel),
    (by decide +kernel), (by decide +kernel), (by decide +kernel), (by decide +kernel), (by decide +kernel), (by decide +kernel),
    (by decide +kernel)⟩

theorem wit_InterruptsAndSmbus_21 :
    ∃ (s : State) (addr : BitVec 7) (off : BitVec 32) (v : Word), s.Wf ∧ s.glb.released = true ∧ addr.toNat = 0x58 + s.hif.smbAddr ∧
      off.toNat % 4 = 0 ∧ off.toNat < 2 ^ 26 ∧ off.toNat = Reg.GLB_MODE_CTL ∧ (s.mode = 5 ∨ (s.mode = 6 ∧ s.glb.m6Stopped = false)) ∧
      fieldGet v Fld.GLB_MODE_CTL_REQ = 4 ∧ fieldGet v Fld.GLB_MODE_CTL_KEY = 0xA5 ∧ fieldGet v Fld.GLB_MODE_CTL_RUN = 0 ∧
      s.modeBusy = false ∧ s.glb.tripTick ≠ some s.tick :=
  ⟨(st [(Fld.GLB_MODE_STATUS_MODE, 5)]), 0x58, BitVec.ofNat 32 Reg.GLB_MODE_CTL, 0xA5000004, wf_of _ (by decide +kernel),
    (by decide +kernel), (by decide +kernel), (by decide +kernel), (by decide +kernel), (by decide +kernel), (by decide +kernel),
    (by decide +kernel), (by decide +kernel), (by decide +kernel), (by decide +kernel), (by decide +kernel)⟩

theorem wit_InterruptsAndSmbus_22 :
    ∃ (s : State) (addr : BitVec 7) (off : BitVec 32) (v : Word), s.Wf ∧ s.glb.released = true ∧ addr.toNat = 0x58 + s.hif.smbAddr ∧
      off.toNat % 4 = 0 ∧ off.toNat < 2 ^ 26 ∧ off.toNat = Reg.GLB_MODE_CTL ∧ (s.mode = 3 ∨ (s.mode = 4 ∧ s.biasOn = false)) ∧
      fieldGet v Fld.GLB_MODE_CTL_REQ = 5 ∧ fieldGet v Fld.GLB_MODE_CTL_KEY = 0xA5 ∧ fieldGet v Fld.GLB_MODE_CTL_RUN = 0 ∧
      s.modeBusy = false ∧ s.glb.tripTick ≠ some s.tick :=
  ⟨(st [(Fld.GLB_MODE_STATUS_MODE, 4)]), 0x58, BitVec.ofNat 32 Reg.GLB_MODE_CTL, 0xA5000005, wf_of _ (by decide +kernel),
    (by decide +kernel), (by decide +kernel), (by decide +kernel), (by decide +kernel), (by decide +kernel), (by decide +kernel),
    (by decide +kernel), (by decide +kernel), (by decide +kernel), (by decide +kernel), (by decide +kernel)⟩

theorem wit_InterruptsAndSmbus_23 :
    ∃ (s : State) (addr : BitVec 7) (off : BitVec 32) (v : Word), s.Wf ∧ s.glb.released = true ∧ addr.toNat = 0x58 + s.hif.smbAddr ∧
      off.toNat % 4 = 0 ∧ off.toNat < 2 ^ 26 ∧ off.toNat = Reg.GLB_MODE_CTL ∧ ((s.mode = 3 ∨ s.mode = 4) ∧
      fieldGet v Fld.GLB_MODE_CTL_REQ = 4 ∨ (s.mode = 5 ∨ s.mode = 6) ∧ fieldGet v Fld.GLB_MODE_CTL_REQ = 5) ∧
      fieldGet v Fld.GLB_MODE_CTL_KEY = 0xA5 ∧ fieldGet v Fld.GLB_MODE_CTL_RUN = 0 ∧ s.modeBusy = false ∧ s.glb.tripTick ≠ some s.tick :=
  ⟨(st [(Fld.GLB_MODE_STATUS_MODE, 6)]), 0x58, BitVec.ofNat 32 Reg.GLB_MODE_CTL, 0xA5000005, wf_of _ (by decide +kernel),
    (by decide +kernel), (by decide +kernel), (by decide +kernel), (by decide +kernel), (by decide +kernel), (by decide +kernel),
    (by decide +kernel), (by decide +kernel), (by decide +kernel), (by decide +kernel)⟩

theorem wit_InterruptsAndSmbus_24 :
    ∃ (s : State) (addr : BitVec 7) (off : BitVec 32) (v : Word), s.Wf ∧ s.glb.released = true ∧ addr.toNat = 0x58 + s.hif.smbAddr ∧
      off.toNat % 4 = 0 ∧ off.toNat < 2 ^ 26 ∧ off.toNat ≠ Reg.HIF_SMB_MBOX_IN ∧ (off.toNat = Reg.GLB_MODE_CTL →
      s.mode < 3 ∨ s.mode = 7 ∨ (fieldGet v Fld.GLB_MODE_CTL_REQ ≠ 4 ∧ fieldGet v Fld.GLB_MODE_CTL_REQ ≠ 5)) :=
  ⟨(st [(Fld.GLB_MODE_STATUS_MODE, 5)]), 0x58, BitVec.ofNat 32 Reg.GLB_MODE_CTL, 7, wf_of _ (by decide +kernel), (by decide +kernel),
    (by decide +kernel), (by decide +kernel), (by decide +kernel), (by decide +kernel), (by decide +kernel)⟩

theorem wit_InterruptsAndSmbus_25 :
    ∃ (s : State) (addr : BitVec 7) (off : BitVec 32) (v : Word), s.Wf ∧ s.glb.released = true ∧ addr.toNat = 0x58 + s.hif.smbAddr ∧
      (off.toNat % 4 ≠ 0 ∨ 2 ^ 26 ≤ off.toNat) :=
  ⟨rel, 0x58, 0x11, 7, wf_of _ (by decide +kernel), (by decide +kernel), (by decide +kernel), (by decide +kernel)⟩

theorem wit_InterruptsAndSmbus_26 :
    ∃ (s : State) (addr : BitVec 7), s.Wf ∧ s.glb.released = true ∧ addr.toNat = 0x58 + s.hif.smbAddr :=
  ⟨({ rel with hif := { rel.hif with smbStatus := 2 } } : State), 0x58, wf_of _ (by decide +kernel), (by decide +kernel),
    (by decide +kernel)⟩

theorem wit_InterruptsAndSmbus_27 :
    ∃ (s : State) (path : Path) (x : Fin 2), s.Wf ∧ s.mayRead path (Reg.SUP_MADC_RESULT x) = true :=
  ⟨st [(Fld.SUP_MADC_RESULT_VALID 1, 1)], .bar0, 1, wf_of _ (by decide +kernel), (by decide +kernel)⟩

theorem wit_InterruptsAndSmbus_28 :
    ∃ (s : State) (up : Bool) (speed : BitVec 3) (width : BitVec 5) (flit : Bool), s.Wf :=
  ⟨rel, true, 6, 16, true, wf_of _ (by decide +kernel)⟩

theorem wit_InterruptsAndSmbus_29 :
    ∃ (s : State), s.Wf :=
  ⟨(({ (st [(Fld.GLB_MODE_STATUS_MODE, 1), (Fld.HIF_Q_CFG_EN 33, 1), (Fld.HIF_Q_CFG_SIZE_LOG 33, 4), (Fld.HIF_Q_HEAD_INDEX 33, 5), (Fld.HIF_Q_TAIL_INDEX 33, 6), (Fld.HIF_Q_STATUS_STATE 33, 1), (Fld.HIF_Q_STATUS_PHASE 33, 1), (⟨Reg.HIF_Q_CPL_LO 33, 0, 32⟩, 0x1000), (Fld.HIF_LINK_STATUS_DSTATE, 3)]) with hif := { rel.hif with bar4Log := 33, funcMask := true } }
    : State).setDma 33 (some (leBytes 8 (0x120000000) ++ leBytes 8 (0x40000000) ++ leBytes 4 4 ++ [1, 3, 0, 0] ++ [4, 1, 0, 0] ++
    [0, 0, 0, 0]))), wf_of _ (by decide +kernel)⟩

theorem wit_InterruptsAndSmbus_30 :
    ∃ (s : State), s.Wf :=
  ⟨rel, wf_of _ (by decide +kernel)⟩

theorem wit_InterruptsAndSmbus_31 :
    ∃ (s : State) (off : Fin 0x4000000) (n : Nat), s.Wf ∧ s.mode ≠ 0 ∧
      (∀ w ∈ s.mem.badSram, 16 * w + 16 ≤ off.val ∨ off.val + n ≤ 16 * w) :=
  ⟨((st [(Fld.GLB_MODE_STATUS_MODE, 1)]).putSramBytes 0x3000000 [9, 8]), 0x3000000, 2, wf_of _ (by decide +kernel),
    (by decide +kernel), (by decide +kernel)⟩

theorem wit_InterruptsAndSmbus_32 :
    ∃ (s : State) (x : Fin 0x2000000000) (n : Nat) (ue : Bool), s.Wf ∧ x.val < 2 ^ s.hif.bar4Log ∧ (s.mode ≠ 0 ∧ s.mode ≠ 2) :=
  ⟨(st [(Fld.GLB_MODE_STATUS_MODE, 1), (Fld.HIF_BAR4_WIN_WIN, 127)]), 0x3FFFFFFF, 4, false, wf_of _ (by decide +kernel),
    (by decide +kernel), (by decide +kernel)⟩

theorem wit_InterruptsAndSmbus_33 :
    ∃ (s : State) (p : Path) (q : Fin 64) (v : Word), s.Wf ∧ s.accepts p (Reg.HIF_Q_TAIL q) = true ∧
      v.toNat % 4096 < 2 ^ s.fld (Fld.HIF_Q_CFG_SIZE_LOG q) :=
  ⟨st [(Fld.HIF_Q_CFG_EN 63, 1), (Fld.HIF_Q_CFG_SIZE_LOG 63, 4), (Fld.HIF_Q_STATUS_STATE 63, 2)], .bar0, 63, 15, wf_of _
    (by decide +kernel), (by decide +kernel), (by decide +kernel)⟩

theorem wit_InterruptsAndSmbus_34 :
    ∃ (s : State) (q : Fin 64) (desc : List Byte) (n : Nat), s.Wf ∧ s.mayStartDma q = true ∧ desc.length = 32 ∧
      (∀ r : Fin 64, s.hostRefillReady r = false) ∧ s.hif.turn = (q.val, n + 1) :=
  ⟨({ (st [(Fld.GLB_MODE_STATUS_MODE, 1), (Fld.HIF_Q_CFG_EN 63, 1), (Fld.HIF_Q_CFG_SIZE_LOG 63, 4), (Fld.HIF_Q_HEAD_INDEX 63, 5), (Fld.HIF_Q_TAIL_INDEX 63, 6), (Fld.HIF_Q_STATUS_STATE 63, 1), (Fld.HIF_Q_STATUS_PHASE 63, 1), (⟨Reg.HIF_Q_CPL_LO 63, 0, 32⟩, 0x1000)]) with hif := { rel.hif with turn := (63, 2) } }
    : State), 63, (leBytes 8 (0x120000000) ++ leBytes 8 (0x40000000) ++ leBytes 4 4 ++ [1, 3, 0, 0] ++ [4, 1, 0, 0] ++ [0, 0, 0, 0]),
    1, wf_of _ (by decide +kernel), (by decide +kernel), (by decide +kernel), (by decide +kernel), (by decide +kernel)⟩

theorem wit_InterruptsAndSmbus_35 :
    ∃ (s : State) (q : Fin 64) (d : List Byte) (data : List Byte), s.Wf ∧ q.val < 32 ∧ s.dmaJob q = some d ∧ s.d3hot = false ∧
      s.fld (Fld.HIF_Q_CFG_SIZE_LOG q) ≤ 12 ∧ s.stopping q = false ∧ s.dataLeft q = 0 ∧ s.dramWaits (.dma q) = false ∧
      (dmaDesc d).ok = true ∧ (dmaDesc d).space = 0 ∧ s.mode ≠ 0 ∧ data.length = (dmaDesc d).len ∧ (∀ i, i < data.length →
      s.sramBar ((dmaDesc d).dev + i) = .free) :=
  ⟨((st [(Fld.GLB_MODE_STATUS_MODE, 1), (Fld.HIF_Q_CFG_EN 31, 1), (Fld.HIF_Q_CFG_SIZE_LOG 31, 4), (Fld.HIF_Q_HEAD_INDEX 31, 5),
    (Fld.HIF_Q_TAIL_INDEX 31, 6), (Fld.HIF_Q_STATUS_STATE 31, 1), (Fld.HIF_Q_STATUS_PHASE 31, 1),
    (⟨Reg.HIF_Q_CPL_LO 31, 0, 32⟩, 0x1000)]).setDma 31 (some (leBytes 8 (0x120000000) ++ leBytes 8 (0x3C00000) ++ leBytes 4 4 ++
    [0, 3, 0, 0] ++ [4, 1, 0, 0] ++ [0, 0, 0, 0]))), 31, (leBytes 8 (0x120000000) ++ leBytes 8 (0x3C00000) ++ leBytes 4 4 ++
    [0, 3, 0, 0] ++ [4, 1, 0, 0] ++ [0, 0, 0, 0]), [1, 2, 3, 4], wf_of _ (by decide +kernel), (by decide +kernel),
    (by decide +kernel), (by decide +kernel), (by decide +kernel), (by decide +kernel), (by decide +kernel), (by decide +kernel),
    (by decide +kernel), (by decide +kernel), (by decide +kernel), (by decide +kernel), (by decide +kernel)⟩

theorem wit_InterruptsAndSmbus_36 :
    ∃ (s : State) (p : Path) (q : Fin 64) (v : Word), s.Wf ∧ s.accepts p (Reg.HIF_Q_CFG q) = true :=
  ⟨(st [(Fld.GLB_MODE_STATUS_MODE, 1), (Fld.HIF_Q_CFG_EN 63, 1), (Fld.HIF_Q_CFG_SIZE_LOG 63, 4), (Fld.HIF_Q_HEAD_INDEX 63, 5),
    (Fld.HIF_Q_TAIL_INDEX 63, 6), (Fld.HIF_Q_STATUS_STATE 63, 1), (Fld.HIF_Q_STATUS_PHASE 63, 1),
    (⟨Reg.HIF_Q_CPL_LO 63, 0, 32⟩, 0x1000)]), .bar0, 63, 0, wf_of _ (by decide +kernel), (by decide +kernel)⟩

theorem wit_InterruptsAndSmbus_37 :
    ∃ (s : State) (p : Path) (q : Fin 64) (v : Word), s.Wf ∧ s.accepts p (Reg.HIF_Q_CTL q) = true ∧ v.getLsbD 0 = true ∧
      s.fld (Fld.HIF_Q_STATUS_STATE q) ≠ 1 :=
  ⟨st [(Fld.HIF_Q_STATUS_STATE 63, 3), (Fld.HIF_Q_HEAD_INDEX 63, 9)], .bar0, 63, 1, wf_of _ (by decide +kernel), (by decide +kernel),
    (by decide +kernel), (by decide +kernel)⟩

theorem wit_InterruptsAndSmbus_38 :
    ∃ (s : State) (p : Path) (q : Fin 64) (v : Word), s.Wf ∧ s.accepts p (Reg.HIF_Q_LIMIT q) = true :=
  ⟨rel, .bar0, 63, 0x80000000, wf_of _ (by decide +kernel), (by decide +kernel)⟩

theorem wit_LoadAndSecurity_0 :
    ∃ (s : State) (path : Path), s.Wf ∧ s.accepts path Reg.SEC_LOAD_CTL = true ∧ s.mode = 1 ∧ s.sec.loading = false :=
  ⟨st [(Fld.GLB_MODE_STATUS_MODE, 1), (Fld.MEM_STATUS_DRAM_READY, 1), (⟨Reg.SEC_LOAD_SRC_LO, 0, 32⟩, 0xFFFFFFFF),
    (⟨Reg.SEC_LOAD_SRC_LO + 4, 0, 32⟩, 0x1F)], .bar0, wf_of _ (by decide +kernel), (by decide +kernel), (by decide +kernel),
    (by decide +kernel)⟩

theorem wit_LoadAndSecurity_1 :
    ∃ (s : State) (path : Path), s.Wf ∧ s.accepts path Reg.SEC_LOAD_CTL = true ∧ (s.mode ≠ 1 ∨ s.sec.loading = true) :=
  ⟨st [(Fld.GLB_MODE_STATUS_MODE, 3)], .bar0, wf_of _ (by decide +kernel), (by decide +kernel), (by decide +kernel)⟩

theorem wit_LoadAndSecurity_2 :
    ∃ (s : State), s.Wf ∧ s.loaderRuns = true ∧ (runLoad s).1.1.1 = 0 :=
  ⟨loadState [] img, wf_of _ (by decide +kernel), (by decide +kernel), (by decide +kernel)⟩

theorem wit_LoadAndSecurity_3 :
    ∃ (s : State), s.Wf ∧ s.loaderRuns = true ∧ (runLoad s).1.1.1 ≠ 0 :=
  ⟨loadState [] (img.set 300 0), wf_of _ (by decide +kernel), (by decide +kernel), (by decide +kernel)⟩

theorem wit_LoadAndSecurity_4 :
    ∃ (s : State), s.Wf ∧ s.loaderRuns = false :=
  ⟨rel, wf_of _ (by decide +kernel), (by decide +kernel)⟩

theorem wit_LoadAndSecurity_5 :
    ∃ (s : State), s.Wf ∧ s.loaderRuns = true ∧ (runLoad s).1.1.1 ≠ 0 :=
  ⟨loadState [] (img.set 0 0), wf_of _ (by decide +kernel), (by decide +kernel), (by decide +kernel)⟩

theorem wit_LoadAndSecurity_6 :
    ∃ (s : State), s.Wf ∧ s.loaderRuns = true ∧ (runLoad s).1.1.1 = 0 :=
  ⟨loadState [] img, wf_of _ (by decide +kernel), (by decide +kernel), (by decide +kernel)⟩

theorem wit_LoadAndSecurity_7 :
    ∃ (s : State) (a : BitVec 37), s.Wf ∧ s.loaderRuns = true ∧ (s.sec.loadSrc ≤ a.toNat ∧ a.toNat < s.sec.loadSrc + 224) :=
  ⟨loadState [] img, 4319, wf_of _ (by decide +kernel), (by decide +kernel), (by decide +kernel)⟩

theorem wit_LoadAndSecurity_8 :
    ∃ (s : State) (ue : Option (BitVec 37)), s.Wf ∧ s.loaderRuns = false :=
  ⟨rel, none, wf_of _ (by decide +kernel), (by decide +kernel)⟩

theorem wit_LoadAndSecurity_9 :
    ∃ (s : State) (path : Path) (arg : BitVec 16), s.Wf ∧ s.accepts path Reg.SEC_CMD = true ∧ s.bit Fld.SEC_CMD_STATUS_BUSY = false ∧
      s.blank = true ∧ s.mode = 0 ∧ (1 ≤ arg.toNat % 8 ∧ arg.toNat % 8 ≤ 4) ∧ (∀ i : Fin 4, i.val < arg.toNat % 8 →
      i.val < s.sec.slots.length → s.secBuf (12 * i.val) 12 = s.sec.slots.getD i []) :=
  ⟨({ rel with sec := { rel.sec with slots := [List.replicate 48 0] } } : State), .bar0, 0x3F04, wf_of _ (by decide +kernel),
    (by decide +kernel), (by decide +kernel), (by decide +kernel), (by decide +kernel), (by decide +kernel), (by decide +kernel)⟩

theorem wit_LoadAndSecurity_10 :
    ∃ (s : State) (path : Path) (arg : BitVec 16), s.Wf ∧ s.accepts path Reg.SEC_CMD = true ∧ s.bit Fld.SEC_CMD_STATUS_BUSY = false ∧
      (s.blank = false ∨ s.mode ≠ 0 ∨ arg.toNat % 8 = 0 ∨ 4 < arg.toNat % 8) :=
  ⟨rel, .bar0, 5, wf_of _ (by decide +kernel), (by decide +kernel), (by decide +kernel), (by decide +kernel)⟩

theorem wit_LoadAndSecurity_11 :
    ∃ (s : State) (hs : List (List Byte)) (svn : Nat), s.Wf ∧ s.sec.prov = some (hs, svn) :=
  ⟨({ st [(Fld.SEC_STATUS_LEVEL, 3)] with sec := { rel.sec with prov := some ([List.replicate 48 1, List.replicate 48 2], 63) } } :
    State), [List.replicate 48 1, List.replicate 48 2], 63, wf_of _ (by decide +kernel), (by decide +kernel)⟩

theorem wit_LoadAndSecurity_12 :
    ∃ (s : State), s.Wf ∧ s.sec.prov = none :=
  ⟨rel, wf_of _ (by decide +kernel), (by decide +kernel)⟩

theorem wit_LoadAndSecurity_13 :
    ∃ (s : State) (path : Path), s.Wf ∧ s.accepts path Reg.SEC_CMD = true ∧ s.bit Fld.SEC_CMD_STATUS_BUSY = false :=
  ⟨(owned [] (fun x => { x with kekReadable := true })), .bar0, wf_of _ (by decide +kernel), (by decide +kernel), (by decide +kernel)⟩

theorem wit_LoadAndSecurity_14 :
    ∃ (s : State) (path : Path), s.Wf ∧ s.accepts path Reg.SEC_CMD = true ∧ s.bit Fld.SEC_CMD_STATUS_BUSY = false :=
  ⟨rel, .bar0, wf_of _ (by decide +kernel), (by decide +kernel), (by decide +kernel)⟩

theorem wit_LoadAndSecurity_15 :
    ∃ (s : State), s.Wf :=
  ⟨rel, wf_of _ (by decide +kernel)⟩

theorem wit_LoadAndSecurity_16 :
    ∃ (s : State) (path : Path), s.Wf ∧ s.accepts path Reg.SEC_CMD = true ∧ s.bit Fld.SEC_CMD_STATUS_BUSY = false ∧
      s.sec.locked = true :=
  ⟨(owned [(Fld.SEC_CMD_STATUS_FAILS, 4)] (fun x => { x with locked := true })), .bar0, wf_of _ (by decide +kernel),
    (by decide +kernel), (by decide +kernel), (by decide +kernel)⟩

theorem wit_LoadAndSecurity_17 :
    ∃ (s : State) (path : Path), s.Wf ∧ s.accepts path Reg.SEC_CMD = true ∧ s.bit Fld.SEC_CMD_STATUS_BUSY = false ∧
      s.sec.locked = false :=
  ⟨(owned [(Fld.SEC_CMD_STATUS_FAILS, 3)] (fun x => { x with chal := none })), .bar0, wf_of _ (by decide +kernel),
    (by decide +kernel), (by decide +kernel), (by decide +kernel)⟩

theorem wit_LoadAndSecurity_18 :
    ∃ (s : State) (arg : Nat), s.Wf ∧ s.sec.auth = some (1, arg) ∧ (1 ≤ arg ∧ arg ≤ 3) ∧ s.blank = false ∧
      (s.fld Fld.SEC_STATUS_LCS = (if s.sec.lcs = 1 ∧ s.fld Fld.SEC_STATUS_LEVEL ≠ 0 then 2 else s.sec.lcs % 4)) :=
  ⟨(owned [(Fld.GLB_MODE_STATUS_MODE, 3), (Fld.GLB_MODE_STATUS_CFG_VALID, 1), (Fld.SEC_STATUS_DBG_CAP, 3)]
    (fun x => { x with auth := some (1, 3) })), 3, wf_of _ (by decide +kernel), (by decide +kernel), (by decide +kernel),
    (by decide +kernel), (by decide +kernel)⟩

theorem wit_LoadAndSecurity_19 :
    ∃ (s : State) (arg : Nat), s.Wf ∧ s.sec.auth = some (1, arg) ∧ (arg < 1 ∨ 3 < arg ∨ s.blank = true) :=
  ⟨(owned [] (fun x => { x with auth := some (1, 4) })), 4, wf_of _ (by decide +kernel), (by decide +kernel), (by decide +kernel)⟩

theorem wit_LoadAndSecurity_20 :
    ∃ (s : State) (arg : Nat), s.Wf ∧ s.sec.auth = some (2, arg) ∧ s.mode = 0 :=
  ⟨(owned [(Fld.SEC_STATUS_LEVEL, 3)] (fun x => { x with auth := some (2, 0) })), 0, wf_of _ (by decide +kernel), (by decide +kernel),
    (by decide +kernel)⟩

theorem wit_LoadAndSecurity_21 :
    ∃ (s : State) (arg : Nat), s.Wf ∧ s.sec.auth = some (2, arg) ∧ s.mode ≠ 0 :=
  ⟨(owned [(Fld.GLB_MODE_STATUS_MODE, 7)] (fun x => { x with auth := some (2, 0) })), 0, wf_of _ (by decide +kernel),
    (by decide +kernel), (by decide +kernel)⟩

theorem wit_LoadAndSecurity_22 :
    ∃ (s : State) (arg : Nat), s.Wf ∧ s.sec.auth = some (3, arg) ∧ s.sec.lcs = 1 ∧ arg < 4 ∧ (∃ x, x < s.sec.slots.length ∧ x ≠ arg ∧
      s.sec.revoked.contains x = false) :=
  ⟨(owned [] (fun x => { x with auth := some (3, 1) })), 1, wf_of _ (by decide +kernel), (by decide +kernel), (by decide +kernel),
    (by decide +kernel), (by decide +kernel)⟩

theorem wit_LoadAndSecurity_23 :
    ∃ (s : State) (arg : Nat), s.Wf ∧ s.sec.auth = some (3, arg) ∧
      (s.sec.lcs ≠ 1 ∨ 4 ≤ arg ∨ ((List.range s.sec.slots.length).filter fun i => !s.sec.revoked.contains i) = [arg]) :=
  ⟨(owned [] (fun x => { x with auth := some (3, 1), revoked := [0] })), 1, wf_of _ (by decide +kernel), (by decide +kernel),
    (by decide +kernel)⟩

theorem wit_LoadAndSecurity_24 :
    ∃ (s : State) (arg : Nat), s.Wf ∧ s.sec.auth = some (4, arg) ∧ s.sec.lcs = 1 ∧ (s.sec.minSvn < arg ∧ arg ≤ 63) :=
  ⟨(owned [] (fun x => { x with auth := some (4, 63) })), 63, wf_of _ (by decide +kernel), (by decide +kernel), (by decide +kernel),
    (by decide +kernel)⟩

theorem wit_LoadAndSecurity_25 :
    ∃ (s : State) (arg : Nat), s.Wf ∧ s.sec.auth = some (4, arg) ∧ (s.sec.lcs ≠ 1 ∨ arg ≤ s.sec.minSvn ∨ 63 < arg) :=
  ⟨(owned [] (fun x => { x with auth := some (4, 64) })), 64, wf_of _ (by decide +kernel), (by decide +kernel), (by decide +kernel)⟩

theorem wit_LoadAndSecurity_26 :
    ∃ (s : State), s.Wf :=
  ⟨rel, wf_of _ (by decide +kernel)⟩

theorem wit_LoadAndSecurity_27 :
    ∃ (s : State) (path : Path), s.Wf ∧ s.accepts path Reg.SEC_CMD = true ∧ s.bit Fld.SEC_CMD_STATUS_BUSY = false :=
  ⟨(owned [(Fld.SEC_STATUS_LEVEL, 2)]), .bar0, wf_of _ (by decide +kernel), (by decide +kernel), (by decide +kernel)⟩

theorem wit_LoadAndSecurity_28 :
    ∃ (s : State) (path : Path), s.Wf ∧ s.accepts path Reg.SEC_CMD = true ∧ s.bit Fld.SEC_CMD_STATUS_BUSY = false ∧
      1 ≤ s.fld Fld.SEC_STATUS_LEVEL :=
  ⟨(owned [(Fld.SEC_STATUS_LEVEL, 1), (⟨Reg.SPN_G 63 31, 0, 32⟩, 9), (⟨Reg.SPN_LC 63 7, 0, 16⟩, 8)]), .bar0, wf_of _
    (by decide +kernel), (by decide +kernel), (by decide +kernel), (by decide +kernel)⟩

theorem wit_LoadAndSecurity_29 :
    ∃ (s : State) (path : Path), s.Wf ∧ s.accepts path Reg.SEC_CMD = true ∧ s.bit Fld.SEC_CMD_STATUS_BUSY = false ∧
      s.fld Fld.SEC_STATUS_LEVEL = 0 :=
  ⟨(owned []), .bar0, wf_of _ (by decide +kernel), (by decide +kernel), (by decide +kernel), (by decide +kernel)⟩

theorem wit_SupervisorDetects_0 :
    ∃ (s : State) (m : Fin 240) (lo : Bool) (n : Nat), s.Wf ∧ (s.cmpUsed m (2 * b2n lo) || s.cmpUsed m (2 * b2n lo + 1)) = true ∧
      s.fld (Fld.SUP_MON_CFG_QUAL m) < n ∧ s.levelStands m lo = false ∧ s.spindlesRun = true :=
  ⟨((st [(Fld.GLB_MODE_STATUS_MODE, 5), (Fld.SUP_MON_CFG_EN 239, 1), (Fld.SUP_MON_STATUS_QUALIFIED 239, 1),
    (Fld.SUP_MON_CFG_QUAL 239, 3)]).setMon 239 { cmps := [] }), 239, true, 4, wf_of _ (by decide +kernel), (by decide +kernel),
    (by decide +kernel), (by decide +kernel), (by decide +kernel)⟩

theorem wit_SupervisorDetects_1 :
    ∃ (s : State) (m : Fin 240) (lo : Bool) (n : Nat), s.Wf ∧ (s.cmpUsed m (2 * b2n lo) || s.cmpUsed m (2 * b2n lo + 1)) = true ∧
      s.fld (Fld.SUP_MON_CFG_QUAL m) < n ∧ s.levelStands m lo = false ∧ s.spindlesRun = false ∧ s.mode ≤ 6 :=
  ⟨((st [(Fld.GLB_MODE_STATUS_MODE, 4), (Fld.SUP_MON_CFG_EN 47, 1), (Fld.SUP_MON_STATUS_QUALIFIED 47, 1)]).setMon 47 { cmps := [] }),
    47, false, 1, wf_of _ (by decide +kernel), (by decide +kernel), (by decide +kernel), (by decide +kernel), (by decide +kernel),
    (by decide +kernel)⟩

theorem wit_SupervisorDetects_2 :
    ∃ (s : State) (m : Fin 240) (lo : Bool) (n : Nat), s.Wf ∧ (s.cmpUsed m (2 * b2n lo) || s.cmpUsed m (2 * b2n lo + 1)) = true ∧
      s.fld (Fld.SUP_MON_CFG_QUAL m) < n ∧ s.levelStands m lo = false ∧ s.mode = 7 :=
  ⟨((st [(Fld.GLB_MODE_STATUS_MODE, 7), (Fld.SUP_MON_CFG_EN 239, 1), (Fld.SUP_MON_STATUS_QUALIFIED 239, 1)]).setMon 239
    { cmps := [] }), 239, true, 1, wf_of _ (by decide +kernel), (by decide +kernel), (by decide +kernel), (by decide +kernel),
    (by decide +kernel)⟩

theorem wit_SupervisorDetects_3 :
    ∃ (s : State) (m : Fin 240) (lo : Bool) (n : Nat), s.Wf ∧ s.fld (Fld.SUP_MON_CFG_QUAL m) < n ∧ s.levelStands m lo = true ∧
      s.spindlesRun = true :=
  ⟨((st [(Fld.GLB_MODE_STATUS_MODE, 5), (Fld.SUP_MON_CFG_EN 239, 1), (Fld.SUP_MON_STATUS_QUALIFIED 239, 1)]).setMon 239
    { cmps := [2, 3] }), 239, true, 1, wf_of _ (by decide +kernel), (by decide +kernel), (by decide +kernel), (by decide +kernel)⟩

theorem wit_SupervisorDetects_4 :
    ∃ (s : State) (m : Fin 240) (lo : Bool) (n : Nat), s.Wf ∧ n ≤ s.fld (Fld.SUP_MON_CFG_QUAL m) :=
  ⟨((st [(Fld.GLB_MODE_STATUS_MODE, 5), (Fld.SUP_MON_CFG_EN 239, 1), (Fld.SUP_MON_STATUS_QUALIFIED 239, 1),
    (Fld.SUP_MON_CFG_QUAL 239, 3)]).setMon 239 { cmps := [] }), 239, true, 3, wf_of _ (by decide +kernel), (by decide +kernel)⟩

theorem wit_SupervisorDetects_5 :
    ∃ (s : State) (m : Fin 240) (lo : Bool) (n : Nat), s.Wf ∧ s.cmpUsed m (2 * b2n lo) = false ∧ s.cmpUsed m (2 * b2n lo + 1) = false :=
  ⟨((st [(Fld.GLB_MODE_STATUS_MODE, 5), (Fld.SUP_MON_CFG_EN 47, 1), (Fld.SUP_MON_STATUS_QUALIFIED 47, 1)]).setMon 47 { cmps := [] }),
    47, true, 9, wf_of _ (by decide +kernel), (by decide +kernel), (by decide +kernel)⟩

theorem wit_SupervisorDetects_6 :
    ∃ (s : State) (o : Fin 48), s.Wf ∧ s.spindlesRun = false ∧ s.mode ≤ 6 :=
  ⟨rel, 47, wf_of _ (by decide +kernel), (by decide +kernel), (by decide +kernel)⟩

theorem wit_SupervisorDetects_7 :
    ∃ (s : State) (m : Fin 176), s.Wf ∧ s.mode = 3 :=
  ⟨(st [(Fld.GLB_MODE_STATUS_MODE, 3)]), 175, wf_of _ (by decide +kernel), (by decide +kernel)⟩

theorem wit_SupervisorDetects_8 :
    ∃ (s : State) (m : Fin 176), s.Wf ∧ s.mode ≠ 3 :=
  ⟨(st [(Fld.GLB_MODE_STATUS_MODE, 4)]), 175, wf_of _ (by decide +kernel), (by decide +kernel)⟩

theorem wit_SupervisorDetects_9 :
    ∃ (s : State) (m : Fin 240) (c : Fin 4), s.Wf :=
  ⟨((st [(Fld.GLB_MODE_STATUS_MODE, 5), (Fld.SUP_MON_CFG_EN 239, 1), (Fld.SUP_MON_STATUS_QUALIFIED 239, 1)]).setMon 239
    { cmps := [3, 1] }), 239, 3, wf_of _ (by decide +kernel)⟩

theorem wit_SupervisorDetects_10 :
    ∃ (s : State) (powers : List (List Nat)), s.Wf :=
  ⟨((st [(Fld.GLB_MODE_STATUS_MODE, 5), (Fld.SUP_MON_CFG_EN 47, 1), (Fld.SUP_MON_STATUS_QUALIFIED 47, 1),
    (Fld.SYN_PWR_ENV_AVG 47 0, 6399)]).setMon 47 { powers := List.replicate 950 100 }), List.replicate 48 (List.replicate 50 100),
    wf_of _ (by decide +kernel)⟩

theorem wit_SupervisorDetects_11 :
    ∃ (s : State) (b : Fin 64) (nA : Int) (p : Int), s.Wf ∧ s.monOn (176 + b.val) = true ∧ (s.mon (176 + b.val)).prev = some p ∧
      (if s.spindlesRun = true then 1000 * s.fld (Fld.SUP_MON_SLEW_SLEW_THR (176 + b.val)) < (nA - p).natAbs else p.natAbs + 2000 <
      nA.natAbs) :=
  ⟨((st [(Fld.GLB_MODE_STATUS_MODE, 3), (Fld.SUP_MON_CFG_EN 239, 1), (Fld.SUP_MON_STATUS_QUALIFIED 239, 1)]).setMon 239
    { prev := some (-1000) }), 63, 3001, -1000, wf_of _ (by decide +kernel), (by decide +kernel), (by decide +kernel),
    (by decide +kernel)⟩

theorem wit_SupervisorDetects_12 :
    ∃ (s : State) (b : Fin 64) (nA : Int) (p : Int), s.Wf ∧ s.monOn (176 + b.val) = true ∧ (s.mon (176 + b.val)).prev = some p ∧
      (¬ (if s.spindlesRun = true then 1000 * s.fld (Fld.SUP_MON_SLEW_SLEW_THR (176 + b.val)) < (nA - p).natAbs else p.natAbs + 2000 <
      nA.natAbs)) :=
  ⟨((st [(Fld.GLB_MODE_STATUS_MODE, 3), (Fld.SUP_MON_CFG_EN 239, 1), (Fld.SUP_MON_STATUS_QUALIFIED 239, 1)]).setMon 239
    { prev := some 1000, step := true }), 63, 3000, 1000, wf_of _ (by decide +kernel), (by decide +kernel), (by decide +kernel),
    (by decide +kernel)⟩

theorem wit_SupervisorDetects_13 :
    ∃ (s : State) (count : Nat), s.Wf ∧ s.spindlesRun = true ∧ (s.reelValid = false ∨ count < 49 ∨ 51 < count) :=
  ⟨(st [(Fld.GLB_MODE_STATUS_MODE, 5)]), 50, wf_of _ (by decide +kernel), (by decide +kernel), (by decide +kernel)⟩

theorem wit_SupervisorDetects_14 :
    ∃ (s : State) (count : Nat), s.Wf ∧ s.spindlesRun = false ∧ s.pllLock = true ∧ (count < 49 ∨ 51 < count) :=
  ⟨(st [(Fld.GLB_MODE_STATUS_MODE, 4), (Fld.GLB_CLK_STATUS_PLL_LOCK, 1)]), 52, wf_of _ (by decide +kernel), (by decide +kernel),
    (by decide +kernel), (by decide +kernel)⟩

theorem wit_SupervisorDetects_15 :
    ∃ (s : State) (count : Nat), s.Wf ∧
      ((s.spindlesRun = false ∧ s.pllLock = false) ∨ ((s.spindlesRun = false ∨ (s.reelValid = true ∧ s.pllLock = true)) ∧ 49 ≤ count ∧
      count ≤ 51)) :=
  ⟨(st [(Fld.GLB_MODE_STATUS_MODE, 5), (Fld.GLB_CLK_STATUS_PLL_LOCK, 1), (Fld.TLN_STATUS_STATE, 2)]), 51, wf_of _ (by decide +kernel),
    (by decide +kernel)⟩

theorem wit_SupervisorDetects_16 :
    ∃ (s : State) (n : Fin 64), s.Wf ∧ s.spindlesRun = true ∧ s.bit (Fld.SPN_CTL_EN n) = true ∧
      (s.spindle n).tokenTick + 3960 ≤ s.tick :=
  ⟨({ st [(Fld.GLB_MODE_STATUS_MODE, 5), (Fld.SPN_CTL_EN 63, 1)] with tick := 3960 } : State), 63, wf_of _ (by decide +kernel),
    (by decide +kernel), (by decide +kernel), (by decide +kernel)⟩

theorem wit_SupervisorDetects_17 :
    ∃ (s : State) (n : Fin 64), s.Wf ∧
      (s.spindlesRun = false ∨ s.bit (Fld.SPN_CTL_EN n) = false ∨ s.tick < (s.spindle n).tokenTick + 3960) :=
  ⟨rel, 63, wf_of _ (by decide +kernel), (by decide +kernel)⟩

theorem wit_SupervisorDetects_18 :
    ∃ (s : State) (off : Fin 0x4000000), s.Wf ∧ (3 ≤ s.mode ∧ s.mode ≤ 6) ∧ (sramRegion off ≠ 2 ∧ sramRegion off < 5) :=
  ⟨(st [(Fld.GLB_MODE_STATUS_MODE, 6)]), 0x34007FF, wf_of _ (by decide +kernel), (by decide +kernel), (by decide +kernel)⟩

theorem wit_SupervisorDetects_19 :
    ∃ (s : State) (off : Fin 0x4000000), s.Wf ∧ (s.mode < 3 ∨ sramRegion off = 2 ∨ 5 ≤ sramRegion off) :=
  ⟨(st [(Fld.GLB_MODE_STATUS_MODE, 6)]), 0x3FFFFFF, wf_of _ (by decide +kernel), (by decide +kernel)⟩

theorem wit_SupervisorDetects_20 :
    ∃ (s : State), s.Wf ∧ s.bit Fld.SUP_STATUS_ILK = true :=
  ⟨(st [(Fld.GLB_MODE_STATUS_MODE, 3), (Fld.SUP_STATUS_ILK, 1), (Fld.SUP_STATUS_QUALIFIED, 1)]), wf_of _ (by decide +kernel),
    (by decide +kernel)⟩

theorem wit_SupervisorDetects_21 :
    ∃ (s : State), s.Wf ∧ s.bit Fld.SUP_STATUS_ILK = false :=
  ⟨rel, wf_of _ (by decide +kernel), (by decide +kernel)⟩

theorem wit_SupervisorDetects_22 :
    ∃ (s : State), s.Wf ∧ s.sup.detect ≠ [] ∧ s.mode ≠ 7 :=
  ⟨({ st [(Fld.GLB_MODE_STATUS_MODE, 5)] with sup := { rel.sup with permits := true, detect := [⟨0x20, 0, (12, 0, 0), 9⟩, ⟨11, 23, (0, 0, 0), 9⟩, ⟨3, 88, (0, 0, 0), 9⟩] } }
    : State), wf_of _ (by decide +kernel), (by decide +kernel), (by decide +kernel)⟩

theorem wit_SupervisorDetects_23 :
    ∃ (s : State), s.Wf ∧ s.sup.detect ≠ [] ∧ s.mode ≠ 7 :=
  ⟨({ st [(Fld.GLB_MODE_STATUS_MODE, 5)] with sup := { rel.sup with permits := true, detect := [⟨11, 23, (0, 0, 0), 9⟩, ⟨3, 88, (0, 0, 0), 9⟩] } }
    : State), wf_of _ (by decide +kernel), (by decide +kernel), (by decide +kernel)⟩

theorem wit_SupervisorDetects_24 :
    ∃ (s : State), s.Wf ∧ (s.sup.detect = [] ∨ s.mode = 7) :=
  ⟨(st [(Fld.GLB_MODE_STATUS_MODE, 5)]), wf_of _ (by decide +kernel), (by decide +kernel)⟩

theorem wit_SupervisorDetects_25 :
    ∃ (s : State), s.Wf ∧ s.mode ≠ 7 :=
  ⟨(st [(Fld.GLB_MODE_STATUS_MODE, 6)]), wf_of _ (by decide +kernel), (by decide +kernel)⟩

theorem wit_SupervisorDetects_26 :
    ∃ (s : State), s.Wf ∧ s.mode = 7 :=
  ⟨(st [(Fld.GLB_MODE_STATUS_MODE, 7)]), wf_of _ (by decide +kernel), (by decide +kernel)⟩

theorem wit_SupervisorDetects_27 :
    ∃ (s : State), s.Wf :=
  ⟨({ st [(Fld.GLB_MODE_STATUS_MODE, 5), (Fld.SUP_STATUS_ILK, 1), (Fld.SUP_STATUS_QUALIFIED, 1)] with sup := { rel.sup with permits := true, detect := [] } }
    : State), wf_of _ (by decide +kernel)⟩

theorem wit_SupervisorDetects_28 :
    ∃ (s : State) (b : Fin 64), s.Wf ∧ s.permitted = false :=
  ⟨({ st [(Fld.SYN_BIA_NOW_CODE 63, 0x80000)] with sup := { rel.sup with slews := [(63, 2622)] } } : State), 63, wf_of _
    (by decide +kernel), (by decide +kernel)⟩

theorem wit_SupervisorDetects_29 :
    ∃ (s : State) (b : Fin 64), s.Wf ∧ s.permitted = true :=
  ⟨({ st [(Fld.GLB_MODE_STATUS_MODE, 5), (Fld.SUP_STATUS_ILK, 1), (Fld.SUP_STATUS_QUALIFIED, 1)] with sup := { rel.sup with permits := true, detect := [] } }
    : State), 63, wf_of _ (by decide +kernel), (by decide +kernel)⟩

theorem wit_SupervisorDetects_30 :
    ∃ (s : State) (m : Fin 240) (c : Fin 4) (n : Nat), s.Wf ∧ s.fld (Fld.SUP_MON_CFG_QUAL m) < n ∧ s.cmpUsed m c = true ∧
      (s.cmpUsed m (if c.val % 2 = 0 then c.val + 1 else c.val - 1) = true) ∧
      ((s.mon m).cmps.contains (if c.val % 2 = 0 then c.val + 1 else c.val - 1) = false) ∧ s.sup.arb = none :=
  ⟨((st [(Fld.GLB_MODE_STATUS_MODE, 5), (Fld.SUP_MON_CFG_EN 239, 1), (Fld.SUP_MON_STATUS_QUALIFIED 239, 1)]).setMon 239
    { cmps := [] }), 239, 3, 1, wf_of _ (by decide +kernel), (by decide +kernel), (by decide +kernel), (by decide +kernel),
    (by decide +kernel), (by decide +kernel)⟩

theorem wit_SupervisorDetects_31 :
    ∃ (s : State) (m : Fin 240) (c : Fin 4) (n : Nat), s.Wf ∧ s.fld (Fld.SUP_MON_CFG_QUAL m) < n ∧ s.cmpUsed m c = true ∧
      (s.cmpUsed m (if c.val % 2 = 0 then c.val + 1 else c.val - 1) = true) ∧
      ((s.mon m).cmps.contains (if c.val % 2 = 0 then c.val + 1 else c.val - 1) = false) ∧ s.sup.arb ≠ none ∧ s.spindlesRun = true :=
  ⟨({ ((st [(Fld.GLB_MODE_STATUS_MODE, 5), (Fld.SUP_MON_CFG_EN 239, 1), (Fld.SUP_MON_STATUS_QUALIFIED 239, 1)]).setMon 239 { cmps := [] }) with sup := { (((st [(Fld.GLB_MODE_STATUS_MODE, 5), (Fld.SUP_MON_CFG_EN 239, 1), (Fld.SUP_MON_STATUS_QUALIFIED 239, 1)]).setMon 239 { cmps := [] })).sup with arb := some ⟨0, 0, 0⟩ } }
    : State), 239, 2, 1, wf_of _ (by decide +kernel), (by decide +kernel), (by decide +kernel), (by decide +kernel),
    (by decide +kernel), (by decide +kernel), (by decide +kernel)⟩

theorem wit_SupervisorDetects_32 :
    ∃ (s : State) (m : Fin 240) (c : Fin 4) (n : Nat), s.Wf ∧
      (n ≤ s.fld (Fld.SUP_MON_CFG_QUAL m) ∨ s.cmpUsed m c = false ∨ s.cmpUsed m (if c.val % 2 = 0 then c.val + 1 else c.val - 1) =
      false ∨ (s.mon m).cmps.contains (if c.val % 2 = 0 then c.val + 1 else c.val - 1) = true) :=
  ⟨rel, 239, 2, 9, wf_of _ (by decide +kernel), (by decide +kernel)⟩

theorem wit_SupervisorDetects_33 :
    ∃ (s : State) (x : Arb) (a : Int) (b : Int) (dac : Int), s.Wf ∧ s.sup.arb = some x ∧
      (128 < (a - b).natAbs ∨ 128 < (dac - (codeLsb x.m (if x.cmp < 2 then s.hiCode x.m else s.loCode x.m))).natAbs) :=
  ⟨({ st [(Fld.GLB_MODE_STATUS_MODE, 5), (Fld.SUP_MON_CFG_EN 88, 1), (Fld.SUP_MON_THR_HI 88, 0x2B8), (Fld.SUP_MON_THR_LO 88, 0x171)] with sup := { rel.sup with arb := some ⟨88, 1, 0⟩, hold := some 104, mon := [(88, { cmps := [1] })] } }
    : State), ⟨88, 1, 0⟩, 7864, 7870, 11905, wf_of _ (by decide +kernel), (by decide +kernel), (by decide +kernel)⟩

theorem wit_SupervisorDetects_34 :
    ∃ (s : State) (x : Arb) (a : Int) (b : Int) (dac : Int), s.Wf ∧ s.sup.arb = some x ∧ ((a - b).natAbs ≤ 128 ∧
      (dac - (codeLsb x.m (if x.cmp < 2 then s.hiCode x.m else s.loCode x.m))).natAbs ≤ 128) ∧
      (if x.cmp < 2 then 2 * (codeLsb x.m (if x.cmp < 2 then s.hiCode x.m else s.loCode x.m)) < a + b else a + b < 2 * (codeLsb x.m
      (if x.cmp < 2 then s.hiCode x.m else s.loCode x.m))) ∧ s.spindlesRun = true :=
  ⟨({ st [(Fld.GLB_MODE_STATUS_MODE, 5), (Fld.SUP_MON_CFG_EN 88, 1), (Fld.SUP_MON_THR_HI 88, 0x2B8), (Fld.SUP_MON_THR_LO 88, 0x171)] with sup := { rel.sup with arb := some ⟨88, 1, 0⟩, hold := some 104, mon := [(88, { cmps := [1] })] } }
    : State), ⟨88, 1, 0⟩, 11777, 11776, 11776, wf_of _ (by decide +kernel), (by decide +kernel), (by decide +kernel),
    (by decide +kernel), (by decide +kernel)⟩

theorem wit_SupervisorDetects_35 :
    ∃ (s : State) (x : Arb) (a : Int) (b : Int) (dac : Int), s.Wf ∧ s.sup.arb = some x ∧ (x.m < 240 ∧ x.cmp < 4) ∧
      ((a - b).natAbs ≤ 128 ∧ (dac - (codeLsb x.m (if x.cmp < 2 then s.hiCode x.m else s.loCode x.m))).natAbs ≤ 128) ∧
      (¬ (if x.cmp < 2 then 2 * (codeLsb x.m (if x.cmp < 2 then s.hiCode x.m else s.loCode x.m)) < a + b else a + b < 2 * (codeLsb x.m
      (if x.cmp < 2 then s.hiCode x.m else s.loCode x.m)))) :=
  ⟨({ st [(Fld.GLB_MODE_STATUS_MODE, 5), (Fld.SUP_MON_CFG_EN 88, 1), (Fld.SUP_MON_THR_HI 88, 0x2B8), (Fld.SUP_MON_THR_LO 88, 0x171)] with sup := { rel.sup with arb := some ⟨88, 1, 0⟩, hold := some 104, mon := [(88, { cmps := [1] })] } }
    : State), ⟨88, 1, 0⟩, 7864, 7870, 11790, wf_of _ (by decide +kernel), (by decide +kernel), (by decide +kernel),
    (by decide +kernel), (by decide +kernel)⟩

theorem wit_SupervisorDetects_36 :
    ∃ (s : State) (a : Int) (b : Int) (dac : Int), s.Wf ∧ s.sup.arb = none :=
  ⟨rel, 0, 0, 0, wf_of _ (by decide +kernel), (by decide +kernel)⟩

theorem wit_SupervisorDetects_37 :
    ∃ (s : State) (m : Fin 240) (n : Nat), s.Wf ∧ (s.mon m).pend = some n ∧
      n * 100 + 990 * s.fld (Fld.SUP_MON_CFG_BLANK_DLY m) ≤ s.tick * 100 ∧ s.fld (Fld.SUP_MON_CFG_BLANK_LEN m) ≠ 0 :=
  ⟨({ ((st [(Fld.SUP_MON_CFG_EN 88, 1), (Fld.SUP_MON_CFG_BLANK_LEN 88, 10), (Fld.SUP_MON_CFG_BLANK_DLY 88, 2)]).setMon 88 { pend := some 0 }) with tick := 20 }
    : State), 88, 0, wf_of _ (by decide +kernel), (by decide +kernel), (by decide +kernel), (by decide +kernel)⟩

theorem wit_SupervisorDetects_38 :
    ∃ (s : State) (m : Fin 240), s.Wf ∧ (∀ n ∈ (s.mon m).pend, s.tick * 100 < n * 100 + 990 * s.fld (Fld.SUP_MON_CFG_BLANK_DLY m)) :=
  ⟨({ ((st [(Fld.SUP_MON_CFG_EN 88, 1), (Fld.SUP_MON_CFG_BLANK_DLY 88, 2)]).setMon 88 { pend := some 0 }) with tick := 19 } : State),
    88, wf_of _ (by decide +kernel), (by decide +kernel)⟩

theorem wit_SupervisorDetects_39 :
    ∃ (s : State) (m : Fin 240) (b : Blank), s.Wf ∧ (s.mon m).blank = some b ∧ s.bit (Fld.SUP_MON_STATUS_BLANKED m) = true ∧
      b.start * 100 + 990 * s.fld (Fld.SUP_MON_CFG_BLANK_LEN m) ≤ s.tick * 100 :=
  ⟨({ ((st [(Fld.GLB_MODE_STATUS_MODE, 5), (Fld.SUP_MON_CFG_EN 88, 1), (Fld.SUP_MON_STATUS_QUALIFIED 88, 1), (Fld.SUP_MON_STATUS_BLANKED 88, 1), (Fld.SUP_MON_CFG_BLANK_LEN 88, 10)]).setMon 88 { blank := some ⟨0, 100⟩ }) with tick := 99 }
    : State), 88, ⟨0, 100⟩, wf_of _ (by decide +kernel), (by decide +kernel), (by decide +kernel), (by decide +kernel)⟩

theorem wit_SupervisorDetects_40 :
    ∃ (s : State) (m : Fin 240), s.Wf ∧ ((s.mon m).blank = none ∨ s.bit (Fld.SUP_MON_STATUS_BLANKED m) = false) :=
  ⟨rel, 88, wf_of _ (by decide +kernel), (by decide +kernel)⟩

theorem wit_SupervisorServices_0 :
    ∃ (s : State) (path : Path) (x : Fin 2) (v : Word), s.Wf ∧ s.accepts path (Reg.SUP_MADC_CTL x) = true ∧ v.getLsbD 0 = true ∧
      (sget (fun _ => none) s.sup.madc x = none) ∧ (sget (fun _ => none) s.sup.conv x = none) :=
  ⟨rel, .bar0, 1, 0x1FF01, wf_of _ (by decide +kernel), (by decide +kernel), (by decide +kernel), (by decide +kernel),
    (by decide +kernel)⟩

theorem wit_SupervisorServices_1 :
    ∃ (s : State) (path : Path) (x : Fin 2) (v : Word), s.Wf ∧ s.accepts path (Reg.SUP_MADC_CTL x) = true ∧ v.getLsbD 0 = true ∧
      (sget (fun _ => none) s.sup.madc x ≠ none ∨ sget (fun _ => none) s.sup.conv x ≠ none) :=
  ⟨({ rel with sup := { rel.sup with madc := [(1, some 7)] } } : State), .bar0, 1, 1, wf_of _ (by decide +kernel),
    (by decide +kernel), (by decide +kernel), (by decide +kernel)⟩

theorem wit_SupervisorServices_2 :
    ∃ (s : State) (path : Path) (x : Fin 2) (v : Word), s.Wf ∧ s.accepts path (Reg.SUP_MADC_CTL x) = true ∧ v.getLsbD 0 = false :=
  ⟨rel, .bar0, 1, 0x700, wf_of _ (by decide +kernel), (by decide +kernel), (by decide +kernel)⟩

theorem wit_SupervisorServices_3 :
    ∃ (s : State) (a : BitVec 16) (b : BitVec 16), s.Wf ∧ s.sup.arb ≠ none :=
  ⟨({ st [(Fld.GLB_MODE_STATUS_MODE, 5), (Fld.SUP_MON_CFG_EN 88, 1), (Fld.SUP_MON_THR_HI 88, 0x2B8), (Fld.SUP_MON_THR_LO 88, 0x171)] with sup := { rel.sup with arb := some ⟨88, 1, 0⟩, hold := some 104, mon := [(88, { cmps := [1] })] } }
    : State), 1, 2, wf_of _ (by decide +kernel), (by decide +kernel)⟩

theorem wit_SupervisorServices_4 :
    ∃ (s : State) (a : BitVec 16) (b : BitVec 16), s.Wf ∧ s.sup.arb = none :=
  ⟨({ (st [(Fld.SUP_MON_THR_HI 176, 560)]) with sup := { rel.sup with madc := [(0, some 416), (1, some 7)] } } : State), 1, 2, wf_of _
    (by decide +kernel), (by decide +kernel)⟩

theorem wit_SupervisorServices_5 :
    ∃ (s : State) (a : BitVec 16) (b : BitVec 16) (k : Fin 24) (mV : Int), s.Wf ∧ s.sup.arb = none ∧
      (railNominal.getD k 0).natAbs < 20 * (mV - railNominal.getD k 0).natAbs :=
  ⟨rel, 1, 2, 23, -4749, wf_of _ (by decide +kernel), (by decide +kernel), (by decide +kernel)⟩

theorem wit_SupervisorServices_6 :
    ∃ (s : State) (a : BitVec 16) (b : BitVec 16) (k : Fin 24) (mV : Int), s.Wf ∧
      (s.sup.arb ≠ none ∨ 20 * (mV - railNominal.getD k 0).natAbs ≤ (railNominal.getD k 0).natAbs) :=
  ⟨rel, 1, 2, 23, -4750, wf_of _ (by decide +kernel), (by decide +kernel)⟩

theorem wit_SupervisorServices_7 :
    ∃ (s : State) (x : Fin 2) (p : Nat × Nat), s.Wf ∧ (sget (fun _ => none) s.sup.conv x = some p) :=
  ⟨({ st [(Fld.SUP_MADC_RESULT_VALID 1, 1)] with sup := { rel.sup with conv := [(1, some (511, 65535))] } } : State), 1, (511, 65535),
    wf_of _ (by decide +kernel), (by decide +kernel)⟩

theorem wit_SupervisorServices_8 :
    ∃ (s : State) (x : Fin 2), s.Wf ∧ (sget (fun _ => none) s.sup.conv x = none) :=
  ⟨rel, 1, wf_of _ (by decide +kernel), (by decide +kernel)⟩

theorem wit_SupervisorServices_9 :
    ∃ (s : State) (path : Path) (v : Word), s.Wf ∧ s.accepts path Reg.SUP_CMD = true :=
  ⟨st [(Fld.SUP_SELFTEST_PASSES, 3)], .bar0, 1, wf_of _ (by decide +kernel), (by decide +kernel)⟩

theorem wit_SupervisorServices_10 :
    ∃ (s : State) (path : Path) (v : Word), s.Wf ∧ s.accepts path Reg.SUP_CMD = true ∧ s.mode ≠ 7 :=
  ⟨st [(Fld.SUP_TRIP_VALID, 1), (Fld.SUP_TRIP_FIRST, 11)], .bar0, 2, wf_of _ (by decide +kernel), (by decide +kernel),
    (by decide +kernel)⟩

theorem wit_SupervisorServices_11 :
    ∃ (s : State) (path : Path) (v : Word), s.Wf ∧ s.accepts path Reg.SUP_CMD = true ∧ s.mode = 7 :=
  ⟨(st [(Fld.GLB_MODE_STATUS_MODE, 7), (Fld.SUP_TRIP_VALID, 1)]), .bar0, 2, wf_of _ (by decide +kernel), (by decide +kernel),
    (by decide +kernel)⟩

theorem wit_SupervisorServices_12 :
    ∃ (s : State) (found : SelfTest) (k : Nat), s.Wf ∧ s.failedItems found = [k] ∧ k < 8 :=
  ⟨rel, ⟨false, [], [], [], [], 10101⟩, 7, wf_of _ (by decide +kernel), (by decide +kernel), (by decide +kernel)⟩

theorem wit_SupervisorServices_13 :
    ∃ (s : State) (found : SelfTest), s.Wf ∧ found.copies = true :=
  ⟨rel, ⟨true, [], [], [], [], 10000⟩, wf_of _ (by decide +kernel), (by decide +kernel)⟩

theorem wit_SupervisorServices_14 :
    ∃ (s : State) (found : SelfTest) (m : Fin 240) (x : Fin 3) (v : Int), s.Wf ∧ (m, x, v) ∈ found.dacs ∧ s.monOn m = true ∧
      128 < (v - codeLsb m (s.dacCode m x)).natAbs :=
  ⟨((st [(Fld.GLB_MODE_STATUS_MODE, 5), (Fld.SUP_MON_CFG_EN 239, 1), (Fld.SUP_MON_STATUS_QUALIFIED 239, 1),
    (Fld.SUP_MON_SLEW_SLEW_THR 239, 600)]).setMon 239 { cmps := [] }), ⟨false, [(239, 2, 5503)], [], [], [], 10000⟩, 239, 2, 5503,
    wf_of _ (by decide +kernel), (by decide +kernel), (by decide +kernel), (by decide +kernel)⟩

theorem wit_SupervisorServices_15 :
    ∃ (s : State) (found : SelfTest) (m : Fin 240) (c : Fin 4) (rise : Nat) (fall : Nat), s.Wf ∧ (m, c, rise, fall) ∈ found.cmps ∧
      s.monOn m = true ∧ s.fld (Fld.SUP_MON_STATUS_CMP_DIS m) / 2 ^ c.val % 2 = 0 ∧ (1000 < rise ∨ 1000 ≤ fall) :=
  ⟨((st [(Fld.GLB_MODE_STATUS_MODE, 5), (Fld.SUP_MON_CFG_EN 239, 1), (Fld.SUP_MON_STATUS_QUALIFIED 239, 1)]).setMon 239
    { cmps := [] }), ⟨false, [], [(239, 3, 10, 1000)], [], [], 10000⟩, 239, 3, 10, 1000, wf_of _ (by decide +kernel),
    (by decide +kernel), (by decide +kernel), (by decide +kernel), (by decide +kernel)⟩

theorem wit_SupervisorServices_16 :
    ∃ (s : State) (found : SelfTest) (p : Int × Int) (q : Int × Int) (l : List (Int × Int)), s.Wf ∧ found.cross = p :: q :: l ∧
      (32 < (p.1 - p.2).natAbs ∧ 32 < (q.1 - q.2).natAbs) :=
  ⟨rel, ⟨false, [], [], [(0, 33), (40, 7)], [], 10000⟩, (0, 33), (40, 7), [], wf_of _ (by decide +kernel), (by decide +kernel),
    (by decide +kernel)⟩

theorem wit_SupervisorServices_17 :
    ∃ (s : State) (found : SelfTest) (d : Bool), s.Wf ∧ d ∈ found.detectors ∧ d ≠ s.permitted :=
  ⟨rel, ⟨false, [], [], [], [false, true], 10000⟩, true, wf_of _ (by decide +kernel), (by decide +kernel), (by decide +kernel)⟩

theorem wit_SupervisorServices_18 :
    ∃ (s : State) (found : SelfTest), s.Wf ∧ (found.reference < 9900 ∨ 10100 < found.reference) :=
  ⟨rel, ⟨false, [], [], [], [], 9899⟩, wf_of _ (by decide +kernel), (by decide +kernel)⟩

theorem wit_SupervisorServices_19 :
    ∃ (s : State) (found : SelfTest), s.Wf ∧ s.failedItems found = [] ∧ s.tick < s.sup.passAt + 49500000 :=
  ⟨rel, ⟨false, [], [], [], [], 9900⟩, wf_of _ (by decide +kernel), (by decide +kernel), (by decide +kernel)⟩

theorem wit_SupervisorServices_20 :
    ∃ (s : State) (found : SelfTest), s.Wf ∧ s.failedItems found = [] ∧ s.sup.passAt + 49500000 ≤ s.tick ∧ s.sup.passFailed = true :=
  ⟨({ rel with tick := 49500000, sup := { rel.sup with passFailed := true } } : State), ⟨false, [], [], [], [], 9900⟩, wf_of _
    (by decide +kernel), (by decide +kernel), (by decide +kernel), (by decide +kernel)⟩

theorem wit_SupervisorServices_21 :
    ∃ (s : State) (found : SelfTest), s.Wf ∧ s.failedItems found = [] ∧ s.sup.passAt + 49500000 ≤ s.tick ∧ s.sup.passFailed = false :=
  ⟨({ st [(Fld.SUP_MON_STATUS_CMP_DIS 239, 12), (Fld.SUP_MON_STATUS_CMP_DIS 0, 1), (Fld.SUP_SELFTEST_FAILED, 1)] with tick := 49500000, sup := { rel.sup with df10 := true, retest := [(239, 2), (239, 3)] } }
    : State), ⟨false, [], [(239, 3, 2000, 0)], [], [], 10100⟩, wf_of _ (by decide +kernel), (by decide +kernel), (by decide +kernel),
    (by decide +kernel)⟩

theorem wit_SupervisorServices_22 :
    ∃ (s : State) (path : Path) (m : Fin 240), s.Wf ∧ s.accepts path (Reg.SUP_MON_STATUS m) = true ∧
      (s.bit (Fld.SUP_MON_CFG_LATCH m) = false ∨ s.bit (Fld.SUP_MON_STATUS_BREACH m) = false) ∧
      (sget (fun _ => 0) s.evSet (Reg.SUP_MON_STATUS m) = 0) :=
  ⟨st [(Fld.SUP_MON_STATUS_FLAG 239, 1), (Fld.SUP_MON_STATUS_BREACH 239, 1)], .bar0, 239, wf_of _ (by decide +kernel),
    (by decide +kernel), (by decide +kernel), (by decide +kernel)⟩

theorem wit_SupervisorServices_23 :
    ∃ (s : State) (path : Path) (m : Fin 240), s.Wf ∧ s.accepts path (Reg.SUP_MON_STATUS m) = true ∧
      s.bit (Fld.SUP_MON_CFG_LATCH m) = true ∧ s.bit (Fld.SUP_MON_STATUS_BREACH m) = true :=
  ⟨st [(Fld.SUP_MON_STATUS_FLAG 239, 1), (Fld.SUP_MON_STATUS_BREACH 239, 1), (Fld.SUP_MON_CFG_LATCH 239, 1)], .bar0, 239, wf_of _
    (by decide +kernel), (by decide +kernel), (by decide +kernel), (by decide +kernel)⟩

theorem wit_SupervisorServices_24 :
    ∃ (s : State) (m : Fin 240), s.Wf ∧ s.monOn m = true :=
  ⟨({ st [(Fld.SUP_MON_CFG_EN 239, 1)] with glb := { rel.glb with released := true } } : State), 239, wf_of _ (by decide +kernel),
    (by decide +kernel)⟩

theorem wit_SupervisorServices_25 :
    ∃ (s : State) (m : Fin 240), s.Wf ∧ s.monOn m = false :=
  ⟨rel, 239, wf_of _ (by decide +kernel), (by decide +kernel)⟩

theorem wit_SupervisorServices_26 :
    ∃ (s : State) (k : Fin 24), s.Wf ∧ s.tsOn k = true :=
  ⟨st [(Fld.SUP_TS_CFG_EN 23, 1), (Fld.SUP_TS_CFG_LIMIT_EN 23, 1), (Fld.SUP_TS_STATUS_BAND 23, 2)], 23, wf_of _ (by decide +kernel),
    (by decide +kernel)⟩

theorem wit_SupervisorServices_27 :
    ∃ (s : State) (k : Fin 24) (w : Word), s.Wf ∧ s.tsOn k = true ∧ s.inRange k w.toNat = true :=
  ⟨rel, 0, 0x1700000, wf_of _ (by decide +kernel), (by decide +kernel), (by decide +kernel)⟩

theorem wit_SupervisorServices_28 :
    ∃ (s : State) (k : Fin 24) (w : Word), s.Wf ∧ s.tsOn k = true ∧ s.inRange k w.toNat = true ∧
      s.fld (Fld.SUP_TS_STATUS_BAND k) ≤ 4 ∧ (∀ i : Fin 4, (i.val < s.fld (Fld.SUP_TS_STATUS_BAND k) →
      wellCool (s.hotHigh k) w.toNat (s.fld (Fld.SUP_TS_EDGE_VALUE k i.val)) = false) ∧ (s.fld (Fld.SUP_TS_STATUS_BAND k) ≤ i.val →
      atOrPast (s.hotHigh k) w.toNat (s.fld (Fld.SUP_TS_EDGE_VALUE k i.val)) = false)) :=
  ⟨st [(Fld.SUP_TS_STATUS_BAND 0, 4)], 0, 0x16AA3D8, wf_of _ (by decide +kernel), (by decide +kernel), (by decide +kernel),
    (by decide +kernel), (by decide +kernel)⟩

theorem wit_SupervisorServices_29 :
    ∃ (s : State) (k : Fin 24) (w : Word), s.Wf ∧ s.tsOn k = true ∧ s.inRange k w.toNat = true ∧ s.tsLimitOn k = true ∧
      (atOrPast (s.hotHigh k) w.toNat (s.fld (Fld.SUP_TS_LIMIT_VALUE k)) = true ∧ w.toNat ≠ s.fld (Fld.SUP_TS_LIMIT_VALUE k)) ∧
      (1 ≤ (sget (fun _ => ({} : Sensor)) s.sup.ts k).past) :=
  ⟨({ rel with sup := { rel.sup with ts := [(15, { past := 1 })] } } : State), 15, 0x17A0001, wf_of _ (by decide +kernel),
    (by decide +kernel), (by decide +kernel), (by decide +kernel), (by decide +kernel), (by decide +kernel)⟩

theorem wit_SupervisorServices_30 :
    ∃ (s : State) (k : Fin 24) (w : Word), s.Wf ∧ s.tsOn k = true ∧ s.inRange k w.toNat = true ∧
      s.fld (Fld.SUP_TS_STATUS_BAND k) = 1 ∧ wellCool (s.hotHigh k) w.toNat (s.fld (Fld.SUP_TS_EDGE_VALUE k 0)) = true ∧
      (∀ i : Fin 3, atOrPast (s.hotHigh k) w.toNat (s.fld (Fld.SUP_TS_EDGE_VALUE k (i.val + 1))) = false) :=
  ⟨({ st [(Fld.SUP_TS_STATUS_BAND 0, 1)] with sup := { rel.sup with ts := [(0, { cool := [2, 0, 0, 0] })] } } : State), 0, 0x1000000,
    wf_of _ (by decide +kernel), (by decide +kernel), (by decide +kernel), (by decide +kernel), (by decide +kernel),
    (by decide +kernel)⟩

theorem wit_SupervisorServices_31 :
    ∃ (s : State) (k : Fin 24) (w : Word), s.Wf ∧ s.tsOn k = true ∧ s.inRange k w.toNat = true ∧
      (atOrPast (s.hotHigh k) w.toNat (s.fld (Fld.SUP_TS_LIMIT_VALUE k)) = true ∧ w.toNat ≠ s.fld (Fld.SUP_TS_LIMIT_VALUE k)) ∧
      ((sget (fun _ => ({} : Sensor)) s.sup.ts k).past = 0) :=
  ⟨rel, 15, 0x17A0001, wf_of _ (by decide +kernel), (by decide +kernel), (by decide +kernel), (by decide +kernel),
    (by decide +kernel)⟩

theorem wit_SupervisorServices_32 :
    ∃ (s : State) (k : Fin 24) (w : Word), s.Wf ∧ s.tsOn k = true ∧ s.inRange k w.toNat = true ∧
      (atOrPast (s.hotHigh k) w.toNat (s.fld (Fld.SUP_TS_LIMIT_VALUE k)) = true ∧ w.toNat ≠ s.fld (Fld.SUP_TS_LIMIT_VALUE k)) :=
  ⟨({ rel with sup := { rel.sup with ts := [(15, { past := 1 })] } } : State), 15, 0x17A0001, wf_of _ (by decide +kernel),
    (by decide +kernel), (by decide +kernel), (by decide +kernel)⟩

theorem wit_SupervisorServices_33 :
    ∃ (s : State) (k : Fin 24) (w : Word), s.Wf ∧ s.tsOn k = true ∧ s.inRange k w.toNat = true ∧
      (¬ (atOrPast (s.hotHigh k) w.toNat (s.fld (Fld.SUP_TS_LIMIT_VALUE k)) = true ∧ w.toNat ≠ s.fld (Fld.SUP_TS_LIMIT_VALUE k))) :=
  ⟨({ rel with sup := { rel.sup with ts := [(15, { past := 1 })] } } : State), 15, 0x17A0000, wf_of _ (by decide +kernel),
    (by decide +kernel), (by decide +kernel), (by decide +kernel)⟩

theorem wit_SupervisorServices_34 :
    ∃ (s : State) (k : Fin 24) (w : Word), s.Wf ∧ s.tsOn k = true ∧ 16 ≤ k.val ∧
      (w.toNat < (if s.bit (Fld.SUP_TS_CFG_MODE k) = true then 2560 else 1310720) ∨ (if s.bit (Fld.SUP_TS_CFG_MODE k) = true then
      2560000000 else 26214400) < w.toNat) :=
  ⟨st [(Fld.SUP_TS_CFG_EN 23, 1), (⟨Reg.SUP_TS_VALUE 23, 0, 32⟩, 5)], 23, 0x1900001, wf_of _ (by decide +kernel), (by decide +kernel),
    (by decide +kernel), (by decide +kernel)⟩

theorem wit_SupervisorServices_35 :
    ∃ (s : State) (k : Fin 24) (reading : Option Word), s.Wf ∧ s.tsOn k = false :=
  ⟨rel, 16, none, wf_of _ (by decide +kernel), (by decide +kernel)⟩

theorem wit_SupervisorServices_36 :
    ∃ (s : State) (r : Report), s.Wf ∧ s.sup.reports = [r] ∧ r.sev < 3 ∧ (((s.errQueue r.sev).any fun e => e.rep.same r) = false) ∧
      (s.errQueue r.sev).length < 32 :=
  ⟨({ rel with sup := { rel.sup with reports := [⟨3, 1, 47, 2, 5⟩], seq := 255 } } : State), ⟨3, 1, 47, 2, 5⟩, wf_of _
    (by decide +kernel), (by decide +kernel), (by decide +kernel), (by decide +kernel), (by decide +kernel)⟩

theorem wit_SupervisorServices_37 :
    ∃ (s : State) (r : Report), s.Wf ∧ s.sup.reports = [r] ∧ r.sev < 3 ∧ (((s.errQueue r.sev).any fun e => e.rep.same r) = true) :=
  ⟨({ rel with sup := { rel.sup with reports := [⟨3, 1, 47, 2, 5⟩], queues := [(2, [⟨0, ⟨3, 1, 47, 2, 1⟩, 255⟩])] } } : State),
    ⟨3, 1, 47, 2, 5⟩, wf_of _ (by decide +kernel), (by decide +kernel), (by decide +kernel), (by decide +kernel)⟩

theorem wit_SupervisorServices_38 :
    ∃ (s : State) (r : Report), s.Wf ∧ s.sup.reports = [r] ∧ r.sev < 3 ∧ (((s.errQueue r.sev).any fun e => e.rep.same r) = false) ∧
      32 ≤ (s.errQueue r.sev).length :=
  ⟨({ rel with sup := { rel.sup with reports := [⟨3, 1, 47, 1, 5⟩], queues := [(1, (List.range 32).map (fun i => (⟨i, ⟨3, 0, i, 1, 0⟩, 0⟩ : ErrEntry)))] } }
    : State), ⟨3, 1, 47, 1, 5⟩, wf_of _ (by decide +kernel), (by decide +kernel), (by decide +kernel), (by decide +kernel),
    (by decide +kernel)⟩

theorem wit_SupervisorServices_39 :
    ∃ (s : State) (r : Report), s.Wf ∧ s.sup.reports = [r] ∧ r.sev = 3 :=
  ⟨({ rel with sup := { rel.sup with reports := [⟨2, 11, 63, 3, 5⟩] } } : State), ⟨2, 11, 63, 3, 5⟩, wf_of _ (by decide +kernel),
    (by decide +kernel), (by decide +kernel)⟩

theorem wit_SupervisorServices_40 :
    ∃ (s : State) (path : Path) (v : Word) (e : ErrEntry), s.Wf ∧ s.accepts path Reg.SUP_ERR_ACK = true ∧ s.sup.s3 = none ∧
      s.errCurrent = some e ∧ v.toNat / 256 % 256 = e.seq :=
  ⟨({ rel with sup := { rel.sup with queues := [(0, [⟨3, ⟨3, 1, 4, 0, 1⟩, 0⟩]), (2, [⟨7, ⟨3, 1, 47, 2, 1⟩, 0⟩, ⟨8, ⟨3, 1, 46, 2, 1⟩, 0⟩])] } }
    : State), .bar0, 0x700, ⟨7, ⟨3, 1, 47, 2, 1⟩, 0⟩, wf_of _ (by decide +kernel), (by decide +kernel), (by decide +kernel),
    (by decide +kernel), (by decide +kernel)⟩

theorem wit_SupervisorServices_41 :
    ∃ (s : State) (path : Path) (v : Word), s.Wf ∧ s.accepts path Reg.SUP_ERR_ACK = true ∧
      (s.sup.s3 ≠ none ∨ s.errCurrent = none ∨ (s.errCurrent.map (fun e => decide (v.toNat / 256 % 256 = e.seq))) = some false) :=
  ⟨({ rel with sup := { rel.sup with queues := [(2, [⟨7, ⟨3, 1, 47, 2, 1⟩, 0⟩])] } } : State), .bar0, 0x600, wf_of _
    (by decide +kernel), (by decide +kernel), (by decide +kernel)⟩

theorem wit_PowerResetsAndTap_0 :
    ∃ (s : State) (p : Fin 256), s.Wf ∧ s.gating = true ∧ s.wakesAt p = none ∧ s.parked p = true :=
  ⟨({ st [(Fld.GLB_MODE_STATUS_MODE, 5), (portField 255, 0), (⟨Reg.PWR_PARK 7, 31, 1⟩, 1)] with tick := 7 } : State), 255, wf_of _
    (by decide +kernel), (by decide +kernel), (by decide +kernel), (by decide +kernel)⟩

theorem wit_PowerResetsAndTap_1 :
    ∃ (s : State) (p : Fin 256), s.Wf ∧ s.gating = true ∧ s.wakesAt p = none ∧ s.parked p = false ∧
      (s.portBusy p = true ∨ ∃ n : Fin 64, s.possiblyUsed n p = true) :=
  ⟨({ st [(Fld.GLB_MODE_STATUS_MODE, 5), (portField 192, 2), (Fld.SYN_BIA_NOW_CODE 0, 1)] with tick := 7 } : State), 192, wf_of _
    (by decide +kernel), (by decide +kernel), (by decide +kernel), (by decide +kernel), (by decide +kernel)⟩

theorem wit_PowerResetsAndTap_2 :
    ∃ (s : State) (p : Fin 256), s.Wf ∧ s.gating = true ∧ s.wakesAt p = none ∧ s.parked p = false ∧ s.portBusy p = false ∧
      (∀ n : Fin 64, s.possiblyUsed n p = false) ∧ s.unreachable p = true :=
  ⟨({ st [(Fld.GLB_MODE_STATUS_MODE, 5), (portField 255, 0), (Fld.PWR_LAT_TOL_NS 15, 300000)] with tick := 7 } : State), 255, wf_of _
    (by decide +kernel), (by decide +kernel), (by decide +kernel), (by decide +kernel), (by decide +kernel), (by decide +kernel),
    (by decide +kernel)⟩

theorem wit_PowerResetsAndTap_3 :
    ∃ (s : State) (p : Fin 256), s.Wf ∧ s.gating = true ∧ s.wakesAt p = none ∧ s.parked p = false ∧ s.portBusy p = false ∧
      (∀ n : Fin 64, s.possiblyUsed n p = false) ∧ s.unreachable p = false :=
  ⟨((st [(Fld.GLB_MODE_STATUS_MODE, 5), (Fld.PWR_LAT_TOL_NS 0, 2000), (portField 0, 0), (Fld.SPN_CTL_EN 0, 1),
    (Fld.SPN_STATUS_STATE 0, 1), (Fld.GLB_DRV_MAP_VALID 0, 1)]).setSpindle 0
    { active := true, scout := { reached := true, uses := [{ port := 0, time := 2009 * 2 ^ 32 }] } }), 0, wf_of _ (by decide +kernel),
    (by decide +kernel), (by decide +kernel), (by decide +kernel), (by decide +kernel), (by decide +kernel), (by decide +kernel)⟩

theorem wit_PowerResetsAndTap_4 :
    ∃ (s : State) (p : Fin 256), s.Wf ∧ (s.gating = false ∨ s.wakesAt p ≠ none) :=
  ⟨({ st [(Fld.GLB_MODE_STATUS_MODE, 3), (portField 255, 0)] with tick := 7 } : State), 255, wf_of _ (by decide +kernel),
    (by decide +kernel)⟩

theorem wit_PowerResetsAndTap_5 :
    ∃ (s : State) (p : Fin 256) (x : Nat), s.Wf ∧ s.wakesAt p = some x ∧ x ≤ s.tick ∧ s.mode ≠ 7 :=
  ⟨({ st [(Fld.GLB_MODE_STATUS_MODE, 5), (portField 63, 3)] with tick := 150007, pwr := { rel.pwr with waking := [(63, some 150007)] } }
    : State), 63, 150007, wf_of _ (by decide +kernel), (by decide +kernel), (by decide +kernel), (by decide +kernel)⟩

theorem wit_PowerResetsAndTap_6 :
    ∃ (s : State) (p : Fin 256), s.Wf ∧ (s.wakesAt p = none ∨ (∃ x ∈ s.wakesAt p, s.tick < x) ∨ s.mode = 7) :=
  ⟨rel, 63, wf_of _ (by decide +kernel), (by decide +kernel)⟩

theorem wit_PowerResetsAndTap_7 :
    ∃ (s : State) (path : Path) (g : Fin 16) (v : Word), s.Wf ∧ s.accepts path (Reg.PWR_LAT_TOL g) = true :=
  ⟨st [(Fld.PWR_LAT_TOL_NS 15, 40)], .bar0, 15, 300000, wf_of _ (by decide +kernel), (by decide +kernel)⟩

theorem wit_PowerResetsAndTap_8 :
    ∃ (s : State) (path : Path) (v : Word), s.Wf ∧ s.accepts path Reg.PWR_DORM_TOL = true :=
  ⟨(st [(Fld.GLB_MODE_STATUS_MODE, 2)]), .bar0, 20000000, wf_of _ (by decide +kernel), (by decide +kernel)⟩

theorem wit_PowerResetsAndTap_9 :
    ∃ (s : State) (nj : List Nat) (total : Nat), s.Wf ∧ (∀ k : Fin 64, sget (fun _ => 0) s.pwr.res k < 500 * 2 ^ 32) :=
  ⟨({ rel with tick := 700, pwr := { rel.pwr with pulses := 5, decisions := 6, energy := [(3, 7000), (16, 9999)], res := [(63, 8)], resTo := 100, since := [(0, 650)] } }
    : State), [1, 2], 100, wf_of _ (by decide +kernel), (by decide +kernel)⟩

theorem wit_PowerResetsAndTap_10 :
    ∃ (s : State) (path : Path) (v : Word), s.Wf ∧ s.accepts path Reg.PWR_CMD = true ∧
      (∀ k : Fin 64, sget (fun _ => 0) s.pwr.res k < 500 * 2 ^ 32) :=
  ⟨({ rel with tick := 700, pwr := { rel.pwr with pulses := 5, decisions := 6, energy := [(3, 7000), (16, 9999)], res := [(63, 8)], resTo := 100, since := [(0, 650)] } }
    : State), .bar0, 3, wf_of _ (by decide +kernel), (by decide +kernel), (by decide +kernel)⟩

theorem wit_PowerResetsAndTap_11 :
    ∃ (s : State) (path : Path) (v : Word), s.Wf ∧ s.accepts path Reg.PWR_CMD = true :=
  ⟨({ rel with tick := 700, pwr := { rel.pwr with pulses := 5, decisions := 6, energy := [(3, 7000), (16, 9999)], res := [(63, 8)], resTo := 100, since := [(0, 650)] } }
    : State), .bar0, 2, wf_of _ (by decide +kernel), (by decide +kernel)⟩

theorem wit_PowerResetsAndTap_12 :
    ∃ (s : State), s.Wf :=
  ⟨(st [(Fld.GLB_MODE_STATUS_MODE, 7), (Fld.SUP_TRIP_VALID, 1), (Fld.SUP_STATUS_TRIPPED, 1), (Fld.SPN_CTL_EN 63, 1),
    (Fld.SYN_BIA_NOW_CODE 63, 5), (Fld.HIF_Q_CFG_EN 63, 1), (Fld.GLB_RST_STATUS_RAIL, 9), (Fld.CSC_STATUS_STRAP, 1)]), wf_of _
    (by decide +kernel)⟩

theorem wit_PowerResetsAndTap_13 :
    ∃ (s : State), s.Wf :=
  ⟨(st [(Fld.GLB_MODE_STATUS_MODE, 7), (Fld.SUP_TRIP_VALID, 1), (Fld.SUP_STATUS_TRIPPED, 1), (Fld.SPN_CTL_EN 63, 1),
    (Fld.SYN_BIA_NOW_CODE 63, 5), (Fld.HIF_Q_CFG_EN 63, 1), (Fld.GLB_RST_STATUS_RAIL, 9), (Fld.CSC_STATUS_STRAP, 1)]), wf_of _
    (by decide +kernel)⟩

theorem wit_PowerResetsAndTap_14 :
    ∃ (s : State) (k : Fin 24), s.Wf ∧ (k.val < 2 ∨ 5 < k.val) :=
  ⟨(st [(Fld.GLB_MODE_STATUS_MODE, 5), (Fld.SUP_TRIP_VALID, 1), (Fld.SUP_STATUS_TRIPPED, 1), (Fld.SPN_CTL_EN 63, 1),
    (Fld.SYN_BIA_NOW_CODE 63, 5), (Fld.HIF_Q_CFG_EN 63, 1), (Fld.GLB_RST_STATUS_RAIL, 9), (Fld.CSC_STATUS_STRAP, 1)]), 23, wf_of _
    (by decide +kernel), (by decide +kernel)⟩

theorem wit_PowerResetsAndTap_15 :
    ∃ (s : State) (k : Fin 24), s.Wf ∧ (2 ≤ k.val ∧ k.val ≤ 5) :=
  ⟨(st [(Fld.GLB_MODE_STATUS_MODE, 5), (Fld.SUP_TRIP_VALID, 1), (Fld.SUP_STATUS_TRIPPED, 1), (Fld.SPN_CTL_EN 63, 1),
    (Fld.SYN_BIA_NOW_CODE 63, 5), (Fld.HIF_Q_CFG_EN 63, 1), (Fld.GLB_RST_STATUS_RAIL, 9), (Fld.CSC_STATUS_STRAP, 1)]), 5, wf_of _
    (by decide +kernel), (by decide +kernel)⟩

theorem wit_PowerResetsAndTap_16 :
    ∃ (s : State) (v : Word), s.Wf ∧ s.accepts .bar0 Reg.GLB_RST_CTL = true ∧ v.toNat / 2 ^ 24 = 0x5A ∧ v.getLsbD 0 = true ∧
      s.mode ≠ 7 :=
  ⟨(st [(Fld.GLB_MODE_STATUS_MODE, 5), (Fld.SUP_TRIP_VALID, 1), (Fld.SUP_STATUS_TRIPPED, 1), (Fld.SPN_CTL_EN 63, 1),
    (Fld.SYN_BIA_NOW_CODE 63, 5), (Fld.HIF_Q_CFG_EN 63, 1), (Fld.GLB_RST_STATUS_RAIL, 9), (Fld.CSC_STATUS_STRAP, 1)]), 0x5A000001,
    wf_of _ (by decide +kernel), (by decide +kernel), (by decide +kernel), (by decide +kernel), (by decide +kernel)⟩

theorem wit_PowerResetsAndTap_17 :
    ∃ (s : State), s.Wf ∧ (s.tick + 1, .softReset) ∈ s.later :=
  ⟨({ (st [(Fld.GLB_MODE_STATUS_MODE, 5), (Fld.SUP_TRIP_VALID, 1), (Fld.SUP_STATUS_TRIPPED, 1), (Fld.SPN_CTL_EN 63, 1), (Fld.SYN_BIA_NOW_CODE 63, 5), (Fld.HIF_Q_CFG_EN 63, 1), (Fld.GLB_RST_STATUS_RAIL, 9), (Fld.CSC_STATUS_STRAP, 1)]) with later := [(1, .softReset)] }
    : State), wf_of _ (by decide +kernel), (by decide +kernel)⟩

theorem wit_PowerResetsAndTap_18 :
    ∃ (s : State) (path : Path) (v : Word), s.Wf ∧ s.accepts path Reg.GLB_RST_CTL = true ∧
      (path ≠ .bar0 ∨ v.toNat / 2 ^ 24 ≠ 0x5A ∨ v.getLsbD 0 = false ∨ s.mode = 7) :=
  ⟨(st [(Fld.GLB_MODE_STATUS_MODE, 7), (Fld.SUP_TRIP_VALID, 1), (Fld.SUP_STATUS_TRIPPED, 1), (Fld.SPN_CTL_EN 63, 1),
    (Fld.SYN_BIA_NOW_CODE 63, 5), (Fld.HIF_Q_CFG_EN 63, 1), (Fld.GLB_RST_STATUS_RAIL, 9), (Fld.CSC_STATUS_STRAP, 1)]), .bar0,
    0x5A000001, wf_of _ (by decide +kernel), (by decide +kernel), (by decide +kernel)⟩

theorem wit_PowerResetsAndTap_19 :
    ∃ (s : State), s.Wf :=
  ⟨(st [(Fld.GLB_MODE_STATUS_MODE, 5), (Fld.SUP_TRIP_VALID, 1), (Fld.SUP_STATUS_TRIPPED, 1), (Fld.SPN_CTL_EN 63, 1),
    (Fld.SYN_BIA_NOW_CODE 63, 5), (Fld.HIF_Q_CFG_EN 63, 1), (Fld.GLB_RST_STATUS_RAIL, 9), (Fld.CSC_STATUS_STRAP, 1)]), wf_of _
    (by decide +kernel)⟩

theorem wit_PowerResetsAndTap_20 :
    ∃ (s : State), s.Wf ∧ s.sup.permits = false ∧ s.glb.released = true ∧ s.mode ≠ 7 ∧ s.ramping = false ∧
      (s.sup.held = false ∨ s.activeBits = 0) :=
  ⟨({ st [(Fld.GLB_CLK_STATUS_PLL_LOCK, 1), (Fld.SUP_STATUS_ILK, 1)] with glb := { rel.glb with released := true }, sup := { rel.sup with held := true } }
    : State), wf_of _ (by decide +kernel), (by decide +kernel), (by decide +kernel), (by decide +kernel), (by decide +kernel),
    (by decide +kernel)⟩

theorem wit_PowerResetsAndTap_21 :
    ∃ (s : State), s.Wf ∧
      (s.sup.permits = true ∨ s.glb.released = false ∨ s.mode = 7 ∨ s.ramping = true ∨ (s.sup.held = true ∧ s.activeBits ≠ 0)) :=
  ⟨(st [(Fld.GLB_MODE_STATUS_MODE, 7)]), wf_of _ (by decide +kernel), (by decide +kernel)⟩

theorem wit_PowerResetsAndTap_22 :
    ∃ (s : State) (strap : Bool) (addr : BitVec 2), s.Wf ∧ s.glb.released = false :=
  ⟨({ owned [] with glb := { rel.glb with released := false } } : State), true, 3, wf_of _ (by decide +kernel), (by decide +kernel)⟩

theorem wit_PowerResetsAndTap_23 :
    ∃ (s : State) (strap : Bool) (addr : BitVec 2), s.Wf ∧ s.glb.released = true :=
  ⟨({ rel with glb := { rel.glb with released := true } } : State), true, 3, wf_of _ (by decide +kernel), (by decide +kernel)⟩

theorem wit_PowerResetsAndTap_24 :
    ∃ (s : State) (cells : List Bool), s.Wf ∧ s.blank = true ∧ s.mode = 0 ∧ s.fld Fld.SEC_STATUS_LEVEL = 3 :=
  ⟨st [(Fld.SEC_STATUS_LEVEL, 3)], [true, false], wf_of _ (by decide +kernel), (by decide +kernel), (by decide +kernel),
    (by decide +kernel)⟩

theorem wit_PowerResetsAndTap_25 :
    ∃ (s : State) (cells : List Bool), s.Wf ∧ (s.blank = false ∨ s.mode ≠ 0 ∨ s.fld Fld.SEC_STATUS_LEVEL ≠ 3) :=
  ⟨(owned [(Fld.SEC_STATUS_LEVEL, 3)]), [true, false], wf_of _ (by decide +kernel), (by decide +kernel)⟩

theorem wit_PowerResetsAndTap_26 :
    ∃ (s : State) (cells : List Bool), s.Wf :=
  ⟨rel, [true, false], wf_of _ (by decide +kernel)⟩

theorem wit_PowerResetsAndTap_27 :
    ∃ (s : State), s.Wf :=
  ⟨rel, wf_of _ (by decide +kernel)⟩

theorem wit_PowerResetsAndTap_28 :
    ∃ (s : State), s.Wf :=
  ⟨rel, wf_of _ (by decide +kernel)⟩

theorem wit_PowerResetsAndTap_29 :
    ∃ (s : State) (off : BitVec 26) (write : Bool) (v : Word), s.Wf ∧ secAuth off.toNat = false :=
  ⟨(owned [(Fld.SEC_STATUS_LEVEL, 3)]), BitVec.ofNat 26 Reg.SEC_LOAD_CTL, true, 1, wf_of _ (by decide +kernel), (by decide +kernel)⟩

theorem wit_PowerResetsAndTap_30 :
    ∃ (s : State) (off : BitVec 26) (v : Word) (d : RegDesc), s.Wf ∧ s.glb.released = true ∧ secAuth off.toNat = true ∧
      regDesc off.toNat = some d ∧ d.half = .none ∧ elem off.toNat (Reg.SUP_MADC_RESULT 0) 0x10 2 = none ∧
      off.toNat ≠ Reg.TLN_REEL_FRAC ∧ off.toNat % 4 = 0 :=
  ⟨(owned [(Fld.SEC_CMD_STATUS_FAILS, 3)]), BitVec.ofNat 26 Reg.SEC_CMD_STATUS, 0, (regDesc Reg.SEC_CMD_STATUS).getD
    ⟨"", 0, [], .none, 0, 0, 0, 0, 0, 0⟩, wf_of _ (by decide +kernel), (by decide +kernel), (by decide +kernel), (by decide +kernel),
    (by decide +kernel), (by decide +kernel), (by decide +kernel), (by decide +kernel)⟩

theorem wit_PowerResetsAndTap_31 :
    ∃ (s : State) (off : BitVec 26) (x : Fin 64) (v : Word), s.Wf ∧ s.glb.released = true ∧ off.toNat = Reg.SEC_BUF x ∧
      s.checkBlocks (Reg.SEC_BUF x) = false :=
  ⟨(owned [(Fld.SEC_STATUS_LEVEL, 0)]), BitVec.ofNat 26 (Reg.SEC_BUF 63), 63, 0x80000001, wf_of _ (by decide +kernel),
    (by decide +kernel), (by decide +kernel), (by decide +kernel)⟩

theorem wit_PowerResetsAndTap_32 :
    ∃ (s : State) (off : BitVec 26) (write : Bool) (v : Word), s.Wf ∧
      (s.fld Fld.SEC_STATUS_LEVEL = 0 ∨ (write = true ∧ s.fld Fld.SEC_STATUS_LEVEL < 2) ∨ (write = false ∧ inSec off.toNat = true)) :=
  ⟨(owned [(Fld.SEC_STATUS_LEVEL, 1)]), 0x40, true, 1, wf_of _ (by decide +kernel), (by decide +kernel)⟩

theorem wit_PowerResetsAndTap_33 :
    ∃ (s : State) (off : BitVec 26) (v : Word) (d : RegDesc), s.Wf ∧ s.glb.released = true ∧ 1 ≤ s.fld Fld.SEC_STATUS_LEVEL ∧
      inSec off.toNat = false ∧ regDesc off.toNat = some d ∧ d.half = .none ∧ elem off.toNat (Reg.SUP_MADC_RESULT 0) 0x10 2 = none ∧
      off.toNat ≠ Reg.TLN_REEL_FRAC ∧ off.toNat % 4 = 0 :=
  ⟨(owned [(Fld.SEC_STATUS_LEVEL, 1)]), BitVec.ofNat 26 Reg.PWR_STATUS, 0, (regDesc Reg.PWR_STATUS).getD
    ⟨"", 0, [], .none, 0, 0, 0, 0, 0, 0⟩, wf_of _ (by decide +kernel), (by decide +kernel), (by decide +kernel), (by decide +kernel),
    (by decide +kernel), (by decide +kernel), (by decide +kernel), (by decide +kernel), (by decide +kernel)⟩

theorem wit_PowerResetsAndTap_34 :
    ∃ (s : State) (off : BitVec 26) (v : Word), s.Wf ∧ s.glb.released = true ∧ 2 ≤ s.fld Fld.SEC_STATUS_LEVEL ∧
      off.toNat = Reg.HIF_SMB_MBOX_OUT ∧ s.checkBlocks Reg.HIF_SMB_MBOX_OUT = false :=
  ⟨(owned [(Fld.SEC_STATUS_LEVEL, 2)]), BitVec.ofNat 26 Reg.HIF_SMB_MBOX_OUT, 9, wf_of _ (by decide +kernel), (by decide +kernel),
    (by decide +kernel), (by decide +kernel), (by decide +kernel)⟩

theorem wit_PowerResetsAndTap_35 :
    ∃ (s : State) (bar4 : Bool) (write : Bool) (addr : BitVec 64) (v : Word), s.Wf ∧ (write = true ∨ s.fld Fld.SEC_STATUS_LEVEL ≠ 3) :=
  ⟨(owned [(Fld.SEC_STATUS_LEVEL, 2)]), true, false, 0, 0, wf_of _ (by decide +kernel), (by decide +kernel)⟩

theorem wit_PowerResetsAndTap_36 :
    ∃ (s : State) (addr : BitVec 64) (v : Word), s.Wf ∧ s.fld Fld.SEC_STATUS_LEVEL = 3 ∧ s.mode ≠ 0 ∧ addr.toNat + 4 ≤ 0x4000000 ∧
      (∀ i : Fin 4, inHistory (addr.toNat + i.val) = false) :=
  ⟨(((owned [(Fld.SEC_STATUS_LEVEL, 3)]).put Fld.GLB_MODE_STATUS_MODE 1).putSramBytes 0x3F7FFFC [1, 2, 3, 4]), 0x3F7FFFC, 0, wf_of _
    (by decide +kernel), (by decide +kernel), (by decide +kernel), (by decide +kernel), (by decide +kernel)⟩

theorem wit_PowerResetsAndTap_37 :
    ∃ (s : State) (addr : BitVec 64) (v : Word), s.Wf ∧ s.fld Fld.SEC_STATUS_LEVEL = 3 ∧ (s.mode ≠ 0 ∧ s.mode ≠ 2) ∧
      addr.toNat + 4 ≤ 0x2000000000 :=
  ⟨((owned [(Fld.SEC_STATUS_LEVEL, 3)]).put Fld.GLB_MODE_STATUS_MODE 1), 0x1FFFFFFFFC, 0, wf_of _ (by decide +kernel),
    (by decide +kernel), (by decide +kernel), (by decide +kernel)⟩

theorem wit_PowerResetsAndTap_38 :
    ∃ (s : State) (key : Byte), s.Wf ∧ s.glb.released = false :=
  ⟨State.reset, 0xA5, wf_of _ (by decide +kernel), (by decide +kernel)⟩

theorem wit_MicroRoundTrip : ∃ m : MicroWord, m.legal = true := ⟨⟨0xA, 1, .endw 3 0x1FFF⟩, by decide +kernel⟩

theorem wit_PermitLossEntersSafe_0 :
    ∃ (s : State), s.Wf :=
  ⟨st [(Fld.GLB_MODE_STATUS_MODE, 5)], wf_of _ (by decide +kernel)⟩

end Sys2Proof.Tests
end

section
/-! Scope and architecture: the obligations on the queue and the tick, on register writes by access type, on pairs, on refused
accesses and on the state after reset. -/

namespace Sys2Proof.Machine

variable {s : State} {p : Path} {off : Nat} {v : Word} {d : RegDesc}

/-! ### Every command keeps to its footprint -/

/-- The footprint of a meaning, widened to the rows and parts that its command declares. -/
theorem next_frame_mono {o : Host.Outcome State Fault Refusal} {R R' : Option (List RegRow)} {P P' : List Part}
    (h : ∃ t, o = .next t ∧ Frame R P s t) (hr : rowsLe R R' = true) (hp : partsLe P P' = true) :
    ∃ t, o = .next t ∧ Frame R' P' s t :=
  h.imp fun _ ⟨ho, hf⟩ => ⟨ho, hf.mono hr hp⟩

/-- Every command completes and keeps to its footprint. -/
theorem exec_frame (c : Instr) (s : State) : ∃ t, exec c s = .next t ∧ Frame c.rows c.parts s t :=
  match c with
  | .registerWrite .. => next_frame_mono execRegisterWrite_frame rfl rfl
  | .bar0BadAccess => next_frame_mono execBar0BadAccess_frame rfl rfl
  | .loReadCapture .. => next_frame_mono execLoReadCapture_frame rfl rfl
  | .hiRead .. => next_frame_mono execHiRead_frame rfl rfl
  | .loWriteHold .. => next_frame_mono execLoWriteHold_frame rfl rfl
  | .hiWriteCommit .. => next_frame_mono execHiWriteCommit_frame rfl rfl
  | .reqNone .. => next_frame_mono execReqNone_frame rfl rfl
  | .reqLoad .. => next_frame_mono execReqLoad_frame rfl rfl
  | .reqCalibrate .. => next_frame_mono execReqCalibrate_frame rfl rfl
  | .reqArm .. => next_frame_mono execReqArm_frame rfl rfl
  | .reqStop .. => next_frame_mono execReqStop_frame rfl rfl
  | .reqDormant .. => next_frame_mono execReqDormant_frame rfl rfl
  | .reqUnload .. => next_frame_mono execReqUnload_frame rfl rfl
  | .reqClearSafe .. => next_frame_mono execReqClearSafe_frame rfl rfl
  | .run .. => next_frame_mono execRun_frame rfl rfl
  | .checkEnd => next_frame_mono execCheckEnd_frame rfl rfl
  | .configClearDone => next_frame_mono execConfigClearDone_frame rfl rfl
  | .armComplete => next_frame_mono execArmComplete_frame rfl rfl
  | .calibrationStart => next_frame_mono execCalibrationStart_frame rfl rfl
  | .calibrationDone => next_frame_mono execCalibrationDone_frame rfl rfl
  | .m6Entry => next_frame_mono execM6Entry_frame rfl rfl
  | .m6Exit => next_frame_mono execM6Exit_frame rfl rfl
  | .stopComplete => next_frame_mono execStopComplete_frame rfl rfl
  | .stopTimeout => next_frame_mono execStopTimeout_frame rfl rfl
  | .biasRampTransition => next_frame_mono execBiasRampTransition_frame rfl rfl
  | .syncWrite .. => next_frame_mono execSyncWrite_frame rfl rfl
  | .syncAuto => next_frame_mono execSyncAuto_frame rfl rfl
  | .refLoss .. => next_frame_mono execRefLoss_frame rfl rfl
  | .pllUnlock => next_frame_mono execPllUnlock_frame rfl rfl
  | .refSrcWrite .. => next_frame_mono execRefSrcWrite_frame rfl rfl
  | .pllLock => next_frame_mono execPllLock_frame rfl rfl
  | .reelAdvance => next_frame_mono execReelAdvance_frame rfl rfl
  | .ptpSyncRx .. => next_frame_mono execPtpSyncRx_frame rfl rfl
  | .ptpFollowUpRx .. => next_frame_mono execPtpFollowUpRx_frame rfl rfl
  | .ptpDelayReqTx .. => next_frame_mono execPtpDelayReqTx_frame rfl rfl
  | .ptpDelayRespRx .. => next_frame_mono execPtpDelayRespRx_frame rfl rfl
  | .ptpAnnounceRx .. => next_frame_mono execPtpAnnounceRx_frame rfl rfl
  | .ptpRxDrop .. => next_frame_mono execPtpRxDrop_frame rfl rfl
  | .ptpSyncTimeout .. => next_frame_mono execPtpSyncTimeout_frame rfl rfl
  | .ptpAnnounceTimeout .. => next_frame_mono execPtpAnnounceTimeout_frame rfl rfl
  | .extPhaseCompare .. => next_frame_mono execExtPhaseCompare_frame rfl rfl
  | .ppsEdge .. => next_frame_mono execPpsEdge_frame rfl rfl
  | .tcodeFrame .. => next_frame_mono execTcodeFrame_frame rfl rfl
  | .ref10mLoss => next_frame_mono execRef10mLoss_frame rfl rfl
  | .ppsLoss => next_frame_mono execPpsLoss_frame rfl rfl
  | .acceptSlewOut .. => next_frame_mono execAcceptSlewOut_frame rfl rfl
  | .acceptStepFwd .. => next_frame_mono execAcceptStepFwd_frame rfl rfl
  | .holdExpired => next_frame_mono execHoldExpired_frame rfl rfl
  | .launchArm .. => next_frame_mono execLaunchArm_frame rfl rfl
  | .launch .. => next_frame_mono execLaunch_frame rfl rfl
  | .launchMiss .. => next_frame_mono execLaunchMiss_frame rfl rfl
  | .opNop .. => next_frame_mono execOpNop_frame rfl rfl
  | .opAlu .. => next_frame_mono execOpAlu_frame rfl rfl
  | .opLdlc .. => next_frame_mono execOpLdlc_frame rfl rfl
  | .opRddec .. => next_frame_mono execOpRddec_frame rfl rfl
  | .opRdsin .. => next_frame_mono execOpRdsin_frame rfl rfl
  | .opNcop .. => next_frame_mono execOpNcop_frame rfl rfl
  | .opSettb .. => next_frame_mono execOpSettb_frame rfl rfl
  | .opJmp .. => next_frame_mono execOpJmp_frame rfl rfl
  | .opBrs .. => next_frame_mono execOpBrs_frame rfl rfl
  | .opLoop .. => next_frame_mono execOpLoop_frame rfl rfl
  | .opWaitt .. => next_frame_mono execOpWaitt_frame rfl rfl
  | .waittDone .. => next_frame_mono execWaittDone_frame rfl rfl
  | .opWaitr .. => next_frame_mono execOpWaitr_frame rfl rfl
  | .waitrReached .. => next_frame_mono execWaitrReached_frame rfl rfl
  | .opWts .. => next_frame_mono execOpWts_frame rfl rfl
  | .wtsLatch .. => next_frame_mono execWtsLatch_frame rfl rfl
  | .wtsTimeout .. => next_frame_mono execWtsTimeout_frame rfl rfl
  | .opPls .. => next_frame_mono execOpPls_frame rfl rfl
  | .opJreq .. => next_frame_mono execOpJreq_frame rfl rfl
  | .opBias .. => next_frame_mono execOpBias_frame rfl rfl
  | .opMrk .. => next_frame_mono execOpMrk_frame rfl rfl
  | .opTrgo .. => next_frame_mono execOpTrgo_frame rfl rfl
  | .outputPulseFall .. => next_frame_mono execOutputPulseFall_frame rfl rfl
  | .opRwin .. => next_frame_mono execOpRwin_frame rfl rfl
  | .opStro .. => next_frame_mono execOpStro_frame rfl rfl
  | .opStg .. => next_frame_mono execOpStg_frame rfl rfl
  | .opIrq .. => next_frame_mono execOpIrq_frame rfl rfl
  | .opClrs .. => next_frame_mono execOpClrs_frame rfl rfl
  | .opCommit .. => next_frame_mono execOpCommit_frame rfl rfl
  | .opEnd .. => next_frame_mono execOpEnd_frame rfl rfl
  | .illegal .. => next_frame_mono execIllegal_frame rfl rfl
  | .postOvf .. => next_frame_mono execPostOvf_frame rfl rfl
  | .vectorRecognised .. => next_frame_mono execVectorRecognised_frame rfl rfl
  | .hostPreempt .. => next_frame_mono execHostPreempt_frame rfl rfl
  | .cstoreEccCorr .. => next_frame_mono execCstoreEccCorr_frame rfl rfl
  | .cstoreEccUncorr .. => next_frame_mono execCstoreEccUncorr_frame rfl rfl
  | .heartbeatToken .. => next_frame_mono execHeartbeatToken_frame rfl rfl
  | .scoutStep .. => next_frame_mono execScoutStep_frame rfl rfl
  | .dbgHalt .. => next_frame_mono execDbgHalt_frame rfl rfl
  | .dbgStep .. => next_frame_mono execDbgStep_frame rfl rfl
  | .dbgResume .. => next_frame_mono execDbgResume_frame rfl rfl
  | .fetchTick .. => next_frame_mono execFetchTick_frame rfl rfl
  | .underrunStop .. => next_frame_mono execUnderrunStop_frame rfl rfl
  | .underrunZeroEnd .. => next_frame_mono execUnderrunZeroEnd_frame rfl rfl
  | .urAck .. => next_frame_mono execUrAck_frame rfl rfl
  | .segmentBoundary .. => next_frame_mono execSegmentBoundary_frame rfl rfl
  | .segmentEnd .. => next_frame_mono execSegmentEnd_frame rfl rfl
  | .biasUpdate => next_frame_mono execBiasUpdate_frame rfl rfl
  | .rvRestart .. => next_frame_mono execRvRestart_frame rfl rfl
  | .refillRequest .. => next_frame_mono execRefillRequest_frame rfl rfl
  | .refillComplete .. => next_frame_mono execRefillComplete_frame rfl rfl
  | .frontEndChangeApply => next_frame_mono execFrontEndChangeApply_frame rfl rfl
  | .attWrite .. => next_frame_mono execAttWrite_frame rfl rfl
  | .channelSample .. => next_frame_mono execChannelSample_frame rfl rfl
  | .toneSample .. => next_frame_mono execToneSample_frame rfl rfl
  | .combOnWrite .. => next_frame_mono execCombOnWrite_frame rfl rfl
  | .toneFcWrite .. => next_frame_mono execToneFcWrite_frame rfl rfl
  | .tonePWrite .. => next_frame_mono execTonePWrite_frame rfl rfl
  | .toneApplied .. => next_frame_mono execToneApplied_frame rfl rfl
  | .rwinTakeUp .. => next_frame_mono execRwinTakeUp_frame rfl rfl
  | .evaluation .. => next_frame_mono execEvaluation_frame rfl rfl
  | .decisionFormed .. => next_frame_mono execDecisionFormed_frame rfl rfl
  | .strandEvent .. => next_frame_mono execStrandEvent_frame rfl rfl
  | .fabForce .. => next_frame_mono execFabForce_frame rfl rfl
  | .plyEval .. => next_frame_mono execPlyEval_frame rfl rfl
  | .trgInEdge .. => next_frame_mono execTrgInEdge_frame rfl rfl
  | .trgInStuck .. => next_frame_mono execTrgInStuck_frame rfl rfl
  | .trgInUnstuck .. => next_frame_mono execTrgInUnstuck_frame rfl rfl
  | .ctTrigger .. => next_frame_mono execCtTrigger_frame rfl rfl
  | .ctLookupDone .. => next_frame_mono execCtLookupDone_frame rfl rfl
  | .exportSlotEvent .. => next_frame_mono execExportSlotEvent_frame rfl rfl
  | .exportGateEnable .. => next_frame_mono execExportGateEnable_frame rfl rfl
  | .exportGateDisable .. => next_frame_mono execExportGateDisable_frame rfl rfl
  | .twTrainStart .. => next_frame_mono execTwTrainStart_frame rfl rfl
  | .twCdrLock .. => next_frame_mono execTwCdrLock_frame rfl rfl
  | .twAlignDone .. => next_frame_mono execTwAlignDone_frame rfl rfl
  | .twIdent .. => next_frame_mono execTwIdent_frame rfl rfl
  | .twMeasureDone .. => next_frame_mono execTwMeasureDone_frame rfl rfl
  | .twLinkUp .. => next_frame_mono execTwLinkUp_frame rfl rfl
  | .twTrainFail .. => next_frame_mono execTwTrainFail_frame rfl rfl
  | .twRetry .. => next_frame_mono execTwRetry_frame rfl rfl
  | .twRetrain .. => next_frame_mono execTwRetrain_frame rfl rfl
  | .frameLaunch .. => next_frame_mono execFrameLaunch_frame rfl rfl
  | .frameInvalid .. => next_frame_mono execFrameInvalid_frame rfl rfl
  | .idleRx .. => next_frame_mono execIdleRx_frame rfl rfl
  | .groupRx .. => next_frame_mono execGroupRx_frame rfl rfl
  | .timeLoRx .. => next_frame_mono execTimeLoRx_frame rfl rfl
  | .timeHiRx .. => next_frame_mono execTimeHiRx_frame rfl rfl
  | .stateRx _ _ _ sender _ _ reel _ mode => next_frame_mono (execStateRx_frame (a3 := sender) (a6 := reel) (a8 := mode)) rfl rfl
  | .rateRx .. => next_frame_mono execRateRx_frame rfl rfl
  | .rateApply => next_frame_mono execRateApply_frame rfl rfl
  | .rateRepeat => next_frame_mono execRateRepeat_frame rfl rfl
  | .timeQueue => next_frame_mono execTimeQueue_frame rfl rfl
  | .syncMarkerQueue .. => next_frame_mono execSyncMarkerQueue_frame rfl rfl
  | .syncLoRx .. => next_frame_mono execSyncLoRx_frame rfl rfl
  | .syncHiRx .. => next_frame_mono execSyncHiRx_frame rfl rfl
  | .frameReservedType _ lane => next_frame_mono (execFrameReservedType_frame (a1 := lane)) rfl rfl
  | .cascadeSrcTimeout => next_frame_mono execCascadeSrcTimeout_frame rfl rfl
  | .failoverRx .. => next_frame_mono execFailoverRx_frame rfl rfl
  | .dutyLaneSwitch .. => next_frame_mono execDutyLaneSwitch_frame rfl rfl
  | .failoverTimeout .. => next_frame_mono execFailoverTimeout_frame rfl rfl
  | .bulkRegWr .. => next_frame_mono execBulkRegWr_frame rfl rfl
  | .bulkRegRd .. => next_frame_mono execBulkRegRd_frame rfl rfl
  | .bulkMemWr .. => next_frame_mono execBulkMemWr_frame rfl rfl
  | .bulkCpl .. => next_frame_mono execBulkCpl_frame rfl rfl
  | .bulkErr .. => next_frame_mono execBulkErr_frame rfl rfl
  | .rraWrite .. => next_frame_mono execRraWrite_frame rfl rfl
  | .rraRead .. => next_frame_mono execRraRead_frame rfl rfl
  | .rraTimeout => next_frame_mono execRraTimeout_frame rfl rfl
  | .rdmaStart .. => next_frame_mono execRdmaStart_frame rfl rfl
  | .rdmaTimeout => next_frame_mono execRdmaTimeout_frame rfl rfl
  | .strapChg .. => next_frame_mono execStrapChg_frame rfl rfl
  | .bobArm .. => next_frame_mono execBobArm_frame rfl rfl
  | .bobDisarm .. => next_frame_mono execBobDisarm_frame rfl rfl
  | .bobForce .. => next_frame_mono execBobForce_frame rfl rfl
  | .bobReset .. => next_frame_mono execBobReset_frame rfl rfl
  | .bobRdWrite .. => next_frame_mono execBobRdWrite_frame rfl rfl
  | .bobDirAck .. => next_frame_mono execBobDirAck_frame rfl rfl
  | .bobItem .. => next_frame_mono execBobItem_frame rfl rfl
  | .bobAutoTimeout .. => next_frame_mono execBobAutoTimeout_frame rfl rfl
  | .bobSpillRequest .. => next_frame_mono execBobSpillRequest_frame rfl rfl
  | .bobSpillDone .. => next_frame_mono execBobSpillDone_frame rfl rfl
  | .capture .. => next_frame_mono execCapture_frame rfl rfl
  | .bobRearm .. => next_frame_mono execBobRearm_frame rfl rfl
  | .sramCe .. => next_frame_mono execSramCe_frame rfl rfl
  | .sramUe .. => next_frame_mono execSramUe_frame rfl rfl
  | .scrubPassDone .. => next_frame_mono execScrubPassDone_frame rfl rfl
  | .dramInit => next_frame_mono execDramInit_frame rfl rfl
  | .dramCe .. => next_frame_mono execDramCe_frame rfl rfl
  | .dramUe .. => next_frame_mono execDramUe_frame rfl rfl
  | .refreshDown .. => next_frame_mono execRefreshDown_frame rfl rfl
  | .dramRequestDone .. => next_frame_mono execDramRequestDone_frame rfl rfl
  | .c1Refused .. => next_frame_mono execC1Refused_frame rfl rfl
  | .drfTailWrite .. => next_frame_mono execDrfTailWrite_frame rfl rfl
  | .drfCompress .. => next_frame_mono execDrfCompress_frame rfl rfl
  | .drfDecompress .. => next_frame_mono execDrfDecompress_frame rfl rfl
  | .drfVerify .. => next_frame_mono execDrfVerify_frame rfl rfl
  | .drfJobDone .. => next_frame_mono execDrfJobDone_frame rfl rfl
  | .drfStall .. => next_frame_mono execDrfStall_frame rfl rfl
  | .drfResume .. => next_frame_mono execDrfResume_frame rfl rfl
  | .linkChg .. => next_frame_mono execLinkChg_frame rfl rfl
  | .functionLevelReset => next_frame_mono execFunctionLevelReset_frame rfl rfl
  | .d3hotEntry => next_frame_mono execD3hotEntry_frame rfl rfl
  | .d0Return => next_frame_mono execD0Return_frame rfl rfl
  | .bar2Access .. => next_frame_mono execBar2Access_frame rfl rfl
  | .bar4Access .. => next_frame_mono execBar4Access_frame rfl rfl
  | .dmaDoorbell .. => next_frame_mono execDmaDoorbell_frame rfl rfl
  | .dmaDescriptorStart .. => next_frame_mono execDmaDescriptorStart_frame rfl rfl
  | .dmaDescriptorDone .. => next_frame_mono execDmaDescriptorDone_frame rfl rfl
  | .dmaQueueDisable .. => next_frame_mono execDmaQueueDisable_frame rfl rfl
  | .dmaQueueReset .. => next_frame_mono execDmaQueueReset_frame rfl rfl
  | .qLimitWrite .. => next_frame_mono execQLimitWrite_frame rfl rfl
  | .msixSend .. => next_frame_mono execMsixSend_frame rfl rfl
  | .vecRearm .. => next_frame_mono execVecRearm_frame rfl rfl
  | .msixUnmask .. => next_frame_mono execMsixUnmask_frame rfl rfl
  | .smbRead .. => next_frame_mono execSmbRead_frame rfl rfl
  | .smbWrite .. => next_frame_mono execSmbWrite_frame rfl rfl
  | .smbStatus .. => next_frame_mono execSmbStatus_frame rfl rfl
  | .loadGo .. => next_frame_mono execLoadGo_frame rfl rfl
  | .loadOk => next_frame_mono execLoadOk_frame rfl rfl
  | .loadFail .. => next_frame_mono execLoadFail_frame rfl rfl
  | .provision .. => next_frame_mono execProvision_frame rfl rfl
  | .provisionDone => next_frame_mono execProvisionDone_frame rfl rfl
  | .kekTaken .. => next_frame_mono execKekTaken_frame rfl rfl
  | .challenge .. => next_frame_mono execChallenge_frame rfl rfl
  | .challengeExpiry => next_frame_mono execChallengeExpiry_frame rfl rfl
  | .submit .. => next_frame_mono execSubmit_frame rfl rfl
  | .authUnlock => next_frame_mono execAuthUnlock_frame rfl rfl
  | .authRetire => next_frame_mono execAuthRetire_frame rfl rfl
  | .authRevoke => next_frame_mono execAuthRevoke_frame rfl rfl
  | .authAdvanceSvn => next_frame_mono execAuthAdvanceSvn_frame rfl rfl
  | .lockoutEnd => next_frame_mono execLockoutEnd_frame rfl rfl
  | .relock .. => next_frame_mono execRelock_frame rfl rfl
  | .snap .. => next_frame_mono execSnap_frame rfl rfl
  | .monitorBreach .. => next_frame_mono execMonitorBreach_frame rfl rfl
  | .df2Evaluation .. => next_frame_mono execDf2Evaluation_frame rfl rfl
  | .biasStepSample .. => next_frame_mono execBiasStepSample_frame rfl rfl
  | .clockCheck .. => next_frame_mono execClockCheck_frame rfl rfl
  | .heartbeatTimeout .. => next_frame_mono execHeartbeatTimeout_frame rfl rfl
  | .ueLine .. => next_frame_mono execUeLine_frame rfl rfl
  | .plantIlkChange .. => next_frame_mono execPlantIlkChange_frame rfl rfl
  | .trip => next_frame_mono execTrip_frame rfl rfl
  | .permitLoss => next_frame_mono execPermitLoss_frame rfl rfl
  | .supSupplyFail => next_frame_mono execSupSupplyFail_frame rfl rfl
  | .biasSafeRampStep .. => next_frame_mono execBiasSafeRampStep_frame rfl rfl
  | .disagree .. => next_frame_mono execDisagree_frame rfl rfl
  | .arbitrationDecision .. => next_frame_mono execArbitrationDecision_frame rfl rfl
  | .blankStart .. => next_frame_mono execBlankStart_frame rfl rfl
  | .blankEnd .. => next_frame_mono execBlankEnd_frame rfl rfl
  | .madcSlot .. => next_frame_mono execMadcSlot_frame rfl rfl
  | .madcStart .. => next_frame_mono execMadcStart_frame rfl rfl
  | .madcDone .. => next_frame_mono execMadcDone_frame rfl rfl
  | .madcResultRead .. => next_frame_mono execMadcResultRead_frame rfl rfl
  | .selftestStart .. => next_frame_mono execSelftestStart_frame rfl rfl
  | .selftestPassEnd .. => next_frame_mono execSelftestPassEnd_frame rfl rfl
  | .clrTrip .. => next_frame_mono execClrTrip_frame rfl rfl
  | .monFlagClear .. => next_frame_mono execMonFlagClear_frame rfl rfl
  | .monitorQualify .. => next_frame_mono execMonitorQualify_frame rfl rfl
  | .sensorMeasure .. => next_frame_mono execSensorMeasure_frame rfl rfl
  | .errorReport => next_frame_mono execErrorReport_frame rfl rfl
  | .errAck .. => next_frame_mono execErrAck_frame rfl rfl
  | .portStateChoice .. => next_frame_mono execPortStateChoice_frame rfl rfl
  | .portWakeDone .. => next_frame_mono execPortWakeDone_frame rfl rfl
  | .latTolWrite .. => next_frame_mono execLatTolWrite_frame rfl rfl
  | .dormTolWrite .. => next_frame_mono execDormTolWrite_frame rfl rfl
  | .dormantRestoreDone => next_frame_mono execDormantRestoreDone_frame rfl rfl
  | .energySample .. => next_frame_mono execEnergySample_frame rfl rfl
  | .energySnap .. => next_frame_mono execEnergySnap_frame rfl rfl
  | .energyClear .. => next_frame_mono execEnergyClear_frame rfl rfl
  | .powerOnReset => next_frame_mono execPowerOnReset_frame rfl rfl
  | .systemReset .. => next_frame_mono execSystemReset_frame rfl rfl
  | .softwareReset .. => next_frame_mono execSoftwareReset_frame rfl rfl
  | .endpointReset => next_frame_mono execEndpointReset_frame rfl rfl
  | .permitsRestore => next_frame_mono execPermitsRestore_frame rfl rfl
  | .tapExtest .. => next_frame_mono execTapExtest_frame rfl rfl
  | .tapSamplePreload .. => next_frame_mono execTapSamplePreload_frame rfl rfl
  | .tapIdcode => next_frame_mono execTapIdcode_frame rfl rfl
  | .tapSecAcc .. => next_frame_mono execTapSecAcc_frame rfl rfl
  | .tapBar0Acc .. => next_frame_mono execTapBar0Acc_frame rfl rfl
  | .tapMemAcc .. => next_frame_mono execTapMemAcc_frame rfl rfl
  | .tapBypass => next_frame_mono execTapBypass_frame rfl rfl
  | .refReturn .. => next_frame_mono execRefReturn_frame rfl rfl
  | .cdrLockLoss .. => next_frame_mono execCdrLockLoss_frame rfl rfl
  | .monitorBreachClear .. => next_frame_mono execMonitorBreachClear_frame rfl rfl
  | .trgInGlitch .. => next_frame_mono execTrgInGlitch_frame rfl rfl
  | .bulkPacketStart .. => next_frame_mono execBulkPacketStart_frame rfl rfl
  | .porstNRelease .. => next_frame_mono execPorstNRelease_frame rfl rfl
  | .reqReserved .. => next_frame_mono execReqReserved_frame rfl rfl

/-- No command's footprint holds the queue, and only REEL_ADVANCE's holds the tick. -/
theorem parts_exclude_queue_and_tick (c : Instr) : Laws.TimeAndQueue.Statement c := by
  cases c with
  | reelAdvance => exact Laws.TimeAndQueue.reelAdvance
  | _ => exact ⟨rfl, fun _ => rfl⟩

/-- Settles O6: the queue and the tick lie outside the footprint within which each command completes. -/
theorem queueAndTick : Obligations.QueueAndTick := by
  intro c s
  obtain ⟨t, ht, hf⟩ := exec_frame c s
  obtain ⟨hqueue, htick⟩ := parts_exclude_queue_and_tick c
  exact ⟨t, ht, hf.same .pending (by simpa using hqueue), fun hc => hf.same .tick (by simpa using htick hc)⟩

/-! ### What a write by access types leaves in its register -/

/-- A written bit takes the new value where it is writable and keeps the old one elsewhere; a 1 written to a W1C bit clears it
unless hardware has just set it, and a 1 written to a W1S bit sets it (R6, R8). -/
theorem getLsbD_writtenValue {rwl keepSet old : Word} {i : Nat} (hi : i < 32) :
    (writtenValue d rwl keepSet old v).getLsbD i =
      (((if (d.rw.getLsbD i || rwl.getLsbD i) = true then v.getLsbD i else old.getLsbD i) &&
        !(v.getLsbD i && d.w1c.getLsbD i && !keepSet.getLsbD i)) || (v.getLsbD i && d.w1s.getLsbD i)) := by
  simp only [writtenValue, BitVec.getLsbD_or, BitVec.getLsbD_and, BitVec.getLsbD_not, hi, decide_true, Bool.true_and]
  cases d.rw.getLsbD i || rwl.getLsbD i <;> simp

/-- An offset without an action is no element of any action's registers. -/
theorem index_eq_none_of_writeActionAt {l : List WriteAction} (h : writeActionAt off l = none) : ∀ a ∈ l, a.index off = none := by
  induction l with
  | nil => simp
  | cons a l ih =>
    unfold writeActionAt at h
    split at h
    · cases h
    · rename_i ha
      exact List.forall_mem_cons.mpr ⟨ha, ih h⟩

/-- The bits that always read 1 stand in SUP_TS_CFG, whose writes have an action of their own. -/
theorem fixedOnes_eq_zero (h : writeActionAt off writeActions = none) : fixedOnes off = 0#32 := by
  have hts : (writeActions[15]).index off = none := index_eq_none_of_writeActionAt h _ (List.getElem_mem _)
  have hout : ¬(Reg.SUP_TS_CFG 0 ≤ off ∧ (off - Reg.SUP_TS_CFG 0) % 0x20 = 0 ∧ (off - Reg.SUP_TS_CFG 0) / 0x20 < 16) := by
    rintro ⟨hbase, hmod, hdiv⟩
    change WriteAction.index ⟨Reg.SUP_TS_CFG 0, 0x20, 24, 4, 1, _⟩ off = none at hts
    simp [WriteAction.index, hbase, hmod, show (off - Reg.SUP_TS_CFG 0) / 0x20 < 24 by omega] at hts
  simp [fixedOnes, elem, hout]

/-- The registers that a refusal or the taint of a configuration touches hold no RWL bits. -/
theorem rwl_eq_zero_of_inRows (hd : regDesc off = some d)
    (ho : inRows (some (refusalRows ++ [.SEC_EVENT, .SEC_STATUS])) off) : d.rwl = 0 := by
  have hall : ∀ o ∈ [Reg.HIF_EVENT, Reg.HIF_WR_REF, Reg.HIF_WR_REF_ADDR_HI, Reg.HIF_WR_REF_ADDR_LO, Reg.SEC_EVENT, Reg.SEC_STATUS],
      (regDesc o).map RegDesc.rwl = some 0 := by decide +kernel
  have hmem := hall off (by simpa [inRows, refusalRows, RegRow.has] using ho)
  simpa [hd] using hmem

@[simp] theorem rwlLocked_answer {st : RespStatus} {w : Word} : (s.answer st w).rwlLocked = s.rwlLocked := rfl

@[simp] theorem checkBlocks_answer {st : RespStatus} {w : Word} : (s.answer st w).checkBlocks off = s.checkBlocks off := rfl

theorem State.Wf.answer {st : RespStatus} {w : Word} (h : s.Wf) : (s.answer st w).Wf := State.answer_frame.sound h

theorem rd_noteSet {o : Nat} {ones fresh : Word} : (noteSet off ones fresh s).rd o = s.rd o :=
  noteSet_frame.regs o (by simp [inRows])

/-- The write-refused indication changes no register that holds RWL bits. -/
theorem rd_wrRefused_of_rwl {src q a : Nat} (hd : regDesc off = some d) (hrwl : d.rwl ≠ 0) :
    (wrRefused src q a s).rd off = s.rd off :=
  wrRefused_frame.regs off fun ho => hrwl (rwl_eq_zero_of_inRows hd (inRows_le (by rfl) ho))

/-- The taint of a configuration changes no register that holds RWL bits. -/
theorem rd_taint_of_rwl (hd : regDesc off = some d) (hrwl : d.rwl ≠ 0) : (taint s).rd off = s.rd off :=
  taint_frame.regs off fun ho => hrwl (rwl_eq_zero_of_inRows hd (inRows_le (by rfl) ho))

/-- After a write by access types the register holds the written value, RWL bits taking part where they are not locked. -/
theorem rd_writeFields {src : Nat} (h : s.Wf) (hd : regDesc off = some d) :
    (writeFields src off d v s).rd off =
      writtenValue d (if s.rwlLocked then 0 else d.rwl) (sget (fun _ => 0) s.evSet off) (s.rd off) v ||| fixedOnes off := by
  have hrwl (hdiff : ((s.rd off ^^^ v) &&& d.rwl != 0) = true) : d.rwl ≠ 0 := fun h0 => by simp [h0] at hdiff
  unfold writeFields
  dsimp only
  split
  · rename_i hdiff
    split
    · rw [rd_wrRefused_of_rwl hd (hrwl hdiff), rd_noteSet, rd_wr_same h]
    · rw [rd_taint_of_rwl hd (hrwl hdiff), rd_noteSet, rd_wr_same h]
  · rw [rd_noteSet, rd_wr_same h]

/-- Where RWL fields are not locked, a write by access types leaves the answer as it is. -/
theorem resp_writeFields {src : Nat} (hl : s.rwlLocked = false) : (writeFields src off d v s).resp = s.resp := by
  have hnote (u : State) (o : Nat) (a b : Word) : (noteSet o a b u).resp = u.resp := noteSet_frame.same .resp (by decide)
  have htaint (u : State) : (taint u).resp = u.resp := taint_frame.same .resp (by decide)
  unfold writeFields
  dsimp only
  rw [hl]
  split
  · exact (htaint _).trans (hnote ..)
  · exact hnote ..

theorem accepts_iff : s.accepts p off = true ↔ s.mayWrite p off = true ∧ s.checkBlocks off = false := by
  simp [State.accepts]

/-- A register with no action and no pair is written by its access types. -/
theorem writeBar0_eq_writeFields (ha : off % 4 = 0) (hd : regDesc off = some d) (hh : d.half = .none)
    (hn : writeActionAt off writeActions = none) (hacc : s.accepts p off = true) :
    writeBar0 p off v s = writeFields (pathSrc p) off d v (s.answer .ok) := by
  obtain ⟨hw, hc⟩ := accepts_iff.mp hacc
  have hone : writeOne p off v s = plainWrite p off v s := by simp only [writeOne, hn]
  simp [writeBar0, ha, hd, hh, hone, plainWrite, hw, hc]

/-- Settles O7: the register then holds `writtenValue`, read off bit by bit. -/
theorem registerWriteByAccessType : Obligations.RegisterWriteByAccessType := by
  intro s hs path off v d ha hd hh hn hacc hl
  refine ⟨_, rfl, ?_⟩
  rw [writeBar0_eq_writeFields ha hd hh hn hacc]
  refine ⟨resp_writeFields hl, fun i => ?_⟩
  rw [rd_writeFields hs.answer hd, fixedOnes_eq_zero hn, rwlLocked_answer, hl, answer_evSet, rd_answer, BitVec.or_zero,
    getLsbD_writtenValue i.isLt]
  refine ⟨fun hc h1 => ?_, fun hc hrw hrwl h1 => ?_, fun h1 hrw hrwl hc => ?_⟩
  · simp [-BitVec.getLsbD_eq_getElem, hc, h1]
  · simp [-BitVec.getLsbD_eq_getElem, hc, hrw, hrwl, h1]
  · simp [-BitVec.getLsbD_eq_getElem, hc, hrw, hrwl, h1]

/-! ### Locked fields -/

/-- The write-refused indication sets HIF_EVENT.WR_REFUSED (R386). -/
theorem fld_wrRefused {src q a : Nat} (h : s.Wf) : (wrRefused src q a s).fld Fld.HIF_EVENT_WR_REFUSED = 1 := by
  have hu : (if src = 6 then s.answer .refused else s).Wf := by
    split
    · exact h.answer
    · exact h
  unfold wrRefused
  dsimp only
  generalize (if src = 6 then s.answer .refused else s) = u at hu ⊢
  have hcounted : ((u.raise Fld.HIF_EVENT_WR_REFUSED).count Fld.HIF_WR_REF_COUNT).fld Fld.HIF_EVENT_WR_REFUSED = 1 := by
    rw [State.count, fld_put_other (by decide), fld_raise, fld_put_same hu (by decide)]
    rfl
  split
  · exact hcounted
  · rw [fld_raise, fld_put_other (by decide), State.wr64, fld_wr_other (by decide), fld_wr_other (by decide),
      fld_put_other (by decide), fld_put_other (by decide)]
    exact hcounted

/-- A write that would change a locked bit is reported (R7). -/
theorem fld_writeFields_refused {src : Nat} (h : s.Wf) (hl : s.rwlLocked = true)
    (hdiff : (s.rd off ^^^ v) &&& d.rwl ≠ 0) : (writeFields src off d v s).fld Fld.HIF_EVENT_WR_REFUSED = 1 := by
  unfold writeFields
  dsimp only
  rw [if_pos (by simpa using hdiff), if_pos hl]
  exact fld_wrRefused (noteSet_frame.sound h.wr)

/-- Settles O9: with no RWL bit taking part, only RW bits take the written value. -/
theorem rwlFieldsAreLocked : Obligations.RwlFieldsAreLocked := by
  intro s hs path off v d ha hd hh hn hacc hl
  refine ⟨_, rfl, ?_⟩
  rw [writeBar0_eq_writeFields ha hd hh hn hacc]
  refine ⟨fun i hc h1 => ?_,
    fun hdiff => fld_writeFields_refused hs.answer (by rwa [rwlLocked_answer]) (by rwa [rd_answer])⟩
  rw [rd_writeFields hs.answer hd, fixedOnes_eq_zero hn, rwlLocked_answer, hl, BitVec.or_zero, getLsbD_writtenValue i.isLt]
  simp [-BitVec.getLsbD_eq_getElem, hc, h1]

/-! ### Pairs and refused accesses -/

theorem sget_hold_same {k : Nat} {w : Option Word} (h : s.Wf) : sget (fun _ => none) (s.hold k w).heldRd k = w :=
  sget_sset_same (h.parts .held).1

theorem sget_hold_other {k k' : Nat} {w : Option Word} (hk : k' ≠ k) :
    sget (fun _ => none) (s.hold k w).heldRd k' = sget (fun _ => none) s.heldRd k' := sget_sset_other hk

/-- A granted aligned read answers with the register's value, after the read's effect. -/
theorem readBar0_granted (ha : off % 4 = 0) (hr : s.mayRead p off = true) :
    readBar0 p off s = (readEffect p off s).answer .ok (s.readValue p off) := by
  simp [readBar0, ha, hr]

/-- TLN_REEL_FRAC is no half of a pair. -/
theorem ne_reelFrac_of_lo (hd : regDesc off = some d) (hh : d.half = .lo) : off ≠ Reg.TLN_REEL_FRAC := by
  rintro rfl
  have hnone : (regDesc Reg.TLN_REEL_FRAC).map RegDesc.half = some .none := by decide +kernel
  simp [hd, hh] at hnone

theorem readValue_of_lo (hd : regDesc off = some d) (hh : d.half = .lo) : s.readValue p off = s.live off := by
  simp [State.readValue, hd, hh, ne_reelFrac_of_lo hd hh]

theorem readValue_of_hi (hd : regDesc off = some d) (hh : d.half = .hi) :
    s.readValue p off = (sget (fun _ => none) s.heldRd (pairKey p (off - 4))).getD (s.live off) := by
  simp [State.readValue, hd, hh]

theorem readEffect_of_lo (hd : regDesc off = some d) (hh : d.half = .lo)
    (he : elem off (Reg.SUP_MADC_RESULT 0) 0x10 2 = none) :
    readEffect p off s =
      if off = Reg.TLN_REEL_NS_LO then
        (s.hold (pairKey p off) (some (s.live (off + 4)))).hold (pairKey p Reg.TLN_REEL_FRAC) (some (s.live Reg.TLN_REEL_FRAC))
      else s.hold (pairKey p off) (some (s.live (off + 4))) := by
  simp [readEffect, he, hd, hh]

theorem readEffect_of_hi (hd : regDesc off = some d) (hh : d.half = .hi)
    (he : elem off (Reg.SUP_MADC_RESULT 0) 0x10 2 = none) : readEffect p off s = s.hold (pairKey p (off - 4)) none := by
  simp [readEffect, he, hd, hh]

theorem State.Wf.hold {k : Nat} {w : Option Word} (h : s.Wf) : (s.hold k w).Wf := State.hold_frame.sound h

theorem pairKey_ne {a b : Nat} (h : a ≠ b) : pairKey p a ≠ pairKey p b := fun he => h (Nat.add_left_cancel he)

/-- A read of a `_LO` register gives the live word and captures the live `_HI`, and the reel's fraction with its low word (R10). -/
theorem readBar0_captures (h : s.Wf) (ha : off % 4 = 0) (hd : regDesc off = some d)
    (hr : s.mayRead p off = true) (hh : d.half = .lo) (he : elem off (Reg.SUP_MADC_RESULT 0) 0x10 2 = none) :
    (readBar0 p off s).resp = ⟨.ok, s.live off, [], [], []⟩ ∧ (readBar0 p off s).regs = s.regs ∧
      sget (fun _ => none) (readBar0 p off s).heldRd (pairKey p off) = some (s.live (off + 4)) ∧
      (off = Reg.TLN_REEL_NS_LO →
        sget (fun _ => none) (readBar0 p off s).heldRd (pairKey p Reg.TLN_REEL_FRAC) = some (s.live Reg.TLN_REEL_FRAC)) := by
  rw [readBar0_granted ha hr, readValue_of_lo hd hh, readEffect_of_lo hd hh he]
  refine ⟨rfl, ?_⟩
  split
  · refine ⟨rfl, ?_, fun _ => sget_hold_same h.hold⟩
    exact (sget_hold_other (pairKey_ne (ne_reelFrac_of_lo hd hh))).trans (sget_hold_same h)
  · rename_i hoff
    exact ⟨rfl, sget_hold_same h, fun heq => absurd heq hoff⟩

/-- A read of a `_HI` register gives the captured word, or with none the live one, and releases it (R11). -/
theorem readBar0_releases (h : s.Wf) (ha : off % 4 = 0) (hd : regDesc off = some d)
    (hr : s.mayRead p off = true) (hh : d.half = .hi) (he : elem off (Reg.SUP_MADC_RESULT 0) 0x10 2 = none) :
    (readBar0 p off s).regs = s.regs ∧
      (readBar0 p off s).resp =
        ⟨.ok, (sget (fun _ => none) s.heldRd (pairKey p (off - 4))).getD (s.live off), [], [], []⟩ ∧
      sget (fun _ => none) (readBar0 p off s).heldRd (pairKey p (off - 4)) = none := by
  rw [readBar0_granted ha hr, readValue_of_hi hd hh, readEffect_of_hi hd hh he]
  exact ⟨rfl, rfl, sget_hold_same h⟩

/-- A gated action runs on a write that reaches its register. -/
theorem gated_of_accepts {act : State → State} (hacc : s.accepts p off = true) : gated p off act s = act (s.answer .ok) := by
  obtain ⟨hw, hc⟩ := accepts_iff.mp hacc
  simp [gated, hw, hc]

/-- A path's held `_LO` write is set or released (R12), as `State.hold` does with captured `_HI` words. -/
def State.holdWr (s : State) (key : Nat) (w : Option Word) : State := { s with heldWr := sset (fun _ => none) s.heldWr key w }

theorem State.Wf.holdWr {k : Nat} {w : Option Word} (h : s.Wf) : (s.holdWr k w).Wf :=
  Frame.sound (rows := none) (parts := [.held]) (Frame.heldWr Frame.refl rfl fun hx => ⟨hx.1, sparseWf_sset hx.2⟩) h

theorem sget_holdWr_same {k : Nat} {w : Option Word} (h : s.Wf) : sget (fun _ => none) (s.holdWr k w).heldWr k = w :=
  sget_sset_same (h.parts .held).2

theorem holdLo_eq : holdLo p off v s = gated p off (fun s => s.holdWr (pairKey p off) (some v)) s := rfl

theorem commitHi_eq : commitHi p off d v s = gated p off (fun s =>
    commitPair p (off - 4) d ((sget (fun _ => none) s.heldWr (pairKey p (off - 4))).getD (s.rd (off - 4))) v
      (s.holdWr (pairKey p (off - 4)) none)) s := rfl

/-- A write of a writable `_LO` register is held and changes no register (R12). -/
theorem writeBar0_holds (h : s.Wf) (ha : off % 4 = 0) (hd : regDesc off = some d) (hh : d.half = .lo) (hrw : d.rw ||| d.rwl ≠ 0)
    (hacc : s.accepts p off = true) :
    (writeBar0 p off v s).regs = s.regs ∧ sget (fun _ => none) (writeBar0 p off v s).heldWr (pairKey p off) = some v := by
  have heq : writeBar0 p off v s = holdLo p off v s := by
    simp only [writeBar0, ha, hd, hh, hrw, ne_eq, not_true_eq_false, if_false]
  rw [heq, holdLo_eq, gated_of_accepts hacc]
  exact ⟨rfl, sget_holdWr_same h.answer⟩

/-- Where every bit of a pair is RW, its two words take the two values. -/
theorem writePair_of_rw {src lo : Nat} {vl vh : Word} (hrw : d.rw = 0xFFFFFFFF) (hrwl : d.rwl = 0) :
    writePair src lo d vl vh s = (s.wr lo vl).wr (lo + 4) vh := by
  have hall : d.rw = BitVec.allOnes 32 := hrw
  simp [-BitVec.reduceAllOnes, writePair, hall, hrwl]

/-- A write of a `_HI` register gives both halves their value, the low one what its path holds for it (R12). -/
theorem writeBar0_commits (h : s.Wf) (ha : off % 4 = 0) (hd : regDesc off = some d) (hh : d.half = .hi) (hrw : d.rw = 0xFFFFFFFF)
    (hrwl : d.rwl = 0) (hacc : s.accepts p off = true) (h4 : 4 ≤ off) (hbob : elem (off - 4) (Reg.BOB_RD_LO 0) 0x100 32 = none)
    (hring : elem (off - 4) (Reg.HIF_Q_RING_LO 0) 0x40 64 = none) (hcpl : elem (off - 4) (Reg.HIF_Q_CPL_LO 0) 0x40 64 = none) :
    (writeBar0 p off v s).rd off = v ∧
      (writeBar0 p off v s).rd (off - 4) =
        (sget (fun _ => none) s.heldWr (pairKey p (off - 4))).getD (s.rd (off - 4)) ∧
      sget (fun _ => none) (writeBar0 p off v s).heldWr (pairKey p (off - 4)) = none := by
  have heq : writeBar0 p off v s = commitHi p off d v s := by simp [writeBar0, ha, hd, hh, hrw, hrwl]
  have hwf : ((s.answer .ok).holdWr (pairKey p (off - 4)) none).Wf := h.answer.holdWr
  rw [heq, commitHi_eq, gated_of_accepts hacc]
  simp only [commitPair, hbob, hring, hcpl, writePair_of_rw hrw hrwl, Nat.sub_add_cancel h4]
  refine ⟨rd_wr_same hwf.wr, ?_, sget_holdWr_same h.answer⟩
  rw [rd_wr_other (by omega), rd_wr_same hwf, answer_heldWr, rd_answer]

/-- An access of a bad form raises HIF_EVENT.UR and touches no other register (R3). -/
theorem unsupported_refuses (h : s.Wf) (hrel : s.glb.released = true) :
    (unsupported s).resp.status = .unsupported ∧ (unsupported s).fld Fld.HIF_EVENT_UR = 1 ∧
      OnlyRegs [Reg.HIF_EVENT] s (unsupported s) := by
  refine ⟨?_, ?_, fun off hoff => unsupported_frame.regs off (by simpa [inRows, RegRow.has] using hoff)⟩
  · simp [unsupported, hrel, State.answer]
  · rw [unsupported, if_pos hrel]
    exact fld_raise.trans (fld_put_same h (by decide))

/-- Settles O10: one lemma for each kind of access. -/
theorem pairsAndBadAccess : Obligations.PairsAndBadAccess := by
  intro s hs
  refine ⟨?_, ?_, ?_, ?_, ?_⟩
  · intro path off d ha hd hr hh he
    exact ⟨_, rfl, readBar0_captures hs ha hd hr hh he⟩
  · intro path off d ha hd hr hh he
    exact ⟨_, rfl, readBar0_releases hs ha hd hr hh he⟩
  · intro path off v d ha hd hh hrw hacc
    exact ⟨_, rfl, writeBar0_holds hs ha hd hh hrw hacc⟩
  · intro path off v d ha hd hh hrw hrwl hacc h4 hbob hring hcpl
    exact ⟨_, rfl, writeBar0_commits hs ha hd hh hrw hrwl hacc h4 hbob hring hcpl⟩
  · intro hrel
    exact ⟨_, rfl, unsupported_refuses hs hrel⟩

/-! ### Hardware's clearing of W1S bits, and the state after reset -/

/-- Settles O8: `State.drop` keeps a field of which a bit was written 1 in this tick, and clears it otherwise. -/
theorem hardwareClearKeepsWrittenBit : Obligations.HardwareClearKeepsWrittenBit := by
  intro s f hs hf
  refine ⟨fun hset => by rw [drop_kept hset], fun hclear => ?_⟩
  rw [drop_eq hclear, fld_put_same hs hf, Nat.zero_mod]

/-- Settles O59: after power-on reset a register reads what `regReset` gives its offset, and every memory is empty. -/
theorem resetValues : Obligations.ResetValues := by
  refine ⟨?_, ?_, ?_, ?_, ?_, ?_, ?_, ?_, ?_, ?_, ?_, ?_, ?_, ?_, ?_, ?_, ?_, ?_, fun _ => ⟨rfl, rfl⟩, ?_, rfl⟩
  all_goals decide +kernel

end Sys2Proof.Machine
end
